-- ==== Sys2Proof/Word.lean ====
section
/-!
DEFINITION. The word types of the TM-4A24 and their plainest arithmetic: bit fields (R3), byte order (R2), saturation.
-/

namespace Sys2Proof

/-- One byte of memory, flash or a frame. -/
abbrev Byte := BitVec 8

/-- One 32-bit register value of the Control Register Space (R9). -/
abbrev Word := BitVec 32

/-- One 10-bit symbol of a Darenlen line; its most significant bit is bit a, the bit sent first (R440). -/
abbrev LineSymbol := BitVec 10

/-- One 64-bit stamp or memory word. -/
abbrev DWord := BitVec 64

/-- Bits `[lo + w - 1 : lo]` of a number (R3). -/
def bitsOf (n lo w : Nat) : Nat := n / 2 ^ lo % 2 ^ w

/-- One bit of a number. -/
def bitOf (n i : Nat) : Bool := n / 2 ^ i % 2 == 1

/-- 1 or 0. -/
def b2n (b : Bool) : Nat := if b then 1 else 0

/-- `n` capped at `m`: a saturating counter's value. -/
def satN (n m : Nat) : Nat := if n ≤ m then n else m

/-- The two's complement value of the low `w` bits of `n`. -/
def signedOf (n w : Nat) : Int :=
  let m := n % 2 ^ w
  if m < 2 ^ (w - 1) then (m : Int) else (m : Int) - (2 ^ w : Nat)

/-- The `w`-bit two's complement code of an integer. -/
def unsignedOf (x : Int) (w : Nat) : Nat := (x % ((2 ^ w : Nat) : Int)).toNat

/-- An integer held between two bounds. -/
def clampI (lo hi x : Int) : Int := if x < lo then lo else if hi < x then hi else x

/-- The bytes of a number, least significant first (R2). -/
def leBytes : Nat → Nat → List Byte
  | 0, _ => []
  | k + 1, n => BitVec.ofNat 8 n :: leBytes k (n / 256)

/-- The number that bytes spell, least significant first (R2). -/
def ofLeBytes : List Byte → Nat
  | [] => 0
  | b :: bs => b.toNat + 256 * ofLeBytes bs

/-- `l` with element `i` replaced, unchanged when `i` is out of range. -/
def listSet {α : Type} (l : List α) (i : Nat) (a : α) : List α := l.set i a

/-- `l` with element `i` passed through `f`. -/
def listMod {α : Type} (l : List α) (i : Nat) (f : α → α) : List α :=
  match l[i]? with
  | some a => l.set i (f a)
  | none => l

/-- The numbers of the bits set in the low `w` bits of `n`, rising. -/
def setBits (n w : Nat) : List Nat := (List.range w).filter (fun i => bitOf n i)

end Sys2Proof
end

