-- ==== Sys2Proof/Syntax.lean ====
section
/-!
DEFINITION. The commands of the TM-4A24 model: the operand types and `Instr`, one constructor per row of
spec/opcode_table.json.
-/

namespace Sys2Proof

/-- A data head h, 0 to 23 (R6, R8). -/
abbrev Head := Fin 24

/-- An actuator a, 0 to 3. -/
abbrev Act := Fin 4

/-- An NVMe controller or a PCIe port. -/
abbrev Ctrl := Fin 2

/-- A CLE loop n, 0 to 29. -/
abbrev LoopN := Fin 30

/-- A Convoy engine. -/
abbrev Eng := Fin 4

/-- A Convoy channel of an engine. -/
abbrev Chan := Fin 32

/-- A compressor or decompressor lane. -/
abbrev Lane := Fin 8

/-- A slot of the shared command table, 0 to 8,191 (R301). -/
abbrev Slot := Nat

/-- The CRS access paths with a holding copy of their own (R17). -/
inductive Path
  | core | win0 | win1 | debug
  deriving DecidableEq, Repr

/-- The units that can be reset alone (Table 16-3). -/
inductive CUnit
  | ch (h : Nat) | dec (n : Nat) | seq (a : Nat) | cle | spn | dep | cvy (e : Nat) | comp (n : Nat) | decomp (n : Nat)
  | rte
  deriving DecidableEq, Repr


/-- What the readers and the detector give over one sector: the ADC codes of readers A, B and C, −64 to 63, one a channel
bit from position 0 on; the gain moves of the preamble for A, B and C; the moves of the codeword for gain, offset and
asymmetry of A, B, C; the moves of the interpolator phases in 1/64 bit; the hard decisions of the sector, bit b at position
b; and the LLRs of the codeword widened by 66 bits on each side. The adaptation laws of gain, offset, asymmetry and phase
and the trellis are not in the manual (R82 to R84, R95, R96, R101). -/
structure FrontEnd where
  adc : List (List Int)
  preGain : List Int
  moves : List Int
  phase : List Int
  hard : Nat
  llr : List Int
  deriving DecidableEq, Repr

/-- What a head's demodulator recovers around one servo wedge from reader A's samples: the stream of servo bits, bit i of the
number being the stream's bit i; the time from the end of bit 512 to the end of demodulation, in ns; and the ADC values of the
middle 12 servo bits of the bursts A to D, −64 to 63 (R163, R167, R169). -/
structure WedgeObs where
  bits : Nat
  ago : Nat
  bursts : List (List Int)
  deriving DecidableEq, Repr

/-- What the bitstreams of the spindle port hold over the window centred on the midpoint of a PWM period: 190 bits each, the
newest in bit 0: phase currents U and V, bus voltage, terminal voltages U, V and W (R218, R220). -/
structure SpnObs where
  isu : Nat
  isv : Nat
  vsd : Nat
  vtu : Nat
  vtv : Nat
  vtw : Nat
  deriving DecidableEq, Repr

/-- What the SPDREF ball shows: in mode 1 the latest 16 codes of its 12-bit converter, in modes 2 and 3 its latest edges,
oldest first, each with its moment in ns and whether it rises (Table 9-7). -/
inductive SpdSignal
  | codes (xs : List Nat)
  | edges (es : List (Nat × Bool))
  deriving DecidableEq, Repr

/-- What a band decoder measures over one frame of a reference input: the displacement of the transition of each slot in
Tether clocks (none: no transition within 16 clocks), each slot's amplitude in 1/256 of full scale, the RMS slot phase
error over the last 64 frames in 1/256 clock, and the single-frame skew in 1/256 clock where both inputs give one (R59,
R67). -/
structure BandFrame where
  slots : List (Option Int)
  amps : List Nat
  rms : Nat
  skew : Option Nat
  deriving DecidableEq, Repr

/-- A submission queue entry: opcode, PSDT, command identifier, namespace identifier and CDW10 to CDW15. -/
structure Sqe where
  opc : Nat
  psdt : Nat
  cid : Nat
  nsid : Nat
  dw : List Nat
  deriving DecidableEq, Repr

/-- How the data pointer of a command turns out when its data is moved, and the data that arrives from host memory: 0
good, 1 PRP Offset Invalid, 2 SGL Descriptor Type Invalid, 3 Invalid SGL Segment Descriptor, 4 a Convoy descriptor ended
bad (R304). `pi` is the Protection Information check of the data: 0 good, 1 guard, 2 application tag, 3 reference tag. -/
structure Xfer where
  dptr : Nat
  data : List Byte
  pi : Nat
  deriving DecidableEq, Repr

/-- The port events of R291. -/
inductive PortReset
  | flr | hot | secondary | linkDown
  deriving DecidableEq, Repr

/-- The triggers of a mode transition that no command row of its own raises (R40, Table 2-3): the Manifest's start policy,
and a host path that locks in WORKSHOP. -/
inductive ModeTrigger
  | policy | pathLocked
  deriving DecidableEq, Repr

/-- The commands: one constructor per row of spec/opcode_table.json, with the row's operands. What the environment
measures, answers or decides at an event is the event's operand. -/
inductive Instr where
  /-- CRS_WRITE (R10): A write to a CRS register that has no row of its own takes effect or is discarded according to its access code and access path. -/
  | crsWrite (path : Path) (addr : Nat) (size : Nat) (value : Word)
  /-- CRS_ACCESS_TIMEOUT (R22): An access to a unit that does not answer completes at 1 µs: a read returns zero, a write is discarded, and TIMEOUT sets. -/
  | crsAccessTimeout (path : Path) (addr : Nat) (write : Bool)
  /-- RC_REGISTER_READ (R11): A read that returns any byte of an RC register clears every RC field of that register. -/
  | rcRegisterRead (path : Path) (addr : Nat) (size : Nat)
  /-- STAMP_LO_READ (R17): A read of a NAME_LO register captures bits [63:32] into the holding copy of the access path. -/
  | stampLoRead (path : Path) (addr : Nat)
  /-- STAMP_HI_READ (R17): A read of a NAME_HI register returns and consumes the holding copy, or returns the live value when no copy is held. -/
  | stampHiRead (path : Path) (addr : Nat)
  /-- TB_ALIGN_CHECK (R30): Every 1,048,576 ns TTH compares each time-base copy with the master. -/
  | tbAlignCheck (drift : List Int)
  /-- COMMAND_FETCH (R32): A submission entry enters the shared command table and takes its fetch stamp; a tie goes to the controller refused in the last tie. -/
  | commandFetch (offer0 : Option Sqe) (offer1 : Option Sqe)
  /-- POWER_GOOD (R471): All rails have been in range for 2 ms: power-on reset is released, the time base starts from 0 and GPIO0 is sampled.
  `gpio`: the levels at the GPIO balls; `pair0`, `pair1`: the pairs' self-tests; `rails`: the lowest and highest reading of
  each rail over the last 2 ms in mV, in the order of Table 20-8. -/
  | powerGood (gpio : Word) (pair0 : Bool) (pair1 : Bool) (rails : List (Nat × Nat) := [])
  /-- POWER_DOMAIN_UP (R49): The next power domain is powered at least 50 µs after the one before it. -/
  | powerDomainUp
  /-- UNDER_VOLTAGE (R471): A rail reads below its minimum on 2 consecutive samples; this is D of POWER and a supply-loss declaration.
  `mv0`, `mv1`: two consecutive readings of the rail in mV. -/
  | underVoltage (rail : Fin 7) (mv0 : Nat := 0) (mv1 : Nat := 0)
  /-- POWER_ON_RESET (R471): A rail more than 4 % below its minimum for 1 µs asserts power-on reset, and all state except the NOR is lost.
  `mv`: consecutive readings of the rail in mV, one each 10 ns. -/
  | powerOnReset (rail : Fin 7 := 0) (mv : List Nat := [])
  /-- SET_FEATURES_DEVICE_MODE (R41): Set Features 0xC0 checks the requested mode and AUTOSPIN and sets the operating mode and target. -/
  | setFeaturesDeviceMode (slot : Slot)
  /-- GET_FEATURES_DEVICE_MODE (R41): Get Features 0xC0 returns SYS_MODE[11:0] in Dword 0. -/
  | getFeaturesDeviceMode (slot : Slot)
  /-- MODE_TRANSITION_TRIGGER (R40): A new transition trigger sets the target and continues, by precedence, after the step in progress. -/
  | modeTransitionTrigger (trig : ModeTrigger)
  /-- MODE_STEP_COMPLETE (R38): One step of a mode transition ends (load, unload, destage, run-up or braking) and the next step or mode entry follows. -/
  | modeStepComplete
  /-- JUNCTION_TEMP_READ (R44): Every 10 ms the junction sensor is read and the limit TJ_HOT is checked. -/
  | junctionTempRead (tj : Nat)
  /-- ENV_SENSOR_POLL (R44): Every second the enabled environmental sensors are read over I2C and ENV_HOT is checked. -/
  | envSensorPoll (readings : List (Option Int))
  /-- TEMPERATURE_CAP_RELEASE (R44): After both temperatures stay 5 °C below their limits for 10 s, the cap is removed. -/
  | temperatureCapRelease
  /-- ONDEMAND_TIMEOUT (R46): After ONDEMAND_RET without I/O, on-demand service returns to the operating mode. -/
  | ondemandTimeout
  /-- AUTONOMOUS_PS_TRANSITION (R45): An idle time from the host's transition table expires and the power state changes. -/
  | autonomousPsTransition (ctrl : Ctrl)
  /-- SPINUP_TIMEOUT (R53): At 25 s without reaching speed, firmware writes BRAKE and the spin-up fails with REASON 0x08. -/
  | spinupTimeout
  /-- ACTUATOR_LOAD_START (R54): The load of the next actuator starts 200 ms after the load start of the one before it. -/
  | actuatorLoadStart
  /-- CC_ENABLE (R52): A CC.EN write from 0 to 1 after BOOT exit checks CC and sets CSTS.RDY within 20 ms. -/
  | ccEnable (ctrl : Ctrl) (cc : Word) (aqa : Word)
  /-- CONTROLLER_RESET (R331): CC.EN changes from 1 to 0: in-flight commands are discarded, queues are lost and cached writes are kept. -/
  | controllerReset (ctrl : Ctrl) (cc : Word)
  /-- CONTROLLER_RESET_DONE (R332): When no Convoy transfer is under way and all slots are free, CSTS.RDY reads 0. -/
  | controllerResetDone (ctrl : Ctrl)
  /-- PCIE_PORT_RESET (R291): FLR, hot reset or the link leaving DL_Active acts on that port's controller as a controller reset and sets LINK_DOWN. -/
  | pciePortReset (port : Ctrl) (kind : PortReset)
  /-- PERST_LOW (R468): PERSTn_N low acts on its port as a controller reset. -/
  | perstLow (port : Ctrl)
  /-- LINK_TRAINING_START (R290): Link training of a port starts in the window of Table 2-12 after PERSTn_N rises. -/
  | linkTrainingStart (port : Ctrl)
  /-- CONTROLLER_SHUTDOWN (R297): A CC.SHN write starts a normal or abrupt shutdown: fetching stops, commands finish and cached writes are destaged. -/
  | controllerShutdown (ctrl : Ctrl) (cc : Word)
  /-- SHUTDOWN_COMPLETE (R297): The destage ends and SHST becomes 10b; when every controller has done so, the device moves to PARKED. -/
  | shutdownComplete (ctrl : Ctrl)
  /-- ABRUPT_SHUTDOWN_TIMEOUT (R297): At 2 s after an abrupt shutdown, writes not yet destaged become deferred write errors. -/
  | abruptShutdownTimeout (ctrl : Ctrl)
  /-- NVM_SUBSYSTEM_RESET (R298): A write of 0x4E56_4D65 to NSSR resets both controllers. -/
  | nvmSubsystemReset (ctrl : Ctrl) (value : Word)
  /-- TTH_ENABLE (R62): Writing EN = 1 starts acquisition in SEARCH, or in WREADY when WEDGE = 1. -/
  | tthEnable (path : Path) (value : Word)
  /-- TTH_DISABLE (R69): Writing EN = 0 in LOCKED or WLOCKED acts as a loss without setting LOSS and enters OFF; in other states it enters OFF at once. -/
  | tthDisable (path : Path) (value : Word)
  /-- TETHER_FREQUENCY_FOUND (R62): The slot rate comes within ±0.05 % of the PLL frequency and TTH enters PHASE. -/
  | tetherFrequencyFound (input : Fin 2) (slotHz : Nat) (pllHz : Nat)
  /-- TETHER_FRAME (R59): A band frame is decoded on a reference input and judged valid and in sequence. -/
  | tetherFrame (input : Fin 2) (frame : BandFrame)
  /-- TTH_SELECT_REQUEST (R68): A write to TTH_CTRL.SELECT requests T0 or T1 as active input, to be carried out at the next frame boundary or discarded. -/
  | tthSelectRequest (path : Path) (value : Word)
  /-- TETHER_CLOCK_SWITCH (R69): 128 Tether clocks after a loss the domains switch to 250 MHz, LOCK and ANGLE_VALID clear, and TTH enters SEARCH or OFF. -/
  | tetherClockSwitch
  /-- RELOCK_FAIL (R72): TTH has not reached LOCKED or WLOCKED 1 s after a loss or after reaching speed, and RELOCK_FAIL sets. -/
  | relockFail
  /-- ZONE_SETTLED (R76): The new bit clock is settled within 1 µs of a zone load and the channel enters READY. -/
  | zoneSettled (head : Head)
  /-- SECTOR_ARRIVAL (R156): An armed sector reaches its position 0; the 256-bit arm test and the rate check decide whether it transfers.
  `off`: how far the sector lies from its predicted place, in 1/16 channel bit (Table 3-6). -/
  | sectorArrival (head : Head) (off : Nat)
  /-- SYNC_DECISION (R97): The sync search ends and the decode candidates of Table 4-5 are formed. -/
  | syncDecision (head : Head) (hard : Nat)
  /-- LLR_CAPTURE_COMPLETE (R100): The LLRs of the read are complete and its candidates enter the decode queue. -/
  | llrCaptureComplete (head : Head) (front : FrontEnd)
  /-- STREAM_DECODE_START (R102): The lowest free enabled stream decoder takes the candidate at the head of the queue and sets its iteration limit. -/
  | streamDecodeStart
  /-- STREAM_DECODE_END (R99): A stream decode stops at a zero syndrome or its limit, and the candidate is chosen, waits or ends. -/
  | streamDecodeEnd (dec : Fin 16) (codeword : Nat) (iters : Nat)
  /-- DEEP_DECODE_START (R107): A queued deep decode goes to the lower free deep decoder. -/
  | deepDecodeStart
  /-- DEEP_DECODE_END (R105): A deep decode ends with GOOD_DEEP, FAIL_READ or a final failure. -/
  | deepDecodeEnd (dec : Fin 2) (codeword : Nat) (iters : Nat)
  /-- DECODER_HANG (R113): A decode runs longer than twice its limit, HANG sets and the decoder resets alone. -/
  | decoderHang (dec : Fin 18)
  /-- LDPC_DECODER_RESET (R113): Writing RESET resets one decoder as for HANG and clears its counters. -/
  | ldpcDecoderReset (path : Path) (dec : Fin 18) (value : Word)
  /-- CH_RELOAD (R93): Writing RELOAD reloads the present zone's entry at the next read gate. -/
  | chReload (path : Path) (head : Head) (value : Word)
  /-- CH_COUNTER_CLEAR (R115): A 1 in bit n of CH_CNT_CLR clears the read counter at 0x0020 + 4n. -/
  | chCounterClear (path : Path) (head : Head) (value : Word)
  /-- CH_WR_COUNTER_CLEAR (R135): A 1 in bit n of CH_WR_CNT_CLR clears the write counter at 0x1020 + 4n. -/
  | chWrCounterClear (path : Path) (head : Head) (value : Word)
  /-- WRITE_RUN_START (R124): A scheduled write run enters LEAD when its conditions hold and the limiter grants the head.
  `lead`: how long before position 0 of its first sector the run is scheduled to enter LEAD, ns. -/
  | writeRunStart (head : Head) (lead : Nat)
  /-- WRITE_GATE_OPEN (R123): At position 0 of the first sector, after the ARM reply, the write side enters OPEN.
  `off`: how far the sector lies from its predicted place, in 1/16 channel bit (Table 3-6). -/
  | writeGateOpen (head : Head) (off : Nat)
  /-- WRITE_RUN_END (R123): The last sector of a run ends, the write side returns to IDLE and RUN_OFF is requested. -/
  | writeRunEnd (head : Head)
  /-- SECTOR_COUNTED_WRITTEN (R129): After a passing servo sample and 2 µs, a written sector counts as written and its buffer is released. -/
  | sectorCountedWritten (head : Head)
  /-- MICROWORD_ISSUE (R153): The sequencer issues one micro-word: condition, ALU, formatter command and next address. -/
  | microwordIssue (a : Act)
  /-- CONT (R153): Next address is address + 1. -/
  | opCont (a : Act) (word : BitVec 128)
  /-- JUMP (R153): Next address is NEXT. -/
  | opJump (a : Act) (word : BitVec 128)
  /-- BR (R153): Branch to NEXT if the condition holds. -/
  | opBr (a : Act) (word : BitVec 128)
  /-- CALL (R154): Push address + 1 and go to NEXT; a full stack sets STACK. -/
  | opCall (a : Act) (word : BitVec 128)
  /-- BRCALL (R154): Call NEXT if the condition holds. -/
  | brcall (a : Act) (word : BitVec 128)
  /-- RET (R154): Pop the return address; an empty stack sets STACK. -/
  | opRet (a : Act) (word : BitVec 128)
  /-- BRRET (R154): Return if the condition holds. -/
  | brret (a : Act) (word : BitVec 128)
  /-- DISP (R153): Dispatch to NEXT[13:4] concatenated with G[SRCA][3:0]. -/
  | opDisp (a : Act) (word : BitVec 128)
  /-- LOOP (R153): If LC is not 0, decrement LC and go to NEXT. -/
  | opLoop (a : Act) (word : BitVec 128)
  /-- WAIT (R153): Stay on the word until the condition holds or TMO expires. -/
  | opWait (a : Act) (word : BitVec 128)
  /-- WAIT_CONDITION_MET (R153): The condition of a waiting WAIT word holds and execution goes to address + 1. -/
  | waitConditionMet (a : Act)
  /-- WAIT_TIMEOUT (R153): TMO of a WAIT word expires and execution goes to NEXT. -/
  | waitTimeout (a : Act)
  /-- HALT (R151): A HALT word puts the sequencer in HALTED. -/
  | opHalt (a : Act) (word : BitVec 128)
  /-- MOV (R153): G[DST] takes operand B and the flags are set. -/
  | opMov (a : Act) (word : BitVec 128)
  /-- ADD (R153): G[DST] takes A + B and the flags are set. -/
  | opAdd (a : Act) (word : BitVec 128)
  /-- SUB (R153): G[DST] takes A − B and the flags are set. -/
  | opSub (a : Act) (word : BitVec 128)
  /-- AND (R153): G[DST] takes A AND B and the flags are set. -/
  | opAnd (a : Act) (word : BitVec 128)
  /-- OR (R153): G[DST] takes A OR B and the flags are set. -/
  | opOr (a : Act) (word : BitVec 128)
  /-- XOR (R153): G[DST] takes A XOR B and the flags are set. -/
  | opXor (a : Act) (word : BitVec 128)
  /-- SHL (R153): G[DST] takes A shifted left by B[4:0]. -/
  | opShl (a : Act) (word : BitVec 128)
  /-- SHR (R153): G[DST] takes A shifted right by B[4:0]. -/
  | opShr (a : Act) (word : BitVec 128)
  /-- CMP (R153): The flags are set from A − B without writing a register. -/
  | opCmp (a : Act) (word : BitVec 128)
  /-- LDLC (R153): LC is loaded from B[15:0]. -/
  | ldlc (a : Act) (word : BitVec 128)
  /-- LDHS (R153): HSEL is loaded from B[2:0]; a value above 5 sets ILLEGAL. -/
  | ldhs (a : Act) (word : BitVec 128)
  /-- TASK_POP (R155): One task is popped into w0–w3, or QUEUE sets on an empty queue. -/
  | taskPop (a : Act) (word : BitVec 128)
  /-- DONE_PUSH (R155): w4–w7 are pushed as one completion, or QUEUE sets on a full queue. -/
  | donePush (a : Act) (word : BitVec 128)
  /-- ARM_READ (R156): A read of the arm block is armed on the head's formatter, or ARM_OVF sets. -/
  | armRead (a : Act) (word : BitVec 128)
  /-- ARM_WRITE (R156): A write of the arm block is armed on the head's formatter. -/
  | armWrite (a : Act) (word : BitVec 128)
  /-- ARM_VERIFY (R132): An ARCHIVE verify read is armed. -/
  | armVerify (a : Act) (word : BitVec 128)
  /-- ABANDON (R161): Every armed sector of the head is abandoned under the abandoned-sector rules. -/
  | opAbandon (a : Act) (word : BitVec 128)
  /-- LOAD_ZONE (R94): The adaptation, write-table and zone entries of the zone holding track w0 are loaded. -/
  | loadZone (a : Act) (word : BitVec 128)
  /-- SELECT (R455): The head is selected for reading and a SELECT frame is requested. -/
  | opSelect (a : Act) (word : BitVec 128)
  /-- SEEK (R179): The actuator starts a seek to cylinder w0 and the head targets are set. -/
  | opSeek (a : Act) (word : BitVec 128)
  /-- TARGET (R179): The Bridle target of the head is set to track w0 from its next sample. -/
  | opTarget (a : Act) (word : BitVec 128)
  /-- DEF_LOOKUP (R147): The defect table is searched for the slot and the entry found, or zeros, is placed in w4–w7. -/
  | defLookup (a : Act) (word : BitVec 128)
  /-- RPT_POP (R155): The oldest sector report of the head moves into w4–w7. -/
  | rptPop (a : Act) (word : BitVec 128)
  /-- SEQ_ENABLE (R151): Writing SEQ_CTRL.EN = 1 starts RUN at 0x0000 once the patch load has ended; EN = 0 stops or resets the sequencer. -/
  | seqEnable (path : Path) (a : Act) (value : Word)
  /-- SEQ_PAUSE (R157): Writing PAUSE = 1 holds the sequencer at the next Waypoint. -/
  | seqPause (path : Path) (a : Act) (value : Word)
  /-- SEQ_RESUME (R151): Writing PAUSE = 0 in HELD returns to RUN at SEQ_RESUME. -/
  | seqResume (path : Path) (a : Act) (value : Word)
  /-- SEQ_ATTN (R157): Writing ATTN sets ATTN pending, taken at a Waypoint with an empty stack. -/
  | seqAttn (path : Path) (a : Act) (value : Word)
  /-- DEF_SWAP (R147): Writing DEF_SWAP swaps in the next defect table at a safe point. -/
  | defSwap (path : Path) (a : Act) (value : Word)
  /-- WP_TIMEOUT (R158): More than SEQ_WP_LIMIT clocks pass between Waypoint polls and the sequencer enters STOPPED. -/
  | wpTimeout (a : Act)
  /-- SERVO_SAMPLE (R168): PES demodulation of a wedge ends and the sample is classed, its position and error formed, and its loops triggered. -/
  | servoSample (head : Head) (obs : WedgeObs)
  /-- ONTRK_SET (R178): After ONTRK_N passing samples within ONTRK_WIN, ONTRK sets and SETTLE may enter TRACK. -/
  | ontrkSet (head : Head)
  /-- FOLLOW_ERROR (R182): |error| above L on T consecutive samples cuts the named heads, and for a VCM seek aborts it. -/
  | followError (loop : Fin 28)
  /-- SERVO_LOST (R181): No GOOD sample on any head for LOST_N samples sets SERVO_LOST and unloads the actuator. -/
  | servoLost (a : Act)
  /-- ACTUATOR_ENABLE (R177): A write to SRV_CTRL.ACT_EN enters RAMP, or RETRACT or OFF when cleared. -/
  | actuatorEnable (path : Path) (value : Word)
  /-- ACTUATOR_LOAD (R177): CMD = LOAD in RAMP starts a velocity-controlled load. -/
  | actuatorLoad (path : Path) (a : Act) (value : Word)
  /-- ACTUATOR_UNLOAD (R177): CMD = UNLOAD moves the heads to the ramp and abandons armed sectors. -/
  | actuatorUnload (path : Path) (a : Act) (value : Word)
  /-- ACTUATOR_RETRACT (R192): CMD = RETRACT drives the heads to the ramp at RET_I, open loop. -/
  | actuatorRetract (path : Path) (a : Act) (value : Word)
  /-- ACTUATOR_HOLD (R177): CMD = HOLD holds arm velocity at zero and ends a seek with SEEKFAIL. -/
  | actuatorHold (path : Path) (a : Act) (value : Word)
  /-- LOAD_FAIL (R177): No GOOD sample 150 ms after the load start sets LOAD_FAIL and unloads. -/
  | loadFail (a : Act)
  /-- SEEK_TIMEOUT (R179): SEEK_TMO expires in SEEK or SETTLE, the seek is aborted and the actuator enters HOLD. -/
  | seekTimeout (a : Act)
  /-- RAMP_STOP_REACHED (R177): An unloading actuator reaches the ramp stop and enters RAMP. -/
  | rampStopReached (a : Act)
  /-- RETRACT_DONE (R192): After RET_T, drive is removed and the actuator enters RAMP or OFF. -/
  | retractDone (a : Act)
  /-- GUST_FRAME (R183): A 40-bit Gust frame is received and its CRC checked; good values feed thresholds and feedforward. -/
  | gustFrame (port : Fin 2) (frame : Nat)
  /-- GUST_TRIP (R184): A threshold exceeded on TRIP_N good frames trips the port and cuts the mapped actuators. -/
  | gustTrip (port : Fin 2)
  /-- GUST_TRIP_CLEAR (R184): Values within thresholds for HOLD µs clear the trip. -/
  | gustTripClear (port : Fin 2)
  /-- GUST_FRAME_TIMEOUT (R185): No good frame for TMO µs makes the port lost and tripped. -/
  | gustFrameTimeout (port : Fin 2)
  /-- GUST_CRC_LOSS (R185): Three frames in a row with bad CRC make the port lost and tripped. -/
  | gustCrcLoss (port : Fin 2)
  /-- BRIDLE_FRAME_SEND (R189): A downstream Bridle frame carrying a CLE output is started within 20 ns. -/
  | bridleFrameSend (a : Act) (ch : Fin 6)
  /-- BRIDLE_REPLY (R188): An upstream Bridle reply is received and checked for CRC, echoes and fault flags. -/
  | bridleReply (a : Act) (frame : Option Nat)
  /-- BRIDLE_REFRESH (R189): 10 µs after the last frame, a refresh frame or a CH 6 frame is sent. -/
  | bridleRefresh (a : Act)
  /-- BRIDLE_LINK_DOWN (R189): Three frames without a valid reply, or a fault flag, declare the link down and unload the actuator. -/
  | bridleLinkDown (a : Act)
  /-- BRIDLE_LINK_UP (R189): Three consecutive valid replies with clear flags bring the link up again. -/
  | bridleLinkUp (a : Act)
  /-- VCM_CURRENT_SAMPLE (R191): At each 312.5 kHz current sample the regulator updates the PWM output. -/
  | vcmCurrentSample (a : Act) (bits : Nat)
  /-- VCM_OVERCURRENT (R191): |sample| above IMAX on 8 samples sets BRIDGE_FLT and retracts. -/
  | vcmOvercurrent (a : Act)
  /-- VCM_BRIDGE_FAULT (R191): VCM_a_FLT_N low sets BRIDGE_FLT, drops EN within 100 ns and holds the output at 0. -/
  | vcmBridgeFault (a : Act) (low : Bool)
  /-- CLE_JOB_START (R209): A free lane takes the job at the head of the queue. -/
  | cleJobStart
  /-- CLE_JOB_END (R203): A job ends by its deadline: states are written back, the output delivered, and flags and captures updated. -/
  | cleJobEnd (lane : Fin 2)
  /-- CLE_JOB_OVERRUN (R212): A job not ended at its deadline is cancelled, OVR sets and CLE_OVR inhibits writes. -/
  | cleJobOverrun (loop : LoopN)
  /-- CLE_LOOP_RESTART (R214): Writing 1 to FAULTED clears it and the loop restarts at its next trigger. -/
  | cleLoopRestart (path : Path) (loop : LoopN) (value : Word)
  /-- CLE_LOOP_DISABLE (R213): Writing a loop's EN = 0 stops its triggers and gives the output effects of a faulted loop. -/
  | cleLoopDisable (path : Path) (loop : LoopN) (value : Word)
  /-- CLE_LOOP_COUNTER_CLEAR (R213): Writing CNT_CLR clears LOOP_CNT and LOOP_OVR. -/
  | cleLoopCounterClear (path : Path) (loop : LoopN) (value : Word)
  /-- CLE_COMMIT (R206): A CLE_COMMIT write checks the staged set and refuses it with COEF_BAD or schedules its copy. -/
  | cleCommit (path : Path) (value : Word)
  /-- CLE_COMMIT_COPY (R206): The staged set is copied in one piece when no job of the loop is queued or running. -/
  | cleCommitCopy
  /-- CLE_INJECTION_ENABLE (R215): Setting CLE_INJ_CTRL.EN in WORKSHOP starts test-signal injection on the selected loop. -/
  | cleInjectionEnable (path : Path) (value : Word)
  /-- CLE_CAPTURE_ARM (R216): Writing ARM starts a response capture at the next job of LOOP. -/
  | cleCaptureArm (path : Path) (value : Word)
  /-- SPN_CURRENT_SAMPLE (R220): The period's current sample completes, triggers loop 28 and runs the speed check. -/
  | spnCurrentSample (obs : SpnObs)
  /-- SPN_FAST_BUS_SAMPLE (R220): A fast bus sample every 0.8 µs drives Ballast gating and the over- and under-voltage checks. -/
  | spnFastBusSample (bits : Nat) (balIs : Bool) (supok : Bool)
  /-- SPN_PWM_PERIOD (R221): At a period boundary the limited loop outputs become phase duties and field weakening updates Id_ref. -/
  | spnPwmPeriod
  /-- SPN_START (R231): CMD = START begins the 20 ms listen from STOP, resumes ACCEL from BRAKE, or clears brake pending. -/
  | spnStart (path : Path) (value : Word)
  /-- SPN_BRAKE (R231): CMD = BRAKE sets brake pending and enters BRAKE or COAST as the state permits. -/
  | spnBrake (path : Path) (value : Word)
  /-- SPN_COAST (R231): CMD = COAST enters COAST from the spinning states. -/
  | spnCoast (path : Path) (value : Word)
  /-- SPN_DISABLE (R231): Writing SPN_CTRL.EN = 0 enters STOP with SPM_EN low. -/
  | spnDisable (path : Path) (value : Word)
  /-- SPN_TARGET_WRITE (R231): A TARGET write in RUN enters ACCEL towards the new speed. -/
  | spnTargetWrite (path : Path) (value : Word)
  /-- SPN_LISTEN_END (R231): The 20 ms listen ends without observer lock and SPN enters ALIGN, or stays in STOP with brake pending. -/
  | spnListenEnd
  /-- SPN_ALIGN_END (R232): After ALIGN_T the forced angle starts to advance in RAMP. -/
  | spnAlignEnd
  /-- SPN_RAMP_TIMEOUT (R232): RAMP_TMO ends a start attempt, SPN coasts and TRIES increments, or START_FAIL or SPIN_FAIL sets. -/
  | spnRampTimeout
  /-- SPN_RETRY_COAST_END (R232): After the 1 s coast a new start attempt begins in ALIGN. -/
  | spnRetryCoastEnd
  /-- OBS_LOCK (R228): After LOCK_N good periods the observer locks, ending RAMP or the CATCH listen. -/
  | obsLock
  /-- OBS_LOSS (R228): After 3 bad periods the observer loses the rotor and OBS_LOSS sets. -/
  | obsLoss
  /-- ANG_DISAGREE (R230): The two angles differ by more than DISAGREE_DEG for 64 periods. -/
  | angDisagree
  /-- SPN_AT_SPEED (R231): 64 consecutive checks within 0.1 % of TARGET move ACCEL to RUN. -/
  | spnAtSpeed
  /-- SPN_REST_REACHED (R233): Current or back-EMF below 1/256 of full scale for 500 ms is rest, and SPN enters STOP. -/
  | spnRestReached
  /-- CATCH_PRESET_END (R234): After 48 periods with Iq_ref = 0, loop 29 runs and SPN enters ACCEL or BRAKE. -/
  | catchPresetEnd
  /-- CATCH_FAIL (R234): No observer lock 500 ms after CATCH entry sets CATCH_FAIL and brake pending, with a renewed spin-up where due. -/
  | catchFail
  /-- SPN_STAGE_FAULT (R231): SPM_FLT_N low sets STAGE_FLT, drops SPM_EN within 100 ns and enters COAST. -/
  | spnStageFault (low : Bool)
  /-- BAL_FLT (R238): BAL_G high 2 µs without BAL_IS, or 5 samples above 13,800 mV, faults the Ballast. -/
  | balFlt
  /-- BAL_STUCK (R238): BAL_IS high for 2 µs while BAL_G is low faults the Ballast. -/
  | balStuck
  /-- OV (R239): 2 fast samples at or above 14,400 mV set OV, drop SPM_EN and enter COAST. -/
  | ov
  /-- OV_RECOVERY (R239): After the bus stays below 13,800 mV for 1 ms, SPN leaves COAST for CATCH when brake pending is clear. -/
  | ovRecovery
  /-- SUPPLY_LOSS (R240): Supply loss is declared: ISO, retract of every actuator, power-loss record, then PLOSS or COAST. -/
  | supplyLoss
  /-- PLOSS_END (R240): PLOSS ends in COAST below PLOSS_MIN, when the bus cannot be held, or with no angle source. -/
  | plossEnd
  /-- SUPPLY_RECOVERY_RESET (R241): With SUPOK high 100 ms and heads parked, firmware starts a device reset. -/
  | supplyRecoveryReset
  /-- SPDREF_BAD (R243): A bad SPDREF signal holds the last good reference and clears GOOD. -/
  | spdrefBad (signal : SpdSignal := .codes [])
  /-- SPDREF_GOOD (R243): After 100 ms of good signal, GOOD sets and the reference slews to the new value. -/
  | spdrefGood (signal : SpdSignal)
  /-- SPDREF_SYNC_LOCK (R244): Index phase within 2^−10 revolution for 16 revolution edges sets SYNC_LOCK.
  `err`: how far the Tether angle that SPN takes lies from the rotor's, in clocks (R78). -/
  | spdrefSyncLock (err : Int)
  /-- MEM_TRAINING_DONE (R248): LP5X training ends in READY at the best rate, or in FAILED. -/
  | memTrainingDone (agree : Bool) (ok0 : Nat) (ok1 : Nat) (ok2 : Nat) (size : Nat) (ranks2 : Bool)
  /-- MEM_SREF_ENTRY (R251): In PARKED or LIMP, 10 ms without access enters self refresh. -/
  | memSrefEntry
  /-- DEPOT_ENABLE (R253): Writing DEP_CTRL.EN = 1 enables the Depot while MEM is READY or SREF. -/
  | depotEnable (path : Path) (value : Word)
  /-- ALLOC (R260): ALLOC takes a buffer from the smallest fitting pool, climbing if allowed, or returns EMPTY. -/
  | opAlloc (port : Bool) (tag : Nat) (tag2 : Nat) (size : Nat) (climb : Bool)
  /-- SHARE (R258): SHARE enters TAG2 into the lowest empty holder slot. -/
  | opShare (port : Bool) (tag : Nat) (handle : Nat) (tag2 : Nat)
  /-- RELEASE (R258): RELEASE empties the requester's holder slot. -/
  | opRelease (port : Bool) (tag : Nat) (handle : Nat)
  /-- FREE (R258): FREE by the last final owner returns the buffer to the free list, or retires it. -/
  | opFree (port : Bool) (tag : Nat) (handle : Nat)
  /-- PASS (R258): PASS makes TAG2 the final owner. -/
  | opPass (port : Bool) (tag : Nat) (handle : Nat) (tag2 : Nat)
  /-- MARK (R264): MARK sets the buffer's INVALID bit. -/
  | opMark (port : Bool) (tag : Nat) (handle : Nat) (inv : Bool)
  /-- QUERY (R258): QUERY returns the state entry and the code the handle would give for MARK. -/
  | opQuery (port : Bool) (tag : Nat) (handle : Nat)
  /-- RETIRE (R266): RETIRE retires a free buffer at once or sets RETIRE_PEND on an allocated one. -/
  | opRetire (port : Bool) (tag : Nat) (handle : Nat)
  /-- INIT (R253): INIT checks a pool's configuration and clears its state array, writes its ring and fills its cache. -/
  | opInit (port : Bool) (tag : Nat) (pool : Nat)
  /-- DEPOT_CACHE_REFILL (R261): The cache is refilled from the ring or spilled to it when it crosses its marks. -/
  | depotCacheRefill (pool : Fin 4)
  /-- DEPOT_BUFFER_ACCESS (R264): An access by handle is checked at its start and then proceeds or fails as a bus error. -/
  | depotBufferAccess (tag : Nat) (handle : Nat) (ofs : Nat) (len : Nat) (data : Option (List Byte))
  /-- DEPOT_REBUILD_DONE (R267): After a containment reset, the rings are rebuilt and DEP returns to RUN. -/
  | depotRebuildDone
  /-- POOL_EXHAUSTED (R268): A command without its buffers 1 s after its fetch stamp completes with Pool Exhausted. -/
  | poolExhausted (slot : Slot)
  /-- CONVOY_START (R283): START in READY or HALTED starts the channel at HEAD. -/
  | convoyStart (path : Path) (e : Eng) (c : Chan) (value : Word)
  /-- CONVOY_STOP (R285): STOP halts the channel at once, or after the descriptor in progress. -/
  | convoyStop (path : Path) (e : Eng) (c : Chan) (value : Word)
  /-- CONVOY_CHANNEL_ENABLE (R283): Writing the channel's EN moves it between OFF and READY, acting as STOP in RUN. -/
  | convoyChannelEnable (path : Path) (e : Eng) (c : Chan) (value : Word)
  /-- CONVOY_DOORBELL (R282): A doorbell re-reads the LINK, re-fetches a waiting descriptor, sets DB_PEND or is discarded. -/
  | convoyDoorbell (path : Path) (e : Eng) (c : Chan) (value : Word)
  /-- CONVOY_GRANT (R271): A free engine grants the next channel by priority and round robin. -/
  | convoyGrant (e : Eng)
  /-- DESCRIPTOR_FETCHED (R276): A descriptor arrives and its OWN and format checks decide WAIT, an error end or the transfer. -/
  | descriptorFetched (e : Eng)
  /-- TRANSFER_ARRIVED (R277): The last write response or read-back completion ends the transfer and the status write-back follows. -/
  | transferArrived (e : Eng) (host : List Byte)
  /-- CONVOY_BUS_ERROR (R278): A bus error on the transfer schedules a retry, or makes the descriptor bad after RETRY retries. -/
  | convoyBusError (e : Eng) (c : Option Chan) (stage : Nat) (cause : Nat) (done : Nat)
  /-- CONVOY_RETRY (R278): RETRY_GAP × n after a failure, the descriptor runs again from step 3. -/
  | convoyRetry (e : Eng) (c : Option Chan)
  /-- STATUS_WRITEBACK_DONE (R276): The write response of words 6 and 7 arrives and the ownership clear is written. -/
  | statusWritebackDone (e : Eng)
  /-- OWNERSHIP_CLEAR_DONE (R276): The ownership clear is answered, the interrupt is raised and the LINK is re-read. -/
  | ownershipClearDone (e : Eng)
  /-- LINK_REREAD_DONE (R281): The LINK word returns: the next descriptor is fetched or the channel enters TAIL. -/
  | linkRereadDone (e : Eng) (c : Chan)
  /-- CONVOY_ENGINE_HANG (R287): An engine waiting 100 µs for a response sets HANG and resets alone. -/
  | convoyEngineHang (e : Eng)
  /-- CREATE_IO_CQ (R299): Create I/O Completion Queue is checked and creates the queue. -/
  | createIoCq (slot : Slot)
  /-- CREATE_IO_SQ (R299): Create I/O Submission Queue is checked and creates the queue. -/
  | createIoSq (slot : Slot)
  /-- DELETE_IO_CQ (R299): Delete I/O Completion Queue deletes a queue no submission queue uses. -/
  | deleteIoCq (slot : Slot)
  /-- DELETE_IO_SQ (R334): Delete I/O Submission Queue deletes the queue and aborts its commands not yet handed to a sequencer. -/
  | deleteIoSq (slot : Slot)
  /-- GET_LOG_PAGE (R310): Get Log Page returns a log page, and for page 0xC2 with LSP[0] = 1 clears its entries. -/
  | getLogPage (slot : Slot) (xfer : Xfer)
  /-- IDENTIFY (R305): Identify returns the controller, namespace or list structure named by CNS. -/
  | identify (slot : Slot) (xfer : Xfer)
  /-- ABORT (R334): Abort aborts the named command if it has not been handed to a sequencer. -/
  | opAbort (slot : Slot)
  /-- SET_FEATURES (R306): Set Features for a standard feature without a row of its own sets it, or refuses it. -/
  | setFeatures (slot : Slot) (xfer : Xfer)
  /-- GET_FEATURES (R306): Get Features returns the current, default or supported value of a feature. -/
  | getFeatures (slot : Slot) (xfer : Xfer)
  /-- SET_FEATURES_POWER_MGMT (R45): Set Features 02h sets the NVMe power state and with it the target mode, refused in WORKSHOP. -/
  | setFeaturesPowerMgmt (slot : Slot)
  /-- SET_FEATURES_NUMBER_OF_QUEUES (R300): Set Features 07h returns 254 queues, or Command Sequence Error after an I/O queue exists. -/
  | setFeaturesNumberOfQueues (slot : Slot)
  /-- SET_FEATURES_SPINUP_CONTROL (R307): Set Features 1Ah sets AUTOSPIN in fetch-stamp order. -/
  | setFeaturesSpinupControl (slot : Slot)
  /-- SET_FEATURES_QUEUE_ORDER (R321): Set Features 0xC1 sets or clears ORDERED for a submission queue. -/
  | setFeaturesQueueOrder (slot : Slot)
  /-- SET_FEATURES_COMPLETION_STAMP (R309): Set Features 0xC2 enables or disables completion stamps on the controller. -/
  | setFeaturesCompletionStamp (slot : Slot)
  /-- SET_FEATURES_COMPRESSION_LEVEL (R356): Set Features 0xC3 sets the compression level of a packed namespace. -/
  | setFeaturesCompressionLevel (slot : Slot)
  /-- ASYNC_EVENT_REQUEST (R313): An Asynchronous Event Request is held until an event is posted to it. -/
  | asyncEventRequest (slot : Slot)
  /-- NAMESPACE_MANAGEMENT (R343): Namespace Management creates or deletes a namespace, packed or conventional. -/
  | namespaceManagement (slot : Slot) (xfer : Xfer)
  /-- NAMESPACE_ATTACHMENT (R295): Namespace Attachment attaches or detaches a namespace from a controller. -/
  | namespaceAttachment (slot : Slot) (xfer : Xfer)
  /-- FIRMWARE_IMAGE_DOWNLOAD (R430): A piece of an image is placed in the subsystem download buffer. -/
  | firmwareImageDownload (slot : Slot) (xfer : Xfer)
  /-- FIRMWARE_COMMIT (R431): Firmware Commit authenticates the downloaded image and takes the action of its CA. -/
  | firmwareCommit (slot : Slot)
  /-- FIRMWARE_ACTIVATION (R335): Activation without reset stops fetching, completes commands, destages, activates and resumes. -/
  | firmwareActivation
  /-- ACTIVATION_TIMEOUT (R335): Steps 2 to 4 unfinished at 1.5 s abandon the activation with status 1h/12h. -/
  | activationTimeout
  /-- DEVICE_SELF_TEST (R305): Device Self-test runs a short or extended test in firmware and reports in log page 06h. -/
  | deviceSelfTest (slot : Slot) (ended : Option Nat)
  /-- DIRECTIVE_SEND (R305): Directive Send acts on the Identify and Streams directives. -/
  | directiveSend (slot : Slot) (xfer : Xfer)
  /-- DIRECTIVE_RECEIVE (R305): Directive Receive returns Identify or Streams directive data. -/
  | directiveReceive (slot : Slot) (xfer : Xfer)
  /-- UNLOCK_CHALLENGE (R433): Unlock Challenge opens an unlock attempt for a path and method and returns the challenge. -/
  | unlockChallenge (slot : Slot)
  /-- UNLOCK_RESPONSE (R434): Unlock Response consumes the attempt and unlocks the path or counts a wrong response. -/
  | unlockResponse (slot : Slot) (xfer : Xfer)
  /-- UNLOCK_ATTEMPT_EXPIRY (R433): An outstanding attempt lapses 60 s after its fetch stamp. -/
  | unlockAttemptExpiry (port : Fin 2)
  /-- LOCKOUT_END (R435): A lockout's remaining operating time runs out. -/
  | lockoutEnd (port : Fin 2)
  /-- UNLOCK_TIMEOUT (R436): UNLOCK_TMO minutes after an unlock, the path locks again. -/
  | unlockTimeout (port : Fin 2)
  /-- HOST_LOCK (R436): Writing HOST_LOCK locks the host path and leaves WORKSHOP. -/
  | hostLock (path : Path) (value : Word)
  /-- DBG_LOCK (R436): Writing DBG_LOCK locks the debug port. -/
  | dbgLock (path : Path) (value : Word)
  /-- FLUSH (R324): Flush completes when the earlier writes it names are on the medium and durable. -/
  | opFlush (slot : Slot)
  /-- WRITE (R317): A Write is checked, its data fetched into Depot buffers and entered into the write cache. -/
  | opWrite (slot : Slot)
  /-- WRITE_EFFECT (R319): All data of a write has arrived and the write takes effect in the cache at once. -/
  | writeEffect (slot : Slot) (xfer : Xfer)
  /-- READ (R318): A Read returns the content of the latest earlier write or the medium. -/
  | opRead (slot : Slot) (xfer : Xfer) (med : Option (List Nat))
  /-- WRITE_ZEROES (R317): Write Zeroes enters its range into the write cache as zeros, or unmaps packed stripes. -/
  | writeZeroes (slot : Slot)
  /-- DATASET_MANAGEMENT (R362): Deallocate unmaps packed stripes and has no effect on conventional namespaces. -/
  | datasetManagement (slot : Slot) (xfer : Xfer)
  /-- VERIFY (R317): Verify reads and checks its blocks without transferring data. -/
  | opVerify (slot : Slot) (pi : Nat) (med : Option (List Nat))
  /-- RESERVATION_REGISTER (R336): Reservation Register changes the registrants in fetch-stamp order. -/
  | reservationRegister (slot : Slot) (xfer : Xfer)
  /-- RESERVATION_REPORT (R336): Reservation Report returns the reservation state. -/
  | reservationReport (slot : Slot) (xfer : Xfer)
  /-- RESERVATION_ACQUIRE (R337): Reservation Acquire takes or preempts the reservation if the issuer is registered. -/
  | reservationAcquire (slot : Slot) (xfer : Xfer)
  /-- RESERVATION_RELEASE (R336): Reservation Release releases or clears the reservation. -/
  | reservationRelease (slot : Slot) (xfer : Xfer)
  /-- SQ_TAIL_DOORBELL (R302): A submission queue tail doorbell is checked and advances the tail, or raises an Error Status event. -/
  | sqTailDoorbell (ctrl : Ctrl) (y : Nat) (value : Nat)
  /-- CQ_HEAD_DOORBELL (R302): A completion queue head doorbell is checked and frees entries for held completions. -/
  | cqHeadDoorbell (ctrl : Ctrl) (y : Nat) (value : Nat)
  /-- COMPLETION_POST (R303): A command's completion is posted, or held until the queue has room. -/
  | completionPost (slot : Slot)
  /-- DESTAGE_START (R323): Within 100 ms after the last I/O completes, destage of the cache begins. -/
  | destageStart
  /-- DISCARDED_BY_FAULT (R333): Commands held by a faulting unit complete with 7h/0x81 within 1 ms. -/
  | discardedByFault (unit : CUnit) (slots : List Slot)
  /-- SMBUS_BASIC_MGMT_READ (R314): An SMBus block read returns a Basic Management structure. -/
  | smbusBasicMgmtRead (code : Nat) (pec : Bool)
  /-- SMBUS_LEDGER_OFFSET (R418): SMBus command 0x20 sets the readout offset. -/
  | smbusLedgerOffset (bytes : List Byte) (pec : Bool)
  /-- SMBUS_LEDGER_READ (R418): SMBus command 0x21 returns 32 Ledger bytes and advances the offset. -/
  | smbusLedgerRead (pec : Bool)
  /-- SMBUS_LEDGER_STATUS (R418): SMBus command 0x22 returns the next RSEQ, PCYC and LDG_PTR. -/
  | smbusLedgerStatus (pec : Bool)
  /-- LOOKUP_LBA (R349): RTE returns the index and entry of a namespace's logical block. -/
  | lookupLba (port : Bool) (tag : Nat) (ns : Fin 16) (lba : Nat)
  /-- LOOKUP_IDX (R349): RTE returns the entry at an index. -/
  | lookupIdx (port : Bool) (tag : Nat) (index : Nat)
  /-- UPDATE (R350): RTE compares and writes an entry and adjusts LIVE, USED and MAPPED, or returns CAS_FAIL. -/
  | opUpdate (port : Bool) (tag : Nat) (index : Nat) (old : Nat) (new : Nat) (since : Nat)
  /-- COMPRESSOR_GO (R357): GO starts a compression job on a lane. -/
  | compressorGo (path : Path) (lane : Lane) (value : Word)
  /-- COMPRESSOR_RESUME (R357): RESUME continues a job stopped in OUT_FULL with the new OUT_CNT. -/
  | compressorResume (path : Path) (lane : Lane) (value : Word)
  /-- COMPRESSOR_ABORT (R357): ABORT ends a compression job with code ABORTED. -/
  | compressorAbort (path : Path) (lane : Lane) (value : Word)
  /-- OUT_FULL (R357): A compressor needing output handle OUT_CNT + 1 stops with its state held and raises its interrupt. -/
  | outFull (lane : Lane)
  /-- COMPRESSION_END (R357): A compression job ends OK, INCOMPRESSIBLE, EARLY_INCOMP or with an error, saving its context where due. -/
  | compressionEnd (lane : Lane)
  /-- DECOMPRESSOR_GO (R358): GO starts a decompression job on a lane. -/
  | decompressorGo (path : Path) (lane : Lane) (value : Word)
  /-- DECOMPRESSOR_ABORT (R357): ABORT ends a decompression job with code ABORTED. -/
  | decompressorAbort (path : Path) (lane : Lane) (value : Word)
  /-- DECOMPRESSION_END (R355): A decompression job ends OK or with a stream error. -/
  | decompressionEnd (lane : Lane)
  /-- CMP_LANE_HANG (R370): A lane waiting 100 µs sets HANG and resets alone, ending its job DISCARDED. -/
  | cmpLaneHang (comp : Bool) (lane : Lane)
  /-- RECLAIM (R365): Free bands below the threshold start reclaim of the FULL band with the lowest LIVE count. -/
  | reclaim
  /-- JOURNAL_CHECKPOINT (R366): A checkpoint is written after 1,048,576 records, before IDLE or PARKED and at activation. -/
  | journalCheckpoint
  /-- ROUTE_TABLE_LOAD (R369): At start the newest checkpoint is loaded and the journal replayed, making packed namespaces ready. -/
  | routeTableLoad
  /-- SCRUB_REWRITE (R377): An entry reaching THRESH has its word read, corrected and rewritten, and REW increments. -/
  | scrubRewrite (entry : Fin 32)
  /-- PATROL_SCRUB_STEP (R381): Every STEP × 16 ns the patrol scrubber reads the next 64-byte block. -/
  | patrolScrubStep (word : Fin 8) (upset : Nat)
  /-- SRAM_WALKER_READ (R381): Each SRAM array's walker reads one word in one port cycle of every 1,024. -/
  | sramWalkerRead (array : Nat) (inst : Nat) (word : Nat) (upset : Nat)
  /-- HARD_ERROR_ACTION (R382): Firmware takes the action of Table 15-1 for a HARD or UE entry within 1 ms. -/
  | hardErrorAction (entry : Fin 32)
  /-- CLOG_FREE (R380): Writing 1 to a bit of MEM_CLOG_FREE frees that Correction Log entry. -/
  | clogFree (path : Path) (value : Word)
  /-- ERROR_INJECTION_ARM (R384): Setting MEM_EI_CTRL.EN arms the next whole-word write to store inverted bits. -/
  | errorInjectionArm (path : Path) (value : Word)
  /-- FAULT_UNMASK (R386): Unmasking a source whose status is 1 takes its action at that moment. -/
  | faultUnmask (path : Path) (addr : Nat) (value : Word)
  /-- FAULT_STATUS_CLEAR (R400): A W1C clear of a status bit whose cause has gone lets the unit leave its fault. -/
  | faultStatusClear (path : Path) (addr : Nat) (value : Word)
  /-- ATTN_RELEASE (R391): ATTN_N is released once the condition has ended and it has been asserted 10 µs. -/
  | attnRelease
  /-- CONTAIN_REQUEST (R393): A FLT_CONTAIN write starts a containment reset of the named unit. -/
  | containRequest (path : Path) (value : Word)
  /-- CONTAINMENT_RESET_END (R395): A unit's containment reset ends and firmware runs its lost work again. -/
  | containmentResetEnd (unit : CUnit)
  /-- MISMATCH (R397): A lockstep mismatch in the active pair starts a switchover. -/
  | mismatch (pair : Fin 2)
  /-- WDOG (R397): The watchdog expires after WDOG_T without a write and starts a switchover. -/
  | opWdog
  /-- WATCHDOG_KICK (R397): A write to FLT_WDOG by the active pair restarts the watchdog. -/
  | watchdogKick (path : Path) (value : Word)
  /-- SWITCHOVER_RECONCILED (R398): The new pair finishes reconciliation and firmware service resumes. -/
  | switchoverReconciled
  /-- PAIR_SELF_TEST_DONE (R399): The old pair's self-test ends, making it the standby or DEGRADED. -/
  | pairSelfTestDone (pair : Fin 2) (pass : Bool)
  /-- LIMP_RETRACT_TIMEOUT (R401): An actuator not in RAMP 300 ms after its unload receives RETRACT. -/
  | limpRetractTimeout (a : Act)
  /-- LDG_RAISE (R420): A write to LDG_RAISE raises a record from LDG_RAISE_BUF. -/
  | ldgRaise (path : Path) (value : Word)
  /-- LEDGER_PROGRAM_DONE (R408): A NOR page program of a record finishes and the next program or record follows. -/
  | ledgerProgramDone
  /-- LEDGER_PROGRAM_FAIL (R419): A program fails or times out and is retried once at the next page, or the record is dropped. -/
  | ledgerProgramFail
  /-- LEDGER_ERASE_DONE (R411): The erase of the sector ahead finishes. -/
  | ledgerEraseDone (ok : Bool)
  /-- LEDGER_SCAN_DONE (R412): The BOOT scan of both areas ends and sets the write positions, PCYC and RSEQ. -/
  | ledgerScanDone
  /-- HOURS (R409): Every 600 s of operating time a HOURS record is raised. -/
  | opHours
  /-- SUPP_SUMMARY (R413): Every 3,600 s a summary of suppressed counts is raised. -/
  | suppSummary
  /-- TOKEN_REFILL (R413): Every REFILL seconds each code's bucket gains one token. -/
  | tokenRefill
  /-- BOOT_RECORD_READ (R429): SEC reads both boot-record copies and chooses the firmware slot. -/
  | bootRecordRead (fuseOk : Bool)
  /-- MANIFEST_STREAMED (R429): The Manifest has been read and hashed. -/
  | manifestStreamed
  /-- FIRMWARE_STREAMED (R429): The firmware image has been streamed and is authenticated, or FW_BAD sets and the other slot is tried. -/
  | firmwareStreamed
  /-- PATCH_LOAD (R426): SEC decrypts the patch and loads patch RAM and traps into every sequencer, or sets PATCH_BAD. -/
  | patchLoad
  /-- MANIFEST_AUTHENTICATION (R424): SEC authenticates the Manifest and binds the part to its maker when unbound. -/
  | manifestAuthentication
  /-- BOOT_EXIT (R429): Firmware applies the Manifest records and BOOT ends in PARKED, or in LIMP with MANIFEST_BAD. -/
  | bootExit (fuseOk : Bool)
  /-- EXTEST (R437): TAP EXTEST selects boundary scan in BOOT, PARKED and LIMP, else BYPASS. -/
  | extest
  /-- SAMPLE_PRELOAD (R437): TAP SAMPLE/PRELOAD selects the boundary-scan register. -/
  | samplePreload
  /-- IDCODE (R437): TAP IDCODE returns 0x14A2_48B3. -/
  | idcode
  /-- UNLOCK_CH (R433): TAP UNLOCK_CH opens a debug-path unlock attempt and shifts out the challenge. -/
  | unlockCh (method : Fin 4)
  /-- UNLOCK_RSP (R434): TAP UNLOCK_RSP submits the debug-path response. -/
  | unlockRsp (numd : Nat) (data : List Byte)
  /-- CRS_ADDR (R432): TAP CRS_ADDR starts a debug CRS read or write at an address. -/
  | crsAddr (addr : Word) (write : Bool)
  /-- CRS_DATA (R432): TAP CRS_DATA carries the data and done or refused status of a debug access. -/
  | crsData (data : Word)
  /-- SEC_STATUS (R437): TAP SEC_STATUS returns SEC_STAT. -/
  | secStatus
  /-- BYPASS (R437): TAP BYPASS selects the 1-bit bypass register. -/
  | bypass
  /-- DLK_ENABLE (R449): Writing a link's EN = 1 starts ALIGN; EN = 0 switches the heads off and enters OFF. -/
  | dlkEnable (path : Path) (a : Act) (value : Word)
  /-- DLK_FRAME_SEND (R452): The link sends the highest-class waiting frame once the last exchange has ended. -/
  | dlkFrameSend (a : Act)
  /-- DLK_REPLY (R444): A good upstream reply ends an exchange and advances training, load or register access. `symbols`:
  the reply's line symbols, K27.7 first. -/
  | dlkReply (a : Act) (symbols : List LineSymbol)
  /-- DLK_EXCHANGE_TIMEOUT (R445): No good reply within RSP_TMO makes the exchange fail and the frame be sent again. -/
  | dlkExchangeTimeout (a : Act)
  /-- DLK_LINK_DOWN (R447): Failed exchanges, code violations or missing idles declare the link down and cut the actuator's heads. `symbols`: the upstream symbols
  taken until now, oldest first. -/
  | dlkLinkDown (a : Act) (symbols : List LineSymbol := [])
  /-- DLK_ALIGN_START (R449): 60 µs after DOWN entry the link enters ALIGN. -/
  | dlkAlignStart (a : Act)
  /-- DLK_ALIGNED (R449): 64 consecutive valid K28.5 symbols enter TRAIN. `symbols`: the upstream symbols taken until
  now, oldest first. -/
  | dlkAligned (a : Act) (symbols : List LineSymbol := [])
  /-- DLK_TRAIN_TIMEOUT (R448): An attempt not UP at 2 ms fails, and after TRAIN_MAX or DOWN_MAX the link enters FAILED. -/
  | dlkTrainTimeout (a : Act)
  /-- DLK_PING (R452): PING_T without a frame sends a PING. -/
  | dlkPing (a : Act)
  /-- DLK_FAULT_LINE (R456): DLK_a_FLT_N low sets UNSAFE, requests RUN_OFF and reads the FAULT register. -/
  | dlkFaultLine (a : Act) (low : Bool)
  /-- ARM_MISS (R453): No ARM reply by p0 cancels the run, sends RUN_OFF and sets ARM_MISS. -/
  | armMiss (head : Head)
  /-- DLK_RSEL_WRITE (R455): A DLK_a_RSEL write requests a SELECT frame, or changes only the shadow when not UP. -/
  | dlkRselWrite (path : Path) (a : Act) (value : Word)
  /-- DLK_PREG_READ (R457): PREG_CMD = 1 reads a preamplifier register through the register port. -/
  | dlkPregRead (path : Path) (a : Act) (value : Word)
  /-- DLK_PREG_WRITE (R457): PREG_CMD = 2 writes a preamplifier register through the register port. -/
  | dlkPregWrite (path : Path) (a : Act) (value : Word)
  /-- GPIO_OUT_WRITE (R482): A write to SYS_GPIO_OUT is stored and driven while OE is set. -/
  | gpioOutWrite (path : Path) (value : Word)
  /-- GATED_UNIT_READ (R22): A CRS read that reaches a power-gated unit completes at once with 0x0000_0000 and sets SYS_CRS_STAT.GATED and the CRS_GATED fault source. -/
  | gatedUnitRead (path : Path) (addr : Nat)
  /-- DEF_LOOKUP_DONE (R147): A defect-table binary search ends, placing its result in w4–w7 and the SLIP and SPARE conditions, and a DEF_SWAP waiting in HELD then takes effect. -/
  | defLookupDone (a : Act)
  /-- MR4_REFRESH_READ (R247): Every 16 ms MEM reads MR4 of each LP5X device, sets the refresh rate and sets TEMP_HIGH when derated refresh is reported. -/
  | mr4RefreshRead (derated : Bool)
  /-- PCIE_LINK_UP (R290): A port's link reaches DL_Active after training or Recovery, setting UP, SPEED and WIDTH, counting RETRAIN and setting DEGRADED for a slow or narrow link. -/
  | pcieLinkUp (port : Ctrl) (speed : Fin 6) (width : Nat) (recoveries : Nat)
  /-- AER_UNCORRECTABLE (R386): A port logs an uncorrectable PCIe error, which sets HIF_FLT_STAT.AER_UNCORR for the port and takes its severity action. -/
  | aerUncorrectable (port : Ctrl)
  deriving DecidableEq, Repr

end Sys2Proof
end

