-- ==== Sys2Proof/Machine/Crc.lean ====
section
/-!
DEFINITION. The cyclic redundancy checks of the manual, bit by bit: CRC-16 (R92), CRC-64 (R87), CRC-8 and CRC-32.
-/

namespace Sys2Proof.Machine

open Sys2Proof

/-- `k` steps of a most-significant-bit-first register of `w` bits with polynomial `p`. -/
def crcSteps (w p : Nat) : Nat → Nat → Nat
  | 0, r => r
  | k + 1, r =>
    let t := r * 2
    crcSteps w p k (if 2 ^ w ≤ t then Nat.xor (t - 2 ^ w) p else t)

/-- One byte into a most-significant-bit-first register of `w` bits. -/
def crcByte (w p r : Nat) (b : Byte) : Nat := crcSteps w p 8 (Nat.xor r (b.toNat * 2 ^ (w - 8)))

/-- CRC-16 of R92: polynomial 0x1021, initial value 0xFFFF, bytes in order, most significant bit first. -/
def crc16 (bs : List Byte) : Nat := bs.foldl (crcByte 16 0x1021) 0xFFFF

/-- `k` steps of a least-significant-bit-first register with reflected polynomial `p`. -/
def crcStepsR (p : Nat) : Nat → Nat → Nat
  | 0, r => r
  | k + 1, r => crcStepsR p k (if r % 2 = 1 then Nat.xor (r / 2) p else r / 2)

/-- CRC-32 of RFC 1952, as R357 and R358 name it. -/
def crc32 (bs : List Byte) : Nat :=
  Nat.xor (bs.foldl (fun r b => crcStepsR 0xEDB88320 8 (Nat.xor r b.toNat)) 0xFFFFFFFF) 0xFFFFFFFF

end Sys2Proof.Machine
end

