-- ==== Sys2Proof/Config.lean ====
section
/-!
DEFINITION. What an implementation fixes and what the manual leaves open: opaque constants, with no body, so that no
proof can use a value of them. Each is named in a row of notes/assumptions.
-/

namespace Sys2Proof

/-- The `n`-th free value: a number the manual does not fix. The counter of State counts the draws. -/
opaque Config.freeNat : Nat → Nat

/-- The detail code of a PROTOCOL record (bytes 34 and 35) for a partner and an instance: no chapter gives it (R416). -/
opaque Config.protocolDetail : Nat → Nat → Nat

/-- A word of the control-store ROM: Wirnaind's microcode is not in the manual (R148). -/
opaque Config.romWord : Nat → BitVec 128

/-- SHA-384 of a byte string, as a number of 384 bits (R424, R434). -/
opaque Config.sha384 : List Byte → Nat

/-- AES-256-GCM decryption under the fuse patch key of IV, additional data, ciphertext and tag; none where the tag does
not match (R426). -/
opaque Config.gcmOpen : List Byte → List Byte → List Byte → List Byte → Option (List Byte)

/-- The root public key and the Wirnaind service public key of the boot ROM (R424, R433). -/
opaque Config.rootKey : List Byte
opaque Config.serviceKey : List Byte

/-- The translation of an HB-2 image into register loads and defect entries; none where it is of another version or a
record cannot be translated: the image format is in the HB-2 manual (R428). -/
opaque Config.hb2Image : List Byte → Option (List (Nat × Nat) × List Byte)

/-- The Wirnaind PCI Vendor ID of the fuse array (R292). -/
opaque Config.fuseVendor : Nat
opaque Config.fuseSubVendor : Nat
opaque Config.fuseSubsystem : Nat

/-- ECDSA P-384 verification of a signature over a message with a public key (R424, R434). -/
opaque Config.ecdsaOk : List Byte → List Byte → List Byte → Bool

/-- The distances that a lane's hash chain offers at a place, nearest first, from the bytes before it (newest first) and
those from it: the hash is not in the manual (R356, Table 14-7). -/
opaque Config.lzChain : List Byte → List Byte → List Nat

/-- The input bytes of a block that a lane ends before its limit, 0 for none, from the bytes before and from its beginning
(R354). -/
opaque Config.blockLen : List Byte → List Byte → Nat

/-- How a lane describes the codes of a dynamic block with so many tokens and these symbols: RFC 1951 leaves it open. -/
opaque Config.dynHeader : Nat → List Nat × List Nat → List Bool

/-- How many stream bytes a compressor lane has emitted once so many input bytes are consumed (R357 step 6). -/
opaque Config.deflateAt : Nat → List Byte → List Byte → Nat → Nat

/-- The size in bytes of the control cores' on-chip data memory: no chapter gives it (R274). -/
opaque Config.dataMemTop : Nat

/-- The Manifest's reclaim threshold in FREE bands: no record or register holds it (R365). -/
opaque Config.reclaimBelow : Nat

/-- The Manifest's default compression level, less 1: no record or register holds it (Table 12-10). -/
opaque Config.defaultLevel : Nat

/-- The interpolator's sample at a position in 1/64 channel bit, from the samples by channel bit: its filter is not in the
manual (Table 4-1). -/
opaque Config.interpolate : (Int → Rat) → Int → Rat

/-- The frequency of the Tether PLL after a good clock slot or a servo address mark, from its frequency before and the
displacement in Tether clocks: the loop filter is not in the manual (R60, R80). -/
opaque Config.pllNext : Nat → Int → Nat

/-- The observer's electrical angle and speed in 1/256 rpm after a period, from those before it and the back-EMF along and
across the axis where it is expected: the loop of its phase-locked loop is not in the manual (R228). -/
opaque Config.observerNext : Nat → Nat → Rat → Rat → Nat × Nat

/-- Byte `i` of a sector of a namespace that this model has never seen written: the manual does not give it (R318). -/
opaque Config.mediumByte : Nat → Nat → Nat → BitVec 8

/-- Byte `i` of the `n`-th structure that a command returns and whose layout the manual leaves to NVMe 2.1. -/
opaque Config.pageByte : Nat → Nat → BitVec 8

/-- Which slot, entry, loop or unit a word of an SRAM array belongs to, by ARRAY code, instance and word index: the manual
does not give the arrays' layout (Table 15-1). -/
opaque Config.arrayItem : Nat → Nat → Nat → Nat

end Sys2Proof
end

