-- ==== Sys2Proof/Machine/RegTypes.lean ====
section
/-!
DEFINITION. The shapes of the register map: access codes (Table 0-3), fields, registers and the place of a field.
-/

namespace Sys2Proof.Machine

/-- The access codes of Table 0-3 (R10). -/
inductive Access
  | ro | rw | wo | w1c | rc | rwl
  deriving DecidableEq, Repr

/-- One field of a field map: its bits, access code, reset value and, where the manual reserves encodings, the ranges
of the encodings it allows (empty: every encoding; R14). -/
structure FieldDesc where
  hi : Nat
  lo : Nat
  acc : Access
  reset : Nat
  ok : List (Nat × Nat)
  deriving DecidableEq, Repr

/-- Whether a register's bits are fields, or the stored word of a CHECK-carrying entry (R13). -/
inductive RegKind
  | plain | stored
  deriving DecidableEq, Repr

/-- Whether a register is one half of a 64-bit pair (R17). -/
inductive RegHalf
  | single | lo | hi
  deriving DecidableEq, Repr

/-- One register, or one array of registers: the address of the first, up to two dimensions (count, stride), its
kind, which half of a 64-bit pair it is, and its fields. -/
structure RegDesc where
  name : String
  base : Nat
  dim1 : Nat × Nat
  dim2 : Nat × Nat
  kind : RegKind
  half : RegHalf
  fields : List FieldDesc
  deriving DecidableEq, Repr

/-- The place of a field: register address and bits `[hi:lo]`. -/
structure Fld where
  addr : Nat
  hi : Nat
  lo : Nat
  deriving DecidableEq, Repr

/-- The width of a field. -/
def Fld.width (f : Fld) : Nat := f.hi + 1 - f.lo

end Sys2Proof.Machine
end

