-- ==== Sys2Proof/Machine/RegMap.lean ====
section
/-!
DEFINITION. The register map: every register of the Control Register Space with its fields, access codes, reset values
and reserved encodings, one list per block of Table 1-1, transcribed from the field maps of the owning chapters (R9 to
R16, R20). A group with dimensions stands for all its instances (R6, R7).
-/

namespace Sys2Proof.Machine

/-- Block SYS: the field maps of 01_architecture.md, 02_device_modes.md, 05_write_path.md, 16_fault_handling.md, 20_pins_electrical.md. -/
def regsSYS : List RegDesc :=
  [
   ⟨"SYS_ID", 0x01000000, (1, 0x0), (1, 0x0), .plain, .single, [⟨31, 16, .ro, 0x4A24, []⟩, ⟨15, 13, .ro, 0x3, []⟩, ⟨12, 8, .ro, 0x17, []⟩, ⟨7, 4, .ro, 0x1, []⟩, ⟨3, 0, .ro, 0x0, []⟩]⟩,
   ⟨"SYS_MODE", 0x01000010, (1, 0x0), (1, 0x0), .plain, .single, [⟨27, 24, .ro, 0x0, []⟩, ⟨23, 16, .ro, 0x0, []⟩, ⟨11, 11, .ro, 0x0, []⟩, ⟨10, 10, .ro, 0x0, []⟩, ⟨9, 8, .ro, 0x0, []⟩, ⟨7, 4, .ro, 0x1, []⟩, ⟨3, 0, .ro, 0x0, []⟩]⟩,
   ⟨"SYS_MODE_STAMP_LO", 0x01000018, (1, 0x0), (1, 0x0), .plain, .lo, [⟨31, 0, .ro, 0x0, []⟩]⟩,
   ⟨"SYS_MODE_STAMP_HI", 0x0100001C, (1, 0x0), (1, 0x0), .plain, .hi, [⟨31, 31, .ro, 0x1, []⟩, ⟨30, 0, .ro, 0x0, []⟩]⟩,
   ⟨"SYS_MODE_POLICY", 0x01000020, (1, 0x0), (1, 0x0), .plain, .single, [⟨31, 24, .rw, 0x0, []⟩, ⟨21, 21, .rw, 0x0, []⟩, ⟨20, 20, .rw, 0x0, []⟩, ⟨19, 16, .rw, 0x1, [(0, 11)]⟩, ⟨15, 0, .rw, 0x0, []⟩]⟩,
   ⟨"SYS_PWR_STAT", 0x01000024, (1, 0x0), (1, 0x0), .plain, .single, [⟨13, 8, .ro, 0x0, []⟩, ⟨6, 0, .ro, 0x1, []⟩]⟩,
   ⟨"SYS_TEMP", 0x01000028, (1, 0x0), (1, 0x0), .plain, .single, [⟨17, 17, .ro, 0x0, []⟩, ⟨16, 16, .ro, 0x0, []⟩, ⟨15, 8, .ro, 0x0, []⟩, ⟨7, 0, .ro, 0x0, []⟩]⟩,
   ⟨"SYS_WR_LIMIT", 0x01000030, (1, 0x0), (1, 0x0), .plain, .single, [⟨20, 16, .ro, 0x0, []⟩, ⟨10, 8, .rw, 0x0, [(0, 4)]⟩, ⟨4, 0, .rw, 0x0, [(0, 16)]⟩]⟩,
   ⟨"SYS_CRS_STAT", 0x01000040, (1, 0x0), (1, 0x0), .plain, .single, [⟨31, 16, .ro, 0x0, []⟩, ⟨1, 1, .w1c, 0x0, []⟩, ⟨0, 0, .w1c, 0x0, []⟩]⟩,
   ⟨"SYS_FLT_STAT", 0x01000050, (1, 0x0), (1, 0x0), .plain, .single, [⟨3, 3, .w1c, 0x0, []⟩, ⟨2, 2, .w1c, 0x0, []⟩, ⟨1, 1, .w1c, 0x0, []⟩, ⟨0, 0, .w1c, 0x0, []⟩]⟩,
   ⟨"SYS_FLT_MASK", 0x01000054, (1, 0x0), (1, 0x0), .plain, .single, [⟨3, 3, .rw, 0x0, []⟩, ⟨2, 2, .rw, 0x0, []⟩, ⟨1, 1, .rw, 0x0, []⟩, ⟨0, 0, .rw, 0x0, []⟩]⟩,
   ⟨"SYS_FLT_SEV", 0x01000058, (1, 0x0), (1, 0x0), .plain, .single, [⟨11, 9, .rw, 0x1, [(0, 4)]⟩, ⟨8, 6, .rw, 0x0, [(0, 4)]⟩, ⟨5, 3, .rw, 0x1, [(0, 4)]⟩, ⟨2, 0, .rw, 0x1, [(0, 4)]⟩]⟩,
   ⟨"SYS_GPIO_IN", 0x01000060, (1, 0x0), (1, 0x0), .plain, .single, [⟨15, 0, .ro, 0x0, []⟩]⟩,
   ⟨"SYS_GPIO_OE", 0x01000064, (1, 0x0), (1, 0x0), .plain, .single, [⟨15, 3, .rw, 0x0, []⟩, ⟨2, 2, .rw, 0x0, []⟩]⟩,
   ⟨"SYS_GPIO_OUT", 0x01000068, (1, 0x0), (1, 0x0), .plain, .single, [⟨15, 0, .rw, 0x0, []⟩]⟩,
   ⟨"SYS_GPIO_PULL", 0x0100006C, (1, 0x0), (1, 0x0), .plain, .single, [⟨31, 16, .rw, 0xFFFF, []⟩, ⟨15, 0, .rw, 0x0, []⟩]⟩,
   ⟨"SYS_GPIO_OD", 0x01000070, (1, 0x0), (1, 0x0), .plain, .single, [⟨15, 0, .rw, 0x0, []⟩]⟩,
   ⟨"SYS_THERM", 0x01000100, (1, 0x0), (1, 0x0), .plain, .single, [⟨15, 8, .rw, 0x46, []⟩, ⟨7, 0, .rw, 0x64, []⟩]⟩,
   ⟨"SYS_ENV_ADDR", 0x01000104, (1, 0x0), (1, 0x0), .plain, .single, [⟨31, 31, .rw, 0x0, []⟩, ⟨30, 24, .rw, 0x0, []⟩, ⟨23, 23, .rw, 0x0, []⟩, ⟨22, 16, .rw, 0x0, []⟩, ⟨15, 15, .rw, 0x0, []⟩, ⟨14, 8, .rw, 0x0, []⟩, ⟨7, 7, .rw, 0x0, []⟩, ⟨6, 0, .rw, 0x0, []⟩]⟩,
   ⟨"SYS_UART", 0x01000108, (1, 0x0), (1, 0x0), .plain, .single, [⟨0, 0, .rw, 0x0, []⟩]⟩,
   ⟨"SYS_DIRTY_MAX", 0x0100010C, (1, 0x0), (1, 0x0), .plain, .single, [⟨19, 0, .rw, 0x800, [(1, 1048575)]⟩]⟩
  ]

/-- Block FLT: the field maps of 16_fault_handling.md. -/
def regsFLT : List RegDesc :=
  [
   ⟨"FLT_SUM0", 0x01100000, (1, 0x0), (1, 0x0), .plain, .single, [⟨27, 27, .ro, 0x0, []⟩, ⟨26, 24, .ro, 0x0, []⟩, ⟨18, 18, .ro, 0x0, []⟩, ⟨17, 17, .ro, 0x0, []⟩, ⟨16, 16, .ro, 0x0, []⟩, ⟨15, 0, .ro, 0x0, []⟩]⟩,
   ⟨"FLT_SUM_CH", 0x01100004, (1, 0x0), (1, 0x0), .plain, .single, [⟨23, 0, .ro, 0x0, []⟩]⟩,
   ⟨"FLT_SUM_LDPC", 0x01100008, (1, 0x0), (1, 0x0), .plain, .single, [⟨17, 0, .ro, 0x0, []⟩]⟩,
   ⟨"FLT_SUM_SEQ", 0x0110000C, (1, 0x0), (1, 0x0), .plain, .single, [⟨3, 0, .ro, 0x0, []⟩]⟩,
   ⟨"FLT_ATTN_LEVEL", 0x01100010, (1, 0x0), (1, 0x0), .plain, .single, [⟨31, 31, .ro, 0x0, []⟩, ⟨2, 0, .rw, 0x3, [(0, 4)]⟩]⟩,
   ⟨"FLT_CFG", 0x01100014, (1, 0x0), (1, 0x0), .plain, .single, [⟨31, 24, .rw, 0x64, [(1, 255)]⟩, ⟨19, 16, .rw, 0x3, [(1, 15)]⟩, ⟨10, 8, .rw, 0x1, [(0, 4)]⟩, ⟨7, 0, .rw, 0xC8, [(50, 200)]⟩]⟩,
   ⟨"FLT_CORE_STAT", 0x01100018, (1, 0x0), (1, 0x0), .plain, .single, [⟨31, 16, .ro, 0x0, []⟩, ⟨7, 6, .ro, 0x1, []⟩, ⟨5, 4, .ro, 0x0, []⟩, ⟨0, 0, .ro, 0x0, []⟩]⟩,
   ⟨"FLT_WDOG", 0x0110001C, (1, 0x0), (1, 0x0), .plain, .single, [⟨31, 0, .wo, 0x0, []⟩]⟩,
   ⟨"FLT_FLT_STAT", 0x01100020, (1, 0x0), (1, 0x0), .plain, .single, [⟨4, 4, .w1c, 0x0, []⟩, ⟨3, 3, .w1c, 0x0, []⟩, ⟨2, 2, .w1c, 0x0, []⟩, ⟨1, 1, .w1c, 0x0, []⟩, ⟨0, 0, .w1c, 0x0, []⟩]⟩,
   ⟨"FLT_FLT_MASK", 0x01100024, (1, 0x0), (1, 0x0), .plain, .single, [⟨4, 4, .rw, 0x0, []⟩, ⟨3, 3, .rw, 0x0, []⟩, ⟨2, 2, .rw, 0x0, []⟩, ⟨1, 1, .rw, 0x0, []⟩, ⟨0, 0, .rw, 0x0, []⟩]⟩,
   ⟨"FLT_FLT_SEV", 0x01100028, (1, 0x0), (1, 0x0), .plain, .single, [⟨14, 12, .rw, 0x3, [(0, 4)]⟩, ⟨11, 9, .rw, 0x1, [(0, 4)]⟩, ⟨8, 6, .rw, 0x1, [(0, 4)]⟩, ⟨5, 3, .rw, 0x1, [(0, 4)]⟩, ⟨2, 0, .rw, 0x1, [(0, 4)]⟩]⟩,
   ⟨"FLT_CONTAIN", 0x0110002C, (1, 0x0), (1, 0x0), .plain, .single, [⟨15, 8, .wo, 0x0, []⟩, ⟨7, 0, .wo, 0x0, []⟩]⟩,
   ⟨"FLT_SWITCH_STAMP_LO", 0x01100030, (1, 0x0), (1, 0x0), .plain, .lo, [⟨31, 0, .ro, 0x0, []⟩]⟩,
   ⟨"FLT_SWITCH_STAMP_HI", 0x01100034, (1, 0x0), (1, 0x0), .plain, .hi, [⟨31, 0, .ro, 0x0, []⟩]⟩
  ]

/-- Block CH: the field maps of 04_read_channel.md, 05_write_path.md. -/
def regsCH : List RegDesc :=
  [
   ⟨"CH_RD_CFG", 0x02000000, (24, 0x10000), (1, 0x0), .plain, .single, [⟨8, 8, .wo, 0x0, []⟩, ⟨6, 4, .rw, 0x1, [(1, 1), (3, 3), (5, 5), (7, 7)]⟩, ⟨3, 3, .rw, 0x1, []⟩, ⟨2, 2, .rw, 0x1, []⟩, ⟨1, 1, .rw, 0x1, []⟩, ⟨0, 0, .rw, 0x0, []⟩]⟩,
   ⟨"CH_STAT", 0x02000004, (24, 0x10000), (1, 0x0), .plain, .single, [⟨22, 16, .ro, 0x7F, []⟩, ⟨15, 12, .ro, 0x0, []⟩, ⟨2, 0, .ro, 0x0, []⟩]⟩,
   ⟨"CH_SYNC_CFG", 0x02000008, (24, 0x10000), (1, 0x0), .plain, .single, [⟨22, 16, .rw, 0x8, [(2, 64)]⟩, ⟨11, 8, .rw, 0x4, [(0, 8)]⟩, ⟨3, 0, .rw, 0x2, [(2, 8)]⟩]⟩,
   ⟨"CH_CNT_GOOD", 0x02000020, (24, 0x10000), (1, 0x0), .plain, .single, [⟨31, 0, .ro, 0x0, []⟩]⟩,
   ⟨"CH_CNT_ALT", 0x02000024, (24, 0x10000), (1, 0x0), .plain, .single, [⟨31, 0, .ro, 0x0, []⟩]⟩,
   ⟨"CH_CNT_BLIND", 0x02000028, (24, 0x10000), (1, 0x0), .plain, .single, [⟨31, 0, .ro, 0x0, []⟩]⟩,
   ⟨"CH_CNT_RETRY", 0x0200002C, (24, 0x10000), (1, 0x0), .plain, .single, [⟨31, 0, .ro, 0x0, []⟩]⟩,
   ⟨"CH_CNT_DEEP", 0x02000030, (24, 0x10000), (1, 0x0), .plain, .single, [⟨31, 0, .ro, 0x0, []⟩]⟩,
   ⟨"CH_CNT_FAIL", 0x02000034, (24, 0x10000), (1, 0x0), .plain, .single, [⟨31, 0, .ro, 0x0, []⟩]⟩,
   ⟨"CH_CNT_UNREC", 0x02000038, (24, 0x10000), (1, 0x0), .plain, .single, [⟨31, 0, .ro, 0x0, []⟩]⟩,
   ⟨"CH_CNT_POOL", 0x0200003C, (24, 0x10000), (1, 0x0), .plain, .single, [⟨31, 0, .ro, 0x0, []⟩]⟩,
   ⟨"CH_CNT_CLR", 0x02000040, (24, 0x10000), (1, 0x0), .plain, .single, [⟨7, 0, .wo, 0x0, []⟩]⟩,
   ⟨"CH_LAST_RPT0", 0x02000050, (24, 0x10000), (1, 0x0), .plain, .single, [⟨31, 0, .ro, 0x0, []⟩]⟩,
   ⟨"CH_LAST_RPT1", 0x02000054, (24, 0x10000), (1, 0x0), .plain, .single, [⟨31, 0, .ro, 0x0, []⟩]⟩,
   ⟨"CH_LAST_RPT2", 0x02000058, (24, 0x10000), (1, 0x0), .plain, .single, [⟨31, 0, .ro, 0x0, []⟩]⟩,
   ⟨"CH_LAST_RPT3", 0x0200005C, (24, 0x10000), (1, 0x0), .plain, .single, [⟨31, 0, .ro, 0x0, []⟩]⟩,
   ⟨"CH_RD_FLT_STAT", 0x02000060, (24, 0x10000), (1, 0x0), .plain, .single, [⟨5, 5, .w1c, 0x0, []⟩, ⟨4, 4, .w1c, 0x0, []⟩, ⟨3, 3, .w1c, 0x0, []⟩, ⟨2, 2, .w1c, 0x0, []⟩, ⟨1, 1, .w1c, 0x0, []⟩, ⟨0, 0, .w1c, 0x0, []⟩]⟩,
   ⟨"CH_RD_FLT_MASK", 0x02000064, (24, 0x10000), (1, 0x0), .plain, .single, [⟨5, 5, .rw, 0x0, []⟩, ⟨4, 4, .rw, 0x0, []⟩, ⟨3, 3, .rw, 0x0, []⟩, ⟨2, 2, .rw, 0x0, []⟩, ⟨1, 1, .rw, 0x0, []⟩, ⟨0, 0, .rw, 0x0, []⟩]⟩,
   ⟨"CH_RD_FLT_SEV", 0x02000068, (24, 0x10000), (1, 0x0), .plain, .single, [⟨17, 15, .rw, 0x0, [(0, 4)]⟩, ⟨14, 12, .rw, 0x0, [(0, 4)]⟩, ⟨11, 9, .rw, 0x1, [(0, 4)]⟩, ⟨8, 6, .rw, 0x1, [(0, 4)]⟩, ⟨5, 3, .rw, 0x0, [(0, 4)]⟩, ⟨2, 0, .rw, 0x1, [(0, 4)]⟩]⟩,
   ⟨"CH_WR_CTRL", 0x02001000, (24, 0x10000), (1, 0x0), .plain, .single, [⟨2, 2, .ro, 0x0, []⟩, ⟨1, 1, .rw, 0x1, []⟩, ⟨0, 0, .rw, 0x0, []⟩]⟩,
   ⟨"CH_WR_LIM", 0x02001004, (24, 0x10000), (1, 0x0), .plain, .single, [⟨31, 28, .rw, 0x4, [(1, 15)]⟩, ⟨26, 24, .rw, 0x3, [(1, 7)]⟩, ⟨23, 16, .rw, 0x40, []⟩, ⟨15, 8, .rw, 0x14, []⟩, ⟨7, 0, .rw, 0x1F, []⟩]⟩,
   ⟨"CH_WR_VFY", 0x02001008, (24, 0x10000), (1, 0x0), .plain, .single, [⟨10, 8, .rw, 0x3, [(1, 7)]⟩, ⟨3, 0, .rw, 0x4, [(1, 15)]⟩]⟩,
   ⟨"CH_WR_INH", 0x0200100C, (24, 0x10000), (1, 0x0), .plain, .single, [⟨10, 0, .ro, 0x0, []⟩]⟩,
   ⟨"CH_WR_STAT", 0x02001010, (24, 0x10000), (1, 0x0), .plain, .single, [⟨11, 8, .ro, 0xF, []⟩, ⟨2, 0, .ro, 0x0, []⟩]⟩,
   ⟨"CH_WR_CUT_STAMP_LO", 0x02001018, (24, 0x10000), (1, 0x0), .plain, .lo, [⟨31, 0, .ro, 0x0, []⟩]⟩,
   ⟨"CH_WR_CUT_STAMP_HI", 0x0200101C, (24, 0x10000), (1, 0x0), .plain, .hi, [⟨31, 0, .ro, 0x0, []⟩]⟩,
   ⟨"CH_WR_CNT_SECT", 0x02001020, (24, 0x10000), (1, 0x0), .plain, .single, [⟨31, 0, .ro, 0x0, []⟩]⟩,
   ⟨"CH_WR_CNT_CUT", 0x02001024, (24, 0x10000), (1, 0x0), .plain, .single, [⟨31, 0, .ro, 0x0, []⟩]⟩,
   ⟨"CH_WR_CNT_REWRITE", 0x02001028, (24, 0x10000), (1, 0x0), .plain, .single, [⟨31, 0, .ro, 0x0, []⟩]⟩,
   ⟨"CH_WR_CNT_VFY", 0x0200102C, (24, 0x10000), (1, 0x0), .plain, .single, [⟨31, 0, .ro, 0x0, []⟩]⟩
  ]
  ++
  [
   ⟨"CH_WR_CNT_CLR", 0x02001030, (24, 0x10000), (1, 0x0), .plain, .single, [⟨3, 0, .wo, 0x0, []⟩]⟩,
   ⟨"CH_WR_FLT_STAT", 0x02001040, (24, 0x10000), (1, 0x0), .plain, .single, [⟨14, 14, .w1c, 0x0, []⟩, ⟨13, 13, .w1c, 0x0, []⟩, ⟨12, 12, .w1c, 0x0, []⟩, ⟨11, 11, .w1c, 0x0, []⟩, ⟨10, 0, .w1c, 0x0, []⟩]⟩,
   ⟨"CH_WR_FLT_MASK", 0x02001044, (24, 0x10000), (1, 0x0), .plain, .single, [⟨14, 14, .rw, 0x0, []⟩, ⟨13, 13, .rw, 0x0, []⟩, ⟨12, 12, .rw, 0x0, []⟩, ⟨11, 11, .rw, 0x0, []⟩, ⟨10, 0, .rw, 0x0, []⟩]⟩,
   ⟨"CH_WR_FLT_SEV0", 0x02001048, (24, 0x10000), (1, 0x0), .plain, .single, [⟨29, 27, .rw, 0x0, [(0, 4)]⟩, ⟨26, 24, .rw, 0x1, [(0, 4)]⟩, ⟨23, 21, .rw, 0x1, [(0, 4)]⟩, ⟨20, 18, .rw, 0x1, [(0, 4)]⟩, ⟨17, 15, .rw, 0x0, [(0, 4)]⟩, ⟨14, 12, .rw, 0x0, [(0, 4)]⟩, ⟨11, 9, .rw, 0x1, [(0, 4)]⟩, ⟨8, 6, .rw, 0x0, [(0, 4)]⟩, ⟨5, 3, .rw, 0x0, [(0, 4)]⟩, ⟨2, 0, .rw, 0x0, [(0, 4)]⟩]⟩,
   ⟨"CH_WR_FLT_SEV1", 0x0200104C, (24, 0x10000), (1, 0x0), .plain, .single, [⟨14, 12, .rw, 0x1, [(0, 4)]⟩, ⟨11, 9, .rw, 0x1, [(0, 4)]⟩, ⟨8, 6, .rw, 0x0, [(0, 4)]⟩, ⟨5, 3, .rw, 0x1, [(0, 4)]⟩, ⟨2, 0, .rw, 0x1, [(0, 4)]⟩]⟩,
   ⟨"CH_WTAB", 0x02002000, (24, 0x10000), (480, 0x4), .stored, .single, [⟨31, 0, .rw, 0x0, []⟩]⟩,
   ⟨"CH_ADAPT", 0x02008000, (24, 0x10000), (1920, 0x4), .stored, .single, [⟨31, 0, .rw, 0x0, []⟩]⟩
  ]

/-- Block TTH: the field maps of 01_architecture.md, 03_tether_clock.md. -/
def regsTTH : List RegDesc :=
  [
   ⟨"TTH_CTRL", 0x02400000, (1, 0x0), (1, 0x0), .plain, .single, [⟨11, 10, .wo, 0x0, []⟩, ⟨9, 9, .rw, 0x1, []⟩, ⟨8, 8, .rw, 0x1, []⟩, ⟨5, 4, .rw, 0x0, [(0, 1)]⟩, ⟨1, 1, .rw, 0x0, []⟩, ⟨0, 0, .rw, 0x0, []⟩]⟩,
   ⟨"TTH_STAT", 0x02400004, (1, 0x0), (1, 0x0), .plain, .single, [⟨31, 16, .ro, 0x0, []⟩, ⟨8, 8, .ro, 0x0, []⟩, ⟨7, 7, .ro, 0x0, []⟩, ⟨6, 6, .ro, 0x0, []⟩, ⟨5, 5, .ro, 0x0, []⟩, ⟨4, 4, .ro, 0x0, []⟩, ⟨3, 3, .ro, 0x0, []⟩, ⟨2, 0, .ro, 0x0, []⟩]⟩,
   ⟨"TTH_CFG", 0x02400008, (1, 0x0), (1, 0x0), .plain, .single, [⟨31, 24, .rw, 0xF0, []⟩, ⟨23, 16, .rw, 0x20, []⟩, ⟨15, 12, .rw, 0x8, [(1, 15)]⟩, ⟨11, 8, .rw, 0x4, [(1, 15)]⟩, ⟨4, 0, .rw, 0x6, [(2, 12)]⟩]⟩,
   ⟨"TTH_SKEW", 0x0240000C, (1, 0x0), (1, 0x0), .plain, .single, [⟨31, 31, .ro, 0x0, []⟩, ⟨30, 0, .ro, 0x0, []⟩]⟩,
   ⟨"TTH_SKEW_NOM", 0x02400010, (1, 0x0), (1, 0x0), .plain, .single, [⟨31, 31, .rw, 0x0, []⟩, ⟨30, 0, .rw, 0x0, []⟩]⟩,
   ⟨"TTH_ANGLE", 0x02400014, (1, 0x0), (1, 0x0), .plain, .single, [⟨31, 31, .ro, 0x0, []⟩, ⟨22, 0, .ro, 0x0, []⟩]⟩,
   ⟨"TTH_REV_PERIOD", 0x02400018, (1, 0x0), (1, 0x0), .plain, .single, [⟨31, 0, .ro, 0x0, []⟩]⟩,
   ⟨"TTH_LOSS_STAMP_LO", 0x02400020, (1, 0x0), (1, 0x0), .plain, .lo, [⟨31, 0, .ro, 0x0, []⟩]⟩,
   ⟨"TTH_LOSS_STAMP_HI", 0x02400024, (1, 0x0), (1, 0x0), .plain, .hi, [⟨31, 0, .ro, 0x0, []⟩]⟩,
   ⟨"TTH_FLT_STAT", 0x02400028, (1, 0x0), (1, 0x0), .plain, .single, [⟨7, 7, .w1c, 0x0, []⟩, ⟨6, 6, .w1c, 0x0, []⟩, ⟨5, 5, .w1c, 0x0, []⟩, ⟨4, 4, .w1c, 0x0, []⟩, ⟨3, 3, .w1c, 0x0, []⟩, ⟨2, 2, .w1c, 0x0, []⟩, ⟨1, 1, .w1c, 0x0, []⟩, ⟨0, 0, .w1c, 0x0, []⟩]⟩,
   ⟨"TTH_FLT_MASK", 0x0240002C, (1, 0x0), (1, 0x0), .plain, .single, [⟨7, 7, .rw, 0x0, []⟩, ⟨6, 6, .rw, 0x0, []⟩, ⟨5, 5, .rw, 0x0, []⟩, ⟨4, 4, .rw, 0x0, []⟩, ⟨3, 3, .rw, 0x0, []⟩, ⟨2, 2, .rw, 0x0, []⟩, ⟨1, 1, .rw, 0x0, []⟩, ⟨0, 0, .rw, 0x0, []⟩]⟩,
   ⟨"TTH_FLT_SEV", 0x02400030, (1, 0x0), (1, 0x0), .plain, .single, [⟨23, 21, .rw, 0x1, [(0, 4)]⟩, ⟨20, 18, .rw, 0x0, [(0, 4)]⟩, ⟨17, 15, .rw, 0x1, [(0, 4)]⟩, ⟨14, 12, .rw, 0x1, [(0, 4)]⟩, ⟨11, 9, .rw, 0x4, [(0, 4)]⟩, ⟨8, 6, .rw, 0x0, [(0, 4)]⟩, ⟨5, 3, .rw, 0x0, [(0, 4)]⟩, ⟨2, 0, .rw, 0x1, [(0, 4)]⟩]⟩,
   ⟨"TTH_ZBPR", 0x02401000, (120, 0x4), (1, 0x0), .plain, .single, [⟨26, 0, .rw, 0x0, []⟩]⟩,
   ⟨"TTH_STAMP_LO", 0x024F0000, (1, 0x0), (1, 0x0), .plain, .lo, [⟨31, 0, .ro, 0x0, []⟩]⟩,
   ⟨"TTH_STAMP_HI", 0x024F0004, (1, 0x0), (1, 0x0), .plain, .hi, [⟨31, 0, .ro, 0x0, []⟩]⟩,
   ⟨"TTH_TB_STAT", 0x024F0008, (1, 0x0), (1, 0x0), .plain, .single, [⟨31, 16, .ro, 0x0, []⟩, ⟨15, 8, .ro, 0x0, []⟩, ⟨0, 0, .w1c, 0x0, []⟩]⟩
  ]

/-- Block LDPC: the field maps of 04_read_channel.md. -/
def regsLDPC : List RegDesc :=
  [
   ⟨"LDPC_CTRL", 0x02500000, (18, 0x10000), (1, 0x0), .plain, .single, [⟨1, 1, .wo, 0x0, []⟩, ⟨0, 0, .rw, 0x1, []⟩]⟩,
   ⟨"LDPC_STAT", 0x02500004, (18, 0x10000), (1, 0x0), .plain, .single, [⟨31, 27, .ro, 0x1F, []⟩, ⟨26, 21, .ro, 0x0, []⟩, ⟨20, 20, .ro, 0x0, []⟩]⟩,
   ⟨"LDPC_CNT_JOBS", 0x02500008, (18, 0x10000), (1, 0x0), .plain, .single, [⟨31, 0, .ro, 0x0, []⟩]⟩,
   ⟨"LDPC_CNT_ITER", 0x0250000C, (18, 0x10000), (1, 0x0), .plain, .single, [⟨31, 0, .ro, 0x0, []⟩]⟩,
   ⟨"LDPC_FLT_STAT", 0x02500010, (18, 0x10000), (1, 0x0), .plain, .single, [⟨0, 0, .w1c, 0x0, []⟩]⟩,
   ⟨"LDPC_FLT_MASK", 0x02500014, (18, 0x10000), (1, 0x0), .plain, .single, [⟨0, 0, .rw, 0x0, []⟩]⟩,
   ⟨"LDPC_FLT_SEV", 0x02500018, (18, 0x10000), (1, 0x0), .plain, .single, [⟨2, 0, .rw, 0x2, [(0, 4)]⟩]⟩
  ]

/-- Block POOL: the field maps of 04_read_channel.md. -/
def regsPOOL : List RegDesc :=
  [
   ⟨"LDPC_POOL_CFG", 0x02700000, (1, 0x0), (1, 0x0), .plain, .single, [⟨18, 16, .rw, 0x4, [(2, 4)]⟩, ⟨13, 8, .rw, 0x28, [(8, 40)]⟩, ⟨7, 4, .rw, 0x5, [(1, 15)]⟩, ⟨3, 0, .rw, 0x8, [(1, 15)]⟩]⟩,
   ⟨"LDPC_POOL_BKLG", 0x02700004, (1, 0x0), (1, 0x0), .plain, .single, [⟨15, 8, .rw, 0x10, []⟩, ⟨7, 0, .rw, 0x30, []⟩]⟩,
   ⟨"LDPC_POOL_STAT", 0x02700008, (1, 0x0), (1, 0x0), .plain, .single, [⟨22, 22, .ro, 0x0, []⟩, ⟨21, 16, .ro, 0x0, []⟩, ⟨15, 8, .ro, 0x0, []⟩, ⟨7, 0, .ro, 0x0, []⟩]⟩,
   ⟨"LDPC_POOL_FLT_STAT", 0x02700010, (1, 0x0), (1, 0x0), .plain, .single, [⟨2, 2, .w1c, 0x0, []⟩, ⟨1, 1, .w1c, 0x0, []⟩, ⟨0, 0, .w1c, 0x0, []⟩]⟩,
   ⟨"LDPC_POOL_FLT_MASK", 0x02700014, (1, 0x0), (1, 0x0), .plain, .single, [⟨2, 2, .rw, 0x0, []⟩, ⟨1, 1, .rw, 0x0, []⟩, ⟨0, 0, .rw, 0x0, []⟩]⟩,
   ⟨"LDPC_POOL_FLT_SEV", 0x02700018, (1, 0x0), (1, 0x0), .plain, .single, [⟨8, 6, .rw, 0x1, [(0, 4)]⟩, ⟨5, 3, .rw, 0x4, [(0, 4)]⟩, ⟨2, 0, .rw, 0x0, [(0, 4)]⟩]⟩
  ]

/-- Block SEQ: the field maps of 06_media_format_sequencer.md. -/
def regsSEQ : List RegDesc :=
  [
   ⟨"SEQ_CTRL", 0x03000000, (4, 0x100000), (1, 0x0), .plain, .single, [⟨8, 8, .wo, 0x0, []⟩, ⟨2, 2, .wo, 0x0, []⟩, ⟨1, 1, .rw, 0x0, []⟩, ⟨0, 0, .rw, 0x0, []⟩]⟩,
   ⟨"SEQ_STAT", 0x03000004, (4, 0x100000), (1, 0x0), .plain, .single, [⟨29, 16, .ro, 0x0, []⟩, ⟨12, 8, .ro, 0x0, []⟩, ⟨7, 7, .ro, 0x0, []⟩, ⟨2, 0, .ro, 0x0, []⟩]⟩,
   ⟨"SEQ_RESUME", 0x03000008, (4, 0x100000), (1, 0x0), .plain, .single, [⟨13, 0, .ro, 0x0, []⟩]⟩,
   ⟨"SEQ_WP_LIMIT", 0x0300000C, (4, 0x100000), (1, 0x0), .plain, .single, [⟨15, 0, .rw, 0x1000, [(1, 65535)]⟩]⟩,
   ⟨"SEQ_PATCH_ID", 0x03000010, (4, 0x100000), (1, 0x0), .plain, .single, [⟨31, 31, .ro, 0x0, []⟩, ⟨30, 0, .ro, 0x0, []⟩]⟩,
   ⟨"SEQ_FMT", 0x03000014, (4, 0x100000), (1, 0x0), .plain, .single, [⟨29, 24, .rw, 0x0, []⟩, ⟨19, 16, .rw, 0x8, [(8, 16)]⟩, ⟨9, 0, .rw, 0x0, [(1, 640)]⟩]⟩,
   ⟨"SEQ_TRACKS", 0x03000018, (4, 0x100000), (1, 0x0), .plain, .single, [⟨22, 0, .rw, 0x0, [(0, 4194304)]⟩]⟩,
   ⟨"SEQ_UNIT", 0x0300001C, (4, 0x100000), (1, 0x0), .plain, .single, [⟨8, 0, .rw, 0x40, [(1, 256)]⟩]⟩,
   ⟨"SEQ_DEF_BASE_LO", 0x03000020, (4, 0x100000), (1, 0x0), .plain, .lo, [⟨31, 4, .ro, 0x0, []⟩]⟩,
   ⟨"SEQ_DEF_BASE_HI", 0x03000024, (4, 0x100000), (1, 0x0), .plain, .hi, [⟨2, 0, .ro, 0x0, []⟩]⟩,
   ⟨"SEQ_DEF_COUNT", 0x03000028, (4, 0x100000), (1, 0x0), .plain, .single, [⟨23, 0, .ro, 0x0, []⟩]⟩,
   ⟨"SEQ_DEF_NBASE_LO", 0x03000030, (4, 0x100000), (1, 0x0), .plain, .lo, [⟨31, 4, .rw, 0x0, []⟩]⟩,
   ⟨"SEQ_DEF_NBASE_HI", 0x03000034, (4, 0x100000), (1, 0x0), .plain, .hi, [⟨2, 0, .rw, 0x0, []⟩]⟩,
   ⟨"SEQ_DEF_NCOUNT", 0x03000038, (4, 0x100000), (1, 0x0), .plain, .single, [⟨23, 0, .rw, 0x0, []⟩]⟩,
   ⟨"SEQ_FLT_STAT", 0x03000040, (4, 0x100000), (1, 0x0), .plain, .single, [⟨7, 7, .w1c, 0x0, []⟩, ⟨6, 6, .w1c, 0x0, []⟩, ⟨5, 5, .w1c, 0x0, []⟩, ⟨4, 4, .w1c, 0x0, []⟩, ⟨3, 3, .w1c, 0x0, []⟩, ⟨2, 2, .w1c, 0x0, []⟩, ⟨1, 1, .w1c, 0x0, []⟩, ⟨0, 0, .w1c, 0x0, []⟩]⟩,
   ⟨"SEQ_FLT_MASK", 0x03000044, (4, 0x100000), (1, 0x0), .plain, .single, [⟨7, 7, .rw, 0x0, []⟩, ⟨6, 6, .rw, 0x0, []⟩, ⟨5, 5, .rw, 0x0, []⟩, ⟨4, 4, .rw, 0x0, []⟩, ⟨3, 3, .rw, 0x0, []⟩, ⟨2, 2, .rw, 0x0, []⟩, ⟨1, 1, .rw, 0x0, []⟩, ⟨0, 0, .rw, 0x0, []⟩]⟩,
   ⟨"SEQ_FLT_SEV", 0x03000048, (4, 0x100000), (1, 0x0), .plain, .single, [⟨23, 21, .rw, 0x4, [(0, 4)]⟩, ⟨20, 18, .rw, 0x1, [(0, 4)]⟩, ⟨17, 15, .rw, 0x3, [(0, 4)]⟩, ⟨14, 12, .rw, 0x1, [(0, 4)]⟩, ⟨11, 9, .rw, 0x1, [(0, 4)]⟩, ⟨8, 6, .rw, 0x2, [(0, 4)]⟩, ⟨5, 3, .rw, 0x2, [(0, 4)]⟩, ⟨2, 0, .rw, 0x2, [(0, 4)]⟩]⟩,
   ⟨"SEQ_TRAP", 0x03001000, (4, 0x100000), (32, 0x4), .plain, .single, [⟨31, 31, .ro, 0x0, []⟩, ⟨29, 16, .ro, 0x0, []⟩, ⟨13, 0, .ro, 0x0, []⟩]⟩,
   ⟨"SEQ_ZFMT", 0x03008000, (4, 0x100000), (480, 0x4), .stored, .single, [⟨31, 0, .rw, 0x0, []⟩]⟩
  ]

/-- Block SRV: the field maps of 07_servo_positioning.md. -/
def regsSRV : List RegDesc :=
  [
   ⟨"SRV_CTRL", 0x03400000, (1, 0x0), (1, 0x0), .plain, .single, [⟨3, 0, .rw, 0x0, []⟩]⟩,
   ⟨"SRV_DEMOD", 0x03400004, (1, 0x0), (1, 0x0), .plain, .single, [⟨31, 24, .rw, 0xE0, []⟩, ⟨23, 16, .rw, 0x30, []⟩, ⟨11, 8, .rw, 0xC, [(4, 15)]⟩, ⟨5, 4, .rw, 0x1, []⟩, ⟨2, 0, .rw, 0x2, [(1, 7)]⟩]⟩,
   ⟨"SRV_FLT_STAT", 0x03400010, (1, 0x0), (1, 0x0), .plain, .single, [⟨31, 30, .w1c, 0x0, []⟩, ⟨29, 28, .w1c, 0x0, []⟩, ⟨27, 24, .w1c, 0x0, []⟩, ⟨23, 20, .w1c, 0x0, []⟩, ⟨19, 16, .w1c, 0x0, []⟩, ⟨15, 12, .w1c, 0x0, []⟩, ⟨11, 8, .w1c, 0x0, []⟩, ⟨7, 4, .w1c, 0x0, []⟩, ⟨3, 0, .w1c, 0x0, []⟩]⟩,
   ⟨"SRV_FLT_MASK", 0x03400014, (1, 0x0), (1, 0x0), .plain, .single, [⟨31, 30, .rw, 0x0, []⟩, ⟨29, 28, .rw, 0x0, []⟩, ⟨27, 24, .rw, 0x0, []⟩, ⟨23, 20, .rw, 0x0, []⟩, ⟨19, 16, .rw, 0x0, []⟩, ⟨15, 12, .rw, 0x0, []⟩, ⟨11, 8, .rw, 0x0, []⟩, ⟨7, 4, .rw, 0x0, []⟩, ⟨3, 0, .rw, 0x0, []⟩]⟩,
   ⟨"SRV_FLT_SEV", 0x03400018, (1, 0x0), (1, 0x0), .plain, .single, [⟨26, 24, .rw, 0x3, [(0, 4)]⟩, ⟨23, 21, .rw, 0x0, [(0, 4)]⟩, ⟨20, 18, .rw, 0x3, [(0, 4)]⟩, ⟨17, 15, .rw, 0x1, [(0, 4)]⟩, ⟨14, 12, .rw, 0x1, [(0, 4)]⟩, ⟨11, 9, .rw, 0x3, [(0, 4)]⟩, ⟨8, 6, .rw, 0x3, [(0, 4)]⟩, ⟨5, 3, .rw, 0x3, [(0, 4)]⟩, ⟨2, 0, .rw, 0x1, [(0, 4)]⟩]⟩,
   ⟨"SRV_GUST_0_CFG", 0x03400100, (1, 0x0), (1, 0x0), .plain, .single, [⟨19, 16, .rw, 0x3, []⟩, ⟨11, 8, .rw, 0x2, [(1, 7)]⟩, ⟨1, 1, .rw, 0x0, []⟩, ⟨0, 0, .rw, 0x0, []⟩]⟩,
   ⟨"SRV_GUST_1_CFG", 0x03400120, (1, 0x0), (1, 0x0), .plain, .single, [⟨19, 16, .rw, 0xC, []⟩, ⟨11, 8, .rw, 0x2, [(1, 7)]⟩, ⟨1, 1, .rw, 0x0, []⟩, ⟨0, 0, .rw, 0x0, []⟩]⟩,
   ⟨"SRV_GUST_TRIP", 0x03400104, (2, 0x20), (1, 0x0), .plain, .single, [⟨31, 16, .rw, 0x7FFF, []⟩, ⟨15, 0, .rw, 0x7FFF, []⟩]⟩,
   ⟨"SRV_GUST_TIME", 0x03400108, (2, 0x20), (1, 0x0), .plain, .single, [⟨31, 16, .rw, 0x1F4, []⟩, ⟨7, 0, .rw, 0x32, [(1, 255)]⟩]⟩,
   ⟨"SRV_GUST_LAST", 0x0340010C, (2, 0x20), (1, 0x0), .plain, .single, [⟨31, 16, .ro, 0x0, []⟩, ⟨15, 0, .ro, 0x0, []⟩]⟩,
   ⟨"SRV_GUST_STAT", 0x03400110, (2, 0x20), (1, 0x0), .plain, .single, [⟨31, 16, .ro, 0x0, []⟩, ⟨1, 1, .ro, 0x0, []⟩, ⟨0, 0, .ro, 0x0, []⟩]⟩,
   ⟨"SRV_ACT_CTRL", 0x03401000, (4, 0x100), (1, 0x0), .plain, .single, [⟨29, 8, .rw, 0x0, []⟩, ⟨7, 7, .rw, 0x1, []⟩, ⟨6, 4, .rw, 0x0, [(0, 5)]⟩, ⟨2, 0, .wo, 0x0, []⟩]⟩,
   ⟨"SRV_ACT_STAT", 0x03401004, (4, 0x100), (1, 0x0), .plain, .single, [⟨31, 28, .ro, 0x0, []⟩, ⟨25, 25, .ro, 0x0, []⟩, ⟨24, 24, .ro, 0x0, []⟩, ⟨21, 0, .ro, 0x0, []⟩]⟩,
   ⟨"SRV_ACT_LIM", 0x03401008, (4, 0x100), (1, 0x0), .plain, .single, [⟨31, 24, .rw, 0x32, [(1, 255)]⟩, ⟨23, 20, .rw, 0xC, [(1, 15)]⟩, ⟨19, 16, .rw, 0x4, [(1, 15)]⟩, ⟨15, 8, .rw, 0x10, []⟩, ⟨7, 0, .rw, 0x40, []⟩]⟩,
   ⟨"SRV_ACT_VFOL", 0x0340100C, (4, 0x100), (1, 0x0), .plain, .single, [⟨31, 28, .rw, 0x8, [(1, 15)]⟩, ⟨27, 24, .rw, 0x4, [(1, 15)]⟩, ⟨23, 12, .rw, 0x100, []⟩, ⟨11, 0, .rw, 0x20, []⟩]⟩,
   ⟨"SRV_ACT_RET", 0x03401010, (4, 0x100), (1, 0x0), .plain, .single, [⟨31, 16, .rw, 0xF000, []⟩, ⟨15, 8, .rw, 0x32, []⟩]⟩,
   ⟨"SRV_VCM_PWM", 0x03401014, (4, 0x100), (1, 0x0), .plain, .single, [⟨31, 16, .rw, 0xE000, []⟩, ⟨15, 15, .rw, 0x0, []⟩, ⟨9, 0, .rw, 0x1F4, [(100, 1023)]⟩]⟩,
   ⟨"SRV_VCM_PI", 0x03401018, (4, 0x100), (1, 0x0), .plain, .single, [⟨31, 16, .rw, 0x0, []⟩, ⟨15, 0, .rw, 0x0, []⟩]⟩,
   ⟨"SRV_VCM_I", 0x0340101C, (4, 0x100), (1, 0x0), .plain, .single, [⟨31, 16, .ro, 0x0, []⟩, ⟨15, 0, .ro, 0x0, []⟩]⟩,
   ⟨"SRV_HD_TGT", 0x03404000, (24, 0x40), (1, 0x0), .plain, .single, [⟨31, 31, .ro, 0x0, []⟩, ⟨29, 22, .rw, 0x0, []⟩, ⟨21, 0, .ro, 0x0, []⟩]⟩,
   ⟨"SRV_HD_STAT", 0x03404004, (24, 0x40), (1, 0x0), .plain, .single, [⟨31, 29, .ro, 0x0, []⟩, ⟨28, 28, .ro, 0x0, []⟩, ⟨27, 27, .w1c, 0x0, []⟩, ⟨26, 26, .w1c, 0x0, []⟩, ⟨25, 24, .ro, 0x3, []⟩, ⟨21, 0, .ro, 0x0, []⟩]⟩,
   ⟨"SRV_HD_PES", 0x03404008, (24, 0x40), (1, 0x0), .plain, .single, [⟨25, 16, .ro, 0x0, []⟩, ⟨15, 0, .ro, 0x0, []⟩]⟩,
   ⟨"SRV_HD_SAMANG", 0x0340400C, (24, 0x40), (1, 0x0), .plain, .single, [⟨30, 0, .rw, 0x0, []⟩]⟩,
   ⟨"SRV_HD_CAL", 0x03404010, (24, 0x40), (1, 0x0), .plain, .single, [⟨31, 16, .rw, 0x2000, []⟩, ⟨15, 12, .rw, 0x3, [(1, 15)]⟩, ⟨11, 0, .rw, 0x30, []⟩]⟩,
   ⟨"SRV_MR", 0x03408000, (24, 0x100), (60, 0x4), .plain, .single, [⟨31, 16, .rw, 0x0, []⟩, ⟨15, 0, .rw, 0x0, []⟩]⟩
  ]

/-- Block CLE: the field maps of 08_control_engine.md. -/
def regsCLE : List RegDesc :=
  [
   ⟨"CLE_CTRL", 0x03500000, (1, 0x0), (1, 0x0), .plain, .single, [⟨0, 0, .rw, 0x0, []⟩]⟩,
   ⟨"CLE_STAT", 0x03500004, (1, 0x0), (1, 0x0), .plain, .single, [⟨8, 8, .ro, 0x0, []⟩, ⟨7, 4, .ro, 0x0, []⟩, ⟨1, 1, .ro, 0x0, []⟩, ⟨0, 0, .ro, 0x0, []⟩]⟩,
   ⟨"CLE_LAT", 0x03500008, (1, 0x0), (1, 0x0), .plain, .single, [⟨20, 16, .rc, 0x0, []⟩, ⟨7, 0, .rc, 0x0, []⟩]⟩,
   ⟨"CLE_FLT_STAT", 0x03500010, (1, 0x0), (1, 0x0), .plain, .single, [⟨5, 5, .w1c, 0x0, []⟩, ⟨4, 4, .w1c, 0x0, []⟩, ⟨3, 3, .w1c, 0x0, []⟩, ⟨2, 2, .w1c, 0x0, []⟩, ⟨1, 1, .w1c, 0x0, []⟩, ⟨0, 0, .w1c, 0x0, []⟩]⟩,
   ⟨"CLE_FLT_MASK", 0x03500014, (1, 0x0), (1, 0x0), .plain, .single, [⟨5, 5, .rw, 0x0, []⟩, ⟨4, 4, .rw, 0x0, []⟩, ⟨3, 3, .rw, 0x0, []⟩, ⟨2, 2, .rw, 0x0, []⟩, ⟨1, 1, .rw, 0x0, []⟩, ⟨0, 0, .rw, 0x0, []⟩]⟩,
   ⟨"CLE_FLT_SEV", 0x03500018, (1, 0x0), (1, 0x0), .plain, .single, [⟨17, 15, .rw, 0x1, [(0, 4)]⟩, ⟨14, 12, .rw, 0x0, [(0, 4)]⟩, ⟨11, 9, .rw, 0x1, [(0, 4)]⟩, ⟨8, 6, .rw, 0x0, [(0, 4)]⟩, ⟨5, 3, .rw, 0x3, [(0, 4)]⟩, ⟨2, 0, .rw, 0x1, [(0, 4)]⟩]⟩,
   ⟨"CLE_COMMIT", 0x03500020, (1, 0x0), (1, 0x0), .plain, .single, [⟨9, 8, .wo, 0x0, []⟩, ⟨4, 0, .wo, 0x0, []⟩]⟩,
   ⟨"CLE_INJ_CTRL", 0x03500030, (1, 0x0), (1, 0x0), .plain, .single, [⟨31, 31, .rw, 0x0, []⟩, ⟨9, 8, .rw, 0x0, [(0, 2)]⟩, ⟨6, 5, .rw, 0x0, [(0, 1)]⟩, ⟨4, 0, .rw, 0x0, [(0, 29)]⟩]⟩,
   ⟨"CLE_INJ_AMP", 0x03500034, (1, 0x0), (1, 0x0), .plain, .single, [⟨31, 0, .rw, 0x0, [(0, 2147483647)]⟩]⟩,
   ⟨"CLE_INJ_FREQ", 0x03500038, (1, 0x0), (1, 0x0), .plain, .single, [⟨31, 0, .rw, 0x0, []⟩]⟩,
   ⟨"CLE_CAP_CTRL", 0x03500040, (1, 0x0), (1, 0x0), .plain, .single, [⟨31, 31, .wo, 0x0, []⟩, ⟨28, 16, .rw, 0x1000, [(1, 4096)]⟩, ⟨12, 12, .rw, 0x0, []⟩, ⟨11, 8, .rw, 0x0, []⟩, ⟨4, 0, .rw, 0x0, [(0, 29)]⟩]⟩,
   ⟨"CLE_CAP_STAT", 0x03500044, (1, 0x0), (1, 0x0), .plain, .single, [⟨28, 16, .ro, 0x0, []⟩, ⟨2, 2, .ro, 0x0, []⟩, ⟨1, 1, .ro, 0x0, []⟩, ⟨0, 0, .ro, 0x0, []⟩]⟩,
   ⟨"CLE_SEEK_CFG", 0x03500080, (4, 0x10), (1, 0x0), .plain, .single, [⟨21, 16, .rw, 0x0, []⟩, ⟨15, 0, .rw, 0x0, []⟩]⟩,
   ⟨"CLE_SEEK_R", 0x03500084, (4, 0x10), (1, 0x0), .plain, .single, [⟨31, 0, .ro, 0x0, []⟩]⟩,
   ⟨"CLE_SEEK_V", 0x03500088, (4, 0x10), (1, 0x0), .plain, .single, [⟨15, 0, .ro, 0x0, []⟩]⟩,
   ⟨"CLE_LOOP_CTRL", 0x03500100, (30, 0x20), (1, 0x0), .plain, .single, [⟨15, 8, .rw, 0xA, [(1, 255)]⟩, ⟨7, 4, .rw, 0x3, [(1, 15)]⟩, ⟨1, 1, .wo, 0x0, []⟩, ⟨0, 0, .rw, 0x0, []⟩]⟩,
   ⟨"CLE_LOOP_STAT", 0x03500104, (30, 0x20), (1, 0x0), .plain, .single, [⟨31, 16, .ro, 0x0, []⟩, ⟨13, 12, .ro, 0x0, []⟩, ⟨11, 8, .ro, 0x0, []⟩, ⟨4, 4, .w1c, 0x0, []⟩, ⟨3, 3, .w1c, 0x0, []⟩, ⟨2, 2, .w1c, 0x0, []⟩, ⟨1, 1, .w1c, 0x0, []⟩, ⟨0, 0, .w1c, 0x0, []⟩]⟩,
   ⟨"CLE_LOOP_OUT", 0x03500108, (30, 0x20), (1, 0x0), .plain, .single, [⟨31, 0, .ro, 0x0, []⟩]⟩,
   ⟨"CLE_LOOP_OUT2", 0x0350010C, (30, 0x20), (1, 0x0), .plain, .single, [⟨31, 0, .ro, 0x0, []⟩]⟩,
   ⟨"CLE_LOOP_CNT", 0x03500110, (30, 0x20), (1, 0x0), .plain, .single, [⟨31, 0, .ro, 0x0, []⟩]⟩,
   ⟨"CLE_LOOP_OVR", 0x03500114, (30, 0x20), (1, 0x0), .plain, .single, [⟨31, 0, .ro, 0x0, []⟩]⟩,
   ⟨"CLE_STAGE", 0x03501000, (32, 0x4), (1, 0x0), .stored, .single, [⟨31, 0, .rw, 0x0, []⟩]⟩,
   ⟨"CLE_PROF_LO", 0x03506000, (4, 0x100), (32, 0x8), .plain, .lo, [⟨21, 0, .rw, 0x0, []⟩]⟩,
   ⟨"CLE_PROF_HI", 0x03506004, (4, 0x100), (32, 0x8), .plain, .hi, [⟨15, 0, .rw, 0x0, []⟩]⟩
  ]

/-- Block SPN: the field maps of 09_spindle_ballast.md. -/
def regsSPN : List RegDesc :=
  [
   ⟨"SPN_CTRL", 0x03600000, (1, 0x0), (1, 0x0), .plain, .single, [⟨10, 8, .wo, 0x0, []⟩, ⟨5, 4, .rw, 0x1, [(0, 1)]⟩, ⟨2, 2, .rw, 0x1, []⟩, ⟨1, 1, .rw, 0x0, []⟩, ⟨0, 0, .rw, 0x0, []⟩]⟩,
   ⟨"SPN_STAT", 0x03600004, (1, 0x0), (1, 0x0), .plain, .single, [⟨31, 28, .ro, 0x0, []⟩, ⟨27, 27, .ro, 0x0, []⟩, ⟨26, 26, .ro, 0x0, []⟩, ⟨25, 25, .ro, 0x0, []⟩, ⟨24, 24, .ro, 0x0, []⟩, ⟨23, 23, .ro, 0x0, []⟩, ⟨22, 22, .ro, 0x0, []⟩, ⟨21, 21, .ro, 0x0, []⟩, ⟨20, 20, .ro, 0x0, []⟩, ⟨19, 16, .ro, 0x0, []⟩, ⟨15, 15, .ro, 0x0, []⟩]⟩,
   ⟨"SPN_TARGET", 0x03600008, (1, 0x0), (1, 0x0), .plain, .single, [⟨31, 16, .rw, 0x258, []⟩, ⟨13, 0, .rw, 0x1C20, [(5400, 10000)]⟩]⟩,
   ⟨"SPN_SPEED", 0x0360000C, (1, 0x0), (1, 0x0), .plain, .single, [⟨23, 0, .ro, 0x0, []⟩]⟩,
   ⟨"SPN_SPERR", 0x03600010, (1, 0x0), (1, 0x0), .plain, .single, [⟨15, 0, .ro, 0x0, []⟩]⟩,
   ⟨"SPN_ANGLE", 0x03600014, (1, 0x0), (1, 0x0), .plain, .single, [⟨31, 31, .ro, 0x0, []⟩, ⟨15, 0, .ro, 0x0, []⟩]⟩,
   ⟨"SPN_IDQ", 0x03600018, (1, 0x0), (1, 0x0), .plain, .single, [⟨31, 16, .ro, 0x0, []⟩, ⟨15, 0, .ro, 0x0, []⟩]⟩,
   ⟨"SPN_VBUS", 0x0360001C, (1, 0x0), (1, 0x0), .plain, .single, [⟨15, 0, .ro, 0x0, []⟩]⟩,
   ⟨"SPN_PWM", 0x03600020, (1, 0x0), (1, 0x0), .plain, .single, [⟨12, 0, .rw, 0x1047, [(2000, 8191)]⟩]⟩,
   ⟨"SPN_MOTOR", 0x03600024, (1, 0x0), (1, 0x0), .plain, .single, [⟨31, 16, .rw, 0x0, []⟩, ⟨3, 0, .rw, 0x4, [(1, 12)]⟩]⟩,
   ⟨"SPN_OBS_R", 0x03600028, (1, 0x0), (1, 0x0), .plain, .single, [⟨31, 0, .rw, 0x0, []⟩]⟩,
   ⟨"SPN_OBS_L", 0x0360002C, (1, 0x0), (1, 0x0), .plain, .single, [⟨31, 0, .rw, 0x0, []⟩]⟩,
   ⟨"SPN_OBS_KE", 0x03600030, (1, 0x0), (1, 0x0), .plain, .single, [⟨31, 0, .rw, 0x0, []⟩]⟩,
   ⟨"SPN_OBS_CFG", 0x03600034, (1, 0x0), (1, 0x0), .plain, .single, [⟨31, 24, .rw, 0x10, [(1, 255)]⟩, ⟨23, 16, .rw, 0x2D, []⟩, ⟨15, 8, .rw, 0x13, []⟩, ⟨7, 0, .rw, 0x1E, []⟩]⟩,
   ⟨"SPN_LIM", 0x03600038, (1, 0x0), (1, 0x0), .plain, .single, [⟨31, 16, .rw, 0x0, []⟩, ⟨15, 0, .rw, 0x0, []⟩]⟩,
   ⟨"SPN_FW", 0x0360003C, (1, 0x0), (1, 0x0), .plain, .single, [⟨31, 24, .rw, 0xF3, []⟩, ⟨23, 16, .rw, 0xE6, []⟩, ⟨15, 0, .rw, 0x10, []⟩]⟩,
   ⟨"SPN_START", 0x03600040, (1, 0x0), (1, 0x0), .plain, .single, [⟨31, 24, .rw, 0xC8, []⟩, ⟨23, 16, .rw, 0xC8, [(1, 255)]⟩, ⟨15, 12, .rw, 0x3, [(1, 15)]⟩, ⟨11, 0, .rw, 0x64, []⟩]⟩,
   ⟨"SPN_BRAKE", 0x03600044, (1, 0x0), (1, 0x0), .plain, .single, [⟨31, 16, .rw, 0xC8, []⟩, ⟨15, 0, .rw, 0x1388, []⟩]⟩,
   ⟨"SPN_BUS", 0x03600048, (1, 0x0), (1, 0x0), .plain, .single, [⟨31, 16, .rw, 0x4E20, []⟩, ⟨15, 0, .rw, 0x2A30, []⟩]⟩,
   ⟨"SPN_BAL", 0x0360004C, (1, 0x0), (1, 0x0), .plain, .single, [⟨31, 16, .rw, 0x3390, []⟩, ⟨15, 0, .rw, 0x3200, []⟩]⟩,
   ⟨"SPN_PLOSS", 0x03600050, (1, 0x0), (1, 0x0), .plain, .single, [⟨31, 16, .rw, 0x2328, []⟩, ⟨15, 0, .rw, 0x3E8, []⟩]⟩,
   ⟨"SPN_SPDREF_CFG", 0x03600054, (1, 0x0), (1, 0x0), .plain, .single, [⟨31, 30, .rw, 0x0, []⟩, ⟨29, 29, .rw, 0x0, []⟩, ⟨27, 16, .rw, 0x0, []⟩, ⟨15, 8, .rw, 0x1, [(1, 255)]⟩, ⟨7, 0, .rw, 0x19, []⟩]⟩,
   ⟨"SPN_SPDREF_STAT", 0x03600058, (1, 0x0), (1, 0x0), .plain, .single, [⟨31, 31, .ro, 0x0, []⟩, ⟨30, 30, .ro, 0x0, []⟩, ⟨13, 0, .ro, 0x0, []⟩]⟩,
   ⟨"SPN_CNT", 0x03600060, (1, 0x0), (1, 0x0), .plain, .single, [⟨31, 16, .ro, 0x0, []⟩, ⟨15, 0, .ro, 0x0, []⟩]⟩,
   ⟨"SPN_PLOSS_STAMP_LO", 0x03600064, (1, 0x0), (1, 0x0), .plain, .lo, [⟨31, 0, .ro, 0x0, []⟩]⟩,
   ⟨"SPN_PLOSS_STAMP_HI", 0x03600068, (1, 0x0), (1, 0x0), .plain, .hi, [⟨31, 0, .ro, 0x0, []⟩]⟩,
   ⟨"SPN_FLT_STAT", 0x03600070, (1, 0x0), (1, 0x0), .plain, .single, [⟨12, 12, .w1c, 0x0, []⟩, ⟨11, 11, .w1c, 0x0, []⟩, ⟨10, 10, .w1c, 0x0, []⟩, ⟨9, 9, .w1c, 0x0, []⟩, ⟨8, 8, .w1c, 0x0, []⟩, ⟨7, 7, .w1c, 0x0, []⟩, ⟨6, 6, .w1c, 0x0, []⟩, ⟨5, 5, .w1c, 0x0, []⟩, ⟨4, 4, .w1c, 0x0, []⟩, ⟨3, 3, .w1c, 0x0, []⟩, ⟨2, 2, .w1c, 0x0, []⟩, ⟨1, 1, .w1c, 0x0, []⟩, ⟨0, 0, .w1c, 0x0, []⟩]⟩,
   ⟨"SPN_FLT_MASK", 0x03600074, (1, 0x0), (1, 0x0), .plain, .single, [⟨12, 12, .rw, 0x0, []⟩, ⟨11, 11, .rw, 0x0, []⟩, ⟨10, 10, .rw, 0x0, []⟩, ⟨9, 9, .rw, 0x0, []⟩, ⟨8, 8, .rw, 0x0, []⟩, ⟨7, 7, .rw, 0x0, []⟩, ⟨6, 6, .rw, 0x0, []⟩, ⟨5, 5, .rw, 0x0, []⟩, ⟨4, 4, .rw, 0x0, []⟩, ⟨3, 3, .rw, 0x0, []⟩, ⟨2, 2, .rw, 0x0, []⟩, ⟨1, 1, .rw, 0x0, []⟩, ⟨0, 0, .rw, 0x0, []⟩]⟩,
   ⟨"SPN_FLT_SEV0", 0x03600078, (1, 0x0), (1, 0x0), .plain, .single, [⟨17, 15, .rw, 0x3, [(0, 4)]⟩, ⟨14, 12, .rw, 0x3, [(0, 4)]⟩, ⟨11, 9, .rw, 0x3, [(0, 4)]⟩, ⟨8, 6, .rw, 0x4, [(0, 4)]⟩, ⟨5, 3, .rw, 0x1, [(0, 4)]⟩, ⟨2, 0, .rw, 0x0, [(0, 4)]⟩]⟩,
   ⟨"SPN_FLT_SEV1", 0x0360007C, (1, 0x0), (1, 0x0), .plain, .single, [⟨20, 18, .rw, 0x1, [(0, 4)]⟩, ⟨17, 15, .rw, 0x0, [(0, 4)]⟩, ⟨14, 12, .rw, 0x1, [(0, 4)]⟩, ⟨11, 9, .rw, 0x0, [(0, 4)]⟩, ⟨8, 6, .rw, 0x4, [(0, 4)]⟩, ⟨5, 3, .rw, 0x4, [(0, 4)]⟩, ⟨2, 0, .rw, 0x0, [(0, 4)]⟩]⟩
  ]

/-- Block DEP: the field maps of 10_buffer_depot.md. -/
def regsDEP : List RegDesc :=
  [
   ⟨"DEP_CTRL", 0x04000000, (1, 0x0), (1, 0x0), .plain, .single, [⟨0, 0, .rw, 0x0, []⟩]⟩,
   ⟨"DEP_STAT", 0x04000004, (1, 0x0), (1, 0x0), .plain, .single, [⟨7, 4, .ro, 0x0, []⟩, ⟨1, 0, .ro, 0x0, []⟩]⟩,
   ⟨"DEP_REQ_ARG", 0x04000010, (1, 0x0), (1, 0x0), .plain, .single, [⟨31, 0, .rw, 0x0, []⟩]⟩,
   ⟨"DEP_REQ", 0x04000014, (1, 0x0), (1, 0x0), .plain, .single, [⟨31, 28, .wo, 0x0, []⟩, ⟨27, 27, .wo, 0x0, []⟩, ⟨26, 26, .wo, 0x0, []⟩, ⟨25, 24, .wo, 0x0, []⟩, ⟨15, 8, .wo, 0xC0, []⟩, ⟨7, 0, .wo, 0x0, []⟩]⟩,
   ⟨"DEP_RESP", 0x04000018, (1, 0x0), (1, 0x0), .plain, .single, [⟨31, 0, .ro, 0xFFFFFFFF, []⟩]⟩,
   ⟨"DEP_RESP_STAT", 0x0400001C, (1, 0x0), (1, 0x0), .plain, .single, [⟨31, 31, .ro, 0x0, []⟩, ⟨3, 0, .ro, 0x0, []⟩]⟩,
   ⟨"DEP_RESP_Q_LO", 0x04000020, (1, 0x0), (1, 0x0), .plain, .lo, [⟨31, 0, .ro, 0x0, []⟩]⟩,
   ⟨"DEP_RESP_Q_HI", 0x04000024, (1, 0x0), (1, 0x0), .plain, .hi, [⟨31, 0, .ro, 0x0, []⟩]⟩,
   ⟨"DEP_REJ_LOG0", 0x04000030, (1, 0x0), (1, 0x0), .plain, .single, [⟨31, 0, .ro, 0x0, []⟩]⟩,
   ⟨"DEP_REJ_LOG1", 0x04000034, (1, 0x0), (1, 0x0), .plain, .single, [⟨31, 24, .ro, 0x0, []⟩, ⟨23, 16, .ro, 0x0, []⟩, ⟨15, 12, .ro, 0x0, []⟩, ⟨11, 8, .ro, 0x0, []⟩]⟩,
   ⟨"DEP_REJ_CNT", 0x04000038, (1, 0x0), (1, 0x0), .plain, .single, [⟨31, 0, .ro, 0x0, []⟩]⟩,
   ⟨"DEP_FLT_STAT", 0x04000040, (1, 0x0), (1, 0x0), .plain, .single, [⟨13, 13, .w1c, 0x0, []⟩, ⟨12, 12, .w1c, 0x0, []⟩, ⟨11, 11, .w1c, 0x0, []⟩, ⟨10, 10, .w1c, 0x0, []⟩, ⟨9, 9, .w1c, 0x0, []⟩, ⟨8, 8, .w1c, 0x0, []⟩, ⟨7, 4, .w1c, 0x0, []⟩, ⟨3, 0, .w1c, 0x0, []⟩]⟩,
   ⟨"DEP_FLT_MASK", 0x04000044, (1, 0x0), (1, 0x0), .plain, .single, [⟨13, 13, .rw, 0x0, []⟩, ⟨12, 12, .rw, 0x0, []⟩, ⟨11, 11, .rw, 0x0, []⟩, ⟨10, 10, .rw, 0x0, []⟩, ⟨9, 9, .rw, 0x0, []⟩, ⟨8, 8, .rw, 0x0, []⟩, ⟨7, 4, .rw, 0x0, []⟩, ⟨3, 0, .rw, 0x0, []⟩]⟩,
   ⟨"DEP_FLT_SEV", 0x04000048, (1, 0x0), (1, 0x0), .plain, .single, [⟨23, 21, .rw, 0x0, [(0, 4)]⟩, ⟨20, 18, .rw, 0x0, [(0, 4)]⟩, ⟨17, 15, .rw, 0x4, [(0, 4)]⟩, ⟨14, 12, .rw, 0x1, [(0, 4)]⟩, ⟨11, 9, .rw, 0x1, [(0, 4)]⟩, ⟨8, 6, .rw, 0x1, [(0, 4)]⟩, ⟨5, 3, .rw, 0x1, [(0, 4)]⟩, ⟨2, 0, .rw, 0x1, [(0, 4)]⟩]⟩,
   ⟨"DEP_P_BASE_LO", 0x04000100, (4, 0x40), (1, 0x0), .plain, .lo, [⟨31, 12, .rw, 0x0, []⟩]⟩,
   ⟨"DEP_P_BASE_HI", 0x04000104, (4, 0x40), (1, 0x0), .plain, .hi, [⟨2, 0, .rw, 0x0, []⟩]⟩,
   ⟨"DEP_P_COUNT", 0x04000108, (4, 0x40), (1, 0x0), .plain, .single, [⟨19, 0, .rw, 0x0, []⟩]⟩,
   ⟨"DEP_P_STATE_LO", 0x0400010C, (4, 0x40), (1, 0x0), .plain, .lo, [⟨31, 6, .rw, 0x0, []⟩]⟩,
   ⟨"DEP_P_STATE_HI", 0x04000110, (4, 0x40), (1, 0x0), .plain, .hi, [⟨2, 0, .rw, 0x0, []⟩]⟩,
   ⟨"DEP_P_RING_LO", 0x04000114, (4, 0x40), (1, 0x0), .plain, .lo, [⟨31, 6, .rw, 0x0, []⟩]⟩,
   ⟨"DEP_P_RING_HI", 0x04000118, (4, 0x40), (1, 0x0), .plain, .hi, [⟨2, 0, .rw, 0x0, []⟩]⟩,
   ⟨"DEP_P_FREE", 0x0400011C, (4, 0x40), (1, 0x0), .plain, .single, [⟨30, 24, .ro, 0x0, []⟩, ⟨20, 0, .ro, 0x0, []⟩]⟩,
   ⟨"DEP_P_WM_LOW", 0x04000120, (4, 0x40), (1, 0x0), .plain, .single, [⟨19, 0, .rw, 0x0, []⟩]⟩,
   ⟨"DEP_P_WM_HIGH", 0x04000124, (4, 0x40), (1, 0x0), .plain, .single, [⟨19, 0, .rw, 0x0, []⟩]⟩,
   ⟨"DEP_P_CNT_ALLOC", 0x04000128, (4, 0x40), (1, 0x0), .plain, .single, [⟨31, 0, .ro, 0x0, []⟩]⟩,
   ⟨"DEP_P_CNT_EMPTY", 0x0400012C, (4, 0x40), (1, 0x0), .plain, .single, [⟨31, 0, .ro, 0x0, []⟩]⟩,
   ⟨"DEP_P_RETIRED", 0x04000130, (4, 0x40), (1, 0x0), .plain, .single, [⟨19, 0, .ro, 0x0, []⟩]⟩
  ]

/-- Block CVY: the field maps of 11_convoy_dma.md. -/
def regsCVY : List RegDesc :=
  [
   ⟨"CVY_CTRL", 0x04100000, (1, 0x0), (1, 0x0), .plain, .single, [⟨31, 24, .rw, 0xA, [(1, 255)]⟩, ⟨9, 8, .rw, 0x3, []⟩, ⟨3, 0, .rw, 0x0, []⟩]⟩,
   ⟨"CVY_STAT", 0x04100004, (1, 0x0), (1, 0x0), .plain, .single, [⟨7, 4, .ro, 0x0, []⟩, ⟨3, 0, .ro, 0x0, []⟩]⟩,
   ⟨"CVY_FLT_STAT", 0x04100010, (1, 0x0), (1, 0x0), .plain, .single, [⟨15, 12, .w1c, 0x0, []⟩, ⟨11, 8, .w1c, 0x0, []⟩, ⟨7, 4, .w1c, 0x0, []⟩, ⟨3, 0, .w1c, 0x0, []⟩]⟩,
   ⟨"CVY_FLT_MASK", 0x04100014, (1, 0x0), (1, 0x0), .plain, .single, [⟨15, 12, .rw, 0x0, []⟩, ⟨11, 8, .rw, 0x0, []⟩, ⟨7, 4, .rw, 0x0, []⟩, ⟨3, 0, .rw, 0x0, []⟩]⟩,
   ⟨"CVY_FLT_SEV", 0x04100018, (1, 0x0), (1, 0x0), .plain, .single, [⟨11, 9, .rw, 0x0, [(0, 4)]⟩, ⟨8, 6, .rw, 0x2, [(0, 4)]⟩, ⟨5, 3, .rw, 0x1, [(0, 4)]⟩, ⟨2, 0, .rw, 0x1, [(0, 4)]⟩]⟩,
   ⟨"CVY_E_IRQ", 0x04100100, (4, 0x40), (1, 0x0), .plain, .single, [⟨31, 0, .w1c, 0x0, []⟩]⟩,
   ⟨"CVY_E_IRQ_EN", 0x04100104, (4, 0x40), (1, 0x0), .plain, .single, [⟨31, 0, .rw, 0x0, []⟩]⟩,
   ⟨"CVY_E_STAT", 0x04100108, (4, 0x40), (1, 0x0), .plain, .single, [⟨5, 5, .ro, 0x0, []⟩, ⟨4, 0, .ro, 0x0, []⟩]⟩,
   ⟨"CVY_E_CNT_DESC", 0x0410010C, (4, 0x40), (1, 0x0), .plain, .single, [⟨31, 0, .ro, 0x0, []⟩]⟩,
   ⟨"CVY_C_CTRL", 0x04101000, (4, 0x800), (32, 0x40), .plain, .single, [⟨4, 4, .rw, 0x0, []⟩, ⟨2, 2, .wo, 0x0, []⟩, ⟨1, 1, .wo, 0x0, []⟩, ⟨0, 0, .rw, 0x0, []⟩]⟩,
   ⟨"CVY_C_STAT", 0x04101004, (4, 0x800), (32, 0x40), .plain, .single, [⟨14, 12, .ro, 0x0, []⟩, ⟨11, 8, .ro, 0x0, []⟩, ⟨3, 3, .ro, 0x0, []⟩, ⟨2, 0, .ro, 0x0, []⟩]⟩,
   ⟨"CVY_C_HEAD_LO", 0x04101008, (4, 0x800), (32, 0x40), .plain, .lo, [⟨31, 6, .rw, 0x0, []⟩]⟩,
   ⟨"CVY_C_HEAD_HI", 0x0410100C, (4, 0x800), (32, 0x40), .plain, .hi, [⟨29, 28, .rw, 0x0, []⟩, ⟨2, 0, .rw, 0x0, []⟩]⟩,
   ⟨"CVY_C_DOORBELL", 0x04101018, (4, 0x800), (32, 0x40), .plain, .single, [⟨31, 0, .wo, 0x0, []⟩]⟩,
   ⟨"CVY_C_CNT_DESC", 0x0410101C, (4, 0x800), (32, 0x40), .plain, .single, [⟨31, 0, .ro, 0x0, []⟩]⟩,
   ⟨"CVY_C_CNT_BAD", 0x04101020, (4, 0x800), (32, 0x40), .plain, .single, [⟨31, 0, .ro, 0x0, []⟩]⟩,
   ⟨"CVY_C_CUR_LO", 0x04101010, (4, 0x800), (32, 0x40), .plain, .lo, [⟨31, 6, .ro, 0x0, []⟩]⟩,
   ⟨"CVY_C_CUR_HI", 0x04101014, (4, 0x800), (32, 0x40), .plain, .hi, [⟨29, 28, .ro, 0x0, []⟩, ⟨2, 0, .ro, 0x0, []⟩]⟩
  ]

/-- Block MEM: the field maps of 10_buffer_depot.md, 15_memory_protection.md. -/
def regsMEM : List RegDesc :=
  [
   ⟨"MEM_CTRL", 0x04200000, (1, 0x0), (1, 0x0), .plain, .single, [⟨0, 0, .rw, 0x1, []⟩]⟩,
   ⟨"MEM_STAT", 0x04200004, (1, 0x0), (1, 0x0), .plain, .single, [⟨19, 16, .ro, 0x0, []⟩, ⟨14, 14, .ro, 0x0, []⟩, ⟨13, 12, .ro, 0x0, []⟩, ⟨9, 8, .ro, 0x0, []⟩, ⟨2, 0, .ro, 0x0, []⟩]⟩,
   ⟨"MEM_DATA_TOP", 0x04200008, (1, 0x0), (1, 0x0), .plain, .single, [⟨31, 0, .ro, 0x0, []⟩]⟩,
   ⟨"MEM_FLT_STAT", 0x04200010, (1, 0x0), (1, 0x0), .plain, .single, [⟨3, 3, .w1c, 0x0, []⟩, ⟨2, 2, .w1c, 0x0, []⟩, ⟨1, 1, .w1c, 0x0, []⟩, ⟨0, 0, .w1c, 0x0, []⟩]⟩,
   ⟨"MEM_FLT_MASK", 0x04200014, (1, 0x0), (1, 0x0), .plain, .single, [⟨3, 3, .rw, 0x0, []⟩, ⟨2, 2, .rw, 0x0, []⟩, ⟨1, 1, .rw, 0x0, []⟩, ⟨0, 0, .rw, 0x0, []⟩]⟩,
   ⟨"MEM_FLT_SEV", 0x04200018, (1, 0x0), (1, 0x0), .plain, .single, [⟨11, 9, .rw, 0x1, [(0, 4)]⟩, ⟨8, 6, .rw, 0x1, [(0, 4)]⟩, ⟨5, 3, .rw, 0x1, [(0, 4)]⟩, ⟨2, 0, .rw, 0x4, [(0, 4)]⟩]⟩,
   ⟨"MEM_ECC_CTRL", 0x04201000, (1, 0x0), (1, 0x0), .plain, .single, [⟨17, 16, .rw, 0x3, [(1, 3)]⟩, ⟨12, 8, .rw, 0x10, [(1, 31)]⟩, ⟨0, 0, .rw, 0x1, []⟩]⟩,
   ⟨"MEM_ECC_CNT_CE", 0x04201004, (1, 0x0), (1, 0x0), .plain, .single, [⟨31, 0, .ro, 0x0, []⟩]⟩,
   ⟨"MEM_ECC_CNT_UE", 0x04201008, (1, 0x0), (1, 0x0), .plain, .single, [⟨31, 0, .ro, 0x0, []⟩]⟩,
   ⟨"MEM_CLOG_OVF", 0x0420100C, (1, 0x0), (1, 0x0), .plain, .single, [⟨31, 0, .ro, 0x0, []⟩]⟩,
   ⟨"MEM_SCRUB_CFG", 0x04201020, (1, 0x0), (1, 0x0), .plain, .single, [⟨15, 0, .rw, 0x1680, [(1, 65535)]⟩]⟩,
   ⟨"MEM_SCRUB_STAT", 0x04201024, (1, 0x0), (1, 0x0), .plain, .single, [⟨31, 16, .ro, 0x0, []⟩]⟩,
   ⟨"MEM_SCRUB_POS", 0x04201028, (1, 0x0), (1, 0x0), .plain, .single, [⟨28, 0, .ro, 0x0, []⟩]⟩,
   ⟨"MEM_ECC_FLT_STAT", 0x04201010, (1, 0x0), (1, 0x0), .plain, .single, [⟨4, 4, .w1c, 0x0, []⟩, ⟨3, 3, .w1c, 0x0, []⟩, ⟨2, 2, .w1c, 0x0, []⟩, ⟨1, 1, .w1c, 0x0, []⟩, ⟨0, 0, .w1c, 0x0, []⟩]⟩,
   ⟨"MEM_ECC_FLT_MASK", 0x04201014, (1, 0x0), (1, 0x0), .plain, .single, [⟨4, 4, .rw, 0x0, []⟩, ⟨3, 3, .rw, 0x0, []⟩, ⟨2, 2, .rw, 0x0, []⟩, ⟨1, 1, .rw, 0x0, []⟩, ⟨0, 0, .rw, 0x0, []⟩]⟩,
   ⟨"MEM_ECC_FLT_SEV", 0x04201018, (1, 0x0), (1, 0x0), .plain, .single, [⟨14, 12, .rw, 0x1, [(0, 4)]⟩, ⟨11, 9, .rw, 0x1, [(0, 4)]⟩, ⟨8, 6, .rw, 0x1, [(0, 4)]⟩, ⟨5, 3, .rw, 0x1, [(0, 4)]⟩, ⟨2, 0, .rw, 0x0, [(0, 4)]⟩]⟩,
   ⟨"MEM_EI_CTRL", 0x04201030, (1, 0x0), (1, 0x0), .plain, .single, [⟨31, 31, .rwl, 0x0, []⟩, ⟨30, 30, .rwl, 0x0, []⟩, ⟨29, 29, .rwl, 0x0, []⟩, ⟨28, 28, .rwl, 0x0, []⟩, ⟨22, 16, .rwl, 0x0, [(0, 71)]⟩, ⟨14, 8, .rwl, 0x0, [(0, 71)]⟩]⟩,
   ⟨"MEM_EI_TGT", 0x04201034, (1, 0x0), (1, 0x0), .plain, .single, [⟨15, 8, .rwl, 0x0, []⟩, ⟨7, 0, .rwl, 0x0, []⟩]⟩,
   ⟨"MEM_CLOG_FREE", 0x04201040, (1, 0x0), (1, 0x0), .plain, .single, [⟨31, 0, .wo, 0x0, []⟩]⟩,
   ⟨"MEM_CLOG_KEY_LO", 0x04201100, (32, 0x10), (1, 0x0), .plain, .lo, [⟨31, 0, .ro, 0x0, []⟩]⟩,
   ⟨"MEM_CLOG_KEY_HI", 0x04201104, (32, 0x10), (1, 0x0), .plain, .hi, [⟨31, 31, .ro, 0x0, []⟩, ⟨30, 30, .ro, 0x0, []⟩, ⟨29, 28, .ro, 0x0, []⟩, ⟨23, 16, .ro, 0x0, []⟩, ⟨15, 8, .ro, 0x0, []⟩, ⟨7, 0, .ro, 0x0, []⟩]⟩,
   ⟨"MEM_CLOG_CNT", 0x04201108, (32, 0x10), (1, 0x0), .plain, .single, [⟨31, 16, .ro, 0x0, []⟩, ⟨15, 11, .ro, 0x0, []⟩, ⟨1, 0, .ro, 0x0, []⟩]⟩,
   ⟨"MEM_CLOG_LAST", 0x0420110C, (32, 0x10), (1, 0x0), .plain, .single, [⟨31, 0, .ro, 0x0, []⟩]⟩
  ]

/-- Block HIF: the field maps of 12_host_interface.md. -/
def regsHIF : List RegDesc :=
  [
   ⟨"HIF_CFG", 0x05000000, (1, 0x0), (1, 0x0), .plain, .single, [⟨1, 1, .ro, 0x0, []⟩, ⟨0, 0, .ro, 0x0, []⟩]⟩,
   ⟨"HIF_CT_STAT", 0x05000004, (1, 0x0), (1, 0x0), .plain, .single, [⟨13, 0, .ro, 0x0, []⟩]⟩,
   ⟨"HIF_FLT_STAT", 0x05000020, (1, 0x0), (1, 0x0), .plain, .single, [⟨8, 8, .w1c, 0x0, []⟩, ⟨7, 6, .w1c, 0x0, []⟩, ⟨5, 4, .w1c, 0x0, []⟩, ⟨3, 2, .w1c, 0x0, []⟩, ⟨1, 0, .w1c, 0x0, []⟩]⟩,
   ⟨"HIF_FLT_MASK", 0x05000024, (1, 0x0), (1, 0x0), .plain, .single, [⟨8, 8, .rw, 0x0, []⟩, ⟨7, 6, .rw, 0x0, []⟩, ⟨5, 4, .rw, 0x0, []⟩, ⟨3, 2, .rw, 0x0, []⟩, ⟨1, 0, .rw, 0x0, []⟩]⟩,
   ⟨"HIF_FLT_SEV", 0x05000028, (1, 0x0), (1, 0x0), .plain, .single, [⟨14, 12, .rw, 0x0, [(0, 4)]⟩, ⟨11, 9, .rw, 0x0, [(0, 4)]⟩, ⟨8, 6, .rw, 0x0, [(0, 4)]⟩, ⟨5, 3, .rw, 0x1, [(0, 4)]⟩, ⟨2, 0, .rw, 0x1, [(0, 4)]⟩]⟩,
   ⟨"HIF_SMB_CFG", 0x05000030, (1, 0x0), (1, 0x0), .plain, .single, [⟨16, 16, .rw, 0x1, []⟩, ⟨9, 9, .rw, 0x0, []⟩, ⟨8, 8, .rw, 0x0, []⟩, ⟨6, 0, .rw, 0x6A, []⟩]⟩,
   ⟨"HIF_LINK", 0x05000100, (2, 0x40), (1, 0x0), .plain, .single, [⟨31, 24, .ro, 0x0, []⟩, ⟨11, 11, .ro, 0x0, []⟩, ⟨10, 10, .ro, 0x0, []⟩, ⟨9, 4, .ro, 0x0, []⟩, ⟨3, 0, .ro, 0x0, []⟩]⟩,
   ⟨"HIF_CTL_STAT", 0x05000200, (2, 0x40), (1, 0x0), .plain, .single, [⟨18, 18, .ro, 0x0, []⟩, ⟨17, 17, .ro, 0x0, []⟩, ⟨16, 16, .ro, 0x0, []⟩, ⟨12, 0, .ro, 0x0, []⟩]⟩
  ]

/-- Block RTE: the field maps of 14_packed_namespaces.md. -/
def regsRTE : List RegDesc :=
  [
   ⟨"RTE_CTRL", 0x05100000, (1, 0x0), (1, 0x0), .plain, .single, [⟨0, 0, .rw, 0x0, []⟩]⟩,
   ⟨"RTE_STAT", 0x05100004, (1, 0x0), (1, 0x0), .plain, .single, [⟨15, 8, .ro, 0x0, []⟩, ⟨0, 0, .ro, 0x0, []⟩]⟩,
   ⟨"RTE_TBL_BASE_LO", 0x05100008, (1, 0x0), (1, 0x0), .plain, .lo, [⟨31, 12, .rw, 0x0, []⟩]⟩,
   ⟨"RTE_TBL_BASE_HI", 0x0510000C, (1, 0x0), (1, 0x0), .plain, .hi, [⟨2, 0, .rw, 0x0, []⟩]⟩,
   ⟨"RTE_TBL_COUNT", 0x05100010, (1, 0x0), (1, 0x0), .plain, .single, [⟨27, 0, .rw, 0x0, [(0, 134217728)]⟩]⟩,
   ⟨"RTE_BAND_BASE_LO", 0x05100014, (1, 0x0), (1, 0x0), .plain, .lo, [⟨31, 6, .rw, 0x0, []⟩]⟩,
   ⟨"RTE_BAND_BASE_HI", 0x05100018, (1, 0x0), (1, 0x0), .plain, .hi, [⟨2, 0, .rw, 0x0, []⟩]⟩,
   ⟨"RTE_BAND_COUNT", 0x0510001C, (1, 0x0), (1, 0x0), .plain, .single, [⟨16, 0, .rw, 0x0, [(0, 65536)]⟩]⟩,
   ⟨"RTE_ARG0_LO", 0x05100020, (1, 0x0), (1, 0x0), .plain, .lo, [⟨31, 0, .rw, 0x0, []⟩]⟩,
   ⟨"RTE_ARG0_HI", 0x05100024, (1, 0x0), (1, 0x0), .plain, .hi, [⟨31, 0, .rw, 0x0, []⟩]⟩,
   ⟨"RTE_ARG1_LO", 0x05100028, (1, 0x0), (1, 0x0), .plain, .lo, [⟨31, 0, .rw, 0x0, []⟩]⟩,
   ⟨"RTE_ARG1_HI", 0x0510002C, (1, 0x0), (1, 0x0), .plain, .hi, [⟨31, 0, .rw, 0x0, []⟩]⟩,
   ⟨"RTE_ARG2_LO", 0x05100030, (1, 0x0), (1, 0x0), .plain, .lo, [⟨31, 0, .rw, 0x0, []⟩]⟩,
   ⟨"RTE_ARG2_HI", 0x05100034, (1, 0x0), (1, 0x0), .plain, .hi, [⟨31, 0, .rw, 0x0, []⟩]⟩,
   ⟨"RTE_REQ", 0x05100038, (1, 0x0), (1, 0x0), .plain, .single, [⟨31, 28, .wo, 0x0, []⟩, ⟨19, 16, .wo, 0x0, []⟩]⟩,
   ⟨"RTE_RESP_LO", 0x05100040, (1, 0x0), (1, 0x0), .plain, .lo, [⟨31, 0, .ro, 0x0, []⟩]⟩,
   ⟨"RTE_RESP_HI", 0x05100044, (1, 0x0), (1, 0x0), .plain, .hi, [⟨31, 0, .ro, 0x0, []⟩]⟩,
   ⟨"RTE_RESP_IDX", 0x05100048, (1, 0x0), (1, 0x0), .plain, .single, [⟨26, 0, .ro, 0x0, []⟩]⟩,
   ⟨"RTE_RESP_STAT", 0x0510004C, (1, 0x0), (1, 0x0), .plain, .single, [⟨31, 31, .ro, 0x0, []⟩, ⟨3, 0, .ro, 0x0, []⟩]⟩,
   ⟨"RTE_FLT_STAT", 0x05100050, (1, 0x0), (1, 0x0), .plain, .single, [⟨3, 3, .w1c, 0x0, []⟩, ⟨2, 2, .w1c, 0x0, []⟩, ⟨1, 1, .w1c, 0x0, []⟩, ⟨0, 0, .w1c, 0x0, []⟩]⟩,
   ⟨"RTE_FLT_MASK", 0x05100054, (1, 0x0), (1, 0x0), .plain, .single, [⟨3, 3, .rw, 0x0, []⟩, ⟨2, 2, .rw, 0x0, []⟩, ⟨1, 1, .rw, 0x0, []⟩, ⟨0, 0, .rw, 0x0, []⟩]⟩,
   ⟨"RTE_FLT_SEV", 0x05100058, (1, 0x0), (1, 0x0), .plain, .single, [⟨11, 9, .rw, 0x1, [(0, 4)]⟩, ⟨8, 6, .rw, 0x1, [(0, 4)]⟩, ⟨5, 3, .rw, 0x1, [(0, 4)]⟩, ⟨2, 0, .rw, 0x1, [(0, 4)]⟩]⟩,
   ⟨"RTE_CNT_LOOKUP", 0x05100060, (1, 0x0), (1, 0x0), .plain, .single, [⟨31, 0, .ro, 0x0, []⟩]⟩,
   ⟨"RTE_CNT_UPDATE", 0x05100064, (1, 0x0), (1, 0x0), .plain, .single, [⟨31, 0, .ro, 0x0, []⟩]⟩,
   ⟨"RTE_CNT_CASFAIL", 0x05100068, (1, 0x0), (1, 0x0), .plain, .single, [⟨31, 0, .ro, 0x0, []⟩]⟩,
   ⟨"RTE_NS_CFG", 0x05100100, (16, 0x20), (1, 0x0), .plain, .single, [⟨31, 31, .rw, 0x0, []⟩, ⟨0, 0, .rw, 0x0, []⟩]⟩,
   ⟨"RTE_NS_BASE", 0x05100104, (16, 0x20), (1, 0x0), .plain, .single, [⟨26, 0, .rw, 0x0, []⟩]⟩,
   ⟨"RTE_NS_COUNT", 0x05100108, (16, 0x20), (1, 0x0), .plain, .single, [⟨27, 0, .rw, 0x0, []⟩]⟩,
   ⟨"RTE_NS_USED_LO", 0x0510010C, (16, 0x20), (1, 0x0), .plain, .lo, [⟨31, 0, .ro, 0x0, []⟩]⟩,
   ⟨"RTE_NS_USED_HI", 0x05100110, (16, 0x20), (1, 0x0), .plain, .hi, [⟨3, 0, .ro, 0x0, []⟩]⟩
  ]
  ++
  [
   ⟨"RTE_NS_MAPPED", 0x05100114, (16, 0x20), (1, 0x0), .plain, .single, [⟨27, 0, .ro, 0x0, []⟩]⟩
  ]

/-- Block CMP: the field maps of 14_packed_namespaces.md. -/
def regsCMP : List RegDesc :=
  [
   ⟨"CMP_CTRL", 0x05200000, (1, 0x0), (1, 0x0), .plain, .single, [⟨15, 8, .rw, 0x0, []⟩, ⟨7, 0, .rw, 0x0, []⟩]⟩,
   ⟨"CMP_STAT", 0x05200004, (1, 0x0), (1, 0x0), .plain, .single, [⟨15, 8, .ro, 0x0, []⟩, ⟨7, 0, .ro, 0x0, []⟩]⟩,
   ⟨"CMP_CTX_BASE_LO", 0x05200008, (1, 0x0), (1, 0x0), .plain, .lo, [⟨31, 12, .rw, 0x0, []⟩]⟩,
   ⟨"CMP_CTX_BASE_HI", 0x0520000C, (1, 0x0), (1, 0x0), .plain, .hi, [⟨2, 0, .rw, 0x0, []⟩]⟩,
   ⟨"CMP_FLT_STAT", 0x05200010, (1, 0x0), (1, 0x0), .plain, .single, [⟨23, 16, .w1c, 0x0, []⟩, ⟨15, 8, .w1c, 0x0, []⟩, ⟨7, 0, .w1c, 0x0, []⟩]⟩,
   ⟨"CMP_FLT_MASK", 0x05200014, (1, 0x0), (1, 0x0), .plain, .single, [⟨23, 16, .rw, 0x0, []⟩, ⟨15, 8, .rw, 0x0, []⟩, ⟨7, 0, .rw, 0x0, []⟩]⟩,
   ⟨"CMP_FLT_SEV", 0x05200018, (1, 0x0), (1, 0x0), .plain, .single, [⟨8, 6, .rw, 0x1, [(0, 4)]⟩, ⟨5, 3, .rw, 0x2, [(0, 4)]⟩, ⟨2, 0, .rw, 0x2, [(0, 4)]⟩]⟩,
   ⟨"CMP_C_INL_LO", 0x05201000, (8, 0x40), (1, 0x0), .plain, .lo, [⟨31, 2, .rw, 0x0, []⟩]⟩,
   ⟨"CMP_C_INL_HI", 0x05201004, (8, 0x40), (1, 0x0), .plain, .hi, [⟨2, 0, .rw, 0x0, []⟩]⟩,
   ⟨"CMP_C_OUTL_LO", 0x05201008, (8, 0x40), (1, 0x0), .plain, .lo, [⟨31, 2, .rw, 0x0, []⟩]⟩,
   ⟨"CMP_C_OUTL_HI", 0x0520100C, (8, 0x40), (1, 0x0), .plain, .hi, [⟨2, 0, .rw, 0x0, []⟩]⟩,
   ⟨"CMP_C_OUT_CNT", 0x05201010, (8, 0x40), (1, 0x0), .plain, .single, [⟨7, 0, .rw, 0x0, [(1, 255)]⟩]⟩,
   ⟨"CMP_C_CFG", 0x05201014, (8, 0x40), (1, 0x0), .plain, .single, [⟨13, 8, .rw, 0x0, []⟩, ⟨6, 6, .rw, 0x0, []⟩, ⟨5, 5, .rw, 0x0, []⟩, ⟨4, 4, .rw, 0x0, []⟩, ⟨3, 0, .rw, 0x1, [(1, 8)]⟩]⟩,
   ⟨"CMP_C_CMD", 0x05201018, (8, 0x40), (1, 0x0), .plain, .single, [⟨1, 0, .wo, 0x0, []⟩]⟩,
   ⟨"CMP_C_STAT", 0x0520101C, (8, 0x40), (1, 0x0), .plain, .single, [⟨31, 24, .ro, 0x0, []⟩, ⟨7, 4, .ro, 0x0, []⟩, ⟨2, 0, .ro, 0x0, []⟩]⟩,
   ⟨"CMP_C_CLEN", 0x05201020, (8, 0x40), (1, 0x0), .plain, .single, [⟨19, 0, .ro, 0x0, []⟩]⟩,
   ⟨"CMP_C_UCRC", 0x05201024, (8, 0x40), (1, 0x0), .plain, .single, [⟨31, 0, .ro, 0x0, []⟩]⟩,
   ⟨"CMP_D_INL_LO", 0x05202000, (8, 0x40), (1, 0x0), .plain, .lo, [⟨31, 2, .rw, 0x0, []⟩]⟩,
   ⟨"CMP_D_INL_HI", 0x05202004, (8, 0x40), (1, 0x0), .plain, .hi, [⟨2, 0, .rw, 0x0, []⟩]⟩,
   ⟨"CMP_D_IN_CNT", 0x05202008, (8, 0x40), (1, 0x0), .plain, .single, [⟨7, 0, .rw, 0x0, [(1, 255)]⟩]⟩,
   ⟨"CMP_D_CLEN", 0x0520200C, (8, 0x40), (1, 0x0), .plain, .single, [⟨19, 0, .rw, 0x0, []⟩]⟩,
   ⟨"CMP_D_HIST", 0x05202010, (8, 0x40), (1, 0x0), .plain, .single, [⟨31, 0, .rw, 0xFFFFFFFF, []⟩]⟩,
   ⟨"CMP_D_HOFS", 0x05202014, (8, 0x40), (1, 0x0), .plain, .single, [⟨20, 0, .rw, 0x0, []⟩]⟩,
   ⟨"CMP_D_OUT", 0x05202018, (8, 0x40), (1, 0x0), .plain, .single, [⟨31, 0, .rw, 0xFFFFFFFF, []⟩]⟩,
   ⟨"CMP_D_CMD", 0x0520201C, (8, 0x40), (1, 0x0), .plain, .single, [⟨1, 0, .wo, 0x0, []⟩]⟩,
   ⟨"CMP_D_STAT", 0x05202020, (8, 0x40), (1, 0x0), .plain, .single, [⟨7, 4, .ro, 0x0, []⟩, ⟨2, 0, .ro, 0x0, []⟩]⟩,
   ⟨"CMP_D_UCRC", 0x05202024, (8, 0x40), (1, 0x0), .plain, .single, [⟨31, 0, .ro, 0x0, []⟩]⟩
  ]

/-- Block LDG: the field maps of 17_ledger.md. -/
def regsLDG : List RegDesc :=
  [
   ⟨"LDG_CTRL", 0x06000000, (1, 0x0), (1, 0x0), .plain, .single, [⟨0, 0, .rwl, 0x1, []⟩]⟩,
   ⟨"LDG_STAT", 0x06000004, (1, 0x0), (1, 0x0), .plain, .single, [⟨31, 24, .ro, 0x0, []⟩, ⟨23, 17, .ro, 0x0, []⟩, ⟨16, 16, .ro, 0x0, []⟩, ⟨2, 0, .ro, 0x0, []⟩]⟩,
   ⟨"LDG_PTR", 0x06000008, (1, 0x0), (1, 0x0), .plain, .single, [⟨22, 0, .ro, 0x0, []⟩]⟩,
   ⟨"LDG_FPTR", 0x0600000C, (1, 0x0), (1, 0x0), .plain, .single, [⟨19, 0, .ro, 0x0, []⟩]⟩,
   ⟨"LDG_RSEQ", 0x06000010, (1, 0x0), (1, 0x0), .plain, .single, [⟨31, 0, .ro, 0x0, []⟩]⟩,
   ⟨"LDG_PCYC", 0x06000014, (1, 0x0), (1, 0x0), .plain, .single, [⟨31, 0, .ro, 0x0, []⟩]⟩,
   ⟨"LDG_OPTIME_LO", 0x06000018, (1, 0x0), (1, 0x0), .plain, .lo, [⟨31, 0, .ro, 0x0, []⟩]⟩,
   ⟨"LDG_OPTIME_HI", 0x0600001C, (1, 0x0), (1, 0x0), .plain, .hi, [⟨15, 0, .ro, 0x0, []⟩]⟩,
   ⟨"LDG_RATE", 0x06000020, (1, 0x0), (1, 0x0), .plain, .single, [⟨23, 16, .rw, 0x8, [(1, 255)]⟩, ⟨15, 0, .rw, 0xA, [(1, 65535)]⟩]⟩,
   ⟨"LDG_DROP", 0x06000024, (1, 0x0), (1, 0x0), .plain, .single, [⟨31, 0, .ro, 0x0, []⟩]⟩,
   ⟨"LDG_RAISE", 0x06000030, (1, 0x0), (1, 0x0), .plain, .single, [⟨28, 24, .wo, 0x0, []⟩, ⟨15, 0, .wo, 0x0, []⟩]⟩,
   ⟨"LDG_RAISE_BUF", 0x06000100, (56, 0x4), (1, 0x0), .plain, .single, [⟨31, 0, .rw, 0x0, []⟩]⟩,
   ⟨"LDG_FLT_STAT", 0x06000040, (1, 0x0), (1, 0x0), .plain, .single, [⟨3, 3, .w1c, 0x0, []⟩, ⟨2, 2, .w1c, 0x0, []⟩, ⟨1, 1, .w1c, 0x0, []⟩, ⟨0, 0, .w1c, 0x0, []⟩]⟩,
   ⟨"LDG_FLT_MASK", 0x06000044, (1, 0x0), (1, 0x0), .plain, .single, [⟨3, 3, .rw, 0x0, []⟩, ⟨2, 2, .rw, 0x0, []⟩, ⟨1, 1, .rw, 0x0, []⟩, ⟨0, 0, .rw, 0x0, []⟩]⟩,
   ⟨"LDG_FLT_SEV", 0x06000048, (1, 0x0), (1, 0x0), .plain, .single, [⟨11, 9, .rw, 0x0, [(0, 4)]⟩, ⟨8, 6, .rw, 0x1, [(0, 4)]⟩, ⟨5, 3, .rw, 0x1, [(0, 4)]⟩, ⟨2, 0, .rw, 0x1, [(0, 4)]⟩]⟩
  ]

/-- Block SEC: the field maps of 18_boot_manifest_security.md. -/
def regsSEC : List RegDesc :=
  [
   ⟨"SEC_CTRL", 0x06100000, (1, 0x0), (1, 0x0), .plain, .single, [⟨1, 1, .wo, 0x0, []⟩, ⟨0, 0, .wo, 0x0, []⟩]⟩,
   ⟨"SEC_STAT", 0x06100004, (1, 0x0), (1, 0x0), .plain, .single, [⟨31, 31, .ro, 0x0, []⟩, ⟨30, 30, .ro, 0x0, []⟩, ⟨29, 29, .ro, 0x0, []⟩, ⟨27, 26, .ro, 0x0, []⟩, ⟨25, 24, .ro, 0x0, []⟩, ⟨23, 16, .ro, 0x0, []⟩, ⟨5, 5, .ro, 0x0, []⟩, ⟨4, 4, .ro, 0x0, []⟩, ⟨3, 3, .ro, 0x0, []⟩, ⟨2, 2, .ro, 0x0, []⟩, ⟨1, 1, .ro, 0x0, []⟩, ⟨0, 0, .ro, 0x0, []⟩]⟩,
   ⟨"SEC_FW_VER", 0x06100008, (1, 0x0), (1, 0x0), .plain, .single, [⟨31, 0, .ro, 0x0, []⟩]⟩,
   ⟨"SEC_MANIFEST_ID", 0x0610000C, (1, 0x0), (1, 0x0), .plain, .single, [⟨31, 0, .ro, 0x0, []⟩]⟩,
   ⟨"SEC_FAILS", 0x06100010, (1, 0x0), (1, 0x0), .plain, .single, [⟨31, 24, .ro, 0x0, []⟩, ⟨23, 16, .ro, 0x0, []⟩, ⟨15, 8, .ro, 0x0, []⟩, ⟨7, 0, .ro, 0x0, []⟩]⟩,
   ⟨"SEC_LOCKOUT", 0x06100014, (1, 0x0), (1, 0x0), .plain, .single, [⟨31, 16, .ro, 0x0, []⟩, ⟨15, 0, .ro, 0x0, []⟩]⟩,
   ⟨"SEC_FLT_STAT", 0x06100020, (1, 0x0), (1, 0x0), .plain, .single, [⟨5, 5, .w1c, 0x0, []⟩, ⟨4, 4, .w1c, 0x0, []⟩, ⟨3, 3, .w1c, 0x0, []⟩, ⟨2, 2, .w1c, 0x0, []⟩, ⟨1, 1, .w1c, 0x0, []⟩, ⟨0, 0, .w1c, 0x0, []⟩]⟩,
   ⟨"SEC_FLT_MASK", 0x06100024, (1, 0x0), (1, 0x0), .plain, .single, [⟨5, 5, .rw, 0x0, []⟩, ⟨4, 4, .rw, 0x0, []⟩, ⟨3, 3, .rw, 0x0, []⟩, ⟨2, 2, .rw, 0x0, []⟩, ⟨1, 1, .rw, 0x0, []⟩, ⟨0, 0, .rw, 0x0, []⟩]⟩,
   ⟨"SEC_FLT_SEV", 0x06100028, (1, 0x0), (1, 0x0), .plain, .single, [⟨17, 15, .rw, 0x4, [(0, 4)]⟩, ⟨14, 12, .rw, 0x0, [(0, 4)]⟩, ⟨11, 9, .rw, 0x1, [(0, 4)]⟩, ⟨8, 6, .rw, 0x0, [(0, 4)]⟩, ⟨5, 3, .rw, 0x1, [(0, 4)]⟩, ⟨2, 0, .rw, 0x1, [(0, 4)]⟩]⟩
  ]

/-- Block DLK: the field maps of 19_darenlen_link.md. -/
def regsDLK : List RegDesc :=
  [
   ⟨"DLK_CTRL", 0x06200000, (1, 0x0), (1, 0x0), .plain, .single, [⟨9, 8, .rw, 0x0, [(0, 1)]⟩, ⟨3, 0, .rw, 0x0, []⟩]⟩,
   ⟨"DLK_CFG", 0x06200004, (1, 0x0), (1, 0x0), .plain, .single, [⟨31, 24, .rw, 0xA, [(1, 40)]⟩, ⟨23, 16, .rw, 0x32, [(16, 192)]⟩, ⟨15, 12, .rw, 0x3, []⟩, ⟨11, 8, .rw, 0x4, [(1, 15)]⟩, ⟨7, 4, .rw, 0x4, [(1, 15)]⟩]⟩,
   ⟨"DLK_FLT_STAT", 0x06200010, (1, 0x0), (1, 0x0), .plain, .single, [⟨23, 20, .w1c, 0x0, []⟩, ⟨19, 16, .w1c, 0x0, []⟩, ⟨15, 12, .w1c, 0x0, []⟩, ⟨11, 8, .w1c, 0x0, []⟩, ⟨7, 4, .w1c, 0x0, []⟩, ⟨3, 0, .w1c, 0x0, []⟩]⟩,
   ⟨"DLK_FLT_MASK", 0x06200014, (1, 0x0), (1, 0x0), .plain, .single, [⟨23, 20, .rw, 0x0, []⟩, ⟨19, 16, .rw, 0x0, []⟩, ⟨15, 12, .rw, 0x0, []⟩, ⟨11, 8, .rw, 0x0, []⟩, ⟨7, 4, .rw, 0x0, []⟩, ⟨3, 0, .rw, 0x0, []⟩]⟩,
   ⟨"DLK_FLT_SEV", 0x06200018, (1, 0x0), (1, 0x0), .plain, .single, [⟨17, 15, .rw, 0x0, [(0, 4)]⟩, ⟨14, 12, .rw, 0x1, [(0, 4)]⟩, ⟨11, 9, .rw, 0x3, [(0, 4)]⟩, ⟨8, 6, .rw, 0x0, [(0, 4)]⟩, ⟨5, 3, .rw, 0x1, [(0, 4)]⟩, ⟨2, 0, .rw, 0x1, [(0, 4)]⟩]⟩,
   ⟨"DLK_L_STAT", 0x06200100, (4, 0x40), (1, 0x0), .plain, .single, [⟨31, 24, .ro, 0x0, []⟩, ⟨23, 20, .ro, 0x0, []⟩, ⟨13, 8, .ro, 0x0, []⟩, ⟨4, 4, .ro, 0x0, []⟩, ⟨2, 0, .ro, 0x0, []⟩]⟩,
   ⟨"DLK_L_RSEL", 0x06200104, (4, 0x40), (1, 0x0), .plain, .single, [⟨5, 0, .rw, 0x0, []⟩]⟩,
   ⟨"DLK_L_PREG", 0x06200108, (4, 0x40), (1, 0x0), .plain, .single, [⟨23, 16, .rw, 0x0, []⟩, ⟨15, 0, .rw, 0x0, []⟩]⟩,
   ⟨"DLK_L_PREG_CMD", 0x0620010C, (4, 0x40), (1, 0x0), .plain, .single, [⟨1, 0, .wo, 0x0, []⟩]⟩,
   ⟨"DLK_L_PREG_RESP", 0x06200110, (4, 0x40), (1, 0x0), .plain, .single, [⟨31, 31, .ro, 0x0, []⟩, ⟨19, 16, .ro, 0x0, []⟩, ⟨15, 0, .ro, 0x0, []⟩]⟩,
   ⟨"DLK_L_FAULT", 0x06200114, (4, 0x40), (1, 0x0), .plain, .single, [⟨15, 0, .ro, 0x0, []⟩]⟩,
   ⟨"DLK_L_PID", 0x06200118, (4, 0x40), (1, 0x0), .plain, .single, [⟨31, 16, .ro, 0x0, []⟩, ⟨15, 0, .ro, 0x0, []⟩]⟩,
   ⟨"DLK_L_CNT", 0x0620011C, (4, 0x40), (1, 0x0), .plain, .single, [⟨31, 16, .ro, 0x0, []⟩, ⟨15, 0, .ro, 0x0, []⟩]⟩,
   ⟨"DLK_INIT", 0x06201000, (4, 0x100), (32, 0x4), .plain, .single, [⟨31, 31, .rw, 0x0, []⟩, ⟨23, 16, .rw, 0x0, []⟩, ⟨15, 0, .rw, 0x0, []⟩]⟩
  ]

end Sys2Proof.Machine
end

