-- ==== Sys2Proof/Machine/RegLookup.lean ====
section
/-!
DEFINITION. Finding a register by its address and what a write does to its fields (Table 0-3, R13 to R15).
-/

namespace Sys2Proof.Machine

/-- The registers of the block that holds address `a` (Table 1-1). -/
def blockRegs (a : Nat) : List RegDesc :=
  if a < 0x01000000 then []
  else if a < 0x01100000 then regsSYS
  else if a < 0x02000000 then regsFLT
  else if a < 0x02400000 then regsCH
  else if a < 0x02500000 then regsTTH
  else if a < 0x02700000 then regsLDPC
  else if a < 0x03000000 then regsPOOL
  else if a < 0x03400000 then regsSEQ
  else if a < 0x03500000 then regsSRV
  else if a < 0x03600000 then regsCLE
  else if a < 0x04000000 then regsSPN
  else if a < 0x04100000 then regsDEP
  else if a < 0x04200000 then regsCVY
  else if a < 0x05000000 then regsMEM
  else if a < 0x05100000 then regsHIF
  else if a < 0x05200000 then regsRTE
  else if a < 0x06000000 then regsCMP
  else if a < 0x06100000 then regsLDG
  else if a < 0x06200000 then regsSEC
  else if a < 0x06300000 then regsDLK
  else []

/-- Address `a` is one of the registers that `d` describes (R6, R7). -/
def RegDesc.hit (d : RegDesc) (a : Nat) : Bool :=
  let o := a - d.base
  let r := o % d.dim1.2
  decide (d.base ≤ a) && decide (o / d.dim1.2 < d.dim1.1) && decide (r / d.dim2.2 < d.dim2.1)
    && decide (r % d.dim2.2 = 0)

/-- The register at address `a`, if there is one (R15). -/
def regAt (a : Nat) : Option RegDesc := (blockRegs a).find? (fun d => d.hit a)

/-- `n` with bits `[lo + w - 1 : lo]` replaced by the low `w` bits of `x`. -/
def putBits (n lo w x : Nat) : Nat := n / 2 ^ (lo + w) * 2 ^ (lo + w) + x % 2 ^ w * 2 ^ lo + n % 2 ^ lo

/-- The reset value of a register: its fields at their reset values, reserved bits 0 (R13, R16). -/
def RegDesc.resetVal (d : RegDesc) : Nat :=
  d.fields.foldl (fun n f => putBits n f.lo (f.hi + 1 - f.lo) f.reset) 0

/-- What an address reads as when nothing has been stored there: the reset value, 0 where no register lies (R15, R16). -/
def regReset (a : Nat) : Word :=
  match regAt a with
  | some d => BitVec.ofNat 32 d.resetVal
  | none => 0

/-- The encodings a field accepts (R14). -/
def FieldDesc.allows (f : FieldDesc) (x : Nat) : Bool :=
  f.ok.isEmpty || f.ok.any (fun r => decide (r.1 ≤ x) && decide (x ≤ r.2))

/-- One field after a write of register value `new` (Table 0-3, R14). `unl`: the access path is unlocked. -/
def FieldDesc.write (f : FieldDesc) (unl : Bool) (old new : Nat) : Nat :=
  let w := f.hi + 1 - f.lo
  let x := bitsOf new f.lo w
  let o := bitsOf old f.lo w
  match f.acc with
  | .ro => old
  | .rc => old
  | .wo => old
  | .rw => if f.allows x then putBits old f.lo w x else old
  | .rwl => if unl && f.allows x then putBits old f.lo w x else old
  | .w1c => putBits old f.lo w (o - Nat.land o x)

/-- A register after a write: every field by its access code; a stored entry word as written (R13). -/
def RegDesc.write (d : RegDesc) (unl : Bool) (old new : Nat) : Nat :=
  if d.kind = .stored then new else d.fields.foldl (fun n f => f.write unl n new) old

/-- A register as a read shows it: WO fields as 0 (Table 0-3). -/
def RegDesc.show (d : RegDesc) (v : Nat) : Nat :=
  d.fields.foldl (fun n f => if f.acc = .wo then putBits n f.lo (f.hi + 1 - f.lo) 0 else n) v

/-- A register after the containment reset of its unit: RO fields at their reset values (R16). -/
def RegDesc.resetRo (d : RegDesc) (v : Nat) : Nat :=
  d.fields.foldl (fun n f => if f.acc = .ro then putBits n f.lo (f.hi + 1 - f.lo) f.reset else n) v

/-- A register after a read that returned a byte of it: RC fields at 0 (R11). -/
def RegDesc.clearRc (d : RegDesc) (old : Nat) : Nat :=
  d.fields.foldl (fun n f => if f.acc = .rc then putBits n f.lo (f.hi + 1 - f.lo) 0 else n) old

/-- The register has an RC field. -/
def RegDesc.hasRc (d : RegDesc) : Bool := d.fields.any (fun f => decide (f.acc = .rc))

end Sys2Proof.Machine
end

