-- ==== Sys2Proof/Machine/Fields.lean ====
section
/-!
DEFINITION. The register fields by the spec's names: `R.BLOCK_NAME_FIELD` is the place of REGISTER.FIELD. The arguments
of a replicated register are its instance numbers (R6, R7). Register numbers without a field are `R.A_BLOCK_NAME`.
-/

namespace Sys2Proof.Machine

/-- SYS_ID, Table 1-2. -/
def R.A_SYS_ID : Nat := 0x01000000
def R.SYS_ID_PART : Fld := ⟨R.A_SYS_ID, 31, 16⟩
def R.SYS_ID_ACT_M1 : Fld := ⟨R.A_SYS_ID, 15, 13⟩
def R.SYS_ID_HEADS_M1 : Fld := ⟨R.A_SYS_ID, 12, 8⟩
def R.SYS_ID_STEP_MAJOR : Fld := ⟨R.A_SYS_ID, 7, 4⟩
def R.SYS_ID_STEP_MINOR : Fld := ⟨R.A_SYS_ID, 3, 0⟩
/-- SYS_MODE, Table 2-2. -/
def R.A_SYS_MODE : Nat := 0x01000010
def R.SYS_MODE_PREV : Fld := ⟨R.A_SYS_MODE, 27, 24⟩
def R.SYS_MODE_REASON : Fld := ⟨R.A_SYS_MODE, 23, 16⟩
def R.SYS_MODE_AUTOSPIN : Fld := ⟨R.A_SYS_MODE, 11, 11⟩
def R.SYS_MODE_DEG : Fld := ⟨R.A_SYS_MODE, 10, 10⟩
def R.SYS_MODE_CAP : Fld := ⟨R.A_SYS_MODE, 9, 8⟩
def R.SYS_MODE_TARGET : Fld := ⟨R.A_SYS_MODE, 7, 4⟩
def R.SYS_MODE_MODE : Fld := ⟨R.A_SYS_MODE, 3, 0⟩
/-- SYS_MODE_STAMP_LO, Table 2-4. -/
def R.A_SYS_MODE_STAMP_LO : Nat := 0x01000018
def R.SYS_MODE_STAMP_LO_STAMP_LO : Fld := ⟨R.A_SYS_MODE_STAMP_LO, 31, 0⟩
/-- SYS_MODE_STAMP_HI, Table 2-4. -/
def R.A_SYS_MODE_STAMP_HI : Nat := 0x0100001C
def R.SYS_MODE_STAMP_HI_BUSY : Fld := ⟨R.A_SYS_MODE_STAMP_HI, 31, 31⟩
def R.SYS_MODE_STAMP_HI_STAMP_HI : Fld := ⟨R.A_SYS_MODE_STAMP_HI, 30, 0⟩
/-- SYS_MODE_POLICY, Table 2-6. -/
def R.A_SYS_MODE_POLICY : Nat := 0x01000020
def R.SYS_MODE_POLICY_ONDEMAND_RET : Fld := ⟨R.A_SYS_MODE_POLICY, 31, 24⟩
def R.SYS_MODE_POLICY_HB2 : Fld := ⟨R.A_SYS_MODE_POLICY, 21, 21⟩
def R.SYS_MODE_POLICY_AUTOSPIN_DEF : Fld := ⟨R.A_SYS_MODE_POLICY, 20, 20⟩
def R.SYS_MODE_POLICY_START_MODE : Fld := ⟨R.A_SYS_MODE_POLICY, 19, 16⟩
def R.SYS_MODE_POLICY_ALLOW : Fld := ⟨R.A_SYS_MODE_POLICY, 15, 0⟩
/-- SYS_PWR_STAT, Table 2-11. -/
def R.A_SYS_PWR_STAT : Nat := 0x01000024
def R.SYS_PWR_STAT_CHG : Fld := ⟨R.A_SYS_PWR_STAT, 13, 8⟩
def R.SYS_PWR_STAT_PD : Fld := ⟨R.A_SYS_PWR_STAT, 6, 0⟩
/-- SYS_TEMP, Table 2-8. -/
def R.A_SYS_TEMP : Nat := 0x01000028
def R.SYS_TEMP_HOT : Fld := ⟨R.A_SYS_TEMP, 17, 17⟩
def R.SYS_TEMP_ENV_VALID : Fld := ⟨R.A_SYS_TEMP, 16, 16⟩
def R.SYS_TEMP_ENV : Fld := ⟨R.A_SYS_TEMP, 15, 8⟩
def R.SYS_TEMP_TJ : Fld := ⟨R.A_SYS_TEMP, 7, 0⟩
/-- SYS_WR_LIMIT, Table 5-14. -/
def R.A_SYS_WR_LIMIT : Nat := 0x01000030
def R.SYS_WR_LIMIT_OPEN : Fld := ⟨R.A_SYS_WR_LIMIT, 20, 16⟩
def R.SYS_WR_LIMIT_ACT_MAX : Fld := ⟨R.A_SYS_WR_LIMIT, 10, 8⟩
def R.SYS_WR_LIMIT_DEV_MAX : Fld := ⟨R.A_SYS_WR_LIMIT, 4, 0⟩
/-- SYS_CRS_STAT, Table 1-3. -/
def R.A_SYS_CRS_STAT : Nat := 0x01000040
def R.SYS_CRS_STAT_LAST_ADDR : Fld := ⟨R.A_SYS_CRS_STAT, 31, 16⟩
def R.SYS_CRS_STAT_TIMEOUT : Fld := ⟨R.A_SYS_CRS_STAT, 1, 1⟩
def R.SYS_CRS_STAT_GATED : Fld := ⟨R.A_SYS_CRS_STAT, 0, 0⟩
/-- SYS_FLT_STAT, Table 16-12. -/
def R.A_SYS_FLT_STAT : Nat := 0x01000050
def R.SYS_FLT_STAT_CRS_TIMEOUT : Fld := ⟨R.A_SYS_FLT_STAT, 3, 3⟩
def R.SYS_FLT_STAT_CRS_GATED : Fld := ⟨R.A_SYS_FLT_STAT, 2, 2⟩
def R.SYS_FLT_STAT_TEMP_LIMIT : Fld := ⟨R.A_SYS_FLT_STAT, 1, 1⟩
def R.SYS_FLT_STAT_ENV_NOACK : Fld := ⟨R.A_SYS_FLT_STAT, 0, 0⟩
/-- SYS_FLT_MASK, Table 16-12. -/
def R.A_SYS_FLT_MASK : Nat := 0x01000054
def R.SYS_FLT_MASK_CRS_TIMEOUT : Fld := ⟨R.A_SYS_FLT_MASK, 3, 3⟩
def R.SYS_FLT_MASK_CRS_GATED : Fld := ⟨R.A_SYS_FLT_MASK, 2, 2⟩
def R.SYS_FLT_MASK_TEMP_LIMIT : Fld := ⟨R.A_SYS_FLT_MASK, 1, 1⟩
def R.SYS_FLT_MASK_ENV_NOACK : Fld := ⟨R.A_SYS_FLT_MASK, 0, 0⟩
/-- SYS_FLT_SEV, Table 16-12. -/
def R.A_SYS_FLT_SEV : Nat := 0x01000058
def R.SYS_FLT_SEV_CRS_TIMEOUT : Fld := ⟨R.A_SYS_FLT_SEV, 11, 9⟩
def R.SYS_FLT_SEV_CRS_GATED : Fld := ⟨R.A_SYS_FLT_SEV, 8, 6⟩
def R.SYS_FLT_SEV_TEMP_LIMIT : Fld := ⟨R.A_SYS_FLT_SEV, 5, 3⟩
def R.SYS_FLT_SEV_ENV_NOACK : Fld := ⟨R.A_SYS_FLT_SEV, 2, 0⟩
/-- SYS_GPIO_IN, Table 20-17. -/
def R.A_SYS_GPIO_IN : Nat := 0x01000060
def R.SYS_GPIO_IN_LEVEL : Fld := ⟨R.A_SYS_GPIO_IN, 15, 0⟩
/-- SYS_GPIO_OE, Table 20-17. -/
def R.A_SYS_GPIO_OE : Nat := 0x01000064
def R.SYS_GPIO_OE_OE : Fld := ⟨R.A_SYS_GPIO_OE, 15, 3⟩
def R.SYS_GPIO_OE_OE2 : Fld := ⟨R.A_SYS_GPIO_OE, 2, 2⟩
/-- SYS_GPIO_OUT, Table 20-17. -/
def R.A_SYS_GPIO_OUT : Nat := 0x01000068
def R.SYS_GPIO_OUT_OUT : Fld := ⟨R.A_SYS_GPIO_OUT, 15, 0⟩
/-- SYS_GPIO_PULL, Table 20-17. -/
def R.A_SYS_GPIO_PULL : Nat := 0x0100006C
def R.SYS_GPIO_PULL_PD : Fld := ⟨R.A_SYS_GPIO_PULL, 31, 16⟩
def R.SYS_GPIO_PULL_PU : Fld := ⟨R.A_SYS_GPIO_PULL, 15, 0⟩
/-- SYS_GPIO_OD, Table 20-17. -/
def R.A_SYS_GPIO_OD : Nat := 0x01000070
def R.SYS_GPIO_OD_OD : Fld := ⟨R.A_SYS_GPIO_OD, 15, 0⟩
/-- SYS_THERM, Table 2-14. -/
def R.A_SYS_THERM : Nat := 0x01000100
def R.SYS_THERM_ENV_HOT : Fld := ⟨R.A_SYS_THERM, 15, 8⟩
def R.SYS_THERM_TJ_HOT : Fld := ⟨R.A_SYS_THERM, 7, 0⟩
/-- SYS_ENV_ADDR, Table 2-14. -/
def R.A_SYS_ENV_ADDR : Nat := 0x01000104
def R.SYS_ENV_ADDR_EN3 : Fld := ⟨R.A_SYS_ENV_ADDR, 31, 31⟩
def R.SYS_ENV_ADDR_ADDR3 : Fld := ⟨R.A_SYS_ENV_ADDR, 30, 24⟩
def R.SYS_ENV_ADDR_EN2 : Fld := ⟨R.A_SYS_ENV_ADDR, 23, 23⟩
def R.SYS_ENV_ADDR_ADDR2 : Fld := ⟨R.A_SYS_ENV_ADDR, 22, 16⟩
def R.SYS_ENV_ADDR_EN1 : Fld := ⟨R.A_SYS_ENV_ADDR, 15, 15⟩
def R.SYS_ENV_ADDR_ADDR1 : Fld := ⟨R.A_SYS_ENV_ADDR, 14, 8⟩
def R.SYS_ENV_ADDR_EN0 : Fld := ⟨R.A_SYS_ENV_ADDR, 7, 7⟩
def R.SYS_ENV_ADDR_ADDR0 : Fld := ⟨R.A_SYS_ENV_ADDR, 6, 0⟩
/-- SYS_UART, Table 2-14. -/
def R.A_SYS_UART : Nat := 0x01000108
def R.SYS_UART_FAST : Fld := ⟨R.A_SYS_UART, 0, 0⟩
/-- SYS_DIRTY_MAX, Table 2-14. -/
def R.A_SYS_DIRTY_MAX : Nat := 0x0100010C
def R.SYS_DIRTY_MAX_DIRTY_MAX : Fld := ⟨R.A_SYS_DIRTY_MAX, 19, 0⟩
/-- FLT_SUM0, Table 16-7. -/
def R.A_FLT_SUM0 : Nat := 0x01100000
def R.FLT_SUM0_ANY : Fld := ⟨R.A_FLT_SUM0, 27, 27⟩
def R.FLT_SUM0_MAXLEV : Fld := ⟨R.A_FLT_SUM0, 26, 24⟩
def R.FLT_SUM0_SEQ : Fld := ⟨R.A_FLT_SUM0, 18, 18⟩
def R.FLT_SUM0_LDPC : Fld := ⟨R.A_FLT_SUM0, 17, 17⟩
def R.FLT_SUM0_CH : Fld := ⟨R.A_FLT_SUM0, 16, 16⟩
def R.FLT_SUM0_BLK : Fld := ⟨R.A_FLT_SUM0, 15, 0⟩
/-- FLT_SUM_CH, Table 16-8. -/
def R.A_FLT_SUM_CH : Nat := 0x01100004
def R.FLT_SUM_CH_HEAD : Fld := ⟨R.A_FLT_SUM_CH, 23, 0⟩
/-- FLT_SUM_LDPC, Table 16-8. -/
def R.A_FLT_SUM_LDPC : Nat := 0x01100008
def R.FLT_SUM_LDPC_DEC : Fld := ⟨R.A_FLT_SUM_LDPC, 17, 0⟩
/-- FLT_SUM_SEQ, Table 16-8. -/
def R.A_FLT_SUM_SEQ : Nat := 0x0110000C
def R.FLT_SUM_SEQ_ACT : Fld := ⟨R.A_FLT_SUM_SEQ, 3, 0⟩
/-- FLT_ATTN_LEVEL, Table 16-9. -/
def R.A_FLT_ATTN_LEVEL : Nat := 0x01100010
def R.FLT_ATTN_LEVEL_PIN : Fld := ⟨R.A_FLT_ATTN_LEVEL, 31, 31⟩
def R.FLT_ATTN_LEVEL_LEVEL : Fld := ⟨R.A_FLT_ATTN_LEVEL, 2, 0⟩
/-- FLT_CFG, Table 16-9. -/
def R.A_FLT_CFG : Nat := 0x01100014
def R.FLT_CFG_ESC_WIN : Fld := ⟨R.A_FLT_CFG, 31, 24⟩
def R.FLT_CFG_ESC_N : Fld := ⟨R.A_FLT_CFG, 19, 16⟩
def R.FLT_CFG_TB_SEV : Fld := ⟨R.A_FLT_CFG, 10, 8⟩
def R.FLT_CFG_WDOG_T : Fld := ⟨R.A_FLT_CFG, 7, 0⟩
/-- FLT_CORE_STAT, Table 16-10. -/
def R.A_FLT_CORE_STAT : Nat := 0x01100018
def R.FLT_CORE_STAT_SWITCHES : Fld := ⟨R.A_FLT_CORE_STAT, 31, 16⟩
def R.FLT_CORE_STAT_PAIR1 : Fld := ⟨R.A_FLT_CORE_STAT, 7, 6⟩
def R.FLT_CORE_STAT_PAIR0 : Fld := ⟨R.A_FLT_CORE_STAT, 5, 4⟩
def R.FLT_CORE_STAT_ACTIVE : Fld := ⟨R.A_FLT_CORE_STAT, 0, 0⟩
/-- FLT_WDOG, Table 16-10. -/
def R.A_FLT_WDOG : Nat := 0x0110001C
def R.FLT_WDOG_ANY : Fld := ⟨R.A_FLT_WDOG, 31, 0⟩
/-- FLT_FLT_STAT, Table 16-11. -/
def R.A_FLT_FLT_STAT : Nat := 0x01100020
def R.FLT_FLT_STAT_ESCALATE : Fld := ⟨R.A_FLT_FLT_STAT, 4, 4⟩
def R.FLT_FLT_STAT_MISMATCH : Fld := ⟨R.A_FLT_FLT_STAT, 3, 3⟩
def R.FLT_FLT_STAT_WDOG : Fld := ⟨R.A_FLT_FLT_STAT, 2, 2⟩
def R.FLT_FLT_STAT_NO_STANDBY : Fld := ⟨R.A_FLT_FLT_STAT, 1, 1⟩
def R.FLT_FLT_STAT_SWITCH : Fld := ⟨R.A_FLT_FLT_STAT, 0, 0⟩
/-- FLT_FLT_MASK, Table 16-11. -/
def R.A_FLT_FLT_MASK : Nat := 0x01100024
def R.FLT_FLT_MASK_ESCALATE : Fld := ⟨R.A_FLT_FLT_MASK, 4, 4⟩
def R.FLT_FLT_MASK_MISMATCH : Fld := ⟨R.A_FLT_FLT_MASK, 3, 3⟩
def R.FLT_FLT_MASK_WDOG : Fld := ⟨R.A_FLT_FLT_MASK, 2, 2⟩
def R.FLT_FLT_MASK_NO_STANDBY : Fld := ⟨R.A_FLT_FLT_MASK, 1, 1⟩
def R.FLT_FLT_MASK_SWITCH : Fld := ⟨R.A_FLT_FLT_MASK, 0, 0⟩
/-- FLT_FLT_SEV, Table 16-11. -/
def R.A_FLT_FLT_SEV : Nat := 0x01100028
def R.FLT_FLT_SEV_ESCALATE : Fld := ⟨R.A_FLT_FLT_SEV, 14, 12⟩
def R.FLT_FLT_SEV_MISMATCH : Fld := ⟨R.A_FLT_FLT_SEV, 11, 9⟩
def R.FLT_FLT_SEV_WDOG : Fld := ⟨R.A_FLT_FLT_SEV, 8, 6⟩
def R.FLT_FLT_SEV_NO_STANDBY : Fld := ⟨R.A_FLT_FLT_SEV, 5, 3⟩
def R.FLT_FLT_SEV_SWITCH : Fld := ⟨R.A_FLT_FLT_SEV, 2, 0⟩
/-- FLT_CONTAIN, Table 16-10. -/
def R.A_FLT_CONTAIN : Nat := 0x0110002C
def R.FLT_CONTAIN_INST : Fld := ⟨R.A_FLT_CONTAIN, 15, 8⟩
def R.FLT_CONTAIN_UNIT : Fld := ⟨R.A_FLT_CONTAIN, 7, 0⟩
/-- FLT_SWITCH_STAMP_LO, Table 16-10. -/
def R.A_FLT_SWITCH_STAMP_LO : Nat := 0x01100030
def R.FLT_SWITCH_STAMP_LO_STAMP : Fld := ⟨R.A_FLT_SWITCH_STAMP_LO, 31, 0⟩
/-- FLT_SWITCH_STAMP_HI, Table 16-10. -/
def R.A_FLT_SWITCH_STAMP_HI : Nat := 0x01100034
def R.FLT_SWITCH_STAMP_HI_STAMP : Fld := ⟨R.A_FLT_SWITCH_STAMP_HI, 31, 0⟩
/-- CH_RD_CFG, Table 4-11. -/
def R.A_CH_RD_CFG (i : Nat) : Nat := 0x02000000 + 0x10000 * i
def R.CH_RD_CFG_RELOAD (i : Nat) : Fld := ⟨R.A_CH_RD_CFG i, 8, 8⟩
def R.CH_RD_CFG_FITTED (i : Nat) : Fld := ⟨R.A_CH_RD_CFG i, 6, 4⟩
def R.CH_RD_CFG_BLIND_EN (i : Nat) : Fld := ⟨R.A_CH_RD_CFG i, 3, 3⟩
def R.CH_RD_CFG_ALT_EN (i : Nat) : Fld := ⟨R.A_CH_RD_CFG i, 2, 2⟩
def R.CH_RD_CFG_ADAPT_EN (i : Nat) : Fld := ⟨R.A_CH_RD_CFG i, 1, 1⟩
def R.CH_RD_CFG_EN (i : Nat) : Fld := ⟨R.A_CH_RD_CFG i, 0, 0⟩
/-- CH_STAT, Table 4-12. -/
def R.A_CH_STAT (i : Nat) : Nat := 0x02000004 + 0x10000 * i
def R.CH_STAT_ZONE (i : Nat) : Fld := ⟨R.A_CH_STAT i, 22, 16⟩
def R.CH_STAT_LAST_OUTCOME (i : Nat) : Fld := ⟨R.A_CH_STAT i, 15, 12⟩
def R.CH_STAT_STATE (i : Nat) : Fld := ⟨R.A_CH_STAT i, 2, 0⟩
/-- CH_SYNC_CFG, Table 4-13. -/
def R.A_CH_SYNC_CFG (i : Nat) : Nat := 0x02000008 + 0x10000 * i
def R.CH_SYNC_CFG_WIN (i : Nat) : Fld := ⟨R.A_CH_SYNC_CFG i, 22, 16⟩
def R.CH_SYNC_CFG_SM_TOL (i : Nat) : Fld := ⟨R.A_CH_SYNC_CFG i, 11, 8⟩
def R.CH_SYNC_CFG_ALT_MIN (i : Nat) : Fld := ⟨R.A_CH_SYNC_CFG i, 3, 0⟩
/-- CH_CNT_GOOD, R115. -/
def R.A_CH_CNT_GOOD (i : Nat) : Nat := 0x02000020 + 0x10000 * i
def R.CH_CNT_GOOD_COUNT (i : Nat) : Fld := ⟨R.A_CH_CNT_GOOD i, 31, 0⟩
/-- CH_CNT_ALT, R115. -/
def R.A_CH_CNT_ALT (i : Nat) : Nat := 0x02000024 + 0x10000 * i
def R.CH_CNT_ALT_COUNT (i : Nat) : Fld := ⟨R.A_CH_CNT_ALT i, 31, 0⟩
/-- CH_CNT_BLIND, R115. -/
def R.A_CH_CNT_BLIND (i : Nat) : Nat := 0x02000028 + 0x10000 * i
def R.CH_CNT_BLIND_COUNT (i : Nat) : Fld := ⟨R.A_CH_CNT_BLIND i, 31, 0⟩
/-- CH_CNT_RETRY, R115. -/
def R.A_CH_CNT_RETRY (i : Nat) : Nat := 0x0200002C + 0x10000 * i
def R.CH_CNT_RETRY_COUNT (i : Nat) : Fld := ⟨R.A_CH_CNT_RETRY i, 31, 0⟩
/-- CH_CNT_DEEP, R115. -/
def R.A_CH_CNT_DEEP (i : Nat) : Nat := 0x02000030 + 0x10000 * i
def R.CH_CNT_DEEP_COUNT (i : Nat) : Fld := ⟨R.A_CH_CNT_DEEP i, 31, 0⟩
/-- CH_CNT_FAIL, R115. -/
def R.A_CH_CNT_FAIL (i : Nat) : Nat := 0x02000034 + 0x10000 * i
def R.CH_CNT_FAIL_COUNT (i : Nat) : Fld := ⟨R.A_CH_CNT_FAIL i, 31, 0⟩
/-- CH_CNT_UNREC, R115. -/
def R.A_CH_CNT_UNREC (i : Nat) : Nat := 0x02000038 + 0x10000 * i
def R.CH_CNT_UNREC_COUNT (i : Nat) : Fld := ⟨R.A_CH_CNT_UNREC i, 31, 0⟩
/-- CH_CNT_POOL, R115. -/
def R.A_CH_CNT_POOL (i : Nat) : Nat := 0x0200003C + 0x10000 * i
def R.CH_CNT_POOL_COUNT (i : Nat) : Fld := ⟨R.A_CH_CNT_POOL i, 31, 0⟩
/-- CH_CNT_CLR, R115. -/
def R.A_CH_CNT_CLR (i : Nat) : Nat := 0x02000040 + 0x10000 * i
def R.CH_CNT_CLR_CLR (i : Nat) : Fld := ⟨R.A_CH_CNT_CLR i, 7, 0⟩
/-- CH_LAST_RPT0, Table 4-15. -/
def R.A_CH_LAST_RPT0 (i : Nat) : Nat := 0x02000050 + 0x10000 * i
def R.CH_LAST_RPT0_RPT (i : Nat) : Fld := ⟨R.A_CH_LAST_RPT0 i, 31, 0⟩
/-- CH_LAST_RPT1, Table 4-15. -/
def R.A_CH_LAST_RPT1 (i : Nat) : Nat := 0x02000054 + 0x10000 * i
def R.CH_LAST_RPT1_RPT (i : Nat) : Fld := ⟨R.A_CH_LAST_RPT1 i, 31, 0⟩
/-- CH_LAST_RPT2, Table 4-15. -/
def R.A_CH_LAST_RPT2 (i : Nat) : Nat := 0x02000058 + 0x10000 * i
def R.CH_LAST_RPT2_RPT (i : Nat) : Fld := ⟨R.A_CH_LAST_RPT2 i, 31, 0⟩
/-- CH_LAST_RPT3, Table 4-15. -/
def R.A_CH_LAST_RPT3 (i : Nat) : Nat := 0x0200005C + 0x10000 * i
def R.CH_LAST_RPT3_RPT (i : Nat) : Fld := ⟨R.A_CH_LAST_RPT3 i, 31, 0⟩
/-- CH_RD_FLT_STAT, Table 4-16. -/
def R.A_CH_RD_FLT_STAT (i : Nat) : Nat := 0x02000060 + 0x10000 * i
def R.CH_RD_FLT_STAT_ADC_CLIP (i : Nat) : Fld := ⟨R.A_CH_RD_FLT_STAT i, 5, 5⟩
def R.CH_RD_FLT_STAT_POOL_FULL (i : Nat) : Fld := ⟨R.A_CH_RD_FLT_STAT i, 4, 4⟩
def R.CH_RD_FLT_STAT_TAG_MISMATCH (i : Nat) : Fld := ⟨R.A_CH_RD_FLT_STAT i, 3, 3⟩
def R.CH_RD_FLT_STAT_UNRECOVERED (i : Nat) : Fld := ⟨R.A_CH_RD_FLT_STAT i, 2, 2⟩
def R.CH_RD_FLT_STAT_AGC_LIMIT (i : Nat) : Fld := ⟨R.A_CH_RD_FLT_STAT i, 1, 1⟩
def R.CH_RD_FLT_STAT_ENTRY_BAD (i : Nat) : Fld := ⟨R.A_CH_RD_FLT_STAT i, 0, 0⟩
/-- CH_RD_FLT_MASK, Table 4-16. -/
def R.A_CH_RD_FLT_MASK (i : Nat) : Nat := 0x02000064 + 0x10000 * i
def R.CH_RD_FLT_MASK_ADC_CLIP (i : Nat) : Fld := ⟨R.A_CH_RD_FLT_MASK i, 5, 5⟩
def R.CH_RD_FLT_MASK_POOL_FULL (i : Nat) : Fld := ⟨R.A_CH_RD_FLT_MASK i, 4, 4⟩
def R.CH_RD_FLT_MASK_TAG_MISMATCH (i : Nat) : Fld := ⟨R.A_CH_RD_FLT_MASK i, 3, 3⟩
def R.CH_RD_FLT_MASK_UNRECOVERED (i : Nat) : Fld := ⟨R.A_CH_RD_FLT_MASK i, 2, 2⟩
def R.CH_RD_FLT_MASK_AGC_LIMIT (i : Nat) : Fld := ⟨R.A_CH_RD_FLT_MASK i, 1, 1⟩
def R.CH_RD_FLT_MASK_ENTRY_BAD (i : Nat) : Fld := ⟨R.A_CH_RD_FLT_MASK i, 0, 0⟩
/-- CH_RD_FLT_SEV, Table 4-17. -/
def R.A_CH_RD_FLT_SEV (i : Nat) : Nat := 0x02000068 + 0x10000 * i
def R.CH_RD_FLT_SEV_ADC_CLIP (i : Nat) : Fld := ⟨R.A_CH_RD_FLT_SEV i, 17, 15⟩
def R.CH_RD_FLT_SEV_POOL_FULL (i : Nat) : Fld := ⟨R.A_CH_RD_FLT_SEV i, 14, 12⟩
def R.CH_RD_FLT_SEV_TAG_MISMATCH (i : Nat) : Fld := ⟨R.A_CH_RD_FLT_SEV i, 11, 9⟩
def R.CH_RD_FLT_SEV_UNRECOVERED (i : Nat) : Fld := ⟨R.A_CH_RD_FLT_SEV i, 8, 6⟩
def R.CH_RD_FLT_SEV_AGC_LIMIT (i : Nat) : Fld := ⟨R.A_CH_RD_FLT_SEV i, 5, 3⟩
def R.CH_RD_FLT_SEV_ENTRY_BAD (i : Nat) : Fld := ⟨R.A_CH_RD_FLT_SEV i, 2, 0⟩
/-- CH_WR_CTRL, Table 5-6. -/
def R.A_CH_WR_CTRL (i : Nat) : Nat := 0x02001000 + 0x10000 * i
def R.CH_WR_CTRL_ARCH (i : Nat) : Fld := ⟨R.A_CH_WR_CTRL i, 2, 2⟩
def R.CH_WR_CTRL_PRECOMP_EN (i : Nat) : Fld := ⟨R.A_CH_WR_CTRL i, 1, 1⟩
def R.CH_WR_CTRL_EN (i : Nat) : Fld := ⟨R.A_CH_WR_CTRL i, 0, 0⟩
/-- CH_WR_LIM, Table 5-7. -/
def R.A_CH_WR_LIM (i : Nat) : Nat := 0x02001004 + 0x10000 * i
def R.CH_WR_LIM_WR_RETRY (i : Nat) : Fld := ⟨R.A_CH_WR_LIM i, 31, 28⟩
def R.CH_WR_LIM_REOPEN (i : Nat) : Fld := ⟨R.A_CH_WR_LIM i, 26, 24⟩
def R.CH_WR_LIM_WOT_ADJ (i : Nat) : Fld := ⟨R.A_CH_WR_LIM i, 23, 16⟩
def R.CH_WR_LIM_WOT_ARCH (i : Nat) : Fld := ⟨R.A_CH_WR_LIM i, 15, 8⟩
def R.CH_WR_LIM_WOT (i : Nat) : Fld := ⟨R.A_CH_WR_LIM i, 7, 0⟩
/-- CH_WR_VFY, Table 5-8. -/
def R.A_CH_WR_VFY (i : Nat) : Nat := 0x02001008 + 0x10000 * i
def R.CH_WR_VFY_VFY_REWRITE (i : Nat) : Fld := ⟨R.A_CH_WR_VFY i, 10, 8⟩
def R.CH_WR_VFY_VFY_ITER (i : Nat) : Fld := ⟨R.A_CH_WR_VFY i, 3, 0⟩
/-- CH_WR_INH, Table 5-9. -/
def R.A_CH_WR_INH (i : Nat) : Nat := 0x0200100C + 0x10000 * i
def R.CH_WR_INH_SRC (i : Nat) : Fld := ⟨R.A_CH_WR_INH i, 10, 0⟩
/-- CH_WR_STAT, Table 5-9. -/
def R.A_CH_WR_STAT (i : Nat) : Nat := 0x02001010 + 0x10000 * i
def R.CH_WR_STAT_LAST_CAUSE (i : Nat) : Fld := ⟨R.A_CH_WR_STAT i, 11, 8⟩
def R.CH_WR_STAT_STATE (i : Nat) : Fld := ⟨R.A_CH_WR_STAT i, 2, 0⟩
/-- CH_WR_CUT_STAMP_LO, Table 5-10. -/
def R.A_CH_WR_CUT_STAMP_LO (i : Nat) : Nat := 0x02001018 + 0x10000 * i
def R.CH_WR_CUT_STAMP_LO_STAMP_LO (i : Nat) : Fld := ⟨R.A_CH_WR_CUT_STAMP_LO i, 31, 0⟩
/-- CH_WR_CUT_STAMP_HI, Table 5-10. -/
def R.A_CH_WR_CUT_STAMP_HI (i : Nat) : Nat := 0x0200101C + 0x10000 * i
def R.CH_WR_CUT_STAMP_HI_STAMP_HI (i : Nat) : Fld := ⟨R.A_CH_WR_CUT_STAMP_HI i, 31, 0⟩
/-- CH_WR_CNT_SECT, R135. -/
def R.A_CH_WR_CNT_SECT (i : Nat) : Nat := 0x02001020 + 0x10000 * i
def R.CH_WR_CNT_SECT_COUNT (i : Nat) : Fld := ⟨R.A_CH_WR_CNT_SECT i, 31, 0⟩
/-- CH_WR_CNT_CUT, R135. -/
def R.A_CH_WR_CNT_CUT (i : Nat) : Nat := 0x02001024 + 0x10000 * i
def R.CH_WR_CNT_CUT_COUNT (i : Nat) : Fld := ⟨R.A_CH_WR_CNT_CUT i, 31, 0⟩
/-- CH_WR_CNT_REWRITE, R135. -/
def R.A_CH_WR_CNT_REWRITE (i : Nat) : Nat := 0x02001028 + 0x10000 * i
def R.CH_WR_CNT_REWRITE_COUNT (i : Nat) : Fld := ⟨R.A_CH_WR_CNT_REWRITE i, 31, 0⟩
/-- CH_WR_CNT_VFY, R135. -/
def R.A_CH_WR_CNT_VFY (i : Nat) : Nat := 0x0200102C + 0x10000 * i
def R.CH_WR_CNT_VFY_COUNT (i : Nat) : Fld := ⟨R.A_CH_WR_CNT_VFY i, 31, 0⟩
/-- CH_WR_CNT_CLR, R135. -/
def R.A_CH_WR_CNT_CLR (i : Nat) : Nat := 0x02001030 + 0x10000 * i
def R.CH_WR_CNT_CLR_CLR (i : Nat) : Fld := ⟨R.A_CH_WR_CNT_CLR i, 3, 0⟩
/-- CH_WR_FLT_STAT, Table 5-12. -/
def R.A_CH_WR_FLT_STAT (i : Nat) : Nat := 0x02001040 + 0x10000 * i
def R.CH_WR_FLT_STAT_WRITE_FAIL (i : Nat) : Fld := ⟨R.A_CH_WR_FLT_STAT i, 14, 14⟩
def R.CH_WR_FLT_STAT_ADJ_SUSPECT (i : Nat) : Fld := ⟨R.A_CH_WR_FLT_STAT i, 13, 13⟩
def R.CH_WR_FLT_STAT_VERIFY_FAIL (i : Nat) : Fld := ⟨R.A_CH_WR_FLT_STAT i, 12, 12⟩
def R.CH_WR_FLT_STAT_WENTRY_BAD (i : Nat) : Fld := ⟨R.A_CH_WR_FLT_STAT i, 11, 11⟩
def R.CH_WR_FLT_STAT_SRC (i : Nat) : Fld := ⟨R.A_CH_WR_FLT_STAT i, 10, 0⟩
/-- CH_WR_FLT_MASK, Table 5-12. -/
def R.A_CH_WR_FLT_MASK (i : Nat) : Nat := 0x02001044 + 0x10000 * i
def R.CH_WR_FLT_MASK_WRITE_FAIL (i : Nat) : Fld := ⟨R.A_CH_WR_FLT_MASK i, 14, 14⟩
def R.CH_WR_FLT_MASK_ADJ_SUSPECT (i : Nat) : Fld := ⟨R.A_CH_WR_FLT_MASK i, 13, 13⟩
def R.CH_WR_FLT_MASK_VERIFY_FAIL (i : Nat) : Fld := ⟨R.A_CH_WR_FLT_MASK i, 12, 12⟩
def R.CH_WR_FLT_MASK_WENTRY_BAD (i : Nat) : Fld := ⟨R.A_CH_WR_FLT_MASK i, 11, 11⟩
def R.CH_WR_FLT_MASK_SRC (i : Nat) : Fld := ⟨R.A_CH_WR_FLT_MASK i, 10, 0⟩
/-- CH_WR_FLT_SEV0, Table 5-13. -/
def R.A_CH_WR_FLT_SEV0 (i : Nat) : Nat := 0x02001048 + 0x10000 * i
def R.CH_WR_FLT_SEV0_POWER (i : Nat) : Fld := ⟨R.A_CH_WR_FLT_SEV0 i, 29, 27⟩
def R.CH_WR_FLT_SEV0_LINK (i : Nat) : Fld := ⟨R.A_CH_WR_FLT_SEV0 i, 26, 24⟩
def R.CH_WR_FLT_SEV0_UNSAFE (i : Nat) : Fld := ⟨R.A_CH_WR_FLT_SEV0 i, 23, 21⟩
def R.CH_WR_FLT_SEV0_SPEED (i : Nat) : Fld := ⟨R.A_CH_WR_FLT_SEV0 i, 20, 18⟩
def R.CH_WR_FLT_SEV0_GUST (i : Nat) : Fld := ⟨R.A_CH_WR_FLT_SEV0 i, 17, 15⟩
def R.CH_WR_FLT_SEV0_CLE_SAT (i : Nat) : Fld := ⟨R.A_CH_WR_FLT_SEV0 i, 14, 12⟩
def R.CH_WR_FLT_SEV0_CLE_OVR (i : Nat) : Fld := ⟨R.A_CH_WR_FLT_SEV0 i, 11, 9⟩
def R.CH_WR_FLT_SEV0_FOLLOW (i : Nat) : Fld := ⟨R.A_CH_WR_FLT_SEV0 i, 8, 6⟩
def R.CH_WR_FLT_SEV0_OFFTRACK (i : Nat) : Fld := ⟨R.A_CH_WR_FLT_SEV0 i, 5, 3⟩
def R.CH_WR_FLT_SEV0_TETHER (i : Nat) : Fld := ⟨R.A_CH_WR_FLT_SEV0 i, 2, 0⟩
/-- CH_WR_FLT_SEV1, Table 5-13. -/
def R.A_CH_WR_FLT_SEV1 (i : Nat) : Nat := 0x0200104C + 0x10000 * i
def R.CH_WR_FLT_SEV1_WRITE_FAIL (i : Nat) : Fld := ⟨R.A_CH_WR_FLT_SEV1 i, 14, 12⟩
def R.CH_WR_FLT_SEV1_ADJ_SUSPECT (i : Nat) : Fld := ⟨R.A_CH_WR_FLT_SEV1 i, 11, 9⟩
def R.CH_WR_FLT_SEV1_VERIFY_FAIL (i : Nat) : Fld := ⟨R.A_CH_WR_FLT_SEV1 i, 8, 6⟩
def R.CH_WR_FLT_SEV1_WENTRY_BAD (i : Nat) : Fld := ⟨R.A_CH_WR_FLT_SEV1 i, 5, 3⟩
def R.CH_WR_FLT_SEV1_LIMIT (i : Nat) : Fld := ⟨R.A_CH_WR_FLT_SEV1 i, 2, 0⟩
/-- CH_WTAB, R120. -/
def R.A_CH_WTAB (i : Nat) (j : Nat) : Nat := 0x02002000 + 0x10000 * i + 0x4 * j
def R.CH_WTAB_WORD (i : Nat) (j : Nat) : Fld := ⟨R.A_CH_WTAB i j, 31, 0⟩
/-- CH_ADAPT, R91. -/
def R.A_CH_ADAPT (i : Nat) (j : Nat) : Nat := 0x02008000 + 0x10000 * i + 0x4 * j
def R.CH_ADAPT_WORD (i : Nat) (j : Nat) : Fld := ⟨R.A_CH_ADAPT i j, 31, 0⟩
/-- TTH_CTRL, Table 3-8. -/
def R.A_TTH_CTRL : Nat := 0x02400000
def R.TTH_CTRL_SELECT : Fld := ⟨R.A_TTH_CTRL, 11, 10⟩
def R.TTH_CTRL_REF1_EN : Fld := ⟨R.A_TTH_CTRL, 9, 9⟩
def R.TTH_CTRL_REF0_EN : Fld := ⟨R.A_TTH_CTRL, 8, 8⟩
def R.TTH_CTRL_PRIMARY : Fld := ⟨R.A_TTH_CTRL, 5, 4⟩
def R.TTH_CTRL_WEDGE : Fld := ⟨R.A_TTH_CTRL, 1, 1⟩
def R.TTH_CTRL_EN : Fld := ⟨R.A_TTH_CTRL, 0, 0⟩
/-- TTH_STAT, Table 3-9. -/
def R.A_TTH_STAT : Nat := 0x02400004
def R.TTH_STAT_LOCK_COUNT : Fld := ⟨R.A_TTH_STAT, 31, 16⟩
def R.TTH_STAT_SKEW_VALID : Fld := ⟨R.A_TTH_STAT, 8, 8⟩
def R.TTH_STAT_REF1_Q : Fld := ⟨R.A_TTH_STAT, 7, 7⟩
def R.TTH_STAT_REF0_Q : Fld := ⟨R.A_TTH_STAT, 6, 6⟩
def R.TTH_STAT_ACTIVE : Fld := ⟨R.A_TTH_STAT, 5, 5⟩
def R.TTH_STAT_ANGLE_VALID : Fld := ⟨R.A_TTH_STAT, 4, 4⟩
def R.TTH_STAT_LOCK : Fld := ⟨R.A_TTH_STAT, 3, 3⟩
def R.TTH_STAT_STATE : Fld := ⟨R.A_TTH_STAT, 2, 0⟩
/-- TTH_CFG, Table 3-10. -/
def R.A_TTH_CFG : Nat := 0x02400008
def R.TTH_CFG_AMP_MAX : Fld := ⟨R.A_TTH_CFG, 31, 24⟩
def R.TTH_CFG_AMP_MIN : Fld := ⟨R.A_TTH_CFG, 23, 16⟩
def R.TTH_CFG_FRAME_RUN : Fld := ⟨R.A_TTH_CFG, 15, 12⟩
def R.TTH_CFG_BAD_RUN : Fld := ⟨R.A_TTH_CFG, 11, 8⟩
def R.TTH_CFG_PHASE_TOL : Fld := ⟨R.A_TTH_CFG, 4, 0⟩
/-- TTH_SKEW, Table 3-11. -/
def R.A_TTH_SKEW : Nat := 0x0240000C
def R.TTH_SKEW_MEASURED : Fld := ⟨R.A_TTH_SKEW, 31, 31⟩
def R.TTH_SKEW_SKEW : Fld := ⟨R.A_TTH_SKEW, 30, 0⟩
/-- TTH_SKEW_NOM, Table 3-11. -/
def R.A_TTH_SKEW_NOM : Nat := 0x02400010
def R.TTH_SKEW_NOM_NOM_VALID : Fld := ⟨R.A_TTH_SKEW_NOM, 31, 31⟩
def R.TTH_SKEW_NOM_SKEW_NOM : Fld := ⟨R.A_TTH_SKEW_NOM, 30, 0⟩
/-- TTH_ANGLE, Table 3-12. -/
def R.A_TTH_ANGLE : Nat := 0x02400014
def R.TTH_ANGLE_VALID : Fld := ⟨R.A_TTH_ANGLE, 31, 31⟩
def R.TTH_ANGLE_ANGLE : Fld := ⟨R.A_TTH_ANGLE, 22, 0⟩
/-- TTH_REV_PERIOD, Table 3-12. -/
def R.A_TTH_REV_PERIOD : Nat := 0x02400018
def R.TTH_REV_PERIOD_PERIOD : Fld := ⟨R.A_TTH_REV_PERIOD, 31, 0⟩
/-- TTH_LOSS_STAMP_LO, Table 3-13. -/
def R.A_TTH_LOSS_STAMP_LO : Nat := 0x02400020
def R.TTH_LOSS_STAMP_LO_STAMP_LO : Fld := ⟨R.A_TTH_LOSS_STAMP_LO, 31, 0⟩
/-- TTH_LOSS_STAMP_HI, Table 3-13. -/
def R.A_TTH_LOSS_STAMP_HI : Nat := 0x02400024
def R.TTH_LOSS_STAMP_HI_STAMP_HI : Fld := ⟨R.A_TTH_LOSS_STAMP_HI, 31, 0⟩
/-- TTH_FLT_STAT, Table 3-14. -/
def R.A_TTH_FLT_STAT : Nat := 0x02400028
def R.TTH_FLT_STAT_RATE_RANGE : Fld := ⟨R.A_TTH_FLT_STAT, 7, 7⟩
def R.TTH_FLT_STAT_FRAME_CHECK : Fld := ⟨R.A_TTH_FLT_STAT, 6, 6⟩
def R.TTH_FLT_STAT_SKEW_MISMATCH : Fld := ⟨R.A_TTH_FLT_STAT, 5, 5⟩
def R.TTH_FLT_STAT_SKEW_DRIFT : Fld := ⟨R.A_TTH_FLT_STAT, 4, 4⟩
def R.TTH_FLT_STAT_RELOCK_FAIL : Fld := ⟨R.A_TTH_FLT_STAT, 3, 3⟩
def R.TTH_FLT_STAT_REF1_FAIL : Fld := ⟨R.A_TTH_FLT_STAT, 2, 2⟩
def R.TTH_FLT_STAT_REF0_FAIL : Fld := ⟨R.A_TTH_FLT_STAT, 1, 1⟩
def R.TTH_FLT_STAT_LOSS : Fld := ⟨R.A_TTH_FLT_STAT, 0, 0⟩
/-- TTH_FLT_MASK, Table 3-14. -/
def R.A_TTH_FLT_MASK : Nat := 0x0240002C
def R.TTH_FLT_MASK_RATE_RANGE : Fld := ⟨R.A_TTH_FLT_MASK, 7, 7⟩
def R.TTH_FLT_MASK_FRAME_CHECK : Fld := ⟨R.A_TTH_FLT_MASK, 6, 6⟩
def R.TTH_FLT_MASK_SKEW_MISMATCH : Fld := ⟨R.A_TTH_FLT_MASK, 5, 5⟩
def R.TTH_FLT_MASK_SKEW_DRIFT : Fld := ⟨R.A_TTH_FLT_MASK, 4, 4⟩
def R.TTH_FLT_MASK_RELOCK_FAIL : Fld := ⟨R.A_TTH_FLT_MASK, 3, 3⟩
def R.TTH_FLT_MASK_REF1_FAIL : Fld := ⟨R.A_TTH_FLT_MASK, 2, 2⟩
def R.TTH_FLT_MASK_REF0_FAIL : Fld := ⟨R.A_TTH_FLT_MASK, 1, 1⟩
def R.TTH_FLT_MASK_LOSS : Fld := ⟨R.A_TTH_FLT_MASK, 0, 0⟩
/-- TTH_FLT_SEV, Table 3-15. -/
def R.A_TTH_FLT_SEV : Nat := 0x02400030
def R.TTH_FLT_SEV_RATE_RANGE : Fld := ⟨R.A_TTH_FLT_SEV, 23, 21⟩
def R.TTH_FLT_SEV_FRAME_CHECK : Fld := ⟨R.A_TTH_FLT_SEV, 20, 18⟩
def R.TTH_FLT_SEV_SKEW_MISMATCH : Fld := ⟨R.A_TTH_FLT_SEV, 17, 15⟩
def R.TTH_FLT_SEV_SKEW_DRIFT : Fld := ⟨R.A_TTH_FLT_SEV, 14, 12⟩
def R.TTH_FLT_SEV_RELOCK_FAIL : Fld := ⟨R.A_TTH_FLT_SEV, 11, 9⟩
def R.TTH_FLT_SEV_REF1_FAIL : Fld := ⟨R.A_TTH_FLT_SEV, 8, 6⟩
def R.TTH_FLT_SEV_REF0_FAIL : Fld := ⟨R.A_TTH_FLT_SEV, 5, 3⟩
def R.TTH_FLT_SEV_LOSS : Fld := ⟨R.A_TTH_FLT_SEV, 2, 0⟩
/-- TTH_ZBPR, Table 3-16. -/
def R.A_TTH_ZBPR (i : Nat) : Nat := 0x02401000 + 0x4 * i
def R.TTH_ZBPR_BPR (i : Nat) : Fld := ⟨R.A_TTH_ZBPR i, 26, 0⟩
/-- TTH_STAMP_LO, Table 1-6. -/
def R.A_TTH_STAMP_LO : Nat := 0x024F0000
def R.TTH_STAMP_LO_STAMP_LO : Fld := ⟨R.A_TTH_STAMP_LO, 31, 0⟩
/-- TTH_STAMP_HI, Table 1-7. -/
def R.A_TTH_STAMP_HI : Nat := 0x024F0004
def R.TTH_STAMP_HI_STAMP_HI : Fld := ⟨R.A_TTH_STAMP_HI, 31, 0⟩
/-- TTH_TB_STAT, Table 1-8. -/
def R.A_TTH_TB_STAT : Nat := 0x024F0008
def R.TTH_TB_STAT_ERR_COUNT : Fld := ⟨R.A_TTH_TB_STAT, 31, 16⟩
def R.TTH_TB_STAT_LAST_DOM : Fld := ⟨R.A_TTH_TB_STAT, 15, 8⟩
def R.TTH_TB_STAT_ALIGN_ERR : Fld := ⟨R.A_TTH_TB_STAT, 0, 0⟩
/-- LDPC_CTRL, Table 4-18. -/
def R.A_LDPC_CTRL (i : Nat) : Nat := 0x02500000 + 0x10000 * i
def R.LDPC_CTRL_RESET (i : Nat) : Fld := ⟨R.A_LDPC_CTRL i, 1, 1⟩
def R.LDPC_CTRL_EN (i : Nat) : Fld := ⟨R.A_LDPC_CTRL i, 0, 0⟩
/-- LDPC_STAT, Table 4-19. -/
def R.A_LDPC_STAT (i : Nat) : Nat := 0x02500004 + 0x10000 * i
def R.LDPC_STAT_HEAD (i : Nat) : Fld := ⟨R.A_LDPC_STAT i, 31, 27⟩
def R.LDPC_STAT_ITER (i : Nat) : Fld := ⟨R.A_LDPC_STAT i, 26, 21⟩
def R.LDPC_STAT_BUSY (i : Nat) : Fld := ⟨R.A_LDPC_STAT i, 20, 20⟩
/-- LDPC_CNT_JOBS, Table 4-20. -/
def R.A_LDPC_CNT_JOBS (i : Nat) : Nat := 0x02500008 + 0x10000 * i
def R.LDPC_CNT_JOBS_JOBS (i : Nat) : Fld := ⟨R.A_LDPC_CNT_JOBS i, 31, 0⟩
/-- LDPC_CNT_ITER, Table 4-20. -/
def R.A_LDPC_CNT_ITER (i : Nat) : Nat := 0x0250000C + 0x10000 * i
def R.LDPC_CNT_ITER_ITER (i : Nat) : Fld := ⟨R.A_LDPC_CNT_ITER i, 31, 0⟩
/-- LDPC_FLT_STAT, Table 4-21. -/
def R.A_LDPC_FLT_STAT (i : Nat) : Nat := 0x02500010 + 0x10000 * i
def R.LDPC_FLT_STAT_HANG (i : Nat) : Fld := ⟨R.A_LDPC_FLT_STAT i, 0, 0⟩
/-- LDPC_FLT_MASK, Table 4-21. -/
def R.A_LDPC_FLT_MASK (i : Nat) : Nat := 0x02500014 + 0x10000 * i
def R.LDPC_FLT_MASK_HANG (i : Nat) : Fld := ⟨R.A_LDPC_FLT_MASK i, 0, 0⟩
/-- LDPC_FLT_SEV, Table 4-21. -/
def R.A_LDPC_FLT_SEV (i : Nat) : Nat := 0x02500018 + 0x10000 * i
def R.LDPC_FLT_SEV_HANG (i : Nat) : Fld := ⟨R.A_LDPC_FLT_SEV i, 2, 0⟩
/-- LDPC_POOL_CFG, Table 4-22. -/
def R.A_LDPC_POOL_CFG : Nat := 0x02700000
def R.LDPC_POOL_CFG_DEEP_READS : Fld := ⟨R.A_LDPC_POOL_CFG, 18, 16⟩
def R.LDPC_POOL_CFG_DEEP_ITER : Fld := ⟨R.A_LDPC_POOL_CFG, 13, 8⟩
def R.LDPC_POOL_CFG_ITER_LOW : Fld := ⟨R.A_LDPC_POOL_CFG, 7, 4⟩
def R.LDPC_POOL_CFG_ITER_MAX : Fld := ⟨R.A_LDPC_POOL_CFG, 3, 0⟩
/-- LDPC_POOL_BKLG, Table 4-23. -/
def R.A_LDPC_POOL_BKLG : Nat := 0x02700004
def R.LDPC_POOL_BKLG_BACKLOG_LO : Fld := ⟨R.A_LDPC_POOL_BKLG, 15, 8⟩
def R.LDPC_POOL_BKLG_BACKLOG_HI : Fld := ⟨R.A_LDPC_POOL_BKLG, 7, 0⟩
/-- LDPC_POOL_STAT, Table 4-24. -/
def R.A_LDPC_POOL_STAT : Nat := 0x02700008
def R.LDPC_POOL_STAT_LOW_ITER : Fld := ⟨R.A_LDPC_POOL_STAT, 22, 22⟩
def R.LDPC_POOL_STAT_RETRY_USED : Fld := ⟨R.A_LDPC_POOL_STAT, 21, 16⟩
def R.LDPC_POOL_STAT_SLOTS_USED : Fld := ⟨R.A_LDPC_POOL_STAT, 15, 8⟩
def R.LDPC_POOL_STAT_QUEUED : Fld := ⟨R.A_LDPC_POOL_STAT, 7, 0⟩
/-- LDPC_POOL_FLT_STAT, Table 4-25. -/
def R.A_LDPC_POOL_FLT_STAT : Nat := 0x02700010
def R.LDPC_POOL_FLT_STAT_NO_DEEP : Fld := ⟨R.A_LDPC_POOL_FLT_STAT, 2, 2⟩
def R.LDPC_POOL_FLT_STAT_NO_DECODER : Fld := ⟨R.A_LDPC_POOL_FLT_STAT, 1, 1⟩
def R.LDPC_POOL_FLT_STAT_RETRY_DROP : Fld := ⟨R.A_LDPC_POOL_FLT_STAT, 0, 0⟩
/-- LDPC_POOL_FLT_MASK, Table 4-25. -/
def R.A_LDPC_POOL_FLT_MASK : Nat := 0x02700014
def R.LDPC_POOL_FLT_MASK_NO_DEEP : Fld := ⟨R.A_LDPC_POOL_FLT_MASK, 2, 2⟩
def R.LDPC_POOL_FLT_MASK_NO_DECODER : Fld := ⟨R.A_LDPC_POOL_FLT_MASK, 1, 1⟩
def R.LDPC_POOL_FLT_MASK_RETRY_DROP : Fld := ⟨R.A_LDPC_POOL_FLT_MASK, 0, 0⟩
/-- LDPC_POOL_FLT_SEV, Table 4-25. -/
def R.A_LDPC_POOL_FLT_SEV : Nat := 0x02700018
def R.LDPC_POOL_FLT_SEV_NO_DEEP : Fld := ⟨R.A_LDPC_POOL_FLT_SEV, 8, 6⟩
def R.LDPC_POOL_FLT_SEV_NO_DECODER : Fld := ⟨R.A_LDPC_POOL_FLT_SEV, 5, 3⟩
def R.LDPC_POOL_FLT_SEV_RETRY_DROP : Fld := ⟨R.A_LDPC_POOL_FLT_SEV, 2, 0⟩
/-- SEQ_CTRL, Table 6-12. -/
def R.A_SEQ_CTRL (i : Nat) : Nat := 0x03000000 + 0x100000 * i
def R.SEQ_CTRL_DEF_SWAP (i : Nat) : Fld := ⟨R.A_SEQ_CTRL i, 8, 8⟩
def R.SEQ_CTRL_ATTN (i : Nat) : Fld := ⟨R.A_SEQ_CTRL i, 2, 2⟩
def R.SEQ_CTRL_PAUSE (i : Nat) : Fld := ⟨R.A_SEQ_CTRL i, 1, 1⟩
def R.SEQ_CTRL_EN (i : Nat) : Fld := ⟨R.A_SEQ_CTRL i, 0, 0⟩
/-- SEQ_STAT, Table 6-13. -/
def R.A_SEQ_STAT (i : Nat) : Nat := 0x03000004 + 0x100000 * i
def R.SEQ_STAT_PC (i : Nat) : Fld := ⟨R.A_SEQ_STAT i, 29, 16⟩
def R.SEQ_STAT_SP (i : Nat) : Fld := ⟨R.A_SEQ_STAT i, 12, 8⟩
def R.SEQ_STAT_ATTN_PEND (i : Nat) : Fld := ⟨R.A_SEQ_STAT i, 7, 7⟩
def R.SEQ_STAT_STATE (i : Nat) : Fld := ⟨R.A_SEQ_STAT i, 2, 0⟩
/-- SEQ_RESUME, Table 6-14. -/
def R.A_SEQ_RESUME (i : Nat) : Nat := 0x03000008 + 0x100000 * i
def R.SEQ_RESUME_ADDR (i : Nat) : Fld := ⟨R.A_SEQ_RESUME i, 13, 0⟩
/-- SEQ_WP_LIMIT, Table 6-14. -/
def R.A_SEQ_WP_LIMIT (i : Nat) : Nat := 0x0300000C + 0x100000 * i
def R.SEQ_WP_LIMIT_LIMIT (i : Nat) : Fld := ⟨R.A_SEQ_WP_LIMIT i, 15, 0⟩
/-- SEQ_PATCH_ID, Table 6-14. -/
def R.A_SEQ_PATCH_ID (i : Nat) : Nat := 0x03000010 + 0x100000 * i
def R.SEQ_PATCH_ID_LOADED (i : Nat) : Fld := ⟨R.A_SEQ_PATCH_ID i, 31, 31⟩
def R.SEQ_PATCH_ID_ID (i : Nat) : Fld := ⟨R.A_SEQ_PATCH_ID i, 30, 0⟩
/-- SEQ_FMT, Table 6-15. -/
def R.A_SEQ_FMT (i : Nat) : Nat := 0x03000014 + 0x100000 * i
def R.SEQ_FMT_SPARE_TR (i : Nat) : Fld := ⟨R.A_SEQ_FMT i, 29, 24⟩
def R.SEQ_FMT_CG_LOG2 (i : Nat) : Fld := ⟨R.A_SEQ_FMT i, 19, 16⟩
def R.SEQ_FMT_WEDGES (i : Nat) : Fld := ⟨R.A_SEQ_FMT i, 9, 0⟩
/-- SEQ_TRACKS, Table 6-15. -/
def R.A_SEQ_TRACKS (i : Nat) : Nat := 0x03000018 + 0x100000 * i
def R.SEQ_TRACKS_TRACKS (i : Nat) : Fld := ⟨R.A_SEQ_TRACKS i, 22, 0⟩
/-- SEQ_UNIT, Table 6-15. -/
def R.A_SEQ_UNIT (i : Nat) : Nat := 0x0300001C + 0x100000 * i
def R.SEQ_UNIT_UNIT (i : Nat) : Fld := ⟨R.A_SEQ_UNIT i, 8, 0⟩
/-- SEQ_DEF_BASE_LO, Table 6-16. -/
def R.A_SEQ_DEF_BASE_LO (i : Nat) : Nat := 0x03000020 + 0x100000 * i
def R.SEQ_DEF_BASE_LO_BASE (i : Nat) : Fld := ⟨R.A_SEQ_DEF_BASE_LO i, 31, 4⟩
/-- SEQ_DEF_BASE_HI, Table 6-16. -/
def R.A_SEQ_DEF_BASE_HI (i : Nat) : Nat := 0x03000024 + 0x100000 * i
def R.SEQ_DEF_BASE_HI_BASE (i : Nat) : Fld := ⟨R.A_SEQ_DEF_BASE_HI i, 2, 0⟩
/-- SEQ_DEF_COUNT, Table 6-16. -/
def R.A_SEQ_DEF_COUNT (i : Nat) : Nat := 0x03000028 + 0x100000 * i
def R.SEQ_DEF_COUNT_COUNT (i : Nat) : Fld := ⟨R.A_SEQ_DEF_COUNT i, 23, 0⟩
/-- SEQ_DEF_NBASE_LO, Table 6-16. -/
def R.A_SEQ_DEF_NBASE_LO (i : Nat) : Nat := 0x03000030 + 0x100000 * i
def R.SEQ_DEF_NBASE_LO_BASE (i : Nat) : Fld := ⟨R.A_SEQ_DEF_NBASE_LO i, 31, 4⟩
/-- SEQ_DEF_NBASE_HI, Table 6-16. -/
def R.A_SEQ_DEF_NBASE_HI (i : Nat) : Nat := 0x03000034 + 0x100000 * i
def R.SEQ_DEF_NBASE_HI_BASE (i : Nat) : Fld := ⟨R.A_SEQ_DEF_NBASE_HI i, 2, 0⟩
/-- SEQ_DEF_NCOUNT, Table 6-16. -/
def R.A_SEQ_DEF_NCOUNT (i : Nat) : Nat := 0x03000038 + 0x100000 * i
def R.SEQ_DEF_NCOUNT_COUNT (i : Nat) : Fld := ⟨R.A_SEQ_DEF_NCOUNT i, 23, 0⟩
/-- SEQ_FLT_STAT, Table 6-17. -/
def R.A_SEQ_FLT_STAT (i : Nat) : Nat := 0x03000040 + 0x100000 * i
def R.SEQ_FLT_STAT_PATCH_BAD (i : Nat) : Fld := ⟨R.A_SEQ_FLT_STAT i, 7, 7⟩
def R.SEQ_FLT_STAT_FMT_BAD (i : Nat) : Fld := ⟨R.A_SEQ_FLT_STAT i, 6, 6⟩
def R.SEQ_FLT_STAT_DEF_BAD (i : Nat) : Fld := ⟨R.A_SEQ_FLT_STAT i, 5, 5⟩
def R.SEQ_FLT_STAT_ARM_OVF (i : Nat) : Fld := ⟨R.A_SEQ_FLT_STAT i, 4, 4⟩
def R.SEQ_FLT_STAT_QUEUE (i : Nat) : Fld := ⟨R.A_SEQ_FLT_STAT i, 3, 3⟩
def R.SEQ_FLT_STAT_WP_TIMEOUT (i : Nat) : Fld := ⟨R.A_SEQ_FLT_STAT i, 2, 2⟩
def R.SEQ_FLT_STAT_STACK (i : Nat) : Fld := ⟨R.A_SEQ_FLT_STAT i, 1, 1⟩
def R.SEQ_FLT_STAT_ILLEGAL (i : Nat) : Fld := ⟨R.A_SEQ_FLT_STAT i, 0, 0⟩
/-- SEQ_FLT_MASK, Table 6-17. -/
def R.A_SEQ_FLT_MASK (i : Nat) : Nat := 0x03000044 + 0x100000 * i
def R.SEQ_FLT_MASK_PATCH_BAD (i : Nat) : Fld := ⟨R.A_SEQ_FLT_MASK i, 7, 7⟩
def R.SEQ_FLT_MASK_FMT_BAD (i : Nat) : Fld := ⟨R.A_SEQ_FLT_MASK i, 6, 6⟩
def R.SEQ_FLT_MASK_DEF_BAD (i : Nat) : Fld := ⟨R.A_SEQ_FLT_MASK i, 5, 5⟩
def R.SEQ_FLT_MASK_ARM_OVF (i : Nat) : Fld := ⟨R.A_SEQ_FLT_MASK i, 4, 4⟩
def R.SEQ_FLT_MASK_QUEUE (i : Nat) : Fld := ⟨R.A_SEQ_FLT_MASK i, 3, 3⟩
def R.SEQ_FLT_MASK_WP_TIMEOUT (i : Nat) : Fld := ⟨R.A_SEQ_FLT_MASK i, 2, 2⟩
def R.SEQ_FLT_MASK_STACK (i : Nat) : Fld := ⟨R.A_SEQ_FLT_MASK i, 1, 1⟩
def R.SEQ_FLT_MASK_ILLEGAL (i : Nat) : Fld := ⟨R.A_SEQ_FLT_MASK i, 0, 0⟩
/-- SEQ_FLT_SEV, Table 6-18. -/
def R.A_SEQ_FLT_SEV (i : Nat) : Nat := 0x03000048 + 0x100000 * i
def R.SEQ_FLT_SEV_PATCH_BAD (i : Nat) : Fld := ⟨R.A_SEQ_FLT_SEV i, 23, 21⟩
def R.SEQ_FLT_SEV_FMT_BAD (i : Nat) : Fld := ⟨R.A_SEQ_FLT_SEV i, 20, 18⟩
def R.SEQ_FLT_SEV_DEF_BAD (i : Nat) : Fld := ⟨R.A_SEQ_FLT_SEV i, 17, 15⟩
def R.SEQ_FLT_SEV_ARM_OVF (i : Nat) : Fld := ⟨R.A_SEQ_FLT_SEV i, 14, 12⟩
def R.SEQ_FLT_SEV_QUEUE (i : Nat) : Fld := ⟨R.A_SEQ_FLT_SEV i, 11, 9⟩
def R.SEQ_FLT_SEV_WP_TIMEOUT (i : Nat) : Fld := ⟨R.A_SEQ_FLT_SEV i, 8, 6⟩
def R.SEQ_FLT_SEV_STACK (i : Nat) : Fld := ⟨R.A_SEQ_FLT_SEV i, 5, 3⟩
def R.SEQ_FLT_SEV_ILLEGAL (i : Nat) : Fld := ⟨R.A_SEQ_FLT_SEV i, 2, 0⟩
/-- SEQ_TRAP, Table 6-19. -/
def R.A_SEQ_TRAP (i : Nat) (j : Nat) : Nat := 0x03001000 + 0x100000 * i + 0x4 * j
def R.SEQ_TRAP_VALID (i : Nat) (j : Nat) : Fld := ⟨R.A_SEQ_TRAP i j, 31, 31⟩
def R.SEQ_TRAP_TO (i : Nat) (j : Nat) : Fld := ⟨R.A_SEQ_TRAP i j, 29, 16⟩
def R.SEQ_TRAP_FROM (i : Nat) (j : Nat) : Fld := ⟨R.A_SEQ_TRAP i j, 13, 0⟩
/-- SEQ_ZFMT, R139. -/
def R.A_SEQ_ZFMT (i : Nat) (j : Nat) : Nat := 0x03008000 + 0x100000 * i + 0x4 * j
def R.SEQ_ZFMT_WORD (i : Nat) (j : Nat) : Fld := ⟨R.A_SEQ_ZFMT i j, 31, 0⟩
/-- SRV_CTRL, Table 7-11. -/
def R.A_SRV_CTRL : Nat := 0x03400000
def R.SRV_CTRL_ACT_EN : Fld := ⟨R.A_SRV_CTRL, 3, 0⟩
/-- SRV_DEMOD, Table 7-11. -/
def R.A_SRV_DEMOD : Nat := 0x03400004
def R.SRV_DEMOD_BSUM_MAX : Fld := ⟨R.A_SRV_DEMOD, 31, 24⟩
def R.SRV_DEMOD_BSUM_MIN : Fld := ⟨R.A_SRV_DEMOD, 23, 16⟩
def R.SRV_DEMOD_SAM_WIN_U : Fld := ⟨R.A_SRV_DEMOD, 11, 8⟩
def R.SRV_DEMOD_SAM_TOL : Fld := ⟨R.A_SRV_DEMOD, 5, 4⟩
def R.SRV_DEMOD_SAM_WIN : Fld := ⟨R.A_SRV_DEMOD, 2, 0⟩
/-- SRV_FLT_STAT, Table 7-17. -/
def R.A_SRV_FLT_STAT : Nat := 0x03400010
def R.SRV_FLT_STAT_GUST_LOSS : Fld := ⟨R.A_SRV_FLT_STAT, 31, 30⟩
def R.SRV_FLT_STAT_GUST_TRIP : Fld := ⟨R.A_SRV_FLT_STAT, 29, 28⟩
def R.SRV_FLT_STAT_AMP_FLT : Fld := ⟨R.A_SRV_FLT_STAT, 27, 24⟩
def R.SRV_FLT_STAT_RANGE : Fld := ⟨R.A_SRV_FLT_STAT, 23, 20⟩
def R.SRV_FLT_STAT_SERVO_LOST : Fld := ⟨R.A_SRV_FLT_STAT, 19, 16⟩
def R.SRV_FLT_STAT_BRIDGE_FLT : Fld := ⟨R.A_SRV_FLT_STAT, 15, 12⟩
def R.SRV_FLT_STAT_BLINK_DOWN : Fld := ⟨R.A_SRV_FLT_STAT, 11, 8⟩
def R.SRV_FLT_STAT_LOAD_FAIL : Fld := ⟨R.A_SRV_FLT_STAT, 7, 4⟩
def R.SRV_FLT_STAT_SEEK_ABORT : Fld := ⟨R.A_SRV_FLT_STAT, 3, 0⟩
/-- SRV_FLT_MASK, Table 7-17. -/
def R.A_SRV_FLT_MASK : Nat := 0x03400014
def R.SRV_FLT_MASK_GUST_LOSS : Fld := ⟨R.A_SRV_FLT_MASK, 31, 30⟩
def R.SRV_FLT_MASK_GUST_TRIP : Fld := ⟨R.A_SRV_FLT_MASK, 29, 28⟩
def R.SRV_FLT_MASK_AMP_FLT : Fld := ⟨R.A_SRV_FLT_MASK, 27, 24⟩
def R.SRV_FLT_MASK_RANGE : Fld := ⟨R.A_SRV_FLT_MASK, 23, 20⟩
def R.SRV_FLT_MASK_SERVO_LOST : Fld := ⟨R.A_SRV_FLT_MASK, 19, 16⟩
def R.SRV_FLT_MASK_BRIDGE_FLT : Fld := ⟨R.A_SRV_FLT_MASK, 15, 12⟩
def R.SRV_FLT_MASK_BLINK_DOWN : Fld := ⟨R.A_SRV_FLT_MASK, 11, 8⟩
def R.SRV_FLT_MASK_LOAD_FAIL : Fld := ⟨R.A_SRV_FLT_MASK, 7, 4⟩
def R.SRV_FLT_MASK_SEEK_ABORT : Fld := ⟨R.A_SRV_FLT_MASK, 3, 0⟩
/-- SRV_FLT_SEV, Table 7-18. -/
def R.A_SRV_FLT_SEV : Nat := 0x03400018
def R.SRV_FLT_SEV_GUST_LOSS : Fld := ⟨R.A_SRV_FLT_SEV, 26, 24⟩
def R.SRV_FLT_SEV_GUST_TRIP : Fld := ⟨R.A_SRV_FLT_SEV, 23, 21⟩
def R.SRV_FLT_SEV_AMP_FLT : Fld := ⟨R.A_SRV_FLT_SEV, 20, 18⟩
def R.SRV_FLT_SEV_RANGE : Fld := ⟨R.A_SRV_FLT_SEV, 17, 15⟩
def R.SRV_FLT_SEV_SERVO_LOST : Fld := ⟨R.A_SRV_FLT_SEV, 14, 12⟩
def R.SRV_FLT_SEV_BRIDGE_FLT : Fld := ⟨R.A_SRV_FLT_SEV, 11, 9⟩
def R.SRV_FLT_SEV_BLINK_DOWN : Fld := ⟨R.A_SRV_FLT_SEV, 8, 6⟩
def R.SRV_FLT_SEV_LOAD_FAIL : Fld := ⟨R.A_SRV_FLT_SEV, 5, 3⟩
def R.SRV_FLT_SEV_SEEK_ABORT : Fld := ⟨R.A_SRV_FLT_SEV, 2, 0⟩
/-- SRV_GUST_0_CFG, Table 7-12. -/
def R.A_SRV_GUST_0_CFG : Nat := 0x03400100
def R.SRV_GUST_0_CFG_MAP : Fld := ⟨R.A_SRV_GUST_0_CFG, 19, 16⟩
def R.SRV_GUST_0_CFG_TRIP_N : Fld := ⟨R.A_SRV_GUST_0_CFG, 11, 8⟩
def R.SRV_GUST_0_CFG_FF_EN : Fld := ⟨R.A_SRV_GUST_0_CFG, 1, 1⟩
def R.SRV_GUST_0_CFG_EN : Fld := ⟨R.A_SRV_GUST_0_CFG, 0, 0⟩
/-- SRV_GUST_1_CFG, Table 7-12. -/
def R.A_SRV_GUST_1_CFG : Nat := 0x03400120
def R.SRV_GUST_1_CFG_MAP : Fld := ⟨R.A_SRV_GUST_1_CFG, 19, 16⟩
def R.SRV_GUST_1_CFG_TRIP_N : Fld := ⟨R.A_SRV_GUST_1_CFG, 11, 8⟩
def R.SRV_GUST_1_CFG_FF_EN : Fld := ⟨R.A_SRV_GUST_1_CFG, 1, 1⟩
def R.SRV_GUST_1_CFG_EN : Fld := ⟨R.A_SRV_GUST_1_CFG, 0, 0⟩
/-- SRV_GUST_TRIP, Table 7-12. -/
def R.A_SRV_GUST_TRIP (i : Nat) : Nat := 0x03400104 + 0x20 * i
def R.SRV_GUST_TRIP_TRIP_ROT (i : Nat) : Fld := ⟨R.A_SRV_GUST_TRIP i, 31, 16⟩
def R.SRV_GUST_TRIP_TRIP_LIN (i : Nat) : Fld := ⟨R.A_SRV_GUST_TRIP i, 15, 0⟩
/-- SRV_GUST_TIME, Table 7-12. -/
def R.A_SRV_GUST_TIME (i : Nat) : Nat := 0x03400108 + 0x20 * i
def R.SRV_GUST_TIME_HOLD (i : Nat) : Fld := ⟨R.A_SRV_GUST_TIME i, 31, 16⟩
def R.SRV_GUST_TIME_TMO (i : Nat) : Fld := ⟨R.A_SRV_GUST_TIME i, 7, 0⟩
/-- SRV_GUST_LAST, Table 7-12. -/
def R.A_SRV_GUST_LAST (i : Nat) : Nat := 0x0340010C + 0x20 * i
def R.SRV_GUST_LAST_ROT (i : Nat) : Fld := ⟨R.A_SRV_GUST_LAST i, 31, 16⟩
def R.SRV_GUST_LAST_LIN (i : Nat) : Fld := ⟨R.A_SRV_GUST_LAST i, 15, 0⟩
/-- SRV_GUST_STAT, Table 7-12. -/
def R.A_SRV_GUST_STAT (i : Nat) : Nat := 0x03400110 + 0x20 * i
def R.SRV_GUST_STAT_CRC_CNT (i : Nat) : Fld := ⟨R.A_SRV_GUST_STAT i, 31, 16⟩
def R.SRV_GUST_STAT_LOST (i : Nat) : Fld := ⟨R.A_SRV_GUST_STAT i, 1, 1⟩
def R.SRV_GUST_STAT_TRIPPED (i : Nat) : Fld := ⟨R.A_SRV_GUST_STAT i, 0, 0⟩
/-- SRV_ACT_CTRL, Table 7-13. -/
def R.A_SRV_ACT_CTRL (i : Nat) : Nat := 0x03401000 + 0x100 * i
def R.SRV_ACT_CTRL_HOME (i : Nat) : Fld := ⟨R.A_SRV_ACT_CTRL i, 29, 8⟩
def R.SRV_ACT_CTRL_BRIDLE_FIT (i : Nat) : Fld := ⟨R.A_SRV_ACT_CTRL i, 7, 7⟩
def R.SRV_ACT_CTRL_REF_IDX (i : Nat) : Fld := ⟨R.A_SRV_ACT_CTRL i, 6, 4⟩
def R.SRV_ACT_CTRL_CMD (i : Nat) : Fld := ⟨R.A_SRV_ACT_CTRL i, 2, 0⟩
/-- SRV_ACT_STAT, Table 7-13. -/
def R.A_SRV_ACT_STAT (i : Nat) : Nat := 0x03401004 + 0x100 * i
def R.SRV_ACT_STAT_STATE (i : Nat) : Fld := ⟨R.A_SRV_ACT_STAT i, 31, 28⟩
def R.SRV_ACT_STAT_SEEKFAIL (i : Nat) : Fld := ⟨R.A_SRV_ACT_STAT i, 25, 25⟩
def R.SRV_ACT_STAT_SEEKDONE (i : Nat) : Fld := ⟨R.A_SRV_ACT_STAT i, 24, 24⟩
def R.SRV_ACT_STAT_CYL (i : Nat) : Fld := ⟨R.A_SRV_ACT_STAT i, 21, 0⟩
/-- SRV_ACT_LIM, Table 7-13. -/
def R.A_SRV_ACT_LIM (i : Nat) : Nat := 0x03401008 + 0x100 * i
def R.SRV_ACT_LIM_SEEK_TMO (i : Nat) : Fld := ⟨R.A_SRV_ACT_LIM i, 31, 24⟩
def R.SRV_ACT_LIM_LOST_N (i : Nat) : Fld := ⟨R.A_SRV_ACT_LIM i, 23, 20⟩
def R.SRV_ACT_LIM_ONTRK_N (i : Nat) : Fld := ⟨R.A_SRV_ACT_LIM i, 19, 16⟩
def R.SRV_ACT_LIM_ONTRK_WIN (i : Nat) : Fld := ⟨R.A_SRV_ACT_LIM i, 15, 8⟩
def R.SRV_ACT_LIM_SETTLE_WIN (i : Nat) : Fld := ⟨R.A_SRV_ACT_LIM i, 7, 0⟩
/-- SRV_ACT_VFOL, Table 7-13. -/
def R.A_SRV_ACT_VFOL (i : Nat) : Nat := 0x0340100C + 0x100 * i
def R.SRV_ACT_VFOL_T_TRACK (i : Nat) : Fld := ⟨R.A_SRV_ACT_VFOL i, 31, 28⟩
def R.SRV_ACT_VFOL_T_SEEK (i : Nat) : Fld := ⟨R.A_SRV_ACT_VFOL i, 27, 24⟩
def R.SRV_ACT_VFOL_L_TRACK (i : Nat) : Fld := ⟨R.A_SRV_ACT_VFOL i, 23, 12⟩
def R.SRV_ACT_VFOL_L_SEEK (i : Nat) : Fld := ⟨R.A_SRV_ACT_VFOL i, 11, 0⟩
/-- SRV_ACT_RET, Table 7-14. -/
def R.A_SRV_ACT_RET (i : Nat) : Nat := 0x03401010 + 0x100 * i
def R.SRV_ACT_RET_RET_I (i : Nat) : Fld := ⟨R.A_SRV_ACT_RET i, 31, 16⟩
def R.SRV_ACT_RET_RET_T (i : Nat) : Fld := ⟨R.A_SRV_ACT_RET i, 15, 8⟩
/-- SRV_VCM_PWM, Table 7-14. -/
def R.A_SRV_VCM_PWM (i : Nat) : Nat := 0x03401014 + 0x100 * i
def R.SRV_VCM_PWM_IMAX (i : Nat) : Fld := ⟨R.A_SRV_VCM_PWM i, 31, 16⟩
def R.SRV_VCM_PWM_EN (i : Nat) : Fld := ⟨R.A_SRV_VCM_PWM i, 15, 15⟩
def R.SRV_VCM_PWM_PER (i : Nat) : Fld := ⟨R.A_SRV_VCM_PWM i, 9, 0⟩
/-- SRV_VCM_PI, Table 7-14. -/
def R.A_SRV_VCM_PI (i : Nat) : Nat := 0x03401018 + 0x100 * i
def R.SRV_VCM_PI_KI (i : Nat) : Fld := ⟨R.A_SRV_VCM_PI i, 31, 16⟩
def R.SRV_VCM_PI_KP (i : Nat) : Fld := ⟨R.A_SRV_VCM_PI i, 15, 0⟩
/-- SRV_VCM_I, Table 7-14. -/
def R.A_SRV_VCM_I (i : Nat) : Nat := 0x0340101C + 0x100 * i
def R.SRV_VCM_I_I_CMD (i : Nat) : Fld := ⟨R.A_SRV_VCM_I i, 31, 16⟩
def R.SRV_VCM_I_I_MEAS (i : Nat) : Fld := ⟨R.A_SRV_VCM_I i, 15, 0⟩
/-- SRV_HD_TGT, Table 7-15. -/
def R.A_SRV_HD_TGT (i : Nat) : Nat := 0x03404000 + 0x40 * i
def R.SRV_HD_TGT_VALID (i : Nat) : Fld := ⟨R.A_SRV_HD_TGT i, 31, 31⟩
def R.SRV_HD_TGT_OFS (i : Nat) : Fld := ⟨R.A_SRV_HD_TGT i, 29, 22⟩
def R.SRV_HD_TGT_TRACK (i : Nat) : Fld := ⟨R.A_SRV_HD_TGT i, 21, 0⟩
/-- SRV_HD_STAT, Table 7-15. -/
def R.A_SRV_HD_STAT (i : Nat) : Nat := 0x03404004 + 0x40 * i
def R.SRV_HD_STAT_BSTATE (i : Nat) : Fld := ⟨R.A_SRV_HD_STAT i, 31, 29⟩
def R.SRV_HD_STAT_ONTRK (i : Nat) : Fld := ⟨R.A_SRV_HD_STAT i, 28, 28⟩
def R.SRV_HD_STAT_FOLLOW_ERR (i : Nat) : Fld := ⟨R.A_SRV_HD_STAT i, 27, 27⟩
def R.SRV_HD_STAT_RANGE (i : Nat) : Fld := ⟨R.A_SRV_HD_STAT i, 26, 26⟩
def R.SRV_HD_STAT_CLASS (i : Nat) : Fld := ⟨R.A_SRV_HD_STAT i, 25, 24⟩
def R.SRV_HD_STAT_TID (i : Nat) : Fld := ⟨R.A_SRV_HD_STAT i, 21, 0⟩
/-- SRV_HD_PES, Table 7-15. -/
def R.A_SRV_HD_PES (i : Nat) : Nat := 0x03404008 + 0x40 * i
def R.SRV_HD_PES_WNUM (i : Nat) : Fld := ⟨R.A_SRV_HD_PES i, 25, 16⟩
def R.SRV_HD_PES_E (i : Nat) : Fld := ⟨R.A_SRV_HD_PES i, 15, 0⟩
/-- SRV_HD_SAMANG, Table 7-15. -/
def R.A_SRV_HD_SAMANG (i : Nat) : Nat := 0x0340400C + 0x40 * i
def R.SRV_HD_SAMANG_ANG (i : Nat) : Fld := ⟨R.A_SRV_HD_SAMANG i, 30, 0⟩
/-- SRV_HD_CAL, Table 7-15. -/
def R.A_SRV_HD_CAL (i : Nat) : Nat := 0x03404010 + 0x40 * i
def R.SRV_HD_CAL_KB (i : Nat) : Fld := ⟨R.A_SRV_HD_CAL i, 31, 16⟩
def R.SRV_HD_CAL_T (i : Nat) : Fld := ⟨R.A_SRV_HD_CAL i, 15, 12⟩
def R.SRV_HD_CAL_L (i : Nat) : Fld := ⟨R.A_SRV_HD_CAL i, 11, 0⟩
/-- SRV_MR, Table 7-16. -/
def R.A_SRV_MR (i : Nat) (j : Nat) : Nat := 0x03408000 + 0x100 * i + 0x4 * j
def R.SRV_MR_MR_ODD (i : Nat) (j : Nat) : Fld := ⟨R.A_SRV_MR i j, 31, 16⟩
def R.SRV_MR_MR_EVEN (i : Nat) (j : Nat) : Fld := ⟨R.A_SRV_MR i j, 15, 0⟩
/-- CLE_CTRL, Table 8-9. -/
def R.A_CLE_CTRL : Nat := 0x03500000
def R.CLE_CTRL_EN : Fld := ⟨R.A_CLE_CTRL, 0, 0⟩
/-- CLE_STAT, Table 8-9. -/
def R.A_CLE_STAT : Nat := 0x03500004
def R.CLE_STAT_COMMIT_BUSY : Fld := ⟨R.A_CLE_STAT, 8, 8⟩
def R.CLE_STAT_QUEUED : Fld := ⟨R.A_CLE_STAT, 7, 4⟩
def R.CLE_STAT_LANE1_BUSY : Fld := ⟨R.A_CLE_STAT, 1, 1⟩
def R.CLE_STAT_LANE0_BUSY : Fld := ⟨R.A_CLE_STAT, 0, 0⟩
/-- CLE_LAT, Table 8-10. -/
def R.A_CLE_LAT : Nat := 0x03500008
def R.CLE_LAT_LOOP : Fld := ⟨R.A_CLE_LAT, 20, 16⟩
def R.CLE_LAT_LAT_MAX : Fld := ⟨R.A_CLE_LAT, 7, 0⟩
/-- CLE_FLT_STAT, Table 8-11. -/
def R.A_CLE_FLT_STAT : Nat := 0x03500010
def R.CLE_FLT_STAT_PROF_BAD : Fld := ⟨R.A_CLE_FLT_STAT, 5, 5⟩
def R.CLE_FLT_STAT_INJ_STOP : Fld := ⟨R.A_CLE_FLT_STAT, 4, 4⟩
def R.CLE_FLT_STAT_COEF_BAD : Fld := ⟨R.A_CLE_FLT_STAT, 3, 3⟩
def R.CLE_FLT_STAT_SAT : Fld := ⟨R.A_CLE_FLT_STAT, 2, 2⟩
def R.CLE_FLT_STAT_LOOP_FLT : Fld := ⟨R.A_CLE_FLT_STAT, 1, 1⟩
def R.CLE_FLT_STAT_OVR : Fld := ⟨R.A_CLE_FLT_STAT, 0, 0⟩
/-- CLE_FLT_MASK, Table 8-11. -/
def R.A_CLE_FLT_MASK : Nat := 0x03500014
def R.CLE_FLT_MASK_PROF_BAD : Fld := ⟨R.A_CLE_FLT_MASK, 5, 5⟩
def R.CLE_FLT_MASK_INJ_STOP : Fld := ⟨R.A_CLE_FLT_MASK, 4, 4⟩
def R.CLE_FLT_MASK_COEF_BAD : Fld := ⟨R.A_CLE_FLT_MASK, 3, 3⟩
def R.CLE_FLT_MASK_SAT : Fld := ⟨R.A_CLE_FLT_MASK, 2, 2⟩
def R.CLE_FLT_MASK_LOOP_FLT : Fld := ⟨R.A_CLE_FLT_MASK, 1, 1⟩
def R.CLE_FLT_MASK_OVR : Fld := ⟨R.A_CLE_FLT_MASK, 0, 0⟩
/-- CLE_FLT_SEV, Table 8-12. -/
def R.A_CLE_FLT_SEV : Nat := 0x03500018
def R.CLE_FLT_SEV_PROF_BAD : Fld := ⟨R.A_CLE_FLT_SEV, 17, 15⟩
def R.CLE_FLT_SEV_INJ_STOP : Fld := ⟨R.A_CLE_FLT_SEV, 14, 12⟩
def R.CLE_FLT_SEV_COEF_BAD : Fld := ⟨R.A_CLE_FLT_SEV, 11, 9⟩
def R.CLE_FLT_SEV_SAT : Fld := ⟨R.A_CLE_FLT_SEV, 8, 6⟩
def R.CLE_FLT_SEV_LOOP_FLT : Fld := ⟨R.A_CLE_FLT_SEV, 5, 3⟩
def R.CLE_FLT_SEV_OVR : Fld := ⟨R.A_CLE_FLT_SEV, 2, 0⟩
/-- CLE_COMMIT, Table 8-13. -/
def R.A_CLE_COMMIT : Nat := 0x03500020
def R.CLE_COMMIT_SET : Fld := ⟨R.A_CLE_COMMIT, 9, 8⟩
def R.CLE_COMMIT_LOOP : Fld := ⟨R.A_CLE_COMMIT, 4, 0⟩
/-- CLE_INJ_CTRL, Table 8-14. -/
def R.A_CLE_INJ_CTRL : Nat := 0x03500030
def R.CLE_INJ_CTRL_EN : Fld := ⟨R.A_CLE_INJ_CTRL, 31, 31⟩
def R.CLE_INJ_CTRL_WAVE : Fld := ⟨R.A_CLE_INJ_CTRL, 9, 8⟩
def R.CLE_INJ_CTRL_POINT : Fld := ⟨R.A_CLE_INJ_CTRL, 6, 5⟩
def R.CLE_INJ_CTRL_LOOP : Fld := ⟨R.A_CLE_INJ_CTRL, 4, 0⟩
/-- CLE_INJ_AMP, Table 8-14. -/
def R.A_CLE_INJ_AMP : Nat := 0x03500034
def R.CLE_INJ_AMP_AMP : Fld := ⟨R.A_CLE_INJ_AMP, 31, 0⟩
/-- CLE_INJ_FREQ, Table 8-14. -/
def R.A_CLE_INJ_FREQ : Nat := 0x03500038
def R.CLE_INJ_FREQ_FREQ : Fld := ⟨R.A_CLE_INJ_FREQ, 31, 0⟩
/-- CLE_CAP_CTRL, Table 8-15. -/
def R.A_CLE_CAP_CTRL : Nat := 0x03500040
def R.CLE_CAP_CTRL_ARM : Fld := ⟨R.A_CLE_CAP_CTRL, 31, 31⟩
def R.CLE_CAP_CTRL_COUNT : Fld := ⟨R.A_CLE_CAP_CTRL, 28, 16⟩
def R.CLE_CAP_CTRL_QSEL : Fld := ⟨R.A_CLE_CAP_CTRL, 12, 12⟩
def R.CLE_CAP_CTRL_DEC : Fld := ⟨R.A_CLE_CAP_CTRL, 11, 8⟩
def R.CLE_CAP_CTRL_LOOP : Fld := ⟨R.A_CLE_CAP_CTRL, 4, 0⟩
/-- CLE_CAP_STAT, Table 8-15. -/
def R.A_CLE_CAP_STAT : Nat := 0x03500044
def R.CLE_CAP_STAT_TAKEN : Fld := ⟨R.A_CLE_CAP_STAT, 28, 16⟩
def R.CLE_CAP_STAT_OVR_SEEN : Fld := ⟨R.A_CLE_CAP_STAT, 2, 2⟩
def R.CLE_CAP_STAT_RUN : Fld := ⟨R.A_CLE_CAP_STAT, 1, 1⟩
def R.CLE_CAP_STAT_DONE : Fld := ⟨R.A_CLE_CAP_STAT, 0, 0⟩
/-- CLE_SEEK_CFG, Table 8-16. -/
def R.A_CLE_SEEK_CFG (i : Nat) : Nat := 0x03500080 + 0x10 * i
def R.CLE_SEEK_CFG_NENT (i : Nat) : Fld := ⟨R.A_CLE_SEEK_CFG i, 21, 16⟩
def R.CLE_SEEK_CFG_ACC (i : Nat) : Fld := ⟨R.A_CLE_SEEK_CFG i, 15, 0⟩
/-- CLE_SEEK_R, Table 8-16. -/
def R.A_CLE_SEEK_R (i : Nat) : Nat := 0x03500084 + 0x10 * i
def R.CLE_SEEK_R_R (i : Nat) : Fld := ⟨R.A_CLE_SEEK_R i, 31, 0⟩
/-- CLE_SEEK_V, Table 8-16. -/
def R.A_CLE_SEEK_V (i : Nat) : Nat := 0x03500088 + 0x10 * i
def R.CLE_SEEK_V_V (i : Nat) : Fld := ⟨R.A_CLE_SEEK_V i, 15, 0⟩
/-- CLE_LOOP_CTRL, Table 8-17. -/
def R.A_CLE_LOOP_CTRL (i : Nat) : Nat := 0x03500100 + 0x20 * i
def R.CLE_LOOP_CTRL_DIV (i : Nat) : Fld := ⟨R.A_CLE_LOOP_CTRL i, 15, 8⟩
def R.CLE_LOOP_CTRL_OVR_RUN (i : Nat) : Fld := ⟨R.A_CLE_LOOP_CTRL i, 7, 4⟩
def R.CLE_LOOP_CTRL_CNT_CLR (i : Nat) : Fld := ⟨R.A_CLE_LOOP_CTRL i, 1, 1⟩
def R.CLE_LOOP_CTRL_EN (i : Nat) : Fld := ⟨R.A_CLE_LOOP_CTRL i, 0, 0⟩
/-- CLE_LOOP_STAT, Table 8-17. -/
def R.A_CLE_LOOP_STAT (i : Nat) : Nat := 0x03500104 + 0x20 * i
def R.CLE_LOOP_STAT_LAT (i : Nat) : Fld := ⟨R.A_CLE_LOOP_STAT i, 31, 16⟩
def R.CLE_LOOP_STAT_SET (i : Nat) : Fld := ⟨R.A_CLE_LOOP_STAT i, 13, 12⟩
def R.CLE_LOOP_STAT_RUN (i : Nat) : Fld := ⟨R.A_CLE_LOOP_STAT i, 11, 8⟩
def R.CLE_LOOP_STAT_FAULTED (i : Nat) : Fld := ⟨R.A_CLE_LOOP_STAT i, 4, 4⟩
def R.CLE_LOOP_STAT_OVR (i : Nat) : Fld := ⟨R.A_CLE_LOOP_STAT i, 3, 3⟩
def R.CLE_LOOP_STAT_OUT (i : Nat) : Fld := ⟨R.A_CLE_LOOP_STAT i, 2, 2⟩
def R.CLE_LOOP_STAT_CLIP (i : Nat) : Fld := ⟨R.A_CLE_LOOP_STAT i, 1, 1⟩
def R.CLE_LOOP_STAT_ACC (i : Nat) : Fld := ⟨R.A_CLE_LOOP_STAT i, 0, 0⟩
/-- CLE_LOOP_OUT, Table 8-17. -/
def R.A_CLE_LOOP_OUT (i : Nat) : Nat := 0x03500108 + 0x20 * i
def R.CLE_LOOP_OUT_OUT (i : Nat) : Fld := ⟨R.A_CLE_LOOP_OUT i, 31, 0⟩
/-- CLE_LOOP_OUT2, Table 8-17. -/
def R.A_CLE_LOOP_OUT2 (i : Nat) : Nat := 0x0350010C + 0x20 * i
def R.CLE_LOOP_OUT2_OUT2 (i : Nat) : Fld := ⟨R.A_CLE_LOOP_OUT2 i, 31, 0⟩
/-- CLE_LOOP_CNT, Table 8-17. -/
def R.A_CLE_LOOP_CNT (i : Nat) : Nat := 0x03500110 + 0x20 * i
def R.CLE_LOOP_CNT_JOBS (i : Nat) : Fld := ⟨R.A_CLE_LOOP_CNT i, 31, 0⟩
/-- CLE_LOOP_OVR, Table 8-17. -/
def R.A_CLE_LOOP_OVR (i : Nat) : Nat := 0x03500114 + 0x20 * i
def R.CLE_LOOP_OVR_OVERRUNS (i : Nat) : Fld := ⟨R.A_CLE_LOOP_OVR i, 31, 0⟩
/-- CLE_STAGE, R204. -/
def R.A_CLE_STAGE (i : Nat) : Nat := 0x03501000 + 0x4 * i
def R.CLE_STAGE_WORD (i : Nat) : Fld := ⟨R.A_CLE_STAGE i, 31, 0⟩
/-- CLE_PROF_LO, Table 8-18. -/
def R.A_CLE_PROF_LO (i : Nat) (j : Nat) : Nat := 0x03506000 + 0x100 * i + 0x8 * j
def R.CLE_PROF_LO_D (i : Nat) (j : Nat) : Fld := ⟨R.A_CLE_PROF_LO i j, 21, 0⟩
/-- CLE_PROF_HI, Table 8-18. -/
def R.A_CLE_PROF_HI (i : Nat) (j : Nat) : Nat := 0x03506004 + 0x100 * i + 0x8 * j
def R.CLE_PROF_HI_V (i : Nat) (j : Nat) : Fld := ⟨R.A_CLE_PROF_HI i j, 15, 0⟩
/-- SPN_CTRL, Table 9-9. -/
def R.A_SPN_CTRL : Nat := 0x03600000
def R.SPN_CTRL_CMD : Fld := ⟨R.A_SPN_CTRL, 10, 8⟩
def R.SPN_CTRL_ANG_MODE : Fld := ⟨R.A_SPN_CTRL, 5, 4⟩
def R.SPN_CTRL_BAL_EN : Fld := ⟨R.A_SPN_CTRL, 2, 2⟩
def R.SPN_CTRL_PLOSS_EN : Fld := ⟨R.A_SPN_CTRL, 1, 1⟩
def R.SPN_CTRL_EN : Fld := ⟨R.A_SPN_CTRL, 0, 0⟩
/-- SPN_STAT, Table 9-10. -/
def R.A_SPN_STAT : Nat := 0x03600004
def R.SPN_STAT_STATE : Fld := ⟨R.A_SPN_STAT, 31, 28⟩
def R.SPN_STAT_SRC : Fld := ⟨R.A_SPN_STAT, 27, 27⟩
def R.SPN_STAT_OBS_LOCK : Fld := ⟨R.A_SPN_STAT, 26, 26⟩
def R.SPN_STAT_AT_SPEED : Fld := ⟨R.A_SPN_STAT, 25, 25⟩
def R.SPN_STAT_FW : Fld := ⟨R.A_SPN_STAT, 24, 24⟩
def R.SPN_STAT_MOD_LIM : Fld := ⟨R.A_SPN_STAT, 23, 23⟩
def R.SPN_STAT_BAL_GATE : Fld := ⟨R.A_SPN_STAT, 22, 22⟩
def R.SPN_STAT_ISO : Fld := ⟨R.A_SPN_STAT, 21, 21⟩
def R.SPN_STAT_SUPOK : Fld := ⟨R.A_SPN_STAT, 20, 20⟩
def R.SPN_STAT_TRIES : Fld := ⟨R.A_SPN_STAT, 19, 16⟩
def R.SPN_STAT_BRAKE_PEND : Fld := ⟨R.A_SPN_STAT, 15, 15⟩
/-- SPN_TARGET, Table 9-11. -/
def R.A_SPN_TARGET : Nat := 0x03600008
def R.SPN_TARGET_ACC : Fld := ⟨R.A_SPN_TARGET, 31, 16⟩
def R.SPN_TARGET_RPM : Fld := ⟨R.A_SPN_TARGET, 13, 0⟩
/-- SPN_SPEED, Table 9-11. -/
def R.A_SPN_SPEED : Nat := 0x0360000C
def R.SPN_SPEED_SPEED : Fld := ⟨R.A_SPN_SPEED, 23, 0⟩
/-- SPN_SPERR, Table 9-11. -/
def R.A_SPN_SPERR : Nat := 0x03600010
def R.SPN_SPERR_ERR : Fld := ⟨R.A_SPN_SPERR, 15, 0⟩
/-- SPN_ANGLE, Table 9-12. -/
def R.A_SPN_ANGLE : Nat := 0x03600014
def R.SPN_ANGLE_VALID : Fld := ⟨R.A_SPN_ANGLE, 31, 31⟩
def R.SPN_ANGLE_ANG : Fld := ⟨R.A_SPN_ANGLE, 15, 0⟩
/-- SPN_IDQ, Table 9-12. -/
def R.A_SPN_IDQ : Nat := 0x03600018
def R.SPN_IDQ_IQ : Fld := ⟨R.A_SPN_IDQ, 31, 16⟩
def R.SPN_IDQ_ID : Fld := ⟨R.A_SPN_IDQ, 15, 0⟩
/-- SPN_VBUS, Table 9-12. -/
def R.A_SPN_VBUS : Nat := 0x0360001C
def R.SPN_VBUS_MV : Fld := ⟨R.A_SPN_VBUS, 15, 0⟩
/-- SPN_PWM, Table 9-13. -/
def R.A_SPN_PWM : Nat := 0x03600020
def R.SPN_PWM_PER : Fld := ⟨R.A_SPN_PWM, 12, 0⟩
/-- SPN_MOTOR, Table 9-13. -/
def R.A_SPN_MOTOR : Nat := 0x03600024
def R.SPN_MOTOR_THETA_OFS : Fld := ⟨R.A_SPN_MOTOR, 31, 16⟩
def R.SPN_MOTOR_PP : Fld := ⟨R.A_SPN_MOTOR, 3, 0⟩
/-- SPN_OBS_R, Table 9-14. -/
def R.A_SPN_OBS_R : Nat := 0x03600028
def R.SPN_OBS_R_R : Fld := ⟨R.A_SPN_OBS_R, 31, 0⟩
/-- SPN_OBS_L, Table 9-14. -/
def R.A_SPN_OBS_L : Nat := 0x0360002C
def R.SPN_OBS_L_L : Fld := ⟨R.A_SPN_OBS_L, 31, 0⟩
/-- SPN_OBS_KE, Table 9-14. -/
def R.A_SPN_OBS_KE : Nat := 0x03600030
def R.SPN_OBS_KE_KE : Fld := ⟨R.A_SPN_OBS_KE, 31, 0⟩
/-- SPN_OBS_CFG, Table 9-14. -/
def R.A_SPN_OBS_CFG : Nat := 0x03600034
def R.SPN_OBS_CFG_LOCK_N : Fld := ⟨R.A_SPN_OBS_CFG, 31, 24⟩
def R.SPN_OBS_CFG_LOSS_DEG : Fld := ⟨R.A_SPN_OBS_CFG, 23, 16⟩
def R.SPN_OBS_CFG_OBS_MIN : Fld := ⟨R.A_SPN_OBS_CFG, 15, 8⟩
def R.SPN_OBS_CFG_DISAGREE_DEG : Fld := ⟨R.A_SPN_OBS_CFG, 7, 0⟩
/-- SPN_LIM, Table 9-15. -/
def R.A_SPN_LIM : Nat := 0x03600038
def R.SPN_LIM_ID_FW_MAX : Fld := ⟨R.A_SPN_LIM, 31, 16⟩
def R.SPN_LIM_IQ_LIM : Fld := ⟨R.A_SPN_LIM, 15, 0⟩
/-- SPN_FW, Table 9-15. -/
def R.A_SPN_FW : Nat := 0x0360003C
def R.SPN_FW_MOD_MAX : Fld := ⟨R.A_SPN_FW, 31, 24⟩
def R.SPN_FW_FW_M : Fld := ⟨R.A_SPN_FW, 23, 16⟩
def R.SPN_FW_FW_STEP : Fld := ⟨R.A_SPN_FW, 15, 0⟩
/-- SPN_START, Table 9-16. -/
def R.A_SPN_START : Nat := 0x03600040
def R.SPN_START_ALIGN_T : Fld := ⟨R.A_SPN_START, 31, 24⟩
def R.SPN_START_RAMP_TMO : Fld := ⟨R.A_SPN_START, 23, 16⟩
def R.SPN_START_TRIES : Fld := ⟨R.A_SPN_START, 15, 12⟩
def R.SPN_START_RAMP_ACC : Fld := ⟨R.A_SPN_START, 11, 0⟩
/-- SPN_BRAKE, Table 9-16. -/
def R.A_SPN_BRAKE : Nat := 0x03600044
def R.SPN_BRAKE_DEC : Fld := ⟨R.A_SPN_BRAKE, 31, 16⟩
def R.SPN_BRAKE_FLY_MIN : Fld := ⟨R.A_SPN_BRAKE, 15, 0⟩
/-- SPN_BUS, Table 9-17. -/
def R.A_SPN_BUS : Nat := 0x03600048
def R.SPN_BUS_VBUS_FS : Fld := ⟨R.A_SPN_BUS, 31, 16⟩
def R.SPN_BUS_VBUS_UV : Fld := ⟨R.A_SPN_BUS, 15, 0⟩
/-- SPN_BAL, Table 9-17. -/
def R.A_SPN_BAL : Nat := 0x0360004C
def R.SPN_BAL_BAL_ON : Fld := ⟨R.A_SPN_BAL, 31, 16⟩
def R.SPN_BAL_BAL_OFF : Fld := ⟨R.A_SPN_BAL, 15, 0⟩
/-- SPN_PLOSS, Table 9-17. -/
def R.A_SPN_PLOSS : Nat := 0x03600050
def R.SPN_PLOSS_VBUS_HOLD : Fld := ⟨R.A_SPN_PLOSS, 31, 16⟩
def R.SPN_PLOSS_PLOSS_MIN : Fld := ⟨R.A_SPN_PLOSS, 15, 0⟩
/-- SPN_SPDREF_CFG, Table 9-18. -/
def R.A_SPN_SPDREF_CFG : Nat := 0x03600054
def R.SPN_SPDREF_CFG_MODE : Fld := ⟨R.A_SPN_SPDREF_CFG, 31, 30⟩
def R.SPN_SPDREF_CFG_SYNC : Fld := ⟨R.A_SPN_SPDREF_CFG, 29, 29⟩
def R.SPN_SPDREF_CFG_SYNC_PH : Fld := ⟨R.A_SPN_SPDREF_CFG, 27, 16⟩
def R.SPN_SPDREF_CFG_PPR : Fld := ⟨R.A_SPN_SPDREF_CFG, 15, 8⟩
def R.SPN_SPDREF_CFG_SLEW : Fld := ⟨R.A_SPN_SPDREF_CFG, 7, 0⟩
/-- SPN_SPDREF_STAT, Table 9-18. -/
def R.A_SPN_SPDREF_STAT : Nat := 0x03600058
def R.SPN_SPDREF_STAT_GOOD : Fld := ⟨R.A_SPN_SPDREF_STAT, 31, 31⟩
def R.SPN_SPDREF_STAT_SYNC_LOCK : Fld := ⟨R.A_SPN_SPDREF_STAT, 30, 30⟩
def R.SPN_SPDREF_STAT_REF : Fld := ⟨R.A_SPN_SPDREF_STAT, 13, 0⟩
/-- SPN_CNT, Table 9-19. -/
def R.A_SPN_CNT : Nat := 0x03600060
def R.SPN_CNT_OBS_LOSS : Fld := ⟨R.A_SPN_CNT, 31, 16⟩
def R.SPN_CNT_CATCH : Fld := ⟨R.A_SPN_CNT, 15, 0⟩
/-- SPN_PLOSS_STAMP_LO, Table 9-19. -/
def R.A_SPN_PLOSS_STAMP_LO : Nat := 0x03600064
def R.SPN_PLOSS_STAMP_LO_STAMP_LO : Fld := ⟨R.A_SPN_PLOSS_STAMP_LO, 31, 0⟩
/-- SPN_PLOSS_STAMP_HI, Table 9-19. -/
def R.A_SPN_PLOSS_STAMP_HI : Nat := 0x03600068
def R.SPN_PLOSS_STAMP_HI_STAMP_HI : Fld := ⟨R.A_SPN_PLOSS_STAMP_HI, 31, 0⟩
/-- SPN_FLT_STAT, Table 9-20. -/
def R.A_SPN_FLT_STAT : Nat := 0x03600070
def R.SPN_FLT_STAT_START_FAIL : Fld := ⟨R.A_SPN_FLT_STAT, 12, 12⟩
def R.SPN_FLT_STAT_ANG_DISAGREE : Fld := ⟨R.A_SPN_FLT_STAT, 11, 11⟩
def R.SPN_FLT_STAT_SPEED_LOW : Fld := ⟨R.A_SPN_FLT_STAT, 10, 10⟩
def R.SPN_FLT_STAT_SPDREF_BAD : Fld := ⟨R.A_SPN_FLT_STAT, 9, 9⟩
def R.SPN_FLT_STAT_LOOP_LOST : Fld := ⟨R.A_SPN_FLT_STAT, 8, 8⟩
def R.SPN_FLT_STAT_STAGE_FLT : Fld := ⟨R.A_SPN_FLT_STAT, 7, 7⟩
def R.SPN_FLT_STAT_SUPPLY_LOSS : Fld := ⟨R.A_SPN_FLT_STAT, 6, 6⟩
def R.SPN_FLT_STAT_OV : Fld := ⟨R.A_SPN_FLT_STAT, 5, 5⟩
def R.SPN_FLT_STAT_BAL_STUCK : Fld := ⟨R.A_SPN_FLT_STAT, 4, 4⟩
def R.SPN_FLT_STAT_BAL_FLT : Fld := ⟨R.A_SPN_FLT_STAT, 3, 3⟩
def R.SPN_FLT_STAT_SPIN_FAIL : Fld := ⟨R.A_SPN_FLT_STAT, 2, 2⟩
def R.SPN_FLT_STAT_CATCH_FAIL : Fld := ⟨R.A_SPN_FLT_STAT, 1, 1⟩
def R.SPN_FLT_STAT_OBS_LOSS : Fld := ⟨R.A_SPN_FLT_STAT, 0, 0⟩
/-- SPN_FLT_MASK, Table 9-20. -/
def R.A_SPN_FLT_MASK : Nat := 0x03600074
def R.SPN_FLT_MASK_START_FAIL : Fld := ⟨R.A_SPN_FLT_MASK, 12, 12⟩
def R.SPN_FLT_MASK_ANG_DISAGREE : Fld := ⟨R.A_SPN_FLT_MASK, 11, 11⟩
def R.SPN_FLT_MASK_SPEED_LOW : Fld := ⟨R.A_SPN_FLT_MASK, 10, 10⟩
def R.SPN_FLT_MASK_SPDREF_BAD : Fld := ⟨R.A_SPN_FLT_MASK, 9, 9⟩
def R.SPN_FLT_MASK_LOOP_LOST : Fld := ⟨R.A_SPN_FLT_MASK, 8, 8⟩
def R.SPN_FLT_MASK_STAGE_FLT : Fld := ⟨R.A_SPN_FLT_MASK, 7, 7⟩
def R.SPN_FLT_MASK_SUPPLY_LOSS : Fld := ⟨R.A_SPN_FLT_MASK, 6, 6⟩
def R.SPN_FLT_MASK_OV : Fld := ⟨R.A_SPN_FLT_MASK, 5, 5⟩
def R.SPN_FLT_MASK_BAL_STUCK : Fld := ⟨R.A_SPN_FLT_MASK, 4, 4⟩
def R.SPN_FLT_MASK_BAL_FLT : Fld := ⟨R.A_SPN_FLT_MASK, 3, 3⟩
def R.SPN_FLT_MASK_SPIN_FAIL : Fld := ⟨R.A_SPN_FLT_MASK, 2, 2⟩
def R.SPN_FLT_MASK_CATCH_FAIL : Fld := ⟨R.A_SPN_FLT_MASK, 1, 1⟩
def R.SPN_FLT_MASK_OBS_LOSS : Fld := ⟨R.A_SPN_FLT_MASK, 0, 0⟩
/-- SPN_FLT_SEV0, Table 9-21. -/
def R.A_SPN_FLT_SEV0 : Nat := 0x03600078
def R.SPN_FLT_SEV0_OV : Fld := ⟨R.A_SPN_FLT_SEV0, 17, 15⟩
def R.SPN_FLT_SEV0_BAL_STUCK : Fld := ⟨R.A_SPN_FLT_SEV0, 14, 12⟩
def R.SPN_FLT_SEV0_BAL_FLT : Fld := ⟨R.A_SPN_FLT_SEV0, 11, 9⟩
def R.SPN_FLT_SEV0_SPIN_FAIL : Fld := ⟨R.A_SPN_FLT_SEV0, 8, 6⟩
def R.SPN_FLT_SEV0_CATCH_FAIL : Fld := ⟨R.A_SPN_FLT_SEV0, 5, 3⟩
def R.SPN_FLT_SEV0_OBS_LOSS : Fld := ⟨R.A_SPN_FLT_SEV0, 2, 0⟩
/-- SPN_FLT_SEV1, Table 9-21. -/
def R.A_SPN_FLT_SEV1 : Nat := 0x0360007C
def R.SPN_FLT_SEV1_START_FAIL : Fld := ⟨R.A_SPN_FLT_SEV1, 20, 18⟩
def R.SPN_FLT_SEV1_ANG_DISAGREE : Fld := ⟨R.A_SPN_FLT_SEV1, 17, 15⟩
def R.SPN_FLT_SEV1_SPEED_LOW : Fld := ⟨R.A_SPN_FLT_SEV1, 14, 12⟩
def R.SPN_FLT_SEV1_SPDREF_BAD : Fld := ⟨R.A_SPN_FLT_SEV1, 11, 9⟩
def R.SPN_FLT_SEV1_LOOP_LOST : Fld := ⟨R.A_SPN_FLT_SEV1, 8, 6⟩
def R.SPN_FLT_SEV1_STAGE_FLT : Fld := ⟨R.A_SPN_FLT_SEV1, 5, 3⟩
def R.SPN_FLT_SEV1_SUPPLY_LOSS : Fld := ⟨R.A_SPN_FLT_SEV1, 2, 0⟩
/-- DEP_CTRL, Table 10-13. -/
def R.A_DEP_CTRL : Nat := 0x04000000
def R.DEP_CTRL_EN : Fld := ⟨R.A_DEP_CTRL, 0, 0⟩
/-- DEP_STAT, Table 10-13. -/
def R.A_DEP_STAT : Nat := 0x04000004
def R.DEP_STAT_POOLS_READY : Fld := ⟨R.A_DEP_STAT, 7, 4⟩
def R.DEP_STAT_STATE : Fld := ⟨R.A_DEP_STAT, 1, 0⟩
/-- DEP_REQ_ARG, Table 10-14. -/
def R.A_DEP_REQ_ARG : Nat := 0x04000010
def R.DEP_REQ_ARG_ARG : Fld := ⟨R.A_DEP_REQ_ARG, 31, 0⟩
/-- DEP_REQ, Table 10-14. -/
def R.A_DEP_REQ : Nat := 0x04000014
def R.DEP_REQ_OP : Fld := ⟨R.A_DEP_REQ, 31, 28⟩
def R.DEP_REQ_CLIMB : Fld := ⟨R.A_DEP_REQ, 27, 27⟩
def R.DEP_REQ_INV : Fld := ⟨R.A_DEP_REQ, 26, 26⟩
def R.DEP_REQ_POOL : Fld := ⟨R.A_DEP_REQ, 25, 24⟩
def R.DEP_REQ_TAG : Fld := ⟨R.A_DEP_REQ, 15, 8⟩
def R.DEP_REQ_TAG2 : Fld := ⟨R.A_DEP_REQ, 7, 0⟩
/-- DEP_RESP, Table 10-14. -/
def R.A_DEP_RESP : Nat := 0x04000018
def R.DEP_RESP_HANDLE : Fld := ⟨R.A_DEP_RESP, 31, 0⟩
/-- DEP_RESP_STAT, Table 10-14. -/
def R.A_DEP_RESP_STAT : Nat := 0x0400001C
def R.DEP_RESP_STAT_BUSY : Fld := ⟨R.A_DEP_RESP_STAT, 31, 31⟩
def R.DEP_RESP_STAT_CODE : Fld := ⟨R.A_DEP_RESP_STAT, 3, 0⟩
/-- DEP_RESP_Q_LO, Table 10-14. -/
def R.A_DEP_RESP_Q_LO : Nat := 0x04000020
def R.DEP_RESP_Q_LO_ENTRY_LO : Fld := ⟨R.A_DEP_RESP_Q_LO, 31, 0⟩
/-- DEP_RESP_Q_HI, Table 10-14. -/
def R.A_DEP_RESP_Q_HI : Nat := 0x04000024
def R.DEP_RESP_Q_HI_ENTRY_HI : Fld := ⟨R.A_DEP_RESP_Q_HI, 31, 0⟩
/-- DEP_REJ_LOG0, Table 10-15. -/
def R.A_DEP_REJ_LOG0 : Nat := 0x04000030
def R.DEP_REJ_LOG0_HANDLE : Fld := ⟨R.A_DEP_REJ_LOG0, 31, 0⟩
/-- DEP_REJ_LOG1, Table 10-15. -/
def R.A_DEP_REJ_LOG1 : Nat := 0x04000034
def R.DEP_REJ_LOG1_REQ_TAG : Fld := ⟨R.A_DEP_REJ_LOG1, 31, 24⟩
def R.DEP_REJ_LOG1_OWN_TAG : Fld := ⟨R.A_DEP_REJ_LOG1, 23, 16⟩
def R.DEP_REJ_LOG1_OP : Fld := ⟨R.A_DEP_REJ_LOG1, 15, 12⟩
def R.DEP_REJ_LOG1_CODE : Fld := ⟨R.A_DEP_REJ_LOG1, 11, 8⟩
/-- DEP_REJ_CNT, Table 10-15. -/
def R.A_DEP_REJ_CNT : Nat := 0x04000038
def R.DEP_REJ_CNT_COUNT : Fld := ⟨R.A_DEP_REJ_CNT, 31, 0⟩
/-- DEP_FLT_STAT, Table 10-16. -/
def R.A_DEP_FLT_STAT : Nat := 0x04000040
def R.DEP_FLT_STAT_REBUILD : Fld := ⟨R.A_DEP_FLT_STAT, 13, 13⟩
def R.DEP_FLT_STAT_RETIRE : Fld := ⟨R.A_DEP_FLT_STAT, 12, 12⟩
def R.DEP_FLT_STAT_CFG_BAD : Fld := ⟨R.A_DEP_FLT_STAT, 11, 11⟩
def R.DEP_FLT_STAT_INVALID_READ : Fld := ⟨R.A_DEP_FLT_STAT, 10, 10⟩
def R.DEP_FLT_STAT_RANGE : Fld := ⟨R.A_DEP_FLT_STAT, 9, 9⟩
def R.DEP_FLT_STAT_REJECT : Fld := ⟨R.A_DEP_FLT_STAT, 8, 8⟩
def R.DEP_FLT_STAT_EMPTY_SEEN : Fld := ⟨R.A_DEP_FLT_STAT, 7, 4⟩
def R.DEP_FLT_STAT_LOW_WM : Fld := ⟨R.A_DEP_FLT_STAT, 3, 0⟩
/-- DEP_FLT_MASK, Table 10-16. -/
def R.A_DEP_FLT_MASK : Nat := 0x04000044
def R.DEP_FLT_MASK_REBUILD : Fld := ⟨R.A_DEP_FLT_MASK, 13, 13⟩
def R.DEP_FLT_MASK_RETIRE : Fld := ⟨R.A_DEP_FLT_MASK, 12, 12⟩
def R.DEP_FLT_MASK_CFG_BAD : Fld := ⟨R.A_DEP_FLT_MASK, 11, 11⟩
def R.DEP_FLT_MASK_INVALID_READ : Fld := ⟨R.A_DEP_FLT_MASK, 10, 10⟩
def R.DEP_FLT_MASK_RANGE : Fld := ⟨R.A_DEP_FLT_MASK, 9, 9⟩
def R.DEP_FLT_MASK_REJECT : Fld := ⟨R.A_DEP_FLT_MASK, 8, 8⟩
def R.DEP_FLT_MASK_EMPTY_SEEN : Fld := ⟨R.A_DEP_FLT_MASK, 7, 4⟩
def R.DEP_FLT_MASK_LOW_WM : Fld := ⟨R.A_DEP_FLT_MASK, 3, 0⟩
/-- DEP_FLT_SEV, Table 10-17. -/
def R.A_DEP_FLT_SEV : Nat := 0x04000048
def R.DEP_FLT_SEV_REBUILD : Fld := ⟨R.A_DEP_FLT_SEV, 23, 21⟩
def R.DEP_FLT_SEV_RETIRE : Fld := ⟨R.A_DEP_FLT_SEV, 20, 18⟩
def R.DEP_FLT_SEV_CFG_BAD : Fld := ⟨R.A_DEP_FLT_SEV, 17, 15⟩
def R.DEP_FLT_SEV_INVALID_READ : Fld := ⟨R.A_DEP_FLT_SEV, 14, 12⟩
def R.DEP_FLT_SEV_RANGE : Fld := ⟨R.A_DEP_FLT_SEV, 11, 9⟩
def R.DEP_FLT_SEV_REJECT : Fld := ⟨R.A_DEP_FLT_SEV, 8, 6⟩
def R.DEP_FLT_SEV_EMPTY_SEEN : Fld := ⟨R.A_DEP_FLT_SEV, 5, 3⟩
def R.DEP_FLT_SEV_LOW_WM : Fld := ⟨R.A_DEP_FLT_SEV, 2, 0⟩
/-- DEP_P_BASE_LO, Table 10-18. -/
def R.A_DEP_P_BASE_LO (i : Nat) : Nat := 0x04000100 + 0x40 * i
def R.DEP_P_BASE_LO_BASE (i : Nat) : Fld := ⟨R.A_DEP_P_BASE_LO i, 31, 12⟩
/-- DEP_P_BASE_HI, Table 10-18. -/
def R.A_DEP_P_BASE_HI (i : Nat) : Nat := 0x04000104 + 0x40 * i
def R.DEP_P_BASE_HI_BASE (i : Nat) : Fld := ⟨R.A_DEP_P_BASE_HI i, 2, 0⟩
/-- DEP_P_COUNT, Table 10-18. -/
def R.A_DEP_P_COUNT (i : Nat) : Nat := 0x04000108 + 0x40 * i
def R.DEP_P_COUNT_COUNT (i : Nat) : Fld := ⟨R.A_DEP_P_COUNT i, 19, 0⟩
/-- DEP_P_STATE_LO, Table 10-18. -/
def R.A_DEP_P_STATE_LO (i : Nat) : Nat := 0x0400010C + 0x40 * i
def R.DEP_P_STATE_LO_STATE (i : Nat) : Fld := ⟨R.A_DEP_P_STATE_LO i, 31, 6⟩
/-- DEP_P_STATE_HI, Table 10-18. -/
def R.A_DEP_P_STATE_HI (i : Nat) : Nat := 0x04000110 + 0x40 * i
def R.DEP_P_STATE_HI_STATE (i : Nat) : Fld := ⟨R.A_DEP_P_STATE_HI i, 2, 0⟩
/-- DEP_P_RING_LO, Table 10-18. -/
def R.A_DEP_P_RING_LO (i : Nat) : Nat := 0x04000114 + 0x40 * i
def R.DEP_P_RING_LO_RING (i : Nat) : Fld := ⟨R.A_DEP_P_RING_LO i, 31, 6⟩
/-- DEP_P_RING_HI, Table 10-18. -/
def R.A_DEP_P_RING_HI (i : Nat) : Nat := 0x04000118 + 0x40 * i
def R.DEP_P_RING_HI_RING (i : Nat) : Fld := ⟨R.A_DEP_P_RING_HI i, 2, 0⟩
/-- DEP_P_FREE, Table 10-19. -/
def R.A_DEP_P_FREE (i : Nat) : Nat := 0x0400011C + 0x40 * i
def R.DEP_P_FREE_CACHED (i : Nat) : Fld := ⟨R.A_DEP_P_FREE i, 30, 24⟩
def R.DEP_P_FREE_FREE (i : Nat) : Fld := ⟨R.A_DEP_P_FREE i, 20, 0⟩
/-- DEP_P_WM_LOW, Table 10-19. -/
def R.A_DEP_P_WM_LOW (i : Nat) : Nat := 0x04000120 + 0x40 * i
def R.DEP_P_WM_LOW_WM_LOW (i : Nat) : Fld := ⟨R.A_DEP_P_WM_LOW i, 19, 0⟩
/-- DEP_P_WM_HIGH, Table 10-19. -/
def R.A_DEP_P_WM_HIGH (i : Nat) : Nat := 0x04000124 + 0x40 * i
def R.DEP_P_WM_HIGH_WM_HIGH (i : Nat) : Fld := ⟨R.A_DEP_P_WM_HIGH i, 19, 0⟩
/-- DEP_P_CNT_ALLOC, Table 10-19. -/
def R.A_DEP_P_CNT_ALLOC (i : Nat) : Nat := 0x04000128 + 0x40 * i
def R.DEP_P_CNT_ALLOC_ALLOCS (i : Nat) : Fld := ⟨R.A_DEP_P_CNT_ALLOC i, 31, 0⟩
/-- DEP_P_CNT_EMPTY, Table 10-19. -/
def R.A_DEP_P_CNT_EMPTY (i : Nat) : Nat := 0x0400012C + 0x40 * i
def R.DEP_P_CNT_EMPTY_EMPTIES (i : Nat) : Fld := ⟨R.A_DEP_P_CNT_EMPTY i, 31, 0⟩
/-- DEP_P_RETIRED, Table 10-19. -/
def R.A_DEP_P_RETIRED (i : Nat) : Nat := 0x04000130 + 0x40 * i
def R.DEP_P_RETIRED_RETIRED (i : Nat) : Fld := ⟨R.A_DEP_P_RETIRED i, 19, 0⟩
/-- CVY_CTRL, Table 11-8. -/
def R.A_CVY_CTRL : Nat := 0x04100000
def R.CVY_CTRL_RETRY_GAP : Fld := ⟨R.A_CVY_CTRL, 31, 24⟩
def R.CVY_CTRL_RETRY : Fld := ⟨R.A_CVY_CTRL, 9, 8⟩
def R.CVY_CTRL_ENG_EN : Fld := ⟨R.A_CVY_CTRL, 3, 0⟩
/-- CVY_STAT, Table 11-8. -/
def R.A_CVY_STAT : Nat := 0x04100004
def R.CVY_STAT_ENG_RST : Fld := ⟨R.A_CVY_STAT, 7, 4⟩
def R.CVY_STAT_ENG_BUSY : Fld := ⟨R.A_CVY_STAT, 3, 0⟩
/-- CVY_FLT_STAT, Table 11-9. -/
def R.A_CVY_FLT_STAT : Nat := 0x04100010
def R.CVY_FLT_STAT_DB_OFF : Fld := ⟨R.A_CVY_FLT_STAT, 15, 12⟩
def R.CVY_FLT_STAT_HANG : Fld := ⟨R.A_CVY_FLT_STAT, 11, 8⟩
def R.CVY_FLT_STAT_HALT : Fld := ⟨R.A_CVY_FLT_STAT, 7, 4⟩
def R.CVY_FLT_STAT_DESC_BAD : Fld := ⟨R.A_CVY_FLT_STAT, 3, 0⟩
/-- CVY_FLT_MASK, Table 11-9. -/
def R.A_CVY_FLT_MASK : Nat := 0x04100014
def R.CVY_FLT_MASK_DB_OFF : Fld := ⟨R.A_CVY_FLT_MASK, 15, 12⟩
def R.CVY_FLT_MASK_HANG : Fld := ⟨R.A_CVY_FLT_MASK, 11, 8⟩
def R.CVY_FLT_MASK_HALT : Fld := ⟨R.A_CVY_FLT_MASK, 7, 4⟩
def R.CVY_FLT_MASK_DESC_BAD : Fld := ⟨R.A_CVY_FLT_MASK, 3, 0⟩
/-- CVY_FLT_SEV, Table 11-10. -/
def R.A_CVY_FLT_SEV : Nat := 0x04100018
def R.CVY_FLT_SEV_DB_OFF : Fld := ⟨R.A_CVY_FLT_SEV, 11, 9⟩
def R.CVY_FLT_SEV_HANG : Fld := ⟨R.A_CVY_FLT_SEV, 8, 6⟩
def R.CVY_FLT_SEV_HALT : Fld := ⟨R.A_CVY_FLT_SEV, 5, 3⟩
def R.CVY_FLT_SEV_DESC_BAD : Fld := ⟨R.A_CVY_FLT_SEV, 2, 0⟩
/-- CVY_E_IRQ, Table 11-11. -/
def R.A_CVY_E_IRQ (i : Nat) : Nat := 0x04100100 + 0x40 * i
def R.CVY_E_IRQ_IRQ (i : Nat) : Fld := ⟨R.A_CVY_E_IRQ i, 31, 0⟩
/-- CVY_E_IRQ_EN, Table 11-11. -/
def R.A_CVY_E_IRQ_EN (i : Nat) : Nat := 0x04100104 + 0x40 * i
def R.CVY_E_IRQ_EN_IRQ_EN (i : Nat) : Fld := ⟨R.A_CVY_E_IRQ_EN i, 31, 0⟩
/-- CVY_E_STAT, Table 11-11. -/
def R.A_CVY_E_STAT (i : Nat) : Nat := 0x04100108 + 0x40 * i
def R.CVY_E_STAT_BUSY (i : Nat) : Fld := ⟨R.A_CVY_E_STAT i, 5, 5⟩
def R.CVY_E_STAT_ACTIVE (i : Nat) : Fld := ⟨R.A_CVY_E_STAT i, 4, 0⟩
/-- CVY_E_CNT_DESC, Table 11-11. -/
def R.A_CVY_E_CNT_DESC (i : Nat) : Nat := 0x0410010C + 0x40 * i
def R.CVY_E_CNT_DESC_DESCS (i : Nat) : Fld := ⟨R.A_CVY_E_CNT_DESC i, 31, 0⟩
/-- CVY_C_CTRL, Table 11-12. -/
def R.A_CVY_C_CTRL (i : Nat) (j : Nat) : Nat := 0x04101000 + 0x800 * i + 0x40 * j
def R.CVY_C_CTRL_PRIO (i : Nat) (j : Nat) : Fld := ⟨R.A_CVY_C_CTRL i j, 4, 4⟩
def R.CVY_C_CTRL_STOP (i : Nat) (j : Nat) : Fld := ⟨R.A_CVY_C_CTRL i j, 2, 2⟩
def R.CVY_C_CTRL_START (i : Nat) (j : Nat) : Fld := ⟨R.A_CVY_C_CTRL i j, 1, 1⟩
def R.CVY_C_CTRL_EN (i : Nat) (j : Nat) : Fld := ⟨R.A_CVY_C_CTRL i j, 0, 0⟩
/-- CVY_C_STAT, Table 11-12. -/
def R.A_CVY_C_STAT (i : Nat) (j : Nat) : Nat := 0x04101004 + 0x800 * i + 0x40 * j
def R.CVY_C_STAT_HALT_CAUSE (i : Nat) (j : Nat) : Fld := ⟨R.A_CVY_C_STAT i j, 14, 12⟩
def R.CVY_C_STAT_LAST_CODE (i : Nat) (j : Nat) : Fld := ⟨R.A_CVY_C_STAT i j, 11, 8⟩
def R.CVY_C_STAT_DB_PEND (i : Nat) (j : Nat) : Fld := ⟨R.A_CVY_C_STAT i j, 3, 3⟩
def R.CVY_C_STAT_STATE (i : Nat) (j : Nat) : Fld := ⟨R.A_CVY_C_STAT i j, 2, 0⟩
/-- CVY_C_HEAD_LO, Table 11-12. -/
def R.A_CVY_C_HEAD_LO (i : Nat) (j : Nat) : Nat := 0x04101008 + 0x800 * i + 0x40 * j
def R.CVY_C_HEAD_LO_HEAD (i : Nat) (j : Nat) : Fld := ⟨R.A_CVY_C_HEAD_LO i j, 31, 6⟩
/-- CVY_C_HEAD_HI, Table 11-12. -/
def R.A_CVY_C_HEAD_HI (i : Nat) (j : Nat) : Nat := 0x0410100C + 0x800 * i + 0x40 * j
def R.CVY_C_HEAD_HI_KIND (i : Nat) (j : Nat) : Fld := ⟨R.A_CVY_C_HEAD_HI i j, 29, 28⟩
def R.CVY_C_HEAD_HI_HEAD (i : Nat) (j : Nat) : Fld := ⟨R.A_CVY_C_HEAD_HI i j, 2, 0⟩
/-- CVY_C_DOORBELL, Table 11-12. -/
def R.A_CVY_C_DOORBELL (i : Nat) (j : Nat) : Nat := 0x04101018 + 0x800 * i + 0x40 * j
def R.CVY_C_DOORBELL_ANY (i : Nat) (j : Nat) : Fld := ⟨R.A_CVY_C_DOORBELL i j, 31, 0⟩
/-- CVY_C_CNT_DESC, Table 11-12. -/
def R.A_CVY_C_CNT_DESC (i : Nat) (j : Nat) : Nat := 0x0410101C + 0x800 * i + 0x40 * j
def R.CVY_C_CNT_DESC_DESCS (i : Nat) (j : Nat) : Fld := ⟨R.A_CVY_C_CNT_DESC i j, 31, 0⟩
/-- CVY_C_CNT_BAD, Table 11-12. -/
def R.A_CVY_C_CNT_BAD (i : Nat) (j : Nat) : Nat := 0x04101020 + 0x800 * i + 0x40 * j
def R.CVY_C_CNT_BAD_BAD (i : Nat) (j : Nat) : Fld := ⟨R.A_CVY_C_CNT_BAD i j, 31, 0⟩
/-- CVY_C_CUR_LO, Table 11-12. -/
def R.A_CVY_C_CUR_LO (i : Nat) (j : Nat) : Nat := 0x04101010 + 0x800 * i + 0x40 * j
def R.CVY_C_CUR_LO_CUR (i : Nat) (j : Nat) : Fld := ⟨R.A_CVY_C_CUR_LO i j, 31, 6⟩
/-- CVY_C_CUR_HI, Table 11-12. -/
def R.A_CVY_C_CUR_HI (i : Nat) (j : Nat) : Nat := 0x04101014 + 0x800 * i + 0x40 * j
def R.CVY_C_CUR_HI_KIND (i : Nat) (j : Nat) : Fld := ⟨R.A_CVY_C_CUR_HI i j, 29, 28⟩
def R.CVY_C_CUR_HI_CUR (i : Nat) (j : Nat) : Fld := ⟨R.A_CVY_C_CUR_HI i j, 2, 0⟩
/-- MEM_CTRL, Table 10-11. -/
def R.A_MEM_CTRL : Nat := 0x04200000
def R.MEM_CTRL_SR_EN : Fld := ⟨R.A_MEM_CTRL, 0, 0⟩
/-- MEM_STAT, Table 10-11. -/
def R.A_MEM_STAT : Nat := 0x04200004
def R.MEM_STAT_CH_OK : Fld := ⟨R.A_MEM_STAT, 19, 16⟩
def R.MEM_STAT_RANKS2 : Fld := ⟨R.A_MEM_STAT, 14, 14⟩
def R.MEM_STAT_SIZE : Fld := ⟨R.A_MEM_STAT, 13, 12⟩
def R.MEM_STAT_RATE : Fld := ⟨R.A_MEM_STAT, 9, 8⟩
def R.MEM_STAT_STATE : Fld := ⟨R.A_MEM_STAT, 2, 0⟩
/-- MEM_DATA_TOP, Table 10-11. -/
def R.A_MEM_DATA_TOP : Nat := 0x04200008
def R.MEM_DATA_TOP_TOP_MIB : Fld := ⟨R.A_MEM_DATA_TOP, 31, 0⟩
/-- MEM_FLT_STAT, Table 10-12. -/
def R.A_MEM_FLT_STAT : Nat := 0x04200010
def R.MEM_FLT_STAT_ADDR_ERR : Fld := ⟨R.A_MEM_FLT_STAT, 3, 3⟩
def R.MEM_FLT_STAT_TEMP_HIGH : Fld := ⟨R.A_MEM_FLT_STAT, 2, 2⟩
def R.MEM_FLT_STAT_RATE_DOWN : Fld := ⟨R.A_MEM_FLT_STAT, 1, 1⟩
def R.MEM_FLT_STAT_INIT_FAIL : Fld := ⟨R.A_MEM_FLT_STAT, 0, 0⟩
/-- MEM_FLT_MASK, Table 10-12. -/
def R.A_MEM_FLT_MASK : Nat := 0x04200014
def R.MEM_FLT_MASK_ADDR_ERR : Fld := ⟨R.A_MEM_FLT_MASK, 3, 3⟩
def R.MEM_FLT_MASK_TEMP_HIGH : Fld := ⟨R.A_MEM_FLT_MASK, 2, 2⟩
def R.MEM_FLT_MASK_RATE_DOWN : Fld := ⟨R.A_MEM_FLT_MASK, 1, 1⟩
def R.MEM_FLT_MASK_INIT_FAIL : Fld := ⟨R.A_MEM_FLT_MASK, 0, 0⟩
/-- MEM_FLT_SEV, Table 10-12. -/
def R.A_MEM_FLT_SEV : Nat := 0x04200018
def R.MEM_FLT_SEV_ADDR_ERR : Fld := ⟨R.A_MEM_FLT_SEV, 11, 9⟩
def R.MEM_FLT_SEV_TEMP_HIGH : Fld := ⟨R.A_MEM_FLT_SEV, 8, 6⟩
def R.MEM_FLT_SEV_RATE_DOWN : Fld := ⟨R.A_MEM_FLT_SEV, 5, 3⟩
def R.MEM_FLT_SEV_INIT_FAIL : Fld := ⟨R.A_MEM_FLT_SEV, 2, 0⟩
/-- MEM_ECC_CTRL, Table 15-4. -/
def R.A_MEM_ECC_CTRL : Nat := 0x04201000
def R.MEM_ECC_CTRL_REW_MAX : Fld := ⟨R.A_MEM_ECC_CTRL, 17, 16⟩
def R.MEM_ECC_CTRL_THRESH : Fld := ⟨R.A_MEM_ECC_CTRL, 12, 8⟩
def R.MEM_ECC_CTRL_SCRUB_EN : Fld := ⟨R.A_MEM_ECC_CTRL, 0, 0⟩
/-- MEM_ECC_CNT_CE, Table 15-5. -/
def R.A_MEM_ECC_CNT_CE : Nat := 0x04201004
def R.MEM_ECC_CNT_CE_CE : Fld := ⟨R.A_MEM_ECC_CNT_CE, 31, 0⟩
/-- MEM_ECC_CNT_UE, Table 15-5. -/
def R.A_MEM_ECC_CNT_UE : Nat := 0x04201008
def R.MEM_ECC_CNT_UE_UE : Fld := ⟨R.A_MEM_ECC_CNT_UE, 31, 0⟩
/-- MEM_CLOG_OVF, Table 15-5. -/
def R.A_MEM_CLOG_OVF : Nat := 0x0420100C
def R.MEM_CLOG_OVF_OVF : Fld := ⟨R.A_MEM_CLOG_OVF, 31, 0⟩
/-- MEM_SCRUB_CFG, Table 15-5. -/
def R.A_MEM_SCRUB_CFG : Nat := 0x04201020
def R.MEM_SCRUB_CFG_STEP : Fld := ⟨R.A_MEM_SCRUB_CFG, 15, 0⟩
/-- MEM_SCRUB_STAT, Table 15-5. -/
def R.A_MEM_SCRUB_STAT : Nat := 0x04201024
def R.MEM_SCRUB_STAT_PASSES : Fld := ⟨R.A_MEM_SCRUB_STAT, 31, 16⟩
/-- MEM_SCRUB_POS, Table 15-5. -/
def R.A_MEM_SCRUB_POS : Nat := 0x04201028
def R.MEM_SCRUB_POS_BLOCK : Fld := ⟨R.A_MEM_SCRUB_POS, 28, 0⟩
/-- MEM_ECC_FLT_STAT, Table 15-6. -/
def R.A_MEM_ECC_FLT_STAT : Nat := 0x04201010
def R.MEM_ECC_FLT_STAT_SCRUB_UE : Fld := ⟨R.A_MEM_ECC_FLT_STAT, 4, 4⟩
def R.MEM_ECC_FLT_STAT_LOG_FULL : Fld := ⟨R.A_MEM_ECC_FLT_STAT, 3, 3⟩
def R.MEM_ECC_FLT_STAT_UE : Fld := ⟨R.A_MEM_ECC_FLT_STAT, 2, 2⟩
def R.MEM_ECC_FLT_STAT_HARD : Fld := ⟨R.A_MEM_ECC_FLT_STAT, 1, 1⟩
def R.MEM_ECC_FLT_STAT_CE_LOG : Fld := ⟨R.A_MEM_ECC_FLT_STAT, 0, 0⟩
/-- MEM_ECC_FLT_MASK, Table 15-6. -/
def R.A_MEM_ECC_FLT_MASK : Nat := 0x04201014
def R.MEM_ECC_FLT_MASK_SCRUB_UE : Fld := ⟨R.A_MEM_ECC_FLT_MASK, 4, 4⟩
def R.MEM_ECC_FLT_MASK_LOG_FULL : Fld := ⟨R.A_MEM_ECC_FLT_MASK, 3, 3⟩
def R.MEM_ECC_FLT_MASK_UE : Fld := ⟨R.A_MEM_ECC_FLT_MASK, 2, 2⟩
def R.MEM_ECC_FLT_MASK_HARD : Fld := ⟨R.A_MEM_ECC_FLT_MASK, 1, 1⟩
def R.MEM_ECC_FLT_MASK_CE_LOG : Fld := ⟨R.A_MEM_ECC_FLT_MASK, 0, 0⟩
/-- MEM_ECC_FLT_SEV, Table 15-6. -/
def R.A_MEM_ECC_FLT_SEV : Nat := 0x04201018
def R.MEM_ECC_FLT_SEV_SCRUB_UE : Fld := ⟨R.A_MEM_ECC_FLT_SEV, 14, 12⟩
def R.MEM_ECC_FLT_SEV_LOG_FULL : Fld := ⟨R.A_MEM_ECC_FLT_SEV, 11, 9⟩
def R.MEM_ECC_FLT_SEV_UE : Fld := ⟨R.A_MEM_ECC_FLT_SEV, 8, 6⟩
def R.MEM_ECC_FLT_SEV_HARD : Fld := ⟨R.A_MEM_ECC_FLT_SEV, 5, 3⟩
def R.MEM_ECC_FLT_SEV_CE_LOG : Fld := ⟨R.A_MEM_ECC_FLT_SEV, 2, 0⟩
/-- MEM_EI_CTRL, Table 15-7. -/
def R.A_MEM_EI_CTRL : Nat := 0x04201030
def R.MEM_EI_CTRL_EN : Fld := ⟨R.A_MEM_EI_CTRL, 31, 31⟩
def R.MEM_EI_CTRL_B_EN : Fld := ⟨R.A_MEM_EI_CTRL, 30, 30⟩
def R.MEM_EI_CTRL_A_EN : Fld := ⟨R.A_MEM_EI_CTRL, 29, 29⟩
def R.MEM_EI_CTRL_SRAM : Fld := ⟨R.A_MEM_EI_CTRL, 28, 28⟩
def R.MEM_EI_CTRL_BIT_B : Fld := ⟨R.A_MEM_EI_CTRL, 22, 16⟩
def R.MEM_EI_CTRL_BIT_A : Fld := ⟨R.A_MEM_EI_CTRL, 14, 8⟩
/-- MEM_EI_TGT, Table 15-7. -/
def R.A_MEM_EI_TGT : Nat := 0x04201034
def R.MEM_EI_TGT_ARRAY : Fld := ⟨R.A_MEM_EI_TGT, 15, 8⟩
def R.MEM_EI_TGT_INST : Fld := ⟨R.A_MEM_EI_TGT, 7, 0⟩
/-- MEM_CLOG_FREE, Table 15-7. -/
def R.A_MEM_CLOG_FREE : Nat := 0x04201040
def R.MEM_CLOG_FREE_FREE : Fld := ⟨R.A_MEM_CLOG_FREE, 31, 0⟩
/-- MEM_CLOG_KEY_LO, Table 15-8. -/
def R.A_MEM_CLOG_KEY_LO (i : Nat) : Nat := 0x04201100 + 0x10 * i
def R.MEM_CLOG_KEY_LO_ADDR (i : Nat) : Fld := ⟨R.A_MEM_CLOG_KEY_LO i, 31, 0⟩
/-- MEM_CLOG_KEY_HI, Table 15-8. -/
def R.A_MEM_CLOG_KEY_HI (i : Nat) : Nat := 0x04201104 + 0x10 * i
def R.MEM_CLOG_KEY_HI_VALID (i : Nat) : Fld := ⟨R.A_MEM_CLOG_KEY_HI i, 31, 31⟩
def R.MEM_CLOG_KEY_HI_SRAM (i : Nat) : Fld := ⟨R.A_MEM_CLOG_KEY_HI i, 30, 30⟩
def R.MEM_CLOG_KEY_HI_STATE (i : Nat) : Fld := ⟨R.A_MEM_CLOG_KEY_HI i, 29, 28⟩
def R.MEM_CLOG_KEY_HI_ARRAY (i : Nat) : Fld := ⟨R.A_MEM_CLOG_KEY_HI i, 23, 16⟩
def R.MEM_CLOG_KEY_HI_INST (i : Nat) : Fld := ⟨R.A_MEM_CLOG_KEY_HI i, 15, 8⟩
def R.MEM_CLOG_KEY_HI_BIT (i : Nat) : Fld := ⟨R.A_MEM_CLOG_KEY_HI i, 7, 0⟩
/-- MEM_CLOG_CNT, Table 15-8. -/
def R.A_MEM_CLOG_CNT (i : Nat) : Nat := 0x04201108 + 0x10 * i
def R.MEM_CLOG_CNT_COUNT (i : Nat) : Fld := ⟨R.A_MEM_CLOG_CNT i, 31, 16⟩
def R.MEM_CLOG_CNT_SINCE (i : Nat) : Fld := ⟨R.A_MEM_CLOG_CNT i, 15, 11⟩
def R.MEM_CLOG_CNT_REW (i : Nat) : Fld := ⟨R.A_MEM_CLOG_CNT i, 1, 0⟩
/-- MEM_CLOG_LAST, Table 15-8. -/
def R.A_MEM_CLOG_LAST (i : Nat) : Nat := 0x0420110C + 0x10 * i
def R.MEM_CLOG_LAST_STAMP (i : Nat) : Fld := ⟨R.A_MEM_CLOG_LAST i, 31, 0⟩
/-- HIF_CFG, Table 12-20. -/
def R.A_HIF_CFG : Nat := 0x05000000
def R.HIF_CFG_CTRL1 : Fld := ⟨R.A_HIF_CFG, 1, 1⟩
def R.HIF_CFG_X8 : Fld := ⟨R.A_HIF_CFG, 0, 0⟩
/-- HIF_CT_STAT, Table 12-20. -/
def R.A_HIF_CT_STAT : Nat := 0x05000004
def R.HIF_CT_STAT_USED : Fld := ⟨R.A_HIF_CT_STAT, 13, 0⟩
/-- HIF_FLT_STAT, Table 12-23. -/
def R.A_HIF_FLT_STAT : Nat := 0x05000020
def R.HIF_FLT_STAT_SMB_ERR : Fld := ⟨R.A_HIF_FLT_STAT, 8, 8⟩
def R.HIF_FLT_STAT_DATA_XFER : Fld := ⟨R.A_HIF_FLT_STAT, 7, 6⟩
def R.HIF_FLT_STAT_DB_INVALID : Fld := ⟨R.A_HIF_FLT_STAT, 5, 4⟩
def R.HIF_FLT_STAT_AER_UNCORR : Fld := ⟨R.A_HIF_FLT_STAT, 3, 2⟩
def R.HIF_FLT_STAT_LINK_DOWN : Fld := ⟨R.A_HIF_FLT_STAT, 1, 0⟩
/-- HIF_FLT_MASK, Table 12-23. -/
def R.A_HIF_FLT_MASK : Nat := 0x05000024
def R.HIF_FLT_MASK_SMB_ERR : Fld := ⟨R.A_HIF_FLT_MASK, 8, 8⟩
def R.HIF_FLT_MASK_DATA_XFER : Fld := ⟨R.A_HIF_FLT_MASK, 7, 6⟩
def R.HIF_FLT_MASK_DB_INVALID : Fld := ⟨R.A_HIF_FLT_MASK, 5, 4⟩
def R.HIF_FLT_MASK_AER_UNCORR : Fld := ⟨R.A_HIF_FLT_MASK, 3, 2⟩
def R.HIF_FLT_MASK_LINK_DOWN : Fld := ⟨R.A_HIF_FLT_MASK, 1, 0⟩
/-- HIF_FLT_SEV, Table 12-24. -/
def R.A_HIF_FLT_SEV : Nat := 0x05000028
def R.HIF_FLT_SEV_SMB_ERR : Fld := ⟨R.A_HIF_FLT_SEV, 14, 12⟩
def R.HIF_FLT_SEV_DATA_XFER : Fld := ⟨R.A_HIF_FLT_SEV, 11, 9⟩
def R.HIF_FLT_SEV_DB_INVALID : Fld := ⟨R.A_HIF_FLT_SEV, 8, 6⟩
def R.HIF_FLT_SEV_AER_UNCORR : Fld := ⟨R.A_HIF_FLT_SEV, 5, 3⟩
def R.HIF_FLT_SEV_LINK_DOWN : Fld := ⟨R.A_HIF_FLT_SEV, 2, 0⟩
/-- HIF_SMB_CFG, Table 12-25. -/
def R.A_HIF_SMB_CFG : Nat := 0x05000030
def R.HIF_SMB_CFG_EN : Fld := ⟨R.A_HIF_SMB_CFG, 16, 16⟩
def R.HIF_SMB_CFG_PEC_REQ : Fld := ⟨R.A_HIF_SMB_CFG, 9, 9⟩
def R.HIF_SMB_CFG_FAST : Fld := ⟨R.A_HIF_SMB_CFG, 8, 8⟩
def R.HIF_SMB_CFG_ADDR : Fld := ⟨R.A_HIF_SMB_CFG, 6, 0⟩
/-- HIF_LINK, Table 12-21. -/
def R.A_HIF_LINK (i : Nat) : Nat := 0x05000100 + 0x40 * i
def R.HIF_LINK_RETRAIN (i : Nat) : Fld := ⟨R.A_HIF_LINK i, 31, 24⟩
def R.HIF_LINK_DEGRADED (i : Nat) : Fld := ⟨R.A_HIF_LINK i, 11, 11⟩
def R.HIF_LINK_UP (i : Nat) : Fld := ⟨R.A_HIF_LINK i, 10, 10⟩
def R.HIF_LINK_WIDTH (i : Nat) : Fld := ⟨R.A_HIF_LINK i, 9, 4⟩
def R.HIF_LINK_SPEED (i : Nat) : Fld := ⟨R.A_HIF_LINK i, 3, 0⟩
/-- HIF_CTL_STAT, Table 12-22. -/
def R.A_HIF_CTL_STAT (i : Nat) : Nat := 0x05000200 + 0x40 * i
def R.HIF_CTL_STAT_SHUT (i : Nat) : Fld := ⟨R.A_HIF_CTL_STAT i, 18, 18⟩
def R.HIF_CTL_STAT_RDY (i : Nat) : Fld := ⟨R.A_HIF_CTL_STAT i, 17, 17⟩
def R.HIF_CTL_STAT_EN (i : Nat) : Fld := ⟨R.A_HIF_CTL_STAT i, 16, 16⟩
def R.HIF_CTL_STAT_SLOTS (i : Nat) : Fld := ⟨R.A_HIF_CTL_STAT i, 12, 0⟩
/-- RTE_CTRL, Table 14-12. -/
def R.A_RTE_CTRL : Nat := 0x05100000
def R.RTE_CTRL_EN : Fld := ⟨R.A_RTE_CTRL, 0, 0⟩
/-- RTE_STAT, Table 14-12. -/
def R.A_RTE_STAT : Nat := 0x05100004
def R.RTE_STAT_QUEUED : Fld := ⟨R.A_RTE_STAT, 15, 8⟩
def R.RTE_STAT_RUN : Fld := ⟨R.A_RTE_STAT, 0, 0⟩
/-- RTE_TBL_BASE_LO, Table 14-12. -/
def R.A_RTE_TBL_BASE_LO : Nat := 0x05100008
def R.RTE_TBL_BASE_LO_BASE : Fld := ⟨R.A_RTE_TBL_BASE_LO, 31, 12⟩
/-- RTE_TBL_BASE_HI, Table 14-12. -/
def R.A_RTE_TBL_BASE_HI : Nat := 0x0510000C
def R.RTE_TBL_BASE_HI_BASE : Fld := ⟨R.A_RTE_TBL_BASE_HI, 2, 0⟩
/-- RTE_TBL_COUNT, Table 14-12. -/
def R.A_RTE_TBL_COUNT : Nat := 0x05100010
def R.RTE_TBL_COUNT_COUNT : Fld := ⟨R.A_RTE_TBL_COUNT, 27, 0⟩
/-- RTE_BAND_BASE_LO, Table 14-12. -/
def R.A_RTE_BAND_BASE_LO : Nat := 0x05100014
def R.RTE_BAND_BASE_LO_BASE : Fld := ⟨R.A_RTE_BAND_BASE_LO, 31, 6⟩
/-- RTE_BAND_BASE_HI, Table 14-12. -/
def R.A_RTE_BAND_BASE_HI : Nat := 0x05100018
def R.RTE_BAND_BASE_HI_BASE : Fld := ⟨R.A_RTE_BAND_BASE_HI, 2, 0⟩
/-- RTE_BAND_COUNT, Table 14-12. -/
def R.A_RTE_BAND_COUNT : Nat := 0x0510001C
def R.RTE_BAND_COUNT_COUNT : Fld := ⟨R.A_RTE_BAND_COUNT, 16, 0⟩
/-- RTE_ARG0_LO, Table 14-13. -/
def R.A_RTE_ARG0_LO : Nat := 0x05100020
def R.RTE_ARG0_LO_ARG : Fld := ⟨R.A_RTE_ARG0_LO, 31, 0⟩
/-- RTE_ARG0_HI, Table 14-13. -/
def R.A_RTE_ARG0_HI : Nat := 0x05100024
def R.RTE_ARG0_HI_ARG : Fld := ⟨R.A_RTE_ARG0_HI, 31, 0⟩
/-- RTE_ARG1_LO, Table 14-13. -/
def R.A_RTE_ARG1_LO : Nat := 0x05100028
def R.RTE_ARG1_LO_ARG : Fld := ⟨R.A_RTE_ARG1_LO, 31, 0⟩
/-- RTE_ARG1_HI, Table 14-13. -/
def R.A_RTE_ARG1_HI : Nat := 0x0510002C
def R.RTE_ARG1_HI_ARG : Fld := ⟨R.A_RTE_ARG1_HI, 31, 0⟩
/-- RTE_ARG2_LO, Table 14-13. -/
def R.A_RTE_ARG2_LO : Nat := 0x05100030
def R.RTE_ARG2_LO_ARG : Fld := ⟨R.A_RTE_ARG2_LO, 31, 0⟩
/-- RTE_ARG2_HI, Table 14-13. -/
def R.A_RTE_ARG2_HI : Nat := 0x05100034
def R.RTE_ARG2_HI_ARG : Fld := ⟨R.A_RTE_ARG2_HI, 31, 0⟩
/-- RTE_REQ, Table 14-13. -/
def R.A_RTE_REQ : Nat := 0x05100038
def R.RTE_REQ_OP : Fld := ⟨R.A_RTE_REQ, 31, 28⟩
def R.RTE_REQ_NS : Fld := ⟨R.A_RTE_REQ, 19, 16⟩
/-- RTE_RESP_LO, Table 14-13. -/
def R.A_RTE_RESP_LO : Nat := 0x05100040
def R.RTE_RESP_LO_ENTRY : Fld := ⟨R.A_RTE_RESP_LO, 31, 0⟩
/-- RTE_RESP_HI, Table 14-13. -/
def R.A_RTE_RESP_HI : Nat := 0x05100044
def R.RTE_RESP_HI_ENTRY : Fld := ⟨R.A_RTE_RESP_HI, 31, 0⟩
/-- RTE_RESP_IDX, Table 14-13. -/
def R.A_RTE_RESP_IDX : Nat := 0x05100048
def R.RTE_RESP_IDX_INDEX : Fld := ⟨R.A_RTE_RESP_IDX, 26, 0⟩
/-- RTE_RESP_STAT, Table 14-13. -/
def R.A_RTE_RESP_STAT : Nat := 0x0510004C
def R.RTE_RESP_STAT_BUSY : Fld := ⟨R.A_RTE_RESP_STAT, 31, 31⟩
def R.RTE_RESP_STAT_CODE : Fld := ⟨R.A_RTE_RESP_STAT, 3, 0⟩
/-- RTE_FLT_STAT, Table 14-15. -/
def R.A_RTE_FLT_STAT : Nat := 0x05100050
def R.RTE_FLT_STAT_LIVE_UF : Fld := ⟨R.A_RTE_FLT_STAT, 3, 3⟩
def R.RTE_FLT_STAT_ECC : Fld := ⟨R.A_RTE_FLT_STAT, 2, 2⟩
def R.RTE_FLT_STAT_ENTRY_BAD : Fld := ⟨R.A_RTE_FLT_STAT, 1, 1⟩
def R.RTE_FLT_STAT_BOUNDS : Fld := ⟨R.A_RTE_FLT_STAT, 0, 0⟩
/-- RTE_FLT_MASK, Table 14-15. -/
def R.A_RTE_FLT_MASK : Nat := 0x05100054
def R.RTE_FLT_MASK_LIVE_UF : Fld := ⟨R.A_RTE_FLT_MASK, 3, 3⟩
def R.RTE_FLT_MASK_ECC : Fld := ⟨R.A_RTE_FLT_MASK, 2, 2⟩
def R.RTE_FLT_MASK_ENTRY_BAD : Fld := ⟨R.A_RTE_FLT_MASK, 1, 1⟩
def R.RTE_FLT_MASK_BOUNDS : Fld := ⟨R.A_RTE_FLT_MASK, 0, 0⟩
/-- RTE_FLT_SEV, Table 14-15. -/
def R.A_RTE_FLT_SEV : Nat := 0x05100058
def R.RTE_FLT_SEV_LIVE_UF : Fld := ⟨R.A_RTE_FLT_SEV, 11, 9⟩
def R.RTE_FLT_SEV_ECC : Fld := ⟨R.A_RTE_FLT_SEV, 8, 6⟩
def R.RTE_FLT_SEV_ENTRY_BAD : Fld := ⟨R.A_RTE_FLT_SEV, 5, 3⟩
def R.RTE_FLT_SEV_BOUNDS : Fld := ⟨R.A_RTE_FLT_SEV, 2, 0⟩
/-- RTE_CNT_LOOKUP, Table 14-15. -/
def R.A_RTE_CNT_LOOKUP : Nat := 0x05100060
def R.RTE_CNT_LOOKUP_COUNT : Fld := ⟨R.A_RTE_CNT_LOOKUP, 31, 0⟩
/-- RTE_CNT_UPDATE, Table 14-15. -/
def R.A_RTE_CNT_UPDATE : Nat := 0x05100064
def R.RTE_CNT_UPDATE_COUNT : Fld := ⟨R.A_RTE_CNT_UPDATE, 31, 0⟩
/-- RTE_CNT_CASFAIL, Table 14-15. -/
def R.A_RTE_CNT_CASFAIL : Nat := 0x05100068
def R.RTE_CNT_CASFAIL_COUNT : Fld := ⟨R.A_RTE_CNT_CASFAIL, 31, 0⟩
/-- RTE_NS_CFG, Table 14-14. -/
def R.A_RTE_NS_CFG (i : Nat) : Nat := 0x05100100 + 0x20 * i
def R.RTE_NS_CFG_VALID (i : Nat) : Fld := ⟨R.A_RTE_NS_CFG i, 31, 31⟩
def R.RTE_NS_CFG_EMU (i : Nat) : Fld := ⟨R.A_RTE_NS_CFG i, 0, 0⟩
/-- RTE_NS_BASE, Table 14-14. -/
def R.A_RTE_NS_BASE (i : Nat) : Nat := 0x05100104 + 0x20 * i
def R.RTE_NS_BASE_BASE (i : Nat) : Fld := ⟨R.A_RTE_NS_BASE i, 26, 0⟩
/-- RTE_NS_COUNT, Table 14-14. -/
def R.A_RTE_NS_COUNT (i : Nat) : Nat := 0x05100108 + 0x20 * i
def R.RTE_NS_COUNT_COUNT (i : Nat) : Fld := ⟨R.A_RTE_NS_COUNT i, 27, 0⟩
/-- RTE_NS_USED_LO, Table 14-14. -/
def R.A_RTE_NS_USED_LO (i : Nat) : Nat := 0x0510010C + 0x20 * i
def R.RTE_NS_USED_LO_USED (i : Nat) : Fld := ⟨R.A_RTE_NS_USED_LO i, 31, 0⟩
/-- RTE_NS_USED_HI, Table 14-14. -/
def R.A_RTE_NS_USED_HI (i : Nat) : Nat := 0x05100110 + 0x20 * i
def R.RTE_NS_USED_HI_USED (i : Nat) : Fld := ⟨R.A_RTE_NS_USED_HI i, 3, 0⟩
/-- RTE_NS_MAPPED, Table 14-14. -/
def R.A_RTE_NS_MAPPED (i : Nat) : Nat := 0x05100114 + 0x20 * i
def R.RTE_NS_MAPPED_MAPPED (i : Nat) : Fld := ⟨R.A_RTE_NS_MAPPED i, 27, 0⟩
/-- CMP_CTRL, Table 14-16. -/
def R.A_CMP_CTRL : Nat := 0x05200000
def R.CMP_CTRL_D_EN : Fld := ⟨R.A_CMP_CTRL, 15, 8⟩
def R.CMP_CTRL_C_EN : Fld := ⟨R.A_CMP_CTRL, 7, 0⟩
/-- CMP_STAT, Table 14-16. -/
def R.A_CMP_STAT : Nat := 0x05200004
def R.CMP_STAT_D_BUSY : Fld := ⟨R.A_CMP_STAT, 15, 8⟩
def R.CMP_STAT_C_BUSY : Fld := ⟨R.A_CMP_STAT, 7, 0⟩
/-- CMP_CTX_BASE_LO, Table 14-16. -/
def R.A_CMP_CTX_BASE_LO : Nat := 0x05200008
def R.CMP_CTX_BASE_LO_BASE : Fld := ⟨R.A_CMP_CTX_BASE_LO, 31, 12⟩
/-- CMP_CTX_BASE_HI, Table 14-16. -/
def R.A_CMP_CTX_BASE_HI : Nat := 0x0520000C
def R.CMP_CTX_BASE_HI_BASE : Fld := ⟨R.A_CMP_CTX_BASE_HI, 2, 0⟩
/-- CMP_FLT_STAT, Table 14-19. -/
def R.A_CMP_FLT_STAT : Nat := 0x05200010
def R.CMP_FLT_STAT_DERR : Fld := ⟨R.A_CMP_FLT_STAT, 23, 16⟩
def R.CMP_FLT_STAT_DHANG : Fld := ⟨R.A_CMP_FLT_STAT, 15, 8⟩
def R.CMP_FLT_STAT_CHANG : Fld := ⟨R.A_CMP_FLT_STAT, 7, 0⟩
/-- CMP_FLT_MASK, Table 14-19. -/
def R.A_CMP_FLT_MASK : Nat := 0x05200014
def R.CMP_FLT_MASK_DERR : Fld := ⟨R.A_CMP_FLT_MASK, 23, 16⟩
def R.CMP_FLT_MASK_DHANG : Fld := ⟨R.A_CMP_FLT_MASK, 15, 8⟩
def R.CMP_FLT_MASK_CHANG : Fld := ⟨R.A_CMP_FLT_MASK, 7, 0⟩
/-- CMP_FLT_SEV, Table 14-19. -/
def R.A_CMP_FLT_SEV : Nat := 0x05200018
def R.CMP_FLT_SEV_DERR : Fld := ⟨R.A_CMP_FLT_SEV, 8, 6⟩
def R.CMP_FLT_SEV_DHANG : Fld := ⟨R.A_CMP_FLT_SEV, 5, 3⟩
def R.CMP_FLT_SEV_CHANG : Fld := ⟨R.A_CMP_FLT_SEV, 2, 0⟩
/-- CMP_C_INL_LO, Table 14-17. -/
def R.A_CMP_C_INL_LO (i : Nat) : Nat := 0x05201000 + 0x40 * i
def R.CMP_C_INL_LO_LIST (i : Nat) : Fld := ⟨R.A_CMP_C_INL_LO i, 31, 2⟩
/-- CMP_C_INL_HI, Table 14-17. -/
def R.A_CMP_C_INL_HI (i : Nat) : Nat := 0x05201004 + 0x40 * i
def R.CMP_C_INL_HI_LIST (i : Nat) : Fld := ⟨R.A_CMP_C_INL_HI i, 2, 0⟩
/-- CMP_C_OUTL_LO, Table 14-17. -/
def R.A_CMP_C_OUTL_LO (i : Nat) : Nat := 0x05201008 + 0x40 * i
def R.CMP_C_OUTL_LO_LIST (i : Nat) : Fld := ⟨R.A_CMP_C_OUTL_LO i, 31, 2⟩
/-- CMP_C_OUTL_HI, Table 14-17. -/
def R.A_CMP_C_OUTL_HI (i : Nat) : Nat := 0x0520100C + 0x40 * i
def R.CMP_C_OUTL_HI_LIST (i : Nat) : Fld := ⟨R.A_CMP_C_OUTL_HI i, 2, 0⟩
/-- CMP_C_OUT_CNT, Table 14-17. -/
def R.A_CMP_C_OUT_CNT (i : Nat) : Nat := 0x05201010 + 0x40 * i
def R.CMP_C_OUT_CNT_OUT_CNT (i : Nat) : Fld := ⟨R.A_CMP_C_OUT_CNT i, 7, 0⟩
/-- CMP_C_CFG, Table 14-17. -/
def R.A_CMP_C_CFG (i : Nat) : Nat := 0x05201014 + 0x40 * i
def R.CMP_C_CFG_CTX (i : Nat) : Fld := ⟨R.A_CMP_C_CFG i, 13, 8⟩
def R.CMP_C_CFG_EARLY_EN (i : Nat) : Fld := ⟨R.A_CMP_C_CFG i, 6, 6⟩
def R.CMP_C_CFG_SAVE (i : Nat) : Fld := ⟨R.A_CMP_C_CFG i, 5, 5⟩
def R.CMP_C_CFG_LINK (i : Nat) : Fld := ⟨R.A_CMP_C_CFG i, 4, 4⟩
def R.CMP_C_CFG_LEVEL (i : Nat) : Fld := ⟨R.A_CMP_C_CFG i, 3, 0⟩
/-- CMP_C_CMD, Table 14-17. -/
def R.A_CMP_C_CMD (i : Nat) : Nat := 0x05201018 + 0x40 * i
def R.CMP_C_CMD_CMD (i : Nat) : Fld := ⟨R.A_CMP_C_CMD i, 1, 0⟩
/-- CMP_C_STAT, Table 14-17. -/
def R.A_CMP_C_STAT (i : Nat) : Nat := 0x0520101C + 0x40 * i
def R.CMP_C_STAT_OUT_USED (i : Nat) : Fld := ⟨R.A_CMP_C_STAT i, 31, 24⟩
def R.CMP_C_STAT_CODE (i : Nat) : Fld := ⟨R.A_CMP_C_STAT i, 7, 4⟩
def R.CMP_C_STAT_STATE (i : Nat) : Fld := ⟨R.A_CMP_C_STAT i, 2, 0⟩
/-- CMP_C_CLEN, Table 14-17. -/
def R.A_CMP_C_CLEN (i : Nat) : Nat := 0x05201020 + 0x40 * i
def R.CMP_C_CLEN_CLEN (i : Nat) : Fld := ⟨R.A_CMP_C_CLEN i, 19, 0⟩
/-- CMP_C_UCRC, Table 14-17. -/
def R.A_CMP_C_UCRC (i : Nat) : Nat := 0x05201024 + 0x40 * i
def R.CMP_C_UCRC_UCRC (i : Nat) : Fld := ⟨R.A_CMP_C_UCRC i, 31, 0⟩
/-- CMP_D_INL_LO, Table 14-18. -/
def R.A_CMP_D_INL_LO (i : Nat) : Nat := 0x05202000 + 0x40 * i
def R.CMP_D_INL_LO_LIST (i : Nat) : Fld := ⟨R.A_CMP_D_INL_LO i, 31, 2⟩
/-- CMP_D_INL_HI, Table 14-18. -/
def R.A_CMP_D_INL_HI (i : Nat) : Nat := 0x05202004 + 0x40 * i
def R.CMP_D_INL_HI_LIST (i : Nat) : Fld := ⟨R.A_CMP_D_INL_HI i, 2, 0⟩
/-- CMP_D_IN_CNT, Table 14-18. -/
def R.A_CMP_D_IN_CNT (i : Nat) : Nat := 0x05202008 + 0x40 * i
def R.CMP_D_IN_CNT_IN_CNT (i : Nat) : Fld := ⟨R.A_CMP_D_IN_CNT i, 7, 0⟩
/-- CMP_D_CLEN, Table 14-18. -/
def R.A_CMP_D_CLEN (i : Nat) : Nat := 0x0520200C + 0x40 * i
def R.CMP_D_CLEN_CLEN (i : Nat) : Fld := ⟨R.A_CMP_D_CLEN i, 19, 0⟩
/-- CMP_D_HIST, Table 14-18. -/
def R.A_CMP_D_HIST (i : Nat) : Nat := 0x05202010 + 0x40 * i
def R.CMP_D_HIST_HIST (i : Nat) : Fld := ⟨R.A_CMP_D_HIST i, 31, 0⟩
/-- CMP_D_HOFS, Table 14-18. -/
def R.A_CMP_D_HOFS (i : Nat) : Nat := 0x05202014 + 0x40 * i
def R.CMP_D_HOFS_HOFS (i : Nat) : Fld := ⟨R.A_CMP_D_HOFS i, 20, 0⟩
/-- CMP_D_OUT, Table 14-18. -/
def R.A_CMP_D_OUT (i : Nat) : Nat := 0x05202018 + 0x40 * i
def R.CMP_D_OUT_OUT (i : Nat) : Fld := ⟨R.A_CMP_D_OUT i, 31, 0⟩
/-- CMP_D_CMD, Table 14-18. -/
def R.A_CMP_D_CMD (i : Nat) : Nat := 0x0520201C + 0x40 * i
def R.CMP_D_CMD_CMD (i : Nat) : Fld := ⟨R.A_CMP_D_CMD i, 1, 0⟩
/-- CMP_D_STAT, Table 14-18. -/
def R.A_CMP_D_STAT (i : Nat) : Nat := 0x05202020 + 0x40 * i
def R.CMP_D_STAT_CODE (i : Nat) : Fld := ⟨R.A_CMP_D_STAT i, 7, 4⟩
def R.CMP_D_STAT_STATE (i : Nat) : Fld := ⟨R.A_CMP_D_STAT i, 2, 0⟩
/-- CMP_D_UCRC, Table 14-18. -/
def R.A_CMP_D_UCRC (i : Nat) : Nat := 0x05202024 + 0x40 * i
def R.CMP_D_UCRC_UCRC (i : Nat) : Fld := ⟨R.A_CMP_D_UCRC i, 31, 0⟩
/-- LDG_CTRL, Table 17-6. -/
def R.A_LDG_CTRL : Nat := 0x06000000
def R.LDG_CTRL_EN : Fld := ⟨R.A_LDG_CTRL, 0, 0⟩
/-- LDG_STAT, Table 17-6. -/
def R.A_LDG_STAT : Nat := 0x06000004
def R.LDG_STAT_QUEUED : Fld := ⟨R.A_LDG_STAT, 31, 24⟩
def R.LDG_STAT_SECT : Fld := ⟨R.A_LDG_STAT, 23, 17⟩
def R.LDG_STAT_FOUND_OPEN : Fld := ⟨R.A_LDG_STAT, 16, 16⟩
def R.LDG_STAT_STATE : Fld := ⟨R.A_LDG_STAT, 2, 0⟩
/-- LDG_PTR, Table 17-6. -/
def R.A_LDG_PTR : Nat := 0x06000008
def R.LDG_PTR_OFS : Fld := ⟨R.A_LDG_PTR, 22, 0⟩
/-- LDG_FPTR, Table 17-6. -/
def R.A_LDG_FPTR : Nat := 0x0600000C
def R.LDG_FPTR_OFS : Fld := ⟨R.A_LDG_FPTR, 19, 0⟩
/-- LDG_RSEQ, Table 17-7. -/
def R.A_LDG_RSEQ : Nat := 0x06000010
def R.LDG_RSEQ_RSEQ : Fld := ⟨R.A_LDG_RSEQ, 31, 0⟩
/-- LDG_PCYC, Table 17-7. -/
def R.A_LDG_PCYC : Nat := 0x06000014
def R.LDG_PCYC_PCYC : Fld := ⟨R.A_LDG_PCYC, 31, 0⟩
/-- LDG_OPTIME_LO, Table 17-7. -/
def R.A_LDG_OPTIME_LO : Nat := 0x06000018
def R.LDG_OPTIME_LO_OPTIME : Fld := ⟨R.A_LDG_OPTIME_LO, 31, 0⟩
/-- LDG_OPTIME_HI, Table 17-7. -/
def R.A_LDG_OPTIME_HI : Nat := 0x0600001C
def R.LDG_OPTIME_HI_OPTIME : Fld := ⟨R.A_LDG_OPTIME_HI, 15, 0⟩
/-- LDG_RATE, Table 17-7. -/
def R.A_LDG_RATE : Nat := 0x06000020
def R.LDG_RATE_BURST : Fld := ⟨R.A_LDG_RATE, 23, 16⟩
def R.LDG_RATE_REFILL : Fld := ⟨R.A_LDG_RATE, 15, 0⟩
/-- LDG_DROP, Table 17-7. -/
def R.A_LDG_DROP : Nat := 0x06000024
def R.LDG_DROP_COUNT : Fld := ⟨R.A_LDG_DROP, 31, 0⟩
/-- LDG_RAISE, Table 17-8. -/
def R.A_LDG_RAISE : Nat := 0x06000030
def R.LDG_RAISE_PLEN : Fld := ⟨R.A_LDG_RAISE, 28, 24⟩
def R.LDG_RAISE_CODE : Fld := ⟨R.A_LDG_RAISE, 15, 0⟩
/-- LDG_RAISE_BUF, Table 17-8. -/
def R.A_LDG_RAISE_BUF (i : Nat) : Nat := 0x06000100 + 0x4 * i
def R.LDG_RAISE_BUF_WORD (i : Nat) : Fld := ⟨R.A_LDG_RAISE_BUF i, 31, 0⟩
/-- LDG_FLT_STAT, Table 17-9. -/
def R.A_LDG_FLT_STAT : Nat := 0x06000040
def R.LDG_FLT_STAT_RECOVERED : Fld := ⟨R.A_LDG_FLT_STAT, 3, 3⟩
def R.LDG_FLT_STAT_DROP : Fld := ⟨R.A_LDG_FLT_STAT, 2, 2⟩
def R.LDG_FLT_STAT_FOUND_FULL : Fld := ⟨R.A_LDG_FLT_STAT, 1, 1⟩
def R.LDG_FLT_STAT_NOR_ERR : Fld := ⟨R.A_LDG_FLT_STAT, 0, 0⟩
/-- LDG_FLT_MASK, Table 17-9. -/
def R.A_LDG_FLT_MASK : Nat := 0x06000044
def R.LDG_FLT_MASK_RECOVERED : Fld := ⟨R.A_LDG_FLT_MASK, 3, 3⟩
def R.LDG_FLT_MASK_DROP : Fld := ⟨R.A_LDG_FLT_MASK, 2, 2⟩
def R.LDG_FLT_MASK_FOUND_FULL : Fld := ⟨R.A_LDG_FLT_MASK, 1, 1⟩
def R.LDG_FLT_MASK_NOR_ERR : Fld := ⟨R.A_LDG_FLT_MASK, 0, 0⟩
/-- LDG_FLT_SEV, Table 17-9. -/
def R.A_LDG_FLT_SEV : Nat := 0x06000048
def R.LDG_FLT_SEV_RECOVERED : Fld := ⟨R.A_LDG_FLT_SEV, 11, 9⟩
def R.LDG_FLT_SEV_DROP : Fld := ⟨R.A_LDG_FLT_SEV, 8, 6⟩
def R.LDG_FLT_SEV_FOUND_FULL : Fld := ⟨R.A_LDG_FLT_SEV, 5, 3⟩
def R.LDG_FLT_SEV_NOR_ERR : Fld := ⟨R.A_LDG_FLT_SEV, 2, 0⟩
/-- SEC_CTRL, Table 18-11. -/
def R.A_SEC_CTRL : Nat := 0x06100000
def R.SEC_CTRL_DBG_LOCK : Fld := ⟨R.A_SEC_CTRL, 1, 1⟩
def R.SEC_CTRL_HOST_LOCK : Fld := ⟨R.A_SEC_CTRL, 0, 0⟩
/-- SEC_STAT, Table 18-11. -/
def R.A_SEC_STAT : Nat := 0x06100004
def R.SEC_STAT_MAKER_BOUND : Fld := ⟨R.A_SEC_STAT, 31, 31⟩
def R.SEC_STAT_MANIFEST_VALID : Fld := ⟨R.A_SEC_STAT, 30, 30⟩
def R.SEC_STAT_HB2 : Fld := ⟨R.A_SEC_STAT, 29, 29⟩
def R.SEC_STAT_ACTIVE_SLOT : Fld := ⟨R.A_SEC_STAT, 27, 26⟩
def R.SEC_STAT_PENDING_SLOT : Fld := ⟨R.A_SEC_STAT, 25, 24⟩
def R.SEC_STAT_FUSE_SVN : Fld := ⟨R.A_SEC_STAT, 23, 16⟩
def R.SEC_STAT_DBG_LOCKOUT : Fld := ⟨R.A_SEC_STAT, 5, 5⟩
def R.SEC_STAT_HOST_LOCKOUT : Fld := ⟨R.A_SEC_STAT, 4, 4⟩
def R.SEC_STAT_DBG_CHAL : Fld := ⟨R.A_SEC_STAT, 3, 3⟩
def R.SEC_STAT_HOST_CHAL : Fld := ⟨R.A_SEC_STAT, 2, 2⟩
def R.SEC_STAT_DBG_UNLOCKED : Fld := ⟨R.A_SEC_STAT, 1, 1⟩
def R.SEC_STAT_HOST_UNLOCKED : Fld := ⟨R.A_SEC_STAT, 0, 0⟩
/-- SEC_FW_VER, Table 18-12. -/
def R.A_SEC_FW_VER : Nat := 0x06100008
def R.SEC_FW_VER_VERSION : Fld := ⟨R.A_SEC_FW_VER, 31, 0⟩
/-- SEC_MANIFEST_ID, Table 18-12. -/
def R.A_SEC_MANIFEST_ID : Nat := 0x0610000C
def R.SEC_MANIFEST_ID_ID : Fld := ⟨R.A_SEC_MANIFEST_ID, 31, 0⟩
/-- SEC_FAILS, Table 18-12. -/
def R.A_SEC_FAILS : Nat := 0x06100010
def R.SEC_FAILS_DBG_LOCKS : Fld := ⟨R.A_SEC_FAILS, 31, 24⟩
def R.SEC_FAILS_DBG_FAILS : Fld := ⟨R.A_SEC_FAILS, 23, 16⟩
def R.SEC_FAILS_HOST_LOCKS : Fld := ⟨R.A_SEC_FAILS, 15, 8⟩
def R.SEC_FAILS_HOST_FAILS : Fld := ⟨R.A_SEC_FAILS, 7, 0⟩
/-- SEC_LOCKOUT, Table 18-12. -/
def R.A_SEC_LOCKOUT : Nat := 0x06100014
def R.SEC_LOCKOUT_DBG_REMAIN : Fld := ⟨R.A_SEC_LOCKOUT, 31, 16⟩
def R.SEC_LOCKOUT_HOST_REMAIN : Fld := ⟨R.A_SEC_LOCKOUT, 15, 0⟩
/-- SEC_FLT_STAT, Table 18-13. -/
def R.A_SEC_FLT_STAT : Nat := 0x06100020
def R.SEC_FLT_STAT_FUSE_ERR : Fld := ⟨R.A_SEC_FLT_STAT, 5, 5⟩
def R.SEC_FLT_STAT_ROLLBACK : Fld := ⟨R.A_SEC_FLT_STAT, 4, 4⟩
def R.SEC_FLT_STAT_LOCKOUT : Fld := ⟨R.A_SEC_FLT_STAT, 3, 3⟩
def R.SEC_FLT_STAT_UNLOCK_FAIL : Fld := ⟨R.A_SEC_FLT_STAT, 2, 2⟩
def R.SEC_FLT_STAT_FW_BAD : Fld := ⟨R.A_SEC_FLT_STAT, 1, 1⟩
def R.SEC_FLT_STAT_MANIFEST_BAD : Fld := ⟨R.A_SEC_FLT_STAT, 0, 0⟩
/-- SEC_FLT_MASK, Table 18-13. -/
def R.A_SEC_FLT_MASK : Nat := 0x06100024
def R.SEC_FLT_MASK_FUSE_ERR : Fld := ⟨R.A_SEC_FLT_MASK, 5, 5⟩
def R.SEC_FLT_MASK_ROLLBACK : Fld := ⟨R.A_SEC_FLT_MASK, 4, 4⟩
def R.SEC_FLT_MASK_LOCKOUT : Fld := ⟨R.A_SEC_FLT_MASK, 3, 3⟩
def R.SEC_FLT_MASK_UNLOCK_FAIL : Fld := ⟨R.A_SEC_FLT_MASK, 2, 2⟩
def R.SEC_FLT_MASK_FW_BAD : Fld := ⟨R.A_SEC_FLT_MASK, 1, 1⟩
def R.SEC_FLT_MASK_MANIFEST_BAD : Fld := ⟨R.A_SEC_FLT_MASK, 0, 0⟩
/-- SEC_FLT_SEV, Table 18-13. -/
def R.A_SEC_FLT_SEV : Nat := 0x06100028
def R.SEC_FLT_SEV_FUSE_ERR : Fld := ⟨R.A_SEC_FLT_SEV, 17, 15⟩
def R.SEC_FLT_SEV_ROLLBACK : Fld := ⟨R.A_SEC_FLT_SEV, 14, 12⟩
def R.SEC_FLT_SEV_LOCKOUT : Fld := ⟨R.A_SEC_FLT_SEV, 11, 9⟩
def R.SEC_FLT_SEV_UNLOCK_FAIL : Fld := ⟨R.A_SEC_FLT_SEV, 8, 6⟩
def R.SEC_FLT_SEV_FW_BAD : Fld := ⟨R.A_SEC_FLT_SEV, 5, 3⟩
def R.SEC_FLT_SEV_MANIFEST_BAD : Fld := ⟨R.A_SEC_FLT_SEV, 2, 0⟩
/-- DLK_CTRL, Table 19-10. -/
def R.A_DLK_CTRL : Nat := 0x06200000
def R.DLK_CTRL_RATE : Fld := ⟨R.A_DLK_CTRL, 9, 8⟩
def R.DLK_CTRL_EN : Fld := ⟨R.A_DLK_CTRL, 3, 0⟩
/-- DLK_CFG, Table 19-10. -/
def R.A_DLK_CFG : Nat := 0x06200004
def R.DLK_CFG_PING_T : Fld := ⟨R.A_DLK_CFG, 31, 24⟩
def R.DLK_CFG_RSP_TMO : Fld := ⟨R.A_DLK_CFG, 23, 16⟩
def R.DLK_CFG_RETRY : Fld := ⟨R.A_DLK_CFG, 15, 12⟩
def R.DLK_CFG_TRAIN_MAX : Fld := ⟨R.A_DLK_CFG, 11, 8⟩
def R.DLK_CFG_DOWN_MAX : Fld := ⟨R.A_DLK_CFG, 7, 4⟩
/-- DLK_FLT_STAT, Table 19-11. -/
def R.A_DLK_FLT_STAT : Nat := 0x06200010
def R.DLK_FLT_STAT_ARM_MISS : Fld := ⟨R.A_DLK_FLT_STAT, 23, 20⟩
def R.DLK_FLT_STAT_PFAULT : Fld := ⟨R.A_DLK_FLT_STAT, 19, 16⟩
def R.DLK_FLT_STAT_TRAIN_FAIL : Fld := ⟨R.A_DLK_FLT_STAT, 15, 12⟩
def R.DLK_FLT_STAT_RETRY : Fld := ⟨R.A_DLK_FLT_STAT, 11, 8⟩
def R.DLK_FLT_STAT_DOWN : Fld := ⟨R.A_DLK_FLT_STAT, 7, 4⟩
def R.DLK_FLT_STAT_UNSAFE : Fld := ⟨R.A_DLK_FLT_STAT, 3, 0⟩
/-- DLK_FLT_MASK, Table 19-11. -/
def R.A_DLK_FLT_MASK : Nat := 0x06200014
def R.DLK_FLT_MASK_ARM_MISS : Fld := ⟨R.A_DLK_FLT_MASK, 23, 20⟩
def R.DLK_FLT_MASK_PFAULT : Fld := ⟨R.A_DLK_FLT_MASK, 19, 16⟩
def R.DLK_FLT_MASK_TRAIN_FAIL : Fld := ⟨R.A_DLK_FLT_MASK, 15, 12⟩
def R.DLK_FLT_MASK_RETRY : Fld := ⟨R.A_DLK_FLT_MASK, 11, 8⟩
def R.DLK_FLT_MASK_DOWN : Fld := ⟨R.A_DLK_FLT_MASK, 7, 4⟩
def R.DLK_FLT_MASK_UNSAFE : Fld := ⟨R.A_DLK_FLT_MASK, 3, 0⟩
/-- DLK_FLT_SEV, Table 19-11. -/
def R.A_DLK_FLT_SEV : Nat := 0x06200018
def R.DLK_FLT_SEV_ARM_MISS : Fld := ⟨R.A_DLK_FLT_SEV, 17, 15⟩
def R.DLK_FLT_SEV_PFAULT : Fld := ⟨R.A_DLK_FLT_SEV, 14, 12⟩
def R.DLK_FLT_SEV_TRAIN_FAIL : Fld := ⟨R.A_DLK_FLT_SEV, 11, 9⟩
def R.DLK_FLT_SEV_RETRY : Fld := ⟨R.A_DLK_FLT_SEV, 8, 6⟩
def R.DLK_FLT_SEV_DOWN : Fld := ⟨R.A_DLK_FLT_SEV, 5, 3⟩
def R.DLK_FLT_SEV_UNSAFE : Fld := ⟨R.A_DLK_FLT_SEV, 2, 0⟩
/-- DLK_L_STAT, Table 19-12. -/
def R.A_DLK_L_STAT (i : Nat) : Nat := 0x06200100 + 0x40 * i
def R.DLK_L_STAT_RTT (i : Nat) : Fld := ⟨R.A_DLK_L_STAT i, 31, 24⟩
def R.DLK_L_STAT_ATTEMPTS (i : Nat) : Fld := ⟨R.A_DLK_L_STAT i, 23, 20⟩
def R.DLK_L_STAT_WSEL (i : Nat) : Fld := ⟨R.A_DLK_L_STAT i, 13, 8⟩
def R.DLK_L_STAT_FLT_LEVEL (i : Nat) : Fld := ⟨R.A_DLK_L_STAT i, 4, 4⟩
def R.DLK_L_STAT_STATE (i : Nat) : Fld := ⟨R.A_DLK_L_STAT i, 2, 0⟩
/-- DLK_L_RSEL, Table 19-12. -/
def R.A_DLK_L_RSEL (i : Nat) : Nat := 0x06200104 + 0x40 * i
def R.DLK_L_RSEL_RSEL (i : Nat) : Fld := ⟨R.A_DLK_L_RSEL i, 5, 0⟩
/-- DLK_L_PREG, Table 19-12. -/
def R.A_DLK_L_PREG (i : Nat) : Nat := 0x06200108 + 0x40 * i
def R.DLK_L_PREG_ADDR (i : Nat) : Fld := ⟨R.A_DLK_L_PREG i, 23, 16⟩
def R.DLK_L_PREG_DATA (i : Nat) : Fld := ⟨R.A_DLK_L_PREG i, 15, 0⟩
/-- DLK_L_PREG_CMD, Table 19-12. -/
def R.A_DLK_L_PREG_CMD (i : Nat) : Nat := 0x0620010C + 0x40 * i
def R.DLK_L_PREG_CMD_CMD (i : Nat) : Fld := ⟨R.A_DLK_L_PREG_CMD i, 1, 0⟩
/-- DLK_L_PREG_RESP, Table 19-12. -/
def R.A_DLK_L_PREG_RESP (i : Nat) : Nat := 0x06200110 + 0x40 * i
def R.DLK_L_PREG_RESP_BUSY (i : Nat) : Fld := ⟨R.A_DLK_L_PREG_RESP i, 31, 31⟩
def R.DLK_L_PREG_RESP_CODE (i : Nat) : Fld := ⟨R.A_DLK_L_PREG_RESP i, 19, 16⟩
def R.DLK_L_PREG_RESP_DATA (i : Nat) : Fld := ⟨R.A_DLK_L_PREG_RESP i, 15, 0⟩
/-- DLK_L_FAULT, Table 19-12. -/
def R.A_DLK_L_FAULT (i : Nat) : Nat := 0x06200114 + 0x40 * i
def R.DLK_L_FAULT_FAULT (i : Nat) : Fld := ⟨R.A_DLK_L_FAULT i, 15, 0⟩
/-- DLK_L_PID, Table 19-12. -/
def R.A_DLK_L_PID (i : Nat) : Nat := 0x06200118 + 0x40 * i
def R.DLK_L_PID_CAPS (i : Nat) : Fld := ⟨R.A_DLK_L_PID i, 31, 16⟩
def R.DLK_L_PID_ID (i : Nat) : Fld := ⟨R.A_DLK_L_PID i, 15, 0⟩
/-- DLK_L_CNT, Table 19-12. -/
def R.A_DLK_L_CNT (i : Nat) : Nat := 0x0620011C + 0x40 * i
def R.DLK_L_CNT_DOWNS (i : Nat) : Fld := ⟨R.A_DLK_L_CNT i, 31, 16⟩
def R.DLK_L_CNT_RETRIES (i : Nat) : Fld := ⟨R.A_DLK_L_CNT i, 15, 0⟩
/-- DLK_INIT, Table 19-13. -/
def R.A_DLK_INIT (i : Nat) (j : Nat) : Nat := 0x06201000 + 0x100 * i + 0x4 * j
def R.DLK_INIT_VALID (i : Nat) (j : Nat) : Fld := ⟨R.A_DLK_INIT i j, 31, 31⟩
def R.DLK_INIT_ADDR (i : Nat) (j : Nat) : Fld := ⟨R.A_DLK_INIT i j, 23, 16⟩
def R.DLK_INIT_DATA (i : Nat) (j : Nat) : Fld := ⟨R.A_DLK_INIT i j, 15, 0⟩

end Sys2Proof.Machine
end

