-- ==== Sys2Proof/Machine/FaultMap.lean ====
section
/-!
DEFINITION. The fault sources: every FLT_STAT register with its mask, the severity field of each of its bits, the
FLT_SUM0 bit of its block, and the containment unit that holds each source (R386, R388, R390, Table 16-3).
-/

namespace Sys2Proof.Machine

open Sys2Proof

/-- The status registers that carry fault sources (R390). `tb` is TTH_TB_STAT, whose ALIGN_ERR is a TTH source. -/
inductive FltReg
  | sys | flt | tth | srv | cle | spn | dep | cvy | mem | memEcc | hif | rte | cmp | ldg | sec | dlk | pool | tb
  | chRd (h : Nat) | chWr (h : Nat) | ldpc (n : Nat) | seq (a : Nat)
  deriving DecidableEq, Repr

/-- The address of the status register. -/
def FltReg.statAddr : FltReg → Nat
  | .sys => R.A_SYS_FLT_STAT | .flt => R.A_FLT_FLT_STAT | .tth => R.A_TTH_FLT_STAT | .srv => R.A_SRV_FLT_STAT
  | .cle => R.A_CLE_FLT_STAT | .spn => R.A_SPN_FLT_STAT | .dep => R.A_DEP_FLT_STAT | .cvy => R.A_CVY_FLT_STAT
  | .mem => R.A_MEM_FLT_STAT | .memEcc => R.A_MEM_ECC_FLT_STAT | .hif => R.A_HIF_FLT_STAT | .rte => R.A_RTE_FLT_STAT
  | .cmp => R.A_CMP_FLT_STAT | .ldg => R.A_LDG_FLT_STAT | .sec => R.A_SEC_FLT_STAT | .dlk => R.A_DLK_FLT_STAT
  | .pool => R.A_LDPC_POOL_FLT_STAT | .tb => R.A_TTH_TB_STAT
  | .chRd h => R.A_CH_RD_FLT_STAT h | .chWr h => R.A_CH_WR_FLT_STAT h
  | .ldpc n => R.A_LDPC_FLT_STAT n | .seq a => R.A_SEQ_FLT_STAT a

/-- The address of the mask register; ALIGN_ERR has none (R390). -/
def FltReg.maskAddr : FltReg → Option Nat
  | .sys => some R.A_SYS_FLT_MASK | .flt => some R.A_FLT_FLT_MASK | .tth => some R.A_TTH_FLT_MASK
  | .srv => some R.A_SRV_FLT_MASK | .cle => some R.A_CLE_FLT_MASK | .spn => some R.A_SPN_FLT_MASK
  | .dep => some R.A_DEP_FLT_MASK | .cvy => some R.A_CVY_FLT_MASK | .mem => some R.A_MEM_FLT_MASK
  | .memEcc => some R.A_MEM_ECC_FLT_MASK | .hif => some R.A_HIF_FLT_MASK | .rte => some R.A_RTE_FLT_MASK
  | .cmp => some R.A_CMP_FLT_MASK | .ldg => some R.A_LDG_FLT_MASK | .sec => some R.A_SEC_FLT_MASK
  | .dlk => some R.A_DLK_FLT_MASK | .pool => some R.A_LDPC_POOL_FLT_MASK | .tb => none
  | .chRd h => some (R.A_CH_RD_FLT_MASK h) | .chWr h => some (R.A_CH_WR_FLT_MASK h)
  | .ldpc n => some (R.A_LDPC_FLT_MASK n) | .seq a => some (R.A_SEQ_FLT_MASK a)

/-- The bits of the status register that are sources. -/
def FltReg.srcBits : FltReg → Nat
  | .tb => 1
  | _ => 32

/-- The three bits at field number `i` of a severity register. -/
def sevField (addr i : Nat) : Fld := ⟨addr, 3 * i + 2, 3 * i⟩

/-- The severity field of status bit `b` (R386). -/
def FltReg.sevFld (r : FltReg) (b : Nat) : Fld :=
  match r with
  | .sys => sevField R.A_SYS_FLT_SEV b
  | .flt => sevField R.A_FLT_FLT_SEV b
  | .tth => sevField R.A_TTH_FLT_SEV b
  | .srv => sevField R.A_SRV_FLT_SEV (if b < 28 then b / 4 else if b < 30 then 7 else 8)
  | .cle => sevField R.A_CLE_FLT_SEV b
  | .spn => if b < 6 then sevField R.A_SPN_FLT_SEV0 b else sevField R.A_SPN_FLT_SEV1 (b - 6)
  | .dep => sevField R.A_DEP_FLT_SEV (if b < 4 then 0 else if b < 8 then 1 else b - 6)
  | .cvy => sevField R.A_CVY_FLT_SEV (b / 4)
  | .mem => sevField R.A_MEM_FLT_SEV b
  | .memEcc => sevField R.A_MEM_ECC_FLT_SEV b
  | .hif => sevField R.A_HIF_FLT_SEV (b / 2)
  | .rte => sevField R.A_RTE_FLT_SEV b
  | .cmp => sevField R.A_CMP_FLT_SEV (b / 8)
  | .ldg => sevField R.A_LDG_FLT_SEV b
  | .sec => sevField R.A_SEC_FLT_SEV b
  | .dlk => sevField R.A_DLK_FLT_SEV (b / 4)
  | .pool => sevField R.A_LDPC_POOL_FLT_SEV b
  | .tb => R.FLT_CFG_TB_SEV
  | .chRd h => sevField (R.A_CH_RD_FLT_SEV h) b
  | .chWr h => if b < 10 then sevField (R.A_CH_WR_FLT_SEV0 h) b else sevField (R.A_CH_WR_FLT_SEV1 h) (b - 10)
  | .ldpc n => sevField (R.A_LDPC_FLT_SEV n) b
  | .seq a => sevField (R.A_SEQ_FLT_SEV a) b

/-- The FLT_SUM0 bit of the register's block: BLK bits 0 to 15, then CH 16, LDPC decoder 17, SEQ 18 (Table 16-7). -/
def FltReg.sumBit : FltReg → Nat
  | .sys => 0 | .flt => 1 | .tth => 2 | .tb => 2 | .srv => 3 | .cle => 4 | .spn => 5 | .dep => 6 | .cvy => 7
  | .mem => 8 | .memEcc => 8 | .hif => 9 | .rte => 10 | .cmp => 11 | .ldg => 12 | .sec => 13 | .dlk => 14
  | .pool => 15 | .chRd _ => 16 | .chWr _ => 16 | .ldpc _ => 17 | .seq _ => 18

/-- The instance a source names, where it names one (Table 17-4). -/
def FltReg.instOf (r : FltReg) (b : Nat) : Option Nat :=
  match r with
  | .srv => some (if b < 28 then b % 4 else b % 2)
  | .dep => if b < 8 then some (b % 4) else none
  | .cvy => some (b % 4)
  | .hif => if b < 8 then some (b % 2) else none
  | .cmp => some (b % 8)
  | .dlk => some (b % 4)
  | .chRd h => some h
  | .chWr h => some h
  | .ldpc n => some n
  | .seq a => some a
  | _ => none

/-- The containment unit that holds the source of status bit `b`; none where Table 16-3 has no unit (R388). -/
def FltReg.unitOf (r : FltReg) (b : Nat) : Option CUnit :=
  match r with
  | .chRd h => some (.ch h)
  | .chWr h => some (.ch h)
  | .ldpc n => some (.dec n)
  | .seq a => some (.seq a)
  | .cle => some .cle
  | .spn => some .spn
  | .dep => some .dep
  | .cvy => some (.cvy (b % 4))
  | .cmp => if b < 8 then some (.comp b) else some (.decomp (b % 8))
  | .rte => some .rte
  | _ => none

/-- Every status register with sources, in FLT_SUM0 order. -/
def allFltRegs : List FltReg :=
  [.sys, .flt, .tth, .tb, .srv, .cle, .spn, .dep, .cvy, .mem, .memEcc, .hif, .rte, .cmp, .ldg, .sec, .dlk, .pool]
  ++ (List.range 24).map .chRd ++ (List.range 24).map .chWr ++ (List.range 18).map .ldpc ++ (List.range 4).map .seq

end Sys2Proof.Machine
end

