-- ==== Sys2Proof/Machine/State.lean ====
section
/-!
DEFINITION. The state of the TM-4A24 as plain data: the register file, every queue, engine, memory and mode the spec
gives the part, and the queue of waiting commands; the reasons a step can stop; the state after reset.
-/

namespace Sys2Proof.Machine

open Sys2Proof



/-- The severity actions of one status register that set at one moment (R386, R392): the register, its value, the
sources that rose with their applied levels, and the fault stamp. -/
structure SevAct where
  reg : FltReg
  value : Nat
  srcs : List (Nat × Nat)
  stamp : Nat
  deriving DecidableEq, Repr

/-- One entry of log page 0xC3 (Table 12-13). -/
structure SnapEntry where
  stamp : Nat
  addr : Nat
  value : Nat
  level : Nat
  attn : Bool
  inst : Nat
  mode : Nat
  serviceUs : Nat
  deriving DecidableEq, Repr

/-- The faults' own state: actions to take, interrupts, the snapshot log, ATTN_N, containment and switchover. -/
structure FltSt where
  /-- Severity actions not yet taken, oldest first. -/
  todo : List SevAct
  /-- Interrupts raised to the active control-core pair and not yet answered by a status clear (level 1). -/
  irqs : List FltReg
  /-- Log page 0xC3, newest first, at most 64 entries. -/
  snap : List SnapEntry
  /-- Source actions of level 1 or above since power-on. -/
  snapTotal : Nat
  /-- When ATTN_N was asserted, while it is (R391). -/
  attnAt : Option Nat
  /-- Units in containment reset, and since when (R393). -/
  resets : List (CUnit × Nat)
  /-- Units whose fault status rose during their own reset (Table 16-6). -/
  resetAgain : List CUnit
  /-- Containment resets of the recent past, newest first (R396). -/
  history : List (CUnit × Nat)
  /-- Units out of service under ESCALATE (R396). -/
  outOfService : List CUnit
  /-- When the active pair last wrote FLT_WDOG (R397). -/
  wdogAt : Nat
  /-- Whether a switchover awaits reconciliation, and its detection stamp (R398). -/
  switching : Option Nat
  /-- Degrade and Limp actions held until reconciliation (Table 16-6). -/
  held : List SevAct
  /-- The hardware safe stop has been made (R399). -/
  safeStop : Bool
  /-- Entries of log page 0xC3 that wait for a unit's return to service; none names a switchover (R392). -/
  snapWait : List (Option CUnit × SnapEntry)
  deriving DecidableEq, Repr

/-- A record waiting to be written (Table 17-2); PCYC and OPTIME follow from its stamp when it is written. -/
structure LdgRec where
  code : Nat
  payload : List Byte
  stamp : Nat
  supp : Nat
  founding : Bool
  deriving DecidableEq, Repr

/-- What the NOR port is programming: the header page of a Rolling sector, or a record. -/
inductive LdgWhat
  | header (sector : Nat)
  | record (rec : LdgRec)
  deriving DecidableEq, Repr

/-- The program in progress: its NOR address, its bytes, which of the two page programs runs, and whether it is the
retry (R408, Table 17-5). -/
structure LdgJob where
  what : LdgWhat
  addr : Nat
  bytes : List Byte
  second : Bool
  retry : Bool
  deriving DecidableEq, Repr

/-- The Ledger recorder (chapter 17). -/
structure LdgSt where
  queue : List LdgRec
  job : Option LdgJob
  /-- The Rolling sector being erased. -/
  erasing : Option Nat
  /-- The erased sector that waits ahead (R411). -/
  ahead : Option Nat
  /-- A Rolling sector is open for records. -/
  opened : Bool
  /-- The newest sector sequence number. -/
  sseq : Nat
  /-- Operating time at the start of this power cycle, ms (R409). -/
  optBase : Nat
  /-- Tokens spent by each code (R413). -/
  spent : List (Nat × Nat)
  /-- Suppressed occurrences of each code (R413). -/
  supp : List (Nat × Nat)
  /-- Records lost since the last DROP record (R414). -/
  lost : Nat
  /-- The power-loss or safe-stop record of this power cycle has been raised (R415). -/
  lastWord : Bool
  lastRefill : Nat
  lastHours : Nat
  lastSummary : Nat
  /-- The SMBus readout offset (R418). -/
  smbOfs : Nat
  /-- The record put back at the head of the queue is in its retry (Table 17-5). -/
  retrying : Bool
  deriving DecidableEq, Repr

/-- One pool of the Depot beside its registers: the cache of free indices, the used part of the ring in buffer memory,
the LOW_WM cause, and how many handles the cache can hold (R261, R265, Table 15-1). -/
structure PoolSt where
  cache : List Nat
  head : Nat
  ringLen : Nat
  low : Bool
  cap : Nat
  deriving DecidableEq, Repr

/-- A Depot request (Table 10-7). `arg` is the handle, or SIZE for ALLOC; `port`: it came through DEP_REQ. -/
structure DepReq where
  op : Nat
  tag : Nat
  tag2 : Nat
  arg : Nat
  climb : Bool
  inv : Bool
  pool : Nat
  port : Bool
  deriving DecidableEq, Repr

/-- A Depot response: whose it is, its code of Table 10-8, the handle and the state entry it returns. -/
structure DepResp where
  tag : Nat
  code : Nat
  handle : Nat
  entry : Nat
  deriving DecidableEq, Repr

/-- The Depot beside its registers (chapter 10). -/
structure DepSt where
  pools : List PoolSt
  /-- Requests that wait for RUN, oldest first (R267). -/
  wait : List DepReq
  /-- The latest response to a request that did not come through DEP_REQ. -/
  out : Option DepResp
  /-- The latest buffer access: whether it went ahead, and the bytes a read returned (R264). -/
  access : Option (Bool × List Byte)
  deriving DecidableEq, Repr

/-- The Correction Log key of a word: its address for buffer memory, or array, instance and index (Table 15-8). -/
structure EccKey where
  sram : Bool
  array : Nat
  inst : Nat
  idx : Nat
  deriving DecidableEq, Repr

/-- What the memories hold beside their data (chapters 10 and 15). -/
structure MemSt where
  /-- Time of the latest access to buffer memory (R251). -/
  lastAccess : Nat
  /-- Flipped codeword bits of stored words: a mask of 72 bits, by word (R372, R384). -/
  flips : List (EccKey × Nat)
  /-- Log entries that wait for a rewrite (R377). -/
  due : List Nat
  /-- 4 KiB pages of the firmware working area that are not used again (Table 15-1). -/
  badPages : List Nat
  /-- Log entries whose action of Table 15-1 firmware has taken (R380, R382). -/
  acted : List Nat
  /-- MR4 reports derated refresh (Table 10-1). -/
  derated : Bool
  deriving DecidableEq, Repr

/-- What a Convoy engine waits for (R276, R278). -/
inductive CvyPhase
  | idle | fetch | xfer | stat | own
  | gap (back : CvyPhase)
  deriving DecidableEq, Repr

/-- A Convoy engine beside its registers: the channel it serves, what it waits for and since when, retries run, the
descriptor's eight words, its end so far, the latest data it sent to a host, and the channel served last. -/
structure CvyEng where
  phase : CvyPhase
  chan : Nat
  since : Nat
  tries : Nat
  retries : Nat
  desc : List Nat
  done : Nat
  code : Nat
  cause : Nat
  hostOut : Option (Nat × Nat × List Byte)
  deriving DecidableEq, Repr

/-- A Convoy channel beside its registers: a descriptor to fetch, a LINK re-read under way and its retries, a retry gap
of that re-read, a STOP and an EN = 0 that wait for the descriptor in progress. -/
structure CvyChan where
  want : Bool
  link : Bool
  linkAt : Nat
  linkTries : Nat
  gapAt : Option Nat
  stop : Bool
  off : Bool
  deriving DecidableEq, Repr

/-- An RTE request (Table 14-4). `since`: the fetch stamp of the newest write that an UPDATE covers; `port`: it came
through RTE_REQ. -/
structure RteReq where
  op : Nat
  tag : Nat
  ns : Nat
  a0 : Nat
  a1 : Nat
  a2 : Nat
  since : Nat
  port : Bool
  deriving DecidableEq, Repr

/-- An RTE response: whose it is, its code, the index and the entry. -/
structure RteResp where
  tag : Nat
  code : Nat
  index : Nat
  entry : Nat
  deriving DecidableEq, Repr

/-- One journal record of a Route Table change (R366): its sequence number, the index and the new entry, the fetch stamp of
the newest write that the change covers, and a mask of the actuators on which a copy is counted as written. -/
structure JournalRec where
  seq : Nat
  index : Nat
  entry : Nat
  since : Nat
  copies : Nat
  deriving DecidableEq, Repr

/-- One band of the packed pool: its state of Table 14-10 (0 FREE, 1 OPEN, 2 FULL, 3 RECLAIM, 4 taken by a conventional
namespace) and its write pointer (R363). -/
structure Band where
  st : Nat
  ptr : Nat
  deriving DecidableEq, Repr

/-- The open run of a linked stream (R359): namespace and stream identifier, its context, the LPOS and RUN_BACK of its last
container and that container's sectors, its band, and the write pointer after it. -/
structure LinkRun where
  ns : Nat
  stream : Nat
  ctx : Nat
  lpos : Nat
  back : Nat
  last : Nat
  band : Nat
  stop : Nat
  deriving DecidableEq, Repr

/-- A stripe that a compressor lane destages: namespace, stripe, the entry the destage started from, the newest write merged
into it, the stream of its writes (0: none, or not the same one), whether it continues that stream's run, that run, and
its input handles (R357, R359, R364). -/
structure DestJob where
  ns : Nat
  stripe : Nat
  old : Nat
  since : Nat
  stream : Nat
  link : Bool
  run : Option LinkRun
  inputs : List Nat
  deriving DecidableEq, Repr

/-- A destaged stripe on its way to the medium: Route Table index, expected and new entry, the buffers of its sectors, and
the newest write merged into it (R353, R364). -/
structure Destage where
  index : Nat
  old : Nat
  new : Nat
  bufs : List Nat
  since : Nat
  deriving DecidableEq, Repr

/-- The Route Table engine and the packed pool beside their registers (chapter 14). -/
structure RteSt where
  wait : List RteReq
  out : Option RteResp
  bands : List Band
  journal : List JournalRec
  journalSeq : Nat
  /-- The newest complete checkpoint: entries by index, and the journal sequence it holds. -/
  ckpt : List (Nat × Nat)
  ckptSeq : Nat
  /-- The Route Table has been loaded (R369). -/
  loaded : Bool
  /-- When the first actuator entered TRACK (R369). -/
  trackAt : Option Nat
  /-- The open runs of linked streams (R359). -/
  links : List LinkRun
  /-- Containers and RAW stripes that are placed in a band and not yet mapped (R353, R364). -/
  dest : List Destage
  /-- The container write sequence number (Table 14-6). -/
  wseq : Nat
  deriving DecidableEq, Repr

/-- A compressor lane beside its registers: the stripe and history it holds, since when, the configuration of its job,
and its interrupt (R357). -/
structure CompLane where
  input : List Byte
  hist : List Byte
  since : Nat
  cfg : Nat
  outl : Nat
  irq : Bool
  /-- The destage that its job is part of. -/
  job : Option DestJob
  deriving DecidableEq, Repr

/-- A decompressor lane beside its registers: since when it runs, and its interrupt. -/
structure DecompLane where
  since : Nat
  irq : Bool
  deriving DecidableEq, Repr

/-- What an armed sector is to do. -/
inductive ArmKind
  | read | write | verify
  deriving DecidableEq, Repr

/-- An armed sector: the arm block of Table 6-8 and its kind. -/
structure Arm where
  kind : ArmKind
  track : Nat
  slot : Nat
  nsi : Nat
  packed : Bool
  lba : Nat
  handle : Nat
  /-- It was armed less than 256 channel bits before its position 0 (R156). -/
  late : Bool
  deriving DecidableEq, Repr

/-- A sector that has been written and is not yet counted: when its first and last bits passed the writer (R129). -/
structure Written where
  arm : Arm
  first : Nat
  last : Nat
  deriving DecidableEq, Repr

/-- The write run of a head: its first sector, the stamp of position 0 of that sector, and the sector started last with
the stamps of its first and last bits (R122, R123). -/
structure WriteRun where
  start : Arm
  p0 : Nat
  cur : Option (Arm × Nat × Nat)
  deriving DecidableEq, Repr

/-- What a writer lane is sending: the 37,120 channel bits of a sector, bit b at position b, and how much earlier than its
nominal time each transition is emitted, in 1/64 bit period (R116, R119). -/
structure LaneOut where
  bits : Nat
  shift : List Nat
  deriving DecidableEq, Repr

/-- One CH instance and its formatter beside the registers (chapters 4 to 6). -/
structure HeadSt where
  /-- The working adaptation entry, 16 words, and write-table entry, 4 words; empty when none is loaded. -/
  entry : List Nat
  wentry : List Nat
  /-- Adapted settings: gain, offset and asymmetry of A, B, C (R83), and the 28 taps in units of 1/64 (R95). -/
  adapt : List Int
  taps : List Rat
  /-- Interpolator phase of A, B, C in 1/64 channel bit (R82). -/
  phase : List Int
  /-- The filter in force: corner in Hz and boost in 0.5 dB (Table 4-1). -/
  ctf : Nat × Nat
  /-- RELOAD is due at the next read gate. -/
  reload : Bool
  /-- A LOAD_ZONE that waits for the sectors armed before it, the arms left before it, and its track (Table 6-11). -/
  zonePend : Option (Nat × Nat)
  /-- Armed sectors, oldest first, at most 8 (R156). -/
  arms : List Arm
  /-- Sector reports not yet popped, oldest first. -/
  reports : List Nat
  run : Option WriteRun
  /-- The sector the lane is sending (R116, R118). -/
  lane : Option LaneOut
  /-- Sectors written and not yet counted. -/
  written : List Written
  /-- Sectors put into the "not written" class, buffers held (R128). -/
  held : List Arm
  /-- Sectors counted as written that an ARCHIVE verify still has to judge (R132). -/
  unverified : List Arm
  /-- Stamp of the latest servo sample that passed every check, and of the one before it. -/
  passAt : Nat
  passPrev : Nat
  /-- D of the latest cut (R134). -/
  cutAt : Option Nat
  /-- The transfer under way is refused from a sector on: its rate is out of range (R74). -/
  refused : Bool
  /-- Consecutive passing samples since each inhibit source of the servo became active (R127). -/
  pass : List Nat
  /-- Sectors of a neighbouring track that firmware reads after an off-track cut: track, slot, and whether the first read of
  one was not good (R131). -/
  adj : List (Nat × Nat × Bool)
  /-- Counted rewrites and failed verifies of sectors, by physical address (R130, R132). -/
  rewrites : List (Nat × Nat)
  vfails : List (Nat × Nat)
  /-- The head holds a write grant (R125). -/
  grant : Bool
  /-- Inhibit sources whose activation on this idle head has not counted as a cut (R126). -/
  idleSrc : Nat
  /-- Sources FOLLOW, CLE_OVR and CLE_SAT that a VCM loop named on this head (R127). -/
  srcVcm : Nat
  deriving DecidableEq, Repr

/-- One decode candidate of a read: its offset from P, whether it is the found mark's, its progress, and how its decode
ended: iterations, decoder and unsatisfied checks (R98, R99). -/
inductive CandSt
  | waiting | running (dec : Nat) | good (payload : List Byte) | bad | cancelled
  deriving DecidableEq, Repr
structure Cand where
  ofs : Int
  found : Bool
  st : CandSt
  iters : Nat
  dec : Nat
  unsat : Nat
  deriving DecidableEq, Repr

/-- One read of a sector in the pool (R97 to R105). -/
structure ReadJob where
  id : Nat
  head : Nat
  arm : Arm
  /-- The stamp P of the predicted sync-mark last bit. -/
  p : Nat
  /-- The bit period in fs. -/
  tb : Nat
  slot : Nat
  /-- What its slot holds: the LLRs of the codeword, widened by 66 bits on each side (R101). -/
  llr : List Int
  /-- The offset of the mark found. -/
  mark : Option Int
  decided : Bool
  captured : Bool
  cands : List Cand
  /-- The read's number for its sector. -/
  n : Nat
  tag : Bool
  /-- Its LLRs wait for the sector's deep decode to end (R107). -/
  wait : Bool
  /-- The decoder and the iterations of the decode that ended last. -/
  last : Nat × Nat
  deriving DecidableEq, Repr

/-- What the pool keeps of a sector whose read failed: the sector, reads taken, the aligned offsets of the reads its sum
holds, the sum of their LLRs, TAG_SEEN and whether a deep decode of it is queued or runs. It takes one of the 32 entries of
the retry store while its sum holds a read (R105, R106). -/
structure RetryEnt where
  head : Nat
  track : Nat
  slot : Nat
  reads : Nat
  sum : List Int
  acc : List Int
  tag : Bool
  deep : Bool
  deriving DecidableEq, Repr

/-- What a decoder works on: a candidate of a read, or a deep decode for a read (R102, R107). -/
inductive DecWork
  | cand (job idx : Nat)
  | deep (job : Nat)
  deriving DecidableEq, Repr

/-- A running decode: its work, iteration limit and start. -/
structure DecRun where
  work : DecWork
  limit : Nat
  start : Nat
  deriving DecidableEq, Repr

/-- The LDPC pool beside its registers (chapter 4). -/
structure PoolRd where
  jobs : List ReadJob
  nextId : Nat
  /-- LLR slots in use. -/
  slots : List Nat
  /-- LLR slots and retry-store entries taken out of service (Table 15-1). -/
  badSlots : List Nat
  badRetry : Nat
  queue : List (Nat × Nat)
  deepQ : List Nat
  decs : List (Option DecRun)
  retry : List RetryEnt
  deriving DecidableEq, Repr

/-- The head's state with nothing loaded and nothing armed. -/
def HeadSt.init : HeadSt :=
  ⟨[], [], [], [], [0, 0, 0], (0, 0), false, none, [], [], none, none, [], [], [], 0, 0, none, false,
   List.replicate 11 0, [], [], [], false, 0, 0⟩

/-- What the medium side tells the command side: a sector is on the medium (verified in ARCHIVE), or a write of one failed
for good. -/
inductive IoEvent
  | durable (head : Nat) (arm : Arm)
  | writeFail (head : Nat) (arm : Arm)
  deriving DecidableEq, Repr

/-- Why a Darenlen frame was requested: for no one in particular, by the register port, or for the FAULT register. -/
inductive DlkFor
  | plain | port | fault
  deriving DecidableEq, Repr

/-- A Darenlen frame: TYPE, the four body bytes, its latest-issue time, and who asked (Table 19-1, R452). -/
structure DlkFrame where
  ty : Nat
  b1 : Nat
  b2 : Nat
  b3 : Nat
  b4 : Nat
  latest : Nat
  who : DlkFor
  deriving DecidableEq, Repr

/-- One Darenlen link beside its registers (chapter 19). -/
structure DlkLink where
  /-- Frames that wait, in the order of request. -/
  waiting : List DlkFrame
  /-- The frame of the exchange under way, its SEQ, how often it has been sent, and when last. -/
  flight : Option (DlkFrame × Nat × Nat × Nat)
  /-- Frames of failed exchanges that wait for their retransmission: frame, SEQ and times sent (R445, R452). -/
  resend : List (DlkFrame × Nat × Nat)
  seq : Nat
  /-- The next TRAIN step: 0 to 15 a pattern, 16 and 17 the registers 0x00 and 0x01. -/
  train : Nat
  /-- Configuration frames that LOAD still sends. -/
  load : List DlkFrame
  attemptAt : Nat
  downAt : Nat
  /-- Stamps of recent link-down declarations, newest first. -/
  downs : List Nat
  lastSent : Nat
  /-- Shadow of the last WRITER, HEATER and LASER bodies, by head. -/
  shadow : List (Option DlkFrame)
  /-- Heads whose ARM reply has arrived for their present run. -/
  armed : Nat
  /-- The link is to read register 0x02 once it is UP (Table 19-8). -/
  readFault : Bool
  /-- The frame bytes sent last. -/
  out : List Byte
  /-- Heads whose writes are unusable until their write-table entry is loaded again (Table 19-8). -/
  badHeads : Nat
  /-- The line symbols of the frame sent last, and the downstream running disparity after it (true: positive, R440). -/
  line : List Nat
  rd : Bool
  deriving DecidableEq, Repr

/-- A link at reset. The downstream line starts at negative running disparity (DESIGN CHOICE). -/
def DlkLink.init : DlkLink := ⟨[], none, [], 0, 0, [], 0, 0, [], 0, List.replicate 18 none, 0, false, [], 0, [], false⟩

/-- A head's servo part beside its registers: the command last sent to it and the one CLE last delivered, runs of samples
for ONTRK and the following error, the track of its previous sample, whether the latest sample passed every check, and
targets that wait for its write side (chapter 7). -/
structure HeadSv where
  u : Int
  out : Int
  onRun : Nat
  folRun : Nat
  folDone : Bool
  tid : Nat
  sampleOk : Bool
  pendTrack : Option Nat
  pendOfs : Option Nat
  /-- Stamp of its latest servo address mark, or of the prediction of one that was missed (R167). -/
  samAt : Option Nat
  deriving DecidableEq, Repr

/-- An actuator beside its registers: arm target, x_arm and vel_arm, stamps of its samples, the seek in progress, its
runs of samples, a SEEK that waits, its Bridle link and its VCM port. -/
structure ActSv where
  target : Nat
  xArm : Int
  velArm : Int
  posAt : Nat
  sampleAt : Nat
  /-- Seek velocity v, tracks per µs (R208). -/
  seekV : Rat
  /-- The end of the profile has been reached. -/
  profEnd : Bool
  seekAt : Nat
  loadAt : Nat
  retractAt : Nat
  lostRun : Nat
  folRun : Nat
  folDone : Bool
  pendSeek : Option (Nat × Nat)
  /-- Bridle link: up, sequence number of the next frame, bad and good replies in a row, a fault flag seen, the commands
  last sent by channel, the next channel of the rotation, the frames that wait for their replies, oldest first, when one was
  sent last, and its 40 bits (R187 to R189). -/
  linkUp : Bool
  seq : Nat
  badRun : Nat
  goodRun : Nat
  flagged : Bool
  lastCmd : List Int
  rot : Nat
  await : List (Nat × Nat)
  sentAt : Nat
  frame : Nat
  /-- VCM port: the sum of current errors, over-current samples in a row, the regulator output v in 1/2^31, and the
  current samples since the last trigger of a velocity loop (R190, R191). -/
  sum : Int
  overRun : Nat
  duty : Int
  count16 : Nat
  /-- VCM_a_FLT_N is low (R191). -/
  fltLow : Bool
  /-- Output monitors of the six Bridle channels, and the amplifier register read last (Table 7-9). -/
  sense : List Int
  ampData : Nat
  /-- The latest 190 bits of VCM_a_ISD, the newest in bit 0; how long PA and PB are high in a PWM period, ns (R190). -/
  isd : Nat
  pwm : Rat × Rat
  deriving DecidableEq, Repr

/-- A head's servo part and an actuator at reset. -/
def HeadSv.init : HeadSv := ⟨0, 0, 0, 0, false, 0, false, none, none, none⟩
def ActSv.init : ActSv :=
  ⟨0, 0, 0, 0, 0, 0, false, 0, 0, 0, 0, 0, false, none, true, 0, 0, 0, false, List.replicate 6 0, 0, [], 0, 0, 0, 0, 0,
   0, false, List.replicate 6 0, 0, 0, (0, 0)⟩

/-- A Gust port beside its registers: frames beyond a threshold and with a bad CRC in a row, the latest good frame, since
when every good frame is within the thresholds, since when good frames arrive (R184, R185). -/
structure GustSt where
  tripRun : Nat
  crcRun : Nat
  goodAt : Nat
  within : Option Nat
  goodSince : Option Nat
  deriving DecidableEq, Repr

/-- The SRV block beside its registers. -/
structure SrvSt where
  acts : List ActSv
  heads : List HeadSv
  gust : List GustSt
  deriving DecidableEq, Repr

/-- A triggered job of the control engine: its loop, deadline, the moment D or trigger its latency counts from, the stamp
of its sample, set, inputs as data of Q1.31 (loop 28 has two), whether one of them saturated, whether the input is PRED
times the previous one, feedforward inputs, and the seek reference it writes back (R199 to R209). -/
structure CleJob where
  loop : Nat
  deadline : Nat
  from0 : Nat
  stamp : Nat
  set : Nat
  x : Int
  x2 : Int
  clip : Bool
  pred : Bool
  f0 : Int
  f1 : Int
  seek : Option (Int × Rat × Bool)
  /-- The VCM loop was triggered in TRACK or HOLD, where an OUT clip raises CLE_SAT (R198). -/
  outSat : Bool
  deriving DecidableEq, Repr

/-- A loop of the control engine: section states, previous input, set of its last job, the next job starts from cleared
states, and whether its last job overran or raised CLE_SAT. -/
structure CleLoop where
  s1 : List Int
  s2 : List Int
  prev : Int
  lastSet : Option Nat
  ovr : Bool
  sat : Bool
  deriving DecidableEq, Repr

/-- The control engine beside its registers (chapter 8). -/
structure CleSt where
  loops : List CleLoop
  queue : List CleJob
  lanes : List (Option (CleJob × Nat))
  /-- Committed sets: word k of set s of loop n at 128 n + 32 s + k; words that differ from 0 (R204). -/
  sets : List (Nat × Nat)
  /-- The commit that waits for its loop: loop, set and the 32 staged words (R206). -/
  commit : Option (Nat × Nat × List Nat)
  /-- Injection phase and LFSR (R215). -/
  phase : Nat
  lfsr : Nat
  /-- Capture entries: word w of entry i at 4 i + w, words that differ from 0; jobs to skip before the next (R216). -/
  cap : List (Nat × Nat)
  capSkip : Nat
  deriving DecidableEq, Repr

/-- What SPN does at the next PWM period boundary (R231, R235, R238). -/
inductive SpnAt
  | coast | skip
  deriving DecidableEq, Repr

/-- The spindle beside its registers (chapter 9). -/
structure SpnSt where
  /-- The 20 ms listen since, the present state's entry, the 1 s coast between attempts since. -/
  listenAt : Option Nat
  stateAt : Nat
  retryAt : Option Nat
  /-- The spin-up is a renewed one (R234); a START follows the next arrival in STOP, and whether it is a renewed one. -/
  renewed : Bool
  startNext : Option Bool
  /-- When the spin-up entered ALIGN (R234). -/
  alignAt : Nat
  /-- CATCH: it counts as a failure of START, ACCEL or RUN; loops run already; periods of them. -/
  catchStart : Bool
  catchRun : Bool
  catchPer : Nat
  /-- Speed reference in 1e-9 rpm; it slews at the SPDREF rate. -/
  ref : Nat
  refSlew : Bool
  corr : Int
  lockRun : Nat
  lossRun : Nat
  atRun : Nat
  okRun : Nat
  validRun : Nat
  disRun : Nat
  blend : Int
  /-- A supply loss has been declared since the last device reset (R231). -/
  lost : Bool
  uvRun : Nat
  ovRun : Nat
  balRun : Nat
  gateAt : Option Nat
  isAt : Option Nat
  isSeen : Bool
  below : Option Nat
  /-- COAST was entered for over-voltage (R239). -/
  ovCoast : Bool
  supLow : Option Nat
  supHigh : Option Nat
  fltLow : Bool
  rest : Option Nat
  holdRun : Nat
  /-- Level of SPM_EN, what the next boundary does, the PWM period in force. -/
  en : Bool
  next : Option SpnAt
  per : Nat
  idRef : Int
  iqRef : Int
  vd : Int
  vq : Int
  /-- Voltages applied in the period. -/
  duty : Int × Int
  samples : Nat
  speed : Nat
  /-- The observer's speed, 1/256 rpm, and its electrical angle, 1/65536 turn (R228). -/
  obsSpeed : Nat
  obsAngle : Nat
  /-- The Tether angle of the latest sample; stamps of the latest 65 samples and the advance of the active angle at each, in
  revolutions (R226). -/
  thPrev : Option Nat
  adv : List (Nat × Rat)
  /-- Stamp of the latest sample and the electrical angle of its transforms (R221, R222). -/
  samp : Nat × Nat
  /-- Phase currents after the Clarke transform, as fractions of IFS, and the applied voltages, of VBUS_FS (R228). -/
  iPrev : Rat × Rat
  vAb : Rat × Rat
  /-- High times of SPM_PU, SPM_PV and SPM_PW as fractions of the period (R221). -/
  phases : List Rat
  /-- The latest 46 bits of SPM_VSD, the newest in bit 0 (R220). -/
  vsd : Nat
  /-- SPDREF: the latest bad signal, revolution edges in phase in a row, and rising edges since the latest revolution edge
  (R243, R244). -/
  refBad : Nat
  syncRun : Nat
  refEdges : Nat
  /-- The state in which a containment reset found SPN, and whether a listen was in progress (R246). -/
  found : Option (Nat × Bool)
  deriving DecidableEq, Repr

/-- A reference input's band decoder: bad slots in a row, slots in a row with an amplitude out of range, frames in a row
that are invalid or out of sequence, valid frames in sequence in a row, the number of the latest valid frame, the failure
that still bars qualification, and frames in a row in which the conditions of R61 were met (R59, R61, R65); `seqRun`
counts valid frames in sequence whatever their amplitude, for lock (Table 3-2). -/
structure RefIn where
  badRun : Nat
  ampRun : Nat
  invRun : Nat
  validRun : Nat
  seqRun : Nat
  lastNum : Option Nat
  failed : Bool
  metRun : Nat
  deriving DecidableEq, Repr

/-- The TTH block beside its registers (chapter 3). -/
structure TthSt where
  refs : List RefIn
  /-- Good clock slots in a row on the active input. -/
  goodRun : Nat
  /-- The skew average in progress: first single-frame skew, sum of differences from it, frames (R67). -/
  skewBase : Nat
  skewSum : Int
  skewN : Nat
  /-- The input that a SELECT request names (R68). -/
  select : Option Nat
  /-- A declared loss whose clock switch is due: the state to enter, and the stamp of the declaration (R69). -/
  lossTo : Option (Nat × Nat)
  /-- Since when the 1 s of R72 and R80 runs. -/
  acqFrom : Option Nat
  /-- Stamp and Tether angle of the latest point of the angle (R78). -/
  angAt : Nat × Nat
  /-- Stamp of the latest index passage in lock (R79). -/
  lastIdx : Option Nat
  /-- Wedge timing: the active head, a head load is still due, marks in a row within ±2 clocks, marks in a row missing or
  outside ±8 clocks (R80). -/
  head : Option Nat
  unloaded : Bool
  marks : Nat
  missed : Nat
  /-- Frequency of the Tether PLL in Hz (R60). -/
  pllHz : Nat
  deriving DecidableEq, Repr

/-- A DEF_LOOKUP in progress: its key, the octet that takes the entry, and the table it searches (R147). -/
structure SeqLookup where
  key : Nat
  oct : Nat
  base : Nat
  count : Nat
  deriving DecidableEq, Repr

/-- A WAIT word that waits: the word, its address and when it issued (Table 6-5). -/
structure SeqWait where
  word : Nat
  addr : Nat
  since : Nat
  deriving DecidableEq, Repr

/-- A Caravan sequencer beside its registers (chapter 6). -/
structure SeqSt where
  /-- G0 to G15, LC, HSEL and the flags. -/
  g : List Nat
  lc : Nat
  hsel : Nat
  z : Bool
  n : Bool
  c : Bool
  /-- Return addresses, latest first. -/
  stack : List Nat
  /-- Task and completion queues, oldest first, four words an entry; the task words written so far (R155). -/
  tasks : List (List Nat)
  done : List (List Nat)
  stage : List Nat
  /-- Patch RAM: word at address 0x3000 + k by k; words that differ from 0 (R148, R149). -/
  patch : List (Nat × Nat)
  /-- The patch load of this start or activation has ended (R149). -/
  patchDone : Bool
  /-- A stop request by containment, Degrade or Limp (R157). -/
  stop : Bool
  wait : Option SeqWait
  /-- Words issued since the latest Waypoint poll, less those that a WAIT took (R158). -/
  sincePoll : Nat
  lookup : Option SeqLookup
  /-- KIND of the entry that the latest DEF_LOOKUP found. -/
  kind : Option Nat
  swapPend : Bool
  deriving DecidableEq, Repr

/-- A completion status: SCT × 256 + SC, and DNR, More and CRD where the manual states them (Table 12-16, R346). -/
structure Cst where
  code : Nat
  dnr : Option Bool
  more : Option Bool
  crd : Nat
  deriving DecidableEq, Repr

/-- How a command ended: status, completion Dwords 0 and 1, and the data it moved to host memory. -/
structure CmdRes where
  st : Cst
  dw0 : Nat
  dw1 : Nat
  data : List Byte
  deriving DecidableEq, Repr

/-- A posted completion queue entry, and the stamp of its posting (Table 1-5). -/
structure Cqe where
  sq : Nat
  cid : Nat
  sqhd : Nat
  res : CmdRes
  stamp : Nat
  deriving DecidableEq, Repr

/-- A slot of the shared command table: its number, controller, submission queue, entry and fetch stamp; what was in
force at the fetch; the statuses of steps 1 to 4, 5 and 6 to 7 of R340; and its progress. -/
structure CmdSlot where
  no : Nat
  ctrl : Nat
  sq : Nat
  e : Sqe
  stamp : Nat
  /-- Completion Stamp and ORDERED as known at the fetch, and the mode that R39 assigns. -/
  mode : Nat
  pre : Option Cst
  post : Option Cst
  /-- Reservation check: none yet, passed or failed (R336). -/
  resv : Option Bool
  /-- Its work has started; it has been handed to a sequencer; it has taken effect (R317, R334). -/
  started : Bool
  handed : Bool
  effect : Bool
  bufs : List Nat
  /-- Sectors that the command still waits for on the medium (R322). -/
  left : List Nat
  /-- A Flush that a deferred write error met (R325). -/
  failed : Bool
  res : Option CmdRes
  deriving DecidableEq, Repr

/-- A submission queue: identifier, entries, head, tail, completion queue, and ORDERED by the stamp of its Set. -/
structure SqSt where
  id : Nat
  size : Nat
  head : Nat
  tail : Nat
  cq : Nat
  ord : List (Nat × Bool)
  deriving DecidableEq, Repr

/-- A completion queue: identifier, entries, head, posted entries not yet freed, interrupt enable and vector. -/
structure CqSt where
  id : Nat
  size : Nat
  head : Nat
  posted : List Cqe
  ien : Bool
  vec : Nat
  deriving DecidableEq, Repr

/-- An asynchronous event: type, information, log page (Table 12-17). -/
structure AsyncEv where
  ty : Nat
  info : Nat
  page : Nat
  deriving DecidableEq, Repr

/-- A controller beside its registers. -/
structure Ctl where
  cc : Nat
  rdy : Bool
  cfs : Bool
  /-- CSTS.SHST, and the shutdown in progress: stamp of its CC write, and whether it is abrupt (R297). -/
  shst : Nat
  shut : Option (Nat × Bool)
  /-- CC.EN has been set and RDY waits for BOOT exit; CC.EN has been cleared and RDY waits for R332. -/
  enWait : Bool
  resetAt : Option Nat
  sqs : List SqSt
  cqs : List CqSt
  /-- Features by identifier, for values that differ from the default (R306). -/
  feats : List (Nat × Nat)
  /-- Timestamp feature: the host's value and the stamp of its Set. -/
  tsBase : Nat × Nat
  /-- Autonomous transition table: per power state, idle time in ms and the state entered. -/
  apst : List (Nat × Nat)
  hostId : Nat
  /-- Completion Stamp by the stamp of its Set, latest first (R308, R309). -/
  stampHist : List (Nat × Bool)
  nqAsked : Bool
  ioMade : Bool
  events : List AsyncEv
  /-- The queue served now in round robin and the entries left of its burst (R301). -/
  rr : Nat
  burst : Nat
  /-- Streams directive enabled, and open stream identifiers. -/
  streams : List Nat
  /-- MSI-X vectors raised. -/
  vecs : List Nat
  /-- Error Information entries, newest first, at most 64. -/
  errLog : List (Nat × Nat)
  deriving DecidableEq, Repr

/-- The reservation state of a namespace: registrants (host and key), holder, type, generation, persistence (R336). -/
structure Resv where
  regs : List (Nat × Nat)
  holder : Option Nat
  rtype : Nat
  gen : Nat
  ptpl : Bool
  deriving DecidableEq, Repr

/-- A namespace: size in blocks, format (0 4096+0, 1 4096+8, 2 512-byte emulation), PACKED, LINK_EN, default level, the
units it holds, attachment to both controllers, levels by the stamp of their Set, the entry stamp of an unreported
deferred error, and its reservation. -/
structure NsSt where
  id : Nat
  nsze : Nat
  fmt : Nat
  packed : Bool
  linkEn : Bool
  lvlDef : Nat
  units : List Nat
  att : List Bool
  lvl : List (Nat × Nat)
  pend : Option Nat
  resv : Resv
  deriving DecidableEq, Repr

/-- A 4,096-byte sector of the write cache: namespace, sector, the oldest write merged into it that is not on the medium,
the latest write of each logical block of it, its 4,104 bytes, its Depot handle, and the journal sequence number of the
Route Table change that holds it, while that is not durable (R322, R324, R366). -/
structure CacheSec where
  ns : Nat
  sec : Nat
  first : Nat
  stamps : List Nat
  bytes : List Byte
  handle : Nat
  journal : Option Nat
  /-- The stream identifiers of the writes merged into it; 0 for a write without one (R359). -/
  sids : List Nat
  deriving DecidableEq, Repr

/-- An entry of log page 0xC2 (Table 12-12). -/
structure DefErr where
  ns : Nat
  cause : Nat
  slba : Nat
  nlb : Nat
  stamp : Nat
  deriving DecidableEq, Repr

/-- The host side: controllers, command table, namespaces, cache and medium (chapters 12 and 13). -/
structure HifSt where
  ctls : List Ctl
  slots : List CmdSlot
  /-- Slots whose commands have ended and are not posted, in the order they ended (R303). -/
  ended : List Nat
  /-- Slots out of service (Table 15-1). -/
  badSlots : List Nat
  nss : List NsSt
  cache : List CacheSec
  /-- Content of the medium by namespace and sector, where it has been written. -/
  medium : List ((Nat × Nat) × List Byte)
  /-- Sectors of packed bands on the medium, by physical address (R352). -/
  phys : List (Nat × List Byte)
  /-- Unreadable logical blocks: namespace, LBA, and whether the mark lies in the system tracks (R328). -/
  unread : List (Nat × Nat × Bool)
  defErrs : List DefErr
  defTotal : Nat
  defLost : Nat
  destaging : Bool
  /-- Stamp of the completion of the latest I/O command (R323). -/
  ioDone : Nat
  /-- Firmware activation: fetch stamp and slot of the commit, the firmware slot (R335). -/
  activating : Option (Nat × Nat × Nat)
  /-- Lifetime counts: spin-up attempts, failures, load cycles, power-off retracts, Unsafe Shutdowns (R307, R330). -/
  counts : List Nat
  /-- Device Self-test: the code that runs (0 none), and the results of ended ones, newest first: code, result, stamp. -/
  selfTest : Nat
  selfLog : List (Nat × Nat × Nat)
  /-- Ports whose link training has started (R290). -/
  training : List Bool
  /-- The latest SMBus answer, its PEC aside. -/
  smb : List Byte
  /-- Bridle following errors since power-on, by head (Table 12-14). -/
  folErrs : List Nat
  deriving DecidableEq, Repr

/-- Reset values of a controller. -/
def Ctl.init : Ctl :=
  ⟨0, false, false, 0, none, false, none, [], [], [], (0, 0), [], 0, [], false, false, [], 0, 0, [], [], []⟩

/-- A step of a mode transition (R38, R40, R50, R54): the actuators still to load or unload, a destage, the power-up of
PD6, the run-up and the braking of the spindle. -/
inductive ModeStep
  | loads (rest : List Nat)
  | unloads (rest : List Nat)
  | destage
  | power
  | runUp
  | brake
  deriving DecidableEq, Repr

/-- The mode control beside its registers (chapter 2). -/
structure SysSt where
  /-- The rails are good; when the latest power domain or CH head group was powered. -/
  powerGood : Bool
  domAt : Nat
  /-- Operating mode, NVMe power state, the most recent operational one. -/
  opMode : Nat
  ps : Nat
  lastOp : Nat
  /-- Request stamp and precedence of the transition under way (R39, R40). -/
  reqStamp : Nat
  prec : Nat
  step : Option ModeStep
  /-- Tier of the ceiling while DEG is 1 (R43). -/
  ceiling : Option Nat
  /-- CAP values of a temperature limit, the power state and a Degrade (R37, R44). -/
  capTemp : Nat
  capPs : Nat
  capDeg : Nat
  /-- The target is an on-demand one (R46). -/
  onDemand : Bool
  lastIo : Nat
  spinNeeded : Bool
  /-- Since when both temperatures have been 5 °C below their limits. -/
  coolAt : Option Nat
  /-- Per sensor: reads in a row not acknowledged, and the latest reading with its stamp. -/
  envMiss : List Nat
  envVal : List (Option (Int × Nat))
  spinAt : Nat
  loadAt : Nat
  unloadAt : List (Option Nat)
  /-- Entries into each mode and time in it, ns, since power-on; when the present one was entered (Table 12-11). -/
  entries : List Nat
  times : List Nat
  enteredAt : Nat
  migBytes : Nat
  /-- Console lines: stamp, mode, reason. -/
  uart : List (Nat × Nat × Nat)
  /-- A Limp entry under way: whether its cause forbids a destage, and its start (R48, R401). -/
  limp : Option (Bool × Nat)
  /-- BOOT has been left (R429). -/
  booted : Bool
  /-- A trigger of lower precedence than the transition under way, with its reason, precedence and request stamp: it is
  acted on once that transition has ended (R40). -/
  later : Option (Nat × Nat × Nat)
  deriving DecidableEq, Repr

/-- What the KEYS record gives (Table 18-5). -/
structure SecKeys where
  methods : Nat
  lockN : Nat
  tmo : Nat
  salt : List Byte
  hash : Nat
  crKey : List Byte
  deriving DecidableEq, Repr

/-- An unlock path: the outstanding attempt (method, challenge, fetch stamp), since when it is unlocked, until which
operating time it is locked out (ms), and the length of its latest lockout in minutes (R433, R435, R436). -/
structure SecPath where
  chal : Option (Nat × Nat × Nat)
  unlockAt : Option Nat
  lockEnd : Option Nat
  lockLen : Nat
  deriving DecidableEq, Repr

/-- Boot, authentication and access control beside the registers (chapter 18). -/
structure SecuritySt where
  /-- Step of R429: 0 start, 1 boot record read, 2 Manifest streamed, 3 firmware streamed, 4 patch loaded, 5 Manifest
  authenticated, 6 BOOT left. -/
  step : Nat
  /-- Firmware slots still to try. -/
  tries : List Nat
  /-- The Manifest has passed every check. -/
  manOk : Bool
  keys : Option SecKeys
  /-- The body of the IDENTITY record; empty with none. -/
  ident : List Byte
  /-- Fuse array: MAKER_HASH and revoked certificate serials. -/
  makerHash : Nat
  revoked : List Nat
  paths : List SecPath
  /-- System area: retired buffers as pool × 2^20 + index (R266). -/
  retired : List Nat
  /-- The download buffer: whose it is, its bytes, and the end of a last piece (R430). -/
  dl : Option (Nat × List (Nat × Byte))
  dlEnd : Option Nat
  /-- TAP: instruction register, address of CRS_ADDR and whether a write waits for its data, the data register, and the result of the latest access. -/
  tapIr : Nat
  tapAddr : Nat
  tapWr : Bool
  tapOut : Nat
  tapRes : Nat
  deriving DecidableEq, Repr

/-- Work that a containment reset discarded and that firmware runs again once (R395): an armed sector of a head, a task of a
sequencer, a Depot or RTE request, a lane's job with the moment it started, and a Convoy channel with its CUR. -/
inductive LostWork
  | arm (h : Nat) (a : Arm)
  | task (a : Nat) (ws : List Nat)
  | dep (q : DepReq)
  | rte (q : RteReq)
  | comp (n since : Nat)
  | decomp (n since : Nat)
  | chan (e c cur : Nat)
  deriving DecidableEq, Repr

/-- Lost work by unit: what waits for the unit's return to service, and what has been run again. -/
structure LostSt where
  work : List (CUnit × LostWork)
  reran : List (CUnit × LostWork)
  deriving DecidableEq, Repr

/-- The state of the part. -/
structure State where
  /-- The device time base in ns (R29). -/
  now : Nat
  /-- The model's own counter of free values drawn; not the spec's. -/
  free : Nat
  /-- The register file: values that differ from reset, by CRS address (R9, R16). -/
  crs : List (Nat × Word)
  /-- The holding copies: upper halves by access path and NAME_LO address (R17). -/
  hold : List ((Path × Nat) × Word)
  /-- What the latest CRS read returned, and to which path (R9). -/
  rdOut : Option (Path × Nat)
  /-- How far the copy of the time base in each domain of Table 1-4 differs from the master (R30). -/
  tbDrift : List Int
  /-- The controller that was let in first at the latest fetch tie; controller 0 wins the first (R32). -/
  tieLast : Nat
  /-- Faults, containment and switchover (chapter 16). -/
  flt : FltSt
  /-- The Ledger recorder (chapter 17). -/
  ldg : LdgSt
  /-- The serial NOR, bytes that differ from 0xFF (Table 17-1, Table 18-1). -/
  nor : List (Nat × Byte)
  /-- Buffer memory, bytes that differ from 0 (R250) -/
  mem : List (Nat × Byte)
  /-- Buffer-memory and SRAM error state (chapters 10 and 15) -/
  ms : MemSt
  /-- The Depot (chapter 10) -/
  dep : DepSt
  /-- The Convoy engines (chapter 11) -/
  cvyEng : List CvyEng
  /-- The Convoy channels, engine e's channel c at 32 e + c -/
  cvyChan : List CvyChan
  /-- The control cores' on-chip data memory, bytes that differ from 0 (R274) -/
  dataMem : List (Nat × Byte)
  /-- The Route Table engine and the packed pool (chapter 14) -/
  rte : RteSt
  /-- The compressor lanes (chapter 14) -/
  comp : List CompLane
  /-- The decompressor lanes (chapter 14) -/
  decomp : List DecompLane
  /-- The 24 CH instances and head formatters (chapters 4 to 6) -/
  heads : List HeadSt
  /-- What the medium side has told the command side and is not yet acted on -/
  ioTodo : List IoEvent
  /-- Firmware's grown defect list: ADDR, KIND and LINK (R145) -/
  grown : List (Nat × Nat × Nat)
  /-- The LDPC pool (chapter 4) -/
  rdPool : PoolRd
  /-- The Darenlen links (chapter 19) -/
  dlk : List DlkLink
  /-- The Tether clock in Hz; 0 while it is not locked to the medium (R57) -/
  fTether : Nat
  /-- The servo (chapter 7) -/
  srv : SrvSt
  /-- The control engine (chapter 8) -/
  cle : CleSt
  /-- The spindle (chapter 9) -/
  spn : SpnSt
  /-- The Tether (chapter 3) -/
  tth : TthSt
  /-- The Caravan sequencers (chapter 6) -/
  seqs : List SeqSt
  /-- The host side (chapters 12 and 13) -/
  hif : HifSt
  /-- The mode control (chapter 2) -/
  sys : SysSt
  /-- Boot, authentication and access control (chapter 18) -/
  sec : SecuritySt
  /-- Work that containment resets discarded (R395) -/
  lost : LostSt
  /-- The commands that wait, first in, first out. -/
  pending : List Instr
  deriving DecidableEq, Repr

/-- Why a step can stop with a fault. No command of the table ends in one: every event the spec describes has an
effect, and an event whose condition the state does not meet changes nothing. -/
inductive Fault
  /-- Raised by nothing in this model; kept so that the type names the safe outcome. Safe: the model would stop where
  the part goes on. -/
  | impossible
  deriving DecidableEq, Repr

/-- Why a step can refuse. -/
inductive Refusal
  /-- Raised by an arm of `exec` whose command has no meaning yet. Safe: the model stops where the part goes on. -/
  | notModelled (mnemonic : String)
  deriving DecidableEq, Repr

/-- The state right after reset: every register at its reset value, before the first power-good, no command waiting. -/
def State.reset : State where
  now := 0
  free := 0
  crs := []
  hold := []
  rdOut := none
  tbDrift := List.replicate 40 0
  tieLast := 1
  flt := ⟨[], [], [], 0, none, [], [], [], [], 0, none, [], false, []⟩
  ldg := ⟨[], none, none, none, false, 0, 0, [], [], 0, false, 0, 0, 0, 0, false⟩
  nor := []
  mem := []
  ms := ⟨0, [], [], [], [], false⟩
  dep := ⟨List.replicate 4 ⟨[], 0, 0, false, 64⟩, [], none, none⟩
  cvyEng := List.replicate 4 ⟨.idle, 31, 0, 0, 0, [], 0, 0, 0, none⟩
  cvyChan := List.replicate 128 ⟨false, false, 0, 0, none, false, false⟩
  dataMem := []
  rte := ⟨[], none, [], [], 0, [], 0, false, none, [], [], 0⟩
  comp := List.replicate 8 ⟨[], [], 0, 0, 0, false, none⟩
  decomp := List.replicate 8 ⟨0, false⟩
  heads := List.replicate 24 HeadSt.init
  ioTodo := []
  grown := []
  rdPool := ⟨[], 0, [], [], 0, [], [], List.replicate 18 none, []⟩
  dlk := List.replicate 4 DlkLink.init
  fTether := 0
  srv := ⟨List.replicate 4 ActSv.init, List.replicate 24 HeadSv.init, List.replicate 2 ⟨0, 0, 0, none, none⟩⟩
  cle := ⟨List.replicate 30 ⟨List.replicate 4 0, List.replicate 4 0, 0, none, false, false⟩, [], [none, none], [], none, 0, 0x7FFF, [], 0⟩
  spn := ⟨none, 0, none, false, none, 0, false, false, 0, 0, false, 0, 0, 0, 0, 0, 0, 0, 0, false, 0, 0, 0, none, none, false, none, false, none, none, false, none, 0, false, none, 4167, 0, 0, 0, 0, (0, 0), 0, 0, 0, 0, none, [], (0, 0), (0, 0), (0, 0), [0, 0, 0], 0, 0, 0, 0, none⟩
  tth := ⟨List.replicate 2 ⟨0, 0, 0, 0, 0, none, false, 0⟩, 0, 0, 0, 0, none, none, none, (0, 0), none, none, true, 0, 0, 0⟩
  seqs := List.replicate 4 ⟨List.replicate 16 0, 0, 0, false, false, false, [], [], [], List.replicate 4 0, [], false, false, none, 0, none, none, false⟩
  hif := ⟨[Ctl.init, Ctl.init], [], [], [], [], [], [], [], [], [], 0, 0, false, 0, none, List.replicate 5 0, 0, [], [false, false], [], List.replicate 24 0⟩
  sys := ⟨false, 0, 1, 0, 0, 0, 9, none, none, 0, 0, 0, false, 0, false, none, List.replicate 4 0, List.replicate 4 none, 0, 0, List.replicate 4 none, List.replicate 16 0, List.replicate 16 0, 0, 0, [], none, false, none⟩
  sec := ⟨0, [], false, none, [], 0, [], List.replicate 2 ⟨none, none, none, 0⟩, [], none, none, 2, 0, false, 0, 0⟩
  lost := ⟨[], []⟩
  pending := []

end Sys2Proof.Machine
end

