-- ==== Sys2Proof/Machine/Store.lean ====
section
/-!
DEFINITION. Sparse data by key in one canonical form: a list of key and value pairs, keys strictly rising, no entry
equal to what an unlisted key reads as. Registers, buffer memory and the serial NOR are kept this way.
-/

namespace Sys2Proof.Machine

/-- The value at key `k`; an unlisted key reads as `d k`. -/
def amGet {α : Type} (d : Nat → α) : List (Nat × α) → Nat → α
  | [], k => d k
  | (a, v) :: m, k => if a = k then v else amGet d m k

/-- Puts the pair `(k, v)` in its place. -/
def amPut {α : Type} : List (Nat × α) → Nat → α → List (Nat × α)
  | [], k, v => [(k, v)]
  | (a, w) :: m, k, v =>
    if k < a then (k, v) :: (a, w) :: m
    else if a = k then (k, v) :: m
    else (a, w) :: amPut m k v

/-- Takes key `k` out. -/
def amDel {α : Type} : List (Nat × α) → Nat → List (Nat × α)
  | [], _ => []
  | (a, w) :: m, k => if a = k then amDel m k else (a, w) :: amDel m k

/-- Writes `v` at key `k`; the value an unlisted key reads as takes the entry out. -/
def amSet {α : Type} [DecidableEq α] (d : Nat → α) (m : List (Nat × α)) (k : Nat) (v : α) : List (Nat × α) :=
  if v = d k then amDel m k else amPut m k v

/-- Every key of the list lies above `k`. -/
def amAbove {α : Type} (k : Nat) (m : List (Nat × α)) : Bool := m.all (fun e => decide (k < e.1))

/-- The canonical form. -/
def amWf {α : Type} [DecidableEq α] (d : Nat → α) : List (Nat × α) → Bool
  | [] => true
  | (a, v) :: m => !decide (v = d a) && amAbove a m && amWf d m

end Sys2Proof.Machine
end

