-- ==== Sys2Proof/Machine/Ops.lean ====
section
/-!
DEFINITION. The named operations over the register file and the memories: register fields, access paths, power gating,
64-bit pairs, buffer memory and free values.
-/

namespace Sys2Proof.Machine

open Sys2Proof

/-! ### Registers and fields -/

/-- The stored value of the register at address `a`. -/
def State.rd (s : State) (a : Nat) : Word := amGet regReset s.crs a

/-- Stores a register value. -/
def State.wr (s : State) (a : Nat) (v : Word) : State := { s with crs := amSet regReset s.crs a v }

/-- The value of a field (R3). -/
def State.get (s : State) (f : Fld) : Nat := bitsOf (s.rd f.addr).toNat f.lo f.width

/-- Sets a field, the other bits of its register unchanged. -/
def State.set (s : State) (f : Fld) (x : Nat) : State :=
  s.wr f.addr (BitVec.ofNat 32 (putBits (s.rd f.addr).toNat f.lo f.width x))

/-- A one-bit field as a truth value. -/
def State.flag (s : State) (f : Fld) : Bool := s.get f == 1

/-- Sets a one-bit field. -/
def State.setFlag (s : State) (f : Fld) (b : Bool) : State := s.set f (b2n b)

/-- A field as a two's complement integer. -/
def State.getInt (s : State) (f : Fld) : Int := signedOf (s.get f) f.width

/-- Sets a field to a two's complement integer. -/
def State.setInt (s : State) (f : Fld) (x : Int) : State := s.set f (unsignedOf x f.width)

/-- Adds `k` to a counter field that saturates at all ones. -/
def State.bump (s : State) (f : Fld) (k : Nat) : State := s.set f (satN (s.get f + k) (2 ^ f.width - 1))

/-- Sets bits of a field that are 1 in `m`. -/
def State.orBits (s : State) (f : Fld) (m : Nat) : State := s.set f (Nat.lor (s.get f) m)

/-- Clears bits of a field that are 1 in `m`. -/
def State.clrBits (s : State) (f : Fld) (m : Nat) : State := s.set f (s.get f - Nat.land (s.get f) m)

/-- A 64-bit pair NAME_LO, NAME_HI as stored, NAME_LO at address `lo` (R17). -/
def State.get64 (s : State) (lo : Nat) : Nat := (s.rd lo).toNat + 2 ^ 32 * (s.rd (lo + 4)).toNat

/-- Stores a 64-bit pair. -/
def State.set64 (s : State) (lo : Nat) (v : Nat) : State :=
  (s.wr lo (BitVec.ofNat 32 v)).wr (lo + 4) (BitVec.ofNat 32 (v / 2 ^ 32))

/-! ### Free values -/

/-- The next free value, and the state with the draw counted. -/
def State.draw (s : State) : Nat × State := (Config.freeNat s.free, { s with free := s.free + 1 })

/-- `n / d` where the manual states no rounding: exact where it divides, else either neighbour, a free choice. -/
def State.openDiv (s : State) (n : Int) (d : Nat) : Int × State :=
  if n % (d : Int) = 0 then (n / (d : Int), s)
  else
    let (x, s1) := s.draw
    (n / (d : Int) + ((x % 2 : Nat) : Int), s1)

/-- `n / d` rounded to the nearest integer; on a tie either neighbour, a free choice. -/
def State.nearDiv (s : State) (n : Int) (d : Nat) : Int × State :=
  if (2 * n) % (2 * d : Int) = (d : Int) then s.openDiv n d
  else ((2 * n + (d : Int)) / (2 * d : Int), s)

/-! ### Access paths (R21, R432) -/

/-- SYS_MODE.MODE codes (Table 2-1). -/
def mBOOT : Nat := 0
def mPARKED : Nat := 1
def mSPINUP : Nat := 2
def mIDLE : Nat := 3
def mSINGLE : Nat := 4
def mBALANCED : Nat := 5
def mPARALLEL : Nat := 6
def mARCHIVE : Nat := 7
def mMIGRATE : Nat := 8
def mHERITAGE : Nat := 9
def mLIMP : Nat := 10
def mWORKSHOP : Nat := 11

/-- SYS_MODE.MODE. -/
def State.mode (s : State) : Nat := s.get R.SYS_MODE_MODE

/-- RWL fields take a write on this path now (R432). -/
def State.pathUnlocked (s : State) : Path → Bool
  | .core => s.flag R.SEC_STAT_HOST_UNLOCKED || s.flag R.SEC_STAT_DBG_UNLOCKED
  | .win0 => s.flag R.SEC_STAT_HOST_UNLOCKED
  | .win1 => s.flag R.SEC_STAT_HOST_UNLOCKED
  | .debug => s.flag R.SEC_STAT_DBG_UNLOCKED

/-- Writes on this path take effect now (R21, R432). -/
def State.pathWrites (s : State) : Path → Bool
  | .core => true
  | .win0 => s.mode == mWORKSHOP && s.flag R.SEC_STAT_HOST_UNLOCKED
  | .win1 => s.mode == mWORKSHOP && s.flag R.SEC_STAT_HOST_UNLOCKED
  | .debug => s.mode == mWORKSHOP && s.flag R.SEC_STAT_DBG_UNLOCKED

/-- Reads on this path are served now (R432). -/
def State.pathReads (s : State) : Path → Bool
  | .debug => s.flag R.SEC_STAT_DBG_UNLOCKED
  | _ => true

/-! ### Power gating and units that do not answer (R22, Table 2-10) -/

/-- The registers at address `a` lie in a power domain or CH head group that is not powered. -/
def State.gated (s : State) (a : Nat) : Bool :=
  let pd := s.get R.SYS_PWR_STAT_PD
  if a < 0x02000000 then false
  else if a < 0x02400000 then !bitOf (s.get R.SYS_PWR_STAT_CHG) ((a - 0x02000000) / 0x10000 / 4)
  else if a < 0x02500000 then false
  else if a < 0x03400000 then !bitOf pd 4
  else if a < 0x04000000 then !bitOf pd 5
  else if a < 0x04200000 then !bitOf pd 4
  else if a < 0x05000000 then !bitOf pd 2
  else if a < 0x05100000 then !bitOf pd 3
  else if a < 0x06000000 then !bitOf pd 4
  else if a < 0x06200000 then false
  else if a < 0x06300000 then !bitOf pd 5
  else false

/-- The containment unit that answers for the register at address `a`, where one does (Table 16-3). -/
def unitOfAddr (a : Nat) : Option CUnit :=
  if 0x02000000 ≤ a ∧ a < 0x02180000 then some (.ch ((a - 0x02000000) / 0x10000))
  else if 0x02500000 ≤ a ∧ a < 0x02620000 then some (.dec ((a - 0x02500000) / 0x10000))
  else if 0x03000000 ≤ a ∧ a < 0x03400000 then some (.seq ((a - 0x03000000) / 0x100000))
  else if 0x03500000 ≤ a ∧ a < 0x03600000 then some .cle
  else if 0x03600000 ≤ a ∧ a < 0x04000000 then some .spn
  else if 0x04000000 ≤ a ∧ a < 0x04100000 then some .dep
  else if 0x04100100 ≤ a ∧ a < 0x04100200 then some (.cvy ((a - 0x04100100) / 0x40))
  else if 0x04101000 ≤ a ∧ a < 0x04103000 then some (.cvy ((a - 0x04101000) / 0x800))
  else if 0x05100000 ≤ a ∧ a < 0x05200000 then some .rte
  else if 0x05201000 ≤ a ∧ a < 0x05201200 then some (.comp ((a - 0x05201000) / 0x40))
  else if 0x05202000 ≤ a ∧ a < 0x05202200 then some (.decomp ((a - 0x05202000) / 0x40))
  else none

/-- The unit is in containment reset. -/
def State.inReset (s : State) (u : CUnit) : Bool := s.flt.resets.any (fun e => decide (e.1 = u))

/-- The unit that holds the register at `a` does not answer. -/
def State.silent (s : State) (a : Nat) : Bool :=
  match unitOfAddr a with
  | some u => s.inReset u
  | none => false

/-- CH instance `h` is powered (Table 2-10). -/
def State.chPowered (s : State) (h : Nat) : Bool := bitOf (s.get R.SYS_PWR_STAT_CHG) (h / 4)

/-! ### Small list tools -/

/-- The count of a code in a sparse list of counts. -/
def cnt (m : List (Nat × Nat)) (k : Nat) : Nat := amGet (fun _ => 0) m k

/-- Sets the count of a code; 0 takes the entry out. -/
def setCnt (m : List (Nat × Nat)) (k v : Nat) : List (Nat × Nat) := amSet (fun _ => 0) m k v

/-- One stamp from two points of time: true when `p` ns or more have passed since `t`. -/
def State.passed (s : State) (t p : Nat) : Bool := decide (t + p ≤ s.now)

/-! ### Byte memories -/

/-- A byte of a sparse byte memory whose unlisted bytes read as `d`. -/
def byteAt (d : Byte) (m : List (Nat × Byte)) (a : Nat) : Byte := amGet (fun _ => d) m a

/-- `n` bytes from `a` upwards. -/
def bytesAt (d : Byte) (m : List (Nat × Byte)) (a n : Nat) : List Byte := (List.range n).map (fun i => byteAt d m (a + i))

/-- Writes bytes from `a` upwards. -/
def putBytes (d : Byte) : List (Nat × Byte) → Nat → List Byte → List (Nat × Byte)
  | m, _, [] => m
  | m, a, b :: bs => putBytes d (amSet (fun _ => d) m a b) (a + 1) bs

end Sys2Proof.Machine
end

