-- ==== Sys2Proof/Machine/Faults.lean ====
section
/-!
DEFINITION. Setting a fault source (R386), the applied level (R388, R391), the summary tree and ATTN_N (R390, R391).
-/

namespace Sys2Proof.Machine

open Sys2Proof

/-- The mask register's value; ALIGN_ERR has no mask (R390). -/
def State.fltMask (s : State) (r : FltReg) : Nat :=
  match r.maskAddr with
  | some a => (s.rd a).toNat
  | none => 0

/-- The unmasked sources of the register that are set: status AND NOT mask. -/
def State.fltLive (s : State) (r : FltReg) : Nat :=
  let v := (s.rd r.statAddr).toNat % 2 ^ r.srcBits
  v - Nat.land v (s.fltMask r)

/-- The level applied to a source: its severity, Contain acting as Degrade where no unit holds the source (R388). -/
def State.appliedLevel (s : State) (r : FltReg) (b : Nat) : Nat :=
  let v := s.get (r.sevFld b)
  if v = 2 ∧ r.unitOf b = none then 3 else v

/-- The sources of `r` that are set and unmasked, with their applied levels. -/
def State.liveSrcs (s : State) (r : FltReg) : List (Nat × Nat) :=
  (setBits (s.fltLive r) r.srcBits).map (fun b => (b, s.appliedLevel r b))

/-- ATTN_N is to be asserted: a set, unmasked source at or above LEVEL, or a safe stop (R391, R399). -/
def State.attnCond (s : State) : Bool :=
  s.flt.safeStop || allFltRegs.any (fun r =>
    s.fltLive r != 0 && (s.liveSrcs r).any (fun e => decide (s.get R.FLT_ATTN_LEVEL_LEVEL ≤ e.2)))

/-- Asserts ATTN_N (R391). -/
def State.attnAssert (s : State) : State :=
  match s.flt.attnAt with
  | some _ => s
  | none => ({ s with flt := { s.flt with attnAt := some s.now } }).set R.FLT_ATTN_LEVEL_PIN 1

/-- Takes the actions of sources that became set and unmasked: they wait to be acted on in `todo`, ATTN_N is asserted at
once where a level asks for it. -/
def State.riseSrcs (s : State) (r : FltReg) (bits : List Nat) : State :=
  match bits with
  | [] => s
  | _ =>
    let srcs := bits.map (fun b => (b, s.appliedLevel r b))
    let s1 : State :=
      { s with flt := { s.flt with todo := s.flt.todo ++ [⟨r, (s.rd r.statAddr).toNat, srcs, s.now⟩] } }
    if srcs.any (fun e => decide (s.get R.FLT_ATTN_LEVEL_LEVEL ≤ e.2)) then s1.attnAssert else s1

/-- Sets status bits of `r` (those 1 in `m`). Each source whose (status AND NOT mask) rises takes its severity action
once (R386); a bit that is already 1 takes none. -/
def State.setFault (s : State) (r : FltReg) (m : Nat) : State :=
  let old := (s.rd r.statAddr).toNat
  let s1 := s.wr r.statAddr (BitVec.ofNat 32 (Nat.lor old m))
  let fresh := m - Nat.land m old
  let rising := fresh - Nat.land fresh (s.fltMask r)
  s1.riseSrcs r (setBits rising r.srcBits)

/-- Sets one status bit. -/
def State.fault (s : State) (r : FltReg) (b : Nat) : State := s.setFault r (2 ^ b)

/-- The status bit is set. -/
def State.faultIs (s : State) (r : FltReg) (b : Nat) : Bool := bitOf (s.rd r.statAddr).toNat b

/-- Clears status bits of `r` that no cause holds (R10, R400); an interrupt whose sources are gone ends. -/
def State.clearFault (s : State) (r : FltReg) (m cause : Nat) : State :=
  let old := (s.rd r.statAddr).toNat
  let gone := m - Nat.land m cause
  let s1 := s.wr r.statAddr (BitVec.ofNat 32 (old - Nat.land old gone))
  if s1.fltLive r = 0 then { s1 with flt := { s1.flt with irqs := s1.flt.irqs.filter (fun q => !decide (q = r)) } }
  else s1

/-! ### The summary tree (R390, Tables 16-7 and 16-8): live values -/

/-- FLT_SUM_CH: the heads with a set, unmasked source. -/
def State.sumCh (s : State) : Nat :=
  (List.range 24).foldl (fun n h => if s.fltLive (.chRd h) ≠ 0 ∨ s.fltLive (.chWr h) ≠ 0 then n + 2 ^ h else n) 0

/-- FLT_SUM_LDPC: the decoders with a set, unmasked source. -/
def State.sumLdpc (s : State) : Nat :=
  (List.range 18).foldl (fun n i => if s.fltLive (.ldpc i) ≠ 0 then n + 2 ^ i else n) 0

/-- FLT_SUM_SEQ: the sequencers with a set, unmasked source. -/
def State.sumSeq (s : State) : Nat :=
  (List.range 4).foldl (fun n a => if s.fltLive (.seq a) ≠ 0 then n + 2 ^ a else n) 0

/-- The highest applied level among set, unmasked sources. -/
def State.maxLevel (s : State) : Nat :=
  allFltRegs.foldl (fun m r => (s.liveSrcs r).foldl (fun k e => max k e.2) m) 0

/-- FLT_SUM0 (Table 16-7). -/
def State.sum0 (s : State) : Nat :=
  let blk := (allFltRegs.take 18).foldl (fun n r => if s.fltLive r ≠ 0 then Nat.lor n (2 ^ r.sumBit) else n) 0
  let n := blk + b2n (s.sumCh != 0) * 2 ^ 16 + b2n (s.sumLdpc != 0) * 2 ^ 17 + b2n (s.sumSeq != 0) * 2 ^ 18
  if n = 0 then 0 else n + s.maxLevel * 2 ^ 24 + 2 ^ 27

end Sys2Proof.Machine
end

