-- ==== Sys2Proof/Machine/Ledger.lean ====
section
/-!
DEFINITION. The Ledger recorder of chapter 17: raising and limiting records, the queue, the two page programs of a
record, sectors and erases, the BOOT scan and the readout.
-/

namespace Sys2Proof.Machine

open Sys2Proof

/-! ### The serial NOR (Table 17-1) -/

/-- First NOR address of the Founding area. -/
def norFounding : Nat := 0x2000000

/-- First NOR address of the Rolling area. -/
def norRolling : Nat := 0x2100000

/-- A NOR byte; a byte never programmed reads 0xFF. -/
def State.norByte (s : State) (a : Nat) : Byte := byteAt 0xFF s.nor a

/-- NOR bytes. -/
def State.norBytes (s : State) (a n : Nat) : List Byte := bytesAt 0xFF s.nor a n

/-- Programs NOR bytes: a program only clears bits. -/
def norProgram (m : List (Nat × Byte)) (a : Nat) (bs : List Byte) : List (Nat × Byte) :=
  putBytes 0xFF m a (bs.zipIdx.map (fun e => e.1 &&& byteAt 0xFF m (a + e.2)))

/-- Erases the NOR bytes from `a` to `a + n - 1`: they read 0xFF. -/
def norErase (m : List (Nat × Byte)) (a n : Nat) : List (Nat × Byte) :=
  m.filter (fun e => decide (e.1 < a) || decide (a + n ≤ e.1))

/-- The NOR bytes from `a` to `a + n - 1` all read 0xFF. -/
def State.norBlank (s : State) (a n : Nat) : Bool :=
  s.nor.all (fun e => decide (e.1 < a) || decide (a + n ≤ e.1))

/-! ### The record (Table 17-2) -/

/-- The record's length in bytes: 32 and the payload, rounded up to 8. -/
def recLen (r : LdgRec) : Nat := 32 + (r.payload.length + 7) / 8 * 8

/-- The payload with its unused bytes at 0x00. -/
def recPayload (r : LdgRec) : List Byte :=
  r.payload ++ List.replicate (recLen r - 32 - r.payload.length) 0

/-- The bytes of a record as its first page program leaves them, STATE 0xF0 (R408). -/
def recBytes (r : LdgRec) (rseq pcyc optime flags : Nat) : List Byte :=
  let body := [BitVec.ofNat 8 (recLen r / 8)] ++ leBytes 2 r.code ++ leBytes 4 rseq ++ leBytes 4 pcyc
    ++ leBytes 6 optime ++ leBytes 2 r.supp ++ leBytes 8 r.stamp ++ [BitVec.ofNat 8 flags, 0xFF]
  let p := recPayload r
  [0xF0] ++ body ++ leBytes 2 (crc16 (body ++ p)) ++ p

/-- The bytes of a Rolling sector's header page before its STATE is programmed (R411). -/
def headerBytes (sseq : Nat) : List Byte :=
  let q := leBytes 4 sseq
  [0xFF, 0xFF, 0xFF, 0xFF] ++ q ++ leBytes 2 (crc16 q)

/-! ### Raising a record (R413, R414) -/

/-- Codes that the rate limit never touches (R413). -/
def ldgUnlimited (code : Nat) (founding : Bool) : Bool :=
  founding || code == 0x2003 || (1 ≤ code && code ≤ 7)

/-- Codes of Founding class (Table 17-4). -/
def ldgFounding (code : Nat) : Bool :=
  (0x0101 ≤ code && code ≤ 0x0104) || (0x01F0 ≤ code && code ≤ 0x01FF)

/-- The queue's length as LDG_STAT.QUEUED reports it. -/
def State.ldgCount (s : State) : State := s.set R.LDG_STAT_QUEUED s.ldg.queue.length

/-- A raise that is dropped (R414). -/
def State.ldgDrop (s : State) : State :=
  let s1 := (s.bump R.LDG_DROP_COUNT 1)
  ({ s1 with ldg := { s1.ldg with lost := s1.ldg.lost + 1 } }).fault .ldg 2

/-- The operating time at a stamp, ms (R409). -/
def State.optimeAt (s : State) (stamp : Nat) : Nat := s.ldg.optBase + stamp / 1000000

/-- Queues a record; `front` puts it at the head (R415). -/
def State.ldgQueue (s : State) (r : LdgRec) (front : Bool) : State :=
  if front then ({ s with ldg := { s.ldg with queue := r :: s.ldg.queue } }).ldgCount
  else if 128 ≤ s.ldg.queue.length then s.ldgDrop
  else ({ s with ldg := { s.ldg with queue := s.ldg.queue ++ [r] } }).ldgCount

/-! ### Writing (R407, R408, R410, R411) -/

/-- The write position after a record of `len` bytes may start at `pos`: the same page, or the next (R407). -/
def fitPage (pos len : Nat) : Nat := if pos % 256 + len ≤ 256 then pos else (pos / 256 + 1) * 256

/-- Starts the two programs of a record at NOR address `addr`: it takes the next RSEQ (R414). -/
def State.ldgProgram (s : State) (r : LdgRec) (addr flags : Nat) (retry : Bool) : State :=
  let bs := recBytes r (s.get R.LDG_RSEQ_RSEQ) (s.get R.LDG_PCYC_PCYC) (s.optimeAt r.stamp) flags
  ({ s with ldg := { s.ldg with job := some ⟨.record r, addr, bs, false, retry⟩ } }).set R.LDG_STAT_STATE 2

/-- Starts the header page of Rolling sector `k`. -/
def State.ldgHeader (s : State) (k : Nat) (retry : Bool) : State :=
  let bs := headerBytes (s.ldg.sseq + 1)
  ({ s with ldg := { s.ldg with job := some ⟨.header k, norRolling + k * 65536, bs, false, retry⟩ } }).set
    R.LDG_STAT_STATE 2

/-- Begins the erase of Rolling sector `k`. -/
def State.ldgErase (s : State) (k : Nat) : State :=
  let s1 : State := { s with ldg := { s.ldg with erasing := some k, ahead := none } }
  if s1.ldg.job.isNone then s1.set R.LDG_STAT_STATE 3 else s1

/-- The state the port shows while it programs nothing: an erase goes on or resumes, else IDLE. -/
def State.ldgRest (s : State) : State :=
  s.set R.LDG_STAT_STATE (if s.ldg.erasing.isSome then 3 else 1)

/-- Places one record in the Rolling area: in the sector in use where it fits, else in the erased sector ahead, whose
header is programmed first; it waits while no erased sector is ahead (R411). -/
def State.ldgRoll (s : State) (r : LdgRec) (spilled retry : Bool) : State :=
  let pos := s.get R.LDG_PTR_OFS
  let p := fitPage pos (recLen r)
  let k := s.get R.LDG_STAT_SECT
  let flags := b2n r.founding + 2 * b2n spilled
  if s.ldg.opened && decide (k * 65536 ≤ p) && p + recLen r ≤ (k + 1) * 65536 then
    (s.set R.LDG_PTR_OFS (p + recLen r)).ldgProgram r (norRolling + p) flags retry
  else
    let s1 : State := { s with ldg := { s.ldg with queue := r :: s.ldg.queue, retrying := retry } }
    match s.ldg.ahead with
    | some n => (s1.ldgHeader n false).ldgCount
    | none => s1.ldgCount.ldgRest

/-- The Founding area is written up to `p`; it has room below its end (Table 17-6). -/
def State.setFptr (s : State) (p : Nat) : State :=
  (s.set R.LDG_FPTR_OFS p).setFlag R.LDG_STAT_FOUND_OPEN (decide (p < 0x100000))

/-- Places one record: a Founding record in the Founding area while it has room, every other in the Rolling area
(R410). -/
def State.ldgPlace (s : State) (r : LdgRec) (retry : Bool) : State :=
  if r.founding then
    let p := fitPage (s.get R.LDG_FPTR_OFS) (recLen r)
    if s.flag R.LDG_STAT_FOUND_OPEN && p + recLen r ≤ 0x100000 then
      (s.setFptr (p + recLen r)).ldgProgram r (norFounding + p) 1 retry
    else ((s.setFlag R.LDG_STAT_FOUND_OPEN false).fault .ldg 1).ldgRoll r true retry
  else s.ldgRoll r false retry

/-- A DROP record that tells how many records were lost, once the queue has room again (R414). -/
def State.ldgLost (s : State) : State :=
  if s.ldg.lost ≠ 0 ∧ s.ldg.queue.length < 128 then
    let r : LdgRec := ⟨0x0006, leBytes 4 s.ldg.lost, s.now, 0, false⟩
    ({ s with ldg := { s.ldg with lost := 0 } }).ldgQueue r false
  else s

/-- Takes the record at the head of the queue when the port is free (R414). -/
def State.ldgKick (s : State) : State :=
  if s.get R.LDG_STAT_STATE = 0 then s
  else match s.ldg.job with
    | some _ => s
    | none =>
      match s.ldg.queue with
      | [] => s.ldgRest
      | r :: rest =>
        let s1 : State := { s with ldg := { s.ldg with queue := rest, retrying := false } }
        s1.ldgCount.ldgLost.ldgPlace r s.ldg.retrying

/-- Raises a record (R413, R414, R415): dropped while recording is off, limited by its code's bucket, else queued. -/
def State.ldgRaise (s : State) (code : Nat) (payload : List Byte) : State :=
  let founding := ldgFounding code
  if !s.flag R.LDG_CTRL_EN then s.ldgDrop
  else if ldgUnlimited code founding then (s.ldgQueue ⟨code, payload, s.now, 0, founding⟩ false).ldgKick
  else if cnt s.ldg.spent code < s.get R.LDG_RATE_BURST then
    let k := cnt s.ldg.supp code
    let s1 : State := { s with ldg := { s.ldg with
      spent := setCnt s.ldg.spent code (cnt s.ldg.spent code + 1), supp := setCnt s.ldg.supp code 0 } }
    (s1.ldgQueue ⟨code, payload, s.now, k, founding⟩ false).ldgKick
  else { s with ldg := { s.ldg with supp := setCnt s.ldg.supp code (satN (cnt s.ldg.supp code + 1) 65535) } }

/-- Raises the power-loss or safe-stop record at the head of the queue, at most once per power cycle and even while
recording is off (R415). -/
def State.ldgLastWord (s : State) (code : Nat) (payload : List Byte) : State :=
  if s.ldg.lastWord then s
  else
    let s1 : State := { s with ldg := { s.ldg with lastWord := true } }
    (s1.ldgQueue ⟨code, payload, s.now, 0, false⟩ true).ldgKick

/-- A PROTOCOL record for a partner's violation (Table 16-5, Table 17-4). -/
def State.ldgProtocol (s : State) (partner inst : Nat) : State :=
  s.ldgRaise 0x2005 ([BitVec.ofNat 8 partner, BitVec.ofNat 8 inst] ++ leBytes 2 (Config.protocolDetail partner inst))

/-! ### What finishes at the NOR port -/

/-- A page program of the job has finished: the second program follows the first; a record then counts as written and
the next is taken; a finished header opens its sector and starts the next erase (R408, R411, R414). -/
def State.ldgProgramDone (s : State) : State :=
  match s.ldg.job with
  | none => s
  | some j =>
    if !j.second then
      { s with nor := norProgram s.nor j.addr j.bytes, ldg := { s.ldg with job := some { j with second := true } } }
    else
      let s1 : State := { s with nor := norProgram s.nor j.addr [0x30], ldg := { s.ldg with job := none } }
      match j.what with
      | .record _ => ((s1.set R.LDG_RSEQ_RSEQ (s.get R.LDG_RSEQ_RSEQ + 1)).ldgKick)
      | .header k =>
        let s2 : State := { s1 with ldg := { s1.ldg with opened := true, sseq := s1.ldg.sseq + 1 } }
        (((s2.set R.LDG_STAT_SECT k).set R.LDG_PTR_OFS (k * 65536 + 0x100)).ldgErase ((k + 1) % 128)).ldgKick

/-- A page program failed (Table 17-5): what it left in the page is open; a record is retried once at the next page and
then dropped with NOR_ERR; a sector whose header fails twice is left without a valid header and the next is erased. -/
def State.ldgProgramFail (s : State) : State :=
  match s.ldg.job with
  | none => s
  | some j =>
    let (x, s0) := s.draw
    let junk := (if j.second then [(0x30 : Byte)] else j.bytes).zipIdx.map
      (fun e => e.1 ||| BitVec.ofNat 8 (x / 256 ^ e.2))
    let s1 : State := { s0 with nor := norProgram s0.nor j.addr junk, ldg := { s0.ldg with job := none } }
    match j.what with
    | .record r =>
      if j.retry then ((s1.fault .ldg 0).ldgDrop).ldgKick
      else if r.founding && j.addr < norRolling then
        (s1.setFptr (((j.addr - norFounding) / 256 + 1) * 256)).ldgPlace r true
      else (s1.set R.LDG_PTR_OFS (((j.addr - norRolling) / 256 + 1) * 256)).ldgRoll r false true
    | .header k =>
      if j.retry then ((s1.fault .ldg 0).ldgErase ((k + 1) % 128)).ldgRest
      else s1.ldgHeader k true

/-- The erase of the sector ahead has finished; one that failed leaves no valid header (its first byte is free, but
not 0x30), sets NOR_ERR, and the sector after it is erased instead (R411). -/
def State.ldgEraseDone (s : State) (ok : Bool) : State :=
  match s.ldg.erasing with
  | none => s
  | some k =>
    if ok then
      let s1 : State := { s with
        nor := norErase s.nor (norRolling + k * 65536) 65536, ldg := { s.ldg with erasing := none, ahead := some k } }
      if s1.ldg.job.isSome then s1 else s1.ldgRest.ldgKick
    else
      let (x, s1) := s.draw
      let b : Byte := if x % 256 = 0x30 then 0 else BitVec.ofNat 8 x
      (({ s1 with nor := norProgram (norErase s1.nor (norRolling + k * 65536) 1) (norRolling + k * 65536) [b],
                  ldg := { s1.ldg with erasing := none } } : State).fault .ldg 0).ldgErase ((k + 1) % 128)

/-! ### The BOOT scan (R412) -/

/-- What the scan meets at one place: a valid record (its RSEQ, PCYC and OPTIME), or an unfinished one. -/
inductive ScanItem
  | valid (rseq pcyc optime : Nat)
  | unfinished
  deriving DecidableEq, Repr

/-- The scan of one area from NOR address `p` to `e`, at most `fuel` places (R412). -/
def State.scanArea (s : State) : Nat → Nat → Nat → List ScanItem
  | 0, _, _ => []
  | fuel + 1, p, e =>
    if e ≤ p then []
    else if p % 256 = 0 ∧ s.norBlank p 256 then []
    else
      let st := (s.norByte p).toNat
      let len := (s.norByte (p + 1)).toNat
      let next := (p / 256 + 1) * 256
      if (st = 0x30 ∨ st = 0xF0) ∧ 4 ≤ len ∧ len ≤ 32 then
        let bs := s.norBytes p (8 * len)
        let ok := ofLeBytes ((bs.drop 30).take 2) = crc16 ((bs.drop 1).take 29 ++ bs.drop 32)
        if st = 0x30 ∧ ok then
          .valid (ofLeBytes ((bs.drop 4).take 4)) (ofLeBytes ((bs.drop 8).take 4)) (ofLeBytes ((bs.drop 12).take 6))
            :: s.scanArea fuel (p + 8 * len) e
        else .unfinished :: s.scanArea fuel (p + 8 * len) e
      else if st = 0xFF then s.scanArea fuel next e
      else .unfinished :: s.scanArea fuel next e

/-- The Rolling sectors with a valid header, and their SSEQ (R411). -/
def State.openSectors (s : State) : List (Nat × Nat) :=
  (List.range 128).filterMap (fun k =>
    let a := norRolling + k * 65536
    if s.norByte a = 0x30 ∧ ofLeBytes (s.norBytes (a + 8) 2) = crc16 (s.norBytes (a + 4) 4)
    then some (k, ofLeBytes (s.norBytes (a + 4) 4)) else none)

/-- The pair with the highest second member. -/
def newestOf (l : List (Nat × Nat)) : Option (Nat × Nat) :=
  l.foldl (fun m e => match m with
    | none => some e
    | some q => if q.2 < e.2 then some e else some q) none

/-- The unfinished records after the last valid one. -/
def tailUnfinished (l : List ScanItem) : Nat := (l.reverse.takeWhile (fun i => decide (i = .unfinished))).length

/-- The newest valid record of a scan. -/
def newestRec (l : List ScanItem) : Option (Nat × Nat × Nat) :=
  l.foldl (fun m i => match i, m with
    | .unfinished, _ => m
    | .valid a b c, none => some (a, b, c)
    | .valid a b c, some q => if q.1 < a then some (a, b, c) else m) none

/-- The start of the page after the last page of `[a, a + n)` that holds a programmed byte, as an offset from `a`. -/
def State.afterLast (s : State) (a n : Nat) : Nat :=
  s.nor.foldl (fun m e => if a ≤ e.1 ∧ e.1 < a + n then max m (((e.1 - a) / 256 + 1) * 256) else m) 0

/-- The scan ends: write positions, PCYC, the next RSEQ, the operating-time base, and how many records the previous power
cycle left unfinished (R409, R412). -/
def State.ldgScanDone (s : State) : State :=
  if s.get R.LDG_STAT_STATE ≠ 0 then s
  else
    let secs := s.openSectors
    let found := s.scanArea 40960 norFounding (norFounding + 0x100000)
    let roll := fun (k : Nat) => s.scanArea 4096 (norRolling + k * 65536 + 0x100) (norRolling + (k + 1) * 65536)
    let all := found ++ (secs.map (fun e => roll e.1)).flatten
    let newest := newestOf secs
    let left := tailUnfinished found + (match newest with
      | some e => tailUnfinished (roll e.1)
      | none => 0)
    let (rseq, pcyc, opt) := match newestRec all with
      | some (a, b, c) => (a + 1, b + 1, c)
      | none => (1, 1, 0)
    let s2 := ((s.set R.LDG_RSEQ_RSEQ rseq).set R.LDG_PCYC_PCYC pcyc).setFptr (s.afterLast norFounding 0x100000)
    let s3 := match newest with
      | some (k, q) =>
        let s4 : State := { s2 with ldg := { s2.ldg with opened := true, sseq := q, optBase := opt } }
        (s4.set R.LDG_STAT_SECT k).set R.LDG_PTR_OFS (k * 65536 + max 0x100 (s.afterLast (norRolling + k * 65536) 65536))
      | none => { s2 with ldg := { s2.ldg with opened := false, sseq := 0, optBase := opt } }
    let nxt := match newest with
      | some (k, _) => (k + 1) % 128
      | none => 0
    let s5 := s3.set R.LDG_STAT_STATE 1
    let s6 := if s.norBlank (norRolling + nxt * 65536) 65536
      then { s5 with ldg := { s5.ldg with ahead := some nxt, erasing := none } } else s5.ldgErase nxt
    let s7 := if left = 0 then s6 else s6.fault .ldg 3
    let pl := leBytes 4 (s7.rd R.A_SYS_ID).toNat ++ leBytes 4 (s7.get R.SEC_FW_VER_VERSION)
      ++ leBytes 4 (s7.get R.SEC_MANIFEST_ID_ID) ++ leBytes 2 left ++ [BitVec.ofNat 8 (s7.get R.FLT_CORE_STAT_ACTIVE)]
    (s7.ldgRaise 0x0001 pl).ldgKick

/-! ### Readout (R417, R418) -/

/-- The bytes of the readout space of Table 17-1, which are NOR bytes; beyond it 0xFF (R418). -/
def State.ldgReadout (s : State) (ofs n : Nat) : List Byte :=
  (List.range n).map (fun i => if ofs + i < 0x900000 then s.norByte (norFounding + ofs + i) else 0xFF)

end Sys2Proof.Machine
end

