-- ==== Sys2Proof/Machine/Mem.lean ====
section
/-!
DEFINITION. Buffer memory and error protection: MEM states and access checks (R248 to R251), the SECDED code's outcomes,
the Correction Log, rewrites and scrubbing (R372 to R381).
-/

namespace Sys2Proof.Machine

open Sys2Proof

/-! ### The Correction Log (R376 to R380) -/

/-- The log's address word of a word (Table 15-8). -/
def EccKey.lo (k : EccKey) : Nat := if k.sram then k.idx % 2 ^ 24 else k.idx % 2 ^ 32

/-- The flipped bits of a stored word. -/
def State.flipsOf (s : State) (k : EccKey) : Nat :=
  match s.ms.flips.find? (fun e => decide (e.1 = k)) with
  | some e => e.2
  | none => 0

/-- Records which bits of a stored word are flipped; none takes the word out of the list. -/
def State.setFlips (s : State) (k : EccKey) (m : Nat) : State :=
  let rest := s.ms.flips.filter (fun e => !decide (e.1 = k))
  { s with ms := { s.ms with flips := if m = 0 then rest else (k, m) :: rest } }

/-- The buffer-memory word that holds address `a`. -/
def bufKey (a : Nat) : EccKey := ⟨false, 0, 0, a / 8⟩

/-- Entry `i` of the log names the word. -/
def State.clogIs (s : State) (i : Nat) (k : EccKey) : Bool :=
  s.flag (R.MEM_CLOG_KEY_HI_VALID i) && (s.get (R.MEM_CLOG_KEY_LO_ADDR i) == k.lo)
    && (s.flag (R.MEM_CLOG_KEY_HI_SRAM i) == k.sram)
    && (!k.sram || (s.get (R.MEM_CLOG_KEY_HI_ARRAY i) == k.array && s.get (R.MEM_CLOG_KEY_HI_INST i) == k.inst))

/-- The entry that names the word (R376). -/
def State.clogFind (s : State) (k : EccKey) : Option Nat := (List.range 32).find? (fun i => s.clogIs i k)

/-- The lowest free entry (R376). -/
def State.clogFree (s : State) : Option Nat := (List.range 32).find? (fun i => !s.flag (R.MEM_CLOG_KEY_HI_VALID i))

/-- Fills a free entry for the word, state COUNTING, counters 0. -/
def State.clogTake (s : State) (i : Nat) (k : EccKey) : State :=
  let hi := 2 ^ 31 + b2n k.sram * 2 ^ 30 + (if k.sram then k.array % 256 * 2 ^ 16 + k.inst % 256 * 2 ^ 8 else 0)
  ((s.wr (R.A_MEM_CLOG_KEY_LO i) (BitVec.ofNat 32 k.lo)).wr (R.A_MEM_CLOG_KEY_HI i) (BitVec.ofNat 32 hi)).wr
    (R.A_MEM_CLOG_CNT i) 0

/-- The stamp bits of an entry, [47:16] of the stamp. -/
def State.clogStamp (s : State) (i : Nat) : State := s.set (R.MEM_CLOG_LAST_STAMP i) (s.now / 65536)

/-- An event that finds no entry and none free (R376, R379). -/
def State.clogFull (s : State) : State := (s.bump R.MEM_CLOG_OVF_OVF 1).fault .memEcc 3

/-- One more correction at entry `i` (R376 to R378). -/
def State.clogCount (s : State) (i bit : Nat) : State :=
  let s1 := ((s.bump (R.MEM_CLOG_CNT_COUNT i) 1).bump (R.MEM_CLOG_CNT_SINCE i) 1)
  let s2 := (s1.set (R.MEM_CLOG_KEY_HI_BIT i) bit).clogStamp i
  if s.get (R.MEM_CLOG_KEY_HI_STATE i) ≠ 0 then s2
  else if s.get R.MEM_ECC_CTRL_REW_MAX ≤ s.get (R.MEM_CLOG_CNT_REW i) then
    (s2.set (R.MEM_CLOG_KEY_HI_STATE i) 1).fault .memEcc 1
  else if s.get R.MEM_ECC_CTRL_THRESH ≤ s2.get (R.MEM_CLOG_CNT_SINCE i) ∧ i ∉ s2.ms.due then
    { s2 with ms := { s2.ms with due := s2.ms.due ++ [i] } }
  else s2

/-- One correction of bit `bit` of a word (R376). -/
def State.correction (s : State) (k : EccKey) (bit : Nat) : State :=
  let s1 := s.bump R.MEM_ECC_CNT_CE_CE 1
  match s1.clogFind k with
  | some i => s1.clogCount i bit
  | none =>
    match s1.clogFree with
    | some i => ((s1.clogTake i k).clogCount i bit).fault .memEcc 0
    | none => s1.clogFull

/-- One uncorrectable read of a word; `patrol`: by a scrubber (R379). -/
def State.uncorrectable (s : State) (k : EccKey) (patrol : Bool) : State :=
  let s1 := (s.bump R.MEM_ECC_CNT_UE_UE 1).fault .memEcc 2
  let s2 := if patrol then s1.fault .memEcc 4 else s1
  let mark := fun (t : State) (i : Nat) =>
    let t1 := ((t.set (R.MEM_CLOG_KEY_HI_STATE i) 2).set (R.MEM_CLOG_KEY_HI_BIT i) 0xFF).clogStamp i
    { t1 with ms := { t1.ms with due := t1.ms.due.filter (· ≠ i) } }
  match s2.clogFind k with
  | some i => mark s2 i
  | none =>
    match s2.clogFree with
    | some i => mark (s2.clogTake i k) i
    | none => s2.clogFull

/-- The read of one stored word of 64 bits: its data, or none where it is uncorrectable (R373). Three and more flipped
bits may be missed, miscorrected or detected: a free value says which. -/
def State.eccRead (s : State) (k : EccKey) (data : Nat) (patrol : Bool) : Option Nat × State :=
  let m := s.flipsOf k
  match setBits m 72 with
  | [] => (some data, s)
  | [b] => (some data, s.correction k b)
  | [_, _] => (none, s.uncorrectable k patrol)
  | _ =>
    let (x, s1) := s.draw
    let seen := Nat.xor data (m % 2 ^ 64)
    if x % 3 = 0 then (none, s1.uncorrectable k patrol)
    else if x % 3 = 1 then (some seen, s1)
    else (some (Nat.xor seen (2 ^ (x / 3 % 72) % 2 ^ 64)), s1.correction k (x / 3 % 72))

/-! ### Accesses to buffer memory (R249 to R251, R375) -/

/-- The LP5X channel of an address: each 64-byte block lies in one channel, with its check bytes (R250). -/
def memChannel (a : Nat) : Nat := Nat.xor (bitsOf a 6 2) (bitsOf a 14 2)

/-- The data capacity in bytes (R250). -/
def State.dataTop (s : State) : Nat := s.get R.MEM_DATA_TOP_TOP_MIB * 2 ^ 20

/-- An access to `n` bytes at `a` may start: MEM is READY or SREF, and the bytes lie below the data top, or ADDR_ERR sets
(R249, R250). An access wakes MEM from SREF (R251). -/
def State.memOpen (s : State) (a n : Nat) : Bool × State :=
  let st := s.get R.MEM_STAT_STATE
  if st ≠ 2 ∧ st ≠ 3 then (false, s)
  else
    let s1 := (if st = 3 then s.set R.MEM_STAT_STATE 2 else s)
    let s2 : State := { s1 with ms := { s1.ms with lastAccess := s.now } }
    if a + n ≤ s.dataTop then (true, s2) else (false, s2.fault .mem 3)

/-- Reads the words that hold bytes `a` to `a + n - 1`, from word `w`, `k` of them: whether all were readable, and
their bytes. -/
def State.memWords (s : State) (patrol : Bool) : Nat → Nat → Bool × List Byte × State
  | _, 0 => (true, [], s)
  | w, k + 1 =>
    match s.eccRead ⟨false, 0, 0, w⟩ (ofLeBytes (bytesAt 0 s.mem (8 * w) 8)) patrol with
    | (none, s1) => (false, [], s1)
    | (some x, s1) =>
      let (ok, bs, s2) := s1.memWords patrol (w + 1) k
      (ok, leBytes 8 x ++ bs, s2)

/-- A read of `n` bytes at `a`: its cause of failure in Table 11-3 (0 none, 3 address error, 4 uncorrectable word) and
the bytes. -/
def State.memReadC (s : State) (a n : Nat) : Nat × List Byte × State :=
  match s.memOpen a n with
  | (false, s1) => (3, [], s1)
  | (true, s1) =>
    let (ok, bs, s2) := s1.memWords false (a / 8) ((a + n + 7) / 8 - a / 8)
    if ok then (0, (bs.drop (a % 8)).take n, s2) else (4, [], s2)

/-- A read of `n` bytes at `a`: the bytes, or a bus error. -/
def State.memRead (s : State) (a n : Nat) : Option (List Byte) × State :=
  let (c, bs, s1) := s.memReadC a n
  (if c = 0 then some bs else none, s1)

/-- The rewrite of a logged word has been made: REW rises, SINCE is 0 and a rewrite that was due is dropped (R377,
Table 15-3). -/
def State.rewrote (s : State) (i : Nat) : State :=
  let t := ((s.bump (R.MEM_CLOG_CNT_REW i) 1).set (R.MEM_CLOG_CNT_SINCE i) 0)
  { t with ms := { t.ms with due := t.ms.due.filter (· ≠ i) } }

/-- A stored word has been written with fresh check bits: it holds good data, and where `always` or where a rewrite was due
this counts as one (R375, R379, Table 15-3). -/
def State.freshWord (s : State) (k : EccKey) (always : Bool) : State :=
  let s1 := if s.flipsOf k = 0 then s else s.setFlips k 0
  match s1.clogFind k with
  | some i => if always || decide (i ∈ s1.ms.due) then s1.rewrote i else s1
  | none => s1

/-- Words wholly covered by a write hold good data again. `key`: the key of a word. -/
def State.wordsWritten (s : State) (key : Nat → EccKey) : Nat → Nat → State
  | _, 0 => s
  | w, k + 1 => (s.freshWord (key w) false).wordsWritten key (w + 1) k

/-- The word of a part write: it is read and corrected first, which counts as a rewrite, and an uncorrectable one
discards the write (R375, Table 15-3). -/
def State.mergeWord (s : State) (k : EccKey) (data : Nat) : Option Nat × State :=
  match s.eccRead k data false with
  | (none, s1) => (none, s1)
  | (some x, s1) => (some x, if s.flipsOf k = 0 then s1 else s1.freshWord k true)

/-- The word of buffer memory that holds address `a`, for a part write. -/
def State.partWord (s : State) (a : Nat) : Bool × State :=
  match s.mergeWord (bufKey a) (ofLeBytes (bytesAt 0 s.mem (a / 8 * 8) 8)) with
  | (none, s1) => (false, s1)
  | (some x, s1) => (true, { s1 with mem := putBytes 0 s1.mem (a / 8 * 8) (leBytes 8 x) })

/-- A write of bytes at `a`: its cause of failure as for a read. A word that is covered in part is read, corrected and
merged, in one step (R375). -/
def State.memWriteC (s : State) (a : Nat) (bs : List Byte) : Nat × State :=
  match s.memOpen a bs.length with
  | (false, s1) => (3, s1)
  | (true, s1) =>
    let e := a + bs.length
    let (ok1, s2) := if a % 8 = 0 ∧ (8 ≤ bs.length ∨ bs.length = 0) then (true, s1) else s1.partWord a
    let (ok2, s3) := if e % 8 = 0 ∨ e / 8 = a / 8 then (true, s2) else s2.partWord e
    if ok1 && ok2 then
      let s4 : State := { s3 with mem := putBytes 0 s3.mem a bs }
      (0, s4.wordsWritten (fun w => ⟨false, 0, 0, w⟩) ((a + 7) / 8) (e / 8 - (a + 7) / 8))
    else (4, s3)

/-- A write of bytes at `a`: whether it went ahead. -/
def State.memWrite (s : State) (a : Nat) (bs : List Byte) : Bool × State :=
  let (c, s1) := s.memWriteC a bs
  (c == 0, s1)

/-- A little-endian number of `n` bytes read at `a`. -/
def State.memNat (s : State) (a n : Nat) : Option Nat × State :=
  match s.memRead a n with
  | (some bs, s1) => (some (ofLeBytes bs), s1)
  | (none, s1) => (none, s1)

/-! ### Initialisation and self refresh (R248, R251) -/

/-- What a training run found: the ranks and density agree, the channels trained at each of the three rates, and the
installed capacity code. -/
def State.memTrained (s : State) (agree : Bool) (ok0 ok1 ok2 : Nat) (size : Nat) (ranks2 : Bool) : State :=
  if s.get R.MEM_STAT_STATE ≠ 1 then s
  else
    let s1 := (s.set R.MEM_STAT_SIZE size).setFlag R.MEM_STAT_RANKS2 ranks2
    let fail := fun (t : State) => ((t.set R.MEM_STAT_STATE 4).fault .mem 0).ldgProtocol 12 0
    let ready := fun (t : State) (rate : Nat) =>
      let t1 := ((t.set R.MEM_STAT_RATE rate).set R.MEM_STAT_CH_OK 15).set R.MEM_STAT_STATE 2
      let t2 := t1.set R.MEM_DATA_TOP_TOP_MIB (7168 * 2 ^ size)
      let t3 : State := { t2 with ms := { t2.ms with lastAccess := t2.now } }
      if rate = 0 then t3 else (t3.fault .mem 1).ldgProtocol 12 0
    if !agree || 3 ≤ size then fail ((s1.set R.MEM_STAT_CH_OK (ok0 % 16)))
    else if ok0 % 16 = 15 then ready s1 0
    else if ok1 % 16 = 15 then ready s1 1
    else if ok2 % 16 = 15 then ready s1 2
    else fail ((s1.set R.MEM_STAT_RATE 2).set R.MEM_STAT_CH_OK (ok2 % 16))

/-- MEM enters self refresh in PARKED or LIMP with SR_EN at 1 after 10 ms without access (R251). -/
def State.memSref (s : State) : State :=
  if s.get R.MEM_STAT_STATE = 2 ∧ (s.mode = mPARKED ∨ s.mode = mLIMP) ∧ s.flag R.MEM_CTRL_SR_EN
      ∧ s.passed s.ms.lastAccess 10000000 then s.set R.MEM_STAT_STATE 3 else s

/-! ### Scrubbing (R377, R381) -/

/-- A stored word gains flipped bits: what the environment did to it before this read. -/
def State.upset (s : State) (k : EccKey) (m : Nat) : State :=
  if m % 2 ^ 72 = 0 then s else s.setFlips k (Nat.xor (s.flipsOf k) (m % 2 ^ 72))

/-- The patrol scrubber reads the next 64-byte block (R381). `upset`: the flipped bits that word `w` of the block has
gained. -/
def State.patrol (s : State) (w upset : Nat) : State :=
  if !s.flag R.MEM_ECC_CTRL_SCRUB_EN || s.get R.MEM_STAT_STATE != 2 then s
  else
    let b := s.get R.MEM_SCRUB_POS_BLOCK
    let s1 := s.upset ⟨false, 0, 0, 8 * b + w % 8⟩ upset
    let s2 := ((List.range 8).foldl (fun (t : State) (i : Nat) =>
      (t.eccRead ⟨false, 0, 0, 8 * b + i⟩ (ofLeBytes (bytesAt 0 t.mem (64 * b + 8 * i) 8)) true).2) s1)
    if s.dataTop ≤ 64 * (b + 1) then (s2.set R.MEM_SCRUB_POS_BLOCK 0).bump R.MEM_SCRUB_STAT_PASSES 1
    else s2.set R.MEM_SCRUB_POS_BLOCK (b + 1)

/-- The key that a Correction Log entry holds. -/
def State.clogKey (s : State) (i : Nat) : EccKey :=
  let sram := s.flag (R.MEM_CLOG_KEY_HI_SRAM i)
  if sram then ⟨true, s.get (R.MEM_CLOG_KEY_HI_ARRAY i), s.get (R.MEM_CLOG_KEY_HI_INST i), s.get (R.MEM_CLOG_KEY_LO_ADDR i)⟩
  else ⟨false, 0, 0, s.get (R.MEM_CLOG_KEY_LO_ADDR i)⟩

/-- The scrubber rewrites the word of entry `i`: read, corrected and written back (R377). -/
def State.scrubRewrite (s : State) (i : Nat) : State :=
  if i ∉ s.ms.due then s
  else
    let k := s.clogKey i
    if (setBits (s.flipsOf k) 72).length ≤ 1 then (s.setFlips k 0).rewrote i
    else ({ s with ms := { s.ms with due := s.ms.due.filter (· ≠ i) } } : State).uncorrectable k false

/-- A read of a word of an SRAM array: a corrected word of the CLE arrays is written back at once, which counts as a rewrite
(R374). -/
def State.sramRead (s : State) (k : EccKey) (data : Nat) (patrol : Bool) : Option Nat × State :=
  let (x, s1) := s.eccRead k data patrol
  (x, if k.array = 0x40 ∧ (setBits (s.flipsOf k) 72).length = 1 then s1.freshWord k true else s1)

/-- Reads the SRAM words of `ks`, each with its data, in order: their data, or none where one is uncorrectable (R373). -/
def State.sramWords (s : State) : List (EccKey × Nat) → Option (List Nat) × State
  | [] => (some [], s)
  | (k, x) :: ks =>
    match s.sramRead k x false with
    | (none, s1) => (none, s1)
    | (some y, s1) =>
      let (ys, s2) := s1.sramWords ks
      (ys.map (fun l => y :: l), s2)

/-- `n` words of an SRAM array from word `w` have been stored whole: they hold good data (R375). -/
def State.arrayStored (s : State) (array inst w n : Nat) : State :=
  { s with ms := { s.ms with flips := s.ms.flips.filter (fun e =>
    !(e.1.sram && e.1.array == array && e.1.inst == inst && decide (w ≤ e.1.idx) && decide (e.1.idx < w + n))) } }

/-- An SRAM walker reads one word (R381). `upset`: the flipped bits the word has gained. The data itself is held by its
owner's state. -/
def State.walker (s : State) (array inst word upset : Nat) : State :=
  if !s.flag R.MEM_ECC_CTRL_SCRUB_EN then s
  else
    let k : EccKey := ⟨true, array % 256, inst % 256, word % 2 ^ 24⟩
    ((s.upset k upset).sramRead k 0 true).2

/-- The error a write of MEM_EI_CTRL armed goes into the next whole word that the control cores write there (R384). -/
def State.injectAt (s : State) (k : EccKey) : State :=
  if s.flag R.MEM_EI_CTRL_EN && s.mode == mWORKSHOP then
    let m := Nat.xor (if s.flag R.MEM_EI_CTRL_A_EN then 2 ^ s.get R.MEM_EI_CTRL_BIT_A else 0)
      (if s.flag R.MEM_EI_CTRL_B_EN then 2 ^ s.get R.MEM_EI_CTRL_BIT_B else 0)
    (s.setFlips k m).setFlag R.MEM_EI_CTRL_EN false
  else s

end Sys2Proof.Machine
end

