-- ==== Sys2Proof/Machine/Depot.lean ====
section
/-!
DEFINITION. The Depot of chapter 10: pools, handles, the nine requests with their codes in order, the caches and rings,
access checks, watermarks, retirement and rebuilding.
-/

namespace Sys2Proof.Machine

open Sys2Proof

/-! ### Pools and handles (R253 to R255) -/

/-- The buffer size of pool `n`. -/
def poolSize (n : Nat) : Nat := 4096 * 8 ^ n

/-- The pool's part of State. -/
def State.pool (s : State) (n : Nat) : PoolSt := (s.dep.pools[n]?).getD ⟨[], 0, 0, false, 64⟩

/-- Free buffers of pool `n`: cache and ring (R261). -/
def State.poolFree (s : State) (n : Nat) : Nat := (s.pool n).cache.length + (s.pool n).ringLen

/-- The cause of LOW_WM bit `n` is present: DEP_n_FREE has fallen to WM_LOW and has not reached WM_HIGH since (R265). -/
def State.poolLow (s : State) (n : Nat) : Bool :=
  (s.pool n).low && s.get (R.DEP_P_WM_LOW_WM_LOW n) != 0
    && decide (s.poolFree n < max (s.get (R.DEP_P_WM_LOW_WM_LOW n)) (s.get (R.DEP_P_WM_HIGH_WM_HIGH n)))

/-- LOW_WM falls due or ends as DEP_n_FREE moves (R265). -/
def State.poolMark (s : State) (n before after : Nat) : State :=
  let lo := s.get (R.DEP_P_WM_LOW_WM_LOW n)
  let hi := max lo (s.get (R.DEP_P_WM_HIGH_WM_HIGH n))
  let p := s.pool n
  if after < before ∧ after ≤ lo ∧ lo ≠ 0 then
    ({ s with dep := { s.dep with pools := s.dep.pools.set n { p with low := true } } }).fault .dep n
  else if p.low ∧ hi ≤ after then { s with dep := { s.dep with pools := s.dep.pools.set n { p with low := false } } }
  else s

/-- Replaces the pool's part of State; DEP_n_FREE and LOW_WM follow. -/
def State.setPool (s : State) (n : Nat) (p : PoolSt) : State :=
  let before := s.poolFree n
  let after := p.cache.length + p.ringLen
  let s1 : State := { s with dep := { s.dep with pools := s.dep.pools.set n p } }
  ((s1.set (R.DEP_P_FREE_CACHED n) p.cache.length).set (R.DEP_P_FREE_FREE n) after).poolMark n before after

/-- Pool base, state array and ring addresses. -/
def State.poolBase (s : State) (n : Nat) : Nat :=
  s.get (R.DEP_P_BASE_LO_BASE n) * 2 ^ 12 + s.get (R.DEP_P_BASE_HI_BASE n) * 2 ^ 32
def State.poolState (s : State) (n : Nat) : Nat :=
  s.get (R.DEP_P_STATE_LO_STATE n) * 2 ^ 6 + s.get (R.DEP_P_STATE_HI_STATE n) * 2 ^ 32
def State.poolRing (s : State) (n : Nat) : Nat :=
  s.get (R.DEP_P_RING_LO_RING n) * 2 ^ 6 + s.get (R.DEP_P_RING_HI_RING n) * 2 ^ 32
def State.poolCount (s : State) (n : Nat) : Nat := s.get (R.DEP_P_COUNT_COUNT n)

/-- Pool `n` is initialised. -/
def State.poolReady (s : State) (n : Nat) : Bool := bitOf (s.get R.DEP_STAT_POOLS_READY) n

/-- The null handle (R254). -/
def nullHandle : Nat := 0xFFFFFFFF

/-- Parts of a handle (Table 10-4). -/
def hPool (h : Nat) : Nat := bitsOf h 30 2
def hGen (h : Nat) : Nat := bitsOf h 20 10
def hIndex (h : Nat) : Nat := bitsOf h 0 20

/-- The handle of a pool, generation and index. -/
def mkHandle (n gen i : Nat) : Nat := n * 2 ^ 30 + gen % 1024 * 2 ^ 20 + i % 2 ^ 20

/-- Where the buffer of a handle starts (R255). -/
def State.bufAddr (s : State) (h : Nat) : Nat := s.poolBase (hPool h) + hIndex h * poolSize (hPool h)

/-! ### State entries (Table 10-5) -/

def eGen (e : Nat) : Nat := bitsOf e 0 10
def eAlloc (e : Nat) : Bool := bitOf e 10
def eInvalid (e : Nat) : Bool := bitOf e 11
def eRetired (e : Nat) : Bool := bitOf e 12
def eRetirePend (e : Nat) : Bool := bitOf e 13
def eNhold (e : Nat) : Nat := bitsOf e 14 3
def eFinal (e : Nat) : Nat := bitsOf e 17 2
def eSlot (e i : Nat) : Nat := bitsOf e (24 + 8 * i) 8

/-- The entry with a holder slot replaced. -/
def eSetSlot (e i t : Nat) : Nat := putBits e (24 + 8 * i) 8 t

/-- The slot that a tag holds. -/
def eHolds (e t : Nat) : Option Nat := (List.range 4).find? (fun i => eSlot e i == t && t != 0xFF)

/-- The lowest empty slot. -/
def eEmptySlot (e : Nat) : Option Nat := (List.range 4).find? (fun i => eSlot e i == 0xFF)

/-- The tag of the final owner, 0xFF when the buffer is not allocated. -/
def eOwner (e : Nat) : Nat := if eAlloc e then eSlot e (eFinal e) else 0xFF

/-- A free entry with generation `g`. -/
def eFree (g : Nat) : Nat := g % 1024 + 0xFFFFFFFF * 2 ^ 24

/-- An entry whose buffer has been freed: ALLOC, NHOLD and FINAL 0, the slots empty, the rest kept (Table 10-7). -/
def eFreed (e : Nat) : Nat := putBits (putBits (putBits (putBits e 10 1 0) 14 3 0) 17 2 0) 24 32 0xFFFFFFFF

/-- Reads the state entry of buffer `i` of pool `n`. -/
def State.entryRead (s : State) (n i : Nat) : Option Nat × State := s.memNat (s.poolState n + 8 * i) 8

/-- Writes a state entry, one 8-byte write (R256). -/
def State.entryWrite (s : State) (n i e : Nat) : State := (s.memWrite (s.poolState n + 8 * i) (leBytes 8 e)).2

/-! ### Caches and rings (R261) -/

/-- The indices in the ring from its head, `k` of them. -/
def State.ringRead (s : State) (n : Nat) : Nat → Nat → List Nat × State
  | _, 0 => ([], s)
  | j, k + 1 =>
    let (x, s1) := s.memNat (s.poolRing n + 4 * (((s.pool n).head + j) % max 1 (s.poolCount n))) 4
    let (xs, s2) := s1.ringRead n (j + 1) k
    (match x with
      | some v => v % 2 ^ 20 :: xs
      | none => xs, s2)

/-- Writes indices into the ring from place `j` after its head. -/
def State.ringWrite (s : State) (n : Nat) : Nat → List Nat → State
  | _, [] => s
  | j, x :: xs =>
    ((s.memWrite (s.poolRing n + 4 * (((s.pool n).head + j) % max 1 (s.poolCount n))) (leBytes 4 x)).2).ringWrite n
      (j + 1) xs

/-- Moves up to 32 indices from the head of the ring to the back of the cache (R261). -/
def State.cacheRefill (s : State) (n : Nat) : State :=
  let p := s.pool n
  let k := min (min 32 p.ringLen) (p.cap - p.cache.length)
  let (xs, s1) := s.ringRead n 0 k
  s1.setPool n { p with
    cache := p.cache ++ xs, head := (p.head + k) % max 1 (s.poolCount n), ringLen := p.ringLen - k }

/-- Moves the 32 indices at the back of the cache to the tail of the ring (R261). -/
def State.cacheSpill (s : State) (n : Nat) : State :=
  let p := s.pool n
  let keep := p.cache.length - 32
  let xs := p.cache.drop keep
  (s.ringWrite n p.ringLen xs).setPool n { p with cache := p.cache.take keep, ringLen := p.ringLen + xs.length }

/-- DEP keeps the cache of pool `n` between its marks (R261). -/
def State.cacheKeep (s : State) (n : Nat) : State :=
  let p := s.pool n
  if p.cache.length ≤ 16 ∧ p.ringLen ≠ 0 then s.cacheRefill n
  else if 56 ≤ p.cache.length then s.cacheSpill n
  else s

/-! ### Requests (R258 to R260) -/

/-- The tag names a requester (Table 10-6). -/
def tagOk (t : Nat) : Bool :=
  decide (t ≤ 0x17) || (decide (0x20 ≤ t) && decide (t ≤ 0x31)) || (decide (0x40 ≤ t) && decide (t ≤ 0xC1))

/-- The pool is initialised and not absent (R253). -/
def State.poolHere (s : State) (n : Nat) : Bool := s.poolReady n && s.poolCount n != 0

/-- The handle passes the RANGE check. -/
def State.handleIn (s : State) (h : Nat) : Bool :=
  h != nullHandle && s.poolHere (hPool h) && decide (hIndex h < s.poolCount (hPool h))

/-- The regions of pool `n`: first address and length of the buffers, the state array and the ring. -/
def State.poolRegions (s : State) (n : Nat) : List (Nat × Nat) :=
  [(s.poolBase n, poolSize n * s.poolCount n), (s.poolState n, 8 * s.poolCount n), (s.poolRing n, 4 * s.poolCount n)]

/-- Two regions overlap. -/
def overlap (a b : Nat × Nat) : Bool := decide (a.1 < b.1 + b.2) && decide (b.1 < a.1 + a.2) && a.2 != 0 && b.2 != 0

/-- INIT of pool `n` is refused under R253. -/
def State.initRefused (s : State) (n : Nat) : Bool :=
  let cnt := s.poolCount n
  s.poolBase n % poolSize n != 0
    || decide (1048576 < s.poolCount 0 + s.poolCount 1 + s.poolCount 2 + s.poolCount 3)
    || (s.poolRegions n).any (fun r => (r.2 != 0 && decide (s.dataTop < r.1 + r.2))
        || (List.range 4).any (fun m => m != n && (s.poolRegions m).any (fun q => overlap r q)))
    || (s.poolReady n && s.poolFree n + s.get (R.DEP_P_RETIRED_RETIRED n) != cnt)

/-- Clears the state entries from `i`, `k` of them. -/
def State.clearEntries (s : State) (n : Nat) : Nat → Nat → State
  | _, 0 => s
  | i, k + 1 => (s.entryWrite n i (eFree 0)).clearEntries n (i + 1) k

/-- A good INIT (R253): the ring holds every index in rising order and the first go into the cache. -/
def State.poolInit (s : State) (n : Nat) : State :=
  let cnt := s.poolCount n
  let k := min 64 cnt
  let s1 := s.clearEntries n 0 cnt
  let s2 : State := { s1 with dep := { s1.dep with pools := s1.dep.pools.set n ⟨[], 0, cnt, false, (s.pool n).cap⟩ } }
  let s3 := s2.ringWrite n 0 (List.range cnt)
  let s4 := s3.setPool n ⟨List.range k, k % max 1 cnt, cnt - k, false, (s.pool n).cap⟩
  (s4.set (R.DEP_P_RETIRED_RETIRED n) 0).orBits R.DEP_STAT_POOLS_READY (2 ^ n)

/-- The smallest pool whose buffers hold `size` bytes (R260). -/
def fitPool (size : Nat) : Nat := if size ≤ 4096 then 0 else if size ≤ 32768 then 1 else if size ≤ 262144 then 2 else 3

/-- Takes the front of the cache of pool `n`, which is not empty: the handle and entry of the buffer (Table 10-7). -/
def State.take (s : State) (n tag : Nat) : DepResp × State :=
  let s0 := if (s.pool n).cache.isEmpty then s.cacheRefill n else s
  let p := s0.pool n
  match p.cache with
  | [] => (⟨tag, 0xA, nullHandle, 0⟩, s0)
  | i :: rest =>
    match s0.entryRead n i with
    | (none, s1) => (⟨tag, 0xA, nullHandle, 0⟩, s1)
    | (some e, s1) =>
      let g := (eGen e + 1) % 1024
      let e1 := g + 2 ^ 10 + 2 ^ 14 + tag % 256 * 2 ^ 24 + 0xFFFFFF * 2 ^ 32 + bitsOf s.now 30 8 * 2 ^ 56
      let s2 := ((s1.setPool n { p with cache := rest }).entryWrite n i e1).bump (R.DEP_P_CNT_ALLOC_ALLOCS n) 1
      (⟨tag, 0, mkHandle n g i, e1⟩, s2)

/-- ALLOC from pool `n` upwards, at most `fuel` pools (R260). -/
def State.allocFrom (s : State) (tag2 : Nat) (climb : Bool) : Nat → Nat → DepResp × State
  | 0, _ => (⟨tag2, 1, nullHandle, 0⟩, s)
  | fuel + 1, n =>
    if s.poolHere n && s.poolFree n != 0 then s.take n tag2
    else
      let s1 := (s.bump (R.DEP_P_CNT_EMPTY_EMPTIES n) 1).fault .dep (4 + n)
      if climb then s1.allocFrom tag2 climb fuel (n + 1) else (⟨tag2, 1, nullHandle, 0⟩, s1)

/-- A buffer becomes RETIRED; firmware's record in the system area keeps it (R266). -/
def State.retired (s : State) (n i e : Nat) : State :=
  let s1 := ((s.entryWrite n i (putBits (eFreed e) 12 2 1)).bump (R.DEP_P_RETIRED_RETIRED n) 1).fault .dep 12
  let k := n * 2 ^ 20 + i
  { s1 with sec := { s1.sec with retired := if s.sec.retired.contains k then s.sec.retired else s.sec.retired ++ [k] } }

/-- Takes index `i` out of the cache or the ring of pool `n`; the ring closes the gap (R266). -/
def State.unlist (s : State) (n i : Nat) : State :=
  let p := s.pool n
  if i ∈ p.cache then s.setPool n { p with cache := p.cache.filter (· ≠ i) }
  else
    let (xs, s1) := s.ringRead n 0 p.ringLen
    let ys := xs.filter (· ≠ i)
    (s1.ringWrite n 0 ys).setPool n { p with ringLen := ys.length }

/-- The code of a request on a handle, in the order of Table 10-8, from the entry `e`. -/
def handleCode (op tag tag2 h e : Nat) : Nat :=
  if eRetired e ∧ op ≠ 8 then 0x9
  else if op ≠ 8 ∧ (!eAlloc e ∨ eGen e ≠ hGen h) then 0x2
  else if op ≠ 8 ∧ (eHolds e tag).isNone then 0x5
  else if (op = 4 ∨ op = 5) ∧ eHolds e tag ≠ some (eFinal e) then 0x3
  else if op = 3 ∧ eHolds e tag = some (eFinal e) then 0x3
  else if op = 4 ∧ 1 < eNhold e then 0x4
  else if op = 2 ∧ (eHolds e tag2).isSome then 0x7
  else if op = 5 ∧ (eHolds e tag2).isNone then 0x7
  else if op = 2 ∧ eNhold e = 4 then 0x6
  else 0

/-- What a request on a handle does when its code is OK (Table 10-7, R266). -/
def State.handleDo (s : State) (q : DepReq) (e : Nat) : State :=
  let n := hPool q.arg
  let i := hIndex q.arg
  match q.op with
  | 2 => match eEmptySlot e with
    | some k => s.entryWrite n i (putBits (eSetSlot e k q.tag2) 14 3 (eNhold e + 1))
    | none => s
  | 3 => match eHolds e q.tag with
    | some k => s.entryWrite n i (putBits (eSetSlot e k 0xFF) 14 3 (eNhold e - 1))
    | none => s
  | 4 =>
    if eRetirePend e then s.retired n i e
    else
      let s1 := s.entryWrite n i (eFreed e)
      let s2 := if (s1.pool n).cache.length < (s1.pool n).cap then s1 else s1.cacheSpill n
      s2.setPool n { s2.pool n with cache := i :: (s2.pool n).cache }
  | 5 => match eHolds e q.tag2 with
    | some k => s.entryWrite n i (putBits e 17 2 k)
    | none => s
  | 6 => s.entryWrite n i (putBits e 11 1 (b2n q.inv))
  | 8 =>
    if eRetired e then s
    else if eAlloc e then s.entryWrite n i (putBits e 13 1 1)
    else (s.unlist n i).retired n i e
  | _ => s

/-- A FREE or RELEASE that is not answered OK (R259). -/
def State.depReject (s : State) (q : DepReq) (code owner : Nat) : State :=
  let w := q.tag % 256 * 2 ^ 24 + owner % 256 * 2 ^ 16 + q.op % 16 * 2 ^ 12 + code % 16 * 2 ^ 8
  let s1 := (((s.set R.DEP_REJ_LOG0_HANDLE q.arg).wr R.A_DEP_REJ_LOG1 (BitVec.ofNat 32 w)).bump R.DEP_REJ_CNT_COUNT 1)
  (s1.fault .dep 8).ldgRaise 0x2004 (leBytes 4 q.arg ++ leBytes 4 w)

/-- Carries out one request that DEP has taken (R258). -/
def State.depTake (s : State) (q : DepReq) : DepResp × State :=
  let bad : DepResp × State := (⟨q.tag, 0xB, nullHandle, 0⟩, s)
  let needsTag := decide (q.op = 1) || decide (q.op = 2) || decide (q.op = 5)
  if q.op = 0 ∨ 9 < q.op then bad
  else if needsTag ∧ !tagOk q.tag2 then bad
  else if (q.op = 8 ∨ q.op = 9) ∧ q.tag ≠ 0xC0 then bad
  else if q.op = 1 then
    if q.arg = 0 ∨ 2097152 < q.arg then bad
    else
      let (r, s1) := s.allocFrom q.tag2 q.climb (4 - fitPool q.arg) (fitPool q.arg)
      ({ r with tag := q.tag }, s1)
  else if q.op = 9 then
    if s.initRefused (q.pool % 4) then (⟨q.tag, 0xB, nullHandle, 0⟩, s.fault .dep 11)
    else (⟨q.tag, 0, nullHandle, 0⟩, s.poolInit (q.pool % 4))
  else if !s.handleIn q.arg then
    (⟨q.tag, 0x8, nullHandle, 0⟩, if q.op = 3 ∨ q.op = 4 then s.depReject q 0x8 0xFF else s)
  else
    match s.entryRead (hPool q.arg) (hIndex q.arg) with
    | (none, s1) => (⟨q.tag, 0xA, nullHandle, 0⟩, s1)
    | (some e, s1) =>
      let code := handleCode q.op q.tag q.tag2 q.arg e
      let s2 := if code = 0 then s1.handleDo q e
        else if q.op = 3 ∨ q.op = 4 then s1.depReject q code (eOwner e) else s1
      (⟨q.tag, code, nullHandle, if q.op = 7 then e else 0⟩, s2)

/-- Gives a response: into the DEP_RESP registers for a request through DEP_REQ, else to its requester (R270). A QUERY that
reads no entry returns none. -/
def State.depAnswer (s : State) (q : DepReq) (r : DepResp) : State :=
  if q.port then
    let s1 := ((s.set R.DEP_RESP_HANDLE r.handle).set R.DEP_RESP_STAT_CODE r.code).set R.DEP_RESP_STAT_BUSY 0
    if q.op = 7 ∧ r.code ≠ 8 ∧ r.code ≠ 0xA then s1.set64 R.A_DEP_RESP_Q_LO r.entry else s1
  else { s with dep := { s.dep with out := some r } }

/-- DEP takes requests: it is in RUN and in no containment reset (R267). -/
def State.depRuns (s : State) : Bool := s.get R.DEP_STAT_STATE == 1 && !s.inReset .dep

/-- The group in which DEP takes a request: RELEASE and FREE, then requests on a handle, then ALLOC (R262). -/
def depGroup (q : DepReq) : Nat := if q.op = 3 ∨ q.op = 4 then 0 else if q.op = 1 then 2 else 1

/-- A request joins those that wait, behind those of its own group (R262). -/
def depJoin (q : DepReq) : List DepReq → List DepReq
  | [] => [q]
  | x :: xs => if depGroup q < depGroup x then q :: x :: xs else x :: depJoin q xs

/-- One request: carried out in RUN; in a containment reset, in REBUILD, or while the Depot is not enabled, it waits
(R262, R267). -/
def State.depRequest (s : State) (q : DepReq) : State :=
  if s.depRuns then
    let (r, s1) := s.depTake q
    s1.depAnswer q r
  else
    let s1 : State := { s with dep := { s.dep with wait := depJoin q s.dep.wait } }
    if q.port then s1.set R.DEP_RESP_STAT_BUSY 1 else s1

/-- The requests that waited, in order. -/
def State.depServe (s : State) : List DepReq → State
  | [] => s
  | q :: qs => (s.depRequest q).depServe qs

/-- Takes every waiting request up again. -/
def State.depWake (s : State) : State :=
  let qs := s.dep.wait
  ({ s with dep := { s.dep with wait := [] } }).depServe qs

/-- The Depot request that a write of DEP_REQ names (Table 10-14). -/
def depPortReq (arg v : Nat) : DepReq :=
  ⟨bitsOf v 28 4, bitsOf v 8 8, bitsOf v 0 8, arg, bitOf v 27, bitOf v 26, bitsOf v 24 2, true⟩

/-- A write of DEP_REQ from the control cores; discarded while BUSY, and op 0 has no effect (R270). -/
def State.depPort (s : State) (v : Nat) : State :=
  if s.flag R.DEP_RESP_STAT_BUSY || bitsOf v 28 4 == 0 then s
  else s.depRequest (depPortReq (s.get R.DEP_REQ_ARG_ARG) v)

/-! ### Accesses by handle (R264) -/

/-- The check of an access at its start: its cause of refusal in Table 11-3 (0 none, 1 refusal, 2 content invalid), with
the fault set, and where its bytes lie. -/
def State.depCheck (s : State) (tag h ofs len : Nat) (write : Bool) : Nat × Nat × State :=
  if !s.handleIn h then (1, 0, s.fault .dep 9)
  else
    match s.entryRead (hPool h) (hIndex h) with
    | (none, s1) => (1, 0, s1.fault .dep 9)
    | (some e, s1) =>
      if handleCode 6 tag 0 h e ≠ 0 ∨ len = 0 ∨ poolSize (hPool h) < ofs + len then (1, 0, s1.fault .dep 9)
      else if !write ∧ eInvalid e then (2, 0, s1.fault .dep 10)
      else (0, s1.bufAddr h + ofs, s1)

/-- A read by handle: its cause of failure and the bytes. -/
def State.depReadC (s : State) (tag h ofs len : Nat) : Nat × List Byte × State :=
  let (c, a, s1) := s.depCheck tag h ofs len false
  if c = 0 then s1.memReadC a len else (c, [], s1)

/-- A read by handle. -/
def State.depRead (s : State) (tag h ofs len : Nat) : Option (List Byte) × State :=
  let (c, bs, s1) := s.depReadC tag h ofs len
  (if c = 0 then some bs else none, s1)

/-- A write by handle; the bytes' count is its length. -/
def State.depWriteC (s : State) (tag h ofs : Nat) (bs : List Byte) : Nat × State :=
  let (c, a, s1) := s.depCheck tag h ofs bs.length true
  if c = 0 then s1.memWriteC a bs else (c, s1)

/-- A write by handle: whether it went ahead. -/
def State.depWrite (s : State) (tag h ofs : Nat) (bs : List Byte) : Bool × State :=
  let (c, s1) := s.depWriteC tag h ofs bs
  (c == 0, s1)

/-- An ALLOC by a unit of the part. One that has to wait answers DISCARDED, and the unit asks again. -/
def State.depAlloc (s : State) (tag size : Nat) : DepResp × State :=
  if s.depRuns then s.depTake ⟨1, tag, tag, size, true, false, 0, false⟩ else (⟨tag, 0xA, nullHandle, 0⟩, s)

/-- A request on a handle by a unit of the part, which needs no answer; it waits for RUN (R267). -/
def State.depSend (s : State) (op tag h : Nat) (inv : Bool) : State :=
  let q : DepReq := ⟨op, tag, 0, h, false, inv, 0, false⟩
  if s.depRuns then (s.depTake q).2 else { s with dep := { s.dep with wait := depJoin q s.dep.wait } }

/-- The address lies in the buffers of a pool (R264, R274). -/
def State.inPools (s : State) (a n : Nat) : Bool :=
  (List.range 4).any (fun m => s.poolHere m && overlap (a, n) (s.poolBase m, poolSize m * s.poolCount m))

/-! ### Enabling and rebuilding (R253, R267) -/

/-- A write of DEP_CTRL.EN: 1 is discarded while MEM is not READY or SREF. -/
def State.depEnable (s : State) (en : Bool) : State :=
  let m := s.get R.MEM_STAT_STATE
  if en then
    if m = 2 ∨ m = 3 then
      if s.get R.DEP_STAT_STATE = 0 then ((s.set R.DEP_CTRL_EN 1).set R.DEP_STAT_STATE 1).depWake else s.set R.DEP_CTRL_EN 1
    else s
  else (s.set R.DEP_CTRL_EN 0).set R.DEP_STAT_STATE 0

/-- The indices of pool `n` from `i`, `k` entries, with ALLOC = 0 and RETIRED = 0. -/
def State.freeIndices (s : State) (n : Nat) : Nat → Nat → List Nat × State
  | _, 0 => ([], s)
  | i, k + 1 =>
    let (e, s1) := s.entryRead n i
    let (xs, s2) := s1.freeIndices n (i + 1) k
    (match e with
      | some v => if eAlloc v || eRetired v then xs else i :: xs
      | none => xs, s2)

/-- Rebuilds the ring and cache of pool `n` from its state entries. -/
def State.rebuildPool (s : State) (n : Nat) : State :=
  if s.poolReady n then
    let (xs, s1) := s.freeIndices n 0 (s.poolCount n)
    let k := min (s.pool n).cap xs.length
    let s2 : State := { s1 with dep := { s1.dep with pools := s1.dep.pools.set n { s1.pool n with head := 0 } } }
    let s3 := s2.ringWrite n 0 xs
    s3.setPool n { s3.pool n with cache := xs.take k, head := k % max 1 (s.poolCount n), ringLen := xs.length - k }
  else s

/-- A FREE or RELEASE that a reset has dropped is answered DISCARDED, which is an answer other than OK (R259, R267). -/
def State.depDiscard (s : State) (q : DepReq) : State :=
  if q.op = 3 ∨ q.op = 4 then
    match (if s.handleIn q.arg then s.entryRead (hPool q.arg) (hIndex q.arg) else (none, s)) with
    | (some e, s1) => s1.depReject q 0xA (eOwner e)
    | (none, s1) => s1.depReject q 0xA 0xFF
  else s

/-- The containment reset of DEP: waiting requests are answered DISCARDED and the caches are dropped (R267). -/
def State.depContain (s : State) : State :=
  let port := s.dep.wait.any (fun q => q.port)
  let s1 : State := { s with dep := { s.dep with wait := [], pools := s.dep.pools.map (fun p => { p with cache := [] }) } }
  let s2 := ((((s1.set R.DEP_RESP_HANDLE nullHandle).set R.DEP_RESP_STAT_CODE (if port then 0xA else 0)).set
    R.DEP_RESP_STAT_BUSY 0).wr R.A_DEP_RESP_Q_LO 0).wr R.A_DEP_RESP_Q_HI 0
  s.dep.wait.foldl (fun (t : State) q => t.depDiscard q) ((s2.wr R.A_DEP_REJ_LOG0 0).wr R.A_DEP_REJ_LOG1 0)

/-- The containment reset of DEP ends: REBUILD (R267). -/
def State.depRestart (s : State) : State :=
  if s.flag R.DEP_CTRL_EN then s.set R.DEP_STAT_STATE 2 else s

/-- REBUILD ends: the rings are rebuilt, the caches refilled, the waiting requests served (R267). -/
def State.depRebuilt (s : State) : State :=
  if s.get R.DEP_STAT_STATE ≠ 2 then s
  else
    let s1 := (((s.rebuildPool 0).rebuildPool 1).rebuildPool 2).rebuildPool 3
    ((s1.set R.DEP_STAT_STATE 1).fault .dep 13).depWake

end Sys2Proof.Machine
end

