-- ==== Sys2Proof/Machine/Convoy.lean ====
section
/-!
DEFINITION. Convoy DMA of chapter 11: channels, descriptors, transfers, retries, chains, doorbells and the containment of
an engine.
-/

namespace Sys2Proof.Machine

open Sys2Proof

/-- Engine `e` of State. -/
def State.eng (s : State) (e : Nat) : CvyEng := (s.cvyEng[e]?).getD ⟨.idle, 31, 0, 0, 0, [], 0, 0, 0, none⟩

/-- Channel `c` of engine `e`. -/
def State.chan (s : State) (e c : Nat) : CvyChan := (s.cvyChan[32 * e + c]?).getD ⟨false, false, 0, 0, none, false, false⟩

def State.setEng (s : State) (e : Nat) (x : CvyEng) : State := { s with cvyEng := s.cvyEng.set e x }
def State.setChan (s : State) (e c : Nat) (x : CvyChan) : State := { s with cvyChan := s.cvyChan.set (32 * e + c) x }

/-- The address and LINK_KIND that CUR holds (Table 11-12). -/
def State.cvyCur (s : State) (e c : Nat) : Nat × Nat :=
  (s.get (R.CVY_C_CUR_LO_CUR e c) * 64 + s.get (R.CVY_C_CUR_HI_CUR e c) * 2 ^ 32, s.get (R.CVY_C_CUR_HI_KIND e c))

/-- Sets CUR. -/
def State.setCur (s : State) (e c a kind : Nat) : State :=
  ((s.set (R.CVY_C_CUR_LO_CUR e c) (a % 2 ^ 32 / 64)).set (R.CVY_C_CUR_HI_CUR e c) (a / 2 ^ 32)).set
    (R.CVY_C_CUR_HI_KIND e c) kind

/-- The requester tag of a channel (R272). -/
def cvyTag (e c : Nat) : Nat := 0x40 + 32 * e + c

/-- The channel holds its engine (R271). -/
def State.cvyHolds (s : State) (e c : Nat) : Bool := (s.eng e).phase != .idle && (s.eng e).chan == c

/-- The key of word `w` of the active pair's data memory (Table 15-1). -/
def State.dataKey (s : State) (w : Nat) : EccKey := ⟨true, 1 + s.get R.FLT_CORE_STAT_ACTIVE, 0, w⟩

/-- Words of the on-chip data memory from word `w`, `k` of them, checked (R372, R373). -/
def State.dataWords (s : State) : Nat → Nat → Bool × List Byte × State
  | _, 0 => (true, [], s)
  | w, k + 1 =>
    match s.eccRead (s.dataKey w) (ofLeBytes (bytesAt 0 s.dataMem (8 * w) 8)) false with
    | (none, s1) => (false, [], s1)
    | (some x, s1) =>
      let (ok, bs, s2) := s1.dataWords (w + 1) k
      (ok, leBytes 8 x ++ bs, s2)

/-- A read of the on-chip data memory: its cause of failure and the bytes. -/
def State.dataReadC (s : State) (a n : Nat) : Nat × List Byte × State :=
  if Config.dataMemTop < a + n then (3, [], s)
  else
    let (ok, bs, s1) := s.dataWords (a / 8) ((a + n + 7) / 8 - a / 8)
    if ok then (0, (bs.drop (a % 8)).take n, s1) else (4, [], s1)

/-- The word of the on-chip data memory that holds `a`, for a part write (R375). -/
def State.dataPart (s : State) (a : Nat) : Bool × State :=
  match s.mergeWord (s.dataKey (a / 8)) (ofLeBytes (bytesAt 0 s.dataMem (a / 8 * 8) 8)) with
  | (none, s1) => (false, s1)
  | (some x, s1) => (true, { s1 with dataMem := putBytes 0 s1.dataMem (a / 8 * 8) (leBytes 8 x) })

/-- A write of the on-chip data memory; a word that is covered in part is read, corrected and merged, in one step (R375). -/
def State.dataWriteC (s : State) (a : Nat) (bs : List Byte) : Nat × State :=
  if Config.dataMemTop < a + bs.length then (3, s)
  else
    let e := a + bs.length
    let (ok1, s1) := if a % 8 = 0 ∧ (8 ≤ bs.length ∨ bs.length = 0) then (true, s) else s.dataPart a
    let (ok2, s2) := if e % 8 = 0 ∨ e / 8 = a / 8 then (true, s1) else s1.dataPart e
    if ok1 && ok2 then
      let s3 : State := { s2 with dataMem := putBytes 0 s2.dataMem a bs }
      (0, s3.wordsWritten s3.dataKey ((a + 7) / 8) (e / 8 - (a + 7) / 8))
    else (4, s2)

/-- A read by descriptor link kind: 1 buffer memory, 2 on-chip data memory. -/
def State.linkReadC (s : State) (kind a n : Nat) : Nat × List Byte × State :=
  if kind = 2 then s.dataReadC a n else s.memReadC a n

/-- A write by descriptor link kind. -/
def State.linkWriteC (s : State) (kind a : Nat) (bs : List Byte) : Nat × State :=
  if kind = 2 then s.dataWriteC a bs else s.memWriteC a bs

/-! ### Channel states (R283, R285) -/

/-- The channel enters HALTED (R286). -/
def State.cvyHalt (s : State) (e c cause : Nat) : State :=
  let s1 := ((s.set (R.CVY_C_STAT_STATE e c) 5).set (R.CVY_C_STAT_HALT_CAUSE e c) cause).orBits (R.CVY_E_IRQ_IRQ e) (2 ^ c)
  s1.setChan e c ⟨false, false, 0, 0, none, false, false⟩

/-- The channel enters OFF. -/
def State.cvyOff (s : State) (e c : Nat) : State :=
  (s.set (R.CVY_C_STAT_STATE e c) 0).setChan e c ⟨false, false, 0, 0, none, false, false⟩

/-- The channel asks for the descriptor at CUR. -/
def State.cvyWant (s : State) (e c : Nat) : State := s.setChan e c { s.chan e c with want := true, link := false }

/-- The channel's LINK re-read starts (R281). -/
def State.cvyLink (s : State) (e c : Nat) : State :=
  s.setChan e c { s.chan e c with link := true, linkAt := s.now, linkTries := 0, gapAt := none }

/-- Releases the engine. -/
def State.cvyRelease (s : State) (e : Nat) : State :=
  ((s.setEng e { s.eng e with phase := .idle, desc := [] }).set (R.CVY_E_STAT_BUSY e) 0).clrBits R.CVY_STAT_ENG_BUSY (2 ^ e)

/-- A write of CTRL: EN, START and STOP (R283, R285, Table 11-7). -/
def State.cvyCtrl (s : State) (e c v : Nat) : State :=
  let st := s.get (R.CVY_C_STAT_STATE e c)
  let holds := s.cvyHolds e c
  if !bitOf v 0 then
    if st = 2 ∧ holds then s.setChan e c { s.chan e c with stop := true, off := true }
    else if st = 2 then (s.cvyHalt e c 1).cvyOff e c else s.cvyOff e c
  else
    let s1 := if st = 0 then s.set (R.CVY_C_STAT_STATE e c) 1 else s
    let st1 := if st = 0 then 1 else st
    if bitOf v 2 then
      if holds then s1.setChan e c { s1.chan e c with stop := true, off := false }
      else if st1 = 2 ∨ st1 = 3 ∨ st1 = 4 then s1.cvyHalt e c 1
      else s1
    else if bitOf v 1 ∧ (st1 = 1 ∨ st1 = 5) then
      let kind := s1.get (R.CVY_C_HEAD_HI_KIND e c)
      let a := s1.get (R.CVY_C_HEAD_LO_HEAD e c) * 64 + s1.get (R.CVY_C_HEAD_HI_HEAD e c) * 2 ^ 32
      let s2 := (s1.setCur e c a kind).set (R.CVY_C_STAT_HALT_CAUSE e c) 0
      if kind = 0 ∨ kind = 3 then s2.cvyHalt e c 2
      else (s2.set (R.CVY_C_STAT_STATE e c) 2).cvyWant e c
    else s1

/-- A doorbell (R282). -/
def State.cvyDoorbell (s : State) (e c : Nat) : State :=
  let st := s.get (R.CVY_C_STAT_STATE e c)
  if st = 4 then
    if (s.chan e c).link then s.set (R.CVY_C_STAT_DB_PEND e c) 1 else s.cvyLink e c
  else if st = 3 then s.cvyWant e c
  else if st = 2 then s.set (R.CVY_C_STAT_DB_PEND e c) 1
  else if st = 0 then s.fault .cvy (12 + e)
  else s

/-! ### Granting (R271) -/

/-- The channels of engine `e`, from the one after the channel served last. -/
def State.cvyOrder (s : State) (e : Nat) : List Nat := (List.range 32).map (fun i => ((s.eng e).chan + 1 + i) % 32)

/-- The channel that a free engine grants next. -/
def State.cvyNext (s : State) (e : Nat) : Option Nat :=
  let wants := (s.cvyOrder e).filter (fun c => (s.chan e c).want)
  match wants.find? (fun c => s.flag (R.CVY_C_CTRL_PRIO e c)) with
  | some c => some c
  | none => wants.head?

/-- A free engine grants the next channel. -/
def State.cvyGrant (s : State) (e : Nat) : State :=
  if (s.eng e).phase ≠ .idle ∨ !bitOf (s.get R.CVY_CTRL_ENG_EN) e ∨ s.inReset (.cvy e) then s
  else
    match s.cvyNext e with
    | none => s
    | some c =>
      let s1 := (s.setEng e ⟨.fetch, c, s.now, 0, 0, [], 0, 0, 0, (s.eng e).hostOut⟩).setChan e c
        { s.chan e c with want := false }
      ((s1.set (R.CVY_E_STAT_ACTIVE e) c).set (R.CVY_E_STAT_BUSY e) 1).orBits R.CVY_STAT_ENG_BUSY (2 ^ e)

/-! ### A descriptor's stages (R276 to R280) -/

/-- The engine's next stage. -/
def State.cvyStage (s : State) (e : Nat) (ph : CvyPhase) : State :=
  s.setEng e { s.eng e with phase := ph, since := s.now, tries := 0 }

/-- A stage failed: another try after its gap, or, once the retries are used up, `spent` (R278). -/
def State.cvyRetry (s : State) (e : Nat) (spent : State → State) : State :=
  let x := s.eng e
  if x.tries < s.get R.CVY_CTRL_RETRY then
    s.setEng e { x with phase := .gap x.phase, since := s.now, tries := x.tries + 1 }
  else spent s

/-- The engine gives up on a fetch or a write-back: the channel halts (R279). -/
def State.cvyAbandon (s : State) (e cause : Nat) : State :=
  ((s.cvyRelease e).cvyHalt e (s.eng e).chan cause).fault .cvy (4 + e)

/-- Issues the write of words 6 and 7 (R280). -/
def State.cvyStatus (s : State) (e : Nat) : State :=
  let x := s.eng e
  let (a, kind) := s.cvyCur e x.chan
  let st := x.done % 2 ^ 24 + x.code * 2 ^ 24 + x.retries * 2 ^ 28 + x.cause * 2 ^ 32
  let (c, s1) := s.linkWriteC kind (a + 48) (leBytes 8 st ++ leBytes 8 s.now)
  if c = 0 then s1 else s1.cvyRetry e (fun t => t.cvyAbandon e 3)

/-- The descriptor's end is known: words 6 and 7 are written next. -/
def State.cvyEnd (s : State) (e code cause done : Nat) : State :=
  let x := s.eng e
  let r := if x.phase = .xfer then x.tries else 0
  let s1 := s.setEng e { x with phase := .stat, since := s.now, tries := 0, retries := r, code := code, cause := cause, done := done }
  s1.cvyStatus e

/-- Issues the write of word 0 with OWN = 0. -/
def State.cvyOwnClear (s : State) (e : Nat) : State :=
  let x := s.eng e
  let (a, kind) := s.cvyCur e x.chan
  let w0 := (x.desc[0]?).getD 0
  let (c, s1) := s.linkWriteC kind a (leBytes 8 (putBits w0 24 1 0))
  if c = 0 then s1 else s1.cvyRetry e (fun t => t.cvyAbandon e 3)

/-- Word `i` of the engine's descriptor. -/
def CvyEng.word (x : CvyEng) (i : Nat) : Nat := (x.desc[i]?).getD 0

/-- The descriptor fails the format checks of R276: its CODE. -/
def State.cvyFormat (s : State) (x : CvyEng) : Nat :=
  let w3 := x.word 3
  let op := bitsOf (x.word 0) 26 2
  let sk := bitsOf w3 0 3
  let dk := bitsOf w3 4 3
  let x8 := s.flag R.HIF_CFG_X8
  if bitsOf (x.word 0) 0 24 = 0 then 1
  else if 2 ≤ op ∨ (op = 0 ∧ 5 ≤ sk) ∨ 5 ≤ dk ∨ (x8 ∧ ((op = 0 ∧ sk = 1) ∨ dk = 1)) then 2
  else 0

/-- A doorbell that reached the channel in WAIT while the descriptor was being fetched again acts in RUN (R282). -/
def State.cvyRun (s : State) (e c : Nat) : State :=
  if (s.chan e c).want then
    (s.setChan e c { s.chan e c with want := false }).set (R.CVY_C_STAT_DB_PEND e c) 1
  else s

/-- A descriptor has arrived (R276 steps 1 and 2). -/
def State.cvyFetched (s : State) (e : Nat) : State :=
  let x := s.eng e
  if x.phase ≠ .fetch then s
  else
    let (a, kind) := s.cvyCur e x.chan
    let (c, bs, s1) := s.linkReadC kind a 64
    if c ≠ 0 then s1.cvyRetry e (fun t => t.cvyAbandon e 2)
    else
      let desc := (List.range 8).map (fun i => ofLeBytes ((bs.drop (8 * i)).take 8))
      let s2 := s1.setEng e { x with desc := desc, tries := 0, since := s.now }
      if !bitOf ((desc[0]?).getD 0) 24 then
        let s3 := s2.cvyRelease e
        if (s.chan e x.chan).off then s3.cvyOff e x.chan
        else if (s.chan e x.chan).stop then s3.cvyHalt e x.chan 1
        else s3.set (R.CVY_C_STAT_STATE e x.chan) 3
      else
        let s3 := (s2.set (R.CVY_C_STAT_STATE e x.chan) 2).cvyRun e x.chan
        let f := s3.cvyFormat (s3.eng e)
        if f = 0 then s3.cvyStage e .xfer else s3.cvyEnd e f 0 0

/-- The transfer failed: data at a destination in the part is undefined (free values), and a retry follows or the
descriptor is bad (R278). `stage`: 3 source, 4 destination, 5 read-back. -/
def State.cvyBad (s : State) (e stage cause done : Nat) : State :=
  let x := s.eng e
  let s1 := if x.tries < s.get R.CVY_CTRL_RETRY then s else s.fault .cvy e
  s1.cvyRetry e (fun t => t.cvyEnd e stage cause done)

/-- Host `k` answers requests: its port is up and its controller is not in a reset (Table 11-3 CAUSE 0x9, Table 11-7). -/
def State.hostUp (s : State) (k : Nat) : Bool :=
  s.flag (R.HIF_LINK_UP k) && (match s.hif.ctls[k]? with
    | some c => c.resetAt.isNone
    | none => false)

/-- The source bytes of a transfer, `host` being what the host's memory answers. -/
def State.cvySource (s : State) (e : Nat) (x : CvyEng) (host : List Byte) : Nat × List Byte × State :=
  let len := bitsOf (x.word 0) 0 24
  let src := x.word 1
  if bitsOf (x.word 0) 26 2 = 1 then (0, (List.range len).map (fun i => BitVec.ofNat 8 (bitsOf src (8 * (i % 8)) 8)), s)
  else
    match bitsOf (x.word 3) 0 3 with
    | 0 => if s.hostUp 0 then (0, host, s) else (9, [], s)
    | 1 => if s.hostUp 1 then (0, host, s) else (9, [], s)
    | 2 => s.depReadC (cvyTag e x.chan) (bitsOf src 0 32) (bitsOf src 32 21) len
    | 3 => if s.inPools (bitsOf src 0 35) len then (1, [], s) else s.memReadC (bitsOf src 0 35) len
    | _ => s.dataReadC (bitsOf src 0 32) len

/-- Writes the bytes of a transfer to its destination. -/
def State.cvyDest (s : State) (e : Nat) (x : CvyEng) (bs : List Byte) : Nat × State :=
  let dst := x.word 2
  let k := bitsOf (x.word 3) 4 3
  match k with
  | 2 => s.depWriteC (cvyTag e x.chan) (bitsOf dst 0 32) (bitsOf dst 32 21) bs
  | 3 => if s.inPools (bitsOf dst 0 35) bs.length then (1, s) else s.memWriteC (bitsOf dst 0 35) bs
  | 4 => s.dataWriteC (bitsOf dst 0 32) bs
  | _ => if s.hostUp k then (0, s.setEng e { x with hostOut := some (k, dst, bs) }) else (9, s)

/-- A transfer fails on the way: what it wrote at its destination, and how many bytes it moved, are free (R278, Table 11-3). -/
def State.cvySpoil (s : State) (e stage cause : Nat) (done : Option Nat) : State :=
  let x := s.eng e
  let len := bitsOf (x.word 0) 0 24
  let (v, s1) := s.draw
  let (n, s2) := match done with
    | some n => (min n len, s1)
    | none => ((s1.draw).1 % max 1 len, (s1.draw).2)
  let s3 := if stage = 3 ∧ n = 0 then s2 else (s2.cvyDest e x (leBytes len v)).2
  s3.cvyBad e stage cause n

/-- The transfer's last write response or read-back completion arrives: its bytes have moved (R277). -/
def State.cvyArrived (s : State) (e : Nat) (host : List Byte) : State :=
  let x := s.eng e
  let len := bitsOf (x.word 0) 0 24
  let fromHost := bitsOf (x.word 0) 26 2 = 0 ∧ bitsOf (x.word 3) 0 3 < 2
  if x.phase ≠ .xfer ∨ (fromHost ∧ host.length ≠ len) then s
  else
    let (c, bs, s1) := s.cvySource e x host
    if c = 4 then s1.cvySpoil e 3 4 none
    else if c ≠ 0 then s1.cvyBad e 3 c 0
    else
      let (d, s2) := s1.cvyDest e x bs
      if d ≠ 0 then s2.cvyBad e 4 d 0 else s2.cvyEnd e 0 0 len

/-- The transfer of engine `e` reaches host `k`'s memory. -/
def CvyEng.toHost (x : CvyEng) (k : Nat) : Bool :=
  (x.phase == .xfer || x.phase == .gap .xfer)
    && ((bitsOf (x.word 0) 26 2 == 0 && bitsOf (x.word 3) 0 3 == k) || bitsOf (x.word 3) 4 3 == k)

/-- The port of host `k` goes down, or its controller is reset: transfers under way to it fail with CAUSE 0x9. -/
def State.cvyHostGone (s : State) (k : Nat) : State :=
  (List.range 4).foldl (fun (t : State) e =>
    let x := t.eng e
    if x.phase == .xfer && x.toHost k then
      t.cvyBad e (if bitsOf (x.word 0) 26 2 = 0 ∧ bitsOf (x.word 3) 0 3 = k then 3 else 4) 9 0
    else t) s

/-- A bus error that the environment reports (causes 0x5 to 0x8 are violations by a host, Table 16-5): on the stage the engine is in, or, for `c`, on the LINK re-read of that
channel (R278, R279). -/
def State.cvyBusError (s0 : State) (e : Nat) (c : Option Nat) (stage cause done : Nat) : State :=
  let s := if 5 ≤ cause % 16 ∧ cause % 16 ≤ 8 then s0.ldgProtocol 1 e else s0
  match c with
  | some c =>
    let x := s.chan e c
    if !x.link then s
    else if x.linkTries < s.get R.CVY_CTRL_RETRY then
      s.setChan e c { x with linkTries := x.linkTries + 1, gapAt := some s.now }
    else (s.cvyHalt e c 4).fault .cvy (4 + e)
  | none =>
    match (s.eng e).phase with
    | .fetch => s.cvyRetry e (fun t => t.cvyAbandon e 2)
    | .stat => s.cvyRetry e (fun t => t.cvyAbandon e 3)
    | .own => s.cvyRetry e (fun t => t.cvyAbandon e 3)
    | .xfer => s.cvySpoil e (if stage = 3 then 3 else if stage = 5 then 5 else 4) (cause % 16) (some done)
    | _ => s

/-- A retry's gap ends (R278). -/
def State.cvyAgain (s : State) (e : Nat) (c : Option Nat) : State :=
  let gap := s.get R.CVY_CTRL_RETRY_GAP * 1000
  match c with
  | some c =>
    let x := s.chan e c
    match x.gapAt with
    | some t => if s.passed t (gap * x.linkTries) then s.setChan e c { x with gapAt := none, linkAt := s.now } else s
    | none => s
  | none =>
    let x := s.eng e
    match x.phase with
    | .gap back =>
      if s.passed x.since (gap * x.tries) then
        let s1 := s.setEng e { x with phase := back, since := s.now }
        match back with
        | .stat => s1.cvyStatus e
        | .own => s1.cvyOwnClear e
        | _ => s1
      else s
    | _ => s

/-- The write of words 6 and 7 is answered: the ownership clear follows. -/
def State.cvyWritten (s : State) (e : Nat) : State :=
  if (s.eng e).phase ≠ .stat then s else (s.cvyStage e .own).cvyOwnClear e

/-- The ownership clear is answered: counters, interrupt, the engine free, and the LINK re-read, or the halt that a STOP
asked for (R276 steps 7 and 8, R285). -/
def State.cvyOwned (s : State) (e : Nat) : State :=
  let x := s.eng e
  if x.phase ≠ .own then s
  else
    let c := x.chan
    let s1 := ((s.bump (R.CVY_C_CNT_DESC_DESCS e c) 1).bump (R.CVY_E_CNT_DESC_DESCS e) 1).set (R.CVY_C_STAT_LAST_CODE e c) x.code
    let s2 := if x.code = 0 then s1 else s1.bump (R.CVY_C_CNT_BAD_BAD e c) 1
    let s3 := if x.code ≠ 0 ∨ bitOf (x.word 0) 25 then s2.orBits (R.CVY_E_IRQ_IRQ e) (2 ^ c) else s2
    let s4 := s3.cvyRelease e
    if (s.chan e c).off then (s4.cvyHalt e c 1).cvyOff e c
    else if (s.chan e c).stop then s4.cvyHalt e c 1
    else s4.cvyLink e c

/-- The LINK word returns (R281, R282). -/
def State.cvyLinked (s : State) (e c : Nat) : State :=
  let x := s.chan e c
  if !x.link ∨ x.gapAt.isSome then s
  else
    let (a, kind) := s.cvyCur e c
    let (f, bs, s1) := s.linkReadC kind (a + 32) 8
    if f ≠ 0 then s1.cvyBusError e (some c) 0 f 0
    else
      let w := ofLeBytes bs
      let k := bitsOf w 60 2
      let s2 := s1.setChan e c { x with link := false, linkTries := 0 }
      if k = 0 then
        if s.flag (R.CVY_C_STAT_DB_PEND e c) then (s2.set (R.CVY_C_STAT_DB_PEND e c) 0).cvyLink e c
        else s2.set (R.CVY_C_STAT_STATE e c) 4
      else if k = 3 ∨ w % 64 ≠ 0 then (s2.cvyHalt e c 4).fault .cvy (4 + e)
      else ((s2.setCur e c (bitsOf w 0 35) k).set (R.CVY_C_STAT_STATE e c) 2).cvyWant e c

/-! ### Containment (R287) -/

/-- An engine that has waited 100 µs for a response sets HANG. -/
def State.cvyHang (s : State) (e : Nat) : State :=
  let x := s.eng e
  let waits := match x.phase with
    | .idle => false
    | .gap _ => false
    | _ => true
  let linked := (List.range 32).any (fun c =>
    (s.chan e c).link && (s.chan e c).gapAt.isNone && s.passed (s.chan e c).linkAt 100000)
  if (waits && s.passed x.since 100000) || linked then s.fault .cvy (8 + e) else s

/-- The containment reset of engine `e`: channels in RUN halt with DISCARD. -/
def State.cvyContain (s : State) (e : Nat) : State :=
  let s1 := ((s.cvyRelease e).orBits R.CVY_STAT_ENG_RST (2 ^ e)).set (R.CVY_E_STAT_ACTIVE e) 0
  (List.range 32).foldl (fun (t : State) (c : Nat) =>
    if t.get (R.CVY_C_STAT_STATE e c) = 2 then
      ((t.cvyHalt e c 5).set (R.CVY_C_STAT_DB_PEND e c) 0).set (R.CVY_C_STAT_LAST_CODE e c) 0
    else t) s1

/-- The containment reset of engine `e` ends. -/
def State.cvyRestart (s : State) (e : Nat) : State := s.clrBits R.CVY_STAT_ENG_RST (2 ^ e)

end Sys2Proof.Machine
end

