-- ==== Sys2Proof/Machine/Codeword.lean ====
section
/-!
DEFINITION. The sector on the medium: tag, scrambler, LDPC code and channel bits (R85 to R90). A string of bits is a
number whose bit i is the string's bit i.
-/

namespace Sys2Proof.Machine

open Sys2Proof

/-! ### The tag (R87, R88) -/

/-- `k` steps of the tag's CRC register. -/
def tagSteps : Nat → Nat → Nat
  | 0, r => r
  | k + 1, r =>
    let t := r * 2
    tagSteps k (if 2 ^ 64 ≤ t then Nat.xor (t - 2 ^ 64) 0x42F0E1EBA9EA3693 else t)

/-- The tag of payload bytes under a seed: CRC-64, bytes most significant bit first, no final XOR. -/
def tagOf (seed : Nat) (bs : List Byte) : Nat :=
  bs.foldl (fun r b => tagSteps 8 (Nat.xor r (b.toNat * 2 ^ 56))) (seed % 2 ^ 64)

/-- The bytes of a number, most significant first (R4). -/
def beBytes (k n : Nat) : List Byte := (leBytes k n).reverse

/-- The number that bytes spell, most significant first. -/
def ofBeBytes (bs : List Byte) : Nat := ofLeBytes bs.reverse

/-- The tag seed of a conventional sector and of a packed one (Table 4-3). -/
def seedLba (nsi lba : Nat) : Nat := nsi % 16 * 2 ^ 48 + lba % 2 ^ 48
def seedPacked (addr : Nat) : Nat := 2 ^ 63 + addr % 2 ^ 40

/-- A payload of 4,112 bytes: user data, metadata and tag (R86). -/
def mkPayload (seed : Nat) (dat meta8 : List Byte) : List Byte := dat ++ meta8 ++ beBytes 8 (tagOf seed (dat ++ meta8))

/-- The payload's tag matches the seed (R99). -/
def tagMatches (seed : Nat) (p : List Byte) : Bool := ofBeBytes (p.drop 4104) == tagOf seed (p.take 4104)

/-! ### The scrambler (R89) -/

/-- `k` scrambler bits from register `r`, as a number. -/
def scrBits : Nat → Nat → Nat
  | 0, _ => 0
  | k + 1, r =>
    let s := Nat.xor (r / 2 ^ 30) (r / 2 ^ 27) % 2
    s + 2 * scrBits k ((r * 2 + s) % 2 ^ 31)

/-- The scrambler's bits of a sector. -/
def scrambler : Nat := scrBits 32896 0x7FFFFFFF

/-- A byte's bits the other way round. -/
def revByte (b : Nat) : Nat := (List.range 8).foldl (fun n i => n * 2 + b / 2 ^ i % 2) 0

/-- The payload bits: payload bit i is bit 7 − (i mod 8) of byte i div 8. -/
def payloadBits : List Byte → Nat
  | [] => 0
  | b :: bs => revByte b.toNat + 256 * payloadBits bs

/-- The bytes of payload bits. -/
def bytesOfPayload : Nat → Nat → List Byte
  | 0, _ => []
  | k + 1, n => BitVec.ofNat 8 (revByte (n % 256)) :: bytesOfPayload k (n / 256)

/-! ### The LDPC code (R90) -/

/-- Block column `j` of a codeword: 128 bits. -/
def cwBlock (c j : Nat) : Nat := c / 2 ^ (128 * j) % 2 ^ 128

/-- A circulant of shift `p` times a block: bit t is the block's bit (t + p) mod 128. -/
def circ (p x : Nat) : Nat := x / 2 ^ p + x % 2 ^ p * 2 ^ (128 - p)

/-- The shift of information column `j` in its k-th block row. -/
def ldpcShift (j k : Nat) : Nat := (13 * j * (k + 1) + 29 * k) % 128

/-- What information column `j` contributes to block row `r`. -/
def infoTerm (c r j : Nat) : Nat :=
  (List.range 4).foldl (fun v k => if (j + 8 * k) % 32 = r then Nat.xor v (circ (ldpcShift j k) (cwBlock c j)) else v) 0

/-- The information part of block row `r`: v[r]. -/
def infoRow (c r : Nat) : Nat := (List.range 257).foldl (fun v j => Nat.xor v (infoTerm c r j)) 0

/-- Block row `r` of H × c. -/
def synRow (c r : Nat) : Nat :=
  Nat.xor (infoRow c r) (Nat.xor (cwBlock c (257 + r)) (if r = 0 then 0 else cwBlock c (256 + r)))

/-- The number of unsatisfied checks of a codeword. -/
def unsatisfied (c : Nat) : Nat :=
  (List.range 32).foldl (fun n r => n + ((List.range 128).filter (fun i => synRow c r / 2 ^ i % 2 = 1)).length) 0

/-- The syndrome is zero. -/
def synZero (c : Nat) : Bool := (List.range 32).all (fun r => synRow c r == 0)

/-- The parity blocks from block row `m` on, after parity block `prev`. -/
def parityFrom (c : Nat) : Nat → Nat → Nat → Nat
  | 0, _, _ => 0
  | k + 1, m, prev =>
    let p := Nat.xor (infoRow c m) prev
    p + 2 ^ 128 * parityFrom c k (m + 1) p

/-- The codeword of payload bytes: scrambled information bits, then parity. -/
def encodeCodeword (p : List Byte) : Nat :=
  let info := Nat.xor (payloadBits p) scrambler
  info + 2 ^ 32896 * parityFrom info 32 0 0

/-- The payload bytes of a codeword, descrambled. -/
def decodePayload (c : Nat) : List Byte := bytesOfPayload 4112 (Nat.xor (c % 2 ^ 32896) scrambler)

/-! ### Channel bits (Table 4-2) -/

/-- A pattern of `k` bits sent most significant bit first. -/
def msbFirst : Nat → Nat → Nat
  | 0, _ => 0
  | k + 1, n => n / 2 ^ k % 2 + 2 * msbFirst k n

/-- The 37,120 channel bits of a sector: preamble, sync mark, codeword, postamble. -/
def sectorBits (p : List Byte) : Nat :=
  msbFirst 64 0xCCCCCCCCCCCCCCCC + 2 ^ 64 * msbFirst 40 0xE563A9C16D + 2 ^ 104 * encodeCodeword p
    + 2 ^ 37096 * msbFirst 24 0xCCCCCC

end Sys2Proof.Machine
end

