-- ==== Sys2Proof/Machine/Layout.lean ====
section
/-!
DEFINITION. Where sectors lie: zone-format, adaptation and write-table entries, tracks, slots, positions and physical
addresses (R73 to R75, R91 to R93, R120, R121, R136 to R143).
-/

namespace Sys2Proof.Machine

open Sys2Proof

/-- The bytes of 32-bit words, in order (R2). -/
def wordBytes (ws : List Nat) : List Byte := (ws.map (leBytes 4)).flatten

/-- The CHECK of an entry matches: CRC-16 of all bytes but the last two, low byte first (R92). -/
def entryCheck (ws : List Nat) : Bool :=
  let bs := wordBytes ws
  let n := bs.length - 2
  ofLeBytes (bs.drop n) == crc16 (bs.take n)

/-- An entry as one number: 64-bit word n is its bits [64n + 63 : 64n]. -/
def entryNat (ws : List Nat) : Nat := ofLeBytes (wordBytes ws)

/-- BPR(z) (Table 3-16). -/
def State.bpr (s : State) (z : Nat) : Nat := s.get (R.TTH_ZBPR_BPR z)

/-- Zone-format entry z of sequencer `a` (Table 6-1). -/
def State.zfmt (s : State) (a z : Nat) : List Nat := (List.range 4).map (fun k => s.get (R.SEQ_ZFMT_WORD a (4 * z + k)))
def zTrkFirst (e : Nat) : Nat := bitsOf e 0 22
def zSpt (e : Nat) : Nat := bitsOf e 24 13
def zWspan (e : Nat) : Nat := bitsOf e 48 16
def zTskew (e : Nat) : Nat := bitsOf e 64 27
def zValid (e : Nat) : Bool := bitOf e 111

/-- The zone of track `t` on actuator `a`: among the zones in use, the one with the highest TRK_FIRST at or below it, the
lowest number where several share it (R139). -/
def State.zoneOf (s : State) (a t : Nat) : Option Nat :=
  if s.get (R.SEQ_TRACKS_TRACKS a) ≤ t then none
  else
    ((List.range 120).foldl (fun (m : Option (Nat × Nat)) (z : Nat) =>
      let e := entryNat (s.zfmt a z)
      if zValid e ∧ zTrkFirst e ≤ t then
        match m with
        | some (_, f) => if f < zTrkFirst e then some (z, zTrkFirst e) else m
        | none => some (z, zTrkFirst e)
      else m) none).map (·.1)

/-- Frame length F, data area DLEN and D_TOT of a zone (R136, R137). -/
def State.frameLen (s : State) (a z : Nat) : Nat := s.bpr z / s.get (R.SEQ_FMT_WEDGES a)
def State.dlen (s : State) (a z : Nat) : Nat := s.frameLen a z - zWspan (entryNat (s.zfmt a z))
def State.dTot (s : State) (a z : Nat) : Nat := s.get (R.SEQ_FMT_WEDGES a) * s.dlen a z

/-- The data-stream position of slot `k` of track `t` (R138). -/
def State.slotStart (s : State) (a z t k : Nat) : Nat :=
  let e := entryNat (s.zfmt a z)
  ((t - zTrkFirst e) * zTskew e % s.dTot a z + 37120 * k) % s.dTot a z

/-- The track position of a data-stream position (R137). -/
def State.trackPos (s : State) (a z d : Nat) : Nat :=
  d / s.dlen a z * s.frameLen a z + zWspan (entryNat (s.zfmt a z)) + d % s.dlen a z

/-- The zone-format entry of zone z is usable (R140). -/
def State.zfmtUsable (s : State) (a z : Nat) : Bool :=
  let ws := s.zfmt a z
  let e := entryNat ws
  let w := s.get (R.SEQ_FMT_WEDGES a)
  zValid e && entryCheck ws && s.bpr z != 0 && w != 0 && s.bpr z % w == 0 && decide (zWspan e < s.frameLen a z)
    && decide (37120 * zSpt e ≤ s.dTot a z) && decide (zTskew e < s.dTot a z)

/-- A physical address (R141). -/
def physAddr (surface track slot : Nat) : Nat := surface % 32 * 2 ^ 35 + track % 2 ^ 22 * 2 ^ 13 + slot % 2 ^ 13

/-- The parts of a physical address. -/
def paSurface (p : Nat) : Nat := bitsOf p 35 5
def paTrack (p : Nat) : Nat := bitsOf p 13 22
def paSlot (p : Nat) : Nat := bitsOf p 0 13

/-- Adaptation-table entry z of head h, 16 words (R91). -/
def State.adaptEntry (s : State) (h z : Nat) : List Nat := (List.range 16).map (fun k => s.get (R.CH_ADAPT_WORD h (16 * z + k)))

/-- Write-table entry z of head h, 4 words (R120). -/
def State.wtabEntry (s : State) (h z : Nat) : List Nat := (List.range 4).map (fun k => s.get (R.CH_WTAB_WORD h (4 * z + k)))

/-- The adaptation entry is usable in zone z (R93). -/
def State.entryUsable (s : State) (z : Nat) (ws : List Nat) : Bool :=
  let e := entryNat ws
  ws.length == 16 && bitOf e 191 && entryCheck ws && bitOf e 188 && s.bpr z != 0

/-- The write-table entry is usable (R121). -/
def wentryUsable (ws : List Nat) : Bool := ws.length == 4 && bitOf (entryNat ws) 111 && entryCheck ws

/-- The fields of a write-table entry (Table 5-1). -/
def wIW (e : Nat) : Nat := bitsOf e 24 8
def wOS (e : Nat) : Nat := bitsOf e 32 8
def wOSD (e : Nat) : Nat := bitsOf e 40 4
def wHeatW (e : Nat) : Nat := bitsOf e 48 8
def wHeatR (e : Nat) : Nat := bitsOf e 56 8
def wLaserW (e : Nat) : Nat := bitsOf e 64 8
def wLaserB (e : Nat) : Nat := bitsOf e 72 8
def wHeatLead (e : Nat) : Nat := bitsOf e 80 4 * 16000
def wLaserLead (e : Nat) : Nat := bitsOf e 84 4 * 100

/-- How much earlier than its nominal time the transition at bit k is emitted, in 1/64 bit period (R119). `en`:
PRECOMP_EN; `t0`: a transition at bit k; `t1`, `t2`: at bits k − 1 and k − 2; `first`: the first transition after idle
code. -/
def precomp (e : Nat) (en t0 t1 t2 first : Bool) : Nat :=
  if !en || !t0 || first then 0
  else min 48 ((if t1 then bitsOf e 0 6 else 0) + (if t2 then bitsOf e 6 6 else 0))

/-- The bit clock of zone z in Hz at the present Tether clock (R73). -/
def State.fBit (s : State) (z : Nat) : Nat := s.fTether * s.bpr z / 8388608

/-- The bit clock lies in range (R74). -/
def State.rateOk (s : State) (z : Nat) : Bool := decide (1600000000 ≤ s.fBit z) && decide (s.fBit z ≤ 5600000000)

/-- TTH is in LOCKED, or in WLOCKED (Table 3-2). -/
def State.tthLocked (s : State) : Bool := s.get R.TTH_STAT_STATE == 4 || s.get R.TTH_STAT_STATE == 7

/-- The revolution bit position of a head at Tether angle `a` in 1/256 clock, in 1/16 bit (R75). -/
def bitPosition (a256 bpr phase16 : Nat) : Int :=
  ((a256 * bpr * 16 / (256 * 8388608) : Nat) - (phase16 : Int)) % ((bpr * 16 : Nat) : Int)

end Sys2Proof.Machine
end

