-- ==== Sys2Proof/Machine/DlkReq.lean ====
section
/-!
DEFINITION. Requests to the Darenlen links: frames that wait, their classes and merging (R452 to R455).
-/

namespace Sys2Proof.Machine

open Sys2Proof

/-- Link `a` of State. -/
def State.link (s : State) (a : Nat) : DlkLink := (s.dlk[a]?).getD DlkLink.init
def State.setLink (s : State) (a : Nat) (l : DlkLink) : State := { s with dlk := s.dlk.set a l }

/-- RSP_TMO in ns. -/
def State.rspTmo (s : State) : Nat := s.get R.DLK_CFG_RSP_TMO * 8

/-- The link is UP. -/
def State.dlkUp (s : State) (a : Nat) : Bool := s.get (R.DLK_L_STAT_STATE a) == 4

/-- Scheduling class of a frame (R452). -/
def DlkFrame.cls (f : DlkFrame) : Nat :=
  match f.ty with
  | 6 => 1 | 5 => 2 | 1 => 3 | 2 => 3 | 3 => 3 | 4 => 3 | 7 => 4 | 8 => 4 | _ => 5

/-- A RUN_OFF joins the one that waits; it takes its heads out of every RUN_ON that waits (R452, Table 19-8). -/
def addRunOff (mask : Nat) (l : List DlkFrame) : List DlkFrame :=
  let rest := (l.map (fun f => if f.ty = 5 then { f with b1 := f.b1 - Nat.land f.b1 mask } else f)).filter
    (fun f => !(f.ty == 5 && f.b1 == 0))
  if rest.any (fun f => f.ty == 6) then rest.map (fun f => if f.ty = 6 then { f with b1 := Nat.lor f.b1 mask } else f)
  else rest ++ [⟨6, mask, 0, 0, 0, 0, .plain⟩]

/-- A RUN_ON joins one that waits with equal byte 2 and a latest-issue time within one RSP_TMO (R452). -/
def addRunOn (tmo : Nat) (g : DlkFrame) : List DlkFrame → List DlkFrame
  | [] => [g]
  | f :: fs =>
    if f.ty = 5 ∧ f.b2 = g.b2 ∧ f.latest ≤ g.latest + tmo ∧ g.latest ≤ f.latest + tmo
    then { f with b1 := Nat.lor f.b1 g.b1, latest := min f.latest g.latest } :: fs
    else f :: addRunOn tmo g fs

/-- Requests a frame on link `a`; only a link that is UP takes one. -/
def State.dlkRequest (s : State) (a : Nat) (g : DlkFrame) : State :=
  if !s.dlkUp a then s
  else
    let l := s.link a
    let w := if g.ty = 6 then addRunOff g.b1 l.waiting
      else if g.ty = 5 then addRunOn s.rspTmo g l.waiting else l.waiting ++ [g]
    s.setLink a { l with waiting := w }

/-- RUN_OFF for a head: its ARM no longer counts (R454). -/
def State.runOff (s : State) (h : Nat) : State :=
  let a := h / 6
  let s1 := s.setLink a { s.link a with armed := (s.link a).armed - Nat.land (s.link a).armed (2 ^ (h % 6)) }
  s1.dlkRequest a ⟨6, 2 ^ (h % 6), 0, 0, 0, s.now, .plain⟩

/-- The two RUN_ON frames of a write run with position 0 at `p0` (R453). -/
def State.runOn (s : State) (h p0 heatLead laserLead : Nat) : State :=
  let a := h / 6
  let s1 := s.setLink a { s.link a with armed := (s.link a).armed - Nat.land (s.link a).armed (2 ^ (h % 6)) }
  (s1.dlkRequest a ⟨5, 2 ^ (h % 6), 1, 0, 0, p0 - heatLead - s.rspTmo, .plain⟩).dlkRequest a
    ⟨5, 2 ^ (h % 6), 2, 0, 0, p0 - laserLead - s.rspTmo, .plain⟩

/-- The WRITER, HEATER and LASER frames of a head's write-table entry (R121, R451). -/
def setupFrames (h e : Nat) : List DlkFrame :=
  [⟨2, h % 6, wIW e, wOS e, wOSD e, 0, .plain⟩, ⟨3, h % 6, wHeatW e, wHeatR e, 0, 0, .plain⟩,
   ⟨4, h % 6, wLaserW e, wLaserB e, 0, 0, .plain⟩]

/-- Requests the setup frames of a head at its zone load. -/
def State.dlkSetup (s : State) (h e : Nat) : State :=
  let s1 := s.setLink (h / 6) { s.link (h / 6) with
    badHeads := (s.link (h / 6)).badHeads - Nat.land (s.link (h / 6)).badHeads (2 ^ (h % 6)) }
  (setupFrames h e).foldl (fun (t : State) f => t.dlkRequest (h / 6) { f with latest := t.now }) s1

/-- A new reader selection of link `a` (R455). -/
def State.dlkSelect (s : State) (a mask : Nat) : State :=
  (s.set (R.DLK_L_RSEL_RSEL a) mask).dlkRequest a ⟨1, mask % 64, 0, 0, 0, s.now, .plain⟩

end Sys2Proof.Machine
end

