-- ==== Sys2Proof/Machine/Place.lean ====
section
/-!
DEFINITION. Where heads are: access to a head's, an actuator's and a Gust port's state, the Tether angle, revolution bit
positions of heads and of armed sectors, and what may transfer together (R24, R25, R35, R37, R75, R78, R137, R138).
-/

namespace Sys2Proof.Machine

open Sys2Proof

/-- Head `h` of State. -/
def State.head (s : State) (h : Nat) : HeadSt := (s.heads[h]?).getD HeadSt.init
def State.setHead (s : State) (h : Nat) (x : HeadSt) : State := { s with heads := s.heads.set h x }
def State.modHead (s : State) (h : Nat) (f : HeadSt → HeadSt) : State := s.setHead h (f (s.head h))

/-- The heads of actuator `a`, and all heads. -/
def headsOf (a : Nat) : List Nat := (List.range 6).map (fun j => 6 * a + j)
def allHeads : List Nat := List.range 24

/-- Actuator `a`, head `h` and Gust port `n` of the servo. -/
def State.act (s : State) (a : Nat) : ActSv := (s.srv.acts[a]?).getD ActSv.init
def State.modAct (s : State) (a : Nat) (f : ActSv → ActSv) : State :=
  { s with srv := { s.srv with acts := listMod s.srv.acts a f } }
def State.hsv (s : State) (h : Nat) : HeadSv := (s.srv.heads[h]?).getD HeadSv.init
def State.modHsv (s : State) (h : Nat) (f : HeadSv → HeadSv) : State :=
  { s with srv := { s.srv with heads := listMod s.srv.heads h f } }
def State.gust (s : State) (n : Nat) : GustSt := (s.srv.gust[n]?).getD ⟨0, 0, 0, none, none⟩
def State.modGust (s : State) (n : Nat) (f : GustSt → GustSt) : State :=
  { s with srv := { s.srv with gust := listMod s.srv.gust n f } }

/-- SRV_a_ACT_STAT.STATE, BRIDLE_FIT, and whether head `h`'s write side is in LEAD or OPEN. -/
def State.actState (s : State) (a : Nat) : Nat := s.get (R.SRV_ACT_STAT_STATE a)
def State.bridleFit (s : State) (a : Nat) : Bool := s.flag (R.SRV_ACT_CTRL_BRIDLE_FIT a)
def State.writeBusy (s : State) (h : Nat) : Bool :=
  s.get (R.CH_WR_STAT_STATE h) == 2 || s.get (R.CH_WR_STAT_STATE h) == 3

/-- The target of head `h` in 1/256 track: 256 × TRACK + OFS (R170). -/
def State.targetPos (s : State) (h : Nat) : Int :=
  256 * (s.get (R.SRV_HD_TGT_TRACK h) : Int) + s.getInt (R.SRV_HD_TGT_OFS h)

/-- MR(h, z) of the zone of the head's target track, 1/256 track (Table 7-16); 0 where the track lies in no zone. -/
def State.misreg (s : State) (h : Nat) : Int :=
  match s.zoneOf (h / 6) (s.get (R.SRV_HD_TGT_TRACK h)) with
  | some z => if z % 2 = 1 then s.getInt (R.SRV_MR_MR_ODD h (z / 2)) else s.getInt (R.SRV_MR_MR_EVEN h (z / 2))
  | none => 0

/-- The target of head `h` is out of stroke: more than 32 tracks from the arm position (R174). -/
def State.outOfStroke (s : State) (h : Nat) : Bool :=
  decide (32 * 256 < (s.targetPos h - ((s.act (h / 6)).xArm + s.misreg h)).natAbs)

/-- Sequencer `a` of State, and SEQ_STAT.STATE (Table 6-3). -/
def State.sq (s : State) (a : Nat) : SeqSt :=
  (s.seqs[a]?).getD ⟨[], 0, 0, false, false, false, [], [], [], [], [], false, false, none, 0, none, none, false⟩
def State.modSq (s : State) (a : Nat) (f : SeqSt → SeqSt) : State := { s with seqs := listMod s.seqs a f }
def State.sqState (s : State) (a : Nat) : Nat := s.get (R.SEQ_STAT_STATE a)

/-- MEM is in FAILED. -/
def State.memFailed (s : State) : Bool := s.get R.MEM_STAT_STATE == 4

/-! ### Sinc3 filters (R190, R220) -/

/-- The weight of the bit that came `i` bits before the newest in a sinc3 filter with a decimation of `d`. -/
def sinc3Weight (d i : Nat) : Nat :=
  let t := fun (n : Nat) => (n + 1) * (n + 2) / 2
  if i < d then t i else if i < 2 * d then t i - 3 * t (i - d) else if i + 3 ≤ 3 * d then t (3 * d - 3 - i) else 0

/-- The sum of a sinc3 filter over a bitstream whose newest bit is bit 0: from 0 to d³. -/
def sinc3 (d win : Nat) : Nat := (List.range (3 * d - 2)).foldl (fun n i => n + sinc3Weight d i * bitsOf win i 1) 0

/-- The signed sample of `k` bits that a filter of decimation `d` gives, as a fraction of the sense full scale. -/
def State.filtered (s : State) (d win k : Nat) : Int × State :=
  let (x, s1) := s.openDiv ((sinc3 d win * 2 ^ k : Nat) : Int) (d ^ 3)
  (clampI (-(2 ^ (k - 1) : Nat)) ((2 ^ (k - 1) - 1 : Nat) : Int) (x - (2 ^ (k - 1) : Nat)), s1)

/-! ### The Tether angle and bit positions (R75, R78) -/

/-- The Tether clock of a rotation speed in 1/256 rpm, Hz: 2^23 clocks a revolution (R57). -/
def clockOfSpeed (v : Nat) : Nat := v * 8388608 / 15360

/-- The Tether angle at stamp `t` in 1e-9 clock, from the latest point of the angle at the present frequency; not reduced
modulo a revolution. -/
def State.angleNano (s : State) (t : Nat) : Int :=
  (s.tth.angAt.2 : Int) * 1000000000 + ((t : Int) - (s.tth.angAt.1 : Int)) * (s.fTether : Int)

/-- The Tether angle for stamp `t` as TTH delivers it `err` clocks from the rotor's, by at most 32 (R78). -/
def State.tetherOff (s : State) (t : Nat) (err : Int) : Nat :=
  ((s.angleNano t / 1000000000 + clampI (-32) 32 err) % 8388608).toNat

/-- The Tether angle that TTH delivers for stamp `t`, in clocks: within ±32 clocks, a free choice (R78). -/
def State.tetherAt (s : State) (t : Nat) : Nat × State :=
  let (x, s1) := s.draw
  (s.tetherOff t (((x % 65 : Nat) : Int) - 32), s1)

/-- The Tether angle at stamp `t` in 1/256 clock. -/
def State.angle256 (s : State) (t : Nat) : Nat := (s.angleNano t * 256 / 1000000000 % 2147483648).toNat

/-- The phase word of an adaptation entry: PHASE in 1/16 bit and WDELTA in 1/16 bit (Table 3-5). -/
def ePhase (e : Nat) : Nat := bitsOf e 0 31
def eWdelta (e : Nat) : Int := signedOf (bitsOf e 32 16) 16

/-- The adaptation entry that serves head `h` in zone `z`: the working one in the zone it holds, else the table's. -/
def State.entryFor (s : State) (h z : Nat) : List Nat :=
  if s.get (R.CH_STAT_ZONE h) = z then (s.head h).entry else s.adaptEntry h z

/-- The revolution bit position of head `h` in zone `z` at stamp `t`, in 1/16 bit (R75). -/
def State.headPos (s : State) (h z t : Nat) : Nat :=
  (bitPosition (s.angle256 t) (s.bpr z) (ePhase (entryNat (s.entryFor h z)))).toNat

/-- The position on the track of position `i` of a sector, `back` positions earlier in the data stream (R137, R138). -/
def State.sectorPos (s : State) (a z t k i back : Nat) : Nat :=
  s.trackPos a z ((s.slotStart a z t k + i + (s.dTot a z - back)) % s.dTot a z)

/-- Where head `h` is placed over an armed sector: the zone of its track, with usable entries and a bit clock (R93, R140). -/
def State.placedZone (s : State) (h : Nat) (a : Arm) : Option Nat :=
  match s.zoneOf (h / 6) a.track with
  | some z =>
    if s.zfmtUsable (h / 6) z ∧ s.entryUsable z (s.entryFor h z) ∧ s.fBit z ≠ 0 then some z else none
  | none => none

/-- The reading of R75's formula, in 1/16 bit, at which position `i` of an armed sector passes the head, `back` positions
earlier in the data stream: for a write, shifted by WDELTA. -/
def State.armPos (s : State) (h z : Nat) (a : Arm) (i back : Nat) : Nat :=
  let b : Int := (16 * s.sectorPos (h / 6) z a.track a.slot i back : Nat)
  let w : Int := if a.kind = .write then eWdelta (entryNat (s.entryFor h z)) else 0
  ((b + w) % ((16 * s.bpr z : Nat) : Int)).toNat

/-- Rotation from the present moment until position `i` of an armed sector passes, in 1/16 bit. -/
def State.bitsTo (s : State) (h z : Nat) (a : Arm) (i : Nat) : Nat :=
  (s.armPos h z a i 0 + (16 * s.bpr z - s.headPos h z s.now)) % (16 * s.bpr z)

/-- The stamp at which position `i` of an armed sector passes next, rounded down to a whole ns; none where the head is
not placed over it. -/
def State.stampOf (s : State) (h : Nat) (a : Arm) (i : Nat) : Option Nat :=
  match s.placedZone h a with
  | some z => some (s.now + s.bitsTo h z a i * 1000000000 / (16 * s.fBit z))
  | none => none

/-- An armed sector lies less than 256 channel bits ahead of its head (R156). -/
def State.armLate (s : State) (h : Nat) (a : Arm) : Bool :=
  match s.placedZone h a with
  | some z => decide (s.bitsTo h z a 0 < 4096)
  | none => false

/-- The bound of Table 3-6 on the place of a sector's mark, in 1/16 channel bit. -/
def State.placeBound (s : State) (a : Arm) : Nat :=
  if s.get R.TTH_STAT_STATE = 7 ∧ a.kind ≠ .write then 64 else 24

/-- The head is between `back` data-stream positions before position 0 of an armed sector and that position, to within
1 ns, where the sector lies `off` from its predicted place; a head that is not placed over the sector meets its refusal
at once (R77, Tables 3-6 and 4-6). -/
def State.atSector (s : State) (h : Nat) (a : Arm) (back off : Nat) : Bool :=
  match s.placedZone h a with
  | some z =>
    let m := 16 * s.bpr z
    let slack := 16 * (s.fBit z / 1000000000 + 1) + min off (s.placeBound a)
    let from0 := s.armPos h z a 0 back
    decide ((s.headPos h z s.now + slack + (m - from0)) % m ≤ (s.armPos h z a 0 0 + (m - from0)) % m + 2 * slack)
  | none => true

/-! ### What may transfer together (R24, R25, R35, R37, R109) -/

/-- The read column of Table 2-1: heads that transfer together, in all and on one actuator. -/
def readColumn (m : Nat) : Nat × Nat :=
  if m = mSINGLE ∨ m = mHERITAGE then (1, 1)
  else if m = mBALANCED ∨ m = mARCHIVE then (8, 2)
  else if m = mPARALLEL ∨ m = mMIGRATE ∨ m = mWORKSHOP then (24, 6) else (0, 0)

/-- The read column in force: the lower of the mode's and CAP's (R37). -/
def readLimits (m cap : Nat) : Nat × Nat :=
  let base := readColumn m
  let lim : Nat × Nat := if cap = 1 then readColumn mBALANCED else if cap = 2 then readColumn mSINGLE else (24, 6)
  (min base.1 lim.1, min base.2 lim.2)

/-- A read gate of head `h` is open, and head `h` holds a write grant. -/
def State.gateOpen (s : State) (h : Nat) : Bool := s.rdPool.jobs.any (fun j => j.head == h && !j.captured)
def State.transfers (s : State) (h : Nat) : Bool := s.gateOpen h || (s.head h).grant

/-- The other heads that transfer now, and those that read. -/
def State.otherHeads (s : State) (h : Nat) : List Nat := allHeads.filter (fun k => k != h && s.transfers k)
def State.otherReaders (s : State) (h : Nat) : List Nat := allHeads.filter (fun k => k != h && s.gateOpen k)

/-- Head `h` may be joined by the others of its actuator that transfer: every target is valid and within the stroke of the
arm (R25). -/
def State.togetherOk (s : State) (h : Nat) (others : List Nat) : Bool :=
  others.isEmpty || (h :: others).all (fun k => s.flag (R.SRV_HD_TGT_VALID k) && !s.outOfStroke k)

/-- Head `h` may begin to transfer now under the read column of the mode and of CAP, and under R25. -/
def State.mayTransfer (s : State) (h : Nat) : Bool :=
  let lim := readLimits (s.get R.SYS_MODE_MODE) (s.get R.SYS_MODE_CAP)
  let others := s.otherHeads h
  let mates := others.filter (fun k => k / 6 == h / 6)
  decide (others.length < lim.1) && decide (mates.length < lim.2) && s.togetherOk h mates

end Sys2Proof.Machine
end

