-- ==== Sys2Proof/Machine/WriteGate.lean ====
section
/-!
DEFINITION. The write side of chapter 5: zone loads, the write limiter, gate states, inhibit sources and cuts, the "not
written" class, relocation, counting as written, and ARCHIVE verify.
-/

namespace Sys2Proof.Machine

open Sys2Proof

/-- Tells the command side something. -/
def State.tell (s : State) (e : IoEvent) : State := { s with ioTodo := s.ioTodo ++ [e] }

/-- The physical address of an armed sector on head `h`. -/
def armAddr (h : Nat) (a : Arm) : Nat := physAddr h a.track a.slot

/-- The tag seed of an armed sector (R88, R155). -/
def armSeed (h : Nat) (a : Arm) : Nat := if a.packed then seedPacked (armAddr h a) else seedLba a.nsi a.lba

/-- ARCHIVE limits and verify are in force (Table 5-6). -/
def State.archive (s : State) : Bool := s.mode == mARCHIVE

/-! ### Zone loads (R76, R83, R93, R94, R121) -/

/-- The entry values of the adapted settings: gain, offset and asymmetry of A, B, C (R83), and the 28 taps in units of
1/64 (Table 4-4). -/
def entryAdapt (e : Nat) : List Int :=
  [(bitsOf e 64 8 : Int), bitsOf e 72 8, bitsOf e 80 8, signedOf (bitsOf e 88 8) 8, signedOf (bitsOf e 96 8) 8,
   signedOf (bitsOf e 104 8) 8, signedOf (bitsOf e 112 8) 8, signedOf (bitsOf e 120 8) 8, signedOf (bitsOf e 128 8) 8]
def entryTaps (e : Nat) : List Rat := (List.range 28).map (fun t => (signedOf (bitsOf e (192 + 8 * t) 8) 8 : Rat))

/-- The 32-bit words of `k` 64-bit words of the tables of head `h` from offset `o`; none where one of them is uncorrectable,
which makes the entry unusable (R373, R375, Table 15-1). -/
def State.tableRead (s : State) (h o k : Nat) : List Nat × State :=
  let base := 0x02000000 + 0x10000 * h + o
  match s.sramWords ((List.range k).map (fun i =>
      ((⟨true, 0x20, h, o / 8 + i⟩ : EccKey), (s.rd (base + 8 * i)).toNat + (s.rd (base + 8 * i + 4)).toNat * 2 ^ 32))) with
  | (some ws, s1) => (ws.flatMap (fun w => [w % 2 ^ 32, w / 2 ^ 32]), s1)
  | (none, s1) => ([], s1)

/-- The entries of zone `z` go into the working set of head `h`, with the adapted settings at the entry values (R83, R93,
R121). -/
def State.workingSet (s : State) (h z : Nat) : State :=
  let (ws, s1) := s.tableRead h (0x8000 + 64 * z) 8
  let (wt, s2) := s1.tableRead h (0x2000 + 16 * z) 2
  let e := entryNat ws
  s2.modHead h (fun x => { x with
    entry := ws, wentry := wt, adapt := entryAdapt e, taps := entryTaps e, reload := false })

/-- The read side's state after an entry is in the working set: SETTLE, NOZONE, or UNLOCKED while TTH is not locked; an
open read gate keeps CAPTURE until it closes (Table 4-10). -/
def State.loadedState (s : State) (h : Nat) (usable : Bool) : State :=
  if s.get (R.CH_STAT_STATE h) = 5 ∨ s.get (R.CH_STAT_STATE h) = 0 ∨ s.get (R.CH_STAT_STATE h) = 4 then s
  else s.set (R.CH_STAT_STATE h) (if usable then 2 else 1)

/-- Loads the entries of zone `z` into the working set of head `h`. -/
def State.loadEntries (s : State) (h z : Nat) : State :=
  let s1 := (s.workingSet h z).modHead h (fun x => { x with zonePend := none })
  let wt := (s1.head h).wentry
  let ok := s1.entryUsable z (s1.head h).entry
  let s2 := ((s1.set (R.CH_STAT_ZONE h) (if ok then z else 0x7F))).loadedState h ok
  if wentryUsable wt then s2.dlkSetup h (entryNat wt) else s2

/-- Loads the zone that holds track `t`; a track in no zone leaves NOZONE and sets FMT_BAD (R140). -/
def State.loadZone (s : State) (h t : Nat) : State :=
  match s.zoneOf (h / 6) t with
  | some z => s.loadEntries h z
  | none =>
    ((((s.modHead h (fun x => { x with entry := [], wentry := [], zonePend := none })).set (R.CH_STAT_ZONE h) 0x7F)).loadedState
      h false).fault (.seq (h / 6)) 6

/-- No sector of the head is under way: no read gate is open and no run is in OPEN. -/
def State.zoneFree (s : State) (h : Nat) : Bool := !s.gateOpen h && s.get (R.CH_WR_STAT_STATE h) != 3

/-- LOAD_ZONE: at once, or after the sectors armed before it and the sector or run under way (Tables 5-5 and 6-11). -/
def State.zoneRequest (s : State) (h t : Nat) : State :=
  let x := s.head h
  if s.get (R.CH_STAT_STATE h) = 0 then s
  else if x.arms.isEmpty ∧ s.zoneFree h then s.loadZone h t
  else s.setHead h { x with zonePend := some (x.arms.length, t) }

/-- A waiting zone load takes effect once nothing armed before it is left and no sector of the old zone is under way
(R76, Table 6-11). -/
def State.zoneCatchUp (s : State) (h : Nat) : State :=
  match (s.head h).zonePend with
  | some (0, t) => if s.zoneFree h then s.loadZone h t else s
  | _ => s

/-- The oldest armed sector leaves the queue; a refused transfer ends with its last sector (R74). -/
def State.popArm (s : State) (h : Nat) : State :=
  s.modHead h (fun x => { x with
    arms := x.arms.tail, zonePend := x.zonePend.map (fun e => (e.1 - 1, e.2))
    refused := x.refused && !x.arms.tail.isEmpty })

/-! ### The write limiter (R125) -/

/-- Heads that hold a grant. -/
def State.grants (s : State) : Nat := (s.heads.filter (fun x => x.grant)).length
def State.grantsOf (s : State) (a : Nat) : Nat := (((s.heads.drop (6 * a)).take 6).filter (fun x => x.grant)).length

/-- Gives or takes the grant of head `h`. -/
def State.setGrant (s : State) (h : Nat) (g : Bool) : State :=
  let s1 := s.modHead h (fun x => { x with grant := g })
  s1.set R.SYS_WR_LIMIT_OPEN s1.grants

/-! ### Defect tables and relocation (R144 to R147) -/

/-- The next defect table becomes the active one (R147). -/
def State.defSwapNow (s : State) (a : Nat) : State :=
  (((s.set (R.SEQ_DEF_BASE_LO_BASE a) (s.get (R.SEQ_DEF_NBASE_LO_BASE a))).set (R.SEQ_DEF_BASE_HI_BASE a)
    (s.get (R.SEQ_DEF_NBASE_HI_BASE a))).set (R.SEQ_DEF_COUNT_COUNT a) (s.get (R.SEQ_DEF_NCOUNT_COUNT a))).modSq a
      (fun q => { q with swapPend := false })

/-- A swap that waits takes effect where the sequencer's state lets it: never during a lookup; in RUN only at a Waypoint
poll (R147). -/
def State.defSwapTry (s : State) (a : Nat) (poll : Bool) : State :=
  let q := s.sq a
  if q.swapPend && q.lookup.isNone && (poll || s.sqState a != 1) then s.defSwapNow a else s

/-- The defect table's active entries of actuator `a`: ADDR, KIND, LINK (Table 6-2). -/
def State.defTable (s : State) (a : Nat) : List (Nat × Nat × Nat) :=
  let base := s.get (R.SEQ_DEF_BASE_LO_BASE a) * 16 + s.get (R.SEQ_DEF_BASE_HI_BASE a) * 2 ^ 32
  (List.range (s.get (R.SEQ_DEF_COUNT_COUNT a))).map (fun i =>
    let w0 := ofLeBytes (bytesAt 0 s.mem (base + 16 * i) 8)
    let w1 := ofLeBytes (bytesAt 0 s.mem (base + 16 * i + 8) 8)
    (bitsOf w0 0 40, bitsOf w0 40 2, bitsOf w1 0 40))

/-- Two lists of entries in ascending order of ADDR, merged; at one ADDR the first list's entry stands (R146). -/
def mergeDefects : Nat → List (Nat × Nat × Nat) → List (Nat × Nat × Nat) → List (Nat × Nat × Nat)
  | 0, _, _ => []
  | _ + 1, [], b => b
  | _ + 1, a, [] => a
  | k + 1, x :: a, y :: b =>
    if x.1 < y.1 then x :: mergeDefects k a (y :: b)
    else if y.1 < x.1 then y :: mergeDefects k (x :: a) b
    else x :: mergeDefects k a b

/-- An entry put into a list in ascending order of ADDR. -/
def insertDefect (l : List (Nat × Nat × Nat)) (e : Nat × Nat × Nat) : List (Nat × Nat × Nat) :=
  l.filter (fun x => decide (x.1 < e.1)) ++ [e] ++ l.filter (fun x => decide (e.1 < x.1))

/-- The 16 bytes of a defect-table entry (Table 6-2). -/
def defBytes (e : Nat × Nat × Nat) : List Byte := leBytes 8 (e.1 + e.2.1 * 2 ^ 40) ++ leBytes 8 e.2.2

/-- Where firmware keeps the two copies of an actuator's defect table in buffer memory. -/
def defHome (a copy : Nat) : Nat := 0x80C00000 + 0x4000000 * copy + 0x1000000 * a

/-- Firmware replaces an actuator's table by one with the entries of `new`: a new copy, SEQ_DEF_NBASE and SEQ_DEF_NCOUNT,
and DEF_SWAP (R146, R147). -/
def State.defReplace (s : State) (a : Nat) (new : List (Nat × Nat × Nat)) : State :=
  if s.memFailed then s
  else
    let old := s.defTable a
    let es := mergeDefects (old.length + new.length + 1) (new.foldl insertDefect []) old
    let at0 := s.get (R.SEQ_DEF_BASE_LO_BASE a) * 16 + s.get (R.SEQ_DEF_BASE_HI_BASE a) * 2 ^ 32
    let base := if at0 = defHome a 0 then defHome a 1 else defHome a 0
    let s1 : State := { s with mem := putBytes 0 s.mem base (es.map defBytes).flatten }
    let s2 := ((s1.set (R.SEQ_DEF_NBASE_LO_BASE a) (base / 16)).set (R.SEQ_DEF_NBASE_HI_BASE a) (base / 2 ^ 32)).set
      (R.SEQ_DEF_NCOUNT_COUNT a) es.length
    (s2.modSq a (fun q => { q with swapPend := true })).defSwapTry a false

/-- What firmware knows of a slot: its grown list first, then the table. -/
def State.defectOf (s : State) (addr : Nat) : Option (Nat × Nat × Nat) :=
  match s.grown.find? (fun e => e.1 == addr) with
  | some e => some e
  | none => (s.defTable (paSurface addr / 6)).find? (fun e => e.1 == addr)

/-- The first free spare slot on the spare tracks of a surface and group: lowest track, then lowest slot; group 0 has no
spare tracks (R142, R145). -/
def State.freeSpareOn (s : State) (surf g : Nat) : Option Nat :=
  let a := surf / 6
  let cg := 2 ^ s.get (R.SEQ_FMT_CG_LOG2 a)
  let sp := s.get (R.SEQ_FMT_SPARE_TR a)
  if g = 0 ∨ s.get (R.SEQ_TRACKS_TRACKS a) < (g + 1) * cg then none
  else
    ((List.range sp).map (fun i => (g + 1) * cg - sp + i)).findSome? (fun t =>
      match s.zoneOf a t with
      | none => none
      | some z =>
        ((List.range (zSpt (entryNat (s.zfmt a z)))).map (fun k => physAddr surf t k)).find?
          (fun p => (s.defectOf p).isNone))

/-- The spare for an original address, in the order of R145. -/
def State.findSpare (s : State) (orig : Nat) : Option Nat :=
  let surf := paSurface orig
  let a := surf / 6
  let g := paTrack orig / 2 ^ s.get (R.SEQ_FMT_CG_LOG2 a)
  let others := (List.range 6).map (fun j => 6 * a + j) |>.filter (fun x => x ≠ surf)
  let places := [(surf, g)] ++ others.map (fun x => (x, g)) ++ [(surf, g + 1)] ++ (if 2 ≤ g then [(surf, g - 1)] else [])
  places.findSome? (fun e => s.freeSpareOn e.1 e.2)

/-- Puts an entry into the grown list. -/
def growSet (l : List (Nat × Nat × Nat)) (e : Nat × Nat × Nat) : List (Nat × Nat × Nat) :=
  e :: l.filter (fun x => x.1 != e.1)

/-- A sector is relocated to a spare, or WRITE_FAIL sets and its data is reported (R130, R145). -/
def State.relocate (s : State) (h : Nat) (arm : Arm) : State :=
  let cur := armAddr h arm
  let orig := match s.defectOf cur with
    | some (_, 2, l) => l
    | _ => cur
  match s.findSpare orig with
  | none => (s.fault (.chWr h) 14).tell (.writeFail h arm)
  | some sp =>
    let new := [(orig, 1, sp), (sp, 2, orig)] ++ (if orig = cur then [] else [(cur, 0, 0)])
    let moved : Arm := { arm with track := paTrack sp, slot := paSlot sp, late := false }
    let s1 := ({ s with grown := new.foldl growSet s.grown } : State).defReplace (h / 6) new
    (s1.modHead (paSurface sp) (fun x => { x with held := x.held ++ [moved] })).ldgRaise 0x2003
      (leBytes 5 orig ++ [0, 0, 0] ++ leBytes 5 sp)

/-! ### Cuts and the "not written" class (R126, R128, R130) -/

/-- Sources whose rewrites count (R130): OFFTRACK, FOLLOW, CLE_OVR, CLE_SAT, UNSAFE. -/
def srcCounts (n : Nat) : Bool := (1 ≤ n && n ≤ 4) || n == 7

/-- Sources that take back every sector since the latest passing sample (R128). -/
def srcSample (n : Nat) : Bool := 1 ≤ n && n ≤ 5

/-- One sector goes into the "not written" class: its buffer stays held and it is written again, or it is relocated once
its counted rewrites are used up (R128, R130). -/
def State.notWritten (s : State) (h : Nat) (counts : Bool) (arm : Arm) : State :=
  let s1 := s.bump (R.CH_WR_CNT_REWRITE_COUNT h) 1
  let k := cnt (s.head h).rewrites (armAddr h arm)
  if counts && decide (s.get (R.CH_WR_LIM_WR_RETRY h) ≤ k) then
    (s1.modHead h (fun x => { x with rewrites := setCnt x.rewrites (armAddr h arm) 0 })).relocate h arm
  else
    s1.modHead h (fun x => { x with
      held := x.held ++ [arm],
      rewrites := (if counts then setCnt x.rewrites (armAddr h arm) (k + 1) else x.rewrites) })

/-- The stamp of the latest servo sample before `d` that passed every check. -/
def HeadSt.passBefore (x : HeadSt) (d : Nat) : Nat := if x.passAt < d then x.passAt else x.passPrev

/-- The written sectors that a cut at `d` by sources `srcs` puts into the "not written" class (R128). -/
def HeadSt.cutSet (x : HeadSt) (d : Nat) (srcs : List Nat) : List Written :=
  x.written.filter (fun w =>
    (srcs.any srcSample && decide (x.passBefore d < w.first)) || (srcs.any (· == 7) && decide (d < w.last + 2000)))

/-- The sector started last is no longer in progress once its last bit has passed: it waits to be counted, and the lane is
idle (R118, R129). -/
def HeadSt.curDone (x : HeadSt) (now : Nat) : HeadSt :=
  match x.run with
  | some r => match r.cur with
    | some (a, t, l) =>
      if l ≤ now then { x with run := some { r with cur := none }, lane := none, written := x.written ++ [⟨a, t, l⟩] }
      else x
    | none => x
  | none => x

/-- A run ends without its rest being written: the lane is idle, the grant is released and RUN_OFF requested. -/
def State.runStop (s : State) (h : Nat) : State :=
  ((s.modHead h (fun x => { x with run := none, lane := none })).setGrant h false).runOff h

/-- The address that a WRITE_CUT record names: the sector in progress, or the run's first sector (Table 17-4). -/
def HeadSt.cutAddr (x : HeadSt) (h : Nat) : Nat :=
  match x.run with
  | some r => match r.cur with
    | some (a, _, _) => armAddr h a
    | none => armAddr h r.start
  | none => match x.arms with
    | a :: _ => armAddr h a
    | [] => 0

/-- Slot `k` of track `t` in zone `z` meets the arc that passed head `h` from stamp `from0` to stamp `d` (R131, R137). -/
def State.slotInArc (s : State) (h z t k from0 d : Nat) : Bool :=
  let m := 16 * s.bpr z
  let start := s.headPos h z from0
  let len := (d - from0) * (16 * s.fBit z) / 1000000000
  let first := 16 * s.sectorPos (h / 6) z t k 0 0
  let last := 16 * s.sectorPos (h / 6) z t k 37119 0
  decide (m ≤ len) || decide ((first + m - start % m) % m ≤ len)
    || decide ((start + m - first % m) % m ≤ (last + m - first % m) % m)

/-- The slots of track `t` that the arc meets, slips left out. -/
def State.arcSlots (s : State) (h t from0 d : Nat) : List Nat :=
  match s.zoneOf (h / 6) t with
  | none => []
  | some z => (List.range (zSpt (entryNat (s.zfmt (h / 6) z)))).filter (fun k =>
      s.slotInArc h z t k from0 d && (match s.defectOf (physAddr h t k) with
        | some (_, 0, _) => false
        | _ => true))

/-- |PES| at a detecting sample at or above WOT_ADJ on a head whose gate is cut at `d`: ADJ_SUSPECT sets, and firmware reads
the arc since the latest passing sample on the neighbouring track on the side of the PES sign (R131). -/
def State.adjSuspect (s : State) (h : Nat) (e : Int) (d : Nat) : State :=
  if s.writeBusy h ∧ s.get (R.CH_WR_LIM_WOT_ADJ h) ≤ e.natAbs then
    let t : Int := (s.get (R.SRV_HD_TGT_TRACK h) : Int) + (if e < 0 then -1 else 1)
    let new := if t < 0 then [] else (s.arcSlots h t.toNat ((s.head h).passBefore d) d).map (fun k => (t.toNat, k, false))
    (s.modHead h (fun x => { x with
      adj := x.adj ++ new.filter (fun e => !x.adj.any (fun o => o.1 == e.1 && o.2.1 == e.2.1)) })).fault (.chWr h) 13
  else s

/-- Counts a cut and records it (R126). -/
def State.countCut (s : State) (h src addr : Nat) : State :=
  (s.bump (R.CH_WR_CNT_CUT_COUNT h) 1).ldgRaise 0x2002 ([BitVec.ofNat 8 h, BitVec.ofNat 8 src] ++ leBytes 6 addr)

/-- The written sectors that sources at `d` name go into the "not written" class (R128). -/
def State.takeBack (s : State) (h : Nat) (srcs : List Nat) (d : Nat) : State :=
  let back := (s.head h).cutSet d srcs
  back.foldl (fun (t : State) w => t.notWritten h (srcs.any srcCounts) w.arm)
    (s.modHead h (fun y => { y with written := y.written.filter (fun w => w ∉ back) }))

/-- The cut itself at `d`: the run of head `h` stops; its sectors take their fate (R128). -/
def State.cut (s : State) (h : Nat) (srcs : List Nat) (d : Nat) : State :=
  let s0 := s.modHead h (fun x => x.curDone s.now)
  let x := s0.head h
  let cur := match x.run with
    | some r => r.cur.map (·.1)
    | none => none
  let s1 := ((s0.countCut h (srcs.foldl min 10) (x.cutAddr h)).runStop h).modHead h (fun y => { y with cutAt := some d })
  let s3 := s1.takeBack h srcs d
  let s4 := match cur with
    | some a => s3.notWritten h (srcs.any srcCounts) a
    | none => s3
  s4.zoneCatchUp h

/-- The bit mask of source numbers. -/
def srcMask (srcs : List Nat) : Nat := srcs.foldl (fun k n => Nat.lor k (2 ^ n)) 0

/-- Inhibit sources, detected at `d`, become active on head `h` (R126, Table 5-5): LAST_CAUSE, the stamp and the cut follow
the sources that were not active; two sources of one cycle make one cut, and the lower bit number is the cause. Each
detection sets its bit of CH_WR_FLT_STAT. -/
def State.sourcesOn (s : State) (h : Nat) (srcs : List Nat) (d : Nat) : State :=
  let new := srcs.filter (fun n => !bitOf (s.get (R.CH_WR_INH_SRC h)) n)
  match new with
  | [] => s.setFault (.chWr h) (srcMask srcs)
  | _ =>
    let m := srcMask new
    let st := s.get (R.CH_WR_STAT_STATE h)
    let same := s.get (R.CH_WR_STAT_LAST_CAUSE h) != 15 && s.get64 (R.A_CH_WR_CUT_STAMP_LO h) == d
    let cause := if same then min (s.get (R.CH_WR_STAT_LAST_CAUSE h)) (new.foldl min 10) else new.foldl min 10
    let s1 := ((s.orBits (R.CH_WR_INH_SRC h) m).set (R.CH_WR_STAT_LAST_CAUSE h) cause).set64
      (R.A_CH_WR_CUT_STAMP_LO h) d
    let s2 := s1.modHead h (fun x => { x with
      pass := (x.pass.zipIdx).map (fun e => if bitOf m e.2 then 0 else e.1),
      idleSrc := (if st = 2 ∨ st = 3 then x.idleSrc else Nat.lor x.idleSrc m) })
    let s3 := if st = 2 ∨ st = 3 then s2.cut h new d
      else if (s2.head h).cutAt = some d then s2.takeBack h new d else s2
    let s4 := if st = 0 then s3 else s3.set (R.CH_WR_STAT_STATE h) 4
    s4.setFault (.chWr h) (srcMask srcs)

/-- One source becomes active on each of some heads, detected at `d`, or now. -/
def State.sourceOnAt (s : State) (hs : List Nat) (n d : Nat) : State :=
  hs.foldl (fun (t : State) h => t.sourcesOn h [n] d) s
def State.sourceOnHeads (s : State) (hs : List Nat) (n : Nat) : State := s.sourceOnAt hs n s.now

/-- The heads that Table 5-3 names for a loop. -/
def loopHeads (n : Nat) : List Nat := if n < 24 then [n] else if n < 28 then headsOf (n - 24) else []

/-- A CLE or following-error source of loop `n`, detected at `d`, becomes active; a VCM loop is remembered as the named loop
(R127), and the sample of that moment has not passed every check (R128, R171). -/
def State.loopSource (s : State) (n src d : Nat) : State :=
  let s1 := s.sourceOnAt (loopHeads n) src d
  (loopHeads n).foldl (fun (t : State) h => t.modHead h (fun x => { x with
    srcVcm := (if n < 24 then x.srcVcm else Nat.lor x.srcVcm (2 ^ src))
    passAt := (if x.passAt = d then x.passPrev else x.passAt) })) s1

/-- A source's reopen condition holds: its bit clears, and the gate returns to IDLE when no source is left (R127). -/
def State.sourceOff (s : State) (h n : Nat) : State :=
  if !bitOf (s.get (R.CH_WR_INH_SRC h)) n then s
  else
    let s1 := (s.clrBits (R.CH_WR_INH_SRC h) (2 ^ n)).modHead h (fun x => { x with
      idleSrc := x.idleSrc - Nat.land x.idleSrc (2 ^ n), srcVcm := x.srcVcm - Nat.land x.srcVcm (2 ^ n) })
    if s1.get (R.CH_WR_INH_SRC h) = 0 ∧ s1.get (R.CH_WR_STAT_STATE h) = 4 then s1.set (R.CH_WR_STAT_STATE h) 1 else s1

/-- One source clears on each of some heads. -/
def State.sourceOffHeads (s : State) (hs : List Nat) (n : Nat) : State :=
  hs.foldl (fun (t : State) h => t.sourceOff h n) s

/-- A servo sample of the loop that named `srcs` on head `h` passes every check, or does not: REOPEN passing samples in a
row end a source (R127). `gustClear`: every Gust port that maps to the head has cleared its trip. -/
def State.reopenSample (s : State) (h : Nat) (srcs : List Nat) (pass gustClear : Bool) : State :=
  srcs.foldl (fun (t : State) n =>
    if !bitOf (t.get (R.CH_WR_INH_SRC h)) n then t
    else
      let k := if pass && (n != 5 || gustClear) then ((t.head h).pass[n]?).getD 0 + 1 else 0
      let t1 := t.modHead h (fun x => { x with pass := x.pass.set n k })
      if t.get (R.CH_WR_LIM_REOPEN h) ≤ k then t1.sourceOff h n else t1) s

/-! ### Runs (R122 to R124) -/

/-- The write side may start a run on the head, LIMIT left out (R124). -/
def State.runAllowed (s : State) (h : Nat) : Bool :=
  s.get (R.CH_STAT_STATE h) == 3 && s.tthLocked && wentryUsable (s.head h).wentry
    && !bitOf (s.link (h / 6)).badHeads (h % 6) && bitsOf (s.get (R.CH_WR_INH_SRC h)) 0 10 == 0

/-- Sources that were active on the idle head when a run would start count as cuts now (R126). -/
def State.countIdle (s : State) (h : Nat) : State :=
  let x := s.head h
  let m := Nat.land x.idleSrc (s.get (R.CH_WR_INH_SRC h) % 2 ^ 10)
  (setBits m 10).foldl (fun (t : State) n => t.countCut h n (x.cutAddr h))
    (s.setHead h { x with idleSrc := x.idleSrc - Nat.land x.idleSrc m })

/-- A sector that is not started: it leaves the queue and its buffer stays held (R74, R156). -/
def State.holdArm (s : State) (h : Nat) (a : Arm) : State :=
  (s.popArm h).modHead h (fun x => { x with held := x.held ++ [a] })

/-- Why the transfer of a sector is refused: an unusable zone format or no zone (R140), the bit rate (R74), an unusable
adaptation entry (R93), an unusable write-table entry (R121). -/
structure Refusals where
  fmt : Bool
  rate : Bool
  entry : Bool
  wentry : Bool
  deriving DecidableEq, Repr

/-- The transfer is refused. -/
def Refusals.any (r : Refusals) : Bool := r.fmt || r.rate || r.entry || r.wentry

/-- What refuses a sector on head `h`; from a sector whose rate was out of range on, its transfer stays refused (R74). -/
def State.refusals (s : State) (h : Nat) (a : Arm) : Refusals :=
  let act := h / 6
  let x := s.head h
  ⟨(match s.zoneOf act a.track with
    | some z => !s.zfmtUsable act z
    | none => true),
   x.refused || (match s.zoneOf act a.track with
    | some z => s.bpr z != 0 && !s.rateOk z
    | none => false),
   !s.entryUsable (s.get (R.CH_STAT_ZONE h)) x.entry,
   a.kind == .write && !wentryUsable x.wentry⟩

/-- The flags of the refusals of R74, R93, R121 and R140 set, every one that applies. -/
def State.refuse (s : State) (h : Nat) (a : Arm) : Refusals × State :=
  let r := s.refusals h a
  let s1 := if r.fmt then s.fault (.seq (h / 6)) 6 else s
  let s2 := if r.rate then (s1.fault .tth 7).modHead h (fun x => { x with refused := !x.arms.isEmpty }) else s1
  let s3 := if r.entry then (s2.fault (.chRd h) 0).loadedState h false else s2
  (r, if r.wentry then s3.fault (.chWr h) 11 else s3)

/-- Position 0 of an armed sector lies more than `lead` ns ahead: its run is not to enter LEAD yet. -/
def State.beforeLead (s : State) (h : Nat) (a : Arm) (lead : Nat) : Bool :=
  match s.stampOf h a 0 with
  | some p => decide (s.now + lead < p)
  | none => false

/-- A scheduled write run would enter LEAD, `lead` ns before position 0 of its first sector: a late or refused sector is not started; a run starts where R124 holds, the
limits of the mode allow it and the limiter grants the head (R24, R25, R35, R37, R124, R125, R156). -/
def State.writeRunStart (s : State) (h lead : Nat) : State :=
  let x := s.head h
  let st := s.get (R.CH_WR_STAT_STATE h)
  match x.arms with
  | a :: _ =>
    if a.kind ≠ .write ∨ (st ≠ 1 ∧ st ≠ 4) ∨ !s.tthLocked ∨ s.get (R.CH_STAT_STATE h) = 0 ∨
        s.get (R.CH_STAT_STATE h) = 2 then s
    else if a.late then s.holdArm h a
    else if s.beforeLead h a lead then s
    else if (s.refusals h a).any then (s.refuse h a).2.holdArm h a
    else if bitsOf (s.get (R.CH_WR_INH_SRC h)) 0 10 ≠ 0 then s.countIdle h
    else if !s.runAllowed h ∨ !s.mayTransfer h then s
    else if s.get R.SYS_WR_LIMIT_DEV_MAX ≤ s.grants ∨ s.get R.SYS_WR_LIMIT_ACT_MAX ≤ s.grantsOf (h / 6) then
      s.sourcesOn h [10] s.now
    else
      let e := entryNat x.wentry
      let p0 := (s.stampOf h a 0).getD s.now
      let s1 := ((s.sourceOff h 10).setGrant h true).set (R.CH_WR_STAT_STATE h) 2
      (s1.modHead h (fun y => { y with run := some ⟨a, p0, none⟩ })).runOn h p0 (wHeatLead e) (wLaserLead e)
  | [] => s

/-- The namespace of a sector carries metadata: the 4096+8 format (R86). -/
def State.hasMeta (s : State) (a : Arm) : Bool :=
  !a.packed && s.hif.nss.any (fun n => n.id == a.nsi + 1 && n.fmt == 1)

/-- The data of a write: user bytes, the metadata bytes of the 4096+8 format, else 0x00, and the tag (R86). -/
def State.writePayload (s : State) (h : Nat) (a : Arm) : Option (List Byte) × State :=
  match s.depRead h a.handle 0 4096 with
  | (none, s1) => (none, s1)
  | (some d, s1) =>
    if !s.hasMeta a ∨ poolSize (hPool a.handle) < 4104 then
      (some (mkPayload (armSeed h a) d (List.replicate 8 0)), s1)
    else match s1.depRead h a.handle 4096 8 with
      | (none, s2) => (none, s2)
      | (some m, s2) => (some (mkPayload (armSeed h a) d m), s2)

/-- The shifts of the transitions of channel bits from bit `k` on, in 1/64 bit period (R119). `brk i`: idle code comes
before bit i; `fresh`: no transition has come since idle code; `prev`: bit k − 1; `t1`, `t2`: transitions at bits k − 1 and
k − 2. -/
def laneShifts (e : Nat) (en : Bool) (brk : Nat → Bool) (bits : Nat) :
    Nat → Nat → Bool → Bool → Bool → Bool → List Nat
  | 0, _, _, _, _, _ => []
  | n + 1, k, fresh, prev, t1, t2 =>
    let f := fresh || brk k
    let b := bitOf bits k
    let t := b != prev
    precomp e en t t1 t2 f :: laneShifts e en brk bits n (k + 1) (f && !t) b t t1

/-- Position `i` of a sector follows idle code: it is the first of a data area, or the first of a sector that does not
follow on from the one before it (R118, R138). -/
def State.afterIdle (s : State) (h : Nat) (a : Arm) (cont : Bool) (i : Nat) : Bool :=
  match s.placedZone h a with
  | some z =>
    decide ((s.slotStart (h / 6) z a.track a.slot + i) % s.dTot (h / 6) z % s.dlen (h / 6) z = 0) || (i == 0 && !cont)
  | none => i == 0

/-- What the lane sends for a sector with payload `p`; `cont`: the sector before it has just ended on the lane, with the
postamble bits 1, 0, 0 (R85, R116, R118, R119). -/
def State.laneOut (s : State) (h : Nat) (a : Arm) (cont : Bool) (p : List Byte) : LaneOut :=
  let bits := sectorBits p
  ⟨bits, laneShifts (entryNat (s.head h).wentry) (s.flag (R.CH_WR_CTRL_PRECOMP_EN h)) (s.afterIdle h a cont) bits 37120 0
    false false false cont⟩

/-- The level of the writer lane of head `h` at the present moment: a channel bit, or idle code across wedges and gaps and
at every other time (R116, R118). -/
def State.laneLevel (s : State) (h : Nat) : Option Bool :=
  let x := s.head h
  match x.run, x.lane with
  | some ⟨_, _, some (a, _, _)⟩, some o => match s.placedZone h a with
    | some z =>
      let act := h / 6
      let m : Int := (16 * s.bpr z : Nat)
      let b := (((s.headPos h z s.now : Int) - eWdelta (entryNat x.entry)) % m / 16).toNat
      let w := b / s.frameLen act z
      let o1 := b % s.frameLen act z
      let span := zWspan (entryNat (s.zfmt act z))
      let i := (w * s.dlen act z + (o1 - span) + (s.dTot act z - s.slotStart act z a.track a.slot)) % s.dTot act z
      if o1 < span ∨ 37120 ≤ i then none else some (bitOf o.bits i)
    | none => none
  | _, _ => none

/-- The sector in progress has ended: it waits to be counted (R129). -/
def State.sectorEnd (s : State) (h : Nat) : State :=
  s.modHead h (fun x => match x.run with
    | some r => match r.cur with
      | some (_, _, l) => x.curDone l
      | none => x
    | none => x)

/-- The head's latest sector on the lane is the slot before `a` on its track. -/
def HeadSt.follows (x : HeadSt) (a : Arm) : Bool :=
  match x.run with
  | some r => match r.cur with
    | some (b, _, _) => b.track == a.track && b.slot + 1 == a.slot
    | none => false
  | none => false

/-- The next write sector of a run starts: at position 0 its channel bits go out on the lane. One that was armed less than
256 bits ahead, or that is refused, is not started and its buffer stays held (R74, R156). -/
def State.sectorStart (s : State) (h : Nat) : State :=
  match (s.head h).arms with
  | a :: _ =>
    let cont := (s.head h).follows a
    let s1 := s.sectorEnd h
    if a.late then s1.holdArm h a
    else
      let (bad, s2) := s1.refuse h a
      if bad.any then s2.holdArm h a
      else
        match s2.writePayload h a with
        | (none, s3) => s3.holdArm h a
        | (some p, s3) =>
          let last := (s3.stampOf h a 37119).getD s3.now
          (s3.popArm h).modHead h (fun x => { x with
            run := x.run.map (fun r => { r with cur := some (a, s3.now, last) }), lane := some (s3.laneOut h a cont p) })
  | [] => s

/-- Position 0 of the run's first sector: the gate opens when the ARM reply has arrived (R75, R123, R453). -/
def State.writeGateOpen (s : State) (h off : Nat) : State :=
  match (s.head h).arms with
  | a :: _ =>
    if s.get (R.CH_WR_STAT_STATE h) = 2 ∧ bitOf (s.link (h / 6)).armed (h % 6) ∧ s.atSector h a 0 off then
      (s.set (R.CH_WR_STAT_STATE h) 3).sectorStart h
    else s
  | [] => s

/-- The run's last sector has ended (R123). -/
def State.writeRunEnd (s : State) (h : Nat) : State :=
  let s1 := s.modHead h (fun x => x.curDone s.now)
  let idle : Bool := match (s1.head h).run with
    | some r => r.cur.isNone
    | none => true
  if s.get (R.CH_WR_STAT_STATE h) = 3 ∧ idle then
    ((((s1.runStop h).set (R.CH_WR_STAT_STATE h) (if s.get (R.CH_WR_INH_SRC h) = 0 then 1 else 4)))).zoneCatchUp h
  else s

/-- A write that is abandoned, or whose CH is reset: the sector in progress takes the fate of a cut, with no status bit
(R134). -/
def State.abandonWrite (s : State) (h : Nat) : State :=
  let st := s.get (R.CH_WR_STAT_STATE h)
  if st = 2 ∨ st = 3 then
    let s0 := s.modHead h (fun x => x.curDone s.now)
    let cur := match (s0.head h).run with
      | some r => r.cur.map (·.1)
      | none => none
    let s1 := (s0.runStop h).set (R.CH_WR_STAT_STATE h) (if s.get (R.CH_WR_INH_SRC h) = 0 then 1 else 4)
    match cur with
    | some a => s1.notWritten h false a
    | none => s1
  else s

/-- No ARM reply has arrived by position 0: the run is cancelled, with no inhibit source (R453). -/
def State.armMiss (s : State) (h : Nat) : State :=
  match (s.head h).run with
  | some r =>
    if s.get (R.CH_WR_STAT_STATE h) = 2 ∧ r.p0 ≤ s.now ∧ !bitOf (s.link (h / 6)).armed (h % 6) then
      (((s.runStop h).set (R.CH_WR_STAT_STATE h) 1).fault .dlk (20 + h / 6)).ldgRaise 0x2005
        ([3, BitVec.ofNat 8 (h / 6)] ++ leBytes 2 6)
    else s
  | none => s

/-! ### Counting as written (R129, R132) -/

/-- A unit leaves a buffer: the final owner frees it, any other holder releases it. -/
def State.depDrop (s : State) (tag h : Nat) : State :=
  match s.entryRead (hPool h) (hIndex h) with
  | (some e, s1) => s1.depSend (if eHolds e tag = some (eFinal e) then 4 else 3) tag h false
  | (none, s1) => s1

/-- A written sector may be counted now: a passing sample came after its last bit, and no control computation of that
sample can still cut (R129, Table 5-4). -/
def HeadSt.countable (x : HeadSt) (now : Nat) (w : Written) : Bool :=
  decide (w.last < (if x.passAt + 180 ≤ now then x.passAt else x.passPrev)) && decide (w.last + 2000 ≤ now)

/-- The sectors that may be counted as written are counted: their buffers are released, or, in ARCHIVE, held until the
verify (R129, R132). -/
def State.countWritten (s : State) (h : Nat) : State :=
  let x := (s.head h).curDone s.now
  let ready := x.written.filter (fun w => x.countable s.now w)
  let s1 := s.setHead h { x with written := x.written.filter (fun w => !x.countable s.now w) }
  ready.foldl (fun (t : State) w =>
    let t1 := (t.bump (R.CH_WR_CNT_SECT_COUNT h) 1).modHead h (fun y => { y with
      rewrites := setCnt y.rewrites (armAddr h w.arm) 0 })
    if t.archive then t1.modHead h (fun y => { y with unverified := y.unverified ++ [w.arm] })
    else (t1.depDrop h w.arm.handle).tell (.durable h w.arm)) s1

/-- The first report of a verify read is judged (R132): verified; repeated for POOL_FULL and ABANDONED; else failed, and
the sector is written again, or relocated after VFY_REWRITE failures. -/
def State.verifyJudge (s : State) (h : Nat) (a : Arm) (outcome iter : Nat) : State :=
  let at0 := fun (u : Arm) => u.track == a.track && u.slot == a.slot
  match (s.head h).unverified.find? at0 with
  | none => s
  | some w =>
    let drop := fun (t : State) => t.modHead h (fun x => { x with unverified := x.unverified.filter (fun u => !at0 u) })
    if outcome = 8 ∨ outcome = 9 then s
    else if outcome ≤ 1 ∧ iter ≤ s.get (R.CH_WR_VFY_VFY_ITER h) then
      (((drop s).modHead h (fun x => { x with vfails := setCnt x.vfails (armAddr h w) 0 })).depDrop h w.handle).tell (.durable h w)
    else
      let k := cnt (s.head h).vfails (armAddr h w) + 1
      let s1 := ((drop s).bump (R.CH_WR_CNT_VFY_COUNT h) 1).fault (.chWr h) 12
      if s.get (R.CH_WR_VFY_VFY_REWRITE h) ≤ k then
        (s1.modHead h (fun x => { x with vfails := setCnt x.vfails (armAddr h w) 0 })).relocate h w
      else s1.modHead h (fun x => { x with vfails := setCnt x.vfails (armAddr h w) k, held := x.held ++ [w] })

/-! ### Arming (R155, R156) -/

/-- The defect table of its actuator lists a physical address as a slip (R144). -/
def State.slipAt (s : State) (pa : Nat) : Bool :=
  match s.defectOf pa with
  | some (_, 0, _) => true
  | _ => false

/-- Arms a sector; a full queue discards it and sets ARM_OVF. A slot listed as a slip is never armed (R144). Whether it
was armed too late for its next passage is judged now, or at LOCKED entry while TTH is not locked. A held sector that is
armed again leaves the held class. -/
def State.arm (s : State) (h : Nat) (a : Arm) : State :=
  let x := s.head h
  if s.slipAt (armAddr h a) then s
  else if 8 ≤ x.arms.length then s.fault (.seq (h / 6)) 4
  else s.setHead h { x with
    arms := x.arms ++ [{ a with late := s.tthLocked && s.armLate h a }],
    held := (if a.kind = .write then x.held.filter (fun u => !(u.track == a.track && u.slot == a.slot)) else x.held) }

/-- The 256-bit test of the sectors that are armed at LOCKED entry (R156). -/
def State.armsJudge (s : State) (h : Nat) : State :=
  let x := s.head h
  s.setHead h { x with arms := x.arms.map (fun a => { a with late := s.armLate h a }) }

/-- The arm block of Table 6-8. -/
def armOf (k : ArmKind) (w0 w1 w2 w3 w4 : Nat) : Arm :=
  ⟨k, bitsOf w0 0 22, bitsOf w1 0 13, bitsOf w1 16 4, bitOf w1 20, w2 + 2 ^ 32 * bitsOf w3 0 16, w4, false⟩

/-- The write side follows CH_WR_CTRL.EN and power (Table 5-2). -/
def State.writeEnable (s : State) (h : Nat) (en : Bool) : State :=
  if en then
    if s.get (R.CH_WR_STAT_STATE h) = 0 ∧ s.chPowered h then
      s.set (R.CH_WR_STAT_STATE h) (if s.get (R.CH_WR_INH_SRC h) = 0 then 1 else 4) else s
  else (s.abandonWrite h).set (R.CH_WR_STAT_STATE h) 0

end Sys2Proof.Machine
end

