-- ==== Sys2Proof/Machine/Rte.lean ====
section
/-!
DEFINITION. The Route Table engine of chapter 14: entries, requests, the LIVE, USED and MAPPED counters, and the journal
records that UPDATEs leave (R347 to R350, R366).
-/

namespace Sys2Proof.Machine

open Sys2Proof

/-- Fields of a Route Table entry (Table 14-3). -/
def rtOffset (e : Nat) : Nat := bitsOf e 0 24
def rtBand (e : Nat) : Nat := bitsOf e 24 16
def rtNsect (e : Nat) : Nat := bitsOf e 40 8
def rtState (e : Nat) : Nat := bitsOf e 48 2
def rtLpos (e : Nat) : Nat := bitsOf e 50 3
def rtRunBack (e : Nat) : Nat := bitsOf e 53 11

/-- The entry maps a container. -/
def rtMapped (e : Nat) : Bool := rtState e == 1 || rtState e == 2

/-- The entry breaks the rules of R348, with `bands` bands. -/
def rtMalformed (bands e : Nat) : Bool :=
  match rtState e with
  | 0 => e != 0
  | 1 => rtNsect e == 255 || (rtLpos e == 0 && rtRunBack e != 0) || decide (bands ≤ rtBand e)
  | 2 => rtNsect e != 255 || rtLpos e != 0 || rtRunBack e != 0 || decide (bands ≤ rtBand e)
  | _ => true

/-- Where the table and the band table lie. -/
def State.rtBase (s : State) : Nat := s.get R.RTE_TBL_BASE_LO_BASE * 2 ^ 12 + s.get R.RTE_TBL_BASE_HI_BASE * 2 ^ 32
def State.bandBase (s : State) : Nat := s.get R.RTE_BAND_BASE_LO_BASE * 2 ^ 6 + s.get R.RTE_BAND_BASE_HI_BASE * 2 ^ 32

/-- Reads a Route Table entry. -/
def State.rtRead (s : State) (i : Nat) : Option Nat × State := s.memNat (s.rtBase + 8 * i) 8

/-- Writes a Route Table entry, one 8-byte write. -/
def State.rtWrite (s : State) (i e : Nat) : State := (s.memWrite (s.rtBase + 8 * i) (leBytes 8 e)).2

/-- The namespace that owns an entry index (R347). -/
def State.rtOwner (s : State) (i : Nat) : Option Nat :=
  (List.range 16).find? (fun n => s.flag (R.RTE_NS_CFG_VALID n) && decide (s.get (R.RTE_NS_BASE_BASE n) ≤ i)
    && decide (i < s.get (R.RTE_NS_BASE_BASE n) + s.get (R.RTE_NS_COUNT_COUNT n)))

/-- RTE_NS_nn_USED. -/
def State.rtUsed (s : State) (n : Nat) : Nat := s.get (R.RTE_NS_USED_LO_USED n) + 2 ^ 32 * s.get (R.RTE_NS_USED_HI_USED n)
def State.setRtUsed (s : State) (n x : Nat) : State :=
  (s.set (R.RTE_NS_USED_LO_USED n) x).set (R.RTE_NS_USED_HI_USED n) (x / 2 ^ 32)

/-- Writes the LIVE bits of a band's word; bits [31:24] are firmware's. -/
def State.liveWrite (s : State) (b word live : Nat) : State :=
  (s.memWrite (s.bandBase + 4 * b) (leBytes 4 (putBits word 0 24 live))).2

/-- Takes a mapped entry out of the counters (R350). `word`: its band's word. -/
def State.rtUnmap (s : State) (owner : Option Nat) (e word : Nat) : State :=
  let k := rtNsect e + 1
  let live := bitsOf word 0 24
  let s1 := s.liveWrite (rtBand e) word (live - k)
  let s2 := if live < k then s1.fault .rte 3 else s1
  match owner with
  | some n => (s2.setRtUsed n (s2.rtUsed n - k)).set (R.RTE_NS_MAPPED_MAPPED n) (s2.get (R.RTE_NS_MAPPED_MAPPED n) - 1)
  | none => s2

/-- Adds a mapped entry to the counters (R350). -/
def State.rtMap (s : State) (owner : Option Nat) (e word : Nat) : State :=
  let k := rtNsect e + 1
  let s1 := s.liveWrite (rtBand e) word (bitsOf word 0 24 + k)
  match owner with
  | some n => (s1.setRtUsed n (s1.rtUsed n + k)).set (R.RTE_NS_MAPPED_MAPPED n) (s1.get (R.RTE_NS_MAPPED_MAPPED n) + 1)
  | none => s1

/-- The band word that a mapped entry counts in; 0 for an unmapped entry. -/
def State.bandWord (s : State) (e : Nat) : Option Nat × State :=
  if rtMapped e then s.memNat (s.bandBase + 4 * rtBand e) 4 else (some 0, s)

/-! ### Bands (R344, R363) -/

/-- Usable slots of band `b`: the data tracks of one cylinder group on the six surfaces of one actuator, without slips. -/
def State.bandSlots (s : State) (b : Nat) : Nat :=
  let a := b % 4
  let g := b / 4 + 1
  let cg := 2 ^ s.get (R.SEQ_FMT_CG_LOG2 a)
  let n := cg - s.get (R.SEQ_FMT_SPARE_TR a)
  match s.zoneOf a (g * cg) with
  | none => 0
  | some z =>
    let spt := zSpt (entryNat (s.zfmt a z))
    let slips := (s.defTable a ++ s.grown).filter (fun e => e.2.1 == 0 && paSurface e.1 / 6 == a && paTrack e.1 / cg == g
      && decide (paTrack e.1 % cg < n) && decide (paSlot e.1 < spt))
    6 * n * spt - slips.length

/-- The usable slots of a track, ascending: below SPT and not listed as a slip (R143). -/
def State.usableSlots (s : State) (surf t : Nat) : List Nat :=
  match s.zoneOf (surf / 6) t with
  | none => []
  | some z =>
    let slips := (s.defTable (surf / 6) ++ s.grown).filter (fun e => e.2.1 == 0 && paSurface e.1 == surf && paTrack e.1 == t)
    (List.range (zSpt (entryNat (s.zfmt (surf / 6) z)))).filter (fun k => !slips.any (fun e => paSlot e.1 == k))

/-- Rounds over the surfaces of a stripe: each gives its next up-to-`u` slots, `j` counting the surfaces (R143). -/
def dealSlots (u : Nat) : Nat → List (List Nat) → List (Nat × Nat)
  | 0, _ => []
  | f + 1, ls =>
    if ls.all List.isEmpty then []
    else ((ls.zipIdx).map (fun p => (p.1.take u).map (fun k => (p.2, k)))).flatten ++ dealSlots u f (ls.map (List.drop u))

/-- The slots of surface stripe (a, t) in device order: the surface's place in the actuator, and the slot. -/
def State.stripeSlots (s : State) (a t : Nat) : List (Nat × Nat) :=
  dealSlots (s.get (R.SEQ_UNIT_UNIT a)) 8192 ((List.range 6).map (fun j => s.usableSlots (6 * a + j) t))

/-- The `k`-th usable slot in device order of `m` surface stripes from track `t`, as a physical address. -/
def State.trackSlot (s : State) (a : Nat) : Nat → Nat → Nat → Option Nat
  | 0, _, _ => none
  | m + 1, t, k =>
    let l := s.stripeSlots a t
    if k < l.length then (l[k]?).map (fun p => physAddr (6 * a + p.1) t p.2) else s.trackSlot a m (t + 1) (k - l.length)

/-- The `k`-th usable slot of band `b`: the data tracks of its group in device order, the spare tracks left out (R143,
R344). -/
def State.unitSlot (s : State) (b k : Nat) : Option Nat :=
  let cg := 2 ^ s.get (R.SEQ_FMT_CG_LOG2 (b % 4))
  s.trackSlot (b % 4) (cg - s.get (R.SEQ_FMT_SPARE_TR (b % 4))) ((b / 4 + 1) * cg) k

/-- Block `k` of a namespace over its units: the `k`-th usable slot in device order (R143). -/
def State.unitsSlot (s : State) : List Nat → Nat → Option Nat
  | [], _ => none
  | b :: bs, k => if k < s.bandSlots b then s.unitSlot b k else s.unitsSlot bs (k - s.bandSlots b)

/-- Band `b`. -/
def State.band (s : State) (b : Nat) : Band := (s.rte.bands[b]?).getD ⟨4, 0⟩
def State.setBand (s : State) (b : Nat) (x : Band) : State := { s with rte := { s.rte with bands := s.rte.bands.set b x } }

/-- A container of `k` sectors is appended to band `b` at `ofs` (R363): a FREE band becomes OPEN, and an OPEN band in which
the container had no room becomes FULL; the write pointer advances. -/
def State.bandAppend (s : State) (b ofs k : Nat) : State :=
  let x := s.band b
  if x.st = 0 then
    let s1 := s.setBand b ⟨1, ofs + k⟩
    (List.range s.rte.bands.length).foldl (fun (t : State) i =>
      let y := t.band i
      if i != b && y.st == 1 && decide (t.bandSlots i < y.ptr + k) then t.setBand i { y with st := 2 } else t) s1
  else if x.st = 1 then s.setBand b { x with ptr := max x.ptr (ofs + k) } else s

/-- Cached sectors of a stripe whose writes a Route Table change covers wait for that change to be durable (R366, R367). -/
def State.coverCache (s : State) (own : Option Nat) (i seq since : Nat) : State :=
  match own with
  | none => s
  | some n =>
    let stripe := i - s.get (R.RTE_NS_BASE_BASE n)
    { s with hif := { s.hif with cache := s.hif.cache.map (fun x =>
      if x.ns = n + 1 ∧ x.sec / 256 = stripe ∧ x.stamps.all (fun t => decide (t ≤ since)) then { x with journal := some seq } else x) } }

/-- UPDATE's effect, with the entry found equal (R350), the journal record of the change (R366), and the band it appends
to. -/
def State.rtUpdate (s : State) (i old new wOld since : Nat) : State :=
  let own := s.rtOwner i
  let s1 := s.rtWrite i new
  let s2 := if rtMapped old then s1.rtUnmap own old wOld else s1
  let (w, s3) := s2.bandWord new
  let s4 := if rtMapped new then s3.rtMap own new (w.getD 0) else s3
  let s5 := if rtMapped new then s4.bandAppend (rtBand new) (rtOffset new) (rtNsect new + 1) else s4
  let seq := s5.rte.journalSeq + 1
  let s6 : State := { s5 with rte := { s5.rte with
    journal := s5.rte.journal ++ [⟨seq, i, new, since, 0⟩], journalSeq := seq } }
  if since = 0 then s6 else s6.coverCache own i seq since

/-- Carries out one RTE request: the codes in the order of R349. -/
def State.rteTake (s : State) (q : RteReq) : RteResp × State :=
  let bounds : RteResp × State := (⟨q.tag, 2, 0, 0⟩, s.fault .rte 0)
  let ecc := fun (t : State) => ((⟨q.tag, 4, 0, 0⟩ : RteResp), t.fault .rte 2)
  let look := fun (i : Nat) =>
    if s.get R.RTE_TBL_COUNT_COUNT ≤ i then bounds
    else match s.rtRead i with
      | (none, s1) => ecc s1
      | (some e, s1) => ((⟨q.tag, 0, i, e⟩ : RteResp), s1.bump R.RTE_CNT_LOOKUP_COUNT 1)
  if q.op = 1 then
    if !s.flag (R.RTE_NS_CFG_VALID q.ns) then (⟨q.tag, 3, 0, 0⟩, s.fault .rte 0)
    else
      let stripe := q.a0 / (if s.flag (R.RTE_NS_CFG_EMU q.ns) then 2048 else 256)
      if s.get (R.RTE_NS_COUNT_COUNT q.ns) ≤ stripe then bounds else look (s.get (R.RTE_NS_BASE_BASE q.ns) + stripe)
  else if q.op = 2 then look q.a0
  else if q.op = 3 then
    if s.get R.RTE_TBL_COUNT_COUNT ≤ q.a0 then bounds
    else if rtMalformed (s.get R.RTE_BAND_COUNT_COUNT) q.a2 then (⟨q.tag, 7, 0, 0⟩, s.fault .rte 1)
    else
      match s.rtRead q.a0 with
      | (none, s1) => ecc s1
      | (some e, s1) =>
        match s1.bandWord e with
        | (none, s2) => ecc s2
        | (some w, s2) =>
          match s2.bandWord q.a2 with
          | (none, s3) => ecc s3
          | (some _, s3) =>
            if e ≠ q.a1 then (⟨q.tag, 1, q.a0, e⟩, s3.bump R.RTE_CNT_CASFAIL_COUNT 1)
            else (⟨q.tag, 0, q.a0, q.a2⟩, (s3.rtUpdate q.a0 e q.a2 w q.since).bump R.RTE_CNT_UPDATE_COUNT 1)
  else (⟨q.tag, 6, 0, 0⟩, s)

/-- Gives a response: into the RTE_RESP registers for a request through RTE_REQ, else to its requester. -/
def State.rteAnswer (s : State) (q : RteReq) (r : RteResp) : State :=
  if q.port then
    let s1 := (s.set R.RTE_RESP_STAT_CODE r.code).set R.RTE_RESP_STAT_BUSY 0
    if r.code = 0 then ((s1.set64 R.A_RTE_RESP_LO r.entry).set R.RTE_RESP_IDX_INDEX r.index) else s1
  else { s with rte := { s.rte with out := some r } }

/-- RTE_STAT.QUEUED. -/
def State.rteCount (s : State) : State := s.set R.RTE_STAT_QUEUED (satN s.rte.wait.length 255)

/-- One request: served while RTE runs, else it waits. -/
def State.rteRequest (s : State) (q : RteReq) : State :=
  if s.flag R.RTE_STAT_RUN then
    let (r, s1) := s.rteTake q
    s1.rteAnswer q r
  else
    let s1 := ({ s with rte := { s.rte with wait := s.rte.wait ++ [q] } } : State).rteCount
    if q.port then s1.set R.RTE_RESP_STAT_BUSY 1 else s1

/-- The requests that waited, in order of arrival. -/
def State.rteServe (s : State) : List RteReq → State
  | [] => s
  | q :: qs => (s.rteRequest q).rteServe qs

/-- RTE runs while it is enabled and not in containment reset; what waited is served. -/
def State.rteRun (s : State) : State :=
  let on := s.flag R.RTE_CTRL_EN && !s.inReset .rte
  let s1 := s.setFlag R.RTE_STAT_RUN on
  if on then
    let qs := s1.rte.wait
    (({ s1 with rte := { s1.rte with wait := [] } } : State).rteCount).rteServe qs
  else s1

/-- A write of RTE_REQ from the control cores (Table 14-13). -/
def State.rtePort (s : State) (v : Nat) : State :=
  if s.flag R.RTE_RESP_STAT_BUSY || bitsOf v 28 4 == 0 then s
  else s.rteRequest ⟨bitsOf v 28 4, 0xC0, bitsOf v 16 4, s.get64 R.A_RTE_ARG0_LO, s.get64 R.A_RTE_ARG1_LO,
    s.get64 R.A_RTE_ARG2_LO, 0, true⟩

/-- The containment reset of RTE: taken requests are answered DISCARDED (R370). -/
def State.rteContain (s : State) : State :=
  let port := s.rte.wait.any (fun q => q.port)
  let s1 := ((({ s with rte := { s.rte with wait := [] } } : State).rteCount).set R.RTE_STAT_RUN 0)
  (((s1.set R.RTE_RESP_STAT_CODE (if port then 5 else 0)).set R.RTE_RESP_STAT_BUSY 0).set64 R.A_RTE_RESP_LO 0).set
    R.RTE_RESP_IDX_INDEX 0

/-! ### Durability (R366) -/

/-- The record is in both journal copies: on surfaces of two different actuators. -/
def JournalRec.written (j : JournalRec) : Bool := decide (2 ≤ (setBits j.copies 4).length)

/-- A Route Table change is durable: it is in the checkpoint or its journal record is in both copies. -/
def RteSt.durableSeq (r : RteSt) (seq : Nat) : Bool :=
  decide (seq ≤ r.ckptSeq) || r.journal.any (fun j => j.seq == seq && j.written)

/-- Every change made so far is durable. -/
def RteSt.allDurable (r : RteSt) : Bool := r.journal.all JournalRec.written

/-- The journal records that 16 bytes of a written sector spell gain a copy on actuator `a`: the entry, the index and the low
half of the sequence number (R366). -/
def journalCopied (js : List JournalRec) (a : Nat) (bs : List Byte) : List JournalRec :=
  let w0 := ofLeBytes (bs.take 8)
  let w1 := ofLeBytes (bs.drop 8)
  js.map (fun j =>
    if j.entry = w0 ∧ j.index = bitsOf w1 0 27 ∧ j.seq % 2 ^ 32 = w1 / 2 ^ 32 then { j with copies := Nat.lor j.copies (2 ^ a) }
    else j)

/-- The mapped entries of the table from index `i`, `k` of them. -/
def State.rtSnapshot (s : State) : Nat → Nat → List (Nat × Nat)
  | _, 0 => []
  | i, k + 1 =>
    let e := ofLeBytes (bytesAt 0 s.mem (s.rtBase + 8 * i) 8)
    if e = 0 then s.rtSnapshot (i + 1) k else (i, e) :: s.rtSnapshot (i + 1) k

/-- A checkpoint is written: it holds every change made so far. -/
def State.rtCheckpoint (s : State) : State :=
  { s with rte := { s.rte with
      ckpt := s.rtSnapshot 0 (s.get R.RTE_TBL_COUNT_COUNT), ckptSeq := s.rte.journalSeq, journal := [] } }

/-- Replays journal records up to the first that is not in both copies. -/
def replay : List (Nat × Nat) → List JournalRec → List (Nat × Nat)
  | m, [] => m
  | m, j :: js => if j.written then replay (amSet (fun _ => 0) m j.index j.entry) js else m

/-- The newest entry that a durable record holds. -/
def RteSt.durableEntry (r : RteSt) (i : Nat) : Nat := amGet (fun _ => 0) (replay r.ckpt r.journal) i

/-- Writes loaded entries into the table and counts them. -/
def State.rtLoadEntries (s : State) : List (Nat × Nat) → State
  | [] => s
  | (i, e) :: m =>
    let s1 := s.rtWrite i e
    let (w, s2) := s1.bandWord e
    (if rtMapped e then s2.rtMap (s2.rtOwner i) e (w.getD 0) else s2).rtLoadEntries m

end Sys2Proof.Machine
end

