-- ==== Sys2Proof/Machine/Coding.lean ====
section
/-!
DEFINITION. The 8b/10b line code of the Darenlen links (R440, R441). A symbol is a 10-bit number whose most significant bit
is bit a, the bit sent first. The code tables are those of the published 8b/10b code (PRESUMED: the spec names the code
and gives no table).
-/

namespace Sys2Proof.Machine

open Sys2Proof

/-- The 6-bit groups abcdei of D.0 to D.31 at negative running disparity. -/
def sixBits : List Nat :=
  [0b100111, 0b011101, 0b101101, 0b110001, 0b110101, 0b101001, 0b011001, 0b111000,
   0b111001, 0b100101, 0b010101, 0b110100, 0b001101, 0b101100, 0b011100, 0b010111] ++
  [0b011011, 0b100011, 0b010011, 0b110010, 0b001011, 0b101010, 0b011010, 0b111010,
   0b110011, 0b100110, 0b010110, 0b110110, 0b001110, 0b101110, 0b011110, 0b101011]

/-- The 4-bit groups fghj of .0 to .7 at negative running disparity. -/
def fourBits : List Nat := [0b1011, 0b1001, 0b0101, 0b1100, 0b1101, 0b1010, 0b0110, 0b1110]

/-- The control symbols at negative running disparity: K28.0 to K28.7, K23.7, K27.7, K29.7 and K30.7. -/
def controlBits : List Nat :=
  [0b0011110100, 0b0011111001, 0b0011110101, 0b0011110011, 0b0011110010, 0b0011111010, 0b0011110110, 0b0011111000,
   0b1110101000, 0b1101101000, 0b1011101000, 0b0111101000]

/-- How many of the low `w` bits are 1. -/
def onesIn (w n : Nat) : Nat := (setBits n w).length

/-- The running disparity after a group of `w` bits: it changes unless the group holds as many ones as zeros. -/
def disparityAfter (w : Nat) (rd : Bool) (g : Nat) : Bool := rd != (2 * onesIn w g != w)

/-- The data symbol of byte `b` at running disparity `rd` (true: positive). -/
def dataSymbol (rd : Bool) (b : Nat) : Nat :=
  let x := b % 32
  let y := b / 32 % 8
  let g := (sixBits[x]?).getD 0
  let six := if rd && (2 * onesIn 6 g != 6 || x == 7) then 63 - g else g
  let mid := disparityAfter 6 rd g
  let other := y == 7 && (if mid then [11, 13, 14] else [17, 18, 20]).contains x
  let k := if other then 0b0111 else (fourBits[y]?).getD 0
  let four := if mid && (2 * onesIn 4 k != 4 || y == 3) then 15 - k else k
  16 * six + four

/-- The control symbol with negative-disparity form `k` at running disparity `rd`. -/
def controlSymbol (rd : Bool) (k : Nat) : Nat := if rd then 1023 - k else k

/-- K28.5, the idle comma, and K27.7, the start of a frame (R440). -/
def commaBits : Nat := 0b0011111010
def startBits : Nat := 0b1101101000

/-- The symbol is K28.5 in either form. -/
def isComma (x : Nat) : Bool := x == commaBits || x == 1023 - commaBits

/-- The byte that a data symbol carries at running disparity `rd`, if it is a valid one. -/
def dataByte (rd : Bool) (x : Nat) : Option Nat := (List.range 256).find? (fun b => dataSymbol rd b == x)

/-- The symbol is a valid code of running disparity `rd`. -/
def validSymbol (rd : Bool) (x : Nat) : Bool :=
  controlBits.any (fun k => controlSymbol rd k == x) || (dataByte rd x).isSome

/-- The receiver's running disparity after a symbol, by its ones and zeros. -/
def seenDisparity (rd : Bool) (x : Nat) : Bool :=
  let n := onesIn 10 x
  if 5 < n then true else if n < 5 then false else rd

/-- The data symbols of bytes from running disparity `rd` on, and the disparity they leave. -/
def dataSymbols : Bool → List Byte → List Nat × Bool
  | rd, [] => ([], rd)
  | rd, b :: bs =>
    let x := dataSymbol rd b.toNat
    let r := dataSymbols (disparityAfter 10 rd x) bs
    (x :: r.1, r.2)

/-- A frame on the line at running disparity `rd`: K27.7 and its data symbols, and the disparity it leaves (R440). -/
def frameSymbols (rd : Bool) (bs : List Byte) : List Nat × Bool :=
  let r := dataSymbols (disparityAfter 10 rd startBits) bs
  (controlSymbol rd startBits :: r.1, r.2)

/-- The bytes of data symbols from running disparity `rd` on: none unless every one is a valid data code (R441). -/
def dataBytes : Bool → List Nat → Option (List Byte)
  | _, [] => some []
  | rd, x :: xs =>
    match dataByte rd x, dataBytes (disparityAfter 10 rd x) xs with
    | some b, some bs => some (BitVec.ofNat 8 b :: bs)
    | _, _ => none

/-- The seven bytes of a received frame: K27.7, whose form shows the running disparity, and 7 valid data symbols (R441). -/
def frameOf (xs : List Nat) : Option (List Byte) :=
  match xs with
  | k :: rest =>
    if rest.length ≠ 7 then none
    else if k = startBits then dataBytes false rest
    else if k = 1023 - startBits then dataBytes true rest
    else none
  | [] => none

/-- For each symbol from running disparity `rd` on, whether it is a code or disparity violation (R447). -/
def violations : Bool → List Nat → List Bool
  | _, [] => []
  | rd, x :: xs => (!validSymbol rd x) :: violations (seenDisparity rd x) xs

/-- Some `n` symbols in a row hold at least 4 violations. -/
def fourWithin (n : Nat) : List Bool → Bool
  | [] => false
  | v :: vs => decide (4 ≤ ((v :: vs).take n).countP id) || fourWithin n vs

/-- `n` idles in a row from running disparity `rd` on. -/
def idles : Nat → Bool → List Nat
  | 0, _ => []
  | n + 1, rd => controlSymbol rd commaBits :: idles n (!rd)

/-- The latest 64 symbols are valid K28.5 (Table 19-4). -/
def aligned (xs : List Nat) : Bool :=
  let last := xs.drop (xs.length - 64)
  last == idles 64 false || last == idles 64 true

end Sys2Proof.Machine
end

