-- ==== Sys2Proof/Machine/Equalise.lean ====
section
/-!
DEFINITION. The front end and the equaliser of chapter 4: corrected and interpolated samples, the equaliser output and its
target, adaptation, hard decisions against the sync mark, and sums of LLRs (R81 to R84, R95 to R97, R101, R106).
-/

namespace Sys2Proof.Machine

open Sys2Proof

/-! ### Samples (R82, R95) -/

/-- A sample after baseline offset and asymmetry correction, in fractions of ADC full scale: a code is 1/128 of it, the
offset is in 1/512, and k = ASYM / 128 (Table 4-1). -/
def corrected (ofs asym code : Int) : Rat :=
  let x : Rat := (code : Rat) / 128 - (ofs : Rat) / 512
  x + (asym : Rat) / 128 * x * x

/-- Sample `k` of a list, 0 outside it. -/
def sampleAt (xs : List Rat) (k : Int) : Rat := if k < 0 then 0 else (xs[k.toNat]?).getD 0

/-- Readers A, B and C: the distance of their samples from reader A's, in 1/16 bit (Table 4-4). -/
def eDelay (e i : Nat) : Int := if i = 1 then signedOf (bitsOf e 148 12) 12 else if i = 2 then signedOf (bitsOf e 160 12) 12 else 0

/-- The readers in use, as a mask: those of READERS that FITTED names; reader A is always fitted (R81, R93). -/
def usedReaders (e fitted : Nat) : Nat := Nat.land (bitsOf e 188 3) (Nat.lor fitted 1)

/-- The interpolated sample of bit `k` of reader `i` (R82, R95): 1/64-bit phase, and the reader's delay. -/
def readerSample (e i : Nat) (adapt phase : List Int) (codes : List Int) (k : Int) : Rat :=
  let ofs := (adapt[3 + i]?).getD 0
  let asym := (adapt[6 + i]?).getD 0
  Config.interpolate (sampleAt (codes.map (corrected ofs asym))) (64 * k + (phase[i]?).getD 0 + 4 * eDelay e i)

/-- The first tap, the number of taps and the lead of reader `i` in the equaliser (R95). -/
def tapBase (i : Nat) : Nat := if i = 0 then 0 else if i = 1 then 12 else 20
def tapCount (i : Nat) : Nat := if i = 0 then 12 else 8
def tapLead (i : Nat) : Int := if i = 0 then 5 else 3

/-- Tap `t` of reader `i` applied: the tap is in units of 1/64. -/
def tapTerm (taps : List Rat) (i : Nat) (x : Int → Rat) (k : Int) (t : Nat) : Rat :=
  (taps[tapBase i + t]?).getD 0 / 64 * x (k + tapLead i - t)

/-- What reader `i` adds to y(k). -/
def readerTerm (taps : List Rat) (i : Nat) (x : Int → Rat) (k : Int) : Rat :=
  ((List.range (tapCount i)).map (tapTerm taps i x k)).sum

/-- The equaliser output y(k): the terms of readers A, B and C; those of a reader not in use are 0 (R95). -/
def equalise (used : Nat) (taps : List Rat) (x : Nat → Int → Rat) (k : Int) : Rat :=
  ((List.range 3).map (fun i => if bitOf used i then readerTerm taps i (x i) k else 0)).sum

/-- a(k): +1 for a channel bit 1 and −1 for a 0 (R95). -/
def bitSign (hard : Nat) (k : Nat) : Rat := if bitOf hard k then 1 else -1

/-- The target d(k) = a(k) + G1 × a(k − 1) + G2 × a(k − 2) for k from 2 on (R95). -/
def eTarget (e hard k : Nat) : Rat :=
  bitSign hard k + (signedOf (bitsOf e 172 8) 8 : Rat) / 64 * bitSign hard (k - 1)
    + (signedOf (bitsOf e 180 8) 8 : Rat) / 64 * bitSign hard (k - 2)

/-! ### Adaptation (R83) -/

/-- A rational held between two bounds. -/
def clampQ (lo hi x : Rat) : Rat := if x < lo then lo else if hi < x then hi else x

/-- The reader that tap `n` belongs to. -/
def tapReader (n : Nat) : Nat := if n < 12 then 0 else if n < 20 then 1 else 2

/-- One LMS step of the taps at bit `k`, of step 2^−(8 + MU); taps of a reader not in use hold. -/
def lmsStep (e used hard : Nat) (x : Nat → Int → Rat) (taps : List Rat) (k : Nat) : List Rat :=
  let err := eTarget e hard k - equalise used taps x k
  (taps.zipIdx).map (fun c =>
    let i := tapReader c.2
    if bitOf used i then
      clampQ (-128) 127 (c.1 + 64 * err * x i (k + tapLead i - (c.2 - tapBase i : Nat)) / 2 ^ (8 + bitsOf e 420 4))
    else c.1)

/-- The taps after the codeword of one sector: they adapt from the hard decisions while EQ_EN and ADAPT_EN are 1. -/
def adaptTaps (e used : Nat) (enabled : Bool) (adapt phase : List Int) (fe : FrontEnd) (taps : List Rat) : List Rat :=
  if enabled && bitOf e 419 then
    let x := fun (i : Nat) => readerSample e i adapt phase ((fe.adc[i]?).getD [])
    let n := min 36992 (((fe.adc[0]?).getD []).length - 104)
    (List.range n).foldl (fun t j => lmsStep e used fe.hard x t (104 + j)) taps
  else taps

/-- Settings after one sector's adaptation (R83): `base` are the entry's values; those of a reader not in use hold; gain
stays within 24 steps, 6 dB, of the entry value. True where a gain is at that limit. -/
def adaptStep (e used : Nat) (enabled : Bool) (base cur pre moves : List Int) : List Int × Bool :=
  let out := cur.zipIdx.map (fun c =>
    let i := c.2
    let bit := if i < 3 then 416 else if i < 6 then 417 else 418
    let mv := (if enabled && bitOf e bit then (moves[i]?).getD 0 else 0) + (if i < 3 then (pre[i]?).getD 0 else 0)
    let x := c.1 + mv
    if !bitOf used (i % 3) then c.1
    else if i < 3 then
      let b := (base[i]?).getD 0
      clampI 0 255 (clampI (b - 24) (b + 24) x)
    else clampI (-128) 127 x)
  let lim := (List.range 3).any (fun i =>
    bitOf used i && decide (24 ≤ ((out[i]?).getD 0 - (base[i]?).getD 0).natAbs))
  (out, lim)

/-- Interpolator phases after a sector, within ±0.5 bit; that of a reader not in use holds (R82, R83). -/
def adaptPhase (used : Nat) (cur moves : List Int) : List Int :=
  cur.zipIdx.map (fun c => if bitOf used c.2 then clampI (-32) 32 (c.1 + (moves[c.2]?).getD 0) else c.1)

/-- ADC samples at either end of the 7-bit range (R84). -/
def clipCount (codes : List Int) : Nat := (codes.filter (fun c => decide (c ≤ -64) || decide (63 ≤ c))).length

/-- The filter in force in a zone: corner (16 + CTF_FC) / 128 of the bit clock, and CTF_BOOST (Table 4-1). -/
def ctfOf (e fBit : Nat) : Nat × Nat := ((16 + bitsOf e 136 6) * fBit / 128, bitsOf e 142 5)

/-! ### The sync mark (R97) -/

/-- The 40 channel bits of the sync mark, the first one sent in bit 0 (Table 4-2). -/
def syncPattern : Nat := msbFirst 40 0xE563A9C16D

/-- In how many bits the 40 hard decisions that end `o` bits after P differ from the sync mark; bit b of `hard` is the hard
decision at P − 128 + b. -/
def markDiff (hard : Nat) (o : Int) : Nat :=
  let d := Nat.xor (bitsOf hard (o + 89).toNat 40) syncPattern
  ((List.range 40).filter (fun i => bitOf d i)).length

/-- Every candidate last-bit position from P − WIN to P + WIN, with its differing bits. -/
def marksOf (win hard : Nat) : List (Int × Nat) :=
  (List.range (2 * win + 1)).map (fun i => ((i : Int) - win, markDiff hard ((i : Int) - win)))

/-! ### LLRs (R96, R101, R106) -/

/-- LLRs of 5 bits, −15 to +15. -/
def llr5 (l : List Int) : List Int := l.map (clampI (-15) 15)

/-- LLRs aligned at offset `o`, added to a sum of 7-bit values that saturate at ±63: codeword bit i lies 66 + o + i LLRs
into the slot. -/
def addLlr (acc llr : List Int) (o : Int) : List Int :=
  (List.range 36992).map (fun (i : Nat) => clampI (-63) 63 ((acc[i]?).getD 0 + (llr[(66 + o + i).toNat]?).getD 0))

end Sys2Proof.Machine
end

