-- ==== Sys2Proof/Machine/ReadChan.lean ====
section
/-!
DEFINITION. The read side of chapter 4: read gates and LLR slots, sync decisions and candidates, the decoder pool, the
retry store and deep decodes, sector reports, and abandoned reads.
-/

namespace Sys2Proof.Machine

open Sys2Proof

/-! ### The pool's own state -/

/-- Entries of the retry store in use: the sums that hold a read (R106). -/
def PoolRd.retryUsed (p : PoolRd) : Nat := (p.retry.filter (fun e => !e.sum.isEmpty)).length

/-- LOW_ITER follows the candidates that wait, by BACKLOG_HI and BACKLOG_LO (R103). -/
def State.lowIter (s : State) : State :=
  if s.get R.LDPC_POOL_BKLG_BACKLOG_HI < s.rdPool.queue.length then s.setFlag R.LDPC_POOL_STAT_LOW_ITER true
  else if s.rdPool.queue.length < s.get R.LDPC_POOL_BKLG_BACKLOG_LO then s.setFlag R.LDPC_POOL_STAT_LOW_ITER false
  else s

/-- Replaces the LDPC pool's state; LDPC_POOL_STAT follows (Table 4-24). -/
def State.setPoolRd (s : State) (p : PoolRd) : State :=
  (((({ s with rdPool := p }).set R.LDPC_POOL_STAT_QUEUED (satN p.queue.length 255)).set
    R.LDPC_POOL_STAT_SLOTS_USED p.slots.length).set R.LDPC_POOL_STAT_RETRY_USED p.retryUsed).lowIter

/-- The read with this number. -/
def PoolRd.job (p : PoolRd) (id : Nat) : Option ReadJob := p.jobs.find? (fun j => j.id == id)

/-- Replaces a read in the pool. -/
def State.putJob (s : State) (j : ReadJob) : State :=
  s.setPoolRd { s.rdPool with jobs := s.rdPool.jobs.map (fun k => if k.id = j.id then j else k) }

/-- The two arms name the same sector. -/
def sameSector (a b : Arm) : Bool := a.track == b.track && a.slot == b.slot

/-- The retry-store entry of a sector of head `h` (R106). -/
def PoolRd.entryOf (p : PoolRd) (h : Nat) (a : Arm) : Option RetryEnt :=
  p.retry.find? (fun e => e.head == h && e.track == a.track && e.slot == a.slot)

/-- Frees the retry-store entry of a sector. -/
def State.retryFree (s : State) (h : Nat) (a : Arm) : State :=
  s.setPoolRd { s.rdPool with
    retry := s.rdPool.retry.filter (fun e => !(e.head == h && e.track == a.track && e.slot == a.slot)) }

/-- Changes the retry-store entry of a sector. -/
def State.retryMod (s : State) (h : Nat) (a : Arm) (f : RetryEnt → RetryEnt) : State :=
  s.setPoolRd { s.rdPool with retry := s.rdPool.retry.map (fun e =>
    if e.head == h && e.track == a.track && e.slot == a.slot then f e else e) }

/-- Frees the retry-store entries of actuator `a`, whose sequencer entered STOPPED or RESET (R106). -/
def State.retryFreeAct (s : State) (a : Nat) : State :=
  s.setPoolRd { s.rdPool with retry := s.rdPool.retry.filter (fun e => e.head / 6 != a) }

/-- Decoder `n` is enabled, not in reset and in service. -/
def State.decEnabled (s : State) (n : Nat) : Bool :=
  s.flag (R.LDPC_CTRL_EN n) && !s.inReset (.dec n) && !s.flt.outOfService.any (fun u => decide (u = .dec n))

/-- k of R109: enabled stream decoders without a fault. -/
def State.streamCount (s : State) : Nat :=
  ((List.range 16).filter (fun n => s.decEnabled n && !s.faultIs (.ldpc n) 0)).length

/-- NO_DECODER sets while no stream decoder is available (R109). -/
def State.decCheck (s : State) : State := if s.streamCount = 0 then s.fault .pool 1 else s

/-- The decoder shows the decode it runs, or idle (Table 4-19). -/
def State.decShow (s : State) (n : Nat) : State :=
  match (s.rdPool.decs[n]?).getD none with
  | none => ((s.set (R.LDPC_STAT_HEAD n) 31).set (R.LDPC_STAT_ITER n) 0).setFlag (R.LDPC_STAT_BUSY n) false
  | some r =>
    let id := match r.work with
      | .cand j _ => j
      | .deep j => j
    let h := match s.rdPool.job id with
      | some j => j.head
      | none => 31
    ((s.set (R.LDPC_STAT_HEAD n) h).set (R.LDPC_STAT_ITER n) 0).setFlag (R.LDPC_STAT_BUSY n) true

/-- Sets what decoder `n` runs. -/
def State.setDec (s : State) (n : Nat) (r : Option DecRun) : State :=
  (s.setPoolRd { s.rdPool with decs := s.rdPool.decs.set n r }).decShow n

/-- The work belongs to read `id`. -/
def DecWork.of (w : DecWork) (id : Nat) : Bool :=
  match w with
  | .cand j _ => j == id
  | .deep j => j == id

/-- The slot number of a read that holds no slot. -/
def noSlot : Nat := 128

/-- A read leaves the pool: its candidates and deep decode are cancelled and its slot is freed (R99, R101, R112). -/
def State.dropJob (s : State) (id : Nat) : State :=
  let p := s.rdPool
  let slot := match p.job id with
    | some j => [j.slot]
    | none => []
  let busy := (List.range 18).filter (fun n => match (p.decs[n]?).getD none with
    | some r => r.work.of id
    | none => false)
  let s1 := s.setPoolRd { p with
    jobs := p.jobs.filter (fun j => j.id != id), queue := p.queue.filter (fun e => e.1 != id),
    deepQ := p.deepQ.filter (fun e => e != id), slots := p.slots.filter (fun k => !slot.contains k) }
  busy.foldl (fun (t : State) n => t.setDec n none) s1

/-! ### Sector reports (R110, R111, Tables 4-7 and 4-8) -/

/-- The report's fields beside the sector's place. -/
structure RptArgs where
  outcome : Nat
  stamp : Nat
  reads : Nat := 0
  tag : Bool := false
  dec : Nat := 31
  iter : Nat := 0
  mark : Option Int := none
  blind : Option Int := none
  chosePred : Bool := false

/-- The 128 bits of a sector report (Table 4-8). -/
def reportBits (a : Arm) (r : RptArgs) : Nat :=
  let w2 := a.slot % 2 ^ 13 + r.outcome % 16 * 2 ^ 16 + r.reads % 8 * 2 ^ 20 + b2n r.tag * 2 ^ 23 + r.dec % 32 * 2 ^ 24
  let mark := match r.mark with
    | some e => unsignedOf e 8
    | none => 0x80
  let blind := match r.blind with
    | some e => unsignedOf e 4
    | none => 8
  let w3 := r.iter % 64 + mark * 2 ^ 6 + blind * 2 ^ 14 + b2n r.chosePred * 2 ^ 18
  r.stamp % 2 ^ 32 + a.track % 2 ^ 22 * 2 ^ 32 + w2 * 2 ^ 64 + w3 * 2 ^ 96

/-- The counter of an outcome (Table 4-14). -/
def outcomeCounter (h o : Nat) : Option Fld :=
  match o with
  | 0 => some (R.CH_CNT_GOOD_COUNT h)
  | 1 => some (R.CH_CNT_ALT_COUNT h)
  | 2 => some (R.CH_CNT_BLIND_COUNT h)
  | 3 => some (R.CH_CNT_RETRY_COUNT h)
  | 4 => some (R.CH_CNT_DEEP_COUNT h)
  | 5 => some (R.CH_CNT_FAIL_COUNT h)
  | 6 => some (R.CH_CNT_UNREC_COUNT h)
  | 7 => some (R.CH_CNT_UNREC_COUNT h)
  | 9 => some (R.CH_CNT_POOL_COUNT h)
  | _ => none

/-- The fault source of an outcome (Table 4-16). -/
def outcomeFault (o : Nat) : Option Nat :=
  match o with
  | 6 => some 2
  | 7 => some 3
  | 9 => some 4
  | _ => none

/-- A sector of a neighbour check is read (R131): it is done when its first read is GOOD or GOOD_ALT; else it is written
again with the data that a later read recovers, or left to R108. POOL_FULL and ABANDONED are no reads. -/
def State.adjReport (s : State) (h : Nat) (a : Arm) (outcome : Nat) : State :=
  let x := s.head h
  let same := fun (e : Nat × Nat × Bool) => e.1 == a.track && e.2.1 == a.slot
  match x.adj.find? same with
  | none => s
  | some (_, _, bad) =>
    let rest := x.adj.filter (fun e => !same e)
    if 8 ≤ outcome then s
    else if outcome = 5 then s.setHead h { x with adj := rest ++ [(a.track, a.slot, true)] }
    else if 6 ≤ outcome ∨ (!bad && decide (outcome ≤ 1)) then s.setHead h { x with adj := rest }
    else s.setHead h { x with adj := rest, held := x.held ++ [{ a with kind := .write }] }

/-- Posts a sector report: to the sequencer, into CH_LAST_RPT, its counter and its status bit; a verify read is judged
(R110, R115, R132). -/
def State.postReport (s : State) (h : Nat) (a : Arm) (r : RptArgs) : State :=
  let w := reportBits a r
  let s1 := s.modHead h (fun x => { x with reports := x.reports ++ [w] })
  let s2 := ((((s1.set (R.CH_LAST_RPT0_RPT h) (bitsOf w 0 32)).set (R.CH_LAST_RPT1_RPT h) (bitsOf w 32 32)).set
    (R.CH_LAST_RPT2_RPT h) (bitsOf w 64 32)).set (R.CH_LAST_RPT3_RPT h) (bitsOf w 96 32)).set
    (R.CH_STAT_LAST_OUTCOME h) r.outcome
  let s3 := match outcomeCounter h r.outcome with
    | some f => s2.bump f 1
    | none => s2
  let s4 := match outcomeFault r.outcome with
    | some b => s3.fault (.chRd h) b
    | none => s3
  if a.kind = .verify then
    let s5 := s4.verifyJudge h a r.outcome r.iter
    if 2 ≤ r.outcome ∧ r.outcome ≤ 7 then s5.retryFree h a else s5
  else s4.adjReport h a r.outcome

/-! ### Abandoned reads (R71, R159, R160) -/

/-- Read state of the head once a read gate closes: READY when no other gate is open, or NOZONE where the working entry is
not usable; a zone load that waited for the sector takes effect (R76, Table 4-10). -/
def State.gateClosed (s : State) (h : Nat) : State :=
  if s.gateOpen h then s
  else
    let s1 := if s.get (R.CH_STAT_STATE h) = 4 then
        s.set (R.CH_STAT_STATE h) (if s.entryUsable (s.get (R.CH_STAT_ZONE h)) (s.head h).entry then 3 else 1)
      else s
    s1.zoneCatchUp h

/-- One read in the pool is abandoned: its retry-store sum is kept (R160). -/
def State.abandonJob (s : State) (j : ReadJob) : State :=
  let s1 := (s.dropJob j.id).retryMod j.head j.arm (fun e => { e with deep := false })
  (s1.postReport j.head j.arm { outcome := 8, stamp := j.p, tag := j.tag, mark := j.mark }).gateClosed j.head

/-- Reads of head `h` whose LLR capture is not complete are abandoned: loss of the Tether (R71, R112). -/
def State.abandonOpen (s : State) (h : Nat) : State :=
  (s.rdPool.jobs.filter (fun j => j.head == h && !j.captured)).foldl (fun (t : State) j => t.abandonJob j) s

/-- The predicted stamp P of an armed sector's sync-mark last bit (R75, R77, R111); free where the head is not placed over
the sector. -/
def State.predicted (s : State) (h : Nat) (a : Arm) : Nat × State :=
  match s.stampOf h a 103 with
  | some p => (p, s)
  | none => s.draw

/-- An armed read that is not transferred is reported ABANDONED, with its stamp P. -/
def State.reportAbandoned (s : State) (h : Nat) (a : Arm) : State :=
  let (p, s1) := s.predicted h a
  s1.postReport h a { outcome := 8, stamp := p }

/-- One armed sector whose gate never opened is abandoned: a read is reported, a write's buffer stays held. -/
def State.abandonArm (s : State) (h : Nat) (a : Arm) : State :=
  if a.kind = .write then s.modHead h (fun x => { x with held := x.held ++ [a] }) else s.reportAbandoned h a

/-- Every armed sector of head `h` is abandoned, whatever point it has reached (R159 to R161). -/
def State.abandonHead (s : State) (h : Nat) : State :=
  let s1 := (s.rdPool.jobs.filter (fun j => j.head == h)).foldl (fun (t : State) j => t.abandonJob j) (s.abandonWrite h)
  let as := (s1.head h).arms
  let s2 := s1.modHead h (fun x => { x with arms := [], zonePend := x.zonePend.map (fun e => (0, e.2)) })
  (as.foldl (fun (t : State) a => t.abandonArm h a) s2).zoneCatchUp h

/-! ### A sector arrives (R101, R156) -/

/-- A free LLR slot for head `h`: its reserved slots first, then the shared ones (R101). -/
def PoolRd.freeSlot (p : PoolRd) (h : Nat) : Option Nat :=
  ([2 * h, 2 * h + 1] ++ (List.range 80).map (· + 48)).find? (fun k => !p.slots.contains k && !p.badSlots.contains k)

/-- The search half-window: below 8 it acts as 8 in HERITAGE (R97). -/
def State.syncWin (s : State) (h : Nat) : Nat :=
  let w := s.get (R.CH_SYNC_CFG_WIN h)
  if s.mode = mHERITAGE then max w 8 else w

/-- A RELOAD restores both entries at the next read gate (R83, R93, R121); the read gate opens on a usable entry without
passing through SETTLE (a DESIGN CHOICE). -/
def State.gateReload (s : State) (h : Nat) : State :=
  if (s.head h).reload then
    let z := s.get (R.CH_STAT_ZONE h)
    if z = 0x7F then s.modHead h (fun x => { x with reload := false })
    else
      let s1 := s.workingSet h z
      if s1.entryUsable z (s1.head h).entry then s1 else s1.loadedState h false
  else s

/-- The bit period of the head's zone in fs, 0 while the Tether clock stands. -/
def State.bitFs (s : State) (h : Nat) : Nat :=
  let f := s.fBit (s.get (R.CH_STAT_ZONE h))
  if f = 0 then 0 else 1000000000000000 / f

/-- The read gate of an armed read opens and it takes a slot, or POOL_FULL (R100, R101); P is the predicted stamp of the
sync-mark last bit, rounded down to a whole ns (a DESIGN CHOICE). The interpolator starts at phase 0 and the filter follows
the entry (Table 4-1). -/
def State.readOpen (s : State) (h : Nat) (a : Arm) : State :=
  let (p, s0) := s.predicted h a
  let s1 := s0.popArm h
  match s1.rdPool.freeSlot h with
  | none => s1.postReport h a { outcome := 9, stamp := p }
  | some k =>
    let e := s1.rdPool.entryOf h a
    let n := match e with
      | some r => r.reads + 1
      | none => 1
    let tag := match e with
      | some r => r.tag
      | none => false
    let j : ReadJob := ⟨s1.rdPool.nextId, h, a, p, s1.bitFs h, k, [], none, false, false, [], n, tag, false, (31, 0)⟩
    let s2 := s1.modHead h (fun x => { x with
      phase := [0, 0, 0], ctf := ctfOf (entryNat x.entry) (s1.fBit (s1.get (R.CH_STAT_ZONE h))) })
    (s2.setPoolRd { s2.rdPool with
      jobs := s2.rdPool.jobs ++ [j], nextId := s2.rdPool.nextId + 1, slots := s2.rdPool.slots ++ [k] }).set
      (R.CH_STAT_STATE h) 4

/-- Data-stream positions from the opening of the read gate to position 0 (Table 4-6). -/
def State.gateLead (s : State) (h : Nat) : Nat := 9 + s.syncWin h

/-- A read may begin now: the limits of the mode, of CAP and of R25, and of R109 on the heads that read at once. -/
def State.readAllowed (s : State) (h : Nat) : Bool :=
  s.mayTransfer h && decide ((s.otherReaders h).length < 3 * s.streamCount / 2)

/-- The oldest armed sector of head `h` arrives. A write goes out inside an open run, and outside one is scheduled again on
a later revolution. A read that was armed too late is reported ABANDONED (R156), and so is one refused for its bit rate
(R74); one that may not begin now stays armed. -/
def State.sectorArrival (s : State) (h off : Nat) : State :=
  match (s.head h).arms with
  | [] => s
  | a :: _ =>
    if !s.tthLocked ∨ !s.atSector h a (if a.kind = .write then 0 else s.gateLead h) off then s
    else if a.kind = .write then
      if s.get (R.CH_WR_STAT_STATE h) = 3 then s.sectorStart h
      else if a.late then s.holdArm h a
      else s
    else
      let st := s.get (R.CH_STAT_STATE h)
      if st = 0 ∨ st = 2 ∨ st = 5 then s
      else if a.late then ((s.reportAbandoned h a).popArm h).zoneCatchUp h
      else
        let s1 := s.gateReload h
        let (r, s2) := s1.refuse h a
        if r.any then (((if r.rate then s2.reportAbandoned h a else s2).popArm h)).zoneCatchUp h
        else if st = 1 ∨ !s1.readAllowed h then s
        else (s1.readOpen h a).zoneCatchUp h

/-! ### The retry store and deep decodes (R105 to R107) -/

/-- Reads held in the sum of a sector. -/
def State.inSum (s : State) (j : ReadJob) : Nat :=
  match s.rdPool.entryOf j.head j.arm with
  | some e => e.sum.length
  | none => 0

/-- A sector's reads are used up (R105). -/
def State.readFinal (s : State) (j : ReadJob) (tag : Bool) (outcome reads : Nat) (last : Nat × Nat) : State :=
  ((s.dropJob j.id).retryFree j.head j.arm).postReport j.head j.arm
    { outcome := outcome, stamp := j.p, reads := reads, tag := tag, dec := last.1, iter := last.2, mark := j.mark }

/-- A read ends without success and the sector is read again: FAIL_READ (R105). -/
def State.readAgain (s : State) (j : ReadJob) (reads : Nat) (last : Nat × Nat) : State :=
  (s.dropJob j.id).postReport j.head j.arm
    { outcome := 5, stamp := j.p, reads := reads, tag := j.tag, dec := last.1, iter := last.2, mark := j.mark }

/-- A read ends without success: FAIL_READ, or the final outcome on the last read (R105). -/
def State.readFail (s : State) (j : ReadJob) (reads : Nat) (last : Nat × Nat) : State :=
  if s.get R.LDPC_POOL_CFG_DEEP_READS ≤ j.n then s.readFinal j j.tag (if j.tag then 7 else 6) reads last
  else s.readAgain j reads last

/-- No entry of the retry store is free. -/
def State.retryFull (s : State) : Bool := decide (32 ≤ s.rdPool.retryUsed + s.rdPool.badRetry)

/-- The sector's entry with this read counted; `llr` is the offset at which the read's LLRs join the sum. -/
def RetryEnt.add (e : RetryEnt) (j : ReadJob) (llr : Option Int) (deep : Bool) : RetryEnt :=
  match llr with
  | some o => { e with reads := j.n, sum := e.sum ++ [o], acc := addLlr e.acc j.llr o, tag := e.tag || j.tag, deep := deep }
  | none => { e with reads := j.n, tag := e.tag || j.tag, deep := deep }

/-- Counts this read of its sector, with its LLRs where it has any. Without a free entry for a first sum the LLRs are
discarded, RETRY_DROP sets, and the sector's next read counts as read 1 (R106). -/
def State.retryPut (s : State) (j : ReadJob) (llr : Option Int) (deep : Bool) : State :=
  let e0 := s.rdPool.entryOf j.head j.arm
  let fresh := match e0 with
    | some e => e.sum.isEmpty
    | none => true
  if llr.isSome && fresh && s.retryFull then (s.retryFree j.head j.arm).fault .pool 0
  else match e0 with
    | some _ => s.retryMod j.head j.arm (fun e => e.add j llr deep)
    | none => s.setPoolRd { s.rdPool with
        retry := s.rdPool.retry ++ [RetryEnt.add ⟨j.head, j.arm.track, j.arm.slot, 0, [], [], false, false⟩ j llr deep] }

/-- Deep decoder `n` is disabled: EN = 0, or out of service. One in reset is not disabled. -/
def State.decDisabled (s : State) (n : Nat) : Bool :=
  !s.flag (R.LDPC_CTRL_EN n) || s.flt.outOfService.any (fun u => decide (u = .dec n))

/-- Both deep decoders are disabled (R107). -/
def State.noDeep (s : State) : Bool := s.decDisabled 16 && s.decDisabled 17

/-- Every deep decode that waits ends UNRECOVERED once both deep decoders are disabled, and NO_DEEP sets (R107). -/
def State.deepCheck (s : State) : State :=
  if s.noDeep then
    s.rdPool.deepQ.foldl (fun (t : State) id => match t.rdPool.job id with
      | some j => t.readFinal j j.tag 6 (t.inSum j) j.last
      | none => t) (s.fault .pool 2)
  else s

/-- A read's LLRs, where it has any, join the sum, and a deep decode of the sum is requested; a read that comes while the
sector's previous deep decode runs waits for its end (R105, R107). -/
def State.deepAdd (s : State) (j : ReadJob) (llr : Option Int) : State :=
  let busy := match s.rdPool.entryOf j.head j.arm with
    | some e => e.deep
    | none => false
  if busy then s.putJob { j with wait := true }
  else
    let s1 := s.retryPut j llr (!s.noDeep)
    let j1 : ReadJob := { j with wait := false }
    match s1.rdPool.entryOf j.head j.arm with
    | none => s1.readAgain j1 1 j.last
    | some e =>
      if s1.noDeep then (s1.fault .pool 2).readFinal j1 j.tag 6 e.sum.length j.last
      else
        let s2 := s1.putJob j1
        s2.setPoolRd { s2.rdPool with deepQ := s2.rdPool.deepQ ++ [j.id] }

/-- The candidate whose decode ended with the fewest unsatisfied checks, the earlier one on a tie (R106). -/
def bestCand (cs : List Cand) : Int :=
  ((cs.foldl (fun (m : Option Cand) c => match m with
    | none => some c
    | some b => if c.unsat < b.unsat then some c else some b) none).map (·.ofs)).getD 0

/-- Every candidate of a read has ended without success (R105). -/
def State.streamFailed (s : State) (j : ReadJob) : State :=
  if j.n ≤ 1 then (s.retryPut j (some (bestCand j.cands)) false).readFail j 1 j.last
  else s.deepAdd j (some (bestCand j.cands))

/-! ### Success (R99, R110, R111) -/

/-- The payload goes to the Depot buffer; a burst that is refused leaves the sector not transferred (R160). -/
def State.readBurst (s : State) (h : Nat) (a : Arm) (p : List Byte) : Bool × State :=
  let (ok, s1) := s.depWrite h a.handle 0 (p.take (if poolSize (hPool a.handle) < 4104 then 4096 else 4104))
  if ok then (true, s1) else (false, s1.depSend 7 h a.handle true)

/-- A read ends with a chosen payload. -/
def State.readSuccess (s : State) (j : ReadJob) (p : List Byte) (r : RptArgs) : State :=
  let (ok, s1) := ((s.dropJob j.id).retryFree j.head j.arm).readBurst j.head j.arm p
  s1.postReport j.head j.arm (if ok then r else { r with outcome := 8, reads := 0 })

/-- Candidate `c` of read `j` is chosen (R99, R110). -/
def State.chooseCand (s : State) (j : ReadJob) (c : Cand) (p : List Byte) : State :=
  let alt := match j.mark with
    | some e => decide (s.get (R.CH_SYNC_CFG_ALT_MIN j.head) ≤ e.natAbs)
    | none => false
  let o := if 1 < j.n then 3 else if j.mark.isNone then 2 else if alt then 1 else 0
  let st := if c.found then (((j.p * 1000000 : Nat) : Int) + c.ofs * (j.tb : Int)) / 1000000 else (j.p : Int)
  s.readSuccess j p
    { outcome := o, stamp := st.toNat, reads := s.inSum j + 1, tag := j.tag, dec := c.dec, iter := c.iters,
      mark := j.mark, blind := (if j.mark.isNone then some c.ofs else none), chosePred := j.mark.isSome && !c.found }

/-- The first candidate that has not ended without success (R99). -/
def State.judge (s : State) (j : ReadJob) : State :=
  match j.cands.find? (fun c => decide (c.st ≠ .bad)) with
  | none => s.streamFailed j
  | some c => match c.st with
    | .good p => s.chooseCand j c p
    | _ => s

/-! ### The sync decision and the end of capture (R97, R98, R100) -/

/-- The qualifying mark taken: fewest differing bits, then nearest to P, then earlier (R97). -/
def pickMark (win tol : Nat) (marks : List (Int × Nat)) : Option Int :=
  (((marks.filter (fun m => decide (m.1.natAbs ≤ win) && decide (m.2 ≤ tol))).foldl
    (fun (b : Option (Int × Nat)) m => match b with
      | none => some m
      | some q =>
        if m.2 < q.2 ∨ (m.2 = q.2 ∧ (m.1.natAbs < q.1.natAbs ∨ (m.1.natAbs = q.1.natAbs ∧ m.1 < q.1))) then some m
        else some q) none)).map (·.1)

/-- The candidates of a read (Table 4-5). -/
def candidates (mark : Option Int) (altMin : Nat) (altEn blindEn : Bool) : List Cand :=
  let mk := fun (o : Int) (f : Bool) => (⟨o, f, .waiting, 0, 31, 0⟩ : Cand)
  match mark with
  | some e => if altEn && decide (altMin ≤ e.natAbs) then [mk e true, mk 0 false] else [mk e true]
  | none => if blindEn then [mk 0 false, mk (-1) false, mk 1 false, mk (-2) false, mk 2 false] else []

/-- A read without candidates counts as a read and adds no LLRs; its slot is freed. It ends at the sync decision while the
sum holds no read; else the sum is decoded again for it (R105). -/
def State.noCandidate (s : State) (j : ReadJob) : State :=
  let s1 := s.setPoolRd { s.rdPool with slots := s.rdPool.slots.filter (fun k => k != j.slot) }
  let j1 : ReadJob := { j with slot := noSlot, captured := true }
  let s2 := s1.putJob j1
  (if s2.inSum j1 = 0 then (s2.retryPut j1 none false).readFail j1 0 (31, 0) else s2.deepAdd j1 none).gateClosed j.head

/-- The sync decision of the oldest undecided read of head `h`, from the detector's hard decisions: bit b of `hard` is the
one at P − 128 + b (R97, R98). -/
def State.syncDecision (s : State) (h hard : Nat) : State :=
  match s.rdPool.jobs.find? (fun j => j.head == h && !j.decided) with
  | none => s
  | some j =>
    let mark := pickMark (s.syncWin h) (s.get (R.CH_SYNC_CFG_SM_TOL h)) (marksOf (s.syncWin h) hard)
    let cs := candidates mark (s.get (R.CH_SYNC_CFG_ALT_MIN h)) (s.flag (R.CH_RD_CFG_ALT_EN h))
      (s.flag (R.CH_RD_CFG_BLIND_EN h))
    let j1 : ReadJob := { j with mark := mark, decided := true, cands := cs }
    if cs.isEmpty then s.noCandidate j1 else s.putJob j1

/-- The adapted settings of the head after a sector (R81, R83); AGC_LIMIT and ADC_CLIP set where they apply (R84). -/
def State.adaptHead (s : State) (h : Nat) (fe : FrontEnd) : State :=
  let x := s.head h
  let e := entryNat x.entry
  let used := usedReaders e (s.get (R.CH_RD_CFG_FITTED h))
  let en := s.flag (R.CH_RD_CFG_ADAPT_EN h)
  let (ad, lim) := adaptStep e used en (entryAdapt e) x.adapt fe.preGain fe.moves
  let s1 := if x.adapt.isEmpty then s
    else
      let t := s.setHead h { x with
        adapt := ad, phase := adaptPhase used x.phase fe.phase, taps := adaptTaps e used en x.adapt x.phase fe x.taps }
      if lim then t.fault (.chRd h) 1 else t
  if 37120 < clipCount ((fe.adc[0]?).getD []) * 100 then s1.fault (.chRd h) 5 else s1

/-- Candidates of a read enter the queue by predicted position; a read already dispatched stays in front, and of equal
stamps the one captured first (R102; the last is a DESIGN CHOICE). -/
def PoolRd.enqueue (p : PoolRd) (j : ReadJob) : List (Nat × Nat) :=
  let es := (List.range j.cands.length).map (fun i => (j.id, i))
  let before := fun (e : Nat × Nat) => match p.job e.1 with
    | some k => decide (k.p ≤ j.p) || k.cands.any (fun c => decide (c.st ≠ .waiting))
    | none => true
  p.queue.filter before ++ es ++ p.queue.filter (fun e => !before e)

/-- LLR capture of the oldest such read of head `h` is complete: its LLRs are in its slot (R100, R101, R105). The LLRs of
reads 3 and later, whose candidates are not decoded one by one, align at the first candidate (a DESIGN CHOICE). -/
def State.captured (s : State) (h : Nat) (fe : FrontEnd) : State :=
  let s2 := s.adaptHead h fe
  match s2.rdPool.jobs.find? (fun j => j.head == h && j.decided && !j.captured) with
  | none => s2.gateClosed h
  | some j =>
    let j1 : ReadJob := { j with captured := true, llr := llr5 fe.llr }
    let s3 := (s2.putJob j1).gateClosed h
    if 3 ≤ j.n then s3.deepAdd j1 (some (bestCand j1.cands))
    else s3.setPoolRd { s3.rdPool with queue := s3.rdPool.enqueue j1 }

/-! ### Decoders (R102 to R104, R113) -/

/-- The lowest-numbered free enabled stream decoder takes the candidate at the head of the queue; the read's other
candidates move to the head (R102, R103). While k of R109 is 0, candidates wait. -/
def State.streamStart (s : State) : State :=
  if s.streamCount = 0 then s
  else match (List.range 16).find? (fun n => s.decEnabled n && ((s.rdPool.decs[n]?).getD none).isNone), s.rdPool.queue with
  | some n, (id, i) :: rest =>
    match s.rdPool.job id with
    | some j =>
      let mx := s.get R.LDPC_POOL_CFG_ITER_MAX
      let lim := if s.flag R.LDPC_POOL_STAT_LOW_ITER then min (s.get R.LDPC_POOL_CFG_ITER_LOW) mx else mx
      let j1 : ReadJob := { j with cands := listMod j.cands i (fun c => { c with st := .running n }) }
      let s1 := (s.putJob j1).setPoolRd { (s.putJob j1).rdPool with
        queue := rest.filter (fun e => e.1 == id) ++ rest.filter (fun e => e.1 != id) }
      s1.setDec n (some ⟨.cand id i, lim, s.now⟩)
    | none => s.setPoolRd { s.rdPool with queue := rest }
  | _, _ => s

/-- Counts an ended decode (Table 4-20). -/
def State.decCount (s : State) (n iters : Nat) : State :=
  (s.bump (R.LDPC_CNT_JOBS_JOBS n) 1).bump (R.LDPC_CNT_ITER_ITER n) iters

/-- What a decode ends with: the codeword it holds, whether its syndrome is zero within the limit, the iterations, and
whether the descrambled payload's tag matches the seed (R99, R103). -/
def decodeResult (seed limit cw iters : Nat) : Bool × Nat × Bool × List Byte :=
  let ok := synZero cw && decide (iters ≤ limit)
  let p := decodePayload cw
  (ok, if ok then iters else limit, ok && tagMatches seed p, p)

/-- Stream decoder `n` ends with the codeword `cw` after `iters` iterations (R99, R103). -/
def State.streamEnd (s : State) (n cw iters : Nat) : State :=
  match (s.rdPool.decs[n]?).getD none with
  | some ⟨.cand id i, lim, _⟩ =>
    match s.rdPool.job id with
    | some j =>
      let (conv, it, good, p) := decodeResult (armSeed j.head j.arm) lim cw iters
      let c1 := fun (c : Cand) => { c with
        st := (if good then .good p else .bad), iters := it, dec := n, unsat := (if conv then 0 else unsatisfied cw) }
      let j1 : ReadJob := { j with
        cands := listMod j.cands i c1, tag := j.tag || (conv && !good), last := (n, it) }
      (((s.decCount n it).setDec n none).putJob j1).judge j1
    | none => s.setDec n none
  | _ => s

/-- The lower-numbered free deep decoder takes the deep decode requested first (R107). -/
def State.deepStart (s : State) : State :=
  match [16, 17].find? (fun n => s.decEnabled n && ((s.rdPool.decs[n]?).getD none).isNone), s.rdPool.deepQ with
  | some n, id :: rest =>
    (s.setPoolRd { s.rdPool with deepQ := rest }).setDec n (some ⟨.deep id, s.get R.LDPC_POOL_CFG_DEEP_ITER, s.now⟩)
  | _, _ => s

/-- A read of the sector that waited for its deep decode joins the sum now (R107). -/
def State.deepNext (s : State) (h : Nat) (a : Arm) : State :=
  match s.rdPool.jobs.find? (fun j => j.head == h && sameSector j.arm a && j.wait) with
  | some j => s.deepAdd j (if j.cands.isEmpty then none else some (bestCand j.cands))
  | none => s

/-- Deep decoder `n` ends with the codeword `cw` (R105). -/
def State.deepEnd (s : State) (n cw iters : Nat) : State :=
  match (s.rdPool.decs[n]?).getD none with
  | some ⟨.deep id, lim, _⟩ =>
    match s.rdPool.job id with
    | some j =>
      let (conv, it, good, p) := decodeResult (armSeed j.head j.arm) lim cw iters
      let j1 : ReadJob := { j with tag := j.tag || (conv && !good), last := (n, it) }
      let s1 := ((s.decCount n it).setDec n none).putJob j1
      let k := s1.inSum j1
      let s2 := if good then s1.readSuccess j1 p
          { outcome := 4, stamp := j1.p, reads := k, tag := j1.tag, dec := n, iter := it, mark := j1.mark }
        else
          (s1.retryMod j1.head j1.arm (fun e => { e with deep := false, tag := e.tag || j1.tag })).readFail j1 k (n, it)
      s2.deepNext j.head j.arm
    | none => s.setDec n none
  | _ => s

/-- Decoder `n` is reset alone: its work goes back to the head of its queue and starts afresh (R112, R113). -/
def State.decReset (s : State) (n : Nat) : State :=
  match (s.rdPool.decs[n]?).getD none with
  | some ⟨.cand id i, _, _⟩ =>
    let s1 := s.setDec n none
    let s2 := match s1.rdPool.job id with
      | some j => s1.putJob { j with cands := listMod j.cands i (fun c => { c with st := .waiting }) }
      | none => s1
    s2.setPoolRd { s2.rdPool with queue := (id, i) :: s2.rdPool.queue }
  | some ⟨.deep id, _, _⟩ =>
    let s1 := s.setDec n none
    s1.setPoolRd { s1.rdPool with deepQ := id :: s1.rdPool.deepQ }
  | none => s

/-- Limit time of the running decode in ns (R104). -/
def DecRun.limitNs (r : DecRun) (n : Nat) : Nat := if n < 16 then 80 + 750 * r.limit else 2000 + 1500 * r.limit

/-- A decode has run longer than twice its limit time (R113). -/
def State.decHang (s : State) (n : Nat) : State :=
  match (s.rdPool.decs[n]?).getD none with
  | some r => if r.start + 2 * r.limitNs n < s.now then (s.fault (.ldpc n) 0).decCheck else s
  | none => s

/-! ### The state of the read side (Table 4-10) -/

/-- The new bit clock is settled (R76). -/
def State.zoneSettled (s : State) (h : Nat) : State :=
  if s.get (R.CH_STAT_STATE h) = 2 then s.set (R.CH_STAT_STATE h) 3 else s

/-- The read side goes OFF: its reads are abandoned. -/
def State.readOff (s : State) (h : Nat) : State :=
  let s1 := (s.rdPool.jobs.filter (fun j => j.head == h && !j.captured)).foldl (fun (t : State) j => t.abandonJob j) s
  (s1.set (R.CH_STAT_STATE h) 0).set (R.CH_STAT_ZONE h) 0x7F

/-- The read side follows CH_RD_CFG.EN and power (Table 4-10). -/
def State.readEnable (s : State) (h : Nat) (en : Bool) : State :=
  if en then
    if s.get (R.CH_STAT_STATE h) = 0 ∧ s.chPowered h then s.set (R.CH_STAT_STATE h) 1 else s
  else if s.get (R.CH_STAT_STATE h) = 0 then s else s.readOff h

/-- TTH leaves LOCKED or WLOCKED: every read side but one that is OFF becomes UNLOCKED, open reads are abandoned. -/
def State.headsUnlock (s : State) : State :=
  allHeads.foldl (fun (t : State) h =>
    let t1 := t.abandonOpen h
    if t1.get (R.CH_STAT_STATE h) = 0 then t1 else t1.set (R.CH_STAT_STATE h) 5) s

/-- TTH is locked again: UNLOCKED becomes READY with a usable entry loaded, else NOZONE; the 256-bit test applies to the
sectors that are armed (R156). -/
def State.headsLock (s : State) : State :=
  allHeads.foldl (fun (u : State) h =>
    let t := u.armsJudge h
    if t.get (R.CH_STAT_STATE h) = 5 then
      t.set (R.CH_STAT_STATE h) (if t.entryUsable (t.get (R.CH_STAT_ZONE h)) (t.head h).entry then 3 else 1)
    else t) s

/-- Containment reset of CH instance `h`: its sectors are abandoned and both sides are OFF until it ends; its read-only
status is at its reset values, the counters apart (R16, R159, R393). -/
def State.chContain (s : State) (h : Nat) : State :=
  let s1 := s.abandonHead h
  let s2 := ((s1.readOff h).set (R.CH_WR_STAT_STATE h) 0).modHead h (fun x => { x with
    entry := [], wentry := [], adapt := [], taps := [], phase := [0, 0, 0], ctf := (0, 0) })
  let s3 := ((((s2.set (R.CH_STAT_LAST_OUTCOME h) 0).set (R.CH_LAST_RPT0_RPT h) 0).set (R.CH_LAST_RPT1_RPT h) 0).set
    (R.CH_LAST_RPT2_RPT h) 0).set (R.CH_LAST_RPT3_RPT h) 0
  (s3.set (R.CH_WR_STAT_LAST_CAUSE h) 15).set64 (R.A_CH_WR_CUT_STAMP_LO h) 0

/-- CH instance `h` starts again after its reset. -/
def State.chRestart (s : State) (h : Nat) : State :=
  (s.readEnable h (s.flag (R.CH_RD_CFG_EN h))).writeEnable h (s.flag (R.CH_WR_CTRL_EN h))

end Sys2Proof.Machine
end

