-- ==== Sys2Proof/Machine/Actuator.lean ====
section
/-!
DEFINITION. Actuator and Bridle states: entering them, head targets, seeks and the actuator commands (R174 to R181).
-/

namespace Sys2Proof.Machine

open Sys2Proof

/-- Counts one more of a kind that log page 16h reports over the drive's life: 0 spin-up attempts, 1 failed spin-ups,
2 load cycles, 3 power-off retracts, 4 Unsafe Shutdowns (R307, R330). -/
def State.lifeCount (s : State) (i : Nat) : State :=
  { s with hif := { s.hif with counts := listMod s.hif.counts i (fun n => n + 1) } }

/-! ### Bridle states (R178, Table 7-5) -/

/-- The Bridle state that the actuator's state, the target and the link give head `h`. -/
def State.bstateOf (s : State) (h : Nat) : Nat :=
  let a := h / 6
  let st := s.actState a
  if st ≤ 1 ∨ !s.bridleFit a ∨ !(s.act a).linkUp then 0
  else if (st = 4 ∨ st = 5) ∧ s.flag (R.SRV_HD_TGT_VALID h) then 2
  else 1

/-- The samples of head `h` count for ONTRK (R178). -/
def State.countsOn (s : State) (h : Nat) : Bool :=
  let st := s.actState (h / 6)
  if s.bridleFit (h / 6) then s.bstateOf h == 2
  else (st == 4 || st == 5) && s.flag (R.SRV_HD_TGT_VALID h)

/-- Head `h` takes the Bridle state that fits: entering FOLLOW clears its loop's section states (R199); leaving the
condition under which its samples count clears ONTRK. -/
def State.refreshHead (s : State) (h : Nat) : State :=
  let old := s.get (R.SRV_HD_STAT_BSTATE h)
  let new := s.bstateOf h
  let s1 := s.set (R.SRV_HD_STAT_BSTATE h) new
  let s2 := if new = 2 ∧ old ≠ 2 then
      ({ s1 with cle := { s1.cle with loops := listMod s1.cle.loops h (fun l =>
        { l with s1 := List.replicate 4 0, s2 := List.replicate 4 0 }) } }).modHsv h (fun x =>
        { x with onRun := 0, folRun := 0, folDone := false })
    else if new = 2 then s1 else s1.modHsv h (fun x => { x with out := 0 })
  if s2.countsOn h then s2 else (s2.setFlag (R.SRV_HD_STAT_ONTRK h) false).modHsv h (fun x => { x with onRun := 0 })

/-- Every head of actuator `a`. -/
def State.refreshHeads (s : State) (a : Nat) : State :=
  (headsOf a).foldl (fun (t : State) h => t.refreshHead h) s

/-! ### Bridle frames (R183, R187 to R189) -/

/-- CRC-8 of R183. -/
def crc8 (bs : List Byte) : Nat := bs.foldl (crcByte 8 0x07) 0

/-- The CRC of a 40-bit frame matches: bytes 39 to 8 in order, then the CRC. -/
def frameOk (f : Nat) : Bool := crc8 (beBytes 4 (f / 256)) == f % 256

/-- A downstream frame (Table 7-8). -/
def bridleFrame (ch : Nat) (value : Int) (seq : Nat) : Nat :=
  let hi := 6 * 2 ^ 28 + ch % 8 * 2 ^ 25 + unsignedOf value 16 * 2 ^ 9 + seq % 16 * 2 ^ 5
  hi * 256 + crc8 (beBytes 4 hi)

/-- Sends a frame, which then waits for its reply (R189). -/
def State.bridleSend (s : State) (a ch : Nat) (value : Int) : State :=
  s.modAct a (fun x => { x with
    frame := bridleFrame ch value x.seq
    await := x.await ++ [(ch, x.seq)]
    seq := (x.seq + 1) % 16
    sentAt := s.now
    lastCmd := (if ch < 6 then x.lastCmd.set ch value else List.replicate 6 0) })

/-- Every stage of actuator `a` is CENTER or OFF. -/
def State.allCentered (s : State) (a : Nat) : Bool := (headsOf a).all (fun h => s.bstateOf h != 2)

/-- The link of actuator `a` carries frames: the stage is fitted and the actuator is not OFF. -/
def State.bridleOn (s : State) (a : Nat) : Bool := s.bridleFit a && s.actState a != 0

/-- A CH 6 frame brings all six outputs to 0 (R189). -/
def State.bridleCenter (s : State) (a : Nat) : State :=
  if s.bridleOn a then
    ((headsOf a).foldl (fun (t : State) h => t.modHsv h (fun x => { x with u := 0 })) s).bridleSend a 6 0
  else s

/-! ### Entering actuator states (R177, Table 7-4) -/

/-- Actuator `a` enters state `st`; UNLOAD, RETRACT and HOLD abandon every armed sector. Stages that leave FOLLOW together are
centred by one frame (R189). -/
def State.actEnter (s : State) (a st : Nat) : State :=
  let s1 := s.set (R.SRV_ACT_STAT_STATE a) st
  let s2 := if 6 ≤ st ∧ st ≤ 8 then (headsOf a).foldl (fun (t : State) h => t.abandonHead h) s1 else s1
  let s3 := s2.refreshHeads a
  if !s.allCentered a && s3.allCentered a then s3.bridleCenter a else s3

/-- A seek in SEEK or SETTLE ends other than at TRACK entry: SEEKFAIL, and SEEK_ABORT for an abort. -/
def State.seekFail (s : State) (a : Nat) (abort : Bool) : State :=
  if s.actState a = 3 ∨ s.actState a = 4 then
    let s1 := s.setFlag (R.SRV_ACT_STAT_SEEKFAIL a) true
    if abort then s1.fault .srv a else s1
  else s

/-- The cut of a following error at `d` on the heads of loop `n`: FOLLOW, FOLLOW_ERR, ONTRK clears, and the Bridle's
count of log page 0xC4 (R182, Table 12-14). -/
def State.followCut (s : State) (n d : Nat) : State :=
  let s1 := (loopHeads n).foldl (fun (t : State) h =>
    (((t.adjSuspect h (t.getInt (R.SRV_HD_PES_E h)) d).setFlag (R.SRV_HD_STAT_FOLLOW_ERR h) true).setFlag
      (R.SRV_HD_STAT_ONTRK h) false).modHsv h (fun x => { x with onRun := 0 })) s
  let s2 := if n < 24 then { s1 with hif := { s1.hif with
    folErrs := s1.hif.folErrs.modify n (fun k => satN (k + 1) (2 ^ 32 - 1)) } } else s1
  s2.loopSource n 2 d

/-- A seek abort: the actuator enters HOLD (R182, R208). -/
def State.seekAbort (s : State) (a : Nat) : State := (s.seekFail a true).actEnter a 6

/-- UNLOAD, from the states in which CMD = UNLOAD acts. -/
def State.actUnload (s : State) (a : Nat) : State :=
  let st := s.actState a
  if 2 ≤ st ∧ st ≤ 6 then (s.seekFail a false).actEnter a 7 else s

/-- HOLD, from SEEK, SETTLE and TRACK. -/
def State.actHold (s : State) (a : Nat) : State :=
  let st := s.actState a
  if 3 ≤ st ∧ st ≤ 5 then (s.seekFail a false).actEnter a 6 else s

/-- RETRACT, from every state but OFF: the regulator takes RET_I as its command (R192). -/
def State.actRetract (s : State) (a : Nat) : State :=
  let st := s.actState a
  if st = 0 ∨ st = 8 then s
  else
    let s1 := ((s.seekFail a false).actEnter a 8).modAct a (fun x => { x with retractAt := s.now })
    s1.set (R.SRV_VCM_I_I_CMD a) (s.get (R.SRV_ACT_RET_RET_I a))

/-- The RETRACT ends: drive is removed, and the actuator is in RAMP, or OFF with its enable cleared. -/
def State.retractDone (s : State) (a : Nat) : State :=
  if s.actState a = 8 ∧ s.passed (s.act a).retractAt (s.get (R.SRV_ACT_RET_RET_T a) * 1000000) then
    (((s.set (R.SRV_VCM_I_I_CMD a) 0).modAct a (fun x => { x with duty := 0, sum := 0 })).actEnter a
      (if bitOf (s.get R.SRV_CTRL_ACT_EN) a then 1 else 0))
  else s

/-- LOAD, from RAMP, once LOAD_FAIL, BRIDGE_FLT, AMP_FLT and BLINK_DOWN are clear (R177). -/
def State.actLoad (s : State) (a : Nat) : State :=
  if s.actState a = 1 ∧ !s.faultIs .srv (4 + a) ∧ !s.faultIs .srv (8 + a) ∧ !s.faultIs .srv (12 + a)
      ∧ !s.faultIs .srv (24 + a) then
    ((headsOf a).foldl (fun (t : State) h => t.modHsv h (fun x => { x with samAt := none }))
      ((s.lifeCount 2).modAct a (fun x => { x with loadAt := s.now, lostRun := 0, folRun := 0, count16 := 0 }))).actEnter a 2
  else s

/-- The actuator follows its bit of SRV_CTRL.ACT_EN (R177). -/
def State.actEnable (s : State) (a : Nat) (en : Bool) : State :=
  let st := s.actState a
  if en then (if st = 0 then s.actEnter a 1 else s)
  else if st = 1 then s.actEnter a 0
  else s.actRetract a

/-- CMD of SRV_a_ACT_CTRL (Table 7-13). -/
def State.actCmd (s : State) (a c : Nat) : State :=
  match c with
  | 1 => s.actLoad a
  | 2 => s.actUnload a
  | 3 => s.actRetract a
  | 4 => s.actHold a
  | _ => s

/-! ### Targets and seeks (R174, R176, R179, R193, R207, R208) -/

/-- VALID of head `h` clears. -/
def State.dropTarget (s : State) (h : Nat) : State := (s.setFlag (R.SRV_HD_TGT_VALID h) false).refreshHead h

/-- A target out of stroke: RANGE of the actuator and the head, and VALID clears (R174). -/
def State.rangeOut (s : State) (h : Nat) : State :=
  ((s.setFlag (R.SRV_HD_STAT_RANGE h) true).dropTarget h).fault .srv (20 + h / 6)

/-- The out-of-stroke check of a head in FOLLOW at a sample (R174). -/
def State.strokeCheck (s : State) (h : Nat) : State :=
  if s.bstateOf h = 2 ∧ s.outOfStroke h then s.rangeOut h else s

/-- The check when a target is set while the arm stands: in SETTLE, TRACK and HOLD (R174; a SEEK moves the arm to its
targets, DEDUCED). -/
def State.strokeSet (s : State) (h : Nat) : State :=
  let st := s.actState (h / 6)
  if 4 ≤ st ∧ st ≤ 6 ∧ s.bridleFit (h / 6) ∧ s.flag (R.SRV_HD_TGT_VALID h) ∧ s.outOfStroke h then s.rangeOut h else s

/-- Sets a head's target now: TRACK and VALID; a single-stage actuator keeps one VALID head (R176, R179). -/
def State.putTarget (s : State) (h track : Nat) : State :=
  let s1 := (s.set (R.SRV_HD_TGT_TRACK h) track).setFlag (R.SRV_HD_TGT_VALID h) true
  if s.bridleFit (h / 6) then (s1.refreshHead h).strokeSet h
  else ((headsOf (h / 6)).filter (fun k => k != h)).foldl (fun (t : State) k => t.dropTarget k) (s1.refreshHead h)

/-- TARGET for one head; it waits while the head's write side is in LEAD or OPEN, and the later of two applies (R179,
R193). -/
def State.setTarget (s : State) (h track : Nat) : State :=
  if s.writeBusy h then s.modHsv h (fun x => { x with pendTrack := some track })
  else (s.modHsv h (fun x => { x with pendTrack := none })).putTarget h track

/-- An OFS write; it waits in the same way (R193). -/
def State.setOfs (s : State) (h ofs old : Nat) : State :=
  if s.writeBusy h then (s.set (R.SRV_HD_TGT_OFS h) old).modHsv h (fun x => { x with pendOfs := some ofs })
  else ((s.set (R.SRV_HD_TGT_OFS h) ofs).modHsv h (fun x => { x with pendOfs := none })).strokeSet h

/-- Targets that waited for the write side apply. -/
def State.targetCatchUp (s : State) (h : Nat) : State :=
  if s.writeBusy h then s
  else
    let x := s.hsv h
    let s1 := s.modHsv h (fun y => { y with pendTrack := none, pendOfs := none })
    let s2 := match x.pendOfs with
      | some o => (s1.set (R.SRV_HD_TGT_OFS h) o).strokeSet h
      | none => s1
    match x.pendTrack with
    | some t => s2.putTarget h t
    | none => s2

/-- BRIDLE_FIT is 0 with several VALID heads: RANGE sets for every head found VALID beside the lowest one, which alone stays
VALID (R176). -/
def State.soleTarget (s : State) (a : Nat) : State :=
  if s.bridleFit a then s
  else
    let vs := (headsOf a).filter (fun h => s.flag (R.SRV_HD_TGT_VALID h))
    (vs.drop 1).foldl (fun (t : State) h => t.rangeOut h) s

/-- The profile of actuator `a` is usable (R207). -/
def State.profileOk (s : State) (a : Nat) : Bool :=
  let n := s.get (R.CLE_SEEK_CFG_NENT a)
  decide (1 ≤ n) && decide (n ≤ 32) && s.get (R.CLE_PROF_LO_D a 0) == 0
    && (List.range (n - 1)).all (fun i => decide (s.get (R.CLE_PROF_LO_D a i) < s.get (R.CLE_PROF_LO_D a (i + 1))))
    && decide (0 < s.get (R.CLE_PROF_HI_V a 0))

/-- SEEK entry towards cylinder `c`: r is x_arm and v is 0; an unusable profile aborts the seek at once, with the
actions of a VCM following error (R182, R208). -/
def State.enterSeek (s : State) (a c : Nat) : State :=
  let x := s.act a
  let s1 := (((s.setFlag (R.SRV_ACT_STAT_SEEKDONE a) false).setFlag (R.SRV_ACT_STAT_SEEKFAIL a) false).setInt
    (R.CLE_SEEK_R_R a) x.xArm).set (R.CLE_SEEK_V_V a) 0
  let s2 := s1.modAct a (fun y => { y with
    target := c, seekV := 0, profEnd := false, seekAt := s.now, folRun := 0, folDone := false, pendSeek := none })
  let s3 := s2.actEnter a 3
  if s3.profileOk a then s3 else ((s3.fault .cle 5).followCut (24 + a) s3.now).seekAbort a

/-- The heads' targets at a seek to cylinder `c`: every head with a Bridle stage, else the one head named (R179). -/
def State.seekTargets (s : State) (a c h : Nat) : State :=
  if s.bridleFit a then (headsOf a).foldl (fun (t : State) k =>
    (t.set (R.SRV_HD_TGT_TRACK k) c).setFlag (R.SRV_HD_TGT_VALID k) true) s
  else s.putTarget h c

/-- The arm queues of actuator `a` are empty and no write side is in LEAD or OPEN (R179). -/
def State.seekFree (s : State) (a : Nat) : Bool :=
  (headsOf a).all (fun h => (s.head h).arms.isEmpty && !s.writeBusy h)

/-- SEEK to cylinder `c`, from TRACK and HOLD; it waits for the arm queues (R179). -/
def State.seekCmd (s : State) (a c h : Nat) : State :=
  if s.actState a = 5 ∨ s.actState a = 6 then
    if s.seekFree a then (s.seekTargets a c h).enterSeek a c
    else s.modAct a (fun x => { x with pendSeek := some (c, h) })
  else s

/-- A SEEK that waited starts. -/
def State.seekCatchUp (s : State) (a : Nat) : State :=
  match (s.act a).pendSeek with
  | some (c, h) => s.seekCmd a c h
  | none => s

/-- Every target and every SEEK that waits for a write side or an arm queue and can now act does (R179, R193). -/
def State.servoCatchUp (s : State) : State :=
  let s1 := if s.srv.heads.any (fun x => x.pendTrack.isSome || x.pendOfs.isSome) then
      allHeads.foldl (fun (t : State) h => t.targetCatchUp h) s
    else s
  if s1.srv.acts.any (fun x => x.pendSeek.isSome) then (List.range 4).foldl (fun (t : State) a => t.seekCatchUp a) s1 else s1

/-- The end of LOAD: the actuator seeks HOME (R179). -/
def State.seekHome (s : State) (a : Nat) : State :=
  let c := s.get (R.SRV_ACT_CTRL_HOME a)
  (s.seekTargets a c (6 * a + s.get (R.SRV_ACT_CTRL_REF_IDX a))).enterSeek a c

/-- SETTLE ends in TRACK when every head with a VALID target is ONTRK (R177). -/
def State.trackCheck (s : State) (a : Nat) : State :=
  if s.actState a = 4 ∧ (headsOf a).all (fun h =>
      !s.flag (R.SRV_HD_TGT_VALID h) || s.flag (R.SRV_HD_STAT_ONTRK h)) then
    let s1 := (s.actEnter a 5).setFlag (R.SRV_ACT_STAT_SEEKDONE a) true
    { s1 with rte := { s1.rte with trackAt := (match s1.rte.trackAt with
      | some t => some t
      | none => some s1.now) } }
  else s

/-- SEEK ends in SETTLE when |r − x_arm| is within SETTLE_WIN at the end of the profile (R177). -/
def State.settleCheck (s : State) (a : Nat) : State :=
  let x := s.act a
  if s.actState a = 3 ∧ x.profEnd
      ∧ (s.getInt (R.CLE_SEEK_R_R a) - x.xArm).natAbs ≤ 16 * s.get (R.SRV_ACT_LIM_SETTLE_WIN a) then s.actEnter a 4
  else s

/-- SEEK_TMO expires (R179). -/
def State.seekTimeout (s : State) (a : Nat) : State :=
  if (s.actState a = 3 ∨ s.actState a = 4) ∧ s.passed (s.act a).seekAt (s.get (R.SRV_ACT_LIM_SEEK_TMO a) * 1000000) then
    s.seekAbort a
  else s

/-- No servo 150 ms after the start of LOAD (Table 7-4). -/
def State.loadFail (s : State) (a : Nat) : State :=
  if s.actState a = 2 ∧ s.passed (s.act a).loadAt 150000000 then (s.fault .srv (4 + a)).actUnload a else s

/-- An unloading actuator reaches the ramp stop. -/
def State.rampStop (s : State) (a : Nat) : State := if s.actState a = 7 then s.actEnter a 1 else s

/-- SERVO_LOST after LOST_N samples without a GOOD one (R181). -/
def State.servoLost (s : State) (a : Nat) : State :=
  let st := s.actState a
  if 3 ≤ st ∧ st ≤ 6 ∧ s.get (R.SRV_ACT_LIM_LOST_N a) ≤ (s.act a).lostRun then
    let s1 := if st = 3 then s.seekAbort a else s
    (s1.fault .srv (16 + a)).actUnload a
  else s

/-- Every actuator that holds heads off the ramp is retracted, as at a supply loss (R240). -/
def State.retractAll (s : State) : State :=
  (List.range 4).foldl (fun (t : State) a => if 2 ≤ t.actState a then (t.lifeCount 3).actRetract a else t) s

/-- Both links of actuator `a` that Table 5-3 names are up and their status bits cleared: LINK ends (R127). -/
def State.linkReopen (s : State) (a : Nat) : State :=
  let bridle := !s.bridleFit a || ((s.act a).linkUp && !s.faultIs .srv (8 + a))
  let darenlen := s.dlkUp a && !s.faultIs .dlk (4 + a)
  if bridle && darenlen then s.sourceOffHeads (headsOf a) 8 else s

end Sys2Proof.Machine
end

