-- ==== Sys2Proof/Machine/SpinOps.lean ====
section
/-!
DEFINITION. Spindle states: entering them, the commands of SPN_CTRL, catch-spin, brake pending, the Ballast and the
actions at a period boundary (R231 to R241).
-/

namespace Sys2Proof.Machine

open Sys2Proof

/-- Changes the spindle's part of State. -/
def State.modSpn (s : State) (f : SpnSt → SpnSt) : State := { s with spn := f s.spn }

/-- SPN_STAT.STATE and brake pending. -/
def State.spnState (s : State) : Nat := s.get R.SPN_STAT_STATE
def State.brakePend (s : State) : Bool := s.flag R.SPN_STAT_BRAKE_PEND
def State.setBrakePend (s : State) (b : Bool) : State := s.setFlag R.SPN_STAT_BRAKE_PEND b

/-- The speed of R226 in whole rpm. -/
def State.rpm (s : State) : Nat := s.spn.speed / 256

/-- The Ballast is faulted (R238). -/
def State.balFaulted (s : State) : Bool := s.faultIs .spn 3 || s.faultIs .spn 4

/-- The Tether angle is available (R227). -/
def State.tetherAngle (s : State) : Bool := s.flag R.TTH_STAT_ANGLE_VALID
def State.obsLocked (s : State) : Bool := s.flag R.SPN_STAT_OBS_LOCK

/-- Neither angle source is available (R229). -/
def State.noAngle (s : State) : Bool := !s.tetherAngle && !s.obsLocked

/-- Id_ref and the loops' references are 0 outside the states that use them (R224). -/
def refsKept (st : Nat) : Bool := (3 ≤ st && st ≤ 5) || st == 8 || st == 9

/-- SPN enters state `st`: the entry is stamped and SPM_EN follows Table 9-4, in CATCH at the next boundary (R234); references
are 0 outside the states that use them (R224), and PLOSS clips Iq_ref (R225). -/
def State.spnEnter (s : State) (st : Nat) : State :=
  let lim : Int := ((s.get R.SPN_LIM_IQ_LIM * 2 ^ 15 : Nat) : Int)
  let s1 := (s.set R.SPN_STAT_STATE st).modSpn (fun x => { x with
    stateAt := s.now, en := (st != 0 && st != 7 && (st != 8 || x.en)), rest := none, atRun := 0, ovCoast := false
    listenAt := none, retryAt := none, holdRun := 0
    next := (if st = 0 ∨ st = 6 ∨ st = 7 then none else x.next)
    idRef := (if refsKept st then x.idRef else 0)
    iqRef := (if st = 9 then clampI (-lim) 0 x.iqRef else if refsKept st then x.iqRef else 0) })
  let s2 := if refsKept st then s1 else s1.setFlag R.SPN_STAT_FW false
  if st = 4 then s2 else s2.setFlag R.SPN_STAT_AT_SPEED false

/-- The Tether's rotation speed in 1/256 rpm (R57). -/
def State.tetherSpeed (s : State) : Nat := s.fTether * 15360 / 8388608

/-- The loops of a catch-spin start from a speed of `v` / 256 rpm; Iq_ref is 0 for 48 periods (R234 step 3). -/
def State.catchPreset (s : State) (v : Nat) : State :=
  s.modSpn (fun x => { x with
    catchRun := true, catchPer := 0, iqRef := 0, ref := v * 1000000000 / 256 })

/-- CATCH is entered; `start`: its failure is one of START, ACCEL or RUN (R234). -/
def State.spnCatch (s : State) (start : Bool) : State :=
  let s1 := ((s.spnEnter 8).bump R.SPN_CNT_CATCH 1).modSpn (fun x => { x with
    catchStart := start, catchRun := false, catchPer := 0 })
  if s1.obsLocked then s1.catchPreset s1.spn.obsSpeed else s1

/-- The 20 ms listen of a START in STOP begins; an observer that is locked already ends it in CATCH (R231, R232, R234). -/
def State.spnListen (s : State) (renewed : Bool) : State :=
  let s1 := (s.set R.SPN_STAT_TRIES 0).modSpn (fun x => { x with
    listenAt := some s.now, retryAt := none, renewed := renewed,
    startNext := none })
  if s1.obsLocked then s1.spnCatch true else s1

/-- CMD = START has effect now (R231). -/
def State.spnStartOk (s : State) : Bool := s.flag R.SPN_CTRL_EN && !s.spn.fltLow && !s.spn.lost

/-- Arrival in STOP: brake pending clears; a START that is due begins its listen (R231, R234, Table 9-8). -/
def State.spnStop (s : State) : State :=
  let nxt := s.spn.startNext
  let s1 := ((s.spnEnter 0).setBrakePend false).modSpn (fun x => { x with startNext := none })
  match nxt with
  | some r => if s1.spnStartOk then s1.spnListen r else s1
  | none => s1

/-- No angle source is left: CATCH from the closed-loop states, and the end of PLOSS (R229, R240). -/
def State.spnNoAngle (s : State) : State :=
  let st := s.spnState
  if !s.noAngle then s
  else if 3 ≤ st ∧ st ≤ 5 then s.spnCatch (st == 3 || st == 4)
  else if st = 8 ∧ s.spn.catchRun then s.modSpn (fun x => { x with catchRun := false, en := false, stateAt := s.now })
  else if st = 9 then s.spnEnter 7
  else s

/-- CMD = START (R231). -/
def State.spnStart (s : State) : State :=
  if !s.spnStartOk then s
  else
    let s1 := s.setBrakePend false
    match s.spnState with
    | 0 => if s.spn.listenAt.isSome then s1 else s1.spnListen false
    | 5 => s1.spnEnter 3
    | 6 => s1.modSpn (fun x => { x with startNext := some false })
    | 7 => s1.spnCatch true
    | 9 => s
    | _ => s1

/-- CMD = BRAKE (R231). -/
def State.spnBrake (s : State) : State :=
  match s.spnState with
  | 0 => if s.spn.listenAt.isSome then s.setBrakePend true else s
  | 1 => (s.setBrakePend true).modSpn (fun x => { x with next := some .coast })
  | 2 => (s.setBrakePend true).modSpn (fun x => { x with next := some .coast })
  | 3 => (s.setBrakePend true).spnEnter 5
  | 4 => (s.setBrakePend true).spnEnter 5
  | 9 => s
  | _ => s.setBrakePend true

/-- CMD = COAST (R231). -/
def State.spnCoast (s : State) : State :=
  match s.spnState with
  | 0 => s
  | 7 => s
  | 9 => s
  | _ => s.spnEnter 7

/-- CMD of SPN_CTRL (Table 9-9). -/
def State.spnCmd (s : State) (c : Nat) : State :=
  match c with
  | 1 => s.spnStart
  | 2 => s.spnBrake
  | 3 => s.spnCoast
  | _ => s

/-- SPN_CTRL.EN = 0 enters STOP with SPM_EN low. -/
def State.spnDisable (s : State) : State :=
  (s.modSpn (fun x => { x with startNext := none })).spnStop

/-- A TARGET write in RUN enters ACCEL. -/
def State.spnTarget (s : State) : State := if s.spnState = 4 then s.spnEnter 3 else s

/-- LIMP entry: brake pending; BRAKE, or COAST when the Ballast is faulted (R231, Table 9-8). -/
def State.spnLimp (s : State) : State :=
  let s1 := s.spnBrake.setBrakePend (s.spnState != 0 && s.spnState != 9 || s.spn.listenAt.isSome)
  if s.spnState = 9 then s
  else if s.balFaulted ∧ (s.spnState = 3 ∨ s.spnState = 4) then s1.spnEnter 7 else s1

/-! ### Spin-up (R232) -/

/-- The listen ends without a lock: ALIGN, or STOP with brake pending cleared. -/
def State.spnListenEnd (s : State) : State :=
  match s.spn.listenAt with
  | some t =>
    if s.spnState = 0 ∧ s.passed t 20000000 ∧ !s.obsLocked then
      if s.brakePend then (s.setBrakePend false).modSpn (fun x => { x with listenAt := none })
      else (s.spnEnter 1).modSpn (fun x => { x with alignAt := s.now })
    else s
  | none => s

/-- RAMP ends in ACCEL at the observer's speed, unless a COAST is due at the next boundary (R231, Table 9-4). -/
def State.rampEnd (s : State) : State :=
  if s.spnState = 2 ∧ s.obsLocked ∧ s.spn.next ≠ some .coast then
    (s.spnEnter 3).modSpn (fun x => { x with ref := x.obsSpeed * 1000000000 / 256 })
  else s

/-- ALIGN_T has passed. -/
def State.spnAlignEnd (s : State) : State :=
  if s.spnState = 1 ∧ s.passed s.spn.stateAt (s.get R.SPN_START_ALIGN_T * 1000000) ∧ s.spn.next ≠ some .coast then
    (s.spnEnter 2).rampEnd
  else s

/-- RAMP_TMO ends the attempt; the last attempt ends the spin-up. -/
def State.spnRampTimeout (s : State) : State :=
  if s.spnState = 2 ∧ s.passed s.spn.stateAt (s.get R.SPN_START_RAMP_TMO * 10000000) then
    let n := satN (s.get R.SPN_STAT_TRIES + 1) 15
    let renewed := s.spn.renewed
    let s1 := s.spnStop.set R.SPN_STAT_TRIES n
    if s.get R.SPN_START_TRIES ≤ n then s1.fault .spn (if renewed then 2 else 12)
    else s1.modSpn (fun x => { x with retryAt := some s.now })
  else s

/-- A renewed spin-up has not reached speed 25 s after its ALIGN entry: firmware writes BRAKE, and it fails (R53, R234). -/
def State.renewedTimeout (s : State) : State :=
  let st := s.spnState
  if s.spn.renewed ∧ ((1 ≤ st ∧ st ≤ 3) ∨ s.spn.retryAt.isSome) ∧ s.passed s.spn.alignAt 25000000000 then
    (s.spnBrake.fault .spn 2).modSpn (fun x => { x with retryAt := none, renewed := false })
  else s

/-- The 1 s coast between attempts ends. -/
def State.spnRetryEnd (s : State) : State :=
  match s.spn.retryAt with
  | some t => if s.spnState = 0 ∧ s.passed t 1000000000 then s.spnEnter 1 else s
  | none => s

/-- LOCK_N good periods: the observer locks; RAMP, the listen of STOP and CATCH go on (R228, R232, R234). -/
def State.obsLock (s : State) : State :=
  if s.obsLocked ∨ s.spn.lockRun < s.get R.SPN_OBS_CFG_LOCK_N then s
  else
    let s1 := s.setFlag R.SPN_STAT_OBS_LOCK true
    match s.spnState with
    | 0 => if s.spn.listenAt.isSome then s1.spnCatch true else s1
    | 2 => s1.rampEnd
    | 8 => if s.spn.catchRun then s1 else s1.catchPreset s1.spn.obsSpeed
    | _ => s1

/-- 3 bad periods: the observer loses the rotor (R228). -/
def State.obsLoss (s : State) : State :=
  if s.obsLocked ∧ 3 ≤ s.spn.lossRun then
    (((s.setFlag R.SPN_STAT_OBS_LOCK false).bump R.SPN_CNT_OBS_LOSS 1).fault .spn 0).spnNoAngle
  else s

/-- Loop 29 has taken up after the 48 periods with Iq_ref = 0: ACCEL, or BRAKE with brake pending (R234 steps 4 and 5). -/
def State.catchPresetEnd (s : State) : State :=
  if s.spnState = 8 ∧ s.spn.catchRun ∧ 48 ≤ s.spn.catchPer then s.spnEnter (if s.brakePend then 5 else 3) else s

/-- 500 ms in CATCH without a lock (R234): a renewed spin-up follows where it is due. -/
def State.catchFail (s : State) : State :=
  if s.spnState = 8 ∧ !s.spn.catchRun ∧ !s.obsLocked ∧ s.passed s.spn.stateAt 500000000 then
    let start := s.spn.catchStart
    let renewed := s.spn.renewed
    let s1 := (((s.fault .spn 1).setBrakePend true).spnEnter 7)
    if start ∧ renewed then (s1.fault .spn 2).modSpn (fun x => { x with startNext := none, renewed := false })
    else if start then s1.modSpn (fun x => { x with startNext := some true })
    else s1
  else s

/-- 64 checks within 0.1 % of TARGET: ACCEL ends in RUN; the spin-up is over. -/
def State.atSpeed (s : State) : State :=
  if s.spnState = 3 ∧ 64 ≤ s.spn.atRun then
    ((s.spnEnter 4).modSpn (fun x => { x with renewed := false })).setFlag R.SPN_STAT_AT_SPEED true
  else s

/-- A stage fault holds a rotor in COAST out of SHORT (R233). -/
def State.stageHeld (s : State) : Bool := s.faultIs .spn 7 || s.spn.fltLow

/-- Rest: 500 ms of small current in SHORT, or of small back-EMF in COAST with a stage fault (R233). -/
def State.restReached (s : State) : State :=
  match s.spn.rest with
  | some t =>
    if s.passed t 500000000 ∧ (s.spnState = 6 ∨ (s.spnState = 7 ∧ s.stageHeld)) then
      if s.spn.lost ∧ s.spnState = 7 then s else s.spnStop
    else s
  | none => s

/-! ### Faults of the stage, the bus and the Ballast (R235 to R241) -/

/-- SPM_FLT_N moves: low sets STAGE_FLT and enters COAST (R231). -/
def State.stageFault (s : State) (low : Bool) : State :=
  let s1 := s.modSpn (fun x => { x with fltLow := low })
  if low then
    let s2 := (s1.fault .spn 7).ldgProtocol 6 0
    s2.spnEnter 7
  else s1

/-- Closes the Ballast gate. -/
def State.gateLow (s : State) : State :=
  (s.setFlag R.SPN_STAT_BAL_GATE false).modSpn (fun x => { x with gateAt := none, balRun := 0 })

/-- A Ballast fault (R238): the gate goes low, BRAKE ends in COAST at the next boundary, and no regenerative period
follows. -/
def State.ballastFault (s : State) (b : Nat) : State :=
  let s1 := (s.fault .spn b).gateLow
  if s.spnState = 5 then (s1.setBrakePend true).modSpn (fun x => { x with next := some .coast })
  else if s.spnState = 9 then s1
  else s1.modSpn (fun x => { x with next := (match x.next with
    | some .coast => some .coast
    | _ => some .skip) })

/-- BAL_FLT: 2 µs high without BAL_IS, or 5 fast samples at 13,800 mV with the gate high. -/
def State.balFlt (s : State) : State :=
  match s.spn.gateAt with
  | some t => if (!s.spn.isSeen ∧ s.passed t 2000) ∨ 5 ≤ s.spn.balRun then (s.ballastFault 3).ldgProtocol 7 0 else s
  | none => s

/-- BAL_STUCK: BAL_IS high for 2 µs with the gate low. -/
def State.balStuck (s : State) : State :=
  match s.spn.isAt with
  | some t => if s.spn.gateAt.isNone ∧ s.passed t 2000 then (s.ballastFault 4).ldgProtocol 7 0 else s
  | none => s

/-- OV after 2 fast samples at 14,400 mV, except in PLOSS (R239). -/
def State.overVoltage (s : State) : State :=
  if 2 ≤ s.spn.ovRun ∧ s.spnState ≠ 9 then
    let s1 := s.fault .spn 5
    (s1.spnEnter 7).modSpn (fun x => { x with ovCoast := true })
  else s

/-- 1 ms below 13,800 mV: COAST for over-voltage ends in CATCH when brake pending is clear (R239). -/
def State.ovRecovery (s : State) : State :=
  match s.spn.below with
  | some t =>
    if s.spnState = 7 ∧ s.spn.ovCoast ∧ !s.brakePend ∧ !s.spn.lost ∧ !s.stageHeld ∧ s.passed t 1000000 then s.spnCatch false
    else s
  | none => s

/-- Loop 28 or 29 is lost (R235). -/
def State.loopLost (s : State) : State :=
  let s1 := (s.fault .spn 8).setBrakePend true
  if s.spnState = 7 then s1 else s1.modSpn (fun x => { x with next := some .coast })

/-- Cached 4 KiB sectors that are not on the medium. -/
def State.cachedSectors (s : State) : Nat := s.hif.cache.length

/-- The payload of POWER_LOSS and SAFE_STOP (Table 17-4). -/
def State.lastWordBytes (s : State) : List Byte :=
  let off := (List.range 4).foldl (fun n a => if 2 ≤ s.actState a then n + 2 ^ a else n) 0
  leBytes 4 (s.rd R.A_SYS_MODE).toNat ++ leBytes 4 (satN s.cachedSectors (2 ^ 32 - 1)) ++ leBytes 2 s.ldg.queue.length
    ++ [BitVec.ofNat 8 off, BitVec.ofNat 8 s.spnState] ++ leBytes 2 (satN s.rpm 65535)
    ++ leBytes 2 (s.get R.SPN_VBUS_MV) ++ List.replicate 16 0

/-- Supply loss is declared (R240). -/
def State.declareLoss (s : State) : State :=
  let s1 := (((s.fault .spn 6).set64 R.A_SPN_PLOSS_STAMP_LO s.now).setFlag R.SPN_STAT_ISO true).modSpn
    (fun x => { x with lost := true, startNext := none })
  let s2 := (s1.ldgLastWord 0x0002 s.lastWordBytes).retractAll.sourceOnHeads allHeads 9
  if s2.spnState = 0 then s2
  else if s2.flag R.SPN_CTRL_PLOSS_EN ∧ s2.get R.SPN_PLOSS_PLOSS_MIN ≤ s2.rpm ∧ !s2.noAngle then s2.spnEnter 9
  else s2.spnEnter 7

/-- Supply loss: 2 fast samples below VBUS_UV, or SUPOK low for 2 µs (R240). -/
def State.supplyLoss (s : State) : State :=
  let low := match s.spn.supLow with
    | some t => s.passed t 2000
    | none => false
  if !s.spn.lost && (decide (2 ≤ s.spn.uvRun) || low) then s.declareLoss else s

/-- PLOSS ends in COAST (R240). -/
def State.plossEnd (s : State) : State :=
  if s.spnState = 9 ∧ (s.rpm < s.get R.SPN_PLOSS_PLOSS_MIN ∨ 64 ≤ s.spn.holdRun ∨ s.noAngle) then s.spnEnter 7 else s

/-- The two angles differ for 64 periods (R230). -/
def State.angDisagree (s : State) : State := if 64 ≤ s.spn.disRun then s.fault .spn 11 else s

/-! ### Containment (R246) -/

/-- A containment reset of SPN drives SPM_EN and BAL_G low; its readings, the angle in use and the observer's lock are at
their reset values (R16, R246). -/
def State.spnContain (s : State) : State :=
  let s1 := s.gateLow.modSpn (fun x => { x with
    en := false, found := some (s.spnState, x.listenAt.isSome), listenAt := none, idRef := 0, iqRef := 0, lockRun := 0
    lossRun := 0, disRun := 0, validRun := 0, blend := 0 })
  let s2 := (((s1.setFlag R.SPN_STAT_OBS_LOCK false).setFlag R.SPN_STAT_SRC false).setFlag R.SPN_STAT_FW false).setFlag
    R.SPN_STAT_MOD_LIM false
  ((((s2.set R.SPN_IDQ_ID 0).set R.SPN_IDQ_IQ 0).set R.SPN_VBUS_MV 0).set R.SPN_SPERR_ERR 0).setFlag R.SPN_ANGLE_VALID
    false |>.set R.SPN_ANGLE_ANG 0

/-- SPN resumes after its containment reset, by the state in which the reset found it. -/
def State.spnRestart (s : State) : State :=
  match s.spn.found with
  | none => s
  | some (st, listen) =>
    let s1 := s.modSpn (fun x => { x with found := none, next := none })
    if st = 0 then (if listen then s1.modSpn (fun x => { x with listenAt := some s.now }) else s1)
    else if st = 6 then s1.modSpn (fun x => { x with en := true, rest := none })
    else if s.spn.lost then s1.spnEnter 7
    else
      let s2 := s1.spnCatch (st == 3 || st == 4)
      if s2.tetherAngle ∧ !s2.spn.catchRun then (s2.catchPreset s2.tetherSpeed).modSpn (fun x => { x with catchPer := 48 })
      else s2

end Sys2Proof.Machine
end

