-- ==== Sys2Proof/Machine/Cle.lean ====
section
/-!
DEFINITION. The control engine of chapter 8: fixed-point arithmetic, triggers and lanes, the computation of a job,
overruns and loop faults, coefficient sets, injection and capture.
-/

namespace Sys2Proof.Machine

open Sys2Proof

/-! ### Arithmetic (R195 to R197) -/

/-- A product of a datum and a coefficient, rounded to 31 fraction bits. -/
def mulQ (c d : Int) : Int := (c * d + 2 ^ 27) / 2 ^ 28

/-- Saturation to Q17.31 and to Q1.31, with whether it took place. -/
def sat48 (x : Int) : Int × Bool := (clampI (-2 ^ 47) (2 ^ 47 - 1) x, decide (x < -2 ^ 47) || decide (2 ^ 47 - 1 < x))
def sat31 (x : Int) : Int × Bool := (clampI (-2 ^ 31) (2 ^ 31 - 1) x, decide (x < -2 ^ 31) || decide (2 ^ 31 - 1 < x))

/-- A 16-bit input as a datum (R199). -/
def datum16 (x : Int) : Int × Bool := (clampI (-32767) 32767 x * 65536, decide (32767 < x.natAbs))

/-- A 16-bit output from a datum (R199). -/
def out16 (x : Int) : Int := clampI (-32767) 32767 ((x + 32768) / 65536)

/-- What a computation has reached: accumulator, and the ACC and CLIP flags so far. -/
structure Acc where
  v : Int
  acc : Bool
  clip : Bool
  deriving DecidableEq, Repr

/-- Adds to the accumulator, and converts it to Q1.31. -/
def Acc.add (a : Acc) (x : Int) : Acc := ⟨(sat48 (a.v + x)).1, a.acc || (sat48 (a.v + x)).2, a.clip⟩
def Acc.conv (a : Acc) : Acc := ⟨(sat31 a.v).1, a.acc, a.clip || (sat31 a.v).2⟩

/-! ### Coefficient sets (R204) -/

/-- Word `k` of a set as an integer of Q4.28. -/
def coef (ws : List Nat) (k : Nat) : Int := signedOf ((ws[k]?).getD 0) 32
def setNsec (ws : List Nat) : Nat := bitsOf ((ws[29]?).getD 0) 0 3
def setKeep (ws : List Nat) : Bool := bitOf ((ws[29]?).getD 0) 3
def setValid (ws : List Nat) : Bool := bitOf ((ws[29]?).getD 0) 31
def setUlim (ws : List Nat) : Int := (bitsOf ((ws[24]?).getD 0) 0 31 : Nat)

/-- The committed set `k` of loop `n`. -/
def State.cleSet (s : State) (n k : Nat) : List Nat := (List.range 32).map (fun i => cnt s.cle.sets (128 * n + 32 * k + i))

/-! ### The engine's part of State -/

/-- Replaces the engine's part; CLE_STAT follows (Table 8-9). -/
def State.setCle (s : State) (c : CleSt) : State :=
  ((((({ s with cle := c }).set R.CLE_STAT_QUEUED (satN c.queue.length 15)).setFlag R.CLE_STAT_LANE0_BUSY
    ((c.lanes[0]?).getD none).isSome).setFlag R.CLE_STAT_LANE1_BUSY ((c.lanes[1]?).getD none).isSome)).setFlag
    R.CLE_STAT_COMMIT_BUSY c.commit.isSome
def State.modLoop (s : State) (n : Nat) (f : CleLoop → CleLoop) : State :=
  s.setCle { s.cle with loops := listMod s.cle.loops n f }
def State.cleLoop (s : State) (n : Nat) : CleLoop :=
  (s.cle.loops[n]?).getD ⟨List.replicate 4 0, List.replicate 4 0, 0, none, false, false⟩

/-- Cancels the queued and running jobs of loop `n`. -/
def State.cancelJobs (s : State) (n : Nat) : State :=
  s.setCle { s.cle with
    queue := s.cle.queue.filter (fun j => j.loop != n)
    lanes := s.cle.lanes.map (fun l => match l with
      | some (j, t) => if j.loop = n then none else some (j, t)
      | none => none) }

/-- A job of loop `n` is queued or running. -/
def State.hasJob (s : State) (n : Nat) : Bool :=
  s.cle.queue.any (fun j => j.loop == n) || s.cle.lanes.any (fun l => match l with
    | some (j, _) => j.loop == n
    | none => false)

/-- The job of loop `n` that is queued or running. -/
def State.jobOf (s : State) (n : Nat) : Option CleJob :=
  (s.cle.queue ++ s.cle.lanes.filterMap (fun l => l.map (·.1))).find? (fun j => j.loop == n)

/-! ### Injection (R215) -/

/-- The sine of a phase of a turn in 1/2^32, as a fraction in 1/2^60: its Taylor polynomial of degree 17 on a quarter turn,
within 2^−36 of the sine. -/
def sine60 (phase : Nat) : Int :=
  let p := phase % 2 ^ 32
  let q := p % 2 ^ 30
  let r := if p / 2 ^ 30 % 2 = 1 then 2 ^ 30 - q else q
  let x : Int := ((r * 1811004864519280710 / 2 ^ 30 : Nat) : Int)
  let xx := x * x / 2 ^ 60
  let t := (List.range 8).foldl (fun (m : Int × Int) (i : Nat) =>
    let k : Int := ((2 * i + 2) * (2 * i + 3) : Nat)
    let u := -(m.1 * xx / 2 ^ 60) / k
    (u, m.2 + u)) (x, x)
  if 2 ^ 31 ≤ p then -t.2 else t.2

/-- The injected value of the next job: the sine within 2^−23 of AMP, a free choice; PRBS; step (Table 8-7). -/
def State.injValue (s : State) (n : Nat) : Int × State :=
  if s.flag R.CLE_INJ_CTRL_EN && s.get R.CLE_INJ_CTRL_LOOP == n then
    let amp : Int := (s.get R.CLE_INJ_AMP_AMP : Nat)
    match s.get R.CLE_INJ_CTRL_WAVE with
    | 0 =>
      let (d, s1) := s.draw
      let w := amp.toNat / 2 ^ 23
      ((sat31 (amp * sine60 s.cle.phase / 2 ^ 60 + ((d % (2 * w + 2) : Nat) : Int) - (w : Int))).1, s1)
    | 1 => (if bitOf s.cle.lfsr 14 then amp else -amp, s)
    | 2 => (amp, s)
    | _ => (0, s)
  else (0, s)

/-- Phase and LFSR advance after a job of the injected loop. -/
def State.injAdvance (s : State) (n : Nat) : State :=
  if s.flag R.CLE_INJ_CTRL_EN && s.get R.CLE_INJ_CTRL_LOOP == n then
    let r := s.cle.lfsr
    s.setCle { s.cle with
      phase := (s.cle.phase + s.get R.CLE_INJ_FREQ_FREQ) % 2 ^ 32
      lfsr := (r * 2 + Nat.xor (r / 2 ^ 14) (r / 2 ^ 13) % 2) % 2 ^ 15 }
  else s

/-- Injection stops: the loop faulted, or the device left WORKSHOP. -/
def State.injStop (s : State) : State :=
  if s.flag R.CLE_INJ_CTRL_EN then (s.setFlag R.CLE_INJ_CTRL_EN false).fault .cle 4 else s

/-- Injection runs only in WORKSHOP: it stops within one job of the loop after the device has left it. -/
def State.injCheck (s : State) (n : Nat) : State :=
  if s.get R.CLE_INJ_CTRL_LOOP = n ∧ s.mode ≠ mWORKSHOP then s.injStop else s

/-- A write that sets EN starts the waveform (R215). -/
def State.injEnable (s : State) : State := s.setCle { s.cle with phase := 0, lfsr := 0x7FFF }

/-! ### Capture (R216) -/

/-- A write of ARM starts a capture at entry 0. -/
def State.capArm (s : State) : State :=
  ((((s.setCle { s.cle with capSkip := 0 }).set R.CLE_CAP_STAT_TAKEN 0).setFlag R.CLE_CAP_STAT_OVR_SEEN false).setFlag
    R.CLE_CAP_STAT_DONE false).setFlag R.CLE_CAP_STAT_RUN true

/-- A job of loop `n` is recorded when its turn comes: stamp, inj, x and out. -/
def State.capture (s : State) (n stamp : Nat) (inj x out : Int) (ovr : Bool) : State :=
  if !s.flag R.CLE_CAP_STAT_RUN || s.get R.CLE_CAP_CTRL_LOOP != n then s
  else if s.cle.capSkip ≠ 0 then s.setCle { s.cle with capSkip := s.cle.capSkip - 1 }
  else
    let i := s.get R.CLE_CAP_STAT_TAKEN
    let put := fun (m : List (Nat × Nat)) (w v : Nat) => setCnt m (4 * i + w) v
    let m1 := put (put (put (put s.cle.cap 0 (stamp % 2 ^ 32)) 1 (unsignedOf inj 32)) 2 (unsignedOf x 32)) 3
      (unsignedOf out 32)
    let s1 := (s.setCle { s.cle with cap := m1, capSkip := s.get R.CLE_CAP_CTRL_DEC }).set R.CLE_CAP_STAT_TAKEN (i + 1)
    let s2 := if ovr then s1.setFlag R.CLE_CAP_STAT_OVR_SEEN true else s1
    if s.get R.CLE_CAP_CTRL_COUNT ≤ i + 1 then (s2.setFlag R.CLE_CAP_STAT_DONE true).setFlag R.CLE_CAP_STAT_RUN false else s2

/-! ### Overruns and faults (R212 to R214) -/

/-- What a faulted or disabled loop does to its output (R213); the Bridle loops of an actuator without Bridle stages have
no such effect (R176). -/
def State.loopOutputs (s : State) (n : Nat) : State :=
  if n < 24 then
    if s.bridleFit (n / 6) then (s.dropTarget n).loopSource n 3 s.now else s
  else if n < 28 then
    let st := s.actState (n - 24)
    (if st = 0 ∨ st = 1 ∨ st = 8 then s else s.actRetract (n - 24)).loopSource n 3 s.now
  else s.loopLost

/-- Loop `n` is faulted: it takes no more triggers (R213). -/
def State.loopFault (s : State) (n : Nat) : State :=
  let s1 := ((s.cancelJobs n).setFlag (R.CLE_LOOP_STAT_FAULTED n) true).fault .cle 1
  let s2 := if s1.flag R.CLE_INJ_CTRL_EN && s1.get R.CLE_INJ_CTRL_LOOP == n then s1.injStop else s1
  s2.loopOutputs n

/-- The input of a job: PRED times the previous one where the sample has no position; whether it, or a 16-bit input of the
job, saturated (R197, R201). -/
def jobInput (ws : List Nat) (prev : Int) (j : CleJob) : Int × Bool :=
  if j.pred then
    let p := sat31 (mulQ (coef ws 25) prev)
    (p.1, p.2 || j.clip)
  else (j.x, j.clip)

/-- x after injection, where the injection point is IN (R203). -/
def afterInj (pointOut : Bool) (x inj : Int) : Acc :=
  if pointOut then ⟨x, false, false⟩ else (⟨x + inj, false, false⟩ : Acc).conv

/-- An overrun job is recorded with its held output (R216). -/
def State.captureOverrun (s : State) (n : Nat) (j : CleJob) : State :=
  let (inj, s1) := s.injValue n
  let x := (jobInput (s.cleSet n j.set) (s.cleLoop n).prev j).1
  let qsel := n = 28 ∧ s.flag R.CLE_CAP_CTRL_QSEL
  let held := if qsel then s.getInt (R.CLE_LOOP_OUT2_OUT2 n) else s.getInt (R.CLE_LOOP_OUT_OUT n)
  s1.capture n j.stamp inj (afterInj (s.get R.CLE_INJ_CTRL_POINT == 1) (if qsel then j.x2 else x) inj).v held true

/-- The job of loop `n` is overrun: cancelled, its results discarded (R212). -/
def State.cleOverrun (s : State) (n : Nat) : State :=
  let j := s.jobOf n
  let run := satN (s.get (R.CLE_LOOP_STAT_RUN n) + 1) 15
  let s1 := ((((s.cancelJobs n).modLoop n (fun l => { l with ovr := true })).setFlag (R.CLE_LOOP_STAT_OVR n) true).bump
    (R.CLE_LOOP_OVR_OVERRUNS n) 1).set (R.CLE_LOOP_STAT_RUN n) run
  let s2 := match j with
    | some job => (s1.captureOverrun n job).injAdvance n
    | none => s1
  let s3 := (s2.fault .cle 0).loopSource n 3 (match j with
    | some job => job.from0
    | none => s2.now)
  if s3.get (R.CLE_LOOP_CTRL_OVR_RUN n) ≤ run then s3.loopFault n else s3

/-- The loop takes triggers. -/
def State.loopOn (s : State) (n : Nat) : Bool :=
  s.flag R.CLE_CTRL_EN && s.flag (R.CLE_LOOP_CTRL_EN n) && !s.flag (R.CLE_LOOP_STAT_FAULTED n) && !s.inReset .cle

/-- A job's place in the queue: by deadline, then by loop number (R209). -/
def insertJob (j : CleJob) : List CleJob → List CleJob
  | [] => [j]
  | k :: ks =>
    if j.deadline < k.deadline ∨ (j.deadline = k.deadline ∧ j.loop < k.loop) then j :: k :: ks else k :: insertJob j ks

/-- A trigger: the job is queued; a job of the loop that has not ended is overrun at once (R209, R212). A faulted or
disabled loop takes none, and has its effect on its output (R213); a trigger during a containment reset is dropped (R217). -/
def State.cleTrigger (s : State) (j : CleJob) : State :=
  if !s.loopOn j.loop then (if s.flag R.CLE_CTRL_EN ∧ !s.inReset .cle then s.loopOutputs j.loop else s)
  else
    let s1 := if s.hasJob j.loop then s.cleOverrun j.loop else s
    if s1.loopOn j.loop then s1.setCle { s1.cle with queue := insertJob j s1.cle.queue } else s1

/-- The job of loop `n` has not ended at its deadline (R212). -/
def State.jobOverrun (s : State) (n : Nat) : State :=
  match s.jobOf n with
  | some j => if j.deadline ≤ s.now then s.cleOverrun n else s
  | none => s

/-- A write of 1 to FAULTED restarts the loop from cleared states (R214). -/
def State.loopRestart (s : State) (n : Nat) : State :=
  (s.set (R.CLE_LOOP_STAT_RUN n) 0).modLoop n (fun _ => ⟨List.replicate 4 0, List.replicate 4 0, 0, none, false, false⟩)

/-- CNT_CLR clears the loop's counters. -/
def State.loopCntClr (s : State) (n : Nat) : State :=
  (s.set (R.CLE_LOOP_CNT_JOBS n) 0).set (R.CLE_LOOP_OVR_OVERRUNS n) 0

/-! ### Jobs (R203, R205, R209) -/

/-- The committed set `k` of loop `n` is read from its array: whether every word was readable (R373, R374). -/
def State.setRead (s : State) (n k : Nat) : Bool × State :=
  let ws := s.cleSet n k
  let (r, s1) := s.sramWords ((List.range 16).map (fun i =>
    ((⟨true, 0x40, 0, 0x400 + 64 * n + 16 * k + i⟩ : EccKey), (ws[2 * i]?).getD 0 + (ws[2 * i + 1]?).getD 0 * 2 ^ 32)))
  (r.isSome, s1)

/-- A free lane takes the job at the head of the queue, lane 0 first; a set with VALID = 0 or with an uncorrectable word
faults the loop instead (R205, R209, Table 15-1). -/
def State.jobStart (s : State) : State :=
  match s.cle.queue with
  | [] => s
  | j :: rest =>
    match (List.range 2).find? (fun i => ((s.cle.lanes[i]?).getD none).isNone) with
    | none => s
    | some i =>
      let (ok, s1) := (s.setCle { s.cle with queue := rest }).setRead j.loop j.set
      if ok && setValid (s.cleSet j.loop j.set) then s1.setCle { s1.cle with lanes := s1.cle.lanes.set i (some (j, s.now)) }
      else (s1.fault .cle 3).loopFault j.loop

/-- Where a computation stands between sections: v, the section states, and the flags. -/
structure SecSt where
  v : Int
  s1 : List Int
  s2 : List Int
  acc : Bool
  clip : Bool
  deriving DecidableEq, Repr

/-- Section `k` of a set (R203). -/
def runSection (ws : List Nat) (c : SecSt) (k : Nat) : SecSt :=
  let b0 := coef ws (1 + 5 * k)
  let b1 := coef ws (2 + 5 * k)
  let b2 := coef ws (3 + 5 * k)
  let a1 := coef ws (4 + 5 * k)
  let a2 := coef ws (5 + 5 * k)
  let y := (((⟨0, c.acc, c.clip⟩ : Acc).add (mulQ b0 c.v)).add ((c.s1[k]?).getD 0)).conv
  let n1 := (((⟨0, y.acc, y.clip⟩ : Acc).add (mulQ b1 c.v)).add (-(mulQ a1 y.v))).add ((c.s2[k]?).getD 0)
  let n2 := ((⟨0, n1.acc, n1.clip⟩ : Acc).add (mulQ b2 c.v)).add (-(mulQ a2 y.v))
  ⟨y.v, c.s1.set k n1.v, c.s2.set k n2.v, n2.acc, n2.clip⟩

/-- What one channel of a job computes: x after injection, out, section states and the flags ACC, CLIP, OUT (R203). -/
structure JobOut where
  x : Int
  out : Int
  s1 : List Int
  s2 : List Int
  acc : Bool
  clip : Bool
  lim : Bool
  deriving DecidableEq, Repr

/-- One channel of a job: `first` is its first section. -/
def runChannel (ws : List Nat) (x0 inj f0 f1 : Int) (pointOut : Bool) (first : Nat) (s1 s2 : List Int) : JobOut :=
  let xi := afterInj pointOut x0 inj
  let v := (((⟨0, xi.acc, xi.clip⟩ : Acc).add (mulQ (coef ws 0) xi.v))).conv
  let c := ((List.range (setNsec ws)).map (· + first)).foldl (runSection ws) ⟨v.v, s1, s2, v.acc, v.clip⟩
  let a0 := (((⟨0, c.acc, c.clip⟩ : Acc).add (mulQ (coef ws 21) c.v)).add (mulQ (coef ws 22) f0)).add (mulQ (coef ws 23) f1)
  let a1 := if pointOut then a0.add inj else a0
  let lim := setUlim ws
  ⟨xi.v, clampI (-lim) lim a1.v, c.s1, c.s2, a1.acc, a1.clip, decide (lim < a1.v.natAbs)⟩

/-- The output of a job goes to its user (Table 8-2). -/
def State.deliver (s : State) (n : Nat) (d q : Int) : State :=
  if n < 24 then (if s.bstateOf n = 2 then s.modHsv n (fun x => { x with out := out16 d }) else s)
  else if n < 28 then
    let st := s.actState (n - 24)
    if st = 0 ∨ st = 1 ∨ st = 8 then s else s.setInt (R.SRV_VCM_I_I_CMD (n - 24)) (out16 d)
  else if n = 28 then s.modSpn (fun x => { x with vd := d, vq := q })
  else
    let lim : Int := (s.get R.SPN_LIM_IQ_LIM * 2 ^ 15 : Nat)
    let lo := if s.balFaulted ∧ s.spnState ≠ 9 then 0 else -lim
    let hi := if s.spnState = 9 then 0 else lim
    s.modSpn (fun x => { x with iqRef := (if x.catchRun ∧ s.spnState = 8 ∧ x.catchPer < 48 then 0 else clampI lo hi d) })

/-- The latency registers of a job that ends now (R211, Table 8-10). -/
def State.jobLat (s : State) (j : CleJob) : State :=
  let lat := s.now - j.from0
  let s1 := s.set (R.CLE_LOOP_STAT_LAT j.loop) (satN lat 65535)
  if j.deadline = j.from0 + 160 ∧ s.get R.CLE_LAT_LAT_MAX < satN lat 255 then
    (s1.set R.CLE_LAT_LAT_MAX (satN lat 255)).set R.CLE_LAT_LOOP j.loop
  else s1

/-- The flags of an ended job: sticky bits, and CLE_SAT where the loop raises it (R198). -/
def State.jobFlags (s : State) (j : CleJob) (acc clip lim : Bool) : State :=
  let n := j.loop
  let or1 := fun (t : State) (f : Fld) (b : Bool) => if b then t.setFlag f true else t
  let s1 := or1 (or1 (or1 s (R.CLE_LOOP_STAT_ACC n) acc) (R.CLE_LOOP_STAT_CLIP n) clip) (R.CLE_LOOP_STAT_OUT n) lim
  let raise := decide (n < 28) && (acc || clip || (lim && (decide (n < 24) || j.outSat)))
  let s2 := s1.modLoop n (fun l => { l with sat := raise })
  if raise then (s2.loopSource n 4 j.from0).fault .cle 2 else s2

/-- The seek reference that a VCM job in SEEK writes back (R208). -/
def State.seekBack (s : State) (j : CleJob) : State :=
  match j.seek with
  | some (r, v, fin) =>
    let a := j.loop - 24
    if s.actState a = 3 then
      let (vr, s1) := s.openDiv (16 * v.num) v.den
      let s2 := (s1.setInt (R.CLE_SEEK_R_R a) r).set (R.CLE_SEEK_V_V a) (satN vr.toNat 65535)
      (s2.modAct a (fun x => { x with seekV := v, profEnd := fin })).settleCheck a
    else s
  | none => s

/-- Ends job `j` in time: states, output, flags, counters and capture (R203, R205, R212); a loop disabled during the job is
so from then on (R217). -/
def State.finishJob (s : State) (j : CleJob) : State :=
  let n := j.loop
  let ws := s.cleSet n j.set
  let l := s.cleLoop n
  let clear := l.lastSet ≠ some j.set ∧ !setKeep ws
  let z := List.replicate 4 (0 : Int)
  let s1 := if clear then z else l.s1
  let s2 := if clear then z else l.s2
  let (inj, t0) := s.injValue n
  let po := s.get R.CLE_INJ_CTRL_POINT == 1
  let xp := jobInput ws l.prev j
  let d := runChannel ws xp.1 inj j.f0 j.f1 po 0 s1 s2
  let q := if n = 28 then runChannel ws j.x2 inj 0 0 po 2 d.s1 d.s2 else d
  let t1 := t0.modLoop n (fun l => { l with s1 := q.s1, s2 := q.s2, prev := xp.1, lastSet := some j.set, ovr := false })
  let t2 := (((t1.set (R.CLE_LOOP_STAT_RUN n) 0).set (R.CLE_LOOP_STAT_SET n) j.set).bump (R.CLE_LOOP_CNT_JOBS n) 1).setInt
    (R.CLE_LOOP_OUT_OUT n) d.out
  let t3 := if n = 28 then t2.setInt (R.CLE_LOOP_OUT2_OUT2 n) q.out else t2
  let t4 := ((t3.jobLat j).jobFlags j (d.acc || q.acc) (d.clip || q.clip || xp.2) (d.lim || q.lim)).seekBack j
  let qsel := n = 28 ∧ s.flag R.CLE_CAP_CTRL_QSEL
  let t5 := (((t4.deliver n d.out q.out).capture n j.stamp inj (if qsel then q.x else d.x) (if qsel then q.out else d.out)
    false).injAdvance n).injCheck n
  if t5.flag (R.CLE_LOOP_CTRL_EN n) then t5 else t5.loopOutputs n

/-- The job on lane `i` ends; one past its deadline is overrun (R203, R212). -/
def State.jobEnd (s : State) (i : Nat) : State :=
  match (s.cle.lanes[i]?).getD none with
  | some (j, _) =>
    if j.deadline < s.now then s.cleOverrun j.loop
    else (s.setCle { s.cle with lanes := s.cle.lanes.set i none }).finishJob j
  | none => s

/-! ### Commits (R206) -/

/-- The staged set may be committed to loop `n`: one with VALID = 1 needs a matching CHECK and an allowed NSEC. -/
def stageOk (n : Nat) (ws : List Nat) : Bool :=
  !setValid ws || (bitsOf ((ws[31]?).getD 0) 0 16 == crc16 ((wordBytes ws).take 124)
    && decide (setNsec ws ≤ if n = 28 then 2 else 4))

/-- A CLE_COMMIT write (R206). -/
def State.cleCommit (s : State) (n k : Nat) : State :=
  if 30 ≤ n ∨ s.cle.commit.isSome then s
  else
    let ws := (List.range 32).map (fun i => s.get (R.CLE_STAGE_WORD i))
    if stageOk n ws then s.setCle { s.cle with commit := some (n, k, ws) } else s.fault .cle 3

/-- The pending commit is copied once no job of its loop is queued or running. -/
def State.commitCopy (s : State) : State :=
  match s.cle.commit with
  | some (n, k, ws) =>
    if s.hasJob n then s
    else (s.arrayStored 0x40 0 (0x400 + 64 * n + 16 * k) 16).setCle { s.cle with
      commit := none
      sets := (ws.zipIdx).foldl (fun m e => setCnt m (128 * n + 32 * k + e.2) e.1) s.cle.sets }
  | none => s

/-! ### Containment (R217, Table 8-8) -/

/-- The read-only fields of CLE at their reset values: the counters and RUN are kept (R16, R393). -/
def State.cleRegsReset (s : State) : State :=
  let s1 := (List.range 30).foldl (fun (t : State) n =>
    (((t.set (R.CLE_LOOP_STAT_LAT n) 0).set (R.CLE_LOOP_STAT_SET n) 0).set (R.CLE_LOOP_OUT_OUT n) 0).set
      (R.CLE_LOOP_OUT2_OUT2 n) 0) s
  let s2 := (List.range 4).foldl (fun (t : State) a => (t.set (R.CLE_SEEK_R_R a) 0).set (R.CLE_SEEK_V_V a) 0) s1
  ((((s2.set R.CLE_LAT_LAT_MAX 0).set R.CLE_LAT_LOOP 0).set R.CLE_CAP_STAT_TAKEN 0).setFlag R.CLE_CAP_STAT_OVR_SEEN
    false).setFlag R.CLE_CAP_STAT_RUN false |>.setFlag R.CLE_CAP_STAT_DONE false

/-- A containment reset of CLE: jobs are cancelled, each enabled loop counts one overrun, section states clear, a pending
commit is discarded, and seeks in progress are aborted. -/
def State.cleContain (s : State) : State :=
  let s1 := (List.range 30).foldl (fun (t : State) n =>
    if t.flag (R.CLE_LOOP_CTRL_EN n) && !t.flag (R.CLE_LOOP_STAT_FAULTED n) then t.cleOverrun n else t) s
  let s2 := s1.setCle { s1.cle with
    queue := [], lanes := [none, none], commit := none, phase := 0, lfsr := 0x7FFF, capSkip := 0
    loops := s1.cle.loops.map (fun l => { l with s1 := List.replicate 4 0, s2 := List.replicate 4 0 }) }
  ((List.range 4).foldl (fun (t : State) a =>
    if t.actState a = 3 ∨ t.actState a = 4 then (t.followCut (24 + a) t.now).seekAbort a else t) s2).cleRegsReset

end Sys2Proof.Machine
end

