-- ==== Sys2Proof/Machine/Servo.lean ====
section
/-!
DEFINITION. The servo of chapter 7: wedges and sample classes, samples and the loops they trigger, following errors, Gust
ports, Bridle links and VCM ports.
-/

namespace Sys2Proof.Machine

open Sys2Proof

/-! ### The wedge (R164, R167 to R169) -/

/-- The data bits of `k` Manchester pairs, none at a violation. -/
def unManchester : Nat → Nat → Option Nat
  | 0, _ => some 0
  | k + 1, n =>
    match unManchester k (n / 4), n % 4 with
    | some v, 2 => some (2 * v + 1)
    | some v, 1 => some (2 * v)
    | _, _ => none

/-- The track number of a 22-bit Gray code. -/
def unGray (g : Nat) : Nat := (List.range 22).foldl (fun t i => Nat.xor t (g / 2 ^ i)) 0

/-- The XOR of the eight nibbles of a 32-bit value. -/
def nibbleXor (v : Nat) : Nat := (List.range 8).foldl (fun p i => Nat.xor p (bitsOf v (4 * i) 4)) 0

/-- The track and wedge number that the 72 coded servo bits spell, none at a violation or a parity error. -/
def decodeWedge (id : Nat) : Option (Nat × Nat) :=
  match unManchester 22 (id / 2 ^ 28), unManchester 10 (id / 2 ^ 8 % 2 ^ 20), unManchester 4 (id % 2 ^ 8) with
  | some g, some w, some p => if nibbleXor (g * 2 ^ 10 + w) = p then some (unGray g, w) else none
  | _, _, _ => none

/-- `k` data bits Manchester-coded, the first of them most significant (R164). -/
def manchester : Nat → Nat → Nat
  | 0, _ => 0
  | k + 1, n => manchester k (n / 2) * 4 + (if n % 2 = 1 then 2 else 1)

/-- The 72 coded servo bits of track `t` and wedge `w`, the first of them most significant (R163, R164). -/
def codeWedge (t w : Nat) : Nat :=
  let v := Nat.xor t (t / 2) * 2 ^ 10 + w
  manchester 22 (v / 2 ^ 10) * 2 ^ 28 + manchester 10 (v % 2 ^ 10) * 2 ^ 8 + manchester 4 (nibbleXor v)

/-- The servo bits of a native wedge up to its bursts, the first one sent in bit 0: preamble, SAM and coded fields (Table
7-1). -/
def wedgeBits (t w : Nat) : Nat :=
  msbFirst 32 0xAAAAAAAA + 2 ^ 32 * msbFirst 12 0x8E5 + 2 ^ 44 * msbFirst 72 (codeWedge t w)

/-- The Tether clock that a head's demodulator counts with: the locked one, else that of the observer's speed (R167). -/
def State.servoClock (s : State) : Nat := if s.tthLocked then s.fTether else clockOfSpeed s.spn.obsSpeed

/-- Wedges in a revolution of the actuator's format. -/
def State.wedgeCount (s : State) (a : Nat) : Nat := max 1 (s.get (R.SEQ_FMT_WEDGES a))

/-- The prediction of a servo address mark, as seen from a stamp: the wedge expected, and how far the stamp lies after the
predicted mark, in 1/(256 W) Tether clock, W wedges a revolution; none where the spindle does not turn (R167). With no mark
of the head before it, the stamp itself is the prediction. -/
def State.samPredict (s : State) (h stamp : Nat) : Option (Nat × Int) :=
  let w := s.wedgeCount (h / 6)
  if s.tthLocked then
    let x := w * ((s.angle256 stamp + 2 ^ 31 - s.get (R.SRV_HD_SAMANG_ANG h)) % 2 ^ 31)
    let k := (x + 2 ^ 30) / 2 ^ 31
    some (k % w, Int.ofNat x - Int.ofNat (k * 2 ^ 31))
  else if s.servoClock = 0 then none
  else
    let k := (s.get (R.SRV_HD_PES_WNUM h) + 1) % w
    match (s.hsv h).samAt with
    | some t => some (k, ((stamp : Int) - t) * ((s.servoClock * 256 * w : Nat) : Int) / 1000000000 - 2 ^ 31)
    | none => some (k, 0)

/-- Bits in which the 12 servo bits that end `o` servo bits after bit 512 of a stream differ from the SAM. -/
def samDiff (bits : Nat) (o : Int) : Nat :=
  let d := Nat.xor (bitsOf bits (o + 501).toNat 12) (msbFirst 12 0x8E5)
  ((List.range 12).filter (fun i => bitOf d i)).length

/-- The nearer of two candidates, each an offset and its distance; on a tie the earlier one. -/
def nearerSam (m : Option (Int × Int)) (c : Int × Int) : Option (Int × Int) :=
  match m with
  | some b => if c.2.natAbs < b.2.natAbs then some c else m
  | none => some c

/-- A servo address mark found: its offset in servo bits, its distance from the prediction in 1/(256 W) Tether clock, the
predicted wedge, and its stamp. -/
structure SamHit where
  o : Int
  dist : Int
  w : Nat
  stamp : Nat
  deriving DecidableEq, Repr

/-- The SAM window in servo bits (R167). -/
def State.samWin (s : State) : Nat := if s.tthLocked then s.get R.SRV_DEMOD_SAM_WIN else s.get R.SRV_DEMOD_SAM_WIN_U

/-- The servo address mark of a wedge: among the positions within the window of the prediction with at most SAM_TOL wrong
bits, the closest one, the earlier on a tie (R167). -/
def State.samOf (s : State) (h : Nat) (o : WedgeObs) : Option SamHit :=
  match s.samPredict h (s.now - o.ago) with
  | none => none
  | some (w, delta) =>
    let unit : Int := ((1024 * s.wedgeCount (h / 6) : Nat) : Int)
    let first : Int := -(delta / unit) - 17
    let cands := ((List.range 35).map (fun i => (first + i, unit * (first + i) + delta))).filter (fun c =>
      decide (-501 ≤ c.1) && decide (c.2.natAbs ≤ s.samWin * unit.natAbs)
        && decide (samDiff o.bits c.1 ≤ s.get R.SRV_DEMOD_SAM_TOL))
    match cands.foldl nearerSam none with
    | some (k, d) =>
      let t : Int := ((s.now - o.ago : Nat) : Int) + k * 4000000000 / ((max 1 s.servoClock : Nat) : Int)
      some ⟨k, d, w, t.toNat⟩
    | none => none

/-- The stamp of a wedge's sample: that of its mark, or of the prediction of one that was missed (R163, Table 1-5). -/
def State.samStamp (s : State) (h : Nat) (o : WedgeObs) : Nat :=
  let t0 := s.now - o.ago
  match s.samOf h o, s.samPredict h t0 with
  | some m, _ => m.stamp
  | none, some (_, d) => ((t0 : Int) - d * 1000000000 / ((max 1 (s.servoClock * 256 * s.wedgeCount (h / 6)) : Nat) : Int)).toNat
  | none, none => t0

/-- The wedge that a sample's prediction expects. -/
def State.samWedge (s : State) (h : Nat) (o : WedgeObs) : Nat :=
  match s.samPredict h (s.now - o.ago) with
  | some (w, _) => w
  | none => s.get (R.SRV_HD_PES_WNUM h)

/-- A burst amplitude: the mean absolute ADC value, with 1,023 at ADC full scale (R169). -/
def State.burstAmp (s : State) (xs : List Int) : Nat × State :=
  let (v, s1) := s.openDiv ((xs.foldl (fun n x => n + x.natAbs) 0 * 1023 : Nat) : Int) (64 * max 1 xs.length)
  (min 1023 v.toNat, s1)

/-- The four burst amplitudes. -/
structure Bursts where
  a : Nat
  b : Nat
  c : Nat
  d : Nat
  deriving DecidableEq, Repr

def State.burstsOf (s : State) (o : WedgeObs) : Bursts × State :=
  let xs := fun (i : Nat) => (o.bursts[i]?).getD []
  let (a, s1) := s.burstAmp (xs 0)
  let (b, s2) := s1.burstAmp (xs 1)
  let (c, s3) := s2.burstAmp (xs 2)
  let (d, s4) := s3.burstAmp (xs 3)
  (⟨a, b, c, d⟩, s4)

/-- The class of a sample (Table 7-2), and what its coded fields spell. -/
def State.classOf (s : State) (h : Nat) (o : WedgeObs) (bu : Bursts) : Nat × Option (Nat × Nat) :=
  let lo := 4 * s.get R.SRV_DEMOD_BSUM_MIN
  let hi := 4 * s.get R.SRV_DEMOD_BSUM_MAX
  let inRange := fun (x : Nat) => decide (lo ≤ x) && decide (x ≤ hi)
  match s.samOf h o with
  | none => (3, none)
  | some m =>
    if s.inReset (.ch h) then (3, none)
    else if !(inRange (bu.a + bu.b) && inRange (bu.c + bu.d)) then (2, none)
    else match decodeWedge (msbFirst 72 (bitsOf o.bits (m.o + 513).toNat 72)) with
      | some (t, w) => if !s.tthLocked || w == m.w then (0, some (t, w)) else (1, none)
      | none => (1, none)

/-- BPES of R169 in 1/256 track for a track of parity `odd`; its nearest integer. -/
def State.bpes (s : State) (o : Bursts) (odd : Bool) : Int × State :=
  let ab : Int := (o.a + o.b : Nat)
  let cd : Int := (o.c + o.d : Nat)
  let n : Int := if odd then (o.b : Int) - o.a else (o.a : Int) - o.b
  let q : Int := (o.c : Int) - o.d
  if ab ≤ 0 ∨ cd ≤ 0 then (0, s)
  else if n.natAbs * cd.toNat ≤ q.natAbs * ab.toNat then s.nearDiv (64 * n) ab.toNat
  else
    let sg : Int := if n < 0 then -1 else 1
    s.nearDiv (sg * (128 * cd - 64 * (q.natAbs : Int))) cd.toNat

/-! ### The following error and the checks (R171, R182) -/

/-- Every bit of a port's MAP. -/
def State.gustMap (s : State) (n : Nat) : Nat := if n = 0 then s.get R.SRV_GUST_0_CFG_MAP else s.get R.SRV_GUST_1_CFG_MAP
def State.gustEn (s : State) (n : Nat) : Bool := if n = 0 then s.flag R.SRV_GUST_0_CFG_EN else s.flag R.SRV_GUST_1_CFG_EN
def State.gustFf (s : State) (n : Nat) : Bool :=
  if n = 0 then s.flag R.SRV_GUST_0_CFG_FF_EN else s.flag R.SRV_GUST_1_CFG_FF_EN
def State.gustTripN (s : State) (n : Nat) : Nat :=
  if n = 0 then s.get R.SRV_GUST_0_CFG_TRIP_N else s.get R.SRV_GUST_1_CFG_TRIP_N

/-- No Gust port that maps to actuator `a` is tripped. -/
def State.gustClear (s : State) (a : Nat) : Bool :=
  (List.range 2).all (fun n => !(bitOf (s.gustMap n) a && s.flag (R.SRV_GUST_STAT_TRIPPED n)))

/-- The cause of CLE_OVR or CLE_SAT of loop `n` holds now. -/
def State.loopBad (s : State) (n : Nat) : Bool :=
  let l := s.cleLoop n
  l.ovr || l.sat || s.flag (R.CLE_LOOP_STAT_FAULTED n) || !s.flag (R.CLE_LOOP_CTRL_EN n)

/-- T of the VCM loop of actuator `a`, and whether its following error stands (R182, Table 7-7). -/
def State.vcmT (s : State) (a : Nat) : Nat :=
  if s.actState a = 3 ∨ s.actState a = 4 then s.get (R.SRV_ACT_VFOL_T_SEEK a) else s.get (R.SRV_ACT_VFOL_T_TRACK a)
def State.vcmFollow (s : State) (a : Nat) : Bool := decide (s.vcmT a ≤ (s.act a).folRun) && decide (0 < (s.act a).folRun)
def State.headFollow (s : State) (h : Nat) : Bool :=
  decide (s.get (R.SRV_HD_CAL_T h) ≤ (s.hsv h).folRun) && decide (0 < (s.hsv h).folRun)

/-- The off-track limit in force (R171). -/
def State.wot (s : State) (h : Nat) : Nat :=
  if s.archive then s.get (R.CH_WR_LIM_WOT_ARCH h) else s.get (R.CH_WR_LIM_WOT h)

/-- A sample of class `c` and error `e` passes every check (R171). -/
def State.passes (s : State) (h c : Nat) (e : Int) : Bool :=
  let a := h / 6
  c == 0 && decide (e.natAbs ≤ s.wot h) && !s.headFollow h && !s.vcmFollow a && !(s.bridleFit a && s.loopBad h)
    && !s.loopBad (24 + a) && s.gustClear a && (!s.bridleFit a || (s.act a).linkUp)

/-! ### VCM inputs (R175, R200, R208) -/

/-- The sum of kb × u over the heads of `a` in FOLLOW, and their number. -/
def State.displacement (s : State) (a : Nat) : Int × Nat :=
  (headsOf a).foldl (fun m h => if s.bstateOf h = 2
    then (m.1 + (s.get (R.SRV_HD_CAL_KB h) : Int) * (s.hsv h).u, m.2 + 1) else m) (0, 0)

/-- The one VALID head of a single-stage actuator, and its latest e. -/
def State.soleError (s : State) (a : Nat) : Int :=
  match (headsOf a).find? (fun h => s.flag (R.SRV_HD_TGT_VALID h)) with
  | some h => s.getInt (R.SRV_HD_PES_E h)
  | none => 0

/-- V of the profile interpolated at distance `d`, tracks per µs (R208). -/
def State.profileV (s : State) (a : Nat) (d : Rat) : Rat :=
  let n := s.get (R.CLE_SEEK_CFG_NENT a)
  let dd := fun (i : Nat) => ((s.get (R.CLE_PROF_LO_D a i) : Nat) : Rat)
  let vv := fun (i : Nat) => ((s.get (R.CLE_PROF_HI_V a i) : Nat) : Rat) / 16
  match (List.range (n - 1)).find? (fun i => decide (dd i ≤ d) && decide (d < dd (i + 1))) with
  | some i => vv i + (vv (i + 1) - vv i) * (d - dd i) / (dd (i + 1) - dd i)
  | none => vv (n - 1)

/-- One step of the seek reference at a sample stamp: r, v and the end of the profile (R208). -/
def State.seekStep (s : State) (a stamp : Nat) : (Int × Rat × Bool) × State :=
  let x := s.act a
  let r := s.getInt (R.CLE_SEEK_R_R a)
  let goal : Int := 256 * (x.target : Int)
  let dt : Rat := ((min (stamp - x.sampleAt) 10000 : Nat) : Rat) / 1000
  let d : Rat := (((goal - r).natAbs : Nat) : Rat) / 256
  let acc : Rat := ((s.get (R.CLE_SEEK_CFG_ACC a) : Nat) : Rat) / 256
  let v := min (x.seekV + acc * dt) (s.profileV a d)
  if d ≤ v * dt then ((goal, v, true), s)
  else
    let m := 256 * v * dt
    let (k, s1) := s.nearDiv m.num m.den
    ((if goal < r then r - k else r + k, v, x.profEnd), s1)

/-- Feedforward inputs of actuator `a`: LIN and ROT of the lower port that maps it with FF_EN, 0 once older than TMO; and
whether one saturated (R186, R197, R202). -/
def State.feedForward (s : State) (a : Nat) : (Int × Int) × Bool :=
  match (List.range 2).find? (fun n => bitOf (s.gustMap n) a && s.gustFf n && s.gustEn n) with
  | some n =>
    if s.passed (s.gust n).goodAt (s.get (R.SRV_GUST_TIME_TMO n) * 1000 + 1) then ((0, 0), false)
    else
      let l := datum16 (s.getInt (R.SRV_GUST_LAST_LIN n))
      let r := datum16 (s.getInt (R.SRV_GUST_LAST_ROT n))
      ((l.1, r.1), l.2 || r.2)
  | none => ((0, 0), false)

/-- The VCM job of a servo sample (Tables 8-2 and 8-3). -/
def State.vcmJob (s : State) (a stamp : Nat) (pred : Bool) : State :=
  let st := s.actState a
  let x := s.act a
  let ff := s.feedForward a
  let mk := fun (set : Nat) (v : Int) (sk : Option (Int × Rat × Bool)) (os : Bool) =>
    (⟨24 + a, s.now + 160, s.now, stamp, set, (datum16 v).1, 0, (!pred && (datum16 v).2) || ff.2, pred, ff.1.1, ff.1.2, sk, os⟩ : CleJob)
  if st = 3 then
    let (sk, s1) := s.seekStep a stamp
    s1.cleTrigger (mk 1 (sk.1 - x.xArm) (some sk) false)
  else if st = 4 then
    s.cleTrigger (mk 1 (if s.bridleFit a then s.getInt (R.CLE_SEEK_R_R a) - x.xArm else s.soleError a) none false)
  else if st = 5 then
    if s.bridleFit a then
      let m := s.displacement a
      let (v, s1) := if m.2 = 0 then (0, s) else s.openDiv m.1 (32768 * m.2)
      s1.cleTrigger (mk 2 v none true)
    else s.cleTrigger (mk 2 (s.soleError a) none true)
  else if st = 6 then s.cleTrigger (mk 3 (-x.velArm) none true)
  else s

/-! ### A sample (R168 to R182) -/

/-- The arm estimate of a sample with a position: x_arm and vel_arm (R173, R200). -/
def State.armEstimate (s : State) (h stamp : Nat) (p : Int) : State :=
  let a := h / 6
  let x := s.act a
  let (ku, s1) := s.openDiv ((s.get (R.SRV_HD_CAL_KB h) : Int) * (s.hsv h).u) 32768
  let xa := p - ku - s.misreg h
  let dt := stamp - x.posAt
  let (va, s2) := if dt = 0 ∨ x.posAt = 0 then (x.velArm, s1) else s1.openDiv ((xa - x.xArm) * 1000) dt
  let (cyl, s3) := s2.nearDiv xa 256
  (s3.modAct a (fun y => { y with xArm := xa, velArm := va, posAt := stamp })).setInt (R.SRV_ACT_STAT_CYL a) cyl

/-- Runs of samples beyond the following-error limits (R182); a sample without a position ends a run. -/
def State.followRuns (s : State) (h : Nat) (has : Bool) (e : Int) : State :=
  let a := h / 6
  let st := s.actState a
  let s1 := if s.bstateOf h = 2 then
      s.modHsv h (fun x => if has && decide (s.get (R.SRV_HD_CAL_L h) < e.natAbs)
        then { x with folRun := x.folRun + 1 } else { x with folRun := 0, folDone := false })
    else s
  let m := s1.displacement a
  let far := if st = 3 ∨ st = 4 then
      decide (16 * s1.get (R.SRV_ACT_VFOL_L_SEEK a) < (s1.getInt (R.CLE_SEEK_R_R a) - (s1.act a).xArm).natAbs)
    else if s1.bridleFit a then decide (16 * s1.get (R.SRV_ACT_VFOL_L_TRACK a) * 32768 * m.2 < m.1.natAbs) && m.2 != 0
    else decide (16 * s1.get (R.SRV_ACT_VFOL_L_TRACK a) < (s1.soleError a).natAbs)
  if 3 ≤ st ∧ st ≤ 6 then
    s1.modAct a (fun x => if has && far then { x with folRun := x.folRun + 1 } else { x with folRun := 0, folDone := false })
  else s1

/-- The passing samples of the loops that named a source count towards its reopening (R127). -/
def State.reopen (s : State) (h : Nat) (pass : Bool) : State :=
  let a := h / 6
  let gc := s.gustClear a
  let s1 := s.reopenSample h ([1, 5] ++ [2, 3, 4].filter (fun n => !bitOf (s.head h).srcVcm n)) pass gc
  (headsOf a).foldl (fun (t : State) k =>
    t.reopenSample k ([2, 3, 4].filter (fun n => bitOf (t.head k).srcVcm n)) pass gc) s1

/-- ONTRK counts the samples that pass within ONTRK_WIN, and clears at one that does not pass (R178). -/
def State.onTrack (s : State) (h : Nat) (pass : Bool) (e : Int) : State :=
  if !s.countsOn h then s
  else if !pass then (s.setFlag (R.SRV_HD_STAT_ONTRK h) false).modHsv h (fun x => { x with onRun := 0 })
  else if e.natAbs ≤ s.get (R.SRV_ACT_LIM_ONTRK_WIN (h / 6)) then s.modHsv h (fun x => { x with onRun := x.onRun + 1 })
  else s.modHsv h (fun x => { x with onRun := 0 })

/-- The PES and status registers of a sample (Table 7-15). -/
def State.sampleRegs (s : State) (h c tid wedge : Nat) (has : Bool) (e : Int) : State :=
  let s1 := s.set (R.SRV_HD_STAT_CLASS h) c
  let s2 := if has then ((s1.set (R.SRV_HD_STAT_TID h) tid).setInt (R.SRV_HD_PES_E h) e).modHsv h (fun x => { x with tid := tid })
    else s1
  s2.set (R.SRV_HD_PES_WNUM h) wedge

/-- PES demodulation of a wedge of head `h` ends (R168 to R182, R199, R200). -/
def State.servoSample (s : State) (h : Nat) (o : WedgeObs) : State :=
  if !s.chPowered h then s
  else
    let a := h / 6
    let w0 := (s.targetCatchUp h).seekCatchUp a
    let stamp := w0.samStamp h o
    let expected := w0.samWedge h o
    let (bu, s00) := w0.burstsOf o
    let (c, ids) := s00.classOf h o bu
    let s0 := s00.modHsv h (fun x => { x with samAt := some stamp })
    let st := s0.actState a
    let has := c == 0 || c == 1
    let tid : Nat := match ids with
      | some (t, _) => t
      | none => (s0.hsv h).tid
    let wedge : Nat := match ids with
      | some (_, w) => w
      | none => if s0.tthLocked then expected else s0.get (R.SRV_HD_PES_WNUM h)
    let (b, s1) := if has then s0.bpes bu (tid % 2 == 1) else (0, s0)
    let p : Int := 256 * (tid : Int) + b
    let e := clampI (-32767) 32767 (s1.targetPos h - p)
    let s2 := s1.sampleRegs h c tid wedge has e
    let used := c == 0 || (c == 1 && st != 2 && st != 3)
    let s3 := if used then s2.armEstimate h stamp p else s2
    let s4 := s3.modAct a (fun x => { x with lostRun := (if c = 0 then 0 else x.lostRun + 1) })
    let s5 := if st = 2 ∧ c = 0 ∧ h = 6 * a + s4.get (R.SRV_ACT_CTRL_REF_IDX a) then s4.seekHome a else s4
    let s6 := ((s5.strokeCheck h).followRuns h used e).settleCheck a
    let pass := s6.passes h c e
    let s7 := (s6.modHsv h (fun x => { x with sampleOk := pass })).reopen h pass
    let s8 := if pass then s7.modHead h (fun x => { x with passPrev := x.passAt, passAt := s7.now }) else s7
    let off := c != 0 || decide (s8.wot h < e.natAbs)
    let s9 := if off then (if has then s8.adjSuspect h e s8.now else s8).sourcesOn h [1] s8.now else s8
    let s10 := s9.onTrack h pass e
    let bad := !used
    let s11 := if s10.bstateOf h = 2 then
        s10.cleTrigger ⟨h, s10.now + 160, s10.now, stamp, 0, (datum16 e).1, 0, !bad && (datum16 e).2, bad, 0, 0, none, true⟩
      else s10
    let s12 := s11.vcmJob a stamp bad
    (s12.modAct a (fun x => { x with sampleAt := stamp })).trackCheck a

/-- ONTRK sets after ONTRK_N samples, and SETTLE may end in TRACK (R178). -/
def State.ontrkSet (s : State) (h : Nat) : State :=
  if s.countsOn h ∧ s.get (R.SRV_ACT_LIM_ONTRK_N (h / 6)) ≤ (s.hsv h).onRun ∧ 0 < (s.hsv h).onRun then
    (s.setFlag (R.SRV_HD_STAT_ONTRK h) true).trackCheck (h / 6)
  else s

/-- A following error on T consecutive samples of loop `n` (R182). -/
def State.followError (s : State) (n : Nat) : State :=
  if n < 24 then
    if s.headFollow n ∧ !(s.hsv n).folDone then (s.modHsv n (fun x => { x with folDone := true })).followCut n s.now else s
  else
    let a := n - 24
    if s.vcmFollow a ∧ !(s.act a).folDone then
      let s1 := (s.modAct a (fun x => { x with folDone := true })).followCut n s.now
      if s.actState a = 3 ∨ s.actState a = 4 then s1.seekAbort a else s1
    else s

/-! ### Gust ports (R183 to R186) -/

/-- The heads of the actuators that a port maps to. -/
def State.gustHeads (s : State) (n : Nat) : List Nat := ((setBits (s.gustMap n) 4).map headsOf).flatten

/-- A Gust frame is received (R183 to R186). -/
def State.gustFrame (s : State) (n f : Nat) : State :=
  if !s.gustEn n then s
  else if !frameOk f then
    ((s.bump (R.SRV_GUST_STAT_CRC_CNT n) 1).modGust n (fun g => { g with crcRun := g.crcRun + 1 })).ldgProtocol 8 n
  else
    let lin := bitsOf f 24 16
    let rot := bitsOf f 8 16
    let over1 := decide (s.get (R.SRV_GUST_TRIP_TRIP_LIN n) < (signedOf lin 16).natAbs)
      || decide (s.get (R.SRV_GUST_TRIP_TRIP_ROT n) < (signedOf rot 16).natAbs)
    ((s.set (R.SRV_GUST_LAST_LIN n) lin).set (R.SRV_GUST_LAST_ROT n) rot).modGust n (fun g => { g with
      tripRun := (if over1 then g.tripRun + 1 else 0)
      crcRun := 0
      goodAt := s.now
      within := (if over1 then none else some (g.within.getD s.now))
      goodSince := some (g.goodSince.getD s.now) })

/-- The port counts as tripped: its heads are cut (R184). -/
def State.gustTripped (s : State) (n : Nat) : State :=
  ((s.setFlag (R.SRV_GUST_STAT_TRIPPED n) true).sourceOnHeads (s.gustHeads n) 5).fault .srv (28 + n)

/-- TRIP_N frames in a row beyond a threshold (R184). -/
def State.gustTrip (s : State) (n : Nat) : State :=
  if s.gustEn n ∧ s.gustTripN n ≤ (s.gust n).tripRun ∧ 0 < (s.gust n).tripRun then s.gustTripped n else s

/-- The port is lost (R185). -/
def State.gustLost (s : State) (n : Nat) : State :=
  ((s.modGust n (fun g => { g with within := none, goodSince := none })).setFlag (R.SRV_GUST_STAT_LOST n) true).gustTripped n
    |>.fault .srv (30 + n)

/-- No good frame for TMO µs, or three bad CRCs in a row (R185). -/
def State.gustTimeout (s : State) (n : Nat) : State :=
  if s.gustEn n ∧ s.passed (s.gust n).goodAt (s.get (R.SRV_GUST_TIME_TMO n) * 1000) then (s.gustLost n).ldgProtocol 8 n else s
def State.gustCrcLoss (s : State) (n : Nat) : State :=
  if s.gustEn n ∧ 3 ≤ (s.gust n).crcRun then s.gustLost n else s

/-- HOLD µs have passed since the moment. -/
def State.held (s : State) (n : Nat) (t : Option Nat) : Bool :=
  match t with
  | some k => s.passed k (s.get (R.SRV_GUST_TIME_HOLD n) * 1000)
  | none => false

/-- The port is no longer lost, and its trip clears (R184, R185). -/
def State.gustTripClear (s : State) (n : Nat) : State :=
  let lost := s.flag (R.SRV_GUST_STAT_LOST n) && !s.held n (s.gust n).goodSince
  let s1 := s.setFlag (R.SRV_GUST_STAT_LOST n) lost
  if !lost && s.held n (s.gust n).within then s1.setFlag (R.SRV_GUST_STAT_TRIPPED n) false else s1

/-- Writing EN = 0 clears CRC_CNT; the port neither trips nor is lost (Table 7-12). -/
def State.gustOff (s : State) (n : Nat) : State :=
  (((s.set (R.SRV_GUST_STAT_CRC_CNT n) 0).setFlag (R.SRV_GUST_STAT_LOST n) false).setFlag (R.SRV_GUST_STAT_TRIPPED n)
    false).modGust n (fun _ => ⟨0, 0, 0, none, none⟩)

/-! ### Bridle links (R187 to R189) -/

/-- A frame with the command of channel `ch` starts: the loop's output in FOLLOW, 0 in CENTER (R178, R189). -/
def State.bridleCmd (s : State) (a ch : Nat) : State :=
  let h := 6 * a + ch
  if !s.bridleOn a ∨ !(s.act a).linkUp ∨ s.bstateOf h = 0 then s
  else
    let v := if s.bstateOf h = 2 then (s.hsv h).out else 0
    (s.modHsv h (fun x => { x with u := v })).bridleSend a ch v

/-- 10 µs after the last frame: a refresh frame, or a CH 6 frame while the link is down or no stage follows (R189). -/
def State.bridleRefresh (s : State) (a : Nat) : State :=
  if !s.bridleOn a ∨ !s.passed (s.act a).sentAt 10000 then s
  else if !(s.act a).linkUp ∨ s.allCentered a then s.bridleCenter a
  else
    let x := s.act a
    (s.modAct a (fun y => { y with rot := (y.rot + 1) % 6 })).bridleSend a x.rot ((x.lastCmd[x.rot]?).getD 0)

/-- The reply to the oldest frame that waits for one, or none: CRC, echoes, the amplifier's flags, and what it senses or
reads; a flag while the link is down is reported at once (Table 7-9, R189). -/
def State.bridleReply (s : State) (a : Nat) (f : Option Nat) : State :=
  match (s.act a).await with
  | [] => s
  | (ch, seq) :: rest =>
    let v := f.getD 0
    let ok := f.isSome && frameOk v && bitsOf v 36 4 == 6 && bitsOf v 33 3 == ch && bitsOf v 26 4 == seq
    let flags := ok && bitsOf v 30 3 != 0
    let s1 := (if ok && !flags then s else s.ldgProtocol 4 a).modAct a (fun x => { x with
      await := rest
      badRun := (if ok then 0 else x.badRun + 1)
      goodRun := (if ok && !flags then x.goodRun + 1 else 0)
      flagged := x.flagged || flags
      sense := (if ok && decide (ch < 6) then x.sense.set ch (signedOf (bitsOf v 10 16) 16) else x.sense)
      ampData := (if ok && ch == 7 then bitsOf v 10 8 else x.ampData) })
    if flags ∧ s.bridleFit a ∧ !(s.act a).linkUp then s1.fault .srv (24 + a) else s1

/-- The link is declared down: the LINK source, and UNLOAD (R189). -/
def State.bridleDown (s : State) (a : Nat) : State :=
  let x := s.act a
  if s.bridleFit a ∧ x.linkUp ∧ (3 ≤ x.badRun ∨ x.flagged) then
    let follow := (headsOf a).any (fun h => s.bstateOf h == 2)
    let s1 := ((s.modAct a (fun y => { y with linkUp := false, goodRun := 0 })).fault .srv (8 + a))
    let s2 := if x.flagged then s1.fault .srv (24 + a) else s1
    let s3 := ((s2.sourceOnHeads (headsOf a) 8).refreshHeads a).actUnload a
    if follow then s3.bridleCenter a else s3
  else s

/-- Three valid replies in a row with clear flags bring the link up again (R189). -/
def State.bridleUp (s : State) (a : Nat) : State :=
  if !(s.act a).linkUp ∧ 3 ≤ (s.act a).goodRun then
    ((s.modAct a (fun x => { x with linkUp := true, flagged := false, badRun := 0 })).refreshHeads a).linkReopen a
  else s

/-! ### VCM ports (R190 to R192, Table 8-3) -/

/-- The regulator's sum kept so that |v| ≤ 1, and v in 1/2^31 (R191). -/
def regulator (kp ki : Nat) (err sum : Int) : Int × Int :=
  let p := (kp : Int) * err * 16
  let one : Int := 2 ^ 31
  if ki = 0 then (sum + err, clampI (-one) one p)
  else
    let hi := (one - p) / (ki : Int)
    let lo := -((one + p) / (ki : Int))
    let k := clampI lo hi (sum + err)
    (k, clampI (-one) one (p + (ki : Int) * k))

/-- The velocity loop's job of LOAD and UNLOAD, at every 16th current sample (R175, R197, R200). -/
def State.velocityJob (s : State) (a : Nat) : State :=
  let ws := s.cleSet (24 + a) 0
  let x := s.act a
  let (vb, s1) := s.openDiv ((s.get R.SPN_VBUS_MV : Int) * 2 ^ 31) (max 1 (s.get R.SPN_BUS_VBUS_FS))
  let duty := sat31 x.duty
  let (dv, s2) := s1.openDiv (duty.1 * vb) (2 ^ 31)
  let i := datum16 (s.getInt (R.SRV_VCM_I_I_MEAS a))
  let net := sat31 (dv - mulQ (coef ws 26) i.1)
  let emf := mulQ (coef ws 27) net.1
  let p2 := coef ws 28 * 8
  let v := sat31 ((if s.actState a = 2 then p2 else -p2) - emf)
  let ff := s.feedForward a
  s2.cleTrigger ⟨24 + a, s.now + 2000, s.now, s.now, 0, v.1, 0, v.2 || duty.2 || i.2 || net.2 || ff.2, false, ff.1.1, ff.1.2,
    none, false⟩

/-- The sample that the latest bits of VCM_a_ISD give: sinc3 with a decimation of 64 (R190). -/
def State.vcmFilter (s : State) (isd : Nat) : Int × State := s.filtered 64 isd 16

/-- How long PA and PB are high in a period of `per` × 5 ns with a regulator output of `v` / 2^31, in ns (R190). -/
def vcmHigh (per : Nat) (v : Int) : Rat × Rat :=
  (((2 ^ 31 + v : Int) : Rat) * (5 * per : Nat) / 2 ^ 32, ((2 ^ 31 - v : Int) : Rat) * (5 * per : Nat) / 2 ^ 32)

/-- A current sample of the VCM port of actuator `a`, 64 more bits of its bitstream (R190 to R192): drive is removed in OFF
and RAMP and while VCM_a_FLT_N is low. -/
def State.vcmSample (s : State) (a bits : Nat) : State :=
  let isd := ((s.act a).isd * 2 ^ 64 + bits % 2 ^ 64) % 2 ^ 190
  let (i, s0) := s.vcmFilter isd
  let s1 := s0.setInt (R.SRV_VCM_I_I_MEAS a) i
  let err := s1.getInt (R.SRV_VCM_I_I_CMD a) - i
  let x := s1.act a
  let (sum, v) := regulator (s1.get (R.SRV_VCM_PI_KP a)) (s1.get (R.SRV_VCM_PI_KI a)) err x.sum
  let st := s1.actState a
  let on := s1.flag (R.SRV_VCM_PWM_EN a) && decide (2 ≤ st) && !x.fltLow
  let vel := decide (st = 2) || decide (st = 7)
  let s2 := s1.modAct a (fun y => { y with
    isd := isd
    sum := (if on then sum else 0)
    duty := (if on then v else 0)
    pwm := vcmHigh (s1.get (R.SRV_VCM_PWM_PER a)) (if on then v else 0)
    overRun := (if s1.get (R.SRV_VCM_PWM_IMAX a) < 2 * i.natAbs then y.overRun + 1 else 0)
    count16 := (if vel then (y.count16 + 1) % 16 else 0) })
  if vel && (s2.act a).count16 == 0 then s2.velocityJob a else s2

/-- Over-current on 8 samples in a row: BRIDGE_FLT and RETRACT (R191). -/
def State.vcmOver (s : State) (a : Nat) : State :=
  if 8 ≤ (s.act a).overRun then (s.fault .srv (12 + a)).actRetract a else s

/-- VCM_a_FLT_N moves: low sets BRIDGE_FLT, disables the bridge and holds the output at 0 (R191). -/
def State.vcmBridge (s : State) (a : Nat) (low : Bool) : State :=
  let s1 := s.modAct a (fun x => { x with fltLow := low })
  if low then
    (((s1.fault .srv (12 + a)).setFlag (R.SRV_VCM_PWM_EN a) false).modAct a (fun x => { x with duty := 0, sum := 0 })).ldgProtocol
      5 a
  else s1

end Sys2Proof.Machine
end

