-- ==== Sys2Proof/Machine/Spin.lean ====
section
/-!
DEFINITION. The spindle's samples of chapter 9: the current sample with its angle, speed check and loop triggers, the PWM
period, the fast bus sample, and SPDREF.
-/

namespace Sys2Proof.Machine

open Sys2Proof

/-! ### Transforms (R220, R222, R228) -/

/-- √3, below by less than 2^−60. -/
def sqrt3 : Rat := 1996918623117814387 / 2 ^ 60

/-- Sine and cosine of an electrical angle in 1/65536 turn, within 2^−36. -/
def sinQ (ang : Nat) : Rat := (sine60 (ang % 65536 * 65536) : Rat) / 2 ^ 60
def cosQ (ang : Nat) : Rat := sinQ (ang + 16384)

/-- The Clarke transform of three phase quantities, amplitudes kept. -/
def clarke (u v w : Rat) : Rat × Rat := ((2 * u - v - w) / 3, (v - w) / sqrt3)

/-- The Park transform at an angle, and its inverse. -/
def park (x : Rat × Rat) (ang : Nat) : Rat × Rat :=
  (x.1 * cosQ ang + x.2 * sinQ ang, x.2 * cosQ ang - x.1 * sinQ ang)
def unPark (x : Rat × Rat) (ang : Nat) : Rat × Rat :=
  (x.1 * cosQ ang - x.2 * sinQ ang, x.2 * cosQ ang + x.1 * sinQ ang)

/-- The square of a vector's amplitude. -/
def amp2 (x : Rat × Rat) : Rat := x.1 * x.1 + x.2 * x.2

/-- A 16-bit sample as a fraction of full scale. -/
def frac16 (x : Int) : Rat := (x : Rat) / 32768

/-- A period's samples: phase currents U and V as fractions of IFS, bus voltage in mV, terminal voltages as fractions of
VBUS_FS (R220). The current of phase W is −U − V. -/
structure SpnSample where
  iu : Rat
  iv : Rat
  mv : Nat
  vu : Rat
  vv : Rat
  vw : Rat
  deriving DecidableEq, Repr

/-- The bus voltage in mV of a 16-bit sample. -/
def State.busMv (s : State) (x : Int) : Nat × State :=
  let (v, s1) := s.openDiv (x * (s.get R.SPN_BUS_VBUS_FS : Int)) 32768
  (v.toNat, s1)

/-- The samples that the filters give (R220). -/
def State.spnSamples (s : State) (o : SpnObs) : SpnSample × State :=
  let (iu, s1) := s.filtered 64 o.isu 16
  let (iv, s2) := s1.filtered 64 o.isv 16
  let (vs, s3) := s2.filtered 64 o.vsd 16
  let (mv, s4) := s3.busMv vs
  let (vu, s5) := s4.filtered 64 o.vtu 16
  let (vv, s6) := s5.filtered 64 o.vtv 16
  let (vw, s7) := s6.filtered 64 o.vtw 16
  (⟨frac16 iu, frac16 iv, mv, frac16 vu, frac16 vv, frac16 vw⟩, s7)

/-- Phase currents and terminal voltages in the stator frame. -/
def SpnSample.iab (x : SpnSample) : Rat × Rat := clarke x.iu x.iv (-x.iu - x.iv)
def SpnSample.vab (x : SpnSample) : Rat × Rat := clarke x.vu x.vv x.vw

/-! ### The observer (R228) -/

/-- A register of Q4.28 as a number. -/
def q28 (n : Nat) : Rat := (signedOf n 32 : Rat) / 2 ^ 28

/-- KE × a speed in 1/256 rpm, a fraction of VBUS_FS. -/
def State.emfAt (s : State) (v : Nat) : Rat := q28 (s.get R.SPN_OBS_KE_KE) * v / (256 * 16384)

/-- The back-EMF of a period, a fraction of VBUS_FS: from the applied voltages, the currents and the model, or from the
terminal voltages with zero current while the phases are at high impedance. -/
def State.backEmf (s : State) (x : SpnSample) : Rat × Rat :=
  if !s.spn.en then x.vab
  else
    let r := q28 (s.get R.SPN_OBS_R_R)
    let l := q28 (s.get R.SPN_OBS_L_L)
    let i := x.iab
    let p := s.spn.iPrev
    let v := s.spn.vAb
    (v.1 - r * i.1 - l * (i.1 - p.1), v.2 - r * i.2 - l * (i.2 - p.2))

/-- An angle of `deg` degrees or less lies between a vector and the axis along which its part is `dot`, its part across being
`cross`. -/
def angWithin (dot cross : Rat) (deg : Nat) : Bool :=
  let sn : Rat := (sine60 (deg * 2 ^ 32 / 360) : Rat) / 2 ^ 60
  let cs : Rat := (sine60 (deg * 2 ^ 32 / 360 + 2 ^ 30) : Rat) / 2 ^ 60
  if deg < 90 then decide (0 < dot) && decide (cross * cross * (cs * cs) ≤ dot * dot * (sn * sn))
  else if deg < 180 then decide (0 ≤ dot) || decide (dot * dot * (sn * sn) ≤ cross * cross * (cs * cs))
  else true

/-- Runs of periods in which the observer may lock, or loses the rotor: the back-EMF against where its angle and speed expect
it, a quarter turn ahead of the rotor's d-axis (R228). -/
def State.observerRuns (s : State) (e : Rat × Rat) : State :=
  let z := park e (s.spn.obsAngle + 16384)
  let ke := s.emfAt s.spn.obsSpeed
  let m := amp2 e
  let slow := decide (s.spn.obsSpeed < 4096 * s.get R.SPN_OBS_CFG_OBS_MIN)
  let good := angWithin z.1 z.2 15 && decide (9 * ke * ke ≤ 16 * m) && decide (16 * m ≤ 25 * ke * ke) && !slow
  let bad := !angWithin z.1 z.2 (s.get R.SPN_OBS_CFG_LOSS_DEG) || decide (4 * m < ke * ke) || decide (9 * ke * ke < 4 * m) || slow
  s.modSpn (fun y => { y with
    lockRun := (if good then satN (y.lockRun + 1) 65535 else 0), lossRun := (if bad then satN (y.lossRun + 1) 65535 else 0) })

/-- The observer's angle and speed follow the back-EMF `e`; while the Tether is in use and the observer is not locked, they
are preset from the Tether angle `te` (R228, R229). -/
def State.observerStep (s : State) (e : Rat × Rat) (te : Nat) : State :=
  if s.tetherAngle ∧ s.flag R.SPN_STAT_SRC ∧ !s.obsLocked then
    s.modSpn (fun y => { y with obsAngle := te, obsSpeed := s.tetherSpeed })
  else
    let z := park e (s.spn.obsAngle + 16384)
    let n := Config.observerNext s.spn.obsAngle s.spn.obsSpeed z.1 z.2
    s.modSpn (fun y => { y with obsAngle := n.1 % 65536, obsSpeed := satN n.2 (2 ^ 24 - 1) })

/-! ### Angles (R227 to R230) -/

/-- The Tether electrical angle (R227). -/
def tetherElec (pp theta ofs : Nat) : Nat := (pp * theta / 128 + ofs) % 65536

/-- The signed difference of two angles, in 1/65536 turn. -/
def angDiff (a b : Nat) : Int := signedOf (a + 65536 - b % 65536) 16

/-- The angle in use and its register: SRC, ANGLE and VALID, `te` being the Tether electrical angle; a handover to the Tether
waits for 64 periods of ANGLE_VALID while the observer holds, and its difference is removed at no more than 1° a period
(R229, R230). -/
def State.angleSample (s : State) (te : Nat) : State :=
  let tv := s.tetherAngle
  let ov := s.obsLocked
  let oa := s.spn.obsAngle
  let old := s.flag R.SPN_STAT_SRC
  let run := if tv then satN (s.spn.validRun + 1) 65535 else 0
  let want := if s.get R.SPN_CTRL_ANG_MODE = 1 then tv else tv && !ov
  let src := if want then (old || !ov || decide (64 ≤ run)) else if ov then false else tv
  let diff := angDiff oa te
  let (x, s1) := if s.spn.blend = 0 then (0, s) else s.draw
  let step : Int := ((x % 183 : Nat) : Int)
  let blend := if src && !old && ov then diff
    else if !src then 0
    else if 0 < s.spn.blend then max 0 (s.spn.blend - step) else min 0 (s.spn.blend + step)
  let ang := if src then unsignedOf ((te : Int) + blend) 16 else oa % 65536
  let apart := tv && ov && decide (s.get R.SPN_OBS_CFG_DISAGREE_DEG * 65536 < diff.natAbs * 360)
  (((s1.modSpn (fun y => { y with
    validRun := run, blend := blend, disRun := (if apart then satN (y.disRun + 1) 65535 else 0) })).setFlag R.SPN_STAT_SRC
    src).setFlag R.SPN_ANGLE_VALID (tv || ov)).set R.SPN_ANGLE_ANG ang

/-- The forced angle at stamp `t`: 0 in ALIGN; in RAMP it advances at a speed that rises from 0 at RAMP_ACC (R232). -/
def State.forcedAngle (s : State) (t : Nat) : Nat × State :=
  if s.spnState = 2 then
    let n := s.get R.SPN_MOTOR_PP * s.get R.SPN_START_RAMP_ACC * (t - s.spn.stateAt) ^ 2 * 65536
    let (x, s1) := s.openDiv (Int.ofNat n) (120 * 10 ^ 18)
    (x.toNat % 65536, s1)
  else (0, s)

/-- The angle of the transforms at a sample of stamp `t` (R222, R229). -/
def State.transformAngle (s : State) (t : Nat) : Nat × State :=
  if s.spnState = 1 ∨ s.spnState = 2 then s.forcedAngle t else (s.get R.SPN_ANGLE_ANG, s)

/-! ### The speed (R226) -/

/-- The advance of the active angle since the sample before, in revolutions: `th` is the Tether angle, `oa` the observer's
angle then. -/
def State.advance (s : State) (th oa : Nat) : Rat :=
  if s.flag R.SPN_STAT_SRC then
    match s.spn.thPrev with
    | some p => (signedOf (th + 8388608 - p) 23 : Rat) / 8388608
    | none => 0
  else (angDiff s.spn.obsAngle oa : Rat) / (65536 * max 1 (s.get R.SPN_MOTOR_PP) : Nat)

/-- The speed in 1/256 rpm from stamps and advances, the latest first: the advance over the last 64 periods divided by the
time. -/
def State.speedOf (s : State) (adv : List (Nat × Rat)) : Nat × State :=
  match adv, adv.getLast? with
  | a :: _, some z =>
    if z.1 < a.1 then
      let x := ((adv.dropLast.map (·.2)).sum * 15360000000000) / ((a.1 - z.1 : Nat) : Rat)
      let (v, s1) := s.openDiv x.num x.den
      (satN v.toNat (2 ^ 24 - 1), s1)
    else (0, s)
  | _, _ => (0, s)

/-- The sample of stamp `t` joins the window of 64 periods, and the speed follows. -/
def State.speedSample (s : State) (t th oa : Nat) : State :=
  let adv := ((t, s.advance th oa) :: s.spn.adv).take 65
  let (v, s1) := s.speedOf adv
  (s1.modSpn (fun y => { y with adv := adv, speed := v, thPrev := (if s.tetherAngle then some th else none) })).set
    R.SPN_SPEED_SPEED v

/-! ### The speed check (R226, R236) -/

/-- The end point of the reference's slew: SPDREF in WORKSHOP, else TARGET, in 1e-9 rpm (R242). -/
def State.spdrefOn (s : State) : Bool := s.mode == mWORKSHOP && s.get R.SPN_SPDREF_CFG_MODE != 0
def State.spnGoal (s : State) : Nat :=
  (if s.spdrefOn && s.get R.SPN_SPDREF_STAT_REF != 0 then s.get R.SPN_SPDREF_STAT_REF else s.get R.SPN_TARGET_RPM)
    * 1000000000

/-- The present speed reference with SPDREF's correction, 1e-9 rpm. -/
def State.spnRef (s : State) : Nat := ((s.spn.ref : Int) + s.spn.corr).toNat

/-- The state has a speed reference (R226). -/
def State.hasRef (s : State) : Bool :=
  let st := s.spnState
  (3 ≤ st && st ≤ 5) || (st == 8 && s.spn.catchRun)

/-- The speed check of a current sample of stamp `d`: SPN_SPERR, AT_SPEED, the SPEED source and its reopening (R127, R226). -/
def State.speedCheck (s : State) (d : Nat) : State :=
  let ref := s.spnRef
  let speed := s.spn.speed * 1000000000 / 256
  let err : Int := (speed : Int) - ref
  let (ppm, s0) := if s.hasRef ∧ ref ≠ 0 then s.openDiv (err * 1000000) ref else (0, s)
  let s1 := s0.setInt R.SPN_SPERR_ERR (clampI (-32767) 32767 ppm)
  let run := s.spnState == 4 && s.hasRef
  let pass := run && decide (err.natAbs * 1000 ≤ ref)
  let fine := run && decide (err.natAbs * 2000 ≤ ref)
  let goal := s.spnGoal
  let near := s.spnState == 3 && decide (((speed : Int) - goal).natAbs * 1000 ≤ goal)
  let s2 := s1.modSpn (fun y => { y with
    atRun := (if near then satN (y.atRun + 1) 65535 else 0), okRun := (if fine then satN (y.okRun + 1) 65535 else 0) })
  let s3 := s2.setFlag R.SPN_STAT_AT_SPEED pass
  if !pass then s3.sourceOnAt allHeads 6 d
  else if 16 ≤ s3.spn.okRun then s3.sourceOffHeads allHeads 6 else s3

/-- Heads are unloaded below FLY_MIN (R236). -/
def State.flyCheck (s : State) : State :=
  if (List.range 4).any (fun a => decide (2 ≤ s.actState a)) ∧ s.rpm < s.get R.SPN_BRAKE_FLY_MIN then
    (List.range 4).foldl (fun (t : State) a => t.actUnload a) (s.fault .spn 10)
  else s

/-- BRAKE, and COAST with brake pending, end in SHORT at 1,000 rpm: in COAST by the observer's speed, or by the terminal
back-EMF `e` where the observer is not locked (R233). -/
def State.shortCheck (s : State) (e : Rat × Rat) : State :=
  let emf := s.emfAt 256000
  if s.spnState = 5 ∧ s.spn.speed ≤ 256000 then s.spnEnter 6
  else if s.spnState = 7 ∧ s.brakePend ∧ !s.stageHeld ∧ !s.spn.lost
      ∧ (if s.obsLocked then s.spn.obsSpeed ≤ 256000 else amp2 e < emf * emf) then s.spnEnter 6
  else s

/-- Since when the conditions of rest hold: an amplitude below 1/256 of full scale, of the currents in SHORT and of the
terminal back-EMF in COAST (R233). -/
def State.restTrack (s : State) (x : SpnSample) : State :=
  let small := fun (v : Rat × Rat) => decide (amp2 v * 65536 < 1)
  let low := if s.spnState = 6 then small x.iab else s.spnState == 7 && small x.vab
  s.modSpn (fun y => { y with rest := (if low then some (y.rest.getD s.now) else none) })

/-! ### Loop triggers (Table 9-2) -/

/-- A datum of a current as a fraction of IFS, signed, and of a 16-bit unsigned fraction. -/
def curDatum (x : Int) : Int := x * 65536
def fracDatum (n : Nat) : Int := ((n * 2 ^ 15 : Nat) : Int)

/-- Iq_ref within its bounds: no motoring torque in PLOSS, no regenerative torque with the Ballast faulted (R225). -/
def State.iqBound (s : State) : Int :=
  let lim := fracDatum (s.get R.SPN_LIM_IQ_LIM)
  if s.spnState = 9 then clampI (-lim) 0 s.spn.iqRef
  else if s.balFaulted then clampI 0 lim s.spn.iqRef else s.spn.iqRef

/-- Loop 28's job of a current sample of stamp `t` and currents `id` and `iqm`. -/
def State.currentJob (s : State) (t : Nat) (id iqm : Int) : State :=
  let st := s.spnState
  let lim := fracDatum (s.get R.SPN_LIM_IQ_LIM)
  let iq := s.iqBound
  let mk := fun (set : Nat) (d q : Int) =>
    s.cleTrigger ⟨28, s.now + 2000, s.now, t, set, (sat31 d).1, (sat31 q).1, (sat31 d).2 || (sat31 q).2, false, 0, 0, none,
      false⟩
  if st = 1 then mk 1 (lim - curDatum id) (-(curDatum iqm))
  else if st = 2 then mk 1 (-(curDatum id)) (lim - curDatum iqm)
  else if st = 3 ∨ st = 4 ∨ (st = 8 ∧ s.spn.catchRun) then mk 0 (s.spn.idRef - curDatum id) (iq - curDatum iqm)
  else if st = 5 ∨ st = 9 then mk 2 (s.spn.idRef - curDatum id) (iq - curDatum iqm)
  else s

/-- Loop 29's job, every DIV-th current sample: of stamp `t` and bus voltage `mv`. -/
def State.speedJob (s : State) (t mv : Nat) : State :=
  let st := s.spnState
  let mk := fun (u : State) (set : Nat) (x : Int) =>
    u.cleTrigger ⟨29, u.now + 20000, u.now, t, set, (sat31 x).1, 0, (sat31 x).2, false, 0, 0, none, false⟩
  let n := s.spn.samples + 1
  if n < s.get (R.CLE_LOOP_CTRL_DIV 29) then s.modSpn (fun y => { y with samples := n })
  else
    let s1 := s.modSpn (fun y => { y with samples := 0 })
    if (3 ≤ st ∧ st ≤ 5) ∨ (st = 8 ∧ s.spn.catchRun ∧ 48 ≤ s.spn.catchPer) then
      let (x, s2) := s1.openDiv (((s1.spnRef : Int) - s1.spn.speed * 1000000000 / 256) * 2 ^ 31) (16384 * 1000000000)
      mk s2 (if st = 3 ∨ st = 8 then 1 else if st = 4 then 0 else 2) x
    else if st = 9 then
      let (x, s2) := s1.openDiv (((mv : Int) - s1.get R.SPN_PLOSS_VBUS_HOLD) * 2 ^ 31) (max 1 (s1.get R.SPN_BUS_VBUS_FS))
      mk s2 3 x
    else s1

/-- PLOSS: periods at −IQ_LIM with the bus below VBUS_HOLD (R240). -/
def State.holdTrack (s : State) (mv : Nat) : State :=
  let full := s.spnState == 9 && s.spn.iqRef == -(fracDatum (s.get R.SPN_LIM_IQ_LIM))
    && decide (mv < s.get R.SPN_PLOSS_VBUS_HOLD)
  s.modSpn (fun y => { y with holdRun := (if full then satN (y.holdRun + 1) 65535 else 0) })

/-- A period's angle: the Tether's, the observer's and the one in use, the observer's runs, and the speed (R226 to R230). -/
def State.spnAngles (s : State) (stamp : Nat) (x : SpnSample) : State :=
  let (th, s1) := if s.tetherAngle then s.tetherAt stamp else (0, s)
  let te := tetherElec (s.get R.SPN_MOTOR_PP) th (s.get R.SPN_MOTOR_THETA_OFS)
  let e := s.backEmf x
  ((((s1.observerStep e te).observerRuns e).angleSample te).spnNoAngle).speedSample stamp th s.spn.obsAngle

/-- A rational number as an integer: exact, or either neighbour, a free choice. -/
def State.openRat (s : State) (x : Rat) : Int × State := s.openDiv x.num x.den

/-- A period's currents in the rotor frame, with their registers (R222). -/
def State.spnCurrents (s : State) (stamp : Nat) (x : SpnSample) : (Int × Int) × State :=
  let (ang, s1) := s.transformAngle stamp
  let z := park x.iab ang
  let (id, s2) := s1.openRat (z.1 * 32768)
  let (iq, s3) := s2.openRat (z.2 * 32768)
  let d := clampI (-32768) 32767 id
  let q := clampI (-32768) 32767 iq
  ((d, q), ((s3.setInt R.SPN_IDQ_ID d).setInt R.SPN_IDQ_IQ q).modSpn (fun y => { y with
    samp := (stamp, ang), iPrev := x.iab }))

/-- What a period's filtered samples `x` with the stamp `t` do (R222, R226 to R236). -/
def State.sampled (s : State) (t : Nat) (x : SpnSample) : State :=
  let a := ((s.set R.SPN_VBUS_MV (satN x.mv 65535)).spnAngles t x).spnCurrents t x
  ((((((a.2.speedCheck t).flyCheck).shortCheck x.vab).restTrack x).holdTrack x.mv).currentJob t a.1.1 a.1.2).speedJob t x.mv

/-- A period's current sample is complete, 5.0 µs after the midpoint of the period, which is its stamp (R220); SPN makes none
in a containment reset. -/
def State.currentSample (s : State) (o : SpnObs) : State :=
  if s.inReset .spn then s else (s.spnSamples o).2.sampled (s.now - 5000) (s.spnSamples o).1

/-! ### The PWM period (R221, R223, R224) -/

/-- The applied voltages within MOD_MAX, and whether they were limited (R223). -/
def State.modLimit (s : State) : (Int × Int) × Bool × State :=
  let d := s.spn.vd
  let q := s.spn.vq
  let mx : Int := ((s.get R.SPN_FW_MOD_MAX * 2 ^ 23 : Nat) : Int)
  if mx * mx < d * d + q * q then
    let vd := clampI (-mx) mx d
    let n := (mx * mx - vd * vd).toNat
    let r := Nat.sqrt n
    let (x, s1) := if r * r = n then (0, s) else s.draw
    let m : Int := ((r + x % 2 : Nat) : Int)
    ((vd, if q < 0 then -m else m), true, s1)
  else ((d, q), false, s)

/-- Field weakening once per period (R224). -/
def State.fieldWeak (s : State) : State :=
  if refsKept s.spnState then
    let m2 := s.spn.vd * s.spn.vd + s.spn.vq * s.spn.vq
    let hi : Int := ((s.get R.SPN_FW_FW_M * 2 ^ 23 : Nat) : Int)
    let lo : Int := hi - 8 * 2 ^ 23
    let step := fracDatum (s.get R.SPN_FW_FW_STEP)
    let deep := fracDatum (s.get R.SPN_LIM_ID_FW_MAX)
    let id := s.spn.idRef
    let nid := if hi * hi < m2 then max (-deep) (id - step)
      else if 0 ≤ lo ∧ m2 < lo * lo ∧ id < 0 then min 0 (id + step) else id
    (s.modSpn (fun y => { y with idRef := nid })).setFlag R.SPN_STAT_FW (decide (nid < 0))
  else (s.modSpn (fun y => { y with idRef := 0 })).setFlag R.SPN_STAT_FW false

/-- The reference slews by one period of `ns` nanoseconds (R233, R234, R242). -/
def State.slewRef (s : State) (ns : Nat) : State :=
  let st := s.spnState
  let toward := fun (cur goal step : Nat) => if cur < goal then min goal (cur + step) else max goal (cur - step)
  if st = 5 then s.modSpn (fun y => { y with ref := y.ref - s.get R.SPN_BRAKE_DEC * ns })
  else if st = 3 ∨ st = 4 ∨ (st = 8 ∧ s.spn.catchRun ∧ 48 ≤ s.spn.catchPer) then
    let goal := s.spnGoal
    let slew := s.spdrefOn || s.spn.refSlew
    let rate := if slew then 4 * s.get R.SPN_SPDREF_CFG_SLEW else s.get R.SPN_TARGET_ACC
    let r := toward s.spn.ref goal (rate * ns)
    s.modSpn (fun y => { y with ref := r, refSlew := s.spdrefOn || (y.refSlew && r != goal) })
  else s

/-- The correction of an index lock: at most ±0.05 % of the reference, a free choice (R244). -/
def State.syncCorr (s : State) : State :=
  if s.spdrefOn && s.get R.SPN_SPDREF_CFG_MODE == 3 && s.flag R.SPN_SPDREF_CFG_SYNC && s.tetherAngle then
    let (x, s1) := s.draw
    let k := s.spn.ref / 2000
    s1.modSpn (fun y => { y with corr := ((x % (2 * k + 1) : Nat) : Int) - k })
  else s.modSpn (fun y => { y with corr := 0 })

/-- The electrical angle extrapolated to the midpoint of the period that starts now (R221). -/
def State.nextAngle (s : State) : Nat × State :=
  let mid := s.now + 5 * s.spn.per / 2
  if s.spnState = 1 ∨ s.spnState = 2 then s.forcedAngle mid
  else
    let (x, s1) := s.openDiv ((s.spn.speed * s.get R.SPN_MOTOR_PP * (mid - s.spn.samp.1) * 65536 : Nat) : Int) 15360000000000
    ((s.spn.samp.2 + x.toNat) % 65536, s1)

/-- Space-vector duties of the three phases for voltages in the stator frame, in units of bus voltage / √3. -/
def phaseDuties (v : Rat × Rat) : List Rat :=
  let u := v.1 / sqrt3
  let h := v.2 / 2
  let w := -u / 2
  let xs := [u, w + h, w - h]
  let hi := xs.foldl max u
  let lo := xs.foldl min u
  xs.map (fun x => 1 / 2 + x - (hi + lo) / 2)

/-- Phase duties for a period of limited voltages `v`, and the voltages applied; in SHORT every phase is low (R221, Table
9-4). -/
def State.setDuties (s : State) (v : Int × Int) : State :=
  let (ang, s1) := s.nextAngle
  let z := unPark ((v.1 : Rat) / 2 ^ 31, (v.2 : Rat) / 2 ^ 31) ang
  let k : Rat := (s.get R.SPN_VBUS_MV : Rat) / (sqrt3 * (max 1 (s.get R.SPN_BUS_VBUS_FS) : Nat))
  if s.spnState = 6 then s1.modSpn (fun y => { y with phases := [0, 0, 0], vAb := (0, 0) })
  else s1.modSpn (fun y => { y with phases := phaseDuties z, vAb := (z.1 * k, z.2 * k) })

/-- A period boundary: what was due at it, the limited outputs as phase duties, field weakening and the slew (R221, R223,
R224, R238). -/
def State.pwmPeriod (s : State) : State :=
  let regen := s.getInt R.SPN_IDQ_IQ * (s.spn.speed : Int) < 0
  let due := s.spn.next
  let s1 := s.modSpn (fun y => { y with
    next := none, per := (if s.spnState = 0 then s.get R.SPN_PWM_PER else y.per)
    catchPer := (if s.spnState = 8 ∧ y.catchRun then y.catchPer + 1 else y.catchPer) })
  let s2 := match due with
    | some .coast => s1.spnEnter 7
    | some .skip => s1.modSpn (fun y => { y with en := y.en && !decide regen })
    | none => s1.modSpn (fun y => { y with
        en := (let st := s.spnState
          ((1 ≤ st && st ≤ 6) || st == 9 || (st == 8 && y.catchRun)) && !s.inReset .spn && !y.fltLow) })
  let (v, lim, s3) := s2.modLimit
  (((((s3.modSpn (fun y => { y with duty := v })).setFlag R.SPN_STAT_MOD_LIM lim).setDuties v).fieldWeak).slewRef
    (5 * s3.spn.per)).syncCorr

/-! ### The fast bus sample (R220, R237 to R240) -/

/-- The fast bus sample that 16 more bits of SPM_VSD give, in mV: sinc3 with a decimation of 16 (R220). -/
def State.fastMv (s : State) (bits : Nat) : Nat × State :=
  let w := (s.spn.vsd * 2 ^ 16 + bits % 2 ^ 16) % 2 ^ 46
  let (x, s1) := (s.modSpn (fun y => { y with vsd := w })).filtered 16 w 16
  s1.busMv x

/-- A fast bus sample of `mv` with the levels of BAL_IS and SPM_SUPOK. -/
def State.fastDecide (s : State) (mv : Nat) (balIs supok : Bool) : State :=
  let gate := s.spn.gateAt
  let faulted := s.balFaulted
  let ctl := s.flag R.SPN_CTRL_BAL_EN && !faulted && !s.inReset .spn
  let newGate := if !ctl then none
    else match gate with
      | some t => if mv ≤ s.get R.SPN_BAL_BAL_OFF ∧ s.passed t 1000 then none else some t
      | none => if s.get R.SPN_BAL_BAL_ON ≤ mv then some s.now else none
  let s1 := s.modSpn (fun y => { y with
    uvRun := (if mv < s.get R.SPN_BUS_VBUS_UV then satN (y.uvRun + 1) 65535 else 0)
    ovRun := (if 14400 ≤ mv then satN (y.ovRun + 1) 65535 else 0)
    balRun := (if newGate.isSome && decide (13800 ≤ mv) then satN (y.balRun + 1) 65535 else 0)
    below := (if mv < 13800 then some (y.below.getD s.now) else none)
    gateAt := newGate
    isAt := (if balIs then some (y.isAt.getD s.now) else none)
    isSeen := (if gate.isNone then balIs else y.isSeen || balIs)
    supLow := (if supok then none else some (y.supLow.getD s.now))
    supHigh := (if supok then some (y.supHigh.getD s.now) else none) })
  (s1.setFlag R.SPN_STAT_BAL_GATE newGate.isSome).setFlag R.SPN_STAT_SUPOK supok

/-- A fast bus sample with the levels of BAL_IS and SPM_SUPOK (R220, R237 to R240). -/
def State.fastSample (s : State) (bits : Nat) (balIs supok : Bool) : State :=
  let (mv, s1) := s.fastMv bits
  s1.fastDecide mv balIs supok

/-! ### SPDREF (R242 to R244) -/

/-- A line from 5,400 rpm at `lo` to 10,000 rpm at `hi`, clamped beyond them (Table 9-7). -/
def spdLine (lo hi v : Rat) : Rat := 5400 + 4600 * (min hi (max lo v) - lo) / (hi - lo)

/-- Edges with pulses shorter than 1 µs left out; the latest edge comes first. -/
def spdEdges (es : List (Nat × Bool)) : List (Nat × Bool) :=
  es.foldl (fun acc e => match acc with
    | [] => [e]
    | p :: rest => if e.1 < p.1 + 1000 then rest else e :: acc) []

/-- The latest two rising edges of a pulse train, later first, and the falling edge between them. -/
def spdCycle (es : List (Nat × Bool)) : Option (Nat × Nat × Nat) :=
  match es.dropWhile (fun e => !e.2) with
  | (r, _) :: (f, false) :: (q, true) :: _ => if q < f ∧ f < r then some (r, f, q) else none
  | _ => none

/-- The speed reference in rpm that a signal yields in the present mode; none where it is bad (Table 9-7). -/
def State.spdrefValue (s : State) (signal : SpdSignal) : Option Rat :=
  match s.get R.SPN_SPDREF_CFG_MODE, signal with
  | 1, .codes xs =>
    let v : Rat := (xs.sum : Rat) * 18 / (16 * 4096 * 10)
    if xs.length ≠ 16 ∨ v < 1 / 10 ∨ 17 / 10 < v then none else some (spdLine (1 / 5) (8 / 5) v)
  | 2, .edges es =>
    let l := spdEdges es
    match l, spdCycle l with
    | (t, _) :: _, some (r, f, q) =>
      let duty : Rat := ((f - q : Nat) : Rat) / ((r - q : Nat) : Rat)
      if t + 3000000 ≤ s.now ∨ r - q < 10000 ∨ 1000000 < r - q ∨ duty < 1 / 20 ∨ 19 / 20 < duty then none
      else some (spdLine (1 / 10) (9 / 10) duty)
    | _, _ => none
  | 3, .edges es =>
    match spdCycle (spdEdges es) with
    | some (r, _, q) =>
      let v : Rat := (60000000000 : Rat) / (((r - q) * max 1 (s.get R.SPN_SPDREF_CFG_PPR) : Nat) : Rat)
      if r + 3 * (r - q) ≤ s.now ∨ v < 5400 ∨ 10000 < v then none else some v
    | none => none
  | _, _ => none

/-- A bad signal holds the last good reference (R243). -/
def State.refLost (s : State) : State :=
  (((s.modSpn (fun y => { y with refBad := s.now })).setFlag R.SPN_SPDREF_STAT_GOOD false).fault .spn 9).ldgProtocol 9 0

/-- The signal is bad (R243). -/
def State.spdrefBad (s : State) (signal : SpdSignal) : State :=
  if s.spdrefOn ∧ (s.spdrefValue signal).isNone then s.refLost else s

/-- A good signal sets the reference, from 100 ms after the latest bad one on (R243). -/
def State.spdrefGood (s : State) (signal : SpdSignal) : State :=
  match s.spdrefValue signal with
  | some v =>
    if s.spdrefOn ∧ (s.flag R.SPN_SPDREF_STAT_GOOD ∨ s.passed s.spn.refBad 100000000) then
      let (n, s1) := s.openRat v
      (s1.set R.SPN_SPDREF_STAT_REF n.toNat).setFlag R.SPN_SPDREF_STAT_GOOD true
    else s
  | none => s

/-- The index phase error at a revolution edge, in Tether clocks: how far the index passes from SYNC_PH × 2^−12 revolution after
the edge (R244). -/
def State.indexError (s : State) (th : Nat) : Nat :=
  (signedOf (8388608 - th + 8388608 - s.get R.SPN_SPDREF_CFG_SYNC_PH * 2048) 23).natAbs

/-- A revolution edge finds the index `err` Tether clocks from its place (R244). -/
def State.revolutionEdge (s : State) (err : Nat) : State :=
  let run := if err < 8192 then satN (s.spn.syncRun + 1) 65535 else 0
  let s1 := s.modSpn (fun y => { y with syncRun := run })
  if 32768 < err then s1.setFlag R.SPN_SPDREF_STAT_SYNC_LOCK false
  else if 16 ≤ run then s1.setFlag R.SPN_SPDREF_STAT_SYNC_LOCK true else s1

/-- A rising edge of SPDREF; every PPR-th is taken as a revolution edge, at which the Tether angle is `err` clocks off
(R78, R244). -/
def State.spdrefSync (s : State) (err : Int) : State :=
  if s.spdrefOn && s.get R.SPN_SPDREF_CFG_MODE == 3 && s.flag R.SPN_SPDREF_CFG_SYNC && s.tetherAngle then
    if s.spn.refEdges + 1 < s.get R.SPN_SPDREF_CFG_PPR then s.modSpn (fun y => { y with refEdges := y.refEdges + 1 })
    else
      (s.modSpn (fun y => { y with refEdges := 0 })).revolutionEdge (s.indexError (s.tetherOff s.now err))
  else s

end Sys2Proof.Machine
end

