-- ==== Sys2Proof/Machine/Dlk.lean ====
section
/-!
DEFINITION. The Darenlen links of chapter 19: frames and replies, stop-and-wait, training and load, link states, the
fault line and the register port.
-/

namespace Sys2Proof.Machine

open Sys2Proof

/-- Changes link `a`. -/
def State.modLink (s : State) (a : Nat) (f : DlkLink → DlkLink) : State := s.setLink a (f (s.link a))

/-- DLK_a_STAT.STATE. -/
def State.dlkState (s : State) (a : Nat) : Nat := s.get (R.DLK_L_STAT_STATE a)

/-- The seven data bytes of a frame (R442, Table 19-1). -/
def frameBytes (f : DlkFrame) (seq : Nat) : List Byte :=
  let b : List Byte := [BitVec.ofNat 8 (f.ty % 16 + 16 * (seq % 16)), BitVec.ofNat 8 f.b1, BitVec.ofNat 8 f.b2,
    BitVec.ofNat 8 f.b3, BitVec.ofNat 8 f.b4]
  b ++ beBytes 2 (crc16 b)

/-- A PROTOCOL record of a link (Table 19-9). -/
def State.dlkRecord (s : State) (a d : Nat) : State := s.ldgRaise 0x2005 ([3, BitVec.ofNat 8 a] ++ leBytes 2 d)

/-- A register-port request ends (Table 19-12). -/
def State.portDone (s : State) (a code dat : Nat) : State :=
  ((s.setFlag (R.DLK_L_PREG_RESP_BUSY a) false).set (R.DLK_L_PREG_RESP_CODE a) code).set (R.DLK_L_PREG_RESP_DATA a) dat

/-- Every frame of the link whose exchange has not ended well: those that wait, the one in flight, those to send again. -/
def DlkLink.open (l : DlkLink) : List DlkFrame :=
  l.waiting ++ l.flight.toList.map (fun e => e.1) ++ l.resend.map (fun e => e.1)

/-- A register-port request of the link waits or is in flight. -/
def DlkLink.portWaits (l : DlkLink) : Bool := l.open.any (fun f => decide (f.who = .port))

/-- The time of a frame on the line in ns. -/
def State.frameNs (s : State) : Nat := if s.get R.DLK_CTRL_RATE = 1 then 128 else 64

/-- The time of a symbol on the line in ns. -/
def State.symbolNs (s : State) : Nat := s.frameNs / 8

/-- The downstream running disparity at the next frame: each K28.5 since the last frame has changed it (R440). -/
def State.lineRd (s : State) (l : DlkLink) : Bool := l.rd != (((s.now - l.lastSent) / s.symbolNs - 8) % 2 == 1)

/-- Puts a frame on the line: its bytes, its symbols and the disparity they leave. -/
def State.dlkLine (s : State) (bs : List Byte) (l : DlkLink) : DlkLink :=
  let r := frameSymbols (s.lineRd l) bs
  { l with out := bs, line := r.1, rd := r.2, lastSent := s.now }

/-- Sends a new frame with the next SEQ. -/
def State.dlkSend (s : State) (a : Nat) (f : DlkFrame) : State :=
  s.modLink a (fun l => { s.dlkLine (frameBytes f l.seq) l with
    flight := some (f, l.seq, 1, s.now), seq := (l.seq + 1) % 16
    shadow := (if 2 ≤ f.ty ∧ f.ty ≤ 4 then l.shadow.set ((f.ty - 2) * 6 + f.b1) (some f) else l.shadow) })

/-- Sends a frame again, with its SEQ, for the `n + 1`th time (R445). -/
def State.dlkResend (s : State) (a : Nat) (e : DlkFrame × Nat × Nat) : State :=
  s.modLink a (fun l => { s.dlkLine (frameBytes e.1 e.2.1) l with
    flight := some (e.1, e.2.1, e.2.2 + 1, s.now), resend := l.resend.erase e })

/-! ### States (R447 to R449) -/

/-- The link stops sending: frames that wait are dropped, a register-port request ends with `code`. -/
def State.dlkQuiet (s : State) (a code : Nat) : State :=
  let s1 := if (s.link a).portWaits then s.portDone a code 0 else s
  s1.modLink a (fun l => { l with waiting := [], flight := none, resend := [], armed := 0, load := [] })

/-- FAILED: TRAIN_FAIL sets, and firmware unloads the actuator (R448). -/
def State.dlkFailed (s : State) (a : Nat) : State :=
  (((s.dlkQuiet a 2).set (R.DLK_L_STAT_STATE a) 6).fault .dlk (12 + a)).actUnload a

/-- The link is declared down (R447, R448). A FAULT read that has not ended is made after UP (Table 19-8). -/
def State.dlkDown (s : State) (a : Nat) : State :=
  let downs := s.now :: (s.link a).downs.filter (fun t => decide (s.now < t + 1000000000))
  let read := (s.link a).readFault || (s.link a).open.any (fun f => decide (f.who = .fault))
  let s1 := (((s.dlkQuiet a 2).modLink a (fun l => { l with downAt := s.now, downs := downs, readFault := read })).set
    (R.DLK_L_STAT_STATE a) 5).bump (R.DLK_L_CNT_DOWNS a) 1
  let s2 := ((s1.sourceOnHeads (headsOf a) 8).fault .dlk (4 + a)).dlkRecord a 2
  if s2.get R.DLK_CFG_DOWN_MAX ≤ downs.length then s2.dlkFailed a else s2

/-- A training attempt fails (R448). -/
def State.attemptFail (s : State) (a : Nat) : State :=
  let n := satN (s.get (R.DLK_L_STAT_ATTEMPTS a) + 1) 15
  let s1 := ((s.dlkQuiet a 2).set (R.DLK_L_STAT_ATTEMPTS a) n).dlkRecord a 3
  if s1.get R.DLK_CFG_TRAIN_MAX ≤ n then s1.dlkFailed a
  else (s1.set (R.DLK_L_STAT_STATE a) 1).modLink a (fun l => { l with attemptAt := s.now })

/-- Link `a` follows its enable bit (R449). EN = 0 drives the LINK source; a link that is UP first sends RUN_OFF for the
heads in WSEL and SELECT with no head. -/
def State.dlkEnable (s : State) (a : Nat) (en : Bool) : State :=
  let st := s.dlkState a
  if en then
    if st = 0 then (s.set (R.DLK_L_STAT_STATE a) 1).modLink a (fun l => { l with attemptAt := s.now, downs := [] }) else s
  else if st = 0 then s
  else
    let wsel := s.get (R.DLK_L_STAT_WSEL a)
    let s0 := if st ≠ 4 ∨ wsel = 0 then s else s.dlkSend a ⟨6, wsel, 0, 0, 0, 0, .plain⟩
    let s1 := if st = 4 then (s0.dlkSend a ⟨1, 0, 0, 0, 0, 0, .plain⟩).set (R.DLK_L_STAT_WSEL a) 0 else s
    (((s1.dlkQuiet a 2).sourceOnHeads (headsOf a) 8).set (R.DLK_L_STAT_ATTEMPTS a) 0).set (R.DLK_L_STAT_STATE a) 0

/-- 60 µs after DOWN entry (R449). -/
def State.dlkAlignStart (s : State) (a : Nat) : State :=
  if s.dlkState a = 5 ∧ s.passed (s.link a).downAt 60000 then
    (s.set (R.DLK_L_STAT_STATE a) 1).modLink a (fun l => { l with attemptAt := s.now })
  else s

/-- 64 consecutive valid upstream K28.5 symbols: TRAIN. -/
def State.dlkAligned (s : State) (a : Nat) (xs : List Nat) : State :=
  if s.dlkState a = 1 ∧ aligned xs then (s.set (R.DLK_L_STAT_STATE a) 2).modLink a (fun l => { l with train := 0, flight := none }) else s

/-- 2 ms without UP (R448). -/
def State.dlkTrainTimeout (s : State) (a : Nat) : State :=
  let st := s.dlkState a
  if 1 ≤ st ∧ st ≤ 3 ∧ s.passed (s.link a).attemptAt 2000000 then s.attemptFail a else s

/-- The upstream symbols are bad: 4 violations within 64 symbols, whichever running disparity they began with, or no K28.5
for 1 µs (R447). -/
def State.lineBad (s : State) (xs : List Nat) : Bool :=
  let n := (999 + s.symbolNs) / s.symbolNs
  (fourWithin 64 (violations false xs) && fourWithin 64 (violations true xs)) ||
    (decide (n ≤ xs.length) && !(xs.drop (xs.length - n)).any isComma)

/-- Code violations or missing idles, on a link that is UP (R447). -/
def State.dlkLineDown (s : State) (a : Nat) (xs : List Nat) : State := if s.dlkUp a && s.lineBad xs then s.dlkDown a else s

/-! ### Training and load (R450, R451) -/

/-- Pattern `n`: 0x5AC396 rotated left by `n` bits. -/
def trainPattern (n : Nat) : Nat := (0x5AC396 * 2 ^ n % 2 ^ 24) + 0x5AC396 / 2 ^ (24 - n)

/-- The frame of training step `n`. -/
def trainFrame (n : Nat) : DlkFrame :=
  if n < 16 then
    let p := trainPattern n
    ⟨10, n, bitsOf p 16 8, bitsOf p 8 8, bitsOf p 0 8, 0, .plain⟩
  else ⟨8, n - 16, 0, 0, 0, 0, .plain⟩

/-- The frames of LOAD (R451). -/
def State.loadFrames (s : State) (a : Nat) : List DlkFrame :=
  let inits := (List.range 32).filterMap (fun k =>
    let ad := s.get (R.DLK_INIT_ADDR a k)
    let d := s.get (R.DLK_INIT_DATA a k)
    if s.flag (R.DLK_INIT_VALID a k) ∧ 0x10 ≤ ad then some (⟨7, ad, d / 256, d % 256, 0, 0, .plain⟩ : DlkFrame) else none)
  let sel : DlkFrame := ⟨1, s.get (R.DLK_L_RSEL_RSEL a), 0, 0, 0, 0, .plain⟩
  let heads := ((headsOf a).map (fun h => if wentryUsable (s.head h).wentry then setupFrames h (entryNat (s.head h).wentry)
    else [])).flatten
  inits ++ [sel] ++ heads

/-- CAPS allows the heads fitted and the rate in use (R450). -/
def State.capsOk (s : State) (a caps : Nat) : Bool :=
  ((List.range 6).all (fun j => s.get (R.CH_RD_CFG_FITTED (6 * a + j)) == 0 || bitOf caps j))
    && (s.get R.DLK_CTRL_RATE == 1 || bitOf caps 9)

/-- The link is UP: WSEL is clear, and a FAULT read that waited is requested. -/
def State.dlkToUp (s : State) (a : Nat) : State :=
  let s1 := ((s.set (R.DLK_L_STAT_STATE a) 4).set (R.DLK_L_STAT_ATTEMPTS a) 0).set (R.DLK_L_STAT_WSEL a) 0
  let s2 := if (s1.link a).readFault then (s1.modLink a (fun l => { l with readFault := false })).dlkRequest a
      ⟨8, 2, 0, 0, 0, s.now, .fault⟩ else s1
  s2.linkReopen a

/-! ### Sending (R445, R452) -/

/-- A frame waits for its turn no longer: its latest-issue time is at most RSP_TMO ahead, for a RUN_ON (R453). -/
def frameDue (now tmo : Nat) (f : DlkFrame) : Bool := f.ty != 5 || decide (f.latest ≤ now + tmo)

/-- The frame sent first: by class, then by latest-issue time, then in the order of request. -/
def pickFrame (now tmo : Nat) (l : List DlkFrame) : Option DlkFrame :=
  (l.filter (frameDue now tmo)).foldl (fun m f => match m with
    | none => some f
    | some g => if f.cls < g.cls ∨ (f.cls = g.cls ∧ f.latest < g.latest) then some f else some g) none

/-- A RUN_OFF waits. -/
def DlkLink.offWaits (l : DlkLink) : Option DlkFrame := l.waiting.find? (fun f => f.ty == 6)

/-- The frame that waits for its retransmission and comes first. -/
def DlkLink.again (l : DlkLink) : Option (DlkFrame × Nat × Nat) :=
  l.resend.foldl (fun m e => match m with
    | none => some e
    | some g => if e.1.cls < g.1.cls ∨ (e.1.cls = g.1.cls ∧ e.1.latest < g.1.latest) then some e else some g) none

/-- A waiting frame is sent. -/
def State.dlkSendWaiting (s : State) (a : Nat) (f : DlkFrame) : State :=
  (s.modLink a (fun l => { l with waiting := l.waiting.erase f })).dlkSend a f

/-- The link that is UP sends a waiting RUN_OFF; else a frame that waits for its retransmission, unless one of a better
class waits; else the waiting frame that comes first (R452). -/
def State.dlkSendUp (s : State) (a : Nat) : State :=
  let l := s.link a
  match l.offWaits, l.again, pickFrame s.now s.rspTmo l.waiting with
  | some off, _, _ => s.dlkSendWaiting a off
  | none, some e, some f => if f.cls < e.1.cls then s.dlkSendWaiting a f else s.dlkResend a e
  | none, some e, none => s.dlkResend a e
  | none, none, some f => s.dlkSendWaiting a f
  | none, none, none => s

/-- The link sends what comes next once the last exchange has ended (R445, R450 to R452). -/
def State.dlkSendNext (s : State) (a : Nat) : State :=
  let l := s.link a
  if l.flight.isSome then s
  else match s.dlkState a with
    | 2 => s.dlkSend a (trainFrame l.train)
    | 3 =>
      match l.load with
      | f :: rest => (s.dlkSend a f).modLink a (fun k => { k with load := rest })
      | [] => s
    | 4 => s.dlkSendUp a
    | _ => s

/-- The exchange has ended. -/
def State.dlkEnded (s : State) (a : Nat) : State := s.modLink a (fun l => { l with flight := none })

/-- The exchange under way fails (R445, R447, R450, R451). -/
def State.exchangeFail (s : State) (a : Nat) : State :=
  match (s.link a).flight with
  | none => s
  | some (f, q, n, _) =>
    if s.dlkState a = 2 ∨ s.dlkState a = 3 then s.attemptFail a
    else if s.dlkUp a then
      if s.get R.DLK_CFG_RETRY + 1 ≤ n then s.dlkDown a
      else (((s.modLink a (fun l => { l with flight := none, resend := l.resend ++ [(f, q, n)] })).bump
        (R.DLK_L_CNT_RETRIES a) 1).fault .dlk (8 + a)).dlkRecord a 1
    else s

/-- No good reply within RSP_TMO of the frame's last symbol (R445). -/
def State.exchangeTimeout (s : State) (a : Nat) : State :=
  match (s.link a).flight with
  | some (_, _, _, t) => if s.passed t (s.frameNs + s.rspTmo) then s.exchangeFail a else s
  | none => s

/-! ### Replies (R441, R444) -/

/-- What a good reply to the frame does on a link that is UP (Table 19-2). -/
def State.replyUp (s : State) (a : Nat) (f : DlkFrame) (flags dat : Nat) : State :=
  let cfg := bitOf flags 7
  let wsel := s.get (R.DLK_L_STAT_WSEL a)
  let s1 := if f.ty = 5 ∧ bitOf f.b2 1 then
      (s.set (R.DLK_L_STAT_WSEL a) (Nat.lor wsel f.b1)).modLink a (fun l => { l with armed := Nat.lor l.armed f.b1 })
    else if f.ty = 6 then s.set (R.DLK_L_STAT_WSEL a) (wsel - Nat.land wsel f.b1)
    else if 2 ≤ f.ty ∧ f.ty ≤ 4 ∧ cfg then s.modLink a (fun l => { l with badHeads := Nat.lor l.badHeads (2 ^ f.b1) })
    else s
  match f.who with
  | .port => s1.portDone a (if cfg then 3 else 0) (if f.ty = 8 then dat else 0)
  | .fault => s1.set (R.DLK_L_FAULT_FAULT a) dat
  | .plain => s1

/-- What a good reply does in TRAIN: the echo is checked, and after the last step CAPS (R450). -/
def State.replyTrain (s : State) (a dat : Nat) : State :=
  let n := (s.link a).train
  if n < 16 then
    if dat = trainPattern n % 65536 then s.modLink a (fun l => { l with train := n + 1 }) else s.attemptFail a
  else if n = 16 then (s.set (R.DLK_L_PID_ID a) dat).modLink a (fun l => { l with train := 17 })
  else
    let s1 := s.set (R.DLK_L_PID_CAPS a) dat
    if s1.capsOk a dat then
      (s1.set (R.DLK_L_STAT_STATE a) 3).modLink a (fun l => { l with load := s1.loadFrames a })
    else s1.attemptFail a

/-- The seven data bytes of a good frame: valid data codes of correct running disparity, no K symbol after the K27.7, and
a CRC that matches (R441). -/
def goodFrame (xs : List Nat) : Option (List Byte) :=
  (frameOf xs).filter (fun bs => ofBeBytes (bs.drop 5) == crc16 (bs.take 5))

/-- A reply has arrived on link `a`: its symbols, K27.7 first (R441, R444, R445). A good reply that started more than RSP_TMO
after its frame fails the exchange, as one with a wrong echo does. -/
def State.dlkReply (s : State) (a : Nat) (xs : List Nat) : State :=
  match (s.link a).flight, goodFrame xs with
  | none, _ => s
  | some _, none => s
  | some (f, q, _, t), some bs =>
    if t + 2 * s.frameNs + s.rspTmo < s.now then s.exchangeFail a
    else
      let b := fun (i : Nat) => ((bs[i]?).getD 0).toNat
      if b 0 % 16 ≠ f.ty ∨ b 0 / 16 ≠ q then s.exchangeFail a
      else
        let flags := b 2
        let dat := 256 * b 3 + b 4
        let s1 := (s.set (R.DLK_L_STAT_RTT a) (satN ((s.now - t) / 8) 255)).dlkEnded a
        let s2 := if bitOf flags 6 || bitOf flags 7 then (s1.fault .dlk (16 + a)).dlkRecord a 5 else s1
        match s2.dlkState a with
        | 2 => s2.replyTrain a dat
        | 3 => if (s2.link a).load.isEmpty then s2.dlkToUp a else s2
        | 4 => s2.replyUp a f flags dat
        | _ => s2

/-! ### Keep-alive, fault line and register port (R452, R455 to R457) -/

/-- PING_T without a frame. -/
def State.dlkPing (s : State) (a : Nat) : State :=
  let l := s.link a
  if s.dlkUp a ∧ l.open.isEmpty ∧ s.passed l.lastSent (s.get R.DLK_CFG_PING_T * 1000) then
    s.dlkRequest a ⟨9, 0, 0, 0, 0, s.now, .plain⟩
  else s

/-- UNSAFE ends: the line is deasserted and the status bit cleared (R127). -/
def State.unsafeReopen (s : State) (a : Nat) : State :=
  if !s.flag (R.DLK_L_STAT_FLT_LEVEL a) && !s.faultIs .dlk a then s.sourceOffHeads (headsOf a) 7 else s

/-- DLK_a_FLT_N moves: low is point D of UNSAFE (R456). -/
def State.dlkFaultLine (s : State) (a : Nat) (low : Bool) : State :=
  let s1 := s.setFlag (R.DLK_L_STAT_FLT_LEVEL a) low
  if s.flag (R.DLK_L_STAT_FLT_LEVEL a) = low then s
  else if !low then s1.unsafeReopen a
  else
    let wsel := s.get (R.DLK_L_STAT_WSEL a)
    let s2 := ((s1.sourceOnHeads (headsOf a) 7).fault .dlk a).dlkRecord a 4
    if s2.dlkUp a then
      (if wsel = 0 then s2 else s2.dlkRequest a ⟨6, wsel, 0, 0, 0, s.now, .plain⟩).dlkRequest a ⟨8, 2, 0, 0, 0, s.now, .fault⟩
    else s2.modLink a (fun l => { l with readFault := true })

/-- A write of DLK_a_PREG_CMD (Table 19-12): discarded while BUSY. -/
def State.pregCmd (s : State) (a c : Nat) : State :=
  if s.flag (R.DLK_L_PREG_RESP_BUSY a) ∨ (c ≠ 1 ∧ c ≠ 2) then s
  else if !s.dlkUp a then s.portDone a 1 0
  else
    let ad := s.get (R.DLK_L_PREG_ADDR a)
    let d := s.get (R.DLK_L_PREG_DATA a)
    (s.setFlag (R.DLK_L_PREG_RESP_BUSY a) true).dlkRequest a
      (if c = 1 then ⟨8, ad, 0, 0, 0, s.now, .port⟩ else ⟨7, ad, d / 256, d % 256, 0, s.now, .port⟩)

end Sys2Proof.Machine
end

