-- ==== Sys2Proof/Machine/Tether.lean ====
section
/-!
DEFINITION. The Tether of chapter 3: reference inputs and their frames, acquisition, handover, skew, loss and lock, the
angle, and wedge timing in HERITAGE.
-/

namespace Sys2Proof.Machine

open Sys2Proof

/-- The Tether's own part, and a reference input of it. -/
def State.modTth (s : State) (f : TthSt → TthSt) : State := { s with tth := f s.tth }
def State.refIn (s : State) (i : Nat) : RefIn := (s.tth.refs[i]?).getD ⟨0, 0, 0, 0, 0, none, false, 0⟩
def State.modRef (s : State) (i : Nat) (f : RefIn → RefIn) : State :=
  s.modTth (fun t => { t with refs := listMod t.refs i f })

/-- TTH_STAT.STATE (Table 3-2), the enable and qualification bits of input `i`, and the active input. -/
def State.tthState (s : State) : Nat := s.get R.TTH_STAT_STATE
def State.refEn (s : State) (i : Nat) : Bool := if i = 0 then s.flag R.TTH_CTRL_REF0_EN else s.flag R.TTH_CTRL_REF1_EN
def refQ (i : Nat) : Fld := if i = 0 then R.TTH_STAT_REF0_Q else R.TTH_STAT_REF1_Q
def State.refActive (s : State) : Nat := s.get R.TTH_STAT_ACTIVE

/-- A skew is known (R66); TTH_STAT.SKEW_VALID shows it. -/
def State.skewKnown (s : State) : Bool := s.flag R.TTH_SKEW_MEASURED || s.flag R.TTH_SKEW_NOM_NOM_VALID
def State.skewShow (s : State) : State := s.setFlag R.TTH_STAT_SKEW_VALID s.skewKnown

/-- The skew in use, in Tether clocks (R66, Table 3-11). -/
def State.skewClocks (s : State) : Nat :=
  if s.flag R.TTH_SKEW_MEASURED then s.get R.TTH_SKEW_SKEW / 256 else s.get R.TTH_SKEW_NOM_SKEW_NOM / 256

/-! ### Lock and loss (R64, R69, R80) -/

/-- LOCKED or WLOCKED entry: the Tether clock is the PLL's (R64, R71, R80). -/
def State.tthLock (s : State) (st : Nat) : State :=
  let s1 := (((s.set R.TTH_STAT_STATE st).setFlag R.TTH_STAT_LOCK true).setFlag R.TTH_STAT_ANGLE_VALID true).bump
    R.TTH_STAT_LOCK_COUNT 1
  ({ s1 with fTether := s1.tth.pllHz }).modTth (fun t => { t with acqFrom := none, lastIdx := none, select := none })

/-- What follows lock, once the angle is set: the channels run, the sectors that wait are judged, and the write inhibit of
the loss ends (R71, R127). -/
def State.tthResume (s : State) : State := s.headsLock.sourceOffHeads allHeads 0

/-- The switch to the 250 MHz clock, with LOCK and ANGLE_VALID cleared; REV_PERIOD reads 0 (R69, R79). -/
def State.tthUnlock (s : State) : State :=
  let s1 := ((s.setFlag R.TTH_STAT_LOCK false).setFlag R.TTH_STAT_ANGLE_VALID false).set R.TTH_REV_PERIOD_PERIOD 0
  ({ s1 with fTether := 0 }).modTth (fun t => { t with lastIdx := none, lossTo := none })

/-- Tether loss is declared; `next` is the state entered at the clock switch (R69). -/
def State.tthLoss (s : State) (next : Nat) (setLoss : Bool) : State :=
  if s.tthLocked ∧ s.tth.lossTo.isNone then
    let s1 := (s.sourceOnHeads allHeads 0).set64 R.A_TTH_LOSS_STAMP_LO s.now
    let s2 := s1.modTth (fun t => { t with lossTo := some (next, s.now), acqFrom := some s.now, select := none })
    (if setLoss then s2.fault .tth 0 else s2).headsUnlock
  else s

/-- The spindle turns: SPN is not in STOP. -/
def State.spnTurns (s : State) : Bool := s.get R.SPN_STAT_STATE != 0

/-- Acquisition starts: SEARCH, or WREADY with WEDGE set and the spindle turning, its PLL preset from the observer speed;
the Tether front end must be powered (Table 3-2, R80). -/
def State.tthStart (s : State) : State :=
  if s.tthState = 0 ∧ s.flag R.TTH_CTRL_EN ∧ bitOf (s.get R.SYS_PWR_STAT_PD) 6 then
    if s.flag R.TTH_CTRL_WEDGE then
      if s.spnTurns then
        (s.set R.TTH_STAT_STATE 5).modTth (fun t => { t with
          head := none, unloaded := true, marks := 0, missed := 0, pllHz := clockOfSpeed s.spn.obsSpeed })
      else s
    else (s.set R.TTH_STAT_STATE 1).modTth (fun t => { t with goodRun := 0 })
  else s

/-- Entering OFF at once: the inputs lose their qualification and the decoders their runs; a failure under R65 still bars
an input (R61). -/
def State.tthOff (s : State) : State :=
  let s1 := (((s.tthUnlock.setFlag R.TTH_STAT_REF0_Q false).setFlag R.TTH_STAT_REF1_Q false)).set R.TTH_STAT_STATE 0
  s1.modTth (fun t => { t with
    refs := t.refs.map (fun r => ⟨0, 0, 0, 0, 0, none, r.failed, 0⟩), goodRun := 0, skewN := 0, select := none
    acqFrom := none })

/-- A write of 0 to TTH_CTRL.EN (Table 3-8). -/
def State.tthDisable (s : State) : State :=
  match s.tth.lossTo with
  | some (_, t) => s.modTth (fun x => { x with lossTo := some (0, t) })
  | none => if s.tthLocked then s.tthLoss 0 false else s.tthOff

/-- 128 Tether clocks after the declaration (R69). -/
def State.clockSwitch (s : State) : State :=
  match s.tth.lossTo with
  | some (next, t) =>
    if s.passed t (128 * 1000000000 / max 1 s.fTether) then
      let s1 := s.tthUnlock
      if next = 0 then s1.tthOff.tthStart
      else (s1.set R.TTH_STAT_STATE next).modTth (fun x => { x with goodRun := 0, marks := 0, missed := 0 })
    else s
  | none => s

/-- No lock within 1 s (R72, R80). -/
def State.relockFail (s : State) : State :=
  match s.tth.acqFrom with
  | some t =>
    if !s.tthLocked && s.tth.lossTo.isNone && (s.flag R.SPN_STAT_AT_SPEED || s.tthState == 6) && s.passed t 1000000000 then
      (s.fault .tth 3).modTth (fun x => { x with acqFrom := none })
    else s
  | none => s

/-- The 1 s of R72 starts when the spindle reaches speed during SPINUP, and stands only while it stays within 0.1 %; that
of R80 stands whatever the speed. -/
def State.relockArm (s : State) : State :=
  if s.mode = mSPINUP ∧ !s.tthLocked ∧ !s.flag R.TTH_CTRL_WEDGE then s.modTth (fun x => { x with acqFrom := some s.now })
  else s
/-- ACCEL ends in RUN, where it does, and the 1 s to lock starts (R72). -/
def State.speedReached (s : State) : State :=
  if s.spnState = 3 ∧ s.atSpeed.spnState = 4 then s.atSpeed.relockArm else s.atSpeed

/-- The 1 s of R72 ends where the speed leaves 0.1 %. -/
def State.relockWatch (s : State) : State :=
  if s.flag R.SPN_STAT_AT_SPEED ∨ s.tthLocked ∨ s.tthState = 6 then s else s.modTth (fun x => { x with acqFrom := none })

/-! ### Reference inputs (R59 to R68) -/

/-- The PLL takes the other input, its angles corrected by the skew (R66). -/
def State.handover (s : State) (i : Nat) : State := (s.set R.TTH_STAT_ACTIVE i).modTth (fun t => { t with select := none })

/-- Input `i` fails (R65): its qualification ends, and where it is the active one, the other input takes over, or TTH
returns to SEARCH, or loss is declared (R66, R69, Table 3-2). `slots`: by a run of bad slots, which alone ends PHASE. -/
def State.refFail (s : State) (i : Nat) (slots : Bool) : State :=
  let s1 := ((s.setFlag (refQ i) false).modRef i (fun r => { r with
    badRun := 0, ampRun := 0, invRun := 0, validRun := 0, seqRun := 0, failed := true, metRun := 0 })).modTth (fun t =>
      { t with skewN := 0 })
  let s2 := (s1.fault .tth (1 + i)).ldgProtocol 10 i
  if s2.refActive ≠ i then s2
  else if s2.tthState = 4 then
    if s2.tth.lossTo.isSome then s2
    else if s2.flag (refQ (1 - i)) ∧ s2.skewKnown then s2.handover (1 - i)
    else s2.tthLoss 1 true
  else if (s2.tthState = 2 ∧ slots) ∨ s2.tthState = 3 then
    (s2.set R.TTH_STAT_STATE 1).modTth (fun t => { t with goodRun := 0 })
  else s2

/-- The PLL follows a displacement of `d` Tether clocks; in lock the Tether clock is the PLL's (R60, R80). -/
def State.pllUpdate (s : State) (d : Int) : State :=
  let hz := Config.pllNext s.tth.pllHz d
  let s1 := s.modTth (fun t => { t with pllHz := hz })
  if s1.tthLocked then { s1 with fTether := hz } else s1

/-- Slot `k` is a bad slot (R59). -/
def badSlot (tol k : Nat) (d : Option Int) : Bool :=
  match d with
  | none => true
  | some x => decide (16 < x.natAbs) || (decide (k < 44) && decide (tol < x.natAbs))

/-- A good clock slot of the active reference updates the PLL; no other slot does (R60). -/
def State.pllSlot (s : State) (i k : Nat) (d : Option Int) : State :=
  match d with
  | some x => if s.refActive = i ∧ k < 44 ∧ !badSlot (s.get R.TTH_CFG_PHASE_TOL) k d then s.pllUpdate x else s
  | none => s

/-- One slot of a frame of input `i`: the PLL, and runs of bad slots, of amplitudes out of range and of good clock slots
(R59, R60, R65, Table 3-2). -/
def State.bandSlot (s : State) (i k : Nat) (d : Option Int) (amp : Nat) : State :=
  let st := s.tthState
  if st < 2 ∨ 4 < st then s
  else
    let bad := badSlot (s.get R.TTH_CFG_PHASE_TOL) k d
    let out := decide (amp < s.get R.TTH_CFG_AMP_MIN) || decide (s.get R.TTH_CFG_AMP_MAX < amp)
    let s1 := (s.pllSlot i k d).modRef i (fun r => { r with
      badRun := (if bad then r.badRun + 1 else 0), ampRun := (if out then r.ampRun + 1 else 0) })
    let s2 := if s1.refActive = i ∧ k < 44 then
        s1.modTth (fun t => { t with goodRun := (if bad then 0 else satN (t.goodRun + 1) 256) })
      else s1
    let r := s2.refIn i
    if s2.get R.TTH_CFG_BAD_RUN ≤ r.badRun then s2.refFail i true
    else if 64 ≤ r.ampRun then s2.refFail i false
    else if s2.tthState = 2 ∧ s2.refActive = i ∧ 256 ≤ s2.tth.goodRun then s2.set R.TTH_STAT_STATE 3
    else s2

/-- The bit of a data slot (R59). -/
def dataBit (d : Option Int) : Option Nat :=
  match d with
  | some x => if 2 ≤ x.natAbs ∧ x.natAbs ≤ 5 then some (if 0 < x then 1 else 0) else none
  | none => none

/-- A mark slot carries the mark of sign `pos` (R59). -/
def markIs (pos : Bool) (d : Option Int) : Bool :=
  match d with
  | some x => decide (6 ≤ x.natAbs) && decide (x.natAbs ≤ 11) && decide (0 < x) == pos
  | none => false

/-- The number that data slots spell, most significant bit first. -/
def dataBits (l : List (Option Int)) : Option Nat :=
  l.foldl (fun v d => match v, dataBit d with
    | some n, some b => some (2 * n + b)
    | _, _ => none) (some 0)

/-- The frame number of a valid frame (R58, R59). -/
def frameNumber (slots : List (Option Int)) : Option Nat :=
  let at_ := fun (k : Nat) => (slots[k]?).getD none
  let marks := markIs false (at_ 44) && markIs true (at_ 45) && markIs false (at_ 46) && markIs true (at_ 47)
  match dataBits ((slots.drop 48).take 12), dataBits ((slots.drop 60).take 4) with
  | some f, some c =>
    if marks ∧ Nat.xor (Nat.xor (f / 256) (f / 16 % 16)) (f % 16) = c then some f else none
  | _, _ => none

/-- The single-frame skew against the average, modulo a revolution, in 1/256 clock. -/
def skewDiff (a b : Nat) : Int := signedOf (a % 2 ^ 31 + 2 ^ 31 - b % 2 ^ 31) 31

/-- A single-frame skew while both inputs are qualified (R67). -/
def State.skewFrame (s : State) (x : Nat) : State :=
  if s.flag R.TTH_STAT_REF0_Q ∧ s.flag R.TTH_STAT_REF1_Q then
    let meas := s.flag R.TTH_SKEW_MEASURED
    if meas ∧ 256 < (skewDiff x (s.get R.TTH_SKEW_SKEW)).natAbs then (s.fault .tth 4).tthLoss 1 true
    else
      let base := if s.tth.skewN = 0 then x else s.tth.skewBase
      let sum := (if s.tth.skewN = 0 then 0 else s.tth.skewSum) + skewDiff x base
      let n := s.tth.skewN + 1
      let s1 := s.modTth (fun t => { t with skewBase := base, skewSum := sum, skewN := n % 4096 })
      if n < 4096 then s1
      else
        let (m, s2) := s1.openDiv sum 4096
        let avg := unsignedOf ((base : Int) + m) 31
        let s3 := ((s2.set R.TTH_SKEW_SKEW avg).setFlag R.TTH_SKEW_MEASURED true).skewShow
        if !meas && s3.flag R.TTH_SKEW_NOM_NOM_VALID
            && decide (512 < (skewDiff avg (s3.get R.TTH_SKEW_NOM_SKEW_NOM)).natAbs) then s3.fault .tth 5
        else s3
  else s.modTth (fun t => { t with skewN := 0 })

/-- A point of the angle at stamp `t`, and the index passage within the `span` clocks before it (R78, R79). -/
def State.anglePoint (s : State) (t ang span : Nat) : State :=
  let s1 := s.modTth (fun x => { x with angAt := (t, ang) })
  if ang < span then
    let (back, s2) := s1.openDiv (Int.ofNat (ang * 1000000000)) (max 1 s1.fTether)
    let idx := t - back.toNat
    let s3 := match s2.tth.lastIdx with
      | some k => s2.set R.TTH_REV_PERIOD_PERIOD (idx - k)
      | none => s2
    s3.modTth (fun x => { x with lastIdx := some idx })
  else s1

/-- The runs of input `i` at the end of a frame with number `num`, none where it is invalid (R59, R61). The first valid
frame counts as in sequence (a DESIGN CHOICE). -/
def State.frameRuns (s : State) (i : Nat) (num : Option Nat) (ampOk : Bool) : State :=
  s.modRef i (fun r =>
    let seq := match num, r.lastNum with
      | some f, some l => f == (l + 1) % 4096
      | some _, none => true
      | none, _ => false
    let next := fun (n : Nat) => if num.isNone then 0 else if seq then n + 1 else 1
    let run := if ampOk then next r.validRun else 0
    let met := s.refEn i && decide (s.get R.TTH_CFG_FRAME_RUN ≤ run)
    let metRun := if met then satN (r.metRun + 1) 4096 else 0
    { r with
      validRun := satN run 4096, seqRun := satN (next r.seqRun) 4096, metRun := metRun
      failed := r.failed && decide (metRun < 4096), invRun := (if seq then 0 else r.invRun + 1)
      lastNum := (match num with
        | some f => some f
        | none => r.lastNum) })

/-- The angle's point at the end of a frame of the active input in LOCKED: an invalid frame is the one after the latest
valid frame (R78, R79). -/
def State.frameAngle (s : State) (i : Nat) (last num : Option Nat) : State :=
  if s.refActive = i then
    let f := match num, last with
      | some f, _ => some f
      | none, some l => some ((l + 1) % 4096)
      | none, none => none
    match f with
    | some f => s.anglePoint s.now ((2048 * (f + 1) + (if i = 0 then 0 else s.skewClocks)) % 8388608) 2048
    | none => s
  else s

/-- The end of a frame of input `i` (R59, R61, R65 to R68, Table 3-2). -/
def State.bandFrameEnd (s : State) (i : Nat) (fr : BandFrame) (num : Option Nat) (ampOk : Bool) : State :=
  let last := (s.refIn i).lastNum
  let s0 := if num.isNone ∧ s.flag (refQ i) then s.fault .tth 6 else s
  let s1 := s0.frameRuns i num ampOk
  let r := s1.refIn i
  let s2 := if 2 ≤ r.invRun then s1.refFail i false
    else if 0 < r.metRun ∧ !r.failed then s1.setFlag (refQ i) true else s1
  let lock := num.isSome && s2.refActive == i && s2.tthState == 3 && decide (s2.get R.TTH_CFG_FRAME_RUN ≤ r.seqRun)
    && decide (fr.rms < 256)
  let s3 := if lock then s2.tthLock 4 else s2
  let s4 := if s3.tthState = 4 ∧ s3.tth.lossTo.isNone then
      let t0 := s3.frameAngle i last num
      let t1 := if lock then t0.tthResume else t0
      match fr.skew with
      | some x => t1.skewFrame x
      | none => t1
    else s3
  match s4.tth.select with
  | some k =>
    if s4.refActive ≠ i then s4
    else if s4.tthState = 4 ∧ s4.tth.lossTo.isNone ∧ s4.flag (refQ k) ∧ s4.skewKnown then s4.handover k
    else s4.modTth (fun t => { t with select := none })
  | none => s4

/-- A band frame is decoded on input `i` (R59). A disabled input delivers no transition. -/
def State.tetherFrame (s : State) (i : Nat) (fr : BandFrame) : State :=
  let st := s.tthState
  if st < 2 ∨ 4 < st then s
  else
    let slot := fun (k : Nat) => if s.refEn i then (fr.slots[k]?).getD none else none
    let slots := (List.range 64).map slot
    let amp := fun (k : Nat) => (fr.amps[k]?).getD 0
    let ampOk := (List.range 64).all (fun k =>
      decide (s.get R.TTH_CFG_AMP_MIN ≤ amp k) && decide (amp k ≤ s.get R.TTH_CFG_AMP_MAX))
    let s1 := (List.range 64).foldl (fun (t : State) k => t.bandSlot i k (slot k) (amp k)) s
    if st = 2 ∨ s1.tthState < 3 then s1 else s1.bandFrameEnd i fr (frameNumber slots) ampOk

/-- The slot rate of input `i` is within ±0.05 % of the PLL frequency, which sweeps ±2 % around the observer's speed (R62,
R63). The primary input is taken; the other one where it is qualified and the primary is not. -/
def State.frequencyFound (s : State) (i slotHz pllHz : Nat) : State :=
  let q := fun (k : Nat) => s.refEn k && s.flag (refQ k)
  let p := s.get R.TTH_CTRL_PRIMARY
  let pick := s.refEn i && (i == p || (q i && !q p))
  let start := clockOfSpeed s.spn.obsSpeed
  let swept := decide (((pllHz : Int) - start).natAbs * 50 ≤ start)
  if s.tthState = 1 ∧ pick ∧ swept ∧ ((32 * slotHz : Int) - pllHz).natAbs * 2000 ≤ pllHz ∧ 0 < pllHz then
    ((s.set R.TTH_STAT_STATE 2).set R.TTH_STAT_ACTIVE i).modTth (fun t => { t with goodRun := 0, pllHz := pllHz })
  else s

/-- A write of SELECT (R68): a request that cannot stand is discarded. -/
def State.tthSelect (s : State) (code : Nat) : State :=
  if (code = 1 ∨ code = 2) ∧ s.tthState = 4 ∧ s.tth.lossTo.isNone ∧ s.refActive ≠ code - 1 then
    s.modTth (fun t => { t with select := some (code - 1) })
  else s

/-- After a write of TTH_CTRL whose value was `old`: WEDGE changes only while EN = 0, EN is followed, an input that is
disabled loses its qualification, and SELECT requests (Table 3-8). -/
def State.tthCtrl (s : State) (old new : Nat) : State :=
  let s1 := if bitOf old 0 then s.set R.TTH_CTRL_WEDGE (bitsOf old 1 1) else s
  let drop := fun (t : State) (i : Nat) => if t.refEn i then t else (t.setFlag (refQ i) false).modRef i (fun r => { r with
    validRun := 0, seqRun := 0, metRun := 0 })
  let s2 := drop (drop s1 0) 1
  let s3 := if bitOf old 0 && !s2.flag R.TTH_CTRL_EN then s2.tthDisable
    else if !bitOf old 0 && s2.flag R.TTH_CTRL_EN then s2.tthStart else s2
  s3.tthSelect (bitsOf new 10 2)

/-- TTH_ANGLE at a read: the angle at the present stamp (R78). -/
def State.tthAngleNow (s : State) : Nat × State :=
  if s.tetherAngle then
    let (a, s1) := s.tetherAt s.now
    (2 ^ 31 + a, s1)
  else (0, s)

/-! ### Wedge timing (R80) -/

/-- The head of actuator 0 that is the one VALID head. -/
def State.wedgeHead (s : State) : Option Nat := (headsOf 0).find? (fun h => s.flag (R.SRV_HD_TGT_VALID h))

/-- WACQ is entered on head `h`; from WLOCKED a planned switch changes the clock at once and abandons the old head's
sectors (R80). -/
def State.wedgeAcquire (s : State) (h : Nat) : State :=
  let old := s.tth.head
  let s1 := if s.tthState = 7 then
      let t := s.tthUnlock.headsUnlock
      match old with
      | some k => if k = h then t else t.abandonHead k
      | none => t
    else s
  (s1.set R.TTH_STAT_STATE 6).modTth (fun t => { t with
    head := some h, unloaded := false, marks := 0, missed := 0, acqFrom := some s.now })

/-- Head loads and head switches of actuator 0 in the wedge states (R80). -/
def State.wedgeWatch (s : State) : State :=
  if s.tthState < 5 then s
  else
    let st := s.actState 0
    if st ≤ 2 then s.modTth (fun t => { t with unloaded := true })
    else if st ≤ 6 then
      match s.wedgeHead with
      | some h => if (s.tth.unloaded ∨ s.tth.head ≠ some h) ∧ s.tth.lossTo.isNone then s.wedgeAcquire h else s
      | none => s
    else s

/-- What wedge timing takes from a wedge of the active head: the mark's distance from its prediction in Tether clocks (none:
the mark is missing), its stamp or that of the prediction, and its wedge (R80, R167). -/
structure MarkObs where
  err : Option Int
  stamp : Nat
  wedge : Nat
  deriving DecidableEq, Repr

/-- The mark of a wedge of head `h`: in WACQ its prediction is one wedge period of the PLL after the mark before it; in
WLOCKED it is that of R167. -/
def State.markOf (s : State) (h : Nat) (o : WedgeObs) : MarkObs :=
  let w := s.wedgeCount (h / 6)
  match s.samOf h o with
  | none => ⟨none, s.samStamp h o, s.samWedge h o⟩
  | some m =>
    let err : Option Int := if s.tthLocked then some (m.dist / Int.ofNat (256 * w))
      else match (s.hsv h).samAt with
        | some t => some (((m.stamp : Int) - t) * s.tth.pllHz / 1000000000 - Int.ofNat (8388608 / w))
        | none => none
    let seen := match decodeWedge (msbFirst 72 (bitsOf o.bits (m.o + 513).toNat 72)) with
      | some (_, k) => k
      | none => m.w
    ⟨err, m.stamp, seen⟩

/-- A servo address mark of the active head in WACQ and WLOCKED: the PLL follows it (R80). -/
def State.wedgeMark (s : State) (h : Nat) (m : MarkObs) : State :=
  if s.tth.head ≠ some h ∨ s.tthState < 6 ∨ s.tth.lossTo.isSome then s
  else
    let near := fun (w : Nat) => match m.err with
      | some x => decide (x.natAbs ≤ w)
      | none => false
    let w := s.wedgeCount (h / 6)
    let ang := m.wedge * 8388608 / w % 8388608
    let s0 := match m.err with
      | some x => s.pllUpdate x
      | none => s
    if s.tthState = 6 then
      let n := if near 2 then s.tth.marks + 1 else 0
      let s1 := s0.modTth (fun t => { t with marks := n, missed := 0 })
      if 16 ≤ n then ((s1.tthLock 7).anglePoint m.stamp ang (8388608 / w)).tthResume else s1
    else
      let n := if near 8 then 0 else s.tth.missed + 1
      let s1 := s0.modTth (fun t => { t with missed := n })
      if 2 ≤ n then s1.tthLoss 6 true else s1.anglePoint m.stamp ang (8388608 / w)

/-- A servo sample with its part in wedge timing. -/
def State.wedgeSample (s : State) (h : Nat) (o : WedgeObs) : State :=
  ((s.servoSample h o).wedgeWatch).wedgeMark h (s.markOf h o)

/-! ### Copies of the time base (R30) -/

/-- A copy that differs by more than 2 ns is reloaded, named and counted, and ALIGN_ERR sets; the others keep their
difference. Domains are taken in rising order of Table 1-4, which numbers no domain 10 to 15 (R30). -/
def State.tbCopy (s : State) (dom : Nat) (d : Int) : State :=
  if 2 < d.natAbs then
    ((({ s with tbDrift := listSet s.tbDrift dom 0 }).set R.TTH_TB_STAT_LAST_DOM dom).bump R.TTH_TB_STAT_ERR_COUNT 1).fault
      .tb 0
  else { s with tbDrift := listSet s.tbDrift dom d }

/-- The compare of every copy of the time base with the master, `drift` being their differences in ns (R30). -/
def State.tbAlign (s : State) (drift : List Int) : State :=
  ((drift.take 40).zipIdx).foldl (fun (t : State) c => if 10 ≤ c.2 ∧ c.2 < 16 then t else t.tbCopy c.2 c.1) s

end Sys2Proof.Machine
end

