-- ==== Sys2Proof/Machine/Seq.lean ====
section
/-!
DEFINITION. The Caravan sequencers of chapter 6: states, the micro-word, conditions, the ALU, formatter commands, next
addresses, Waypoints, defect lookups and the queue windows.
-/

namespace Sys2Proof.Machine

open Sys2Proof

/-- A general register. -/
def State.sqG (s : State) (a n : Nat) : Nat := (((s.sq a).g)[n]?).getD 0
def State.setG (s : State) (a n v : Nat) : State := s.modSq a (fun q => { q with g := listSet q.g n (v % 2 ^ 32) })

/-- Word `k` of octet `o` (R155). -/
def State.octW (s : State) (a o k : Nat) : Nat := s.sqG a (8 * o + k)

/-- Writes four words into w4 to w7, or w0 to w3, of an octet. -/
def State.putOct (s : State) (a o k : Nat) (ws : List Nat) : State :=
  (ws.take 4).zipIdx.foldl (fun (t : State) e => t.setG a (8 * o + k + e.2) e.1) s

/-! ### The micro-word (Table 6-4) -/

def mwNext (w : Nat) : Nat := bitsOf w 0 14
def mwNop (w : Nat) : Nat := bitsOf w 14 4
def mwCond (w : Nat) : Nat := bitsOf w 18 6
def mwCinv (w : Nat) : Bool := bitOf w 24
def mwWp (w : Nat) : Bool := bitOf w 25
def mwAlu (w : Nat) : Nat := bitsOf w 26 4
def mwDst (w : Nat) : Nat := bitsOf w 30 4
def mwSrcA (w : Nat) : Nat := bitsOf w 34 4
def mwSrcB (w : Nat) : Nat := bitsOf w 38 4
def mwBimm (w : Nat) : Bool := bitOf w 42
def mwFcmd (w : Nat) : Nat := bitsOf w 43 5
def mwHead (w : Nat) : Nat := bitsOf w 48 3
def mwFoct (w : Nat) : Nat := bitsOf w 51 1
def mwImm (w : Nat) : Nat := bitsOf w 64 32
def mwTmo (w : Nat) : Nat := bitsOf w 96 16

/-- The word with its NOP, ALU or FCMD field set: a row of the table names that operation, the other fields stand. -/
def mwSetNop (w k : Nat) : Nat := putBits w 14 4 k
def mwSetAlu (w k : Nat) : Nat := putBits w 26 4 k
def mwSetFcmd (w k : Nat) : Nat := putBits w 43 5 k

/-- A reserved code in NOP, COND, ALU, FCMD or HEAD (R152). -/
def mwIllegal (w : Nat) : Bool :=
  decide (0xB ≤ mwNop w) || decide (0x17 ≤ mwCond w) || decide (12 ≤ mwAlu w) || decide (0xD ≤ mwFcmd w) || mwHead w == 6

/-- The head that HEAD names. -/
def State.mwHeadOf (s : State) (a w : Nat) : Nat := 6 * a + (if mwHead w = 7 then (s.sq a).hsel else mwHead w)

/-- COND of a word, before CINV (Table 6-6). -/
def State.mwCondition (s : State) (a w : Nat) : Bool :=
  let q := s.sq a
  let h := s.mwHeadOf a w
  let x := s.head h
  match mwCond w with
  | 0x00 => true
  | 0x01 => q.z
  | 0x02 => q.n
  | 0x03 => q.c
  | 0x04 => q.lc == 0
  | 0x05 => s.tthLocked
  | 0x06 => s.get (R.CH_STAT_STATE h) == 3
  | 0x07 => s.get (R.CH_WR_STAT_STATE h) == 3
  | 0x08 => s.get (R.CH_WR_INH_SRC h) != 0
  | 0x09 => !x.reports.isEmpty
  | 0x0A => decide (8 ≤ x.arms.length)
  | 0x0B => x.arms.isEmpty
  | 0x0C => !q.tasks.isEmpty
  | 0x0D => decide (64 ≤ q.done.length)
  | 0x0E => q.kind == some 0
  | 0x0F => q.kind == some 1
  | 0x10 => s.flag (R.SRV_HD_STAT_ONTRK h)
  | 0x11 => s.flag (R.SRV_ACT_STAT_SEEKDONE a)
  | 0x12 => s.flag (R.SRV_ACT_STAT_SEEKFAIL a)
  | 0x13 => (s.hsv h).sampleOk
  | 0x14 => s.archive
  | 0x15 => decide (2 ≤ s.get (R.CH_STAT_STATE h))
  | 0x16 => x.grant
  | _ => false

/-- The condition holds: COND, inverted when CINV = 1. -/
def State.mwHolds (s : State) (a w : Nat) : Bool := xor (s.mwCondition a w) (mwCinv w)

/-! ### Entering states (Table 6-3, R147) -/

/-- The sequencer enters STOPPED or RESET: its armed sectors are abandoned and its queues emptied (R151, R161). -/
def State.sqHalt (s : State) (a st : Nat) : State :=
  let s1 := (s.set (R.SEQ_STAT_STATE a) st).modSq a (fun q => { q with
    tasks := [], done := [], stop := false, wait := none, lookup := none })
  let s2 := (headsOf a).foldl (fun (t : State) h => t.abandonHead h) s1
  (s2.retryFreeAct a).defSwapTry a false

/-- STOPPED at once, with a status bit of SEQ_FLT_STAT (R151). -/
def State.sqStop (s : State) (a bit : Nat) : State := (s.sqHalt a 3).fault (.seq a) bit

/-- RESET: the call stack is empty (R154). -/
def State.sqReset (s : State) (a : Nat) : State :=
  (((s.sqHalt a 0).modSq a (fun q => { q with stack := [], sincePoll := 0 })).set (R.SEQ_STAT_SP a) 0).setFlag
    (R.SEQ_STAT_ATTN_PEND a) false

/-- The address fetched in place of `n` (R150). -/
def State.trapped (s : State) (a n : Nat) : Nat :=
  match (List.range 32).find? (fun i => s.flag (R.SEQ_TRAP_VALID a i) && s.get (R.SEQ_TRAP_FROM a i) == n) with
  | some i => if n < 0x3000 then s.get (R.SEQ_TRAP_TO a i) else n
  | none => n

/-- Execution goes to address `n`. -/
def State.sqGo (s : State) (a n : Nat) : State := s.set (R.SEQ_STAT_PC a) (s.trapped a (n % 16384))

/-- RESET ends at address 0x0000 with EN = 1 and the patch load ended (R149, R151). -/
def State.sqStart (s : State) (a : Nat) : State :=
  if s.sqState a = 0 ∧ s.flag (R.SEQ_CTRL_EN a) ∧ (s.sq a).patchDone ∧ !s.inReset (.seq a) then
    ((s.set (R.SEQ_STAT_STATE a) 1).modSq a (fun q => { q with sincePoll := 0, stack := [] })).sqGo a 0
  else s

/-! ### Stack and Waypoints (R154, R157) -/

/-- Pushes a return address; a full stack sets STACK. -/
def State.sqPush (s : State) (a r : Nat) : Bool × State :=
  let q := s.sq a
  if 16 ≤ q.stack.length then (false, s.sqStop a 1)
  else (true, (s.modSq a (fun x => { x with stack := (r % 16384) :: x.stack })).set (R.SEQ_STAT_SP a) (q.stack.length + 1))

/-- Pops a return address; an empty stack sets STACK. -/
def State.sqPop (s : State) (a : Nat) : Option Nat × State :=
  match (s.sq a).stack with
  | r :: rest => (some r, (s.modSq a (fun x => { x with stack := rest })).set (R.SEQ_STAT_SP a) rest.length)
  | [] => (none, s.sqStop a 1)

/-- The clocks that the present WAIT has taken, of the Tether or the 250 MHz clock. -/
def State.sqClocks (s : State) (a : Nat) : Nat :=
  match (s.sq a).wait with
  | some w => (s.now - w.since) * (if s.fTether = 0 then 250000000 else s.fTether) / 1000000000
  | none => 0

/-- A Waypoint poll with `n` as the next address: stop, PAUSE, ATTN in that order; else execution goes to `n`, or a WAIT
goes on (`stay`) (R157). -/
def State.sqPoll (s : State) (a n : Nat) (stay : Bool) : State :=
  let s1 := (s.modSq a (fun q => { q with sincePoll := 0 })).defSwapTry a true
  if (s1.sq a).stop ∨ !s1.flag (R.SEQ_CTRL_EN a) then s1.sqHalt a 3
  else if s1.flag (R.SEQ_CTRL_PAUSE a) then
    ((((s1.set (R.SEQ_RESUME_ADDR a) n).set (R.SEQ_STAT_STATE a) 2).modSq a (fun q => { q with wait := none }))).defSwapTry
      a false
  else if s1.flag (R.SEQ_STAT_ATTN_PEND a) ∧ (s1.sq a).stack.isEmpty then
    let (_, s2) := s1.sqPush a n
    ((s2.setFlag (R.SEQ_STAT_ATTN_PEND a) false).modSq a (fun q => { q with wait := none })).sqGo a 8
  else if stay then s1 else s1.sqGo a n

/-- Execution goes to `n` from word `w`, with the poll where it is a Waypoint; the clocks that a WAIT took count towards LIMIT
(R158). -/
def State.sqLeave (s : State) (a w n : Nat) : State :=
  let k := if (s.sq a).wait.isSome then s.sqClocks a else 1
  let s1 := s.modSq a (fun q => { q with wait := none, sincePoll := q.sincePoll + k })
  if mwWp w then s1.sqPoll a (n % 16384) false else s1.sqGo a n

/-! ### The ALU (R153) -/

/-- Result, and carry where it is that of an addition. -/
def aluResult (op x y : Nat) : Nat × Option Bool :=
  match op with
  | 1 => (y, none)
  | 2 => ((x + y) % 2 ^ 32, some (decide (2 ^ 32 ≤ x + y)))
  | 3 => ((x + 2 ^ 32 - y) % 2 ^ 32, none)
  | 4 => (Nat.land x y, none)
  | 5 => (Nat.lor x y, none)
  | 6 => (Nat.xor x y, none)
  | 7 => (x * 2 ^ (y % 32) % 2 ^ 32, none)
  | 8 => (x / 2 ^ (y % 32), none)
  | _ => ((x + 2 ^ 32 - y) % 2 ^ 32, none)

/-- Flags of a result; a carry that the manual does not define is a free value. -/
def State.sqFlags (s : State) (a r : Nat) (carry : Option Bool) : State :=
  match carry with
  | some c => s.modSq a (fun q => { q with z := r == 0, n := bitOf r 31, c := c })
  | none =>
    let (x, s1) := s.draw
    s1.modSq a (fun q => { q with z := r == 0, n := bitOf r 31, c := x % 2 == 1 })

/-- Flags after LDLC and LDHS, whose result the manual does not define: free values. -/
def State.sqFreeFlags (s : State) (a : Nat) : State :=
  let (x, s1) := s.draw
  s1.modSq a (fun q => { q with z := x % 2 == 1, n := x / 2 % 2 == 1, c := x / 4 % 2 == 1 })

/-- The ALU operation of a word; false where LDHS loads a value above 5 (R153). -/
def State.sqAlu (s : State) (a w : Nat) : Bool × State :=
  let x := s.sqG a (mwSrcA w)
  let y := if mwBimm w then mwImm w else s.sqG a (mwSrcB w)
  match mwAlu w with
  | 0 => (true, s)
  | 10 => (true, (s.sqFreeFlags a).modSq a (fun q => { q with lc := y % 2 ^ 16 }))
  | 11 =>
    if 5 < y % 8 then (false, s.sqFreeFlags a)
    else (true, (s.sqFreeFlags a).modSq a (fun q => { q with hsel := y % 8 }))
  | 9 =>
    let (r, c) := aluResult 9 x y
    (true, s.sqFlags a r c)
  | op =>
    let (r, c) := aluResult op x y
    (true, (s.sqFlags a r c).setG a (mwDst w) r)

/-! ### Formatter commands (R155, Table 6-7) -/

/-- The address of a defect table, and its entries' count. -/
def State.defBase (s : State) (a : Nat) : Nat :=
  s.get (R.SEQ_DEF_BASE_LO_BASE a) * 16 + s.get (R.SEQ_DEF_BASE_HI_BASE a) * 2 ^ 32

/-- Binary search for `key` among entries `lo` to `hi − 1`, the entries read so far bounding ADDR from both sides: the
entry's words, none for no hit, or failure (R147). -/
def State.defSearch (s : State) (a base key : Nat) : Nat → Nat → Nat → Option Nat → Option Nat → Option (Option (Nat × Nat)) × State
  | 0, _, _, _, _ => (some none, s)
  | fuel + 1, lo, hi, below, above =>
    if hi ≤ lo then (some none, s)
    else
      let m := (lo + hi) / 2
      match s.memRead (base + 16 * m) 16 with
      | (none, s1) => (none, s1)
      | (some bs, s1) =>
        let w0 := ofLeBytes (bs.take 8)
        let w1 := ofLeBytes (bs.drop 8)
        let k := bitsOf w0 0 40
        let order := (match below with
          | some b => decide (b < k)
          | none => true) && (match above with
          | some b => decide (k < b)
          | none => true)
        if !order || paSurface k / 6 != a then (none, s1)
        else if k = key then (some (some (w0, w1)), s1)
        else if k < key then s1.defSearch a base key fuel (m + 1) hi (some k) above
        else s1.defSearch a base key fuel lo m below (some k)

/-- A DEF_LOOKUP ends (R147). -/
def State.lookupDone (s : State) (a : Nat) : State :=
  match (s.sq a).lookup with
  | none => s
  | some l =>
    let (r, s1) := s.defSearch a l.base l.key 25 0 l.count none none
    let fin := fun (t : State) (k : Option Nat) (ws : List Nat) =>
      ((t.modSq a (fun q => { q with lookup := none, kind := k })).putOct a l.oct 4 ws).defSwapTry a false
    match r with
    | some (some (w0, w1)) =>
      fin s1 (some (bitsOf w0 40 2)) [w0 % 2 ^ 32, w0 / 2 ^ 32, w1 % 2 ^ 32, w1 / 2 ^ 32]
    | some none => fin s1 none [0, 0, 0, 0]
    | none => fin (s1.fault (.seq a) 5) none [0, 0, 0, 0]

/-- A head that leaves the reader selection with sectors armed is abandoned (R159); the new selection is requested (R455). -/
def State.rselChange (s : State) (a old new : Nat) : State :=
  let s1 := (List.range 6).foldl (fun (t : State) j =>
    if bitOf old j && !bitOf new j then t.abandonHead (6 * a + j) else t) s
  s1.dlkSelect a new

/-- The formatter command of a word. -/
def State.sqFormat (s : State) (a w : Nat) : State :=
  let o := mwFoct w
  let h := s.mwHeadOf a w
  let wk := fun (k : Nat) => s.octW a o k
  let armBlock := fun (k : ArmKind) => s.arm h (armOf k (wk 0) (wk 1) (wk 2) (wk 3) (wk 4))
  match mwFcmd w with
  | 0x01 =>
    match (s.sq a).tasks with
    | t :: rest => (s.modSq a (fun q => { q with tasks := rest })).putOct a o 0 t
    | [] => s.fault (.seq a) 3
  | 0x02 =>
    if 64 ≤ (s.sq a).done.length then s.fault (.seq a) 3
    else s.modSq a (fun q => { q with done := q.done ++ [[wk 4, wk 5, wk 6, wk 7]] })
  | 0x03 => armBlock .read
  | 0x04 => armBlock .write
  | 0x05 => armBlock .verify
  | 0x06 => s.abandonHead h
  | 0x07 => s.zoneRequest h (bitsOf (wk 0) 0 22)
  | 0x08 =>
    let m := s.get (R.DLK_L_RSEL_RSEL a)
    s.dlkSelect a (Nat.lor m (2 ^ (h - 6 * a)))
  | 0x09 => s.seekCmd a (bitsOf (wk 0) 0 22) h
  | 0x0A => s.setTarget h (bitsOf (wk 0) 0 22)
  | 0x0B =>
    let s1 := s.lookupDone a
    s1.modSq a (fun q => { q with
      lookup := some ⟨physAddr h (bitsOf (wk 0) 0 22) (bitsOf (wk 1) 0 13), o, s1.defBase a, s1.get (R.SEQ_DEF_COUNT_COUNT a)⟩ })
  | 0x0C =>
    match (s.head h).reports with
    | r :: rest =>
      (s.modHead h (fun x => { x with reports := rest })).putOct a o 4
        [r % 2 ^ 32, r / 2 ^ 32 % 2 ^ 32, r / 2 ^ 64 % 2 ^ 32, r / 2 ^ 96 % 2 ^ 32]
    | [] => s
  | _ => s

/-! ### Issuing a word (R152, R153) -/

/-- The next address of a word at `pc`, the condition `holds` having been evaluated at its first cycle (Table 6-5). -/
def State.sqNext (s : State) (a pc w : Nat) (holds : Bool) : State :=
  let nx := mwNext w
  let call := fun (t : State) =>
    match t.sqPush a (pc + 1) with
    | (true, t1) => t1.sqLeave a w nx
    | (false, t1) => t1
  let ret := fun (t : State) =>
    match t.sqPop a with
    | (some r, t1) => t1.sqLeave a w r
    | (none, t1) => t1
  match mwNop w with
  | 0x0 => s.sqLeave a w (pc + 1)
  | 0x1 => s.sqLeave a w nx
  | 0x2 => s.sqLeave a w (if holds then nx else pc + 1)
  | 0x3 => call s
  | 0x4 => if holds then call s else s.sqLeave a w (pc + 1)
  | 0x5 => ret s
  | 0x6 => if holds then ret s else s.sqLeave a w (pc + 1)
  | 0x7 => s.sqLeave a w (nx / 16 * 16 + s.sqG a (mwSrcA w) % 16)
  | 0x8 =>
    if (s.sq a).lc = 0 then s.sqLeave a w (pc + 1)
    else (s.modSq a (fun q => { q with lc := q.lc - 1 })).sqLeave a w nx
  | 0x9 =>
    if holds then s.sqLeave a w (pc + 1)
    else
      let s1 := s.modSq a (fun q => { q with wait := some ⟨w, pc, s.now⟩, sincePoll := q.sincePoll + 1 })
      if mwWp w then s1.sqPoll a pc true else s1
  | _ => (s.set (R.SEQ_STAT_STATE a) 4).modSq a (fun q => { q with lookup := none })

/-- Sequencer `a` issues word `w` at its present address: condition, ALU, formatter command, next address (R153). Only a
sequencer in RUN that does not wait issues a word. -/
def State.sqIssue (s : State) (a w : Nat) : State :=
  if s.sqState a ≠ 1 ∨ (s.sq a).wait.isSome ∨ s.inReset (.seq a) then s
  else if mwIllegal w then s.sqStop a 0
  else
    let holds := s.mwHolds a w
    match s.sqAlu a w with
    | (false, s1) => s1.sqStop a 0
    | (true, s1) =>
      let s2 := s1.sqFormat a w
      let s3 := s2.sqNext a (s.get (R.SEQ_STAT_PC a)) w holds
      if s3.sqState a = 4 then s3.defSwapTry a false else s3

/-- A WAIT word's condition holds: execution goes to address + 1; the poll comes first on a Waypoint (Table 6-5). -/
def State.waitMet (s : State) (a : Nat) : State :=
  match (s.sq a).wait with
  | some x => if s.mwHolds a x.word then s.sqLeave a x.word (x.addr + 1) else s
  | none => s

/-- TMO of a WAIT word expires first: execution goes to NEXT. -/
def State.waitTimeout (s : State) (a : Nat) : State :=
  match (s.sq a).wait with
  | some x =>
    if !s.mwHolds a x.word && mwTmo x.word != 0 && decide (16 * mwTmo x.word ≤ s.sqClocks a) then
      s.sqLeave a x.word (mwNext x.word)
    else s
  | none => s

/-- A waiting Waypoint word polls in every cycle: a request that has come up is taken (R157). -/
def State.waitPoll (s : State) (a : Nat) : State :=
  match (s.sq a).wait with
  | some x => if s.sqState a = 1 ∧ mwWp x.word then s.sqPoll a x.addr true else s
  | none => s

/-- The word at an address: ROM, or patch RAM, whose uncorrectable word stops the sequencer (R148, Table 15-1). -/
def State.sqFetch (s : State) (a n : Nat) : Option Nat × State :=
  if n < 0x3000 then (some (Config.romWord n).toNat, s)
  else
    match s.eccRead ⟨true, 0x30, a, n - 0x3000⟩ 0 false with
    | (some _, s1) => (some (cnt (s1.sq a).patch (n - 0x3000)), s1)
    | (none, s1) => (none, s1)

/-- A sequencer clock: the word at PC issues; a waiting word polls and tests its condition and time-out (R153). -/
def State.sqClock (s : State) (a : Nat) : State :=
  if s.sqState a ≠ 1 ∨ s.inReset (.seq a) then s
  else if (s.sq a).wait.isSome then ((s.waitPoll a).waitMet a).waitTimeout a
  else
    match s.sqFetch a (s.get (R.SEQ_STAT_PC a)) with
    | (some w, s1) => s1.sqIssue a w
    | (none, s1) => s1.sqStop a 0

/-- More clocks than LIMIT have passed since the latest Waypoint poll (R158). A WAIT that is a Waypoint polls in every
cycle. -/
def State.wpTimeout (s : State) (a : Nat) : State :=
  let waited := match (s.sq a).wait with
    | some x => if mwWp x.word then 0 else s.sqClocks a
    | none => 0
  if s.sqState a = 1 ∧ s.get (R.SEQ_WP_LIMIT_LIMIT a) < (s.sq a).sincePoll + waited then s.sqStop a 2 else s

/-! ### Register effects (Tables 6-12 and 6-14) -/

/-- A stop request; a sequencer in HELD stops at once (Table 6-3). -/
def State.sqStopReq (s : State) (a : Nat) : State :=
  if s.sqState a = 2 then s.sqHalt a 3
  else if s.sqState a = 1 then (s.modSq a (fun q => { q with stop := true })).waitPoll a else s

/-- After a write of SEQ_CTRL with the value `new` (R147, R151, R157). -/
def State.sqCtrl (s : State) (a new : Nat) : State :=
  let s1 := if bitOf new 2 then s.setFlag (R.SEQ_STAT_ATTN_PEND a) true else s
  let s2 := if bitOf new 8 then (s1.modSq a (fun q => { q with swapPend := true })).defSwapTry a false else s1
  let st := s2.sqState a
  let s3 := if !bitOf new 0 then
      if st = 3 ∨ st = 4 then s2.sqReset a else if st = 2 then s2.sqHalt a 3 else s2
    else s2.sqStart a
  let s4 := if s3.sqState a = 2 ∧ !bitOf new 1 then
      ((s3.set (R.SEQ_STAT_STATE a) 1).modSq a (fun q => { q with sincePoll := 0 })).sqGo a (s3.get (R.SEQ_RESUME_ADDR a))
    else s3
  s4.waitPoll a

/-- The patch load of sequencer `a` has ended (R149). -/
def State.sqPatchEnd (s : State) (a : Nat) : State := (s.modSq a (fun q => { q with patchDone := true })).sqStart a

/-- Containment reset of sequencer `a`; patch RAM and traps stay (R149, R393). -/
def State.sqContain (s : State) (a : Nat) : State :=
  ((s.sqReset a).set (R.SEQ_STAT_PC a) 0).set (R.SEQ_RESUME_ADDR a) 0

/-- The queue windows at offsets 0x0100 to 0x013F: 0x100 + 4k stages word k of a task, word 3 pushing it; 0x120 + 4k reads
word k of the oldest completion, word 3 popping it (R155). -/
def State.taskWord (s : State) (a k v : Nat) : State :=
  let s1 := s.modSq a (fun q => { q with stage := listSet q.stage k v })
  if k = 3 then
    let q := s1.sq a
    if 64 ≤ q.tasks.length then s1.fault (.seq a) 3 else s1.modSq a (fun x => { x with tasks := x.tasks ++ [q.stage] })
  else s1
def State.doneWord (s : State) (a k : Nat) : Nat × State :=
  match (s.sq a).done with
  | d :: rest => ((d[k]?).getD 0, if k = 3 then s.modSq a (fun q => { q with done := rest }) else s)
  | [] => (0, s)

end Sys2Proof.Machine
end

