-- ==== Sys2Proof/Machine/HostOps.lean ====
section
/-!
DEFINITION. The host side's shared operations (chapters 12 and 13): controllers, queues, command-table slots, statuses,
completions, asynchronous events, namespaces, and deferred write errors.
-/

namespace Sys2Proof.Machine

open Sys2Proof

/-! ### Statuses (SCT × 256 + SC) -/

/-- A status whose DNR, More and CRD the manual does not state. -/
def cst (code : Nat) : Cst := ⟨code, none, none, 0⟩

def scOk : Nat := 0x000
def scOpcode : Nat := 0x001
def scField : Nat := 0x002
def scXfer : Nat := 0x004
def scAborted : Nat := 0x007
def scSqDeleted : Nat := 0x008
def scNs : Nat := 0x00B
def scSequence : Nat := 0x00C
def scSglSeg : Nat := 0x00D
def scSglType : Nat := 0x011
def scPrp : Nat := 0x013
def scDenied : Nat := 0x015
def scPreempted : Nat := 0x01E
def scProtected : Nat := 0x020
def scRange : Nat := 0x080
def scCapacity : Nat := 0x081
def scNotReady : Nat := 0x082
def scConflict : Nat := 0x083
def scWriteFault : Nat := 0x280
def scUnrecovered : Nat := 0x281
def scGuard : Nat := 0x282
def scAppTag : Nat := 0x283
def scRefTag : Nat := 0x284
def scAccessDenied : Nat := 0x286

/-- Vendor statuses (Table 12-16). -/
def stDeferred : Cst := ⟨0x780, some false, some true, 0⟩
def stDiscarded : Cst := ⟨0x781, some false, some true, 0⟩
def stMode : Cst := ⟨0x782, some true, some false, 0⟩
def stPool (acre : Bool) : Cst := ⟨0x783, some false, some false, if acre then 1 else 0⟩

/-- A result that moves no data. -/
def resOf (st : Cst) : CmdRes := ⟨st, 0, 0, []⟩

/-! ### Controllers, queues and slots -/

def State.modHif (s : State) (f : HifSt → HifSt) : State := { s with hif := f s.hif }
def State.ctl (s : State) (n : Nat) : Ctl := (s.hif.ctls[n]?).getD Ctl.init
def State.modCtl (s : State) (n : Nat) (f : Ctl → Ctl) : State := s.modHif (fun h => { h with ctls := listMod h.ctls n f })

/-- Controller `n` exists (R289). -/
def State.ctlExists (s : State) (n : Nat) : Bool := n == 0 || (n == 1 && s.flag R.HIF_CFG_CTRL1)

/-- The controllers that exist. -/
def State.ctlsHere (s : State) : List Nat := (List.range 2).filter (fun n => s.ctlExists n)

/-- The command in slot `no`. -/
def State.cmd (s : State) (no : Nat) : Option CmdSlot := s.hif.slots.find? (fun c => c.no == no)
def State.modCmd (s : State) (no : Nat) (f : CmdSlot → CmdSlot) : State :=
  s.modHif (fun h => { h with slots := h.slots.map (fun c => if c.no = no then f c else c) })

/-- Slots held by controller `n`. -/
def State.slotsOf (s : State) (n : Nat) : Nat := (s.hif.slots.filter (fun c => c.ctrl == n)).length

/-- The HIF status registers follow the table and the controllers (Tables 12-20 and 12-22). -/
def State.hifShow (s : State) : State :=
  let one := fun (t : State) (n : Nat) =>
    let c := t.ctl n
    (((t.set (R.HIF_CTL_STAT_SLOTS n) (t.slotsOf n)).setFlag (R.HIF_CTL_STAT_EN n) (bitOf c.cc 0)).setFlag
      (R.HIF_CTL_STAT_RDY n) c.rdy).setFlag (R.HIF_CTL_STAT_SHUT n) (c.shst == 1)
  one (one (s.set R.HIF_CT_STAT_USED s.hif.slots.length) 0) 1

/-- Queues by identifier. -/
def Ctl.sqOf (c : Ctl) (y : Nat) : Option SqSt := c.sqs.find? (fun q => q.id == y)
def Ctl.cqOf (c : Ctl) (y : Nat) : Option CqSt := c.cqs.find? (fun q => q.id == y)
def Ctl.modSq (c : Ctl) (y : Nat) (f : SqSt → SqSt) : Ctl := { c with sqs := c.sqs.map (fun q => if q.id = y then f q else q) }
def Ctl.modCq (c : Ctl) (y : Nat) (f : CqSt → CqSt) : Ctl := { c with cqs := c.cqs.map (fun q => if q.id = y then f q else q) }

/-- The value that the latest Set with a smaller stamp gave (R308); the list is latest first. -/
def atStamp {α : Type} (h : List (Nat × α)) (stamp : Nat) (d : α) : α :=
  match h.find? (fun e => decide (e.1 < stamp)) with
  | some e => e.2
  | none => d

/-- Adds a Set to such a list. -/
def addStamp {α : Type} (h : List (Nat × α)) (stamp : Nat) (x : α) : List (Nat × α) :=
  h.filter (fun e => decide (stamp < e.1)) ++ [(stamp, x)] ++ h.filter (fun e => decide (e.1 < stamp))

/-- The command belongs to an ordered queue (R308, R321). -/
def State.orderedCmd (s : State) (c : CmdSlot) : Bool :=
  match (s.ctl c.ctrl).sqOf c.sq with
  | some q => atStamp q.ord c.stamp false
  | none => false

/-! ### Command fields (NVM command set) -/

def CmdSlot.dw (c : CmdSlot) (k : Nat) : Nat := (c.e.dw[k]?).getD 0
def CmdSlot.slba (c : CmdSlot) : Nat := c.dw 0 + 2 ^ 32 * c.dw 1
def CmdSlot.nlb (c : CmdSlot) : Nat := bitsOf (c.dw 2) 0 16 + 1
def CmdSlot.fua (c : CmdSlot) : Bool := bitOf (c.dw 2) 30
def CmdSlot.isIo (c : CmdSlot) : Bool := c.sq != 0

/-- The opcode takes part in R318 as a write, or as a read. -/
def isWriteOp (o : Nat) : Bool := o == 0x01 || o == 0x08 || o == 0x09
def isReadOp (o : Nat) : Bool := o == 0x02 || o == 0x0C
def isResvOp (o : Nat) : Bool := o == 0x0D || o == 0x0E || o == 0x11 || o == 0x15

/-! ### Namespaces -/

def State.nsOf (s : State) (id : Nat) : Option NsSt := s.hif.nss.find? (fun n => n.id == id)
def State.modNs (s : State) (id : Nat) (f : NsSt → NsSt) : State :=
  s.modHif (fun h => { h with nss := h.nss.map (fun n => if n.id = id then f n else n) })

/-- The compression level in force for commands fetched at `stamp`: the latest Set, else the namespace's default, else the
Manifest's. -/
def NsSt.level (n : NsSt) (stamp : Nat) : Nat :=
  let l := atStamp n.lvl stamp n.lvlDef
  if l = 0 then 1 + Config.defaultLevel % 8 else l

/-- Bytes of a logical block, logical blocks of a sector, and metadata bytes (R319, R342). -/
def NsSt.blockBytes (n : NsSt) : Nat := if n.fmt = 2 then 512 else 4096
def NsSt.perSec (n : NsSt) : Nat := if n.fmt = 2 then 8 else 1
def NsSt.hostBytes (n : NsSt) : Nat := if n.fmt = 2 then 512 else if n.fmt = 1 then 4104 else 4096

/-- The namespace is attached to controller `k`. -/
def NsSt.attached (n : NsSt) (k : Nat) : Bool := (n.att[k]?).getD false

/-- The sectors that the blocks `slba` to `slba + nlb − 1` touch. -/
def NsSt.sectors (n : NsSt) (slba nlb : Nat) : List Nat :=
  let a := slba / n.perSec
  (List.range ((slba + nlb + n.perSec - 1) / n.perSec - a)).map (· + a)

/-- The host behind controller `k`: its host identifier, else the controller itself. -/
def State.hostOf (s : State) (k : Nat) : Nat :=
  let i := (s.ctl k).hostId
  if i = 0 then 2 ^ 128 + k else i

/-! ### Ending and posting (R303, R309, R320, R321) -/

/-- Bits [35:4] of the fetch stamp, where Completion Stamp applies to the command (R309). -/
def State.stampDw (s : State) (c : CmdSlot) : Nat :=
  if c.isIo && (c.e.opc == 0x01 || c.e.opc == 0x02) && atStamp (s.ctl c.ctrl).stampHist c.stamp false
  then bitsOf c.stamp 4 32 else 0

/-- The result of the command in slot `no` is set, and it may be posted. -/
def State.endSlot (s : State) (no : Nat) (r : CmdRes) : State :=
  match s.cmd no with
  | none => s
  | some c =>
    if c.res.isSome then s
    else
      let r1 : CmdRes := if c.isIo && (c.e.opc == 0x01 || c.e.opc == 0x02) then { r with dw0 := s.stampDw c } else r
      let s1 := (s.modCmd no (fun x => { x with res := some r1 })).modHif (fun h => { h with ended := h.ended ++ [no] })
      let s2 := if r.st.code = scOk then s1 else s1.modCtl c.ctrl (fun x => { x with
        errLog := ((c.stamp, r.st.code) :: x.errLog).take 64 })
      if c.isIo then { s2 with hif := { s2.hif with ioDone := s2.now }, sys := { s2.sys with lastIo := s2.now } } else s2

/-- Preempt and Abort commands that took effect end once no command of a preempted host that they wait for is still to take
effect (R337). -/
def State.acquireCheck (s : State) : State :=
  let open_ := fun (k : Nat) => match s.cmd k with
    | some d => d.res.isNone && !d.effect
    | none => false
  (s.hif.slots.filter (fun c => c.isIo && c.e.opc == 0x11 && c.effect && c.res.isNone && !c.left.any open_)).foldl
    (fun (t : State) c => t.endSlot c.no (resOf (cst scOk))) s

/-- The command in slot `no` ends. -/
def State.finish (s : State) (no : Nat) (r : CmdRes) : State := (s.endSlot no r).acquireCheck

/-- Ends a command with a status alone. -/
def State.finishSt (s : State) (no : Nat) (st : Cst) : State := s.finish no (resOf st)

/-- An earlier command of the same ordered queue is not yet posted (R321). -/
def State.orderHeld (s : State) (c : CmdSlot) : Bool :=
  s.orderedCmd c && s.hif.slots.any (fun d => d.ctrl == c.ctrl && d.sq == c.sq && decide (d.stamp < c.stamp) && s.orderedCmd d)

/-- The completion queue of a command. -/
def State.cqFor (s : State) (c : CmdSlot) : Option CqSt :=
  match (s.ctl c.ctrl).sqOf c.sq with
  | some q => (s.ctl c.ctrl).cqOf q.cq
  | none => none

/-- A free entry of a completion queue. -/
def CqSt.room (q : CqSt) : Bool := decide (q.posted.length + 1 < q.size)

/-- The sizes of the memory windows in bytes: each is a 64-bit BAR pair (Table 12-3). -/
def memWindows : List Nat := [16384, 65536, 134217728]

/-- The doorbell at an offset of window 0: its queue, and whether it is that of a completion queue (R294). -/
def doorbellAt (ofs : Nat) : Option (Nat × Bool) :=
  if 0x1000 ≤ ofs ∧ ofs < 0x1800 ∧ ofs % 4 = 0 then some ((ofs - 0x1000) / 8, decide (ofs % 8 = 4)) else none

/-- A controller register of window 0 that the host reads: CAP and VS with the values of Table 12-4, CAP.TO 3 (R52, R296), CC,
and CSTS with RDY, CFS and SHST. -/
def State.ctlReg (s : State) (n ofs : Nat) : Nat :=
  let c := s.ctl n
  match ofs with
  | 0x00 => 0x03010FFF
  | 0x04 => 0x00000030
  | 0x08 => 0x00020100
  | 0x14 => c.cc
  | 0x1C => b2n c.rdy + 2 * b2n c.cfs + 4 * c.shst
  | _ => 0

/-- Posts the completion of slot `no` where it has ended, is first of its completion queue and finds a free entry; the
slot is then free (R303). -/
def State.cmdPost (s : State) (no : Nat) : State :=
  match s.cmd no with
  | none => s
  | some c =>
    match c.res, s.cqFor c, (s.ctl c.ctrl).sqOf c.sq with
    | some r, some q, some sq =>
      let before := (s.hif.ended.takeWhile (fun k => k != no)).any (fun k =>
        match s.cmd k with
        | some d => d.ctrl == c.ctrl && (match s.cqFor d with
          | some x => x.id == q.id
          | none => false) && !s.orderHeld d
        | none => false)
      if s.orderHeld c || before || !q.room then s
      else
        let s1 := s.modCtl c.ctrl (fun x =>
          let y := x.modCq q.id (fun z => { z with posted := z.posted ++ [⟨c.sq, c.e.cid, sq.head, r, s.now⟩] })
          if q.ien then { y with vecs := if y.vecs.contains q.vec then y.vecs else q.vec :: y.vecs } else y)
        (s1.modHif (fun h => { h with
          slots := h.slots.filter (fun d => d.no != no), ended := h.ended.filter (· != no) })).hifShow
    | _, _, _ => s

/-- Posts what can be posted of completion queue `y` of controller `n`, in order. -/
def State.cqDrain (s : State) (n y : Nat) : State :=
  (s.hif.ended.filter (fun k => match s.cmd k with
    | some c => c.ctrl == n && (match s.cqFor c with
      | some q => q.id == y
      | none => false)
    | none => false)).foldl (fun (t : State) k => t.cmdPost k) s

/-- Firmware lets go of a buffer it holds: the final owner frees it, any other holder releases it. -/
def State.letGo (s : State) (h : Nat) : State :=
  match s.entryRead (hPool h) (hIndex h) with
  | (some e, s1) =>
    if (eHolds e 0xC0).isNone || eGen e != hGen h || !eAlloc e then s1
    else s1.depSend (if eHolds e 0xC0 = some (eFinal e) then 4 else 3) 0xC0 h false
  | (none, s1) => s1

/-- Firmware lets go of the Depot buffers a command holds. -/
def State.freeBufs (s : State) (hs : List Nat) : State := hs.foldl (fun (t : State) h => t.letGo h) s

/-- The command leaves the table without a completion (R331). -/
def State.cmdDrop (s : State) (no : Nat) : State :=
  match s.cmd no with
  | none => s
  | some c => ((s.freeBufs c.bufs).modHif (fun h => { h with
      slots := h.slots.filter (fun d => d.no != no), ended := h.ended.filter (· != no) })).hifShow

/-! ### Asynchronous events (R313) -/

/-- The host's mask of notices lets this event through (feature 0Bh). -/
def evEnabled (cfg : Nat) (e : AsyncEv) : Bool :=
  if e.ty = 2 ∧ e.info = 0 then bitOf cfg 8
  else if e.ty = 2 ∧ e.info = 1 then bitOf cfg 9
  else true

/-- An event on controller `n`: it ends the Asynchronous Event Request fetched first, or is held. -/
def State.raiseEv (s : State) (n : Nat) (e : AsyncEv) : State :=
  let c := s.ctl n
  if !s.ctlExists n || !evEnabled (cnt c.feats 0x0B) e then s
  else
    match s.hif.slots.find? (fun d => d.ctrl == n && !d.isIo && d.e.opc == 0x0C && d.res.isNone && d.started) with
    | some d => s.finish d.no ⟨cst scOk, e.ty + 2 ^ 8 * e.info + 2 ^ 16 * e.page, 0, []⟩
    | none =>
      if c.events.any (fun x => x.ty == e.ty && x.info == e.info) then s
      else s.modCtl n (fun x => { x with events := x.events ++ [e] })

/-- An event of the device. -/
def State.raiseBoth (s : State) (e : AsyncEv) : State := (s.raiseEv 0 e).raiseEv 1 e

/-! ### SMART events (Tables 12-17, 12-18) -/

/-- The composite temperature in °C: ENV when it is valid, else TJ (Table 12-18). -/
def State.composite (s : State) : Int :=
  if s.flag R.SYS_TEMP_ENV_VALID then s.getInt R.SYS_TEMP_ENV else (s.get R.SYS_TEMP_TJ : Nat)

/-- The temperature threshold of controller `n`: sensor `k` (0 composite, 1 junction, 2 enclosure), over or under. -/
def State.threshold (s : State) (n k under : Nat) : Option Int :=
  let v := cnt (s.ctl n).feats (0x10000 + 2 * k + under)
  if v = 0 then none else some ((v : Int) - 1 - 273)
def State.sensor (s : State) (k : Nat) : Int :=
  if k = 0 then s.composite else if k = 1 then (s.get R.SYS_TEMP_TJ : Nat) else s.getInt R.SYS_TEMP_ENV

/-- A threshold of controller `n` is crossed now. -/
def State.crossed (s : State) (n : Nat) : Bool :=
  (List.range 3).any (fun k => (match s.threshold n k 0 with
    | some t => decide (t ≤ s.sensor k)
    | none => false) || (match s.threshold n k 1 with
    | some t => decide (s.sensor k ≤ t)
    | none => false))

/-- The critical warnings of controller `n`: bit 1 a temperature, bit 2 degraded. -/
def State.critical (s : State) (n : Nat) : Nat :=
  2 * b2n (s.flag R.SYS_TEMP_HOT || s.crossed n) + 4 * b2n (s.flag R.SYS_MODE_DEG || s.mode == mLIMP)

/-- Events of a change of the warnings and of a threshold crossing (Table 12-17), each where the host's configuration
(feature 0Bh) lets that warning through. -/
def State.smartEvents (old s : State) : State :=
  (List.range 2).foldl (fun (t : State) n =>
    let cfg := cnt (t.ctl n).feats 0x0B
    let gained := s.critical n - Nat.land (s.critical n) (old.critical n)
    let t1 := if Nat.land gained cfg ≠ 0 then t.raiseEv n ⟨1, 0, 2⟩ else t
    if s.crossed n && !old.crossed n && bitOf cfg 1 then t1.raiseEv n ⟨1, 1, 2⟩ else t1) s

/-! ### Deferred write errors (R326 to R329) -/

/-- Bytes of an entry of log page 0xC2. -/
def DefErr.bytes (d : DefErr) : List Byte :=
  leBytes 4 d.ns ++ leBytes 2 d.cause ++ leBytes 2 0 ++ leBytes 8 d.slba ++ leBytes 4 d.nlb ++ leBytes 4 0 ++ leBytes 8 d.stamp

/-- Logical blocks of a namespace become unreadable; `kept`: the mark is kept in the system tracks. -/
def State.markUnread (s : State) (ns slba nlb : Nat) (kept : Bool) : State :=
  s.modHif (fun h => { h with
    unread := h.unread.filter (fun u => !(u.1 == ns && decide (slba ≤ u.2.1) && decide (u.2.1 < slba + nlb)))
      ++ (List.range nlb).map (fun i => (ns, slba + i, kept)) })

/-- Blocks that a write covers are readable again (R328). -/
def State.clearUnread (s : State) (ns slba nlb : Nat) : State :=
  s.modHif (fun h => { h with
    unread := h.unread.filter (fun u => !(u.1 == ns && decide (slba ≤ u.2.1) && decide (u.2.1 < slba + nlb))) })

/-- A deferred write error: log entry, pending-report flag, event, Ledger record, unreadable blocks; a Flush that waits
for the write reports it instead of the flag (R325 to R329). -/
def State.deferError (s : State) (d : DefErr) : State :=
  let kept := d.cause != 2
  let full := decide (256 ≤ s.hif.defErrs.length)
  let s1 := s.modHif (fun h => { h with
    defErrs := (if full then h.defErrs else h.defErrs ++ [d]), defLost := (if full then satN (h.defLost + 1) (2 ^ 32 - 1)
      else h.defLost), defTotal := satN (h.defTotal + 1) (2 ^ 32 - 1) })
  let waits := fun (c : CmdSlot) => c.isIo && c.e.opc == 0x00 && c.res.isNone && c.started && decide (d.stamp < c.stamp)
    && (c.e.nsid == d.ns || c.e.nsid == 0xFFFFFFFF)
  let s2 := if s1.hif.slots.any waits then
      s1.modHif (fun h => { h with slots := h.slots.map (fun c => if waits c then { c with failed := true } else c) })
    else s1.modNs d.ns (fun n => { n with pend := some s1.now })
  ((s2.markUnread d.ns d.slba d.nlb kept).raiseBoth ⟨7, 0x80, 0xC2⟩).ldgRaise 0x2006 d.bytes

/-! ### The cache -/

/-- The cached sector of a namespace. -/
def State.cached (s : State) (ns sec : Nat) : Option CacheSec := s.hif.cache.find? (fun x => x.ns == ns && x.sec == sec)

/-- Drops a cached sector and frees its buffer. -/
def State.uncache (s : State) (ns sec : Nat) : State :=
  match s.cached ns sec with
  | none => s
  | some x => (s.freeBufs [x.handle]).modHif (fun h =>
    let c := h.cache.filter (fun y => !(y.ns == ns && y.sec == sec))
    { h with cache := c, destaging := h.destaging && !c.isEmpty })

/-- The runs of neighbouring blocks that one write filled: first block, length and stamp; stamp 0 is no write. -/
def runsOf : Nat → List Nat → List (Nat × Nat × Nat)
  | _, [] => []
  | i, st :: rest =>
    match runsOf (i + 1) rest with
    | (j, n, t) :: more => if t = st then (i, n + 1, t) :: more else (i, 1, st) :: (j, n, t) :: more
    | [] => [(i, 1, st)]

/-- A cached sector becomes deferred write errors, one for each run of blocks of one write (R326). -/
def State.loseSector (s : State) (x : CacheSec) (cause : Nat) : State :=
  match s.nsOf x.ns with
  | none => s.uncache x.ns x.sec
  | some n =>
    ((runsOf 0 x.stamps).filter (fun r => r.2.2 != 0)).foldl (fun (t : State) r =>
      t.deferError ⟨x.ns, cause, x.sec * n.perSec + r.1, r.2.1, r.2.2⟩) (s.uncache x.ns x.sec)

/-- Every cached sector with a write fetched before `t` becomes a deferred write error. -/
def State.loseCache (s : State) (t cause : Nat) : State :=
  (s.hif.cache.filter (fun x => decide (x.first < t))).foldl (fun (u : State) x => u.loseSector x cause) s

/-- Content of a sector on the medium: what was last written there, else content that the manual does not give. -/
def State.onMedium (s : State) (ns sec : Nat) : List Byte :=
  match s.hif.medium.find? (fun e => e.1 == (ns, sec)) with
  | some e => e.2
  | none => (List.range 4104).map (fun i => Config.mediumByte ns sec i)

/-- Writes a sector of the medium. -/
def State.setMedium (s : State) (ns sec : Nat) (bs : List Byte) : State :=
  s.modHif (fun h => { h with medium := ((ns, sec), bs) :: h.medium.filter (fun e => e.1 != (ns, sec)) })

end Sys2Proof.Machine
end

