-- ==== Sys2Proof/Machine/Inflate.lean ====
section
/-!
DEFINITION. The RFC 1951 DEFLATE decoder that R355 names: stored, fixed and dynamic blocks, with the stream errors of
Table 14-8.
-/

namespace Sys2Proof.Machine

open Sys2Proof

/-- How a stream ends: the codes of Table 14-8 that the stream itself decides. -/
inductive InfErr
  | badCode | distFar | lenShort | lenLong
  deriving DecidableEq, Repr

/-- A stream being read: the bits ahead, the data so far with the newest byte first, and the number of output bytes. -/
structure InfSt where
  bits : List Bool
  out : List Byte
  n : Nat
  deriving DecidableEq, Repr

/-- The bits of bytes, least significant first. -/
def bitsOfBytes : List Byte → List Bool
  | [] => []
  | b :: bs => (List.range 8).map (fun i => b.getLsbD i) ++ bitsOfBytes bs

/-- A number of `k` bits, least significant first; a stream that breaks off ends short. -/
def takeNum : Nat → List Bool → Except InfErr (Nat × List Bool)
  | 0, bs => .ok (0, bs)
  | _ + 1, [] => .error .lenShort
  | k + 1, b :: bs => do
    let (n, r) ← takeNum k bs
    return (b2n b + 2 * n, r)

/-- The number of codes of length `l`. -/
def lenCount (lens : List Nat) (l : Nat) : Nat := lens.countP (· == l)

/-- The symbols of a length, in order: the canonical code of RFC 1951 takes them in rising order within a length. -/
def symsOfLen (lens : List Nat) (l : Nat) : List Nat := (List.range lens.length).filter (fun i => lens[i]? == some l)

/-- Decodes one symbol of a canonical code, its bits most significant first: at length `l`, `code` is the value so far
and `first` the first code of this length. -/
def takeSymFrom (lens : List Nat) : Nat → Nat → Nat → Nat → List Bool → Except InfErr (Nat × List Bool)
  | 0, _, _, _, _ => .error .badCode
  | _ + 1, _, _, _, [] => .error .lenShort
  | fuel + 1, l, code, first, b :: bs =>
    let c := 2 * code + b2n b
    let f := 2 * first
    let k := lenCount lens l
    if c < f + k then
      match (symsOfLen lens l)[c - f]? with
      | some x => .ok (x, bs)
      | none => .error .badCode
    else takeSymFrom lens fuel (l + 1) c (f + k) bs

/-- Decodes one symbol of the canonical code with these lengths. -/
def takeSym (lens : List Nat) (bs : List Bool) : Except InfErr (Nat × List Bool) := takeSymFrom lens 15 1 0 0 bs

/-- The code lengths do not claim more codes than there are. -/
def lensOk (lens : List Nat) : Bool :=
  decide (((List.range 15).map (fun i => lenCount lens (i + 1) * 2 ^ (14 - i))).sum ≤ 2 ^ 15)

/-- Base length and extra bits of length codes 257 to 285 (RFC 1951). -/
def lenTable : List (Nat × Nat) :=
  [(3, 0), (4, 0), (5, 0), (6, 0), (7, 0), (8, 0), (9, 0), (10, 0), (11, 1), (13, 1), (15, 1), (17, 1), (19, 2), (23, 2),
   (27, 2), (31, 2), (35, 3), (43, 3), (51, 3), (59, 3), (67, 4), (83, 4), (99, 4), (115, 4), (131, 5), (163, 5),
   (195, 5), (227, 5), (258, 0)]

/-- Base distance and extra bits of distance code `d` (RFC 1951). -/
def distEntry (d : Nat) : Nat × Nat := if d < 4 then (d + 1, 0) else ((2 + d % 2) * 2 ^ (d / 2 - 1) + 1, d / 2 - 1)

/-- The fixed code's lengths (RFC 1951). -/
def fixedLit : List Nat :=
  List.replicate 144 8 ++ List.replicate 112 9 ++ List.replicate 24 7 ++ List.replicate 8 8
def fixedDist : List Nat := List.replicate 30 5

/-- Copies `k` bytes from distance `d`; the newest byte stands first. -/
def copyBack (d : Nat) : Nat → List Byte → List Byte
  | 0, out => out
  | k + 1, out => copyBack d k (out.getD (d - 1) 0 :: out)

/-- The most a decompressor lane produces (R355). -/
def infMax : Nat := 1048576

/-- Decodes the symbols of one block, at most `fuel` of them. -/
def infSyms (lit dist : List Nat) : Nat → InfSt → Except InfErr InfSt
  | 0, _ => .error .badCode
  | fuel + 1, st => do
    let (x, bs) ← takeSym lit st.bits
    if x < 256 then
      if infMax ≤ st.n then .error .lenLong
      else infSyms lit dist fuel ⟨bs, BitVec.ofNat 8 x :: st.out, st.n + 1⟩
    else if x = 256 then .ok { st with bits := bs }
    else
      match lenTable[x - 257]? with
      | none => .error .badCode
      | some (lb, le) =>
        let (lx, bs1) ← takeNum le bs
        let (d, bs2) ← takeSym dist bs1
        if 30 ≤ d then .error .badCode
        else
          let (dx, bs3) ← takeNum (distEntry d).2 bs2
          let len := lb + lx
          let dd := (distEntry d).1 + dx
          if st.out.length < dd then .error .distFar
          else if infMax < st.n + len then .error .lenLong
          else infSyms lit dist fuel ⟨bs3, copyBack dd len st.out, st.n + len⟩

/-- Reads code-length code lengths into the places named (RFC 1951's order). -/
def takeClens : List Nat → List Bool → List (Nat × Nat) → Except InfErr (List (Nat × Nat) × List Bool)
  | [], bs, acc => .ok (acc, bs)
  | p :: ps, bs, acc => do
    let (v, r) ← takeNum 3 bs
    takeClens ps r ((p, v) :: acc)

/-- The order of the code-length code lengths (RFC 1951). -/
def clenOrder : List Nat := [16, 17, 18, 0, 8, 7, 9, 6, 10, 5, 11, 4, 12, 3, 13, 2, 14, 1, 15]

/-- Reads code lengths until `want` are there; the newest stands first. -/
def takeLens (cl : List Nat) (want : Nat) : Nat → List Bool → List Nat → Except InfErr (List Nat × List Bool)
  | 0, bs, acc => if acc.length = want then .ok (acc.reverse, bs) else .error .badCode
  | fuel + 1, bs, acc =>
    if acc.length = want then .ok (acc.reverse, bs)
    else if want < acc.length then .error .badCode
    else do
      let (x, r) ← takeSym cl bs
      if x < 16 then takeLens cl want fuel r (x :: acc)
      else
        let (bits, base) := if x = 16 then (2, 3) else if x = 17 then (3, 3) else (7, 11)
        let (v, r2) ← takeNum bits r
        if x = 16 then
          match acc with
          | [] => .error .badCode
          | y :: _ => takeLens cl want fuel r2 (List.replicate (base + v) y ++ acc)
        else takeLens cl want fuel r2 (List.replicate (base + v) 0 ++ acc)

/-- The two codes of a dynamic block. -/
def takeDynamic (bs : List Bool) : Except InfErr (List Nat × List Nat × List Bool) := do
  let (hlit, r1) ← takeNum 5 bs
  let (hdist, r2) ← takeNum 5 r1
  let (hclen, r3) ← takeNum 4 r2
  let (pairs, r4) ← takeClens (clenOrder.take (hclen + 4)) r3 []
  let cl := (List.range 19).map (fun i => ((pairs.find? (fun e => e.1 == i)).map (·.2)).getD 0)
  let want := hlit + 257 + hdist + 1
  if !lensOk cl || 286 < hlit + 257 then .error .badCode
  else
    let (ls, r5) ← takeLens cl want want r4 []
    let lit := ls.take (hlit + 257)
    let dist := ls.drop (hlit + 257)
    if lensOk lit && lensOk dist then .ok (lit, dist, r5) else .error .badCode

/-- The bytes of a stored block, appended. -/
def takeStored : Nat → InfSt → Except InfErr InfSt
  | 0, st => .ok st
  | k + 1, st => do
    let (v, r) ← takeNum 8 st.bits
    if infMax ≤ st.n then .error .lenLong else takeStored k ⟨r, BitVec.ofNat 8 v :: st.out, st.n + 1⟩

/-- One block: whether it was the last, and the stream after it. -/
def infBlock (st : InfSt) : Except InfErr (Bool × InfSt) := do
  let (last, r1) ← takeNum 1 st.bits
  let (ty, r2) ← takeNum 2 r1
  if ty = 0 then
    let (len, r4) ← takeNum 16 (r2.drop (r2.length % 8))
    let (nlen, r5) ← takeNum 16 r4
    if len + nlen ≠ 65535 then .error .badCode
    else
      let t ← takeStored len { st with bits := r5 }
      return (last == 1, t)
  else if ty = 1 then
    let t ← infSyms fixedLit fixedDist r2.length { st with bits := r2 }
    return (last == 1, t)
  else if ty = 2 then
    let (lit, dist, r3) ← takeDynamic r2
    let t ← infSyms lit dist (r3.length + 1) { st with bits := r3 }
    return (last == 1, t)
  else .error .badCode

/-- The blocks of a stream up to the last, at most `fuel`. -/
def infBlocks : Nat → InfSt → Except InfErr InfSt
  | 0, _ => .error .lenShort
  | fuel + 1, st => do
    let (last, t) ← infBlock st
    if last then .ok t else infBlocks fuel t

/-- Expands a stream with the history before it: the 1,048,576 output bytes, or the stream error (R355). -/
def inflate (hist stream : List Byte) : Except InfErr (List Byte) :=
  match infBlocks (8 * stream.length + 1) ⟨bitsOfBytes stream, hist.reverse, 0⟩ with
  | .error e => .error e
  | .ok st =>
    if 8 ≤ st.bits.length then .error .lenLong
    else if st.n < infMax then .error .lenShort
    else .ok (st.out.take infMax).reverse

end Sys2Proof.Machine
end

