-- ==== Sys2Proof/Machine/Container.lean ====
section
/-!
DEFINITION. Stripe containers (chapter 14): the header, what a stripe on the medium reads as, linked runs, and the destage of
a stripe up to its place in a band (R351 to R353, R359 to R364).
-/

namespace Sys2Proof.Machine

open Sys2Proof

/-- A sector's 4,104 bytes of zeros. -/
def zeroSector : List Byte := List.replicate 4104 0

/-- The Route Table index of a stripe. -/
def State.stripeIndex (s : State) (ns stripe : Nat) : Nat := s.get (R.RTE_NS_BASE_BASE (ns - 1)) + stripe

/-- The entry of a stripe as it lies in the table. -/
def State.stripeEntry (s : State) (ns stripe : Nat) : Nat :=
  ofLeBytes (bytesAt 0 s.mem (s.rtBase + 8 * s.stripeIndex ns stripe) 8)

/-! ### The header (Table 14-6) -/

/-- The header of a container: level, LPOS, namespace, stripe, CLEN, UCRC, RUN_BACK, CSECT, stream and WSEQ. A container that
is linked has LPOS above 0. -/
def containerHeader (level lpos ns stripe clen ucrc back csect stream wseq : Nat) : List Byte :=
  let h := leBytes 4 0x5C417A0E ++ leBytes 1 1 ++ leBytes 1 level ++ leBytes 1 ((if lpos = 0 then 0 else 1) + 2 * lpos)
    ++ leBytes 1 (ns - 1) ++ leBytes 4 (bitsOf stripe 0 27) ++ leBytes 4 (bitsOf clen 0 20) ++ leBytes 4 ucrc
    ++ leBytes 2 (bitsOf back 0 11) ++ leBytes 2 (bitsOf csect 0 9) ++ leBytes 2 stream ++ List.replicate 6 0
    ++ leBytes 8 wseq ++ List.replicate 20 0
  h ++ leBytes 4 (crc32 h)

/-- A number in a header. -/
def hdrNat (h : List Byte) (i k : Nat) : Nat := ofLeBytes ((h.drop i).take k)

/-- MAGIC, VERSION and HCRC of a header match. -/
def hdrSound (h : List Byte) : Bool :=
  hdrNat h 0 4 == 0x5C417A0E && hdrNat h 4 1 == 1 && hdrNat h 60 4 == crc32 (h.take 60)

/-- NSI and STRIPE of a header name the entry that is read. -/
def hdrNames (h : List Byte) (ns stripe : Nat) : Bool := hdrNat h 7 1 == ns - 1 && bitsOf (hdrNat h 8 4) 0 27 == stripe

/-- CSECT of a stream of CLEN bytes (R352). -/
def csectOf (clen : Nat) : Nat := (64 + clen + 4095) / 4096

/-- A Route Table entry (Table 14-3). -/
def rtEntry (ofs band nsect st lpos back : Nat) : Nat :=
  ofs % 2 ^ 24 + band % 2 ^ 16 * 2 ^ 24 + nsect % 2 ^ 8 * 2 ^ 40 + st % 4 * 2 ^ 48 + lpos % 8 * 2 ^ 50 + back % 2 ^ 11 * 2 ^ 53

/-! ### Reading a stripe (R351, R358, R361) -/

/-- A sector of a band on the medium; none where no container sector has been written. -/
def State.bandSector (s : State) (b k : Nat) : Option (List Byte) :=
  match s.unitSlot b k with
  | some p => (s.hif.phys.find? (fun e => e.1 == p)).map (·.2)
  | none => none

/-- `n` sectors of a band from usable slot `k`. -/
def State.bandSectors (s : State) (b k : Nat) : Nat → Option (List Byte)
  | 0 => some []
  | n + 1 =>
    match s.bandSector b k, s.bandSectors b (k + 1) n with
    | some x, some y => some (x ++ y)
    | _, _ => none

/-- The container at the front of `bs` expanded with its history: none where its header, its stream or its CRC fails. -/
def expandFront (hist bs : List Byte) : Option (List Byte) :=
  let h := bs.take 64
  if !hdrSound h then none
  else
    match inflate hist ((bs.drop 64).take (bitsOf (hdrNat h 12 4) 0 20)) with
    | .ok out => if crc32 out = hdrNat h 16 4 then some out else none
    | .error _ => none

/-- The containers of a run in order: each is found by the CSECT of the header before it and expanded with the last 32,768
bytes of the output before it, HOFS 1,015,808; the output of container `k`, whose header names the entry (R361). -/
def expandRun (ns stripe : Nat) : Nat → List Byte → List Byte → Option (List Byte)
  | 0, hist, bs => if hdrNames (bs.take 64) ns stripe then expandFront hist bs else none
  | k + 1, hist, bs =>
    match expandFront hist bs with
    | some out => expandRun ns stripe k (out.drop 1015808) (bs.drop (4096 * bitsOf (hdrNat bs 22 2) 0 9))
    | none => none

/-- A COMPRESSED stripe: the sectors from OFFSET − RUN_BACK to OFFSET + NSECT, expanded up to LPOS (R351, R361). -/
def State.stripeData (s : State) (ns stripe e : Nat) : Option (List Byte) :=
  match s.bandSectors (rtBand e) (rtOffset e - rtRunBack e) (rtRunBack e + rtNsect e + 1) with
  | some bs => expandRun ns stripe (rtLpos e) [] bs
  | none => none

/-- Sector `i` of a stripe beneath the cache: zeros, the sector itself, or its part of the expanded stripe (R351). None where
it cannot be read. -/
def State.stripeSector (s : State) (ns stripe i : Nat) : Option (List Byte) :=
  let e := s.stripeEntry ns stripe
  if rtState e = 0 then some zeroSector
  else if rtState e = 2 then (s.bandSector (rtBand e) (rtOffset e + i)).map (fun x => x.take 4096 ++ List.replicate 8 0)
  else (s.stripeData ns stripe e).map (fun d => (d.drop (4096 * i)).take 4096 ++ List.replicate 8 0)

/-! ### Places in the packed pool (R359, R363) -/

/-- OPEN bands, in all and on actuator `a`. -/
def State.openBands (s : State) : List Nat := (List.range s.rte.bands.length).filter (fun b => (s.band b).st == 1)

/-- Firmware may take a FREE band of actuator `a` for appending: at most 16 OPEN bands, at most 4 on one actuator. -/
def State.mayOpen (s : State) (a : Nat) : Bool :=
  decide (s.openBands.length < 16) && decide ((s.openBands.filter (fun b => b % 4 == a)).length < 4)

/-- The lowest FREE band that holds `k` sectors and may be taken. -/
def State.freeBand (s : State) (k : Nat) : Option Nat :=
  (List.range s.rte.bands.length).find? (fun b => (s.band b).st == 0 && s.mayOpen (b % 4) && decide (k ≤ s.bandSlots b))

/-- `k` sectors are appended at the write pointer of band `b`: their OFFSET, and the pointer advances. -/
def State.appendIn (s : State) (b k : Nat) : Nat × State :=
  let p := if (s.band b).st = 1 then (s.band b).ptr else 0
  (p, s.setBand b ⟨1, p + k⟩)

/-- A container of no open run: the lowest OPEN band that no run holds; one in which it does not fit becomes FULL; else a
FREE band. -/
def State.placeIn (s : State) (k : Nat) : List Nat → Option (Nat × Nat) × State
  | [] =>
    match s.freeBand k with
    | some b => (some (b, (s.appendIn b k).1), (s.appendIn b k).2)
    | none => (none, s)
  | b :: bs =>
    if s.rte.links.any (fun r => r.band == b) then s.placeIn k bs
    else if (s.band b).ptr + k ≤ s.bandSlots b then (some (b, (s.appendIn b k).1), (s.appendIn b k).2)
    else (s.setBand b { s.band b with st := 2 }).placeIn k bs

def State.place (s : State) (k : Nat) : Option (Nat × Nat) × State := s.placeIn k s.openBands

/-! ### Linked streams (R359, R360) -/

/-- The open run of a stream. -/
def State.runOf (s : State) (ns stream : Nat) : Option LinkRun :=
  s.rte.links.find? (fun r => r.ns == ns && r.stream == stream)

/-- A run ends. -/
def State.dropRun (s : State) (ns stream : Nat) : State :=
  { s with rte := { s.rte with links := s.rte.links.filter (fun r => !(r.ns == ns && r.stream == stream)) } }

/-- A stripe may be compressed with LINK = 1 after run `r` in context `ctx`: the namespace has LINK_EN, LPOS is at most 6, and
the largest container fits directly after the run's last one (R359). -/
def State.linkable (s : State) (n : NsSt) (r : LinkRun) (ctx : Nat) : Bool :=
  n.linkEn && decide (r.lpos ≤ 6) && r.ctx == ctx && (s.band r.band).st == 1 && (s.band r.band).ptr == r.stop
    && decide (r.stop + 255 ≤ s.bandSlots r.band)

/-- Where context `k` lies (R360). -/
def State.ctxAddr (s : State) (k : Nat) : Nat :=
  s.get R.CMP_CTX_BASE_LO_BASE * 2 ^ 12 + s.get R.CMP_CTX_BASE_HI_BASE * 2 ^ 32 + 36864 * k

/-- Context `k` is given to a stream: a run of another stream that it held ends, and firmware sets VALID to 0 (R360). -/
def State.ctxGive (s : State) (k ns stream : Nat) : State :=
  let other := fun (r : LinkRun) => r.ctx == k && !(r.ns == ns && r.stream == stream)
  if s.rte.links.any other then
    ({ s with rte := { s.rte with links := s.rte.links.filter (fun r => !other r) } } : State).memWrite
      (s.ctxAddr k + 32768) [0, 0, 0, 0] |>.2
  else s

/-! ### A stripe's destage (R353, R356, R359, R364) -/

/-- The cached sectors of a stripe whose writes no Route Table change covers yet. -/
def State.stripeCache (s : State) (ns stripe : Nat) : List CacheSec :=
  s.hif.cache.filter (fun x => x.ns == ns && x.sec / 256 == stripe && x.journal.isNone)

/-- The stripe of a packed namespace that 256 input handles destage: a cached sector of it lies in its place. -/
def State.destStripe (s : State) (hs : List Nat) : Option (NsSt × Nat) :=
  s.hif.cache.findSome? (fun x =>
    if x.journal.isNone && hs[x.sec % 256]? == some x.handle then
      match s.nsOf x.ns with
      | some n => if n.packed then some (n, x.sec / 256) else none
      | none => none
    else none)

/-- The stream of a stripe: the identifier that every write merged into it carried, else 0. -/
def streamOf (l : List CacheSec) : Nat :=
  match (l.map (·.sids)).flatten with
  | [] => 0
  | k :: ks => if ks.all (· == k) then k else 0

/-- The newest write merged into cached sectors. -/
def newestStamp (l : List CacheSec) : Nat := (l.map (·.stamps)).flatten.foldl max 0

/-- The destage of a stripe as its job begins with configuration `cfg` (R356, R359): the job, and the configuration with the
level in force and LINK where the run goes on. -/
def State.destJob (s : State) (hs : List Nat) (cfg : Nat) : Option (DestJob × Nat) :=
  match s.destStripe hs with
  | none => none
  | some (n, st) =>
    let l := s.stripeCache n.id st
    let id := streamOf l
    let run := if id = 0 then none else s.runOf n.id id
    let link := bitOf cfg 4 && (match run with
      | some r => s.linkable n r (bitsOf cfg 8 6)
      | none => false)
    some (⟨n.id, st, s.stripeEntry n.id st, newestStamp l, id, link, run, hs⟩,
      putBits (putBits cfg 0 4 (n.level (newestStamp l + 1))) 4 1 (b2n link))

/-- A stripe has a place in a band: its destage waits for its sectors and for the UPDATE (R364). -/
def State.destAdd (s : State) (j : DestJob) (new : Nat) (bufs : List Nat) : State :=
  { s with rte := { s.rte with dest := s.rte.dest ++ [⟨s.stripeIndex j.ns j.stripe, j.old, new, bufs, j.since⟩] } }

/-- A stripe is stored RAW (R353): its input buffers are written, the output buffers are freed, and the run it would have
joined ends. -/
def State.destRaw (s : State) (j : DestJob) (outs : List Nat) : State :=
  match ((s.freeBufs outs).dropRun j.ns j.stream).place 256 with
  | (some (b, p), s1) => s1.destAdd j (rtEntry p b 255 2 0 0) j.inputs
  | (none, s1) => s1

/-- The place of a container: after its run's last one; a new run keeps the stream's open band, or takes a band for itself. -/
def State.destPlace (s : State) (j : DestJob) (own : Bool) (k : Nat) : Option (Nat × Nat × Bool) × State :=
  let here := fun (b : Nat) => (some (b, (s.appendIn b k).1, true), (s.appendIn b k).2)
  let other : Option (Nat × Nat × Bool) × State := match (s.dropRun j.ns j.stream).place k with
    | (some (b, p), s1) => (some (b, p, false), s1)
    | (none, s1) => (none, s1)
  match j.run with
  | some r =>
    if j.link then here r.band
    else if own && (s.band r.band).st == 1 && decide ((s.band r.band).ptr + k ≤ s.bandSlots r.band) then here r.band
    else if own then match s.freeBand k with
      | some b => here b
      | none => other
    else other
  | none =>
    if own then match s.freeBand k with
      | some b => here b
      | none => other
    else other

/-- A container is complete (R352, R357, R359): firmware writes its header over bytes 0 to 63 of the first output buffer and
gives it its place; with `save` the stream's run stands at it, in context `ctx`. -/
def State.destPacked (s : State) (j : DestJob) (level clen ucrc ctx : Nat) (save : Bool) (outs : List Nat) : State :=
  let k := csectOf clen
  let own := save && j.stream != 0 && (match s.nsOf j.ns with
    | some n => n.linkEn
    | none => false)
  match s.destPlace j own k with
  | (none, s1) => s1
  | (some (b, p, mine), s1) =>
    let (lpos, back) := match j.run with
      | some r => if j.link then (r.lpos + 1, r.back + r.last) else (0, 0)
      | none => (0, 0)
    let h := containerHeader level lpos j.ns j.stripe clen ucrc back k j.stream s1.rte.wseq
    let s2 := match outs with
      | o :: _ => (s1.depWrite 0xC0 o 0 h).2
      | [] => s1
    let s3 := s2.dropRun j.ns j.stream
    let run := if own && mine then [(⟨j.ns, j.stream, ctx, lpos, back, k, b, p + k⟩ : LinkRun)] else []
    ({ s3 with rte := { s3.rte with links := s3.rte.links ++ run, wseq := s3.rte.wseq + 1 } } : State).destAdd j
      (rtEntry p b (k - 1) 1 lpos back) (outs.take k)

/-- The UPDATE of a destage has been answered: a container's buffers are freed, whether it was mapped or is dead (R364). -/
def State.destClose (s : State) (index new : Nat) : State :=
  let mine := fun (d : Destage) => d.index == index && d.new == new
  let bufs := ((s.rte.dest.filter (fun d => mine d && rtState d.new == 1)).map (·.bufs)).flatten
  ({ s with rte := { s.rte with dest := s.rte.dest.filter (fun d => !mine d) } } : State).freeBufs bufs

end Sys2Proof.Machine
end

