-- ==== Sys2Proof/Machine/Deflate.lean ====
section
/-!
DEFINITION. The DEFLATE stream of a compressor lane (R354, R356): the match search of Table 14-7, the fixed and the dynamic
block, and the stream they make. Which places the hash chain offers, where a block ends before its limit and how a dynamic
block describes its codes are open.
-/

namespace Sys2Proof.Machine

open Sys2Proof

/-- What a block is made of: a literal byte, or a copy of `len` bytes from `dist` back. -/
inductive Tok
  | lit (b : Byte)
  | copy (len dist : Nat)
  deriving DecidableEq, Repr

/-! ### The match search (Table 14-7) -/

/-- Hash-chain depth, lazy matching, and the match length that ends the search, by level. -/
def lzDepth (level : Nat) : Nat := 2 ^ (level - 1)
def lzLazy (level : Nat) : Bool := decide (4 ≤ level)
def lzNice (level : Nat) : Nat :=
  if level ≤ 1 then 16 else if level ≤ 3 then 32 else if level = 4 then 64 else if level = 5 then 128 else 258

/-- The byte that a copy from distance `d` gives at its place `i`: `past` holds the bytes before, newest first. -/
def copyByte (past rest : List Byte) (d i : Nat) : Option Byte := if i < d then past[d - 1 - i]? else rest[i - d]?

/-- How many of the next bytes, at most `k`, a copy from distance `d` gives. -/
def matchLen (past rest : List Byte) (d : Nat) : Nat → Nat → Nat
  | 0, _ => 0
  | k + 1, i =>
    match rest[i]?, copyByte past rest d i with
    | some x, some y => if x = y then 1 + matchLen past rest d k (i + 1) else 0
    | _, _ => 0

/-- A distance that a match may have: from 1 to 32,768 and not before the history (R354). -/
def distOk (past : List Byte) (d : Nat) : Bool := decide (1 ≤ d) && decide (d ≤ 32768) && decide (d ≤ past.length)

/-- The longest match among the distances of a chain, nearest first; a match of `nice` bytes ends the search. -/
def lzBest (past rest : List Byte) (nice : Nat) : List Nat → Nat × Nat → Nat × Nat
  | [], m => m
  | d :: ds, m =>
    let l := if distOk past d then matchLen past rest d 258 0 else 0
    let m1 := if m.1 < l then (l, d) else m
    if nice ≤ m1.1 then m1 else lzBest past rest nice ds m1

/-- The match that a level finds: its length and distance, (0, 0) for none. -/
def lzFind (level : Nat) (past rest : List Byte) : Nat × Nat :=
  lzBest past rest (lzNice level) ((Config.lzChain past rest).take (lzDepth level)) (0, 0)

/-- A place is coded as a literal: no match of 3 bytes, or under lazy matching a longer one at the next place. -/
def lzLiteral (level : Nat) (past : List Byte) (b : Byte) (bs : List Byte) : Bool :=
  let m := lzFind level past (b :: bs)
  decide (m.1 < 3) || (lzLazy level && decide (m.1 < (lzFind level (b :: past) bs).1))

/-- The literals and copies of a block whose bytes are `rest`. -/
def lzToks (level : Nat) : Nat → List Byte → List Byte → List Tok
  | 0, _, _ => []
  | _ + 1, _, [] => []
  | f + 1, past, b :: bs =>
    if lzLiteral level past b bs then .lit b :: lzToks level f (b :: past) bs
    else
      let m := lzFind level past (b :: bs)
      .copy m.1 m.2 :: lzToks level f (((b :: bs).take m.1).reverse ++ past) ((b :: bs).drop m.1)

/-! ### Blocks -/

/-- A number of `k` bits, least significant first. -/
def numBits (k v : Nat) : List Bool := (List.range k).map (fun i => v.testBit i)

/-- The first code of length `l` of the canonical code (RFC 1951). -/
def firstCode (lens : List Nat) : Nat → Nat
  | 0 => 0
  | l + 1 => 2 * (firstCode lens l + (if l = 0 then 0 else lenCount lens l))

/-- The code of a symbol, most significant bit first. -/
def codeBits (lens : List Nat) (x : Nat) : List Bool :=
  let l := (lens[x]?).getD 0
  let c := firstCode lens l + ((lens.take x).countP (· == l))
  (List.range l).map (fun i => c.testBit (l - 1 - i))

/-- The length code of a match length, 0 for 257, and the distance code of a distance. -/
def lenIndex (len : Nat) : Nat := (lenTable.countP (fun e => decide (e.1 ≤ len))) - 1
def distIndex (d : Nat) : Nat := ((List.range 30).countP (fun i => decide ((distEntry i).1 ≤ d))) - 1

/-- The symbols of a token: of the literal and length code, and of the distance code. -/
def Tok.litSym : Tok → Nat
  | .lit b => b.toNat
  | .copy len _ => 257 + lenIndex len
def Tok.distSym : Tok → Option Nat
  | .lit _ => none
  | .copy _ d => some (distIndex d)

/-- The bits of a token under two codes. -/
def Tok.bits (lit dist : List Nat) : Tok → List Bool
  | .lit b => codeBits lit b.toNat
  | .copy len d =>
    let l := (lenTable[lenIndex len]?).getD (0, 0)
    let e := distEntry (distIndex d)
    codeBits lit (257 + lenIndex len) ++ numBits l.2 (len - l.1) ++ codeBits dist (distIndex d) ++ numBits e.2 (d - e.1)

/-- The tokens of a block and its end. -/
def bodyBits (lit dist : List Nat) (ts : List Tok) : List Bool := (ts.map (Tok.bits lit dist)).flatten ++ codeBits lit 256

/-- A fixed Huffman block: BFINAL, BTYPE 01. -/
def fixedBlock (last : Bool) (ts : List Tok) : List Bool := [last, true, false] ++ bodyBits fixedLit fixedDist ts

/-- Two codes that code every symbol of a block. -/
def codesCover (lit dist : List Nat) (ts : List Tok) : Bool :=
  ((lit[256]?).getD 0 != 0) && ts.all (fun t => ((lit[t.litSym]?).getD 0 != 0) && (match t.distSym with
    | some d => (dist[d]?).getD 0 != 0
    | none => true))

/-- A dynamic Huffman block, BTYPE 10: the description of its codes is open, and must be one that RFC 1951 reads as codes
of every symbol the block needs. -/
def dynamicBlock (last : Bool) (ts : List Tok) : Option (List Bool) :=
  let h := Config.dynHeader ts.length ((ts.map Tok.litSym), ts.filterMap Tok.distSym)
  match takeDynamic h with
  | .ok (lit, dist, []) => if codesCover lit dist ts then some ([last, false, true] ++ h ++ bodyBits lit dist ts) else none
  | _ => none

/-- The block the lane emits: the smaller of the two encodings (R354). -/
def deflateBlock (last : Bool) (ts : List Tok) : List Bool :=
  let f := fixedBlock last ts
  match dynamicBlock last ts with
  | some d => if d.length < f.length then d else f
  | none => f

/-- The input bytes of the block that begins at place `pos` of the stripe: at most to the next 65,536-byte boundary. -/
def blockLen (pos : Nat) (past rest : List Byte) : Nat :=
  let room := min rest.length (65536 - pos % 65536)
  let want := Config.blockLen past rest
  if want = 0 ∨ room < want then room else want

/-- The blocks of a stripe from place `pos`; only the last has BFINAL = 1. -/
def deflateBlocks (level : Nat) : Nat → Nat → List Byte → List Byte → List Bool
  | 0, _, _, _ => []
  | f + 1, pos, past, rest =>
    let n := blockLen pos past rest
    let last := decide (rest.length ≤ n)
    let bits := deflateBlock last (lzToks level n past (rest.take n))
    if last then bits else bits ++ deflateBlocks level f (pos + n) ((rest.take n).reverse ++ past) (rest.drop n)

/-- Bits as bytes, least significant first, padded with 0 bits to a byte boundary: at most `f` bytes. -/
def packBits : Nat → List Bool → List Byte
  | 0, _ => []
  | _ + 1, [] => []
  | f + 1, b :: bs => BitVec.ofNat 8 (((b :: bs).take 8).reverse.foldl (fun n x => 2 * n + b2n x) 0) :: packBits f ((b :: bs).drop 8)

/-- The stream a lane makes of a history and an input at a level (R354). -/
def deflate (level : Nat) (hist input : List Byte) : List Byte :=
  let bits := deflateBlocks level (input.length + 1) 0 hist.reverse input
  packBits bits.length bits

/-- The stream bytes emitted once `k` input bytes are consumed: not more than the stream holds. -/
def deflateAt (level : Nat) (hist input : List Byte) (k : Nat) : Nat :=
  min (deflate level hist input).length (Config.deflateAt level hist input k)

end Sys2Proof.Machine
end

