-- ==== Sys2Proof/Machine/Cmp.lean ====
section
/-!
DEFINITION. The compressor and decompressor lanes of chapter 14: jobs over handle lists, OUT_FULL, contexts, and the
decoder's stream errors (R354 to R360, R370).
-/

namespace Sys2Proof.Machine

open Sys2Proof

/-- Compressor lane `n` of State. -/
def State.lane (s : State) (n : Nat) : CompLane := (s.comp[n]?).getD ⟨[], [], 0, 0, 0, false, none⟩
def State.setLane (s : State) (n : Nat) (l : CompLane) : State := { s with comp := s.comp.set n l }
def State.setDlane (s : State) (n : Nat) (l : DecompLane) : State := { s with decomp := s.decomp.set n l }

/-- The handles of a list in buffer memory, `k` of them. -/
def State.handleList (s : State) (a k : Nat) : Option (List Nat) × State :=
  match s.memRead a (4 * k) with
  | (none, s1) => (none, s1)
  | (some bs, s1) => (some ((List.range k).map (fun i => ofLeBytes ((bs.drop (4 * i)).take 4))), s1)

/-- Reads `len` bytes at `ofs` of each handle in turn. -/
def State.readHandles (s : State) (tag len : Nat) : List (Nat × Nat) → Option (List Byte) × State
  | [] => (some [], s)
  | (h, ofs) :: hs =>
    match s.depRead tag h ofs (len - ofs) with
    | (none, s1) => (none, s1)
    | (some bs, s1) =>
      match s1.readHandles tag len hs with
      | (none, s2) => (none, s2)
      | (some cs, s2) => (some (bs ++ cs), s2)

/-- Writes stream bytes over output handles: from `ofs` of the first, from 0 of the others, up to byte 4,095. -/
def State.writeHandles (s : State) (tag ofs : Nat) : List Nat → List Byte → Bool × State
  | [], _ => (true, s)
  | h :: hs, bs =>
    if bs.isEmpty then (true, s)
    else
      match s.depWrite tag h ofs (bs.take (4096 - ofs)) with
      | (false, s1) => (false, s1)
      | (true, s1) => s1.writeHandles tag 0 hs (bs.drop (4096 - ofs))

/-- The output handles of a lane's job. -/
def State.outHandles (s : State) (n : Nat) : List Nat :=
  ((s.handleList (s.lane n).outl (s.get (R.CMP_C_OUT_CNT_OUT_CNT n))).1).getD []

/-- What firmware does with a destage at its job's end (R353, R357): the container after OK, the RAW stripe after INCOMPRESSIBLE
and EARLY_INCOMP, nothing after another code. -/
def State.destEnd (s : State) (n code : Nat) : State :=
  match (s.lane n).job with
  | none => s
  | some j =>
    if code = 0 then
      let cfg := (s.lane n).cfg
      s.destPacked j (bitsOf cfg 0 4) (s.get (R.CMP_C_CLEN_CLEN n)) (s.get (R.CMP_C_UCRC_UCRC n)) (bitsOf cfg 8 6)
        (bitOf cfg 5) (s.outHandles n)
    else if code = 1 ∨ code = 2 then s.destRaw j (s.outHandles n)
    else s

/-- A lane's job ends with a code (Table 14-8). -/
def State.compDone (s0 : State) (n code : Nat) : State :=
  let s := s0.destEnd n code
  (((s.set (R.CMP_C_STAT_CODE n) code).set (R.CMP_C_STAT_STATE n) 5).clrBits R.CMP_STAT_C_BUSY (2 ^ n)).setLane n
    { s.lane n with irq := true, input := [], hist := [], job := none }

/-- Firmware's configuration of a job that destages a stripe (R356, R359, R360): LEVEL, LINK, and the context. -/
def State.destBegin (s : State) (n : Nat) (hs : List Nat) : State :=
  match s.destJob hs (s.lane n).cfg with
  | none => s
  | some (j, cfg) =>
    let s1 := ((s.set (R.CMP_C_CFG_LEVEL n) (bitsOf cfg 0 4)).set (R.CMP_C_CFG_LINK n) (b2n j.link)).setLane n
      { s.lane n with cfg := cfg, job := some j }
    if bitOf cfg 5 then s1.ctxGive (bitsOf cfg 8 6) j.ns j.stream else s1

/-- GO on a compressor lane (R357 steps 1 and 2): the job's inputs and context are taken. -/
def State.compGo (s : State) (n : Nat) : State :=
  let st := s.get (R.CMP_C_STAT_STATE n)
  if (st ≠ 0 ∧ st ≠ 5) ∨ !bitOf (s.get R.CMP_CTRL_C_EN) n ∨ s.inReset (.comp n) then s
  else
    let tag := 0x20 + n
    let cfg0 := (s.rd (R.A_CMP_C_CFG n)).toNat
    let inl := s.get (R.CMP_C_INL_LO_LIST n) * 4 + s.get (R.CMP_C_INL_HI_LIST n) * 2 ^ 32
    let outl := s.get (R.CMP_C_OUTL_LO_LIST n) * 4 + s.get (R.CMP_C_OUTL_HI_LIST n) * 2 ^ 32
    let s0 := ((((s.set (R.CMP_C_STAT_CODE n) 0).set (R.CMP_C_STAT_OUT_USED n) 0).set (R.CMP_C_CLEN_CLEN n) 0).orBits
      R.CMP_STAT_C_BUSY (2 ^ n)).setLane n ⟨[], [], s.now, cfg0, outl, false, none⟩
    match s0.handleList inl 256 with
    | (none, sl) => sl.compDone n 4
    | (some hs, sl) =>
      let sj := sl.destBegin n hs
      let cfg := (sj.lane n).cfg
      let s1 := sj.set (R.CMP_C_STAT_STATE n) (if bitOf cfg 4 then 1 else 2)
      match s1.readHandles tag 4096 (hs.map (fun h => (h, 0))) with
      | (none, s2) => s2.compDone n 4
      | (some stripe, s2) =>
        if bitOf cfg 4 then
          match s2.memRead (s2.ctxAddr (bitsOf cfg 8 6)) 32776 with
          | (none, s3) => s3.compDone n 4
          | (some c, s3) =>
            if ofLeBytes ((c.drop 32768).take 4) ≠ 1 then s3.compDone n 5
            else s3.setLane n { s3.lane n with input := stripe, hist := c.take 32768 }
        else s2.setLane n { s2.lane n with input := stripe }

/-- The stream of a lane's job: the lane always produces the same one for a level, history and input (R356). -/
def CompLane.stream (l : CompLane) : List Byte := deflate (bitsOf l.cfg 0 4) l.hist l.input

/-- The job of a lane is at work. -/
def State.compRuns (s : State) (n : Nat) : Bool :=
  s.get (R.CMP_C_STAT_STATE n) == 1 || s.get (R.CMP_C_STAT_STATE n) == 2

/-- Stream bytes that `k` output handles hold. -/
def outCap (k : Nat) : Nat := 4096 * k - 64

/-- The stream needs output handle OUT_CNT + 1 below the incompressible limit and before an early end (R357 steps 4 to
6). -/
def State.outFullDue (s : State) (n : Nat) : Bool :=
  let k := s.get (R.CMP_C_OUT_CNT_OUT_CNT n)
  decide (k < 255) && decide (outCap k < (s.lane n).stream.length)

/-- The early end of R357 step 6 applies. -/
def CompLane.early (l : CompLane) : Bool :=
  bitOf l.cfg 6 && decide (258048 < deflateAt (bitsOf l.cfg 0 4) l.hist l.input 262143)

/-- A lane writes its stream so far; a bus error ends the job. -/
def State.compWrite (s : State) (n : Nat) (bs : List Byte) (next : State → State) : State :=
  let l := s.lane n
  match s.handleList l.outl (s.get (R.CMP_C_OUT_CNT_OUT_CNT n)) with
  | (none, s1) => s1.compDone n 4
  | (some hs, s1) =>
    match s1.writeHandles (0x20 + n) 64 hs bs with
    | (false, s2) => s2.compDone n 4
    | (true, s2) =>
      next ((s2.set (R.CMP_C_CLEN_CLEN n) bs.length).set (R.CMP_C_STAT_OUT_USED n) ((64 + bs.length + 4095) / 4096))

/-- The lane stops in OUT_FULL with its state held and raises its interrupt (R357 step 4). -/
def State.compOutFull (s : State) (n : Nat) : State :=
  let l := s.lane n
  let k := s.get (R.CMP_C_OUT_CNT_OUT_CNT n)
  if !s.compRuns n || !s.outFullDue n || (l.early && decide (258048 ≤ outCap k)) then s
  else s.compWrite n (l.stream.take (outCap k)) (fun t =>
    (t.set (R.CMP_C_STAT_STATE n) 3).setLane n { l with irq := true })

/-- RESUME continues a job in OUT_FULL with the new OUT_CNT (R357). -/
def State.compResume (s : State) (n : Nat) : State :=
  if s.get (R.CMP_C_STAT_STATE n) ≠ 3 then s
  else (s.set (R.CMP_C_STAT_STATE n) 2).setLane n { s.lane n with irq := false, since := s.now }

/-- ABORT ends the job in LOAD, RUN or OUT_FULL (R357). -/
def State.compAbort (s : State) (n : Nat) : State :=
  let st := s.get (R.CMP_C_STAT_STATE n)
  if st = 1 ∨ st = 2 ∨ st = 3 then s.compDone n 3 else s

/-- Saves the context: history and HLEN first, VALID last (R360). -/
def State.ctxSave (s : State) (k : Nat) (stripe : List Byte) : Bool × State :=
  let a := s.ctxAddr k
  match s.memWrite a (stripe.drop (stripe.length - 32768)) with
  | (false, s1) => (false, s1)
  | (true, s1) =>
    match s1.memWrite (a + 32772) (leBytes 4 32768) with
    | (false, s2) => (false, s2)
    | (true, s2) => s2.memWrite (a + 32768) (leBytes 4 1)

/-- A compression job ends (R357 steps 5 to 7). The stream bytes counted at an early end are open: a free value. -/
def State.compEnd (s : State) (n : Nat) : State :=
  let l := s.lane n
  let bs := l.stream
  if !s.compRuns n then s
  else if l.early && decide (258048 ≤ outCap (s.get (R.CMP_C_OUT_CNT_OUT_CNT n))) then
    s.compWrite n (bs.take 258048) (fun t =>
      let (x, t1) := t.draw
      (t1.set (R.CMP_C_CLEN_CLEN n) x).compDone n 2)
  else if s.outFullDue n then s
  else if 1044416 < bs.length then s.compWrite n (bs.take 1044416) (fun t => t.compDone n 1)
  else s.compWrite n bs (fun t =>
    let t1 := t.set (R.CMP_C_UCRC_UCRC n) (crc32 l.input)
    if bitOf l.cfg 5 then
      match t1.ctxSave (bitsOf l.cfg 8 6) l.input with
      | (false, t2) => t2.compDone n 4
      | (true, t2) => t2.compDone n 0
    else t1.compDone n 0)

/-- A write of CMP_Cn_CMD. -/
def State.compCmd (s : State) (n v : Nat) : State :=
  match bitsOf v 0 2 with
  | 1 => s.compGo n
  | 2 => s.compResume n
  | 3 => s.compAbort n
  | _ => s

/-- A decompression job ends with a code. -/
def State.decompDone (s : State) (n code : Nat) : State :=
  let s1 := (((s.set (R.CMP_D_STAT_CODE n) code).set (R.CMP_D_STAT_STATE n) 2).clrBits R.CMP_STAT_D_BUSY (2 ^ n)).setDlane n
    ⟨s.now, true⟩
  if 1 ≤ code ∧ code ≤ 5 then s1.fault .cmp (16 + n) else s1

/-- GO on a decompressor lane (R358). -/
def State.decompGo (s : State) (n : Nat) : State :=
  let st := s.get (R.CMP_D_STAT_STATE n)
  if (st ≠ 0 ∧ st ≠ 2) ∨ !bitOf (s.get R.CMP_CTRL_D_EN) n ∨ s.inReset (.decomp n) then s
  else (((s.set (R.CMP_D_STAT_STATE n) 1).set (R.CMP_D_STAT_CODE n) 0).orBits R.CMP_STAT_D_BUSY (2 ^ n)).setDlane n
    ⟨s.now, false⟩

/-- The input of a decompression job: IN_CNT handles, from byte 64 of the first, up to CLEN bytes (R358); before them the
UCRC that the container's header holds in the first buffer (Table 14-6). -/
def State.decompInput (s : State) (n : Nat) : Option (Nat × List Byte) × State :=
  let inl := s.get (R.CMP_D_INL_LO_LIST n) * 4 + s.get (R.CMP_D_INL_HI_LIST n) * 2 ^ 32
  let clen := s.get (R.CMP_D_CLEN_CLEN n)
  match s.handleList inl (s.get (R.CMP_D_IN_CNT_IN_CNT n)) with
  | (none, s1) => (none, s1)
  | (some hs, s1) =>
    match s1.readHandles (0x28 + n) 4096 ((hs.take ((clen + 64 + 4095) / 4096)).map (fun h => (h, 0))) with
    | (none, s2) => (none, s2)
    | (some bs, s2) => (some (ofLeBytes ((bs.drop 16).take 4), (bs.drop 64).take clen), s2)

/-- The history of a decompression job. -/
def State.decompHist (s : State) (n : Nat) : Option (List Byte) × State :=
  let h := s.get (R.CMP_D_HIST_HIST n)
  if h = nullHandle then (some [], s) else s.depRead (0x28 + n) h (s.get (R.CMP_D_HOFS_HOFS n)) 32768

/-- A decompression job ends (R355, R358). -/
def State.decompEnd (s : State) (n : Nat) : State :=
  if s.get (R.CMP_D_STAT_STATE n) ≠ 1 then s
  else
    match s.decompInput n with
    | (none, s1) => s1.decompDone n 6
    | (some (want, bs), s1) =>
      match s1.decompHist n with
      | (none, s2) => s2.decompDone n 6
      | (some hist, s2) =>
        match inflate hist bs with
        | .error .badCode => s2.decompDone n 1
        | .error .distFar => s2.decompDone n 2
        | .error .lenShort => s2.decompDone n 3
        | .error .lenLong => s2.decompDone n 4
        | .ok out =>
          match s2.depWrite (0x28 + n) (s2.get (R.CMP_D_OUT_OUT n)) 0 out with
          | (false, s3) => s3.decompDone n 6
          | (true, s3) =>
            let s4 := s3.set (R.CMP_D_UCRC_UCRC n) (crc32 out)
            s4.decompDone n (if crc32 out = want then 0 else 5)

/-- A write of CMP_Dn_CMD. -/
def State.decompCmd (s : State) (n v : Nat) : State :=
  match bitsOf v 0 2 with
  | 1 => s.decompGo n
  | 2 => if s.get (R.CMP_D_STAT_STATE n) = 1 then s.decompDone n 7 else s
  | _ => s

/-- A lane that has waited 100 µs for a response sets HANG (R370). -/
def State.laneHang (s : State) (comp : Bool) (n : Nat) : State :=
  if comp then if s.compRuns n && s.passed (s.lane n).since 100000 then s.fault .cmp n else s
  else if s.get (R.CMP_D_STAT_STATE n) = 1 ∧ s.passed ((s.decomp[n]?).getD ⟨0, false⟩).since 100000 then s.fault .cmp (8 + n)
  else s

/-- A lane, other than `n`, that is enabled and without a job: the lowest one. -/
def State.spareLane (s : State) (comp : Bool) (n : Nat) : Option Nat :=
  (List.range 8).find? (fun m => m != n && (if comp then
      bitOf (s.get R.CMP_CTRL_C_EN) m && !s.inReset (.comp m)
        && (s.get (R.CMP_C_STAT_STATE m) == 0 || s.get (R.CMP_C_STAT_STATE m) == 5)
    else bitOf (s.get R.CMP_CTRL_D_EN) m && !s.inReset (.decomp m) && s.get (R.CMP_D_STAT_STATE m) != 1))

/-- A lane shares its buffers with another one. -/
def State.laneShare (s : State) (old new : Nat) (hs : List Nat) : State :=
  hs.foldl (fun (t : State) h => (t.depTake ⟨2, old, new, h, false, false, 0, false⟩).2) s

/-- `k` registers from `a` are copied to those from `b`. -/
def State.regsCopy (s : State) (a b k : Nat) : State :=
  (List.range k).foldl (fun (t : State) i => t.wr (b + 4 * i) (t.rd (a + 4 * i))) s

/-- Firmware runs the job of compressor lane `n` again on another lane (Table 15-1). -/
def State.compAgain (s : State) (n : Nat) : State :=
  match s.spareLane true n with
  | none => s
  | some m =>
    let inl := s.get (R.CMP_C_INL_LO_LIST n) * 4 + s.get (R.CMP_C_INL_HI_LIST n) * 2 ^ 32
    let ins := ((s.handleList inl 256).1).getD []
    ((s.laneShare (0x20 + n) (0x20 + m) (ins ++ s.outHandles n)).regsCopy (R.A_CMP_C_INL_LO n) (R.A_CMP_C_INL_LO m) 6).compGo m

/-- The same for decompressor lane `n`. -/
def State.decompAgain (s : State) (n : Nat) : State :=
  match s.spareLane false n with
  | none => s
  | some m =>
    let inl := s.get (R.CMP_D_INL_LO_LIST n) * 4 + s.get (R.CMP_D_INL_HI_LIST n) * 2 ^ 32
    let ins := ((s.handleList inl (s.get (R.CMP_D_IN_CNT_IN_CNT n))).1).getD []
    let hist := s.get (R.CMP_D_HIST_HIST n)
    let hs := ins ++ (if hist = nullHandle then [] else [hist]) ++ [s.get (R.CMP_D_OUT_OUT n)]
    ((s.laneShare (0x28 + n) (0x28 + m) hs).regsCopy (R.A_CMP_D_INL_LO n) (R.A_CMP_D_INL_LO m) 7).decompGo m

/-- The containment reset of a lane: its job ends DISCARDED (R370). -/
def State.compContain (s : State) (n : Nat) : State :=
  let st := s.get (R.CMP_C_STAT_STATE n)
  let s1 := if st = 0 ∨ st = 5 then s else s.compDone n 6
  ((s1.set (R.CMP_C_CLEN_CLEN n) 0).set (R.CMP_C_UCRC_UCRC n) 0).set (R.CMP_C_STAT_OUT_USED n) 0
def State.decompContain (s : State) (n : Nat) : State :=
  (if s.get (R.CMP_D_STAT_STATE n) = 1 then s.decompDone n 8 else s).set (R.CMP_D_UCRC_UCRC n) 0

end Sys2Proof.Machine
end

