-- ==== Sys2Proof/Machine/Modes.lean ====
section
/-!
DEFINITION. The device modes of chapter 2: transitions and their steps, precedence, power domains, power states, on-demand
service, ceilings, temperature limits, and the entry into LIMP.
-/

namespace Sys2Proof.Machine

open Sys2Proof

/-- Changes the mode control. -/
def State.modSys (s : State) (f : SysSt → SysSt) : State := { s with sys := f s.sys }

/-- SYS_MODE.TARGET, and whether a transition is under way. -/
def State.target (s : State) : Nat := s.get R.SYS_MODE_TARGET
def State.busy (s : State) : Bool := s.flag R.SYS_MODE_STAMP_HI_BUSY

/-- The running Manifest is an HB-2 image. -/
def State.hb2 (s : State) : Bool := s.flag R.SYS_MODE_POLICY_HB2

/-- The concurrency tier (R36). -/
def tierOf (m : Nat) : Option Nat :=
  match m with
  | 1 => some 0
  | 3 => some 1
  | 4 => some 2
  | 9 => some 2
  | 5 => some 3
  | 7 => some 3
  | 6 => some 4
  | 8 => some 4
  | _ => none

/-- A mode of tier 2 to 4: heads are loaded. -/
def loadedMode (m : Nat) : Bool := decide (2 ≤ (tierOf m).getD 0)

/-- The mode uses actuator `a` (Table 2-1, R54). -/
def modeUses (m a : Nat) : Bool := loadedMode m && (m != mHERITAGE || a == 0)

/-- LIMP is entered or is being entered. -/
def State.limping (s : State) : Bool := s.mode == mLIMP || s.sys.limp.isSome

/-- The spindle turns at speed and the Tether is locked, or in HERITAGE images wedge timing is in WREADY or beyond (R80, Table
2-5). -/
def State.runReady (s : State) : Bool :=
  s.flag R.SPN_STAT_AT_SPEED
    && (s.flag R.TTH_STAT_LOCK || (s.flag R.TTH_CTRL_WEDGE && decide (5 ≤ s.get R.TTH_STAT_STATE)))

/-- CH head groups that the image powers (Table 2-10). -/
def State.groupsUsed (s : State) : List Nat := if s.hb2 then [0, 1] else List.range 6

/-- PD6 is powered for the image. -/
def State.mediaPowered (s : State) : Bool :=
  bitOf (s.get R.SYS_PWR_STAT_PD) 6 && s.groupsUsed.all (fun g => bitOf (s.get R.SYS_PWR_STAT_CHG) g)

/-- The actuators of a mode that have still to be loaded: those in RAMP that no escalation has taken out of service. -/
def State.toLoad (s : State) (m : Nat) : List Nat :=
  (List.range 4).filter (fun a => modeUses m a && s.actState a == 1 && !s.flt.outOfService.contains (.seq a))

/-- The loaded actuators that a mode does not use. -/
def State.toUnload (s : State) (m : Nat) : List Nat :=
  (List.range 4).filter (fun a => m != mWORKSHOP && !modeUses m a && decide (2 ≤ s.actState a) && decide (s.actState a ≤ 6))

/-! ### Concurrency (R35, R37, R44) -/

/-- The CAP in force: the highest of the temperature limit's (tier 4 and WORKSHOP), the power state's and the Degrade's. -/
def State.capNow (s : State) : Nat :=
  let hot := if tierOf s.mode = some 4 ∨ s.mode = mWORKSHOP then s.sys.capTemp else 0
  max hot (max s.sys.capPs s.sys.capDeg)

/-- Write limits of a mode: device and per actuator (Table 2-1, Table 5-3a). -/
def writeLimits (m cap : Nat) : Nat × Nat :=
  let base : Nat × Nat :=
    if m = mSINGLE ∨ m = mHERITAGE then (1, 1)
    else if m = mBALANCED ∨ m = mARCHIVE then (8, 2)
    else if m = mPARALLEL ∨ m = mWORKSHOP then (16, 4) else (0, 0)
  let lim : Nat × Nat := if cap = 1 then (8, 2) else if cap = 2 then (1, 1) else (16, 4)
  (min base.1 lim.1, min base.2 lim.2)

/-- CAP and the write limiter follow the mode and the caps. -/
def State.capShow (s : State) : State :=
  let c := s.capNow
  let w := writeLimits s.mode c
  ((s.set R.SYS_MODE_CAP c).set R.SYS_WR_LIMIT_DEV_MAX w.1).set R.SYS_WR_LIMIT_ACT_MAX w.2

/-! ### Entering a mode (R35, R41, R50) -/

/-- PD6 is powered down: the heads' sides are off and TTH is in OFF. -/
def State.mediaOff (s : State) : State :=
  let s1 := allHeads.foldl (fun (t : State) h => (t.readEnable h false).writeEnable h false) s
  (s1.tthOff.set R.SYS_PWR_STAT_CHG 0).clrBits R.SYS_PWR_STAT_PD 64

/-- CH_WR_CTRL.ARCH of every head follows SYS_MODE.MODE (Table 5-6). -/
def State.archShow (s : State) : State :=
  (List.range 24).foldl (fun (t : State) h => t.set (R.CH_WR_CTRL_ARCH h) (b2n (s.mode == mARCHIVE))) s

/-- Mode `m` is entered in full: the registers, the record, the event, the console line, the write limiter; a checkpoint is
written before IDLE or PARKED (R366), and PD6 goes off on entry to PARKED and LIMP. -/
def State.modeEnter (s : State) (m : Nat) : State :=
  let old := s.mode
  let spent := s.now - s.sys.enteredAt
  let s0 := if old = mSPINUP ∧ m = mIDLE then s.set R.SYS_MODE_REASON 7 else s
  let s1 := (((s0.set R.SYS_MODE_PREV old).set R.SYS_MODE_MODE m).set R.SYS_MODE_STAMP_LO_STAMP_LO s.now).set
    R.SYS_MODE_STAMP_HI_STAMP_HI (s.now / 2 ^ 32)
  let reason := s1.get R.SYS_MODE_REASON
  let s2 := s1.modSys (fun y => { y with
    entries := listMod y.entries m (fun n => satN (n + 1) (2 ^ 32 - 1))
    times := listMod y.times old (fun n => n + spent)
    enteredAt := s.now
    uart := (s.now, m, reason) :: y.uart
    spinAt := (if m = mSPINUP then s.now else y.spinAt)
    spinNeeded := (if m = mSPINUP then false else y.spinNeeded)
    migBytes := (if m = mMIGRATE then 0 else y.migBytes) })
  let s3 := if m = mSPINUP then s2.lifeCount 0 else s2
  let s4 := s3.ldgRaise 0x2001 [BitVec.ofNat 8 old, BitVec.ofNat 8 m, BitVec.ofNat 8 reason]
  let s5 := if m = mMIGRATE then s4.ldgRaise 0x0104 (List.replicate 12 0)
    else if old = mMIGRATE then s4.ldgRaise 0x0104 ([1, 0, 0, 0] ++ leBytes 8 s.sys.migBytes) else s4
  let s5 := if s5.rte.loaded ∧ (m = mIDLE ∨ m = mPARKED) ∧ old ≠ mSPINUP then s5.rtCheckpoint else s5
  let s6 := if m = mPARKED ∨ m = mLIMP then s5.mediaOff else s5
  State.smartEvents s (((s6.raiseBoth ⟨2, 0xC0, 0xC0⟩).archShow).capShow)

/-! ### Steps of a transition (R38, R40, R54) -/

/-- The next mode on the way from `m` to `t` (Table 2-5); `m` itself where the table gives no way. -/
def modeHop (m t : Nat) : Nat :=
  if m = t then m
  else if t = mLIMP then (if m = mBOOT then m else t)
  else if m = mPARKED then (if t = mWORKSHOP then t else if loadedMode t || t == mIDLE then mSPINUP else m)
  else if m = mSPINUP then (if t = mPARKED then t else mIDLE)
  else if m = mIDLE then t
  else if m = mWORKSHOP then t
  else if m = mLIMP then (if t = mWORKSHOP then t else m)
  else if loadedMode m then (if loadedMode t then t else mIDLE)
  else m

/-- What has to reach the medium before mode `h` is entered (R39): for ARCHIVE what was fetched before the request stamp,
else every cached write, with the writes fetched before the request stamp that have not yet taken effect. -/
def State.storesLeft (s : State) (h : Nat) : Bool :=
  let t := s.sys.reqStamp
  s.hif.cache.any (fun x => h != mARCHIVE || decide (x.first < t))
    || (loadedMode s.mode && s.hif.slots.any (fun c => c.isIo && isWriteOp c.e.opc && c.res.isNone && !c.effect && decide (c.stamp < t)))

/-- The first step still to take before mode `h` is entered from the present mode. -/
def State.stepFor (s : State) (h : Nat) : Option ModeStep :=
  let m := s.mode
  let stores := h == mMIGRATE || h == mIDLE || h == mPARKED || h == mARCHIVE
  let turning := h == mIDLE || loadedMode h
  if h = mSPINUP ∨ h = mLIMP then none
  else if stores && m != mSPINUP && s.storesLeft h then some .destage
  else if !(s.toUnload h).isEmpty then some (.unloads (s.toUnload h))
  else if (turning || h == mWORKSHOP) && !s.mediaPowered then some .power
  else if turning && !s.runReady then some .runUp
  else if !(s.toLoad h).isEmpty then some (.loads (s.toLoad h))
  else if h = mPARKED ∧ (s.spnState ≠ 0 ∨ s.spn.listenAt.isSome) then some .brake
  else none

/-- Starts the load of the first actuator of the list (R54). -/
def State.loadNext (s : State) (rest : List Nat) : State :=
  match rest with
  | [] => s.modSys (fun y => { y with step := some (.loads []) })
  | a :: r => (s.actLoad a).modSys (fun y => { y with step := some (.loads r), loadAt := s.now })

/-- Starts the unload of the first actuator of the list. -/
def State.unloadNext (s : State) (rest : List Nat) : State :=
  match rest with
  | [] => s.modSys (fun y => { y with step := some (.unloads []) })
  | a :: r => (s.actUnload a).modSys (fun y => { y with
      step := some (.unloads r), loadAt := s.now, unloadAt := y.unloadAt.set a (some s.now) })

/-- Starts a step. -/
def State.stepStart (s : State) (p : ModeStep) : State :=
  match p with
  | .loads r => s.loadNext r
  | .unloads r => s.unloadNext r
  | .destage => ({ s with hif := { s.hif with destaging := true } } : State).modSys (fun y => { y with step := some .destage })
  | .power => s.modSys (fun y => { y with step := some .power })
  | .runUp => ((s.setFlag R.SPN_CTRL_EN true).spnStart).modSys (fun y => { y with step := some .runUp })
  | .brake => s.spnBrake.modSys (fun y => { y with step := some .brake })

/-- The transition goes on: modes on the way are entered as far as no step is needed, then the next step starts; at the
target it is over. -/
def State.modeAdvance (s : State) : Nat → State
  | 0 => s
  | fuel + 1 =>
    if s.sys.step.isSome || !s.busy then s
    else if s.mode = s.target then
      (s.setFlag R.SYS_MODE_STAMP_HI_BUSY false).modSys (fun y => { y with prec := 9, limp := none })
    else
      let h := modeHop s.mode s.target
      if h = s.mode then s
      else match s.stepFor h with
        | some p => s.stepStart p
        | none => (s.modeEnter h).modeAdvance fuel

/-- I/O commands fetched after a request stamp, and not yet carried out, have the semantics of the mode it asks for (R39). -/
def State.rejudge (s : State) (t stamp : Nat) : State :=
  { s with hif := { s.hif with slots := s.hif.slots.map (fun c =>
    if c.isIo && decide (stamp < c.stamp) && c.res.isNone && !c.effect then { c with mode := t } else c) } }

/-- A trigger that the transition under way outranks, or displaces, waits; of two that wait the one of higher precedence
stands, and of equal ones the later (R40). -/
def State.modeKeep (s : State) (reason prec stamp : Nat) : State :=
  s.modSys (fun y => { y with later := match y.later with
    | some (r, p, t) => if p < prec then some (r, p, t) else some (reason, prec, stamp)
    | none => some (reason, prec, stamp) })

/-- A transition towards `t` is asked for, with its reason, precedence and request stamp (R39, R40). One of lower
precedence than the transition under way waits for its end; one of higher precedence displaces it; at equal precedence the
later stands. -/
def State.modeGo (s : State) (t reason prec stamp : Nat) : State :=
  if s.mode = mBOOT ∨ s.sys.limp.isSome then s
  else if s.busy ∧ s.sys.prec < prec then s.modeKeep reason prec stamp
  else if !s.busy && s.mode == t then ((s.rejudge t stamp).set R.SYS_MODE_TARGET t).capShow
  else
    let s1 := if s.busy ∧ prec < s.sys.prec then s.modeKeep (s.get R.SYS_MODE_REASON) s.sys.prec s.sys.reqStamp else s
    ((((((s1.rejudge t stamp).set R.SYS_MODE_TARGET t).set R.SYS_MODE_REASON reason).setFlag R.SYS_MODE_STAMP_HI_BUSY true).modSys
      (fun y => { y with prec := prec, reqStamp := stamp })).capShow).modeAdvance 6

/-! ### The operating mode and the power state (R43, R45) -/

/-- The mode that a power state gives with an operating mode, and its CAP (Table 2-9). -/
def psTarget (op ps : Nat) : Nat × Nat :=
  match ps with
  | 0 => (op, 0)
  | 1 => if op = mPARALLEL ∨ op = mBALANCED then (mSINGLE, 0)
    else if op = mARCHIVE ∨ op = mMIGRATE then (op, 2) else (op, 0)
  | 2 => (if op = mPARKED then mPARKED else mIDLE, 0)
  | _ => (mPARKED, 0)

/-- A mode lowered, step by step, below a ceiling tier (R43). -/
def underTier (tier m : Nat) : Nat :=
  let down := fun (m : Nat) =>
    if (tierOf m).getD 0 ≤ tier then m
    else if m = mPARALLEL ∨ m = mMIGRATE then mBALANCED
    else if m = mBALANCED ∨ m = mARCHIVE then mSINGLE else m
  down (down m)
def State.underCeiling (s : State) (m : Nat) : Nat :=
  match s.sys.ceiling with
  | some t => underTier t m
  | none => m

/-- The target follows the operating mode and the power state. -/
def State.retarget (s : State) (reason prec stamp : Nat) : State :=
  let p := psTarget (s.underCeiling s.sys.opMode) s.sys.ps
  (s.modSys (fun y => { y with capPs := p.2, onDemand := false })).modeGo p.1 reason prec stamp

/-- The power state is set (R45). -/
def State.setPs (s : State) (ps reason stamp : Nat) : State :=
  (s.modSys (fun y => { y with ps := ps, lastOp := (if ps ≤ 1 then ps else y.lastOp) })).retarget reason 4 stamp

/-- The checks of a Device Mode request (R41): a status to refuse it with, or none. -/
def State.modeCheck (s : State) (m : Nat) : Option Cst :=
  let tier := (tierOf m).getD 0
  if m = 0 ∨ m = 2 ∨ m = 10 ∨ 12 ≤ m then some (cst scField)
  else if !bitOf (s.get R.SYS_MODE_POLICY_ALLOW) m && !(m == mWORKSHOP && !s.flag R.SEC_STAT_MANIFEST_VALID) then
    some (cst scField)
  else if (s.limping && m != mWORKSHOP) || (m == mWORKSHOP && !s.flag R.SEC_STAT_HOST_UNLOCKED)
      || (s.hb2 && decide (2 ≤ tier) && m != mHERITAGE) || (m == mHERITAGE && !s.hb2)
      || (match s.sys.ceiling with
        | some t => decide (t < tier)
        | none => false) then some stMode
  else none

/-- A Device Mode request that passed its checks (R41): it becomes the operating mode. -/
def State.modeRequest (s : State) (m stamp : Nat) : State :=
  (s.modSys (fun y => { y with
    opMode := m, ps := (if m = mWORKSHOP then 0 else y.ps), capDeg := (if s.flag R.SYS_MODE_DEG then y.capDeg else 0) })).retarget
    1 4 stamp

/-! ### On-demand service (R46) -/

/-- A spin-up event on log page 0xC0. -/
def State.spinNotice (s : State) : State :=
  (s.modSys (fun y => { y with spinNeeded := true })).raiseBoth ⟨2, 0xC0, 0xC0⟩

/-- I/O arrives: whether it can be served in this mode, now or once the target is entered (R46). -/
def State.ioArrive (s : State) : Bool × State :=
  let t := s.target
  let auto := s.flag R.SYS_MODE_AUTOSPIN
  let needSpin := s.mode == mPARKED || decide (s.sys.step = some .brake)
  if s.limping || (t != mIDLE && t != mPARKED) then (true, s)
  else if needSpin && !auto then (false, if 2 ≤ s.sys.ps then s.spinNotice else s)
  else
    let ps := if 2 ≤ s.sys.ps then s.sys.lastOp else s.sys.ps
    let s1 := s.modSys (fun y => { y with ps := ps })
    let p := psTarget (s1.underCeiling s1.sys.opMode) ps
    if p.1 = mIDLE ∨ p.1 = mPARKED then
      (true, (s1.modSys (fun y => { y with onDemand := true, capPs := 0 })).modeGo
        (if s.hb2 then mHERITAGE else mSINGLE) 0x0B 4 s.now)
    else (true, (s1.modSys (fun y => { y with capPs := p.2, onDemand := false })).modeGo p.1 0x0B 4 s.now)

/-- A trigger that waited for the end of a transition is acted on: the target follows the operating mode and the power state
as they are now (R40, R41, R45). -/
def State.modeLater (s : State) : State :=
  match s.sys.later with
  | none => s
  | some (reason, prec, stamp) =>
    if s.busy then s
    else
      let s1 := s.modSys (fun y => { y with later := none })
      if s1.sys.onDemand then s1.modeGo (if s.hb2 then mHERITAGE else mSINGLE) reason prec stamp
      else s1.retarget reason prec stamp

/-- I/O held until now is served, or ends, as I/O that arrives in IDLE or PARKED (R46). -/
def State.heldWake (s : State) : State :=
  if s.busy || s.limping || !(s.mode == mIDLE || s.mode == mPARKED) then s
  else
    (s.hif.slots.filter (fun c => c.isIo && c.res.isNone && !c.effect && (isWriteOp c.e.opc || isReadOp c.e.opc)
      && c.resv == some true)).foldl (fun (t : State) c =>
        let (ok, t1) := t.ioArrive
        if ok then t1 else (t1.freeBufs c.bufs).finishSt c.no (cst scNotReady)) s

/-- The transition goes on; at its end, what waited for it is acted on. -/
def State.modeRun (s : State) : State := ((s.modeAdvance 6).modeLater).heldWake

/-- ONDEMAND_RET without I/O (R46). -/
def State.ondemandTimeout (s : State) : State :=
  let r := s.get R.SYS_MODE_POLICY_ONDEMAND_RET
  if s.sys.onDemand ∧ s.passed s.sys.lastIo (if r = 0 then 2000000000 else r * 100000000)
      ∧ !s.hif.slots.any (fun c => c.isIo) then
    s.retarget 0x0B 4 s.now
  else s

/-- An autonomous power state transition: the idle time of the host's table has passed (R45, R46). -/
def State.autoPs (s : State) (n : Nat) : State :=
  if bitOf (cnt (s.ctl n).feats 0x0C) 0 && s.mode != mWORKSHOP && s.target != mWORKSHOP
      && !s.limping && !s.hif.slots.any (fun c => c.isIo) then
    match (s.ctl n).apst[s.sys.ps]? with
    | some (t, ps) => if t ≠ 0 ∧ s.sys.ps < ps ∧ ps ≤ 3 ∧ s.passed s.sys.lastIo (t * 1000000) then s.setPs ps 3 s.now else s
    | none => s
  else s

/-! ### LIMP (R47, R48, R401) -/

/-- Admin commands that LIMP serves (R47). -/
def limpServes (opc fid : Nat) : Bool :=
  if opc = 0x09 then fid == 0xC0 || fid == 0x07 || fid == 0x08 || fid == 0x09 || fid == 0x0B || fid == 0x0E || fid == 0x16
  else [0x00, 0x01, 0x02, 0x04, 0x05, 0x06, 0x08, 0x0A, 0x0C, 0x10, 0x11, 0xC0, 0xC1].contains opc

/-- In-flight commands outside the set of LIMP end with Mode Conflict (Table 13-3). -/
def State.limpEnd (s : State) : State :=
  (s.hif.slots.filter (fun c => c.res.isNone && (c.isIo || !limpServes c.e.opc (bitsOf (c.dw 0) 0 8)))).foldl
    (fun (t : State) c => (t.freeBufs c.bufs).finishSt c.no stMode) s

/-- Fault sources in the spindle, positioning, Tether, channel and write-path units: no destage is tried (R48). -/
def FltReg.noDestage : FltReg → Bool
  | .spn | .srv | .cle | .tth | .tb | .chRd _ | .chWr _ | .ldpc _ | .pool | .dlk => true
  | _ => false

/-- UNLOAD to every actuator with loaded heads, BRAKE to SPN (R401 steps 3 and 4). -/
def State.limpStop (s : State) : State :=
  let s1 := (s.loseCache (s.now + 1) 2).modSys (fun y => { y with step := none })
  let s2 := (List.range 4).foldl (fun (t : State) a =>
    if 2 ≤ t.actState a ∧ t.actState a ≤ 6 then
      ((t.sqStopReq a).actUnload a).modSys (fun y => { y with unloadAt := y.unloadAt.set a (some s.now) }) else t) s1
  s2.spnLimp.modSys (fun y => { y with step := some (.unloads []) })

/-- Every actuator is in RAMP or OFF and SPN in STOP: LIMP is entered (R401 step 5). -/
def State.limpCheck (s : State) : State :=
  if (List.range 4).all (fun a => decide (s.actState a ≤ 1)) && s.spnState == 0 && s.spn.listenAt.isNone then
    let s1 := s.modSys (fun y => { y with step := none, limp := none, prec := 9 })
    (if s.mode = mLIMP then s1.mediaOff else s1.modeEnter mLIMP).setFlag R.SYS_MODE_STAMP_HI_BUSY false
  else s

/-- The LIMP entry goes on, once no actuator load is in progress: a destage first where the cause allows one. -/
def State.limpGo (s : State) : State :=
  match s.sys.limp with
  | none => s
  | some (bar, _) =>
    if bar || s.hif.cache.isEmpty then s.limpStop.limpCheck
    else ({ s with hif := { s.hif with destaging := true } } : State).modSys (fun y => { y with step := some .destage })

/-- An actuator is being loaded (R40). -/
def State.loadInStep (s : State) : Bool :=
  (match s.sys.step with
    | some (.loads _) => true
    | _ => false) && (List.range 4).any (fun a => decide (2 ≤ s.actState a) && decide (s.actState a ≤ 4))

/-- LIMP entry begins (R401), from a transition out of LIMP too: `bar`: no destage is tried. -/
def State.limpEntry (s : State) (bar : Bool) : State :=
  if s.sys.limp.isSome ∨ (s.mode = mLIMP ∧ s.target = mLIMP) ∨ s.mode = mBOOT then s
  else
    let s1 := (((s.set R.SYS_MODE_TARGET mLIMP).set R.SYS_MODE_REASON 5).setFlag R.SYS_MODE_STAMP_HI_BUSY true).modSys (fun y =>
      { y with limp := some (bar, s.now), prec := 1, reqStamp := s.now, onDemand := false, later := none })
    let s2 := s1.limpEnd
    if s2.loadInStep then s2.modSys (fun y => { y with step := some (.loads []) })
    else (s2.modSys (fun y => { y with step := none })).limpGo

/-- An actuator not in RAMP 300 ms after its unload receives RETRACT (R401 step 3). -/
def State.limpRetract (s : State) (a : Nat) : State :=
  match s.sys.limp, s.sys.unloadAt[a]? with
  | some _, some (some t) =>
    if s.passed t 300000000 ∧ 2 ≤ s.actState a then
      (s.actRetract a).modSys (fun y => { y with unloadAt := y.unloadAt.set a none }) else s
  | _, _ => s

/-! ### A step ends -/

/-- The step in progress may end now. -/
def State.stepOver (s : State) (p : ModeStep) : Bool :=
  let acts := fun (f : Nat → Bool) => (List.range 4).all (fun a => !f (s.actState a))
  match p with
  | .loads r => r.isEmpty && acts (fun st => decide (2 ≤ st) && decide (st ≤ 4))
  | .unloads r => r.isEmpty && acts (fun st => st == 7 || st == 8)
  | .destage => !s.storesLeft (modeHop s.mode s.target)
  | .power => s.mediaPowered && s.passed s.sys.domAt 50000 && (s.mode != mSPINUP || s.passed s.sys.spinAt 200000)
  | .runUp => s.runReady
  | .brake => s.spnState == 0

/-- One step of a transition ends (R38): the next step, or the next mode. -/
def State.modeStep (s : State) : State :=
  match s.sys.limp, s.sys.step with
  | some (_, t), some .destage =>
    if s.hif.cache.isEmpty || s.passed t 2000000000 then s.limpStop.limpCheck else s
  | some _, some (.loads r) => if s.stepOver (.loads r) then (s.modSys (fun y => { y with step := none })).limpGo else s
  | some _, _ => s.limpCheck
  | none, some p => if s.stepOver p then (s.modSys (fun y => { y with step := none })).modeRun else s
  | none, none => s.modeRun

/-- The next actuator is loaded or unloaded 200 ms after the one before it (R54); none more where the target no longer
needs it (R40). -/
def State.nextActuator (s : State) : State :=
  if !s.passed s.sys.loadAt 200000000 then s
  else match s.sys.step with
    | some (.loads r) => s.loadNext (r.filter (fun a => modeUses s.target a))
    | some (.unloads r) => if s.sys.limp.isSome then s else s.unloadNext r
    | _ => s

/-- 25 s without reaching speed (R53): BRAKE, PARKED, and each held I/O command ends with Namespace Not Ready. -/
def State.spinupTimeout (s : State) : State :=
  if s.mode = mSPINUP ∧ s.sys.limp.isNone ∧ s.passed s.sys.spinAt 25000000000 ∧ !s.flag R.SPN_STAT_AT_SPEED then
    let s1 := (((s.lifeCount 1).spnBrake).modSpn (fun x => { x with retryAt := none })).modSys (fun y => { y with
      step := none, onDemand := false })
    let s2 := ((s1.set R.SYS_MODE_TARGET mPARKED).set R.SYS_MODE_REASON 8).setFlag R.SYS_MODE_STAMP_HI_BUSY true
    let s3 := (s2.hif.slots.filter (fun c => c.isIo && c.res.isNone && !c.effect && !isResvOp c.e.opc)).foldl
      (fun (t : State) c => (t.freeBufs c.bufs).finishSt c.no (cst scNotReady)) s2
    s3.modeRun
  else s.renewedTimeout

/-! ### Degrade (R43, Table 2-7) -/

/-- A ceiling of a tier comes into force. -/
def State.setCeiling (s : State) (tier : Nat) : State :=
  let t := match s.sys.ceiling with
    | some c => min c tier
    | none => tier
  State.smartEvents s ((s.setFlag R.SYS_MODE_DEG true).modSys (fun y => { y with ceiling := some t, opMode := underTier t y.opMode }))

/-- The action of a Degrade fault in register `r` (Table 2-7). -/
def State.degrade (s : State) (r : FltReg) : State :=
  let m := s.mode
  let cap := s.get R.SYS_MODE_CAP
  if m = mBOOT ∨ m = mWORKSHOP ∨ s.limping then s
  else if m = mPARKED ∨ m = mSPINUP ∨ m = mIDLE then
    let s1 := s.setCeiling 2
    if s1.underCeiling s1.target = s1.target then s1 else (s1.modeGo (s1.underCeiling s1.target) 4 2 s.now).modeLater
  else if m = mSINGLE ∨ m = mHERITAGE ∨ cap = 2 then s.limpEntry r.noDestage
  else if m = mPARALLEL then ((s.setCeiling 3).modeGo mBALANCED 4 2 s.now).modeLater
  else if m = mBALANCED then ((s.setCeiling 2).modeGo mSINGLE 4 2 s.now).modeLater
  else
    let s1 := (s.setCeiling ((tierOf m).getD 0)).modSys (fun y => { y with
      capDeg := (if m = mARCHIVE ∨ cap = 1 then 2 else 1) })
    (s1.set R.SYS_MODE_REASON 4).capShow

/-- The status bits of level Degrade that are set, masked or not (R43). -/
def State.degradeSet (s : State) : Bool :=
  allFltRegs.any (fun r => (setBits ((s.rd r.statAddr).toNat) r.srcBits).any (fun b => s.appliedLevel r b == 3))

/-- DEG clears and the ceiling goes once every fault status of level Degrade is clear (R43, R400). -/
def State.degradeCheck (s : State) : State :=
  if s.flag R.SYS_MODE_DEG && !s.degradeSet then
    (s.setFlag R.SYS_MODE_DEG false).modSys (fun y => { y with ceiling := none })
  else s

/-! ### Temperature (R44) -/

/-- The enclosure reading and the limits. -/
def State.tjLimit (s : State) : Nat := min 100 (s.get R.SYS_THERM_TJ_HOT)
def State.envHot (s : State) : Int := s.getInt R.SYS_THERM_ENV_HOT

/-- The limits are checked after a reading. -/
def State.tempCheck (s : State) : State :=
  let tj := s.get R.SYS_TEMP_TJ
  let env := s.getInt R.SYS_TEMP_ENV
  let ev := s.flag R.SYS_TEMP_ENV_VALID
  let hot := decide (s.tjLimit ≤ tj) || (ev && decide (s.envHot ≤ env))
  let cool := decide (tj + 5 ≤ s.tjLimit) && (!ev || decide (env + 5 ≤ s.envHot))
  let s1 := s.modSys (fun y => { y with coolAt := (if cool then some (y.coolAt.getD s.now) else none) })
  if hot && !s.flag R.SYS_TEMP_HOT then
    let s2 := (((s1.setFlag R.SYS_TEMP_HOT true).fault .sys 1).modSys (fun y => { y with capTemp := 1 }))
    let s3 := if (tierOf s.mode = some 4 ∨ s.mode = mWORKSHOP) ∧ s2.capNow ≠ s.get R.SYS_MODE_CAP
      then s2.set R.SYS_MODE_REASON 0x0C else s2
    s3.capShow
  else s1

/-- The junction sensor is read. -/
def State.junctionRead (s : State) (tj : Nat) : State := (s.set R.SYS_TEMP_TJ (satN tj 255)).tempCheck

/-- Sensor `i` of SYS_ENV_ADDR is enabled. -/
def State.envEn (s : State) (i : Nat) : Bool := bitOf (s.rd R.A_SYS_ENV_ADDR).toNat (8 * i + 7)

/-- One sensor's read: a value, or no acknowledge; the third in a row is a fault. -/
def State.envRead (s : State) (i : Nat) (v : Option Int) : State :=
  if !s.envEn i then s
  else match v with
    | some x => s.modSys (fun y => { y with
        envMiss := y.envMiss.set i 0, envVal := y.envVal.set i (some (clampI (-128) 127 x, s.now)) })
    | none =>
      let k := satN ((s.sys.envMiss[i]?).getD 0 + 1) 255
      let s1 := (s.modSys (fun y => { y with envMiss := y.envMiss.set i k })).ldgProtocol 11 i
      if k = 3 then s1.fault .sys 0 else s1

/-- The sensors are read in turn. -/
def State.envReads (s : State) (vs : List (Option Int)) : State := vs.zipIdx.foldl (fun (t : State) e => t.envRead e.2 e.1) s

/-- The readings that count: of the enabled sensors that have not missed three reads in a row, each at most 3 s old (R44). -/
def State.envGood (s : State) : List Int :=
  (List.range 4).filterMap (fun i =>
    if !s.envEn i || decide (3 ≤ (s.sys.envMiss[i]?).getD 0) then none
    else match (s.sys.envVal[i]?).getD none with
      | some (v, t) => if s.passed t 3000000001 then none else some v
      | none => none)

/-- The enabled sensors are read: ENV is the highest reading not older than 3 s, a sensor that missed three reads in a row
left out until it answers again. -/
def State.envPoll (s : State) (vs : List (Option Int)) : State :=
  if !s.sys.booted then s
  else
    let s1 := s.envReads vs
    match s1.envGood with
    | [] => (s1.setFlag R.SYS_TEMP_ENV_VALID false).tempCheck
    | v :: r => ((s1.setInt R.SYS_TEMP_ENV (r.foldl max v)).setFlag R.SYS_TEMP_ENV_VALID true).tempCheck

/-- Both temperatures have been 5 °C below their limits for 10 s. -/
def State.tempRelease (s : State) : State :=
  match s.sys.coolAt with
  | some t =>
    if s.flag R.SYS_TEMP_HOT ∧ s.passed t 10000000000 then
      ((s.setFlag R.SYS_TEMP_HOT false).modSys (fun y => { y with capTemp := 0 })).capShow
    else s
  | none => s

/-! ### Power domains (R49, R50) -/

/-- The clock domains of Table 1-4 whose blocks a power domain holds (Table 2-10). -/
def domainsOf (pd : Nat) : List Nat :=
  match pd with
  | 0 => [6, 7, 8, 9]
  | 1 => [0]
  | 2 => [3]
  | 3 => [1, 2]
  | 4 => [4]
  | 5 => [5]
  | _ => [4]

/-- The copies of the time base in clock domains are loaded from the master, before the domains' blocks power up (R30). -/
def State.tbLoad (s : State) (doms : List Nat) : State :=
  { s with tbDrift := doms.foldl (fun l d => listSet l d 0) s.tbDrift }

/-- A CH head group is powered, its channels' copies of the time base loaded (R30): firmware enables its read sides (Table 18-4), and its write sides follow their enable. -/
def State.groupOn (s : State) (g : Nat) : State :=
  (List.range 4).foldl (fun (t : State) i =>
    let h := 4 * g + i
    let t1 := (t.setFlag (R.CH_RD_CFG_EN h) true).readEnable h true
    if t1.flag (R.CH_WR_CTRL_EN h) then t1.writeEnable h true else t1)
    ((s.tbLoad ((List.range 4).map (fun i => 16 + 4 * g + i))).orBits R.SYS_PWR_STAT_CHG (2 ^ g))

/-- The next power domain, or the next part of PD6, is powered (Table 2-10, R50); MEM trains once PD2 is (R248). -/
def State.domainUp (s : State) : State :=
  let pd := s.get R.SYS_PWR_STAT_PD
  let stamp := fun (t : State) => t.modSys (fun y => { y with domAt := s.now })
  match (List.range 6).find? (fun n => !bitOf pd n) with
  | some n =>
    if s.sys.powerGood ∧ s.passed s.sys.domAt 50000 then
      let t := stamp ((s.tbLoad (domainsOf n)).orBits R.SYS_PWR_STAT_PD (2 ^ n))
      if n = 2 then t.set R.MEM_STAT_STATE 1 else t
    else s
  | none =>
    if s.sys.step ≠ some .power then s
    else if !bitOf pd 6 then stamp (((s.tbLoad (domainsOf 6)).orBits R.SYS_PWR_STAT_PD 64).tthStart)
    else match s.groupsUsed.find? (fun g => !bitOf (s.get R.SYS_PWR_STAT_CHG) g) with
      | some g => if s.passed s.sys.domAt (if g = 0 then 50000 else 20000) then stamp (s.groupOn g) else s
      | none => s

end Sys2Proof.Machine
end

