-- ==== Sys2Proof/Machine/Packed.lean ====
section
/-!
DEFINITION. Packed namespaces as the command side sees them (chapter 14): what a stripe reads as, reservations of the packed
pool, unmapping, durability, reclaim, checkpoints and the load of the Route Table.
-/

namespace Sys2Proof.Machine

open Sys2Proof

/-- What a sector holds beneath the cache: the medium, or its stripe's content (R351). -/
def State.stored (s : State) (n : NsSt) (sec : Nat) : List Byte :=
  if n.packed then (s.stripeSector n.id (sec / 256) (sec % 256)).getD zeroSector else s.onMedium n.id sec

/-- A sector of a packed namespace cannot be read: a sector, a header check or a decode of its container fails (R351). -/
def State.stripeBad (s : State) (n : NsSt) (sec : Nat) : Bool :=
  n.packed && (s.cached n.id sec).isNone && (s.stripeSector n.id (sec / 256) (sec % 256)).isNone

/-- What a sector holds now: a cached write comes first (R318). -/
def State.content (s : State) (n : NsSt) (sec : Nat) : List Byte :=
  match s.cached n.id sec with
  | some x => x.bytes
  | none => s.stored n sec

/-! ### Capacity (R345, R346) -/

/-- Bands by number. -/
def State.bandNums (s : State) (p : Band → Bool) : List Nat := (List.range s.rte.bands.length).filter (fun b => p (s.band b))

/-- LIVE of band `b` (R350). -/
def State.bandLive (s : State) (b : Nat) : Nat := bitsOf (ofLeBytes (bytesAt 0 s.mem (s.bandBase + 4 * b) 4)) 0 24

def sumOf (l : List Nat) : Nat := l.foldl (· + ·) 0

/-- Free sectors of the pool: FREE bands and the rest of the OPEN ones. -/
def State.poolFreeSectors (s : State) : Nat :=
  sumOf ((s.bandNums (fun x => x.st == 0)).map s.bandSlots)
    + sumOf ((s.bandNums (fun x => x.st == 1)).map (fun b => s.bandSlots b - (s.band b).ptr))

/-- Dead sectors in OPEN and FULL bands; the remainder of a FULL band is dead. -/
def State.poolDead (s : State) : Nat :=
  sumOf ((s.bandNums (fun x => x.st == 1)).map (fun b => (s.band b).ptr - s.bandLive b))
    + sumOf ((s.bandNums (fun x => x.st == 2)).map (fun b => s.bandSlots b - s.bandLive b))

/-- One band per actuator kept for reclaim: its lowest FREE band. -/
def State.poolKept (s : State) : Nat :=
  sumOf ((List.range 4).map (fun a => match (s.bandNums (fun x => x.st == 0)).find? (fun b => b % 4 == a) with
    | some b => s.bandSlots b
    | none => 0))

/-- Stripes with cached data that no Route Table change holds yet: each has a reservation of 256 sectors. -/
def State.dirtyStripes (s : State) : List (Nat × Nat) :=
  (s.hif.cache.filterMap (fun x => match s.nsOf x.ns with
    | some n => if n.packed && x.journal.isNone then some (x.ns, x.sec / 256) else none
    | none => none)).dedup

/-- The reservation for the stripes of `secs` (R346): none when it is covered, else the status. -/
def State.capacityCheck (s : State) (n : NsSt) (secs : List Nat) : Option Cst :=
  let have0 := s.dirtyStripes
  let fresh := (secs.map (fun x => (n.id, x / 256))).dedup.filter (fun p => !have0.contains p)
  let need := 256 * fresh.length
  let avail := s.poolFreeSectors - 256 * have0.length - s.poolKept
  if !n.packed || need ≤ avail then none else some ⟨scCapacity, some (decide (s.poolDead < need - avail)), none, 0⟩

/-! ### Unmapping and durability (R362, R366) -/

/-- A stripe becomes UNMAPPED: cached sectors of it are dropped and the entry is updated. -/
def State.unmapStripe (s : State) (ns stripe since : Nat) : State :=
  let s1 := (s.hif.cache.filter (fun x => x.ns == ns && x.sec / 256 == stripe)).foldl
    (fun (t : State) x => t.uncache ns x.sec) s
  let e := s1.stripeEntry ns stripe
  if e = 0 then s1 else (s1.rteTake ⟨3, 0xC0, 0, s1.stripeIndex ns stripe, e, 0, since, false⟩).2

/-- A command waits no longer for a sector of a namespace; one that waits for none has completed (R322). -/
def State.leftDone (s : State) (ns sec : Nat) : State :=
  (s.hif.slots.filter (fun c => c.effect && c.res.isNone && c.e.nsid == ns && c.left.contains sec)).foldl
    (fun (t : State) c =>
      let l := c.left.filter (· != sec)
      let t1 := t.modCmd c.no (fun x => { x with left := l })
      if l.isEmpty then t1.finishSt c.no (cst scOk) else t1) s

/-- A cached sector has reached the medium: a packed one lies there in its stripe's container. -/
def State.cacheWritten (s : State) (x : CacheSec) : State :=
  let s1 := if (s.nsOf x.ns).any (fun n => n.packed) then s else s.setMedium x.ns x.sec x.bytes
  (s1.uncache x.ns x.sec).leftDone x.ns x.sec

/-- Cached sectors of packed namespaces whose Route Table change is durable leave the cache (R367, R368). -/
def State.durableSweep (s : State) : State :=
  (s.hif.cache.filter (fun x => match x.journal with
    | some q => s.rte.durableSeq q
    | none => false)).foldl (fun (t : State) x => t.cacheWritten x) s

/-- A Flush may complete (R324, R367). -/
def State.flushDone (s : State) (c : CmdSlot) : Bool :=
  let names := fun (ns : Nat) => c.e.nsid == 0xFFFFFFFF || c.e.nsid == ns
  let packedIdx := fun (i : Nat) => match s.rtOwner i with
    | some n => names (n + 1)
    | none => false
  !s.hif.cache.any (fun x => names x.ns && decide (x.first < c.stamp))
    && !s.hif.slots.any (fun d => d.isIo && isWriteOp d.e.opc && d.res.isNone && !d.effect && names d.e.nsid
      && decide (d.stamp < c.stamp))
    && s.rte.journal.all (fun j => j.written || j.since == 0 || decide (c.stamp ≤ j.since) || !packedIdx j.index)

/-- Flushes that wait and may complete do so; one that met a deferred write error reports it (R325). -/
def State.flushCheck (s : State) : State :=
  (s.hif.slots.filter (fun c => c.isIo && c.e.opc == 0x00 && c.started && c.res.isNone && s.flushDone c)).foldl
    (fun (t : State) c => t.finishSt c.no (if c.failed then stDeferred else cst scOk)) s

/-- A checkpoint is written (R366): after 1,048,576 records, before IDLE or PARKED, or at firmware activation. -/
def State.checkpoint (s : State) : State :=
  if 1048576 ≤ s.rte.journal.length ∨ (s.busy && (s.target == mIDLE || s.target == mPARKED)) ∨ s.hif.activating.isSome then
    s.rtCheckpoint.durableSweep.flushCheck
  else s

/-- The Route Table is loaded: the newest checkpoint, then the journal (R366, R369). -/
def State.routeLoad (s : State) : State :=
  if s.rte.loaded || s.rte.trackAt.isNone || !s.flag R.RTE_STAT_RUN then s
  else
    let s1 := s.rtLoadEntries (replay s.rte.ckpt s.rte.journal)
    { s1 with rte := { s1.rte with loaded := true } }

/-- A sector of a packed band is on the medium, at the physical address of its seed (R88, R352). -/
def State.setPhys (s : State) (p : Nat) (bs : List Byte) : State :=
  s.modHif (fun h => { h with phys := (p, bs) :: h.phys.filter (fun e => e.1 != p) })

/-- Sectors are written at usable slots of a band from slot `k`. -/
def State.setSectors (s : State) (b k : Nat) : List (List Byte) → State
  | [] => s
  | x :: xs =>
    (match s.unitSlot b k with
      | some p => s.setPhys p x
      | none => s).setSectors b (k + 1) xs

/-- A container as sectors: its header, its stream, and zeros to the end of the last sector (R352). -/
def containerSectors (h stream : List Byte) : List (List Byte) :=
  let k := csectOf stream.length
  let all := h ++ stream ++ List.replicate (4096 * k - 64 - stream.length) 0
  (List.range k).map (fun i => (all.drop (4096 * i)).take 4096)

/-- The containers of the run whose first one lies at slot `p` of band `b`, in order, at most `f`: their slot, namespace,
stripe and sectors, by the headers on the medium (R361). -/
def State.runMembers (s : State) (b : Nat) : Nat → Nat → Nat → List (Nat × Nat × Nat × Nat)
  | 0, _, _ => []
  | f + 1, j, p =>
    match s.bandSector b p with
    | none => []
    | some x =>
      let h := x.take 64
      if hdrSound h && bitsOf (hdrNat h 6 1) 1 3 == j && (decide (j = 0) || bitOf (hdrNat h 6 1) 0) then
        (p, hdrNat h 7 1 + 1, bitsOf (hdrNat h 8 4) 0 27, bitsOf (hdrNat h 22 2) 0 9)
          :: s.runMembers b f (j + 1) (p + bitsOf (hdrNat h 22 2) 0 9)
      else []

/-- The index and the entry of a member of a run, where the Route Table maps its stripe to it. -/
def State.memberEntry (s : State) (b : Nat) (m : Nat × Nat × Nat × Nat) : Option (Nat × Nat) :=
  let e := s.stripeEntry m.2.1 m.2.2.1
  if rtState e = 1 ∧ rtBand e = b ∧ rtOffset e = m.1 then some (s.stripeIndex m.2.1 m.2.2.1, e) else none

/-- A copy waits for its UPDATE, with the entry read at its start as the expected value (R364, R365). -/
def State.copyAdd (s : State) (i old new : Nat) : State :=
  { s with rte := { s.rte with dest := s.rte.dest ++ [⟨i, old, new, [], 0⟩] } }

/-- Containers of `k` sectors from slot `p` of band `b` are copied sector for sector into an OPEN band; each of `es`, index and
entry, then names its copy (R365). -/
def State.copyRun (s : State) (b p k : Nat) (es : List (Nat × Nat)) : State :=
  match s.bandSectors b p k with
  | none => s
  | some bs =>
    match s.place k with
    | (none, s1) => s1
    | (some (b1, p1), s1) =>
      es.foldl (fun (t : State) e => t.copyAdd e.1 e.2 (putBits (putBits e.2 0 24 (p1 + (rtOffset e.2 - p))) 24 16 b1))
        (s1.setSectors b1 p1 ((List.range k).map (fun i => (bs.drop (4096 * i)).take 4096)))

/-- A member of a run that has lost a member is expanded and compressed again as an independent stripe (R353, R365). -/
def State.copyAlone (s : State) (ns stripe i e : Nat) : State :=
  match s.stripeData ns stripe e, s.nsOf ns with
  | some d, some n =>
    let stream := deflate (n.level s.now) [] d
    if 1044416 < stream.length then
      match s.place 256 with
      | (none, s1) => s1
      | (some (b, p), s1) =>
        (s1.setSectors b p ((List.range 256).map (fun j => (d.drop (4096 * j)).take 4096))).copyAdd i e (rtEntry p b 255 2 0 0)
    else
      let k := csectOf stream.length
      match s.place k with
      | (none, s1) => s1
      | (some (b, p), s1) =>
        let h := containerHeader (n.level s.now) 0 ns stripe stream.length (crc32 d) 0 k 0 s1.rte.wseq
        (({ s1 with rte := { s1.rte with wseq := s1.rte.wseq + 1 } } : State).setSectors b p
          (containerSectors h stream)).copyAdd i e (rtEntry p b (k - 1) 1 0 0)
  | _, _ => s

/-- What one mapped entry of a band under reclaim calls for: the copy of its container, or, for the first mapped member of a
run, of the run (R365). -/
def State.reclaimEntry (s : State) (b i e : Nat) : State :=
  if s.rte.dest.any (fun d => d.index == i && d.old == e) then s
  else if rtState e = 2 then s.copyRun b (rtOffset e) 256 [(i, e)]
  else
    let p := rtOffset e - rtRunBack e
    let ms := s.runMembers b 8 0 p
    let here := ms.filterMap (fun m => (s.memberEntry b m).map (fun x => (m, x)))
    if here.isEmpty then s
    else if here.length = ms.length then s.copyRun b p (sumOf (ms.map (fun m => m.2.2.2))) (here.map (fun x => x.2))
    else here.foldl (fun (t : State) x => t.copyAlone x.1.2.1 x.1.2.2.1 x.2.1 x.2.2) s

/-- The mapped entries of bands under reclaim are copied out of them. -/
def State.reclaimCopies (s : State) : State :=
  ((s.rtSnapshot 0 (s.get R.RTE_TBL_COUNT_COUNT)).filter (fun x => rtMapped x.2 && (s.band (rtBand x.2)).st == 3)).foldl
    (fun (t : State) x => t.reclaimEntry (rtBand x.2) x.1 x.2) s

/-- Reclaim (R365): bands whose live containers have all moved become FREE; below the threshold the FULL band with the
lowest LIVE count is chosen. It does not run in MIGRATE. -/
def State.reclaim (s : State) : State :=
  if s.mode = mMIGRATE then s
  else
    let s1 := (s.bandNums (fun x => x.st == 3)).foldl (fun (t : State) b =>
      if t.bandLive b == 0 && t.rte.allDurable then t.setBand b ⟨0, 0⟩ else t) s
    let s2 := if (s1.bandNums (fun x => x.st == 0)).length < Config.reclaimBelow then
        match (s1.bandNums (fun x => x.st == 2)) with
        | [] => s1
        | b :: bs =>
          let v := bs.foldl (fun m x => if s1.bandLive x < s1.bandLive m then x else m) b
          s1.setBand v { s1.band v with st := 3 }
      else s1
    s2.reclaimCopies

end Sys2Proof.Machine
end

