-- ==== Sys2Proof/Machine/Io.lean ====
section
/-!
DEFINITION. Fetching and the I/O commands (chapters 12 and 13): the round robin and the fetch stamp, the checks of R340,
reservations, the effect of each command, and what the medium side reports.
-/

namespace Sys2Proof.Machine

open Sys2Proof

/-! ### Reservations (R336, R337) -/

/-- Host `host` is a registrant. -/
def Resv.registered (r : Resv) (host : Nat) : Bool := r.regs.any (fun e => e.1 == host)

/-- Host `host` holds the reservation: the holder, or in the All Registrants types any registrant. -/
def Resv.holds (r : Resv) (host : Nat) : Bool :=
  r.holder.isSome && (r.holder == some host || (decide (5 ≤ r.rtype) && r.registered host))

/-- The reservation lets a read or a write of a host pass: types 1 to 6 are Write Exclusive, Exclusive Access, the same
two with Registrants Only, and with All Registrants. -/
def Resv.allows (r : Resv) (host : Nat) (write : Bool) : Bool :=
  if r.holder.isNone then true
  else if !write && (r.rtype == 1 || r.rtype == 3 || r.rtype == 5) then true
  else r.holds host || (decide (3 ≤ r.rtype) && r.registered host)

/-- A command that changes the reservation of its namespace. -/
def isResvChange (o : Nat) : Bool := o == 0x0D || o == 0x11 || o == 0x15

/-- An earlier reservation command to the namespace has not yet taken effect (R336). -/
def State.resvPending (s : State) (ns stamp : Nat) : Bool :=
  s.hif.slots.any (fun d => d.isIo && isResvChange d.e.opc && d.e.nsid == ns && d.res.isNone && !d.effect && decide (d.stamp < stamp))

/-- The reservation check of an I/O command, once the state it is checked against is known. -/
def State.resvNow (s : State) (c : CmdSlot) : Option Bool :=
  if isResvOp c.e.opc then some true
  else
    let nss := s.hif.nss.filter (fun n => (n.id == c.e.nsid || c.e.nsid == 0xFFFFFFFF) && n.attached c.ctrl)
    if nss.any (fun n => s.resvPending n.id c.stamp) then none
    else some (nss.all (fun n => n.resv.allows (s.hostOf c.ctrl) (isWriteOp c.e.opc || c.e.opc == 0x00)))

/-- The checks that waited for a reservation command are made, in fetch order. -/
def State.resvSettle (s : State) : State :=
  (s.hif.slots.filter (fun c => c.isIo && c.res.isNone && c.resv.isNone)).foldl (fun (t : State) c =>
    match t.resvNow c with
    | none => t
    | some false => (t.modCmd c.no (fun x => { x with resv := some false })).finishSt c.no (cst scConflict)
    | some true =>
      let t1 := t.modCmd c.no (fun x => { x with resv := some true })
      match c.post with
      | some st => t1.finishSt c.no st
      | none => t1) s

/-! ### The checks of R340 -/

/-- Steps 1 and 2: opcode, fields, namespace, transfer size, range. -/
def State.ioStatic (s : State) (c : CmdSlot) : Option Cst :=
  let o := c.e.opc
  if !([0x00, 0x01, 0x02, 0x08, 0x09, 0x0C, 0x0D, 0x0E, 0x11, 0x15] : List Nat).contains o then some (cst scOpcode)
  else if c.e.psdt = 3 then some (cst scField)
  else if o = 0x00 ∧ c.e.nsid = 0xFFFFFFFF then none
  else match s.nsOf c.e.nsid with
    | none => some (cst scNs)
    | some n =>
      if !n.attached c.ctrl then some (cst scNs)
      else if (o = 0x01 ∨ o = 0x02) ∧ 2 ^ 21 < c.nlb * n.blockBytes then some (cst scField)
      else if (o = 0x01 ∨ o = 0x02 ∨ o = 0x08 ∨ o = 0x0C) ∧ n.nsze < c.slba + c.nlb then some (cst scRange)
      else none

/-- Namespaces that a command names and whose pending-report flag was set before it was fetched (R327). -/
def State.pendNs (s : State) (nsid ctrl stamp : Nat) : List Nat :=
  (s.hif.nss.filter (fun n => (n.id == nsid || (nsid == 0xFFFFFFFF && n.attached ctrl)) && (match n.pend with
    | some e => decide (e < stamp)
    | none => false))).map (·.id)

/-- The command reports the deferred errors and the flags clear. -/
def State.reportDeferred (s : State) (no : Nat) (l : List Nat) : State :=
  (l.foldl (fun (t : State) i => t.modNs i (fun n => { n with pend := none })) s).finishSt no stDeferred

/-- A Device Mode or Power Management command fetched before `stamp` has not ended: the mode that applies to a later write is
not known yet (R39). -/
def State.modePending (s : State) (stamp : Nat) : Bool :=
  s.hif.slots.any (fun d => d.sq == 0 && d.e.opc == 0x09 && (bitsOf (d.dw 0) 0 8 == 0xC0 || bitsOf (d.dw 0) 0 8 == 0x02)
    && d.res.isNone && decide (d.stamp < stamp))

/-- Steps 6 and 7, and the service on demand (R46, Table 13-4): the state and the status that stops the command. -/
def State.ioMode (s : State) (c : CmdSlot) : Option Cst × State :=
  let o := c.e.opc
  if isWriteOp o ∧ c.mode = mMIGRATE ∧ !s.modePending c.stamp then (some (cst scProtected), s)
  else if isWriteOp o || isReadOp o then
    let (ok, s1) := s.ioArrive
    (if ok then none else some (cst scNotReady), s1)
  else (none, s)

/-- Steps 1 to 7 at the fetch. -/
def State.ioFetched (s : State) (no : Nat) : State :=
  match s.cmd no with
  | none => s
  | some c =>
    match s.ioStatic c with
    | some st => s.finishSt no st
    | none =>
      let l := s.pendNs c.e.nsid c.ctrl c.stamp
      if !l.isEmpty then s.reportDeferred no l
      else if c.mode = mLIMP then s.finishSt no stMode
      else match s.resvNow c with
        | some false => (s.modCmd no (fun x => { x with resv := some false })).finishSt no (cst scConflict)
        | r =>
          let (st, s1) := s.ioMode c
          let s2 := s1.modCmd no (fun x => { x with resv := r, post := st })
          match r, st with
          | some true, some q => s2.finishSt no q
          | _, _ => s2

/-- The admin commands of Table 12-5. -/
def isAdminOp (o : Nat) : Bool :=
  ([0x00, 0x01, 0x02, 0x04, 0x05, 0x06, 0x08, 0x09, 0x0A, 0x0C, 0x0D, 0x10, 0x11, 0x14, 0x15, 0x19, 0x1A, 0xC0, 0xC1] :
    List Nat).contains o

/-- The checks of an admin command at its fetch: opcode and data pointer, the namespace an admin command reports
deferred errors of (R327), the commands LIMP does not serve (R47), and Table 13-4. A Firmware Commit keeps in `resv` whether the host path was unlocked in WORKSHOP at its fetch (Table 18-10). -/
def State.adminFetched (s : State) (no : Nat) : State :=
  match s.cmd no with
  | none => s
  | some c =>
    let o := c.e.opc
    let fid := bitsOf (c.dw 0) 0 8
    let l := if o = 0x0D ∨ o = 0x15 ∨ (o = 0x09 ∧ fid = 0xC3) then s.pendNs c.e.nsid c.ctrl c.stamp else []
    if !isAdminOp o then s.finishSt no (cst scOpcode)
    else if c.e.psdt ≠ 0 then s.finishSt no (cst scField)
    else if !l.isEmpty then s.reportDeferred no l
    else if c.mode = mLIMP && !limpServes o fid then s.finishSt no stMode
    else if o = 0x0D ∧ c.mode = mMIGRATE then s.finishSt no (cst scProtected)
    else if o = 0x0D ∨ o = 0x15 then
      let (ok, s1) := s.ioArrive
      if ok then s1 else s1.finishSt no (cst scNotReady)
    else if o = 0x10 then
      s.modCmd no (fun x => { x with resv := some (s.mode == mWORKSHOP && s.flag R.SEC_STAT_HOST_UNLOCKED) })
    else s

/-! ### Fetching (R301, R32, R39) -/

/-- Slots in service (R301, Table 15-1). -/
def State.slotsIn (s : State) : Nat := 8192 - s.hif.badSlots.length

/-- The submission queues of a controller that hold entries, from the one served now onwards in round robin. -/
def Ctl.offering (c : Ctl) : List SqSt :=
  let full := c.sqs.filter (fun q => q.head != q.tail)
  let now := if c.burst = 0 then [] else full.filter (fun q => q.id == c.rr)
  now ++ full.filter (fun q => decide (c.rr < q.id)) ++ full.filter (fun q => decide (q.id < c.rr))
    ++ (if c.burst = 0 then full.filter (fun q => q.id == c.rr) else [])

/-- Controller `n` fetches now. -/
def State.fetches (s : State) (n : Nat) : Bool :=
  let c := s.ctl n
  s.ctlExists n && c.rdy && !c.cfs && c.shst == 0 && s.hif.activating.isNone && !s.flt.safeStop
    && decide (s.slotsOf n + 1024 < s.slotsIn) && decide (s.hif.slots.length < s.slotsIn) && !c.offering.isEmpty

/-- The lowest free slot. -/
def State.freeSlot (s : State) : Nat :=
  ((List.range 8192).find? (fun k => !s.hif.badSlots.contains k && !s.hif.slots.any (fun c => c.no == k))).getD 0

/-- The Arbitration Burst of feature 01h: 2^AB entries, no limit at 7. -/
def Ctl.burstLen (c : Ctl) : Nat :=
  let ab := cnt c.feats 1 % 8
  if ab = 7 then 4096 else 2 ^ ab

/-- An Abort that waits for a command still in its submission queue meets the entry fetched now (R334): it aborts it, or has
one entry fewer to see. -/
def State.abortSeen (s : State) (no n y cid : Nat) : State :=
  (s.hif.slots.filter (fun c => c.ctrl == n && !c.isIo && c.e.opc == 0x08 && c.started && c.res.isNone
    && bitsOf (c.dw 0) 0 16 == y)).foldl (fun (t : State) c =>
      if bitsOf (c.dw 0) 16 16 = cid then (t.finishSt no (cst scAborted)).finishSt c.no (cst scOk)
      else match c.left with
        | [k] => if k ≤ 1 then t.finish c.no ⟨cst scOk, 1, 0, []⟩ else t.modCmd c.no (fun x => { x with left := [k - 1] })
        | _ => t) s

/-- Controller `n` fetches one entry, whose content the host wrote as `e`: it takes its slot and its stamp, and the checks
of the fetch are made. -/
def State.fetchOne (s : State) (n : Nat) (e : Sqe) : State :=
  match (s.ctl n).offering with
  | [] => s
  | q :: _ =>
    let no := s.freeSlot
    let mode := if s.limping then mLIMP else s.target
    let c : CmdSlot := ⟨no, n, q.id, e, s.now, mode, none, none, none, false, false, false, [], [], false, none⟩
    let s1 := (s.modCtl n (fun x =>
      let left := if x.rr = q.id ∧ x.burst ≠ 0 then x.burst else x.burstLen
      { x.modSq q.id (fun y => { y with head := (y.head + 1) % y.size }) with rr := q.id, burst := left - 1 })).modHif
        (fun h => { h with slots := h.slots ++ [c] })
    let s2 := (s1.hifShow).abortSeen no n q.id e.cid
    let s3 := if (s2.cmd no).any (fun x => x.res.isSome) then s2
      else if q.id = 0 then s2.adminFetched no
      else (s2.modSys (fun y => { y with lastIo := s.now })).ioFetched no
    { s3 with now := s.now + 1 }

/-- Both controllers offer entries in one cycle: the one refused in the latest tie goes first (R32). -/
def State.commandFetch (s : State) (o0 o1 : Option Sqe) : State :=
  match (if s.fetches 0 then o0 else none), (if s.fetches 1 then o1 else none) with
  | some a, some b =>
    if s.tieLast = 1 then
      let s1 : State := { s.fetchOne 0 a with tieLast := 0 }
      if s1.fetches 1 then s1.fetchOne 1 b else s1
    else
      let s1 : State := { s.fetchOne 1 b with tieLast := 1 }
      if s1.fetches 0 then s1.fetchOne 0 a else s1
  | some a, none => s.fetchOne 0 a
  | none, some b => s.fetchOne 1 b
  | none, none => s

/-! ### Order of effects (R317 to R321) -/

/-- Two commands cover a block in common; a Deallocate may cover any block of a packed namespace. -/
def cmdOverlap (c d : CmdSlot) : Bool :=
  c.e.nsid == d.e.nsid && (c.e.opc == 0x09 || d.e.opc == 0x09 || (decide (c.slba < d.slba + d.nlb) && decide (d.slba < c.slba + c.nlb)))

/-- Every earlier command that must come first has taken effect (R318, R321). -/
def State.inTurn (s : State) (c : CmdSlot) : Bool :=
  !s.hif.slots.any (fun d => d.isIo && d.res.isNone && !d.effect && decide (d.stamp < c.stamp)
    && ((s.orderedCmd c && d.ctrl == c.ctrl && d.sq == c.sq)
      || ((isWriteOp c.e.opc || isReadOp c.e.opc) && (isWriteOp d.e.opc || isReadOp d.e.opc)
        && (isWriteOp c.e.opc || isWriteOp d.e.opc) && cmdOverlap c d)))

/-- Heads can serve I/O now (Table 2-1); a packed namespace waits for its Route Table (R369). -/
def State.served (s : State) (n : NsSt) : Bool :=
  (loadedMode s.mode || s.mode == mWORKSHOP) && (!n.packed || s.rte.loaded)

/-- The I/O command in a slot, where it is of opcode `opc`, has passed its checks and has not ended; a write waits for an
earlier command that may change the mode that applies to it (R39). -/
def State.ioCmd (s : State) (no opc : Nat) : Option CmdSlot :=
  match s.cmd no with
  | some c => if c.isIo && c.e.opc == opc && c.res.isNone && !c.effect && c.resv == some true && !s.flt.safeStop
      && !(isWriteOp opc && s.modePending c.stamp) then some c else none
  | none => none

/-- The same with its namespace, in a mode that serves it. -/
def State.ioNs (s : State) (no opc : Nat) : Option (CmdSlot × NsSt) :=
  match s.ioCmd no opc with
  | some c => match s.nsOf c.e.nsid with
    | some n => if s.served n then some (c, n) else none
    | none => none
  | none => none

/-! ### Data (R304) -/

/-- The status of a bad data pointer or of a failed Protection Information check. -/
def xferStatus (c : CmdSlot) (n : NsSt) (x : Xfer) : Option Nat :=
  if x.dptr = 1 ∧ c.e.psdt = 0 then some scPrp
  else if x.dptr = 2 ∧ c.e.psdt ≠ 0 then some scSglType
  else if x.dptr = 3 ∧ c.e.psdt ≠ 0 then some scSglSeg
  else if x.dptr = 4 then some scXfer
  else if n.fmt ≠ 1 ∨ x.pi = 0 then none
  else some (if x.pi = 1 then scGuard else if x.pi = 2 then scAppTag else scRefTag)

/-- A command ends with a data pointer or PI status; a data pointer error sets DATA_XFER (Table 12-23). -/
def State.xferFail (s : State) (c : CmdSlot) (code : Nat) : State :=
  let s1 := (s.freeBufs c.bufs).modCmd c.no (fun x => { x with bufs := [] })
  (if code < 0x280 then (s1.fault .hif (6 + c.ctrl)).ldgProtocol 1 c.ctrl else s1).finishSt c.no (cst code)

/-- `k` bytes of a list from offset `i`, zeros beyond its end. -/
def takeAt (l : List Byte) (i k : Nat) : List Byte :=
  let m := (l.drop i).take k
  m ++ List.replicate (k - m.length) 0

/-- The sector `sec` with the blocks that a write covers replaced: `data` holds the blocks in order, each with its metadata
in the 4096+8 format. -/
def spliceSector (n : NsSt) (sec slba nlb : Nat) (data base : List Byte) : List Byte :=
  let hb := n.hostBytes
  if n.fmt = 2 then
    ((List.range 8).map (fun j =>
      let l := 8 * sec + j
      if slba ≤ l ∧ l < slba + nlb then takeAt data ((l - slba) * hb) 512 else takeAt base (512 * j) 512)).flatten
      ++ takeAt base 4096 8
  else takeAt (takeAt data ((sec - slba) * hb) hb) 0 4104

/-- The blocks of a sector as the host reads them. -/
def hostSector (n : NsSt) (sec slba nlb : Nat) (bs : List Byte) : List Byte :=
  if n.fmt = 2 then ((List.range 8).map (fun j =>
    if slba ≤ 8 * sec + j ∧ 8 * sec + j < slba + nlb then takeAt bs (512 * j) 512 else [])).flatten
  else bs.take n.hostBytes

/-- The stamps of a sector's blocks after a write. -/
def spliceStamps (n : NsSt) (sec slba nlb stamp : Nat) (old : List Nat) : List Nat :=
  (List.range n.perSec).map (fun j =>
    let l := n.perSec * sec + j
    if slba ≤ l ∧ l < slba + nlb then stamp else (old[j]?).getD 0)

/-- One sector of a write enters the cache in buffer `h`. -/
def State.cachePut (s : State) (n : NsSt) (sec slba nlb stamp sid : Nat) (data : List Byte) (h : Nat) : State :=
  let bs := spliceSector n sec slba nlb data (s.content n sec)
  let old := s.cached n.id sec
  let first := match old with
    | some x => min x.first stamp
    | none => stamp
  let stamps := spliceStamps n sec slba nlb stamp (match old with
    | some x => x.stamps
    | none => [])
  let sids := match old with
    | some x => if x.journal.isNone then (if x.sids.contains sid then x.sids else sid :: x.sids) else [sid]
    | none => [sid]
  let s1 := s.uncache n.id sec
  let s2 := (s1.depWrite 0xC0 h 0 (bs.take 4096)).2
  let s3 := if n.fmt = 1 then (s2.depWrite 0xC0 h 4096 (bs.drop 4096)).2 else s2
  s3.modHif (fun x => { x with cache := x.cache ++ [⟨n.id, sec, first, stamps, bs, h, none, sids⟩] })

/-- Sectors of a write enter the cache, one buffer each. -/
def State.cacheAll (s : State) (n : NsSt) (slba nlb stamp sid : Nat) (data : List Byte) : List (Nat × Nat) → State
  | [] => s
  | (sec, h) :: rest => (s.cachePut n sec slba nlb stamp sid data h).cacheAll n slba nlb stamp sid data rest

/-- Buffers for `k` sectors, all or none. -/
def State.allocBufs (s : State) (size : Nat) : Nat → List Nat → Option (List Nat) × State
  | 0, acc => (some acc.reverse, s)
  | k + 1, acc =>
    let (r, s1) := s.depAlloc 0xC0 size
    if r.code = 0 then s1.allocBufs size k (r.handle :: acc) else (none, s1.freeBufs acc)

/-- Sectors held by the cache and by writes whose data is arriving, in the limit of DIRTY_MAX (R323). -/
def State.dirtyRoom (s : State) (k : Nat) : Bool :=
  let busy := s.hif.cache.length + sumOf (s.hif.slots.map (fun c => c.bufs.length))
  decide (busy + k ≤ 256 * s.get R.SYS_DIRTY_MAX_DIRTY_MAX)

/-! ### Writes -/

/-- A write has taken effect: it completes now, or from the medium under FUA and in ARCHIVE (R322). -/
def State.writeDone (s : State) (c : CmdSlot) (secs : List Nat) : State :=
  let s1 := s.modCmd c.no (fun x => { x with effect := true, bufs := [] })
  let wait := secs.filter (fun x => (s1.cached c.e.nsid x).isSome)
  if (c.fua || c.mode == mARCHIVE) && !wait.isEmpty then s1.modCmd c.no (fun x => { x with left := wait })
  else (s1.finishSt c.no (cst scOk)).flushCheck

/-- The stream identifier that a write carries under the Streams directive; 0 for none (R305). -/
def State.streamId (s : State) (c : CmdSlot) : Nat :=
  if bitsOf (c.dw 2) 20 4 = 1 ∧ cnt (s.ctl c.ctrl).feats 0xD1 = 1 then bitsOf (c.dw 3) 16 16 else 0

/-- A write that names a stream opens it while the Streams directive is enabled (R305). -/
def State.streamTouch (s : State) (c : CmdSlot) : State :=
  let id := s.streamId c
  if id ≠ 0 ∧ !(s.ctl c.ctrl).streams.contains id then
    s.modCtl c.ctrl (fun x => { x with streams := x.streams ++ [id] })
  else s

/-- A Write obtains its buffers and its data is asked for (R317, R323). -/
def State.writeStart (s : State) (no : Nat) : State :=
  match s.ioNs no 0x01 with
  | none => s
  | some (c, n) =>
    let secs := n.sectors c.slba c.nlb
    if c.mode = mMIGRATE then s.finishSt no (cst scProtected)
    else if c.started || !s.dirtyRoom secs.length then s
    else
      let (r, s1) := s.allocBufs (max 4096 n.hostBytes) secs.length []
      match r with
      | none => s1
      | some hs => s1.modCmd no (fun x => { x with started := true, bufs := hs })

/-- A write to a packed namespace covers part of a stripe whose present content cannot be read (R351, R362). -/
def State.mergeBad (s : State) (n : NsSt) (slba nlb : Nat) : Bool :=
  n.packed && ((n.sectors slba nlb).map (· / 256)).dedup.any (fun st =>
    !(decide (slba ≤ st * 256 * n.perSec) && decide ((st + 1) * 256 * n.perSec ≤ slba + nlb))
      && (List.range 256).any (fun i => s.stripeBad n (256 * st + i)))

/-- All data of a Write has arrived (R317 to R319). -/
def State.writeEffect (s : State) (no : Nat) (x : Xfer) : State :=
  match s.ioNs no 0x01 with
  | none => s
  | some (c, n) =>
    if !c.started || !s.inTurn c then s
    else
      match xferStatus c n x with
      | some code => s.xferFail c code
      | none =>
        let secs := n.sectors c.slba c.nlb
        match s.capacityCheck n secs with
        | some st => ((s.freeBufs c.bufs).modCmd no (fun y => { y with bufs := [] })).finishSt no st
        | none =>
          if s.mergeBad n c.slba c.nlb then
            ((s.freeBufs c.bufs).modCmd no (fun y => { y with bufs := [] })).finishSt no (cst scUnrecovered)
          else
          let s1 := s.cacheAll n c.slba c.nlb c.stamp (s.streamId c) x.data (secs.zip c.bufs)
          ((s1.clearUnread n.id c.slba c.nlb).streamTouch c).writeDone c secs

/-- Zeros are written into a range: stripes of a packed namespace that it covers in full become UNMAPPED (R362). None where
no buffer is free. -/
def State.zeroRange (s : State) (n : NsSt) (slba nlb stamp : Nat) : Option (Except Cst State) :=
  let per := n.perSec
  let full := fun (st : Nat) => decide (slba ≤ st * 256 * per) && decide ((st + 1) * 256 * per ≤ slba + nlb)
  let secs := n.sectors slba nlb
  let part := if n.packed then secs.filter (fun x => !full (x / 256)) else secs
  let gone := if n.packed then ((secs.map (· / 256)).dedup).filter full else []
  match s.capacityCheck n part with
  | some st => some (.error st)
  | none =>
    if s.mergeBad n slba nlb then some (.error (cst scUnrecovered))
    else if !s.dirtyRoom part.length then none
    else
      let (r, s1) := s.allocBufs (max 4096 n.hostBytes) part.length []
      match r with
      | none => none
      | some hs =>
        let s2 := gone.foldl (fun (t : State) st => t.unmapStripe n.id st stamp) s1
        some (.ok ((s2.cacheAll n slba nlb stamp 0 [] (part.zip hs)).clearUnread n.id slba nlb))

/-- Write Zeroes takes effect (R317, R362). -/
def State.writeZeroes (s : State) (no : Nat) : State :=
  match s.ioNs no 0x08 with
  | none => s
  | some (c, n) =>
    if !s.inTurn c then s
    else if c.mode = mMIGRATE then s.finishSt no (cst scProtected)
    else match s.zeroRange n c.slba c.nlb c.stamp with
      | none => s
      | some (.error st) => s.finishSt no st
      | some (.ok s1) => s1.writeDone c (n.sectors c.slba c.nlb)

/-- Ranges of a Dataset Management command: starting block and length. -/
def dsmRanges (data : List Byte) : Nat → List (Nat × Nat)
  | 0 => []
  | k + 1 => (ofLeBytes (takeAt data 8 8), ofLeBytes (takeAt data 4 4)) :: dsmRanges (data.drop 16) k

/-- Deallocates the ranges in order; none where no buffer is free. -/
def State.dsmApply (s : State) (n : NsSt) (stamp : Nat) : List (Nat × Nat) → Option (Except Cst State)
  | [] => some (.ok s)
  | (a, k) :: rest =>
    if k = 0 then s.dsmApply n stamp rest
    else match s.zeroRange n a k stamp with
      | some (.ok s1) => s1.dsmApply n stamp rest
      | r => r

/-- Dataset Management: Deallocate acts on packed namespaces (R305, R362). -/
def State.datasetMgmt (s : State) (no : Nat) (x : Xfer) : State :=
  match s.ioNs no 0x09 with
  | none => s
  | some (c, n) =>
    if !s.inTurn c then s
    else if c.mode = mMIGRATE then s.finishSt no (cst scProtected)
    else
      let rs := dsmRanges x.data (bitsOf (c.dw 0) 0 8 + 1)
      match xferStatus c { n with fmt := 0 } x with
      | some code => s.xferFail c code
      | none =>
        if rs.any (fun r => decide (n.nsze < r.1 + r.2)) then s.finishSt no (cst scRange)
        else if !n.packed || !bitOf (c.dw 1) 2 then (s.modCmd no (fun y => { y with effect := true })).finishSt no (cst scOk)
        else match s.dsmApply n c.stamp rs with
          | none => s
          | some (.error st) => s.finishSt no st
          | some (.ok s1) => ((s1.modCmd no (fun y => { y with effect := true })).finishSt no (cst scOk)).flushCheck

/-! ### Reads -/

/-- A read covers an unreadable block (R328). -/
def State.unreadable (s : State) (ns slba nlb : Nat) : Bool :=
  s.hif.unread.any (fun u => u.1 == ns && decide (slba ≤ u.2.1) && decide (u.2.1 < slba + nlb))

/-- What reading the medium gave a Read or Verify: it is handed to the sequencers while `med` is none; else `med` lists
the sectors that could not be read, of which those not in the cache count. -/
def State.readBad (s : State) (c : CmdSlot) (n : NsSt) (bad : List Nat) : Bool :=
  s.unreadable n.id c.slba c.nlb
    || (n.sectors c.slba c.nlb).any (fun x => (bad.contains x && (s.cached n.id x).isNone) || s.stripeBad n x)

/-- A Read's last sector is captured (R317, R318, R304). -/
def State.readCmd (s : State) (no : Nat) (x : Xfer) (med : Option (List Nat)) : State :=
  match s.ioNs no 0x02 with
  | none => s
  | some (c, n) =>
    if !s.inTurn c then s
    else match med with
      | none => s.modCmd no (fun y => { y with started := true, handed := true })
      | some bad =>
        if s.readBad c n bad then s.finishSt no (cst scUnrecovered)
        else match xferStatus c n x with
          | some code => s.xferFail c code
          | none =>
            let data := ((n.sectors c.slba c.nlb).map (fun k => hostSector n k c.slba c.nlb (s.content n k))).flatten
            let s1 := s.modCmd no (fun y => { y with effect := true })
            let s2 := if s.mode = mMIGRATE then s1.modSys (fun y => { y with migBytes := y.migBytes + data.length }) else s1
            s2.finish no ⟨cst scOk, 0, 0, data⟩

/-- A Verify's last sector has been read and checked; `pi`: the outcome of the Protection Information check. -/
def State.verifyCmd (s : State) (no : Nat) (pi : Nat) (med : Option (List Nat)) : State :=
  match s.ioNs no 0x0C with
  | none => s
  | some (c, n) =>
    if !s.inTurn c then s
    else match med with
      | none => s.modCmd no (fun y => { y with started := true, handed := true })
      | some bad =>
        if s.readBad c n bad then s.finishSt no (cst scUnrecovered)
        else match xferStatus c n ⟨0, [], pi⟩ with
          | some code => s.xferFail c code
          | none => (s.modCmd no (fun y => { y with effect := true })).finishSt no (cst scOk)

/-! ### Flush and Pool Exhausted -/

/-- A Flush waits, or completes (R324, Table 13-4). -/
def State.flushCmd (s : State) (no : Nat) : State :=
  match s.ioCmd no 0x00 with
  | none => s
  | some c =>
    if s.mode = mSPINUP || !s.inTurn c then s
    else (s.modCmd no (fun x => { x with started := true })).flushCheck

/-- 1 s without buffers (R268, R323). -/
def State.poolExhausted (s : State) (no : Nat) : State :=
  match s.cmd no with
  | none => s
  | some c =>
    let acre := bitOf (cnt (s.ctl c.ctrl).feats 0x16) 0
    if c.isIo && (isWriteOp c.e.opc || isReadOp c.e.opc) && c.res.isNone && !c.effect && !c.started && c.resv == some true
        && (loadedMode s.mode || s.mode == mWORKSHOP) && s.passed c.stamp 1000000000 then s.finishSt no (stPool acre)
    else s

/-! ### Reservation commands (R336 to R338) -/

/-- Removes registrants; a holder that is removed leaves the reservation, which is released when no registrant is left in
an All Registrants type. -/
def Resv.unregister (r : Resv) (p : Nat → Bool) : Resv :=
  let regs := r.regs.filter (fun e => !p e.1)
  let gone := match r.holder with
    | some h => if 5 ≤ r.rtype then regs.isEmpty else p h
    | none => false
  let holder := if gone then none
    else match r.holder with
      | some h => if 5 ≤ r.rtype && p h then (regs.head?).map (·.1) else some h
      | none => none
  { r with regs := regs, holder := holder, rtype := (if holder.isNone then 0 else r.rtype) }

/-- Reservation Register: `a` is RREGA, `iekey` IEKEY, with the current and the new key. -/
def Resv.register (r : Resv) (host a : Nat) (iekey : Bool) (crkey nrkey : Nat) : Option Resv :=
  let key := (r.regs.find? (fun e => e.1 == host)).map (·.2)
  let match0 := iekey || key == some crkey
  let g := { r with gen := (r.gen + 1) % 2 ^ 32 }
  if a = 0 then
    match key with
    | some k => if k = nrkey then some g else none
    | none => some { g with regs := g.regs ++ [(host, nrkey)] }
  else if a = 1 then (if key.isSome && match0 then some (g.unregister (fun h => h == host)) else none)
  else
    match key with
    | some _ => if match0 then some { g with regs := g.regs.map (fun e => if e.1 = host then (host, nrkey) else e) } else none
    | none => if iekey then some { g with regs := g.regs ++ [(host, nrkey)] } else none

/-- The effect on a reservation is made and the commands that waited for it are checked. -/
def State.resvEnd (s : State) (c : CmdSlot) (n : NsSt) (r : Option Resv) : State :=
  let s1 := s.modCmd c.no (fun x => { x with effect := true })
  match r with
  | some v => (((s1.modNs n.id (fun y => { y with resv := v })).finishSt c.no (cst scOk))).resvSettle
  | none => (s1.finishSt c.no (cst scConflict)).resvSettle

/-- A reservation command whose turn it is, with its namespace. -/
def State.resvCmd (s : State) (no opc : Nat) : Option (CmdSlot × NsSt) :=
  match s.ioCmd no opc with
  | some c => match s.nsOf c.e.nsid with
    | some n => if s.resvPending n.id c.stamp || !s.inTurn c then none else some (c, n)
    | none => none
  | none => none

/-- A reservation notification to the controllers of the hosts in `hs`. -/
def State.resvNotify (s : State) (hs : List Nat) : State :=
  (List.range 2).foldl (fun (t : State) k => if hs.contains (t.hostOf k) then t.raiseEv k ⟨6, 0, 0x80⟩ else t) s

/-- Reservation Register (opcode 0Dh). -/
def State.resvRegister (s : State) (no : Nat) (x : Xfer) : State :=
  match s.resvCmd no 0x0D with
  | none => s
  | some (c, n) =>
    match xferStatus c { n with fmt := 0 } x with
    | some code => s.xferFail c code
    | none =>
      let a := bitsOf (c.dw 0) 0 3
      let cptpl := bitsOf (c.dw 0) 30 2
      if 3 ≤ a ∨ cptpl = 1 then (s.finishSt no (cst scField)).resvSettle
      else
        let r0 : Resv := { n.resv with ptpl := (if cptpl = 2 then false else if cptpl = 3 then true else n.resv.ptpl) }
        s.resvEnd c n (r0.register (s.hostOf c.ctrl) a (bitOf (c.dw 0) 3) (ofLeBytes (takeAt x.data 0 8))
          (ofLeBytes (takeAt x.data 8 8)))

/-- In-flight commands of preempted hosts, fetched before the Acquire. -/
def State.preempted (s : State) (n : NsSt) (hosts : List Nat) (stamp : Nat) : List CmdSlot :=
  s.hif.slots.filter (fun d => d.isIo && d.e.nsid == n.id && d.res.isNone && !d.effect && decide (d.stamp < stamp)
    && hosts.contains (s.hostOf d.ctrl))

/-- In-flight commands of preempted hosts are aborted where Abort's rule lets them be (R334, R337). -/
def State.preemptAbort (s : State) (n : NsSt) (hosts : List Nat) (stamp : Nat) : State :=
  ((s.preempted n hosts stamp).filter (fun d => !d.handed)).foldl (fun (t : State) d =>
    (t.freeBufs d.bufs).finishSt d.no (cst scPreempted)) s

/-- Reservation Acquire (opcode 11h): Acquire, Preempt, Preempt and Abort, which ends once each command of a preempted host
has ended or taken effect (R337). -/
def State.resvAcquire (s : State) (no : Nat) (x : Xfer) : State :=
  match s.resvCmd no 0x11 with
  | none => s
  | some (c, n) =>
    match xferStatus c { n with fmt := 0 } x with
    | some code => s.xferFail c code
    | none =>
      let a := bitsOf (c.dw 0) 0 3
      let ty := bitsOf (c.dw 0) 8 8
      let crkey := ofLeBytes (takeAt x.data 0 8)
      let prkey := ofLeBytes (takeAt x.data 8 8)
      let me := s.hostOf c.ctrl
      let r := n.resv
      let mine := r.regs.any (fun e => e.1 == me && e.2 == crkey)
      if 3 ≤ a ∨ ty = 0 ∨ 6 < ty then (s.finishSt no (cst scField)).resvSettle
      else if !mine then s.resvEnd c n none
      else if a = 0 then
        match r.holder with
        | none => s.resvEnd c n (some { r with holder := some me, rtype := ty })
        | some h => s.resvEnd c n (if (h = me ∨ 5 ≤ r.rtype) ∧ r.rtype = ty then some r else none)
      else
        let all := decide (5 ≤ r.rtype) && prkey == 0
        let victims := (r.regs.filter (fun e => e.1 != me && (all || e.2 == prkey))).map (·.1)
        let holderHit := all || (match r.holder with
          | some h => decide (r.rtype < 5) && r.regs.any (fun e => e.1 == h && e.2 == prkey)
          | none => false)
        if victims.isEmpty && !holderHit then s.resvEnd c n none
        else
          let r1 := { (r.unregister (fun h => victims.contains h)) with gen := (r.gen + 1) % 2 ^ 32 }
          let r2 := if holderHit then { r1 with holder := some me, rtype := ty } else r1
          if a = 2 then
            let s1 := s.preemptAbort n victims c.stamp
            let wait := (s1.preempted n victims c.stamp).map (·.no)
            let s2 := (s1.modNs n.id (fun y => { y with resv := r2 })).modCmd no (fun y => { y with effect := true, left := wait })
            ((s2.acquireCheck).resvSettle).resvNotify victims
          else (s.resvEnd c n (some r2)).resvNotify victims

/-- Reservation Release (opcode 15h): Release and Clear. -/
def State.resvRelease (s : State) (no : Nat) (x : Xfer) : State :=
  match s.resvCmd no 0x15 with
  | none => s
  | some (c, n) =>
    match xferStatus c { n with fmt := 0 } x with
    | some code => s.xferFail c code
    | none =>
      let a := bitsOf (c.dw 0) 0 3
      let ty := bitsOf (c.dw 0) 8 8
      let me := s.hostOf c.ctrl
      let r := n.resv
      let mine := r.regs.any (fun e => e.1 == me && e.2 == ofLeBytes (takeAt x.data 0 8))
      let others := (r.regs.filter (fun e => e.1 != me)).map (·.1)
      if 2 ≤ a then (s.finishSt no (cst scField)).resvSettle
      else if !mine then s.resvEnd c n none
      else if a = 1 then
        (s.resvEnd c n (some { r with regs := [], holder := none, rtype := 0, gen := (r.gen + 1) % 2 ^ 32 })).resvNotify others
      else if !r.holds me then s.resvEnd c n (some r)
      else if ty ≠ r.rtype then (s.finishSt no (cst scField)).resvSettle
      else (s.resvEnd c n (some { r with holder := none, rtype := 0 })).resvNotify (if 3 ≤ ty then others else [])

/-- The Reservation Status data structure: generation, type, registrants, PTPL state, then one entry each. -/
def Resv.status (r : Resv) (ctrlOf : Nat → Nat) : List Byte :=
  leBytes 4 r.gen ++ [BitVec.ofNat 8 r.rtype] ++ leBytes 2 r.regs.length ++ [0, 0, BitVec.ofNat 8 (b2n r.ptpl)]
    ++ List.replicate 14 0
    ++ (r.regs.map (fun e => leBytes 2 (ctrlOf e.1) ++ [BitVec.ofNat 8 (b2n (r.holds e.1))] ++ List.replicate 5 0
      ++ leBytes 8 e.1 ++ leBytes 8 e.2)).flatten

/-- Reservation Report (opcode 0Eh): the state left by the earlier reservation commands. -/
def State.resvReport (s : State) (no : Nat) (x : Xfer) : State :=
  match s.resvCmd no 0x0E with
  | none => s
  | some (c, n) =>
    match xferStatus c { n with fmt := 0 } x with
    | some code => s.xferFail c code
    | none =>
      let ctrlOf := fun (h : Nat) => match (List.range 2).find? (fun k => s.hostOf k == h) with
        | some k => k + 1
        | none => 0xFFFF
      (s.modCmd no (fun y => { y with effect := true })).finish no
        ⟨cst scOk, 0, 0, takeAt (n.resv.status ctrlOf) 0 (4 * (c.dw 1 + 1))⟩

/-! ### What the medium side reports (R322, R326, R366) -/

/-- The 16-byte records of a journal sector, 256 of them. -/
def journalSector (js : List JournalRec) (a : Nat) (bs : List Byte) : Nat → List JournalRec
  | 0 => js
  | k + 1 => journalSector (journalCopied js a (bs.take 16)) a (bs.drop 16) k

/-- The sector that an armed write carries to the medium: namespace and sector; none for system tracks and packed
containers. -/
def State.armSector (s : State) (h : Nat) (a : Arm) : Option (Nat × Nat) :=
  if a.track / 2 ^ s.get (R.SEQ_FMT_CG_LOG2 (h / 6)) = 0 || a.packed then none else some (a.nsi + 1, a.lba)

/-- A sector is on the medium. -/
def State.ioDurable (s : State) (h : Nat) (a : Arm) : State :=
  let buf := fun (n : Nat) => bytesAt 0 s.mem (s.bufAddr a.handle) n
  match s.armSector h a with
  | some (ns, sec) =>
    match s.cached ns sec with
    | some x => (if x.handle = a.handle then s.cacheWritten x else s.setMedium ns sec (takeAt (buf 4096) 0 4104)).flushCheck
    | none => s.setMedium ns sec (takeAt (buf 4096) 0 4104)
  | none =>
    if a.track / 2 ^ s.get (R.SEQ_FMT_CG_LOG2 (h / 6)) = 0 then
      let js := journalSector s.rte.journal (h / 6) (buf 4096) 256
      (({ s with rte := { s.rte with journal := js } } : State).durableSweep).flushCheck
    else if a.packed then s.setPhys (a.lba % 2 ^ 40) (buf 4096)
    else s

/-- A write of a sector failed for good: the commands that wait for it end with Write Fault, and other writes in its cached
data become deferred errors (R130, R326). -/
def State.ioWriteFail (s : State) (h : Nat) (a : Arm) : State :=
  match s.armSector h a with
  | none => s
  | some (ns, sec) =>
    match s.cached ns sec with
    | none => s
    | some x =>
      if x.handle ≠ a.handle then s
      else
        let out := s.hif.slots.filter (fun c => c.effect && c.res.isNone && c.e.nsid == ns && c.left.contains sec)
        let s1 := out.foldl (fun (t : State) c => t.finishSt c.no (cst scWriteFault)) s
        let own := out.map (·.stamp)
        let x1 : CacheSec := { x with stamps := x.stamps.map (fun t => if own.contains t then 0 else t) }
        (s1.loseSector x1 1).flushCheck

/-- One report of the medium side. -/
def State.ioEvent (s : State) (e : IoEvent) : State :=
  match e with
  | .durable h a => s.ioDurable h a
  | .writeFail h a => s.ioWriteFail h a

/-- The reports of the medium side are acted on. -/
def State.ioDrain (s : State) : State :=
  s.ioTodo.foldl (fun (t : State) e => t.ioEvent e) { s with ioTodo := [] }

/-! ### Destage and discard -/

/-- Destage of the cache begins (R323). -/
def State.destageStart (s : State) : State :=
  if s.hif.cache.isEmpty then s else s.modHif (fun h => { h with destaging := true })

/-- Commands that a faulting unit held end with Discarded by Fault (R333, R395): `l` are the slots whose work was lost. -/
def State.discarded (s : State) (u : CUnit) (l : List Nat) : State :=
  if s.flt.history.any (fun e => decide (e.1 = u) && decide (s.now ≤ e.2 + 1000000)) then
    l.foldl (fun (t : State) no => match t.cmd no with
      | some c => if c.isIo && c.res.isNone && !c.effect then (t.freeBufs c.bufs).finishSt no stDiscarded else t
      | none => t) s
  else s

end Sys2Proof.Machine
end

