-- ==== Sys2Proof/Machine/Secure.lean ====
section
/-!
DEFINITION. Images, boot records, authentication, the sequencer patch, downloads and unlock (chapter 18).
-/

namespace Sys2Proof.Machine

open Sys2Proof

/-! ### Images (R422, R423) -/

/-- A field of `k` bytes at byte `i`. -/
def imgNat (m : List Byte) (i k : Nat) : Nat := ofLeBytes (takeAt m i k)

def imgKind (m : List Byte) : Nat := imgNat m 5 1
def imgHb2 (m : List Byte) : Bool := bitOf (imgNat m 6 1) 0
def imgId (m : List Byte) : Nat := imgNat m 8 4
def imgLen (m : List Byte) : Nat := imgNat m 12 4
def imgSvn (m : List Byte) : Nat := imgNat m 20 1
def imgMinFw (m : List Byte) : Nat := imgNat m 24 4

/-- The records of an image: type and body of each, and the bytes behind them; none where they do not fit. -/
def imageRecs : Nat → List Byte → Option (List (Nat × List Byte) × List Byte)
  | 0, m => some ([], m)
  | k + 1, m =>
    let n := imgNat m 4 4
    let pad := (n + 7) / 8 * 8
    if m.length < 8 + pad then none
    else match imageRecs k (m.drop (8 + pad)) with
      | some (l, r) => some ((imgNat m 0 2, takeAt m 8 n) :: l, r)
      | none => none

/-- The records of an image whose COUNT records end exactly at LENGTH − 512. -/
def recordsOf (m : List Byte) : Option (List (Nat × List Byte)) :=
  match imageRecs (imgNat m 18 2) ((m.take (imgLen m - 512)).drop 64) with
  | some (l, []) => some l
  | _ => none

/-- The first record of a type. -/
def recBody (l : List (Nat × List Byte)) (t : Nat) : List Byte :=
  match l.find? (fun r => r.1 == t) with
  | some r => r.2
  | none => []

/-- The header check of Table 18-3. -/
def headerOk (kind : Nat) (m : List Byte) : Bool :=
  imgNat m 0 4 == 0x7A3C51D2 && imgNat m 4 1 == 1 && imgKind m == kind && imgNat m 16 2 == 0x4A24
    && imgLen m % 8 == 0 && decide (576 ≤ imgLen m) && decide (imgLen m ≤ if kind = 1 then 33554432 else 1048576)
    && decide (imgLen m ≤ m.length) && (recordsOf m).isSome

/-- The signature block, its two certificates and the image signature (R423). -/
def sigBlock (m : List Byte) : List Byte := takeAt m (imgLen m - 512) 512
def certIssuing (m : List Byte) : List Byte := takeAt (sigBlock m) 0 200
def certSigner (m : List Byte) : List Byte := takeAt (sigBlock m) 200 200
def certKey (c : List Byte) : List Byte := takeAt c 8 96
def certSigned (key c : List Byte) : Bool := Config.ecdsaOk key (takeAt c 0 104) (takeAt c 104 96)

/-- Every check of Table 18-3 but the version check. -/
def State.imageOk (s : State) (kind : Nat) (m : List Byte) : Bool :=
  let iss := certIssuing m
  let sgn := certSigner m
  let man := kind == 1
  headerOk kind m
    && imgNat iss 0 1 == (if man then 1 else 3) && certSigned Config.rootKey iss && !s.sec.revoked.contains (imgNat iss 4 4)
    && imgNat sgn 0 1 == (if man then 2 else 4) && certSigned (certKey iss) sgn
    && (!man || !s.flag R.SEC_STAT_MAKER_BOUND || Config.sha384 (certKey sgn) == s.sec.makerHash)
    && Config.ecdsaOk (certKey sgn) (m.take (imgLen m - 112)) (takeAt (sigBlock m) 400 96)

/-- The version check of Table 18-3. -/
def State.versionOk (s : State) (kind : Nat) (m : List Byte) : Bool :=
  if kind = 1 then decide (imgMinFw m ≤ s.get R.SEC_FW_VER_VERSION) else decide (s.get R.SEC_STAT_FUSE_SVN ≤ imgSvn m)

/-! ### Manifest records (R427, R428) -/

/-- The entries of a register-load body. -/
def regLoads : Nat → List Byte → List (Nat × Nat)
  | 0, _ => []
  | k + 1, m => (imgNat m 0 4, imgNat m 4 4) :: regLoads k (m.drop 8)
def loadsOf (m : List Byte) : List (Nat × Nat) := regLoads (m.length / 8) m

/-- A record that is a register load. -/
def isLoad (t : Nat) : Bool := (2 ≤ t && t ≤ 8) || t == 10 || t == 11 || t == 14

/-- The blocks that a register-load record names (Table 18-4). -/
def loadBlocks (t : Nat) : List (Nat × Nat) :=
  match t with
  | 2 => [(0x01000000, 0x02000000), (0x05000000, 0x05100000)]
  | 3 => [(0x02400000, 0x02500000), (0x03000000, 0x03400000)]
  | 4 => [(0x02000000, 0x02400000), (0x02500000, 0x03000000)]
  | 5 => [(0x02000000, 0x02400000)]
  | 6 => [(0x03400000, 0x03500000)]
  | 7 => [(0x03500000, 0x03600000)]
  | 8 => [(0x03600000, 0x04000000)]
  | 10 => [(0x04000000, 0x04100000), (0x05100000, 0x06000000)]
  | 11 => [(0x02400000, 0x02500000)]
  | 14 => [(0x06200000, 0x06300000)]
  | _ => []

/-- A register-load address lies in the blocks its type names, and outside the reserved offsets of R55. -/
def loadOk (t a : Nat) : Bool :=
  (loadBlocks t).any (fun b => decide (b.1 ≤ a) && decide (a < b.2)) && !(decide (0x01000110 ≤ a) && decide (a ≤ 0x010001FF))

/-- Records that an HB2_IMAGE record replaces (R428). -/
def hb2Replaced (t : Nat) : Bool := 3 ≤ t && t ≤ 9

/-- The Manifest's records are as R427 and R428 ask: known types, "once" and required ones, load addresses, one DEFECTS
record an actuator, LOCK_N, and for an HB-2 image a translatable image and a fitting MODE_POLICY. -/
def manifestOk (m : List Byte) : Bool :=
  match recordsOf m with
  | none => false
  | some l0 =>
    let hb := imgHb2 m
    let l := if hb then l0.filter (fun r => !hb2Replaced r.1) else l0
    let count := fun (t : Nat) => (l.filter (fun r => r.1 == t)).length
    let once := ([1, 2, 8, 10, 11, 12] : List Nat).all (fun t => (hb && hb2Replaced t) || count t == 1)
    let some1 := ([3, 4, 5, 6, 7, 14] : List Nat).all (fun t => (hb && hb2Replaced t) || decide (1 ≤ count t))
    let known := l0.all (fun r => decide (1 ≤ r.1) && decide (r.1 ≤ 14))
    let loads := l.all (fun r => !isLoad r.1 || (loadsOf r.2).all (fun e => loadOk r.1 e.1))
    let defs := ((l.filter (fun r => r.1 == 9)).map (fun r => imgNat r.2 0 1))
    let lockN := imgNat (recBody l 12) 1 1
    let pol := (loadsOf (recBody l 2)).filter (fun e => e.1 == R.A_SYS_MODE_POLICY)
    let polOk := pol.all (fun e => (setBits (bitsOf e.2 0 16) 16).all (fun b => ([1, 3, 9, 11] : List Nat).contains b)
      && ([1, 3, 9] : List Nat).contains (bitsOf e.2 16 4))
    known && once && some1 && loads && decide (defs.Nodup) && decide (1 ≤ lockN) && decide (lockN ≤ 15)
      && (if hb then count 13 == 1 && (Config.hb2Image (recBody l 13)).isSome && polOk else count 13 == 0)

/-! ### The NOR regions (Tables 18-1, 18-7) -/

/-- The image that lies at a NOR address, as far as its LENGTH, at most `top` bytes. -/
def State.norImage (s : State) (a top : Nat) : List Byte := s.norBytes a (min top (imgLen (s.norBytes a 64)))
def slotAddr (k : Nat) : Nat := if k = 2 then 0x2A00000 else 0x2900000
def State.slotImage (s : State) (k : Nat) : List Byte := s.norImage (slotAddr k) 1048576
def State.manifestImage (s : State) : List Byte := s.norImage 0 33554432

/-- Erases the blocks of a region that `bs` needs and programs it. -/
def State.norStore (s : State) (a : Nat) (bs : List Byte) : State :=
  { s with nor := norProgram (norErase s.nor a ((bs.length + 65535) / 65536 * 65536)) a bs }

/-- Copy `k` of the boot record, where it is valid: ACTIVE, PENDING and SEQ. -/
def State.bootCopy (s : State) (k : Nat) : Option (Nat × Nat × Nat) :=
  let m := s.norBytes (0x2B00000 + 65536 * k) 16
  if imgNat m 0 4 = 0x2B0C91E4 ∧ imgNat m 12 2 = crc16 (m.take 12) then some (imgNat m 4 1, imgNat m 5 1, imgNat m 8 4) else none

/-- The valid copy with the higher SEQ, with its number. -/
def State.bootRecord (s : State) : Option (Nat × Nat × Nat × Nat) :=
  match s.bootCopy 0, s.bootCopy 1 with
  | some a, some b => if a.2.2 < b.2.2 then some (1, b) else some (0, a)
  | some a, none => some (0, a)
  | none, some b => some (1, b)
  | none, none => none

/-- Writes a boot record into the copy that holds the lower SEQ. -/
def State.bootWrite (s : State) (active pending : Nat) : State :=
  let (k, seq) : Nat × Nat := match s.bootRecord with
    | some (k, _, _, q) => (1 - k, (q + 1) % 2 ^ 32)
    | none => (0, 1)
  let m : List Byte := leBytes 4 0x2B0C91E4 ++ [BitVec.ofNat 8 active, BitVec.ofNat 8 pending, 0, 0] ++ leBytes 4 seq
  (s.norStore (0x2B00000 + 65536 * k) (m ++ leBytes 2 (crc16 m) ++ [0xFF, 0xFF])).set R.SEC_STAT_PENDING_SLOT pending

/-- The part is bound to the maker of a Manifest (R425); `ok`: the fuses took it. -/
def State.bindMaker (s : State) (m : List Byte) (ok : Bool) : State :=
  if s.flag R.SEC_STAT_MAKER_BOUND then s
  else if !ok then s.fault .sec 5
  else
    let s1 := s.setFlag R.SEC_STAT_MAKER_BOUND true
    { s1 with sec := { s1.sec with makerHash := Config.sha384 (certKey (certSigner m)) } }

/-! ### The patch (R426, R149) -/

/-- A decrypted patch that passes its own checks. -/
def patchOk (p : List Byte) : Bool :=
  (takeAt p 65668 28).all (fun b => b == 0)
    && (List.range 32).all (fun n =>
      let t := imgNat p (65536 + 4 * n) 4
      !bitOf t 31 || decide (0x3000 ≤ bitsOf t 16 14))

/-- The patch is loaded into sequencer `a`. -/
def State.patchInto (s : State) (p : List Byte) (a : Nat) : State :=
  let words := ((List.range 4096).map (fun k => (k, imgNat p (16 * k) 16))).filter (fun e => e.2 != 0)
  let s1 := (s.arrayStored 0x30 a 0 0x1000).modSq a (fun q => { q with patch := words })
  let s2 := (List.range 32).foldl (fun (t : State) n =>
    let v := imgNat p (65536 + 4 * n) 4
    ((t.set (R.SEQ_TRAP_VALID a n) (bitsOf v 31 1)).set (R.SEQ_TRAP_TO a n) (bitsOf v 16 14)).set (R.SEQ_TRAP_FROM a n)
      (bitsOf v 0 14)) s1
  (s2.set (R.SEQ_PATCH_ID_ID a) (imgNat p 65664 4)).setFlag (R.SEQ_PATCH_ID_LOADED a) true

/-- A patch that fails authentication: patch RAM is zero, every trap is invalid, and PATCH_BAD sets (R149). -/
def State.patchFail (s : State) (a : Nat) : State :=
  let s1 := (s.arrayStored 0x30 a 0 0x1000).modSq a (fun q => { q with patch := [] })
  let s2 := (List.range 32).foldl (fun (t : State) n => t.set (R.SEQ_TRAP_VALID a n) 0) s1
  (s2.setFlag (R.SEQ_PATCH_ID_LOADED a) false).fault (.seq a) 7

/-- The patch of a firmware image is decrypted and loaded into every sequencer, or fails in each. -/
def State.patchImage (s : State) (m : List Byte) : State :=
  let b := recBody ((recordsOf m).getD []) 0x0103
  let good := match Config.gcmOpen (takeAt b 0 12) (m.take 64) (takeAt b 12 65696) (takeAt b 65708 16) with
    | some p => if patchOk p then some p else none
    | none => none
  (List.range 4).foldl (fun (t : State) a => match good with
    | some p => (t.patchInto p a).sqPatchEnd a
    | none => (t.patchFail a).sqPatchEnd a) s

/-! ### Downloads (R430, R431) -/

/-- A piece of an image: accepted into the buffer, or outside the limits. A piece at offset 0 begins a new image. -/
def State.downloadPiece (s : State) (k ofs : Nat) (bs : List Byte) : Option State :=
  let n := bs.length
  let mine := match s.sec.dl with
    | some (j, m) => if j = k ∧ ofs ≠ 0 then m else []
    | none => []
  let last : Option Nat := if ofs = 0 then none else match s.sec.dl with
    | some (j, _) => if j = k then s.sec.dlEnd else none
    | none => none
  let top := if s.memFailed then 1048576 else 33554432
  let late : Bool := match last with
    | some e => decide (e < ofs + n)
    | none => false
  if ofs % 4096 ≠ 0 ∨ top < ofs + n ∨ late then none
  else
    let e := if n % 4096 = 0 then last else some (ofs + n)
    some { s with sec := { s.sec with dl := some (k, putBytes 0xFF mine ofs bs), dlEnd := e } }

/-- The image in the download buffer. -/
def State.dlImage (s : State) : List Byte :=
  match s.sec.dl with
  | some (_, m) =>
    let n := imgLen (bytesAt 0xFF m 0 64)
    bytesAt 0xFF m 0 (min n 33554432)
  | none => []

/-- The buffer is empty again. -/
def State.dlClear (s : State) : State := { s with sec := { s.sec with dl := none, dlEnd := none } }

/-- The firmware slot that FS names: FS 0 is the slot that is not ACTIVE (Table 18-8). -/
def State.commitSlot (s : State) (fs : Nat) : Nat :=
  if fs ≠ 0 then fs else if s.get R.SEC_STAT_ACTIVE_SLOT = 1 then 2 else 1

/-- The status of R431, or none for success. -/
def State.commitCheck (s : State) (fs ca : Nat) (img : List Byte) (unlocked : Bool) : Option Nat :=
  let kind := imgKind img
  let man := kind == 1 && ca != 2
  if 4 ≤ ca ∨ 2 < fs ∨ (man ∧ ca ≠ 1) then some scField
  else if man && !unlocked && s.flag R.SEC_STAT_MANIFEST_VALID then some scDenied
  else if !s.imageOk (if man then 1 else 2) img then some 0x107
  else if !s.versionOk (if man then 1 else 2) img then some 0x113
  else none

/-- The slot that the boot record names ACTIVE. -/
def State.bootActive (s : State) : Nat :=
  match s.bootRecord with
  | some (_, a, _, _) => a
  | none => s.get R.SEC_STAT_ACTIVE_SLOT

/-- Firmware Commit (R431, Table 18-8): an accepted image is written and named; action 011b goes on to activation and has
not completed. `unlocked`: the host path was unlocked in WORKSHOP at the fetch. -/
def State.commit (s : State) (no stamp fs ca : Nat) (unlocked : Bool) : State :=
  let slot := s.commitSlot fs
  let img := if ca = 2 then s.slotImage slot else s.dlImage
  match s.commitCheck fs ca img unlocked with
  | some st => (if st = 0x113 then s.fault .sec 4 else s).finishSt no (cst st)
  | none =>
    if imgKind img = 1 then
      let s1 := ((s.norStore 0 img).bindMaker img true).ldgRaise 0x0101
        (leBytes 4 (imgId img) ++ leBytes 4 (s.get R.SEC_MANIFEST_ID_ID) ++ [BitVec.ofNat 8 (b2n (imgHb2 img))])
      s1.dlClear.finishSt no (cst scOk)
    else
      let s1 := if ca = 2 then s else (s.norStore (slotAddr slot) img).dlClear
      let s2 := if ca = 1 ∨ ca = 2 then s1.bootWrite s1.bootActive slot else s1
      if ca = 3 then
        (s2.modHif (fun h => { h with activating := some (stamp, no, slot) })).raiseBoth ⟨2, 1, 3⟩
      else s2.finishSt no (cst scOk)

/-! ### Unlock (R433 to R436) -/

def State.secPath (s : State) (p : Nat) : SecPath := (s.sec.paths[p]?).getD ⟨none, none, none, 0⟩
def State.modPath (s : State) (p : Nat) (f : SecPath → SecPath) : State :=
  { s with sec := { s.sec with paths := listMod s.sec.paths p f } }

/-- SEC_STAT bits of a path. -/
def chalFld (p : Nat) : Fld := if p = 0 then R.SEC_STAT_HOST_CHAL else R.SEC_STAT_DBG_CHAL
def unlFld (p : Nat) : Fld := if p = 0 then R.SEC_STAT_HOST_UNLOCKED else R.SEC_STAT_DBG_UNLOCKED
def lockoutFld (p : Nat) : Fld := if p = 0 then R.SEC_STAT_HOST_LOCKOUT else R.SEC_STAT_DBG_LOCKOUT
def failsFld (p : Nat) : Fld := if p = 0 then R.SEC_FAILS_HOST_FAILS else R.SEC_FAILS_DBG_FAILS
def locksFld (p : Nat) : Fld := if p = 0 then R.SEC_FAILS_HOST_LOCKS else R.SEC_FAILS_DBG_LOCKS

/-- The method is allowed on the path. -/
def State.methodOk (s : State) (p m : Nat) : Bool :=
  match s.sec.keys with
  | some k => bitOf k.methods (2 * p + m)
  | none => m == 1

/-- Milliseconds of lockout that are left on a path, counted in operating time. -/
def State.lockLeft (s : State) (p : Nat) : Nat :=
  match (s.secPath p).lockEnd with
  | some t => t - s.optimeAt s.now
  | none => 0

/-- An attempt ends. -/
def State.chalEnd (s : State) (p : Nat) : State := (s.modPath p (fun x => { x with chal := none })).setFlag (chalFld p) false

/-- An attempt is opened: a refusal, or the challenge. -/
def State.challenge (s : State) (p m stamp : Nat) : (Option Nat × Nat) × State :=
  if 2 ≤ p ∨ 2 ≤ m ∨ !s.methodOk p m then ((some scField, 0), s)
  else if s.lockLeft p ≠ 0 then ((some scDenied, 0), s)
  else
    let (x, s1) := if m = 1 then s.draw else (0, s)
    let ch := if m = 1 then 1 + x % (2 ^ 64 - 1) else 0
    ((none, ch), (s1.modPath p (fun y => { y with chal := some (m, ch, stamp) })).setFlag (chalFld p) true)

/-- The message M that a challenge-response signs (R434). -/
def State.unlockMessage (s : State) (p m ch : Nat) : List Byte :=
  leBytes 8 ch ++ [BitVec.ofNat 8 p, BitVec.ofNat 8 m, 0, 0] ++ leBytes 4 (s.rd R.A_SYS_ID).toNat
    ++ (if s.sec.ident.isEmpty then List.replicate 20 0x20 else takeAt s.sec.ident 8 20)

/-- The bytes without trailing zeros. -/
def trimZeros (l : List Byte) : List Byte := (l.reverse.dropWhile (· == 0)).reverse

/-- A response is correct (R434). -/
def State.responseOk (s : State) (p m ch : Nat) (bs : List Byte) : Bool :=
  if m = 0 then
    match s.sec.keys with
    | some k => !(trimZeros bs).isEmpty && Config.sha384 (k.salt ++ trimZeros bs) == k.hash
    | none => false
  else
    bs.length == 96 && Config.ecdsaOk (match s.sec.keys with
      | some k => k.crKey
      | none => Config.serviceKey) (s.unlockMessage p m ch) bs

/-- A wrong response is counted; from the LOCK_N-th in a row on it starts a lockout (R435). -/
def State.wrongResponse (s : State) (p : Nat) : State :=
  let n := satN (s.get (failsFld p) + 1) 255
  let lockN := match s.sec.keys with
    | some k => k.lockN
    | none => 5
  let s1 := (s.set (failsFld p) n).fault .sec 2
  if n < lockN then s1
  else
    let old := (s.secPath p).lockLen
    let len := if old = 0 then 1 else min 1024 (2 * old)
    let s2 := s1.modPath p (fun x => { x with lockLen := len, lockEnd := some (s.optimeAt s.now + 60000 * len) })
    (((s2.bump (locksFld p) 1).setFlag (lockoutFld p) true).fault .sec 3)

/-- A response ends an attempt and is judged: its status. -/
def State.respond (s : State) (p m numd stamp : Nat) (bs : List Byte) : Nat × State :=
  if 2 ≤ p ∨ 2 ≤ m ∨ numd = 0 ∨ 64 < numd then (scField, s)
  else
    let s1 := s.chalEnd p
    match (s.secPath p).chal with
    | none => (scSequence, s1)
    | some (am, ch, t) =>
      if am ≠ m ∨ t + 60000000000 ≤ stamp then (scSequence, s1)
      else if s.responseOk p m ch bs then
        (scOk, ((s1.modPath p (fun x => { x with unlockAt := some s.now, lockLen := 0 })).set (failsFld p) 0).setFlag
          (unlFld p) true)
      else (scAccessDenied, s1.wrongResponse p)

/-- The host path locks in WORKSHOP: the device leaves it, to IDLE if it spins, else to PARKED (Table 2-5). -/
def State.workshopLeave (s : State) : State :=
  if s.mode = mWORKSHOP ∧ s.target = mWORKSHOP then
    let m := if s.spnState ≠ 0 then mIDLE else mPARKED
    (s.modSys (fun y => { y with opMode := m })).modeGo m 9 4 s.now
  else s

/-- A path locks (R436). -/
def State.pathLock (s : State) (p : Nat) : State :=
  if !s.flag (unlFld p) then s
  else
    let s1 := (s.modPath p (fun x => { x with unlockAt := none })).setFlag (unlFld p) false
    if p = 0 then s1.workshopLeave else s1

/-- 60 s after its fetch stamp an attempt lapses. -/
def State.attemptExpiry (s : State) (p : Nat) : State :=
  match (s.secPath p).chal with
  | some (_, _, t) => if s.passed t 60000000000 then s.chalEnd p else s
  | none => s

/-- A lockout's time has run out. -/
def State.lockoutEnd (s : State) (p : Nat) : State :=
  match (s.secPath p).lockEnd with
  | some _ =>
    if s.lockLeft p = 0 then (s.modPath p (fun x => { x with lockEnd := none })).setFlag (lockoutFld p) false else s
  | none => s

/-- UNLOCK_TMO minutes after an unlock the path locks again. -/
def State.unlockTimeout (s : State) (p : Nat) : State :=
  match (s.secPath p).unlockAt, s.sec.keys with
  | some t, some k => if k.tmo ≠ 0 ∧ s.passed t (k.tmo * 60000000000) then s.pathLock p else s
  | _, _ => s

/-! ### Boot, as SEC runs it (R429) -/

def State.modSec (s : State) (f : SecuritySt → SecuritySt) : State := { s with sec := f s.sec }

/-- Step 1: the boot record. With no valid copy slot 1 is tried first. -/
def State.bootRead (s : State) (fuseOk : Bool) : State :=
  if s.sec.step ≠ 0 ∨ s.mode ≠ mBOOT ∨ !s.sys.powerGood then s
  else
    let s0 := if fuseOk then s else s.fault .sec 5
    let (a, p) : Nat × Nat := match s.bootRecord with
      | some (_, a, p, _) => (a, p)
      | none => (1, 0)
    let first := if p = 1 ∨ p = 2 then p else if a = 2 then 2 else 1
    (s0.modSec (fun x => { x with step := 1, tries := [first, 3 - first] })).set R.SEC_STAT_PENDING_SLOT (if p ≤ 2 then p else 0)

/-- Step 2: the Manifest has been read and hashed. -/
def State.manifestRead (s : State) : State := if s.sec.step = 1 then s.modSec (fun x => { x with step := 2 }) else s

/-- Step 3: the firmware image of the slot tried now is judged; with no slot accepted the recovery firmware runs. -/
def State.firmwareRead (s : State) : State :=
  if s.sec.step ≠ 2 then s
  else match s.sec.tries with
    | [] => (s.modSec (fun x => { x with step := 3 })).set R.SEC_STAT_ACTIVE_SLOT 0
    | k :: r =>
      let m := s.slotImage k
      if s.imageOk 2 m && s.versionOk 2 m then
        ((s.modSec (fun x => { x with step := 3, tries := [] })).set R.SEC_STAT_ACTIVE_SLOT k).set R.SEC_FW_VER_VERSION (imgId m)
      else
        let s1 := (s.modSec (fun x => { x with tries := r })).fault .sec 1
        if r.isEmpty then (s1.modSec (fun x => { x with step := 3 })).set R.SEC_STAT_ACTIVE_SLOT 0 else s1

/-- Step 4: the patch. -/
def State.patchLoad (s : State) : State :=
  if s.sec.step ≠ 3 then s
  else
    let k := s.get R.SEC_STAT_ACTIVE_SLOT
    let s1 := s.modSec (fun x => { x with step := 4 })
    if k = 0 then (List.range 4).foldl (fun (t : State) a => t.sqPatchEnd a) s1 else s1.patchImage (s.slotImage k)

/-- Step 5: the Manifest is judged against the firmware in use. A Manifest above 2 MiB cannot be held without MEM. -/
def State.manifestJudge (s : State) : State :=
  if s.sec.step ≠ 4 then s
  else
    let m := s.manifestImage
    let ok := s.get R.SEC_STAT_ACTIVE_SLOT != 0 && s.imageOk 1 m && s.versionOk 1 m && manifestOk m
      && !(s.memFailed && decide (2097152 < imgLen m))
    s.modSec (fun x => { x with step := 5, manOk := ok })

/-! ### TAP (R437) -/

/-- An instruction is selected; its data register is captured. -/
def State.tapSelect (s : State) (ir out : Nat) : State := s.modSec (fun x => { x with tapIr := ir, tapOut := out })

/-- EXTEST is accepted only in BOOT, PARKED and LIMP; else BYPASS. -/
def State.tapExtest (s : State) : State :=
  if s.mode = mBOOT ∨ s.mode = mPARKED ∨ s.mode = mLIMP then s.tapSelect 0x00 s.sec.tapOut else s.tapSelect 0xFF 0

/-- UNLOCK_CH: an attempt on path 1; the challenge comes out in bits [65:2]. -/
def State.tapChallenge (s : State) (m : Nat) : State :=
  let (r, s1) := s.challenge 1 m s.now
  s1.tapSelect 0x40 (4 * r.2)

/-- UNLOCK_RSP. -/
def State.tapRespond (s : State) (numd : Nat) (bs : List Byte) : State :=
  match (s.secPath 1).chal with
  | none => s.tapSelect 0x41 0
  | some (m, _, _) => ((s.respond 1 m numd s.now (takeAt bs 0 (4 * numd))).2).tapSelect 0x41 0

end Sys2Proof.Machine
end

