-- ==== Sys2Proof/Machine/Admin.lean ====
section
/-!
DEFINITION. The admin commands (chapters 12 and 13): queues, log pages, Identify, Abort, features, events, namespaces,
firmware, self-test, directives and unlock.
-/

namespace Sys2Proof.Machine

open Sys2Proof

/-! ### The command in a slot -/

/-- The admin command in a slot, where it is of opcode `opc` and has not ended. -/
def State.adminCmd (s : State) (no opc : Nat) : Option CmdSlot :=
  match s.cmd no with
  | some c => if !c.isIo && c.e.opc == opc && c.res.isNone && !s.flt.safeStop then some c else none
  | none => none

/-- Feature identifier of a Set or Get Features. -/
def CmdSlot.fid (c : CmdSlot) : Nat := bitsOf (c.dw 0) 0 8

/-- The features of Table 12-7. -/
def isFeature (f : Nat) : Bool :=
  ([0x01, 0x02, 0x04, 0x05, 0x06, 0x07, 0x08, 0x09, 0x0B, 0x0C, 0x0E, 0x16, 0x1A, 0x81, 0x82, 0x83, 0xC0, 0xC1, 0xC2, 0xC3] :
    List Nat).contains f

/-- An earlier command of the kind `p` has not ended. -/
def State.earlier (s : State) (c : CmdSlot) (p : CmdSlot → Bool) : Bool :=
  s.hif.slots.any (fun d => !d.isIo && d.res.isNone && decide (d.stamp < c.stamp) && p d)

/-- A Set Features that bears on the mode or on AUTOSPIN. -/
def modeSet (d : CmdSlot) : Bool := d.e.opc == 0x09 && (d.fid == 0x02 || d.fid == 0x1A || d.fid == 0xC0)

/-- The Set Features of identifier `f` in a slot, in its turn; SV = 1 has ended it (R306). -/
def State.setCmd (s : State) (no f : Nat) : Option CmdSlot :=
  match s.adminCmd no 0x09 with
  | some c => if c.fid == f && !(modeSet c && s.earlier c modeSet) then some c else none
  | none => none

/-- Ends a Set Features, refused where SV is 1. -/
def State.setEnd (s : State) (c : CmdSlot) (r : State → State) : State :=
  if bitOf (c.dw 0) 31 then s.finishSt c.no (cst 0x10D) else r s

/-- The status of a bad data pointer of an admin command (R304). -/
def State.adminXfer (s : State) (c : CmdSlot) (x : Xfer) (go : State → State) : State :=
  if x.dptr = 1 then s.xferFail c scPrp else if x.dptr = 4 then s.xferFail c scXfer else go s

/-- Ends an admin command with success and data. -/
def State.giveData (s : State) (c : CmdSlot) (x : Xfer) (bs : List Byte) : State :=
  s.adminXfer c x (fun t => t.finish c.no ⟨cst scOk, 0, 0, bs⟩)

/-! ### Queues (R299, R300, R334) -/

/-- A queue identifier that cannot be created. -/
def badQid (y : Nat) : Bool := y == 0 || decide (255 < y)

/-- A queue command is refused: a violation by the host (R299, Table 16-5). -/
def State.queueRefused (s : State) (c : CmdSlot) (st : Cst) : State := (s.finishSt c.no st).ldgProtocol 1 c.ctrl

/-- Create I/O Completion Queue. -/
def State.createCq (s : State) (no : Nat) : State :=
  match s.adminCmd no 0x05 with
  | none => s
  | some c =>
    let y := bitsOf (c.dw 0) 0 16
    let q := bitsOf (c.dw 0) 16 16
    let v := bitsOf (c.dw 1) 16 16
    if badQid y || ((s.ctl c.ctrl).cqOf y).isSome then s.queueRefused c (cst 0x101)
    else if q = 0 ∨ 4095 < q then s.queueRefused c (cst 0x102)
    else if !bitOf (c.dw 1) 0 then s.queueRefused c (cst scField)
    else if 255 < v then s.queueRefused c (cst 0x108)
    else (s.modCtl c.ctrl (fun x => { x with
      cqs := x.cqs ++ [⟨y, q + 1, 0, [], bitOf (c.dw 1) 1, v⟩], ioMade := true })).finishSt no (cst scOk)

/-- A Delete of completion queue `y` fetched earlier has not ended (Table 12-19). -/
def State.cqGoing (s : State) (c : CmdSlot) (y : Nat) : Bool :=
  s.earlier c (fun d => d.ctrl == c.ctrl && d.e.opc == 0x04 && bitsOf (d.dw 0) 0 16 == y)

/-- Create I/O Submission Queue. -/
def State.createSq (s : State) (no : Nat) : State :=
  match s.adminCmd no 0x01 with
  | none => s
  | some c =>
    let y := bitsOf (c.dw 0) 0 16
    let q := bitsOf (c.dw 0) 16 16
    let k := bitsOf (c.dw 1) 16 16
    if badQid y || ((s.ctl c.ctrl).sqOf y).isSome then s.queueRefused c (cst 0x101)
    else if q = 0 ∨ 4095 < q then s.queueRefused c (cst 0x102)
    else if !bitOf (c.dw 1) 0 then s.queueRefused c (cst scField)
    else if k = 0 || ((s.ctl c.ctrl).cqOf k).isNone || s.cqGoing c k then s.queueRefused c (cst 0x100)
    else (s.modCtl c.ctrl (fun x => { x with sqs := x.sqs ++ [⟨y, q + 1, 0, 0, k, []⟩], ioMade := true })).finishSt no (cst scOk)

/-- Delete I/O Completion Queue. -/
def State.deleteCq (s : State) (no : Nat) : State :=
  match s.adminCmd no 0x04 with
  | none => s
  | some c =>
    let y := bitsOf (c.dw 0) 0 16
    if badQid y || ((s.ctl c.ctrl).cqOf y).isNone then s.queueRefused c (cst 0x101)
    else if (s.ctl c.ctrl).sqs.any (fun q => q.cq == y) then s.queueRefused c (cst 0x10C)
    else (s.modCtl c.ctrl (fun x => { x with cqs := x.cqs.filter (fun q => q.id != y) })).finishSt no (cst scOk)

/-- Delete I/O Submission Queue: its commands that no sequencer holds are aborted; the queue goes once every command of it
has left the table (R334). -/
def State.deleteSq (s : State) (no : Nat) : State :=
  match s.adminCmd no 0x00 with
  | none => s
  | some c =>
    let y := bitsOf (c.dw 0) 0 16
    if badQid y || ((s.ctl c.ctrl).sqOf y).isNone then s.queueRefused c (cst 0x101)
    else
      let mine := fun (d : CmdSlot) => d.ctrl == c.ctrl && d.sq == y
      let s1 := s.modCtl c.ctrl (fun x => x.modSq y (fun q => { q with tail := q.head }))
      let s2 := (s1.hif.slots.filter (fun d => mine d && d.res.isNone && !d.effect && !d.handed)).foldl
        (fun (t : State) d => (t.freeBufs d.bufs).finishSt d.no (cst scSqDeleted)) s1
      if s2.hif.slots.any mine then s2.modCmd no (fun x => { x with started := true })
      else (s2.modCtl c.ctrl (fun x => { x with sqs := x.sqs.filter (fun q => q.id != y) })).finishSt no (cst scOk)

/-- A Delete of submission queue `y` is in progress. -/
def State.sqGoing (s : State) (n y : Nat) : Bool :=
  s.hif.slots.any (fun d => d.ctrl == n && !d.isIo && d.e.opc == 0x00 && d.started && d.res.isNone && bitsOf (d.dw 0) 0 16 == y)

/-- Set Features Number of Queues (R300). -/
def State.setNumQueues (s : State) (no : Nat) : State :=
  match s.setCmd no 0x07 with
  | none => s
  | some c => s.setEnd c (fun t =>
    if (t.ctl c.ctrl).nqAsked && (t.ctl c.ctrl).ioMade then t.finishSt no (cst scSequence)
    else (t.modCtl c.ctrl (fun x => { x with nqAsked := true })).finish no ⟨cst scOk, 0x00FE00FE, 0, []⟩)

/-! ### Abort (R334) -/

/-- Abort: at most four at once; a command no sequencer holds and that has had no effect is aborted; one still in its queue is
aborted when it is met there. -/
def State.abortCmd (s : State) (no : Nat) : State :=
  match s.adminCmd no 0x08 with
  | none => s
  | some c =>
    let y := bitsOf (c.dw 0) 0 16
    let cid := bitsOf (c.dw 0) 16 16
    if c.started then s
    else if 4 ≤ (s.hif.slots.filter (fun d => d.ctrl == c.ctrl && !d.isIo && d.e.opc == 0x08 && d.res.isNone
      && decide (d.stamp < c.stamp))).length then s.finishSt no (cst 0x103)
    else match s.hif.slots.find? (fun d => d.ctrl == c.ctrl && d.sq == y && d.e.cid == cid && d.no != no) with
      | some d =>
        if d.res.isNone && !d.handed && !d.effect then
          ((s.freeBufs d.bufs).finishSt d.no (cst scAborted)).finishSt no (cst scOk)
        else s.finish no ⟨cst scOk, 1, 0, []⟩
      | none => match (s.ctl c.ctrl).sqOf y with
        | some q =>
          let k := (q.tail + q.size - q.head) % q.size
          if k = 0 then s.finish no ⟨cst scOk, 1, 0, []⟩ else s.modCmd no (fun x => { x with started := true, left := [k] })
        | none => s.finish no ⟨cst scOk, 1, 0, []⟩

/-! ### Structures with known fields -/

/-- `n` bytes with the fields given at their offsets; every other byte is one that the manual leaves to NVMe 2.1. -/
def pageOf (k n : Nat) (fs : List (Nat × List Byte)) : List Byte :=
  (List.range n).map (fun i => match fs.find? (fun f => decide (f.1 ≤ i) && decide (i < f.1 + f.2.length)) with
    | some f => (f.2[i - f.1]?).getD 0
    | none => Config.pageByte k i)

/-- The same with zeros for the rest. -/
def tableOf (n : Nat) (fs : List (Nat × List Byte)) : List Byte :=
  (List.range n).map (fun i => match fs.find? (fun f => decide (f.1 ≤ i) && decide (i < f.1 + f.2.length)) with
    | some f => (f.2[i - f.1]?).getD 0
    | none => 0)

/-! ### Log pages (Tables 12-8, 12-11 to 12-14, R310) -/

/-- The SoC power maximum in force in mW (Table 2-1, R37). -/
def modePower (m : Nat) : Nat :=
  match m with
  | 0 => 3000
  | 1 => 1100
  | 2 => 4000
  | 3 => 2200
  | 4 => 4500
  | 5 => 8000
  | 6 => 16000
  | 7 => 8000
  | 8 => 14000
  | 9 => 4500
  | 10 => 1100
  | _ => 16000
def State.socPower (s : State) : Nat :=
  let c := s.get R.SYS_MODE_CAP
  min (modePower s.mode) (if c = 1 then 8000 else if c = 2 then 4500 else 16000)

def State.reg4 (s : State) (a : Nat) : List Byte := leBytes 4 (s.rd a).toNat

/-- Log page 0xC0; `k`: the free bytes of the mean power. -/
def State.pageC0 (s : State) (k : Nat) : List Byte :=
  let y := s.sys
  let time := fun (n : Nat) => ((y.times[n]?).getD 0 + (if n = s.mode then s.now - y.enteredAt else 0)) / 1000000
  s.reg4 R.A_SYS_MODE ++ s.reg4 R.A_SYS_MODE_POLICY
    ++ leBytes 8 (s.get R.SYS_MODE_STAMP_LO_STAMP_LO + 2 ^ 32 * s.get R.SYS_MODE_STAMP_HI_STAMP_HI)
    ++ [BitVec.ofNat 8 y.ps, BitVec.ofNat 8 (s.get R.SYS_TEMP_TJ), BitVec.ofNat 8 (s.get R.SYS_TEMP_ENV),
      BitVec.ofNat 8 (b2n (s.flag R.SYS_TEMP_HOT) + 2 * b2n (s.flag R.SYS_TEMP_ENV_VALID) + 4 * b2n y.spinNeeded)]
    ++ [Config.pageByte k 20, Config.pageByte k 21] ++ leBytes 2 s.socPower
    ++ ((List.range 16).map (fun n => leBytes 4 ((y.entries[n]?).getD 0))).flatten
    ++ ((List.range 16).map (fun n => leBytes 8 (time n))).flatten ++ List.replicate 296 0

/-- Log page 0xC2; in LIMP with MEM in FAILED it reports no entries (R402). -/
def State.pageC2 (s : State) : List Byte :=
  let l := if s.mode = mLIMP ∧ s.memFailed then [] else s.hif.defErrs
  leBytes 4 l.length ++ leBytes 4 s.hif.defTotal ++ leBytes 4 s.hif.defLost ++ leBytes 4 0
    ++ leBytes 8 (match l.getLast? with
      | some d => d.stamp
      | none => 0)
    ++ List.replicate 40 0 ++ takeAt (l.map DefErr.bytes).flatten 0 8192

/-- Bytes of a snapshot entry (Table 12-13). -/
def SnapEntry.bytes (e : SnapEntry) : List Byte :=
  leBytes 8 e.stamp ++ leBytes 4 e.addr ++ leBytes 4 e.value ++ [BitVec.ofNat 8 e.level, BitVec.ofNat 8 (b2n e.attn)]
    ++ leBytes 2 e.inst ++ leBytes 4 e.mode ++ leBytes 4 e.serviceUs ++ leBytes 4 0

/-- Log page 0xC3. -/
def State.pageC3 (s : State) : List Byte :=
  leBytes 4 s.flt.snap.length ++ leBytes 4 s.flt.snapTotal ++ List.replicate 56 0
    ++ takeAt (s.flt.snap.map SnapEntry.bytes).flatten 0 2048

/-- Grown defects and spares in use on a surface. -/
def State.grownOn (s : State) (h : Nat) : Nat := (s.grown.filter (fun e => paSurface e.1 == h && e.2.1 != 2)).length
def State.sparesOn (s : State) (h : Nat) : Nat := (s.grown.filter (fun e => e.2.1 == 1 && paSurface e.2.2 == h)).length

/-- Log page 0xC4. -/
def State.pageC4 (s : State) : List Byte :=
  List.replicate 64 0 ++ ((List.range 24).map (fun h =>
    leBytes 4 (h + 256 * s.get (R.CH_RD_CFG_FITTED h) + 2048 * (h / 6))
      ++ ((List.range 8).map (fun i => s.reg4 (R.A_CH_CNT_GOOD h + 4 * i))).flatten
      ++ ((List.range 4).map (fun i => s.reg4 (R.A_CH_WR_CNT_SECT h + 4 * i))).flatten
      ++ leBytes 4 (s.grownOn h) ++ leBytes 4 (s.sparesOn h)
      ++ leBytes 4 ((s.hif.folErrs[h]?).getD 0) ++ List.replicate 64 0)).flatten

/-- A byte whose bit 0 is given; the rest is left to NVMe 2.1. -/
def bit0Of (k i : Nat) (b : Bool) : Byte := if b then Config.pageByte k i ||| 1 else 0

/-- The log pages of Table 12-8. -/
def isLogPage (l : Nat) : Bool :=
  ([0x00, 0x01, 0x02, 0x03, 0x05, 0x06, 0x09, 0x12, 0x16, 0x80, 0xC0, 0xC1, 0xC2, 0xC3, 0xC4] : List Nat).contains l

/-- An I/O command of Table 12-6. -/
def isIoOp (o : Nat) : Bool := ([0x00, 0x01, 0x02, 0x08, 0x09, 0x0C, 0x0D, 0x0E, 0x11, 0x15] : List Nat).contains o

/-- The 4-byte entries of a table of supported items. -/
def supported (k n : Nat) (p : Nat → Bool) : List Byte :=
  ((List.range n).map (fun i => [bit0Of k (4 * i) (p i)]
    ++ (List.range 3).map (fun j => if p i then Config.pageByte k (4 * i + j + 1) else 0))).flatten

/-- The length of a log page. -/
def logLength (l : Nat) : Nat :=
  match l with
  | 0x00 => 1024
  | 0x01 => 4096
  | 0x05 => 4096
  | 0x06 => 564
  | 0x12 => 1024
  | 0x80 => 64
  | 0xC1 => 9437184
  | 0xC2 => 8256
  | 0xC3 => 2112
  | 0xC4 => 3136
  | _ => 512

/-- `n` bytes of a log page from offset `o`; bytes beyond its length read as 0. -/
def State.logBytes (s : State) (ctrl l o n : Nat) : List Byte :=
  let k := s.free
  let page : List Byte :=
    match l with
    | 0x00 => supported k 256 isLogPage
    | 0x01 => ((List.range 64).map (fun i => match ((s.ctl ctrl).errLog)[i]? with
        | some e => pageOf (k + 1 + i) 64 [(12, leBytes 2 (2 * e.2))]
        | none => List.replicate 64 0)).flatten
    | 0x02 => pageOf k 512 [(0, [BitVec.ofNat 8 (s.critical ctrl)]), (1, leBytes 2 (s.composite + 273).toNat),
        (144, leBytes 16 ((s.hif.counts[4]?).getD 0))]
    | 0x03 => pageOf k 512 [(0, [BitVec.ofNat 8 (s.get R.SEC_STAT_ACTIVE_SLOT + 16 * s.get R.SEC_STAT_PENDING_SLOT)])]
    | 0x05 => supported k 256 isAdminOp ++ supported (k + 1) 256 isIoOp ++ List.replicate 2048 0
    | 0x06 => [BitVec.ofNat 8 s.hif.selfTest] ++ [Config.pageByte k 1, 0, 0] ++ ((List.range 20).map (fun i =>
        match s.hif.selfLog[i]? with
        | some e => pageOf (k + 1 + i) 28 [(0, [BitVec.ofNat 8 (16 * e.1 + e.2.1)])]
        | none => tableOf 28 [(0, [0x0F])])).flatten
    | 0x12 => supported k 256 isFeature
    | 0x16 => pageOf k 512 [(8, leBytes 4 ((s.hif.counts[0]?).getD 0)), (12, leBytes 4 ((s.hif.counts[1]?).getD 0)),
        (16, leBytes 4 ((s.hif.counts[2]?).getD 0)), (20, leBytes 4 ((s.hif.counts[3]?).getD 0))]
    | 0xC0 => s.pageC0 k
    | 0xC2 => s.pageC2
    | 0xC3 => s.pageC3
    | 0xC4 => s.pageC4
    | _ => (List.range (logLength l)).map (fun i => Config.pageByte k i)
  if l = 0xC1 then takeAt (s.ldgReadout o (min n (9437184 - o))) 0 n else takeAt page o n

/-- Get Log Page: an offset that is a multiple of 4 and lies below the page length, LSP as the page gives it; LSP[0] of page
0xC2 clears its entries; RAE = 0 clears the events that name the page. -/
def State.getLogPage (s : State) (no : Nat) (x : Xfer) : State :=
  match s.adminCmd no 0x02 with
  | none => s
  | some c =>
    let l := bitsOf (c.dw 0) 0 8
    let lsp := bitsOf (c.dw 0) 8 7
    let n := 4 * (bitsOf (c.dw 0) 16 16 + 65536 * bitsOf (c.dw 1) 0 16 + 1)
    let o := c.dw 2 + 2 ^ 32 * c.dw 3
    let vendor := decide (0xC0 ≤ l)
    if !isLogPage l then s.finishSt no (cst 0x109)
    else if o % 4 ≠ 0 ∨ (if vendor then logLength l ≤ o else logLength l < o) then s.finishSt no (cst scField)
    else if vendor ∧ lsp ≠ 0 ∧ !(l = 0xC2 ∧ lsp = 1) then s.finishSt no (cst scField)
    else
      let s1 : State := { s with free := s.free + 65 }
      s1.adminXfer c x (fun t =>
        let t1 := if l = 0xC2 ∧ lsp = 1 then t.modHif (fun h => { h with defErrs := [], defLost := 0 }) else t
        let t2 := if bitOf (c.dw 0) 15 then t1
          else t1.modCtl c.ctrl (fun y => { y with events := y.events.filter (fun e => e.page != l || e.page == 0) })
        t2.finish no ⟨cst scOk, 0, 0, s.logBytes c.ctrl l o n⟩)

/-! ### Identify (R305, R319, R342, R345, Table 12-9) -/

/-- A field of the IDENTITY record: `n` bytes from `o`; with no Manifest bytes the manual does not give, but for the Vendor
ID of the fuse array (R292). -/
def State.identField (s : State) (k o n : Nat) : List Byte :=
  if s.sec.ident.isEmpty then (if o = 0 then leBytes 2 Config.fuseVendor
    else if o = 2 then leBytes 2 Config.fuseSubVendor else (List.range n).map (fun i => Config.pageByte k (8192 + o + i)))
  else takeAt s.sec.ident o n

/-- The configuration header that every function presents (R292): class code, Vendor ID, Device ID, Subsystem Vendor ID and
Subsystem ID, from the IDENTITY record or from the fuse array. -/
def State.configHeader (s : State) : Nat × Nat × Nat × Nat × Nat :=
  let id := fun (o : Nat) => ofLeBytes (takeAt s.sec.ident o 2)
  if s.sec.ident.isEmpty then (0x010802, Config.fuseVendor, 0x4A24, Config.fuseSubVendor, Config.fuseSubsystem)
  else (0x010802, id 0, id 6, id 2, id 4)

/-- Bytes of FREE bands (R345). -/
def State.freeBandBytes (s : State) : Nat := 4096 * sumOf ((s.bandNums (fun x => x.st == 0)).map s.bandSlots)

/-- Identify Controller. -/
def State.idController (s : State) (n : Nat) : List Byte :=
  let k := s.free
  let id := fun (o m : Nat) => s.identField k o m
  pageOf k 4096
    [(0, id 0 2), (2, id 2 2), (4, id 8 20), (24, id 28 40), (76, [if s.flag R.HIF_CFG_X8 then 0x00 else 0x03]), (77, [9]),
      (78, leBytes 2 (n + 1)), (80, leBytes 4 0x00020100), (84, id 328 4), (88, id 324 4), (128, leBytes 2 10), (130, leBytes 4 0),
      (256, leBytes 2 0x3C), (258, [3]), (259, [3]), (260, [0x14]), (262, [63]), (263, [3]), (265, [1]), (270, leBytes 2 20),
      (296, leBytes 16 s.freeBandBytes), (319, [1]), (512, [0x66]), (513, [0x44]), (516, leBytes 4 16), (520, leBytes 2 0x00FC),
      (525, [0x07]), (526, leBytes 2 0), (528, leBytes 2 0), (536, leBytes 4 1), (540, leBytes 4 16), (768, id 68 256), (2048, id 332 128)]

/-- Identify Namespace of a namespace. -/
def State.idNamespace (s : State) (n : NsSt) : List Byte :=
  let k := s.free
  let per := n.perSec
  let i := n.id - 1
  let used := s.rtUsed i
  let feat : Byte := (Config.pageByte k 24 &&& 0xFC) ||| (if n.packed then 3 else 2)
  let shared := [(0, leBytes 8 n.nsze), (8, leBytes 8 n.nsze), (24, [feat]), (25, [2]), (26, [BitVec.ofNat 8 n.fmt]),
    (31, [Config.pageByte k 31 ||| 0x7F]), (34, leBytes 2 (if n.fmt = 2 then 4095 else 511)), (36, leBytes 2 0),
    (128, leBytes 4 (12 * 65536)), (132, leBytes 4 (12 * 65536 + 8)), (136, leBytes 4 (9 * 65536))]
  let packed := [(16, leBytes 8 (used * per)), (33, [0x09]), (48, leBytes 16 (used * 4096)),
    (384, [BitVec.ofNat 8 (1 + 2 * b2n n.linkEn), BitVec.ofNat 8 n.lvlDef, 0, 0]),
    (388, leBytes 4 (s.get (R.RTE_NS_MAPPED_MAPPED i))), (392, leBytes 8 s.poolFreeSectors), (400, leBytes 8 s.poolDead)]
  pageOf k 4096 (if n.packed then shared ++ packed else shared ++ [(33, [0]), (384, List.replicate 24 0)])

/-- A list of 32-bit namespace identifiers above `a`. -/
def State.nsList (s : State) (a : Nat) (p : NsSt → Bool) : List Byte :=
  let ids := (List.range 17).filter (fun i => decide (a < i) && (match s.nsOf i with
    | some n => p n
    | none => false))
  takeAt (ids.map (fun i => leBytes 4 i)).flatten 0 4096

/-- A controller list: the count, then identifiers of at least `a`. -/
def State.ctlList (s : State) (a : Nat) (p : Nat → Bool) : List Byte :=
  let ids := s.ctlsHere.filter (fun n => decide (a ≤ n + 1) && p n)
  takeAt (leBytes 2 ids.length ++ (ids.map (fun n => leBytes 2 (n + 1))).flatten) 0 4096

/-- Identify: the structure that CNS names, or a status. -/
def State.identifyData (s : State) (c : CmdSlot) : Nat ⊕ List Byte :=
  let cns := bitsOf (c.dw 0) 0 8
  let cid := bitsOf (c.dw 0) 16 16
  let free := (List.range 4096).map (fun i => Config.pageByte s.free i)
  let zero : List Byte := List.replicate 4096 0
  let good := decide (1 ≤ c.e.nsid) && decide (c.e.nsid ≤ 16)
  let ofNs := fun (attached : Bool) (f : NsSt → List Byte) =>
    if !good then (if c.e.nsid = 0xFFFFFFFF then .inr free else .inl scNs)
    else match s.nsOf c.e.nsid with
      | some n => if attached && !n.attached c.ctrl then .inr zero else .inr (f n)
      | none => .inr zero
  match cns with
  | 0x00 => ofNs true s.idNamespace
  | 0x01 => .inr (s.idController c.ctrl)
  | 0x02 => if 0xFFFFFFFE ≤ c.e.nsid then .inl scNs else .inr (s.nsList c.e.nsid (fun n => n.attached c.ctrl))
  | 0x03 => match (if good then s.nsOf c.e.nsid else none) with
    | some n => if n.attached c.ctrl then .inr free else .inl scNs
    | none => .inl scNs
  | 0x05 => ofNs true (fun _ => free)
  | 0x06 => .inr free
  | 0x08 => ofNs true (fun _ => free)
  | 0x10 => if 0xFFFFFFFE ≤ c.e.nsid then .inl scNs else .inr (s.nsList c.e.nsid (fun _ => true))
  | 0x11 => ofNs false s.idNamespace
  | 0x12 => match (if good then s.nsOf c.e.nsid else none) with
    | some n => .inr (s.ctlList cid (fun k => n.attached k))
    | none => .inl scNs
  | 0x13 => .inr (s.ctlList cid (fun _ => true))
  | 0x1C => .inr free
  | _ => .inl scField

/-- Identify. -/
def State.identify (s : State) (no : Nat) (x : Xfer) : State :=
  match s.adminCmd no 0x06 with
  | none => s
  | some c => match s.identifyData c with
    | .inl st => s.finishSt no (cst st)
    | .inr bs => ({ s with free := s.free + 1 } : State).giveData c x bs

/-! ### Features (R306, R308, Tables 12-7 and 12-10) -/

/-- Sets a stored feature value of a controller. -/
def State.setFeat (s : State) (n k v : Nat) : State := s.modCtl n (fun x => { x with feats := setCnt x.feats k v })

/-- The namespaces that NSID names for controller `n`. -/
def State.nsNamed (s : State) (n nsid : Nat) : List NsSt :=
  s.hif.nss.filter (fun x => (x.id == nsid || nsid == 0xFFFFFFFF) && x.attached n)

/-- The host's autonomous transition table: 32 entries of 8 bytes. -/
def apstOf (bs : List Byte) : List (Nat × Nat) :=
  (List.range 32).map (fun i => (imgNat bs (8 * i + 1) 3, bitsOf (imgNat bs (8 * i) 1) 3 5))

/-- Set Features of the features that have no row of their own, and of every unsupported identifier (R306). -/
def State.setFeatures (s : State) (no : Nat) (x : Xfer) : State :=
  match s.adminCmd no 0x09 with
  | none => s
  | some c =>
    let f := c.fid
    let n := c.ctrl
    let d := c.dw 1
    let ok := fun (t : State) => t.finishSt no (cst scOk)
    let bad := fun (t : State) => t.finishSt no (cst scField)
    if !isFeature f then bad s
    else if ([0x02, 0x07, 0x1A, 0xC0, 0xC1, 0xC2, 0xC3] : List Nat).contains f then s
    else s.setEnd c (fun t => t.adminXfer c x (fun u =>
      match f with
      | 0x01 => ok (u.setFeat n 0x01 (bitsOf d 0 3))
      | 0x04 =>
        let sel := bitsOf d 16 4
        let th := bitsOf d 20 2
        if (2 < sel ∧ sel ≠ 15) ∨ 1 < th then bad u
        else
          let ks := if sel = 15 then [0, 1, 2] else [sel]
          ok (State.smartEvents u (ks.foldl (fun (v : State) k => v.setFeat n (0x10000 + 2 * k + th) (bitsOf d 0 16 + 1)) u))
      | 0x05 => ok (u.setFeat n 0x05 (bitsOf d 0 17))
      | 0x06 => u.finishSt no (cst 0x10E)
      | 0x08 => ok (u.setFeat n 0x08 (bitsOf d 0 16))
      | 0x09 => if 255 < bitsOf d 0 16 then bad u else ok (u.setFeat n (0x20000 + bitsOf d 0 16) (bitsOf d 16 1))
      | 0x0B => ok (u.setFeat n 0x0B d)
      | 0x0C => ok ((u.setFeat n 0x0C (bitsOf d 0 1)).modCtl n (fun y => { y with apst := apstOf x.data }))
      | 0x0E => ok (u.modCtl n (fun y => { y with tsBase := (imgNat x.data 0 6, u.now) }))
      | 0x16 => ok (u.setFeat n 0x16 (bitsOf (imgNat x.data 0 1) 0 1))
      | 0x81 => ok (u.modCtl n (fun y => { y with hostId := imgNat x.data 0 (if bitOf d 0 then 16 else 8) }))
      | 0x82 => if (u.nsNamed n c.e.nsid).isEmpty then u.finishSt no (cst scNs)
        else ok ((u.nsNamed n c.e.nsid).foldl (fun (v : State) y => v.setFeat n (0x30000 + y.id) (bitsOf d 1 3)) u)
      | 0x83 => if (u.nsNamed n c.e.nsid).isEmpty then u.finishSt no (cst scNs)
        else ok ((u.nsNamed n c.e.nsid).foldl (fun (v : State) y =>
          v.modNs y.id (fun z => { z with resv := { z.resv with ptpl := bitOf d 0 } })) u)
      | _ => u))

/-- Set Features Power Management (R45, R46). -/
def State.setPower (s : State) (no : Nat) : State :=
  match s.setCmd no 0x02 with
  | none => s
  | some c => s.setEnd c (fun t =>
    let ps := bitsOf (c.dw 1) 0 5
    if t.mode = mWORKSHOP ∨ t.target = mWORKSHOP then t.finishSt no stMode
    else if 3 < ps then t.finishSt no (cst scField)
    else (t.setPs ps 2 c.stamp).finishSt no (cst scOk))

/-- Set Features Spinup Control (R307). -/
def State.setSpinup (s : State) (no : Nat) : State :=
  match s.setCmd no 0x1A with
  | none => s
  | some c => s.setEnd c (fun t => (t.setFlag R.SYS_MODE_AUTOSPIN (!bitOf (c.dw 1) 0)).finishSt no (cst scOk))

/-- Set Features Device Mode (R41). -/
def State.setMode (s : State) (no : Nat) : State :=
  match s.setCmd no 0xC0 with
  | none => s
  | some c => s.setEnd c (fun t =>
    let m := bitsOf (c.dw 1) 0 4
    let auto := fun (u : State) => u.setFlag R.SYS_MODE_AUTOSPIN (bitOf (c.dw 1) 8)
    if bitOf (c.dw 1) 9 then
      (if t.limping then t.finishSt no stMode else (auto t).finishSt no (cst scOk))
    else match t.modeCheck m with
      | some st => t.finishSt no st
      | none => ((auto t).modeRequest m c.stamp).finishSt no (cst scOk))

/-- Get Features Device Mode. -/
def State.getMode (s : State) (no : Nat) : State :=
  match s.adminCmd no 0x0A with
  | none => s
  | some c => if c.fid ≠ 0xC0 then s
    else
      let sel := bitsOf (c.dw 0) 8 3
      if sel = 0 then s.finish no ⟨cst scOk, bitsOf (s.rd R.A_SYS_MODE).toNat 0 12, 0, []⟩
      else if sel = 3 then s.finish no ⟨cst scOk, 4, 0, []⟩
      else if sel ≤ 2 then
        let (v, s1) := s.draw
        s1.finish no ⟨cst scOk, v % 4096, 0, []⟩
      else s.finishSt no (cst scField)

/-- Set Features Queue Order (R308, R321). -/
def State.setOrder (s : State) (no : Nat) : State :=
  match s.setCmd no 0xC1 with
  | none => s
  | some c => s.setEnd c (fun t =>
    let y := bitsOf (c.dw 1) 0 16
    if y = 0 || ((t.ctl c.ctrl).sqOf y).isNone then t.finishSt no (cst scField)
    else (t.modCtl c.ctrl (fun x => x.modSq y (fun q => { q with ord := addStamp q.ord c.stamp (bitOf (c.dw 1) 16) }))).finishSt
      no (cst scOk))

/-- Set Features Completion Stamp (R309). -/
def State.setStamp (s : State) (no : Nat) : State :=
  match s.setCmd no 0xC2 with
  | none => s
  | some c => s.setEnd c (fun t =>
    (t.modCtl c.ctrl (fun x => { x with stampHist := addStamp x.stampHist c.stamp (bitOf (c.dw 1) 0) })).finishSt no (cst scOk))

/-- The packed namespace that a Set or Get of 0xC3 names. -/
def State.packedNs (s : State) (c : CmdSlot) : Option NsSt :=
  match s.nsOf c.e.nsid with
  | some n => if n.packed then some n else none
  | none => none

/-- Set Features Packed Compression Level. -/
def State.setLevel (s : State) (no : Nat) : State :=
  match s.setCmd no 0xC3 with
  | none => s
  | some c => s.setEnd c (fun t =>
    let l := bitsOf (c.dw 1) 0 4
    match t.packedNs c with
    | none => t.finishSt no (cst scNs)
    | some n => if 9 ≤ l then t.finishSt no (cst scField)
      else (t.modNs n.id (fun y => { y with lvl := addStamp y.lvl c.stamp l })).finishSt no (cst scOk))

/-- The current value of a feature of one Dword, and its default. -/
def State.featDw (s : State) (c : CmdSlot) (current : Bool) : Nat :=
  let x := s.ctl c.ctrl
  let v := fun (k : Nat) => if current then cnt x.feats k else 0
  let d := c.dw 1
  match c.fid with
  | 0x02 => if current then s.sys.ps else 0
  | 0x04 => v (0x10000 + 2 * bitsOf d 16 4 + bitsOf d 20 2) - 1
  | 0x06 => 1
  | 0x07 => 0x00FE00FE
  | 0x09 => bitsOf d 0 16 + 65536 * v (0x20000 + bitsOf d 0 16)
  | 0x1A => if current then b2n (!s.flag R.SYS_MODE_AUTOSPIN) else 0
  | 0x82 => 2 * v (0x30000 + c.e.nsid)
  | 0x83 => if current then (match s.nsOf c.e.nsid with
      | some n => b2n n.resv.ptpl
      | none => 0) else 0
  | 0xC2 => if current then b2n (atStamp x.stampHist c.stamp false) else 0
  | f => v f

/-- The data that Get Features returns for the features that have some. -/
def State.featData (s : State) (c : CmdSlot) (current : Bool) : List Byte :=
  let x := s.ctl c.ctrl
  match c.fid with
  | 0x0C => if current then takeAt (x.apst.map (fun e => BitVec.ofNat 8 (8 * e.2) :: leBytes 3 e.1 ++ leBytes 4 0)).flatten 0 256
    else List.replicate 256 0
  | 0x0E => if current then leBytes 6 (x.tsBase.1 + (s.now - x.tsBase.2) / 1000000) ++ [0, 0] else List.replicate 8 0
  | 0x16 => tableOf 512 [(0, [BitVec.ofNat 8 (if current then cnt x.feats 0x16 else 0)])]
  | 0x81 => leBytes (if bitOf (c.dw 1) 0 then 16 else 8) (if current then x.hostId else 0)
  | _ => []

/-- Get Features: current, default, saved (the default: nothing is saveable) and supported values. -/
def State.getFeatures (s : State) (no : Nat) (x : Xfer) : State :=
  match s.adminCmd no 0x0A with
  | none => s
  | some c =>
    let f := c.fid
    let sel := bitsOf (c.dw 0) 8 3
    let y := bitsOf (c.dw 1) 0 16
    let ctl := s.ctl c.ctrl
    let perNs := f == 0x82 || f == 0x83 || f == 0xC3
    if f = 0xC0 then s
    else if !isFeature f ∨ 3 < sel then s.finishSt no (cst scField)
    else if f = 0xC1 && (y == 0 || (ctl.sqOf y).isNone) then s.finishSt no (cst scField)
    else if f = 0xC3 && (s.packedNs c).isNone then s.finishSt no (cst scNs)
    else if (f = 0x82 ∨ f = 0x83) && (s.nsNamed c.ctrl c.e.nsid).isEmpty then s.finishSt no (cst scNs)
    else if f = 0x04 && decide (2 < bitsOf (c.dw 1) 16 4 ∨ 1 < bitsOf (c.dw 1) 20 2) then s.finishSt no (cst scField)
    else if sel = 3 then s.finish no ⟨cst scOk, (if perNs then 2 else 0) + (if f = 0x06 then 0 else 4), 0, []⟩
    else
      let cur := sel == 0
      let dw := if f = 0xC1 then y + 65536 * b2n (cur && (match ctl.sqOf y with
          | some q => atStamp q.ord c.stamp false
          | none => false))
        else if f = 0xC3 then (match s.packedNs c with
          | some n => if cur then n.level c.stamp else 0
          | none => 0)
        else s.featDw c cur
      let bs := s.featData c cur
      if bs.isEmpty then s.finish no ⟨cst scOk, dw, 0, []⟩
      else s.adminXfer c x (fun t => t.finish no ⟨cst scOk, dw, 0, bs⟩)

/-! ### Asynchronous Event Request (R313) -/

/-- An Asynchronous Event Request takes the first held event, or waits; a fifth outstanding one is refused. -/
def State.asyncReq (s : State) (no : Nat) : State :=
  match s.adminCmd no 0x0C with
  | none => s
  | some c =>
    if c.started then s
    else if 4 ≤ (s.hif.slots.filter (fun d => d.ctrl == c.ctrl && !d.isIo && d.e.opc == 0x0C && d.res.isNone && d.started)).length
    then s.finishSt no (cst 0x105)
    else match (s.ctl c.ctrl).events with
      | e :: r => (s.modCtl c.ctrl (fun x => { x with events := r })).finish no
          ⟨cst scOk, e.ty + 2 ^ 8 * e.info + 2 ^ 16 * e.page, 0, []⟩
      | [] => s.modCmd no (fun x => { x with started := true })

/-! ### Namespaces (R295, R342 to R344, Table 13-4) -/

/-- The lowest run of `k` Route Table entries that no namespace owns. -/
def State.freeRun (s : State) (k : Nat) : Option Nat :=
  let owned := (List.range 16).filterMap (fun n =>
    if s.flag (R.RTE_NS_CFG_VALID n) then some (s.get (R.RTE_NS_BASE_BASE n), s.get (R.RTE_NS_COUNT_COUNT n)) else none)
  let starts := 0 :: owned.map (fun e => e.1 + e.2)
  let ok := starts.filter (fun a => decide (a + k ≤ s.get R.RTE_TBL_COUNT_COUNT)
    && owned.all (fun e => decide (a + k ≤ e.1) || decide (e.1 + e.2 ≤ a)))
  match ok with
  | [] => none
  | a :: r => some (r.foldl min a)

/-- Entries of a run that are not UNMAPPED in the table become so; true where every entry of it is durably UNMAPPED. -/
def State.clearRun (s : State) (base : Nat) : Nat → Bool × State
  | 0 => (true, s)
  | k + 1 =>
    let (ok, s1) := s.clearRun base k
    let i := base + k
    let e := ofLeBytes (bytesAt 0 s1.mem (s1.rtBase + 8 * i) 8)
    let s2 := if e = 0 then s1 else s1.rtUpdate i e 0 0 0
    (ok && s2.rte.durableEntry i == 0 && s2.rte.journal.all (fun j => j.index != i || j.written), s2)

/-- The lowest FREE bands that hold `k` sectors together. -/
def State.bandsFor (s : State) : Nat → List Nat → Option (List Nat)
  | 0, _ => some []
  | _, [] => none
  | k, b :: r => match s.bandsFor (k - s.bandSlots b) r with
    | some l => some (b :: l)
    | none => none

/-- A namespace is created: its number, its record, its event and the completion. -/
def State.nsMade (s : State) (no : Nat) (n : NsSt) : State :=
  let s1 := s.modHif (fun h => { h with nss := h.nss ++ [n] })
  ((s1.ldgRaise 0x0103 (leBytes 4 n.id ++ [0, BitVec.ofNat 8 (b2n n.packed), 0, 0] ++ leBytes 8 n.nsze)).raiseBoth ⟨2, 0, 0⟩).finish
    no ⟨cst scOk, n.id, 0, []⟩

/-- Creation of a namespace from the host's structure (R343, R344). -/
def State.nsCreate (s : State) (no : Nat) (x : Xfer) : State :=
  let nsze := imgNat x.data 0 8
  let ncap := imgNat x.data 8 8
  let fmt := bitsOf (imgNat x.data 26 1) 0 4
  let packed := bitOf (imgNat x.data 384 1) 0
  let lvl := imgNat x.data 385 1
  let id := (List.range 16).find? (fun i => (s.nsOf (i + 1)).isNone)
  let mk := fun (i : Nat) (us : List Nat) =>
    (⟨i + 1, nsze, fmt, packed, packed && bitOf (imgNat x.data 384 1) 1, if packed then lvl else 0, us, [true, true], [], none,
      ⟨[], none, 0, 0, false⟩⟩ : NsSt)
  if packed then
    let stripe := if fmt = 2 then 2048 else 256
    if fmt = 1 ∨ 2 < fmt then s.finishSt no (cst scNs)
    else if 8 < lvl ∨ ncap ≠ nsze ∨ nsze = 0 ∨ nsze % stripe ≠ 0 then s.finishSt no (cst scField)
    else match s.freeRun (nsze / stripe), id with
      | none, _ => s.finishSt no (cst 0x115)
      | some _, none => s.finishSt no (cst 0x116)
      | some base, some i =>
        let (ok, s1) := s.clearRun base (nsze / stripe)
        if !ok then s1
        else
          let s2 := ((s1.set (R.RTE_NS_BASE_BASE i) base).set (R.RTE_NS_COUNT_COUNT i) (nsze / stripe)).setFlag
            (R.RTE_NS_CFG_EMU i) (fmt == 2)
          (s2.setFlag (R.RTE_NS_CFG_VALID i) true).nsMade no (mk i [base])
  else if 2 < fmt then s.finishSt no (cst 0x10A)
  else if nsze = 0 ∨ ncap ≠ nsze then s.finishSt no (cst scField)
  else
    let secs := if fmt = 2 then (nsze + 7) / 8 else nsze
    match s.bandsFor secs (s.bandNums (fun b => b.st == 0)), id with
    | none, _ => s.finishSt no (cst 0x115)
    | some _, none => s.finishSt no (cst 0x116)
    | some bs, some i => (bs.foldl (fun (t : State) b => t.setBand b ⟨4, 0⟩) s).nsMade no (mk i bs)

/-- Deletion of a namespace: its commands end, its cached data goes, its stripes become UNMAPPED or its units FREE. -/
def State.nsDrop (s : State) (n : NsSt) : State :=
  let s1 := (s.hif.slots.filter (fun d => d.isIo && d.e.nsid == n.id && d.res.isNone && !d.effect)).foldl
    (fun (t : State) d => (t.freeBufs d.bufs).finishSt d.no (cst scNs)) s
  let s2 := (s1.hif.cache.filter (fun x => x.ns == n.id)).foldl (fun (t : State) x => (t.uncache x.ns x.sec).leftDone x.ns x.sec) s1
  let s3 := if n.packed then
      let i := n.id - 1
      let t := (List.range (s2.get (R.RTE_NS_COUNT_COUNT i))).foldl (fun (u : State) st => u.unmapStripe n.id st 0) s2
      t.setFlag (R.RTE_NS_CFG_VALID i) false
    else n.units.foldl (fun (t : State) b => t.setBand b ⟨0, 0⟩) s2
  let s4 := s3.modHif (fun h => { h with
    nss := h.nss.filter (fun y => y.id != n.id), medium := h.medium.filter (fun e => e.1.1 != n.id),
    unread := h.unread.filter (fun u => u.1 != n.id) })
  let s5 : State := { s4 with rte := { s4.rte with links := s4.rte.links.filter (fun r => r.ns != n.id) } }
  (s5.ldgRaise 0x0103 (leBytes 4 n.id ++ [1, BitVec.ofNat 8 (b2n n.packed), 0, 0] ++ leBytes 8 n.nsze)).flushCheck

/-- The device serves namespace commands now. -/
def State.nsServed (s : State) : Bool := loadedMode s.mode || s.mode == mWORKSHOP

/-- Namespace Management: create and delete. -/
def State.nsManage (s : State) (no : Nat) (x : Xfer) : State :=
  match s.adminCmd no 0x0D with
  | none => s
  | some c =>
    if !s.nsServed || s.earlier c (fun d => d.e.opc == 0x0D) then s
    else match bitsOf (c.dw 0) 0 4 with
      | 0 => s.adminXfer c x (fun t => t.nsCreate no x)
      | 1 =>
        let l := s.hif.nss.filter (fun n => n.id == c.e.nsid || c.e.nsid == 0xFFFFFFFF)
        if l.isEmpty && c.e.nsid != 0xFFFFFFFF then s.finishSt no (cst scNs)
        else if l.any (fun n => n.packed) && !s.flag R.RTE_STAT_RUN then s
        else ((l.foldl (fun (t : State) n => t.nsDrop n) s).raiseBoth ⟨2, 0, 0⟩).finishSt no (cst scOk)
      | _ => s.finishSt no (cst scField)

/-- Namespace Attachment: attach and detach. -/
def State.nsAttach (s : State) (no : Nat) (x : Xfer) : State :=
  match s.adminCmd no 0x15 with
  | none => s
  | some c =>
    if !s.nsServed || s.earlier c (fun d => d.e.opc == 0x15) then s
    else
      let sel := bitsOf (c.dw 0) 0 4
      match s.nsOf c.e.nsid with
      | none => s.finishSt no (cst scNs)
      | some n =>
        if 1 < sel then s.finishSt no (cst scField)
        else s.adminXfer c x (fun t =>
          let k := imgNat x.data 0 2
          let ids := (List.range k).map (fun i => imgNat x.data (2 + 2 * i) 2)
          if k = 0 || ids.any (fun i => i == 0 || decide (2 < i) || !t.ctlExists (i - 1)) then t.finishSt no (cst 0x11C)
          else if sel = 0 && ids.any (fun i => n.attached (i - 1)) then t.finishSt no (cst 0x118)
          else if sel = 1 && ids.any (fun i => !n.attached (i - 1)) then t.finishSt no (cst 0x11A)
          else ((t.modNs n.id (fun y => { y with
            att := ids.foldl (fun l i => l.set (i - 1) (sel == 0)) y.att })).raiseBoth ⟨2, 0, 0⟩).finishSt no (cst scOk))

/-! ### Firmware (R335, R430, R431) -/

/-- Firmware Image Download. -/
def State.download (s : State) (no : Nat) (x : Xfer) : State :=
  match s.adminCmd no 0x11 with
  | none => s
  | some c =>
    let n := 4 * (c.dw 0 + 1)
    s.adminXfer c x (fun t => match t.downloadPiece c.ctrl (4 * c.dw 1) (takeAt x.data 0 n) with
      | some t1 => t1.finishSt no (cst scOk)
      | none => t.finishSt no (cst scField))

/-- Firmware Commit; a second one waits for the first. -/
def State.firmwareCommit (s : State) (no : Nat) : State :=
  match s.adminCmd no 0x10 with
  | none => s
  | some c =>
    if s.earlier c (fun d => d.e.opc == 0x10) || s.hif.activating.isSome then s
    else s.commit no c.stamp (bitsOf (c.dw 0) 0 3) (bitsOf (c.dw 0) 3 3) (c.resv == some true)

/-- Steps 2 to 4 of R335 have not ended 1.5 s after the commit: the activation is abandoned. -/
def State.activationTimeout (s : State) : State :=
  match s.hif.activating with
  | some (t, no, _) =>
    if s.passed t 1500000000 then (s.modHif (fun h => { h with activating := none })).finishSt no (cst 0x112) else s
  | none => s

/-! ### Self-test and directives (R305) -/

/-- Device Self-test: a test starts or is aborted. -/
def State.selfTest (s : State) (no : Nat) : State :=
  match s.adminCmd no 0x14 with
  | none => s
  | some c =>
    match bitsOf (c.dw 0) 0 4 with
    | 15 => (s.modHif (fun h => { h with
        selfLog := (if h.selfTest = 0 then h.selfLog else ((h.selfTest, 1, s.now) :: h.selfLog).take 20), selfTest := 0 })).finishSt
          no (cst scOk)
    | 1 => if s.hif.selfTest ≠ 0 then s.finishSt no (cst 0x11D)
      else (s.modHif (fun h => { h with selfTest := 1 })).finishSt no (cst scOk)
    | 2 => if s.hif.selfTest ≠ 0 then s.finishSt no (cst 0x11D)
      else (s.modHif (fun h => { h with selfTest := 2 })).finishSt no (cst scOk)
    | _ => s.finishSt no (cst scField)

/-- The running self-test ends with a result. -/
def State.selfTestEnd (s : State) (r : Nat) : State :=
  if s.hif.selfTest = 0 then s
  else s.modHif (fun h => { h with selfLog := ((h.selfTest, r % 16, s.now) :: h.selfLog).take 20, selfTest := 0 })

/-- Directive Send: the Streams directive is enabled or disabled, stream identifiers are released. -/
def State.directiveSend (s : State) (no : Nat) (x : Xfer) : State :=
  match s.adminCmd no 0x19 with
  | none => s
  | some c =>
    let op := bitsOf (c.dw 1) 0 8
    let ty := bitsOf (c.dw 1) 8 8
    let id := bitsOf (c.dw 1) 16 16
    let on := cnt (s.ctl c.ctrl).feats 0xD1 == 1
    let ok := fun (t : State) => t.finishSt no (cst scOk)
    s.adminXfer c x (fun t =>
      if ty = 0 ∧ op = 1 ∧ bitsOf (c.dw 2) 8 8 = 1 then
        ok ((t.setFeat c.ctrl 0xD1 (bitsOf (c.dw 2) 0 1)).modCtl c.ctrl (fun y => { y with streams := [] }))
      else if ty = 1 ∧ on ∧ op = 1 then ok (t.modCtl c.ctrl (fun y => { y with streams := y.streams.filter (· != id) }))
      else if ty = 1 ∧ on ∧ op = 2 then ok (t.modCtl c.ctrl (fun y => { y with streams := [] }))
      else t.finishSt no (cst scField))

/-- Directive Receive: the directives, the Streams parameters, or the open streams. -/
def State.directiveReceive (s : State) (no : Nat) (x : Xfer) : State :=
  match s.adminCmd no 0x1A with
  | none => s
  | some c =>
    let op := bitsOf (c.dw 1) 0 8
    let ty := bitsOf (c.dw 1) 8 8
    let n := 4 * (c.dw 0 + 1)
    let y := s.ctl c.ctrl
    let on := cnt y.feats 0xD1
    let s1 : State := { s with free := s.free + 1 }
    if ty = 0 ∧ op = 1 then s.giveData c x (takeAt (tableOf 4096 [(0, [3]), (32, [BitVec.ofNat 8 (1 + 2 * on)])]) 0 n)
    else if ty = 1 ∧ on = 1 ∧ op = 1 then s1.giveData c x (takeAt (pageOf s.free 32 []) 0 n)
    else if ty = 1 ∧ on = 1 ∧ op = 2 then
      s.giveData c x (takeAt (leBytes 2 y.streams.length ++ (y.streams.map (fun i => leBytes 2 i)).flatten) 0 n)
    else if ty = 1 ∧ on = 1 ∧ op = 3 then
      let (v, s2) := s.draw
      s2.finish no ⟨cst scOk, v % 65536, 0, []⟩
    else s.finishSt no (cst scField)

/-! ### Unlock commands (R311, Table 12-15) -/

/-- An unlock command of opcode `opc` in its turn. -/
def State.unlockCmd (s : State) (no opc : Nat) : Option CmdSlot :=
  match s.adminCmd no opc with
  | some c => if s.earlier c (fun d => d.e.opc == 0xC0 || d.e.opc == 0xC1) then none else some c
  | none => none

/-- Unlock Challenge. -/
def State.unlockChallenge (s : State) (no : Nat) : State :=
  match s.unlockCmd no 0xC0 with
  | none => s
  | some c =>
    if c.e.nsid ≠ 0 then s.finishSt no (cst scField)
    else match s.challenge (bitsOf (c.dw 0) 0 2) (bitsOf (c.dw 0) 2 2) c.stamp with
      | ((some st, _), s1) => s1.finishSt no (cst st)
      | ((none, ch), s1) => s1.finish no ⟨cst scOk, ch % 2 ^ 32, ch / 2 ^ 32, []⟩

/-- Unlock Response. -/
def State.unlockResponse (s : State) (no : Nat) (x : Xfer) : State :=
  match s.unlockCmd no 0xC1 with
  | none => s
  | some c =>
    if c.e.nsid ≠ 0 then s.finishSt no (cst scField)
    else s.adminXfer c x (fun t =>
      let numd := bitsOf (c.dw 0) 0 8
      let (st, t1) := t.respond (bitsOf (c.dw 1) 0 2) (bitsOf (c.dw 1) 2 2) numd c.stamp (takeAt x.data 0 (4 * numd))
      t1.finishSt no (cst st))

end Sys2Proof.Machine
end

