-- ==== Sys2Proof/Machine/Ctl.lean ====
section
/-!
DEFINITION. The controllers and the ports: enable, resets, shutdown, doorbells, links and the SMBus port (chapters 12 and 13,
R418).
-/

namespace Sys2Proof.Machine

open Sys2Proof

/-! ### Enable (R52, R296) -/

/-- CC holds the values that R296 asks for. -/
def ccOk (cc : Nat) : Bool := bitsOf cc 16 4 == 6 && bitsOf cc 20 4 == 4 && bitsOf cc 7 4 == 0

/-- CSTS.RDY sets, once BOOT has been left and no reset is under way. -/
def State.ctlReady (s : State) (n : Nat) : State :=
  let c := s.ctl n
  if c.enWait && s.mode != mBOOT && c.resetAt.isNone then
    (s.modCtl n (fun x => { x with rdy := true, enWait := false })).hifShow
  else s

/-- CC.EN changes from 0 to 1: the admin queues are those of AQA; other values of CC than R296 gives set CSTS.CFS. -/
def State.ctlEnable (s : State) (n cc aqa : Nat) : State :=
  if !s.ctlExists n || bitOf (s.ctl n).cc 0 || !bitOf cc 0 || s.flt.safeStop then s
  else if !ccOk cc then ((s.modCtl n (fun x => { x with cc := cc, cfs := true })).ldgProtocol 1 n).hifShow
  else
    let s1 := s.modCtl n (fun x => { x with
      cc := cc, enWait := true, shst := 0, shut := none
      sqs := [⟨0, bitsOf aqa 0 12 + 1, 0, 0, 0, []⟩], cqs := [⟨0, bitsOf aqa 16 12 + 1, 0, [], true, 0⟩] })
    (s1.ctlReady n).hifShow

/-! ### Resets (R291, R331, R332, Table 13-3) -/

/-- Controller `n` is reset: its commands are discarded, its queues are lost, its features return to their defaults, its
partial download goes, and transfers to its host end bad. Cached writes and reservations stay. -/
def State.ctlReset (s : State) (n cc : Nat) : State :=
  let nos := (s.hif.slots.filter (fun c => c.ctrl == n)).map (·.no)
  let s0 := match s.hif.activating with
    | some (t, no, k) => if nos.contains no then s.modHif (fun h => { h with activating := some (t, 8192, k) }) else s
    | none => s
  let s1 := nos.foldl (fun (t : State) no => t.cmdDrop no) s0
  let s2 := s1.modCtl n (fun x => { Ctl.init with cc := cc, rdy := x.rdy, resetAt := some s.now, errLog := x.errLog, tsBase := (0, s.now) })
  let s3 := match s2.sec.dl with
    | some (k, _) => if k = n then s2.dlClear else s2
    | none => s2
  ((((s3.cvyHostGone n).resvSettle).flushCheck).acquireCheck).hifShow

/-- CC.EN changes from 1 to 0. -/
def State.ctlDisable (s : State) (n cc : Nat) : State :=
  if s.ctlExists n && bitOf (s.ctl n).cc 0 && !bitOf cc 0 then s.ctlReset n cc else s

/-- No transfer to the controller's host is under way and its slots are free: CSTS.RDY reads 0 (R332). -/
def State.ctlResetDone (s : State) (n : Nat) : State :=
  if (s.ctl n).resetAt.isSome && s.slotsOf n == 0 && (List.range 4).all (fun e => !(s.eng e).toHost n) then
    ((s.modCtl n (fun x => { x with rdy := false, resetAt := none })).ctlReady n).hifShow
  else s

/-- A port event of R291: the link leaves DL_Active but for a Function Level Reset. -/
def State.portReset (s : State) (n : Nat) (kind : PortReset) : State :=
  if !s.ctlExists n then s
  else
    let s1 := s.fault .hif n
    let s2 := if kind = .flr then s1
      else (((s1.setFlag (R.HIF_LINK_UP n) false).set (R.HIF_LINK_SPEED n) 0).set (R.HIF_LINK_WIDTH n) 0).modHif
        (fun h => { h with training := h.training.set n false })
    s2.ctlReset n 0

/-- A write to NSSR: 0x4E56_4D65 resets both controllers, locks the host path and clears reservations without persistence
(R298, R338, R436). -/
def State.subsystemReset (s : State) (value : Nat) : State :=
  if value ≠ 0x4E564D65 then s
  else
    let s1 := s.ctlsHere.foldl (fun (t : State) n => t.ctlReset n 0) s
    let s2 := s1.modHif (fun h => { h with nss := h.nss.map (fun n =>
      if n.resv.ptpl then n else { n with resv := ⟨[], none, 0, 0, false⟩ }) })
    s2.pathLock 0

/-! ### Shutdown (R297) -/

/-- CC.SHN = 01b or 10b: fetching stops and the cache is destaged. -/
def State.shutdown (s : State) (n cc : Nat) : State :=
  let shn := bitsOf cc 14 2
  if !s.ctlExists n || !bitOf (s.ctl n).cc 0 || !bitOf cc 0 || (shn != 1 && shn != 2) || (s.ctl n).shst != 0 then s
  else
    ((s.modCtl n (fun x => { x with cc := cc, shst := 1, shut := some (s.now, shn == 2) })).modHif
      (fun h => { h with destaging := h.destaging || !h.cache.isEmpty })).hifShow

/-- In-flight commands of a controller that a shutdown waits for: all but Asynchronous Event Requests. -/
def State.flying (s : State) (n : Nat) : Bool :=
  s.hif.slots.any (fun c => c.ctrl == n && !(!c.isIo && c.e.opc == 0x0C && c.res.isNone))

/-- SHST reaches 10b; once it has on every controller that exists, the device moves to PARKED. -/
def State.shutdownEnd (s : State) (n : Nat) : State :=
  let s1 := (s.modCtl n (fun x => { x with shst := 2, shut := none })).hifShow
  if s1.ctlsHere.all (fun k => (s1.ctl k).shst == 2) then
    (s1.modSys (fun y => { y with opMode := mPARKED })).modeGo mPARKED 0x0E 4 s.now
  else s1

/-- The commands have ended and every write fetched before the CC write is on the medium. -/
def State.shutdownDone (s : State) (n : Nat) : State :=
  match (s.ctl n).shut with
  | some (t, _) => if s.flying n || s.hif.cache.any (fun x => decide (x.first < t)) then s else s.shutdownEnd n
  | none => s

/-- Writes that wait for the medium and were fetched before `t` fail while their commands are outstanding: Write Fault, and
their blocks are no deferred errors (R326). -/
def State.failWaiting (s : State) (t : Nat) : State :=
  let l := s.hif.slots.filter (fun c => c.effect && c.res.isNone && !c.left.isEmpty && decide (c.stamp < t))
  let s1 := l.foldl (fun (u : State) c => u.finishSt c.no (cst scWriteFault)) s
  s1.modHif (fun h => { h with cache := h.cache.map (fun x => { x with
    stamps := x.stamps.map (fun k => if l.any (fun c => c.stamp == k) then 0 else k) }) })

/-- 2 s after an abrupt shutdown the writes not yet destaged become deferred write errors. -/
def State.abruptTimeout (s : State) (n : Nat) : State :=
  match (s.ctl n).shut with
  | some (t, true) => if s.passed t 2000000000 then (((s.failWaiting t).loseCache t 5).flushCheck).shutdownDone n else s
  | _ => s

/-! ### Doorbells (R302, R303, R315) -/

/-- An invalid doorbell write is discarded: DB_INVALID, the event and the record. -/
def State.doorbellBad (s : State) (n info : Nat) : State := ((s.fault .hif (4 + n)).raiseEv n ⟨0, info, 1⟩).ldgProtocol 1 n

/-- A submission queue tail doorbell. -/
def State.sqDoorbell (s : State) (n y v : Nat) : State :=
  let c := s.ctl n
  if !s.ctlExists n || !c.rdy || 255 < y then s
  else match c.sqOf y with
    | none => s.doorbellBad n 0
    | some q =>
      if s.sqGoing n y then s
      else if q.size ≤ v then s.doorbellBad n 1
      else s.modCtl n (fun x => x.modSq y (fun z => { z with tail := v }))

/-- A completion queue head doorbell: entries are freed, and held completions are posted. -/
def State.cqDoorbell (s : State) (n y v : Nat) : State :=
  let c := s.ctl n
  if !s.ctlExists n || !c.rdy || 255 < y then s
  else match c.cqOf y with
    | none => s.doorbellBad n 0
    | some q =>
      let k := (v + q.size - q.head) % q.size
      if q.size ≤ v ∨ q.posted.length < k then s.doorbellBad n 1
      else (s.modCtl n (fun x => x.modCq y (fun z => { z with head := v, posted := z.posted.drop k }))).cqDrain n y

/-! ### Links (R290) -/

/-- PERSTn_N of a port moves: GPIO1, and GPIO2 in the dual-port configuration (R468). -/
def State.perst (s : State) (n : Nat) (high : Bool) : State :=
  let l := s.get R.SYS_GPIO_IN_LEVEL
  let b := 2 ^ (n + 1)
  s.set R.SYS_GPIO_IN_LEVEL (if high then l ||| b else l - (l &&& b))

/-- PERSTn_N falls: a controller reset of the port, its link down (R291, R468). -/
def State.perstLow (s : State) (n : Nat) : State := if s.ctlExists n then (s.perst n false).portReset n .linkDown else s

/-- Link training of a port starts, PERSTn_N being high. -/
def State.linkTraining (s : State) (n : Nat) : State :=
  if s.ctlExists n && bitOf (s.get R.SYS_PWR_STAT_PD) 3 && decide (200000 ≤ s.now) && !s.flag (R.HIF_LINK_UP n) then
    (s.perst n true).modHif (fun h => { h with training := h.training.set n true })
  else s

/-- The link of a port reaches DL_Active at a speed code and a width, `recoveries` entries into Recovery later. -/
def State.linkUp (s : State) (n speed width recoveries : Nat) : State :=
  let x8 := s.flag R.HIF_CFG_X8
  let wOk := width == 1 || width == 2 || width == 4 || (x8 && width == 8)
  if !s.ctlExists n || !((s.hif.training[n]?).getD false || s.flag (R.HIF_LINK_UP n)) || speed == 0 || !wOk then s
  else
    let s1 := ((s.setFlag (R.HIF_LINK_UP n) true).set (R.HIF_LINK_SPEED n) speed).set (R.HIF_LINK_WIDTH n) width
    ((s1.bump (R.HIF_LINK_RETRAIN n) recoveries).setFlag (R.HIF_LINK_DEGRADED n)
      (decide (speed < 3) || decide (width < if x8 then 8 else 4))).modHif (fun h => { h with training := h.training.set n false })

/-- A port logs an uncorrectable error. -/
def State.aerUncorrectable (s : State) (n : Nat) : State := if s.ctlExists n then s.fault .hif (2 + n) else s

/-! ### The SMBus port (R314, R418) -/

/-- The port answers: the target is enabled, from 2 ms after power-good. -/
def State.smbOn (s : State) : Bool := s.flag R.HIF_SMB_CFG_EN && s.sys.powerGood && s.passed 0 2000000

/-- A protocol or PEC error. -/
def State.smbErr (s : State) : State := (s.fault .hif 8).ldgProtocol 2 0

/-- A read is answered with `bs`, the length before it; without the PEC asked for SMB_ERR sets. -/
def State.smbAnswer (s : State) (pec : Bool) (bs : List Byte) : State :=
  let s1 := s.modHif (fun h => { h with smb := BitVec.ofNat 8 bs.length :: bs })
  if s.flag R.HIF_SMB_CFG_PEC_REQ && !pec then s1.smbErr else s1

/-- The status flags of command code 0x00 (Table 12-18). -/
def State.smbFlags (s : State) : Nat :=
  128 + 64 * b2n (!(s.ctl 0).rdy && !(s.ctl 1).rdy) + 32 * b2n (s.mode != mLIMP && !s.memFailed)
    + 16 * b2n (!(s.ctl 0).cfs && !(s.ctl 1).cfs) + 8 * b2n (s.flag (R.HIF_LINK_UP 0)) + 4 * b2n (s.flag (R.HIF_LINK_UP 1)) + 3

/-- Basic Management Command reads; codes outside Table 12-18 and the readout of R418 are answered with a length of 0. -/
def State.smbRead (s : State) (code : Nat) (pec : Bool) : State :=
  if !s.smbOn then s
  else if code = 0x00 then
    let crit := Nat.lor (s.critical 0) (s.critical 1)
    let s1 : State := { s with free := s.free + 1 }
    s1.smbAnswer pec [BitVec.ofNat 8 s.smbFlags, BitVec.ofNat 8 (255 - crit), BitVec.ofInt 8 s.composite, Config.pageByte s.free 5, 0, 0]
  else if code = 0x08 then
    s.smbAnswer pec ((s.identField s.free 0 2).reverse ++ s.identField s.free 8 20)
  else s.smbAnswer pec []

/-- Command code 0x20: the readout offset, three bytes, most significant first. -/
def State.smbOffset (s : State) (bs : List Byte) (pec : Bool) : State :=
  if !s.smbOn then s
  else
    let s1 := if s.flag R.HIF_SMB_CFG_PEC_REQ && !pec then s.smbErr else s
    if bs.length ≠ 3 ∨ 9437184 ≤ ofBeBytes bs then s1.smbErr
    else { s1 with ldg := { s1.ldg with smbOfs := ofBeBytes bs } }

/-- Command code 0x21: 32 bytes from the offset, which advances. -/
def State.smbLedger (s : State) (pec : Bool) : State :=
  if !s.smbOn then s
  else
    let s1 := s.smbAnswer pec (s.ldgReadout s.ldg.smbOfs 32)
    { s1 with ldg := { s1.ldg with smbOfs := s.ldg.smbOfs + 32 } }

/-- Command code 0x22: the next RSEQ, PCYC and LDG_PTR. -/
def State.smbStatus (s : State) (pec : Bool) : State :=
  if !s.smbOn then s
  else s.smbAnswer pec (beBytes 4 (s.get R.LDG_RSEQ_RSEQ) ++ beBytes 4 (s.get R.LDG_PCYC_PCYC) ++ beBytes 4 (s.get R.LDG_PTR_OFS))

end Sys2Proof.Machine
end

