-- ==== Sys2Proof/Machine/Contain.lean ====
section
/-!
DEFINITION. Containment resets (R393 to R396), the control-core switchover and the safe stop (R397 to R399), and which
fault causes are levels that still hold (R400).
-/

namespace Sys2Proof.Machine

open Sys2Proof

/-- Changes the faults' part of State. -/
def State.modFlt (s : State) (f : FltSt → FltSt) : State := { s with flt := f s.flt }

/-! ### Causes that persist (R10, R400) -/

/-- A number with bit `i` set for every `i` below `n` with `p i`. -/
def maskOf (n : Nat) (p : Nat → Bool) : Nat := (List.range n).foldl (fun m i => if p i then m + 2 ^ i else m) 0

/-- A core pair's state in FLT_CORE_STAT (Table 16-10). -/
def pairFld (p : Nat) : Fld := if p = 0 then R.FLT_CORE_STAT_PAIR0 else R.FLT_CORE_STAT_PAIR1

/-- The status bits of a register whose cause is a level that holds now: a clear leaves them at 1. Every other cause is an
event, which has gone once it has happened. -/
def State.causes (s : State) (r : FltReg) : Nat :=
  match r with
  | .sys => b2n ((List.range 4).any (fun i => s.envEn i && decide (3 ≤ (s.sys.envMiss[i]?).getD 0)))
      + 2 * b2n (s.flag R.SYS_TEMP_HOT)
  | .flt => 2 * b2n (s.get (pairFld 0) == 3 || s.get (pairFld 1) == 3)
  | .srv =>
    let down := fun (a : Nat) => s.bridleFit a && !(s.act a).linkUp
    2 ^ 8 * maskOf 4 down + 2 ^ 24 * maskOf 4 (fun a => down a && (s.act a).flagged)
      + 2 ^ 12 * maskOf 4 (fun a => (s.act a).fltLow)
      + 2 ^ 28 * maskOf 2 (fun n => s.flag (R.SRV_GUST_STAT_TRIPPED n))
      + 2 ^ 30 * maskOf 2 (fun n => s.flag (R.SRV_GUST_STAT_LOST n))
  | .spn => 2 ^ 4 * b2n (s.spn.isAt.isSome && s.spn.gateAt.isNone) + 2 ^ 5 * b2n (decide (2 ≤ s.spn.ovRun))
      + 2 ^ 6 * b2n (decide (2 ≤ s.spn.uvRun) || s.spn.supLow.isSome) + 2 ^ 7 * b2n s.spn.fltLow
  | .dep => maskOf 4 (fun n => s.poolLow n)
  | .mem => 4 * b2n s.ms.derated
  | .dlk => maskOf 4 (fun a => s.flag (R.DLK_L_STAT_FLT_LEVEL a))
  | .pool => 2 * b2n (s.streamCount == 0) + 4 * b2n s.noDeep
  | _ => 0

/-! ### What a containment reset discards and firmware runs again (R393, R395) -/

/-- The sectors armed on a head or in flight there. -/
def State.armsOf (s : State) (h : Nat) : List Arm :=
  let run := match (s.head h).run with
    | some ⟨_, _, some (a, _)⟩ => [a]
    | _ => []
  (s.rdPool.jobs.filter (fun j => j.head == h)).map (fun j => j.arm) ++ run ++ (s.head h).arms

/-- The work that a reset of the unit discards. -/
def State.lostOf (s : State) (u : CUnit) : List LostWork :=
  match u with
  | .ch h => (s.armsOf h).map (LostWork.arm h)
  | .seq a => (s.sq a).tasks.map (LostWork.task a) ++ (headsOf a).flatMap (fun h => (s.armsOf h).map (LostWork.arm h))
  | .dep => s.dep.wait.map LostWork.dep
  | .rte => s.rte.wait.map LostWork.rte
  | .comp n =>
    let st := s.get (R.CMP_C_STAT_STATE n)
    if st = 0 ∨ st = 5 then [] else [.comp n (s.lane n).since]
  | .decomp n => if s.get (R.CMP_D_STAT_STATE n) = 1 then [.decomp n ((s.decomp[n]?).getD ⟨0, false⟩).since] else []
  | .cvy e => ((List.range 32).filter (fun c => s.get (R.CVY_C_STAT_STATE e c) == 2)).map (fun c =>
      .chan e c (s.cvyCur e c).1)
  | _ => []

/-- A Convoy channel that halted with DISCARD is restarted at its CUR (R395). -/
def State.cvyResume (s : State) (e c : Nat) : State :=
  if s.get (R.CVY_C_STAT_STATE e c) = 5 ∧ s.get (R.CVY_C_STAT_HALT_CAUSE e c) = 5 then
    let p := s.cvyCur e c
    let s1 := ((s.set (R.CVY_C_HEAD_LO_HEAD e c) (p.1 / 64)).set (R.CVY_C_HEAD_HI_HEAD e c) (p.1 / 2 ^ 32)).set
      (R.CVY_C_HEAD_HI_KIND e c) p.2
    s1.cvyCtrl e c 3
  else s

/-- The Depot handles that the descriptors of a chain name, from one of a link kind at `a`, at most `k` of them (Tables 11-1 and
11-2). -/
def State.chainHandles (s : State) : Nat → Nat → Nat → List Nat
  | 0, _, _ => []
  | k + 1, kind, a =>
    if kind = 0 ∨ kind = 3 then []
    else
      let bs := (s.linkReadC kind a 64).2.1
      let w := fun (i : Nat) => ofLeBytes ((bs.drop (8 * i)).take 8)
      (if bitsOf (w 0) 26 2 = 0 ∧ bitsOf (w 3) 0 3 = 2 then [bitsOf (w 1) 0 32] else [])
        ++ (if bitsOf (w 3) 4 3 = 2 then [bitsOf (w 2) 0 32] else [])
        ++ s.chainHandles k (bitsOf (w 4) 60 2) (bitsOf (w 4) 0 35)

/-- A channel in OFF of another engine in service: the lowest one. -/
def State.cvySpare (s : State) (e : Nat) : Option (Nat × Nat) :=
  ((List.range 128).map (fun i => (i / 32, i % 32))).find? (fun p => p.1 != e && bitOf (s.get R.CVY_CTRL_ENG_EN) p.1
    && !s.inReset (.cvy p.1) && s.get (R.CVY_C_STAT_STATE p.1 p.2) == 0)

/-- A channel with work is moved to another engine: the new channel takes its chain from CUR, its priority and interrupt enable,
and a slot in its buffers; the old one is OFF (R396). -/
def State.cvyMoveOne (s : State) (e c : Nat) : State :=
  let st := s.get (R.CVY_C_STAT_STATE e c)
  if st = 3 ∨ (st = 5 ∧ s.get (R.CVY_C_STAT_HALT_CAUSE e c) = 5) then
    match s.cvySpare e with
    | none => s
    | some (e2, c2) =>
      let p := s.cvyCur e c
      let s1 := s.laneShare (cvyTag e c) (cvyTag e2 c2) (s.chainHandles 64 p.2 p.1)
      let s2 := ((s1.set (R.CVY_C_HEAD_LO_HEAD e2 c2) (p.1 / 64)).set (R.CVY_C_HEAD_HI_HEAD e2 c2) (p.1 / 2 ^ 32)).set
        (R.CVY_C_HEAD_HI_KIND e2 c2) p.2
      let s3 := (s2.set (R.CVY_C_CTRL_PRIO e2 c2) (s.get (R.CVY_C_CTRL_PRIO e c))).set (R.CVY_C_CTRL_EN e2 c2) 1
      let s4 := if bitOf (s.get (R.CVY_E_IRQ_EN_IRQ_EN e)) c then s3.orBits (R.CVY_E_IRQ_EN_IRQ_EN e2) (2 ^ c2) else s3
      ((s4.cvyCtrl e2 c2 3).set (R.CVY_C_CTRL_EN e c) 0).cvyOff e c
  else s

/-- The channels of an engine that leaves service move to the other engines (R396). -/
def State.cvyMove (s : State) (e : Nat) : State := (List.range 32).foldl (fun (t : State) c => t.cvyMoveOne e c) s

/-- Firmware runs one piece of lost work again; what it is then known by. -/
def State.runAgain (s : State) (w : LostWork) : LostWork × State :=
  match w with
  | .arm h a => (w, s.arm h a)
  | .task a ws => (w, s.modSq a (fun x => { x with tasks := (x.tasks ++ [ws]).take 64 }))
  | .dep q => (w, s.depRequest q)
  | .rte q => (w, s.rteRequest q)
  | .comp n _ => (.comp n s.now, s.compGo n)
  | .decomp n _ => (.decomp n s.now, s.decompGo n)
  | .chan e c _ => (w, s.cvyResume e c)

/-- Firmware runs a unit's lost work again once, when it is back in service (R395). -/
def State.runLost (s : State) (u : CUnit) : State :=
  let mine := (s.lost.work.filter (fun e => decide (e.1 = u))).map (fun e => e.2)
  let s1 : State := { s with lost := ⟨s.lost.work.filter (fun e => !decide (e.1 = u)),
    s.lost.reran.filter (fun e => !decide (e.1 = u))⟩ }
  if s.flt.outOfService.any (fun x => decide (x = u)) then s1
  else mine.foldl (fun (t : State) w =>
    let (w1, t1) := t.runAgain w
    { t1 with lost := { t1.lost with reran := t1.lost.reran ++ [(u, w1)] } }) s1

/-! ### A containment reset begins and ends (R393, Table 16-3) -/

/-- What the reset does to the unit. -/
def State.unitReset (s : State) (u : CUnit) : State :=
  match u with
  | .ch h => s.chContain h
  | .dec n => (((s.decReset n).set (R.LDPC_CNT_JOBS_JOBS n) 0).set (R.LDPC_CNT_ITER_ITER n) 0).decCheck
  | .seq a => s.sqContain a
  | .cle => s.cleContain
  | .spn => s.spnContain
  | .dep => s.depContain
  | .cvy e => s.cvyContain e
  | .comp n => s.compContain n
  | .decomp n => s.decompContain n
  | .rte => s.rteContain

/-- What the unit does at the reset's end. -/
def State.unitRestart (s : State) (u : CUnit) : State :=
  match u with
  | .ch h => s.chRestart h
  | .dec _ => s
  | .seq a => s.sqStart a
  | .cle => s
  | .spn => s.spnRestart
  | .dep => s.depRestart
  | .cvy e => s.cvyRestart e
  | .comp _ => s
  | .decomp _ => s
  | .rte => s.rteRun

/-- How firmware takes a unit out of service (R396). -/
def State.leaveService (s : State) (u : CUnit) : State :=
  match u with
  | .ch _ => s
  | .dec n =>
    let s1 := (s.setFlag (R.LDPC_CTRL_EN n) false).decCheck
    if 16 ≤ n then s1.deepCheck else s1
  | .seq a => (s.sqStopReq a).actUnload a
  | .cle => s.limpEntry true
  | .spn => s.limpEntry true
  | .dep => s.limpEntry false
  | .cvy e => (s.clrBits R.CVY_CTRL_ENG_EN (2 ^ e)).cvyMove e
  | .comp n => s.clrBits R.CMP_CTRL_C_EN (2 ^ n)
  | .decomp n => s.clrBits R.CMP_CTRL_D_EN (2 ^ n)
  | .rte => s.limpEntry false

/-- How a unit returns to service once ESCALATE has been cleared (R396, R400). -/
def State.joinService (s : State) (u : CUnit) : State :=
  match u with
  | .dec n => s.setFlag (R.LDPC_CTRL_EN n) true
  | .cvy e => s.orBits R.CVY_CTRL_ENG_EN (2 ^ e)
  | .comp n => s.orBits R.CMP_CTRL_C_EN (2 ^ n)
  | .decomp n => s.orBits R.CMP_CTRL_D_EN (2 ^ n)
  | _ => s

/-- ESCALATE has been cleared: the units return and their counts restart. -/
def State.escalateClear (s : State) : State :=
  let us := s.flt.outOfService
  us.foldl (fun (t : State) u => t.joinService u)
    (s.modFlt (fun f => { f with outOfService := [], history := f.history.filter (fun e => !us.contains e.1) }))

/-- The unit has undergone ESC_N containment resets within ESC_WIN (R396). -/
def State.escalated (s : State) (u : CUnit) : Bool :=
  let win := s.get R.FLT_CFG_ESC_WIN * 10000000
  decide (s.get R.FLT_CFG_ESC_N
    ≤ (s.flt.history.filter (fun e => decide (e.1 = u) && decide (s.now < e.2 + win))).length)

/-- A containment reset of a unit begins; one that is already in reset is not reset again (R393, R396). -/
def State.contain (s : State) (u : CUnit) : State :=
  if s.inReset u then s
  else
    let again := s.lost.reran.filterMap (fun e => if e.1 = u then some e.2 else none)
    let work := (s.lostOf u).filter (fun w => !again.contains w)
    let s1 : State := { s with lost := { s.lost with work := s.lost.work ++ work.map (fun w => (u, w)) } }
    let s2 := s1.modFlt (fun f => { f with
      resets := f.resets ++ [(u, s.now)]
      history := (u, s.now) :: f.history.filter (fun e => decide (s.now ≤ e.2 + 2550000000)) })
    let s3 := s2.unitReset u
    if s3.escalated u then
      ((s3.fault .flt 4).modFlt (fun f => { f with
        outOfService := if f.outOfService.contains u then f.outOfService else f.outOfService ++ [u] })).leaveService u
    else s3

/-- Adds an entry to log page 0xC3, which keeps the 64 newest (R392). -/
def State.snapAdd (s : State) (e : SnapEntry) : State := s.modFlt (fun f => { f with snap := (e :: f.snap).take 64 })

/-- The entries that waited for the return to service are made, with the interruption in µs: `extra` ns beyond now (R392,
R394). -/
def State.snapReturn (s : State) (u : Option CUnit) (extra : Nat) : State :=
  let mine := s.flt.snapWait.filter (fun e => decide (e.1 = u))
  let s1 := s.modFlt (fun f => { f with snapWait := f.snapWait.filter (fun e => !decide (e.1 = u)) })
  mine.foldl (fun (t : State) e =>
    t.snapAdd { e.2 with serviceUs := e.2.serviceUs + (s.now + extra - e.2.stamp) / 1000 }) s1

/-- A source of the unit is set and unmasked while its cause persists. -/
def State.causeHolds (s : State) (u : CUnit) : Bool :=
  allFltRegs.any (fun r => (setBits (Nat.land (s.fltLive r) (s.causes r)) r.srcBits).any (fun b =>
    decide (r.unitOf b = some u) && decide (2 ≤ s.get (r.sevFld b))))

/-- A containment reset ends, 20 µs after it began: the unit is back in service, its lost work is run again, and a cause
that arose during the reset and persists is acted on now (R393, R395, Table 16-6). DEP is back once it is in RUN. -/
def State.containEnd (s : State) (u : CUnit) : State :=
  match s.flt.resets.find? (fun e => decide (e.1 = u)) with
  | none => s
  | some (_, t) =>
    if !s.passed t 20000 then s
    else
      let again := s.flt.resetAgain.contains u
      let s1 := s.modFlt (fun f => { f with
        resets := f.resets.filter (fun e => !decide (e.1 = u))
        resetAgain := f.resetAgain.filter (fun x => !decide (x = u)) })
      let s2 := s1.unitRestart u
      let s3 := match u with
        | .dep => if s2.get R.DEP_STAT_STATE = 2 then s2 else s2.snapReturn (some u) 0
        | .ch _ => s2.snapReturn (some u) 1000
        | _ => s2.snapReturn (some u) 0
      let s4 := s3.runLost u
      if again && s4.causeHolds u then s4.contain u else s4

/-- REBUILD ends: DEP is back in RUN (R267, Table 16-3). -/
def State.depBack (s : State) : State :=
  if s.get R.DEP_STAT_STATE = 2 then s.depRebuilt.snapReturn (some .dep) 0 else s

/-- The unit that a write of FLT_CONTAIN names (Table 16-10, R393). -/
def containUnit (unit inst : Nat) : Option CUnit :=
  match unit with
  | 1 => if inst ≤ 23 then some (.ch inst) else none
  | 2 => if inst ≤ 17 then some (.dec inst) else none
  | 3 => if inst ≤ 3 then some (.seq inst) else none
  | 4 => some .cle
  | 5 => some .spn
  | 6 => some .dep
  | 7 => if inst ≤ 3 then some (.cvy inst) else none
  | 8 => if inst ≤ 7 then some (.comp inst) else none
  | 9 => if inst ≤ 7 then some (.decomp inst) else none
  | 10 => some .rte
  | _ => none

/-- A containment request by firmware (R393). -/
def State.containRequest (s : State) (v : Nat) : State :=
  match containUnit (v % 256) (v / 256 % 256) with
  | some u => s.contain u
  | none => s

/-! ### The control-core pairs (R397 to R399) -/

/-- The active pair. -/
def State.activePair (s : State) : Nat := s.get R.FLT_CORE_STAT_ACTIVE

/-- A fault of the active pair with no standby: the hardware safe stop (R399). -/
def State.coreStop (s : State) : State :=
  let s1 := s.retractAll.spnBrake
  let s2 := s1.ctlsHere.foldl (fun (t : State) n => t.modCtl n (fun c => { c with cfs := true })) s1
  let s3 := ((((s2.set R.SYS_MODE_PREV s.mode).set R.SYS_MODE_MODE mLIMP).set R.SYS_MODE_TARGET mLIMP).set R.SYS_MODE_REASON
    5).setFlag R.SYS_MODE_STAMP_HI_BUSY false
  let s4 := ((s3.set R.SYS_MODE_STAMP_LO_STAMP_LO s.now).set R.SYS_MODE_STAMP_HI_STAMP_HI (s.now / 2 ^ 32)).modSys (fun y =>
    { y with step := none, limp := none, enteredAt := s.now })
  ((s4.archShow.modFlt (fun f => { f with safeStop := true })).attnAssert).ldgLastWord 0x0003 s.lastWordBytes

/-- The active pair is replaced: the standby takes over, or the safe stop is made. Events of one cycle make one switchover
(R397, R398, Table 16-6). -/
def State.switchover (s : State) : State :=
  let p := s.activePair
  let q := 1 - p
  if s.flt.safeStop || decide (s.flt.switching = some s.now) then s
  else if s.get (pairFld q) ≠ 1 then s.coreStop
  else
    let s1 := (((s.set R.FLT_CORE_STAT_ACTIVE q).set (pairFld q) 0).set (pairFld p) 2).bump R.FLT_CORE_STAT_SWITCHES 1
    let s2 := (s1.set64 R.A_FLT_SWITCH_STAMP_LO s.now).modFlt (fun f => { f with switching := some s.now, wdogAt := s.now })
    s2.fault .flt 0

/-- A pair becomes DEGRADED, and no standby is left. -/
def State.pairDegrade (s : State) (p : Nat) : State := (s.set (pairFld p) 3).fault .flt 1

/-- A lockstep mismatch (R397, Table 16-6). -/
def State.mismatch (s : State) (p : Nat) : State :=
  if !s.sys.powerGood then s
  else if p = s.activePair then (s.fault .flt 3).switchover
  else if s.get (pairFld p) = 1 then s.pairDegrade p
  else s

/-- WDOG_T without a write of FLT_WDOG (R397). -/
def State.watchdog (s : State) : State :=
  if s.sys.powerGood ∧ !s.flt.safeStop ∧ s.passed s.flt.wdogAt (s.get R.FLT_CFG_WDOG_T * 1000) then
    (s.fault .flt 2).switchover
  else s

/-- A write of FLT_WDOG by the active pair. -/
def State.watchdogKick (s : State) : State := s.modFlt (fun f => { f with wdogAt := s.now })

/-- The self-test of the old pair ends (R399). -/
def State.pairTested (s : State) (p : Nat) (pass : Bool) : State :=
  if s.get (pairFld p) ≠ 2 then s
  else if pass then s.set (pairFld p) 1
  else s.pairDegrade p

/-- In-flight I/O commands whose last step firmware cannot confirm complete with Discarded by Fault: which, is a free
choice. -/
def State.discardSome (s : State) : State :=
  (s.hif.slots.filter (fun c => c.isIo && c.res.isNone && c.started && !c.effect)).foldl (fun (t : State) c =>
    let (x, t1) := t.draw
    if x % 2 = 1 then (t1.freeBufs c.bufs).finishSt c.no stDiscarded else t1) s

/-- Reconciliation (R398): commands that the new pair cannot confirm are discarded, and the entry of the switchover is
made. -/
def State.reconcile (s : State) : State :=
  match s.flt.switching with
  | none => s
  | some _ => (s.discardSome.modFlt (fun f => { f with switching := none })).snapReturn none 0

end Sys2Proof.Machine
end

