-- ==== Sys2Proof/Machine/EccAct.lean ====
section
/-!
DEFINITION. What firmware does about hard and uncorrectable memory errors (R382, Table 15-1), and the freeing of Correction
Log entries (R380).
-/

namespace Sys2Proof.Machine

open Sys2Proof

/-- The region of buffer memory that holds an address (Table 15-1): a pool's buffer, a pool's state array or ring, the Route
Table with the entry index, the band table, a defect table, a context, or firmware's working area. -/
inductive BufRegion
  | buffer (pool index : Nat)
  | depot
  | route (index : Nat)
  | band
  | defects
  | context (k : Nat)
  | working

/-- `a` lies in `[b, b + n)`. -/
def inSpan (a b n : Nat) : Bool := decide (b ≤ a) && decide (a < b + n)

/-- The region of an address. -/
def State.bufRegion (s : State) (a : Nat) : BufRegion :=
  let pools := (List.range 4).filter s.poolHere
  match pools.find? (fun n => inSpan a (s.poolBase n) (poolSize n * s.poolCount n)) with
  | some n => .buffer n ((a - s.poolBase n) / poolSize n)
  | none =>
    if pools.any (fun n => inSpan a (s.poolState n) (8 * s.poolCount n) || inSpan a (s.poolRing n) (4 * s.poolCount n)) then
      .depot
    else if inSpan a s.rtBase (8 * s.get R.RTE_TBL_COUNT_COUNT) then .route ((a - s.rtBase) / 8)
    else if inSpan a s.bandBase (4 * s.get R.RTE_BAND_COUNT_COUNT) then .band
    else if (List.range 4).any (fun q => inSpan a (s.defBase q) (16 * s.get (R.SEQ_DEF_COUNT_COUNT q))) then .defects
    else match (List.range 64).find? (fun k => inSpan a (s.ctxAddr k) 36864) with
      | some k => .context k
      | none => .working

/-- Firmware restores a Route Table entry from the checkpoint and the journal: a change that was not yet durable is lost, and
its writes become deferred write errors (R369). -/
def State.routeRestore (s : State) (i : Nat) : State :=
  let old := ofLeBytes (bytesAt 0 s.mem (s.rtBase + 8 * i) 8)
  let new := s.rte.durableEntry i
  let lost := (s.rte.journal.filter (fun j => j.index == i && !s.rte.durableSeq j.seq)).map (fun j => j.seq)
  let s1 := s.rtWrite i new
  if new = old then s1
  else
    let own := s.rtOwner i
    let (w, s2) := s1.bandWord old
    let s3 := if rtMapped old then s2.rtUnmap own old (w.getD 0) else s2
    let (v, s4) := s3.bandWord new
    let s5 := if rtMapped new then s4.rtMap own new (v.getD 0) else s4
    let s6 : State := { s5 with rte := { s5.rte with journal := s5.rte.journal.filter (fun j => !lost.contains j.seq) } }
    (s6.hif.cache.filter (fun x => match x.journal with
      | some q => lost.contains q
      | none => false)).foldl (fun (t : State) x => t.loseSector x 4) s6

/-- The action for a word of buffer memory; `ue`: it is uncorrectable. -/
def State.bufAction (s : State) (k : EccKey) (ue : Bool) : State :=
  let a := 8 * k.idx
  match s.bufRegion a with
  | .buffer n i =>
    let e := ofLeBytes (bytesAt 0 s.mem (s.poolState n + 8 * i) 8)
    let s1 := s.depRequest ⟨8, 0xC0, 0xC0, mkHandle n (eGen e) i, false, false, n, false⟩
    if ue then
      (s1.hif.cache.filter (fun x => hPool x.handle == n && hIndex x.handle == i)).foldl (fun (t : State) x =>
        t.loseSector x 3) s1
    else s1
  | .depot => if ue then s.contain .dep else s
  | .route i => if ue then s.routeRestore i else s
  | .band => if ue then s.setFlips k 0 else s
  | .defects => if ue then s.setFlips k 0 else s
  | .context c => if ue then (s.memWrite (s.ctxAddr c + 32768) [0, 0, 0, 0, 0, 0, 0, 0]).2 else s
  | .working =>
    if ue then (s.setFlips k 0).discardSome
    else { s with ms := { s.ms with badPages := if s.ms.badPages.contains (a / 4096) then s.ms.badPages else
      s.ms.badPages ++ [a / 4096] } }

/-- A core pair's memories fail (R382, R397): hard, the pair is degraded, and a switchover follows where it is active;
uncorrectable, a switchover at once. -/
def State.pairMemory (s : State) (p : Nat) (ue : Bool) : State :=
  if p = s.activePair then
    let s1 := s.switchover
    if ue || s1.flt.safeStop then s1 else s1.pairDegrade p
  else s.pairDegrade p

/-- A slot of the command table leaves service; with `ue` its command ends with Discarded by Fault. -/
def State.slotRetire (s : State) (no : Nat) (ue : Bool) : State :=
  let s1 := match (if ue then s.cmd no else none) with
    | some c => if c.res.isNone then (s.freeBufs c.bufs).finishSt no stDiscarded else s
    | none => s
  s1.modHif (fun h => { h with badSlots := if h.badSlots.contains no then h.badSlots else h.badSlots ++ [no] })

/-- A lane's memory fails: hard, the lane is disabled; uncorrectable, its job ends BUS_ERR and is run
again on another lane. -/
def State.laneMemory (s : State) (n : Nat) (comp ue : Bool) : State :=
  if ue then
    let st := s.get (R.CMP_C_STAT_STATE n)
    if comp then (if st = 0 ∨ st = 5 then s else (s.compDone n 4).compAgain n)
    else if s.get (R.CMP_D_STAT_STATE n) = 1 then (s.decompDone n 6).decompAgain n else s
  else if comp then s.clrBits R.CMP_CTRL_C_EN (2 ^ n)
  else s.clrBits R.CMP_CTRL_D_EN (2 ^ n)

/-- The action for a word of an SRAM array. -/
def State.sramAction (s : State) (k : EccKey) (ue : Bool) : State :=
  let item := Config.arrayItem k.array k.inst k.idx
  match k.array with
  | 0x01 => s.pairMemory 0 ue
  | 0x02 => s.pairMemory 1 ue
  | 0x10 =>
    let n := item % 128
    if ue then (s.rdPool.jobs.filter (fun j => j.slot == n)).foldl (fun (t : State) j => t.abandonJob j) s
    else s.setPoolRd { s.rdPool with badSlots := if s.rdPool.badSlots.contains n then s.rdPool.badSlots else s.rdPool.badSlots ++ [n] }
  | 0x11 =>
    if ue then match s.rdPool.retry[item % 32]? with
      | some e =>
        let s1 := s.setPoolRd { s.rdPool with retry := s.rdPool.retry.eraseIdx (item % 32) }
        if e.sum.isEmpty then s1 else s1.fault .pool 0
      | none => s
    else s.setPoolRd { s.rdPool with badRetry := s.rdPool.badRetry + 1 }
  | 0x12 => if 17 < k.inst then s
    else if ue then s.decReset k.inst
    else ((s.decReset k.inst).setFlag (R.LDPC_CTRL_EN k.inst) false).decCheck
  | 0x50 =>
    if ue then s.contain .dep
    else { s with dep := { s.dep with pools := listMod s.dep.pools (k.inst % 4) (fun p => { p with cap := min p.cap 63 }) } }
  | 0x60 => s.slotRetire (item % 8192) ue
  | 0x70 => s.laneMemory (k.inst % 8) (k.inst < 8) ue
  | 0x80 => if ue then (match containUnit (item % 16) (item / 16 % 32) with
      | some u => s.contain u
      | none => s) else s
  | _ => s

/-- Firmware acts on entry `i` of the Correction Log, once for each state HARD and UE (R382). -/
def State.errorAction (s : State) (i : Nat) : State :=
  let st := s.get (R.MEM_CLOG_KEY_HI_STATE i)
  let mark := 32 * st + i
  if !s.flag (R.MEM_CLOG_KEY_HI_VALID i) || (st != 1 && st != 2) || s.ms.acted.contains mark || s.flt.safeStop then s
  else
    let k := s.clogKey i
    let s1 : State := { s with ms := { s.ms with acted := s.ms.acted ++ [mark] } }
    if k.sram then s1.sramAction k (st == 2) else s1.bufAction k (st == 2)

/-- A write of MEM_CLOG_FREE frees entries (R380). -/
def State.clogRelease (s : State) (m : Nat) : State :=
  (setBits m 32).foldl (fun (t : State) i =>
    let t1 := (((t.wr (R.A_MEM_CLOG_KEY_LO i) 0).wr (R.A_MEM_CLOG_KEY_HI i) 0).wr (R.A_MEM_CLOG_CNT i) 0).wr (R.A_MEM_CLOG_LAST i) 0
    { t1 with ms := { t1.ms with
      due := t1.ms.due.filter (· ≠ i), acted := t1.ms.acted.filter (fun x => x % 32 ≠ i) } }) s

end Sys2Proof.Machine
end

