-- ==== Sys2Proof/Machine/Settle.lean ====
section
/-!
DEFINITION. The severity actions (R386 to R392, Table 16-1), and the end of every command: the actions that its faults call
for, what the medium side tells the command side, and the head that wedge timing follows.
-/

namespace Sys2Proof.Machine

open Sys2Proof

/-- The FAULT record of a source (Table 17-4). -/
def State.faultRecord (s : State) (a : SevAct) (b lvl : Nat) : State :=
  s.ldgRaise (0x1000 + a.reg.sumBit)
    (leBytes 4 a.reg.statAddr ++ leBytes 4 a.value ++ leBytes 2 ((a.reg.instOf b).getD 0xFFFF)
      ++ [BitVec.ofNat 8 lvl, BitVec.ofNat 8 (b2n s.flt.attnAt.isSome)] ++ leBytes 4 (s.rd R.A_SYS_MODE).toNat)

/-- The highest level of a list of sources. -/
def maxLevelOf (l : List (Nat × Nat)) : Nat := l.foldl (fun m e => max m e.2) 0

/-- The entry of log page 0xC3 that an action makes (R392): the instance is that of its first source of the highest level. -/
def State.snapOf (s : State) (a : SevAct) : SnapEntry :=
  let m := maxLevelOf a.srcs
  let b := ((a.srcs.find? (fun e => e.2 == m)).getD (0, 0)).1
  ⟨a.stamp, a.reg.statAddr, a.value, m, s.flt.attnAt.isSome, (a.reg.instOf b).getD 0xFFFF, (s.rd R.A_SYS_MODE).toNat, 0⟩

/-- The time in µs that the unit of a source waited before it set its status bit (R394): 100 µs for a hang of a Convoy
engine or a lane. -/
def hangWait (r : FltReg) (b : Nat) : Nat :=
  match r with
  | .cvy => if 8 ≤ b ∧ b < 12 then 100 else 0
  | .cmp => if b < 16 then 100 else 0
  | _ => 0

/-- Level 3 and 4 of one action: the events, then Limp, else one Degrade for each source (R40, R387). -/
def State.actHigh (s : State) (a : SevAct) : State :=
  let hi := a.srcs.filter (fun e => decide (3 ≤ e.2))
  if hi.isEmpty || s.flt.safeStop then s
  else
    let s1 := s.raiseBoth ⟨7, 0x81, 0xC3⟩
    if hi.any (fun e => decide (4 ≤ e.2)) then s1.limpEntry a.reg.noDestage
    else hi.foldl (fun (t : State) _ => t.degrade a.reg) s1

/-- The units that an action resets, with the source's bit. -/
def SevAct.units (a : SevAct) : List (CUnit × Nat) :=
  a.srcs.filterMap (fun e => if 2 ≤ e.2 then (a.reg.unitOf e.1).map (fun u => (u, e.1)) else none)

/-- Level 1 of one action: the interrupt, the count, and the entry of log page 0xC3, which waits for the return to service
where the action resets a unit or records a switchover. -/
def State.actNotify (s : State) (a : SevAct) (fresh : List (CUnit × Nat)) : State :=
  let n := (a.srcs.filter (fun e => decide (1 ≤ e.2))).length
  if n = 0 then s
  else
    let e := s.snapOf a
    let s1 := s.modFlt (fun f => { f with
      irqs := if f.irqs.contains a.reg then f.irqs else f.irqs ++ [a.reg], snapTotal := satN (f.snapTotal + n) (2 ^ 32 - 1) })
    match fresh with
    | (u, b) :: _ => s1.modFlt (fun f => { f with snapWait := f.snapWait ++ [(some u, { e with serviceUs := hangWait a.reg b })] })
    | [] =>
      if decide (a.reg = .flt) && bitOf a.value 0 && decide (s.flt.switching = some a.stamp) then
        s1.modFlt (fun f => { f with snapWait := f.snapWait ++ [(none, { e with
          serviceUs := if bitOf a.value 2 then s.get R.FLT_CFG_WDOG_T else 0 })] })
      else s1.snapAdd e

/-- One severity action is taken (R387). A unit already in its own reset is not reset again; Degrade and Limp wait during a
switchover (Table 16-6). -/
def State.actOn (s : State) (a : SevAct) : State :=
  let s1 := a.srcs.foldl (fun (t : State) e => t.faultRecord a e.1 e.2) s
  let fresh := a.units.filter (fun e => !s.inReset e.1)
  let late := a.units.filter (fun e => s.inReset e.1)
  let s2 := s1.actNotify a fresh
  let s3 := late.foldl (fun (t : State) e => t.modFlt (fun f => { f with
    resetAgain := if f.resetAgain.contains e.1 then f.resetAgain else f.resetAgain ++ [e.1] })) s2
  let s4 := fresh.foldl (fun (t : State) e => t.contain e.1) s3
  if s4.flt.switching.isSome then
    (if a.srcs.any (fun e => decide (3 ≤ e.2)) then s4.modFlt (fun f => { f with held := f.held ++ [a] }) else s4)
  else s4.actHigh a

/-- The place of a register in one cycle: its FLT_SUM0 bit, then the instance under bits 16 to 18 (R414). -/
def FltReg.rank (r : FltReg) : Nat :=
  64 * r.sumBit + (match r with
    | .chRd h => 2 * h
    | .chWr h => 2 * h + 1
    | .ldpc n => n
    | .seq a => a
    | _ => 0)

/-- The action taken next: the lowest FLT_SUM0 bit first, then the lowest instance (R414). -/
def nextAct (l : List SevAct) : Option SevAct :=
  match l with
  | [] => none
  | a :: as => some (as.foldl (fun m x => if x.reg.rank < m.reg.rank then x else m) a)

/-- Takes the actions that wait. -/
def State.actAll (s : State) : Nat → State
  | 0 => s
  | k + 1 =>
    match nextAct s.flt.todo with
    | none => s
    | some a => ((s.modFlt (fun f => { f with todo := f.todo.erase a })).actOn a).actAll k

/-- Reports of the medium side and fault actions wait for nothing. -/
def State.quiet (s : State) : Bool := s.flt.todo.isEmpty && s.ioTodo.isEmpty

/-- What every command ends with. -/
def State.settle (s : State) : State :=
  let s1 := if s.quiet then s else ((s.actAll 512).ioDrain).actAll 512
  s1.servoCatchUp.wedgeWatch.actAll 512

/-- ATTN_N follows its condition after a write that may change it (R391). -/
def State.attnFollow (s : State) : State := if s.attnCond then s.attnAssert else s

/-- ATTN_N is released once its condition has ended and it has been asserted for 10 µs (R391). -/
def State.attnRelease (s : State) : State :=
  match s.flt.attnAt with
  | none => s
  | some t =>
    if s.passed t 10000 ∧ !s.attnCond then (s.modFlt (fun f => { f with attnAt := none })).set R.FLT_ATTN_LEVEL_PIN 0 else s

/-- Firmware service resumes after a switchover: what was held comes up (R398, Table 16-6). -/
def State.switchDone (s : State) : State :=
  let s1 := s.reconcile
  s.flt.held.foldl (fun (t : State) a => t.actHigh a) (s1.modFlt (fun f => { f with held := [] }))

end Sys2Proof.Machine
end

