-- ==== Sys2Proof/Machine/Hooks.lean ====
section
/-!
DEFINITION. Accesses to the Control Register Space (R9 to R17, R21, R22): reads with their live values, writes with the
discards that the owning chapters state, and what a write that takes effect makes its block do.
-/

namespace Sys2Proof.Machine

open Sys2Proof

/-! ### Answers of units that are gated or do not answer (R22) -/

/-- An access to a power-gated unit. -/
def State.crsGated (s : State) (a : Nat) : State :=
  ((s.set R.SYS_CRS_STAT_LAST_ADDR (a / 65536)).setFlag R.SYS_CRS_STAT_GATED true).fault .sys 2

/-- An access that is not answered within 1 µs. -/
def State.crsTimeout (s : State) (a : Nat) : State :=
  ((s.set R.SYS_CRS_STAT_LAST_ADDR (a / 65536)).setFlag R.SYS_CRS_STAT_TIMEOUT true).fault .sys 3

/-! ### Fault registers (R386, R390, R400) -/

/-- The fault source register whose status, or whose mask, lies at `a`. -/
def fltOfStat (a : Nat) : Option FltReg := allFltRegs.find? (fun r => r.statAddr == a)
def fltOfMask (a : Nat) : Option FltReg := allFltRegs.find? (fun r => decide (r.maskAddr = some a))

/-- What the clear of status bits lets happen: inhibit sources reopen (R127), units return (R396), the ceiling goes (R43). -/
def State.afterClear (s : State) (r : FltReg) (m : Nat) : State :=
  let gone := fun (b : Nat) => bitOf m b && !s.faultIs r b
  let s1 := match r with
    | .srv => (List.range 4).foldl (fun (t : State) a => if gone (8 + a) then t.linkReopen a else t) s
    | .dlk => (List.range 4).foldl (fun (t : State) a =>
        let t1 := if gone (4 + a) then t.linkReopen a else t
        if gone a then t1.unsafeReopen a else t1) s
    | .flt => if gone 4 then s.escalateClear else s
    | _ => s
  s1.degradeCheck

/-- A W1C write of a status register: bits whose cause persists stay (R10, R400). -/
def State.statusClear (s : State) (r : FltReg) (m : Nat) : State :=
  ((s.clearFault r (m % 2 ^ r.srcBits) (s.causes r)).afterClear r m)

/-- A write of a mask register: a source that is unmasked while its status is 1 takes its action now (R386). -/
def State.maskWrite (s : State) (r : FltReg) (old new : Nat) : State :=
  let shown := old - Nat.land old new
  let up := Nat.land shown (s.rd r.statAddr).toNat
  let s1 := s.riseSrcs r (setBits up r.srcBits)
  if s1.fltLive r = 0 then s1.modFlt (fun f => { f with irqs := f.irqs.filter (fun q => !decide (q = r)) }) else s1

/-! ### Writes that are discarded for the state of their block -/

/-- A field of the write value replaced by the register's present value. -/
def keepBits (old v lo w : Nat) : Nat := putBits v lo w (bitsOf old lo w)

/-- A write at `a` is discarded in this state (R42, R208, R253, R270, R420 and the register tables). -/
def State.writeBarred (s : State) (p : Path) (a v : Nat) : Bool :=
  let core := decide (p = .core)
  if a = R.A_SYS_MODE_POLICY ∨ (R.A_SYS_THERM ≤ a ∧ a ≤ R.A_SYS_DIRTY_MAX) then !core || s.mode != mBOOT
  else if a = R.A_FLT_WDOG ∨ a = R.A_DEP_REQ ∨ a = R.A_DEP_REQ_ARG ∨ a = R.A_RTE_REQ then !core
  else if 0x04000100 ≤ a ∧ a < 0x04000200 then decide ((a - 0x04000100) % 64 < 0x1C) && s.poolReady ((a - 0x04000100) / 64)
  else if R.A_RTE_TBL_BASE_LO ≤ a ∧ a ≤ R.A_RTE_BAND_COUNT then s.flag R.RTE_CTRL_EN
  else if 0x05100100 ≤ a ∧ a < 0x05100300 then
    let n := (a - 0x05100100) / 32
    s.flag (R.RTE_NS_CFG_VALID n) && decide ((a - 0x05100100) % 32 < 0xC) && !(decide (a = R.A_RTE_NS_CFG n) && !bitOf v 31)
  else if 0x04101000 ≤ a ∧ a < 0x04103000 then
    let st := s.get (R.CVY_C_STAT_STATE ((a - 0x04101000) / 0x800) ((a - 0x04101000) % 0x800 / 64))
    (decide (a % 64 = 8) || decide (a % 64 = 12)) && (st == 2 || st == 3 || st == 4)
  else if 0x03500080 ≤ a ∧ a < 0x035000C0 then
    let st := s.actState ((a - 0x03500080) / 16)
    st == 2 || st == 3 || st == 4
  else if 0x03506000 ≤ a ∧ a < 0x03506400 then
    let st := s.actState ((a - 0x03506000) / 256)
    st == 2 || st == 3 || st == 4
  else if a = R.A_LDG_RAISE then
    let maker := decide (0x1F0 ≤ v % 65536) && decide (v % 65536 ≤ 0x1FF)
    if maker then !(s.mode == mWORKSHOP && s.pathUnlocked p) else !core
  else if a = R.A_SEC_CTRL then false
  else false

/-- The value of a write with the bits that the block does not take left as they are. -/
def State.writeValue (s : State) (a old v : Nat) : Nat :=
  if a = R.A_SYS_MODE_POLICY then v - Nat.land v 0xF405
  else if a = R.A_SYS_GPIO_OE then (if s.flag R.HIF_CFG_X8 then v else keepBits old v 2 1)
  else if a = R.A_DLK_CTRL then (if bitsOf old 0 4 = 0 then v else keepBits old v 8 2)
  else if a = R.A_MEM_EI_CTRL then (if s.mode = mWORKSHOP then v else keepBits old v 31 1)
  else if a = R.A_CLE_INJ_CTRL then (if s.mode = mWORKSHOP ∨ !bitOf v 31 then v else old)
  else if a = R.A_CLE_CTRL then (if bitOf old 0 then keepBits old v 0 1 else v)
  else if a = R.A_DEP_CTRL then keepBits old v 0 1
  else v

/-! ### What a write makes a block do -/

/-- Counters named by the bits of a CLR write are cleared. -/
def State.clearCounts (s : State) (m : Nat) (fs : List Fld) : State :=
  fs.zipIdx.foldl (fun (t : State) e => if bitOf m e.2 then t.set e.1 0 else t) s

/-- SYS and FLT. -/
def State.hookSys (s : State) (a v : Nat) : State :=
  if a = R.A_FLT_WDOG then s.watchdogKick
  else if a = R.A_FLT_CONTAIN then s.containRequest v
  else if a = R.A_FLT_ATTN_LEVEL ∨ a = R.A_FLT_CFG then s.attnFollow
  else s

/-- CH instance `h`, register offset `o`. -/
def State.hookCh (s : State) (h o old v : Nat) : State :=
  match o with
  | 0x0000 =>
    let s1 := if bitOf old 0 = bitOf v 0 then s else s.readEnable h (bitOf v 0)
    if bitOf v 8 then s1.modHead h (fun x => { x with reload := true }) else s1
  | 0x0040 => s.clearCounts v [R.CH_CNT_GOOD_COUNT h, R.CH_CNT_ALT_COUNT h, R.CH_CNT_BLIND_COUNT h, R.CH_CNT_RETRY_COUNT h,
      R.CH_CNT_DEEP_COUNT h, R.CH_CNT_FAIL_COUNT h, R.CH_CNT_UNREC_COUNT h, R.CH_CNT_POOL_COUNT h]
  | 0x1000 => if bitOf old 0 = bitOf v 0 then s else s.writeEnable h (bitOf v 0)
  | 0x1030 => s.clearCounts v [R.CH_WR_CNT_SECT_COUNT h, R.CH_WR_CNT_CUT_COUNT h, R.CH_WR_CNT_REWRITE_COUNT h,
      R.CH_WR_CNT_VFY_COUNT h]
  | _ => s

/-- TTH. -/
def State.hookTth (s : State) (a old v : Nat) : State :=
  if a = R.A_TTH_CTRL then s.tthCtrl old v
  else if a = R.A_TTH_SKEW_NOM then s.skewShow
  else s

/-- LDPC decoder `n`. -/
def State.hookLdpc (s : State) (n o v : Nat) : State :=
  if o = 0 then
    let s1 := (if bitOf v 1 then s.contain (.dec n) else s).decCheck
    if 16 ≤ n then s1.deepCheck else s1
  else s

/-- Sequencer `a`. -/
def State.hookSeq (s : State) (a o v : Nat) : State := if o = 0 then s.sqCtrl a v else s

/-- SRV. -/
def State.hookSrv (s : State) (a old v : Nat) : State :=
  if a = R.A_SRV_CTRL then
    (List.range 4).foldl (fun (t : State) i => if bitOf old i = bitOf v i then t else t.actEnable i (bitOf v i)) s
  else if a = R.A_SRV_GUST_0_CFG then (if bitOf v 0 then s else s.gustOff 0)
  else if a = R.A_SRV_GUST_1_CFG then (if bitOf v 0 then s else s.gustOff 1)
  else if 0x03401000 ≤ a ∧ a < 0x03401400 ∧ a % 256 = 0 then
    let i := (a - 0x03401000) / 256
    ((s.refreshHeads i).soleTarget i).actCmd i (bitsOf v 0 3)
  else if 0x03401000 ≤ a ∧ a < 0x03401400 ∧ a % 256 = 0x14 then
    let i := (a - 0x03401000) / 256
    if (s.act i).fltLow then s.setFlag (R.SRV_VCM_PWM_EN i) false else s
  else if 0x03404000 ≤ a ∧ a < 0x03404600 ∧ a % 64 = 0 then s.setOfs ((a - 0x03404000) / 64) (bitsOf v 22 8) (bitsOf old 22 8)
  else s

/-- CLE. -/
def State.hookCle (s : State) (a old v : Nat) : State :=
  if a = R.A_CLE_COMMIT then s.cleCommit (bitsOf v 0 5) (bitsOf v 8 2)
  else if a = R.A_CLE_INJ_CTRL then (if s.flag R.CLE_INJ_CTRL_EN && !bitOf old 31 then s.injEnable else s)
  else if a = R.A_CLE_CAP_CTRL then (if bitOf v 31 then s.capArm else s)
  else if 0x03500100 ≤ a ∧ a < 0x035004C0 then
    let n := (a - 0x03500100) / 32
    if a % 32 = 0 then
      let s1 := if bitOf v 1 then s.loopCntClr n else s
      if bitOf old 0 && !bitOf v 0 && !s1.hasJob n then s1.loopOutputs n else s1
    else if a % 32 = 4 ∧ bitOf v 4 ∧ bitOf old 4 then s.loopRestart n
    else s
  else s

/-- SPN. -/
def State.hookSpn (s : State) (a old v : Nat) : State :=
  if a = R.A_SPN_CTRL then
    let s1 := if bitOf v 2 then s else s.gateLow
    if bitOf v 0 then s1.spnCmd (bitsOf v 8 3) else if bitOf old 0 then s1.spnDisable else s1
  else if a = R.A_SPN_TARGET then s.spnTarget
  else s

/-- DEP, CVY and MEM. -/
def State.hookBuf (s : State) (a old v : Nat) : State :=
  if a = R.A_DEP_CTRL then (if bitOf old 0 = bitOf v 0 then s else s.depEnable (bitOf v 0))
  else if a = R.A_DEP_REQ then s.depPort v
  else if 0x04101000 ≤ a ∧ a < 0x04103000 then
    let e := (a - 0x04101000) / 0x800
    let c := (a - 0x04101000) % 0x800 / 64
    if a % 64 = 0 then s.cvyCtrl e c v else if a % 64 = 0x18 then s.cvyDoorbell e c else s
  else if a = R.A_MEM_CLOG_FREE then s.clogRelease v
  else s

/-- RTE and CMP. -/
def State.hookRte (s : State) (a v : Nat) : State :=
  if a = R.A_RTE_CTRL then s.rteRun
  else if a = R.A_RTE_REQ then s.rtePort v
  else if 0x05201000 ≤ a ∧ a < 0x05201200 ∧ a % 64 = 0x18 then s.compCmd ((a - 0x05201000) / 64) (bitsOf v 0 2)
  else if 0x05202000 ≤ a ∧ a < 0x05202200 ∧ a % 64 = 0x1C then s.decompCmd ((a - 0x05202000) / 64) (bitsOf v 0 2)
  else s

/-- The payload that a write of LDG_RAISE takes from LDG_RAISE_BUF (R420). -/
def State.raisePayload (s : State) (plen : Nat) : List Byte :=
  ((List.range 56).flatMap (fun k => leBytes 4 (s.get (R.LDG_RAISE_BUF_WORD k)))).take (8 * plen)

/-- LDG, SEC and DLK. -/
def State.hookSec (s : State) (a old v : Nat) : State :=
  if a = R.A_LDG_RAISE then s.ldgRaise (v % 65536) (s.raisePayload (bitsOf v 24 5))
  else if a = R.A_SEC_CTRL then
    let s1 := if bitOf v 0 then s.pathLock 0 else s
    if bitOf v 1 then s1.pathLock 1 else s1
  else if a = R.A_DLK_CTRL then
    (List.range 4).foldl (fun (t : State) i => if bitOf old i = bitOf v i then t else t.dlkEnable i (bitOf v i)) s
  else if 0x06200100 ≤ a ∧ a < 0x06200200 then
    let i := (a - 0x06200100) / 64
    if a % 64 = 4 then (if bitsOf old 0 6 = bitsOf v 0 6 then s else s.rselChange i (bitsOf old 0 6) (bitsOf v 0 6))
    else if a % 64 = 0xC then s.pregCmd i (bitsOf v 0 2)
    else s
  else s

/-- What a write of `v` at `a`, where `old` stood, makes the register's block do. -/
def State.afterWrite (s : State) (a old v : Nat) : State :=
  if a < 0x02000000 then s.hookSys a v
  else if a < 0x02180000 then s.hookCh ((a - 0x02000000) / 0x10000) (a % 0x10000) old v
  else if a < 0x02500000 then s.hookTth a old v
  else if a < 0x02620000 then s.hookLdpc ((a - 0x02500000) / 0x10000) (a % 0x10000) v
  else if a < 0x03000000 then (if a = R.A_LDPC_POOL_BKLG then s.lowIter else s)
  else if a < 0x03400000 then s.hookSeq ((a - 0x03000000) / 0x100000) (a % 0x100000) v
  else if a < 0x03500000 then s.hookSrv a old v
  else if a < 0x03600000 then s.hookCle a old v
  else if a < 0x04000000 then s.hookSpn a old v
  else if a < 0x05000000 then s.hookBuf a old v
  else if a < 0x05100000 then s
  else if a < 0x06000000 then s.hookRte a v
  else s.hookSec a old v

/-- The word of an SRAM array that holds the register at `a`: the tables of a head, patch RAM, and the staged and committed
sets, profiles and capture of CLE (R375). Its word index is its offset in the unit in words, for patch RAM its micro-word. -/
def arrayKeyOf (a : Nat) : Option EccKey :=
  if 0x02000000 ≤ a ∧ a < 0x02180000 ∧ ((0x2000 ≤ a % 0x10000 ∧ a % 0x10000 < 0x2780)
      ∨ (0x8000 ≤ a % 0x10000 ∧ a % 0x10000 < 0x9E00)) then
    some ⟨true, 0x20, (a - 0x02000000) / 0x10000, a % 0x10000 / 8⟩
  else if 0x03000000 ≤ a ∧ a < 0x03400000 ∧ 0x70000 ≤ a % 0x100000 ∧ a % 0x100000 < 0x80000 then
    some ⟨true, 0x30, (a - 0x03000000) / 0x100000, (a % 0x100000 - 0x70000) / 16⟩
  else if (0x03501000 ≤ a ∧ a < 0x03501080) ∨ (0x03502000 ≤ a ∧ a < 0x03505C00) ∨ (0x03506000 ≤ a ∧ a < 0x03506400)
      ∨ (0x03510000 ≤ a ∧ a < 0x03520000) then some ⟨true, 0x40, 0, (a - 0x03500000) / 8⟩
  else none

/-- An armed error goes into an array word that the control cores write (R384). -/
def State.injectArray (s : State) (p : Path) (a : Nat) : State :=
  match (if p = .core ∧ s.flag R.MEM_EI_CTRL_EN ∧ s.flag R.MEM_EI_CTRL_SRAM then arrayKeyOf a else none) with
  | some k =>
    if k.array = s.get R.MEM_EI_TGT_ARRAY ∧ k.inst = s.get R.MEM_EI_TGT_INST then s.injectAt k else s
  | none => s

/-- The register at `a` takes a write of `v` on path `p`. -/
def State.regWrite (s : State) (p : Path) (a v : Nat) (d : RegDesc) : State :=
  match fltOfStat a with
  | some r => s.statusClear r v
  | none =>
    let old := (s.rd a).toNat
    let w := s.writeValue a old v
    let s1 := s.wr a (BitVec.ofNat 32 (d.write (s.pathUnlocked p) old w))
    match fltOfMask a with
    | some r => s1.maskWrite r old (s1.rd a).toNat
    | none =>
      let sev := allFltRegs.any (fun r => (r.sevFld 0).addr == a || (r.sevFld 12).addr == a)
      if sev then s1.attnFollow else (s1.injectArray p a).afterWrite a old v

/-- Queue windows of the sequencers: offsets 0x0100 to 0x010F of each (R155). -/
def taskWindow (a : Nat) : Option (Nat × Nat) :=
  if 0x03000000 ≤ a ∧ a < 0x03400000 ∧ 0x100 ≤ a % 0x100000 ∧ a % 0x100000 < 0x110 then
    some ((a - 0x03000000) / 0x100000, (a % 0x100000 - 0x100) / 4)
  else none
def doneWindow (a : Nat) : Option (Nat × Nat) :=
  if 0x03000000 ≤ a ∧ a < 0x03400000 ∧ 0x120 ≤ a % 0x100000 ∧ a % 0x100000 < 0x130 then
    some ((a - 0x03000000) / 0x100000, (a % 0x100000 - 0x120) / 4)
  else none

/-- A 32-bit write lands in half of an array word, which is read and corrected first; an uncorrectable word discards the
write (R375). -/
def State.arrayMerge (s : State) (a : Nat) : Bool × State :=
  match arrayKeyOf a with
  | some k =>
    match s.mergeWord k ((s.rd (a - a % 8)).toNat + (s.rd (a - a % 8 + 4)).toNat * 2 ^ 32) with
    | (none, s1) => (false, s1)
    | (some _, s1) => (true, s1)
  | none => (true, s)

/-- A write of `size` bytes at `a` on path `p` (R9, R12, R15, R21, R22): the debug port makes no access while it is locked; the
state of the unit answers before the write is judged (R22). -/
def State.crsWrite (s : State) (p : Path) (a size : Nat) (v : Word) : State :=
  if !s.pathReads p then s
  else if s.gated a then s.crsGated a
  else if s.silent a then s.crsTimeout a
  else if size ≠ 4 ∨ a % 4 ≠ 0 ∨ !s.pathWrites p then s
  else match taskWindow a with
    | some (i, k) => s.taskWord i k v.toNat
    | none =>
      if s.writeBarred p a v.toNat then s
      else match regAt a with
        | none => s
        | some d =>
          let (ok, s1) := s.arrayMerge a
          if ok then s1.regWrite p a v.toNat d else s1

/-! ### Reads -/

/-- The level of every GPIO: what the part drives where it drives, else what it last met there (R482). -/
def State.gpioLevel (s : State) : Nat :=
  let oe := (s.rd R.A_SYS_GPIO_OE).toNat
  let out := s.get R.SYS_GPIO_OUT_OUT
  let od := s.get R.SYS_GPIO_OD_OD
  maskOf 16 (fun n => if bitOf oe n && (!bitOf od n || !bitOf out n) then bitOf out n else bitOf (s.get R.SYS_GPIO_IN_LEVEL) n)

/-- The value that the register at `a` returns now, with live values made up at the read (R10, R15). -/
def State.readWord (s : State) (a : Nat) : Nat × State :=
  if a = R.A_TTH_STAMP_LO then (s.now % 2 ^ 32, s)
  else if a = R.A_TTH_STAMP_HI then (s.now / 2 ^ 32 % 2 ^ 32, s)
  else if a = R.A_TTH_ANGLE then s.tthAngleNow
  else if a = R.A_SYS_GPIO_IN then (s.gpioLevel, s)
  else if a = R.A_FLT_SUM0 then (s.sum0, s)
  else if a = R.A_FLT_SUM_CH then (s.sumCh, s)
  else if a = R.A_FLT_SUM_LDPC then (s.sumLdpc, s)
  else if a = R.A_FLT_SUM_SEQ then (s.sumSeq, s)
  else if a = R.A_LDG_OPTIME_LO then (s.optimeAt s.now % 2 ^ 32, s)
  else if a = R.A_LDG_OPTIME_HI then (s.optimeAt s.now / 2 ^ 32 % 2 ^ 16, s)
  else if a = R.A_SEC_LOCKOUT then
    (min 65535 ((s.lockLeft 0 + 999) / 1000) + 65536 * min 65535 ((s.lockLeft 1 + 999) / 1000), s)
  else match doneWindow a with
    | some (i, k) => s.doneWord i k
    | none =>
      if 0x03000000 ≤ a ∧ a < 0x03400000 ∧ 0x40000 ≤ a % 0x100000 ∧ a % 0x100000 < 0x80000 then
        let i := (a - 0x03000000) / 0x100000
        let n := (a % 0x100000 - 0x40000) / 16
        let w := if n < 0x3000 then (Config.romWord n).toNat else cnt (s.sq i).patch (n - 0x3000)
        (bitsOf w (32 * (a % 16 / 4)) 32, s)
      else if 0x03502000 ≤ a ∧ a < 0x03505C00 then
        (cnt s.cle.sets ((a - 0x03502000) / 0x200 * 128 + (a - 0x03502000) % 0x200 / 0x80 * 32 + (a - 0x03502000) % 0x80 / 4), s)
      else if 0x03510000 ≤ a ∧ a < 0x03520000 then (cnt s.cle.cap ((a - 0x03510000) / 4), s)
      else match regAt a with
        | none => (0, s)
        | some d => (d.show (s.rd a).toNat, s)

/-- The holding copy of path `p` for the pair with NAME_LO at `lo` (R17). -/
def State.holdOf (s : State) (p : Path) (lo : Nat) : Option Word :=
  (s.hold.find? (fun e => decide (e.1 = (p, lo)))).map (fun e => e.2)

/-- Drops, or replaces, a holding copy. -/
def State.holdSet (s : State) (p : Path) (lo : Nat) (v : Option Word) : State :=
  let rest := s.hold.filter (fun e => !decide (e.1 = (p, lo)))
  { s with hold := match v with
    | some w => ((p, lo), w) :: rest
    | none => rest }

/-- The value a read of the register at `a` returns on path `p`, with the holding copies of a 64-bit pair (R17). -/
def State.readPair (s : State) (p : Path) (a : Nat) : Nat × State :=
  let half : RegHalf := match regAt a with
    | some d => d.half
    | none => .single
  match half with
  | .lo =>
    let (v, s1) := s.readWord a
    let (h, s2) := s1.readWord (a + 4)
    (v, s2.holdSet p a (some (BitVec.ofNat 32 h)))
  | .hi =>
    match s.holdOf p (a - 4) with
    | some w => (w.toNat, s.holdSet p (a - 4) none)
    | none => s.readWord a
  | .single => s.readWord a

/-- The read of an array word that holds the register at `a` (R373). -/
def State.arrayCheck (s : State) (a : Nat) : Bool × State :=
  match arrayKeyOf a with
  | some k =>
    match s.sramRead k ((s.rd (a - a % 8)).toNat + (s.rd (a - a % 8 + 4)).toNat * 2 ^ 32) false with
    | (none, s1) => (false, s1)
    | (some _, s1) => (true, s1)
  | none => (true, s)

/-- A read of `size` bytes at `a` on path `p`: the bytes of one register, 0 beyond it; an RC register is cleared when a byte of
it is returned (R9, R11, R15, R22, R432). An uncorrectable word of an array returns no data (R373). -/
def State.crsRead (s : State) (p : Path) (a size : Nat) : State :=
  if !s.pathReads p then s
  else
    let w := a - a % 4
    let out := fun (t : State) (x : Nat) => ({ t with rdOut := some (p, x) } : State)
    if s.gated w then out (s.crsGated w) 0
    else if s.silent w then out (s.crsTimeout w) 0
    else
      let (ok, s0) := s.arrayCheck w
      if !ok then { s0 with rdOut := none } else
      let (v, s1) := s0.readPair p w
      let k := min size (4 - a % 4)
      let s2 := match regAt w with
        | some d => if k ≠ 0 ∧ d.hasRc then s1.wr w (BitVec.ofNat 32 (d.clearRc (s1.rd w).toNat)) else s1
        | none => s1
      out s2 (bitsOf v (8 * (a % 4)) (8 * k))

end Sys2Proof.Machine
end

