-- ==== Sys2Proof/Machine/Boot.lean ====
section
/-!
DEFINITION. Power-good, BOOT exit, device resets, firmware activation, the supply monitor and CRS access over the TAP
(R29, R335, R427 to R429, R432, R437, R471).
-/

namespace Sys2Proof.Machine

open Sys2Proof

/-! ### Applying the Manifest (R427 to R429) -/

/-- One register load by firmware in BOOT. CH registers are loaded before their head group is powered; firmware waits for
a CLE commit before the next load. -/
def State.loadReg (s : State) (e : Nat × Nat) : State :=
  if 0x02000000 ≤ e.1 ∧ e.1 < 0x02400000 then
    match regAt e.1 with
    | some d =>
      if e.1 % 4 = 0 then (s.arrayStored 0x20 ((e.1 - 0x02000000) / 0x10000) (e.1 % 0x10000 / 8) 1).regWrite .core e.1 e.2 d
      else s
    | none => s
  else
    let s1 := s.crsWrite .core e.1 4 (BitVec.ofNat 32 e.2)
    if e.1 = R.A_CLE_COMMIT then s1.commitCopy else s1

/-- The defect table of an actuator goes into buffer memory and becomes the active one (R147). -/
def State.loadDefects (s : State) (a : Nat) (entries : List Byte) : State :=
  if s.memFailed then s
  else
    let base := defHome a 0
    let s1 : State := { s with mem := putBytes 0 s.mem base entries }
    (((s1.set (R.SEQ_DEF_NBASE_LO_BASE a) (base / 16)).set (R.SEQ_DEF_NBASE_HI_BASE a) (base / 2 ^ 32)).set
      (R.SEQ_DEF_NCOUNT_COUNT a) (entries.length / 16)).defSwapNow a

/-- The KEYS record (Table 18-5). -/
def keysOf (b : List Byte) : SecKeys :=
  ⟨imgNat b 0 1, imgNat b 1 1, imgNat b 2 2, takeAt b 4 16, ofLeBytes (takeAt b 20 48).reverse, takeAt b 68 96⟩

/-- What an HB-2 image changes beside its registers and its defect table (R428). -/
def State.heritage (s : State) : State :=
  let s1 := ((s.setFlag R.SYS_MODE_POLICY_HB2 true).setFlag R.SEC_STAT_HB2 true).setFlag R.TTH_CTRL_WEDGE true
  ([1, 2, 3] : List Nat).foldl (fun (t : State) a => (t.clrBits R.SRV_CTRL_ACT_EN (2 ^ a)).actEnable a false) s1

/-- One record is applied; `hb`: the Manifest carries an HB-2 image. -/
def State.applyRec (s : State) (hb : Bool) (r : Nat × List Byte) : State :=
  if hb && hb2Replaced r.1 then s
  else if isLoad r.1 then (loadsOf r.2).foldl State.loadReg s
  else if r.1 = 1 then s.modSec (fun x => { x with ident := r.2 })
  else if r.1 = 9 then s.loadDefects (imgNat r.2 0 1 % 4) (r.2.drop 8)
  else if r.1 = 12 then s.modSec (fun x => { x with keys := some (keysOf r.2) })
  else if r.1 = 13 then
    match Config.hb2Image r.2 with
    | some (loads, defects) => ((loads.foldl State.loadReg s).loadDefects 0 defects).heritage
    | none => s
  else s

/-- Firmware sets up the Depot pools and retires again what its record in the system area names (R266, R429). -/
def State.bootPools (s : State) : State :=
  let s1 := s.crsWrite .core R.A_DEP_CTRL 4 1
  let s2 := (List.range 4).foldl (fun (t : State) n =>
    if t.poolCount n = 0 then t else t.depRequest ⟨9, 0xC0, 0, 0, false, false, n, false⟩) s1
  s.sec.retired.foldl (fun (t : State) r =>
    t.depRequest ⟨8, 0xC0, 0, mkHandle (r / 2 ^ 20) 0 (r % 2 ^ 20), false, false, 0, false⟩) s2

/-- The packed namespaces' runs go into the RTE registers, and RTE runs; a device with no band yet has every band FREE. -/
def State.bootRoutes (s : State) : State :=
  let s1 := s.hif.nss.foldl (fun (t : State) n =>
    if n.packed then
      let i := n.id - 1
      (((t.set (R.RTE_NS_BASE_BASE i) ((n.units[0]?).getD 0)).set (R.RTE_NS_COUNT_COUNT i)
        (n.nsze / if n.fmt = 2 then 2048 else 256)).setFlag (R.RTE_NS_CFG_EMU i) (n.fmt == 2)).setFlag (R.RTE_NS_CFG_VALID i) true
    else t) s
  let s2 : State := if s1.rte.bands.isEmpty
    then { s1 with rte := { s1.rte with bands := List.replicate (s1.get R.RTE_BAND_COUNT_COUNT) ⟨0, 0⟩ } } else s1
  s2.crsWrite .core R.A_RTE_CTRL 4 1

/-! ### BOOT exit (R429 steps 6 and 7) -/

/-- Valid records of `[p, e)`: code, RSEQ, PCYC and the whole record. -/
def State.recordsIn (s : State) : Nat → Nat → Nat → List (Nat × Nat × Nat × List Byte)
  | 0, _, _ => []
  | fuel + 1, p, e =>
    if e ≤ p then []
    else
      let len := (s.norByte (p + 1)).toNat
      let bs := s.norBytes p (8 * len)
      if (s.norByte p = 0x30 ∨ s.norByte p = 0xF0) ∧ 4 ≤ len ∧ len ≤ 32 then
        let ok := s.norByte p == 0x30 && ofLeBytes ((bs.drop 30).take 2) == crc16 ((bs.drop 1).take 29 ++ bs.drop 32)
        let rest := s.recordsIn fuel (p + 8 * len) e
        if ok then (imgNat bs 2 2, imgNat bs 4 4, imgNat bs 8 4, bs) :: rest else rest
      else s.recordsIn fuel ((p / 256 + 1) * 256) e

/-- The power-loss record of the previous power cycle shows cached data lost (R330). -/
def State.lossShown (s : State) : Bool :=
  let all := (s.openSectors.map (fun e =>
    s.recordsIn 4096 (norRolling + e.1 * 65536 + 0x100) (norRolling + (e.1 + 1) * 65536))).flatten
  all.any (fun r => r.1 == 2 && r.2.2.1 + 1 == s.get R.LDG_PCYC_PCYC && imgNat r.2.2.2 36 4 != 0)

/-- BOOT is left for mode `m`. -/
def State.bootLeave (s : State) (m reason : Nat) : State :=
  let s1 := (((s.set R.SYS_MODE_TARGET m).set R.SYS_MODE_REASON reason).setFlag R.SYS_MODE_STAMP_HI_BUSY false).modSys
    (fun y => { y with booted := true })
  let s2 := (s1.modeEnter m).modSec (fun x => { x with step := 6 })
  (List.range 2).foldl (fun (t : State) n => t.ctlReady n) s2

/-- A PENDING slot that reached BOOT exit becomes ACTIVE, and FUSE_SVN rises (R429 step 7). -/
def State.bootSlot (s : State) (fuseOk : Bool) : State :=
  let k := s.get R.SEC_STAT_ACTIVE_SLOT
  if k = 0 then s
  else
    let s1 := if s.get R.SEC_STAT_PENDING_SLOT = k then s.bootWrite k 0 else s
    let svn := imgSvn (s.slotImage k)
    if svn ≤ s.get R.SEC_STAT_FUSE_SVN then s1
    else if fuseOk then s1.set R.SEC_STAT_FUSE_SVN svn else s1.fault .sec 5

/-- The modes a start policy may name (Table 2-1); another START_MODE acts as PARKED. -/
def startMode (m : Nat) : Nat := if (tierOf m).isSome ∧ m ≠ mWORKSHOP ∧ m ≠ mLIMP ∧ m ≠ mBOOT then m else mPARKED

/-- The loops of CLE that firmware enables: all but the Bridle loops of an actuator with BRIDLE_FIT = 0 (R206). -/
def State.loopWanted (s : State) (n : Nat) : Bool := !decide (n < 24) || s.bridleFit (n / 6)

/-- The sets being committed, firmware writes CLE_CTRL.EN and each loop's EN (R206). -/
def State.bootLoops (s : State) : State :=
  let on := fun (t : State) (a : Nat) => t.crsWrite .core a 4 (t.rd a ||| 1)
  ((List.range 30).filter s.loopWanted).foldl (fun (t : State) n => on t (R.A_CLE_LOOP_CTRL n)) (on s R.A_CLE_CTRL)

/-- A valid Manifest is applied and BOOT ends in PARKED. -/
def State.bootApply (s : State) (fuseOk : Bool) : State :=
  let m := s.manifestImage
  let s1 := ((recordsOf m).getD []).foldl (fun (t : State) r => t.applyRec (imgHb2 m) r) s
  let s2 := ((s1.set R.SEC_MANIFEST_ID_ID (imgId m)).setFlag R.SEC_STAT_MANIFEST_VALID true).bootLoops.bootPools.bootRoutes
  let s3 := (s2.setFlag R.SYS_MODE_AUTOSPIN (s2.flag R.SYS_MODE_POLICY_AUTOSPIN_DEF)).modSys (fun y =>
    { y with opMode := startMode (s2.get R.SYS_MODE_POLICY_START_MODE) })
  let s4 := ((s3.bindMaker m fuseOk).bootSlot fuseOk).bootLeave mPARKED 0x0D
  let high := allFltRegs.filter (fun r => (s4.liveSrcs r).any (fun e => decide (4 ≤ e.2)))
  if high.isEmpty then s4 else s4.limpEntry (high.any FltReg.noDestage)

/-- BOOT exit: firmware applies the Manifest once MEM has trained or failed; without a valid one BOOT ends in LIMP. -/
def State.bootExit (s : State) (fuseOk : Bool) : State :=
  let mem := s.get R.MEM_STAT_STATE
  if s.sec.step ≠ 5 ∨ s.mode ≠ mBOOT ∨ mem < 2 then s
  else
    let s1 := if s.lossShown then s.lifeCount 4 else s
    if s1.sec.manOk && !(s1.memFailed && decide (2097152 < imgLen s1.manifestImage)) then s1.bootApply fuseOk
    else ((s1.fault .sec 0).bootSlot fuseOk).bootLeave mLIMP 0x0A

/-! ### Resets (R29, R241, R471) -/

/-- What is left after a device reset: the serial NOR, the fuses, the medium and what the system tracks and the system area
hold. -/
def State.reborn (s : State) : State :=
  let r := State.reset
  let k : State := { r with
    free := s.free
    pending := s.pending
    nor := s.nor
    grown := s.grown
    rte := { r.rte with
      bands := s.rte.bands
      journal := s.rte.journal.takeWhile (fun j => j.written)
      journalSeq := s.rte.journalSeq
      ckpt := s.rte.ckpt
      ckptSeq := s.rte.ckptSeq
      wseq := s.rte.wseq }
    hif := { r.hif with
      nss := s.hif.nss.map (fun n => { n with
        pend := none, lvl := []
        resv := if n.resv.ptpl then n.resv else ⟨[], none, 0, 0, false⟩ })
      medium := s.hif.medium
      phys := s.hif.phys
      unread := s.hif.unread.filter (fun u => u.2.2)
      counts := s.hif.counts }
    sec := { r.sec with
      makerHash := s.sec.makerHash
      revoked := s.sec.revoked
      retired := s.sec.retired
      paths := s.sec.paths.map (fun p => ⟨none, none, p.lockEnd, p.lockLen⟩) } }
  let k1 := ((k.setFlag R.SEC_STAT_MAKER_BOUND (s.flag R.SEC_STAT_MAKER_BOUND)).set R.SEC_STAT_FUSE_SVN
    (s.get R.SEC_STAT_FUSE_SVN)).wr R.A_SEC_FAILS (s.rd R.A_SEC_FAILS)
  (k1.setFlag R.SEC_STAT_HOST_LOCKOUT (s.flag R.SEC_STAT_HOST_LOCKOUT)).setFlag R.SEC_STAT_DBG_LOCKOUT
    (s.flag R.SEC_STAT_DBG_LOCKOUT)

/-- Power-on reset (R471). -/
def State.powerOnReset (s : State) : State := s.reborn

/-- The core pairs' self-tests at BOOT: pair 0 starts as active unless it fails (R399). -/
def State.pairsBoot (s : State) (pair0 pair1 : Bool) : State :=
  if pair0 && pair1 then s
  else if pair0 then (s.pairDegrade 1)
  else ((s.set R.FLT_CORE_STAT_PAIR1 0).set R.FLT_CORE_STAT_ACTIVE 1).pairDegrade 0

/-- The time base starts, and the straps that the board set at power-good hold: GPIO levels and the port configuration. -/
def State.startAt (s : State) (gpio : Nat) (x8 : Bool) : State :=
  let s1 := (s.modSys (fun y => { y with powerGood := true, domAt := 0 })).modFlt (fun f => { f with wdogAt := 0 })
  (((({ s1 with now := 0 } : State).setFlag R.HIF_CFG_X8 x8).setFlag R.HIF_CFG_CTRL1 (!x8)).set R.SYS_GPIO_IN_LEVEL gpio)

/-- Power-good (R289, R468, R471). -/
def State.powerUp (s : State) (gpio : Nat) (pair0 pair1 : Bool) : State :=
  if s.sys.powerGood then s else (s.startAt (bitsOf gpio 0 16) (bitOf gpio 0)).pairsBoot pair0 pair1

/-- The reset that firmware starts after a supply loss (R241): SUPOK high for 100 ms, every actuator in RAMP or OFF, and the
record written. The rails stayed up: power-good still holds, the GPIO outputs keep their levels (R482), and the count of
reloaded time-base copies stands (Table 1-8). -/
def State.supplyReset (s : State) : State :=
  let parked := (List.range 4).all (fun a => decide (s.actState a ≤ 1))
  let sup := match s.spn.supHigh with
    | some t => s.passed t 100000000
    | none => false
  let written := s.ldg.queue.all (fun r => r.code != 2) && (match s.ldg.job with
    | some j => match j.what with
      | .record r => r.code != 2
      | .header _ => true
    | none => true)
  if !s.spn.lost || !parked || !sup || !written then s
  else
    let k := (s.reborn.startAt (s.get R.SYS_GPIO_IN_LEVEL) (s.flag R.HIF_CFG_X8)).set R.TTH_TB_STAT_ERR_COUNT
      (s.get R.TTH_TB_STAT_ERR_COUNT)
    ([R.A_SYS_GPIO_OE, R.A_SYS_GPIO_OUT, R.A_SYS_GPIO_PULL, R.A_SYS_GPIO_OD] : List Nat).foldl (fun (t : State) a =>
      t.wr a (s.rd a)) k

/-- The under-voltage decision on a rail: the POWER source and a supply loss (R471); with a loss declared already there is
one loss, and its D is the earlier (R483). -/
def State.underVoltage (s : State) : State := if !s.sys.powerGood ∨ s.spn.lost then s else s.declareLoss

/-! ### Firmware activation (R335) -/

/-- The device restarts in BOOT after an activation in LIMP (R38): the time base and the registers stand (R29). -/
def State.bootAgain (s : State) : State :=
  let s1 := ((s.set R.SYS_MODE_TARGET mPARKED).set R.SYS_MODE_REASON 0).modeEnter mBOOT
  let s2 := (s1.setFlag R.SYS_MODE_STAMP_HI_BUSY true).modSys (fun y => { y with booted := false, limp := none, step := none })
  let s3 := s2.modHif (fun h => { h with ctls := h.ctls.map (fun c =>
    if c.rdy then { c with rdy := false, enWait := true } else c) })
  (s3.modSec (fun x => { x with step := 0, tries := [], manOk := false })).hifShow

/-- Steps 2 to 4 of R335 have ended: in-flight commands, the cache and the Route Table. -/
def State.activationReady (s : State) (no : Nat) : Bool :=
  s.hif.slots.all (fun c => c.no == no || c.res.isSome || (c.sq == 0 && c.e.opc == 0x0C))
    && s.hif.cache.isEmpty && s.rte.allDurable

/-- The new image is activated and fetching resumes; the commit, where it is still in the table, completes. -/
def State.activate (s : State) : State :=
  match s.hif.activating with
  | none => s
  | some (_, no, k) =>
    if !s.activationReady no then s
    else
      let m := s.slotImage k
      let old := s.get R.SEC_FW_VER_VERSION
      let s1 := (List.range 4).foldl (fun (t : State) a => t.sqReset a) s
      let s2 := (((s1.set R.SEC_STAT_ACTIVE_SLOT k).set R.SEC_FW_VER_VERSION (imgId m)).patchImage m).bootWrite k 0
      let s3 := s2.ldgRaise 0x0102 (leBytes 4 (imgId m) ++ leBytes 4 old ++ [BitVec.ofNat 8 k])
      let s4 := (s3.modHif (fun h => { h with activating := none })).finishSt no (cst scOk)
      if s.mode = mLIMP then s4.bootAgain else s4

/-- A PENDING image that a controller reset activates: the activation begins as its commit's would (R335, R431). -/
def State.activationBegin (s : State) : State :=
  let p := s.get R.SEC_STAT_PENDING_SLOT
  if s.hif.activating.isNone && (p == 1 || p == 2) && s.ctlsHere.any (fun n => (s.ctl n).resetAt.isSome) then
    (s.modHif (fun h => { h with activating := some (s.now, 8192, p) })).raiseBoth ⟨2, 1, 3⟩
  else s

/-- FIRMWARE_ACTIVATION: the activation begins where a reset serves as one, and ends once its conditions hold. -/
def State.activation (s : State) : State := s.activationBegin.activate

/-! ### Mode triggers without a row of their own (R40) -/

def State.modeTrigger (s : State) (t : ModeTrigger) : State :=
  match t with
  | .policy =>
    if s.mode = mPARKED ∧ !s.busy ∧ s.get R.SYS_MODE_REASON = 0x0D then s.retarget 0x06 5 s.now else s
  | .pathLocked => if s.flag R.SEC_STAT_HOST_UNLOCKED then s else s.workshopLeave

/-! ### CRS access over the TAP (R432, R437) -/

/-- CRS_ADDR: a read is made at once, a write waits for its data. -/
def State.tapAddress (s : State) (a : Nat) (write : Bool) : State :=
  let s1 := s.modSec (fun x => { x with tapAddr := a, tapWr := write })
  let done := fun (t : State) (r : Nat) => (t.modSec (fun x => { x with tapRes := r })).tapSelect 0x42 0
  if write then s1.tapSelect 0x42 0
  else if !s1.pathReads .debug then done s1 (2 ^ 33)
  else
    let s2 := s1.crsRead .debug a 4
    done s2 ((match s2.rdOut with
      | some (_, v) => v
      | none => 0) + 2 ^ 32)

/-- CRS_DATA: the result of the latest access comes out, and the data that goes in makes the write that waits. -/
def State.tapData (s : State) (v : Word) : State :=
  let s1 := s.tapSelect 0x43 s.sec.tapRes
  if !s.sec.tapWr then s1
  else
    let done := fun (t : State) (r : Nat) => t.modSec (fun x => { x with tapWr := false, tapRes := r })
    done (s1.crsWrite .debug s1.sec.tapAddr 4 v) (if s1.pathWrites .debug then v.toNat + 2 ^ 32 else 2 ^ 33)

end Sys2Proof.Machine
end

