-- ==== Sys2Proof/Machine/Pins.lean ====
section
/-!
DEFINITION. The balls of the package and the supply monitor's limits (chapter 20): which ball carries what (R460 to R465), the
state of each signal before power-good (R467), and the ranges of the rails (R469).
-/

namespace Sys2Proof.Machine

open Sys2Proof

/-- The supply rails, in the order of Table 20-8. -/
inductive Rail
  | core | sram | ch | a18 | q | v2 | io33
  deriving DecidableEq, Repr

/-- The signals of Table 20-2. `neg` marks the N or C ball of a pair; `pin` counts the names of a group in the order of the
table. -/
inductive Signal
  | pcieTx (lane : Nat) (neg : Bool)
  | pcieRx (lane : Nat) (neg : Bool)
  | reader (head which : Nat) (neg : Bool)
  | tether (input : Nat) (neg : Bool)
  | writer (head : Nat) (neg : Bool)
  | darenlen (a pin : Nat)
  | bridle (a pin : Nat)
  | vcm (a pin : Nat)
  | spindle (pin : Nat)
  | ballast (pin : Nat)
  | spdref
  | dq (k n : Nat)
  | dmi (k n : Nat)
  | rdqs (k n : Nat) (neg : Bool)
  | wck (k n : Nat) (neg : Bool)
  | ca (k n : Nat)
  | cs (k n : Nat)
  | ck (k : Nat) (neg : Bool)
  | lpReset (k : Nat)
  | zq (k : Nat)
  | norSck | norCs | norIo (n : Nat) | norRst
  | smbus (pin : Nat)
  | tck | tms | tdi | tdo | trst
  | uartTx | uartRx
  | gust (n pin : Nat)
  | env (pin : Nat)
  | attn
  | refclk (neg : Bool)
  | xtal (out : Bool)
  | gpio (n : Nat)
  deriving DecidableEq, Repr

/-- The one function of a ball (R460). -/
inductive Ball
  | vss
  | supply (r : Rail)
  | signal (x : Signal)
  deriving DecidableEq, Repr

/-- A head band, `r` rows from the package edge, in column `c` (R462, Table 20-3); `low` for the rows from A. -/
def headBall (low : Bool) (r c : Nat) : Ball :=
  let o := 17 * ((c - 1) / 17)
  let m := c - o - 1
  let h := 6 * ((c - 1) / 17 + (if low then 0 else 2)) + m / 3
  if m % 3 = 2 then .vss
  else match r with
    | 1 => .signal (.writer h (m % 3 == 1))
    | 3 => .signal (.reader h 0 (m % 3 == 1))
    | 4 => .signal (.reader h 1 (m % 3 == 1))
    | 5 => .signal (.reader h 2 (m % 3 == 1))
    | _ => .vss

/-- The outer actuator row (R463, Table 20-4). -/
def actuatorBall (low : Bool) (c : Nat) : Ball :=
  let a := (c - 1) / 17 + (if low then 0 else 2)
  match c - 17 * ((c - 1) / 17) with
  | 1 => .signal (.darenlen a 0) | 2 => .signal (.darenlen a 1) | 4 => .signal (.darenlen a 2) | 5 => .signal (.darenlen a 3)
  | 7 => .signal (.darenlen a 4)
  | 9 => .signal (.bridle a 0) | 10 => .signal (.bridle a 1) | 12 => .signal (.bridle a 2) | 13 => .signal (.bridle a 3)
  | 15 => if a % 2 = 0 then .signal (.tether (a / 2) false) else .vss
  | 16 => if a % 2 = 0 then .signal (.tether (a / 2) true) else .vss
  | _ => .vss

/-- Row `b`, column `m` of LP5X channel `k` (R464, Table 20-5). -/
def lp5xBall (k b m : Nat) : Ball :=
  let row : List Ball := match b with
    | 1 => [.signal (.dq k 0), .signal (.dq k 1), .signal (.dq k 2), .signal (.dq k 3), .vss, .supply .q]
    | 2 => [.signal (.dq k 4), .signal (.dq k 5), .signal (.dq k 6), .signal (.dq k 7), .signal (.dmi k 0), .vss]
    | 3 => [.signal (.rdqs k 0 false), .signal (.rdqs k 0 true), .signal (.wck k 0 false), .signal (.wck k 0 true), .supply .q,
        .supply .v2]
    | 4 => [.signal (.ca k 0), .signal (.ca k 1), .signal (.ca k 2), .vss, .signal (.ck k false), .signal (.ck k true)]
    | 5 => [.signal (.ca k 3), .signal (.ca k 4), .signal (.ca k 5), .signal (.ca k 6), .vss, .supply .v2]
    | 6 => [.signal (.cs k 0), .signal (.cs k 1), .signal (.lpReset k), .signal (.zq k), .supply .q, .vss]
    | 7 => [.signal (.rdqs k 1 false), .signal (.rdqs k 1 true), .signal (.wck k 1 false), .signal (.wck k 1 true), .supply .q,
        .supply .v2]
    | 8 => [.signal (.dq k 8), .signal (.dq k 9), .signal (.dq k 10), .signal (.dq k 11), .signal (.dmi k 1), .vss]
    | _ => [.signal (.dq k 12), .signal (.dq k 13), .signal (.dq k 14), .signal (.dq k 15), .vss, .supply .q]
  (row[m - 1]?).getD .vss

/-- The PCIe rows J, K and L (R465). -/
def pcieBall (row c : Nat) : Ball :=
  let base := if c < 18 then 7 else 18
  let lane := (c - base) / 3 + (if c < 18 then 0 else 4)
  let n := (c - base) % 3
  if row = 10 ∨ n = 2 then .vss
  else if row = 9 then .signal (.pcieTx lane (n == 1)) else .signal (.pcieRx lane (n == 1))

/-- The core grid, rows T to AD (R465). -/
def coreBall (c : Nat) : Ball :=
  if [7, 11, 15, 19, 23, 27].contains c then .vss
  else if [8, 18, 28].contains c then .supply .sram else .supply .core

/-- The centre signal rows, columns 7 to 28 in order (Table 20-6). -/
def centreRow (row : Nat) : List Ball :=
  let vcm := fun (a : Nat) => (List.range 6).map (fun i => Ball.signal (.vcm a i))
  match row with
  | 12 => [.vss, .signal (.refclk false), .signal (.refclk true), .vss, .supply .a18, .supply .a18, .signal (.xtal false),
      .signal (.xtal true), .vss] ++ List.replicate 4 (.supply .a18) ++ [.vss, .supply .a18, .supply .a18, .vss,
      .signal .attn, .signal (.smbus 0), .signal (.smbus 1), .supply .io33, .vss]
  | 13 => [.signal .norSck, .signal .norCs, .signal (.norIo 0), .signal (.norIo 1), .signal (.norIo 2), .signal (.norIo 3),
      .signal .norRst, .supply .io33, .vss, .signal .tck, .signal .tms, .signal .tdi, .signal .tdo, .signal .trst,
      .supply .io33, .signal .uartTx, .signal .uartRx, .signal (.env 0), .signal (.env 1), .supply .io33, .vss, .supply .io33]
  | 14 => (List.range 16).map (fun i => Ball.signal (.gpio i)) ++ [.vss, .supply .io33, .vss, .supply .io33, .vss, .supply .io33]
  | 24 => vcm 0 ++ vcm 1 ++ [.supply .io33, .vss] ++ vcm 2 ++ [.supply .io33, .vss]
  | 25 => vcm 3 ++ [.vss] ++ (List.range 14).map (fun i => Ball.signal (.spindle i)) ++ [.supply .io33]
  | _ => [.signal (.ballast 0), .signal (.ballast 1), .vss, .signal (.gust 0 0), .signal (.gust 0 1), .signal (.gust 0 2),
      .signal (.gust 1 0), .signal (.gust 1 1), .signal (.gust 1 2), .vss, .supply .a18, .signal .spdref, .supply .a18, .vss] ++
      List.replicate 6 (.supply .a18) ++ [.vss, .supply .io33]

/-- The ball in row `row` (the row index of Table 20-1) and column `c`, both from 1 to 34 (R460 to R465). -/
def ballAt (row c : Nat) : Ball :=
  if row ≤ 6 then headBall true row c
  else if row = 7 then actuatorBall true c
  else if row = 8 ∨ row = 27 then .supply .ch
  else if row = 28 then actuatorBall false c
  else if 29 ≤ row then headBall false (35 - row) c
  else if c ≤ 6 then (if row ≤ 17 then lp5xBall 0 (row - 8) c else lp5xBall 1 (row - 17) c)
  else if 29 ≤ c then (if row ≤ 17 then lp5xBall 2 (row - 8) (35 - c) else lp5xBall 3 (row - 17) (35 - c))
  else if row ≤ 11 then pcieBall row c
  else if 15 ≤ row ∧ row ≤ 23 then coreBall c
  else ((centreRow row)[c - 7]?).getD .vss

/-- What a ball does before power-good and through power-on reset (Table 20-7). -/
inductive PinState
  | electricalIdle | terminated | highZ | idleCode | released | low | high | pullDown | pullUp | input
  deriving DecidableEq, Repr

/-- Table 20-7. -/
def Signal.beforePowerGood : Signal → PinState
  | .pcieTx _ _ => .electricalIdle | .pcieRx _ _ => .terminated
  | .reader _ _ _ => .highZ | .tether _ _ => .highZ
  | .writer _ _ => .idleCode
  | .darenlen _ p => if p = 4 then .released else .highZ
  | .bridle _ _ => .highZ
  | .vcm _ p => if p < 4 then .low else if p = 4 then .pullDown else .released
  | .spindle p => if p < 5 ∨ p = 12 then .low else if p = 11 then .released else .pullDown
  | .ballast p => if p = 0 then .low else .pullDown
  | .spdref => .highZ
  | .dq _ _ | .dmi _ _ | .rdqs _ _ _ | .wck _ _ _ | .ca _ _ | .cs _ _ | .zq _ => .highZ
  | .ck _ neg => if neg then .high else .low
  | .lpReset _ => .low
  | .norSck => .low | .norCs => .high | .norIo _ => .pullUp | .norRst => .low
  | .smbus _ => .released | .env _ => .released | .attn => .released
  | .tck => .pullDown | .trst => .pullDown | .tms => .pullUp | .tdi => .pullUp | .tdo => .highZ
  | .uartTx => .high | .uartRx => .pullUp
  | .gust _ _ => .pullDown
  | .refclk _ => .input | .xtal _ => .input
  | .gpio _ => .pullDown

/-- A rail's operating range in mV (Table 20-8). -/
def Rail.range : Rail → Nat × Nat
  | .core => (728, 773) | .sram => (776, 824) | .ch => (882, 918) | .a18 => (1746, 1854) | .q => (475, 525)
  | .v2 => (1018, 1082) | .io33 => (3135, 3465)

/-- The rails in the order of Table 20-8. -/
def Rail.all : List Rail := [.core, .sram, .ch, .a18, .q, .v2, .io33]

/-- Power-good: over 2 ms every rail's lowest and highest reading lie in its operating range (R471). -/
def railsGood (seen : List (Nat × Nat)) : Bool :=
  decide (seen.length = 7) && (Rail.all.zip seen).all (fun x => decide (x.1.range.1 ≤ x.2.1) && decide (x.2.2 ≤ x.1.range.2))

/-- Two consecutive samples read below the rail's minimum (R471). -/
def railLow (r : Rail) (mv0 mv1 : Nat) : Bool := decide (mv0 < r.range.1) && decide (mv1 < r.range.1)

/-- 100 samples, 1 µs, each read more than 4 % below the rail's minimum (R471). -/
def railLost (r : Rail) (mv : List Nat) : Bool :=
  decide (100 ≤ mv.length) && mv.all (fun v => decide (100 * v < 96 * r.range.1))

end Sys2Proof.Machine
end

