-- ==== Sys2Proof/Machine/Commands.lean ====
section
/-!
DEFINITION. What the commands share beside the blocks' own operations: register-write commands, requests through a port, the
Ledger's timers, and how a command ends.
-/

namespace Sys2Proof.Machine

open Sys2Proof

/-- How every command given in state `s0` ends, its effect having made `s`: the fault actions and reports it left are taken,
the machine goes on, and the queue is as it was. -/
def ends (s0 s : State) : Host.Outcome State Fault Refusal := .next { s.settle with pending := s0.pending }

/-- A write value with `w` bits from bit `lo` set to `x`: the bits that give a command its name. -/
def withBits (v : Word) (lo w x : Nat) : Word := BitVec.ofNat 32 (putBits v.toNat lo w x)

/-- A whole-word write of the register at `a`. -/
def State.regCmd (s : State) (p : Path) (a : Nat) (v : Word) : State := s.crsWrite p a 4 v

/-- An access that its unit does not answer within 1 µs (R22): a read returns 0, a write is discarded. -/
def State.silentAccess (s : State) (p : Path) (a : Nat) (write : Bool) : State :=
  if !s.pathReads p || s.gated a || !s.silent a then s
  else
    let s1 := s.crsTimeout a
    if write then s1 else { s1 with rdOut := some (p, 0) }

/-! ### The supply monitor (R471) -/

/-- Rail `i` of Table 20-8. -/
def railAt (i : Nat) : Rail := (Rail.all[i]?).getD .core

/-- The monitor's lowest and highest readings of the rails over 2 ms: power-good when all were in range. -/
def State.railsUp (s : State) (seen : List (Nat × Nat)) (gpio : Nat) (pair0 pair1 : Bool) : State :=
  if railsGood seen then s.powerUp gpio pair0 pair1 else s

/-- Two consecutive readings of a rail in mV: an under-voltage decision when both are low; a dip that one sample alone sees has
no effect (R471, R483). -/
def State.railDip (s : State) (i mv0 mv1 : Nat) : State := if railLow (railAt i) mv0 mv1 then s.underVoltage else s

/-- The readings of a rail over 1 µs or more. -/
def State.railGone (s : State) (i : Nat) (mv : List Nat) : State := if railLost (railAt i) mv then s.powerOnReset else s

/-- A write of a fault mask register, and of a fault status register; at another address the row's event has not taken
place. -/
def State.maskCmd (s : State) (p : Path) (a : Nat) (v : Word) : State := if (fltOfMask a).isSome then s.regCmd p a v else s
def State.statCmd (s : State) (p : Path) (a : Nat) (v : Word) : State := if (fltOfStat a).isSome then s.regCmd p a v else s

/-- A Depot request: through DEP_REQ it is discarded while BUSY (R270). -/
def State.depCmd (s : State) (port : Bool) (op tag tag2 arg : Nat) (climb inv : Bool) (pool : Nat) : State :=
  if port && s.flag R.DEP_RESP_STAT_BUSY then s
  else s.depRequest ⟨op, tag % 256, tag2 % 256, arg % 2 ^ 32, climb, inv, pool % 4, port⟩

/-- An access to a buffer by handle (R264): the bytes a read returns; a whole-word write by the control cores takes an error
that MEM_EI_CTRL has armed (R384). -/
def State.depAccess (s : State) (tag h ofs len : Nat) (data : Option (List Byte)) : State :=
  match data with
  | none =>
    let (c, bs, s1) := s.depReadC tag h ofs len
    { s1 with dep := { s1.dep with access := some (c == 0, bs) } }
  | some d =>
    let (c, s1) := s.depWriteC tag h ofs (takeAt d 0 len)
    let s2 : State := { s1 with dep := { s1.dep with access := some (c == 0, []) } }
    let a := s.bufAddr h + ofs
    if c = 0 ∧ tag = 0xC0 ∧ 8 ≤ (a + len) / 8 * 8 - (a + 7) / 8 * 8 ∧ !s.flag R.MEM_EI_CTRL_SRAM
    then s2.injectAt (bufKey ((a + 7) / 8 * 8)) else s2

/-- An RTE request: through RTE_REQ it is discarded while BUSY (R371). -/
def State.rteCmd (s : State) (port : Bool) (op tag ns a0 a1 a2 since : Nat) : State :=
  if port && s.flag R.RTE_RESP_STAT_BUSY then s
  else
    let s1 := s.rteRequest ⟨op, tag % 256, ns, a0, a1, a2, since, port⟩
    if op = 3 ∧ s.flag R.RTE_STAT_RUN then s1.destClose a0 a2 else s1

/-- A micro-word whose next-address operation, ALU operation or formatter command is that of its row (R153, R155). -/
def State.wordNop (s : State) (a : Nat) (w : BitVec 128) (k : Nat) : State := s.sqIssue a (mwSetNop w.toNat k)
def State.wordAlu (s : State) (a : Nat) (w : BitVec 128) (k : Nat) : State := s.sqIssue a (mwSetAlu w.toNat k)
def State.wordFcmd (s : State) (a : Nat) (w : BitVec 128) (k : Nat) : State := s.sqIssue a (mwSetFcmd w.toNat k)

/-- MEM reads MR4 of each device in READY (R247): derated refresh sets TEMP_HIGH. -/
def State.mr4Read (s : State) (derated : Bool) : State :=
  if s.get R.MEM_STAT_STATE ≠ 2 then s
  else
    let s1 : State := { s with ms := { s.ms with derated := derated } }
    if derated then s1.fault .mem 2 else s1

/-- HOURS: a record every 600 s of operating time (R409). -/
def State.ldgHours (s : State) : State :=
  if s.passed s.ldg.lastHours 600000000000 then
    ({ s with ldg := { s.ldg with lastHours := s.ldg.lastHours + 600000000000 } } : State).ldgRaise 0x0007 []
  else s

/-- Pairs of code and count, at most 56 to a record. -/
def summaryChunks : Nat → List (Nat × Nat) → List (List Byte)
  | 0, _ => []
  | _, [] => []
  | k + 1, l => ((l.take 56).map (fun e => leBytes 2 e.1 ++ leBytes 2 e.2)).flatten :: summaryChunks k (l.drop 56)

/-- SUPP_SUMMARY: the suppressed counts every 3,600 s of operating time (R413). -/
def State.ldgSummary (s : State) : State :=
  if s.passed s.ldg.lastSummary 3600000000000 then
    let s1 : State := { s with ldg := { s.ldg with lastSummary := s.ldg.lastSummary + 3600000000000, supp := [] } }
    (summaryChunks 1200 s.ldg.supp).foldl (fun (t : State) pl => t.ldgRaise 0x0004 pl) s1
  else s

/-- One token goes back into every bucket each REFILL seconds of operating time (R413). -/
def State.ldgRefill (s : State) : State :=
  let p := s.get R.LDG_RATE_REFILL * 1000000000
  if s.passed s.ldg.lastRefill p then
    { s with ldg := { s.ldg with
      lastRefill := s.ldg.lastRefill + p
      spent := (s.ldg.spent.map (fun e => (e.1, e.2 - 1))).filter (fun e => e.2 != 0) } }
  else s

/-- A self-test starts or is aborted, or the running one ends with a result (R305). -/
def State.selfTestCmd (s : State) (no : Nat) (ended : Option Nat) : State :=
  match ended with
  | none => s.selfTest no
  | some r => s.selfTestEnd r

/-- Readings of the temperatures, with the SMART events of a change (R44, Table 12-17). -/
def State.junctionCmd (s : State) (tj : Nat) : State := State.smartEvents s (s.junctionRead tj)
def State.envCmd (s : State) (l : List (Option Int)) : State := State.smartEvents s (s.envPoll l)

end Sys2Proof.Machine
end

