-- ==== Sys2Proof/Machine/MeanData.lean ====
section
/-!
DEFINITION. The meanings of the commands of buffer memory, Depot, Convoy, Route Table, compression lanes, memory protection (chapters 10, 11, 14, 15).
A command whose condition the state does not meet changes nothing.
-/

namespace Sys2Proof.Machine

open Sys2Proof

/-- MEM_TRAINING_DONE (R248). -/
def execMemTrainingDone (agree : Bool) (ok0 : Nat) (ok1 : Nat) (ok2 : Nat) (size : Nat) (ranks2 : Bool) (s : State)
    : Host.Outcome State Fault Refusal :=
  ends s (s.memTrained agree ok0 ok1 ok2 size ranks2)

/-- MR4_REFRESH_READ (R247). -/
def execMr4RefreshRead (derated : Bool) (s : State) : Host.Outcome State Fault Refusal := ends s (s.mr4Read derated)

/-- MEM_SREF_ENTRY (R251). -/
def execMemSrefEntry (s : State) : Host.Outcome State Fault Refusal := ends s s.memSref

/-- DEPOT_ENABLE (R253). -/
def execDepotEnable (path : Path) (value : Word) (s : State) : Host.Outcome State Fault Refusal :=
  ends s (s.regCmd path R.A_DEP_CTRL (withBits value 0 1 1))

/-- ALLOC (R260). -/
def execOpAlloc (port : Bool) (tag : Nat) (tag2 : Nat) (size : Nat) (climb : Bool) (s : State) : Host.Outcome State
    Fault Refusal :=
  ends s (s.depCmd port 1 tag tag2 size climb false 0)

/-- SHARE (R258). -/
def execOpShare (port : Bool) (tag : Nat) (handle : Nat) (tag2 : Nat) (s : State) : Host.Outcome State Fault Refusal :=
  ends s (s.depCmd port 2 tag tag2 handle false false 0)

/-- RELEASE (R258). -/
def execOpRelease (port : Bool) (tag : Nat) (handle : Nat) (s : State) : Host.Outcome State Fault Refusal :=
  ends s (s.depCmd port 3 tag 0 handle false false 0)

/-- FREE (R258). -/
def execOpFree (port : Bool) (tag : Nat) (handle : Nat) (s : State) : Host.Outcome State Fault Refusal :=
  ends s (s.depCmd port 4 tag 0 handle false false 0)

/-- PASS (R258). -/
def execOpPass (port : Bool) (tag : Nat) (handle : Nat) (tag2 : Nat) (s : State) : Host.Outcome State Fault Refusal :=
  ends s (s.depCmd port 5 tag tag2 handle false false 0)

/-- MARK (R264). -/
def execOpMark (port : Bool) (tag : Nat) (handle : Nat) (inv : Bool) (s : State) : Host.Outcome State Fault Refusal :=
  ends s (s.depCmd port 6 tag 0 handle false inv 0)

/-- QUERY (R258). -/
def execOpQuery (port : Bool) (tag : Nat) (handle : Nat) (s : State) : Host.Outcome State Fault Refusal :=
  ends s (s.depCmd port 7 tag 0 handle false false 0)

/-- RETIRE (R266). -/
def execOpRetire (port : Bool) (tag : Nat) (handle : Nat) (s : State) : Host.Outcome State Fault Refusal :=
  ends s (s.depCmd port 8 tag 0 handle false false 0)

/-- INIT (R253). -/
def execOpInit (port : Bool) (tag : Nat) (pool : Nat) (s : State) : Host.Outcome State Fault Refusal :=
  ends s (s.depCmd port 9 tag 0 0 false false pool)

/-- DEPOT_CACHE_REFILL (R261). -/
def execDepotCacheRefill (pool : Fin 4) (s : State) : Host.Outcome State Fault Refusal := ends s (s.cacheKeep pool.val)

/-- DEPOT_BUFFER_ACCESS (R264). -/
def execDepotBufferAccess (tag : Nat) (handle : Nat) (ofs : Nat) (len : Nat) (data : Option (List Byte)) (s :
    State) : Host.Outcome State Fault Refusal :=
  ends s (s.depAccess tag handle ofs len data)

/-- DEPOT_REBUILD_DONE (R267). -/
def execDepotRebuildDone (s : State) : Host.Outcome State Fault Refusal := ends s s.depBack

/-- CONVOY_START (R283). -/
def execConvoyStart (path : Path) (e : Eng) (c : Chan) (value : Word) (s : State) : Host.Outcome State Fault Refusal :=
  ends s (s.regCmd path (R.A_CVY_C_CTRL e.val c.val) (withBits value 1 1 1))

/-- CONVOY_STOP (R285). -/
def execConvoyStop (path : Path) (e : Eng) (c : Chan) (value : Word) (s : State) : Host.Outcome State Fault Refusal :=
  ends s (s.regCmd path (R.A_CVY_C_CTRL e.val c.val) (withBits value 2 1 1))

/-- CONVOY_CHANNEL_ENABLE (R283). -/
def execConvoyChannelEnable (path : Path) (e : Eng) (c : Chan) (value : Word) (s : State) : Host.Outcome State
    Fault Refusal :=
  ends s (s.regCmd path (R.A_CVY_C_CTRL e.val c.val) value)

/-- CONVOY_DOORBELL (R282). -/
def execConvoyDoorbell (path : Path) (e : Eng) (c : Chan) (value : Word) (s : State) : Host.Outcome State Fault
    Refusal :=
  ends s (s.regCmd path (R.A_CVY_C_DOORBELL e.val c.val) value)

/-- CONVOY_GRANT (R271). -/
def execConvoyGrant (e : Eng) (s : State) : Host.Outcome State Fault Refusal := ends s (s.cvyGrant e.val)

/-- DESCRIPTOR_FETCHED (R276). -/
def execDescriptorFetched (e : Eng) (s : State) : Host.Outcome State Fault Refusal := ends s (s.cvyFetched e.val)

/-- TRANSFER_ARRIVED (R277). -/
def execTransferArrived (e : Eng) (host : List Byte) (s : State) : Host.Outcome State Fault Refusal :=
  ends s (s.cvyArrived e.val host)

/-- CONVOY_BUS_ERROR (R278). -/
def execConvoyBusError (e : Eng) (c : Option Chan) (stage : Nat) (cause : Nat) (done : Nat) (s : State) :
    Host.Outcome State Fault Refusal :=
  ends s (s.cvyBusError e.val (c.map (fun x => x.val)) stage cause done)

/-- CONVOY_RETRY (R278). -/
def execConvoyRetry (e : Eng) (c : Option Chan) (s : State) : Host.Outcome State Fault Refusal :=
  ends s (s.cvyAgain e.val (c.map (fun x => x.val)))

/-- STATUS_WRITEBACK_DONE (R276). -/
def execStatusWritebackDone (e : Eng) (s : State) : Host.Outcome State Fault Refusal := ends s (s.cvyWritten e.val)

/-- OWNERSHIP_CLEAR_DONE (R276). -/
def execOwnershipClearDone (e : Eng) (s : State) : Host.Outcome State Fault Refusal := ends s (s.cvyOwned e.val)

/-- LINK_REREAD_DONE (R281). -/
def execLinkRereadDone (e : Eng) (c : Chan) (s : State) : Host.Outcome State Fault Refusal :=
  ends s (s.cvyLinked e.val c.val)

/-- CONVOY_ENGINE_HANG (R287). -/
def execConvoyEngineHang (e : Eng) (s : State) : Host.Outcome State Fault Refusal := ends s (s.cvyHang e.val)

/-- SCRUB_REWRITE (R377). -/
def execScrubRewrite (entry : Fin 32) (s : State) : Host.Outcome State Fault Refusal :=
  ends s (s.scrubRewrite entry.val)

/-- PATROL_SCRUB_STEP (R381). -/
def execPatrolScrubStep (word : Fin 8) (upset : Nat) (s : State) : Host.Outcome State Fault Refusal :=
  ends s (s.patrol word.val upset)

/-- SRAM_WALKER_READ (R381). -/
def execSramWalkerRead (array : Nat) (inst : Nat) (word : Nat) (upset : Nat) (s : State) : Host.Outcome State Fault
    Refusal :=
  ends s (s.walker array inst word upset)

/-- HARD_ERROR_ACTION (R382). -/
def execHardErrorAction (entry : Fin 32) (s : State) : Host.Outcome State Fault Refusal :=
  ends s (s.errorAction entry.val)

/-- CLOG_FREE (R380). -/
def execClogFree (path : Path) (value : Word) (s : State) : Host.Outcome State Fault Refusal :=
  ends s (s.regCmd path R.A_MEM_CLOG_FREE value)

/-- ERROR_INJECTION_ARM (R384). -/
def execErrorInjectionArm (path : Path) (value : Word) (s : State) : Host.Outcome State Fault Refusal :=
  ends s (s.regCmd path R.A_MEM_EI_CTRL (withBits value 31 1 1))

/-- LOOKUP_LBA (R349). -/
def execLookupLba (port : Bool) (tag : Nat) (ns : Fin 16) (lba : Nat) (s : State) : Host.Outcome State Fault Refusal :=
  ends s (s.rteCmd port 1 tag ns.val lba 0 0 0)

/-- LOOKUP_IDX (R349). -/
def execLookupIdx (port : Bool) (tag : Nat) (index : Nat) (s : State) : Host.Outcome State Fault Refusal :=
  ends s (s.rteCmd port 2 tag 0 index 0 0 0)

/-- UPDATE (R350). -/
def execOpUpdate (port : Bool) (tag : Nat) (index : Nat) (old : Nat) (new : Nat) (since : Nat) (s : State) :
    Host.Outcome State Fault Refusal :=
  ends s (s.rteCmd port 3 tag 0 index old new since)

/-- COMPRESSOR_GO (R357). -/
def execCompressorGo (path : Path) (lane : Lane) (value : Word) (s : State) : Host.Outcome State Fault Refusal :=
  ends s (s.regCmd path (R.A_CMP_C_CMD lane.val) (withBits value 0 2 1))

/-- COMPRESSOR_RESUME (R357). -/
def execCompressorResume (path : Path) (lane : Lane) (value : Word) (s : State) : Host.Outcome State Fault Refusal :=
  ends s (s.regCmd path (R.A_CMP_C_CMD lane.val) (withBits value 0 2 2))

/-- COMPRESSOR_ABORT (R357). -/
def execCompressorAbort (path : Path) (lane : Lane) (value : Word) (s : State) : Host.Outcome State Fault Refusal :=
  ends s (s.regCmd path (R.A_CMP_C_CMD lane.val) (withBits value 0 2 3))

/-- OUT_FULL (R357). -/
def execOutFull (lane : Lane) (s : State) : Host.Outcome State Fault Refusal := ends s (s.compOutFull lane.val)

/-- COMPRESSION_END (R357). -/
def execCompressionEnd (lane : Lane) (s : State) : Host.Outcome State Fault Refusal := ends s (s.compEnd lane.val)

/-- DECOMPRESSOR_GO (R358). -/
def execDecompressorGo (path : Path) (lane : Lane) (value : Word) (s : State) : Host.Outcome State Fault Refusal :=
  ends s (s.regCmd path (R.A_CMP_D_CMD lane.val) (withBits value 0 2 1))

/-- DECOMPRESSOR_ABORT (R357). -/
def execDecompressorAbort (path : Path) (lane : Lane) (value : Word) (s : State) : Host.Outcome State Fault Refusal :=
  ends s (s.regCmd path (R.A_CMP_D_CMD lane.val) (withBits value 0 2 2))

/-- DECOMPRESSION_END (R355). -/
def execDecompressionEnd (lane : Lane) (s : State) : Host.Outcome State Fault Refusal := ends s (s.decompEnd lane.val)

/-- CMP_LANE_HANG (R370). -/
def execCmpLaneHang (comp : Bool) (lane : Lane) (s : State) : Host.Outcome State Fault Refusal :=
  ends s (s.laneHang comp lane.val)

/-- RECLAIM (R365). -/
def execReclaim (s : State) : Host.Outcome State Fault Refusal := ends s s.reclaim

/-- JOURNAL_CHECKPOINT (R366). -/
def execJournalCheckpoint (s : State) : Host.Outcome State Fault Refusal := ends s s.checkpoint

/-- ROUTE_TABLE_LOAD (R369). -/
def execRouteTableLoad (s : State) : Host.Outcome State Fault Refusal := ends s s.routeLoad

end Sys2Proof.Machine
end

