-- ==== Sys2Proof/Machine/MeanDevice.lean ====
section
/-!
DEFINITION. The meanings of the commands of registers, power, modes, faults, the Ledger, security and the TAP (chapters 0 to 2, 16 to 18, 20).
A command whose condition the state does not meet changes nothing.
-/

namespace Sys2Proof.Machine

open Sys2Proof

/-- CRS_WRITE (R10). -/
def execCrsWrite (path : Path) (addr : Nat) (size : Nat) (value : Word) (s : State) : Host.Outcome State Fault
    Refusal :=
  ends s (s.crsWrite path addr size value)

/-- CRS_ACCESS_TIMEOUT (R22). -/
def execCrsAccessTimeout (path : Path) (addr : Nat) (write : Bool) (s : State) : Host.Outcome State Fault Refusal :=
  ends s (s.silentAccess path addr write)

/-- RC_REGISTER_READ (R11). -/
def execRcRegisterRead (path : Path) (addr : Nat) (size : Nat) (s : State) : Host.Outcome State Fault Refusal :=
  ends s (s.crsRead path addr size)

/-- STAMP_LO_READ (R17). -/
def execStampLoRead (path : Path) (addr : Nat) (s : State) : Host.Outcome State Fault Refusal :=
  ends s (s.crsRead path addr 4)

/-- STAMP_HI_READ (R17). -/
def execStampHiRead (path : Path) (addr : Nat) (s : State) : Host.Outcome State Fault Refusal :=
  ends s (s.crsRead path addr 4)

/-- GATED_UNIT_READ (R22). -/
def execGatedUnitRead (path : Path) (addr : Nat) (s : State) : Host.Outcome State Fault Refusal :=
  ends s (s.crsRead path addr 4)

/-- TB_ALIGN_CHECK (R30). -/
def execTbAlignCheck (drift : List Int) (s : State) : Host.Outcome State Fault Refusal := ends s (s.tbAlign drift)

/-- POWER_GOOD (R471). -/
def execPowerGood (gpio : Word) (pair0 : Bool) (pair1 : Bool) (s : State) (rails : List (Nat × Nat) := []) :
    Host.Outcome State Fault Refusal :=
  ends s (s.railsUp rails gpio.toNat pair0 pair1)

/-- POWER_DOMAIN_UP (R49). -/
def execPowerDomainUp (s : State) : Host.Outcome State Fault Refusal := ends s s.domainUp

/-- UNDER_VOLTAGE (R471). -/
def execUnderVoltage (rail : Fin 7) (s : State) (mv0 : Nat := 0) (mv1 : Nat := 0) : Host.Outcome State Fault Refusal :=
  ends s (s.railDip rail.val mv0 mv1)

/-- POWER_ON_RESET (R471). -/
def execPowerOnReset (s : State) (rail : Fin 7 := 0) (mv : List Nat := []) : Host.Outcome State Fault Refusal :=
  ends s (s.railGone rail.val mv)

/-- GPIO_OUT_WRITE (R482). -/
def execGpioOutWrite (path : Path) (value : Word) (s : State) : Host.Outcome State Fault Refusal :=
  ends s (s.regCmd path R.A_SYS_GPIO_OUT value)

/-- MODE_TRANSITION_TRIGGER (R40). -/
def execModeTransitionTrigger (trig : ModeTrigger) (s : State) : Host.Outcome State Fault Refusal :=
  ends s (s.modeTrigger trig)

/-- MODE_STEP_COMPLETE (R38). -/
def execModeStepComplete (s : State) : Host.Outcome State Fault Refusal := ends s s.modeStep

/-- JUNCTION_TEMP_READ (R44). -/
def execJunctionTempRead (tj : Nat) (s : State) : Host.Outcome State Fault Refusal := ends s (s.junctionCmd tj)

/-- ENV_SENSOR_POLL (R44). -/
def execEnvSensorPoll (readings : List (Option Int)) (s : State) : Host.Outcome State Fault Refusal :=
  ends s (s.envCmd readings)

/-- TEMPERATURE_CAP_RELEASE (R44). -/
def execTemperatureCapRelease (s : State) : Host.Outcome State Fault Refusal := ends s s.tempRelease

/-- ONDEMAND_TIMEOUT (R46). -/
def execOndemandTimeout (s : State) : Host.Outcome State Fault Refusal := ends s s.ondemandTimeout

/-- AUTONOMOUS_PS_TRANSITION (R45). -/
def execAutonomousPsTransition (ctrl : Ctrl) (s : State) : Host.Outcome State Fault Refusal :=
  ends s (s.autoPs ctrl.val)

/-- SPINUP_TIMEOUT (R53). -/
def execSpinupTimeout (s : State) : Host.Outcome State Fault Refusal := ends s s.spinupTimeout

/-- ACTUATOR_LOAD_START (R54). -/
def execActuatorLoadStart (s : State) : Host.Outcome State Fault Refusal := ends s s.nextActuator

/-- LIMP_RETRACT_TIMEOUT (R401). -/
def execLimpRetractTimeout (a : Act) (s : State) : Host.Outcome State Fault Refusal := ends s (s.limpRetract a.val)

/-- FAULT_UNMASK (R386). -/
def execFaultUnmask (path : Path) (addr : Nat) (value : Word) (s : State) : Host.Outcome State Fault Refusal :=
  ends s (s.maskCmd path addr value)

/-- FAULT_STATUS_CLEAR (R400). -/
def execFaultStatusClear (path : Path) (addr : Nat) (value : Word) (s : State) : Host.Outcome State Fault Refusal :=
  ends s (s.statCmd path addr value)

/-- ATTN_RELEASE (R391). -/
def execAttnRelease (s : State) : Host.Outcome State Fault Refusal := ends s s.attnRelease

/-- CONTAIN_REQUEST (R393). -/
def execContainRequest (path : Path) (value : Word) (s : State) : Host.Outcome State Fault Refusal :=
  ends s (s.regCmd path R.A_FLT_CONTAIN value)

/-- CONTAINMENT_RESET_END (R395). -/
def execContainmentResetEnd (unit : CUnit) (s : State) : Host.Outcome State Fault Refusal := ends s (s.containEnd unit)

/-- MISMATCH (R397). -/
def execMismatch (pair : Fin 2) (s : State) : Host.Outcome State Fault Refusal := ends s (s.mismatch pair.val)

/-- WDOG (R397). -/
def execOpWdog (s : State) : Host.Outcome State Fault Refusal := ends s s.watchdog

/-- WATCHDOG_KICK (R397). -/
def execWatchdogKick (path : Path) (value : Word) (s : State) : Host.Outcome State Fault Refusal :=
  ends s (s.regCmd path R.A_FLT_WDOG value)

/-- SWITCHOVER_RECONCILED (R398). -/
def execSwitchoverReconciled (s : State) : Host.Outcome State Fault Refusal := ends s s.switchDone

/-- PAIR_SELF_TEST_DONE (R399). -/
def execPairSelfTestDone (pair : Fin 2) (pass : Bool) (s : State) : Host.Outcome State Fault Refusal :=
  ends s (s.pairTested pair.val pass)

/-- LDG_RAISE (R420). -/
def execLdgRaise (path : Path) (value : Word) (s : State) : Host.Outcome State Fault Refusal :=
  ends s (s.regCmd path R.A_LDG_RAISE value)

/-- LEDGER_PROGRAM_DONE (R408). -/
def execLedgerProgramDone (s : State) : Host.Outcome State Fault Refusal := ends s s.ldgProgramDone

/-- LEDGER_PROGRAM_FAIL (R419). -/
def execLedgerProgramFail (s : State) : Host.Outcome State Fault Refusal := ends s s.ldgProgramFail

/-- LEDGER_ERASE_DONE (R411). -/
def execLedgerEraseDone (ok : Bool) (s : State) : Host.Outcome State Fault Refusal := ends s (s.ldgEraseDone ok)

/-- LEDGER_SCAN_DONE (R412). -/
def execLedgerScanDone (s : State) : Host.Outcome State Fault Refusal := ends s s.ldgScanDone

/-- HOURS (R409). -/
def execOpHours (s : State) : Host.Outcome State Fault Refusal := ends s s.ldgHours

/-- SUPP_SUMMARY (R413). -/
def execSuppSummary (s : State) : Host.Outcome State Fault Refusal := ends s s.ldgSummary

/-- TOKEN_REFILL (R413). -/
def execTokenRefill (s : State) : Host.Outcome State Fault Refusal := ends s s.ldgRefill

/-- BOOT_RECORD_READ (R429). -/
def execBootRecordRead (fuseOk : Bool) (s : State) : Host.Outcome State Fault Refusal := ends s (s.bootRead fuseOk)

/-- MANIFEST_STREAMED (R429). -/
def execManifestStreamed (s : State) : Host.Outcome State Fault Refusal := ends s s.manifestRead

/-- FIRMWARE_STREAMED (R429). -/
def execFirmwareStreamed (s : State) : Host.Outcome State Fault Refusal := ends s s.firmwareRead

/-- PATCH_LOAD (R426). -/
def execPatchLoad (s : State) : Host.Outcome State Fault Refusal := ends s s.patchLoad

/-- MANIFEST_AUTHENTICATION (R424). -/
def execManifestAuthentication (s : State) : Host.Outcome State Fault Refusal := ends s s.manifestJudge

/-- BOOT_EXIT (R429). -/
def execBootExit (fuseOk : Bool) (s : State) : Host.Outcome State Fault Refusal := ends s (s.bootExit fuseOk)

/-- EXTEST (R437). -/
def execExtest (s : State) : Host.Outcome State Fault Refusal := ends s s.tapExtest

/-- SAMPLE_PRELOAD (R437). -/
def execSamplePreload (s : State) : Host.Outcome State Fault Refusal := ends s (s.tapSelect 0x01 s.sec.tapOut)

/-- IDCODE (R437). -/
def execIdcode (s : State) : Host.Outcome State Fault Refusal := ends s (s.tapSelect 0x02 0x14A248B3)

/-- UNLOCK_CH (R433). -/
def execUnlockCh (method : Fin 4) (s : State) : Host.Outcome State Fault Refusal := ends s (s.tapChallenge method.val)

/-- UNLOCK_RSP (R434). -/
def execUnlockRsp (numd : Nat) (data : List Byte) (s : State) : Host.Outcome State Fault Refusal :=
  ends s (s.tapRespond numd data)

/-- CRS_ADDR (R432). -/
def execCrsAddr (addr : Word) (write : Bool) (s : State) : Host.Outcome State Fault Refusal :=
  ends s (s.tapAddress addr.toNat write)

/-- CRS_DATA (R432). -/
def execCrsData (data : Word) (s : State) : Host.Outcome State Fault Refusal := ends s (s.tapData data)

/-- SEC_STATUS (R437). -/
def execSecStatus (s : State) : Host.Outcome State Fault Refusal := ends s (s.tapSelect 0x44 (s.rd R.A_SEC_STAT).toNat)

/-- BYPASS (R437). -/
def execBypass (s : State) : Host.Outcome State Fault Refusal := ends s (s.tapSelect 0xFF 0)

/-- UNLOCK_ATTEMPT_EXPIRY (R433). -/
def execUnlockAttemptExpiry (port : Fin 2) (s : State) : Host.Outcome State Fault Refusal :=
  ends s (s.attemptExpiry port.val)

/-- LOCKOUT_END (R435). -/
def execLockoutEnd (port : Fin 2) (s : State) : Host.Outcome State Fault Refusal := ends s (s.lockoutEnd port.val)

/-- UNLOCK_TIMEOUT (R436). -/
def execUnlockTimeout (port : Fin 2) (s : State) : Host.Outcome State Fault Refusal := ends s (s.unlockTimeout port.val)

/-- HOST_LOCK (R436). -/
def execHostLock (path : Path) (value : Word) (s : State) : Host.Outcome State Fault Refusal :=
  ends s (s.regCmd path R.A_SEC_CTRL (withBits value 0 1 1))

/-- DBG_LOCK (R436). -/
def execDbgLock (path : Path) (value : Word) (s : State) : Host.Outcome State Fault Refusal :=
  ends s (s.regCmd path R.A_SEC_CTRL (withBits value 1 1 1))

end Sys2Proof.Machine
end

