-- ==== Sys2Proof/Machine/MeanHost.lean ====
section
/-!
DEFINITION. The meanings of the commands of PCIe, NVMe commands and SMBus (chapters 12 and 13).
A command whose condition the state does not meet changes nothing.
-/

namespace Sys2Proof.Machine

open Sys2Proof

/-- COMMAND_FETCH (R32). -/
def execCommandFetch (offer0 : Option Sqe) (offer1 : Option Sqe) (s : State) : Host.Outcome State Fault Refusal :=
  ends s (s.commandFetch offer0 offer1)

/-- CC_ENABLE (R52). -/
def execCcEnable (ctrl : Ctrl) (cc : Word) (aqa : Word) (s : State) : Host.Outcome State Fault Refusal :=
  ends s (s.ctlEnable ctrl.val cc.toNat aqa.toNat)

/-- CONTROLLER_RESET (R331). -/
def execControllerReset (ctrl : Ctrl) (cc : Word) (s : State) : Host.Outcome State Fault Refusal :=
  ends s (s.ctlDisable ctrl.val cc.toNat)

/-- CONTROLLER_RESET_DONE (R332). -/
def execControllerResetDone (ctrl : Ctrl) (s : State) : Host.Outcome State Fault Refusal :=
  ends s (s.ctlResetDone ctrl.val)

/-- PCIE_PORT_RESET (R291). -/
def execPciePortReset (port : Ctrl) (kind : PortReset) (s : State) : Host.Outcome State Fault Refusal :=
  ends s (s.portReset port.val kind)

/-- PERST_LOW (R468). -/
def execPerstLow (port : Ctrl) (s : State) : Host.Outcome State Fault Refusal := ends s (s.perstLow port.val)

/-- LINK_TRAINING_START (R290). -/
def execLinkTrainingStart (port : Ctrl) (s : State) : Host.Outcome State Fault Refusal :=
  ends s (s.linkTraining port.val)

/-- PCIE_LINK_UP (R290). -/
def execPcieLinkUp (port : Ctrl) (speed : Fin 6) (width : Nat) (recoveries : Nat) (s : State) : Host.Outcome State
    Fault Refusal :=
  ends s (s.linkUp port.val speed.val width recoveries)

/-- AER_UNCORRECTABLE (R386). -/
def execAerUncorrectable (port : Ctrl) (s : State) : Host.Outcome State Fault Refusal :=
  ends s (s.aerUncorrectable port.val)

/-- CONTROLLER_SHUTDOWN (R297). -/
def execControllerShutdown (ctrl : Ctrl) (cc : Word) (s : State) : Host.Outcome State Fault Refusal :=
  ends s (s.shutdown ctrl.val cc.toNat)

/-- SHUTDOWN_COMPLETE (R297). -/
def execShutdownComplete (ctrl : Ctrl) (s : State) : Host.Outcome State Fault Refusal :=
  ends s (s.shutdownDone ctrl.val)

/-- ABRUPT_SHUTDOWN_TIMEOUT (R297). -/
def execAbruptShutdownTimeout (ctrl : Ctrl) (s : State) : Host.Outcome State Fault Refusal :=
  ends s (s.abruptTimeout ctrl.val)

/-- NVM_SUBSYSTEM_RESET (R298). -/
def execNvmSubsystemReset (_ctrl : Ctrl) (value : Word) (s : State) : Host.Outcome State Fault Refusal :=
  ends s (s.subsystemReset value.toNat)

/-- SQ_TAIL_DOORBELL (R302). -/
def execSqTailDoorbell (ctrl : Ctrl) (y : Nat) (value : Nat) (s : State) : Host.Outcome State Fault Refusal :=
  ends s (s.sqDoorbell ctrl.val y value)

/-- CQ_HEAD_DOORBELL (R302). -/
def execCqHeadDoorbell (ctrl : Ctrl) (y : Nat) (value : Nat) (s : State) : Host.Outcome State Fault Refusal :=
  ends s (s.cqDoorbell ctrl.val y value)

/-- COMPLETION_POST (R303). -/
def execCompletionPost (slot : Slot) (s : State) : Host.Outcome State Fault Refusal := ends s (s.cmdPost slot)

/-- SET_FEATURES_DEVICE_MODE (R41). -/
def execSetFeaturesDeviceMode (slot : Slot) (s : State) : Host.Outcome State Fault Refusal := ends s (s.setMode slot)

/-- GET_FEATURES_DEVICE_MODE (R41). -/
def execGetFeaturesDeviceMode (slot : Slot) (s : State) : Host.Outcome State Fault Refusal := ends s (s.getMode slot)

/-- CREATE_IO_CQ (R299). -/
def execCreateIoCq (slot : Slot) (s : State) : Host.Outcome State Fault Refusal := ends s (s.createCq slot)

/-- CREATE_IO_SQ (R299). -/
def execCreateIoSq (slot : Slot) (s : State) : Host.Outcome State Fault Refusal := ends s (s.createSq slot)

/-- DELETE_IO_CQ (R299). -/
def execDeleteIoCq (slot : Slot) (s : State) : Host.Outcome State Fault Refusal := ends s (s.deleteCq slot)

/-- DELETE_IO_SQ (R334). -/
def execDeleteIoSq (slot : Slot) (s : State) : Host.Outcome State Fault Refusal := ends s (s.deleteSq slot)

/-- GET_LOG_PAGE (R310). -/
def execGetLogPage (slot : Slot) (xfer : Xfer) (s : State) : Host.Outcome State Fault Refusal :=
  ends s (s.getLogPage slot xfer)

/-- IDENTIFY (R305). -/
def execIdentify (slot : Slot) (xfer : Xfer) (s : State) : Host.Outcome State Fault Refusal :=
  ends s (s.identify slot xfer)

/-- ABORT (R334). -/
def execOpAbort (slot : Slot) (s : State) : Host.Outcome State Fault Refusal := ends s (s.abortCmd slot)

/-- SET_FEATURES (R306). -/
def execSetFeatures (slot : Slot) (xfer : Xfer) (s : State) : Host.Outcome State Fault Refusal :=
  ends s (s.setFeatures slot xfer)

/-- GET_FEATURES (R306). -/
def execGetFeatures (slot : Slot) (xfer : Xfer) (s : State) : Host.Outcome State Fault Refusal :=
  ends s (s.getFeatures slot xfer)

/-- SET_FEATURES_POWER_MGMT (R45). -/
def execSetFeaturesPowerMgmt (slot : Slot) (s : State) : Host.Outcome State Fault Refusal := ends s (s.setPower slot)

/-- SET_FEATURES_NUMBER_OF_QUEUES (R300). -/
def execSetFeaturesNumberOfQueues (slot : Slot) (s : State) : Host.Outcome State Fault Refusal :=
  ends s (s.setNumQueues slot)

/-- SET_FEATURES_SPINUP_CONTROL (R307). -/
def execSetFeaturesSpinupControl (slot : Slot) (s : State) : Host.Outcome State Fault Refusal :=
  ends s (s.setSpinup slot)

/-- SET_FEATURES_QUEUE_ORDER (R321). -/
def execSetFeaturesQueueOrder (slot : Slot) (s : State) : Host.Outcome State Fault Refusal := ends s (s.setOrder slot)

/-- SET_FEATURES_COMPLETION_STAMP (R309). -/
def execSetFeaturesCompletionStamp (slot : Slot) (s : State) : Host.Outcome State Fault Refusal :=
  ends s (s.setStamp slot)

/-- SET_FEATURES_COMPRESSION_LEVEL (R356). -/
def execSetFeaturesCompressionLevel (slot : Slot) (s : State) : Host.Outcome State Fault Refusal :=
  ends s (s.setLevel slot)

/-- ASYNC_EVENT_REQUEST (R313). -/
def execAsyncEventRequest (slot : Slot) (s : State) : Host.Outcome State Fault Refusal := ends s (s.asyncReq slot)

/-- NAMESPACE_MANAGEMENT (R343). -/
def execNamespaceManagement (slot : Slot) (xfer : Xfer) (s : State) : Host.Outcome State Fault Refusal :=
  ends s (s.nsManage slot xfer)

/-- NAMESPACE_ATTACHMENT (R295). -/
def execNamespaceAttachment (slot : Slot) (xfer : Xfer) (s : State) : Host.Outcome State Fault Refusal :=
  ends s (s.nsAttach slot xfer)

/-- FIRMWARE_IMAGE_DOWNLOAD (R430). -/
def execFirmwareImageDownload (slot : Slot) (xfer : Xfer) (s : State) : Host.Outcome State Fault Refusal :=
  ends s (s.download slot xfer)

/-- FIRMWARE_COMMIT (R431). -/
def execFirmwareCommit (slot : Slot) (s : State) : Host.Outcome State Fault Refusal := ends s (s.firmwareCommit slot)

/-- FIRMWARE_ACTIVATION (R335). -/
def execFirmwareActivation (s : State) : Host.Outcome State Fault Refusal := ends s s.activation

/-- ACTIVATION_TIMEOUT (R335). -/
def execActivationTimeout (s : State) : Host.Outcome State Fault Refusal := ends s s.activationTimeout

/-- DEVICE_SELF_TEST (R305). -/
def execDeviceSelfTest (slot : Slot) (ended : Option Nat) (s : State) : Host.Outcome State Fault Refusal :=
  ends s (s.selfTestCmd slot ended)

/-- DIRECTIVE_SEND (R305). -/
def execDirectiveSend (slot : Slot) (xfer : Xfer) (s : State) : Host.Outcome State Fault Refusal :=
  ends s (s.directiveSend slot xfer)

/-- DIRECTIVE_RECEIVE (R305). -/
def execDirectiveReceive (slot : Slot) (xfer : Xfer) (s : State) : Host.Outcome State Fault Refusal :=
  ends s (s.directiveReceive slot xfer)

/-- UNLOCK_CHALLENGE (R433). -/
def execUnlockChallenge (slot : Slot) (s : State) : Host.Outcome State Fault Refusal := ends s (s.unlockChallenge slot)

/-- UNLOCK_RESPONSE (R434). -/
def execUnlockResponse (slot : Slot) (xfer : Xfer) (s : State) : Host.Outcome State Fault Refusal :=
  ends s (s.unlockResponse slot xfer)

/-- FLUSH (R324). -/
def execOpFlush (slot : Slot) (s : State) : Host.Outcome State Fault Refusal := ends s (s.flushCmd slot)

/-- WRITE (R317). -/
def execOpWrite (slot : Slot) (s : State) : Host.Outcome State Fault Refusal := ends s (s.writeStart slot)

/-- WRITE_EFFECT (R319). -/
def execWriteEffect (slot : Slot) (xfer : Xfer) (s : State) : Host.Outcome State Fault Refusal :=
  ends s (s.writeEffect slot xfer)

/-- READ (R318). -/
def execOpRead (slot : Slot) (xfer : Xfer) (med : Option (List Nat)) (s : State) : Host.Outcome State Fault Refusal :=
  ends s (s.readCmd slot xfer med)

/-- WRITE_ZEROES (R317). -/
def execWriteZeroes (slot : Slot) (s : State) : Host.Outcome State Fault Refusal := ends s (s.writeZeroes slot)

/-- DATASET_MANAGEMENT (R362). -/
def execDatasetManagement (slot : Slot) (xfer : Xfer) (s : State) : Host.Outcome State Fault Refusal :=
  ends s (s.datasetMgmt slot xfer)

/-- VERIFY (R317). -/
def execOpVerify (slot : Slot) (pi : Nat) (med : Option (List Nat)) (s : State) : Host.Outcome State Fault Refusal :=
  ends s (s.verifyCmd slot pi med)

/-- RESERVATION_REGISTER (R336). -/
def execReservationRegister (slot : Slot) (xfer : Xfer) (s : State) : Host.Outcome State Fault Refusal :=
  ends s (s.resvRegister slot xfer)

/-- RESERVATION_REPORT (R336). -/
def execReservationReport (slot : Slot) (xfer : Xfer) (s : State) : Host.Outcome State Fault Refusal :=
  ends s (s.resvReport slot xfer)

/-- RESERVATION_ACQUIRE (R337). -/
def execReservationAcquire (slot : Slot) (xfer : Xfer) (s : State) : Host.Outcome State Fault Refusal :=
  ends s (s.resvAcquire slot xfer)

/-- RESERVATION_RELEASE (R336). -/
def execReservationRelease (slot : Slot) (xfer : Xfer) (s : State) : Host.Outcome State Fault Refusal :=
  ends s (s.resvRelease slot xfer)

/-- POOL_EXHAUSTED (R268). -/
def execPoolExhausted (slot : Slot) (s : State) : Host.Outcome State Fault Refusal := ends s (s.poolExhausted slot)

/-- DESTAGE_START (R323). -/
def execDestageStart (s : State) : Host.Outcome State Fault Refusal := ends s s.destageStart

/-- DISCARDED_BY_FAULT (R333). -/
def execDiscardedByFault (unit : CUnit) (slots : List Slot) (s : State) : Host.Outcome State Fault Refusal :=
  ends s (s.discarded unit slots)

/-- SMBUS_BASIC_MGMT_READ (R314). -/
def execSmbusBasicMgmtRead (code : Nat) (pec : Bool) (s : State) : Host.Outcome State Fault Refusal :=
  ends s (s.smbRead code pec)

/-- SMBUS_LEDGER_OFFSET (R418). -/
def execSmbusLedgerOffset (bytes : List Byte) (pec : Bool) (s : State) : Host.Outcome State Fault Refusal :=
  ends s (s.smbOffset bytes pec)

/-- SMBUS_LEDGER_READ (R418). -/
def execSmbusLedgerRead (pec : Bool) (s : State) : Host.Outcome State Fault Refusal := ends s (s.smbLedger pec)

/-- SMBUS_LEDGER_STATUS (R418). -/
def execSmbusLedgerStatus (pec : Bool) (s : State) : Host.Outcome State Fault Refusal := ends s (s.smbStatus pec)

end Sys2Proof.Machine
end

