-- ==== Sys2Proof/Machine/MeanMedia.lean ====
section
/-!
DEFINITION. The meanings of the commands of Tether, read channel, write path, sequencers, Darenlen links (chapters 3 to 6, 19).
A command whose condition the state does not meet changes nothing.
-/

namespace Sys2Proof.Machine

open Sys2Proof

/-- TTH_ENABLE (R62). -/
def execTthEnable (path : Path) (value : Word) (s : State) : Host.Outcome State Fault Refusal :=
  ends s (s.regCmd path R.A_TTH_CTRL (withBits value 0 1 1))

/-- TTH_DISABLE (R69). -/
def execTthDisable (path : Path) (value : Word) (s : State) : Host.Outcome State Fault Refusal :=
  ends s (s.regCmd path R.A_TTH_CTRL (withBits value 0 1 0))

/-- TTH_SELECT_REQUEST (R68). -/
def execTthSelectRequest (path : Path) (value : Word) (s : State) : Host.Outcome State Fault Refusal :=
  ends s (s.regCmd path R.A_TTH_CTRL value)

/-- TETHER_FREQUENCY_FOUND (R62). -/
def execTetherFrequencyFound (input : Fin 2) (slotHz : Nat) (pllHz : Nat) (s : State) : Host.Outcome State Fault
    Refusal :=
  ends s (s.frequencyFound input.val slotHz pllHz)

/-- TETHER_FRAME (R59). -/
def execTetherFrame (input : Fin 2) (frame : BandFrame) (s : State) : Host.Outcome State Fault Refusal :=
  ends s (s.tetherFrame input.val frame)

/-- TETHER_CLOCK_SWITCH (R69). -/
def execTetherClockSwitch (s : State) : Host.Outcome State Fault Refusal := ends s s.clockSwitch

/-- RELOCK_FAIL (R72). -/
def execRelockFail (s : State) : Host.Outcome State Fault Refusal := ends s s.relockFail

/-- ZONE_SETTLED (R76). -/
def execZoneSettled (head : Head) (s : State) : Host.Outcome State Fault Refusal := ends s (s.zoneSettled head.val)

/-- SECTOR_ARRIVAL (R156). -/
def execSectorArrival (head : Head) (off : Nat) (s : State) : Host.Outcome State Fault Refusal :=
  ends s (s.sectorArrival head.val off)

/-- SYNC_DECISION (R97). -/
def execSyncDecision (head : Head) (hard : Nat) (s : State) : Host.Outcome State Fault Refusal :=
  ends s (s.syncDecision head.val hard)

/-- LLR_CAPTURE_COMPLETE (R100). -/
def execLlrCaptureComplete (head : Head) (front : FrontEnd) (s : State) : Host.Outcome State Fault Refusal :=
  ends s (s.captured head.val front)

/-- STREAM_DECODE_START (R102). -/
def execStreamDecodeStart (s : State) : Host.Outcome State Fault Refusal := ends s s.streamStart

/-- STREAM_DECODE_END (R99). -/
def execStreamDecodeEnd (dec : Fin 16) (codeword : Nat) (iters : Nat) (s : State) : Host.Outcome State Fault Refusal :=
  ends s (s.streamEnd dec.val codeword iters)

/-- DEEP_DECODE_START (R107). -/
def execDeepDecodeStart (s : State) : Host.Outcome State Fault Refusal := ends s s.deepStart

/-- DEEP_DECODE_END (R105). -/
def execDeepDecodeEnd (dec : Fin 2) (codeword : Nat) (iters : Nat) (s : State) : Host.Outcome State Fault Refusal :=
  ends s (s.deepEnd (16 + dec.val) codeword iters)

/-- DECODER_HANG (R113). -/
def execDecoderHang (dec : Fin 18) (s : State) : Host.Outcome State Fault Refusal := ends s (s.decHang dec.val)

/-- LDPC_DECODER_RESET (R113). -/
def execLdpcDecoderReset (path : Path) (dec : Fin 18) (value : Word) (s : State) : Host.Outcome State Fault Refusal :=
  ends s (s.regCmd path (R.A_LDPC_CTRL dec.val) (withBits value 1 1 1))

/-- CH_RELOAD (R93). -/
def execChReload (path : Path) (head : Head) (value : Word) (s : State) : Host.Outcome State Fault Refusal :=
  ends s (s.regCmd path (R.A_CH_RD_CFG head.val) (withBits value 8 1 1))

/-- CH_COUNTER_CLEAR (R115). -/
def execChCounterClear (path : Path) (head : Head) (value : Word) (s : State) : Host.Outcome State Fault Refusal :=
  ends s (s.regCmd path (R.A_CH_CNT_CLR head.val) value)

/-- CH_WR_COUNTER_CLEAR (R135). -/
def execChWrCounterClear (path : Path) (head : Head) (value : Word) (s : State) : Host.Outcome State Fault Refusal :=
  ends s (s.regCmd path (R.A_CH_WR_CNT_CLR head.val) value)

/-- WRITE_RUN_START (R124). -/
def execWriteRunStart (head : Head) (lead : Nat) (s : State) : Host.Outcome State Fault Refusal :=
  ends s (s.writeRunStart head.val lead)

/-- WRITE_GATE_OPEN (R123). -/
def execWriteGateOpen (head : Head) (off : Nat) (s : State) : Host.Outcome State Fault Refusal :=
  ends s (s.writeGateOpen head.val off)

/-- WRITE_RUN_END (R123). -/
def execWriteRunEnd (head : Head) (s : State) : Host.Outcome State Fault Refusal := ends s (s.writeRunEnd head.val)

/-- SECTOR_COUNTED_WRITTEN (R129). -/
def execSectorCountedWritten (head : Head) (s : State) : Host.Outcome State Fault Refusal :=
  ends s (s.countWritten head.val)

/-- MICROWORD_ISSUE (R153). -/
def execMicrowordIssue (a : Act) (s : State) : Host.Outcome State Fault Refusal := ends s (s.sqClock a.val)

/-- CONT (R153). -/
def execOpCont (a : Act) (word : BitVec 128) (s : State) : Host.Outcome State Fault Refusal :=
  ends s (s.wordNop a.val word 0)

/-- JUMP (R153). -/
def execOpJump (a : Act) (word : BitVec 128) (s : State) : Host.Outcome State Fault Refusal :=
  ends s (s.wordNop a.val word 1)

/-- BR (R153). -/
def execOpBr (a : Act) (word : BitVec 128) (s : State) : Host.Outcome State Fault Refusal :=
  ends s (s.wordNop a.val word 2)

/-- CALL (R154). -/
def execOpCall (a : Act) (word : BitVec 128) (s : State) : Host.Outcome State Fault Refusal :=
  ends s (s.wordNop a.val word 3)

/-- BRCALL (R154). -/
def execBrcall (a : Act) (word : BitVec 128) (s : State) : Host.Outcome State Fault Refusal :=
  ends s (s.wordNop a.val word 4)

/-- RET (R154). -/
def execOpRet (a : Act) (word : BitVec 128) (s : State) : Host.Outcome State Fault Refusal :=
  ends s (s.wordNop a.val word 5)

/-- BRRET (R154). -/
def execBrret (a : Act) (word : BitVec 128) (s : State) : Host.Outcome State Fault Refusal :=
  ends s (s.wordNop a.val word 6)

/-- DISP (R153). -/
def execOpDisp (a : Act) (word : BitVec 128) (s : State) : Host.Outcome State Fault Refusal :=
  ends s (s.wordNop a.val word 7)

/-- LOOP (R153). -/
def execOpLoop (a : Act) (word : BitVec 128) (s : State) : Host.Outcome State Fault Refusal :=
  ends s (s.wordNop a.val word 8)

/-- WAIT (R153). -/
def execOpWait (a : Act) (word : BitVec 128) (s : State) : Host.Outcome State Fault Refusal :=
  ends s (s.wordNop a.val word 9)

/-- HALT (R151). -/
def execOpHalt (a : Act) (word : BitVec 128) (s : State) : Host.Outcome State Fault Refusal :=
  ends s (s.wordNop a.val word 10)

/-- WAIT_CONDITION_MET (R153). -/
def execWaitConditionMet (a : Act) (s : State) : Host.Outcome State Fault Refusal := ends s (s.waitMet a.val)

/-- WAIT_TIMEOUT (R153). -/
def execWaitTimeout (a : Act) (s : State) : Host.Outcome State Fault Refusal := ends s (s.waitTimeout a.val)

/-- MOV (R153). -/
def execOpMov (a : Act) (word : BitVec 128) (s : State) : Host.Outcome State Fault Refusal :=
  ends s (s.wordAlu a.val word 1)

/-- ADD (R153). -/
def execOpAdd (a : Act) (word : BitVec 128) (s : State) : Host.Outcome State Fault Refusal :=
  ends s (s.wordAlu a.val word 2)

/-- SUB (R153). -/
def execOpSub (a : Act) (word : BitVec 128) (s : State) : Host.Outcome State Fault Refusal :=
  ends s (s.wordAlu a.val word 3)

/-- AND (R153). -/
def execOpAnd (a : Act) (word : BitVec 128) (s : State) : Host.Outcome State Fault Refusal :=
  ends s (s.wordAlu a.val word 4)

/-- OR (R153). -/
def execOpOr (a : Act) (word : BitVec 128) (s : State) : Host.Outcome State Fault Refusal :=
  ends s (s.wordAlu a.val word 5)

/-- XOR (R153). -/
def execOpXor (a : Act) (word : BitVec 128) (s : State) : Host.Outcome State Fault Refusal :=
  ends s (s.wordAlu a.val word 6)

/-- SHL (R153). -/
def execOpShl (a : Act) (word : BitVec 128) (s : State) : Host.Outcome State Fault Refusal :=
  ends s (s.wordAlu a.val word 7)

/-- SHR (R153). -/
def execOpShr (a : Act) (word : BitVec 128) (s : State) : Host.Outcome State Fault Refusal :=
  ends s (s.wordAlu a.val word 8)

/-- CMP (R153). -/
def execOpCmp (a : Act) (word : BitVec 128) (s : State) : Host.Outcome State Fault Refusal :=
  ends s (s.wordAlu a.val word 9)

/-- LDLC (R153). -/
def execLdlc (a : Act) (word : BitVec 128) (s : State) : Host.Outcome State Fault Refusal :=
  ends s (s.wordAlu a.val word 10)

/-- LDHS (R153). -/
def execLdhs (a : Act) (word : BitVec 128) (s : State) : Host.Outcome State Fault Refusal :=
  ends s (s.wordAlu a.val word 11)

/-- TASK_POP (R155). -/
def execTaskPop (a : Act) (word : BitVec 128) (s : State) : Host.Outcome State Fault Refusal :=
  ends s (s.wordFcmd a.val word 1)

/-- DONE_PUSH (R155). -/
def execDonePush (a : Act) (word : BitVec 128) (s : State) : Host.Outcome State Fault Refusal :=
  ends s (s.wordFcmd a.val word 2)

/-- ARM_READ (R156). -/
def execArmRead (a : Act) (word : BitVec 128) (s : State) : Host.Outcome State Fault Refusal :=
  ends s (s.wordFcmd a.val word 3)

/-- ARM_WRITE (R156). -/
def execArmWrite (a : Act) (word : BitVec 128) (s : State) : Host.Outcome State Fault Refusal :=
  ends s (s.wordFcmd a.val word 4)

/-- ARM_VERIFY (R132). -/
def execArmVerify (a : Act) (word : BitVec 128) (s : State) : Host.Outcome State Fault Refusal :=
  ends s (s.wordFcmd a.val word 5)

/-- ABANDON (R161). -/
def execOpAbandon (a : Act) (word : BitVec 128) (s : State) : Host.Outcome State Fault Refusal :=
  ends s (s.wordFcmd a.val word 6)

/-- LOAD_ZONE (R94). -/
def execLoadZone (a : Act) (word : BitVec 128) (s : State) : Host.Outcome State Fault Refusal :=
  ends s (s.wordFcmd a.val word 7)

/-- SELECT (R455). -/
def execOpSelect (a : Act) (word : BitVec 128) (s : State) : Host.Outcome State Fault Refusal :=
  ends s (s.wordFcmd a.val word 8)

/-- SEEK (R179). -/
def execOpSeek (a : Act) (word : BitVec 128) (s : State) : Host.Outcome State Fault Refusal :=
  ends s (s.wordFcmd a.val word 9)

/-- TARGET (R179). -/
def execOpTarget (a : Act) (word : BitVec 128) (s : State) : Host.Outcome State Fault Refusal :=
  ends s (s.wordFcmd a.val word 10)

/-- DEF_LOOKUP (R147). -/
def execDefLookup (a : Act) (word : BitVec 128) (s : State) : Host.Outcome State Fault Refusal :=
  ends s (s.wordFcmd a.val word 11)

/-- RPT_POP (R155). -/
def execRptPop (a : Act) (word : BitVec 128) (s : State) : Host.Outcome State Fault Refusal :=
  ends s (s.wordFcmd a.val word 12)

/-- SEQ_ENABLE (R151). -/
def execSeqEnable (path : Path) (a : Act) (value : Word) (s : State) : Host.Outcome State Fault Refusal :=
  ends s (s.regCmd path (R.A_SEQ_CTRL a.val) value)

/-- SEQ_PAUSE (R157). -/
def execSeqPause (path : Path) (a : Act) (value : Word) (s : State) : Host.Outcome State Fault Refusal :=
  ends s (s.regCmd path (R.A_SEQ_CTRL a.val) (withBits value 1 1 1))

/-- SEQ_RESUME (R151). -/
def execSeqResume (path : Path) (a : Act) (value : Word) (s : State) : Host.Outcome State Fault Refusal :=
  ends s (s.regCmd path (R.A_SEQ_CTRL a.val) (withBits value 1 1 0))

/-- SEQ_ATTN (R157). -/
def execSeqAttn (path : Path) (a : Act) (value : Word) (s : State) : Host.Outcome State Fault Refusal :=
  ends s (s.regCmd path (R.A_SEQ_CTRL a.val) (withBits value 2 1 1))

/-- DEF_SWAP (R147). -/
def execDefSwap (path : Path) (a : Act) (value : Word) (s : State) : Host.Outcome State Fault Refusal :=
  ends s (s.regCmd path (R.A_SEQ_CTRL a.val) (withBits value 8 1 1))

/-- WP_TIMEOUT (R158). -/
def execWpTimeout (a : Act) (s : State) : Host.Outcome State Fault Refusal := ends s (s.wpTimeout a.val)

/-- DEF_LOOKUP_DONE (R147). -/
def execDefLookupDone (a : Act) (s : State) : Host.Outcome State Fault Refusal := ends s (s.lookupDone a.val)

/-- DLK_ENABLE (R449). -/
def execDlkEnable (path : Path) (_a : Act) (value : Word) (s : State) : Host.Outcome State Fault Refusal :=
  ends s (s.regCmd path R.A_DLK_CTRL value)

/-- DLK_FRAME_SEND (R452). -/
def execDlkFrameSend (a : Act) (s : State) : Host.Outcome State Fault Refusal := ends s (s.dlkSendNext a.val)

/-- DLK_REPLY (R444). -/
def execDlkReply (a : Act) (symbols : List LineSymbol) (s : State) : Host.Outcome State Fault Refusal :=
  ends s (s.dlkReply a.val (symbols.map (fun x => x.toNat)))

/-- DLK_EXCHANGE_TIMEOUT (R445). -/
def execDlkExchangeTimeout (a : Act) (s : State) : Host.Outcome State Fault Refusal := ends s (s.exchangeTimeout a.val)

/-- DLK_LINK_DOWN (R447). -/
def execDlkLinkDown (a : Act) (s : State) (symbols : List LineSymbol := []) : Host.Outcome State Fault Refusal :=
  ends s (s.dlkLineDown a.val (symbols.map (fun x => x.toNat)))

/-- DLK_ALIGN_START (R449). -/
def execDlkAlignStart (a : Act) (s : State) : Host.Outcome State Fault Refusal := ends s (s.dlkAlignStart a.val)

/-- DLK_ALIGNED (R449). -/
def execDlkAligned (a : Act) (s : State) (symbols : List LineSymbol := []) : Host.Outcome State Fault Refusal :=
  ends s (s.dlkAligned a.val (symbols.map (fun x => x.toNat)))

/-- DLK_TRAIN_TIMEOUT (R448). -/
def execDlkTrainTimeout (a : Act) (s : State) : Host.Outcome State Fault Refusal := ends s (s.dlkTrainTimeout a.val)

/-- DLK_PING (R452). -/
def execDlkPing (a : Act) (s : State) : Host.Outcome State Fault Refusal := ends s (s.dlkPing a.val)

/-- DLK_FAULT_LINE (R456). -/
def execDlkFaultLine (a : Act) (low : Bool) (s : State) : Host.Outcome State Fault Refusal :=
  ends s (s.dlkFaultLine a.val low)

/-- ARM_MISS (R453). -/
def execArmMiss (head : Head) (s : State) : Host.Outcome State Fault Refusal := ends s (s.armMiss head.val)

/-- DLK_RSEL_WRITE (R455). -/
def execDlkRselWrite (path : Path) (a : Act) (value : Word) (s : State) : Host.Outcome State Fault Refusal :=
  ends s (s.regCmd path (R.A_DLK_L_RSEL a.val) value)

/-- DLK_PREG_READ (R457). -/
def execDlkPregRead (path : Path) (a : Act) (value : Word) (s : State) : Host.Outcome State Fault Refusal :=
  ends s (s.regCmd path (R.A_DLK_L_PREG_CMD a.val) (withBits value 0 2 1))

/-- DLK_PREG_WRITE (R457). -/
def execDlkPregWrite (path : Path) (a : Act) (value : Word) (s : State) : Host.Outcome State Fault Refusal :=
  ends s (s.regCmd path (R.A_DLK_L_PREG_CMD a.val) (withBits value 0 2 2))

end Sys2Proof.Machine
end

