-- ==== Sys2Proof/Machine/MeanMotion.lean ====
section
/-!
DEFINITION. The meanings of the commands of servo, control engine, spindle and Ballast (chapters 7 to 9).
A command whose condition the state does not meet changes nothing.
-/

namespace Sys2Proof.Machine

open Sys2Proof

/-- SERVO_SAMPLE (R168). -/
def execServoSample (head : Head) (obs : WedgeObs) (s : State) : Host.Outcome State Fault Refusal :=
  ends s (s.wedgeSample head.val obs)

/-- ONTRK_SET (R178). -/
def execOntrkSet (head : Head) (s : State) : Host.Outcome State Fault Refusal := ends s (s.ontrkSet head.val)

/-- FOLLOW_ERROR (R182). -/
def execFollowError (loop : Fin 28) (s : State) : Host.Outcome State Fault Refusal := ends s (s.followError loop.val)

/-- SERVO_LOST (R181). -/
def execServoLost (a : Act) (s : State) : Host.Outcome State Fault Refusal := ends s (s.servoLost a.val)

/-- ACTUATOR_ENABLE (R177). -/
def execActuatorEnable (path : Path) (value : Word) (s : State) : Host.Outcome State Fault Refusal :=
  ends s (s.regCmd path R.A_SRV_CTRL value)

/-- ACTUATOR_LOAD (R177). -/
def execActuatorLoad (path : Path) (a : Act) (value : Word) (s : State) : Host.Outcome State Fault Refusal :=
  ends s (s.regCmd path (R.A_SRV_ACT_CTRL a.val) (withBits value 0 3 1))

/-- ACTUATOR_UNLOAD (R177). -/
def execActuatorUnload (path : Path) (a : Act) (value : Word) (s : State) : Host.Outcome State Fault Refusal :=
  ends s (s.regCmd path (R.A_SRV_ACT_CTRL a.val) (withBits value 0 3 2))

/-- ACTUATOR_RETRACT (R192). -/
def execActuatorRetract (path : Path) (a : Act) (value : Word) (s : State) : Host.Outcome State Fault Refusal :=
  ends s (s.regCmd path (R.A_SRV_ACT_CTRL a.val) (withBits value 0 3 3))

/-- ACTUATOR_HOLD (R177). -/
def execActuatorHold (path : Path) (a : Act) (value : Word) (s : State) : Host.Outcome State Fault Refusal :=
  ends s (s.regCmd path (R.A_SRV_ACT_CTRL a.val) (withBits value 0 3 4))

/-- LOAD_FAIL (R177). -/
def execLoadFail (a : Act) (s : State) : Host.Outcome State Fault Refusal := ends s (s.loadFail a.val)

/-- SEEK_TIMEOUT (R179). -/
def execSeekTimeout (a : Act) (s : State) : Host.Outcome State Fault Refusal := ends s (s.seekTimeout a.val)

/-- RAMP_STOP_REACHED (R177). -/
def execRampStopReached (a : Act) (s : State) : Host.Outcome State Fault Refusal := ends s (s.rampStop a.val)

/-- RETRACT_DONE (R192). -/
def execRetractDone (a : Act) (s : State) : Host.Outcome State Fault Refusal := ends s (s.retractDone a.val)

/-- GUST_FRAME (R183). -/
def execGustFrame (port : Fin 2) (frame : Nat) (s : State) : Host.Outcome State Fault Refusal :=
  ends s (s.gustFrame port.val frame)

/-- GUST_TRIP (R184). -/
def execGustTrip (port : Fin 2) (s : State) : Host.Outcome State Fault Refusal := ends s (s.gustTrip port.val)

/-- GUST_TRIP_CLEAR (R184). -/
def execGustTripClear (port : Fin 2) (s : State) : Host.Outcome State Fault Refusal := ends s (s.gustTripClear port.val)

/-- GUST_FRAME_TIMEOUT (R185). -/
def execGustFrameTimeout (port : Fin 2) (s : State) : Host.Outcome State Fault Refusal :=
  ends s (s.gustTimeout port.val)

/-- GUST_CRC_LOSS (R185). -/
def execGustCrcLoss (port : Fin 2) (s : State) : Host.Outcome State Fault Refusal := ends s (s.gustCrcLoss port.val)

/-- BRIDLE_FRAME_SEND (R189). -/
def execBridleFrameSend (a : Act) (ch : Fin 6) (s : State) : Host.Outcome State Fault Refusal :=
  ends s (s.bridleCmd a.val ch.val)

/-- BRIDLE_REPLY (R188). -/
def execBridleReply (a : Act) (frame : Option Nat) (s : State) : Host.Outcome State Fault Refusal :=
  ends s (s.bridleReply a.val frame)

/-- BRIDLE_REFRESH (R189). -/
def execBridleRefresh (a : Act) (s : State) : Host.Outcome State Fault Refusal := ends s (s.bridleRefresh a.val)

/-- BRIDLE_LINK_DOWN (R189). -/
def execBridleLinkDown (a : Act) (s : State) : Host.Outcome State Fault Refusal := ends s (s.bridleDown a.val)

/-- BRIDLE_LINK_UP (R189). -/
def execBridleLinkUp (a : Act) (s : State) : Host.Outcome State Fault Refusal := ends s (s.bridleUp a.val)

/-- VCM_CURRENT_SAMPLE (R191). -/
def execVcmCurrentSample (a : Act) (bits : Nat) (s : State) : Host.Outcome State Fault Refusal :=
  ends s (s.vcmSample a.val bits)

/-- VCM_OVERCURRENT (R191). -/
def execVcmOvercurrent (a : Act) (s : State) : Host.Outcome State Fault Refusal := ends s (s.vcmOver a.val)

/-- VCM_BRIDGE_FAULT (R191). -/
def execVcmBridgeFault (a : Act) (low : Bool) (s : State) : Host.Outcome State Fault Refusal :=
  ends s (s.vcmBridge a.val low)

/-- CLE_JOB_START (R209). -/
def execCleJobStart (s : State) : Host.Outcome State Fault Refusal := ends s s.jobStart

/-- CLE_JOB_END (R203). -/
def execCleJobEnd (lane : Fin 2) (s : State) : Host.Outcome State Fault Refusal := ends s (s.jobEnd lane.val)

/-- CLE_JOB_OVERRUN (R212). -/
def execCleJobOverrun (loop : LoopN) (s : State) : Host.Outcome State Fault Refusal := ends s (s.jobOverrun loop.val)

/-- CLE_LOOP_RESTART (R214). -/
def execCleLoopRestart (path : Path) (loop : LoopN) (value : Word) (s : State) : Host.Outcome State Fault Refusal :=
  ends s (s.regCmd path (R.A_CLE_LOOP_STAT loop.val) (withBits value 4 1 1))

/-- CLE_LOOP_DISABLE (R213). -/
def execCleLoopDisable (path : Path) (loop : LoopN) (value : Word) (s : State) : Host.Outcome State Fault Refusal :=
  ends s (s.regCmd path (R.A_CLE_LOOP_CTRL loop.val) (withBits value 0 1 0))

/-- CLE_LOOP_COUNTER_CLEAR (R213). -/
def execCleLoopCounterClear (path : Path) (loop : LoopN) (value : Word) (s : State) : Host.Outcome State Fault
    Refusal :=
  ends s (s.regCmd path (R.A_CLE_LOOP_CTRL loop.val) (withBits value 1 1 1))

/-- CLE_COMMIT (R206). -/
def execCleCommit (path : Path) (value : Word) (s : State) : Host.Outcome State Fault Refusal :=
  ends s (s.regCmd path R.A_CLE_COMMIT value)

/-- CLE_COMMIT_COPY (R206). -/
def execCleCommitCopy (s : State) : Host.Outcome State Fault Refusal := ends s s.commitCopy

/-- CLE_INJECTION_ENABLE (R215). -/
def execCleInjectionEnable (path : Path) (value : Word) (s : State) : Host.Outcome State Fault Refusal :=
  ends s (s.regCmd path R.A_CLE_INJ_CTRL (withBits value 31 1 1))

/-- CLE_CAPTURE_ARM (R216). -/
def execCleCaptureArm (path : Path) (value : Word) (s : State) : Host.Outcome State Fault Refusal :=
  ends s (s.regCmd path R.A_CLE_CAP_CTRL (withBits value 31 1 1))

/-- SPN_CURRENT_SAMPLE (R220). -/
def execSpnCurrentSample (obs : SpnObs) (s : State) : Host.Outcome State Fault Refusal :=
  ends s ((s.currentSample obs).relockWatch.tthStart)

/-- SPN_FAST_BUS_SAMPLE (R220). -/
def execSpnFastBusSample (bits : Nat) (balIs : Bool) (supok : Bool) (s : State) : Host.Outcome State Fault Refusal :=
  ends s (s.fastSample bits balIs supok)

/-- SPN_PWM_PERIOD (R221). -/
def execSpnPwmPeriod (s : State) : Host.Outcome State Fault Refusal := ends s s.pwmPeriod

/-- SPN_START (R231). -/
def execSpnStart (path : Path) (value : Word) (s : State) : Host.Outcome State Fault Refusal :=
  ends s (s.regCmd path R.A_SPN_CTRL (withBits value 8 3 1))

/-- SPN_BRAKE (R231). -/
def execSpnBrake (path : Path) (value : Word) (s : State) : Host.Outcome State Fault Refusal :=
  ends s (s.regCmd path R.A_SPN_CTRL (withBits value 8 3 2))

/-- SPN_COAST (R231). -/
def execSpnCoast (path : Path) (value : Word) (s : State) : Host.Outcome State Fault Refusal :=
  ends s (s.regCmd path R.A_SPN_CTRL (withBits value 8 3 3))

/-- SPN_DISABLE (R231). -/
def execSpnDisable (path : Path) (value : Word) (s : State) : Host.Outcome State Fault Refusal :=
  ends s (s.regCmd path R.A_SPN_CTRL (withBits value 0 1 0))

/-- SPN_TARGET_WRITE (R231). -/
def execSpnTargetWrite (path : Path) (value : Word) (s : State) : Host.Outcome State Fault Refusal :=
  ends s (s.regCmd path R.A_SPN_TARGET value)

/-- SPN_LISTEN_END (R231). -/
def execSpnListenEnd (s : State) : Host.Outcome State Fault Refusal := ends s s.spnListenEnd

/-- SPN_ALIGN_END (R232). -/
def execSpnAlignEnd (s : State) : Host.Outcome State Fault Refusal := ends s s.spnAlignEnd

/-- SPN_RAMP_TIMEOUT (R232). -/
def execSpnRampTimeout (s : State) : Host.Outcome State Fault Refusal := ends s s.spnRampTimeout

/-- SPN_RETRY_COAST_END (R232). -/
def execSpnRetryCoastEnd (s : State) : Host.Outcome State Fault Refusal := ends s s.spnRetryEnd

/-- OBS_LOCK (R228). -/
def execObsLock (s : State) : Host.Outcome State Fault Refusal := ends s s.obsLock

/-- OBS_LOSS (R228). -/
def execObsLoss (s : State) : Host.Outcome State Fault Refusal := ends s s.obsLoss

/-- ANG_DISAGREE (R230). -/
def execAngDisagree (s : State) : Host.Outcome State Fault Refusal := ends s s.angDisagree

/-- SPN_AT_SPEED (R231). -/
def execSpnAtSpeed (s : State) : Host.Outcome State Fault Refusal := ends s s.speedReached

/-- SPN_REST_REACHED (R233). -/
def execSpnRestReached (s : State) : Host.Outcome State Fault Refusal := ends s s.restReached

/-- CATCH_PRESET_END (R234). -/
def execCatchPresetEnd (s : State) : Host.Outcome State Fault Refusal := ends s s.catchPresetEnd

/-- CATCH_FAIL (R234). -/
def execCatchFail (s : State) : Host.Outcome State Fault Refusal := ends s s.catchFail

/-- SPN_STAGE_FAULT (R231). -/
def execSpnStageFault (low : Bool) (s : State) : Host.Outcome State Fault Refusal := ends s (s.stageFault low)

/-- BAL_FLT (R238). -/
def execBalFlt (s : State) : Host.Outcome State Fault Refusal := ends s s.balFlt

/-- BAL_STUCK (R238). -/
def execBalStuck (s : State) : Host.Outcome State Fault Refusal := ends s s.balStuck

/-- OV (R239). -/
def execOv (s : State) : Host.Outcome State Fault Refusal := ends s s.overVoltage

/-- OV_RECOVERY (R239). -/
def execOvRecovery (s : State) : Host.Outcome State Fault Refusal := ends s s.ovRecovery

/-- SUPPLY_LOSS (R240). -/
def execSupplyLoss (s : State) : Host.Outcome State Fault Refusal := ends s s.supplyLoss

/-- PLOSS_END (R240). -/
def execPlossEnd (s : State) : Host.Outcome State Fault Refusal := ends s s.plossEnd

/-- SUPPLY_RECOVERY_RESET (R241). -/
def execSupplyRecoveryReset (s : State) : Host.Outcome State Fault Refusal := ends s s.supplyReset

/-- SPDREF_BAD (R243). -/
def execSpdrefBad (s : State) (signal : SpdSignal := .codes []) : Host.Outcome State Fault Refusal := ends s (s.spdrefBad signal)

/-- SPDREF_GOOD (R243). -/
def execSpdrefGood (signal : SpdSignal) (s : State) : Host.Outcome State Fault Refusal := ends s (s.spdrefGood signal)

/-- SPDREF_SYNC_LOCK (R244). -/
def execSpdrefSyncLock (err : Int) (s : State) : Host.Outcome State Fault Refusal := ends s (s.spdrefSync err)

end Sys2Proof.Machine
end

