-- ==== Sys2Proof/Machine/Meanings.lean ====
section
/-!
DEFINITION. The meanings of all commands, gathered for the dispatch.
-/
end

