-- ==== Sys2Proof/Machine/Dispatch.lean ====
section
/-!
DEFINITION. The dispatch: one arm per command, each a direct call of the command's meaning.
-/

namespace Sys2Proof.Machine

open Sys2Proof

def exec (i : Instr) (s : State) : Host.Outcome State Fault Refusal :=
  match i with
  | .crsWrite path addr size value => Sys2Proof.Machine.execCrsWrite path addr size value s
  | .crsAccessTimeout path addr write => Sys2Proof.Machine.execCrsAccessTimeout path addr write s
  | .rcRegisterRead path addr size => Sys2Proof.Machine.execRcRegisterRead path addr size s
  | .stampLoRead path addr => Sys2Proof.Machine.execStampLoRead path addr s
  | .stampHiRead path addr => Sys2Proof.Machine.execStampHiRead path addr s
  | .tbAlignCheck drift => Sys2Proof.Machine.execTbAlignCheck drift s
  | .commandFetch offer0 offer1 => Sys2Proof.Machine.execCommandFetch offer0 offer1 s
  | .powerGood gpio pair0 pair1 rails => Sys2Proof.Machine.execPowerGood gpio pair0 pair1 s rails
  | .powerDomainUp => Sys2Proof.Machine.execPowerDomainUp s
  | .underVoltage rail mv0 mv1 => Sys2Proof.Machine.execUnderVoltage rail s mv0 mv1
  | .powerOnReset rail mv => Sys2Proof.Machine.execPowerOnReset s rail mv
  | .setFeaturesDeviceMode slot => Sys2Proof.Machine.execSetFeaturesDeviceMode slot s
  | .getFeaturesDeviceMode slot => Sys2Proof.Machine.execGetFeaturesDeviceMode slot s
  | .modeTransitionTrigger trig => Sys2Proof.Machine.execModeTransitionTrigger trig s
  | .modeStepComplete => Sys2Proof.Machine.execModeStepComplete s
  | .junctionTempRead tj => Sys2Proof.Machine.execJunctionTempRead tj s
  | .envSensorPoll readings => Sys2Proof.Machine.execEnvSensorPoll readings s
  | .temperatureCapRelease => Sys2Proof.Machine.execTemperatureCapRelease s
  | .ondemandTimeout => Sys2Proof.Machine.execOndemandTimeout s
  | .autonomousPsTransition ctrl => Sys2Proof.Machine.execAutonomousPsTransition ctrl s
  | .spinupTimeout => Sys2Proof.Machine.execSpinupTimeout s
  | .actuatorLoadStart => Sys2Proof.Machine.execActuatorLoadStart s
  | .ccEnable ctrl cc aqa => Sys2Proof.Machine.execCcEnable ctrl cc aqa s
  | .controllerReset ctrl cc => Sys2Proof.Machine.execControllerReset ctrl cc s
  | .controllerResetDone ctrl => Sys2Proof.Machine.execControllerResetDone ctrl s
  | .pciePortReset port kind => Sys2Proof.Machine.execPciePortReset port kind s
  | .perstLow port => Sys2Proof.Machine.execPerstLow port s
  | .linkTrainingStart port => Sys2Proof.Machine.execLinkTrainingStart port s
  | .controllerShutdown ctrl cc => Sys2Proof.Machine.execControllerShutdown ctrl cc s
  | .shutdownComplete ctrl => Sys2Proof.Machine.execShutdownComplete ctrl s
  | .abruptShutdownTimeout ctrl => Sys2Proof.Machine.execAbruptShutdownTimeout ctrl s
  | .nvmSubsystemReset ctrl value => Sys2Proof.Machine.execNvmSubsystemReset ctrl value s
  | .tthEnable path value => Sys2Proof.Machine.execTthEnable path value s
  | .tthDisable path value => Sys2Proof.Machine.execTthDisable path value s
  | .tetherFrequencyFound input slotHz pllHz => Sys2Proof.Machine.execTetherFrequencyFound input slotHz pllHz s
  | .tetherFrame input frame => Sys2Proof.Machine.execTetherFrame input frame s
  | .tthSelectRequest path value => Sys2Proof.Machine.execTthSelectRequest path value s
  | .tetherClockSwitch => Sys2Proof.Machine.execTetherClockSwitch s
  | .relockFail => Sys2Proof.Machine.execRelockFail s
  | .zoneSettled head => Sys2Proof.Machine.execZoneSettled head s
  | .sectorArrival head off => Sys2Proof.Machine.execSectorArrival head off s
  | .syncDecision head hard => Sys2Proof.Machine.execSyncDecision head hard s
  | .llrCaptureComplete head front => Sys2Proof.Machine.execLlrCaptureComplete head front s
  | .streamDecodeStart => Sys2Proof.Machine.execStreamDecodeStart s
  | .streamDecodeEnd dec codeword iters => Sys2Proof.Machine.execStreamDecodeEnd dec codeword iters s
  | .deepDecodeStart => Sys2Proof.Machine.execDeepDecodeStart s
  | .deepDecodeEnd dec codeword iters => Sys2Proof.Machine.execDeepDecodeEnd dec codeword iters s
  | .decoderHang dec => Sys2Proof.Machine.execDecoderHang dec s
  | .ldpcDecoderReset path dec value => Sys2Proof.Machine.execLdpcDecoderReset path dec value s
  | .chReload path head value => Sys2Proof.Machine.execChReload path head value s
  | .chCounterClear path head value => Sys2Proof.Machine.execChCounterClear path head value s
  | .chWrCounterClear path head value => Sys2Proof.Machine.execChWrCounterClear path head value s
  | .writeRunStart head lead => Sys2Proof.Machine.execWriteRunStart head lead s
  | .writeGateOpen head off => Sys2Proof.Machine.execWriteGateOpen head off s
  | .writeRunEnd head => Sys2Proof.Machine.execWriteRunEnd head s
  | .sectorCountedWritten head => Sys2Proof.Machine.execSectorCountedWritten head s
  | .microwordIssue a => Sys2Proof.Machine.execMicrowordIssue a s
  | .opCont a word => Sys2Proof.Machine.execOpCont a word s
  | .opJump a word => Sys2Proof.Machine.execOpJump a word s
  | .opBr a word => Sys2Proof.Machine.execOpBr a word s
  | .opCall a word => Sys2Proof.Machine.execOpCall a word s
  | .brcall a word => Sys2Proof.Machine.execBrcall a word s
  | .opRet a word => Sys2Proof.Machine.execOpRet a word s
  | .brret a word => Sys2Proof.Machine.execBrret a word s
  | .opDisp a word => Sys2Proof.Machine.execOpDisp a word s
  | .opLoop a word => Sys2Proof.Machine.execOpLoop a word s
  | .opWait a word => Sys2Proof.Machine.execOpWait a word s
  | .waitConditionMet a => Sys2Proof.Machine.execWaitConditionMet a s
  | .waitTimeout a => Sys2Proof.Machine.execWaitTimeout a s
  | .opHalt a word => Sys2Proof.Machine.execOpHalt a word s
  | .opMov a word => Sys2Proof.Machine.execOpMov a word s
  | .opAdd a word => Sys2Proof.Machine.execOpAdd a word s
  | .opSub a word => Sys2Proof.Machine.execOpSub a word s
  | .opAnd a word => Sys2Proof.Machine.execOpAnd a word s
  | .opOr a word => Sys2Proof.Machine.execOpOr a word s
  | .opXor a word => Sys2Proof.Machine.execOpXor a word s
  | .opShl a word => Sys2Proof.Machine.execOpShl a word s
  | .opShr a word => Sys2Proof.Machine.execOpShr a word s
  | .opCmp a word => Sys2Proof.Machine.execOpCmp a word s
  | .ldlc a word => Sys2Proof.Machine.execLdlc a word s
  | .ldhs a word => Sys2Proof.Machine.execLdhs a word s
  | .taskPop a word => Sys2Proof.Machine.execTaskPop a word s
  | .donePush a word => Sys2Proof.Machine.execDonePush a word s
  | .armRead a word => Sys2Proof.Machine.execArmRead a word s
  | .armWrite a word => Sys2Proof.Machine.execArmWrite a word s
  | .armVerify a word => Sys2Proof.Machine.execArmVerify a word s
  | .opAbandon a word => Sys2Proof.Machine.execOpAbandon a word s
  | .loadZone a word => Sys2Proof.Machine.execLoadZone a word s
  | .opSelect a word => Sys2Proof.Machine.execOpSelect a word s
  | .opSeek a word => Sys2Proof.Machine.execOpSeek a word s
  | .opTarget a word => Sys2Proof.Machine.execOpTarget a word s
  | .defLookup a word => Sys2Proof.Machine.execDefLookup a word s
  | .rptPop a word => Sys2Proof.Machine.execRptPop a word s
  | .seqEnable path a value => Sys2Proof.Machine.execSeqEnable path a value s
  | .seqPause path a value => Sys2Proof.Machine.execSeqPause path a value s
  | .seqResume path a value => Sys2Proof.Machine.execSeqResume path a value s
  | .seqAttn path a value => Sys2Proof.Machine.execSeqAttn path a value s
  | .defSwap path a value => Sys2Proof.Machine.execDefSwap path a value s
  | .wpTimeout a => Sys2Proof.Machine.execWpTimeout a s
  | .servoSample head obs => Sys2Proof.Machine.execServoSample head obs s
  | .ontrkSet head => Sys2Proof.Machine.execOntrkSet head s
  | .followError loop => Sys2Proof.Machine.execFollowError loop s
  | .servoLost a => Sys2Proof.Machine.execServoLost a s
  | .actuatorEnable path value => Sys2Proof.Machine.execActuatorEnable path value s
  | .actuatorLoad path a value => Sys2Proof.Machine.execActuatorLoad path a value s
  | .actuatorUnload path a value => Sys2Proof.Machine.execActuatorUnload path a value s
  | .actuatorRetract path a value => Sys2Proof.Machine.execActuatorRetract path a value s
  | .actuatorHold path a value => Sys2Proof.Machine.execActuatorHold path a value s
  | .loadFail a => Sys2Proof.Machine.execLoadFail a s
  | .seekTimeout a => Sys2Proof.Machine.execSeekTimeout a s
  | .rampStopReached a => Sys2Proof.Machine.execRampStopReached a s
  | .retractDone a => Sys2Proof.Machine.execRetractDone a s
  | .gustFrame port frame => Sys2Proof.Machine.execGustFrame port frame s
  | .gustTrip port => Sys2Proof.Machine.execGustTrip port s
  | .gustTripClear port => Sys2Proof.Machine.execGustTripClear port s
  | .gustFrameTimeout port => Sys2Proof.Machine.execGustFrameTimeout port s
  | .gustCrcLoss port => Sys2Proof.Machine.execGustCrcLoss port s
  | .bridleFrameSend a ch => Sys2Proof.Machine.execBridleFrameSend a ch s
  | .bridleReply a frame => Sys2Proof.Machine.execBridleReply a frame s
  | .bridleRefresh a => Sys2Proof.Machine.execBridleRefresh a s
  | .bridleLinkDown a => Sys2Proof.Machine.execBridleLinkDown a s
  | .bridleLinkUp a => Sys2Proof.Machine.execBridleLinkUp a s
  | .vcmCurrentSample a bits => Sys2Proof.Machine.execVcmCurrentSample a bits s
  | .vcmOvercurrent a => Sys2Proof.Machine.execVcmOvercurrent a s
  | .vcmBridgeFault a low => Sys2Proof.Machine.execVcmBridgeFault a low s
  | .cleJobStart => Sys2Proof.Machine.execCleJobStart s
  | .cleJobEnd lane => Sys2Proof.Machine.execCleJobEnd lane s
  | .cleJobOverrun loop => Sys2Proof.Machine.execCleJobOverrun loop s
  | .cleLoopRestart path loop value => Sys2Proof.Machine.execCleLoopRestart path loop value s
  | .cleLoopDisable path loop value => Sys2Proof.Machine.execCleLoopDisable path loop value s
  | .cleLoopCounterClear path loop value => Sys2Proof.Machine.execCleLoopCounterClear path loop value s
  | .cleCommit path value => Sys2Proof.Machine.execCleCommit path value s
  | .cleCommitCopy => Sys2Proof.Machine.execCleCommitCopy s
  | .cleInjectionEnable path value => Sys2Proof.Machine.execCleInjectionEnable path value s
  | .cleCaptureArm path value => Sys2Proof.Machine.execCleCaptureArm path value s
  | .spnCurrentSample obs => Sys2Proof.Machine.execSpnCurrentSample obs s
  | .spnFastBusSample bits balIs supok => Sys2Proof.Machine.execSpnFastBusSample bits balIs supok s
  | .spnPwmPeriod => Sys2Proof.Machine.execSpnPwmPeriod s
  | .spnStart path value => Sys2Proof.Machine.execSpnStart path value s
  | .spnBrake path value => Sys2Proof.Machine.execSpnBrake path value s
  | .spnCoast path value => Sys2Proof.Machine.execSpnCoast path value s
  | .spnDisable path value => Sys2Proof.Machine.execSpnDisable path value s
  | .spnTargetWrite path value => Sys2Proof.Machine.execSpnTargetWrite path value s
  | .spnListenEnd => Sys2Proof.Machine.execSpnListenEnd s
  | .spnAlignEnd => Sys2Proof.Machine.execSpnAlignEnd s
  | .spnRampTimeout => Sys2Proof.Machine.execSpnRampTimeout s
  | .spnRetryCoastEnd => Sys2Proof.Machine.execSpnRetryCoastEnd s
  | .obsLock => Sys2Proof.Machine.execObsLock s
  | .obsLoss => Sys2Proof.Machine.execObsLoss s
  | .angDisagree => Sys2Proof.Machine.execAngDisagree s
  | .spnAtSpeed => Sys2Proof.Machine.execSpnAtSpeed s
  | .spnRestReached => Sys2Proof.Machine.execSpnRestReached s
  | .catchPresetEnd => Sys2Proof.Machine.execCatchPresetEnd s
  | .catchFail => Sys2Proof.Machine.execCatchFail s
  | .spnStageFault low => Sys2Proof.Machine.execSpnStageFault low s
  | .balFlt => Sys2Proof.Machine.execBalFlt s
  | .balStuck => Sys2Proof.Machine.execBalStuck s
  | .ov => Sys2Proof.Machine.execOv s
  | .ovRecovery => Sys2Proof.Machine.execOvRecovery s
  | .supplyLoss => Sys2Proof.Machine.execSupplyLoss s
  | .plossEnd => Sys2Proof.Machine.execPlossEnd s
  | .supplyRecoveryReset => Sys2Proof.Machine.execSupplyRecoveryReset s
  | .spdrefBad signal => Sys2Proof.Machine.execSpdrefBad s signal
  | .spdrefGood signal => Sys2Proof.Machine.execSpdrefGood signal s
  | .spdrefSyncLock err => Sys2Proof.Machine.execSpdrefSyncLock err s
  | .memTrainingDone agree ok0 ok1 ok2 size ranks2 => Sys2Proof.Machine.execMemTrainingDone agree ok0 ok1 ok2 size ranks2 s
  | .memSrefEntry => Sys2Proof.Machine.execMemSrefEntry s
  | .depotEnable path value => Sys2Proof.Machine.execDepotEnable path value s
  | .opAlloc port tag tag2 size climb => Sys2Proof.Machine.execOpAlloc port tag tag2 size climb s
  | .opShare port tag handle tag2 => Sys2Proof.Machine.execOpShare port tag handle tag2 s
  | .opRelease port tag handle => Sys2Proof.Machine.execOpRelease port tag handle s
  | .opFree port tag handle => Sys2Proof.Machine.execOpFree port tag handle s
  | .opPass port tag handle tag2 => Sys2Proof.Machine.execOpPass port tag handle tag2 s
  | .opMark port tag handle inv => Sys2Proof.Machine.execOpMark port tag handle inv s
  | .opQuery port tag handle => Sys2Proof.Machine.execOpQuery port tag handle s
  | .opRetire port tag handle => Sys2Proof.Machine.execOpRetire port tag handle s
  | .opInit port tag pool => Sys2Proof.Machine.execOpInit port tag pool s
  | .depotCacheRefill pool => Sys2Proof.Machine.execDepotCacheRefill pool s
  | .depotBufferAccess tag handle ofs len data => Sys2Proof.Machine.execDepotBufferAccess tag handle ofs len data s
  | .depotRebuildDone => Sys2Proof.Machine.execDepotRebuildDone s
  | .poolExhausted slot => Sys2Proof.Machine.execPoolExhausted slot s
  | .convoyStart path e c value => Sys2Proof.Machine.execConvoyStart path e c value s
  | .convoyStop path e c value => Sys2Proof.Machine.execConvoyStop path e c value s
  | .convoyChannelEnable path e c value => Sys2Proof.Machine.execConvoyChannelEnable path e c value s
  | .convoyDoorbell path e c value => Sys2Proof.Machine.execConvoyDoorbell path e c value s
  | .convoyGrant e => Sys2Proof.Machine.execConvoyGrant e s
  | .descriptorFetched e => Sys2Proof.Machine.execDescriptorFetched e s
  | .transferArrived e host => Sys2Proof.Machine.execTransferArrived e host s
  | .convoyBusError e c stage cause done => Sys2Proof.Machine.execConvoyBusError e c stage cause done s
  | .convoyRetry e c => Sys2Proof.Machine.execConvoyRetry e c s
  | .statusWritebackDone e => Sys2Proof.Machine.execStatusWritebackDone e s
  | .ownershipClearDone e => Sys2Proof.Machine.execOwnershipClearDone e s
  | .linkRereadDone e c => Sys2Proof.Machine.execLinkRereadDone e c s
  | .convoyEngineHang e => Sys2Proof.Machine.execConvoyEngineHang e s
  | .createIoCq slot => Sys2Proof.Machine.execCreateIoCq slot s
  | .createIoSq slot => Sys2Proof.Machine.execCreateIoSq slot s
  | .deleteIoCq slot => Sys2Proof.Machine.execDeleteIoCq slot s
  | .deleteIoSq slot => Sys2Proof.Machine.execDeleteIoSq slot s
  | .getLogPage slot xfer => Sys2Proof.Machine.execGetLogPage slot xfer s
  | .identify slot xfer => Sys2Proof.Machine.execIdentify slot xfer s
  | .opAbort slot => Sys2Proof.Machine.execOpAbort slot s
  | .setFeatures slot xfer => Sys2Proof.Machine.execSetFeatures slot xfer s
  | .getFeatures slot xfer => Sys2Proof.Machine.execGetFeatures slot xfer s
  | .setFeaturesPowerMgmt slot => Sys2Proof.Machine.execSetFeaturesPowerMgmt slot s
  | .setFeaturesNumberOfQueues slot => Sys2Proof.Machine.execSetFeaturesNumberOfQueues slot s
  | .setFeaturesSpinupControl slot => Sys2Proof.Machine.execSetFeaturesSpinupControl slot s
  | .setFeaturesQueueOrder slot => Sys2Proof.Machine.execSetFeaturesQueueOrder slot s
  | .setFeaturesCompletionStamp slot => Sys2Proof.Machine.execSetFeaturesCompletionStamp slot s
  | .setFeaturesCompressionLevel slot => Sys2Proof.Machine.execSetFeaturesCompressionLevel slot s
  | .asyncEventRequest slot => Sys2Proof.Machine.execAsyncEventRequest slot s
  | .namespaceManagement slot xfer => Sys2Proof.Machine.execNamespaceManagement slot xfer s
  | .namespaceAttachment slot xfer => Sys2Proof.Machine.execNamespaceAttachment slot xfer s
  | .firmwareImageDownload slot xfer => Sys2Proof.Machine.execFirmwareImageDownload slot xfer s
  | .firmwareCommit slot => Sys2Proof.Machine.execFirmwareCommit slot s
  | .firmwareActivation => Sys2Proof.Machine.execFirmwareActivation s
  | .activationTimeout => Sys2Proof.Machine.execActivationTimeout s
  | .deviceSelfTest slot ended => Sys2Proof.Machine.execDeviceSelfTest slot ended s
  | .directiveSend slot xfer => Sys2Proof.Machine.execDirectiveSend slot xfer s
  | .directiveReceive slot xfer => Sys2Proof.Machine.execDirectiveReceive slot xfer s
  | .unlockChallenge slot => Sys2Proof.Machine.execUnlockChallenge slot s
  | .unlockResponse slot xfer => Sys2Proof.Machine.execUnlockResponse slot xfer s
  | .unlockAttemptExpiry port => Sys2Proof.Machine.execUnlockAttemptExpiry port s
  | .lockoutEnd port => Sys2Proof.Machine.execLockoutEnd port s
  | .unlockTimeout port => Sys2Proof.Machine.execUnlockTimeout port s
  | .hostLock path value => Sys2Proof.Machine.execHostLock path value s
  | .dbgLock path value => Sys2Proof.Machine.execDbgLock path value s
  | .opFlush slot => Sys2Proof.Machine.execOpFlush slot s
  | .opWrite slot => Sys2Proof.Machine.execOpWrite slot s
  | .writeEffect slot xfer => Sys2Proof.Machine.execWriteEffect slot xfer s
  | .opRead slot xfer med => Sys2Proof.Machine.execOpRead slot xfer med s
  | .writeZeroes slot => Sys2Proof.Machine.execWriteZeroes slot s
  | .datasetManagement slot xfer => Sys2Proof.Machine.execDatasetManagement slot xfer s
  | .opVerify slot pi med => Sys2Proof.Machine.execOpVerify slot pi med s
  | .reservationRegister slot xfer => Sys2Proof.Machine.execReservationRegister slot xfer s
  | .reservationReport slot xfer => Sys2Proof.Machine.execReservationReport slot xfer s
  | .reservationAcquire slot xfer => Sys2Proof.Machine.execReservationAcquire slot xfer s
  | .reservationRelease slot xfer => Sys2Proof.Machine.execReservationRelease slot xfer s
  | .sqTailDoorbell ctrl y value => Sys2Proof.Machine.execSqTailDoorbell ctrl y value s
  | .cqHeadDoorbell ctrl y value => Sys2Proof.Machine.execCqHeadDoorbell ctrl y value s
  | .completionPost slot => Sys2Proof.Machine.execCompletionPost slot s
  | .destageStart => Sys2Proof.Machine.execDestageStart s
  | .discardedByFault unit slots => Sys2Proof.Machine.execDiscardedByFault unit slots s
  | .smbusBasicMgmtRead code pec => Sys2Proof.Machine.execSmbusBasicMgmtRead code pec s
  | .smbusLedgerOffset bytes pec => Sys2Proof.Machine.execSmbusLedgerOffset bytes pec s
  | .smbusLedgerRead pec => Sys2Proof.Machine.execSmbusLedgerRead pec s
  | .smbusLedgerStatus pec => Sys2Proof.Machine.execSmbusLedgerStatus pec s
  | .lookupLba port tag ns lba => Sys2Proof.Machine.execLookupLba port tag ns lba s
  | .lookupIdx port tag index => Sys2Proof.Machine.execLookupIdx port tag index s
  | .opUpdate port tag index old new since => Sys2Proof.Machine.execOpUpdate port tag index old new since s
  | .compressorGo path lane value => Sys2Proof.Machine.execCompressorGo path lane value s
  | .compressorResume path lane value => Sys2Proof.Machine.execCompressorResume path lane value s
  | .compressorAbort path lane value => Sys2Proof.Machine.execCompressorAbort path lane value s
  | .outFull lane => Sys2Proof.Machine.execOutFull lane s
  | .compressionEnd lane => Sys2Proof.Machine.execCompressionEnd lane s
  | .decompressorGo path lane value => Sys2Proof.Machine.execDecompressorGo path lane value s
  | .decompressorAbort path lane value => Sys2Proof.Machine.execDecompressorAbort path lane value s
  | .decompressionEnd lane => Sys2Proof.Machine.execDecompressionEnd lane s
  | .cmpLaneHang comp lane => Sys2Proof.Machine.execCmpLaneHang comp lane s
  | .reclaim => Sys2Proof.Machine.execReclaim s
  | .journalCheckpoint => Sys2Proof.Machine.execJournalCheckpoint s
  | .routeTableLoad => Sys2Proof.Machine.execRouteTableLoad s
  | .scrubRewrite entry => Sys2Proof.Machine.execScrubRewrite entry s
  | .patrolScrubStep word upset => Sys2Proof.Machine.execPatrolScrubStep word upset s
  | .sramWalkerRead array inst word upset => Sys2Proof.Machine.execSramWalkerRead array inst word upset s
  | .hardErrorAction entry => Sys2Proof.Machine.execHardErrorAction entry s
  | .clogFree path value => Sys2Proof.Machine.execClogFree path value s
  | .errorInjectionArm path value => Sys2Proof.Machine.execErrorInjectionArm path value s
  | .faultUnmask path addr value => Sys2Proof.Machine.execFaultUnmask path addr value s
  | .faultStatusClear path addr value => Sys2Proof.Machine.execFaultStatusClear path addr value s
  | .attnRelease => Sys2Proof.Machine.execAttnRelease s
  | .containRequest path value => Sys2Proof.Machine.execContainRequest path value s
  | .containmentResetEnd unit => Sys2Proof.Machine.execContainmentResetEnd unit s
  | .mismatch pair => Sys2Proof.Machine.execMismatch pair s
  | .opWdog => Sys2Proof.Machine.execOpWdog s
  | .watchdogKick path value => Sys2Proof.Machine.execWatchdogKick path value s
  | .switchoverReconciled => Sys2Proof.Machine.execSwitchoverReconciled s
  | .pairSelfTestDone pair pass => Sys2Proof.Machine.execPairSelfTestDone pair pass s
  | .limpRetractTimeout a => Sys2Proof.Machine.execLimpRetractTimeout a s
  | .ldgRaise path value => Sys2Proof.Machine.execLdgRaise path value s
  | .ledgerProgramDone => Sys2Proof.Machine.execLedgerProgramDone s
  | .ledgerProgramFail => Sys2Proof.Machine.execLedgerProgramFail s
  | .ledgerEraseDone ok => Sys2Proof.Machine.execLedgerEraseDone ok s
  | .ledgerScanDone => Sys2Proof.Machine.execLedgerScanDone s
  | .opHours => Sys2Proof.Machine.execOpHours s
  | .suppSummary => Sys2Proof.Machine.execSuppSummary s
  | .tokenRefill => Sys2Proof.Machine.execTokenRefill s
  | .bootRecordRead fuseOk => Sys2Proof.Machine.execBootRecordRead fuseOk s
  | .manifestStreamed => Sys2Proof.Machine.execManifestStreamed s
  | .firmwareStreamed => Sys2Proof.Machine.execFirmwareStreamed s
  | .patchLoad => Sys2Proof.Machine.execPatchLoad s
  | .manifestAuthentication => Sys2Proof.Machine.execManifestAuthentication s
  | .bootExit fuseOk => Sys2Proof.Machine.execBootExit fuseOk s
  | .extest => Sys2Proof.Machine.execExtest s
  | .samplePreload => Sys2Proof.Machine.execSamplePreload s
  | .idcode => Sys2Proof.Machine.execIdcode s
  | .unlockCh method => Sys2Proof.Machine.execUnlockCh method s
  | .unlockRsp numd data => Sys2Proof.Machine.execUnlockRsp numd data s
  | .crsAddr addr write => Sys2Proof.Machine.execCrsAddr addr write s
  | .crsData data => Sys2Proof.Machine.execCrsData data s
  | .secStatus => Sys2Proof.Machine.execSecStatus s
  | .bypass => Sys2Proof.Machine.execBypass s
  | .dlkEnable path a value => Sys2Proof.Machine.execDlkEnable path a value s
  | .dlkFrameSend a => Sys2Proof.Machine.execDlkFrameSend a s
  | .dlkReply a symbols => Sys2Proof.Machine.execDlkReply a symbols s
  | .dlkExchangeTimeout a => Sys2Proof.Machine.execDlkExchangeTimeout a s
  | .dlkLinkDown a symbols => Sys2Proof.Machine.execDlkLinkDown a s symbols
  | .dlkAlignStart a => Sys2Proof.Machine.execDlkAlignStart a s
  | .dlkAligned a symbols => Sys2Proof.Machine.execDlkAligned a s symbols
  | .dlkTrainTimeout a => Sys2Proof.Machine.execDlkTrainTimeout a s
  | .dlkPing a => Sys2Proof.Machine.execDlkPing a s
  | .dlkFaultLine a low => Sys2Proof.Machine.execDlkFaultLine a low s
  | .armMiss head => Sys2Proof.Machine.execArmMiss head s
  | .dlkRselWrite path a value => Sys2Proof.Machine.execDlkRselWrite path a value s
  | .dlkPregRead path a value => Sys2Proof.Machine.execDlkPregRead path a value s
  | .dlkPregWrite path a value => Sys2Proof.Machine.execDlkPregWrite path a value s
  | .gpioOutWrite path value => Sys2Proof.Machine.execGpioOutWrite path value s
  | .gatedUnitRead path addr => Sys2Proof.Machine.execGatedUnitRead path addr s
  | .defLookupDone a => Sys2Proof.Machine.execDefLookupDone a s
  | .mr4RefreshRead derated => Sys2Proof.Machine.execMr4RefreshRead derated s
  | .pcieLinkUp port speed width recoveries => Sys2Proof.Machine.execPcieLinkUp port speed width recoveries s
  | .aerUncorrectable port => Sys2Proof.Machine.execAerUncorrectable port s

end Sys2Proof.Machine
end

