-- ==== Sys2Proof/Machine/Step.lean ====
section
/-!
DEFINITION. One step of the part: the command at the front of the queue, or one fabric cycle of time.
-/

namespace Sys2Proof.Machine

open Sys2Proof

/-- One fabric cycle without a command: the time base counts 1 ns once power is good (R29). -/
def State.tick (s : State) : State := if s.sys.powerGood then { s with now := s.now + 1 } else s

/-- A step takes the command at the front of the queue; with no command waiting a fabric cycle passes. -/
def step (s : State) : Host.Outcome State Fault Refusal :=
  match s.pending with
  | [] => .next s.tick
  | c :: rest => exec c { s with pending := rest }

/-- A word of the opcode table spells a command only where the table gives its row bits. -/
def State.withFetchWord (s : State) (nbits w : Nat) : State :=
  match decodeTableWord nbits w with
  | some c => { s with pending := c :: s.pending }
  | none => s

end Sys2Proof.Machine
end

