-- ==== Sys2Proof/Safety.lean ====
section
/-!
DEFINITION. What claims say of a state and of a command: the canonical form of the sparse stores, a state in which nothing
waits to be acted on, a write that its register takes, and how a command with a given effect answers.
-/

namespace Sys2Proof.Machine

open Sys2Proof

/-- A byte memory whose unlisted bytes read as `d` is in its canonical form (R250, Table 17-1). -/
def Memory.wf (d : Byte) (m : List (Nat × Byte)) : Bool := amWf (fun _ => d) m

/-- The register file, buffer memory, the on-chip data memory and the serial NOR are in their canonical form. -/
def State.canon (s : State) : Bool :=
  amWf regReset s.crs && Memory.wf 0 s.mem && Memory.wf 0 s.dataMem && Memory.wf 0xFF s.nor

/-- No fault action, no report of the medium side, no target and no seek waits to be acted on, and wedge timing is not in
use. -/
def State.calm (s : State) : Bool :=
  s.quiet && !s.srv.heads.any (fun x => x.pendTrack.isSome || x.pendOfs.isSome)
    && !s.srv.acts.any (fun x => x.pendSeek.isSome) && decide (s.tthState < 5)

/-- The state in which a command given in `s` with the effect `u` ends: the fault actions and reports that `u` left are taken
(R387), and the commands that waited still wait. -/
def State.after (s u : State) : State := { u.settle with pending := s.pending }

/-- The command `c`, given in `s`, answers a next state: that of its effect `u`. Where `u` leaves nothing to be acted on, the
next state is `u` itself, with the queue of `s`. -/
def Answers (c : Instr) (s u : State) : Prop :=
  exec c s = .next (s.after u) ∧ (u.calm = true → exec c s = .next { u with pending := s.pending })

/-- A write of `v` at `a` on path `p` is taken by the register's block: the path has the right to write, the unit is powered
and answers, and the block does not discard the write in this state (R21, R22). -/
def State.takes (s : State) (p : Path) (a : Nat) (v : Word) : Bool :=
  s.pathReads p && s.pathWrites p && !s.gated a && !s.silent a && !s.writeBarred p a v.toNat

/-- The register at `a` stores a write of `v` on path `p` by the access codes of its fields; no block acts on it yet. -/
def State.storeReg (s : State) (p : Path) (a : Nat) (v : Word) : State :=
  match regAt a with
  | some d => s.wr a (BitVec.ofNat 32 (d.write (s.pathUnlocked p) (s.rd a).toNat (s.writeValue a (s.rd a).toNat v.toNat)))
  | none => s

/-- The half of a 64-bit pair that the register at `a` is (R17). -/
def halfAt (a : Nat) : RegHalf :=
  match regAt a with
  | some d => d.half
  | none => .single

/-- The fields of the register at `a`; the word of a table entry is stored whole and has none (R13). -/
def fieldsAt (a : Nat) : List FieldDesc :=
  match regAt a with
  | some d => if d.kind = .stored then [] else d.fields
  | none => []

/-- The bits of a field in a register value. -/
def FieldDesc.bits (f : FieldDesc) (n : Nat) : Nat := bitsOf n f.lo (f.hi + 1 - f.lo)

/-- The 32-bit word at `a` holds no register: none of the register tables, no queue window or microcode word of a sequencer,
no committed set and no capture word (R15). -/
def noRegister (a : Nat) : Bool :=
  (regAt a).isNone && (taskWindow a).isNone && (doneWindow a).isNone
    && !(decide (0x03000000 ≤ a) && decide (a < 0x03400000) && decide (0x40000 ≤ a % 0x100000) && decide (a % 0x100000 < 0x80000))
    && !(decide (0x03502000 ≤ a) && decide (a < 0x03505C00)) && !(decide (0x03510000 ≤ a) && decide (a < 0x03520000))

/-- A reservation as chapter 13 forms it: one entry for each registrant, and a holder who is a registrant and has one of the
six types. -/
def Resv.ok (r : Resv) : Bool :=
  decide (r.regs.map (·.1)).Nodup &&
  match r.holder with
  | some h => r.registered h && decide (1 ≤ r.rtype) && decide (r.rtype ≤ 6)
  | none => r.rtype == 0

/-- An RFC 1951 stream of stored blocks that holds `data`, of at most `k` blocks. -/
def storedStream : Nat → List Byte → List Byte
  | 0, _ => []
  | k + 1, data =>
    let c := data.take 65535
    let rest := data.drop 65535
    [if rest.isEmpty then 1 else 0] ++ leBytes 2 c.length ++ leBytes 2 (65535 - c.length) ++ c
      ++ (if rest.isEmpty then [] else storedStream k rest)

/-- Sequencer `a` is in RUN, out of reset and not in a WAIT, and `w` is no reserved word: it issues `w` (R151 to R153). -/
def State.issues (s : State) (a w : Nat) : Bool :=
  s.sqState a == 1 && (s.sq a).wait.isNone && !s.inReset (.seq a) && !mwIllegal w

/-- The end of a word of sequencer `a`: a sequencer in HALTED lets a waiting table swap take effect (R147). -/
def State.wordEnd (s : State) (a : Nat) : State := if s.sqState a = 4 then s.defSwapTry a false else s

/-- The present address of sequencer `a`. -/
def State.sqPc (s : State) (a : Nat) : Nat := s.get (R.SEQ_STAT_PC a)

/-- Operand B of a word (Table 6-4). -/
def State.sqB (s : State) (a w : Nat) : Nat := if mwBimm w then mwImm w else s.sqG a (mwSrcB w)

/-- A word's formatter command and next address, from the state that its ALU operation left; the condition was judged in
`s` (R153). -/
def State.wordRest (s t : State) (a w : Nat) : State := (((t.sqFormat a w).sqNext a (s.sqPc a) w (s.mwHolds a w))).wordEnd a

/-- Flags Z and N of a result, and flag C. -/
def State.putFlags (s : State) (a r : Nat) (c : Bool) : State := s.modSq a (fun q => { q with z := r == 0, n := bitOf r 31, c := c })

end Sys2Proof.Machine
end

