-- ==== Sys2Proof/Certificates/Slice0/Obligations.lean ====
section
/-!
DEFINITION. The statements about the model that are given to the provers.
-/

open Sys2Proof Sys2Proof.Machine

/-- CRS writes and reads end with the value, the discard or the fault that R9 to R22 give. CRS_WRITE, CRS_ACCESS_TIMEOUT,
RC_REGISTER_READ, STAMP_LO_READ, STAMP_HI_READ and GATED_UNIT_READ answer a next state. A write that the path and the
register take stores the value by the access codes of its fields and lets the block act; a write of another size,
misaligned, without the path's right, barred, or where no register lies changes nothing; a gated unit sets GATED and
its fault, a silent unit TIMEOUT and its fault, and both read as 0; a read returns the register and clears its RC
fields; a read of a low half captures the high half for its own path and a read of the high half returns the captured
one. -/
def Obligations.CrsAccessCompletes : Prop :=
  (∀ (path : Path) (addr : Nat) (value : Word) (h : (regAt addr).isSome = true) (s : State), addr % 4 = 0 → s.takes
    path addr value = true → taskWindow addr = none → (s.arrayMerge addr).1 = true → Answers (.crsWrite path addr 4
    value) s ((s.arrayMerge addr).2.regWrite path addr value.toNat ((regAt addr).get h))) ∧
  (∀ (a : Nat) (s : State), arrayKeyOf a = none → s.arrayMerge a = (true, s) ∧ s.arrayCheck a = (true, s)) ∧
  (∀ (path : Path) (addr : Nat) (value : Word) (s : State), s.takes path addr value = true → taskWindow addr = none
    → (s.arrayMerge addr).1 = false → Answers (.crsWrite path addr 4 value) s ((if addr % 4 = 0 ∧ (regAt
    addr).isSome = true then (s.arrayMerge addr).2 else s))) ∧
  (∀ (path : Path) (addr size : Nat) (value : Word) (s : State), s.gated addr = false → s.silent addr = false →
    (size ≠ 4 ∨ addr % 4 ≠ 0 ∨ s.pathWrites path = false) → Answers (.crsWrite path addr size value) s s) ∧
  (∀ (path : Path) (addr : Nat) (value : Word) (s : State), s.gated addr = false → s.silent addr = false →
    taskWindow addr = none → (s.writeBarred path addr value.toNat = true ∨ regAt addr = none) → Answers (.crsWrite
    path addr 4 value) s s) ∧
  (∀ (path : Path) (addr size : Nat) (value : Word) (s : State), s.pathReads path = true → s.gated addr = true →
    Answers (.crsWrite path addr size value) s (((s.set R.SYS_CRS_STAT_LAST_ADDR (addr / 65536)).setFlag
    R.SYS_CRS_STAT_GATED true).fault .sys 2)) ∧
  (∀ (path : Path) (addr : Nat) (s : State), s.pathReads path = true → s.gated addr = false → s.silent addr = true →
    Answers (.crsAccessTimeout path addr true) s (((s.set R.SYS_CRS_STAT_LAST_ADDR (addr / 65536)).setFlag
    R.SYS_CRS_STAT_TIMEOUT true).fault .sys 3)) ∧
  (∀ (path : Path) (addr : Nat) (s : State), s.pathReads path = true → s.gated addr = false → s.silent addr = true →
    Answers (.crsAccessTimeout path addr false) s
    { (((s.set R.SYS_CRS_STAT_LAST_ADDR (addr / 65536)).setFlag R.SYS_CRS_STAT_TIMEOUT true).fault .sys 3) with rdOut := some (path, 0) }) ∧
  (∀ (path : Path) (addr : Nat) (h : (regAt addr).isSome = true) (s : State), addr % 4 = 0 → s.pathReads path = true
    → s.gated addr = false → s.silent addr = false → ((regAt addr).get h).half = .single → ((regAt addr).get
    h).hasRc = true → arrayKeyOf addr = none → s.readWord addr = ((s.rd addr).toNat, s) → Answers (.rcRegisterRead
    path addr 4) s
    { (s.wr addr (BitVec.ofNat 32 (((regAt addr).get h).clearRc (s.rd addr).toNat))) with rdOut := some (path, (s.rd addr).toNat) }) ∧
  (∀ (path : Path) (s : State), s.pathReads path = true → Answers (.stampLoRead path R.A_TTH_STAMP_LO) s
    { (s.holdSet path R.A_TTH_STAMP_LO (some (BitVec.ofNat 32 (s.now / 2 ^ 32 % 2 ^ 32)))) with rdOut := some (path, s.now % 2 ^ 32) }) ∧
  (∀ (path : Path) (w : Word) (s : State), s.pathReads path = true → s.holdOf path R.A_TTH_STAMP_LO = some w →
    Answers (.stampHiRead path R.A_TTH_STAMP_HI) s
    { (s.holdSet path R.A_TTH_STAMP_LO none) with rdOut := some (path, w.toNat) }) ∧
  (∀ (path : Path) (s : State), s.pathReads path = true → s.holdOf path R.A_TTH_STAMP_LO = none → Answers
    (.stampHiRead path R.A_TTH_STAMP_HI) s { s with rdOut := some (path, s.now / 2 ^ 32 % 2 ^ 32) }) ∧
  (∀ (path : Path) (addr : Nat) (s : State), addr % 4 = 0 → s.pathReads path = true → s.gated addr = true → Answers
    (.gatedUnitRead path addr) s
    { (((s.set R.SYS_CRS_STAT_LAST_ADDR (addr / 65536)).setFlag R.SYS_CRS_STAT_GATED true).fault .sys 2) with rdOut := some (path, 0) })

/-- Power-good, power domains, time-base copies, under-voltage and resets answer with what their rules give.
TB_ALIGN_CHECK, POWER_GOOD, POWER_DOMAIN_UP, UNDER_VOLTAGE, POWER_ON_RESET and SUPPLY_RECOVERY_RESET: a time-base copy
of a numbered domain more than 2 ns off is reloaded, named, counted and raises ALIGN_ERR, another keeps its
difference; at the first power-good the straps of GPIO0 and the levels are taken and the time base starts at 0, with
the active pair that the self-tests leave; 50 µs after the domain before it the lowest domain of PD0 to PD5 that is
off is powered; an under-voltage on a rail declares a supply loss once; the resets keep what outlives a device reset. -/
def Obligations.PowerAndTimeBaseComplete : Prop :=
  (∀ (d : Int) (s : State), 2 < d.natAbs → Answers (.tbAlignCheck [d]) s
    (((({ s with tbDrift := listSet s.tbDrift 0 0 }).set R.TTH_TB_STAT_LAST_DOM 0).bump R.TTH_TB_STAT_ERR_COUNT
    1).fault .tb 0)) ∧
  (∀ (d : Int) (s : State), d.natAbs ≤ 2 → Answers (.tbAlignCheck [d]) s
    { s with tbDrift := listSet s.tbDrift 0 d }) ∧
  (∀ (rails : List (Nat × Nat)) (gpio : Word) (s : State), railsGood rails = true → s.sys.powerGood = false →
    Answers (.powerGood gpio true true rails) s
    ((((({ ((s.modSys (fun y => { y with powerGood := true, domAt := 0 })).modFlt (fun f => { f with wdogAt := 0 })) with now := 0 }
    : State).setFlag R.HIF_CFG_X8 (bitOf gpio.toNat 0)).setFlag R.HIF_CFG_CTRL1 (!bitOf gpio.toNat 0)).set
    R.SYS_GPIO_IN_LEVEL (bitsOf gpio.toNat 0 16)))) ∧
  (∀ (rails : List (Nat × Nat)) (gpio : Word) (s : State), railsGood rails = true → s.sys.powerGood = false →
    Answers (.powerGood gpio true false rails) s (((s.startAt (bitsOf gpio.toNat 0 16) (bitOf gpio.toNat 0)).set
    R.FLT_CORE_STAT_PAIR1 3).fault .flt 1)) ∧
  (∀ (rails : List (Nat × Nat)) (gpio : Word) (pair1 : Bool) (s : State), railsGood rails = true → s.sys.powerGood =
    false → Answers (.powerGood gpio false pair1 rails) s (((((s.startAt (bitsOf gpio.toNat 0 16) (bitOf gpio.toNat
    0)).set R.FLT_CORE_STAT_PAIR1 0).set R.FLT_CORE_STAT_ACTIVE 1).set R.FLT_CORE_STAT_PAIR0 3).fault .flt 1)) ∧
  (∀ (rails : List (Nat × Nat)) (gpio : Word) (pair0 pair1 : Bool) (s : State), (railsGood rails = false ∨
    s.sys.powerGood = true) → Answers (.powerGood gpio pair0 pair1 rails) s s) ∧
  (∀ (s : State), s.sys.powerGood = true → s.sys.domAt + 50000 ≤ s.now → s.get R.SYS_PWR_STAT_PD = 7 → Answers
    .powerDomainUp s (((s.tbLoad (domainsOf 3)).orBits R.SYS_PWR_STAT_PD 8).modSys (fun y =>
    { y with domAt := s.now }))) ∧
  (∀ (s : State), s.sys.powerGood = true → s.sys.domAt + 50000 ≤ s.now → s.get R.SYS_PWR_STAT_PD = 3 → Answers
    .powerDomainUp s ((((s.tbLoad (domainsOf 2)).orBits R.SYS_PWR_STAT_PD 4).modSys (fun y =>
    { y with domAt := s.now })).set R.MEM_STAT_STATE 1)) ∧
  (∀ (s : State), s.sys.powerGood = true → s.now < s.sys.domAt + 50000 → s.get R.SYS_PWR_STAT_PD = 3 → Answers
    .powerDomainUp s s) ∧
  (∀ (rail : Fin 7) (a b : Nat) (s : State), railLow (railAt rail.val) a b = true → s.sys.powerGood = true →
    s.spn.lost = false → Answers (.underVoltage rail a b) s s.declareLoss) ∧
  (∀ (rail : Fin 7) (a b : Nat) (s : State), (railLow (railAt rail.val) a b = false ∨ s.spn.lost = true) → Answers
    (.underVoltage rail a b) s s) ∧
  (∀ (r : Rail) (a b : Nat), railLow r a b = true ↔ a < r.range.1 ∧ b < r.range.1) ∧
  (∀ (rail : Fin 7) (mv : List Nat) (s : State), railLost (railAt rail.val) mv = true → Answers (.powerOnReset rail
    mv) s s.reborn) ∧
  (∀ (rail : Fin 7) (mv : List Nat) (s : State), railLost (railAt rail.val) mv = false → Answers (.powerOnReset rail
    mv) s s) ∧
  (∀ (t : Nat) (s : State), s.spn.lost = true → s.spn.supHigh = some t → t + 100000000 ≤ s.now → (∀ a : Act,
    s.actState a.val ≤ 1) → s.ldg.queue = [] → s.ldg.job = none → Answers .supplyRecoveryReset s (([R.A_SYS_GPIO_OE,
    R.A_SYS_GPIO_OUT, R.A_SYS_GPIO_PULL, R.A_SYS_GPIO_OD] : List Nat).foldl (fun (u : State) a => u.wr a (s.rd a))
    ((s.reborn.startAt (s.get R.SYS_GPIO_IN_LEVEL) (s.flag R.HIF_CFG_X8)).set R.TTH_TB_STAT_ERR_COUNT (s.get
    R.TTH_TB_STAT_ERR_COUNT))))

/-- The commands of the device modes answer with the step, the target or the release that chapter 2 gives.
MODE_TRANSITION_TRIGGER, MODE_STEP_COMPLETE, JUNCTION_TEMP_READ, ENV_SENSOR_POLL, TEMPERATURE_CAP_RELEASE,
ONDEMAND_TIMEOUT, AUTONOMOUS_PS_TRANSITION, SPINUP_TIMEOUT, ACTUATOR_LOAD_START and LIMP_RETRACT_TIMEOUT: under the
conditions of chapter 2 the transition is asked for, its step ends and the next begins, a cool reading is stored, the
temperature cap goes after 10 s, on-demand service and an idle power state end, a spin-up of 25 s is given up, and the
next actuator is loaded 200 ms after the one before it. -/
def Obligations.ModeCommandsComplete : Prop :=
  (∀ (s : State), s.mode = mPARKED → s.busy = false → s.get R.SYS_MODE_REASON = 0x0D → Answers
    (.modeTransitionTrigger .policy) s (s.retarget 0x06 5 s.now)) ∧
  (∀ (s : State), s.flag R.SEC_STAT_HOST_UNLOCKED = false → s.mode = mWORKSHOP → s.target = mWORKSHOP → s.spnState =
    0 → Answers (.modeTransitionTrigger .pathLocked) s ((s.modSys (fun y => { y with opMode := mPARKED })).modeGo
    mPARKED 9 4 s.now)) ∧
  (∀ (s : State), s.flag R.SEC_STAT_HOST_UNLOCKED = false → s.mode = mWORKSHOP → s.target = mWORKSHOP → s.spnState ≠
    0 → Answers (.modeTransitionTrigger .pathLocked) s ((s.modSys (fun y => { y with opMode := mIDLE })).modeGo
    mIDLE 9 4 s.now)) ∧
  (∀ (p : ModeStep) (s : State), s.sys.limp = none → s.sys.step = some p → s.stepOver p = true → Answers
    .modeStepComplete s ((s.modSys (fun y => { y with step := none })).modeRun)) ∧
  (∀ (s : State), s.sys.limp = none → s.sys.step = none → Answers .modeStepComplete s s.modeRun) ∧
  (∀ (s : State), s.modeRun = ((s.modeAdvance 6).modeLater).heldWake) ∧
  (∀ (s : State), s.sys.limp = none → s.sys.step = none → s.busy = true → s.mode = s.target → s.modeAdvance 6 =
    (s.setFlag R.SYS_MODE_STAMP_HI_BUSY false).modSys (fun y => { y with prec := 9, limp := none })) ∧
  (∀ (tj : Nat) (s : State), tj ≤ 255 → Answers (.junctionTempRead tj) s (State.smartEvents s ((s.set R.SYS_TEMP_TJ
    tj).tempCheck))) ∧
  (∀ (readings : List (Option Int)) (s : State), s.sys.booted = false → Answers (.envSensorPoll readings) s
    (State.smartEvents s s)) ∧
  (∀ (readings : List (Option Int)) (v : Int) (r : List Int) (s : State), s.sys.booted = true → (s.envReads
    readings).envGood = v :: r → Answers (.envSensorPoll readings) s (State.smartEvents s ((((s.envReads
    readings).setInt R.SYS_TEMP_ENV (r.foldl max v)).setFlag R.SYS_TEMP_ENV_VALID true).tempCheck))) ∧
  (∀ (readings : List (Option Int)) (s : State), s.sys.booted = true → (s.envReads readings).envGood = [] → Answers
    (.envSensorPoll readings) s (State.smartEvents s (((s.envReads readings).setFlag R.SYS_TEMP_ENV_VALID
    false).tempCheck))) ∧
  (∀ (i : Fin 4) (x : Int) (s : State), s.envEn i.val = true → s.envRead i.val (some x) = s.modSys (fun y =>
    { y with envMiss := y.envMiss.set i.val 0, envVal := y.envVal.set i.val (some (clampI (-128) 127 x, s.now)) })) ∧
  (∀ (i : Fin 4) (s : State), s.envEn i.val = true → s.sys.envMiss[i.val]? = some 2 → s.envRead i.val none =
    ((s.modSys (fun y => { y with envMiss := y.envMiss.set i.val 3 })).ldgProtocol 11 i.val).fault .sys 0) ∧
  (∀ (t : Nat) (s : State), s.sys.coolAt = some t → s.flag R.SYS_TEMP_HOT = true → t + 10000000000 ≤ s.now → Answers
    .temperatureCapRelease s (((s.setFlag R.SYS_TEMP_HOT false).modSys (fun y => { y with capTemp := 0 })).capShow)) ∧
  (∀ (s : State), s.sys.onDemand = true → s.get R.SYS_MODE_POLICY_ONDEMAND_RET = 0 → s.sys.lastIo + 2000000000 ≤
    s.now → s.hif.slots = [] → Answers .ondemandTimeout s (s.retarget 0x0B 4 s.now)) ∧
  (∀ (s : State), s.sys.onDemand = true → s.get R.SYS_MODE_POLICY_ONDEMAND_RET ≠ 0 → s.sys.lastIo + s.get
    R.SYS_MODE_POLICY_ONDEMAND_RET * 100000000 ≤ s.now → s.hif.slots = [] → Answers .ondemandTimeout s (s.retarget
    0x0B 4 s.now)) ∧
  (∀ (n : Ctrl) (t ps : Nat) (s : State), bitOf (cnt (s.ctl n.val).feats 0x0C) 0 = true → s.mode ≠ mWORKSHOP →
    s.target ≠ mWORKSHOP → s.limping = false → s.hif.slots = [] → (s.ctl n.val).apst[s.sys.ps]? = some (t, ps) → t ≠
    0 → s.sys.ps < ps → ps ≤ 3 → s.sys.lastIo + t * 1000000 ≤ s.now → Answers (.autonomousPsTransition n) s
    ((s.modSys (fun y => { y with ps := ps, lastOp := (if ps ≤ 1 then ps else y.lastOp) })).retarget 3 4 s.now)) ∧
  (∀ (s : State), s.mode = mSPINUP → s.sys.limp = none → s.sys.spinAt + 25000000000 ≤ s.now → s.flag
    R.SPN_STAT_AT_SPEED = false → s.hif.slots = [] → Answers .spinupTimeout s (((((((((s.lifeCount
    1).spnBrake).modSpn (fun x => { x with retryAt := none })).modSys (fun y =>
    { y with step := none, onDemand := false })).set R.SYS_MODE_TARGET mPARKED).set R.SYS_MODE_REASON 8).setFlag
    R.SYS_MODE_STAMP_HI_BUSY true)).modeRun)) ∧
  (∀ (s : State), s.mode ≠ mSPINUP → s.spn.renewed = true → 1 ≤ s.spnState → s.spnState ≤ 3 → s.spn.alignAt +
    25000000000 ≤ s.now → Answers .spinupTimeout s ((s.spnBrake.fault .spn 2).modSpn (fun x =>
    { x with retryAt := none, renewed := false }))) ∧
  (∀ (a : Act) (r : List Nat) (s : State), s.sys.loadAt + 200000000 ≤ s.now → s.sys.step = some (.loads (a.val ::
    r)) → (∀ b ∈ a.val :: r, modeUses s.target b = true) → Answers .actuatorLoadStart s ((s.actLoad a.val).modSys
    (fun y => { y with step := some (.loads r), loadAt := s.now }))) ∧
  (∀ (a : Act) (r : List Nat) (s : State), s.sys.loadAt + 200000000 ≤ s.now → s.sys.step = some (.unloads (a.val ::
    r)) → s.sys.limp = none → Answers .actuatorLoadStart s ((s.actUnload a.val).modSys (fun y =>
    { y with step := some (.unloads r), loadAt := s.now, unloadAt := y.unloadAt.set a.val (some s.now) }))) ∧
  (∀ (s : State), s.now < s.sys.loadAt + 200000000 → Answers .actuatorLoadStart s s) ∧
  (∀ (a : Act) (b : Bool) (t0 t : Nat) (s : State), s.sys.limp = some (b, t0) → s.sys.unloadAt[a.val]? = some (some
    t) → t + 300000000 ≤ s.now → 2 ≤ s.actState a.val → Answers (.limpRetractTimeout a) s ((s.actRetract
    a.val).modSys (fun y => { y with unloadAt := y.unloadAt.set a.val none })))

/-- Fault masks, status clears, containment, watchdog and core pairs answer as chapter 16 says. FAULT_UNMASK,
FAULT_STATUS_CLEAR, ATTN_RELEASE, CONTAIN_REQUEST, CONTAINMENT_RESET_END, MISMATCH, WDOG, WATCHDOG_KICK,
SWITCHOVER_RECONCILED and PAIR_SELF_TEST_DONE: a mask write stores the mask and lets newly unmasked set sources act; a
status clear clears the bits whose cause has gone; ATTN_N is released 10 µs after it was asserted once its condition
has ended; a containment request resets the named unit, and the unit is back 20 µs later; a mismatch of the active
pair and a watchdog that was not served raise their fault and switch over, a mismatch of the standby degrades it; a
write of FLT_WDOG restarts the watchdog; reconciliation ends the switchover; the old pair becomes standby or degraded
by its self-test. -/
def Obligations.FaultCommandsComplete : Prop :=
  (∀ (path : Path) (addr : Nat) (value : Word) (r : FltReg) (s : State), addr % 4 = 0 → s.takes path addr value =
    true → taskWindow addr = none → (regAt addr).isSome = true → fltOfStat addr = none → fltOfMask addr = some r →
    Answers (.faultUnmask path addr value) s ((s.storeReg path addr value).maskWrite r (s.rd addr).toNat
    ((s.storeReg path addr value).rd addr).toNat)) ∧
  (∀ (path : Path) (addr : Nat) (value : Word) (s : State), fltOfMask addr = none → Answers (.faultUnmask path addr
    value) s s) ∧
  (∀ (path : Path) (addr : Nat) (value : Word) (r : FltReg) (s : State), addr % 4 = 0 → s.takes path addr value =
    true → taskWindow addr = none → (regAt addr).isSome = true → fltOfStat addr = some r → Answers
    (.faultStatusClear path addr value) s ((s.clearFault r (value.toNat % 2 ^ r.srcBits) (s.causes r)).afterClear r
    value.toNat)) ∧
  (∀ (path : Path) (addr : Nat) (value : Word) (s : State), fltOfStat addr = none → Answers (.faultStatusClear path
    addr value) s s) ∧
  (∀ (t : Nat) (s : State), s.flt.attnAt = some t → t + 10000 ≤ s.now → s.attnCond = false → Answers .attnRelease s
    ((s.modFlt (fun f => { f with attnAt := none })).set R.FLT_ATTN_LEVEL_PIN 0)) ∧
  (∀ (t : Nat) (s : State), s.flt.attnAt = some t → (s.now < t + 10000 ∨ s.attnCond = true) → Answers .attnRelease s
    s) ∧
  (∀ (path : Path) (value : Word) (u : CUnit) (s : State), containUnit (value.toNat % 256) (value.toNat / 256 % 256)
    = some u → s.takes path R.A_FLT_CONTAIN value = true → Answers (.containRequest path value) s ((s.storeReg path
    R.A_FLT_CONTAIN value).contain u)) ∧
  (∀ (u : CUnit) (t : Nat) (s : State), s.flt.resets = [(u, t)] → s.flt.resetAgain = [] → s.now < t + 20000 →
    Answers (.containmentResetEnd u) s s) ∧
  (∀ (n : Nat) (t : Nat) (s : State), s.flt.resets = [(.dec n, t)] → s.flt.resetAgain = [] → t + 20000 ≤ s.now →
    Answers (.containmentResetEnd (.dec n)) s (((s.modFlt (fun f =>
    { f with resets := [], resetAgain := [] })).snapReturn (some (.dec n)) 0).runLost (.dec n))) ∧
  (∀ (p : Fin 2) (s : State), s.sys.powerGood = true → p.val = s.activePair → Answers (.mismatch p) s ((s.fault .flt
    3).switchover)) ∧
  (∀ (p : Fin 2) (s : State), s.sys.powerGood = true → p.val ≠ s.activePair → s.get (pairFld p.val) = 1 → Answers
    (.mismatch p) s ((s.set (pairFld p.val) 3).fault .flt 1)) ∧
  (∀ (s : State), s.sys.powerGood = true → s.flt.safeStop = false → s.flt.wdogAt + s.get R.FLT_CFG_WDOG_T * 1000 ≤
    s.now → Answers .opWdog s ((s.fault .flt 2).switchover)) ∧
  (∀ (s : State), s.now < s.flt.wdogAt + s.get R.FLT_CFG_WDOG_T * 1000 → Answers .opWdog s s) ∧
  (∀ (path : Path) (value : Word) (s : State), s.takes path R.A_FLT_WDOG value = true → Answers (.watchdogKick path
    value) s ((s.storeReg .core R.A_FLT_WDOG value).modFlt (fun f => { f with wdogAt := s.now }))) ∧
  (∀ (path : Path) (value : Word) (s : State), path ≠ .core → Answers (.watchdogKick path value) s s) ∧
  (∀ (s : State), s.flt.switching = none → Answers .switchoverReconciled s (s.flt.held.foldl (fun (t : State) a =>
    t.actHigh a) (s.modFlt (fun f => { f with held := [] })))) ∧
  (∀ (t : Nat) (s : State), s.flt.switching = some t → s.flt.held = [] → Answers .switchoverReconciled s
    (((s.discardSome.modFlt (fun f => { f with switching := none })).snapReturn none 0).modFlt (fun f =>
    { f with held := [] }))) ∧
  (∀ (p : Fin 2) (s : State), s.get (pairFld p.val) = 2 → Answers (.pairSelfTestDone p true) s (s.set (pairFld
    p.val) 1)) ∧
  (∀ (p : Fin 2) (s : State), s.get (pairFld p.val) = 2 → Answers (.pairSelfTestDone p false) s ((s.set (pairFld
    p.val) 3).fault .flt 1)) ∧
  (∀ (p : Fin 2) (pass : Bool) (s : State), s.get (pairFld p.val) ≠ 2 → Answers (.pairSelfTestDone p pass) s s)

/-- The Ledger's raise, programs, erases, scan, timers and readout answer as chapter 17 says. LDG_RAISE,
LEDGER_PROGRAM_DONE, LEDGER_PROGRAM_FAIL, LEDGER_ERASE_DONE, LEDGER_SCAN_DONE, HOURS, SUPP_SUMMARY, TOKEN_REFILL and
the SMBus Ledger commands: a raise by firmware takes the payload from its buffer; the first program of a record clears
its bits in the NOR and the second sets STATE to 0x30 and the next RSEQ; a finished header opens its sector and erases
the next; a second failure drops the record with NOR_ERR and DROP, or leaves the sector; an erase that succeeds leaves
0xFF and an erased sector ahead; the scan does nothing once recording has begun; the timers act each 600 s, 3,600 s
and REFILL seconds; the readout answers 32 bytes and advances, the offset takes three bytes, the status gives RSEQ,
PCYC and LDG_PTR. -/
def Obligations.LedgerCommandsComplete : Prop :=
  (∀ (path : Path) (value : Word) (s : State), s.takes path R.A_LDG_RAISE value = true → Answers (.ldgRaise path
    value) s ((s.storeReg path R.A_LDG_RAISE value).ldgRaise (value.toNat % 65536) ((s.storeReg path R.A_LDG_RAISE
    value).raisePayload (bitsOf value.toNat 24 5)))) ∧
  (∀ (path : Path) (value : Word) (s : State), path ≠ .core → (¬ (0x1F0 ≤ value.toNat % 65536 ∧ value.toNat % 65536
    ≤ 0x1FF)) → Answers (.ldgRaise path value) s s) ∧
  (∀ (j : LdgJob) (s : State), s.ldg.job = some j → j.second = false → Answers .ledgerProgramDone s
    { s with nor := norProgram s.nor j.addr j.bytes, ldg := { s.ldg with job := some { j with second := true } } }) ∧
  (∀ (j : LdgJob) (r : LdgRec) (s : State), s.ldg.job = some j → j.second = true → j.what = .record r → Answers
    .ledgerProgramDone s ((({ s with nor := norProgram s.nor j.addr [0x30], ldg := { s.ldg with job := none } } :
    State).set R.LDG_RSEQ_RSEQ (s.get R.LDG_RSEQ_RSEQ + 1)).ldgKick)) ∧
  (∀ (j : LdgJob) (k : Nat) (s : State), s.ldg.job = some j → j.second = true → j.what = .header k → Answers
    .ledgerProgramDone s
    ((((({ s with nor := norProgram s.nor j.addr [0x30], ldg := { s.ldg with job := none, opened := true, sseq := s.ldg.sseq + 1 } }
    : State).set R.LDG_STAT_SECT k).set R.LDG_PTR_OFS (k * 65536 + 0x100)).ldgErase ((k + 1) % 128)).ldgKick)) ∧
  (∀ (s : State), s.ldg.job = none → Answers .ledgerProgramDone s s) ∧
  (∀ (j : LdgJob) (k : Nat) (s : State), s.ldg.job = some j → j.what = .header k → j.retry = true → Answers
    .ledgerProgramFail s
    (((({ s with free := s.free + 1, nor := norProgram s.nor j.addr ((if j.second then [(0x30 : Byte)] else j.bytes).zipIdx.map (fun e => e.1 ||| BitVec.ofNat 8 (Config.freeNat s.free / 256 ^ e.2))), ldg := { s.ldg with job := none } }
    : State).fault .ldg 0).ldgErase ((k + 1) % 128)).ldgRest)) ∧
  (∀ (j : LdgJob) (r : LdgRec) (s : State), s.ldg.job = some j → j.what = .record r → j.retry = true → Answers
    .ledgerProgramFail s
    (((({ s with free := s.free + 1, nor := norProgram s.nor j.addr ((if j.second then [(0x30 : Byte)] else j.bytes).zipIdx.map (fun e => e.1 ||| BitVec.ofNat 8 (Config.freeNat s.free / 256 ^ e.2))), ldg := { s.ldg with job := none } }
    : State).fault .ldg 0).ldgDrop).ldgKick)) ∧
  (∀ (s : State), s.ldg.job = none → Answers .ledgerProgramFail s s) ∧
  (∀ (k : Nat) (j : LdgJob) (s : State), s.ldg.erasing = some k → s.ldg.job = some j → Answers (.ledgerEraseDone
    true) s
    { s with nor := norErase s.nor (norRolling + k * 65536) 65536, ldg := { s.ldg with erasing := none, ahead := some k } }) ∧
  (∀ (k : Nat) (s : State), s.ldg.erasing = some k → s.ldg.job = none → Answers (.ledgerEraseDone true) s
    (({ s with nor := norErase s.nor (norRolling + k * 65536) 65536, ldg := { s.ldg with erasing := none, ahead := some k } }
    : State).ldgRest.ldgKick)) ∧
  (∀ (k : Nat) (s : State), s.ldg.erasing = some k → Answers (.ledgerEraseDone false) s
    ((({ s with free := s.free + 1, nor := norProgram (norErase s.nor (norRolling + k * 65536) 1) (norRolling + k * 65536) [if Config.freeNat s.free % 256 = 48 then 0 else BitVec.ofNat 8 (Config.freeNat s.free)], ldg := { s.ldg with erasing := none } }
    : State).fault .ldg 0).ldgErase ((k + 1) % 128))) ∧
  (∀ (ok : Bool) (s : State), s.ldg.erasing = none → Answers (.ledgerEraseDone ok) s s) ∧
  (∀ (s : State), s.get R.LDG_STAT_STATE ≠ 0 → Answers .ledgerScanDone s s) ∧
  (∀ (s : State), s.get R.LDG_STAT_STATE = 0 → s.nor = [] → ∃ u, Answers .ledgerScanDone s u ∧ u.ldg.optBase = 0 ∧
    u.ldg.opened = false ∧ u.ldg.ahead = some 0 ∧ u.get R.LDG_RSEQ_RSEQ = 1 ∧ u.get R.LDG_PCYC_PCYC = 1) ∧
  (∀ (a b c : Nat) (s : State), s.get R.LDG_STAT_STATE = 0 → s.openSectors = [] → newestRec (s.scanArea 40960
    norFounding (norFounding + 0x100000)) = some (a, b, c) → ∃ u, Answers .ledgerScanDone s u ∧ u.ldg.optBase = c ∧
    u.ldg.opened = false ∧ u.get R.LDG_RSEQ_RSEQ = (a + 1) % 2 ^ 32 ∧ u.get R.LDG_PCYC_PCYC = (b + 1) % 2 ^ 32) ∧
  (∀ (s : State), s.ldg.lastHours + 600000000000 ≤ s.now → Answers .opHours s
    (({ s with ldg := { s.ldg with lastHours := s.ldg.lastHours + 600000000000 } } : State).ldgRaise 0x0007 [])) ∧
  (∀ (s : State), s.now < s.ldg.lastHours + 600000000000 → Answers .opHours s s) ∧
  (∀ (s : State), s.ldg.lastSummary + 3600000000000 ≤ s.now → Answers .suppSummary s ((summaryChunks 1200
    s.ldg.supp).foldl (fun (t : State) pl => t.ldgRaise 0x0004 pl)
    { s with ldg := { s.ldg with lastSummary := s.ldg.lastSummary + 3600000000000, supp := [] } })) ∧
  (∀ (s : State), s.now < s.ldg.lastSummary + 3600000000000 → Answers .suppSummary s s) ∧
  (∀ (s : State), s.ldg.lastRefill + s.get R.LDG_RATE_REFILL * 1000000000 ≤ s.now → Answers .tokenRefill s
    { s with ldg := { s.ldg with lastRefill := s.ldg.lastRefill + s.get R.LDG_RATE_REFILL * 1000000000, spent := (s.ldg.spent.map (fun e => (e.1, e.2 - 1))).filter (fun e => e.2 != 0) } }) ∧
  (∀ (s : State), s.now < s.ldg.lastRefill + s.get R.LDG_RATE_REFILL * 1000000000 → Answers .tokenRefill s s) ∧
  (∀ (s : State), s.smbOn = true → Answers (.smbusLedgerRead true) s
    { (s.modHif (fun h => { h with smb := 32 :: s.ldgReadout s.ldg.smbOfs 32 })) with ldg := { s.ldg with smbOfs := s.ldg.smbOfs + 32 } }) ∧
  (∀ (pec : Bool) (s : State), s.smbOn = false → Answers (.smbusLedgerRead pec) s s) ∧
  (∀ (s : State), s.smbOn = true → Answers (.smbusLedgerStatus true) s (s.modHif (fun h =>
    { h with smb := 12 :: (beBytes 4 (s.get R.LDG_RSEQ_RSEQ) ++ beBytes 4 (s.get R.LDG_PCYC_PCYC) ++ beBytes 4 (s.get R.LDG_PTR_OFS)) }))) ∧
  (∀ (bytes : List Byte) (s : State), s.smbOn = true → bytes.length = 3 → ofBeBytes bytes < 9437184 → Answers
    (.smbusLedgerOffset bytes true) s { s with ldg := { s.ldg with smbOfs := ofBeBytes bytes } }) ∧
  (∀ (bytes : List Byte) (s : State), s.smbOn = true → (bytes.length ≠ 3 ∨ 9437184 ≤ ofBeBytes bytes) → Answers
    (.smbusLedgerOffset bytes true) s ((s.fault .hif 8).ldgProtocol 2 0)) ∧
  (∀ (code : Nat) (s : State), s.smbOn = true → code ≠ 0 → code ≠ 8 → Answers (.smbusBasicMgmtRead code true) s
    (s.modHif (fun h => { h with smb := [0] }))) ∧
  (∀ (s : State), s.smbOn = true → Answers (.smbusBasicMgmtRead 8 true) s (s.modHif (fun h =>
    { h with smb := BitVec.ofNat 8 ((s.identField s.free 0 2).reverse ++ s.identField s.free 8 20).length :: ((s.identField s.free 0 2).reverse ++ s.identField s.free 8 20) }))) ∧
  (∀ (s : State), s.smbOn = true → Answers (.smbusBasicMgmtRead 0 true) s (({ s with free := s.free + 1 } :
    State).modHif (fun h =>
    { h with smb := [6, BitVec.ofNat 8 s.smbFlags, BitVec.ofNat 8 (255 - Nat.lor (s.critical 0) (s.critical 1)), BitVec.ofInt 8 s.composite, Config.pageByte s.free 5, 0, 0] }))) ∧
  (∀ (code : Nat) (pec : Bool) (s : State), s.smbOn = false → Answers (.smbusBasicMgmtRead code pec) s s)

/-- The steps of BOOT answer in the order of R429, and a step out of its order changes nothing. BOOT_RECORD_READ,
MANIFEST_STREAMED, FIRMWARE_STREAMED, PATCH_LOAD, MANIFEST_AUTHENTICATION and BOOT_EXIT: step 1 takes the slots from
the valid boot record with the higher SEQ; step 3 takes the first slot whose image passes its checks, else the other,
and with neither the recovery firmware; step 4 loads its patch; step 5 judges the Manifest; BOOT exit waits for MEM
and ends in LIMP with MAN_BAD and reason 0x0A when no valid Manifest was found. -/
def Obligations.BootCommandsComplete : Prop :=
  (∀ (a p k q : Nat) (s : State), s.sec.step = 0 → s.mode = mBOOT → s.sys.powerGood = true → s.bootRecord = some (k,
    a, p, q) → Answers (.bootRecordRead true) s ((s.modSec (fun x =>
    { x with step := 1, tries := [if p = 1 ∨ p = 2 then p else if a = 2 then 2 else 1, 3 - (if p = 1 ∨ p = 2 then p else if a = 2 then 2 else 1)] })).set
    R.SEC_STAT_PENDING_SLOT (if p ≤ 2 then p else 0))) ∧
  (∀ (fuseOk : Bool) (s : State), (s.sec.step ≠ 0 ∨ s.mode ≠ mBOOT ∨ s.sys.powerGood = false) → Answers
    (.bootRecordRead fuseOk) s s) ∧
  (∀ (s : State), s.sec.step = 1 → Answers .manifestStreamed s (s.modSec (fun x => { x with step := 2 }))) ∧
  (∀ (s : State), s.sec.step ≠ 1 → Answers .manifestStreamed s s) ∧
  (∀ (s : State), s.sec.step = 2 → s.sec.tries = [] → Answers .firmwareStreamed s ((s.modSec (fun x =>
    { x with step := 3 })).set R.SEC_STAT_ACTIVE_SLOT 0)) ∧
  (∀ (k : Nat) (r : List Nat) (s : State), s.sec.step = 2 → s.sec.tries = k :: r → (s.imageOk 2 (s.slotImage k) =
    false ∨ s.versionOk 2 (s.slotImage k) = false) → r ≠ [] → Answers .firmwareStreamed s ((s.modSec (fun x =>
    { x with tries := r })).fault .sec 1)) ∧
  (∀ (k : Nat) (r : List Nat) (s : State), s.sec.step = 2 → s.sec.tries = k :: r → Answers .firmwareStreamed s (if
    s.imageOk 2 (s.slotImage k) && s.versionOk 2 (s.slotImage k) then ((s.modSec (fun x =>
    { x with step := 3, tries := [] })).set R.SEC_STAT_ACTIVE_SLOT k).set R.SEC_FW_VER_VERSION (imgId (s.slotImage
    k)) else if r.isEmpty then (((s.modSec (fun x => { x with tries := r })).fault .sec 1).modSec (fun x =>
    { x with step := 3 })).set R.SEC_STAT_ACTIVE_SLOT 0 else (s.modSec (fun x => { x with tries := r })).fault .sec
    1)) ∧
  (∀ (s : State), s.sec.step ≠ 2 → Answers .firmwareStreamed s s) ∧
  (∀ (s : State), s.sec.step = 3 → s.get R.SEC_STAT_ACTIVE_SLOT = 0 → Answers .patchLoad s ((List.range 4).foldl
    (fun (t : State) a => t.sqPatchEnd a) (s.modSec (fun x => { x with step := 4 })))) ∧
  (∀ (k : Fin 4) (s : State), s.sec.step = 3 → s.get R.SEC_STAT_ACTIVE_SLOT = k.val → k ≠ 0 → Answers .patchLoad s
    ((s.modSec (fun x => { x with step := 4 })).patchImage (s.slotImage k.val))) ∧
  (∀ (s : State), s.sec.step ≠ 3 → Answers .patchLoad s s) ∧
  (∀ (s : State), s.sec.step = 4 → Answers .manifestAuthentication s (s.modSec (fun x =>
    { x with step := 5, manOk := s.get R.SEC_STAT_ACTIVE_SLOT != 0 && s.imageOk 1 s.manifestImage && s.versionOk 1 s.manifestImage && manifestOk s.manifestImage && !(s.memFailed && decide (2097152 < imgLen s.manifestImage)) }))) ∧
  (∀ (s : State), s.sec.step ≠ 4 → Answers .manifestAuthentication s s) ∧
  (∀ (fuseOk : Bool) (s : State), s.sec.step = 5 → s.mode = mBOOT → 2 ≤ s.get R.MEM_STAT_STATE → s.lossShown = false
    → s.sec.manOk = false → Answers (.bootExit fuseOk) s (((s.fault .sec 0).bootSlot fuseOk).bootLeave mLIMP 0x0A)) ∧
  (∀ (fuseOk : Bool) (s : State), s.sec.step = 5 → s.mode = mBOOT → 2 ≤ s.get R.MEM_STAT_STATE → s.lossShown = false
    → s.sec.manOk = true → (s.memFailed = false ∨ imgLen s.manifestImage ≤ 2097152) → Answers (.bootExit fuseOk) s
    (s.bootApply fuseOk)) ∧
  (∀ (fuseOk : Bool) (s : State), (s.sec.step ≠ 5 ∨ s.mode ≠ mBOOT ∨ s.get R.MEM_STAT_STATE < 2) → Answers
    (.bootExit fuseOk) s s)

/-- Attempts to unlock a path, and what locks it again, answer as chapter 18 says. UNLOCK_CH, UNLOCK_RSP,
UNLOCK_ATTEMPT_EXPIRY, LOCKOUT_END, UNLOCK_TIMEOUT, HOST_LOCK and DBG_LOCK: UNLOCK_CH with an allowed method outside a
lockout opens an attempt on path 1, with a non-zero challenge for method 1, and opens none otherwise; a response
without an attempt changes nothing, one after 60 s ends its attempt, a correct one unlocks the path and clears its
count, a wrong one is counted, and from the LOCK_N-th in a row on starts a lockout of 1 minute or more; an attempt
lapses after 60 s, a lockout at its end; UNLOCK_TMO minutes after an unlock, or with the lock bit of SEC_CTRL, the
path locks. -/
def Obligations.UnlockCommandsComplete : Prop :=
  (∀ (s : State), s.methodOk 1 1 = true → s.lockLeft 1 = 0 → Answers (.unlockCh 1) s
    (((({ s with free := s.free + 1 } : State).modPath 1 (fun y =>
    { y with chal := some (1, 1 + Config.freeNat s.free % (2 ^ 64 - 1), s.now) })).setFlag R.SEC_STAT_DBG_CHAL
    true).tapSelect 0x40 (4 * (1 + Config.freeNat s.free % (2 ^ 64 - 1))))) ∧
  (∀ (s : State), s.methodOk 1 0 = true → s.lockLeft 1 = 0 → Answers (.unlockCh 0) s (((s.modPath 1 (fun y =>
    { y with chal := some (0, 0, s.now) })).setFlag R.SEC_STAT_DBG_CHAL true).tapSelect 0x40 0)) ∧
  (∀ (m : Fin 4) (s : State), (m.val ≠ 1 ∨ s.methodOk 1 1 = false ∨ s.lockLeft 1 ≠ 0) → (m.val ≠ 0 ∨ s.methodOk 1 0
    = false ∨ s.lockLeft 1 ≠ 0) → Answers (.unlockCh m) s (s.tapSelect 0x40 0)) ∧
  (∀ (numd : Nat) (data : List Byte) (s : State), (s.secPath 1).chal = none → Answers (.unlockRsp numd data) s
    (s.tapSelect 0x41 0)) ∧
  (∀ (numd : Nat) (data : List Byte) (m ch t : Nat) (s : State), (s.secPath 1).chal = some (m, ch, t) → t +
    60000000000 ≤ s.now → m < 2 → 1 ≤ numd → numd ≤ 64 → Answers (.unlockRsp numd data) s ((s.chalEnd 1).tapSelect
    0x41 0)) ∧
  (∀ (numd : Nat) (data : List Byte) (m ch t : Nat) (s : State), (s.secPath 1).chal = some (m, ch, t) → s.now < t +
    60000000000 → m < 2 → 1 ≤ numd → numd ≤ 64 → (s.responseOk 1 m ch (takeAt data 0 (4 * numd)) = true → Answers
    (.unlockRsp numd data) s (((((s.chalEnd 1).modPath 1 (fun x =>
    { x with unlockAt := some s.now, lockLen := 0 })).set R.SEC_FAILS_DBG_FAILS 0).setFlag R.SEC_STAT_DBG_UNLOCKED
    true).tapSelect 0x41 0)) ∧ (s.responseOk 1 m ch (takeAt data 0 (4 * numd)) = false → Answers (.unlockRsp numd
    data) s (((s.chalEnd 1).wrongResponse 1).tapSelect 0x41 0))) ∧
  (∀ (p : Fin 2) (k : SecKeys) (s : State), s.sec.keys = some k → satN (s.get (failsFld p.val) + 1) 255 < k.lockN →
    s.wrongResponse p.val = (s.set (failsFld p.val) (satN (s.get (failsFld p.val) + 1) 255)).fault .sec 2) ∧
  (∀ (p : Fin 2) (k : SecKeys) (s : State), s.sec.keys = some k → k.lockN ≤ satN (s.get (failsFld p.val) + 1) 255 →
    (s.secPath p.val).lockLen = 0 → s.wrongResponse p.val = (((((s.set (failsFld p.val) (satN (s.get (failsFld
    p.val) + 1) 255)).fault .sec 2).modPath p.val (fun x =>
    { x with lockLen := 1, lockEnd := some (s.optimeAt s.now + 60000) })).bump (locksFld p.val) 1).setFlag
    (lockoutFld p.val) true).fault .sec 3) ∧
  (∀ (p : Fin 2) (m ch t : Nat) (s : State), (s.secPath p.val).chal = some (m, ch, t) → t + 60000000000 ≤ s.now →
    Answers (.unlockAttemptExpiry p) s ((s.modPath p.val (fun x => { x with chal := none })).setFlag (chalFld p.val)
    false)) ∧
  (∀ (p : Fin 2) (m ch t : Nat) (s : State), (s.secPath p.val).chal = some (m, ch, t) → s.now < t + 60000000000 →
    Answers (.unlockAttemptExpiry p) s s) ∧
  (∀ (p : Fin 2) (t : Nat) (s : State), (s.secPath p.val).lockEnd = some t → s.lockLeft p.val = 0 → Answers
    (.lockoutEnd p) s ((s.modPath p.val (fun x => { x with lockEnd := none })).setFlag (lockoutFld p.val) false)) ∧
  (∀ (p : Fin 2) (s : State), s.lockLeft p.val ≠ 0 → Answers (.lockoutEnd p) s s) ∧
  (∀ (p : Fin 2) (t : Nat) (k : SecKeys) (s : State), (s.secPath p.val).unlockAt = some t → s.sec.keys = some k →
    k.tmo ≠ 0 → t + k.tmo * 60000000000 ≤ s.now → Answers (.unlockTimeout p) s (s.pathLock p.val)) ∧
  (∀ (p : Fin 2) (k : SecKeys) (s : State), s.sec.keys = some k → k.tmo = 0 → Answers (.unlockTimeout p) s s) ∧
  (∀ (s : State), s.flag R.SEC_STAT_DBG_UNLOCKED = true → s.pathLock 1 = (s.modPath 1 (fun x =>
    { x with unlockAt := none })).setFlag R.SEC_STAT_DBG_UNLOCKED false) ∧
  (∀ (s : State), s.flag R.SEC_STAT_HOST_UNLOCKED = true → s.pathLock 0 = ((s.modPath 0 (fun x =>
    { x with unlockAt := none })).setFlag R.SEC_STAT_HOST_UNLOCKED false).workshopLeave) ∧
  (∀ (p : Fin 2) (s : State), s.flag (unlFld p.val) = false → s.pathLock p.val = s) ∧
  (∀ (path : Path) (value : Word) (s : State), bitOf value.toNat 1 = false → s.takes path R.A_SEC_CTRL (withBits
    value 0 1 1) = true → Answers (.hostLock path value) s ((s.storeReg path R.A_SEC_CTRL (withBits value 0 1
    1)).pathLock 0)) ∧
  (∀ (path : Path) (value : Word) (s : State), bitOf value.toNat 0 = false → s.takes path R.A_SEC_CTRL (withBits
    value 1 1 1) = true → Answers (.dbgLock path value) s ((s.storeReg path R.A_SEC_CTRL (withBits value 1 1
    1)).pathLock 1))

/-- The debug port's instructions and GPIO_OUT_WRITE answer as chapters 18 and 20 say. EXTEST, SAMPLE_PRELOAD, IDCODE,
CRS_ADDR, CRS_DATA, SEC_STATUS, BYPASS and GPIO_OUT_WRITE: each TAP instruction is selected and captures its data
register, EXTEST only in BOOT, PARKED and LIMP and else BYPASS; CRS_ADDR makes a read at once, answered where the path
reads, and remembers a write; CRS_DATA gives out the latest result and makes the write that waits, which a path that
may not write answers with the refused code; GPIO_OUT stores its value. -/
def Obligations.TapCommandsComplete : Prop :=
  (∀ (s : State), (s.mode = mBOOT ∨ s.mode = mPARKED ∨ s.mode = mLIMP) → Answers .extest s (s.modSec (fun x =>
    { x with tapIr := 0x00, tapOut := s.sec.tapOut }))) ∧
  (∀ (s : State), s.mode ≠ mBOOT → s.mode ≠ mPARKED → s.mode ≠ mLIMP → Answers .extest s (s.modSec (fun x =>
    { x with tapIr := 0xFF, tapOut := 0 }))) ∧
  (∀ (s : State), Answers .samplePreload s (s.modSec (fun x => { x with tapIr := 0x01 }))) ∧
  (∀ (s : State), Answers .idcode s (s.modSec (fun x => { x with tapIr := 0x02, tapOut := 0x14A248B3 }))) ∧
  (∀ (s : State), Answers .secStatus s (s.modSec (fun x =>
    { x with tapIr := 0x44, tapOut := (s.rd R.A_SEC_STAT).toNat }))) ∧
  (∀ (s : State), Answers .bypass s (s.modSec (fun x => { x with tapIr := 0xFF, tapOut := 0 }))) ∧
  (∀ (addr : Word) (s : State), Answers (.crsAddr addr true) s (s.modSec (fun x =>
    { x with tapAddr := addr.toNat, tapWr := true, tapIr := 0x42, tapOut := 0 }))) ∧
  (∀ (addr : Word) (s : State), s.pathReads .debug = false → Answers (.crsAddr addr false) s (s.modSec (fun x =>
    { x with tapAddr := addr.toNat, tapWr := false, tapRes := 2 ^ 33, tapIr := 0x42, tapOut := 0 }))) ∧
  (∀ (addr : Word) (t : State) (v : Nat) (s : State), s.pathReads .debug = true → (s.modSec (fun x =>
    { x with tapAddr := addr.toNat, tapWr := false })).crsRead .debug addr.toNat 4 = t → t.rdOut = some (.debug, v)
    → Answers (.crsAddr addr false) s ((t.modSec (fun x => { x with tapRes := v + 2 ^ 32 })).tapSelect 0x42 0)) ∧
  (∀ (data : Word) (s : State), s.sec.tapWr = false → Answers (.crsData data) s (s.modSec (fun x =>
    { x with tapIr := 0x43, tapOut := s.sec.tapRes }))) ∧
  (∀ (data : Word) (s : State), s.sec.tapWr = true → s.pathReads .debug = false → Answers (.crsData data) s
    (s.modSec (fun x => { x with tapIr := 0x43, tapOut := s.sec.tapRes, tapWr := false, tapRes := 2 ^ 33 }))) ∧
  (∀ (data : Word) (s : State), s.sec.tapWr = true → s.pathReads .debug = true → s.pathWrites .debug = false →
    s.gated s.sec.tapAddr = false → s.silent s.sec.tapAddr = false → Answers (.crsData data) s (s.modSec (fun x =>
    { x with tapIr := 0x43, tapOut := s.sec.tapRes, tapWr := false, tapRes := 2 ^ 33 }))) ∧
  (∀ (data : Word) (s : State), s.sec.tapWr = true → s.pathWrites .debug = true → Answers (.crsData data) s
    (((s.modSec (fun x => { x with tapIr := 0x43, tapOut := s.sec.tapRes })).crsWrite .debug s.sec.tapAddr 4
    data).modSec (fun x => { x with tapWr := false, tapRes := data.toNat + 2 ^ 32 }))) ∧
  (∀ (path : Path) (value : Word) (s : State), s.takes path R.A_SYS_GPIO_OUT value = true → Answers (.gpioOutWrite
    path value) s (s.storeReg path R.A_SYS_GPIO_OUT value))

/-- START, BRAKE, COAST, EN, TARGET, the spin-up and rest answer as R231 to R233 say. SPN_START, SPN_BRAKE, SPN_COAST,
SPN_DISABLE, SPN_TARGET_WRITE, SPN_LISTEN_END, SPN_ALIGN_END, SPN_RAMP_TIMEOUT, SPN_RETRY_COAST_END, SPN_AT_SPEED and
SPN_REST_REACHED: a START in STOP begins the 20 ms listen, from BRAKE it enters ACCEL, from COAST CATCH, in SHORT it
waits for rest, in ALIGN to RUN it clears brake pending; BRAKE from ACCEL and RUN enters BRAKE with brake pending, in
ALIGN and RAMP it makes COAST due at the next boundary; COAST enters COAST; EN = 0 enters STOP; a TARGET write in RUN
enters ACCEL; the listen ends in ALIGN, or with brake pending in STOP; ALIGN ends in RAMP after ALIGN_T, RAMP without
a lock in a coast of 1 s before the next try, or in START_FAIL or SPIN_FAIL at the last; ACCEL ends in RUN with
AT_SPEED after 64 checks; rest ends in STOP. -/
def Obligations.SpindleCommandsComplete : Prop :=
  (∀ (path : Path) (value : Word) (s : State), bitOf value.toNat 0 = true → bitOf value.toNat 2 = true → s.takes
    path R.A_SPN_CTRL (withBits value 8 3 1) = true → Answers (.spnStart path value) s ((s.storeReg path
    R.A_SPN_CTRL (withBits value 8 3 1)).spnStart)) ∧
  (∀ (path : Path) (value : Word) (s : State), bitOf value.toNat 0 = true → bitOf value.toNat 2 = true → s.takes
    path R.A_SPN_CTRL (withBits value 8 3 2) = true → Answers (.spnBrake path value) s ((s.storeReg path
    R.A_SPN_CTRL (withBits value 8 3 2)).spnBrake)) ∧
  (∀ (path : Path) (value : Word) (s : State), bitOf value.toNat 0 = true → bitOf value.toNat 2 = true → s.takes
    path R.A_SPN_CTRL (withBits value 8 3 3) = true → Answers (.spnCoast path value) s ((s.storeReg path
    R.A_SPN_CTRL (withBits value 8 3 3)).spnCoast)) ∧
  (∀ (s : State), s.spnStartOk = true → s.spnState = 0 → s.spn.listenAt = none → s.obsLocked = false → s.spnStart =
    ((s.setBrakePend false).set R.SPN_STAT_TRIES 0).modSpn (fun x =>
    { x with listenAt := some s.now, retryAt := none, renewed := false, startNext := none })) ∧
  (∀ (s : State), s.spnStartOk = true → s.spnState = 5 → s.spnStart = (s.setBrakePend false).spnEnter 3) ∧
  (∀ (s : State), s.spnStartOk = true → s.spnState = 6 → s.spnStart = (s.setBrakePend false).modSpn (fun x =>
    { x with startNext := some false })) ∧
  (∀ (s : State), s.spnStartOk = true → s.spnState = 7 → s.spnStart = (s.setBrakePend false).spnCatch true) ∧
  (∀ (s : State), s.spnStartOk = true → (s.spnState = 1 ∨ s.spnState = 2 ∨ s.spnState = 3 ∨ s.spnState = 4 ∨
    s.spnState = 8) → s.spnStart = s.setBrakePend false) ∧
  (∀ (s : State), (s.flag R.SPN_CTRL_EN = false ∨ s.spn.fltLow = true ∨ s.spn.lost = true) → s.spnStart = s) ∧
  (∀ (s : State), (s.spnState = 3 ∨ s.spnState = 4) → s.spnBrake = (s.setBrakePend true).spnEnter 5) ∧
  (∀ (s : State), (s.spnState = 1 ∨ s.spnState = 2) → s.spnBrake = (s.setBrakePend true).modSpn (fun x =>
    { x with next := some .coast })) ∧
  (∀ (s : State), (s.spnState = 5 ∨ s.spnState = 6 ∨ s.spnState = 7 ∨ s.spnState = 8) → s.spnBrake = s.setBrakePend
    true) ∧
  (∀ (s : State), (s.spnState = 9 ∨ (s.spnState = 0 ∧ s.spn.listenAt = none)) → s.spnBrake = s) ∧
  (∀ (s : State), s.spnState ≠ 0 → s.spnState ≠ 7 → s.spnState ≠ 9 → s.spnCoast = s.spnEnter 7) ∧
  (∀ (s : State), (s.spnState = 0 ∨ s.spnState = 7 ∨ s.spnState = 9) → s.spnCoast = s) ∧
  (∀ (path : Path) (value : Word) (s : State), s.flag R.SPN_CTRL_EN = true → bitOf value.toNat 2 = true → s.takes
    path R.A_SPN_CTRL (withBits value 0 1 0) = true → Answers (.spnDisable path value) s (((((s.storeReg path
    R.A_SPN_CTRL (withBits value 0 1 0)).modSpn (fun x => { x with startNext := none })).spnEnter 0).setBrakePend
    false).modSpn (fun x => { x with startNext := none }))) ∧
  (∀ (path : Path) (value : Word) (s : State), (s.storeReg path R.A_SPN_TARGET value).spnState = 4 → s.takes path
    R.A_SPN_TARGET value = true → Answers (.spnTargetWrite path value) s ((s.storeReg path R.A_SPN_TARGET
    value).spnEnter 3)) ∧
  (∀ (path : Path) (value : Word) (s : State), (s.storeReg path R.A_SPN_TARGET value).spnState ≠ 4 → s.takes path
    R.A_SPN_TARGET value = true → Answers (.spnTargetWrite path value) s (s.storeReg path R.A_SPN_TARGET value)) ∧
  (∀ (t : Nat) (s : State), s.spn.listenAt = some t → s.spnState = 0 → t + 20000000 ≤ s.now → s.obsLocked = false →
    s.brakePend = false → Answers .spnListenEnd s ((s.spnEnter 1).modSpn (fun x => { x with alignAt := s.now }))) ∧
  (∀ (t : Nat) (s : State), s.spn.listenAt = some t → s.spnState = 0 → t + 20000000 ≤ s.now → s.obsLocked = false →
    s.brakePend = true → Answers .spnListenEnd s ((s.setBrakePend false).modSpn (fun x =>
    { x with listenAt := none }))) ∧
  (∀ (s : State), s.spn.listenAt = none → Answers .spnListenEnd s s) ∧
  (∀ (s : State), s.spnState = 1 → s.spn.stateAt + s.get R.SPN_START_ALIGN_T * 1000000 ≤ s.now → s.spn.next = none →
    Answers .spnAlignEnd s ((s.spnEnter 2).rampEnd)) ∧
  (∀ (s : State), s.spnState = 1 → s.spn.next = some .coast → Answers .spnAlignEnd s s) ∧
  (∀ (s : State), (s.spnState ≠ 1 ∨ s.now < s.spn.stateAt + s.get R.SPN_START_ALIGN_T * 1000000) → Answers
    .spnAlignEnd s s) ∧
  (∀ (s : State), s.spnState = 2 → s.obsLocked = true → s.spn.next = none → s.rampEnd = (s.spnEnter 3).modSpn (fun x
    => { x with ref := x.obsSpeed * 1000000000 / 256 })) ∧
  (∀ (s : State), s.obsLocked = false → s.rampEnd = s) ∧
  (∀ (s : State), s.spnState = 2 → s.spn.stateAt + s.get R.SPN_START_RAMP_TMO * 10000000 ≤ s.now → s.get
    R.SPN_STAT_TRIES + 1 < s.get R.SPN_START_TRIES → s.get R.SPN_STAT_TRIES < 15 → Answers .spnRampTimeout s
    ((s.spnStop.set R.SPN_STAT_TRIES (s.get R.SPN_STAT_TRIES + 1)).modSpn (fun x =>
    { x with retryAt := some s.now }))) ∧
  (∀ (s : State), s.spnState = 2 → s.spn.stateAt + s.get R.SPN_START_RAMP_TMO * 10000000 ≤ s.now → s.get
    R.SPN_START_TRIES ≤ s.get R.SPN_STAT_TRIES + 1 → s.get R.SPN_STAT_TRIES < 15 → Answers .spnRampTimeout s
    ((s.spnStop.set R.SPN_STAT_TRIES (s.get R.SPN_STAT_TRIES + 1)).fault .spn (if s.spn.renewed then 2 else 12))) ∧
  (∀ (s : State), (s.spnState ≠ 2 ∨ s.now < s.spn.stateAt + s.get R.SPN_START_RAMP_TMO * 10000000) → Answers
    .spnRampTimeout s s) ∧
  (∀ (t : Nat) (s : State), s.spn.retryAt = some t → s.spnState = 0 → t + 1000000000 ≤ s.now → Answers
    .spnRetryCoastEnd s (s.spnEnter 1)) ∧
  (∀ (s : State), s.spn.retryAt = none → Answers .spnRetryCoastEnd s s) ∧
  (∀ (s : State), s.spnState = 3 → 64 ≤ s.spn.atRun → Answers .spnAtSpeed s ((((s.spnEnter 4).modSpn (fun x =>
    { x with renewed := false })).setFlag R.SPN_STAT_AT_SPEED true).relockArm)) ∧
  (∀ (s : State), (s.spnState ≠ 3 ∨ s.spn.atRun < 64) → Answers .spnAtSpeed s s) ∧
  (∀ (t : Nat) (s : State), s.spn.rest = some t → t + 500000000 ≤ s.now → s.spnState = 6 → Answers .spnRestReached s
    s.spnStop) ∧
  (∀ (t : Nat) (s : State), s.spn.rest = some t → t + 500000000 ≤ s.now → s.spnState = 7 → s.stageHeld = true →
    s.spn.lost = false → Answers .spnRestReached s s.spnStop) ∧
  (∀ (s : State), s.spn.rest = none → Answers .spnRestReached s s) ∧
  (∀ (s : State), s.spn.startNext = none → s.spnStop = ((s.spnEnter 0).setBrakePend false).modSpn (fun x =>
    { x with startNext := none }))

/-- Current samples, PWM periods, fast bus samples, the observer and catch-spin answer as chapter 9 says.
SPN_CURRENT_SAMPLE, SPN_FAST_BUS_SAMPLE, SPN_PWM_PERIOD, OBS_LOCK, OBS_LOSS, ANG_DISAGREE, CATCH_PRESET_END and
CATCH_FAIL: a current sample, stamped 5.0 us before its completion, shows the filtered bus voltage, brings the angles
and the speed up to date, and then makes the speed check, the checks of FLY_MIN, of SHORT and of rest, and the
triggers of loops 28 and 29; a fast bus sample of the newest 46 bits moves the Ballast gate by BAL_ON and BAL_OFF; a
period boundary takes up a COAST that was due and applies the limited outputs; LOCK_N good periods lock the observer,
which ends RAMP in ACCEL at its speed and takes CATCH and the listen on; 3 bad periods lose it; 64 periods apart set
ANG_DISAGREE; CATCH ends in ACCEL or BRAKE after 48 periods, or in COAST after 500 ms without a lock, with a renewed
START where the failure was one of START, ACCEL or RUN. -/
def Obligations.SpindleSamplesComplete : Prop :=
  (∀ (o : SpnObs) (s : State), s.inReset .spn = false → Answers (.spnCurrentSample o) s (((s.spnSamples o).2.sampled
    (s.now - 5000) (s.spnSamples o).1).relockWatch.tthStart)) ∧
  (∀ (t : Nat) (x : SpnSample) (v f : State) (i : Int × Int) (s : State), (s.set R.SPN_VBUS_MV (satN x.mv
    65535)).spnAngles t x = v → v.spnCurrents t x = (i, f) → s.sampled t x = (((((((f.speedCheck
    t).flyCheck).shortCheck x.vab).restTrack x).holdTrack x.mv).currentJob t i.1 i.2).speedJob t x.mv)) ∧
  (∀ (o : SpnObs) (s : State), s.inReset .spn = true → Answers (.spnCurrentSample o) s s.relockWatch.tthStart) ∧
  (∀ (t : Nat) (x : SpnSample) (s : State), s.tetherAngle = true → s.spnAngles t x =
      (let u := s.tetherAt t;
       let te := tetherElec (s.get R.SPN_MOTOR_PP) u.1 (s.get R.SPN_MOTOR_THETA_OFS);
       ((((u.2.observerStep (s.backEmf x) te).observerRuns (s.backEmf x)).angleSample te).spnNoAngle).speedSample t
          u.1 s.spn.obsAngle)) ∧
  (∀ (pp theta ofs : Nat), tetherElec pp theta ofs = (pp * theta / 128 + ofs) % 65536) ∧
  (∀ (bits : Nat) (balIs supok : Bool) (s : State), Answers (.spnFastBusSample bits balIs supok) s ((s.fastMv
    bits).2.fastDecide (s.fastMv bits).1 balIs supok)) ∧
  (∀ (mv : Nat) (balIs supok : Bool) (s : State), s.flag R.SPN_CTRL_BAL_EN = false → s.fastDecide mv balIs supok =
    ((s.modSpn (fun y =>
    { y with uvRun := (if mv < s.get R.SPN_BUS_VBUS_UV then satN (y.uvRun + 1) 65535 else 0), ovRun := (if 14400 ≤ mv then satN (y.ovRun + 1) 65535 else 0), balRun := 0, below := (if mv < 13800 then some (y.below.getD s.now) else none), gateAt := none, isAt := (if balIs then some (y.isAt.getD s.now) else none), isSeen := (if s.spn.gateAt.isNone then balIs else y.isSeen || balIs), supLow := (if supok then none else some (y.supLow.getD s.now)), supHigh := (if supok then some (y.supHigh.getD s.now) else none) })).setFlag
    R.SPN_STAT_BAL_GATE false).setFlag R.SPN_STAT_SUPOK supok) ∧
  (∀ (mv : Nat) (balIs supok : Bool) (s : State), s.flag R.SPN_CTRL_BAL_EN = true → s.balFaulted = false → s.inReset
    .spn = false → s.spn.gateAt = none → s.get R.SPN_BAL_BAL_ON ≤ mv → s.fastDecide mv balIs supok = ((s.modSpn (fun
    y =>
    { y with uvRun := (if mv < s.get R.SPN_BUS_VBUS_UV then satN (y.uvRun + 1) 65535 else 0), ovRun := (if 14400 ≤ mv then satN (y.ovRun + 1) 65535 else 0), balRun := (if 13800 ≤ mv then satN (y.balRun + 1) 65535 else 0), below := (if mv < 13800 then some (y.below.getD s.now) else none), gateAt := some s.now, isAt := (if balIs then some (y.isAt.getD s.now) else none), isSeen := balIs, supLow := (if supok then none else some (y.supLow.getD s.now)), supHigh := (if supok then some (y.supHigh.getD s.now) else none) })).setFlag
    R.SPN_STAT_BAL_GATE true).setFlag R.SPN_STAT_SUPOK supok) ∧
  (∀ (mv : Nat) (balIs supok : Bool) (t : Nat) (s : State), s.flag R.SPN_CTRL_BAL_EN = true → s.balFaulted = false →
    s.inReset .spn = false → s.spn.gateAt = some t → mv ≤ s.get R.SPN_BAL_BAL_OFF → t + 1000 ≤ s.now → s.fastDecide
    mv balIs supok = ((s.modSpn (fun y =>
    { y with uvRun := (if mv < s.get R.SPN_BUS_VBUS_UV then satN (y.uvRun + 1) 65535 else 0), ovRun := (if 14400 ≤ mv then satN (y.ovRun + 1) 65535 else 0), balRun := 0, below := (if mv < 13800 then some (y.below.getD s.now) else none), gateAt := none, isAt := (if balIs then some (y.isAt.getD s.now) else none), isSeen := (y.isSeen || balIs), supLow := (if supok then none else some (y.supLow.getD s.now)), supHigh := (if supok then some (y.supHigh.getD s.now) else none) })).setFlag
    R.SPN_STAT_BAL_GATE false).setFlag R.SPN_STAT_SUPOK supok) ∧
  (∀ (s : State), s.spnState = 0 → s.spn.vd = 0 → s.spn.vq = 0 → s.spn.next = none → Answers .spnPwmPeriod s
    ((((((s.modSpn (fun y =>
    { y with next := none, per := s.get R.SPN_PWM_PER, en := false, duty := (0, 0) })).setFlag R.SPN_STAT_MOD_LIM
    false).setDuties (0, 0)).fieldWeak).slewRef (5 * s.get R.SPN_PWM_PER)).syncCorr)) ∧
  (∀ (s : State), s.spn.next = some .coast → ∃ u, Answers .spnPwmPeriod s u ∧ u.spnState = 7 ∧ u.spn.next = none) ∧
  (∀ (s : State), s.obsLocked = false → s.get R.SPN_OBS_CFG_LOCK_N ≤ s.spn.lockRun → s.spnState = 2 → s.spn.next =
    none → Answers .obsLock s (((s.setFlag R.SPN_STAT_OBS_LOCK true).spnEnter 3).modSpn (fun x =>
    { x with ref := x.obsSpeed * 1000000000 / 256 }))) ∧
  (∀ (s : State), s.obsLocked = false → s.get R.SPN_OBS_CFG_LOCK_N ≤ s.spn.lockRun → s.spnState = 0 → s.spn.listenAt
    ≠ none → Answers .obsLock s ((s.setFlag R.SPN_STAT_OBS_LOCK true).spnCatch true)) ∧
  (∀ (s : State), s.obsLocked = false → s.get R.SPN_OBS_CFG_LOCK_N ≤ s.spn.lockRun → s.spnState = 8 → s.spn.catchRun
    = false → Answers .obsLock s ((s.setFlag R.SPN_STAT_OBS_LOCK true).catchPreset s.spn.obsSpeed)) ∧
  (∀ (s : State), s.obsLocked = false → s.get R.SPN_OBS_CFG_LOCK_N ≤ s.spn.lockRun → s.spnState = 4 → Answers
    .obsLock s (s.setFlag R.SPN_STAT_OBS_LOCK true)) ∧
  (∀ (s : State), (s.obsLocked = true ∨ s.spn.lockRun < s.get R.SPN_OBS_CFG_LOCK_N) → Answers .obsLock s s) ∧
  (∀ (s : State), s.obsLocked = true → 3 ≤ s.spn.lossRun → Answers .obsLoss s ((((s.setFlag R.SPN_STAT_OBS_LOCK
    false).bump R.SPN_CNT_OBS_LOSS 1).fault .spn 0).spnNoAngle)) ∧
  (∀ (s : State), (s.obsLocked = false ∨ s.spn.lossRun < 3) → Answers .obsLoss s s) ∧
  (∀ (s : State), 64 ≤ s.spn.disRun → Answers .angDisagree s (s.fault .spn 11)) ∧
  (∀ (s : State), s.spn.disRun < 64 → Answers .angDisagree s s) ∧
  (∀ (s : State), s.spnState = 8 → s.spn.catchRun = true → 48 ≤ s.spn.catchPer → Answers .catchPresetEnd s
    (s.spnEnter (if s.brakePend then 5 else 3))) ∧
  (∀ (s : State), (s.spnState ≠ 8 ∨ s.spn.catchRun = false ∨ s.spn.catchPer < 48) → Answers .catchPresetEnd s s) ∧
  (∀ (s : State), s.spnState = 8 → s.spn.catchRun = false → s.obsLocked = false → s.spn.stateAt + 500000000 ≤ s.now
    → s.spn.catchStart = false → Answers .catchFail s (((s.fault .spn 1).setBrakePend true).spnEnter 7)) ∧
  (∀ (s : State), s.spnState = 8 → s.spn.catchRun = false → s.obsLocked = false → s.spn.stateAt + 500000000 ≤ s.now
    → s.spn.catchStart = true → s.spn.renewed = false → Answers .catchFail s ((((s.fault .spn 1).setBrakePend
    true).spnEnter 7).modSpn (fun x => { x with startNext := some true }))) ∧
  (∀ (s : State), s.spnState = 8 → s.spn.catchRun = false → s.obsLocked = false → s.spn.stateAt + 500000000 ≤ s.now
    → s.spn.catchStart = true → s.spn.renewed = true → Answers .catchFail s (((((s.fault .spn 1).setBrakePend
    true).spnEnter 7).fault .spn 2).modSpn (fun x => { x with startNext := none, renewed := false }))) ∧
  (∀ (s : State), (s.spnState ≠ 8 ∨ s.spn.catchRun = true ∨ s.obsLocked = true ∨ s.now < s.spn.stateAt + 500000000)
    → Answers .catchFail s s)

/-- Stage faults, the Ballast, over-voltage and supply loss answer as R231 and R237 to R240 say. SPN_STAGE_FAULT, BAL_FLT,
BAL_STUCK, OV, OV_RECOVERY, SUPPLY_LOSS and PLOSS_END: a stage fault sets STAGE_FLT with its record and enters COAST
in any state, and its end is noted; BAL_G high for 2 us without BAL_IS, or with 5 samples at 13,800 mV, and BAL_IS
high for 2 us with the gate low, fault the Ballast: the gate goes low, BRAKE ends in COAST at the next boundary with
brake pending, PLOSS goes on; over-voltage outside PLOSS enters COAST, and 1 ms below 13,800 mV ends that in CATCH
when brake pending is clear; a supply loss is declared once, after two low samples or 2 us of SUPOK low; PLOSS ends in
COAST below PLOSS_MIN, when the bus cannot be held, or without an angle. -/
def Obligations.BallastAndSupplyComplete : Prop :=
  (∀ (s : State), Answers (.spnStageFault true) s ((((s.modSpn (fun x => { x with fltLow := true })).fault .spn
    7).ldgProtocol 6 0).spnEnter 7)) ∧
  (∀ (s : State), Answers (.spnStageFault false) s (s.modSpn (fun x => { x with fltLow := false }))) ∧
  (∀ (t : Nat) (s : State), s.spn.gateAt = some t → s.spn.isSeen = false → t + 2000 ≤ s.now → Answers .balFlt s
    ((s.ballastFault 3).ldgProtocol 7 0)) ∧
  (∀ (t : Nat) (s : State), s.spn.gateAt = some t → 5 ≤ s.spn.balRun → Answers .balFlt s ((s.ballastFault
    3).ldgProtocol 7 0)) ∧
  (∀ (t : Nat) (s : State), s.spn.gateAt = some t → (s.spn.isSeen = true ∨ s.now < t + 2000) → s.spn.balRun < 5 →
    Answers .balFlt s s) ∧
  (∀ (s : State), s.spn.gateAt = none → Answers .balFlt s s) ∧
  (∀ (b : Nat) (s : State), s.spnState = 5 → s.ballastFault b = ((((s.fault .spn b).setFlag R.SPN_STAT_BAL_GATE
    false).modSpn (fun x => { x with gateAt := none, balRun := 0 })).setBrakePend true).modSpn (fun x =>
    { x with next := some .coast })) ∧
  (∀ (b : Nat) (s : State), s.spnState = 9 → s.ballastFault b = ((s.fault .spn b).setFlag R.SPN_STAT_BAL_GATE
    false).modSpn (fun x => { x with gateAt := none, balRun := 0 })) ∧
  (∀ (b : Nat) (s : State), s.spnState ≠ 5 → s.spnState ≠ 9 → s.spn.next = none → s.ballastFault b = (((s.fault .spn
    b).setFlag R.SPN_STAT_BAL_GATE false).modSpn (fun x => { x with gateAt := none, balRun := 0 })).modSpn (fun x =>
    { x with next := (match x.next with | some .coast => some .coast | _ => some .skip) })) ∧
  (∀ (t : Nat) (s : State), s.spn.isAt = some t → s.spn.gateAt = none → t + 2000 ≤ s.now → Answers .balStuck s
    ((s.ballastFault 4).ldgProtocol 7 0)) ∧
  (∀ (s : State), (s.spn.isAt = none ∨ s.spn.gateAt ≠ none) → Answers .balStuck s s) ∧
  (∀ (s : State), 2 ≤ s.spn.ovRun → s.spnState ≠ 9 → Answers .ov s (((s.fault .spn 5).spnEnter 7).modSpn (fun x =>
    { x with ovCoast := true }))) ∧
  (∀ (s : State), (s.spn.ovRun < 2 ∨ s.spnState = 9) → Answers .ov s s) ∧
  (∀ (t : Nat) (s : State), s.spn.below = some t → s.spnState = 7 → s.spn.ovCoast = true → s.brakePend = false →
    s.spn.lost = false → s.stageHeld = false → t + 1000000 ≤ s.now → Answers .ovRecovery s (s.spnCatch false)) ∧
  (∀ (t : Nat) (s : State), s.spn.below = some t → s.now < t + 1000000 → Answers .ovRecovery s s) ∧
  (∀ (s : State), (s.spn.below = none ∨ s.brakePend = true ∨ s.spnState ≠ 7) → Answers .ovRecovery s s) ∧
  (∀ (s : State), s.spn.lost = false → 2 ≤ s.spn.uvRun → Answers .supplyLoss s s.declareLoss) ∧
  (∀ (t : Nat) (s : State), s.spn.lost = false → s.spn.supLow = some t → t + 2000 ≤ s.now → Answers .supplyLoss s
    s.declareLoss) ∧
  (∀ (s : State), (s.spn.lost = true ∨ (s.spn.uvRun < 2 ∧ s.spn.supLow = none)) → Answers .supplyLoss s s) ∧
  (∀ (s : State), s.spnState = 9 → (s.rpm < s.get R.SPN_PLOSS_PLOSS_MIN ∨ 64 ≤ s.spn.holdRun ∨ s.noAngle = true) →
    Answers .plossEnd s (s.spnEnter 7)) ∧
  (∀ (s : State), (s.spnState ≠ 9 ∨ (s.get R.SPN_PLOSS_PLOSS_MIN ≤ s.rpm ∧ s.spn.holdRun < 64 ∧ s.noAngle = false))
    → Answers .plossEnd s s)

/-- SPDREF signals and its revolution edges answer as R242 to R244 say. SPDREF_BAD, SPDREF_GOOD and SPDREF_SYNC_LOCK: in
WORKSHOP with a mode set, a bad signal clears GOOD, sets SPDREF_BAD with its record and holds the last reference; a
good signal gives its reference, rounded either way, once GOOD holds or 100 ms after the latest bad one; outside,
nothing happens. An edge before the PPR-th is counted; at the PPR-th, 16 in a row with the index within 2^-10
revolution set SYNC_LOCK, one beyond 2^-8 clears it. Mode 3 takes 60 / (PPR x period) between 5,400 and 10,000 rpm,
with no more than 3 periods since the last edge. -/
def Obligations.SpdrefCommandsComplete : Prop :=
  (∀ (x : SpdSignal) (s : State), s.spdrefOn = true → s.spdrefValue x = none → Answers (.spdrefBad x) s ((((s.modSpn
    (fun y => { y with refBad := s.now })).setFlag R.SPN_SPDREF_STAT_GOOD false).fault .spn 9).ldgProtocol 9 0)) ∧
  (∀ (x : SpdSignal) (s : State), (s.spdrefOn = false ∨ s.spdrefValue x ≠ none) → Answers (.spdrefBad x) s s) ∧
  (∀ (x : SpdSignal) (v : Rat) (s : State), s.spdrefOn = true → s.spdrefValue x = some v → (s.flag
    R.SPN_SPDREF_STAT_GOOD = true ∨ s.spn.refBad + 100000000 ≤ s.now) → Answers (.spdrefGood x) s (((s.openRat
    v).2.set R.SPN_SPDREF_STAT_REF (s.openRat v).1.toNat).setFlag R.SPN_SPDREF_STAT_GOOD true)) ∧
  (∀ (x : SpdSignal) (s : State), s.flag R.SPN_SPDREF_STAT_GOOD = false → s.now < s.spn.refBad + 100000000 → Answers
    (.spdrefGood x) s s) ∧
  (∀ (x : SpdSignal) (s : State), s.spdrefValue x = none → Answers (.spdrefGood x) s s) ∧
  (∀ (r f q : Nat) (es : List (Nat × Bool)) (s : State), s.get R.SPN_SPDREF_CFG_MODE = 3 → spdCycle (spdEdges es) =
    some (r, f, q) → s.now < r + 3 * (r - q) → (5400 : Rat) ≤ 60000000000 / (((r - q) * max 1 (s.get
    R.SPN_SPDREF_CFG_PPR) : Nat) : Rat) → (60000000000 : Rat) / (((r - q) * max 1 (s.get R.SPN_SPDREF_CFG_PPR) :
    Nat) : Rat) ≤ 10000 → s.spdrefValue (.edges es) = some (60000000000 / (((r - q) * max 1 (s.get
    R.SPN_SPDREF_CFG_PPR) : Nat) : Rat))) ∧
  (∀ (xs : List Nat) (s : State), s.get R.SPN_SPDREF_CFG_MODE = 1 → xs.length = 16 → (1 / 10 : Rat) ≤ (xs.sum : Rat)
    * 18 / (16 * 4096 * 10) → (xs.sum : Rat) * 18 / (16 * 4096 * 10) ≤ (17 / 10 : Rat) → s.spdrefValue (.codes xs) =
    some (spdLine (1 / 5) (8 / 5) ((xs.sum : Rat) * 18 / (16 * 4096 * 10)))) ∧
  (∀ (err : Int) (s : State), s.spdrefOn = true → s.get R.SPN_SPDREF_CFG_MODE = 3 → s.flag R.SPN_SPDREF_CFG_SYNC =
    true → s.tetherAngle = true → s.spn.refEdges + 1 < s.get R.SPN_SPDREF_CFG_PPR → Answers (.spdrefSyncLock err) s
    (s.modSpn (fun y => { y with refEdges := y.refEdges + 1 }))) ∧
  (∀ (err : Int) (s : State), s.spdrefOn = true → s.get R.SPN_SPDREF_CFG_MODE = 3 → s.flag R.SPN_SPDREF_CFG_SYNC =
    true → s.tetherAngle = true → s.get R.SPN_SPDREF_CFG_PPR ≤ s.spn.refEdges + 1 → Answers (.spdrefSyncLock err) s
    ((s.modSpn (fun y => { y with refEdges := 0 })).revolutionEdge (s.indexError (s.tetherOff s.now err)))) ∧
  (∀ (err : Int) (s : State), (s.spdrefOn = false ∨ s.tetherAngle = false) → Answers (.spdrefSyncLock err) s s) ∧
  (∀ (e : Nat) (s : State), e < 8192 → s.spn.syncRun + 1 < 16 → s.revolutionEdge e = s.modSpn (fun y =>
    { y with syncRun := s.spn.syncRun + 1 })) ∧
  (∀ (e : Nat) (s : State), e < 8192 → 15 ≤ s.spn.syncRun → s.spn.syncRun < 65535 → s.revolutionEdge e = (s.modSpn
    (fun y => { y with syncRun := s.spn.syncRun + 1 })).setFlag R.SPN_SPDREF_STAT_SYNC_LOCK true) ∧
  (∀ (e : Nat) (s : State), 8192 ≤ e → e ≤ 32768 → s.revolutionEdge e = s.modSpn (fun y => { y with syncRun := 0 })) ∧
  (∀ (e : Nat) (s : State), 32768 < e → s.revolutionEdge e = (s.modSpn (fun y => { y with syncRun := 0 })).setFlag
    R.SPN_SPDREF_STAT_SYNC_LOCK false)

/-- Servo samples, actuator commands and actuator timeouts answer as chapter 7 says. SERVO_SAMPLE, ONTRK_SET,
FOLLOW_ERROR, SERVO_LOST, ACTUATOR_ENABLE, ACTUATOR_LOAD, ACTUATOR_UNLOAD, ACTUATOR_RETRACT, ACTUATOR_HOLD, LOAD_FAIL,
SEEK_TIMEOUT, RAMP_STOP_REACHED and RETRACT_DONE: a sample of an unpowered head does nothing; another is demodulated
and has its part in wedge timing, and its class is 3 with no servo address mark in the window, 2 with a burst sum out
of range, 1 with bad coded fields, else 0; ONTRK sets after ONTRK_N samples; a following error after T samples cuts
its heads once; SERVO_LOST after LOST_N samples unloads; EN moves an actuator between OFF and RAMP; CMD acts by Table
7-13; LOAD_FAIL after 150 ms, SEEK_TMO, the ramp stop and RET_T end their states. -/
def Obligations.ServoCommandsComplete : Prop :=
  (∀ (h : Head) (o : WedgeObs) (s : State), s.chPowered h.val = false → s.tthState < 5 → Answers (.servoSample h o)
    s s) ∧
  (∀ (h : Head) (o : WedgeObs) (s : State), Answers (.servoSample h o) s ((s.servoSample h.val
    o).wedgeWatch.wedgeMark h.val (s.markOf h.val o))) ∧
  (∀ (h : Head) (o : WedgeObs) (b : Bursts) (s : State), s.samOf h.val o = none → s.classOf h.val o b = (3, none)) ∧
  (∀ (h : Head) (o : WedgeObs) (b : Bursts) (m : SamHit) (t w : Nat) (s : State), s.samOf h.val o = some m →
    s.inReset (.ch h.val) = false → 4 * s.get R.SRV_DEMOD_BSUM_MIN ≤ b.a + b.b → b.a + b.b ≤ 4 * s.get
    R.SRV_DEMOD_BSUM_MAX → 4 * s.get R.SRV_DEMOD_BSUM_MIN ≤ b.c + b.d → b.c + b.d ≤ 4 * s.get R.SRV_DEMOD_BSUM_MAX →
    decodeWedge (msbFirst 72 (bitsOf o.bits (m.o + 513).toNat 72)) = some (t, w) → (s.tthLocked = false ∨ w = m.w) →
    s.classOf h.val o b = (0, some (t, w))) ∧
  (∀ (h : Head) (o : WedgeObs) (b : Bursts) (m : SamHit) (s : State), s.samOf h.val o = some m → s.inReset (.ch
    h.val) = false → 4 * s.get R.SRV_DEMOD_BSUM_MIN ≤ b.a + b.b → b.a + b.b ≤ 4 * s.get R.SRV_DEMOD_BSUM_MAX → 4 *
    s.get R.SRV_DEMOD_BSUM_MIN ≤ b.c + b.d → b.c + b.d ≤ 4 * s.get R.SRV_DEMOD_BSUM_MAX → decodeWedge (msbFirst 72
    (bitsOf o.bits (m.o + 513).toNat 72)) = none → s.classOf h.val o b = (1, none)) ∧
  (∀ (h : Head) (o : WedgeObs) (b : Bursts) (m : SamHit) (s : State), s.samOf h.val o = some m → s.inReset (.ch
    h.val) = false → (b.a + b.b < 4 * s.get R.SRV_DEMOD_BSUM_MIN ∨ 4 * s.get R.SRV_DEMOD_BSUM_MAX < b.c + b.d) →
    s.classOf h.val o b = (2, none)) ∧
  (∀ (h : Head) (s : State), s.countsOn h.val = true → s.get (R.SRV_ACT_LIM_ONTRK_N (h.val / 6)) ≤ (s.hsv
    h.val).onRun → 0 < (s.hsv h.val).onRun → Answers (.ontrkSet h) s ((s.setFlag (R.SRV_HD_STAT_ONTRK h.val)
    true).trackCheck (h.val / 6))) ∧
  (∀ (h : Head) (s : State), (s.hsv h.val).onRun < s.get (R.SRV_ACT_LIM_ONTRK_N (h.val / 6)) → Answers (.ontrkSet h)
    s s) ∧
  (∀ (n : Fin 28) (s : State), n.val < 24 → s.headFollow n.val = true → (s.hsv n.val).folDone = false → Answers
    (.followError n) s ((s.modHsv n.val (fun x => { x with folDone := true })).followCut n.val s.now)) ∧
  (∀ (n : Fin 28) (s : State), 24 ≤ n.val → s.vcmFollow (n.val - 24) = true → (s.act (n.val - 24)).folDone = false →
    s.actState (n.val - 24) = 5 → Answers (.followError n) s ((s.modAct (n.val - 24) (fun x =>
    { x with folDone := true })).followCut n.val s.now)) ∧
  (∀ (a : Act) (s : State), s.actState a.val = 5 → s.get (R.SRV_ACT_LIM_LOST_N a.val) ≤ (s.act a.val).lostRun →
    Answers (.servoLost a) s ((s.fault .srv (16 + a.val)).actUnload a.val)) ∧
  (∀ (a : Act) (s : State), s.actState a.val = 3 → s.get (R.SRV_ACT_LIM_LOST_N a.val) ≤ (s.act a.val).lostRun →
    Answers (.servoLost a) s (((s.seekAbort a.val).fault .srv (16 + a.val)).actUnload a.val)) ∧
  (∀ (a : Act) (s : State), (s.act a.val).lostRun < s.get (R.SRV_ACT_LIM_LOST_N a.val) → Answers (.servoLost a) s s) ∧
  (∀ (path : Path) (value : Word) (s : State), s.takes path R.A_SRV_CTRL value = true → Answers (.actuatorEnable
    path value) s ((List.range 4).foldl (fun (t : State) i => if bitOf (s.rd R.A_SRV_CTRL).toNat i = bitOf
    value.toNat i then t else t.actEnable i (bitOf value.toNat i)) (s.storeReg path R.A_SRV_CTRL value))) ∧
  (∀ (a : Act) (s : State), s.actState a.val = 0 → s.actEnable a.val true = s.actEnter a.val 1) ∧
  (∀ (a : Act) (s : State), s.actState a.val = 1 → s.actEnable a.val false = s.actEnter a.val 0) ∧
  (∀ (path : Path) (a : Act) (value : Word) (s : State), s.takes path (R.A_SRV_ACT_CTRL a.val) (withBits value 0 3
    1) = true → Answers (.actuatorLoad path a value) s ((((s.storeReg path (R.A_SRV_ACT_CTRL a.val) (withBits value
    0 3 1)).refreshHeads a.val).soleTarget a.val).actLoad a.val)) ∧
  (∀ (path : Path) (a : Act) (value : Word) (s : State), s.takes path (R.A_SRV_ACT_CTRL a.val) (withBits value 0 3
    2) = true → Answers (.actuatorUnload path a value) s ((((s.storeReg path (R.A_SRV_ACT_CTRL a.val) (withBits
    value 0 3 2)).refreshHeads a.val).soleTarget a.val).actUnload a.val)) ∧
  (∀ (path : Path) (a : Act) (value : Word) (s : State), s.takes path (R.A_SRV_ACT_CTRL a.val) (withBits value 0 3
    3) = true → Answers (.actuatorRetract path a value) s ((((s.storeReg path (R.A_SRV_ACT_CTRL a.val) (withBits
    value 0 3 3)).refreshHeads a.val).soleTarget a.val).actRetract a.val)) ∧
  (∀ (path : Path) (a : Act) (value : Word) (s : State), s.takes path (R.A_SRV_ACT_CTRL a.val) (withBits value 0 3
    4) = true → Answers (.actuatorHold path a value) s ((((s.storeReg path (R.A_SRV_ACT_CTRL a.val) (withBits value
    0 3 4)).refreshHeads a.val).soleTarget a.val).actHold a.val)) ∧
  (∀ (a : Act) (s : State), s.actState a.val = 1 → s.faultIs .srv (4 + a.val) = false → s.faultIs .srv (8 + a.val) =
    false → s.faultIs .srv (12 + a.val) = false → s.faultIs .srv (24 + a.val) = false → s.actLoad a.val = ((headsOf
    a.val).foldl (fun (t : State) h => t.modHsv h (fun x => { x with samAt := none })) ((s.lifeCount 2).modAct a.val
    (fun x => { x with loadAt := s.now, lostRun := 0, folRun := 0, count16 := 0 }))).actEnter a.val 2) ∧
  (∀ (a : Act) (s : State), s.actState a.val = 5 → s.actUnload a.val = s.actEnter a.val 7 ∧ s.actHold a.val =
    s.actEnter a.val 6) ∧
  (∀ (a : Act) (s : State), s.actState a.val = 5 → s.actRetract a.val = ((s.actEnter a.val 8).modAct a.val (fun x =>
    { x with retractAt := s.now })).set (R.SRV_VCM_I_I_CMD a.val) (s.get (R.SRV_ACT_RET_RET_I a.val))) ∧
  (∀ (a : Act) (s : State), s.actState a.val = 2 → (s.act a.val).loadAt + 150000000 ≤ s.now → Answers (.loadFail a)
    s ((s.fault .srv (4 + a.val)).actUnload a.val)) ∧
  (∀ (a : Act) (s : State), (s.actState a.val ≠ 2 ∨ s.now < (s.act a.val).loadAt + 150000000) → Answers (.loadFail
    a) s s) ∧
  (∀ (a : Act) (s : State), (s.actState a.val = 3 ∨ s.actState a.val = 4) → (s.act a.val).seekAt + s.get
    (R.SRV_ACT_LIM_SEEK_TMO a.val) * 1000000 ≤ s.now → Answers (.seekTimeout a) s (s.seekAbort a.val)) ∧
  (∀ (a : Act) (s : State), s.now < (s.act a.val).seekAt + s.get (R.SRV_ACT_LIM_SEEK_TMO a.val) * 1000000 → Answers
    (.seekTimeout a) s s) ∧
  (∀ (a : Act) (s : State), s.actState a.val = 7 → Answers (.rampStopReached a) s (s.actEnter a.val 1)) ∧
  (∀ (a : Act) (s : State), s.actState a.val ≠ 7 → Answers (.rampStopReached a) s s) ∧
  (∀ (a : Act) (s : State), s.actState a.val = 8 → (s.act a.val).retractAt + s.get (R.SRV_ACT_RET_RET_T a.val) *
    1000000 ≤ s.now → Answers (.retractDone a) s (((s.set (R.SRV_VCM_I_I_CMD a.val) 0).modAct a.val (fun x =>
    { x with duty := 0, sum := 0 })).actEnter a.val (if bitOf (s.get R.SRV_CTRL_ACT_EN) a.val then 1 else 0))) ∧
  (∀ (a : Act) (s : State), s.actState a.val ≠ 8 → Answers (.retractDone a) s s)

/-- Gust ports, Bridle links and VCM ports answer as chapter 7 says. GUST_FRAME, GUST_TRIP, GUST_TRIP_CLEAR,
GUST_FRAME_TIMEOUT, GUST_CRC_LOSS, BRIDLE_FRAME_SEND, BRIDLE_REPLY, BRIDLE_REFRESH, BRIDLE_LINK_DOWN, BRIDLE_LINK_UP,
VCM_CURRENT_SAMPLE, VCM_OVERCURRENT and VCM_BRIDGE_FAULT: a frame with a bad CRC is counted and recorded; TRIP_N
frames beyond a threshold trip the port and cut its heads; a port without a good frame for TMO µs or with three bad
CRCs is lost; a trip clears after HOLD; a Bridle frame carries the loop's output in FOLLOW; a reply with the right CRC
and echoes ends the exchange; three bad frames take the link down and unload, three valid replies bring it up; a
current sample runs the regulator; 8 samples over IMAX set BRIDGE_FLT and retract; a bridge fault disables the bridge. -/
def Obligations.GustBridleVcmComplete : Prop :=
  (∀ (n : Fin 2) (f : Nat) (s : State), s.gustEn n.val = true → frameOk f = false → Answers (.gustFrame n f) s
    (((s.bump (R.SRV_GUST_STAT_CRC_CNT n.val) 1).modGust n.val (fun g =>
    { g with crcRun := g.crcRun + 1 })).ldgProtocol 8 n.val)) ∧
  (∀ (n : Fin 2) (f : Nat) (s : State), s.gustEn n.val = true → frameOk f = true → (signedOf (bitsOf f 24 16)
    16).natAbs ≤ s.get (R.SRV_GUST_TRIP_TRIP_LIN n.val) → (signedOf (bitsOf f 8 16) 16).natAbs ≤ s.get
    (R.SRV_GUST_TRIP_TRIP_ROT n.val) → Answers (.gustFrame n f) s (((s.set (R.SRV_GUST_LAST_LIN n.val) (bitsOf f 24
    16)).set (R.SRV_GUST_LAST_ROT n.val) (bitsOf f 8 16)).modGust n.val (fun g =>
    { g with tripRun := 0, crcRun := 0, goodAt := s.now, within := some (g.within.getD s.now), goodSince := some (g.goodSince.getD s.now) }))) ∧
  (∀ (n : Fin 2) (f : Nat) (s : State), s.gustEn n.val = false → Answers (.gustFrame n f) s s) ∧
  (∀ (n : Fin 2) (s : State), s.gustEn n.val = true → s.gustTripN n.val ≤ (s.gust n.val).tripRun → 0 < (s.gust
    n.val).tripRun → Answers (.gustTrip n) s (((s.setFlag (R.SRV_GUST_STAT_TRIPPED n.val) true).sourceOnHeads
    (s.gustHeads n.val) 5).fault .srv (28 + n.val))) ∧
  (∀ (n : Fin 2) (s : State), (s.gust n.val).tripRun < s.gustTripN n.val → Answers (.gustTrip n) s s) ∧
  (∀ (n : Fin 2) (s : State), s.held n.val (s.gust n.val).within = true → s.held n.val (s.gust n.val).goodSince =
    true → Answers (.gustTripClear n) s ((s.setFlag (R.SRV_GUST_STAT_LOST n.val) false).setFlag
    (R.SRV_GUST_STAT_TRIPPED n.val) false)) ∧
  (∀ (n : Fin 2) (s : State), s.gustEn n.val = true → (s.gust n.val).goodAt + s.get (R.SRV_GUST_TIME_TMO n.val) *
    1000 ≤ s.now → Answers (.gustFrameTimeout n) s ((s.gustLost n.val).ldgProtocol 8 n.val)) ∧
  (∀ (n : Fin 2) (s : State), s.now < (s.gust n.val).goodAt + s.get (R.SRV_GUST_TIME_TMO n.val) * 1000 → Answers
    (.gustFrameTimeout n) s s) ∧
  (∀ (n : Fin 2) (s : State), s.gustEn n.val = true → 3 ≤ (s.gust n.val).crcRun → Answers (.gustCrcLoss n) s
    (s.gustLost n.val)) ∧
  (∀ (n : Fin 2) (s : State), (s.gust n.val).crcRun < 3 → Answers (.gustCrcLoss n) s s) ∧
  (∀ (n : Fin 2) (s : State), s.gustEn n.val = true → s.gustLost n.val = ((((s.modGust n.val (fun g =>
    { g with within := none, goodSince := none })).setFlag (R.SRV_GUST_STAT_LOST n.val) true).gustTripped
    n.val).fault .srv (30 + n.val))) ∧
  (∀ (a : Act) (ch : Fin 6) (s : State), s.bridleOn a.val = true → (s.act a.val).linkUp = true → s.bstateOf (6 *
    a.val + ch.val) = 2 → Answers (.bridleFrameSend a ch) s ((s.modHsv (6 * a.val + ch.val) (fun x =>
    { x with u := (s.hsv (6 * a.val + ch.val)).out })).bridleSend a.val ch.val (s.hsv (6 * a.val + ch.val)).out)) ∧
  (∀ (a : Act) (ch : Fin 6) (s : State), s.bridleOn a.val = true → (s.act a.val).linkUp = true → s.bstateOf (6 *
    a.val + ch.val) = 1 → Answers (.bridleFrameSend a ch) s ((s.modHsv (6 * a.val + ch.val) (fun x =>
    { x with u := 0 })).bridleSend a.val ch.val 0)) ∧
  (∀ (a : Act) (ch : Fin 6) (v : Int) (s : State), s.bridleSend a.val ch.val v = s.modAct a.val (fun x =>
    { x with frame := bridleFrame ch.val v x.seq, await := x.await ++ [(ch.val, x.seq)], seq := (x.seq + 1) % 16, sentAt := s.now, lastCmd := x.lastCmd.set ch.val v })) ∧
  (∀ (a : Act) (ch seq : Nat) (r : List (Nat × Nat)) (s : State), (s.act a.val).await = (ch, seq) :: r → Answers
    (.bridleReply a none) s ((s.ldgProtocol 4 a.val).modAct a.val (fun x =>
    { x with await := r, badRun := x.badRun + 1, goodRun := 0 }))) ∧
  (∀ (a : Act) (f ch seq : Nat) (r : List (Nat × Nat)) (s : State), (s.act a.val).await = (ch, seq) :: r → ch < 6 →
    frameOk f = true → bitsOf f 36 4 = 6 → bitsOf f 33 3 = ch → bitsOf f 26 4 = seq → bitsOf f 30 3 = 0 → Answers
    (.bridleReply a (some f)) s (s.modAct a.val (fun x =>
    { x with await := r, badRun := 0, goodRun := x.goodRun + 1, sense := x.sense.set ch (signedOf (bitsOf f 10 16) 16) }))) ∧
  (∀ (a : Act) (f : Option Nat) (s : State), (s.act a.val).await = [] → Answers (.bridleReply a f) s s) ∧
  (∀ (a : Act) (s : State), s.bridleOn a.val = true → (s.act a.val).sentAt + 10000 ≤ s.now → (s.act a.val).linkUp =
    false → Answers (.bridleRefresh a) s (((headsOf a.val).foldl (fun (t : State) h => t.modHsv h (fun x =>
    { x with u := 0 })) s).bridleSend a.val 6 0)) ∧
  (∀ (a : Act) (s : State), s.now < (s.act a.val).sentAt + 10000 → Answers (.bridleRefresh a) s s) ∧
  (∀ (a : Act) (s : State), s.bridleFit a.val = true → (s.act a.val).linkUp = true → 3 ≤ (s.act a.val).badRun →
    (s.act a.val).flagged = false → (headsOf a.val).any (fun h => s.bstateOf h == 2) = false → Answers
    (.bridleLinkDown a) s (((((s.modAct a.val (fun y => { y with linkUp := false, goodRun := 0 })).fault .srv (8 +
    a.val)).sourceOnHeads (headsOf a.val) 8).refreshHeads a.val).actUnload a.val)) ∧
  (∀ (a : Act) (s : State), (s.act a.val).badRun < 3 → (s.act a.val).flagged = false → Answers (.bridleLinkDown a) s
    s) ∧
  (∀ (a : Act) (s : State), (s.act a.val).linkUp = false → 3 ≤ (s.act a.val).goodRun → Answers (.bridleLinkUp a) s
    (((s.modAct a.val (fun x => { x with linkUp := true, flagged := false, badRun := 0 })).refreshHeads
    a.val).linkReopen a.val)) ∧
  (∀ (a : Act) (s : State), (s.act a.val).goodRun < 3 → Answers (.bridleLinkUp a) s s) ∧
  (∀ (a : Act) (bits : Nat) (s : State), s.actState a.val ≠ 2 → s.actState a.val ≠ 7 → s.flag (R.SRV_VCM_PWM_EN
    a.val) = true → 2 ≤ s.actState a.val → (s.act a.val).fltLow = false → Answers (.vcmCurrentSample a bits) s (
      (let w := ((s.act a.val).isd * 2 ^ 64 + bits % 2 ^ 64) % 2 ^ 190;
       let u := (s.vcmFilter w).2.setInt (R.SRV_VCM_I_I_MEAS a.val) (s.vcmFilter w).1;
       let g := regulator (u.get (R.SRV_VCM_PI_KP a.val)) (u.get (R.SRV_VCM_PI_KI a.val)) (u.getInt
          (R.SRV_VCM_I_I_CMD a.val) - (s.vcmFilter w).1) (u.act a.val).sum;
       u.modAct a.val (fun y =>
          { y with isd := w, sum := g.1, duty := g.2, pwm := vcmHigh (u.get (R.SRV_VCM_PWM_PER a.val)) g.2, overRun := (if u.get (R.SRV_VCM_PWM_IMAX a.val) < 2 * (s.vcmFilter w).1.natAbs then y.overRun + 1 else 0), count16 := 0 })))) ∧
  (∀ (a : Act) (bits : Nat) (s : State), s.actState a.val < 2 → Answers (.vcmCurrentSample a bits) s (
      (let w := ((s.act a.val).isd * 2 ^ 64 + bits % 2 ^ 64) % 2 ^ 190;
       let u := (s.vcmFilter w).2.setInt (R.SRV_VCM_I_I_MEAS a.val) (s.vcmFilter w).1;
       u.modAct a.val (fun y =>
          { y with isd := w, sum := 0, duty := 0, pwm := vcmHigh (u.get (R.SRV_VCM_PWM_PER a.val)) 0, overRun := (if u.get (R.SRV_VCM_PWM_IMAX a.val) < 2 * (s.vcmFilter w).1.natAbs then y.overRun + 1 else 0), count16 := 0 })))) ∧
  (∀ (a : Act) (s : State), 8 ≤ (s.act a.val).overRun → Answers (.vcmOvercurrent a) s ((s.fault .srv (12 +
    a.val)).actRetract a.val)) ∧
  (∀ (a : Act) (s : State), (s.act a.val).overRun < 8 → Answers (.vcmOvercurrent a) s s) ∧
  (∀ (a : Act) (s : State), Answers (.vcmBridgeFault a true) s (((((s.modAct a.val (fun x =>
    { x with fltLow := true })).fault .srv (12 + a.val)).setFlag (R.SRV_VCM_PWM_EN a.val) false).modAct a.val (fun x
    => { x with duty := 0, sum := 0 })).ldgProtocol 5 a.val)) ∧
  (∀ (a : Act) (s : State), Answers (.vcmBridgeFault a false) s (s.modAct a.val (fun x =>
    { x with fltLow := false })))

/-- Jobs of the control engine start, end and overrun as R203 to R212 say. CLE_JOB_START, CLE_JOB_END and CLE_JOB_OVERRUN:
the job at the head of the queue goes to the lowest free lane when its committed set is readable and valid, else set
damage is flagged and its loop faults; with no free lane or no job nothing happens; a job that ends by its deadline
frees its lane and is finished: the loop's states, output register and counters follow its computation, the output
goes to its user, and the loop's overrun run is cleared; a job past its deadline is overrun: cancelled, counted,
flagged, its loop's heads cut from the start of the job on, and its loop faults after OVR_RUN overruns in a row. -/
def Obligations.ControlEngineJobsComplete : Prop :=
  (∀ (j : CleJob) (r : List CleJob) (s : State), s.cle.queue = j :: r → s.cle.lanes = [none, none] → ((s.setCle
    { s.cle with queue := r }).setRead j.loop j.set).1 = true → setValid (s.cleSet j.loop j.set) = true → Answers
    .cleJobStart s ((((s.setCle { s.cle with queue := r }).setRead j.loop j.set).2).setCle
    { ((s.setCle { s.cle with queue := r }).setRead j.loop j.set).2.cle with lanes := ((s.setCle { s.cle with queue := r }).setRead j.loop j.set).2.cle.lanes.set 0 (some (j, s.now)) })) ∧
  (∀ (j k : CleJob) (t : Nat) (r : List CleJob) (s : State), s.cle.queue = j :: r → s.cle.lanes = [some (k, t),
    none] → ((s.setCle { s.cle with queue := r }).setRead j.loop j.set).1 = true → setValid (s.cleSet j.loop j.set)
    = true → Answers .cleJobStart s ((((s.setCle { s.cle with queue := r }).setRead j.loop j.set).2).setCle
    { ((s.setCle { s.cle with queue := r }).setRead j.loop j.set).2.cle with lanes := ((s.setCle { s.cle with queue := r }).setRead j.loop j.set).2.cle.lanes.set 1 (some (j, s.now)) })) ∧
  (∀ (j : CleJob) (r : List CleJob) (s : State), s.cle.queue = j :: r → s.cle.lanes = [none, none] → (((s.setCle
    { s.cle with queue := r }).setRead j.loop j.set).1 = false ∨ setValid (s.cleSet j.loop j.set) = false) → Answers
    .cleJobStart s (((((s.setCle { s.cle with queue := r }).setRead j.loop j.set).2).fault .cle 3).loopFault
    j.loop)) ∧
  (∀ (j k : CleJob) (t u : Nat) (s : State), s.cle.lanes = [some (j, t), some (k, u)] → Answers .cleJobStart s s) ∧
  (∀ (s : State), s.cle.queue = [] → Answers .cleJobStart s s) ∧
  (∀ (i : Fin 2) (j : CleJob) (t : Nat) (s : State), (s.cle.lanes[i.val]?).getD none = some (j, t) → s.now ≤
    j.deadline → Answers (.cleJobEnd i) s ((s.setCle { s.cle with lanes := s.cle.lanes.set i.val none }).finishJob
    j)) ∧
  (∀ (i : Fin 2) (j : CleJob) (t : Nat) (s : State), (s.cle.lanes[i.val]?).getD none = some (j, t) → j.deadline <
    s.now → Answers (.cleJobEnd i) s (s.cleOverrun j.loop)) ∧
  (∀ (i : Fin 2) (s : State), (s.cle.lanes[i.val]?).getD none = none → Answers (.cleJobEnd i) s s) ∧
  (∀ (j : CleJob) (s : State), j.loop < 28 → (s.cleLoop j.loop).lastSet = some j.set → s.finishJob j =
      (let d := runChannel (s.cleSet j.loop j.set) (jobInput (s.cleSet j.loop j.set) (s.cleLoop j.loop).prev j).1
          (s.injValue j.loop).1 j.f0 j.f1 (s.get R.CLE_INJ_CTRL_POINT == 1) 0 (s.cleLoop j.loop).s1 (s.cleLoop
          j.loop).s2;
       let xp := jobInput (s.cleSet j.loop j.set) (s.cleLoop j.loop).prev j;
       let t1 := (s.injValue j.loop).2.modLoop j.loop (fun l =>
          { l with s1 := d.s1, s2 := d.s2, prev := xp.1, lastSet := some j.set, ovr := false });
       let t2 := (((t1.set (R.CLE_LOOP_STAT_RUN j.loop) 0).set (R.CLE_LOOP_STAT_SET j.loop) j.set).bump
          (R.CLE_LOOP_CNT_JOBS j.loop) 1).setInt (R.CLE_LOOP_OUT_OUT j.loop) d.out;
       let t4 := ((t2.jobLat j).jobFlags j d.acc (d.clip || xp.2) d.lim).seekBack j;
       let t5 := (((t4.deliver j.loop d.out d.out).capture j.loop j.stamp (s.injValue j.loop).1 d.x d.out
          false).injAdvance j.loop).injCheck j.loop;
       if t5.flag (R.CLE_LOOP_CTRL_EN j.loop) then t5 else t5.loopOutputs j.loop)) ∧
  (∀ (n : LoopN) (j : CleJob) (s : State), s.jobOf n.val = some j → j.deadline ≤ s.now → Answers (.cleJobOverrun n)
    s (s.cleOverrun n.val)) ∧
  (∀ (n : LoopN) (j : CleJob) (s : State), s.jobOf n.val = some j → s.now < j.deadline → Answers (.cleJobOverrun n)
    s s) ∧
  (∀ (n : LoopN) (s : State), s.jobOf n.val = none → Answers (.cleJobOverrun n) s s) ∧
  (∀ (n : LoopN) (j : CleJob) (s : State), s.jobOf n.val = some j → s.cleOverrun n.val =
      (let r := satN (s.get (R.CLE_LOOP_STAT_RUN n.val) + 1) 15;
       let s1 := ((((s.cancelJobs n.val).modLoop n.val (fun l => { l with ovr := true })).setFlag
          (R.CLE_LOOP_STAT_OVR n.val) true).bump (R.CLE_LOOP_OVR_OVERRUNS n.val) 1).set (R.CLE_LOOP_STAT_RUN n.val)
          r;
       let s3 := (((s1.captureOverrun n.val j).injAdvance n.val).fault .cle 0).loopSource n.val 3 j.from0;
       if s3.get (R.CLE_LOOP_CTRL_OVR_RUN n.val) ≤ r then s3.loopFault n.val else s3)) ∧
  (∀ (n : LoopN) (s : State), (s.cancelJobs n.val).hasJob n.val = false)

/-- Loop restarts, enables, commits, injection and capture of the control engine answer as R206 and R213 to R216 say.
CLE_LOOP_RESTART, CLE_LOOP_DISABLE, CLE_LOOP_COUNTER_CLEAR, CLE_COMMIT, CLE_COMMIT_COPY, CLE_INJECTION_ENABLE and
CLE_CAPTURE_ARM: a restart clears the loop's states; a loop disabled with no job queued or running has the effect of
R213 on its output, one with a job has it when the job ends; CNT_CLR clears its counters; a commit of a good staged
set waits, a bad one is flagged, and the waiting set is copied once no job of its loop is queued or running; injection
starts at phase 0 and LFSR 0x7FFF; ARM starts a capture at entry 0. -/
def Obligations.ControlEngineCommandsComplete : Prop :=
  (∀ (path : Path) (n : LoopN) (value : Word) (s : State), s.flag (R.CLE_LOOP_STAT_FAULTED n.val) = true → s.takes
    path (R.A_CLE_LOOP_STAT n.val) (withBits value 4 1 1) = true → Answers (.cleLoopRestart path n value) s
    (((s.storeReg path (R.A_CLE_LOOP_STAT n.val) (withBits value 4 1 1)).set (R.CLE_LOOP_STAT_RUN n.val) 0).modLoop
    n.val (fun _ => ⟨List.replicate 4 0, List.replicate 4 0, 0, none, false, false⟩))) ∧
  (∀ (path : Path) (n : LoopN) (value : Word) (s : State), s.flag (R.CLE_LOOP_CTRL_EN n.val) = true → bitOf
    value.toNat 1 = false → s.hasJob n.val = false → s.takes path (R.A_CLE_LOOP_CTRL n.val) (withBits value 0 1 0) =
    true → Answers (.cleLoopDisable path n value) s ((s.storeReg path (R.A_CLE_LOOP_CTRL n.val) (withBits value 0 1
    0)).loopOutputs n.val)) ∧
  (∀ (path : Path) (n : LoopN) (value : Word) (s : State), bitOf value.toNat 1 = false → (s.hasJob n.val = true ∨
    s.flag (R.CLE_LOOP_CTRL_EN n.val) = false) → s.takes path (R.A_CLE_LOOP_CTRL n.val) (withBits value 0 1 0) =
    true → Answers (.cleLoopDisable path n value) s ((s.storeReg path (R.A_CLE_LOOP_CTRL n.val) (withBits value 0 1
    0)))) ∧
  (∀ (path : Path) (n : LoopN) (value : Word) (s : State), bitOf value.toNat 0 = true → s.takes path
    (R.A_CLE_LOOP_CTRL n.val) (withBits value 1 1 1) = true → Answers (.cleLoopCounterClear path n value) s
    (((s.storeReg path (R.A_CLE_LOOP_CTRL n.val) (withBits value 1 1 1)).set (R.CLE_LOOP_CNT_JOBS n.val) 0).set
    (R.CLE_LOOP_OVR_OVERRUNS n.val) 0)) ∧
  (∀ (path : Path) (value : Word) (s : State), bitsOf value.toNat 0 5 < 30 → s.cle.commit = none → s.get
    (R.CLE_STAGE_WORD 29) = 0 → s.takes path R.A_CLE_COMMIT value = true → Answers (.cleCommit path value) s
    ((s.storeReg path R.A_CLE_COMMIT value).cleCommit (bitsOf value.toNat 0 5) (bitsOf value.toNat 8 2))) ∧
  (∀ (n k : Nat) (s : State), n < 30 → s.cle.commit = none → stageOk n ((List.range 32).map (fun i => s.get
    (R.CLE_STAGE_WORD i))) = true → s.cleCommit n k = s.setCle
    { s.cle with commit := some (n, k, (List.range 32).map (fun i => s.get (R.CLE_STAGE_WORD i))) }) ∧
  (∀ (n k : Nat) (s : State), n < 30 → s.cle.commit = none → stageOk n ((List.range 32).map (fun i => s.get
    (R.CLE_STAGE_WORD i))) = false → s.cleCommit n k = s.fault .cle 3) ∧
  (∀ (n k : Nat) (ws : List Nat) (s : State), s.cle.commit = some (n, k, ws) → s.hasJob n = false → Answers
    .cleCommitCopy s ((s.arrayStored 0x40 0 (0x400 + 64 * n + 16 * k) 16).setCle
    { s.cle with commit := none, sets := (ws.zipIdx).foldl (fun m e => setCnt m (128 * n + 32 * k + e.2) e.1) s.cle.sets })) ∧
  (∀ (n k : Nat) (ws : List Nat) (s : State), s.cle.commit = some (n, k, ws) → s.hasJob n = true → Answers
    .cleCommitCopy s s) ∧
  (∀ (s : State), s.cle.commit = none → Answers .cleCommitCopy s s) ∧
  (∀ (path : Path) (value : Word) (s : State), s.flag R.CLE_INJ_CTRL_EN = false → (s.storeReg path R.A_CLE_INJ_CTRL
    (withBits value 31 1 1)).flag R.CLE_INJ_CTRL_EN = true → s.takes path R.A_CLE_INJ_CTRL (withBits value 31 1 1) =
    true → Answers (.cleInjectionEnable path value) s ((s.storeReg path R.A_CLE_INJ_CTRL (withBits value 31 1
    1)).injEnable)) ∧
  (∀ (path : Path) (value : Word) (s : State), s.takes path R.A_CLE_CAP_CTRL (withBits value 31 1 1) = true →
    Answers (.cleCaptureArm path value) s (((((((s.storeReg path R.A_CLE_CAP_CTRL (withBits value 31 1 1)).setCle
    { (s.storeReg path R.A_CLE_CAP_CTRL (withBits value 31 1 1)).cle with capSkip := 0 }).set R.CLE_CAP_STAT_TAKEN
    0).setFlag R.CLE_CAP_STAT_OVR_SEEN false).setFlag R.CLE_CAP_STAT_DONE false).setFlag R.CLE_CAP_STAT_RUN true)))

/-- The Tether's commands answer as chapter 3 says. TTH_ENABLE, TTH_DISABLE, TTH_SELECT_REQUEST, TETHER_FREQUENCY_FOUND,
TETHER_FRAME, TETHER_CLOCK_SWITCH, RELOCK_FAIL and ZONE_SETTLED: EN set in OFF enters SEARCH, or WREADY with WEDGE; EN
cleared in lock declares a loss that ends in OFF, and out of lock enters OFF; SELECT in LOCKED waits for the next
frame boundary; a slot rate within 0.05 % of the PLL enters the next state on that input; a frame before acquisition
changes nothing, and a frame in acquisition is taken slot by slot and then as a whole; the clock switches 128 Tether
clocks after the loss; no lock for 1 s at speed sets RELOCK_FAIL once; a settled zone makes a read side READY. -/
def Obligations.TetherCommandsComplete : Prop :=
  (∀ (path : Path) (value : Word) (s : State), s.takes path R.A_TTH_CTRL (withBits value 0 1 1) = true → Answers
    (.tthEnable path value) s ((s.storeReg path R.A_TTH_CTRL (withBits value 0 1 1)).tthCtrl (s.rd
    R.A_TTH_CTRL).toNat (withBits value 0 1 1).toNat)) ∧
  (∀ (s : State), s.tthState = 0 → s.flag R.TTH_CTRL_EN = true → bitOf (s.get R.SYS_PWR_STAT_PD) 6 = true → s.flag
    R.TTH_CTRL_WEDGE = false → s.tthStart = (s.set R.TTH_STAT_STATE 1).modTth (fun t => { t with goodRun := 0 })) ∧
  (∀ (s : State), s.tthState = 0 → s.flag R.TTH_CTRL_EN = true → bitOf (s.get R.SYS_PWR_STAT_PD) 6 = true → s.flag
    R.TTH_CTRL_WEDGE = true → s.spnState ≠ 0 → s.tthStart = (s.set R.TTH_STAT_STATE 5).modTth (fun t =>
    { t with head := none, unloaded := true, marks := 0, missed := 0, pllHz := clockOfSpeed s.spn.obsSpeed })) ∧
  (∀ (path : Path) (value : Word) (s : State), s.takes path R.A_TTH_CTRL (withBits value 0 1 0) = true → Answers
    (.tthDisable path value) s ((s.storeReg path R.A_TTH_CTRL (withBits value 0 1 0)).tthCtrl (s.rd
    R.A_TTH_CTRL).toNat (withBits value 0 1 0).toNat)) ∧
  (∀ (s : State), s.tth.lossTo = none → s.tthLocked = false → s.tthDisable = s.tthOff) ∧
  (∀ (s : State), s.tth.lossTo = none → s.tthLocked = true → s.tthDisable = (((s.sourceOnHeads allHeads 0).set64
    R.A_TTH_LOSS_STAMP_LO s.now).modTth (fun t =>
    { t with lossTo := some (0, s.now), acqFrom := some s.now, select := none })).headsUnlock) ∧
  (∀ (path : Path) (value : Word) (s : State), s.takes path R.A_TTH_CTRL value = true → Answers (.tthSelectRequest
    path value) s ((s.storeReg path R.A_TTH_CTRL value).tthCtrl (s.rd R.A_TTH_CTRL).toNat value.toNat)) ∧
  (∀ (i : Fin 2) (s : State), s.tthState = 4 → s.tth.lossTo = none → s.refActive ≠ i.val → s.tthSelect (i.val + 1) =
    s.modTth (fun t => { t with select := some i.val })) ∧
  (∀ (i : Fin 2) (s : State), (s.tthState ≠ 4 ∨ s.refActive = i.val) → s.tthSelect (i.val + 1) = s) ∧
  (∀ (i : Fin 2) (slotHz pllHz : Nat) (s : State), s.tthState = 1 → s.refEn i.val = true → i.val = s.get
    R.TTH_CTRL_PRIMARY → s.flag (refQ i.val) = true → ((32 * slotHz : Int) - pllHz).natAbs * 2000 ≤ pllHz → 0 <
    pllHz → ((pllHz : Int) - clockOfSpeed s.spn.obsSpeed).natAbs * 50 ≤ clockOfSpeed s.spn.obsSpeed → Answers
    (.tetherFrequencyFound i slotHz pllHz) s (((s.set R.TTH_STAT_STATE 2).set R.TTH_STAT_ACTIVE i.val).modTth (fun t
    => { t with goodRun := 0, pllHz := pllHz }))) ∧
  (∀ (i : Fin 2) (slotHz pllHz : Nat) (s : State), (s.tthState ≠ 1 ∨ pllHz < ((32 * slotHz : Int) - pllHz).natAbs *
    2000) → Answers (.tetherFrequencyFound i slotHz pllHz) s s) ∧
  (∀ (i : Fin 2) (f : BandFrame) (s : State), (s.tthState < 2 ∨ 4 < s.tthState) → Answers (.tetherFrame i f) s s) ∧
  (∀ (i : Fin 2) (f : BandFrame) (s : State), s.tthState = 2 → Answers (.tetherFrame i f) s ((List.range 64).foldl
    (fun (t : State) k => t.bandSlot i.val k (if s.refEn i.val then (f.slots[k]?).getD none else none)
    ((f.amps[k]?).getD 0)) s)) ∧
  (∀ (i : Fin 2) (f : BandFrame) (s : State), (s.tthState = 3 ∨ s.tthState = 4) → 3 ≤ ((List.range 64).foldl (fun (t
    : State) k => t.bandSlot i.val k (if s.refEn i.val then (f.slots[k]?).getD none else none) ((f.amps[k]?).getD
    0)) s).tthState → Answers (.tetherFrame i f) s (((List.range 64).foldl (fun (t : State) k => t.bandSlot i.val k
    (if s.refEn i.val then (f.slots[k]?).getD none else none) ((f.amps[k]?).getD 0)) s).bandFrameEnd i.val f
    (frameNumber ((List.range 64).map (fun k => if s.refEn i.val then (f.slots[k]?).getD none else none)))
    ((List.range 64).all (fun k => decide (s.get R.TTH_CFG_AMP_MIN ≤ (f.amps[k]?).getD 0) && decide
    ((f.amps[k]?).getD 0 ≤ s.get R.TTH_CFG_AMP_MAX))))) ∧
  (∀ (s : State), s.tth.lossTo = none → Answers .tetherClockSwitch s s) ∧
  (∀ (t : Nat) (s : State), s.tth.lossTo = some (1, t) → s.passed t (128 * 1000000000 / max 1 s.fTether) = true →
    Answers .tetherClockSwitch s ((s.tthUnlock.set R.TTH_STAT_STATE 1).modTth (fun x =>
    { x with goodRun := 0, marks := 0, missed := 0 }))) ∧
  (∀ (t : Nat) (s : State), s.tth.lossTo = some (0, t) → s.passed t (128 * 1000000000 / max 1 s.fTether) = true →
    Answers .tetherClockSwitch s s.tthUnlock.tthOff.tthStart) ∧
  (∀ (t : Nat) (s : State), s.tth.acqFrom = some t → s.tthLocked = false → s.tth.lossTo = none → s.flag
    R.SPN_STAT_AT_SPEED = true → s.passed t 1000000000 = true → Answers .relockFail s ((s.fault .tth 3).modTth (fun
    x => { x with acqFrom := none }))) ∧
  (∀ (t : Nat) (s : State), s.tth.acqFrom = some t → s.passed t 1000000000 = false → Answers .relockFail s s) ∧
  (∀ (h : Head) (s : State), s.get (R.CH_STAT_STATE h.val) = 2 → Answers (.zoneSettled h) s (s.set (R.CH_STAT_STATE
    h.val) 3)) ∧
  (∀ (h : Head) (s : State), s.get (R.CH_STAT_STATE h.val) ≠ 2 → Answers (.zoneSettled h) s s)

/-- Sector arrivals, sync decisions, captures and the read channel's register commands answer as chapter 4 says.
SECTOR_ARRIVAL, SYNC_DECISION, LLR_CAPTURE_COMPLETE, CH_RELOAD, CH_COUNTER_CLEAR and CH_WR_COUNTER_CLEAR: a sector
that arrives with nothing armed, or without lock, does nothing; a sector that does not pass the head, within the
bounds of Table 3-6 on its place, is not transferred; a read armed less than 256 bits ahead, or refused for its bit
rate, is reported ABANDONED; a usable read that the limits allow opens its gate; the mark taken and the sync settings
give a read its candidates, and a read without candidates ends its attempt; at the end of capture the candidates of a
first or second read join the queue in order of position, and a third or later read joins the sector's sum; RELOAD is
remembered for the next read gate; a counter clear sets each named counter to 0. -/
def Obligations.ReadChannelCommandsComplete : Prop :=
  (∀ (h : Head) (off : Nat) (s : State), (s.head h.val).arms = [] → Answers (.sectorArrival h off) s s) ∧
  (∀ (h : Head) (off : Nat) (s : State), s.tthLocked = false → Answers (.sectorArrival h off) s s) ∧
  (∀ (h : Head) (off : Nat) (a : Arm) (r : List Arm) (s : State), (s.head h.val).arms = a :: r → s.tthLocked = true
    → a.kind = .read → s.atSector h.val a (s.gateLead h.val) off = true → s.get (R.CH_STAT_STATE h.val) = 3 → a.late
    = true → Answers (.sectorArrival h off) s (((s.reportAbandoned h.val a).popArm h.val).zoneCatchUp h.val)) ∧
  (∀ (h : Head) (off : Nat) (a : Arm) (r : List Arm) (s : State), (s.head h.val).arms = a :: r → s.tthLocked = true
    → a.kind = .read → s.atSector h.val a (s.gateLead h.val) off = true → s.get (R.CH_STAT_STATE h.val) = 3 → a.late
    = false → ((s.gateReload h.val).refuse h.val a).1.any = false → (s.gateReload h.val).readAllowed h.val = true →
    Answers (.sectorArrival h off) s (((s.gateReload h.val).readOpen h.val a).zoneCatchUp h.val)) ∧
  (∀ (h : Head) (off : Nat) (a : Arm) (r : List Arm) (s : State), (s.head h.val).arms = a :: r → s.tthLocked = true
    → a.kind = .read → s.atSector h.val a (s.gateLead h.val) off = true → s.get (R.CH_STAT_STATE h.val) = 3 → a.late
    = false → ((s.gateReload h.val).refuse h.val a).1.any = true → ((s.gateReload h.val).refuse h.val a).1.rate =
    true → Answers (.sectorArrival h off) s (((((s.gateReload h.val).refuse h.val a).2.reportAbandoned h.val
    a).popArm h.val).zoneCatchUp h.val)) ∧
  (∀ (h : Head) (off : Nat) (a : Arm) (r : List Arm) (s : State), (s.head h.val).arms = a :: r → s.tthLocked = true
    → a.kind = .write → s.atSector h.val a 0 off = true → s.get (R.CH_WR_STAT_STATE h.val) = 3 → Answers
    (.sectorArrival h off) s (s.sectorStart h.val)) ∧
  (∀ (h : Head) (off : Nat) (a : Arm) (r : List Arm) (s : State), (s.head h.val).arms = a :: r → s.atSector h.val a
    (if a.kind = .write then 0 else s.gateLead h.val) off = false → Answers (.sectorArrival h off) s s) ∧
  (∀ (h back off : Nat) (a : Arm) (s : State), s.placeBound a ≤ off → s.atSector h a back off = s.atSector h a back
    (s.placeBound a)) ∧
  (∀ (a : Arm) (s : State), s.get R.TTH_STAT_STATE = 7 → a.kind = .read → s.placeBound a = 64) ∧
  (∀ (a : Arm) (s : State), (s.get R.TTH_STAT_STATE ≠ 7 ∨ a.kind = .write) → s.placeBound a = 24) ∧
  (∀ (h : Head) (hard : Nat) (s : State), s.rdPool.jobs.find? (fun j => j.head == h.val && !j.decided) = none →
    Answers (.syncDecision h hard) s s) ∧
  (∀ (h : Head) (hard : Nat) (j : ReadJob) (e : Int) (s : State), s.rdPool.jobs.find? (fun j => j.head == h.val &&
    !j.decided) = some j → pickMark (s.syncWin h.val) (s.get (R.CH_SYNC_CFG_SM_TOL h.val)) (marksOf (s.syncWin
    h.val) hard) = some e → Answers (.syncDecision h hard) s (s.putJob
    { j with mark := pickMark (s.syncWin h.val) (s.get (R.CH_SYNC_CFG_SM_TOL h.val)) (marksOf (s.syncWin h.val) hard), decided := true, cands := candidates (pickMark (s.syncWin h.val) (s.get (R.CH_SYNC_CFG_SM_TOL h.val)) (marksOf (s.syncWin h.val) hard)) (s.get (R.CH_SYNC_CFG_ALT_MIN h.val)) (s.flag (R.CH_RD_CFG_ALT_EN h.val)) (s.flag (R.CH_RD_CFG_BLIND_EN h.val)) })) ∧
  (∀ (h : Head) (hard : Nat) (j : ReadJob) (s : State), s.rdPool.jobs.find? (fun j => j.head == h.val && !j.decided)
    = some j → pickMark (s.syncWin h.val) (s.get (R.CH_SYNC_CFG_SM_TOL h.val)) (marksOf (s.syncWin h.val) hard) =
    none → s.flag (R.CH_RD_CFG_BLIND_EN h.val) = false → Answers (.syncDecision h hard) s (s.noCandidate
    { j with mark := none, decided := true, cands := [] })) ∧
  (candidates (some 3) 4 true true = [⟨3, true, .waiting, 0, 31, 0⟩] ∧ candidates (some (-4)) 4 true true = [⟨-4,
    true, .waiting, 0, 31, 0⟩, ⟨0, false, .waiting, 0, 31, 0⟩] ∧ (candidates none 4 true true).map (fun c => c.ofs)
    = [0, -1, 1, -2, 2] ∧ candidates none 4 true false = []) ∧
  (∀ (h : Head) (fe : FrontEnd) (s : State), (s.head h.val).adapt = [] → clipCount ((fe.adc[0]?).getD []) * 100 ≤
    37120 → s.rdPool.jobs.find? (fun j => j.head == h.val && j.decided && !j.captured) = none → Answers
    (.llrCaptureComplete h fe) s (s.gateClosed h.val)) ∧
  (∀ (h : Head) (fe : FrontEnd) (j : ReadJob) (s : State), (s.head h.val).adapt = [] → clipCount ((fe.adc[0]?).getD
    []) * 100 ≤ 37120 → s.rdPool.jobs.find? (fun j => j.head == h.val && j.decided && !j.captured) = some j → j.n ≤
    2 → Answers (.llrCaptureComplete h fe) s (((s.putJob { j with captured := true, llr := llr5 fe.llr }).gateClosed
    h.val).setPoolRd
    { ((s.putJob { j with captured := true, llr := llr5 fe.llr }).gateClosed h.val).rdPool with queue := ((s.putJob { j with captured := true, llr := llr5 fe.llr }).gateClosed h.val).rdPool.enqueue { j with captured := true, llr := llr5 fe.llr } })) ∧
  (∀ (h : Head) (fe : FrontEnd) (j : ReadJob) (s : State), (s.head h.val).adapt = [] → clipCount ((fe.adc[0]?).getD
    []) * 100 ≤ 37120 → s.rdPool.jobs.find? (fun j => j.head == h.val && j.decided && !j.captured) = some j → 3 ≤
    j.n → Answers (.llrCaptureComplete h fe) s (((s.putJob
    { j with captured := true, llr := llr5 fe.llr }).gateClosed h.val).deepAdd
    { j with captured := true, llr := llr5 fe.llr } (some (bestCand j.cands)))) ∧
  (∀ (path : Path) (h : Head) (value : Word) (s : State), bitOf (s.rd (R.A_CH_RD_CFG h.val)).toNat 0 = bitOf
    (withBits value 8 1 1).toNat 0 → s.takes path (R.A_CH_RD_CFG h.val) (withBits value 8 1 1) = true → Answers
    (.chReload path h value) s ((s.storeReg path (R.A_CH_RD_CFG h.val) (withBits value 8 1 1)).modHead h.val (fun x
    => { x with reload := true }))) ∧
  (∀ (path : Path) (h : Head) (value : Word) (s : State), s.takes path (R.A_CH_CNT_CLR h.val) value = true → Answers
    (.chCounterClear path h value) s ((s.storeReg path (R.A_CH_CNT_CLR h.val) value).clearCounts value.toNat
    [R.CH_CNT_GOOD_COUNT h.val, R.CH_CNT_ALT_COUNT h.val, R.CH_CNT_BLIND_COUNT h.val, R.CH_CNT_RETRY_COUNT h.val,
    R.CH_CNT_DEEP_COUNT h.val, R.CH_CNT_FAIL_COUNT h.val, R.CH_CNT_UNREC_COUNT h.val, R.CH_CNT_POOL_COUNT h.val])) ∧
  (∀ (path : Path) (h : Head) (value : Word) (s : State), s.takes path (R.A_CH_WR_CNT_CLR h.val) value = true →
    Answers (.chWrCounterClear path h value) s ((s.storeReg path (R.A_CH_WR_CNT_CLR h.val) value).clearCounts
    value.toNat [R.CH_WR_CNT_SECT_COUNT h.val, R.CH_WR_CNT_CUT_COUNT h.val, R.CH_WR_CNT_REWRITE_COUNT h.val,
    R.CH_WR_CNT_VFY_COUNT h.val])) ∧
  (∀ (m : Nat) (f : Fld) (s : State), bitOf m 0 = true → s.clearCounts m [f] = s.set f 0)

/-- The decoder pool's commands answer as chapter 4 says. STREAM_DECODE_START, STREAM_DECODE_END, DEEP_DECODE_START,
DEEP_DECODE_END, DECODER_HANG and LDPC_DECODER_RESET: the lowest free enabled stream decoder takes the head of the
queue with the iteration limit, ITER_LOW under backlog, and the read's other candidates move to the front; a decode
that ends counts a job and its iterations, frees the decoder, and the read is judged; the lower free deep decoder
takes the first deep decode with DEEP_ITER; a decode that runs longer than twice its limit time sets HANG; RESET
resets one decoder and its work starts again at the head of its queue. -/
def Obligations.DecoderCommandsComplete : Prop :=
  (∀ (s : State), s.streamCount = 0 → Answers .streamDecodeStart s s) ∧
  (∀ (s : State), s.rdPool.queue = [] → Answers .streamDecodeStart s s) ∧
  (∀ (s : State), (List.range 16).find? (fun n => s.decEnabled n && ((s.rdPool.decs[n]?).getD none).isNone) = none →
    Answers .streamDecodeStart s s) ∧
  (∀ (n id i : Nat) (rest : List (Nat × Nat)) (j : ReadJob) (s : State), s.streamCount ≠ 0 → (List.range 16).find?
    (fun n => s.decEnabled n && ((s.rdPool.decs[n]?).getD none).isNone) = some n → s.rdPool.queue = (id, i) :: rest
    → s.rdPool.job id = some j → Answers .streamDecodeStart s
      (let t := s.putJob { j with cands := listMod j.cands i (fun c => { c with st := .running n }) };
       (t.setPoolRd
          { t.rdPool with queue := rest.filter (fun e => e.1 == id) ++ rest.filter (fun e => e.1 != id) }).setDec n
          (some ⟨.cand id i, if s.flag R.LDPC_POOL_STAT_LOW_ITER then min (s.get R.LDPC_POOL_CFG_ITER_LOW) (s.get
          R.LDPC_POOL_CFG_ITER_MAX) else s.get R.LDPC_POOL_CFG_ITER_MAX, s.now⟩))) ∧
  (∀ (d : Fin 16) (cw it : Nat) (s : State), (s.rdPool.decs[d.val]?).getD none = none → Answers (.streamDecodeEnd d
    cw it) s s) ∧
  (∀ (d : Fin 16) (cw it id i lim t : Nat) (j : ReadJob) (s : State), (s.rdPool.decs[d.val]?).getD none = some
    ⟨.cand id i, lim, t⟩ → s.rdPool.job id = some j → Answers (.streamDecodeEnd d cw it) s
      (let r := decodeResult (armSeed j.head j.arm) lim cw it;
       let j1 : ReadJob :=
          { j with cands := listMod j.cands i (fun c => { c with st := (if r.2.2.1 then .good r.2.2.2 else .bad), iters := r.2.1, dec := d.val, unsat := (if r.1 then 0 else unsatisfied cw) }), tag := j.tag || (r.1 && !r.2.2.1), last := (d.val, r.2.1) };
       ((((s.decCount d.val r.2.1).setDec d.val none).putJob j1).judge j1))) ∧
  (∀ (n it : Nat) (s : State), s.decCount n it = (s.bump (R.LDPC_CNT_JOBS_JOBS n) 1).bump (R.LDPC_CNT_ITER_ITER n)
    it) ∧
  (∀ (s : State), s.rdPool.deepQ = [] → Answers .deepDecodeStart s s) ∧
  (∀ (n id : Nat) (rest : List Nat) (s : State), [16, 17].find? (fun n => s.decEnabled n &&
    ((s.rdPool.decs[n]?).getD none).isNone) = some n → s.rdPool.deepQ = id :: rest → Answers .deepDecodeStart s
    ((s.setPoolRd { s.rdPool with deepQ := rest }).setDec n (some ⟨.deep id, s.get R.LDPC_POOL_CFG_DEEP_ITER,
    s.now⟩))) ∧
  (∀ (d : Fin 2) (cw it : Nat) (s : State), (s.rdPool.decs[16 + d.val]?).getD none = none → Answers (.deepDecodeEnd
    d cw it) s s) ∧
  (∀ (d : Fin 2) (cw it id lim t0 : Nat) (j : ReadJob) (s : State), (s.rdPool.decs[16 + d.val]?).getD none = some
    ⟨.deep id, lim, t0⟩ → s.rdPool.job id = some j → Answers (.deepDecodeEnd d cw it) s
      (let r := decodeResult (armSeed j.head j.arm) lim cw it;
       let j1 : ReadJob := { j with tag := j.tag || (r.1 && !r.2.2.1), last := (16 + d.val, r.2.1) };
       let t := ((s.decCount (16 + d.val) r.2.1).setDec (16 + d.val) none).putJob j1;
       let u := if r.2.2.1 then t.readSuccess j1 r.2.2.2
          { outcome := 4, stamp := j1.p, reads := t.inSum j1, tag := j1.tag, dec := 16 + d.val, iter := r.2.1, mark := j1.mark }
          else (t.retryMod j.head j.arm (fun e => { e with deep := false, tag := e.tag || j1.tag })).readFail j1
          (t.inSum j1) (16 + d.val, r.2.1);
       u.deepNext j.head j.arm)) ∧
  (∀ (d : Fin 2) (cw it id lim t : Nat) (j : ReadJob) (s : State), (s.rdPool.decs[16 + d.val]?).getD none = some
    ⟨.deep id, lim, t⟩ → s.rdPool.job id = some j → lim < it → Answers (.deepDecodeEnd d cw it) s
      (let j1 : ReadJob := { j with last := (16 + d.val, lim) };
       let t := ((s.decCount (16 + d.val) lim).setDec (16 + d.val) none).putJob j1;
       ((t.retryMod j.head j.arm (fun e => { e with deep := false, tag := e.tag || j.tag })).readFail j1 (t.inSum
          j1) (16 + d.val, lim)).deepNext j.head j.arm)) ∧
  (∀ (d : Fin 18) (r : DecRun) (s : State), (s.rdPool.decs[d.val]?).getD none = some r → r.start + 2 * (if d.val <
    16 then 80 + 750 * r.limit else 2000 + 1500 * r.limit) < s.now → Answers (.decoderHang d) s ((s.fault (.ldpc
    d.val) 0).decCheck)) ∧
  (∀ (d : Fin 18) (r : DecRun) (s : State), (s.rdPool.decs[d.val]?).getD none = some r → s.now ≤ r.start + 2 * (if
    d.val < 16 then 80 + 750 * r.limit else 2000 + 1500 * r.limit) → Answers (.decoderHang d) s s) ∧
  (∀ (d : Fin 18) (s : State), (s.rdPool.decs[d.val]?).getD none = none → Answers (.decoderHang d) s s) ∧
  (∀ (path : Path) (d : Fin 18) (value : Word) (s : State), s.takes path (R.A_LDPC_CTRL d.val) (withBits value 1 1
    1) = true → Answers (.ldpcDecoderReset path d value) s (((s.storeReg path (R.A_LDPC_CTRL d.val) (withBits value
    1 1 1)).contain (.dec d.val)).decCheck |> fun t => if 16 ≤ d.val then t.deepCheck else t)) ∧
  (∀ (s : State), s.streamCount = 0 → s.decCheck = s.fault .pool 1)

/-- The write gate's commands answer as chapter 5 says. WRITE_RUN_START, WRITE_GATE_OPEN, WRITE_RUN_END,
SECTOR_COUNTED_WRITTEN and ARM_MISS: with nothing armed nothing starts, nor before the instant the run is scheduled to
enter LEAD; a late or refused sector is not started and its buffer stays held; an inhibited run counts as cut; a run
with the device or actuator limit reached takes the LIMIT source; an allowed run takes a grant, enters LEAD and
requests its RUN_ON frames; a gate opens at position 0 in LEAD with the ARM reply there, and does not without it; a
run that ends releases its grant and returns to IDLE or INHIBIT; sectors whose last bit is 2 us old and before a
passing sample are counted, and outside ARCHIVE their buffers are released; a run at position 0 without ARM is
cancelled with ARM_MISS. -/
def Obligations.WriteGateCommandsComplete : Prop :=
  (∀ (h : Head) (lead : Nat) (s : State), (s.head h.val).arms = [] → Answers (.writeRunStart h lead) s s) ∧
  (∀ (h : Head) (lead : Nat) (s : State), (s.get (R.CH_WR_STAT_STATE h.val) = 2 ∨ s.get (R.CH_WR_STAT_STATE h.val) =
    3) → Answers (.writeRunStart h lead) s s) ∧
  (∀ (h : Head) (lead : Nat) (a : Arm) (r : List Arm) (s : State), (s.head h.val).arms = a :: r → a.kind = .write →
    (s.get (R.CH_WR_STAT_STATE h.val) = 1 ∨ s.get (R.CH_WR_STAT_STATE h.val) = 4) → s.tthLocked = true → s.get
    (R.CH_STAT_STATE h.val) = 3 → a.late = true → Answers (.writeRunStart h lead) s (s.holdArm h.val a)) ∧
  (∀ (h : Head) (lead : Nat) (a : Arm) (r : List Arm) (s : State), (s.head h.val).arms = a :: r → a.kind = .write →
    (s.get (R.CH_WR_STAT_STATE h.val) = 1 ∨ s.get (R.CH_WR_STAT_STATE h.val) = 4) → s.tthLocked = true → s.get
    (R.CH_STAT_STATE h.val) = 3 → a.late = false → s.beforeLead h.val a lead = false → (s.refusals h.val a).any =
    true → Answers (.writeRunStart h lead) s ((s.refuse h.val a).2.holdArm h.val a)) ∧
  (∀ (h : Head) (lead : Nat) (a : Arm) (r : List Arm) (s : State), (s.head h.val).arms = a :: r → a.kind = .write →
    (s.get (R.CH_WR_STAT_STATE h.val) = 1 ∨ s.get (R.CH_WR_STAT_STATE h.val) = 4) → s.tthLocked = true → s.get
    (R.CH_STAT_STATE h.val) = 3 → a.late = false → s.beforeLead h.val a lead = true → Answers (.writeRunStart h
    lead) s s) ∧
  (∀ (h : Head) (lead : Nat) (a : Arm) (r : List Arm) (s : State), (s.head h.val).arms = a :: r → a.kind = .write →
    (s.get (R.CH_WR_STAT_STATE h.val) = 1 ∨ s.get (R.CH_WR_STAT_STATE h.val) = 4) → s.tthLocked = true → s.get
    (R.CH_STAT_STATE h.val) = 3 → a.late = false → s.beforeLead h.val a lead = false → (s.refusals h.val a).any =
    false → bitsOf (s.get (R.CH_WR_INH_SRC h.val)) 0 10 ≠ 0 → Answers (.writeRunStart h lead) s (s.countIdle h.val)) ∧
  (∀ (h : Head) (lead : Nat) (a : Arm) (r : List Arm) (s : State), (s.head h.val).arms = a :: r → a.kind = .write →
    (s.get (R.CH_WR_STAT_STATE h.val) = 1 ∨ s.get (R.CH_WR_STAT_STATE h.val) = 4) → s.tthLocked = true → s.get
    (R.CH_STAT_STATE h.val) = 3 → a.late = false → s.beforeLead h.val a lead = false → (s.refusals h.val a).any =
    false → s.runAllowed h.val = true → s.mayTransfer h.val = true → (s.get R.SYS_WR_LIMIT_DEV_MAX ≤ s.grants ∨
    s.get R.SYS_WR_LIMIT_ACT_MAX ≤ s.grantsOf (h.val / 6)) → Answers (.writeRunStart h lead) s (s.sourcesOn h.val
    [10] s.now)) ∧
  (∀ (h : Head) (lead : Nat) (a : Arm) (r : List Arm) (s : State), (s.head h.val).arms = a :: r → a.kind = .write →
    (s.get (R.CH_WR_STAT_STATE h.val) = 1 ∨ s.get (R.CH_WR_STAT_STATE h.val) = 4) → s.tthLocked = true → s.get
    (R.CH_STAT_STATE h.val) = 3 → a.late = false → s.beforeLead h.val a lead = false → (s.refusals h.val a).any =
    false → s.runAllowed h.val = true → s.mayTransfer h.val = true → s.grants < s.get R.SYS_WR_LIMIT_DEV_MAX →
    s.grantsOf (h.val / 6) < s.get R.SYS_WR_LIMIT_ACT_MAX → Answers (.writeRunStart h lead) s (((((s.sourceOff h.val
    10).setGrant h.val true).set (R.CH_WR_STAT_STATE h.val) 2).modHead h.val (fun y =>
    { y with run := some ⟨a, (s.stampOf h.val a 0).getD s.now, none⟩ })).runOn h.val ((s.stampOf h.val a 0).getD
    s.now) (wHeatLead (entryNat (s.head h.val).wentry)) (wLaserLead (entryNat (s.head h.val).wentry)))) ∧
  (∀ (h : Head) (off : Nat) (a : Arm) (r : List Arm) (s : State), (s.head h.val).arms = a :: r → s.get
    (R.CH_WR_STAT_STATE h.val) = 2 → bitOf (s.link (h.val / 6)).armed (h.val % 6) = true → s.atSector h.val a 0 off
    = true → Answers (.writeGateOpen h off) s ((s.set (R.CH_WR_STAT_STATE h.val) 3).sectorStart h.val)) ∧
  (∀ (h : Head) (off : Nat) (s : State), (s.get (R.CH_WR_STAT_STATE h.val) ≠ 2 ∨ bitOf (s.link (h.val / 6)).armed
    (h.val % 6) = false) → Answers (.writeGateOpen h off) s s) ∧
  (∀ (h : Head) (off : Nat) (a : Arm) (r : List Arm) (s : State), (s.head h.val).arms = a :: r → s.atSector h.val a
    0 off = false → Answers (.writeGateOpen h off) s s) ∧
  (∀ (h : Head) (s : State), s.get (R.CH_WR_STAT_STATE h.val) = 3 → (((s.modHead h.val (fun x => x.curDone
    s.now)).head h.val).run = none ∨ ∃ q, ((s.modHead h.val (fun x => x.curDone s.now)).head h.val).run = some q ∧
    q.cur = none) → Answers (.writeRunEnd h) s ((((s.modHead h.val (fun x => x.curDone s.now)).runStop h.val).set
    (R.CH_WR_STAT_STATE h.val) (if s.get (R.CH_WR_INH_SRC h.val) = 0 then 1 else 4)).zoneCatchUp h.val)) ∧
  (∀ (h : Head) (s : State), s.get (R.CH_WR_STAT_STATE h.val) ≠ 3 → Answers (.writeRunEnd h) s s) ∧
  (∀ (h : Head) (x : HeadSt) (s : State), (s.head h.val).curDone s.now = x → x.written.filter (fun w => x.countable
    s.now w) = [] → Answers (.sectorCountedWritten h) s (s.setHead h.val
    { x with written := x.written.filter (fun w => !x.countable s.now w) })) ∧
  (∀ (h : Head) (x : HeadSt) (w : Written) (s : State), (s.head h.val).curDone s.now = x → x.written = [w] → w.last
    < x.passAt → x.passAt + 180 ≤ s.now → w.last + 2000 ≤ s.now → s.archive = false → Answers (.sectorCountedWritten
    h) s (((((s.setHead h.val { x with written := [] }).bump (R.CH_WR_CNT_SECT_COUNT h.val) 1).modHead h.val (fun y
    => { y with rewrites := setCnt y.rewrites (armAddr h.val w.arm) 0 })).depDrop h.val w.arm.handle).tell (.durable
    h.val w.arm))) ∧
  (∀ (h : Head) (x : HeadSt) (w : Written) (s : State), (s.head h.val).curDone s.now = x → x.written = [w] → w.last
    < x.passAt → x.passAt + 180 ≤ s.now → w.last + 2000 ≤ s.now → s.archive = true → Answers (.sectorCountedWritten
    h) s ((((s.setHead h.val { x with written := [] }).bump (R.CH_WR_CNT_SECT_COUNT h.val) 1).modHead h.val (fun y
    => { y with rewrites := setCnt y.rewrites (armAddr h.val w.arm) 0 })).modHead h.val (fun y =>
    { y with unverified := y.unverified ++ [w.arm] }))) ∧
  (∀ (h : Head) (s : State), (s.head h.val).run = none → Answers (.armMiss h) s s) ∧
  (∀ (h : Head) (r : WriteRun) (s : State), (s.head h.val).run = some r → s.get (R.CH_WR_STAT_STATE h.val) = 2 →
    r.p0 ≤ s.now → bitOf (s.link (h.val / 6)).armed (h.val % 6) = false → Answers (.armMiss h) s ((((s.runStop
    h.val).set (R.CH_WR_STAT_STATE h.val) 1).fault .dlk (20 + h.val / 6)).ldgRaise 0x2005 ([3, BitVec.ofNat 8 (h.val
    / 6)] ++ leBytes 2 6))) ∧
  (∀ (h : Head) (r : WriteRun) (s : State), (s.head h.val).run = some r → s.now < r.p0 → Answers (.armMiss h) s s)

/-- Sequencer control and the issue of words answer as chapter 6 says. SEQ_ENABLE, SEQ_PAUSE, SEQ_RESUME, SEQ_ATTN,
DEF_SWAP, MICROWORD_ISSUE, WAIT_CONDITION_MET, WAIT_TIMEOUT, WP_TIMEOUT and DEF_LOOKUP_DONE: a register row writes
SEQ_CTRL with its named bit; EN in RESET starts at address 0; in RUN a clock issues the word at PC, in a WAIT it
polls, tests the condition and then the time-out, and in any other state it does nothing; a WAIT whose condition holds
goes to address + 1, one whose TMO has passed goes to NEXT; LIMIT exceeded since the latest Waypoint poll stops the
sequencer with WP_TIMEOUT; a lookup ends with its kind and four words, or zeros. -/
def Obligations.SequencerControlCommandsComplete : Prop :=
  (∀ (path : Path) (a : Act) (value : Word) (s : State), s.takes path (R.A_SEQ_CTRL a.val) value = true → Answers
    (.seqEnable path a value) s ((s.storeReg path (R.A_SEQ_CTRL a.val) value).sqCtrl a.val value.toNat)) ∧
  (∀ (path : Path) (a : Act) (value : Word) (s : State), s.takes path (R.A_SEQ_CTRL a.val) (withBits value 1 1 1) =
    true → Answers (.seqPause path a value) s ((s.storeReg path (R.A_SEQ_CTRL a.val) (withBits value 1 1 1)).sqCtrl
    a.val (withBits value 1 1 1).toNat)) ∧
  (∀ (path : Path) (a : Act) (value : Word) (s : State), s.takes path (R.A_SEQ_CTRL a.val) (withBits value 1 1 0) =
    true → Answers (.seqResume path a value) s ((s.storeReg path (R.A_SEQ_CTRL a.val) (withBits value 1 1 0)).sqCtrl
    a.val (withBits value 1 1 0).toNat)) ∧
  (∀ (path : Path) (a : Act) (value : Word) (s : State), s.takes path (R.A_SEQ_CTRL a.val) (withBits value 2 1 1) =
    true → Answers (.seqAttn path a value) s ((s.storeReg path (R.A_SEQ_CTRL a.val) (withBits value 2 1 1)).sqCtrl
    a.val (withBits value 2 1 1).toNat)) ∧
  (∀ (path : Path) (a : Act) (value : Word) (s : State), s.takes path (R.A_SEQ_CTRL a.val) (withBits value 8 1 1) =
    true → Answers (.defSwap path a value) s ((s.storeReg path (R.A_SEQ_CTRL a.val) (withBits value 8 1 1)).sqCtrl
    a.val (withBits value 8 1 1).toNat)) ∧
  (∀ (a : Act) (s : State), s.sqState a.val = 0 → s.flag (R.SEQ_CTRL_EN a.val) = true → (s.sq a.val).patchDone =
    true → s.inReset (.seq a.val) = false → s.sqStart a.val = ((s.set (R.SEQ_STAT_STATE a.val) 1).modSq a.val (fun q
    => { q with sincePoll := 0, stack := [] })).sqGo a.val 0) ∧
  (∀ (a : Act) (n : Nat) (s : State), (∀ i : Fin 32, s.flag (R.SEQ_TRAP_VALID a.val i.val) = false) → s.sqGo a.val n
    = s.set (R.SEQ_STAT_PC a.val) (n % 16384)) ∧
  (∀ (a : Act) (s : State), (s.sqState a.val ≠ 1 ∨ s.inReset (.seq a.val) = true) → Answers (.microwordIssue a) s s) ∧
  (∀ (a : Act) (s : State), s.sqState a.val = 1 → s.inReset (.seq a.val) = false → (s.sq a.val).wait = none → s.sqPc
    a.val < 0x3000 → Answers (.microwordIssue a) s (s.sqIssue a.val (Config.romWord (s.sqPc a.val)).toNat)) ∧
  (∀ (a : Act) (s : State), s.sqState a.val = 1 → s.inReset (.seq a.val) = false → (s.sq a.val).wait.isSome = true →
    Answers (.microwordIssue a) s (((s.waitPoll a.val).waitMet a.val).waitTimeout a.val)) ∧
  (∀ (a : Act) (s : State), (s.sq a.val).wait = none → Answers (.waitConditionMet a) s s) ∧
  (∀ (a : Act) (x : SeqWait) (s : State), (s.sq a.val).wait = some x → s.mwHolds a.val x.word = true → Answers
    (.waitConditionMet a) s (s.sqLeave a.val x.word (x.addr + 1))) ∧
  (∀ (a : Act) (x : SeqWait) (s : State), (s.sq a.val).wait = some x → s.mwHolds a.val x.word = false → Answers
    (.waitConditionMet a) s s) ∧
  (∀ (a : Act) (x : SeqWait) (s : State), (s.sq a.val).wait = some x → s.mwHolds a.val x.word = false → mwTmo x.word
    ≠ 0 → 16 * mwTmo x.word ≤ s.sqClocks a.val → Answers (.waitTimeout a) s (s.sqLeave a.val x.word (mwNext
    x.word))) ∧
  (∀ (a : Act) (x : SeqWait) (s : State), (s.sq a.val).wait = some x → mwTmo x.word = 0 → Answers (.waitTimeout a) s
    s) ∧
  (∀ (a : Act) (s : State), (s.sq a.val).wait = none → Answers (.waitTimeout a) s s) ∧
  (∀ (a : Act) (s : State), s.sqState a.val = 1 → (s.sq a.val).wait = none → s.get (R.SEQ_WP_LIMIT_LIMIT a.val) <
    (s.sq a.val).sincePoll → Answers (.wpTimeout a) s (s.sqStop a.val 2)) ∧
  (∀ (a : Act) (s : State), (s.sq a.val).wait = none → (s.sq a.val).sincePoll ≤ s.get (R.SEQ_WP_LIMIT_LIMIT a.val) →
    Answers (.wpTimeout a) s s) ∧
  (∀ (a : Act) (s : State), (s.sq a.val).lookup = none → Answers (.defLookupDone a) s s) ∧
  (∀ (a : Act) (l : SeqLookup) (s : State), (s.sq a.val).lookup = some l → l.count = 0 → Answers (.defLookupDone a)
    s (((s.modSq a.val (fun q => { q with lookup := none, kind := none })).putOct a.val l.oct 4 [0, 0, 0,
    0]).defSwapTry a.val false))

/-- Every next-address operation of a micro-word answers as R153 says. CONT, JUMP, BR, CALL, BRCALL, RET, BRRET, DISP,
LOOP, WAIT and HALT, for every word whose NOP field is that operation, on a sequencer in RUN that issues it: the ALU
operation and the formatter command are carried out first, then CONT goes to PC + 1, JUMP to NEXT, BR to NEXT where
the condition holds and else to PC + 1, CALL pushes PC + 1 and goes to NEXT, RET pops, BRCALL and BRRET do so where
the condition holds, DISP goes to NEXT with its low four bits from operand A, LOOP counts LC down to 0, WAIT waits
until its condition holds, HALT enters HALTED; a full or empty stack stops the sequencer with STACK; a reserved word
stops it with ILLEGAL; a sequencer not in RUN does nothing. -/
def Obligations.SequencerNextAddressComplete : Prop :=
  (∀ (a : Act) (w : BitVec 128) (s : State), s.issues a.val (mwSetNop w.toNat 0) = true → (s.sqAlu a.val (mwSetNop
    w.toNat 0)).1 = true → Answers (.opCont a w) s ((((s.sqAlu a.val (mwSetNop w.toNat 0)).2.sqFormat a.val
    (mwSetNop w.toNat 0)).sqLeave a.val (mwSetNop w.toNat 0) (s.sqPc a.val + 1)).wordEnd a.val)) ∧
  (∀ (a : Act) (w : BitVec 128) (s : State), s.issues a.val (mwSetNop w.toNat 1) = true → (s.sqAlu a.val (mwSetNop
    w.toNat 1)).1 = true → Answers (.opJump a w) s ((((s.sqAlu a.val (mwSetNop w.toNat 1)).2.sqFormat a.val
    (mwSetNop w.toNat 1)).sqLeave a.val (mwSetNop w.toNat 1) (mwNext (mwSetNop w.toNat 1))).wordEnd a.val)) ∧
  (∀ (a : Act) (w : BitVec 128) (s : State), s.issues a.val (mwSetNop w.toNat 2) = true → (s.sqAlu a.val (mwSetNop
    w.toNat 2)).1 = true → s.mwHolds a.val (mwSetNop w.toNat 2) = true → Answers (.opBr a w) s ((((s.sqAlu a.val
    (mwSetNop w.toNat 2)).2.sqFormat a.val (mwSetNop w.toNat 2)).sqLeave a.val (mwSetNop w.toNat 2) (mwNext
    (mwSetNop w.toNat 2))).wordEnd a.val)) ∧
  (∀ (a : Act) (w : BitVec 128) (s : State), s.issues a.val (mwSetNop w.toNat 2) = true → (s.sqAlu a.val (mwSetNop
    w.toNat 2)).1 = true → s.mwHolds a.val (mwSetNop w.toNat 2) = false → Answers (.opBr a w) s ((((s.sqAlu a.val
    (mwSetNop w.toNat 2)).2.sqFormat a.val (mwSetNop w.toNat 2)).sqLeave a.val (mwSetNop w.toNat 2) (s.sqPc a.val +
    1)).wordEnd a.val)) ∧
  (∀ (a : Act) (w : BitVec 128) (s : State), s.issues a.val (mwSetNop w.toNat 3) = true → (s.sqAlu a.val (mwSetNop
    w.toNat 3)).1 = true → (((s.sqAlu a.val (mwSetNop w.toNat 3)).2.sqFormat a.val (mwSetNop w.toNat 3)).sq
    a.val).stack.length < 16 → Answers (.opCall a w) s ((((((s.sqAlu a.val (mwSetNop w.toNat 3)).2.sqFormat a.val
    (mwSetNop w.toNat 3)).modSq a.val (fun x => { x with stack := ((s.sqPc a.val + 1) % 16384) :: x.stack })).set
    (R.SEQ_STAT_SP a.val) ((((s.sqAlu a.val (mwSetNop w.toNat 3)).2.sqFormat a.val (mwSetNop w.toNat 3)).sq
    a.val).stack.length + 1)).sqLeave a.val (mwSetNop w.toNat 3) (mwNext (mwSetNop w.toNat 3))).wordEnd a.val)) ∧
  (∀ (a : Act) (w : BitVec 128) (s : State), s.issues a.val (mwSetNop w.toNat 3) = true → (s.sqAlu a.val (mwSetNop
    w.toNat 3)).1 = true → 16 ≤ (((s.sqAlu a.val (mwSetNop w.toNat 3)).2.sqFormat a.val (mwSetNop w.toNat 3)).sq
    a.val).stack.length → Answers (.opCall a w) s ((((s.sqAlu a.val (mwSetNop w.toNat 3)).2.sqFormat a.val (mwSetNop
    w.toNat 3)).sqStop a.val 1).wordEnd a.val)) ∧
  (∀ (a : Act) (w : BitVec 128) (s : State), s.issues a.val (mwSetNop w.toNat 4) = true → (s.sqAlu a.val (mwSetNop
    w.toNat 4)).1 = true → s.mwHolds a.val (mwSetNop w.toNat 4) = true → (((s.sqAlu a.val (mwSetNop w.toNat
    4)).2.sqFormat a.val (mwSetNop w.toNat 4)).sq a.val).stack.length < 16 → Answers (.brcall a w) s ((((((s.sqAlu
    a.val (mwSetNop w.toNat 4)).2.sqFormat a.val (mwSetNop w.toNat 4)).modSq a.val (fun x =>
    { x with stack := ((s.sqPc a.val + 1) % 16384) :: x.stack })).set (R.SEQ_STAT_SP a.val) ((((s.sqAlu a.val
    (mwSetNop w.toNat 4)).2.sqFormat a.val (mwSetNop w.toNat 4)).sq a.val).stack.length + 1)).sqLeave a.val
    (mwSetNop w.toNat 4) (mwNext (mwSetNop w.toNat 4))).wordEnd a.val)) ∧
  (∀ (a : Act) (w : BitVec 128) (s : State), s.issues a.val (mwSetNop w.toNat 4) = true → (s.sqAlu a.val (mwSetNop
    w.toNat 4)).1 = true → s.mwHolds a.val (mwSetNop w.toNat 4) = false → Answers (.brcall a w) s ((((s.sqAlu a.val
    (mwSetNop w.toNat 4)).2.sqFormat a.val (mwSetNop w.toNat 4)).sqLeave a.val (mwSetNop w.toNat 4) (s.sqPc a.val +
    1)).wordEnd a.val)) ∧
  (∀ (a : Act) (w : BitVec 128) (s : State), s.issues a.val (mwSetNop w.toNat 5) = true → (s.sqAlu a.val (mwSetNop
    w.toNat 5)).1 = true → (((s.sqAlu a.val (mwSetNop w.toNat 5)).2.sqFormat a.val (mwSetNop w.toNat 5)).sq
    a.val).stack ≠ [] → Answers (.opRet a w) s ((((((s.sqAlu a.val (mwSetNop w.toNat 5)).2.sqFormat a.val (mwSetNop
    w.toNat 5)).modSq a.val (fun x =>
    { x with stack := (((s.sqAlu a.val (mwSetNop w.toNat 5)).2.sqFormat a.val (mwSetNop w.toNat 5)).sq a.val).stack.tail })).set
    (R.SEQ_STAT_SP a.val) ((((s.sqAlu a.val (mwSetNop w.toNat 5)).2.sqFormat a.val (mwSetNop w.toNat 5)).sq
    a.val).stack.length - 1)).sqLeave a.val (mwSetNop w.toNat 5) ((((s.sqAlu a.val (mwSetNop w.toNat 5)).2.sqFormat
    a.val (mwSetNop w.toNat 5)).sq a.val).stack.headD 0)).wordEnd a.val)) ∧
  (∀ (a : Act) (w : BitVec 128) (s : State), s.issues a.val (mwSetNop w.toNat 5) = true → (s.sqAlu a.val (mwSetNop
    w.toNat 5)).1 = true → (((s.sqAlu a.val (mwSetNop w.toNat 5)).2.sqFormat a.val (mwSetNop w.toNat 5)).sq
    a.val).stack = [] → Answers (.opRet a w) s ((((s.sqAlu a.val (mwSetNop w.toNat 5)).2.sqFormat a.val (mwSetNop
    w.toNat 5)).sqStop a.val 1).wordEnd a.val)) ∧
  (∀ (a : Act) (w : BitVec 128) (s : State), s.issues a.val (mwSetNop w.toNat 6) = true → (s.sqAlu a.val (mwSetNop
    w.toNat 6)).1 = true → s.mwHolds a.val (mwSetNop w.toNat 6) = true → (((s.sqAlu a.val (mwSetNop w.toNat
    6)).2.sqFormat a.val (mwSetNop w.toNat 6)).sq a.val).stack ≠ [] → Answers (.brret a w) s ((((((s.sqAlu a.val
    (mwSetNop w.toNat 6)).2.sqFormat a.val (mwSetNop w.toNat 6)).modSq a.val (fun x =>
    { x with stack := (((s.sqAlu a.val (mwSetNop w.toNat 6)).2.sqFormat a.val (mwSetNop w.toNat 6)).sq a.val).stack.tail })).set
    (R.SEQ_STAT_SP a.val) ((((s.sqAlu a.val (mwSetNop w.toNat 6)).2.sqFormat a.val (mwSetNop w.toNat 6)).sq
    a.val).stack.length - 1)).sqLeave a.val (mwSetNop w.toNat 6) ((((s.sqAlu a.val (mwSetNop w.toNat 6)).2.sqFormat
    a.val (mwSetNop w.toNat 6)).sq a.val).stack.headD 0)).wordEnd a.val)) ∧
  (∀ (a : Act) (w : BitVec 128) (s : State), s.issues a.val (mwSetNop w.toNat 6) = true → (s.sqAlu a.val (mwSetNop
    w.toNat 6)).1 = true → s.mwHolds a.val (mwSetNop w.toNat 6) = false → Answers (.brret a w) s ((((s.sqAlu a.val
    (mwSetNop w.toNat 6)).2.sqFormat a.val (mwSetNop w.toNat 6)).sqLeave a.val (mwSetNop w.toNat 6) (s.sqPc a.val +
    1)).wordEnd a.val)) ∧
  (∀ (a : Act) (w : BitVec 128) (s : State), s.issues a.val (mwSetNop w.toNat 7) = true → (s.sqAlu a.val (mwSetNop
    w.toNat 7)).1 = true → Answers (.opDisp a w) s ((((s.sqAlu a.val (mwSetNop w.toNat 7)).2.sqFormat a.val
    (mwSetNop w.toNat 7)).sqLeave a.val (mwSetNop w.toNat 7) (mwNext (mwSetNop w.toNat 7) / 16 * 16 + ((s.sqAlu
    a.val (mwSetNop w.toNat 7)).2.sqFormat a.val (mwSetNop w.toNat 7)).sqG a.val (mwSrcA (mwSetNop w.toNat 7)) %
    16)).wordEnd a.val)) ∧
  (∀ (a : Act) (w : BitVec 128) (s : State), s.issues a.val (mwSetNop w.toNat 8) = true → (s.sqAlu a.val (mwSetNop
    w.toNat 8)).1 = true → (((s.sqAlu a.val (mwSetNop w.toNat 8)).2.sqFormat a.val (mwSetNop w.toNat 8)).sq
    a.val).lc = 0 → Answers (.opLoop a w) s ((((s.sqAlu a.val (mwSetNop w.toNat 8)).2.sqFormat a.val (mwSetNop
    w.toNat 8)).sqLeave a.val (mwSetNop w.toNat 8) (s.sqPc a.val + 1)).wordEnd a.val)) ∧
  (∀ (a : Act) (w : BitVec 128) (s : State), s.issues a.val (mwSetNop w.toNat 8) = true → (s.sqAlu a.val (mwSetNop
    w.toNat 8)).1 = true → 0 < (((s.sqAlu a.val (mwSetNop w.toNat 8)).2.sqFormat a.val (mwSetNop w.toNat 8)).sq
    a.val).lc → Answers (.opLoop a w) s (((((s.sqAlu a.val (mwSetNop w.toNat 8)).2.sqFormat a.val (mwSetNop w.toNat
    8)).modSq a.val (fun q => { q with lc := q.lc - 1 })).sqLeave a.val (mwSetNop w.toNat 8) (mwNext (mwSetNop
    w.toNat 8))).wordEnd a.val)) ∧
  (∀ (a : Act) (w : BitVec 128) (s : State), s.issues a.val (mwSetNop w.toNat 9) = true → (s.sqAlu a.val (mwSetNop
    w.toNat 9)).1 = true → s.mwHolds a.val (mwSetNop w.toNat 9) = true → Answers (.opWait a w) s ((((s.sqAlu a.val
    (mwSetNop w.toNat 9)).2.sqFormat a.val (mwSetNop w.toNat 9)).sqLeave a.val (mwSetNop w.toNat 9) (s.sqPc a.val +
    1)).wordEnd a.val)) ∧
  (∀ (a : Act) (w : BitVec 128) (s : State), s.issues a.val (mwSetNop w.toNat 9) = true → (s.sqAlu a.val (mwSetNop
    w.toNat 9)).1 = true → s.mwHolds a.val (mwSetNop w.toNat 9) = false → mwWp (mwSetNop w.toNat 9) = false →
    Answers (.opWait a w) s ((((s.sqAlu a.val (mwSetNop w.toNat 9)).2.sqFormat a.val (mwSetNop w.toNat 9)).modSq
    a.val (fun q =>
    { q with wait := some ⟨(mwSetNop w.toNat 9), s.sqPc a.val, ((s.sqAlu a.val (mwSetNop w.toNat 9)).2.sqFormat a.val (mwSetNop w.toNat 9)).now⟩, sincePoll := q.sincePoll + 1 })).wordEnd
    a.val)) ∧
  (∀ (a : Act) (w : BitVec 128) (s : State), s.issues a.val (mwSetNop w.toNat 9) = true → (s.sqAlu a.val (mwSetNop
    w.toNat 9)).1 = true → s.mwHolds a.val (mwSetNop w.toNat 9) = false → mwWp (mwSetNop w.toNat 9) = true → Answers
    (.opWait a w) s (((((s.sqAlu a.val (mwSetNop w.toNat 9)).2.sqFormat a.val (mwSetNop w.toNat 9)).modSq a.val (fun
    q =>
    { q with wait := some ⟨(mwSetNop w.toNat 9), s.sqPc a.val, ((s.sqAlu a.val (mwSetNop w.toNat 9)).2.sqFormat a.val (mwSetNop w.toNat 9)).now⟩, sincePoll := q.sincePoll + 1 })).sqPoll
    a.val (s.sqPc a.val) true).wordEnd a.val)) ∧
  (∀ (a : Act) (w : BitVec 128) (s : State), s.issues a.val (mwSetNop w.toNat 10) = true → (s.sqAlu a.val (mwSetNop
    w.toNat 10)).1 = true → Answers (.opHalt a w) s (((((s.sqAlu a.val (mwSetNop w.toNat 10)).2.sqFormat a.val
    (mwSetNop w.toNat 10)).set (R.SEQ_STAT_STATE a.val) 4).modSq a.val (fun q => { q with lookup := none })).wordEnd
    a.val)) ∧
  (∀ (a : Act) (w : Nat) (s : State), s.sqState a.val = 1 → (s.sq a.val).wait = none → s.inReset (.seq a.val) =
    false → mwIllegal w = true → s.sqIssue a.val w = s.sqStop a.val 0) ∧
  (∀ (a : Act) (w : Nat) (s : State), s.sqState a.val ≠ 1 → s.sqIssue a.val w = s)

/-- Every ALU operation of a micro-word answers as R153 says. MOV, ADD, SUB, AND, OR, XOR, SHL, SHR, CMP, LDLC and LDHS,
for every word whose ALU field is that operation, on a sequencer in RUN that issues it: operand A is a register,
operand B a register or the immediate; the result goes into DST, but for CMP, and Z and N follow it; C follows the
carry of ADD and is a free value after the others (assumption 1); LDLC loads LC and LDHS loads HSEL, with free flags;
LDHS of 6 or 7 stops the sequencer with ILLEGAL; then the formatter command and the next-address operation are carried
out. -/
def Obligations.SequencerAluComplete : Prop :=
  (∀ (a : Act) (w : BitVec 128) (s : State), s.issues a.val (mwSetAlu w.toNat 1) = true → Answers (.opMov a w) s
    (s.wordRest ((s.draw.2.putFlags a.val (s.sqB a.val (mwSetAlu w.toNat 1)) (s.draw.1 % 2 == 1)).setG a.val (mwDst
    (mwSetAlu w.toNat 1)) (s.sqB a.val (mwSetAlu w.toNat 1))) a.val (mwSetAlu w.toNat 1))) ∧
  (∀ (a : Act) (w : BitVec 128) (s : State), s.issues a.val (mwSetAlu w.toNat 2) = true → Answers (.opAdd a w) s
    (s.wordRest ((s.putFlags a.val (((s.sqG a.val (mwSrcA (mwSetAlu w.toNat 2))) + (s.sqB a.val (mwSetAlu w.toNat
    2))) % 2 ^ 32) (decide (2 ^ 32 ≤ (s.sqG a.val (mwSrcA (mwSetAlu w.toNat 2))) + (s.sqB a.val (mwSetAlu w.toNat
    2))))).setG a.val (mwDst (mwSetAlu w.toNat 2)) (((s.sqG a.val (mwSrcA (mwSetAlu w.toNat 2))) + (s.sqB a.val
    (mwSetAlu w.toNat 2))) % 2 ^ 32)) a.val (mwSetAlu w.toNat 2))) ∧
  (∀ (a : Act) (w : BitVec 128) (s : State), s.issues a.val (mwSetAlu w.toNat 3) = true → Answers (.opSub a w) s
    (s.wordRest ((s.draw.2.putFlags a.val (((s.sqG a.val (mwSrcA (mwSetAlu w.toNat 3))) + 2 ^ 32 - (s.sqB a.val
    (mwSetAlu w.toNat 3))) % 2 ^ 32) (s.draw.1 % 2 == 1)).setG a.val (mwDst (mwSetAlu w.toNat 3)) (((s.sqG a.val
    (mwSrcA (mwSetAlu w.toNat 3))) + 2 ^ 32 - (s.sqB a.val (mwSetAlu w.toNat 3))) % 2 ^ 32)) a.val (mwSetAlu w.toNat
    3))) ∧
  (∀ (a : Act) (w : BitVec 128) (s : State), s.issues a.val (mwSetAlu w.toNat 4) = true → Answers (.opAnd a w) s
    (s.wordRest ((s.draw.2.putFlags a.val (Nat.land (s.sqG a.val (mwSrcA (mwSetAlu w.toNat 4))) (s.sqB a.val
    (mwSetAlu w.toNat 4))) (s.draw.1 % 2 == 1)).setG a.val (mwDst (mwSetAlu w.toNat 4)) (Nat.land (s.sqG a.val
    (mwSrcA (mwSetAlu w.toNat 4))) (s.sqB a.val (mwSetAlu w.toNat 4)))) a.val (mwSetAlu w.toNat 4))) ∧
  (∀ (a : Act) (w : BitVec 128) (s : State), s.issues a.val (mwSetAlu w.toNat 5) = true → Answers (.opOr a w) s
    (s.wordRest ((s.draw.2.putFlags a.val (Nat.lor (s.sqG a.val (mwSrcA (mwSetAlu w.toNat 5))) (s.sqB a.val
    (mwSetAlu w.toNat 5))) (s.draw.1 % 2 == 1)).setG a.val (mwDst (mwSetAlu w.toNat 5)) (Nat.lor (s.sqG a.val
    (mwSrcA (mwSetAlu w.toNat 5))) (s.sqB a.val (mwSetAlu w.toNat 5)))) a.val (mwSetAlu w.toNat 5))) ∧
  (∀ (a : Act) (w : BitVec 128) (s : State), s.issues a.val (mwSetAlu w.toNat 6) = true → Answers (.opXor a w) s
    (s.wordRest ((s.draw.2.putFlags a.val (Nat.xor (s.sqG a.val (mwSrcA (mwSetAlu w.toNat 6))) (s.sqB a.val
    (mwSetAlu w.toNat 6))) (s.draw.1 % 2 == 1)).setG a.val (mwDst (mwSetAlu w.toNat 6)) (Nat.xor (s.sqG a.val
    (mwSrcA (mwSetAlu w.toNat 6))) (s.sqB a.val (mwSetAlu w.toNat 6)))) a.val (mwSetAlu w.toNat 6))) ∧
  (∀ (a : Act) (w : BitVec 128) (s : State), s.issues a.val (mwSetAlu w.toNat 7) = true → Answers (.opShl a w) s
    (s.wordRest ((s.draw.2.putFlags a.val ((s.sqG a.val (mwSrcA (mwSetAlu w.toNat 7))) * 2 ^ ((s.sqB a.val (mwSetAlu
    w.toNat 7)) % 32) % 2 ^ 32) (s.draw.1 % 2 == 1)).setG a.val (mwDst (mwSetAlu w.toNat 7)) ((s.sqG a.val (mwSrcA
    (mwSetAlu w.toNat 7))) * 2 ^ ((s.sqB a.val (mwSetAlu w.toNat 7)) % 32) % 2 ^ 32)) a.val (mwSetAlu w.toNat 7))) ∧
  (∀ (a : Act) (w : BitVec 128) (s : State), s.issues a.val (mwSetAlu w.toNat 8) = true → Answers (.opShr a w) s
    (s.wordRest ((s.draw.2.putFlags a.val ((s.sqG a.val (mwSrcA (mwSetAlu w.toNat 8))) / 2 ^ ((s.sqB a.val (mwSetAlu
    w.toNat 8)) % 32)) (s.draw.1 % 2 == 1)).setG a.val (mwDst (mwSetAlu w.toNat 8)) ((s.sqG a.val (mwSrcA (mwSetAlu
    w.toNat 8))) / 2 ^ ((s.sqB a.val (mwSetAlu w.toNat 8)) % 32))) a.val (mwSetAlu w.toNat 8))) ∧
  (∀ (a : Act) (w : BitVec 128) (s : State), s.issues a.val (mwSetAlu w.toNat 9) = true → Answers (.opCmp a w) s
    (s.wordRest (s.draw.2.putFlags a.val (((s.sqG a.val (mwSrcA (mwSetAlu w.toNat 9))) + 2 ^ 32 - (s.sqB a.val
    (mwSetAlu w.toNat 9))) % 2 ^ 32) (s.draw.1 % 2 == 1)) a.val (mwSetAlu w.toNat 9))) ∧
  (∀ (a : Act) (w : BitVec 128) (s : State), s.issues a.val (mwSetAlu w.toNat 10) = true → Answers (.ldlc a w) s
    (s.wordRest ((s.draw.2.modSq a.val (fun q =>
    { q with z := s.draw.1 % 2 == 1, n := s.draw.1 / 2 % 2 == 1, c := s.draw.1 / 4 % 2 == 1 })).modSq a.val (fun q
    => { q with lc := (s.sqB a.val (mwSetAlu w.toNat 10)) % 2 ^ 16 })) a.val (mwSetAlu w.toNat 10))) ∧
  (∀ (a : Act) (w : BitVec 128) (s : State), s.issues a.val (mwSetAlu w.toNat 11) = true → (s.sqB a.val (mwSetAlu
    w.toNat 11)) % 8 ≤ 5 → Answers (.ldhs a w) s (s.wordRest ((s.draw.2.modSq a.val (fun q =>
    { q with z := s.draw.1 % 2 == 1, n := s.draw.1 / 2 % 2 == 1, c := s.draw.1 / 4 % 2 == 1 })).modSq a.val (fun q
    => { q with hsel := (s.sqB a.val (mwSetAlu w.toNat 11)) % 8 })) a.val (mwSetAlu w.toNat 11))) ∧
  (∀ (a : Act) (w : BitVec 128) (s : State), s.issues a.val (mwSetAlu w.toNat 11) = true → 5 < (s.sqB a.val
    (mwSetAlu w.toNat 11)) % 8 → Answers (.ldhs a w) s ((s.draw.2.modSq a.val (fun q =>
    { q with z := s.draw.1 % 2 == 1, n := s.draw.1 / 2 % 2 == 1, c := s.draw.1 / 4 % 2 == 1 })).sqStop a.val 0))

/-- Every formatter command of a micro-word answers as Table 6-7 says. TASK_POP, DONE_PUSH, ARM_READ, ARM_WRITE,
ARM_VERIFY, ABANDON, LOAD_ZONE, SELECT, SEEK, TARGET, DEF_LOOKUP and RPT_POP, for every word whose FCMD field is that
command, on a sequencer in RUN that issues it: after the ALU operation, TASK_POP moves the oldest task into w0 to w3
or sets QUEUE; DONE_PUSH puts w4 to w7 into the completion queue or sets QUEUE when it is full; an ARM puts the block
of Table 6-8 into the head's queue, or sets ARM_OVF when it holds 8, and arms no slot that is listed as a slip (R144);
ABANDON abandons the head's sectors; LOAD_ZONE, SEEK and TARGET take the track in w0; SELECT adds the head to the
reader selection; DEF_LOOKUP starts a lookup; RPT_POP moves the oldest report into w4 to w7; then the next-address
operation is carried out. -/
def Obligations.SequencerFormatterComplete : Prop :=
  (∀ (a : Act) (w : BitVec 128) (s : State), s.issues a.val (mwSetFcmd w.toNat 1) = true → (s.sqAlu a.val (mwSetFcmd
    w.toNat 1)).1 = true → ((s.sqAlu a.val (mwSetFcmd w.toNat 1)).2.sq a.val).tasks = [] → Answers (.taskPop a w) s
    ((((s.sqAlu a.val (mwSetFcmd w.toNat 1)).2.fault (.seq a.val) 3).sqNext a.val (s.sqPc a.val) (mwSetFcmd w.toNat
    1) (s.mwHolds a.val (mwSetFcmd w.toNat 1))).wordEnd a.val)) ∧
  (∀ (a : Act) (w : BitVec 128) (s : State), s.issues a.val (mwSetFcmd w.toNat 1) = true → (s.sqAlu a.val (mwSetFcmd
    w.toNat 1)).1 = true → ((s.sqAlu a.val (mwSetFcmd w.toNat 1)).2.sq a.val).tasks ≠ [] → Answers (.taskPop a w) s
    (((((s.sqAlu a.val (mwSetFcmd w.toNat 1)).2.modSq a.val (fun q =>
    { q with tasks := ((s.sqAlu a.val (mwSetFcmd w.toNat 1)).2.sq a.val).tasks.tail })).putOct a.val (mwFoct
    (mwSetFcmd w.toNat 1)) 0 (((s.sqAlu a.val (mwSetFcmd w.toNat 1)).2.sq a.val).tasks.headD [])).sqNext a.val
    (s.sqPc a.val) (mwSetFcmd w.toNat 1) (s.mwHolds a.val (mwSetFcmd w.toNat 1))).wordEnd a.val)) ∧
  (∀ (a : Act) (w : BitVec 128) (s : State), s.issues a.val (mwSetFcmd w.toNat 2) = true → (s.sqAlu a.val (mwSetFcmd
    w.toNat 2)).1 = true → ((s.sqAlu a.val (mwSetFcmd w.toNat 2)).2.sq a.val).done.length < 64 → Answers (.donePush
    a w) s ((((s.sqAlu a.val (mwSetFcmd w.toNat 2)).2.modSq a.val (fun q =>
    { q with done := q.done ++ [[((s.sqAlu a.val (mwSetFcmd w.toNat 2)).2.octW a.val (mwFoct (mwSetFcmd w.toNat 2)) 4), ((s.sqAlu a.val (mwSetFcmd w.toNat 2)).2.octW a.val (mwFoct (mwSetFcmd w.toNat 2)) 5), ((s.sqAlu a.val (mwSetFcmd w.toNat 2)).2.octW a.val (mwFoct (mwSetFcmd w.toNat 2)) 6), ((s.sqAlu a.val (mwSetFcmd w.toNat 2)).2.octW a.val (mwFoct (mwSetFcmd w.toNat 2)) 7)]] })).sqNext
    a.val (s.sqPc a.val) (mwSetFcmd w.toNat 2) (s.mwHolds a.val (mwSetFcmd w.toNat 2))).wordEnd a.val)) ∧
  (∀ (a : Act) (w : BitVec 128) (s : State), s.issues a.val (mwSetFcmd w.toNat 2) = true → (s.sqAlu a.val (mwSetFcmd
    w.toNat 2)).1 = true → 64 ≤ ((s.sqAlu a.val (mwSetFcmd w.toNat 2)).2.sq a.val).done.length → Answers (.donePush
    a w) s ((((s.sqAlu a.val (mwSetFcmd w.toNat 2)).2.fault (.seq a.val) 3).sqNext a.val (s.sqPc a.val) (mwSetFcmd
    w.toNat 2) (s.mwHolds a.val (mwSetFcmd w.toNat 2))).wordEnd a.val)) ∧
  (∀ (a : Act) (w : BitVec 128) (s : State), s.issues a.val (mwSetFcmd w.toNat 3) = true → (s.sqAlu a.val (mwSetFcmd
    w.toNat 3)).1 = true → (s.sqAlu a.val (mwSetFcmd w.toNat 3)).2.slipAt (armAddr ((s.sqAlu a.val (mwSetFcmd
    w.toNat 3)).2.mwHeadOf a.val (mwSetFcmd w.toNat 3)) (armOf .read ((s.sqAlu a.val (mwSetFcmd w.toNat 3)).2.octW
    a.val (mwFoct (mwSetFcmd w.toNat 3)) 0) ((s.sqAlu a.val (mwSetFcmd w.toNat 3)).2.octW a.val (mwFoct (mwSetFcmd
    w.toNat 3)) 1) ((s.sqAlu a.val (mwSetFcmd w.toNat 3)).2.octW a.val (mwFoct (mwSetFcmd w.toNat 3)) 2) ((s.sqAlu
    a.val (mwSetFcmd w.toNat 3)).2.octW a.val (mwFoct (mwSetFcmd w.toNat 3)) 3) ((s.sqAlu a.val (mwSetFcmd w.toNat
    3)).2.octW a.val (mwFoct (mwSetFcmd w.toNat 3)) 4))) = true → Answers (.armRead a w) s ((((s.sqAlu a.val
    (mwSetFcmd w.toNat 3)).2).sqNext a.val (s.sqPc a.val) (mwSetFcmd w.toNat 3) (s.mwHolds a.val (mwSetFcmd w.toNat
    3))).wordEnd a.val)) ∧
  (∀ (a : Act) (w : BitVec 128) (s : State), s.issues a.val (mwSetFcmd w.toNat 3) = true → (s.sqAlu a.val (mwSetFcmd
    w.toNat 3)).1 = true → (s.sqAlu a.val (mwSetFcmd w.toNat 3)).2.slipAt (armAddr ((s.sqAlu a.val (mwSetFcmd
    w.toNat 3)).2.mwHeadOf a.val (mwSetFcmd w.toNat 3)) (armOf .read ((s.sqAlu a.val (mwSetFcmd w.toNat 3)).2.octW
    a.val (mwFoct (mwSetFcmd w.toNat 3)) 0) ((s.sqAlu a.val (mwSetFcmd w.toNat 3)).2.octW a.val (mwFoct (mwSetFcmd
    w.toNat 3)) 1) ((s.sqAlu a.val (mwSetFcmd w.toNat 3)).2.octW a.val (mwFoct (mwSetFcmd w.toNat 3)) 2) ((s.sqAlu
    a.val (mwSetFcmd w.toNat 3)).2.octW a.val (mwFoct (mwSetFcmd w.toNat 3)) 3) ((s.sqAlu a.val (mwSetFcmd w.toNat
    3)).2.octW a.val (mwFoct (mwSetFcmd w.toNat 3)) 4))) = false → ((s.sqAlu a.val (mwSetFcmd w.toNat 3)).2.head
    ((s.sqAlu a.val (mwSetFcmd w.toNat 3)).2.mwHeadOf a.val (mwSetFcmd w.toNat 3))).arms.length < 8 → Answers
    (.armRead a w) s ((((s.sqAlu a.val (mwSetFcmd w.toNat 3)).2.setHead ((s.sqAlu a.val (mwSetFcmd w.toNat
    3)).2.mwHeadOf a.val (mwSetFcmd w.toNat 3))
    { (s.sqAlu a.val (mwSetFcmd w.toNat 3)).2.head ((s.sqAlu a.val (mwSetFcmd w.toNat 3)).2.mwHeadOf a.val (mwSetFcmd w.toNat 3)) with arms := ((s.sqAlu a.val (mwSetFcmd w.toNat 3)).2.head ((s.sqAlu a.val (mwSetFcmd w.toNat 3)).2.mwHeadOf a.val (mwSetFcmd w.toNat 3))).arms ++ [{ (armOf .read ((s.sqAlu a.val (mwSetFcmd w.toNat 3)).2.octW a.val (mwFoct (mwSetFcmd w.toNat 3)) 0) ((s.sqAlu a.val (mwSetFcmd w.toNat 3)).2.octW a.val (mwFoct (mwSetFcmd w.toNat 3)) 1) ((s.sqAlu a.val (mwSetFcmd w.toNat 3)).2.octW a.val (mwFoct (mwSetFcmd w.toNat 3)) 2) ((s.sqAlu a.val (mwSetFcmd w.toNat 3)).2.octW a.val (mwFoct (mwSetFcmd w.toNat 3)) 3) ((s.sqAlu a.val (mwSetFcmd w.toNat 3)).2.octW a.val (mwFoct (mwSetFcmd w.toNat 3)) 4)) with late := (s.sqAlu a.val (mwSetFcmd w.toNat 3)).2.tthLocked && (s.sqAlu a.val (mwSetFcmd w.toNat 3)).2.armLate ((s.sqAlu a.val (mwSetFcmd w.toNat 3)).2.mwHeadOf a.val (mwSetFcmd w.toNat 3)) (armOf .read ((s.sqAlu a.val (mwSetFcmd w.toNat 3)).2.octW a.val (mwFoct (mwSetFcmd w.toNat 3)) 0) ((s.sqAlu a.val (mwSetFcmd w.toNat 3)).2.octW a.val (mwFoct (mwSetFcmd w.toNat 3)) 1) ((s.sqAlu a.val (mwSetFcmd w.toNat 3)).2.octW a.val (mwFoct (mwSetFcmd w.toNat 3)) 2) ((s.sqAlu a.val (mwSetFcmd w.toNat 3)).2.octW a.val (mwFoct (mwSetFcmd w.toNat 3)) 3) ((s.sqAlu a.val (mwSetFcmd w.toNat 3)).2.octW a.val (mwFoct (mwSetFcmd w.toNat 3)) 4)) }] }).sqNext
    a.val (s.sqPc a.val) (mwSetFcmd w.toNat 3) (s.mwHolds a.val (mwSetFcmd w.toNat 3))).wordEnd a.val)) ∧
  (∀ (a : Act) (w : BitVec 128) (s : State), s.issues a.val (mwSetFcmd w.toNat 3) = true → (s.sqAlu a.val (mwSetFcmd
    w.toNat 3)).1 = true → (s.sqAlu a.val (mwSetFcmd w.toNat 3)).2.slipAt (armAddr ((s.sqAlu a.val (mwSetFcmd
    w.toNat 3)).2.mwHeadOf a.val (mwSetFcmd w.toNat 3)) (armOf .read ((s.sqAlu a.val (mwSetFcmd w.toNat 3)).2.octW
    a.val (mwFoct (mwSetFcmd w.toNat 3)) 0) ((s.sqAlu a.val (mwSetFcmd w.toNat 3)).2.octW a.val (mwFoct (mwSetFcmd
    w.toNat 3)) 1) ((s.sqAlu a.val (mwSetFcmd w.toNat 3)).2.octW a.val (mwFoct (mwSetFcmd w.toNat 3)) 2) ((s.sqAlu
    a.val (mwSetFcmd w.toNat 3)).2.octW a.val (mwFoct (mwSetFcmd w.toNat 3)) 3) ((s.sqAlu a.val (mwSetFcmd w.toNat
    3)).2.octW a.val (mwFoct (mwSetFcmd w.toNat 3)) 4))) = false → 8 ≤ ((s.sqAlu a.val (mwSetFcmd w.toNat 3)).2.head
    ((s.sqAlu a.val (mwSetFcmd w.toNat 3)).2.mwHeadOf a.val (mwSetFcmd w.toNat 3))).arms.length → Answers (.armRead
    a w) s ((((s.sqAlu a.val (mwSetFcmd w.toNat 3)).2.fault (.seq (((s.sqAlu a.val (mwSetFcmd w.toNat 3)).2.mwHeadOf
    a.val (mwSetFcmd w.toNat 3)) / 6)) 4).sqNext a.val (s.sqPc a.val) (mwSetFcmd w.toNat 3) (s.mwHolds a.val
    (mwSetFcmd w.toNat 3))).wordEnd a.val)) ∧
  (∀ (a : Act) (w : BitVec 128) (s : State), s.issues a.val (mwSetFcmd w.toNat 4) = true → (s.sqAlu a.val (mwSetFcmd
    w.toNat 4)).1 = true → (s.sqAlu a.val (mwSetFcmd w.toNat 4)).2.slipAt (armAddr ((s.sqAlu a.val (mwSetFcmd
    w.toNat 4)).2.mwHeadOf a.val (mwSetFcmd w.toNat 4)) (armOf .write ((s.sqAlu a.val (mwSetFcmd w.toNat 4)).2.octW
    a.val (mwFoct (mwSetFcmd w.toNat 4)) 0) ((s.sqAlu a.val (mwSetFcmd w.toNat 4)).2.octW a.val (mwFoct (mwSetFcmd
    w.toNat 4)) 1) ((s.sqAlu a.val (mwSetFcmd w.toNat 4)).2.octW a.val (mwFoct (mwSetFcmd w.toNat 4)) 2) ((s.sqAlu
    a.val (mwSetFcmd w.toNat 4)).2.octW a.val (mwFoct (mwSetFcmd w.toNat 4)) 3) ((s.sqAlu a.val (mwSetFcmd w.toNat
    4)).2.octW a.val (mwFoct (mwSetFcmd w.toNat 4)) 4))) = true → Answers (.armWrite a w) s ((((s.sqAlu a.val
    (mwSetFcmd w.toNat 4)).2).sqNext a.val (s.sqPc a.val) (mwSetFcmd w.toNat 4) (s.mwHolds a.val (mwSetFcmd w.toNat
    4))).wordEnd a.val)) ∧
  (∀ (a : Act) (w : BitVec 128) (s : State), s.issues a.val (mwSetFcmd w.toNat 4) = true → (s.sqAlu a.val (mwSetFcmd
    w.toNat 4)).1 = true → (s.sqAlu a.val (mwSetFcmd w.toNat 4)).2.slipAt (armAddr ((s.sqAlu a.val (mwSetFcmd
    w.toNat 4)).2.mwHeadOf a.val (mwSetFcmd w.toNat 4)) (armOf .write ((s.sqAlu a.val (mwSetFcmd w.toNat 4)).2.octW
    a.val (mwFoct (mwSetFcmd w.toNat 4)) 0) ((s.sqAlu a.val (mwSetFcmd w.toNat 4)).2.octW a.val (mwFoct (mwSetFcmd
    w.toNat 4)) 1) ((s.sqAlu a.val (mwSetFcmd w.toNat 4)).2.octW a.val (mwFoct (mwSetFcmd w.toNat 4)) 2) ((s.sqAlu
    a.val (mwSetFcmd w.toNat 4)).2.octW a.val (mwFoct (mwSetFcmd w.toNat 4)) 3) ((s.sqAlu a.val (mwSetFcmd w.toNat
    4)).2.octW a.val (mwFoct (mwSetFcmd w.toNat 4)) 4))) = false → ((s.sqAlu a.val (mwSetFcmd w.toNat 4)).2.head
    ((s.sqAlu a.val (mwSetFcmd w.toNat 4)).2.mwHeadOf a.val (mwSetFcmd w.toNat 4))).arms.length < 8 → Answers
    (.armWrite a w) s ((((s.sqAlu a.val (mwSetFcmd w.toNat 4)).2.setHead ((s.sqAlu a.val (mwSetFcmd w.toNat
    4)).2.mwHeadOf a.val (mwSetFcmd w.toNat 4))
    { (s.sqAlu a.val (mwSetFcmd w.toNat 4)).2.head ((s.sqAlu a.val (mwSetFcmd w.toNat 4)).2.mwHeadOf a.val (mwSetFcmd w.toNat 4)) with arms := ((s.sqAlu a.val (mwSetFcmd w.toNat 4)).2.head ((s.sqAlu a.val (mwSetFcmd w.toNat 4)).2.mwHeadOf a.val (mwSetFcmd w.toNat 4))).arms ++ [{ (armOf .write ((s.sqAlu a.val (mwSetFcmd w.toNat 4)).2.octW a.val (mwFoct (mwSetFcmd w.toNat 4)) 0) ((s.sqAlu a.val (mwSetFcmd w.toNat 4)).2.octW a.val (mwFoct (mwSetFcmd w.toNat 4)) 1) ((s.sqAlu a.val (mwSetFcmd w.toNat 4)).2.octW a.val (mwFoct (mwSetFcmd w.toNat 4)) 2) ((s.sqAlu a.val (mwSetFcmd w.toNat 4)).2.octW a.val (mwFoct (mwSetFcmd w.toNat 4)) 3) ((s.sqAlu a.val (mwSetFcmd w.toNat 4)).2.octW a.val (mwFoct (mwSetFcmd w.toNat 4)) 4)) with late := (s.sqAlu a.val (mwSetFcmd w.toNat 4)).2.tthLocked && (s.sqAlu a.val (mwSetFcmd w.toNat 4)).2.armLate ((s.sqAlu a.val (mwSetFcmd w.toNat 4)).2.mwHeadOf a.val (mwSetFcmd w.toNat 4)) (armOf .write ((s.sqAlu a.val (mwSetFcmd w.toNat 4)).2.octW a.val (mwFoct (mwSetFcmd w.toNat 4)) 0) ((s.sqAlu a.val (mwSetFcmd w.toNat 4)).2.octW a.val (mwFoct (mwSetFcmd w.toNat 4)) 1) ((s.sqAlu a.val (mwSetFcmd w.toNat 4)).2.octW a.val (mwFoct (mwSetFcmd w.toNat 4)) 2) ((s.sqAlu a.val (mwSetFcmd w.toNat 4)).2.octW a.val (mwFoct (mwSetFcmd w.toNat 4)) 3) ((s.sqAlu a.val (mwSetFcmd w.toNat 4)).2.octW a.val (mwFoct (mwSetFcmd w.toNat 4)) 4)) }], held := ((s.sqAlu a.val (mwSetFcmd w.toNat 4)).2.head ((s.sqAlu a.val (mwSetFcmd w.toNat 4)).2.mwHeadOf a.val (mwSetFcmd w.toNat 4))).held.filter (fun u => !(u.track == (armOf .write ((s.sqAlu a.val (mwSetFcmd w.toNat 4)).2.octW a.val (mwFoct (mwSetFcmd w.toNat 4)) 0) ((s.sqAlu a.val (mwSetFcmd w.toNat 4)).2.octW a.val (mwFoct (mwSetFcmd w.toNat 4)) 1) ((s.sqAlu a.val (mwSetFcmd w.toNat 4)).2.octW a.val (mwFoct (mwSetFcmd w.toNat 4)) 2) ((s.sqAlu a.val (mwSetFcmd w.toNat 4)).2.octW a.val (mwFoct (mwSetFcmd w.toNat 4)) 3) ((s.sqAlu a.val (mwSetFcmd w.toNat 4)).2.octW a.val (mwFoct (mwSetFcmd w.toNat 4)) 4)).track && u.slot == (armOf .write ((s.sqAlu a.val (mwSetFcmd w.toNat 4)).2.octW a.val (mwFoct (mwSetFcmd w.toNat 4)) 0) ((s.sqAlu a.val (mwSetFcmd w.toNat 4)).2.octW a.val (mwFoct (mwSetFcmd w.toNat 4)) 1) ((s.sqAlu a.val (mwSetFcmd w.toNat 4)).2.octW a.val (mwFoct (mwSetFcmd w.toNat 4)) 2) ((s.sqAlu a.val (mwSetFcmd w.toNat 4)).2.octW a.val (mwFoct (mwSetFcmd w.toNat 4)) 3) ((s.sqAlu a.val (mwSetFcmd w.toNat 4)).2.octW a.val (mwFoct (mwSetFcmd w.toNat 4)) 4)).slot)) }).sqNext
    a.val (s.sqPc a.val) (mwSetFcmd w.toNat 4) (s.mwHolds a.val (mwSetFcmd w.toNat 4))).wordEnd a.val)) ∧
  (∀ (a : Act) (w : BitVec 128) (s : State), s.issues a.val (mwSetFcmd w.toNat 4) = true → (s.sqAlu a.val (mwSetFcmd
    w.toNat 4)).1 = true → (s.sqAlu a.val (mwSetFcmd w.toNat 4)).2.slipAt (armAddr ((s.sqAlu a.val (mwSetFcmd
    w.toNat 4)).2.mwHeadOf a.val (mwSetFcmd w.toNat 4)) (armOf .write ((s.sqAlu a.val (mwSetFcmd w.toNat 4)).2.octW
    a.val (mwFoct (mwSetFcmd w.toNat 4)) 0) ((s.sqAlu a.val (mwSetFcmd w.toNat 4)).2.octW a.val (mwFoct (mwSetFcmd
    w.toNat 4)) 1) ((s.sqAlu a.val (mwSetFcmd w.toNat 4)).2.octW a.val (mwFoct (mwSetFcmd w.toNat 4)) 2) ((s.sqAlu
    a.val (mwSetFcmd w.toNat 4)).2.octW a.val (mwFoct (mwSetFcmd w.toNat 4)) 3) ((s.sqAlu a.val (mwSetFcmd w.toNat
    4)).2.octW a.val (mwFoct (mwSetFcmd w.toNat 4)) 4))) = false → 8 ≤ ((s.sqAlu a.val (mwSetFcmd w.toNat 4)).2.head
    ((s.sqAlu a.val (mwSetFcmd w.toNat 4)).2.mwHeadOf a.val (mwSetFcmd w.toNat 4))).arms.length → Answers (.armWrite
    a w) s ((((s.sqAlu a.val (mwSetFcmd w.toNat 4)).2.fault (.seq (((s.sqAlu a.val (mwSetFcmd w.toNat 4)).2.mwHeadOf
    a.val (mwSetFcmd w.toNat 4)) / 6)) 4).sqNext a.val (s.sqPc a.val) (mwSetFcmd w.toNat 4) (s.mwHolds a.val
    (mwSetFcmd w.toNat 4))).wordEnd a.val)) ∧
  (∀ (a : Act) (w : BitVec 128) (s : State), s.issues a.val (mwSetFcmd w.toNat 5) = true → (s.sqAlu a.val (mwSetFcmd
    w.toNat 5)).1 = true → (s.sqAlu a.val (mwSetFcmd w.toNat 5)).2.slipAt (armAddr ((s.sqAlu a.val (mwSetFcmd
    w.toNat 5)).2.mwHeadOf a.val (mwSetFcmd w.toNat 5)) (armOf .verify ((s.sqAlu a.val (mwSetFcmd w.toNat 5)).2.octW
    a.val (mwFoct (mwSetFcmd w.toNat 5)) 0) ((s.sqAlu a.val (mwSetFcmd w.toNat 5)).2.octW a.val (mwFoct (mwSetFcmd
    w.toNat 5)) 1) ((s.sqAlu a.val (mwSetFcmd w.toNat 5)).2.octW a.val (mwFoct (mwSetFcmd w.toNat 5)) 2) ((s.sqAlu
    a.val (mwSetFcmd w.toNat 5)).2.octW a.val (mwFoct (mwSetFcmd w.toNat 5)) 3) ((s.sqAlu a.val (mwSetFcmd w.toNat
    5)).2.octW a.val (mwFoct (mwSetFcmd w.toNat 5)) 4))) = true → Answers (.armVerify a w) s ((((s.sqAlu a.val
    (mwSetFcmd w.toNat 5)).2).sqNext a.val (s.sqPc a.val) (mwSetFcmd w.toNat 5) (s.mwHolds a.val (mwSetFcmd w.toNat
    5))).wordEnd a.val)) ∧
  (∀ (a : Act) (w : BitVec 128) (s : State), s.issues a.val (mwSetFcmd w.toNat 5) = true → (s.sqAlu a.val (mwSetFcmd
    w.toNat 5)).1 = true → (s.sqAlu a.val (mwSetFcmd w.toNat 5)).2.slipAt (armAddr ((s.sqAlu a.val (mwSetFcmd
    w.toNat 5)).2.mwHeadOf a.val (mwSetFcmd w.toNat 5)) (armOf .verify ((s.sqAlu a.val (mwSetFcmd w.toNat 5)).2.octW
    a.val (mwFoct (mwSetFcmd w.toNat 5)) 0) ((s.sqAlu a.val (mwSetFcmd w.toNat 5)).2.octW a.val (mwFoct (mwSetFcmd
    w.toNat 5)) 1) ((s.sqAlu a.val (mwSetFcmd w.toNat 5)).2.octW a.val (mwFoct (mwSetFcmd w.toNat 5)) 2) ((s.sqAlu
    a.val (mwSetFcmd w.toNat 5)).2.octW a.val (mwFoct (mwSetFcmd w.toNat 5)) 3) ((s.sqAlu a.val (mwSetFcmd w.toNat
    5)).2.octW a.val (mwFoct (mwSetFcmd w.toNat 5)) 4))) = false → ((s.sqAlu a.val (mwSetFcmd w.toNat 5)).2.head
    ((s.sqAlu a.val (mwSetFcmd w.toNat 5)).2.mwHeadOf a.val (mwSetFcmd w.toNat 5))).arms.length < 8 → Answers
    (.armVerify a w) s ((((s.sqAlu a.val (mwSetFcmd w.toNat 5)).2.setHead ((s.sqAlu a.val (mwSetFcmd w.toNat
    5)).2.mwHeadOf a.val (mwSetFcmd w.toNat 5))
    { (s.sqAlu a.val (mwSetFcmd w.toNat 5)).2.head ((s.sqAlu a.val (mwSetFcmd w.toNat 5)).2.mwHeadOf a.val (mwSetFcmd w.toNat 5)) with arms := ((s.sqAlu a.val (mwSetFcmd w.toNat 5)).2.head ((s.sqAlu a.val (mwSetFcmd w.toNat 5)).2.mwHeadOf a.val (mwSetFcmd w.toNat 5))).arms ++ [{ (armOf .verify ((s.sqAlu a.val (mwSetFcmd w.toNat 5)).2.octW a.val (mwFoct (mwSetFcmd w.toNat 5)) 0) ((s.sqAlu a.val (mwSetFcmd w.toNat 5)).2.octW a.val (mwFoct (mwSetFcmd w.toNat 5)) 1) ((s.sqAlu a.val (mwSetFcmd w.toNat 5)).2.octW a.val (mwFoct (mwSetFcmd w.toNat 5)) 2) ((s.sqAlu a.val (mwSetFcmd w.toNat 5)).2.octW a.val (mwFoct (mwSetFcmd w.toNat 5)) 3) ((s.sqAlu a.val (mwSetFcmd w.toNat 5)).2.octW a.val (mwFoct (mwSetFcmd w.toNat 5)) 4)) with late := (s.sqAlu a.val (mwSetFcmd w.toNat 5)).2.tthLocked && (s.sqAlu a.val (mwSetFcmd w.toNat 5)).2.armLate ((s.sqAlu a.val (mwSetFcmd w.toNat 5)).2.mwHeadOf a.val (mwSetFcmd w.toNat 5)) (armOf .verify ((s.sqAlu a.val (mwSetFcmd w.toNat 5)).2.octW a.val (mwFoct (mwSetFcmd w.toNat 5)) 0) ((s.sqAlu a.val (mwSetFcmd w.toNat 5)).2.octW a.val (mwFoct (mwSetFcmd w.toNat 5)) 1) ((s.sqAlu a.val (mwSetFcmd w.toNat 5)).2.octW a.val (mwFoct (mwSetFcmd w.toNat 5)) 2) ((s.sqAlu a.val (mwSetFcmd w.toNat 5)).2.octW a.val (mwFoct (mwSetFcmd w.toNat 5)) 3) ((s.sqAlu a.val (mwSetFcmd w.toNat 5)).2.octW a.val (mwFoct (mwSetFcmd w.toNat 5)) 4)) }] }).sqNext
    a.val (s.sqPc a.val) (mwSetFcmd w.toNat 5) (s.mwHolds a.val (mwSetFcmd w.toNat 5))).wordEnd a.val)) ∧
  (∀ (a : Act) (w : BitVec 128) (s : State), s.issues a.val (mwSetFcmd w.toNat 5) = true → (s.sqAlu a.val (mwSetFcmd
    w.toNat 5)).1 = true → (s.sqAlu a.val (mwSetFcmd w.toNat 5)).2.slipAt (armAddr ((s.sqAlu a.val (mwSetFcmd
    w.toNat 5)).2.mwHeadOf a.val (mwSetFcmd w.toNat 5)) (armOf .verify ((s.sqAlu a.val (mwSetFcmd w.toNat 5)).2.octW
    a.val (mwFoct (mwSetFcmd w.toNat 5)) 0) ((s.sqAlu a.val (mwSetFcmd w.toNat 5)).2.octW a.val (mwFoct (mwSetFcmd
    w.toNat 5)) 1) ((s.sqAlu a.val (mwSetFcmd w.toNat 5)).2.octW a.val (mwFoct (mwSetFcmd w.toNat 5)) 2) ((s.sqAlu
    a.val (mwSetFcmd w.toNat 5)).2.octW a.val (mwFoct (mwSetFcmd w.toNat 5)) 3) ((s.sqAlu a.val (mwSetFcmd w.toNat
    5)).2.octW a.val (mwFoct (mwSetFcmd w.toNat 5)) 4))) = false → 8 ≤ ((s.sqAlu a.val (mwSetFcmd w.toNat 5)).2.head
    ((s.sqAlu a.val (mwSetFcmd w.toNat 5)).2.mwHeadOf a.val (mwSetFcmd w.toNat 5))).arms.length → Answers
    (.armVerify a w) s ((((s.sqAlu a.val (mwSetFcmd w.toNat 5)).2.fault (.seq (((s.sqAlu a.val (mwSetFcmd w.toNat
    5)).2.mwHeadOf a.val (mwSetFcmd w.toNat 5)) / 6)) 4).sqNext a.val (s.sqPc a.val) (mwSetFcmd w.toNat 5)
    (s.mwHolds a.val (mwSetFcmd w.toNat 5))).wordEnd a.val)) ∧
  (∀ (a : Act) (w : BitVec 128) (s : State), s.issues a.val (mwSetFcmd w.toNat 6) = true → (s.sqAlu a.val (mwSetFcmd
    w.toNat 6)).1 = true → Answers (.opAbandon a w) s ((((s.sqAlu a.val (mwSetFcmd w.toNat 6)).2.abandonHead
    ((s.sqAlu a.val (mwSetFcmd w.toNat 6)).2.mwHeadOf a.val (mwSetFcmd w.toNat 6))).sqNext a.val (s.sqPc a.val)
    (mwSetFcmd w.toNat 6) (s.mwHolds a.val (mwSetFcmd w.toNat 6))).wordEnd a.val)) ∧
  (∀ (a : Act) (w : BitVec 128) (s : State), s.issues a.val (mwSetFcmd w.toNat 7) = true → (s.sqAlu a.val (mwSetFcmd
    w.toNat 7)).1 = true → Answers (.loadZone a w) s ((((s.sqAlu a.val (mwSetFcmd w.toNat 7)).2.zoneRequest
    ((s.sqAlu a.val (mwSetFcmd w.toNat 7)).2.mwHeadOf a.val (mwSetFcmd w.toNat 7)) (bitsOf ((s.sqAlu a.val
    (mwSetFcmd w.toNat 7)).2.octW a.val (mwFoct (mwSetFcmd w.toNat 7)) 0) 0 22)).sqNext a.val (s.sqPc a.val)
    (mwSetFcmd w.toNat 7) (s.mwHolds a.val (mwSetFcmd w.toNat 7))).wordEnd a.val)) ∧
  (∀ (a : Act) (w : BitVec 128) (s : State), s.issues a.val (mwSetFcmd w.toNat 8) = true → (s.sqAlu a.val (mwSetFcmd
    w.toNat 8)).1 = true → Answers (.opSelect a w) s ((((s.sqAlu a.val (mwSetFcmd w.toNat 8)).2.dlkSelect a.val
    (Nat.lor ((s.sqAlu a.val (mwSetFcmd w.toNat 8)).2.get (R.DLK_L_RSEL_RSEL a.val)) (2 ^ (((s.sqAlu a.val
    (mwSetFcmd w.toNat 8)).2.mwHeadOf a.val (mwSetFcmd w.toNat 8)) - 6 * a.val)))).sqNext a.val (s.sqPc a.val)
    (mwSetFcmd w.toNat 8) (s.mwHolds a.val (mwSetFcmd w.toNat 8))).wordEnd a.val)) ∧
  (∀ (a : Act) (w : BitVec 128) (s : State), s.issues a.val (mwSetFcmd w.toNat 9) = true → (s.sqAlu a.val (mwSetFcmd
    w.toNat 9)).1 = true → Answers (.opSeek a w) s ((((s.sqAlu a.val (mwSetFcmd w.toNat 9)).2.seekCmd a.val (bitsOf
    ((s.sqAlu a.val (mwSetFcmd w.toNat 9)).2.octW a.val (mwFoct (mwSetFcmd w.toNat 9)) 0) 0 22) ((s.sqAlu a.val
    (mwSetFcmd w.toNat 9)).2.mwHeadOf a.val (mwSetFcmd w.toNat 9))).sqNext a.val (s.sqPc a.val) (mwSetFcmd w.toNat
    9) (s.mwHolds a.val (mwSetFcmd w.toNat 9))).wordEnd a.val)) ∧
  (∀ (a : Act) (w : BitVec 128) (s : State), s.issues a.val (mwSetFcmd w.toNat 10) = true → (s.sqAlu a.val
    (mwSetFcmd w.toNat 10)).1 = true → Answers (.opTarget a w) s ((((s.sqAlu a.val (mwSetFcmd w.toNat
    10)).2.setTarget ((s.sqAlu a.val (mwSetFcmd w.toNat 10)).2.mwHeadOf a.val (mwSetFcmd w.toNat 10)) (bitsOf
    ((s.sqAlu a.val (mwSetFcmd w.toNat 10)).2.octW a.val (mwFoct (mwSetFcmd w.toNat 10)) 0) 0 22)).sqNext a.val
    (s.sqPc a.val) (mwSetFcmd w.toNat 10) (s.mwHolds a.val (mwSetFcmd w.toNat 10))).wordEnd a.val)) ∧
  (∀ (a : Act) (w : BitVec 128) (s : State), s.issues a.val (mwSetFcmd w.toNat 11) = true → (s.sqAlu a.val
    (mwSetFcmd w.toNat 11)).1 = true → Answers (.defLookup a w) s (((((s.sqAlu a.val (mwSetFcmd w.toNat
    11)).2.lookupDone a.val).modSq a.val (fun q =>
    { q with lookup := some ⟨physAddr ((s.sqAlu a.val (mwSetFcmd w.toNat 11)).2.mwHeadOf a.val (mwSetFcmd w.toNat 11)) (bitsOf ((s.sqAlu a.val (mwSetFcmd w.toNat 11)).2.octW a.val (mwFoct (mwSetFcmd w.toNat 11)) 0) 0 22) (bitsOf ((s.sqAlu a.val (mwSetFcmd w.toNat 11)).2.octW a.val (mwFoct (mwSetFcmd w.toNat 11)) 1) 0 13), (mwFoct (mwSetFcmd w.toNat 11)), ((s.sqAlu a.val (mwSetFcmd w.toNat 11)).2.lookupDone a.val).defBase a.val, ((s.sqAlu a.val (mwSetFcmd w.toNat 11)).2.lookupDone a.val).get (R.SEQ_DEF_COUNT_COUNT a.val)⟩ })).sqNext
    a.val (s.sqPc a.val) (mwSetFcmd w.toNat 11) (s.mwHolds a.val (mwSetFcmd w.toNat 11))).wordEnd a.val)) ∧
  (∀ (a : Act) (w : BitVec 128) (s : State), s.issues a.val (mwSetFcmd w.toNat 12) = true → (s.sqAlu a.val
    (mwSetFcmd w.toNat 12)).1 = true → ((s.sqAlu a.val (mwSetFcmd w.toNat 12)).2.head ((s.sqAlu a.val (mwSetFcmd
    w.toNat 12)).2.mwHeadOf a.val (mwSetFcmd w.toNat 12))).reports = [] → Answers (.rptPop a w) s ((((s.sqAlu a.val
    (mwSetFcmd w.toNat 12)).2).sqNext a.val (s.sqPc a.val) (mwSetFcmd w.toNat 12) (s.mwHolds a.val (mwSetFcmd
    w.toNat 12))).wordEnd a.val)) ∧
  (∀ (a : Act) (w : BitVec 128) (s : State), s.issues a.val (mwSetFcmd w.toNat 12) = true → (s.sqAlu a.val
    (mwSetFcmd w.toNat 12)).1 = true → ((s.sqAlu a.val (mwSetFcmd w.toNat 12)).2.head ((s.sqAlu a.val (mwSetFcmd
    w.toNat 12)).2.mwHeadOf a.val (mwSetFcmd w.toNat 12))).reports ≠ [] → Answers (.rptPop a w) s (((((s.sqAlu a.val
    (mwSetFcmd w.toNat 12)).2.modHead ((s.sqAlu a.val (mwSetFcmd w.toNat 12)).2.mwHeadOf a.val (mwSetFcmd w.toNat
    12)) (fun x =>
    { x with reports := ((s.sqAlu a.val (mwSetFcmd w.toNat 12)).2.head ((s.sqAlu a.val (mwSetFcmd w.toNat 12)).2.mwHeadOf a.val (mwSetFcmd w.toNat 12))).reports.tail })).putOct
    a.val (mwFoct (mwSetFcmd w.toNat 12)) 4 [((s.sqAlu a.val (mwSetFcmd w.toNat 12)).2.head ((s.sqAlu a.val
    (mwSetFcmd w.toNat 12)).2.mwHeadOf a.val (mwSetFcmd w.toNat 12))).reports.headD 0 % 2 ^ 32, ((s.sqAlu a.val
    (mwSetFcmd w.toNat 12)).2.head ((s.sqAlu a.val (mwSetFcmd w.toNat 12)).2.mwHeadOf a.val (mwSetFcmd w.toNat
    12))).reports.headD 0 / 2 ^ 32 % 2 ^ 32, ((s.sqAlu a.val (mwSetFcmd w.toNat 12)).2.head ((s.sqAlu a.val
    (mwSetFcmd w.toNat 12)).2.mwHeadOf a.val (mwSetFcmd w.toNat 12))).reports.headD 0 / 2 ^ 64 % 2 ^ 32, ((s.sqAlu
    a.val (mwSetFcmd w.toNat 12)).2.head ((s.sqAlu a.val (mwSetFcmd w.toNat 12)).2.mwHeadOf a.val (mwSetFcmd w.toNat
    12))).reports.headD 0 / 2 ^ 96 % 2 ^ 32]).sqNext a.val (s.sqPc a.val) (mwSetFcmd w.toNat 12) (s.mwHolds a.val
    (mwSetFcmd w.toNat 12))).wordEnd a.val))

/-- The Darenlen links' commands answer as chapter 19 says. DLK_ENABLE, DLK_FRAME_SEND, DLK_REPLY, DLK_EXCHANGE_TIMEOUT,
DLK_LINK_DOWN, DLK_ALIGN_START, DLK_ALIGNED, DLK_TRAIN_TIMEOUT, DLK_PING, DLK_FAULT_LINE, DLK_RSEL_WRITE,
DLK_PREG_READ and DLK_PREG_WRITE: an enable bit that changes takes its link out of or into OFF; in TRAIN the next
training frame goes out with the next SEQ, in LOAD the next configuration frame, in UP a waiting RUN_OFF, else the
waiting frame of the best class or one to send again; a reply that is no good frame is no reply, a late one or one
with a wrong echo fails the exchange; no reply in RSP_TMO fails it; a link that is UP goes down on a line failure;
alignment starts 60 us after DOWN, 64 symbols enter TRAIN, 2 ms without UP fail the attempt; an idle UP link pings
after PING_T; the fault line low drives UNSAFE; the register port answers DOWN on a link that is not UP. -/
def Obligations.DarenlenCommandsComplete : Prop :=
  (∀ (path : Path) (a : Act) (value : Word) (s : State), s.takes path R.A_DLK_CTRL value = true → Answers
    (.dlkEnable path a value) s ((List.range 4).foldl (fun (t : State) i => if bitOf (s.rd R.A_DLK_CTRL).toNat i =
    bitOf value.toNat i then t else t.dlkEnable i (bitOf value.toNat i)) (s.storeReg path R.A_DLK_CTRL value))) ∧
  (∀ (a : Act) (s : State), s.dlkState a.val = 0 → s.dlkEnable a.val true = (s.set (R.DLK_L_STAT_STATE a.val)
    1).modLink a.val (fun l => { l with attemptAt := s.now, downs := [] }) ∧ s.dlkEnable a.val false = s) ∧
  (∀ (a : Act) (s : State), ((s.link a.val).flight.isSome = true ∨ s.dlkState a.val = 0 ∨ s.dlkState a.val = 1 ∨
    s.dlkState a.val = 5 ∨ s.dlkState a.val = 6) → Answers (.dlkFrameSend a) s s) ∧
  (∀ (a : Act) (s : State), s.dlkState a.val = 2 → (s.link a.val).flight = none → Answers (.dlkFrameSend a) s
    (s.dlkSend a.val (trainFrame (s.link a.val).train))) ∧
  (∀ (a : Act) (f : DlkFrame) (r : List DlkFrame) (s : State), s.dlkState a.val = 3 → (s.link a.val).flight = none →
    (s.link a.val).load = f :: r → Answers (.dlkFrameSend a) s ((s.dlkSend a.val f).modLink a.val (fun k =>
    { k with load := r }))) ∧
  (∀ (a : Act) (f : DlkFrame) (s : State), s.dlkState a.val = 4 → (s.link a.val).flight = none → (s.link
    a.val).offWaits = some f → Answers (.dlkFrameSend a) s (s.dlkSendWaiting a.val f)) ∧
  (∀ (a : Act) (f : DlkFrame) (s : State), s.dlkState a.val = 4 → (s.link a.val).flight = none → (s.link
    a.val).offWaits = none → (s.link a.val).resend = [] → pickFrame s.now s.rspTmo (s.link a.val).waiting = some f →
    Answers (.dlkFrameSend a) s (s.dlkSendWaiting a.val f)) ∧
  (∀ (a : Act) (e : DlkFrame × Nat × Nat) (s : State), s.dlkState a.val = 4 → (s.link a.val).flight = none → (s.link
    a.val).waiting = [] → (s.link a.val).resend = [e] → Answers (.dlkFrameSend a) s (s.dlkResend a.val e)) ∧
  (∀ (a : Act) (f : DlkFrame) (s : State), 7 ≤ f.ty → s.dlkSend a.val f = s.modLink a.val (fun l =>
    { s.dlkLine (frameBytes f l.seq) l with flight := some (f, l.seq, 1, s.now), seq := (l.seq + 1) % 16 })) ∧
  (∀ (a : Act) (f : DlkFrame) (s : State), s.dlkSendWaiting a.val f = (s.modLink a.val (fun l =>
    { l with waiting := l.waiting.erase f })).dlkSend a.val f) ∧
  (∀ (bs : List Byte) (l : DlkLink) (s : State), s.dlkLine bs l =
    { l with out := bs, line := (frameSymbols (s.lineRd l) bs).1, rd := (frameSymbols (s.lineRd l) bs).2, lastSent := s.now }) ∧
  (∀ (a : Act) (xs : List LineSymbol) (s : State), (s.link a.val).flight = none → Answers (.dlkReply a xs) s s) ∧
  (∀ (a : Act) (xs : List LineSymbol) (s : State), goodFrame (xs.map (fun x => x.toNat)) = none → Answers (.dlkReply
    a xs) s s) ∧
  (∀ (a : Act) (xs : List LineSymbol) (bs : List Byte) (f : DlkFrame) (q n t : Nat) (s : State), (s.link
    a.val).flight = some (f, q, n, t) → goodFrame (xs.map (fun x => x.toNat)) = some bs → t + 2 * s.frameNs +
    s.rspTmo < s.now → Answers (.dlkReply a xs) s (s.exchangeFail a.val)) ∧
  (∀ (a : Act) (xs : List LineSymbol) (bs : List Byte) (f : DlkFrame) (q n t : Nat) (s : State), (s.link
    a.val).flight = some (f, q, n, t) → goodFrame (xs.map (fun x => x.toNat)) = some bs → (((bs[0]?).getD 0).toNat %
    16 ≠ f.ty ∨ ((bs[0]?).getD 0).toNat / 16 ≠ q) → Answers (.dlkReply a xs) s (s.exchangeFail a.val)) ∧
  (∀ (a : Act) (xs : List LineSymbol) (bs : List Byte) (f : DlkFrame) (q n t : Nat) (s : State), (s.link
    a.val).flight = some (f, q, n, t) → goodFrame (xs.map (fun x => x.toNat)) = some bs → s.now ≤ t + 2 * s.frameNs
    + s.rspTmo → ((bs[0]?).getD 0).toNat % 16 = f.ty → ((bs[0]?).getD 0).toNat / 16 = q → bitOf ((bs[2]?).getD
    0).toNat 6 = false → bitOf ((bs[2]?).getD 0).toNat 7 = false → ((s.set (R.DLK_L_STAT_RTT a.val) (satN ((s.now -
    t) / 8) 255)).dlkEnded a.val).dlkState a.val = 4 → Answers (.dlkReply a xs) s (((s.set (R.DLK_L_STAT_RTT a.val)
    (satN ((s.now - t) / 8) 255)).dlkEnded a.val).replyUp a.val f ((bs[2]?).getD 0).toNat (256 * ((bs[3]?).getD
    0).toNat + ((bs[4]?).getD 0).toNat))) ∧
  (∀ (a : Act) (s : State), (s.link a.val).flight = none → Answers (.dlkExchangeTimeout a) s s) ∧
  (∀ (a : Act) (f : DlkFrame) (q n t : Nat) (s : State), (s.link a.val).flight = some (f, q, n, t) → s.passed t ((if
    s.get R.DLK_CTRL_RATE = 1 then 128 else 64) + s.get R.DLK_CFG_RSP_TMO * 8) = true → Answers (.dlkExchangeTimeout
    a) s (s.exchangeFail a.val)) ∧
  (∀ (a : Act) (f : DlkFrame) (q n t : Nat) (s : State), (s.link a.val).flight = some (f, q, n, t) → s.passed t ((if
    s.get R.DLK_CTRL_RATE = 1 then 128 else 64) + s.get R.DLK_CFG_RSP_TMO * 8) = false → Answers
    (.dlkExchangeTimeout a) s s) ∧
  (∀ (a : Act) (f : DlkFrame) (q n t : Nat) (s : State), (s.link a.val).flight = some (f, q, n, t) → s.dlkState
    a.val = 4 → s.exchangeFail a.val = (if s.get R.DLK_CFG_RETRY + 1 ≤ n then s.dlkDown a.val else (((s.modLink
    a.val (fun l => { l with flight := none, resend := l.resend ++ [(f, q, n)] })).bump (R.DLK_L_CNT_RETRIES a.val)
    1).fault .dlk (8 + a.val)).dlkRecord a.val 1)) ∧
  (∀ (a : Act) (xs : List LineSymbol) (s : State), s.dlkState a.val = 4 → s.lineBad (xs.map (fun x => x.toNat)) =
    true → Answers (.dlkLinkDown a xs) s (s.dlkDown a.val)) ∧
  (∀ (a : Act) (xs : List LineSymbol) (s : State), (s.dlkState a.val ≠ 4 ∨ s.lineBad (xs.map (fun x => x.toNat)) =
    false) → Answers (.dlkLinkDown a xs) s s) ∧
  (∀ (a : Act) (s : State), s.dlkState a.val = 5 → (s.link a.val).downAt + 60000 ≤ s.now → Answers (.dlkAlignStart
    a) s ((s.set (R.DLK_L_STAT_STATE a.val) 1).modLink a.val (fun l => { l with attemptAt := s.now }))) ∧
  (∀ (a : Act) (s : State), (s.dlkState a.val ≠ 5 ∨ s.now < (s.link a.val).downAt + 60000) → Answers (.dlkAlignStart
    a) s s) ∧
  (∀ (a : Act) (xs : List LineSymbol) (s : State), s.dlkState a.val = 1 → aligned (xs.map (fun x => x.toNat)) = true
    → Answers (.dlkAligned a xs) s ((s.set (R.DLK_L_STAT_STATE a.val) 2).modLink a.val (fun l =>
    { l with train := 0, flight := none }))) ∧
  (∀ (a : Act) (xs : List LineSymbol) (s : State), (s.dlkState a.val ≠ 1 ∨ aligned (xs.map (fun x => x.toNat)) =
    false) → Answers (.dlkAligned a xs) s s) ∧
  (∀ (a : Act) (s : State), 1 ≤ s.dlkState a.val → s.dlkState a.val ≤ 3 → (s.link a.val).attemptAt + 2000000 ≤ s.now
    → Answers (.dlkTrainTimeout a) s (s.attemptFail a.val)) ∧
  (∀ (a : Act) (s : State), (s.dlkState a.val = 0 ∨ 4 ≤ s.dlkState a.val ∨ s.now < (s.link a.val).attemptAt +
    2000000) → Answers (.dlkTrainTimeout a) s s) ∧
  (∀ (a : Act) (s : State), s.dlkState a.val = 4 → (s.link a.val).open = [] → (s.link a.val).lastSent + s.get
    R.DLK_CFG_PING_T * 1000 ≤ s.now → Answers (.dlkPing a) s (s.setLink a.val
    { s.link a.val with waiting := (s.link a.val).waiting ++ [⟨9, 0, 0, 0, 0, s.now, .plain⟩] })) ∧
  (∀ (a : Act) (s : State), (s.dlkState a.val ≠ 4 ∨ s.now < (s.link a.val).lastSent + s.get R.DLK_CFG_PING_T * 1000)
    → Answers (.dlkPing a) s s) ∧
  (∀ (a : Act) (low : Bool) (s : State), s.flag (R.DLK_L_STAT_FLT_LEVEL a.val) = low → Answers (.dlkFaultLine a low)
    s s) ∧
  (∀ (a : Act) (s : State), s.flag (R.DLK_L_STAT_FLT_LEVEL a.val) = true → Answers (.dlkFaultLine a false) s
    ((s.setFlag (R.DLK_L_STAT_FLT_LEVEL a.val) false).unsafeReopen a.val)) ∧
  (∀ (a : Act) (s : State), s.flag (R.DLK_L_STAT_FLT_LEVEL a.val) = false → ((((s.setFlag (R.DLK_L_STAT_FLT_LEVEL
    a.val) true).sourceOnHeads (headsOf a.val) 7).fault .dlk a.val).dlkRecord a.val 4).dlkUp a.val = false → Answers
    (.dlkFaultLine a true) s (((((s.setFlag (R.DLK_L_STAT_FLT_LEVEL a.val) true).sourceOnHeads (headsOf a.val)
    7).fault .dlk a.val).dlkRecord a.val 4).modLink a.val (fun l => { l with readFault := true }))) ∧
  (∀ (a : Act) (s : State), s.flag (R.DLK_L_STAT_FLT_LEVEL a.val) = false → ((((s.setFlag (R.DLK_L_STAT_FLT_LEVEL
    a.val) true).sourceOnHeads (headsOf a.val) 7).fault .dlk a.val).dlkRecord a.val 4).dlkUp a.val = true → Answers
    (.dlkFaultLine a true) s ((if s.get (R.DLK_L_STAT_WSEL a.val) = 0 then ((((s.setFlag (R.DLK_L_STAT_FLT_LEVEL
    a.val) true).sourceOnHeads (headsOf a.val) 7).fault .dlk a.val).dlkRecord a.val 4) else ((((s.setFlag
    (R.DLK_L_STAT_FLT_LEVEL a.val) true).sourceOnHeads (headsOf a.val) 7).fault .dlk a.val).dlkRecord a.val
    4).dlkRequest a.val ⟨6, s.get (R.DLK_L_STAT_WSEL a.val), 0, 0, 0, s.now, .plain⟩).dlkRequest a.val ⟨8, 2, 0, 0,
    0, s.now, .fault⟩)) ∧
  (∀ (path : Path) (a : Act) (value : Word) (s : State), bitsOf (s.rd (R.A_DLK_L_RSEL a.val)).toNat 0 6 ≠ bitsOf
    value.toNat 0 6 → s.takes path (R.A_DLK_L_RSEL a.val) value = true → Answers (.dlkRselWrite path a value) s
    ((s.storeReg path (R.A_DLK_L_RSEL a.val) value).rselChange a.val (bitsOf (s.rd (R.A_DLK_L_RSEL a.val)).toNat 0
    6) (bitsOf value.toNat 0 6))) ∧
  (∀ (path : Path) (a : Act) (value : Word) (s : State), bitsOf (s.rd (R.A_DLK_L_RSEL a.val)).toNat 0 6 = bitsOf
    value.toNat 0 6 → s.takes path (R.A_DLK_L_RSEL a.val) value = true → Answers (.dlkRselWrite path a value) s
    (s.storeReg path (R.A_DLK_L_RSEL a.val) value)) ∧
  (∀ (path : Path) (a : Act) (value : Word) (s : State), s.takes path (R.A_DLK_L_PREG_CMD a.val) (withBits value 0 2
    1) = true → Answers (.dlkPregRead path a value) s ((s.storeReg path (R.A_DLK_L_PREG_CMD a.val) (withBits value 0
    2 1)).pregCmd a.val 1)) ∧
  (∀ (path : Path) (a : Act) (value : Word) (s : State), s.takes path (R.A_DLK_L_PREG_CMD a.val) (withBits value 0 2
    2) = true → Answers (.dlkPregWrite path a value) s ((s.storeReg path (R.A_DLK_L_PREG_CMD a.val) (withBits value
    0 2 2)).pregCmd a.val 2)) ∧
  (∀ (a : Act) (s : State), s.flag (R.DLK_L_PREG_RESP_BUSY a.val) = false → s.dlkState a.val ≠ 4 → s.pregCmd a.val 1
    = s.portDone a.val 1 0 ∧ s.pregCmd a.val 2 = s.portDone a.val 1 0) ∧
  (∀ (a : Act) (s : State), s.flag (R.DLK_L_PREG_RESP_BUSY a.val) = false → s.dlkState a.val = 4 → s.pregCmd a.val 1
    = (s.setFlag (R.DLK_L_PREG_RESP_BUSY a.val) true).dlkRequest a.val ⟨8, s.get (R.DLK_L_PREG_ADDR a.val), 0, 0, 0,
    s.now, .port⟩)

/-- Depot requests, caches and accesses answer as chapter 10 says. ALLOC, SHARE, RELEASE, FREE, PASS, MARK, QUERY, RETIRE,
INIT, DEPOT_ENABLE, DEPOT_CACHE_REFILL, DEPOT_BUFFER_ACCESS, and DEPOT_REBUILD_DONE: a request through DEP_REQ while
BUSY is discarded; outside RUN a request waits; in RUN it is taken and answered, through the DEP_RESP registers or to
its requester; a request is answered BAD for a bad operation, tag or size, RANGE for a handle outside its pool, and
else by the entry, in the order of Table 10-8; a code other than OK changes no entry, and a FREE or RELEASE so
answered is logged; an access outside its buffer sets a fault and moves nothing; DEP_CTRL.EN enters RUN and serves
what waited; REBUILD ends in RUN. -/
def Obligations.DepotCommandsComplete : Prop :=
  (∀ (tag tag2 size : Nat) (climb : Bool) (s : State), s.flag R.DEP_RESP_STAT_BUSY = false → s.get R.DEP_STAT_STATE
    = 1 → s.inReset .dep = false → Answers (.opAlloc true tag tag2 size climb) s ((s.depTake ⟨1, tag % 256, tag2 %
    256, size % 2 ^ 32, climb, false, 0, true⟩).2.depAnswer ⟨1, tag % 256, tag2 % 256, size % 2 ^ 32, climb, false,
    0, true⟩ (s.depTake ⟨1, tag % 256, tag2 % 256, size % 2 ^ 32, climb, false, 0, true⟩).1)) ∧
  (∀ (tag tag2 size : Nat) (climb : Bool) (s : State), s.get R.DEP_STAT_STATE = 1 → s.inReset .dep = false → Answers
    (.opAlloc false tag tag2 size climb) s
    { ((s.depTake ⟨1, tag % 256, tag2 % 256, size % 2 ^ 32, climb, false, 0, false⟩).2) with dep := { (s.depTake ⟨1, tag % 256, tag2 % 256, size % 2 ^ 32, climb, false, 0, false⟩).2.dep with out := some (s.depTake ⟨1, tag % 256, tag2 % 256, size % 2 ^ 32, climb, false, 0, false⟩).1 } }) ∧
  (∀ (tag handle tag2 : Nat) (s : State), s.flag R.DEP_RESP_STAT_BUSY = false → s.get R.DEP_STAT_STATE = 1 →
    s.inReset .dep = false → Answers (.opShare true tag handle tag2) s ((s.depTake ⟨2, tag % 256, tag2 % 256, handle
    % 2 ^ 32, false, false, 0, true⟩).2.depAnswer ⟨2, tag % 256, tag2 % 256, handle % 2 ^ 32, false, false, 0, true⟩
    (s.depTake ⟨2, tag % 256, tag2 % 256, handle % 2 ^ 32, false, false, 0, true⟩).1)) ∧
  (∀ (tag handle tag2 : Nat) (s : State), s.get R.DEP_STAT_STATE = 1 → s.inReset .dep = false → Answers (.opShare
    false tag handle tag2) s
    { ((s.depTake ⟨2, tag % 256, tag2 % 256, handle % 2 ^ 32, false, false, 0, false⟩).2) with dep := { (s.depTake ⟨2, tag % 256, tag2 % 256, handle % 2 ^ 32, false, false, 0, false⟩).2.dep with out := some (s.depTake ⟨2, tag % 256, tag2 % 256, handle % 2 ^ 32, false, false, 0, false⟩).1 } }) ∧
  (∀ (tag handle : Nat) (s : State), s.flag R.DEP_RESP_STAT_BUSY = false → s.get R.DEP_STAT_STATE = 1 → s.inReset
    .dep = false → Answers (.opRelease true tag handle) s ((s.depTake ⟨3, tag % 256, 0, handle % 2 ^ 32, false,
    false, 0, true⟩).2.depAnswer ⟨3, tag % 256, 0, handle % 2 ^ 32, false, false, 0, true⟩ (s.depTake ⟨3, tag % 256,
    0, handle % 2 ^ 32, false, false, 0, true⟩).1)) ∧
  (∀ (tag handle : Nat) (s : State), s.get R.DEP_STAT_STATE = 1 → s.inReset .dep = false → Answers (.opRelease false
    tag handle) s
    { ((s.depTake ⟨3, tag % 256, 0, handle % 2 ^ 32, false, false, 0, false⟩).2) with dep := { (s.depTake ⟨3, tag % 256, 0, handle % 2 ^ 32, false, false, 0, false⟩).2.dep with out := some (s.depTake ⟨3, tag % 256, 0, handle % 2 ^ 32, false, false, 0, false⟩).1 } }) ∧
  (∀ (tag handle : Nat) (s : State), s.flag R.DEP_RESP_STAT_BUSY = false → s.get R.DEP_STAT_STATE = 1 → s.inReset
    .dep = false → Answers (.opFree true tag handle) s ((s.depTake ⟨4, tag % 256, 0, handle % 2 ^ 32, false, false,
    0, true⟩).2.depAnswer ⟨4, tag % 256, 0, handle % 2 ^ 32, false, false, 0, true⟩ (s.depTake ⟨4, tag % 256, 0,
    handle % 2 ^ 32, false, false, 0, true⟩).1)) ∧
  (∀ (tag handle : Nat) (s : State), s.get R.DEP_STAT_STATE = 1 → s.inReset .dep = false → Answers (.opFree false
    tag handle) s
    { ((s.depTake ⟨4, tag % 256, 0, handle % 2 ^ 32, false, false, 0, false⟩).2) with dep := { (s.depTake ⟨4, tag % 256, 0, handle % 2 ^ 32, false, false, 0, false⟩).2.dep with out := some (s.depTake ⟨4, tag % 256, 0, handle % 2 ^ 32, false, false, 0, false⟩).1 } }) ∧
  (∀ (tag handle tag2 : Nat) (s : State), s.flag R.DEP_RESP_STAT_BUSY = false → s.get R.DEP_STAT_STATE = 1 →
    s.inReset .dep = false → Answers (.opPass true tag handle tag2) s ((s.depTake ⟨5, tag % 256, tag2 % 256, handle
    % 2 ^ 32, false, false, 0, true⟩).2.depAnswer ⟨5, tag % 256, tag2 % 256, handle % 2 ^ 32, false, false, 0, true⟩
    (s.depTake ⟨5, tag % 256, tag2 % 256, handle % 2 ^ 32, false, false, 0, true⟩).1)) ∧
  (∀ (tag handle tag2 : Nat) (s : State), s.get R.DEP_STAT_STATE = 1 → s.inReset .dep = false → Answers (.opPass
    false tag handle tag2) s
    { ((s.depTake ⟨5, tag % 256, tag2 % 256, handle % 2 ^ 32, false, false, 0, false⟩).2) with dep := { (s.depTake ⟨5, tag % 256, tag2 % 256, handle % 2 ^ 32, false, false, 0, false⟩).2.dep with out := some (s.depTake ⟨5, tag % 256, tag2 % 256, handle % 2 ^ 32, false, false, 0, false⟩).1 } }) ∧
  (∀ (tag handle : Nat) (inv : Bool) (s : State), s.flag R.DEP_RESP_STAT_BUSY = false → s.get R.DEP_STAT_STATE = 1 →
    s.inReset .dep = false → Answers (.opMark true tag handle inv) s ((s.depTake ⟨6, tag % 256, 0, handle % 2 ^ 32,
    false, inv, 0, true⟩).2.depAnswer ⟨6, tag % 256, 0, handle % 2 ^ 32, false, inv, 0, true⟩ (s.depTake ⟨6, tag %
    256, 0, handle % 2 ^ 32, false, inv, 0, true⟩).1)) ∧
  (∀ (tag handle : Nat) (inv : Bool) (s : State), s.get R.DEP_STAT_STATE = 1 → s.inReset .dep = false → Answers
    (.opMark false tag handle inv) s
    { ((s.depTake ⟨6, tag % 256, 0, handle % 2 ^ 32, false, inv, 0, false⟩).2) with dep := { (s.depTake ⟨6, tag % 256, 0, handle % 2 ^ 32, false, inv, 0, false⟩).2.dep with out := some (s.depTake ⟨6, tag % 256, 0, handle % 2 ^ 32, false, inv, 0, false⟩).1 } }) ∧
  (∀ (tag handle : Nat) (s : State), s.flag R.DEP_RESP_STAT_BUSY = false → s.get R.DEP_STAT_STATE = 1 → s.inReset
    .dep = false → Answers (.opQuery true tag handle) s ((s.depTake ⟨7, tag % 256, 0, handle % 2 ^ 32, false, false,
    0, true⟩).2.depAnswer ⟨7, tag % 256, 0, handle % 2 ^ 32, false, false, 0, true⟩ (s.depTake ⟨7, tag % 256, 0,
    handle % 2 ^ 32, false, false, 0, true⟩).1)) ∧
  (∀ (tag handle : Nat) (s : State), s.get R.DEP_STAT_STATE = 1 → s.inReset .dep = false → Answers (.opQuery false
    tag handle) s
    { ((s.depTake ⟨7, tag % 256, 0, handle % 2 ^ 32, false, false, 0, false⟩).2) with dep := { (s.depTake ⟨7, tag % 256, 0, handle % 2 ^ 32, false, false, 0, false⟩).2.dep with out := some (s.depTake ⟨7, tag % 256, 0, handle % 2 ^ 32, false, false, 0, false⟩).1 } }) ∧
  (∀ (tag handle : Nat) (s : State), s.flag R.DEP_RESP_STAT_BUSY = false → s.get R.DEP_STAT_STATE = 1 → s.inReset
    .dep = false → Answers (.opRetire true tag handle) s ((s.depTake ⟨8, tag % 256, 0, handle % 2 ^ 32, false,
    false, 0, true⟩).2.depAnswer ⟨8, tag % 256, 0, handle % 2 ^ 32, false, false, 0, true⟩ (s.depTake ⟨8, tag % 256,
    0, handle % 2 ^ 32, false, false, 0, true⟩).1)) ∧
  (∀ (tag handle : Nat) (s : State), s.get R.DEP_STAT_STATE = 1 → s.inReset .dep = false → Answers (.opRetire false
    tag handle) s
    { ((s.depTake ⟨8, tag % 256, 0, handle % 2 ^ 32, false, false, 0, false⟩).2) with dep := { (s.depTake ⟨8, tag % 256, 0, handle % 2 ^ 32, false, false, 0, false⟩).2.dep with out := some (s.depTake ⟨8, tag % 256, 0, handle % 2 ^ 32, false, false, 0, false⟩).1 } }) ∧
  (∀ (tag pool : Nat) (s : State), s.flag R.DEP_RESP_STAT_BUSY = false → s.get R.DEP_STAT_STATE = 1 → s.inReset .dep
    = false → Answers (.opInit true tag pool) s ((s.depTake ⟨9, tag % 256, 0, 0, false, false, pool % 4,
    true⟩).2.depAnswer ⟨9, tag % 256, 0, 0, false, false, pool % 4, true⟩ (s.depTake ⟨9, tag % 256, 0, 0, false,
    false, pool % 4, true⟩).1)) ∧
  (∀ (tag pool : Nat) (s : State), s.get R.DEP_STAT_STATE = 1 → s.inReset .dep = false → Answers (.opInit false tag
    pool) s
    { ((s.depTake ⟨9, tag % 256, 0, 0, false, false, pool % 4, false⟩).2) with dep := { (s.depTake ⟨9, tag % 256, 0, 0, false, false, pool % 4, false⟩).2.dep with out := some (s.depTake ⟨9, tag % 256, 0, 0, false, false, pool % 4, false⟩).1 } }) ∧
  (∀ (tag handle : Nat) (s : State), s.get R.DEP_STAT_STATE ≠ 1 → Answers (.opFree false tag handle) s
    { s with dep := { s.dep with wait := depJoin ⟨4, tag % 256, 0, handle % 2 ^ 32, false, false, 0, false⟩ s.dep.wait } }) ∧
  (∀ (tag handle : Nat) (s : State), s.flag R.DEP_RESP_STAT_BUSY = true → Answers (.opFree true tag handle) s s) ∧
  (∀ (q : DepReq) (s : State), (q.op = 0 ∨ 9 < q.op) → s.depTake q = (⟨q.tag, 0xB, nullHandle, 0⟩, s)) ∧
  (∀ (q : DepReq) (s : State), q.op = 1 → tagOk q.tag2 = true → (q.arg = 0 ∨ 2097152 < q.arg) → s.depTake q =
    (⟨q.tag, 0xB, nullHandle, 0⟩, s)) ∧
  (∀ (q : DepReq) (s : State), (q.op = 3 ∨ q.op = 4) → s.handleIn q.arg = false → s.depTake q = (⟨q.tag, 0x8,
    nullHandle, 0⟩, s.depReject q 0x8 0xFF)) ∧
  (∀ (q : DepReq) (e : Nat) (s : State), (q.op = 6 ∨ q.op = 7) → s.handleIn q.arg = true → (s.entryRead (hPool
    q.arg) (hIndex q.arg)).1 = some e → handleCode q.op q.tag q.tag2 q.arg e ≠ 0 → s.depTake q = (⟨q.tag, handleCode
    q.op q.tag q.tag2 q.arg e, nullHandle, if q.op = 7 then e else 0⟩, (s.entryRead (hPool q.arg) (hIndex
    q.arg)).2)) ∧
  (∀ (path : Path) (value : Word) (s : State), bitOf (s.rd R.A_DEP_CTRL).toNat 0 = false → s.takes path R.A_DEP_CTRL
    (withBits value 0 1 1) = true → Answers (.depotEnable path value) s ((s.storeReg path R.A_DEP_CTRL (withBits
    value 0 1 1)).depEnable true)) ∧
  (∀ (s : State), (s.get R.MEM_STAT_STATE = 2 ∨ s.get R.MEM_STAT_STATE = 3) → s.get R.DEP_STAT_STATE = 0 →
    s.depEnable true = ((s.set R.DEP_CTRL_EN 1).set R.DEP_STAT_STATE 1).depWake) ∧
  (∀ (s : State), s.get R.MEM_STAT_STATE ≠ 2 → s.get R.MEM_STAT_STATE ≠ 3 → s.depEnable true = s) ∧
  (∀ (n : Fin 4) (s : State), (16 < (s.pool n.val).cache.length ∨ (s.pool n.val).ringLen = 0) → (s.pool
    n.val).cache.length < 56 → Answers (.depotCacheRefill n) s s) ∧
  (∀ (n : Fin 4) (s : State), (s.pool n.val).cache.length ≤ 16 → (s.pool n.val).ringLen ≠ 0 → Answers
    (.depotCacheRefill n) s (s.cacheRefill n.val)) ∧
  (∀ (n : Fin 4) (s : State), 56 ≤ (s.pool n.val).cache.length → Answers (.depotCacheRefill n) s (s.cacheSpill
    n.val)) ∧
  (∀ (tag handle ofs len : Nat) (s : State), s.handleIn handle = false → Answers (.depotBufferAccess tag handle ofs
    len none) s { (s.fault .dep 9) with dep := { (s.fault .dep 9).dep with access := some (false, []) } }) ∧
  (∀ (tag handle ofs len : Nat) (d : List Byte) (s : State), s.handleIn handle = false → Answers (.depotBufferAccess
    tag handle ofs len (some d)) s
    { (s.fault .dep 9) with dep := { (s.fault .dep 9).dep with access := some (false, []) } }) ∧
  (∀ (tag handle ofs len : Nat) (s : State), (s.depCheck tag handle ofs len false).1 = 0 → Answers
    (.depotBufferAccess tag handle ofs len none) s
      (let r := (s.depCheck tag handle ofs len false).2.2.memReadC (s.depCheck tag handle ofs len false).2.1 len;
       ({ (r.2.2) with dep := { r.2.2.dep with access := some (r.1 == 0, r.2.1) } }))) ∧
  (∀ (s : State), s.get R.DEP_STAT_STATE = 2 → Answers .depotRebuildDone s (s.depRebuilt.snapReturn (some .dep) 0)) ∧
  (∀ (s : State), s.get R.DEP_STAT_STATE ≠ 2 → Answers .depotRebuildDone s s)

/-- Buffer memory and error-protection commands answer as chapters 9 and 15 say. MEM_TRAINING_DONE, MR4_REFRESH_READ,
MEM_SREF_ENTRY, SCRUB_REWRITE, PATROL_SCRUB_STEP, SRAM_WALKER_READ, HARD_ERROR_ACTION, CLOG_FREE and
ERROR_INJECTION_ARM: training outside TRAINING does nothing, with all channels good at the full rate it makes MEM
READY, with disagreeing ranks FAILED with INIT_FAIL; a derated MR4 in READY sets TEMP_HIGH; MEM enters SREF in PARKED
or LIMP after 10 ms without an access; a rewrite that is due mends its word; the patrol scrubber moves on by one block
and wraps at the data top; a walker reads only with SCRUB_EN; an entry that is not HARD or UE, or was acted on, has no
action; CLOG_FREE frees the named entries; EN arms an injection. -/
def Obligations.MemoryProtectionCommandsComplete : Prop :=
  (∀ (agree : Bool) (o0 o1 o2 size : Nat) (ranks2 : Bool) (s : State), s.get R.MEM_STAT_STATE ≠ 1 → Answers
    (.memTrainingDone agree o0 o1 o2 size ranks2) s s) ∧
  (∀ (o1 o2 size : Nat) (ranks2 : Bool) (s : State), s.get R.MEM_STAT_STATE = 1 → size ≤ 2 → Answers
    (.memTrainingDone true 15 o1 o2 size ranks2) s
      (let t := ((((((s.set R.MEM_STAT_SIZE size).setFlag R.MEM_STAT_RANKS2 ranks2).set R.MEM_STAT_RATE 0).set
          R.MEM_STAT_CH_OK 15).set R.MEM_STAT_STATE 2).set R.MEM_DATA_TOP_TOP_MIB (7168 * 2 ^ size));
       ({ t with ms := { t.ms with lastAccess := t.now } }))) ∧
  (∀ (o0 o1 o2 size : Nat) (ranks2 : Bool) (s : State), s.get R.MEM_STAT_STATE = 1 → Answers (.memTrainingDone false
    o0 o1 o2 size ranks2) s (((((((s.set R.MEM_STAT_SIZE size).setFlag R.MEM_STAT_RANKS2 ranks2).set
    R.MEM_STAT_CH_OK (o0 % 16)).set R.MEM_STAT_STATE 4).fault .mem 0).ldgProtocol 12 0))) ∧
  (∀ (d : Bool) (s : State), s.get R.MEM_STAT_STATE ≠ 2 → Answers (.mr4RefreshRead d) s s) ∧
  (∀ (s : State), s.get R.MEM_STAT_STATE = 2 → Answers (.mr4RefreshRead true) s
    (({ s with ms := { s.ms with derated := true } } : State).fault .mem 2)) ∧
  (∀ (s : State), s.get R.MEM_STAT_STATE = 2 → Answers (.mr4RefreshRead false) s
    { s with ms := { s.ms with derated := false } }) ∧
  (∀ (s : State), s.get R.MEM_STAT_STATE = 2 → (s.mode = mPARKED ∨ s.mode = mLIMP) → s.flag R.MEM_CTRL_SR_EN = true
    → s.ms.lastAccess + 10000000 ≤ s.now → Answers .memSrefEntry s (s.set R.MEM_STAT_STATE 3)) ∧
  (∀ (s : State), (s.get R.MEM_STAT_STATE ≠ 2 ∨ s.flag R.MEM_CTRL_SR_EN = false ∨ s.now < s.ms.lastAccess +
    10000000) → Answers .memSrefEntry s s) ∧
  (∀ (i : Fin 32) (s : State), i.val ∉ s.ms.due → Answers (.scrubRewrite i) s s) ∧
  (∀ (i : Fin 32) (s : State), i.val ∈ s.ms.due → (setBits (s.flipsOf (s.clogKey i.val)) 72).length ≤ 1 → Answers
    (.scrubRewrite i) s ((s.setFlips (s.clogKey i.val) 0).rewrote i.val)) ∧
  (∀ (w : Fin 8) (upset : Nat) (s : State), (s.flag R.MEM_ECC_CTRL_SCRUB_EN = false ∨ s.get R.MEM_STAT_STATE ≠ 2) →
    Answers (.patrolScrubStep w upset) s s) ∧
  (∀ (w : Fin 8) (upset : Nat) (s : State), s.flag R.MEM_ECC_CTRL_SCRUB_EN = true → s.get R.MEM_STAT_STATE = 2 → 64
    * (s.get R.MEM_SCRUB_POS_BLOCK + 1) < s.dataTop → Answers (.patrolScrubStep w upset) s (((List.range 8).foldl
    (fun (t : State) (i : Nat) => (t.eccRead ⟨false, 0, 0, 8 * s.get R.MEM_SCRUB_POS_BLOCK + i⟩ (ofLeBytes (bytesAt
    0 t.mem (64 * s.get R.MEM_SCRUB_POS_BLOCK + 8 * i) 8)) true).2) (s.upset ⟨false, 0, 0, 8 * s.get
    R.MEM_SCRUB_POS_BLOCK + w.val % 8⟩ upset)).set R.MEM_SCRUB_POS_BLOCK (s.get R.MEM_SCRUB_POS_BLOCK + 1))) ∧
  (∀ (w : Fin 8) (upset : Nat) (s : State), s.flag R.MEM_ECC_CTRL_SCRUB_EN = true → s.get R.MEM_STAT_STATE = 2 →
    s.dataTop ≤ 64 * (s.get R.MEM_SCRUB_POS_BLOCK + 1) → Answers (.patrolScrubStep w upset) s ((((List.range
    8).foldl (fun (t : State) (i : Nat) => (t.eccRead ⟨false, 0, 0, 8 * s.get R.MEM_SCRUB_POS_BLOCK + i⟩ (ofLeBytes
    (bytesAt 0 t.mem (64 * s.get R.MEM_SCRUB_POS_BLOCK + 8 * i) 8)) true).2) (s.upset ⟨false, 0, 0, 8 * s.get
    R.MEM_SCRUB_POS_BLOCK + w.val % 8⟩ upset)).set R.MEM_SCRUB_POS_BLOCK 0).bump R.MEM_SCRUB_STAT_PASSES 1)) ∧
  (∀ (ar inst w upset : Nat) (s : State), s.flag R.MEM_ECC_CTRL_SCRUB_EN = false → Answers (.sramWalkerRead ar inst
    w upset) s s) ∧
  (∀ (ar inst w upset : Nat) (s : State), s.flag R.MEM_ECC_CTRL_SCRUB_EN = true → ar % 256 ≠ 0x40 → Answers
    (.sramWalkerRead ar inst w upset) s (((s.upset ⟨true, ar % 256, inst % 256, w % 2 ^ 24⟩ upset).eccRead ⟨true, ar
    % 256, inst % 256, w % 2 ^ 24⟩ 0 true).2)) ∧
  (∀ (i : Fin 32) (s : State), (s.flag (R.MEM_CLOG_KEY_HI_VALID i.val) = false ∨ s.get (R.MEM_CLOG_KEY_HI_STATE
    i.val) = 0 ∨ s.ms.acted.contains (32 * s.get (R.MEM_CLOG_KEY_HI_STATE i.val) + i.val) = true) → Answers
    (.hardErrorAction i) s s) ∧
  (∀ (i : Fin 32) (s : State), s.flag (R.MEM_CLOG_KEY_HI_VALID i.val) = true → (s.get (R.MEM_CLOG_KEY_HI_STATE
    i.val) = 1 ∨ s.get (R.MEM_CLOG_KEY_HI_STATE i.val) = 2) → s.ms.acted.contains (32 * s.get
    (R.MEM_CLOG_KEY_HI_STATE i.val) + i.val) = false → s.flt.safeStop = false → (s.clogKey i.val).sram = true →
    Answers (.hardErrorAction i) s
    (({ s with ms := { s.ms with acted := s.ms.acted ++ [32 * s.get (R.MEM_CLOG_KEY_HI_STATE i.val) + i.val] } } :
    State).sramAction (s.clogKey i.val) (s.get (R.MEM_CLOG_KEY_HI_STATE i.val) == 2))) ∧
  (∀ (i : Fin 32) (s : State), s.flag (R.MEM_CLOG_KEY_HI_VALID i.val) = true → (s.get (R.MEM_CLOG_KEY_HI_STATE
    i.val) = 1 ∨ s.get (R.MEM_CLOG_KEY_HI_STATE i.val) = 2) → s.ms.acted.contains (32 * s.get
    (R.MEM_CLOG_KEY_HI_STATE i.val) + i.val) = false → s.flt.safeStop = false → (s.clogKey i.val).sram = false →
    Answers (.hardErrorAction i) s
    (({ s with ms := { s.ms with acted := s.ms.acted ++ [32 * s.get (R.MEM_CLOG_KEY_HI_STATE i.val) + i.val] } } :
    State).bufAction (s.clogKey i.val) (s.get (R.MEM_CLOG_KEY_HI_STATE i.val) == 2))) ∧
  (∀ (path : Path) (value : Word) (s : State), s.takes path R.A_MEM_CLOG_FREE value = true → Answers (.clogFree path
    value) s ((s.storeReg path R.A_MEM_CLOG_FREE value).clogRelease value.toNat)) ∧
  (∀ (path : Path) (value : Word) (s : State), s.takes path R.A_MEM_EI_CTRL (withBits value 31 1 1) = true → Answers
    (.errorInjectionArm path value) s (s.storeReg path R.A_MEM_EI_CTRL (withBits value 31 1 1)))

/-- Convoy's commands answer as chapter 11 says. CONVOY_START, CONVOY_STOP, CONVOY_CHANNEL_ENABLE, CONVOY_DOORBELL,
CONVOY_GRANT, DESCRIPTOR_FETCHED, TRANSFER_ARRIVED, CONVOY_BUS_ERROR, CONVOY_RETRY, STATUS_WRITEBACK_DONE,
OWNERSHIP_CLEAR_DONE, LINK_REREAD_DONE and CONVOY_ENGINE_HANG: a CTRL write makes its channel act by EN, STOP and
START; a doorbell acts by the channel's state; a free enabled engine grants the next channel; each stage's answer
outside its stage does nothing; a fetch of a descriptor without OWN stalls its channel; an answered write-back starts
the ownership clear; an answered ownership clear counts, names its code and re-reads LINK; a LINK of kind 0 ends in
DRAINED; a failed stage is tried again after its gap until RETRY is used up; an engine that waits 100 us hangs. -/
def Obligations.ConvoyCommandsComplete : Prop :=
  (∀ (path : Path) (e : Eng) (c : Chan) (value : Word) (s : State), s.takes path (R.A_CVY_C_CTRL e.val c.val)
    (withBits value 1 1 1) = true → Answers (.convoyStart path e c value) s ((s.storeReg path (R.A_CVY_C_CTRL e.val
    c.val) (withBits value 1 1 1)).cvyCtrl e.val c.val (withBits value 1 1 1).toNat)) ∧
  (∀ (path : Path) (e : Eng) (c : Chan) (value : Word) (s : State), s.takes path (R.A_CVY_C_CTRL e.val c.val)
    (withBits value 2 1 1) = true → Answers (.convoyStop path e c value) s ((s.storeReg path (R.A_CVY_C_CTRL e.val
    c.val) (withBits value 2 1 1)).cvyCtrl e.val c.val (withBits value 2 1 1).toNat)) ∧
  (∀ (path : Path) (e : Eng) (c : Chan) (value : Word) (s : State), s.takes path (R.A_CVY_C_CTRL e.val c.val) value
    = true → Answers (.convoyChannelEnable path e c value) s ((s.storeReg path (R.A_CVY_C_CTRL e.val c.val)
    value).cvyCtrl e.val c.val value.toNat)) ∧
  (∀ (path : Path) (e : Eng) (c : Chan) (value : Word) (s : State), s.takes path (R.A_CVY_C_DOORBELL e.val c.val)
    value = true → Answers (.convoyDoorbell path e c value) s ((s.storeReg path (R.A_CVY_C_DOORBELL e.val c.val)
    value).cvyDoorbell e.val c.val)) ∧
  (∀ (e : Eng) (c : Chan) (s : State), s.get (R.CVY_C_STAT_STATE e.val c.val) = 3 → s.cvyDoorbell e.val c.val =
    s.setChan e.val c.val { s.chan e.val c.val with want := true, link := false }) ∧
  (∀ (e : Eng) (c : Chan) (s : State), s.get (R.CVY_C_STAT_STATE e.val c.val) = 2 → s.cvyDoorbell e.val c.val =
    s.set (R.CVY_C_STAT_DB_PEND e.val c.val) 1) ∧
  (∀ (e : Eng) (c : Chan) (s : State), s.get (R.CVY_C_STAT_STATE e.val c.val) = 0 → s.cvyDoorbell e.val c.val =
    s.fault .cvy (12 + e.val)) ∧
  (∀ (e : Eng) (c : Chan) (v : Nat) (s : State), s.get (R.CVY_C_STAT_STATE e.val c.val) = 1 → s.cvyHolds e.val c.val
    = false → bitOf v 0 = true → bitOf v 1 = true → bitOf v 2 = false → s.get (R.CVY_C_HEAD_HI_KIND e.val c.val) = 0
    → s.cvyCtrl e.val c.val v = (((s.setCur e.val c.val (s.get (R.CVY_C_HEAD_LO_HEAD e.val c.val) * 64 + s.get
    (R.CVY_C_HEAD_HI_HEAD e.val c.val) * 2 ^ 32) 0).set (R.CVY_C_STAT_HALT_CAUSE e.val c.val) 0).set
    (R.CVY_C_STAT_DB_PEND e.val c.val) 0).cvyHalt e.val c.val 2) ∧
  (∀ (e : Eng) (s : State), ((s.eng e.val).phase ≠ .idle ∨ s.cvyNext e.val = none ∨ s.inReset (.cvy e.val) = true) →
    Answers (.convoyGrant e) s s) ∧
  (∀ (e : Eng) (c : Nat) (s : State), (s.eng e.val).phase = .idle → bitOf (s.get R.CVY_CTRL_ENG_EN) e.val = true →
    s.inReset (.cvy e.val) = false → s.cvyNext e.val = some c → Answers (.convoyGrant e) s (((((s.setEng e.val
    ⟨.fetch, c, s.now, 0, 0, [], 0, 0, 0, (s.eng e.val).hostOut⟩).setChan e.val c
    { (s.setEng e.val ⟨.fetch, c, s.now, 0, 0, [], 0, 0, 0, (s.eng e.val).hostOut⟩).chan e.val c with want := false }).set
    (R.CVY_E_STAT_ACTIVE e.val) c).set (R.CVY_E_STAT_BUSY e.val) 1).orBits R.CVY_STAT_ENG_BUSY (2 ^ e.val))) ∧
  (∀ (e : Eng) (s : State), (s.eng e.val).phase ≠ .fetch → Answers (.descriptorFetched e) s s) ∧
  (∀ (e : Eng) (host : List Byte) (s : State), (s.eng e.val).phase ≠ .xfer → Answers (.transferArrived e host) s s) ∧
  (∀ (e : Eng) (s : State), (s.eng e.val).phase ≠ .stat → Answers (.statusWritebackDone e) s s) ∧
  (∀ (e : Eng) (s : State), (s.eng e.val).phase ≠ .own → Answers (.ownershipClearDone e) s s) ∧
  (∀ (e : Eng) (s : State), (s.eng e.val).phase = .fetch → (s.linkReadC (s.cvyCur e.val (s.eng e.val).chan).2
    (s.cvyCur e.val (s.eng e.val).chan).1 64).1 ≠ 0 → Answers (.descriptorFetched e) s ((s.linkReadC (s.cvyCur e.val
    (s.eng e.val).chan).2 (s.cvyCur e.val (s.eng e.val).chan).1 64).2.2.cvyRetry e.val (fun t => t.cvyAbandon e.val
    2))) ∧
  (∀ (e : Eng) (f : State → State) (s : State), (s.eng e.val).tries < s.get R.CVY_CTRL_RETRY → s.cvyRetry e.val f =
    s.setEng e.val
    { s.eng e.val with phase := .gap (s.eng e.val).phase, since := s.now, tries := (s.eng e.val).tries + 1 }) ∧
  (∀ (e : Eng) (f : State → State) (s : State), s.get R.CVY_CTRL_RETRY ≤ (s.eng e.val).tries → s.cvyRetry e.val f =
    f s) ∧
  (∀ (e : Eng) (host : List Byte) (s : State), (s.eng e.val).phase = .xfer → (¬(bitsOf ((s.eng e.val).word 0) 26 2 =
    0 ∧ bitsOf ((s.eng e.val).word 3) 0 3 < 2)) → (s.cvySource e.val (s.eng e.val) host).1 = 0 → ((s.cvySource e.val
    (s.eng e.val) host).2.2.cvyDest e.val (s.eng e.val) (s.cvySource e.val (s.eng e.val) host).2.1).1 = 0 → Answers
    (.transferArrived e host) s (((s.cvySource e.val (s.eng e.val) host).2.2.cvyDest e.val (s.eng e.val)
    (s.cvySource e.val (s.eng e.val) host).2.1).2.cvyEnd e.val 0 0 (bitsOf ((s.eng e.val).word 0) 0 24))) ∧
  (∀ (e : Eng) (stage cause done : Nat) (s : State), (s.eng e.val).phase = .fetch → cause % 16 < 5 → Answers
    (.convoyBusError e none stage cause done) s (s.cvyRetry e.val (fun t => t.cvyAbandon e.val 2))) ∧
  (∀ (e : Eng) (c : Chan) (stage cause done : Nat) (s : State), (s.chan e.val c.val).link = false → cause % 16 < 5 →
    Answers (.convoyBusError e (some c) stage cause done) s s) ∧
  (∀ (e : Eng) (c : Chan) (stage cause done : Nat) (s : State), (s.chan e.val c.val).link = true → cause % 16 < 5 →
    s.get R.CVY_CTRL_RETRY ≤ (s.chan e.val c.val).linkTries → Answers (.convoyBusError e (some c) stage cause done)
    s ((s.cvyHalt e.val c.val 4).fault .cvy (4 + e.val))) ∧
  (∀ (e : Eng) (s : State), (s.eng e.val).phase = .gap .fetch → (s.eng e.val).since + s.get R.CVY_CTRL_RETRY_GAP *
    1000 * (s.eng e.val).tries ≤ s.now → Answers (.convoyRetry e none) s (s.setEng e.val
    { s.eng e.val with phase := .fetch, since := s.now })) ∧
  (∀ (e : Eng) (s : State), (s.eng e.val).phase = .idle → Answers (.convoyRetry e none) s s) ∧
  (∀ (e : Eng) (c : Chan) (s : State), (s.chan e.val c.val).gapAt = none → Answers (.convoyRetry e (some c)) s s) ∧
  (∀ (e : Eng) (c : Chan) (t : Nat) (s : State), (s.chan e.val c.val).gapAt = some t → t + s.get
    R.CVY_CTRL_RETRY_GAP * 1000 * (s.chan e.val c.val).linkTries ≤ s.now → Answers (.convoyRetry e (some c)) s
    (s.setChan e.val c.val { s.chan e.val c.val with gapAt := none, linkAt := s.now })) ∧
  (∀ (e : Eng) (s : State), (s.eng e.val).phase = .stat → Answers (.statusWritebackDone e) s ((s.setEng e.val
    { s.eng e.val with phase := .own, since := s.now, tries := 0 }).cvyOwnClear e.val)) ∧
  (∀ (e : Eng) (s : State), (s.eng e.val).phase = .own → (s.eng e.val).code = 0 → bitOf ((s.eng e.val).word 0) 25 =
    false → (s.chan e.val (s.eng e.val).chan).off = false → (s.chan e.val (s.eng e.val).chan).stop = false → Answers
    (.ownershipClearDone e) s (((((s.bump (R.CVY_C_CNT_DESC_DESCS e.val (s.eng e.val).chan) 1).bump
    (R.CVY_E_CNT_DESC_DESCS e.val) 1).set (R.CVY_C_STAT_LAST_CODE e.val (s.eng e.val).chan) 0).cvyRelease
    e.val).cvyLink e.val (s.eng e.val).chan)) ∧
  (∀ (e : Eng) (s : State), (s.eng e.val).phase = .own → (s.eng e.val).code ≠ 0 → (s.chan e.val (s.eng
    e.val).chan).off = false → (s.chan e.val (s.eng e.val).chan).stop = true → Answers (.ownershipClearDone e) s
    (((((((s.bump (R.CVY_C_CNT_DESC_DESCS e.val (s.eng e.val).chan) 1).bump (R.CVY_E_CNT_DESC_DESCS e.val) 1).set
    (R.CVY_C_STAT_LAST_CODE e.val (s.eng e.val).chan) (s.eng e.val).code).bump (R.CVY_C_CNT_BAD_BAD e.val (s.eng
    e.val).chan) 1).orBits (R.CVY_E_IRQ_IRQ e.val) (2 ^ (s.eng e.val).chan)).cvyRelease e.val).cvyHalt e.val (s.eng
    e.val).chan 1)) ∧
  (∀ (e : Eng) (c : Chan) (s : State), ((s.chan e.val c.val).link = false ∨ (s.chan e.val c.val).gapAt ≠ none) →
    Answers (.linkRereadDone e c) s s) ∧
  (∀ (e : Eng) (c : Chan) (s : State), (s.chan e.val c.val).link = true → (s.chan e.val c.val).gapAt = none →
    (s.linkReadC (s.cvyCur e.val c.val).2 ((s.cvyCur e.val c.val).1 + 32) 8).1 = 0 → bitsOf (ofLeBytes (s.linkReadC
    (s.cvyCur e.val c.val).2 ((s.cvyCur e.val c.val).1 + 32) 8).2.1) 60 2 = 0 → s.flag (R.CVY_C_STAT_DB_PEND e.val
    c.val) = false → Answers (.linkRereadDone e c) s (((s.linkReadC (s.cvyCur e.val c.val).2 ((s.cvyCur e.val
    c.val).1 + 32) 8).2.2.setChan e.val c.val { s.chan e.val c.val with link := false, linkTries := 0 }).set
    (R.CVY_C_STAT_STATE e.val c.val) 4)) ∧
  (∀ (e : Eng) (s : State), ((s.eng e.val).phase = .fetch ∨ (s.eng e.val).phase = .xfer ∨ (s.eng e.val).phase =
    .stat ∨ (s.eng e.val).phase = .own) → (s.eng e.val).since + 100000 ≤ s.now → Answers (.convoyEngineHang e) s
    (s.fault .cvy (8 + e.val))) ∧
  (∀ (e : Eng) (s : State), ((s.eng e.val).phase = .idle ∨ s.now < (s.eng e.val).since + 100000) → (∀ c < 32,
    (s.chan e.val c).link = false ∨ (s.chan e.val c).gapAt ≠ none ∨ s.now < (s.chan e.val c).linkAt + 100000) →
    Answers (.convoyEngineHang e) s s)

/-- Route Table requests and their housekeeping answer as chapter 14 says. LOOKUP_LBA, LOOKUP_IDX, UPDATE,
ROUTE_TABLE_LOAD, RECLAIM and JOURNAL_CHECKPOINT: a request through RTE_REQ while BUSY is discarded; outside RUN a
request waits, counted in QUEUED; in RUN it is taken and answered, through the RTE_RESP registers or to its requester.
A request outside the table is answered BOUNDS, one to a namespace that is not VALID NS with RTE_BOUNDS, a malformed
UPDATE BAD with no change; an UPDATE whose old value differs answers CAS_FAIL with the entry read and changes nothing;
one that finds it writes the new entry, moves the counters and leaves a journal record. RECLAIM does not run in
MIGRATE; it frees a band whose live containers have all moved, takes the FULL band with the fewest live sectors when
FREE bands are short, and copies what is live out of a band that it reclaims; a checkpoint is written after 1,048,576
records, before IDLE or PARKED, or at activation; the table is loaded once, in RUN. -/
def Obligations.RouteTableCommandsComplete : Prop :=
  (∀ (tag : Nat) (ns : Fin 16) (lba : Nat) (s : State), s.flag R.RTE_RESP_STAT_BUSY = true → Answers (.lookupLba
    true tag ns lba) s s) ∧
  (∀ (tag : Nat) (ns : Fin 16) (lba : Nat) (s : State), s.flag R.RTE_RESP_STAT_BUSY = false → s.flag R.RTE_STAT_RUN
    = true → Answers (.lookupLba true tag ns lba) s (((s.rteTake ⟨1, tag % 256, ns.val, lba, 0, 0, 0,
    true⟩).2.rteAnswer ⟨1, tag % 256, ns.val, lba, 0, 0, 0, true⟩ (s.rteTake ⟨1, tag % 256, ns.val, lba, 0, 0, 0,
    true⟩).1))) ∧
  (∀ (tag : Nat) (ns : Fin 16) (lba : Nat) (s : State), s.flag R.RTE_STAT_RUN = true → Answers (.lookupLba false tag
    ns lba) s
    (({ ((s.rteTake ⟨1, tag % 256, ns.val, lba, 0, 0, 0, false⟩).2) with rte := { (s.rteTake ⟨1, tag % 256, ns.val, lba, 0, 0, 0, false⟩).2.rte with out := some (s.rteTake ⟨1, tag % 256, ns.val, lba, 0, 0, 0, false⟩).1 } }
    : State))) ∧
  (∀ (tag : Nat) (ns : Fin 16) (lba : Nat) (s : State), s.flag R.RTE_STAT_RUN = false → Answers (.lookupLba false
    tag ns lba) s
    { s with crs := (s.set R.RTE_STAT_QUEUED (satN (s.rte.wait.length + 1) 255)).crs, rte := { s.rte with wait := s.rte.wait ++ [⟨1, tag % 256, ns.val, lba, 0, 0, 0, false⟩] } }) ∧
  (∀ (tag index : Nat) (s : State), s.flag R.RTE_RESP_STAT_BUSY = true → Answers (.lookupIdx true tag index) s s) ∧
  (∀ (tag index : Nat) (s : State), s.flag R.RTE_RESP_STAT_BUSY = false → s.flag R.RTE_STAT_RUN = true → Answers
    (.lookupIdx true tag index) s (((s.rteTake ⟨2, tag % 256, 0, index, 0, 0, 0, true⟩).2.rteAnswer ⟨2, tag % 256,
    0, index, 0, 0, 0, true⟩ (s.rteTake ⟨2, tag % 256, 0, index, 0, 0, 0, true⟩).1))) ∧
  (∀ (tag index : Nat) (s : State), s.flag R.RTE_STAT_RUN = true → Answers (.lookupIdx false tag index) s
    (({ ((s.rteTake ⟨2, tag % 256, 0, index, 0, 0, 0, false⟩).2) with rte := { (s.rteTake ⟨2, tag % 256, 0, index, 0, 0, 0, false⟩).2.rte with out := some (s.rteTake ⟨2, tag % 256, 0, index, 0, 0, 0, false⟩).1 } }
    : State))) ∧
  (∀ (tag index : Nat) (s : State), s.flag R.RTE_STAT_RUN = false → Answers (.lookupIdx false tag index) s
    { s with crs := (s.set R.RTE_STAT_QUEUED (satN (s.rte.wait.length + 1) 255)).crs, rte := { s.rte with wait := s.rte.wait ++ [⟨2, tag % 256, 0, index, 0, 0, 0, false⟩] } }) ∧
  (∀ (tag index old new since : Nat) (s : State), s.flag R.RTE_RESP_STAT_BUSY = true → Answers (.opUpdate true tag
    index old new since) s s) ∧
  (∀ (tag index old new since : Nat) (s : State), s.flag R.RTE_RESP_STAT_BUSY = false → s.flag R.RTE_STAT_RUN = true
    → Answers (.opUpdate true tag index old new since) s (((s.rteTake ⟨3, tag % 256, 0, index, old, new, since,
    true⟩).2.rteAnswer ⟨3, tag % 256, 0, index, old, new, since, true⟩ (s.rteTake ⟨3, tag % 256, 0, index, old, new,
    since, true⟩).1).destClose index new)) ∧
  (∀ (tag index old new since : Nat) (s : State), s.flag R.RTE_STAT_RUN = true → Answers (.opUpdate false tag index
    old new since) s
    (({ ((s.rteTake ⟨3, tag % 256, 0, index, old, new, since, false⟩).2) with rte := { (s.rteTake ⟨3, tag % 256, 0, index, old, new, since, false⟩).2.rte with out := some (s.rteTake ⟨3, tag % 256, 0, index, old, new, since, false⟩).1 } }
    : State).destClose index new)) ∧
  (∀ (tag index old new since : Nat) (s : State), s.flag R.RTE_STAT_RUN = false → Answers (.opUpdate false tag index
    old new since) s
    { s with crs := (s.set R.RTE_STAT_QUEUED (satN (s.rte.wait.length + 1) 255)).crs, rte := { s.rte with wait := s.rte.wait ++ [⟨3, tag % 256, 0, index, old, new, since, false⟩] } }) ∧
  (∀ (q : RteReq) (s : State), q.op = 1 → s.flag (R.RTE_NS_CFG_VALID q.ns) = false → s.rteTake q = (⟨q.tag, 3, 0,
    0⟩, s.fault .rte 0)) ∧
  (∀ (q : RteReq) (s : State), q.op = 1 → s.flag (R.RTE_NS_CFG_VALID q.ns) = true → s.get (R.RTE_NS_COUNT_COUNT
    q.ns) ≤ q.a0 / (if s.flag (R.RTE_NS_CFG_EMU q.ns) then 2048 else 256) → s.rteTake q = (⟨q.tag, 2, 0, 0⟩, s.fault
    .rte 0)) ∧
  (∀ (q : RteReq) (s : State), (q.op = 2 ∨ q.op = 3) → s.get R.RTE_TBL_COUNT_COUNT ≤ q.a0 → s.rteTake q = (⟨q.tag,
    2, 0, 0⟩, s.fault .rte 0)) ∧
  (∀ (q : RteReq) (e : Nat) (s : State), q.op = 2 → q.a0 < s.get R.RTE_TBL_COUNT_COUNT → (s.rtRead q.a0).1 = some e
    → s.rteTake q = (⟨q.tag, 0, q.a0, e⟩, (s.rtRead q.a0).2.bump R.RTE_CNT_LOOKUP_COUNT 1)) ∧
  (∀ (q : RteReq) (s : State), q.op = 3 → q.a0 < s.get R.RTE_TBL_COUNT_COUNT → rtMalformed (s.get
    R.RTE_BAND_COUNT_COUNT) q.a2 = true → s.rteTake q = (⟨q.tag, 7, 0, 0⟩, s.fault .rte 1)) ∧
  (∀ (q : RteReq) (e w v : Nat) (t0 t1 t2 : State) (s : State), q.op = 3 → q.a0 < s.get R.RTE_TBL_COUNT_COUNT →
    rtMalformed (s.get R.RTE_BAND_COUNT_COUNT) q.a2 = false → s.rtRead q.a0 = (some e, t0) → t0.bandWord e = (some
    w, t1) → t1.bandWord q.a2 = (some v, t2) → e ≠ q.a1 → s.rteTake q = (⟨q.tag, 1, q.a0, e⟩, t2.bump
    R.RTE_CNT_CASFAIL_COUNT 1)) ∧
  (∀ (q : RteReq) (e w v : Nat) (t0 t1 t2 : State) (s : State), q.op = 3 → q.a0 < s.get R.RTE_TBL_COUNT_COUNT →
    rtMalformed (s.get R.RTE_BAND_COUNT_COUNT) q.a2 = false → s.rtRead q.a0 = (some e, t0) → t0.bandWord e = (some
    w, t1) → t1.bandWord q.a2 = (some v, t2) → e = q.a1 → s.rteTake q = (⟨q.tag, 0, q.a0, q.a2⟩, (t2.rtUpdate q.a0 e
    q.a2 w q.since).bump R.RTE_CNT_UPDATE_COUNT 1)) ∧
  (∀ (i old new w since : Nat) (s : State), (s.rtUpdate i old new w since).rte.journalSeq = s.rte.journalSeq + 1) ∧
  (∀ (s : State), (s.rte.loaded = true ∨ s.rte.trackAt = none ∨ s.flag R.RTE_STAT_RUN = false) → Answers
    .routeTableLoad s s) ∧
  (∀ (s : State), s.rte.loaded = false → s.rte.trackAt ≠ none → s.flag R.RTE_STAT_RUN = true → Answers
    .routeTableLoad s
    { (s.rtLoadEntries (replay s.rte.ckpt s.rte.journal)) with rte := { (s.rtLoadEntries (replay s.rte.ckpt s.rte.journal)).rte with loaded := true } }) ∧
  (∀ (s : State), s.get R.SYS_MODE_MODE = 8 → Answers .reclaim s s) ∧
  (∀ (s : State), s.get R.SYS_MODE_MODE ≠ 8 → s.rte.bands = [] → Answers .reclaim s s) ∧
  (∀ (s : State), s.get R.SYS_MODE_MODE ≠ 8 → s.bandNums (fun x => x.st == 3) = [] → Config.reclaimBelow ≤
    (s.bandNums (fun x => x.st == 0)).length → Answers .reclaim s s) ∧
  (∀ (b : Nat) (s : State), s.get R.SYS_MODE_MODE ≠ 8 → s.bandNums (fun x => x.st == 3) = [b] → s.bandNums (fun x =>
    x.st == 2) = [] → s.bandLive b = 0 → s.rte.allDurable = true → Answers .reclaim s (s.setBand b ⟨0, 0⟩)) ∧
  (∀ (b : Nat) (s : State), s.get R.SYS_MODE_MODE ≠ 8 → s.bandNums (fun x => x.st == 3) = [] → s.bandNums (fun x =>
    x.st == 2) = [b] → Answers .reclaim s (if (s.bandNums (fun x => x.st == 0)).length < Config.reclaimBelow then
    (s.setBand b { s.band b with st := 3 }).reclaimCopies else s)) ∧
  (∀ (i e : Nat) (s : State), (s.rtSnapshot 0 (s.get R.RTE_TBL_COUNT_COUNT)).filter (fun x => rtMapped x.2 &&
    (s.band (rtBand x.2)).st == 3) = [(i, e)] → ((∀ d ∈ s.rte.dest, ¬(d.index = i ∧ d.old = e))) → rtState e = 2 →
    s.reclaimCopies = s.copyRun (rtBand e) (rtOffset e) 256 [(i, e)]) ∧
  (∀ (s : State), s.rte.journal.length < 1048576 → s.busy = false → s.hif.activating = none → Answers
    .journalCheckpoint s s) ∧
  (∀ (s : State), (1048576 ≤ s.rte.journal.length ∨ s.hif.activating ≠ none ∨ (s.busy = true ∧ (s.target = 3 ∨
    s.target = 1))) → Answers .journalCheckpoint s s.rtCheckpoint.durableSweep.flushCheck)

/-- The compressor and decompressor lanes' commands answer as chapter 14 says. COMPRESSOR_GO, COMPRESSOR_RESUME,
COMPRESSOR_ABORT, OUT_FULL, COMPRESSION_END, DECOMPRESSOR_GO, DECOMPRESSOR_ABORT, DECOMPRESSION_END and CMP_LANE_HANG:
a CMD write starts, resumes or ends its lane's job; GO has no effect while the lane works, is disabled or is in reset;
RESUME acts in OUT_FULL and returns to RUN; ABORT ends a job with ABORTED; a lane at its output limit writes what fits
and stops in OUT_FULL; a job past 1,044,416 stream bytes ends INCOMPRESSIBLE; one that fits ends with the CRC of its
stripe; each stream error ends a decompression with its code and its fault; a good stream writes the sector; a CRC
that differs from the header ends CRC; a lane that waits 100 us sets HANG. -/
def Obligations.CompressionLanesComplete : Prop :=
  (∀ (path : Path) (lane : Lane) (value : Word) (s : State), s.takes path (R.A_CMP_C_CMD lane.val) (withBits value 0
    2 1) = true → Answers (.compressorGo path lane value) s ((s.storeReg path (R.A_CMP_C_CMD lane.val) (withBits
    value 0 2 1)).compCmd lane.val 1)) ∧
  (∀ (path : Path) (lane : Lane) (value : Word) (s : State), s.takes path (R.A_CMP_C_CMD lane.val) (withBits value 0
    2 2) = true → Answers (.compressorResume path lane value) s ((s.storeReg path (R.A_CMP_C_CMD lane.val) (withBits
    value 0 2 2)).compCmd lane.val 2)) ∧
  (∀ (path : Path) (lane : Lane) (value : Word) (s : State), s.takes path (R.A_CMP_C_CMD lane.val) (withBits value 0
    2 3) = true → Answers (.compressorAbort path lane value) s ((s.storeReg path (R.A_CMP_C_CMD lane.val) (withBits
    value 0 2 3)).compCmd lane.val 3)) ∧
  (∀ (path : Path) (lane : Lane) (value : Word) (s : State), s.takes path (R.A_CMP_D_CMD lane.val) (withBits value 0
    2 1) = true → Answers (.decompressorGo path lane value) s ((s.storeReg path (R.A_CMP_D_CMD lane.val) (withBits
    value 0 2 1)).decompCmd lane.val 1)) ∧
  (∀ (path : Path) (lane : Lane) (value : Word) (s : State), s.takes path (R.A_CMP_D_CMD lane.val) (withBits value 0
    2 2) = true → Answers (.decompressorAbort path lane value) s ((s.storeReg path (R.A_CMP_D_CMD lane.val)
    (withBits value 0 2 2)).decompCmd lane.val 2)) ∧
  (∀ (n : Nat) (s : State), ((s.get (R.CMP_C_STAT_STATE n) ≠ 0 ∧ s.get (R.CMP_C_STAT_STATE n) ≠ 5) ∨ bitOf (s.get
    R.CMP_CTRL_C_EN) n = false ∨ s.inReset (.comp n) = true) → s.compCmd n 1 = s) ∧
  (∀ (n : Nat) (s : State), s.get (R.CMP_C_STAT_STATE n) = 3 → s.compCmd n 2 = (s.set (R.CMP_C_STAT_STATE n)
    2).setLane n { s.lane n with irq := false, since := s.now }) ∧
  (∀ (n : Nat) (s : State), 1 ≤ s.get (R.CMP_C_STAT_STATE n) → s.get (R.CMP_C_STAT_STATE n) ≤ 3 → s.compCmd n 3 =
    s.compDone n 3) ∧
  (∀ (lane : Lane) (s : State), (s.compRuns lane.val = false ∨ s.outFullDue lane.val = false) → Answers (.outFull
    lane) s s) ∧
  (∀ (lane : Lane) (s : State), s.compRuns lane.val = true → bitOf (s.lane lane.val).cfg 6 = false → Answers
    (.outFull lane) s (if s.get (R.CMP_C_OUT_CNT_OUT_CNT lane.val) < 255 ∧ 4096 * s.get (R.CMP_C_OUT_CNT_OUT_CNT
    lane.val) - 64 < (s.lane lane.val).stream.length then s.compWrite lane.val ((s.lane lane.val).stream.take (4096
    * s.get (R.CMP_C_OUT_CNT_OUT_CNT lane.val) - 64)) (fun t => (t.set (R.CMP_C_STAT_STATE lane.val) 3).setLane
    lane.val { (s.lane lane.val) with irq := true }) else s)) ∧
  (∀ (lane : Lane) (s : State), s.compRuns lane.val = false → Answers (.compressionEnd lane) s s) ∧
  (∀ (lane : Lane) (s : State), s.compRuns lane.val = true → bitOf (s.lane lane.val).cfg 6 = false → bitOf (s.lane
    lane.val).cfg 5 = false → Answers (.compressionEnd lane) s (if s.get (R.CMP_C_OUT_CNT_OUT_CNT lane.val) < 255 ∧
    4096 * s.get (R.CMP_C_OUT_CNT_OUT_CNT lane.val) - 64 < (s.lane lane.val).stream.length then s else if 1044416 <
    (s.lane lane.val).stream.length then s.compWrite lane.val ((s.lane lane.val).stream.take 1044416) (fun t =>
    t.compDone lane.val 1) else s.compWrite lane.val (s.lane lane.val).stream (fun t => (t.set (R.CMP_C_UCRC_UCRC
    lane.val) (crc32 (s.lane lane.val).input)).compDone lane.val 0))) ∧
  (∀ (n : Nat) (s : State), ((s.get (R.CMP_D_STAT_STATE n) ≠ 0 ∧ s.get (R.CMP_D_STAT_STATE n) ≠ 2) ∨ bitOf (s.get
    R.CMP_CTRL_D_EN) n = false ∨ s.inReset (.decomp n) = true) → s.decompCmd n 1 = s) ∧
  (∀ (n : Nat) (s : State), (s.get (R.CMP_D_STAT_STATE n) = 0 ∨ s.get (R.CMP_D_STAT_STATE n) = 2) → bitOf (s.get
    R.CMP_CTRL_D_EN) n = true → s.inReset (.decomp n) = false → s.decompCmd n 1 = (((s.set (R.CMP_D_STAT_STATE n)
    1).set (R.CMP_D_STAT_CODE n) 0).orBits R.CMP_STAT_D_BUSY (2 ^ n)).setDlane n ⟨s.now, false⟩) ∧
  (∀ (n : Nat) (s : State), s.get (R.CMP_D_STAT_STATE n) = 1 → s.decompCmd n 2 = s.decompDone n 7) ∧
  (∀ (lane : Lane) (s : State), s.get (R.CMP_D_STAT_STATE lane.val) ≠ 1 → Answers (.decompressionEnd lane) s s) ∧
  (∀ (lane : Lane) (want : Nat) (bs hist : List Byte) (t1 t2 : State) (s : State), s.get (R.CMP_D_STAT_STATE
    lane.val) = 1 → s.decompInput lane.val = (some (want, bs), t1) → t1.decompHist lane.val = (some hist, t2) →
    Answers (.decompressionEnd lane) s
      (match inflate hist bs with
        | .error .badCode => t2.decompDone lane.val 1
        | .error .distFar => t2.decompDone lane.val 2
        | .error .lenShort => t2.decompDone lane.val 3
        | .error .lenLong => t2.decompDone lane.val 4
        | .ok out =>
            (let w := t2.depWrite (0x28 + lane.val) (t2.get (R.CMP_D_OUT_OUT lane.val)) 0 out;
             if w.1 then (w.2.set (R.CMP_D_UCRC_UCRC lane.val) (crc32 out)).decompDone lane.val (if crc32 out = want
                then 0 else 5) else w.2.decompDone lane.val 6))) ∧
  (∀ (lane : Lane) (s : State), s.compRuns lane.val = true → (s.lane lane.val).since + 100000 ≤ s.now → Answers
    (.cmpLaneHang true lane) s (s.fault .cmp lane.val)) ∧
  (∀ (lane : Lane) (s : State), (s.compRuns lane.val = false ∨ s.now < (s.lane lane.val).since + 100000) → Answers
    (.cmpLaneHang true lane) s s) ∧
  (∀ (lane : Lane) (d : DecompLane) (s : State), s.decomp[lane.val]? = some d → s.get (R.CMP_D_STAT_STATE lane.val)
    = 1 → d.since + 100000 ≤ s.now → Answers (.cmpLaneHang false lane) s (s.fault .cmp (8 + lane.val))) ∧
  (∀ (lane : Lane) (s : State), s.get (R.CMP_D_STAT_STATE lane.val) ≠ 1 → Answers (.cmpLaneHang false lane) s s)

/-- Port, link, reset and shutdown events answer as chapter 12 says. CC_ENABLE, CONTROLLER_RESET, CONTROLLER_RESET_DONE,
PCIE_PORT_RESET, PERST_LOW, LINK_TRAINING_START, PCIE_LINK_UP, AER_UNCORRECTABLE, CONTROLLER_SHUTDOWN,
SHUTDOWN_COMPLETE, ABRUPT_SHUTDOWN_TIMEOUT and NVM_SUBSYSTEM_RESET: an event of a controller that does not exist does
nothing; enabling takes the admin queues from AQA, and other CC values than R296's set CFS and a record; EN from 1 to
0 resets; RDY clears once no slot and no transfer is left; a port event raises its fault and resets its controller; a
link that comes up shows its speed, width and DEGRADED; shutdown shows SHST 01b and starts the destage; it waits for
the commands and the cache; NSSR acts on its key alone. (SHST, the stamp and the rest are in the model's controller
record; the queues after enable are empty.) -/
def Obligations.LinkAndControllerCommandsComplete : Prop :=
  (∀ (ctrl : Ctrl) (cc aqa : Word) (s : State), s.ctlExists ctrl.val = false → Answers (.ccEnable ctrl cc aqa) s s) ∧
  (∀ (ctrl : Ctrl) (cc : Word) (s : State), s.ctlExists ctrl.val = false → Answers (.controllerReset ctrl cc) s s) ∧
  (∀ (ctrl : Ctrl) (kind : PortReset) (s : State), s.ctlExists ctrl.val = false → Answers (.pciePortReset ctrl kind)
    s s) ∧
  (∀ (ctrl : Ctrl) (s : State), s.ctlExists ctrl.val = false → Answers (.perstLow ctrl) s s) ∧
  (∀ (ctrl : Ctrl) (s : State), s.ctlExists ctrl.val = false → Answers (.linkTrainingStart ctrl) s s) ∧
  (∀ (ctrl : Ctrl) (speed : Fin 6) (width k : Nat) (s : State), s.ctlExists ctrl.val = false → Answers (.pcieLinkUp
    ctrl speed width k) s s) ∧
  (∀ (ctrl : Ctrl) (s : State), s.ctlExists ctrl.val = false → Answers (.aerUncorrectable ctrl) s s) ∧
  (∀ (ctrl : Ctrl) (cc : Word) (s : State), s.ctlExists ctrl.val = false → Answers (.controllerShutdown ctrl cc) s
    s) ∧
  (∀ (ctrl : Ctrl) (cc aqa : Word) (s : State), s.ctlExists ctrl.val = true → s.flt.safeStop = false → bitOf (s.ctl
    ctrl.val).cc 0 = false → bitOf cc.toNat 0 = true → ccOk cc.toNat = false → Answers (.ccEnable ctrl cc aqa) s
    (((s.modCtl ctrl.val (fun x => { x with cc := cc.toNat, cfs := true })).ldgProtocol 1 ctrl.val).hifShow)) ∧
  (∀ (ctrl : Ctrl) (cc aqa : Word) (s : State), s.ctlExists ctrl.val = true → s.flt.safeStop = false → bitOf (s.ctl
    ctrl.val).cc 0 = false → bitOf cc.toNat 0 = true → bitsOf cc.toNat 16 4 = 6 → bitsOf cc.toNat 20 4 = 4 → bitsOf
    cc.toNat 7 4 = 0 → Answers (.ccEnable ctrl cc aqa) s (((s.modCtl ctrl.val (fun x =>
    { x with cc := cc.toNat, enWait := true, shst := 0, shut := none, sqs := [⟨0, bitsOf aqa.toNat 0 12 + 1, 0, 0, 0, []⟩], cqs := [⟨0, bitsOf aqa.toNat 16 12 + 1, 0, [], true, 0⟩] })).ctlReady
    ctrl.val).hifShow)) ∧
  (∀ (n : Nat) (s : State), (s.ctl n).enWait = true → s.get R.SYS_MODE_MODE ≠ 0 → (s.ctl n).resetAt = none →
    s.ctlReady n = (s.modCtl n (fun x => { x with rdy := true, enWait := false })).hifShow) ∧
  (∀ (n : Nat) (s : State), s.get R.SYS_MODE_MODE = 0 → s.ctlReady n = s) ∧
  (∀ (ctrl : Ctrl) (cc : Word) (s : State), s.ctlExists ctrl.val = true → bitOf (s.ctl ctrl.val).cc 0 = true → bitOf
    cc.toNat 0 = false → Answers (.controllerReset ctrl cc) s (s.ctlReset ctrl.val cc.toNat)) ∧
  (∀ (ctrl : Ctrl) (cc : Word) (s : State), bitOf (s.ctl ctrl.val).cc 0 = false → Answers (.controllerReset ctrl cc)
    s s) ∧
  (∀ (ctrl : Ctrl) (s : State), ((s.ctl ctrl.val).resetAt = none ∨ s.slotsOf ctrl.val ≠ 0 ∨ ∃ e, e < 4 ∧ (s.eng
    e).toHost ctrl.val = true) → Answers (.controllerResetDone ctrl) s s) ∧
  (∀ (ctrl : Ctrl) (s : State), (s.ctl ctrl.val).resetAt ≠ none → s.slotsOf ctrl.val = 0 → (∀ e, e < 4 → (s.eng
    e).toHost ctrl.val = false) → Answers (.controllerResetDone ctrl) s (((s.modCtl ctrl.val (fun x =>
    { x with rdy := false, resetAt := none })).ctlReady ctrl.val).hifShow)) ∧
  (∀ (ctrl : Ctrl) (s : State), s.ctlExists ctrl.val = true → Answers (.pciePortReset ctrl .flr) s ((s.fault .hif
    ctrl.val).ctlReset ctrl.val 0)) ∧
  (∀ (ctrl : Ctrl) (kind : PortReset) (s : State), s.ctlExists ctrl.val = true → kind ≠ .flr → Answers
    (.pciePortReset ctrl kind) s ((((((s.fault .hif ctrl.val).setFlag (R.HIF_LINK_UP ctrl.val) false).set
    (R.HIF_LINK_SPEED ctrl.val) 0).set (R.HIF_LINK_WIDTH ctrl.val) 0).modHif (fun h =>
    { h with training := h.training.set ctrl.val false })).ctlReset ctrl.val 0)) ∧
  (∀ (ctrl : Ctrl) (s : State), s.ctlExists ctrl.val = true → Answers (.perstLow ctrl) s ((s.perst ctrl.val
    false).portReset ctrl.val .linkDown)) ∧
  (∀ (ctrl : Ctrl) (s : State), s.ctlExists ctrl.val = true → bitOf (s.get R.SYS_PWR_STAT_PD) 3 = true → 200000 ≤
    s.now → s.flag (R.HIF_LINK_UP ctrl.val) = false → Answers (.linkTrainingStart ctrl) s ((s.perst ctrl.val
    true).modHif (fun h => { h with training := h.training.set ctrl.val true }))) ∧
  (∀ (ctrl : Ctrl) (s : State), (bitOf (s.get R.SYS_PWR_STAT_PD) 3 = false ∨ s.now < 200000 ∨ s.flag (R.HIF_LINK_UP
    ctrl.val) = true) → Answers (.linkTrainingStart ctrl) s s) ∧
  (∀ (ctrl : Ctrl) (speed : Fin 6) (width k : Nat) (s : State), s.ctlExists ctrl.val = true →
    s.hif.training[ctrl.val]? = some true → speed.val ≠ 0 → (width = 1 ∨ width = 2 ∨ width = 4 ∨ (s.flag
    R.HIF_CFG_X8 = true ∧ width = 8)) → Answers (.pcieLinkUp ctrl speed width k) s (((((((s.setFlag (R.HIF_LINK_UP
    ctrl.val) true).set (R.HIF_LINK_SPEED ctrl.val) speed.val).set (R.HIF_LINK_WIDTH ctrl.val) width).bump
    (R.HIF_LINK_RETRAIN ctrl.val) k).setFlag (R.HIF_LINK_DEGRADED ctrl.val) (decide (speed.val < 3) || decide (width
    < if s.flag R.HIF_CFG_X8 then 8 else 4))).modHif (fun h =>
    { h with training := h.training.set ctrl.val false })))) ∧
  (∀ (ctrl : Ctrl) (speed : Fin 6) (width k : Nat) (s : State), s.hif.training[ctrl.val]? = some false → s.flag
    (R.HIF_LINK_UP ctrl.val) = false → Answers (.pcieLinkUp ctrl speed width k) s s) ∧
  (∀ (ctrl : Ctrl) (s : State), s.ctlExists ctrl.val = true → Answers (.aerUncorrectable ctrl) s (s.fault .hif (2 +
    ctrl.val))) ∧
  (∀ (ctrl : Ctrl) (cc : Word) (s : State), s.ctlExists ctrl.val = true → bitOf (s.ctl ctrl.val).cc 0 = true → bitOf
    cc.toNat 0 = true → (bitsOf cc.toNat 14 2 = 1 ∨ bitsOf cc.toNat 14 2 = 2) → (s.ctl ctrl.val).shst = 0 → Answers
    (.controllerShutdown ctrl cc) s (((s.modCtl ctrl.val (fun x =>
    { x with cc := cc.toNat, shst := 1, shut := some (s.now, bitsOf cc.toNat 14 2 == 2) })).modHif (fun h =>
    { h with destaging := h.destaging || !h.cache.isEmpty })).hifShow)) ∧
  (∀ (ctrl : Ctrl) (cc : Word) (s : State), (bitsOf cc.toNat 14 2 = 0 ∨ bitsOf cc.toNat 14 2 = 3 ∨ (s.ctl
    ctrl.val).shst ≠ 0) → Answers (.controllerShutdown ctrl cc) s s) ∧
  (∀ (ctrl : Ctrl) (s : State), (s.ctl ctrl.val).shut = none → Answers (.shutdownComplete ctrl) s s) ∧
  (∀ (ctrl : Ctrl) (t : Nat) (b : Bool) (s : State), (s.ctl ctrl.val).shut = some (t, b) → (s.flying ctrl.val = true
    ∨ ∃ x ∈ s.hif.cache, x.first < t) → Answers (.shutdownComplete ctrl) s s) ∧
  (∀ (ctrl : Ctrl) (t : Nat) (b : Bool) (s : State), (s.ctl ctrl.val).shut = some (t, b) → s.flying ctrl.val = false
    → (∀ x ∈ s.hif.cache, t ≤ x.first) → Answers (.shutdownComplete ctrl) s (s.shutdownEnd ctrl.val)) ∧
  (∀ (n : Nat) (s : State), ((s.modCtl n (fun x => { x with shst := 2, shut := none })).hifShow).ctlsHere.all (fun k
    => (((s.modCtl n (fun x => { x with shst := 2, shut := none })).hifShow).ctl k).shst == 2) = false →
    s.shutdownEnd n = (s.modCtl n (fun x => { x with shst := 2, shut := none })).hifShow) ∧
  (∀ (ctrl : Ctrl) (t : Nat) (s : State), (s.ctl ctrl.val).shut = some (t, true) → t + 2000000000 ≤ s.now → Answers
    (.abruptShutdownTimeout ctrl) s ((((s.failWaiting t).loseCache t 5).flushCheck).shutdownDone ctrl.val)) ∧
  (∀ (ctrl : Ctrl) (s : State), (s.ctl ctrl.val).shut = none → Answers (.abruptShutdownTimeout ctrl) s s) ∧
  (∀ (ctrl : Ctrl) (t : Nat) (b : Bool) (s : State), (s.ctl ctrl.val).shut = some (t, b) → (b = false ∨ s.now < t +
    2000000000) → Answers (.abruptShutdownTimeout ctrl) s s) ∧
  (∀ (ctrl : Ctrl) (value : Word) (s : State), value.toNat ≠ 0x4E564D65 → Answers (.nvmSubsystemReset ctrl value) s
    s) ∧
  (∀ (ctrl : Ctrl) (value : Word) (s : State), value.toNat = 0x4E564D65 → Answers (.nvmSubsystemReset ctrl value) s
    (((s.ctlsHere.foldl (fun (t : State) n => t.ctlReset n 0) s).modHif (fun h =>
    { h with nss := h.nss.map (fun n => if n.resv.ptpl then n else { n with resv := ⟨[], none, 0, 0, false⟩ }) })).pathLock
    0))

/-- Fetching, doorbells, posting and queue commands answer as chapter 12 says. COMMAND_FETCH, SQ_TAIL_DOORBELL,
CQ_HEAD_DOORBELL, COMPLETION_POST, CREATE_IO_CQ, CREATE_IO_SQ, DELETE_IO_CQ, DELETE_IO_SQ, ABORT,
SET_FEATURES_NUMBER_OF_QUEUES, SET_FEATURES_QUEUE_ORDER and SET_FEATURES_COMPLETION_STAMP: one offered entry is
fetched by its controller alone, and of two the controller refused in the latest tie goes first; a doorbell of a queue
that does not exist or with a value out of range sets its fault, event and record; a tail doorbell moves the tail; a
completion posts when its queue has room; the queue commands answer the statuses of R299 in order and a good one makes
or removes its queue; the fifth Abort is refused; Number of Queues answers 0x00FE00FE. A command that is not in its
slot changes nothing. -/
def Obligations.QueueCommandsComplete : Prop :=
  (∀ (s : State), Answers (.commandFetch none none) s s) ∧
  (∀ (o0 o1 : Option Sqe) (s : State), s.fetches 0 = false → s.fetches 1 = false → Answers (.commandFetch o0 o1) s
    s) ∧
  (∀ (e : Sqe) (o1 : Option Sqe) (s : State), s.fetches 0 = true → s.fetches 1 = false → Answers (.commandFetch
    (some e) o1) s (s.fetchOne 0 e)) ∧
  (∀ (o0 : Option Sqe) (e : Sqe) (s : State), s.fetches 0 = false → s.fetches 1 = true → Answers (.commandFetch o0
    (some e)) s (s.fetchOne 1 e)) ∧
  (∀ (e0 e1 : Sqe) (s : State), s.fetches 0 = true → s.fetches 1 = true → s.tieLast = 1 → Answers (.commandFetch
    (some e0) (some e1)) s
      (let u : State := { (s.fetchOne 0 e0) with tieLast := 0 };
       if u.fetches 1 then u.fetchOne 1 e1 else u)) ∧
  (∀ (e0 e1 : Sqe) (s : State), s.fetches 0 = true → s.fetches 1 = true → s.tieLast ≠ 1 → Answers (.commandFetch
    (some e0) (some e1)) s
      (let u : State := { (s.fetchOne 1 e1) with tieLast := 1 };
       if u.fetches 0 then u.fetchOne 0 e0 else u)) ∧
  (∀ (ctrl : Ctrl) (y v : Nat) (s : State), (s.ctlExists ctrl.val = false ∨ (s.ctl ctrl.val).rdy = false ∨ 255 < y)
    → Answers (.sqTailDoorbell ctrl y v) s s) ∧
  (∀ (ctrl : Ctrl) (y v : Nat) (s : State), (s.ctlExists ctrl.val = false ∨ (s.ctl ctrl.val).rdy = false ∨ 255 < y)
    → Answers (.cqHeadDoorbell ctrl y v) s s) ∧
  (∀ (ctrl : Ctrl) (y v : Nat) (s : State), s.ctlExists ctrl.val = true → (s.ctl ctrl.val).rdy = true → y ≤ 255 →
    (s.ctl ctrl.val).sqOf y = none → Answers (.sqTailDoorbell ctrl y v) s (s.doorbellBad ctrl.val 0)) ∧
  (∀ (ctrl : Ctrl) (y v : Nat) (q : SqSt) (s : State), s.ctlExists ctrl.val = true → (s.ctl ctrl.val).rdy = true → y
    ≤ 255 → (s.ctl ctrl.val).sqOf y = some q → s.sqGoing ctrl.val y = false → q.size ≤ v → Answers (.sqTailDoorbell
    ctrl y v) s (s.doorbellBad ctrl.val 1)) ∧
  (∀ (ctrl : Ctrl) (y v : Nat) (q : SqSt) (s : State), s.ctlExists ctrl.val = true → (s.ctl ctrl.val).rdy = true → y
    ≤ 255 → (s.ctl ctrl.val).sqOf y = some q → s.sqGoing ctrl.val y = false → v < q.size → Answers (.sqTailDoorbell
    ctrl y v) s (s.modCtl ctrl.val (fun x => x.modSq y (fun z => { z with tail := v })))) ∧
  (∀ (ctrl : Ctrl) (y v : Nat) (s : State), s.ctlExists ctrl.val = true → (s.ctl ctrl.val).rdy = true → y ≤ 255 →
    (s.ctl ctrl.val).cqOf y = none → Answers (.cqHeadDoorbell ctrl y v) s (s.doorbellBad ctrl.val 0)) ∧
  (∀ (ctrl : Ctrl) (y v : Nat) (q : CqSt) (s : State), s.ctlExists ctrl.val = true → (s.ctl ctrl.val).rdy = true → y
    ≤ 255 → (s.ctl ctrl.val).cqOf y = some q → (q.size ≤ v ∨ q.posted.length < (v + q.size - q.head) % q.size) →
    Answers (.cqHeadDoorbell ctrl y v) s (s.doorbellBad ctrl.val 1)) ∧
  (∀ (ctrl : Ctrl) (y v : Nat) (q : CqSt) (s : State), s.ctlExists ctrl.val = true → (s.ctl ctrl.val).rdy = true → y
    ≤ 255 → (s.ctl ctrl.val).cqOf y = some q → v < q.size → (v + q.size - q.head) % q.size ≤ q.posted.length →
    Answers (.cqHeadDoorbell ctrl y v) s ((s.modCtl ctrl.val (fun x => x.modCq y (fun z =>
    { z with head := v, posted := z.posted.drop ((v + q.size - q.head) % q.size) }))).cqDrain ctrl.val y)) ∧
  (∀ (n info : Nat) (s : State), s.doorbellBad n info = ((s.fault .hif (4 + n)).raiseEv n ⟨0, info, 1⟩).ldgProtocol
    1 n) ∧
  (∀ (slot : Slot) (s : State), s.cmd slot = none → Answers (.completionPost slot) s s) ∧
  (∀ (slot : Slot) (c : CmdSlot) (s : State), s.cmd slot = some c → c.res = none → Answers (.completionPost slot) s
    s) ∧
  (∀ (slot : Slot) (c : CmdSlot) (q : CqSt) (s : State), s.cmd slot = some c → s.cqFor c = some q → q.size ≤
    q.posted.length + 1 → Answers (.completionPost slot) s s) ∧
  (∀ (slot : Slot) (c : CmdSlot) (r : CmdRes) (q : CqSt) (z : SqSt) (s : State), s.cmd slot = some c → c.res = some
    r → s.cqFor c = some q → (s.ctl c.ctrl).sqOf c.sq = some z → s.orderHeld c = false → s.hif.ended.head? = some
    slot → q.posted.length + 1 < q.size → Answers (.completionPost slot) s (((s.modCtl c.ctrl (fun x =>
    { (x.modCq q.id (fun k => { k with posted := k.posted ++ [⟨c.sq, c.e.cid, z.head, r, s.now⟩] })) with vecs := if q.ien = true ∧ x.vecs.contains q.vec = false then q.vec :: x.vecs else x.vecs })).modHif
    (fun h =>
    { h with slots := h.slots.filter (fun d => d.no != slot), ended := h.ended.filter (· != slot) })).hifShow)) ∧
  (∀ (slot : Slot) (s : State), s.adminCmd slot 5 = none → Answers (.createIoCq slot) s s) ∧
  (∀ (slot : Slot) (s : State), s.adminCmd slot 1 = none → Answers (.createIoSq slot) s s) ∧
  (∀ (slot : Slot) (s : State), s.adminCmd slot 4 = none → Answers (.deleteIoCq slot) s s) ∧
  (∀ (slot : Slot) (s : State), s.adminCmd slot 0 = none → Answers (.deleteIoSq slot) s s) ∧
  (∀ (slot : Slot) (c : CmdSlot) (s : State), s.adminCmd slot 5 = some c → (bitsOf (c.dw 0) 0 16 = 0 ∨ 255 < bitsOf
    (c.dw 0) 0 16 ∨ (s.ctl c.ctrl).cqOf (bitsOf (c.dw 0) 0 16) ≠ none) → Answers (.createIoCq slot) s ((s.finishSt
    c.no (cst 0x101)).ldgProtocol 1 c.ctrl)) ∧
  (∀ (slot : Slot) (c : CmdSlot) (s : State), s.adminCmd slot 5 = some c → bitsOf (c.dw 0) 0 16 ≠ 0 → bitsOf (c.dw
    0) 0 16 ≤ 255 → (s.ctl c.ctrl).cqOf (bitsOf (c.dw 0) 0 16) = none → (bitsOf (c.dw 0) 16 16 = 0 ∨ 4095 < bitsOf
    (c.dw 0) 16 16) → Answers (.createIoCq slot) s ((s.finishSt c.no (cst 0x102)).ldgProtocol 1 c.ctrl)) ∧
  (∀ (slot : Slot) (c : CmdSlot) (s : State), s.adminCmd slot 1 = some c → (bitsOf (c.dw 0) 0 16 = 0 ∨ 255 < bitsOf
    (c.dw 0) 0 16 ∨ (s.ctl c.ctrl).sqOf (bitsOf (c.dw 0) 0 16) ≠ none) → Answers (.createIoSq slot) s ((s.finishSt
    c.no (cst 0x101)).ldgProtocol 1 c.ctrl)) ∧
  (∀ (slot : Slot) (c : CmdSlot) (s : State), s.adminCmd slot 1 = some c → bitsOf (c.dw 0) 0 16 ≠ 0 → bitsOf (c.dw
    0) 0 16 ≤ 255 → (s.ctl c.ctrl).sqOf (bitsOf (c.dw 0) 0 16) = none → (bitsOf (c.dw 0) 16 16 = 0 ∨ 4095 < bitsOf
    (c.dw 0) 16 16) → Answers (.createIoSq slot) s ((s.finishSt c.no (cst 0x102)).ldgProtocol 1 c.ctrl)) ∧
  (∀ (slot : Slot) (c : CmdSlot) (s : State), s.adminCmd slot 5 = some c → (s.ctl c.ctrl).cqOf (bitsOf (c.dw 0) 0
    16) = none → bitsOf (c.dw 0) 0 16 ≠ 0 → bitsOf (c.dw 0) 0 16 ≤ 255 → bitsOf (c.dw 0) 16 16 ≠ 0 → bitsOf (c.dw 0)
    16 16 ≤ 4095 → bitOf (c.dw 1) 0 = true → bitsOf (c.dw 1) 16 16 ≤ 255 → Answers (.createIoCq slot) s ((s.modCtl
    c.ctrl (fun x =>
    { x with cqs := x.cqs ++ [⟨bitsOf (c.dw 0) 0 16, bitsOf (c.dw 0) 16 16 + 1, 0, [], bitOf (c.dw 1) 1, bitsOf (c.dw 1) 16 16⟩], ioMade := true })).finishSt
    slot (cst scOk))) ∧
  (∀ (slot : Slot) (c : CmdSlot) (s : State), s.adminCmd slot 1 = some c → (s.ctl c.ctrl).sqOf (bitsOf (c.dw 0) 0
    16) = none → bitsOf (c.dw 0) 0 16 ≠ 0 → bitsOf (c.dw 0) 0 16 ≤ 255 → bitsOf (c.dw 0) 16 16 ≠ 0 → bitsOf (c.dw 0)
    16 16 ≤ 4095 → bitOf (c.dw 1) 0 = true → bitsOf (c.dw 1) 16 16 ≠ 0 → (s.ctl c.ctrl).cqOf (bitsOf (c.dw 1) 16 16)
    ≠ none → s.cqGoing c (bitsOf (c.dw 1) 16 16) = false → Answers (.createIoSq slot) s ((s.modCtl c.ctrl (fun x =>
    { x with sqs := x.sqs ++ [⟨bitsOf (c.dw 0) 0 16, bitsOf (c.dw 0) 16 16 + 1, 0, 0, bitsOf (c.dw 1) 16 16, []⟩], ioMade := true })).finishSt
    slot (cst scOk))) ∧
  (∀ (slot : Slot) (c : CmdSlot) (s : State), s.adminCmd slot 4 = some c → bitsOf (c.dw 0) 0 16 ≠ 0 → bitsOf (c.dw
    0) 0 16 ≤ 255 → (s.ctl c.ctrl).cqOf (bitsOf (c.dw 0) 0 16) ≠ none → (∃ q ∈ (s.ctl c.ctrl).sqs, q.cq = bitsOf
    (c.dw 0) 0 16) → Answers (.deleteIoCq slot) s ((s.finishSt c.no (cst 0x10C)).ldgProtocol 1 c.ctrl)) ∧
  (∀ (slot : Slot) (c : CmdSlot) (s : State), s.adminCmd slot 4 = some c → bitsOf (c.dw 0) 0 16 ≠ 0 → bitsOf (c.dw
    0) 0 16 ≤ 255 → (s.ctl c.ctrl).cqOf (bitsOf (c.dw 0) 0 16) ≠ none → (∀ q ∈ (s.ctl c.ctrl).sqs, q.cq ≠ bitsOf
    (c.dw 0) 0 16) → Answers (.deleteIoCq slot) s ((s.modCtl c.ctrl (fun x =>
    { x with cqs := x.cqs.filter (fun q => q.id != bitsOf (c.dw 0) 0 16) })).finishSt slot (cst scOk))) ∧
  (∀ (slot : Slot) (c : CmdSlot) (s : State), s.adminCmd slot 0 = some c → (bitsOf (c.dw 0) 0 16 = 0 ∨ 255 < bitsOf
    (c.dw 0) 0 16 ∨ (s.ctl c.ctrl).sqOf (bitsOf (c.dw 0) 0 16) = none) → Answers (.deleteIoSq slot) s ((s.finishSt
    c.no (cst 0x101)).ldgProtocol 1 c.ctrl)) ∧
  (∀ (slot : Slot) (c : CmdSlot) (s : State), s.adminCmd slot 0 = some c → bitsOf (c.dw 0) 0 16 ≠ 0 → bitsOf (c.dw
    0) 0 16 ≤ 255 → (s.ctl c.ctrl).sqOf (bitsOf (c.dw 0) 0 16) ≠ none → (∀ d ∈ s.hif.slots, d.ctrl = c.ctrl → d.sq ≠
    bitsOf (c.dw 0) 0 16) → Answers (.deleteIoSq slot) s (((s.modCtl c.ctrl (fun x => x.modSq (bitsOf (c.dw 0) 0 16)
    (fun q => { q with tail := q.head }))).modCtl c.ctrl (fun x =>
    { x with sqs := x.sqs.filter (fun q => q.id != bitsOf (c.dw 0) 0 16) })).finishSt slot (cst scOk))) ∧
  (∀ (slot : Slot) (s : State), s.adminCmd slot 8 = none → Answers (.opAbort slot) s s) ∧
  (∀ (slot : Slot) (c : CmdSlot) (s : State), s.adminCmd slot 8 = some c → c.started = false → 4 ≤
    (s.hif.slots.filter (fun d => d.ctrl == c.ctrl && !d.isIo && d.e.opc == 0x08 && d.res.isNone && decide (d.stamp
    < c.stamp))).length → Answers (.opAbort slot) s (s.finishSt slot (cst 0x103))) ∧
  (∀ (slot : Slot) (c : CmdSlot) (d : CmdSlot) (s : State), s.adminCmd slot 8 = some c → c.started = false →
    (s.hif.slots.filter (fun d => d.ctrl == c.ctrl && !d.isIo && d.e.opc == 0x08 && d.res.isNone && decide (d.stamp
    < c.stamp))).length < 4 → s.hif.slots.find? (fun d => d.ctrl == c.ctrl && d.sq == bitsOf (c.dw 0) 0 16 &&
    d.e.cid == bitsOf (c.dw 0) 16 16 && d.no != slot) = some d → d.res = none → d.handed = false → d.effect = false
    → Answers (.opAbort slot) s (((s.freeBufs d.bufs).finishSt d.no (cst scAborted)).finishSt slot (cst scOk))) ∧
  (∀ (slot : Slot) (c : CmdSlot) (d : CmdSlot) (s : State), s.adminCmd slot 8 = some c → c.started = false →
    (s.hif.slots.filter (fun d => d.ctrl == c.ctrl && !d.isIo && d.e.opc == 0x08 && d.res.isNone && decide (d.stamp
    < c.stamp))).length < 4 → s.hif.slots.find? (fun d => d.ctrl == c.ctrl && d.sq == bitsOf (c.dw 0) 0 16 &&
    d.e.cid == bitsOf (c.dw 0) 16 16 && d.no != slot) = some d → (d.res ≠ none ∨ d.handed = true ∨ d.effect = true)
    → Answers (.opAbort slot) s (s.finish slot ⟨cst scOk, 1, 0, []⟩)) ∧
  (∀ (slot : Slot) (c : CmdSlot) (s : State), s.adminCmd slot 8 = some c → c.started = false → (s.hif.slots.filter
    (fun d => d.ctrl == c.ctrl && !d.isIo && d.e.opc == 0x08 && d.res.isNone && decide (d.stamp < c.stamp))).length
    < 4 → s.hif.slots.find? (fun d => d.ctrl == c.ctrl && d.sq == bitsOf (c.dw 0) 0 16 && d.e.cid == bitsOf (c.dw 0)
    16 16 && d.no != slot) = none → (s.ctl c.ctrl).sqOf (bitsOf (c.dw 0) 0 16) = none → Answers (.opAbort slot) s
    (s.finish slot ⟨cst scOk, 1, 0, []⟩)) ∧
  (∀ (slot : Slot) (s : State), s.setCmd slot 7 = none → Answers (.setFeaturesNumberOfQueues slot) s s) ∧
  (∀ (slot : Slot) (s : State), s.setCmd slot 193 = none → Answers (.setFeaturesQueueOrder slot) s s) ∧
  (∀ (slot : Slot) (s : State), s.setCmd slot 194 = none → Answers (.setFeaturesCompletionStamp slot) s s) ∧
  (∀ (slot : Slot) (c : CmdSlot) (s : State), s.setCmd slot 7 = some c → bitOf (c.dw 0) 31 = false → ((s.ctl
    c.ctrl).nqAsked = false ∨ (s.ctl c.ctrl).ioMade = false) → Answers (.setFeaturesNumberOfQueues slot) s
    ((s.modCtl c.ctrl (fun x => { x with nqAsked := true })).finish slot ⟨cst scOk, 0x00FE00FE, 0, []⟩)) ∧
  (∀ (slot : Slot) (c : CmdSlot) (s : State), s.setCmd slot 0xC1 = some c → bitOf (c.dw 0) 31 = false → bitsOf (c.dw
    1) 0 16 ≠ 0 → (s.ctl c.ctrl).sqOf (bitsOf (c.dw 1) 0 16) ≠ none → Answers (.setFeaturesQueueOrder slot) s
    ((s.modCtl c.ctrl (fun x => x.modSq (bitsOf (c.dw 1) 0 16) (fun q =>
    { q with ord := addStamp q.ord c.stamp (bitOf (c.dw 1) 16) }))).finishSt slot (cst scOk))) ∧
  (∀ (slot : Slot) (c : CmdSlot) (s : State), s.setCmd slot 0xC2 = some c → bitOf (c.dw 0) 31 = false → Answers
    (.setFeaturesCompletionStamp slot) s ((s.modCtl c.ctrl (fun x =>
    { x with stampHist := addStamp x.stampHist c.stamp (bitOf (c.dw 1) 0) })).finishSt slot (cst scOk)))

/-- Features and asynchronous event requests answer as chapters 2, 12 and 14 say. SET_FEATURES, GET_FEATURES,
SET_FEATURES_POWER_MGMT, SET_FEATURES_SPINUP_CONTROL, SET_FEATURES_DEVICE_MODE, GET_FEATURES_DEVICE_MODE,
SET_FEATURES_COMPRESSION_LEVEL and ASYNC_EVENT_REQUEST: an identifier outside Table 12-7 ends with Invalid Field; a
Set with SV = 1 with Feature Not Saveable; arbitration, interrupt and similar values are stored; a power state above 3
is refused and another is set with its transition; Spinup Control sets AUTOSPIN to the inverse of its bit; a Device
Mode request is checked as R41 orders it and becomes the operating mode; Get 0xC0 returns SYS_MODE[11:0]; a level of 9
or more is refused and another takes effect from its stamp; an event request takes the first held event or waits, and
a fifth is refused. An empty slot changes nothing. (0x10D and 0x105 are NVMe 2.1's codes: log entry 40.) -/
def Obligations.FeatureCommandsComplete : Prop :=
  (∀ (slot : Slot) (s : State), s.setCmd slot 2 = none → Answers (.setFeaturesPowerMgmt slot) s s) ∧
  (∀ (slot : Slot) (c : CmdSlot) (s : State), s.setCmd slot 2 = some c → bitOf (c.dw 0) 31 = true → Answers
    (.setFeaturesPowerMgmt slot) s (s.finishSt c.no (cst 0x10D))) ∧
  (∀ (slot : Slot) (s : State), s.setCmd slot 26 = none → Answers (.setFeaturesSpinupControl slot) s s) ∧
  (∀ (slot : Slot) (c : CmdSlot) (s : State), s.setCmd slot 26 = some c → bitOf (c.dw 0) 31 = true → Answers
    (.setFeaturesSpinupControl slot) s (s.finishSt c.no (cst 0x10D))) ∧
  (∀ (slot : Slot) (s : State), s.setCmd slot 192 = none → Answers (.setFeaturesDeviceMode slot) s s) ∧
  (∀ (slot : Slot) (c : CmdSlot) (s : State), s.setCmd slot 192 = some c → bitOf (c.dw 0) 31 = true → Answers
    (.setFeaturesDeviceMode slot) s (s.finishSt c.no (cst 0x10D))) ∧
  (∀ (slot : Slot) (s : State), s.setCmd slot 195 = none → Answers (.setFeaturesCompressionLevel slot) s s) ∧
  (∀ (slot : Slot) (c : CmdSlot) (s : State), s.setCmd slot 195 = some c → bitOf (c.dw 0) 31 = true → Answers
    (.setFeaturesCompressionLevel slot) s (s.finishSt c.no (cst 0x10D))) ∧
  (∀ (slot : Slot) (xfer : Xfer) (s : State), s.adminCmd slot 9 = none → Answers (.setFeatures slot xfer) s s) ∧
  (∀ (slot : Slot) (xfer : Xfer) (s : State), s.adminCmd slot 10 = none → Answers (.getFeatures slot xfer) s s) ∧
  (∀ (slot : Slot) (xfer : Xfer) (c : CmdSlot) (s : State), s.adminCmd slot 9 = some c → isFeature c.fid = false →
    Answers (.setFeatures slot xfer) s (s.finishSt slot (cst scField))) ∧
  (∀ (slot : Slot) (xfer : Xfer) (c : CmdSlot) (s : State), s.adminCmd slot 9 = some c → c.fid = 0x01 → xfer.dptr =
    0 → bitOf (c.dw 0) 31 = false → Answers (.setFeatures slot xfer) s ((s.setFeat c.ctrl 0x01 (bitsOf (c.dw 1) 0
    3)).finishSt slot (cst scOk))) ∧
  (∀ (slot : Slot) (xfer : Xfer) (c : CmdSlot) (s : State), s.adminCmd slot 9 = some c → c.fid = 0x08 → xfer.dptr =
    0 → bitOf (c.dw 0) 31 = false → Answers (.setFeatures slot xfer) s ((s.setFeat c.ctrl 0x08 (bitsOf (c.dw 1) 0
    16)).finishSt slot (cst scOk))) ∧
  (∀ (slot : Slot) (xfer : Xfer) (c : CmdSlot) (s : State), s.adminCmd slot 9 = some c → c.fid = 0x06 → xfer.dptr =
    0 → bitOf (c.dw 0) 31 = false → Answers (.setFeatures slot xfer) s (s.finishSt slot (cst 0x10E))) ∧
  (∀ (slot : Slot) (xfer : Xfer) (c : CmdSlot) (s : State), s.adminCmd slot 10 = some c → c.fid ≠ 0xC0 → (isFeature
    c.fid = false ∨ 3 < bitsOf (c.dw 0) 8 3) → Answers (.getFeatures slot xfer) s (s.finishSt slot (cst scField))) ∧
  (∀ (slot : Slot) (xfer : Xfer) (c : CmdSlot) (s : State), s.adminCmd slot 10 = some c → c.fid = 0x01 → bitsOf
    (c.dw 0) 8 3 = 0 → Answers (.getFeatures slot xfer) s (s.finish slot ⟨cst scOk, cnt (s.ctl c.ctrl).feats 1, 0,
    []⟩)) ∧
  (∀ (slot : Slot) (xfer : Xfer) (c : CmdSlot) (s : State), s.adminCmd slot 10 = some c → c.fid = 0x01 → bitsOf
    (c.dw 0) 8 3 = 3 → Answers (.getFeatures slot xfer) s (s.finish slot ⟨cst scOk, 4, 0, []⟩)) ∧
  (∀ (slot : Slot) (c : CmdSlot) (s : State), s.setCmd slot 2 = some c → bitOf (c.dw 0) 31 = false → (s.get
    R.SYS_MODE_MODE = 11 ∨ s.get R.SYS_MODE_TARGET = 11) → Answers (.setFeaturesPowerMgmt slot) s (s.finishSt slot
    stMode)) ∧
  (∀ (slot : Slot) (c : CmdSlot) (s : State), s.setCmd slot 2 = some c → bitOf (c.dw 0) 31 = false → s.get
    R.SYS_MODE_MODE ≠ 11 → s.get R.SYS_MODE_TARGET ≠ 11 → 3 < bitsOf (c.dw 1) 0 5 → Answers (.setFeaturesPowerMgmt
    slot) s (s.finishSt slot (cst scField))) ∧
  (∀ (slot : Slot) (c : CmdSlot) (s : State), s.setCmd slot 2 = some c → bitOf (c.dw 0) 31 = false → s.get
    R.SYS_MODE_MODE ≠ 11 → s.get R.SYS_MODE_TARGET ≠ 11 → bitsOf (c.dw 1) 0 5 ≤ 3 → Answers (.setFeaturesPowerMgmt
    slot) s ((s.setPs (bitsOf (c.dw 1) 0 5) 2 c.stamp).finishSt slot (cst scOk))) ∧
  (∀ (slot : Slot) (c : CmdSlot) (s : State), s.setCmd slot 0x1A = some c → bitOf (c.dw 0) 31 = false → Answers
    (.setFeaturesSpinupControl slot) s ((s.setFlag R.SYS_MODE_AUTOSPIN (!bitOf (c.dw 1) 0)).finishSt slot (cst
    scOk))) ∧
  (∀ (slot : Slot) (c : CmdSlot) (st : Cst) (s : State), s.setCmd slot 0xC0 = some c → bitOf (c.dw 0) 31 = false →
    bitOf (c.dw 1) 9 = false → s.modeCheck (bitsOf (c.dw 1) 0 4) = some st → Answers (.setFeaturesDeviceMode slot) s
    (s.finishSt slot st)) ∧
  (∀ (slot : Slot) (c : CmdSlot) (s : State), s.setCmd slot 0xC0 = some c → bitOf (c.dw 0) 31 = false → bitOf (c.dw
    1) 9 = false → s.modeCheck (bitsOf (c.dw 1) 0 4) = none → Answers (.setFeaturesDeviceMode slot) s (((s.setFlag
    R.SYS_MODE_AUTOSPIN (bitOf (c.dw 1) 8)).modeRequest (bitsOf (c.dw 1) 0 4) c.stamp).finishSt slot (cst scOk))) ∧
  (∀ (slot : Slot) (c : CmdSlot) (s : State), s.setCmd slot 0xC0 = some c → bitOf (c.dw 0) 31 = false → bitOf (c.dw
    1) 9 = true → s.limping = false → Answers (.setFeaturesDeviceMode slot) s ((s.setFlag R.SYS_MODE_AUTOSPIN (bitOf
    (c.dw 1) 8)).finishSt slot (cst scOk))) ∧
  (∀ (slot : Slot) (c : CmdSlot) (s : State), s.setCmd slot 0xC0 = some c → bitOf (c.dw 0) 31 = false → bitOf (c.dw
    1) 9 = true → s.limping = true → Answers (.setFeaturesDeviceMode slot) s (s.finishSt slot stMode)) ∧
  (∀ (slot : Slot) (s : State), s.adminCmd slot 10 = none → Answers (.getFeaturesDeviceMode slot) s s) ∧
  (∀ (slot : Slot) (c : CmdSlot) (s : State), s.adminCmd slot 10 = some c → c.fid = 0xC0 → bitsOf (c.dw 0) 8 3 = 0 →
    Answers (.getFeaturesDeviceMode slot) s (s.finish slot ⟨cst scOk, bitsOf (s.rd R.A_SYS_MODE).toNat 0 12, 0,
    []⟩)) ∧
  (∀ (slot : Slot) (c : CmdSlot) (s : State), s.adminCmd slot 10 = some c → c.fid = 0xC0 → 3 < bitsOf (c.dw 0) 8 3 →
    Answers (.getFeaturesDeviceMode slot) s (s.finishSt slot (cst scField))) ∧
  (∀ (slot : Slot) (c : CmdSlot) (s : State), s.setCmd slot 0xC3 = some c → bitOf (c.dw 0) 31 = false → s.packedNs c
    = none → Answers (.setFeaturesCompressionLevel slot) s (s.finishSt slot (cst scNs))) ∧
  (∀ (slot : Slot) (c : CmdSlot) (n : NsSt) (s : State), s.setCmd slot 0xC3 = some c → bitOf (c.dw 0) 31 = false →
    s.packedNs c = some n → 9 ≤ bitsOf (c.dw 1) 0 4 → Answers (.setFeaturesCompressionLevel slot) s (s.finishSt slot
    (cst scField))) ∧
  (∀ (slot : Slot) (c : CmdSlot) (n : NsSt) (s : State), s.setCmd slot 0xC3 = some c → bitOf (c.dw 0) 31 = false →
    s.packedNs c = some n → bitsOf (c.dw 1) 0 4 ≤ 8 → Answers (.setFeaturesCompressionLevel slot) s ((s.modNs n.id
    (fun y => { y with lvl := addStamp y.lvl c.stamp (bitsOf (c.dw 1) 0 4) })).finishSt slot (cst scOk))) ∧
  (∀ (slot : Slot) (s : State), s.adminCmd slot 12 = none → Answers (.asyncEventRequest slot) s s) ∧
  (∀ (slot : Slot) (c : CmdSlot) (s : State), s.adminCmd slot 12 = some c → c.started = false → 4 ≤
    (s.hif.slots.filter (fun d => d.ctrl == c.ctrl && !d.isIo && d.e.opc == 0x0C && d.res.isNone &&
    d.started)).length → Answers (.asyncEventRequest slot) s (s.finishSt slot (cst 0x105))) ∧
  (∀ (slot : Slot) (c : CmdSlot) (s : State), s.adminCmd slot 12 = some c → c.started = false → (s.hif.slots.filter
    (fun d => d.ctrl == c.ctrl && !d.isIo && d.e.opc == 0x0C && d.res.isNone && d.started)).length ≤ 3 → (s.ctl
    c.ctrl).events = [] → Answers (.asyncEventRequest slot) s (s.modCmd slot (fun x => { x with started := true }))) ∧
  (∀ (slot : Slot) (c : CmdSlot) (e : AsyncEv) (r : List AsyncEv) (s : State), s.adminCmd slot 12 = some c →
    c.started = false → (s.hif.slots.filter (fun d => d.ctrl == c.ctrl && !d.isIo && d.e.opc == 0x0C && d.res.isNone
    && d.started)).length ≤ 3 → (s.ctl c.ctrl).events = e :: r → Answers (.asyncEventRequest slot) s ((s.modCtl
    c.ctrl (fun x => { x with events := r })).finish slot ⟨cst scOk, e.ty + 2 ^ 8 * e.info + 2 ^ 16 * e.page, 0,
    []⟩))

/-- Log pages, Identify, self-test and directives answer as chapter 12 says. GET_LOG_PAGE, IDENTIFY, DEVICE_SELF_TEST,
DIRECTIVE_SEND and DIRECTIVE_RECEIVE: a page outside Table 12-8 ends with Invalid Log Page, an offset that is no
multiple of 4 with Invalid Field, and a good one with the page's bytes; LSP[0] of page 0xC2 clears its entries after
the bytes are taken; Identify answers the structure that CNS names, or its status; a bad data pointer ends with its
status; a self-test starts, is refused while one runs, or is aborted; Streams is enabled, disabled and released. (The
bytes that the spec leaves to NVMe 2.1 are free values, log entry 1; the statuses 0x109 and 0x11D are NVMe 2.1's, log
entry 40.) -/
def Obligations.LogIdentifyAndTestCommandsComplete : Prop :=
  (∀ (slot : Slot) (xfer : Xfer) (s : State), s.adminCmd slot 2 = none → Answers (.getLogPage slot xfer) s s) ∧
  (∀ (slot : Slot) (xfer : Xfer) (s : State), s.adminCmd slot 6 = none → Answers (.identify slot xfer) s s) ∧
  (∀ (slot : Slot) (xfer : Xfer) (s : State), s.adminCmd slot 25 = none → Answers (.directiveSend slot xfer) s s) ∧
  (∀ (slot : Slot) (xfer : Xfer) (s : State), s.adminCmd slot 26 = none → Answers (.directiveReceive slot xfer) s s) ∧
  (∀ (slot : Slot) (xfer : Xfer) (c : CmdSlot) (s : State), s.adminCmd slot 2 = some c → isLogPage (bitsOf (c.dw 0)
    0 8) = false → Answers (.getLogPage slot xfer) s (s.finishSt slot (cst 0x109))) ∧
  (∀ (slot : Slot) (xfer : Xfer) (c : CmdSlot) (s : State), s.adminCmd slot 2 = some c → isLogPage (bitsOf (c.dw 0)
    0 8) = true → (c.dw 2 + 2 ^ 32 * c.dw 3) % 4 ≠ 0 → Answers (.getLogPage slot xfer) s (s.finishSt slot (cst
    scField))) ∧
  (∀ (slot : Slot) (xfer : Xfer) (c : CmdSlot) (s : State), s.adminCmd slot 2 = some c → isLogPage (bitsOf (c.dw 0)
    0 8) = true → (c.dw 2 + 2 ^ 32 * c.dw 3) % 4 = 0 → (if 0xC0 ≤ bitsOf (c.dw 0) 0 8 then c.dw 2 + 2 ^ 32 * c.dw 3
    < logLength (bitsOf (c.dw 0) 0 8) else c.dw 2 + 2 ^ 32 * c.dw 3 ≤ logLength (bitsOf (c.dw 0) 0 8)) → xfer.dptr =
    0 → (bitsOf (c.dw 0) 0 8 < 0xC0 ∨ bitsOf (c.dw 0) 8 7 = 0) → bitOf (c.dw 0) 15 = true → Answers (.getLogPage
    slot xfer) s (({ s with free := s.free + 65 } : State).finish slot ⟨cst scOk, 0, 0, s.logBytes c.ctrl (bitsOf
    (c.dw 0) 0 8) (c.dw 2 + 2 ^ 32 * c.dw 3) (4 * (bitsOf (c.dw 0) 16 16 + 65536 * bitsOf (c.dw 1) 0 16 + 1))⟩)) ∧
  (∀ (slot : Slot) (xfer : Xfer) (c : CmdSlot) (s : State), s.adminCmd slot 2 = some c → isLogPage (bitsOf (c.dw 0)
    0 8) = true → (c.dw 2 + 2 ^ 32 * c.dw 3) % 4 = 0 → (if 0xC0 ≤ bitsOf (c.dw 0) 0 8 then c.dw 2 + 2 ^ 32 * c.dw 3
    < logLength (bitsOf (c.dw 0) 0 8) else c.dw 2 + 2 ^ 32 * c.dw 3 ≤ logLength (bitsOf (c.dw 0) 0 8)) → xfer.dptr =
    0 → bitsOf (c.dw 0) 0 8 = 0xC2 → bitsOf (c.dw 0) 8 7 = 1 → bitOf (c.dw 0) 15 = true → Answers (.getLogPage slot
    xfer) s ((({ s with free := s.free + 65 } : State).modHif (fun h =>
    { h with defErrs := [], defLost := 0 })).finish slot ⟨cst scOk, 0, 0, s.logBytes c.ctrl (bitsOf (c.dw 0) 0 8)
    (c.dw 2 + 2 ^ 32 * c.dw 3) (4 * (bitsOf (c.dw 0) 16 16 + 65536 * bitsOf (c.dw 1) 0 16 + 1))⟩)) ∧
  (∀ (slot : Slot) (xfer : Xfer) (c : CmdSlot) (s : State), s.adminCmd slot 2 = some c → isLogPage (bitsOf (c.dw 0)
    0 8) = true → (c.dw 2 + 2 ^ 32 * c.dw 3) % 4 = 0 → (if 0xC0 ≤ bitsOf (c.dw 0) 0 8 then c.dw 2 + 2 ^ 32 * c.dw 3
    < logLength (bitsOf (c.dw 0) 0 8) else c.dw 2 + 2 ^ 32 * c.dw 3 ≤ logLength (bitsOf (c.dw 0) 0 8)) → xfer.dptr =
    1 → bitsOf (c.dw 0) 0 8 < 0xC0 → Answers (.getLogPage slot xfer) s (({ s with free := s.free + 65 } :
    State).xferFail c scPrp)) ∧
  (∀ (slot : Slot) (xfer : Xfer) (c : CmdSlot) (st : Nat) (s : State), s.adminCmd slot 6 = some c → s.identifyData c
    = .inl st → Answers (.identify slot xfer) s (s.finishSt slot (cst st))) ∧
  (∀ (slot : Slot) (xfer : Xfer) (c : CmdSlot) (bs : List Byte) (s : State), s.adminCmd slot 6 = some c →
    s.identifyData c = .inr bs → xfer.dptr = 0 → Answers (.identify slot xfer) s (({ s with free := s.free + 1 } :
    State).finish c.no ⟨cst scOk, 0, 0, bs⟩)) ∧
  (∀ (c : CmdSlot) (s : State), bitsOf (c.dw 0) 0 8 = 0x01 → s.identifyData c = .inr (s.idController c.ctrl)) ∧
  (∀ (slot : Slot) (s : State), s.adminCmd slot 0x14 = none → Answers (.deviceSelfTest slot none) s s) ∧
  (∀ (slot : Slot) (c : CmdSlot) (s : State), s.adminCmd slot 0x14 = some c → bitsOf (c.dw 0) 0 4 = 1 →
    s.hif.selfTest = 0 → Answers (.deviceSelfTest slot none) s ((s.modHif (fun h =>
    { h with selfTest := 1 })).finishSt slot (cst scOk))) ∧
  (∀ (slot : Slot) (c : CmdSlot) (s : State), s.adminCmd slot 0x14 = some c → bitsOf (c.dw 0) 0 4 = 1 →
    s.hif.selfTest ≠ 0 → Answers (.deviceSelfTest slot none) s (s.finishSt slot (cst 0x11D))) ∧
  (∀ (slot : Slot) (c : CmdSlot) (s : State), s.adminCmd slot 0x14 = some c → bitsOf (c.dw 0) 0 4 = 2 →
    s.hif.selfTest = 0 → Answers (.deviceSelfTest slot none) s ((s.modHif (fun h =>
    { h with selfTest := 2 })).finishSt slot (cst scOk))) ∧
  (∀ (slot : Slot) (c : CmdSlot) (s : State), s.adminCmd slot 0x14 = some c → bitsOf (c.dw 0) 0 4 = 2 →
    s.hif.selfTest ≠ 0 → Answers (.deviceSelfTest slot none) s (s.finishSt slot (cst 0x11D))) ∧
  (∀ (slot : Slot) (c : CmdSlot) (s : State), s.adminCmd slot 0x14 = some c → bitsOf (c.dw 0) 0 4 = 15 →
    s.hif.selfTest ≠ 0 → Answers (.deviceSelfTest slot none) s ((s.modHif (fun h =>
    { h with selfLog := ((h.selfTest, 1, s.now) :: h.selfLog).take 20, selfTest := 0 })).finishSt slot (cst scOk))) ∧
  (∀ (slot : Slot) (r : Nat) (s : State), s.hif.selfTest ≠ 0 → Answers (.deviceSelfTest slot (some r)) s (s.modHif
    (fun h => { h with selfLog := ((h.selfTest, r % 16, s.now) :: h.selfLog).take 20, selfTest := 0 }))) ∧
  (∀ (slot : Slot) (r : Nat) (s : State), s.hif.selfTest = 0 → Answers (.deviceSelfTest slot (some r)) s s) ∧
  (∀ (slot : Slot) (xfer : Xfer) (c : CmdSlot) (s : State), s.adminCmd slot 0x19 = some c → xfer.dptr = 0 → bitsOf
    (c.dw 1) 8 8 = 0 → bitsOf (c.dw 1) 0 8 = 1 → bitsOf (c.dw 2) 8 8 = 1 → Answers (.directiveSend slot xfer) s
    (((s.setFeat c.ctrl 0xD1 (bitsOf (c.dw 2) 0 1)).modCtl c.ctrl (fun y => { y with streams := [] })).finishSt slot
    (cst scOk))) ∧
  (∀ (slot : Slot) (xfer : Xfer) (c : CmdSlot) (s : State), s.adminCmd slot 0x19 = some c → xfer.dptr = 0 → bitsOf
    (c.dw 1) 8 8 = 1 → cnt (s.ctl c.ctrl).feats 0xD1 = 1 → bitsOf (c.dw 1) 0 8 = 2 → Answers (.directiveSend slot
    xfer) s ((s.modCtl c.ctrl (fun y => { y with streams := [] })).finishSt slot (cst scOk))) ∧
  (∀ (slot : Slot) (xfer : Xfer) (c : CmdSlot) (s : State), s.adminCmd slot 0x19 = some c → xfer.dptr = 0 → bitsOf
    (c.dw 1) 8 8 = 1 → cnt (s.ctl c.ctrl).feats 0xD1 ≠ 1 → Answers (.directiveSend slot xfer) s (s.finishSt slot
    (cst scField))) ∧
  (∀ (slot : Slot) (xfer : Xfer) (c : CmdSlot) (s : State), s.adminCmd slot 0x1A = some c → xfer.dptr = 0 → bitsOf
    (c.dw 1) 8 8 = 1 → cnt (s.ctl c.ctrl).feats 0xD1 = 1 → bitsOf (c.dw 1) 0 8 = 2 → Answers (.directiveReceive slot
    xfer) s (s.finish c.no ⟨cst scOk, 0, 0, takeAt (leBytes 2 (s.ctl c.ctrl).streams.length ++ ((s.ctl
    c.ctrl).streams.map (fun i => leBytes 2 i)).flatten) 0 (4 * (c.dw 0 + 1))⟩)) ∧
  (∀ (slot : Slot) (xfer : Xfer) (c : CmdSlot) (s : State), s.adminCmd slot 0x1A = some c → bitsOf (c.dw 1) 8 8 = 1
    → cnt (s.ctl c.ctrl).feats 0xD1 ≠ 1 → Answers (.directiveReceive slot xfer) s (s.finishSt slot (cst scField)))

/-- Namespace management and attachment answer as chapters 12 and 14 say. NAMESPACE_MANAGEMENT and NAMESPACE_ATTACHMENT:
both wait for a mode that serves them and for an earlier one; a selection outside Table 12-5 ends with Invalid Field;
deleting or attaching a namespace that does not exist with Invalid Namespace; a good deletion drops every named
namespace, raises the event and completes; attachment to a controller that does not exist is refused, and else the
attachments change and the event is raised; creation of a packed namespace is refused for the 4096+8 format, a level
above 8, NCAP other than NSZE or a size that is no whole number of stripes. (The statuses 0x10A, 0x115, 0x116, 0x118,
0x11A and 0x11C are NVMe 2.1's, log entry 40.) -/
def Obligations.NamespaceCommandsComplete : Prop :=
  (∀ (slot : Slot) (xfer : Xfer) (s : State), s.adminCmd slot 13 = none → Answers (.namespaceManagement slot xfer) s
    s) ∧
  (∀ (slot : Slot) (xfer : Xfer) (c : CmdSlot) (s : State), s.adminCmd slot 13 = some c → s.nsServed = false →
    Answers (.namespaceManagement slot xfer) s s) ∧
  (∀ (slot : Slot) (xfer : Xfer) (s : State), s.adminCmd slot 21 = none → Answers (.namespaceAttachment slot xfer) s
    s) ∧
  (∀ (slot : Slot) (xfer : Xfer) (c : CmdSlot) (s : State), s.adminCmd slot 21 = some c → s.nsServed = false →
    Answers (.namespaceAttachment slot xfer) s s) ∧
  (∀ (slot : Slot) (xfer : Xfer) (c : CmdSlot) (s : State), s.adminCmd slot 13 = some c → s.nsServed = true →
    s.earlier c (fun d => d.e.opc == 0x0D) = false → 2 ≤ bitsOf (c.dw 0) 0 4 → Answers (.namespaceManagement slot
    xfer) s (s.finishSt slot (cst scField))) ∧
  (∀ (slot : Slot) (xfer : Xfer) (c : CmdSlot) (s : State), s.adminCmd slot 13 = some c → s.nsServed = true →
    s.earlier c (fun d => d.e.opc == 0x0D) = false → bitsOf (c.dw 0) 0 4 = 1 → c.e.nsid ≠ 0xFFFFFFFF → (∀ n ∈
    s.hif.nss, n.id ≠ c.e.nsid) → Answers (.namespaceManagement slot xfer) s (s.finishSt slot (cst scNs))) ∧
  (∀ (slot : Slot) (xfer : Xfer) (c : CmdSlot) (n : NsSt) (s : State), s.adminCmd slot 13 = some c → s.nsServed =
    true → s.earlier c (fun d => d.e.opc == 0x0D) = false → bitsOf (c.dw 0) 0 4 = 1 → s.hif.nss.filter (fun n =>
    n.id == c.e.nsid || c.e.nsid == 0xFFFFFFFF) = [n] → n.packed = false → Answers (.namespaceManagement slot xfer)
    s (((s.nsDrop n).raiseBoth ⟨2, 0, 0⟩).finishSt slot (cst scOk))) ∧
  (∀ (slot : Slot) (xfer : Xfer) (c : CmdSlot) (s : State), s.adminCmd slot 13 = some c → s.nsServed = true →
    s.earlier c (fun d => d.e.opc == 0x0D) = false → bitsOf (c.dw 0) 0 4 = 0 → xfer.dptr = 0 → Answers
    (.namespaceManagement slot xfer) s (s.nsCreate slot xfer)) ∧
  (∀ (no : Nat) (x : Xfer) (s : State), bitOf (imgNat x.data 384 1) 0 = true → (bitsOf (imgNat x.data 26 1) 0 4 = 1
    ∨ 2 < bitsOf (imgNat x.data 26 1) 0 4) → s.nsCreate no x = s.finishSt no (cst scNs)) ∧
  (∀ (no : Nat) (x : Xfer) (s : State), bitOf (imgNat x.data 384 1) 0 = true → bitsOf (imgNat x.data 26 1) 0 4 = 0 →
    (8 < imgNat x.data 385 1 ∨ imgNat x.data 8 8 ≠ imgNat x.data 0 8 ∨ imgNat x.data 0 8 = 0 ∨ imgNat x.data 0 8 %
    256 ≠ 0) → s.nsCreate no x = s.finishSt no (cst scField)) ∧
  (∀ (no : Nat) (x : Xfer) (s : State), bitOf (imgNat x.data 384 1) 0 = false → bitsOf (imgNat x.data 26 1) 0 4 ≤ 2
    → (imgNat x.data 0 8 = 0 ∨ imgNat x.data 8 8 ≠ imgNat x.data 0 8) → s.nsCreate no x = s.finishSt no (cst
    scField)) ∧
  (∀ (no : Nat) (n : NsSt) (s : State), s.nsMade no n = (((s.modHif (fun h =>
    { h with nss := h.nss ++ [n] })).ldgRaise 0x0103 (leBytes 4 n.id ++ [0, BitVec.ofNat 8 (b2n n.packed), 0, 0] ++
    leBytes 8 n.nsze)).raiseBoth ⟨2, 0, 0⟩).finish no ⟨cst scOk, n.id, 0, []⟩) ∧
  (∀ (slot : Slot) (xfer : Xfer) (c : CmdSlot) (s : State), s.adminCmd slot 0x15 = some c → s.nsServed = true →
    s.earlier c (fun d => d.e.opc == 0x15) = false → s.nsOf c.e.nsid = none → Answers (.namespaceAttachment slot
    xfer) s (s.finishSt slot (cst scNs))) ∧
  (∀ (slot : Slot) (xfer : Xfer) (c : CmdSlot) (n : NsSt) (s : State), s.adminCmd slot 0x15 = some c → s.nsServed =
    true → s.earlier c (fun d => d.e.opc == 0x15) = false → s.nsOf c.e.nsid = some n → 2 ≤ bitsOf (c.dw 0) 0 4 →
    Answers (.namespaceAttachment slot xfer) s (s.finishSt slot (cst scField))) ∧
  (∀ (slot : Slot) (xfer : Xfer) (c : CmdSlot) (n : NsSt) (s : State), s.adminCmd slot 0x15 = some c → s.nsServed =
    true → s.earlier c (fun d => d.e.opc == 0x15) = false → s.nsOf c.e.nsid = some n → bitsOf (c.dw 0) 0 4 ≤ 1 →
    xfer.dptr = 0 → imgNat xfer.data 0 2 = 0 → Answers (.namespaceAttachment slot xfer) s (s.finishSt slot (cst
    0x11C))) ∧
  (∀ (slot : Slot) (xfer : Xfer) (c : CmdSlot) (n : NsSt) (k : Nat) (s : State), s.adminCmd slot 0x15 = some c →
    s.nsServed = true → s.earlier c (fun d => d.e.opc == 0x15) = false → s.nsOf c.e.nsid = some n → bitsOf (c.dw 0)
    0 4 = 1 → xfer.dptr = 0 → imgNat xfer.data 0 2 = 1 → imgNat xfer.data 2 2 = k + 1 → k < 2 → s.ctlExists k = true
    → n.attached k = true → Answers (.namespaceAttachment slot xfer) s (((s.modNs n.id (fun y =>
    { y with att := y.att.set k false })).raiseBoth ⟨2, 0, 0⟩).finishSt slot (cst scOk))) ∧
  (∀ (slot : Slot) (xfer : Xfer) (c : CmdSlot) (n : NsSt) (k : Nat) (s : State), s.adminCmd slot 0x15 = some c →
    s.nsServed = true → s.earlier c (fun d => d.e.opc == 0x15) = false → s.nsOf c.e.nsid = some n → bitsOf (c.dw 0)
    0 4 = 0 → xfer.dptr = 0 → imgNat xfer.data 0 2 = 1 → imgNat xfer.data 2 2 = k + 1 → k < 2 → s.ctlExists k = true
    → n.attached k = true → Answers (.namespaceAttachment slot xfer) s (s.finishSt slot (cst 0x118)))

/-- Firmware and unlock commands answer as chapters 12 and 18 say. FIRMWARE_IMAGE_DOWNLOAD, FIRMWARE_COMMIT,
FIRMWARE_ACTIVATION, ACTIVATION_TIMEOUT, UNLOCK_CHALLENGE and UNLOCK_RESPONSE: a piece that does not begin on 4 KiB or
passes the buffer's end is refused, another enters the buffer; a second commit waits; a commit that R431 refuses ends
with its status, sets VERSION_OLD for 0x113 and changes no slot; a commit with CA = 2 makes its slot PENDING in the
boot record, one with CA = 3 stores the image and begins the activation; activation ends when its conditions hold: the
sequencers restart on the image and its patch, the boot record names its slot, and the commit completes; a pending
image that a controller reset activates begins as a commit with CA = 3 does; activation and is abandoned 1.5 s after
its commit with 0x112; NSID other than 0 is refused; a challenge on a path or by a method that is not allowed ends
with Invalid Field, during a lockout with Operation Denied, and else returns the challenge and opens the attempt; a
response ends the attempt; without one, by another method or 60 s after its fetch it is a sequence error; a correct
one unlocks the path; a wrong one is counted. -/
def Obligations.FirmwareAndUnlockCommandsComplete : Prop :=
  (∀ (slot : Slot) (xfer : Xfer) (s : State), s.adminCmd slot 0x11 = none → Answers (.firmwareImageDownload slot
    xfer) s s) ∧
  (∀ (slot : Slot) (xfer : Xfer) (c : CmdSlot) (s : State), s.adminCmd slot 0x11 = some c → xfer.dptr = 0 →
    s.downloadPiece c.ctrl (4 * c.dw 1) (takeAt xfer.data 0 (4 * (c.dw 0 + 1))) = none → Answers
    (.firmwareImageDownload slot xfer) s (s.finishSt slot (cst scField))) ∧
  (∀ (slot : Slot) (xfer : Xfer) (c : CmdSlot) (t : State) (s : State), s.adminCmd slot 0x11 = some c → xfer.dptr =
    0 → s.downloadPiece c.ctrl (4 * c.dw 1) (takeAt xfer.data 0 (4 * (c.dw 0 + 1))) = some t → Answers
    (.firmwareImageDownload slot xfer) s (t.finishSt slot (cst scOk))) ∧
  (∀ (k ofs : Nat) (bs : List Byte) (s : State), (ofs % 4096 ≠ 0 ∨ 33554432 < ofs + bs.length) → s.downloadPiece k
    ofs bs = none) ∧
  (∀ (slot : Slot) (s : State), s.adminCmd slot 0x10 = none → Answers (.firmwareCommit slot) s s) ∧
  (∀ (slot : Slot) (c : CmdSlot) (s : State), s.adminCmd slot 0x10 = some c → (s.earlier c (fun d => d.e.opc ==
    0x10) = true ∨ s.hif.activating ≠ none) → Answers (.firmwareCommit slot) s s) ∧
  (∀ (slot : Slot) (c : CmdSlot) (st : Nat) (s : State), s.adminCmd slot 0x10 = some c → s.earlier c (fun d =>
    d.e.opc == 0x10) = false → s.hif.activating = none → s.commitCheck (bitsOf (c.dw 0) 0 3) (bitsOf (c.dw 0) 3 3)
    (if bitsOf (c.dw 0) 3 3 = 2 then s.slotImage (s.commitSlot (bitsOf (c.dw 0) 0 3)) else s.dlImage) (c.resv ==
    some true) = some st → Answers (.firmwareCommit slot) s ((if st = 0x113 then s.fault .sec 4 else s).finishSt
    slot (cst st))) ∧
  (∀ (s : State), s.hif.activating = none → s.get R.SEC_STAT_PENDING_SLOT = 0 → Answers .firmwareActivation s s) ∧
  (∀ (t no k : Nat) (s : State), s.hif.activating = some (t, no, k) → s.activationReady no = false → Answers
    .firmwareActivation s s) ∧
  (∀ (slot : Slot) (c : CmdSlot) (s : State), s.adminCmd slot 0x10 = some c → s.earlier c (fun d => d.e.opc == 0x10)
    = false → s.hif.activating = none → 2 ≤ bitsOf (c.dw 0) 3 3 → bitsOf (c.dw 0) 3 3 ≤ 3 → Answers (.firmwareCommit
    slot) s
      (match s.commitCheck (bitsOf (c.dw 0) 0 3) (bitsOf (c.dw 0) 3 3) (if bitsOf (c.dw 0) 3 3 = 2 then s.slotImage
            (s.commitSlot (bitsOf (c.dw 0) 0 3)) else s.dlImage) (c.resv == some true) with
        | some st => (if st = 0x113 then s.fault .sec 4 else s).finishSt slot (cst st)
        | none => if bitsOf (c.dw 0) 3 3 = 3 then (((s.norStore (slotAddr (s.commitSlot (bitsOf (c.dw 0) 0 3))) (if
            bitsOf (c.dw 0) 3 3 = 2 then s.slotImage (s.commitSlot (bitsOf (c.dw 0) 0 3)) else
            s.dlImage)).dlClear).modHif (fun h =>
            { h with activating := some (c.stamp, slot, (s.commitSlot (bitsOf (c.dw 0) 0 3))) })).raiseBoth ⟨2, 1,
            3⟩ else (s.bootWrite s.bootActive (s.commitSlot (bitsOf (c.dw 0) 0 3))).finishSt slot (cst scOk))) ∧
  (∀ (t no k : Nat) (s : State), s.hif.activating = some (t, no, k) → s.activationReady no = true → Answers
    .firmwareActivation s (if s.mode = mLIMP then (((((((((List.range 4).foldl (fun (t : State) a => t.sqReset a)
    s).set R.SEC_STAT_ACTIVE_SLOT k).set R.SEC_FW_VER_VERSION (imgId (s.slotImage k))).patchImage (s.slotImage
    k)).bootWrite k 0).ldgRaise 0x0102 (leBytes 4 (imgId (s.slotImage k)) ++ leBytes 4 (s.get R.SEC_FW_VER_VERSION)
    ++ [BitVec.ofNat 8 k])).modHif (fun h => { h with activating := none })).finishSt no (cst scOk)).bootAgain else
    ((((((((List.range 4).foldl (fun (t : State) a => t.sqReset a) s).set R.SEC_STAT_ACTIVE_SLOT k).set
    R.SEC_FW_VER_VERSION (imgId (s.slotImage k))).patchImage (s.slotImage k)).bootWrite k 0).ldgRaise 0x0102
    (leBytes 4 (imgId (s.slotImage k)) ++ leBytes 4 (s.get R.SEC_FW_VER_VERSION) ++ [BitVec.ofNat 8 k])).modHif (fun
    h => { h with activating := none })).finishSt no (cst scOk))) ∧
  (∀ (n k : Nat) (s : State), s.hif.activating = none → s.get R.SEC_STAT_PENDING_SLOT = k → (k = 1 ∨ k = 2) → n < 2
    → s.ctlExists n = true → (s.ctl n).resetAt ≠ none → Answers .firmwareActivation s (((s.modHif (fun h =>
    { h with activating := some (s.now, 8192, k) })).raiseBoth ⟨2, 1, 3⟩).activate)) ∧
  (∀ (s : State), s.hif.activating = none → Answers .activationTimeout s s) ∧
  (∀ (t no k : Nat) (s : State), s.hif.activating = some (t, no, k) → t + 1500000000 ≤ s.now → Answers
    .activationTimeout s ((s.modHif (fun h => { h with activating := none })).finishSt no (cst 0x112))) ∧
  (∀ (t no k : Nat) (s : State), s.hif.activating = some (t, no, k) → s.now < t + 1500000000 → Answers
    .activationTimeout s s) ∧
  (∀ (slot : Slot) (s : State), s.unlockCmd slot 192 = none → Answers (.unlockChallenge slot) s s) ∧
  (∀ (slot : Slot) (c : CmdSlot) (s : State), s.unlockCmd slot 192 = some c → c.e.nsid ≠ 0 → Answers
    (.unlockChallenge slot) s (s.finishSt slot (cst scField))) ∧
  (∀ (slot : Slot) (xfer : Xfer) (s : State), s.unlockCmd slot 193 = none → Answers (.unlockResponse slot xfer) s s) ∧
  (∀ (slot : Slot) (xfer : Xfer) (c : CmdSlot) (s : State), s.unlockCmd slot 193 = some c → c.e.nsid ≠ 0 → Answers
    (.unlockResponse slot xfer) s (s.finishSt slot (cst scField))) ∧
  (∀ (slot : Slot) (c : CmdSlot) (st x : Nat) (t : State) (s : State), s.unlockCmd slot 0xC0 = some c → c.e.nsid = 0
    → s.challenge (bitsOf (c.dw 0) 0 2) (bitsOf (c.dw 0) 2 2) c.stamp = ((some st, x), t) → Answers
    (.unlockChallenge slot) s (t.finishSt slot (cst st))) ∧
  (∀ (slot : Slot) (c : CmdSlot) (ch : Nat) (t : State) (s : State), s.unlockCmd slot 0xC0 = some c → c.e.nsid = 0 →
    s.challenge (bitsOf (c.dw 0) 0 2) (bitsOf (c.dw 0) 2 2) c.stamp = ((none, ch), t) → Answers (.unlockChallenge
    slot) s (t.finish slot ⟨cst scOk, ch % 2 ^ 32, ch / 2 ^ 32, []⟩)) ∧
  (∀ (p m stamp : Nat) (s : State), (2 ≤ p ∨ 2 ≤ m ∨ s.methodOk p m = false) → s.challenge p m stamp = ((some
    scField, 0), s)) ∧
  (∀ (p m stamp : Nat) (s : State), p < 2 → m < 2 → s.methodOk p m = true → s.lockLeft p ≠ 0 → s.challenge p m stamp
    = ((some scDenied, 0), s)) ∧
  (∀ (slot : Slot) (xfer : Xfer) (c : CmdSlot) (s : State), s.unlockCmd slot 0xC1 = some c → c.e.nsid = 0 →
    xfer.dptr = 0 → Answers (.unlockResponse slot xfer) s ((s.respond (bitsOf (c.dw 1) 0 2) (bitsOf (c.dw 1) 2 2)
    (bitsOf (c.dw 0) 0 8) c.stamp (takeAt xfer.data 0 (4 * bitsOf (c.dw 0) 0 8))).2.finishSt slot (cst (s.respond
    (bitsOf (c.dw 1) 0 2) (bitsOf (c.dw 1) 2 2) (bitsOf (c.dw 0) 0 8) c.stamp (takeAt xfer.data 0 (4 * bitsOf (c.dw
    0) 0 8))).1))) ∧
  (∀ (p m n stamp : Nat) (bs : List Byte) (s : State), p < 2 → m < 2 → 1 ≤ n → n ≤ 64 → (s.secPath p).chal = none →
    s.respond p m n stamp bs = (scSequence, s.chalEnd p)) ∧
  (∀ (p m n stamp am ch t : Nat) (bs : List Byte) (s : State), p < 2 → m < 2 → 1 ≤ n → n ≤ 64 → (s.secPath p).chal =
    some (am, ch, t) → (am ≠ m ∨ t + 60000000000 ≤ stamp) → s.respond p m n stamp bs = (scSequence, s.chalEnd p)) ∧
  (∀ (p m n stamp ch t : Nat) (bs : List Byte) (s : State), p < 2 → m < 2 → 1 ≤ n → n ≤ 64 → (s.secPath p).chal =
    some (m, ch, t) → stamp < t + 60000000000 → s.responseOk p m ch bs = false → s.respond p m n stamp bs =
    (scAccessDenied, (s.chalEnd p).wrongResponse p)) ∧
  (∀ (p m n stamp ch t : Nat) (bs : List Byte) (s : State), p < 2 → m < 2 → 1 ≤ n → n ≤ 64 → (s.secPath p).chal =
    some (m, ch, t) → stamp < t + 60000000000 → s.respond p m n stamp bs = (if s.responseOk p m ch bs then (scOk,
    (((s.chalEnd p).modPath p (fun x => { x with unlockAt := some s.now, lockLen := 0 })).set (failsFld p)
    0).setFlag (unlFld p) true) else (scAccessDenied, (s.chalEnd p).wrongResponse p)))

/-- The I/O commands answer as chapter 13 says. FLUSH, WRITE, WRITE_EFFECT, READ, WRITE_ZEROES, DATASET_MANAGEMENT,
VERIFY, POOL_EXHAUSTED, DESTAGE_START and DISCARDED_BY_FAULT: a command that is not in its slot, not in a mode that
serves it, or not yet in turn changes nothing; a Flush waits until what came before it is durable; a Write obtains one
buffer per sector, all or none; its effect comes when all data has arrived: it takes its sectors into the cache, makes
their blocks readable and completes, or waits for the medium under FUA and in ARCHIVE; without capacity it ends with
that status and frees its buffers; a Read or Verify is handed to the sequencers, and then ends with Unrecovered Read
Error, a data pointer or PI status, or success with the newest data; a Deallocate outside the namespace ends with LBA
Out of Range, and does nothing in an unpacked namespace; destage starts when the cache holds data; only commands of a
unit that faulted within the last millisecond are discarded. (Which slots lost work is the operand: log entry 44.) -/
def Obligations.IoCommandsComplete : Prop :=
  (∀ (slot : Slot) (s : State), s.ioCmd slot 0 = none → Answers (.opFlush slot) s s) ∧
  (∀ (slot : Slot) (s : State), s.ioNs slot 1 = none → Answers (.opWrite slot) s s) ∧
  (∀ (slot : Slot) (xfer : Xfer) (s : State), s.ioNs slot 1 = none → Answers (.writeEffect slot xfer) s s) ∧
  (∀ (slot : Slot) (xfer : Xfer) (c : CmdSlot) (n : NsSt) (s : State), s.ioNs slot 1 = some (c, n) → s.inTurn c =
    false → Answers (.writeEffect slot xfer) s s) ∧
  (∀ (slot : Slot) (xfer : Xfer) (med : Option (List Nat)) (s : State), s.ioNs slot 2 = none → Answers (.opRead slot
    xfer med) s s) ∧
  (∀ (slot : Slot) (xfer : Xfer) (med : Option (List Nat)) (c : CmdSlot) (n : NsSt) (s : State), s.ioNs slot 2 =
    some (c, n) → s.inTurn c = false → Answers (.opRead slot xfer med) s s) ∧
  (∀ (slot : Slot) (s : State), s.ioNs slot 8 = none → Answers (.writeZeroes slot) s s) ∧
  (∀ (slot : Slot) (c : CmdSlot) (n : NsSt) (s : State), s.ioNs slot 8 = some (c, n) → s.inTurn c = false → Answers
    (.writeZeroes slot) s s) ∧
  (∀ (slot : Slot) (xfer : Xfer) (s : State), s.ioNs slot 9 = none → Answers (.datasetManagement slot xfer) s s) ∧
  (∀ (slot : Slot) (xfer : Xfer) (c : CmdSlot) (n : NsSt) (s : State), s.ioNs slot 9 = some (c, n) → s.inTurn c =
    false → Answers (.datasetManagement slot xfer) s s) ∧
  (∀ (slot : Slot) (pi : Nat) (med : Option (List Nat)) (s : State), s.ioNs slot 12 = none → Answers (.opVerify slot
    pi med) s s) ∧
  (∀ (slot : Slot) (pi : Nat) (med : Option (List Nat)) (c : CmdSlot) (n : NsSt) (s : State), s.ioNs slot 12 = some
    (c, n) → s.inTurn c = false → Answers (.opVerify slot pi med) s s) ∧
  (∀ (slot : Slot) (c : CmdSlot) (s : State), s.ioCmd slot 0 = some c → (s.mode = mSPINUP ∨ s.inTurn c = false) →
    Answers (.opFlush slot) s s) ∧
  (∀ (slot : Slot) (c : CmdSlot) (s : State), s.ioCmd slot 0 = some c → s.mode ≠ mSPINUP → s.inTurn c = true →
    Answers (.opFlush slot) s ((s.modCmd slot (fun x => { x with started := true })).flushCheck)) ∧
  (∀ (slot : Slot) (c : CmdSlot) (n : NsSt) (s : State), s.ioNs slot 1 = some (c, n) → c.mode ≠ mMIGRATE →
    (c.started = true ∨ s.dirtyRoom (n.sectors c.slba c.nlb).length = false) → Answers (.opWrite slot) s s) ∧
  (∀ (slot : Slot) (c : CmdSlot) (n : NsSt) (s : State), s.ioNs slot 1 = some (c, n) → c.mode = mMIGRATE → Answers
    (.opWrite slot) s (s.finishSt slot (cst scProtected))) ∧
  (∀ (slot : Slot) (c : CmdSlot) (n : NsSt) (s : State), s.ioNs slot 8 = some (c, n) → c.mode = mMIGRATE → s.inTurn
    c = true → Answers (.writeZeroes slot) s (s.finishSt slot (cst scProtected))) ∧
  (∀ (slot : Slot) (xfer : Xfer) (c : CmdSlot) (n : NsSt) (s : State), s.ioNs slot 9 = some (c, n) → c.mode =
    mMIGRATE → s.inTurn c = true → Answers (.datasetManagement slot xfer) s (s.finishSt slot (cst scProtected))) ∧
  (∀ (slot : Slot) (c : CmdSlot) (n : NsSt) (s : State), s.ioNs slot 1 = some (c, n) → c.mode ≠ mMIGRATE → c.started
    = false → s.dirtyRoom (n.sectors c.slba c.nlb).length = true → Answers (.opWrite slot) s
      (let r := s.allocBufs (max 4096 n.hostBytes) (n.sectors c.slba c.nlb).length [];
       (r.1.elim r.2 (fun hs => r.2.modCmd slot (fun x => { x with started := true, bufs := hs }))))) ∧
  (∀ (slot : Slot) (xfer : Xfer) (c : CmdSlot) (n : NsSt) (s : State), s.ioNs slot 1 = some (c, n) → c.started =
    false → Answers (.writeEffect slot xfer) s s) ∧
  (∀ (slot : Slot) (xfer : Xfer) (c : CmdSlot) (n : NsSt) (code : Nat) (s : State), s.ioNs slot 1 = some (c, n) →
    c.started = true → s.inTurn c = true → xferStatus c n xfer = some code → Answers (.writeEffect slot xfer) s
    (s.xferFail c code)) ∧
  (∀ (slot : Slot) (xfer : Xfer) (c : CmdSlot) (n : NsSt) (s : State), s.ioNs slot 1 = some (c, n) → c.started =
    true → s.inTurn c = true → xferStatus c n xfer = none → s.capacityCheck n (n.sectors c.slba c.nlb) = none →
    s.mergeBad n c.slba c.nlb = false → Answers (.writeEffect slot xfer) s ((((s.cacheAll n c.slba c.nlb c.stamp
    (s.streamId c) xfer.data ((n.sectors c.slba c.nlb).zip c.bufs)).clearUnread n.id c.slba c.nlb).streamTouch
    c).writeDone c (n.sectors c.slba c.nlb))) ∧
  (∀ (slot : Slot) (xfer : Xfer) (c : CmdSlot) (n : NsSt) (st : Cst) (s : State), s.ioNs slot 1 = some (c, n) →
    c.started = true → s.inTurn c = true → xferStatus c n xfer = none → s.capacityCheck n (n.sectors c.slba c.nlb) =
    some st → Answers (.writeEffect slot xfer) s (((s.freeBufs c.bufs).modCmd slot (fun y =>
    { y with bufs := [] })).finishSt slot st)) ∧
  (∀ (c : CmdSlot) (secs : List Nat) (s : State), c.fua = false → c.mode ≠ mARCHIVE → s.writeDone c secs =
    ((s.modCmd c.no (fun x => { x with effect := true, bufs := [] })).finishSt c.no (cst scOk)).flushCheck) ∧
  (∀ (slot : Slot) (c : CmdSlot) (n : NsSt) (s : State), s.ioNs slot 8 = some (c, n) → c.mode ≠ mMIGRATE → s.inTurn
    c = true → Answers (.writeZeroes slot) s
      (match s.zeroRange n c.slba c.nlb c.stamp with
        | none => s
        | some (.error st) => s.finishSt slot st
        | some (.ok t) => t.writeDone c (n.sectors c.slba c.nlb))) ∧
  (∀ (slot : Slot) (xfer : Xfer) (c : CmdSlot) (n : NsSt) (s : State), s.ioNs slot 9 = some (c, n) → c.mode ≠
    mMIGRATE → s.inTurn c = true → xfer.dptr = 0 → (∃ r ∈ dsmRanges xfer.data (bitsOf (c.dw 0) 0 8 + 1), n.nsze <
    r.1 + r.2) → Answers (.datasetManagement slot xfer) s (s.finishSt slot (cst scRange))) ∧
  (∀ (slot : Slot) (xfer : Xfer) (c : CmdSlot) (n : NsSt) (s : State), s.ioNs slot 9 = some (c, n) → c.mode ≠
    mMIGRATE → s.inTurn c = true → xfer.dptr = 0 → (∀ r ∈ dsmRanges xfer.data (bitsOf (c.dw 0) 0 8 + 1), r.1 + r.2 ≤
    n.nsze) → n.packed = false → Answers (.datasetManagement slot xfer) s ((s.modCmd slot (fun y =>
    { y with effect := true })).finishSt slot (cst scOk))) ∧
  (∀ (slot : Slot) (xfer : Xfer) (c : CmdSlot) (n : NsSt) (s : State), s.ioNs slot 2 = some (c, n) → s.inTurn c =
    true → Answers (.opRead slot xfer none) s (s.modCmd slot (fun y => { y with started := true, handed := true }))) ∧
  (∀ (slot : Slot) (xfer : Xfer) (c : CmdSlot) (n : NsSt) (bad : List Nat) (s : State), s.ioNs slot 2 = some (c, n)
    → s.inTurn c = true → s.readBad c n bad = true → Answers (.opRead slot xfer (some bad)) s (s.finishSt slot (cst
    scUnrecovered))) ∧
  (∀ (slot : Slot) (xfer : Xfer) (c : CmdSlot) (n : NsSt) (bad : List Nat) (code : Nat) (s : State), s.ioNs slot 2 =
    some (c, n) → s.inTurn c = true → s.readBad c n bad = false → xferStatus c n xfer = some code → Answers (.opRead
    slot xfer (some bad)) s (s.xferFail c code)) ∧
  (∀ (slot : Slot) (xfer : Xfer) (c : CmdSlot) (n : NsSt) (bad : List Nat) (s : State), s.ioNs slot 2 = some (c, n)
    → s.inTurn c = true → s.readBad c n bad = false → xferStatus c n xfer = none → s.mode ≠ mMIGRATE → Answers
    (.opRead slot xfer (some bad)) s ((s.modCmd slot (fun y => { y with effect := true })).finish slot ⟨cst scOk, 0,
    0, ((n.sectors c.slba c.nlb).map (fun k => hostSector n k c.slba c.nlb (s.content n k))).flatten⟩)) ∧
  (∀ (slot : Slot) (pi : Nat) (c : CmdSlot) (n : NsSt) (s : State), s.ioNs slot 12 = some (c, n) → s.inTurn c = true
    → Answers (.opVerify slot pi none) s (s.modCmd slot (fun y => { y with started := true, handed := true }))) ∧
  (∀ (slot : Slot) (pi : Nat) (c : CmdSlot) (n : NsSt) (bad : List Nat) (s : State), s.ioNs slot 12 = some (c, n) →
    s.inTurn c = true → s.readBad c n bad = true → Answers (.opVerify slot pi (some bad)) s (s.finishSt slot (cst
    scUnrecovered))) ∧
  (∀ (slot : Slot) (pi : Nat) (c : CmdSlot) (n : NsSt) (bad : List Nat) (code : Nat) (s : State), s.ioNs slot 12 =
    some (c, n) → s.inTurn c = true → s.readBad c n bad = false → xferStatus c n ⟨0, [], pi⟩ = some code → Answers
    (.opVerify slot pi (some bad)) s (s.xferFail c code)) ∧
  (∀ (slot : Slot) (pi : Nat) (c : CmdSlot) (n : NsSt) (bad : List Nat) (s : State), s.ioNs slot 12 = some (c, n) →
    s.inTurn c = true → s.readBad c n bad = false → xferStatus c n ⟨0, [], pi⟩ = none → Answers (.opVerify slot pi
    (some bad)) s ((s.modCmd slot (fun y => { y with effect := true })).finishSt slot (cst scOk))) ∧
  (∀ (slot : Slot) (s : State), s.cmd slot = none → Answers (.poolExhausted slot) s s) ∧
  (∀ (slot : Slot) (c : CmdSlot) (s : State), s.cmd slot = some c → c.isIo = true → (c.e.opc = 1 ∨ c.e.opc = 2) →
    c.res = none → c.effect = false → c.started = false → c.resv = some true → s.mode = mPARALLEL → c.stamp +
    1000000000 ≤ s.now → Answers (.poolExhausted slot) s (s.finishSt slot (stPool (bitOf (cnt (s.ctl c.ctrl).feats
    0x16) 0)))) ∧
  (∀ (slot : Slot) (c : CmdSlot) (s : State), s.cmd slot = some c → s.now < c.stamp + 1000000000 → Answers
    (.poolExhausted slot) s s) ∧
  (∀ (s : State), s.hif.cache = [] → Answers .destageStart s s) ∧
  (∀ (s : State), s.hif.cache ≠ [] → Answers .destageStart s (s.modHif (fun h => { h with destaging := true }))) ∧
  (∀ (unit : CUnit) (slots : List Slot) (s : State), s.flt.history = [] → Answers (.discardedByFault unit slots) s
    s) ∧
  (∀ (unit : CUnit) (s : State), Answers (.discardedByFault unit []) s s) ∧
  (∀ (unit : CUnit) (slot : Slot) (c : CmdSlot) (s : State), (∃ e ∈ s.flt.history, e.1 = unit ∧ s.now ≤ e.2 +
    1000000) → s.cmd slot = some c → c.isIo = true → c.res = none → c.effect = false → Answers (.discardedByFault
    unit [slot]) s ((s.freeBufs c.bufs).finishSt slot stDiscarded))

/-- The reservation commands answer as chapter 13 says. RESERVATION_REGISTER, RESERVATION_REPORT, RESERVATION_ACQUIRE and
RESERVATION_RELEASE: a command that is not in its slot, or is behind another reservation command of its namespace,
changes nothing; a bad data pointer ends with its status; a reserved action ends with Invalid Field; a host that holds
no such key ends with Reservation Conflict; an Acquire of a free namespace takes it with its type; one of a held
namespace conflicts unless the holder repeats it; a Release by a holder with the right type frees it; Clear removes
every registrant; each then lets the commands that waited be checked; a Report gives the generation, type and
registrants. (The actions' field positions are NVMe 2.1's: log entry 40.) -/
def Obligations.ReservationCommandsComplete : Prop :=
  (∀ (slot : Slot) (xfer : Xfer) (s : State), s.resvCmd slot 13 = none → Answers (.reservationRegister slot xfer) s
    s) ∧
  (∀ (slot : Slot) (xfer : Xfer) (c : CmdSlot) (n : NsSt) (s : State), s.resvCmd slot 13 = some (c, n) → xfer.dptr =
    4 → Answers (.reservationRegister slot xfer) s (s.xferFail c scXfer)) ∧
  (∀ (slot : Slot) (xfer : Xfer) (s : State), s.resvCmd slot 14 = none → Answers (.reservationReport slot xfer) s s) ∧
  (∀ (slot : Slot) (xfer : Xfer) (c : CmdSlot) (n : NsSt) (s : State), s.resvCmd slot 14 = some (c, n) → xfer.dptr =
    4 → Answers (.reservationReport slot xfer) s (s.xferFail c scXfer)) ∧
  (∀ (slot : Slot) (xfer : Xfer) (s : State), s.resvCmd slot 17 = none → Answers (.reservationAcquire slot xfer) s
    s) ∧
  (∀ (slot : Slot) (xfer : Xfer) (c : CmdSlot) (n : NsSt) (s : State), s.resvCmd slot 17 = some (c, n) → xfer.dptr =
    4 → Answers (.reservationAcquire slot xfer) s (s.xferFail c scXfer)) ∧
  (∀ (slot : Slot) (xfer : Xfer) (s : State), s.resvCmd slot 21 = none → Answers (.reservationRelease slot xfer) s
    s) ∧
  (∀ (slot : Slot) (xfer : Xfer) (c : CmdSlot) (n : NsSt) (s : State), s.resvCmd slot 21 = some (c, n) → xfer.dptr =
    4 → Answers (.reservationRelease slot xfer) s (s.xferFail c scXfer)) ∧
  (∀ (slot : Slot) (xfer : Xfer) (c : CmdSlot) (n : NsSt) (s : State), s.resvCmd slot 13 = some (c, n) → xfer.dptr =
    0 → (3 ≤ bitsOf (c.dw 0) 0 3 ∨ bitsOf (c.dw 0) 30 2 = 1) → Answers (.reservationRegister slot xfer) s
    ((s.finishSt slot (cst scField)).resvSettle)) ∧
  (∀ (slot : Slot) (xfer : Xfer) (c : CmdSlot) (n : NsSt) (s : State), s.resvCmd slot 13 = some (c, n) → xfer.dptr =
    0 → bitsOf (c.dw 0) 0 3 ≤ 2 → bitsOf (c.dw 0) 30 2 = 0 → Answers (.reservationRegister slot xfer) s (s.resvEnd c
    n (n.resv.register (s.hostOf c.ctrl) (bitsOf (c.dw 0) 0 3) (bitOf (c.dw 0) 3) (ofLeBytes (takeAt xfer.data 0 8))
    (ofLeBytes (takeAt xfer.data 8 8))))) ∧
  (∀ (c : CmdSlot) (n : NsSt) (s : State), s.resvEnd c n none = ((s.modCmd c.no (fun x =>
    { x with effect := true })).finishSt c.no (cst scConflict)).resvSettle) ∧
  (∀ (c : CmdSlot) (n : NsSt) (v : Resv) (s : State), s.resvEnd c n (some v) = (((s.modCmd c.no (fun x =>
    { x with effect := true })).modNs n.id (fun y => { y with resv := v })).finishSt c.no (cst scOk)).resvSettle) ∧
  (∀ (r : Resv) (host nrkey crkey : Nat), r.regs = [] → r.register host 0 false crkey nrkey = some
    { r with regs := [(host, nrkey)], gen := (r.gen + 1) % 2 ^ 32 }) ∧
  (∀ (slot : Slot) (xfer : Xfer) (c : CmdSlot) (n : NsSt) (s : State), s.resvCmd slot 17 = some (c, n) → xfer.dptr =
    0 → (3 ≤ bitsOf (c.dw 0) 0 3 ∨ bitsOf (c.dw 0) 8 8 = 0 ∨ 6 < bitsOf (c.dw 0) 8 8) → Answers (.reservationAcquire
    slot xfer) s ((s.finishSt slot (cst scField)).resvSettle)) ∧
  (∀ (slot : Slot) (xfer : Xfer) (c : CmdSlot) (n : NsSt) (s : State), s.resvCmd slot 17 = some (c, n) → xfer.dptr =
    0 → bitsOf (c.dw 0) 0 3 ≤ 2 → 1 ≤ bitsOf (c.dw 0) 8 8 → bitsOf (c.dw 0) 8 8 ≤ 6 → (∀ e ∈ n.resv.regs, ¬(e.1 =
    s.hostOf c.ctrl ∧ e.2 = ofLeBytes (takeAt xfer.data 0 8))) → Answers (.reservationAcquire slot xfer) s
    (s.resvEnd c n none)) ∧
  (∀ (slot : Slot) (xfer : Xfer) (c : CmdSlot) (n : NsSt) (s : State), s.resvCmd slot 17 = some (c, n) → xfer.dptr =
    0 → bitsOf (c.dw 0) 0 3 = 0 → 1 ≤ bitsOf (c.dw 0) 8 8 → bitsOf (c.dw 0) 8 8 ≤ 6 → (s.hostOf c.ctrl, ofLeBytes
    (takeAt xfer.data 0 8)) ∈ n.resv.regs → n.resv.holder = none → Answers (.reservationAcquire slot xfer) s
    (s.resvEnd c n (some { n.resv with holder := some (s.hostOf c.ctrl), rtype := bitsOf (c.dw 0) 8 8 }))) ∧
  (∀ (slot : Slot) (xfer : Xfer) (c : CmdSlot) (n : NsSt) (h : Nat) (s : State), s.resvCmd slot 17 = some (c, n) →
    xfer.dptr = 0 → bitsOf (c.dw 0) 0 3 = 0 → 1 ≤ bitsOf (c.dw 0) 8 8 → bitsOf (c.dw 0) 8 8 ≤ 6 → (s.hostOf c.ctrl,
    ofLeBytes (takeAt xfer.data 0 8)) ∈ n.resv.regs → n.resv.holder = some h → h ≠ s.hostOf c.ctrl → n.resv.rtype <
    5 → Answers (.reservationAcquire slot xfer) s (s.resvEnd c n none)) ∧
  (∀ (slot : Slot) (xfer : Xfer) (c : CmdSlot) (n : NsSt) (s : State), s.resvCmd slot 21 = some (c, n) → xfer.dptr =
    0 → 2 ≤ bitsOf (c.dw 0) 0 3 → Answers (.reservationRelease slot xfer) s ((s.finishSt slot (cst
    scField)).resvSettle)) ∧
  (∀ (slot : Slot) (xfer : Xfer) (c : CmdSlot) (n : NsSt) (s : State), s.resvCmd slot 21 = some (c, n) → xfer.dptr =
    0 → bitsOf (c.dw 0) 0 3 ≤ 1 → (∀ e ∈ n.resv.regs, ¬(e.1 = s.hostOf c.ctrl ∧ e.2 = ofLeBytes (takeAt xfer.data 0
    8))) → Answers (.reservationRelease slot xfer) s (s.resvEnd c n none)) ∧
  (∀ (slot : Slot) (xfer : Xfer) (c : CmdSlot) (n : NsSt) (s : State), s.resvCmd slot 21 = some (c, n) → xfer.dptr =
    0 → bitsOf (c.dw 0) 0 3 = 0 → (s.hostOf c.ctrl, ofLeBytes (takeAt xfer.data 0 8)) ∈ n.resv.regs → n.resv.holds
    (s.hostOf c.ctrl) = false → Answers (.reservationRelease slot xfer) s (s.resvEnd c n (some n.resv))) ∧
  (∀ (slot : Slot) (xfer : Xfer) (c : CmdSlot) (n : NsSt) (s : State), s.resvCmd slot 21 = some (c, n) → xfer.dptr =
    0 → bitsOf (c.dw 0) 0 3 = 0 → (s.hostOf c.ctrl, ofLeBytes (takeAt xfer.data 0 8)) ∈ n.resv.regs → n.resv.holds
    (s.hostOf c.ctrl) = true → bitsOf (c.dw 0) 8 8 = n.resv.rtype → bitsOf (c.dw 0) 8 8 ≤ 2 → Answers
    (.reservationRelease slot xfer) s ((s.resvEnd c n (some { n.resv with holder := none, rtype := 0 })).resvNotify
    [])) ∧
  (∀ (slot : Slot) (xfer : Xfer) (c : CmdSlot) (n : NsSt) (s : State), s.resvCmd slot 21 = some (c, n) → xfer.dptr =
    0 → bitsOf (c.dw 0) 0 3 = 1 → (s.hostOf c.ctrl, ofLeBytes (takeAt xfer.data 0 8)) ∈ n.resv.regs → Answers
    (.reservationRelease slot xfer) s ((s.resvEnd c n (some
    { n.resv with regs := [], holder := none, rtype := 0, gen := (n.resv.gen + 1) % 2 ^ 32 })).resvNotify
    ((n.resv.regs.filter (fun e => e.1 != s.hostOf c.ctrl)).map (·.1)))) ∧
  (∀ (slot : Slot) (xfer : Xfer) (c : CmdSlot) (n : NsSt) (s : State), s.resvCmd slot 14 = some (c, n) → xfer.dptr =
    0 → Answers (.reservationReport slot xfer) s ((s.modCmd slot (fun y => { y with effect := true })).finish slot
    ⟨cst scOk, 0, 0, takeAt (n.resv.status (fun h => (((List.range 2).find? (fun k => s.hostOf k == h)).map (· +
    1)).getD 0xFFFF)) 0 (4 * (c.dw 1 + 1))⟩))

/-- A step runs the command at the front of the queue on the state with the queue's rest. With commands waiting, step
takes the one at the front and answers what it answers on the state with the queue's rest. With none waiting a step is
one fabric cycle: the time base counts 1 ns once power is good, and nothing else changes (the model's choice, log
entry 2). No command stops: each answers a next state, and leaves the queue as it was. -/
def Obligations.StepRunsTheFrontCommand : Prop :=
  (∀ (c : Instr) (rest : List Instr) (s : State), s.pending = c :: rest → step s = exec c
    { s with pending := rest }) ∧
  (∀ (s : State), s.pending = [] → step s = .next s.tick) ∧
  (∀ (s : State), s.sys.powerGood = true → s.tick = { s with now := s.now + 1 }) ∧
  (∀ (s : State), s.sys.powerGood = false → s.tick = s) ∧
  (∀ (c : Instr) (s : State), ∃ t, exec c s = .next t ∧ t.pending = s.pending)

/-- Reset leaves every register at its Reset column, the part in BOOT, the time base at 0 and nothing waiting. In
State.reset every register of the register tables reads the value that the Reset columns of its fields give, with
reserved bits 0; an address without a register reads 0; SYS_MODE.MODE reads BOOT; the time base is 0; no command
waits, no fault action waits and no holding copy is held; and the memories are in their canonical form with nothing
listed. (What the memories read as and what the other state holds at reset is the model's choice: log entries 3 and
76.) -/
def Obligations.ResetGivesTheResetColumn : Prop :=
  (∀ (a : Nat) (d : RegDesc), regAt a = some d → State.reset.rd a = BitVec.ofNat 32 (d.fields.foldl (fun n f =>
    putBits n f.lo (f.hi + 1 - f.lo) f.reset) 0)) ∧
  (∀ (a : Nat), regAt a = none → State.reset.rd a = 0) ∧
  (State.reset.mode = mBOOT ∧ State.reset.now = 0 ∧ State.reset.pending = [] ∧ State.reset.calm = true ∧
    State.reset.hold = []) ∧
  (State.reset.canon = true ∧ State.reset.mem = [] ∧ State.reset.nor = [] ∧ State.reset.dataMem = [])

/-- A register access acts on one 32-bit register, and narrow or misaligned writes are discarded. Every register of the
tables lies at a multiple of 4. A read acts on the register whose word holds its lowest byte: it leaves what a whole
read of that word leaves, and each byte it returns is that byte of the word, or 0x00 beyond the register's last byte.
A write of another size than 4 bytes, or at an address that is no multiple of 4, answers with nothing changed. (A unit
that is not powered or not answering answers by R22 instead; a word of an SRAM array that is uncorrectable returns no
data, R373.) -/
def Obligations.AccessActsOnOneRegister : Prop :=
  (∀ (a : Nat) (d : RegDesc), regAt a = some d → a % 4 = 0) ∧
  (∀ (p : Path) (a n : Nat) (s : State), s.pathReads p = true → n ≠ 0 → { (s.crsRead p a n) with rdOut := none } =
    { (s.crsRead p (a - a % 4) 4) with rdOut := none }) ∧
  (∀ (p : Path) (a n : Nat) (s : State), s.pathReads p = true → (s.gated (a - a % 4) = true ∨ s.silent (a - a % 4) =
    true ∨ (s.arrayCheck (a - a % 4)).1 = true) → ∃ v x, (s.crsRead p (a - a % 4) 4).rdOut = some (p, v) ∧
    (s.crsRead p a n).rdOut = some (p, x) ∧ ∀ i, i < n → bitsOf x (8 * i) 8 = if a % 4 + i < 4 then bitsOf v (8 * (a
    % 4 + i)) 8 else 0) ∧
  (∀ (p : Path) (a n : Nat) (s : State), s.pathReads p = true → s.gated (a - a % 4) = false → s.silent (a - a % 4) =
    false → (s.arrayCheck (a - a % 4)).1 = false → (s.crsRead p a n).rdOut = none) ∧
  (∀ (p : Path) (a n : Nat) (v : Word) (s : State), s.gated a = false → s.silent a = false → (n ≠ 4 ∨ a % 4 ≠ 0) →
    Answers (.crsWrite p a n v) s s)

/-- An address with no register reads 0 and takes no write. At a word that holds no register, a read of any size on a path
that reads returns 0, and leaves the rest of the state as it was in a unit that is powered and answers; a write of any
size on any path changes nothing there, and in a unit that is not powered or does not answer it leaves what R22 gives. -/
def Obligations.AddressesWithoutARegister : Prop :=
  (∀ (p : Path) (a n : Nat) (s : State), noRegister (a - a % 4) = true → s.pathReads p = true → (s.crsRead p a
    n).rdOut = some (p, 0)) ∧
  (∀ (p : Path) (a n : Nat) (s : State), noRegister (a - a % 4) = true → s.pathReads p = true → s.gated (a - a % 4)
    = false → s.silent (a - a % 4) = false → s.crsRead p a n = { s with rdOut := some (p, 0) }) ∧
  (∀ (p : Path) (a n : Nat) (v : Word) (s : State), noRegister (a - a % 4) = true → s.gated a = false → s.silent a =
    false → Answers (.crsWrite p a n v) s s) ∧
  (∀ (p : Path) (a n : Nat) (v : Word) (s : State), noRegister (a - a % 4) = true → s.crsWrite p a n v = s ∨
    s.crsWrite p a n v = s.crsGated a ∨ s.crsWrite p a n v = s.crsTimeout a)

/-- A 64-bit pair reads coherently through its path's own holding copy. For every NAME_LO, the register after it is its
NAME_HI. A read of NAME_LO returns its value and leaves the value of NAME_HI as the copy of its path for this pair, in
place of any other; the next read of NAME_HI on that path returns the copy and consumes it; a read of NAME_HI without
a copy returns its present value and consumes nothing. In each case the copies of every other path and of every other
pair stay, and reads of other registers touch none. The four paths are the control cores, the two windows and the
debug port. -/
def Obligations.HoldingCopiesOfPairs : Prop :=
  (∀ (lo : Nat), halfAt lo = .lo → halfAt (lo + 4) = .hi) ∧
  (∀ (p : Path) (lo : Nat) (t : State) (s : State), halfAt lo = .lo → s.pathReads p = true → s.gated lo = false →
    s.silent lo = false → s.arrayCheck lo = (true, t) → (s.crsRead p lo 4).rdOut = some (p, (t.readWord lo).1 % 2 ^
    32) ∧ (s.crsRead p lo 4).holdOf p lo = some (BitVec.ofNat 32 ((t.readWord lo).2.readWord (lo + 4)).1) ∧ ∀ (q :
    Path) (k : Nat), (q, k) ≠ (p, lo) → (s.crsRead p lo 4).holdOf q k = s.holdOf q k) ∧
  (∀ (p : Path) (lo : Nat) (w : Word) (t : State) (s : State), halfAt (lo + 4) = .hi → s.pathReads p = true →
    s.gated (lo + 4) = false → s.silent (lo + 4) = false → s.arrayCheck (lo + 4) = (true, t) → s.holdOf p lo = some
    w → (s.crsRead p (lo + 4) 4).rdOut = some (p, w.toNat) ∧ (s.crsRead p (lo + 4) 4).holdOf p lo = none ∧ ∀ (q :
    Path) (k : Nat), (q, k) ≠ (p, lo) → (s.crsRead p (lo + 4) 4).holdOf q k = s.holdOf q k) ∧
  (∀ (p : Path) (lo : Nat) (t : State) (s : State), halfAt (lo + 4) = .hi → s.pathReads p = true → s.gated (lo + 4)
    = false → s.silent (lo + 4) = false → s.arrayCheck (lo + 4) = (true, t) → s.holdOf p lo = none → (s.crsRead p
    (lo + 4) 4).rdOut = some (p, (t.readWord (lo + 4)).1 % 2 ^ 32) ∧ ∀ (q : Path) (k : Nat), (s.crsRead p (lo + 4)
    4).holdOf q k = s.holdOf q k) ∧
  (∀ (p : Path) (a n : Nat) (s : State), halfAt (a - a % 4) = .single → ∀ (q : Path) (k : Nat), (s.crsRead p a
    n).holdOf q k = s.holdOf q k) ∧
  (∀ p : Path, p = .core ∨ p = .win0 ∨ p = .win1 ∨ p = .debug)

/-- A reserved encoding leaves its field, and the other fields of the write take effect. What a register stores of a
write, field by field: an RW field, or an RWL field on an unlocked path, takes the value written where the field
allows it, and stays where the value is a reserved encoding, whatever the other fields of the write do; a W1C field
loses the bits written as 1; an RO, RC or WO field stores nothing. No other register changes. -/
def Obligations.ReservedEncodingsLeaveTheField : Prop :=
  (∀ (p : Path) (a : Nat) (f : FieldDesc) (v : Word) (s : State), f ∈ fieldsAt a → (f.acc = .rw ∨ (f.acc = .rwl ∧
    s.pathUnlocked p = true)) → f.allows (f.bits (s.writeValue a (s.rd a).toNat v.toNat)) = true → f.bits
    ((s.storeReg p a v).rd a).toNat = f.bits (s.writeValue a (s.rd a).toNat v.toNat)) ∧
  (∀ (p : Path) (a : Nat) (f : FieldDesc) (v : Word) (s : State), f ∈ fieldsAt a → (f.acc = .rw ∨ (f.acc = .rwl ∧
    s.pathUnlocked p = true)) → f.allows (f.bits (s.writeValue a (s.rd a).toNat v.toNat)) = false → f.bits
    ((s.storeReg p a v).rd a).toNat = f.bits (s.rd a).toNat) ∧
  (∀ (p : Path) (a : Nat) (f : FieldDesc) (v : Word) (s : State), f ∈ fieldsAt a → f.acc = .w1c → f.bits
    ((s.storeReg p a v).rd a).toNat = f.bits (s.rd a).toNat - Nat.land (f.bits (s.rd a).toNat) (f.bits (s.writeValue
    a (s.rd a).toNat v.toNat))) ∧
  (∀ (p : Path) (a : Nat) (f : FieldDesc) (v : Word) (s : State), f ∈ fieldsAt a → (f.acc = .ro ∨ f.acc = .rc ∨
    f.acc = .wo) → f.bits ((s.storeReg p a v).rd a).toNat = f.bits (s.rd a).toNat) ∧
  (∀ (p : Path) (a b : Nat) (v : Word) (s : State), b ≠ a → (s.storeReg p a v).rd b = s.rd b)

/-- RWL fields take a write only on an unlocked path, and the debug port writes only in WORKSHOP. An RWL field stores a
value that it allows when its path is unlocked and stays as it was otherwise. The host windows are unlocked with the
host path, the debug port with the debug port, the control cores with either. A write through the debug port outside
WORKSHOP changes nothing in a unit that answers. A debug port that is locked makes no access at all; unlocked, its
reads are answered in every mode, but for a word of an SRAM array that is uncorrectable (R373). -/
def Obligations.LockedFieldsAndTheDebugPort : Prop :=
  (∀ (p : Path) (a : Nat) (f : FieldDesc) (v : Word) (s : State), f ∈ fieldsAt a → f.acc = .rwl → s.pathUnlocked p =
    false → f.bits ((s.storeReg p a v).rd a).toNat = f.bits (s.rd a).toNat) ∧
  (∀ (p : Path) (a : Nat) (f : FieldDesc) (v : Word) (s : State), f ∈ fieldsAt a → f.acc = .rwl → s.pathUnlocked p =
    true → f.allows (f.bits (s.writeValue a (s.rd a).toNat v.toNat)) = true → f.bits ((s.storeReg p a v).rd a).toNat
    = f.bits (s.writeValue a (s.rd a).toNat v.toNat)) ∧
  (∀ (s : State), s.pathUnlocked .win0 = s.flag R.SEC_STAT_HOST_UNLOCKED ∧ s.pathUnlocked .win1 = s.flag
    R.SEC_STAT_HOST_UNLOCKED ∧ s.pathUnlocked .debug = s.flag R.SEC_STAT_DBG_UNLOCKED ∧ s.pathUnlocked .core =
    (s.flag R.SEC_STAT_HOST_UNLOCKED || s.flag R.SEC_STAT_DBG_UNLOCKED)) ∧
  (∀ (a n : Nat) (v : Word) (s : State), s.mode ≠ mWORKSHOP → s.gated a = false → s.silent a = false → Answers
    (.crsWrite .debug a n v) s s) ∧
  (∀ (a n : Nat) (v : Word) (s : State), s.flag R.SEC_STAT_DBG_UNLOCKED = false → s.crsRead .debug a n = s ∧ Answers
    (.crsWrite .debug a n v) s s) ∧
  (∀ (a n : Nat) (s : State), s.flag R.SEC_STAT_DBG_UNLOCKED = true → (s.gated (a - a % 4) = true ∨ s.silent (a - a
    % 4) = true ∨ (s.arrayCheck (a - a % 4)).1 = true) → ∃ x, (s.crsRead .debug a n).rdOut = some (.debug, x))

/-- A physical address is surface, track and slot in 40 bits. A physical address of surface 0 to 23, track below 2 to the
22 and slot below 2 to the 13 is below 2 to the 40, holds them in bits 39 to 35, 34 to 13 and 12 to 0, and each is
read back from it. -/
def Obligations.PhysicalAddressLayout : Prop :=
  ∀ (f t k : Nat), f < 24 → t < 2 ^ 22 → k < 2 ^ 13 → physAddr f t k < 2 ^ 40 ∧ bitsOf (physAddr f t k) 35 5 = f ∧
    bitsOf (physAddr f t k) 13 22 = t ∧ bitsOf (physAddr f t k) 0 13 = k ∧ paSurface (physAddr f t k) = f ∧ paTrack
    (physAddr f t k) = t ∧ paSlot (physAddr f t k) = k

/-- In a usable zone the data stream maps into the track outside the servo wedges, and no two slots overlap. For a zone-
format entry that is usable: data-stream positions below D_TOT map to positions on the track below BPR, outside the
WSPAN bits at the start of each frame, in strictly rising order; and the starts of two different slots of one track
lie at least one sector of 37,120 bits apart, both ways round the track. -/
def Obligations.SlotsOfATrackStayApart : Prop :=
  (∀ (a z d : Nat) (s : State), s.zfmtUsable a z = true → d < s.dTot a z → s.trackPos a z d < s.bpr z ∧ zWspan
    (entryNat (s.zfmt a z)) ≤ s.trackPos a z d % s.frameLen a z) ∧
  (∀ (a z d e : Nat) (s : State), s.zfmtUsable a z = true → d < e → e < s.dTot a z → s.trackPos a z d < s.trackPos a
    z e) ∧
  (∀ (a z t k j : Nat) (s : State), s.zfmtUsable a z = true → k < j → j < zSpt (entryNat (s.zfmt a z)) → 37120 ≤
    (s.slotStart a z t j + s.dTot a z - s.slotStart a z t k) % s.dTot a z ∧ (s.slotStart a z t j + s.dTot a z -
    s.slotStart a z t k) % s.dTot a z + 37120 ≤ s.dTot a z)

/-- A fault source takes its action once, when status and not mask rises. Setting status bits of a fault register sets
those bits and no other status bit, and no other register but ATTN_N's. Each source that was 0 and is not masked then
waits for its action, once, with its severity, Contain acting as Degrade where no unit holds the source; a source that
was already 1, or is masked, adds nothing. Unmasking a source whose status is 1 makes it wait for its action then.
ATTN_N is asserted at the setting when an applied level reaches LEVEL. -/
def Obligations.FaultSourcesActOnce : Prop :=
  (∀ (r : FltReg) (m : Nat) (b : Nat) (s : State), r ∈ allFltRegs → m < 2 ^ 32 → b < 32 → (s.setFault r m).faultIs r
    b = (s.faultIs r b || bitOf m b)) ∧
  (∀ (r : FltReg) (m : Nat) (a : Nat) (s : State), a ≠ r.statAddr → a ≠ R.A_FLT_ATTN_LEVEL → (s.setFault r m).rd a =
    s.rd a) ∧
  (∀ (r : FltReg) (m : Nat) (s : State), (∀ b, b < r.srcBits → bitOf m b = true → s.faultIs r b = true ∨ bitOf
    (s.fltMask r) b = true) → m < 2 ^ 32 → (s.setFault r m).flt = s.flt) ∧
  (∀ (r : FltReg) (m : Nat) (s : State), (∃ b, b < r.srcBits ∧ bitOf m b = true ∧ s.faultIs r b = false ∧ bitOf
    (s.fltMask r) b = false) → m < 2 ^ 32 → ∃ a, (s.setFault r m).flt.todo = s.flt.todo ++ [a] ∧ a.reg = r ∧ a.stamp
    = s.now ∧ (∀ b l, (b, l) ∈ a.srcs ↔ b < r.srcBits ∧ bitOf m b = true ∧ s.faultIs r b = false ∧ bitOf (s.fltMask
    r) b = false ∧ l = s.appliedLevel r b) ∧ (a.srcs.map (·.1)).Nodup) ∧
  (∀ (r : FltReg) (b : Nat) (s : State), s.get (r.sevFld b) = 2 → r.unitOf b = none → s.appliedLevel r b = 3) ∧
  (∀ (r : FltReg) (b : Nat) (s : State), (s.get (r.sevFld b) ≠ 2 ∨ r.unitOf b ≠ none) → s.appliedLevel r b = s.get
    (r.sevFld b)) ∧
  (∀ (r : FltReg) (old new : Nat) (s : State), (∃ b, b < r.srcBits ∧ bitOf old b = true ∧ bitOf new b = false ∧
    s.faultIs r b = true) → ∃ a, (s.maskWrite r old new).flt.todo = s.flt.todo ++ [a] ∧ a.reg = r ∧ ∀ b l, (b, l) ∈
    a.srcs ↔ b < r.srcBits ∧ bitOf old b = true ∧ bitOf new b = false ∧ s.faultIs r b = true ∧ l = s.appliedLevel r
    b) ∧
  (∀ (r : FltReg) (old new : Nat) (s : State), (∀ b, b < r.srcBits → bitOf old b = true → bitOf new b = false →
    s.faultIs r b = false) → (s.maskWrite r old new).flt.todo = s.flt.todo)

/-- The summary registers show exactly the blocks with a set, unmasked source, and the highest applied level. FLT_SUM_CH,
FLT_SUM_LDPC and FLT_SUM_SEQ hold a 1 for each head, decoder and sequencer with a set, unmasked source and 0
elsewhere; FLT_SUM0 holds a 1 in a block's bit exactly when one of the block's status registers has one, its ATTN bit
27 while any has one, and in bits 26 to 24 the highest applied level among them; it reads 0 when there is none. -/
def Obligations.SummaryRegistersShowTheSources : Prop :=
  (∀ (h : Nat) (s : State), h < 24 → bitOf s.sumCh h = (s.fltLive (.chRd h) != 0 || s.fltLive (.chWr h) != 0)) ∧
  (∀ (n : Nat) (s : State), n < 18 → bitOf s.sumLdpc n = (s.fltLive (.ldpc n) != 0)) ∧
  (∀ (a : Nat) (s : State), a < 4 → bitOf s.sumSeq a = (s.fltLive (.seq a) != 0)) ∧
  (∀ (b : Nat) (s : State), b < 19 → bitOf s.sum0 b = allFltRegs.any (fun r => r.sumBit == b && s.fltLive r != 0)) ∧
  (∀ (s : State), s.sum0 ≠ 0 → bitOf s.sum0 27 = true ∧ bitsOf s.sum0 24 3 = s.maxLevel) ∧
  (∀ (s : State), s.sum0 = 0 ↔ ∀ r ∈ allFltRegs, s.fltLive r = 0) ∧
  (∀ (s : State), s.sum0 ≠ 0 → (∃ r ∈ allFltRegs, ∃ e ∈ s.liveSrcs r, e.2 = s.maxLevel) ∧ ∀ r ∈ allFltRegs, ∀ e ∈
    s.liveSrcs r, e.2 ≤ s.maxLevel)

/-- A NOR program only clears bits of the bytes it names, and an erase sets exactly its bytes to 0xFF. After a program of
bytes at an address, each byte of its range is the AND of what stood there and what was programmed, and every byte
outside reads as before. After an erase of a range, each byte of it reads 0xFF and every byte outside reads as before.
The first program of a record's job leaves the job waiting for its second, which programs only the byte STATE, with
0x30. -/
def Obligations.NorProgramsOnlyClearBits : Prop :=
  (∀ (m : List (Nat × Byte)) (a : Nat) (bs : List Byte) (i : Nat) (h : i < bs.length), byteAt 0xFF (norProgram m a
    bs) (a + i) = bs[i] &&& byteAt 0xFF m (a + i)) ∧
  (∀ (m : List (Nat × Byte)) (a : Nat) (bs : List Byte) (j : Nat), (j < a ∨ a + bs.length ≤ j) → byteAt 0xFF
    (norProgram m a bs) j = byteAt 0xFF m j) ∧
  (∀ (m : List (Nat × Byte)) (a n j : Nat), a ≤ j → j < a + n → byteAt 0xFF (norErase m a n) j = 0xFF) ∧
  (∀ (m : List (Nat × Byte)) (a n j : Nat), (j < a ∨ a + n ≤ j) → byteAt 0xFF (norErase m a n) j = byteAt 0xFF m j) ∧
  (∀ (j : LdgJob) (s : State), s.ldg.job = some j → j.second = false → s.ldgProgramDone =
    { s with nor := norProgram s.nor j.addr j.bytes, ldg := { s.ldg with job := some { j with second := true } } })

/-- A Ledger record is 32 to 256 bytes, self-checking, and lies in one page. A record with at most 224 bytes of payload is
a multiple of 8 and 32 to 256 bytes long; its first program leaves STATE at 0xF0, LEN the length in 8-byte units,
CODE, RSEQ, PCYC, OPTIME, SUPP and STAMP low byte first at their places, 0xFF in byte 29, the CRC-16 of bytes 1 to 29
and 32 on in bytes 30 and 31, and the payload from byte 32 with 0x00 after it. The place chosen for it at a write
position is that position or the start of the next page, and the record ends in the page it starts in. -/
def Obligations.LedgerRecordLayout : Prop :=
  (∀ (r : LdgRec) (rseq pcyc opt flags : Nat), r.payload.length ≤ 224 → (recBytes r rseq pcyc opt flags).length =
    recLen r ∧ recLen r % 8 = 0 ∧ 32 ≤ recLen r ∧ recLen r ≤ 256) ∧
  (∀ (r : LdgRec) (rseq pcyc opt flags : Nat), r.payload.length ≤ 224 → (recBytes r rseq pcyc opt flags)[0]? = some
    0xF0 ∧ ((recBytes r rseq pcyc opt flags)[1]?).map (fun b => 8 * b.toNat) = some (recLen r) ∧ (recBytes r rseq
    pcyc opt flags)[29]? = some 0xFF) ∧
  (∀ (r : LdgRec) (rseq pcyc opt flags : Nat), r.payload.length ≤ 224 → ofLeBytes (((recBytes r rseq pcyc opt
    flags).drop 2).take 2) = r.code % 2 ^ 16 ∧ ofLeBytes (((recBytes r rseq pcyc opt flags).drop 4).take 4) = rseq %
    2 ^ 32 ∧ ofLeBytes (((recBytes r rseq pcyc opt flags).drop 8).take 4) = pcyc % 2 ^ 32 ∧ ofLeBytes (((recBytes r
    rseq pcyc opt flags).drop 12).take 6) = opt % 2 ^ 48 ∧ ofLeBytes (((recBytes r rseq pcyc opt flags).drop
    18).take 2) = r.supp % 2 ^ 16 ∧ ofLeBytes (((recBytes r rseq pcyc opt flags).drop 20).take 8) = r.stamp % 2 ^
    64) ∧
  (∀ (r : LdgRec) (rseq pcyc opt flags : Nat), r.payload.length ≤ 224 → ofLeBytes (((recBytes r rseq pcyc opt
    flags).drop 30).take 2) = crc16 (((recBytes r rseq pcyc opt flags).drop 1).take 29 ++ (recBytes r rseq pcyc opt
    flags).drop 32)) ∧
  (∀ (r : LdgRec) (rseq pcyc opt flags : Nat), r.payload.length ≤ 224 → (recBytes r rseq pcyc opt flags).drop 32 =
    r.payload ++ List.replicate (recLen r - 32 - r.payload.length) 0) ∧
  (∀ (pos len : Nat), len ≤ 256 → 1 ≤ len → (fitPage pos len = pos ∨ fitPage pos len = (pos / 256 + 1) * 256) ∧
    fitPage pos len / 256 = (fitPage pos len + len - 1) / 256 ∧ (pos % 256 + len ≤ 256 → fitPage pos len = pos))

/-- A downstream Darenlen frame has 7 bytes: TYPE and SEQ, four body bytes, and the CRC-16 high byte first. The bytes of a
frame with a type and a sequence number are seven; byte 0 holds TYPE in bits 3 to 0 and SEQ in bits 7 to 4; bytes 1 to
4 hold the body; bytes 5 and 6 spell the CRC-16 of bytes 0 to 4, most significant byte first. The register of the CRC
is 16 bits wide for every string of bytes, and a frame is rebuilt whole from TYPE, SEQ and body, so frames that differ
in one of them differ. -/
def Obligations.DarenlenFrameLayout : Prop :=
  (∀ (f : DlkFrame) (q : Nat), (frameBytes f q).length = 7) ∧
  (∀ (f : DlkFrame) (q : Nat), f.ty < 16 → q < 16 → ((frameBytes f q)[0]?).map (fun b => bitsOf b.toNat 0 4) = some
    f.ty ∧ ((frameBytes f q)[0]?).map (fun b => bitsOf b.toNat 4 4) = some q) ∧
  (∀ (f : DlkFrame) (q : Nat), ((frameBytes f q).drop 1).take 4 = [BitVec.ofNat 8 f.b1, BitVec.ofNat 8 f.b2,
    BitVec.ofNat 8 f.b3, BitVec.ofNat 8 f.b4]) ∧
  (∀ (f : DlkFrame) (q : Nat), ((frameBytes f q)[5]?).map (fun b => b.toNat) = some (crc16 ((frameBytes f q).take 5)
    / 256) ∧ ((frameBytes f q)[6]?).map (fun b => b.toNat) = some (crc16 ((frameBytes f q).take 5) % 256)) ∧
  (∀ (bs : List Byte), crc16 bs < 2 ^ 16) ∧
  (∀ (f g : DlkFrame) (q k : Nat), f.ty < 16 → g.ty < 16 → q < 16 → k < 16 → frameBytes f q = frameBytes g k → f.ty
    = g.ty ∧ q = k ∧ f.b1 % 256 = g.b1 % 256 ∧ f.b2 % 256 = g.b2 % 256 ∧ f.b3 % 256 = g.b3 % 256 ∧ f.b4 % 256 = g.b4
    % 256)

/-- A stream that expands without error gives exactly 1,048,576 bytes, and a stored block gives its bytes. Whatever the
history and the stream, a stream that the decompressor accepts gives 1,048,576 bytes, and no output byte beyond them
was made. A block of BTYPE 11 ends it with BAD_CODE. A stream of stored blocks gives the data they hold. A final
stored block of up to 65,535 bytes appends exactly its bytes, in order, and leaves the bits after it. -/
def Obligations.DecompressedLength : Prop :=
  (∀ (hist stream : List Byte), (∃ e, inflate hist stream = .error e) ∨ ∃ out, inflate hist stream = .ok out ∧
    out.length = 1048576) ∧
  (∀ (hist data : List Byte), data.length = 1048576 → inflate hist (storedStream 17 data) = .ok data) ∧
  (∀ (last : Bool) (rest : List Bool) (out : List Byte) (n : Nat), infBlock ⟨last :: true :: true :: rest, out, n⟩ =
    .error .badCode) ∧
  (∀ (data out : List Byte) (rest : List Bool) (n : Nat), data.length < 65536 → n + data.length ≤ 1048576 →
    rest.length % 8 = 0 → infBlock ⟨bitsOfBytes ([1] ++ leBytes 2 data.length ++ leBytes 2 (65535 - data.length) ++
    data) ++ rest, out, n⟩ = .ok (true, ⟨rest, data.reverse ++ out, n + data.length⟩))

/-- Registering and removing hosts keeps a reservation consistent, and a reservation keeps strangers out. A consistent
reservation has one entry for each registrant, and a holder only who is a registrant and has one of the six types.
Registering, replacing a key, unregistering and removing preempted hosts keep it so. Under a consistent reservation
the holder may read and write; a host that is no registrant may never write while someone holds it, and may read only
under the write-exclusive types; with no holder every host may do both. (The actions and types are NVMe 2.1's: log
entry 40.) -/
def Obligations.ReservationsStayConsistent : Prop :=
  (∀ (r : Resv) (p : Nat → Bool), r.ok = true → (r.unregister p).ok = true) ∧
  (∀ (r v : Resv) (h a : Nat) (ie : Bool) (ck nk : Nat), r.ok = true → r.register h a ie ck nk = some v → v.ok =
    true) ∧
  (∀ (r : Resv) (h : Nat), r.ok = true → r.holder = some h → ∀ w, r.allows h w = true) ∧
  (∀ (r : Resv) (h k : Nat), r.ok = true → r.holder = some k → r.registered h = false → r.allows h true = false ∧
    (r.allows h false = true ↔ r.rtype = 1 ∨ r.rtype = 3 ∨ r.rtype = 5)) ∧
  (∀ (r : Resv) (h : Nat) (w : Bool), r.holder = none → r.allows h w = true)

/-- Buffer memory without flipped bits returns what was written and changes no other byte. With MEM READY and no flipped
bits, a write of bytes below the data top goes ahead, each byte of its range then holds the byte written, and every
byte of buffer memory outside holds what it held, part words included; a read below the data top returns the bytes
that stand there, and no read changes a byte. An access that reaches past the data top, or while MEM is not open,
fails with the address-error code and changes no byte. -/
def Obligations.BufferMemoryKeepsWhatIsWritten : Prop :=
  (∀ (a : Nat) (bs : List Byte) (s : State), s.get R.MEM_STAT_STATE = 2 → (∀ k, s.flipsOf k = 0) → a + bs.length ≤
    s.dataTop → (s.memWriteC a bs).1 = 0 ∧ ∀ j, byteAt 0 (s.memWriteC a bs).2.mem j = if a ≤ j ∧ j < a + bs.length
    then (bs[j - a]?).getD 0 else byteAt 0 s.mem j) ∧
  (∀ (a n : Nat) (s : State), s.get R.MEM_STAT_STATE = 2 → (∀ k, s.flipsOf k = 0) → a + n ≤ s.dataTop → (s.memReadC
    a n).1 = 0 ∧ (s.memReadC a n).2.1 = bytesAt 0 s.mem a n) ∧
  (∀ (a n : Nat) (s : State), (s.memReadC a n).2.2.mem = s.mem) ∧
  (∀ (a : Nat) (bs : List Byte) (s : State), ((s.get R.MEM_STAT_STATE ≠ 2 ∧ s.get R.MEM_STAT_STATE ≠ 3) ∨ s.dataTop
    < a + bs.length) → (s.memWriteC a bs).1 = 3 ∧ (s.memWriteC a bs).2.mem = s.mem ∧ (s.memReadC a bs.length).1 = 3)

/-- The modes have the concurrency tiers of R36. PARKED has tier 0, IDLE 1, SINGLE and HERITAGE 2, BALANCED and ARCHIVE 3,
PARALLEL and MIGRATE 4; BOOT, SPINUP, LIMP and WORKSHOP have none. -/
def Obligations.ConcurrencyTiers : Prop :=
  (tierOf mPARKED = some 0 ∧ tierOf mIDLE = some 1 ∧ tierOf mSINGLE = some 2 ∧ tierOf mHERITAGE = some 2 ∧ tierOf
    mBALANCED = some 3 ∧ tierOf mARCHIVE = some 3 ∧ tierOf mPARALLEL = some 4 ∧ tierOf mMIGRATE = some 4) ∧
  (tierOf mBOOT = none ∧ tierOf mSPINUP = none ∧ tierOf mLIMP = none ∧ tierOf mWORKSHOP = none)

/-- Every step keeps the register file, the memories and the NOR in their canonical form. From every state in which the
register file, the buffer memory, the on-chip data memory and the serial NOR are in their canonical form (addresses
strictly rising, no entry that says what an unlisted address reads as anyway), whatever command stands at the front of
the queue, the next state has them in that form too: equal contents stay equal data. (What an unlisted byte reads as
is the model's choice: log entry 3.) -/
def Obligations.EveryStepKeepsTheStoresCanonical : Prop :=
  ∀ (t : State) (s : State), s.canon = true → step s = .next t → t.canon = true

/-- No command but power-good, the device resets and a command fetch moves the time base. Whatever command but POWER_GOOD,
POWER_ON_RESET, SUPPLY_RECOVERY_RESET and COMMAND_FETCH is given in whatever state, the count of the time base is the
same after it: no other reset changes it and no access path writes it. POWER_GOOD with every rail in range and power
not yet good, and a power-on reset, leave it 0; otherwise those two leave it as it was; the reset after a supply loss
leaves it 0, or as it was where its conditions do not hold. A command fetch counts it on by at most 2 (the model's
choice: log entry 2). -/
def Obligations.OnlyDeviceResetsAndFetchesMoveTheTimeBase : Prop :=
  (∀ (c : Instr) (t : State) (s : State), exec c s = .next t → (∀ a b, c ≠ .commandFetch a b) → (∀ g a b r, c ≠
    .powerGood g a b r) → (∀ r v, c ≠ .powerOnReset r v) → c ≠ .supplyRecoveryReset → t.now = s.now) ∧
  (∀ (rails : List (Nat × Nat)) (gpio : Word) (pair0 pair1 : Bool) (t : State) (s : State), exec (.powerGood gpio
    pair0 pair1 rails) s = .next t → t.now = if railsGood rails = true ∧ s.sys.powerGood = false then 0 else s.now) ∧
  (∀ (rail : Fin 7) (mv : List Nat) (t : State) (s : State), exec (.powerOnReset rail mv) s = .next t → t.now = if
    railLost (railAt rail.val) mv = true then 0 else s.now) ∧
  (∀ (t : State) (s : State), exec .supplyRecoveryReset s = .next t → t.now = 0 ∨ t.now = s.now) ∧
  (∀ (a b : Option Sqe) (t : State) (s : State), exec (.commandFetch a b) s = .next t → s.now ≤ t.now ∧ t.now ≤
    s.now + 2)
end

