-- ==== Sys2Proof/Laws/Store.lean ====
section
/-!
SUPPORT. Sparse stores: what a read gives after a write, and that every operation keeps the canonical form.
-/

namespace Sys2Proof.Machine

open Sys2Proof

variable {α : Type} [DecidableEq α] (d : Nat → α)

omit [DecidableEq α] in
theorem amGet_amPut (m : List (Nat × α)) (k : Nat) (v : α) (j : Nat) :
    amGet d (amPut m k v) j = if j = k then v else amGet d m j := by
  induction m with
  | nil => by_cases h : k = j <;> simp [amPut, amGet, h, eq_comm]
  | cons e m ih =>
    obtain ⟨a, w⟩ := e
    unfold amPut
    split
    · by_cases h : k = j <;> simp [amGet, h, eq_comm]
    · split
      · next hak =>
        subst hak
        by_cases h : a = j
        · simp [amGet, h]
        · simp [amGet, h, Ne.symm h]
      · next hk hak =>
        by_cases h : a = j
        · subst h; simp [amGet, hak]
        · simp [amGet, h, ih]

omit [DecidableEq α] in
theorem amGet_amDel (m : List (Nat × α)) (k j : Nat) :
    amGet d (amDel m k) j = if j = k then d j else amGet d m j := by
  induction m with
  | nil => simp [amDel, amGet]
  | cons e m ih =>
    obtain ⟨a, w⟩ := e
    by_cases hak : a = k
    · subst hak
      by_cases h : j = a
      · subst h; simp [amDel] at ih ⊢; exact ih
      · simp [amDel, ih, h, amGet, Ne.symm h]
    · by_cases h : a = j
      · subst h; simp [amDel, amGet, hak]
      · simp [amDel, hak, amGet, h, ih]

/-- A read after a write gives the value written, and every other key reads as before. -/
theorem amGet_amSet (m : List (Nat × α)) (k : Nat) (v : α) (j : Nat) :
    amGet d (amSet d m k v) j = if j = k then v else amGet d m j := by
  unfold amSet
  split
  · next h => rw [amGet_amDel]; by_cases hj : j = k <;> simp [hj, h]
  · exact amGet_amPut d m k v j

omit [DecidableEq α] in
theorem amAbove_amPut {a k : Nat} (v : α) : ∀ m : List (Nat × α), amAbove a m = true → a < k → amAbove a (amPut m k v) = true
  | [], _, h => by simp [amPut, amAbove, h]
  | (b, w) :: m, hm, h => by
    have hb : a < b ∧ amAbove a m = true := by simpa [amAbove] using hm
    unfold amPut
    split
    · simpa [amAbove, h] using hm
    · split
      · simpa [amAbove, h] using hb.2
      · have := amAbove_amPut v m hb.2 h
        simpa [amAbove, hb.1] using this

omit [DecidableEq α] in
theorem amAbove_amDel {a : Nat} (k : Nat) : ∀ m : List (Nat × α), amAbove a m = true → amAbove a (amDel m k) = true
  | [], _ => by simp [amDel, amAbove]
  | (b, w) :: m, hm => by
    have hb : a < b ∧ amAbove a m = true := by simpa [amAbove] using hm
    have := amAbove_amDel k m hb.2
    unfold amDel
    split
    · exact this
    · simpa [amAbove, hb.1] using this

omit [DecidableEq α] in
theorem amAbove_lt {a b : Nat} (h : a < b) : ∀ m : List (Nat × α), amAbove b m = true → amAbove a m = true
  | [], _ => by simp [amAbove]
  | (c, w) :: m, hm => by
    have hb : b < c ∧ amAbove b m = true := by simpa [amAbove] using hm
    have := amAbove_lt h m hb.2
    simp only [amAbove, List.all_cons, Bool.and_eq_true, decide_eq_true_eq]
    exact ⟨by omega, this⟩

theorem amWf_cons {a : Nat} {v : α} {m : List (Nat × α)} :
    amWf d ((a, v) :: m) = true ↔ v ≠ d a ∧ amAbove a m = true ∧ amWf d m = true := by
  simp [amWf, and_assoc]

theorem amWf_amPut (k : Nat) (v : α) (hv : v ≠ d k) :
    ∀ m : List (Nat × α), amWf d m = true → amWf d (amPut m k v) = true
  | [], _ => by simp [amPut, amWf, amAbove, hv]
  | (a, w) :: m, hm => by
    obtain ⟨h1, h2, h3⟩ := (amWf_cons d).1 hm
    unfold amPut
    split
    · next hk =>
      refine (amWf_cons d).2 ⟨hv, ?_, hm⟩
      have := amAbove_lt hk m h2
      simpa [amAbove, hk] using this
    · split
      · next _ hak => subst hak; exact (amWf_cons d).2 ⟨hv, h2, h3⟩
      · next hk hak =>
        exact (amWf_cons d).2 ⟨h1, amAbove_amPut v m h2 (by omega), amWf_amPut k v hv m h3⟩

theorem amWf_amDel (k : Nat) : ∀ m : List (Nat × α), amWf d m = true → amWf d (amDel m k) = true
  | [], _ => by simp [amDel, amWf]
  | (a, w) :: m, hm => by
    obtain ⟨h1, h2, h3⟩ := (amWf_cons d).1 hm
    unfold amDel
    split
    · exact amWf_amDel k m h3
    · exact (amWf_cons d).2 ⟨h1, amAbove_amDel k m h2, amWf_amDel k m h3⟩

/-- A write keeps the canonical form. -/
theorem amWf_amSet (m : List (Nat × α)) (k : Nat) (v : α) (h : amWf d m = true) : amWf d (amSet d m k v) = true := by
  unfold amSet
  split
  · exact amWf_amDel d k m h
  · next hv => exact amWf_amPut d k v hv m h

theorem amWf_filter (p : Nat × α → Bool) : ∀ m : List (Nat × α), amWf d m = true → amWf d (m.filter p) = true
  | [], _ => by simp [amWf]
  | (a, w) :: m, hm => by
    obtain ⟨h1, h2, h3⟩ := (amWf_cons d).1 hm
    have ih := amWf_filter p m h3
    by_cases hp : p (a, w) = true
    · rw [List.filter_cons_of_pos hp]
      refine (amWf_cons d).2 ⟨h1, ?_, ih⟩
      simp only [amAbove, List.all_eq_true, List.mem_filter, decide_eq_true_eq] at h2 ⊢
      exact fun e he => h2 e he.1
    · rw [List.filter_cons_of_neg hp]; exact ih

/-! ### Byte memories -/

theorem putBytes_wf (b : Byte) : ∀ (bs : List Byte) (m : List (Nat × Byte)) (a : Nat),
    Memory.wf b m = true → Memory.wf b (putBytes b m a bs) = true
  | [], _, _, h => h
  | x :: bs, m, a, h => by
    unfold putBytes
    exact putBytes_wf b bs _ _ (amWf_amSet _ m a x h)

/-- A byte outside those written reads as before. -/
theorem byteAt_putBytes_out (b : Byte) : ∀ (bs : List Byte) (m : List (Nat × Byte)) (a j : Nat),
    (j < a ∨ a + bs.length ≤ j) → byteAt b (putBytes b m a bs) j = byteAt b m j
  | [], _, _, _, _ => rfl
  | x :: bs, m, a, j, h => by
    have hl : (x :: bs).length = bs.length + 1 := rfl
    unfold putBytes
    rw [byteAt_putBytes_out b bs _ _ _ (by omega), byteAt, amGet_amSet, byteAt]
    rw [if_neg (by omega)]

/-- A byte that was written reads as written. -/
theorem byteAt_putBytes_in (b : Byte) : ∀ (bs : List Byte) (m : List (Nat × Byte)) (a i : Nat) (h : i < bs.length),
    byteAt b (putBytes b m a bs) (a + i) = bs[i]
  | [], _, _, i, h => absurd h (by simp)
  | x :: bs, m, a, 0, _ => by
    unfold putBytes
    rw [byteAt_putBytes_out b bs _ _ _ (by omega), byteAt, amGet_amSet]
    simp
  | x :: bs, m, a, i + 1, h => by
    unfold putBytes
    have hi : i < bs.length := by simpa using h
    have := byteAt_putBytes_in b bs (amSet (fun _ => b) m a x) (a + 1) i hi
    rw [show a + (i + 1) = a + 1 + i by omega, this]
    simp

theorem norProgram_wf (m : List (Nat × Byte)) (a : Nat) (bs : List Byte) (h : Memory.wf 0xFF m = true) :
    Memory.wf 0xFF (norProgram m a bs) = true := putBytes_wf 0xFF _ m a h

theorem norErase_wf (m : List (Nat × Byte)) (a n : Nat) (h : Memory.wf 0xFF m = true) :
    Memory.wf 0xFF (norErase m a n) = true := amWf_filter _ _ m h

end Sys2Proof.Machine
end

