-- ==== Sys2Proof/Laws/State.lean ====
section
/-!
SUPPORT. State: what a register or field reads as after a write, and the fields of State that each update leaves alone.
-/

namespace Sys2Proof.Machine

open Sys2Proof

/-! ### Registers and fields -/

theorem rd_wr (s : State) (a : Nat) (v : Word) (b : Nat) : (s.wr a v).rd b = if b = a then v else s.rd b :=
  amGet_amSet regReset s.crs a v b

@[simp] theorem rd_wr_same (s : State) (a : Nat) (v : Word) : (s.wr a v).rd a = v := by simp [rd_wr]

theorem rd_wr_ne (s : State) {a b : Nat} (v : Word) (h : b ≠ a) : (s.wr a v).rd b = s.rd b := by simp [rd_wr, h]

/-- The bits that `putBits` puts. -/
theorem bitsOf_putBits (n lo w x : Nat) : bitsOf (putBits n lo w x) lo w = x % 2 ^ w := by
  have h1 : n / 2 ^ (lo + w) * 2 ^ (lo + w) + x % 2 ^ w * 2 ^ lo + n % 2 ^ lo
      = n % 2 ^ lo + 2 ^ lo * (n / 2 ^ (lo + w) * 2 ^ w + x % 2 ^ w) := by
    rw [Nat.pow_add]; ring
  unfold bitsOf putBits
  rw [h1, Nat.add_mul_div_left _ _ (Nat.two_pow_pos lo), Nat.div_eq_of_lt (Nat.mod_lt _ (Nat.two_pow_pos lo)), Nat.zero_add]
  rw [Nat.add_mod, Nat.mul_mod_left, Nat.zero_add, Nat.mod_mod, Nat.mod_mod]

/-- What `putBits` makes still fits 32 bits. -/
theorem putBits_lt (n lo w x : Nat) (hn : n < 2 ^ 32) (h : lo + w ≤ 32) : putBits n lo w x < 2 ^ 32 := by
  have e : (2 : Nat) ^ 32 = 2 ^ (lo + w) * 2 ^ (32 - (lo + w)) := by rw [← Nat.pow_add]; congr 1; omega
  have h1 : n / 2 ^ (lo + w) < 2 ^ (32 - (lo + w)) := Nat.div_lt_of_lt_mul (by rw [← e]; exact hn)
  have h2 : x % 2 ^ w * 2 ^ lo + n % 2 ^ lo < 2 ^ (lo + w) := by
    have a1 : x % 2 ^ w + 1 ≤ 2 ^ w := Nat.mod_lt _ (Nat.two_pow_pos w)
    have a2 : n % 2 ^ lo < 2 ^ lo := Nat.mod_lt _ (Nat.two_pow_pos lo)
    have a3 : (x % 2 ^ w + 1) * 2 ^ lo ≤ 2 ^ w * 2 ^ lo := Nat.mul_le_mul_right _ a1
    rw [Nat.pow_add, Nat.mul_comm (2 ^ lo)]
    rw [Nat.add_mul, Nat.one_mul] at a3
    omega
  have h3 : (n / 2 ^ (lo + w) + 1) * 2 ^ (lo + w) ≤ 2 ^ (32 - (lo + w)) * 2 ^ (lo + w) := Nat.mul_le_mul_right _ h1
  rw [Nat.mul_comm (2 ^ (32 - (lo + w))), ← e, Nat.add_mul, Nat.one_mul] at h3
  unfold putBits
  omega

/-- A field reads as it was set, in its width. -/
theorem get_set_same (s : State) (f : Fld) (x : Nat) (h1 : f.lo ≤ f.hi) (h2 : f.hi < 32) :
    (s.set f x).get f = x % 2 ^ f.width := by
  have hw : f.lo + f.width ≤ 32 := by unfold Fld.width; omega
  unfold State.get State.set
  rw [rd_wr_same, BitVec.toNat_ofNat, Nat.mod_eq_of_lt (putBits_lt _ _ _ _ (s.rd f.addr).isLt hw), bitsOf_putBits]

/-- A field of another register reads as before. -/
theorem get_set_ne (s : State) (f g : Fld) (x : Nat) (h : g.addr ≠ f.addr) : (s.set f x).get g = s.get g := by
  unfold State.get State.set
  rw [rd_wr_ne _ _ h]

theorem rd_set_ne (s : State) (f : Fld) (x : Nat) {b : Nat} (h : b ≠ f.addr) : (s.set f x).rd b = s.rd b := rd_wr_ne _ _ h

/-! ### Updates, field by field -/

@[simp] theorem State.wr_now (s : State) (a : Nat) (v : Word) : (s.wr a v).now = s.now := rfl
@[simp] theorem State.wr_free (s : State) (a : Nat) (v : Word) : (s.wr a v).free = s.free := rfl
@[simp] theorem State.wr_hold (s : State) (a : Nat) (v : Word) : (s.wr a v).hold = s.hold := rfl
@[simp] theorem State.wr_rdOut (s : State) (a : Nat) (v : Word) : (s.wr a v).rdOut = s.rdOut := rfl
@[simp] theorem State.wr_tbDrift (s : State) (a : Nat) (v : Word) : (s.wr a v).tbDrift = s.tbDrift := rfl
@[simp] theorem State.wr_tieLast (s : State) (a : Nat) (v : Word) : (s.wr a v).tieLast = s.tieLast := rfl
@[simp] theorem State.wr_flt (s : State) (a : Nat) (v : Word) : (s.wr a v).flt = s.flt := rfl
@[simp] theorem State.wr_ldg (s : State) (a : Nat) (v : Word) : (s.wr a v).ldg = s.ldg := rfl
@[simp] theorem State.wr_nor (s : State) (a : Nat) (v : Word) : (s.wr a v).nor = s.nor := rfl
@[simp] theorem State.wr_mem (s : State) (a : Nat) (v : Word) : (s.wr a v).mem = s.mem := rfl
@[simp] theorem State.wr_ms (s : State) (a : Nat) (v : Word) : (s.wr a v).ms = s.ms := rfl
@[simp] theorem State.wr_dep (s : State) (a : Nat) (v : Word) : (s.wr a v).dep = s.dep := rfl
@[simp] theorem State.wr_cvyEng (s : State) (a : Nat) (v : Word) : (s.wr a v).cvyEng = s.cvyEng := rfl
@[simp] theorem State.wr_cvyChan (s : State) (a : Nat) (v : Word) : (s.wr a v).cvyChan = s.cvyChan := rfl
@[simp] theorem State.wr_dataMem (s : State) (a : Nat) (v : Word) : (s.wr a v).dataMem = s.dataMem := rfl
@[simp] theorem State.wr_rte (s : State) (a : Nat) (v : Word) : (s.wr a v).rte = s.rte := rfl
@[simp] theorem State.wr_comp (s : State) (a : Nat) (v : Word) : (s.wr a v).comp = s.comp := rfl
@[simp] theorem State.wr_decomp (s : State) (a : Nat) (v : Word) : (s.wr a v).decomp = s.decomp := rfl
@[simp] theorem State.wr_heads (s : State) (a : Nat) (v : Word) : (s.wr a v).heads = s.heads := rfl
@[simp] theorem State.wr_ioTodo (s : State) (a : Nat) (v : Word) : (s.wr a v).ioTodo = s.ioTodo := rfl
@[simp] theorem State.wr_grown (s : State) (a : Nat) (v : Word) : (s.wr a v).grown = s.grown := rfl
@[simp] theorem State.wr_rdPool (s : State) (a : Nat) (v : Word) : (s.wr a v).rdPool = s.rdPool := rfl
@[simp] theorem State.wr_dlk (s : State) (a : Nat) (v : Word) : (s.wr a v).dlk = s.dlk := rfl
@[simp] theorem State.wr_fTether (s : State) (a : Nat) (v : Word) : (s.wr a v).fTether = s.fTether := rfl
@[simp] theorem State.wr_srv (s : State) (a : Nat) (v : Word) : (s.wr a v).srv = s.srv := rfl
@[simp] theorem State.wr_cle (s : State) (a : Nat) (v : Word) : (s.wr a v).cle = s.cle := rfl
@[simp] theorem State.wr_spn (s : State) (a : Nat) (v : Word) : (s.wr a v).spn = s.spn := rfl
@[simp] theorem State.wr_tth (s : State) (a : Nat) (v : Word) : (s.wr a v).tth = s.tth := rfl
@[simp] theorem State.wr_seqs (s : State) (a : Nat) (v : Word) : (s.wr a v).seqs = s.seqs := rfl
@[simp] theorem State.wr_hif (s : State) (a : Nat) (v : Word) : (s.wr a v).hif = s.hif := rfl
@[simp] theorem State.wr_sys (s : State) (a : Nat) (v : Word) : (s.wr a v).sys = s.sys := rfl
@[simp] theorem State.wr_sec (s : State) (a : Nat) (v : Word) : (s.wr a v).sec = s.sec := rfl
@[simp] theorem State.wr_lost (s : State) (a : Nat) (v : Word) : (s.wr a v).lost = s.lost := rfl
@[simp] theorem State.wr_pending (s : State) (a : Nat) (v : Word) : (s.wr a v).pending = s.pending := rfl
@[simp] theorem State.set_now (s : State) (f : Fld) (x : Nat) : (s.set f x).now = s.now := rfl
@[simp] theorem State.set_free (s : State) (f : Fld) (x : Nat) : (s.set f x).free = s.free := rfl
@[simp] theorem State.set_hold (s : State) (f : Fld) (x : Nat) : (s.set f x).hold = s.hold := rfl
@[simp] theorem State.set_rdOut (s : State) (f : Fld) (x : Nat) : (s.set f x).rdOut = s.rdOut := rfl
@[simp] theorem State.set_tbDrift (s : State) (f : Fld) (x : Nat) : (s.set f x).tbDrift = s.tbDrift := rfl
@[simp] theorem State.set_tieLast (s : State) (f : Fld) (x : Nat) : (s.set f x).tieLast = s.tieLast := rfl
@[simp] theorem State.set_flt (s : State) (f : Fld) (x : Nat) : (s.set f x).flt = s.flt := rfl
@[simp] theorem State.set_ldg (s : State) (f : Fld) (x : Nat) : (s.set f x).ldg = s.ldg := rfl
@[simp] theorem State.set_nor (s : State) (f : Fld) (x : Nat) : (s.set f x).nor = s.nor := rfl
@[simp] theorem State.set_mem (s : State) (f : Fld) (x : Nat) : (s.set f x).mem = s.mem := rfl
@[simp] theorem State.set_ms (s : State) (f : Fld) (x : Nat) : (s.set f x).ms = s.ms := rfl
@[simp] theorem State.set_dep (s : State) (f : Fld) (x : Nat) : (s.set f x).dep = s.dep := rfl
@[simp] theorem State.set_cvyEng (s : State) (f : Fld) (x : Nat) : (s.set f x).cvyEng = s.cvyEng := rfl
@[simp] theorem State.set_cvyChan (s : State) (f : Fld) (x : Nat) : (s.set f x).cvyChan = s.cvyChan := rfl
@[simp] theorem State.set_dataMem (s : State) (f : Fld) (x : Nat) : (s.set f x).dataMem = s.dataMem := rfl
@[simp] theorem State.set_rte (s : State) (f : Fld) (x : Nat) : (s.set f x).rte = s.rte := rfl
@[simp] theorem State.set_comp (s : State) (f : Fld) (x : Nat) : (s.set f x).comp = s.comp := rfl
@[simp] theorem State.set_decomp (s : State) (f : Fld) (x : Nat) : (s.set f x).decomp = s.decomp := rfl
@[simp] theorem State.set_heads (s : State) (f : Fld) (x : Nat) : (s.set f x).heads = s.heads := rfl
@[simp] theorem State.set_ioTodo (s : State) (f : Fld) (x : Nat) : (s.set f x).ioTodo = s.ioTodo := rfl
@[simp] theorem State.set_grown (s : State) (f : Fld) (x : Nat) : (s.set f x).grown = s.grown := rfl
@[simp] theorem State.set_rdPool (s : State) (f : Fld) (x : Nat) : (s.set f x).rdPool = s.rdPool := rfl
@[simp] theorem State.set_dlk (s : State) (f : Fld) (x : Nat) : (s.set f x).dlk = s.dlk := rfl
@[simp] theorem State.set_fTether (s : State) (f : Fld) (x : Nat) : (s.set f x).fTether = s.fTether := rfl
@[simp] theorem State.set_srv (s : State) (f : Fld) (x : Nat) : (s.set f x).srv = s.srv := rfl
@[simp] theorem State.set_cle (s : State) (f : Fld) (x : Nat) : (s.set f x).cle = s.cle := rfl
@[simp] theorem State.set_spn (s : State) (f : Fld) (x : Nat) : (s.set f x).spn = s.spn := rfl
@[simp] theorem State.set_tth (s : State) (f : Fld) (x : Nat) : (s.set f x).tth = s.tth := rfl
@[simp] theorem State.set_seqs (s : State) (f : Fld) (x : Nat) : (s.set f x).seqs = s.seqs := rfl
@[simp] theorem State.set_hif (s : State) (f : Fld) (x : Nat) : (s.set f x).hif = s.hif := rfl
@[simp] theorem State.set_sys (s : State) (f : Fld) (x : Nat) : (s.set f x).sys = s.sys := rfl
@[simp] theorem State.set_sec (s : State) (f : Fld) (x : Nat) : (s.set f x).sec = s.sec := rfl
@[simp] theorem State.set_lost (s : State) (f : Fld) (x : Nat) : (s.set f x).lost = s.lost := rfl
@[simp] theorem State.set_pending (s : State) (f : Fld) (x : Nat) : (s.set f x).pending = s.pending := rfl
@[simp] theorem State.setFlag_now (s : State) (f : Fld) (b : Bool) : (s.setFlag f b).now = s.now := rfl
@[simp] theorem State.setFlag_free (s : State) (f : Fld) (b : Bool) : (s.setFlag f b).free = s.free := rfl
@[simp] theorem State.setFlag_hold (s : State) (f : Fld) (b : Bool) : (s.setFlag f b).hold = s.hold := rfl
@[simp] theorem State.setFlag_rdOut (s : State) (f : Fld) (b : Bool) : (s.setFlag f b).rdOut = s.rdOut := rfl
@[simp] theorem State.setFlag_tbDrift (s : State) (f : Fld) (b : Bool) : (s.setFlag f b).tbDrift = s.tbDrift := rfl
@[simp] theorem State.setFlag_tieLast (s : State) (f : Fld) (b : Bool) : (s.setFlag f b).tieLast = s.tieLast := rfl
@[simp] theorem State.setFlag_flt (s : State) (f : Fld) (b : Bool) : (s.setFlag f b).flt = s.flt := rfl
@[simp] theorem State.setFlag_ldg (s : State) (f : Fld) (b : Bool) : (s.setFlag f b).ldg = s.ldg := rfl
@[simp] theorem State.setFlag_nor (s : State) (f : Fld) (b : Bool) : (s.setFlag f b).nor = s.nor := rfl
@[simp] theorem State.setFlag_mem (s : State) (f : Fld) (b : Bool) : (s.setFlag f b).mem = s.mem := rfl
@[simp] theorem State.setFlag_ms (s : State) (f : Fld) (b : Bool) : (s.setFlag f b).ms = s.ms := rfl
@[simp] theorem State.setFlag_dep (s : State) (f : Fld) (b : Bool) : (s.setFlag f b).dep = s.dep := rfl
@[simp] theorem State.setFlag_cvyEng (s : State) (f : Fld) (b : Bool) : (s.setFlag f b).cvyEng = s.cvyEng := rfl
@[simp] theorem State.setFlag_cvyChan (s : State) (f : Fld) (b : Bool) : (s.setFlag f b).cvyChan = s.cvyChan := rfl
@[simp] theorem State.setFlag_dataMem (s : State) (f : Fld) (b : Bool) : (s.setFlag f b).dataMem = s.dataMem := rfl
@[simp] theorem State.setFlag_rte (s : State) (f : Fld) (b : Bool) : (s.setFlag f b).rte = s.rte := rfl
@[simp] theorem State.setFlag_comp (s : State) (f : Fld) (b : Bool) : (s.setFlag f b).comp = s.comp := rfl
@[simp] theorem State.setFlag_decomp (s : State) (f : Fld) (b : Bool) : (s.setFlag f b).decomp = s.decomp := rfl
@[simp] theorem State.setFlag_heads (s : State) (f : Fld) (b : Bool) : (s.setFlag f b).heads = s.heads := rfl
@[simp] theorem State.setFlag_ioTodo (s : State) (f : Fld) (b : Bool) : (s.setFlag f b).ioTodo = s.ioTodo := rfl
@[simp] theorem State.setFlag_grown (s : State) (f : Fld) (b : Bool) : (s.setFlag f b).grown = s.grown := rfl
@[simp] theorem State.setFlag_rdPool (s : State) (f : Fld) (b : Bool) : (s.setFlag f b).rdPool = s.rdPool := rfl
@[simp] theorem State.setFlag_dlk (s : State) (f : Fld) (b : Bool) : (s.setFlag f b).dlk = s.dlk := rfl
@[simp] theorem State.setFlag_fTether (s : State) (f : Fld) (b : Bool) : (s.setFlag f b).fTether = s.fTether := rfl
@[simp] theorem State.setFlag_srv (s : State) (f : Fld) (b : Bool) : (s.setFlag f b).srv = s.srv := rfl
@[simp] theorem State.setFlag_cle (s : State) (f : Fld) (b : Bool) : (s.setFlag f b).cle = s.cle := rfl
@[simp] theorem State.setFlag_spn (s : State) (f : Fld) (b : Bool) : (s.setFlag f b).spn = s.spn := rfl
@[simp] theorem State.setFlag_tth (s : State) (f : Fld) (b : Bool) : (s.setFlag f b).tth = s.tth := rfl
@[simp] theorem State.setFlag_seqs (s : State) (f : Fld) (b : Bool) : (s.setFlag f b).seqs = s.seqs := rfl
@[simp] theorem State.setFlag_hif (s : State) (f : Fld) (b : Bool) : (s.setFlag f b).hif = s.hif := rfl
@[simp] theorem State.setFlag_sys (s : State) (f : Fld) (b : Bool) : (s.setFlag f b).sys = s.sys := rfl
@[simp] theorem State.setFlag_sec (s : State) (f : Fld) (b : Bool) : (s.setFlag f b).sec = s.sec := rfl
@[simp] theorem State.setFlag_lost (s : State) (f : Fld) (b : Bool) : (s.setFlag f b).lost = s.lost := rfl
@[simp] theorem State.setFlag_pending (s : State) (f : Fld) (b : Bool) : (s.setFlag f b).pending = s.pending := rfl
@[simp] theorem State.setInt_now (s : State) (f : Fld) (x : Int) : (s.setInt f x).now = s.now := rfl
@[simp] theorem State.setInt_free (s : State) (f : Fld) (x : Int) : (s.setInt f x).free = s.free := rfl
@[simp] theorem State.setInt_hold (s : State) (f : Fld) (x : Int) : (s.setInt f x).hold = s.hold := rfl
@[simp] theorem State.setInt_rdOut (s : State) (f : Fld) (x : Int) : (s.setInt f x).rdOut = s.rdOut := rfl
@[simp] theorem State.setInt_tbDrift (s : State) (f : Fld) (x : Int) : (s.setInt f x).tbDrift = s.tbDrift := rfl
@[simp] theorem State.setInt_tieLast (s : State) (f : Fld) (x : Int) : (s.setInt f x).tieLast = s.tieLast := rfl
@[simp] theorem State.setInt_flt (s : State) (f : Fld) (x : Int) : (s.setInt f x).flt = s.flt := rfl
@[simp] theorem State.setInt_ldg (s : State) (f : Fld) (x : Int) : (s.setInt f x).ldg = s.ldg := rfl
@[simp] theorem State.setInt_nor (s : State) (f : Fld) (x : Int) : (s.setInt f x).nor = s.nor := rfl
@[simp] theorem State.setInt_mem (s : State) (f : Fld) (x : Int) : (s.setInt f x).mem = s.mem := rfl
@[simp] theorem State.setInt_ms (s : State) (f : Fld) (x : Int) : (s.setInt f x).ms = s.ms := rfl
@[simp] theorem State.setInt_dep (s : State) (f : Fld) (x : Int) : (s.setInt f x).dep = s.dep := rfl
@[simp] theorem State.setInt_cvyEng (s : State) (f : Fld) (x : Int) : (s.setInt f x).cvyEng = s.cvyEng := rfl
@[simp] theorem State.setInt_cvyChan (s : State) (f : Fld) (x : Int) : (s.setInt f x).cvyChan = s.cvyChan := rfl
@[simp] theorem State.setInt_dataMem (s : State) (f : Fld) (x : Int) : (s.setInt f x).dataMem = s.dataMem := rfl
@[simp] theorem State.setInt_rte (s : State) (f : Fld) (x : Int) : (s.setInt f x).rte = s.rte := rfl
@[simp] theorem State.setInt_comp (s : State) (f : Fld) (x : Int) : (s.setInt f x).comp = s.comp := rfl
@[simp] theorem State.setInt_decomp (s : State) (f : Fld) (x : Int) : (s.setInt f x).decomp = s.decomp := rfl
@[simp] theorem State.setInt_heads (s : State) (f : Fld) (x : Int) : (s.setInt f x).heads = s.heads := rfl
@[simp] theorem State.setInt_ioTodo (s : State) (f : Fld) (x : Int) : (s.setInt f x).ioTodo = s.ioTodo := rfl
@[simp] theorem State.setInt_grown (s : State) (f : Fld) (x : Int) : (s.setInt f x).grown = s.grown := rfl
@[simp] theorem State.setInt_rdPool (s : State) (f : Fld) (x : Int) : (s.setInt f x).rdPool = s.rdPool := rfl
@[simp] theorem State.setInt_dlk (s : State) (f : Fld) (x : Int) : (s.setInt f x).dlk = s.dlk := rfl
@[simp] theorem State.setInt_fTether (s : State) (f : Fld) (x : Int) : (s.setInt f x).fTether = s.fTether := rfl
@[simp] theorem State.setInt_srv (s : State) (f : Fld) (x : Int) : (s.setInt f x).srv = s.srv := rfl
@[simp] theorem State.setInt_cle (s : State) (f : Fld) (x : Int) : (s.setInt f x).cle = s.cle := rfl
@[simp] theorem State.setInt_spn (s : State) (f : Fld) (x : Int) : (s.setInt f x).spn = s.spn := rfl
@[simp] theorem State.setInt_tth (s : State) (f : Fld) (x : Int) : (s.setInt f x).tth = s.tth := rfl
@[simp] theorem State.setInt_seqs (s : State) (f : Fld) (x : Int) : (s.setInt f x).seqs = s.seqs := rfl
@[simp] theorem State.setInt_hif (s : State) (f : Fld) (x : Int) : (s.setInt f x).hif = s.hif := rfl
@[simp] theorem State.setInt_sys (s : State) (f : Fld) (x : Int) : (s.setInt f x).sys = s.sys := rfl
@[simp] theorem State.setInt_sec (s : State) (f : Fld) (x : Int) : (s.setInt f x).sec = s.sec := rfl
@[simp] theorem State.setInt_lost (s : State) (f : Fld) (x : Int) : (s.setInt f x).lost = s.lost := rfl
@[simp] theorem State.setInt_pending (s : State) (f : Fld) (x : Int) : (s.setInt f x).pending = s.pending := rfl
@[simp] theorem State.modFlt_now (s : State) (g : FltSt → FltSt) : (s.modFlt g).now = s.now := rfl
@[simp] theorem State.modFlt_free (s : State) (g : FltSt → FltSt) : (s.modFlt g).free = s.free := rfl
@[simp] theorem State.modFlt_crs (s : State) (g : FltSt → FltSt) : (s.modFlt g).crs = s.crs := rfl
@[simp] theorem State.modFlt_hold (s : State) (g : FltSt → FltSt) : (s.modFlt g).hold = s.hold := rfl
@[simp] theorem State.modFlt_rdOut (s : State) (g : FltSt → FltSt) : (s.modFlt g).rdOut = s.rdOut := rfl
@[simp] theorem State.modFlt_tbDrift (s : State) (g : FltSt → FltSt) : (s.modFlt g).tbDrift = s.tbDrift := rfl
@[simp] theorem State.modFlt_tieLast (s : State) (g : FltSt → FltSt) : (s.modFlt g).tieLast = s.tieLast := rfl
@[simp] theorem State.modFlt_flt (s : State) (g : FltSt → FltSt) : (s.modFlt g).flt = g s.flt := rfl
@[simp] theorem State.modFlt_ldg (s : State) (g : FltSt → FltSt) : (s.modFlt g).ldg = s.ldg := rfl
@[simp] theorem State.modFlt_nor (s : State) (g : FltSt → FltSt) : (s.modFlt g).nor = s.nor := rfl
@[simp] theorem State.modFlt_mem (s : State) (g : FltSt → FltSt) : (s.modFlt g).mem = s.mem := rfl
@[simp] theorem State.modFlt_ms (s : State) (g : FltSt → FltSt) : (s.modFlt g).ms = s.ms := rfl
@[simp] theorem State.modFlt_dep (s : State) (g : FltSt → FltSt) : (s.modFlt g).dep = s.dep := rfl
@[simp] theorem State.modFlt_cvyEng (s : State) (g : FltSt → FltSt) : (s.modFlt g).cvyEng = s.cvyEng := rfl
@[simp] theorem State.modFlt_cvyChan (s : State) (g : FltSt → FltSt) : (s.modFlt g).cvyChan = s.cvyChan := rfl
@[simp] theorem State.modFlt_dataMem (s : State) (g : FltSt → FltSt) : (s.modFlt g).dataMem = s.dataMem := rfl
@[simp] theorem State.modFlt_rte (s : State) (g : FltSt → FltSt) : (s.modFlt g).rte = s.rte := rfl
@[simp] theorem State.modFlt_comp (s : State) (g : FltSt → FltSt) : (s.modFlt g).comp = s.comp := rfl
@[simp] theorem State.modFlt_decomp (s : State) (g : FltSt → FltSt) : (s.modFlt g).decomp = s.decomp := rfl
@[simp] theorem State.modFlt_heads (s : State) (g : FltSt → FltSt) : (s.modFlt g).heads = s.heads := rfl
@[simp] theorem State.modFlt_ioTodo (s : State) (g : FltSt → FltSt) : (s.modFlt g).ioTodo = s.ioTodo := rfl
@[simp] theorem State.modFlt_grown (s : State) (g : FltSt → FltSt) : (s.modFlt g).grown = s.grown := rfl
@[simp] theorem State.modFlt_rdPool (s : State) (g : FltSt → FltSt) : (s.modFlt g).rdPool = s.rdPool := rfl
@[simp] theorem State.modFlt_dlk (s : State) (g : FltSt → FltSt) : (s.modFlt g).dlk = s.dlk := rfl
@[simp] theorem State.modFlt_fTether (s : State) (g : FltSt → FltSt) : (s.modFlt g).fTether = s.fTether := rfl
@[simp] theorem State.modFlt_srv (s : State) (g : FltSt → FltSt) : (s.modFlt g).srv = s.srv := rfl
@[simp] theorem State.modFlt_cle (s : State) (g : FltSt → FltSt) : (s.modFlt g).cle = s.cle := rfl
@[simp] theorem State.modFlt_spn (s : State) (g : FltSt → FltSt) : (s.modFlt g).spn = s.spn := rfl
@[simp] theorem State.modFlt_tth (s : State) (g : FltSt → FltSt) : (s.modFlt g).tth = s.tth := rfl
@[simp] theorem State.modFlt_seqs (s : State) (g : FltSt → FltSt) : (s.modFlt g).seqs = s.seqs := rfl
@[simp] theorem State.modFlt_hif (s : State) (g : FltSt → FltSt) : (s.modFlt g).hif = s.hif := rfl
@[simp] theorem State.modFlt_sys (s : State) (g : FltSt → FltSt) : (s.modFlt g).sys = s.sys := rfl
@[simp] theorem State.modFlt_sec (s : State) (g : FltSt → FltSt) : (s.modFlt g).sec = s.sec := rfl
@[simp] theorem State.modFlt_lost (s : State) (g : FltSt → FltSt) : (s.modFlt g).lost = s.lost := rfl
@[simp] theorem State.modFlt_pending (s : State) (g : FltSt → FltSt) : (s.modFlt g).pending = s.pending := rfl
@[simp] theorem State.modHif_now (s : State) (g : HifSt → HifSt) : (s.modHif g).now = s.now := rfl
@[simp] theorem State.modHif_free (s : State) (g : HifSt → HifSt) : (s.modHif g).free = s.free := rfl
@[simp] theorem State.modHif_crs (s : State) (g : HifSt → HifSt) : (s.modHif g).crs = s.crs := rfl
@[simp] theorem State.modHif_hold (s : State) (g : HifSt → HifSt) : (s.modHif g).hold = s.hold := rfl
@[simp] theorem State.modHif_rdOut (s : State) (g : HifSt → HifSt) : (s.modHif g).rdOut = s.rdOut := rfl
@[simp] theorem State.modHif_tbDrift (s : State) (g : HifSt → HifSt) : (s.modHif g).tbDrift = s.tbDrift := rfl
@[simp] theorem State.modHif_tieLast (s : State) (g : HifSt → HifSt) : (s.modHif g).tieLast = s.tieLast := rfl
@[simp] theorem State.modHif_flt (s : State) (g : HifSt → HifSt) : (s.modHif g).flt = s.flt := rfl
@[simp] theorem State.modHif_ldg (s : State) (g : HifSt → HifSt) : (s.modHif g).ldg = s.ldg := rfl
@[simp] theorem State.modHif_nor (s : State) (g : HifSt → HifSt) : (s.modHif g).nor = s.nor := rfl
@[simp] theorem State.modHif_mem (s : State) (g : HifSt → HifSt) : (s.modHif g).mem = s.mem := rfl
@[simp] theorem State.modHif_ms (s : State) (g : HifSt → HifSt) : (s.modHif g).ms = s.ms := rfl
@[simp] theorem State.modHif_dep (s : State) (g : HifSt → HifSt) : (s.modHif g).dep = s.dep := rfl
@[simp] theorem State.modHif_cvyEng (s : State) (g : HifSt → HifSt) : (s.modHif g).cvyEng = s.cvyEng := rfl
@[simp] theorem State.modHif_cvyChan (s : State) (g : HifSt → HifSt) : (s.modHif g).cvyChan = s.cvyChan := rfl
@[simp] theorem State.modHif_dataMem (s : State) (g : HifSt → HifSt) : (s.modHif g).dataMem = s.dataMem := rfl
@[simp] theorem State.modHif_rte (s : State) (g : HifSt → HifSt) : (s.modHif g).rte = s.rte := rfl
@[simp] theorem State.modHif_comp (s : State) (g : HifSt → HifSt) : (s.modHif g).comp = s.comp := rfl
@[simp] theorem State.modHif_decomp (s : State) (g : HifSt → HifSt) : (s.modHif g).decomp = s.decomp := rfl
@[simp] theorem State.modHif_heads (s : State) (g : HifSt → HifSt) : (s.modHif g).heads = s.heads := rfl
@[simp] theorem State.modHif_ioTodo (s : State) (g : HifSt → HifSt) : (s.modHif g).ioTodo = s.ioTodo := rfl
@[simp] theorem State.modHif_grown (s : State) (g : HifSt → HifSt) : (s.modHif g).grown = s.grown := rfl
@[simp] theorem State.modHif_rdPool (s : State) (g : HifSt → HifSt) : (s.modHif g).rdPool = s.rdPool := rfl
@[simp] theorem State.modHif_dlk (s : State) (g : HifSt → HifSt) : (s.modHif g).dlk = s.dlk := rfl
@[simp] theorem State.modHif_fTether (s : State) (g : HifSt → HifSt) : (s.modHif g).fTether = s.fTether := rfl
@[simp] theorem State.modHif_srv (s : State) (g : HifSt → HifSt) : (s.modHif g).srv = s.srv := rfl
@[simp] theorem State.modHif_cle (s : State) (g : HifSt → HifSt) : (s.modHif g).cle = s.cle := rfl
@[simp] theorem State.modHif_spn (s : State) (g : HifSt → HifSt) : (s.modHif g).spn = s.spn := rfl
@[simp] theorem State.modHif_tth (s : State) (g : HifSt → HifSt) : (s.modHif g).tth = s.tth := rfl
@[simp] theorem State.modHif_seqs (s : State) (g : HifSt → HifSt) : (s.modHif g).seqs = s.seqs := rfl
@[simp] theorem State.modHif_hif (s : State) (g : HifSt → HifSt) : (s.modHif g).hif = g s.hif := rfl
@[simp] theorem State.modHif_sys (s : State) (g : HifSt → HifSt) : (s.modHif g).sys = s.sys := rfl
@[simp] theorem State.modHif_sec (s : State) (g : HifSt → HifSt) : (s.modHif g).sec = s.sec := rfl
@[simp] theorem State.modHif_lost (s : State) (g : HifSt → HifSt) : (s.modHif g).lost = s.lost := rfl
@[simp] theorem State.modHif_pending (s : State) (g : HifSt → HifSt) : (s.modHif g).pending = s.pending := rfl
@[simp] theorem State.modSys_now (s : State) (g : SysSt → SysSt) : (s.modSys g).now = s.now := rfl
@[simp] theorem State.modSys_free (s : State) (g : SysSt → SysSt) : (s.modSys g).free = s.free := rfl
@[simp] theorem State.modSys_crs (s : State) (g : SysSt → SysSt) : (s.modSys g).crs = s.crs := rfl
@[simp] theorem State.modSys_hold (s : State) (g : SysSt → SysSt) : (s.modSys g).hold = s.hold := rfl
@[simp] theorem State.modSys_rdOut (s : State) (g : SysSt → SysSt) : (s.modSys g).rdOut = s.rdOut := rfl
@[simp] theorem State.modSys_tbDrift (s : State) (g : SysSt → SysSt) : (s.modSys g).tbDrift = s.tbDrift := rfl
@[simp] theorem State.modSys_tieLast (s : State) (g : SysSt → SysSt) : (s.modSys g).tieLast = s.tieLast := rfl
@[simp] theorem State.modSys_flt (s : State) (g : SysSt → SysSt) : (s.modSys g).flt = s.flt := rfl
@[simp] theorem State.modSys_ldg (s : State) (g : SysSt → SysSt) : (s.modSys g).ldg = s.ldg := rfl
@[simp] theorem State.modSys_nor (s : State) (g : SysSt → SysSt) : (s.modSys g).nor = s.nor := rfl
@[simp] theorem State.modSys_mem (s : State) (g : SysSt → SysSt) : (s.modSys g).mem = s.mem := rfl
@[simp] theorem State.modSys_ms (s : State) (g : SysSt → SysSt) : (s.modSys g).ms = s.ms := rfl
@[simp] theorem State.modSys_dep (s : State) (g : SysSt → SysSt) : (s.modSys g).dep = s.dep := rfl
@[simp] theorem State.modSys_cvyEng (s : State) (g : SysSt → SysSt) : (s.modSys g).cvyEng = s.cvyEng := rfl
@[simp] theorem State.modSys_cvyChan (s : State) (g : SysSt → SysSt) : (s.modSys g).cvyChan = s.cvyChan := rfl
@[simp] theorem State.modSys_dataMem (s : State) (g : SysSt → SysSt) : (s.modSys g).dataMem = s.dataMem := rfl
@[simp] theorem State.modSys_rte (s : State) (g : SysSt → SysSt) : (s.modSys g).rte = s.rte := rfl
@[simp] theorem State.modSys_comp (s : State) (g : SysSt → SysSt) : (s.modSys g).comp = s.comp := rfl
@[simp] theorem State.modSys_decomp (s : State) (g : SysSt → SysSt) : (s.modSys g).decomp = s.decomp := rfl
@[simp] theorem State.modSys_heads (s : State) (g : SysSt → SysSt) : (s.modSys g).heads = s.heads := rfl
@[simp] theorem State.modSys_ioTodo (s : State) (g : SysSt → SysSt) : (s.modSys g).ioTodo = s.ioTodo := rfl
@[simp] theorem State.modSys_grown (s : State) (g : SysSt → SysSt) : (s.modSys g).grown = s.grown := rfl
@[simp] theorem State.modSys_rdPool (s : State) (g : SysSt → SysSt) : (s.modSys g).rdPool = s.rdPool := rfl
@[simp] theorem State.modSys_dlk (s : State) (g : SysSt → SysSt) : (s.modSys g).dlk = s.dlk := rfl
@[simp] theorem State.modSys_fTether (s : State) (g : SysSt → SysSt) : (s.modSys g).fTether = s.fTether := rfl
@[simp] theorem State.modSys_srv (s : State) (g : SysSt → SysSt) : (s.modSys g).srv = s.srv := rfl
@[simp] theorem State.modSys_cle (s : State) (g : SysSt → SysSt) : (s.modSys g).cle = s.cle := rfl
@[simp] theorem State.modSys_spn (s : State) (g : SysSt → SysSt) : (s.modSys g).spn = s.spn := rfl
@[simp] theorem State.modSys_tth (s : State) (g : SysSt → SysSt) : (s.modSys g).tth = s.tth := rfl
@[simp] theorem State.modSys_seqs (s : State) (g : SysSt → SysSt) : (s.modSys g).seqs = s.seqs := rfl
@[simp] theorem State.modSys_hif (s : State) (g : SysSt → SysSt) : (s.modSys g).hif = s.hif := rfl
@[simp] theorem State.modSys_sys (s : State) (g : SysSt → SysSt) : (s.modSys g).sys = g s.sys := rfl
@[simp] theorem State.modSys_sec (s : State) (g : SysSt → SysSt) : (s.modSys g).sec = s.sec := rfl
@[simp] theorem State.modSys_lost (s : State) (g : SysSt → SysSt) : (s.modSys g).lost = s.lost := rfl
@[simp] theorem State.modSys_pending (s : State) (g : SysSt → SysSt) : (s.modSys g).pending = s.pending := rfl
@[simp] theorem State.modSpn_now (s : State) (g : SpnSt → SpnSt) : (s.modSpn g).now = s.now := rfl
@[simp] theorem State.modSpn_free (s : State) (g : SpnSt → SpnSt) : (s.modSpn g).free = s.free := rfl
@[simp] theorem State.modSpn_crs (s : State) (g : SpnSt → SpnSt) : (s.modSpn g).crs = s.crs := rfl
@[simp] theorem State.modSpn_hold (s : State) (g : SpnSt → SpnSt) : (s.modSpn g).hold = s.hold := rfl
@[simp] theorem State.modSpn_rdOut (s : State) (g : SpnSt → SpnSt) : (s.modSpn g).rdOut = s.rdOut := rfl
@[simp] theorem State.modSpn_tbDrift (s : State) (g : SpnSt → SpnSt) : (s.modSpn g).tbDrift = s.tbDrift := rfl
@[simp] theorem State.modSpn_tieLast (s : State) (g : SpnSt → SpnSt) : (s.modSpn g).tieLast = s.tieLast := rfl
@[simp] theorem State.modSpn_flt (s : State) (g : SpnSt → SpnSt) : (s.modSpn g).flt = s.flt := rfl
@[simp] theorem State.modSpn_ldg (s : State) (g : SpnSt → SpnSt) : (s.modSpn g).ldg = s.ldg := rfl
@[simp] theorem State.modSpn_nor (s : State) (g : SpnSt → SpnSt) : (s.modSpn g).nor = s.nor := rfl
@[simp] theorem State.modSpn_mem (s : State) (g : SpnSt → SpnSt) : (s.modSpn g).mem = s.mem := rfl
@[simp] theorem State.modSpn_ms (s : State) (g : SpnSt → SpnSt) : (s.modSpn g).ms = s.ms := rfl
@[simp] theorem State.modSpn_dep (s : State) (g : SpnSt → SpnSt) : (s.modSpn g).dep = s.dep := rfl
@[simp] theorem State.modSpn_cvyEng (s : State) (g : SpnSt → SpnSt) : (s.modSpn g).cvyEng = s.cvyEng := rfl
@[simp] theorem State.modSpn_cvyChan (s : State) (g : SpnSt → SpnSt) : (s.modSpn g).cvyChan = s.cvyChan := rfl
@[simp] theorem State.modSpn_dataMem (s : State) (g : SpnSt → SpnSt) : (s.modSpn g).dataMem = s.dataMem := rfl
@[simp] theorem State.modSpn_rte (s : State) (g : SpnSt → SpnSt) : (s.modSpn g).rte = s.rte := rfl
@[simp] theorem State.modSpn_comp (s : State) (g : SpnSt → SpnSt) : (s.modSpn g).comp = s.comp := rfl
@[simp] theorem State.modSpn_decomp (s : State) (g : SpnSt → SpnSt) : (s.modSpn g).decomp = s.decomp := rfl
@[simp] theorem State.modSpn_heads (s : State) (g : SpnSt → SpnSt) : (s.modSpn g).heads = s.heads := rfl
@[simp] theorem State.modSpn_ioTodo (s : State) (g : SpnSt → SpnSt) : (s.modSpn g).ioTodo = s.ioTodo := rfl
@[simp] theorem State.modSpn_grown (s : State) (g : SpnSt → SpnSt) : (s.modSpn g).grown = s.grown := rfl
@[simp] theorem State.modSpn_rdPool (s : State) (g : SpnSt → SpnSt) : (s.modSpn g).rdPool = s.rdPool := rfl
@[simp] theorem State.modSpn_dlk (s : State) (g : SpnSt → SpnSt) : (s.modSpn g).dlk = s.dlk := rfl
@[simp] theorem State.modSpn_fTether (s : State) (g : SpnSt → SpnSt) : (s.modSpn g).fTether = s.fTether := rfl
@[simp] theorem State.modSpn_srv (s : State) (g : SpnSt → SpnSt) : (s.modSpn g).srv = s.srv := rfl
@[simp] theorem State.modSpn_cle (s : State) (g : SpnSt → SpnSt) : (s.modSpn g).cle = s.cle := rfl
@[simp] theorem State.modSpn_spn (s : State) (g : SpnSt → SpnSt) : (s.modSpn g).spn = g s.spn := rfl
@[simp] theorem State.modSpn_tth (s : State) (g : SpnSt → SpnSt) : (s.modSpn g).tth = s.tth := rfl
@[simp] theorem State.modSpn_seqs (s : State) (g : SpnSt → SpnSt) : (s.modSpn g).seqs = s.seqs := rfl
@[simp] theorem State.modSpn_hif (s : State) (g : SpnSt → SpnSt) : (s.modSpn g).hif = s.hif := rfl
@[simp] theorem State.modSpn_sys (s : State) (g : SpnSt → SpnSt) : (s.modSpn g).sys = s.sys := rfl
@[simp] theorem State.modSpn_sec (s : State) (g : SpnSt → SpnSt) : (s.modSpn g).sec = s.sec := rfl
@[simp] theorem State.modSpn_lost (s : State) (g : SpnSt → SpnSt) : (s.modSpn g).lost = s.lost := rfl
@[simp] theorem State.modSpn_pending (s : State) (g : SpnSt → SpnSt) : (s.modSpn g).pending = s.pending := rfl
@[simp] theorem State.modTth_now (s : State) (g : TthSt → TthSt) : (s.modTth g).now = s.now := rfl
@[simp] theorem State.modTth_free (s : State) (g : TthSt → TthSt) : (s.modTth g).free = s.free := rfl
@[simp] theorem State.modTth_crs (s : State) (g : TthSt → TthSt) : (s.modTth g).crs = s.crs := rfl
@[simp] theorem State.modTth_hold (s : State) (g : TthSt → TthSt) : (s.modTth g).hold = s.hold := rfl
@[simp] theorem State.modTth_rdOut (s : State) (g : TthSt → TthSt) : (s.modTth g).rdOut = s.rdOut := rfl
@[simp] theorem State.modTth_tbDrift (s : State) (g : TthSt → TthSt) : (s.modTth g).tbDrift = s.tbDrift := rfl
@[simp] theorem State.modTth_tieLast (s : State) (g : TthSt → TthSt) : (s.modTth g).tieLast = s.tieLast := rfl
@[simp] theorem State.modTth_flt (s : State) (g : TthSt → TthSt) : (s.modTth g).flt = s.flt := rfl
@[simp] theorem State.modTth_ldg (s : State) (g : TthSt → TthSt) : (s.modTth g).ldg = s.ldg := rfl
@[simp] theorem State.modTth_nor (s : State) (g : TthSt → TthSt) : (s.modTth g).nor = s.nor := rfl
@[simp] theorem State.modTth_mem (s : State) (g : TthSt → TthSt) : (s.modTth g).mem = s.mem := rfl
@[simp] theorem State.modTth_ms (s : State) (g : TthSt → TthSt) : (s.modTth g).ms = s.ms := rfl
@[simp] theorem State.modTth_dep (s : State) (g : TthSt → TthSt) : (s.modTth g).dep = s.dep := rfl
@[simp] theorem State.modTth_cvyEng (s : State) (g : TthSt → TthSt) : (s.modTth g).cvyEng = s.cvyEng := rfl
@[simp] theorem State.modTth_cvyChan (s : State) (g : TthSt → TthSt) : (s.modTth g).cvyChan = s.cvyChan := rfl
@[simp] theorem State.modTth_dataMem (s : State) (g : TthSt → TthSt) : (s.modTth g).dataMem = s.dataMem := rfl
@[simp] theorem State.modTth_rte (s : State) (g : TthSt → TthSt) : (s.modTth g).rte = s.rte := rfl
@[simp] theorem State.modTth_comp (s : State) (g : TthSt → TthSt) : (s.modTth g).comp = s.comp := rfl
@[simp] theorem State.modTth_decomp (s : State) (g : TthSt → TthSt) : (s.modTth g).decomp = s.decomp := rfl
@[simp] theorem State.modTth_heads (s : State) (g : TthSt → TthSt) : (s.modTth g).heads = s.heads := rfl
@[simp] theorem State.modTth_ioTodo (s : State) (g : TthSt → TthSt) : (s.modTth g).ioTodo = s.ioTodo := rfl
@[simp] theorem State.modTth_grown (s : State) (g : TthSt → TthSt) : (s.modTth g).grown = s.grown := rfl
@[simp] theorem State.modTth_rdPool (s : State) (g : TthSt → TthSt) : (s.modTth g).rdPool = s.rdPool := rfl
@[simp] theorem State.modTth_dlk (s : State) (g : TthSt → TthSt) : (s.modTth g).dlk = s.dlk := rfl
@[simp] theorem State.modTth_fTether (s : State) (g : TthSt → TthSt) : (s.modTth g).fTether = s.fTether := rfl
@[simp] theorem State.modTth_srv (s : State) (g : TthSt → TthSt) : (s.modTth g).srv = s.srv := rfl
@[simp] theorem State.modTth_cle (s : State) (g : TthSt → TthSt) : (s.modTth g).cle = s.cle := rfl
@[simp] theorem State.modTth_spn (s : State) (g : TthSt → TthSt) : (s.modTth g).spn = s.spn := rfl
@[simp] theorem State.modTth_tth (s : State) (g : TthSt → TthSt) : (s.modTth g).tth = g s.tth := rfl
@[simp] theorem State.modTth_seqs (s : State) (g : TthSt → TthSt) : (s.modTth g).seqs = s.seqs := rfl
@[simp] theorem State.modTth_hif (s : State) (g : TthSt → TthSt) : (s.modTth g).hif = s.hif := rfl
@[simp] theorem State.modTth_sys (s : State) (g : TthSt → TthSt) : (s.modTth g).sys = s.sys := rfl
@[simp] theorem State.modTth_sec (s : State) (g : TthSt → TthSt) : (s.modTth g).sec = s.sec := rfl
@[simp] theorem State.modTth_lost (s : State) (g : TthSt → TthSt) : (s.modTth g).lost = s.lost := rfl
@[simp] theorem State.modTth_pending (s : State) (g : TthSt → TthSt) : (s.modTth g).pending = s.pending := rfl
@[simp] theorem State.modSec_now (s : State) (g : SecuritySt → SecuritySt) : (s.modSec g).now = s.now := rfl
@[simp] theorem State.modSec_free (s : State) (g : SecuritySt → SecuritySt) : (s.modSec g).free = s.free := rfl
@[simp] theorem State.modSec_crs (s : State) (g : SecuritySt → SecuritySt) : (s.modSec g).crs = s.crs := rfl
@[simp] theorem State.modSec_hold (s : State) (g : SecuritySt → SecuritySt) : (s.modSec g).hold = s.hold := rfl
@[simp] theorem State.modSec_rdOut (s : State) (g : SecuritySt → SecuritySt) : (s.modSec g).rdOut = s.rdOut := rfl
@[simp] theorem State.modSec_tbDrift (s : State) (g : SecuritySt → SecuritySt) : (s.modSec g).tbDrift = s.tbDrift := rfl
@[simp] theorem State.modSec_tieLast (s : State) (g : SecuritySt → SecuritySt) : (s.modSec g).tieLast = s.tieLast := rfl
@[simp] theorem State.modSec_flt (s : State) (g : SecuritySt → SecuritySt) : (s.modSec g).flt = s.flt := rfl
@[simp] theorem State.modSec_ldg (s : State) (g : SecuritySt → SecuritySt) : (s.modSec g).ldg = s.ldg := rfl
@[simp] theorem State.modSec_nor (s : State) (g : SecuritySt → SecuritySt) : (s.modSec g).nor = s.nor := rfl
@[simp] theorem State.modSec_mem (s : State) (g : SecuritySt → SecuritySt) : (s.modSec g).mem = s.mem := rfl
@[simp] theorem State.modSec_ms (s : State) (g : SecuritySt → SecuritySt) : (s.modSec g).ms = s.ms := rfl
@[simp] theorem State.modSec_dep (s : State) (g : SecuritySt → SecuritySt) : (s.modSec g).dep = s.dep := rfl
@[simp] theorem State.modSec_cvyEng (s : State) (g : SecuritySt → SecuritySt) : (s.modSec g).cvyEng = s.cvyEng := rfl
@[simp] theorem State.modSec_cvyChan (s : State) (g : SecuritySt → SecuritySt) : (s.modSec g).cvyChan = s.cvyChan := rfl
@[simp] theorem State.modSec_dataMem (s : State) (g : SecuritySt → SecuritySt) : (s.modSec g).dataMem = s.dataMem := rfl
@[simp] theorem State.modSec_rte (s : State) (g : SecuritySt → SecuritySt) : (s.modSec g).rte = s.rte := rfl
@[simp] theorem State.modSec_comp (s : State) (g : SecuritySt → SecuritySt) : (s.modSec g).comp = s.comp := rfl
@[simp] theorem State.modSec_decomp (s : State) (g : SecuritySt → SecuritySt) : (s.modSec g).decomp = s.decomp := rfl
@[simp] theorem State.modSec_heads (s : State) (g : SecuritySt → SecuritySt) : (s.modSec g).heads = s.heads := rfl
@[simp] theorem State.modSec_ioTodo (s : State) (g : SecuritySt → SecuritySt) : (s.modSec g).ioTodo = s.ioTodo := rfl
@[simp] theorem State.modSec_grown (s : State) (g : SecuritySt → SecuritySt) : (s.modSec g).grown = s.grown := rfl
@[simp] theorem State.modSec_rdPool (s : State) (g : SecuritySt → SecuritySt) : (s.modSec g).rdPool = s.rdPool := rfl
@[simp] theorem State.modSec_dlk (s : State) (g : SecuritySt → SecuritySt) : (s.modSec g).dlk = s.dlk := rfl
@[simp] theorem State.modSec_fTether (s : State) (g : SecuritySt → SecuritySt) : (s.modSec g).fTether = s.fTether := rfl
@[simp] theorem State.modSec_srv (s : State) (g : SecuritySt → SecuritySt) : (s.modSec g).srv = s.srv := rfl
@[simp] theorem State.modSec_cle (s : State) (g : SecuritySt → SecuritySt) : (s.modSec g).cle = s.cle := rfl
@[simp] theorem State.modSec_spn (s : State) (g : SecuritySt → SecuritySt) : (s.modSec g).spn = s.spn := rfl
@[simp] theorem State.modSec_tth (s : State) (g : SecuritySt → SecuritySt) : (s.modSec g).tth = s.tth := rfl
@[simp] theorem State.modSec_seqs (s : State) (g : SecuritySt → SecuritySt) : (s.modSec g).seqs = s.seqs := rfl
@[simp] theorem State.modSec_hif (s : State) (g : SecuritySt → SecuritySt) : (s.modSec g).hif = s.hif := rfl
@[simp] theorem State.modSec_sys (s : State) (g : SecuritySt → SecuritySt) : (s.modSec g).sys = s.sys := rfl
@[simp] theorem State.modSec_sec (s : State) (g : SecuritySt → SecuritySt) : (s.modSec g).sec = g s.sec := rfl
@[simp] theorem State.modSec_lost (s : State) (g : SecuritySt → SecuritySt) : (s.modSec g).lost = s.lost := rfl
@[simp] theorem State.modSec_pending (s : State) (g : SecuritySt → SecuritySt) : (s.modSec g).pending = s.pending := rfl
@[simp] theorem State.tick_free (s : State) : (s.tick).free = s.free := by unfold State.tick; split <;> rfl
@[simp] theorem State.tick_crs (s : State) : (s.tick).crs = s.crs := by unfold State.tick; split <;> rfl
@[simp] theorem State.tick_hold (s : State) : (s.tick).hold = s.hold := by unfold State.tick; split <;> rfl
@[simp] theorem State.tick_rdOut (s : State) : (s.tick).rdOut = s.rdOut := by unfold State.tick; split <;> rfl
@[simp] theorem State.tick_tbDrift (s : State) : (s.tick).tbDrift = s.tbDrift := by unfold State.tick; split <;> rfl
@[simp] theorem State.tick_tieLast (s : State) : (s.tick).tieLast = s.tieLast := by unfold State.tick; split <;> rfl
@[simp] theorem State.tick_flt (s : State) : (s.tick).flt = s.flt := by unfold State.tick; split <;> rfl
@[simp] theorem State.tick_ldg (s : State) : (s.tick).ldg = s.ldg := by unfold State.tick; split <;> rfl
@[simp] theorem State.tick_nor (s : State) : (s.tick).nor = s.nor := by unfold State.tick; split <;> rfl
@[simp] theorem State.tick_mem (s : State) : (s.tick).mem = s.mem := by unfold State.tick; split <;> rfl
@[simp] theorem State.tick_ms (s : State) : (s.tick).ms = s.ms := by unfold State.tick; split <;> rfl
@[simp] theorem State.tick_dep (s : State) : (s.tick).dep = s.dep := by unfold State.tick; split <;> rfl
@[simp] theorem State.tick_cvyEng (s : State) : (s.tick).cvyEng = s.cvyEng := by unfold State.tick; split <;> rfl
@[simp] theorem State.tick_cvyChan (s : State) : (s.tick).cvyChan = s.cvyChan := by unfold State.tick; split <;> rfl
@[simp] theorem State.tick_dataMem (s : State) : (s.tick).dataMem = s.dataMem := by unfold State.tick; split <;> rfl
@[simp] theorem State.tick_rte (s : State) : (s.tick).rte = s.rte := by unfold State.tick; split <;> rfl
@[simp] theorem State.tick_comp (s : State) : (s.tick).comp = s.comp := by unfold State.tick; split <;> rfl
@[simp] theorem State.tick_decomp (s : State) : (s.tick).decomp = s.decomp := by unfold State.tick; split <;> rfl
@[simp] theorem State.tick_heads (s : State) : (s.tick).heads = s.heads := by unfold State.tick; split <;> rfl
@[simp] theorem State.tick_ioTodo (s : State) : (s.tick).ioTodo = s.ioTodo := by unfold State.tick; split <;> rfl
@[simp] theorem State.tick_grown (s : State) : (s.tick).grown = s.grown := by unfold State.tick; split <;> rfl
@[simp] theorem State.tick_rdPool (s : State) : (s.tick).rdPool = s.rdPool := by unfold State.tick; split <;> rfl
@[simp] theorem State.tick_dlk (s : State) : (s.tick).dlk = s.dlk := by unfold State.tick; split <;> rfl
@[simp] theorem State.tick_fTether (s : State) : (s.tick).fTether = s.fTether := by unfold State.tick; split <;> rfl
@[simp] theorem State.tick_srv (s : State) : (s.tick).srv = s.srv := by unfold State.tick; split <;> rfl
@[simp] theorem State.tick_cle (s : State) : (s.tick).cle = s.cle := by unfold State.tick; split <;> rfl
@[simp] theorem State.tick_spn (s : State) : (s.tick).spn = s.spn := by unfold State.tick; split <;> rfl
@[simp] theorem State.tick_tth (s : State) : (s.tick).tth = s.tth := by unfold State.tick; split <;> rfl
@[simp] theorem State.tick_seqs (s : State) : (s.tick).seqs = s.seqs := by unfold State.tick; split <;> rfl
@[simp] theorem State.tick_hif (s : State) : (s.tick).hif = s.hif := by unfold State.tick; split <;> rfl
@[simp] theorem State.tick_sys (s : State) : (s.tick).sys = s.sys := by unfold State.tick; split <;> rfl
@[simp] theorem State.tick_sec (s : State) : (s.tick).sec = s.sec := by unfold State.tick; split <;> rfl
@[simp] theorem State.tick_lost (s : State) : (s.tick).lost = s.lost := by unfold State.tick; split <;> rfl
@[simp] theorem State.tick_pending (s : State) : (s.tick).pending = s.pending := by unfold State.tick; split <;> rfl
@[simp] theorem State.setHead_now (s : State) (h : Nat) (x : HeadSt) : (s.setHead h x).now = s.now := rfl
@[simp] theorem State.setHead_free (s : State) (h : Nat) (x : HeadSt) : (s.setHead h x).free = s.free := rfl
@[simp] theorem State.setHead_crs (s : State) (h : Nat) (x : HeadSt) : (s.setHead h x).crs = s.crs := rfl
@[simp] theorem State.setHead_hold (s : State) (h : Nat) (x : HeadSt) : (s.setHead h x).hold = s.hold := rfl
@[simp] theorem State.setHead_rdOut (s : State) (h : Nat) (x : HeadSt) : (s.setHead h x).rdOut = s.rdOut := rfl
@[simp] theorem State.setHead_tbDrift (s : State) (h : Nat) (x : HeadSt) : (s.setHead h x).tbDrift = s.tbDrift := rfl
@[simp] theorem State.setHead_tieLast (s : State) (h : Nat) (x : HeadSt) : (s.setHead h x).tieLast = s.tieLast := rfl
@[simp] theorem State.setHead_flt (s : State) (h : Nat) (x : HeadSt) : (s.setHead h x).flt = s.flt := rfl
@[simp] theorem State.setHead_ldg (s : State) (h : Nat) (x : HeadSt) : (s.setHead h x).ldg = s.ldg := rfl
@[simp] theorem State.setHead_nor (s : State) (h : Nat) (x : HeadSt) : (s.setHead h x).nor = s.nor := rfl
@[simp] theorem State.setHead_mem (s : State) (h : Nat) (x : HeadSt) : (s.setHead h x).mem = s.mem := rfl
@[simp] theorem State.setHead_ms (s : State) (h : Nat) (x : HeadSt) : (s.setHead h x).ms = s.ms := rfl
@[simp] theorem State.setHead_dep (s : State) (h : Nat) (x : HeadSt) : (s.setHead h x).dep = s.dep := rfl
@[simp] theorem State.setHead_cvyEng (s : State) (h : Nat) (x : HeadSt) : (s.setHead h x).cvyEng = s.cvyEng := rfl
@[simp] theorem State.setHead_cvyChan (s : State) (h : Nat) (x : HeadSt) : (s.setHead h x).cvyChan = s.cvyChan := rfl
@[simp] theorem State.setHead_dataMem (s : State) (h : Nat) (x : HeadSt) : (s.setHead h x).dataMem = s.dataMem := rfl
@[simp] theorem State.setHead_rte (s : State) (h : Nat) (x : HeadSt) : (s.setHead h x).rte = s.rte := rfl
@[simp] theorem State.setHead_comp (s : State) (h : Nat) (x : HeadSt) : (s.setHead h x).comp = s.comp := rfl
@[simp] theorem State.setHead_decomp (s : State) (h : Nat) (x : HeadSt) : (s.setHead h x).decomp = s.decomp := rfl
@[simp] theorem State.setHead_heads (s : State) (h : Nat) (x : HeadSt) : (s.setHead h x).heads = s.heads.set h x := rfl
@[simp] theorem State.setHead_ioTodo (s : State) (h : Nat) (x : HeadSt) : (s.setHead h x).ioTodo = s.ioTodo := rfl
@[simp] theorem State.setHead_grown (s : State) (h : Nat) (x : HeadSt) : (s.setHead h x).grown = s.grown := rfl
@[simp] theorem State.setHead_rdPool (s : State) (h : Nat) (x : HeadSt) : (s.setHead h x).rdPool = s.rdPool := rfl
@[simp] theorem State.setHead_dlk (s : State) (h : Nat) (x : HeadSt) : (s.setHead h x).dlk = s.dlk := rfl
@[simp] theorem State.setHead_fTether (s : State) (h : Nat) (x : HeadSt) : (s.setHead h x).fTether = s.fTether := rfl
@[simp] theorem State.setHead_srv (s : State) (h : Nat) (x : HeadSt) : (s.setHead h x).srv = s.srv := rfl
@[simp] theorem State.setHead_cle (s : State) (h : Nat) (x : HeadSt) : (s.setHead h x).cle = s.cle := rfl
@[simp] theorem State.setHead_spn (s : State) (h : Nat) (x : HeadSt) : (s.setHead h x).spn = s.spn := rfl
@[simp] theorem State.setHead_tth (s : State) (h : Nat) (x : HeadSt) : (s.setHead h x).tth = s.tth := rfl
@[simp] theorem State.setHead_seqs (s : State) (h : Nat) (x : HeadSt) : (s.setHead h x).seqs = s.seqs := rfl
@[simp] theorem State.setHead_hif (s : State) (h : Nat) (x : HeadSt) : (s.setHead h x).hif = s.hif := rfl
@[simp] theorem State.setHead_sys (s : State) (h : Nat) (x : HeadSt) : (s.setHead h x).sys = s.sys := rfl
@[simp] theorem State.setHead_sec (s : State) (h : Nat) (x : HeadSt) : (s.setHead h x).sec = s.sec := rfl
@[simp] theorem State.setHead_lost (s : State) (h : Nat) (x : HeadSt) : (s.setHead h x).lost = s.lost := rfl
@[simp] theorem State.setHead_pending (s : State) (h : Nat) (x : HeadSt) : (s.setHead h x).pending = s.pending := rfl
@[simp] theorem State.modHead_now (s : State) (h : Nat) (g : HeadSt → HeadSt) : (s.modHead h g).now = s.now := rfl
@[simp] theorem State.modHead_free (s : State) (h : Nat) (g : HeadSt → HeadSt) : (s.modHead h g).free = s.free := rfl
@[simp] theorem State.modHead_crs (s : State) (h : Nat) (g : HeadSt → HeadSt) : (s.modHead h g).crs = s.crs := rfl
@[simp] theorem State.modHead_hold (s : State) (h : Nat) (g : HeadSt → HeadSt) : (s.modHead h g).hold = s.hold := rfl
@[simp] theorem State.modHead_rdOut (s : State) (h : Nat) (g : HeadSt → HeadSt) : (s.modHead h g).rdOut = s.rdOut := rfl
@[simp] theorem State.modHead_tbDrift (s : State) (h : Nat) (g : HeadSt → HeadSt) : (s.modHead h g).tbDrift = s.tbDrift := rfl
@[simp] theorem State.modHead_tieLast (s : State) (h : Nat) (g : HeadSt → HeadSt) : (s.modHead h g).tieLast = s.tieLast := rfl
@[simp] theorem State.modHead_flt (s : State) (h : Nat) (g : HeadSt → HeadSt) : (s.modHead h g).flt = s.flt := rfl
@[simp] theorem State.modHead_ldg (s : State) (h : Nat) (g : HeadSt → HeadSt) : (s.modHead h g).ldg = s.ldg := rfl
@[simp] theorem State.modHead_nor (s : State) (h : Nat) (g : HeadSt → HeadSt) : (s.modHead h g).nor = s.nor := rfl
@[simp] theorem State.modHead_mem (s : State) (h : Nat) (g : HeadSt → HeadSt) : (s.modHead h g).mem = s.mem := rfl
@[simp] theorem State.modHead_ms (s : State) (h : Nat) (g : HeadSt → HeadSt) : (s.modHead h g).ms = s.ms := rfl
@[simp] theorem State.modHead_dep (s : State) (h : Nat) (g : HeadSt → HeadSt) : (s.modHead h g).dep = s.dep := rfl
@[simp] theorem State.modHead_cvyEng (s : State) (h : Nat) (g : HeadSt → HeadSt) : (s.modHead h g).cvyEng = s.cvyEng := rfl
@[simp] theorem State.modHead_cvyChan (s : State) (h : Nat) (g : HeadSt → HeadSt) : (s.modHead h g).cvyChan = s.cvyChan := rfl
@[simp] theorem State.modHead_dataMem (s : State) (h : Nat) (g : HeadSt → HeadSt) : (s.modHead h g).dataMem = s.dataMem := rfl
@[simp] theorem State.modHead_rte (s : State) (h : Nat) (g : HeadSt → HeadSt) : (s.modHead h g).rte = s.rte := rfl
@[simp] theorem State.modHead_comp (s : State) (h : Nat) (g : HeadSt → HeadSt) : (s.modHead h g).comp = s.comp := rfl
@[simp] theorem State.modHead_decomp (s : State) (h : Nat) (g : HeadSt → HeadSt) : (s.modHead h g).decomp = s.decomp := rfl
@[simp] theorem State.modHead_heads (s : State) (h : Nat) (g : HeadSt → HeadSt) : (s.modHead h g).heads = s.heads.set h (g (s.head h)) := rfl
@[simp] theorem State.modHead_ioTodo (s : State) (h : Nat) (g : HeadSt → HeadSt) : (s.modHead h g).ioTodo = s.ioTodo := rfl
@[simp] theorem State.modHead_grown (s : State) (h : Nat) (g : HeadSt → HeadSt) : (s.modHead h g).grown = s.grown := rfl
@[simp] theorem State.modHead_rdPool (s : State) (h : Nat) (g : HeadSt → HeadSt) : (s.modHead h g).rdPool = s.rdPool := rfl
@[simp] theorem State.modHead_dlk (s : State) (h : Nat) (g : HeadSt → HeadSt) : (s.modHead h g).dlk = s.dlk := rfl
@[simp] theorem State.modHead_fTether (s : State) (h : Nat) (g : HeadSt → HeadSt) : (s.modHead h g).fTether = s.fTether := rfl
@[simp] theorem State.modHead_srv (s : State) (h : Nat) (g : HeadSt → HeadSt) : (s.modHead h g).srv = s.srv := rfl
@[simp] theorem State.modHead_cle (s : State) (h : Nat) (g : HeadSt → HeadSt) : (s.modHead h g).cle = s.cle := rfl
@[simp] theorem State.modHead_spn (s : State) (h : Nat) (g : HeadSt → HeadSt) : (s.modHead h g).spn = s.spn := rfl
@[simp] theorem State.modHead_tth (s : State) (h : Nat) (g : HeadSt → HeadSt) : (s.modHead h g).tth = s.tth := rfl
@[simp] theorem State.modHead_seqs (s : State) (h : Nat) (g : HeadSt → HeadSt) : (s.modHead h g).seqs = s.seqs := rfl
@[simp] theorem State.modHead_hif (s : State) (h : Nat) (g : HeadSt → HeadSt) : (s.modHead h g).hif = s.hif := rfl
@[simp] theorem State.modHead_sys (s : State) (h : Nat) (g : HeadSt → HeadSt) : (s.modHead h g).sys = s.sys := rfl
@[simp] theorem State.modHead_sec (s : State) (h : Nat) (g : HeadSt → HeadSt) : (s.modHead h g).sec = s.sec := rfl
@[simp] theorem State.modHead_lost (s : State) (h : Nat) (g : HeadSt → HeadSt) : (s.modHead h g).lost = s.lost := rfl
@[simp] theorem State.modHead_pending (s : State) (h : Nat) (g : HeadSt → HeadSt) : (s.modHead h g).pending = s.pending := rfl
@[simp] theorem State.modAct_now (s : State) (a : Nat) (g : ActSv → ActSv) : (s.modAct a g).now = s.now := rfl
@[simp] theorem State.modAct_free (s : State) (a : Nat) (g : ActSv → ActSv) : (s.modAct a g).free = s.free := rfl
@[simp] theorem State.modAct_crs (s : State) (a : Nat) (g : ActSv → ActSv) : (s.modAct a g).crs = s.crs := rfl
@[simp] theorem State.modAct_hold (s : State) (a : Nat) (g : ActSv → ActSv) : (s.modAct a g).hold = s.hold := rfl
@[simp] theorem State.modAct_rdOut (s : State) (a : Nat) (g : ActSv → ActSv) : (s.modAct a g).rdOut = s.rdOut := rfl
@[simp] theorem State.modAct_tbDrift (s : State) (a : Nat) (g : ActSv → ActSv) : (s.modAct a g).tbDrift = s.tbDrift := rfl
@[simp] theorem State.modAct_tieLast (s : State) (a : Nat) (g : ActSv → ActSv) : (s.modAct a g).tieLast = s.tieLast := rfl
@[simp] theorem State.modAct_flt (s : State) (a : Nat) (g : ActSv → ActSv) : (s.modAct a g).flt = s.flt := rfl
@[simp] theorem State.modAct_ldg (s : State) (a : Nat) (g : ActSv → ActSv) : (s.modAct a g).ldg = s.ldg := rfl
@[simp] theorem State.modAct_nor (s : State) (a : Nat) (g : ActSv → ActSv) : (s.modAct a g).nor = s.nor := rfl
@[simp] theorem State.modAct_mem (s : State) (a : Nat) (g : ActSv → ActSv) : (s.modAct a g).mem = s.mem := rfl
@[simp] theorem State.modAct_ms (s : State) (a : Nat) (g : ActSv → ActSv) : (s.modAct a g).ms = s.ms := rfl
@[simp] theorem State.modAct_dep (s : State) (a : Nat) (g : ActSv → ActSv) : (s.modAct a g).dep = s.dep := rfl
@[simp] theorem State.modAct_cvyEng (s : State) (a : Nat) (g : ActSv → ActSv) : (s.modAct a g).cvyEng = s.cvyEng := rfl
@[simp] theorem State.modAct_cvyChan (s : State) (a : Nat) (g : ActSv → ActSv) : (s.modAct a g).cvyChan = s.cvyChan := rfl
@[simp] theorem State.modAct_dataMem (s : State) (a : Nat) (g : ActSv → ActSv) : (s.modAct a g).dataMem = s.dataMem := rfl
@[simp] theorem State.modAct_rte (s : State) (a : Nat) (g : ActSv → ActSv) : (s.modAct a g).rte = s.rte := rfl
@[simp] theorem State.modAct_comp (s : State) (a : Nat) (g : ActSv → ActSv) : (s.modAct a g).comp = s.comp := rfl
@[simp] theorem State.modAct_decomp (s : State) (a : Nat) (g : ActSv → ActSv) : (s.modAct a g).decomp = s.decomp := rfl
@[simp] theorem State.modAct_heads (s : State) (a : Nat) (g : ActSv → ActSv) : (s.modAct a g).heads = s.heads := rfl
@[simp] theorem State.modAct_ioTodo (s : State) (a : Nat) (g : ActSv → ActSv) : (s.modAct a g).ioTodo = s.ioTodo := rfl
@[simp] theorem State.modAct_grown (s : State) (a : Nat) (g : ActSv → ActSv) : (s.modAct a g).grown = s.grown := rfl
@[simp] theorem State.modAct_rdPool (s : State) (a : Nat) (g : ActSv → ActSv) : (s.modAct a g).rdPool = s.rdPool := rfl
@[simp] theorem State.modAct_dlk (s : State) (a : Nat) (g : ActSv → ActSv) : (s.modAct a g).dlk = s.dlk := rfl
@[simp] theorem State.modAct_fTether (s : State) (a : Nat) (g : ActSv → ActSv) : (s.modAct a g).fTether = s.fTether := rfl
@[simp] theorem State.modAct_cle (s : State) (a : Nat) (g : ActSv → ActSv) : (s.modAct a g).cle = s.cle := rfl
@[simp] theorem State.modAct_spn (s : State) (a : Nat) (g : ActSv → ActSv) : (s.modAct a g).spn = s.spn := rfl
@[simp] theorem State.modAct_tth (s : State) (a : Nat) (g : ActSv → ActSv) : (s.modAct a g).tth = s.tth := rfl
@[simp] theorem State.modAct_seqs (s : State) (a : Nat) (g : ActSv → ActSv) : (s.modAct a g).seqs = s.seqs := rfl
@[simp] theorem State.modAct_hif (s : State) (a : Nat) (g : ActSv → ActSv) : (s.modAct a g).hif = s.hif := rfl
@[simp] theorem State.modAct_sys (s : State) (a : Nat) (g : ActSv → ActSv) : (s.modAct a g).sys = s.sys := rfl
@[simp] theorem State.modAct_sec (s : State) (a : Nat) (g : ActSv → ActSv) : (s.modAct a g).sec = s.sec := rfl
@[simp] theorem State.modAct_lost (s : State) (a : Nat) (g : ActSv → ActSv) : (s.modAct a g).lost = s.lost := rfl
@[simp] theorem State.modAct_pending (s : State) (a : Nat) (g : ActSv → ActSv) : (s.modAct a g).pending = s.pending := rfl
@[simp] theorem State.modHsv_now (s : State) (h : Nat) (g : HeadSv → HeadSv) : (s.modHsv h g).now = s.now := rfl
@[simp] theorem State.modHsv_free (s : State) (h : Nat) (g : HeadSv → HeadSv) : (s.modHsv h g).free = s.free := rfl
@[simp] theorem State.modHsv_crs (s : State) (h : Nat) (g : HeadSv → HeadSv) : (s.modHsv h g).crs = s.crs := rfl
@[simp] theorem State.modHsv_hold (s : State) (h : Nat) (g : HeadSv → HeadSv) : (s.modHsv h g).hold = s.hold := rfl
@[simp] theorem State.modHsv_rdOut (s : State) (h : Nat) (g : HeadSv → HeadSv) : (s.modHsv h g).rdOut = s.rdOut := rfl
@[simp] theorem State.modHsv_tbDrift (s : State) (h : Nat) (g : HeadSv → HeadSv) : (s.modHsv h g).tbDrift = s.tbDrift := rfl
@[simp] theorem State.modHsv_tieLast (s : State) (h : Nat) (g : HeadSv → HeadSv) : (s.modHsv h g).tieLast = s.tieLast := rfl
@[simp] theorem State.modHsv_flt (s : State) (h : Nat) (g : HeadSv → HeadSv) : (s.modHsv h g).flt = s.flt := rfl
@[simp] theorem State.modHsv_ldg (s : State) (h : Nat) (g : HeadSv → HeadSv) : (s.modHsv h g).ldg = s.ldg := rfl
@[simp] theorem State.modHsv_nor (s : State) (h : Nat) (g : HeadSv → HeadSv) : (s.modHsv h g).nor = s.nor := rfl
@[simp] theorem State.modHsv_mem (s : State) (h : Nat) (g : HeadSv → HeadSv) : (s.modHsv h g).mem = s.mem := rfl
@[simp] theorem State.modHsv_ms (s : State) (h : Nat) (g : HeadSv → HeadSv) : (s.modHsv h g).ms = s.ms := rfl
@[simp] theorem State.modHsv_dep (s : State) (h : Nat) (g : HeadSv → HeadSv) : (s.modHsv h g).dep = s.dep := rfl
@[simp] theorem State.modHsv_cvyEng (s : State) (h : Nat) (g : HeadSv → HeadSv) : (s.modHsv h g).cvyEng = s.cvyEng := rfl
@[simp] theorem State.modHsv_cvyChan (s : State) (h : Nat) (g : HeadSv → HeadSv) : (s.modHsv h g).cvyChan = s.cvyChan := rfl
@[simp] theorem State.modHsv_dataMem (s : State) (h : Nat) (g : HeadSv → HeadSv) : (s.modHsv h g).dataMem = s.dataMem := rfl
@[simp] theorem State.modHsv_rte (s : State) (h : Nat) (g : HeadSv → HeadSv) : (s.modHsv h g).rte = s.rte := rfl
@[simp] theorem State.modHsv_comp (s : State) (h : Nat) (g : HeadSv → HeadSv) : (s.modHsv h g).comp = s.comp := rfl
@[simp] theorem State.modHsv_decomp (s : State) (h : Nat) (g : HeadSv → HeadSv) : (s.modHsv h g).decomp = s.decomp := rfl
@[simp] theorem State.modHsv_heads (s : State) (h : Nat) (g : HeadSv → HeadSv) : (s.modHsv h g).heads = s.heads := rfl
@[simp] theorem State.modHsv_ioTodo (s : State) (h : Nat) (g : HeadSv → HeadSv) : (s.modHsv h g).ioTodo = s.ioTodo := rfl
@[simp] theorem State.modHsv_grown (s : State) (h : Nat) (g : HeadSv → HeadSv) : (s.modHsv h g).grown = s.grown := rfl
@[simp] theorem State.modHsv_rdPool (s : State) (h : Nat) (g : HeadSv → HeadSv) : (s.modHsv h g).rdPool = s.rdPool := rfl
@[simp] theorem State.modHsv_dlk (s : State) (h : Nat) (g : HeadSv → HeadSv) : (s.modHsv h g).dlk = s.dlk := rfl
@[simp] theorem State.modHsv_fTether (s : State) (h : Nat) (g : HeadSv → HeadSv) : (s.modHsv h g).fTether = s.fTether := rfl
@[simp] theorem State.modHsv_cle (s : State) (h : Nat) (g : HeadSv → HeadSv) : (s.modHsv h g).cle = s.cle := rfl
@[simp] theorem State.modHsv_spn (s : State) (h : Nat) (g : HeadSv → HeadSv) : (s.modHsv h g).spn = s.spn := rfl
@[simp] theorem State.modHsv_tth (s : State) (h : Nat) (g : HeadSv → HeadSv) : (s.modHsv h g).tth = s.tth := rfl
@[simp] theorem State.modHsv_seqs (s : State) (h : Nat) (g : HeadSv → HeadSv) : (s.modHsv h g).seqs = s.seqs := rfl
@[simp] theorem State.modHsv_hif (s : State) (h : Nat) (g : HeadSv → HeadSv) : (s.modHsv h g).hif = s.hif := rfl
@[simp] theorem State.modHsv_sys (s : State) (h : Nat) (g : HeadSv → HeadSv) : (s.modHsv h g).sys = s.sys := rfl
@[simp] theorem State.modHsv_sec (s : State) (h : Nat) (g : HeadSv → HeadSv) : (s.modHsv h g).sec = s.sec := rfl
@[simp] theorem State.modHsv_lost (s : State) (h : Nat) (g : HeadSv → HeadSv) : (s.modHsv h g).lost = s.lost := rfl
@[simp] theorem State.modHsv_pending (s : State) (h : Nat) (g : HeadSv → HeadSv) : (s.modHsv h g).pending = s.pending := rfl
@[simp] theorem State.modGust_now (s : State) (n : Nat) (g : GustSt → GustSt) : (s.modGust n g).now = s.now := rfl
@[simp] theorem State.modGust_free (s : State) (n : Nat) (g : GustSt → GustSt) : (s.modGust n g).free = s.free := rfl
@[simp] theorem State.modGust_crs (s : State) (n : Nat) (g : GustSt → GustSt) : (s.modGust n g).crs = s.crs := rfl
@[simp] theorem State.modGust_hold (s : State) (n : Nat) (g : GustSt → GustSt) : (s.modGust n g).hold = s.hold := rfl
@[simp] theorem State.modGust_rdOut (s : State) (n : Nat) (g : GustSt → GustSt) : (s.modGust n g).rdOut = s.rdOut := rfl
@[simp] theorem State.modGust_tbDrift (s : State) (n : Nat) (g : GustSt → GustSt) : (s.modGust n g).tbDrift = s.tbDrift := rfl
@[simp] theorem State.modGust_tieLast (s : State) (n : Nat) (g : GustSt → GustSt) : (s.modGust n g).tieLast = s.tieLast := rfl
@[simp] theorem State.modGust_flt (s : State) (n : Nat) (g : GustSt → GustSt) : (s.modGust n g).flt = s.flt := rfl
@[simp] theorem State.modGust_ldg (s : State) (n : Nat) (g : GustSt → GustSt) : (s.modGust n g).ldg = s.ldg := rfl
@[simp] theorem State.modGust_nor (s : State) (n : Nat) (g : GustSt → GustSt) : (s.modGust n g).nor = s.nor := rfl
@[simp] theorem State.modGust_mem (s : State) (n : Nat) (g : GustSt → GustSt) : (s.modGust n g).mem = s.mem := rfl
@[simp] theorem State.modGust_ms (s : State) (n : Nat) (g : GustSt → GustSt) : (s.modGust n g).ms = s.ms := rfl
@[simp] theorem State.modGust_dep (s : State) (n : Nat) (g : GustSt → GustSt) : (s.modGust n g).dep = s.dep := rfl
@[simp] theorem State.modGust_cvyEng (s : State) (n : Nat) (g : GustSt → GustSt) : (s.modGust n g).cvyEng = s.cvyEng := rfl
@[simp] theorem State.modGust_cvyChan (s : State) (n : Nat) (g : GustSt → GustSt) : (s.modGust n g).cvyChan = s.cvyChan := rfl
@[simp] theorem State.modGust_dataMem (s : State) (n : Nat) (g : GustSt → GustSt) : (s.modGust n g).dataMem = s.dataMem := rfl
@[simp] theorem State.modGust_rte (s : State) (n : Nat) (g : GustSt → GustSt) : (s.modGust n g).rte = s.rte := rfl
@[simp] theorem State.modGust_comp (s : State) (n : Nat) (g : GustSt → GustSt) : (s.modGust n g).comp = s.comp := rfl
@[simp] theorem State.modGust_decomp (s : State) (n : Nat) (g : GustSt → GustSt) : (s.modGust n g).decomp = s.decomp := rfl
@[simp] theorem State.modGust_heads (s : State) (n : Nat) (g : GustSt → GustSt) : (s.modGust n g).heads = s.heads := rfl
@[simp] theorem State.modGust_ioTodo (s : State) (n : Nat) (g : GustSt → GustSt) : (s.modGust n g).ioTodo = s.ioTodo := rfl
@[simp] theorem State.modGust_grown (s : State) (n : Nat) (g : GustSt → GustSt) : (s.modGust n g).grown = s.grown := rfl
@[simp] theorem State.modGust_rdPool (s : State) (n : Nat) (g : GustSt → GustSt) : (s.modGust n g).rdPool = s.rdPool := rfl
@[simp] theorem State.modGust_dlk (s : State) (n : Nat) (g : GustSt → GustSt) : (s.modGust n g).dlk = s.dlk := rfl
@[simp] theorem State.modGust_fTether (s : State) (n : Nat) (g : GustSt → GustSt) : (s.modGust n g).fTether = s.fTether := rfl
@[simp] theorem State.modGust_cle (s : State) (n : Nat) (g : GustSt → GustSt) : (s.modGust n g).cle = s.cle := rfl
@[simp] theorem State.modGust_spn (s : State) (n : Nat) (g : GustSt → GustSt) : (s.modGust n g).spn = s.spn := rfl
@[simp] theorem State.modGust_tth (s : State) (n : Nat) (g : GustSt → GustSt) : (s.modGust n g).tth = s.tth := rfl
@[simp] theorem State.modGust_seqs (s : State) (n : Nat) (g : GustSt → GustSt) : (s.modGust n g).seqs = s.seqs := rfl
@[simp] theorem State.modGust_hif (s : State) (n : Nat) (g : GustSt → GustSt) : (s.modGust n g).hif = s.hif := rfl
@[simp] theorem State.modGust_sys (s : State) (n : Nat) (g : GustSt → GustSt) : (s.modGust n g).sys = s.sys := rfl
@[simp] theorem State.modGust_sec (s : State) (n : Nat) (g : GustSt → GustSt) : (s.modGust n g).sec = s.sec := rfl
@[simp] theorem State.modGust_lost (s : State) (n : Nat) (g : GustSt → GustSt) : (s.modGust n g).lost = s.lost := rfl
@[simp] theorem State.modGust_pending (s : State) (n : Nat) (g : GustSt → GustSt) : (s.modGust n g).pending = s.pending := rfl
@[simp] theorem State.modSq_now (s : State) (a : Nat) (g : SeqSt → SeqSt) : (s.modSq a g).now = s.now := rfl
@[simp] theorem State.modSq_free (s : State) (a : Nat) (g : SeqSt → SeqSt) : (s.modSq a g).free = s.free := rfl
@[simp] theorem State.modSq_crs (s : State) (a : Nat) (g : SeqSt → SeqSt) : (s.modSq a g).crs = s.crs := rfl
@[simp] theorem State.modSq_hold (s : State) (a : Nat) (g : SeqSt → SeqSt) : (s.modSq a g).hold = s.hold := rfl
@[simp] theorem State.modSq_rdOut (s : State) (a : Nat) (g : SeqSt → SeqSt) : (s.modSq a g).rdOut = s.rdOut := rfl
@[simp] theorem State.modSq_tbDrift (s : State) (a : Nat) (g : SeqSt → SeqSt) : (s.modSq a g).tbDrift = s.tbDrift := rfl
@[simp] theorem State.modSq_tieLast (s : State) (a : Nat) (g : SeqSt → SeqSt) : (s.modSq a g).tieLast = s.tieLast := rfl
@[simp] theorem State.modSq_flt (s : State) (a : Nat) (g : SeqSt → SeqSt) : (s.modSq a g).flt = s.flt := rfl
@[simp] theorem State.modSq_ldg (s : State) (a : Nat) (g : SeqSt → SeqSt) : (s.modSq a g).ldg = s.ldg := rfl
@[simp] theorem State.modSq_nor (s : State) (a : Nat) (g : SeqSt → SeqSt) : (s.modSq a g).nor = s.nor := rfl
@[simp] theorem State.modSq_mem (s : State) (a : Nat) (g : SeqSt → SeqSt) : (s.modSq a g).mem = s.mem := rfl
@[simp] theorem State.modSq_ms (s : State) (a : Nat) (g : SeqSt → SeqSt) : (s.modSq a g).ms = s.ms := rfl
@[simp] theorem State.modSq_dep (s : State) (a : Nat) (g : SeqSt → SeqSt) : (s.modSq a g).dep = s.dep := rfl
@[simp] theorem State.modSq_cvyEng (s : State) (a : Nat) (g : SeqSt → SeqSt) : (s.modSq a g).cvyEng = s.cvyEng := rfl
@[simp] theorem State.modSq_cvyChan (s : State) (a : Nat) (g : SeqSt → SeqSt) : (s.modSq a g).cvyChan = s.cvyChan := rfl
@[simp] theorem State.modSq_dataMem (s : State) (a : Nat) (g : SeqSt → SeqSt) : (s.modSq a g).dataMem = s.dataMem := rfl
@[simp] theorem State.modSq_rte (s : State) (a : Nat) (g : SeqSt → SeqSt) : (s.modSq a g).rte = s.rte := rfl
@[simp] theorem State.modSq_comp (s : State) (a : Nat) (g : SeqSt → SeqSt) : (s.modSq a g).comp = s.comp := rfl
@[simp] theorem State.modSq_decomp (s : State) (a : Nat) (g : SeqSt → SeqSt) : (s.modSq a g).decomp = s.decomp := rfl
@[simp] theorem State.modSq_heads (s : State) (a : Nat) (g : SeqSt → SeqSt) : (s.modSq a g).heads = s.heads := rfl
@[simp] theorem State.modSq_ioTodo (s : State) (a : Nat) (g : SeqSt → SeqSt) : (s.modSq a g).ioTodo = s.ioTodo := rfl
@[simp] theorem State.modSq_grown (s : State) (a : Nat) (g : SeqSt → SeqSt) : (s.modSq a g).grown = s.grown := rfl
@[simp] theorem State.modSq_rdPool (s : State) (a : Nat) (g : SeqSt → SeqSt) : (s.modSq a g).rdPool = s.rdPool := rfl
@[simp] theorem State.modSq_dlk (s : State) (a : Nat) (g : SeqSt → SeqSt) : (s.modSq a g).dlk = s.dlk := rfl
@[simp] theorem State.modSq_fTether (s : State) (a : Nat) (g : SeqSt → SeqSt) : (s.modSq a g).fTether = s.fTether := rfl
@[simp] theorem State.modSq_srv (s : State) (a : Nat) (g : SeqSt → SeqSt) : (s.modSq a g).srv = s.srv := rfl
@[simp] theorem State.modSq_cle (s : State) (a : Nat) (g : SeqSt → SeqSt) : (s.modSq a g).cle = s.cle := rfl
@[simp] theorem State.modSq_spn (s : State) (a : Nat) (g : SeqSt → SeqSt) : (s.modSq a g).spn = s.spn := rfl
@[simp] theorem State.modSq_tth (s : State) (a : Nat) (g : SeqSt → SeqSt) : (s.modSq a g).tth = s.tth := rfl
@[simp] theorem State.modSq_seqs (s : State) (a : Nat) (g : SeqSt → SeqSt) : (s.modSq a g).seqs = listMod s.seqs a g := rfl
@[simp] theorem State.modSq_hif (s : State) (a : Nat) (g : SeqSt → SeqSt) : (s.modSq a g).hif = s.hif := rfl
@[simp] theorem State.modSq_sys (s : State) (a : Nat) (g : SeqSt → SeqSt) : (s.modSq a g).sys = s.sys := rfl
@[simp] theorem State.modSq_sec (s : State) (a : Nat) (g : SeqSt → SeqSt) : (s.modSq a g).sec = s.sec := rfl
@[simp] theorem State.modSq_lost (s : State) (a : Nat) (g : SeqSt → SeqSt) : (s.modSq a g).lost = s.lost := rfl
@[simp] theorem State.modSq_pending (s : State) (a : Nat) (g : SeqSt → SeqSt) : (s.modSq a g).pending = s.pending := rfl
@[simp] theorem State.setLink_now (s : State) (a : Nat) (l : DlkLink) : (s.setLink a l).now = s.now := rfl
@[simp] theorem State.setLink_free (s : State) (a : Nat) (l : DlkLink) : (s.setLink a l).free = s.free := rfl
@[simp] theorem State.setLink_crs (s : State) (a : Nat) (l : DlkLink) : (s.setLink a l).crs = s.crs := rfl
@[simp] theorem State.setLink_hold (s : State) (a : Nat) (l : DlkLink) : (s.setLink a l).hold = s.hold := rfl
@[simp] theorem State.setLink_rdOut (s : State) (a : Nat) (l : DlkLink) : (s.setLink a l).rdOut = s.rdOut := rfl
@[simp] theorem State.setLink_tbDrift (s : State) (a : Nat) (l : DlkLink) : (s.setLink a l).tbDrift = s.tbDrift := rfl
@[simp] theorem State.setLink_tieLast (s : State) (a : Nat) (l : DlkLink) : (s.setLink a l).tieLast = s.tieLast := rfl
@[simp] theorem State.setLink_flt (s : State) (a : Nat) (l : DlkLink) : (s.setLink a l).flt = s.flt := rfl
@[simp] theorem State.setLink_ldg (s : State) (a : Nat) (l : DlkLink) : (s.setLink a l).ldg = s.ldg := rfl
@[simp] theorem State.setLink_nor (s : State) (a : Nat) (l : DlkLink) : (s.setLink a l).nor = s.nor := rfl
@[simp] theorem State.setLink_mem (s : State) (a : Nat) (l : DlkLink) : (s.setLink a l).mem = s.mem := rfl
@[simp] theorem State.setLink_ms (s : State) (a : Nat) (l : DlkLink) : (s.setLink a l).ms = s.ms := rfl
@[simp] theorem State.setLink_dep (s : State) (a : Nat) (l : DlkLink) : (s.setLink a l).dep = s.dep := rfl
@[simp] theorem State.setLink_cvyEng (s : State) (a : Nat) (l : DlkLink) : (s.setLink a l).cvyEng = s.cvyEng := rfl
@[simp] theorem State.setLink_cvyChan (s : State) (a : Nat) (l : DlkLink) : (s.setLink a l).cvyChan = s.cvyChan := rfl
@[simp] theorem State.setLink_dataMem (s : State) (a : Nat) (l : DlkLink) : (s.setLink a l).dataMem = s.dataMem := rfl
@[simp] theorem State.setLink_rte (s : State) (a : Nat) (l : DlkLink) : (s.setLink a l).rte = s.rte := rfl
@[simp] theorem State.setLink_comp (s : State) (a : Nat) (l : DlkLink) : (s.setLink a l).comp = s.comp := rfl
@[simp] theorem State.setLink_decomp (s : State) (a : Nat) (l : DlkLink) : (s.setLink a l).decomp = s.decomp := rfl
@[simp] theorem State.setLink_heads (s : State) (a : Nat) (l : DlkLink) : (s.setLink a l).heads = s.heads := rfl
@[simp] theorem State.setLink_ioTodo (s : State) (a : Nat) (l : DlkLink) : (s.setLink a l).ioTodo = s.ioTodo := rfl
@[simp] theorem State.setLink_grown (s : State) (a : Nat) (l : DlkLink) : (s.setLink a l).grown = s.grown := rfl
@[simp] theorem State.setLink_rdPool (s : State) (a : Nat) (l : DlkLink) : (s.setLink a l).rdPool = s.rdPool := rfl
@[simp] theorem State.setLink_dlk (s : State) (a : Nat) (l : DlkLink) : (s.setLink a l).dlk = s.dlk.set a l := rfl
@[simp] theorem State.setLink_fTether (s : State) (a : Nat) (l : DlkLink) : (s.setLink a l).fTether = s.fTether := rfl
@[simp] theorem State.setLink_srv (s : State) (a : Nat) (l : DlkLink) : (s.setLink a l).srv = s.srv := rfl
@[simp] theorem State.setLink_cle (s : State) (a : Nat) (l : DlkLink) : (s.setLink a l).cle = s.cle := rfl
@[simp] theorem State.setLink_spn (s : State) (a : Nat) (l : DlkLink) : (s.setLink a l).spn = s.spn := rfl
@[simp] theorem State.setLink_tth (s : State) (a : Nat) (l : DlkLink) : (s.setLink a l).tth = s.tth := rfl
@[simp] theorem State.setLink_seqs (s : State) (a : Nat) (l : DlkLink) : (s.setLink a l).seqs = s.seqs := rfl
@[simp] theorem State.setLink_hif (s : State) (a : Nat) (l : DlkLink) : (s.setLink a l).hif = s.hif := rfl
@[simp] theorem State.setLink_sys (s : State) (a : Nat) (l : DlkLink) : (s.setLink a l).sys = s.sys := rfl
@[simp] theorem State.setLink_sec (s : State) (a : Nat) (l : DlkLink) : (s.setLink a l).sec = s.sec := rfl
@[simp] theorem State.setLink_lost (s : State) (a : Nat) (l : DlkLink) : (s.setLink a l).lost = s.lost := rfl
@[simp] theorem State.setLink_pending (s : State) (a : Nat) (l : DlkLink) : (s.setLink a l).pending = s.pending := rfl
@[simp] theorem State.modLink_now (s : State) (a : Nat) (g : DlkLink → DlkLink) : (s.modLink a g).now = s.now := rfl
@[simp] theorem State.modLink_free (s : State) (a : Nat) (g : DlkLink → DlkLink) : (s.modLink a g).free = s.free := rfl
@[simp] theorem State.modLink_crs (s : State) (a : Nat) (g : DlkLink → DlkLink) : (s.modLink a g).crs = s.crs := rfl
@[simp] theorem State.modLink_hold (s : State) (a : Nat) (g : DlkLink → DlkLink) : (s.modLink a g).hold = s.hold := rfl
@[simp] theorem State.modLink_rdOut (s : State) (a : Nat) (g : DlkLink → DlkLink) : (s.modLink a g).rdOut = s.rdOut := rfl
@[simp] theorem State.modLink_tbDrift (s : State) (a : Nat) (g : DlkLink → DlkLink) : (s.modLink a g).tbDrift = s.tbDrift := rfl
@[simp] theorem State.modLink_tieLast (s : State) (a : Nat) (g : DlkLink → DlkLink) : (s.modLink a g).tieLast = s.tieLast := rfl
@[simp] theorem State.modLink_flt (s : State) (a : Nat) (g : DlkLink → DlkLink) : (s.modLink a g).flt = s.flt := rfl
@[simp] theorem State.modLink_ldg (s : State) (a : Nat) (g : DlkLink → DlkLink) : (s.modLink a g).ldg = s.ldg := rfl
@[simp] theorem State.modLink_nor (s : State) (a : Nat) (g : DlkLink → DlkLink) : (s.modLink a g).nor = s.nor := rfl
@[simp] theorem State.modLink_mem (s : State) (a : Nat) (g : DlkLink → DlkLink) : (s.modLink a g).mem = s.mem := rfl
@[simp] theorem State.modLink_ms (s : State) (a : Nat) (g : DlkLink → DlkLink) : (s.modLink a g).ms = s.ms := rfl
@[simp] theorem State.modLink_dep (s : State) (a : Nat) (g : DlkLink → DlkLink) : (s.modLink a g).dep = s.dep := rfl
@[simp] theorem State.modLink_cvyEng (s : State) (a : Nat) (g : DlkLink → DlkLink) : (s.modLink a g).cvyEng = s.cvyEng := rfl
@[simp] theorem State.modLink_cvyChan (s : State) (a : Nat) (g : DlkLink → DlkLink) : (s.modLink a g).cvyChan = s.cvyChan := rfl
@[simp] theorem State.modLink_dataMem (s : State) (a : Nat) (g : DlkLink → DlkLink) : (s.modLink a g).dataMem = s.dataMem := rfl
@[simp] theorem State.modLink_rte (s : State) (a : Nat) (g : DlkLink → DlkLink) : (s.modLink a g).rte = s.rte := rfl
@[simp] theorem State.modLink_comp (s : State) (a : Nat) (g : DlkLink → DlkLink) : (s.modLink a g).comp = s.comp := rfl
@[simp] theorem State.modLink_decomp (s : State) (a : Nat) (g : DlkLink → DlkLink) : (s.modLink a g).decomp = s.decomp := rfl
@[simp] theorem State.modLink_heads (s : State) (a : Nat) (g : DlkLink → DlkLink) : (s.modLink a g).heads = s.heads := rfl
@[simp] theorem State.modLink_ioTodo (s : State) (a : Nat) (g : DlkLink → DlkLink) : (s.modLink a g).ioTodo = s.ioTodo := rfl
@[simp] theorem State.modLink_grown (s : State) (a : Nat) (g : DlkLink → DlkLink) : (s.modLink a g).grown = s.grown := rfl
@[simp] theorem State.modLink_rdPool (s : State) (a : Nat) (g : DlkLink → DlkLink) : (s.modLink a g).rdPool = s.rdPool := rfl
@[simp] theorem State.modLink_dlk (s : State) (a : Nat) (g : DlkLink → DlkLink) : (s.modLink a g).dlk = s.dlk.set a (g (s.link a)) := rfl
@[simp] theorem State.modLink_fTether (s : State) (a : Nat) (g : DlkLink → DlkLink) : (s.modLink a g).fTether = s.fTether := rfl
@[simp] theorem State.modLink_srv (s : State) (a : Nat) (g : DlkLink → DlkLink) : (s.modLink a g).srv = s.srv := rfl
@[simp] theorem State.modLink_cle (s : State) (a : Nat) (g : DlkLink → DlkLink) : (s.modLink a g).cle = s.cle := rfl
@[simp] theorem State.modLink_spn (s : State) (a : Nat) (g : DlkLink → DlkLink) : (s.modLink a g).spn = s.spn := rfl
@[simp] theorem State.modLink_tth (s : State) (a : Nat) (g : DlkLink → DlkLink) : (s.modLink a g).tth = s.tth := rfl
@[simp] theorem State.modLink_seqs (s : State) (a : Nat) (g : DlkLink → DlkLink) : (s.modLink a g).seqs = s.seqs := rfl
@[simp] theorem State.modLink_hif (s : State) (a : Nat) (g : DlkLink → DlkLink) : (s.modLink a g).hif = s.hif := rfl
@[simp] theorem State.modLink_sys (s : State) (a : Nat) (g : DlkLink → DlkLink) : (s.modLink a g).sys = s.sys := rfl
@[simp] theorem State.modLink_sec (s : State) (a : Nat) (g : DlkLink → DlkLink) : (s.modLink a g).sec = s.sec := rfl
@[simp] theorem State.modLink_lost (s : State) (a : Nat) (g : DlkLink → DlkLink) : (s.modLink a g).lost = s.lost := rfl
@[simp] theorem State.modLink_pending (s : State) (a : Nat) (g : DlkLink → DlkLink) : (s.modLink a g).pending = s.pending := rfl
@[simp] theorem State.modRef_now (s : State) (i : Nat) (g : RefIn → RefIn) : (s.modRef i g).now = s.now := rfl
@[simp] theorem State.modRef_free (s : State) (i : Nat) (g : RefIn → RefIn) : (s.modRef i g).free = s.free := rfl
@[simp] theorem State.modRef_crs (s : State) (i : Nat) (g : RefIn → RefIn) : (s.modRef i g).crs = s.crs := rfl
@[simp] theorem State.modRef_hold (s : State) (i : Nat) (g : RefIn → RefIn) : (s.modRef i g).hold = s.hold := rfl
@[simp] theorem State.modRef_rdOut (s : State) (i : Nat) (g : RefIn → RefIn) : (s.modRef i g).rdOut = s.rdOut := rfl
@[simp] theorem State.modRef_tbDrift (s : State) (i : Nat) (g : RefIn → RefIn) : (s.modRef i g).tbDrift = s.tbDrift := rfl
@[simp] theorem State.modRef_tieLast (s : State) (i : Nat) (g : RefIn → RefIn) : (s.modRef i g).tieLast = s.tieLast := rfl
@[simp] theorem State.modRef_flt (s : State) (i : Nat) (g : RefIn → RefIn) : (s.modRef i g).flt = s.flt := rfl
@[simp] theorem State.modRef_ldg (s : State) (i : Nat) (g : RefIn → RefIn) : (s.modRef i g).ldg = s.ldg := rfl
@[simp] theorem State.modRef_nor (s : State) (i : Nat) (g : RefIn → RefIn) : (s.modRef i g).nor = s.nor := rfl
@[simp] theorem State.modRef_mem (s : State) (i : Nat) (g : RefIn → RefIn) : (s.modRef i g).mem = s.mem := rfl
@[simp] theorem State.modRef_ms (s : State) (i : Nat) (g : RefIn → RefIn) : (s.modRef i g).ms = s.ms := rfl
@[simp] theorem State.modRef_dep (s : State) (i : Nat) (g : RefIn → RefIn) : (s.modRef i g).dep = s.dep := rfl
@[simp] theorem State.modRef_cvyEng (s : State) (i : Nat) (g : RefIn → RefIn) : (s.modRef i g).cvyEng = s.cvyEng := rfl
@[simp] theorem State.modRef_cvyChan (s : State) (i : Nat) (g : RefIn → RefIn) : (s.modRef i g).cvyChan = s.cvyChan := rfl
@[simp] theorem State.modRef_dataMem (s : State) (i : Nat) (g : RefIn → RefIn) : (s.modRef i g).dataMem = s.dataMem := rfl
@[simp] theorem State.modRef_rte (s : State) (i : Nat) (g : RefIn → RefIn) : (s.modRef i g).rte = s.rte := rfl
@[simp] theorem State.modRef_comp (s : State) (i : Nat) (g : RefIn → RefIn) : (s.modRef i g).comp = s.comp := rfl
@[simp] theorem State.modRef_decomp (s : State) (i : Nat) (g : RefIn → RefIn) : (s.modRef i g).decomp = s.decomp := rfl
@[simp] theorem State.modRef_heads (s : State) (i : Nat) (g : RefIn → RefIn) : (s.modRef i g).heads = s.heads := rfl
@[simp] theorem State.modRef_ioTodo (s : State) (i : Nat) (g : RefIn → RefIn) : (s.modRef i g).ioTodo = s.ioTodo := rfl
@[simp] theorem State.modRef_grown (s : State) (i : Nat) (g : RefIn → RefIn) : (s.modRef i g).grown = s.grown := rfl
@[simp] theorem State.modRef_rdPool (s : State) (i : Nat) (g : RefIn → RefIn) : (s.modRef i g).rdPool = s.rdPool := rfl
@[simp] theorem State.modRef_dlk (s : State) (i : Nat) (g : RefIn → RefIn) : (s.modRef i g).dlk = s.dlk := rfl
@[simp] theorem State.modRef_fTether (s : State) (i : Nat) (g : RefIn → RefIn) : (s.modRef i g).fTether = s.fTether := rfl
@[simp] theorem State.modRef_srv (s : State) (i : Nat) (g : RefIn → RefIn) : (s.modRef i g).srv = s.srv := rfl
@[simp] theorem State.modRef_cle (s : State) (i : Nat) (g : RefIn → RefIn) : (s.modRef i g).cle = s.cle := rfl
@[simp] theorem State.modRef_spn (s : State) (i : Nat) (g : RefIn → RefIn) : (s.modRef i g).spn = s.spn := rfl
@[simp] theorem State.modRef_seqs (s : State) (i : Nat) (g : RefIn → RefIn) : (s.modRef i g).seqs = s.seqs := rfl
@[simp] theorem State.modRef_hif (s : State) (i : Nat) (g : RefIn → RefIn) : (s.modRef i g).hif = s.hif := rfl
@[simp] theorem State.modRef_sys (s : State) (i : Nat) (g : RefIn → RefIn) : (s.modRef i g).sys = s.sys := rfl
@[simp] theorem State.modRef_sec (s : State) (i : Nat) (g : RefIn → RefIn) : (s.modRef i g).sec = s.sec := rfl
@[simp] theorem State.modRef_lost (s : State) (i : Nat) (g : RefIn → RefIn) : (s.modRef i g).lost = s.lost := rfl
@[simp] theorem State.modRef_pending (s : State) (i : Nat) (g : RefIn → RefIn) : (s.modRef i g).pending = s.pending := rfl
@[simp] theorem State.modCtl_now (s : State) (n : Nat) (g : Ctl → Ctl) : (s.modCtl n g).now = s.now := rfl
@[simp] theorem State.modCtl_free (s : State) (n : Nat) (g : Ctl → Ctl) : (s.modCtl n g).free = s.free := rfl
@[simp] theorem State.modCtl_crs (s : State) (n : Nat) (g : Ctl → Ctl) : (s.modCtl n g).crs = s.crs := rfl
@[simp] theorem State.modCtl_hold (s : State) (n : Nat) (g : Ctl → Ctl) : (s.modCtl n g).hold = s.hold := rfl
@[simp] theorem State.modCtl_rdOut (s : State) (n : Nat) (g : Ctl → Ctl) : (s.modCtl n g).rdOut = s.rdOut := rfl
@[simp] theorem State.modCtl_tbDrift (s : State) (n : Nat) (g : Ctl → Ctl) : (s.modCtl n g).tbDrift = s.tbDrift := rfl
@[simp] theorem State.modCtl_tieLast (s : State) (n : Nat) (g : Ctl → Ctl) : (s.modCtl n g).tieLast = s.tieLast := rfl
@[simp] theorem State.modCtl_flt (s : State) (n : Nat) (g : Ctl → Ctl) : (s.modCtl n g).flt = s.flt := rfl
@[simp] theorem State.modCtl_ldg (s : State) (n : Nat) (g : Ctl → Ctl) : (s.modCtl n g).ldg = s.ldg := rfl
@[simp] theorem State.modCtl_nor (s : State) (n : Nat) (g : Ctl → Ctl) : (s.modCtl n g).nor = s.nor := rfl
@[simp] theorem State.modCtl_mem (s : State) (n : Nat) (g : Ctl → Ctl) : (s.modCtl n g).mem = s.mem := rfl
@[simp] theorem State.modCtl_ms (s : State) (n : Nat) (g : Ctl → Ctl) : (s.modCtl n g).ms = s.ms := rfl
@[simp] theorem State.modCtl_dep (s : State) (n : Nat) (g : Ctl → Ctl) : (s.modCtl n g).dep = s.dep := rfl
@[simp] theorem State.modCtl_cvyEng (s : State) (n : Nat) (g : Ctl → Ctl) : (s.modCtl n g).cvyEng = s.cvyEng := rfl
@[simp] theorem State.modCtl_cvyChan (s : State) (n : Nat) (g : Ctl → Ctl) : (s.modCtl n g).cvyChan = s.cvyChan := rfl
@[simp] theorem State.modCtl_dataMem (s : State) (n : Nat) (g : Ctl → Ctl) : (s.modCtl n g).dataMem = s.dataMem := rfl
@[simp] theorem State.modCtl_rte (s : State) (n : Nat) (g : Ctl → Ctl) : (s.modCtl n g).rte = s.rte := rfl
@[simp] theorem State.modCtl_comp (s : State) (n : Nat) (g : Ctl → Ctl) : (s.modCtl n g).comp = s.comp := rfl
@[simp] theorem State.modCtl_decomp (s : State) (n : Nat) (g : Ctl → Ctl) : (s.modCtl n g).decomp = s.decomp := rfl
@[simp] theorem State.modCtl_heads (s : State) (n : Nat) (g : Ctl → Ctl) : (s.modCtl n g).heads = s.heads := rfl
@[simp] theorem State.modCtl_ioTodo (s : State) (n : Nat) (g : Ctl → Ctl) : (s.modCtl n g).ioTodo = s.ioTodo := rfl
@[simp] theorem State.modCtl_grown (s : State) (n : Nat) (g : Ctl → Ctl) : (s.modCtl n g).grown = s.grown := rfl
@[simp] theorem State.modCtl_rdPool (s : State) (n : Nat) (g : Ctl → Ctl) : (s.modCtl n g).rdPool = s.rdPool := rfl
@[simp] theorem State.modCtl_dlk (s : State) (n : Nat) (g : Ctl → Ctl) : (s.modCtl n g).dlk = s.dlk := rfl
@[simp] theorem State.modCtl_fTether (s : State) (n : Nat) (g : Ctl → Ctl) : (s.modCtl n g).fTether = s.fTether := rfl
@[simp] theorem State.modCtl_srv (s : State) (n : Nat) (g : Ctl → Ctl) : (s.modCtl n g).srv = s.srv := rfl
@[simp] theorem State.modCtl_cle (s : State) (n : Nat) (g : Ctl → Ctl) : (s.modCtl n g).cle = s.cle := rfl
@[simp] theorem State.modCtl_spn (s : State) (n : Nat) (g : Ctl → Ctl) : (s.modCtl n g).spn = s.spn := rfl
@[simp] theorem State.modCtl_tth (s : State) (n : Nat) (g : Ctl → Ctl) : (s.modCtl n g).tth = s.tth := rfl
@[simp] theorem State.modCtl_seqs (s : State) (n : Nat) (g : Ctl → Ctl) : (s.modCtl n g).seqs = s.seqs := rfl
@[simp] theorem State.modCtl_sys (s : State) (n : Nat) (g : Ctl → Ctl) : (s.modCtl n g).sys = s.sys := rfl
@[simp] theorem State.modCtl_sec (s : State) (n : Nat) (g : Ctl → Ctl) : (s.modCtl n g).sec = s.sec := rfl
@[simp] theorem State.modCtl_lost (s : State) (n : Nat) (g : Ctl → Ctl) : (s.modCtl n g).lost = s.lost := rfl
@[simp] theorem State.modCtl_pending (s : State) (n : Nat) (g : Ctl → Ctl) : (s.modCtl n g).pending = s.pending := rfl
@[simp] theorem State.setEng_now (s : State) (e : Nat) (x : CvyEng) : (s.setEng e x).now = s.now := rfl
@[simp] theorem State.setEng_free (s : State) (e : Nat) (x : CvyEng) : (s.setEng e x).free = s.free := rfl
@[simp] theorem State.setEng_crs (s : State) (e : Nat) (x : CvyEng) : (s.setEng e x).crs = s.crs := rfl
@[simp] theorem State.setEng_hold (s : State) (e : Nat) (x : CvyEng) : (s.setEng e x).hold = s.hold := rfl
@[simp] theorem State.setEng_rdOut (s : State) (e : Nat) (x : CvyEng) : (s.setEng e x).rdOut = s.rdOut := rfl
@[simp] theorem State.setEng_tbDrift (s : State) (e : Nat) (x : CvyEng) : (s.setEng e x).tbDrift = s.tbDrift := rfl
@[simp] theorem State.setEng_tieLast (s : State) (e : Nat) (x : CvyEng) : (s.setEng e x).tieLast = s.tieLast := rfl
@[simp] theorem State.setEng_flt (s : State) (e : Nat) (x : CvyEng) : (s.setEng e x).flt = s.flt := rfl
@[simp] theorem State.setEng_ldg (s : State) (e : Nat) (x : CvyEng) : (s.setEng e x).ldg = s.ldg := rfl
@[simp] theorem State.setEng_nor (s : State) (e : Nat) (x : CvyEng) : (s.setEng e x).nor = s.nor := rfl
@[simp] theorem State.setEng_mem (s : State) (e : Nat) (x : CvyEng) : (s.setEng e x).mem = s.mem := rfl
@[simp] theorem State.setEng_ms (s : State) (e : Nat) (x : CvyEng) : (s.setEng e x).ms = s.ms := rfl
@[simp] theorem State.setEng_dep (s : State) (e : Nat) (x : CvyEng) : (s.setEng e x).dep = s.dep := rfl
@[simp] theorem State.setEng_cvyEng (s : State) (e : Nat) (x : CvyEng) : (s.setEng e x).cvyEng = s.cvyEng.set e x := rfl
@[simp] theorem State.setEng_cvyChan (s : State) (e : Nat) (x : CvyEng) : (s.setEng e x).cvyChan = s.cvyChan := rfl
@[simp] theorem State.setEng_dataMem (s : State) (e : Nat) (x : CvyEng) : (s.setEng e x).dataMem = s.dataMem := rfl
@[simp] theorem State.setEng_rte (s : State) (e : Nat) (x : CvyEng) : (s.setEng e x).rte = s.rte := rfl
@[simp] theorem State.setEng_comp (s : State) (e : Nat) (x : CvyEng) : (s.setEng e x).comp = s.comp := rfl
@[simp] theorem State.setEng_decomp (s : State) (e : Nat) (x : CvyEng) : (s.setEng e x).decomp = s.decomp := rfl
@[simp] theorem State.setEng_heads (s : State) (e : Nat) (x : CvyEng) : (s.setEng e x).heads = s.heads := rfl
@[simp] theorem State.setEng_ioTodo (s : State) (e : Nat) (x : CvyEng) : (s.setEng e x).ioTodo = s.ioTodo := rfl
@[simp] theorem State.setEng_grown (s : State) (e : Nat) (x : CvyEng) : (s.setEng e x).grown = s.grown := rfl
@[simp] theorem State.setEng_rdPool (s : State) (e : Nat) (x : CvyEng) : (s.setEng e x).rdPool = s.rdPool := rfl
@[simp] theorem State.setEng_dlk (s : State) (e : Nat) (x : CvyEng) : (s.setEng e x).dlk = s.dlk := rfl
@[simp] theorem State.setEng_fTether (s : State) (e : Nat) (x : CvyEng) : (s.setEng e x).fTether = s.fTether := rfl
@[simp] theorem State.setEng_srv (s : State) (e : Nat) (x : CvyEng) : (s.setEng e x).srv = s.srv := rfl
@[simp] theorem State.setEng_cle (s : State) (e : Nat) (x : CvyEng) : (s.setEng e x).cle = s.cle := rfl
@[simp] theorem State.setEng_spn (s : State) (e : Nat) (x : CvyEng) : (s.setEng e x).spn = s.spn := rfl
@[simp] theorem State.setEng_tth (s : State) (e : Nat) (x : CvyEng) : (s.setEng e x).tth = s.tth := rfl
@[simp] theorem State.setEng_seqs (s : State) (e : Nat) (x : CvyEng) : (s.setEng e x).seqs = s.seqs := rfl
@[simp] theorem State.setEng_hif (s : State) (e : Nat) (x : CvyEng) : (s.setEng e x).hif = s.hif := rfl
@[simp] theorem State.setEng_sys (s : State) (e : Nat) (x : CvyEng) : (s.setEng e x).sys = s.sys := rfl
@[simp] theorem State.setEng_sec (s : State) (e : Nat) (x : CvyEng) : (s.setEng e x).sec = s.sec := rfl
@[simp] theorem State.setEng_lost (s : State) (e : Nat) (x : CvyEng) : (s.setEng e x).lost = s.lost := rfl
@[simp] theorem State.setEng_pending (s : State) (e : Nat) (x : CvyEng) : (s.setEng e x).pending = s.pending := rfl
@[simp] theorem State.setChan_now (s : State) (e c : Nat) (x : CvyChan) : (s.setChan e c x).now = s.now := rfl
@[simp] theorem State.setChan_free (s : State) (e c : Nat) (x : CvyChan) : (s.setChan e c x).free = s.free := rfl
@[simp] theorem State.setChan_crs (s : State) (e c : Nat) (x : CvyChan) : (s.setChan e c x).crs = s.crs := rfl
@[simp] theorem State.setChan_hold (s : State) (e c : Nat) (x : CvyChan) : (s.setChan e c x).hold = s.hold := rfl
@[simp] theorem State.setChan_rdOut (s : State) (e c : Nat) (x : CvyChan) : (s.setChan e c x).rdOut = s.rdOut := rfl
@[simp] theorem State.setChan_tbDrift (s : State) (e c : Nat) (x : CvyChan) : (s.setChan e c x).tbDrift = s.tbDrift := rfl
@[simp] theorem State.setChan_tieLast (s : State) (e c : Nat) (x : CvyChan) : (s.setChan e c x).tieLast = s.tieLast := rfl
@[simp] theorem State.setChan_flt (s : State) (e c : Nat) (x : CvyChan) : (s.setChan e c x).flt = s.flt := rfl
@[simp] theorem State.setChan_ldg (s : State) (e c : Nat) (x : CvyChan) : (s.setChan e c x).ldg = s.ldg := rfl
@[simp] theorem State.setChan_nor (s : State) (e c : Nat) (x : CvyChan) : (s.setChan e c x).nor = s.nor := rfl
@[simp] theorem State.setChan_mem (s : State) (e c : Nat) (x : CvyChan) : (s.setChan e c x).mem = s.mem := rfl
@[simp] theorem State.setChan_ms (s : State) (e c : Nat) (x : CvyChan) : (s.setChan e c x).ms = s.ms := rfl
@[simp] theorem State.setChan_dep (s : State) (e c : Nat) (x : CvyChan) : (s.setChan e c x).dep = s.dep := rfl
@[simp] theorem State.setChan_cvyEng (s : State) (e c : Nat) (x : CvyChan) : (s.setChan e c x).cvyEng = s.cvyEng := rfl
@[simp] theorem State.setChan_cvyChan (s : State) (e c : Nat) (x : CvyChan) : (s.setChan e c x).cvyChan = s.cvyChan.set (32 * e + c) x := rfl
@[simp] theorem State.setChan_dataMem (s : State) (e c : Nat) (x : CvyChan) : (s.setChan e c x).dataMem = s.dataMem := rfl
@[simp] theorem State.setChan_rte (s : State) (e c : Nat) (x : CvyChan) : (s.setChan e c x).rte = s.rte := rfl
@[simp] theorem State.setChan_comp (s : State) (e c : Nat) (x : CvyChan) : (s.setChan e c x).comp = s.comp := rfl
@[simp] theorem State.setChan_decomp (s : State) (e c : Nat) (x : CvyChan) : (s.setChan e c x).decomp = s.decomp := rfl
@[simp] theorem State.setChan_heads (s : State) (e c : Nat) (x : CvyChan) : (s.setChan e c x).heads = s.heads := rfl
@[simp] theorem State.setChan_ioTodo (s : State) (e c : Nat) (x : CvyChan) : (s.setChan e c x).ioTodo = s.ioTodo := rfl
@[simp] theorem State.setChan_grown (s : State) (e c : Nat) (x : CvyChan) : (s.setChan e c x).grown = s.grown := rfl
@[simp] theorem State.setChan_rdPool (s : State) (e c : Nat) (x : CvyChan) : (s.setChan e c x).rdPool = s.rdPool := rfl
@[simp] theorem State.setChan_dlk (s : State) (e c : Nat) (x : CvyChan) : (s.setChan e c x).dlk = s.dlk := rfl
@[simp] theorem State.setChan_fTether (s : State) (e c : Nat) (x : CvyChan) : (s.setChan e c x).fTether = s.fTether := rfl
@[simp] theorem State.setChan_srv (s : State) (e c : Nat) (x : CvyChan) : (s.setChan e c x).srv = s.srv := rfl
@[simp] theorem State.setChan_cle (s : State) (e c : Nat) (x : CvyChan) : (s.setChan e c x).cle = s.cle := rfl
@[simp] theorem State.setChan_spn (s : State) (e c : Nat) (x : CvyChan) : (s.setChan e c x).spn = s.spn := rfl
@[simp] theorem State.setChan_tth (s : State) (e c : Nat) (x : CvyChan) : (s.setChan e c x).tth = s.tth := rfl
@[simp] theorem State.setChan_seqs (s : State) (e c : Nat) (x : CvyChan) : (s.setChan e c x).seqs = s.seqs := rfl
@[simp] theorem State.setChan_hif (s : State) (e c : Nat) (x : CvyChan) : (s.setChan e c x).hif = s.hif := rfl
@[simp] theorem State.setChan_sys (s : State) (e c : Nat) (x : CvyChan) : (s.setChan e c x).sys = s.sys := rfl
@[simp] theorem State.setChan_sec (s : State) (e c : Nat) (x : CvyChan) : (s.setChan e c x).sec = s.sec := rfl
@[simp] theorem State.setChan_lost (s : State) (e c : Nat) (x : CvyChan) : (s.setChan e c x).lost = s.lost := rfl
@[simp] theorem State.setChan_pending (s : State) (e c : Nat) (x : CvyChan) : (s.setChan e c x).pending = s.pending := rfl
@[simp] theorem State.setLane_now (s : State) (n : Nat) (l : CompLane) : (s.setLane n l).now = s.now := rfl
@[simp] theorem State.setLane_free (s : State) (n : Nat) (l : CompLane) : (s.setLane n l).free = s.free := rfl
@[simp] theorem State.setLane_crs (s : State) (n : Nat) (l : CompLane) : (s.setLane n l).crs = s.crs := rfl
@[simp] theorem State.setLane_hold (s : State) (n : Nat) (l : CompLane) : (s.setLane n l).hold = s.hold := rfl
@[simp] theorem State.setLane_rdOut (s : State) (n : Nat) (l : CompLane) : (s.setLane n l).rdOut = s.rdOut := rfl
@[simp] theorem State.setLane_tbDrift (s : State) (n : Nat) (l : CompLane) : (s.setLane n l).tbDrift = s.tbDrift := rfl
@[simp] theorem State.setLane_tieLast (s : State) (n : Nat) (l : CompLane) : (s.setLane n l).tieLast = s.tieLast := rfl
@[simp] theorem State.setLane_flt (s : State) (n : Nat) (l : CompLane) : (s.setLane n l).flt = s.flt := rfl
@[simp] theorem State.setLane_ldg (s : State) (n : Nat) (l : CompLane) : (s.setLane n l).ldg = s.ldg := rfl
@[simp] theorem State.setLane_nor (s : State) (n : Nat) (l : CompLane) : (s.setLane n l).nor = s.nor := rfl
@[simp] theorem State.setLane_mem (s : State) (n : Nat) (l : CompLane) : (s.setLane n l).mem = s.mem := rfl
@[simp] theorem State.setLane_ms (s : State) (n : Nat) (l : CompLane) : (s.setLane n l).ms = s.ms := rfl
@[simp] theorem State.setLane_dep (s : State) (n : Nat) (l : CompLane) : (s.setLane n l).dep = s.dep := rfl
@[simp] theorem State.setLane_cvyEng (s : State) (n : Nat) (l : CompLane) : (s.setLane n l).cvyEng = s.cvyEng := rfl
@[simp] theorem State.setLane_cvyChan (s : State) (n : Nat) (l : CompLane) : (s.setLane n l).cvyChan = s.cvyChan := rfl
@[simp] theorem State.setLane_dataMem (s : State) (n : Nat) (l : CompLane) : (s.setLane n l).dataMem = s.dataMem := rfl
@[simp] theorem State.setLane_rte (s : State) (n : Nat) (l : CompLane) : (s.setLane n l).rte = s.rte := rfl
@[simp] theorem State.setLane_comp (s : State) (n : Nat) (l : CompLane) : (s.setLane n l).comp = s.comp.set n l := rfl
@[simp] theorem State.setLane_decomp (s : State) (n : Nat) (l : CompLane) : (s.setLane n l).decomp = s.decomp := rfl
@[simp] theorem State.setLane_heads (s : State) (n : Nat) (l : CompLane) : (s.setLane n l).heads = s.heads := rfl
@[simp] theorem State.setLane_ioTodo (s : State) (n : Nat) (l : CompLane) : (s.setLane n l).ioTodo = s.ioTodo := rfl
@[simp] theorem State.setLane_grown (s : State) (n : Nat) (l : CompLane) : (s.setLane n l).grown = s.grown := rfl
@[simp] theorem State.setLane_rdPool (s : State) (n : Nat) (l : CompLane) : (s.setLane n l).rdPool = s.rdPool := rfl
@[simp] theorem State.setLane_dlk (s : State) (n : Nat) (l : CompLane) : (s.setLane n l).dlk = s.dlk := rfl
@[simp] theorem State.setLane_fTether (s : State) (n : Nat) (l : CompLane) : (s.setLane n l).fTether = s.fTether := rfl
@[simp] theorem State.setLane_srv (s : State) (n : Nat) (l : CompLane) : (s.setLane n l).srv = s.srv := rfl
@[simp] theorem State.setLane_cle (s : State) (n : Nat) (l : CompLane) : (s.setLane n l).cle = s.cle := rfl
@[simp] theorem State.setLane_spn (s : State) (n : Nat) (l : CompLane) : (s.setLane n l).spn = s.spn := rfl
@[simp] theorem State.setLane_tth (s : State) (n : Nat) (l : CompLane) : (s.setLane n l).tth = s.tth := rfl
@[simp] theorem State.setLane_seqs (s : State) (n : Nat) (l : CompLane) : (s.setLane n l).seqs = s.seqs := rfl
@[simp] theorem State.setLane_hif (s : State) (n : Nat) (l : CompLane) : (s.setLane n l).hif = s.hif := rfl
@[simp] theorem State.setLane_sys (s : State) (n : Nat) (l : CompLane) : (s.setLane n l).sys = s.sys := rfl
@[simp] theorem State.setLane_sec (s : State) (n : Nat) (l : CompLane) : (s.setLane n l).sec = s.sec := rfl
@[simp] theorem State.setLane_lost (s : State) (n : Nat) (l : CompLane) : (s.setLane n l).lost = s.lost := rfl
@[simp] theorem State.setLane_pending (s : State) (n : Nat) (l : CompLane) : (s.setLane n l).pending = s.pending := rfl
@[simp] theorem State.setDlane_now (s : State) (n : Nat) (l : DecompLane) : (s.setDlane n l).now = s.now := rfl
@[simp] theorem State.setDlane_free (s : State) (n : Nat) (l : DecompLane) : (s.setDlane n l).free = s.free := rfl
@[simp] theorem State.setDlane_crs (s : State) (n : Nat) (l : DecompLane) : (s.setDlane n l).crs = s.crs := rfl
@[simp] theorem State.setDlane_hold (s : State) (n : Nat) (l : DecompLane) : (s.setDlane n l).hold = s.hold := rfl
@[simp] theorem State.setDlane_rdOut (s : State) (n : Nat) (l : DecompLane) : (s.setDlane n l).rdOut = s.rdOut := rfl
@[simp] theorem State.setDlane_tbDrift (s : State) (n : Nat) (l : DecompLane) : (s.setDlane n l).tbDrift = s.tbDrift := rfl
@[simp] theorem State.setDlane_tieLast (s : State) (n : Nat) (l : DecompLane) : (s.setDlane n l).tieLast = s.tieLast := rfl
@[simp] theorem State.setDlane_flt (s : State) (n : Nat) (l : DecompLane) : (s.setDlane n l).flt = s.flt := rfl
@[simp] theorem State.setDlane_ldg (s : State) (n : Nat) (l : DecompLane) : (s.setDlane n l).ldg = s.ldg := rfl
@[simp] theorem State.setDlane_nor (s : State) (n : Nat) (l : DecompLane) : (s.setDlane n l).nor = s.nor := rfl
@[simp] theorem State.setDlane_mem (s : State) (n : Nat) (l : DecompLane) : (s.setDlane n l).mem = s.mem := rfl
@[simp] theorem State.setDlane_ms (s : State) (n : Nat) (l : DecompLane) : (s.setDlane n l).ms = s.ms := rfl
@[simp] theorem State.setDlane_dep (s : State) (n : Nat) (l : DecompLane) : (s.setDlane n l).dep = s.dep := rfl
@[simp] theorem State.setDlane_cvyEng (s : State) (n : Nat) (l : DecompLane) : (s.setDlane n l).cvyEng = s.cvyEng := rfl
@[simp] theorem State.setDlane_cvyChan (s : State) (n : Nat) (l : DecompLane) : (s.setDlane n l).cvyChan = s.cvyChan := rfl
@[simp] theorem State.setDlane_dataMem (s : State) (n : Nat) (l : DecompLane) : (s.setDlane n l).dataMem = s.dataMem := rfl
@[simp] theorem State.setDlane_rte (s : State) (n : Nat) (l : DecompLane) : (s.setDlane n l).rte = s.rte := rfl
@[simp] theorem State.setDlane_comp (s : State) (n : Nat) (l : DecompLane) : (s.setDlane n l).comp = s.comp := rfl
@[simp] theorem State.setDlane_decomp (s : State) (n : Nat) (l : DecompLane) : (s.setDlane n l).decomp = s.decomp.set n l := rfl
@[simp] theorem State.setDlane_heads (s : State) (n : Nat) (l : DecompLane) : (s.setDlane n l).heads = s.heads := rfl
@[simp] theorem State.setDlane_ioTodo (s : State) (n : Nat) (l : DecompLane) : (s.setDlane n l).ioTodo = s.ioTodo := rfl
@[simp] theorem State.setDlane_grown (s : State) (n : Nat) (l : DecompLane) : (s.setDlane n l).grown = s.grown := rfl
@[simp] theorem State.setDlane_rdPool (s : State) (n : Nat) (l : DecompLane) : (s.setDlane n l).rdPool = s.rdPool := rfl
@[simp] theorem State.setDlane_dlk (s : State) (n : Nat) (l : DecompLane) : (s.setDlane n l).dlk = s.dlk := rfl
@[simp] theorem State.setDlane_fTether (s : State) (n : Nat) (l : DecompLane) : (s.setDlane n l).fTether = s.fTether := rfl
@[simp] theorem State.setDlane_srv (s : State) (n : Nat) (l : DecompLane) : (s.setDlane n l).srv = s.srv := rfl
@[simp] theorem State.setDlane_cle (s : State) (n : Nat) (l : DecompLane) : (s.setDlane n l).cle = s.cle := rfl
@[simp] theorem State.setDlane_spn (s : State) (n : Nat) (l : DecompLane) : (s.setDlane n l).spn = s.spn := rfl
@[simp] theorem State.setDlane_tth (s : State) (n : Nat) (l : DecompLane) : (s.setDlane n l).tth = s.tth := rfl
@[simp] theorem State.setDlane_seqs (s : State) (n : Nat) (l : DecompLane) : (s.setDlane n l).seqs = s.seqs := rfl
@[simp] theorem State.setDlane_hif (s : State) (n : Nat) (l : DecompLane) : (s.setDlane n l).hif = s.hif := rfl
@[simp] theorem State.setDlane_sys (s : State) (n : Nat) (l : DecompLane) : (s.setDlane n l).sys = s.sys := rfl
@[simp] theorem State.setDlane_sec (s : State) (n : Nat) (l : DecompLane) : (s.setDlane n l).sec = s.sec := rfl
@[simp] theorem State.setDlane_lost (s : State) (n : Nat) (l : DecompLane) : (s.setDlane n l).lost = s.lost := rfl
@[simp] theorem State.setDlane_pending (s : State) (n : Nat) (l : DecompLane) : (s.setDlane n l).pending = s.pending := rfl
@[simp] theorem State.setBand_now (s : State) (b : Nat) (x : Band) : (s.setBand b x).now = s.now := rfl
@[simp] theorem State.setBand_free (s : State) (b : Nat) (x : Band) : (s.setBand b x).free = s.free := rfl
@[simp] theorem State.setBand_crs (s : State) (b : Nat) (x : Band) : (s.setBand b x).crs = s.crs := rfl
@[simp] theorem State.setBand_hold (s : State) (b : Nat) (x : Band) : (s.setBand b x).hold = s.hold := rfl
@[simp] theorem State.setBand_rdOut (s : State) (b : Nat) (x : Band) : (s.setBand b x).rdOut = s.rdOut := rfl
@[simp] theorem State.setBand_tbDrift (s : State) (b : Nat) (x : Band) : (s.setBand b x).tbDrift = s.tbDrift := rfl
@[simp] theorem State.setBand_tieLast (s : State) (b : Nat) (x : Band) : (s.setBand b x).tieLast = s.tieLast := rfl
@[simp] theorem State.setBand_flt (s : State) (b : Nat) (x : Band) : (s.setBand b x).flt = s.flt := rfl
@[simp] theorem State.setBand_ldg (s : State) (b : Nat) (x : Band) : (s.setBand b x).ldg = s.ldg := rfl
@[simp] theorem State.setBand_nor (s : State) (b : Nat) (x : Band) : (s.setBand b x).nor = s.nor := rfl
@[simp] theorem State.setBand_mem (s : State) (b : Nat) (x : Band) : (s.setBand b x).mem = s.mem := rfl
@[simp] theorem State.setBand_ms (s : State) (b : Nat) (x : Band) : (s.setBand b x).ms = s.ms := rfl
@[simp] theorem State.setBand_dep (s : State) (b : Nat) (x : Band) : (s.setBand b x).dep = s.dep := rfl
@[simp] theorem State.setBand_cvyEng (s : State) (b : Nat) (x : Band) : (s.setBand b x).cvyEng = s.cvyEng := rfl
@[simp] theorem State.setBand_cvyChan (s : State) (b : Nat) (x : Band) : (s.setBand b x).cvyChan = s.cvyChan := rfl
@[simp] theorem State.setBand_dataMem (s : State) (b : Nat) (x : Band) : (s.setBand b x).dataMem = s.dataMem := rfl
@[simp] theorem State.setBand_comp (s : State) (b : Nat) (x : Band) : (s.setBand b x).comp = s.comp := rfl
@[simp] theorem State.setBand_decomp (s : State) (b : Nat) (x : Band) : (s.setBand b x).decomp = s.decomp := rfl
@[simp] theorem State.setBand_heads (s : State) (b : Nat) (x : Band) : (s.setBand b x).heads = s.heads := rfl
@[simp] theorem State.setBand_ioTodo (s : State) (b : Nat) (x : Band) : (s.setBand b x).ioTodo = s.ioTodo := rfl
@[simp] theorem State.setBand_grown (s : State) (b : Nat) (x : Band) : (s.setBand b x).grown = s.grown := rfl
@[simp] theorem State.setBand_rdPool (s : State) (b : Nat) (x : Band) : (s.setBand b x).rdPool = s.rdPool := rfl
@[simp] theorem State.setBand_dlk (s : State) (b : Nat) (x : Band) : (s.setBand b x).dlk = s.dlk := rfl
@[simp] theorem State.setBand_fTether (s : State) (b : Nat) (x : Band) : (s.setBand b x).fTether = s.fTether := rfl
@[simp] theorem State.setBand_srv (s : State) (b : Nat) (x : Band) : (s.setBand b x).srv = s.srv := rfl
@[simp] theorem State.setBand_cle (s : State) (b : Nat) (x : Band) : (s.setBand b x).cle = s.cle := rfl
@[simp] theorem State.setBand_spn (s : State) (b : Nat) (x : Band) : (s.setBand b x).spn = s.spn := rfl
@[simp] theorem State.setBand_tth (s : State) (b : Nat) (x : Band) : (s.setBand b x).tth = s.tth := rfl
@[simp] theorem State.setBand_seqs (s : State) (b : Nat) (x : Band) : (s.setBand b x).seqs = s.seqs := rfl
@[simp] theorem State.setBand_hif (s : State) (b : Nat) (x : Band) : (s.setBand b x).hif = s.hif := rfl
@[simp] theorem State.setBand_sys (s : State) (b : Nat) (x : Band) : (s.setBand b x).sys = s.sys := rfl
@[simp] theorem State.setBand_sec (s : State) (b : Nat) (x : Band) : (s.setBand b x).sec = s.sec := rfl
@[simp] theorem State.setBand_lost (s : State) (b : Nat) (x : Band) : (s.setBand b x).lost = s.lost := rfl
@[simp] theorem State.setBand_pending (s : State) (b : Nat) (x : Band) : (s.setBand b x).pending = s.pending := rfl
@[simp] theorem State.modPath_now (s : State) (p : Nat) (g : SecPath → SecPath) : (s.modPath p g).now = s.now := rfl
@[simp] theorem State.modPath_free (s : State) (p : Nat) (g : SecPath → SecPath) : (s.modPath p g).free = s.free := rfl
@[simp] theorem State.modPath_crs (s : State) (p : Nat) (g : SecPath → SecPath) : (s.modPath p g).crs = s.crs := rfl
@[simp] theorem State.modPath_hold (s : State) (p : Nat) (g : SecPath → SecPath) : (s.modPath p g).hold = s.hold := rfl
@[simp] theorem State.modPath_rdOut (s : State) (p : Nat) (g : SecPath → SecPath) : (s.modPath p g).rdOut = s.rdOut := rfl
@[simp] theorem State.modPath_tbDrift (s : State) (p : Nat) (g : SecPath → SecPath) : (s.modPath p g).tbDrift = s.tbDrift := rfl
@[simp] theorem State.modPath_tieLast (s : State) (p : Nat) (g : SecPath → SecPath) : (s.modPath p g).tieLast = s.tieLast := rfl
@[simp] theorem State.modPath_flt (s : State) (p : Nat) (g : SecPath → SecPath) : (s.modPath p g).flt = s.flt := rfl
@[simp] theorem State.modPath_ldg (s : State) (p : Nat) (g : SecPath → SecPath) : (s.modPath p g).ldg = s.ldg := rfl
@[simp] theorem State.modPath_nor (s : State) (p : Nat) (g : SecPath → SecPath) : (s.modPath p g).nor = s.nor := rfl
@[simp] theorem State.modPath_mem (s : State) (p : Nat) (g : SecPath → SecPath) : (s.modPath p g).mem = s.mem := rfl
@[simp] theorem State.modPath_ms (s : State) (p : Nat) (g : SecPath → SecPath) : (s.modPath p g).ms = s.ms := rfl
@[simp] theorem State.modPath_dep (s : State) (p : Nat) (g : SecPath → SecPath) : (s.modPath p g).dep = s.dep := rfl
@[simp] theorem State.modPath_cvyEng (s : State) (p : Nat) (g : SecPath → SecPath) : (s.modPath p g).cvyEng = s.cvyEng := rfl
@[simp] theorem State.modPath_cvyChan (s : State) (p : Nat) (g : SecPath → SecPath) : (s.modPath p g).cvyChan = s.cvyChan := rfl
@[simp] theorem State.modPath_dataMem (s : State) (p : Nat) (g : SecPath → SecPath) : (s.modPath p g).dataMem = s.dataMem := rfl
@[simp] theorem State.modPath_rte (s : State) (p : Nat) (g : SecPath → SecPath) : (s.modPath p g).rte = s.rte := rfl
@[simp] theorem State.modPath_comp (s : State) (p : Nat) (g : SecPath → SecPath) : (s.modPath p g).comp = s.comp := rfl
@[simp] theorem State.modPath_decomp (s : State) (p : Nat) (g : SecPath → SecPath) : (s.modPath p g).decomp = s.decomp := rfl
@[simp] theorem State.modPath_heads (s : State) (p : Nat) (g : SecPath → SecPath) : (s.modPath p g).heads = s.heads := rfl
@[simp] theorem State.modPath_ioTodo (s : State) (p : Nat) (g : SecPath → SecPath) : (s.modPath p g).ioTodo = s.ioTodo := rfl
@[simp] theorem State.modPath_grown (s : State) (p : Nat) (g : SecPath → SecPath) : (s.modPath p g).grown = s.grown := rfl
@[simp] theorem State.modPath_rdPool (s : State) (p : Nat) (g : SecPath → SecPath) : (s.modPath p g).rdPool = s.rdPool := rfl
@[simp] theorem State.modPath_dlk (s : State) (p : Nat) (g : SecPath → SecPath) : (s.modPath p g).dlk = s.dlk := rfl
@[simp] theorem State.modPath_fTether (s : State) (p : Nat) (g : SecPath → SecPath) : (s.modPath p g).fTether = s.fTether := rfl
@[simp] theorem State.modPath_srv (s : State) (p : Nat) (g : SecPath → SecPath) : (s.modPath p g).srv = s.srv := rfl
@[simp] theorem State.modPath_cle (s : State) (p : Nat) (g : SecPath → SecPath) : (s.modPath p g).cle = s.cle := rfl
@[simp] theorem State.modPath_spn (s : State) (p : Nat) (g : SecPath → SecPath) : (s.modPath p g).spn = s.spn := rfl
@[simp] theorem State.modPath_tth (s : State) (p : Nat) (g : SecPath → SecPath) : (s.modPath p g).tth = s.tth := rfl
@[simp] theorem State.modPath_seqs (s : State) (p : Nat) (g : SecPath → SecPath) : (s.modPath p g).seqs = s.seqs := rfl
@[simp] theorem State.modPath_hif (s : State) (p : Nat) (g : SecPath → SecPath) : (s.modPath p g).hif = s.hif := rfl
@[simp] theorem State.modPath_sys (s : State) (p : Nat) (g : SecPath → SecPath) : (s.modPath p g).sys = s.sys := rfl
@[simp] theorem State.modPath_lost (s : State) (p : Nat) (g : SecPath → SecPath) : (s.modPath p g).lost = s.lost := rfl
@[simp] theorem State.modPath_pending (s : State) (p : Nat) (g : SecPath → SecPath) : (s.modPath p g).pending = s.pending := rfl

end Sys2Proof.Machine
end

