-- ==== Sys2Proof/Laws/Access.lean ====
section
/-!
SUPPORT. Accesses to the Control Register Space: what a write answers in each case of R9 to R22, and how commands end.
-/

namespace Sys2Proof.Machine

open Sys2Proof

/-! ### Writes -/

/-- A write that is taken reaches the register. -/
theorem crsWrite_takes (s : State) (p : Path) (a : Nat) (v : Word) (d : RegDesc) (h : s.takes p a v = true)
    (ha : a % 4 = 0) (ht : taskWindow a = none) (hd : regAt a = some d) (hk : arrayKeyOf a = none) :
    s.crsWrite p a 4 v = s.regWrite p a v.toNat d := by
  simp only [State.takes, Bool.and_eq_true, Bool.not_eq_true'] at h
  obtain ⟨⟨⟨⟨h0, h1⟩, h2⟩, h3⟩, h4⟩ := h
  simp [State.crsWrite, State.arrayMerge, ha, h0, h1, h2, h3, ht, h4, hd, hk]

/-- A register that is neither a status, a mask, a severity register nor an array word stores the write, and its block acts. -/
theorem regWrite_plain (s : State) (p : Path) (a : Nat) (v : Word) (d : RegDesc) (hd : regAt a = some d)
    (h1 : fltOfStat a = none) (h2 : fltOfMask a = none)
    (h3 : allFltRegs.any (fun r => (r.sevFld 0).addr == a || (r.sevFld 12).addr == a) = false) (h4 : arrayKeyOf a = none) :
    s.regWrite p a v.toNat d = (s.storeReg p a v).afterWrite a (s.rd a).toNat v.toNat := by
  have e : ∀ t : State, t.injectArray p a = t := by
    intro t
    unfold State.injectArray
    rw [h4]
    split <;> simp_all
  simp only [State.regWrite, h1, h2, h3, e, State.storeReg, hd]
  simp

/-- A locked debug port makes no access. -/
theorem crsWrite_locked (s : State) (p : Path) (a n : Nat) (v : Word) (h : s.pathReads p = false) :
    s.crsWrite p a n v = s := by
  unfold State.crsWrite
  rw [if_pos (by simp [h])]

/-- A write of another size, at an address that is no multiple of 4, or on a path without the right changes nothing in a unit
that answers. -/
theorem crsWrite_denied (s : State) (p : Path) (a n : Nat) (v : Word) (hg : s.gated a = false) (hs : s.silent a = false)
    (h : n ≠ 4 ∨ a % 4 ≠ 0 ∨ s.pathWrites p = false) : s.crsWrite p a n v = s := by
  unfold State.crsWrite
  simp only [hg, hs]
  have h' : n ≠ 4 ∨ a % 4 ≠ 0 ∨ (!s.pathWrites p) = true := by simpa using h
  rw [if_pos h']
  simp

/-- A write that the block discards changes nothing. -/
theorem crsWrite_barred (s : State) (p : Path) (a : Nat) (v : Word) (hg : s.gated a = false) (hs : s.silent a = false)
    (ht : taskWindow a = none) (h : s.writeBarred p a v.toNat = true ∨ regAt a = none) : s.crsWrite p a 4 v = s := by
  by_cases h0 : a % 4 ≠ 0 ∨ s.pathWrites p = false
  · exact crsWrite_denied s p a 4 v hg hs (.inr h0)
  · obtain ⟨h1, h2⟩ := not_or.mp h0
    simp only [ne_eq, not_not] at h1
    simp only [Bool.not_eq_false] at h2
    unfold State.crsWrite
    simp only [h1, h2, hg, hs, ht]
    rcases h with h | h
    · simp [h]
    · simp [h]

/-- A whole-word write command on a register of its block's own. -/
theorem regCmd_plain (s : State) (p : Path) (a : Nat) (v : Word) (h : s.takes p a v = true) (ha : a % 4 = 0)
    (ht : taskWindow a = none) (hd : (regAt a).isSome = true) (h1 : fltOfStat a = none) (h2 : fltOfMask a = none)
    (h3 : allFltRegs.any (fun r => (r.sevFld 0).addr == a || (r.sevFld 12).addr == a) = false) (h4 : arrayKeyOf a = none) :
    s.regCmd p a v = (s.storeReg p a v).afterWrite a (s.rd a).toNat v.toNat := by
  obtain ⟨d, hd⟩ := Option.isSome_iff_exists.mp hd
  unfold State.regCmd
  rw [crsWrite_takes s p a v d h ha ht hd h4, regWrite_plain s p a v d hd h1 h2 h3 h4]

/-- No fault status or mask register lies in an array. -/
theorem fltRegs_noArray : ∀ r ∈ allFltRegs, arrayKeyOf r.statAddr = none ∧ (r.maskAddr.bind arrayKeyOf) = none := by decide +kernel

theorem fltOfStat_noArray {a : Nat} {r : FltReg} (h : fltOfStat a = some r) : arrayKeyOf a = none := by
  have m := List.mem_of_find?_eq_some h
  have e := List.find?_some h
  rw [← beq_iff_eq.mp e]
  exact (fltRegs_noArray r m).1

theorem fltOfMask_noArray {a : Nat} {r : FltReg} (h : fltOfMask a = some r) : arrayKeyOf a = none := by
  have m := List.mem_of_find?_eq_some h
  have e : r.maskAddr = some a := by
    have := List.find?_some h
    simpa using this
  have k := (fltRegs_noArray r m).2
  rw [e] at k
  exact k
/-- A whole-word read of a register of its own that no array holds and no read clears. -/
theorem crsRead_plain (s : State) (p : Path) (a : Nat) (d : RegDesc) (ha : a % 4 = 0) (hr : s.pathReads p = true)
    (hg : s.gated a = false) (hs : s.silent a = false) (hk : arrayKeyOf a = none) (hd : regAt a = some d)
    (hc : d.hasRc = false) :
    s.crsRead p a 4 = { (s.readPair p a).2 with rdOut := some (p, bitsOf (s.readPair p a).1 0 32) } := by
  have e : s.arrayCheck a = (true, s) := by unfold State.arrayCheck; rw [hk]
  unfold State.crsRead
  simp [ha, hr, hg, hs, e, hd, hc]

/-- Bits below those that `putBits` puts stay. -/
theorem bitsOf_putBits_below (n lo w x i k : Nat) (h : i + k ≤ lo) : bitsOf (putBits n lo w x) i k = bitsOf n i k := by
  obtain ⟨j, rfl⟩ : ∃ j, lo = i + (k + j) := ⟨lo - i - k, by omega⟩
  have e : putBits n (i + (k + j)) w x
      = n % (2 ^ i * 2 ^ (k + j)) + 2 ^ i * (2 ^ k * (2 ^ j * (n / 2 ^ (i + (k + j) + w) * 2 ^ w + x % 2 ^ w))) := by
    unfold putBits
    rw [Nat.pow_add 2 (i + (k + j)) w, Nat.pow_add 2 i (k + j), Nat.pow_add 2 k j]
    ring
  unfold bitsOf
  rw [e, Nat.add_mul_div_left _ _ (Nat.two_pow_pos i), Nat.mod_mul_right_div_self, Nat.add_mul_mod_self_left, Nat.pow_add,
    Nat.mod_mul_right_mod]

/-- Bits above those that `putBits` puts stay. -/
theorem bitsOf_putBits_above (n lo w x i k : Nat) (h : lo + w ≤ i) : bitsOf (putBits n lo w x) i k = bitsOf n i k := by
  obtain ⟨j, rfl⟩ : ∃ j, i = (lo + w) + j := ⟨i - (lo + w), by omega⟩
  have h2 : x % 2 ^ w * 2 ^ lo + n % 2 ^ lo < 2 ^ (lo + w) := by
    have a1 : x % 2 ^ w + 1 ≤ 2 ^ w := Nat.mod_lt _ (Nat.two_pow_pos w)
    have a2 : n % 2 ^ lo < 2 ^ lo := Nat.mod_lt _ (Nat.two_pow_pos lo)
    have a3 : (x % 2 ^ w + 1) * 2 ^ lo ≤ 2 ^ w * 2 ^ lo := Nat.mul_le_mul_right _ a1
    rw [Nat.pow_add, Nat.mul_comm (2 ^ lo)]
    rw [Nat.add_mul, Nat.one_mul] at a3
    omega
  have e : putBits n lo w x = (x % 2 ^ w * 2 ^ lo + n % 2 ^ lo) + 2 ^ (lo + w) * (n / 2 ^ (lo + w)) := by
    unfold putBits
    ring
  unfold bitsOf
  rw [Nat.pow_add 2 (lo + w) j, ← Nat.div_div_eq_div_mul, ← Nat.div_div_eq_div_mul, e,
    Nat.add_mul_div_left _ _ (Nat.two_pow_pos _), Nat.div_eq_of_lt h2, Nat.zero_add]

/-- The bits that `withBits` puts. -/
theorem withBits_same (v : Word) (lo w x : Nat) (h : lo + w ≤ 32) : bitsOf (withBits v lo w x).toNat lo w = x % 2 ^ w := by
  unfold withBits
  rw [BitVec.toNat_ofNat, Nat.mod_eq_of_lt (putBits_lt _ _ _ _ v.isLt h), bitsOf_putBits]

/-- The bits that `withBits` leaves. -/
theorem withBits_other (v : Word) (lo w x i k : Nat) (h : lo + w ≤ 32) (hi : i + k ≤ lo ∨ lo + w ≤ i) :
    bitsOf (withBits v lo w x).toNat i k = bitsOf v.toNat i k := by
  unfold withBits
  rw [BitVec.toNat_ofNat, Nat.mod_eq_of_lt (putBits_lt _ _ _ _ v.isLt h)]
  rcases hi with hi | hi
  · exact bitsOf_putBits_below _ _ _ _ _ _ hi
  · exact bitsOf_putBits_above _ _ _ _ _ _ hi

theorem bitOf_eq (n i : Nat) : bitOf n i = (bitsOf n i 1 == 1) := by simp [bitOf, bitsOf]

/-- One bit of a write with some bits put, at the bits put and elsewhere. -/
theorem withBits_bit_same (v : Word) (i : Nat) (x : Nat) (h : i < 32) : bitOf (withBits v i 1 x).toNat i = (x % 2 == 1) := by
  rw [bitOf_eq, withBits_same v i 1 x (by omega), Nat.pow_one]

theorem withBits_bit_other (v : Word) (lo w x i : Nat) (h : lo + w ≤ 32) (hi : i < lo ∨ lo + w ≤ i) :
    bitOf (withBits v lo w x).toNat i = bitOf v.toNat i := by
  rw [bitOf_eq, bitOf_eq, withBits_other v lo w x i 1 h (by omega)]

/-! ### How commands end -/

/-- In a state in which nothing waits, what every command ends with changes nothing. -/
theorem settle_calm (s : State) (h : s.calm = true) : s.settle = s := by
  simp only [State.calm, Bool.and_eq_true, decide_eq_true_eq] at h
  obtain ⟨⟨⟨hq, hh⟩, hp⟩, ht⟩ := h
  have hc : s.servoCatchUp = s := by unfold State.servoCatchUp; simp only [Bool.not_eq_true'] at hh hp; simp only [hh, hp, Bool.false_eq_true, if_false]
  have hw : s.wedgeWatch = s := by unfold State.wedgeWatch; simp [ht]
  have h0 : s.flt.todo = [] := by
    simp only [State.quiet, Bool.and_eq_true, List.isEmpty_iff] at hq
    exact hq.1
  have ha : ∀ n, s.actAll n = s := by
    intro n
    cases n with
    | zero => rfl
    | succ n => unfold State.actAll; rw [h0]; rfl
  unfold State.settle
  simp [hq, hc, hw, ha]

/-- A command whose meaning ends with the effect `u` answers with `u`. -/
theorem answers_of {c : Instr} {s u : State} (h : exec c s = ends s u) : Answers c s u :=
  ⟨h, fun k => by rw [h]; simp [ends, settle_calm u k]⟩

end Sys2Proof.Machine
end

