-- ==== Sys2Proof/Laws/Keeps.lean ====
section
/-!
SUPPORT. Keeps: what every operation but the device resets and the passing of time leaves as it was, the time base (R29) and
the canonical form of the stores; and the lemmas by which the other Keeps files show it of each operation.
-/

namespace Sys2Proof.Machine

open Sys2Proof

set_option simprocs false

/-- `t` follows from `s` without a device reset or the passing of time: the time base stands (R29), and stores that were in their
canonical form in `s` are so in `t`. -/
structure State.Keeps (s t : State) : Prop where
  now : t.now = s.now
  canon : s.canon = true → t.canon = true

theorem canon_parts {s : State} : s.canon = true ↔ amWf regReset s.crs = true ∧ Memory.wf 0 s.mem = true ∧
    Memory.wf 0 s.dataMem = true ∧ Memory.wf 0xFF s.nor = true := by
  simp [State.canon, and_assoc]

theorem keeps_refl (s : State) : s.Keeps s := ⟨rfl, id⟩

theorem keeps_of {s0 s t : State} (h0 : t.now = s.now) (h1 : t.crs = s.crs) (h2 : t.mem = s.mem)
    (h3 : t.dataMem = s.dataMem)
    (h4 : t.nor = s.nor) (h : s0.Keeps s) : s0.Keeps t := by
  refine ⟨h0.trans h.now, fun c => ?_⟩
  have := canon_parts.1 (h.canon c)
  exact canon_parts.2 (by rw [h1, h2, h3, h4]; exact this)

/-- A state that differs from `s` in other fields only. -/
theorem keeps_mk {s0 s : State} {free hold rdOut tbDrift tieLast flt ldg ms dep cvyEng cvyChan rte comp decomp heads ioTodo grown rdPool dlk fTether srv cle spn tth seqs hif sys sec lost pending} :
    s0.Keeps (State.mk s.now free s.crs hold rdOut tbDrift tieLast flt ldg s.nor s.mem ms dep cvyEng cvyChan s.dataMem rte comp decomp heads ioTodo grown rdPool dlk fTether srv cle spn tth seqs hif sys sec lost pending) ↔ s0.Keeps s :=
  ⟨keeps_of rfl rfl rfl rfl rfl, keeps_of rfl rfl rfl rfl rfl⟩

theorem keeps_foldl {α : Type} {f : State → α → State} {l : List α} {s0 s : State}
    (hf : ∀ t x, s0.Keeps t → s0.Keeps (f t x)) (h : s0.Keeps s) : s0.Keeps (l.foldl f s) := by
  induction l generalizing s with
  | nil => exact h
  | cons x l ih => exact ih (hf s x h)

theorem keeps_snd {α : Type} {p : α × State} {a : α} {s0 t : State} (e : p = (a, t)) (h : s0.Keeps p.2) : s0.Keeps t := by
  subst e; exact h

theorem keeps_snd2 {α β : Type} {p : α × β × State} {a : α} {b : β} {s0 t : State} (e : p = (a, b, t))
    (h : s0.Keeps p.2.2) : s0.Keeps t := by
  subst e; exact h

/-- A state that differs from `s` in other fields and in the NOR, which a program or an erase has changed. -/
theorem keeps_nor {s0 s : State} {m free hold rdOut tbDrift tieLast flt ldg ms dep cvyEng cvyChan rte comp decomp heads ioTodo grown rdPool dlk fTether srv cle spn tth seqs hif sys sec lost pending}
    (hm : Memory.wf 0xFF s.nor = true → Memory.wf 0xFF m = true) (h : s0.Keeps s) :
    s0.Keeps (State.mk s.now free s.crs hold rdOut tbDrift tieLast flt ldg m s.mem ms dep cvyEng cvyChan s.dataMem rte comp decomp heads ioTodo grown rdPool dlk fTether srv cle spn tth seqs hif sys sec lost pending) :=
  ⟨h.now, fun c => by obtain ⟨h1, h2, h3, h4⟩ := canon_parts.1 (h.canon c); exact canon_parts.2 ⟨h1, h2, h3, hm h4⟩⟩

theorem keeps_norProgram {s0 s : State} {a bs free hold rdOut tbDrift tieLast flt ldg ms dep cvyEng cvyChan rte comp decomp heads ioTodo grown rdPool dlk fTether srv cle spn tth seqs hif sys sec lost pending}
    (h : s0.Keeps s) :
    s0.Keeps (State.mk s.now free s.crs hold rdOut tbDrift tieLast flt ldg (norProgram s.nor a bs) s.mem ms dep cvyEng cvyChan s.dataMem rte comp decomp heads ioTodo grown rdPool dlk fTether srv cle spn tth seqs hif sys sec lost pending) :=
  keeps_nor (norProgram_wf _ _ _) h

theorem keeps_norErase {s0 s : State} {a n free hold rdOut tbDrift tieLast flt ldg ms dep cvyEng cvyChan rte comp decomp heads ioTodo grown rdPool dlk fTether srv cle spn tth seqs hif sys sec lost pending}
    (h : s0.Keeps s) :
    s0.Keeps (State.mk s.now free s.crs hold rdOut tbDrift tieLast flt ldg (norErase s.nor a n) s.mem ms dep cvyEng cvyChan s.dataMem rte comp decomp heads ioTodo grown rdPool dlk fTether srv cle spn tth seqs hif sys sec lost pending) :=
  keeps_nor (norErase_wf _ _ _) h

/-- A state that differs from `s` in other fields and in bytes written to buffer memory. -/
theorem keeps_mem {s0 s : State} {a bs free hold rdOut tbDrift tieLast flt ldg ms dep cvyEng cvyChan rte comp decomp heads ioTodo grown rdPool dlk fTether srv cle spn tth seqs hif sys sec lost pending}
    (h : s0.Keeps s) :
    s0.Keeps (State.mk s.now free s.crs hold rdOut tbDrift tieLast flt ldg s.nor (putBytes 0 s.mem a bs) ms dep cvyEng cvyChan s.dataMem rte comp decomp heads ioTodo grown rdPool dlk fTether srv cle spn tth seqs hif sys sec lost pending) :=
  ⟨h.now, fun c => by
    obtain ⟨h1, h2, h3, h4⟩ := canon_parts.1 (h.canon c); exact canon_parts.2 ⟨h1, putBytes_wf 0 _ _ _ h2, h3, h4⟩⟩

/-- A state that differs from `s` in other fields and in bytes written to the on-chip data memory. -/
theorem keeps_dataMem {s0 s : State} {a bs free hold rdOut tbDrift tieLast flt ldg ms dep cvyEng cvyChan rte comp decomp heads ioTodo grown rdPool dlk fTether srv cle spn tth seqs hif sys sec lost pending}
    (h : s0.Keeps s) :
    s0.Keeps (State.mk s.now free s.crs hold rdOut tbDrift tieLast flt ldg s.nor s.mem ms dep cvyEng cvyChan (putBytes 0 s.dataMem a bs) rte comp decomp heads ioTodo grown rdPool dlk fTether srv cle spn tth seqs hif sys sec lost pending) :=
  ⟨h.now, fun c => by
    obtain ⟨h1, h2, h3, h4⟩ := canon_parts.1 (h.canon c); exact canon_parts.2 ⟨h1, h2, putBytes_wf 0 _ _ _ h3, h4⟩⟩

/-- What is said of a definition, its value not unfolded. -/
structure Holds {α : Sort _} (P : α → Prop) (a : α) : Prop where
  h : P a

theorem keeps_by {p q : Prop} (a : p → q) (b : p) : q := a b

theorem keeps_ite {s0 s t : State} {c : Prop} [Decidable c] (h1 : c → s0.Keeps s) (h2 : ¬c → s0.Keeps t) :
    s0.Keeps (if c then s else t) := by
  split
  · exact h1 ‹_›
  · exact h2 ‹_›

theorem keeps_snd_ite {α : Type} {s0 : State} {p q : α × State} {c : Prop} [Decidable c] (h1 : c → s0.Keeps p.2)
    (h2 : ¬c → s0.Keeps q.2) : s0.Keeps (if c then p else q).2 := by
  split
  · exact h1 ‹_›
  · exact h2 ‹_›

end Sys2Proof.Machine
end

