-- ==== Sys2Proof/Laws/KeepsBlocks.lean ====
section
/-!
SUPPORT. Keeps, one lemma for each operation of a block: the fault registers, the Ledger, buffer memory, the Depot and the Convoys.
The lemma of an operation says that it keeps the time base and the canonical form of the stores.
-/

namespace Sys2Proof.Machine

open Sys2Proof

set_option simprocs false

/-! ### Ops -/

theorem State.wr_keeps {z0 : State} (s : State) (a : Nat) (v : Word) (kpt : z0.Keeps s) :
    z0.Keeps (State.wr s a v) := by
  refine ⟨kpt.now, fun c => ?_⟩
  obtain ⟨h1, h2, h3, h4⟩ := canon_parts.1 (kpt.canon c)
  exact canon_parts.2 ⟨amWf_amSet regReset s.crs a v h1, h2, h3, h4⟩

theorem State.set_keeps {z0 : State} (s : State) (f : Fld) (x : Nat) (kpt : z0.Keeps s) :
    z0.Keeps (State.set s f x) := by
  unfold State.set
  repeat' (first | (with_reducible assumption) | (with_reducible apply State.wr_keeps))

theorem State.setFlag_keeps {z0 : State} (s : State) (f : Fld) (b : Bool) (kpt : z0.Keeps s) :
    z0.Keeps (State.setFlag s f b) := by
  unfold State.setFlag
  repeat' (first | (with_reducible assumption) | (with_reducible apply State.set_keeps))

theorem State.setInt_keeps {z0 : State} (s : State) (f : Fld) (x : Int) (kpt : z0.Keeps s) :
    z0.Keeps (State.setInt s f x) := by
  unfold State.setInt
  repeat' (first | (with_reducible assumption) | (with_reducible apply State.set_keeps))

theorem State.bump_keeps {z0 : State} (s : State) (f : Fld) (k : Nat) (kpt : z0.Keeps s) :
    z0.Keeps (State.bump s f k) := by
  unfold State.bump
  repeat' (first | (with_reducible assumption) | (with_reducible apply State.set_keeps))

theorem State.orBits_keeps {z0 : State} (s : State) (f : Fld) (m : Nat) (kpt : z0.Keeps s) :
    z0.Keeps (State.orBits s f m) := by
  unfold State.orBits
  repeat' (first | (with_reducible assumption) | (with_reducible apply State.set_keeps))

theorem State.clrBits_keeps {z0 : State} (s : State) (f : Fld) (m : Nat) (kpt : z0.Keeps s) :
    z0.Keeps (State.clrBits s f m) := by
  unfold State.clrBits
  repeat' (first | (with_reducible assumption) | (with_reducible apply State.set_keeps))

theorem State.set64_keeps {z0 : State} (s : State) (lo : Nat) (v : Nat) (kpt : z0.Keeps s) :
    z0.Keeps (State.set64 s lo v) := by
  unfold State.set64
  repeat' (first | (with_reducible assumption) | (with_reducible apply State.wr_keeps))

theorem State.draw_keeps {z0 : State} (s : State) (kpt : z0.Keeps s) :
    z0.Keeps (State.draw s).2 := by
  unfold State.draw
  repeat' (first | (with_reducible assumption) | (simp only [keeps_mk]))

theorem State.openDiv_keeps {z0 : State} (s : State) (n : Int) (d : Nat) (kpt : z0.Keeps s) :
    z0.Keeps (State.openDiv s n d).2 := by
  unfold State.openDiv
  try dsimp only
  repeat' (first | (with_reducible assumption) | (with_reducible apply State.draw_keeps)
                 | (with_reducible refine keeps_snd (by assumption) ?_)
                 | (with_reducible refine keeps_snd2 (by assumption) ?_) | split)

theorem State.nearDiv_keeps {z0 : State} (s : State) (n : Int) (d : Nat) (kpt : z0.Keeps s) :
    z0.Keeps (State.nearDiv s n d).2 := by
  unfold State.nearDiv
  repeat' (first | (with_reducible assumption) | (with_reducible apply State.openDiv_keeps) | split)

/-! ### Faults -/

theorem State.attnAssert_keeps {z0 : State} (s : State) (kpt : z0.Keeps s) :
    z0.Keeps (State.attnAssert s) := by
  unfold State.attnAssert
  repeat' (first | (with_reducible assumption) | (with_reducible apply State.set_keeps) | (simp only [keeps_mk])
                 | (with_reducible refine keeps_snd (by assumption) ?_)
                 | (with_reducible refine keeps_snd2 (by assumption) ?_) | split)

theorem State.riseSrcs_keeps {z0 : State} (s : State) (r : FltReg) (bits : List Nat) (kpt : z0.Keeps s) :
    z0.Keeps (State.riseSrcs s r bits) := by
  unfold State.riseSrcs
  try dsimp only
  repeat' (first | (with_reducible assumption) | (with_reducible apply State.attnAssert_keeps) | (intro _ _ _)
                 | (intro _ _) | (simp only [keeps_mk]) | (with_reducible refine keeps_snd (by assumption) ?_)
                 | (with_reducible refine keeps_snd2 (by assumption) ?_) | split)

theorem State.setFault_keeps {z0 : State} (s : State) (r : FltReg) (m : Nat) (kpt : z0.Keeps s) :
    z0.Keeps (State.setFault s r m) := by
  unfold State.setFault
  try dsimp only
  repeat' (first | (with_reducible assumption) | (with_reducible apply State.wr_keeps)
                 | (with_reducible apply State.riseSrcs_keeps))

theorem State.fault_keeps {z0 : State} (s : State) (r : FltReg) (b : Nat) (kpt : z0.Keeps s) :
    z0.Keeps (State.fault s r b) := by
  unfold State.fault
  repeat' (first | (with_reducible assumption) | (with_reducible apply State.setFault_keeps))

theorem State.clearFault_keeps {z0 : State} (s : State) (r : FltReg) (m : Nat) (cause : Nat) (kpt : z0.Keeps s) :
    z0.Keeps (State.clearFault s r m cause) := by
  unfold State.clearFault
  try dsimp only
  repeat' (first | (with_reducible assumption) | (with_reducible apply State.wr_keeps) | (intro _ _ _) | (intro _ _)
                 | (simp only [keeps_mk]) | split)

/-! ### Ledger -/

theorem State.ldgCount_keeps {z0 : State} (s : State) (kpt : z0.Keeps s) :
    z0.Keeps (State.ldgCount s) := by
  unfold State.ldgCount
  repeat' (first | (with_reducible assumption) | (with_reducible apply State.set_keeps))

theorem State.ldgDrop_keeps {z0 : State} (s : State) (kpt : z0.Keeps s) :
    z0.Keeps (State.ldgDrop s) := by
  unfold State.ldgDrop
  try dsimp only
  repeat' (first | (with_reducible assumption) | (with_reducible apply State.bump_keeps)
                 | (with_reducible apply State.fault_keeps) | (simp only [keeps_mk]))

theorem State.ldgQueue_keeps {z0 : State} (s : State) (r : LdgRec) (front : Bool) (kpt : z0.Keeps s) :
    z0.Keeps (State.ldgQueue s r front) := by
  unfold State.ldgQueue
  repeat' (first | (with_reducible assumption) | (with_reducible apply State.ldgCount_keeps)
                 | (with_reducible apply State.ldgDrop_keeps) | (simp only [keeps_mk]) | split)

theorem State.ldgProgram_keeps {z0 : State} (s : State) (r : LdgRec) (addr : Nat) (flags : Nat) (retry : Bool)
    (kpt : z0.Keeps s) :
    z0.Keeps (State.ldgProgram s r addr flags retry) := by
  unfold State.ldgProgram
  try dsimp only
  repeat' (first | (with_reducible assumption) | (with_reducible apply State.set_keeps) | (simp only [keeps_mk]))

theorem State.ldgHeader_keeps {z0 : State} (s : State) (k : Nat) (retry : Bool) (kpt : z0.Keeps s) :
    z0.Keeps (State.ldgHeader s k retry) := by
  unfold State.ldgHeader
  try dsimp only
  repeat' (first | (with_reducible assumption) | (with_reducible apply State.set_keeps) | (simp only [keeps_mk]))

theorem State.ldgErase_keeps {z0 : State} (s : State) (k : Nat) (kpt : z0.Keeps s) :
    z0.Keeps (State.ldgErase s k) := by
  unfold State.ldgErase
  try dsimp only
  repeat' (first | (with_reducible assumption) | (with_reducible apply State.set_keeps) | (simp only [keeps_mk]) | split)

theorem State.ldgRest_keeps {z0 : State} (s : State) (kpt : z0.Keeps s) :
    z0.Keeps (State.ldgRest s) := by
  unfold State.ldgRest
  repeat' (first | (with_reducible assumption) | (with_reducible apply State.set_keeps))

theorem State.ldgRoll_keeps {z0 : State} (s : State) (r : LdgRec) (spilled : Bool) (retry : Bool) (kpt : z0.Keeps s) :
    z0.Keeps (State.ldgRoll s r spilled retry) := by
  unfold State.ldgRoll
  try dsimp only
  repeat' (first | (with_reducible assumption) | (with_reducible apply State.set_keeps)
                 | (with_reducible apply State.ldgProgram_keeps) | (with_reducible apply State.ldgHeader_keeps)
                 | (with_reducible apply State.ldgCount_keeps) | (with_reducible apply State.ldgRest_keeps)
                 | (simp only [keeps_mk]) | (with_reducible refine keeps_snd (by assumption) ?_)
                 | (with_reducible refine keeps_snd2 (by assumption) ?_) | split)

theorem State.setFptr_keeps {z0 : State} (s : State) (p : Nat) (kpt : z0.Keeps s) :
    z0.Keeps (State.setFptr s p) := by
  unfold State.setFptr
  repeat' (first | (with_reducible assumption) | (with_reducible apply State.set_keeps)
                 | (with_reducible apply State.setFlag_keeps))

theorem State.ldgPlace_keeps {z0 : State} (s : State) (r : LdgRec) (retry : Bool) (kpt : z0.Keeps s) :
    z0.Keeps (State.ldgPlace s r retry) := by
  unfold State.ldgPlace
  try dsimp only
  repeat' (first | (with_reducible assumption) | (with_reducible apply State.setFptr_keeps)
                 | (with_reducible apply State.ldgProgram_keeps) | (with_reducible apply State.setFlag_keeps)
                 | (with_reducible apply State.fault_keeps) | (with_reducible apply State.ldgRoll_keeps) | split)

theorem State.ldgLost_keeps {z0 : State} (s : State) (kpt : z0.Keeps s) :
    z0.Keeps (State.ldgLost s) := by
  unfold State.ldgLost
  try dsimp only
  repeat' (first | (with_reducible assumption) | (with_reducible apply State.ldgQueue_keeps) | (simp only [keeps_mk])
                 | split)

theorem State.ldgKick_keeps {z0 : State} (s : State) (kpt : z0.Keeps s) :
    z0.Keeps (State.ldgKick s) := by
  unfold State.ldgKick
  try dsimp only
  repeat' (first | (with_reducible assumption) | (with_reducible apply State.ldgRest_keeps)
                 | (with_reducible apply State.ldgCount_keeps) | (with_reducible apply State.ldgLost_keeps)
                 | (with_reducible apply State.ldgPlace_keeps) | (simp only [keeps_mk])
                 | (with_reducible refine keeps_snd (by assumption) ?_)
                 | (with_reducible refine keeps_snd2 (by assumption) ?_) | split)

theorem State.ldgRaise_keeps {z0 : State} (s : State) (code : Nat) (payload : List Byte) (kpt : z0.Keeps s) :
    z0.Keeps (State.ldgRaise s code payload) := by
  unfold State.ldgRaise
  try dsimp only
  repeat' (first | (with_reducible assumption) | (with_reducible apply State.ldgDrop_keeps)
                 | (with_reducible apply State.ldgQueue_keeps) | (with_reducible apply State.ldgKick_keeps)
                 | (simp only [keeps_mk]) | split)

theorem State.ldgLastWord_keeps {z0 : State} (s : State) (code : Nat) (payload : List Byte) (kpt : z0.Keeps s) :
    z0.Keeps (State.ldgLastWord s code payload) := by
  unfold State.ldgLastWord
  try dsimp only
  repeat' (first | (with_reducible assumption) | (with_reducible apply State.ldgQueue_keeps)
                 | (with_reducible apply State.ldgKick_keeps) | (simp only [keeps_mk]) | split)

theorem State.ldgProtocol_keeps {z0 : State} (s : State) (partner : Nat) (inst : Nat) (kpt : z0.Keeps s) :
    z0.Keeps (State.ldgProtocol s partner inst) := by
  unfold State.ldgProtocol
  repeat' (first | (with_reducible assumption) | (with_reducible apply State.ldgRaise_keeps))

theorem State.ldgProgramDone_keeps {z0 : State} (s : State) (kpt : z0.Keeps s) :
    z0.Keeps (State.ldgProgramDone s) := by
  unfold State.ldgProgramDone
  try dsimp only
  repeat' (first | (with_reducible assumption) | (with_reducible apply State.set_keeps)
                 | (with_reducible apply State.ldgKick_keeps) | (with_reducible apply State.ldgErase_keeps)
                 | (simp only [keeps_mk]) | (with_reducible refine keeps_norProgram ?_)
                 | (with_reducible refine keeps_snd (by assumption) ?_)
                 | (with_reducible refine keeps_snd2 (by assumption) ?_) | split)

theorem State.ldgProgramFail_keeps {z0 : State} (s : State) (kpt : z0.Keeps s) :
    z0.Keeps (State.ldgProgramFail s) := by
  unfold State.ldgProgramFail
  try dsimp only
  repeat' (first | (with_reducible assumption) | (with_reducible apply State.draw_keeps)
                 | (with_reducible apply State.fault_keeps) | (with_reducible apply State.ldgDrop_keeps)
                 | (with_reducible apply State.ldgKick_keeps) | (with_reducible apply State.setFptr_keeps)
                 | (with_reducible apply State.ldgPlace_keeps) | (with_reducible apply State.set_keeps)
                 | (with_reducible apply State.ldgRoll_keeps) | (with_reducible apply State.ldgErase_keeps)
                 | (with_reducible apply State.ldgRest_keeps) | (with_reducible apply State.ldgHeader_keeps)
                 | (intro _ _ _) | (intro _ _) | (simp only [keeps_mk]) | (with_reducible refine keeps_norProgram ?_)
                 | (with_reducible refine keeps_snd (by assumption) ?_)
                 | (with_reducible refine keeps_snd2 (by assumption) ?_) | split)

theorem State.ldgEraseDone_keeps {z0 : State} (s : State) (ok : Bool) (kpt : z0.Keeps s) :
    z0.Keeps (State.ldgEraseDone s ok) := by
  unfold State.ldgEraseDone
  generalize s.ldg.erasing = o
  cases o with
  | none => exact kpt
  | some k =>
    dsimp only
    split
    · have h1 : z0.Keeps { s with
          nor := norErase s.nor (norRolling + k * 65536) 65536, ldg := { s.ldg with erasing := none, ahead := some k } } :=
        keeps_norErase kpt
      split
      exacts [h1, State.ldgKick_keeps _ (State.ldgRest_keeps _ h1)]
    · have h1 := State.draw_keeps (z0 := z0) s kpt
      generalize s.draw = p at h1 ⊢
      obtain ⟨x, s1⟩ := p
      exact State.ldgErase_keeps _ _ (State.fault_keeps _ _ _ (keeps_nor (fun w => norProgram_wf _ _ _ (norErase_wf _ _ _ w)) h1))

theorem State.ldgScanDone_keeps {z0 : State} (s : State) (kpt : z0.Keeps s) :
    z0.Keeps (State.ldgScanDone s) := by
  unfold State.ldgScanDone
  try dsimp only
  repeat' (first | (with_reducible assumption) | (with_reducible apply State.set_keeps)
                 | (with_reducible apply State.setFptr_keeps) | (with_reducible apply State.ldgErase_keeps)
                 | (with_reducible apply State.fault_keeps) | (with_reducible apply State.ldgRaise_keeps)
                 | (with_reducible apply State.ldgKick_keeps) | (intro _ _ _) | (intro _ _) | (simp only [keeps_mk])
                 | (with_reducible refine keeps_snd (by assumption) ?_)
                 | (with_reducible refine keeps_snd2 (by assumption) ?_) | split)

/-! ### Mem -/

theorem State.setFlips_keeps {z0 : State} (s : State) (k : EccKey) (m : Nat) (kpt : z0.Keeps s) :
    z0.Keeps (State.setFlips s k m) := by
  unfold State.setFlips
  try dsimp only
  repeat' (first | (with_reducible assumption) | (intro _ _ _) | (intro _ _) | (simp only [keeps_mk]))

theorem State.clogTake_keeps {z0 : State} (s : State) (i : Nat) (k : EccKey) (kpt : z0.Keeps s) :
    z0.Keeps (State.clogTake s i k) := by
  unfold State.clogTake
  try dsimp only
  repeat' (first | (with_reducible assumption) | (with_reducible apply State.wr_keeps))

theorem State.clogStamp_keeps {z0 : State} (s : State) (i : Nat) (kpt : z0.Keeps s) :
    z0.Keeps (State.clogStamp s i) := by
  unfold State.clogStamp
  repeat' (first | (with_reducible assumption) | (with_reducible apply State.set_keeps))

theorem State.clogFull_keeps {z0 : State} (s : State) (kpt : z0.Keeps s) :
    z0.Keeps (State.clogFull s) := by
  unfold State.clogFull
  repeat' (first | (with_reducible assumption) | (with_reducible apply State.bump_keeps)
                 | (with_reducible apply State.fault_keeps))

theorem State.clogCount_keeps {z0 : State} (s : State) (i : Nat) (bit : Nat) (kpt : z0.Keeps s) :
    z0.Keeps (State.clogCount s i bit) := by
  unfold State.clogCount
  try dsimp only
  repeat' (first | (with_reducible assumption) | (with_reducible apply State.bump_keeps)
                 | (with_reducible apply State.set_keeps) | (with_reducible apply State.clogStamp_keeps)
                 | (with_reducible apply State.fault_keeps) | (simp only [keeps_mk]) | split)

theorem State.correction_keeps {z0 : State} (s : State) (k : EccKey) (bit : Nat) (kpt : z0.Keeps s) :
    z0.Keeps (State.correction s k bit) := by
  revert s k bit kpt
  refine (?_ : Holds (fun F => ∀ (s : State) (k : EccKey) (bit : Nat) (_ : z0.Keeps s), z0.Keeps (F s k bit)) @State.correction).h
  delta State.correction
  have k_bump := @State.bump_keeps z0
  generalize @State.bump = f_bump at k_bump ⊢
  have k_clogCount := @State.clogCount_keeps z0
  generalize @State.clogCount = f_clogCount at k_clogCount ⊢
  have k_clogTake := @State.clogTake_keeps z0
  generalize @State.clogTake = f_clogTake at k_clogTake ⊢
  have k_clogFull := @State.clogFull_keeps z0
  generalize @State.clogFull = f_clogFull at k_clogFull ⊢
  have k_fault := @State.fault_keeps z0
  generalize @State.fault = f_fault at k_fault ⊢
  refine ⟨fun s k bit kpt => ?_⟩
  have k1 := k_bump s R.MEM_ECC_CNT_CE_CE 1 kpt
  extract_lets +onlyGivenNames s1
  replace k1 : z0.Keeps s1 := k1
  clear_value s1
  generalize s1.clogFind k = o
  generalize s1.clogFree = o2
  cases o with
  | some i => exact k_clogCount _ _ _ k1
  | none => cases o2 with
    | some i => exact k_fault _ _ _ (k_clogCount _ _ _ (k_clogTake _ _ _ k1))
    | none => exact k_clogFull _ k1

theorem State.uncorrectable_keeps {z0 : State} (s : State) (k : EccKey) (patrol : Bool) (kpt : z0.Keeps s) :
    z0.Keeps (State.uncorrectable s k patrol) := by
  unfold State.uncorrectable
  try dsimp only
  repeat' (first | (with_reducible assumption) | (with_reducible apply State.bump_keeps)
                 | (with_reducible apply State.fault_keeps) | (with_reducible apply State.set_keeps)
                 | (with_reducible apply State.clogStamp_keeps) | (with_reducible apply State.clogTake_keeps)
                 | (with_reducible apply State.clogFull_keeps) | (intro _ _ _) | (intro _ _) | (simp only [keeps_mk])
                 | (with_reducible refine keeps_snd (by assumption) ?_)
                 | (with_reducible refine keeps_snd2 (by assumption) ?_) | split)

theorem State.eccRead_keeps {z0 : State} (s : State) (k : EccKey) (data : Nat) (patrol : Bool) (kpt : z0.Keeps s) :
    z0.Keeps (State.eccRead s k data patrol).2 := by
  unfold State.eccRead
  try dsimp only
  repeat' (first | (with_reducible assumption) | (with_reducible apply State.correction_keeps)
                 | (with_reducible apply State.uncorrectable_keeps) | (with_reducible apply State.draw_keeps)
                 | (with_reducible refine keeps_snd (by assumption) ?_)
                 | (with_reducible refine keeps_snd2 (by assumption) ?_) | split)

theorem State.memOpen_keeps {z0 : State} (s : State) (a : Nat) (n : Nat) (kpt : z0.Keeps s) :
    z0.Keeps (State.memOpen s a n).2 := by
  unfold State.memOpen
  try dsimp only
  repeat' (first | (with_reducible assumption) | (with_reducible apply State.set_keeps)
                 | (with_reducible apply State.fault_keeps) | (simp only [keeps_mk]) | split)

theorem State.memWords_keeps {z0 : State} (s : State) (patrol : Bool) (y1 : Nat) (y2 : Nat) (kpt : z0.Keeps s) :
    z0.Keeps (State.memWords s patrol y1 y2).2.2 := by
  fun_induction State.memWords s patrol y1 y2
  all_goals (try dsimp only)
  all_goals repeat' (first | (with_reducible assumption) | (with_reducible apply State.eccRead_keeps)
                           | (with_reducible apply_assumption) | (simp only [keeps_mk])
                           | (with_reducible refine keeps_snd (by assumption) ?_)
                           | (with_reducible refine keeps_snd2 (by assumption) ?_))

theorem State.memReadC_keeps {z0 : State} (s : State) (a : Nat) (n : Nat) (kpt : z0.Keeps s) :
    z0.Keeps (State.memReadC s a n).2.2 := by
  unfold State.memReadC
  try dsimp only
  repeat' (first | (with_reducible assumption) | (with_reducible apply State.memOpen_keeps)
                 | (with_reducible apply State.memWords_keeps) | (with_reducible refine keeps_snd (by assumption) ?_)
                 | (with_reducible refine keeps_snd2 (by assumption) ?_) | split)

theorem State.memRead_keeps {z0 : State} (s : State) (a : Nat) (n : Nat) (kpt : z0.Keeps s) :
    z0.Keeps (State.memRead s a n).2 := by
  unfold State.memRead
  try dsimp only
  repeat' (first | (with_reducible assumption) | (with_reducible apply State.memReadC_keeps))

theorem State.rewrote_keeps {z0 : State} (s : State) (i : Nat) (kpt : z0.Keeps s) :
    z0.Keeps (State.rewrote s i) := by
  unfold State.rewrote
  try dsimp only
  repeat' (first | (with_reducible assumption) | (with_reducible apply State.bump_keeps)
                 | (with_reducible apply State.set_keeps) | (simp only [keeps_mk]))

theorem State.freshWord_keeps {z0 : State} (s : State) (k : EccKey) (always : Bool) (kpt : z0.Keeps s) :
    z0.Keeps (State.freshWord s k always) := by
  unfold State.freshWord
  try dsimp only
  repeat' (first | (with_reducible assumption) | (with_reducible apply State.setFlips_keeps)
                 | (with_reducible apply State.rewrote_keeps) | (with_reducible refine keeps_snd (by assumption) ?_)
                 | (with_reducible refine keeps_snd2 (by assumption) ?_) | split)

theorem State.wordsWritten_keeps {z0 : State} (s : State) (key : Nat → EccKey) (y1 : Nat) (y2 : Nat) (kpt : z0.Keeps s) :
    z0.Keeps (State.wordsWritten s key y1 y2) := by
  induction y2 generalizing s y1 with
  | zero => exact kpt
  | succ k ih =>
    unfold State.wordsWritten
    exact ih _ _ (State.freshWord_keeps _ _ _ kpt)

theorem State.mergeWord_keeps {z0 : State} (s : State) (k : EccKey) (data : Nat) (kpt : z0.Keeps s) :
    z0.Keeps (State.mergeWord s k data).2 := by
  unfold State.mergeWord
  repeat' (first | (with_reducible assumption) | (with_reducible apply State.eccRead_keeps)
                 | (with_reducible apply State.freshWord_keeps) | (with_reducible refine keeps_snd (by assumption) ?_)
                 | (with_reducible refine keeps_snd2 (by assumption) ?_) | split)

theorem State.partWord_keeps {z0 : State} (s : State) (a : Nat) (kpt : z0.Keeps s) :
    z0.Keeps (State.partWord s a).2 := by
  have h1 := State.mergeWord_keeps (z0 := z0) s (bufKey a) (ofLeBytes (bytesAt 0 s.mem (a / 8 * 8) 8)) kpt
  unfold State.partWord
  generalize s.mergeWord (bufKey a) (ofLeBytes (bytesAt 0 s.mem (a / 8 * 8) 8)) = p at h1 ⊢
  obtain ⟨o, s1⟩ := p
  cases o with
  | none => exact h1
  | some x => exact keeps_mem h1

theorem State.memWriteC_keeps {z0 : State} (s : State) (a : Nat) (bs : List Byte) (kpt : z0.Keeps s) :
    z0.Keeps (State.memWriteC s a bs).2 := by
  unfold State.memWriteC
  try dsimp only
  repeat' (first | (with_reducible assumption) | (with_reducible apply State.memOpen_keeps)
                 | (with_reducible apply State.partWord_keeps) | (with_reducible apply State.wordsWritten_keeps)
                 | (intro _ _ _) | (intro _ _) | (simp only) | (with_reducible refine keeps_mem ?_)
                 | (with_reducible refine keeps_snd (by assumption) ?_)
                 | (with_reducible refine keeps_snd2 (by assumption) ?_) | split)

theorem State.memWrite_keeps {z0 : State} (s : State) (a : Nat) (bs : List Byte) (kpt : z0.Keeps s) :
    z0.Keeps (State.memWrite s a bs).2 := by
  unfold State.memWrite
  try dsimp only
  repeat' (first | (with_reducible assumption) | (with_reducible apply State.memWriteC_keeps))

theorem State.memNat_keeps {z0 : State} (s : State) (a : Nat) (n : Nat) (kpt : z0.Keeps s) :
    z0.Keeps (State.memNat s a n).2 := by
  unfold State.memNat
  repeat' (first | (with_reducible assumption) | (with_reducible apply State.memRead_keeps)
                 | (with_reducible refine keeps_snd (by assumption) ?_)
                 | (with_reducible refine keeps_snd2 (by assumption) ?_) | split)

theorem State.memTrained_keeps {z0 : State} (s : State) (agree : Bool) (ok0 : Nat) (ok1 : Nat) (ok2 : Nat)
    (size : Nat) (ranks2 : Bool) (kpt : z0.Keeps s) :
    z0.Keeps (State.memTrained s agree ok0 ok1 ok2 size ranks2) := by
  unfold State.memTrained
  try dsimp only
  repeat' (first | (with_reducible assumption) | (with_reducible apply State.set_keeps)
                 | (with_reducible apply State.setFlag_keeps) | (with_reducible apply State.fault_keeps)
                 | (with_reducible apply State.ldgProtocol_keeps) | (intro _ _ _) | (intro _ _)
                 | (simp only [keeps_mk]) | split)

theorem State.memSref_keeps {z0 : State} (s : State) (kpt : z0.Keeps s) :
    z0.Keeps (State.memSref s) := by
  unfold State.memSref
  repeat' (first | (with_reducible assumption) | (with_reducible apply State.set_keeps) | split)

theorem State.upset_keeps {z0 : State} (s : State) (k : EccKey) (m : Nat) (kpt : z0.Keeps s) :
    z0.Keeps (State.upset s k m) := by
  unfold State.upset
  repeat' (first | (with_reducible assumption) | (with_reducible apply State.setFlips_keeps) | split)

theorem State.patrol_keeps {z0 : State} (s : State) (w : Nat) (upset : Nat) (kpt : z0.Keeps s) :
    z0.Keeps (State.patrol s w upset) := by
  unfold State.patrol
  try dsimp only
  repeat' (first | (with_reducible assumption) | (with_reducible apply State.upset_keeps)
                 | (with_reducible apply State.eccRead_keeps) | (with_reducible apply State.set_keeps)
                 | (with_reducible apply State.bump_keeps) | (with_reducible refine keeps_foldl ?_ ?_) | (intro _ _ _)
                 | (intro _ _) | (simp only [keeps_mk]) | split)

theorem State.scrubRewrite_keeps {z0 : State} (s : State) (i : Nat) (kpt : z0.Keeps s) :
    z0.Keeps (State.scrubRewrite s i) := by
  unfold State.scrubRewrite
  try dsimp only
  repeat' (first | (with_reducible assumption) | (with_reducible apply State.setFlips_keeps)
                 | (with_reducible apply State.rewrote_keeps) | (with_reducible apply State.uncorrectable_keeps)
                 | (simp only [keeps_mk]) | split)

theorem State.sramRead_keeps {z0 : State} (s : State) (k : EccKey) (data : Nat) (patrol : Bool) (kpt : z0.Keeps s) :
    z0.Keeps (State.sramRead s k data patrol).2 := by
  unfold State.sramRead
  try dsimp only
  repeat' (first | (with_reducible assumption) | (with_reducible apply State.eccRead_keeps)
                 | (with_reducible apply State.patrol_keeps) | (with_reducible apply State.freshWord_keeps)
                 | (with_reducible refine keeps_snd (by assumption) ?_)
                 | (with_reducible refine keeps_snd2 (by assumption) ?_) | split)

theorem State.sramWords_keeps {z0 : State} (s : State) (y1 : List (EccKey × Nat)) (kpt : z0.Keeps s) :
    z0.Keeps (State.sramWords s y1).2 := by
  fun_induction State.sramWords s y1
  all_goals (try dsimp only)
  all_goals repeat' (first | (with_reducible assumption) | (with_reducible apply State.sramRead_keeps)
                           | (with_reducible apply_assumption) | (intro _ _ _) | (intro _ _)
                           | (with_reducible refine keeps_snd (by assumption) ?_))

theorem State.arrayStored_keeps {z0 : State} (s : State) (array : Nat) (inst : Nat) (w : Nat) (n : Nat) (kpt : z0.Keeps s) :
    z0.Keeps (State.arrayStored s array inst w n) := by
  unfold State.arrayStored
  repeat' (first | (with_reducible assumption) | (intro _ _ _) | (intro _ _) | (simp only [keeps_mk]))

theorem State.walker_keeps {z0 : State} (s : State) (array : Nat) (inst : Nat) (word : Nat) (upset : Nat)
    (kpt : z0.Keeps s) :
    z0.Keeps (State.walker s array inst word upset) := by
  unfold State.walker
  try dsimp only
  repeat' (first | (with_reducible assumption) | (with_reducible apply State.upset_keeps)
                 | (with_reducible apply State.sramRead_keeps) | (simp only [keeps_mk]) | split)

theorem State.injectAt_keeps {z0 : State} (s : State) (k : EccKey) (kpt : z0.Keeps s) :
    z0.Keeps (State.injectAt s k) := by
  unfold State.injectAt
  try dsimp only
  repeat' (first | (with_reducible assumption) | (with_reducible apply State.setFlips_keeps)
                 | (with_reducible apply State.setFlag_keeps) | split)

/-! ### Depot -/

theorem State.poolMark_keeps {z0 : State} (s : State) (n : Nat) (before : Nat) (after : Nat) (kpt : z0.Keeps s) :
    z0.Keeps (State.poolMark s n before after) := by
  unfold State.poolMark
  try dsimp only
  repeat' (first | (with_reducible assumption) | (with_reducible apply State.set_keeps)
                 | (with_reducible apply State.fault_keeps) | (simp only [keeps_mk]) | split)

theorem State.setPool_keeps {z0 : State} (s : State) (n : Nat) (p : PoolSt) (kpt : z0.Keeps s) :
    z0.Keeps (State.setPool s n p) := by
  unfold State.setPool
  try dsimp only
  repeat' (first | (with_reducible assumption) | (with_reducible apply State.set_keeps)
                 | (with_reducible apply State.poolMark_keeps) | (simp only [keeps_mk]))

theorem State.entryRead_keeps {z0 : State} (s : State) (n : Nat) (i : Nat) (kpt : z0.Keeps s) :
    z0.Keeps (State.entryRead s n i).2 := by
  unfold State.entryRead
  repeat' (first | (with_reducible assumption) | (with_reducible apply State.memNat_keeps))

theorem State.entryWrite_keeps {z0 : State} (s : State) (n : Nat) (i : Nat) (e : Nat) (kpt : z0.Keeps s) :
    z0.Keeps (State.entryWrite s n i e) := by
  unfold State.entryWrite
  repeat' (first | (with_reducible assumption) | (with_reducible apply State.memWrite_keeps))

theorem State.ringRead_keeps {z0 : State} (s : State) (n : Nat) (y1 : Nat) (y2 : Nat) (kpt : z0.Keeps s) :
    z0.Keeps (State.ringRead s n y1 y2).2 := by
  fun_induction State.ringRead s n y1 y2
  all_goals (try dsimp only)
  all_goals repeat' (first | (with_reducible assumption) | (with_reducible apply State.memNat_keeps)
                           | (with_reducible apply_assumption) | (with_reducible refine keeps_snd (by assumption) ?_))

theorem State.ringWrite_keeps {z0 : State} (s : State) (n : Nat) (y1 : Nat) (y2 : List Nat) (kpt : z0.Keeps s) :
    z0.Keeps (State.ringWrite s n y1 y2) := by
  fun_induction State.ringWrite s n y1 y2
  all_goals repeat' (first | (with_reducible assumption) | (with_reducible apply State.memWrite_keeps)
                           | (with_reducible apply_assumption))

theorem State.cacheRefill_keeps {z0 : State} (s : State) (n : Nat) (kpt : z0.Keeps s) :
    z0.Keeps (State.cacheRefill s n) := by
  unfold State.cacheRefill
  try dsimp only
  repeat' (first | (with_reducible assumption) | (with_reducible apply State.ringRead_keeps)
                 | (with_reducible apply State.setPool_keeps))

theorem State.cacheSpill_keeps {z0 : State} (s : State) (n : Nat) (kpt : z0.Keeps s) :
    z0.Keeps (State.cacheSpill s n) := by
  unfold State.cacheSpill
  try dsimp only
  repeat' (first | (with_reducible assumption) | (with_reducible apply State.ringWrite_keeps)
                 | (with_reducible apply State.setPool_keeps))

theorem State.cacheKeep_keeps {z0 : State} (s : State) (n : Nat) (kpt : z0.Keeps s) :
    z0.Keeps (State.cacheKeep s n) := by
  unfold State.cacheKeep
  try dsimp only
  repeat' (first | (with_reducible assumption) | (with_reducible apply State.cacheRefill_keeps)
                 | (with_reducible apply State.cacheSpill_keeps) | split)

theorem State.clearEntries_keeps {z0 : State} (s : State) (n : Nat) (y1 : Nat) (y2 : Nat) (kpt : z0.Keeps s) :
    z0.Keeps (State.clearEntries s n y1 y2) := by
  fun_induction State.clearEntries s n y1 y2
  all_goals repeat' (first | (with_reducible assumption) | (with_reducible apply State.entryWrite_keeps)
                           | (with_reducible apply_assumption))

theorem State.poolInit_keeps {z0 : State} (s : State) (n : Nat) (kpt : z0.Keeps s) :
    z0.Keeps (State.poolInit s n) := by
  unfold State.poolInit
  try dsimp only
  repeat' (first | (with_reducible assumption) | (with_reducible apply State.clearEntries_keeps)
                 | (with_reducible apply State.set_keeps) | (with_reducible apply State.ringWrite_keeps)
                 | (with_reducible apply State.setPool_keeps) | (with_reducible apply State.orBits_keeps)
                 | (simp only [keeps_mk]))

theorem State.take_keeps {z0 : State} (s : State) (n : Nat) (tag : Nat) (kpt : z0.Keeps s) :
    z0.Keeps (State.take s n tag).2 := by
  unfold State.take
  try dsimp only
  repeat' (first | (with_reducible assumption) | (with_reducible apply State.cacheRefill_keeps)
                 | (with_reducible apply State.entryRead_keeps) | (with_reducible apply State.setPool_keeps)
                 | (with_reducible apply State.entryWrite_keeps) | (with_reducible apply State.bump_keeps)
                 | (simp only) | (with_reducible refine keeps_snd (by assumption) ?_)
                 | (with_reducible refine keeps_snd2 (by assumption) ?_) | split)

theorem State.allocFrom_keeps {z0 : State} (s : State) (tag2 : Nat) (climb : Bool) (y1 : Nat) (y2 : Nat)
    (kpt : z0.Keeps s) :
    z0.Keeps (State.allocFrom s tag2 climb y1 y2).2 := by
  fun_induction State.allocFrom s tag2 climb y1 y2
  all_goals (try dsimp only)
  all_goals repeat' (first | (with_reducible assumption) | (with_reducible apply State.take_keeps)
                           | (with_reducible apply State.bump_keeps) | (with_reducible apply State.fault_keeps)
                           | (with_reducible apply_assumption))

theorem State.retired_keeps {z0 : State} (s : State) (n : Nat) (i : Nat) (e : Nat) (kpt : z0.Keeps s) :
    z0.Keeps (State.retired s n i e) := by
  unfold State.retired
  try dsimp only
  repeat' (first | (with_reducible assumption) | (with_reducible apply State.entryWrite_keeps)
                 | (with_reducible apply State.bump_keeps) | (with_reducible apply State.fault_keeps)
                 | (simp only [keeps_mk]))

theorem State.unlist_keeps {z0 : State} (s : State) (n : Nat) (i : Nat) (kpt : z0.Keeps s) :
    z0.Keeps (State.unlist s n i) := by
  unfold State.unlist
  try dsimp only
  repeat' (first | (with_reducible assumption) | (with_reducible apply State.setPool_keeps)
                 | (with_reducible apply State.ringRead_keeps) | (with_reducible apply State.ringWrite_keeps)
                 | (simp only [keeps_mk]) | (with_reducible refine keeps_snd (by assumption) ?_)
                 | (with_reducible refine keeps_snd2 (by assumption) ?_) | split)

theorem State.handleDo_keeps {z0 : State} (s : State) (q : DepReq) (e : Nat) (kpt : z0.Keeps s) :
    z0.Keeps (State.handleDo s q e) := by
  unfold State.handleDo
  try dsimp only
  repeat' (first | (with_reducible assumption) | (with_reducible apply State.entryWrite_keeps)
                 | (with_reducible apply State.retired_keeps) | (with_reducible apply State.cacheSpill_keeps)
                 | (with_reducible apply State.setPool_keeps) | (with_reducible apply State.unlist_keeps)
                 | (simp only [keeps_mk]) | (with_reducible refine keeps_snd (by assumption) ?_)
                 | (with_reducible refine keeps_snd2 (by assumption) ?_) | split)

theorem State.depReject_keeps {z0 : State} (s : State) (q : DepReq) (code : Nat) (owner : Nat) (kpt : z0.Keeps s) :
    z0.Keeps (State.depReject s q code owner) := by
  unfold State.depReject
  try dsimp only
  repeat' (first | (with_reducible assumption) | (with_reducible apply State.set_keeps)
                 | (with_reducible apply State.wr_keeps) | (with_reducible apply State.bump_keeps)
                 | (with_reducible apply State.fault_keeps) | (with_reducible apply State.ldgRaise_keeps))

theorem State.depTake_keeps {z0 : State} (s : State) (q : DepReq) (kpt : z0.Keeps s) :
    z0.Keeps (State.depTake s q).2 := by
  unfold State.depTake
  try dsimp only
  repeat' (first | (with_reducible assumption) | (with_reducible apply State.allocFrom_keeps)
                 | (with_reducible apply State.fault_keeps) | (with_reducible apply State.poolInit_keeps)
                 | (with_reducible apply State.depReject_keeps) | (with_reducible apply State.entryRead_keeps)
                 | (with_reducible apply State.handleDo_keeps) | (simp only)
                 | (with_reducible refine keeps_snd (by assumption) ?_)
                 | (with_reducible refine keeps_snd2 (by assumption) ?_) | split)

theorem State.depAnswer_keeps {z0 : State} (s : State) (q : DepReq) (r : DepResp) (kpt : z0.Keeps s) :
    z0.Keeps (State.depAnswer s q r) := by
  unfold State.depAnswer
  try dsimp only
  repeat' (first | (with_reducible assumption) | (with_reducible apply State.set_keeps)
                 | (with_reducible apply State.set64_keeps) | (simp only [keeps_mk]) | split)

theorem State.depRequest_keeps {z0 : State} (s : State) (q : DepReq) (kpt : z0.Keeps s) :
    z0.Keeps (State.depRequest s q) := by
  unfold State.depRequest
  try dsimp only
  repeat' (first | (with_reducible assumption) | (with_reducible apply State.depTake_keeps)
                 | (with_reducible apply State.depAnswer_keeps) | (with_reducible apply State.set_keeps)
                 | (simp only [keeps_mk]) | (with_reducible refine keeps_snd (by assumption) ?_)
                 | (with_reducible refine keeps_snd2 (by assumption) ?_) | split)

theorem State.depServe_keeps {z0 : State} (s : State) (y1 : List DepReq) (kpt : z0.Keeps s) :
    z0.Keeps (State.depServe s y1) := by
  fun_induction State.depServe s y1
  all_goals repeat' (first | (with_reducible assumption) | (with_reducible apply State.depRequest_keeps)
                           | (with_reducible apply_assumption))

theorem State.depWake_keeps {z0 : State} (s : State) (kpt : z0.Keeps s) :
    z0.Keeps (State.depWake s) := by
  unfold State.depWake
  try dsimp only
  repeat' (first | (with_reducible assumption) | (with_reducible apply State.depServe_keeps) | (simp only [keeps_mk]))

theorem State.depPort_keeps {z0 : State} (s : State) (v : Nat) (kpt : z0.Keeps s) :
    z0.Keeps (State.depPort s v) := by
  unfold State.depPort
  repeat' (first | (with_reducible assumption) | (with_reducible apply State.depRequest_keeps) | split)

theorem State.depCheck_keeps {z0 : State} (s : State) (tag : Nat) (h : Nat) (ofs : Nat) (len : Nat) (write : Bool)
    (kpt : z0.Keeps s) :
    z0.Keeps (State.depCheck s tag h ofs len write).2.2 := by
  unfold State.depCheck
  repeat' (first | (with_reducible assumption) | (with_reducible apply State.fault_keeps)
                 | (with_reducible apply State.entryRead_keeps) | (with_reducible refine keeps_snd (by assumption) ?_)
                 | (with_reducible refine keeps_snd2 (by assumption) ?_) | split)

theorem State.depReadC_keeps {z0 : State} (s : State) (tag : Nat) (h : Nat) (ofs : Nat) (len : Nat) (kpt : z0.Keeps s) :
    z0.Keeps (State.depReadC s tag h ofs len).2.2 := by
  unfold State.depReadC
  try dsimp only
  repeat' (first | (with_reducible assumption) | (with_reducible apply State.depCheck_keeps)
                 | (with_reducible apply State.memReadC_keeps) | (with_reducible refine keeps_snd (by assumption) ?_)
                 | (with_reducible refine keeps_snd2 (by assumption) ?_) | split)

theorem State.depRead_keeps {z0 : State} (s : State) (tag : Nat) (h : Nat) (ofs : Nat) (len : Nat) (kpt : z0.Keeps s) :
    z0.Keeps (State.depRead s tag h ofs len).2 := by
  unfold State.depRead
  try dsimp only
  repeat' (first | (with_reducible assumption) | (with_reducible apply State.depReadC_keeps))

theorem State.depWriteC_keeps {z0 : State} (s : State) (tag : Nat) (h : Nat) (ofs : Nat) (bs : List Byte)
    (kpt : z0.Keeps s) :
    z0.Keeps (State.depWriteC s tag h ofs bs).2 := by
  unfold State.depWriteC
  try dsimp only
  repeat' (first | (with_reducible assumption) | (with_reducible apply State.depCheck_keeps)
                 | (with_reducible apply State.memWriteC_keeps) | (with_reducible refine keeps_snd (by assumption) ?_)
                 | (with_reducible refine keeps_snd2 (by assumption) ?_) | split)

theorem State.depWrite_keeps {z0 : State} (s : State) (tag : Nat) (h : Nat) (ofs : Nat) (bs : List Byte)
    (kpt : z0.Keeps s) :
    z0.Keeps (State.depWrite s tag h ofs bs).2 := by
  unfold State.depWrite
  try dsimp only
  repeat' (first | (with_reducible assumption) | (with_reducible apply State.depWriteC_keeps))

theorem State.depAlloc_keeps {z0 : State} (s : State) (tag : Nat) (size : Nat) (kpt : z0.Keeps s) :
    z0.Keeps (State.depAlloc s tag size).2 := by
  unfold State.depAlloc
  repeat' (first | (with_reducible assumption) | (with_reducible apply State.depTake_keeps) | (simp only [keeps_mk])
                 | split)

theorem State.depSend_keeps {z0 : State} (s : State) (op : Nat) (tag : Nat) (h : Nat) (inv : Bool) (kpt : z0.Keeps s) :
    z0.Keeps (State.depSend s op tag h inv) := by
  unfold State.depSend
  try dsimp only
  repeat' (first | (with_reducible assumption) | (with_reducible apply State.depTake_keeps) | (simp only [keeps_mk])
                 | split)

theorem State.depEnable_keeps {z0 : State} (s : State) (en : Bool) (kpt : z0.Keeps s) :
    z0.Keeps (State.depEnable s en) := by
  unfold State.depEnable
  try dsimp only
  repeat' (first | (with_reducible assumption) | (with_reducible apply State.set_keeps)
                 | (with_reducible apply State.depWake_keeps) | split)

theorem State.freeIndices_keeps {z0 : State} (s : State) (n : Nat) (y1 : Nat) (y2 : Nat) (kpt : z0.Keeps s) :
    z0.Keeps (State.freeIndices s n y1 y2).2 := by
  fun_induction State.freeIndices s n y1 y2
  all_goals (try dsimp only)
  all_goals repeat' (first | (with_reducible assumption) | (with_reducible apply State.entryRead_keeps)
                           | (with_reducible apply_assumption) | (with_reducible refine keeps_snd (by assumption) ?_))

theorem State.rebuildPool_keeps {z0 : State} (s : State) (n : Nat) (kpt : z0.Keeps s) :
    z0.Keeps (State.rebuildPool s n) := by
  unfold State.rebuildPool
  try dsimp only
  repeat' (first | (with_reducible assumption) | (with_reducible apply State.freeIndices_keeps)
                 | (with_reducible apply State.set_keeps) | (with_reducible apply State.ringWrite_keeps)
                 | (with_reducible apply State.setPool_keeps) | (with_reducible apply State.take_keeps)
                 | (simp only [keeps_mk]) | (with_reducible refine keeps_snd (by assumption) ?_)
                 | (with_reducible refine keeps_snd2 (by assumption) ?_) | split)

theorem State.depDiscard_keeps {z0 : State} (s : State) (q : DepReq) (kpt : z0.Keeps s) :
    z0.Keeps (State.depDiscard s q) := by
  unfold State.depDiscard
  repeat' (first | (with_reducible assumption) | (with_reducible apply State.entryRead_keeps)
                 | (with_reducible apply State.depReject_keeps) | (with_reducible refine keeps_snd (by assumption) ?_)
                 | (with_reducible refine keeps_snd2 (by assumption) ?_) | split)

theorem State.depContain_keeps {z0 : State} (s : State) (kpt : z0.Keeps s) :
    z0.Keeps (State.depContain s) := by
  unfold State.depContain
  try dsimp only
  repeat' (first | (with_reducible assumption) | (with_reducible apply State.set_keeps)
                 | (with_reducible apply State.wr_keeps) | (with_reducible apply State.depDiscard_keeps)
                 | (with_reducible refine keeps_foldl ?_ ?_) | (intro _ _ _) | (intro _ _) | (simp only [keeps_mk]))

theorem State.depRestart_keeps {z0 : State} (s : State) (kpt : z0.Keeps s) :
    z0.Keeps (State.depRestart s) := by
  unfold State.depRestart
  repeat' (first | (with_reducible assumption) | (with_reducible apply State.set_keeps) | split)

theorem State.depRebuilt_keeps {z0 : State} (s : State) (kpt : z0.Keeps s) :
    z0.Keeps (State.depRebuilt s) := by
  unfold State.depRebuilt
  try dsimp only
  repeat' (first | (with_reducible assumption) | (with_reducible apply State.rebuildPool_keeps)
                 | (with_reducible apply State.set_keeps) | (with_reducible apply State.fault_keeps)
                 | (with_reducible apply State.depWake_keeps) | split)

/-! ### Convoy -/

theorem State.setEng_keeps {z0 : State} (s : State) (e : Nat) (x : CvyEng) (kpt : z0.Keeps s) :
    z0.Keeps (State.setEng s e x) := by
  unfold State.setEng
  repeat' (first | (with_reducible assumption) | (with_reducible apply State.set_keeps) | (simp only [keeps_mk]))

theorem State.setChan_keeps {z0 : State} (s : State) (e : Nat) (c : Nat) (x : CvyChan) (kpt : z0.Keeps s) :
    z0.Keeps (State.setChan s e c x) := by
  unfold State.setChan
  repeat' (first | (with_reducible assumption) | (with_reducible apply State.set_keeps) | (simp only [keeps_mk]))

theorem State.setCur_keeps {z0 : State} (s : State) (e : Nat) (c : Nat) (a : Nat) (kind : Nat) (kpt : z0.Keeps s) :
    z0.Keeps (State.setCur s e c a kind) := by
  unfold State.setCur
  repeat' (first | (with_reducible assumption) | (with_reducible apply State.set_keeps))

theorem State.dataWords_keeps {z0 : State} (s : State) (y1 : Nat) (y2 : Nat) (kpt : z0.Keeps s) :
    z0.Keeps (State.dataWords s y1 y2).2.2 := by
  fun_induction State.dataWords s y1 y2
  all_goals (try dsimp only)
  all_goals repeat' (first | (with_reducible assumption) | (with_reducible apply State.eccRead_keeps)
                           | (with_reducible apply_assumption) | (with_reducible refine keeps_snd (by assumption) ?_)
                           | (with_reducible refine keeps_snd2 (by assumption) ?_))

theorem State.dataReadC_keeps {z0 : State} (s : State) (a : Nat) (n : Nat) (kpt : z0.Keeps s) :
    z0.Keeps (State.dataReadC s a n).2.2 := by
  unfold State.dataReadC
  try dsimp only
  repeat' (first | (with_reducible assumption) | (with_reducible apply State.dataWords_keeps)
                 | (with_reducible apply State.take_keeps) | (with_reducible refine keeps_snd (by assumption) ?_)
                 | (with_reducible refine keeps_snd2 (by assumption) ?_) | split)

theorem State.dataPart_keeps {z0 : State} (s : State) (a : Nat) (kpt : z0.Keeps s) :
    z0.Keeps (State.dataPart s a).2 := by
  unfold State.dataPart
  repeat' (first | (with_reducible assumption) | (with_reducible apply State.mergeWord_keeps) | (simp only)
                 | (with_reducible refine keeps_mem ?_) | (with_reducible refine keeps_dataMem ?_)
                 | (with_reducible refine keeps_snd (by assumption) ?_)
                 | (with_reducible refine keeps_snd2 (by assumption) ?_) | split)

theorem State.dataWriteC_keeps {z0 : State} (s : State) (a : Nat) (bs : List Byte) (kpt : z0.Keeps s) :
    z0.Keeps (State.dataWriteC s a bs).2 := by
  unfold State.dataWriteC
  try dsimp only
  repeat' (first | (with_reducible assumption) | (with_reducible apply State.dataPart_keeps)
                 | (with_reducible apply State.wordsWritten_keeps) | (simp only)
                 | (with_reducible refine keeps_mem ?_) | (with_reducible refine keeps_dataMem ?_)
                 | (with_reducible refine keeps_snd (by assumption) ?_)
                 | (with_reducible refine keeps_snd2 (by assumption) ?_) | split)

theorem State.linkReadC_keeps {z0 : State} (s : State) (kind : Nat) (a : Nat) (n : Nat) (kpt : z0.Keeps s) :
    z0.Keeps (State.linkReadC s kind a n).2.2 := by
  unfold State.linkReadC
  repeat' (first | (with_reducible assumption) | (with_reducible apply State.dataReadC_keeps)
                 | (with_reducible apply State.memReadC_keeps) | split)

theorem State.linkWriteC_keeps {z0 : State} (s : State) (kind : Nat) (a : Nat) (bs : List Byte) (kpt : z0.Keeps s) :
    z0.Keeps (State.linkWriteC s kind a bs).2 := by
  unfold State.linkWriteC
  repeat' (first | (with_reducible assumption) | (with_reducible apply State.dataWriteC_keeps)
                 | (with_reducible apply State.memWriteC_keeps) | split)

theorem State.cvyHalt_keeps {z0 : State} (s : State) (e : Nat) (c : Nat) (cause : Nat) (kpt : z0.Keeps s) :
    z0.Keeps (State.cvyHalt s e c cause) := by
  unfold State.cvyHalt
  try dsimp only
  repeat' (first | (with_reducible assumption) | (with_reducible apply State.set_keeps)
                 | (with_reducible apply State.orBits_keeps) | (with_reducible apply State.setChan_keeps))

theorem State.cvyOff_keeps {z0 : State} (s : State) (e : Nat) (c : Nat) (kpt : z0.Keeps s) :
    z0.Keeps (State.cvyOff s e c) := by
  unfold State.cvyOff
  repeat' (first | (with_reducible assumption) | (with_reducible apply State.set_keeps)
                 | (with_reducible apply State.setChan_keeps))

theorem State.cvyWant_keeps {z0 : State} (s : State) (e : Nat) (c : Nat) (kpt : z0.Keeps s) :
    z0.Keeps (State.cvyWant s e c) := by
  unfold State.cvyWant
  repeat' (first | (with_reducible assumption) | (with_reducible apply State.setChan_keeps))

theorem State.cvyLink_keeps {z0 : State} (s : State) (e : Nat) (c : Nat) (kpt : z0.Keeps s) :
    z0.Keeps (State.cvyLink s e c) := by
  unfold State.cvyLink
  repeat' (first | (with_reducible assumption) | (with_reducible apply State.setChan_keeps))

theorem State.cvyRelease_keeps {z0 : State} (s : State) (e : Nat) (kpt : z0.Keeps s) :
    z0.Keeps (State.cvyRelease s e) := by
  unfold State.cvyRelease
  repeat' (first | (with_reducible assumption) | (with_reducible apply State.setEng_keeps)
                 | (with_reducible apply State.set_keeps) | (with_reducible apply State.clrBits_keeps))

theorem State.cvyCtrl_keeps {z0 : State} (s : State) (e : Nat) (c : Nat) (v : Nat) (kpt : z0.Keeps s) :
    z0.Keeps (State.cvyCtrl s e c v) := by
  unfold State.cvyCtrl
  try dsimp only
  repeat' (first | (with_reducible assumption) | (with_reducible apply State.setChan_keeps)
                 | (with_reducible apply State.cvyHalt_keeps) | (with_reducible apply State.cvyOff_keeps)
                 | (with_reducible apply State.set_keeps) | (with_reducible apply State.setCur_keeps)
                 | (with_reducible apply State.cvyWant_keeps) | (simp only) | split)

theorem State.cvyDoorbell_keeps {z0 : State} (s : State) (e : Nat) (c : Nat) (kpt : z0.Keeps s) :
    z0.Keeps (State.cvyDoorbell s e c) := by
  unfold State.cvyDoorbell
  try dsimp only
  repeat' (first | (with_reducible assumption) | (with_reducible apply State.set_keeps)
                 | (with_reducible apply State.cvyLink_keeps) | (with_reducible apply State.cvyWant_keeps)
                 | (with_reducible apply State.fault_keeps) | split)

theorem State.cvyGrant_keeps {z0 : State} (s : State) (e : Nat) (kpt : z0.Keeps s) :
    z0.Keeps (State.cvyGrant s e) := by
  unfold State.cvyGrant
  try dsimp only
  repeat' (first | (with_reducible assumption) | (with_reducible apply State.setEng_keeps)
                 | (with_reducible apply State.setChan_keeps) | (with_reducible apply State.set_keeps)
                 | (with_reducible apply State.orBits_keeps) | (simp only [keeps_mk])
                 | (with_reducible refine keeps_snd (by assumption) ?_)
                 | (with_reducible refine keeps_snd2 (by assumption) ?_) | split)

theorem State.cvyStage_keeps {z0 : State} (s : State) (e : Nat) (ph : CvyPhase) (kpt : z0.Keeps s) :
    z0.Keeps (State.cvyStage s e ph) := by
  unfold State.cvyStage
  repeat' (first | (with_reducible assumption) | (with_reducible apply State.setEng_keeps))

theorem State.cvyRetry_keeps {z0 : State} (s : State) (e : Nat) (spent : State → State) (kpt : z0.Keeps s)
    (kz0 : ∀ t : State, z0.Keeps t → z0.Keeps (spent t)) :
    z0.Keeps (State.cvyRetry s e spent) := by
  unfold State.cvyRetry
  try dsimp only
  repeat' (first | (with_reducible assumption) | (with_reducible apply State.setEng_keeps) | (apply kz0)
                 | (simp only [keeps_mk]) | split)

theorem State.cvyAbandon_keeps {z0 : State} (s : State) (e : Nat) (cause : Nat) (kpt : z0.Keeps s) :
    z0.Keeps (State.cvyAbandon s e cause) := by
  unfold State.cvyAbandon
  repeat' (first | (with_reducible assumption) | (with_reducible apply State.cvyRelease_keeps)
                 | (with_reducible apply State.cvyHalt_keeps) | (with_reducible apply State.fault_keeps))

theorem State.cvyStatus_keeps {z0 : State} (s : State) (e : Nat) (kpt : z0.Keeps s) :
    z0.Keeps (State.cvyStatus s e) := by
  unfold State.cvyStatus
  try dsimp only
  repeat' (first | (with_reducible assumption) | (with_reducible apply State.linkWriteC_keeps)
                 | (with_reducible apply State.cvyRetry_keeps) | (with_reducible apply State.cvyAbandon_keeps)
                 | (intro _ _ _) | (intro _ _) | (with_reducible refine keeps_snd (by assumption) ?_)
                 | (with_reducible refine keeps_snd2 (by assumption) ?_) | split)

theorem State.cvyEnd_keeps {z0 : State} (s : State) (e : Nat) (code : Nat) (cause : Nat) (done : Nat) (kpt : z0.Keeps s) :
    z0.Keeps (State.cvyEnd s e code cause done) := by
  unfold State.cvyEnd
  try dsimp only
  repeat' (first | (with_reducible assumption) | (with_reducible apply State.setEng_keeps)
                 | (with_reducible apply State.cvyStatus_keeps))

theorem State.cvyOwnClear_keeps {z0 : State} (s : State) (e : Nat) (kpt : z0.Keeps s) :
    z0.Keeps (State.cvyOwnClear s e) := by
  unfold State.cvyOwnClear
  try dsimp only
  repeat' (first | (with_reducible assumption) | (with_reducible apply State.linkWriteC_keeps)
                 | (with_reducible apply State.cvyRetry_keeps) | (with_reducible apply State.cvyAbandon_keeps)
                 | (intro _ _ _) | (intro _ _) | (with_reducible refine keeps_snd (by assumption) ?_)
                 | (with_reducible refine keeps_snd2 (by assumption) ?_) | split)

theorem State.cvyRun_keeps {z0 : State} (s : State) (e : Nat) (c : Nat) (kpt : z0.Keeps s) :
    z0.Keeps (State.cvyRun s e c) := by
  unfold State.cvyRun
  repeat' (first | (with_reducible assumption) | (with_reducible apply State.setChan_keeps)
                 | (with_reducible apply State.set_keeps) | (simp only) | split)

theorem State.cvyFetched_keeps {z0 : State} (s : State) (e : Nat) (kpt : z0.Keeps s) :
    z0.Keeps (State.cvyFetched s e) := by
  unfold State.cvyFetched
  try dsimp only
  repeat' (first | (with_reducible assumption) | (with_reducible apply State.linkReadC_keeps)
                 | (with_reducible apply State.cvyRetry_keeps) | (with_reducible apply State.cvyAbandon_keeps)
                 | (with_reducible apply State.take_keeps) | (with_reducible apply State.setEng_keeps)
                 | (with_reducible apply State.cvyRelease_keeps) | (with_reducible apply State.cvyOff_keeps)
                 | (with_reducible apply State.cvyHalt_keeps) | (with_reducible apply State.set_keeps)
                 | (with_reducible apply State.cvyRun_keeps) | (with_reducible apply State.cvyStage_keeps)
                 | (with_reducible apply State.cvyEnd_keeps) | (intro _ _ _) | (intro _ _) | (simp only [keeps_mk])
                 | (with_reducible refine keeps_snd (by assumption) ?_)
                 | (with_reducible refine keeps_snd2 (by assumption) ?_) | split)

theorem State.cvyBad_keeps {z0 : State} (s : State) (e : Nat) (stage : Nat) (cause : Nat) (done : Nat) (kpt : z0.Keeps s) :
    z0.Keeps (State.cvyBad s e stage cause done) := by
  unfold State.cvyBad
  try dsimp only
  repeat' (first | (with_reducible assumption) | (with_reducible apply State.fault_keeps)
                 | (with_reducible apply State.cvyRetry_keeps) | (with_reducible apply State.cvyEnd_keeps)
                 | (intro _ _ _) | (intro _ _) | split)

theorem State.cvySource_keeps {z0 : State} (s : State) (e : Nat) (x : CvyEng) (host : List Byte) (kpt : z0.Keeps s) :
    z0.Keeps (State.cvySource s e x host).2.2 := by
  unfold State.cvySource
  try dsimp only
  repeat' (first | (with_reducible assumption) | (with_reducible apply State.depReadC_keeps)
                 | (with_reducible apply State.memReadC_keeps) | (with_reducible apply State.dataReadC_keeps)
                 | (intro _ _ _) | (intro _ _) | (with_reducible refine keeps_snd (by assumption) ?_)
                 | (with_reducible refine keeps_snd2 (by assumption) ?_) | split)

theorem State.cvyDest_keeps {z0 : State} (s : State) (e : Nat) (x : CvyEng) (bs : List Byte) (kpt : z0.Keeps s) :
    z0.Keeps (State.cvyDest s e x bs).2 := by
  unfold State.cvyDest
  try dsimp only
  repeat' (first | (with_reducible assumption) | (with_reducible apply State.depWriteC_keeps)
                 | (with_reducible apply State.memWriteC_keeps) | (with_reducible apply State.dataWriteC_keeps)
                 | (with_reducible apply State.setEng_keeps) | (simp only [keeps_mk])
                 | (with_reducible refine keeps_snd (by assumption) ?_)
                 | (with_reducible refine keeps_snd2 (by assumption) ?_) | split)

theorem State.cvySpoil_keeps {z0 : State} (s : State) (e : Nat) (stage : Nat) (cause : Nat) (done : Option Nat)
    (kpt : z0.Keeps s) :
    z0.Keeps (State.cvySpoil s e stage cause done) := by
  unfold State.cvySpoil
  try dsimp only
  repeat' (first | (with_reducible assumption) | (with_reducible apply State.draw_keeps)
                 | (with_reducible apply State.cvyDest_keeps) | (with_reducible apply State.cvyBad_keeps)
                 | (with_reducible refine keeps_snd (by assumption) ?_)
                 | (with_reducible refine keeps_snd2 (by assumption) ?_) | split)

theorem State.cvyArrived_keeps {z0 : State} (s : State) (e : Nat) (host : List Byte) (kpt : z0.Keeps s) :
    z0.Keeps (State.cvyArrived s e host) := by
  unfold State.cvyArrived
  try dsimp only
  repeat' (first | (with_reducible assumption) | (with_reducible apply State.cvySource_keeps)
                 | (with_reducible apply State.cvySpoil_keeps) | (with_reducible apply State.cvyBad_keeps)
                 | (with_reducible apply State.cvyDest_keeps) | (with_reducible apply State.cvyEnd_keeps)
                 | (with_reducible refine keeps_snd (by assumption) ?_)
                 | (with_reducible refine keeps_snd2 (by assumption) ?_) | split)

theorem State.cvyHostGone_keeps {z0 : State} (s : State) (k : Nat) (kpt : z0.Keeps s) :
    z0.Keeps (State.cvyHostGone s k) := by
  unfold State.cvyHostGone
  try dsimp only
  repeat' (first | (with_reducible assumption) | (with_reducible apply State.cvyBad_keeps)
                 | (with_reducible refine keeps_foldl ?_ ?_) | (intro _ _ _) | (intro _ _) | split)

theorem State.cvyBusError_keeps {z0 : State} (s0 : State) (e : Nat) (c : Option Nat) (stage : Nat) (cause : Nat)
    (done : Nat) (kpt : z0.Keeps s0) :
    z0.Keeps (State.cvyBusError s0 e c stage cause done) := by
  unfold State.cvyBusError
  try dsimp only
  repeat' (first | (with_reducible assumption) | (with_reducible apply State.ldgProtocol_keeps)
                 | (with_reducible apply State.setChan_keeps) | (with_reducible apply State.cvyHalt_keeps)
                 | (with_reducible apply State.fault_keeps) | (with_reducible apply State.cvyRetry_keeps)
                 | (with_reducible apply State.cvyAbandon_keeps) | (with_reducible apply State.cvySpoil_keeps)
                 | (intro _ _ _) | (intro _ _) | (simp only [keeps_mk])
                 | (with_reducible refine keeps_snd (by assumption) ?_)
                 | (with_reducible refine keeps_snd2 (by assumption) ?_) | split)

theorem State.cvyAgain_keeps {z0 : State} (s : State) (e : Nat) (c : Option Nat) (kpt : z0.Keeps s) :
    z0.Keeps (State.cvyAgain s e c) := by
  unfold State.cvyAgain
  try dsimp only
  repeat' (first | (with_reducible assumption) | (with_reducible apply State.setChan_keeps)
                 | (with_reducible apply State.setEng_keeps) | (with_reducible apply State.cvyStatus_keeps)
                 | (with_reducible apply State.cvyOwnClear_keeps) | (simp only [keeps_mk])
                 | (with_reducible refine keeps_snd (by assumption) ?_)
                 | (with_reducible refine keeps_snd2 (by assumption) ?_) | split)

theorem State.cvyWritten_keeps {z0 : State} (s : State) (e : Nat) (kpt : z0.Keeps s) :
    z0.Keeps (State.cvyWritten s e) := by
  unfold State.cvyWritten
  repeat' (first | (with_reducible assumption) | (with_reducible apply State.cvyStage_keeps)
                 | (with_reducible apply State.cvyOwnClear_keeps) | split)

theorem State.cvyOwned_keeps {z0 : State} (s : State) (e : Nat) (kpt : z0.Keeps s) :
    z0.Keeps (State.cvyOwned s e) := by
  unfold State.cvyOwned
  try dsimp only
  repeat' (first | (with_reducible assumption) | (with_reducible apply State.bump_keeps)
                 | (with_reducible apply State.set_keeps) | (with_reducible apply State.orBits_keeps)
                 | (with_reducible apply State.cvyRelease_keeps) | (with_reducible apply State.cvyHalt_keeps)
                 | (with_reducible apply State.cvyOff_keeps) | (with_reducible apply State.cvyLink_keeps) | split)

theorem State.cvyLinked_keeps {z0 : State} (s : State) (e : Nat) (c : Nat) (kpt : z0.Keeps s) :
    z0.Keeps (State.cvyLinked s e c) := by
  unfold State.cvyLinked
  try dsimp only
  repeat' (first | (with_reducible assumption) | (with_reducible apply State.linkReadC_keeps)
                 | (with_reducible apply State.cvyBusError_keeps) | (with_reducible apply State.setChan_keeps)
                 | (with_reducible apply State.set_keeps) | (with_reducible apply State.cvyLink_keeps)
                 | (with_reducible apply State.cvyHalt_keeps) | (with_reducible apply State.fault_keeps)
                 | (with_reducible apply State.setCur_keeps) | (with_reducible apply State.cvyWant_keeps)
                 | (simp only [keeps_mk]) | (with_reducible refine keeps_snd (by assumption) ?_)
                 | (with_reducible refine keeps_snd2 (by assumption) ?_) | split)

theorem State.cvyHang_keeps {z0 : State} (s : State) (e : Nat) (kpt : z0.Keeps s) :
    z0.Keeps (State.cvyHang s e) := by
  unfold State.cvyHang
  try dsimp only
  repeat' (first | (with_reducible assumption) | (with_reducible apply State.fault_keeps) | (intro _ _ _)
                 | (intro _ _) | (with_reducible refine keeps_snd (by assumption) ?_)
                 | (with_reducible refine keeps_snd2 (by assumption) ?_) | split)

theorem State.cvyContain_keeps {z0 : State} (s : State) (e : Nat) (kpt : z0.Keeps s) :
    z0.Keeps (State.cvyContain s e) := by
  unfold State.cvyContain
  try dsimp only
  repeat' (first | (with_reducible assumption) | (with_reducible apply State.cvyRelease_keeps)
                 | (with_reducible apply State.orBits_keeps) | (with_reducible apply State.set_keeps)
                 | (with_reducible apply State.cvyHalt_keeps) | (with_reducible refine keeps_foldl ?_ ?_)
                 | (intro _ _ _) | (intro _ _) | split)

theorem State.cvyRestart_keeps {z0 : State} (s : State) (e : Nat) (kpt : z0.Keeps s) :
    z0.Keeps (State.cvyRestart s e) := by
  unfold State.cvyRestart
  repeat' (first | (with_reducible assumption) | (with_reducible apply State.clrBits_keeps))

/-! ### DlkReq -/

theorem State.setLink_keeps {z0 : State} (s : State) (a : Nat) (l : DlkLink) (kpt : z0.Keeps s) :
    z0.Keeps (State.setLink s a l) := by
  unfold State.setLink
  repeat' (first | (with_reducible assumption) | (with_reducible apply State.set_keeps) | (simp only [keeps_mk]))

theorem State.dlkRequest_keeps {z0 : State} (s : State) (a : Nat) (g : DlkFrame) (kpt : z0.Keeps s) :
    z0.Keeps (State.dlkRequest s a g) := by
  unfold State.dlkRequest
  try dsimp only
  repeat' (first | (with_reducible assumption) | (with_reducible apply State.setLink_keeps) | (simp only [keeps_mk])
                 | split)

theorem State.runOff_keeps {z0 : State} (s : State) (h : Nat) (kpt : z0.Keeps s) :
    z0.Keeps (State.runOff s h) := by
  unfold State.runOff
  try dsimp only
  repeat' (first | (with_reducible assumption) | (with_reducible apply State.setLink_keeps)
                 | (with_reducible apply State.dlkRequest_keeps))

theorem State.runOn_keeps {z0 : State} (s : State) (h : Nat) (p0 : Nat) (heatLead : Nat) (laserLead : Nat)
    (kpt : z0.Keeps s) :
    z0.Keeps (State.runOn s h p0 heatLead laserLead) := by
  unfold State.runOn
  try dsimp only
  repeat' (first | (with_reducible assumption) | (with_reducible apply State.setLink_keeps)
                 | (with_reducible apply State.dlkRequest_keeps))

theorem State.dlkSetup_keeps {z0 : State} (s : State) (h : Nat) (e : Nat) (kpt : z0.Keeps s) :
    z0.Keeps (State.dlkSetup s h e) := by
  unfold State.dlkSetup
  try dsimp only
  repeat' (first | (with_reducible assumption) | (with_reducible apply State.setLink_keeps)
                 | (with_reducible apply State.dlkRequest_keeps) | (with_reducible refine keeps_foldl ?_ ?_)
                 | (intro _ _ _))

theorem State.dlkSelect_keeps {z0 : State} (s : State) (a : Nat) (mask : Nat) (kpt : z0.Keeps s) :
    z0.Keeps (State.dlkSelect s a mask) := by
  unfold State.dlkSelect
  repeat' (first | (with_reducible assumption) | (with_reducible apply State.set_keeps)
                 | (with_reducible apply State.dlkRequest_keeps))

end Sys2Proof.Machine
end

