-- ==== Sys2Proof/Laws/KeepsMotion.lean ====
section
/-!
SUPPORT. Keeps, one lemma for each operation of a block: the read and write channels, the Route Table, the actuators, the spindle, the servo, the Darenlen links, the Tether and
the sequencers.
The lemma of an operation says that it keeps the time base and the canonical form of the stores.
-/

namespace Sys2Proof.Machine

open Sys2Proof

set_option simprocs false

/-! ### Place -/

theorem State.setHead_keeps {z0 : State} (s : State) (h : Nat) (x : HeadSt) (kpt : z0.Keeps s) :
    z0.Keeps (State.setHead s h x) := by
  unfold State.setHead
  repeat' (first | (with_reducible assumption) | (with_reducible apply State.set_keeps) | (simp only [keeps_mk]))

theorem State.modHead_keeps {z0 : State} (s : State) (h : Nat) (f : HeadSt → HeadSt) (kpt : z0.Keeps s) :
    z0.Keeps (State.modHead s h f) := by
  unfold State.modHead
  repeat' (first | (with_reducible assumption) | (with_reducible apply State.setHead_keeps))

theorem State.modAct_keeps {z0 : State} (s : State) (a : Nat) (f : ActSv → ActSv) (kpt : z0.Keeps s) :
    z0.Keeps (State.modAct s a f) := by
  unfold State.modAct
  repeat' (first | (with_reducible assumption) | (simp only [keeps_mk]))

theorem State.modHsv_keeps {z0 : State} (s : State) (h : Nat) (f : HeadSv → HeadSv) (kpt : z0.Keeps s) :
    z0.Keeps (State.modHsv s h f) := by
  unfold State.modHsv
  repeat' (first | (with_reducible assumption) | (simp only [keeps_mk]))

theorem State.modGust_keeps {z0 : State} (s : State) (n : Nat) (f : GustSt → GustSt) (kpt : z0.Keeps s) :
    z0.Keeps (State.modGust s n f) := by
  unfold State.modGust
  repeat' (first | (with_reducible assumption) | (simp only [keeps_mk]))

theorem State.modSq_keeps {z0 : State} (s : State) (a : Nat) (f : SeqSt → SeqSt) (kpt : z0.Keeps s) :
    z0.Keeps (State.modSq s a f) := by
  unfold State.modSq
  repeat' (first | (with_reducible assumption) | (simp only [keeps_mk]))

theorem State.filtered_keeps {z0 : State} (s : State) (d : Nat) (win : Nat) (k : Nat) (kpt : z0.Keeps s) :
    z0.Keeps (State.filtered s d win k).2 := by
  unfold State.filtered
  try dsimp only
  repeat' (first | (with_reducible assumption) | (with_reducible apply State.openDiv_keeps))

theorem State.tetherAt_keeps {z0 : State} (s : State) (t : Nat) (kpt : z0.Keeps s) :
    z0.Keeps (State.tetherAt s t).2 := by
  unfold State.tetherAt
  try dsimp only
  repeat' (first | (with_reducible assumption) | (with_reducible apply State.draw_keeps))

/-! ### WriteGate -/

theorem State.tell_keeps {z0 : State} (s : State) (e : IoEvent) (kpt : z0.Keeps s) :
    z0.Keeps (State.tell s e) := by
  unfold State.tell
  repeat' (first | (with_reducible assumption) | (simp only [keeps_mk]))

theorem State.tableRead_keeps {z0 : State} (s : State) (h : Nat) (o : Nat) (k : Nat) (kpt : z0.Keeps s) :
    z0.Keeps (State.tableRead s h o k).2 := by
  unfold State.tableRead
  try dsimp only
  repeat' (first | (with_reducible assumption) | (with_reducible apply State.sramWords_keeps) | (intro _ _ _)
                 | (intro _ _) | (simp only) | (with_reducible refine keeps_snd (by assumption) ?_)
                 | (with_reducible refine keeps_snd2 (by assumption) ?_) | split)

theorem State.workingSet_keeps {z0 : State} (s : State) (h : Nat) (z : Nat) (kpt : z0.Keeps s) :
    z0.Keeps (State.workingSet s h z) := by
  unfold State.workingSet
  try dsimp only
  repeat' (first | (with_reducible assumption) | (with_reducible apply State.tableRead_keeps)
                 | (with_reducible apply State.modHead_keeps))

theorem State.loadedState_keeps {z0 : State} (s : State) (h : Nat) (usable : Bool) (kpt : z0.Keeps s) :
    z0.Keeps (State.loadedState s h usable) := by
  unfold State.loadedState
  repeat' (first | (with_reducible assumption) | (with_reducible apply State.set_keeps) | split)

theorem State.loadEntries_keeps {z0 : State} (s : State) (h : Nat) (z : Nat) (kpt : z0.Keeps s) :
    z0.Keeps (State.loadEntries s h z) := by
  unfold State.loadEntries
  try dsimp only
  repeat' (first | (with_reducible assumption) | (with_reducible apply State.workingSet_keeps)
                 | (with_reducible apply State.modHead_keeps) | (with_reducible apply State.set_keeps)
                 | (with_reducible apply State.loadedState_keeps) | (with_reducible apply State.dlkSetup_keeps)
                 | (intro _ _ _) | (intro _ _) | (simp only [keeps_mk]) | split)

theorem State.loadZone_keeps {z0 : State} (s : State) (h : Nat) (t : Nat) (kpt : z0.Keeps s) :
    z0.Keeps (State.loadZone s h t) := by
  unfold State.loadZone
  repeat' (first | (with_reducible assumption) | (with_reducible apply State.loadEntries_keeps)
                 | (with_reducible apply State.modHead_keeps) | (with_reducible apply State.set_keeps)
                 | (with_reducible apply State.loadedState_keeps) | (with_reducible apply State.fault_keeps)
                 | (intro _ _ _) | (intro _ _) | (simp only [keeps_mk])
                 | (with_reducible refine keeps_snd (by assumption) ?_)
                 | (with_reducible refine keeps_snd2 (by assumption) ?_) | split)

theorem State.zoneRequest_keeps {z0 : State} (s : State) (h : Nat) (t : Nat) (kpt : z0.Keeps s) :
    z0.Keeps (State.zoneRequest s h t) := by
  unfold State.zoneRequest
  try dsimp only
  repeat' (first | (with_reducible assumption) | (with_reducible apply State.loadZone_keeps)
                 | (with_reducible apply State.setHead_keeps) | (simp only [keeps_mk]) | split)

theorem State.zoneCatchUp_keeps {z0 : State} (s : State) (h : Nat) (kpt : z0.Keeps s) :
    z0.Keeps (State.zoneCatchUp s h) := by
  unfold State.zoneCatchUp
  repeat' (first | (with_reducible assumption) | (with_reducible apply State.loadZone_keeps)
                 | (with_reducible refine keeps_snd (by assumption) ?_)
                 | (with_reducible refine keeps_snd2 (by assumption) ?_) | split)

theorem State.popArm_keeps {z0 : State} (s : State) (h : Nat) (kpt : z0.Keeps s) :
    z0.Keeps (State.popArm s h) := by
  unfold State.popArm
  repeat' (first | (with_reducible assumption) | (with_reducible apply State.modHead_keeps))

theorem State.setGrant_keeps {z0 : State} (s : State) (h : Nat) (g : Bool) (kpt : z0.Keeps s) :
    z0.Keeps (State.setGrant s h g) := by
  unfold State.setGrant
  try dsimp only
  repeat' (first | (with_reducible assumption) | (with_reducible apply State.modHead_keeps)
                 | (with_reducible apply State.set_keeps))

theorem State.defSwapNow_keeps {z0 : State} (s : State) (a : Nat) (kpt : z0.Keeps s) :
    z0.Keeps (State.defSwapNow s a) := by
  unfold State.defSwapNow
  repeat' (first | (with_reducible assumption) | (with_reducible apply State.set_keeps)
                 | (with_reducible apply State.modSq_keeps))

theorem State.defSwapTry_keeps {z0 : State} (s : State) (a : Nat) (poll : Bool) (kpt : z0.Keeps s) :
    z0.Keeps (State.defSwapTry s a poll) := by
  unfold State.defSwapTry
  try dsimp only
  repeat' (first | (with_reducible assumption) | (with_reducible apply State.defSwapNow_keeps) | split)

theorem State.defReplace_keeps {z0 : State} (s : State) (a : Nat) (new : List (Nat × Nat × Nat)) (kpt : z0.Keeps s) :
    z0.Keeps (State.defReplace s a new) := by
  unfold State.defReplace
  try dsimp only
  repeat' (first | (with_reducible assumption) | (with_reducible apply State.set_keeps)
                 | (with_reducible apply State.modSq_keeps) | (with_reducible apply State.defSwapTry_keeps)
                 | (with_reducible refine keeps_foldl ?_ ?_) | (intro _ _ _) | (intro _ _) | (simp only [keeps_mk])
                 | (with_reducible refine keeps_mem ?_) | split)

theorem State.relocate_keeps {z0 : State} (s : State) (h : Nat) (arm : Arm) (kpt : z0.Keeps s) :
    z0.Keeps (State.relocate s h arm) := by
  unfold State.relocate
  try dsimp only
  repeat' (first | (with_reducible assumption) | (with_reducible apply State.fault_keeps)
                 | (with_reducible apply State.tell_keeps) | (with_reducible apply State.defReplace_keeps)
                 | (with_reducible apply State.modHead_keeps) | (with_reducible apply State.ldgRaise_keeps)
                 | (with_reducible refine keeps_foldl ?_ ?_) | (intro _ _ _) | (intro _ _) | (simp only [keeps_mk])
                 | (with_reducible refine keeps_snd (by assumption) ?_)
                 | (with_reducible refine keeps_snd2 (by assumption) ?_) | split)

theorem State.notWritten_keeps {z0 : State} (s : State) (h : Nat) (counts : Bool) (arm : Arm) (kpt : z0.Keeps s) :
    z0.Keeps (State.notWritten s h counts arm) := by
  unfold State.notWritten
  try dsimp only
  repeat' (first | (with_reducible assumption) | (with_reducible apply State.bump_keeps)
                 | (with_reducible apply State.modHead_keeps) | (with_reducible apply State.relocate_keeps)
                 | (intro _ _ _) | (intro _ _) | (simp only [keeps_mk]) | split)

theorem State.runStop_keeps {z0 : State} (s : State) (h : Nat) (kpt : z0.Keeps s) :
    z0.Keeps (State.runStop s h) := by
  unfold State.runStop
  repeat' (first | (with_reducible assumption) | (with_reducible apply State.modHead_keeps)
                 | (with_reducible apply State.setGrant_keeps) | (with_reducible apply State.runOff_keeps))

theorem State.adjSuspect_keeps {z0 : State} (s : State) (h : Nat) (e : Int) (d : Nat) (kpt : z0.Keeps s) :
    z0.Keeps (State.adjSuspect s h e d) := by
  unfold State.adjSuspect
  try dsimp only
  repeat' (first | (with_reducible assumption) | (with_reducible apply State.modHead_keeps)
                 | (with_reducible apply State.fault_keeps) | (intro _ _ _) | (intro _ _) | (simp only [keeps_mk])
                 | split)

theorem State.countCut_keeps {z0 : State} (s : State) (h : Nat) (src : Nat) (addr : Nat) (kpt : z0.Keeps s) :
    z0.Keeps (State.countCut s h src addr) := by
  unfold State.countCut
  repeat' (first | (with_reducible assumption) | (with_reducible apply State.bump_keeps)
                 | (with_reducible apply State.ldgRaise_keeps))

theorem State.takeBack_keeps {z0 : State} (s : State) (h : Nat) (srcs : List Nat) (d : Nat) (kpt : z0.Keeps s) :
    z0.Keeps (State.takeBack s h srcs d) := by
  unfold State.takeBack
  try dsimp only
  repeat' (first | (with_reducible assumption) | (with_reducible apply State.notWritten_keeps)
                 | (with_reducible apply State.modHead_keeps) | (with_reducible refine keeps_foldl ?_ ?_)
                 | (intro _ _ _))

theorem State.cut_keeps {z0 : State} (s : State) (h : Nat) (srcs : List Nat) (d : Nat) (kpt : z0.Keeps s) :
    z0.Keeps (State.cut s h srcs d) := by
  unfold State.cut
  try dsimp only
  repeat' (first | (with_reducible assumption) | (with_reducible apply State.modHead_keeps)
                 | (with_reducible apply State.countCut_keeps) | (with_reducible apply State.runStop_keeps)
                 | (with_reducible apply State.takeBack_keeps) | (with_reducible apply State.notWritten_keeps)
                 | (with_reducible apply State.zoneCatchUp_keeps) | (with_reducible refine keeps_foldl ?_ ?_)
                 | (intro _ _ _) | (intro _ _) | (simp only [keeps_mk])
                 | (with_reducible refine keeps_snd (by assumption) ?_)
                 | (with_reducible refine keeps_snd2 (by assumption) ?_) | split)

theorem State.sourcesOn_keeps {z0 : State} (s : State) (h : Nat) (srcs : List Nat) (d : Nat) (kpt : z0.Keeps s) :
    z0.Keeps (State.sourcesOn s h srcs d) := by
  unfold State.sourcesOn
  try dsimp only
  repeat' (first | (with_reducible assumption) | (with_reducible apply State.setFault_keeps)
                 | (with_reducible apply State.orBits_keeps) | (with_reducible apply State.set_keeps)
                 | (with_reducible apply State.set64_keeps) | (with_reducible apply State.modHead_keeps)
                 | (with_reducible apply State.cut_keeps) | (with_reducible apply State.takeBack_keeps)
                 | (with_reducible refine keeps_foldl ?_ ?_) | (intro _ _ _) | (intro _ _) | (simp only [keeps_mk])
                 | (with_reducible refine keeps_snd (by assumption) ?_)
                 | (with_reducible refine keeps_snd2 (by assumption) ?_) | split)

theorem State.sourceOnAt_keeps {z0 : State} (s : State) (hs : List Nat) (n : Nat) (d : Nat) (kpt : z0.Keeps s) :
    z0.Keeps (State.sourceOnAt s hs n d) := by
  unfold State.sourceOnAt
  repeat' (first | (with_reducible assumption) | (with_reducible apply State.sourcesOn_keeps)
                 | (with_reducible refine keeps_foldl ?_ ?_) | (intro _ _ _))

theorem State.sourceOnHeads_keeps {z0 : State} (s : State) (hs : List Nat) (n : Nat) (kpt : z0.Keeps s) :
    z0.Keeps (State.sourceOnHeads s hs n) := by
  unfold State.sourceOnHeads
  repeat' (first | (with_reducible assumption) | (with_reducible apply State.sourceOnAt_keeps))

theorem State.loopSource_keeps {z0 : State} (s : State) (n : Nat) (src : Nat) (d : Nat) (kpt : z0.Keeps s) :
    z0.Keeps (State.loopSource s n src d) := by
  unfold State.loopSource
  try dsimp only
  repeat' (first | (with_reducible assumption) | (with_reducible apply State.sourceOnAt_keeps)
                 | (with_reducible apply State.modHead_keeps) | (with_reducible refine keeps_foldl ?_ ?_)
                 | (intro _ _ _))

theorem State.sourceOff_keeps {z0 : State} (s : State) (h : Nat) (n : Nat) (kpt : z0.Keeps s) :
    z0.Keeps (State.sourceOff s h n) := by
  unfold State.sourceOff
  try dsimp only
  repeat' (first | (with_reducible assumption) | (with_reducible apply State.clrBits_keeps)
                 | (with_reducible apply State.modHead_keeps) | (with_reducible apply State.set_keeps) | (intro _ _ _)
                 | (intro _ _) | (simp only [keeps_mk]) | split)

theorem State.sourceOffHeads_keeps {z0 : State} (s : State) (hs : List Nat) (n : Nat) (kpt : z0.Keeps s) :
    z0.Keeps (State.sourceOffHeads s hs n) := by
  unfold State.sourceOffHeads
  repeat' (first | (with_reducible assumption) | (with_reducible apply State.sourceOff_keeps)
                 | (with_reducible refine keeps_foldl ?_ ?_) | (intro _ _ _))

theorem State.reopenSample_keeps {z0 : State} (s : State) (h : Nat) (srcs : List Nat) (pass : Bool)
    (gustClear : Bool) (kpt : z0.Keeps s) :
    z0.Keeps (State.reopenSample s h srcs pass gustClear) := by
  unfold State.reopenSample
  try dsimp only
  repeat' (first | (with_reducible assumption) | (with_reducible apply State.modHead_keeps)
                 | (with_reducible apply State.set_keeps) | (with_reducible apply State.sourceOff_keeps)
                 | (with_reducible refine keeps_foldl ?_ ?_) | (intro _ _ _) | (intro _ _) | (simp only [keeps_mk])
                 | split)

theorem State.countIdle_keeps {z0 : State} (s : State) (h : Nat) (kpt : z0.Keeps s) :
    z0.Keeps (State.countIdle s h) := by
  unfold State.countIdle
  try dsimp only
  repeat' (first | (with_reducible assumption) | (with_reducible apply State.countCut_keeps)
                 | (with_reducible apply State.setHead_keeps) | (with_reducible refine keeps_foldl ?_ ?_)
                 | (intro _ _ _))

theorem State.holdArm_keeps {z0 : State} (s : State) (h : Nat) (a : Arm) (kpt : z0.Keeps s) :
    z0.Keeps (State.holdArm s h a) := by
  unfold State.holdArm
  repeat' (first | (with_reducible assumption) | (with_reducible apply State.popArm_keeps)
                 | (with_reducible apply State.modHead_keeps))

theorem State.refuse_keeps {z0 : State} (s : State) (h : Nat) (a : Arm) (kpt : z0.Keeps s) :
    z0.Keeps (State.refuse s h a).2 := by
  unfold State.refuse
  try dsimp only
  repeat' (first | (with_reducible assumption) | (with_reducible apply State.fault_keeps)
                 | (with_reducible apply State.modHead_keeps) | (with_reducible apply State.loadedState_keeps)
                 | (intro _ _ _) | (intro _ _) | (simp only [keeps_mk]) | split)

theorem State.writeRunStart_keeps {z0 : State} (s : State) (h lead : Nat) (kpt : z0.Keeps s) :
    z0.Keeps (State.writeRunStart s h lead) := by
  unfold State.writeRunStart
  try dsimp only
  repeat' (first | (with_reducible assumption) | (with_reducible apply State.holdArm_keeps)
                 | (with_reducible apply State.refuse_keeps) | (with_reducible apply State.countIdle_keeps)
                 | (with_reducible apply State.sourcesOn_keeps) | (with_reducible apply State.sourceOff_keeps)
                 | (with_reducible apply State.setGrant_keeps) | (with_reducible apply State.set_keeps)
                 | (with_reducible apply State.modHead_keeps) | (with_reducible apply State.runOn_keeps)
                 | (intro _ _ _) | (intro _ _) | (simp only [keeps_mk])
                 | (with_reducible refine keeps_snd (by assumption) ?_)
                 | (with_reducible refine keeps_snd2 (by assumption) ?_) | split)

theorem State.writePayload_keeps {z0 : State} (s : State) (h : Nat) (a : Arm) (kpt : z0.Keeps s) :
    z0.Keeps (State.writePayload s h a).2 := by
  unfold State.writePayload
  repeat' (first | (with_reducible assumption) | (with_reducible apply State.depRead_keeps)
                 | (with_reducible refine keeps_snd (by assumption) ?_)
                 | (with_reducible refine keeps_snd2 (by assumption) ?_) | split)

theorem State.sectorEnd_keeps {z0 : State} (s : State) (h : Nat) (kpt : z0.Keeps s) :
    z0.Keeps (State.sectorEnd s h) := by
  unfold State.sectorEnd
  repeat' (first | (with_reducible assumption) | (with_reducible apply State.modHead_keeps))

theorem State.sectorStart_keeps {z0 : State} (s : State) (h : Nat) (kpt : z0.Keeps s) :
    z0.Keeps (State.sectorStart s h) := by
  unfold State.sectorStart
  try dsimp only
  repeat' (first | (with_reducible assumption) | (with_reducible apply State.sectorEnd_keeps)
                 | (with_reducible apply State.holdArm_keeps) | (with_reducible apply State.refuse_keeps)
                 | (with_reducible apply State.writePayload_keeps) | (with_reducible apply State.popArm_keeps)
                 | (with_reducible apply State.modHead_keeps) | (intro _ _ _) | (intro _ _) | (simp only [keeps_mk])
                 | (with_reducible refine keeps_snd (by assumption) ?_)
                 | (with_reducible refine keeps_snd2 (by assumption) ?_) | split)

theorem State.writeGateOpen_keeps {z0 : State} (s : State) (h off : Nat) (kpt : z0.Keeps s) :
    z0.Keeps (State.writeGateOpen s h off) := by
  unfold State.writeGateOpen
  repeat' (first | (with_reducible assumption) | (with_reducible apply State.set_keeps)
                 | (with_reducible apply State.sectorStart_keeps)
                 | (with_reducible refine keeps_snd (by assumption) ?_)
                 | (with_reducible refine keeps_snd2 (by assumption) ?_) | split)

theorem State.writeRunEnd_keeps {z0 : State} (s : State) (h : Nat) (kpt : z0.Keeps s) :
    z0.Keeps (State.writeRunEnd s h) := by
  unfold State.writeRunEnd
  try dsimp only
  repeat' (first | (with_reducible assumption) | (with_reducible apply State.modHead_keeps)
                 | (with_reducible apply State.runStop_keeps) | (with_reducible apply State.set_keeps)
                 | (with_reducible apply State.zoneCatchUp_keeps) | (intro _ _ _) | (intro _ _)
                 | (with_reducible refine keeps_snd (by assumption) ?_)
                 | (with_reducible refine keeps_snd2 (by assumption) ?_) | split)

theorem State.abandonWrite_keeps {z0 : State} (s : State) (h : Nat) (kpt : z0.Keeps s) :
    z0.Keeps (State.abandonWrite s h) := by
  unfold State.abandonWrite
  try dsimp only
  repeat' (first | (with_reducible assumption) | (with_reducible apply State.modHead_keeps)
                 | (with_reducible apply State.runStop_keeps) | (with_reducible apply State.set_keeps)
                 | (with_reducible apply State.notWritten_keeps) | (intro _ _ _) | (intro _ _)
                 | (with_reducible refine keeps_snd (by assumption) ?_)
                 | (with_reducible refine keeps_snd2 (by assumption) ?_) | split)

theorem State.armMiss_keeps {z0 : State} (s : State) (h : Nat) (kpt : z0.Keeps s) :
    z0.Keeps (State.armMiss s h) := by
  unfold State.armMiss
  repeat' (first | (with_reducible assumption) | (with_reducible apply State.runStop_keeps)
                 | (with_reducible apply State.set_keeps) | (with_reducible apply State.fault_keeps)
                 | (with_reducible apply State.ldgRaise_keeps) | (with_reducible refine keeps_snd (by assumption) ?_)
                 | (with_reducible refine keeps_snd2 (by assumption) ?_) | split)

theorem State.depDrop_keeps {z0 : State} (s : State) (tag : Nat) (h : Nat) (kpt : z0.Keeps s) :
    z0.Keeps (State.depDrop s tag h) := by
  unfold State.depDrop
  repeat' (first | (with_reducible assumption) | (with_reducible apply State.entryRead_keeps)
                 | (with_reducible apply State.depSend_keeps) | (with_reducible refine keeps_snd (by assumption) ?_)
                 | (with_reducible refine keeps_snd2 (by assumption) ?_) | split)

theorem State.countWritten_keeps {z0 : State} (s : State) (h : Nat) (kpt : z0.Keeps s) :
    z0.Keeps (State.countWritten s h) := by
  unfold State.countWritten
  try dsimp only
  repeat' (first | (with_reducible assumption) | (with_reducible apply State.setHead_keeps)
                 | (with_reducible apply State.bump_keeps) | (with_reducible apply State.modHead_keeps)
                 | (with_reducible apply State.depDrop_keeps) | (with_reducible apply State.tell_keeps)
                 | (with_reducible refine keeps_foldl ?_ ?_) | (intro _ _ _) | (intro _ _) | (simp only [keeps_mk])
                 | split)

theorem State.verifyJudge_keeps {z0 : State} (s : State) (h : Nat) (a : Arm) (outcome : Nat) (iter : Nat)
    (kpt : z0.Keeps s) :
    z0.Keeps (State.verifyJudge s h a outcome iter) := by
  unfold State.verifyJudge
  try dsimp only
  repeat' (first | (with_reducible assumption) | (with_reducible apply State.modHead_keeps)
                 | (with_reducible apply State.depDrop_keeps) | (with_reducible apply State.tell_keeps)
                 | (with_reducible apply State.bump_keeps) | (with_reducible apply State.fault_keeps)
                 | (with_reducible apply State.relocate_keeps) | (intro _ _ _) | (intro _ _) | (simp only [keeps_mk])
                 | (with_reducible refine keeps_snd (by assumption) ?_)
                 | (with_reducible refine keeps_snd2 (by assumption) ?_) | split)

theorem State.arm_keeps {z0 : State} (s : State) (h : Nat) (a : Arm) (kpt : z0.Keeps s) :
    z0.Keeps (State.arm s h a) := by
  unfold State.arm
  try dsimp only
  repeat' (first | (with_reducible assumption) | (with_reducible apply State.fault_keeps)
                 | (with_reducible apply State.setHead_keeps) | (intro _ _ _) | (intro _ _) | (simp only [keeps_mk])
                 | split)

theorem State.armsJudge_keeps {z0 : State} (s : State) (h : Nat) (kpt : z0.Keeps s) :
    z0.Keeps (State.armsJudge s h) := by
  unfold State.armsJudge
  try dsimp only
  repeat' (first | (with_reducible assumption) | (with_reducible apply State.setHead_keeps))

theorem State.writeEnable_keeps {z0 : State} (s : State) (h : Nat) (en : Bool) (kpt : z0.Keeps s) :
    z0.Keeps (State.writeEnable s h en) := by
  unfold State.writeEnable
  repeat' (first | (with_reducible assumption) | (with_reducible apply State.set_keeps)
                 | (with_reducible apply State.abandonWrite_keeps) | split)

/-! ### Rte -/

theorem State.rtRead_keeps {z0 : State} (s : State) (i : Nat) (kpt : z0.Keeps s) :
    z0.Keeps (State.rtRead s i).2 := by
  unfold State.rtRead
  repeat' (first | (with_reducible assumption) | (with_reducible apply State.memNat_keeps))

theorem State.rtWrite_keeps {z0 : State} (s : State) (i : Nat) (e : Nat) (kpt : z0.Keeps s) :
    z0.Keeps (State.rtWrite s i e) := by
  unfold State.rtWrite
  repeat' (first | (with_reducible assumption) | (with_reducible apply State.memWrite_keeps))

theorem State.setRtUsed_keeps {z0 : State} (s : State) (n : Nat) (x : Nat) (kpt : z0.Keeps s) :
    z0.Keeps (State.setRtUsed s n x) := by
  unfold State.setRtUsed
  repeat' (first | (with_reducible assumption) | (with_reducible apply State.set_keeps))

theorem State.liveWrite_keeps {z0 : State} (s : State) (b : Nat) (word : Nat) (live : Nat) (kpt : z0.Keeps s) :
    z0.Keeps (State.liveWrite s b word live) := by
  unfold State.liveWrite
  repeat' (first | (with_reducible assumption) | (with_reducible apply State.memWrite_keeps))

theorem State.rtUnmap_keeps {z0 : State} (s : State) (owner : Option Nat) (e : Nat) (word : Nat) (kpt : z0.Keeps s) :
    z0.Keeps (State.rtUnmap s owner e word) := by
  unfold State.rtUnmap
  try dsimp only
  repeat' (first | (with_reducible assumption) | (with_reducible apply State.liveWrite_keeps)
                 | (with_reducible apply State.fault_keeps) | (with_reducible apply State.setRtUsed_keeps)
                 | (with_reducible apply State.set_keeps) | (with_reducible refine keeps_snd (by assumption) ?_)
                 | (with_reducible refine keeps_snd2 (by assumption) ?_) | split)

theorem State.rtMap_keeps {z0 : State} (s : State) (owner : Option Nat) (e : Nat) (word : Nat) (kpt : z0.Keeps s) :
    z0.Keeps (State.rtMap s owner e word) := by
  unfold State.rtMap
  try dsimp only
  repeat' (first | (with_reducible assumption) | (with_reducible apply State.liveWrite_keeps)
                 | (with_reducible apply State.setRtUsed_keeps) | (with_reducible apply State.set_keeps)
                 | (with_reducible refine keeps_snd (by assumption) ?_)
                 | (with_reducible refine keeps_snd2 (by assumption) ?_) | split)

theorem State.bandWord_keeps {z0 : State} (s : State) (e : Nat) (kpt : z0.Keeps s) :
    z0.Keeps (State.bandWord s e).2 := by
  unfold State.bandWord
  repeat' (first | (with_reducible assumption) | (with_reducible apply State.memNat_keeps) | split)

theorem State.setBand_keeps {z0 : State} (s : State) (b : Nat) (x : Band) (kpt : z0.Keeps s) :
    z0.Keeps (State.setBand s b x) := by
  unfold State.setBand
  repeat' (first | (with_reducible assumption) | (with_reducible apply State.set_keeps) | (simp only [keeps_mk]))

theorem State.bandAppend_keeps {z0 : State} (s : State) (b : Nat) (ofs : Nat) (k : Nat) (kpt : z0.Keeps s) :
    z0.Keeps (State.bandAppend s b ofs k) := by
  unfold State.bandAppend
  try dsimp only
  repeat' (first | (with_reducible assumption) | (with_reducible apply State.setBand_keeps)
                 | (with_reducible refine keeps_foldl ?_ ?_) | (intro _ _ _) | (intro _ _) | (simp only [keeps_mk])
                 | split)

theorem State.coverCache_keeps {z0 : State} (s : State) (own : Option Nat) (i : Nat) (seq : Nat) (since : Nat)
    (kpt : z0.Keeps s) :
    z0.Keeps (State.coverCache s own i seq since) := by
  unfold State.coverCache
  try dsimp only
  repeat' (first | (with_reducible assumption) | (intro _ _ _) | (intro _ _) | (simp only [keeps_mk])
                 | (with_reducible refine keeps_snd (by assumption) ?_)
                 | (with_reducible refine keeps_snd2 (by assumption) ?_) | split)

theorem State.rtUpdate_keeps {z0 : State} (s : State) (i : Nat) (old : Nat) (new : Nat) (wOld : Nat) (since : Nat)
    (kpt : z0.Keeps s) :
    z0.Keeps (State.rtUpdate s i old new wOld since) := by
  unfold State.rtUpdate
  try dsimp only
  repeat' (first | (with_reducible assumption) | (with_reducible apply State.rtWrite_keeps)
                 | (with_reducible apply State.rtUnmap_keeps) | (with_reducible apply State.bandWord_keeps)
                 | (with_reducible apply State.rtMap_keeps) | (with_reducible apply State.bandAppend_keeps)
                 | (with_reducible apply State.coverCache_keeps) | (simp only [keeps_mk])
                 | (with_reducible refine keeps_snd (by assumption) ?_)
                 | (with_reducible refine keeps_snd2 (by assumption) ?_) | split)

theorem State.rteTake_keeps {z0 : State} (s : State) (q : RteReq) (kpt : z0.Keeps s) :
    z0.Keeps (State.rteTake s q).2 := by
  unfold State.rteTake
  try dsimp only
  repeat' (first | (with_reducible assumption) | (with_reducible apply State.fault_keeps)
                 | (with_reducible apply State.rtRead_keeps) | (with_reducible apply State.bump_keeps)
                 | (with_reducible apply State.bandWord_keeps) | (with_reducible apply State.rtUpdate_keeps)
                 | (intro _ _ _) | (intro _ _) | (simp only [keeps_mk])
                 | (with_reducible refine keeps_snd (by assumption) ?_)
                 | (with_reducible refine keeps_snd2 (by assumption) ?_) | split)

theorem State.rteAnswer_keeps {z0 : State} (s : State) (q : RteReq) (r : RteResp) (kpt : z0.Keeps s) :
    z0.Keeps (State.rteAnswer s q r) := by
  unfold State.rteAnswer
  try dsimp only
  repeat' (first | (with_reducible assumption) | (with_reducible apply State.set_keeps)
                 | (with_reducible apply State.set64_keeps) | (simp only [keeps_mk]) | split)

theorem State.rteCount_keeps {z0 : State} (s : State) (kpt : z0.Keeps s) :
    z0.Keeps (State.rteCount s) := by
  unfold State.rteCount
  repeat' (first | (with_reducible assumption) | (with_reducible apply State.set_keeps))

theorem State.rteRequest_keeps {z0 : State} (s : State) (q : RteReq) (kpt : z0.Keeps s) :
    z0.Keeps (State.rteRequest s q) := by
  unfold State.rteRequest
  try dsimp only
  repeat' (first | (with_reducible assumption) | (with_reducible apply State.rteTake_keeps)
                 | (with_reducible apply State.rteAnswer_keeps) | (with_reducible apply State.rteCount_keeps)
                 | (with_reducible apply State.set_keeps) | (simp only [keeps_mk])
                 | (with_reducible refine keeps_snd (by assumption) ?_)
                 | (with_reducible refine keeps_snd2 (by assumption) ?_) | split)

theorem State.rteServe_keeps {z0 : State} (s : State) (y1 : List RteReq) (kpt : z0.Keeps s) :
    z0.Keeps (State.rteServe s y1) := by
  fun_induction State.rteServe s y1
  all_goals repeat' (first | (with_reducible assumption) | (with_reducible apply State.rteRequest_keeps)
                           | (with_reducible apply_assumption))

theorem State.rteRun_keeps {z0 : State} (s : State) (kpt : z0.Keeps s) :
    z0.Keeps (State.rteRun s) := by
  unfold State.rteRun
  try dsimp only
  repeat' (first | (with_reducible assumption) | (with_reducible apply State.setFlag_keeps)
                 | (with_reducible apply State.rteCount_keeps) | (with_reducible apply State.rteServe_keeps)
                 | (simp only [keeps_mk]) | split)

theorem State.rtePort_keeps {z0 : State} (s : State) (v : Nat) (kpt : z0.Keeps s) :
    z0.Keeps (State.rtePort s v) := by
  unfold State.rtePort
  repeat' (first | (with_reducible assumption) | (with_reducible apply State.rteRequest_keeps)
                 | (simp only [keeps_mk]) | split)

theorem State.rteContain_keeps {z0 : State} (s : State) (kpt : z0.Keeps s) :
    z0.Keeps (State.rteContain s) := by
  unfold State.rteContain
  try dsimp only
  repeat' (first | (with_reducible assumption) | (with_reducible apply State.rteCount_keeps)
                 | (with_reducible apply State.set_keeps) | (with_reducible apply State.set64_keeps) | (intro _ _ _)
                 | (intro _ _) | (simp only [keeps_mk]))

theorem State.rtCheckpoint_keeps {z0 : State} (s : State) (kpt : z0.Keeps s) :
    z0.Keeps (State.rtCheckpoint s) := by
  unfold State.rtCheckpoint
  repeat' (first | (with_reducible assumption) | (simp only [keeps_mk]))

theorem State.rtLoadEntries_keeps {z0 : State} (s : State) (y1 : List (Nat × Nat)) (kpt : z0.Keeps s) :
    z0.Keeps (State.rtLoadEntries s y1) := by
  induction y1 generalizing s with
  | nil => exact kpt
  | cons e m ih =>
    obtain ⟨i, e⟩ := e
    unfold State.rtLoadEntries
    have h1 := State.bandWord_keeps (z0 := z0) _ e (State.rtWrite_keeps s i e kpt)
    dsimp only
    generalize (s.rtWrite i e).bandWord e = p at h1 ⊢
    obtain ⟨w, s2⟩ := p
    refine ih _ ?_
    dsimp only
    split
    · exact State.rtMap_keeps _ _ _ _ h1
    · exact h1

/-! ### ReadChan -/

theorem State.lowIter_keeps {z0 : State} (s : State) (kpt : z0.Keeps s) :
    z0.Keeps (State.lowIter s) := by
  unfold State.lowIter
  repeat' (first | (with_reducible assumption) | (with_reducible apply State.setFlag_keeps) | split)

theorem State.setPoolRd_keeps {z0 : State} (s : State) (p : PoolRd) (kpt : z0.Keeps s) :
    z0.Keeps (State.setPoolRd s p) := by
  unfold State.setPoolRd
  repeat' (first | (with_reducible assumption) | (with_reducible apply State.set_keeps)
                 | (with_reducible apply State.lowIter_keeps) | (simp only [keeps_mk]))

theorem State.putJob_keeps {z0 : State} (s : State) (j : ReadJob) (kpt : z0.Keeps s) :
    z0.Keeps (State.putJob s j) := by
  unfold State.putJob
  repeat' (first | (with_reducible assumption) | (with_reducible apply State.setPoolRd_keeps))

theorem State.retryFree_keeps {z0 : State} (s : State) (h : Nat) (a : Arm) (kpt : z0.Keeps s) :
    z0.Keeps (State.retryFree s h a) := by
  unfold State.retryFree
  repeat' (first | (with_reducible assumption) | (with_reducible apply State.setPoolRd_keeps))

theorem State.retryMod_keeps {z0 : State} (s : State) (h : Nat) (a : Arm) (f : RetryEnt → RetryEnt) (kpt : z0.Keeps s) :
    z0.Keeps (State.retryMod s h a f) := by
  unfold State.retryMod
  repeat' (first | (with_reducible assumption) | (with_reducible apply State.setPoolRd_keeps))

theorem State.retryFreeAct_keeps {z0 : State} (s : State) (a : Nat) (kpt : z0.Keeps s) :
    z0.Keeps (State.retryFreeAct s a) := by
  unfold State.retryFreeAct
  repeat' (first | (with_reducible assumption) | (with_reducible apply State.setPoolRd_keeps))

theorem State.decCheck_keeps {z0 : State} (s : State) (kpt : z0.Keeps s) :
    z0.Keeps (State.decCheck s) := by
  unfold State.decCheck
  repeat' (first | (with_reducible assumption) | (with_reducible apply State.fault_keeps) | split)

theorem State.decShow_keeps {z0 : State} (s : State) (n : Nat) (kpt : z0.Keeps s) :
    z0.Keeps (State.decShow s n) := by
  unfold State.decShow
  try dsimp only
  repeat' (first | (with_reducible assumption) | (with_reducible apply State.set_keeps)
                 | (with_reducible apply State.setFlag_keeps) | (with_reducible refine keeps_snd (by assumption) ?_)
                 | (with_reducible refine keeps_snd2 (by assumption) ?_) | split)

theorem State.setDec_keeps {z0 : State} (s : State) (n : Nat) (r : Option DecRun) (kpt : z0.Keeps s) :
    z0.Keeps (State.setDec s n r) := by
  unfold State.setDec
  repeat' (first | (with_reducible assumption) | (with_reducible apply State.setPoolRd_keeps)
                 | (with_reducible apply State.set_keeps) | (with_reducible apply State.decShow_keeps))

theorem State.dropJob_keeps {z0 : State} (s : State) (id : Nat) (kpt : z0.Keeps s) :
    z0.Keeps (State.dropJob s id) := by
  unfold State.dropJob
  try dsimp only
  repeat' (first | (with_reducible assumption) | (with_reducible apply State.setPoolRd_keeps)
                 | (with_reducible apply State.setDec_keeps) | (with_reducible refine keeps_foldl ?_ ?_)
                 | (intro _ _ _))

theorem State.adjReport_keeps {z0 : State} (s : State) (h : Nat) (a : Arm) (outcome : Nat) (kpt : z0.Keeps s) :
    z0.Keeps (State.adjReport s h a outcome) := by
  unfold State.adjReport
  try dsimp only
  repeat' (first | (with_reducible assumption) | (with_reducible apply State.setHead_keeps) | (intro _ _ _)
                 | (intro _ _) | (simp only [keeps_mk]) | (with_reducible refine keeps_snd (by assumption) ?_)
                 | (with_reducible refine keeps_snd2 (by assumption) ?_) | split)

theorem State.postReport_keeps {z0 : State} (s : State) (h : Nat) (a : Arm) (r : RptArgs) (kpt : z0.Keeps s) :
    z0.Keeps (State.postReport s h a r) := by
  unfold State.postReport
  try dsimp only
  repeat' (first | (with_reducible assumption) | (with_reducible apply State.modHead_keeps)
                 | (with_reducible apply State.set_keeps) | (with_reducible apply State.bump_keeps)
                 | (with_reducible apply State.fault_keeps) | (with_reducible apply State.verifyJudge_keeps)
                 | (with_reducible apply State.retryFree_keeps) | (with_reducible apply State.adjReport_keeps)
                 | (intro _ _ _) | (intro _ _) | (simp only [keeps_mk])
                 | (with_reducible refine keeps_snd (by assumption) ?_)
                 | (with_reducible refine keeps_snd2 (by assumption) ?_) | split)

theorem State.gateClosed_keeps {z0 : State} (s : State) (h : Nat) (kpt : z0.Keeps s) :
    z0.Keeps (State.gateClosed s h) := by
  unfold State.gateClosed
  try dsimp only
  repeat' (first | (with_reducible assumption) | (with_reducible apply State.set_keeps)
                 | (with_reducible apply State.zoneCatchUp_keeps) | split)

theorem State.abandonJob_keeps {z0 : State} (s : State) (j : ReadJob) (kpt : z0.Keeps s) :
    z0.Keeps (State.abandonJob s j) := by
  unfold State.abandonJob
  try dsimp only
  repeat' (first | (with_reducible assumption) | (with_reducible apply State.dropJob_keeps)
                 | (with_reducible apply State.retryMod_keeps) | (with_reducible apply State.arm_keeps)
                 | (with_reducible apply State.postReport_keeps) | (with_reducible apply State.gateClosed_keeps))

theorem State.abandonOpen_keeps {z0 : State} (s : State) (h : Nat) (kpt : z0.Keeps s) :
    z0.Keeps (State.abandonOpen s h) := by
  unfold State.abandonOpen
  repeat' (first | (with_reducible assumption) | (with_reducible apply State.abandonJob_keeps)
                 | (with_reducible refine keeps_foldl ?_ ?_))

theorem State.predicted_keeps {z0 : State} (s : State) (h : Nat) (a : Arm) (kpt : z0.Keeps s) :
    z0.Keeps (State.predicted s h a).2 := by
  unfold State.predicted
  repeat' (first | (with_reducible assumption) | (with_reducible apply State.draw_keeps)
                 | (with_reducible refine keeps_snd (by assumption) ?_)
                 | (with_reducible refine keeps_snd2 (by assumption) ?_) | split)

theorem State.reportAbandoned_keeps {z0 : State} (s : State) (h : Nat) (a : Arm) (kpt : z0.Keeps s) :
    z0.Keeps (State.reportAbandoned s h a) := by
  unfold State.reportAbandoned
  try dsimp only
  repeat' (first | (with_reducible assumption) | (with_reducible apply State.predicted_keeps)
                 | (with_reducible apply State.postReport_keeps))

theorem State.abandonArm_keeps {z0 : State} (s : State) (h : Nat) (a : Arm) (kpt : z0.Keeps s) :
    z0.Keeps (State.abandonArm s h a) := by
  unfold State.abandonArm
  repeat' (first | (with_reducible assumption) | (with_reducible apply State.modHead_keeps)
                 | (with_reducible apply State.reportAbandoned_keeps) | (intro _ _ _) | (intro _ _)
                 | (simp only [keeps_mk]) | split)

theorem State.abandonHead_keeps {z0 : State} (s : State) (h : Nat) (kpt : z0.Keeps s) :
    z0.Keeps (State.abandonHead s h) := by
  unfold State.abandonHead
  try dsimp only
  repeat' (first | (with_reducible assumption) | (with_reducible apply State.abandonJob_keeps)
                 | (with_reducible apply State.abandonWrite_keeps) | (with_reducible apply State.modHead_keeps)
                 | (with_reducible apply State.abandonArm_keeps) | (with_reducible apply State.zoneCatchUp_keeps)
                 | (with_reducible refine keeps_foldl ?_ ?_) | (intro _ _ _))

theorem State.gateReload_keeps {z0 : State} (s : State) (h : Nat) (kpt : z0.Keeps s) :
    z0.Keeps (State.gateReload s h) := by
  unfold State.gateReload
  try dsimp only
  repeat' (first | (with_reducible assumption) | (with_reducible apply State.modHead_keeps)
                 | (with_reducible apply State.workingSet_keeps) | (with_reducible apply State.loadedState_keeps)
                 | (intro _ _ _) | (intro _ _) | (simp only [keeps_mk]) | split)

theorem State.readOpen_keeps {z0 : State} (s : State) (h : Nat) (a : Arm) (kpt : z0.Keeps s) :
    z0.Keeps (State.readOpen s h a) := by
  unfold State.readOpen
  try dsimp only
  repeat' (first | (with_reducible assumption) | (with_reducible apply State.predicted_keeps)
                 | (with_reducible apply State.popArm_keeps) | (with_reducible apply State.postReport_keeps)
                 | (with_reducible apply State.modHead_keeps) | (with_reducible apply State.setPoolRd_keeps)
                 | (with_reducible apply State.set_keeps) | (intro _ _ _) | (intro _ _) | (simp only [keeps_mk])
                 | (with_reducible refine keeps_snd (by assumption) ?_)
                 | (with_reducible refine keeps_snd2 (by assumption) ?_) | split)

theorem State.sectorArrival_keeps {z0 : State} (s : State) (h off : Nat) (kpt : z0.Keeps s) :
    z0.Keeps (State.sectorArrival s h off) := by
  unfold State.sectorArrival
  try dsimp only
  repeat' (first | (with_reducible assumption) | (with_reducible apply State.sectorStart_keeps)
                 | (with_reducible apply State.holdArm_keeps) | (with_reducible apply State.reportAbandoned_keeps)
                 | (with_reducible apply State.popArm_keeps) | (with_reducible apply State.zoneCatchUp_keeps)
                 | (with_reducible apply State.gateReload_keeps) | (with_reducible apply State.refuse_keeps)
                 | (with_reducible apply State.readOpen_keeps) | (with_reducible refine keeps_snd (by assumption) ?_)
                 | (with_reducible refine keeps_snd2 (by assumption) ?_) | split)

theorem State.readFinal_keeps {z0 : State} (s : State) (j : ReadJob) (tag : Bool) (outcome : Nat) (reads : Nat)
    (last : Nat × Nat) (kpt : z0.Keeps s) :
    z0.Keeps (State.readFinal s j tag outcome reads last) := by
  unfold State.readFinal
  repeat' (first | (with_reducible assumption) | (with_reducible apply State.dropJob_keeps)
                 | (with_reducible apply State.retryFree_keeps) | (with_reducible apply State.arm_keeps)
                 | (with_reducible apply State.postReport_keeps))

theorem State.readAgain_keeps {z0 : State} (s : State) (j : ReadJob) (reads : Nat) (last : Nat × Nat) (kpt : z0.Keeps s) :
    z0.Keeps (State.readAgain s j reads last) := by
  unfold State.readAgain
  repeat' (first | (with_reducible assumption) | (with_reducible apply State.dropJob_keeps)
                 | (with_reducible apply State.postReport_keeps))

theorem State.readFail_keeps {z0 : State} (s : State) (j : ReadJob) (reads : Nat) (last : Nat × Nat) (kpt : z0.Keeps s) :
    z0.Keeps (State.readFail s j reads last) := by
  unfold State.readFail
  repeat' (first | (with_reducible assumption) | (with_reducible apply State.readFinal_keeps)
                 | (with_reducible apply State.readAgain_keeps) | split)

theorem State.retryPut_keeps {z0 : State} (s : State) (j : ReadJob) (llr : Option Int) (deep : Bool) (kpt : z0.Keeps s) :
    z0.Keeps (State.retryPut s j llr deep) := by
  unfold State.retryPut
  try dsimp only
  repeat' (first | (with_reducible assumption) | (with_reducible apply State.arm_keeps)
                 | (with_reducible apply State.retryFree_keeps) | (with_reducible apply State.fault_keeps)
                 | (with_reducible apply State.retryMod_keeps) | (with_reducible apply State.setPoolRd_keeps)
                 | (intro _ _ _) | (intro _ _) | (simp only [keeps_mk])
                 | (with_reducible refine keeps_snd (by assumption) ?_)
                 | (with_reducible refine keeps_snd2 (by assumption) ?_) | split)

theorem State.deepCheck_keeps {z0 : State} (s : State) (kpt : z0.Keeps s) :
    z0.Keeps (State.deepCheck s) := by
  unfold State.deepCheck
  repeat' (first | (with_reducible assumption) | (with_reducible apply State.readFinal_keeps)
                 | (with_reducible apply State.fault_keeps) | (with_reducible refine keeps_foldl ?_ ?_)
                 | (intro _ _ _) | (intro _ _) | (with_reducible refine keeps_snd (by assumption) ?_)
                 | (with_reducible refine keeps_snd2 (by assumption) ?_) | split)

theorem State.deepAdd_keeps {z0 : State} (s : State) (j : ReadJob) (llr : Option Int) (kpt : z0.Keeps s) :
    z0.Keeps (State.deepAdd s j llr) := by
  unfold State.deepAdd
  try dsimp only
  repeat' (first | (with_reducible assumption) | (with_reducible apply State.arm_keeps)
                 | (with_reducible apply State.putJob_keeps) | (with_reducible apply State.retryPut_keeps)
                 | (with_reducible apply State.readAgain_keeps) | (with_reducible apply State.fault_keeps)
                 | (with_reducible apply State.readFinal_keeps) | (with_reducible apply State.setPoolRd_keeps)
                 | (simp only [keeps_mk]) | (with_reducible refine keeps_snd (by assumption) ?_)
                 | (with_reducible refine keeps_snd2 (by assumption) ?_) | split)

theorem State.streamFailed_keeps {z0 : State} (s : State) (j : ReadJob) (kpt : z0.Keeps s) :
    z0.Keeps (State.streamFailed s j) := by
  unfold State.streamFailed
  repeat' (first | (with_reducible assumption) | (with_reducible apply State.retryPut_keeps)
                 | (with_reducible apply State.readFail_keeps) | (with_reducible apply State.deepAdd_keeps) | split)

theorem State.readBurst_keeps {z0 : State} (s : State) (h : Nat) (a : Arm) (p : List Byte) (kpt : z0.Keeps s) :
    z0.Keeps (State.readBurst s h a p).2 := by
  unfold State.readBurst
  try dsimp only
  repeat' (first | (with_reducible assumption) | (with_reducible apply State.depWrite_keeps)
                 | (with_reducible apply State.take_keeps) | (with_reducible apply State.depSend_keeps)
                 | (with_reducible refine keeps_snd (by assumption) ?_)
                 | (with_reducible refine keeps_snd2 (by assumption) ?_) | split)

theorem State.readSuccess_keeps {z0 : State} (s : State) (j : ReadJob) (p : List Byte) (r : RptArgs) (kpt : z0.Keeps s) :
    z0.Keeps (State.readSuccess s j p r) := by
  unfold State.readSuccess
  try dsimp only
  repeat' (first | (with_reducible assumption) | (with_reducible apply State.dropJob_keeps)
                 | (with_reducible apply State.retryFree_keeps) | (with_reducible apply State.arm_keeps)
                 | (with_reducible apply State.readBurst_keeps) | (with_reducible apply State.postReport_keeps))

theorem State.chooseCand_keeps {z0 : State} (s : State) (j : ReadJob) (c : Cand) (p : List Byte) (kpt : z0.Keeps s) :
    z0.Keeps (State.chooseCand s j c p) := by
  unfold State.chooseCand
  try dsimp only
  repeat' (first | (with_reducible assumption) | (with_reducible apply State.readSuccess_keeps))

theorem State.judge_keeps {z0 : State} (s : State) (j : ReadJob) (kpt : z0.Keeps s) :
    z0.Keeps (State.judge s j) := by
  unfold State.judge
  repeat' (first | (with_reducible assumption) | (with_reducible apply State.streamFailed_keeps)
                 | (with_reducible apply State.chooseCand_keeps) | (intro _ _ _) | (intro _ _)
                 | (with_reducible refine keeps_snd (by assumption) ?_)
                 | (with_reducible refine keeps_snd2 (by assumption) ?_) | split)

theorem State.noCandidate_keeps {z0 : State} (s : State) (j : ReadJob) (kpt : z0.Keeps s) :
    z0.Keeps (State.noCandidate s j) := by
  unfold State.noCandidate
  try dsimp only
  repeat' (first | (with_reducible assumption) | (with_reducible apply State.setPoolRd_keeps)
                 | (with_reducible apply State.putJob_keeps) | (with_reducible apply State.retryPut_keeps)
                 | (with_reducible apply State.readFail_keeps) | (with_reducible apply State.deepAdd_keeps)
                 | (with_reducible apply State.gateClosed_keeps) | (intro _ _ _) | (intro _ _)
                 | (simp only [keeps_mk]) | split)

theorem State.syncDecision_keeps {z0 : State} (s : State) (h : Nat) (hard : Nat) (kpt : z0.Keeps s) :
    z0.Keeps (State.syncDecision s h hard) := by
  unfold State.syncDecision
  try dsimp only
  repeat' (first | (with_reducible assumption) | (with_reducible apply State.noCandidate_keeps)
                 | (with_reducible apply State.putJob_keeps) | (intro _ _ _) | (intro _ _) | (simp only [keeps_mk])
                 | (with_reducible refine keeps_snd (by assumption) ?_)
                 | (with_reducible refine keeps_snd2 (by assumption) ?_) | split)

theorem State.adaptHead_keeps {z0 : State} (s : State) (h : Nat) (fe : FrontEnd) (kpt : z0.Keeps s) :
    z0.Keeps (State.adaptHead s h fe) := by
  unfold State.adaptHead
  try dsimp only
  repeat' (first | (with_reducible assumption) | (with_reducible apply State.setHead_keeps)
                 | (with_reducible apply State.fault_keeps) | (simp only [keeps_mk])
                 | (with_reducible refine keeps_snd (by assumption) ?_)
                 | (with_reducible refine keeps_snd2 (by assumption) ?_) | split)

theorem State.captured_keeps {z0 : State} (s : State) (h : Nat) (fe : FrontEnd) (kpt : z0.Keeps s) :
    z0.Keeps (State.captured s h fe) := by
  unfold State.captured
  try dsimp only
  repeat' (first | (with_reducible assumption) | (with_reducible apply State.adaptHead_keeps)
                 | (with_reducible apply State.gateClosed_keeps) | (with_reducible apply State.putJob_keeps)
                 | (with_reducible apply State.deepAdd_keeps) | (with_reducible apply State.setPoolRd_keeps)
                 | (intro _ _ _) | (intro _ _) | (simp only [keeps_mk])
                 | (with_reducible refine keeps_snd (by assumption) ?_)
                 | (with_reducible refine keeps_snd2 (by assumption) ?_) | split)

theorem State.streamStart_keeps {z0 : State} (s : State) (kpt : z0.Keeps s) :
    z0.Keeps (State.streamStart s) := by
  unfold State.streamStart
  try dsimp only
  repeat' (first | (with_reducible assumption) | (with_reducible apply State.putJob_keeps)
                 | (with_reducible apply State.setPoolRd_keeps) | (with_reducible apply State.setDec_keeps)
                 | (intro _ _ _) | (intro _ _) | (simp only [keeps_mk])
                 | (with_reducible refine keeps_snd (by assumption) ?_)
                 | (with_reducible refine keeps_snd2 (by assumption) ?_) | split)

theorem State.decCount_keeps {z0 : State} (s : State) (n : Nat) (iters : Nat) (kpt : z0.Keeps s) :
    z0.Keeps (State.decCount s n iters) := by
  unfold State.decCount
  repeat' (first | (with_reducible assumption) | (with_reducible apply State.bump_keeps))

theorem State.streamEnd_keeps {z0 : State} (s : State) (n : Nat) (cw : Nat) (iters : Nat) (kpt : z0.Keeps s) :
    z0.Keeps (State.streamEnd s n cw iters) := by
  unfold State.streamEnd
  try dsimp only
  repeat' (first | (with_reducible assumption) | (with_reducible apply State.arm_keeps)
                 | (with_reducible apply State.decCount_keeps) | (with_reducible apply State.setDec_keeps)
                 | (with_reducible apply State.putJob_keeps) | (with_reducible apply State.judge_keeps)
                 | (intro _ _ _) | (intro _ _) | (simp only [keeps_mk])
                 | (with_reducible refine keeps_snd (by assumption) ?_)
                 | (with_reducible refine keeps_snd2 (by assumption) ?_) | split)

theorem State.deepStart_keeps {z0 : State} (s : State) (kpt : z0.Keeps s) :
    z0.Keeps (State.deepStart s) := by
  unfold State.deepStart
  repeat' (first | (with_reducible assumption) | (with_reducible apply State.setPoolRd_keeps)
                 | (with_reducible apply State.setDec_keeps) | (intro _ _ _) | (intro _ _) | (simp only)
                 | (with_reducible refine keeps_snd (by assumption) ?_)
                 | (with_reducible refine keeps_snd2 (by assumption) ?_) | split)

theorem State.deepNext_keeps {z0 : State} (s : State) (h : Nat) (a : Arm) (kpt : z0.Keeps s) :
    z0.Keeps (State.deepNext s h a) := by
  unfold State.deepNext
  repeat' (first | (with_reducible assumption) | (with_reducible apply State.arm_keeps)
                 | (with_reducible apply State.deepAdd_keeps) | (intro _ _ _) | (intro _ _)
                 | (with_reducible refine keeps_snd (by assumption) ?_)
                 | (with_reducible refine keeps_snd2 (by assumption) ?_) | split)

theorem State.deepEnd_keeps {z0 : State} (s : State) (n : Nat) (cw : Nat) (iters : Nat) (kpt : z0.Keeps s) :
    z0.Keeps (State.deepEnd s n cw iters) := by
  unfold State.deepEnd
  try dsimp only
  repeat' (first | (with_reducible assumption) | (with_reducible apply State.arm_keeps)
                 | (with_reducible apply State.decCount_keeps) | (with_reducible apply State.setDec_keeps)
                 | (with_reducible apply State.putJob_keeps) | (with_reducible apply State.readSuccess_keeps)
                 | (with_reducible apply State.retryMod_keeps) | (with_reducible apply State.readFail_keeps)
                 | (with_reducible apply State.deepNext_keeps) | (intro _ _ _) | (intro _ _) | (simp only [keeps_mk])
                 | (with_reducible refine keeps_snd (by assumption) ?_)
                 | (with_reducible refine keeps_snd2 (by assumption) ?_) | split)

theorem State.decReset_keeps {z0 : State} (s : State) (n : Nat) (kpt : z0.Keeps s) :
    z0.Keeps (State.decReset s n) := by
  unfold State.decReset
  try dsimp only
  repeat' (first | (with_reducible assumption) | (with_reducible apply State.setDec_keeps)
                 | (with_reducible apply State.putJob_keeps) | (with_reducible apply State.setPoolRd_keeps)
                 | (intro _ _ _) | (intro _ _) | (simp only [keeps_mk])
                 | (with_reducible refine keeps_snd (by assumption) ?_)
                 | (with_reducible refine keeps_snd2 (by assumption) ?_) | split)

theorem State.decHang_keeps {z0 : State} (s : State) (n : Nat) (kpt : z0.Keeps s) :
    z0.Keeps (State.decHang s n) := by
  unfold State.decHang
  repeat' (first | (with_reducible assumption) | (with_reducible apply State.fault_keeps)
                 | (with_reducible apply State.decCheck_keeps) | (with_reducible refine keeps_snd (by assumption) ?_)
                 | (with_reducible refine keeps_snd2 (by assumption) ?_) | split)

theorem State.zoneSettled_keeps {z0 : State} (s : State) (h : Nat) (kpt : z0.Keeps s) :
    z0.Keeps (State.zoneSettled s h) := by
  unfold State.zoneSettled
  repeat' (first | (with_reducible assumption) | (with_reducible apply State.set_keeps) | split)

theorem State.readOff_keeps {z0 : State} (s : State) (h : Nat) (kpt : z0.Keeps s) :
    z0.Keeps (State.readOff s h) := by
  unfold State.readOff
  try dsimp only
  repeat' (first | (with_reducible assumption) | (with_reducible apply State.captured_keeps)
                 | (with_reducible apply State.abandonJob_keeps) | (with_reducible apply State.set_keeps)
                 | (with_reducible refine keeps_foldl ?_ ?_))

theorem State.readEnable_keeps {z0 : State} (s : State) (h : Nat) (en : Bool) (kpt : z0.Keeps s) :
    z0.Keeps (State.readEnable s h en) := by
  unfold State.readEnable
  repeat' (first | (with_reducible assumption) | (with_reducible apply State.set_keeps)
                 | (with_reducible apply State.readOff_keeps) | split)

theorem State.headsUnlock_keeps {z0 : State} (s : State) (kpt : z0.Keeps s) :
    z0.Keeps (State.headsUnlock s) := by
  unfold State.headsUnlock
  try dsimp only
  repeat' (first | (with_reducible assumption) | (with_reducible apply State.abandonOpen_keeps)
                 | (with_reducible apply State.set_keeps) | (with_reducible refine keeps_foldl ?_ ?_) | (intro _ _ _)
                 | (intro _ _) | split)

theorem State.headsLock_keeps {z0 : State} (s : State) (kpt : z0.Keeps s) :
    z0.Keeps (State.headsLock s) := by
  unfold State.headsLock
  try dsimp only
  repeat' (first | (with_reducible assumption) | (with_reducible apply State.armsJudge_keeps)
                 | (with_reducible apply State.set_keeps) | (with_reducible refine keeps_foldl ?_ ?_) | (intro _ _ _)
                 | (intro _ _) | split)

theorem State.chContain_keeps {z0 : State} (s : State) (h : Nat) (kpt : z0.Keeps s) :
    z0.Keeps (State.chContain s h) := by
  unfold State.chContain
  try dsimp only
  repeat' (first | (with_reducible assumption) | (with_reducible apply State.abandonHead_keeps)
                 | (with_reducible apply State.readOff_keeps) | (with_reducible apply State.set_keeps)
                 | (with_reducible apply State.modHead_keeps) | (with_reducible apply State.set64_keeps))

theorem State.chRestart_keeps {z0 : State} (s : State) (h : Nat) (kpt : z0.Keeps s) :
    z0.Keeps (State.chRestart s h) := by
  unfold State.chRestart
  repeat' (first | (with_reducible assumption) | (with_reducible apply State.readEnable_keeps)
                 | (with_reducible apply State.writeEnable_keeps))

/-! ### Actuator -/

theorem State.lifeCount_keeps {z0 : State} (s : State) (i : Nat) (kpt : z0.Keeps s) :
    z0.Keeps (State.lifeCount s i) := by
  unfold State.lifeCount
  repeat' (first | (with_reducible assumption) | (intro _ _ _) | (intro _ _) | (simp only [keeps_mk]))

theorem State.refreshHead_keeps {z0 : State} (s : State) (h : Nat) (kpt : z0.Keeps s) :
    z0.Keeps (State.refreshHead s h) := by
  unfold State.refreshHead
  try dsimp only
  repeat' (first | (with_reducible assumption) | (with_reducible apply State.set_keeps)
                 | (with_reducible apply State.modHsv_keeps) | (with_reducible apply State.setFlag_keeps)
                 | (intro _ _ _) | (intro _ _) | (simp only [keeps_mk]) | split)

theorem State.refreshHeads_keeps {z0 : State} (s : State) (a : Nat) (kpt : z0.Keeps s) :
    z0.Keeps (State.refreshHeads s a) := by
  unfold State.refreshHeads
  repeat' (first | (with_reducible assumption) | (with_reducible apply State.refreshHead_keeps)
                 | (with_reducible refine keeps_foldl ?_ ?_))

theorem State.bridleSend_keeps {z0 : State} (s : State) (a : Nat) (ch : Nat) (value : Int) (kpt : z0.Keeps s) :
    z0.Keeps (State.bridleSend s a ch value) := by
  unfold State.bridleSend
  repeat' (first | (with_reducible assumption) | (with_reducible apply State.modAct_keeps))

theorem State.bridleCenter_keeps {z0 : State} (s : State) (a : Nat) (kpt : z0.Keeps s) :
    z0.Keeps (State.bridleCenter s a) := by
  unfold State.bridleCenter
  repeat' (first | (with_reducible assumption) | (with_reducible apply State.modHsv_keeps)
                 | (with_reducible apply State.bridleSend_keeps) | (with_reducible refine keeps_foldl ?_ ?_)
                 | (intro _ _ _) | (intro _ _) | (simp only [keeps_mk]) | split)

theorem State.actEnter_keeps {z0 : State} (s : State) (a : Nat) (st : Nat) (kpt : z0.Keeps s) :
    z0.Keeps (State.actEnter s a st) := by
  unfold State.actEnter
  try dsimp only
  repeat' (first | (with_reducible assumption) | (with_reducible apply State.set_keeps)
                 | (with_reducible apply State.abandonHead_keeps) | (with_reducible apply State.refreshHeads_keeps)
                 | (with_reducible apply State.bridleCenter_keeps) | (with_reducible refine keeps_foldl ?_ ?_)
                 | (intro _ _ _) | (intro _ _) | split)

theorem State.seekFail_keeps {z0 : State} (s : State) (a : Nat) (abort : Bool) (kpt : z0.Keeps s) :
    z0.Keeps (State.seekFail s a abort) := by
  unfold State.seekFail
  try dsimp only
  repeat' (first | (with_reducible assumption) | (with_reducible apply State.setFlag_keeps)
                 | (with_reducible apply State.fault_keeps) | split)

theorem State.followCut_keeps {z0 : State} (s : State) (n : Nat) (d : Nat) (kpt : z0.Keeps s) :
    z0.Keeps (State.followCut s n d) := by
  unfold State.followCut
  try dsimp only
  repeat' (first | (with_reducible assumption) | (with_reducible apply State.adjSuspect_keeps)
                 | (with_reducible apply State.setFlag_keeps) | (with_reducible apply State.modHsv_keeps)
                 | (with_reducible apply State.loopSource_keeps) | (with_reducible refine keeps_foldl ?_ ?_)
                 | (intro _ _ _) | (intro _ _) | (simp only [keeps_mk]) | split)

theorem State.seekAbort_keeps {z0 : State} (s : State) (a : Nat) (kpt : z0.Keeps s) :
    z0.Keeps (State.seekAbort s a) := by
  unfold State.seekAbort
  repeat' (first | (with_reducible assumption) | (with_reducible apply State.seekFail_keeps)
                 | (with_reducible apply State.actEnter_keeps))

theorem State.actUnload_keeps {z0 : State} (s : State) (a : Nat) (kpt : z0.Keeps s) :
    z0.Keeps (State.actUnload s a) := by
  unfold State.actUnload
  try dsimp only
  repeat' (first | (with_reducible assumption) | (with_reducible apply State.seekFail_keeps)
                 | (with_reducible apply State.actEnter_keeps) | split)

theorem State.actHold_keeps {z0 : State} (s : State) (a : Nat) (kpt : z0.Keeps s) :
    z0.Keeps (State.actHold s a) := by
  unfold State.actHold
  try dsimp only
  repeat' (first | (with_reducible assumption) | (with_reducible apply State.seekFail_keeps)
                 | (with_reducible apply State.actEnter_keeps) | split)

theorem State.actRetract_keeps {z0 : State} (s : State) (a : Nat) (kpt : z0.Keeps s) :
    z0.Keeps (State.actRetract s a) := by
  unfold State.actRetract
  try dsimp only
  repeat' (first | (with_reducible assumption) | (with_reducible apply State.seekFail_keeps)
                 | (with_reducible apply State.actEnter_keeps) | (with_reducible apply State.modAct_keeps)
                 | (with_reducible apply State.set_keeps) | (intro _ _ _) | (intro _ _) | (simp only [keeps_mk])
                 | split)

theorem State.retractDone_keeps {z0 : State} (s : State) (a : Nat) (kpt : z0.Keeps s) :
    z0.Keeps (State.retractDone s a) := by
  unfold State.retractDone
  repeat' (first | (with_reducible assumption) | (with_reducible apply State.set_keeps)
                 | (with_reducible apply State.modAct_keeps) | (with_reducible apply State.actEnter_keeps)
                 | (intro _ _ _) | (intro _ _) | (simp only [keeps_mk]) | split)

theorem State.actLoad_keeps {z0 : State} (s : State) (a : Nat) (kpt : z0.Keeps s) :
    z0.Keeps (State.actLoad s a) := by
  unfold State.actLoad
  repeat' (first | (with_reducible assumption) | (with_reducible apply State.modHsv_keeps)
                 | (with_reducible apply State.lifeCount_keeps) | (with_reducible apply State.modAct_keeps)
                 | (with_reducible apply State.actEnter_keeps) | (with_reducible refine keeps_foldl ?_ ?_)
                 | (intro _ _ _) | (intro _ _) | (simp only [keeps_mk]) | split)

theorem State.actEnable_keeps {z0 : State} (s : State) (a : Nat) (en : Bool) (kpt : z0.Keeps s) :
    z0.Keeps (State.actEnable s a en) := by
  unfold State.actEnable
  try dsimp only
  repeat' (first | (with_reducible assumption) | (with_reducible apply State.actEnter_keeps)
                 | (with_reducible apply State.actRetract_keeps) | split)

theorem State.actCmd_keeps {z0 : State} (s : State) (a : Nat) (c : Nat) (kpt : z0.Keeps s) :
    z0.Keeps (State.actCmd s a c) := by
  unfold State.actCmd
  repeat' (first | (with_reducible assumption) | (with_reducible apply State.actLoad_keeps)
                 | (with_reducible apply State.actUnload_keeps) | (with_reducible apply State.actRetract_keeps)
                 | (with_reducible apply State.actHold_keeps) | (with_reducible refine keeps_snd (by assumption) ?_)
                 | (with_reducible refine keeps_snd2 (by assumption) ?_) | split)

theorem State.dropTarget_keeps {z0 : State} (s : State) (h : Nat) (kpt : z0.Keeps s) :
    z0.Keeps (State.dropTarget s h) := by
  unfold State.dropTarget
  repeat' (first | (with_reducible assumption) | (with_reducible apply State.setFlag_keeps)
                 | (with_reducible apply State.refreshHead_keeps))

theorem State.rangeOut_keeps {z0 : State} (s : State) (h : Nat) (kpt : z0.Keeps s) :
    z0.Keeps (State.rangeOut s h) := by
  unfold State.rangeOut
  repeat' (first | (with_reducible assumption) | (with_reducible apply State.setFlag_keeps)
                 | (with_reducible apply State.dropTarget_keeps) | (with_reducible apply State.fault_keeps))

theorem State.strokeCheck_keeps {z0 : State} (s : State) (h : Nat) (kpt : z0.Keeps s) :
    z0.Keeps (State.strokeCheck s h) := by
  unfold State.strokeCheck
  repeat' (first | (with_reducible assumption) | (with_reducible apply State.rangeOut_keeps) | split)

theorem State.strokeSet_keeps {z0 : State} (s : State) (h : Nat) (kpt : z0.Keeps s) :
    z0.Keeps (State.strokeSet s h) := by
  unfold State.strokeSet
  try dsimp only
  repeat' (first | (with_reducible assumption) | (with_reducible apply State.rangeOut_keeps) | split)

theorem State.putTarget_keeps {z0 : State} (s : State) (h : Nat) (track : Nat) (kpt : z0.Keeps s) :
    z0.Keeps (State.putTarget s h track) := by
  unfold State.putTarget
  try dsimp only
  repeat' (first | (with_reducible assumption) | (with_reducible apply State.set_keeps)
                 | (with_reducible apply State.setFlag_keeps) | (with_reducible apply State.refreshHead_keeps)
                 | (with_reducible apply State.strokeSet_keeps) | (with_reducible apply State.dropTarget_keeps)
                 | (with_reducible refine keeps_foldl ?_ ?_) | (intro _ _ _) | (intro _ _) | split)

theorem State.setTarget_keeps {z0 : State} (s : State) (h : Nat) (track : Nat) (kpt : z0.Keeps s) :
    z0.Keeps (State.setTarget s h track) := by
  unfold State.setTarget
  repeat' (first | (with_reducible assumption) | (with_reducible apply State.modHsv_keeps)
                 | (with_reducible apply State.putTarget_keeps) | (intro _ _ _) | (intro _ _) | (simp only [keeps_mk])
                 | split)

theorem State.setOfs_keeps {z0 : State} (s : State) (h : Nat) (ofs : Nat) (old : Nat) (kpt : z0.Keeps s) :
    z0.Keeps (State.setOfs s h ofs old) := by
  unfold State.setOfs
  repeat' (first | (with_reducible assumption) | (with_reducible apply State.set_keeps)
                 | (with_reducible apply State.modHsv_keeps) | (with_reducible apply State.strokeSet_keeps)
                 | (intro _ _ _) | (intro _ _) | (simp only [keeps_mk]) | split)

theorem State.targetCatchUp_keeps {z0 : State} (s : State) (h : Nat) (kpt : z0.Keeps s) :
    z0.Keeps (State.targetCatchUp s h) := by
  unfold State.targetCatchUp
  try dsimp only
  repeat' (first | (with_reducible assumption) | (with_reducible apply State.modHsv_keeps)
                 | (with_reducible apply State.set_keeps) | (with_reducible apply State.strokeSet_keeps)
                 | (with_reducible apply State.putTarget_keeps) | (intro _ _ _) | (intro _ _) | (simp only [keeps_mk])
                 | (with_reducible refine keeps_snd (by assumption) ?_)
                 | (with_reducible refine keeps_snd2 (by assumption) ?_) | split)

theorem State.soleTarget_keeps {z0 : State} (s : State) (a : Nat) (kpt : z0.Keeps s) :
    z0.Keeps (State.soleTarget s a) := by
  unfold State.soleTarget
  try dsimp only
  repeat' (first | (with_reducible assumption) | (with_reducible apply State.rangeOut_keeps)
                 | (with_reducible refine keeps_foldl ?_ ?_) | (intro _ _ _) | (intro _ _) | split)

theorem State.enterSeek_keeps {z0 : State} (s : State) (a : Nat) (c : Nat) (kpt : z0.Keeps s) :
    z0.Keeps (State.enterSeek s a c) := by
  unfold State.enterSeek
  try dsimp only
  repeat' (first | (with_reducible assumption) | (with_reducible apply State.setFlag_keeps)
                 | (with_reducible apply State.setInt_keeps) | (with_reducible apply State.set_keeps)
                 | (with_reducible apply State.modAct_keeps) | (with_reducible apply State.actEnter_keeps)
                 | (with_reducible apply State.fault_keeps) | (with_reducible apply State.followCut_keeps)
                 | (with_reducible apply State.seekAbort_keeps) | (intro _ _ _) | (intro _ _) | (simp only [keeps_mk])
                 | split)

theorem State.seekTargets_keeps {z0 : State} (s : State) (a : Nat) (c : Nat) (h : Nat) (kpt : z0.Keeps s) :
    z0.Keeps (State.seekTargets s a c h) := by
  unfold State.seekTargets
  repeat' (first | (with_reducible assumption) | (with_reducible apply State.set_keeps)
                 | (with_reducible apply State.setFlag_keeps) | (with_reducible apply State.putTarget_keeps)
                 | (with_reducible refine keeps_foldl ?_ ?_) | (intro _ _ _) | (intro _ _) | split)

theorem State.seekCmd_keeps {z0 : State} (s : State) (a : Nat) (c : Nat) (h : Nat) (kpt : z0.Keeps s) :
    z0.Keeps (State.seekCmd s a c h) := by
  unfold State.seekCmd
  repeat' (first | (with_reducible assumption) | (with_reducible apply State.seekTargets_keeps)
                 | (with_reducible apply State.enterSeek_keeps) | (with_reducible apply State.modAct_keeps)
                 | (intro _ _ _) | (intro _ _) | (simp only [keeps_mk]) | split)

theorem State.seekCatchUp_keeps {z0 : State} (s : State) (a : Nat) (kpt : z0.Keeps s) :
    z0.Keeps (State.seekCatchUp s a) := by
  unfold State.seekCatchUp
  repeat' (first | (with_reducible assumption) | (with_reducible apply State.seekCmd_keeps)
                 | (with_reducible refine keeps_snd (by assumption) ?_)
                 | (with_reducible refine keeps_snd2 (by assumption) ?_) | split)

theorem State.servoCatchUp_keeps {z0 : State} (s : State) (kpt : z0.Keeps s) :
    z0.Keeps (State.servoCatchUp s) := by
  unfold State.servoCatchUp
  try dsimp only
  repeat' (first | (with_reducible assumption) | (with_reducible apply State.targetCatchUp_keeps)
                 | (with_reducible apply State.seekCatchUp_keeps) | (with_reducible refine keeps_foldl ?_ ?_)
                 | (intro _ _ _) | (intro _ _) | split)

theorem State.seekHome_keeps {z0 : State} (s : State) (a : Nat) (kpt : z0.Keeps s) :
    z0.Keeps (State.seekHome s a) := by
  unfold State.seekHome
  try dsimp only
  repeat' (first | (with_reducible assumption) | (with_reducible apply State.seekTargets_keeps)
                 | (with_reducible apply State.enterSeek_keeps))

theorem State.trackCheck_keeps {z0 : State} (s : State) (a : Nat) (kpt : z0.Keeps s) :
    z0.Keeps (State.trackCheck s a) := by
  unfold State.trackCheck
  try dsimp only
  repeat' (first | (with_reducible assumption) | (with_reducible apply State.actEnter_keeps)
                 | (with_reducible apply State.setFlag_keeps) | (intro _ _ _) | (intro _ _) | (simp only [keeps_mk])
                 | (with_reducible refine keeps_snd (by assumption) ?_)
                 | (with_reducible refine keeps_snd2 (by assumption) ?_) | split)

theorem State.settleCheck_keeps {z0 : State} (s : State) (a : Nat) (kpt : z0.Keeps s) :
    z0.Keeps (State.settleCheck s a) := by
  unfold State.settleCheck
  try dsimp only
  repeat' (first | (with_reducible assumption) | (with_reducible apply State.actEnter_keeps) | split)

theorem State.seekTimeout_keeps {z0 : State} (s : State) (a : Nat) (kpt : z0.Keeps s) :
    z0.Keeps (State.seekTimeout s a) := by
  unfold State.seekTimeout
  repeat' (first | (with_reducible assumption) | (with_reducible apply State.seekAbort_keeps) | split)

theorem State.loadFail_keeps {z0 : State} (s : State) (a : Nat) (kpt : z0.Keeps s) :
    z0.Keeps (State.loadFail s a) := by
  unfold State.loadFail
  repeat' (first | (with_reducible assumption) | (with_reducible apply State.fault_keeps)
                 | (with_reducible apply State.actUnload_keeps) | split)

theorem State.rampStop_keeps {z0 : State} (s : State) (a : Nat) (kpt : z0.Keeps s) :
    z0.Keeps (State.rampStop s a) := by
  unfold State.rampStop
  repeat' (first | (with_reducible assumption) | (with_reducible apply State.actEnter_keeps) | split)

theorem State.servoLost_keeps {z0 : State} (s : State) (a : Nat) (kpt : z0.Keeps s) :
    z0.Keeps (State.servoLost s a) := by
  unfold State.servoLost
  try dsimp only
  repeat' (first | (with_reducible assumption) | (with_reducible apply State.seekAbort_keeps)
                 | (with_reducible apply State.fault_keeps) | (with_reducible apply State.actUnload_keeps) | split)

theorem State.retractAll_keeps {z0 : State} (s : State) (kpt : z0.Keeps s) :
    z0.Keeps (State.retractAll s) := by
  unfold State.retractAll
  repeat' (first | (with_reducible assumption) | (with_reducible apply State.lifeCount_keeps)
                 | (with_reducible apply State.actRetract_keeps) | (with_reducible refine keeps_foldl ?_ ?_)
                 | (intro _ _ _) | (intro _ _) | split)

theorem State.linkReopen_keeps {z0 : State} (s : State) (a : Nat) (kpt : z0.Keeps s) :
    z0.Keeps (State.linkReopen s a) := by
  unfold State.linkReopen
  try dsimp only
  repeat' (first | (with_reducible assumption) | (with_reducible apply State.sourceOffHeads_keeps) | split)

/-! ### SpinOps -/

theorem State.modSpn_keeps {z0 : State} (s : State) (f : SpnSt → SpnSt) (kpt : z0.Keeps s) :
    z0.Keeps (State.modSpn s f) := by
  unfold State.modSpn
  repeat' (first | (with_reducible assumption) | (simp only [keeps_mk]))

theorem State.setBrakePend_keeps {z0 : State} (s : State) (b : Bool) (kpt : z0.Keeps s) :
    z0.Keeps (State.setBrakePend s b) := by
  unfold State.setBrakePend
  repeat' (first | (with_reducible assumption) | (with_reducible apply State.setFlag_keeps))

theorem State.spnEnter_keeps {z0 : State} (s : State) (st : Nat) (kpt : z0.Keeps s) :
    z0.Keeps (State.spnEnter s st) := by
  unfold State.spnEnter
  try dsimp only
  repeat' (first | (with_reducible assumption) | (with_reducible apply State.set_keeps)
                 | (with_reducible apply State.modSpn_keeps) | (with_reducible apply State.setFlag_keeps)
                 | (intro _ _ _) | (intro _ _) | (simp only [keeps_mk]) | split)

theorem State.catchPreset_keeps {z0 : State} (s : State) (v : Nat) (kpt : z0.Keeps s) :
    z0.Keeps (State.catchPreset s v) := by
  unfold State.catchPreset
  repeat' (first | (with_reducible assumption) | (with_reducible apply State.modSpn_keeps))

theorem State.spnCatch_keeps {z0 : State} (s : State) (start : Bool) (kpt : z0.Keeps s) :
    z0.Keeps (State.spnCatch s start) := by
  unfold State.spnCatch
  try dsimp only
  repeat' (first | (with_reducible assumption) | (with_reducible apply State.spnEnter_keeps)
                 | (with_reducible apply State.bump_keeps) | (with_reducible apply State.modSpn_keeps)
                 | (with_reducible apply State.catchPreset_keeps) | (intro _ _ _) | (intro _ _)
                 | (simp only [keeps_mk]) | split)

theorem State.spnListen_keeps {z0 : State} (s : State) (renewed : Bool) (kpt : z0.Keeps s) :
    z0.Keeps (State.spnListen s renewed) := by
  unfold State.spnListen
  try dsimp only
  repeat' (first | (with_reducible assumption) | (with_reducible apply State.set_keeps)
                 | (with_reducible apply State.modSpn_keeps) | (with_reducible apply State.spnCatch_keeps)
                 | (intro _ _ _) | (intro _ _) | (simp only [keeps_mk]) | split)

theorem State.spnStop_keeps {z0 : State} (s : State) (kpt : z0.Keeps s) :
    z0.Keeps (State.spnStop s) := by
  unfold State.spnStop
  try dsimp only
  repeat' (first | (with_reducible assumption) | (with_reducible apply State.spnEnter_keeps)
                 | (with_reducible apply State.setBrakePend_keeps) | (with_reducible apply State.modSpn_keeps)
                 | (with_reducible apply State.spnListen_keeps) | (intro _ _ _) | (intro _ _) | (simp only [keeps_mk])
                 | (with_reducible refine keeps_snd (by assumption) ?_)
                 | (with_reducible refine keeps_snd2 (by assumption) ?_) | split)

theorem State.spnNoAngle_keeps {z0 : State} (s : State) (kpt : z0.Keeps s) :
    z0.Keeps (State.spnNoAngle s) := by
  unfold State.spnNoAngle
  try dsimp only
  repeat' (first | (with_reducible assumption) | (with_reducible apply State.spnCatch_keeps)
                 | (with_reducible apply State.modSpn_keeps) | (with_reducible apply State.spnEnter_keeps)
                 | (intro _ _ _) | (intro _ _) | (simp only [keeps_mk]) | split)

theorem State.spnStart_keeps {z0 : State} (s : State) (kpt : z0.Keeps s) :
    z0.Keeps (State.spnStart s) := by
  unfold State.spnStart
  try dsimp only
  repeat' (first | (with_reducible assumption) | (with_reducible apply State.setBrakePend_keeps)
                 | (with_reducible apply State.spnListen_keeps) | (with_reducible apply State.spnEnter_keeps)
                 | (with_reducible apply State.modSpn_keeps) | (with_reducible apply State.spnCatch_keeps)
                 | (intro _ _ _) | (intro _ _) | (simp only [keeps_mk])
                 | (with_reducible refine keeps_snd (by assumption) ?_)
                 | (with_reducible refine keeps_snd2 (by assumption) ?_) | split)

theorem State.spnBrake_keeps {z0 : State} (s : State) (kpt : z0.Keeps s) :
    z0.Keeps (State.spnBrake s) := by
  unfold State.spnBrake
  repeat' (first | (with_reducible assumption) | (with_reducible apply State.setBrakePend_keeps)
                 | (with_reducible apply State.modSpn_keeps) | (with_reducible apply State.spnEnter_keeps)
                 | (intro _ _ _) | (intro _ _) | (simp only [keeps_mk])
                 | (with_reducible refine keeps_snd (by assumption) ?_)
                 | (with_reducible refine keeps_snd2 (by assumption) ?_) | split)

theorem State.spnCoast_keeps {z0 : State} (s : State) (kpt : z0.Keeps s) :
    z0.Keeps (State.spnCoast s) := by
  unfold State.spnCoast
  repeat' (first | (with_reducible assumption) | (with_reducible apply State.spnEnter_keeps)
                 | (with_reducible refine keeps_snd (by assumption) ?_)
                 | (with_reducible refine keeps_snd2 (by assumption) ?_) | split)

theorem State.spnCmd_keeps {z0 : State} (s : State) (c : Nat) (kpt : z0.Keeps s) :
    z0.Keeps (State.spnCmd s c) := by
  unfold State.spnCmd
  repeat' (first | (with_reducible assumption) | (with_reducible apply State.spnStart_keeps)
                 | (with_reducible apply State.spnBrake_keeps) | (with_reducible apply State.spnCoast_keeps)
                 | (with_reducible refine keeps_snd (by assumption) ?_)
                 | (with_reducible refine keeps_snd2 (by assumption) ?_) | split)

theorem State.spnDisable_keeps {z0 : State} (s : State) (kpt : z0.Keeps s) :
    z0.Keeps (State.spnDisable s) := by
  unfold State.spnDisable
  repeat' (first | (with_reducible assumption) | (with_reducible apply State.modSpn_keeps)
                 | (with_reducible apply State.spnStop_keeps))

theorem State.spnTarget_keeps {z0 : State} (s : State) (kpt : z0.Keeps s) :
    z0.Keeps (State.spnTarget s) := by
  unfold State.spnTarget
  repeat' (first | (with_reducible assumption) | (with_reducible apply State.spnEnter_keeps) | split)

theorem State.spnLimp_keeps {z0 : State} (s : State) (kpt : z0.Keeps s) :
    z0.Keeps (State.spnLimp s) := by
  unfold State.spnLimp
  try dsimp only
  repeat' (first | (with_reducible assumption) | (with_reducible apply State.spnBrake_keeps)
                 | (with_reducible apply State.setBrakePend_keeps) | (with_reducible apply State.spnEnter_keeps)
                 | split)

theorem State.spnListenEnd_keeps {z0 : State} (s : State) (kpt : z0.Keeps s) :
    z0.Keeps (State.spnListenEnd s) := by
  unfold State.spnListenEnd
  repeat' (first | (with_reducible assumption) | (with_reducible apply State.setBrakePend_keeps)
                 | (with_reducible apply State.modSpn_keeps) | (with_reducible apply State.spnEnter_keeps)
                 | (intro _ _ _) | (intro _ _) | (simp only [keeps_mk])
                 | (with_reducible refine keeps_snd (by assumption) ?_)
                 | (with_reducible refine keeps_snd2 (by assumption) ?_) | split)

theorem State.rampEnd_keeps {z0 : State} (s : State) (kpt : z0.Keeps s) :
    z0.Keeps (State.rampEnd s) := by
  unfold State.rampEnd
  repeat' (first | (with_reducible assumption) | (with_reducible apply State.spnEnter_keeps)
                 | (with_reducible apply State.modSpn_keeps) | (intro _ _ _) | (intro _ _) | (simp only [keeps_mk])
                 | split)

theorem State.spnAlignEnd_keeps {z0 : State} (s : State) (kpt : z0.Keeps s) :
    z0.Keeps (State.spnAlignEnd s) := by
  unfold State.spnAlignEnd
  repeat' (first | (with_reducible assumption) | (with_reducible apply State.spnEnter_keeps)
                 | (with_reducible apply State.rampEnd_keeps) | split)

theorem State.spnRampTimeout_keeps {z0 : State} (s : State) (kpt : z0.Keeps s) :
    z0.Keeps (State.spnRampTimeout s) := by
  unfold State.spnRampTimeout
  try dsimp only
  repeat' (first | (with_reducible assumption) | (with_reducible apply State.spnStop_keeps)
                 | (with_reducible apply State.set_keeps) | (with_reducible apply State.fault_keeps)
                 | (with_reducible apply State.modSpn_keeps) | (intro _ _ _) | (intro _ _) | (simp only [keeps_mk])
                 | split)

theorem State.renewedTimeout_keeps {z0 : State} (s : State) (kpt : z0.Keeps s) :
    z0.Keeps (State.renewedTimeout s) := by
  unfold State.renewedTimeout
  try dsimp only
  repeat' (first | (with_reducible assumption) | (with_reducible apply State.spnBrake_keeps)
                 | (with_reducible apply State.fault_keeps) | (with_reducible apply State.modSpn_keeps)
                 | (intro _ _ _) | (intro _ _) | (simp only [keeps_mk]) | split)

theorem State.spnRetryEnd_keeps {z0 : State} (s : State) (kpt : z0.Keeps s) :
    z0.Keeps (State.spnRetryEnd s) := by
  unfold State.spnRetryEnd
  repeat' (first | (with_reducible assumption) | (with_reducible apply State.spnEnter_keeps)
                 | (with_reducible refine keeps_snd (by assumption) ?_)
                 | (with_reducible refine keeps_snd2 (by assumption) ?_) | split)

theorem State.obsLock_keeps {z0 : State} (s : State) (kpt : z0.Keeps s) :
    z0.Keeps (State.obsLock s) := by
  unfold State.obsLock
  try dsimp only
  repeat' (first | (with_reducible assumption) | (with_reducible apply State.setFlag_keeps)
                 | (with_reducible apply State.spnCatch_keeps) | (with_reducible apply State.rampEnd_keeps)
                 | (with_reducible apply State.catchPreset_keeps)
                 | (with_reducible refine keeps_snd (by assumption) ?_)
                 | (with_reducible refine keeps_snd2 (by assumption) ?_) | split)

theorem State.obsLoss_keeps {z0 : State} (s : State) (kpt : z0.Keeps s) :
    z0.Keeps (State.obsLoss s) := by
  unfold State.obsLoss
  repeat' (first | (with_reducible assumption) | (with_reducible apply State.setFlag_keeps)
                 | (with_reducible apply State.bump_keeps) | (with_reducible apply State.fault_keeps)
                 | (with_reducible apply State.spnNoAngle_keeps) | split)

theorem State.catchPresetEnd_keeps {z0 : State} (s : State) (kpt : z0.Keeps s) :
    z0.Keeps (State.catchPresetEnd s) := by
  unfold State.catchPresetEnd
  repeat' (first | (with_reducible assumption) | (with_reducible apply State.spnEnter_keeps) | split)

theorem State.catchFail_keeps {z0 : State} (s : State) (kpt : z0.Keeps s) :
    z0.Keeps (State.catchFail s) := by
  unfold State.catchFail
  try dsimp only
  repeat' (first | (with_reducible assumption) | (with_reducible apply State.fault_keeps)
                 | (with_reducible apply State.setBrakePend_keeps) | (with_reducible apply State.spnEnter_keeps)
                 | (with_reducible apply State.modSpn_keeps) | (intro _ _ _) | (intro _ _) | (simp only [keeps_mk])
                 | split)

theorem State.atSpeed_keeps {z0 : State} (s : State) (kpt : z0.Keeps s) :
    z0.Keeps (State.atSpeed s) := by
  unfold State.atSpeed
  repeat' (first | (with_reducible assumption) | (with_reducible apply State.spnEnter_keeps)
                 | (with_reducible apply State.modSpn_keeps) | (with_reducible apply State.setFlag_keeps)
                 | (intro _ _ _) | (intro _ _) | (simp only [keeps_mk]) | split)

theorem State.restReached_keeps {z0 : State} (s : State) (kpt : z0.Keeps s) :
    z0.Keeps (State.restReached s) := by
  unfold State.restReached
  repeat' (first | (with_reducible assumption) | (with_reducible apply State.spnStop_keeps)
                 | (with_reducible refine keeps_snd (by assumption) ?_)
                 | (with_reducible refine keeps_snd2 (by assumption) ?_) | split)

theorem State.stageFault_keeps {z0 : State} (s : State) (low : Bool) (kpt : z0.Keeps s) :
    z0.Keeps (State.stageFault s low) := by
  unfold State.stageFault
  try dsimp only
  repeat' (first | (with_reducible assumption) | (with_reducible apply State.modSpn_keeps)
                 | (with_reducible apply State.fault_keeps) | (with_reducible apply State.ldgProtocol_keeps)
                 | (with_reducible apply State.spnEnter_keeps) | (intro _ _ _) | (intro _ _) | (simp only [keeps_mk])
                 | split)

theorem State.gateLow_keeps {z0 : State} (s : State) (kpt : z0.Keeps s) :
    z0.Keeps (State.gateLow s) := by
  unfold State.gateLow
  repeat' (first | (with_reducible assumption) | (with_reducible apply State.setFlag_keeps)
                 | (with_reducible apply State.modSpn_keeps))

theorem State.ballastFault_keeps {z0 : State} (s : State) (b : Nat) (kpt : z0.Keeps s) :
    z0.Keeps (State.ballastFault s b) := by
  unfold State.ballastFault
  try dsimp only
  repeat' (first | (with_reducible assumption) | (with_reducible apply State.fault_keeps)
                 | (with_reducible apply State.gateLow_keeps) | (with_reducible apply State.setBrakePend_keeps)
                 | (with_reducible apply State.modSpn_keeps) | (intro _ _ _) | (intro _ _) | (simp only [keeps_mk])
                 | (with_reducible refine keeps_snd (by assumption) ?_)
                 | (with_reducible refine keeps_snd2 (by assumption) ?_) | split)

theorem State.balFlt_keeps {z0 : State} (s : State) (kpt : z0.Keeps s) :
    z0.Keeps (State.balFlt s) := by
  unfold State.balFlt
  repeat' (first | (with_reducible assumption) | (with_reducible apply State.ballastFault_keeps)
                 | (with_reducible apply State.ldgProtocol_keeps)
                 | (with_reducible refine keeps_snd (by assumption) ?_)
                 | (with_reducible refine keeps_snd2 (by assumption) ?_) | split)

theorem State.balStuck_keeps {z0 : State} (s : State) (kpt : z0.Keeps s) :
    z0.Keeps (State.balStuck s) := by
  unfold State.balStuck
  repeat' (first | (with_reducible assumption) | (with_reducible apply State.ballastFault_keeps)
                 | (with_reducible apply State.ldgProtocol_keeps)
                 | (with_reducible refine keeps_snd (by assumption) ?_)
                 | (with_reducible refine keeps_snd2 (by assumption) ?_) | split)

theorem State.overVoltage_keeps {z0 : State} (s : State) (kpt : z0.Keeps s) :
    z0.Keeps (State.overVoltage s) := by
  unfold State.overVoltage
  try dsimp only
  repeat' (first | (with_reducible assumption) | (with_reducible apply State.fault_keeps)
                 | (with_reducible apply State.spnEnter_keeps) | (with_reducible apply State.modSpn_keeps)
                 | (intro _ _ _) | (intro _ _) | (simp only [keeps_mk]) | split)

theorem State.ovRecovery_keeps {z0 : State} (s : State) (kpt : z0.Keeps s) :
    z0.Keeps (State.ovRecovery s) := by
  unfold State.ovRecovery
  repeat' (first | (with_reducible assumption) | (with_reducible apply State.spnCatch_keeps)
                 | (with_reducible refine keeps_snd (by assumption) ?_)
                 | (with_reducible refine keeps_snd2 (by assumption) ?_) | split)

theorem State.loopLost_keeps {z0 : State} (s : State) (kpt : z0.Keeps s) :
    z0.Keeps (State.loopLost s) := by
  unfold State.loopLost
  try dsimp only
  repeat' (first | (with_reducible assumption) | (with_reducible apply State.fault_keeps)
                 | (with_reducible apply State.setBrakePend_keeps) | (with_reducible apply State.modSpn_keeps)
                 | (intro _ _ _) | (intro _ _) | (simp only [keeps_mk]) | split)

theorem State.declareLoss_keeps {z0 : State} (s : State) (kpt : z0.Keeps s) :
    z0.Keeps (State.declareLoss s) := by
  unfold State.declareLoss
  try dsimp only
  repeat' (first | (with_reducible assumption) | (with_reducible apply State.fault_keeps)
                 | (with_reducible apply State.set64_keeps) | (with_reducible apply State.setFlag_keeps)
                 | (with_reducible apply State.modSpn_keeps) | (with_reducible apply State.ldgLastWord_keeps)
                 | (with_reducible apply State.retractAll_keeps) | (with_reducible apply State.sourceOnHeads_keeps)
                 | (with_reducible apply State.spnEnter_keeps) | (intro _ _ _) | (intro _ _) | (simp only [keeps_mk])
                 | split)

theorem State.supplyLoss_keeps {z0 : State} (s : State) (kpt : z0.Keeps s) :
    z0.Keeps (State.supplyLoss s) := by
  unfold State.supplyLoss
  try dsimp only
  repeat' (first | (with_reducible assumption) | (with_reducible apply State.declareLoss_keeps)
                 | (with_reducible refine keeps_snd (by assumption) ?_)
                 | (with_reducible refine keeps_snd2 (by assumption) ?_) | split)

theorem State.plossEnd_keeps {z0 : State} (s : State) (kpt : z0.Keeps s) :
    z0.Keeps (State.plossEnd s) := by
  unfold State.plossEnd
  repeat' (first | (with_reducible assumption) | (with_reducible apply State.spnEnter_keeps) | split)

theorem State.angDisagree_keeps {z0 : State} (s : State) (kpt : z0.Keeps s) :
    z0.Keeps (State.angDisagree s) := by
  unfold State.angDisagree
  repeat' (first | (with_reducible assumption) | (with_reducible apply State.fault_keeps) | split)

theorem State.spnContain_keeps {z0 : State} (s : State) (kpt : z0.Keeps s) :
    z0.Keeps (State.spnContain s) := by
  unfold State.spnContain
  try dsimp only
  repeat' (first | (with_reducible assumption) | (with_reducible apply State.gateLow_keeps)
                 | (with_reducible apply State.modSpn_keeps) | (with_reducible apply State.setFlag_keeps)
                 | (with_reducible apply State.set_keeps))

theorem State.spnRestart_keeps {z0 : State} (s : State) (kpt : z0.Keeps s) :
    z0.Keeps (State.spnRestart s) := by
  unfold State.spnRestart
  try dsimp only
  repeat' (first | (with_reducible assumption) | (with_reducible apply State.modSpn_keeps)
                 | (with_reducible apply State.spnEnter_keeps) | (with_reducible apply State.spnCatch_keeps)
                 | (with_reducible apply State.catchPreset_keeps) | (intro _ _ _) | (intro _ _)
                 | (simp only [keeps_mk]) | (with_reducible refine keeps_snd (by assumption) ?_)
                 | (with_reducible refine keeps_snd2 (by assumption) ?_) | split)

/-! ### Cle -/

theorem State.setCle_keeps {z0 : State} (s : State) (c : CleSt) (kpt : z0.Keeps s) :
    z0.Keeps (State.setCle s c) := by
  unfold State.setCle
  repeat' (first | (with_reducible assumption) | (with_reducible apply State.set_keeps)
                 | (with_reducible apply State.setFlag_keeps) | (simp only [keeps_mk]))

theorem State.modLoop_keeps {z0 : State} (s : State) (n : Nat) (f : CleLoop → CleLoop) (kpt : z0.Keeps s) :
    z0.Keeps (State.modLoop s n f) := by
  unfold State.modLoop
  repeat' (first | (with_reducible assumption) | (with_reducible apply State.setCle_keeps))

theorem State.cancelJobs_keeps {z0 : State} (s : State) (n : Nat) (kpt : z0.Keeps s) :
    z0.Keeps (State.cancelJobs s n) := by
  unfold State.cancelJobs
  repeat' (first | (with_reducible assumption) | (with_reducible apply State.setCle_keeps))

theorem State.injValue_keeps {z0 : State} (s : State) (n : Nat) (kpt : z0.Keeps s) :
    z0.Keeps (State.injValue s n).2 := by
  unfold State.injValue
  try dsimp only
  repeat' (first | (with_reducible assumption) | (with_reducible apply State.draw_keeps)
                 | (with_reducible refine keeps_snd (by assumption) ?_)
                 | (with_reducible refine keeps_snd2 (by assumption) ?_) | split)

theorem State.injAdvance_keeps {z0 : State} (s : State) (n : Nat) (kpt : z0.Keeps s) :
    z0.Keeps (State.injAdvance s n) := by
  unfold State.injAdvance
  try dsimp only
  repeat' (first | (with_reducible assumption) | (with_reducible apply State.setCle_keeps) | (simp only [keeps_mk]) | split)

theorem State.injStop_keeps {z0 : State} (s : State) (kpt : z0.Keeps s) :
    z0.Keeps (State.injStop s) := by
  unfold State.injStop
  repeat' (first | (with_reducible assumption) | (with_reducible apply State.setFlag_keeps)
                 | (with_reducible apply State.fault_keeps) | split)

theorem State.injCheck_keeps {z0 : State} (s : State) (n : Nat) (kpt : z0.Keeps s) :
    z0.Keeps (State.injCheck s n) := by
  unfold State.injCheck
  repeat' (first | (with_reducible assumption) | (with_reducible apply State.injStop_keeps) | split)

theorem State.injEnable_keeps {z0 : State} (s : State) (kpt : z0.Keeps s) :
    z0.Keeps (State.injEnable s) := by
  unfold State.injEnable
  repeat' (first | (with_reducible assumption) | (with_reducible apply State.setCle_keeps))

theorem State.capArm_keeps {z0 : State} (s : State) (kpt : z0.Keeps s) :
    z0.Keeps (State.capArm s) := by
  unfold State.capArm
  repeat' (first | (with_reducible assumption) | (with_reducible apply State.setCle_keeps)
                 | (with_reducible apply State.set_keeps) | (with_reducible apply State.setFlag_keeps))

theorem State.capture_keeps {z0 : State} (s : State) (n : Nat) (stamp : Nat) (inj : Int) (x : Int) (out : Int)
    (ovr : Bool) (kpt : z0.Keeps s) :
    z0.Keeps (State.capture s n stamp inj x out ovr) := by
  unfold State.capture
  try dsimp only
  repeat' (first | (with_reducible assumption) | (with_reducible apply State.setCle_keeps)
                 | (with_reducible apply State.set_keeps) | (with_reducible apply State.setFlag_keeps) | (intro _ _ _)
                 | (intro _ _) | (simp only [keeps_mk]) | split)

theorem State.loopOutputs_keeps {z0 : State} (s : State) (n : Nat) (kpt : z0.Keeps s) :
    z0.Keeps (State.loopOutputs s n) := by
  unfold State.loopOutputs
  try dsimp only
  repeat' (first | (with_reducible assumption) | (with_reducible apply State.dropTarget_keeps)
                 | (with_reducible apply State.loopSource_keeps) | (with_reducible apply State.actRetract_keeps)
                 | (with_reducible apply State.loopLost_keeps) | split)

theorem State.loopFault_keeps {z0 : State} (s : State) (n : Nat) (kpt : z0.Keeps s) :
    z0.Keeps (State.loopFault s n) := by
  unfold State.loopFault
  try dsimp only
  repeat' (first | (with_reducible assumption) | (with_reducible apply State.cancelJobs_keeps)
                 | (with_reducible apply State.setFlag_keeps) | (with_reducible apply State.fault_keeps)
                 | (with_reducible apply State.injStop_keeps) | (with_reducible apply State.loopOutputs_keeps)
                 | split)

theorem State.captureOverrun_keeps {z0 : State} (s : State) (n : Nat) (j : CleJob) (kpt : z0.Keeps s) :
    z0.Keeps (State.captureOverrun s n j) := by
  unfold State.captureOverrun
  try dsimp only
  repeat' (first | (with_reducible assumption) | (with_reducible apply State.injValue_keeps)
                 | (with_reducible apply State.set_keeps) | (with_reducible apply State.capture_keeps))

theorem State.cleOverrun_keeps {z0 : State} (s : State) (n : Nat) (kpt : z0.Keeps s) :
    z0.Keeps (State.cleOverrun s n) := by
  unfold State.cleOverrun
  try dsimp only
  repeat' (first | (with_reducible assumption) | (with_reducible apply State.cancelJobs_keeps)
                 | (with_reducible apply State.modLoop_keeps) | (with_reducible apply State.setFlag_keeps)
                 | (with_reducible apply State.bump_keeps) | (with_reducible apply State.set_keeps)
                 | (with_reducible apply State.captureOverrun_keeps) | (with_reducible apply State.injAdvance_keeps)
                 | (with_reducible apply State.fault_keeps) | (with_reducible apply State.loopSource_keeps)
                 | (with_reducible apply State.loopFault_keeps) | (intro _ _ _) | (intro _ _) | (simp only)
                 | (with_reducible refine keeps_snd (by assumption) ?_)
                 | (with_reducible refine keeps_snd2 (by assumption) ?_) | split)

theorem State.cleTrigger_keeps {z0 : State} (s : State) (j : CleJob) (kpt : z0.Keeps s) :
    z0.Keeps (State.cleTrigger s j) := by
  unfold State.cleTrigger
  try dsimp only
  repeat' (first | (with_reducible assumption) | (with_reducible apply State.loopOutputs_keeps)
                 | (with_reducible apply State.cleOverrun_keeps) | (with_reducible apply State.setCle_keeps)
                 | (simp only [keeps_mk]) | split)

theorem State.jobOverrun_keeps {z0 : State} (s : State) (n : Nat) (kpt : z0.Keeps s) :
    z0.Keeps (State.jobOverrun s n) := by
  unfold State.jobOverrun
  repeat' (first | (with_reducible assumption) | (with_reducible apply State.cleOverrun_keeps)
                 | (with_reducible refine keeps_snd (by assumption) ?_)
                 | (with_reducible refine keeps_snd2 (by assumption) ?_) | split)

theorem State.loopRestart_keeps {z0 : State} (s : State) (n : Nat) (kpt : z0.Keeps s) :
    z0.Keeps (State.loopRestart s n) := by
  unfold State.loopRestart
  repeat' (first | (with_reducible assumption) | (with_reducible apply State.set_keeps)
                 | (with_reducible apply State.modLoop_keeps))

theorem State.loopCntClr_keeps {z0 : State} (s : State) (n : Nat) (kpt : z0.Keeps s) :
    z0.Keeps (State.loopCntClr s n) := by
  unfold State.loopCntClr
  repeat' (first | (with_reducible assumption) | (with_reducible apply State.set_keeps))

theorem State.setRead_keeps {z0 : State} (s : State) (n : Nat) (k : Nat) (kpt : z0.Keeps s) :
    z0.Keeps (State.setRead s n k).2 := by
  unfold State.setRead
  try dsimp only
  repeat' (first | (with_reducible assumption) | (with_reducible apply State.sramWords_keeps))

theorem State.jobStart_keeps {z0 : State} (s : State) (kpt : z0.Keeps s) :
    z0.Keeps (State.jobStart s) := by
  unfold State.jobStart
  try dsimp only
  repeat' (first | (with_reducible assumption) | (with_reducible apply State.setCle_keeps)
                 | (with_reducible apply State.setRead_keeps) | (with_reducible apply State.set_keeps)
                 | (with_reducible apply State.fault_keeps) | (with_reducible apply State.loopFault_keeps)
                 | (intro _ _ _) | (intro _ _) | (simp only [keeps_mk])
                 | (with_reducible refine keeps_snd (by assumption) ?_)
                 | (with_reducible refine keeps_snd2 (by assumption) ?_) | split)

theorem State.deliver_keeps {z0 : State} (s : State) (n : Nat) (d : Int) (q : Int) (kpt : z0.Keeps s) :
    z0.Keeps (State.deliver s n d q) := by
  unfold State.deliver
  try dsimp only
  repeat' (first | (with_reducible assumption) | (with_reducible apply State.modHsv_keeps)
                 | (with_reducible apply State.setInt_keeps) | (with_reducible apply State.modSpn_keeps)
                 | (intro _ _ _) | (intro _ _) | (simp only [keeps_mk]) | split)

theorem State.jobLat_keeps {z0 : State} (s : State) (j : CleJob) (kpt : z0.Keeps s) :
    z0.Keeps (State.jobLat s j) := by
  unfold State.jobLat
  try dsimp only
  repeat' (first | (with_reducible assumption) | (with_reducible apply State.set_keeps) | split)

theorem State.jobFlags_keeps {z0 : State} (s : State) (j : CleJob) (acc : Bool) (clip : Bool) (lim : Bool)
    (kpt : z0.Keeps s) :
    z0.Keeps (State.jobFlags s j acc clip lim) := by
  unfold State.jobFlags
  try dsimp only
  repeat' (first | (with_reducible assumption) | (with_reducible apply State.setFlag_keeps)
                 | (with_reducible apply State.modLoop_keeps) | (with_reducible apply State.loopSource_keeps)
                 | (with_reducible apply State.fault_keeps) | (intro _ _ _) | (intro _ _) | (simp only [keeps_mk])
                 | split)

theorem State.seekBack_keeps {z0 : State} (s : State) (j : CleJob) (kpt : z0.Keeps s) :
    z0.Keeps (State.seekBack s j) := by
  unfold State.seekBack
  try dsimp only
  repeat' (first | (with_reducible assumption) | (with_reducible apply State.openDiv_keeps)
                 | (with_reducible apply State.setInt_keeps) | (with_reducible apply State.set_keeps)
                 | (with_reducible apply State.modAct_keeps) | (with_reducible apply State.settleCheck_keeps)
                 | (intro _ _ _) | (intro _ _) | (simp only [keeps_mk])
                 | (with_reducible refine keeps_snd (by assumption) ?_)
                 | (with_reducible refine keeps_snd2 (by assumption) ?_) | split)

theorem State.finishJob_keeps {z0 : State} (s : State) (j : CleJob) (kpt : z0.Keeps s) :
    z0.Keeps (State.finishJob s j) := by
  unfold State.finishJob
  try dsimp only
  repeat' (first | (with_reducible assumption) | (with_reducible apply State.set_keeps)
                 | (with_reducible apply State.injValue_keeps) | (with_reducible apply State.modLoop_keeps)
                 | (with_reducible apply State.bump_keeps) | (with_reducible apply State.setInt_keeps)
                 | (with_reducible apply State.jobLat_keeps) | (with_reducible apply State.jobFlags_keeps)
                 | (with_reducible apply State.seekBack_keeps) | (with_reducible apply State.deliver_keeps)
                 | (with_reducible apply State.capture_keeps) | (with_reducible apply State.injAdvance_keeps)
                 | (with_reducible apply State.injCheck_keeps) | (with_reducible apply State.loopOutputs_keeps)
                 | (intro _ _ _) | (intro _ _) | (simp only [keeps_mk])
                 | (with_reducible refine keeps_snd (by assumption) ?_)
                 | (with_reducible refine keeps_snd2 (by assumption) ?_) | split)

theorem State.jobEnd_keeps {z0 : State} (s : State) (i : Nat) (kpt : z0.Keeps s) :
    z0.Keeps (State.jobEnd s i) := by
  unfold State.jobEnd
  repeat' (first | (with_reducible assumption) | (with_reducible apply State.cleOverrun_keeps)
                 | (with_reducible apply State.setCle_keeps) | (with_reducible apply State.set_keeps)
                 | (with_reducible apply State.finishJob_keeps) | (simp only)
                 | (with_reducible refine keeps_snd (by assumption) ?_)
                 | (with_reducible refine keeps_snd2 (by assumption) ?_) | split)

theorem State.cleCommit_keeps {z0 : State} (s : State) (n : Nat) (k : Nat) (kpt : z0.Keeps s) :
    z0.Keeps (State.cleCommit s n k) := by
  unfold State.cleCommit
  try dsimp only
  repeat' (first | (with_reducible assumption) | (with_reducible apply State.setCle_keeps)
                 | (with_reducible apply State.fault_keeps) | (intro _ _ _) | (intro _ _) | (simp only [keeps_mk])
                 | split)

theorem State.commitCopy_keeps {z0 : State} (s : State) (kpt : z0.Keeps s) :
    z0.Keeps (State.commitCopy s) := by
  unfold State.commitCopy
  repeat' (first | (with_reducible assumption) | (with_reducible apply State.arrayStored_keeps)
                 | (with_reducible apply State.setCle_keeps) | (with_reducible refine keeps_foldl ?_ ?_)
                 | (intro _ _ _) | (intro _ _) | (simp only)
                 | (with_reducible refine keeps_snd (by assumption) ?_)
                 | (with_reducible refine keeps_snd2 (by assumption) ?_) | split)

theorem State.cleRegsReset_keeps {z0 : State} (s : State) (kpt : z0.Keeps s) :
    z0.Keeps (State.cleRegsReset s) := by
  unfold State.cleRegsReset
  try dsimp only
  repeat' (first | (with_reducible assumption) | (with_reducible apply State.set_keeps)
                 | (with_reducible apply State.setFlag_keeps) | (with_reducible refine keeps_foldl ?_ ?_)
                 | (intro _ _ _))

theorem State.cleContain_keeps {z0 : State} (s : State) (kpt : z0.Keeps s) :
    z0.Keeps (State.cleContain s) := by
  unfold State.cleContain
  try dsimp only
  repeat' (first | (with_reducible assumption) | (with_reducible apply State.cleOverrun_keeps)
                 | (with_reducible apply State.setCle_keeps) | (with_reducible apply State.followCut_keeps)
                 | (with_reducible apply State.seekAbort_keeps) | (with_reducible apply State.cleRegsReset_keeps)
                 | (with_reducible refine keeps_foldl ?_ ?_) | (intro _ _ _) | (intro _ _) | (simp only [keeps_mk])
                 | split)

/-! ### Servo -/

theorem State.burstAmp_keeps {z0 : State} (s : State) (xs : List Int) (kpt : z0.Keeps s) :
    z0.Keeps (State.burstAmp s xs).2 := by
  unfold State.burstAmp
  try dsimp only
  repeat' (first | (with_reducible assumption) | (with_reducible apply State.openDiv_keeps))

theorem State.burstsOf_keeps {z0 : State} (s : State) (o : WedgeObs) (kpt : z0.Keeps s) :
    z0.Keeps (State.burstsOf s o).2 := by
  unfold State.burstsOf
  try dsimp only
  repeat' (first | (with_reducible assumption) | (with_reducible apply State.burstAmp_keeps))

theorem State.bpes_keeps {z0 : State} (s : State) (o : Bursts) (odd : Bool) (kpt : z0.Keeps s) :
    z0.Keeps (State.bpes s o odd).2 := by
  unfold State.bpes
  try dsimp only
  repeat' (first | (with_reducible assumption) | (with_reducible apply State.nearDiv_keeps) | split)

theorem State.seekStep_keeps {z0 : State} (s : State) (a : Nat) (stamp : Nat) (kpt : z0.Keeps s) :
    z0.Keeps (State.seekStep s a stamp).2 := by
  unfold State.seekStep
  try dsimp only
  repeat' (first | (with_reducible assumption) | (with_reducible apply State.nearDiv_keeps)
                 | (with_reducible refine keeps_snd (by assumption) ?_)
                 | (with_reducible refine keeps_snd2 (by assumption) ?_) | split)

theorem State.vcmJob_keeps {z0 : State} (s : State) (a : Nat) (stamp : Nat) (pred : Bool) (kpt : z0.Keeps s) :
    z0.Keeps (State.vcmJob s a stamp pred) := by
  unfold State.vcmJob
  try dsimp only
  repeat' (first | (with_reducible assumption) | (with_reducible apply State.set_keeps)
                 | (with_reducible apply State.seekStep_keeps) | (with_reducible apply State.cleTrigger_keeps)
                 | (with_reducible apply State.openDiv_keeps) | (intro _ _ _) | (intro _ _) | (simp only [keeps_mk])
                 | (with_reducible refine keeps_snd (by assumption) ?_)
                 | (with_reducible refine keeps_snd2 (by assumption) ?_) | split)

theorem State.armEstimate_keeps {z0 : State} (s : State) (h : Nat) (stamp : Nat) (p : Int) (kpt : z0.Keeps s) :
    z0.Keeps (State.armEstimate s h stamp p) := by
  unfold State.armEstimate
  try dsimp only
  repeat' (first | (with_reducible assumption) | (with_reducible apply State.openDiv_keeps)
                 | (with_reducible apply State.nearDiv_keeps) | (with_reducible apply State.modAct_keeps)
                 | (with_reducible apply State.setInt_keeps) | (intro _ _ _) | (intro _ _) | (simp only [keeps_mk])
                 | (with_reducible refine keeps_snd (by assumption) ?_)
                 | (with_reducible refine keeps_snd2 (by assumption) ?_) | split)

theorem State.followRuns_keeps {z0 : State} (s : State) (h : Nat) (has : Bool) (e : Int) (kpt : z0.Keeps s) :
    z0.Keeps (State.followRuns s h has e) := by
  unfold State.followRuns
  try dsimp only
  repeat' (first | (with_reducible assumption) | (with_reducible apply State.modHsv_keeps)
                 | (with_reducible apply State.modAct_keeps) | (intro _ _ _) | (intro _ _) | (simp only [keeps_mk])
                 | split)

theorem State.reopen_keeps {z0 : State} (s : State) (h : Nat) (pass : Bool) (kpt : z0.Keeps s) :
    z0.Keeps (State.reopen s h pass) := by
  unfold State.reopen
  try dsimp only
  repeat' (first | (with_reducible assumption) | (with_reducible apply State.reopenSample_keeps)
                 | (with_reducible refine keeps_foldl ?_ ?_) | (intro _ _ _))

theorem State.onTrack_keeps {z0 : State} (s : State) (h : Nat) (pass : Bool) (e : Int) (kpt : z0.Keeps s) :
    z0.Keeps (State.onTrack s h pass e) := by
  unfold State.onTrack
  repeat' (first | (with_reducible assumption) | (with_reducible apply State.setFlag_keeps)
                 | (with_reducible apply State.modHsv_keeps) | (intro _ _ _) | (intro _ _) | (simp only [keeps_mk])
                 | split)

theorem State.sampleRegs_keeps {z0 : State} (s : State) (h : Nat) (c : Nat) (tid : Nat) (wedge : Nat) (has : Bool)
    (e : Int) (kpt : z0.Keeps s) :
    z0.Keeps (State.sampleRegs s h c tid wedge has e) := by
  unfold State.sampleRegs
  try dsimp only
  repeat' (first | (with_reducible assumption) | (with_reducible apply State.set_keeps)
                 | (with_reducible apply State.setInt_keeps) | (with_reducible apply State.modHsv_keeps)
                 | (intro _ _ _) | (intro _ _) | (simp only [keeps_mk]) | split)

theorem State.servoSample_keeps {z0 : State} (s : State) (h : Nat) (o : WedgeObs) (kpt : z0.Keeps s) :
    z0.Keeps (State.servoSample s h o) := by
  revert s h o kpt
  refine (?_ : Holds (fun F => ∀ (s : State) (h : Nat) (o : WedgeObs) (_ : z0.Keeps s), z0.Keeps (F s h o)) @State.servoSample).h
  delta State.servoSample
  have k_burstsOf := @State.burstsOf_keeps z0
  generalize @State.burstsOf = f_burstsOf at k_burstsOf ⊢
  have k_bpes := @State.bpes_keeps z0
  generalize @State.bpes = f_bpes at k_bpes ⊢
  have k_seekCatchUp := @State.seekCatchUp_keeps z0
  generalize @State.seekCatchUp = f_seekCatchUp at k_seekCatchUp ⊢
  have k_targetCatchUp := @State.targetCatchUp_keeps z0
  generalize @State.targetCatchUp = f_targetCatchUp at k_targetCatchUp ⊢
  refine ⟨fun s h o kpt => ?_⟩
  by_cases c1 : (!s.chPowered h) = true
  · rw [if_pos c1]
    exact kpt
  · rw [if_neg c1]
    extract_lets +onlyGivenNames a w0 stamp expected
    have kw : z0.Keeps w0 := k_seekCatchUp _ _ (k_targetCatchUp _ _ kpt)
    clear_value stamp expected
    clear_value w0
    have hb := k_burstsOf w0 o kw
    generalize f_burstsOf w0 o = p at hb ⊢
    obtain ⟨bu, s00⟩ := p
    dsimp -zeta only
    generalize s00.classOf h o bu = p
    obtain ⟨c, ids⟩ := p
    dsimp -zeta only
    extract_lets +onlyGivenNames s0
    have k0 : z0.Keeps s0 := State.modHsv_keeps _ _ _ hb
    clear_value s0
    extract_lets +onlyGivenNames st has tid wedge
    clear_value tid wedge has st
    have h1 : z0.Keeps (if has = true then f_bpes s0 bu (tid % 2 == 1) else (0, s0)).2 := by
      split
      · exact k_bpes _ _ _ k0
      · exact k0
    generalize (if has = true then f_bpes s0 bu (tid % 2 == 1) else (0, s0)) = p at h1 ⊢
    obtain ⟨b, s1⟩ := p
    dsimp -zeta only
    extract_lets +onlyGivenNames p e s2
    have k2 : z0.Keeps s2 := State.sampleRegs_keeps _ _ _ _ _ _ _ h1
    clear_value s2
    extract_lets +onlyGivenNames used s3
    have k3 : z0.Keeps s3 := by unfold s3; split; exacts [State.armEstimate_keeps _ _ _ _ k2, k2]
    clear_value s3
    extract_lets +onlyGivenNames s4
    have k4 : z0.Keeps s4 := State.modAct_keeps _ _ _ k3
    clear_value s4
    extract_lets +onlyGivenNames s5
    have k5 : z0.Keeps s5 := by unfold s5; split; exacts [State.seekHome_keeps _ _ k4, k4]
    clear_value s5
    extract_lets +onlyGivenNames s6
    have k6 : z0.Keeps s6 := State.settleCheck_keeps _ _ (State.followRuns_keeps _ _ _ _ (State.strokeCheck_keeps _ _ k5))
    clear_value s6
    extract_lets +onlyGivenNames pass s7
    have k7 : z0.Keeps s7 := State.reopen_keeps _ _ _ (State.modHsv_keeps _ _ _ k6)
    clear_value s7 pass
    extract_lets +onlyGivenNames s8
    have k8 : z0.Keeps s8 := by unfold s8; split; exacts [State.modHead_keeps _ _ _ k7, k7]
    clear_value s8
    extract_lets +onlyGivenNames off s9
    have k9 : z0.Keeps s9 := by
      unfold s9; split
      · refine State.sourcesOn_keeps _ _ _ _ ?_
        split; exacts [State.adjSuspect_keeps _ _ _ _ k8, k8]
      · exact k8
    clear_value s9
    extract_lets +onlyGivenNames s10
    have k10 : z0.Keeps s10 := State.onTrack_keeps _ _ _ _ k9
    clear_value s10
    extract_lets +onlyGivenNames bad s11
    have k11 : z0.Keeps s11 := by unfold s11; split; exacts [State.cleTrigger_keeps _ _ k10, k10]
    clear_value s11
    extract_lets +onlyGivenNames s12
    have k12 : z0.Keeps s12 := State.vcmJob_keeps _ _ _ _ k11
    clear_value s12
    exact State.trackCheck_keeps _ _ (State.modAct_keeps _ _ _ k12)

theorem State.ontrkSet_keeps {z0 : State} (s : State) (h : Nat) (kpt : z0.Keeps s) :
    z0.Keeps (State.ontrkSet s h) := by
  unfold State.ontrkSet
  repeat' (first | (with_reducible assumption) | (with_reducible apply State.setFlag_keeps)
                 | (with_reducible apply State.trackCheck_keeps) | split)

theorem State.followError_keeps {z0 : State} (s : State) (n : Nat) (kpt : z0.Keeps s) :
    z0.Keeps (State.followError s n) := by
  unfold State.followError
  try dsimp only
  repeat' (first | (with_reducible assumption) | (with_reducible apply State.modHsv_keeps)
                 | (with_reducible apply State.followCut_keeps) | (with_reducible apply State.modAct_keeps)
                 | (with_reducible apply State.seekAbort_keeps) | (intro _ _ _) | (intro _ _) | (simp only [keeps_mk])
                 | split)

theorem State.gustFrame_keeps {z0 : State} (s : State) (n : Nat) (f : Nat) (kpt : z0.Keeps s) :
    z0.Keeps (State.gustFrame s n f) := by
  unfold State.gustFrame
  try dsimp only
  repeat' (first | (with_reducible assumption) | (with_reducible apply State.bump_keeps)
                 | (with_reducible apply State.modGust_keeps) | (with_reducible apply State.ldgProtocol_keeps)
                 | (with_reducible apply State.set_keeps) | (intro _ _ _) | (intro _ _) | (simp only [keeps_mk])
                 | split)

theorem State.gustTripped_keeps {z0 : State} (s : State) (n : Nat) (kpt : z0.Keeps s) :
    z0.Keeps (State.gustTripped s n) := by
  unfold State.gustTripped
  repeat' (first | (with_reducible assumption) | (with_reducible apply State.setFlag_keeps)
                 | (with_reducible apply State.sourceOnHeads_keeps) | (with_reducible apply State.fault_keeps))

theorem State.gustTrip_keeps {z0 : State} (s : State) (n : Nat) (kpt : z0.Keeps s) :
    z0.Keeps (State.gustTrip s n) := by
  unfold State.gustTrip
  repeat' (first | (with_reducible assumption) | (with_reducible apply State.gustTripped_keeps) | split)

theorem State.gustLost_keeps {z0 : State} (s : State) (n : Nat) (kpt : z0.Keeps s) :
    z0.Keeps (State.gustLost s n) := by
  unfold State.gustLost
  repeat' (first | (with_reducible assumption) | (with_reducible apply State.modGust_keeps)
                 | (with_reducible apply State.setFlag_keeps) | (with_reducible apply State.gustTripped_keeps)
                 | (with_reducible apply State.fault_keeps))

theorem State.gustTimeout_keeps {z0 : State} (s : State) (n : Nat) (kpt : z0.Keeps s) :
    z0.Keeps (State.gustTimeout s n) := by
  unfold State.gustTimeout
  repeat' (first | (with_reducible assumption) | (with_reducible apply State.gustLost_keeps)
                 | (with_reducible apply State.ldgProtocol_keeps) | split)

theorem State.gustCrcLoss_keeps {z0 : State} (s : State) (n : Nat) (kpt : z0.Keeps s) :
    z0.Keeps (State.gustCrcLoss s n) := by
  unfold State.gustCrcLoss
  repeat' (first | (with_reducible assumption) | (with_reducible apply State.gustLost_keeps) | split)

theorem State.gustTripClear_keeps {z0 : State} (s : State) (n : Nat) (kpt : z0.Keeps s) :
    z0.Keeps (State.gustTripClear s n) := by
  unfold State.gustTripClear
  try dsimp only
  repeat' (first | (with_reducible assumption) | (with_reducible apply State.setFlag_keeps) | split)

theorem State.gustOff_keeps {z0 : State} (s : State) (n : Nat) (kpt : z0.Keeps s) :
    z0.Keeps (State.gustOff s n) := by
  unfold State.gustOff
  repeat' (first | (with_reducible assumption) | (with_reducible apply State.set_keeps)
                 | (with_reducible apply State.setFlag_keeps) | (with_reducible apply State.modGust_keeps))

theorem State.bridleCmd_keeps {z0 : State} (s : State) (a : Nat) (ch : Nat) (kpt : z0.Keeps s) :
    z0.Keeps (State.bridleCmd s a ch) := by
  unfold State.bridleCmd
  try dsimp only
  repeat' (first | (with_reducible assumption) | (with_reducible apply State.modHsv_keeps)
                 | (with_reducible apply State.bridleSend_keeps) | (intro _ _ _) | (intro _ _)
                 | (simp only [keeps_mk]) | split)

theorem State.bridleRefresh_keeps {z0 : State} (s : State) (a : Nat) (kpt : z0.Keeps s) :
    z0.Keeps (State.bridleRefresh s a) := by
  unfold State.bridleRefresh
  try dsimp only
  repeat' (first | (with_reducible assumption) | (with_reducible apply State.bridleCenter_keeps)
                 | (with_reducible apply State.modAct_keeps) | (with_reducible apply State.bridleSend_keeps)
                 | (intro _ _ _) | (intro _ _) | (simp only [keeps_mk]) | split)

theorem State.bridleReply_keeps {z0 : State} (s : State) (a : Nat) (f : Option Nat) (kpt : z0.Keeps s) :
    z0.Keeps (State.bridleReply s a f) := by
  unfold State.bridleReply
  try dsimp only
  repeat' (first | (with_reducible assumption) | (with_reducible apply State.ldgProtocol_keeps)
                 | (with_reducible apply State.modAct_keeps) | (with_reducible apply State.set_keeps)
                 | (with_reducible apply State.fault_keeps) | (intro _ _ _) | (intro _ _) | (simp only [keeps_mk])
                 | (with_reducible refine keeps_snd (by assumption) ?_)
                 | (with_reducible refine keeps_snd2 (by assumption) ?_) | split)

theorem State.bridleDown_keeps {z0 : State} (s : State) (a : Nat) (kpt : z0.Keeps s) :
    z0.Keeps (State.bridleDown s a) := by
  unfold State.bridleDown
  try dsimp only
  repeat' (first | (with_reducible assumption) | (with_reducible apply State.modAct_keeps)
                 | (with_reducible apply State.fault_keeps) | (with_reducible apply State.sourceOnHeads_keeps)
                 | (with_reducible apply State.refreshHeads_keeps) | (with_reducible apply State.actUnload_keeps)
                 | (with_reducible apply State.bridleCenter_keeps) | (intro _ _ _) | (intro _ _)
                 | (simp only [keeps_mk]) | split)

theorem State.bridleUp_keeps {z0 : State} (s : State) (a : Nat) (kpt : z0.Keeps s) :
    z0.Keeps (State.bridleUp s a) := by
  unfold State.bridleUp
  repeat' (first | (with_reducible assumption) | (with_reducible apply State.modAct_keeps)
                 | (with_reducible apply State.refreshHeads_keeps) | (with_reducible apply State.linkReopen_keeps)
                 | (intro _ _ _) | (intro _ _) | (simp only [keeps_mk]) | split)

theorem State.velocityJob_keeps {z0 : State} (s : State) (a : Nat) (kpt : z0.Keeps s) :
    z0.Keeps (State.velocityJob s a) := by
  revert s a kpt
  refine (?_ : Holds (fun F => ∀ (s : State) (a : Nat) (_ : z0.Keeps s), z0.Keeps (F s a)) @State.velocityJob).h
  delta State.velocityJob
  have k_openDiv := @State.openDiv_keeps z0
  generalize @State.openDiv = f_openDiv at k_openDiv ⊢
  have k_cleTrigger := @State.cleTrigger_keeps z0
  generalize @State.cleTrigger = f_cleTrigger at k_cleTrigger ⊢
  refine ⟨fun s a kpt => ?_⟩
  extract_lets +onlyGivenNames ws x
  clear_value ws x
  have h1 := k_openDiv s ((s.get R.SPN_VBUS_MV : Int) * 2 ^ 31) (max 1 (s.get R.SPN_BUS_VBUS_FS)) kpt
  generalize f_openDiv s ((s.get R.SPN_VBUS_MV : Int) * 2 ^ 31) (max 1 (s.get R.SPN_BUS_VBUS_FS)) = p at h1 ⊢
  obtain ⟨vb, s1⟩ := p
  dsimp only
  have h2 := k_openDiv s1 ((sat31 x.duty).1 * vb) (2 ^ 31) h1
  generalize f_openDiv s1 ((sat31 x.duty).1 * vb) (2 ^ 31) = q at h2 ⊢
  obtain ⟨dv, s2⟩ := q
  exact k_cleTrigger _ _ h2

theorem State.vcmFilter_keeps {z0 : State} (s : State) (isd : Nat) (kpt : z0.Keeps s) :
    z0.Keeps (State.vcmFilter s isd).2 := by
  unfold State.vcmFilter
  repeat' (first | (with_reducible assumption) | (with_reducible apply State.filtered_keeps))

theorem State.vcmSample_keeps {z0 : State} (s : State) (a : Nat) (bits : Nat) (kpt : z0.Keeps s) :
    z0.Keeps (State.vcmSample s a bits) := by
  revert s a bits kpt
  refine (?_ : Holds (fun F => ∀ (s : State) (a : Nat) (bits : Nat) (_ : z0.Keeps s), z0.Keeps (F s a bits)) @State.vcmSample).h
  delta State.vcmSample
  have k_vcmFilter := @State.vcmFilter_keeps z0
  generalize @State.vcmFilter = f_vcmFilter at k_vcmFilter ⊢
  have k_velocityJob := @State.velocityJob_keeps z0
  generalize @State.velocityJob = f_velocityJob at k_velocityJob ⊢
  have k_modAct := @State.modAct_keeps z0
  generalize @State.modAct = f_modAct at k_modAct ⊢
  refine ⟨fun s a bits kpt => ?_⟩
  generalize 2 ^ 190 = q1
  generalize 2 ^ 64 = q2
  extract_lets +onlyGivenNames isd
  clear_value isd
  have h1 := k_vcmFilter s isd kpt
  generalize f_vcmFilter s isd = p at h1 ⊢
  obtain ⟨i, s0⟩ := p
  dsimp -zeta only
  extract_lets +onlyGivenNames s1
  have k1 : z0.Keeps s1 := State.setInt_keeps _ _ _ h1
  clear_value s1
  extract_lets +onlyGivenNames err x
  clear_value err x
  generalize regulator (s1.get (R.SRV_VCM_PI_KP a)) (s1.get (R.SRV_VCM_PI_KI a)) err x.sum = p
  obtain ⟨sum, v⟩ := p
  dsimp -zeta only
  extract_lets +onlyGivenNames st on vel
  clear_value st on vel
  extract_lets +onlyGivenNames s2
  have k2 : z0.Keeps s2 := k_modAct _ _ _ k1
  clear_value s2
  by_cases c1 : (vel && (s2.act a).count16 == 0) = true
  · rw [if_pos c1]
    exact k_velocityJob _ _ k2
  · rw [if_neg c1]
    exact k2

theorem State.vcmOver_keeps {z0 : State} (s : State) (a : Nat) (kpt : z0.Keeps s) :
    z0.Keeps (State.vcmOver s a) := by
  unfold State.vcmOver
  repeat' (first | (with_reducible assumption) | (with_reducible apply State.fault_keeps)
                 | (with_reducible apply State.actRetract_keeps) | split)

theorem State.vcmBridge_keeps {z0 : State} (s : State) (a : Nat) (low : Bool) (kpt : z0.Keeps s) :
    z0.Keeps (State.vcmBridge s a low) := by
  unfold State.vcmBridge
  try dsimp only
  repeat' (first | (with_reducible assumption) | (with_reducible apply State.modAct_keeps)
                 | (with_reducible apply State.fault_keeps) | (with_reducible apply State.setFlag_keeps)
                 | (with_reducible apply State.ldgProtocol_keeps) | (intro _ _ _) | (intro _ _)
                 | (simp only [keeps_mk]) | split)

/-! ### Spin -/

theorem State.busMv_keeps {z0 : State} (s : State) (x : Int) (kpt : z0.Keeps s) :
    z0.Keeps (State.busMv s x).2 := by
  unfold State.busMv
  try dsimp only
  repeat' (first | (with_reducible assumption) | (with_reducible apply State.openDiv_keeps))

theorem State.spnSamples_keeps {z0 : State} (s : State) (o : SpnObs) (kpt : z0.Keeps s) :
    z0.Keeps (State.spnSamples s o).2 := by
  unfold State.spnSamples
  try dsimp only
  repeat' (first | (with_reducible assumption) | (with_reducible apply State.filtered_keeps)
                 | (with_reducible apply State.busMv_keeps))

theorem State.observerRuns_keeps {z0 : State} (s : State) (e : Rat × Rat) (kpt : z0.Keeps s) :
    z0.Keeps (State.observerRuns s e) := by
  unfold State.observerRuns
  try dsimp only
  repeat' (first | (with_reducible assumption) | (with_reducible apply State.modSpn_keeps))

theorem State.observerStep_keeps {z0 : State} (s : State) (e : Rat × Rat) (te : Nat) (kpt : z0.Keeps s) :
    z0.Keeps (State.observerStep s e te) := by
  unfold State.observerStep
  try dsimp only
  repeat' (first | (with_reducible assumption) | (with_reducible apply State.modSpn_keeps) | (intro _ _ _)
                 | (intro _ _) | (simp only [keeps_mk]) | split)

theorem State.angleSample_keeps {z0 : State} (s : State) (te : Nat) (kpt : z0.Keeps s) :
    z0.Keeps (State.angleSample s te) := by
  unfold State.angleSample
  try dsimp only
  repeat' (first | (with_reducible assumption) | (with_reducible apply State.draw_keeps)
                 | (with_reducible apply State.modSpn_keeps) | (with_reducible apply State.setFlag_keeps)
                 | (with_reducible apply State.set_keeps) | (intro _ _ _) | (intro _ _) | (simp only [keeps_mk])
                 | (with_reducible refine keeps_snd (by assumption) ?_)
                 | (with_reducible refine keeps_snd2 (by assumption) ?_) | split)

theorem State.forcedAngle_keeps {z0 : State} (s : State) (t : Nat) (kpt : z0.Keeps s) :
    z0.Keeps (State.forcedAngle s t).2 := by
  unfold State.forcedAngle
  try dsimp only
  repeat' (first | (with_reducible assumption) | (with_reducible apply State.openDiv_keeps)
                 | (with_reducible refine keeps_snd (by assumption) ?_)
                 | (with_reducible refine keeps_snd2 (by assumption) ?_) | split)

theorem State.transformAngle_keeps {z0 : State} (s : State) (t : Nat) (kpt : z0.Keeps s) :
    z0.Keeps (State.transformAngle s t).2 := by
  unfold State.transformAngle
  repeat' (first | (with_reducible assumption) | (with_reducible apply State.forcedAngle_keeps) | split)

theorem State.speedOf_keeps {z0 : State} (s : State) (adv : List (Nat × Rat)) (kpt : z0.Keeps s) :
    z0.Keeps (State.speedOf s adv).2 := by
  unfold State.speedOf
  try dsimp only
  repeat' (first | (with_reducible assumption) | (with_reducible apply State.openDiv_keeps)
                 | (with_reducible refine keeps_snd (by assumption) ?_)
                 | (with_reducible refine keeps_snd2 (by assumption) ?_) | split)

theorem State.speedSample_keeps {z0 : State} (s : State) (t : Nat) (th : Nat) (oa : Nat) (kpt : z0.Keeps s) :
    z0.Keeps (State.speedSample s t th oa) := by
  unfold State.speedSample
  try dsimp only
  repeat' (first | (with_reducible assumption) | (with_reducible apply State.take_keeps)
                 | (with_reducible apply State.speedOf_keeps) | (with_reducible apply State.modSpn_keeps)
                 | (with_reducible apply State.set_keeps))

theorem State.speedCheck_keeps {z0 : State} (s : State) (d : Nat) (kpt : z0.Keeps s) :
    z0.Keeps (State.speedCheck s d) := by
  unfold State.speedCheck
  try dsimp only
  repeat' (first | (with_reducible assumption) | (with_reducible apply State.openDiv_keeps)
                 | (with_reducible apply State.setInt_keeps) | (with_reducible apply State.modSpn_keeps)
                 | (with_reducible apply State.setFlag_keeps) | (with_reducible apply State.sourceOnAt_keeps)
                 | (with_reducible apply State.sourceOffHeads_keeps) | (intro _ _ _) | (intro _ _)
                 | (simp only) | (with_reducible refine keeps_snd (by assumption) ?_)
                 | (with_reducible refine keeps_snd2 (by assumption) ?_) | split)

theorem State.flyCheck_keeps {z0 : State} (s : State) (kpt : z0.Keeps s) :
    z0.Keeps (State.flyCheck s) := by
  unfold State.flyCheck
  repeat' (first | (with_reducible assumption) | (with_reducible apply State.actUnload_keeps)
                 | (with_reducible apply State.fault_keeps) | (with_reducible refine keeps_foldl ?_ ?_)
                 | (intro _ _ _) | (intro _ _) | split)

theorem State.shortCheck_keeps {z0 : State} (s : State) (e : Rat × Rat) (kpt : z0.Keeps s) :
    z0.Keeps (State.shortCheck s e) := by
  unfold State.shortCheck
  try dsimp only
  repeat' (first | (with_reducible assumption) | (with_reducible apply State.spnEnter_keeps) | split)

theorem State.restTrack_keeps {z0 : State} (s : State) (x : SpnSample) (kpt : z0.Keeps s) :
    z0.Keeps (State.restTrack s x) := by
  unfold State.restTrack
  try dsimp only
  repeat' (first | (with_reducible assumption) | (with_reducible apply State.modSpn_keeps))

theorem State.currentJob_keeps {z0 : State} (s : State) (t : Nat) (id : Int) (iqm : Int) (kpt : z0.Keeps s) :
    z0.Keeps (State.currentJob s t id iqm) := by
  unfold State.currentJob
  try dsimp only
  repeat' (first | (with_reducible assumption) | (with_reducible apply State.set_keeps)
                 | (with_reducible apply State.cleTrigger_keeps) | (intro _ _ _) | (intro _ _)
                 | (simp only [keeps_mk]) | split)

theorem State.speedJob_keeps {z0 : State} (s : State) (t : Nat) (mv : Nat) (kpt : z0.Keeps s) :
    z0.Keeps (State.speedJob s t mv) := by
  revert s t mv kpt
  refine (?_ : Holds (fun F => ∀ (s : State) (t : Nat) (mv : Nat) (_ : z0.Keeps s), z0.Keeps (F s t mv)) @State.speedJob).h
  delta State.speedJob
  have k_openDiv := @State.openDiv_keeps z0
  generalize @State.openDiv = f_openDiv at k_openDiv ⊢
  have k_cleTrigger := @State.cleTrigger_keeps z0
  generalize @State.cleTrigger = f_cleTrigger at k_cleTrigger ⊢
  have k_modSpn := @State.modSpn_keeps z0
  generalize @State.modSpn = f_modSpn at k_modSpn ⊢
  refine ⟨fun s t mv kpt => ?_⟩
  extract_lets +onlyGivenNames st mk n
  have km : ∀ t set x, z0.Keeps t → z0.Keeps (mk t set x) := fun t set x ht => k_cleTrigger _ _ ht
  clear_value mk st n
  by_cases c1 : n < s.get (R.CLE_LOOP_CTRL_DIV 29)
  · rw [if_pos c1]
    exact k_modSpn _ _ kpt
  · rw [if_neg c1]
    have k1 := k_modSpn s (fun y => { y with samples := 0 }) kpt
    extract_lets +onlyGivenNames s1
    replace k1 : z0.Keeps s1 := k1
    clear_value s1
    by_cases c2 : (3 ≤ st ∧ st ≤ 5) ∨ (st = 8 ∧ s.spn.catchRun ∧ 48 ≤ s.spn.catchPer)
    · rw [if_pos c2]
      have h1 := k_openDiv s1 (((s1.spnRef : Int) - s1.spn.speed * 1000000000 / 256) * 2 ^ 31) (16384 * 1000000000) k1
      generalize f_openDiv s1 (((s1.spnRef : Int) - s1.spn.speed * 1000000000 / 256) * 2 ^ 31) (16384 * 1000000000) = p at h1 ⊢
      obtain ⟨x, s2⟩ := p
      exact km _ _ _ h1
    · rw [if_neg c2]
      by_cases c3 : st = 9
      · rw [if_pos c3]
        have h1 := k_openDiv s1 (((mv : Int) - s1.get R.SPN_PLOSS_VBUS_HOLD) * 2 ^ 31) (max 1 (s1.get R.SPN_BUS_VBUS_FS)) k1
        generalize f_openDiv s1 (((mv : Int) - s1.get R.SPN_PLOSS_VBUS_HOLD) * 2 ^ 31) (max 1 (s1.get R.SPN_BUS_VBUS_FS)) = p at h1 ⊢
        obtain ⟨x, s2⟩ := p
        exact km _ _ _ h1
      · rw [if_neg c3]
        exact k1

theorem State.holdTrack_keeps {z0 : State} (s : State) (mv : Nat) (kpt : z0.Keeps s) :
    z0.Keeps (State.holdTrack s mv) := by
  unfold State.holdTrack
  try dsimp only
  repeat' (first | (with_reducible assumption) | (with_reducible apply State.modSpn_keeps))

theorem State.spnAngles_keeps {z0 : State} (s : State) (stamp : Nat) (x : SpnSample) (kpt : z0.Keeps s) :
    z0.Keeps (State.spnAngles s stamp x) := by
  unfold State.spnAngles
  try dsimp only
  repeat' (first | (with_reducible assumption) | (with_reducible apply State.tetherAt_keeps)
                 | (with_reducible apply State.observerStep_keeps) | (with_reducible apply State.observerRuns_keeps)
                 | (with_reducible apply State.angleSample_keeps) | (with_reducible apply State.spnNoAngle_keeps)
                 | (with_reducible apply State.speedSample_keeps)
                 | (with_reducible refine keeps_snd (by assumption) ?_)
                 | (with_reducible refine keeps_snd2 (by assumption) ?_) | split)

theorem State.openRat_keeps {z0 : State} (s : State) (x : Rat) (kpt : z0.Keeps s) :
    z0.Keeps (State.openRat s x).2 := by
  unfold State.openRat
  repeat' (first | (with_reducible assumption) | (with_reducible apply State.openDiv_keeps))

theorem State.spnCurrents_keeps {z0 : State} (s : State) (stamp : Nat) (x : SpnSample) (kpt : z0.Keeps s) :
    z0.Keeps (State.spnCurrents s stamp x).2 := by
  unfold State.spnCurrents
  try dsimp only
  repeat' (first | (with_reducible assumption) | (with_reducible apply State.transformAngle_keeps)
                 | (with_reducible apply State.openRat_keeps) | (with_reducible apply State.setInt_keeps)
                 | (with_reducible apply State.modSpn_keeps))

theorem State.sampled_keeps {z0 : State} (s : State) (t : Nat) (x : SpnSample) (kpt : z0.Keeps s) :
    z0.Keeps (State.sampled s t x) := by
  unfold State.sampled
  try dsimp only
  repeat' (first | (with_reducible assumption) | (with_reducible apply State.set_keeps)
                 | (with_reducible apply State.spnAngles_keeps) | (with_reducible apply State.spnCurrents_keeps)
                 | (with_reducible apply State.speedCheck_keeps) | (with_reducible apply State.flyCheck_keeps)
                 | (with_reducible apply State.shortCheck_keeps) | (with_reducible apply State.restTrack_keeps)
                 | (with_reducible apply State.holdTrack_keeps) | (with_reducible apply State.currentJob_keeps)
                 | (with_reducible apply State.speedJob_keeps))

theorem State.currentSample_keeps {z0 : State} (s : State) (o : SpnObs) (kpt : z0.Keeps s) :
    z0.Keeps (State.currentSample s o) := by
  unfold State.currentSample
  have h1 := State.spnSamples_keeps (z0 := z0) s o kpt
  split
  · exact kpt
  · exact State.sampled_keeps _ _ _ h1

theorem State.modLimit_keeps {z0 : State} (s : State) (kpt : z0.Keeps s) :
    z0.Keeps (State.modLimit s).2.2 := by
  revert s kpt
  suffices H : Holds (fun F => ∀ (s : State) (_ : z0.Keeps s) p (_ : F s = p), z0.Keeps p.2.2) @State.modLimit from fun s kpt => H.h s kpt _ rfl
  delta State.modLimit
  have k_draw := @State.draw_keeps z0
  generalize @State.draw = f_draw at k_draw ⊢
  refine ⟨fun s kpt w hw => ?_⟩
  beta_reduce at hw
  extract_lets +onlyGivenNames d q mx at hw
  clear_value mx d q
  by_cases c1 : mx * mx < d * d + q * q
  · rw [if_pos c1] at hw
    extract_lets +onlyGivenNames vd n r at hw
    clear_value vd
    clear_value n
    clear_value r
    by_cases c2 : r * r = n
    · rw [if_pos c2] at hw
      subst hw
      exact kpt
    · rw [if_neg c2] at hw
      have h1 := k_draw s kpt
      generalize f_draw s = p at h1 hw
      obtain ⟨x, s1⟩ := p
      subst hw
      exact h1
  · rw [if_neg c1] at hw
    subst hw
    exact kpt

theorem State.fieldWeak_keeps {z0 : State} (s : State) (kpt : z0.Keeps s) :
    z0.Keeps (State.fieldWeak s) := by
  unfold State.fieldWeak
  try dsimp only
  repeat' (first | (with_reducible assumption) | (with_reducible apply State.modSpn_keeps)
                 | (with_reducible apply State.setFlag_keeps) | (intro _ _ _) | (intro _ _) | (simp only [keeps_mk])
                 | split)

theorem State.slewRef_keeps {z0 : State} (s : State) (ns : Nat) (kpt : z0.Keeps s) :
    z0.Keeps (State.slewRef s ns) := by
  unfold State.slewRef
  try dsimp only
  repeat' (first | (with_reducible assumption) | (with_reducible apply State.modSpn_keeps) | (intro _ _ _)
                 | (intro _ _) | (simp only [keeps_mk]) | split)

theorem State.syncCorr_keeps {z0 : State} (s : State) (kpt : z0.Keeps s) :
    z0.Keeps (State.syncCorr s) := by
  unfold State.syncCorr
  try dsimp only
  repeat' (first | (with_reducible assumption) | (with_reducible apply State.draw_keeps)
                 | (with_reducible apply State.modSpn_keeps) | (intro _ _ _) | (intro _ _) | (simp only [keeps_mk])
                 | (with_reducible refine keeps_snd (by assumption) ?_)
                 | (with_reducible refine keeps_snd2 (by assumption) ?_) | split)

theorem State.nextAngle_keeps {z0 : State} (s : State) (kpt : z0.Keeps s) :
    z0.Keeps (State.nextAngle s).2 := by
  unfold State.nextAngle
  try dsimp only
  repeat' (first | (with_reducible assumption) | (with_reducible apply State.forcedAngle_keeps)
                 | (with_reducible apply State.openDiv_keeps) | (with_reducible refine keeps_snd (by assumption) ?_)
                 | (with_reducible refine keeps_snd2 (by assumption) ?_) | split)

theorem State.setDuties_keeps {z0 : State} (s : State) (v : Int × Int) (kpt : z0.Keeps s) :
    z0.Keeps (State.setDuties s v) := by
  unfold State.setDuties
  try dsimp only
  repeat' (first | (with_reducible assumption) | (with_reducible apply State.nextAngle_keeps)
                 | (with_reducible apply State.modSpn_keeps) | (intro _ _ _) | (intro _ _) | (simp only [keeps_mk])
                 | (with_reducible refine keeps_snd (by assumption) ?_)
                 | (with_reducible refine keeps_snd2 (by assumption) ?_) | split)

theorem State.pwmPeriod_keeps {z0 : State} (s : State) (kpt : z0.Keeps s) :
    z0.Keeps (State.pwmPeriod s) := by
  unfold State.pwmPeriod
  try dsimp only
  repeat' (first | (with_reducible assumption) | (with_reducible apply State.modSpn_keeps)
                 | (with_reducible apply State.spnEnter_keeps) | (with_reducible apply State.modLimit_keeps)
                 | (with_reducible apply State.setFlag_keeps) | (with_reducible apply State.setDuties_keeps)
                 | (with_reducible apply State.fieldWeak_keeps) | (with_reducible apply State.slewRef_keeps)
                 | (with_reducible apply State.syncCorr_keeps) | (intro _ _ _) | (intro _ _) | (simp only [keeps_mk])
                 | (with_reducible refine keeps_snd (by assumption) ?_)
                 | (with_reducible refine keeps_snd2 (by assumption) ?_) | split)

theorem State.fastMv_keeps {z0 : State} (s : State) (bits : Nat) (kpt : z0.Keeps s) :
    z0.Keeps (State.fastMv s bits).2 := by
  unfold State.fastMv
  try dsimp only
  repeat' (first | (with_reducible assumption) | (with_reducible apply State.modSpn_keeps)
                 | (with_reducible apply State.filtered_keeps) | (with_reducible apply State.busMv_keeps))

theorem State.fastDecide_keeps {z0 : State} (s : State) (mv : Nat) (balIs : Bool) (supok : Bool) (kpt : z0.Keeps s) :
    z0.Keeps (State.fastDecide s mv balIs supok) := by
  unfold State.fastDecide
  try dsimp only
  repeat' (first | (with_reducible assumption) | (with_reducible apply State.modSpn_keeps)
                 | (with_reducible apply State.setFlag_keeps))

theorem State.fastSample_keeps {z0 : State} (s : State) (bits : Nat) (balIs : Bool) (supok : Bool) (kpt : z0.Keeps s) :
    z0.Keeps (State.fastSample s bits balIs supok) := by
  unfold State.fastSample
  try dsimp only
  repeat' (first | (with_reducible assumption) | (with_reducible apply State.fastMv_keeps)
                 | (with_reducible apply State.fastDecide_keeps))

theorem State.refLost_keeps {z0 : State} (s : State) (kpt : z0.Keeps s) :
    z0.Keeps (State.refLost s) := by
  unfold State.refLost
  repeat' (first | (with_reducible assumption) | (with_reducible apply State.modSpn_keeps)
                 | (with_reducible apply State.setFlag_keeps) | (with_reducible apply State.fault_keeps)
                 | (with_reducible apply State.ldgProtocol_keeps))

theorem State.spdrefBad_keeps {z0 : State} (s : State) (signal : SpdSignal) (kpt : z0.Keeps s) :
    z0.Keeps (State.spdrefBad s signal) := by
  unfold State.spdrefBad
  repeat' (first | (with_reducible assumption) | (with_reducible apply State.refLost_keeps) | split)

theorem State.spdrefGood_keeps {z0 : State} (s : State) (signal : SpdSignal) (kpt : z0.Keeps s) :
    z0.Keeps (State.spdrefGood s signal) := by
  unfold State.spdrefGood
  try dsimp only
  repeat' (first | (with_reducible assumption) | (with_reducible apply State.openRat_keeps)
                 | (with_reducible apply State.set_keeps) | (with_reducible apply State.setFlag_keeps)
                 | (with_reducible refine keeps_snd (by assumption) ?_)
                 | (with_reducible refine keeps_snd2 (by assumption) ?_) | split)

theorem State.revolutionEdge_keeps {z0 : State} (s : State) (err : Nat) (kpt : z0.Keeps s) :
    z0.Keeps (State.revolutionEdge s err) := by
  unfold State.revolutionEdge
  try dsimp only
  repeat' (first | (with_reducible assumption) | (with_reducible apply State.modSpn_keeps)
                 | (with_reducible apply State.setFlag_keeps) | (intro _ _ _) | (intro _ _) | (simp only [keeps_mk])
                 | split)

theorem State.spdrefSync_keeps {z0 : State} (s : State) (err : Int) (kpt : z0.Keeps s) :
    z0.Keeps (State.spdrefSync s err) := by
  unfold State.spdrefSync
  try dsimp only
  repeat' (first | (with_reducible assumption) | (with_reducible apply State.modSpn_keeps)
                 | (with_reducible apply State.revolutionEdge_keeps) | (intro _ _ _) | (intro _ _)
                 | (simp only [keeps_mk]) | split)

/-! ### Dlk -/

theorem State.modLink_keeps {z0 : State} (s : State) (a : Nat) (f : DlkLink → DlkLink) (kpt : z0.Keeps s) :
    z0.Keeps (State.modLink s a f) := by
  unfold State.modLink
  repeat' (first | (with_reducible assumption) | (with_reducible apply State.setLink_keeps))

theorem State.dlkRecord_keeps {z0 : State} (s : State) (a : Nat) (d : Nat) (kpt : z0.Keeps s) :
    z0.Keeps (State.dlkRecord s a d) := by
  unfold State.dlkRecord
  repeat' (first | (with_reducible assumption) | (with_reducible apply State.ldgRaise_keeps))

theorem State.portDone_keeps {z0 : State} (s : State) (a : Nat) (code : Nat) (dat : Nat) (kpt : z0.Keeps s) :
    z0.Keeps (State.portDone s a code dat) := by
  unfold State.portDone
  repeat' (first | (with_reducible assumption) | (with_reducible apply State.setFlag_keeps)
                 | (with_reducible apply State.set_keeps))

theorem State.dlkSend_keeps {z0 : State} (s : State) (a : Nat) (f : DlkFrame) (kpt : z0.Keeps s) :
    z0.Keeps (State.dlkSend s a f) := by
  unfold State.dlkSend
  repeat' (first | (with_reducible assumption) | (with_reducible apply State.modLink_keeps))

theorem State.dlkResend_keeps {z0 : State} (s : State) (a : Nat) (e : DlkFrame × Nat × Nat) (kpt : z0.Keeps s) :
    z0.Keeps (State.dlkResend s a e) := by
  unfold State.dlkResend
  repeat' (first | (with_reducible assumption) | (with_reducible apply State.modLink_keeps))

theorem State.dlkQuiet_keeps {z0 : State} (s : State) (a : Nat) (code : Nat) (kpt : z0.Keeps s) :
    z0.Keeps (State.dlkQuiet s a code) := by
  unfold State.dlkQuiet
  try dsimp only
  repeat' (first | (with_reducible assumption) | (with_reducible apply State.portDone_keeps)
                 | (with_reducible apply State.modLink_keeps) | (intro _ _ _) | (intro _ _) | (simp only [keeps_mk])
                 | split)

theorem State.dlkFailed_keeps {z0 : State} (s : State) (a : Nat) (kpt : z0.Keeps s) :
    z0.Keeps (State.dlkFailed s a) := by
  unfold State.dlkFailed
  repeat' (first | (with_reducible assumption) | (with_reducible apply State.dlkQuiet_keeps)
                 | (with_reducible apply State.set_keeps) | (with_reducible apply State.fault_keeps)
                 | (with_reducible apply State.actUnload_keeps))

theorem State.dlkDown_keeps {z0 : State} (s : State) (a : Nat) (kpt : z0.Keeps s) :
    z0.Keeps (State.dlkDown s a) := by
  unfold State.dlkDown
  try dsimp only
  repeat' (first | (with_reducible assumption) | (with_reducible apply State.fault_keeps)
                 | (with_reducible apply State.dlkQuiet_keeps) | (with_reducible apply State.modLink_keeps)
                 | (with_reducible apply State.set_keeps) | (with_reducible apply State.bump_keeps)
                 | (with_reducible apply State.sourceOnHeads_keeps) | (with_reducible apply State.dlkRecord_keeps)
                 | (with_reducible apply State.dlkFailed_keeps) | (intro _ _ _) | (intro _ _) | (simp only [keeps_mk])
                 | split)

theorem State.attemptFail_keeps {z0 : State} (s : State) (a : Nat) (kpt : z0.Keeps s) :
    z0.Keeps (State.attemptFail s a) := by
  unfold State.attemptFail
  try dsimp only
  repeat' (first | (with_reducible assumption) | (with_reducible apply State.dlkQuiet_keeps)
                 | (with_reducible apply State.set_keeps) | (with_reducible apply State.dlkRecord_keeps)
                 | (with_reducible apply State.dlkFailed_keeps) | (with_reducible apply State.modLink_keeps)
                 | (intro _ _ _) | (intro _ _) | (simp only [keeps_mk]) | split)

theorem State.dlkEnable_keeps {z0 : State} (s : State) (a : Nat) (en : Bool) (kpt : z0.Keeps s) :
    z0.Keeps (State.dlkEnable s a en) := by
  unfold State.dlkEnable
  try dsimp only
  repeat' (first | (with_reducible assumption) | (with_reducible apply State.set_keeps)
                 | (with_reducible apply State.modLink_keeps) | (with_reducible apply State.dlkSend_keeps)
                 | (with_reducible apply State.dlkQuiet_keeps) | (with_reducible apply State.sourceOnHeads_keeps)
                 | (intro _ _ _) | (intro _ _) | (simp only [keeps_mk]) | split)

theorem State.dlkAlignStart_keeps {z0 : State} (s : State) (a : Nat) (kpt : z0.Keeps s) :
    z0.Keeps (State.dlkAlignStart s a) := by
  unfold State.dlkAlignStart
  repeat' (first | (with_reducible assumption) | (with_reducible apply State.set_keeps)
                 | (with_reducible apply State.modLink_keeps) | (intro _ _ _) | (intro _ _) | (simp only [keeps_mk])
                 | split)

theorem State.dlkAligned_keeps {z0 : State} (s : State) (a : Nat) (xs : List Nat) (kpt : z0.Keeps s) :
    z0.Keeps (State.dlkAligned s a xs) := by
  unfold State.dlkAligned
  repeat' (first | (with_reducible assumption) | (with_reducible apply State.set_keeps)
                 | (with_reducible apply State.modLink_keeps) | (intro _ _ _) | (intro _ _) | (simp only [keeps_mk])
                 | split)

theorem State.dlkTrainTimeout_keeps {z0 : State} (s : State) (a : Nat) (kpt : z0.Keeps s) :
    z0.Keeps (State.dlkTrainTimeout s a) := by
  unfold State.dlkTrainTimeout
  try dsimp only
  repeat' (first | (with_reducible assumption) | (with_reducible apply State.attemptFail_keeps) | split)

theorem State.dlkLineDown_keeps {z0 : State} (s : State) (a : Nat) (xs : List Nat) (kpt : z0.Keeps s) :
    z0.Keeps (State.dlkLineDown s a xs) := by
  unfold State.dlkLineDown
  repeat' (first | (with_reducible assumption) | (with_reducible apply State.dlkDown_keeps) | split)

theorem State.dlkToUp_keeps {z0 : State} (s : State) (a : Nat) (kpt : z0.Keeps s) :
    z0.Keeps (State.dlkToUp s a) := by
  unfold State.dlkToUp
  try dsimp only
  repeat' (first | (with_reducible assumption) | (with_reducible apply State.set_keeps)
                 | (with_reducible apply State.modLink_keeps) | (with_reducible apply State.dlkRequest_keeps)
                 | (with_reducible apply State.fault_keeps) | (with_reducible apply State.linkReopen_keeps)
                 | (intro _ _ _) | (intro _ _) | (simp only [keeps_mk]) | split)

theorem State.dlkSendWaiting_keeps {z0 : State} (s : State) (a : Nat) (f : DlkFrame) (kpt : z0.Keeps s) :
    z0.Keeps (State.dlkSendWaiting s a f) := by
  unfold State.dlkSendWaiting
  repeat' (first | (with_reducible assumption) | (with_reducible apply State.modLink_keeps)
                 | (with_reducible apply State.dlkSend_keeps))

theorem State.dlkSendUp_keeps {z0 : State} (s : State) (a : Nat) (kpt : z0.Keeps s) :
    z0.Keeps (State.dlkSendUp s a) := by
  unfold State.dlkSendUp
  try dsimp only
  repeat' (first | (with_reducible assumption) | (with_reducible apply State.dlkSendWaiting_keeps)
                 | (with_reducible apply State.dlkResend_keeps) | (with_reducible refine keeps_snd (by assumption) ?_)
                 | (with_reducible refine keeps_snd2 (by assumption) ?_) | split)

theorem State.dlkSendNext_keeps {z0 : State} (s : State) (a : Nat) (kpt : z0.Keeps s) :
    z0.Keeps (State.dlkSendNext s a) := by
  unfold State.dlkSendNext
  try dsimp only
  repeat' (first | (with_reducible assumption) | (with_reducible apply State.dlkSend_keeps)
                 | (with_reducible apply State.modLink_keeps) | (with_reducible apply State.dlkSendUp_keeps)
                 | (intro _ _ _) | (intro _ _) | (simp only [keeps_mk])
                 | (with_reducible refine keeps_snd (by assumption) ?_)
                 | (with_reducible refine keeps_snd2 (by assumption) ?_) | split)

theorem State.dlkEnded_keeps {z0 : State} (s : State) (a : Nat) (kpt : z0.Keeps s) :
    z0.Keeps (State.dlkEnded s a) := by
  unfold State.dlkEnded
  repeat' (first | (with_reducible assumption) | (with_reducible apply State.modLink_keeps))

theorem State.exchangeFail_keeps {z0 : State} (s : State) (a : Nat) (kpt : z0.Keeps s) :
    z0.Keeps (State.exchangeFail s a) := by
  unfold State.exchangeFail
  repeat' (first | (with_reducible assumption) | (with_reducible apply State.attemptFail_keeps)
                 | (with_reducible apply State.dlkDown_keeps) | (with_reducible apply State.modLink_keeps)
                 | (with_reducible apply State.bump_keeps) | (with_reducible apply State.fault_keeps)
                 | (with_reducible apply State.dlkRecord_keeps) | (intro _ _ _) | (intro _ _) | (simp only [keeps_mk])
                 | (with_reducible refine keeps_snd (by assumption) ?_)
                 | (with_reducible refine keeps_snd2 (by assumption) ?_) | split)

theorem State.exchangeTimeout_keeps {z0 : State} (s : State) (a : Nat) (kpt : z0.Keeps s) :
    z0.Keeps (State.exchangeTimeout s a) := by
  unfold State.exchangeTimeout
  repeat' (first | (with_reducible assumption) | (with_reducible apply State.exchangeFail_keeps)
                 | (with_reducible refine keeps_snd (by assumption) ?_)
                 | (with_reducible refine keeps_snd2 (by assumption) ?_) | split)

theorem State.replyUp_keeps {z0 : State} (s : State) (a : Nat) (f : DlkFrame) (flags : Nat) (dat : Nat) (kpt : z0.Keeps s) :
    z0.Keeps (State.replyUp s a f flags dat) := by
  unfold State.replyUp
  try dsimp only
  repeat' (first | (with_reducible assumption) | (with_reducible apply State.set_keeps)
                 | (with_reducible apply State.modLink_keeps) | (with_reducible apply State.portDone_keeps)
                 | (with_reducible apply State.fault_keeps) | (intro _ _ _) | (intro _ _) | (simp only [keeps_mk])
                 | (with_reducible refine keeps_snd (by assumption) ?_)
                 | (with_reducible refine keeps_snd2 (by assumption) ?_) | split)

theorem State.replyTrain_keeps {z0 : State} (s : State) (a : Nat) (dat : Nat) (kpt : z0.Keeps s) :
    z0.Keeps (State.replyTrain s a dat) := by
  unfold State.replyTrain
  try dsimp only
  repeat' (first | (with_reducible assumption) | (with_reducible apply State.modLink_keeps)
                 | (with_reducible apply State.attemptFail_keeps) | (with_reducible apply State.set_keeps)
                 | (intro _ _ _) | (intro _ _) | (simp only [keeps_mk]) | split)

theorem State.dlkReply_keeps {z0 : State} (s : State) (a : Nat) (xs : List Nat) (kpt : z0.Keeps s) :
    z0.Keeps (State.dlkReply s a xs) := by
  unfold State.dlkReply
  try dsimp only
  repeat' (first | (with_reducible assumption) | (with_reducible apply State.exchangeFail_keeps)
                 | (with_reducible apply State.set_keeps) | (with_reducible apply State.dlkEnded_keeps)
                 | (with_reducible apply State.fault_keeps) | (with_reducible apply State.dlkRecord_keeps)
                 | (with_reducible apply State.replyTrain_keeps) | (with_reducible apply State.dlkToUp_keeps)
                 | (with_reducible apply State.replyUp_keeps) | (intro _ _ _) | (intro _ _)
                 | (with_reducible refine keeps_snd (by assumption) ?_)
                 | (with_reducible refine keeps_snd2 (by assumption) ?_) | split)

theorem State.dlkPing_keeps {z0 : State} (s : State) (a : Nat) (kpt : z0.Keeps s) :
    z0.Keeps (State.dlkPing s a) := by
  unfold State.dlkPing
  try dsimp only
  repeat' (first | (with_reducible assumption) | (with_reducible apply State.dlkRequest_keeps)
                 | (simp only [keeps_mk]) | split)

theorem State.unsafeReopen_keeps {z0 : State} (s : State) (a : Nat) (kpt : z0.Keeps s) :
    z0.Keeps (State.unsafeReopen s a) := by
  unfold State.unsafeReopen
  repeat' (first | (with_reducible assumption) | (with_reducible apply State.sourceOffHeads_keeps) | split)

theorem State.dlkFaultLine_keeps {z0 : State} (s : State) (a : Nat) (low : Bool) (kpt : z0.Keeps s) :
    z0.Keeps (State.dlkFaultLine s a low) := by
  unfold State.dlkFaultLine
  try dsimp only
  repeat' (first | (with_reducible assumption) | (with_reducible apply State.setFlag_keeps)
                 | (with_reducible apply State.unsafeReopen_keeps) | (with_reducible apply State.sourceOnHeads_keeps)
                 | (with_reducible apply State.fault_keeps) | (with_reducible apply State.dlkRecord_keeps)
                 | (with_reducible apply State.dlkRequest_keeps) | (with_reducible apply State.modLink_keeps)
                 | (intro _ _ _) | (intro _ _) | (simp only [keeps_mk]) | split)

theorem State.pregCmd_keeps {z0 : State} (s : State) (a : Nat) (c : Nat) (kpt : z0.Keeps s) :
    z0.Keeps (State.pregCmd s a c) := by
  unfold State.pregCmd
  try dsimp only
  repeat' (first | (with_reducible assumption) | (with_reducible apply State.portDone_keeps)
                 | (with_reducible apply State.setFlag_keeps) | (with_reducible apply State.dlkRequest_keeps)
                 | (simp only [keeps_mk]) | split)

/-! ### Tether -/

theorem State.modTth_keeps {z0 : State} (s : State) (f : TthSt → TthSt) (kpt : z0.Keeps s) :
    z0.Keeps (State.modTth s f) := by
  unfold State.modTth
  repeat' (first | (with_reducible assumption) | (simp only [keeps_mk]))

theorem State.modRef_keeps {z0 : State} (s : State) (i : Nat) (f : RefIn → RefIn) (kpt : z0.Keeps s) :
    z0.Keeps (State.modRef s i f) := by
  unfold State.modRef
  repeat' (first | (with_reducible assumption) | (with_reducible apply State.modTth_keeps))

theorem State.skewShow_keeps {z0 : State} (s : State) (kpt : z0.Keeps s) :
    z0.Keeps (State.skewShow s) := by
  unfold State.skewShow
  repeat' (first | (with_reducible assumption) | (with_reducible apply State.setFlag_keeps))

theorem State.tthLock_keeps {z0 : State} (s : State) (st : Nat) (kpt : z0.Keeps s) :
    z0.Keeps (State.tthLock s st) := by
  unfold State.tthLock
  try dsimp only
  repeat' (first | (with_reducible assumption) | (with_reducible apply State.set_keeps)
                 | (with_reducible apply State.setFlag_keeps) | (with_reducible apply State.bump_keeps)
                 | (with_reducible apply State.modTth_keeps) | (intro _ _ _) | (intro _ _) | (simp only [keeps_mk]))

theorem State.tthResume_keeps {z0 : State} (s : State) (kpt : z0.Keeps s) :
    z0.Keeps (State.tthResume s) := by
  unfold State.tthResume
  repeat' (first | (with_reducible assumption) | (with_reducible apply State.headsLock_keeps)
                 | (with_reducible apply State.sourceOffHeads_keeps))

theorem State.tthUnlock_keeps {z0 : State} (s : State) (kpt : z0.Keeps s) :
    z0.Keeps (State.tthUnlock s) := by
  unfold State.tthUnlock
  try dsimp only
  repeat' (first | (with_reducible assumption) | (with_reducible apply State.setFlag_keeps)
                 | (with_reducible apply State.set_keeps) | (with_reducible apply State.modTth_keeps) | (intro _ _ _)
                 | (intro _ _) | (simp only [keeps_mk]))

theorem State.tthLoss_keeps {z0 : State} (s : State) (next : Nat) (setLoss : Bool) (kpt : z0.Keeps s) :
    z0.Keeps (State.tthLoss s next setLoss) := by
  unfold State.tthLoss
  try dsimp only
  repeat' (first | (with_reducible assumption) | (with_reducible apply State.sourceOnHeads_keeps)
                 | (with_reducible apply State.set64_keeps) | (with_reducible apply State.modTth_keeps)
                 | (with_reducible apply State.fault_keeps) | (with_reducible apply State.headsUnlock_keeps)
                 | (intro _ _ _) | (intro _ _) | (simp only [keeps_mk]) | split)

theorem State.tthStart_keeps {z0 : State} (s : State) (kpt : z0.Keeps s) :
    z0.Keeps (State.tthStart s) := by
  unfold State.tthStart
  repeat' (first | (with_reducible assumption) | (with_reducible apply State.set_keeps)
                 | (with_reducible apply State.modTth_keeps) | (intro _ _ _) | (intro _ _) | (simp only [keeps_mk])
                 | split)

theorem State.tthOff_keeps {z0 : State} (s : State) (kpt : z0.Keeps s) :
    z0.Keeps (State.tthOff s) := by
  unfold State.tthOff
  try dsimp only
  repeat' (first | (with_reducible assumption) | (with_reducible apply State.tthUnlock_keeps)
                 | (with_reducible apply State.setFlag_keeps) | (with_reducible apply State.set_keeps)
                 | (with_reducible apply State.modTth_keeps))

theorem State.tthDisable_keeps {z0 : State} (s : State) (kpt : z0.Keeps s) :
    z0.Keeps (State.tthDisable s) := by
  unfold State.tthDisable
  repeat' (first | (with_reducible assumption) | (with_reducible apply State.modTth_keeps)
                 | (with_reducible apply State.tthLoss_keeps) | (with_reducible apply State.tthOff_keeps)
                 | (intro _ _ _) | (intro _ _) | (simp only [keeps_mk])
                 | (with_reducible refine keeps_snd (by assumption) ?_)
                 | (with_reducible refine keeps_snd2 (by assumption) ?_) | split)

theorem State.clockSwitch_keeps {z0 : State} (s : State) (kpt : z0.Keeps s) :
    z0.Keeps (State.clockSwitch s) := by
  unfold State.clockSwitch
  try dsimp only
  repeat' (first | (with_reducible assumption) | (with_reducible apply State.tthUnlock_keeps)
                 | (with_reducible apply State.tthOff_keeps) | (with_reducible apply State.tthStart_keeps)
                 | (with_reducible apply State.set_keeps) | (with_reducible apply State.modTth_keeps) | (intro _ _ _)
                 | (intro _ _) | (simp only [keeps_mk]) | (with_reducible refine keeps_snd (by assumption) ?_)
                 | (with_reducible refine keeps_snd2 (by assumption) ?_) | split)

theorem State.relockFail_keeps {z0 : State} (s : State) (kpt : z0.Keeps s) :
    z0.Keeps (State.relockFail s) := by
  unfold State.relockFail
  repeat' (first | (with_reducible assumption) | (with_reducible apply State.fault_keeps)
                 | (with_reducible apply State.modTth_keeps) | (intro _ _ _) | (intro _ _) | (simp only [keeps_mk])
                 | (with_reducible refine keeps_snd (by assumption) ?_)
                 | (with_reducible refine keeps_snd2 (by assumption) ?_) | split)

theorem State.relockArm_keeps {z0 : State} (s : State) (kpt : z0.Keeps s) :
    z0.Keeps (State.relockArm s) := by
  unfold State.relockArm
  repeat' (first | (with_reducible assumption) | (with_reducible apply State.modTth_keeps) | (intro _ _ _)
                 | (intro _ _) | (simp only [keeps_mk]) | split)

theorem State.speedReached_keeps {z0 : State} (s : State) (kpt : z0.Keeps s) :
    z0.Keeps (State.speedReached s) := by
  unfold State.speedReached
  repeat' (first | (with_reducible assumption) | (with_reducible apply State.atSpeed_keeps)
                 | (with_reducible apply State.relockArm_keeps) | split)

theorem State.relockWatch_keeps {z0 : State} (s : State) (kpt : z0.Keeps s) :
    z0.Keeps (State.relockWatch s) := by
  unfold State.relockWatch
  repeat' (first | (with_reducible assumption) | (with_reducible apply State.modTth_keeps) | (intro _ _ _)
                 | (intro _ _) | (simp only [keeps_mk]) | split)

theorem State.handover_keeps {z0 : State} (s : State) (i : Nat) (kpt : z0.Keeps s) :
    z0.Keeps (State.handover s i) := by
  unfold State.handover
  repeat' (first | (with_reducible assumption) | (with_reducible apply State.set_keeps)
                 | (with_reducible apply State.modTth_keeps))

theorem State.refFail_keeps {z0 : State} (s : State) (i : Nat) (slots : Bool) (kpt : z0.Keeps s) :
    z0.Keeps (State.refFail s i slots) := by
  unfold State.refFail
  try dsimp only
  repeat' (first | (with_reducible assumption) | (with_reducible apply State.setFlag_keeps)
                 | (with_reducible apply State.modRef_keeps) | (with_reducible apply State.modTth_keeps)
                 | (with_reducible apply State.fault_keeps) | (with_reducible apply State.ldgProtocol_keeps)
                 | (with_reducible apply State.handover_keeps) | (with_reducible apply State.tthLoss_keeps)
                 | (with_reducible apply State.set_keeps) | (intro _ _ _) | (intro _ _) | (simp only [keeps_mk])
                 | split)

theorem State.pllUpdate_keeps {z0 : State} (s : State) (d : Int) (kpt : z0.Keeps s) :
    z0.Keeps (State.pllUpdate s d) := by
  unfold State.pllUpdate
  try dsimp only
  repeat' (first | (with_reducible assumption) | (with_reducible apply State.modTth_keeps) | (intro _ _ _)
                 | (intro _ _) | (simp only [keeps_mk]) | split)

theorem State.pllSlot_keeps {z0 : State} (s : State) (i : Nat) (k : Nat) (d : Option Int) (kpt : z0.Keeps s) :
    z0.Keeps (State.pllSlot s i k d) := by
  unfold State.pllSlot
  repeat' (first | (with_reducible assumption) | (with_reducible apply State.pllUpdate_keeps)
                 | (with_reducible refine keeps_snd (by assumption) ?_)
                 | (with_reducible refine keeps_snd2 (by assumption) ?_) | split)

theorem State.bandSlot_keeps {z0 : State} (s : State) (i : Nat) (k : Nat) (d : Option Int) (amp : Nat) (kpt : z0.Keeps s) :
    z0.Keeps (State.bandSlot s i k d amp) := by
  unfold State.bandSlot
  try dsimp only
  repeat' (first | (with_reducible assumption) | (with_reducible apply State.pllSlot_keeps)
                 | (with_reducible apply State.modRef_keeps) | (with_reducible apply State.modTth_keeps)
                 | (with_reducible apply State.refFail_keeps) | (with_reducible apply State.set_keeps) | (intro _ _ _)
                 | (intro _ _) | (simp only [keeps_mk]) | split)

theorem State.skewFrame_keeps {z0 : State} (s : State) (x : Nat) (kpt : z0.Keeps s) :
    z0.Keeps (State.skewFrame s x) := by
  unfold State.skewFrame
  try dsimp only
  repeat' (first | (with_reducible assumption) | (with_reducible apply State.fault_keeps)
                 | (with_reducible apply State.tthLoss_keeps) | (with_reducible apply State.modTth_keeps)
                 | (with_reducible apply State.openDiv_keeps) | (with_reducible apply State.set_keeps)
                 | (with_reducible apply State.setFlag_keeps) | (with_reducible apply State.skewShow_keeps)
                 | (intro _ _ _) | (intro _ _) | (simp only [keeps_mk])
                 | (with_reducible refine keeps_snd (by assumption) ?_)
                 | (with_reducible refine keeps_snd2 (by assumption) ?_) | split)

theorem State.anglePoint_keeps {z0 : State} (s : State) (t : Nat) (ang : Nat) (span : Nat) (kpt : z0.Keeps s) :
    z0.Keeps (State.anglePoint s t ang span) := by
  revert s t ang span kpt
  refine (?_ : Holds (fun F => ∀ (s : State) (t : Nat) (ang : Nat) (span : Nat) (_ : z0.Keeps s), z0.Keeps (F s t ang span)) @State.anglePoint).h
  delta State.anglePoint
  have k_openDiv := @State.openDiv_keeps z0
  generalize @State.openDiv = f_openDiv at k_openDiv ⊢
  have k_modTth := @State.modTth_keeps z0
  generalize @State.modTth = f_modTth at k_modTth ⊢
  have k_set := @State.set_keeps z0
  generalize @State.set = f_set at k_set ⊢
  refine ⟨fun s t ang span kpt => ?_⟩
  have k1 := k_modTth s (fun x => { x with angAt := (t, ang) }) kpt
  extract_lets +onlyGivenNames s1
  replace k1 : z0.Keeps s1 := k1
  clear_value s1
  by_cases c1 : ang < span
  · rw [if_pos c1]
    have h1 := k_openDiv s1 (Int.ofNat (ang * 1000000000)) (max 1 s1.fTether) k1
    generalize f_openDiv s1 (Int.ofNat (ang * 1000000000)) (max 1 s1.fTether) = p at h1 ⊢
    obtain ⟨back, s2⟩ := p
    dsimp -zeta only
    extract_lets +onlyGivenNames idx
    clear_value idx
    refine k_modTth _ _ ?_
    generalize s2.tth.lastIdx = o
    cases o with
    | some k => exact k_set _ _ _ h1
    | none => exact h1
  · rw [if_neg c1]
    exact k1

theorem State.frameRuns_keeps {z0 : State} (s : State) (i : Nat) (num : Option Nat) (ampOk : Bool) (kpt : z0.Keeps s) :
    z0.Keeps (State.frameRuns s i num ampOk) := by
  unfold State.frameRuns
  try dsimp only
  repeat' (first | (with_reducible assumption) | (with_reducible apply State.modRef_keeps))

theorem State.frameAngle_keeps {z0 : State} (s : State) (i : Nat) (last : Option Nat) (num : Option Nat)
    (kpt : z0.Keeps s) :
    z0.Keeps (State.frameAngle s i last num) := by
  unfold State.frameAngle
  try dsimp only
  repeat' (first | (with_reducible assumption) | (with_reducible apply State.anglePoint_keeps)
                 | (with_reducible refine keeps_snd (by assumption) ?_)
                 | (with_reducible refine keeps_snd2 (by assumption) ?_) | split)

theorem State.bandFrameEnd_keeps {z0 : State} (s : State) (i : Nat) (fr : BandFrame) (num : Option Nat)
    (ampOk : Bool) (kpt : z0.Keeps s) :
    z0.Keeps (State.bandFrameEnd s i fr num ampOk) := by
  revert s i fr num ampOk kpt
  refine (?_ : Holds (fun F => ∀ (s : State) (i : Nat) (fr : BandFrame) (num : Option Nat) (ampOk : Bool) (_ : z0.Keeps s), z0.Keeps (F s i fr num ampOk)) @State.bandFrameEnd).h
  delta State.bandFrameEnd
  have k_frameRuns := @State.frameRuns_keeps z0
  generalize @State.frameRuns = f_frameRuns at k_frameRuns ⊢
  have k_frameAngle := @State.frameAngle_keeps z0
  generalize @State.frameAngle = f_frameAngle at k_frameAngle ⊢
  have k_refFail := @State.refFail_keeps z0
  generalize @State.refFail = f_refFail at k_refFail ⊢
  have k_tthLock := @State.tthLock_keeps z0
  generalize @State.tthLock = f_tthLock at k_tthLock ⊢
  have k_tthResume := @State.tthResume_keeps z0
  generalize @State.tthResume = f_tthResume at k_tthResume ⊢
  have k_skewFrame := @State.skewFrame_keeps z0
  generalize @State.skewFrame = f_skewFrame at k_skewFrame ⊢
  have k_handover := @State.handover_keeps z0
  generalize @State.handover = f_handover at k_handover ⊢
  have k_fault := @State.fault_keeps z0
  generalize @State.fault = f_fault at k_fault ⊢
  have k_modTth := @State.modTth_keeps z0
  generalize @State.modTth = f_modTth at k_modTth ⊢
  have k_setFlag := @State.setFlag_keeps z0
  generalize @State.setFlag = f_setFlag at k_setFlag ⊢
  refine ⟨fun s i fr num ampOk kpt => ?_⟩
  extract_lets +onlyGivenNames last s0
  have k0 : z0.Keeps s0 := by unfold s0; split; exacts [k_fault _ _ _ kpt, kpt]
  clear_value s0 last
  extract_lets +onlyGivenNames s1
  have k1 : z0.Keeps s1 := k_frameRuns _ _ _ _ k0
  clear_value s1
  extract_lets +onlyGivenNames r s2
  have k2 : z0.Keeps s2 := by
    unfold s2; split
    · exact k_refFail _ _ _ k1
    · split; exacts [k_setFlag _ _ _ k1, k1]
  clear_value s2
  extract_lets +onlyGivenNames lock s3
  have k3 : z0.Keeps s3 := by unfold s3; split; exacts [k_tthLock _ _ k2, k2]
  clear_value s3 lock
  extract_lets +onlyGivenNames t0
  have kt0 : z0.Keeps t0 := k_frameAngle _ _ _ _ k3
  clear_value t0
  extract_lets +onlyGivenNames t1
  have kt : z0.Keeps t1 := by unfold t1; split; exacts [k_tthResume _ kt0, kt0]
  clear_value t1
  extract_lets +onlyGivenNames s4
  have k4 : z0.Keeps s4 := by
    unfold s4
    refine keeps_ite (fun _ => ?_) (fun _ => k3)
    · generalize fr.skew = o
      cases o with
      | some x => exact k_skewFrame _ _ kt
      | none => exact kt
  clear_value s4
  generalize s4.tth.select = o
  cases o with
  | none => exact k4
  | some k =>
    dsimp only
    split
    · exact k4
    · split
      · exact k_handover _ _ k4
      · exact k_modTth _ _ k4

theorem State.tetherFrame_keeps {z0 : State} (s : State) (i : Nat) (fr : BandFrame) (kpt : z0.Keeps s) :
    z0.Keeps (State.tetherFrame s i fr) := by
  unfold State.tetherFrame
  try dsimp only
  repeat' (first | (with_reducible assumption) | (with_reducible apply State.bandSlot_keeps)
                 | (with_reducible apply State.bandFrameEnd_keeps) | (with_reducible refine keeps_foldl ?_ ?_)
                 | (intro _ _ _) | (intro _ _) | split)

theorem State.frequencyFound_keeps {z0 : State} (s : State) (i : Nat) (slotHz : Nat) (pllHz : Nat) (kpt : z0.Keeps s) :
    z0.Keeps (State.frequencyFound s i slotHz pllHz) := by
  unfold State.frequencyFound
  try dsimp only
  repeat' (first | (with_reducible assumption) | (with_reducible apply State.set_keeps)
                 | (with_reducible apply State.modTth_keeps) | (intro _ _ _) | (intro _ _) | (simp only [keeps_mk])
                 | split)

theorem State.tthSelect_keeps {z0 : State} (s : State) (code : Nat) (kpt : z0.Keeps s) :
    z0.Keeps (State.tthSelect s code) := by
  unfold State.tthSelect
  repeat' (first | (with_reducible assumption) | (with_reducible apply State.modTth_keeps) | (intro _ _ _)
                 | (intro _ _) | (simp only [keeps_mk]) | split)

theorem State.tthCtrl_keeps {z0 : State} (s : State) (old : Nat) (new : Nat) (kpt : z0.Keeps s) :
    z0.Keeps (State.tthCtrl s old new) := by
  unfold State.tthCtrl
  try dsimp only
  repeat' (first | (with_reducible assumption) | (with_reducible apply State.set_keeps)
                 | (with_reducible apply State.setFlag_keeps) | (with_reducible apply State.modRef_keeps)
                 | (with_reducible apply State.tthDisable_keeps) | (with_reducible apply State.tthStart_keeps)
                 | (with_reducible apply State.tthSelect_keeps) | (intro _ _ _) | (intro _ _) | (simp only [keeps_mk])
                 | split)

theorem State.tthAngleNow_keeps {z0 : State} (s : State) (kpt : z0.Keeps s) :
    z0.Keeps (State.tthAngleNow s).2 := by
  unfold State.tthAngleNow
  try dsimp only
  repeat' (first | (with_reducible assumption) | (with_reducible apply State.tetherAt_keeps)
                 | (with_reducible refine keeps_snd (by assumption) ?_)
                 | (with_reducible refine keeps_snd2 (by assumption) ?_) | split)

theorem State.wedgeAcquire_keeps {z0 : State} (s : State) (h : Nat) (kpt : z0.Keeps s) :
    z0.Keeps (State.wedgeAcquire s h) := by
  unfold State.wedgeAcquire
  try dsimp only
  repeat' (first | (with_reducible assumption) | (with_reducible apply State.tthUnlock_keeps)
                 | (with_reducible apply State.headsUnlock_keeps) | (with_reducible apply State.abandonHead_keeps)
                 | (with_reducible apply State.set_keeps) | (with_reducible apply State.modTth_keeps) | (intro _ _ _)
                 | (intro _ _) | (simp only [keeps_mk]) | (with_reducible refine keeps_snd (by assumption) ?_)
                 | (with_reducible refine keeps_snd2 (by assumption) ?_) | split)

theorem State.wedgeWatch_keeps {z0 : State} (s : State) (kpt : z0.Keeps s) :
    z0.Keeps (State.wedgeWatch s) := by
  unfold State.wedgeWatch
  try dsimp only
  repeat' (first | (with_reducible assumption) | (with_reducible apply State.modTth_keeps)
                 | (with_reducible apply State.wedgeAcquire_keeps) | (intro _ _ _) | (intro _ _)
                 | (simp only [keeps_mk]) | (with_reducible refine keeps_snd (by assumption) ?_)
                 | (with_reducible refine keeps_snd2 (by assumption) ?_) | split)

theorem State.wedgeMark_keeps {z0 : State} (s : State) (h : Nat) (m : MarkObs) (kpt : z0.Keeps s) :
    z0.Keeps (State.wedgeMark s h m) := by
  unfold State.wedgeMark
  try dsimp only
  repeat' (first | (with_reducible assumption) | (with_reducible apply State.pllUpdate_keeps)
                 | (with_reducible apply State.modTth_keeps) | (with_reducible apply State.tthLock_keeps)
                 | (with_reducible apply State.anglePoint_keeps) | (with_reducible apply State.tthResume_keeps)
                 | (with_reducible apply State.tthLoss_keeps) | (intro _ _ _) | (intro _ _) | (simp only [keeps_mk])
                 | (with_reducible refine keeps_snd (by assumption) ?_)
                 | (with_reducible refine keeps_snd2 (by assumption) ?_) | split)

theorem State.wedgeSample_keeps {z0 : State} (s : State) (h : Nat) (o : WedgeObs) (kpt : z0.Keeps s) :
    z0.Keeps (State.wedgeSample s h o) := by
  unfold State.wedgeSample
  repeat' (first | (with_reducible assumption) | (with_reducible apply State.servoSample_keeps)
                 | (with_reducible apply State.wedgeWatch_keeps) | (with_reducible apply State.wedgeMark_keeps))

theorem State.tbCopy_keeps {z0 : State} (s : State) (dom : Nat) (d : Int) (kpt : z0.Keeps s) :
    z0.Keeps (State.tbCopy s dom d) := by
  unfold State.tbCopy
  repeat' (first | (with_reducible assumption) | (with_reducible apply State.set_keeps)
                 | (with_reducible apply State.bump_keeps) | (with_reducible apply State.fault_keeps)
                 | (simp only [keeps_mk]) | split)

theorem State.tbAlign_keeps {z0 : State} (s : State) (drift : List Int) (kpt : z0.Keeps s) :
    z0.Keeps (State.tbAlign s drift) := by
  unfold State.tbAlign
  repeat' (first | (with_reducible assumption) | (with_reducible apply State.take_keeps)
                 | (with_reducible apply State.tbCopy_keeps) | (with_reducible refine keeps_foldl ?_ ?_)
                 | (intro _ _ _) | (intro _ _) | split)

/-! ### Seq -/

theorem State.setG_keeps {z0 : State} (s : State) (a : Nat) (n : Nat) (v : Nat) (kpt : z0.Keeps s) :
    z0.Keeps (State.setG s a n v) := by
  unfold State.setG
  repeat' (first | (with_reducible assumption) | (with_reducible apply State.modSq_keeps))

theorem State.putOct_keeps {z0 : State} (s : State) (a : Nat) (o : Nat) (k : Nat) (ws : List Nat) (kpt : z0.Keeps s) :
    z0.Keeps (State.putOct s a o k ws) := by
  unfold State.putOct
  repeat' (first | (with_reducible assumption) | (with_reducible apply State.take_keeps)
                 | (with_reducible apply State.setG_keeps) | (with_reducible refine keeps_foldl ?_ ?_)
                 | (intro _ _ _))

theorem State.sqHalt_keeps {z0 : State} (s : State) (a : Nat) (st : Nat) (kpt : z0.Keeps s) :
    z0.Keeps (State.sqHalt s a st) := by
  unfold State.sqHalt
  try dsimp only
  repeat' (first | (with_reducible assumption) | (with_reducible apply State.set_keeps)
                 | (with_reducible apply State.modSq_keeps) | (with_reducible apply State.abandonHead_keeps)
                 | (with_reducible apply State.retryFreeAct_keeps) | (with_reducible apply State.defSwapTry_keeps)
                 | (with_reducible refine keeps_foldl ?_ ?_))

theorem State.sqStop_keeps {z0 : State} (s : State) (a : Nat) (bit : Nat) (kpt : z0.Keeps s) :
    z0.Keeps (State.sqStop s a bit) := by
  unfold State.sqStop
  repeat' (first | (with_reducible assumption) | (with_reducible apply State.sqHalt_keeps)
                 | (with_reducible apply State.fault_keeps))

theorem State.sqReset_keeps {z0 : State} (s : State) (a : Nat) (kpt : z0.Keeps s) :
    z0.Keeps (State.sqReset s a) := by
  unfold State.sqReset
  repeat' (first | (with_reducible assumption) | (with_reducible apply State.sqHalt_keeps)
                 | (with_reducible apply State.modSq_keeps) | (with_reducible apply State.set_keeps)
                 | (with_reducible apply State.setFlag_keeps))

theorem State.sqGo_keeps {z0 : State} (s : State) (a : Nat) (n : Nat) (kpt : z0.Keeps s) :
    z0.Keeps (State.sqGo s a n) := by
  unfold State.sqGo
  repeat' (first | (with_reducible assumption) | (with_reducible apply State.set_keeps))

theorem State.sqStart_keeps {z0 : State} (s : State) (a : Nat) (kpt : z0.Keeps s) :
    z0.Keeps (State.sqStart s a) := by
  unfold State.sqStart
  repeat' (first | (with_reducible assumption) | (with_reducible apply State.set_keeps)
                 | (with_reducible apply State.modSq_keeps) | (with_reducible apply State.sqGo_keeps) | (intro _ _ _)
                 | (intro _ _) | (simp only [keeps_mk]) | split)

theorem State.sqPush_keeps {z0 : State} (s : State) (a : Nat) (r : Nat) (kpt : z0.Keeps s) :
    z0.Keeps (State.sqPush s a r).2 := by
  unfold State.sqPush
  try dsimp only
  repeat' (first | (with_reducible assumption) | (with_reducible apply State.sqStop_keeps)
                 | (with_reducible apply State.modSq_keeps) | (with_reducible apply State.set_keeps) | (intro _ _ _)
                 | (intro _ _) | (simp only [keeps_mk]) | split)

theorem State.sqPop_keeps {z0 : State} (s : State) (a : Nat) (kpt : z0.Keeps s) :
    z0.Keeps (State.sqPop s a).2 := by
  unfold State.sqPop
  repeat' (first | (with_reducible assumption) | (with_reducible apply State.modSq_keeps)
                 | (with_reducible apply State.set_keeps) | (with_reducible apply State.sqStop_keeps) | (intro _ _ _)
                 | (intro _ _) | (simp only [keeps_mk]) | (with_reducible refine keeps_snd (by assumption) ?_)
                 | (with_reducible refine keeps_snd2 (by assumption) ?_) | split)

theorem State.sqPoll_keeps {z0 : State} (s : State) (a : Nat) (n : Nat) (stay : Bool) (kpt : z0.Keeps s) :
    z0.Keeps (State.sqPoll s a n stay) := by
  unfold State.sqPoll
  try dsimp only
  repeat' (first | (with_reducible assumption) | (with_reducible apply State.modSq_keeps)
                 | (with_reducible apply State.defSwapTry_keeps) | (with_reducible apply State.sqHalt_keeps)
                 | (with_reducible apply State.set_keeps) | (with_reducible apply State.sqPush_keeps)
                 | (with_reducible apply State.setFlag_keeps) | (with_reducible apply State.sqGo_keeps)
                 | (intro _ _ _) | (intro _ _) | (simp only [keeps_mk])
                 | (with_reducible refine keeps_snd (by assumption) ?_)
                 | (with_reducible refine keeps_snd2 (by assumption) ?_) | split)

theorem State.sqLeave_keeps {z0 : State} (s : State) (a : Nat) (w : Nat) (n : Nat) (kpt : z0.Keeps s) :
    z0.Keeps (State.sqLeave s a w n) := by
  unfold State.sqLeave
  try dsimp only
  repeat' (first | (with_reducible assumption) | (with_reducible apply State.modSq_keeps)
                 | (with_reducible apply State.sqPoll_keeps) | (with_reducible apply State.sqGo_keeps) | (intro _ _ _)
                 | (intro _ _) | (simp only [keeps_mk]) | split)

theorem State.sqFlags_keeps {z0 : State} (s : State) (a : Nat) (r : Nat) (carry : Option Bool) (kpt : z0.Keeps s) :
    z0.Keeps (State.sqFlags s a r carry) := by
  unfold State.sqFlags
  try dsimp only
  repeat' (first | (with_reducible assumption) | (with_reducible apply State.modSq_keeps)
                 | (with_reducible apply State.draw_keeps) | (intro _ _ _) | (intro _ _) | (simp only [keeps_mk])
                 | (with_reducible refine keeps_snd (by assumption) ?_)
                 | (with_reducible refine keeps_snd2 (by assumption) ?_) | split)

theorem State.sqFreeFlags_keeps {z0 : State} (s : State) (a : Nat) (kpt : z0.Keeps s) :
    z0.Keeps (State.sqFreeFlags s a) := by
  unfold State.sqFreeFlags
  try dsimp only
  repeat' (first | (with_reducible assumption) | (with_reducible apply State.draw_keeps)
                 | (with_reducible apply State.modSq_keeps))

theorem State.sqAlu_keeps {z0 : State} (s : State) (a : Nat) (w : Nat) (kpt : z0.Keeps s) :
    z0.Keeps (State.sqAlu s a w).2 := by
  unfold State.sqAlu
  try dsimp only
  repeat' (first | (with_reducible assumption) | (with_reducible apply State.sqFreeFlags_keeps)
                 | (with_reducible apply State.modSq_keeps) | (with_reducible apply State.sqFlags_keeps)
                 | (with_reducible apply State.setG_keeps) | (intro _ _ _) | (intro _ _) | (simp only [keeps_mk])
                 | (with_reducible refine keeps_snd (by assumption) ?_)
                 | (with_reducible refine keeps_snd2 (by assumption) ?_) | split)

theorem State.defSearch_keeps {z0 : State} (s : State) (a : Nat) (base : Nat) (key : Nat) (y1 : Nat) (y2 : Nat)
    (y3 : Nat) (y4 : Option Nat) (y5 : Option Nat) (kpt : z0.Keeps s) :
    z0.Keeps (State.defSearch s a base key y1 y2 y3 y4 y5).2 := by
  induction y1 generalizing s y2 y3 y4 y5 with
  | zero => exact kpt
  | succ k ih =>
    unfold State.defSearch
    refine keeps_snd_ite (fun _ => kpt) (fun _ => ?_)
    extract_lets m
    have h1 := State.memRead_keeps (z0 := z0) s (base + 16 * m) 16 kpt
    generalize s.memRead (base + 16 * m) 16 = p at h1 ⊢
    obtain ⟨o, s1⟩ := p
    cases o with
    | none => exact h1
    | some bs =>
      dsimp -zeta only
      extract_lets w0 w1 k order
      clear_value w0 w1 k order m
      refine keeps_snd_ite (fun _ => h1) (fun _ => keeps_snd_ite (fun _ => h1) (fun _ => keeps_snd_ite (fun _ => ?_) (fun _ => ?_)))
      · exact ih _ _ _ _ _ h1
      · exact ih _ _ _ _ _ h1

theorem State.lookupDone_keeps {z0 : State} (s : State) (a : Nat) (kpt : z0.Keeps s) :
    z0.Keeps (State.lookupDone s a) := by
  unfold State.lookupDone
  try dsimp only
  repeat' (first | (with_reducible assumption) | (with_reducible apply State.defSearch_keeps)
                 | (with_reducible apply State.modSq_keeps) | (with_reducible apply State.putOct_keeps)
                 | (with_reducible apply State.defSwapTry_keeps) | (with_reducible apply State.fault_keeps)
                 | (intro _ _ _) | (intro _ _) | (simp only [keeps_mk])
                 | (with_reducible refine keeps_snd (by assumption) ?_)
                 | (with_reducible refine keeps_snd2 (by assumption) ?_) | split)

theorem State.rselChange_keeps {z0 : State} (s : State) (a : Nat) (old : Nat) (new : Nat) (kpt : z0.Keeps s) :
    z0.Keeps (State.rselChange s a old new) := by
  unfold State.rselChange
  try dsimp only
  repeat' (first | (with_reducible assumption) | (with_reducible apply State.abandonHead_keeps)
                 | (with_reducible apply State.dlkSelect_keeps) | (with_reducible refine keeps_foldl ?_ ?_)
                 | (intro _ _ _) | (intro _ _) | split)

theorem State.sqFormat_keeps {z0 : State} (s : State) (a : Nat) (w : Nat) (kpt : z0.Keeps s) :
    z0.Keeps (State.sqFormat s a w) := by
  unfold State.sqFormat
  try dsimp only
  repeat' (first | (with_reducible assumption) | (with_reducible apply State.arm_keeps)
                 | (with_reducible apply State.modSq_keeps) | (with_reducible apply State.putOct_keeps)
                 | (with_reducible apply State.fault_keeps) | (with_reducible apply State.abandonHead_keeps)
                 | (with_reducible apply State.zoneRequest_keeps) | (with_reducible apply State.dlkSelect_keeps)
                 | (with_reducible apply State.seekCmd_keeps) | (with_reducible apply State.setTarget_keeps)
                 | (with_reducible apply State.lookupDone_keeps) | (with_reducible apply State.modHead_keeps)
                 | (intro _ _ _) | (intro _ _) | (simp only [keeps_mk])
                 | (with_reducible refine keeps_snd (by assumption) ?_)
                 | (with_reducible refine keeps_snd2 (by assumption) ?_) | split)

theorem State.sqNext_keeps {z0 : State} (s : State) (a : Nat) (pc : Nat) (w : Nat) (holds : Bool) (kpt : z0.Keeps s) :
    z0.Keeps (State.sqNext s a pc w holds) := by
  unfold State.sqNext
  try dsimp only
  repeat' (first | (with_reducible assumption) | (with_reducible apply State.sqPush_keeps)
                 | (with_reducible apply State.sqLeave_keeps) | (with_reducible apply State.sqPop_keeps)
                 | (with_reducible apply State.modSq_keeps) | (with_reducible apply State.sqPoll_keeps)
                 | (with_reducible apply State.set_keeps) | (intro _ _ _) | (intro _ _) | (simp only [keeps_mk])
                 | (with_reducible refine keeps_snd (by assumption) ?_)
                 | (with_reducible refine keeps_snd2 (by assumption) ?_) | split)

theorem State.sqIssue_keeps {z0 : State} (s : State) (a : Nat) (w : Nat) (kpt : z0.Keeps s) :
    z0.Keeps (State.sqIssue s a w) := by
  unfold State.sqIssue
  try dsimp only
  repeat' (first | (with_reducible assumption) | (with_reducible apply State.sqStop_keeps)
                 | (with_reducible apply State.sqAlu_keeps) | (with_reducible apply State.sqFormat_keeps)
                 | (with_reducible apply State.sqNext_keeps) | (with_reducible apply State.defSwapTry_keeps)
                 | (with_reducible refine keeps_snd (by assumption) ?_)
                 | (with_reducible refine keeps_snd2 (by assumption) ?_) | split)

theorem State.waitMet_keeps {z0 : State} (s : State) (a : Nat) (kpt : z0.Keeps s) :
    z0.Keeps (State.waitMet s a) := by
  unfold State.waitMet
  repeat' (first | (with_reducible assumption) | (with_reducible apply State.sqLeave_keeps)
                 | (with_reducible refine keeps_snd (by assumption) ?_)
                 | (with_reducible refine keeps_snd2 (by assumption) ?_) | split)

theorem State.waitTimeout_keeps {z0 : State} (s : State) (a : Nat) (kpt : z0.Keeps s) :
    z0.Keeps (State.waitTimeout s a) := by
  unfold State.waitTimeout
  repeat' (first | (with_reducible assumption) | (with_reducible apply State.sqLeave_keeps)
                 | (with_reducible refine keeps_snd (by assumption) ?_)
                 | (with_reducible refine keeps_snd2 (by assumption) ?_) | split)

theorem State.waitPoll_keeps {z0 : State} (s : State) (a : Nat) (kpt : z0.Keeps s) :
    z0.Keeps (State.waitPoll s a) := by
  unfold State.waitPoll
  repeat' (first | (with_reducible assumption) | (with_reducible apply State.sqPoll_keeps)
                 | (with_reducible refine keeps_snd (by assumption) ?_)
                 | (with_reducible refine keeps_snd2 (by assumption) ?_) | split)

theorem State.sqFetch_keeps {z0 : State} (s : State) (a : Nat) (n : Nat) (kpt : z0.Keeps s) :
    z0.Keeps (State.sqFetch s a n).2 := by
  unfold State.sqFetch
  repeat' (first | (with_reducible assumption) | (with_reducible apply State.eccRead_keeps) | (simp only)
                 | (with_reducible refine keeps_snd (by assumption) ?_)
                 | (with_reducible refine keeps_snd2 (by assumption) ?_) | split)

theorem State.sqClock_keeps {z0 : State} (s : State) (a : Nat) (kpt : z0.Keeps s) :
    z0.Keeps (State.sqClock s a) := by
  unfold State.sqClock
  repeat' (first | (with_reducible assumption) | (with_reducible apply State.waitPoll_keeps)
                 | (with_reducible apply State.waitMet_keeps) | (with_reducible apply State.waitTimeout_keeps)
                 | (with_reducible apply State.sqFetch_keeps) | (with_reducible apply State.sqIssue_keeps)
                 | (with_reducible apply State.sqStop_keeps) | (with_reducible refine keeps_snd (by assumption) ?_)
                 | (with_reducible refine keeps_snd2 (by assumption) ?_) | split)

theorem State.wpTimeout_keeps {z0 : State} (s : State) (a : Nat) (kpt : z0.Keeps s) :
    z0.Keeps (State.wpTimeout s a) := by
  unfold State.wpTimeout
  try dsimp only
  repeat' (first | (with_reducible assumption) | (with_reducible apply State.sqStop_keeps)
                 | (with_reducible refine keeps_snd (by assumption) ?_)
                 | (with_reducible refine keeps_snd2 (by assumption) ?_) | split)

theorem State.sqStopReq_keeps {z0 : State} (s : State) (a : Nat) (kpt : z0.Keeps s) :
    z0.Keeps (State.sqStopReq s a) := by
  unfold State.sqStopReq
  repeat' (first | (with_reducible assumption) | (with_reducible apply State.sqHalt_keeps)
                 | (with_reducible apply State.modSq_keeps) | (with_reducible apply State.waitPoll_keeps)
                 | (intro _ _ _) | (intro _ _) | (simp only [keeps_mk]) | split)

theorem State.sqCtrl_keeps {z0 : State} (s : State) (a : Nat) (new : Nat) (kpt : z0.Keeps s) :
    z0.Keeps (State.sqCtrl s a new) := by
  unfold State.sqCtrl
  try dsimp only
  repeat' (first | (with_reducible assumption) | (with_reducible apply State.setFlag_keeps)
                 | (with_reducible apply State.modSq_keeps) | (with_reducible apply State.defSwapTry_keeps)
                 | (with_reducible apply State.sqReset_keeps) | (with_reducible apply State.sqHalt_keeps)
                 | (with_reducible apply State.sqStart_keeps) | (with_reducible apply State.set_keeps)
                 | (with_reducible apply State.sqGo_keeps) | (with_reducible apply State.waitPoll_keeps)
                 | (intro _ _ _) | (intro _ _) | (simp only [keeps_mk]) | split)

theorem State.sqPatchEnd_keeps {z0 : State} (s : State) (a : Nat) (kpt : z0.Keeps s) :
    z0.Keeps (State.sqPatchEnd s a) := by
  unfold State.sqPatchEnd
  repeat' (first | (with_reducible assumption) | (with_reducible apply State.modSq_keeps)
                 | (with_reducible apply State.sqStart_keeps))

theorem State.sqContain_keeps {z0 : State} (s : State) (a : Nat) (kpt : z0.Keeps s) :
    z0.Keeps (State.sqContain s a) := by
  unfold State.sqContain
  repeat' (first | (with_reducible assumption) | (with_reducible apply State.sqReset_keeps)
                 | (with_reducible apply State.set_keeps))

theorem State.taskWord_keeps {z0 : State} (s : State) (a : Nat) (k : Nat) (v : Nat) (kpt : z0.Keeps s) :
    z0.Keeps (State.taskWord s a k v) := by
  unfold State.taskWord
  try dsimp only
  repeat' (first | (with_reducible assumption) | (with_reducible apply State.modSq_keeps)
                 | (with_reducible apply State.fault_keeps) | (intro _ _ _) | (intro _ _) | (simp only [keeps_mk])
                 | split)

theorem State.doneWord_keeps {z0 : State} (s : State) (a : Nat) (k : Nat) (kpt : z0.Keeps s) :
    z0.Keeps (State.doneWord s a k).2 := by
  unfold State.doneWord
  repeat' (first | (with_reducible assumption) | (with_reducible apply State.modSq_keeps) | (intro _ _ _)
                 | (intro _ _) | (simp only) | (with_reducible refine keeps_snd (by assumption) ?_)
                 | (with_reducible refine keeps_snd2 (by assumption) ?_) | split)

end Sys2Proof.Machine
end

