-- ==== Sys2Proof/Laws/KeepsHost.lean ====
section
/-!
SUPPORT. Keeps, one lemma for each operation of a block: the host interface, containers, the compression lanes, modes, security and the NVMe commands.
The lemma of an operation says that it keeps the time base and the canonical form of the stores.
-/

namespace Sys2Proof.Machine

open Sys2Proof

set_option simprocs false

/-! ### HostOps -/

theorem State.modHif_keeps {z0 : State} (s : State) (f : HifSt → HifSt) (kpt : z0.Keeps s) :
    z0.Keeps (State.modHif s f) := by
  unfold State.modHif
  repeat' (first | (with_reducible assumption) | (simp only [keeps_mk]))

theorem State.modCtl_keeps {z0 : State} (s : State) (n : Nat) (f : Ctl → Ctl) (kpt : z0.Keeps s) :
    z0.Keeps (State.modCtl s n f) := by
  unfold State.modCtl
  repeat' (first | (with_reducible assumption) | (with_reducible apply State.modHif_keeps))

theorem State.modCmd_keeps {z0 : State} (s : State) (no : Nat) (f : CmdSlot → CmdSlot) (kpt : z0.Keeps s) :
    z0.Keeps (State.modCmd s no f) := by
  unfold State.modCmd
  repeat' (first | (with_reducible assumption) | (with_reducible apply State.modHif_keeps))

theorem State.hifShow_keeps {z0 : State} (s : State) (kpt : z0.Keeps s) :
    z0.Keeps (State.hifShow s) := by
  unfold State.hifShow
  try dsimp only
  repeat' (first | (with_reducible assumption) | (with_reducible apply State.set_keeps)
                 | (with_reducible apply State.setFlag_keeps))

theorem State.modNs_keeps {z0 : State} (s : State) (id : Nat) (f : NsSt → NsSt) (kpt : z0.Keeps s) :
    z0.Keeps (State.modNs s id f) := by
  unfold State.modNs
  repeat' (first | (with_reducible assumption) | (with_reducible apply State.modHif_keeps))

theorem State.endSlot_keeps {z0 : State} (s : State) (no : Nat) (r : CmdRes) (kpt : z0.Keeps s) :
    z0.Keeps (State.endSlot s no r) := by
  unfold State.endSlot
  try dsimp only
  repeat' (first | (with_reducible assumption) | (with_reducible apply State.modCmd_keeps)
                 | (with_reducible apply State.modHif_keeps) | (with_reducible apply State.modCtl_keeps)
                 | (with_reducible apply State.take_keeps) | (intro _ _ _) | (intro _ _) | (simp only [keeps_mk])
                 | (with_reducible refine keeps_snd (by assumption) ?_)
                 | (with_reducible refine keeps_snd2 (by assumption) ?_) | split)

theorem State.acquireCheck_keeps {z0 : State} (s : State) (kpt : z0.Keeps s) :
    z0.Keeps (State.acquireCheck s) := by
  unfold State.acquireCheck
  try dsimp only
  repeat' (first | (with_reducible assumption) | (with_reducible apply State.endSlot_keeps)
                 | (with_reducible refine keeps_foldl ?_ ?_) | (intro _ _ _))

theorem State.finish_keeps {z0 : State} (s : State) (no : Nat) (r : CmdRes) (kpt : z0.Keeps s) :
    z0.Keeps (State.finish s no r) := by
  unfold State.finish
  repeat' (first | (with_reducible assumption) | (with_reducible apply State.endSlot_keeps)
                 | (with_reducible apply State.acquireCheck_keeps))

theorem State.finishSt_keeps {z0 : State} (s : State) (no : Nat) (st : Cst) (kpt : z0.Keeps s) :
    z0.Keeps (State.finishSt s no st) := by
  unfold State.finishSt
  repeat' (first | (with_reducible assumption) | (with_reducible apply State.finish_keeps))

theorem State.cmdPost_keeps {z0 : State} (s : State) (no : Nat) (kpt : z0.Keeps s) :
    z0.Keeps (State.cmdPost s no) := by
  unfold State.cmdPost
  try dsimp only
  repeat' (first | (with_reducible assumption) | (with_reducible apply State.modCtl_keeps)
                 | (with_reducible apply State.modHif_keeps) | (with_reducible apply State.hifShow_keeps)
                 | (intro _ _ _) | (intro _ _) | (simp only [keeps_mk])
                 | (with_reducible refine keeps_snd (by assumption) ?_)
                 | (with_reducible refine keeps_snd2 (by assumption) ?_) | split)

theorem State.cqDrain_keeps {z0 : State} (s : State) (n : Nat) (y : Nat) (kpt : z0.Keeps s) :
    z0.Keeps (State.cqDrain s n y) := by
  unfold State.cqDrain
  repeat' (first | (with_reducible assumption) | (with_reducible apply State.cmdPost_keeps)
                 | (with_reducible refine keeps_foldl ?_ ?_))

theorem State.letGo_keeps {z0 : State} (s : State) (h : Nat) (kpt : z0.Keeps s) :
    z0.Keeps (State.letGo s h) := by
  unfold State.letGo
  repeat' (first | (with_reducible assumption) | (with_reducible apply State.entryRead_keeps)
                 | (with_reducible apply State.depSend_keeps) | (with_reducible refine keeps_snd (by assumption) ?_)
                 | (with_reducible refine keeps_snd2 (by assumption) ?_) | split)

theorem State.freeBufs_keeps {z0 : State} (s : State) (hs : List Nat) (kpt : z0.Keeps s) :
    z0.Keeps (State.freeBufs s hs) := by
  unfold State.freeBufs
  try dsimp only
  repeat' (first | (with_reducible assumption) | (with_reducible apply State.letGo_keeps)
                 | (with_reducible refine keeps_foldl ?_ ?_))

theorem State.cmdDrop_keeps {z0 : State} (s : State) (no : Nat) (kpt : z0.Keeps s) :
    z0.Keeps (State.cmdDrop s no) := by
  unfold State.cmdDrop
  repeat' (first | (with_reducible assumption) | (with_reducible apply State.freeBufs_keeps)
                 | (with_reducible apply State.modHif_keeps) | (with_reducible apply State.hifShow_keeps)
                 | (intro _ _ _) | (intro _ _) | (simp only [keeps_mk])
                 | (with_reducible refine keeps_snd (by assumption) ?_)
                 | (with_reducible refine keeps_snd2 (by assumption) ?_) | split)

theorem State.raiseEv_keeps {z0 : State} (s : State) (n : Nat) (e : AsyncEv) (kpt : z0.Keeps s) :
    z0.Keeps (State.raiseEv s n e) := by
  unfold State.raiseEv
  try dsimp only
  repeat' (first | (with_reducible assumption) | (with_reducible apply State.finish_keeps)
                 | (with_reducible apply State.modCtl_keeps) | (intro _ _ _) | (intro _ _) | (simp only [keeps_mk])
                 | (with_reducible refine keeps_snd (by assumption) ?_)
                 | (with_reducible refine keeps_snd2 (by assumption) ?_) | split)

theorem State.raiseBoth_keeps {z0 : State} (s : State) (e : AsyncEv) (kpt : z0.Keeps s) :
    z0.Keeps (State.raiseBoth s e) := by
  unfold State.raiseBoth
  repeat' (first | (with_reducible assumption) | (with_reducible apply State.raiseEv_keeps))

theorem State.smartEvents_keeps {z0 : State} (old : State) (s : State) (kpt1 : z0.Keeps s) :
    z0.Keeps (State.smartEvents old s) := by
  unfold State.smartEvents
  try dsimp only
  repeat' (first | (with_reducible assumption) | (with_reducible apply State.raiseEv_keeps)
                 | (with_reducible refine keeps_foldl ?_ ?_) | (intro _ _ _) | (intro _ _) | (simp only [keeps_mk])
                 | split)

theorem State.markUnread_keeps {z0 : State} (s : State) (ns : Nat) (slba : Nat) (nlb : Nat) (kept : Bool)
    (kpt : z0.Keeps s) :
    z0.Keeps (State.markUnread s ns slba nlb kept) := by
  unfold State.markUnread
  repeat' (first | (with_reducible assumption) | (with_reducible apply State.modHif_keeps))

theorem State.clearUnread_keeps {z0 : State} (s : State) (ns : Nat) (slba : Nat) (nlb : Nat) (kpt : z0.Keeps s) :
    z0.Keeps (State.clearUnread s ns slba nlb) := by
  unfold State.clearUnread
  repeat' (first | (with_reducible assumption) | (with_reducible apply State.modHif_keeps))

theorem State.deferError_keeps {z0 : State} (s : State) (d : DefErr) (kpt : z0.Keeps s) :
    z0.Keeps (State.deferError s d) := by
  unfold State.deferError
  try dsimp only
  repeat' (first | (with_reducible assumption) | (with_reducible apply State.modHif_keeps)
                 | (with_reducible apply State.modNs_keeps) | (with_reducible apply State.markUnread_keeps)
                 | (with_reducible apply State.raiseBoth_keeps) | (with_reducible apply State.ldgRaise_keeps)
                 | (intro _ _ _) | (intro _ _) | (simp only [keeps_mk]) | split)

theorem State.uncache_keeps {z0 : State} (s : State) (ns : Nat) (sec : Nat) (kpt : z0.Keeps s) :
    z0.Keeps (State.uncache s ns sec) := by
  unfold State.uncache
  try dsimp only
  repeat' (first | (with_reducible assumption) | (with_reducible apply State.freeBufs_keeps)
                 | (with_reducible apply State.modHif_keeps) | (intro _ _ _) | (intro _ _) | (simp only [keeps_mk])
                 | (with_reducible refine keeps_snd (by assumption) ?_)
                 | (with_reducible refine keeps_snd2 (by assumption) ?_) | split)

theorem State.loseSector_keeps {z0 : State} (s : State) (x : CacheSec) (cause : Nat) (kpt : z0.Keeps s) :
    z0.Keeps (State.loseSector s x cause) := by
  unfold State.loseSector
  repeat' (first | (with_reducible assumption) | (with_reducible apply State.uncache_keeps)
                 | (with_reducible apply State.deferError_keeps) | (with_reducible refine keeps_foldl ?_ ?_)
                 | (intro _ _ _) | (intro _ _) | (simp only [keeps_mk])
                 | (with_reducible refine keeps_snd (by assumption) ?_)
                 | (with_reducible refine keeps_snd2 (by assumption) ?_) | split)

theorem State.loseCache_keeps {z0 : State} (s : State) (t : Nat) (cause : Nat) (kpt : z0.Keeps s) :
    z0.Keeps (State.loseCache s t cause) := by
  unfold State.loseCache
  repeat' (first | (with_reducible assumption) | (with_reducible apply State.loseSector_keeps)
                 | (with_reducible refine keeps_foldl ?_ ?_) | (intro _ _ _))

theorem State.setMedium_keeps {z0 : State} (s : State) (ns : Nat) (sec : Nat) (bs : List Byte) (kpt : z0.Keeps s) :
    z0.Keeps (State.setMedium s ns sec bs) := by
  unfold State.setMedium
  repeat' (first | (with_reducible assumption) | (with_reducible apply State.modHif_keeps))

/-! ### Container -/

theorem State.appendIn_keeps {z0 : State} (s : State) (b : Nat) (k : Nat) (kpt : z0.Keeps s) :
    z0.Keeps (State.appendIn s b k).2 := by
  unfold State.appendIn
  try dsimp only
  repeat' (first | (with_reducible assumption) | (with_reducible apply State.setBand_keeps))

theorem State.placeIn_keeps {z0 : State} (s : State) (k : Nat) (y1 : List Nat) (kpt : z0.Keeps s) :
    z0.Keeps (State.placeIn s k y1).2 := by
  fun_induction State.placeIn s k y1
  all_goals (try dsimp only)
  all_goals repeat' (first | (with_reducible assumption) | (with_reducible apply State.appendIn_keeps)
                           | (with_reducible apply State.setBand_keeps) | (with_reducible apply_assumption))

theorem State.place_keeps {z0 : State} (s : State) (k : Nat) (kpt : z0.Keeps s) :
    z0.Keeps (State.place s k).2 := by
  unfold State.place
  repeat' (first | (with_reducible assumption) | (with_reducible apply State.placeIn_keeps))

theorem State.dropRun_keeps {z0 : State} (s : State) (ns : Nat) (stream : Nat) (kpt : z0.Keeps s) :
    z0.Keeps (State.dropRun s ns stream) := by
  unfold State.dropRun
  repeat' (first | (with_reducible assumption) | (intro _ _ _) | (intro _ _) | (simp only [keeps_mk]))

theorem State.ctxGive_keeps {z0 : State} (s : State) (k : Nat) (ns : Nat) (stream : Nat) (kpt : z0.Keeps s) :
    z0.Keeps (State.ctxGive s k ns stream) := by
  unfold State.ctxGive
  try dsimp only
  repeat' (first | (with_reducible assumption) | (with_reducible apply State.memWrite_keeps) | (intro _ _ _)
                 | (intro _ _) | (simp only [keeps_mk]) | split)

theorem State.destAdd_keeps {z0 : State} (s : State) (j : DestJob) (new : Nat) (bufs : List Nat) (kpt : z0.Keeps s) :
    z0.Keeps (State.destAdd s j new bufs) := by
  unfold State.destAdd
  repeat' (first | (with_reducible assumption) | (simp only [keeps_mk]))

theorem State.destRaw_keeps {z0 : State} (s : State) (j : DestJob) (outs : List Nat) (kpt : z0.Keeps s) :
    z0.Keeps (State.destRaw s j outs) := by
  unfold State.destRaw
  repeat' (first | (with_reducible assumption) | (with_reducible apply State.freeBufs_keeps)
                 | (with_reducible apply State.dropRun_keeps) | (with_reducible apply State.place_keeps)
                 | (with_reducible apply State.destAdd_keeps) | (with_reducible refine keeps_snd (by assumption) ?_)
                 | (with_reducible refine keeps_snd2 (by assumption) ?_) | split)

theorem State.destPlace_keeps {z0 : State} (s : State) (j : DestJob) (own : Bool) (k : Nat) (kpt : z0.Keeps s) :
    z0.Keeps (State.destPlace s j own k).2 := by
  unfold State.destPlace
  try dsimp only
  repeat' (first | (with_reducible assumption) | (with_reducible apply State.appendIn_keeps)
                 | (with_reducible apply State.dropRun_keeps) | (with_reducible apply State.place_keeps)
                 | (intro _ _ _) | (intro _ _) | (with_reducible refine keeps_snd (by assumption) ?_)
                 | (with_reducible refine keeps_snd2 (by assumption) ?_) | split)

theorem State.destPacked_keeps {z0 : State} (s : State) (j : DestJob) (level : Nat) (clen : Nat) (ucrc : Nat)
    (ctx : Nat) (save : Bool) (outs : List Nat) (kpt : z0.Keeps s) :
    z0.Keeps (State.destPacked s j level clen ucrc ctx save outs) := by
  unfold State.destPacked
  try dsimp only
  repeat' (first | (with_reducible assumption) | (with_reducible apply State.destPlace_keeps)
                 | (with_reducible apply State.depWrite_keeps) | (with_reducible apply State.dropRun_keeps)
                 | (with_reducible apply State.destAdd_keeps) | (with_reducible apply State.take_keeps)
                 | (simp only [keeps_mk]) | (with_reducible refine keeps_snd (by assumption) ?_)
                 | (with_reducible refine keeps_snd2 (by assumption) ?_) | split)

theorem State.destClose_keeps {z0 : State} (s : State) (index : Nat) (new : Nat) (kpt : z0.Keeps s) :
    z0.Keeps (State.destClose s index new) := by
  unfold State.destClose
  try dsimp only
  repeat' (first | (with_reducible assumption) | (with_reducible apply State.freeBufs_keeps) | (intro _ _ _)
                 | (intro _ _) | (simp only [keeps_mk]))

/-! ### Cmp -/

theorem State.setLane_keeps {z0 : State} (s : State) (n : Nat) (l : CompLane) (kpt : z0.Keeps s) :
    z0.Keeps (State.setLane s n l) := by
  unfold State.setLane
  repeat' (first | (with_reducible assumption) | (with_reducible apply State.set_keeps) | (simp only [keeps_mk]))

theorem State.setDlane_keeps {z0 : State} (s : State) (n : Nat) (l : DecompLane) (kpt : z0.Keeps s) :
    z0.Keeps (State.setDlane s n l) := by
  unfold State.setDlane
  repeat' (first | (with_reducible assumption) | (with_reducible apply State.set_keeps) | (simp only [keeps_mk]))

theorem State.handleList_keeps {z0 : State} (s : State) (a : Nat) (k : Nat) (kpt : z0.Keeps s) :
    z0.Keeps (State.handleList s a k).2 := by
  unfold State.handleList
  repeat' (first | (with_reducible assumption) | (with_reducible apply State.memRead_keeps)
                 | (with_reducible apply State.take_keeps) | (intro _ _ _) | (intro _ _)
                 | (with_reducible refine keeps_snd (by assumption) ?_)
                 | (with_reducible refine keeps_snd2 (by assumption) ?_) | split)

theorem State.readHandles_keeps {z0 : State} (s : State) (tag : Nat) (len : Nat) (y1 : List (Nat × Nat))
    (kpt : z0.Keeps s) :
    z0.Keeps (State.readHandles s tag len y1).2 := by
  fun_induction State.readHandles s tag len y1
  all_goals (try dsimp only)
  all_goals repeat' (first | (with_reducible assumption) | (with_reducible apply State.depRead_keeps)
                           | (with_reducible apply_assumption) | (with_reducible refine keeps_snd (by assumption) ?_))

theorem State.writeHandles_keeps {z0 : State} (s : State) (tag : Nat) (ofs : Nat) (y1 : List Nat) (y2 : List Byte)
    (kpt : z0.Keeps s) :
    z0.Keeps (State.writeHandles s tag ofs y1 y2).2 := by
  induction y1 generalizing s ofs y2 with
  | nil => exact kpt
  | cons h hs ih =>
    have h1 := State.depWrite_keeps (z0 := z0) s tag h ofs (y2.take (4096 - ofs)) kpt
    unfold State.writeHandles
    generalize s.depWrite tag h ofs (y2.take (4096 - ofs)) = p at h1 ⊢
    obtain ⟨r, s1⟩ := p
    split
    · exact kpt
    · cases r
      · exact h1
      · exact ih _ _ _ h1

theorem State.destEnd_keeps {z0 : State} (s : State) (n : Nat) (code : Nat) (kpt : z0.Keeps s) :
    z0.Keeps (State.destEnd s n code) := by
  unfold State.destEnd
  try dsimp only
  repeat' (first | (with_reducible assumption) | (with_reducible apply State.destPacked_keeps)
                 | (with_reducible apply State.destRaw_keeps) | (with_reducible refine keeps_snd (by assumption) ?_)
                 | (with_reducible refine keeps_snd2 (by assumption) ?_) | split)

theorem State.compDone_keeps {z0 : State} (s0 : State) (n : Nat) (code : Nat) (kpt : z0.Keeps s0) :
    z0.Keeps (State.compDone s0 n code) := by
  unfold State.compDone
  try dsimp only
  repeat' (first | (with_reducible assumption) | (with_reducible apply State.destEnd_keeps)
                 | (with_reducible apply State.set_keeps) | (with_reducible apply State.clrBits_keeps)
                 | (with_reducible apply State.setLane_keeps))

theorem State.destBegin_keeps {z0 : State} (s : State) (n : Nat) (hs : List Nat) (kpt : z0.Keeps s) :
    z0.Keeps (State.destBegin s n hs) := by
  unfold State.destBegin
  try dsimp only
  repeat' (first | (with_reducible assumption) | (with_reducible apply State.set_keeps)
                 | (with_reducible apply State.setLane_keeps) | (with_reducible apply State.ctxGive_keeps)
                 | (simp only [keeps_mk]) | (with_reducible refine keeps_snd (by assumption) ?_)
                 | (with_reducible refine keeps_snd2 (by assumption) ?_) | split)

theorem State.compGo_keeps {z0 : State} (s : State) (n : Nat) (kpt : z0.Keeps s) :
    z0.Keeps (State.compGo s n) := by
  revert s n kpt
  refine (?_ : Holds (fun F => ∀ (s : State) (n : Nat) (_ : z0.Keeps s), z0.Keeps (F s n)) @State.compGo).h
  delta State.compGo
  have k_handleList := @State.handleList_keeps z0
  generalize @State.handleList = f_handleList at k_handleList ⊢
  have k_destBegin := @State.destBegin_keeps z0
  generalize @State.destBegin = f_destBegin at k_destBegin ⊢
  have k_readHandles := @State.readHandles_keeps z0
  generalize @State.readHandles = f_readHandles at k_readHandles ⊢
  have k_memRead := @State.memRead_keeps z0
  generalize @State.memRead = f_memRead at k_memRead ⊢
  have k_compDone := @State.compDone_keeps z0
  generalize @State.compDone = f_compDone at k_compDone ⊢
  have k_setLane := @State.setLane_keeps z0
  generalize @State.setLane = f_setLane at k_setLane ⊢
  have k_set := @State.set_keeps z0
  generalize @State.set = f_set at k_set ⊢
  have k_orBits := @State.orBits_keeps z0
  generalize @State.orBits = f_orBits at k_orBits ⊢
  refine ⟨fun s n kpt => ?_⟩
  extract_lets +onlyGivenNames st
  clear_value st
  by_cases c1 : (st ≠ 0 ∧ st ≠ 5) ∨ (!bitOf (s.get R.CMP_CTRL_C_EN) n) = true ∨ s.inReset (.comp n) = true
  · rw [if_pos c1]
    exact kpt
  · rw [if_neg c1]
    extract_lets +onlyGivenNames tag cfg0 inl outl s0
    have k0 : z0.Keeps s0 := by
      unfold s0
      exact k_setLane _ _ _ (k_orBits _ _ _ (k_set _ _ _ (k_set _ _ _ (k_set _ _ _ kpt))))
    clear_value s0
    have h1 := k_handleList s0 inl 256 k0
    generalize f_handleList s0 inl 256 = p at h1 ⊢
    clear_value inl outl cfg0 tag
    obtain ⟨o, sl⟩ := p
    cases o with
    | none => exact k_compDone _ _ _ h1
    | some hs =>
      dsimp -zeta only
      extract_lets +onlyGivenNames sj
      have kj : z0.Keeps sj := k_destBegin _ _ _ h1
      clear_value sj
      extract_lets +onlyGivenNames cfg s1
      have k1 : z0.Keeps s1 := k_set _ _ _ kj
      clear_value cfg s1
      have h2 := k_readHandles s1 tag 4096 (hs.map (fun h => (h, 0))) k1
      generalize f_readHandles s1 tag 4096 (hs.map (fun h => (h, 0))) = q at h2 ⊢
      obtain ⟨o2, s2⟩ := q
      cases o2 with
      | none => exact k_compDone _ _ _ h2
      | some stripe =>
        dsimp only
        by_cases c2 : bitOf cfg 4 = true
        · rw [if_pos c2]
          have h3 := k_memRead s2 (s2.ctxAddr (bitsOf cfg 8 6)) 32776 h2
          generalize f_memRead s2 (s2.ctxAddr (bitsOf cfg 8 6)) 32776 = q at h3 ⊢
          obtain ⟨o3, s3⟩ := q
          cases o3 with
          | none => exact k_compDone _ _ _ h3
          | some c =>
            dsimp only
            split
            · exact k_compDone _ _ _ h3
            · exact k_setLane _ _ _ h3
        · rw [if_neg c2]
          exact k_setLane _ _ _ h2

theorem State.compWrite_keeps {z0 : State} (s : State) (n : Nat) (bs : List Byte) (next : State → State)
    (kpt : z0.Keeps s) (kz0 : ∀ t : State, z0.Keeps t → z0.Keeps (next t)) :
    z0.Keeps (State.compWrite s n bs next) := by
  unfold State.compWrite
  try dsimp only
  repeat' (first | (with_reducible assumption) | (with_reducible apply State.handleList_keeps)
                 | (with_reducible apply State.compDone_keeps) | (with_reducible apply State.writeHandles_keeps)
                 | (with_reducible apply State.set_keeps) | (apply kz0)
                 | (with_reducible refine keeps_snd (by assumption) ?_)
                 | (with_reducible refine keeps_snd2 (by assumption) ?_) | split)

theorem State.compOutFull_keeps {z0 : State} (s : State) (n : Nat) (kpt : z0.Keeps s) :
    z0.Keeps (State.compOutFull s n) := by
  unfold State.compOutFull
  try dsimp only
  repeat' (first | (with_reducible assumption) | (with_reducible apply State.compWrite_keeps)
                 | (with_reducible apply State.take_keeps) | (with_reducible apply State.set_keeps)
                 | (with_reducible apply State.setLane_keeps) | (intro _ _ _) | (intro _ _) | (simp only [keeps_mk])
                 | split)

theorem State.compResume_keeps {z0 : State} (s : State) (n : Nat) (kpt : z0.Keeps s) :
    z0.Keeps (State.compResume s n) := by
  unfold State.compResume
  repeat' (first | (with_reducible assumption) | (with_reducible apply State.set_keeps)
                 | (with_reducible apply State.setLane_keeps) | (simp only) | split)

theorem State.compAbort_keeps {z0 : State} (s : State) (n : Nat) (kpt : z0.Keeps s) :
    z0.Keeps (State.compAbort s n) := by
  unfold State.compAbort
  try dsimp only
  repeat' (first | (with_reducible assumption) | (with_reducible apply State.compDone_keeps) | split)

theorem State.ctxSave_keeps {z0 : State} (s : State) (k : Nat) (stripe : List Byte) (kpt : z0.Keeps s) :
    z0.Keeps (State.ctxSave s k stripe).2 := by
  unfold State.ctxSave
  try dsimp only
  repeat' (first | (with_reducible assumption) | (with_reducible apply State.memWrite_keeps)
                 | (with_reducible refine keeps_snd (by assumption) ?_)
                 | (with_reducible refine keeps_snd2 (by assumption) ?_) | split)

theorem State.compEnd_keeps {z0 : State} (s : State) (n : Nat) (kpt : z0.Keeps s) :
    z0.Keeps (State.compEnd s n) := by
  unfold State.compEnd
  try dsimp only
  repeat' (first | (with_reducible assumption) | (with_reducible apply State.compWrite_keeps)
                 | (with_reducible apply State.take_keeps) | (with_reducible apply State.draw_keeps)
                 | (with_reducible apply State.set_keeps) | (with_reducible apply State.compDone_keeps)
                 | (with_reducible apply State.ctxSave_keeps) | (intro _ _ _) | (intro _ _)
                 | (with_reducible refine keeps_snd (by assumption) ?_)
                 | (with_reducible refine keeps_snd2 (by assumption) ?_) | split)

theorem State.compCmd_keeps {z0 : State} (s : State) (n : Nat) (v : Nat) (kpt : z0.Keeps s) :
    z0.Keeps (State.compCmd s n v) := by
  unfold State.compCmd
  repeat' (first | (with_reducible assumption) | (with_reducible apply State.compGo_keeps)
                 | (with_reducible apply State.compResume_keeps) | (with_reducible apply State.compAbort_keeps)
                 | (with_reducible refine keeps_snd (by assumption) ?_)
                 | (with_reducible refine keeps_snd2 (by assumption) ?_) | split)

theorem State.decompDone_keeps {z0 : State} (s : State) (n : Nat) (code : Nat) (kpt : z0.Keeps s) :
    z0.Keeps (State.decompDone s n code) := by
  unfold State.decompDone
  try dsimp only
  repeat' (first | (with_reducible assumption) | (with_reducible apply State.set_keeps)
                 | (with_reducible apply State.clrBits_keeps) | (with_reducible apply State.setDlane_keeps)
                 | (with_reducible apply State.fault_keeps) | (simp only [keeps_mk]) | split)

theorem State.decompGo_keeps {z0 : State} (s : State) (n : Nat) (kpt : z0.Keeps s) :
    z0.Keeps (State.decompGo s n) := by
  unfold State.decompGo
  try dsimp only
  repeat' (first | (with_reducible assumption) | (with_reducible apply State.set_keeps)
                 | (with_reducible apply State.orBits_keeps) | (with_reducible apply State.setDlane_keeps)
                 | (simp only [keeps_mk]) | split)

/-- A job that reads a list and then what the list names, each read answering nothing or a result. -/
theorem keeps_readTwice {z0 : State} (f1 : State → Nat → Nat → Option (List Nat) × State)
    (k1 : ∀ (s : State) (a k : Nat), z0.Keeps s → z0.Keeps (f1 s a k).2)
    (f2 : State → Nat → Nat → List (Nat × Nat) → Option (List Byte) × State)
    (k2 : ∀ (s : State) (tag len : Nat) (l : List (Nat × Nat)), z0.Keeps s → z0.Keeps (f2 s tag len l).2)
    (q1 q2 q3 q4 : Nat) (f3 : List Byte → Nat) (q6 : Nat) (s : State) (kpt : z0.Keeps s) (i c r q7 : Nat) : z0.Keeps
    (match f1 s i r with
      | (none, s1) => (none, s1)
      | (some hs, s1) =>
        match f2 s1 q4 q2 (List.map (fun h => (h, 0)) (List.take ((c + q3 + q1) / q2) hs)) with
        | (none, s2) => (none, s2)
        | (some bs, s2) => (some (f3 (List.take q7 (List.drop q6 bs)), List.take c (List.drop q3 bs)), s2)).2 := by
  have h1 := k1 s i r kpt
  generalize f1 s i r = p at h1 ⊢
  obtain ⟨_ | hs, s1⟩ := p
  · exact h1
  · have h2 := k2 s1 q4 q2 (List.map (fun h => (h, 0)) (List.take ((c + q3 + q1) / q2) hs)) h1
    dsimp only
    generalize f2 s1 q4 q2 _ = q at h2 ⊢
    obtain ⟨_ | bs, s2⟩ := q
    · exact h2
    · exact h2

theorem State.decompInput_keeps {z0 : State} (s : State) (n : Nat) (kpt : z0.Keeps s) :
    z0.Keeps (State.decompInput s n).2 := by
  revert s n
  refine (?_ : Holds (fun F => ∀ (s : State) (n : Nat) (_ : z0.Keeps s), z0.Keeps (F s n).2) @State.decompInput).h
  delta State.decompInput
  have k1 := @State.handleList_keeps z0
  generalize @State.handleList = f1 at k1 ⊢
  have k2 := @State.readHandles_keeps z0
  generalize @State.readHandles = f2 at k2 ⊢
  generalize 4095 = q1
  generalize 4096 = q2
  generalize 64 = q3
  generalize 40 = q4
  generalize @ofLeBytes = f3
  generalize 2 ^ 32 = q5
  generalize 16 = q6
  refine ⟨fun s n kpt => ?_⟩
  dsimp only
  exact keeps_readTwice f1 k1 f2 k2 q1 q2 q3 (q4 + n) f3 q6 s kpt _ _ _ _

theorem State.decompHist_keeps {z0 : State} (s : State) (n : Nat) (kpt : z0.Keeps s) :
    z0.Keeps (State.decompHist s n).2 := by
  unfold State.decompHist
  try dsimp only
  repeat' (first | (with_reducible assumption) | (with_reducible apply State.depRead_keeps) | split)

theorem State.decompEnd_keeps {z0 : State} (s : State) (n : Nat) (kpt : z0.Keeps s) :
    z0.Keeps (State.decompEnd s n) := by
  unfold State.decompEnd
  try dsimp only
  repeat' (first | (with_reducible assumption) | (with_reducible apply State.decompInput_keeps)
                 | (with_reducible apply State.decompDone_keeps) | (with_reducible apply State.decompHist_keeps)
                 | (with_reducible apply State.depWrite_keeps) | (with_reducible apply State.set_keeps)
                 | (with_reducible refine keeps_snd (by assumption) ?_)
                 | (with_reducible refine keeps_snd2 (by assumption) ?_) | split)

theorem State.decompCmd_keeps {z0 : State} (s : State) (n : Nat) (v : Nat) (kpt : z0.Keeps s) :
    z0.Keeps (State.decompCmd s n v) := by
  unfold State.decompCmd
  repeat' (first | (with_reducible assumption) | (with_reducible apply State.decompGo_keeps)
                 | (with_reducible apply State.decompDone_keeps)
                 | (with_reducible refine keeps_snd (by assumption) ?_)
                 | (with_reducible refine keeps_snd2 (by assumption) ?_) | split)

theorem State.laneHang_keeps {z0 : State} (s : State) (comp : Bool) (n : Nat) (kpt : z0.Keeps s) :
    z0.Keeps (State.laneHang s comp n) := by
  unfold State.laneHang
  repeat' (first | (with_reducible assumption) | (with_reducible apply State.fault_keeps) | (simp only [keeps_mk]) | split)

theorem State.laneShare_keeps {z0 : State} (s : State) (old : Nat) (new : Nat) (hs : List Nat) (kpt : z0.Keeps s) :
    z0.Keeps (State.laneShare s old new hs) := by
  unfold State.laneShare
  repeat' (first | (with_reducible assumption) | (with_reducible apply State.depTake_keeps)
                 | (with_reducible refine keeps_foldl ?_ ?_) | (intro _ _ _))

theorem State.regsCopy_keeps {z0 : State} (s : State) (a : Nat) (b : Nat) (k : Nat) (kpt : z0.Keeps s) :
    z0.Keeps (State.regsCopy s a b k) := by
  unfold State.regsCopy
  repeat' (first | (with_reducible assumption) | (with_reducible apply State.wr_keeps)
                 | (with_reducible refine keeps_foldl ?_ ?_) | (intro _ _ _))

theorem State.compAgain_keeps {z0 : State} (s : State) (n : Nat) (kpt : z0.Keeps s) :
    z0.Keeps (State.compAgain s n) := by
  unfold State.compAgain
  try dsimp only
  repeat' (first | (with_reducible assumption) | (with_reducible apply State.handleList_keeps)
                 | (with_reducible apply State.laneShare_keeps) | (with_reducible apply State.regsCopy_keeps)
                 | (with_reducible apply State.compGo_keeps) | (with_reducible refine keeps_snd (by assumption) ?_)
                 | (with_reducible refine keeps_snd2 (by assumption) ?_) | split)

theorem State.decompAgain_keeps {z0 : State} (s : State) (n : Nat) (kpt : z0.Keeps s) :
    z0.Keeps (State.decompAgain s n) := by
  unfold State.decompAgain
  try dsimp only
  repeat' (first | (with_reducible assumption) | (with_reducible apply State.handleList_keeps)
                 | (with_reducible apply State.laneShare_keeps) | (with_reducible apply State.regsCopy_keeps)
                 | (with_reducible apply State.decompGo_keeps) | (with_reducible refine keeps_snd (by assumption) ?_)
                 | (with_reducible refine keeps_snd2 (by assumption) ?_) | split)

theorem State.compContain_keeps {z0 : State} (s : State) (n : Nat) (kpt : z0.Keeps s) :
    z0.Keeps (State.compContain s n) := by
  unfold State.compContain
  try dsimp only
  repeat' (first | (with_reducible assumption) | (with_reducible apply State.compDone_keeps)
                 | (with_reducible apply State.set_keeps) | split)

theorem State.decompContain_keeps {z0 : State} (s : State) (n : Nat) (kpt : z0.Keeps s) :
    z0.Keeps (State.decompContain s n) := by
  unfold State.decompContain
  repeat' (first | (with_reducible assumption) | (with_reducible apply State.decompDone_keeps)
                 | (with_reducible apply State.set_keeps) | split)

/-! ### Modes -/

theorem State.modSys_keeps {z0 : State} (s : State) (f : SysSt → SysSt) (kpt : z0.Keeps s) :
    z0.Keeps (State.modSys s f) := by
  unfold State.modSys
  repeat' (first | (with_reducible assumption) | (simp only [keeps_mk]))

theorem State.capShow_keeps {z0 : State} (s : State) (kpt : z0.Keeps s) :
    z0.Keeps (State.capShow s) := by
  unfold State.capShow
  try dsimp only
  repeat' (first | (with_reducible assumption) | (with_reducible apply State.set_keeps))

theorem State.mediaOff_keeps {z0 : State} (s : State) (kpt : z0.Keeps s) :
    z0.Keeps (State.mediaOff s) := by
  unfold State.mediaOff
  try dsimp only
  repeat' (first | (with_reducible assumption) | (with_reducible apply State.readEnable_keeps)
                 | (with_reducible apply State.writeEnable_keeps) | (with_reducible apply State.tthOff_keeps)
                 | (with_reducible apply State.set_keeps) | (with_reducible apply State.clrBits_keeps)
                 | (with_reducible refine keeps_foldl ?_ ?_) | (intro _ _ _))

theorem State.archShow_keeps {z0 : State} (s : State) (kpt : z0.Keeps s) :
    z0.Keeps (State.archShow s) := by
  unfold State.archShow
  repeat' (first | (with_reducible assumption) | (with_reducible apply State.set_keeps)
                 | (with_reducible refine keeps_foldl ?_ ?_) | (intro _ _ _))

theorem State.modeEnter_keeps {z0 : State} (s : State) (m : Nat) (kpt : z0.Keeps s) :
    z0.Keeps (State.modeEnter s m) := by
  unfold State.modeEnter
  try dsimp only
  repeat' (first | (with_reducible assumption) | (with_reducible apply State.set_keeps)
                 | (with_reducible apply State.modSys_keeps) | (with_reducible apply State.lifeCount_keeps)
                 | (with_reducible apply State.ldgRaise_keeps) | (with_reducible apply State.rtCheckpoint_keeps)
                 | (with_reducible apply State.mediaOff_keeps) | (with_reducible apply State.smartEvents_keeps)
                 | (with_reducible apply State.raiseBoth_keeps) | (with_reducible apply State.archShow_keeps)
                 | (with_reducible apply State.capShow_keeps) | (intro _ _ _) | (intro _ _) | (simp only [keeps_mk])
                 | split)

theorem State.loadNext_keeps {z0 : State} (s : State) (rest : List Nat) (kpt : z0.Keeps s) :
    z0.Keeps (State.loadNext s rest) := by
  unfold State.loadNext
  repeat' (first | (with_reducible assumption) | (with_reducible apply State.modSys_keeps)
                 | (with_reducible apply State.actLoad_keeps) | (intro _ _ _) | (intro _ _) | (simp only [keeps_mk])
                 | (with_reducible refine keeps_snd (by assumption) ?_)
                 | (with_reducible refine keeps_snd2 (by assumption) ?_) | split)

theorem State.unloadNext_keeps {z0 : State} (s : State) (rest : List Nat) (kpt : z0.Keeps s) :
    z0.Keeps (State.unloadNext s rest) := by
  unfold State.unloadNext
  repeat' (first | (with_reducible assumption) | (with_reducible apply State.modSys_keeps)
                 | (with_reducible apply State.actUnload_keeps) | (with_reducible apply State.set_keeps)
                 | (intro _ _ _) | (intro _ _) | (simp only [keeps_mk])
                 | (with_reducible refine keeps_snd (by assumption) ?_)
                 | (with_reducible refine keeps_snd2 (by assumption) ?_) | split)

theorem State.stepStart_keeps {z0 : State} (s : State) (p : ModeStep) (kpt : z0.Keeps s) :
    z0.Keeps (State.stepStart s p) := by
  unfold State.stepStart
  repeat' (first | (with_reducible assumption) | (with_reducible apply State.loadNext_keeps)
                 | (with_reducible apply State.unloadNext_keeps) | (with_reducible apply State.modSys_keeps)
                 | (with_reducible apply State.setFlag_keeps) | (with_reducible apply State.spnStart_keeps)
                 | (with_reducible apply State.spnBrake_keeps) | (intro _ _ _) | (intro _ _) | (simp only [keeps_mk])
                 | (with_reducible refine keeps_snd (by assumption) ?_)
                 | (with_reducible refine keeps_snd2 (by assumption) ?_) | split)

theorem State.modeAdvance_keeps {z0 : State} (s : State) (y1 : Nat) (kpt : z0.Keeps s) :
    z0.Keeps (State.modeAdvance s y1) := by
  fun_induction State.modeAdvance s y1
  all_goals repeat' (first | (with_reducible assumption) | (with_reducible apply State.setFlag_keeps)
                           | (with_reducible apply State.modSys_keeps) | (with_reducible apply State.stepStart_keeps)
                           | (with_reducible apply State.modeEnter_keeps) | (with_reducible apply_assumption))

theorem State.rejudge_keeps {z0 : State} (s : State) (t : Nat) (stamp : Nat) (kpt : z0.Keeps s) :
    z0.Keeps (State.rejudge s t stamp) := by
  unfold State.rejudge
  repeat' (first | (with_reducible assumption) | (intro _ _ _) | (intro _ _) | (simp only [keeps_mk]))

theorem State.modeKeep_keeps {z0 : State} (s : State) (reason : Nat) (prec : Nat) (stamp : Nat) (kpt : z0.Keeps s) :
    z0.Keeps (State.modeKeep s reason prec stamp) := by
  unfold State.modeKeep
  repeat' (first | (with_reducible assumption) | (with_reducible apply State.modSys_keeps))

theorem State.modeGo_keeps {z0 : State} (s : State) (t : Nat) (reason : Nat) (prec : Nat) (stamp : Nat) (kpt : z0.Keeps s) :
    z0.Keeps (State.modeGo s t reason prec stamp) := by
  unfold State.modeGo
  try dsimp only
  repeat' (first | (with_reducible assumption) | (with_reducible apply State.modeKeep_keeps)
                 | (with_reducible apply State.rejudge_keeps) | (with_reducible apply State.set_keeps)
                 | (with_reducible apply State.capShow_keeps) | (with_reducible apply State.setFlag_keeps)
                 | (with_reducible apply State.modSys_keeps) | (with_reducible apply State.modeAdvance_keeps)
                 | (intro _ _ _) | (intro _ _) | (simp only [keeps_mk]) | split)

theorem State.retarget_keeps {z0 : State} (s : State) (reason : Nat) (prec : Nat) (stamp : Nat) (kpt : z0.Keeps s) :
    z0.Keeps (State.retarget s reason prec stamp) := by
  unfold State.retarget
  try dsimp only
  repeat' (first | (with_reducible assumption) | (with_reducible apply State.modSys_keeps)
                 | (with_reducible apply State.modeGo_keeps))

theorem State.setPs_keeps {z0 : State} (s : State) (ps : Nat) (reason : Nat) (stamp : Nat) (kpt : z0.Keeps s) :
    z0.Keeps (State.setPs s ps reason stamp) := by
  unfold State.setPs
  repeat' (first | (with_reducible assumption) | (with_reducible apply State.modSys_keeps)
                 | (with_reducible apply State.retarget_keeps))

theorem State.modeRequest_keeps {z0 : State} (s : State) (m : Nat) (stamp : Nat) (kpt : z0.Keeps s) :
    z0.Keeps (State.modeRequest s m stamp) := by
  unfold State.modeRequest
  repeat' (first | (with_reducible assumption) | (with_reducible apply State.modSys_keeps)
                 | (with_reducible apply State.retarget_keeps))

theorem State.spinNotice_keeps {z0 : State} (s : State) (kpt : z0.Keeps s) :
    z0.Keeps (State.spinNotice s) := by
  unfold State.spinNotice
  repeat' (first | (with_reducible assumption) | (with_reducible apply State.modSys_keeps)
                 | (with_reducible apply State.raiseBoth_keeps))

theorem State.ioArrive_keeps {z0 : State} (s : State) (kpt : z0.Keeps s) :
    z0.Keeps (State.ioArrive s).2 := by
  unfold State.ioArrive
  try dsimp only
  repeat' (first | (with_reducible assumption) | (with_reducible apply State.spinNotice_keeps)
                 | (with_reducible apply State.modSys_keeps) | (with_reducible apply State.modeGo_keeps)
                 | (intro _ _ _) | (intro _ _) | (simp only) | split)

theorem State.modeLater_keeps {z0 : State} (s : State) (kpt : z0.Keeps s) :
    z0.Keeps (State.modeLater s) := by
  unfold State.modeLater
  try dsimp only
  repeat' (first | (with_reducible assumption) | (with_reducible apply State.modSys_keeps)
                 | (with_reducible apply State.modeGo_keeps) | (with_reducible apply State.retarget_keeps)
                 | (intro _ _ _) | (intro _ _) | (simp only [keeps_mk])
                 | (with_reducible refine keeps_snd (by assumption) ?_)
                 | (with_reducible refine keeps_snd2 (by assumption) ?_) | split)

theorem State.heldWake_keeps {z0 : State} (s : State) (kpt : z0.Keeps s) :
    z0.Keeps (State.heldWake s) := by
  unfold State.heldWake
  try dsimp only
  repeat' (first | (with_reducible assumption) | (with_reducible apply State.ioArrive_keeps)
                 | (with_reducible apply State.freeBufs_keeps) | (with_reducible apply State.finishSt_keeps)
                 | (with_reducible refine keeps_foldl ?_ ?_) | (intro _ _ _) | (intro _ _)
                 | (with_reducible refine keeps_snd (by assumption) ?_)
                 | (with_reducible refine keeps_snd2 (by assumption) ?_) | split)

theorem State.modeRun_keeps {z0 : State} (s : State) (kpt : z0.Keeps s) :
    z0.Keeps (State.modeRun s) := by
  unfold State.modeRun
  repeat' (first | (with_reducible assumption) | (with_reducible apply State.modeAdvance_keeps)
                 | (with_reducible apply State.modeLater_keeps) | (with_reducible apply State.heldWake_keeps))

theorem State.ondemandTimeout_keeps {z0 : State} (s : State) (kpt : z0.Keeps s) :
    z0.Keeps (State.ondemandTimeout s) := by
  unfold State.ondemandTimeout
  try dsimp only
  repeat' (first | (with_reducible assumption) | (with_reducible apply State.retarget_keeps) | (intro _ _ _)
                 | (intro _ _) | split)

theorem State.autoPs_keeps {z0 : State} (s : State) (n : Nat) (kpt : z0.Keeps s) :
    z0.Keeps (State.autoPs s n) := by
  unfold State.autoPs
  repeat' (first | (with_reducible assumption) | (with_reducible apply State.setPs_keeps) | (intro _ _ _)
                 | (intro _ _) | (with_reducible refine keeps_snd (by assumption) ?_)
                 | (with_reducible refine keeps_snd2 (by assumption) ?_) | split)

theorem State.limpEnd_keeps {z0 : State} (s : State) (kpt : z0.Keeps s) :
    z0.Keeps (State.limpEnd s) := by
  unfold State.limpEnd
  repeat' (first | (with_reducible assumption) | (with_reducible apply State.freeBufs_keeps)
                 | (with_reducible apply State.finishSt_keeps) | (with_reducible refine keeps_foldl ?_ ?_)
                 | (intro _ _ _))

theorem State.limpStop_keeps {z0 : State} (s : State) (kpt : z0.Keeps s) :
    z0.Keeps (State.limpStop s) := by
  unfold State.limpStop
  try dsimp only
  repeat' (first | (with_reducible assumption) | (with_reducible apply State.loseCache_keeps)
                 | (with_reducible apply State.modSys_keeps) | (with_reducible apply State.sqStopReq_keeps)
                 | (with_reducible apply State.actUnload_keeps) | (with_reducible apply State.set_keeps)
                 | (with_reducible apply State.spnLimp_keeps) | (with_reducible refine keeps_foldl ?_ ?_)
                 | (intro _ _ _) | (intro _ _) | (simp only [keeps_mk]) | split)

theorem State.limpCheck_keeps {z0 : State} (s : State) (kpt : z0.Keeps s) :
    z0.Keeps (State.limpCheck s) := by
  unfold State.limpCheck
  try dsimp only
  repeat' (first | (with_reducible assumption) | (with_reducible apply State.modSys_keeps)
                 | (with_reducible apply State.mediaOff_keeps) | (with_reducible apply State.modeEnter_keeps)
                 | (with_reducible apply State.setFlag_keeps) | (intro _ _ _) | (intro _ _) | (simp only [keeps_mk])
                 | split)

theorem State.limpGo_keeps {z0 : State} (s : State) (kpt : z0.Keeps s) :
    z0.Keeps (State.limpGo s) := by
  unfold State.limpGo
  repeat' (first | (with_reducible assumption) | (with_reducible apply State.limpStop_keeps)
                 | (with_reducible apply State.limpCheck_keeps) | (with_reducible apply State.modSys_keeps)
                 | (intro _ _ _) | (intro _ _) | (simp only [keeps_mk])
                 | (with_reducible refine keeps_snd (by assumption) ?_)
                 | (with_reducible refine keeps_snd2 (by assumption) ?_) | split)

theorem State.limpEntry_keeps {z0 : State} (s : State) (bar : Bool) (kpt : z0.Keeps s) :
    z0.Keeps (State.limpEntry s bar) := by
  unfold State.limpEntry
  try dsimp only
  repeat' (first | (with_reducible assumption) | (with_reducible apply State.set_keeps)
                 | (with_reducible apply State.setFlag_keeps) | (with_reducible apply State.modSys_keeps)
                 | (with_reducible apply State.limpEnd_keeps) | (with_reducible apply State.limpGo_keeps)
                 | (intro _ _ _) | (intro _ _) | (simp only [keeps_mk]) | split)

theorem State.limpRetract_keeps {z0 : State} (s : State) (a : Nat) (kpt : z0.Keeps s) :
    z0.Keeps (State.limpRetract s a) := by
  unfold State.limpRetract
  repeat' (first | (with_reducible assumption) | (with_reducible apply State.actRetract_keeps)
                 | (with_reducible apply State.modSys_keeps) | (with_reducible apply State.set_keeps) | (intro _ _ _)
                 | (intro _ _) | (simp only [keeps_mk]) | (with_reducible refine keeps_snd (by assumption) ?_)
                 | (with_reducible refine keeps_snd2 (by assumption) ?_) | split)

theorem State.modeStep_keeps {z0 : State} (s : State) (kpt : z0.Keeps s) :
    z0.Keeps (State.modeStep s) := by
  unfold State.modeStep
  repeat' (first | (with_reducible assumption) | (with_reducible apply State.limpStop_keeps)
                 | (with_reducible apply State.limpCheck_keeps) | (with_reducible apply State.modSys_keeps)
                 | (with_reducible apply State.limpGo_keeps) | (with_reducible apply State.modeRun_keeps)
                 | (intro _ _ _) | (intro _ _) | (simp only [keeps_mk])
                 | (with_reducible refine keeps_snd (by assumption) ?_)
                 | (with_reducible refine keeps_snd2 (by assumption) ?_) | split)

theorem State.nextActuator_keeps {z0 : State} (s : State) (kpt : z0.Keeps s) :
    z0.Keeps (State.nextActuator s) := by
  unfold State.nextActuator
  repeat' (first | (with_reducible assumption) | (with_reducible apply State.loadNext_keeps)
                 | (with_reducible apply State.unloadNext_keeps) | (intro _ _ _) | (intro _ _)
                 | (with_reducible refine keeps_snd (by assumption) ?_)
                 | (with_reducible refine keeps_snd2 (by assumption) ?_) | split)

theorem State.spinupTimeout_keeps {z0 : State} (s : State) (kpt : z0.Keeps s) :
    z0.Keeps (State.spinupTimeout s) := by
  unfold State.spinupTimeout
  try dsimp only
  repeat' (first | (with_reducible assumption) | (with_reducible apply State.lifeCount_keeps)
                 | (with_reducible apply State.spnBrake_keeps) | (with_reducible apply State.modSpn_keeps)
                 | (with_reducible apply State.modSys_keeps) | (with_reducible apply State.set_keeps)
                 | (with_reducible apply State.setFlag_keeps) | (with_reducible apply State.freeBufs_keeps)
                 | (with_reducible apply State.finishSt_keeps) | (with_reducible apply State.modeRun_keeps)
                 | (with_reducible apply State.renewedTimeout_keeps) | (with_reducible refine keeps_foldl ?_ ?_)
                 | (intro _ _ _) | (intro _ _) | (simp only [keeps_mk]) | split)

theorem State.setCeiling_keeps {z0 : State} (s : State) (tier : Nat) (kpt : z0.Keeps s) :
    z0.Keeps (State.setCeiling s tier) := by
  unfold State.setCeiling
  try dsimp only
  repeat' (first | (with_reducible assumption) | (with_reducible apply State.smartEvents_keeps)
                 | (with_reducible apply State.setFlag_keeps) | (with_reducible apply State.modSys_keeps))

theorem State.degrade_keeps {z0 : State} (s : State) (r : FltReg) (kpt : z0.Keeps s) :
    z0.Keeps (State.degrade s r) := by
  unfold State.degrade
  try dsimp only
  repeat' (first | (with_reducible assumption) | (with_reducible apply State.setCeiling_keeps)
                 | (with_reducible apply State.modeGo_keeps) | (with_reducible apply State.modeLater_keeps)
                 | (with_reducible apply State.limpEntry_keeps) | (with_reducible apply State.modSys_keeps)
                 | (with_reducible apply State.set_keeps) | (with_reducible apply State.capShow_keeps) | (intro _ _ _)
                 | (intro _ _) | (simp only [keeps_mk]) | split)

theorem State.degradeCheck_keeps {z0 : State} (s : State) (kpt : z0.Keeps s) :
    z0.Keeps (State.degradeCheck s) := by
  unfold State.degradeCheck
  repeat' (first | (with_reducible assumption) | (with_reducible apply State.setFlag_keeps)
                 | (with_reducible apply State.modSys_keeps) | (intro _ _ _) | (intro _ _) | (simp only [keeps_mk])
                 | split)

theorem State.tempCheck_keeps {z0 : State} (s : State) (kpt : z0.Keeps s) :
    z0.Keeps (State.tempCheck s) := by
  unfold State.tempCheck
  try dsimp only
  repeat' (first | (with_reducible assumption) | (with_reducible apply State.modSys_keeps)
                 | (with_reducible apply State.setFlag_keeps) | (with_reducible apply State.fault_keeps)
                 | (with_reducible apply State.set_keeps) | (with_reducible apply State.capShow_keeps) | (intro _ _ _)
                 | (intro _ _) | (simp only [keeps_mk]) | split)

theorem State.junctionRead_keeps {z0 : State} (s : State) (tj : Nat) (kpt : z0.Keeps s) :
    z0.Keeps (State.junctionRead s tj) := by
  unfold State.junctionRead
  repeat' (first | (with_reducible assumption) | (with_reducible apply State.set_keeps)
                 | (with_reducible apply State.tempCheck_keeps))

theorem State.envRead_keeps {z0 : State} (s : State) (i : Nat) (v : Option Int) (kpt : z0.Keeps s) :
    z0.Keeps (State.envRead s i v) := by
  unfold State.envRead
  try dsimp only
  repeat' (first | (with_reducible assumption) | (with_reducible apply State.modSys_keeps)
                 | (with_reducible apply State.set_keeps) | (with_reducible apply State.ldgProtocol_keeps)
                 | (with_reducible apply State.fault_keeps) | (intro _ _ _) | (intro _ _) | (simp only [keeps_mk])
                 | (with_reducible refine keeps_snd (by assumption) ?_)
                 | (with_reducible refine keeps_snd2 (by assumption) ?_) | split)

theorem State.envReads_keeps {z0 : State} (s : State) (vs : List (Option Int)) (kpt : z0.Keeps s) :
    z0.Keeps (State.envReads s vs) := by
  unfold State.envReads
  repeat' (first | (with_reducible assumption) | (with_reducible apply State.envRead_keeps)
                 | (with_reducible refine keeps_foldl ?_ ?_) | (intro _ _ _))

theorem State.envPoll_keeps {z0 : State} (s : State) (vs : List (Option Int)) (kpt : z0.Keeps s) :
    z0.Keeps (State.envPoll s vs) := by
  unfold State.envPoll
  try dsimp only
  repeat' (first | (with_reducible assumption) | (with_reducible apply State.envReads_keeps)
                 | (with_reducible apply State.setFlag_keeps) | (with_reducible apply State.tempCheck_keeps)
                 | (with_reducible apply State.setInt_keeps) | (with_reducible refine keeps_foldl ?_ ?_)
                 | (intro _ _ _) | (intro _ _) | (with_reducible refine keeps_snd (by assumption) ?_)
                 | (with_reducible refine keeps_snd2 (by assumption) ?_) | split)

theorem State.tempRelease_keeps {z0 : State} (s : State) (kpt : z0.Keeps s) :
    z0.Keeps (State.tempRelease s) := by
  unfold State.tempRelease
  repeat' (first | (with_reducible assumption) | (with_reducible apply State.setFlag_keeps)
                 | (with_reducible apply State.modSys_keeps) | (with_reducible apply State.capShow_keeps)
                 | (intro _ _ _) | (intro _ _) | (simp only [keeps_mk])
                 | (with_reducible refine keeps_snd (by assumption) ?_)
                 | (with_reducible refine keeps_snd2 (by assumption) ?_) | split)

theorem State.tbLoad_keeps {z0 : State} (s : State) (doms : List Nat) (kpt : z0.Keeps s) :
    z0.Keeps (State.tbLoad s doms) := by
  unfold State.tbLoad
  repeat' (first | (with_reducible assumption) | (with_reducible refine keeps_foldl ?_ ?_) | (intro _ _ _)
                 | (intro _ _) | (simp only [keeps_mk]))

theorem State.groupOn_keeps {z0 : State} (s : State) (g : Nat) (kpt : z0.Keeps s) :
    z0.Keeps (State.groupOn s g) := by
  unfold State.groupOn
  try dsimp only
  repeat' (first | (with_reducible assumption) | (with_reducible apply State.setFlag_keeps)
                 | (with_reducible apply State.readEnable_keeps) | (with_reducible apply State.writeEnable_keeps)
                 | (with_reducible apply State.tbLoad_keeps) | (with_reducible apply State.orBits_keeps)
                 | (with_reducible refine keeps_foldl ?_ ?_) | (intro _ _ _) | (intro _ _) | split)

theorem State.domainUp_keeps {z0 : State} (s : State) (kpt : z0.Keeps s) :
    z0.Keeps (State.domainUp s) := by
  unfold State.domainUp
  try dsimp only
  repeat' (first | (with_reducible assumption) | (with_reducible apply State.modSys_keeps)
                 | (with_reducible apply State.tbLoad_keeps) | (with_reducible apply State.orBits_keeps)
                 | (with_reducible apply State.set_keeps) | (with_reducible apply State.tthStart_keeps)
                 | (with_reducible apply State.groupOn_keeps) | (intro _ _ _) | (intro _ _) | (simp only [keeps_mk])
                 | (with_reducible refine keeps_snd (by assumption) ?_)
                 | (with_reducible refine keeps_snd2 (by assumption) ?_) | split)

/-! ### Packed -/

theorem State.unmapStripe_keeps {z0 : State} (s : State) (ns : Nat) (stripe : Nat) (since : Nat) (kpt : z0.Keeps s) :
    z0.Keeps (State.unmapStripe s ns stripe since) := by
  unfold State.unmapStripe
  try dsimp only
  repeat' (first | (with_reducible assumption) | (with_reducible apply State.uncache_keeps)
                 | (with_reducible apply State.rteTake_keeps) | (with_reducible refine keeps_foldl ?_ ?_)
                 | (intro _ _ _) | (intro _ _) | (simp only [keeps_mk]) | split)

theorem State.leftDone_keeps {z0 : State} (s : State) (ns : Nat) (sec : Nat) (kpt : z0.Keeps s) :
    z0.Keeps (State.leftDone s ns sec) := by
  unfold State.leftDone
  try dsimp only
  repeat' (first | (with_reducible assumption) | (with_reducible apply State.modCmd_keeps)
                 | (with_reducible apply State.finishSt_keeps) | (with_reducible refine keeps_foldl ?_ ?_)
                 | (intro _ _ _) | (intro _ _) | (simp only [keeps_mk]) | split)

theorem State.cacheWritten_keeps {z0 : State} (s : State) (x : CacheSec) (kpt : z0.Keeps s) :
    z0.Keeps (State.cacheWritten s x) := by
  unfold State.cacheWritten
  try dsimp only
  repeat' (first | (with_reducible assumption) | (with_reducible apply State.setMedium_keeps)
                 | (with_reducible apply State.uncache_keeps) | (with_reducible apply State.leftDone_keeps)
                 | (intro _ _ _) | (intro _ _) | split)

theorem State.durableSweep_keeps {z0 : State} (s : State) (kpt : z0.Keeps s) :
    z0.Keeps (State.durableSweep s) := by
  unfold State.durableSweep
  repeat' (first | (with_reducible assumption) | (with_reducible apply State.cacheWritten_keeps)
                 | (with_reducible refine keeps_foldl ?_ ?_))

theorem State.flushCheck_keeps {z0 : State} (s : State) (kpt : z0.Keeps s) :
    z0.Keeps (State.flushCheck s) := by
  unfold State.flushCheck
  repeat' (first | (with_reducible assumption) | (with_reducible apply State.finishSt_keeps)
                 | (with_reducible refine keeps_foldl ?_ ?_) | (intro _ _ _))

theorem State.checkpoint_keeps {z0 : State} (s : State) (kpt : z0.Keeps s) :
    z0.Keeps (State.checkpoint s) := by
  unfold State.checkpoint
  repeat' (first | (with_reducible assumption) | (with_reducible apply State.rtCheckpoint_keeps)
                 | (with_reducible apply State.durableSweep_keeps) | (with_reducible apply State.flushCheck_keeps)
                 | split)

theorem State.routeLoad_keeps {z0 : State} (s : State) (kpt : z0.Keeps s) :
    z0.Keeps (State.routeLoad s) := by
  unfold State.routeLoad
  try dsimp only
  repeat' (first | (with_reducible assumption) | (with_reducible apply State.rtLoadEntries_keeps)
                 | (simp only [keeps_mk]) | split)

theorem State.setPhys_keeps {z0 : State} (s : State) (p : Nat) (bs : List Byte) (kpt : z0.Keeps s) :
    z0.Keeps (State.setPhys s p bs) := by
  unfold State.setPhys
  repeat' (first | (with_reducible assumption) | (with_reducible apply State.modHif_keeps))

theorem State.setSectors_keeps {z0 : State} (s : State) (b : Nat) (k : Nat) (y1 : List (List Byte)) (kpt : z0.Keeps s) :
    z0.Keeps (State.setSectors s b k y1) := by
  fun_induction State.setSectors s b k y1
  all_goals repeat' (first | (with_reducible assumption) | (with_reducible apply State.setPhys_keeps)
                           | (with_reducible apply_assumption) | (with_reducible refine keeps_snd (by assumption) ?_)
                           | (with_reducible refine keeps_snd2 (by assumption) ?_) | split)

theorem State.copyAdd_keeps {z0 : State} (s : State) (i : Nat) (old : Nat) (new : Nat) (kpt : z0.Keeps s) :
    z0.Keeps (State.copyAdd s i old new) := by
  unfold State.copyAdd
  repeat' (first | (with_reducible assumption) | (simp only [keeps_mk]))

theorem State.copyRun_keeps {z0 : State} (s : State) (b : Nat) (p : Nat) (k : Nat) (es : List (Nat × Nat))
    (kpt : z0.Keeps s) :
    z0.Keeps (State.copyRun s b p k es) := by
  unfold State.copyRun
  repeat' (first | (with_reducible assumption) | (with_reducible apply State.place_keeps)
                 | (with_reducible apply State.copyAdd_keeps) | (with_reducible apply State.setSectors_keeps)
                 | (with_reducible apply State.take_keeps) | (with_reducible refine keeps_foldl ?_ ?_) | (intro _ _ _)
                 | (intro _ _) | (with_reducible refine keeps_snd (by assumption) ?_)
                 | (with_reducible refine keeps_snd2 (by assumption) ?_) | split)

theorem State.copyAlone_keeps {z0 : State} (s : State) (ns : Nat) (stripe : Nat) (i : Nat) (e : Nat) (kpt : z0.Keeps s) :
    z0.Keeps (State.copyAlone s ns stripe i e) := by
  unfold State.copyAlone
  try dsimp only
  repeat' (first | (with_reducible assumption) | (with_reducible apply State.place_keeps)
                 | (with_reducible apply State.setSectors_keeps) | (with_reducible apply State.take_keeps)
                 | (with_reducible apply State.copyAdd_keeps) | (intro _ _ _) | (intro _ _) | (simp only [keeps_mk])
                 | (with_reducible refine keeps_snd (by assumption) ?_)
                 | (with_reducible refine keeps_snd2 (by assumption) ?_) | split)

theorem State.reclaimEntry_keeps {z0 : State} (s : State) (b : Nat) (i : Nat) (e : Nat) (kpt : z0.Keeps s) :
    z0.Keeps (State.reclaimEntry s b i e) := by
  unfold State.reclaimEntry
  try dsimp only
  repeat' (first | (with_reducible assumption) | (with_reducible apply State.copyRun_keeps)
                 | (with_reducible apply State.copyAlone_keeps) | (with_reducible refine keeps_foldl ?_ ?_)
                 | (intro _ _ _) | (intro _ _) | split)

theorem State.reclaimCopies_keeps {z0 : State} (s : State) (kpt : z0.Keeps s) :
    z0.Keeps (State.reclaimCopies s) := by
  unfold State.reclaimCopies
  repeat' (first | (with_reducible assumption) | (with_reducible apply State.reclaimEntry_keeps)
                 | (with_reducible refine keeps_foldl ?_ ?_) | (intro _ _ _))

theorem State.reclaim_keeps {z0 : State} (s : State) (kpt : z0.Keeps s) :
    z0.Keeps (State.reclaim s) := by
  unfold State.reclaim
  try dsimp only
  repeat' (first | (with_reducible assumption) | (with_reducible apply State.setBand_keeps)
                 | (with_reducible apply State.reclaimCopies_keeps) | (with_reducible refine keeps_foldl ?_ ?_)
                 | (intro _ _ _) | (intro _ _) | (simp only [keeps_mk])
                 | (with_reducible refine keeps_snd (by assumption) ?_)
                 | (with_reducible refine keeps_snd2 (by assumption) ?_) | split)

/-! ### Io -/

theorem State.resvSettle_keeps {z0 : State} (s : State) (kpt : z0.Keeps s) :
    z0.Keeps (State.resvSettle s) := by
  unfold State.resvSettle
  try dsimp only
  repeat' (first | (with_reducible assumption) | (with_reducible apply State.modCmd_keeps)
                 | (with_reducible apply State.finishSt_keeps) | (with_reducible refine keeps_foldl ?_ ?_)
                 | (intro _ _ _) | (intro _ _) | (simp only [keeps_mk])
                 | (with_reducible refine keeps_snd (by assumption) ?_)
                 | (with_reducible refine keeps_snd2 (by assumption) ?_) | split)

theorem State.reportDeferred_keeps {z0 : State} (s : State) (no : Nat) (l : List Nat) (kpt : z0.Keeps s) :
    z0.Keeps (State.reportDeferred s no l) := by
  unfold State.reportDeferred
  repeat' (first | (with_reducible assumption) | (with_reducible apply State.modNs_keeps)
                 | (with_reducible apply State.finishSt_keeps) | (with_reducible refine keeps_foldl ?_ ?_)
                 | (intro _ _ _))

theorem State.ioMode_keeps {z0 : State} (s : State) (c : CmdSlot) (kpt : z0.Keeps s) :
    z0.Keeps (State.ioMode s c).2 := by
  unfold State.ioMode
  try dsimp only
  repeat' (first | (with_reducible assumption) | (with_reducible apply State.ioArrive_keeps)
                 | (with_reducible refine keeps_snd (by assumption) ?_)
                 | (with_reducible refine keeps_snd2 (by assumption) ?_) | split)

theorem State.ioFetched_keeps {z0 : State} (s : State) (no : Nat) (kpt : z0.Keeps s) :
    z0.Keeps (State.ioFetched s no) := by
  unfold State.ioFetched
  try dsimp only
  repeat' (first | (with_reducible assumption) | (with_reducible apply State.finishSt_keeps)
                 | (with_reducible apply State.reportDeferred_keeps) | (with_reducible apply State.modCmd_keeps)
                 | (with_reducible apply State.ioMode_keeps) | (intro _ _ _) | (intro _ _) | (simp only [keeps_mk])
                 | (with_reducible refine keeps_snd (by assumption) ?_)
                 | (with_reducible refine keeps_snd2 (by assumption) ?_) | split)

theorem State.adminFetched_keeps {z0 : State} (s : State) (no : Nat) (kpt : z0.Keeps s) :
    z0.Keeps (State.adminFetched s no) := by
  unfold State.adminFetched
  try dsimp only
  repeat' (first | (with_reducible assumption) | (with_reducible apply State.finishSt_keeps)
                 | (with_reducible apply State.reportDeferred_keeps) | (with_reducible apply State.ioArrive_keeps)
                 | (with_reducible apply State.modCmd_keeps) | (intro _ _ _) | (intro _ _) | (simp only [keeps_mk])
                 | (with_reducible refine keeps_snd (by assumption) ?_)
                 | (with_reducible refine keeps_snd2 (by assumption) ?_) | split)

theorem State.abortSeen_keeps {z0 : State} (s : State) (no : Nat) (n : Nat) (y : Nat) (cid : Nat) (kpt : z0.Keeps s) :
    z0.Keeps (State.abortSeen s no n y cid) := by
  unfold State.abortSeen
  repeat' (first | (with_reducible assumption) | (with_reducible apply State.finishSt_keeps)
                 | (with_reducible apply State.finish_keeps) | (with_reducible apply State.modCmd_keeps)
                 | (with_reducible refine keeps_foldl ?_ ?_) | (intro _ _ _) | (intro _ _) | (simp only [keeps_mk])
                 | (with_reducible refine keeps_snd (by assumption) ?_)
                 | (with_reducible refine keeps_snd2 (by assumption) ?_) | split)

theorem State.xferFail_keeps {z0 : State} (s : State) (c : CmdSlot) (code : Nat) (kpt : z0.Keeps s) :
    z0.Keeps (State.xferFail s c code) := by
  unfold State.xferFail
  try dsimp only
  repeat' (first | (with_reducible assumption) | (with_reducible apply State.freeBufs_keeps)
                 | (with_reducible apply State.modCmd_keeps) | (with_reducible apply State.fault_keeps)
                 | (with_reducible apply State.ldgProtocol_keeps) | (with_reducible apply State.finishSt_keeps)
                 | (intro _ _ _) | (intro _ _) | (simp only [keeps_mk]) | split)

theorem State.cachePut_keeps {z0 : State} (s : State) (n : NsSt) (sec : Nat) (slba : Nat) (nlb : Nat) (stamp : Nat)
    (sid : Nat) (data : List Byte) (h : Nat) (kpt : z0.Keeps s) :
    z0.Keeps (State.cachePut s n sec slba nlb stamp sid data h) := by
  unfold State.cachePut
  try dsimp only
  repeat' (first | (with_reducible assumption) | (with_reducible apply State.uncache_keeps)
                 | (with_reducible apply State.depWrite_keeps) | (with_reducible apply State.take_keeps)
                 | (with_reducible apply State.modHif_keeps) | (intro _ _ _) | (intro _ _) | (simp only [keeps_mk])
                 | (with_reducible refine keeps_snd (by assumption) ?_)
                 | (with_reducible refine keeps_snd2 (by assumption) ?_) | split)

theorem State.cacheAll_keeps {z0 : State} (s : State) (n : NsSt) (slba : Nat) (nlb : Nat) (stamp : Nat) (sid : Nat)
    (data : List Byte) (y1 : List (Nat × Nat)) (kpt : z0.Keeps s) :
    z0.Keeps (State.cacheAll s n slba nlb stamp sid data y1) := by
  fun_induction State.cacheAll s n slba nlb stamp sid data y1
  all_goals repeat' (first | (with_reducible assumption) | (with_reducible apply State.cachePut_keeps)
                           | (with_reducible apply_assumption))

theorem State.allocBufs_keeps {z0 : State} (s : State) (size : Nat) (y1 : Nat) (y2 : List Nat) (kpt : z0.Keeps s) :
    z0.Keeps (State.allocBufs s size y1 y2).2 := by
  induction y1 generalizing s y2 with
  | zero => exact kpt
  | succ k ih =>
    have h1 := State.depAlloc_keeps (z0 := z0) s 0xC0 size kpt
    unfold State.allocBufs
    generalize s.depAlloc 0xC0 size = p at h1 ⊢
    obtain ⟨r, s1⟩ := p
    dsimp only
    split
    · exact ih _ _ h1
    · exact State.freeBufs_keeps _ _ h1

theorem State.writeDone_keeps {z0 : State} (s : State) (c : CmdSlot) (secs : List Nat) (kpt : z0.Keeps s) :
    z0.Keeps (State.writeDone s c secs) := by
  unfold State.writeDone
  try dsimp only
  repeat' (first | (with_reducible assumption) | (with_reducible apply State.modCmd_keeps)
                 | (with_reducible apply State.finishSt_keeps) | (with_reducible apply State.flushCheck_keeps)
                 | (intro _ _ _) | (intro _ _) | (simp only [keeps_mk]) | split)

theorem State.streamTouch_keeps {z0 : State} (s : State) (c : CmdSlot) (kpt : z0.Keeps s) :
    z0.Keeps (State.streamTouch s c) := by
  unfold State.streamTouch
  try dsimp only
  repeat' (first | (with_reducible assumption) | (with_reducible apply State.modCtl_keeps) | (intro _ _ _)
                 | (intro _ _) | (simp only [keeps_mk]) | split)

theorem State.writeStart_keeps {z0 : State} (s : State) (no : Nat) (kpt : z0.Keeps s) :
    z0.Keeps (State.writeStart s no) := by
  unfold State.writeStart
  try dsimp only
  repeat' (first | (with_reducible assumption) | (with_reducible apply State.finishSt_keeps)
                 | (with_reducible apply State.allocBufs_keeps) | (with_reducible apply State.modCmd_keeps)
                 | (intro _ _ _) | (intro _ _) | (simp only [keeps_mk])
                 | (with_reducible refine keeps_snd (by assumption) ?_)
                 | (with_reducible refine keeps_snd2 (by assumption) ?_) | split)

theorem State.writeEffect_keeps {z0 : State} (s : State) (no : Nat) (x : Xfer) (kpt : z0.Keeps s) :
    z0.Keeps (State.writeEffect s no x) := by
  unfold State.writeEffect
  try dsimp only
  repeat' (first | (with_reducible assumption) | (with_reducible apply State.xferFail_keeps)
                 | (with_reducible apply State.freeBufs_keeps) | (with_reducible apply State.modCmd_keeps)
                 | (with_reducible apply State.finishSt_keeps) | (with_reducible apply State.cacheAll_keeps)
                 | (with_reducible apply State.clearUnread_keeps) | (with_reducible apply State.streamTouch_keeps)
                 | (with_reducible apply State.writeDone_keeps) | (intro _ _ _) | (intro _ _) | (simp only [keeps_mk])
                 | (with_reducible refine keeps_snd (by assumption) ?_)
                 | (with_reducible refine keeps_snd2 (by assumption) ?_) | split)

theorem State.zeroRange_keeps {z0 : State} (s t : State) (n : NsSt) (a k st : Nat) (kpt : z0.Keeps s)
    (e : s.zeroRange n a k st = some (.ok t)) : z0.Keeps t := by
  unfold State.zeroRange at e
  extract_lets per full secs part gone at e
  clear_value gone part secs full per
  generalize s.capacityCheck n part = o at e
  cases o with
  | some _ => cases e
  | none =>
    dsimp only at e
    by_cases cb : s.mergeBad n a k = true
    · rw [if_pos cb] at e
      cases e
    rw [if_neg cb] at e
    by_cases c : (!s.dirtyRoom part.length) = true
    · rw [if_pos c] at e
      cases e
    · rw [if_neg c] at e
      have h1 := State.allocBufs_keeps (z0 := z0) s (max 4096 n.hostBytes) part.length [] kpt
      generalize s.allocBufs (max 4096 n.hostBytes) part.length [] = p at e h1
      obtain ⟨r, s1⟩ := p
      cases r with
      | none => cases e
      | some hs =>
        cases e
        exact State.clearUnread_keeps _ _ _ _ (State.cacheAll_keeps _ _ _ _ _ _ _ _
          (keeps_foldl (fun t x ht => State.unmapStripe_keeps _ _ _ _ ht) h1))

theorem State.dsmApply_keeps {z0 : State} (n : NsSt) (st : Nat) (l : List (Nat × Nat)) (s t : State) (kpt : z0.Keeps s)
    (e : s.dsmApply n st l = some (.ok t)) : z0.Keeps t := by
  induction l generalizing s with
  | nil => cases e; exact kpt
  | cons x rest ih =>
    obtain ⟨a, k⟩ := x
    unfold State.dsmApply at e
    by_cases c : k = 0
    · rw [if_pos c] at e
      exact ih _ kpt e
    · rw [if_neg c] at e
      have hz := fun t => State.zeroRange_keeps (z0 := z0) s t n a k st kpt
      generalize s.zeroRange n a k st = o at e hz
      match o, e with
      | none, e => cases e
      | some (.error _), e => cases e
      | some (.ok s1), e => exact ih _ (hz _ rfl) e

theorem State.writeZeroes_keeps {z0 : State} (s : State) (no : Nat) (kpt : z0.Keeps s) :
    z0.Keeps (State.writeZeroes s no) := by
  unfold State.writeZeroes
  generalize s.ioNs no 8 = o
  cases o with
  | none => exact kpt
  | some p =>
    obtain ⟨c, n⟩ := p
    dsimp only
    refine keeps_ite (fun _ => kpt) (fun _ => keeps_ite (fun _ => State.finishSt_keeps _ _ _ kpt) (fun _ => ?_))
    have hz := fun t => State.zeroRange_keeps (z0 := z0) s t n c.slba c.nlb c.stamp kpt
    generalize s.zeroRange n c.slba c.nlb c.stamp = o at hz ⊢
    match o with
    | none => exact kpt
    | some (.error _) => exact State.finishSt_keeps _ _ _ kpt
    | some (.ok s1) => exact State.writeDone_keeps _ _ _ (hz _ rfl)

theorem State.datasetMgmt_keeps {z0 : State} (s : State) (no : Nat) (x : Xfer) (kpt : z0.Keeps s) :
    z0.Keeps (State.datasetMgmt s no x) := by
  unfold State.datasetMgmt
  generalize s.ioNs no 9 = o
  cases o with
  | none => exact kpt
  | some p =>
    obtain ⟨c, n⟩ := p
    dsimp -zeta only
    refine keeps_ite (fun _ => kpt) (fun _ => keeps_ite (fun _ => State.finishSt_keeps _ _ _ kpt) (fun _ => ?_))
    extract_lets rs
    clear_value rs
    generalize xferStatus c { n with fmt := 0 } x = o
    cases o with
    | some _ => exact State.xferFail_keeps _ _ _ kpt
    | none =>
      dsimp only
      refine keeps_ite (fun _ => State.finishSt_keeps _ _ _ kpt) (fun _ => keeps_ite (fun _ => ?_) (fun _ => ?_))
      · exact State.finishSt_keeps _ _ _ (State.modCmd_keeps _ _ _ kpt)
      · have hz := fun t => State.dsmApply_keeps (z0 := z0) n c.stamp rs s t kpt
        generalize s.dsmApply n c.stamp rs = o at hz ⊢
        match o with
        | none => exact kpt
        | some (.error _) => exact State.finishSt_keeps _ _ _ kpt
        | some (.ok s1) => exact State.flushCheck_keeps _ (State.finishSt_keeps _ _ _ (State.modCmd_keeps _ _ _ (hz _ rfl)))

theorem State.readCmd_keeps {z0 : State} (s : State) (no : Nat) (x : Xfer) (med : Option (List Nat)) (kpt : z0.Keeps s) :
    z0.Keeps (State.readCmd s no x med) := by
  unfold State.readCmd
  try dsimp only
  repeat' (first | (with_reducible assumption) | (with_reducible apply State.modCmd_keeps)
                 | (with_reducible apply State.finishSt_keeps) | (with_reducible apply State.xferFail_keeps)
                 | (with_reducible apply State.modSys_keeps) | (with_reducible apply State.finish_keeps)
                 | (intro _ _ _) | (intro _ _) | (simp only [keeps_mk])
                 | (with_reducible refine keeps_snd (by assumption) ?_)
                 | (with_reducible refine keeps_snd2 (by assumption) ?_) | split)

theorem State.verifyCmd_keeps {z0 : State} (s : State) (no : Nat) (pi : Nat) (med : Option (List Nat)) (kpt : z0.Keeps s) :
    z0.Keeps (State.verifyCmd s no pi med) := by
  unfold State.verifyCmd
  repeat' (first | (with_reducible assumption) | (with_reducible apply State.modCmd_keeps)
                 | (with_reducible apply State.finishSt_keeps) | (with_reducible apply State.xferFail_keeps)
                 | (intro _ _ _) | (intro _ _) | (simp only [keeps_mk])
                 | (with_reducible refine keeps_snd (by assumption) ?_)
                 | (with_reducible refine keeps_snd2 (by assumption) ?_) | split)

theorem State.flushCmd_keeps {z0 : State} (s : State) (no : Nat) (kpt : z0.Keeps s) :
    z0.Keeps (State.flushCmd s no) := by
  unfold State.flushCmd
  repeat' (first | (with_reducible assumption) | (with_reducible apply State.modCmd_keeps)
                 | (with_reducible apply State.flushCheck_keeps) | (intro _ _ _) | (intro _ _)
                 | (simp only [keeps_mk]) | (with_reducible refine keeps_snd (by assumption) ?_)
                 | (with_reducible refine keeps_snd2 (by assumption) ?_) | split)

theorem State.poolExhausted_keeps {z0 : State} (s : State) (no : Nat) (kpt : z0.Keeps s) :
    z0.Keeps (State.poolExhausted s no) := by
  unfold State.poolExhausted
  try dsimp only
  repeat' (first | (with_reducible assumption) | (with_reducible apply State.finishSt_keeps)
                 | (with_reducible refine keeps_snd (by assumption) ?_)
                 | (with_reducible refine keeps_snd2 (by assumption) ?_) | split)

theorem State.resvEnd_keeps {z0 : State} (s : State) (c : CmdSlot) (n : NsSt) (r : Option Resv) (kpt : z0.Keeps s) :
    z0.Keeps (State.resvEnd s c n r) := by
  unfold State.resvEnd
  try dsimp only
  repeat' (first | (with_reducible assumption) | (with_reducible apply State.modCmd_keeps)
                 | (with_reducible apply State.modNs_keeps) | (with_reducible apply State.finishSt_keeps)
                 | (with_reducible apply State.resvSettle_keeps) | (intro _ _ _) | (intro _ _)
                 | (simp only [keeps_mk]) | (with_reducible refine keeps_snd (by assumption) ?_)
                 | (with_reducible refine keeps_snd2 (by assumption) ?_) | split)

theorem State.resvNotify_keeps {z0 : State} (s : State) (hs : List Nat) (kpt : z0.Keeps s) :
    z0.Keeps (State.resvNotify s hs) := by
  unfold State.resvNotify
  repeat' (first | (with_reducible assumption) | (with_reducible apply State.raiseEv_keeps)
                 | (with_reducible refine keeps_foldl ?_ ?_) | (intro _ _ _) | (intro _ _) | (simp only [keeps_mk])
                 | split)

theorem State.resvRegister_keeps {z0 : State} (s : State) (no : Nat) (x : Xfer) (kpt : z0.Keeps s) :
    z0.Keeps (State.resvRegister s no x) := by
  unfold State.resvRegister
  try dsimp only
  repeat' (first | (with_reducible assumption) | (with_reducible apply State.xferFail_keeps)
                 | (with_reducible apply State.finishSt_keeps) | (with_reducible apply State.resvSettle_keeps)
                 | (with_reducible apply State.resvEnd_keeps) | (simp only [keeps_mk])
                 | (with_reducible refine keeps_snd (by assumption) ?_)
                 | (with_reducible refine keeps_snd2 (by assumption) ?_) | split)

theorem State.preemptAbort_keeps {z0 : State} (s : State) (n : NsSt) (hosts : List Nat) (stamp : Nat) (kpt : z0.Keeps s) :
    z0.Keeps (State.preemptAbort s n hosts stamp) := by
  unfold State.preemptAbort
  repeat' (first | (with_reducible assumption) | (with_reducible apply State.freeBufs_keeps)
                 | (with_reducible apply State.finishSt_keeps) | (with_reducible refine keeps_foldl ?_ ?_)
                 | (intro _ _ _))

theorem State.resvAcquire_keeps {z0 : State} (s : State) (no : Nat) (x : Xfer) (kpt : z0.Keeps s) :
    z0.Keeps (State.resvAcquire s no x) := by
  unfold State.resvAcquire
  try dsimp only
  repeat' (first | (with_reducible assumption) | (with_reducible apply State.xferFail_keeps)
                 | (with_reducible apply State.finishSt_keeps) | (with_reducible apply State.resvSettle_keeps)
                 | (with_reducible apply State.resvEnd_keeps) | (with_reducible apply State.preemptAbort_keeps)
                 | (with_reducible apply State.modNs_keeps) | (with_reducible apply State.modCmd_keeps)
                 | (with_reducible apply State.acquireCheck_keeps) | (with_reducible apply State.resvNotify_keeps)
                 | (intro _ _ _) | (intro _ _) | (simp only [keeps_mk])
                 | (with_reducible refine keeps_snd (by assumption) ?_)
                 | (with_reducible refine keeps_snd2 (by assumption) ?_) | split)

theorem State.resvRelease_keeps {z0 : State} (s : State) (no : Nat) (x : Xfer) (kpt : z0.Keeps s) :
    z0.Keeps (State.resvRelease s no x) := by
  unfold State.resvRelease
  try dsimp only
  repeat' (first | (with_reducible assumption) | (with_reducible apply State.xferFail_keeps)
                 | (with_reducible apply State.finishSt_keeps) | (with_reducible apply State.resvSettle_keeps)
                 | (with_reducible apply State.resvEnd_keeps) | (with_reducible apply State.resvNotify_keeps)
                 | (intro _ _ _) | (intro _ _) | (simp only [keeps_mk])
                 | (with_reducible refine keeps_snd (by assumption) ?_)
                 | (with_reducible refine keeps_snd2 (by assumption) ?_) | split)

theorem State.resvReport_keeps {z0 : State} (s : State) (no : Nat) (x : Xfer) (kpt : z0.Keeps s) :
    z0.Keeps (State.resvReport s no x) := by
  unfold State.resvReport
  try dsimp only
  repeat' (first | (with_reducible assumption) | (with_reducible apply State.xferFail_keeps)
                 | (with_reducible apply State.modCmd_keeps) | (with_reducible apply State.finish_keeps)
                 | (intro _ _ _) | (intro _ _) | (simp only [keeps_mk])
                 | (with_reducible refine keeps_snd (by assumption) ?_)
                 | (with_reducible refine keeps_snd2 (by assumption) ?_) | split)

theorem State.ioDurable_keeps {z0 : State} (s : State) (h : Nat) (a : Arm) (kpt : z0.Keeps s) :
    z0.Keeps (State.ioDurable s h a) := by
  unfold State.ioDurable
  try dsimp only
  repeat' (first | (with_reducible assumption) | (with_reducible apply State.cacheWritten_keeps)
                 | (with_reducible apply State.setMedium_keeps) | (with_reducible apply State.flushCheck_keeps)
                 | (with_reducible apply State.durableSweep_keeps) | (with_reducible apply State.setPhys_keeps)
                 | (intro _ _ _) | (intro _ _) | (simp only [keeps_mk])
                 | (with_reducible refine keeps_snd (by assumption) ?_)
                 | (with_reducible refine keeps_snd2 (by assumption) ?_) | split)

theorem State.ioWriteFail_keeps {z0 : State} (s : State) (h : Nat) (a : Arm) (kpt : z0.Keeps s) :
    z0.Keeps (State.ioWriteFail s h a) := by
  unfold State.ioWriteFail
  try dsimp only
  repeat' (first | (with_reducible assumption) | (with_reducible apply State.finishSt_keeps)
                 | (with_reducible apply State.loseSector_keeps) | (with_reducible apply State.flushCheck_keeps)
                 | (with_reducible refine keeps_foldl ?_ ?_) | (intro _ _ _) | (intro _ _) | (simp only [keeps_mk])
                 | (with_reducible refine keeps_snd (by assumption) ?_)
                 | (with_reducible refine keeps_snd2 (by assumption) ?_) | split)

theorem State.ioEvent_keeps {z0 : State} (s : State) (e : IoEvent) (kpt : z0.Keeps s) :
    z0.Keeps (State.ioEvent s e) := by
  unfold State.ioEvent
  repeat' (first | (with_reducible assumption) | (with_reducible apply State.ioDurable_keeps)
                 | (with_reducible apply State.ioWriteFail_keeps)
                 | (with_reducible refine keeps_snd (by assumption) ?_)
                 | (with_reducible refine keeps_snd2 (by assumption) ?_) | split)

theorem State.ioDrain_keeps {z0 : State} (s : State) (kpt : z0.Keeps s) :
    z0.Keeps (State.ioDrain s) := by
  unfold State.ioDrain
  repeat' (first | (with_reducible assumption) | (with_reducible apply State.ioEvent_keeps)
                 | (with_reducible refine keeps_foldl ?_ ?_) | (intro _ _ _) | (intro _ _) | (simp only [keeps_mk]))

theorem State.destageStart_keeps {z0 : State} (s : State) (kpt : z0.Keeps s) :
    z0.Keeps (State.destageStart s) := by
  unfold State.destageStart
  repeat' (first | (with_reducible assumption) | (with_reducible apply State.modHif_keeps) | (intro _ _ _)
                 | (intro _ _) | (simp only [keeps_mk]) | split)

theorem State.discarded_keeps {z0 : State} (s : State) (u : CUnit) (l : List Nat) (kpt : z0.Keeps s) :
    z0.Keeps (State.discarded s u l) := by
  unfold State.discarded
  repeat' (first | (with_reducible assumption) | (with_reducible apply State.freeBufs_keeps)
                 | (with_reducible apply State.finishSt_keeps) | (with_reducible refine keeps_foldl ?_ ?_)
                 | (intro _ _ _) | (intro _ _) | (with_reducible refine keeps_snd (by assumption) ?_)
                 | (with_reducible refine keeps_snd2 (by assumption) ?_) | split)

/-! ### Secure -/

theorem State.norStore_keeps {z0 : State} (s : State) (a : Nat) (bs : List Byte) (kpt : z0.Keeps s) :
    z0.Keeps (State.norStore s a bs) := by
  unfold State.norStore
  exact keeps_nor (fun c => norProgram_wf _ _ _ (norErase_wf _ _ _ c)) kpt

theorem State.bootWrite_keeps {z0 : State} (s : State) (active : Nat) (pending : Nat) (kpt : z0.Keeps s) :
    z0.Keeps (State.bootWrite s active pending) := by
  unfold State.bootWrite
  try dsimp only
  repeat' (first | (with_reducible assumption) | (with_reducible apply State.norStore_keeps)
                 | (with_reducible apply State.set_keeps))

theorem State.bindMaker_keeps {z0 : State} (s : State) (m : List Byte) (ok : Bool) (kpt : z0.Keeps s) :
    z0.Keeps (State.bindMaker s m ok) := by
  unfold State.bindMaker
  try dsimp only
  repeat' (first | (with_reducible assumption) | (with_reducible apply State.fault_keeps)
                 | (with_reducible apply State.setFlag_keeps) | (simp only [keeps_mk]) | split)

theorem State.patchInto_keeps {z0 : State} (s : State) (p : List Byte) (a : Nat) (kpt : z0.Keeps s) :
    z0.Keeps (State.patchInto s p a) := by
  unfold State.patchInto
  try dsimp only
  repeat' (first | (with_reducible assumption) | (with_reducible apply State.arrayStored_keeps)
                 | (with_reducible apply State.modSq_keeps) | (with_reducible apply State.set_keeps)
                 | (with_reducible apply State.setFlag_keeps) | (with_reducible refine keeps_foldl ?_ ?_)
                 | (intro _ _ _))

theorem State.patchFail_keeps {z0 : State} (s : State) (a : Nat) (kpt : z0.Keeps s) :
    z0.Keeps (State.patchFail s a) := by
  unfold State.patchFail
  try dsimp only
  repeat' (first | (with_reducible assumption) | (with_reducible apply State.arrayStored_keeps)
                 | (with_reducible apply State.modSq_keeps) | (with_reducible apply State.set_keeps)
                 | (with_reducible apply State.setFlag_keeps) | (with_reducible apply State.fault_keeps)
                 | (with_reducible refine keeps_foldl ?_ ?_) | (intro _ _ _))

theorem State.patchImage_keeps {z0 : State} (s : State) (m : List Byte) (kpt : z0.Keeps s) :
    z0.Keeps (State.patchImage s m) := by
  unfold State.patchImage
  try dsimp only
  repeat' (first | (with_reducible assumption) | (with_reducible apply State.take_keeps)
                 | (with_reducible apply State.patchInto_keeps) | (with_reducible apply State.sqPatchEnd_keeps)
                 | (with_reducible apply State.patchFail_keeps) | (with_reducible refine keeps_foldl ?_ ?_)
                 | (intro _ _ _) | (intro _ _) | (with_reducible refine keeps_snd (by assumption) ?_)
                 | (with_reducible refine keeps_snd2 (by assumption) ?_) | split)

theorem State.dlClear_keeps {z0 : State} (s : State) (kpt : z0.Keeps s) :
    z0.Keeps (State.dlClear s) := by
  unfold State.dlClear
  repeat' (first | (with_reducible assumption) | (simp only [keeps_mk]))

theorem State.commit_keeps {z0 : State} (s : State) (no : Nat) (stamp : Nat) (fs : Nat) (ca : Nat) (unlocked : Bool)
    (kpt : z0.Keeps s) :
    z0.Keeps (State.commit s no stamp fs ca unlocked) := by
  unfold State.commit
  try dsimp only
  repeat' (first | (with_reducible assumption) | (with_reducible apply State.fault_keeps)
                 | (with_reducible apply State.finishSt_keeps) | (with_reducible apply State.norStore_keeps)
                 | (with_reducible apply State.bindMaker_keeps) | (with_reducible apply State.ldgRaise_keeps)
                 | (with_reducible apply State.dlClear_keeps) | (with_reducible apply State.bootWrite_keeps)
                 | (with_reducible apply State.modHif_keeps) | (with_reducible apply State.raiseBoth_keeps)
                 | (intro _ _ _) | (intro _ _) | (simp only [keeps_mk])
                 | (with_reducible refine keeps_snd (by assumption) ?_)
                 | (with_reducible refine keeps_snd2 (by assumption) ?_) | split)

theorem State.modPath_keeps {z0 : State} (s : State) (p : Nat) (f : SecPath → SecPath) (kpt : z0.Keeps s) :
    z0.Keeps (State.modPath s p f) := by
  unfold State.modPath
  repeat' (first | (with_reducible assumption) | (simp only [keeps_mk]))

theorem State.chalEnd_keeps {z0 : State} (s : State) (p : Nat) (kpt : z0.Keeps s) :
    z0.Keeps (State.chalEnd s p) := by
  unfold State.chalEnd
  repeat' (first | (with_reducible assumption) | (with_reducible apply State.modPath_keeps)
                 | (with_reducible apply State.setFlag_keeps))

theorem State.challenge_keeps {z0 : State} (s : State) (p : Nat) (m : Nat) (stamp : Nat) (kpt : z0.Keeps s) :
    z0.Keeps (State.challenge s p m stamp).2 := by
  unfold State.challenge
  try dsimp only
  repeat' (first | (with_reducible assumption) | (with_reducible apply State.draw_keeps)
                 | (with_reducible apply State.modPath_keeps) | (with_reducible apply State.setFlag_keeps)
                 | (intro _ _ _) | (intro _ _) | (simp only [keeps_mk])
                 | (with_reducible refine keeps_snd (by assumption) ?_)
                 | (with_reducible refine keeps_snd2 (by assumption) ?_) | split)

theorem State.wrongResponse_keeps {z0 : State} (s : State) (p : Nat) (kpt : z0.Keeps s) :
    z0.Keeps (State.wrongResponse s p) := by
  unfold State.wrongResponse
  try dsimp only
  repeat' (first | (with_reducible assumption) | (with_reducible apply State.set_keeps)
                 | (with_reducible apply State.fault_keeps) | (with_reducible apply State.modPath_keeps)
                 | (with_reducible apply State.bump_keeps) | (with_reducible apply State.setFlag_keeps)
                 | (intro _ _ _) | (intro _ _) | (simp only [keeps_mk])
                 | (with_reducible refine keeps_snd (by assumption) ?_)
                 | (with_reducible refine keeps_snd2 (by assumption) ?_) | split)

theorem State.respond_keeps {z0 : State} (s : State) (p : Nat) (m : Nat) (numd : Nat) (stamp : Nat) (bs : List Byte)
    (kpt : z0.Keeps s) :
    z0.Keeps (State.respond s p m numd stamp bs).2 := by
  unfold State.respond
  try dsimp only
  repeat' (first | (with_reducible assumption) | (with_reducible apply State.chalEnd_keeps)
                 | (with_reducible apply State.modPath_keeps) | (with_reducible apply State.set_keeps)
                 | (with_reducible apply State.setFlag_keeps) | (with_reducible apply State.wrongResponse_keeps)
                 | (intro _ _ _) | (intro _ _) | (simp only [keeps_mk])
                 | (with_reducible refine keeps_snd (by assumption) ?_)
                 | (with_reducible refine keeps_snd2 (by assumption) ?_) | split)

theorem State.workshopLeave_keeps {z0 : State} (s : State) (kpt : z0.Keeps s) :
    z0.Keeps (State.workshopLeave s) := by
  unfold State.workshopLeave
  try dsimp only
  repeat' (first | (with_reducible assumption) | (with_reducible apply State.modSys_keeps)
                 | (with_reducible apply State.modeGo_keeps) | (intro _ _ _) | (intro _ _) | (simp only [keeps_mk])
                 | split)

theorem State.pathLock_keeps {z0 : State} (s : State) (p : Nat) (kpt : z0.Keeps s) :
    z0.Keeps (State.pathLock s p) := by
  unfold State.pathLock
  try dsimp only
  repeat' (first | (with_reducible assumption) | (with_reducible apply State.modPath_keeps)
                 | (with_reducible apply State.setFlag_keeps) | (with_reducible apply State.workshopLeave_keeps)
                 | (intro _ _ _) | (intro _ _) | (simp only [keeps_mk]) | split)

theorem State.attemptExpiry_keeps {z0 : State} (s : State) (p : Nat) (kpt : z0.Keeps s) :
    z0.Keeps (State.attemptExpiry s p) := by
  unfold State.attemptExpiry
  repeat' (first | (with_reducible assumption) | (with_reducible apply State.chalEnd_keeps)
                 | (with_reducible refine keeps_snd (by assumption) ?_)
                 | (with_reducible refine keeps_snd2 (by assumption) ?_) | split)

theorem State.lockoutEnd_keeps {z0 : State} (s : State) (p : Nat) (kpt : z0.Keeps s) :
    z0.Keeps (State.lockoutEnd s p) := by
  unfold State.lockoutEnd
  repeat' (first | (with_reducible assumption) | (with_reducible apply State.modPath_keeps)
                 | (with_reducible apply State.setFlag_keeps) | (intro _ _ _) | (intro _ _) | (simp only [keeps_mk])
                 | (with_reducible refine keeps_snd (by assumption) ?_)
                 | (with_reducible refine keeps_snd2 (by assumption) ?_) | split)

theorem State.unlockTimeout_keeps {z0 : State} (s : State) (p : Nat) (kpt : z0.Keeps s) :
    z0.Keeps (State.unlockTimeout s p) := by
  unfold State.unlockTimeout
  repeat' (first | (with_reducible assumption) | (with_reducible apply State.pathLock_keeps)
                 | (with_reducible refine keeps_snd (by assumption) ?_)
                 | (with_reducible refine keeps_snd2 (by assumption) ?_) | split)

theorem State.modSec_keeps {z0 : State} (s : State) (f : SecuritySt → SecuritySt) (kpt : z0.Keeps s) :
    z0.Keeps (State.modSec s f) := by
  unfold State.modSec
  repeat' (first | (with_reducible assumption) | (simp only [keeps_mk]))

theorem State.bootRead_keeps {z0 : State} (s : State) (fuseOk : Bool) (kpt : z0.Keeps s) :
    z0.Keeps (State.bootRead s fuseOk) := by
  unfold State.bootRead
  try dsimp only
  repeat' (first | (with_reducible assumption) | (with_reducible apply State.fault_keeps)
                 | (with_reducible apply State.modSec_keeps) | (with_reducible apply State.set_keeps) | (intro _ _ _)
                 | (intro _ _) | (simp only [keeps_mk]) | (with_reducible refine keeps_snd (by assumption) ?_)
                 | (with_reducible refine keeps_snd2 (by assumption) ?_) | split)

theorem State.manifestRead_keeps {z0 : State} (s : State) (kpt : z0.Keeps s) :
    z0.Keeps (State.manifestRead s) := by
  unfold State.manifestRead
  repeat' (first | (with_reducible assumption) | (with_reducible apply State.modSec_keeps) | (intro _ _ _)
                 | (intro _ _) | (simp only [keeps_mk]) | split)

theorem State.firmwareRead_keeps {z0 : State} (s : State) (kpt : z0.Keeps s) :
    z0.Keeps (State.firmwareRead s) := by
  unfold State.firmwareRead
  try dsimp only
  repeat' (first | (with_reducible assumption) | (with_reducible apply State.modSec_keeps)
                 | (with_reducible apply State.set_keeps) | (with_reducible apply State.fault_keeps) | (intro _ _ _)
                 | (intro _ _) | (simp only [keeps_mk]) | (with_reducible refine keeps_snd (by assumption) ?_)
                 | (with_reducible refine keeps_snd2 (by assumption) ?_) | split)

theorem State.patchLoad_keeps {z0 : State} (s : State) (kpt : z0.Keeps s) :
    z0.Keeps (State.patchLoad s) := by
  unfold State.patchLoad
  try dsimp only
  repeat' (first | (with_reducible assumption) | (with_reducible apply State.modSec_keeps)
                 | (with_reducible apply State.sqPatchEnd_keeps) | (with_reducible apply State.patchImage_keeps)
                 | (with_reducible refine keeps_foldl ?_ ?_) | (intro _ _ _) | (intro _ _) | (simp only [keeps_mk])
                 | split)

theorem State.manifestJudge_keeps {z0 : State} (s : State) (kpt : z0.Keeps s) :
    z0.Keeps (State.manifestJudge s) := by
  unfold State.manifestJudge
  try dsimp only
  repeat' (first | (with_reducible assumption) | (with_reducible apply State.modSec_keeps) | (intro _ _ _)
                 | (intro _ _) | (simp only [keeps_mk]) | split)

theorem State.tapSelect_keeps {z0 : State} (s : State) (ir : Nat) (out : Nat) (kpt : z0.Keeps s) :
    z0.Keeps (State.tapSelect s ir out) := by
  unfold State.tapSelect
  repeat' (first | (with_reducible assumption) | (with_reducible apply State.modSec_keeps))

theorem State.tapExtest_keeps {z0 : State} (s : State) (kpt : z0.Keeps s) :
    z0.Keeps (State.tapExtest s) := by
  unfold State.tapExtest
  repeat' (first | (with_reducible assumption) | (with_reducible apply State.tapSelect_keeps) | split)

theorem State.tapChallenge_keeps {z0 : State} (s : State) (m : Nat) (kpt : z0.Keeps s) :
    z0.Keeps (State.tapChallenge s m) := by
  unfold State.tapChallenge
  try dsimp only
  repeat' (first | (with_reducible assumption) | (with_reducible apply State.challenge_keeps)
                 | (with_reducible apply State.tapSelect_keeps))

theorem State.tapRespond_keeps {z0 : State} (s : State) (numd : Nat) (bs : List Byte) (kpt : z0.Keeps s) :
    z0.Keeps (State.tapRespond s numd bs) := by
  unfold State.tapRespond
  repeat' (first | (with_reducible assumption) | (with_reducible apply State.tapSelect_keeps)
                 | (with_reducible apply State.respond_keeps) | (with_reducible refine keeps_snd (by assumption) ?_)
                 | (with_reducible refine keeps_snd2 (by assumption) ?_) | split)

/-! ### Admin -/

theorem State.setEnd_keeps {z0 : State} (s : State) (c : CmdSlot) (r : State → State) (kpt : z0.Keeps s)
    (kz0 : ∀ t : State, z0.Keeps t → z0.Keeps (r t)) :
    z0.Keeps (State.setEnd s c r) := by
  unfold State.setEnd
  repeat' (first | (with_reducible assumption) | (with_reducible apply State.finishSt_keeps) | (apply kz0) | split)

theorem State.adminXfer_keeps {z0 : State} (s : State) (c : CmdSlot) (x : Xfer) (go : State → State)
    (kpt : z0.Keeps s) (kz0 : ∀ t : State, z0.Keeps t → z0.Keeps (go t)) :
    z0.Keeps (State.adminXfer s c x go) := by
  unfold State.adminXfer
  repeat' (first | (with_reducible assumption) | (with_reducible apply State.xferFail_keeps) | (apply kz0) | split)

theorem State.giveData_keeps {z0 : State} (s : State) (c : CmdSlot) (x : Xfer) (bs : List Byte) (kpt : z0.Keeps s) :
    z0.Keeps (State.giveData s c x bs) := by
  unfold State.giveData
  repeat' (first | (with_reducible assumption) | (with_reducible apply State.adminXfer_keeps)
                 | (with_reducible apply State.finish_keeps) | (intro _ _ _) | (intro _ _))

theorem State.queueRefused_keeps {z0 : State} (s : State) (c : CmdSlot) (st : Cst) (kpt : z0.Keeps s) :
    z0.Keeps (State.queueRefused s c st) := by
  unfold State.queueRefused
  repeat' (first | (with_reducible assumption) | (with_reducible apply State.finishSt_keeps)
                 | (with_reducible apply State.ldgProtocol_keeps))

theorem State.createCq_keeps {z0 : State} (s : State) (no : Nat) (kpt : z0.Keeps s) :
    z0.Keeps (State.createCq s no) := by
  unfold State.createCq
  try dsimp only
  repeat' (first | (with_reducible assumption) | (with_reducible apply State.queueRefused_keeps)
                 | (with_reducible apply State.modCtl_keeps) | (with_reducible apply State.finishSt_keeps)
                 | (intro _ _ _) | (intro _ _) | (simp only [keeps_mk])
                 | (with_reducible refine keeps_snd (by assumption) ?_)
                 | (with_reducible refine keeps_snd2 (by assumption) ?_) | split)

theorem State.createSq_keeps {z0 : State} (s : State) (no : Nat) (kpt : z0.Keeps s) :
    z0.Keeps (State.createSq s no) := by
  unfold State.createSq
  try dsimp only
  repeat' (first | (with_reducible assumption) | (with_reducible apply State.queueRefused_keeps)
                 | (with_reducible apply State.modCtl_keeps) | (with_reducible apply State.finishSt_keeps)
                 | (intro _ _ _) | (intro _ _) | (simp only [keeps_mk])
                 | (with_reducible refine keeps_snd (by assumption) ?_)
                 | (with_reducible refine keeps_snd2 (by assumption) ?_) | split)

theorem State.deleteCq_keeps {z0 : State} (s : State) (no : Nat) (kpt : z0.Keeps s) :
    z0.Keeps (State.deleteCq s no) := by
  unfold State.deleteCq
  try dsimp only
  repeat' (first | (with_reducible assumption) | (with_reducible apply State.queueRefused_keeps)
                 | (with_reducible apply State.modCtl_keeps) | (with_reducible apply State.finishSt_keeps)
                 | (intro _ _ _) | (intro _ _) | (simp only [keeps_mk])
                 | (with_reducible refine keeps_snd (by assumption) ?_)
                 | (with_reducible refine keeps_snd2 (by assumption) ?_) | split)

theorem State.deleteSq_keeps {z0 : State} (s : State) (no : Nat) (kpt : z0.Keeps s) :
    z0.Keeps (State.deleteSq s no) := by
  unfold State.deleteSq
  try dsimp only
  repeat' (first | (with_reducible assumption) | (with_reducible apply State.queueRefused_keeps)
                 | (with_reducible apply State.modCtl_keeps) | (with_reducible apply State.modSq_keeps)
                 | (with_reducible apply State.freeBufs_keeps) | (with_reducible apply State.finishSt_keeps)
                 | (with_reducible apply State.modCmd_keeps) | (with_reducible refine keeps_foldl ?_ ?_)
                 | (intro _ _ _) | (intro _ _) | (simp only [keeps_mk])
                 | (with_reducible refine keeps_snd (by assumption) ?_)
                 | (with_reducible refine keeps_snd2 (by assumption) ?_) | split)

theorem State.setNumQueues_keeps {z0 : State} (s : State) (no : Nat) (kpt : z0.Keeps s) :
    z0.Keeps (State.setNumQueues s no) := by
  unfold State.setNumQueues
  repeat' (first | (with_reducible assumption) | (with_reducible apply State.setEnd_keeps)
                 | (with_reducible apply State.finishSt_keeps) | (with_reducible apply State.modCtl_keeps)
                 | (with_reducible apply State.finish_keeps) | (intro _ _ _) | (intro _ _) | (simp only [keeps_mk])
                 | (with_reducible refine keeps_snd (by assumption) ?_)
                 | (with_reducible refine keeps_snd2 (by assumption) ?_) | split)

theorem State.abortCmd_keeps {z0 : State} (s : State) (no : Nat) (kpt : z0.Keeps s) :
    z0.Keeps (State.abortCmd s no) := by
  unfold State.abortCmd
  try dsimp only
  repeat' (first | (with_reducible assumption) | (with_reducible apply State.finishSt_keeps)
                 | (with_reducible apply State.freeBufs_keeps) | (with_reducible apply State.finish_keeps)
                 | (with_reducible apply State.modCmd_keeps) | (intro _ _ _) | (intro _ _) | (simp only [keeps_mk])
                 | (with_reducible refine keeps_snd (by assumption) ?_)
                 | (with_reducible refine keeps_snd2 (by assumption) ?_) | split)

theorem State.getLogPage_keeps {z0 : State} (s : State) (no : Nat) (x : Xfer) (kpt : z0.Keeps s) :
    z0.Keeps (State.getLogPage s no x) := by
  unfold State.getLogPage
  try dsimp only
  repeat' (first | (with_reducible assumption) | (with_reducible apply State.finishSt_keeps)
                 | (with_reducible apply State.adminXfer_keeps) | (with_reducible apply State.modHif_keeps)
                 | (with_reducible apply State.modCtl_keeps) | (with_reducible apply State.finish_keeps)
                 | (intro _ _ _) | (intro _ _) | (simp only [keeps_mk])
                 | (with_reducible refine keeps_snd (by assumption) ?_)
                 | (with_reducible refine keeps_snd2 (by assumption) ?_) | split)

theorem State.identify_keeps {z0 : State} (s : State) (no : Nat) (x : Xfer) (kpt : z0.Keeps s) :
    z0.Keeps (State.identify s no x) := by
  unfold State.identify
  repeat' (first | (with_reducible assumption) | (with_reducible apply State.finishSt_keeps)
                 | (with_reducible apply State.giveData_keeps) | (simp only [keeps_mk])
                 | (with_reducible refine keeps_snd (by assumption) ?_)
                 | (with_reducible refine keeps_snd2 (by assumption) ?_) | split)

theorem State.setFeat_keeps {z0 : State} (s : State) (n : Nat) (k : Nat) (v : Nat) (kpt : z0.Keeps s) :
    z0.Keeps (State.setFeat s n k v) := by
  unfold State.setFeat
  repeat' (first | (with_reducible assumption) | (with_reducible apply State.modCtl_keeps))

theorem State.setFeatures_keeps {z0 : State} (s : State) (no : Nat) (x : Xfer) (kpt : z0.Keeps s) :
    z0.Keeps (State.setFeatures s no x) := by
  unfold State.setFeatures
  try dsimp only
  repeat' (first | (with_reducible assumption) | (with_reducible apply State.finishSt_keeps)
                 | (with_reducible apply State.setEnd_keeps) | (with_reducible apply State.adminXfer_keeps)
                 | (with_reducible apply State.setFeat_keeps) | (with_reducible apply State.smartEvents_keeps)
                 | (with_reducible apply State.modCtl_keeps) | (with_reducible apply State.modNs_keeps)
                 | (with_reducible refine keeps_foldl ?_ ?_) | (intro _ _ _) | (intro _ _) | (simp only [keeps_mk])
                 | (with_reducible refine keeps_snd (by assumption) ?_)
                 | (with_reducible refine keeps_snd2 (by assumption) ?_) | split)

theorem State.setPower_keeps {z0 : State} (s : State) (no : Nat) (kpt : z0.Keeps s) :
    z0.Keeps (State.setPower s no) := by
  unfold State.setPower
  try dsimp only
  repeat' (first | (with_reducible assumption) | (with_reducible apply State.setEnd_keeps)
                 | (with_reducible apply State.finishSt_keeps) | (with_reducible apply State.setPs_keeps)
                 | (intro _ _ _) | (intro _ _) | (with_reducible refine keeps_snd (by assumption) ?_)
                 | (with_reducible refine keeps_snd2 (by assumption) ?_) | split)

theorem State.setSpinup_keeps {z0 : State} (s : State) (no : Nat) (kpt : z0.Keeps s) :
    z0.Keeps (State.setSpinup s no) := by
  unfold State.setSpinup
  repeat' (first | (with_reducible assumption) | (with_reducible apply State.setEnd_keeps)
                 | (with_reducible apply State.setFlag_keeps) | (with_reducible apply State.finishSt_keeps)
                 | (intro _ _ _) | (intro _ _) | (with_reducible refine keeps_snd (by assumption) ?_)
                 | (with_reducible refine keeps_snd2 (by assumption) ?_) | split)

theorem State.setMode_keeps {z0 : State} (s : State) (no : Nat) (kpt : z0.Keeps s) :
    z0.Keeps (State.setMode s no) := by
  unfold State.setMode
  try dsimp only
  repeat' (first | (with_reducible assumption) | (with_reducible apply State.setEnd_keeps)
                 | (with_reducible apply State.setFlag_keeps) | (with_reducible apply State.finishSt_keeps)
                 | (with_reducible apply State.modeRequest_keeps) | (intro _ _ _) | (intro _ _)
                 | (with_reducible refine keeps_snd (by assumption) ?_)
                 | (with_reducible refine keeps_snd2 (by assumption) ?_) | split)

theorem State.getMode_keeps {z0 : State} (s : State) (no : Nat) (kpt : z0.Keeps s) :
    z0.Keeps (State.getMode s no) := by
  unfold State.getMode
  try dsimp only
  repeat' (first | (with_reducible assumption) | (with_reducible apply State.finish_keeps)
                 | (with_reducible apply State.draw_keeps) | (with_reducible apply State.finishSt_keeps)
                 | (simp only [keeps_mk]) | (with_reducible refine keeps_snd (by assumption) ?_)
                 | (with_reducible refine keeps_snd2 (by assumption) ?_) | split)

theorem State.setOrder_keeps {z0 : State} (s : State) (no : Nat) (kpt : z0.Keeps s) :
    z0.Keeps (State.setOrder s no) := by
  unfold State.setOrder
  try dsimp only
  repeat' (first | (with_reducible assumption) | (with_reducible apply State.setEnd_keeps)
                 | (with_reducible apply State.finishSt_keeps) | (with_reducible apply State.modCtl_keeps)
                 | (with_reducible apply State.modSq_keeps) | (intro _ _ _) | (intro _ _) | (simp only [keeps_mk])
                 | (with_reducible refine keeps_snd (by assumption) ?_)
                 | (with_reducible refine keeps_snd2 (by assumption) ?_) | split)

theorem State.setStamp_keeps {z0 : State} (s : State) (no : Nat) (kpt : z0.Keeps s) :
    z0.Keeps (State.setStamp s no) := by
  unfold State.setStamp
  repeat' (first | (with_reducible assumption) | (with_reducible apply State.setEnd_keeps)
                 | (with_reducible apply State.modCtl_keeps) | (with_reducible apply State.finishSt_keeps)
                 | (intro _ _ _) | (intro _ _) | (simp only [keeps_mk])
                 | (with_reducible refine keeps_snd (by assumption) ?_)
                 | (with_reducible refine keeps_snd2 (by assumption) ?_) | split)

theorem State.setLevel_keeps {z0 : State} (s : State) (no : Nat) (kpt : z0.Keeps s) :
    z0.Keeps (State.setLevel s no) := by
  unfold State.setLevel
  try dsimp only
  repeat' (first | (with_reducible assumption) | (with_reducible apply State.setEnd_keeps)
                 | (with_reducible apply State.finishSt_keeps) | (with_reducible apply State.modNs_keeps)
                 | (intro _ _ _) | (intro _ _) | (simp only [keeps_mk])
                 | (with_reducible refine keeps_snd (by assumption) ?_)
                 | (with_reducible refine keeps_snd2 (by assumption) ?_) | split)

theorem State.getFeatures_keeps {z0 : State} (s : State) (no : Nat) (x : Xfer) (kpt : z0.Keeps s) :
    z0.Keeps (State.getFeatures s no x) := by
  unfold State.getFeatures
  generalize s.adminCmd no 10 = o
  cases o with
  | none => exact kpt
  | some c =>
    have kf := fun st => State.finishSt_keeps (z0 := z0) s no st kpt
    have kg := fun r => State.finish_keeps (z0 := z0) s no r kpt
    dsimp -zeta only
    extract_lets f sel y ctl perNs
    refine keeps_ite (fun _ => kpt) (fun _ => keeps_ite (fun _ => kf _) (fun _ => keeps_ite (fun _ => kf _) (fun _ => keeps_ite
      (fun _ => kf _) (fun _ => keeps_ite (fun _ => kf _) (fun _ => keeps_ite (fun _ => kf _) (fun _ => keeps_ite (fun _ => kg _)
      (fun _ => ?_)))))))
    extract_lets
    exact keeps_ite (fun _ => kg _) (fun _ => State.adminXfer_keeps _ _ _ _ kpt (fun t ht => State.finish_keeps _ _ _ ht))

theorem State.asyncReq_keeps {z0 : State} (s : State) (no : Nat) (kpt : z0.Keeps s) :
    z0.Keeps (State.asyncReq s no) := by
  unfold State.asyncReq
  repeat' (first | (with_reducible assumption) | (with_reducible apply State.finishSt_keeps)
                 | (with_reducible apply State.modCtl_keeps) | (with_reducible apply State.finish_keeps)
                 | (with_reducible apply State.modCmd_keeps) | (intro _ _ _) | (intro _ _) | (simp only [keeps_mk])
                 | (with_reducible refine keeps_snd (by assumption) ?_)
                 | (with_reducible refine keeps_snd2 (by assumption) ?_) | split)

theorem State.clearRun_keeps {z0 : State} (s : State) (base : Nat) (y1 : Nat) (kpt : z0.Keeps s) :
    z0.Keeps (State.clearRun s base y1).2 := by
  induction y1 generalizing s with
  | zero => exact kpt
  | succ k ih =>
    have h1 := ih s kpt
    unfold State.clearRun
    generalize s.clearRun base k = p at h1 ⊢
    obtain ⟨ok, s1⟩ := p
    dsimp only
    split
    · exact h1
    · exact State.rtUpdate_keeps _ _ _ _ _ _ h1

theorem State.nsMade_keeps {z0 : State} (s : State) (no : Nat) (n : NsSt) (kpt : z0.Keeps s) :
    z0.Keeps (State.nsMade s no n) := by
  unfold State.nsMade
  try dsimp only
  repeat' (first | (with_reducible assumption) | (with_reducible apply State.modHif_keeps)
                 | (with_reducible apply State.ldgRaise_keeps) | (with_reducible apply State.raiseBoth_keeps)
                 | (with_reducible apply State.finish_keeps))

theorem State.nsCreate_keeps {z0 : State} (s : State) (no : Nat) (x : Xfer) (kpt : z0.Keeps s) :
    z0.Keeps (State.nsCreate s no x) := by
  unfold State.nsCreate
  try dsimp only
  repeat' (first | (with_reducible assumption) | (with_reducible apply State.finishSt_keeps)
                 | (with_reducible apply State.clearRun_keeps) | (with_reducible apply State.set_keeps)
                 | (with_reducible apply State.setFlag_keeps) | (with_reducible apply State.nsMade_keeps)
                 | (with_reducible apply State.setBand_keeps) | (with_reducible refine keeps_foldl ?_ ?_)
                 | (intro _ _ _) | (intro _ _) | (simp only [keeps_mk])
                 | (with_reducible refine keeps_snd (by assumption) ?_)
                 | (with_reducible refine keeps_snd2 (by assumption) ?_) | split)

theorem State.nsDrop_keeps {z0 : State} (s : State) (n : NsSt) (kpt : z0.Keeps s) :
    z0.Keeps (State.nsDrop s n) := by
  unfold State.nsDrop
  try dsimp only
  repeat' (first | (with_reducible assumption) | (with_reducible apply State.freeBufs_keeps)
                 | (with_reducible apply State.finishSt_keeps) | (with_reducible apply State.uncache_keeps)
                 | (with_reducible apply State.leftDone_keeps) | (with_reducible apply State.unmapStripe_keeps)
                 | (with_reducible apply State.setFlag_keeps) | (with_reducible apply State.setBand_keeps)
                 | (with_reducible apply State.modHif_keeps) | (with_reducible apply State.ldgRaise_keeps)
                 | (with_reducible apply State.flushCheck_keeps) | (with_reducible refine keeps_foldl ?_ ?_)
                 | (intro _ _ _) | (intro _ _) | (simp only [keeps_mk]) | split)

theorem State.nsManage_keeps {z0 : State} (s : State) (no : Nat) (x : Xfer) (kpt : z0.Keeps s) :
    z0.Keeps (State.nsManage s no x) := by
  unfold State.nsManage
  try dsimp only
  repeat' (first | (with_reducible assumption) | (with_reducible apply State.adminXfer_keeps)
                 | (with_reducible apply State.nsCreate_keeps) | (with_reducible apply State.finishSt_keeps)
                 | (with_reducible apply State.nsDrop_keeps) | (with_reducible apply State.raiseBoth_keeps)
                 | (with_reducible refine keeps_foldl ?_ ?_) | (intro _ _ _) | (intro _ _) | (simp only [keeps_mk])
                 | (with_reducible refine keeps_snd (by assumption) ?_)
                 | (with_reducible refine keeps_snd2 (by assumption) ?_) | split)

theorem State.nsAttach_keeps {z0 : State} (s : State) (no : Nat) (x : Xfer) (kpt : z0.Keeps s) :
    z0.Keeps (State.nsAttach s no x) := by
  unfold State.nsAttach
  try dsimp only
  repeat' (first | (with_reducible assumption) | (with_reducible apply State.finishSt_keeps)
                 | (with_reducible apply State.adminXfer_keeps) | (with_reducible apply State.modNs_keeps)
                 | (with_reducible apply State.set_keeps) | (with_reducible apply State.raiseBoth_keeps)
                 | (with_reducible refine keeps_foldl ?_ ?_) | (intro _ _ _) | (intro _ _) | (simp only [keeps_mk])
                 | (with_reducible refine keeps_snd (by assumption) ?_)
                 | (with_reducible refine keeps_snd2 (by assumption) ?_) | split)

theorem State.downloadPiece_keeps {z0 : State} (s t : State) (k ofs : Nat) (bs : List Byte) (kpt : z0.Keeps s)
    (e : s.downloadPiece k ofs bs = some t) : z0.Keeps t := by
  unfold State.downloadPiece at e
  extract_lets n mine last top late e1 at e
  clear_value late top last mine n
  by_cases c : ofs % 4096 ≠ 0 ∨ top < ofs + n ∨ late
  · rw [if_pos c] at e
    cases e
  · rw [if_neg c] at e
    clear_value e1
    cases e
    exact keeps_mk.2 kpt

theorem State.download_keeps {z0 : State} (s : State) (no : Nat) (x : Xfer) (kpt : z0.Keeps s) :
    z0.Keeps (State.download s no x) := by
  unfold State.download
  generalize s.adminCmd no 17 = o
  cases o with
  | none => exact kpt
  | some c =>
    refine State.adminXfer_keeps _ _ _ _ kpt (fun t ht => ?_)
    have hz := fun u => State.downloadPiece_keeps (z0 := z0) t u c.ctrl (4 * c.dw 1) (takeAt x.data 0 (4 * (c.dw 0 + 1))) ht
    generalize t.downloadPiece c.ctrl (4 * c.dw 1) (takeAt x.data 0 (4 * (c.dw 0 + 1))) = o at hz ⊢
    cases o with
    | some t1 => exact State.finishSt_keeps _ _ _ (hz _ rfl)
    | none => exact State.finishSt_keeps _ _ _ ht

theorem State.firmwareCommit_keeps {z0 : State} (s : State) (no : Nat) (kpt : z0.Keeps s) :
    z0.Keeps (State.firmwareCommit s no) := by
  unfold State.firmwareCommit
  repeat' (first | (with_reducible assumption) | (with_reducible apply State.commit_keeps) | (intro _ _ _)
                 | (intro _ _) | (with_reducible refine keeps_snd (by assumption) ?_)
                 | (with_reducible refine keeps_snd2 (by assumption) ?_) | split)

theorem State.activationTimeout_keeps {z0 : State} (s : State) (kpt : z0.Keeps s) :
    z0.Keeps (State.activationTimeout s) := by
  unfold State.activationTimeout
  repeat' (first | (with_reducible assumption) | (with_reducible apply State.modHif_keeps)
                 | (with_reducible apply State.finishSt_keeps) | (intro _ _ _) | (intro _ _) | (simp only [keeps_mk])
                 | (with_reducible refine keeps_snd (by assumption) ?_)
                 | (with_reducible refine keeps_snd2 (by assumption) ?_) | split)

theorem State.selfTest_keeps {z0 : State} (s : State) (no : Nat) (kpt : z0.Keeps s) :
    z0.Keeps (State.selfTest s no) := by
  unfold State.selfTest
  repeat' (first | (with_reducible assumption) | (with_reducible apply State.modHif_keeps)
                 | (with_reducible apply State.take_keeps) | (with_reducible apply State.finishSt_keeps)
                 | (intro _ _ _) | (intro _ _) | (simp only [keeps_mk])
                 | (with_reducible refine keeps_snd (by assumption) ?_)
                 | (with_reducible refine keeps_snd2 (by assumption) ?_) | split)

theorem State.selfTestEnd_keeps {z0 : State} (s : State) (r : Nat) (kpt : z0.Keeps s) :
    z0.Keeps (State.selfTestEnd s r) := by
  unfold State.selfTestEnd
  repeat' (first | (with_reducible assumption) | (with_reducible apply State.selfTest_keeps)
                 | (with_reducible apply State.modHif_keeps) | (with_reducible apply State.take_keeps) | (intro _ _ _)
                 | (intro _ _) | (simp only [keeps_mk]) | split)

theorem State.directiveSend_keeps {z0 : State} (s : State) (no : Nat) (x : Xfer) (kpt : z0.Keeps s) :
    z0.Keeps (State.directiveSend s no x) := by
  unfold State.directiveSend
  try dsimp only
  repeat' (first | (with_reducible assumption) | (with_reducible apply State.finishSt_keeps)
                 | (with_reducible apply State.adminXfer_keeps) | (with_reducible apply State.setFeat_keeps)
                 | (with_reducible apply State.modCtl_keeps) | (intro _ _ _) | (intro _ _) | (simp only [keeps_mk])
                 | (with_reducible refine keeps_snd (by assumption) ?_)
                 | (with_reducible refine keeps_snd2 (by assumption) ?_) | split)

theorem State.directiveReceive_keeps {z0 : State} (s : State) (no : Nat) (x : Xfer) (kpt : z0.Keeps s) :
    z0.Keeps (State.directiveReceive s no x) := by
  unfold State.directiveReceive
  try dsimp only
  repeat' (first | (with_reducible assumption) | (with_reducible apply State.giveData_keeps)
                 | (with_reducible apply State.draw_keeps) | (with_reducible apply State.finish_keeps)
                 | (with_reducible apply State.finishSt_keeps) | (intro _ _ _) | (intro _ _) | (simp only [keeps_mk])
                 | (with_reducible refine keeps_snd (by assumption) ?_)
                 | (with_reducible refine keeps_snd2 (by assumption) ?_) | split)

theorem State.unlockChallenge_keeps {z0 : State} (s : State) (no : Nat) (kpt : z0.Keeps s) :
    z0.Keeps (State.unlockChallenge s no) := by
  unfold State.unlockChallenge
  repeat' (first | (with_reducible assumption) | (with_reducible apply State.finishSt_keeps)
                 | (with_reducible apply State.challenge_keeps) | (with_reducible apply State.finish_keeps)
                 | (simp only [keeps_mk]) | (with_reducible refine keeps_snd (by assumption) ?_)
                 | (with_reducible refine keeps_snd2 (by assumption) ?_) | split)

theorem State.unlockResponse_keeps {z0 : State} (s : State) (no : Nat) (x : Xfer) (kpt : z0.Keeps s) :
    z0.Keeps (State.unlockResponse s no x) := by
  unfold State.unlockResponse
  try dsimp only
  repeat' (first | (with_reducible assumption) | (with_reducible apply State.finishSt_keeps)
                 | (with_reducible apply State.adminXfer_keeps) | (with_reducible apply State.respond_keeps)
                 | (intro _ _ _) | (intro _ _) | (with_reducible refine keeps_snd (by assumption) ?_)
                 | (with_reducible refine keeps_snd2 (by assumption) ?_) | split)

/-! ### Ctl -/

theorem State.ctlReady_keeps {z0 : State} (s : State) (n : Nat) (kpt : z0.Keeps s) :
    z0.Keeps (State.ctlReady s n) := by
  unfold State.ctlReady
  try dsimp only
  repeat' (first | (with_reducible assumption) | (with_reducible apply State.modCtl_keeps)
                 | (with_reducible apply State.hifShow_keeps) | (intro _ _ _) | (intro _ _) | (simp only [keeps_mk])
                 | split)

theorem State.ctlEnable_keeps {z0 : State} (s : State) (n : Nat) (cc : Nat) (aqa : Nat) (kpt : z0.Keeps s) :
    z0.Keeps (State.ctlEnable s n cc aqa) := by
  unfold State.ctlEnable
  try dsimp only
  repeat' (first | (with_reducible assumption) | (with_reducible apply State.modCtl_keeps)
                 | (with_reducible apply State.ldgProtocol_keeps) | (with_reducible apply State.hifShow_keeps)
                 | (with_reducible apply State.ctlReady_keeps) | (intro _ _ _) | (intro _ _) | (simp only [keeps_mk])
                 | split)

theorem State.ctlReset_keeps {z0 : State} (s : State) (n : Nat) (cc : Nat) (kpt : z0.Keeps s) :
    z0.Keeps (State.ctlReset s n cc) := by
  unfold State.ctlReset
  try dsimp only
  repeat' (first | (with_reducible assumption) | (with_reducible apply State.modHif_keeps)
                 | (with_reducible apply State.cmdDrop_keeps) | (with_reducible apply State.modCtl_keeps)
                 | (with_reducible apply State.dlClear_keeps) | (with_reducible apply State.cvyHostGone_keeps)
                 | (with_reducible apply State.resvSettle_keeps) | (with_reducible apply State.flushCheck_keeps)
                 | (with_reducible apply State.acquireCheck_keeps) | (with_reducible apply State.hifShow_keeps)
                 | (with_reducible refine keeps_foldl ?_ ?_) | (intro _ _ _) | (intro _ _) | (simp only [keeps_mk])
                 | (with_reducible refine keeps_snd (by assumption) ?_)
                 | (with_reducible refine keeps_snd2 (by assumption) ?_) | split)

theorem State.ctlDisable_keeps {z0 : State} (s : State) (n : Nat) (cc : Nat) (kpt : z0.Keeps s) :
    z0.Keeps (State.ctlDisable s n cc) := by
  unfold State.ctlDisable
  repeat' (first | (with_reducible assumption) | (with_reducible apply State.ctlReset_keeps) | split)

theorem State.ctlResetDone_keeps {z0 : State} (s : State) (n : Nat) (kpt : z0.Keeps s) :
    z0.Keeps (State.ctlResetDone s n) := by
  unfold State.ctlResetDone
  repeat' (first | (with_reducible assumption) | (with_reducible apply State.modCtl_keeps)
                 | (with_reducible apply State.ctlReady_keeps) | (with_reducible apply State.hifShow_keeps)
                 | (intro _ _ _) | (intro _ _) | (simp only [keeps_mk]) | split)

theorem State.portReset_keeps {z0 : State} (s : State) (n : Nat) (kind : PortReset) (kpt : z0.Keeps s) :
    z0.Keeps (State.portReset s n kind) := by
  unfold State.portReset
  try dsimp only
  repeat' (first | (with_reducible assumption) | (with_reducible apply State.fault_keeps)
                 | (with_reducible apply State.setFlag_keeps) | (with_reducible apply State.set_keeps)
                 | (with_reducible apply State.modHif_keeps) | (with_reducible apply State.ctlReset_keeps)
                 | (intro _ _ _) | (intro _ _) | (simp only [keeps_mk]) | split)

theorem State.subsystemReset_keeps {z0 : State} (s : State) (value : Nat) (kpt : z0.Keeps s) :
    z0.Keeps (State.subsystemReset s value) := by
  unfold State.subsystemReset
  try dsimp only
  repeat' (first | (with_reducible assumption) | (with_reducible apply State.ctlReset_keeps)
                 | (with_reducible apply State.modHif_keeps) | (with_reducible apply State.pathLock_keeps)
                 | (with_reducible refine keeps_foldl ?_ ?_) | (intro _ _ _) | (intro _ _) | (simp only [keeps_mk])
                 | split)

theorem State.shutdown_keeps {z0 : State} (s : State) (n : Nat) (cc : Nat) (kpt : z0.Keeps s) :
    z0.Keeps (State.shutdown s n cc) := by
  unfold State.shutdown
  try dsimp only
  repeat' (first | (with_reducible assumption) | (with_reducible apply State.modCtl_keeps)
                 | (with_reducible apply State.modHif_keeps) | (with_reducible apply State.hifShow_keeps)
                 | (intro _ _ _) | (intro _ _) | (simp only [keeps_mk]) | split)

theorem State.shutdownEnd_keeps {z0 : State} (s : State) (n : Nat) (kpt : z0.Keeps s) :
    z0.Keeps (State.shutdownEnd s n) := by
  unfold State.shutdownEnd
  try dsimp only
  repeat' (first | (with_reducible assumption) | (with_reducible apply State.modCtl_keeps)
                 | (with_reducible apply State.hifShow_keeps) | (with_reducible apply State.modSys_keeps)
                 | (with_reducible apply State.modeGo_keeps) | (intro _ _ _) | (intro _ _) | (simp only [keeps_mk])
                 | split)

theorem State.shutdownDone_keeps {z0 : State} (s : State) (n : Nat) (kpt : z0.Keeps s) :
    z0.Keeps (State.shutdownDone s n) := by
  unfold State.shutdownDone
  repeat' (first | (with_reducible assumption) | (with_reducible apply State.shutdownEnd_keeps) | (intro _ _ _)
                 | (intro _ _) | (with_reducible refine keeps_snd (by assumption) ?_)
                 | (with_reducible refine keeps_snd2 (by assumption) ?_) | split)

theorem State.failWaiting_keeps {z0 : State} (s : State) (t : Nat) (kpt : z0.Keeps s) :
    z0.Keeps (State.failWaiting s t) := by
  unfold State.failWaiting
  try dsimp only
  repeat' (first | (with_reducible assumption) | (with_reducible apply State.finishSt_keeps)
                 | (with_reducible apply State.modHif_keeps) | (with_reducible refine keeps_foldl ?_ ?_)
                 | (intro _ _ _))

theorem State.abruptTimeout_keeps {z0 : State} (s : State) (n : Nat) (kpt : z0.Keeps s) :
    z0.Keeps (State.abruptTimeout s n) := by
  unfold State.abruptTimeout
  repeat' (first | (with_reducible assumption) | (with_reducible apply State.failWaiting_keeps)
                 | (with_reducible apply State.loseCache_keeps) | (with_reducible apply State.flushCheck_keeps)
                 | (with_reducible apply State.shutdownDone_keeps)
                 | (with_reducible refine keeps_snd (by assumption) ?_)
                 | (with_reducible refine keeps_snd2 (by assumption) ?_) | split)

theorem State.doorbellBad_keeps {z0 : State} (s : State) (n : Nat) (info : Nat) (kpt : z0.Keeps s) :
    z0.Keeps (State.doorbellBad s n info) := by
  unfold State.doorbellBad
  repeat' (first | (with_reducible assumption) | (with_reducible apply State.fault_keeps)
                 | (with_reducible apply State.raiseEv_keeps) | (with_reducible apply State.ldgProtocol_keeps))

theorem State.sqDoorbell_keeps {z0 : State} (s : State) (n : Nat) (y : Nat) (v : Nat) (kpt : z0.Keeps s) :
    z0.Keeps (State.sqDoorbell s n y v) := by
  unfold State.sqDoorbell
  try dsimp only
  repeat' (first | (with_reducible assumption) | (with_reducible apply State.doorbellBad_keeps)
                 | (with_reducible apply State.modCtl_keeps) | (with_reducible apply State.modSq_keeps)
                 | (intro _ _ _) | (intro _ _) | (simp only [keeps_mk])
                 | (with_reducible refine keeps_snd (by assumption) ?_)
                 | (with_reducible refine keeps_snd2 (by assumption) ?_) | split)

theorem State.cqDoorbell_keeps {z0 : State} (s : State) (n : Nat) (y : Nat) (v : Nat) (kpt : z0.Keeps s) :
    z0.Keeps (State.cqDoorbell s n y v) := by
  unfold State.cqDoorbell
  try dsimp only
  repeat' (first | (with_reducible assumption) | (with_reducible apply State.doorbellBad_keeps)
                 | (with_reducible apply State.modCtl_keeps) | (with_reducible apply State.cqDrain_keeps)
                 | (intro _ _ _) | (intro _ _) | (simp only [keeps_mk])
                 | (with_reducible refine keeps_snd (by assumption) ?_)
                 | (with_reducible refine keeps_snd2 (by assumption) ?_) | split)

theorem State.perst_keeps {z0 : State} (s : State) (n : Nat) (high : Bool) (kpt : z0.Keeps s) :
    z0.Keeps (State.perst s n high) := by
  unfold State.perst
  try dsimp only
  repeat' (first | (with_reducible assumption) | (with_reducible apply State.set_keeps))

theorem State.perstLow_keeps {z0 : State} (s : State) (n : Nat) (kpt : z0.Keeps s) :
    z0.Keeps (State.perstLow s n) := by
  unfold State.perstLow
  repeat' (first | (with_reducible assumption) | (with_reducible apply State.perst_keeps)
                 | (with_reducible apply State.portReset_keeps) | split)

theorem State.linkTraining_keeps {z0 : State} (s : State) (n : Nat) (kpt : z0.Keeps s) :
    z0.Keeps (State.linkTraining s n) := by
  unfold State.linkTraining
  repeat' (first | (with_reducible assumption) | (with_reducible apply State.perst_keeps)
                 | (with_reducible apply State.modHif_keeps) | (with_reducible apply State.set_keeps) | (intro _ _ _)
                 | (intro _ _) | (simp only [keeps_mk]) | split)

theorem State.linkUp_keeps {z0 : State} (s : State) (n : Nat) (speed : Nat) (width : Nat) (recoveries : Nat)
    (kpt : z0.Keeps s) :
    z0.Keeps (State.linkUp s n speed width recoveries) := by
  unfold State.linkUp
  try dsimp only
  repeat' (first | (with_reducible assumption) | (with_reducible apply State.setFlag_keeps)
                 | (with_reducible apply State.set_keeps) | (with_reducible apply State.bump_keeps)
                 | (with_reducible apply State.modHif_keeps) | (intro _ _ _) | (intro _ _) | (simp only [keeps_mk])
                 | split)

theorem State.aerUncorrectable_keeps {z0 : State} (s : State) (n : Nat) (kpt : z0.Keeps s) :
    z0.Keeps (State.aerUncorrectable s n) := by
  unfold State.aerUncorrectable
  repeat' (first | (with_reducible assumption) | (with_reducible apply State.fault_keeps) | split)

theorem State.smbErr_keeps {z0 : State} (s : State) (kpt : z0.Keeps s) :
    z0.Keeps (State.smbErr s) := by
  unfold State.smbErr
  repeat' (first | (with_reducible assumption) | (with_reducible apply State.fault_keeps)
                 | (with_reducible apply State.ldgProtocol_keeps))

theorem State.smbAnswer_keeps {z0 : State} (s : State) (pec : Bool) (bs : List Byte) (kpt : z0.Keeps s) :
    z0.Keeps (State.smbAnswer s pec bs) := by
  unfold State.smbAnswer
  try dsimp only
  repeat' (first | (with_reducible assumption) | (with_reducible apply State.modHif_keeps)
                 | (with_reducible apply State.smbErr_keeps) | (intro _ _ _) | (intro _ _) | (simp only [keeps_mk])
                 | split)

theorem State.smbRead_keeps {z0 : State} (s : State) (code : Nat) (pec : Bool) (kpt : z0.Keeps s) :
    z0.Keeps (State.smbRead s code pec) := by
  unfold State.smbRead
  try dsimp only
  repeat' (first | (with_reducible assumption) | (with_reducible apply State.smbAnswer_keeps) | (simp only [keeps_mk])
                 | split)

theorem State.smbOffset_keeps {z0 : State} (s : State) (bs : List Byte) (pec : Bool) (kpt : z0.Keeps s) :
    z0.Keeps (State.smbOffset s bs pec) := by
  unfold State.smbOffset
  try dsimp only
  repeat' (first | (with_reducible assumption) | (with_reducible apply State.smbErr_keeps) | (simp only [keeps_mk]) | split)

theorem State.smbLedger_keeps {z0 : State} (s : State) (pec : Bool) (kpt : z0.Keeps s) :
    z0.Keeps (State.smbLedger s pec) := by
  unfold State.smbLedger
  try dsimp only
  repeat' (first | (with_reducible assumption) | (with_reducible apply State.smbAnswer_keeps) | (simp only [keeps_mk])
                 | split)

theorem State.smbStatus_keeps {z0 : State} (s : State) (pec : Bool) (kpt : z0.Keeps s) :
    z0.Keeps (State.smbStatus s pec) := by
  unfold State.smbStatus
  repeat' (first | (with_reducible assumption) | (with_reducible apply State.smbAnswer_keeps) | split)

end Sys2Proof.Machine
end

