-- ==== Sys2Proof/Laws/KeepsDevice.lean ====
section
/-!
SUPPORT. Keeps, one lemma for each operation of a block: containment, the array codes, settling, register accesses, and the device resets.
The lemma of an operation says that it keeps the time base and the canonical form of the stores.
-/

namespace Sys2Proof.Machine

open Sys2Proof

set_option simprocs false

/-! ### Contain -/

theorem State.modFlt_keeps {z0 : State} (s : State) (f : FltSt → FltSt) (kpt : z0.Keeps s) :
    z0.Keeps (State.modFlt s f) := by
  unfold State.modFlt
  repeat' (first | (with_reducible assumption) | (simp only [keeps_mk]))

theorem State.cvyResume_keeps {z0 : State} (s : State) (e : Nat) (c : Nat) (kpt : z0.Keeps s) :
    z0.Keeps (State.cvyResume s e c) := by
  unfold State.cvyResume
  try dsimp only
  repeat' (first | (with_reducible assumption) | (with_reducible apply State.set_keeps)
                 | (with_reducible apply State.cvyCtrl_keeps) | split)

theorem State.cvyMoveOne_keeps {z0 : State} (s : State) (e : Nat) (c : Nat) (kpt : z0.Keeps s) :
    z0.Keeps (State.cvyMoveOne s e c) := by
  unfold State.cvyMoveOne
  try dsimp only
  repeat' (first | (with_reducible assumption) | (with_reducible apply State.laneShare_keeps)
                 | (with_reducible apply State.set_keeps) | (with_reducible apply State.orBits_keeps)
                 | (with_reducible apply State.cvyCtrl_keeps) | (with_reducible apply State.cvyOff_keeps)
                 | (with_reducible refine keeps_snd (by assumption) ?_)
                 | (with_reducible refine keeps_snd2 (by assumption) ?_) | split)

theorem State.cvyMove_keeps {z0 : State} (s : State) (e : Nat) (kpt : z0.Keeps s) :
    z0.Keeps (State.cvyMove s e) := by
  unfold State.cvyMove
  repeat' (first | (with_reducible assumption) | (with_reducible apply State.cvyMoveOne_keeps)
                 | (with_reducible refine keeps_foldl ?_ ?_) | (intro _ _ _))

theorem State.runAgain_keeps {z0 : State} (s : State) (w : LostWork) (kpt : z0.Keeps s) :
    z0.Keeps (State.runAgain s w).2 := by
  unfold State.runAgain
  repeat' (first | (with_reducible assumption) | (with_reducible apply State.arm_keeps)
                 | (with_reducible apply State.modSq_keeps) | (with_reducible apply State.take_keeps)
                 | (with_reducible apply State.depRequest_keeps) | (with_reducible apply State.rteRequest_keeps)
                 | (with_reducible apply State.compGo_keeps) | (with_reducible apply State.decompGo_keeps)
                 | (with_reducible apply State.cvyResume_keeps) | (intro _ _ _) | (intro _ _) | (simp only [keeps_mk])
                 | (with_reducible refine keeps_snd (by assumption) ?_)
                 | (with_reducible refine keeps_snd2 (by assumption) ?_) | split)

theorem State.runLost_keeps {z0 : State} (s : State) (u : CUnit) (kpt : z0.Keeps s) :
    z0.Keeps (State.runLost s u) := by
  unfold State.runLost
  try dsimp only
  repeat' (first | (with_reducible assumption) | (with_reducible apply State.runAgain_keeps)
                 | (with_reducible refine keeps_foldl ?_ ?_) | (intro _ _ _) | (intro _ _) | (simp only [keeps_mk])
                 | (with_reducible refine keeps_snd (by assumption) ?_)
                 | (with_reducible refine keeps_snd2 (by assumption) ?_) | split)

theorem State.unitReset_keeps {z0 : State} (s : State) (u : CUnit) (kpt : z0.Keeps s) :
    z0.Keeps (State.unitReset s u) := by
  unfold State.unitReset
  repeat' (first | (with_reducible assumption) | (with_reducible apply State.chContain_keeps)
                 | (with_reducible apply State.decReset_keeps) | (with_reducible apply State.set_keeps)
                 | (with_reducible apply State.decCheck_keeps) | (with_reducible apply State.sqContain_keeps)
                 | (with_reducible apply State.cleContain_keeps) | (with_reducible apply State.spnContain_keeps)
                 | (with_reducible apply State.depContain_keeps) | (with_reducible apply State.cvyContain_keeps)
                 | (with_reducible apply State.compContain_keeps) | (with_reducible apply State.decompContain_keeps)
                 | (with_reducible apply State.rteContain_keeps)
                 | (with_reducible refine keeps_snd (by assumption) ?_)
                 | (with_reducible refine keeps_snd2 (by assumption) ?_) | split)

theorem State.unitRestart_keeps {z0 : State} (s : State) (u : CUnit) (kpt : z0.Keeps s) :
    z0.Keeps (State.unitRestart s u) := by
  unfold State.unitRestart
  repeat' (first | (with_reducible assumption) | (with_reducible apply State.chRestart_keeps)
                 | (with_reducible apply State.sqStart_keeps) | (with_reducible apply State.spnRestart_keeps)
                 | (with_reducible apply State.depRestart_keeps) | (with_reducible apply State.cvyRestart_keeps)
                 | (with_reducible apply State.rteRun_keeps) | (with_reducible refine keeps_snd (by assumption) ?_)
                 | (with_reducible refine keeps_snd2 (by assumption) ?_) | split)

theorem State.leaveService_keeps {z0 : State} (s : State) (u : CUnit) (kpt : z0.Keeps s) :
    z0.Keeps (State.leaveService s u) := by
  unfold State.leaveService
  try dsimp only
  repeat' (first | (with_reducible assumption) | (with_reducible apply State.setFlag_keeps)
                 | (with_reducible apply State.decCheck_keeps) | (with_reducible apply State.deepCheck_keeps)
                 | (with_reducible apply State.sqStopReq_keeps) | (with_reducible apply State.actUnload_keeps)
                 | (with_reducible apply State.limpEntry_keeps) | (with_reducible apply State.clrBits_keeps)
                 | (with_reducible apply State.cvyMove_keeps) | (with_reducible refine keeps_snd (by assumption) ?_)
                 | (with_reducible refine keeps_snd2 (by assumption) ?_) | split)

theorem State.joinService_keeps {z0 : State} (s : State) (u : CUnit) (kpt : z0.Keeps s) :
    z0.Keeps (State.joinService s u) := by
  unfold State.joinService
  repeat' (first | (with_reducible assumption) | (with_reducible apply State.setFlag_keeps)
                 | (with_reducible apply State.orBits_keeps) | (with_reducible refine keeps_snd (by assumption) ?_)
                 | (with_reducible refine keeps_snd2 (by assumption) ?_) | split)

theorem State.escalateClear_keeps {z0 : State} (s : State) (kpt : z0.Keeps s) :
    z0.Keeps (State.escalateClear s) := by
  unfold State.escalateClear
  try dsimp only
  repeat' (first | (with_reducible assumption) | (with_reducible apply State.joinService_keeps)
                 | (with_reducible apply State.modFlt_keeps) | (with_reducible refine keeps_foldl ?_ ?_))

theorem State.contain_keeps {z0 : State} (s : State) (u : CUnit) (kpt : z0.Keeps s) :
    z0.Keeps (State.contain s u) := by
  unfold State.contain
  try dsimp only
  repeat' (first | (with_reducible assumption) | (with_reducible apply State.modFlt_keeps)
                 | (with_reducible apply State.unitReset_keeps) | (with_reducible apply State.fault_keeps)
                 | (with_reducible apply State.leaveService_keeps) | (intro _ _ _) | (intro _ _)
                 | (simp only [keeps_mk]) | split)

theorem State.snapAdd_keeps {z0 : State} (s : State) (e : SnapEntry) (kpt : z0.Keeps s) :
    z0.Keeps (State.snapAdd s e) := by
  unfold State.snapAdd
  repeat' (first | (with_reducible assumption) | (with_reducible apply State.modFlt_keeps))

theorem State.snapReturn_keeps {z0 : State} (s : State) (u : Option CUnit) (extra : Nat) (kpt : z0.Keeps s) :
    z0.Keeps (State.snapReturn s u extra) := by
  unfold State.snapReturn
  try dsimp only
  repeat' (first | (with_reducible assumption) | (with_reducible apply State.modFlt_keeps)
                 | (with_reducible apply State.snapAdd_keeps) | (with_reducible refine keeps_foldl ?_ ?_)
                 | (intro _ _ _))

theorem State.containEnd_keeps {z0 : State} (s : State) (u : CUnit) (kpt : z0.Keeps s) :
    z0.Keeps (State.containEnd s u) := by
  unfold State.containEnd
  try dsimp only
  repeat' (first | (with_reducible assumption) | (with_reducible apply State.modFlt_keeps)
                 | (with_reducible apply State.unitRestart_keeps) | (with_reducible apply State.snapReturn_keeps)
                 | (with_reducible apply State.runLost_keeps) | (with_reducible apply State.contain_keeps)
                 | (intro _ _ _) | (intro _ _) | (simp only [keeps_mk])
                 | (with_reducible refine keeps_snd (by assumption) ?_)
                 | (with_reducible refine keeps_snd2 (by assumption) ?_) | split)

theorem State.depBack_keeps {z0 : State} (s : State) (kpt : z0.Keeps s) :
    z0.Keeps (State.depBack s) := by
  unfold State.depBack
  repeat' (first | (with_reducible assumption) | (with_reducible apply State.depRebuilt_keeps)
                 | (with_reducible apply State.snapReturn_keeps) | split)

theorem State.containRequest_keeps {z0 : State} (s : State) (v : Nat) (kpt : z0.Keeps s) :
    z0.Keeps (State.containRequest s v) := by
  unfold State.containRequest
  repeat' (first | (with_reducible assumption) | (with_reducible apply State.contain_keeps)
                 | (with_reducible refine keeps_snd (by assumption) ?_)
                 | (with_reducible refine keeps_snd2 (by assumption) ?_) | split)

theorem State.coreStop_keeps {z0 : State} (s : State) (kpt : z0.Keeps s) :
    z0.Keeps (State.coreStop s) := by
  unfold State.coreStop
  try dsimp only
  repeat' (first | (with_reducible assumption) | (with_reducible apply State.retractAll_keeps)
                 | (with_reducible apply State.spnBrake_keeps) | (with_reducible apply State.modCtl_keeps)
                 | (with_reducible apply State.set_keeps) | (with_reducible apply State.setFlag_keeps)
                 | (with_reducible apply State.modSys_keeps) | (with_reducible apply State.archShow_keeps)
                 | (with_reducible apply State.modFlt_keeps) | (with_reducible apply State.attnAssert_keeps)
                 | (with_reducible apply State.ldgLastWord_keeps) | (with_reducible refine keeps_foldl ?_ ?_)
                 | (intro _ _ _))

theorem State.switchover_keeps {z0 : State} (s : State) (kpt : z0.Keeps s) :
    z0.Keeps (State.switchover s) := by
  unfold State.switchover
  try dsimp only
  repeat' (first | (with_reducible assumption) | (with_reducible apply State.coreStop_keeps)
                 | (with_reducible apply State.set_keeps) | (with_reducible apply State.bump_keeps)
                 | (with_reducible apply State.set64_keeps) | (with_reducible apply State.modFlt_keeps)
                 | (with_reducible apply State.fault_keeps) | (intro _ _ _) | (intro _ _) | (simp only [keeps_mk])
                 | split)

theorem State.pairDegrade_keeps {z0 : State} (s : State) (p : Nat) (kpt : z0.Keeps s) :
    z0.Keeps (State.pairDegrade s p) := by
  unfold State.pairDegrade
  repeat' (first | (with_reducible assumption) | (with_reducible apply State.set_keeps)
                 | (with_reducible apply State.fault_keeps))

theorem State.mismatch_keeps {z0 : State} (s : State) (p : Nat) (kpt : z0.Keeps s) :
    z0.Keeps (State.mismatch s p) := by
  unfold State.mismatch
  repeat' (first | (with_reducible assumption) | (with_reducible apply State.fault_keeps)
                 | (with_reducible apply State.switchover_keeps) | (with_reducible apply State.pairDegrade_keeps)
                 | split)

theorem State.watchdog_keeps {z0 : State} (s : State) (kpt : z0.Keeps s) :
    z0.Keeps (State.watchdog s) := by
  unfold State.watchdog
  repeat' (first | (with_reducible assumption) | (with_reducible apply State.fault_keeps)
                 | (with_reducible apply State.switchover_keeps) | split)

theorem State.watchdogKick_keeps {z0 : State} (s : State) (kpt : z0.Keeps s) :
    z0.Keeps (State.watchdogKick s) := by
  unfold State.watchdogKick
  repeat' (first | (with_reducible assumption) | (with_reducible apply State.modFlt_keeps))

theorem State.pairTested_keeps {z0 : State} (s : State) (p : Nat) (pass : Bool) (kpt : z0.Keeps s) :
    z0.Keeps (State.pairTested s p pass) := by
  unfold State.pairTested
  repeat' (first | (with_reducible assumption) | (with_reducible apply State.set_keeps)
                 | (with_reducible apply State.pairDegrade_keeps) | split)

theorem State.discardSome_keeps {z0 : State} (s : State) (kpt : z0.Keeps s) :
    z0.Keeps (State.discardSome s) := by
  unfold State.discardSome
  try dsimp only
  repeat' (first | (with_reducible assumption) | (with_reducible apply State.draw_keeps)
                 | (with_reducible apply State.freeBufs_keeps) | (with_reducible apply State.finishSt_keeps)
                 | (with_reducible refine keeps_foldl ?_ ?_) | (intro _ _ _) | (intro _ _)
                 | (with_reducible refine keeps_snd (by assumption) ?_)
                 | (with_reducible refine keeps_snd2 (by assumption) ?_) | split)

theorem State.reconcile_keeps {z0 : State} (s : State) (kpt : z0.Keeps s) :
    z0.Keeps (State.reconcile s) := by
  unfold State.reconcile
  repeat' (first | (with_reducible assumption) | (with_reducible apply State.discardSome_keeps)
                 | (with_reducible apply State.modFlt_keeps) | (with_reducible apply State.snapReturn_keeps)
                 | (intro _ _ _) | (intro _ _) | (simp only [keeps_mk])
                 | (with_reducible refine keeps_snd (by assumption) ?_)
                 | (with_reducible refine keeps_snd2 (by assumption) ?_) | split)

/-! ### EccAct -/

theorem State.routeRestore_keeps {z0 : State} (s : State) (i : Nat) (kpt : z0.Keeps s) :
    z0.Keeps (State.routeRestore s i) := by
  unfold State.routeRestore
  try dsimp only
  repeat' (first | (with_reducible assumption) | (with_reducible apply State.rtWrite_keeps)
                 | (with_reducible apply State.bandWord_keeps) | (with_reducible apply State.rtUnmap_keeps)
                 | (with_reducible apply State.rtMap_keeps) | (with_reducible apply State.loseSector_keeps)
                 | (with_reducible refine keeps_foldl ?_ ?_) | (intro _ _ _) | (intro _ _) | (simp only [keeps_mk])
                 | (with_reducible refine keeps_snd (by assumption) ?_)
                 | (with_reducible refine keeps_snd2 (by assumption) ?_) | split)

theorem State.bufAction_keeps {z0 : State} (s : State) (k : EccKey) (ue : Bool) (kpt : z0.Keeps s) :
    z0.Keeps (State.bufAction s k ue) := by
  unfold State.bufAction
  try dsimp only
  repeat' (first | (with_reducible assumption) | (with_reducible apply State.depRequest_keeps)
                 | (with_reducible apply State.loseSector_keeps) | (with_reducible apply State.contain_keeps)
                 | (with_reducible apply State.routeRestore_keeps) | (with_reducible apply State.setFlips_keeps)
                 | (with_reducible apply State.memWrite_keeps) | (with_reducible apply State.discardSome_keeps)
                 | (with_reducible refine keeps_foldl ?_ ?_) | (intro _ _ _) | (intro _ _) | (simp only [keeps_mk])
                 | (with_reducible refine keeps_snd (by assumption) ?_)
                 | (with_reducible refine keeps_snd2 (by assumption) ?_) | split)

theorem State.pairMemory_keeps {z0 : State} (s : State) (p : Nat) (ue : Bool) (kpt : z0.Keeps s) :
    z0.Keeps (State.pairMemory s p ue) := by
  unfold State.pairMemory
  try dsimp only
  repeat' (first | (with_reducible assumption) | (with_reducible apply State.switchover_keeps)
                 | (with_reducible apply State.pairDegrade_keeps) | split)

theorem State.slotRetire_keeps {z0 : State} (s : State) (no : Nat) (ue : Bool) (kpt : z0.Keeps s) :
    z0.Keeps (State.slotRetire s no ue) := by
  unfold State.slotRetire
  try dsimp only
  repeat' (first | (with_reducible assumption) | (with_reducible apply State.freeBufs_keeps)
                 | (with_reducible apply State.finishSt_keeps) | (with_reducible apply State.modHif_keeps)
                 | (intro _ _ _) | (intro _ _) | (simp only [keeps_mk])
                 | (with_reducible refine keeps_snd (by assumption) ?_)
                 | (with_reducible refine keeps_snd2 (by assumption) ?_) | split)

theorem State.laneMemory_keeps {z0 : State} (s : State) (n : Nat) (comp : Bool) (ue : Bool) (kpt : z0.Keeps s) :
    z0.Keeps (State.laneMemory s n comp ue) := by
  unfold State.laneMemory
  try dsimp only
  repeat' (first | (with_reducible assumption) | (with_reducible apply State.compDone_keeps)
                 | (with_reducible apply State.compAgain_keeps) | (with_reducible apply State.decompDone_keeps)
                 | (with_reducible apply State.decompAgain_keeps) | (with_reducible apply State.clrBits_keeps)
                 | split)

theorem State.sramAction_keeps {z0 : State} (s : State) (k : EccKey) (ue : Bool) (kpt : z0.Keeps s) :
    z0.Keeps (State.sramAction s k ue) := by
  unfold State.sramAction
  try dsimp only
  repeat' (first | (with_reducible assumption) | (with_reducible apply State.pairMemory_keeps)
                 | (with_reducible apply State.abandonJob_keeps) | (with_reducible apply State.setPoolRd_keeps)
                 | (with_reducible apply State.fault_keeps) | (with_reducible apply State.decReset_keeps)
                 | (with_reducible apply State.setFlag_keeps) | (with_reducible apply State.decCheck_keeps)
                 | (with_reducible apply State.contain_keeps) | (with_reducible apply State.slotRetire_keeps)
                 | (with_reducible apply State.laneMemory_keeps) | (with_reducible refine keeps_foldl ?_ ?_)
                 | (intro _ _ _) | (intro _ _) | (simp only [keeps_mk])
                 | (with_reducible refine keeps_snd (by assumption) ?_)
                 | (with_reducible refine keeps_snd2 (by assumption) ?_) | split)

theorem State.errorAction_keeps {z0 : State} (s : State) (i : Nat) (kpt : z0.Keeps s) :
    z0.Keeps (State.errorAction s i) := by
  unfold State.errorAction
  try dsimp only
  repeat' (first | (with_reducible assumption) | (with_reducible apply State.sramAction_keeps)
                 | (with_reducible apply State.bufAction_keeps) | (simp only [keeps_mk]) | split)

theorem State.clogRelease_keeps {z0 : State} (s : State) (m : Nat) (kpt : z0.Keeps s) :
    z0.Keeps (State.clogRelease s m) := by
  unfold State.clogRelease
  try dsimp only
  repeat' (first | (with_reducible assumption) | (with_reducible apply State.wr_keeps)
                 | (with_reducible refine keeps_foldl ?_ ?_) | (intro _ _ _) | (intro _ _) | (simp only [keeps_mk]))

/-! ### Settle -/

theorem State.faultRecord_keeps {z0 : State} (s : State) (a : SevAct) (b : Nat) (lvl : Nat) (kpt : z0.Keeps s) :
    z0.Keeps (State.faultRecord s a b lvl) := by
  unfold State.faultRecord
  repeat' (first | (with_reducible assumption) | (with_reducible apply State.ldgRaise_keeps))

theorem State.actHigh_keeps {z0 : State} (s : State) (a : SevAct) (kpt : z0.Keeps s) :
    z0.Keeps (State.actHigh s a) := by
  unfold State.actHigh
  try dsimp only
  repeat' (first | (with_reducible assumption) | (with_reducible apply State.raiseBoth_keeps)
                 | (with_reducible apply State.limpEntry_keeps) | (with_reducible apply State.degrade_keeps)
                 | (with_reducible refine keeps_foldl ?_ ?_) | (intro _ _ _) | (intro _ _) | (simp only [keeps_mk])
                 | split)

theorem State.actNotify_keeps {z0 : State} (s : State) (a : SevAct) (fresh : List (CUnit × Nat)) (kpt : z0.Keeps s) :
    z0.Keeps (State.actNotify s a fresh) := by
  unfold State.actNotify
  try dsimp only
  repeat' (first | (with_reducible assumption) | (with_reducible apply State.modFlt_keeps)
                 | (with_reducible apply State.snapAdd_keeps) | (intro _ _ _) | (intro _ _) | (simp only [keeps_mk])
                 | (with_reducible refine keeps_snd (by assumption) ?_)
                 | (with_reducible refine keeps_snd2 (by assumption) ?_) | split)

theorem State.actOn_keeps {z0 : State} (s : State) (a : SevAct) (kpt : z0.Keeps s) :
    z0.Keeps (State.actOn s a) := by
  unfold State.actOn
  try dsimp only
  repeat' (first | (with_reducible assumption) | (with_reducible apply State.faultRecord_keeps)
                 | (with_reducible apply State.actNotify_keeps) | (with_reducible apply State.modFlt_keeps)
                 | (with_reducible apply State.contain_keeps) | (with_reducible apply State.actHigh_keeps)
                 | (with_reducible refine keeps_foldl ?_ ?_) | (intro _ _ _) | (intro _ _) | (simp only [keeps_mk])
                 | split)

theorem State.actAll_keeps {z0 : State} (s : State) (y1 : Nat) (kpt : z0.Keeps s) :
    z0.Keeps (State.actAll s y1) := by
  fun_induction State.actAll s y1
  all_goals repeat' (first | (with_reducible assumption) | (with_reducible apply State.modFlt_keeps)
                           | (with_reducible apply State.actOn_keeps) | (with_reducible apply_assumption))

theorem State.settle_keeps {z0 : State} (s : State) (kpt : z0.Keeps s) :
    z0.Keeps (State.settle s) := by
  unfold State.settle
  try dsimp only
  repeat' (first | (with_reducible assumption) | (with_reducible apply State.actAll_keeps)
                 | (with_reducible apply State.ioDrain_keeps) | (with_reducible apply State.servoCatchUp_keeps)
                 | (with_reducible apply State.wedgeWatch_keeps) | split)

theorem State.attnFollow_keeps {z0 : State} (s : State) (kpt : z0.Keeps s) :
    z0.Keeps (State.attnFollow s) := by
  unfold State.attnFollow
  repeat' (first | (with_reducible assumption) | (with_reducible apply State.attnAssert_keeps) | split)

theorem State.attnRelease_keeps {z0 : State} (s : State) (kpt : z0.Keeps s) :
    z0.Keeps (State.attnRelease s) := by
  unfold State.attnRelease
  repeat' (first | (with_reducible assumption) | (with_reducible apply State.modFlt_keeps)
                 | (with_reducible apply State.set_keeps) | (intro _ _ _) | (intro _ _) | (simp only [keeps_mk])
                 | (with_reducible refine keeps_snd (by assumption) ?_)
                 | (with_reducible refine keeps_snd2 (by assumption) ?_) | split)

theorem State.switchDone_keeps {z0 : State} (s : State) (kpt : z0.Keeps s) :
    z0.Keeps (State.switchDone s) := by
  unfold State.switchDone
  try dsimp only
  repeat' (first | (with_reducible assumption) | (with_reducible apply State.reconcile_keeps)
                 | (with_reducible apply State.actHigh_keeps) | (with_reducible apply State.modFlt_keeps)
                 | (with_reducible refine keeps_foldl ?_ ?_))

/-! ### Hooks -/

theorem State.crsGated_keeps {z0 : State} (s : State) (a : Nat) (kpt : z0.Keeps s) :
    z0.Keeps (State.crsGated s a) := by
  unfold State.crsGated
  repeat' (first | (with_reducible assumption) | (with_reducible apply State.set_keeps)
                 | (with_reducible apply State.setFlag_keeps) | (with_reducible apply State.fault_keeps))

theorem State.crsTimeout_keeps {z0 : State} (s : State) (a : Nat) (kpt : z0.Keeps s) :
    z0.Keeps (State.crsTimeout s a) := by
  unfold State.crsTimeout
  repeat' (first | (with_reducible assumption) | (with_reducible apply State.set_keeps)
                 | (with_reducible apply State.setFlag_keeps) | (with_reducible apply State.fault_keeps))

theorem State.afterClear_keeps {z0 : State} (s : State) (r : FltReg) (m : Nat) (kpt : z0.Keeps s) :
    z0.Keeps (State.afterClear s r m) := by
  unfold State.afterClear
  try dsimp only
  repeat' (first | (with_reducible assumption) | (with_reducible apply State.linkReopen_keeps)
                 | (with_reducible apply State.unsafeReopen_keeps) | (with_reducible apply State.escalateClear_keeps)
                 | (with_reducible apply State.degradeCheck_keeps) | (with_reducible refine keeps_foldl ?_ ?_)
                 | (intro _ _ _) | (intro _ _) | (with_reducible refine keeps_snd (by assumption) ?_)
                 | (with_reducible refine keeps_snd2 (by assumption) ?_) | split)

theorem State.statusClear_keeps {z0 : State} (s : State) (r : FltReg) (m : Nat) (kpt : z0.Keeps s) :
    z0.Keeps (State.statusClear s r m) := by
  unfold State.statusClear
  repeat' (first | (with_reducible assumption) | (with_reducible apply State.clearFault_keeps)
                 | (with_reducible apply State.afterClear_keeps))

theorem State.maskWrite_keeps {z0 : State} (s : State) (r : FltReg) (old : Nat) (new : Nat) (kpt : z0.Keeps s) :
    z0.Keeps (State.maskWrite s r old new) := by
  unfold State.maskWrite
  try dsimp only
  repeat' (first | (with_reducible assumption) | (with_reducible apply State.riseSrcs_keeps)
                 | (with_reducible apply State.modFlt_keeps) | (intro _ _ _) | (intro _ _) | (simp only [keeps_mk])
                 | split)

theorem State.clearCounts_keeps {z0 : State} (s : State) (m : Nat) (fs : List Fld) (kpt : z0.Keeps s) :
    z0.Keeps (State.clearCounts s m fs) := by
  unfold State.clearCounts
  repeat' (first | (with_reducible assumption) | (with_reducible apply State.set_keeps)
                 | (with_reducible refine keeps_foldl ?_ ?_) | (intro _ _ _) | (intro _ _) | split)

theorem State.hookSys_keeps {z0 : State} (s : State) (a : Nat) (v : Nat) (kpt : z0.Keeps s) :
    z0.Keeps (State.hookSys s a v) := by
  unfold State.hookSys
  repeat' (first | (with_reducible assumption) | (with_reducible apply State.watchdogKick_keeps)
                 | (with_reducible apply State.containRequest_keeps) | (with_reducible apply State.attnFollow_keeps)
                 | split)

theorem State.hookCh_keeps {z0 : State} (s : State) (h : Nat) (o : Nat) (old : Nat) (v : Nat) (kpt : z0.Keeps s) :
    z0.Keeps (State.hookCh s h o old v) := by
  unfold State.hookCh
  try dsimp only
  repeat' (first | (with_reducible assumption) | (with_reducible apply State.readEnable_keeps)
                 | (with_reducible apply State.modHead_keeps) | (with_reducible apply State.clearCounts_keeps)
                 | (with_reducible apply State.writeEnable_keeps) | (intro _ _ _) | (intro _ _)
                 | (simp only [keeps_mk]) | (with_reducible refine keeps_snd (by assumption) ?_)
                 | (with_reducible refine keeps_snd2 (by assumption) ?_) | split)

theorem State.hookTth_keeps {z0 : State} (s : State) (a : Nat) (old : Nat) (v : Nat) (kpt : z0.Keeps s) :
    z0.Keeps (State.hookTth s a old v) := by
  unfold State.hookTth
  repeat' (first | (with_reducible assumption) | (with_reducible apply State.tthCtrl_keeps)
                 | (with_reducible apply State.skewShow_keeps) | split)

theorem State.hookLdpc_keeps {z0 : State} (s : State) (n : Nat) (o : Nat) (v : Nat) (kpt : z0.Keeps s) :
    z0.Keeps (State.hookLdpc s n o v) := by
  unfold State.hookLdpc
  try dsimp only
  repeat' (first | (with_reducible assumption) | (with_reducible apply State.contain_keeps)
                 | (with_reducible apply State.decCheck_keeps) | (with_reducible apply State.deepCheck_keeps) | split)

theorem State.hookSeq_keeps {z0 : State} (s : State) (a : Nat) (o : Nat) (v : Nat) (kpt : z0.Keeps s) :
    z0.Keeps (State.hookSeq s a o v) := by
  unfold State.hookSeq
  repeat' (first | (with_reducible assumption) | (with_reducible apply State.sqCtrl_keeps) | split)

theorem State.hookSrv_keeps {z0 : State} (s : State) (a : Nat) (old : Nat) (v : Nat) (kpt : z0.Keeps s) :
    z0.Keeps (State.hookSrv s a old v) := by
  unfold State.hookSrv
  try dsimp only
  repeat' (first | (with_reducible assumption) | (with_reducible apply State.actEnable_keeps)
                 | (with_reducible apply State.gustOff_keeps) | (with_reducible apply State.refreshHeads_keeps)
                 | (with_reducible apply State.soleTarget_keeps) | (with_reducible apply State.actCmd_keeps)
                 | (with_reducible apply State.setFlag_keeps) | (with_reducible apply State.setOfs_keeps)
                 | (with_reducible refine keeps_foldl ?_ ?_) | (intro _ _ _) | (intro _ _) | split)

theorem State.hookCle_keeps {z0 : State} (s : State) (a : Nat) (old : Nat) (v : Nat) (kpt : z0.Keeps s) :
    z0.Keeps (State.hookCle s a old v) := by
  unfold State.hookCle
  try dsimp only
  repeat' (first | (with_reducible assumption) | (with_reducible apply State.cleCommit_keeps)
                 | (with_reducible apply State.injEnable_keeps) | (with_reducible apply State.capArm_keeps)
                 | (with_reducible apply State.loopCntClr_keeps) | (with_reducible apply State.loopOutputs_keeps)
                 | (with_reducible apply State.loopRestart_keeps) | split)

theorem State.hookSpn_keeps {z0 : State} (s : State) (a : Nat) (old : Nat) (v : Nat) (kpt : z0.Keeps s) :
    z0.Keeps (State.hookSpn s a old v) := by
  unfold State.hookSpn
  try dsimp only
  repeat' (first | (with_reducible assumption) | (with_reducible apply State.gateLow_keeps)
                 | (with_reducible apply State.spnCmd_keeps) | (with_reducible apply State.spnDisable_keeps)
                 | (with_reducible apply State.spnTarget_keeps) | split)

theorem State.hookBuf_keeps {z0 : State} (s : State) (a : Nat) (old : Nat) (v : Nat) (kpt : z0.Keeps s) :
    z0.Keeps (State.hookBuf s a old v) := by
  unfold State.hookBuf
  try dsimp only
  repeat' (first | (with_reducible assumption) | (with_reducible apply State.depEnable_keeps)
                 | (with_reducible apply State.depPort_keeps) | (with_reducible apply State.cvyCtrl_keeps)
                 | (with_reducible apply State.cvyDoorbell_keeps) | (with_reducible apply State.clogRelease_keeps)
                 | split)

theorem State.hookRte_keeps {z0 : State} (s : State) (a : Nat) (v : Nat) (kpt : z0.Keeps s) :
    z0.Keeps (State.hookRte s a v) := by
  unfold State.hookRte
  repeat' (first | (with_reducible assumption) | (with_reducible apply State.rteRun_keeps)
                 | (with_reducible apply State.rtePort_keeps) | (with_reducible apply State.compCmd_keeps)
                 | (with_reducible apply State.decompCmd_keeps) | split)

theorem State.hookSec_keeps {z0 : State} (s : State) (a : Nat) (old : Nat) (v : Nat) (kpt : z0.Keeps s) :
    z0.Keeps (State.hookSec s a old v) := by
  unfold State.hookSec
  try dsimp only
  repeat' (first | (with_reducible assumption) | (with_reducible apply State.ldgRaise_keeps)
                 | (with_reducible apply State.pathLock_keeps) | (with_reducible apply State.dlkEnable_keeps)
                 | (with_reducible apply State.rselChange_keeps) | (with_reducible apply State.pregCmd_keeps)
                 | (with_reducible refine keeps_foldl ?_ ?_) | (intro _ _ _) | (intro _ _) | split)

theorem State.afterWrite_keeps {z0 : State} (s : State) (a : Nat) (old : Nat) (v : Nat) (kpt : z0.Keeps s) :
    z0.Keeps (State.afterWrite s a old v) := by
  unfold State.afterWrite
  exact keeps_ite (fun _ => State.hookSys_keeps _ _ _ kpt) (fun _ => keeps_ite (fun _ => State.hookCh_keeps _ _ _ _ _ kpt) (fun _ =>
    keeps_ite (fun _ => State.hookTth_keeps _ _ _ _ kpt) (fun _ => keeps_ite (fun _ => State.hookLdpc_keeps _ _ _ _ kpt) (fun _ =>
    keeps_ite (fun _ => keeps_ite (fun _ => State.lowIter_keeps _ kpt) (fun _ => kpt)) (fun _ => keeps_ite (fun _ => State.hookSeq_keeps _ _ _ _ kpt) (fun _ =>
    keeps_ite (fun _ => State.hookSrv_keeps _ _ _ _ kpt) (fun _ => keeps_ite (fun _ => State.hookCle_keeps _ _ _ _ kpt) (fun _ =>
    keeps_ite (fun _ => State.hookSpn_keeps _ _ _ _ kpt) (fun _ => keeps_ite (fun _ => State.hookBuf_keeps _ _ _ _ kpt) (fun _ =>
    keeps_ite (fun _ => kpt) (fun _ => keeps_ite (fun _ => State.hookRte_keeps _ _ _ kpt) (fun _ =>
    State.hookSec_keeps _ _ _ _ kpt))))))))))))

theorem State.injectArray_keeps {z0 : State} (s : State) (p : Path) (a : Nat) (kpt : z0.Keeps s) :
    z0.Keeps (State.injectArray s p a) := by
  unfold State.injectArray
  repeat' (first | (with_reducible assumption) | (with_reducible apply State.injectAt_keeps)
                 | (with_reducible refine keeps_snd (by assumption) ?_)
                 | (with_reducible refine keeps_snd2 (by assumption) ?_) | split)

theorem State.regWrite_keeps {z0 : State} (s : State) (p : Path) (a : Nat) (v : Nat) (d : RegDesc) (kpt : z0.Keeps s) :
    z0.Keeps (State.regWrite s p a v d) := by
  unfold State.regWrite
  generalize fltOfStat a = o
  cases o with
  | some r => exact State.statusClear_keeps _ _ _ kpt
  | none =>
    dsimp -zeta only
    extract_lets old w s1 sev
    have k1 : z0.Keeps s1 := State.wr_keeps _ _ _ kpt
    clear_value s1
    generalize fltOfMask a = o
    cases o with
    | some r => exact State.maskWrite_keeps _ _ _ _ k1
    | none =>
      dsimp -zeta only
      clear_value sev
      cases sev with
      | true => exact State.attnFollow_keeps _ k1
      | false => exact State.afterWrite_keeps _ _ _ _ (State.injectArray_keeps _ _ _ k1)

theorem State.arrayMerge_keeps {z0 : State} (s : State) (a : Nat) (kpt : z0.Keeps s) :
    z0.Keeps (State.arrayMerge s a).2 := by
  unfold State.arrayMerge
  repeat' (first | (with_reducible assumption) | (with_reducible apply State.mergeWord_keeps)
                 | (with_reducible refine keeps_snd (by assumption) ?_)
                 | (with_reducible refine keeps_snd2 (by assumption) ?_) | split)

theorem State.crsWrite_keeps {z0 : State} (s : State) (p : Path) (a : Nat) (size : Nat) (v : Word) (kpt : z0.Keeps s) :
    z0.Keeps (State.crsWrite s p a size v) := by
  unfold State.crsWrite
  try dsimp only
  repeat' (first | (with_reducible assumption) | (with_reducible apply State.crsGated_keeps)
                 | (with_reducible apply State.crsTimeout_keeps) | (with_reducible apply State.taskWord_keeps)
                 | (with_reducible apply State.arrayMerge_keeps) | (with_reducible apply State.regWrite_keeps)
                 | (with_reducible refine keeps_snd (by assumption) ?_)
                 | (with_reducible refine keeps_snd2 (by assumption) ?_) | split)

theorem State.readWord_keeps {z0 : State} (s : State) (a : Nat) (kpt : z0.Keeps s) :
    z0.Keeps (State.readWord s a).2 := by
  unfold State.readWord
  have k1 := State.tthAngleNow_keeps (z0 := z0) s kpt
  have k2 := fun i k => State.doneWord_keeps (z0 := z0) s i k kpt
  refine keeps_snd_ite (fun _ => kpt) (fun _ => keeps_snd_ite (fun _ => kpt) (fun _ => keeps_snd_ite (fun _ => k1) (fun _ =>
    keeps_snd_ite (fun _ => kpt) (fun _ => keeps_snd_ite (fun _ => kpt) (fun _ => keeps_snd_ite (fun _ => kpt) (fun _ =>
    keeps_snd_ite (fun _ => kpt) (fun _ => keeps_snd_ite (fun _ => kpt) (fun _ => keeps_snd_ite (fun _ => kpt) (fun _ =>
    keeps_snd_ite (fun _ => kpt) (fun _ => keeps_snd_ite (fun _ => kpt) (fun _ => ?_)))))))))))
  generalize doneWindow a = o
  cases o with
  | some p => exact k2 _ _
  | none =>
    refine keeps_snd_ite (fun _ => kpt) (fun _ => keeps_snd_ite (fun _ => kpt) (fun _ => keeps_snd_ite (fun _ => kpt) (fun _ => ?_)))
    generalize regAt a = o
    cases o with
    | none => exact kpt
    | some _ => exact kpt

theorem State.holdSet_keeps {z0 : State} (s : State) (p : Path) (lo : Nat) (v : Option Word) (kpt : z0.Keeps s) :
    z0.Keeps (State.holdSet s p lo v) := by
  unfold State.holdSet
  try dsimp only
  repeat' (first | (with_reducible assumption) | (intro _ _ _) | (intro _ _) | (simp only [keeps_mk]))

theorem State.readPair_keeps {z0 : State} (s : State) (p : Path) (a : Nat) (kpt : z0.Keeps s) :
    z0.Keeps (State.readPair s p a).2 := by
  unfold State.readPair
  try dsimp only
  repeat' (first | (with_reducible assumption) | (with_reducible apply State.readWord_keeps)
                 | (with_reducible apply State.holdSet_keeps) | (with_reducible refine keeps_snd (by assumption) ?_)
                 | (with_reducible refine keeps_snd2 (by assumption) ?_) | split)

theorem State.arrayCheck_keeps {z0 : State} (s : State) (a : Nat) (kpt : z0.Keeps s) :
    z0.Keeps (State.arrayCheck s a).2 := by
  unfold State.arrayCheck
  repeat' (first | (with_reducible assumption) | (with_reducible apply State.sramRead_keeps)
                 | (with_reducible refine keeps_snd (by assumption) ?_)
                 | (with_reducible refine keeps_snd2 (by assumption) ?_) | split)

theorem State.crsRead_keeps {z0 : State} (s : State) (p : Path) (a : Nat) (size : Nat) (kpt : z0.Keeps s) :
    z0.Keeps (State.crsRead s p a size) := by
  unfold State.crsRead
  try dsimp only
  repeat' (first | (with_reducible assumption) | (with_reducible apply State.crsGated_keeps)
                 | (with_reducible apply State.crsTimeout_keeps) | (with_reducible apply State.arrayCheck_keeps)
                 | (with_reducible apply State.readPair_keeps) | (with_reducible apply State.wr_keeps) | (intro _ _ _)
                 | (intro _ _) | (simp only [keeps_mk]) | (with_reducible refine keeps_snd (by assumption) ?_)
                 | (with_reducible refine keeps_snd2 (by assumption) ?_) | split)

/-! ### Boot -/

theorem State.loadReg_keeps {z0 : State} (s : State) (e : Nat × Nat) (kpt : z0.Keeps s) :
    z0.Keeps (State.loadReg s e) := by
  unfold State.loadReg
  try dsimp only
  repeat' (first | (with_reducible assumption) | (with_reducible apply State.arrayStored_keeps)
                 | (with_reducible apply State.regWrite_keeps) | (with_reducible apply State.crsWrite_keeps)
                 | (with_reducible apply State.commitCopy_keeps)
                 | (with_reducible refine keeps_snd (by assumption) ?_)
                 | (with_reducible refine keeps_snd2 (by assumption) ?_) | split)

theorem State.loadDefects_keeps {z0 : State} (s : State) (a : Nat) (entries : List Byte) (kpt : z0.Keeps s) :
    z0.Keeps (State.loadDefects s a entries) := by
  unfold State.loadDefects
  try dsimp only
  repeat' (first | (with_reducible assumption) | (with_reducible apply State.set_keeps)
                 | (with_reducible apply State.defSwapNow_keeps) | (simp only [keeps_mk])
                 | (with_reducible refine keeps_mem ?_) | split)

theorem State.heritage_keeps {z0 : State} (s : State) (kpt : z0.Keeps s) :
    z0.Keeps (State.heritage s) := by
  unfold State.heritage
  try dsimp only
  repeat' (first | (with_reducible assumption) | (with_reducible apply State.setFlag_keeps)
                 | (with_reducible apply State.clrBits_keeps) | (with_reducible apply State.actEnable_keeps)
                 | (with_reducible refine keeps_foldl ?_ ?_) | (intro _ _ _))

theorem State.applyRec_keeps {z0 : State} (s : State) (hb : Bool) (r : Nat × List Byte) (kpt : z0.Keeps s) :
    z0.Keeps (State.applyRec s hb r) := by
  unfold State.applyRec
  repeat' (first | (with_reducible assumption) | (with_reducible apply State.loadReg_keeps)
                 | (with_reducible apply State.modSec_keeps) | (with_reducible apply State.loadDefects_keeps)
                 | (with_reducible apply State.heritage_keeps) | (with_reducible refine keeps_foldl ?_ ?_)
                 | (intro _ _ _) | (intro _ _) | (simp only [keeps_mk])
                 | (with_reducible refine keeps_snd (by assumption) ?_)
                 | (with_reducible refine keeps_snd2 (by assumption) ?_) | split)

theorem State.bootPools_keeps {z0 : State} (s : State) (kpt : z0.Keeps s) :
    z0.Keeps (State.bootPools s) := by
  unfold State.bootPools
  try dsimp only
  repeat' (first | (with_reducible assumption) | (with_reducible apply State.crsWrite_keeps)
                 | (with_reducible apply State.depRequest_keeps) | (with_reducible apply State.retired_keeps)
                 | (with_reducible refine keeps_foldl ?_ ?_) | (intro _ _ _) | (intro _ _) | (simp only [keeps_mk])
                 | split)

theorem State.bootRoutes_keeps {z0 : State} (s : State) (kpt : z0.Keeps s) :
    z0.Keeps (State.bootRoutes s) := by
  unfold State.bootRoutes
  try dsimp only
  repeat' (first | (with_reducible assumption) | (with_reducible apply State.set_keeps)
                 | (with_reducible apply State.setFlag_keeps) | (with_reducible apply State.crsWrite_keeps)
                 | (with_reducible refine keeps_foldl ?_ ?_) | (intro _ _ _) | (intro _ _) | (simp only [keeps_mk])
                 | split)

theorem State.bootLeave_keeps {z0 : State} (s : State) (m : Nat) (reason : Nat) (kpt : z0.Keeps s) :
    z0.Keeps (State.bootLeave s m reason) := by
  unfold State.bootLeave
  try dsimp only
  repeat' (first | (with_reducible assumption) | (with_reducible apply State.set_keeps)
                 | (with_reducible apply State.setFlag_keeps) | (with_reducible apply State.modSys_keeps)
                 | (with_reducible apply State.modeEnter_keeps) | (with_reducible apply State.modSec_keeps)
                 | (with_reducible apply State.ctlReady_keeps) | (with_reducible refine keeps_foldl ?_ ?_))

theorem State.bootSlot_keeps {z0 : State} (s : State) (fuseOk : Bool) (kpt : z0.Keeps s) :
    z0.Keeps (State.bootSlot s fuseOk) := by
  unfold State.bootSlot
  try dsimp only
  repeat' (first | (with_reducible assumption) | (with_reducible apply State.bootWrite_keeps)
                 | (with_reducible apply State.set_keeps) | (with_reducible apply State.fault_keeps) | split)

theorem State.bootLoops_keeps {z0 : State} (s : State) (kpt : z0.Keeps s) :
    z0.Keeps (State.bootLoops s) := by
  unfold State.bootLoops
  try dsimp only
  repeat' (first | (with_reducible assumption) | (with_reducible apply State.crsWrite_keeps)
                 | (with_reducible refine keeps_foldl ?_ ?_) | (intro _ _ _))

theorem State.bootApply_keeps {z0 : State} (s : State) (fuseOk : Bool) (kpt : z0.Keeps s) :
    z0.Keeps (State.bootApply s fuseOk) := by
  unfold State.bootApply
  try dsimp only
  repeat' (first | (with_reducible assumption) | (with_reducible apply State.applyRec_keeps)
                 | (with_reducible apply State.set_keeps) | (with_reducible apply State.setFlag_keeps)
                 | (with_reducible apply State.bootLoops_keeps) | (with_reducible apply State.bootPools_keeps)
                 | (with_reducible apply State.bootRoutes_keeps) | (with_reducible apply State.modSys_keeps)
                 | (with_reducible apply State.bindMaker_keeps) | (with_reducible apply State.bootSlot_keeps)
                 | (with_reducible apply State.bootLeave_keeps) | (with_reducible apply State.limpEntry_keeps)
                 | (with_reducible refine keeps_foldl ?_ ?_) | (intro _ _ _) | (intro _ _) | (simp only [keeps_mk])
                 | split)

theorem State.bootExit_keeps {z0 : State} (s : State) (fuseOk : Bool) (kpt : z0.Keeps s) :
    z0.Keeps (State.bootExit s fuseOk) := by
  unfold State.bootExit
  try dsimp only
  repeat' (first | (with_reducible assumption) | (with_reducible apply State.lifeCount_keeps)
                 | (with_reducible apply State.bootApply_keeps) | (with_reducible apply State.fault_keeps)
                 | (with_reducible apply State.bootSlot_keeps) | (with_reducible apply State.bootLeave_keeps) | split)

theorem State.pairsBoot_keeps {z0 : State} (s : State) (pair0 : Bool) (pair1 : Bool) (kpt : z0.Keeps s) :
    z0.Keeps (State.pairsBoot s pair0 pair1) := by
  unfold State.pairsBoot
  repeat' (first | (with_reducible assumption) | (with_reducible apply State.pairDegrade_keeps)
                 | (with_reducible apply State.set_keeps) | split)

theorem State.underVoltage_keeps {z0 : State} (s : State) (kpt : z0.Keeps s) :
    z0.Keeps (State.underVoltage s) := by
  unfold State.underVoltage
  repeat' (first | (with_reducible assumption) | (with_reducible apply State.declareLoss_keeps) | split)

theorem State.bootAgain_keeps {z0 : State} (s : State) (kpt : z0.Keeps s) :
    z0.Keeps (State.bootAgain s) := by
  unfold State.bootAgain
  try dsimp only
  repeat' (first | (with_reducible assumption) | (with_reducible apply State.set_keeps)
                 | (with_reducible apply State.modeEnter_keeps) | (with_reducible apply State.setFlag_keeps)
                 | (with_reducible apply State.modSys_keeps) | (with_reducible apply State.modHif_keeps)
                 | (with_reducible apply State.modSec_keeps) | (with_reducible apply State.hifShow_keeps))

theorem State.activate_keeps {z0 : State} (s : State) (kpt : z0.Keeps s) :
    z0.Keeps (State.activate s) := by
  unfold State.activate
  try dsimp only
  repeat' (first | (with_reducible assumption) | (with_reducible apply State.sqReset_keeps)
                 | (with_reducible apply State.set_keeps) | (with_reducible apply State.patchImage_keeps)
                 | (with_reducible apply State.bootWrite_keeps) | (with_reducible apply State.ldgRaise_keeps)
                 | (with_reducible apply State.modHif_keeps) | (with_reducible apply State.finishSt_keeps)
                 | (with_reducible apply State.bootAgain_keeps) | (with_reducible refine keeps_foldl ?_ ?_)
                 | (intro _ _ _) | (intro _ _) | (simp only [keeps_mk])
                 | (with_reducible refine keeps_snd (by assumption) ?_)
                 | (with_reducible refine keeps_snd2 (by assumption) ?_) | split)

theorem State.activationBegin_keeps {z0 : State} (s : State) (kpt : z0.Keeps s) :
    z0.Keeps (State.activationBegin s) := by
  unfold State.activationBegin
  try dsimp only
  repeat' (first | (with_reducible assumption) | (with_reducible apply State.modHif_keeps)
                 | (with_reducible apply State.raiseBoth_keeps) | (intro _ _ _) | (intro _ _) | (simp only [keeps_mk])
                 | split)

theorem State.activation_keeps {z0 : State} (s : State) (kpt : z0.Keeps s) :
    z0.Keeps (State.activation s) := by
  unfold State.activation
  repeat' (first | (with_reducible assumption) | (with_reducible apply State.activationBegin_keeps)
                 | (with_reducible apply State.activate_keeps))

theorem State.modeTrigger_keeps {z0 : State} (s : State) (t : ModeTrigger) (kpt : z0.Keeps s) :
    z0.Keeps (State.modeTrigger s t) := by
  unfold State.modeTrigger
  repeat' (first | (with_reducible assumption) | (with_reducible apply State.retarget_keeps)
                 | (with_reducible apply State.workshopLeave_keeps)
                 | (with_reducible refine keeps_snd (by assumption) ?_)
                 | (with_reducible refine keeps_snd2 (by assumption) ?_) | split)

theorem State.tapAddress_keeps {z0 : State} (s : State) (a : Nat) (write : Bool) (kpt : z0.Keeps s) :
    z0.Keeps (State.tapAddress s a write) := by
  unfold State.tapAddress
  try dsimp only
  repeat' (first | (with_reducible assumption) | (with_reducible apply State.modSec_keeps)
                 | (with_reducible apply State.tapSelect_keeps) | (with_reducible apply State.crsRead_keeps)
                 | (intro _ _ _) | (intro _ _) | (simp only [keeps_mk])
                 | (with_reducible refine keeps_snd (by assumption) ?_)
                 | (with_reducible refine keeps_snd2 (by assumption) ?_) | split)

theorem State.tapData_keeps {z0 : State} (s : State) (v : Word) (kpt : z0.Keeps s) :
    z0.Keeps (State.tapData s v) := by
  unfold State.tapData
  try dsimp only
  repeat' (first | (with_reducible assumption) | (with_reducible apply State.tapSelect_keeps)
                 | (with_reducible apply State.modSec_keeps) | (with_reducible apply State.crsWrite_keeps)
                 | (intro _ _ _) | (intro _ _) | (simp only [keeps_mk]) | split)

/-! ### Commands -/

theorem State.regCmd_keeps {z0 : State} (s : State) (p : Path) (a : Nat) (v : Word) (kpt : z0.Keeps s) :
    z0.Keeps (State.regCmd s p a v) := by
  unfold State.regCmd
  repeat' (first | (with_reducible assumption) | (with_reducible apply State.crsWrite_keeps))

theorem State.silentAccess_keeps {z0 : State} (s : State) (p : Path) (a : Nat) (write : Bool) (kpt : z0.Keeps s) :
    z0.Keeps (State.silentAccess s p a write) := by
  unfold State.silentAccess
  try dsimp only
  repeat' (first | (with_reducible assumption) | (with_reducible apply State.crsTimeout_keeps)
                 | (simp only [keeps_mk]) | split)

theorem State.railDip_keeps {z0 : State} (s : State) (i : Nat) (mv0 : Nat) (mv1 : Nat) (kpt : z0.Keeps s) :
    z0.Keeps (State.railDip s i mv0 mv1) := by
  unfold State.railDip
  repeat' (first | (with_reducible assumption) | (with_reducible apply State.underVoltage_keeps) | split)

theorem State.maskCmd_keeps {z0 : State} (s : State) (p : Path) (a : Nat) (v : Word) (kpt : z0.Keeps s) :
    z0.Keeps (State.maskCmd s p a v) := by
  unfold State.maskCmd
  repeat' (first | (with_reducible assumption) | (with_reducible apply State.regCmd_keeps) | split)

theorem State.statCmd_keeps {z0 : State} (s : State) (p : Path) (a : Nat) (v : Word) (kpt : z0.Keeps s) :
    z0.Keeps (State.statCmd s p a v) := by
  unfold State.statCmd
  repeat' (first | (with_reducible assumption) | (with_reducible apply State.regCmd_keeps) | split)

theorem State.depCmd_keeps {z0 : State} (s : State) (port : Bool) (op : Nat) (tag : Nat) (tag2 : Nat) (arg : Nat)
    (climb : Bool) (inv : Bool) (pool : Nat) (kpt : z0.Keeps s) :
    z0.Keeps (State.depCmd s port op tag tag2 arg climb inv pool) := by
  unfold State.depCmd
  repeat' (first | (with_reducible assumption) | (with_reducible apply State.depRequest_keeps)
                 | (simp only [keeps_mk]) | split)

theorem State.depAccess_keeps {z0 : State} (s : State) (tag : Nat) (h : Nat) (ofs : Nat) (len : Nat) (data : Option
    (List Byte)) (kpt : z0.Keeps s) :
    z0.Keeps (State.depAccess s tag h ofs len data) := by
  unfold State.depAccess
  try dsimp only
  repeat' (first | (with_reducible assumption) | (with_reducible apply State.depReadC_keeps)
                 | (with_reducible apply State.depWriteC_keeps) | (with_reducible apply State.injectAt_keeps)
                 | (simp only [keeps_mk]) | (with_reducible refine keeps_snd (by assumption) ?_)
                 | (with_reducible refine keeps_snd2 (by assumption) ?_) | split)

theorem State.rteCmd_keeps {z0 : State} (s : State) (port : Bool) (op : Nat) (tag : Nat) (ns : Nat) (a0 : Nat)
    (a1 : Nat) (a2 : Nat) (since : Nat) (kpt : z0.Keeps s) :
    z0.Keeps (State.rteCmd s port op tag ns a0 a1 a2 since) := by
  unfold State.rteCmd
  try dsimp only
  repeat' (first | (with_reducible assumption) | (with_reducible apply State.rteRequest_keeps)
                 | (with_reducible apply State.destClose_keeps) | (simp only [keeps_mk]) | split)

theorem State.wordNop_keeps {z0 : State} (s : State) (a : Nat) (w : BitVec 128) (k : Nat) (kpt : z0.Keeps s) :
    z0.Keeps (State.wordNop s a w k) := by
  unfold State.wordNop
  repeat' (first | (with_reducible assumption) | (with_reducible apply State.sqIssue_keeps))

theorem State.wordAlu_keeps {z0 : State} (s : State) (a : Nat) (w : BitVec 128) (k : Nat) (kpt : z0.Keeps s) :
    z0.Keeps (State.wordAlu s a w k) := by
  unfold State.wordAlu
  repeat' (first | (with_reducible assumption) | (with_reducible apply State.sqIssue_keeps))

theorem State.wordFcmd_keeps {z0 : State} (s : State) (a : Nat) (w : BitVec 128) (k : Nat) (kpt : z0.Keeps s) :
    z0.Keeps (State.wordFcmd s a w k) := by
  unfold State.wordFcmd
  repeat' (first | (with_reducible assumption) | (with_reducible apply State.sqIssue_keeps))

theorem State.mr4Read_keeps {z0 : State} (s : State) (derated : Bool) (kpt : z0.Keeps s) :
    z0.Keeps (State.mr4Read s derated) := by
  unfold State.mr4Read
  try dsimp only
  repeat' (first | (with_reducible assumption) | (with_reducible apply State.fault_keeps) | (simp only [keeps_mk]) | split)

theorem State.ldgHours_keeps {z0 : State} (s : State) (kpt : z0.Keeps s) :
    z0.Keeps (State.ldgHours s) := by
  unfold State.ldgHours
  repeat' (first | (with_reducible assumption) | (with_reducible apply State.ldgRaise_keeps) | (simp only [keeps_mk])
                 | split)

theorem State.ldgSummary_keeps {z0 : State} (s : State) (kpt : z0.Keeps s) :
    z0.Keeps (State.ldgSummary s) := by
  unfold State.ldgSummary
  try dsimp only
  repeat' (first | (with_reducible assumption) | (with_reducible apply State.ldgRaise_keeps)
                 | (with_reducible refine keeps_foldl ?_ ?_) | (intro _ _ _) | (intro _ _) | (simp only [keeps_mk])
                 | split)

theorem State.ldgRefill_keeps {z0 : State} (s : State) (kpt : z0.Keeps s) :
    z0.Keeps (State.ldgRefill s) := by
  unfold State.ldgRefill
  try dsimp only
  repeat' (first | (with_reducible assumption) | (intro _ _ _) | (intro _ _) | (simp only [keeps_mk]) | split)

theorem State.selfTestCmd_keeps {z0 : State} (s : State) (no : Nat) (ended : Option Nat) (kpt : z0.Keeps s) :
    z0.Keeps (State.selfTestCmd s no ended) := by
  unfold State.selfTestCmd
  repeat' (first | (with_reducible assumption) | (with_reducible apply State.selfTest_keeps)
                 | (with_reducible apply State.selfTestEnd_keeps)
                 | (with_reducible refine keeps_snd (by assumption) ?_)
                 | (with_reducible refine keeps_snd2 (by assumption) ?_) | split)

theorem State.junctionCmd_keeps {z0 : State} (s : State) (tj : Nat) (kpt : z0.Keeps s) :
    z0.Keeps (State.junctionCmd s tj) := by
  unfold State.junctionCmd
  repeat' (first | (with_reducible assumption) | (with_reducible apply State.smartEvents_keeps)
                 | (with_reducible apply State.junctionRead_keeps))

theorem State.envCmd_keeps {z0 : State} (s : State) (l : List (Option Int)) (kpt : z0.Keeps s) :
    z0.Keeps (State.envCmd s l) := by
  unfold State.envCmd
  repeat' (first | (with_reducible assumption) | (with_reducible apply State.smartEvents_keeps)
                 | (with_reducible apply State.envPoll_keeps))

/-! The commands that set or move the time base: what they leave of the stores' form. -/

theorem State.Keeps.of_canon {s t : State} (h : s.Keeps t) (c : s.canon = true) : t.canon = true := h.canon c

theorem State.fetchOne_canon (s : State) (n : Nat) (e : Sqe) (c : s.canon = true) : (s.fetchOne n e).canon = true := by
  unfold State.fetchOne
  generalize (s.ctl n).offering = o
  cases o with
  | nil => exact c
  | cons q _ =>
    dsimp -zeta only
    extract_lets no mode x s1 s2 s3
    have h1 : s.Keeps s1 := State.modHif_keeps _ _ (State.modCtl_keeps _ _ _ (keeps_refl s))
    clear_value s1
    have h2 : s.Keeps s2 := State.abortSeen_keeps _ _ _ _ _ (State.hifShow_keeps _ h1)
    clear_value s2
    have h3 : s.Keeps s3 := by
      unfold s3
      exact keeps_ite (fun _ => h2) (fun _ => keeps_ite (fun _ => State.adminFetched_keeps _ _ h2)
        (fun _ => State.ioFetched_keeps _ _ (State.modSys_keeps _ _ h2)))
    exact (h3.canon c :)

theorem canon_ite {s t : State} {p : Prop} [Decidable p] (h1 : s.canon = true) (h2 : t.canon = true) :
    (if p then s else t).canon = true := by
  split
  · exact h1
  · exact h2

theorem State.commandFetch_canon (s : State) (o0 o1 : Option Sqe) (c : s.canon = true) :
    (s.commandFetch o0 o1).canon = true := by
  have k := fun n e => State.fetchOne_canon s n e c
  have k2 : ∀ (n i : Nat) (e f : Sqe) (j : Nat), (State.fetchOne { s.fetchOne n e with tieLast := j } i f).canon = true :=
    fun n i e f j => State.fetchOne_canon _ _ _ (k n e :)
  unfold State.commandFetch
  generalize (if s.fetches 0 = true then o0 else none) = a
  generalize (if s.fetches 1 = true then o1 else none) = b
  match a, b with
  | some a, some b => exact canon_ite (canon_ite (k2 ..) (k ..)) (canon_ite (k2 ..) (k ..))
  | some a, none => exact k _ _
  | none, some b => exact k _ _
  | none, none => exact c

theorem State.startAt_canon (s : State) (gpio : Nat) (x8 : Bool) (c : s.canon = true) :
    (s.startAt gpio x8).canon = true := by
  have h1 := State.modFlt_keeps _ (fun f => { f with wdogAt := 0 })
    (State.modSys_keeps s (fun y => { y with powerGood := true, domAt := 0 }) (keeps_refl s))
  unfold State.startAt
  extract_lets s1
  have h2 : (State.canon { s1 with now := 0 }) = true := h1.canon c
  clear_value s1
  exact (State.set_keeps _ _ _ (State.setFlag_keeps _ _ _ (State.setFlag_keeps _ _ _ (keeps_refl _)))).canon h2

theorem State.powerUp_canon (s : State) (gpio : Nat) (pair0 pair1 : Bool) (c : s.canon = true) :
    (s.powerUp gpio pair0 pair1).canon = true := by
  unfold State.powerUp
  exact canon_ite c ((State.pairsBoot_keeps _ _ _ (keeps_refl _)).canon (State.startAt_canon _ _ _ c))

theorem State.reborn_canon (s : State) (c : s.canon = true) : s.reborn.canon = true := by
  unfold State.reborn
  extract_lets r r1 r2 r3 k k1
  have hn := (canon_parts.1 c).2.2.2
  have hk : k.canon = true := canon_parts.2 ⟨rfl, rfl, rfl, hn⟩
  have h1 : k.Keeps k1 := State.wr_keeps _ _ _ (State.set_keeps _ _ _ (State.setFlag_keeps _ _ _ (keeps_refl k)))
  clear_value k1 k
  exact (State.setFlag_keeps _ _ _ (State.setFlag_keeps _ _ _ h1)).canon hk

theorem State.powerOnReset_canon (s : State) (c : s.canon = true) : s.powerOnReset.canon = true := State.reborn_canon s c

theorem State.supplyReset_canon (s : State) (c : s.canon = true) : s.supplyReset.canon = true := by
  unfold State.supplyReset
  extract_lets parked sup written k
  have hk : k.canon = true :=
    (State.set_keeps _ _ _ (keeps_refl _)).canon (State.startAt_canon _ _ _ (State.reborn_canon s c))
  clear_value k written sup parked
  exact canon_ite c ((keeps_foldl (fun t a h => State.wr_keeps _ _ _ h) (keeps_refl k)).canon hk)

/-- A command that ends with the effect `u` leaves what `u` left. -/
theorem ends_canon {s u t : State} (c : u.canon = true) (e : ends s u = .next t) : t.canon = true := by
  cases e
  exact (keeps_mk.2 (State.settle_keeps u (keeps_refl u))).canon c

theorem ends_keeps {z0 s u t : State} (h : z0.Keeps u) (e : ends s u = .next t) : z0.Keeps t := by
  cases e
  exact keeps_mk.2 (State.settle_keeps u h)

end Sys2Proof.Machine
end

