-- ==== Sys2Proof/WellFormed.lean ====
section
/-!
DEFINITION. Well-formed commands: every number an operand carries fits the field, the wire or the count that it stands for.
-/

namespace Sys2Proof

/-- Numbers of a submission queue entry, each with its bound: opcode, PSDT, command identifier, namespace identifier, and
CDW10 to CDW15. -/
def Sqe.bounds (e : Sqe) : List (Nat × Nat) :=
  [(e.opc, 256), (e.psdt, 4), (e.cid, 2 ^ 16), (e.nsid, 2 ^ 32), (e.dw.length, 7)] ++ e.dw.map (fun d => (d, 2 ^ 32))

/-- Numbers of a data transfer's outcome. -/
def Xfer.bounds (x : Xfer) : List (Nat × Nat) := [(x.dptr, 5), (x.pi, 4)]

/-- A signed number of a 7-bit converter, −64 to 63, with its bound. -/
def adcBound (x : Int) : Nat × Nat := (if x < -64 then 128 else (x + 64).toNat, 128)

/-- Numbers that a wedge gives: 1,024 servo bits around its mark, the time since bit 512, the samples of four bursts. -/
def WedgeObs.bounds (o : WedgeObs) : List (Nat × Nat) :=
  [(o.bits, 2 ^ 1024), (o.ago, 2 ^ 32), (o.bursts.length, 5)] ++ o.bursts.flatten.map adcBound

/-- Numbers that a PWM period gives: six bitstreams of 190 bits. -/
def SpnObs.bounds (o : SpnObs) : List (Nat × Nat) :=
  [(o.isu, 2 ^ 190), (o.isv, 2 ^ 190), (o.vsd, 2 ^ 190), (o.vtu, 2 ^ 190), (o.vtv, 2 ^ 190), (o.vtw, 2 ^ 190)]

/-- The numbers of a value that may be absent. -/
def optBounds {α : Type} (f : α → List (Nat × Nat)) : Option α → List (Nat × Nat)
  | none => []
  | some x => f x

/-- The numbers that a command carries, each with the bound it has to stay below. -/
def Instr.bounds : Instr → List (Nat × Nat)
  | .crsWrite _ addr size _ => [(addr, 2 ^ 32), (size, 9)]
  | .crsAccessTimeout _ addr _ => [(addr, 2 ^ 32)]
  | .rcRegisterRead _ addr size => [(addr, 2 ^ 32), (size, 9)]
  | .stampLoRead _ addr => [(addr, 2 ^ 32)]
  | .stampHiRead _ addr => [(addr, 2 ^ 32)]
  | .tbAlignCheck _ => []
  | .commandFetch offer0 offer1 => optBounds Sqe.bounds offer0 ++ optBounds Sqe.bounds offer1
  | .powerGood _ _ _ _ => []
  | .powerDomainUp => []
  | .underVoltage _ _ _ => []
  | .powerOnReset _ _ => []
  | .setFeaturesDeviceMode slot => [(slot, 8192)]
  | .getFeaturesDeviceMode slot => [(slot, 8192)]
  | .modeTransitionTrigger _ => []
  | .modeStepComplete => []
  | .junctionTempRead tj => [(tj, 256)]
  | .envSensorPoll _ => []
  | .temperatureCapRelease => []
  | .ondemandTimeout => []
  | .autonomousPsTransition _ => []
  | .spinupTimeout => []
  | .actuatorLoadStart => []
  | .ccEnable _ _ _ => []
  | .controllerReset _ _ => []
  | .controllerResetDone _ => []
  | .pciePortReset _ _ => []
  | .perstLow _ => []
  | .linkTrainingStart _ => []
  | .controllerShutdown _ _ => []
  | .shutdownComplete _ => []
  | .abruptShutdownTimeout _ => []
  | .nvmSubsystemReset _ _ => []
  | .tthEnable _ _ => []
  | .tthDisable _ _ => []
  | .tetherFrequencyFound _ slotHz pllHz => [(slotHz, 2 ^ 32), (pllHz, 2 ^ 32)]
  | .tetherFrame _ _ => []
  | .tthSelectRequest _ _ => []
  | .tetherClockSwitch => []
  | .relockFail => []
  | .zoneSettled _ => []
  | .sectorArrival _ _ => []
  | .syncDecision _ hard => [(hard, 2 ^ 193)]
  | .llrCaptureComplete _ _ => []
  | .streamDecodeStart => []
  | .streamDecodeEnd _ codeword iters => [(codeword, 2 ^ 37120), (iters, 256)]
  | .deepDecodeStart => []
  | .deepDecodeEnd _ codeword iters => [(codeword, 2 ^ 37120), (iters, 256)]
  | .decoderHang _ => []
  | .ldpcDecoderReset _ _ _ => []
  | .chReload _ _ _ => []
  | .chCounterClear _ _ _ => []
  | .chWrCounterClear _ _ _ => []
  | .writeRunStart _ _ => []
  | .writeGateOpen _ _ => []
  | .writeRunEnd _ => []
  | .sectorCountedWritten _ => []
  | .microwordIssue _ => []
  | .opCont _ _ => []
  | .opJump _ _ => []
  | .opBr _ _ => []
  | .opCall _ _ => []
  | .brcall _ _ => []
  | .opRet _ _ => []
  | .brret _ _ => []
  | .opDisp _ _ => []
  | .opLoop _ _ => []
  | .opWait _ _ => []
  | .waitConditionMet _ => []
  | .waitTimeout _ => []
  | .opHalt _ _ => []
  | .opMov _ _ => []
  | .opAdd _ _ => []
  | .opSub _ _ => []
  | .opAnd _ _ => []
  | .opOr _ _ => []
  | .opXor _ _ => []
  | .opShl _ _ => []
  | .opShr _ _ => []
  | .opCmp _ _ => []
  | .ldlc _ _ => []
  | .ldhs _ _ => []
  | .taskPop _ _ => []
  | .donePush _ _ => []
  | .armRead _ _ => []
  | .armWrite _ _ => []
  | .armVerify _ _ => []
  | .opAbandon _ _ => []
  | .loadZone _ _ => []
  | .opSelect _ _ => []
  | .opSeek _ _ => []
  | .opTarget _ _ => []
  | .defLookup _ _ => []
  | .rptPop _ _ => []
  | .seqEnable _ _ _ => []
  | .seqPause _ _ _ => []
  | .seqResume _ _ _ => []
  | .seqAttn _ _ _ => []
  | .defSwap _ _ _ => []
  | .wpTimeout _ => []
  | .servoSample _ obs => obs.bounds
  | .ontrkSet _ => []
  | .followError _ => []
  | .servoLost _ => []
  | .actuatorEnable _ _ => []
  | .actuatorLoad _ _ _ => []
  | .actuatorUnload _ _ _ => []
  | .actuatorRetract _ _ _ => []
  | .actuatorHold _ _ _ => []
  | .loadFail _ => []
  | .seekTimeout _ => []
  | .rampStopReached _ => []
  | .retractDone _ => []
  | .gustFrame _ frame => [(frame, 2 ^ 40)]
  | .gustTrip _ => []
  | .gustTripClear _ => []
  | .gustFrameTimeout _ => []
  | .gustCrcLoss _ => []
  | .bridleFrameSend _ _ => []
  | .bridleReply _ frame => optBounds (fun x => [(x, 2 ^ 40)]) frame
  | .bridleRefresh _ => []
  | .bridleLinkDown _ => []
  | .bridleLinkUp _ => []
  | .vcmCurrentSample _ bits => [(bits, 2 ^ 64)]
  | .vcmOvercurrent _ => []
  | .vcmBridgeFault _ _ => []
  | .cleJobStart => []
  | .cleJobEnd _ => []
  | .cleJobOverrun _ => []
  | .cleLoopRestart _ _ _ => []
  | .cleLoopDisable _ _ _ => []
  | .cleLoopCounterClear _ _ _ => []
  | .cleCommit _ _ => []
  | .cleCommitCopy => []
  | .cleInjectionEnable _ _ => []
  | .cleCaptureArm _ _ => []
  | .spnCurrentSample obs => obs.bounds
  | .spnFastBusSample bits _ _ => [(bits, 2 ^ 16)]
  | .spnPwmPeriod => []
  | .spnStart _ _ => []
  | .spnBrake _ _ => []
  | .spnCoast _ _ => []
  | .spnDisable _ _ => []
  | .spnTargetWrite _ _ => []
  | .spnListenEnd => []
  | .spnAlignEnd => []
  | .spnRampTimeout => []
  | .spnRetryCoastEnd => []
  | .obsLock => []
  | .obsLoss => []
  | .angDisagree => []
  | .spnAtSpeed => []
  | .spnRestReached => []
  | .catchPresetEnd => []
  | .catchFail => []
  | .spnStageFault _ => []
  | .balFlt => []
  | .balStuck => []
  | .ov => []
  | .ovRecovery => []
  | .supplyLoss => []
  | .plossEnd => []
  | .supplyRecoveryReset => []
  | .spdrefBad _ => []
  | .spdrefGood _ => []
  | .spdrefSyncLock _ => []
  | .memTrainingDone _ ok0 ok1 ok2 size _ => [(ok0, 16), (ok1, 16), (ok2, 16), (size, 16)]
  | .memSrefEntry => []
  | .depotEnable _ _ => []
  | .opAlloc _ tag tag2 size _ => [(tag, 256), (tag2, 256), (size, 2 ^ 32)]
  | .opShare _ tag handle tag2 => [(tag, 256), (handle, 2 ^ 32), (tag2, 256)]
  | .opRelease _ tag handle => [(tag, 256), (handle, 2 ^ 32)]
  | .opFree _ tag handle => [(tag, 256), (handle, 2 ^ 32)]
  | .opPass _ tag handle tag2 => [(tag, 256), (handle, 2 ^ 32), (tag2, 256)]
  | .opMark _ tag handle _ => [(tag, 256), (handle, 2 ^ 32)]
  | .opQuery _ tag handle => [(tag, 256), (handle, 2 ^ 32)]
  | .opRetire _ tag handle => [(tag, 256), (handle, 2 ^ 32)]
  | .opInit _ tag pool => [(tag, 256), (pool, 4)]
  | .depotCacheRefill _ => []
  | .depotBufferAccess tag handle ofs len _ => [(tag, 256), (handle, 2 ^ 32), (ofs, 2 ^ 32), (len, 2 ^ 32)]
  | .depotRebuildDone => []
  | .poolExhausted slot => [(slot, 8192)]
  | .convoyStart _ _ _ _ => []
  | .convoyStop _ _ _ _ => []
  | .convoyChannelEnable _ _ _ _ => []
  | .convoyDoorbell _ _ _ _ => []
  | .convoyGrant _ => []
  | .descriptorFetched _ => []
  | .transferArrived _ _ => []
  | .convoyBusError _ _ stage cause done => [(stage, 6), (cause, 16), (done, 2 ^ 24)]
  | .convoyRetry _ _ => []
  | .statusWritebackDone _ => []
  | .ownershipClearDone _ => []
  | .linkRereadDone _ _ => []
  | .convoyEngineHang _ => []
  | .createIoCq slot => [(slot, 8192)]
  | .createIoSq slot => [(slot, 8192)]
  | .deleteIoCq slot => [(slot, 8192)]
  | .deleteIoSq slot => [(slot, 8192)]
  | .getLogPage slot xfer => [(slot, 8192)] ++ xfer.bounds
  | .identify slot xfer => [(slot, 8192)] ++ xfer.bounds
  | .opAbort slot => [(slot, 8192)]
  | .setFeatures slot xfer => [(slot, 8192)] ++ xfer.bounds
  | .getFeatures slot xfer => [(slot, 8192)] ++ xfer.bounds
  | .setFeaturesPowerMgmt slot => [(slot, 8192)]
  | .setFeaturesNumberOfQueues slot => [(slot, 8192)]
  | .setFeaturesSpinupControl slot => [(slot, 8192)]
  | .setFeaturesQueueOrder slot => [(slot, 8192)]
  | .setFeaturesCompletionStamp slot => [(slot, 8192)]
  | .setFeaturesCompressionLevel slot => [(slot, 8192)]
  | .asyncEventRequest slot => [(slot, 8192)]
  | .namespaceManagement slot xfer => [(slot, 8192)] ++ xfer.bounds
  | .namespaceAttachment slot xfer => [(slot, 8192)] ++ xfer.bounds
  | .firmwareImageDownload slot xfer => [(slot, 8192)] ++ xfer.bounds
  | .firmwareCommit slot => [(slot, 8192)]
  | .firmwareActivation => []
  | .activationTimeout => []
  | .deviceSelfTest slot ended => [(slot, 8192)] ++ optBounds (fun x => [(x, 16)]) ended
  | .directiveSend slot xfer => [(slot, 8192)] ++ xfer.bounds
  | .directiveReceive slot xfer => [(slot, 8192)] ++ xfer.bounds
  | .unlockChallenge slot => [(slot, 8192)]
  | .unlockResponse slot xfer => [(slot, 8192)] ++ xfer.bounds
  | .unlockAttemptExpiry _ => []
  | .lockoutEnd _ => []
  | .unlockTimeout _ => []
  | .hostLock _ _ => []
  | .dbgLock _ _ => []
  | .opFlush slot => [(slot, 8192)]
  | .opWrite slot => [(slot, 8192)]
  | .writeEffect slot xfer => [(slot, 8192)] ++ xfer.bounds
  | .opRead slot xfer med => [(slot, 8192)] ++ xfer.bounds ++ optBounds (fun l => l.map (fun x => (x, 2 ^ 64))) med
  | .writeZeroes slot => [(slot, 8192)]
  | .datasetManagement slot xfer => [(slot, 8192)] ++ xfer.bounds
  | .opVerify slot pi med => [(slot, 8192), (pi, 4)] ++ optBounds (fun l => l.map (fun x => (x, 2 ^ 64))) med
  | .reservationRegister slot xfer => [(slot, 8192)] ++ xfer.bounds
  | .reservationReport slot xfer => [(slot, 8192)] ++ xfer.bounds
  | .reservationAcquire slot xfer => [(slot, 8192)] ++ xfer.bounds
  | .reservationRelease slot xfer => [(slot, 8192)] ++ xfer.bounds
  | .sqTailDoorbell _ y value => [(y, 2 ^ 16), (value, 2 ^ 32)]
  | .cqHeadDoorbell _ y value => [(y, 2 ^ 16), (value, 2 ^ 32)]
  | .completionPost slot => [(slot, 8192)]
  | .destageStart => []
  | .discardedByFault _ slots => slots.map (fun x => (x, 8192))
  | .smbusBasicMgmtRead code _ => [(code, 256)]
  | .smbusLedgerOffset _ _ => []
  | .smbusLedgerRead _ => []
  | .smbusLedgerStatus _ => []
  | .lookupLba _ tag _ lba => [(tag, 256), (lba, 2 ^ 64)]
  | .lookupIdx _ tag index => [(tag, 256), (index, 2 ^ 27)]
  | .opUpdate _ tag index old new since =>
    [(tag, 256), (index, 2 ^ 27), (old, 2 ^ 64), (new, 2 ^ 64), (since, 2 ^ 64)]
  | .compressorGo _ _ _ => []
  | .compressorResume _ _ _ => []
  | .compressorAbort _ _ _ => []
  | .outFull _ => []
  | .compressionEnd _ => []
  | .decompressorGo _ _ _ => []
  | .decompressorAbort _ _ _ => []
  | .decompressionEnd _ => []
  | .cmpLaneHang _ _ => []
  | .reclaim => []
  | .journalCheckpoint => []
  | .routeTableLoad => []
  | .scrubRewrite _ => []
  | .patrolScrubStep _ upset => [(upset, 2 ^ 72)]
  | .sramWalkerRead array inst word upset => [(array, 256), (inst, 256), (word, 2 ^ 32), (upset, 2 ^ 72)]
  | .hardErrorAction _ => []
  | .clogFree _ _ => []
  | .errorInjectionArm _ _ => []
  | .faultUnmask _ addr _ => [(addr, 2 ^ 32)]
  | .faultStatusClear _ addr _ => [(addr, 2 ^ 32)]
  | .attnRelease => []
  | .containRequest _ _ => []
  | .containmentResetEnd _ => []
  | .mismatch _ => []
  | .opWdog => []
  | .watchdogKick _ _ => []
  | .switchoverReconciled => []
  | .pairSelfTestDone _ _ => []
  | .limpRetractTimeout _ => []
  | .ldgRaise _ _ => []
  | .ledgerProgramDone => []
  | .ledgerProgramFail => []
  | .ledgerEraseDone _ => []
  | .ledgerScanDone => []
  | .opHours => []
  | .suppSummary => []
  | .tokenRefill => []
  | .bootRecordRead _ => []
  | .manifestStreamed => []
  | .firmwareStreamed => []
  | .patchLoad => []
  | .manifestAuthentication => []
  | .bootExit _ => []
  | .extest => []
  | .samplePreload => []
  | .idcode => []
  | .unlockCh _ => []
  | .unlockRsp numd _ => [(numd, 256)]
  | .crsAddr _ _ => []
  | .crsData _ => []
  | .secStatus => []
  | .bypass => []
  | .dlkEnable _ _ _ => []
  | .dlkFrameSend _ => []
  | .dlkReply _ _ => []
  | .dlkExchangeTimeout _ => []
  | .dlkLinkDown _ _ => []
  | .dlkAlignStart _ => []
  | .dlkAligned _ _ => []
  | .dlkTrainTimeout _ => []
  | .dlkPing _ => []
  | .dlkFaultLine _ _ => []
  | .armMiss _ => []
  | .dlkRselWrite _ _ _ => []
  | .dlkPregRead _ _ _ => []
  | .dlkPregWrite _ _ _ => []
  | .gpioOutWrite _ _ => []
  | .gatedUnitRead _ addr => [(addr, 2 ^ 32)]
  | .defLookupDone _ => []
  | .mr4RefreshRead _ => []
  | .pcieLinkUp _ _ width recoveries => [(width, 33), (recoveries, 2 ^ 16)]
  | .aerUncorrectable _ => []

/-- The command is well formed. -/
def Instr.wf (i : Instr) : Bool := i.bounds.all (fun p => decide (p.1 < p.2))

end Sys2Proof
end

