-- ==== Sys2Proof/Laws/PerInstr.lean ====
section
/-!
SUPPORT. The per-command family RowOk: a command is well formed exactly when each of its numbers stays below its bound.
-/

namespace Sys2Proof.Laws.RowOk

open Sys2Proof

/-- What the family says of a command. -/
def Statement (i : Instr) : Prop := i.wf = true ↔ ∀ p ∈ i.bounds, p.1 < p.2

theorem of_all (i : Instr) : Statement i := by
  simp only [Statement, Instr.wf, List.all_eq_true, decide_eq_true_eq]

theorem crsWrite (path : Path) (addr : Nat) (size : Nat) (value : Word) :
    Statement (.crsWrite path addr size value) := of_all _
theorem crsAccessTimeout (path : Path) (addr : Nat) (write : Bool) :
    Statement (.crsAccessTimeout path addr write) := of_all _
theorem rcRegisterRead (path : Path) (addr : Nat) (size : Nat) :
    Statement (.rcRegisterRead path addr size) := of_all _
theorem stampLoRead (path : Path) (addr : Nat) : Statement (.stampLoRead path addr) := of_all _
theorem stampHiRead (path : Path) (addr : Nat) : Statement (.stampHiRead path addr) := of_all _
theorem tbAlignCheck (drift : List Int) : Statement (.tbAlignCheck drift) := of_all _
theorem commandFetch (offer0 : Option Sqe) (offer1 : Option Sqe) : Statement (.commandFetch offer0 offer1) := of_all _
theorem powerGood (rails : List (Nat × Nat)) (gpio : Word) (pair0 : Bool) (pair1 : Bool) :
    Statement (.powerGood gpio pair0 pair1 rails) := of_all _
theorem powerDomainUp : Statement (.powerDomainUp) := of_all _
theorem underVoltage (rail : Fin 7) (mv0 : Nat) (mv1 : Nat) : Statement (.underVoltage rail mv0 mv1) := of_all _
theorem powerOnReset (rail : Fin 7) (mv : List Nat) : Statement (.powerOnReset rail mv) := of_all _
theorem setFeaturesDeviceMode (slot : Slot) : Statement (.setFeaturesDeviceMode slot) := of_all _
theorem getFeaturesDeviceMode (slot : Slot) : Statement (.getFeaturesDeviceMode slot) := of_all _
theorem modeTransitionTrigger (trig : ModeTrigger) : Statement (.modeTransitionTrigger trig) := of_all _
theorem modeStepComplete : Statement (.modeStepComplete) := of_all _
theorem junctionTempRead (tj : Nat) : Statement (.junctionTempRead tj) := of_all _
theorem envSensorPoll (readings : List (Option Int)) : Statement (.envSensorPoll readings) := of_all _
theorem temperatureCapRelease : Statement (.temperatureCapRelease) := of_all _
theorem ondemandTimeout : Statement (.ondemandTimeout) := of_all _
theorem autonomousPsTransition (ctrl : Ctrl) : Statement (.autonomousPsTransition ctrl) := of_all _
theorem spinupTimeout : Statement (.spinupTimeout) := of_all _
theorem actuatorLoadStart : Statement (.actuatorLoadStart) := of_all _
theorem ccEnable (ctrl : Ctrl) (cc : Word) (aqa : Word) : Statement (.ccEnable ctrl cc aqa) := of_all _
theorem controllerReset (ctrl : Ctrl) (cc : Word) : Statement (.controllerReset ctrl cc) := of_all _
theorem controllerResetDone (ctrl : Ctrl) : Statement (.controllerResetDone ctrl) := of_all _
theorem pciePortReset (port : Ctrl) (kind : PortReset) : Statement (.pciePortReset port kind) := of_all _
theorem perstLow (port : Ctrl) : Statement (.perstLow port) := of_all _
theorem linkTrainingStart (port : Ctrl) : Statement (.linkTrainingStart port) := of_all _
theorem controllerShutdown (ctrl : Ctrl) (cc : Word) : Statement (.controllerShutdown ctrl cc) := of_all _
theorem shutdownComplete (ctrl : Ctrl) : Statement (.shutdownComplete ctrl) := of_all _
theorem abruptShutdownTimeout (ctrl : Ctrl) : Statement (.abruptShutdownTimeout ctrl) := of_all _
theorem nvmSubsystemReset (ctrl : Ctrl) (value : Word) : Statement (.nvmSubsystemReset ctrl value) := of_all _
theorem tthEnable (path : Path) (value : Word) : Statement (.tthEnable path value) := of_all _
theorem tthDisable (path : Path) (value : Word) : Statement (.tthDisable path value) := of_all _
theorem tetherFrequencyFound (input : Fin 2) (slotHz : Nat) (pllHz : Nat) :
    Statement (.tetherFrequencyFound input slotHz pllHz) := of_all _
theorem tetherFrame (input : Fin 2) (frame : BandFrame) : Statement (.tetherFrame input frame) := of_all _
theorem tthSelectRequest (path : Path) (value : Word) : Statement (.tthSelectRequest path value) := of_all _
theorem tetherClockSwitch : Statement (.tetherClockSwitch) := of_all _
theorem relockFail : Statement (.relockFail) := of_all _
theorem zoneSettled (head : Head) : Statement (.zoneSettled head) := of_all _
theorem sectorArrival (head : Head) (off : Nat) : Statement (.sectorArrival head off) := of_all _
theorem syncDecision (head : Head) (hard : Nat) : Statement (.syncDecision head hard) := of_all _
theorem llrCaptureComplete (head : Head) (front : FrontEnd) : Statement (.llrCaptureComplete head front) := of_all _
theorem streamDecodeStart : Statement (.streamDecodeStart) := of_all _
theorem streamDecodeEnd (dec : Fin 16) (codeword : Nat) (iters : Nat) :
    Statement (.streamDecodeEnd dec codeword iters) := of_all _
theorem deepDecodeStart : Statement (.deepDecodeStart) := of_all _
theorem deepDecodeEnd (dec : Fin 2) (codeword : Nat) (iters : Nat) :
    Statement (.deepDecodeEnd dec codeword iters) := of_all _
theorem decoderHang (dec : Fin 18) : Statement (.decoderHang dec) := of_all _
theorem ldpcDecoderReset (path : Path) (dec : Fin 18) (value : Word) :
    Statement (.ldpcDecoderReset path dec value) := of_all _
theorem chReload (path : Path) (head : Head) (value : Word) : Statement (.chReload path head value) := of_all _
theorem chCounterClear (path : Path) (head : Head) (value : Word) :
    Statement (.chCounterClear path head value) := of_all _
theorem chWrCounterClear (path : Path) (head : Head) (value : Word) :
    Statement (.chWrCounterClear path head value) := of_all _
theorem writeRunStart (head : Head) (lead : Nat) : Statement (.writeRunStart head lead) := of_all _
theorem writeGateOpen (head : Head) (off : Nat) : Statement (.writeGateOpen head off) := of_all _
theorem writeRunEnd (head : Head) : Statement (.writeRunEnd head) := of_all _
theorem sectorCountedWritten (head : Head) : Statement (.sectorCountedWritten head) := of_all _
theorem microwordIssue (a : Act) : Statement (.microwordIssue a) := of_all _
theorem opCont (a : Act) (word : BitVec 128) : Statement (.opCont a word) := of_all _
theorem opJump (a : Act) (word : BitVec 128) : Statement (.opJump a word) := of_all _
theorem opBr (a : Act) (word : BitVec 128) : Statement (.opBr a word) := of_all _
theorem opCall (a : Act) (word : BitVec 128) : Statement (.opCall a word) := of_all _
theorem brcall (a : Act) (word : BitVec 128) : Statement (.brcall a word) := of_all _
theorem opRet (a : Act) (word : BitVec 128) : Statement (.opRet a word) := of_all _
theorem brret (a : Act) (word : BitVec 128) : Statement (.brret a word) := of_all _
theorem opDisp (a : Act) (word : BitVec 128) : Statement (.opDisp a word) := of_all _
theorem opLoop (a : Act) (word : BitVec 128) : Statement (.opLoop a word) := of_all _
theorem opWait (a : Act) (word : BitVec 128) : Statement (.opWait a word) := of_all _
theorem waitConditionMet (a : Act) : Statement (.waitConditionMet a) := of_all _
theorem waitTimeout (a : Act) : Statement (.waitTimeout a) := of_all _
theorem opHalt (a : Act) (word : BitVec 128) : Statement (.opHalt a word) := of_all _
theorem opMov (a : Act) (word : BitVec 128) : Statement (.opMov a word) := of_all _
theorem opAdd (a : Act) (word : BitVec 128) : Statement (.opAdd a word) := of_all _
theorem opSub (a : Act) (word : BitVec 128) : Statement (.opSub a word) := of_all _
theorem opAnd (a : Act) (word : BitVec 128) : Statement (.opAnd a word) := of_all _
theorem opOr (a : Act) (word : BitVec 128) : Statement (.opOr a word) := of_all _
theorem opXor (a : Act) (word : BitVec 128) : Statement (.opXor a word) := of_all _
theorem opShl (a : Act) (word : BitVec 128) : Statement (.opShl a word) := of_all _
theorem opShr (a : Act) (word : BitVec 128) : Statement (.opShr a word) := of_all _
theorem opCmp (a : Act) (word : BitVec 128) : Statement (.opCmp a word) := of_all _
theorem ldlc (a : Act) (word : BitVec 128) : Statement (.ldlc a word) := of_all _
theorem ldhs (a : Act) (word : BitVec 128) : Statement (.ldhs a word) := of_all _
theorem taskPop (a : Act) (word : BitVec 128) : Statement (.taskPop a word) := of_all _
theorem donePush (a : Act) (word : BitVec 128) : Statement (.donePush a word) := of_all _
theorem armRead (a : Act) (word : BitVec 128) : Statement (.armRead a word) := of_all _
theorem armWrite (a : Act) (word : BitVec 128) : Statement (.armWrite a word) := of_all _
theorem armVerify (a : Act) (word : BitVec 128) : Statement (.armVerify a word) := of_all _
theorem opAbandon (a : Act) (word : BitVec 128) : Statement (.opAbandon a word) := of_all _
theorem loadZone (a : Act) (word : BitVec 128) : Statement (.loadZone a word) := of_all _
theorem opSelect (a : Act) (word : BitVec 128) : Statement (.opSelect a word) := of_all _
theorem opSeek (a : Act) (word : BitVec 128) : Statement (.opSeek a word) := of_all _
theorem opTarget (a : Act) (word : BitVec 128) : Statement (.opTarget a word) := of_all _
theorem defLookup (a : Act) (word : BitVec 128) : Statement (.defLookup a word) := of_all _
theorem rptPop (a : Act) (word : BitVec 128) : Statement (.rptPop a word) := of_all _
theorem seqEnable (path : Path) (a : Act) (value : Word) : Statement (.seqEnable path a value) := of_all _
theorem seqPause (path : Path) (a : Act) (value : Word) : Statement (.seqPause path a value) := of_all _
theorem seqResume (path : Path) (a : Act) (value : Word) : Statement (.seqResume path a value) := of_all _
theorem seqAttn (path : Path) (a : Act) (value : Word) : Statement (.seqAttn path a value) := of_all _
theorem defSwap (path : Path) (a : Act) (value : Word) : Statement (.defSwap path a value) := of_all _
theorem wpTimeout (a : Act) : Statement (.wpTimeout a) := of_all _
theorem servoSample (head : Head) (obs : WedgeObs) : Statement (.servoSample head obs) := of_all _
theorem ontrkSet (head : Head) : Statement (.ontrkSet head) := of_all _
theorem followError (loop : Fin 28) : Statement (.followError loop) := of_all _
theorem servoLost (a : Act) : Statement (.servoLost a) := of_all _
theorem actuatorEnable (path : Path) (value : Word) : Statement (.actuatorEnable path value) := of_all _
theorem actuatorLoad (path : Path) (a : Act) (value : Word) : Statement (.actuatorLoad path a value) := of_all _
theorem actuatorUnload (path : Path) (a : Act) (value : Word) : Statement (.actuatorUnload path a value) := of_all _
theorem actuatorRetract (path : Path) (a : Act) (value : Word) : Statement (.actuatorRetract path a value) := of_all _
theorem actuatorHold (path : Path) (a : Act) (value : Word) : Statement (.actuatorHold path a value) := of_all _
theorem loadFail (a : Act) : Statement (.loadFail a) := of_all _
theorem seekTimeout (a : Act) : Statement (.seekTimeout a) := of_all _
theorem rampStopReached (a : Act) : Statement (.rampStopReached a) := of_all _
theorem retractDone (a : Act) : Statement (.retractDone a) := of_all _
theorem gustFrame (port : Fin 2) (frame : Nat) : Statement (.gustFrame port frame) := of_all _
theorem gustTrip (port : Fin 2) : Statement (.gustTrip port) := of_all _
theorem gustTripClear (port : Fin 2) : Statement (.gustTripClear port) := of_all _
theorem gustFrameTimeout (port : Fin 2) : Statement (.gustFrameTimeout port) := of_all _
theorem gustCrcLoss (port : Fin 2) : Statement (.gustCrcLoss port) := of_all _
theorem bridleFrameSend (a : Act) (ch : Fin 6) : Statement (.bridleFrameSend a ch) := of_all _
theorem bridleReply (a : Act) (frame : Option Nat) : Statement (.bridleReply a frame) := of_all _
theorem bridleRefresh (a : Act) : Statement (.bridleRefresh a) := of_all _
theorem bridleLinkDown (a : Act) : Statement (.bridleLinkDown a) := of_all _
theorem bridleLinkUp (a : Act) : Statement (.bridleLinkUp a) := of_all _
theorem vcmCurrentSample (a : Act) (bits : Nat) : Statement (.vcmCurrentSample a bits) := of_all _
theorem vcmOvercurrent (a : Act) : Statement (.vcmOvercurrent a) := of_all _
theorem vcmBridgeFault (a : Act) (low : Bool) : Statement (.vcmBridgeFault a low) := of_all _
theorem cleJobStart : Statement (.cleJobStart) := of_all _
theorem cleJobEnd (lane : Fin 2) : Statement (.cleJobEnd lane) := of_all _
theorem cleJobOverrun (loop : LoopN) : Statement (.cleJobOverrun loop) := of_all _
theorem cleLoopRestart (path : Path) (loop : LoopN) (value : Word) :
    Statement (.cleLoopRestart path loop value) := of_all _
theorem cleLoopDisable (path : Path) (loop : LoopN) (value : Word) :
    Statement (.cleLoopDisable path loop value) := of_all _
theorem cleLoopCounterClear (path : Path) (loop : LoopN) (value : Word) :
    Statement (.cleLoopCounterClear path loop value) := of_all _
theorem cleCommit (path : Path) (value : Word) : Statement (.cleCommit path value) := of_all _
theorem cleCommitCopy : Statement (.cleCommitCopy) := of_all _
theorem cleInjectionEnable (path : Path) (value : Word) : Statement (.cleInjectionEnable path value) := of_all _
theorem cleCaptureArm (path : Path) (value : Word) : Statement (.cleCaptureArm path value) := of_all _
theorem spnCurrentSample (obs : SpnObs) : Statement (.spnCurrentSample obs) := of_all _
theorem spnFastBusSample (bits : Nat) (balIs : Bool) (supok : Bool) :
    Statement (.spnFastBusSample bits balIs supok) := of_all _
theorem spnPwmPeriod : Statement (.spnPwmPeriod) := of_all _
theorem spnStart (path : Path) (value : Word) : Statement (.spnStart path value) := of_all _
theorem spnBrake (path : Path) (value : Word) : Statement (.spnBrake path value) := of_all _
theorem spnCoast (path : Path) (value : Word) : Statement (.spnCoast path value) := of_all _
theorem spnDisable (path : Path) (value : Word) : Statement (.spnDisable path value) := of_all _
theorem spnTargetWrite (path : Path) (value : Word) : Statement (.spnTargetWrite path value) := of_all _
theorem spnListenEnd : Statement (.spnListenEnd) := of_all _
theorem spnAlignEnd : Statement (.spnAlignEnd) := of_all _
theorem spnRampTimeout : Statement (.spnRampTimeout) := of_all _
theorem spnRetryCoastEnd : Statement (.spnRetryCoastEnd) := of_all _
theorem obsLock : Statement (.obsLock) := of_all _
theorem obsLoss : Statement (.obsLoss) := of_all _
theorem angDisagree : Statement (.angDisagree) := of_all _
theorem spnAtSpeed : Statement (.spnAtSpeed) := of_all _
theorem spnRestReached : Statement (.spnRestReached) := of_all _
theorem catchPresetEnd : Statement (.catchPresetEnd) := of_all _
theorem catchFail : Statement (.catchFail) := of_all _
theorem spnStageFault (low : Bool) : Statement (.spnStageFault low) := of_all _
theorem balFlt : Statement (.balFlt) := of_all _
theorem balStuck : Statement (.balStuck) := of_all _
theorem ov : Statement (.ov) := of_all _
theorem ovRecovery : Statement (.ovRecovery) := of_all _
theorem supplyLoss : Statement (.supplyLoss) := of_all _
theorem plossEnd : Statement (.plossEnd) := of_all _
theorem supplyRecoveryReset : Statement (.supplyRecoveryReset) := of_all _
theorem spdrefBad (signal : SpdSignal) : Statement (.spdrefBad signal) := of_all _
theorem spdrefGood (signal : SpdSignal) : Statement (.spdrefGood signal) := of_all _
theorem spdrefSyncLock (err : Int) : Statement (.spdrefSyncLock err) := of_all _
theorem memTrainingDone (agree : Bool) (ok0 : Nat) (ok1 : Nat) (ok2 : Nat) (size : Nat) (ranks2 : Bool) :
    Statement (.memTrainingDone agree ok0 ok1 ok2 size ranks2) := of_all _
theorem memSrefEntry : Statement (.memSrefEntry) := of_all _
theorem depotEnable (path : Path) (value : Word) : Statement (.depotEnable path value) := of_all _
theorem opAlloc (port : Bool) (tag : Nat) (tag2 : Nat) (size : Nat) (climb : Bool) :
    Statement (.opAlloc port tag tag2 size climb) := of_all _
theorem opShare (port : Bool) (tag : Nat) (handle : Nat) (tag2 : Nat) :
    Statement (.opShare port tag handle tag2) := of_all _
theorem opRelease (port : Bool) (tag : Nat) (handle : Nat) : Statement (.opRelease port tag handle) := of_all _
theorem opFree (port : Bool) (tag : Nat) (handle : Nat) : Statement (.opFree port tag handle) := of_all _
theorem opPass (port : Bool) (tag : Nat) (handle : Nat) (tag2 : Nat) :
    Statement (.opPass port tag handle tag2) := of_all _
theorem opMark (port : Bool) (tag : Nat) (handle : Nat) (inv : Bool) :
    Statement (.opMark port tag handle inv) := of_all _
theorem opQuery (port : Bool) (tag : Nat) (handle : Nat) : Statement (.opQuery port tag handle) := of_all _
theorem opRetire (port : Bool) (tag : Nat) (handle : Nat) : Statement (.opRetire port tag handle) := of_all _
theorem opInit (port : Bool) (tag : Nat) (pool : Nat) : Statement (.opInit port tag pool) := of_all _
theorem depotCacheRefill (pool : Fin 4) : Statement (.depotCacheRefill pool) := of_all _
theorem depotBufferAccess (tag : Nat) (handle : Nat) (ofs : Nat) (len : Nat) (data : Option (List Byte)) :
    Statement (.depotBufferAccess tag handle ofs len data) := of_all _
theorem depotRebuildDone : Statement (.depotRebuildDone) := of_all _
theorem poolExhausted (slot : Slot) : Statement (.poolExhausted slot) := of_all _
theorem convoyStart (path : Path) (e : Eng) (c : Chan) (value : Word) :
    Statement (.convoyStart path e c value) := of_all _
theorem convoyStop (path : Path) (e : Eng) (c : Chan) (value : Word) :
    Statement (.convoyStop path e c value) := of_all _
theorem convoyChannelEnable (path : Path) (e : Eng) (c : Chan) (value : Word) :
    Statement (.convoyChannelEnable path e c value) := of_all _
theorem convoyDoorbell (path : Path) (e : Eng) (c : Chan) (value : Word) :
    Statement (.convoyDoorbell path e c value) := of_all _
theorem convoyGrant (e : Eng) : Statement (.convoyGrant e) := of_all _
theorem descriptorFetched (e : Eng) : Statement (.descriptorFetched e) := of_all _
theorem transferArrived (e : Eng) (host : List Byte) : Statement (.transferArrived e host) := of_all _
theorem convoyBusError (e : Eng) (c : Option Chan) (stage : Nat) (cause : Nat) (done : Nat) :
    Statement (.convoyBusError e c stage cause done) := of_all _
theorem convoyRetry (e : Eng) (c : Option Chan) : Statement (.convoyRetry e c) := of_all _
theorem statusWritebackDone (e : Eng) : Statement (.statusWritebackDone e) := of_all _
theorem ownershipClearDone (e : Eng) : Statement (.ownershipClearDone e) := of_all _
theorem linkRereadDone (e : Eng) (c : Chan) : Statement (.linkRereadDone e c) := of_all _
theorem convoyEngineHang (e : Eng) : Statement (.convoyEngineHang e) := of_all _
theorem createIoCq (slot : Slot) : Statement (.createIoCq slot) := of_all _
theorem createIoSq (slot : Slot) : Statement (.createIoSq slot) := of_all _
theorem deleteIoCq (slot : Slot) : Statement (.deleteIoCq slot) := of_all _
theorem deleteIoSq (slot : Slot) : Statement (.deleteIoSq slot) := of_all _
theorem getLogPage (slot : Slot) (xfer : Xfer) : Statement (.getLogPage slot xfer) := of_all _
theorem identify (slot : Slot) (xfer : Xfer) : Statement (.identify slot xfer) := of_all _
theorem opAbort (slot : Slot) : Statement (.opAbort slot) := of_all _
theorem setFeatures (slot : Slot) (xfer : Xfer) : Statement (.setFeatures slot xfer) := of_all _
theorem getFeatures (slot : Slot) (xfer : Xfer) : Statement (.getFeatures slot xfer) := of_all _
theorem setFeaturesPowerMgmt (slot : Slot) : Statement (.setFeaturesPowerMgmt slot) := of_all _
theorem setFeaturesNumberOfQueues (slot : Slot) : Statement (.setFeaturesNumberOfQueues slot) := of_all _
theorem setFeaturesSpinupControl (slot : Slot) : Statement (.setFeaturesSpinupControl slot) := of_all _
theorem setFeaturesQueueOrder (slot : Slot) : Statement (.setFeaturesQueueOrder slot) := of_all _
theorem setFeaturesCompletionStamp (slot : Slot) : Statement (.setFeaturesCompletionStamp slot) := of_all _
theorem setFeaturesCompressionLevel (slot : Slot) : Statement (.setFeaturesCompressionLevel slot) := of_all _
theorem asyncEventRequest (slot : Slot) : Statement (.asyncEventRequest slot) := of_all _
theorem namespaceManagement (slot : Slot) (xfer : Xfer) : Statement (.namespaceManagement slot xfer) := of_all _
theorem namespaceAttachment (slot : Slot) (xfer : Xfer) : Statement (.namespaceAttachment slot xfer) := of_all _
theorem firmwareImageDownload (slot : Slot) (xfer : Xfer) : Statement (.firmwareImageDownload slot xfer) := of_all _
theorem firmwareCommit (slot : Slot) : Statement (.firmwareCommit slot) := of_all _
theorem firmwareActivation : Statement (.firmwareActivation) := of_all _
theorem activationTimeout : Statement (.activationTimeout) := of_all _
theorem deviceSelfTest (slot : Slot) (ended : Option Nat) : Statement (.deviceSelfTest slot ended) := of_all _
theorem directiveSend (slot : Slot) (xfer : Xfer) : Statement (.directiveSend slot xfer) := of_all _
theorem directiveReceive (slot : Slot) (xfer : Xfer) : Statement (.directiveReceive slot xfer) := of_all _
theorem unlockChallenge (slot : Slot) : Statement (.unlockChallenge slot) := of_all _
theorem unlockResponse (slot : Slot) (xfer : Xfer) : Statement (.unlockResponse slot xfer) := of_all _
theorem unlockAttemptExpiry (port : Fin 2) : Statement (.unlockAttemptExpiry port) := of_all _
theorem lockoutEnd (port : Fin 2) : Statement (.lockoutEnd port) := of_all _
theorem unlockTimeout (port : Fin 2) : Statement (.unlockTimeout port) := of_all _
theorem hostLock (path : Path) (value : Word) : Statement (.hostLock path value) := of_all _
theorem dbgLock (path : Path) (value : Word) : Statement (.dbgLock path value) := of_all _
theorem opFlush (slot : Slot) : Statement (.opFlush slot) := of_all _
theorem opWrite (slot : Slot) : Statement (.opWrite slot) := of_all _
theorem writeEffect (slot : Slot) (xfer : Xfer) : Statement (.writeEffect slot xfer) := of_all _
theorem opRead (slot : Slot) (xfer : Xfer) (med : Option (List Nat)) : Statement (.opRead slot xfer med) := of_all _
theorem writeZeroes (slot : Slot) : Statement (.writeZeroes slot) := of_all _
theorem datasetManagement (slot : Slot) (xfer : Xfer) : Statement (.datasetManagement slot xfer) := of_all _
theorem opVerify (slot : Slot) (pi : Nat) (med : Option (List Nat)) : Statement (.opVerify slot pi med) := of_all _
theorem reservationRegister (slot : Slot) (xfer : Xfer) : Statement (.reservationRegister slot xfer) := of_all _
theorem reservationReport (slot : Slot) (xfer : Xfer) : Statement (.reservationReport slot xfer) := of_all _
theorem reservationAcquire (slot : Slot) (xfer : Xfer) : Statement (.reservationAcquire slot xfer) := of_all _
theorem reservationRelease (slot : Slot) (xfer : Xfer) : Statement (.reservationRelease slot xfer) := of_all _
theorem sqTailDoorbell (ctrl : Ctrl) (y : Nat) (value : Nat) : Statement (.sqTailDoorbell ctrl y value) := of_all _
theorem cqHeadDoorbell (ctrl : Ctrl) (y : Nat) (value : Nat) : Statement (.cqHeadDoorbell ctrl y value) := of_all _
theorem completionPost (slot : Slot) : Statement (.completionPost slot) := of_all _
theorem destageStart : Statement (.destageStart) := of_all _
theorem discardedByFault (unit : CUnit) (slots : List Slot) : Statement (.discardedByFault unit slots) := of_all _
theorem smbusBasicMgmtRead (code : Nat) (pec : Bool) : Statement (.smbusBasicMgmtRead code pec) := of_all _
theorem smbusLedgerOffset (bytes : List Byte) (pec : Bool) : Statement (.smbusLedgerOffset bytes pec) := of_all _
theorem smbusLedgerRead (pec : Bool) : Statement (.smbusLedgerRead pec) := of_all _
theorem smbusLedgerStatus (pec : Bool) : Statement (.smbusLedgerStatus pec) := of_all _
theorem lookupLba (port : Bool) (tag : Nat) (ns : Fin 16) (lba : Nat) :
    Statement (.lookupLba port tag ns lba) := of_all _
theorem lookupIdx (port : Bool) (tag : Nat) (index : Nat) : Statement (.lookupIdx port tag index) := of_all _
theorem opUpdate (port : Bool) (tag : Nat) (index : Nat) (old : Nat) (new : Nat) (since : Nat) :
    Statement (.opUpdate port tag index old new since) := of_all _
theorem compressorGo (path : Path) (lane : Lane) (value : Word) :
    Statement (.compressorGo path lane value) := of_all _
theorem compressorResume (path : Path) (lane : Lane) (value : Word) :
    Statement (.compressorResume path lane value) := of_all _
theorem compressorAbort (path : Path) (lane : Lane) (value : Word) :
    Statement (.compressorAbort path lane value) := of_all _
theorem outFull (lane : Lane) : Statement (.outFull lane) := of_all _
theorem compressionEnd (lane : Lane) : Statement (.compressionEnd lane) := of_all _
theorem decompressorGo (path : Path) (lane : Lane) (value : Word) :
    Statement (.decompressorGo path lane value) := of_all _
theorem decompressorAbort (path : Path) (lane : Lane) (value : Word) :
    Statement (.decompressorAbort path lane value) := of_all _
theorem decompressionEnd (lane : Lane) : Statement (.decompressionEnd lane) := of_all _
theorem cmpLaneHang (comp : Bool) (lane : Lane) : Statement (.cmpLaneHang comp lane) := of_all _
theorem reclaim : Statement (.reclaim) := of_all _
theorem journalCheckpoint : Statement (.journalCheckpoint) := of_all _
theorem routeTableLoad : Statement (.routeTableLoad) := of_all _
theorem scrubRewrite (entry : Fin 32) : Statement (.scrubRewrite entry) := of_all _
theorem patrolScrubStep (word : Fin 8) (upset : Nat) : Statement (.patrolScrubStep word upset) := of_all _
theorem sramWalkerRead (array : Nat) (inst : Nat) (word : Nat) (upset : Nat) :
    Statement (.sramWalkerRead array inst word upset) := of_all _
theorem hardErrorAction (entry : Fin 32) : Statement (.hardErrorAction entry) := of_all _
theorem clogFree (path : Path) (value : Word) : Statement (.clogFree path value) := of_all _
theorem errorInjectionArm (path : Path) (value : Word) : Statement (.errorInjectionArm path value) := of_all _
theorem faultUnmask (path : Path) (addr : Nat) (value : Word) : Statement (.faultUnmask path addr value) := of_all _
theorem faultStatusClear (path : Path) (addr : Nat) (value : Word) :
    Statement (.faultStatusClear path addr value) := of_all _
theorem attnRelease : Statement (.attnRelease) := of_all _
theorem containRequest (path : Path) (value : Word) : Statement (.containRequest path value) := of_all _
theorem containmentResetEnd (unit : CUnit) : Statement (.containmentResetEnd unit) := of_all _
theorem mismatch (pair : Fin 2) : Statement (.mismatch pair) := of_all _
theorem opWdog : Statement (.opWdog) := of_all _
theorem watchdogKick (path : Path) (value : Word) : Statement (.watchdogKick path value) := of_all _
theorem switchoverReconciled : Statement (.switchoverReconciled) := of_all _
theorem pairSelfTestDone (pair : Fin 2) (pass : Bool) : Statement (.pairSelfTestDone pair pass) := of_all _
theorem limpRetractTimeout (a : Act) : Statement (.limpRetractTimeout a) := of_all _
theorem ldgRaise (path : Path) (value : Word) : Statement (.ldgRaise path value) := of_all _
theorem ledgerProgramDone : Statement (.ledgerProgramDone) := of_all _
theorem ledgerProgramFail : Statement (.ledgerProgramFail) := of_all _
theorem ledgerEraseDone (ok : Bool) : Statement (.ledgerEraseDone ok) := of_all _
theorem ledgerScanDone : Statement (.ledgerScanDone) := of_all _
theorem opHours : Statement (.opHours) := of_all _
theorem suppSummary : Statement (.suppSummary) := of_all _
theorem tokenRefill : Statement (.tokenRefill) := of_all _
theorem bootRecordRead (fuseOk : Bool) : Statement (.bootRecordRead fuseOk) := of_all _
theorem manifestStreamed : Statement (.manifestStreamed) := of_all _
theorem firmwareStreamed : Statement (.firmwareStreamed) := of_all _
theorem patchLoad : Statement (.patchLoad) := of_all _
theorem manifestAuthentication : Statement (.manifestAuthentication) := of_all _
theorem bootExit (fuseOk : Bool) : Statement (.bootExit fuseOk) := of_all _
theorem extest : Statement (.extest) := of_all _
theorem samplePreload : Statement (.samplePreload) := of_all _
theorem idcode : Statement (.idcode) := of_all _
theorem unlockCh (method : Fin 4) : Statement (.unlockCh method) := of_all _
theorem unlockRsp (numd : Nat) (data : List Byte) : Statement (.unlockRsp numd data) := of_all _
theorem crsAddr (addr : Word) (write : Bool) : Statement (.crsAddr addr write) := of_all _
theorem crsData (data : Word) : Statement (.crsData data) := of_all _
theorem secStatus : Statement (.secStatus) := of_all _
theorem bypass : Statement (.bypass) := of_all _
theorem dlkEnable (path : Path) (a : Act) (value : Word) : Statement (.dlkEnable path a value) := of_all _
theorem dlkFrameSend (a : Act) : Statement (.dlkFrameSend a) := of_all _
theorem dlkReply (a : Act) (symbols : List LineSymbol) : Statement (.dlkReply a symbols) := of_all _
theorem dlkExchangeTimeout (a : Act) : Statement (.dlkExchangeTimeout a) := of_all _
theorem dlkLinkDown (a : Act) (symbols : List LineSymbol) : Statement (.dlkLinkDown a symbols) := of_all _
theorem dlkAlignStart (a : Act) : Statement (.dlkAlignStart a) := of_all _
theorem dlkAligned (a : Act) (symbols : List LineSymbol) : Statement (.dlkAligned a symbols) := of_all _
theorem dlkTrainTimeout (a : Act) : Statement (.dlkTrainTimeout a) := of_all _
theorem dlkPing (a : Act) : Statement (.dlkPing a) := of_all _
theorem dlkFaultLine (a : Act) (low : Bool) : Statement (.dlkFaultLine a low) := of_all _
theorem armMiss (head : Head) : Statement (.armMiss head) := of_all _
theorem dlkRselWrite (path : Path) (a : Act) (value : Word) : Statement (.dlkRselWrite path a value) := of_all _
theorem dlkPregRead (path : Path) (a : Act) (value : Word) : Statement (.dlkPregRead path a value) := of_all _
theorem dlkPregWrite (path : Path) (a : Act) (value : Word) : Statement (.dlkPregWrite path a value) := of_all _
theorem gpioOutWrite (path : Path) (value : Word) : Statement (.gpioOutWrite path value) := of_all _
theorem gatedUnitRead (path : Path) (addr : Nat) : Statement (.gatedUnitRead path addr) := of_all _
theorem defLookupDone (a : Act) : Statement (.defLookupDone a) := of_all _
theorem mr4RefreshRead (derated : Bool) : Statement (.mr4RefreshRead derated) := of_all _
theorem pcieLinkUp (port : Ctrl) (speed : Fin 6) (width : Nat) (recoveries : Nat) :
    Statement (.pcieLinkUp port speed width recoveries) := of_all _
theorem aerUncorrectable (port : Ctrl) : Statement (.aerUncorrectable port) := of_all _

end Sys2Proof.Laws.RowOk
end

