-- ==== Sys2Proof/Laws/Sequencer.lean ====
section
/-!
SUPPORT. What a sequencer does with a word that it issues (R152, R153): one lemma for the whole word, and the fields of a
word whose NOP, ALU or FCMD code a row names.
-/

namespace Sys2Proof.Machine

open Sys2Proof Host

@[simp] theorem mwNop_setNop (w k : Nat) : mwNop (mwSetNop w k) = k % 16 := bitsOf_putBits w 14 4 k
@[simp] theorem mwAlu_setAlu (w k : Nat) : mwAlu (mwSetAlu w k) = k % 16 := bitsOf_putBits w 26 4 k
@[simp] theorem mwFcmd_setFcmd (w k : Nat) : mwFcmd (mwSetFcmd w k) = k % 32 := bitsOf_putBits w 43 5 k

/-- What `issues` says, part by part. -/
theorem issues_iff (s : State) (a w : Nat) : s.issues a w = true ↔
    s.sqState a = 1 ∧ (s.sq a).wait.isSome = false ∧ s.inReset (.seq a) = false ∧ mwIllegal w = false := by
  simp [State.issues, Option.isSome_eq_false_iff, and_assoc]

/-- A word that issues and whose ALU operation goes through: format, next address, end. -/
theorem sqIssue_runs (s : State) (a w : Nat) (h : s.issues a w = true) (ha : (s.sqAlu a w).1 = true) :
    s.sqIssue a w = s.wordRest (s.sqAlu a w).2 a w := by
  obtain ⟨h1, h2, h3, h4⟩ := (issues_iff s a w).mp h
  unfold State.sqIssue State.wordRest State.wordEnd State.sqPc
  rw [if_neg (by simp [h1, h2, h3]), if_neg (by simp [h4])]
  generalize e : s.sqAlu a w = r at ha ⊢
  obtain ⟨b, t⟩ := r
  cases b
  · cases ha
  · rfl

/-- A word that issues and whose ALU operation is refused stops the sequencer. -/
theorem sqIssue_stops (s : State) (a w : Nat) (h : s.issues a w = true) (ha : (s.sqAlu a w).1 = false) :
    s.sqIssue a w = (s.sqAlu a w).2.sqStop a 0 := by
  obtain ⟨h1, h2, h3, h4⟩ := (issues_iff s a w).mp h
  unfold State.sqIssue
  rw [if_neg (by simp [h1, h2, h3]), if_neg (by simp [h4])]
  generalize e : s.sqAlu a w = r at ha ⊢
  obtain ⟨b, t⟩ := r
  cases b
  · rfl
  · cases ha

end Sys2Proof.Machine
end

