-- ==== Sys2Proof/Tests/Build.lean ====
section
/-!
SUPPORT. Small states for tests and witnesses, each built from the state after reset.
-/

namespace Sys2Proof.Machine

open Sys2Proof

/-- The state after reset with some fields set. -/
def at_ (l : List (Fld × Nat)) : State := l.foldl (fun s e => s.set e.1 e.2) State.reset

/-- The same with power good and the time base at `t`. -/
def on_ (t : Nat) (l : List (Fld × Nat)) : State :=
  { (at_ l).modSys (fun y => { y with powerGood := true }) with now := t }

/-- The same with every power domain and CH head group powered. -/
def up_ (l : List (Fld × Nat)) : State := on_ 1000000 ([(R.SYS_PWR_STAT_PD, 0x7F), (R.SYS_PWR_STAT_CHG, 0x3F)] ++ l)

/-- A supply loss has been declared and the supply is back for 100 ms. -/
def lost_ : State := (on_ 100000000 []).modSpn (fun y => { y with lost := true, supHigh := some 0 })

/-- A state with its Ledger recorder changed. -/
def State.modLdg (s : State) (f : LdgSt → LdgSt) : State := { s with ldg := f s.ldg }

/-- A state in lock with one usable zone on actuator 0: 20 slots a track, 20,000,000 bits a revolution, 400 wedges; head 0
is READY in it with usable entries and holds the armed sectors `as`. The CHECK words follow R92. -/
def zoned_ (l : List (Fld × Nat)) (as : List Arm) : State :=
  { (up_ ([(R.TTH_STAT_STATE, 4), (R.TTH_STAT_LOCK, 1), (R.TTH_ZBPR_BPR 0, 20000000), (R.SEQ_FMT_WEDGES 0, 400),
      (R.SEQ_TRACKS_TRACKS 0, 1000), (R.SEQ_ZFMT_WORD 0 0, 0x14000000), (R.SEQ_ZFMT_WORD 0 1, 0x640000), (R.SEQ_ZFMT_WORD 0 2, 0x0),
      (R.SEQ_ZFMT_WORD 0 3, 0xbe4d8000), (R.CH_STAT_ZONE 0, 0), (R.CH_STAT_STATE 0, 3)] ++ l)).modHead 0 (fun x => { x with
      arms := as, wentry := [0x0, 0x0, 0x0, 0x38e28000]
      entry := [0x0, 0x0, 0x0, 0x0, 0x0, 0x90000000, 0x0, 0x0, 0x0, 0x0, 0x0, 0x0, 0x0, 0x0, 0x0, 0xf46b0000] }) with
    fTether := 1006632960 }

/-- A command of queue `q` that has passed its checks, in slot 3, fetched at 500 ns. -/
def cmd_ (q opc nsid : Nat) (dw : List Nat) : CmdSlot :=
  ⟨3, 0, q, ⟨opc, 0, 7, nsid, dw⟩, 500, 6, none, none, some true, false, false, false, [], [], false, none⟩

/-- Controller 0 is ready with an admin queue pair and an I/O queue pair; the device is in PARALLEL with one unattached and
one attached namespace, and the command table holds `cs`. -/
def host_ (l : List (Fld × Nat)) (cs : List CmdSlot) : State :=
  (up_ ([(R.SYS_MODE_MODE, 6), (R.SYS_MODE_TARGET, 6)] ++ l)).modHif (fun h => { h with
    ctls := [{ Ctl.init with
      cc := 0x460001, rdy := true, sqs := [⟨0, 16, 0, 0, 0, []⟩, ⟨1, 16, 0, 0, 1, []⟩],
      cqs := [⟨0, 16, 0, [], true, 0⟩, ⟨1, 16, 0, [], true, 1⟩] }, Ctl.init],
    slots := cs,
    nss := [⟨1, 1000, 0, false, false, 0, [4], [true, true], [], none, ⟨[], none, 0, 0, false⟩⟩,
      ⟨2, 1000, 0, false, false, 0, [5], [false, false], [], none, ⟨[], none, 0, 0, false⟩⟩] })

/-- An admin command in slot 3. -/
def adm_ (opc nsid : Nat) (dw : List Nat) : State := host_ [] [cmd_ 0 opc nsid dw]

/-- An I/O command of namespace 1 in slot 3. -/
def io_ (opc : Nat) (dw : List Nat) : State := host_ [] [cmd_ 1 opc 1 dw]

/-- The packed pool has as many FREE bands as reclaim asks for, and no other. -/
def pool_ : State := { up_ [] with rte := { (up_ []).rte with bands := List.replicate Config.reclaimBelow ⟨0, 0⟩ } }

theorem pool_free : Config.reclaimBelow ≤ (pool_.bandNums (fun x => x.st == 0)).length := by
  simp only [pool_, State.bandNums, State.band, List.getElem?_replicate, List.length_replicate]
  rw [List.filter_eq_self.2] <;> simp +contextual

theorem pool_none_reclaimed : pool_.bandNums (fun x => x.st == 3) = [] := by
  simp only [pool_, State.bandNums, State.band, List.getElem?_replicate, List.length_replicate, List.filter_eq_nil_iff]
  intro a ha
  simp at ha
  simp [ha]

end Sys2Proof.Machine
end

