-- ==== Sys2Proof/Tests/Slice0.lean ====
section
/-!
SUPPORT. Tests: an ill-formed command for every check of WellFormed, examples of the manual, and a witness for the hypotheses
of every statement.
-/

set_option maxRecDepth 100000
set_option linter.unusedVariables false

namespace Sys2Proof.Machine

open Sys2Proof

/-! ### Ill-formed commands are refused -/

theorem test_ill_formed_1 :
    ([.crsWrite .core (2 ^ 32) 0 0, .crsWrite .core 0 9 0, .crsAccessTimeout .core (2 ^ 32) false,
    .rcRegisterRead .core (2 ^ 32) 0, .rcRegisterRead .core 0 9, .stampLoRead .core (2 ^ 32),
    .stampHiRead .core (2 ^ 32), .commandFetch (some ⟨256, 0, 0, 0, []⟩) none,
    .commandFetch (some ⟨0, 4, 0, 0, []⟩) none, .commandFetch (some ⟨0, 0, 2 ^ 16, 0, []⟩) none,
    .commandFetch (some ⟨0, 0, 0, 2 ^ 32, []⟩) none, .commandFetch (some ⟨0, 0, 0, 0, [0, 0, 0, 0, 0, 0, 0]⟩) none,
    .commandFetch (some ⟨0, 0, 0, 0, [2 ^ 32]⟩) none, .commandFetch none (some ⟨256, 0, 0, 0, []⟩),
    .commandFetch none (some ⟨0, 4, 0, 0, []⟩), .commandFetch none (some ⟨0, 0, 2 ^ 16, 0, []⟩),
    .commandFetch none (some ⟨0, 0, 0, 2 ^ 32, []⟩), .commandFetch none (some ⟨0, 0, 0, 0, [0, 0, 0, 0, 0, 0, 0]⟩),
    .commandFetch none (some ⟨0, 0, 0, 0, [2 ^ 32]⟩), .setFeaturesDeviceMode 8192, .getFeaturesDeviceMode 8192,
    .junctionTempRead 256, .tetherFrequencyFound 0 (2 ^ 32) 0, .tetherFrequencyFound 0 0 (2 ^ 32),
    .syncDecision 0 (2 ^ 193), .streamDecodeEnd 0 (2 ^ 37120) 0, .streamDecodeEnd 0 0 256,
    .deepDecodeEnd 0 (2 ^ 37120) 0, .deepDecodeEnd 0 0 256, .servoSample 0 ⟨2 ^ 1024, 0, []⟩,
    .servoSample 0 ⟨0, 2 ^ 32, []⟩,
    .servoSample 0 ⟨0, 0, [[], [], [], [], []]⟩] : List Instr).all (fun i => !i.wf) = true := by
  decide

theorem test_ill_formed_2 :
    ([.servoSample 0 ⟨0, 0, [[64]]⟩, .servoSample 0 ⟨0, 0, [[-65]]⟩, .gustFrame 0 (2 ^ 40),
    .bridleReply 0 (some (2 ^ 40)), .vcmCurrentSample 0 (2 ^ 64), .spnCurrentSample ⟨2 ^ 190, 0, 0, 0, 0, 0⟩,
    .spnCurrentSample ⟨0, 2 ^ 190, 0, 0, 0, 0⟩, .spnCurrentSample ⟨0, 0, 2 ^ 190, 0, 0, 0⟩,
    .spnCurrentSample ⟨0, 0, 0, 2 ^ 190, 0, 0⟩, .spnCurrentSample ⟨0, 0, 0, 0, 2 ^ 190, 0⟩,
    .spnCurrentSample ⟨0, 0, 0, 0, 0, 2 ^ 190⟩, .spnFastBusSample (2 ^ 16) false false,
    .memTrainingDone false 16 0 0 0 false, .memTrainingDone false 0 16 0 0 false,
    .memTrainingDone false 0 0 16 0 false, .memTrainingDone false 0 0 0 16 false, .opAlloc false 256 0 0 false,
    .opAlloc false 0 256 0 false, .opAlloc false 0 0 (2 ^ 32) false, .opShare false 256 0 0,
    .opShare false 0 (2 ^ 32) 0, .opShare false 0 0 256, .opRelease false 256 0, .opRelease false 0 (2 ^ 32),
    .opFree false 256 0, .opFree false 0 (2 ^ 32), .opPass false 256 0 0, .opPass false 0 (2 ^ 32) 0,
    .opPass false 0 0 256, .opMark false 256 0 false, .opMark false 0 (2 ^ 32) false,
    .opQuery false 256 0] : List Instr).all (fun i => !i.wf) = true := by
  decide

theorem test_ill_formed_3 :
    ([.opQuery false 0 (2 ^ 32), .opRetire false 256 0, .opRetire false 0 (2 ^ 32), .opInit false 256 0,
    .opInit false 0 4, .depotBufferAccess 256 0 0 0 none, .depotBufferAccess 0 (2 ^ 32) 0 0 none,
    .depotBufferAccess 0 0 (2 ^ 32) 0 none, .depotBufferAccess 0 0 0 (2 ^ 32) none, .poolExhausted 8192,
    .convoyBusError 0 none 6 0 0, .convoyBusError 0 none 0 16 0, .convoyBusError 0 none 0 0 (2 ^ 24),
    .createIoCq 8192, .createIoSq 8192, .deleteIoCq 8192, .deleteIoSq 8192, .getLogPage 8192 ⟨0, [], 0⟩,
    .getLogPage 0 ⟨5, [], 0⟩, .getLogPage 0 ⟨0, [], 4⟩, .identify 8192 ⟨0, [], 0⟩, .identify 0 ⟨5, [], 0⟩,
    .identify 0 ⟨0, [], 4⟩, .opAbort 8192, .setFeatures 8192 ⟨0, [], 0⟩, .setFeatures 0 ⟨5, [], 0⟩,
    .setFeatures 0 ⟨0, [], 4⟩, .getFeatures 8192 ⟨0, [], 0⟩, .getFeatures 0 ⟨5, [], 0⟩, .getFeatures 0 ⟨0, [], 4⟩,
    .setFeaturesPowerMgmt 8192, .setFeaturesNumberOfQueues 8192] : List Instr).all (fun i => !i.wf) = true := by
  decide

theorem test_ill_formed_4 :
    ([.setFeaturesSpinupControl 8192, .setFeaturesQueueOrder 8192, .setFeaturesCompletionStamp 8192,
    .setFeaturesCompressionLevel 8192, .asyncEventRequest 8192, .namespaceManagement 8192 ⟨0, [], 0⟩,
    .namespaceManagement 0 ⟨5, [], 0⟩, .namespaceManagement 0 ⟨0, [], 4⟩, .namespaceAttachment 8192 ⟨0, [], 0⟩,
    .namespaceAttachment 0 ⟨5, [], 0⟩, .namespaceAttachment 0 ⟨0, [], 4⟩, .firmwareImageDownload 8192 ⟨0, [], 0⟩,
    .firmwareImageDownload 0 ⟨5, [], 0⟩, .firmwareImageDownload 0 ⟨0, [], 4⟩, .firmwareCommit 8192,
    .deviceSelfTest 8192 none, .deviceSelfTest 0 (some 16), .directiveSend 8192 ⟨0, [], 0⟩,
    .directiveSend 0 ⟨5, [], 0⟩, .directiveSend 0 ⟨0, [], 4⟩, .directiveReceive 8192 ⟨0, [], 0⟩,
    .directiveReceive 0 ⟨5, [], 0⟩, .directiveReceive 0 ⟨0, [], 4⟩, .unlockChallenge 8192,
    .unlockResponse 8192 ⟨0, [], 0⟩, .unlockResponse 0 ⟨5, [], 0⟩, .unlockResponse 0 ⟨0, [], 4⟩, .opFlush 8192,
    .opWrite 8192, .writeEffect 8192 ⟨0, [], 0⟩, .writeEffect 0 ⟨5, [], 0⟩,
    .writeEffect 0 ⟨0, [], 4⟩] : List Instr).all (fun i => !i.wf) = true := by
  decide

theorem test_ill_formed_5 :
    ([.opRead 8192 ⟨0, [], 0⟩ none, .opRead 0 ⟨5, [], 0⟩ none, .opRead 0 ⟨0, [], 4⟩ none,
    .opRead 0 ⟨0, [], 0⟩ (some [2 ^ 64]), .writeZeroes 8192, .datasetManagement 8192 ⟨0, [], 0⟩,
    .datasetManagement 0 ⟨5, [], 0⟩, .datasetManagement 0 ⟨0, [], 4⟩, .opVerify 8192 0 none, .opVerify 0 4 none,
    .opVerify 0 0 (some [2 ^ 64]), .reservationRegister 8192 ⟨0, [], 0⟩, .reservationRegister 0 ⟨5, [], 0⟩,
    .reservationRegister 0 ⟨0, [], 4⟩, .reservationReport 8192 ⟨0, [], 0⟩, .reservationReport 0 ⟨5, [], 0⟩,
    .reservationReport 0 ⟨0, [], 4⟩, .reservationAcquire 8192 ⟨0, [], 0⟩, .reservationAcquire 0 ⟨5, [], 0⟩,
    .reservationAcquire 0 ⟨0, [], 4⟩, .reservationRelease 8192 ⟨0, [], 0⟩, .reservationRelease 0 ⟨5, [], 0⟩,
    .reservationRelease 0 ⟨0, [], 4⟩, .sqTailDoorbell 0 (2 ^ 16) 0, .sqTailDoorbell 0 0 (2 ^ 32),
    .cqHeadDoorbell 0 (2 ^ 16) 0, .cqHeadDoorbell 0 0 (2 ^ 32), .completionPost 8192, .discardedByFault .cle [8192],
    .smbusBasicMgmtRead 256 false, .lookupLba false 256 0 0,
    .lookupLba false 0 0 (2 ^ 64)] : List Instr).all (fun i => !i.wf) = true := by
  decide

theorem test_ill_formed_6 :
    ([.lookupIdx false 256 0, .lookupIdx false 0 (2 ^ 27), .opUpdate false 256 0 0 0 0,
    .opUpdate false 0 (2 ^ 27) 0 0 0, .opUpdate false 0 0 (2 ^ 64) 0 0, .opUpdate false 0 0 0 (2 ^ 64) 0,
    .opUpdate false 0 0 0 0 (2 ^ 64), .patrolScrubStep 0 (2 ^ 72), .sramWalkerRead 256 0 0 0,
    .sramWalkerRead 0 256 0 0, .sramWalkerRead 0 0 (2 ^ 32) 0, .sramWalkerRead 0 0 0 (2 ^ 72),
    .faultUnmask .core (2 ^ 32) 0, .faultStatusClear .core (2 ^ 32) 0, .unlockRsp 256 [],
    .gatedUnitRead .core (2 ^ 32), .pcieLinkUp 0 0 33 0,
    .pcieLinkUp 0 0 0 (2 ^ 16)] : List Instr).all (fun i => !i.wf) = true := by
  decide

/-! ### Examples of the manual -/

/-- Chapter 0: the time base stands at 0x0000_0001_FFFF_FFF0 when STAMP_LO is read. -/
theorem test_stamp_pair : (match exec (.stampLoRead .core R.A_TTH_STAMP_LO) (on_ 0x1FFFFFFF0 []) with
    | .next t => match exec (.stampHiRead .core R.A_TTH_STAMP_HI) { t with now := 0x200000005 } with
      | .next u => (t.rdOut, u.rdOut)
      | _ => (none, none)
    | _ => (none, none)) = (some (.core, 0xFFFFFFF0), some (.core, 1)) := by decide

/-- R9: a 2-byte read at byte offset 3 returns byte 3 of the register in its low byte and 0x00 above it. -/
theorem test_narrow_read : ((at_ [(R.SYS_GPIO_OUT_OUT, 0xABCD)]).crsRead .core (R.A_SYS_ID + 3) 2).rdOut = some (.core, 0x4A) := by
  decide

/-- Chapter 3: frame 1,259 is 0x4EB, its check nibble 0x1. -/
theorem test_tether_frame : frameNumber (List.replicate 44 (some 0)
    ++ [some (-8), some 8, some (-8), some 8]
    ++ ([0, 1, 0, 0, 1, 1, 1, 0, 1, 0, 1, 1] ++ [0, 0, 0, 1]).map (fun b => some (if b = 1 then 3 else -3))) = some 1259 := by
  decide

/-- Chapter 3: the bit clock of zone 0 at 7,200 rpm. -/
theorem test_bit_clock : ({ at_ [(R.TTH_ZBPR_BPR 0, 46666240)] with fTether := 1006632960 }).fBit 0 = 5599948800 := by decide

/-- Chapter 4: the words of the final report of sector 814. -/
theorem test_sector_report : reportBits ⟨.read, 2000, 814, 0, false, 0, 0, false⟩
    { outcome := 4, stamp := 0x480000000 + 16679924, reads := 3, dec := 16, iter := 23, mark := some 0 }
    = 0x80FE83F4 + 0x7D0 * 2 ^ 32 + 0x1034032E * 2 ^ 64 + 0x00020017 * 2 ^ 96 := by decide

/-- Chapter 6: W = 640, BPR(0) = 46,666,240, WSPAN = 4,400, SPT = 1,180, TSKEW = 4,194,560, track 2,000, slot 100. -/
def lay_ : State := at_ [(R.TTH_ZBPR_BPR 0, 46666240), (R.SEQ_FMT_WEDGES 0, 640), (R.SEQ_ZFMT_WORD 0 0, 0x9C000000),
  (R.SEQ_ZFMT_WORD 0 1, 0x11300004), (R.SEQ_ZFMT_WORD 0 2, 0x00400100), (R.SEQ_ZFMT_WORD 0 3, 0x8000)]

theorem test_layout : (lay_.frameLen 0 0, lay_.dlen 0 0, lay_.dTot 0 0, zSpt (entryNat (lay_.zfmt 0 0)))
    = (72916, 68516, 43850240, 1180) := by decide

theorem test_slots : (lay_.slotStart 0 0 2000 0, lay_.slotStart 0 0 2000 100, lay_.trackPos 0 0 17436160,
    lay_.trackPos 0 0 (17436160 + 103), lay_.trackPos 0 0 (17436160 + 35420))
    = (13724160, 17436160, 18558160, 18558263, 18597980) := by decide

/-- Chapter 6: the micro-word at address 0x1234: a WAIT on RPT for head 2 with a Waypoint. -/
theorem test_micro_word : (fun w => (mwNext w, mwNop w, mwCond w, mwWp w, mwHead w, mwTmo w, mwIllegal w))
    (0x0002000002264300 + 0x0000020000000000 * 2 ^ 64) = (0x300, 9, 9, true, 2, 512, false) := by decide

/-- Chapter 6: UNIT = 64 and six surfaces of 1,180 slots: stripe sector 1,000 is slot 168 of surface 6a + 3. -/
theorem test_device_order : (dealSlots 64 20 (List.replicate 6 (List.range 1180)))[1000]? = some (3, 168) := by decide +kernel

/-- Chapter 7: Gray 0x438 is track 2,000, and the nibbles of 0x0010_E0FE give 0xE. -/
theorem test_track_code : unGray 0x438 = 2000 ∧ nibbleXor 0x0010E0FE = 0xE := by decide

/-- Chapter 7: bursts 300, 180, 420, 60 on an even track. -/
theorem test_bursts : ((at_ []).bpes ⟨300, 180, 420, 60⟩ false).1 = 16 := by decide

/-- Chapter 7: the coded bits of track 2,000, wedge 254 decode to them; a damaged pair is a violation. -/
theorem test_wedge_code : decodeWedge (codeWedge 2000 254) = some (2000, 254) ∧ decodeWedge (codeWedge 2000 254 - 1) = none := by
  decide

/-- A sinc3 filter has the gain d³: a bitstream of ones gives 64³, one of zeros 0. -/
theorem test_sinc3 : sinc3 64 (2 ^ 190 - 1) = 262144 ∧ sinc3 64 0 = 0 ∧ sinc3 16 (2 ^ 46 - 1) = 4096 := by decide +kernel

/-- Chapter 8: the sample of loop 9, e = −16: the output 5,088 and the new state s1. -/
theorem test_loop_job : (fun o : JobOut => (out16 o.out, o.s1.head?, o.acc, o.clip, o.lim))
    (runChannel ([0x10000000, 0x20000000, 0xE2000000, 0, 0xF0000000, 0] ++ List.replicate 15 0 ++ [0x10000000, 0, 0, 0x60000000,
      0x10000000, 0, 0, 0, 0x80000001, 0, 0]) (datum16 (-16)).1 0 0 0 false 0 [0x14000000, 0, 0, 0] [0, 0, 0, 0])
    = (5088, some 0x13FE0000, false, false, false) := by decide

/-- Chapter 9: PP = 4, THETA_OFS = 0x1200, Tether angle 2,578,743. -/
theorem test_theta : tetherElec 4 2578743 0x1200 = 0x4CC9 := by decide

/-- Chapter 10: pool M, index 77, generation 13: the handle, and the place of the buffer. -/
theorem test_handle : mkHandle 1 13 77 = 0x40D0004D ∧
    (at_ [(R.DEP_P_BASE_LO_BASE 1, 0xC0000), (R.DEP_P_BASE_HI_BASE 1, 4)]).bufAddr 0x40D0004D = 0x4C0268000 := by decide

/-- Chapter 12: a Read fetched at stamp 0x0000_0012_3456_789A on a controller with Completion Stamp set. -/
theorem test_completion_stamp : (fun s => (State.stampDw s { cmd_ 1 2 1 [] with stamp := 0x123456789A },
      State.stampDw s { cmd_ 1 2 1 [] with stamp := 0x123456789A, ctrl := 1 }))
    ((io_ 2 []).modCtl 0 (fun x => { x with stampHist := [(0x1000000000, true)] })) = (0x23456789, 0) := by decide

/-- Chapter 14: the fields of the entry 0x0001_5F01_2300_2A40, and the address of entry 0x10_03E8. -/
theorem test_route_entry : (fun e => (rtOffset e, rtBand e, rtNsect e, rtState e)) 0x00015F0123002A40 = (10816, 291, 95, 1) ∧
    (at_ [(R.RTE_TBL_BASE_LO_BASE, 0x40000)]).rtBase + 8 * 0x1003E8 = 0x40801F40 := by decide

/-- Chapter 14: the entries of stripes 1,000 and 1,001, the second a member of a linked run at LPOS 1 that begins 96 slots
back; 393,064 bytes take 96 sectors. -/
theorem test_container_entries : rtEntry 10816 291 95 1 0 0 = 0x00015F0123002A40 ∧ rtEntry 10912 291 73 1 1 96 = 0x0C05490123002AA0
    ∧ csectOf 393000 = 96 := by decide

/-- Chapter 15: the log's key of the word at 0x5_C04D_2128. -/
theorem test_log_key : (bufKey 0x5C04D2128).idx = 0xB809A425 := by decide

/-- Chapter 16: HANG bit 2 of CVY, at reset registers: FLT_SUM0 reads 0x0A00_0080. -/
theorem test_summary : ((at_ []).setFault .cvy 0x400).sum0 = 0x0A000080 := by decide

/-- Chapter 17: 64 bytes at offset 0xBF0 go to 0xC00. -/
theorem test_page : fitPage 0xBF0 64 = 0xC00 ∧ fitPage 0xC00 64 = 0xC00 := by decide

/-- Chapter 17: OPTIME of 147,600,000,000 ms as bytes 12 to 17. -/
theorem test_optime : ((recBytes ⟨2, [], 0, 0, false⟩ 0x12A40 1523 147600000000 0).drop 12).take 6
    = [0x00, 0x44, 0xA5, 0x5D, 0x22, 0x00] := by decide

/-- Chapter 18: bytes 0 to 15 of the message for challenge 0x0000_93C4_5D1E_2A07 on path 1, method 1. -/
theorem test_unlock_message : ((at_ []).unlockMessage 1 1 0x93C45D1E2A07).take 16
    = [0x07, 0x2A, 0x1E, 0x5D, 0xC4, 0x93, 0x00, 0x00, 0x01, 0x01, 0x00, 0x00, 0x10, 0x77, 0x24, 0x4A] := by decide

/-- Chapter 19: the frames WRITER, HEATER and LASER at the zone load of head 9, SEQ 4 to 6. -/
theorem test_setup_frames : ((setupFrames 9 (0x5A * 2 ^ 24 + 0x30 * 2 ^ 32 + 0x6 * 2 ^ 40 + 0x48 * 2 ^ 48 + 0x3C * 2 ^ 56)).zip
    [4, 5, 6]).map (fun e => (frameBytes e.1 e.2).take 5)
    = [[0x42, 0x03, 0x5A, 0x30, 0x06], [0x53, 0x03, 0x48, 0x3C, 0x00], [0x64, 0x03, 0x00, 0x00, 0x00]] := by decide

/-- R440: K28.5 in both disparities stands for itself; D.21.5 is 1010101010; a frame on the line gives its bytes. -/
theorem test_line_code : controlSymbol false commaBits = 0b0011111010 ∧ dataSymbol false 0xB5 = 0b1010101010 ∧
    frameOf (frameSymbols true [0x42, 0x03, 0x5A, 0x30, 0x06, 0, 0xFF]).1 = some [0x42, 0x03, 0x5A, 0x30, 0x06, 0, 0xFF] := by
  decide +kernel

/-- Chapter 20: the balls of head 9 (A27), head 14 (AT7, AN7), LP_2_DQ5 (K33) and LP_1_CK_T (AB5). -/
theorem test_balls : ballAt 1 27 = .signal (.writer 9 false) ∧ ballAt 34 7 = .signal (.writer 14 false)
    ∧ ballAt 32 7 = .signal (.reader 14 0 false) ∧ ballAt 10 33 = .signal (.dq 2 5) ∧ ballAt 21 5 = .signal (.ck 1 false) := by
  decide

/-- R471: a rail of the core domain at 730 mV to 770 mV is good, at 727 mV twice low. -/
theorem test_rails : railLow .core 727 727 = true ∧ railLow .core 728 727 = false := by decide

/-! ### States and steps -/

/-- The state after reset is canonical and calm, and an empty queue lets a cycle pass. -/
theorem test_reset_inv : State.reset.canon = true ∧ State.reset.calm = true := by decide

theorem test_tick : (match step (on_ 5 []) with
    | .next t => t.now
    | _ => 0) = 6 := by decide

/-- A write that sets a register and a value outside its range that does not (R14): FLT_CFG.WDOG_T allows 50 to 200. -/
theorem test_reserved : ((at_ []).crsWrite .core R.A_FLT_CFG 4 0x05000103).get R.FLT_CFG_WDOG_T = 200 := by decide

/-! ### The hypotheses of every statement can be met -/

theorem crs_access_completes_crsWrite_meets :
    (∃ (path : Path) (addr : Nat) (value : Word) (h : (regAt addr).isSome = true) (s : State), addr % 4 = 0 ∧
      s.takes path addr value = true ∧ taskWindow addr = none ∧ (s.arrayMerge addr).1 = true) ∧
    (∃ (path : Path) (addr : Nat) (value : Word) (s : State), s.takes path addr value = true ∧ taskWindow addr =
      none ∧ (s.arrayMerge addr).1 = false) ∧
    (∃ (path : Path) (addr size : Nat) (value : Word) (s : State), s.gated addr = false ∧ s.silent addr = false ∧
      (size ≠ 4 ∨ addr % 4 ≠ 0 ∨ s.pathWrites path = false)) ∧
    (∃ (path : Path) (addr : Nat) (value : Word) (s : State), s.gated addr = false ∧ s.silent addr = false ∧
      taskWindow addr = none ∧ (s.writeBarred path addr value.toNat = true ∨ regAt addr = none)) ∧
    (∃ (path : Path) (addr size : Nat) (value : Word) (s : State), s.pathReads path = true ∧ s.gated addr = true) :=
  ⟨⟨.core, R.A_SYS_GPIO_OUT, 5, by decide, at_ [], (by decide)⟩, ⟨.core, 0x02002000, 1,
    { up_ [] with ms := { (up_ []).ms with flips := [(⟨true, 0x20, 0, 0x400⟩, 3)] } }, (by decide)⟩, ⟨.win0,
    R.A_SYS_GPIO_OUT, 4, 5, at_ [], (by decide)⟩, ⟨.core, 0x01000FF0, 1, at_ [], (by decide)⟩, ⟨.core, R.A_SRV_CTRL,
    2, 1, at_ [], (by decide)⟩⟩

theorem crs_access_completes_meets :
    ∃ (a : Nat) (s : State), arrayKeyOf a = none :=
  ⟨0, at_ [], (by decide)⟩

theorem crs_access_completes_crsAccessTimeout_meets :
    (∃ (path : Path) (addr : Nat) (s : State), s.pathReads path = true ∧ s.gated addr = false ∧ s.silent addr =
      true) ∧
    (∃ (path : Path) (addr : Nat) (s : State), s.pathReads path = true ∧ s.gated addr = false ∧ s.silent addr =
      true) :=
  ⟨⟨.core, R.A_CLE_CTRL, (up_ []).modFlt (fun f => { f with resets := [(.cle, 0)] }), (by decide)⟩, ⟨.core,
    R.A_CLE_CTRL, (up_ []).modFlt (fun f => { f with resets := [(.cle, 0)] }), (by decide)⟩⟩

theorem crs_access_completes_rcRegisterRead_meets :
    ∃ (path : Path) (addr : Nat) (h : (regAt addr).isSome = true) (s : State), addr % 4 = 0 ∧ s.pathReads path =
      true ∧ s.gated addr = false ∧ s.silent addr = false ∧ ((regAt addr).get h).half = .single ∧ ((regAt addr).get
      h).hasRc = true ∧ arrayKeyOf addr = none ∧ s.readWord addr = ((s.rd addr).toNat, s) :=
  ⟨.core, R.A_CLE_LAT, by decide, up_ [], (by decide)⟩

theorem crs_access_completes_stampLoRead_meets :
    ∃ (path : Path) (s : State), s.pathReads path = true :=
  ⟨.win1, at_ [], (by decide)⟩

theorem crs_access_completes_stampHiRead_meets :
    (∃ (path : Path) (w : Word) (s : State), s.pathReads path = true ∧ s.holdOf path R.A_TTH_STAMP_LO = some w) ∧
    (∃ (path : Path) (s : State), s.pathReads path = true ∧ s.holdOf path R.A_TTH_STAMP_LO = none) :=
  ⟨⟨.core, 7, (at_ []).holdSet .core R.A_TTH_STAMP_LO (some 7), (by decide)⟩, ⟨.core, at_ [], (by decide)⟩⟩

theorem crs_access_completes_gatedUnitRead_meets :
    ∃ (path : Path) (addr : Nat) (s : State), addr % 4 = 0 ∧ s.pathReads path = true ∧ s.gated addr = true :=
  ⟨.core, R.A_SRV_CTRL, at_ [], (by decide)⟩

theorem power_and_time_base_complete_tbAlignCheck_meets :
    (∃ (d : Int) (s : State), 2 < d.natAbs) ∧
    (∃ (d : Int) (s : State), d.natAbs ≤ 2) :=
  ⟨⟨-3, at_ [], (by decide)⟩, ⟨2, at_ [], (by decide)⟩⟩

theorem power_and_time_base_complete_powerGood_meets :
    (∃ (rails : List (Nat × Nat)) (gpio : Word) (s : State), railsGood rails = true ∧ s.sys.powerGood = false) ∧
    (∃ (rails : List (Nat × Nat)) (gpio : Word) (s : State), railsGood rails = true ∧ s.sys.powerGood = false) ∧
    (∃ (rails : List (Nat × Nat)) (gpio : Word) (pair1 : Bool) (s : State), railsGood rails = true ∧ s.sys.powerGood
      = false) ∧
    (∃ (rails : List (Nat × Nat)) (gpio : Word) (pair0 pair1 : Bool) (s : State), (railsGood rails = false ∨
      s.sys.powerGood = true)) :=
  ⟨⟨[(750, 750), (800, 800), (900, 900), (1800, 1800), (500, 500), (1050, 1050), (3300, 3300)], 1, at_ [],
    (by decide)⟩, ⟨[(750, 750), (800, 800), (900, 900), (1800, 1800), (500, 500), (1050, 1050), (3300, 3300)], 0,
    at_ [], (by decide)⟩, ⟨[(750, 750), (800, 800), (900, 900), (1800, 1800), (500, 500), (1050, 1050), (3300,
    3300)], 0, true, at_ [], (by decide)⟩, ⟨[(727, 750)], 0, true, true, at_ [], (by decide)⟩⟩

theorem power_and_time_base_complete_powerDomainUp_meets :
    (∃ (s : State), s.sys.powerGood = true ∧ s.sys.domAt + 50000 ≤ s.now ∧ s.get R.SYS_PWR_STAT_PD = 7) ∧
    (∃ (s : State), s.sys.powerGood = true ∧ s.sys.domAt + 50000 ≤ s.now ∧ s.get R.SYS_PWR_STAT_PD = 3) ∧
    (∃ (s : State), s.sys.powerGood = true ∧ s.now < s.sys.domAt + 50000 ∧ s.get R.SYS_PWR_STAT_PD = 3) :=
  ⟨⟨on_ 50000 [(R.SYS_PWR_STAT_PD, 7)], (by decide)⟩, ⟨on_ 50000 [(R.SYS_PWR_STAT_PD, 3)], (by decide)⟩, ⟨on_ 49999
    [(R.SYS_PWR_STAT_PD, 3)], (by decide)⟩⟩

theorem power_and_time_base_complete_underVoltage_meets :
    (∃ (rail : Fin 7) (a b : Nat) (s : State), railLow (railAt rail.val) a b = true ∧ s.sys.powerGood = true ∧
      s.spn.lost = false) ∧
    (∃ (rail : Fin 7) (a b : Nat) (s : State), (railLow (railAt rail.val) a b = false ∨ s.spn.lost = true)) :=
  ⟨⟨0, 727, 0, on_ 0 [], (by decide)⟩, ⟨6, 3134, 3135, lost_, (by decide)⟩⟩

theorem power_and_time_base_complete_powerOnReset_meets :
    (∃ (rail : Fin 7) (mv : List Nat) (s : State), railLost (railAt rail.val) mv = true) ∧
    (∃ (rail : Fin 7) (mv : List Nat) (s : State), railLost (railAt rail.val) mv = false) :=
  ⟨⟨0, List.replicate 100 698, at_ [], (by decide)⟩, ⟨0, List.replicate 99 0, at_ [], (by decide)⟩⟩

theorem power_and_time_base_complete_supplyRecoveryReset_meets :
    ∃ (t : Nat) (s : State), s.spn.lost = true ∧ s.spn.supHigh = some t ∧ t + 100000000 ≤ s.now ∧ (∀ a : Act,
      s.actState a.val ≤ 1) ∧ s.ldg.queue = [] ∧ s.ldg.job = none :=
  ⟨0, lost_, (by decide)⟩

theorem mode_commands_complete_modeTransitionTrigger_meets :
    (∃ (s : State), s.mode = mPARKED ∧ s.busy = false ∧ s.get R.SYS_MODE_REASON = 0x0D) ∧
    (∃ (s : State), s.flag R.SEC_STAT_HOST_UNLOCKED = false ∧ s.mode = mWORKSHOP ∧ s.target = mWORKSHOP ∧ s.spnState
      = 0) ∧
    (∃ (s : State), s.flag R.SEC_STAT_HOST_UNLOCKED = false ∧ s.mode = mWORKSHOP ∧ s.target = mWORKSHOP ∧ s.spnState
      ≠ 0) :=
  ⟨⟨at_ [(R.SYS_MODE_MODE, 1), (R.SYS_MODE_REASON, 13), (R.SYS_MODE_STAMP_HI_BUSY, 0)], (by decide)⟩, ⟨at_
    [(R.SYS_MODE_MODE, 11), (R.SYS_MODE_TARGET, 11)], (by decide)⟩, ⟨at_ [(R.SYS_MODE_MODE, 11), (R.SYS_MODE_TARGET,
    11), (R.SPN_STAT_STATE, 4)], (by decide)⟩⟩

theorem mode_commands_complete_modeStepComplete_meets :
    (∃ (p : ModeStep) (s : State), s.sys.limp = none ∧ s.sys.step = some p ∧ s.stepOver p = true) ∧
    (∃ (s : State), s.sys.limp = none ∧ s.sys.step = none) :=
  ⟨⟨.loads [], (at_ [(R.SRV_ACT_STAT_STATE 0, 5)]).modSys (fun y => { y with step := some (.loads []) }),
    (by decide)⟩, ⟨at_ [(R.SYS_MODE_STAMP_HI_BUSY, 1), (R.SYS_MODE_TARGET, 0)], (by decide)⟩⟩

theorem mode_commands_complete_meets :
    (∃ (s : State), s.sys.limp = none ∧ s.sys.step = none ∧ s.busy = true ∧ s.mode = s.target) ∧
    (∃ (i : Fin 4) (x : Int) (s : State), s.envEn i.val = true) ∧
    (∃ (i : Fin 4) (s : State), s.envEn i.val = true ∧ s.sys.envMiss[i.val]? = some 2) :=
  ⟨⟨at_ [(R.SYS_MODE_STAMP_HI_BUSY, 1), (R.SYS_MODE_TARGET, 0)], (by decide)⟩, ⟨1, 30, at_ [(R.SYS_ENV_ADDR_EN1,
    1)], (by decide)⟩, ⟨1, (at_ [(R.SYS_ENV_ADDR_EN1, 1)]).modSys (fun y => { y with envMiss := [0, 2, 0, 0] }),
    (by decide)⟩⟩

theorem mode_commands_complete_junctionTempRead_meets :
    ∃ (tj : Nat) (s : State), tj ≤ 255 :=
  ⟨100, at_ [], (by decide)⟩

theorem mode_commands_complete_envSensorPoll_meets :
    (∃ (readings : List (Option Int)) (s : State), s.sys.booted = false) ∧
    (∃ (readings : List (Option Int)) (v : Int) (r : List Int) (s : State), s.sys.booted = true ∧ (s.envReads
      readings).envGood = v :: r) ∧
    (∃ (readings : List (Option Int)) (s : State), s.sys.booted = true ∧ (s.envReads readings).envGood = []) :=
  ⟨⟨[], at_ [], (by decide)⟩, ⟨[some 30, some 41], 30, [41], (at_ [(R.SYS_ENV_ADDR_EN0, 1), (R.SYS_ENV_ADDR_EN1, 1),
    (R.SYS_ENV_ADDR_EN2, 0), (R.SYS_ENV_ADDR_EN3, 0)]).modSys (fun y => { y with booted := true }), (by decide)⟩,
    ⟨[none, none], (at_ [(R.SYS_ENV_ADDR_EN0, 1), (R.SYS_ENV_ADDR_EN1, 1), (R.SYS_ENV_ADDR_EN2, 0),
    (R.SYS_ENV_ADDR_EN3, 0)]).modSys (fun y => { y with booted := true }), (by decide)⟩⟩

theorem mode_commands_complete_temperatureCapRelease_meets :
    ∃ (t : Nat) (s : State), s.sys.coolAt = some t ∧ s.flag R.SYS_TEMP_HOT = true ∧ t + 10000000000 ≤ s.now :=
  ⟨0, (on_ 10000000000 [(R.SYS_TEMP_HOT, 1)]).modSys (fun y => { y with coolAt := some 0 }), (by decide)⟩

theorem mode_commands_complete_ondemandTimeout_meets :
    (∃ (s : State), s.sys.onDemand = true ∧ s.get R.SYS_MODE_POLICY_ONDEMAND_RET = 0 ∧ s.sys.lastIo + 2000000000 ≤
      s.now ∧ s.hif.slots = []) ∧
    (∃ (s : State), s.sys.onDemand = true ∧ s.get R.SYS_MODE_POLICY_ONDEMAND_RET ≠ 0 ∧ s.sys.lastIo + s.get
      R.SYS_MODE_POLICY_ONDEMAND_RET * 100000000 ≤ s.now ∧ s.hif.slots = []) :=
  ⟨⟨(on_ 2000000000 [(R.SYS_MODE_POLICY_ONDEMAND_RET, 0)]).modSys (fun y => { y with onDemand := true }),
    (by decide)⟩, ⟨(on_ 100000000 [(R.SYS_MODE_POLICY_ONDEMAND_RET, 1)]).modSys (fun y =>
    { y with onDemand := true }), (by decide)⟩⟩

theorem mode_commands_complete_autonomousPsTransition_meets :
    ∃ (n : Ctrl) (t ps : Nat) (s : State), bitOf (cnt (s.ctl n.val).feats 0x0C) 0 = true ∧ s.mode ≠ mWORKSHOP ∧
      s.target ≠ mWORKSHOP ∧ s.limping = false ∧ s.hif.slots = [] ∧ (s.ctl n.val).apst[s.sys.ps]? = some (t, ps) ∧ t
      ≠ 0 ∧ s.sys.ps < ps ∧ ps ≤ 3 ∧ s.sys.lastIo + t * 1000000 ≤ s.now :=
  ⟨0, 1, 3, (on_ 1000000 [(R.SYS_MODE_MODE, 3), (R.SYS_MODE_TARGET, 3)]).modCtl 0 (fun c =>
    { c with feats := [(0x0C, 1)], apst := [(1, 3)] }), (by decide)⟩

theorem mode_commands_complete_spinupTimeout_meets :
    (∃ (s : State), s.mode = mSPINUP ∧ s.sys.limp = none ∧ s.sys.spinAt + 25000000000 ≤ s.now ∧ s.flag
      R.SPN_STAT_AT_SPEED = false ∧ s.hif.slots = []) ∧
    (∃ (s : State), s.mode ≠ mSPINUP ∧ s.spn.renewed = true ∧ 1 ≤ s.spnState ∧ s.spnState ≤ 3 ∧ s.spn.alignAt +
      25000000000 ≤ s.now) :=
  ⟨⟨on_ 25000000000 [(R.SYS_MODE_MODE, 2)], (by decide)⟩, ⟨(on_ 25000000000 [(R.SYS_MODE_MODE, 6),
    (R.SPN_STAT_STATE, 2)]).modSpn (fun x => { x with renewed := true }), (by decide)⟩⟩

theorem mode_commands_complete_actuatorLoadStart_meets :
    (∃ (a : Act) (r : List Nat) (s : State), s.sys.loadAt + 200000000 ≤ s.now ∧ s.sys.step = some (.loads (a.val ::
      r)) ∧ (∀ b ∈ a.val :: r, modeUses s.target b = true)) ∧
    (∃ (a : Act) (r : List Nat) (s : State), s.sys.loadAt + 200000000 ≤ s.now ∧ s.sys.step = some (.unloads (a.val
      :: r)) ∧ s.sys.limp = none) ∧
    (∃ (s : State), s.now < s.sys.loadAt + 200000000) :=
  ⟨⟨0, [], (on_ 200000000 [(R.SYS_MODE_TARGET, 6)]).modSys (fun y => { y with step := some (.loads [0]) }),
    (by decide)⟩, ⟨3, [], (on_ 200000000 []).modSys (fun y => { y with step := some (.unloads [3]) }), (by decide)⟩,
    ⟨on_ 199999999 [], (by decide)⟩⟩

theorem mode_commands_complete_limpRetractTimeout_meets :
    ∃ (a : Act) (b : Bool) (t0 t : Nat) (s : State), s.sys.limp = some (b, t0) ∧ s.sys.unloadAt[a.val]? = some (some
      t) ∧ t + 300000000 ≤ s.now ∧ 2 ≤ s.actState a.val :=
  ⟨0, true, 0, 0, (on_ 300000000 [(R.SRV_ACT_STAT_STATE 0, 7)]).modSys (fun y =>
    { y with limp := some (true, 0), unloadAt := [some 0] }), (by decide)⟩

theorem fault_commands_complete_faultUnmask_meets :
    (∃ (path : Path) (addr : Nat) (value : Word) (r : FltReg) (s : State), addr % 4 = 0 ∧ s.takes path addr value =
      true ∧ taskWindow addr = none ∧ (regAt addr).isSome = true ∧ fltOfStat addr = none ∧ fltOfMask addr = some r)
      ∧
    (∃ (path : Path) (addr : Nat) (value : Word) (s : State), fltOfMask addr = none) :=
  ⟨⟨.core, R.A_SPN_FLT_MASK, 0, .spn, up_ [], (by decide)⟩, ⟨.core, R.A_SPN_CTRL, 0, up_ [], (by decide)⟩⟩

theorem fault_commands_complete_faultStatusClear_meets :
    (∃ (path : Path) (addr : Nat) (value : Word) (r : FltReg) (s : State), addr % 4 = 0 ∧ s.takes path addr value =
      true ∧ taskWindow addr = none ∧ (regAt addr).isSome = true ∧ fltOfStat addr = some r) ∧
    (∃ (path : Path) (addr : Nat) (value : Word) (s : State), fltOfStat addr = none) :=
  ⟨⟨.core, R.A_SPN_FLT_STAT, 1, .spn, up_ [], (by decide)⟩, ⟨.core, R.A_SPN_CTRL, 0, up_ [], (by decide)⟩⟩

theorem fault_commands_complete_attnRelease_meets :
    (∃ (t : Nat) (s : State), s.flt.attnAt = some t ∧ t + 10000 ≤ s.now ∧ s.attnCond = false) ∧
    (∃ (t : Nat) (s : State), s.flt.attnAt = some t ∧ (s.now < t + 10000 ∨ s.attnCond = true)) :=
  ⟨⟨0, (on_ 10000 []).modFlt (fun f => { f with attnAt := some 0 }), (by decide)⟩, ⟨0, (on_ 9999 []).modFlt (fun f
    => { f with attnAt := some 0 }), (by decide)⟩⟩

theorem fault_commands_complete_containRequest_meets :
    ∃ (path : Path) (value : Word) (u : CUnit) (s : State), containUnit (value.toNat % 256) (value.toNat / 256 %
      256) = some u ∧ s.takes path R.A_FLT_CONTAIN value = true :=
  ⟨.core, 0x1102, .dec 17, at_ [], (by decide)⟩

theorem fault_commands_complete_containmentResetEnd_meets :
    (∃ (u : CUnit) (t : Nat) (s : State), s.flt.resets = [(u, t)] ∧ s.flt.resetAgain = [] ∧ s.now < t + 20000) ∧
    (∃ (n : Nat) (t : Nat) (s : State), s.flt.resets = [(.dec n, t)] ∧ s.flt.resetAgain = [] ∧ t + 20000 ≤ s.now) :=
  ⟨⟨.cle, 0, (on_ 19999 []).modFlt (fun f => { f with resets := [(.cle, 0)] }), (by decide)⟩, ⟨17, 0, (on_ 20000
    []).modFlt (fun f => { f with resets := [(.dec 17, 0)] }), (by decide)⟩⟩

theorem fault_commands_complete_mismatch_meets :
    (∃ (p : Fin 2) (s : State), s.sys.powerGood = true ∧ p.val = s.activePair) ∧
    (∃ (p : Fin 2) (s : State), s.sys.powerGood = true ∧ p.val ≠ s.activePair ∧ s.get (pairFld p.val) = 1) :=
  ⟨⟨0, on_ 5 [], (by decide)⟩, ⟨1, on_ 5 [], (by decide)⟩⟩

theorem fault_commands_complete_opWdog_meets :
    (∃ (s : State), s.sys.powerGood = true ∧ s.flt.safeStop = false ∧ s.flt.wdogAt + s.get R.FLT_CFG_WDOG_T * 1000 ≤
      s.now) ∧
    (∃ (s : State), s.now < s.flt.wdogAt + s.get R.FLT_CFG_WDOG_T * 1000) :=
  ⟨⟨on_ 1000 [(R.FLT_CFG_WDOG_T, 1)], (by decide)⟩, ⟨on_ 999 [(R.FLT_CFG_WDOG_T, 1)], (by decide)⟩⟩

theorem fault_commands_complete_watchdogKick_meets :
    (∃ (path : Path) (value : Word) (s : State), s.takes path R.A_FLT_WDOG value = true) ∧
    (∃ (path : Path) (value : Word) (s : State), path ≠ .core) :=
  ⟨⟨.core, 1, at_ [], (by decide)⟩, ⟨.debug, 1, at_ [], (by decide)⟩⟩

theorem fault_commands_complete_switchoverReconciled_meets :
    (∃ (s : State), s.flt.switching = none) ∧
    (∃ (t : Nat) (s : State), s.flt.switching = some t ∧ s.flt.held = []) :=
  ⟨⟨at_ [], (by decide)⟩, ⟨0, (at_ []).modFlt (fun f => { f with switching := some 0 }), (by decide)⟩⟩

theorem fault_commands_complete_pairSelfTestDone_meets :
    (∃ (p : Fin 2) (s : State), s.get (pairFld p.val) = 2) ∧
    (∃ (p : Fin 2) (s : State), s.get (pairFld p.val) = 2) ∧
    (∃ (p : Fin 2) (pass : Bool) (s : State), s.get (pairFld p.val) ≠ 2) :=
  ⟨⟨0, at_ [(R.FLT_CORE_STAT_PAIR0, 2)], (by decide)⟩, ⟨1, at_ [(R.FLT_CORE_STAT_PAIR1, 2)], (by decide)⟩, ⟨0, true,
    at_ [], (by decide)⟩⟩

theorem ledger_commands_complete_ldgRaise_meets :
    (∃ (path : Path) (value : Word) (s : State), s.takes path R.A_LDG_RAISE value = true) ∧
    (∃ (path : Path) (value : Word) (s : State), path ≠ .core ∧ ¬ (0x1F0 ≤ value.toNat % 65536 ∧ value.toNat % 65536
      ≤ 0x1FF)) :=
  ⟨⟨.core, 1, at_ [], (by decide)⟩, ⟨.win0, 1, at_ [], (by decide)⟩⟩

theorem ledger_commands_complete_ledgerProgramDone_meets :
    (∃ (j : LdgJob) (s : State), s.ldg.job = some j ∧ j.second = false) ∧
    (∃ (j : LdgJob) (r : LdgRec) (s : State), s.ldg.job = some j ∧ j.second = true ∧ j.what = .record r) ∧
    (∃ (j : LdgJob) (k : Nat) (s : State), s.ldg.job = some j ∧ j.second = true ∧ j.what = .header k) ∧
    (∃ (s : State), s.ldg.job = none) :=
  ⟨⟨⟨.header 0, 0x2100000, [1], false, false⟩, (at_ []).modLdg (fun l =>
    { l with job := some ⟨.header 0, 0x2100000, [1], false, false⟩ }), (by decide)⟩, ⟨⟨.record ⟨1, [], 0, 0, false⟩,
    0x2100100, [1], true, false⟩, ⟨1, [], 0, 0, false⟩, (at_ []).modLdg (fun l =>
    { l with job := some ⟨.record ⟨1, [], 0, 0, false⟩, 0x2100100, [1], true, false⟩ }), (by decide)⟩, ⟨⟨.header
    127, 0x2100000, [1], true, false⟩, 127, (at_ []).modLdg (fun l =>
    { l with job := some ⟨.header 127, 0x2100000, [1], true, false⟩ }), (by decide)⟩, ⟨at_ [], (by decide)⟩⟩

theorem ledger_commands_complete_ledgerProgramFail_meets :
    (∃ (j : LdgJob) (k : Nat) (s : State), s.ldg.job = some j ∧ j.what = .header k ∧ j.retry = true) ∧
    (∃ (j : LdgJob) (r : LdgRec) (s : State), s.ldg.job = some j ∧ j.what = .record r ∧ j.retry = true) ∧
    (∃ (s : State), s.ldg.job = none) :=
  ⟨⟨⟨.header 0, 0x2100000, [1], true, true⟩, 0, (at_ []).modLdg (fun l =>
    { l with job := some ⟨.header 0, 0x2100000, [1], true, true⟩ }), (by decide)⟩, ⟨⟨.record ⟨1, [], 0, 0, false⟩,
    0x2100100, [1], true, true⟩, ⟨1, [], 0, 0, false⟩, (at_ []).modLdg (fun l =>
    { l with job := some ⟨.record ⟨1, [], 0, 0, false⟩, 0x2100100, [1], true, true⟩ }), (by decide)⟩, ⟨at_ [],
    (by decide)⟩⟩

theorem ledger_commands_complete_ledgerEraseDone_meets :
    (∃ (k : Nat) (j : LdgJob) (s : State), s.ldg.erasing = some k ∧ s.ldg.job = some j) ∧
    (∃ (k : Nat) (s : State), s.ldg.erasing = some k ∧ s.ldg.job = none) ∧
    (∃ (k : Nat) (s : State), s.ldg.erasing = some k) ∧
    (∃ (ok : Bool) (s : State), s.ldg.erasing = none) :=
  ⟨⟨5, ⟨.header 0, 0x2100000, [1], true, true⟩, (at_ []).modLdg (fun l =>
    { l with erasing := some 5, job := some ⟨.header 0, 0x2100000, [1], true, true⟩ }), (by decide)⟩, ⟨127, (at_
    []).modLdg (fun l => { l with erasing := some 127 }), (by decide)⟩, ⟨127, (at_ []).modLdg (fun l =>
    { l with erasing := some 127 }), (by decide)⟩, ⟨true, at_ [], (by decide)⟩⟩

theorem ledger_commands_complete_ledgerScanDone_meets :
    ∃ (s : State), s.get R.LDG_STAT_STATE ≠ 0 :=
  ⟨at_ [(R.LDG_STAT_STATE, 1)], (by decide)⟩

theorem ledger_commands_complete_meets :
    (∃ (s : State), s.get R.LDG_STAT_STATE = 0 ∧ s.nor = []) ∧
    (∃ (a b c : Nat) (s : State), s.get R.LDG_STAT_STATE = 0 ∧ s.openSectors = [] ∧ newestRec (s.scanArea 40960
      norFounding (norFounding + 0x100000)) = some (a, b, c)) :=
  ⟨⟨at_ [], (by decide)⟩, ⟨7, 3, 5000,
    { at_ [] with nor := norProgram (norProgram [] norFounding (recBytes ⟨1, [], 0, 0, true⟩ 7 3 5000 0)) norFounding [0x30] },
    (by decide +kernel)⟩⟩

theorem ledger_commands_complete_opHours_meets :
    (∃ (s : State), s.ldg.lastHours + 600000000000 ≤ s.now) ∧
    (∃ (s : State), s.now < s.ldg.lastHours + 600000000000) :=
  ⟨⟨on_ 600000000000 [], (by decide)⟩, ⟨on_ 599999999999 [], (by decide)⟩⟩

theorem ledger_commands_complete_suppSummary_meets :
    (∃ (s : State), s.ldg.lastSummary + 3600000000000 ≤ s.now) ∧
    (∃ (s : State), s.now < s.ldg.lastSummary + 3600000000000) :=
  ⟨⟨on_ 3600000000000 [], (by decide)⟩, ⟨on_ 3599999999999 [], (by decide)⟩⟩

theorem ledger_commands_complete_tokenRefill_meets :
    (∃ (s : State), s.ldg.lastRefill + s.get R.LDG_RATE_REFILL * 1000000000 ≤ s.now) ∧
    (∃ (s : State), s.now < s.ldg.lastRefill + s.get R.LDG_RATE_REFILL * 1000000000) :=
  ⟨⟨on_ 1000000000 [(R.LDG_RATE_REFILL, 1)], (by decide)⟩, ⟨on_ 999999999 [(R.LDG_RATE_REFILL, 1)], (by decide)⟩⟩

theorem ledger_commands_complete_smbusLedgerRead_meets :
    (∃ (s : State), s.smbOn = true) ∧
    (∃ (pec : Bool) (s : State), s.smbOn = false) :=
  ⟨⟨on_ 2000000 [(R.HIF_SMB_CFG_EN, 1)], (by decide)⟩, ⟨true, on_ 1999999 [(R.HIF_SMB_CFG_EN, 1)], (by decide)⟩⟩

theorem ledger_commands_complete_smbusLedgerStatus_meets :
    ∃ (s : State), s.smbOn = true :=
  ⟨on_ 2000000 [(R.HIF_SMB_CFG_EN, 1)], (by decide)⟩

theorem ledger_commands_complete_smbusLedgerOffset_meets :
    (∃ (bytes : List Byte) (s : State), s.smbOn = true ∧ bytes.length = 3 ∧ ofBeBytes bytes < 9437184) ∧
    (∃ (bytes : List Byte) (s : State), s.smbOn = true ∧ (bytes.length ≠ 3 ∨ 9437184 ≤ ofBeBytes bytes)) :=
  ⟨⟨[0x8F, 0xFF, 0xFF], on_ 2000000 [(R.HIF_SMB_CFG_EN, 1)], (by decide)⟩, ⟨[0x90, 0, 0], on_ 2000000
    [(R.HIF_SMB_CFG_EN, 1)], (by decide)⟩⟩

theorem ledger_commands_complete_smbusBasicMgmtRead_meets :
    (∃ (code : Nat) (s : State), s.smbOn = true ∧ code ≠ 0 ∧ code ≠ 8) ∧
    (∃ (s : State), s.smbOn = true) ∧
    (∃ (s : State), s.smbOn = true) ∧
    (∃ (code : Nat) (pec : Bool) (s : State), s.smbOn = false) :=
  ⟨⟨0x10, on_ 2000000 [(R.HIF_SMB_CFG_EN, 1)], (by decide)⟩, ⟨on_ 2000000 [(R.HIF_SMB_CFG_EN, 1)], (by decide)⟩,
    ⟨on_ 2000000 [(R.HIF_SMB_CFG_EN, 1)], (by decide)⟩, ⟨0, true, on_ 1999999 [(R.HIF_SMB_CFG_EN, 1)], (by decide)⟩⟩

theorem boot_commands_complete_bootRecordRead_meets :
    (∃ (a p k q : Nat) (s : State), s.sec.step = 0 ∧ s.mode = mBOOT ∧ s.sys.powerGood = true ∧ s.bootRecord = some
      (k, a, p, q)) ∧
    (∃ (fuseOk : Bool) (s : State), (s.sec.step ≠ 0 ∨ s.mode ≠ mBOOT ∨ s.sys.powerGood = false)) :=
  ⟨⟨2, 0, 0, 1, { ((on_ 0 []).bootWrite 2 0) with free := 0 }, (by decide)⟩, ⟨true, at_ [], (by decide)⟩⟩

theorem boot_commands_complete_manifestStreamed_meets :
    (∃ (s : State), s.sec.step = 1) ∧
    (∃ (s : State), s.sec.step ≠ 1) :=
  ⟨⟨(at_ []).modSec (fun x => { x with step := 1 }), (by decide)⟩, ⟨at_ [], (by decide)⟩⟩

theorem boot_commands_complete_firmwareStreamed_meets :
    (∃ (s : State), s.sec.step = 2 ∧ s.sec.tries = []) ∧
    (∃ (k : Nat) (r : List Nat) (s : State), s.sec.step = 2 ∧ s.sec.tries = k :: r ∧ (s.imageOk 2 (s.slotImage k) =
      false ∨ s.versionOk 2 (s.slotImage k) = false) ∧ r ≠ []) ∧
    (∃ (k : Nat) (r : List Nat) (s : State), s.sec.step = 2 ∧ s.sec.tries = k :: r) ∧
    (∃ (s : State), s.sec.step ≠ 2) :=
  ⟨⟨(at_ []).modSec (fun x => { x with step := 2 }), (by decide)⟩, ⟨1, [2],
    { (at_ []).modSec (fun x => { x with step := 2, tries := [1, 2] }) with nor := [(0x290000C, 64), (0x290000D, 0), (0x290000E, 0), (0x290000F, 0)] },
    (by decide)⟩, ⟨1, [2], (at_ []).modSec (fun x => { x with step := 2, tries := [1, 2] }), (by decide)⟩, ⟨at_ [],
    (by decide)⟩⟩

theorem boot_commands_complete_patchLoad_meets :
    (∃ (s : State), s.sec.step = 3 ∧ s.get R.SEC_STAT_ACTIVE_SLOT = 0) ∧
    (∃ (k : Fin 4) (s : State), s.sec.step = 3 ∧ s.get R.SEC_STAT_ACTIVE_SLOT = k.val ∧ k ≠ 0) ∧
    (∃ (s : State), s.sec.step ≠ 3) :=
  ⟨⟨(at_ []).modSec (fun x => { x with step := 3 }), (by decide)⟩, ⟨1, (at_ [(R.SEC_STAT_ACTIVE_SLOT, 1)]).modSec
    (fun x => { x with step := 3 }), (by decide)⟩, ⟨at_ [], (by decide)⟩⟩

theorem boot_commands_complete_manifestAuthentication_meets :
    (∃ (s : State), s.sec.step = 4) ∧
    (∃ (s : State), s.sec.step ≠ 4) :=
  ⟨⟨(at_ []).modSec (fun x => { x with step := 4 }), (by decide)⟩, ⟨at_ [], (by decide)⟩⟩

theorem boot_commands_complete_bootExit_meets :
    (∃ (fuseOk : Bool) (s : State), s.sec.step = 5 ∧ s.mode = mBOOT ∧ 2 ≤ s.get R.MEM_STAT_STATE ∧ s.lossShown =
      false ∧ s.sec.manOk = false) ∧
    (∃ (fuseOk : Bool) (s : State), s.sec.step = 5 ∧ s.mode = mBOOT ∧ 2 ≤ s.get R.MEM_STAT_STATE ∧ s.lossShown =
      false ∧ s.sec.manOk = true ∧ (s.memFailed = false ∨ imgLen s.manifestImage ≤ 2097152)) ∧
    (∃ (fuseOk : Bool) (s : State), (s.sec.step ≠ 5 ∨ s.mode ≠ mBOOT ∨ s.get R.MEM_STAT_STATE < 2)) :=
  ⟨⟨true, (at_ [(R.MEM_STAT_STATE, 2)]).modSec (fun x => { x with step := 5 }), (by decide)⟩, ⟨true, (at_
    [(R.MEM_STAT_STATE, 2)]).modSec (fun x => { x with step := 5, manOk := true }), (by decide)⟩, ⟨true, (at_
    [(R.MEM_STAT_STATE, 1)]).modSec (fun x => { x with step := 5 }), (by decide)⟩⟩

theorem unlock_commands_complete_unlockCh_meets :
    (∃ (s : State), s.methodOk 1 1 = true ∧ s.lockLeft 1 = 0) ∧
    (∃ (s : State), s.methodOk 1 0 = true ∧ s.lockLeft 1 = 0) ∧
    (∃ (m : Fin 4) (s : State), (m.val ≠ 1 ∨ s.methodOk 1 1 = false ∨ s.lockLeft 1 ≠ 0) ∧ (m.val ≠ 0 ∨ s.methodOk 1
      0 = false ∨ s.lockLeft 1 ≠ 0)) :=
  ⟨⟨at_ [], (by decide)⟩, ⟨(at_ []).modSec (fun x => { x with keys := some ⟨15, 5, 1, [], 0, []⟩ }), (by decide)⟩,
    ⟨3, at_ [], (by decide)⟩⟩

theorem unlock_commands_complete_unlockRsp_meets :
    (∃ (numd : Nat) (data : List Byte) (s : State), (s.secPath 1).chal = none) ∧
    (∃ (numd : Nat) (data : List Byte) (m ch t : Nat) (s : State), (s.secPath 1).chal = some (m, ch, t) ∧ t +
      60000000000 ≤ s.now ∧ m < 2 ∧ 1 ≤ numd ∧ numd ≤ 64) :=
  ⟨⟨24, [], at_ [], (by decide)⟩, ⟨24, [], 1, 5, 0, (on_ 60000000000 []).modPath 1 (fun x =>
    { x with chal := some (1, 5, 0) }), (by decide)⟩⟩

theorem unlock_commands_complete_meets :
    (∃ (numd : Nat) (data : List Byte) (m ch t : Nat) (s : State), (s.secPath 1).chal = some (m, ch, t) ∧ s.now < t
      + 60000000000 ∧ m < 2 ∧ 1 ≤ numd ∧ numd ≤ 64) ∧
    (∃ (p : Fin 2) (k : SecKeys) (s : State), s.sec.keys = some k ∧ satN (s.get (failsFld p.val) + 1) 255 < k.lockN)
      ∧
    (∃ (p : Fin 2) (k : SecKeys) (s : State), s.sec.keys = some k ∧ k.lockN ≤ satN (s.get (failsFld p.val) + 1) 255
      ∧ (s.secPath p.val).lockLen = 0) ∧
    (∃ (s : State), s.flag R.SEC_STAT_DBG_UNLOCKED = true) ∧
    (∃ (s : State), s.flag R.SEC_STAT_HOST_UNLOCKED = true) ∧
    (∃ (p : Fin 2) (s : State), s.flag (unlFld p.val) = false) :=
  ⟨⟨24, [], 1, 5, 0, (on_ 59999999999 []).modPath 1 (fun x => { x with chal := some (1, 5, 0) }), (by decide)⟩, ⟨1,
    ⟨15, 5, 1, [], 0, []⟩, (at_ [(R.SEC_FAILS_DBG_FAILS, 3)]).modSec (fun x =>
    { x with keys := some ⟨15, 5, 1, [], 0, []⟩ }), (by decide)⟩, ⟨1, ⟨15, 5, 1, [], 0, []⟩, (at_
    [(R.SEC_FAILS_DBG_FAILS, 4)]).modSec (fun x => { x with keys := some ⟨15, 5, 1, [], 0, []⟩ }), (by decide)⟩,
    ⟨at_ [(R.SEC_STAT_DBG_UNLOCKED, 1)], (by decide)⟩, ⟨at_ [(R.SEC_STAT_HOST_UNLOCKED, 1)], (by decide)⟩, ⟨1, at_
    [], (by decide)⟩⟩

theorem unlock_commands_complete_unlockAttemptExpiry_meets :
    (∃ (p : Fin 2) (m ch t : Nat) (s : State), (s.secPath p.val).chal = some (m, ch, t) ∧ t + 60000000000 ≤ s.now) ∧
    (∃ (p : Fin 2) (m ch t : Nat) (s : State), (s.secPath p.val).chal = some (m, ch, t) ∧ s.now < t + 60000000000)
      :=
  ⟨⟨0, 1, 5, 0, (on_ 60000000000 []).modPath 0 (fun x => { x with chal := some (1, 5, 0) }), (by decide)⟩, ⟨0, 1, 5,
    0, (on_ 59999999999 []).modPath 0 (fun x => { x with chal := some (1, 5, 0) }), (by decide)⟩⟩

theorem unlock_commands_complete_lockoutEnd_meets :
    (∃ (p : Fin 2) (t : Nat) (s : State), (s.secPath p.val).lockEnd = some t ∧ s.lockLeft p.val = 0) ∧
    (∃ (p : Fin 2) (s : State), s.lockLeft p.val ≠ 0) :=
  ⟨⟨1, 60000, (on_ 60000000000 []).modPath 1 (fun x => { x with lockEnd := some 60000 }), (by decide)⟩, ⟨1, (on_
    59999999999 []).modPath 1 (fun x => { x with lockEnd := some 60000 }), (by decide)⟩⟩

theorem unlock_commands_complete_unlockTimeout_meets :
    (∃ (p : Fin 2) (t : Nat) (k : SecKeys) (s : State), (s.secPath p.val).unlockAt = some t ∧ s.sec.keys = some k ∧
      k.tmo ≠ 0 ∧ t + k.tmo * 60000000000 ≤ s.now) ∧
    (∃ (p : Fin 2) (k : SecKeys) (s : State), s.sec.keys = some k ∧ k.tmo = 0) :=
  ⟨⟨1, 0, ⟨15, 5, 1, [], 0, []⟩, ((on_ 60000000000 []).modPath 1 (fun x => { x with unlockAt := some 0 })).modSec
    (fun x => { x with keys := some ⟨15, 5, 1, [], 0, []⟩ }), (by decide)⟩, ⟨1, ⟨15, 5, 0, [], 0, []⟩, (at_
    []).modSec (fun x => { x with keys := some ⟨15, 5, 0, [], 0, []⟩ }), (by decide)⟩⟩

theorem unlock_commands_complete_hostLock_meets :
    ∃ (path : Path) (value : Word) (s : State), bitOf value.toNat 1 = false ∧ s.takes path R.A_SEC_CTRL (withBits
      value 0 1 1) = true :=
  ⟨.core, 0, at_ [], (by decide)⟩

theorem unlock_commands_complete_dbgLock_meets :
    ∃ (path : Path) (value : Word) (s : State), bitOf value.toNat 0 = false ∧ s.takes path R.A_SEC_CTRL (withBits
      value 1 1 1) = true :=
  ⟨.core, 0, at_ [], (by decide)⟩

theorem tap_commands_complete_extest_meets :
    (∃ (s : State), (s.mode = mBOOT ∨ s.mode = mPARKED ∨ s.mode = mLIMP)) ∧
    (∃ (s : State), s.mode ≠ mBOOT ∧ s.mode ≠ mPARKED ∧ s.mode ≠ mLIMP) :=
  ⟨⟨at_ [], (by decide)⟩, ⟨at_ [(R.SYS_MODE_MODE, 3)], (by decide)⟩⟩

theorem tap_commands_complete_crsAddr_meets :
    (∃ (addr : Word) (s : State), s.pathReads .debug = false) ∧
    (∃ (addr : Word) (t : State) (v : Nat) (s : State), s.pathReads .debug = true ∧ (s.modSec (fun x =>
      { x with tapAddr := addr.toNat, tapWr := false })).crsRead .debug addr.toNat 4 = t ∧ t.rdOut = some (.debug,
      v)) :=
  ⟨⟨0, at_ [], (by decide)⟩, ⟨0, _, 0, at_ [(R.SEC_STAT_DBG_UNLOCKED, 1)], ⟨by decide, rfl, by decide⟩⟩⟩

theorem tap_commands_complete_crsData_meets :
    (∃ (data : Word) (s : State), s.sec.tapWr = false) ∧
    (∃ (data : Word) (s : State), s.sec.tapWr = true ∧ s.pathReads .debug = false) ∧
    (∃ (data : Word) (s : State), s.sec.tapWr = true ∧ s.pathReads .debug = true ∧ s.pathWrites .debug = false ∧
      s.gated s.sec.tapAddr = false ∧ s.silent s.sec.tapAddr = false) ∧
    (∃ (data : Word) (s : State), s.sec.tapWr = true ∧ s.pathWrites .debug = true) :=
  ⟨⟨5, at_ [], (by decide)⟩, ⟨5, (at_ []).modSec (fun x => { x with tapWr := true }), (by decide)⟩, ⟨5, (at_
    [(R.SEC_STAT_DBG_UNLOCKED, 1)]).modSec (fun x => { x with tapWr := true }), (by decide)⟩, ⟨5, (at_
    [(R.SYS_MODE_MODE, 11), (R.SEC_STAT_DBG_UNLOCKED, 1)]).modSec (fun x => { x with tapWr := true }), (by decide)⟩⟩

theorem tap_commands_complete_gpioOutWrite_meets :
    ∃ (path : Path) (value : Word) (s : State), s.takes path R.A_SYS_GPIO_OUT value = true :=
  ⟨.core, 0xFFFF, at_ [], (by decide)⟩

theorem spindle_commands_complete_spnStart_meets :
    ∃ (path : Path) (value : Word) (s : State), bitOf value.toNat 0 = true ∧ bitOf value.toNat 2 = true ∧ s.takes
      path R.A_SPN_CTRL (withBits value 8 3 1) = true :=
  ⟨.core, 5, up_ [(R.SPN_STAT_STATE, 0)], (by decide)⟩

theorem spindle_commands_complete_spnBrake_meets :
    ∃ (path : Path) (value : Word) (s : State), bitOf value.toNat 0 = true ∧ bitOf value.toNat 2 = true ∧ s.takes
      path R.A_SPN_CTRL (withBits value 8 3 2) = true :=
  ⟨.core, 5, up_ [(R.SPN_STAT_STATE, 4)], (by decide)⟩

theorem spindle_commands_complete_spnCoast_meets :
    ∃ (path : Path) (value : Word) (s : State), bitOf value.toNat 0 = true ∧ bitOf value.toNat 2 = true ∧ s.takes
      path R.A_SPN_CTRL (withBits value 8 3 3) = true :=
  ⟨.core, 5, up_ [(R.SPN_STAT_STATE, 4)], (by decide)⟩

theorem spindle_commands_complete_meets :
    (∃ (s : State), s.spnStartOk = true ∧ s.spnState = 0 ∧ s.spn.listenAt = none ∧ s.obsLocked = false) ∧
    (∃ (s : State), s.spnStartOk = true ∧ s.spnState = 5) ∧
    (∃ (s : State), s.spnStartOk = true ∧ s.spnState = 6) ∧
    (∃ (s : State), s.spnStartOk = true ∧ s.spnState = 7) ∧
    (∃ (s : State), s.spnStartOk = true ∧ (s.spnState = 1 ∨ s.spnState = 2 ∨ s.spnState = 3 ∨ s.spnState = 4 ∨
      s.spnState = 8)) ∧
    (∃ (s : State), (s.flag R.SPN_CTRL_EN = false ∨ s.spn.fltLow = true ∨ s.spn.lost = true)) ∧
    (∃ (s : State), (s.spnState = 3 ∨ s.spnState = 4)) ∧
    (∃ (s : State), (s.spnState = 1 ∨ s.spnState = 2)) ∧
    (∃ (s : State), (s.spnState = 5 ∨ s.spnState = 6 ∨ s.spnState = 7 ∨ s.spnState = 8)) ∧
    (∃ (s : State), (s.spnState = 9 ∨ (s.spnState = 0 ∧ s.spn.listenAt = none))) ∧
    (∃ (s : State), s.spnState ≠ 0 ∧ s.spnState ≠ 7 ∧ s.spnState ≠ 9) ∧
    (∃ (s : State), (s.spnState = 0 ∨ s.spnState = 7 ∨ s.spnState = 9)) ∧
    (∃ (s : State), s.spnState = 2 ∧ s.obsLocked = true ∧ s.spn.next = none) ∧
    (∃ (s : State), s.obsLocked = false) ∧
    (∃ (s : State), s.spn.startNext = none) :=
  ⟨⟨up_ [(R.SPN_CTRL_EN, 1)], (by decide)⟩, ⟨up_ [(R.SPN_CTRL_EN, 1), (R.SPN_STAT_STATE, 5)], (by decide)⟩, ⟨up_
    [(R.SPN_CTRL_EN, 1), (R.SPN_STAT_STATE, 6)], (by decide)⟩, ⟨up_ [(R.SPN_CTRL_EN, 1), (R.SPN_STAT_STATE, 7)],
    (by decide)⟩, ⟨up_ [(R.SPN_CTRL_EN, 1), (R.SPN_STAT_STATE, 4)], (by decide)⟩, ⟨up_ [], (by decide)⟩, ⟨up_
    [(R.SPN_STAT_STATE, 3)], (by decide)⟩, ⟨up_ [(R.SPN_STAT_STATE, 2)], (by decide)⟩, ⟨up_ [(R.SPN_STAT_STATE, 8)],
    (by decide)⟩, ⟨up_ [(R.SPN_STAT_STATE, 9)], (by decide)⟩, ⟨up_ [(R.SPN_STAT_STATE, 8)], (by decide)⟩, ⟨up_
    [(R.SPN_STAT_STATE, 7)], (by decide)⟩, ⟨up_ [(R.SPN_STAT_STATE, 2), (R.SPN_STAT_OBS_LOCK, 1)], (by decide)⟩,
    ⟨up_ [(R.SPN_STAT_STATE, 2)], (by decide)⟩, ⟨up_ [], (by decide)⟩⟩

theorem spindle_commands_complete_spnDisable_meets :
    ∃ (path : Path) (value : Word) (s : State), s.flag R.SPN_CTRL_EN = true ∧ bitOf value.toNat 2 = true ∧ s.takes
      path R.A_SPN_CTRL (withBits value 0 1 0) = true :=
  ⟨.core, 5, up_ [(R.SPN_CTRL_EN, 1)], (by decide)⟩

theorem spindle_commands_complete_spnTargetWrite_meets :
    (∃ (path : Path) (value : Word) (s : State), (s.storeReg path R.A_SPN_TARGET value).spnState = 4 ∧ s.takes path
      R.A_SPN_TARGET value = true) ∧
    (∃ (path : Path) (value : Word) (s : State), (s.storeReg path R.A_SPN_TARGET value).spnState ≠ 4 ∧ s.takes path
      R.A_SPN_TARGET value = true) :=
  ⟨⟨.core, 7200, up_ [(R.SPN_STAT_STATE, 4)], (by decide)⟩, ⟨.core, 7200, up_ [], (by decide)⟩⟩

theorem spindle_commands_complete_spnListenEnd_meets :
    (∃ (t : Nat) (s : State), s.spn.listenAt = some t ∧ s.spnState = 0 ∧ t + 20000000 ≤ s.now ∧ s.obsLocked = false
      ∧ s.brakePend = false) ∧
    (∃ (t : Nat) (s : State), s.spn.listenAt = some t ∧ s.spnState = 0 ∧ t + 20000000 ≤ s.now ∧ s.obsLocked = false
      ∧ s.brakePend = true) ∧
    (∃ (s : State), s.spn.listenAt = none) :=
  ⟨⟨0, (on_ 20000000 []).modSpn (fun x => { x with listenAt := some 0 }), (by decide)⟩, ⟨0, (on_ 20000000
    [(R.SPN_STAT_BRAKE_PEND, 1)]).modSpn (fun x => { x with listenAt := some 0 }), (by decide)⟩, ⟨up_ [],
    (by decide)⟩⟩

theorem spindle_commands_complete_spnAlignEnd_meets :
    (∃ (s : State), s.spnState = 1 ∧ s.spn.stateAt + s.get R.SPN_START_ALIGN_T * 1000000 ≤ s.now ∧ s.spn.next =
      none) ∧
    (∃ (s : State), s.spnState = 1 ∧ s.spn.next = some .coast) ∧
    (∃ (s : State), (s.spnState ≠ 1 ∨ s.now < s.spn.stateAt + s.get R.SPN_START_ALIGN_T * 1000000)) :=
  ⟨⟨on_ 500000000 [(R.SPN_STAT_STATE, 1), (R.SPN_START_ALIGN_T, 200)], (by decide)⟩, ⟨(on_ 500000000
    [(R.SPN_STAT_STATE, 1)]).modSpn (fun x => { x with next := some .coast }), (by decide)⟩, ⟨on_ 99999999
    [(R.SPN_STAT_STATE, 1), (R.SPN_START_ALIGN_T, 100)], (by decide)⟩⟩

theorem spindle_commands_complete_spnRampTimeout_meets :
    (∃ (s : State), s.spnState = 2 ∧ s.spn.stateAt + s.get R.SPN_START_RAMP_TMO * 10000000 ≤ s.now ∧ s.get
      R.SPN_STAT_TRIES + 1 < s.get R.SPN_START_TRIES ∧ s.get R.SPN_STAT_TRIES < 15) ∧
    (∃ (s : State), s.spnState = 2 ∧ s.spn.stateAt + s.get R.SPN_START_RAMP_TMO * 10000000 ≤ s.now ∧ s.get
      R.SPN_START_TRIES ≤ s.get R.SPN_STAT_TRIES + 1 ∧ s.get R.SPN_STAT_TRIES < 15) ∧
    (∃ (s : State), (s.spnState ≠ 2 ∨ s.now < s.spn.stateAt + s.get R.SPN_START_RAMP_TMO * 10000000)) :=
  ⟨⟨on_ 10000000 [(R.SPN_STAT_STATE, 2), (R.SPN_START_RAMP_TMO, 1), (R.SPN_START_TRIES, 3)], (by decide)⟩, ⟨on_
    10000000 [(R.SPN_STAT_STATE, 2), (R.SPN_START_RAMP_TMO, 1), (R.SPN_START_TRIES, 3), (R.SPN_STAT_TRIES, 2)],
    (by decide)⟩, ⟨on_ 9999999 [(R.SPN_STAT_STATE, 2), (R.SPN_START_RAMP_TMO, 1)], (by decide)⟩⟩

theorem spindle_commands_complete_spnRetryCoastEnd_meets :
    (∃ (t : Nat) (s : State), s.spn.retryAt = some t ∧ s.spnState = 0 ∧ t + 1000000000 ≤ s.now) ∧
    (∃ (s : State), s.spn.retryAt = none) :=
  ⟨⟨0, (on_ 1000000000 []).modSpn (fun x => { x with retryAt := some 0 }), (by decide)⟩, ⟨up_ [], (by decide)⟩⟩

theorem spindle_commands_complete_spnAtSpeed_meets :
    (∃ (s : State), s.spnState = 3 ∧ 64 ≤ s.spn.atRun) ∧
    (∃ (s : State), (s.spnState ≠ 3 ∨ s.spn.atRun < 64)) :=
  ⟨⟨(on_ 5 [(R.SPN_STAT_STATE, 3)]).modSpn (fun x => { x with atRun := 64 }), (by decide)⟩, ⟨(on_ 5
    [(R.SPN_STAT_STATE, 3)]).modSpn (fun x => { x with atRun := 63 }), (by decide)⟩⟩

theorem spindle_commands_complete_spnRestReached_meets :
    (∃ (t : Nat) (s : State), s.spn.rest = some t ∧ t + 500000000 ≤ s.now ∧ s.spnState = 6) ∧
    (∃ (t : Nat) (s : State), s.spn.rest = some t ∧ t + 500000000 ≤ s.now ∧ s.spnState = 7 ∧ s.stageHeld = true ∧
      s.spn.lost = false) ∧
    (∃ (s : State), s.spn.rest = none) :=
  ⟨⟨0, (on_ 500000000 [(R.SPN_STAT_STATE, 6)]).modSpn (fun x => { x with rest := some 0 }), (by decide)⟩, ⟨0, (on_
    500000000 [(R.SPN_STAT_STATE, 7)]).modSpn (fun x => { x with rest := some 0, fltLow := true }), (by decide)⟩,
    ⟨up_ [], (by decide)⟩⟩

theorem spindle_samples_complete_spnCurrentSample_meets :
    (∃ (o : SpnObs) (s : State), s.inReset .spn = false) ∧
    (∃ (o : SpnObs) (s : State), s.inReset .spn = true) :=
  ⟨⟨⟨0, 0, 0, 0, 0, 0⟩, up_ [], (by decide)⟩, ⟨⟨0, 0, 0, 0, 0, 0⟩, (up_ []).modFlt (fun f =>
    { f with resets := [(.spn, 0)] }), (by decide)⟩⟩

theorem spindle_samples_complete_meets :
    (∃ (t : Nat) (x : SpnSample) (v f : State) (i : Int × Int) (s : State), (s.set R.SPN_VBUS_MV (satN x.mv
      65535)).spnAngles t x = v ∧ v.spnCurrents t x = (i, f)) ∧
    (∃ (t : Nat) (x : SpnSample) (s : State), s.tetherAngle = true) ∧
    (∃ (mv : Nat) (balIs supok : Bool) (s : State), s.flag R.SPN_CTRL_BAL_EN = false) ∧
    (∃ (mv : Nat) (balIs supok : Bool) (s : State), s.flag R.SPN_CTRL_BAL_EN = true ∧ s.balFaulted = false ∧
      s.inReset .spn = false ∧ s.spn.gateAt = none ∧ s.get R.SPN_BAL_BAL_ON ≤ mv) ∧
    (∃ (mv : Nat) (balIs supok : Bool) (t : Nat) (s : State), s.flag R.SPN_CTRL_BAL_EN = true ∧ s.balFaulted = false
      ∧ s.inReset .spn = false ∧ s.spn.gateAt = some t ∧ mv ≤ s.get R.SPN_BAL_BAL_OFF ∧ t + 1000 ≤ s.now) ∧
    (∃ (s : State), s.spn.next = some .coast) :=
  ⟨⟨0, ⟨0, 0, 0, 0, 0, 0⟩, (((up_ []).set R.SPN_VBUS_MV (satN 0 65535)).spnAngles 0 ⟨0, 0, 0, 0, 0, 0⟩), ((((up_
    []).set R.SPN_VBUS_MV (satN 0 65535)).spnAngles 0 ⟨0, 0, 0, 0, 0, 0⟩).spnCurrents 0 ⟨0, 0, 0, 0, 0, 0⟩).2,
    ((((up_ []).set R.SPN_VBUS_MV (satN 0 65535)).spnAngles 0 ⟨0, 0, 0, 0, 0, 0⟩).spnCurrents 0 ⟨0, 0, 0, 0, 0,
    0⟩).1, up_ [], ⟨rfl, (Prod.eta _).symm⟩⟩, ⟨0, ⟨0, 0, 0, 0, 0, 0⟩, up_ [(R.TTH_STAT_ANGLE_VALID, 1)],
    (by decide)⟩, ⟨14400, false, true, up_ [(R.SPN_CTRL_BAL_EN, 0)], (by decide)⟩, ⟨13200, false, true, up_
    [(R.SPN_CTRL_BAL_EN, 1), (R.SPN_BAL_BAL_ON, 13200)], (by decide)⟩, ⟨12800, false, true, 0, (up_
    [(R.SPN_CTRL_BAL_EN, 1), (R.SPN_BAL_BAL_OFF, 12800)]).modSpn (fun y => { y with gateAt := some 0 }),
    (by decide)⟩, ⟨(up_ [(R.SPN_STAT_STATE, 4)]).modSpn (fun y => { y with next := some .coast }), (by decide)⟩⟩

theorem spindle_samples_complete_spnPwmPeriod_meets :
    ∃ (s : State), s.spnState = 0 ∧ s.spn.vd = 0 ∧ s.spn.vq = 0 ∧ s.spn.next = none :=
  ⟨up_ [], (by decide)⟩

theorem spindle_samples_complete_obsLock_meets :
    (∃ (s : State), s.obsLocked = false ∧ s.get R.SPN_OBS_CFG_LOCK_N ≤ s.spn.lockRun ∧ s.spnState = 2 ∧ s.spn.next =
      none) ∧
    (∃ (s : State), s.obsLocked = false ∧ s.get R.SPN_OBS_CFG_LOCK_N ≤ s.spn.lockRun ∧ s.spnState = 0 ∧
      s.spn.listenAt ≠ none) ∧
    (∃ (s : State), s.obsLocked = false ∧ s.get R.SPN_OBS_CFG_LOCK_N ≤ s.spn.lockRun ∧ s.spnState = 8 ∧
      s.spn.catchRun = false) ∧
    (∃ (s : State), s.obsLocked = false ∧ s.get R.SPN_OBS_CFG_LOCK_N ≤ s.spn.lockRun ∧ s.spnState = 4) ∧
    (∃ (s : State), (s.obsLocked = true ∨ s.spn.lockRun < s.get R.SPN_OBS_CFG_LOCK_N)) :=
  ⟨⟨on_ 5 [(R.SPN_STAT_STATE, 2), (R.SPN_OBS_CFG_LOCK_N, 0)], (by decide)⟩, ⟨(on_ 5 [(R.SPN_OBS_CFG_LOCK_N,
    0)]).modSpn (fun x => { x with listenAt := some 0 }), (by decide)⟩, ⟨on_ 5 [(R.SPN_STAT_STATE, 8),
    (R.SPN_OBS_CFG_LOCK_N, 0)], (by decide)⟩, ⟨on_ 5 [(R.SPN_STAT_STATE, 4), (R.SPN_OBS_CFG_LOCK_N, 0)],
    (by decide)⟩, ⟨on_ 5 [(R.SPN_OBS_CFG_LOCK_N, 1)], (by decide)⟩⟩

theorem spindle_samples_complete_obsLoss_meets :
    (∃ (s : State), s.obsLocked = true ∧ 3 ≤ s.spn.lossRun) ∧
    (∃ (s : State), (s.obsLocked = false ∨ s.spn.lossRun < 3)) :=
  ⟨⟨(on_ 5 [(R.SPN_STAT_OBS_LOCK, 1)]).modSpn (fun x => { x with lossRun := 3 }), (by decide)⟩, ⟨(on_ 5
    [(R.SPN_STAT_OBS_LOCK, 1)]).modSpn (fun x => { x with lossRun := 2 }), (by decide)⟩⟩

theorem spindle_samples_complete_angDisagree_meets :
    (∃ (s : State), 64 ≤ s.spn.disRun) ∧
    (∃ (s : State), s.spn.disRun < 64) :=
  ⟨⟨(on_ 5 []).modSpn (fun x => { x with disRun := 64 }), (by decide)⟩, ⟨(on_ 5 []).modSpn (fun x =>
    { x with disRun := 63 }), (by decide)⟩⟩

theorem spindle_samples_complete_catchPresetEnd_meets :
    (∃ (s : State), s.spnState = 8 ∧ s.spn.catchRun = true ∧ 48 ≤ s.spn.catchPer) ∧
    (∃ (s : State), (s.spnState ≠ 8 ∨ s.spn.catchRun = false ∨ s.spn.catchPer < 48)) :=
  ⟨⟨(on_ 5 [(R.SPN_STAT_STATE, 8)]).modSpn (fun x => { x with catchRun := true, catchPer := 48 }), (by decide)⟩,
    ⟨(on_ 5 [(R.SPN_STAT_STATE, 8)]).modSpn (fun x => { x with catchRun := true, catchPer := 47 }), (by decide)⟩⟩

theorem spindle_samples_complete_catchFail_meets :
    (∃ (s : State), s.spnState = 8 ∧ s.spn.catchRun = false ∧ s.obsLocked = false ∧ s.spn.stateAt + 500000000 ≤
      s.now ∧ s.spn.catchStart = false) ∧
    (∃ (s : State), s.spnState = 8 ∧ s.spn.catchRun = false ∧ s.obsLocked = false ∧ s.spn.stateAt + 500000000 ≤
      s.now ∧ s.spn.catchStart = true ∧ s.spn.renewed = false) ∧
    (∃ (s : State), s.spnState = 8 ∧ s.spn.catchRun = false ∧ s.obsLocked = false ∧ s.spn.stateAt + 500000000 ≤
      s.now ∧ s.spn.catchStart = true ∧ s.spn.renewed = true) ∧
    (∃ (s : State), (s.spnState ≠ 8 ∨ s.spn.catchRun = true ∨ s.obsLocked = true ∨ s.now < s.spn.stateAt +
      500000000)) :=
  ⟨⟨on_ 500000000 [(R.SPN_STAT_STATE, 8)], (by decide)⟩, ⟨(on_ 500000000 [(R.SPN_STAT_STATE, 8)]).modSpn (fun x =>
    { x with catchStart := true }), (by decide)⟩, ⟨(on_ 500000000 [(R.SPN_STAT_STATE, 8)]).modSpn (fun x =>
    { x with catchStart := true, renewed := true }), (by decide)⟩, ⟨on_ 499999999 [(R.SPN_STAT_STATE, 8)],
    (by decide)⟩⟩

theorem ballast_and_supply_complete_balFlt_meets :
    (∃ (t : Nat) (s : State), s.spn.gateAt = some t ∧ s.spn.isSeen = false ∧ t + 2000 ≤ s.now) ∧
    (∃ (t : Nat) (s : State), s.spn.gateAt = some t ∧ 5 ≤ s.spn.balRun) ∧
    (∃ (t : Nat) (s : State), s.spn.gateAt = some t ∧ (s.spn.isSeen = true ∨ s.now < t + 2000) ∧ s.spn.balRun < 5) ∧
    (∃ (s : State), s.spn.gateAt = none) :=
  ⟨⟨0, (on_ 2000 []).modSpn (fun x => { x with gateAt := some 0 }), (by decide)⟩, ⟨0, (on_ 5 []).modSpn (fun x =>
    { x with gateAt := some 0, balRun := 5 }), (by decide)⟩, ⟨0, (on_ 1999 []).modSpn (fun x =>
    { x with gateAt := some 0, balRun := 4 }), (by decide)⟩, ⟨up_ [], (by decide)⟩⟩

theorem ballast_and_supply_complete_meets :
    (∃ (b : Nat) (s : State), s.spnState = 5) ∧
    (∃ (b : Nat) (s : State), s.spnState = 9) ∧
    (∃ (b : Nat) (s : State), s.spnState ≠ 5 ∧ s.spnState ≠ 9 ∧ s.spn.next = none) :=
  ⟨⟨3, up_ [(R.SPN_STAT_STATE, 5)], (by decide)⟩, ⟨4, up_ [(R.SPN_STAT_STATE, 9)], (by decide)⟩, ⟨4, up_
    [(R.SPN_STAT_STATE, 4)], (by decide)⟩⟩

theorem ballast_and_supply_complete_balStuck_meets :
    (∃ (t : Nat) (s : State), s.spn.isAt = some t ∧ s.spn.gateAt = none ∧ t + 2000 ≤ s.now) ∧
    (∃ (s : State), (s.spn.isAt = none ∨ s.spn.gateAt ≠ none)) :=
  ⟨⟨0, (on_ 2000 []).modSpn (fun x => { x with isAt := some 0 }), (by decide)⟩, ⟨up_ [], (by decide)⟩⟩

theorem ballast_and_supply_complete_ov_meets :
    (∃ (s : State), 2 ≤ s.spn.ovRun ∧ s.spnState ≠ 9) ∧
    (∃ (s : State), (s.spn.ovRun < 2 ∨ s.spnState = 9)) :=
  ⟨⟨(up_ []).modSpn (fun x => { x with ovRun := 2 }), (by decide)⟩, ⟨(up_ [(R.SPN_STAT_STATE, 9)]).modSpn (fun x =>
    { x with ovRun := 2 }), (by decide)⟩⟩

theorem ballast_and_supply_complete_ovRecovery_meets :
    (∃ (t : Nat) (s : State), s.spn.below = some t ∧ s.spnState = 7 ∧ s.spn.ovCoast = true ∧ s.brakePend = false ∧
      s.spn.lost = false ∧ s.stageHeld = false ∧ t + 1000000 ≤ s.now) ∧
    (∃ (t : Nat) (s : State), s.spn.below = some t ∧ s.now < t + 1000000) ∧
    (∃ (s : State), (s.spn.below = none ∨ s.brakePend = true ∨ s.spnState ≠ 7)) :=
  ⟨⟨0, (on_ 1000000 [(R.SPN_STAT_STATE, 7)]).modSpn (fun x => { x with below := some 0, ovCoast := true }),
    (by decide)⟩, ⟨0, (on_ 999999 [(R.SPN_STAT_STATE, 7)]).modSpn (fun x =>
    { x with below := some 0, ovCoast := true }), (by decide)⟩, ⟨on_ 1000000 [(R.SPN_STAT_STATE, 7),
    (R.SPN_STAT_BRAKE_PEND, 1)], (by decide)⟩⟩

theorem ballast_and_supply_complete_supplyLoss_meets :
    (∃ (s : State), s.spn.lost = false ∧ 2 ≤ s.spn.uvRun) ∧
    (∃ (t : Nat) (s : State), s.spn.lost = false ∧ s.spn.supLow = some t ∧ t + 2000 ≤ s.now) ∧
    (∃ (s : State), (s.spn.lost = true ∨ (s.spn.uvRun < 2 ∧ s.spn.supLow = none))) :=
  ⟨⟨(up_ []).modSpn (fun x => { x with uvRun := 2 }), (by decide)⟩, ⟨0, (on_ 2000 []).modSpn (fun x =>
    { x with supLow := some 0 }), (by decide)⟩, ⟨up_ [], (by decide)⟩⟩

theorem ballast_and_supply_complete_plossEnd_meets :
    (∃ (s : State), s.spnState = 9 ∧ (s.rpm < s.get R.SPN_PLOSS_PLOSS_MIN ∨ 64 ≤ s.spn.holdRun ∨ s.noAngle = true))
      ∧
    (∃ (s : State), (s.spnState ≠ 9 ∨ (s.get R.SPN_PLOSS_PLOSS_MIN ≤ s.rpm ∧ s.spn.holdRun < 64 ∧ s.noAngle =
      false))) :=
  ⟨⟨(up_ [(R.SPN_STAT_STATE, 9)]).modSpn (fun x => { x with holdRun := 64 }), (by decide)⟩, ⟨up_ [], (by decide)⟩⟩

theorem spdref_commands_complete_spdrefBad_meets :
    (∃ (x : SpdSignal) (s : State), s.spdrefOn = true ∧ s.spdrefValue x = none) ∧
    (∃ (x : SpdSignal) (s : State), (s.spdrefOn = false ∨ s.spdrefValue x ≠ none)) :=
  ⟨⟨.codes [], up_ [(R.SYS_MODE_MODE, 11), (R.SPN_SPDREF_CFG_MODE, 1)], (by decide)⟩, ⟨.codes [], up_
    [(R.SYS_MODE_MODE, 11), (R.SPN_SPDREF_CFG_MODE, 0)], (by decide)⟩⟩

theorem spdref_commands_complete_spdrefGood_meets :
    (∃ (x : SpdSignal) (v : Rat) (s : State), s.spdrefOn = true ∧ s.spdrefValue x = some v ∧ (s.flag
      R.SPN_SPDREF_STAT_GOOD = true ∨ s.spn.refBad + 100000000 ≤ s.now)) ∧
    (∃ (x : SpdSignal) (s : State), s.flag R.SPN_SPDREF_STAT_GOOD = false ∧ s.now < s.spn.refBad + 100000000) ∧
    (∃ (x : SpdSignal) (s : State), s.spdrefValue x = none) :=
  ⟨⟨.codes (List.replicate 16 2000), (spdLine (1 / 5) (8 / 5) ((32000 : Rat) * 18 / (16 * 4096 * 10))), on_
    100000000 [(R.SYS_MODE_MODE, 11), (R.SPN_SPDREF_CFG_MODE, 1)], (by decide +kernel)⟩, ⟨.codes [], on_ 99999999
    [(R.SYS_MODE_MODE, 11), (R.SPN_SPDREF_CFG_MODE, 1)], (by decide)⟩, ⟨.codes [], on_ 99999999 [(R.SYS_MODE_MODE,
    11), (R.SPN_SPDREF_CFG_MODE, 1)], (by decide)⟩⟩

theorem spdref_commands_complete_meets :
    (∃ (r f q : Nat) (es : List (Nat × Bool)) (s : State), s.get R.SPN_SPDREF_CFG_MODE = 3 ∧ spdCycle (spdEdges es)
      = some (r, f, q) ∧ s.now < r + 3 * (r - q) ∧ (5400 : Rat) ≤ 60000000000 / (((r - q) * max 1 (s.get
      R.SPN_SPDREF_CFG_PPR) : Nat) : Rat) ∧ (60000000000 : Rat) / (((r - q) * max 1 (s.get R.SPN_SPDREF_CFG_PPR) :
      Nat) : Rat) ≤ 10000) ∧
    (∃ (xs : List Nat) (s : State), s.get R.SPN_SPDREF_CFG_MODE = 1 ∧ xs.length = 16 ∧ (1 / 10 : Rat) ≤ (xs.sum :
      Rat) * 18 / (16 * 4096 * 10) ∧ (xs.sum : Rat) * 18 / (16 * 4096 * 10) ≤ (17 / 10 : Rat)) ∧
    (∃ (e : Nat) (s : State), e < 8192 ∧ s.spn.syncRun + 1 < 16) ∧
    (∃ (e : Nat) (s : State), e < 8192 ∧ 15 ≤ s.spn.syncRun ∧ s.spn.syncRun < 65535) ∧
    (∃ (e : Nat) (s : State), 8192 ≤ e ∧ e ≤ 32768) ∧
    (∃ (e : Nat) (s : State), 32768 < e) :=
  ⟨⟨9333333, 1500000, 1000000, [(1000000, true), (1500000, false), (9333333, true)], on_ 9400000 [(R.SYS_MODE_MODE,
    11), (R.SPN_SPDREF_CFG_MODE, 3)], (by decide +kernel)⟩, ⟨List.replicate 16 2000, up_ [(R.SYS_MODE_MODE, 11),
    (R.SPN_SPDREF_CFG_MODE, 1)], (by decide +kernel)⟩, ⟨8191, (up_ []).modSpn (fun y => { y with syncRun := 14 }),
    (by decide)⟩, ⟨8191, (up_ []).modSpn (fun y => { y with syncRun := 15 }), (by decide)⟩, ⟨32768, up_ [],
    (by decide)⟩, ⟨32769, up_ [], (by decide)⟩⟩

theorem spdref_commands_complete_spdrefSyncLock_meets :
    (∃ (err : Int) (s : State), s.spdrefOn = true ∧ s.get R.SPN_SPDREF_CFG_MODE = 3 ∧ s.flag R.SPN_SPDREF_CFG_SYNC =
      true ∧ s.tetherAngle = true ∧ s.spn.refEdges + 1 < s.get R.SPN_SPDREF_CFG_PPR) ∧
    (∃ (err : Int) (s : State), s.spdrefOn = true ∧ s.get R.SPN_SPDREF_CFG_MODE = 3 ∧ s.flag R.SPN_SPDREF_CFG_SYNC =
      true ∧ s.tetherAngle = true ∧ s.get R.SPN_SPDREF_CFG_PPR ≤ s.spn.refEdges + 1) ∧
    (∃ (err : Int) (s : State), (s.spdrefOn = false ∨ s.tetherAngle = false)) :=
  ⟨⟨32, up_ [(R.SYS_MODE_MODE, 11), (R.SPN_SPDREF_CFG_MODE, 3), (R.SPN_SPDREF_CFG_SYNC, 1), (R.TTH_STAT_ANGLE_VALID,
    1), (R.SPN_SPDREF_CFG_PPR, 2)], (by decide)⟩, ⟨-32, up_ [(R.SYS_MODE_MODE, 11), (R.SPN_SPDREF_CFG_MODE, 3),
    (R.SPN_SPDREF_CFG_SYNC, 1), (R.TTH_STAT_ANGLE_VALID, 1), (R.SPN_SPDREF_CFG_PPR, 1)], (by decide)⟩, ⟨0, up_ [],
    (by decide)⟩⟩

theorem servo_commands_complete_servoSample_meets :
    ∃ (h : Head) (o : WedgeObs) (s : State), s.chPowered h.val = false ∧ s.tthState < 5 :=
  ⟨0, ⟨0, 0, []⟩, at_ [], (by decide)⟩

theorem servo_commands_complete_meets :
    (∃ (h : Head) (o : WedgeObs) (b : Bursts) (s : State), s.samOf h.val o = none) ∧
    (∃ (h : Head) (o : WedgeObs) (b : Bursts) (m : SamHit) (t w : Nat) (s : State), s.samOf h.val o = some m ∧
      s.inReset (.ch h.val) = false ∧ 4 * s.get R.SRV_DEMOD_BSUM_MIN ≤ b.a + b.b ∧ b.a + b.b ≤ 4 * s.get
      R.SRV_DEMOD_BSUM_MAX ∧ 4 * s.get R.SRV_DEMOD_BSUM_MIN ≤ b.c + b.d ∧ b.c + b.d ≤ 4 * s.get R.SRV_DEMOD_BSUM_MAX
      ∧ decodeWedge (msbFirst 72 (bitsOf o.bits (m.o + 513).toNat 72)) = some (t, w) ∧ (s.tthLocked = false ∨ w =
      m.w)) ∧
    (∃ (h : Head) (o : WedgeObs) (b : Bursts) (m : SamHit) (s : State), s.samOf h.val o = some m ∧ s.inReset (.ch
      h.val) = false ∧ 4 * s.get R.SRV_DEMOD_BSUM_MIN ≤ b.a + b.b ∧ b.a + b.b ≤ 4 * s.get R.SRV_DEMOD_BSUM_MAX ∧ 4 *
      s.get R.SRV_DEMOD_BSUM_MIN ≤ b.c + b.d ∧ b.c + b.d ≤ 4 * s.get R.SRV_DEMOD_BSUM_MAX ∧ decodeWedge (msbFirst 72
      (bitsOf o.bits (m.o + 513).toNat 72)) = none) ∧
    (∃ (h : Head) (o : WedgeObs) (b : Bursts) (m : SamHit) (s : State), s.samOf h.val o = some m ∧ s.inReset (.ch
      h.val) = false ∧ (b.a + b.b < 4 * s.get R.SRV_DEMOD_BSUM_MIN ∨ 4 * s.get R.SRV_DEMOD_BSUM_MAX < b.c + b.d)) ∧
    (∃ (a : Act) (s : State), s.actState a.val = 0) ∧
    (∃ (a : Act) (s : State), s.actState a.val = 1) ∧
    (∃ (a : Act) (s : State), s.actState a.val = 1 ∧ s.faultIs .srv (4 + a.val) = false ∧ s.faultIs .srv (8 + a.val)
      = false ∧ s.faultIs .srv (12 + a.val) = false ∧ s.faultIs .srv (24 + a.val) = false) ∧
    (∃ (a : Act) (s : State), s.actState a.val = 5) ∧
    (∃ (a : Act) (s : State), s.actState a.val = 5) :=
  ⟨⟨0, ⟨0, 0, []⟩, ⟨0, 0, 0, 0⟩, up_ [], (by decide)⟩, ⟨0, ⟨wedgeBits 5 1 * 2 ^ 469, 0, []⟩, ⟨100, 100, 100, 100⟩,
    ⟨0, 0, 1 % max 1 (((up_ [(R.SRV_DEMOD_BSUM_MIN, 20), (R.SRV_DEMOD_BSUM_MAX, 200), (R.SRV_DEMOD_SAM_WIN_U,
    8)]).modSpn (fun y => { y with obsSpeed := 1843200 })).get (R.SEQ_FMT_WEDGES 0)), 1000000⟩, 5, 1, ((up_
    [(R.SRV_DEMOD_BSUM_MIN, 20), (R.SRV_DEMOD_BSUM_MAX, 200), (R.SRV_DEMOD_SAM_WIN_U, 8)]).modSpn (fun y =>
    { y with obsSpeed := 1843200 })), (by decide)⟩, ⟨0, ⟨msbFirst 12 0x8E5 * 2 ^ 501, 0, []⟩, ⟨100, 100, 100, 100⟩,
    ⟨0, 0, 1 % max 1 (((up_ [(R.SRV_DEMOD_BSUM_MIN, 20), (R.SRV_DEMOD_BSUM_MAX, 200), (R.SRV_DEMOD_SAM_WIN_U,
    8)]).modSpn (fun y => { y with obsSpeed := 1843200 })).get (R.SEQ_FMT_WEDGES 0)), 1000000⟩, ((up_
    [(R.SRV_DEMOD_BSUM_MIN, 20), (R.SRV_DEMOD_BSUM_MAX, 200), (R.SRV_DEMOD_SAM_WIN_U, 8)]).modSpn (fun y =>
    { y with obsSpeed := 1843200 })), (by decide)⟩, ⟨0, ⟨msbFirst 12 0x8E5 * 2 ^ 501, 0, []⟩, ⟨10, 10, 100, 100⟩,
    ⟨0, 0, 1 % max 1 (((up_ [(R.SRV_DEMOD_BSUM_MIN, 20), (R.SRV_DEMOD_BSUM_MAX, 200), (R.SRV_DEMOD_SAM_WIN_U,
    8)]).modSpn (fun y => { y with obsSpeed := 1843200 })).get (R.SEQ_FMT_WEDGES 0)), 1000000⟩, ((up_
    [(R.SRV_DEMOD_BSUM_MIN, 20), (R.SRV_DEMOD_BSUM_MAX, 200), (R.SRV_DEMOD_SAM_WIN_U, 8)]).modSpn (fun y =>
    { y with obsSpeed := 1843200 })), (by decide)⟩, ⟨3, up_ [(R.SRV_ACT_STAT_STATE 3, 0)], (by decide)⟩, ⟨3, up_
    [(R.SRV_ACT_STAT_STATE 3, 1)], (by decide)⟩, ⟨0, up_ [(R.SRV_ACT_STAT_STATE 0, 1)], (by decide)⟩, ⟨0, up_
    [(R.SRV_ACT_STAT_STATE 0, 5)], (by decide)⟩, ⟨0, up_ [(R.SRV_ACT_STAT_STATE 0, 5)], (by decide)⟩⟩

theorem servo_commands_complete_ontrkSet_meets :
    (∃ (h : Head) (s : State), s.countsOn h.val = true ∧ s.get (R.SRV_ACT_LIM_ONTRK_N (h.val / 6)) ≤ (s.hsv
      h.val).onRun ∧ 0 < (s.hsv h.val).onRun) ∧
    (∃ (h : Head) (s : State), (s.hsv h.val).onRun < s.get (R.SRV_ACT_LIM_ONTRK_N (h.val / 6))) :=
  ⟨⟨6, (up_ [(R.SRV_ACT_STAT_STATE 1, 5), (R.SRV_ACT_CTRL_BRIDLE_FIT 1, 0), (R.SRV_HD_TGT_VALID 6, 1),
    (R.SRV_ACT_LIM_ONTRK_N 1, 4)]).modHsv 6 (fun x => { x with onRun := 4 }), (by decide)⟩, ⟨6, (up_
    [(R.SRV_ACT_LIM_ONTRK_N 1, 4)]).modHsv 6 (fun x => { x with onRun := 3 }), (by decide)⟩⟩

theorem servo_commands_complete_followError_meets :
    (∃ (n : Fin 28) (s : State), n.val < 24 ∧ s.headFollow n.val = true ∧ (s.hsv n.val).folDone = false) ∧
    (∃ (n : Fin 28) (s : State), 24 ≤ n.val ∧ s.vcmFollow (n.val - 24) = true ∧ (s.act (n.val - 24)).folDone = false
      ∧ s.actState (n.val - 24) = 5) :=
  ⟨⟨5, (up_ [(R.SRV_HD_CAL_T 5, 3)]).modHsv 5 (fun x => { x with folRun := 3 }), (by decide)⟩, ⟨24, (up_
    [(R.SRV_ACT_STAT_STATE 0, 5), (R.SRV_ACT_VFOL_T_TRACK 0, 3)]).modAct 0 (fun x => { x with folRun := 3 }),
    (by decide)⟩⟩

theorem servo_commands_complete_servoLost_meets :
    (∃ (a : Act) (s : State), s.actState a.val = 5 ∧ s.get (R.SRV_ACT_LIM_LOST_N a.val) ≤ (s.act a.val).lostRun) ∧
    (∃ (a : Act) (s : State), s.actState a.val = 3 ∧ s.get (R.SRV_ACT_LIM_LOST_N a.val) ≤ (s.act a.val).lostRun) ∧
    (∃ (a : Act) (s : State), (s.act a.val).lostRun < s.get (R.SRV_ACT_LIM_LOST_N a.val)) :=
  ⟨⟨2, (up_ [(R.SRV_ACT_STAT_STATE 2, 5), (R.SRV_ACT_LIM_LOST_N 2, 8)]).modAct 2 (fun x => { x with lostRun := 8 }),
    (by decide)⟩, ⟨2, (up_ [(R.SRV_ACT_STAT_STATE 2, 3), (R.SRV_ACT_LIM_LOST_N 2, 8)]).modAct 2 (fun x =>
    { x with lostRun := 8 }), (by decide)⟩, ⟨2, (up_ [(R.SRV_ACT_STAT_STATE 2, 5), (R.SRV_ACT_LIM_LOST_N 2,
    8)]).modAct 2 (fun x => { x with lostRun := 7 }), (by decide)⟩⟩

theorem servo_commands_complete_actuatorEnable_meets :
    ∃ (path : Path) (value : Word) (s : State), s.takes path R.A_SRV_CTRL value = true :=
  ⟨.core, 15, up_ [], (by decide)⟩

theorem servo_commands_complete_actuatorLoad_meets :
    ∃ (path : Path) (a : Act) (value : Word) (s : State), s.takes path (R.A_SRV_ACT_CTRL a.val) (withBits value 0 3
      1) = true :=
  ⟨.core, 3, 0, up_ [], (by decide)⟩

theorem servo_commands_complete_actuatorUnload_meets :
    ∃ (path : Path) (a : Act) (value : Word) (s : State), s.takes path (R.A_SRV_ACT_CTRL a.val) (withBits value 0 3
      2) = true :=
  ⟨.core, 3, 0, up_ [], (by decide)⟩

theorem servo_commands_complete_actuatorRetract_meets :
    ∃ (path : Path) (a : Act) (value : Word) (s : State), s.takes path (R.A_SRV_ACT_CTRL a.val) (withBits value 0 3
      3) = true :=
  ⟨.core, 3, 0, up_ [], (by decide)⟩

theorem servo_commands_complete_actuatorHold_meets :
    ∃ (path : Path) (a : Act) (value : Word) (s : State), s.takes path (R.A_SRV_ACT_CTRL a.val) (withBits value 0 3
      4) = true :=
  ⟨.core, 3, 0, up_ [], (by decide)⟩

theorem servo_commands_complete_loadFail_meets :
    (∃ (a : Act) (s : State), s.actState a.val = 2 ∧ (s.act a.val).loadAt + 150000000 ≤ s.now) ∧
    (∃ (a : Act) (s : State), (s.actState a.val ≠ 2 ∨ s.now < (s.act a.val).loadAt + 150000000)) :=
  ⟨⟨1, on_ 150000000 [(R.SRV_ACT_STAT_STATE 1, 2)], (by decide)⟩, ⟨1, on_ 149999999 [(R.SRV_ACT_STAT_STATE 1, 2)],
    (by decide)⟩⟩

theorem servo_commands_complete_seekTimeout_meets :
    (∃ (a : Act) (s : State), (s.actState a.val = 3 ∨ s.actState a.val = 4) ∧ (s.act a.val).seekAt + s.get
      (R.SRV_ACT_LIM_SEEK_TMO a.val) * 1000000 ≤ s.now) ∧
    (∃ (a : Act) (s : State), s.now < (s.act a.val).seekAt + s.get (R.SRV_ACT_LIM_SEEK_TMO a.val) * 1000000) :=
  ⟨⟨1, on_ 40000000 [(R.SRV_ACT_STAT_STATE 1, 4), (R.SRV_ACT_LIM_SEEK_TMO 1, 40)], (by decide)⟩, ⟨1, on_ 39999999
    [(R.SRV_ACT_STAT_STATE 1, 4), (R.SRV_ACT_LIM_SEEK_TMO 1, 40)], (by decide)⟩⟩

theorem servo_commands_complete_rampStopReached_meets :
    (∃ (a : Act) (s : State), s.actState a.val = 7) ∧
    (∃ (a : Act) (s : State), s.actState a.val ≠ 7) :=
  ⟨⟨1, on_ 0 [(R.SRV_ACT_STAT_STATE 1, 7)], (by decide)⟩, ⟨1, on_ 0 [(R.SRV_ACT_STAT_STATE 1, 5)], (by decide)⟩⟩

theorem servo_commands_complete_retractDone_meets :
    (∃ (a : Act) (s : State), s.actState a.val = 8 ∧ (s.act a.val).retractAt + s.get (R.SRV_ACT_RET_RET_T a.val) *
      1000000 ≤ s.now) ∧
    (∃ (a : Act) (s : State), s.actState a.val ≠ 8) :=
  ⟨⟨1, on_ 100000000 [(R.SRV_ACT_STAT_STATE 1, 8), (R.SRV_ACT_RET_RET_T 1, 100)], (by decide)⟩, ⟨1, on_ 0
    [(R.SRV_ACT_STAT_STATE 1, 5)], (by decide)⟩⟩

theorem gust_bridle_vcm_complete_gustFrame_meets :
    (∃ (n : Fin 2) (f : Nat) (s : State), s.gustEn n.val = true ∧ frameOk f = false) ∧
    (∃ (n : Fin 2) (f : Nat) (s : State), s.gustEn n.val = true ∧ frameOk f = true ∧ (signedOf (bitsOf f 24 16)
      16).natAbs ≤ s.get (R.SRV_GUST_TRIP_TRIP_LIN n.val) ∧ (signedOf (bitsOf f 8 16) 16).natAbs ≤ s.get
      (R.SRV_GUST_TRIP_TRIP_ROT n.val)) ∧
    (∃ (n : Fin 2) (f : Nat) (s : State), s.gustEn n.val = false) :=
  ⟨⟨0, 1, up_ [(R.SRV_GUST_0_CFG_EN, 1)], (by decide)⟩, ⟨0, 0, up_ [(R.SRV_GUST_0_CFG_EN, 1)], (by decide)⟩, ⟨0, 1,
    up_ [(R.SRV_GUST_0_CFG_EN, 0)], (by decide)⟩⟩

theorem gust_bridle_vcm_complete_gustTrip_meets :
    (∃ (n : Fin 2) (s : State), s.gustEn n.val = true ∧ s.gustTripN n.val ≤ (s.gust n.val).tripRun ∧ 0 < (s.gust
      n.val).tripRun) ∧
    (∃ (n : Fin 2) (s : State), (s.gust n.val).tripRun < s.gustTripN n.val) :=
  ⟨⟨0, (up_ [(R.SRV_GUST_0_CFG_EN, 1), (R.SRV_GUST_0_CFG_TRIP_N, 2)]).modGust 0 (fun g => { g with tripRun := 2 }),
    (by decide)⟩, ⟨0, (up_ [(R.SRV_GUST_0_CFG_EN, 1), (R.SRV_GUST_0_CFG_TRIP_N, 2)]).modGust 0 (fun g =>
    { g with tripRun := 1 }), (by decide)⟩⟩

theorem gust_bridle_vcm_complete_gustTripClear_meets :
    ∃ (n : Fin 2) (s : State), s.held n.val (s.gust n.val).within = true ∧ s.held n.val (s.gust n.val).goodSince =
      true :=
  ⟨0, (on_ 1000 [(R.SRV_GUST_TIME_HOLD 0, 1)]).modGust 0 (fun g =>
    { g with within := some 0, goodSince := some 0 }), (by decide)⟩

theorem gust_bridle_vcm_complete_gustFrameTimeout_meets :
    (∃ (n : Fin 2) (s : State), s.gustEn n.val = true ∧ (s.gust n.val).goodAt + s.get (R.SRV_GUST_TIME_TMO n.val) *
      1000 ≤ s.now) ∧
    (∃ (n : Fin 2) (s : State), s.now < (s.gust n.val).goodAt + s.get (R.SRV_GUST_TIME_TMO n.val) * 1000) :=
  ⟨⟨1, on_ 1000 [(R.SRV_GUST_1_CFG_EN, 1), (R.SRV_GUST_TIME_TMO 1, 1)], (by decide)⟩, ⟨1, on_ 999
    [(R.SRV_GUST_1_CFG_EN, 1), (R.SRV_GUST_TIME_TMO 1, 1)], (by decide)⟩⟩

theorem gust_bridle_vcm_complete_gustCrcLoss_meets :
    (∃ (n : Fin 2) (s : State), s.gustEn n.val = true ∧ 3 ≤ (s.gust n.val).crcRun) ∧
    (∃ (n : Fin 2) (s : State), (s.gust n.val).crcRun < 3) :=
  ⟨⟨1, (on_ 0 [(R.SRV_GUST_1_CFG_EN, 1)]).modGust 1 (fun g => { g with crcRun := 3 }), (by decide)⟩, ⟨1, (on_ 0
    [(R.SRV_GUST_1_CFG_EN, 1)]).modGust 1 (fun g => { g with crcRun := 2 }), (by decide)⟩⟩

theorem gust_bridle_vcm_complete_meets :
    ∃ (n : Fin 2) (s : State), s.gustEn n.val = true :=
  ⟨1, on_ 0 [(R.SRV_GUST_1_CFG_EN, 1)], (by decide)⟩

theorem gust_bridle_vcm_complete_bridleFrameSend_meets :
    (∃ (a : Act) (ch : Fin 6) (s : State), s.bridleOn a.val = true ∧ (s.act a.val).linkUp = true ∧ s.bstateOf (6 *
      a.val + ch.val) = 2) ∧
    (∃ (a : Act) (ch : Fin 6) (s : State), s.bridleOn a.val = true ∧ (s.act a.val).linkUp = true ∧ s.bstateOf (6 *
      a.val + ch.val) = 1) :=
  ⟨⟨0, 2, up_ [(R.SRV_ACT_CTRL_BRIDLE_FIT 0, 1), (R.SRV_ACT_STAT_STATE 0, 5), (R.SRV_HD_TGT_VALID 2, 1)],
    (by decide)⟩, ⟨0, 3, up_ [(R.SRV_ACT_CTRL_BRIDLE_FIT 0, 1), (R.SRV_ACT_STAT_STATE 0, 5), (R.SRV_HD_TGT_VALID 2,
    1)], (by decide)⟩⟩

theorem gust_bridle_vcm_complete_bridleReply_meets :
    (∃ (a : Act) (ch seq : Nat) (r : List (Nat × Nat)) (s : State), (s.act a.val).await = (ch, seq) :: r) ∧
    (∃ (a : Act) (f ch seq : Nat) (r : List (Nat × Nat)) (s : State), (s.act a.val).await = (ch, seq) :: r ∧ ch < 6
      ∧ frameOk f = true ∧ bitsOf f 36 4 = 6 ∧ bitsOf f 33 3 = ch ∧ bitsOf f 26 4 = seq ∧ bitsOf f 30 3 = 0) ∧
    (∃ (a : Act) (f : Option Nat) (s : State), (s.act a.val).await = []) :=
  ⟨⟨0, 2, 1, [], (up_ []).modAct 0 (fun x => { x with await := [(2, 1)] }), (by decide)⟩, ⟨0, 0x6404000000 + crc8
    (beBytes 4 0x64040000), 2, 1, [], (up_ []).modAct 0 (fun x => { x with await := [(2, 1)] }), (by decide)⟩, ⟨0,
    none, up_ [], (by decide)⟩⟩

theorem gust_bridle_vcm_complete_bridleRefresh_meets :
    (∃ (a : Act) (s : State), s.bridleOn a.val = true ∧ (s.act a.val).sentAt + 10000 ≤ s.now ∧ (s.act a.val).linkUp
      = false) ∧
    (∃ (a : Act) (s : State), s.now < (s.act a.val).sentAt + 10000) :=
  ⟨⟨0, (up_ [(R.SRV_ACT_CTRL_BRIDLE_FIT 0, 1), (R.SRV_ACT_STAT_STATE 0, 5), (R.SRV_HD_TGT_VALID 2, 1)]).modAct 0
    (fun x => { x with linkUp := false }), (by decide)⟩, ⟨0, on_ 9999 [(R.SRV_ACT_CTRL_BRIDLE_FIT 0, 1),
    (R.SRV_ACT_STAT_STATE 0, 5), (R.SRV_HD_TGT_VALID 2, 1)], (by decide)⟩⟩

theorem gust_bridle_vcm_complete_bridleLinkDown_meets :
    (∃ (a : Act) (s : State), s.bridleFit a.val = true ∧ (s.act a.val).linkUp = true ∧ 3 ≤ (s.act a.val).badRun ∧
      (s.act a.val).flagged = false ∧ (headsOf a.val).any (fun h => s.bstateOf h == 2) = false) ∧
    (∃ (a : Act) (s : State), (s.act a.val).badRun < 3 ∧ (s.act a.val).flagged = false) :=
  ⟨⟨0, (up_ [(R.SRV_ACT_CTRL_BRIDLE_FIT 0, 1), (R.SRV_ACT_STAT_STATE 0, 2)]).modAct 0 (fun x =>
    { x with badRun := 3 }), (by decide)⟩, ⟨0, (up_ [(R.SRV_ACT_CTRL_BRIDLE_FIT 0, 1), (R.SRV_ACT_STAT_STATE 0, 5),
    (R.SRV_HD_TGT_VALID 2, 1)]).modAct 0 (fun x => { x with badRun := 2 }), (by decide)⟩⟩

theorem gust_bridle_vcm_complete_bridleLinkUp_meets :
    (∃ (a : Act) (s : State), (s.act a.val).linkUp = false ∧ 3 ≤ (s.act a.val).goodRun) ∧
    (∃ (a : Act) (s : State), (s.act a.val).goodRun < 3) :=
  ⟨⟨0, (up_ [(R.SRV_ACT_CTRL_BRIDLE_FIT 0, 1), (R.SRV_ACT_STAT_STATE 0, 5), (R.SRV_HD_TGT_VALID 2, 1)]).modAct 0
    (fun x => { x with linkUp := false, goodRun := 3 }), (by decide)⟩, ⟨0, (up_ [(R.SRV_ACT_CTRL_BRIDLE_FIT 0, 1),
    (R.SRV_ACT_STAT_STATE 0, 5), (R.SRV_HD_TGT_VALID 2, 1)]).modAct 0 (fun x =>
    { x with linkUp := false, goodRun := 2 }), (by decide)⟩⟩

theorem gust_bridle_vcm_complete_vcmCurrentSample_meets :
    (∃ (a : Act) (bits : Nat) (s : State), s.actState a.val ≠ 2 ∧ s.actState a.val ≠ 7 ∧ s.flag (R.SRV_VCM_PWM_EN
      a.val) = true ∧ 2 ≤ s.actState a.val ∧ (s.act a.val).fltLow = false) ∧
    (∃ (a : Act) (bits : Nat) (s : State), s.actState a.val < 2) :=
  ⟨⟨0, 5, up_ [(R.SRV_ACT_STAT_STATE 0, 5), (R.SRV_VCM_PWM_EN 0, 1)], (by decide)⟩, ⟨0, 5, up_
    [(R.SRV_ACT_STAT_STATE 0, 0)], (by decide)⟩⟩

theorem gust_bridle_vcm_complete_vcmOvercurrent_meets :
    (∃ (a : Act) (s : State), 8 ≤ (s.act a.val).overRun) ∧
    (∃ (a : Act) (s : State), (s.act a.val).overRun < 8) :=
  ⟨⟨0, (up_ []).modAct 0 (fun x => { x with overRun := 8 }), (by decide)⟩, ⟨0, (up_ []).modAct 0 (fun x =>
    { x with overRun := 7 }), (by decide)⟩⟩

theorem control_engine_jobs_complete_cleJobStart_meets :
    (∃ (j : CleJob) (r : List CleJob) (s : State), s.cle.queue = j :: r ∧ s.cle.lanes = [none, none] ∧ ((s.setCle
      { s.cle with queue := r }).setRead j.loop j.set).1 = true ∧ setValid (s.cleSet j.loop j.set) = true) ∧
    (∃ (j k : CleJob) (t : Nat) (r : List CleJob) (s : State), s.cle.queue = j :: r ∧ s.cle.lanes = [some (k, t),
      none] ∧ ((s.setCle { s.cle with queue := r }).setRead j.loop j.set).1 = true ∧ setValid (s.cleSet j.loop
      j.set) = true) ∧
    (∃ (j : CleJob) (r : List CleJob) (s : State), s.cle.queue = j :: r ∧ s.cle.lanes = [none, none] ∧ (((s.setCle
      { s.cle with queue := r }).setRead j.loop j.set).1 = false ∨ setValid (s.cleSet j.loop j.set) = false)) ∧
    (∃ (j k : CleJob) (t u : Nat) (s : State), s.cle.lanes = [some (j, t), some (k, u)]) ∧
    (∃ (s : State), s.cle.queue = []) :=
  ⟨⟨⟨3, 100, 0, 0, 0, 0, 0, false, false, 0, 0, none, false⟩, [],
      (let t := up_ [];
       { t with cle := { t.cle with queue := [⟨3, 100, 0, 0, 0, 0, 0, false, false, 0, 0, none, false⟩], sets := [(128 * 3 + 29, 2 ^ 31)] } }),
          (by decide)⟩, ⟨⟨3, 100, 0, 0, 0, 0, 0, false, false, 0, 0, none, false⟩, ⟨3, 100, 0, 0, 0, 0, 0, false,
          false, 0, 0, none, false⟩, 5, [],
      (let t := up_ [];
       { t with cle := { t.cle with queue := [⟨3, 100, 0, 0, 0, 0, 0, false, false, 0, 0, none, false⟩], lanes := [some (⟨3, 100, 0, 0, 0, 0, 0, false, false, 0, 0, none, false⟩, 5), none], sets := [(128 * 3 + 29, 2 ^ 31)] } }),
          (by decide)⟩, ⟨⟨3, 100, 0, 0, 0, 0, 0, false, false, 0, 0, none, false⟩, [],
      (let t := up_ [];
       { t with cle := { t.cle with queue := [⟨3, 100, 0, 0, 0, 0, 0, false, false, 0, 0, none, false⟩] } }),
          (by decide)⟩, ⟨⟨3, 100, 0, 0, 0, 0, 0, false, false, 0, 0, none, false⟩, ⟨3, 100, 0, 0, 0, 0, 0, false,
          false, 0, 0, none, false⟩, 0, 0,
      (let t := up_ [];
       { t with cle := { t.cle with lanes := [some (⟨3, 100, 0, 0, 0, 0, 0, false, false, 0, 0, none, false⟩, 0), some (⟨3, 100, 0, 0, 0, 0, 0, false, false, 0, 0, none, false⟩, 0)] } }),
          (by decide)⟩, ⟨up_ [], (by decide)⟩⟩

theorem control_engine_jobs_complete_cleJobEnd_meets :
    (∃ (i : Fin 2) (j : CleJob) (t : Nat) (s : State), (s.cle.lanes[i.val]?).getD none = some (j, t) ∧ s.now ≤
      j.deadline) ∧
    (∃ (i : Fin 2) (j : CleJob) (t : Nat) (s : State), (s.cle.lanes[i.val]?).getD none = some (j, t) ∧ j.deadline <
      s.now) ∧
    (∃ (i : Fin 2) (s : State), (s.cle.lanes[i.val]?).getD none = none) :=
  ⟨⟨1, ⟨3, 100, 0, 0, 0, 0, 0, false, false, 0, 0, none, false⟩, 0,
      (let t := on_ 100 [];
       { t with cle := { t.cle with lanes := [none, some (⟨3, 100, 0, 0, 0, 0, 0, false, false, 0, 0, none, false⟩, 0)] } }),
          (by decide)⟩, ⟨1, ⟨3, 100, 0, 0, 0, 0, 0, false, false, 0, 0, none, false⟩, 0,
      (let t := on_ 101 [];
       { t with cle := { t.cle with lanes := [none, some (⟨3, 100, 0, 0, 0, 0, 0, false, false, 0, 0, none, false⟩, 0)] } }),
          (by decide)⟩, ⟨1, up_ [], (by decide)⟩⟩

theorem control_engine_jobs_complete_meets :
    (∃ (j : CleJob) (s : State), j.loop < 28 ∧ (s.cleLoop j.loop).lastSet = some j.set) ∧
    (∃ (n : LoopN) (j : CleJob) (s : State), s.jobOf n.val = some j) :=
  ⟨⟨⟨3, 100, 0, 0, 0, 0, 0, false, false, 0, 0, none, false⟩,
      (let t := up_ [];
       { t with cle := { t.cle with loops := t.cle.loops.map (fun l => { l with lastSet := some 0 }) } }),
          (by decide)⟩, ⟨3, ⟨3, 100, 0, 0, 0, 0, 0, false, false, 0, 0, none, false⟩,
      (let t := on_ 100 [];
       { t with cle := { t.cle with queue := [⟨3, 100, 0, 0, 0, 0, 0, false, false, 0, 0, none, false⟩] } }),
          (by decide)⟩⟩

theorem control_engine_jobs_complete_cleJobOverrun_meets :
    (∃ (n : LoopN) (j : CleJob) (s : State), s.jobOf n.val = some j ∧ j.deadline ≤ s.now) ∧
    (∃ (n : LoopN) (j : CleJob) (s : State), s.jobOf n.val = some j ∧ s.now < j.deadline) ∧
    (∃ (n : LoopN) (s : State), s.jobOf n.val = none) :=
  ⟨⟨3, ⟨3, 100, 0, 0, 0, 0, 0, false, false, 0, 0, none, false⟩,
      (let t := on_ 100 [];
       { t with cle := { t.cle with queue := [⟨3, 100, 0, 0, 0, 0, 0, false, false, 0, 0, none, false⟩] } }),
          (by decide)⟩, ⟨3, ⟨3, 100, 0, 0, 0, 0, 0, false, false, 0, 0, none, false⟩,
      (let t := on_ 99 [];
       { t with cle := { t.cle with queue := [⟨3, 100, 0, 0, 0, 0, 0, false, false, 0, 0, none, false⟩] } }),
          (by decide)⟩, ⟨3, on_ 100 [], (by decide)⟩⟩

theorem control_engine_commands_complete_cleLoopRestart_meets :
    ∃ (path : Path) (n : LoopN) (value : Word) (s : State), s.flag (R.CLE_LOOP_STAT_FAULTED n.val) = true ∧ s.takes
      path (R.A_CLE_LOOP_STAT n.val) (withBits value 4 1 1) = true :=
  ⟨.core, 29, 0, up_ [(R.CLE_LOOP_STAT_FAULTED 29, 1)], (by decide)⟩

theorem control_engine_commands_complete_cleLoopDisable_meets :
    (∃ (path : Path) (n : LoopN) (value : Word) (s : State), s.flag (R.CLE_LOOP_CTRL_EN n.val) = true ∧ bitOf
      value.toNat 1 = false ∧ s.hasJob n.val = false ∧ s.takes path (R.A_CLE_LOOP_CTRL n.val) (withBits value 0 1 0)
      = true) ∧
    (∃ (path : Path) (n : LoopN) (value : Word) (s : State), bitOf value.toNat 1 = false ∧ (s.hasJob n.val = true ∨
      s.flag (R.CLE_LOOP_CTRL_EN n.val) = false) ∧ s.takes path (R.A_CLE_LOOP_CTRL n.val) (withBits value 0 1 0) =
      true) :=
  ⟨⟨.core, 0, 0, up_ [(R.CLE_LOOP_CTRL_EN 0, 1)], (by decide)⟩, ⟨.core, 0, 0, up_ [], (by decide)⟩⟩

theorem control_engine_commands_complete_cleLoopCounterClear_meets :
    ∃ (path : Path) (n : LoopN) (value : Word) (s : State), bitOf value.toNat 0 = true ∧ s.takes path
      (R.A_CLE_LOOP_CTRL n.val) (withBits value 1 1 1) = true :=
  ⟨.core, 28, 1, up_ [], (by decide)⟩

theorem control_engine_commands_complete_cleCommit_meets :
    ∃ (path : Path) (value : Word) (s : State), bitsOf value.toNat 0 5 < 30 ∧ s.cle.commit = none ∧ s.get
      (R.CLE_STAGE_WORD 29) = 0 ∧ s.takes path R.A_CLE_COMMIT value = true :=
  ⟨.core, 0x103, up_ [], (by decide)⟩

theorem control_engine_commands_complete_meets :
    (∃ (n k : Nat) (s : State), n < 30 ∧ s.cle.commit = none ∧ stageOk n ((List.range 32).map (fun i => s.get
      (R.CLE_STAGE_WORD i))) = true) ∧
    (∃ (n k : Nat) (s : State), n < 30 ∧ s.cle.commit = none ∧ stageOk n ((List.range 32).map (fun i => s.get
      (R.CLE_STAGE_WORD i))) = false) :=
  ⟨⟨29, 3, up_ [], (by decide)⟩, ⟨29, 3, up_ [(R.CLE_STAGE_WORD 29, 0x80000000)], (by decide)⟩⟩

theorem control_engine_commands_complete_cleCommitCopy_meets :
    (∃ (n k : Nat) (ws : List Nat) (s : State), s.cle.commit = some (n, k, ws) ∧ s.hasJob n = false) ∧
    (∃ (n k : Nat) (ws : List Nat) (s : State), s.cle.commit = some (n, k, ws) ∧ s.hasJob n = true) ∧
    (∃ (s : State), s.cle.commit = none) :=
  ⟨⟨3, 1, [7],
      (let t := up_ [];
       { t with cle := { t.cle with commit := some (3, 1, [7]) } }), (by decide)⟩, ⟨3, 1, [7],
      (let t := up_ [];
       { t with cle := { t.cle with commit := some (3, 1, [7]), queue := [⟨3, 100, 0, 0, 0, 0, 0, false, false, 0, 0, none, false⟩] } }),
          (by decide)⟩, ⟨up_ [], (by decide)⟩⟩

theorem control_engine_commands_complete_cleInjectionEnable_meets :
    ∃ (path : Path) (value : Word) (s : State), s.flag R.CLE_INJ_CTRL_EN = false ∧ (s.storeReg path R.A_CLE_INJ_CTRL
      (withBits value 31 1 1)).flag R.CLE_INJ_CTRL_EN = true ∧ s.takes path R.A_CLE_INJ_CTRL (withBits value 31 1 1)
      = true :=
  ⟨.core, 0, up_ [(R.SYS_MODE_MODE, 11), (R.SEC_STAT_HOST_UNLOCKED, 1)], (by decide)⟩

theorem control_engine_commands_complete_cleCaptureArm_meets :
    ∃ (path : Path) (value : Word) (s : State), s.takes path R.A_CLE_CAP_CTRL (withBits value 31 1 1) = true :=
  ⟨.core, 0, up_ [], (by decide)⟩

theorem tether_commands_complete_tthEnable_meets :
    ∃ (path : Path) (value : Word) (s : State), s.takes path R.A_TTH_CTRL (withBits value 0 1 1) = true :=
  ⟨.core, 0, up_ [], (by decide)⟩

theorem tether_commands_complete_meets :
    (∃ (s : State), s.tthState = 0 ∧ s.flag R.TTH_CTRL_EN = true ∧ bitOf (s.get R.SYS_PWR_STAT_PD) 6 = true ∧ s.flag
      R.TTH_CTRL_WEDGE = false) ∧
    (∃ (s : State), s.tthState = 0 ∧ s.flag R.TTH_CTRL_EN = true ∧ bitOf (s.get R.SYS_PWR_STAT_PD) 6 = true ∧ s.flag
      R.TTH_CTRL_WEDGE = true ∧ s.spnState ≠ 0) ∧
    (∃ (s : State), s.tth.lossTo = none ∧ s.tthLocked = false) ∧
    (∃ (s : State), s.tth.lossTo = none ∧ s.tthLocked = true) ∧
    (∃ (i : Fin 2) (s : State), s.tthState = 4 ∧ s.tth.lossTo = none ∧ s.refActive ≠ i.val) ∧
    (∃ (i : Fin 2) (s : State), (s.tthState ≠ 4 ∨ s.refActive = i.val)) :=
  ⟨⟨up_ [(R.TTH_CTRL_EN, 1)], (by decide)⟩, ⟨up_ [(R.TTH_CTRL_EN, 1), (R.TTH_CTRL_WEDGE, 1), (R.SPN_STAT_STATE, 4)],
    (by decide)⟩, ⟨up_ [], (by decide)⟩, ⟨up_ [(R.TTH_STAT_STATE, 4), (R.TTH_STAT_LOCK, 1)], (by decide)⟩, ⟨1, up_
    [(R.TTH_STAT_STATE, 4)], (by decide)⟩, ⟨0, up_ [(R.TTH_STAT_STATE, 4)], (by decide)⟩⟩

theorem tether_commands_complete_tthDisable_meets :
    ∃ (path : Path) (value : Word) (s : State), s.takes path R.A_TTH_CTRL (withBits value 0 1 0) = true :=
  ⟨.core, 1, up_ [(R.TTH_CTRL_EN, 1)], (by decide)⟩

theorem tether_commands_complete_tthSelectRequest_meets :
    ∃ (path : Path) (value : Word) (s : State), s.takes path R.A_TTH_CTRL value = true :=
  ⟨.core, 0x807, up_ [(R.TTH_CTRL_EN, 1)], (by decide)⟩

theorem tether_commands_complete_tetherFrequencyFound_meets :
    (∃ (i : Fin 2) (slotHz pllHz : Nat) (s : State), s.tthState = 1 ∧ s.refEn i.val = true ∧ i.val = s.get
      R.TTH_CTRL_PRIMARY ∧ s.flag (refQ i.val) = true ∧ ((32 * slotHz : Int) - pllHz).natAbs * 2000 ≤ pllHz ∧ 0 <
      pllHz ∧ ((pllHz : Int) - clockOfSpeed s.spn.obsSpeed).natAbs * 50 ≤ clockOfSpeed s.spn.obsSpeed) ∧
    (∃ (i : Fin 2) (slotHz pllHz : Nat) (s : State), (s.tthState ≠ 1 ∨ pllHz < ((32 * slotHz : Int) - pllHz).natAbs
      * 2000)) :=
  ⟨⟨0, 31457280, 1006632960, (up_ [(R.TTH_STAT_STATE, 1), (R.TTH_CTRL_REF0_EN, 1), (R.TTH_STAT_REF0_Q, 1)]).modSpn
    (fun x => { x with obsSpeed := 1843200 }), (by decide)⟩, ⟨0, 31300000, 1000000000, up_ [(R.TTH_STAT_STATE, 1)],
    (by decide)⟩⟩

theorem tether_commands_complete_tetherFrame_meets :
    (∃ (i : Fin 2) (f : BandFrame) (s : State), (s.tthState < 2 ∨ 4 < s.tthState)) ∧
    (∃ (i : Fin 2) (f : BandFrame) (s : State), s.tthState = 2) ∧
    (∃ (i : Fin 2) (f : BandFrame) (s : State), (s.tthState = 3 ∨ s.tthState = 4) ∧ 3 ≤ ((List.range 64).foldl (fun
      (t : State) k => t.bandSlot i.val k (if s.refEn i.val then (f.slots[k]?).getD none else none)
      ((f.amps[k]?).getD 0)) s).tthState) :=
  ⟨⟨0, ⟨[], [], 0, none⟩, up_ [(R.TTH_STAT_STATE, 1)], (by decide)⟩, ⟨0, ⟨[], [], 0, none⟩, up_ [(R.TTH_STAT_STATE,
    2)], (by decide)⟩, ⟨0, ⟨List.replicate 64 (some 0), List.replicate 64 128, 0, none⟩, up_ [(R.TTH_STAT_STATE, 3),
    (R.TTH_CTRL_REF0_EN, 1), (R.TTH_CFG_AMP_MAX, 200), (R.TTH_CFG_BAD_RUN, 9)], (by decide +kernel)⟩⟩

theorem tether_commands_complete_tetherClockSwitch_meets :
    (∃ (s : State), s.tth.lossTo = none) ∧
    (∃ (t : Nat) (s : State), s.tth.lossTo = some (1, t) ∧ s.passed t (128 * 1000000000 / max 1 s.fTether) = true) ∧
    (∃ (t : Nat) (s : State), s.tth.lossTo = some (0, t) ∧ s.passed t (128 * 1000000000 / max 1 s.fTether) = true)
      :=
  ⟨⟨up_ [], (by decide)⟩, ⟨0,
    { (up_ []).modTth (fun t => { t with lossTo := some (1, 0) }) with fTether := 1000000000 }, (by decide)⟩, ⟨0,
    { (up_ []).modTth (fun t => { t with lossTo := some (0, 0) }) with fTether := 1000000000 }, (by decide)⟩⟩

theorem tether_commands_complete_relockFail_meets :
    (∃ (t : Nat) (s : State), s.tth.acqFrom = some t ∧ s.tthLocked = false ∧ s.tth.lossTo = none ∧ s.flag
      R.SPN_STAT_AT_SPEED = true ∧ s.passed t 1000000000 = true) ∧
    (∃ (t : Nat) (s : State), s.tth.acqFrom = some t ∧ s.passed t 1000000000 = false) :=
  ⟨⟨0, (on_ 1000000000 [(R.SPN_STAT_AT_SPEED, 1)]).modTth (fun t => { t with acqFrom := some 0 }), (by decide)⟩, ⟨0,
    (on_ 999999999 [(R.SPN_STAT_AT_SPEED, 1)]).modTth (fun t => { t with acqFrom := some 0 }), (by decide)⟩⟩

theorem tether_commands_complete_zoneSettled_meets :
    (∃ (h : Head) (s : State), s.get (R.CH_STAT_STATE h.val) = 2) ∧
    (∃ (h : Head) (s : State), s.get (R.CH_STAT_STATE h.val) ≠ 2) :=
  ⟨⟨23, up_ [(R.CH_STAT_STATE 23, 2)], (by decide)⟩, ⟨23, up_ [(R.CH_STAT_STATE 23, 4)], (by decide)⟩⟩

theorem read_channel_commands_complete_sectorArrival_meets :
    (∃ (h : Head) (off : Nat) (s : State), (s.head h.val).arms = []) ∧
    (∃ (h : Head) (off : Nat) (s : State), s.tthLocked = false) ∧
    (∃ (h : Head) (off : Nat) (a : Arm) (r : List Arm) (s : State), (s.head h.val).arms = a :: r ∧ s.tthLocked =
      true ∧ a.kind = .read ∧ s.atSector h.val a (s.gateLead h.val) off = true ∧ s.get (R.CH_STAT_STATE h.val) = 3 ∧
      a.late = true) ∧
    (∃ (h : Head) (off : Nat) (a : Arm) (r : List Arm) (s : State), (s.head h.val).arms = a :: r ∧ s.tthLocked =
      true ∧ a.kind = .read ∧ s.atSector h.val a (s.gateLead h.val) off = true ∧ s.get (R.CH_STAT_STATE h.val) = 3 ∧
      a.late = false ∧ ((s.gateReload h.val).refuse h.val a).1.any = false ∧ (s.gateReload h.val).readAllowed h.val
      = true) ∧
    (∃ (h : Head) (off : Nat) (a : Arm) (r : List Arm) (s : State), (s.head h.val).arms = a :: r ∧ s.tthLocked =
      true ∧ a.kind = .read ∧ s.atSector h.val a (s.gateLead h.val) off = true ∧ s.get (R.CH_STAT_STATE h.val) = 3 ∧
      a.late = false ∧ ((s.gateReload h.val).refuse h.val a).1.any = true ∧ ((s.gateReload h.val).refuse h.val
      a).1.rate = true) ∧
    (∃ (h : Head) (off : Nat) (a : Arm) (r : List Arm) (s : State), (s.head h.val).arms = a :: r ∧ s.tthLocked =
      true ∧ a.kind = .write ∧ s.atSector h.val a 0 off = true ∧ s.get (R.CH_WR_STAT_STATE h.val) = 3) ∧
    (∃ (h : Head) (off : Nat) (a : Arm) (r : List Arm) (s : State), (s.head h.val).arms = a :: r ∧ s.atSector h.val
      a (if a.kind = .write then 0 else s.gateLead h.val) off = false) :=
  ⟨⟨0, 0, up_ [], (by decide)⟩, ⟨0, 0, up_ [], (by decide)⟩, ⟨0, 24, ⟨.read, 10, 5, 1, false, 7, 0, true⟩, [],
    { zoned_ [(R.SYS_MODE_MODE, 6), (R.CH_WR_STAT_STATE 0, 0)] [⟨.read, 10, 5, 1, false, 7, 0, true⟩] with now := 8410830 },
    (by decide)⟩, ⟨0, 24, ⟨.read, 10, 5, 1, false, 7, 0, false⟩, [],
    { zoned_ [(R.SYS_MODE_MODE, 6), (R.CH_WR_STAT_STATE 0, 0)] [⟨.read, 10, 5, 1, false, 7, 0, false⟩] with now := 8410830 },
    (by decide)⟩, ⟨0, 24, ⟨.read, 10, 5, 1, false, 7, 0, false⟩, [],
    ({ zoned_ [(R.SYS_MODE_MODE, 6), (R.CH_WR_STAT_STATE 0, 0)] [⟨.read, 10, 5, 1, false, 7, 0, false⟩] with now := 8410830 }).modHead
    0 (fun x => { x with refused := true }), (by decide)⟩, ⟨0, 24, ⟨.write, 10, 5, 1, false, 7, 0, false⟩, [],
    { zoned_ [(R.SYS_MODE_MODE, 6), (R.CH_WR_STAT_STATE 0, 3)] [⟨.write, 10, 5, 1, false, 7, 0, false⟩] with now := 8410833 },
    (by decide)⟩, ⟨0, 24, ⟨.read, 10, 5, 1, false, 7, 0, false⟩, [],
    { zoned_ [(R.SYS_MODE_MODE, 6), (R.CH_WR_STAT_STATE 0, 0)] [⟨.read, 10, 5, 1, false, 7, 0, false⟩] with now := 8410820 },
    (by decide)⟩⟩

theorem read_channel_commands_complete_meets :
    (∃ (h back off : Nat) (a : Arm) (s : State), s.placeBound a ≤ off) ∧
    (∃ (a : Arm) (s : State), s.get R.TTH_STAT_STATE = 7 ∧ a.kind = .read) ∧
    (∃ (a : Arm) (s : State), (s.get R.TTH_STAT_STATE ≠ 7 ∨ a.kind = .write)) ∧
    (∃ (m : Nat) (f : Fld) (s : State), bitOf m 0 = true) :=
  ⟨⟨0, 0, 24, ⟨.read, 10, 5, 1, false, 7, 0, false⟩, up_ [], (by decide)⟩, ⟨⟨.read, 10, 5, 1, false, 7, 0, false⟩,
    up_ [(R.TTH_STAT_STATE, 7)], (by decide)⟩, ⟨⟨.read, 10, 5, 1, false, 7, 0, false⟩, up_ [(R.TTH_STAT_STATE, 4)],
    (by decide)⟩, ⟨5, R.CH_CNT_GOOD_COUNT 0, up_ [], (by decide)⟩⟩

theorem read_channel_commands_complete_syncDecision_meets :
    (∃ (h : Head) (hard : Nat) (s : State), s.rdPool.jobs.find? (fun j => j.head == h.val && !j.decided) = none) ∧
    (∃ (h : Head) (hard : Nat) (j : ReadJob) (e : Int) (s : State), s.rdPool.jobs.find? (fun j => j.head == h.val &&
      !j.decided) = some j ∧ pickMark (s.syncWin h.val) (s.get (R.CH_SYNC_CFG_SM_TOL h.val)) (marksOf (s.syncWin
      h.val) hard) = some e) ∧
    (∃ (h : Head) (hard : Nat) (j : ReadJob) (s : State), s.rdPool.jobs.find? (fun j => j.head == h.val &&
      !j.decided) = some j ∧ pickMark (s.syncWin h.val) (s.get (R.CH_SYNC_CFG_SM_TOL h.val)) (marksOf (s.syncWin
      h.val) hard) = none ∧ s.flag (R.CH_RD_CFG_BLIND_EN h.val) = false) :=
  ⟨⟨0, 0, up_ [], (by decide)⟩, ⟨0, syncPattern * 2 ^ 86, (⟨4, 0, ⟨.read, 10, 5, 1, false, 7, 0, false⟩, 1000,
    600000, 0, [], none, false, false, [], 1, false, false, (31, 0)⟩ : ReadJob), -3,
    { up_ [(R.CH_SYNC_CFG_WIN 0, 8), (R.CH_SYNC_CFG_SM_TOL 0, 4)] with rdPool := { (up_ []).rdPool with jobs := [(⟨4, 0, ⟨.read, 10, 5, 1, false, 7, 0, false⟩, 1000, 600000, 0, [], none, false, false, [], 1, false, false, (31, 0)⟩ : ReadJob)] } },
    (by decide)⟩, ⟨0, 0, (⟨4, 0, ⟨.read, 10, 5, 1, false, 7, 0, false⟩, 1000, 600000, 0, [], none, false, false, [],
    1, false, false, (31, 0)⟩ : ReadJob),
    { up_ [(R.CH_SYNC_CFG_WIN 0, 8), (R.CH_SYNC_CFG_SM_TOL 0, 4), (R.CH_RD_CFG_BLIND_EN 0, 0)] with rdPool := { (up_ []).rdPool with jobs := [(⟨4, 0, ⟨.read, 10, 5, 1, false, 7, 0, false⟩, 1000, 600000, 0, [], none, false, false, [], 1, false, false, (31, 0)⟩ : ReadJob)] } },
    (by decide)⟩⟩

theorem read_channel_commands_complete_llrCaptureComplete_meets :
    (∃ (h : Head) (fe : FrontEnd) (s : State), (s.head h.val).adapt = [] ∧ clipCount ((fe.adc[0]?).getD []) * 100 ≤
      37120 ∧ s.rdPool.jobs.find? (fun j => j.head == h.val && j.decided && !j.captured) = none) ∧
    (∃ (h : Head) (fe : FrontEnd) (j : ReadJob) (s : State), (s.head h.val).adapt = [] ∧ clipCount
      ((fe.adc[0]?).getD []) * 100 ≤ 37120 ∧ s.rdPool.jobs.find? (fun j => j.head == h.val && j.decided &&
      !j.captured) = some j ∧ j.n ≤ 2) ∧
    (∃ (h : Head) (fe : FrontEnd) (j : ReadJob) (s : State), (s.head h.val).adapt = [] ∧ clipCount
      ((fe.adc[0]?).getD []) * 100 ≤ 37120 ∧ s.rdPool.jobs.find? (fun j => j.head == h.val && j.decided &&
      !j.captured) = some j ∧ 3 ≤ j.n) :=
  ⟨⟨0, ⟨[], [], [], [], 0, [9, -20]⟩, up_ [], (by decide)⟩, ⟨0, ⟨[], [], [], [], 0, [9, -20]⟩, (⟨4, 0, ⟨.read, 10,
    5, 1, false, 7, 0, false⟩, 1000, 600000, 0, [], none, true, false, [⟨0, true, .waiting, 0, 31, 0⟩], 2, false,
    false, (31, 0)⟩ : ReadJob),
    { up_ [] with rdPool := { (up_ []).rdPool with jobs := [(⟨4, 0, ⟨.read, 10, 5, 1, false, 7, 0, false⟩, 1000, 600000, 0, [], none, true, false, [⟨0, true, .waiting, 0, 31, 0⟩], 2, false, false, (31, 0)⟩ : ReadJob)] } },
    (by decide)⟩, ⟨0, ⟨[], [], [], [], 0, [9, -20]⟩, (⟨4, 0, ⟨.read, 10, 5, 1, false, 7, 0, false⟩, 1000, 600000, 0,
    [], none, true, false, [⟨0, true, .waiting, 0, 31, 0⟩], 3, false, false, (31, 0)⟩ : ReadJob),
    { up_ [] with rdPool := { (up_ []).rdPool with jobs := [(⟨4, 0, ⟨.read, 10, 5, 1, false, 7, 0, false⟩, 1000, 600000, 0, [], none, true, false, [⟨0, true, .waiting, 0, 31, 0⟩], 3, false, false, (31, 0)⟩ : ReadJob)] } },
    (by decide)⟩⟩

theorem read_channel_commands_complete_chReload_meets :
    ∃ (path : Path) (h : Head) (value : Word) (s : State), bitOf (s.rd (R.A_CH_RD_CFG h.val)).toNat 0 = bitOf
      (withBits value 8 1 1).toNat 0 ∧ s.takes path (R.A_CH_RD_CFG h.val) (withBits value 8 1 1) = true :=
  ⟨.core, 7, 0, up_ [], (by decide)⟩

theorem read_channel_commands_complete_chCounterClear_meets :
    ∃ (path : Path) (h : Head) (value : Word) (s : State), s.takes path (R.A_CH_CNT_CLR h.val) value = true :=
  ⟨.core, 7, 0xFF, up_ [], (by decide)⟩

theorem read_channel_commands_complete_chWrCounterClear_meets :
    ∃ (path : Path) (h : Head) (value : Word) (s : State), s.takes path (R.A_CH_WR_CNT_CLR h.val) value = true :=
  ⟨.core, 23, 5, up_ [], (by decide)⟩

theorem decoder_commands_complete_streamDecodeStart_meets :
    (∃ (s : State), s.streamCount = 0) ∧
    (∃ (s : State), s.rdPool.queue = []) ∧
    (∃ (s : State), (List.range 16).find? (fun n => s.decEnabled n && ((s.rdPool.decs[n]?).getD none).isNone) =
      none) ∧
    (∃ (n id i : Nat) (rest : List (Nat × Nat)) (j : ReadJob) (s : State), s.streamCount ≠ 0 ∧ (List.range 16).find?
      (fun n => s.decEnabled n && ((s.rdPool.decs[n]?).getD none).isNone) = some n ∧ s.rdPool.queue = (id, i) ::
      rest ∧ s.rdPool.job id = some j) :=
  ⟨⟨up_ [(R.LDPC_CTRL_EN 0, 0), (R.LDPC_CTRL_EN 1, 0), (R.LDPC_CTRL_EN 2, 0), (R.LDPC_CTRL_EN 3, 0), (R.LDPC_CTRL_EN
    4, 0), (R.LDPC_CTRL_EN 5, 0), (R.LDPC_CTRL_EN 6, 0), (R.LDPC_CTRL_EN 7, 0), (R.LDPC_CTRL_EN 8, 0),
    (R.LDPC_CTRL_EN 9, 0), (R.LDPC_CTRL_EN 10, 0), (R.LDPC_CTRL_EN 11, 0), (R.LDPC_CTRL_EN 12, 0), (R.LDPC_CTRL_EN
    13, 0), (R.LDPC_CTRL_EN 14, 0), (R.LDPC_CTRL_EN 15, 0)], (by decide)⟩, ⟨up_ [], (by decide)⟩, ⟨up_
    [(R.LDPC_CTRL_EN 0, 0), (R.LDPC_CTRL_EN 1, 0), (R.LDPC_CTRL_EN 2, 0), (R.LDPC_CTRL_EN 3, 0), (R.LDPC_CTRL_EN 4,
    0), (R.LDPC_CTRL_EN 5, 0), (R.LDPC_CTRL_EN 6, 0), (R.LDPC_CTRL_EN 7, 0), (R.LDPC_CTRL_EN 8, 0), (R.LDPC_CTRL_EN
    9, 0), (R.LDPC_CTRL_EN 10, 0), (R.LDPC_CTRL_EN 11, 0), (R.LDPC_CTRL_EN 12, 0), (R.LDPC_CTRL_EN 13, 0),
    (R.LDPC_CTRL_EN 14, 0), (R.LDPC_CTRL_EN 15, 0)], (by decide)⟩, ⟨3, 4, 0, [], (⟨4, 0, ⟨.read, 10, 5, 1, false, 7,
    0, false⟩, 1000, 600000, 0, [], none, true, false, [⟨0, true, .waiting, 0, 31, 0⟩], 1, false, false, (31, 0)⟩ :
    ReadJob),
    { up_ [(R.LDPC_CTRL_EN 0, 0), (R.LDPC_CTRL_EN 1, 0), (R.LDPC_CTRL_EN 2, 0), (R.LDPC_CTRL_EN 3, 1)] with rdPool := { (up_ []).rdPool with queue := [(4, 0)], jobs := [(⟨4, 0, ⟨.read, 10, 5, 1, false, 7, 0, false⟩, 1000, 600000, 0, [], none, true, false, [⟨0, true, .waiting, 0, 31, 0⟩], 1, false, false, (31, 0)⟩ : ReadJob)] } },
    (by decide)⟩⟩

theorem decoder_commands_complete_streamDecodeEnd_meets :
    (∃ (d : Fin 16) (cw it : Nat) (s : State), (s.rdPool.decs[d.val]?).getD none = none) ∧
    (∃ (d : Fin 16) (cw it id i lim t : Nat) (j : ReadJob) (s : State), (s.rdPool.decs[d.val]?).getD none = some
      ⟨.cand id i, lim, t⟩ ∧ s.rdPool.job id = some j) :=
  ⟨⟨3, 0, 5, up_ [], (by decide)⟩, ⟨0, 0, 5, 4, 0, 20, 7, (⟨4, 0, ⟨.read, 10, 5, 1, false, 7, 0, false⟩, 1000,
    600000, 0, [], none, true, false, [⟨0, true, .waiting, 0, 31, 0⟩], 1, false, false, (31, 0)⟩ : ReadJob),
    { up_ [] with rdPool := { (up_ []).rdPool with decs := [some ⟨.cand 4 0, 20, 7⟩], jobs := [(⟨4, 0, ⟨.read, 10, 5, 1, false, 7, 0, false⟩, 1000, 600000, 0, [], none, true, false, [⟨0, true, .waiting, 0, 31, 0⟩], 1, false, false, (31, 0)⟩ : ReadJob)] } },
    (by decide)⟩⟩

theorem decoder_commands_complete_deepDecodeStart_meets :
    (∃ (s : State), s.rdPool.deepQ = []) ∧
    (∃ (n id : Nat) (rest : List Nat) (s : State), [16, 17].find? (fun n => s.decEnabled n &&
      ((s.rdPool.decs[n]?).getD none).isNone) = some n ∧ s.rdPool.deepQ = id :: rest) :=
  ⟨⟨up_ [], (by decide)⟩, ⟨17, 4, [9],
    { up_ [(R.LDPC_CTRL_EN 16, 0), (R.LDPC_CTRL_EN 17, 1)] with rdPool := { (up_ []).rdPool with deepQ := [4, 9] } },
    (by decide)⟩⟩

theorem decoder_commands_complete_deepDecodeEnd_meets :
    (∃ (d : Fin 2) (cw it : Nat) (s : State), (s.rdPool.decs[16 + d.val]?).getD none = none) ∧
    (∃ (d : Fin 2) (cw it id lim t0 : Nat) (j : ReadJob) (s : State), (s.rdPool.decs[16 + d.val]?).getD none = some
      ⟨.deep id, lim, t0⟩ ∧ s.rdPool.job id = some j) ∧
    (∃ (d : Fin 2) (cw it id lim t : Nat) (j : ReadJob) (s : State), (s.rdPool.decs[16 + d.val]?).getD none = some
      ⟨.deep id, lim, t⟩ ∧ s.rdPool.job id = some j ∧ lim < it) :=
  ⟨⟨1, 0, 5, up_ [], (by decide)⟩, ⟨0, 0, 20, 4, 20, 7, (⟨4, 0, ⟨.read, 10, 5, 1, false, 7, 0, false⟩, 1000, 600000,
    0, [], none, true, false, [⟨0, true, .waiting, 0, 31, 0⟩], 3, false, false, (31, 0)⟩ : ReadJob),
    { up_ [] with rdPool := { (up_ []).rdPool with decs := List.replicate 16 none ++ [some ⟨.deep 4, 20, 7⟩], jobs := [(⟨4, 0, ⟨.read, 10, 5, 1, false, 7, 0, false⟩, 1000, 600000, 0, [], none, true, false, [⟨0, true, .waiting, 0, 31, 0⟩], 3, false, false, (31, 0)⟩ : ReadJob)] } },
    (by decide)⟩, ⟨0, 0, 21, 4, 20, 7, (⟨4, 0, ⟨.read, 10, 5, 1, false, 7, 0, false⟩, 1000, 600000, 0, [], none,
    true, false, [⟨0, true, .waiting, 0, 31, 0⟩], 3, false, false, (31, 0)⟩ : ReadJob),
    { up_ [] with rdPool := { (up_ []).rdPool with decs := List.replicate 16 none ++ [some ⟨.deep 4, 20, 7⟩], jobs := [(⟨4, 0, ⟨.read, 10, 5, 1, false, 7, 0, false⟩, 1000, 600000, 0, [], none, true, false, [⟨0, true, .waiting, 0, 31, 0⟩], 3, false, false, (31, 0)⟩ : ReadJob)] } },
    (by decide)⟩⟩

theorem decoder_commands_complete_decoderHang_meets :
    (∃ (d : Fin 18) (r : DecRun) (s : State), (s.rdPool.decs[d.val]?).getD none = some r ∧ r.start + 2 * (if d.val <
      16 then 80 + 750 * r.limit else 2000 + 1500 * r.limit) < s.now) ∧
    (∃ (d : Fin 18) (r : DecRun) (s : State), (s.rdPool.decs[d.val]?).getD none = some r ∧ s.now ≤ r.start + 2 * (if
      d.val < 16 then 80 + 750 * r.limit else 2000 + 1500 * r.limit)) ∧
    (∃ (d : Fin 18) (s : State), (s.rdPool.decs[d.val]?).getD none = none) :=
  ⟨⟨0, ⟨.cand 4 0, 20, 0⟩,
    { on_ 30161 [] with rdPool := { (up_ []).rdPool with decs := [some ⟨.cand 4 0, 20, 0⟩] } }, (by decide)⟩, ⟨0,
    ⟨.cand 4 0, 20, 0⟩, { on_ 30160 [] with rdPool := { (up_ []).rdPool with decs := [some ⟨.cand 4 0, 20, 0⟩] } },
    (by decide)⟩, ⟨17, up_ [], (by decide)⟩⟩

theorem decoder_commands_complete_ldpcDecoderReset_meets :
    ∃ (path : Path) (d : Fin 18) (value : Word) (s : State), s.takes path (R.A_LDPC_CTRL d.val) (withBits value 1 1
      1) = true :=
  ⟨.core, 17, 1, up_ [], (by decide)⟩

theorem decoder_commands_complete_meets :
    ∃ (s : State), s.streamCount = 0 :=
  ⟨up_ [(R.LDPC_CTRL_EN 0, 0), (R.LDPC_CTRL_EN 1, 0), (R.LDPC_CTRL_EN 2, 0), (R.LDPC_CTRL_EN 3, 0), (R.LDPC_CTRL_EN
    4, 0), (R.LDPC_CTRL_EN 5, 0), (R.LDPC_CTRL_EN 6, 0), (R.LDPC_CTRL_EN 7, 0), (R.LDPC_CTRL_EN 8, 0),
    (R.LDPC_CTRL_EN 9, 0), (R.LDPC_CTRL_EN 10, 0), (R.LDPC_CTRL_EN 11, 0), (R.LDPC_CTRL_EN 12, 0), (R.LDPC_CTRL_EN
    13, 0), (R.LDPC_CTRL_EN 14, 0), (R.LDPC_CTRL_EN 15, 0)], (by decide)⟩

theorem write_gate_commands_complete_writeRunStart_meets :
    (∃ (h : Head) (lead : Nat) (s : State), (s.head h.val).arms = []) ∧
    (∃ (h : Head) (lead : Nat) (s : State), (s.get (R.CH_WR_STAT_STATE h.val) = 2 ∨ s.get (R.CH_WR_STAT_STATE h.val)
      = 3)) ∧
    (∃ (h : Head) (lead : Nat) (a : Arm) (r : List Arm) (s : State), (s.head h.val).arms = a :: r ∧ a.kind = .write
      ∧ (s.get (R.CH_WR_STAT_STATE h.val) = 1 ∨ s.get (R.CH_WR_STAT_STATE h.val) = 4) ∧ s.tthLocked = true ∧ s.get
      (R.CH_STAT_STATE h.val) = 3 ∧ a.late = true) ∧
    (∃ (h : Head) (lead : Nat) (a : Arm) (r : List Arm) (s : State), (s.head h.val).arms = a :: r ∧ a.kind = .write
      ∧ (s.get (R.CH_WR_STAT_STATE h.val) = 1 ∨ s.get (R.CH_WR_STAT_STATE h.val) = 4) ∧ s.tthLocked = true ∧ s.get
      (R.CH_STAT_STATE h.val) = 3 ∧ a.late = false ∧ s.beforeLead h.val a lead = false ∧ (s.refusals h.val a).any =
      true) ∧
    (∃ (h : Head) (lead : Nat) (a : Arm) (r : List Arm) (s : State), (s.head h.val).arms = a :: r ∧ a.kind = .write
      ∧ (s.get (R.CH_WR_STAT_STATE h.val) = 1 ∨ s.get (R.CH_WR_STAT_STATE h.val) = 4) ∧ s.tthLocked = true ∧ s.get
      (R.CH_STAT_STATE h.val) = 3 ∧ a.late = false ∧ s.beforeLead h.val a lead = true) ∧
    (∃ (h : Head) (lead : Nat) (a : Arm) (r : List Arm) (s : State), (s.head h.val).arms = a :: r ∧ a.kind = .write
      ∧ (s.get (R.CH_WR_STAT_STATE h.val) = 1 ∨ s.get (R.CH_WR_STAT_STATE h.val) = 4) ∧ s.tthLocked = true ∧ s.get
      (R.CH_STAT_STATE h.val) = 3 ∧ a.late = false ∧ s.beforeLead h.val a lead = false ∧ (s.refusals h.val a).any =
      false ∧ bitsOf (s.get (R.CH_WR_INH_SRC h.val)) 0 10 ≠ 0) ∧
    (∃ (h : Head) (lead : Nat) (a : Arm) (r : List Arm) (s : State), (s.head h.val).arms = a :: r ∧ a.kind = .write
      ∧ (s.get (R.CH_WR_STAT_STATE h.val) = 1 ∨ s.get (R.CH_WR_STAT_STATE h.val) = 4) ∧ s.tthLocked = true ∧ s.get
      (R.CH_STAT_STATE h.val) = 3 ∧ a.late = false ∧ s.beforeLead h.val a lead = false ∧ (s.refusals h.val a).any =
      false ∧ s.runAllowed h.val = true ∧ s.mayTransfer h.val = true ∧ (s.get R.SYS_WR_LIMIT_DEV_MAX ≤ s.grants ∨
      s.get R.SYS_WR_LIMIT_ACT_MAX ≤ s.grantsOf (h.val / 6))) ∧
    (∃ (h : Head) (lead : Nat) (a : Arm) (r : List Arm) (s : State), (s.head h.val).arms = a :: r ∧ a.kind = .write
      ∧ (s.get (R.CH_WR_STAT_STATE h.val) = 1 ∨ s.get (R.CH_WR_STAT_STATE h.val) = 4) ∧ s.tthLocked = true ∧ s.get
      (R.CH_STAT_STATE h.val) = 3 ∧ a.late = false ∧ s.beforeLead h.val a lead = false ∧ (s.refusals h.val a).any =
      false ∧ s.runAllowed h.val = true ∧ s.mayTransfer h.val = true ∧ s.grants < s.get R.SYS_WR_LIMIT_DEV_MAX ∧
      s.grantsOf (h.val / 6) < s.get R.SYS_WR_LIMIT_ACT_MAX) :=
  ⟨⟨0, 0, up_ [], (by decide)⟩, ⟨0, 0, zoned_ [(R.CH_WR_STAT_STATE 0, 2)] [⟨.write, 10, 5, 1, false, 7, 0, false⟩],
    (by decide)⟩, ⟨0, 10000000, ⟨.write, 10, 5, 1, false, 7, 0, true⟩, [], zoned_ [(R.CH_WR_STAT_STATE 0, 1)]
    [⟨.write, 10, 5, 1, false, 7, 0, true⟩], (by decide)⟩, ⟨0, 10000000, ⟨.write, 10, 5, 1, false, 7, 0, false⟩, [],
    (zoned_ [(R.CH_WR_STAT_STATE 0, 1)] [⟨.write, 10, 5, 1, false, 7, 0, false⟩]).modHead 0 (fun x =>
    { x with wentry := [] }), (by decide)⟩, ⟨0, 0, ⟨.write, 10, 5, 1, false, 7, 0, false⟩, [], zoned_
    [(R.CH_WR_STAT_STATE 0, 1)] [⟨.write, 10, 5, 1, false, 7, 0, false⟩], (by decide)⟩, ⟨0, 10000000, ⟨.write, 10,
    5, 1, false, 7, 0, false⟩, [], zoned_ [(R.CH_WR_STAT_STATE 0, 4), (R.CH_WR_INH_SRC 0, 2)] [⟨.write, 10, 5, 1,
    false, 7, 0, false⟩], (by decide)⟩, ⟨0, 10000000, ⟨.write, 10, 5, 1, false, 7, 0, false⟩, [], zoned_
    [(R.SYS_MODE_MODE, 6), (R.CH_WR_STAT_STATE 0, 1), (R.SYS_WR_LIMIT_DEV_MAX, 0)] [⟨.write, 10, 5, 1, false, 7, 0,
    false⟩], (by decide)⟩, ⟨0, 10000000, ⟨.write, 10, 5, 1, false, 7, 0, false⟩, [], zoned_ [(R.SYS_MODE_MODE, 6),
    (R.CH_WR_STAT_STATE 0, 1), (R.SYS_WR_LIMIT_DEV_MAX, 8), (R.SYS_WR_LIMIT_ACT_MAX, 2)] [⟨.write, 10, 5, 1, false,
    7, 0, false⟩], (by decide)⟩⟩

theorem write_gate_commands_complete_writeGateOpen_meets :
    (∃ (h : Head) (off : Nat) (a : Arm) (r : List Arm) (s : State), (s.head h.val).arms = a :: r ∧ s.get
      (R.CH_WR_STAT_STATE h.val) = 2 ∧ bitOf (s.link (h.val / 6)).armed (h.val % 6) = true ∧ s.atSector h.val a 0
      off = true) ∧
    (∃ (h : Head) (off : Nat) (s : State), (s.get (R.CH_WR_STAT_STATE h.val) ≠ 2 ∨ bitOf (s.link (h.val / 6)).armed
      (h.val % 6) = false)) ∧
    (∃ (h : Head) (off : Nat) (a : Arm) (r : List Arm) (s : State), (s.head h.val).arms = a :: r ∧ s.atSector h.val
      a 0 off = false) :=
  ⟨⟨0, 24, ⟨.write, 10, 5, 1, false, 7, 0, false⟩, [],
    ({ zoned_ [(R.CH_WR_STAT_STATE 0, 2)] [⟨.write, 10, 5, 1, false, 7, 0, false⟩] with now := 8410833 }).modLink 0
    (fun l => { l with armed := 1 }), (by decide)⟩, ⟨7, 0, up_ [(R.CH_WR_STAT_STATE 7, 2)], (by decide)⟩, ⟨0, 24,
    ⟨.write, 10, 5, 1, false, 7, 0, false⟩, [],
    ({ zoned_ [(R.CH_WR_STAT_STATE 0, 2)] [⟨.write, 10, 5, 1, false, 7, 0, false⟩] with now := 8410820 }).modLink 0
    (fun l => { l with armed := 1 }), (by decide)⟩⟩

theorem write_gate_commands_complete_writeRunEnd_meets :
    (∃ (h : Head) (s : State), s.get (R.CH_WR_STAT_STATE h.val) = 3 ∧ (((s.modHead h.val (fun x => x.curDone
      s.now)).head h.val).run = none ∨ ∃ q, ((s.modHead h.val (fun x => x.curDone s.now)).head h.val).run = some q ∧
      q.cur = none)) ∧
    (∃ (h : Head) (s : State), s.get (R.CH_WR_STAT_STATE h.val) ≠ 3) :=
  ⟨⟨7, up_ [(R.CH_WR_STAT_STATE 7, 3)], ⟨by decide, Or.inl (by decide)⟩⟩, ⟨7, up_ [(R.CH_WR_STAT_STATE 7, 2)],
    (by decide)⟩⟩

theorem write_gate_commands_complete_sectorCountedWritten_meets :
    (∃ (h : Head) (x : HeadSt) (s : State), (s.head h.val).curDone s.now = x ∧ x.written.filter (fun w =>
      x.countable s.now w) = []) ∧
    (∃ (h : Head) (x : HeadSt) (w : Written) (s : State), (s.head h.val).curDone s.now = x ∧ x.written = [w] ∧
      w.last < x.passAt ∧ x.passAt + 180 ≤ s.now ∧ w.last + 2000 ≤ s.now ∧ s.archive = false) ∧
    (∃ (h : Head) (x : HeadSt) (w : Written) (s : State), (s.head h.val).curDone s.now = x ∧ x.written = [w] ∧
      w.last < x.passAt ∧ x.passAt + 180 ≤ s.now ∧ w.last + 2000 ≤ s.now ∧ s.archive = true) :=
  ⟨⟨0, HeadSt.init, up_ [], (by decide)⟩, ⟨0,
    { HeadSt.init with written := [⟨⟨.write, 10, 5, 1, false, 7, 0, false⟩, 10, 20⟩], passAt := 30 }, ⟨⟨.write, 10,
    5, 1, false, 7, 0, false⟩, 10, 20⟩, (up_ []).setHead 0
    { HeadSt.init with written := [⟨⟨.write, 10, 5, 1, false, 7, 0, false⟩, 10, 20⟩], passAt := 30 }, (by decide)⟩,
    ⟨0, { HeadSt.init with written := [⟨⟨.write, 10, 5, 1, false, 7, 0, false⟩, 10, 20⟩], passAt := 30 }, ⟨⟨.write,
    10, 5, 1, false, 7, 0, false⟩, 10, 20⟩, (up_ [(R.SYS_MODE_MODE, mARCHIVE)]).setHead 0
    { HeadSt.init with written := [⟨⟨.write, 10, 5, 1, false, 7, 0, false⟩, 10, 20⟩], passAt := 30 }, (by decide)⟩⟩

theorem write_gate_commands_complete_armMiss_meets :
    (∃ (h : Head) (s : State), (s.head h.val).run = none) ∧
    (∃ (h : Head) (r : WriteRun) (s : State), (s.head h.val).run = some r ∧ s.get (R.CH_WR_STAT_STATE h.val) = 2 ∧
      r.p0 ≤ s.now ∧ bitOf (s.link (h.val / 6)).armed (h.val % 6) = false) ∧
    (∃ (h : Head) (r : WriteRun) (s : State), (s.head h.val).run = some r ∧ s.now < r.p0) :=
  ⟨⟨0, up_ [], (by decide)⟩, ⟨7, ⟨⟨.write, 10, 5, 1, false, 7, 0, false⟩, 5, none⟩, (up_ [(R.CH_WR_STAT_STATE 7,
    2)]).modHead 7 (fun x => { x with run := some ⟨⟨.write, 10, 5, 1, false, 7, 0, false⟩, 5, none⟩ }),
    (by decide)⟩, ⟨7, ⟨⟨.write, 10, 5, 1, false, 7, 0, false⟩, 2000000, none⟩, (up_ [(R.CH_WR_STAT_STATE 7,
    2)]).modHead 7 (fun x => { x with run := some ⟨⟨.write, 10, 5, 1, false, 7, 0, false⟩, 2000000, none⟩ }),
    (by decide)⟩⟩

theorem sequencer_control_commands_complete_seqEnable_meets :
    ∃ (path : Path) (a : Act) (value : Word) (s : State), s.takes path (R.A_SEQ_CTRL a.val) value = true :=
  ⟨.core, 3, 1, up_ [], (by decide)⟩

theorem sequencer_control_commands_complete_seqPause_meets :
    ∃ (path : Path) (a : Act) (value : Word) (s : State), s.takes path (R.A_SEQ_CTRL a.val) (withBits value 1 1 1) =
      true :=
  ⟨.core, 3, 1, up_ [], (by decide)⟩

theorem sequencer_control_commands_complete_seqResume_meets :
    ∃ (path : Path) (a : Act) (value : Word) (s : State), s.takes path (R.A_SEQ_CTRL a.val) (withBits value 1 1 0) =
      true :=
  ⟨.core, 3, 1, up_ [], (by decide)⟩

theorem sequencer_control_commands_complete_seqAttn_meets :
    ∃ (path : Path) (a : Act) (value : Word) (s : State), s.takes path (R.A_SEQ_CTRL a.val) (withBits value 2 1 1) =
      true :=
  ⟨.core, 3, 1, up_ [], (by decide)⟩

theorem sequencer_control_commands_complete_defSwap_meets :
    ∃ (path : Path) (a : Act) (value : Word) (s : State), s.takes path (R.A_SEQ_CTRL a.val) (withBits value 8 1 1) =
      true :=
  ⟨.core, 3, 1, up_ [], (by decide)⟩

theorem sequencer_control_commands_complete_meets :
    (∃ (a : Act) (s : State), s.sqState a.val = 0 ∧ s.flag (R.SEQ_CTRL_EN a.val) = true ∧ (s.sq a.val).patchDone =
      true ∧ s.inReset (.seq a.val) = false) ∧
    (∃ (a : Act) (n : Nat) (s : State), (∀ i : Fin 32, s.flag (R.SEQ_TRAP_VALID a.val i.val) = false)) :=
  ⟨⟨2, (up_ [(R.SEQ_CTRL_EN 2, 1)]).modSq 2 (fun q => { q with patchDone := true }), (by decide)⟩, ⟨2, 5, up_ [],
    (by decide)⟩⟩

theorem sequencer_control_commands_complete_microwordIssue_meets :
    (∃ (a : Act) (s : State), (s.sqState a.val ≠ 1 ∨ s.inReset (.seq a.val) = true)) ∧
    (∃ (a : Act) (s : State), s.sqState a.val = 1 ∧ s.inReset (.seq a.val) = false ∧ (s.sq a.val).wait = none ∧
      s.sqPc a.val < 0x3000) ∧
    (∃ (a : Act) (s : State), s.sqState a.val = 1 ∧ s.inReset (.seq a.val) = false ∧ (s.sq a.val).wait.isSome =
      true) :=
  ⟨⟨3, up_ [(R.SEQ_STAT_STATE 3, 2)], (by decide)⟩, ⟨3, up_ [(R.SEQ_STAT_STATE 3, 1)], (by decide)⟩, ⟨3, (up_
    [(R.SEQ_STAT_STATE 3, 1)]).modSq 3 (fun q => { q with wait := some ⟨0, 0, 0⟩ }), (by decide)⟩⟩

theorem sequencer_control_commands_complete_waitConditionMet_meets :
    (∃ (a : Act) (s : State), (s.sq a.val).wait = none) ∧
    (∃ (a : Act) (x : SeqWait) (s : State), (s.sq a.val).wait = some x ∧ s.mwHolds a.val x.word = true) ∧
    (∃ (a : Act) (x : SeqWait) (s : State), (s.sq a.val).wait = some x ∧ s.mwHolds a.val x.word = false) :=
  ⟨⟨1, up_ [], (by decide)⟩, ⟨1, ⟨0, 4, 0⟩, (up_ []).modSq 1 (fun q => { q with wait := some ⟨0, 4, 0⟩ }),
    (by decide)⟩, ⟨1, ⟨0x1000000, 4, 0⟩, (up_ []).modSq 1 (fun q => { q with wait := some ⟨0x1000000, 4, 0⟩ }),
    (by decide)⟩⟩

theorem sequencer_control_commands_complete_waitTimeout_meets :
    (∃ (a : Act) (x : SeqWait) (s : State), (s.sq a.val).wait = some x ∧ s.mwHolds a.val x.word = false ∧ mwTmo
      x.word ≠ 0 ∧ 16 * mwTmo x.word ≤ s.sqClocks a.val) ∧
    (∃ (a : Act) (x : SeqWait) (s : State), (s.sq a.val).wait = some x ∧ mwTmo x.word = 0) ∧
    (∃ (a : Act) (s : State), (s.sq a.val).wait = none) :=
  ⟨⟨1, ⟨0x1000000 + 2 ^ 96, 4, 0⟩, (up_ []).modSq 1 (fun q => { q with wait := some ⟨0x1000000 + 2 ^ 96, 4, 0⟩ }),
    (by decide)⟩, ⟨1, ⟨0x1000000, 4, 0⟩, (up_ []).modSq 1 (fun q => { q with wait := some ⟨0x1000000, 4, 0⟩ }),
    (by decide)⟩, ⟨1, up_ [], (by decide)⟩⟩

theorem sequencer_control_commands_complete_wpTimeout_meets :
    (∃ (a : Act) (s : State), s.sqState a.val = 1 ∧ (s.sq a.val).wait = none ∧ s.get (R.SEQ_WP_LIMIT_LIMIT a.val) <
      (s.sq a.val).sincePoll) ∧
    (∃ (a : Act) (s : State), (s.sq a.val).wait = none ∧ (s.sq a.val).sincePoll ≤ s.get (R.SEQ_WP_LIMIT_LIMIT
      a.val)) :=
  ⟨⟨0, (up_ [(R.SEQ_STAT_STATE 0, 1), (R.SEQ_WP_LIMIT_LIMIT 0, 100)]).modSq 0 (fun q =>
    { q with sincePoll := 101 }), (by decide)⟩, ⟨0, (up_ [(R.SEQ_STAT_STATE 0, 1), (R.SEQ_WP_LIMIT_LIMIT 0,
    100)]).modSq 0 (fun q => { q with sincePoll := 100 }), (by decide)⟩⟩

theorem sequencer_control_commands_complete_defLookupDone_meets :
    (∃ (a : Act) (s : State), (s.sq a.val).lookup = none) ∧
    (∃ (a : Act) (l : SeqLookup) (s : State), (s.sq a.val).lookup = some l ∧ l.count = 0) :=
  ⟨⟨1, up_ [], (by decide)⟩, ⟨1, ⟨5, 0, 0, 0⟩, (up_ []).modSq 1 (fun q => { q with lookup := some ⟨5, 0, 0, 0⟩ }),
    (by decide)⟩⟩

theorem sequencer_next_address_complete_opCont_meets :
    ∃ (a : Act) (w : BitVec 128) (s : State), s.issues a.val (mwSetNop w.toNat 0) = true ∧ (s.sqAlu a.val (mwSetNop
      w.toNat 0)).1 = true :=
  ⟨1, 0, (up_ [(R.SEQ_STAT_STATE 1, 1), (R.SEQ_STAT_PC 1, 16)]), (by decide)⟩

theorem sequencer_next_address_complete_opJump_meets :
    ∃ (a : Act) (w : BitVec 128) (s : State), s.issues a.val (mwSetNop w.toNat 1) = true ∧ (s.sqAlu a.val (mwSetNop
      w.toNat 1)).1 = true :=
  ⟨1, 5, (up_ [(R.SEQ_STAT_STATE 1, 1), (R.SEQ_STAT_PC 1, 16)]), (by decide)⟩

theorem sequencer_next_address_complete_opBr_meets :
    (∃ (a : Act) (w : BitVec 128) (s : State), s.issues a.val (mwSetNop w.toNat 2) = true ∧ (s.sqAlu a.val (mwSetNop
      w.toNat 2)).1 = true ∧ s.mwHolds a.val (mwSetNop w.toNat 2) = true) ∧
    (∃ (a : Act) (w : BitVec 128) (s : State), s.issues a.val (mwSetNop w.toNat 2) = true ∧ (s.sqAlu a.val (mwSetNop
      w.toNat 2)).1 = true ∧ s.mwHolds a.val (mwSetNop w.toNat 2) = false) :=
  ⟨⟨1, 5, (up_ [(R.SEQ_STAT_STATE 1, 1), (R.SEQ_STAT_PC 1, 16)]), (by decide)⟩, ⟨1, 0x1000000, (up_
    [(R.SEQ_STAT_STATE 1, 1), (R.SEQ_STAT_PC 1, 16)]), (by decide)⟩⟩

theorem sequencer_next_address_complete_opCall_meets :
    (∃ (a : Act) (w : BitVec 128) (s : State), s.issues a.val (mwSetNop w.toNat 3) = true ∧ (s.sqAlu a.val (mwSetNop
      w.toNat 3)).1 = true ∧ (((s.sqAlu a.val (mwSetNop w.toNat 3)).2.sqFormat a.val (mwSetNop w.toNat 3)).sq
      a.val).stack.length < 16) ∧
    (∃ (a : Act) (w : BitVec 128) (s : State), s.issues a.val (mwSetNop w.toNat 3) = true ∧ (s.sqAlu a.val (mwSetNop
      w.toNat 3)).1 = true ∧ 16 ≤ (((s.sqAlu a.val (mwSetNop w.toNat 3)).2.sqFormat a.val (mwSetNop w.toNat 3)).sq
      a.val).stack.length) :=
  ⟨⟨1, 5, (up_ [(R.SEQ_STAT_STATE 1, 1), (R.SEQ_STAT_PC 1, 16)]), (by decide)⟩, ⟨1, 5, ((up_ [(R.SEQ_STAT_STATE 1,
    1), (R.SEQ_STAT_PC 1, 16)]).modSq 1 (fun q => { q with stack := List.replicate 16 0 })), (by decide)⟩⟩

theorem sequencer_next_address_complete_brcall_meets :
    (∃ (a : Act) (w : BitVec 128) (s : State), s.issues a.val (mwSetNop w.toNat 4) = true ∧ (s.sqAlu a.val (mwSetNop
      w.toNat 4)).1 = true ∧ s.mwHolds a.val (mwSetNop w.toNat 4) = true ∧ (((s.sqAlu a.val (mwSetNop w.toNat
      4)).2.sqFormat a.val (mwSetNop w.toNat 4)).sq a.val).stack.length < 16) ∧
    (∃ (a : Act) (w : BitVec 128) (s : State), s.issues a.val (mwSetNop w.toNat 4) = true ∧ (s.sqAlu a.val (mwSetNop
      w.toNat 4)).1 = true ∧ s.mwHolds a.val (mwSetNop w.toNat 4) = false) :=
  ⟨⟨1, 5, (up_ [(R.SEQ_STAT_STATE 1, 1), (R.SEQ_STAT_PC 1, 16)]), (by decide)⟩, ⟨1, 0x1000000, (up_
    [(R.SEQ_STAT_STATE 1, 1), (R.SEQ_STAT_PC 1, 16)]), (by decide)⟩⟩

theorem sequencer_next_address_complete_opRet_meets :
    (∃ (a : Act) (w : BitVec 128) (s : State), s.issues a.val (mwSetNop w.toNat 5) = true ∧ (s.sqAlu a.val (mwSetNop
      w.toNat 5)).1 = true ∧ (((s.sqAlu a.val (mwSetNop w.toNat 5)).2.sqFormat a.val (mwSetNop w.toNat 5)).sq
      a.val).stack ≠ []) ∧
    (∃ (a : Act) (w : BitVec 128) (s : State), s.issues a.val (mwSetNop w.toNat 5) = true ∧ (s.sqAlu a.val (mwSetNop
      w.toNat 5)).1 = true ∧ (((s.sqAlu a.val (mwSetNop w.toNat 5)).2.sqFormat a.val (mwSetNop w.toNat 5)).sq
      a.val).stack = []) :=
  ⟨⟨1, 5, ((up_ [(R.SEQ_STAT_STATE 1, 1), (R.SEQ_STAT_PC 1, 16)]).modSq 1 (fun q =>
    { q with stack := List.replicate 16 0 })), (by decide)⟩, ⟨1, 5, (up_ [(R.SEQ_STAT_STATE 1, 1), (R.SEQ_STAT_PC 1,
    16)]), (by decide)⟩⟩

theorem sequencer_next_address_complete_brret_meets :
    (∃ (a : Act) (w : BitVec 128) (s : State), s.issues a.val (mwSetNop w.toNat 6) = true ∧ (s.sqAlu a.val (mwSetNop
      w.toNat 6)).1 = true ∧ s.mwHolds a.val (mwSetNop w.toNat 6) = true ∧ (((s.sqAlu a.val (mwSetNop w.toNat
      6)).2.sqFormat a.val (mwSetNop w.toNat 6)).sq a.val).stack ≠ []) ∧
    (∃ (a : Act) (w : BitVec 128) (s : State), s.issues a.val (mwSetNop w.toNat 6) = true ∧ (s.sqAlu a.val (mwSetNop
      w.toNat 6)).1 = true ∧ s.mwHolds a.val (mwSetNop w.toNat 6) = false) :=
  ⟨⟨1, 5, ((up_ [(R.SEQ_STAT_STATE 1, 1), (R.SEQ_STAT_PC 1, 16)]).modSq 1 (fun q =>
    { q with stack := List.replicate 16 0 })), (by decide)⟩, ⟨1, 0x1000000, (up_ [(R.SEQ_STAT_STATE 1, 1),
    (R.SEQ_STAT_PC 1, 16)]), (by decide)⟩⟩

theorem sequencer_next_address_complete_opDisp_meets :
    ∃ (a : Act) (w : BitVec 128) (s : State), s.issues a.val (mwSetNop w.toNat 7) = true ∧ (s.sqAlu a.val (mwSetNop
      w.toNat 7)).1 = true :=
  ⟨1, 5, (up_ [(R.SEQ_STAT_STATE 1, 1), (R.SEQ_STAT_PC 1, 16)]), (by decide)⟩

theorem sequencer_next_address_complete_opLoop_meets :
    (∃ (a : Act) (w : BitVec 128) (s : State), s.issues a.val (mwSetNop w.toNat 8) = true ∧ (s.sqAlu a.val (mwSetNop
      w.toNat 8)).1 = true ∧ (((s.sqAlu a.val (mwSetNop w.toNat 8)).2.sqFormat a.val (mwSetNop w.toNat 8)).sq
      a.val).lc = 0) ∧
    (∃ (a : Act) (w : BitVec 128) (s : State), s.issues a.val (mwSetNop w.toNat 8) = true ∧ (s.sqAlu a.val (mwSetNop
      w.toNat 8)).1 = true ∧ 0 < (((s.sqAlu a.val (mwSetNop w.toNat 8)).2.sqFormat a.val (mwSetNop w.toNat 8)).sq
      a.val).lc) :=
  ⟨⟨1, 5, (up_ [(R.SEQ_STAT_STATE 1, 1), (R.SEQ_STAT_PC 1, 16)]), (by decide)⟩, ⟨1, 5, ((up_ [(R.SEQ_STAT_STATE 1,
    1), (R.SEQ_STAT_PC 1, 16)]).modSq 1 (fun q => { q with lc := 3 })), (by decide)⟩⟩

theorem sequencer_next_address_complete_opWait_meets :
    (∃ (a : Act) (w : BitVec 128) (s : State), s.issues a.val (mwSetNop w.toNat 9) = true ∧ (s.sqAlu a.val (mwSetNop
      w.toNat 9)).1 = true ∧ s.mwHolds a.val (mwSetNop w.toNat 9) = true) ∧
    (∃ (a : Act) (w : BitVec 128) (s : State), s.issues a.val (mwSetNop w.toNat 9) = true ∧ (s.sqAlu a.val (mwSetNop
      w.toNat 9)).1 = true ∧ s.mwHolds a.val (mwSetNop w.toNat 9) = false ∧ mwWp (mwSetNop w.toNat 9) = false) ∧
    (∃ (a : Act) (w : BitVec 128) (s : State), s.issues a.val (mwSetNop w.toNat 9) = true ∧ (s.sqAlu a.val (mwSetNop
      w.toNat 9)).1 = true ∧ s.mwHolds a.val (mwSetNop w.toNat 9) = false ∧ mwWp (mwSetNop w.toNat 9) = true) :=
  ⟨⟨1, 5, (up_ [(R.SEQ_STAT_STATE 1, 1), (R.SEQ_STAT_PC 1, 16)]), (by decide)⟩, ⟨1, 0x1000000, (up_
    [(R.SEQ_STAT_STATE 1, 1), (R.SEQ_STAT_PC 1, 16)]), (by decide)⟩, ⟨1, 0x3000000, (up_ [(R.SEQ_STAT_STATE 1, 1),
    (R.SEQ_STAT_PC 1, 16)]), (by decide)⟩⟩

theorem sequencer_next_address_complete_opHalt_meets :
    ∃ (a : Act) (w : BitVec 128) (s : State), s.issues a.val (mwSetNop w.toNat 10) = true ∧ (s.sqAlu a.val (mwSetNop
      w.toNat 10)).1 = true :=
  ⟨1, 0, (up_ [(R.SEQ_STAT_STATE 1, 1), (R.SEQ_STAT_PC 1, 16)]), (by decide)⟩

theorem sequencer_next_address_complete_meets :
    (∃ (a : Act) (w : Nat) (s : State), s.sqState a.val = 1 ∧ (s.sq a.val).wait = none ∧ s.inReset (.seq a.val) =
      false ∧ mwIllegal w = true) ∧
    (∃ (a : Act) (w : Nat) (s : State), s.sqState a.val ≠ 1) :=
  ⟨⟨1, 0x3C000, (up_ [(R.SEQ_STAT_STATE 1, 1), (R.SEQ_STAT_PC 1, 16)]), (by decide)⟩, ⟨1, 0, up_ [], (by decide)⟩⟩

theorem sequencer_alu_complete_opMov_meets :
    ∃ (a : Act) (w : BitVec 128) (s : State), s.issues a.val (mwSetAlu w.toNat 1) = true :=
  ⟨1, 0x40000000000, (up_ [(R.SEQ_STAT_STATE 1, 1), (R.SEQ_STAT_PC 1, 16)]), (by decide)⟩

theorem sequencer_alu_complete_opAdd_meets :
    ∃ (a : Act) (w : BitVec 128) (s : State), s.issues a.val (mwSetAlu w.toNat 2) = true :=
  ⟨1, 0x40000000000, (up_ [(R.SEQ_STAT_STATE 1, 1), (R.SEQ_STAT_PC 1, 16)]), (by decide)⟩

theorem sequencer_alu_complete_opSub_meets :
    ∃ (a : Act) (w : BitVec 128) (s : State), s.issues a.val (mwSetAlu w.toNat 3) = true :=
  ⟨1, 0x40000000000, (up_ [(R.SEQ_STAT_STATE 1, 1), (R.SEQ_STAT_PC 1, 16)]), (by decide)⟩

theorem sequencer_alu_complete_opAnd_meets :
    ∃ (a : Act) (w : BitVec 128) (s : State), s.issues a.val (mwSetAlu w.toNat 4) = true :=
  ⟨1, 0x40000000000, (up_ [(R.SEQ_STAT_STATE 1, 1), (R.SEQ_STAT_PC 1, 16)]), (by decide)⟩

theorem sequencer_alu_complete_opOr_meets :
    ∃ (a : Act) (w : BitVec 128) (s : State), s.issues a.val (mwSetAlu w.toNat 5) = true :=
  ⟨1, 0x40000000000, (up_ [(R.SEQ_STAT_STATE 1, 1), (R.SEQ_STAT_PC 1, 16)]), (by decide)⟩

theorem sequencer_alu_complete_opXor_meets :
    ∃ (a : Act) (w : BitVec 128) (s : State), s.issues a.val (mwSetAlu w.toNat 6) = true :=
  ⟨1, 0x40000000000, (up_ [(R.SEQ_STAT_STATE 1, 1), (R.SEQ_STAT_PC 1, 16)]), (by decide)⟩

theorem sequencer_alu_complete_opShl_meets :
    ∃ (a : Act) (w : BitVec 128) (s : State), s.issues a.val (mwSetAlu w.toNat 7) = true :=
  ⟨1, 0x40000000000, (up_ [(R.SEQ_STAT_STATE 1, 1), (R.SEQ_STAT_PC 1, 16)]), (by decide)⟩

theorem sequencer_alu_complete_opShr_meets :
    ∃ (a : Act) (w : BitVec 128) (s : State), s.issues a.val (mwSetAlu w.toNat 8) = true :=
  ⟨1, 0x40000000000, (up_ [(R.SEQ_STAT_STATE 1, 1), (R.SEQ_STAT_PC 1, 16)]), (by decide)⟩

theorem sequencer_alu_complete_opCmp_meets :
    ∃ (a : Act) (w : BitVec 128) (s : State), s.issues a.val (mwSetAlu w.toNat 9) = true :=
  ⟨1, 0, (up_ [(R.SEQ_STAT_STATE 1, 1), (R.SEQ_STAT_PC 1, 16)]), (by decide)⟩

theorem sequencer_alu_complete_ldlc_meets :
    ∃ (a : Act) (w : BitVec 128) (s : State), s.issues a.val (mwSetAlu w.toNat 10) = true :=
  ⟨1, 0, (up_ [(R.SEQ_STAT_STATE 1, 1), (R.SEQ_STAT_PC 1, 16)]), (by decide)⟩

theorem sequencer_alu_complete_ldhs_meets :
    (∃ (a : Act) (w : BitVec 128) (s : State), s.issues a.val (mwSetAlu w.toNat 11) = true ∧ (s.sqB a.val (mwSetAlu
      w.toNat 11)) % 8 ≤ 5) ∧
    (∃ (a : Act) (w : BitVec 128) (s : State), s.issues a.val (mwSetAlu w.toNat 11) = true ∧ 5 < (s.sqB a.val
      (mwSetAlu w.toNat 11)) % 8) :=
  ⟨⟨1, 0, (up_ [(R.SEQ_STAT_STATE 1, 1), (R.SEQ_STAT_PC 1, 16)]), (by decide)⟩, ⟨1, 0x40000000000 + 7 * 2 ^ 64, (up_
    [(R.SEQ_STAT_STATE 1, 1), (R.SEQ_STAT_PC 1, 16)]), (by decide)⟩⟩

theorem sequencer_formatter_complete_taskPop_meets :
    (∃ (a : Act) (w : BitVec 128) (s : State), s.issues a.val (mwSetFcmd w.toNat 1) = true ∧ (s.sqAlu a.val
      (mwSetFcmd w.toNat 1)).1 = true ∧ ((s.sqAlu a.val (mwSetFcmd w.toNat 1)).2.sq a.val).tasks = []) ∧
    (∃ (a : Act) (w : BitVec 128) (s : State), s.issues a.val (mwSetFcmd w.toNat 1) = true ∧ (s.sqAlu a.val
      (mwSetFcmd w.toNat 1)).1 = true ∧ ((s.sqAlu a.val (mwSetFcmd w.toNat 1)).2.sq a.val).tasks ≠ []) :=
  ⟨⟨1, 0, (up_ [(R.SEQ_STAT_STATE 1, 1), (R.SEQ_STAT_PC 1, 16)]), (by decide)⟩, ⟨1, 0, ((up_ [(R.SEQ_STAT_STATE 1,
    1), (R.SEQ_STAT_PC 1, 16)]).modSq 1 (fun q => { q with tasks := [[1, 2, 3, 4]] })), (by decide)⟩⟩

theorem sequencer_formatter_complete_donePush_meets :
    (∃ (a : Act) (w : BitVec 128) (s : State), s.issues a.val (mwSetFcmd w.toNat 2) = true ∧ (s.sqAlu a.val
      (mwSetFcmd w.toNat 2)).1 = true ∧ ((s.sqAlu a.val (mwSetFcmd w.toNat 2)).2.sq a.val).done.length < 64) ∧
    (∃ (a : Act) (w : BitVec 128) (s : State), s.issues a.val (mwSetFcmd w.toNat 2) = true ∧ (s.sqAlu a.val
      (mwSetFcmd w.toNat 2)).1 = true ∧ 64 ≤ ((s.sqAlu a.val (mwSetFcmd w.toNat 2)).2.sq a.val).done.length) :=
  ⟨⟨1, 0, (up_ [(R.SEQ_STAT_STATE 1, 1), (R.SEQ_STAT_PC 1, 16)]), (by decide)⟩, ⟨1, 0, ((up_ [(R.SEQ_STAT_STATE 1,
    1), (R.SEQ_STAT_PC 1, 16)]).modSq 1 (fun q => { q with done := List.replicate 64 [] })), (by decide)⟩⟩

theorem sequencer_formatter_complete_armRead_meets :
    (∃ (a : Act) (w : BitVec 128) (s : State), s.issues a.val (mwSetFcmd w.toNat 3) = true ∧ (s.sqAlu a.val
      (mwSetFcmd w.toNat 3)).1 = true ∧ (s.sqAlu a.val (mwSetFcmd w.toNat 3)).2.slipAt (armAddr ((s.sqAlu a.val
      (mwSetFcmd w.toNat 3)).2.mwHeadOf a.val (mwSetFcmd w.toNat 3)) (armOf .read ((s.sqAlu a.val (mwSetFcmd w.toNat
      3)).2.octW a.val (mwFoct (mwSetFcmd w.toNat 3)) 0) ((s.sqAlu a.val (mwSetFcmd w.toNat 3)).2.octW a.val (mwFoct
      (mwSetFcmd w.toNat 3)) 1) ((s.sqAlu a.val (mwSetFcmd w.toNat 3)).2.octW a.val (mwFoct (mwSetFcmd w.toNat 3))
      2) ((s.sqAlu a.val (mwSetFcmd w.toNat 3)).2.octW a.val (mwFoct (mwSetFcmd w.toNat 3)) 3) ((s.sqAlu a.val
      (mwSetFcmd w.toNat 3)).2.octW a.val (mwFoct (mwSetFcmd w.toNat 3)) 4))) = true) ∧
    (∃ (a : Act) (w : BitVec 128) (s : State), s.issues a.val (mwSetFcmd w.toNat 3) = true ∧ (s.sqAlu a.val
      (mwSetFcmd w.toNat 3)).1 = true ∧ (s.sqAlu a.val (mwSetFcmd w.toNat 3)).2.slipAt (armAddr ((s.sqAlu a.val
      (mwSetFcmd w.toNat 3)).2.mwHeadOf a.val (mwSetFcmd w.toNat 3)) (armOf .read ((s.sqAlu a.val (mwSetFcmd w.toNat
      3)).2.octW a.val (mwFoct (mwSetFcmd w.toNat 3)) 0) ((s.sqAlu a.val (mwSetFcmd w.toNat 3)).2.octW a.val (mwFoct
      (mwSetFcmd w.toNat 3)) 1) ((s.sqAlu a.val (mwSetFcmd w.toNat 3)).2.octW a.val (mwFoct (mwSetFcmd w.toNat 3))
      2) ((s.sqAlu a.val (mwSetFcmd w.toNat 3)).2.octW a.val (mwFoct (mwSetFcmd w.toNat 3)) 3) ((s.sqAlu a.val
      (mwSetFcmd w.toNat 3)).2.octW a.val (mwFoct (mwSetFcmd w.toNat 3)) 4))) = false ∧ ((s.sqAlu a.val (mwSetFcmd
      w.toNat 3)).2.head ((s.sqAlu a.val (mwSetFcmd w.toNat 3)).2.mwHeadOf a.val (mwSetFcmd w.toNat 3))).arms.length
      < 8) ∧
    (∃ (a : Act) (w : BitVec 128) (s : State), s.issues a.val (mwSetFcmd w.toNat 3) = true ∧ (s.sqAlu a.val
      (mwSetFcmd w.toNat 3)).1 = true ∧ (s.sqAlu a.val (mwSetFcmd w.toNat 3)).2.slipAt (armAddr ((s.sqAlu a.val
      (mwSetFcmd w.toNat 3)).2.mwHeadOf a.val (mwSetFcmd w.toNat 3)) (armOf .read ((s.sqAlu a.val (mwSetFcmd w.toNat
      3)).2.octW a.val (mwFoct (mwSetFcmd w.toNat 3)) 0) ((s.sqAlu a.val (mwSetFcmd w.toNat 3)).2.octW a.val (mwFoct
      (mwSetFcmd w.toNat 3)) 1) ((s.sqAlu a.val (mwSetFcmd w.toNat 3)).2.octW a.val (mwFoct (mwSetFcmd w.toNat 3))
      2) ((s.sqAlu a.val (mwSetFcmd w.toNat 3)).2.octW a.val (mwFoct (mwSetFcmd w.toNat 3)) 3) ((s.sqAlu a.val
      (mwSetFcmd w.toNat 3)).2.octW a.val (mwFoct (mwSetFcmd w.toNat 3)) 4))) = false ∧ 8 ≤ ((s.sqAlu a.val
      (mwSetFcmd w.toNat 3)).2.head ((s.sqAlu a.val (mwSetFcmd w.toNat 3)).2.mwHeadOf a.val (mwSetFcmd w.toNat
      3))).arms.length) :=
  ⟨⟨1, 0, { (up_ [(R.SEQ_STAT_STATE 1, 1), (R.SEQ_STAT_PC 1, 16)]) with grown := [(physAddr 6 0 0, 0, 0)] },
    (by decide)⟩, ⟨1, 0, (up_ [(R.SEQ_STAT_STATE 1, 1), (R.SEQ_STAT_PC 1, 16)]), (by decide)⟩, ⟨1, 0, ((up_
    [(R.SEQ_STAT_STATE 1, 1), (R.SEQ_STAT_PC 1, 16)]).modHead 6 (fun x =>
    { x with arms := List.replicate 8 ⟨.write, 10, 5, 1, false, 7, 0, false⟩ })), (by decide)⟩⟩

theorem sequencer_formatter_complete_armWrite_meets :
    (∃ (a : Act) (w : BitVec 128) (s : State), s.issues a.val (mwSetFcmd w.toNat 4) = true ∧ (s.sqAlu a.val
      (mwSetFcmd w.toNat 4)).1 = true ∧ (s.sqAlu a.val (mwSetFcmd w.toNat 4)).2.slipAt (armAddr ((s.sqAlu a.val
      (mwSetFcmd w.toNat 4)).2.mwHeadOf a.val (mwSetFcmd w.toNat 4)) (armOf .write ((s.sqAlu a.val (mwSetFcmd
      w.toNat 4)).2.octW a.val (mwFoct (mwSetFcmd w.toNat 4)) 0) ((s.sqAlu a.val (mwSetFcmd w.toNat 4)).2.octW a.val
      (mwFoct (mwSetFcmd w.toNat 4)) 1) ((s.sqAlu a.val (mwSetFcmd w.toNat 4)).2.octW a.val (mwFoct (mwSetFcmd
      w.toNat 4)) 2) ((s.sqAlu a.val (mwSetFcmd w.toNat 4)).2.octW a.val (mwFoct (mwSetFcmd w.toNat 4)) 3) ((s.sqAlu
      a.val (mwSetFcmd w.toNat 4)).2.octW a.val (mwFoct (mwSetFcmd w.toNat 4)) 4))) = true) ∧
    (∃ (a : Act) (w : BitVec 128) (s : State), s.issues a.val (mwSetFcmd w.toNat 4) = true ∧ (s.sqAlu a.val
      (mwSetFcmd w.toNat 4)).1 = true ∧ (s.sqAlu a.val (mwSetFcmd w.toNat 4)).2.slipAt (armAddr ((s.sqAlu a.val
      (mwSetFcmd w.toNat 4)).2.mwHeadOf a.val (mwSetFcmd w.toNat 4)) (armOf .write ((s.sqAlu a.val (mwSetFcmd
      w.toNat 4)).2.octW a.val (mwFoct (mwSetFcmd w.toNat 4)) 0) ((s.sqAlu a.val (mwSetFcmd w.toNat 4)).2.octW a.val
      (mwFoct (mwSetFcmd w.toNat 4)) 1) ((s.sqAlu a.val (mwSetFcmd w.toNat 4)).2.octW a.val (mwFoct (mwSetFcmd
      w.toNat 4)) 2) ((s.sqAlu a.val (mwSetFcmd w.toNat 4)).2.octW a.val (mwFoct (mwSetFcmd w.toNat 4)) 3) ((s.sqAlu
      a.val (mwSetFcmd w.toNat 4)).2.octW a.val (mwFoct (mwSetFcmd w.toNat 4)) 4))) = false ∧ ((s.sqAlu a.val
      (mwSetFcmd w.toNat 4)).2.head ((s.sqAlu a.val (mwSetFcmd w.toNat 4)).2.mwHeadOf a.val (mwSetFcmd w.toNat
      4))).arms.length < 8) ∧
    (∃ (a : Act) (w : BitVec 128) (s : State), s.issues a.val (mwSetFcmd w.toNat 4) = true ∧ (s.sqAlu a.val
      (mwSetFcmd w.toNat 4)).1 = true ∧ (s.sqAlu a.val (mwSetFcmd w.toNat 4)).2.slipAt (armAddr ((s.sqAlu a.val
      (mwSetFcmd w.toNat 4)).2.mwHeadOf a.val (mwSetFcmd w.toNat 4)) (armOf .write ((s.sqAlu a.val (mwSetFcmd
      w.toNat 4)).2.octW a.val (mwFoct (mwSetFcmd w.toNat 4)) 0) ((s.sqAlu a.val (mwSetFcmd w.toNat 4)).2.octW a.val
      (mwFoct (mwSetFcmd w.toNat 4)) 1) ((s.sqAlu a.val (mwSetFcmd w.toNat 4)).2.octW a.val (mwFoct (mwSetFcmd
      w.toNat 4)) 2) ((s.sqAlu a.val (mwSetFcmd w.toNat 4)).2.octW a.val (mwFoct (mwSetFcmd w.toNat 4)) 3) ((s.sqAlu
      a.val (mwSetFcmd w.toNat 4)).2.octW a.val (mwFoct (mwSetFcmd w.toNat 4)) 4))) = false ∧ 8 ≤ ((s.sqAlu a.val
      (mwSetFcmd w.toNat 4)).2.head ((s.sqAlu a.val (mwSetFcmd w.toNat 4)).2.mwHeadOf a.val (mwSetFcmd w.toNat
      4))).arms.length) :=
  ⟨⟨1, 0, { (up_ [(R.SEQ_STAT_STATE 1, 1), (R.SEQ_STAT_PC 1, 16)]) with grown := [(physAddr 6 0 0, 0, 0)] },
    (by decide)⟩, ⟨1, 0, (up_ [(R.SEQ_STAT_STATE 1, 1), (R.SEQ_STAT_PC 1, 16)]), (by decide)⟩, ⟨1, 0, ((up_
    [(R.SEQ_STAT_STATE 1, 1), (R.SEQ_STAT_PC 1, 16)]).modHead 6 (fun x =>
    { x with arms := List.replicate 8 ⟨.write, 10, 5, 1, false, 7, 0, false⟩ })), (by decide)⟩⟩

theorem sequencer_formatter_complete_armVerify_meets :
    (∃ (a : Act) (w : BitVec 128) (s : State), s.issues a.val (mwSetFcmd w.toNat 5) = true ∧ (s.sqAlu a.val
      (mwSetFcmd w.toNat 5)).1 = true ∧ (s.sqAlu a.val (mwSetFcmd w.toNat 5)).2.slipAt (armAddr ((s.sqAlu a.val
      (mwSetFcmd w.toNat 5)).2.mwHeadOf a.val (mwSetFcmd w.toNat 5)) (armOf .verify ((s.sqAlu a.val (mwSetFcmd
      w.toNat 5)).2.octW a.val (mwFoct (mwSetFcmd w.toNat 5)) 0) ((s.sqAlu a.val (mwSetFcmd w.toNat 5)).2.octW a.val
      (mwFoct (mwSetFcmd w.toNat 5)) 1) ((s.sqAlu a.val (mwSetFcmd w.toNat 5)).2.octW a.val (mwFoct (mwSetFcmd
      w.toNat 5)) 2) ((s.sqAlu a.val (mwSetFcmd w.toNat 5)).2.octW a.val (mwFoct (mwSetFcmd w.toNat 5)) 3) ((s.sqAlu
      a.val (mwSetFcmd w.toNat 5)).2.octW a.val (mwFoct (mwSetFcmd w.toNat 5)) 4))) = true) ∧
    (∃ (a : Act) (w : BitVec 128) (s : State), s.issues a.val (mwSetFcmd w.toNat 5) = true ∧ (s.sqAlu a.val
      (mwSetFcmd w.toNat 5)).1 = true ∧ (s.sqAlu a.val (mwSetFcmd w.toNat 5)).2.slipAt (armAddr ((s.sqAlu a.val
      (mwSetFcmd w.toNat 5)).2.mwHeadOf a.val (mwSetFcmd w.toNat 5)) (armOf .verify ((s.sqAlu a.val (mwSetFcmd
      w.toNat 5)).2.octW a.val (mwFoct (mwSetFcmd w.toNat 5)) 0) ((s.sqAlu a.val (mwSetFcmd w.toNat 5)).2.octW a.val
      (mwFoct (mwSetFcmd w.toNat 5)) 1) ((s.sqAlu a.val (mwSetFcmd w.toNat 5)).2.octW a.val (mwFoct (mwSetFcmd
      w.toNat 5)) 2) ((s.sqAlu a.val (mwSetFcmd w.toNat 5)).2.octW a.val (mwFoct (mwSetFcmd w.toNat 5)) 3) ((s.sqAlu
      a.val (mwSetFcmd w.toNat 5)).2.octW a.val (mwFoct (mwSetFcmd w.toNat 5)) 4))) = false ∧ ((s.sqAlu a.val
      (mwSetFcmd w.toNat 5)).2.head ((s.sqAlu a.val (mwSetFcmd w.toNat 5)).2.mwHeadOf a.val (mwSetFcmd w.toNat
      5))).arms.length < 8) ∧
    (∃ (a : Act) (w : BitVec 128) (s : State), s.issues a.val (mwSetFcmd w.toNat 5) = true ∧ (s.sqAlu a.val
      (mwSetFcmd w.toNat 5)).1 = true ∧ (s.sqAlu a.val (mwSetFcmd w.toNat 5)).2.slipAt (armAddr ((s.sqAlu a.val
      (mwSetFcmd w.toNat 5)).2.mwHeadOf a.val (mwSetFcmd w.toNat 5)) (armOf .verify ((s.sqAlu a.val (mwSetFcmd
      w.toNat 5)).2.octW a.val (mwFoct (mwSetFcmd w.toNat 5)) 0) ((s.sqAlu a.val (mwSetFcmd w.toNat 5)).2.octW a.val
      (mwFoct (mwSetFcmd w.toNat 5)) 1) ((s.sqAlu a.val (mwSetFcmd w.toNat 5)).2.octW a.val (mwFoct (mwSetFcmd
      w.toNat 5)) 2) ((s.sqAlu a.val (mwSetFcmd w.toNat 5)).2.octW a.val (mwFoct (mwSetFcmd w.toNat 5)) 3) ((s.sqAlu
      a.val (mwSetFcmd w.toNat 5)).2.octW a.val (mwFoct (mwSetFcmd w.toNat 5)) 4))) = false ∧ 8 ≤ ((s.sqAlu a.val
      (mwSetFcmd w.toNat 5)).2.head ((s.sqAlu a.val (mwSetFcmd w.toNat 5)).2.mwHeadOf a.val (mwSetFcmd w.toNat
      5))).arms.length) :=
  ⟨⟨1, 0, { (up_ [(R.SEQ_STAT_STATE 1, 1), (R.SEQ_STAT_PC 1, 16)]) with grown := [(physAddr 6 0 0, 0, 0)] },
    (by decide)⟩, ⟨1, 0, (up_ [(R.SEQ_STAT_STATE 1, 1), (R.SEQ_STAT_PC 1, 16)]), (by decide)⟩, ⟨1, 0, ((up_
    [(R.SEQ_STAT_STATE 1, 1), (R.SEQ_STAT_PC 1, 16)]).modHead 6 (fun x =>
    { x with arms := List.replicate 8 ⟨.write, 10, 5, 1, false, 7, 0, false⟩ })), (by decide)⟩⟩

theorem sequencer_formatter_complete_opAbandon_meets :
    ∃ (a : Act) (w : BitVec 128) (s : State), s.issues a.val (mwSetFcmd w.toNat 6) = true ∧ (s.sqAlu a.val
      (mwSetFcmd w.toNat 6)).1 = true :=
  ⟨1, 0, (up_ [(R.SEQ_STAT_STATE 1, 1), (R.SEQ_STAT_PC 1, 16)]), (by decide)⟩

theorem sequencer_formatter_complete_loadZone_meets :
    ∃ (a : Act) (w : BitVec 128) (s : State), s.issues a.val (mwSetFcmd w.toNat 7) = true ∧ (s.sqAlu a.val
      (mwSetFcmd w.toNat 7)).1 = true :=
  ⟨1, 0, (up_ [(R.SEQ_STAT_STATE 1, 1), (R.SEQ_STAT_PC 1, 16)]), (by decide)⟩

theorem sequencer_formatter_complete_opSelect_meets :
    ∃ (a : Act) (w : BitVec 128) (s : State), s.issues a.val (mwSetFcmd w.toNat 8) = true ∧ (s.sqAlu a.val
      (mwSetFcmd w.toNat 8)).1 = true :=
  ⟨1, 0, (up_ [(R.SEQ_STAT_STATE 1, 1), (R.SEQ_STAT_PC 1, 16)]), (by decide)⟩

theorem sequencer_formatter_complete_opSeek_meets :
    ∃ (a : Act) (w : BitVec 128) (s : State), s.issues a.val (mwSetFcmd w.toNat 9) = true ∧ (s.sqAlu a.val
      (mwSetFcmd w.toNat 9)).1 = true :=
  ⟨1, 0, (up_ [(R.SEQ_STAT_STATE 1, 1), (R.SEQ_STAT_PC 1, 16)]), (by decide)⟩

theorem sequencer_formatter_complete_opTarget_meets :
    ∃ (a : Act) (w : BitVec 128) (s : State), s.issues a.val (mwSetFcmd w.toNat 10) = true ∧ (s.sqAlu a.val
      (mwSetFcmd w.toNat 10)).1 = true :=
  ⟨1, 0, (up_ [(R.SEQ_STAT_STATE 1, 1), (R.SEQ_STAT_PC 1, 16)]), (by decide)⟩

theorem sequencer_formatter_complete_defLookup_meets :
    ∃ (a : Act) (w : BitVec 128) (s : State), s.issues a.val (mwSetFcmd w.toNat 11) = true ∧ (s.sqAlu a.val
      (mwSetFcmd w.toNat 11)).1 = true :=
  ⟨1, 0, (up_ [(R.SEQ_STAT_STATE 1, 1), (R.SEQ_STAT_PC 1, 16)]), (by decide)⟩

theorem sequencer_formatter_complete_rptPop_meets :
    (∃ (a : Act) (w : BitVec 128) (s : State), s.issues a.val (mwSetFcmd w.toNat 12) = true ∧ (s.sqAlu a.val
      (mwSetFcmd w.toNat 12)).1 = true ∧ ((s.sqAlu a.val (mwSetFcmd w.toNat 12)).2.head ((s.sqAlu a.val (mwSetFcmd
      w.toNat 12)).2.mwHeadOf a.val (mwSetFcmd w.toNat 12))).reports = []) ∧
    (∃ (a : Act) (w : BitVec 128) (s : State), s.issues a.val (mwSetFcmd w.toNat 12) = true ∧ (s.sqAlu a.val
      (mwSetFcmd w.toNat 12)).1 = true ∧ ((s.sqAlu a.val (mwSetFcmd w.toNat 12)).2.head ((s.sqAlu a.val (mwSetFcmd
      w.toNat 12)).2.mwHeadOf a.val (mwSetFcmd w.toNat 12))).reports ≠ []) :=
  ⟨⟨1, 0, (up_ [(R.SEQ_STAT_STATE 1, 1), (R.SEQ_STAT_PC 1, 16)]), (by decide)⟩, ⟨1, 0, ((up_ [(R.SEQ_STAT_STATE 1,
    1), (R.SEQ_STAT_PC 1, 16)]).modHead 6 (fun x => { x with reports := [5] })), (by decide)⟩⟩

theorem darenlen_commands_complete_dlkEnable_meets :
    ∃ (path : Path) (a : Act) (value : Word) (s : State), s.takes path R.A_DLK_CTRL value = true :=
  ⟨.core, 0, 15, up_ [], (by decide)⟩

theorem darenlen_commands_complete_meets :
    (∃ (a : Act) (s : State), s.dlkState a.val = 0) ∧
    (∃ (a : Act) (f : DlkFrame) (s : State), 7 ≤ f.ty) ∧
    (∃ (a : Act) (f : DlkFrame) (q n t : Nat) (s : State), (s.link a.val).flight = some (f, q, n, t) ∧ s.dlkState
      a.val = 4) ∧
    (∃ (a : Act) (s : State), s.flag (R.DLK_L_PREG_RESP_BUSY a.val) = false ∧ s.dlkState a.val ≠ 4) ∧
    (∃ (a : Act) (s : State), s.flag (R.DLK_L_PREG_RESP_BUSY a.val) = false ∧ s.dlkState a.val = 4) :=
  ⟨⟨2, up_ [], (by decide)⟩, ⟨2, ⟨9, 0, 0, 0, 0, 5, .plain⟩, up_ [], (by decide)⟩, ⟨2, ⟨9, 0, 0, 0, 0, 5, .plain⟩,
    3, 1, 0, (up_ [(R.DLK_L_STAT_STATE 2, 4), (R.DLK_CFG_RSP_TMO, 10)]).modLink 2 (fun l =>
    { l with flight := some (⟨9, 0, 0, 0, 0, 5, .plain⟩, 3, 1, 0) }), (by decide)⟩, ⟨2, up_ [], (by decide)⟩, ⟨2,
    up_ [(R.DLK_L_STAT_STATE 2, 4)], (by decide)⟩⟩

theorem darenlen_commands_complete_dlkFrameSend_meets :
    (∃ (a : Act) (s : State), ((s.link a.val).flight.isSome = true ∨ s.dlkState a.val = 0 ∨ s.dlkState a.val = 1 ∨
      s.dlkState a.val = 5 ∨ s.dlkState a.val = 6)) ∧
    (∃ (a : Act) (s : State), s.dlkState a.val = 2 ∧ (s.link a.val).flight = none) ∧
    (∃ (a : Act) (f : DlkFrame) (r : List DlkFrame) (s : State), s.dlkState a.val = 3 ∧ (s.link a.val).flight = none
      ∧ (s.link a.val).load = f :: r) ∧
    (∃ (a : Act) (f : DlkFrame) (s : State), s.dlkState a.val = 4 ∧ (s.link a.val).flight = none ∧ (s.link
      a.val).offWaits = some f) ∧
    (∃ (a : Act) (f : DlkFrame) (s : State), s.dlkState a.val = 4 ∧ (s.link a.val).flight = none ∧ (s.link
      a.val).offWaits = none ∧ (s.link a.val).resend = [] ∧ pickFrame s.now s.rspTmo (s.link a.val).waiting = some
      f) ∧
    (∃ (a : Act) (e : DlkFrame × Nat × Nat) (s : State), s.dlkState a.val = 4 ∧ (s.link a.val).flight = none ∧
      (s.link a.val).waiting = [] ∧ (s.link a.val).resend = [e]) :=
  ⟨⟨2, up_ [], (by decide)⟩, ⟨2, up_ [(R.DLK_L_STAT_STATE 2, 2)], (by decide)⟩, ⟨2, ⟨9, 0, 0, 0, 0, 5, .plain⟩, [],
    (up_ [(R.DLK_L_STAT_STATE 2, 3)]).modLink 2 (fun l => { l with load := [⟨9, 0, 0, 0, 0, 5, .plain⟩] }),
    (by decide)⟩, ⟨2, ⟨6, 1, 0, 0, 0, 5, .plain⟩, (up_ [(R.DLK_L_STAT_STATE 2, 4)]).modLink 2 (fun l =>
    { l with waiting := [⟨9, 0, 0, 0, 0, 5, .plain⟩, ⟨6, 1, 0, 0, 0, 5, .plain⟩] }), (by decide)⟩, ⟨2, ⟨9, 0, 0, 0,
    0, 5, .plain⟩, (up_ [(R.DLK_L_STAT_STATE 2, 4)]).modLink 2 (fun l =>
    { l with waiting := [⟨9, 0, 0, 0, 0, 5, .plain⟩] }), (by decide)⟩, ⟨2, (⟨9, 0, 0, 0, 0, 5, .plain⟩, 3, 1), (up_
    [(R.DLK_L_STAT_STATE 2, 4)]).modLink 2 (fun l => { l with resend := [(⟨9, 0, 0, 0, 0, 5, .plain⟩, 3, 1)] }),
    (by decide)⟩⟩

theorem darenlen_commands_complete_dlkReply_meets :
    (∃ (a : Act) (xs : List LineSymbol) (s : State), (s.link a.val).flight = none) ∧
    (∃ (a : Act) (xs : List LineSymbol) (s : State), goodFrame (xs.map (fun x => x.toNat)) = none) ∧
    (∃ (a : Act) (xs : List LineSymbol) (bs : List Byte) (f : DlkFrame) (q n t : Nat) (s : State), (s.link
      a.val).flight = some (f, q, n, t) ∧ goodFrame (xs.map (fun x => x.toNat)) = some bs ∧ t + 2 * s.frameNs +
      s.rspTmo < s.now) ∧
    (∃ (a : Act) (xs : List LineSymbol) (bs : List Byte) (f : DlkFrame) (q n t : Nat) (s : State), (s.link
      a.val).flight = some (f, q, n, t) ∧ goodFrame (xs.map (fun x => x.toNat)) = some bs ∧ (((bs[0]?).getD 0).toNat
      % 16 ≠ f.ty ∨ ((bs[0]?).getD 0).toNat / 16 ≠ q)) ∧
    (∃ (a : Act) (xs : List LineSymbol) (bs : List Byte) (f : DlkFrame) (q n t : Nat) (s : State), (s.link
      a.val).flight = some (f, q, n, t) ∧ goodFrame (xs.map (fun x => x.toNat)) = some bs ∧ s.now ≤ t + 2 *
      s.frameNs + s.rspTmo ∧ ((bs[0]?).getD 0).toNat % 16 = f.ty ∧ ((bs[0]?).getD 0).toNat / 16 = q ∧ bitOf
      ((bs[2]?).getD 0).toNat 6 = false ∧ bitOf ((bs[2]?).getD 0).toNat 7 = false ∧ ((s.set (R.DLK_L_STAT_RTT a.val)
      (satN ((s.now - t) / 8) 255)).dlkEnded a.val).dlkState a.val = 4) :=
  ⟨⟨2, [], up_ [], (by decide)⟩, ⟨2, [1], (up_ [(R.DLK_L_STAT_STATE 2, 4), (R.DLK_CFG_RSP_TMO, 10)]).modLink 2 (fun
    l => { l with flight := some (⟨9, 0, 0, 0, 0, 5, .plain⟩, 3, 1, 0) }), (by decide)⟩, ⟨2, (frameSymbols false
    (frameBytes ⟨9, 0, 0, 0, 0, 5, .plain⟩ 3)).1.map (BitVec.ofNat 10), frameBytes ⟨9, 0, 0, 0, 0, 5, .plain⟩ 3, ⟨9,
    0, 0, 0, 0, 5, .plain⟩, 3, 1, 0, (up_ [(R.DLK_L_STAT_STATE 2, 4), (R.DLK_CFG_RSP_TMO, 10)]).modLink 2 (fun l =>
    { l with flight := some (⟨9, 0, 0, 0, 0, 5, .plain⟩, 3, 1, 0) }), (by decide)⟩, ⟨2, (frameSymbols false
    (frameBytes ⟨9, 0, 0, 0, 0, 5, .plain⟩ 4)).1.map (BitVec.ofNat 10), frameBytes ⟨9, 0, 0, 0, 0, 5, .plain⟩ 4, ⟨9,
    0, 0, 0, 0, 5, .plain⟩, 3, 1, 1000000, (up_ [(R.DLK_L_STAT_STATE 2, 4), (R.DLK_CFG_RSP_TMO, 10)]).modLink 2 (fun
    l => { l with flight := some (⟨9, 0, 0, 0, 0, 5, .plain⟩, 3, 1, 1000000) }), (by decide)⟩, ⟨2, (frameSymbols
    false (frameBytes ⟨9, 0, 0, 0, 0, 5, .plain⟩ 3)).1.map (BitVec.ofNat 10), frameBytes ⟨9, 0, 0, 0, 0, 5, .plain⟩
    3, ⟨9, 0, 0, 0, 0, 5, .plain⟩, 3, 1, 1000000, (up_ [(R.DLK_L_STAT_STATE 2, 4), (R.DLK_CFG_RSP_TMO, 10)]).modLink
    2 (fun l => { l with flight := some (⟨9, 0, 0, 0, 0, 5, .plain⟩, 3, 1, 1000000) }), (by decide)⟩⟩

theorem darenlen_commands_complete_dlkExchangeTimeout_meets :
    (∃ (a : Act) (s : State), (s.link a.val).flight = none) ∧
    (∃ (a : Act) (f : DlkFrame) (q n t : Nat) (s : State), (s.link a.val).flight = some (f, q, n, t) ∧ s.passed t
      ((if s.get R.DLK_CTRL_RATE = 1 then 128 else 64) + s.get R.DLK_CFG_RSP_TMO * 8) = true) ∧
    (∃ (a : Act) (f : DlkFrame) (q n t : Nat) (s : State), (s.link a.val).flight = some (f, q, n, t) ∧ s.passed t
      ((if s.get R.DLK_CTRL_RATE = 1 then 128 else 64) + s.get R.DLK_CFG_RSP_TMO * 8) = false) :=
  ⟨⟨2, up_ [], (by decide)⟩, ⟨2, ⟨9, 0, 0, 0, 0, 5, .plain⟩, 3, 1, 0, (up_ [(R.DLK_L_STAT_STATE 2, 4),
    (R.DLK_CFG_RSP_TMO, 10)]).modLink 2 (fun l => { l with flight := some (⟨9, 0, 0, 0, 0, 5, .plain⟩, 3, 1, 0) }),
    (by decide)⟩, ⟨2, ⟨9, 0, 0, 0, 0, 5, .plain⟩, 3, 1, 1000000, (up_ [(R.DLK_L_STAT_STATE 2, 4),
    (R.DLK_CFG_RSP_TMO, 10)]).modLink 2 (fun l =>
    { l with flight := some (⟨9, 0, 0, 0, 0, 5, .plain⟩, 3, 1, 1000000) }), (by decide)⟩⟩

theorem darenlen_commands_complete_dlkLinkDown_meets :
    (∃ (a : Act) (xs : List LineSymbol) (s : State), s.dlkState a.val = 4 ∧ s.lineBad (xs.map (fun x => x.toNat)) =
      true) ∧
    (∃ (a : Act) (xs : List LineSymbol) (s : State), (s.dlkState a.val ≠ 4 ∨ s.lineBad (xs.map (fun x => x.toNat)) =
      false)) :=
  ⟨⟨2, List.replicate 125 0, up_ [(R.DLK_L_STAT_STATE 2, 4)], (by decide +kernel)⟩, ⟨2, [], up_ [(R.DLK_L_STAT_STATE
    2, 4)], (by decide +kernel)⟩⟩

theorem darenlen_commands_complete_dlkAlignStart_meets :
    (∃ (a : Act) (s : State), s.dlkState a.val = 5 ∧ (s.link a.val).downAt + 60000 ≤ s.now) ∧
    (∃ (a : Act) (s : State), (s.dlkState a.val ≠ 5 ∨ s.now < (s.link a.val).downAt + 60000)) :=
  ⟨⟨2, on_ 60000 [(R.DLK_L_STAT_STATE 2, 5)], (by decide)⟩, ⟨2, on_ 59999 [(R.DLK_L_STAT_STATE 2, 5)], (by decide)⟩⟩

theorem darenlen_commands_complete_dlkAligned_meets :
    (∃ (a : Act) (xs : List LineSymbol) (s : State), s.dlkState a.val = 1 ∧ aligned (xs.map (fun x => x.toNat)) =
      true) ∧
    (∃ (a : Act) (xs : List LineSymbol) (s : State), (s.dlkState a.val ≠ 1 ∨ aligned (xs.map (fun x => x.toNat)) =
      false)) :=
  ⟨⟨2, (idles 64 false).map (BitVec.ofNat 10), on_ 0 [(R.DLK_L_STAT_STATE 2, 1)], (by decide)⟩, ⟨2, (idles 63
    false).map (BitVec.ofNat 10), on_ 0 [(R.DLK_L_STAT_STATE 2, 1)], (by decide)⟩⟩

theorem darenlen_commands_complete_dlkTrainTimeout_meets :
    (∃ (a : Act) (s : State), 1 ≤ s.dlkState a.val ∧ s.dlkState a.val ≤ 3 ∧ (s.link a.val).attemptAt + 2000000 ≤
      s.now) ∧
    (∃ (a : Act) (s : State), (s.dlkState a.val = 0 ∨ 4 ≤ s.dlkState a.val ∨ s.now < (s.link a.val).attemptAt +
      2000000)) :=
  ⟨⟨2, on_ 2000000 [(R.DLK_L_STAT_STATE 2, 3)], (by decide)⟩, ⟨2, on_ 1999999 [(R.DLK_L_STAT_STATE 2, 3)],
    (by decide)⟩⟩

theorem darenlen_commands_complete_dlkPing_meets :
    (∃ (a : Act) (s : State), s.dlkState a.val = 4 ∧ (s.link a.val).open = [] ∧ (s.link a.val).lastSent + s.get
      R.DLK_CFG_PING_T * 1000 ≤ s.now) ∧
    (∃ (a : Act) (s : State), (s.dlkState a.val ≠ 4 ∨ s.now < (s.link a.val).lastSent + s.get R.DLK_CFG_PING_T *
      1000)) :=
  ⟨⟨2, on_ 100000 [(R.DLK_L_STAT_STATE 2, 4), (R.DLK_CFG_PING_T, 100)], (by decide)⟩, ⟨2, on_ 99999
    [(R.DLK_L_STAT_STATE 2, 4), (R.DLK_CFG_PING_T, 100)], (by decide)⟩⟩

theorem darenlen_commands_complete_dlkFaultLine_meets :
    (∃ (a : Act) (low : Bool) (s : State), s.flag (R.DLK_L_STAT_FLT_LEVEL a.val) = low) ∧
    (∃ (a : Act) (s : State), s.flag (R.DLK_L_STAT_FLT_LEVEL a.val) = true) ∧
    (∃ (a : Act) (s : State), s.flag (R.DLK_L_STAT_FLT_LEVEL a.val) = false ∧ ((((s.setFlag (R.DLK_L_STAT_FLT_LEVEL
      a.val) true).sourceOnHeads (headsOf a.val) 7).fault .dlk a.val).dlkRecord a.val 4).dlkUp a.val = false) ∧
    (∃ (a : Act) (s : State), s.flag (R.DLK_L_STAT_FLT_LEVEL a.val) = false ∧ ((((s.setFlag (R.DLK_L_STAT_FLT_LEVEL
      a.val) true).sourceOnHeads (headsOf a.val) 7).fault .dlk a.val).dlkRecord a.val 4).dlkUp a.val = true) :=
  ⟨⟨2, true, up_ [(R.DLK_L_STAT_FLT_LEVEL 2, 1)], (by decide)⟩, ⟨2, up_ [(R.DLK_L_STAT_FLT_LEVEL 2, 1)],
    (by decide)⟩, ⟨2, up_ [(R.DLK_L_STAT_STATE 2, 3)], (by decide)⟩, ⟨2, up_ [(R.DLK_L_STAT_STATE 2, 4),
    (R.DLK_L_STAT_WSEL 2, 3)], (by decide)⟩⟩

theorem darenlen_commands_complete_dlkRselWrite_meets :
    (∃ (path : Path) (a : Act) (value : Word) (s : State), bitsOf (s.rd (R.A_DLK_L_RSEL a.val)).toNat 0 6 ≠ bitsOf
      value.toNat 0 6 ∧ s.takes path (R.A_DLK_L_RSEL a.val) value = true) ∧
    (∃ (path : Path) (a : Act) (value : Word) (s : State), bitsOf (s.rd (R.A_DLK_L_RSEL a.val)).toNat 0 6 = bitsOf
      value.toNat 0 6 ∧ s.takes path (R.A_DLK_L_RSEL a.val) value = true) :=
  ⟨⟨.core, 3, 1, up_ [], (by decide)⟩, ⟨.core, 3, 0, up_ [], (by decide)⟩⟩

theorem darenlen_commands_complete_dlkPregRead_meets :
    ∃ (path : Path) (a : Act) (value : Word) (s : State), s.takes path (R.A_DLK_L_PREG_CMD a.val) (withBits value 0
      2 1) = true :=
  ⟨.core, 3, 0, up_ [], (by decide)⟩

theorem darenlen_commands_complete_dlkPregWrite_meets :
    ∃ (path : Path) (a : Act) (value : Word) (s : State), s.takes path (R.A_DLK_L_PREG_CMD a.val) (withBits value 0
      2 2) = true :=
  ⟨.core, 3, 0, up_ [], (by decide)⟩

theorem depot_commands_complete_opAlloc_meets :
    (∃ (tag tag2 size : Nat) (climb : Bool) (s : State), s.flag R.DEP_RESP_STAT_BUSY = false ∧ s.get
      R.DEP_STAT_STATE = 1 ∧ s.inReset .dep = false) ∧
    (∃ (tag tag2 size : Nat) (climb : Bool) (s : State), s.get R.DEP_STAT_STATE = 1 ∧ s.inReset .dep = false) :=
  ⟨⟨0xC0, 0xC0, 4096, false, up_ [(R.DEP_STAT_STATE, 1)], (by decide)⟩, ⟨0xC0, 0xC0, 4096, false, up_
    [(R.DEP_STAT_STATE, 1)], (by decide)⟩⟩

theorem depot_commands_complete_opShare_meets :
    (∃ (tag handle tag2 : Nat) (s : State), s.flag R.DEP_RESP_STAT_BUSY = false ∧ s.get R.DEP_STAT_STATE = 1 ∧
      s.inReset .dep = false) ∧
    (∃ (tag handle tag2 : Nat) (s : State), s.get R.DEP_STAT_STATE = 1 ∧ s.inReset .dep = false) :=
  ⟨⟨0xC0, 5, 7, up_ [(R.DEP_STAT_STATE, 1)], (by decide)⟩, ⟨0xC0, 5, 7, up_ [(R.DEP_STAT_STATE, 1)], (by decide)⟩⟩

theorem depot_commands_complete_opRelease_meets :
    (∃ (tag handle : Nat) (s : State), s.flag R.DEP_RESP_STAT_BUSY = false ∧ s.get R.DEP_STAT_STATE = 1 ∧ s.inReset
      .dep = false) ∧
    (∃ (tag handle : Nat) (s : State), s.get R.DEP_STAT_STATE = 1 ∧ s.inReset .dep = false) :=
  ⟨⟨0xC0, 5, up_ [(R.DEP_STAT_STATE, 1)], (by decide)⟩, ⟨0xC0, 5, up_ [(R.DEP_STAT_STATE, 1)], (by decide)⟩⟩

theorem depot_commands_complete_opFree_meets :
    (∃ (tag handle : Nat) (s : State), s.flag R.DEP_RESP_STAT_BUSY = false ∧ s.get R.DEP_STAT_STATE = 1 ∧ s.inReset
      .dep = false) ∧
    (∃ (tag handle : Nat) (s : State), s.get R.DEP_STAT_STATE = 1 ∧ s.inReset .dep = false) ∧
    (∃ (tag handle : Nat) (s : State), s.get R.DEP_STAT_STATE ≠ 1) ∧
    (∃ (tag handle : Nat) (s : State), s.flag R.DEP_RESP_STAT_BUSY = true) :=
  ⟨⟨0xC0, 5, up_ [(R.DEP_STAT_STATE, 1)], (by decide)⟩, ⟨0xC0, 5, up_ [(R.DEP_STAT_STATE, 1)], (by decide)⟩, ⟨0xC0,
    5, up_ [], (by decide)⟩, ⟨0xC0, 5, up_ [(R.DEP_RESP_STAT_BUSY, 1)], (by decide)⟩⟩

theorem depot_commands_complete_opPass_meets :
    (∃ (tag handle tag2 : Nat) (s : State), s.flag R.DEP_RESP_STAT_BUSY = false ∧ s.get R.DEP_STAT_STATE = 1 ∧
      s.inReset .dep = false) ∧
    (∃ (tag handle tag2 : Nat) (s : State), s.get R.DEP_STAT_STATE = 1 ∧ s.inReset .dep = false) :=
  ⟨⟨0xC0, 5, 7, up_ [(R.DEP_STAT_STATE, 1)], (by decide)⟩, ⟨0xC0, 5, 7, up_ [(R.DEP_STAT_STATE, 1)], (by decide)⟩⟩

theorem depot_commands_complete_opMark_meets :
    (∃ (tag handle : Nat) (inv : Bool) (s : State), s.flag R.DEP_RESP_STAT_BUSY = false ∧ s.get R.DEP_STAT_STATE = 1
      ∧ s.inReset .dep = false) ∧
    (∃ (tag handle : Nat) (inv : Bool) (s : State), s.get R.DEP_STAT_STATE = 1 ∧ s.inReset .dep = false) :=
  ⟨⟨0xC0, 5, true, up_ [(R.DEP_STAT_STATE, 1)], (by decide)⟩, ⟨0xC0, 5, true, up_ [(R.DEP_STAT_STATE, 1)],
    (by decide)⟩⟩

theorem depot_commands_complete_opQuery_meets :
    (∃ (tag handle : Nat) (s : State), s.flag R.DEP_RESP_STAT_BUSY = false ∧ s.get R.DEP_STAT_STATE = 1 ∧ s.inReset
      .dep = false) ∧
    (∃ (tag handle : Nat) (s : State), s.get R.DEP_STAT_STATE = 1 ∧ s.inReset .dep = false) :=
  ⟨⟨0xC0, 5, up_ [(R.DEP_STAT_STATE, 1)], (by decide)⟩, ⟨0xC0, 5, up_ [(R.DEP_STAT_STATE, 1)], (by decide)⟩⟩

theorem depot_commands_complete_opRetire_meets :
    (∃ (tag handle : Nat) (s : State), s.flag R.DEP_RESP_STAT_BUSY = false ∧ s.get R.DEP_STAT_STATE = 1 ∧ s.inReset
      .dep = false) ∧
    (∃ (tag handle : Nat) (s : State), s.get R.DEP_STAT_STATE = 1 ∧ s.inReset .dep = false) :=
  ⟨⟨0xC0, 5, up_ [(R.DEP_STAT_STATE, 1)], (by decide)⟩, ⟨0xC0, 5, up_ [(R.DEP_STAT_STATE, 1)], (by decide)⟩⟩

theorem depot_commands_complete_opInit_meets :
    (∃ (tag pool : Nat) (s : State), s.flag R.DEP_RESP_STAT_BUSY = false ∧ s.get R.DEP_STAT_STATE = 1 ∧ s.inReset
      .dep = false) ∧
    (∃ (tag pool : Nat) (s : State), s.get R.DEP_STAT_STATE = 1 ∧ s.inReset .dep = false) :=
  ⟨⟨0xC0, 3, up_ [(R.DEP_STAT_STATE, 1)], (by decide)⟩, ⟨0xC0, 3, up_ [(R.DEP_STAT_STATE, 1)], (by decide)⟩⟩

theorem depot_commands_complete_meets :
    (∃ (q : DepReq) (s : State), (q.op = 0 ∨ 9 < q.op)) ∧
    (∃ (q : DepReq) (s : State), q.op = 1 ∧ tagOk q.tag2 = true ∧ (q.arg = 0 ∨ 2097152 < q.arg)) ∧
    (∃ (q : DepReq) (s : State), (q.op = 3 ∨ q.op = 4) ∧ s.handleIn q.arg = false) ∧
    (∃ (q : DepReq) (e : Nat) (s : State), (q.op = 6 ∨ q.op = 7) ∧ s.handleIn q.arg = true ∧ (s.entryRead (hPool
      q.arg) (hIndex q.arg)).1 = some e ∧ handleCode q.op q.tag q.tag2 q.arg e ≠ 0) ∧
    (∃ (s : State), (s.get R.MEM_STAT_STATE = 2 ∨ s.get R.MEM_STAT_STATE = 3) ∧ s.get R.DEP_STAT_STATE = 0) ∧
    (∃ (s : State), s.get R.MEM_STAT_STATE ≠ 2 ∧ s.get R.MEM_STAT_STATE ≠ 3) :=
  ⟨⟨⟨10, 0xC0, 0, 0, false, false, 0, false⟩, up_ [], (by decide)⟩, ⟨⟨1, 0xC0, 0, 2097153, false, false, 0, false⟩,
    up_ [], (by decide)⟩, ⟨⟨4, 0xC0, 0, 0, false, false, 0, false⟩, up_ [], (by decide)⟩, ⟨⟨6, 0xC0, 0, 0, false,
    false, 0, false⟩, 0, (up_ [(R.DEP_STAT_POOLS_READY, 1), (R.DEP_P_COUNT_COUNT 0, 4), (R.MEM_STAT_STATE, 2),
    (R.MEM_DATA_TOP_TOP_MIB, 7168)]), (by decide)⟩, ⟨up_ [(R.MEM_STAT_STATE, 2)], (by decide)⟩, ⟨up_
    [(R.MEM_STAT_STATE, 4)], (by decide)⟩⟩

theorem depot_commands_complete_depotEnable_meets :
    ∃ (path : Path) (value : Word) (s : State), bitOf (s.rd R.A_DEP_CTRL).toNat 0 = false ∧ s.takes path
      R.A_DEP_CTRL (withBits value 0 1 1) = true :=
  ⟨.core, 0, up_ [], (by decide)⟩

theorem depot_commands_complete_depotCacheRefill_meets :
    (∃ (n : Fin 4) (s : State), (16 < (s.pool n.val).cache.length ∨ (s.pool n.val).ringLen = 0) ∧ (s.pool
      n.val).cache.length < 56) ∧
    (∃ (n : Fin 4) (s : State), (s.pool n.val).cache.length ≤ 16 ∧ (s.pool n.val).ringLen ≠ 0) ∧
    (∃ (n : Fin 4) (s : State), 56 ≤ (s.pool n.val).cache.length) :=
  ⟨⟨0, up_ [], (by decide)⟩, ⟨0, { up_ [] with dep := { (up_ []).dep with pools := [⟨[], 0, 5, false, 64⟩] } },
    (by decide)⟩, ⟨0,
    { up_ [] with dep := { (up_ []).dep with pools := [⟨List.replicate 56 0, 0, 5, false, 64⟩] } }, (by decide)⟩⟩

theorem depot_commands_complete_depotBufferAccess_meets :
    (∃ (tag handle ofs len : Nat) (s : State), s.handleIn handle = false) ∧
    (∃ (tag handle ofs len : Nat) (d : List Byte) (s : State), s.handleIn handle = false) ∧
    (∃ (tag handle ofs len : Nat) (s : State), (s.depCheck tag handle ofs len false).1 = 0) :=
  ⟨⟨0xC0, 5, 0, 8, up_ [], (by decide)⟩, ⟨0xC0, 5, 0, 8, [], up_ [], (by decide)⟩, ⟨0xC0, 0, 0, 8,
      (let t := up_ [(R.DEP_STAT_POOLS_READY, 1), (R.DEP_P_COUNT_COUNT 0, 4), (R.MEM_STAT_STATE, 2),
          (R.MEM_DATA_TOP_TOP_MIB, 7168)];
       { t with mem := [(1, 0x44), (3, 0xC0), (4, 0xFF), (5, 0xFF), (6, 0xFF)] }), (by decide)⟩⟩

theorem depot_commands_complete_depotRebuildDone_meets :
    (∃ (s : State), s.get R.DEP_STAT_STATE = 2) ∧
    (∃ (s : State), s.get R.DEP_STAT_STATE ≠ 2) :=
  ⟨⟨up_ [(R.DEP_STAT_STATE, 2)], (by decide)⟩, ⟨up_ [(R.DEP_STAT_STATE, 1)], (by decide)⟩⟩

theorem memory_protection_commands_complete_memTrainingDone_meets :
    (∃ (agree : Bool) (o0 o1 o2 size : Nat) (ranks2 : Bool) (s : State), s.get R.MEM_STAT_STATE ≠ 1) ∧
    (∃ (o1 o2 size : Nat) (ranks2 : Bool) (s : State), s.get R.MEM_STAT_STATE = 1 ∧ size ≤ 2) ∧
    (∃ (o0 o1 o2 size : Nat) (ranks2 : Bool) (s : State), s.get R.MEM_STAT_STATE = 1) :=
  ⟨⟨true, 15, 0, 0, 1, false, up_ [(R.MEM_STAT_STATE, 2)], (by decide)⟩, ⟨0, 0, 2, true, up_ [(R.MEM_STAT_STATE,
    1)], (by decide)⟩, ⟨0, 0, 0, 2, true, up_ [(R.MEM_STAT_STATE, 1)], (by decide)⟩⟩

theorem memory_protection_commands_complete_mr4RefreshRead_meets :
    (∃ (d : Bool) (s : State), s.get R.MEM_STAT_STATE ≠ 2) ∧
    (∃ (s : State), s.get R.MEM_STAT_STATE = 2) ∧
    (∃ (s : State), s.get R.MEM_STAT_STATE = 2) :=
  ⟨⟨true, up_ [(R.MEM_STAT_STATE, 3)], (by decide)⟩, ⟨up_ [(R.MEM_STAT_STATE, 2)], (by decide)⟩, ⟨up_
    [(R.MEM_STAT_STATE, 2)], (by decide)⟩⟩

theorem memory_protection_commands_complete_memSrefEntry_meets :
    (∃ (s : State), s.get R.MEM_STAT_STATE = 2 ∧ (s.mode = mPARKED ∨ s.mode = mLIMP) ∧ s.flag R.MEM_CTRL_SR_EN =
      true ∧ s.ms.lastAccess + 10000000 ≤ s.now) ∧
    (∃ (s : State), (s.get R.MEM_STAT_STATE ≠ 2 ∨ s.flag R.MEM_CTRL_SR_EN = false ∨ s.now < s.ms.lastAccess +
      10000000)) :=
  ⟨⟨on_ 10000000 [(R.MEM_STAT_STATE, 2), (R.SYS_MODE_MODE, mPARKED), (R.MEM_CTRL_SR_EN, 1)], (by decide)⟩, ⟨on_
    9999999 [(R.MEM_STAT_STATE, 2), (R.SYS_MODE_MODE, mPARKED), (R.MEM_CTRL_SR_EN, 1)], (by decide)⟩⟩

theorem memory_protection_commands_complete_scrubRewrite_meets :
    (∃ (i : Fin 32) (s : State), i.val ∉ s.ms.due) ∧
    (∃ (i : Fin 32) (s : State), i.val ∈ s.ms.due ∧ (setBits (s.flipsOf (s.clogKey i.val)) 72).length ≤ 1) :=
  ⟨⟨31, up_ [], (by decide)⟩, ⟨31, { up_ [] with ms := { (up_ []).ms with due := [31] } }, (by decide)⟩⟩

theorem memory_protection_commands_complete_patrolScrubStep_meets :
    (∃ (w : Fin 8) (upset : Nat) (s : State), (s.flag R.MEM_ECC_CTRL_SCRUB_EN = false ∨ s.get R.MEM_STAT_STATE ≠ 2))
      ∧
    (∃ (w : Fin 8) (upset : Nat) (s : State), s.flag R.MEM_ECC_CTRL_SCRUB_EN = true ∧ s.get R.MEM_STAT_STATE = 2 ∧
      64 * (s.get R.MEM_SCRUB_POS_BLOCK + 1) < s.dataTop) ∧
    (∃ (w : Fin 8) (upset : Nat) (s : State), s.flag R.MEM_ECC_CTRL_SCRUB_EN = true ∧ s.get R.MEM_STAT_STATE = 2 ∧
      s.dataTop ≤ 64 * (s.get R.MEM_SCRUB_POS_BLOCK + 1)) :=
  ⟨⟨0, 0, up_ [], (by decide)⟩, ⟨0, 0, up_ [(R.MEM_ECC_CTRL_SCRUB_EN, 1), (R.MEM_STAT_STATE, 2),
    (R.MEM_DATA_TOP_TOP_MIB, 7168)], (by decide)⟩, ⟨0, 0, up_ [(R.MEM_ECC_CTRL_SCRUB_EN, 1), (R.MEM_STAT_STATE, 2),
    (R.MEM_DATA_TOP_TOP_MIB, 0)], (by decide)⟩⟩

theorem memory_protection_commands_complete_sramWalkerRead_meets :
    (∃ (ar inst w upset : Nat) (s : State), s.flag R.MEM_ECC_CTRL_SCRUB_EN = false) ∧
    (∃ (ar inst w upset : Nat) (s : State), s.flag R.MEM_ECC_CTRL_SCRUB_EN = true ∧ ar % 256 ≠ 0x40) :=
  ⟨⟨0x40, 0, 0, 1, up_ [(R.MEM_ECC_CTRL_SCRUB_EN, 0)], (by decide)⟩, ⟨0x10, 0, 0, 1, up_ [(R.MEM_ECC_CTRL_SCRUB_EN,
    1)], (by decide)⟩⟩

theorem memory_protection_commands_complete_hardErrorAction_meets :
    (∃ (i : Fin 32) (s : State), (s.flag (R.MEM_CLOG_KEY_HI_VALID i.val) = false ∨ s.get (R.MEM_CLOG_KEY_HI_STATE
      i.val) = 0 ∨ s.ms.acted.contains (32 * s.get (R.MEM_CLOG_KEY_HI_STATE i.val) + i.val) = true)) ∧
    (∃ (i : Fin 32) (s : State), s.flag (R.MEM_CLOG_KEY_HI_VALID i.val) = true ∧ (s.get (R.MEM_CLOG_KEY_HI_STATE
      i.val) = 1 ∨ s.get (R.MEM_CLOG_KEY_HI_STATE i.val) = 2) ∧ s.ms.acted.contains (32 * s.get
      (R.MEM_CLOG_KEY_HI_STATE i.val) + i.val) = false ∧ s.flt.safeStop = false ∧ (s.clogKey i.val).sram = true) ∧
    (∃ (i : Fin 32) (s : State), s.flag (R.MEM_CLOG_KEY_HI_VALID i.val) = true ∧ (s.get (R.MEM_CLOG_KEY_HI_STATE
      i.val) = 1 ∨ s.get (R.MEM_CLOG_KEY_HI_STATE i.val) = 2) ∧ s.ms.acted.contains (32 * s.get
      (R.MEM_CLOG_KEY_HI_STATE i.val) + i.val) = false ∧ s.flt.safeStop = false ∧ (s.clogKey i.val).sram = false) :=
  ⟨⟨3, up_ [], (by decide)⟩, ⟨3, up_ [(R.MEM_CLOG_KEY_HI_VALID 3, 1), (R.MEM_CLOG_KEY_HI_STATE 3, 1),
    (R.MEM_CLOG_KEY_HI_SRAM 3, 1)], (by decide)⟩, ⟨3, up_ [(R.MEM_CLOG_KEY_HI_VALID 3, 1), (R.MEM_CLOG_KEY_HI_STATE
    3, 2)], (by decide)⟩⟩

theorem memory_protection_commands_complete_clogFree_meets :
    ∃ (path : Path) (value : Word) (s : State), s.takes path R.A_MEM_CLOG_FREE value = true :=
  ⟨.core, 5, up_ [], (by decide)⟩

theorem memory_protection_commands_complete_errorInjectionArm_meets :
    ∃ (path : Path) (value : Word) (s : State), s.takes path R.A_MEM_EI_CTRL (withBits value 31 1 1) = true :=
  ⟨.core, 5, up_ [(R.SYS_MODE_MODE, mWORKSHOP), (R.SEC_STAT_HOST_UNLOCKED, 1)], (by decide)⟩

theorem convoy_commands_complete_convoyStart_meets :
    ∃ (path : Path) (e : Eng) (c : Chan) (value : Word) (s : State), s.takes path (R.A_CVY_C_CTRL e.val c.val)
      (withBits value 1 1 1) = true :=
  ⟨.core, 3, 31, 1, up_ [], (by decide)⟩

theorem convoy_commands_complete_convoyStop_meets :
    ∃ (path : Path) (e : Eng) (c : Chan) (value : Word) (s : State), s.takes path (R.A_CVY_C_CTRL e.val c.val)
      (withBits value 2 1 1) = true :=
  ⟨.core, 3, 31, 1, up_ [], (by decide)⟩

theorem convoy_commands_complete_convoyChannelEnable_meets :
    ∃ (path : Path) (e : Eng) (c : Chan) (value : Word) (s : State), s.takes path (R.A_CVY_C_CTRL e.val c.val) value
      = true :=
  ⟨.core, 3, 31, 1, up_ [], (by decide)⟩

theorem convoy_commands_complete_convoyDoorbell_meets :
    ∃ (path : Path) (e : Eng) (c : Chan) (value : Word) (s : State), s.takes path (R.A_CVY_C_DOORBELL e.val c.val)
      value = true :=
  ⟨.core, 3, 31, 1, up_ [], (by decide)⟩

theorem convoy_commands_complete_meets :
    (∃ (e : Eng) (c : Chan) (s : State), s.get (R.CVY_C_STAT_STATE e.val c.val) = 3) ∧
    (∃ (e : Eng) (c : Chan) (s : State), s.get (R.CVY_C_STAT_STATE e.val c.val) = 2) ∧
    (∃ (e : Eng) (c : Chan) (s : State), s.get (R.CVY_C_STAT_STATE e.val c.val) = 0) ∧
    (∃ (e : Eng) (c : Chan) (v : Nat) (s : State), s.get (R.CVY_C_STAT_STATE e.val c.val) = 1 ∧ s.cvyHolds e.val
      c.val = false ∧ bitOf v 0 = true ∧ bitOf v 1 = true ∧ bitOf v 2 = false ∧ s.get (R.CVY_C_HEAD_HI_KIND e.val
      c.val) = 0) ∧
    (∃ (e : Eng) (f : State → State) (s : State), (s.eng e.val).tries < s.get R.CVY_CTRL_RETRY) ∧
    (∃ (e : Eng) (f : State → State) (s : State), s.get R.CVY_CTRL_RETRY ≤ (s.eng e.val).tries) :=
  ⟨⟨3, 31, up_ [(R.CVY_C_STAT_STATE 3 31, 3)], (by decide)⟩, ⟨3, 31, up_ [(R.CVY_C_STAT_STATE 3 31, 2)],
    (by decide)⟩, ⟨3, 31, up_ [], (by decide)⟩, ⟨3, 31, 3, up_ [(R.CVY_C_STAT_STATE 3 31, 1)], (by decide)⟩, ⟨1, id,
    (up_ [(R.CVY_CTRL_RETRY, 3)]).setEng 1 ⟨.fetch, 4, 0, 0, 0, [], 0, 0, 0, none⟩, (by decide)⟩, ⟨1, id, (up_
    [(R.CVY_CTRL_RETRY, 3)]).setEng 1 ⟨.fetch, 4, 0, 3, 0, [], 0, 0, 0, none⟩, (by decide)⟩⟩

theorem convoy_commands_complete_convoyGrant_meets :
    (∃ (e : Eng) (s : State), ((s.eng e.val).phase ≠ .idle ∨ s.cvyNext e.val = none ∨ s.inReset (.cvy e.val) =
      true)) ∧
    (∃ (e : Eng) (c : Nat) (s : State), (s.eng e.val).phase = .idle ∧ bitOf (s.get R.CVY_CTRL_ENG_EN) e.val = true ∧
      s.inReset (.cvy e.val) = false ∧ s.cvyNext e.val = some c) :=
  ⟨⟨3, up_ [], (by decide)⟩, ⟨1, 4, (up_ [(R.CVY_CTRL_ENG_EN, 15)]).setChan 1 4 ⟨true, false, 0, 0, none, false,
    false⟩, (by decide)⟩⟩

theorem convoy_commands_complete_descriptorFetched_meets :
    (∃ (e : Eng) (s : State), (s.eng e.val).phase ≠ .fetch) ∧
    (∃ (e : Eng) (s : State), (s.eng e.val).phase = .fetch ∧ (s.linkReadC (s.cvyCur e.val (s.eng e.val).chan).2
      (s.cvyCur e.val (s.eng e.val).chan).1 64).1 ≠ 0) :=
  ⟨⟨1, up_ [], (by decide)⟩, ⟨1, (up_ []).setEng 1 ⟨.fetch, 4, 0, 0, 0, [], 0, 0, 0, none⟩, (by decide)⟩⟩

theorem convoy_commands_complete_transferArrived_meets :
    (∃ (e : Eng) (host : List Byte) (s : State), (s.eng e.val).phase ≠ .xfer) ∧
    (∃ (e : Eng) (host : List Byte) (s : State), (s.eng e.val).phase = .xfer ∧ ¬(bitsOf ((s.eng e.val).word 0) 26 2
      = 0 ∧ bitsOf ((s.eng e.val).word 3) 0 3 < 2) ∧ (s.cvySource e.val (s.eng e.val) host).1 = 0 ∧ ((s.cvySource
      e.val (s.eng e.val) host).2.2.cvyDest e.val (s.eng e.val) (s.cvySource e.val (s.eng e.val) host).2.1).1 = 0)
      :=
  ⟨⟨1, [], up_ [], (by decide)⟩, ⟨1, [], (up_ [(R.HIF_LINK_UP 0, 1)]).setEng 1 ⟨.xfer, 4, 0, 0, 0, [2 ^ 26 + 8, 5,
    0, 0, 0, 0, 0, 0], 0, 0, 0, none⟩, (by decide)⟩⟩

theorem convoy_commands_complete_statusWritebackDone_meets :
    (∃ (e : Eng) (s : State), (s.eng e.val).phase ≠ .stat) ∧
    (∃ (e : Eng) (s : State), (s.eng e.val).phase = .stat) :=
  ⟨⟨1, up_ [], (by decide)⟩, ⟨1, (up_ []).setEng 1 ⟨.stat, 4, 0, 0, 0, [], 0, 0, 0, none⟩, (by decide)⟩⟩

theorem convoy_commands_complete_ownershipClearDone_meets :
    (∃ (e : Eng) (s : State), (s.eng e.val).phase ≠ .own) ∧
    (∃ (e : Eng) (s : State), (s.eng e.val).phase = .own ∧ (s.eng e.val).code = 0 ∧ bitOf ((s.eng e.val).word 0) 25
      = false ∧ (s.chan e.val (s.eng e.val).chan).off = false ∧ (s.chan e.val (s.eng e.val).chan).stop = false) ∧
    (∃ (e : Eng) (s : State), (s.eng e.val).phase = .own ∧ (s.eng e.val).code ≠ 0 ∧ (s.chan e.val (s.eng
      e.val).chan).off = false ∧ (s.chan e.val (s.eng e.val).chan).stop = true) :=
  ⟨⟨1, up_ [], (by decide)⟩, ⟨1, (up_ []).setEng 1 ⟨.own, 4, 0, 0, 0, [], 0, 0, 0, none⟩, (by decide)⟩, ⟨1, ((up_
    []).setEng 1 ⟨.own, 4, 0, 0, 0, [], 0, 3, 0, none⟩).setChan 1 4 ⟨false, false, 0, 0, none, true, false⟩,
    (by decide)⟩⟩

theorem convoy_commands_complete_convoyBusError_meets :
    (∃ (e : Eng) (stage cause done : Nat) (s : State), (s.eng e.val).phase = .fetch ∧ cause % 16 < 5) ∧
    (∃ (e : Eng) (c : Chan) (stage cause done : Nat) (s : State), (s.chan e.val c.val).link = false ∧ cause % 16 <
      5) ∧
    (∃ (e : Eng) (c : Chan) (stage cause done : Nat) (s : State), (s.chan e.val c.val).link = true ∧ cause % 16 < 5
      ∧ s.get R.CVY_CTRL_RETRY ≤ (s.chan e.val c.val).linkTries) :=
  ⟨⟨1, 3, 4, 0, (up_ []).setEng 1 ⟨.fetch, 4, 0, 0, 0, [], 0, 0, 0, none⟩, (by decide)⟩, ⟨1, 4, 3, 4, 0, up_ [],
    (by decide)⟩, ⟨1, 4, 3, 4, 0, (up_ []).setChan 1 4 ⟨false, true, 0, 7, none, false, false⟩, (by decide)⟩⟩

theorem convoy_commands_complete_convoyRetry_meets :
    (∃ (e : Eng) (s : State), (s.eng e.val).phase = .gap .fetch ∧ (s.eng e.val).since + s.get R.CVY_CTRL_RETRY_GAP *
      1000 * (s.eng e.val).tries ≤ s.now) ∧
    (∃ (e : Eng) (s : State), (s.eng e.val).phase = .idle) ∧
    (∃ (e : Eng) (c : Chan) (s : State), (s.chan e.val c.val).gapAt = none) ∧
    (∃ (e : Eng) (c : Chan) (t : Nat) (s : State), (s.chan e.val c.val).gapAt = some t ∧ t + s.get
      R.CVY_CTRL_RETRY_GAP * 1000 * (s.chan e.val c.val).linkTries ≤ s.now) :=
  ⟨⟨1, (up_ []).setEng 1 ⟨.gap .fetch, 4, 0, 1, 0, [], 0, 0, 0, none⟩, (by decide)⟩, ⟨1, up_ [], (by decide)⟩, ⟨1,
    4, up_ [], (by decide)⟩, ⟨1, 4, 0, (up_ []).setChan 1 4 ⟨false, true, 0, 1, some 0, false, false⟩, (by decide)⟩⟩

theorem convoy_commands_complete_linkRereadDone_meets :
    (∃ (e : Eng) (c : Chan) (s : State), ((s.chan e.val c.val).link = false ∨ (s.chan e.val c.val).gapAt ≠ none)) ∧
    (∃ (e : Eng) (c : Chan) (s : State), (s.chan e.val c.val).link = true ∧ (s.chan e.val c.val).gapAt = none ∧
      (s.linkReadC (s.cvyCur e.val c.val).2 ((s.cvyCur e.val c.val).1 + 32) 8).1 = 0 ∧ bitsOf (ofLeBytes
      (s.linkReadC (s.cvyCur e.val c.val).2 ((s.cvyCur e.val c.val).1 + 32) 8).2.1) 60 2 = 0 ∧ s.flag
      (R.CVY_C_STAT_DB_PEND e.val c.val) = false) :=
  ⟨⟨1, 4, up_ [], (by decide)⟩, ⟨1, 4, (up_ [(R.MEM_STAT_STATE, 2), (R.MEM_DATA_TOP_TOP_MIB, 7168),
    (R.CVY_C_CUR_HI_KIND 1 4, 1)]).setChan 1 4 ⟨false, true, 0, 0, none, false, false⟩, (by decide)⟩⟩

theorem convoy_commands_complete_convoyEngineHang_meets :
    (∃ (e : Eng) (s : State), ((s.eng e.val).phase = .fetch ∨ (s.eng e.val).phase = .xfer ∨ (s.eng e.val).phase =
      .stat ∨ (s.eng e.val).phase = .own) ∧ (s.eng e.val).since + 100000 ≤ s.now) ∧
    (∃ (e : Eng) (s : State), ((s.eng e.val).phase = .idle ∨ s.now < (s.eng e.val).since + 100000) ∧ (∀ c < 32,
      (s.chan e.val c).link = false ∨ (s.chan e.val c).gapAt ≠ none ∨ s.now < (s.chan e.val c).linkAt + 100000)) :=
  ⟨⟨1, (up_ []).setEng 1 ⟨.own, 4, 0, 0, 0, [], 0, 0, 0, none⟩, (by decide)⟩, ⟨1, up_ [], (by decide)⟩⟩

theorem route_table_commands_complete_lookupLba_meets :
    (∃ (tag : Nat) (ns : Fin 16) (lba : Nat) (s : State), s.flag R.RTE_RESP_STAT_BUSY = true) ∧
    (∃ (tag : Nat) (ns : Fin 16) (lba : Nat) (s : State), s.flag R.RTE_RESP_STAT_BUSY = false ∧ s.flag
      R.RTE_STAT_RUN = true) ∧
    (∃ (tag : Nat) (ns : Fin 16) (lba : Nat) (s : State), s.flag R.RTE_STAT_RUN = true) ∧
    (∃ (tag : Nat) (ns : Fin 16) (lba : Nat) (s : State), s.flag R.RTE_STAT_RUN = false) :=
  ⟨⟨0xC0, 5, 700, up_ [(R.RTE_RESP_STAT_BUSY, 1)], (by decide)⟩, ⟨0xC0, 5, 700, up_ [(R.RTE_STAT_RUN, 1)],
    (by decide)⟩, ⟨0xC0, 5, 700, up_ [(R.RTE_STAT_RUN, 1)], (by decide)⟩, ⟨0xC0, 5, 700, up_ [], (by decide)⟩⟩

theorem route_table_commands_complete_lookupIdx_meets :
    (∃ (tag index : Nat) (s : State), s.flag R.RTE_RESP_STAT_BUSY = true) ∧
    (∃ (tag index : Nat) (s : State), s.flag R.RTE_RESP_STAT_BUSY = false ∧ s.flag R.RTE_STAT_RUN = true) ∧
    (∃ (tag index : Nat) (s : State), s.flag R.RTE_STAT_RUN = true) ∧
    (∃ (tag index : Nat) (s : State), s.flag R.RTE_STAT_RUN = false) :=
  ⟨⟨0xC0, 5, up_ [(R.RTE_RESP_STAT_BUSY, 1)], (by decide)⟩, ⟨0xC0, 5, up_ [(R.RTE_STAT_RUN, 1)], (by decide)⟩,
    ⟨0xC0, 5, up_ [(R.RTE_STAT_RUN, 1)], (by decide)⟩, ⟨0xC0, 5, up_ [], (by decide)⟩⟩

theorem route_table_commands_complete_opUpdate_meets :
    (∃ (tag index old new since : Nat) (s : State), s.flag R.RTE_RESP_STAT_BUSY = true) ∧
    (∃ (tag index old new since : Nat) (s : State), s.flag R.RTE_RESP_STAT_BUSY = false ∧ s.flag R.RTE_STAT_RUN =
      true) ∧
    (∃ (tag index old new since : Nat) (s : State), s.flag R.RTE_STAT_RUN = true) ∧
    (∃ (tag index old new since : Nat) (s : State), s.flag R.RTE_STAT_RUN = false) :=
  ⟨⟨0xC0, 5, 0, 0, 0, up_ [(R.RTE_RESP_STAT_BUSY, 1)], (by decide)⟩, ⟨0xC0, 5, 0, 0, 0, up_ [(R.RTE_STAT_RUN, 1)],
    (by decide)⟩, ⟨0xC0, 5, 0, 0, 0, up_ [(R.RTE_STAT_RUN, 1)], (by decide)⟩, ⟨0xC0, 5, 0, 0, 0, up_ [],
    (by decide)⟩⟩

theorem route_table_commands_complete_meets :
    (∃ (q : RteReq) (s : State), q.op = 1 ∧ s.flag (R.RTE_NS_CFG_VALID q.ns) = false) ∧
    (∃ (q : RteReq) (s : State), q.op = 1 ∧ s.flag (R.RTE_NS_CFG_VALID q.ns) = true ∧ s.get (R.RTE_NS_COUNT_COUNT
      q.ns) ≤ q.a0 / (if s.flag (R.RTE_NS_CFG_EMU q.ns) then 2048 else 256)) ∧
    (∃ (q : RteReq) (s : State), (q.op = 2 ∨ q.op = 3) ∧ s.get R.RTE_TBL_COUNT_COUNT ≤ q.a0) ∧
    (∃ (q : RteReq) (e : Nat) (s : State), q.op = 2 ∧ q.a0 < s.get R.RTE_TBL_COUNT_COUNT ∧ (s.rtRead q.a0).1 = some
      e) ∧
    (∃ (q : RteReq) (s : State), q.op = 3 ∧ q.a0 < s.get R.RTE_TBL_COUNT_COUNT ∧ rtMalformed (s.get
      R.RTE_BAND_COUNT_COUNT) q.a2 = true) ∧
    (∃ (q : RteReq) (e w v : Nat) (t0 t1 t2 : State) (s : State), q.op = 3 ∧ q.a0 < s.get R.RTE_TBL_COUNT_COUNT ∧
      rtMalformed (s.get R.RTE_BAND_COUNT_COUNT) q.a2 = false ∧ s.rtRead q.a0 = (some e, t0) ∧ t0.bandWord e = (some
      w, t1) ∧ t1.bandWord q.a2 = (some v, t2) ∧ e ≠ q.a1) ∧
    (∃ (q : RteReq) (e w v : Nat) (t0 t1 t2 : State) (s : State), q.op = 3 ∧ q.a0 < s.get R.RTE_TBL_COUNT_COUNT ∧
      rtMalformed (s.get R.RTE_BAND_COUNT_COUNT) q.a2 = false ∧ s.rtRead q.a0 = (some e, t0) ∧ t0.bandWord e = (some
      w, t1) ∧ t1.bandWord q.a2 = (some v, t2) ∧ e = q.a1) ∧
    (∃ (i e : Nat) (s : State), (s.rtSnapshot 0 (s.get R.RTE_TBL_COUNT_COUNT)).filter (fun x => rtMapped x.2 &&
      (s.band (rtBand x.2)).st == 3) = [(i, e)] ∧ ((∀ d ∈ s.rte.dest, ¬(d.index = i ∧ d.old = e))) ∧ rtState e = 2)
      :=
  ⟨⟨⟨1, 0xC0, 0, 700, 0, 0, 0, false⟩, up_ [], (by decide)⟩, ⟨⟨1, 0xC0, 0, 700, 0, 0, 0, false⟩, up_
    [(R.RTE_NS_CFG_VALID 0, 1), (R.RTE_NS_COUNT_COUNT 0, 2)], (by decide)⟩, ⟨⟨2, 0xC0, 0, 700, 0, 0, 0, false⟩, up_
    [(R.RTE_TBL_COUNT_COUNT, 700)], (by decide)⟩, ⟨⟨2, 0xC0, 0, 7, 0, 0, 0, false⟩, 0, up_ [(R.RTE_TBL_COUNT_COUNT,
    100), (R.MEM_STAT_STATE, 2), (R.MEM_DATA_TOP_TOP_MIB, 7168)], (by decide)⟩, ⟨⟨3, 0xC0, 0, 7, 0, 1, 0, false⟩,
    up_ [(R.RTE_TBL_COUNT_COUNT, 100)], (by decide)⟩, ⟨⟨3, 0xC0, 0, 7, 5, 0, 0, false⟩, 0, 0, 0, ((up_
    [(R.RTE_TBL_COUNT_COUNT, 100), (R.MEM_STAT_STATE, 2), (R.MEM_DATA_TOP_TOP_MIB, 7168)]).rtRead 7).2, (((up_
    [(R.RTE_TBL_COUNT_COUNT, 100), (R.MEM_STAT_STATE, 2), (R.MEM_DATA_TOP_TOP_MIB, 7168)]).rtRead 7).2.bandWord
    0).2, ((((up_ [(R.RTE_TBL_COUNT_COUNT, 100), (R.MEM_STAT_STATE, 2), (R.MEM_DATA_TOP_TOP_MIB, 7168)]).rtRead
    7).2.bandWord 0).2.bandWord 0).2, up_ [(R.RTE_TBL_COUNT_COUNT, 100), (R.MEM_STAT_STATE, 2),
    (R.MEM_DATA_TOP_TOP_MIB, 7168)], (by decide)⟩, ⟨⟨3, 0xC0, 0, 7, 0, 0, 0, false⟩, 0, 0, 0, ((up_
    [(R.RTE_TBL_COUNT_COUNT, 100), (R.MEM_STAT_STATE, 2), (R.MEM_DATA_TOP_TOP_MIB, 7168)]).rtRead 7).2, (((up_
    [(R.RTE_TBL_COUNT_COUNT, 100), (R.MEM_STAT_STATE, 2), (R.MEM_DATA_TOP_TOP_MIB, 7168)]).rtRead 7).2.bandWord
    0).2, ((((up_ [(R.RTE_TBL_COUNT_COUNT, 100), (R.MEM_STAT_STATE, 2), (R.MEM_DATA_TOP_TOP_MIB, 7168)]).rtRead
    7).2.bandWord 0).2.bandWord 0).2, up_ [(R.RTE_TBL_COUNT_COUNT, 100), (R.MEM_STAT_STATE, 2),
    (R.MEM_DATA_TOP_TOP_MIB, 7168)], (by decide)⟩, ⟨0, 2 ^ 49,
    { up_ [(R.RTE_TBL_COUNT_COUNT, 1)] with mem := [(6, 2)], rte := { (up_ []).rte with bands := [⟨3, 9⟩], dest := [] } },
    (by decide)⟩⟩

theorem route_table_commands_complete_routeTableLoad_meets :
    (∃ (s : State), (s.rte.loaded = true ∨ s.rte.trackAt = none ∨ s.flag R.RTE_STAT_RUN = false)) ∧
    (∃ (s : State), s.rte.loaded = false ∧ s.rte.trackAt ≠ none ∧ s.flag R.RTE_STAT_RUN = true) :=
  ⟨⟨up_ [], (by decide)⟩, ⟨{ up_ [(R.RTE_STAT_RUN, 1)] with rte := { (up_ []).rte with trackAt := some 5 } },
    (by decide)⟩⟩

theorem route_table_commands_complete_reclaim_meets :
    (∃ (s : State), s.get R.SYS_MODE_MODE = 8) ∧
    (∃ (s : State), s.get R.SYS_MODE_MODE ≠ 8 ∧ s.rte.bands = []) ∧
    (∃ (s : State), s.get R.SYS_MODE_MODE ≠ 8 ∧ s.bandNums (fun x => x.st == 3) = [] ∧ Config.reclaimBelow ≤
      (s.bandNums (fun x => x.st == 0)).length) ∧
    (∃ (b : Nat) (s : State), s.get R.SYS_MODE_MODE ≠ 8 ∧ s.bandNums (fun x => x.st == 3) = [b] ∧ s.bandNums (fun x
      => x.st == 2) = [] ∧ s.bandLive b = 0 ∧ s.rte.allDurable = true) ∧
    (∃ (b : Nat) (s : State), s.get R.SYS_MODE_MODE ≠ 8 ∧ s.bandNums (fun x => x.st == 3) = [] ∧ s.bandNums (fun x
      => x.st == 2) = [b]) :=
  ⟨⟨up_ [(R.SYS_MODE_MODE, 8)], (by decide)⟩, ⟨{ up_ [] with rte := { (up_ []).rte with bands := [] } },
    (by decide)⟩, ⟨pool_, ⟨by decide, pool_none_reclaimed, pool_free⟩⟩, ⟨1,
    { up_ [] with rte := { (up_ []).rte with bands := [⟨0, 0⟩, ⟨3, 9⟩] } }, (by decide)⟩, ⟨1,
    { up_ [] with rte := { (up_ []).rte with bands := [⟨0, 0⟩, ⟨2, 9⟩] } }, (by decide)⟩⟩

theorem route_table_commands_complete_journalCheckpoint_meets :
    (∃ (s : State), s.rte.journal.length < 1048576 ∧ s.busy = false ∧ s.hif.activating = none) ∧
    (∃ (s : State), (1048576 ≤ s.rte.journal.length ∨ s.hif.activating ≠ none ∨ (s.busy = true ∧ (s.target = 3 ∨
      s.target = 1)))) :=
  ⟨⟨up_ [(R.SYS_MODE_STAMP_HI_BUSY, 0)], (by decide)⟩, ⟨(up_ []).modHif (fun h =>
    { h with activating := some (0, 0, 1) }), (by decide)⟩⟩

theorem compression_lanes_complete_compressorGo_meets :
    ∃ (path : Path) (lane : Lane) (value : Word) (s : State), s.takes path (R.A_CMP_C_CMD lane.val) (withBits value
      0 2 1) = true :=
  ⟨.core, 3, 0, up_ [], (by decide)⟩

theorem compression_lanes_complete_compressorResume_meets :
    ∃ (path : Path) (lane : Lane) (value : Word) (s : State), s.takes path (R.A_CMP_C_CMD lane.val) (withBits value
      0 2 2) = true :=
  ⟨.core, 3, 0, up_ [], (by decide)⟩

theorem compression_lanes_complete_compressorAbort_meets :
    ∃ (path : Path) (lane : Lane) (value : Word) (s : State), s.takes path (R.A_CMP_C_CMD lane.val) (withBits value
      0 2 3) = true :=
  ⟨.core, 3, 0, up_ [], (by decide)⟩

theorem compression_lanes_complete_decompressorGo_meets :
    ∃ (path : Path) (lane : Lane) (value : Word) (s : State), s.takes path (R.A_CMP_D_CMD lane.val) (withBits value
      0 2 1) = true :=
  ⟨.core, 3, 0, up_ [], (by decide)⟩

theorem compression_lanes_complete_decompressorAbort_meets :
    ∃ (path : Path) (lane : Lane) (value : Word) (s : State), s.takes path (R.A_CMP_D_CMD lane.val) (withBits value
      0 2 2) = true :=
  ⟨.core, 3, 0, up_ [], (by decide)⟩

theorem compression_lanes_complete_meets :
    (∃ (n : Nat) (s : State), ((s.get (R.CMP_C_STAT_STATE n) ≠ 0 ∧ s.get (R.CMP_C_STAT_STATE n) ≠ 5) ∨ bitOf (s.get
      R.CMP_CTRL_C_EN) n = false ∨ s.inReset (.comp n) = true)) ∧
    (∃ (n : Nat) (s : State), s.get (R.CMP_C_STAT_STATE n) = 3) ∧
    (∃ (n : Nat) (s : State), 1 ≤ s.get (R.CMP_C_STAT_STATE n) ∧ s.get (R.CMP_C_STAT_STATE n) ≤ 3) ∧
    (∃ (n : Nat) (s : State), ((s.get (R.CMP_D_STAT_STATE n) ≠ 0 ∧ s.get (R.CMP_D_STAT_STATE n) ≠ 2) ∨ bitOf (s.get
      R.CMP_CTRL_D_EN) n = false ∨ s.inReset (.decomp n) = true)) ∧
    (∃ (n : Nat) (s : State), (s.get (R.CMP_D_STAT_STATE n) = 0 ∨ s.get (R.CMP_D_STAT_STATE n) = 2) ∧ bitOf (s.get
      R.CMP_CTRL_D_EN) n = true ∧ s.inReset (.decomp n) = false) ∧
    (∃ (n : Nat) (s : State), s.get (R.CMP_D_STAT_STATE n) = 1) :=
  ⟨⟨0, up_ [], (by decide)⟩, ⟨0, up_ [(R.CMP_C_STAT_STATE 0, 3)], (by decide)⟩, ⟨0, up_ [(R.CMP_C_STAT_STATE 0, 3)],
    (by decide)⟩, ⟨0, up_ [], (by decide)⟩, ⟨0, up_ [(R.CMP_CTRL_D_EN, 1)], (by decide)⟩, ⟨0, up_
    [(R.CMP_D_STAT_STATE 0, 1)], (by decide)⟩⟩

theorem compression_lanes_complete_outFull_meets :
    (∃ (lane : Lane) (s : State), (s.compRuns lane.val = false ∨ s.outFullDue lane.val = false)) ∧
    (∃ (lane : Lane) (s : State), s.compRuns lane.val = true ∧ bitOf (s.lane lane.val).cfg 6 = false) :=
  ⟨⟨0, up_ [], (by decide)⟩, ⟨3, (up_ [(R.CMP_C_STAT_STATE 3, 2), (R.CMP_C_OUT_CNT_OUT_CNT 3, 2)]), (by decide)⟩⟩

theorem compression_lanes_complete_compressionEnd_meets :
    (∃ (lane : Lane) (s : State), s.compRuns lane.val = false) ∧
    (∃ (lane : Lane) (s : State), s.compRuns lane.val = true ∧ bitOf (s.lane lane.val).cfg 6 = false ∧ bitOf (s.lane
      lane.val).cfg 5 = false) :=
  ⟨⟨0, up_ [], (by decide)⟩, ⟨3, (up_ [(R.CMP_C_STAT_STATE 3, 2), (R.CMP_C_OUT_CNT_OUT_CNT 3, 2)]), (by decide)⟩⟩

theorem compression_lanes_complete_decompressionEnd_meets :
    (∃ (lane : Lane) (s : State), s.get (R.CMP_D_STAT_STATE lane.val) ≠ 1) ∧
    (∃ (lane : Lane) (want : Nat) (bs hist : List Byte) (t1 t2 : State) (s : State), s.get (R.CMP_D_STAT_STATE
      lane.val) = 1 ∧ s.decompInput lane.val = (some (want, bs), t1) ∧ t1.decompHist lane.val = (some hist, t2)) :=
  ⟨⟨0, up_ [], (by decide)⟩, ⟨0, 0, [], [], ((up_ [(R.CMP_D_STAT_STATE 0, 1), (R.CMP_D_HIST_HIST 0, 0xFFFFFFFF),
    (R.MEM_STAT_STATE, 2), (R.MEM_DATA_TOP_TOP_MIB, 7168)]).decompInput 0).2, (((up_ [(R.CMP_D_STAT_STATE 0, 1),
    (R.CMP_D_HIST_HIST 0, 0xFFFFFFFF), (R.MEM_STAT_STATE, 2), (R.MEM_DATA_TOP_TOP_MIB, 7168)]).decompInput
    0).2.decompHist 0).2, up_ [(R.CMP_D_STAT_STATE 0, 1), (R.CMP_D_HIST_HIST 0, 0xFFFFFFFF), (R.MEM_STAT_STATE, 2),
    (R.MEM_DATA_TOP_TOP_MIB, 7168)], (by decide)⟩⟩

theorem compression_lanes_complete_cmpLaneHang_meets :
    (∃ (lane : Lane) (s : State), s.compRuns lane.val = true ∧ (s.lane lane.val).since + 100000 ≤ s.now) ∧
    (∃ (lane : Lane) (s : State), (s.compRuns lane.val = false ∨ s.now < (s.lane lane.val).since + 100000)) ∧
    (∃ (lane : Lane) (d : DecompLane) (s : State), s.decomp[lane.val]? = some d ∧ s.get (R.CMP_D_STAT_STATE
      lane.val) = 1 ∧ d.since + 100000 ≤ s.now) ∧
    (∃ (lane : Lane) (s : State), s.get (R.CMP_D_STAT_STATE lane.val) ≠ 1) :=
  ⟨⟨3, up_ [(R.CMP_C_STAT_STATE 3, 2)], (by decide)⟩, ⟨3, up_ [], (by decide)⟩, ⟨3, ⟨0, false⟩, up_
    [(R.CMP_D_STAT_STATE 3, 1)], (by decide)⟩, ⟨3, up_ [], (by decide)⟩⟩

theorem link_and_controller_commands_complete_ccEnable_meets :
    (∃ (ctrl : Ctrl) (cc aqa : Word) (s : State), s.ctlExists ctrl.val = false) ∧
    (∃ (ctrl : Ctrl) (cc aqa : Word) (s : State), s.ctlExists ctrl.val = true ∧ s.flt.safeStop = false ∧ bitOf
      (s.ctl ctrl.val).cc 0 = false ∧ bitOf cc.toNat 0 = true ∧ ccOk cc.toNat = false) ∧
    (∃ (ctrl : Ctrl) (cc aqa : Word) (s : State), s.ctlExists ctrl.val = true ∧ s.flt.safeStop = false ∧ bitOf
      (s.ctl ctrl.val).cc 0 = false ∧ bitOf cc.toNat 0 = true ∧ bitsOf cc.toNat 16 4 = 6 ∧ bitsOf cc.toNat 20 4 = 4
      ∧ bitsOf cc.toNat 7 4 = 0) :=
  ⟨⟨1, 0x460001, 0, up_ [], (by decide)⟩, ⟨0, 0x450001, 0, up_ [], (by decide)⟩, ⟨0, 0x460001, 0x000F000F, up_ [],
    (by decide)⟩⟩

theorem link_and_controller_commands_complete_controllerReset_meets :
    (∃ (ctrl : Ctrl) (cc : Word) (s : State), s.ctlExists ctrl.val = false) ∧
    (∃ (ctrl : Ctrl) (cc : Word) (s : State), s.ctlExists ctrl.val = true ∧ bitOf (s.ctl ctrl.val).cc 0 = true ∧
      bitOf cc.toNat 0 = false) ∧
    (∃ (ctrl : Ctrl) (cc : Word) (s : State), bitOf (s.ctl ctrl.val).cc 0 = false) :=
  ⟨⟨1, 0, up_ [], (by decide)⟩, ⟨0, 0x460000, host_ [] [], (by decide)⟩, ⟨0, 0x460000, up_ [], (by decide)⟩⟩

theorem link_and_controller_commands_complete_pciePortReset_meets :
    (∃ (ctrl : Ctrl) (kind : PortReset) (s : State), s.ctlExists ctrl.val = false) ∧
    (∃ (ctrl : Ctrl) (s : State), s.ctlExists ctrl.val = true) ∧
    (∃ (ctrl : Ctrl) (kind : PortReset) (s : State), s.ctlExists ctrl.val = true ∧ kind ≠ .flr) :=
  ⟨⟨1, .flr, up_ [], (by decide)⟩, ⟨0, host_ [] [], (by decide)⟩, ⟨0, .hot, host_ [] [], (by decide)⟩⟩

theorem link_and_controller_commands_complete_perstLow_meets :
    (∃ (ctrl : Ctrl) (s : State), s.ctlExists ctrl.val = false) ∧
    (∃ (ctrl : Ctrl) (s : State), s.ctlExists ctrl.val = true) :=
  ⟨⟨1, up_ [], (by decide)⟩, ⟨0, host_ [] [], (by decide)⟩⟩

theorem link_and_controller_commands_complete_linkTrainingStart_meets :
    (∃ (ctrl : Ctrl) (s : State), s.ctlExists ctrl.val = false) ∧
    (∃ (ctrl : Ctrl) (s : State), s.ctlExists ctrl.val = true ∧ bitOf (s.get R.SYS_PWR_STAT_PD) 3 = true ∧ 200000 ≤
      s.now ∧ s.flag (R.HIF_LINK_UP ctrl.val) = false) ∧
    (∃ (ctrl : Ctrl) (s : State), (bitOf (s.get R.SYS_PWR_STAT_PD) 3 = false ∨ s.now < 200000 ∨ s.flag
      (R.HIF_LINK_UP ctrl.val) = true)) :=
  ⟨⟨1, up_ [], (by decide)⟩, ⟨0, host_ [] [], (by decide)⟩, ⟨0, at_ [], (by decide)⟩⟩

theorem link_and_controller_commands_complete_pcieLinkUp_meets :
    (∃ (ctrl : Ctrl) (speed : Fin 6) (width k : Nat) (s : State), s.ctlExists ctrl.val = false) ∧
    (∃ (ctrl : Ctrl) (speed : Fin 6) (width k : Nat) (s : State), s.ctlExists ctrl.val = true ∧
      s.hif.training[ctrl.val]? = some true ∧ speed.val ≠ 0 ∧ (width = 1 ∨ width = 2 ∨ width = 4 ∨ (s.flag
      R.HIF_CFG_X8 = true ∧ width = 8))) ∧
    (∃ (ctrl : Ctrl) (speed : Fin 6) (width k : Nat) (s : State), s.hif.training[ctrl.val]? = some false ∧ s.flag
      (R.HIF_LINK_UP ctrl.val) = false) :=
  ⟨⟨1, 5, 4, 0, up_ [], (by decide)⟩, ⟨0, 4, 4, 1, (host_ [] []).modHif (fun h =>
    { h with training := [true, false] }), (by decide)⟩, ⟨0, 4, 4, 1, host_ [] [], (by decide)⟩⟩

theorem link_and_controller_commands_complete_aerUncorrectable_meets :
    (∃ (ctrl : Ctrl) (s : State), s.ctlExists ctrl.val = false) ∧
    (∃ (ctrl : Ctrl) (s : State), s.ctlExists ctrl.val = true) :=
  ⟨⟨1, up_ [], (by decide)⟩, ⟨0, host_ [] [], (by decide)⟩⟩

theorem link_and_controller_commands_complete_controllerShutdown_meets :
    (∃ (ctrl : Ctrl) (cc : Word) (s : State), s.ctlExists ctrl.val = false) ∧
    (∃ (ctrl : Ctrl) (cc : Word) (s : State), s.ctlExists ctrl.val = true ∧ bitOf (s.ctl ctrl.val).cc 0 = true ∧
      bitOf cc.toNat 0 = true ∧ (bitsOf cc.toNat 14 2 = 1 ∨ bitsOf cc.toNat 14 2 = 2) ∧ (s.ctl ctrl.val).shst = 0) ∧
    (∃ (ctrl : Ctrl) (cc : Word) (s : State), (bitsOf cc.toNat 14 2 = 0 ∨ bitsOf cc.toNat 14 2 = 3 ∨ (s.ctl
      ctrl.val).shst ≠ 0)) :=
  ⟨⟨1, 0x464001, up_ [], (by decide)⟩, ⟨0, 0x464001, host_ [] [], (by decide)⟩, ⟨0, 0x460001, host_ [] [],
    (by decide)⟩⟩

theorem link_and_controller_commands_complete_meets :
    (∃ (n : Nat) (s : State), (s.ctl n).enWait = true ∧ s.get R.SYS_MODE_MODE ≠ 0 ∧ (s.ctl n).resetAt = none) ∧
    (∃ (n : Nat) (s : State), s.get R.SYS_MODE_MODE = 0) ∧
    (∃ (n : Nat) (s : State), ((s.modCtl n (fun x => { x with shst := 2, shut := none })).hifShow).ctlsHere.all (fun
      k => (((s.modCtl n (fun x => { x with shst := 2, shut := none })).hifShow).ctl k).shst == 2) = false) :=
  ⟨⟨0, (host_ [] []).modCtl 0 (fun x => { x with enWait := true }), (by decide)⟩, ⟨0, up_ [], (by decide)⟩, ⟨0,
    (host_ [] []).modHif (fun h => h) |>.set R.HIF_CFG_CTRL1 1, (by decide)⟩⟩

theorem link_and_controller_commands_complete_controllerResetDone_meets :
    (∃ (ctrl : Ctrl) (s : State), ((s.ctl ctrl.val).resetAt = none ∨ s.slotsOf ctrl.val ≠ 0 ∨ ∃ e, e < 4 ∧ (s.eng
      e).toHost ctrl.val = true)) ∧
    (∃ (ctrl : Ctrl) (s : State), (s.ctl ctrl.val).resetAt ≠ none ∧ s.slotsOf ctrl.val = 0 ∧ (∀ e, e < 4 → (s.eng
      e).toHost ctrl.val = false)) :=
  ⟨⟨0, up_ [], Or.inl (by decide)⟩, ⟨0, (host_ [] []).modCtl 0 (fun x => { x with resetAt := some 5 }),
    (by decide)⟩⟩

theorem link_and_controller_commands_complete_shutdownComplete_meets :
    (∃ (ctrl : Ctrl) (s : State), (s.ctl ctrl.val).shut = none) ∧
    (∃ (ctrl : Ctrl) (t : Nat) (b : Bool) (s : State), (s.ctl ctrl.val).shut = some (t, b) ∧ (s.flying ctrl.val =
      true ∨ ∃ x ∈ s.hif.cache, x.first < t)) ∧
    (∃ (ctrl : Ctrl) (t : Nat) (b : Bool) (s : State), (s.ctl ctrl.val).shut = some (t, b) ∧ s.flying ctrl.val =
      false ∧ (∀ x ∈ s.hif.cache, t ≤ x.first)) :=
  ⟨⟨0, up_ [], (by decide)⟩, ⟨0, 5, false, (io_ 1 []).modCtl 0 (fun x => { x with shut := some (5, false) }),
    ⟨by decide, Or.inl (by decide)⟩⟩, ⟨0, 5, false, (host_ [] []).modCtl 0 (fun x =>
    { x with shut := some (5, false) }), (by decide)⟩⟩

theorem link_and_controller_commands_complete_abruptShutdownTimeout_meets :
    (∃ (ctrl : Ctrl) (t : Nat) (s : State), (s.ctl ctrl.val).shut = some (t, true) ∧ t + 2000000000 ≤ s.now) ∧
    (∃ (ctrl : Ctrl) (s : State), (s.ctl ctrl.val).shut = none) ∧
    (∃ (ctrl : Ctrl) (t : Nat) (b : Bool) (s : State), (s.ctl ctrl.val).shut = some (t, b) ∧ (b = false ∨ s.now < t
      + 2000000000)) :=
  ⟨⟨0, 5, ({ host_ [] [] with now := 2000000005 }).modCtl 0 (fun x => { x with shut := some (5, true) }),
    (by decide)⟩, ⟨0, up_ [], (by decide)⟩, ⟨0, 5, true, ({ host_ [] [] with now := 2000000004 }).modCtl 0 (fun x =>
    { x with shut := some (5, true) }), (by decide)⟩⟩

theorem link_and_controller_commands_complete_nvmSubsystemReset_meets :
    (∃ (ctrl : Ctrl) (value : Word) (s : State), value.toNat ≠ 0x4E564D65) ∧
    (∃ (ctrl : Ctrl) (value : Word) (s : State), value.toNat = 0x4E564D65) :=
  ⟨⟨0, 1, up_ [], (by decide)⟩, ⟨0, 0x4E564D65, up_ [], (by decide)⟩⟩

theorem queue_commands_complete_commandFetch_meets :
    (∃ (o0 o1 : Option Sqe) (s : State), s.fetches 0 = false ∧ s.fetches 1 = false) ∧
    (∃ (e : Sqe) (o1 : Option Sqe) (s : State), s.fetches 0 = true ∧ s.fetches 1 = false) ∧
    (∃ (o0 : Option Sqe) (e : Sqe) (s : State), s.fetches 0 = false ∧ s.fetches 1 = true) ∧
    (∃ (e0 e1 : Sqe) (s : State), s.fetches 0 = true ∧ s.fetches 1 = true ∧ s.tieLast = 1) ∧
    (∃ (e0 e1 : Sqe) (s : State), s.fetches 0 = true ∧ s.fetches 1 = true ∧ s.tieLast ≠ 1) :=
  ⟨⟨some ⟨2, 0, 7, 1, []⟩, none, up_ [], (by decide)⟩, ⟨⟨2, 0, 7, 1, []⟩, none, (host_ [] []).modCtl 0 (fun x =>
    x.modSq 1 (fun q => { q with tail := 2 })), (by decide)⟩, ⟨none, ⟨2, 0, 7, 1, []⟩, ((((host_ [(R.HIF_CFG_CTRL1,
    1)] []).modHif (fun h => { h with ctls := h.ctls.reverse }))).modCtl 1 (fun x => x.modSq 1 (fun q =>
    { q with tail := 2 }))), (by decide)⟩, ⟨⟨2, 0, 7, 1, []⟩, ⟨2, 0, 8, 1, []⟩,
    { ((host_ [(R.HIF_CFG_CTRL1, 1)] []).modHif (fun h => { h with ctls := [((h.ctls[0]?).getD Ctl.init).modSq 1 (fun q => { q with tail := 2 }), ((h.ctls[0]?).getD Ctl.init).modSq 1 (fun q => { q with tail := 2 })] })) with tieLast := 1 },
    (by decide)⟩, ⟨⟨2, 0, 7, 1, []⟩, ⟨2, 0, 8, 1, []⟩,
    { ((host_ [(R.HIF_CFG_CTRL1, 1)] []).modHif (fun h => { h with ctls := [((h.ctls[0]?).getD Ctl.init).modSq 1 (fun q => { q with tail := 2 }), ((h.ctls[0]?).getD Ctl.init).modSq 1 (fun q => { q with tail := 2 })] })) with tieLast := 0 },
    (by decide)⟩⟩

theorem queue_commands_complete_sqTailDoorbell_meets :
    (∃ (ctrl : Ctrl) (y v : Nat) (s : State), (s.ctlExists ctrl.val = false ∨ (s.ctl ctrl.val).rdy = false ∨ 255 <
      y)) ∧
    (∃ (ctrl : Ctrl) (y v : Nat) (s : State), s.ctlExists ctrl.val = true ∧ (s.ctl ctrl.val).rdy = true ∧ y ≤ 255 ∧
      (s.ctl ctrl.val).sqOf y = none) ∧
    (∃ (ctrl : Ctrl) (y v : Nat) (q : SqSt) (s : State), s.ctlExists ctrl.val = true ∧ (s.ctl ctrl.val).rdy = true ∧
      y ≤ 255 ∧ (s.ctl ctrl.val).sqOf y = some q ∧ s.sqGoing ctrl.val y = false ∧ q.size ≤ v) ∧
    (∃ (ctrl : Ctrl) (y v : Nat) (q : SqSt) (s : State), s.ctlExists ctrl.val = true ∧ (s.ctl ctrl.val).rdy = true ∧
      y ≤ 255 ∧ (s.ctl ctrl.val).sqOf y = some q ∧ s.sqGoing ctrl.val y = false ∧ v < q.size) :=
  ⟨⟨0, 256, 1, host_ [] [], (by decide)⟩, ⟨0, 2, 1, host_ [] [], (by decide)⟩, ⟨0, 1, 16, ⟨1, 16, 0, 0, 1, []⟩,
    host_ [] [], (by decide)⟩, ⟨0, 1, 15, ⟨1, 16, 0, 0, 1, []⟩, host_ [] [], (by decide)⟩⟩

theorem queue_commands_complete_cqHeadDoorbell_meets :
    (∃ (ctrl : Ctrl) (y v : Nat) (s : State), (s.ctlExists ctrl.val = false ∨ (s.ctl ctrl.val).rdy = false ∨ 255 <
      y)) ∧
    (∃ (ctrl : Ctrl) (y v : Nat) (s : State), s.ctlExists ctrl.val = true ∧ (s.ctl ctrl.val).rdy = true ∧ y ≤ 255 ∧
      (s.ctl ctrl.val).cqOf y = none) ∧
    (∃ (ctrl : Ctrl) (y v : Nat) (q : CqSt) (s : State), s.ctlExists ctrl.val = true ∧ (s.ctl ctrl.val).rdy = true ∧
      y ≤ 255 ∧ (s.ctl ctrl.val).cqOf y = some q ∧ (q.size ≤ v ∨ q.posted.length < (v + q.size - q.head) % q.size))
      ∧
    (∃ (ctrl : Ctrl) (y v : Nat) (q : CqSt) (s : State), s.ctlExists ctrl.val = true ∧ (s.ctl ctrl.val).rdy = true ∧
      y ≤ 255 ∧ (s.ctl ctrl.val).cqOf y = some q ∧ v < q.size ∧ (v + q.size - q.head) % q.size ≤ q.posted.length) :=
  ⟨⟨0, 256, 1, host_ [] [], (by decide)⟩, ⟨0, 2, 1, host_ [] [], (by decide)⟩, ⟨0, 1, 3, ⟨1, 16, 0, [], true, 1⟩,
    host_ [] [], (by decide)⟩, ⟨0, 1, 0, ⟨1, 16, 0, [], true, 1⟩, host_ [] [], (by decide)⟩⟩

theorem queue_commands_complete_completionPost_meets :
    (∃ (slot : Slot) (s : State), s.cmd slot = none) ∧
    (∃ (slot : Slot) (c : CmdSlot) (s : State), s.cmd slot = some c ∧ c.res = none) ∧
    (∃ (slot : Slot) (c : CmdSlot) (q : CqSt) (s : State), s.cmd slot = some c ∧ s.cqFor c = some q ∧ q.size ≤
      q.posted.length + 1) ∧
    (∃ (slot : Slot) (c : CmdSlot) (r : CmdRes) (q : CqSt) (z : SqSt) (s : State), s.cmd slot = some c ∧ c.res =
      some r ∧ s.cqFor c = some q ∧ (s.ctl c.ctrl).sqOf c.sq = some z ∧ s.orderHeld c = false ∧ s.hif.ended.head? =
      some slot ∧ q.posted.length + 1 < q.size) :=
  ⟨⟨3, up_ [], (by decide)⟩, ⟨3, cmd_ 1 1 1 [], io_ 1 [], (by decide)⟩, ⟨3, cmd_ 1 1 1 [], ⟨1, 1, 0, [], true, 1⟩,
    (io_ 1 []).modCtl 0 (fun x => { x with cqs := [⟨1, 1, 0, [], true, 1⟩] }), (by decide)⟩, ⟨3,
    { cmd_ 1 1 1 [] with res := some ⟨⟨0, none, none, 0⟩, 0, 0, []⟩ }, ⟨⟨0, none, none, 0⟩, 0, 0, []⟩, ⟨1, 16, 0,
    [], true, 1⟩, ⟨1, 16, 0, 0, 1, []⟩, (host_ []
    [{ cmd_ 1 1 1 [] with res := some ⟨⟨0, none, none, 0⟩, 0, 0, []⟩ }]).modHif (fun h => { h with ended := [3] }),
    (by decide)⟩⟩

theorem queue_commands_complete_createIoCq_meets :
    (∃ (slot : Slot) (s : State), s.adminCmd slot 5 = none) ∧
    (∃ (slot : Slot) (c : CmdSlot) (s : State), s.adminCmd slot 5 = some c ∧ (bitsOf (c.dw 0) 0 16 = 0 ∨ 255 <
      bitsOf (c.dw 0) 0 16 ∨ (s.ctl c.ctrl).cqOf (bitsOf (c.dw 0) 0 16) ≠ none)) ∧
    (∃ (slot : Slot) (c : CmdSlot) (s : State), s.adminCmd slot 5 = some c ∧ bitsOf (c.dw 0) 0 16 ≠ 0 ∧ bitsOf (c.dw
      0) 0 16 ≤ 255 ∧ (s.ctl c.ctrl).cqOf (bitsOf (c.dw 0) 0 16) = none ∧ (bitsOf (c.dw 0) 16 16 = 0 ∨ 4095 < bitsOf
      (c.dw 0) 16 16)) ∧
    (∃ (slot : Slot) (c : CmdSlot) (s : State), s.adminCmd slot 5 = some c ∧ (s.ctl c.ctrl).cqOf (bitsOf (c.dw 0) 0
      16) = none ∧ bitsOf (c.dw 0) 0 16 ≠ 0 ∧ bitsOf (c.dw 0) 0 16 ≤ 255 ∧ bitsOf (c.dw 0) 16 16 ≠ 0 ∧ bitsOf (c.dw
      0) 16 16 ≤ 4095 ∧ bitOf (c.dw 1) 0 = true ∧ bitsOf (c.dw 1) 16 16 ≤ 255) :=
  ⟨⟨3, up_ [], (by decide)⟩, ⟨3, cmd_ 0 5 0 [0xF0001, 1], adm_ 5 0 [0xF0001, 1], (by decide)⟩, ⟨3, cmd_ 0 5 0 [0x2,
    1], adm_ 5 0 [0x2, 1], (by decide)⟩, ⟨3, cmd_ 0 5 0 [0xFFF00FF, 0xFF0003], adm_ 5 0 [0xFFF00FF, 0xFF0003],
    (by decide)⟩⟩

theorem queue_commands_complete_createIoSq_meets :
    (∃ (slot : Slot) (s : State), s.adminCmd slot 1 = none) ∧
    (∃ (slot : Slot) (c : CmdSlot) (s : State), s.adminCmd slot 1 = some c ∧ (bitsOf (c.dw 0) 0 16 = 0 ∨ 255 <
      bitsOf (c.dw 0) 0 16 ∨ (s.ctl c.ctrl).sqOf (bitsOf (c.dw 0) 0 16) ≠ none)) ∧
    (∃ (slot : Slot) (c : CmdSlot) (s : State), s.adminCmd slot 1 = some c ∧ bitsOf (c.dw 0) 0 16 ≠ 0 ∧ bitsOf (c.dw
      0) 0 16 ≤ 255 ∧ (s.ctl c.ctrl).sqOf (bitsOf (c.dw 0) 0 16) = none ∧ (bitsOf (c.dw 0) 16 16 = 0 ∨ 4095 < bitsOf
      (c.dw 0) 16 16)) ∧
    (∃ (slot : Slot) (c : CmdSlot) (s : State), s.adminCmd slot 1 = some c ∧ (s.ctl c.ctrl).sqOf (bitsOf (c.dw 0) 0
      16) = none ∧ bitsOf (c.dw 0) 0 16 ≠ 0 ∧ bitsOf (c.dw 0) 0 16 ≤ 255 ∧ bitsOf (c.dw 0) 16 16 ≠ 0 ∧ bitsOf (c.dw
      0) 16 16 ≤ 4095 ∧ bitOf (c.dw 1) 0 = true ∧ bitsOf (c.dw 1) 16 16 ≠ 0 ∧ (s.ctl c.ctrl).cqOf (bitsOf (c.dw 1)
      16 16) ≠ none ∧ s.cqGoing c (bitsOf (c.dw 1) 16 16) = false) :=
  ⟨⟨3, up_ [], (by decide)⟩, ⟨3, cmd_ 0 1 0 [0xF0001, 1], adm_ 1 0 [0xF0001, 1], (by decide)⟩, ⟨3, cmd_ 0 1 0 [0x2,
    1], adm_ 1 0 [0x2, 1], (by decide)⟩, ⟨3, cmd_ 0 1 0 [0xFFF00FF, 0x10001], adm_ 1 0 [0xFFF00FF, 0x10001],
    (by decide)⟩⟩

theorem queue_commands_complete_deleteIoCq_meets :
    (∃ (slot : Slot) (s : State), s.adminCmd slot 4 = none) ∧
    (∃ (slot : Slot) (c : CmdSlot) (s : State), s.adminCmd slot 4 = some c ∧ bitsOf (c.dw 0) 0 16 ≠ 0 ∧ bitsOf (c.dw
      0) 0 16 ≤ 255 ∧ (s.ctl c.ctrl).cqOf (bitsOf (c.dw 0) 0 16) ≠ none ∧ (∃ q ∈ (s.ctl c.ctrl).sqs, q.cq = bitsOf
      (c.dw 0) 0 16)) ∧
    (∃ (slot : Slot) (c : CmdSlot) (s : State), s.adminCmd slot 4 = some c ∧ bitsOf (c.dw 0) 0 16 ≠ 0 ∧ bitsOf (c.dw
      0) 0 16 ≤ 255 ∧ (s.ctl c.ctrl).cqOf (bitsOf (c.dw 0) 0 16) ≠ none ∧ (∀ q ∈ (s.ctl c.ctrl).sqs, q.cq ≠ bitsOf
      (c.dw 0) 0 16)) :=
  ⟨⟨3, up_ [], (by decide)⟩, ⟨3, cmd_ 0 4 0 [1], adm_ 4 0 [1], (by decide)⟩, ⟨3, cmd_ 0 4 0 [1], (adm_ 4 0
    [1]).modCtl 0 (fun x => { x with sqs := [] }), (by decide)⟩⟩

theorem queue_commands_complete_deleteIoSq_meets :
    (∃ (slot : Slot) (s : State), s.adminCmd slot 0 = none) ∧
    (∃ (slot : Slot) (c : CmdSlot) (s : State), s.adminCmd slot 0 = some c ∧ (bitsOf (c.dw 0) 0 16 = 0 ∨ 255 <
      bitsOf (c.dw 0) 0 16 ∨ (s.ctl c.ctrl).sqOf (bitsOf (c.dw 0) 0 16) = none)) ∧
    (∃ (slot : Slot) (c : CmdSlot) (s : State), s.adminCmd slot 0 = some c ∧ bitsOf (c.dw 0) 0 16 ≠ 0 ∧ bitsOf (c.dw
      0) 0 16 ≤ 255 ∧ (s.ctl c.ctrl).sqOf (bitsOf (c.dw 0) 0 16) ≠ none ∧ (∀ d ∈ s.hif.slots, d.ctrl = c.ctrl → d.sq
      ≠ bitsOf (c.dw 0) 0 16)) :=
  ⟨⟨3, up_ [], (by decide)⟩, ⟨3, cmd_ 0 0 0 [2], adm_ 0 0 [2], (by decide)⟩, ⟨3, cmd_ 0 0 0 [1], adm_ 0 0 [1],
    (by decide)⟩⟩

theorem queue_commands_complete_opAbort_meets :
    (∃ (slot : Slot) (s : State), s.adminCmd slot 8 = none) ∧
    (∃ (slot : Slot) (c : CmdSlot) (s : State), s.adminCmd slot 8 = some c ∧ c.started = false ∧ 4 ≤
      (s.hif.slots.filter (fun d => d.ctrl == c.ctrl && !d.isIo && d.e.opc == 0x08 && d.res.isNone && decide
      (d.stamp < c.stamp))).length) ∧
    (∃ (slot : Slot) (c : CmdSlot) (d : CmdSlot) (s : State), s.adminCmd slot 8 = some c ∧ c.started = false ∧
      (s.hif.slots.filter (fun d => d.ctrl == c.ctrl && !d.isIo && d.e.opc == 0x08 && d.res.isNone && decide
      (d.stamp < c.stamp))).length < 4 ∧ s.hif.slots.find? (fun d => d.ctrl == c.ctrl && d.sq == bitsOf (c.dw 0) 0
      16 && d.e.cid == bitsOf (c.dw 0) 16 16 && d.no != slot) = some d ∧ d.res = none ∧ d.handed = false ∧ d.effect
      = false) ∧
    (∃ (slot : Slot) (c : CmdSlot) (d : CmdSlot) (s : State), s.adminCmd slot 8 = some c ∧ c.started = false ∧
      (s.hif.slots.filter (fun d => d.ctrl == c.ctrl && !d.isIo && d.e.opc == 0x08 && d.res.isNone && decide
      (d.stamp < c.stamp))).length < 4 ∧ s.hif.slots.find? (fun d => d.ctrl == c.ctrl && d.sq == bitsOf (c.dw 0) 0
      16 && d.e.cid == bitsOf (c.dw 0) 16 16 && d.no != slot) = some d ∧ (d.res ≠ none ∨ d.handed = true ∨ d.effect
      = true)) ∧
    (∃ (slot : Slot) (c : CmdSlot) (s : State), s.adminCmd slot 8 = some c ∧ c.started = false ∧ (s.hif.slots.filter
      (fun d => d.ctrl == c.ctrl && !d.isIo && d.e.opc == 0x08 && d.res.isNone && decide (d.stamp <
      c.stamp))).length < 4 ∧ s.hif.slots.find? (fun d => d.ctrl == c.ctrl && d.sq == bitsOf (c.dw 0) 0 16 &&
      d.e.cid == bitsOf (c.dw 0) 16 16 && d.no != slot) = none ∧ (s.ctl c.ctrl).sqOf (bitsOf (c.dw 0) 0 16) = none)
      :=
  ⟨⟨3, up_ [], (by decide)⟩, ⟨3, cmd_ 0 8 0 [1], host_ [] (cmd_ 0 8 0 [1] :: List.replicate 4
    { cmd_ 0 8 0 [1] with no := 5, stamp := 4 }), (by decide)⟩, ⟨3, cmd_ 0 8 0 [0x70001],
    { cmd_ 1 2 1 [] with no := 5 }, host_ [] [cmd_ 0 8 0 [0x70001], { cmd_ 1 2 1 [] with no := 5 }], (by decide)⟩,
    ⟨3, cmd_ 0 8 0 [0x70001], { cmd_ 1 2 1 [] with no := 5, handed := true }, host_ [] [cmd_ 0 8 0 [0x70001],
    { cmd_ 1 2 1 [] with no := 5, handed := true }], (by decide)⟩, ⟨3, cmd_ 0 8 0 [0x70005], adm_ 8 0 [0x70005],
    (by decide)⟩⟩

theorem queue_commands_complete_setFeaturesNumberOfQueues_meets :
    (∃ (slot : Slot) (s : State), s.setCmd slot 7 = none) ∧
    (∃ (slot : Slot) (c : CmdSlot) (s : State), s.setCmd slot 7 = some c ∧ bitOf (c.dw 0) 31 = false ∧ ((s.ctl
      c.ctrl).nqAsked = false ∨ (s.ctl c.ctrl).ioMade = false)) :=
  ⟨⟨3, up_ [], (by decide)⟩, ⟨3, cmd_ 0 9 0 [7], adm_ 9 0 [7], (by decide)⟩⟩

theorem queue_commands_complete_setFeaturesQueueOrder_meets :
    (∃ (slot : Slot) (s : State), s.setCmd slot 193 = none) ∧
    (∃ (slot : Slot) (c : CmdSlot) (s : State), s.setCmd slot 0xC1 = some c ∧ bitOf (c.dw 0) 31 = false ∧ bitsOf
      (c.dw 1) 0 16 ≠ 0 ∧ (s.ctl c.ctrl).sqOf (bitsOf (c.dw 1) 0 16) ≠ none) :=
  ⟨⟨3, up_ [], (by decide)⟩, ⟨3, cmd_ 0 9 0 [0xC1, 0x10001], adm_ 9 0 [0xC1, 0x10001], (by decide)⟩⟩

theorem queue_commands_complete_setFeaturesCompletionStamp_meets :
    (∃ (slot : Slot) (s : State), s.setCmd slot 194 = none) ∧
    (∃ (slot : Slot) (c : CmdSlot) (s : State), s.setCmd slot 0xC2 = some c ∧ bitOf (c.dw 0) 31 = false) :=
  ⟨⟨3, up_ [], (by decide)⟩, ⟨3, cmd_ 0 9 0 [0xC2, 1], adm_ 9 0 [0xC2, 1], (by decide)⟩⟩

theorem feature_commands_complete_setFeaturesPowerMgmt_meets :
    (∃ (slot : Slot) (s : State), s.setCmd slot 2 = none) ∧
    (∃ (slot : Slot) (c : CmdSlot) (s : State), s.setCmd slot 2 = some c ∧ bitOf (c.dw 0) 31 = true) ∧
    (∃ (slot : Slot) (c : CmdSlot) (s : State), s.setCmd slot 2 = some c ∧ bitOf (c.dw 0) 31 = false ∧ (s.get
      R.SYS_MODE_MODE = 11 ∨ s.get R.SYS_MODE_TARGET = 11)) ∧
    (∃ (slot : Slot) (c : CmdSlot) (s : State), s.setCmd slot 2 = some c ∧ bitOf (c.dw 0) 31 = false ∧ s.get
      R.SYS_MODE_MODE ≠ 11 ∧ s.get R.SYS_MODE_TARGET ≠ 11 ∧ 3 < bitsOf (c.dw 1) 0 5) ∧
    (∃ (slot : Slot) (c : CmdSlot) (s : State), s.setCmd slot 2 = some c ∧ bitOf (c.dw 0) 31 = false ∧ s.get
      R.SYS_MODE_MODE ≠ 11 ∧ s.get R.SYS_MODE_TARGET ≠ 11 ∧ bitsOf (c.dw 1) 0 5 ≤ 3) :=
  ⟨⟨3, up_ [], (by decide)⟩, ⟨3, cmd_ 0 9 0 [0x80000002], adm_ 9 0 [0x80000002], (by decide)⟩, ⟨3, cmd_ 0 9 0 [2,
    1], host_ [(R.SYS_MODE_MODE, 11)] [cmd_ 0 9 0 [2, 1]], (by decide)⟩, ⟨3, cmd_ 0 9 0 [2, 4], adm_ 9 0 [2, 4],
    (by decide)⟩, ⟨3, cmd_ 0 9 0 [2, 3], adm_ 9 0 [2, 3], (by decide)⟩⟩

theorem feature_commands_complete_setFeaturesSpinupControl_meets :
    (∃ (slot : Slot) (s : State), s.setCmd slot 26 = none) ∧
    (∃ (slot : Slot) (c : CmdSlot) (s : State), s.setCmd slot 26 = some c ∧ bitOf (c.dw 0) 31 = true) ∧
    (∃ (slot : Slot) (c : CmdSlot) (s : State), s.setCmd slot 0x1A = some c ∧ bitOf (c.dw 0) 31 = false) :=
  ⟨⟨3, up_ [], (by decide)⟩, ⟨3, cmd_ 0 9 0 [0x8000001A], adm_ 9 0 [0x8000001A], (by decide)⟩, ⟨3, cmd_ 0 9 0 [0x1A,
    1], adm_ 9 0 [0x1A, 1], (by decide)⟩⟩

theorem feature_commands_complete_setFeaturesDeviceMode_meets :
    (∃ (slot : Slot) (s : State), s.setCmd slot 192 = none) ∧
    (∃ (slot : Slot) (c : CmdSlot) (s : State), s.setCmd slot 192 = some c ∧ bitOf (c.dw 0) 31 = true) ∧
    (∃ (slot : Slot) (c : CmdSlot) (st : Cst) (s : State), s.setCmd slot 0xC0 = some c ∧ bitOf (c.dw 0) 31 = false ∧
      bitOf (c.dw 1) 9 = false ∧ s.modeCheck (bitsOf (c.dw 1) 0 4) = some st) ∧
    (∃ (slot : Slot) (c : CmdSlot) (s : State), s.setCmd slot 0xC0 = some c ∧ bitOf (c.dw 0) 31 = false ∧ bitOf
      (c.dw 1) 9 = false ∧ s.modeCheck (bitsOf (c.dw 1) 0 4) = none) ∧
    (∃ (slot : Slot) (c : CmdSlot) (s : State), s.setCmd slot 0xC0 = some c ∧ bitOf (c.dw 0) 31 = false ∧ bitOf
      (c.dw 1) 9 = true ∧ s.limping = false) ∧
    (∃ (slot : Slot) (c : CmdSlot) (s : State), s.setCmd slot 0xC0 = some c ∧ bitOf (c.dw 0) 31 = false ∧ bitOf
      (c.dw 1) 9 = true ∧ s.limping = true) :=
  ⟨⟨3, up_ [], (by decide)⟩, ⟨3, cmd_ 0 9 0 [0x800000C0], adm_ 9 0 [0x800000C0], (by decide)⟩, ⟨3, cmd_ 0 9 0 [0xC0,
    0], cst scField, adm_ 9 0 [0xC0, 0], (by decide)⟩, ⟨3, cmd_ 0 9 0 [0xC0, 5], host_ [(R.SYS_MODE_POLICY_ALLOW,
    0xFFF)] [cmd_ 0 9 0 [0xC0, 5]], (by decide)⟩, ⟨3, cmd_ 0 9 0 [0xC0, 0x200], adm_ 9 0 [0xC0, 0x200],
    (by decide)⟩, ⟨3, cmd_ 0 9 0 [0xC0, 0x200], host_ [(R.SYS_MODE_MODE, 10)] [cmd_ 0 9 0 [0xC0, 0x200]],
    (by decide)⟩⟩

theorem feature_commands_complete_setFeaturesCompressionLevel_meets :
    (∃ (slot : Slot) (s : State), s.setCmd slot 195 = none) ∧
    (∃ (slot : Slot) (c : CmdSlot) (s : State), s.setCmd slot 195 = some c ∧ bitOf (c.dw 0) 31 = true) ∧
    (∃ (slot : Slot) (c : CmdSlot) (s : State), s.setCmd slot 0xC3 = some c ∧ bitOf (c.dw 0) 31 = false ∧ s.packedNs
      c = none) ∧
    (∃ (slot : Slot) (c : CmdSlot) (n : NsSt) (s : State), s.setCmd slot 0xC3 = some c ∧ bitOf (c.dw 0) 31 = false ∧
      s.packedNs c = some n ∧ 9 ≤ bitsOf (c.dw 1) 0 4) ∧
    (∃ (slot : Slot) (c : CmdSlot) (n : NsSt) (s : State), s.setCmd slot 0xC3 = some c ∧ bitOf (c.dw 0) 31 = false ∧
      s.packedNs c = some n ∧ bitsOf (c.dw 1) 0 4 ≤ 8) :=
  ⟨⟨3, up_ [], (by decide)⟩, ⟨3, cmd_ 0 9 0 [0x800000C3], adm_ 9 0 [0x800000C3], (by decide)⟩, ⟨3, cmd_ 0 9 1 [0xC3,
    3], adm_ 9 1 [0xC3, 3], (by decide)⟩, ⟨3, cmd_ 0 9 1 [0xC3, 9], ⟨1, 512, 0, true, false, 0, [0], [true, true],
    [], none, ⟨[], none, 0, 0, false⟩⟩, (host_ [] [cmd_ 0 9 1 [0xC3, 9]]).modHif (fun h =>
    { h with nss := [⟨1, 512, 0, true, false, 0, [0], [true, true], [], none, ⟨[], none, 0, 0, false⟩⟩] }),
    (by decide)⟩, ⟨3, cmd_ 0 9 1 [0xC3, 8], ⟨1, 512, 0, true, false, 0, [0], [true, true], [], none, ⟨[], none, 0,
    0, false⟩⟩, (host_ [] [cmd_ 0 9 1 [0xC3, 8]]).modHif (fun h =>
    { h with nss := [⟨1, 512, 0, true, false, 0, [0], [true, true], [], none, ⟨[], none, 0, 0, false⟩⟩] }),
    (by decide)⟩⟩

theorem feature_commands_complete_setFeatures_meets :
    (∃ (slot : Slot) (xfer : Xfer) (s : State), s.adminCmd slot 9 = none) ∧
    (∃ (slot : Slot) (xfer : Xfer) (c : CmdSlot) (s : State), s.adminCmd slot 9 = some c ∧ isFeature c.fid = false)
      ∧
    (∃ (slot : Slot) (xfer : Xfer) (c : CmdSlot) (s : State), s.adminCmd slot 9 = some c ∧ c.fid = 0x01 ∧ xfer.dptr
      = 0 ∧ bitOf (c.dw 0) 31 = false) ∧
    (∃ (slot : Slot) (xfer : Xfer) (c : CmdSlot) (s : State), s.adminCmd slot 9 = some c ∧ c.fid = 0x08 ∧ xfer.dptr
      = 0 ∧ bitOf (c.dw 0) 31 = false) ∧
    (∃ (slot : Slot) (xfer : Xfer) (c : CmdSlot) (s : State), s.adminCmd slot 9 = some c ∧ c.fid = 0x06 ∧ xfer.dptr
      = 0 ∧ bitOf (c.dw 0) 31 = false) :=
  ⟨⟨3, ⟨0, [], 0⟩, up_ [], (by decide)⟩, ⟨3, ⟨0, [], 0⟩, cmd_ 0 9 0 [3], adm_ 9 0 [3], (by decide)⟩, ⟨3, ⟨0, [], 0⟩,
    cmd_ 0 9 0 [1, 7], adm_ 9 0 [1, 7], (by decide)⟩, ⟨3, ⟨0, [], 0⟩, cmd_ 0 9 0 [8, 7], adm_ 9 0 [8, 7],
    (by decide)⟩, ⟨3, ⟨0, [], 0⟩, cmd_ 0 9 0 [6, 7], adm_ 9 0 [6, 7], (by decide)⟩⟩

theorem feature_commands_complete_getFeatures_meets :
    (∃ (slot : Slot) (xfer : Xfer) (s : State), s.adminCmd slot 10 = none) ∧
    (∃ (slot : Slot) (xfer : Xfer) (c : CmdSlot) (s : State), s.adminCmd slot 10 = some c ∧ c.fid ≠ 0xC0 ∧
      (isFeature c.fid = false ∨ 3 < bitsOf (c.dw 0) 8 3)) ∧
    (∃ (slot : Slot) (xfer : Xfer) (c : CmdSlot) (s : State), s.adminCmd slot 10 = some c ∧ c.fid = 0x01 ∧ bitsOf
      (c.dw 0) 8 3 = 0) ∧
    (∃ (slot : Slot) (xfer : Xfer) (c : CmdSlot) (s : State), s.adminCmd slot 10 = some c ∧ c.fid = 0x01 ∧ bitsOf
      (c.dw 0) 8 3 = 3) :=
  ⟨⟨3, ⟨0, [], 0⟩, up_ [], (by decide)⟩, ⟨3, ⟨0, [], 0⟩, cmd_ 0 10 0 [0x401], adm_ 10 0 [0x401], (by decide)⟩, ⟨3,
    ⟨0, [], 0⟩, cmd_ 0 10 0 [1], adm_ 10 0 [1], (by decide)⟩, ⟨3, ⟨0, [], 0⟩, cmd_ 0 10 0 [0x301], adm_ 10 0
    [0x301], (by decide)⟩⟩

theorem feature_commands_complete_getFeaturesDeviceMode_meets :
    (∃ (slot : Slot) (s : State), s.adminCmd slot 10 = none) ∧
    (∃ (slot : Slot) (c : CmdSlot) (s : State), s.adminCmd slot 10 = some c ∧ c.fid = 0xC0 ∧ bitsOf (c.dw 0) 8 3 =
      0) ∧
    (∃ (slot : Slot) (c : CmdSlot) (s : State), s.adminCmd slot 10 = some c ∧ c.fid = 0xC0 ∧ 3 < bitsOf (c.dw 0) 8
      3) :=
  ⟨⟨3, up_ [], (by decide)⟩, ⟨3, cmd_ 0 10 0 [0xC0], adm_ 10 0 [0xC0], (by decide)⟩, ⟨3, cmd_ 0 10 0 [0x4C0], adm_
    10 0 [0x4C0], (by decide)⟩⟩

theorem feature_commands_complete_asyncEventRequest_meets :
    (∃ (slot : Slot) (s : State), s.adminCmd slot 12 = none) ∧
    (∃ (slot : Slot) (c : CmdSlot) (s : State), s.adminCmd slot 12 = some c ∧ c.started = false ∧ 4 ≤
      (s.hif.slots.filter (fun d => d.ctrl == c.ctrl && !d.isIo && d.e.opc == 0x0C && d.res.isNone &&
      d.started)).length) ∧
    (∃ (slot : Slot) (c : CmdSlot) (s : State), s.adminCmd slot 12 = some c ∧ c.started = false ∧
      (s.hif.slots.filter (fun d => d.ctrl == c.ctrl && !d.isIo && d.e.opc == 0x0C && d.res.isNone &&
      d.started)).length ≤ 3 ∧ (s.ctl c.ctrl).events = []) ∧
    (∃ (slot : Slot) (c : CmdSlot) (e : AsyncEv) (r : List AsyncEv) (s : State), s.adminCmd slot 12 = some c ∧
      c.started = false ∧ (s.hif.slots.filter (fun d => d.ctrl == c.ctrl && !d.isIo && d.e.opc == 0x0C &&
      d.res.isNone && d.started)).length ≤ 3 ∧ (s.ctl c.ctrl).events = e :: r) :=
  ⟨⟨3, up_ [], (by decide)⟩, ⟨3, cmd_ 0 12 0 [], host_ [] (cmd_ 0 12 0 [] :: List.replicate 4
    { cmd_ 0 12 0 [] with no := 5, started := true }), (by decide)⟩, ⟨3, cmd_ 0 12 0 [], adm_ 12 0 [], (by decide)⟩,
    ⟨3, cmd_ 0 12 0 [], ⟨2, 0, 4⟩, [], (adm_ 12 0 []).modCtl 0 (fun x => { x with events := [⟨2, 0, 4⟩] }),
    (by decide)⟩⟩

theorem log_identify_and_test_commands_complete_getLogPage_meets :
    (∃ (slot : Slot) (xfer : Xfer) (s : State), s.adminCmd slot 2 = none) ∧
    (∃ (slot : Slot) (xfer : Xfer) (c : CmdSlot) (s : State), s.adminCmd slot 2 = some c ∧ isLogPage (bitsOf (c.dw
      0) 0 8) = false) ∧
    (∃ (slot : Slot) (xfer : Xfer) (c : CmdSlot) (s : State), s.adminCmd slot 2 = some c ∧ isLogPage (bitsOf (c.dw
      0) 0 8) = true ∧ (c.dw 2 + 2 ^ 32 * c.dw 3) % 4 ≠ 0) ∧
    (∃ (slot : Slot) (xfer : Xfer) (c : CmdSlot) (s : State), s.adminCmd slot 2 = some c ∧ isLogPage (bitsOf (c.dw
      0) 0 8) = true ∧ (c.dw 2 + 2 ^ 32 * c.dw 3) % 4 = 0 ∧ (if 0xC0 ≤ bitsOf (c.dw 0) 0 8 then c.dw 2 + 2 ^ 32 *
      c.dw 3 < logLength (bitsOf (c.dw 0) 0 8) else c.dw 2 + 2 ^ 32 * c.dw 3 ≤ logLength (bitsOf (c.dw 0) 0 8)) ∧
      xfer.dptr = 0 ∧ (bitsOf (c.dw 0) 0 8 < 0xC0 ∨ bitsOf (c.dw 0) 8 7 = 0) ∧ bitOf (c.dw 0) 15 = true) ∧
    (∃ (slot : Slot) (xfer : Xfer) (c : CmdSlot) (s : State), s.adminCmd slot 2 = some c ∧ isLogPage (bitsOf (c.dw
      0) 0 8) = true ∧ (c.dw 2 + 2 ^ 32 * c.dw 3) % 4 = 0 ∧ (if 0xC0 ≤ bitsOf (c.dw 0) 0 8 then c.dw 2 + 2 ^ 32 *
      c.dw 3 < logLength (bitsOf (c.dw 0) 0 8) else c.dw 2 + 2 ^ 32 * c.dw 3 ≤ logLength (bitsOf (c.dw 0) 0 8)) ∧
      xfer.dptr = 0 ∧ bitsOf (c.dw 0) 0 8 = 0xC2 ∧ bitsOf (c.dw 0) 8 7 = 1 ∧ bitOf (c.dw 0) 15 = true) ∧
    (∃ (slot : Slot) (xfer : Xfer) (c : CmdSlot) (s : State), s.adminCmd slot 2 = some c ∧ isLogPage (bitsOf (c.dw
      0) 0 8) = true ∧ (c.dw 2 + 2 ^ 32 * c.dw 3) % 4 = 0 ∧ (if 0xC0 ≤ bitsOf (c.dw 0) 0 8 then c.dw 2 + 2 ^ 32 *
      c.dw 3 < logLength (bitsOf (c.dw 0) 0 8) else c.dw 2 + 2 ^ 32 * c.dw 3 ≤ logLength (bitsOf (c.dw 0) 0 8)) ∧
      xfer.dptr = 1 ∧ bitsOf (c.dw 0) 0 8 < 0xC0) :=
  ⟨⟨3, ⟨0, [], 0⟩, up_ [], (by decide)⟩, ⟨3, ⟨0, [], 0⟩, cmd_ 0 2 0 [0x7F], adm_ 2 0 [0x7F], (by decide)⟩, ⟨3, ⟨0,
    [], 0⟩, cmd_ 0 2 0 [0xC0, 0, 2, 0], adm_ 2 0 [0xC0, 0, 2, 0], (by decide)⟩, ⟨3, ⟨0, [], 0⟩, cmd_ 0 2 0 [0x80C0,
    0, 508, 0], adm_ 2 0 [0x80C0, 0, 508, 0], (by decide)⟩, ⟨3, ⟨0, [], 0⟩, cmd_ 0 2 0 [0x81C2, 0, 0, 0], adm_ 2 0
    [0x81C2, 0, 0, 0], (by decide)⟩, ⟨3, ⟨1, [], 0⟩, cmd_ 0 2 0 [0x8002, 0, 0, 0], adm_ 2 0 [0x8002, 0, 0, 0],
    (by decide)⟩⟩

theorem log_identify_and_test_commands_complete_identify_meets :
    (∃ (slot : Slot) (xfer : Xfer) (s : State), s.adminCmd slot 6 = none) ∧
    (∃ (slot : Slot) (xfer : Xfer) (c : CmdSlot) (st : Nat) (s : State), s.adminCmd slot 6 = some c ∧ s.identifyData
      c = .inl st) ∧
    (∃ (slot : Slot) (xfer : Xfer) (c : CmdSlot) (bs : List Byte) (s : State), s.adminCmd slot 6 = some c ∧
      s.identifyData c = .inr bs ∧ xfer.dptr = 0) :=
  ⟨⟨3, ⟨0, [], 0⟩, up_ [], (by decide)⟩, ⟨3, ⟨0, [], 0⟩, cmd_ 0 6 0 [0x77], scField, adm_ 6 0 [0x77], ⟨by decide, by
    rfl⟩⟩, ⟨3, ⟨0, [], 0⟩, cmd_ 0 6 0 [0x01], (adm_ 6 0 [0x01]).idController 0, adm_ 6 0 [0x01], ⟨by decide, by rfl,
    by decide⟩⟩⟩

theorem log_identify_and_test_commands_complete_directiveSend_meets :
    (∃ (slot : Slot) (xfer : Xfer) (s : State), s.adminCmd slot 25 = none) ∧
    (∃ (slot : Slot) (xfer : Xfer) (c : CmdSlot) (s : State), s.adminCmd slot 0x19 = some c ∧ xfer.dptr = 0 ∧ bitsOf
      (c.dw 1) 8 8 = 0 ∧ bitsOf (c.dw 1) 0 8 = 1 ∧ bitsOf (c.dw 2) 8 8 = 1) ∧
    (∃ (slot : Slot) (xfer : Xfer) (c : CmdSlot) (s : State), s.adminCmd slot 0x19 = some c ∧ xfer.dptr = 0 ∧ bitsOf
      (c.dw 1) 8 8 = 1 ∧ cnt (s.ctl c.ctrl).feats 0xD1 = 1 ∧ bitsOf (c.dw 1) 0 8 = 2) ∧
    (∃ (slot : Slot) (xfer : Xfer) (c : CmdSlot) (s : State), s.adminCmd slot 0x19 = some c ∧ xfer.dptr = 0 ∧ bitsOf
      (c.dw 1) 8 8 = 1 ∧ cnt (s.ctl c.ctrl).feats 0xD1 ≠ 1) :=
  ⟨⟨3, ⟨0, [], 0⟩, up_ [], (by decide)⟩, ⟨3, ⟨0, [], 0⟩, cmd_ 0 25 0 [0, 1, 0x101], adm_ 25 0 [0, 1, 0x101],
    (by decide)⟩, ⟨3, ⟨0, [], 0⟩, cmd_ 0 0x19 0 [0, 0x102], (adm_ 0x19 0 [0, 0x102]).setFeat 0 0xD1 1, (by decide)⟩,
    ⟨3, ⟨0, [], 0⟩, cmd_ 0 25 0 [0, 0x102], adm_ 25 0 [0, 0x102], (by decide)⟩⟩

theorem log_identify_and_test_commands_complete_directiveReceive_meets :
    (∃ (slot : Slot) (xfer : Xfer) (s : State), s.adminCmd slot 26 = none) ∧
    (∃ (slot : Slot) (xfer : Xfer) (c : CmdSlot) (s : State), s.adminCmd slot 0x1A = some c ∧ xfer.dptr = 0 ∧ bitsOf
      (c.dw 1) 8 8 = 1 ∧ cnt (s.ctl c.ctrl).feats 0xD1 = 1 ∧ bitsOf (c.dw 1) 0 8 = 2) ∧
    (∃ (slot : Slot) (xfer : Xfer) (c : CmdSlot) (s : State), s.adminCmd slot 0x1A = some c ∧ bitsOf (c.dw 1) 8 8 =
      1 ∧ cnt (s.ctl c.ctrl).feats 0xD1 ≠ 1) :=
  ⟨⟨3, ⟨0, [], 0⟩, up_ [], (by decide)⟩, ⟨3, ⟨0, [], 0⟩, cmd_ 0 0x1A 0 [0, 0x102], (adm_ 0x1A 0 [0, 0x102]).setFeat
    0 0xD1 1, (by decide)⟩, ⟨3, ⟨0, [], 0⟩, cmd_ 0 26 0 [0, 0x102], adm_ 26 0 [0, 0x102], (by decide)⟩⟩

theorem log_identify_and_test_commands_complete_meets :
    ∃ (c : CmdSlot) (s : State), bitsOf (c.dw 0) 0 8 = 0x01 :=
  ⟨cmd_ 0 6 0 [0x01], up_ [], (by decide)⟩

theorem log_identify_and_test_commands_complete_deviceSelfTest_meets :
    (∃ (slot : Slot) (s : State), s.adminCmd slot 0x14 = none) ∧
    (∃ (slot : Slot) (c : CmdSlot) (s : State), s.adminCmd slot 0x14 = some c ∧ bitsOf (c.dw 0) 0 4 = 1 ∧
      s.hif.selfTest = 0) ∧
    (∃ (slot : Slot) (c : CmdSlot) (s : State), s.adminCmd slot 0x14 = some c ∧ bitsOf (c.dw 0) 0 4 = 1 ∧
      s.hif.selfTest ≠ 0) ∧
    (∃ (slot : Slot) (c : CmdSlot) (s : State), s.adminCmd slot 0x14 = some c ∧ bitsOf (c.dw 0) 0 4 = 2 ∧
      s.hif.selfTest = 0) ∧
    (∃ (slot : Slot) (c : CmdSlot) (s : State), s.adminCmd slot 0x14 = some c ∧ bitsOf (c.dw 0) 0 4 = 2 ∧
      s.hif.selfTest ≠ 0) ∧
    (∃ (slot : Slot) (c : CmdSlot) (s : State), s.adminCmd slot 0x14 = some c ∧ bitsOf (c.dw 0) 0 4 = 15 ∧
      s.hif.selfTest ≠ 0) ∧
    (∃ (slot : Slot) (r : Nat) (s : State), s.hif.selfTest ≠ 0) ∧
    (∃ (slot : Slot) (r : Nat) (s : State), s.hif.selfTest = 0) :=
  ⟨⟨3, up_ [], (by decide)⟩, ⟨3, cmd_ 0 20 0 [1], adm_ 20 0 [1], (by decide)⟩, ⟨3, cmd_ 0 0x14 0 [1], (adm_ 0x14 0
    [1]).modHif (fun h => { h with selfTest := 1 }), (by decide)⟩, ⟨3, cmd_ 0 20 0 [2], adm_ 20 0 [2], (by decide)⟩,
    ⟨3, cmd_ 0 0x14 0 [2], (adm_ 0x14 0 [2]).modHif (fun h => { h with selfTest := 1 }), (by decide)⟩, ⟨3, cmd_ 0
    0x14 0 [15], (adm_ 0x14 0 [15]).modHif (fun h => { h with selfTest := 1 }), (by decide)⟩, ⟨3, 0, (adm_ 0x14 0
    [15]).modHif (fun h => { h with selfTest := 1 }), (by decide)⟩, ⟨3, 0, up_ [], (by decide)⟩⟩

theorem namespace_commands_complete_namespaceManagement_meets :
    (∃ (slot : Slot) (xfer : Xfer) (s : State), s.adminCmd slot 13 = none) ∧
    (∃ (slot : Slot) (xfer : Xfer) (c : CmdSlot) (s : State), s.adminCmd slot 13 = some c ∧ s.nsServed = false) ∧
    (∃ (slot : Slot) (xfer : Xfer) (c : CmdSlot) (s : State), s.adminCmd slot 13 = some c ∧ s.nsServed = true ∧
      s.earlier c (fun d => d.e.opc == 0x0D) = false ∧ 2 ≤ bitsOf (c.dw 0) 0 4) ∧
    (∃ (slot : Slot) (xfer : Xfer) (c : CmdSlot) (s : State), s.adminCmd slot 13 = some c ∧ s.nsServed = true ∧
      s.earlier c (fun d => d.e.opc == 0x0D) = false ∧ bitsOf (c.dw 0) 0 4 = 1 ∧ c.e.nsid ≠ 0xFFFFFFFF ∧ (∀ n ∈
      s.hif.nss, n.id ≠ c.e.nsid)) ∧
    (∃ (slot : Slot) (xfer : Xfer) (c : CmdSlot) (n : NsSt) (s : State), s.adminCmd slot 13 = some c ∧ s.nsServed =
      true ∧ s.earlier c (fun d => d.e.opc == 0x0D) = false ∧ bitsOf (c.dw 0) 0 4 = 1 ∧ s.hif.nss.filter (fun n =>
      n.id == c.e.nsid || c.e.nsid == 0xFFFFFFFF) = [n] ∧ n.packed = false) ∧
    (∃ (slot : Slot) (xfer : Xfer) (c : CmdSlot) (s : State), s.adminCmd slot 13 = some c ∧ s.nsServed = true ∧
      s.earlier c (fun d => d.e.opc == 0x0D) = false ∧ bitsOf (c.dw 0) 0 4 = 0 ∧ xfer.dptr = 0) :=
  ⟨⟨3, ⟨0, [], 0⟩, up_ [], (by decide)⟩, ⟨3, ⟨0, [], 0⟩, cmd_ 0 13 1 [1], host_ [(R.SYS_MODE_MODE, 1)] [cmd_ 0 13 1
    [1]], (by decide)⟩, ⟨3, ⟨0, [], 0⟩, cmd_ 0 13 1 [2], adm_ 13 1 [2], (by decide)⟩, ⟨3, ⟨0, [], 0⟩, cmd_ 0 13 9
    [1], adm_ 13 9 [1], (by decide)⟩, ⟨3, ⟨0, [], 0⟩, cmd_ 0 13 1 [1], ⟨1, 1000, 0, false, false, 0, [4], [true,
    true], [], none, ⟨[], none, 0, 0, false⟩⟩, adm_ 13 1 [1], (by decide)⟩, ⟨3, ⟨0, [], 0⟩, cmd_ 0 13 0 [0], adm_ 13
    0 [0], (by decide)⟩⟩

theorem namespace_commands_complete_namespaceAttachment_meets :
    (∃ (slot : Slot) (xfer : Xfer) (s : State), s.adminCmd slot 21 = none) ∧
    (∃ (slot : Slot) (xfer : Xfer) (c : CmdSlot) (s : State), s.adminCmd slot 21 = some c ∧ s.nsServed = false) ∧
    (∃ (slot : Slot) (xfer : Xfer) (c : CmdSlot) (s : State), s.adminCmd slot 0x15 = some c ∧ s.nsServed = true ∧
      s.earlier c (fun d => d.e.opc == 0x15) = false ∧ s.nsOf c.e.nsid = none) ∧
    (∃ (slot : Slot) (xfer : Xfer) (c : CmdSlot) (n : NsSt) (s : State), s.adminCmd slot 0x15 = some c ∧ s.nsServed
      = true ∧ s.earlier c (fun d => d.e.opc == 0x15) = false ∧ s.nsOf c.e.nsid = some n ∧ 2 ≤ bitsOf (c.dw 0) 0 4)
      ∧
    (∃ (slot : Slot) (xfer : Xfer) (c : CmdSlot) (n : NsSt) (s : State), s.adminCmd slot 0x15 = some c ∧ s.nsServed
      = true ∧ s.earlier c (fun d => d.e.opc == 0x15) = false ∧ s.nsOf c.e.nsid = some n ∧ bitsOf (c.dw 0) 0 4 ≤ 1 ∧
      xfer.dptr = 0 ∧ imgNat xfer.data 0 2 = 0) ∧
    (∃ (slot : Slot) (xfer : Xfer) (c : CmdSlot) (n : NsSt) (k : Nat) (s : State), s.adminCmd slot 0x15 = some c ∧
      s.nsServed = true ∧ s.earlier c (fun d => d.e.opc == 0x15) = false ∧ s.nsOf c.e.nsid = some n ∧ bitsOf (c.dw
      0) 0 4 = 1 ∧ xfer.dptr = 0 ∧ imgNat xfer.data 0 2 = 1 ∧ imgNat xfer.data 2 2 = k + 1 ∧ k < 2 ∧ s.ctlExists k =
      true ∧ n.attached k = true) ∧
    (∃ (slot : Slot) (xfer : Xfer) (c : CmdSlot) (n : NsSt) (k : Nat) (s : State), s.adminCmd slot 0x15 = some c ∧
      s.nsServed = true ∧ s.earlier c (fun d => d.e.opc == 0x15) = false ∧ s.nsOf c.e.nsid = some n ∧ bitsOf (c.dw
      0) 0 4 = 0 ∧ xfer.dptr = 0 ∧ imgNat xfer.data 0 2 = 1 ∧ imgNat xfer.data 2 2 = k + 1 ∧ k < 2 ∧ s.ctlExists k =
      true ∧ n.attached k = true) :=
  ⟨⟨3, ⟨0, [], 0⟩, up_ [], (by decide)⟩, ⟨3, ⟨0, [], 0⟩, cmd_ 0 21 1 [1], host_ [(R.SYS_MODE_MODE, 1)] [cmd_ 0 21 1
    [1]], (by decide)⟩, ⟨3, ⟨0, [], 0⟩, cmd_ 0 21 9 [0], adm_ 21 9 [0], (by decide)⟩, ⟨3, ⟨0, [], 0⟩, cmd_ 0 0x15 1
    [2], ⟨1, 1000, 0, false, false, 0, [4], [true, true], [], none, ⟨[], none, 0, 0, false⟩⟩, adm_ 0x15 1 [2],
    (by decide)⟩, ⟨3, ⟨0, [], 0⟩, cmd_ 0 0x15 1 [1], ⟨1, 1000, 0, false, false, 0, [4], [true, true], [], none, ⟨[],
    none, 0, 0, false⟩⟩, adm_ 0x15 1 [1], (by decide)⟩, ⟨3, ⟨0, [1, 0, 1, 0], 0⟩, cmd_ 0 0x15 1 [1], ⟨1, 1000, 0,
    false, false, 0, [4], [true, true], [], none, ⟨[], none, 0, 0, false⟩⟩, 0, adm_ 0x15 1 [1], (by decide)⟩, ⟨3,
    ⟨0, [1, 0, 1, 0], 0⟩, cmd_ 0 0x15 1 [0], ⟨1, 1000, 0, false, false, 0, [4], [true, true], [], none, ⟨[], none,
    0, 0, false⟩⟩, 0, adm_ 0x15 1 [0], (by decide)⟩⟩

theorem namespace_commands_complete_meets :
    (∃ (no : Nat) (x : Xfer) (s : State), bitOf (imgNat x.data 384 1) 0 = true ∧ (bitsOf (imgNat x.data 26 1) 0 4 =
      1 ∨ 2 < bitsOf (imgNat x.data 26 1) 0 4)) ∧
    (∃ (no : Nat) (x : Xfer) (s : State), bitOf (imgNat x.data 384 1) 0 = true ∧ bitsOf (imgNat x.data 26 1) 0 4 = 0
      ∧ (8 < imgNat x.data 385 1 ∨ imgNat x.data 8 8 ≠ imgNat x.data 0 8 ∨ imgNat x.data 0 8 = 0 ∨ imgNat x.data 0 8
      % 256 ≠ 0)) ∧
    (∃ (no : Nat) (x : Xfer) (s : State), bitOf (imgNat x.data 384 1) 0 = false ∧ bitsOf (imgNat x.data 26 1) 0 4 ≤
      2 ∧ (imgNat x.data 0 8 = 0 ∨ imgNat x.data 8 8 ≠ imgNat x.data 0 8)) :=
  ⟨⟨3, ⟨0, List.replicate 26 0 ++ [1] ++ List.replicate 357 0 ++ [1], 0⟩, up_ [], (by decide)⟩, ⟨3, ⟨0,
    List.replicate 384 0 ++ [1], 0⟩, up_ [], (by decide)⟩, ⟨3, ⟨0, [], 0⟩, up_ [], (by decide)⟩⟩

theorem firmware_and_unlock_commands_complete_firmwareImageDownload_meets :
    (∃ (slot : Slot) (xfer : Xfer) (s : State), s.adminCmd slot 0x11 = none) ∧
    (∃ (slot : Slot) (xfer : Xfer) (c : CmdSlot) (s : State), s.adminCmd slot 0x11 = some c ∧ xfer.dptr = 0 ∧
      s.downloadPiece c.ctrl (4 * c.dw 1) (takeAt xfer.data 0 (4 * (c.dw 0 + 1))) = none) ∧
    (∃ (slot : Slot) (xfer : Xfer) (c : CmdSlot) (t : State) (s : State), s.adminCmd slot 0x11 = some c ∧ xfer.dptr
      = 0 ∧ s.downloadPiece c.ctrl (4 * c.dw 1) (takeAt xfer.data 0 (4 * (c.dw 0 + 1))) = some t) :=
  ⟨⟨3, ⟨0, [], 0⟩, up_ [], (by decide)⟩, ⟨3, ⟨0, [], 0⟩, cmd_ 0 17 0 [0, 1], adm_ 17 0 [0, 1], (by decide)⟩, ⟨3, ⟨0,
    [7], 0⟩, cmd_ 0 0x11 0 [0, 0],
    { adm_ 0x11 0 [0, 0] with sec := { (adm_ 0x11 0 [0, 0]).sec with dl := some (0, [(0, 7), (1, 0), (2, 0), (3, 0)]), dlEnd := some 4 } },
    adm_ 0x11 0 [0, 0], (by decide)⟩⟩

theorem firmware_and_unlock_commands_complete_meets :
    (∃ (k ofs : Nat) (bs : List Byte) (s : State), (ofs % 4096 ≠ 0 ∨ 33554432 < ofs + bs.length)) ∧
    (∃ (p m stamp : Nat) (s : State), (2 ≤ p ∨ 2 ≤ m ∨ s.methodOk p m = false)) ∧
    (∃ (p m stamp : Nat) (s : State), p < 2 ∧ m < 2 ∧ s.methodOk p m = true ∧ s.lockLeft p ≠ 0) ∧
    (∃ (p m n stamp : Nat) (bs : List Byte) (s : State), p < 2 ∧ m < 2 ∧ 1 ≤ n ∧ n ≤ 64 ∧ (s.secPath p).chal = none)
      ∧
    (∃ (p m n stamp am ch t : Nat) (bs : List Byte) (s : State), p < 2 ∧ m < 2 ∧ 1 ≤ n ∧ n ≤ 64 ∧ (s.secPath p).chal
      = some (am, ch, t) ∧ (am ≠ m ∨ t + 60000000000 ≤ stamp)) ∧
    (∃ (p m n stamp ch t : Nat) (bs : List Byte) (s : State), p < 2 ∧ m < 2 ∧ 1 ≤ n ∧ n ≤ 64 ∧ (s.secPath p).chal =
      some (m, ch, t) ∧ stamp < t + 60000000000 ∧ s.responseOk p m ch bs = false) ∧
    (∃ (p m n stamp ch t : Nat) (bs : List Byte) (s : State), p < 2 ∧ m < 2 ∧ 1 ≤ n ∧ n ≤ 64 ∧ (s.secPath p).chal =
      some (m, ch, t) ∧ stamp < t + 60000000000) :=
  ⟨⟨0, 33554432, [1], up_ [], (by decide)⟩, ⟨2, 0, 0, up_ [], (by decide)⟩, ⟨0, 1, 0, (up_ []).modPath 0 (fun y =>
    { y with lockEnd := some 60000 }), (by decide)⟩, ⟨0, 1, 24, 0, [], up_ [], (by decide)⟩, ⟨0, 1, 24, 60000000000,
    1, 0, 0, [], (up_ []).modPath 0 (fun y => { y with chal := some (1, 0, 0) }), (by decide)⟩, ⟨0, 1, 24, 0, 0, 0,
    [], (up_ []).modPath 0 (fun y => { y with chal := some (1, 0, 0) }), (by decide)⟩, ⟨0, 1, 24, 0, 0, 0, [], (up_
    []).modPath 0 (fun y => { y with chal := some (1, 0, 0) }), (by decide)⟩⟩

theorem firmware_and_unlock_commands_complete_firmwareCommit_meets :
    (∃ (slot : Slot) (s : State), s.adminCmd slot 0x10 = none) ∧
    (∃ (slot : Slot) (c : CmdSlot) (s : State), s.adminCmd slot 0x10 = some c ∧ (s.earlier c (fun d => d.e.opc ==
      0x10) = true ∨ s.hif.activating ≠ none)) ∧
    (∃ (slot : Slot) (c : CmdSlot) (st : Nat) (s : State), s.adminCmd slot 0x10 = some c ∧ s.earlier c (fun d =>
      d.e.opc == 0x10) = false ∧ s.hif.activating = none ∧ s.commitCheck (bitsOf (c.dw 0) 0 3) (bitsOf (c.dw 0) 3 3)
      (if bitsOf (c.dw 0) 3 3 = 2 then s.slotImage (s.commitSlot (bitsOf (c.dw 0) 0 3)) else s.dlImage) (c.resv ==
      some true) = some st) ∧
    (∃ (slot : Slot) (c : CmdSlot) (s : State), s.adminCmd slot 0x10 = some c ∧ s.earlier c (fun d => d.e.opc ==
      0x10) = false ∧ s.hif.activating = none ∧ 2 ≤ bitsOf (c.dw 0) 3 3 ∧ bitsOf (c.dw 0) 3 3 ≤ 3) :=
  ⟨⟨3, up_ [], (by decide)⟩, ⟨3, cmd_ 0 16 0 [], (adm_ 16 0 []).modHif (fun h =>
    { h with activating := some (0, 1, 1) }), (by decide)⟩, ⟨3, cmd_ 0 16 0 [0x20], scField, adm_ 16 0 [0x20],
    (by decide)⟩, ⟨3, cmd_ 0 16 0 [0x18], adm_ 16 0 [0x18], (by decide)⟩⟩

theorem firmware_and_unlock_commands_complete_firmwareActivation_meets :
    (∃ (s : State), s.hif.activating = none ∧ s.get R.SEC_STAT_PENDING_SLOT = 0) ∧
    (∃ (t no k : Nat) (s : State), s.hif.activating = some (t, no, k) ∧ s.activationReady no = false) ∧
    (∃ (t no k : Nat) (s : State), s.hif.activating = some (t, no, k) ∧ s.activationReady no = true) ∧
    (∃ (n k : Nat) (s : State), s.hif.activating = none ∧ s.get R.SEC_STAT_PENDING_SLOT = k ∧ (k = 1 ∨ k = 2) ∧ n <
      2 ∧ s.ctlExists n = true ∧ (s.ctl n).resetAt ≠ none) :=
  ⟨⟨up_ [], (by decide)⟩, ⟨0, 5, 1, (io_ 1 []).modHif (fun h => { h with activating := some (0, 5, 1) }),
    (by decide)⟩, ⟨0, 3, 1, (up_ []).modHif (fun h => { h with activating := some (0, 3, 1) }), (by decide)⟩, ⟨0, 1,
    ((io_ 1 []).set R.SEC_STAT_PENDING_SLOT 1).modCtl 0 (fun c => { c with resetAt := some 0 }), (by decide)⟩⟩

theorem firmware_and_unlock_commands_complete_activationTimeout_meets :
    (∃ (s : State), s.hif.activating = none) ∧
    (∃ (t no k : Nat) (s : State), s.hif.activating = some (t, no, k) ∧ t + 1500000000 ≤ s.now) ∧
    (∃ (t no k : Nat) (s : State), s.hif.activating = some (t, no, k) ∧ s.now < t + 1500000000) :=
  ⟨⟨up_ [], (by decide)⟩, ⟨0, 3, 1,
    { (adm_ 16 0 []).modHif (fun h => { h with activating := some (0, 3, 1) }) with now := 1500000000 },
    (by decide)⟩, ⟨0, 3, 1,
    { (adm_ 16 0 []).modHif (fun h => { h with activating := some (0, 3, 1) }) with now := 1499999999 },
    (by decide)⟩⟩

theorem firmware_and_unlock_commands_complete_unlockChallenge_meets :
    (∃ (slot : Slot) (s : State), s.unlockCmd slot 192 = none) ∧
    (∃ (slot : Slot) (c : CmdSlot) (s : State), s.unlockCmd slot 192 = some c ∧ c.e.nsid ≠ 0) ∧
    (∃ (slot : Slot) (c : CmdSlot) (st x : Nat) (t : State) (s : State), s.unlockCmd slot 0xC0 = some c ∧ c.e.nsid =
      0 ∧ s.challenge (bitsOf (c.dw 0) 0 2) (bitsOf (c.dw 0) 2 2) c.stamp = ((some st, x), t)) ∧
    (∃ (slot : Slot) (c : CmdSlot) (ch : Nat) (t : State) (s : State), s.unlockCmd slot 0xC0 = some c ∧ c.e.nsid = 0
      ∧ s.challenge (bitsOf (c.dw 0) 0 2) (bitsOf (c.dw 0) 2 2) c.stamp = ((none, ch), t)) :=
  ⟨⟨3, up_ [], (by decide)⟩, ⟨3, cmd_ 0 192 1 [], adm_ 192 1 [], (by decide)⟩, ⟨3, cmd_ 0 0xC0 0 [2], scField, 0,
    adm_ 0xC0 0 [2], adm_ 0xC0 0 [2], (by decide)⟩, ⟨3, cmd_ 0 0xC0 0 [4], ((adm_ 0xC0 0 [4]).challenge 0 1
    500).1.2, ((adm_ 0xC0 0 [4]).challenge 0 1 500).2, adm_ 0xC0 0 [4], ⟨by decide, by decide, by rfl⟩⟩⟩

theorem firmware_and_unlock_commands_complete_unlockResponse_meets :
    (∃ (slot : Slot) (xfer : Xfer) (s : State), s.unlockCmd slot 193 = none) ∧
    (∃ (slot : Slot) (xfer : Xfer) (c : CmdSlot) (s : State), s.unlockCmd slot 193 = some c ∧ c.e.nsid ≠ 0) ∧
    (∃ (slot : Slot) (xfer : Xfer) (c : CmdSlot) (s : State), s.unlockCmd slot 0xC1 = some c ∧ c.e.nsid = 0 ∧
      xfer.dptr = 0) :=
  ⟨⟨3, ⟨0, [], 0⟩, up_ [], (by decide)⟩, ⟨3, ⟨0, [], 0⟩, cmd_ 0 193 1 [], adm_ 193 1 [], (by decide)⟩, ⟨3, ⟨0, [],
    0⟩, cmd_ 0 193 0 [1, 4], adm_ 193 0 [1, 4], (by decide)⟩⟩

theorem io_commands_complete_opFlush_meets :
    (∃ (slot : Slot) (s : State), s.ioCmd slot 0 = none) ∧
    (∃ (slot : Slot) (c : CmdSlot) (s : State), s.ioCmd slot 0 = some c ∧ (s.mode = mSPINUP ∨ s.inTurn c = false)) ∧
    (∃ (slot : Slot) (c : CmdSlot) (s : State), s.ioCmd slot 0 = some c ∧ s.mode ≠ mSPINUP ∧ s.inTurn c = true) :=
  ⟨⟨3, up_ [], (by decide)⟩, ⟨3, cmd_ 1 0 1 [], host_ [(R.SYS_MODE_MODE, 2)] [cmd_ 1 0 1 []], (by decide)⟩, ⟨3, cmd_
    1 0 1 [], io_ 0 [], (by decide)⟩⟩

theorem io_commands_complete_opWrite_meets :
    (∃ (slot : Slot) (s : State), s.ioNs slot 1 = none) ∧
    (∃ (slot : Slot) (c : CmdSlot) (n : NsSt) (s : State), s.ioNs slot 1 = some (c, n) ∧ c.mode ≠ mMIGRATE ∧
      (c.started = true ∨ s.dirtyRoom (n.sectors c.slba c.nlb).length = false)) ∧
    (∃ (slot : Slot) (c : CmdSlot) (n : NsSt) (s : State), s.ioNs slot 1 = some (c, n) ∧ c.mode = mMIGRATE) ∧
    (∃ (slot : Slot) (c : CmdSlot) (n : NsSt) (s : State), s.ioNs slot 1 = some (c, n) ∧ c.mode ≠ mMIGRATE ∧
      c.started = false ∧ s.dirtyRoom (n.sectors c.slba c.nlb).length = true) :=
  ⟨⟨3, up_ [], (by decide)⟩, ⟨3, cmd_ 1 1 1 [5, 0, 0], ⟨1, 1000, 0, false, false, 0, [4], [true, true], [], none,
    ⟨[], none, 0, 0, false⟩⟩, host_ [(R.SYS_DIRTY_MAX_DIRTY_MAX, 0)] [cmd_ 1 1 1 [5, 0, 0]], (by decide)⟩, ⟨3,
    { cmd_ 1 1 1 [5, 0, 0] with mode := mMIGRATE }, ⟨1, 1000, 0, false, false, 0, [4], [true, true], [], none, ⟨[],
    none, 0, 0, false⟩⟩, host_ [] [{ cmd_ 1 1 1 [5, 0, 0] with mode := mMIGRATE }], (by decide)⟩, ⟨3, cmd_ 1 1 1 [5,
    0, 0], ⟨1, 1000, 0, false, false, 0, [4], [true, true], [], none, ⟨[], none, 0, 0, false⟩⟩, host_
    [(R.SYS_DIRTY_MAX_DIRTY_MAX, 8)] [cmd_ 1 1 1 [5, 0, 0]], (by decide)⟩⟩

theorem io_commands_complete_writeEffect_meets :
    (∃ (slot : Slot) (xfer : Xfer) (s : State), s.ioNs slot 1 = none) ∧
    (∃ (slot : Slot) (xfer : Xfer) (c : CmdSlot) (n : NsSt) (s : State), s.ioNs slot 1 = some (c, n) ∧ s.inTurn c =
      false) ∧
    (∃ (slot : Slot) (xfer : Xfer) (c : CmdSlot) (n : NsSt) (s : State), s.ioNs slot 1 = some (c, n) ∧ c.started =
      false) ∧
    (∃ (slot : Slot) (xfer : Xfer) (c : CmdSlot) (n : NsSt) (code : Nat) (s : State), s.ioNs slot 1 = some (c, n) ∧
      c.started = true ∧ s.inTurn c = true ∧ xferStatus c n xfer = some code) ∧
    (∃ (slot : Slot) (xfer : Xfer) (c : CmdSlot) (n : NsSt) (s : State), s.ioNs slot 1 = some (c, n) ∧ c.started =
      true ∧ s.inTurn c = true ∧ xferStatus c n xfer = none ∧ s.capacityCheck n (n.sectors c.slba c.nlb) = none ∧
      s.mergeBad n c.slba c.nlb = false) ∧
    (∃ (slot : Slot) (xfer : Xfer) (c : CmdSlot) (n : NsSt) (st : Cst) (s : State), s.ioNs slot 1 = some (c, n) ∧
      c.started = true ∧ s.inTurn c = true ∧ xferStatus c n xfer = none ∧ s.capacityCheck n (n.sectors c.slba c.nlb)
      = some st) :=
  ⟨⟨3, ⟨0, [], 0⟩, up_ [], (by decide)⟩, ⟨3, ⟨0, [], 0⟩, { cmd_ 1 1 1 [0, 0, 0] with started := true }, ⟨1, 1000, 0,
    false, false, 0, [4], [true, true], [], none, ⟨[], none, 0, 0, false⟩⟩, host_ []
    [{ cmd_ 1 1 1 [0, 0, 0] with started := true }, { cmd_ 1 1 1 [0, 0, 0] with no := 2, stamp := 400 }],
    (by decide)⟩, ⟨3, ⟨0, [], 0⟩, cmd_ 1 1 1 [5, 0, 0], ⟨1, 1000, 0, false, false, 0, [4], [true, true], [], none,
    ⟨[], none, 0, 0, false⟩⟩, io_ 1 [5, 0, 0], (by decide)⟩, ⟨3, ⟨1, [], 0⟩,
    { cmd_ 1 1 1 [5, 0, 0] with started := true }, ⟨1, 1000, 0, false, false, 0, [4], [true, true], [], none, ⟨[],
    none, 0, 0, false⟩⟩, scPrp, host_ [(R.SYS_DIRTY_MAX_DIRTY_MAX, 8)]
    [{ cmd_ 1 1 1 [5, 0, 0] with started := true }], (by decide)⟩, ⟨3, ⟨0, [], 0⟩,
    { cmd_ 1 1 1 [5, 0, 0] with started := true }, ⟨1, 1000, 0, false, false, 0, [4], [true, true], [], none, ⟨[],
    none, 0, 0, false⟩⟩, host_ [(R.SYS_DIRTY_MAX_DIRTY_MAX, 8)] [{ cmd_ 1 1 1 [5, 0, 0] with started := true }],
    (by decide)⟩, ⟨3, ⟨0, [], 0⟩, { cmd_ 1 1 1 [5, 0, 0] with started := true }, ⟨1, 512, 0, true, false, 0, [0],
    [true, true], [], none, ⟨[], none, 0, 0, false⟩⟩, ⟨scCapacity, some true, none, 0⟩,
    { ((host_ [] [{ cmd_ 1 1 1 [5, 0, 0] with started := true }]).modHif (fun h => { h with nss := [⟨1, 512, 0, true, false, 0, [0], [true, true], [], none, ⟨[], none, 0, 0, false⟩⟩] })) with rte := { State.reset.rte with loaded := true, bands := [] } },
    (by decide)⟩⟩

theorem io_commands_complete_opRead_meets :
    (∃ (slot : Slot) (xfer : Xfer) (med : Option (List Nat)) (s : State), s.ioNs slot 2 = none) ∧
    (∃ (slot : Slot) (xfer : Xfer) (med : Option (List Nat)) (c : CmdSlot) (n : NsSt) (s : State), s.ioNs slot 2 =
      some (c, n) ∧ s.inTurn c = false) ∧
    (∃ (slot : Slot) (xfer : Xfer) (c : CmdSlot) (n : NsSt) (s : State), s.ioNs slot 2 = some (c, n) ∧ s.inTurn c =
      true) ∧
    (∃ (slot : Slot) (xfer : Xfer) (c : CmdSlot) (n : NsSt) (bad : List Nat) (s : State), s.ioNs slot 2 = some (c,
      n) ∧ s.inTurn c = true ∧ s.readBad c n bad = true) ∧
    (∃ (slot : Slot) (xfer : Xfer) (c : CmdSlot) (n : NsSt) (bad : List Nat) (code : Nat) (s : State), s.ioNs slot 2
      = some (c, n) ∧ s.inTurn c = true ∧ s.readBad c n bad = false ∧ xferStatus c n xfer = some code) ∧
    (∃ (slot : Slot) (xfer : Xfer) (c : CmdSlot) (n : NsSt) (bad : List Nat) (s : State), s.ioNs slot 2 = some (c,
      n) ∧ s.inTurn c = true ∧ s.readBad c n bad = false ∧ xferStatus c n xfer = none ∧ s.mode ≠ mMIGRATE) :=
  ⟨⟨3, ⟨0, [], 0⟩, none, up_ [], (by decide)⟩, ⟨3, ⟨0, [], 0⟩, none, { cmd_ 1 2 1 [0, 0, 0] with started := true },
    ⟨1, 1000, 0, false, false, 0, [4], [true, true], [], none, ⟨[], none, 0, 0, false⟩⟩, host_ []
    [{ cmd_ 1 2 1 [0, 0, 0] with started := true }, { cmd_ 1 1 1 [0, 0, 0] with no := 2, stamp := 400 }],
    (by decide)⟩, ⟨3, ⟨0, [], 0⟩, cmd_ 1 2 1 [5, 0, 0], ⟨1, 1000, 0, false, false, 0, [4], [true, true], [], none,
    ⟨[], none, 0, 0, false⟩⟩, io_ 2 [5, 0, 0], (by decide)⟩, ⟨3, ⟨0, [], 0⟩, cmd_ 1 2 1 [5, 0, 0], ⟨1, 1000, 0,
    false, false, 0, [4], [true, true], [], none, ⟨[], none, 0, 0, false⟩⟩, [5], io_ 2 [5, 0, 0], (by decide)⟩, ⟨3,
    ⟨4, [], 0⟩, cmd_ 1 2 1 [5, 0, 0], ⟨1, 1000, 0, false, false, 0, [4], [true, true], [], none, ⟨[], none, 0, 0,
    false⟩⟩, [6], scXfer, io_ 2 [5, 0, 0], (by decide)⟩, ⟨3, ⟨0, [], 0⟩, cmd_ 1 2 1 [5, 0, 0], ⟨1, 1000, 0, false,
    false, 0, [4], [true, true], [], none, ⟨[], none, 0, 0, false⟩⟩, [6], io_ 2 [5, 0, 0], (by decide)⟩⟩

theorem io_commands_complete_writeZeroes_meets :
    (∃ (slot : Slot) (s : State), s.ioNs slot 8 = none) ∧
    (∃ (slot : Slot) (c : CmdSlot) (n : NsSt) (s : State), s.ioNs slot 8 = some (c, n) ∧ s.inTurn c = false) ∧
    (∃ (slot : Slot) (c : CmdSlot) (n : NsSt) (s : State), s.ioNs slot 8 = some (c, n) ∧ c.mode = mMIGRATE ∧
      s.inTurn c = true) ∧
    (∃ (slot : Slot) (c : CmdSlot) (n : NsSt) (s : State), s.ioNs slot 8 = some (c, n) ∧ c.mode ≠ mMIGRATE ∧
      s.inTurn c = true) :=
  ⟨⟨3, up_ [], (by decide)⟩, ⟨3, { cmd_ 1 8 1 [0, 0, 0] with started := true }, ⟨1, 1000, 0, false, false, 0, [4],
    [true, true], [], none, ⟨[], none, 0, 0, false⟩⟩, host_ [] [{ cmd_ 1 8 1 [0, 0, 0] with started := true },
    { cmd_ 1 1 1 [0, 0, 0] with no := 2, stamp := 400 }], (by decide)⟩, ⟨3,
    { cmd_ 1 8 1 [5, 0, 0] with mode := mMIGRATE }, ⟨1, 1000, 0, false, false, 0, [4], [true, true], [], none, ⟨[],
    none, 0, 0, false⟩⟩, host_ [] [{ cmd_ 1 8 1 [5, 0, 0] with mode := mMIGRATE }], (by decide)⟩, ⟨3, cmd_ 1 8 1 [5,
    0, 0], ⟨1, 1000, 0, false, false, 0, [4], [true, true], [], none, ⟨[], none, 0, 0, false⟩⟩, io_ 8 [5, 0, 0],
    (by decide)⟩⟩

theorem io_commands_complete_datasetManagement_meets :
    (∃ (slot : Slot) (xfer : Xfer) (s : State), s.ioNs slot 9 = none) ∧
    (∃ (slot : Slot) (xfer : Xfer) (c : CmdSlot) (n : NsSt) (s : State), s.ioNs slot 9 = some (c, n) ∧ s.inTurn c =
      false) ∧
    (∃ (slot : Slot) (xfer : Xfer) (c : CmdSlot) (n : NsSt) (s : State), s.ioNs slot 9 = some (c, n) ∧ c.mode =
      mMIGRATE ∧ s.inTurn c = true) ∧
    (∃ (slot : Slot) (xfer : Xfer) (c : CmdSlot) (n : NsSt) (s : State), s.ioNs slot 9 = some (c, n) ∧ c.mode ≠
      mMIGRATE ∧ s.inTurn c = true ∧ xfer.dptr = 0 ∧ (∃ r ∈ dsmRanges xfer.data (bitsOf (c.dw 0) 0 8 + 1), n.nsze <
      r.1 + r.2)) ∧
    (∃ (slot : Slot) (xfer : Xfer) (c : CmdSlot) (n : NsSt) (s : State), s.ioNs slot 9 = some (c, n) ∧ c.mode ≠
      mMIGRATE ∧ s.inTurn c = true ∧ xfer.dptr = 0 ∧ (∀ r ∈ dsmRanges xfer.data (bitsOf (c.dw 0) 0 8 + 1), r.1 + r.2
      ≤ n.nsze) ∧ n.packed = false) :=
  ⟨⟨3, ⟨0, [], 0⟩, up_ [], (by decide)⟩, ⟨3, ⟨0, [], 0⟩, { cmd_ 1 9 1 [0, 0, 0] with started := true }, ⟨1, 1000, 0,
    false, false, 0, [4], [true, true], [], none, ⟨[], none, 0, 0, false⟩⟩, host_ []
    [{ cmd_ 1 9 1 [0, 0, 0] with started := true }, { cmd_ 1 1 1 [0, 0, 0] with no := 2, stamp := 400 }],
    (by decide)⟩, ⟨3, ⟨0, [], 0⟩, { cmd_ 1 9 1 [0, 4] with mode := mMIGRATE }, ⟨1, 1000, 0, false, false, 0, [4],
    [true, true], [], none, ⟨[], none, 0, 0, false⟩⟩, host_ [] [{ cmd_ 1 9 1 [0, 4] with mode := mMIGRATE }],
    (by decide)⟩, ⟨3, ⟨0, [0, 0, 0, 0, 1, 0, 0, 0, 0xE8, 3, 0, 0, 0, 0, 0, 0], 0⟩, cmd_ 1 9 1 [0, 4], ⟨1, 1000, 0,
    false, false, 0, [4], [true, true], [], none, ⟨[], none, 0, 0, false⟩⟩, io_ 9 [0, 4], ⟨by decide, by decide,
    by decide, by decide, ⟨(1000, 1), by decide, by decide⟩⟩⟩, ⟨3, ⟨0, [0, 0, 0, 0, 1, 0, 0, 0, 0xE7, 3, 0, 0, 0, 0,
    0, 0], 0⟩, cmd_ 1 9 1 [0, 4], ⟨1, 1000, 0, false, false, 0, [4], [true, true], [], none, ⟨[], none, 0, 0,
    false⟩⟩, io_ 9 [0, 4], (by decide)⟩⟩

theorem io_commands_complete_opVerify_meets :
    (∃ (slot : Slot) (pi : Nat) (med : Option (List Nat)) (s : State), s.ioNs slot 12 = none) ∧
    (∃ (slot : Slot) (pi : Nat) (med : Option (List Nat)) (c : CmdSlot) (n : NsSt) (s : State), s.ioNs slot 12 =
      some (c, n) ∧ s.inTurn c = false) ∧
    (∃ (slot : Slot) (pi : Nat) (c : CmdSlot) (n : NsSt) (s : State), s.ioNs slot 12 = some (c, n) ∧ s.inTurn c =
      true) ∧
    (∃ (slot : Slot) (pi : Nat) (c : CmdSlot) (n : NsSt) (bad : List Nat) (s : State), s.ioNs slot 12 = some (c, n)
      ∧ s.inTurn c = true ∧ s.readBad c n bad = true) ∧
    (∃ (slot : Slot) (pi : Nat) (c : CmdSlot) (n : NsSt) (bad : List Nat) (code : Nat) (s : State), s.ioNs slot 12 =
      some (c, n) ∧ s.inTurn c = true ∧ s.readBad c n bad = false ∧ xferStatus c n ⟨0, [], pi⟩ = some code) ∧
    (∃ (slot : Slot) (pi : Nat) (c : CmdSlot) (n : NsSt) (bad : List Nat) (s : State), s.ioNs slot 12 = some (c, n)
      ∧ s.inTurn c = true ∧ s.readBad c n bad = false ∧ xferStatus c n ⟨0, [], pi⟩ = none) :=
  ⟨⟨3, 0, none, up_ [], (by decide)⟩, ⟨3, 0, none, { cmd_ 1 12 1 [0, 0, 0] with started := true }, ⟨1, 1000, 0,
    false, false, 0, [4], [true, true], [], none, ⟨[], none, 0, 0, false⟩⟩, host_ []
    [{ cmd_ 1 12 1 [0, 0, 0] with started := true }, { cmd_ 1 1 1 [0, 0, 0] with no := 2, stamp := 400 }],
    (by decide)⟩, ⟨3, 0, cmd_ 1 12 1 [5, 0, 0], ⟨1, 1000, 0, false, false, 0, [4], [true, true], [], none, ⟨[],
    none, 0, 0, false⟩⟩, io_ 12 [5, 0, 0], (by decide)⟩, ⟨3, 0, cmd_ 1 12 1 [5, 0, 0], ⟨1, 1000, 0, false, false, 0,
    [4], [true, true], [], none, ⟨[], none, 0, 0, false⟩⟩, [5], io_ 12 [5, 0, 0], (by decide)⟩, ⟨3, 2, cmd_ 1 12 1
    [5, 0, 0],
    { (⟨1, 1000, 0, false, false, 0, [4], [true, true], [], none, ⟨[], none, 0, 0, false⟩⟩ : NsSt) with fmt := 1 },
    [6], scAppTag, (io_ 12 [5, 0, 0]).modHif (fun h =>
    { h with nss := [{ (⟨1, 1000, 0, false, false, 0, [4], [true, true], [], none, ⟨[], none, 0, 0, false⟩⟩ : NsSt) with fmt := 1 }] }),
    (by decide)⟩, ⟨3, 0, cmd_ 1 12 1 [5, 0, 0], ⟨1, 1000, 0, false, false, 0, [4], [true, true], [], none, ⟨[],
    none, 0, 0, false⟩⟩, [6], io_ 12 [5, 0, 0], (by decide)⟩⟩

theorem io_commands_complete_meets :
    ∃ (c : CmdSlot) (secs : List Nat) (s : State), c.fua = false ∧ c.mode ≠ mARCHIVE :=
  ⟨cmd_ 1 1 1 [5, 0, 1], [5], io_ 1 [5, 0, 1], (by decide)⟩

theorem io_commands_complete_poolExhausted_meets :
    (∃ (slot : Slot) (s : State), s.cmd slot = none) ∧
    (∃ (slot : Slot) (c : CmdSlot) (s : State), s.cmd slot = some c ∧ c.isIo = true ∧ (c.e.opc = 1 ∨ c.e.opc = 2) ∧
      c.res = none ∧ c.effect = false ∧ c.started = false ∧ c.resv = some true ∧ s.mode = mPARALLEL ∧ c.stamp +
      1000000000 ≤ s.now) ∧
    (∃ (slot : Slot) (c : CmdSlot) (s : State), s.cmd slot = some c ∧ s.now < c.stamp + 1000000000) :=
  ⟨⟨3, up_ [], (by decide)⟩, ⟨3, cmd_ 1 1 1 [], { io_ 1 [] with now := 1000000500 }, (by decide)⟩, ⟨3, cmd_ 1 1 1
    [], { io_ 1 [] with now := 1000000499 }, (by decide)⟩⟩

theorem io_commands_complete_destageStart_meets :
    (∃ (s : State), s.hif.cache = []) ∧
    (∃ (s : State), s.hif.cache ≠ []) :=
  ⟨⟨up_ [], (by decide)⟩, ⟨(up_ []).modHif (fun h => { h with cache := [⟨1, 0, 0, [0], [], 0, none, []⟩] }),
    (by decide)⟩⟩

theorem io_commands_complete_discardedByFault_meets :
    (∃ (unit : CUnit) (slots : List Slot) (s : State), s.flt.history = []) ∧
    (∃ (unit : CUnit) (slot : Slot) (c : CmdSlot) (s : State), (∃ e ∈ s.flt.history, e.1 = unit ∧ s.now ≤ e.2 +
      1000000) ∧ s.cmd slot = some c ∧ c.isIo = true ∧ c.res = none ∧ c.effect = false) :=
  ⟨⟨.rte, [3], up_ [], (by decide)⟩, ⟨.rte, 3, cmd_ 1 1 1 [],
    { io_ 1 [] with flt := { (io_ 1 []).flt with history := [(.rte, 0)] } }, ⟨⟨(.rte, 0), by decide, by decide⟩,
    by decide, by decide, by decide, by decide⟩⟩⟩

theorem reservation_commands_complete_reservationRegister_meets :
    (∃ (slot : Slot) (xfer : Xfer) (s : State), s.resvCmd slot 13 = none) ∧
    (∃ (slot : Slot) (xfer : Xfer) (c : CmdSlot) (n : NsSt) (s : State), s.resvCmd slot 13 = some (c, n) ∧ xfer.dptr
      = 4) ∧
    (∃ (slot : Slot) (xfer : Xfer) (c : CmdSlot) (n : NsSt) (s : State), s.resvCmd slot 13 = some (c, n) ∧ xfer.dptr
      = 0 ∧ (3 ≤ bitsOf (c.dw 0) 0 3 ∨ bitsOf (c.dw 0) 30 2 = 1)) ∧
    (∃ (slot : Slot) (xfer : Xfer) (c : CmdSlot) (n : NsSt) (s : State), s.resvCmd slot 13 = some (c, n) ∧ xfer.dptr
      = 0 ∧ bitsOf (c.dw 0) 0 3 ≤ 2 ∧ bitsOf (c.dw 0) 30 2 = 0) :=
  ⟨⟨3, ⟨0, [], 0⟩, up_ [], (by decide)⟩, ⟨3, ⟨4, [], 0⟩, cmd_ 1 13 1 [0], ⟨1, 1000, 0, false, false, 0, [4], [true,
    true], [], none, ⟨[], none, 0, 0, false⟩⟩, (io_ 13 [0]).modHif (fun h =>
    { h with nss := [⟨1, 1000, 0, false, false, 0, [4], [true, true], [], none, ⟨[], none, 0, 0, false⟩⟩] }),
    (by decide)⟩, ⟨3, ⟨0, [0xA, 0, 0, 0, 0, 0, 0, 0, 0xB, 0, 0, 0, 0, 0, 0, 0], 0⟩, cmd_ 1 13 1 [3], ⟨1, 1000, 0,
    false, false, 0, [4], [true, true], [], none, ⟨[], none, 0, 0, false⟩⟩, (io_ 13 [3]).modHif (fun h =>
    { h with nss := [⟨1, 1000, 0, false, false, 0, [4], [true, true], [], none, ⟨[], none, 0, 0, false⟩⟩] }),
    (by decide)⟩, ⟨3, ⟨0, [0xA, 0, 0, 0, 0, 0, 0, 0, 0xB, 0, 0, 0, 0, 0, 0, 0], 0⟩, cmd_ 1 13 1 [0], ⟨1, 1000, 0,
    false, false, 0, [4], [true, true], [], none, ⟨[], none, 0, 0, false⟩⟩, (io_ 13 [0]).modHif (fun h =>
    { h with nss := [⟨1, 1000, 0, false, false, 0, [4], [true, true], [], none, ⟨[], none, 0, 0, false⟩⟩] }),
    (by decide)⟩⟩

theorem reservation_commands_complete_reservationReport_meets :
    (∃ (slot : Slot) (xfer : Xfer) (s : State), s.resvCmd slot 14 = none) ∧
    (∃ (slot : Slot) (xfer : Xfer) (c : CmdSlot) (n : NsSt) (s : State), s.resvCmd slot 14 = some (c, n) ∧ xfer.dptr
      = 4) ∧
    (∃ (slot : Slot) (xfer : Xfer) (c : CmdSlot) (n : NsSt) (s : State), s.resvCmd slot 14 = some (c, n) ∧ xfer.dptr
      = 0) :=
  ⟨⟨3, ⟨0, [], 0⟩, up_ [], (by decide)⟩, ⟨3, ⟨4, [], 0⟩, cmd_ 1 14 1 [0], ⟨1, 1000, 0, false, false, 0, [4], [true,
    true], [], none, ⟨[], none, 0, 0, false⟩⟩, (io_ 14 [0]).modHif (fun h =>
    { h with nss := [⟨1, 1000, 0, false, false, 0, [4], [true, true], [], none, ⟨[], none, 0, 0, false⟩⟩] }),
    (by decide)⟩, ⟨3, ⟨0, [0xA, 0, 0, 0, 0, 0, 0, 0, 0xB, 0, 0, 0, 0, 0, 0, 0], 0⟩, cmd_ 1 14 1 [0, 5], ⟨1, 1000, 0,
    false, false, 0, [4], [true, true], [], none, ⟨[], none, 0, 0, false⟩⟩, (io_ 14 [0, 5]).modHif (fun h =>
    { h with nss := [⟨1, 1000, 0, false, false, 0, [4], [true, true], [], none, ⟨[], none, 0, 0, false⟩⟩] }),
    (by decide)⟩⟩

theorem reservation_commands_complete_reservationAcquire_meets :
    (∃ (slot : Slot) (xfer : Xfer) (s : State), s.resvCmd slot 17 = none) ∧
    (∃ (slot : Slot) (xfer : Xfer) (c : CmdSlot) (n : NsSt) (s : State), s.resvCmd slot 17 = some (c, n) ∧ xfer.dptr
      = 4) ∧
    (∃ (slot : Slot) (xfer : Xfer) (c : CmdSlot) (n : NsSt) (s : State), s.resvCmd slot 17 = some (c, n) ∧ xfer.dptr
      = 0 ∧ (3 ≤ bitsOf (c.dw 0) 0 3 ∨ bitsOf (c.dw 0) 8 8 = 0 ∨ 6 < bitsOf (c.dw 0) 8 8)) ∧
    (∃ (slot : Slot) (xfer : Xfer) (c : CmdSlot) (n : NsSt) (s : State), s.resvCmd slot 17 = some (c, n) ∧ xfer.dptr
      = 0 ∧ bitsOf (c.dw 0) 0 3 ≤ 2 ∧ 1 ≤ bitsOf (c.dw 0) 8 8 ∧ bitsOf (c.dw 0) 8 8 ≤ 6 ∧ (∀ e ∈ n.resv.regs, ¬(e.1
      = s.hostOf c.ctrl ∧ e.2 = ofLeBytes (takeAt xfer.data 0 8)))) ∧
    (∃ (slot : Slot) (xfer : Xfer) (c : CmdSlot) (n : NsSt) (s : State), s.resvCmd slot 17 = some (c, n) ∧ xfer.dptr
      = 0 ∧ bitsOf (c.dw 0) 0 3 = 0 ∧ 1 ≤ bitsOf (c.dw 0) 8 8 ∧ bitsOf (c.dw 0) 8 8 ≤ 6 ∧ (s.hostOf c.ctrl,
      ofLeBytes (takeAt xfer.data 0 8)) ∈ n.resv.regs ∧ n.resv.holder = none) ∧
    (∃ (slot : Slot) (xfer : Xfer) (c : CmdSlot) (n : NsSt) (h : Nat) (s : State), s.resvCmd slot 17 = some (c, n) ∧
      xfer.dptr = 0 ∧ bitsOf (c.dw 0) 0 3 = 0 ∧ 1 ≤ bitsOf (c.dw 0) 8 8 ∧ bitsOf (c.dw 0) 8 8 ≤ 6 ∧ (s.hostOf
      c.ctrl, ofLeBytes (takeAt xfer.data 0 8)) ∈ n.resv.regs ∧ n.resv.holder = some h ∧ h ≠ s.hostOf c.ctrl ∧
      n.resv.rtype < 5) :=
  ⟨⟨3, ⟨0, [], 0⟩, up_ [], (by decide)⟩, ⟨3, ⟨4, [], 0⟩, cmd_ 1 17 1 [0], ⟨1, 1000, 0, false, false, 0, [4], [true,
    true], [], none, ⟨[], none, 0, 0, false⟩⟩, (io_ 17 [0]).modHif (fun h =>
    { h with nss := [⟨1, 1000, 0, false, false, 0, [4], [true, true], [], none, ⟨[], none, 0, 0, false⟩⟩] }),
    (by decide)⟩, ⟨3, ⟨0, [0xA, 0, 0, 0, 0, 0, 0, 0, 0xB, 0, 0, 0, 0, 0, 0, 0], 0⟩, cmd_ 1 17 1 [0x700], ⟨1, 1000,
    0, false, false, 0, [4], [true, true], [], none, ⟨[], none, 0, 0, false⟩⟩, (io_ 17 [0x700]).modHif (fun h =>
    { h with nss := [⟨1, 1000, 0, false, false, 0, [4], [true, true], [], none, ⟨[], none, 0, 0, false⟩⟩] }),
    (by decide)⟩, ⟨3, ⟨0, [0xA, 0, 0, 0, 0, 0, 0, 0, 0xB, 0, 0, 0, 0, 0, 0, 0], 0⟩, cmd_ 1 17 1 [0x100], ⟨1, 1000,
    0, false, false, 0, [4], [true, true], [], none, ⟨[], none, 0, 0, false⟩⟩, (io_ 17 [0x100]).modHif (fun h =>
    { h with nss := [⟨1, 1000, 0, false, false, 0, [4], [true, true], [], none, ⟨[], none, 0, 0, false⟩⟩] }),
    (by decide)⟩, ⟨3, ⟨0, [0xA, 0, 0, 0, 0, 0, 0, 0, 0xB, 0, 0, 0, 0, 0, 0, 0], 0⟩, cmd_ 1 17 1 [0x100], ⟨1, 1000,
    0, false, false, 0, [4], [true, true], [], none, ⟨[((2 ^ 128), 0xA)], none, 0, 0, false⟩⟩, (io_ 17
    [0x100]).modHif (fun h =>
    { h with nss := [⟨1, 1000, 0, false, false, 0, [4], [true, true], [], none, ⟨[((2 ^ 128), 0xA)], none, 0, 0, false⟩⟩] }),
    (by decide)⟩, ⟨3, ⟨0, [0xA, 0, 0, 0, 0, 0, 0, 0, 0xB, 0, 0, 0, 0, 0, 0, 0], 0⟩, cmd_ 1 17 1 [0x100], ⟨1, 1000,
    0, false, false, 0, [4], [true, true], [], none, ⟨[((2 ^ 128), 0xA)], some 5, 1, 0, false⟩⟩, 5, (io_ 17
    [0x100]).modHif (fun h =>
    { h with nss := [⟨1, 1000, 0, false, false, 0, [4], [true, true], [], none, ⟨[((2 ^ 128), 0xA)], some 5, 1, 0, false⟩⟩] }),
    (by decide)⟩⟩

theorem reservation_commands_complete_reservationRelease_meets :
    (∃ (slot : Slot) (xfer : Xfer) (s : State), s.resvCmd slot 21 = none) ∧
    (∃ (slot : Slot) (xfer : Xfer) (c : CmdSlot) (n : NsSt) (s : State), s.resvCmd slot 21 = some (c, n) ∧ xfer.dptr
      = 4) ∧
    (∃ (slot : Slot) (xfer : Xfer) (c : CmdSlot) (n : NsSt) (s : State), s.resvCmd slot 21 = some (c, n) ∧ xfer.dptr
      = 0 ∧ 2 ≤ bitsOf (c.dw 0) 0 3) ∧
    (∃ (slot : Slot) (xfer : Xfer) (c : CmdSlot) (n : NsSt) (s : State), s.resvCmd slot 21 = some (c, n) ∧ xfer.dptr
      = 0 ∧ bitsOf (c.dw 0) 0 3 ≤ 1 ∧ (∀ e ∈ n.resv.regs, ¬(e.1 = s.hostOf c.ctrl ∧ e.2 = ofLeBytes (takeAt
      xfer.data 0 8)))) ∧
    (∃ (slot : Slot) (xfer : Xfer) (c : CmdSlot) (n : NsSt) (s : State), s.resvCmd slot 21 = some (c, n) ∧ xfer.dptr
      = 0 ∧ bitsOf (c.dw 0) 0 3 = 0 ∧ (s.hostOf c.ctrl, ofLeBytes (takeAt xfer.data 0 8)) ∈ n.resv.regs ∧
      n.resv.holds (s.hostOf c.ctrl) = false) ∧
    (∃ (slot : Slot) (xfer : Xfer) (c : CmdSlot) (n : NsSt) (s : State), s.resvCmd slot 21 = some (c, n) ∧ xfer.dptr
      = 0 ∧ bitsOf (c.dw 0) 0 3 = 0 ∧ (s.hostOf c.ctrl, ofLeBytes (takeAt xfer.data 0 8)) ∈ n.resv.regs ∧
      n.resv.holds (s.hostOf c.ctrl) = true ∧ bitsOf (c.dw 0) 8 8 = n.resv.rtype ∧ bitsOf (c.dw 0) 8 8 ≤ 2) ∧
    (∃ (slot : Slot) (xfer : Xfer) (c : CmdSlot) (n : NsSt) (s : State), s.resvCmd slot 21 = some (c, n) ∧ xfer.dptr
      = 0 ∧ bitsOf (c.dw 0) 0 3 = 1 ∧ (s.hostOf c.ctrl, ofLeBytes (takeAt xfer.data 0 8)) ∈ n.resv.regs) :=
  ⟨⟨3, ⟨0, [], 0⟩, up_ [], (by decide)⟩, ⟨3, ⟨4, [], 0⟩, cmd_ 1 21 1 [0], ⟨1, 1000, 0, false, false, 0, [4], [true,
    true], [], none, ⟨[], none, 0, 0, false⟩⟩, (io_ 21 [0]).modHif (fun h =>
    { h with nss := [⟨1, 1000, 0, false, false, 0, [4], [true, true], [], none, ⟨[], none, 0, 0, false⟩⟩] }),
    (by decide)⟩, ⟨3, ⟨0, [0xA, 0, 0, 0, 0, 0, 0, 0, 0xB, 0, 0, 0, 0, 0, 0, 0], 0⟩, cmd_ 1 21 1 [2], ⟨1, 1000, 0,
    false, false, 0, [4], [true, true], [], none, ⟨[], none, 0, 0, false⟩⟩, (io_ 21 [2]).modHif (fun h =>
    { h with nss := [⟨1, 1000, 0, false, false, 0, [4], [true, true], [], none, ⟨[], none, 0, 0, false⟩⟩] }),
    (by decide)⟩, ⟨3, ⟨0, [0xA, 0, 0, 0, 0, 0, 0, 0, 0xB, 0, 0, 0, 0, 0, 0, 0], 0⟩, cmd_ 1 21 1 [0], ⟨1, 1000, 0,
    false, false, 0, [4], [true, true], [], none, ⟨[], none, 0, 0, false⟩⟩, (io_ 21 [0]).modHif (fun h =>
    { h with nss := [⟨1, 1000, 0, false, false, 0, [4], [true, true], [], none, ⟨[], none, 0, 0, false⟩⟩] }),
    (by decide)⟩, ⟨3, ⟨0, [0xA, 0, 0, 0, 0, 0, 0, 0, 0xB, 0, 0, 0, 0, 0, 0, 0], 0⟩, cmd_ 1 21 1 [0x100], ⟨1, 1000,
    0, false, false, 0, [4], [true, true], [], none, ⟨[((2 ^ 128), 0xA)], none, 0, 0, false⟩⟩, (io_ 21
    [0x100]).modHif (fun h =>
    { h with nss := [⟨1, 1000, 0, false, false, 0, [4], [true, true], [], none, ⟨[((2 ^ 128), 0xA)], none, 0, 0, false⟩⟩] }),
    (by decide)⟩, ⟨3, ⟨0, [0xA, 0, 0, 0, 0, 0, 0, 0, 0xB, 0, 0, 0, 0, 0, 0, 0], 0⟩, cmd_ 1 21 1 [0x100], ⟨1, 1000,
    0, false, false, 0, [4], [true, true], [], none, ⟨[((2 ^ 128), 0xA)], some (2 ^ 128), 1, 0, false⟩⟩, (io_ 21
    [0x100]).modHif (fun h =>
    { h with nss := [⟨1, 1000, 0, false, false, 0, [4], [true, true], [], none, ⟨[((2 ^ 128), 0xA)], some (2 ^ 128), 1, 0, false⟩⟩] }),
    (by decide)⟩, ⟨3, ⟨0, [0xA, 0, 0, 0, 0, 0, 0, 0, 0xB, 0, 0, 0, 0, 0, 0, 0], 0⟩, cmd_ 1 21 1 [1], ⟨1, 1000, 0,
    false, false, 0, [4], [true, true], [], none, ⟨[((2 ^ 128), 0xA)], some (2 ^ 128), 1, 0, false⟩⟩, (io_ 21
    [1]).modHif (fun h =>
    { h with nss := [⟨1, 1000, 0, false, false, 0, [4], [true, true], [], none, ⟨[((2 ^ 128), 0xA)], some (2 ^ 128), 1, 0, false⟩⟩] }),
    (by decide)⟩⟩

theorem reservation_commands_complete_meets :
    ∃ (r : Resv) (host nrkey crkey : Nat) (s : State), r.regs = [] :=
  ⟨⟨[], none, 0, 0, false⟩, 1, 5, 0, up_ [], (by decide)⟩

theorem step_runs_the_front_command_meets :
    (∃ (c : Instr) (rest : List Instr) (s : State), s.pending = c :: rest) ∧
    (∃ (s : State), s.pending = []) ∧
    (∃ (s : State), s.sys.powerGood = true) ∧
    (∃ (s : State), s.sys.powerGood = false) :=
  ⟨⟨.tetherClockSwitch, [], { at_ [] with pending := [.tetherClockSwitch] }, (by decide)⟩, ⟨at_ [], (by decide)⟩,
    ⟨on_ 0 [], (by decide)⟩, ⟨.reset, (by decide)⟩⟩

theorem reset_gives_the_reset_column_meets :
    (∃ (a : Nat) (d : RegDesc) (s : State), regAt a = some d) ∧
    (∃ (a : Nat) (s : State), regAt a = none) :=
  ⟨⟨R.A_SYS_MODE, (regAt R.A_SYS_MODE).get (by decide), .reset, (by decide)⟩, ⟨0, .reset, (by decide)⟩⟩

theorem access_acts_on_one_register_meets :
    (∃ (a : Nat) (d : RegDesc) (s : State), regAt a = some d) ∧
    (∃ (p : Path) (a n : Nat) (s : State), s.pathReads p = true ∧ n ≠ 0) ∧
    (∃ (p : Path) (a n : Nat) (s : State), s.pathReads p = true ∧ (s.gated (a - a % 4) = true ∨ s.silent (a - a % 4)
      = true ∨ (s.arrayCheck (a - a % 4)).1 = true)) ∧
    (∃ (p : Path) (a n : Nat) (s : State), s.pathReads p = true ∧ s.gated (a - a % 4) = false ∧ s.silent (a - a % 4)
      = false ∧ (s.arrayCheck (a - a % 4)).1 = false) ∧
    (∃ (p : Path) (a n : Nat) (v : Word) (s : State), s.gated a = false ∧ s.silent a = false ∧ (n ≠ 4 ∨ a % 4 ≠ 0))
      :=
  ⟨⟨R.A_SYS_MODE, (regAt R.A_SYS_MODE).get (by decide), .reset, (by decide)⟩, ⟨.core, R.A_SYS_MODE + 3, 2, at_ [],
    (by decide)⟩, ⟨.core, R.A_SYS_MODE + 3, 2, at_ [], (by decide)⟩, ⟨.core, 0x02002000, 4, (up_ []).setFlips ⟨true,
    0x20, 0, 0x400⟩ 3, (by decide)⟩, ⟨.core, R.A_SYS_GPIO_OUT + 2, 4, 1, at_ [], (by decide)⟩⟩

theorem addresses_without_a_register_meets :
    (∃ (p : Path) (a n : Nat) (s : State), noRegister (a - a % 4) = true ∧ s.pathReads p = true) ∧
    (∃ (p : Path) (a n : Nat) (s : State), noRegister (a - a % 4) = true ∧ s.pathReads p = true ∧ s.gated (a - a %
      4) = false ∧ s.silent (a - a % 4) = false) ∧
    (∃ (p : Path) (a n : Nat) (v : Word) (s : State), noRegister (a - a % 4) = true ∧ s.gated a = false ∧ s.silent a
      = false) ∧
    (∃ (p : Path) (a n : Nat) (v : Word) (s : State), noRegister (a - a % 4) = true) :=
  ⟨⟨.core, 0x01000FF0, 2, at_ [], (by decide)⟩, ⟨.core, 0x01000FF0, 2, at_ [], (by decide)⟩, ⟨.core, 0x01000FF0, 4,
    7, at_ [], (by decide)⟩, ⟨.core, 0x03400FF0, 4, 7, at_ [], (by decide)⟩⟩

theorem holding_copies_of_pairs_meets :
    (∃ (lo : Nat) (s : State), halfAt lo = .lo) ∧
    (∃ (p : Path) (lo : Nat) (t : State) (s : State), halfAt lo = .lo ∧ s.pathReads p = true ∧ s.gated lo = false ∧
      s.silent lo = false ∧ s.arrayCheck lo = (true, t)) ∧
    (∃ (p : Path) (lo : Nat) (w : Word) (t : State) (s : State), halfAt (lo + 4) = .hi ∧ s.pathReads p = true ∧
      s.gated (lo + 4) = false ∧ s.silent (lo + 4) = false ∧ s.arrayCheck (lo + 4) = (true, t) ∧ s.holdOf p lo =
      some w) ∧
    (∃ (p : Path) (lo : Nat) (t : State) (s : State), halfAt (lo + 4) = .hi ∧ s.pathReads p = true ∧ s.gated (lo +
      4) = false ∧ s.silent (lo + 4) = false ∧ s.arrayCheck (lo + 4) = (true, t) ∧ s.holdOf p lo = none) ∧
    (∃ (p : Path) (a n : Nat) (s : State), halfAt (a - a % 4) = .single) :=
  ⟨⟨R.A_TTH_STAMP_LO, at_ [], (by decide)⟩, ⟨.win0, R.A_TTH_STAMP_LO, at_ [], at_ [], ⟨by decide, by decide,
    by decide, by decide, rfl⟩⟩, ⟨.win1, R.A_TTH_STAMP_LO, 7, (at_ []).holdSet .win1 R.A_TTH_STAMP_LO (some 7), (at_
    []).holdSet .win1 R.A_TTH_STAMP_LO (some 7), ⟨by decide, by decide, by decide, by decide, rfl, by decide⟩⟩,
    ⟨.core, R.A_TTH_STAMP_LO, (at_ []).holdSet .win1 R.A_TTH_STAMP_LO (some 7), (at_ []).holdSet .win1
    R.A_TTH_STAMP_LO (some 7), ⟨by decide, by decide, by decide, by decide, rfl, by decide⟩⟩, ⟨.core, R.A_SYS_MODE,
    4, (at_ []).holdSet .win1 R.A_TTH_STAMP_LO (some 7), (by decide)⟩⟩

theorem reserved_encodings_leave_the_field_meets :
    (∃ (p : Path) (a : Nat) (f : FieldDesc) (v : Word) (s : State), f ∈ fieldsAt a ∧ (f.acc = .rw ∨ (f.acc = .rwl ∧
      s.pathUnlocked p = true)) ∧ f.allows (f.bits (s.writeValue a (s.rd a).toNat v.toNat)) = true) ∧
    (∃ (p : Path) (a : Nat) (f : FieldDesc) (v : Word) (s : State), f ∈ fieldsAt a ∧ (f.acc = .rw ∨ (f.acc = .rwl ∧
      s.pathUnlocked p = true)) ∧ f.allows (f.bits (s.writeValue a (s.rd a).toNat v.toNat)) = false) ∧
    (∃ (p : Path) (a : Nat) (f : FieldDesc) (v : Word) (s : State), f ∈ fieldsAt a ∧ f.acc = .w1c) ∧
    (∃ (p : Path) (a : Nat) (f : FieldDesc) (v : Word) (s : State), f ∈ fieldsAt a ∧ (f.acc = .ro ∨ f.acc = .rc ∨
      f.acc = .wo)) ∧
    (∃ (p : Path) (a b : Nat) (v : Word) (s : State), b ≠ a) :=
  ⟨⟨.core, R.A_DLK_CTRL, ((fieldsAt R.A_DLK_CTRL)[0]?).get (by decide), 3, at_ [], (by decide)⟩, ⟨.core,
    R.A_FLT_CFG, ((fieldsAt R.A_FLT_CFG)[3]?).get (by decide), 3, at_ [], (by decide)⟩, ⟨.core, R.A_SYS_CRS_STAT,
    ((fieldsAt R.A_SYS_CRS_STAT)[1]?).get (by decide), 3, at_ [], (by decide)⟩, ⟨.core, R.A_SYS_CRS_STAT, ((fieldsAt
    R.A_SYS_CRS_STAT)[0]?).get (by decide), 3, at_ [], (by decide)⟩, ⟨.core, R.A_SYS_GPIO_OUT, R.A_SYS_GPIO_OE, 3,
    at_ [], (by decide)⟩⟩

theorem locked_fields_and_the_debug_port_meets :
    (∃ (p : Path) (a : Nat) (f : FieldDesc) (v : Word) (s : State), f ∈ fieldsAt a ∧ f.acc = .rwl ∧ s.pathUnlocked p
      = false) ∧
    (∃ (p : Path) (a : Nat) (f : FieldDesc) (v : Word) (s : State), f ∈ fieldsAt a ∧ f.acc = .rwl ∧ s.pathUnlocked p
      = true ∧ f.allows (f.bits (s.writeValue a (s.rd a).toNat v.toNat)) = true) ∧
    (∃ (a n : Nat) (v : Word) (s : State), s.mode ≠ mWORKSHOP ∧ s.gated a = false ∧ s.silent a = false) ∧
    (∃ (a n : Nat) (v : Word) (s : State), s.flag R.SEC_STAT_DBG_UNLOCKED = false) ∧
    (∃ (a n : Nat) (s : State), s.flag R.SEC_STAT_DBG_UNLOCKED = true ∧ (s.gated (a - a % 4) = true ∨ s.silent (a -
      a % 4) = true ∨ (s.arrayCheck (a - a % 4)).1 = true)) :=
  ⟨⟨.core, R.A_LDG_CTRL, ((fieldsAt R.A_LDG_CTRL)[0]?).get (by decide), 0, at_ [], (by decide)⟩, ⟨.core,
    R.A_LDG_CTRL, ((fieldsAt R.A_LDG_CTRL)[0]?).get (by decide), 0, at_ [(R.SEC_STAT_HOST_UNLOCKED, 1)],
    (by decide)⟩, ⟨R.A_SYS_GPIO_OUT, 4, 3, at_ [(R.SEC_STAT_DBG_UNLOCKED, 1)], (by decide)⟩, ⟨R.A_SYS_GPIO_OUT, 4,
    3, at_ [], (by decide)⟩, ⟨R.A_SYS_GPIO_OUT, 4, at_ [(R.SEC_STAT_DBG_UNLOCKED, 1)], (by decide)⟩⟩

theorem physical_address_layout_meets :
    ∃ (f t k : Nat) (s : State), f < 24 ∧ t < 2 ^ 22 ∧ k < 2 ^ 13 :=
  ⟨23, 4194303, 8191, .reset, (by decide)⟩

theorem slots_of_a_track_stay_apart_meets :
    (∃ (a z d : Nat) (s : State), s.zfmtUsable a z = true ∧ d < s.dTot a z) ∧
    (∃ (a z d e : Nat) (s : State), s.zfmtUsable a z = true ∧ d < e ∧ e < s.dTot a z) ∧
    (∃ (a z t k j : Nat) (s : State), s.zfmtUsable a z = true ∧ k < j ∧ j < zSpt (entryNat (s.zfmt a z))) :=
  ⟨⟨0, 0, 0, zoned_ [] [], (by decide)⟩, ⟨0, 0, 0, 1, zoned_ [] [], (by decide)⟩, ⟨0, 0, 0, 0, 1, zoned_ [] [],
    (by decide)⟩⟩

theorem fault_sources_act_once_meets :
    (∃ (r : FltReg) (m : Nat) (b : Nat) (s : State), r ∈ allFltRegs ∧ m < 2 ^ 32 ∧ b < 32) ∧
    (∃ (r : FltReg) (m : Nat) (a : Nat) (s : State), a ≠ r.statAddr ∧ a ≠ R.A_FLT_ATTN_LEVEL) ∧
    (∃ (r : FltReg) (m : Nat) (s : State), (∀ b, b < r.srcBits → bitOf m b = true → s.faultIs r b = true ∨ bitOf
      (s.fltMask r) b = true) ∧ m < 2 ^ 32) ∧
    (∃ (r : FltReg) (m : Nat) (s : State), (∃ b, b < r.srcBits ∧ bitOf m b = true ∧ s.faultIs r b = false ∧ bitOf
      (s.fltMask r) b = false) ∧ m < 2 ^ 32) ∧
    (∃ (r : FltReg) (b : Nat) (s : State), s.get (r.sevFld b) = 2 ∧ r.unitOf b = none) ∧
    (∃ (r : FltReg) (b : Nat) (s : State), (s.get (r.sevFld b) ≠ 2 ∨ r.unitOf b ≠ none)) ∧
    (∃ (r : FltReg) (old new : Nat) (s : State), (∃ b, b < r.srcBits ∧ bitOf old b = true ∧ bitOf new b = false ∧
      s.faultIs r b = true)) ∧
    (∃ (r : FltReg) (old new : Nat) (s : State), (∀ b, b < r.srcBits → bitOf old b = true → bitOf new b = false →
      s.faultIs r b = false)) :=
  ⟨⟨.chRd 3, 5, 2, at_ [], (by decide)⟩, ⟨.chRd 3, 5, 0, at_ [], (by decide)⟩, ⟨.chRd 3, 0, at_ [], (by decide)⟩,
    ⟨.chRd 3, 5, at_ [], ⟨⟨0, by decide⟩, by decide⟩⟩, ⟨.sys, 1, at_ [(FltReg.sevFld .sys 1, 2)], (by decide)⟩,
    ⟨.sys, 1, at_ [], (by decide)⟩, ⟨.sys, 2, 0, (at_ []).wr R.A_SYS_FLT_STAT 2, ⟨1, by decide⟩⟩, ⟨.sys, 2, 2, at_
    [], (by decide)⟩⟩

theorem summary_registers_show_the_sources_meets :
    (∃ (h : Nat) (s : State), h < 24) ∧
    (∃ (n : Nat) (s : State), n < 18) ∧
    (∃ (a : Nat) (s : State), a < 4) ∧
    (∃ (b : Nat) (s : State), b < 19) ∧
    (∃ (s : State), s.sum0 ≠ 0) ∧
    (∃ (s : State), s.sum0 ≠ 0) :=
  ⟨⟨23, at_ [], (by decide)⟩, ⟨17, at_ [], (by decide)⟩, ⟨3, at_ [], (by decide)⟩, ⟨2, at_ [], (by decide)⟩, ⟨(at_
    []).wr R.A_SYS_FLT_STAT 2, (by decide)⟩, ⟨(at_ []).wr R.A_SYS_FLT_STAT 2, (by decide)⟩⟩

theorem nor_programs_only_clear_bits_meets :
    (∃ (m : List (Nat × Byte)) (a : Nat) (bs : List Byte) (j : Nat) (s : State), (j < a ∨ a + bs.length ≤ j)) ∧
    (∃ (m : List (Nat × Byte)) (a n j : Nat) (s : State), a ≤ j ∧ j < a + n) ∧
    (∃ (m : List (Nat × Byte)) (a n j : Nat) (s : State), (j < a ∨ a + n ≤ j)) ∧
    (∃ (j : LdgJob) (s : State), s.ldg.job = some j ∧ j.second = false) :=
  ⟨⟨[], 1, [5], 0, .reset, (by decide)⟩, ⟨[(4, 1)], 4, 1, 4, .reset, (by decide)⟩, ⟨[(5, 1)], 4, 1, 5, .reset,
    (by decide)⟩, ⟨⟨.header 0, 0, [], false, false⟩, (at_ []).modLdg (fun l =>
    { l with job := some ⟨.header 0, 0, [], false, false⟩ }), (by decide)⟩⟩

theorem ledger_record_layout_meets :
    (∃ (r : LdgRec) (rseq pcyc opt flags : Nat) (s : State), r.payload.length ≤ 224) ∧
    (∃ (r : LdgRec) (rseq pcyc opt flags : Nat) (s : State), r.payload.length ≤ 224) ∧
    (∃ (r : LdgRec) (rseq pcyc opt flags : Nat) (s : State), r.payload.length ≤ 224) ∧
    (∃ (r : LdgRec) (rseq pcyc opt flags : Nat) (s : State), r.payload.length ≤ 224) ∧
    (∃ (r : LdgRec) (rseq pcyc opt flags : Nat) (s : State), r.payload.length ≤ 224) ∧
    (∃ (pos len : Nat) (s : State), len ≤ 256 ∧ 1 ≤ len) :=
  ⟨⟨⟨0x2001, [1, 2, 3], 77, 0, false⟩, 1, 2, 3, 0, .reset, (by decide)⟩, ⟨⟨0x2001, [1, 2, 3], 77, 0, false⟩, 1, 2,
    3, 0, .reset, (by decide)⟩, ⟨⟨0x2001, [1, 2, 3], 77, 0, false⟩, 1, 2, 3, 0, .reset, (by decide)⟩, ⟨⟨0x2001, [1,
    2, 3], 77, 0, false⟩, 1, 2, 3, 0, .reset, (by decide)⟩, ⟨⟨0x2001, [1, 2, 3], 77, 0, false⟩, 1, 2, 3, 0, .reset,
    (by decide)⟩, ⟨250, 32, .reset, (by decide)⟩⟩

theorem darenlen_frame_layout_meets :
    (∃ (f : DlkFrame) (q : Nat) (s : State), f.ty < 16 ∧ q < 16) ∧
    (∃ (f g : DlkFrame) (q k : Nat) (s : State), f.ty < 16 ∧ g.ty < 16 ∧ q < 16 ∧ k < 16 ∧ frameBytes f q =
      frameBytes g k) :=
  ⟨⟨⟨5, 1, 2, 3, 4, 0, .plain⟩, 9, .reset, (by decide)⟩, ⟨⟨5, 1, 2, 3, 4, 0, .plain⟩, ⟨5, 257, 2, 3, 4, 0, .plain⟩,
    9, 9, .reset, (by decide)⟩⟩

theorem decompressed_length_meets :
    (∃ (hist data : List Byte) (s : State), data.length = 1048576) ∧
    (∃ (data out : List Byte) (rest : List Bool) (n : Nat) (s : State), data.length < 65536 ∧ n + data.length ≤
      1048576 ∧ rest.length % 8 = 0) :=
  ⟨⟨[], List.replicate 1048576 0, .reset, List.length_replicate⟩, ⟨[1, 2, 3], [], [], 0, .reset, (by decide)⟩⟩

theorem reservations_stay_consistent_meets :
    (∃ (r : Resv) (p : Nat → Bool) (s : State), r.ok = true) ∧
    (∃ (r v : Resv) (h a : Nat) (ie : Bool) (ck nk : Nat) (s : State), r.ok = true ∧ r.register h a ie ck nk = some
      v) ∧
    (∃ (r : Resv) (h : Nat) (s : State), r.ok = true ∧ r.holder = some h) ∧
    (∃ (r : Resv) (h k : Nat) (s : State), r.ok = true ∧ r.holder = some k ∧ r.registered h = false) ∧
    (∃ (r : Resv) (h : Nat) (w : Bool) (s : State), r.holder = none) :=
  ⟨⟨⟨[(5, 0xA)], some 5, 1, 0, false⟩, fun _ => true, .reset, (by decide)⟩, ⟨⟨[], none, 0, 0, false⟩, ⟨[(5, 0xA)],
    none, 0, 1, false⟩, 5, 0, false, 0, 0xA, .reset, (by decide)⟩, ⟨⟨[(5, 0xA)], some 5, 1, 0, false⟩, 5, .reset,
    (by decide)⟩, ⟨⟨[(5, 0xA)], some 5, 1, 0, false⟩, 6, 5, .reset, (by decide)⟩, ⟨⟨[], none, 0, 0, false⟩, 6, true,
    .reset, (by decide)⟩⟩

theorem buffer_memory_keeps_what_is_written_meets :
    (∃ (a : Nat) (bs : List Byte) (s : State), s.get R.MEM_STAT_STATE = 2 ∧ (∀ k, s.flipsOf k = 0) ∧ a + bs.length ≤
      s.dataTop) ∧
    (∃ (a n : Nat) (s : State), s.get R.MEM_STAT_STATE = 2 ∧ (∀ k, s.flipsOf k = 0) ∧ a + n ≤ s.dataTop) ∧
    (∃ (a : Nat) (bs : List Byte) (s : State), ((s.get R.MEM_STAT_STATE ≠ 2 ∧ s.get R.MEM_STAT_STATE ≠ 3) ∨
      s.dataTop < a + bs.length)) :=
  ⟨⟨13, [1, 2, 3], at_ [(R.MEM_STAT_STATE, 2), (R.MEM_DATA_TOP_TOP_MIB, 7168)], ⟨by decide, by intro k; rfl,
    by decide⟩⟩, ⟨13, 3, at_ [(R.MEM_STAT_STATE, 2), (R.MEM_DATA_TOP_TOP_MIB, 7168)], ⟨by decide, by intro k; rfl,
    by decide⟩⟩, ⟨0, [1], at_ [], (by decide)⟩⟩

theorem every_step_keeps_the_stores_canonical_meets :
    ∃ (t : State) (s : State), s.canon = true ∧ step s = .next t :=
  ⟨(State.reset).tick, .reset, ⟨by decide, rfl⟩⟩

theorem only_device_resets_and_fetches_move_the_time_base_meets :
    (∃ (c : Instr) (t : State) (s : State), exec c s = .next t ∧ (∀ a b, c ≠ .commandFetch a b) ∧ (∀ g a b r, c ≠
      .powerGood g a b r) ∧ (∀ r v, c ≠ .powerOnReset r v) ∧ c ≠ .supplyRecoveryReset) ∧
    (∃ (rails : List (Nat × Nat)) (gpio : Word) (pair0 pair1 : Bool) (t : State) (s : State), exec (.powerGood gpio
      pair0 pair1 rails) s = .next t) ∧
    (∃ (rail : Fin 7) (mv : List Nat) (t : State) (s : State), exec (.powerOnReset rail mv) s = .next t) ∧
    (∃ (t : State) (s : State), exec .supplyRecoveryReset s = .next t) ∧
    (∃ (a b : Option Sqe) (t : State) (s : State), exec (.commandFetch a b) s = .next t) :=
  ⟨⟨.depotRebuildDone, { State.reset.depBack.settle with pending := [] }, .reset, ⟨rfl, (by intro a b h; cases h),
    (by intro g a b r h; cases h), (by intro r v h; cases h), by decide⟩⟩, ⟨[], 0, true, true,
    { (State.reset.railsUp [] 0 true true).settle with pending := [] }, .reset, rfl⟩, ⟨0, [],
    { (State.reset.railGone 0 []).settle with pending := [] }, .reset, rfl⟩,
    ⟨{ State.reset.supplyReset.settle with pending := [] }, .reset, rfl⟩, ⟨none, none,
    { (State.reset.commandFetch none none).settle with pending := [] }, .reset, rfl⟩⟩

end Sys2Proof.Machine
end

section
/-!
PROOF. Every step keeps the stores canonical: each command but the four that set or move the time base keeps what `State.Keeps`
says, those four keep the canonical form, and a step is one command or one tick.
-/

namespace Sys2Proof.Machine

open Sys2Proof

/-- Every command but a fetch, POWER_GOOD and the two device resets keeps the time base and the form of the stores. -/
theorem exec_keeps {c : Instr} {s t : State} (h : exec c s = .next t) (hf : ∀ a b, c ≠ .commandFetch a b)
    (hg : ∀ g a b r, c ≠ .powerGood g a b r) (hr : ∀ r v, c ≠ .powerOnReset r v) (hs : c ≠ .supplyRecoveryReset) :
    s.Keeps t := by
  have k := keeps_refl s
  cases c with
  | crsWrite => exact ends_keeps (State.crsWrite_keeps _ _ _ _ _ k) h
  | crsAccessTimeout => exact ends_keeps (State.silentAccess_keeps _ _ _ _ k) h
  | rcRegisterRead | stampLoRead | stampHiRead | gatedUnitRead => exact ends_keeps (State.crsRead_keeps _ _ _ _ k) h
  | tbAlignCheck => exact ends_keeps (State.tbAlign_keeps _ _ k) h
  | powerDomainUp => exact ends_keeps (State.domainUp_keeps _ k) h
  | underVoltage => exact ends_keeps (State.railDip_keeps _ _ _ _ k) h
  | setFeaturesDeviceMode => exact ends_keeps (State.setMode_keeps _ _ k) h
  | getFeaturesDeviceMode => exact ends_keeps (State.getMode_keeps _ _ k) h
  | modeTransitionTrigger => exact ends_keeps (State.modeTrigger_keeps _ _ k) h
  | modeStepComplete => exact ends_keeps (State.modeStep_keeps _ k) h
  | junctionTempRead => exact ends_keeps (State.junctionCmd_keeps _ _ k) h
  | envSensorPoll => exact ends_keeps (State.envCmd_keeps _ _ k) h
  | temperatureCapRelease => exact ends_keeps (State.tempRelease_keeps _ k) h
  | ondemandTimeout => exact ends_keeps (State.ondemandTimeout_keeps _ k) h
  | autonomousPsTransition => exact ends_keeps (State.autoPs_keeps _ _ k) h
  | spinupTimeout => exact ends_keeps (State.spinupTimeout_keeps _ k) h
  | actuatorLoadStart => exact ends_keeps (State.nextActuator_keeps _ k) h
  | ccEnable => exact ends_keeps (State.ctlEnable_keeps _ _ _ _ k) h
  | controllerReset => exact ends_keeps (State.ctlDisable_keeps _ _ _ k) h
  | controllerResetDone => exact ends_keeps (State.ctlResetDone_keeps _ _ k) h
  | pciePortReset => exact ends_keeps (State.portReset_keeps _ _ _ k) h
  | perstLow => exact ends_keeps (State.perstLow_keeps _ _ k) h
  | linkTrainingStart => exact ends_keeps (State.linkTraining_keeps _ _ k) h
  | controllerShutdown => exact ends_keeps (State.shutdown_keeps _ _ _ k) h
  | shutdownComplete => exact ends_keeps (State.shutdownDone_keeps _ _ k) h
  | abruptShutdownTimeout => exact ends_keeps (State.abruptTimeout_keeps _ _ k) h
  | nvmSubsystemReset => exact ends_keeps (State.subsystemReset_keeps _ _ k) h
  | tthEnable | tthDisable | tthSelectRequest | ldpcDecoderReset | chReload | chCounterClear | chWrCounterClear |
  seqEnable | seqPause | seqResume | seqAttn | defSwap | actuatorEnable | actuatorLoad | actuatorUnload |
  actuatorRetract | actuatorHold | cleLoopRestart | cleLoopDisable | cleLoopCounterClear | cleCommit |
  cleInjectionEnable | cleCaptureArm | spnStart | spnBrake | spnCoast | spnDisable | spnTargetWrite | depotEnable |
  convoyStart | convoyStop | convoyChannelEnable | convoyDoorbell | hostLock | dbgLock | compressorGo |
  compressorResume | compressorAbort | decompressorGo | decompressorAbort | clogFree | errorInjectionArm |
  containRequest | watchdogKick | ldgRaise | dlkEnable | dlkRselWrite | dlkPregRead | dlkPregWrite | gpioOutWrite =>
    exact ends_keeps (State.regCmd_keeps _ _ _ _ k) h
  | tetherFrequencyFound => exact ends_keeps (State.frequencyFound_keeps _ _ _ _ k) h
  | tetherFrame => exact ends_keeps (State.tetherFrame_keeps _ _ _ k) h
  | tetherClockSwitch => exact ends_keeps (State.clockSwitch_keeps _ k) h
  | relockFail => exact ends_keeps (State.relockFail_keeps _ k) h
  | zoneSettled => exact ends_keeps (State.zoneSettled_keeps _ _ k) h
  | sectorArrival => exact ends_keeps (State.sectorArrival_keeps _ _ _ k) h
  | syncDecision => exact ends_keeps (State.syncDecision_keeps _ _ _ k) h
  | llrCaptureComplete => exact ends_keeps (State.captured_keeps _ _ _ k) h
  | streamDecodeStart => exact ends_keeps (State.streamStart_keeps _ k) h
  | streamDecodeEnd => exact ends_keeps (State.streamEnd_keeps _ _ _ _ k) h
  | deepDecodeStart => exact ends_keeps (State.deepStart_keeps _ k) h
  | deepDecodeEnd => exact ends_keeps (State.deepEnd_keeps _ _ _ _ k) h
  | decoderHang => exact ends_keeps (State.decHang_keeps _ _ k) h
  | writeRunStart => exact ends_keeps (State.writeRunStart_keeps _ _ _ k) h
  | writeGateOpen => exact ends_keeps (State.writeGateOpen_keeps _ _ _ k) h
  | writeRunEnd => exact ends_keeps (State.writeRunEnd_keeps _ _ k) h
  | sectorCountedWritten => exact ends_keeps (State.countWritten_keeps _ _ k) h
  | microwordIssue => exact ends_keeps (State.sqClock_keeps _ _ k) h
  | opCont | opJump | opBr | opCall | brcall | opRet | brret | opDisp | opLoop | opWait | opHalt =>
    exact ends_keeps (State.wordNop_keeps _ _ _ _ k) h
  | waitConditionMet => exact ends_keeps (State.waitMet_keeps _ _ k) h
  | waitTimeout => exact ends_keeps (State.waitTimeout_keeps _ _ k) h
  | opMov | opAdd | opSub | opAnd | opOr | opXor | opShl | opShr | opCmp | ldlc | ldhs =>
    exact ends_keeps (State.wordAlu_keeps _ _ _ _ k) h
  | taskPop | donePush | armRead | armWrite | armVerify | opAbandon | loadZone | opSelect | opSeek | opTarget |
  defLookup | rptPop =>
    exact ends_keeps (State.wordFcmd_keeps _ _ _ _ k) h
  | wpTimeout => exact ends_keeps (State.wpTimeout_keeps _ _ k) h
  | servoSample => exact ends_keeps (State.wedgeSample_keeps _ _ _ k) h
  | ontrkSet => exact ends_keeps (State.ontrkSet_keeps _ _ k) h
  | followError => exact ends_keeps (State.followError_keeps _ _ k) h
  | servoLost => exact ends_keeps (State.servoLost_keeps _ _ k) h
  | loadFail => exact ends_keeps (State.loadFail_keeps _ _ k) h
  | seekTimeout => exact ends_keeps (State.seekTimeout_keeps _ _ k) h
  | rampStopReached => exact ends_keeps (State.rampStop_keeps _ _ k) h
  | retractDone => exact ends_keeps (State.retractDone_keeps _ _ k) h
  | gustFrame => exact ends_keeps (State.gustFrame_keeps _ _ _ k) h
  | gustTrip => exact ends_keeps (State.gustTrip_keeps _ _ k) h
  | gustTripClear => exact ends_keeps (State.gustTripClear_keeps _ _ k) h
  | gustFrameTimeout => exact ends_keeps (State.gustTimeout_keeps _ _ k) h
  | gustCrcLoss => exact ends_keeps (State.gustCrcLoss_keeps _ _ k) h
  | bridleFrameSend => exact ends_keeps (State.bridleCmd_keeps _ _ _ k) h
  | bridleReply => exact ends_keeps (State.bridleReply_keeps _ _ _ k) h
  | bridleRefresh => exact ends_keeps (State.bridleRefresh_keeps _ _ k) h
  | bridleLinkDown => exact ends_keeps (State.bridleDown_keeps _ _ k) h
  | bridleLinkUp => exact ends_keeps (State.bridleUp_keeps _ _ k) h
  | vcmCurrentSample => exact ends_keeps (State.vcmSample_keeps _ _ _ k) h
  | vcmOvercurrent => exact ends_keeps (State.vcmOver_keeps _ _ k) h
  | vcmBridgeFault => exact ends_keeps (State.vcmBridge_keeps _ _ _ k) h
  | cleJobStart => exact ends_keeps (State.jobStart_keeps _ k) h
  | cleJobEnd => exact ends_keeps (State.jobEnd_keeps _ _ k) h
  | cleJobOverrun => exact ends_keeps (State.jobOverrun_keeps _ _ k) h
  | cleCommitCopy => exact ends_keeps (State.commitCopy_keeps _ k) h
  | spnFastBusSample => exact ends_keeps (State.fastSample_keeps _ _ _ _ k) h
  | spnPwmPeriod => exact ends_keeps (State.pwmPeriod_keeps _ k) h
  | spnListenEnd => exact ends_keeps (State.spnListenEnd_keeps _ k) h
  | spnAlignEnd => exact ends_keeps (State.spnAlignEnd_keeps _ k) h
  | spnRampTimeout => exact ends_keeps (State.spnRampTimeout_keeps _ k) h
  | spnRetryCoastEnd => exact ends_keeps (State.spnRetryEnd_keeps _ k) h
  | obsLock => exact ends_keeps (State.obsLock_keeps _ k) h
  | obsLoss => exact ends_keeps (State.obsLoss_keeps _ k) h
  | angDisagree => exact ends_keeps (State.angDisagree_keeps _ k) h
  | spnAtSpeed => exact ends_keeps (State.speedReached_keeps _ k) h
  | spnRestReached => exact ends_keeps (State.restReached_keeps _ k) h
  | catchPresetEnd => exact ends_keeps (State.catchPresetEnd_keeps _ k) h
  | catchFail => exact ends_keeps (State.catchFail_keeps _ k) h
  | spnStageFault => exact ends_keeps (State.stageFault_keeps _ _ k) h
  | balFlt => exact ends_keeps (State.balFlt_keeps _ k) h
  | balStuck => exact ends_keeps (State.balStuck_keeps _ k) h
  | ov => exact ends_keeps (State.overVoltage_keeps _ k) h
  | ovRecovery => exact ends_keeps (State.ovRecovery_keeps _ k) h
  | supplyLoss => exact ends_keeps (State.supplyLoss_keeps _ k) h
  | plossEnd => exact ends_keeps (State.plossEnd_keeps _ k) h
  | spdrefBad => exact ends_keeps (State.spdrefBad_keeps _ _ k) h
  | spdrefGood => exact ends_keeps (State.spdrefGood_keeps _ _ k) h
  | spdrefSyncLock => exact ends_keeps (State.spdrefSync_keeps _ _ k) h
  | memTrainingDone => exact ends_keeps (State.memTrained_keeps _ _ _ _ _ _ _ k) h
  | memSrefEntry => exact ends_keeps (State.memSref_keeps _ k) h
  | opAlloc | opShare | opRelease | opFree | opPass | opMark | opQuery | opRetire | opInit =>
    exact ends_keeps (State.depCmd_keeps _ _ _ _ _ _ _ _ _ k) h
  | depotCacheRefill => exact ends_keeps (State.cacheKeep_keeps _ _ k) h
  | depotBufferAccess => exact ends_keeps (State.depAccess_keeps _ _ _ _ _ _ k) h
  | depotRebuildDone => exact ends_keeps (State.depBack_keeps _ k) h
  | poolExhausted => exact ends_keeps (State.poolExhausted_keeps _ _ k) h
  | convoyGrant => exact ends_keeps (State.cvyGrant_keeps _ _ k) h
  | descriptorFetched => exact ends_keeps (State.cvyFetched_keeps _ _ k) h
  | transferArrived => exact ends_keeps (State.cvyArrived_keeps _ _ _ k) h
  | convoyBusError => exact ends_keeps (State.cvyBusError_keeps _ _ _ _ _ _ k) h
  | convoyRetry => exact ends_keeps (State.cvyAgain_keeps _ _ _ k) h
  | statusWritebackDone => exact ends_keeps (State.cvyWritten_keeps _ _ k) h
  | ownershipClearDone => exact ends_keeps (State.cvyOwned_keeps _ _ k) h
  | linkRereadDone => exact ends_keeps (State.cvyLinked_keeps _ _ _ k) h
  | convoyEngineHang => exact ends_keeps (State.cvyHang_keeps _ _ k) h
  | createIoCq => exact ends_keeps (State.createCq_keeps _ _ k) h
  | createIoSq => exact ends_keeps (State.createSq_keeps _ _ k) h
  | deleteIoCq => exact ends_keeps (State.deleteCq_keeps _ _ k) h
  | deleteIoSq => exact ends_keeps (State.deleteSq_keeps _ _ k) h
  | getLogPage => exact ends_keeps (State.getLogPage_keeps _ _ _ k) h
  | identify => exact ends_keeps (State.identify_keeps _ _ _ k) h
  | opAbort => exact ends_keeps (State.abortCmd_keeps _ _ k) h
  | setFeatures => exact ends_keeps (State.setFeatures_keeps _ _ _ k) h
  | getFeatures => exact ends_keeps (State.getFeatures_keeps _ _ _ k) h
  | setFeaturesPowerMgmt => exact ends_keeps (State.setPower_keeps _ _ k) h
  | setFeaturesNumberOfQueues => exact ends_keeps (State.setNumQueues_keeps _ _ k) h
  | setFeaturesSpinupControl => exact ends_keeps (State.setSpinup_keeps _ _ k) h
  | setFeaturesQueueOrder => exact ends_keeps (State.setOrder_keeps _ _ k) h
  | setFeaturesCompletionStamp => exact ends_keeps (State.setStamp_keeps _ _ k) h
  | setFeaturesCompressionLevel => exact ends_keeps (State.setLevel_keeps _ _ k) h
  | asyncEventRequest => exact ends_keeps (State.asyncReq_keeps _ _ k) h
  | namespaceManagement => exact ends_keeps (State.nsManage_keeps _ _ _ k) h
  | namespaceAttachment => exact ends_keeps (State.nsAttach_keeps _ _ _ k) h
  | firmwareImageDownload => exact ends_keeps (State.download_keeps _ _ _ k) h
  | firmwareCommit => exact ends_keeps (State.firmwareCommit_keeps _ _ k) h
  | firmwareActivation => exact ends_keeps (State.activation_keeps _ k) h
  | activationTimeout => exact ends_keeps (State.activationTimeout_keeps _ k) h
  | deviceSelfTest => exact ends_keeps (State.selfTestCmd_keeps _ _ _ k) h
  | directiveSend => exact ends_keeps (State.directiveSend_keeps _ _ _ k) h
  | directiveReceive => exact ends_keeps (State.directiveReceive_keeps _ _ _ k) h
  | unlockChallenge => exact ends_keeps (State.unlockChallenge_keeps _ _ k) h
  | unlockResponse => exact ends_keeps (State.unlockResponse_keeps _ _ _ k) h
  | unlockAttemptExpiry => exact ends_keeps (State.attemptExpiry_keeps _ _ k) h
  | lockoutEnd => exact ends_keeps (State.lockoutEnd_keeps _ _ k) h
  | unlockTimeout => exact ends_keeps (State.unlockTimeout_keeps _ _ k) h
  | opFlush => exact ends_keeps (State.flushCmd_keeps _ _ k) h
  | opWrite => exact ends_keeps (State.writeStart_keeps _ _ k) h
  | writeEffect => exact ends_keeps (State.writeEffect_keeps _ _ _ k) h
  | opRead => exact ends_keeps (State.readCmd_keeps _ _ _ _ k) h
  | writeZeroes => exact ends_keeps (State.writeZeroes_keeps _ _ k) h
  | datasetManagement => exact ends_keeps (State.datasetMgmt_keeps _ _ _ k) h
  | opVerify => exact ends_keeps (State.verifyCmd_keeps _ _ _ _ k) h
  | reservationRegister => exact ends_keeps (State.resvRegister_keeps _ _ _ k) h
  | reservationReport => exact ends_keeps (State.resvReport_keeps _ _ _ k) h
  | reservationAcquire => exact ends_keeps (State.resvAcquire_keeps _ _ _ k) h
  | reservationRelease => exact ends_keeps (State.resvRelease_keeps _ _ _ k) h
  | sqTailDoorbell => exact ends_keeps (State.sqDoorbell_keeps _ _ _ _ k) h
  | cqHeadDoorbell => exact ends_keeps (State.cqDoorbell_keeps _ _ _ _ k) h
  | completionPost => exact ends_keeps (State.cmdPost_keeps _ _ k) h
  | destageStart => exact ends_keeps (State.destageStart_keeps _ k) h
  | discardedByFault => exact ends_keeps (State.discarded_keeps _ _ _ k) h
  | smbusBasicMgmtRead => exact ends_keeps (State.smbRead_keeps _ _ _ k) h
  | smbusLedgerOffset => exact ends_keeps (State.smbOffset_keeps _ _ _ k) h
  | smbusLedgerRead => exact ends_keeps (State.smbLedger_keeps _ _ k) h
  | smbusLedgerStatus => exact ends_keeps (State.smbStatus_keeps _ _ k) h
  | lookupLba | lookupIdx | opUpdate => exact ends_keeps (State.rteCmd_keeps _ _ _ _ _ _ _ _ _ k) h
  | outFull => exact ends_keeps (State.compOutFull_keeps _ _ k) h
  | compressionEnd => exact ends_keeps (State.compEnd_keeps _ _ k) h
  | decompressionEnd => exact ends_keeps (State.decompEnd_keeps _ _ k) h
  | cmpLaneHang => exact ends_keeps (State.laneHang_keeps _ _ _ k) h
  | reclaim => exact ends_keeps (State.reclaim_keeps _ k) h
  | journalCheckpoint => exact ends_keeps (State.checkpoint_keeps _ k) h
  | routeTableLoad => exact ends_keeps (State.routeLoad_keeps _ k) h
  | scrubRewrite => exact ends_keeps (State.scrubRewrite_keeps _ _ k) h
  | patrolScrubStep => exact ends_keeps (State.patrol_keeps _ _ _ k) h
  | sramWalkerRead => exact ends_keeps (State.walker_keeps _ _ _ _ _ k) h
  | hardErrorAction => exact ends_keeps (State.errorAction_keeps _ _ k) h
  | faultUnmask => exact ends_keeps (State.maskCmd_keeps _ _ _ _ k) h
  | faultStatusClear => exact ends_keeps (State.statCmd_keeps _ _ _ _ k) h
  | attnRelease => exact ends_keeps (State.attnRelease_keeps _ k) h
  | containmentResetEnd => exact ends_keeps (State.containEnd_keeps _ _ k) h
  | mismatch => exact ends_keeps (State.mismatch_keeps _ _ k) h
  | opWdog => exact ends_keeps (State.watchdog_keeps _ k) h
  | switchoverReconciled => exact ends_keeps (State.switchDone_keeps _ k) h
  | pairSelfTestDone => exact ends_keeps (State.pairTested_keeps _ _ _ k) h
  | limpRetractTimeout => exact ends_keeps (State.limpRetract_keeps _ _ k) h
  | ledgerProgramDone => exact ends_keeps (State.ldgProgramDone_keeps _ k) h
  | ledgerProgramFail => exact ends_keeps (State.ldgProgramFail_keeps _ k) h
  | ledgerEraseDone => exact ends_keeps (State.ldgEraseDone_keeps _ _ k) h
  | ledgerScanDone => exact ends_keeps (State.ldgScanDone_keeps _ k) h
  | opHours => exact ends_keeps (State.ldgHours_keeps _ k) h
  | suppSummary => exact ends_keeps (State.ldgSummary_keeps _ k) h
  | tokenRefill => exact ends_keeps (State.ldgRefill_keeps _ k) h
  | bootRecordRead => exact ends_keeps (State.bootRead_keeps _ _ k) h
  | manifestStreamed => exact ends_keeps (State.manifestRead_keeps _ k) h
  | firmwareStreamed => exact ends_keeps (State.firmwareRead_keeps _ k) h
  | patchLoad => exact ends_keeps (State.patchLoad_keeps _ k) h
  | manifestAuthentication => exact ends_keeps (State.manifestJudge_keeps _ k) h
  | bootExit => exact ends_keeps (State.bootExit_keeps _ _ k) h
  | extest => exact ends_keeps (State.tapExtest_keeps _ k) h
  | samplePreload | idcode | secStatus | bypass => exact ends_keeps (State.tapSelect_keeps _ _ _ k) h
  | unlockCh => exact ends_keeps (State.tapChallenge_keeps _ _ k) h
  | unlockRsp => exact ends_keeps (State.tapRespond_keeps _ _ _ k) h
  | crsAddr => exact ends_keeps (State.tapAddress_keeps _ _ _ k) h
  | crsData => exact ends_keeps (State.tapData_keeps _ _ k) h
  | dlkFrameSend => exact ends_keeps (State.dlkSendNext_keeps _ _ k) h
  | dlkReply => exact ends_keeps (State.dlkReply_keeps _ _ _ k) h
  | dlkExchangeTimeout => exact ends_keeps (State.exchangeTimeout_keeps _ _ k) h
  | dlkLinkDown => exact ends_keeps (State.dlkLineDown_keeps _ _ _ k) h
  | dlkAlignStart => exact ends_keeps (State.dlkAlignStart_keeps _ _ k) h
  | dlkAligned => exact ends_keeps (State.dlkAligned_keeps _ _ _ k) h
  | dlkTrainTimeout => exact ends_keeps (State.dlkTrainTimeout_keeps _ _ k) h
  | dlkPing => exact ends_keeps (State.dlkPing_keeps _ _ k) h
  | dlkFaultLine => exact ends_keeps (State.dlkFaultLine_keeps _ _ _ k) h
  | armMiss => exact ends_keeps (State.armMiss_keeps _ _ k) h
  | defLookupDone => exact ends_keeps (State.lookupDone_keeps _ _ k) h
  | mr4RefreshRead => exact ends_keeps (State.mr4Read_keeps _ _ k) h
  | pcieLinkUp => exact ends_keeps (State.linkUp_keeps _ _ _ _ _ k) h
  | aerUncorrectable => exact ends_keeps (State.aerUncorrectable_keeps _ _ k) h
  | spnCurrentSample =>
    exact ends_keeps (State.tthStart_keeps _ (State.relockWatch_keeps _ (State.currentSample_keeps _ _ k))) h
  | commandFetch a b => exact absurd rfl (hf a b)
  | powerGood g a b r => exact absurd rfl (hg g a b r)
  | powerOnReset r v => exact absurd rfl (hr r v)
  | supplyRecoveryReset => exact absurd rfl hs

theorem State.railsUp_canon (s : State) (seen : List (Nat × Nat)) (gpio : Nat) (pair0 pair1 : Bool) (c : s.canon = true) :
    (s.railsUp seen gpio pair0 pair1).canon = true := by
  unfold State.railsUp
  exact canon_ite (State.powerUp_canon s gpio pair0 pair1 c) c

theorem State.railGone_canon (s : State) (i : Nat) (mv : List Nat) (c : s.canon = true) : (s.railGone i mv).canon = true := by
  unfold State.railGone
  exact canon_ite (State.powerOnReset_canon s c) c

/-- Every command keeps the canonical form of the stores. -/
theorem exec_canon {c : Instr} {s t : State} (hc : s.canon = true) (h : exec c s = .next t) : t.canon = true := by
  by_cases hf : ∃ a b, c = .commandFetch a b
  · obtain ⟨a, b, rfl⟩ := hf
    exact ends_canon (State.commandFetch_canon s a b hc) h
  by_cases hg : ∃ g a b r, c = .powerGood g a b r
  · obtain ⟨g, a, b, r, rfl⟩ := hg
    exact ends_canon (State.railsUp_canon s r g.toNat a b hc) h
  by_cases hr : ∃ r v, c = .powerOnReset r v
  · obtain ⟨r, v, rfl⟩ := hr
    exact ends_canon (State.railGone_canon s r.val v hc) h
  by_cases hs : c = .supplyRecoveryReset
  · subst hs
    exact ends_canon (State.supplyReset_canon s hc) h
  · have k := exec_keeps h (fun a b e => hf ⟨a, b, e⟩) (fun g a b r e => hg ⟨g, a, b, r, e⟩)
      (fun r v e => hr ⟨r, v, e⟩) hs
    exact k.canon hc

theorem State.tick_canon (s : State) (c : s.canon = true) : s.tick.canon = true := by
  unfold State.tick
  exact canon_ite c c

theorem step_of_empty {s : State} (h : s.pending = []) : step s = .next s.tick := by
  unfold step
  rw [h]

theorem step_of_front {s : State} {c : Instr} {rest : List Instr} (h : s.pending = c :: rest) :
    step s = exec c { s with pending := rest } := by
  unfold step
  rw [h]

/-- Settles O57: a step is a tick, which writes no store, or the front command on a state with the same stores. -/
theorem everyStepKeepsTheStoresCanonical : Obligations.EveryStepKeepsTheStoresCanonical := by
  unfold Obligations.EveryStepKeepsTheStoresCanonical
  intro t s hc h
  cases hp : s.pending with
  | nil =>
    rw [step_of_empty hp] at h
    cases h
    exact s.tick_canon hc
  | cons c rest =>
    rw [step_of_front hp] at h
    exact exec_canon (s := { s with pending := rest }) hc h

end Sys2Proof.Machine
end

section
/-!
PROOF. The register tables: where their registers lie, which halves stand side by side, and that fields share no bit. The
facts about the tables are checked entry by entry; what follows from them is proved for every address.
-/

namespace Sys2Proof.Machine

open Sys2Proof

/-! ### Bits of a number -/

theorem testBit_bitsOf (n lo w i : Nat) : (bitsOf n lo w).testBit i = (decide (i < w) && n.testBit (lo + i)) := by
  unfold bitsOf
  rw [Nat.testBit_mod_two_pow, Nat.testBit_div_two_pow, Nat.add_comm]

theorem bitsOf_lt (n lo w : Nat) : bitsOf n lo w < 2 ^ w := Nat.mod_lt _ (Nat.two_pow_pos w)

@[simp] theorem bitsOf_zero_left (lo w : Nat) : bitsOf 0 lo w = 0 := by simp [bitsOf]

theorem bitsOf_low (n w : Nat) : bitsOf n 0 w = n % 2 ^ w := by simp [bitsOf]

theorem bitsOf_word (w : Word) : bitsOf w.toNat 0 32 = w.toNat := by rw [bitsOf_low, Nat.mod_eq_of_lt w.isLt]

/-- Bits of a cut of a number: bits of the number inside the cut. -/
theorem bitsOf_bitsOf_inside (n lo k i w : Nat) (h : i + w ≤ k) : bitsOf (bitsOf n lo k) i w = bitsOf n (lo + i) w := by
  refine Nat.eq_of_testBit_eq fun j => ?_
  simp only [testBit_bitsOf, Nat.add_assoc]
  by_cases hj : j < w
  · simp [hj, show i + j < k by omega]
  · simp [hj]

/-- Beyond the cut there is nothing. -/
theorem bitsOf_bitsOf_beyond (n lo k i w : Nat) (h : k ≤ i) : bitsOf (bitsOf n lo k) i w = 0 := by
  refine Nat.eq_of_testBit_eq fun j => ?_
  simp only [testBit_bitsOf, Nat.zero_testBit, show ¬ i + j < k by omega, decide_false, Bool.false_and, Bool.and_false]

/-- The bits of a 32-bit field do not see what lies above bit 31. -/
theorem bitsOf_ofNat_word (n lo w : Nat) (h : lo + w ≤ 32) : bitsOf (BitVec.ofNat 32 n).toNat lo w = bitsOf n lo w := by
  rw [BitVec.toNat_ofNat, ← bitsOf_low, bitsOf_bitsOf_inside n 0 32 lo w h, Nat.zero_add]

/-! ### The tables -/

/-- The register tables of the blocks (Table 1-1). -/
def blockTables : List (List RegDesc) :=
  [regsSYS, regsFLT, regsCH, regsTTH, regsLDPC, regsPOOL, regsSEQ, regsSRV, regsCLE, regsSPN, regsDEP, regsCVY, regsMEM,
    regsHIF, regsRTE, regsCMP, regsLDG, regsSEC, regsDLK]

/-- The registers of all blocks. -/
def registers : List RegDesc := blockTables.flatten

/-- What holds of no registers and of every table holds of the registers of the block at any address. -/
theorem blockRegs_induction {P : List RegDesc → Prop} (h0 : P []) (h : ∀ l ∈ blockTables, P l) (a : Nat) :
    P (blockRegs a) := by
  simp only [blockTables, List.forall_mem_cons] at h
  obtain ⟨h1, h2, h3, h4, h5, h6, h7, h8, h9, h10, h11, h12, h13, h14, h15, h16, h17, h18, h19, -⟩ := h
  unfold blockRegs
  repeat' refine iteInduction (fun _ => ?_) (fun _ => ?_)
  all_goals with_reducible assumption

theorem blockRegs_subset (a : Nat) : ∀ d ∈ blockRegs a, d ∈ registers :=
  blockRegs_induction (P := fun l => ∀ d ∈ l, d ∈ registers) (fun _ h => absurd h List.not_mem_nil)
    (fun l hl _ hd => List.mem_flatten.2 ⟨l, hl, hd⟩) a

theorem regAt_mem {a : Nat} {d : RegDesc} (h : regAt a = some d) : d ∈ registers :=
  blockRegs_subset a d (List.mem_of_find?_eq_some h)

theorem regAt_hit {a : Nat} {d : RegDesc} (h : regAt a = some d) : d.hit a = true := by
  simpa using List.find?_some h

/-- Base and strides of a register group are multiples of 4 (R9). -/
def RegDesc.aligned (d : RegDesc) : Bool := d.base % 4 == 0 && d.dim1.2 % 4 == 0 && d.dim2.2 % 4 == 0

/-- Two fields share no bit. -/
def FieldDesc.apart (f g : FieldDesc) : Bool := decide (f.hi < g.lo) || decide (g.hi < f.lo)

/-- The fields of a register lie within its 32 bits and share none of them (R13). -/
def RegDesc.fieldsApart (d : RegDesc) : Bool :=
  d.fields.all (fun f => decide (f.lo ≤ f.hi) && decide (f.hi < 32)) &&
    decide (d.fields.Pairwise (fun f g => f.apart g = true))

/-- The addresses of a register group (R6, R7). -/
def RegDesc.addrs (d : RegDesc) : List Nat :=
  (List.range d.dim1.1).flatMap fun i => (List.range d.dim2.1).map fun j => d.base + i * d.dim1.2 + j * d.dim2.2

theorem registers_aligned : ∀ d ∈ registers, d.aligned = true := by decide +kernel

theorem registers_fieldsApart : ∀ d ∈ registers, d.fieldsApart = true := by decide +kernel

/-- Each NAME_LO of the tables stands right below a NAME_HI (R17). -/
theorem registers_lo_below_hi : ∀ d ∈ registers, d.half = .lo → ∀ a ∈ d.addrs, halfAt (a + 4) = .hi := by
  decide +kernel

/-! ### Addresses -/

theorem RegDesc.hit_iff (d : RegDesc) (a : Nat) : d.hit a = true ↔ d.base ≤ a ∧ (a - d.base) / d.dim1.2 < d.dim1.1 ∧
    (a - d.base) % d.dim1.2 / d.dim2.2 < d.dim2.1 ∧ (a - d.base) % d.dim1.2 % d.dim2.2 = 0 := by
  simp [RegDesc.hit, and_assoc]

theorem RegDesc.aligned_iff (d : RegDesc) : d.aligned = true ↔ 4 ∣ d.base ∧ 4 ∣ d.dim1.2 ∧ 4 ∣ d.dim2.2 := by
  simp [RegDesc.aligned, Nat.dvd_iff_mod_eq_zero, and_assoc]

theorem RegDesc.hit_aligned {d : RegDesc} {a : Nat} (h : d.hit a = true) (hd : d.aligned = true) : a % 4 = 0 := by
  obtain ⟨hb, -, -, hz⟩ := (d.hit_iff a).1 h
  obtain ⟨h0, h1, h2⟩ := d.aligned_iff.1 hd
  have h3 : 4 ∣ (a - d.base) % d.dim1.2 := h2.trans (Nat.dvd_of_mod_eq_zero hz)
  have h4 : 4 ∣ a - d.base := (Nat.dvd_mod_iff h1).1 h3
  omega

theorem RegDesc.mem_addrs {d : RegDesc} {a : Nat} (h : d.hit a = true) : a ∈ d.addrs := by
  obtain ⟨hb, h1, h2, hz⟩ := (d.hit_iff a).1 h
  refine List.mem_flatMap.2 ⟨_, List.mem_range.2 h1, List.mem_map.2 ⟨_, List.mem_range.2 h2, ?_⟩⟩
  have e1 := Nat.div_add_mod' (a - d.base) d.dim1.2
  have e2 := Nat.div_add_mod' ((a - d.base) % d.dim1.2) d.dim2.2
  omega

/-- Every register of the tables lies at a multiple of 4 (R9). -/
theorem regAt_aligned {a : Nat} {d : RegDesc} (h : regAt a = some d) : a % 4 = 0 :=
  RegDesc.hit_aligned (regAt_hit h) (registers_aligned d (regAt_mem h))

theorem halfAt_of_regAt {a : Nat} {d : RegDesc} (h : regAt a = some d) : halfAt a = d.half := by
  unfold halfAt
  rw [h]

theorem halfAt_of_none {a : Nat} (h : regAt a = none) : halfAt a = .single := by
  unfold halfAt
  rw [h]

/-- A half of a pair is a register. -/
theorem regAt_of_half {a : Nat} (h : halfAt a ≠ .single) : ∃ d, regAt a = some d ∧ d.half = halfAt a := by
  cases hd : regAt a with
  | none => exact absurd (halfAt_of_none hd) h
  | some d => exact ⟨d, rfl, (halfAt_of_regAt hd).symm⟩

theorem half_aligned {a : Nat} (h : halfAt a ≠ .single) : a % 4 = 0 := by
  obtain ⟨d, hd, -⟩ := regAt_of_half h
  exact regAt_aligned hd

theorem half_above_lo {lo : Nat} (h : halfAt lo = .lo) : halfAt (lo + 4) = .hi := by
  obtain ⟨d, hd, hh⟩ := regAt_of_half (a := lo) (by simp [h])
  exact registers_lo_below_hi d (regAt_mem hd) (hh.trans h) lo (RegDesc.mem_addrs (regAt_hit hd))

end Sys2Proof.Machine
end

section
/-!
PROOF. A write of a register, field by field (Table 0-3, R14): each field takes what its own access code stores, whatever the other
fields of the write do.
-/

namespace Sys2Proof.Machine

open Sys2Proof

/-- The value of a field after a write of `x` where `o` stood. -/
def FieldDesc.stored (f : FieldDesc) (unl : Bool) (o x : Nat) : Nat :=
  match f.acc with
  | .ro | .rc | .wo => o
  | .rw => if f.allows x then x else o
  | .rwl => if unl && f.allows x then x else o
  | .w1c => o - Nat.land o x

theorem FieldDesc.bits_put (f : FieldDesc) (n x : Nat) (h : x < 2 ^ (f.hi + 1 - f.lo)) :
    f.bits (putBits n f.lo (f.hi + 1 - f.lo) x) = x := by
  unfold FieldDesc.bits
  rw [bitsOf_putBits, Nat.mod_eq_of_lt h]

/-- A field's own bits after its write. -/
theorem FieldDesc.bits_write (f : FieldDesc) (unl : Bool) (old new : Nat) :
    f.bits (f.write unl old new) = f.stored unl (f.bits old) (f.bits new) := by
  have hx : f.bits new < 2 ^ (f.hi + 1 - f.lo) := bitsOf_lt ..
  have ho : f.bits old < 2 ^ (f.hi + 1 - f.lo) := bitsOf_lt ..
  unfold FieldDesc.write FieldDesc.stored
  cases f.acc with
  | ro | rc | wo => rfl
  | rw =>
    change f.bits (if f.allows (f.bits new) then putBits old f.lo _ (f.bits new) else old) = _
    split
    · exact f.bits_put _ _ hx
    · rfl
  | rwl =>
    change f.bits (if unl && f.allows (f.bits new) then putBits old f.lo _ (f.bits new) else old) = _
    split
    · exact f.bits_put _ _ hx
    · rfl
  | w1c => exact f.bits_put _ _ (by simp only [FieldDesc.bits] at ho ⊢; omega)

/-- The write of a field that shares no bit with `g` leaves `g`. -/
theorem FieldDesc.bits_write_apart (f g : FieldDesc) (unl : Bool) (old new : Nat) (hf : f.lo ≤ f.hi)
    (h : f.apart g = true) : g.bits (f.write unl old new) = g.bits old := by
  have hp : ∀ x, g.bits (putBits old f.lo (f.hi + 1 - f.lo) x) = g.bits old := by
    intro x
    simp only [FieldDesc.apart, Bool.or_eq_true, decide_eq_true_eq] at h
    rcases h with h | h
    · exact bitsOf_putBits_above _ _ _ _ _ _ (by omega)
    · rcases Nat.lt_or_ge g.hi g.lo with hg | hg
      · simp [FieldDesc.bits, bitsOf, show g.hi + 1 - g.lo = 0 by omega, Nat.mod_one]
      · exact bitsOf_putBits_below _ _ _ _ _ _ (by omega)
  unfold FieldDesc.write
  cases f.acc with
  | ro | rc | wo => rfl
  | rw | rwl =>
    dsimp only
    split
    · exact hp _
    · rfl
  | w1c => exact hp _

theorem FieldDesc.apart_comm (f g : FieldDesc) : f.apart g = g.apart f := Bool.or_comm _ _

/-- Fields that share no bit with `g` are written without a change to `g`. -/
theorem bits_writes_apart {g : FieldDesc} (unl : Bool) (new : Nat) {fs : List FieldDesc}
    (h : ∀ f ∈ fs, f.lo ≤ f.hi ∧ f.apart g = true) (old : Nat) :
    g.bits (fs.foldl (fun n f => f.write unl n new) old) = g.bits old := by
  induction fs generalizing old with
  | nil => rfl
  | cons f fs ih =>
    obtain ⟨hf, hfs⟩ := List.forall_mem_cons.1 h
    rw [List.foldl_cons, ih hfs, f.bits_write_apart g unl old new hf.1 hf.2]

/-- In a write of fields that share no bits each field takes what its own access code stores. -/
theorem bits_writes {g : FieldDesc} (unl : Bool) (new : Nat) {fs : List FieldDesc} (hl : ∀ f ∈ fs, f.lo ≤ f.hi)
    (hp : fs.Pairwise (fun f g => f.apart g = true)) (hg : g ∈ fs) (old : Nat) :
    g.bits (fs.foldl (fun n f => f.write unl n new) old) = g.stored unl (g.bits old) (g.bits new) := by
  induction fs generalizing old with
  | nil => exact absurd hg List.not_mem_nil
  | cons f fs ih =>
    obtain ⟨hf, hfs⟩ := List.pairwise_cons.1 hp
    obtain ⟨hlf, hls⟩ := List.forall_mem_cons.1 hl
    rw [List.foldl_cons]
    rcases List.mem_cons.1 hg with rfl | hg
    · rw [bits_writes_apart unl new (fun f' h' => ⟨hls f' h', by rw [FieldDesc.apart_comm]; exact hf f' h'⟩),
        FieldDesc.bits_write]
    · rw [ih hls hfs hg, f.bits_write_apart g unl old new hlf (hf g hg)]

/-- A register with fields at `a`: they are those of its table row, within 32 bits and apart. -/
theorem fieldsAt_row {a : Nat} {f : FieldDesc} (h : f ∈ fieldsAt a) :
    ∃ d, regAt a = some d ∧ d.kind ≠ .stored ∧ f ∈ d.fields ∧ (∀ g ∈ d.fields, g.lo ≤ g.hi ∧ g.hi < 32) ∧
      d.fields.Pairwise (fun f g => f.apart g = true) := by
  cases hd : regAt a with
  | none => simp [fieldsAt, hd] at h
  | some d =>
    by_cases hk : d.kind = .stored
    · simp [fieldsAt, hd, hk] at h
    · have ha := registers_fieldsApart d (regAt_mem hd)
      simp only [RegDesc.fieldsApart, Bool.and_eq_true, List.all_eq_true, decide_eq_true_eq] at ha
      exact ⟨d, rfl, hk, by simpa [fieldsAt, hd, hk] using h, ha⟩

/-- What a field holds after its register has stored a write. -/
theorem bits_storeReg {a : Nat} {f : FieldDesc} (h : f ∈ fieldsAt a) (s : State) (p : Path) (v : Word) :
    f.bits ((s.storeReg p a v).rd a).toNat = f.stored (s.pathUnlocked p) (f.bits (s.rd a).toNat)
      (f.bits (s.writeValue a (s.rd a).toNat v.toNat)) := by
  obtain ⟨d, hd, hk, hf, hl, hp⟩ := fieldsAt_row h
  obtain ⟨hlo, hhi⟩ := hl f hf
  unfold State.storeReg
  simp only [hd, rd_wr_same]
  rw [FieldDesc.bits, bitsOf_ofNat_word _ _ _ (by omega), RegDesc.write, if_neg hk]
  exact bits_writes _ _ (fun g hg => (hl g hg).1) hp hf _

/-- A store changes its own register only. -/
theorem rd_storeReg_ne (s : State) (p : Path) {a b : Nat} (v : Word) (h : b ≠ a) : (s.storeReg p a v).rd b = s.rd b := by
  unfold State.storeReg
  split
  · exact rd_wr_ne _ _ h
  · rfl

/-- Settles O44: each field of a write takes what its own access code stores. -/
theorem reservedEncodingsLeaveTheField : Obligations.ReservedEncodingsLeaveTheField := by
  unfold Obligations.ReservedEncodingsLeaveTheField
  refine ⟨?_, ?_, ?_, ?_, fun p a b v s h => rd_storeReg_ne s p v h⟩
  · rintro p a f v s hf (hacc | ⟨hacc, hu⟩) hv
    · rw [bits_storeReg hf]; simp [FieldDesc.stored, hacc, hv]
    · rw [bits_storeReg hf]; simp [FieldDesc.stored, hacc, hv, hu]
  · rintro p a f v s hf (hacc | ⟨hacc, -⟩) hv
    · rw [bits_storeReg hf]; simp [FieldDesc.stored, hacc, hv]
    · rw [bits_storeReg hf]; simp [FieldDesc.stored, hacc, hv]
  · intro p a f v s hf hacc
    rw [bits_storeReg hf]; simp [FieldDesc.stored, hacc]
  · rintro p a f v s hf (hacc | hacc | hacc)
    all_goals rw [bits_storeReg hf]; simp [FieldDesc.stored, hacc]

end Sys2Proof.Machine
end

section
/-!
PROOF. What a fault, a count of the Correction Log and the read of a protected word leave alone: all of the state but the
register file, the fault state, the flipped bits with the rewrites due, and the count of free values.
-/

namespace Sys2Proof.Machine

open Sys2Proof

/-- The state reached from `s` differs from it in the register file, the fault state, the state of error correction and the
count of free values only. -/
inductive State.EccFrame (s : State) : State → Prop
  | mk (free : Nat) (crs : List (Nat × Word)) (flt : FltSt) (ms : MemSt) :
    State.EccFrame s { s with free := free, crs := crs, flt := flt, ms := ms }

namespace State.EccFrame

variable {z s : State}

theorem refl (s : State) : s.EccFrame s := ⟨s.free, s.crs, s.flt, s.ms⟩

theorem hold (h : z.EccFrame s) : s.hold = z.hold := by cases h; rfl

theorem wr (h : z.EccFrame s) (a : Nat) (v : Word) : z.EccFrame (s.wr a v) := by cases h; exact ⟨_, _, _, _⟩

theorem set (h : z.EccFrame s) (f : Fld) (x : Nat) : z.EccFrame (s.set f x) := h.wr _ _

theorem setFlag (h : z.EccFrame s) (f : Fld) (b : Bool) : z.EccFrame (s.setFlag f b) := h.set _ _

theorem bump (h : z.EccFrame s) (f : Fld) (k : Nat) : z.EccFrame (s.bump f k) := h.set _ _

theorem draw (h : z.EccFrame s) : z.EccFrame s.draw.2 := by cases h; exact ⟨_, _, _, _⟩

theorem withMs (h : z.EccFrame s) (m : MemSt) : z.EccFrame { s with ms := m } := by cases h; exact ⟨_, _, _, _⟩

theorem withFlt (h : z.EccFrame s) (f : FltSt) : z.EccFrame { s with flt := f } := by cases h; exact ⟨_, _, _, _⟩

theorem ite (hs : z.EccFrame s) {t : State} (ht : z.EccFrame t) {c : Prop} [Decidable c] :
    z.EccFrame (if c then s else t) := by
  split
  · exact hs
  · exact ht

/-! ### Faults -/

theorem attnAssert (h : z.EccFrame s) : z.EccFrame s.attnAssert := by
  unfold State.attnAssert
  split
  · exact h
  · exact (h.withFlt _).set _ _

theorem riseSrcs (h : z.EccFrame s) (r : FltReg) (bits : List Nat) : z.EccFrame (s.riseSrcs r bits) := by
  unfold State.riseSrcs
  split
  · exact h
  · exact (h.withFlt _).attnAssert.ite (h.withFlt _)

theorem fault (h : z.EccFrame s) (r : FltReg) (b : Nat) : z.EccFrame (s.fault r b) := (h.wr _ _).riseSrcs _ _

theorem crsGated (h : z.EccFrame s) (a : Nat) : z.EccFrame (s.crsGated a) := ((h.set _ _).setFlag _ _).fault _ _

theorem crsTimeout (h : z.EccFrame s) (a : Nat) : z.EccFrame (s.crsTimeout a) := ((h.set _ _).setFlag _ _).fault _ _

/-! ### The Correction Log -/

theorem clogTake (h : z.EccFrame s) (i : Nat) (k : EccKey) : z.EccFrame (s.clogTake i k) := ((h.wr _ _).wr _ _).wr _ _

theorem clogStamp (h : z.EccFrame s) (i : Nat) : z.EccFrame (s.clogStamp i) := h.set _ _

theorem clogFull (h : z.EccFrame s) : z.EccFrame s.clogFull := (h.bump _ _).fault _ _

theorem clogCount (h : z.EccFrame s) (i bit : Nat) : z.EccFrame (s.clogCount i bit) := by
  unfold State.clogCount
  extract_lets s1 s2
  have h2 : z.EccFrame s2 := (((h.bump _ _).bump _ _).set _ _).clogStamp _
  clear_value s2
  split
  · exact h2
  · split
    · exact (h2.set _ _).fault _ _
    · split
      · exact h2.withMs _
      · exact h2

/-- The definition is unfolded as a constant, under `Holds`, and its count as a variable: the kernel would otherwise run the
search of the log on a state that it does not know. -/
theorem correction (h : z.EccFrame s) (k : EccKey) (bit : Nat) : z.EccFrame (s.correction k bit) := by
  refine (?_ : Holds (fun F => ∀ s, z.EccFrame s → z.EccFrame (F s k bit)) @State.correction).h s h
  have hb : ∀ s, z.EccFrame s → ∀ f n, z.EccFrame (State.bump s f n) := fun _ h => h.bump
  delta State.correction
  generalize @State.bump = bump at hb ⊢
  refine ⟨fun s h => ?_⟩
  have h1 := hb s h R.MEM_ECC_CNT_CE_CE 1
  extract_lets s1
  change z.EccFrame s1 at h1
  clear_value s1
  cases s1.clogFind k with
  | some i => exact h1.clogCount i bit
  | none =>
    cases s1.clogFree with
    | some i => exact ((h1.clogTake i k).clogCount i bit).fault _ _
    | none => exact h1.clogFull

theorem uncorrectable (h : z.EccFrame s) (k : EccKey) (patrol : Bool) : z.EccFrame (s.uncorrectable k patrol) := by
  have h1 := (h.bump R.MEM_ECC_CNT_UE_UE 1).fault .memEcc 2
  have h2 := (h1.fault .memEcc 4).ite h1 (c := patrol = true)
  have mark {t : State} (ht : z.EccFrame t) (i : Nat) :=
    ((ht.set (R.MEM_CLOG_KEY_HI_STATE i) 2).set (R.MEM_CLOG_KEY_HI_BIT i) 0xFF).clogStamp i
  unfold State.uncorrectable
  dsimp only
  split
  · exact (mark h2 _).withMs _
  · split
    · exact (mark (h2.clogTake _ _) _).withMs _
    · exact h2.clogFull

/-! ### Protected words -/

theorem eccRead (h : z.EccFrame s) (k : EccKey) (data : Nat) (patrol : Bool) : z.EccFrame (s.eccRead k data patrol).2 := by
  unfold State.eccRead
  dsimp only
  split
  · exact h
  · exact h.correction _ _
  · exact h.uncorrectable _ _
  · split
    · exact h.draw.uncorrectable _ _
    · split
      · exact h.draw
      · exact h.draw.correction _ _

theorem setFlips (h : z.EccFrame s) (k : EccKey) (m : Nat) : z.EccFrame (s.setFlips k m) := h.withMs _

theorem rewrote (h : z.EccFrame s) (i : Nat) : z.EccFrame (s.rewrote i) := ((h.bump _ _).set _ _).withMs _

theorem freshWord (h : z.EccFrame s) (k : EccKey) (always : Bool) : z.EccFrame (s.freshWord k always) := by
  have h1 := h.ite (h.setFlips k 0) (c := s.flipsOf k = 0)
  unfold State.freshWord
  dsimp only
  split
  · exact (h1.rewrote _).ite h1
  · exact h1

theorem sramRead (h : z.EccFrame s) (k : EccKey) (data : Nat) (patrol : Bool) : z.EccFrame (s.sramRead k data patrol).2 := by
  have h1 := h.eccRead k data patrol
  unfold State.sramRead
  exact (h1.freshWord _ _).ite h1

theorem arrayCheck (h : z.EccFrame s) (a : Nat) : z.EccFrame (s.arrayCheck a).2 := by
  unfold State.arrayCheck
  split
  · next k _ =>
    have h1 := h.sramRead k ((s.rd (a - a % 8)).toNat + (s.rd (a - a % 8 + 4)).toNat * 2 ^ 32) false
    split
    · next e => rw [e] at h1; exact h1
    · next e => rw [e] at h1; exact h1
  · exact h

end State.EccFrame

end Sys2Proof.Machine
end

section
/-!
PROOF. What a read of the Control Register Space does, case by case (R9, R11, R17, R22, R373), and what it leaves of the holding
copies.
-/

namespace Sys2Proof.Machine

open Sys2Proof

/-! ### Holding copies (R17) -/

theorem holdOf_of_hold {s t : State} (h : t.hold = s.hold) (p : Path) (k : Nat) : t.holdOf p k = s.holdOf p k := by
  unfold State.holdOf
  rw [h]

theorem find?_filter_ne {α β : Type} [DecidableEq α] (l : List (α × β)) {k j : α} (h : j ≠ k) :
    (l.filter (fun e => !decide (e.1 = k))).find? (fun e => decide (e.1 = j)) = l.find? (fun e => decide (e.1 = j)) := by
  rw [List.find?_filter]
  congr 1
  funext e
  by_cases he : e.1 = j <;> simp [he, h]

/-- The copy of the pair at `lo` after it was put or dropped. -/
theorem holdOf_holdSet_same (s : State) (p : Path) (lo : Nat) (v : Option Word) : (s.holdSet p lo v).holdOf p lo = v := by
  unfold State.holdOf State.holdSet
  cases v with
  | some w => simp
  | none => simp

/-- The copies of the other paths and pairs stay. -/
theorem holdOf_holdSet_ne (s : State) {p q : Path} {lo k : Nat} (v : Option Word) (h : (q, k) ≠ (p, lo)) :
    (s.holdSet p lo v).holdOf q k = s.holdOf q k := by
  have e := find?_filter_ne s.hold h
  unfold State.holdOf State.holdSet
  cases v with
  | some w => simp only [List.find?_cons, show ¬ ((p, lo) = (q, k)) from fun e => h e.symm, decide_false, e]
  | none => simp only [e]

/-! ### The value of a register -/

theorem doneWord_hold (s : State) (a k : Nat) : (s.doneWord a k).2.hold = s.hold := by
  unfold State.doneWord
  split
  · dsimp only
    split <;> rfl
  · rfl

theorem tthAngleNow_hold (s : State) : s.tthAngleNow.2.hold = s.hold := by
  unfold State.tthAngleNow
  split <;> rfl

theorem ite_snd_hold {s : State} {c : Prop} [Decidable c] {x y : Nat × State} (hx : x.2.hold = s.hold)
    (hy : y.2.hold = s.hold) : (if c then x else y).2.hold = s.hold := by
  split
  · exact hx
  · exact hy

/-- The value of a register is made up without a change to the holding copies. -/
theorem readWord_hold (s : State) (a : Nat) : (s.readWord a).2.hold = s.hold := by
  unfold State.readWord
  iterate 2 refine ite_snd_hold rfl ?_
  refine ite_snd_hold (tthAngleNow_hold s) ?_
  iterate 8 refine ite_snd_hold rfl ?_
  split
  · exact doneWord_hold s _ _
  · iterate 3 refine ite_snd_hold rfl ?_
    split <;> rfl

/-! ### The read of a half, or of a register of its own -/

theorem readPair_single {a : Nat} (h : halfAt a = .single) (s : State) (p : Path) : s.readPair p a = s.readWord a := by
  unfold State.readPair
  cases hd : regAt a with
  | none => rfl
  | some d =>
    have e : d.half = .single := (halfAt_of_regAt hd).symm.trans h
    simp only [e]

theorem readPair_lo {a : Nat} (h : halfAt a = .lo) (s : State) (p : Path) : s.readPair p a = ((s.readWord a).1,
    ((s.readWord a).2.readWord (a + 4)).2.holdSet p a (some (BitVec.ofNat 32 ((s.readWord a).2.readWord (a + 4)).1))) := by
  obtain ⟨d, hd, e⟩ := regAt_of_half (a := a) (by simp [h])
  unfold State.readPair
  simp only [hd, e, h]

theorem readPair_hi_held {a : Nat} (h : halfAt a = .hi) (s : State) (p : Path) {w : Word} (hw : s.holdOf p (a - 4) = some w) :
    s.readPair p a = (w.toNat, s.holdSet p (a - 4) none) := by
  obtain ⟨d, hd, e⟩ := regAt_of_half (a := a) (by simp [h])
  unfold State.readPair
  simp only [hd, e, h, hw]

theorem readPair_hi_live {a : Nat} (h : halfAt a = .hi) (s : State) (p : Path) (hw : s.holdOf p (a - 4) = none) :
    s.readPair p a = s.readWord a := by
  obtain ⟨d, hd, e⟩ := regAt_of_half (a := a) (by simp [h])
  unfold State.readPair
  simp only [hd, e, h, hw]

/-! ### The read of an array word (R373) -/

theorem arrayCheck_none {a : Nat} (h : arrayKeyOf a = none) (s : State) : s.arrayCheck a = (true, s) := by
  unfold State.arrayCheck
  rw [h]

theorem arrayMerge_none {a : Nat} (h : arrayKeyOf a = none) (s : State) : s.arrayMerge a = (true, s) := by
  unfold State.arrayMerge
  rw [h]

/-! ### A read, case by case -/

/-- The register at `w` after a read that returned `k` bytes of it (R11). -/
def State.rcClear (s : State) (w k : Nat) : State :=
  match regAt w with
  | some d => if k ≠ 0 ∧ d.hasRc then s.wr w (BitVec.ofNat 32 (d.clearRc (s.rd w).toNat)) else s
  | none => s

theorem rcClear_hold (s : State) (w k : Nat) : (s.rcClear w k).hold = s.hold := by
  unfold State.rcClear
  split
  · split <;> rfl
  · rfl

/-- A read that returns some bytes clears what a whole read clears. -/
theorem rcClear_of_ne_zero (s : State) (w : Nat) {k j : Nat} (hk : k ≠ 0) (hj : j ≠ 0) :
    s.rcClear w k = s.rcClear w j := by
  unfold State.rcClear
  simp only [ne_eq, hk, hj]

theorem rcClear_none {w : Nat} (h : regAt w = none) (s : State) (k : Nat) : s.rcClear w k = s := by
  unfold State.rcClear
  rw [h]

theorem rcClear_plain {w : Nat} {d : RegDesc} (h : regAt w = some d) (hc : d.hasRc = false) (s : State) (k : Nat) :
    s.rcClear w k = s := by
  simp [State.rcClear, h, hc]

theorem rcClear_rc {w : Nat} {d : RegDesc} (h : regAt w = some d) (hc : d.hasRc = true) (s : State) {k : Nat} (hk : k ≠ 0) :
    s.rcClear w k = s.wr w (BitVec.ofNat 32 (d.clearRc (s.rd w).toNat)) := by
  simp [State.rcClear, h, hc, hk]

section
variable (s : State) (p : Path) (a n : Nat)

theorem crsRead_locked (h : s.pathReads p = false) : s.crsRead p a n = s := by
  unfold State.crsRead
  rw [if_pos (by simp [h])]

theorem crsRead_gated (h : s.pathReads p = true) (hg : s.gated (a - a % 4) = true) :
    s.crsRead p a n = { s.crsGated (a - a % 4) with rdOut := some (p, 0) } := by
  simp [State.crsRead, h, hg]

theorem crsRead_silent (h : s.pathReads p = true) (hg : s.gated (a - a % 4) = false) (hs : s.silent (a - a % 4) = true) :
    s.crsRead p a n = { s.crsTimeout (a - a % 4) with rdOut := some (p, 0) } := by
  simp [State.crsRead, h, hg, hs]

theorem crsRead_uncorrectable (h : s.pathReads p = true) (hg : s.gated (a - a % 4) = false)
    (hs : s.silent (a - a % 4) = false) (hk : (s.arrayCheck (a - a % 4)).1 = false) :
    s.crsRead p a n = { (s.arrayCheck (a - a % 4)).2 with rdOut := none } := by
  simp [State.crsRead, h, hg, hs, hk]

/-- A read that is answered with data: the bytes from `a` on of the word that holds it. -/
theorem crsRead_word {t : State} (h : s.pathReads p = true) (hg : s.gated (a - a % 4) = false)
    (hs : s.silent (a - a % 4) = false) (hk : s.arrayCheck (a - a % 4) = (true, t)) :
    s.crsRead p a n = { (t.readPair p (a - a % 4)).2.rcClear (a - a % 4) (min n (4 - a % 4)) with
      rdOut := some (p, bitsOf (t.readPair p (a - a % 4)).1 (8 * (a % 4)) (8 * min n (4 - a % 4))) } := by
  unfold State.crsRead State.rcClear
  cases hd : regAt (a - a % 4) with
  | none => simp only [h, hg, hs, hk, hd, Bool.not_true, Bool.false_eq_true, if_false]
  | some d => simp only [h, hg, hs, hk, hd, Bool.not_true, Bool.false_eq_true, if_false]

/-- Every read is one of these. -/
theorem crsRead_cases : s.pathReads p = false ∨ (s.pathReads p = true ∧ s.gated (a - a % 4) = true) ∨
    (s.pathReads p = true ∧ s.gated (a - a % 4) = false ∧ s.silent (a - a % 4) = true) ∨
    (s.pathReads p = true ∧ s.gated (a - a % 4) = false ∧ s.silent (a - a % 4) = false ∧
      ((s.arrayCheck (a - a % 4)).1 = false ∨ ∃ t, s.arrayCheck (a - a % 4) = (true, t))) := by
  cases s.pathReads p <;> cases s.gated (a - a % 4) <;> cases s.silent (a - a % 4) <;>
    rcases s.arrayCheck (a - a % 4) with ⟨_ | _, t⟩ <;> simp

end

/-- A whole-word read of an aligned register that is answered with data. -/
theorem crsRead_whole {s t : State} {p : Path} {a : Nat} (ha : a % 4 = 0) (h : s.pathReads p = true) (hg : s.gated a = false)
    (hs : s.silent a = false) (hk : s.arrayCheck a = (true, t)) :
    s.crsRead p a 4 = { (t.readPair p a).2.rcClear a 4 with rdOut := some (p, (t.readPair p a).1 % 2 ^ 32) } := by
  have e : a - a % 4 = a := by omega
  rw [crsRead_word (t := t) s p a 4 h (by rwa [e]) (by rwa [e]) (by rwa [e]), e, ha, Nat.mul_zero, Nat.sub_zero, min_self,
    ← bitsOf_low]

end Sys2Proof.Machine
end

section
/-!
PROOF. The statements of 00_scope.md: what reads and writes of the Control Register Space do, addresses without a register, the
holding copies of 64-bit pairs, and the reset state.
-/

namespace Sys2Proof.Machine

open Sys2Proof

/-! ### Reset (R16) -/

theorem rd_reset (a : Nat) : State.reset.rd a = regReset a := rfl

theorem regReset_of_regAt {a : Nat} {d : RegDesc} (h : regAt a = some d) : regReset a = BitVec.ofNat 32 d.resetVal := by
  unfold regReset
  rw [h]

theorem regReset_of_none {a : Nat} (h : regAt a = none) : regReset a = 0 := by
  unfold regReset
  rw [h]

/-- Settles O40: the register file of the reset state lists nothing, so every register reads its reset value. -/
theorem resetGivesTheResetColumn : Obligations.ResetGivesTheResetColumn := by
  unfold Obligations.ResetGivesTheResetColumn
  refine ⟨fun a d h => ?_, fun a h => ?_, ⟨by decide, rfl, rfl, by decide, rfl⟩, ⟨by decide, rfl, rfl, rfl⟩⟩
  · rw [rd_reset, regReset_of_regAt h, RegDesc.resetVal]
  · rw [rd_reset, regReset_of_none h]

/-! ### One register of 32 bits (R9) -/

theorem word_of_word (a : Nat) : a - a % 4 - (a - a % 4) % 4 = a - a % 4 := by omega

/-- A byte of the bytes cut from a word at byte `r`: that byte of the word, 0 beyond its last. -/
theorem byte_of_cut (x r n i : Nat) (hi : i < n) : bitsOf (bitsOf x (8 * r) (8 * min n (4 - r))) (8 * i) 8 =
    if r + i < 4 then bitsOf (x % 2 ^ 32) (8 * (r + i)) 8 else 0 := by
  split
  · next h =>
    rw [bitsOf_bitsOf_inside _ _ _ _ _ (by omega), ← bitsOf_low, bitsOf_bitsOf_inside _ _ _ _ _ (by omega)]
    congr 1
    omega
  · exact bitsOf_bitsOf_beyond _ _ _ _ _ (by omega)

/-- A read leaves what a whole read of its word leaves. -/
theorem crsRead_leaves (s : State) (p : Path) (a n : Nat) (h : s.pathReads p = true) (hn : n ≠ 0) :
    { s.crsRead p a n with rdOut := none } = { s.crsRead p (a - a % 4) 4 with rdOut := none } := by
  have e := word_of_word a
  rcases crsRead_cases s p a with h0 | ⟨-, hg⟩ | ⟨-, hg, hs⟩ | ⟨-, hg, hs, hk | ⟨t, hk⟩⟩
  · simp [h] at h0
  · rw [crsRead_gated s p a n h hg, crsRead_gated s p _ 4 h (by rwa [e]), e]
  · rw [crsRead_silent s p a n h hg hs, crsRead_silent s p _ 4 h (by rwa [e]) (by rwa [e]), e]
  · rw [crsRead_uncorrectable s p a n h hg hs hk,
      crsRead_uncorrectable s p _ 4 h (by rwa [e]) (by rwa [e]) (by rwa [e]), e]
  · rw [crsRead_word s p a n h hg hs hk, crsRead_whole (by omega) h hg hs hk,
      rcClear_of_ne_zero _ _ (k := min n (4 - a % 4)) (j := 4) (by omega) (by omega)]

/-- The bytes that a read returns are those of the word that holds its lowest byte. -/
theorem crsRead_bytes (s : State) (p : Path) (a n : Nat) (h : s.pathReads p = true) (ha : s.gated (a - a % 4) = true ∨
    s.silent (a - a % 4) = true ∨ (s.arrayCheck (a - a % 4)).1 = true) :
    ∃ v x, (s.crsRead p (a - a % 4) 4).rdOut = some (p, v) ∧ (s.crsRead p a n).rdOut = some (p, x) ∧
      ∀ i, i < n → bitsOf x (8 * i) 8 = if a % 4 + i < 4 then bitsOf v (8 * (a % 4 + i)) 8 else 0 := by
  have e := word_of_word a
  rcases crsRead_cases s p a with h0 | ⟨-, hg⟩ | ⟨-, hg, hs⟩ | ⟨-, hg, hs, hk | ⟨t, hk⟩⟩
  · simp [h] at h0
  · refine ⟨0, 0, ?_, ?_, by simp⟩
    · rw [crsRead_gated s p _ 4 h (by rwa [e])]
    · rw [crsRead_gated s p a n h hg]
  · refine ⟨0, 0, ?_, ?_, by simp⟩
    · rw [crsRead_silent s p _ 4 h (by rwa [e]) (by rwa [e])]
    · rw [crsRead_silent s p a n h hg hs]
  · simp [hg, hs, hk] at ha
  · refine ⟨_, _, ?_, ?_, fun i hi => byte_of_cut (t.readPair p (a - a % 4)).1 (a % 4) n i hi⟩
    · rw [crsRead_whole (by omega) h hg hs hk]
    · rw [crsRead_word s p a n h hg hs hk]

/-! ### How access commands answer -/

/-- A command whose meaning ends with `w` answers with what `w` is. -/
theorem answers_of_eq {c : Instr} {s u w : State} (hc : exec c s = ends s w) (h : w = u) : Answers c s u := by
  subst h
  exact answers_of hc

theorem answers_crsWrite {s u : State} {p : Path} {a n : Nat} {v : Word} (h : s.crsWrite p a n v = u) :
    Answers (.crsWrite p a n v) s u :=
  answers_of_eq rfl h

/-- Settles O41: a read is one of the cases of `crsRead_cases`, each of which acts on the word of its lowest byte. -/
theorem accessActsOnOneRegister : Obligations.AccessActsOnOneRegister := by
  unfold Obligations.AccessActsOnOneRegister
  refine ⟨fun a d h => regAt_aligned h, fun p a n s h hn => crsRead_leaves s p a n h hn,
    fun p a n s h ha => crsRead_bytes s p a n h ha, fun p a n s h hg hs hk => ?_, fun p a n v s hg hs h => ?_⟩
  · rw [crsRead_uncorrectable s p a n h hg hs hk]
  · exact answers_crsWrite (crsWrite_denied s p a n v hg hs (by tauto))

/-! ### Addresses without a register (R15) -/

/-- What `noRegister` says, part by part. -/
theorem noRegister_iff (a : Nat) : noRegister a = true ↔ regAt a = none ∧ taskWindow a = none ∧ doneWindow a = none ∧
    ¬ (0x03000000 ≤ a ∧ a < 0x03400000 ∧ 0x40000 ≤ a % 0x100000 ∧ a % 0x100000 < 0x80000) ∧
    ¬ (0x03502000 ≤ a ∧ a < 0x03505C00) ∧ ¬ (0x03510000 ≤ a ∧ a < 0x03520000) := by
  simp only [noRegister, Bool.and_eq_true, Bool.not_eq_true', Bool.and_eq_false_iff, decide_eq_false_iff_not,
    Option.isNone_iff_eq_none]
  tauto

/-- A group of the block at `a` that describes the address `a` makes it a register. -/
theorem regAt_isSome_of_group {a b n s m t : Nat} {l : List RegDesc} (hl : blockRegs a = l)
    (hd : ∃ d ∈ l, d.base = b ∧ d.dim1 = (n, s) ∧ d.dim2 = (m, t))
    (h : b ≤ a ∧ (a - b) / s < n ∧ (a - b) % s / t < m ∧ (a - b) % s % t = 0) : (regAt a).isSome = true := by
  obtain ⟨d, hd, rfl, h1, h2⟩ := hd
  exact List.find?_isSome.2 ⟨d, hl ▸ hd, (d.hit_iff a).2 (by rw [h1, h2]; exact h)⟩

theorem blockRegs_ch {a : Nat} (h : 0x02000000 ≤ a ∧ a < 0x02400000) : blockRegs a = regsCH := by
  unfold blockRegs
  iterate 3 rw [if_neg (by omega)]
  rw [if_pos (by omega)]

theorem blockRegs_cle {a : Nat} (h : 0x03500000 ≤ a ∧ a < 0x03600000) : blockRegs a = regsCLE := by
  unfold blockRegs
  iterate 9 rw [if_neg (by omega)]
  rw [if_pos (by omega)]

/-- The tables of a head in CH are registers, word by word. -/
theorem regAt_chTables {a : Nat} (h4 : a % 4 = 0) (h : 0x02000000 ≤ a ∧ a < 0x02180000)
    (ho : (0x2000 ≤ a % 0x10000 ∧ a % 0x10000 < 0x2780) ∨ (0x8000 ≤ a % 0x10000 ∧ a % 0x10000 < 0x9E00)) :
    (regAt a).isSome = true := by
  have hl := blockRegs_ch (a := a) (by omega)
  rcases ho with ho | ho
  · exact regAt_isSome_of_group (b := 0x02002000) (n := 24) (s := 0x10000) (m := 480) (t := 4) hl (by decide) (by omega)
  · exact regAt_isSome_of_group (b := 0x02008000) (n := 24) (s := 0x10000) (m := 1920) (t := 4) hl (by decide) (by omega)

/-- The staged set and the profiles of CLE are registers, word by word. -/
theorem regAt_cleArrays {a : Nat} (h4 : a % 4 = 0)
    (h : (0x03501000 ≤ a ∧ a < 0x03501080) ∨ (0x03506000 ≤ a ∧ a < 0x03506400)) : (regAt a).isSome = true := by
  have hl := blockRegs_cle (a := a) (by omega)
  rcases h with h | h
  · exact regAt_isSome_of_group (b := 0x03501000) (n := 32) (s := 4) (m := 1) (t := 0) hl (by decide) (by omega)
  · rcases (show a % 8 = 0 ∨ a % 8 = 4 by omega) with h8 | h8
    · exact regAt_isSome_of_group (b := 0x03506000) (n := 4) (s := 0x100) (m := 32) (t := 8) hl (by decide) (by omega)
    · exact regAt_isSome_of_group (b := 0x03506004) (n := 4) (s := 0x100) (m := 32) (t := 8) hl (by decide) (by omega)

section
variable {a : Nat} (h : noRegister a = true)
include h

/-- No array holds an address without a register. -/
theorem noRegister_array (h4 : a % 4 = 0) : arrayKeyOf a = none := by
  obtain ⟨hr, -, -, hu, hc, hp⟩ := (noRegister_iff a).1 h
  have no : ¬ (regAt a).isSome = true := by simp [hr]
  have hch : ¬ (0x02000000 ≤ a ∧ a < 0x02180000 ∧ ((0x2000 ≤ a % 0x10000 ∧ a % 0x10000 < 0x2780) ∨
      (0x8000 ≤ a % 0x10000 ∧ a % 0x10000 < 0x9E00))) := fun ⟨lo, hi, ho⟩ => no (regAt_chTables h4 ⟨lo, hi⟩ ho)
  unfold arrayKeyOf
  rw [if_neg hch, if_neg (by omega), if_neg]
  rintro (k | k | k | k)
  · exact no (regAt_cleArrays h4 (.inl k))
  · exact hc k
  · exact no (regAt_cleArrays h4 (.inr k))
  · exact hp k

/-- An address without a register has the value 0. -/
theorem readWord_noRegister (s : State) : s.readWord a = (0, s) := by
  obtain ⟨hr, -, hd, hu, hc, hp⟩ := (noRegister_iff a).1 h
  have ne : ∀ b, (regAt b).isSome = true → a ≠ b := by
    rintro b hb rfl
    simp [hr] at hb
  unfold State.readWord
  iterate 11 refine (if_neg (ne _ (by decide))).trans ?_
  simp only [hd, hr, if_neg hu, if_neg hc, if_neg hp]

end

/-- A read at a word without a register returns 0 and changes nothing else. -/
theorem crsRead_noRegister (s : State) (p : Path) (a n : Nat) (h : noRegister (a - a % 4) = true) (hr : s.pathReads p = true)
    (hg : s.gated (a - a % 4) = false) (hs : s.silent (a - a % 4) = false) :
    s.crsRead p a n = { s with rdOut := some (p, 0) } := by
  have hd := ((noRegister_iff _).1 h).1
  rw [crsRead_word s p a n hr hg hs (arrayCheck_none (noRegister_array h (by omega)) s),
    readPair_single (halfAt_of_none hd), readWord_noRegister h, rcClear_none hd, bitsOf_zero_left]

/-- A write at a word without a register is discarded. -/
theorem crsWrite_noRegister (s : State) (p : Path) (a n : Nat) (v : Word) (h : noRegister (a - a % 4) = true)
    (hg : s.gated a = false) (hs : s.silent a = false) : s.crsWrite p a n v = s := by
  by_cases hn : n = 4 ∧ a % 4 = 0
  · obtain ⟨rfl, ha⟩ := hn
    rw [ha, Nat.sub_zero] at h
    obtain ⟨hr, ht, -⟩ := (noRegister_iff a).1 h
    exact crsWrite_barred s p a v hg hs ht (.inr hr)
  · exact crsWrite_denied s p a n v hg hs (by tauto)

theorem crsWrite_gated (s : State) (p : Path) (a n : Nat) (v : Word) (hr : s.pathReads p = true) (hg : s.gated a = true) :
    s.crsWrite p a n v = s.crsGated a := by
  simp [State.crsWrite, hr, hg]

theorem crsWrite_silent (s : State) (p : Path) (a n : Nat) (v : Word) (hr : s.pathReads p = true) (hg : s.gated a = false)
    (hs : s.silent a = true) : s.crsWrite p a n v = s.crsTimeout a := by
  simp [State.crsWrite, hr, hg, hs]

/-- Settles O42: such an address lies in no array, has the value 0 and takes no write. -/
theorem addressesWithoutARegister : Obligations.AddressesWithoutARegister := by
  unfold Obligations.AddressesWithoutARegister
  refine ⟨fun p a n s h hr => ?_, fun p a n s h hr hg hs => crsRead_noRegister s p a n h hr hg hs,
    fun p a n v s h hg hs => answers_crsWrite (crsWrite_noRegister s p a n v h hg hs), fun p a n v s h => ?_⟩
  · cases hg : s.gated (a - a % 4) with
    | true => rw [crsRead_gated s p a n hr hg]
    | false =>
      cases hs : s.silent (a - a % 4) with
      | true => rw [crsRead_silent s p a n hr hg hs]
      | false => rw [crsRead_noRegister s p a n h hr hg hs]
  · cases hr : s.pathReads p with
    | false => exact .inl (crsWrite_locked s p a n v hr)
    | true =>
      cases hg : s.gated a with
      | true => exact .inr (.inl (crsWrite_gated s p a n v hr hg))
      | false =>
        cases hs : s.silent a with
        | true => exact .inr (.inr (crsWrite_silent s p a n v hr hg hs))
        | false => exact .inl (crsWrite_noRegister s p a n v h hg hs)

/-! ### Holding copies of 64-bit pairs (R17) -/

theorem arrayCheck_hold {s t : State} {a : Nat} {b : Bool} (h : s.arrayCheck a = (b, t)) : t.hold = s.hold := by
  have k := ((State.EccFrame.refl s).arrayCheck a).hold
  rwa [h] at k

theorem rdOut_hold (s : State) (x : Option (Path × Nat)) : ({ s with rdOut := x } : State).hold = s.hold := rfl

/-- What a whole read leaves of the copies is what the read of its pair left. -/
theorem crsRead_whole_holdOf {s t : State} {p : Path} {a : Nat} (ha : a % 4 = 0) (h : s.pathReads p = true)
    (hg : s.gated a = false) (hs : s.silent a = false) (hk : s.arrayCheck a = (true, t)) (q : Path) (k : Nat) :
    (s.crsRead p a 4).holdOf q k = (t.readPair p a).2.holdOf q k := by
  rw [crsRead_whole ha h hg hs hk]
  exact holdOf_of_hold ((rdOut_hold _ _).trans (rcClear_hold _ _ _)) q k

/-- A read of a register that is no half of a pair touches no copy. -/
theorem crsRead_single_hold (s : State) (p : Path) (a n : Nat) (h : halfAt (a - a % 4) = .single) :
    (s.crsRead p a n).hold = s.hold := by
  rcases crsRead_cases s p a with h0 | ⟨hr, hg⟩ | ⟨hr, hg, hs⟩ | ⟨hr, hg, hs, hk | ⟨t, hk⟩⟩
  · rw [crsRead_locked s p a n h0]
  · rw [crsRead_gated s p a n hr hg]
    exact (rdOut_hold _ _).trans ((State.EccFrame.refl s).crsGated _).hold
  · rw [crsRead_silent s p a n hr hg hs]
    exact (rdOut_hold _ _).trans ((State.EccFrame.refl s).crsTimeout _).hold
  · rw [crsRead_uncorrectable s p a n hr hg hs hk]
    exact (rdOut_hold _ _).trans ((State.EccFrame.refl s).arrayCheck _).hold
  · rw [crsRead_word s p a n hr hg hs hk, readPair_single h]
    exact (rdOut_hold _ _).trans ((rcClear_hold _ _ _).trans ((readWord_hold t _).trans (arrayCheck_hold hk)))

/-- A read of NAME_LO takes the copy of NAME_HI. -/
theorem crsRead_lo {s t : State} {p : Path} {lo : Nat} (h : halfAt lo = .lo) (hr : s.pathReads p = true)
    (hg : s.gated lo = false) (hs : s.silent lo = false) (hk : s.arrayCheck lo = (true, t)) :
    (s.crsRead p lo 4).rdOut = some (p, (t.readWord lo).1 % 2 ^ 32) ∧
    (s.crsRead p lo 4).holdOf p lo = some (BitVec.ofNat 32 ((t.readWord lo).2.readWord (lo + 4)).1) ∧
    ∀ (q : Path) (k : Nat), (q, k) ≠ (p, lo) → (s.crsRead p lo 4).holdOf q k = s.holdOf q k := by
  have ha : lo % 4 = 0 := half_aligned (by simp [h])
  simp only [crsRead_whole_holdOf ha hr hg hs hk, readPair_lo h]
  refine ⟨?_, holdOf_holdSet_same _ _ _ _, fun q k hne => ?_⟩
  · rw [crsRead_whole ha hr hg hs hk, readPair_lo h]
  · rw [holdOf_holdSet_ne _ _ hne]
    exact holdOf_of_hold ((readWord_hold _ _).trans ((readWord_hold t lo).trans (arrayCheck_hold hk))) q k

section
variable {s t : State} {p : Path} {lo : Nat} (h : halfAt (lo + 4) = .hi) (hr : s.pathReads p = true)
  (hg : s.gated (lo + 4) = false) (hs : s.silent (lo + 4) = false) (hk : s.arrayCheck (lo + 4) = (true, t))
include h hr hg hs hk

/-- A read of NAME_HI with a copy returns and consumes it. -/
theorem crsRead_hi_held {w : Word} (hw : s.holdOf p lo = some w) :
    (s.crsRead p (lo + 4) 4).rdOut = some (p, w.toNat) ∧ (s.crsRead p (lo + 4) 4).holdOf p lo = none ∧
    ∀ (q : Path) (k : Nat), (q, k) ≠ (p, lo) → (s.crsRead p (lo + 4) 4).holdOf q k = s.holdOf q k := by
  have ha : (lo + 4) % 4 = 0 := half_aligned (by simp [h])
  have e := readPair_hi_held h t p (w := w) ((holdOf_of_hold (arrayCheck_hold hk) p lo).trans hw)
  rw [Nat.add_sub_cancel] at e
  simp only [crsRead_whole_holdOf ha hr hg hs hk, e]
  refine ⟨?_, holdOf_holdSet_same _ _ _ _, fun q k hne => ?_⟩
  · rw [crsRead_whole ha hr hg hs hk, e, Nat.mod_eq_of_lt w.isLt]
  · rw [holdOf_holdSet_ne _ _ hne]
    exact holdOf_of_hold (arrayCheck_hold hk) q k

/-- A read of NAME_HI without a copy returns the live value and consumes nothing. -/
theorem crsRead_hi_live (hw : s.holdOf p lo = none) :
    (s.crsRead p (lo + 4) 4).rdOut = some (p, (t.readWord (lo + 4)).1 % 2 ^ 32) ∧
    ∀ (q : Path) (k : Nat), (s.crsRead p (lo + 4) 4).holdOf q k = s.holdOf q k := by
  have ha : (lo + 4) % 4 = 0 := half_aligned (by simp [h])
  have e := readPair_hi_live h t p ((holdOf_of_hold (arrayCheck_hold hk) p lo).trans hw)
  simp only [crsRead_whole_holdOf ha hr hg hs hk, e]
  refine ⟨?_, fun q k => holdOf_of_hold ((readWord_hold t _).trans (arrayCheck_hold hk)) q k⟩
  rw [crsRead_whole ha hr hg hs hk, e]

end

/-- Settles O43: a read changes the copies at its own path and pair only, since nothing else that it does writes a copy. -/
theorem holdingCopiesOfPairs : Obligations.HoldingCopiesOfPairs := by
  unfold Obligations.HoldingCopiesOfPairs
  refine ⟨fun lo h => half_above_lo h, fun p lo t s h hr hg hs hk => crsRead_lo h hr hg hs hk,
    fun p lo w t s h hr hg hs hk hw => crsRead_hi_held h hr hg hs hk hw,
    fun p lo t s h hr hg hs hk hw => crsRead_hi_live h hr hg hs hk hw,
    fun p a n s h q k => holdOf_of_hold (crsRead_single_hold s p a n h) q k, fun p => ?_⟩
  cases p <;> simp

/-! ### The access commands (R9 to R22) -/

/-- A write that path and register take: the word of an array is merged first, and the write reaches the register unless it
is uncorrectable (R375). -/
theorem crsWrite_merges (s : State) (p : Path) (a : Nat) (v : Word) (d : RegDesc) (h : s.takes p a v = true) (ha : a % 4 = 0)
    (ht : taskWindow a = none) (hd : regAt a = some d) : s.crsWrite p a 4 v =
      if (s.arrayMerge a).1 then (s.arrayMerge a).2.regWrite p a v.toNat d else (s.arrayMerge a).2 := by
  simp only [State.takes, Bool.and_eq_true, Bool.not_eq_true'] at h
  obtain ⟨⟨⟨⟨h0, h1⟩, h2⟩, h3⟩, h4⟩ := h
  simp [State.crsWrite, ha, h0, h1, h2, h3, ht, h4, hd]

theorem takes_answers {s : State} {p : Path} {a : Nat} {v : Word} (h : s.takes p a v = true) :
    s.gated a = false ∧ s.silent a = false := by
  simp only [State.takes, Bool.and_eq_true, Bool.not_eq_true'] at h
  obtain ⟨⟨⟨-, hg⟩, hs⟩, -⟩ := h
  exact ⟨hg, hs⟩

/-- A write whose array word is uncorrectable leaves what the read of that word left, and nothing where no register lies. -/
theorem crsWrite_unmerged (s : State) (p : Path) (a : Nat) (v : Word) (h : s.takes p a v = true) (ht : taskWindow a = none)
    (hm : (s.arrayMerge a).1 = false) :
    s.crsWrite p a 4 v = if a % 4 = 0 ∧ (regAt a).isSome = true then (s.arrayMerge a).2 else s := by
  obtain ⟨hg, hs⟩ := takes_answers h
  by_cases ha : a % 4 = 0
  · cases hd : regAt a with
    | none =>
      rw [crsWrite_barred s p a v hg hs ht (.inr hd)]
      simp
    | some d =>
      rw [crsWrite_merges s p a v d h ha ht hd]
      simp [hm, ha]
  · rw [crsWrite_denied s p a 4 v hg hs (.inr (.inl ha))]
    simp [ha]

theorem silentAccess_write {s : State} {p : Path} {a : Nat} (hr : s.pathReads p = true) (hg : s.gated a = false)
    (hs : s.silent a = true) : s.silentAccess p a true = s.crsTimeout a := by
  simp [State.silentAccess, hr, hg, hs]

theorem silentAccess_read {s : State} {p : Path} {a : Nat} (hr : s.pathReads p = true) (hg : s.gated a = false)
    (hs : s.silent a = true) : s.silentAccess p a false = { s.crsTimeout a with rdOut := some (p, 0) } := by
  simp [State.silentAccess, hr, hg, hs]

/-- A whole read of a register of its own that has RC fields and no live value. -/
theorem crsRead_rc {s : State} {p : Path} {a : Nat} {d : RegDesc} (hd : regAt a = some d) (hr : s.pathReads p = true)
    (hg : s.gated a = false) (hs : s.silent a = false) (hh : d.half = .single) (hc : d.hasRc = true)
    (hk : arrayKeyOf a = none) (hv : s.readWord a = ((s.rd a).toNat, s)) : s.crsRead p a 4 =
      { s.wr a (BitVec.ofNat 32 (d.clearRc (s.rd a).toNat)) with rdOut := some (p, (s.rd a).toNat) } := by
  rw [crsRead_whole (regAt_aligned hd) hr hg hs (arrayCheck_none hk s), readPair_single ((halfAt_of_regAt hd).trans hh), hv,
    rcClear_rc hd hc s (by decide), Nat.mod_eq_of_lt (s.rd a).isLt]

/-! The two halves of TTH_STAMP are answered in every state. -/

theorem stamp_answers (s : State) {a : Nat} (h : a = R.A_TTH_STAMP_LO ∨ a = R.A_TTH_STAMP_HI) :
    s.gated a = false ∧ s.silent a = false ∧ arrayKeyOf a = none ∧ ∀ t k, State.rcClear t a k = t := by
  obtain ⟨d, hd⟩ : ∃ d, regAt a = some d := Option.isSome_iff_exists.1 (by rcases h with rfl | rfl <;> decide)
  have hc : ∀ d, regAt a = some d → d.hasRc = false := by rcases h with rfl | rfl <;> decide
  refine ⟨?_, ?_, ?_, fun t k => rcClear_plain hd (hc d hd) t k⟩
  all_goals rcases h with rfl | rfl <;> rfl

theorem readWord_stampLo (s : State) : s.readWord R.A_TTH_STAMP_LO = (s.now % 2 ^ 32, s) := rfl

theorem readWord_stampHi (s : State) : s.readWord R.A_TTH_STAMP_HI = (s.now / 2 ^ 32 % 2 ^ 32, s) := rfl

theorem crsRead_stampLo {s : State} {p : Path} (hr : s.pathReads p = true) : s.crsRead p R.A_TTH_STAMP_LO 4 =
    { s.holdSet p R.A_TTH_STAMP_LO (some (BitVec.ofNat 32 (s.now / 2 ^ 32 % 2 ^ 32))) with
      rdOut := some (p, s.now % 2 ^ 32) } := by
  obtain ⟨hg, hs, hk, hc⟩ := stamp_answers s (.inl rfl)
  rw [crsRead_whole (by decide) hr hg hs (arrayCheck_none hk s), hc, readPair_lo (by decide), readWord_stampLo,
    show R.A_TTH_STAMP_LO + 4 = R.A_TTH_STAMP_HI from rfl, readWord_stampHi, Nat.mod_mod]

theorem crsRead_stampHi_held {s : State} {p : Path} {w : Word} (hr : s.pathReads p = true)
    (hw : s.holdOf p R.A_TTH_STAMP_LO = some w) : s.crsRead p R.A_TTH_STAMP_HI 4 =
    { s.holdSet p R.A_TTH_STAMP_LO none with rdOut := some (p, w.toNat) } := by
  obtain ⟨hg, hs, hk, hc⟩ := stamp_answers s (.inr rfl)
  rw [crsRead_whole (by decide) hr hg hs (arrayCheck_none hk s), hc,
    readPair_hi_held (a := R.A_TTH_STAMP_HI) (by decide) s p hw,
    Nat.mod_eq_of_lt w.isLt, show R.A_TTH_STAMP_HI - 4 = R.A_TTH_STAMP_LO from rfl]

theorem crsRead_stampHi_live {s : State} {p : Path} (hr : s.pathReads p = true) (hw : s.holdOf p R.A_TTH_STAMP_LO = none) :
    s.crsRead p R.A_TTH_STAMP_HI 4 = { s with rdOut := some (p, s.now / 2 ^ 32 % 2 ^ 32) } := by
  obtain ⟨hg, hs, hk, hc⟩ := stamp_answers s (.inr rfl)
  rw [crsRead_whole (by decide) hr hg hs (arrayCheck_none hk s), hc,
    readPair_hi_live (a := R.A_TTH_STAMP_HI) (by decide) s p hw,
    readWord_stampHi, Nat.mod_mod]

/-- Settles O1: each command ends with the access of its row, and each access is one of the cases above. -/
theorem crsAccessCompletes : Obligations.CrsAccessCompletes := by
  unfold Obligations.CrsAccessCompletes
  refine ⟨fun p a v h s ha ht htw hm => ?_, fun a s h => ⟨arrayMerge_none h s, arrayCheck_none h s⟩,
    fun p a v s ht htw hm => answers_crsWrite (crsWrite_unmerged s p a v ht htw hm),
    fun p a n v s hg hs h => answers_crsWrite (crsWrite_denied s p a n v hg hs h),
    fun p a v s hg hs htw h => answers_crsWrite (crsWrite_barred s p a v hg hs htw h),
    fun p a n v s hr hg => answers_crsWrite (crsWrite_gated s p a n v hr hg),
    fun p a s hr hg hs => answers_of_eq rfl (silentAccess_write hr hg hs),
    fun p a s hr hg hs => answers_of_eq rfl (silentAccess_read hr hg hs),
    fun p a h s ha hr hg hs hh hc hk hv => ?_,
    fun p s hr => answers_of_eq rfl (crsRead_stampLo hr),
    fun p w s hr hw => answers_of_eq rfl (crsRead_stampHi_held hr hw),
    fun p s hr hw => answers_of_eq rfl (crsRead_stampHi_live hr hw),
    fun p a s ha hr hg => ?_⟩
  · refine answers_crsWrite ?_
    rw [crsWrite_merges s p a v _ ht ha htw (Option.some_get h).symm, if_pos hm]
  · exact answers_of_eq rfl (crsRead_rc (Option.some_get h).symm hr hg hs hh hc hk hv)
  · have e : a - a % 4 = a := by omega
    refine answers_of_eq (w := s.crsRead p a 4) rfl ?_
    rw [crsRead_gated s p a 4 hr (by rwa [e]), e, State.crsGated]

end Sys2Proof.Machine
end

section
/-!
SUPPORT and settlement. Power-good, the power domains, the copies of the time base, under-voltage and the device resets (R29,
R30, R49, R50, R241, R399, R471, R482): each operation case by case.
-/

namespace Sys2Proof.Machine

open Sys2Proof

/-! ### Copies of the time base (R30) -/

theorem tbCopy_far {d : Int} (h : 2 < d.natAbs) (s : State) (dom : Nat) : s.tbCopy dom d =
    ((({ s with tbDrift := listSet s.tbDrift dom 0 } : State).set R.TTH_TB_STAT_LAST_DOM dom).bump
      R.TTH_TB_STAT_ERR_COUNT 1).fault .tb 0 := if_pos h

theorem tbCopy_near {d : Int} (h : d.natAbs ≤ 2) (s : State) (dom : Nat) :
    s.tbCopy dom d = { s with tbDrift := listSet s.tbDrift dom d } := if_neg (by omega)

theorem tbAlign_single (s : State) (d : Int) : s.tbAlign [d] = s.tbCopy 0 d := rfl

/-! ### Power-good (R399, R471) -/

theorem railsUp_first {s : State} {rails : List (Nat × Nat)} (hr : railsGood rails = true) (hp : s.sys.powerGood = false)
    (gpio : Nat) (pair0 pair1 : Bool) : s.railsUp rails gpio pair0 pair1 =
      (s.startAt (bitsOf gpio 0 16) (bitOf gpio 0)).pairsBoot pair0 pair1 := by
  unfold State.railsUp State.powerUp
  rw [if_pos hr, if_neg (by simp [hp])]

theorem railsUp_not {s : State} {rails : List (Nat × Nat)} (h : railsGood rails = false ∨ s.sys.powerGood = true)
    (gpio : Nat) (pair0 pair1 : Bool) : s.railsUp rails gpio pair0 pair1 = s := by
  unfold State.railsUp State.powerUp
  rcases h with h | h <;> simp [h]

theorem pairsBoot_both (s : State) : s.pairsBoot true true = s := rfl

theorem pairsBoot_first (s : State) : s.pairsBoot true false = (s.set R.FLT_CORE_STAT_PAIR1 3).fault .flt 1 := rfl

theorem pairsBoot_noFirst (s : State) (pair1 : Bool) : s.pairsBoot false pair1 =
    (((s.set R.FLT_CORE_STAT_PAIR1 0).set R.FLT_CORE_STAT_ACTIVE 1).set R.FLT_CORE_STAT_PAIR0 3).fault .flt 1 := rfl

/-! ### Power domains (R49, R50) -/

/-- The lowest of PD0 to PD5 that is off, once its predecessor has been up for 50 µs. -/
theorem domainUp_due {s : State} {n : Nat} (hn : (List.range 6).find? (fun k => !bitOf (s.get R.SYS_PWR_STAT_PD) k) = some n)
    (hp : s.sys.powerGood = true) (ht : s.sys.domAt + 50000 ≤ s.now) : s.domainUp =
      let t := ((s.tbLoad (domainsOf n)).orBits R.SYS_PWR_STAT_PD (2 ^ n)).modSys (fun y => { y with domAt := s.now })
      if n = 2 then t.set R.MEM_STAT_STATE 1 else t := by
  unfold State.domainUp
  simp only [hn]
  exact if_pos ⟨hp, decide_eq_true ht⟩

theorem domainUp_early {s : State} {n : Nat} (hn : (List.range 6).find? (fun k => !bitOf (s.get R.SYS_PWR_STAT_PD) k) = some n)
    (ht : s.now < s.sys.domAt + 50000) : s.domainUp = s := by
  unfold State.domainUp
  simp only [hn]
  exact if_neg (fun h => absurd (of_decide_eq_true h.2) (Nat.not_le.2 ht))

/-! ### Under-voltage and lost rails (R471) -/

theorem railDip_low {s : State} {i a b : Nat} (h : railLow (railAt i) a b = true) (hp : s.sys.powerGood = true)
    (hl : s.spn.lost = false) : s.railDip i a b = s.declareLoss := by
  unfold State.railDip State.underVoltage
  rw [if_pos h, if_neg (by simp [hp, hl])]

theorem railDip_none {s : State} {i a b : Nat} (h : railLow (railAt i) a b = false ∨ s.spn.lost = true) :
    s.railDip i a b = s := by
  unfold State.railDip State.underVoltage
  rcases h with h | h <;> simp [h]

theorem railGone_lost {i : Nat} {mv : List Nat} (h : railLost (railAt i) mv = true) (s : State) :
    s.railGone i mv = s.reborn := if_pos h

theorem railGone_kept {i : Nat} {mv : List Nat} (h : railLost (railAt i) mv = false) (s : State) :
    s.railGone i mv = s := if_neg (by simp [h])

theorem railLow_iff (r : Rail) (a b : Nat) : railLow r a b = true ↔ a < r.range.1 ∧ b < r.range.1 := by
  simp [railLow]

/-! ### The reset after a supply loss (R241, R482) -/

/-- SUPOK high for 100 ms, every actuator in RAMP or OFF, and no record left to write. -/
theorem supplyReset_due {s : State} {t : Nat} (hl : s.spn.lost = true) (hs : s.spn.supHigh = some t)
    (ht : t + 100000000 ≤ s.now) (ha : ∀ a : Act, s.actState a.val ≤ 1) (hq : s.ldg.queue = []) (hj : s.ldg.job = none) :
    s.supplyReset = ([R.A_SYS_GPIO_OE, R.A_SYS_GPIO_OUT, R.A_SYS_GPIO_PULL, R.A_SYS_GPIO_OD] : List Nat).foldl
      (fun (u : State) a => u.wr a (s.rd a)) ((s.reborn.startAt (s.get R.SYS_GPIO_IN_LEVEL) (s.flag R.HIF_CFG_X8)).set
        R.TTH_TB_STAT_ERR_COUNT (s.get R.TTH_TB_STAT_ERR_COUNT)) := by
  have parked : (List.range 4).all (fun a => decide (s.actState a ≤ 1)) = true :=
    List.all_eq_true.2 fun a h => decide_eq_true (ha ⟨a, List.mem_range.1 h⟩)
  unfold State.supplyReset
  simp only [parked, hs, hq, hj, hl, State.passed, decide_eq_true ht]
  rfl

/-- Settles O2: each command ends with its operation, in one of the cases above. -/
theorem powerAndTimeBaseComplete : Obligations.PowerAndTimeBaseComplete := by
  unfold Obligations.PowerAndTimeBaseComplete
  refine ⟨fun d s h => answers_of_eq rfl ((tbAlign_single s d).trans (tbCopy_far h s 0)),
    fun d s h => answers_of_eq rfl ((tbAlign_single s d).trans (tbCopy_near h s 0)),
    fun rails g s hr hp => answers_of_eq rfl ((railsUp_first hr hp g.toNat true true).trans (pairsBoot_both _)),
    fun rails g s hr hp => answers_of_eq rfl ((railsUp_first hr hp g.toNat true false).trans (pairsBoot_first _)),
    fun rails g pair1 s hr hp => answers_of_eq rfl ((railsUp_first hr hp g.toNat false pair1).trans (pairsBoot_noFirst _ _)),
    fun rails g pair0 pair1 s h => answers_of_eq rfl (railsUp_not h g.toNat pair0 pair1),
    fun s hp ht h => answers_of_eq rfl (domainUp_due (n := 3) (by rw [h]; rfl) hp ht),
    fun s hp ht h => answers_of_eq rfl (domainUp_due (n := 2) (by rw [h]; rfl) hp ht),
    fun s _ ht h => answers_of_eq rfl (domainUp_early (n := 2) (by rw [h]; rfl) ht),
    fun r a b s h hp hl => answers_of_eq rfl (railDip_low h hp hl),
    fun r a b s h => answers_of_eq rfl (railDip_none h), railLow_iff,
    fun r mv s h => answers_of_eq rfl (railGone_lost h s),
    fun r mv s h => answers_of_eq rfl (railGone_kept h s),
    fun t s hl hs ht ha hq hj => answers_of_eq rfl (supplyReset_due hl hs ht ha hq hj)⟩

end Sys2Proof.Machine
end

section
/-!
SUPPORT and settlement. The time base (R29, R241): what power-good, the device resets and a command fetch leave it at; every
other command keeps it (`exec_keeps`).
-/

namespace Sys2Proof.Machine

open Sys2Proof

/-- What a command ends with does not move the time base. -/
theorem ends_now {s u t : State} (h : ends s u = .next t) : t.now = u.now := (ends_keeps (keeps_refl u) h).now

/-! ### Power-good and the device resets -/

@[simp] theorem State.startAt_now (s : State) (gpio : Nat) (x8 : Bool) : (s.startAt gpio x8).now = 0 := rfl

@[simp] theorem State.pairsBoot_now (s : State) (pair0 pair1 : Bool) : (s.pairsBoot pair0 pair1).now = s.now :=
  (State.pairsBoot_keeps s pair0 pair1 (keeps_refl s)).now

@[simp] theorem State.reborn_now (s : State) : s.reborn.now = 0 := rfl

theorem State.railsUp_now (s : State) (rails : List (Nat × Nat)) (gpio : Nat) (pair0 pair1 : Bool) :
    (s.railsUp rails gpio pair0 pair1).now = if railsGood rails = true ∧ s.sys.powerGood = false then 0 else s.now := by
  split
  · next h => rw [railsUp_first h.1 h.2, State.pairsBoot_now, State.startAt_now]
  · next h => rw [railsUp_not (by simpa [imp_iff_not_or] using h)]

theorem State.railGone_now (s : State) (i : Nat) (mv : List Nat) :
    (s.railGone i mv).now = if railLost (railAt i) mv = true then 0 else s.now := by
  split
  · next h => rw [railGone_lost h, State.reborn_now]
  · next h => rw [railGone_kept (by simpa using h)]

theorem State.supplyReset_now (s : State) : s.supplyReset.now = 0 ∨ s.supplyReset.now = s.now := by
  unfold State.supplyReset
  extract_lets parked sup written k
  split
  · exact .inr rfl
  · exact .inl rfl

/-! ### Fetching (log entry 2) -/

/-- A controller that has an entry to fetch takes one cycle for it. -/
theorem State.fetchOne_now (s : State) (n : Nat) (e : Sqe) :
    (s.fetchOne n e).now = if (s.ctl n).offering = [] then s.now else s.now + 1 := by
  unfold State.fetchOne
  cases (s.ctl n).offering with
  | nil => rfl
  | cons q l => rfl

theorem State.fetchOne_now_bounds (s : State) (n : Nat) (e : Sqe) :
    s.now ≤ (s.fetchOne n e).now ∧ (s.fetchOne n e).now ≤ s.now + 1 := by
  rw [State.fetchOne_now]
  split <;> omega

/-- The second controller of a tie fetches after the first where it still can. -/
theorem State.fetchNext_now_bounds (s : State) (n : Nat) (e : Sqe) :
    let t := if s.fetches n then s.fetchOne n e else s
    s.now ≤ t.now ∧ t.now ≤ s.now + 1 := by
  intro t
  unfold t
  split
  · exact s.fetchOne_now_bounds n e
  · omega

theorem State.commandFetch_now_bounds (s : State) (o0 o1 : Option Sqe) :
    s.now ≤ (s.commandFetch o0 o1).now ∧ (s.commandFetch o0 o1).now ≤ s.now + 2 := by
  have one : ∀ n e, s.now ≤ (s.fetchOne n e).now ∧ (s.fetchOne n e).now ≤ s.now + 1 := s.fetchOne_now_bounds
  unfold State.commandFetch
  generalize (if s.fetches 0 = true then o0 else none) = a
  generalize (if s.fetches 1 = true then o1 else none) = b
  match a, b with
  | some a, some b =>
    dsimp only
    split
    · have next := State.fetchNext_now_bounds { s.fetchOne 0 a with tieLast := 0 } 1 b
      exact ⟨(one 0 a).1.trans next.1, next.2.trans (Nat.succ_le_succ (one 0 a).2)⟩
    · have next := State.fetchNext_now_bounds { s.fetchOne 1 b with tieLast := 1 } 0 a
      exact ⟨(one 1 b).1.trans next.1, next.2.trans (Nat.succ_le_succ (one 1 b).2)⟩
  | some a, none => exact ⟨(one 0 a).1, (one 0 a).2.trans (Nat.le_succ _)⟩
  | none, some b => exact ⟨(one 1 b).1, (one 1 b).2.trans (Nat.le_succ _)⟩
  | none, none => exact ⟨Nat.le_refl _, Nat.le_add_right _ _⟩

/-- Settles O58: the time base after a command is the one that its effect left, and each effect is one of the above. -/
theorem onlyDeviceResetsAndFetchesMoveTheTimeBase : Obligations.OnlyDeviceResetsAndFetchesMoveTheTimeBase := by
  unfold Obligations.OnlyDeviceResetsAndFetchesMoveTheTimeBase
  refine ⟨fun c t s h hf hg hr hs => (exec_keeps h hf hg hr hs).now, fun rails gpio pair0 pair1 t s h => ?_,
    fun rail mv t s h => ?_, fun t s h => ?_, fun a b t s h => ?_⟩
  · rw [ends_now (u := s.railsUp rails gpio.toNat pair0 pair1) h, State.railsUp_now]
  · rw [ends_now (u := s.railGone rail.val mv) h, State.railGone_now]
  · rw [ends_now (u := s.supplyReset) h]
    exact s.supplyReset_now
  · rw [ends_now (u := s.commandFetch a b) h]
    exact s.commandFetch_now_bounds a b

end Sys2Proof.Machine
end

section
/-!
SUPPORT. Fetching, doorbells and posting (R32, R301, R302, R303, R315): each operation case by case.
-/

namespace Sys2Proof.Machine

open Sys2Proof

/-! ### Fetching (R32, R301) -/

section
variable {s : State} (o0 o1 : Option Sqe)

theorem commandFetch_noOffer : s.commandFetch none none = s := by simp only [State.commandFetch, ite_self]

theorem commandFetch_closed (h0 : s.fetches 0 = false) (h1 : s.fetches 1 = false) : s.commandFetch o0 o1 = s := by
  simp only [State.commandFetch, h0, h1, Bool.false_eq_true, if_false]

theorem commandFetch_first (h0 : s.fetches 0 = true) (h1 : s.fetches 1 = false) (e : Sqe) :
    s.commandFetch (some e) o1 = s.fetchOne 0 e := by
  simp only [State.commandFetch, h0, h1, Bool.false_eq_true, if_true, if_false]

theorem commandFetch_second (h0 : s.fetches 0 = false) (h1 : s.fetches 1 = true) (e : Sqe) :
    s.commandFetch o0 (some e) = s.fetchOne 1 e := by
  simp only [State.commandFetch, h0, h1, Bool.false_eq_true, if_true, if_false]

/-- In a tie controller 0 goes first where controller 1 went first in the latest. -/
theorem commandFetch_tie_first (h0 : s.fetches 0 = true) (h1 : s.fetches 1 = true) (ht : s.tieLast = 1) (e0 e1 : Sqe) :
    s.commandFetch (some e0) (some e1) =
      let u : State := { s.fetchOne 0 e0 with tieLast := 0 }
      if u.fetches 1 then u.fetchOne 1 e1 else u := by
  simp only [State.commandFetch, h0, h1, if_true, ht]

theorem commandFetch_tie_second (h0 : s.fetches 0 = true) (h1 : s.fetches 1 = true) (ht : s.tieLast ≠ 1) (e0 e1 : Sqe) :
    s.commandFetch (some e0) (some e1) =
      let u : State := { s.fetchOne 1 e1 with tieLast := 1 }
      if u.fetches 0 then u.fetchOne 0 e0 else u := by
  simp only [State.commandFetch, h0, h1, if_true, ht, if_false]

end

/-! ### Doorbells (R302, R303, R315) -/

section
variable {s : State} {n y v : Nat}

/-- A doorbell of no controller that runs, or of a queue that no doorbell register stands for. -/
theorem doorbell_deaf (h : s.ctlExists n = false ∨ (s.ctl n).rdy = false ∨ 255 < y) :
    (!s.ctlExists n || !(s.ctl n).rdy || decide (255 < y)) = true := by
  rcases h with h | h | h <;> simp [h]

theorem doorbell_heard (he : s.ctlExists n = true) (hr : (s.ctl n).rdy = true) (hy : y ≤ 255) :
    ¬ (!s.ctlExists n || !(s.ctl n).rdy || decide (255 < y)) = true := by
  simp [he, hr, hy]

theorem sqDoorbell_deaf (h : s.ctlExists n = false ∨ (s.ctl n).rdy = false ∨ 255 < y) : s.sqDoorbell n y v = s :=
  if_pos (doorbell_deaf h)

theorem cqDoorbell_deaf (h : s.ctlExists n = false ∨ (s.ctl n).rdy = false ∨ 255 < y) : s.cqDoorbell n y v = s :=
  if_pos (doorbell_deaf h)

variable (he : s.ctlExists n = true) (hr : (s.ctl n).rdy = true) (hy : y ≤ 255)
include he hr hy

theorem sqDoorbell_noQueue (hq : (s.ctl n).sqOf y = none) : s.sqDoorbell n y v = s.doorbellBad n 0 := by
  refine (if_neg (doorbell_heard he hr hy)).trans ?_
  simp only [hq]

theorem sqDoorbell_outOfRange {q : SqSt} (hq : (s.ctl n).sqOf y = some q) (hg : s.sqGoing n y = false) (hv : q.size ≤ v) :
    s.sqDoorbell n y v = s.doorbellBad n 1 := by
  refine (if_neg (doorbell_heard he hr hy)).trans ?_
  simp only [hq, hg, Bool.false_eq_true, if_false, if_pos hv]

theorem sqDoorbell_moves {q : SqSt} (hq : (s.ctl n).sqOf y = some q) (hg : s.sqGoing n y = false) (hv : v < q.size) :
    s.sqDoorbell n y v = s.modCtl n (fun x => x.modSq y (fun z => { z with tail := v })) := by
  refine (if_neg (doorbell_heard he hr hy)).trans ?_
  simp only [hq, hg, Bool.false_eq_true, if_false, if_neg (Nat.not_le.2 hv)]

theorem cqDoorbell_noQueue (hq : (s.ctl n).cqOf y = none) : s.cqDoorbell n y v = s.doorbellBad n 0 := by
  refine (if_neg (doorbell_heard he hr hy)).trans ?_
  simp only [hq]

theorem cqDoorbell_outOfRange {q : CqSt} (hq : (s.ctl n).cqOf y = some q)
    (hv : q.size ≤ v ∨ q.posted.length < (v + q.size - q.head) % q.size) : s.cqDoorbell n y v = s.doorbellBad n 1 := by
  refine (if_neg (doorbell_heard he hr hy)).trans ?_
  simp only [hq, if_pos hv]

theorem cqDoorbell_moves {q : CqSt} (hq : (s.ctl n).cqOf y = some q) (hv : v < q.size)
    (hk : (v + q.size - q.head) % q.size ≤ q.posted.length) : s.cqDoorbell n y v =
      (s.modCtl n (fun x => x.modCq y (fun z =>
        { z with head := v, posted := z.posted.drop ((v + q.size - q.head) % q.size) }))).cqDrain n y := by
  refine (if_neg (doorbell_heard he hr hy)).trans ?_
  have hin : ¬ (q.size ≤ v ∨ q.posted.length < (v + q.size - q.head) % q.size) := by omega
  simp only [hq, if_neg hin]

end

/-! ### Posting (R303) -/

/-- Nothing that ended stands before the first. -/
theorem ended_before_head {l : List Nat} {k : Nat} (h : l.head? = some k) : l.takeWhile (fun j => j != k) = [] := by
  cases l with
  | nil => rfl
  | cons a l =>
    obtain rfl : a = k := Option.some.inj h
    exact List.takeWhile_cons_of_neg (by simp)

/-- A completion queue that asks for an interrupt raises its vector; one that is raised already stays so. -/
def Ctl.vecRaise (x : Ctl) (q : CqSt) : Ctl :=
  { x with vecs := if q.ien = true ∧ x.vecs.contains q.vec = false then q.vec :: x.vecs else x.vecs }

theorem vecRaise_eq (x : Ctl) (q : CqSt) :
    (if q.ien then { x with vecs := if x.vecs.contains q.vec then x.vecs else q.vec :: x.vecs } else x) = x.vecRaise q := by
  unfold Ctl.vecRaise
  cases q.ien <;> cases x.vecs.contains q.vec <;> rfl

section
variable {s : State} {slot : Slot}

theorem cmdPost_empty (h : s.cmd slot = none) : s.cmdPost slot = s := by
  simp only [State.cmdPost, h]

variable {c : CmdSlot} (hc : s.cmd slot = some c)
include hc

theorem cmdPost_running (hr : c.res = none) : s.cmdPost slot = s := by
  simp only [State.cmdPost, hc, hr]

/-- A queue with one entry left is full. -/
theorem cmdPost_full {q : CqSt} (hq : s.cqFor c = some q) (hf : q.size ≤ q.posted.length + 1) : s.cmdPost slot = s := by
  have room : q.room = false := decide_eq_false (Nat.not_lt.2 hf)
  unfold State.cmdPost
  simp only [hc, hq]
  cases c.res with
  | none => rfl
  | some r =>
    cases (s.ctl c.ctrl).sqOf c.sq with
    | none => rfl
    | some z => exact if_pos (by simp only [room, Bool.not_false, Bool.or_true])

/-- The completion of the first command that ended, where its queue has room: it is posted, and its slot is free. -/
theorem cmdPost_posts {r : CmdRes} {q : CqSt} {z : SqSt} (hr : c.res = some r) (hq : s.cqFor c = some q)
    (hz : (s.ctl c.ctrl).sqOf c.sq = some z) (ho : s.orderHeld c = false) (hh : s.hif.ended.head? = some slot)
    (hf : q.posted.length + 1 < q.size) : s.cmdPost slot =
      ((s.modCtl c.ctrl (fun x => (x.modCq q.id (fun k =>
        { k with posted := k.posted ++ [⟨c.sq, c.e.cid, z.head, r, s.now⟩] })).vecRaise q)).modHif (fun h =>
          { h with slots := h.slots.filter (fun d => d.no != slot), ended := h.ended.filter (· != slot) })).hifShow := by
  have room : q.room = true := decide_eq_true hf
  unfold State.cmdPost
  simp only [hc, hr, hq, hz, ho, ended_before_head hh, room, List.any_nil, Bool.not_true, Bool.or_false, Bool.false_eq_true,
    if_false, vecRaise_eq]

end

end Sys2Proof.Machine
end

section
/-!
SUPPORT and settlement. Queue commands, Abort and the features of the queues (R299, R300, R308, R309, R321, R334): each
operation case by case.
-/

namespace Sys2Proof.Machine

open Sys2Proof

/-! ### Queue identifiers (R299) -/

section
variable {α : Type} {y : Nat} {o : Option α}

theorem badQid_iff (y : Nat) : badQid y = true ↔ y = 0 ∨ 255 < y := by simp [badQid]

theorem newQid_taken (h : y = 0 ∨ 255 < y ∨ o ≠ none) : (badQid y || o.isSome) = true := by
  rw [Bool.or_eq_true, badQid_iff, Option.isSome_iff_ne_none, or_assoc]
  exact h

theorem newQid_free (h0 : y ≠ 0) (h1 : y ≤ 255) (h : o = none) : ¬ (badQid y || o.isSome) = true := by
  rw [Bool.or_eq_true, badQid_iff, h]
  simp [h0, h1]

theorem oldQid_missing (h : y = 0 ∨ 255 < y ∨ o = none) : (badQid y || o.isNone) = true := by
  rw [Bool.or_eq_true, badQid_iff, Option.isNone_iff_eq_none, or_assoc]
  exact h

theorem oldQid_present (h0 : y ≠ 0) (h1 : y ≤ 255) (h : o ≠ none) : ¬ (badQid y || o.isNone) = true := by
  rw [Bool.or_eq_true, badQid_iff, Option.isNone_iff_eq_none]
  simp [h0, h1, h]

end

/-! ### Creating and deleting queues (R299, R334) -/

section
variable {s : State} {slot : Slot} {c : CmdSlot}

theorem createCq_absent (h : s.adminCmd slot 5 = none) : s.createCq slot = s := by simp only [State.createCq, h]

theorem createCq_badQid (h : s.adminCmd slot 5 = some c) (hy : bitsOf (c.dw 0) 0 16 = 0 ∨ 255 < bitsOf (c.dw 0) 0 16 ∨
    (s.ctl c.ctrl).cqOf (bitsOf (c.dw 0) 0 16) ≠ none) : s.createCq slot = s.queueRefused c (cst 0x101) := by
  simp only [State.createCq, h]
  exact if_pos (newQid_taken hy)

theorem createCq_badSize (h : s.adminCmd slot 5 = some c) (h0 : bitsOf (c.dw 0) 0 16 ≠ 0) (h1 : bitsOf (c.dw 0) 0 16 ≤ 255)
    (hy : (s.ctl c.ctrl).cqOf (bitsOf (c.dw 0) 0 16) = none) (hq : bitsOf (c.dw 0) 16 16 = 0 ∨ 4095 < bitsOf (c.dw 0) 16 16) :
    s.createCq slot = s.queueRefused c (cst 0x102) := by
  simp only [State.createCq, h]
  exact (if_neg (newQid_free h0 h1 hy)).trans (if_pos hq)

theorem createCq_makes (h : s.adminCmd slot 5 = some c) (hy : (s.ctl c.ctrl).cqOf (bitsOf (c.dw 0) 0 16) = none)
    (h0 : bitsOf (c.dw 0) 0 16 ≠ 0) (h1 : bitsOf (c.dw 0) 0 16 ≤ 255) (q0 : bitsOf (c.dw 0) 16 16 ≠ 0)
    (q1 : bitsOf (c.dw 0) 16 16 ≤ 4095) (hp : bitOf (c.dw 1) 0 = true) (hv : bitsOf (c.dw 1) 16 16 ≤ 255) : s.createCq slot =
      (s.modCtl c.ctrl (fun x => { x with
        cqs := x.cqs ++ [⟨bitsOf (c.dw 0) 0 16, bitsOf (c.dw 0) 16 16 + 1, 0, [], bitOf (c.dw 1) 1, bitsOf (c.dw 1) 16 16⟩]
        ioMade := true })).finishSt slot (cst scOk) := by
  simp only [State.createCq, h]
  rw [if_neg (newQid_free h0 h1 hy), if_neg (by omega), if_neg (by simp [hp]), if_neg (by omega)]

theorem createSq_absent (h : s.adminCmd slot 1 = none) : s.createSq slot = s := by simp only [State.createSq, h]

theorem createSq_badQid (h : s.adminCmd slot 1 = some c) (hy : bitsOf (c.dw 0) 0 16 = 0 ∨ 255 < bitsOf (c.dw 0) 0 16 ∨
    (s.ctl c.ctrl).sqOf (bitsOf (c.dw 0) 0 16) ≠ none) : s.createSq slot = s.queueRefused c (cst 0x101) := by
  simp only [State.createSq, h]
  exact if_pos (newQid_taken hy)

theorem createSq_badSize (h : s.adminCmd slot 1 = some c) (h0 : bitsOf (c.dw 0) 0 16 ≠ 0) (h1 : bitsOf (c.dw 0) 0 16 ≤ 255)
    (hy : (s.ctl c.ctrl).sqOf (bitsOf (c.dw 0) 0 16) = none) (hq : bitsOf (c.dw 0) 16 16 = 0 ∨ 4095 < bitsOf (c.dw 0) 16 16) :
    s.createSq slot = s.queueRefused c (cst 0x102) := by
  simp only [State.createSq, h]
  exact (if_neg (newQid_free h0 h1 hy)).trans (if_pos hq)

theorem createSq_makes (h : s.adminCmd slot 1 = some c) (hy : (s.ctl c.ctrl).sqOf (bitsOf (c.dw 0) 0 16) = none)
    (h0 : bitsOf (c.dw 0) 0 16 ≠ 0) (h1 : bitsOf (c.dw 0) 0 16 ≤ 255) (q0 : bitsOf (c.dw 0) 16 16 ≠ 0)
    (q1 : bitsOf (c.dw 0) 16 16 ≤ 4095) (hp : bitOf (c.dw 1) 0 = true) (k0 : bitsOf (c.dw 1) 16 16 ≠ 0)
    (hk : (s.ctl c.ctrl).cqOf (bitsOf (c.dw 1) 16 16) ≠ none) (hg : s.cqGoing c (bitsOf (c.dw 1) 16 16) = false) :
    s.createSq slot = (s.modCtl c.ctrl (fun x => { x with
        sqs := x.sqs ++ [⟨bitsOf (c.dw 0) 0 16, bitsOf (c.dw 0) 16 16 + 1, 0, 0, bitsOf (c.dw 1) 16 16, []⟩]
        ioMade := true })).finishSt slot (cst scOk) := by
  simp only [State.createSq, h]
  rw [if_neg (newQid_free h0 h1 hy), if_neg (by omega), if_neg (by simp [hp]), if_neg (by simp [k0, hk, hg])]

theorem deleteCq_absent (h : s.adminCmd slot 4 = none) : s.deleteCq slot = s := by simp only [State.deleteCq, h]

theorem deleteCq_inUse (h : s.adminCmd slot 4 = some c) (h0 : bitsOf (c.dw 0) 0 16 ≠ 0) (h1 : bitsOf (c.dw 0) 0 16 ≤ 255)
    (hy : (s.ctl c.ctrl).cqOf (bitsOf (c.dw 0) 0 16) ≠ none) (hu : ∃ q ∈ (s.ctl c.ctrl).sqs, q.cq = bitsOf (c.dw 0) 0 16) :
    s.deleteCq slot = s.queueRefused c (cst 0x10C) := by
  simp only [State.deleteCq, h]
  rw [if_neg (oldQid_present h0 h1 hy), if_pos (by simpa using hu)]

theorem deleteCq_removes (h : s.adminCmd slot 4 = some c) (h0 : bitsOf (c.dw 0) 0 16 ≠ 0) (h1 : bitsOf (c.dw 0) 0 16 ≤ 255)
    (hy : (s.ctl c.ctrl).cqOf (bitsOf (c.dw 0) 0 16) ≠ none) (hu : ∀ q ∈ (s.ctl c.ctrl).sqs, q.cq ≠ bitsOf (c.dw 0) 0 16) :
    s.deleteCq slot = (s.modCtl c.ctrl (fun x =>
      { x with cqs := x.cqs.filter (fun q => q.id != bitsOf (c.dw 0) 0 16) })).finishSt slot (cst scOk) := by
  simp only [State.deleteCq, h]
  rw [if_neg (oldQid_present h0 h1 hy), if_neg (by simpa using hu)]

theorem deleteSq_absent (h : s.adminCmd slot 0 = none) : s.deleteSq slot = s := by simp only [State.deleteSq, h]

theorem deleteSq_badQid (h : s.adminCmd slot 0 = some c) (hy : bitsOf (c.dw 0) 0 16 = 0 ∨ 255 < bitsOf (c.dw 0) 0 16 ∨
    (s.ctl c.ctrl).sqOf (bitsOf (c.dw 0) 0 16) = none) : s.deleteSq slot = s.queueRefused c (cst 0x101) := by
  simp only [State.deleteSq, h]
  exact if_pos (oldQid_missing hy)

/-- A queue without a command in the table goes at once. -/
theorem deleteSq_removes (h : s.adminCmd slot 0 = some c) (h0 : bitsOf (c.dw 0) 0 16 ≠ 0) (h1 : bitsOf (c.dw 0) 0 16 ≤ 255)
    (hy : (s.ctl c.ctrl).sqOf (bitsOf (c.dw 0) 0 16) ≠ none)
    (hn : ∀ d ∈ s.hif.slots, d.ctrl = c.ctrl → d.sq ≠ bitsOf (c.dw 0) 0 16) : s.deleteSq slot =
      ((s.modCtl c.ctrl (fun x => x.modSq (bitsOf (c.dw 0) 0 16) (fun q => { q with tail := q.head }))).modCtl c.ctrl (fun x =>
        { x with sqs := x.sqs.filter (fun q => q.id != bitsOf (c.dw 0) 0 16) })).finishSt slot (cst scOk) := by
  simp -zeta only [State.deleteSq, h]
  extract_lets y mine s1 s2
  have none_mine : ∀ d ∈ s.hif.slots, mine d = false := fun d hd => by simpa [mine] using hn d hd
  have hs2 : s2 = s1 := by
    have : s1.hif.slots.filter (fun d => mine d && d.res.isNone && !d.effect && !d.handed) = [] :=
      List.filter_eq_nil_iff.2 fun d hd => by simp [none_mine d hd]
    unfold s2
    rw [this]
    rfl
  have gone : ¬ s2.hif.slots.any mine = true := by
    rw [hs2, List.any_eq_true]
    exact fun ⟨d, hd, hm⟩ => by simp [none_mine d hd] at hm
  rw [if_neg (oldQid_present h0 h1 hy), if_neg gone, hs2]

end

/-! ### Abort (R334) -/

/-- Aborts of the same controller fetched earlier that have not ended. -/
def State.abortsAhead (s : State) (c : CmdSlot) : Nat :=
  (s.hif.slots.filter (fun d => d.ctrl == c.ctrl && !d.isIo && d.e.opc == 0x08 && d.res.isNone
    && decide (d.stamp < c.stamp))).length

/-- The command in the table that an Abort names. -/
def State.abortTarget (s : State) (slot : Slot) (c : CmdSlot) : Option CmdSlot :=
  s.hif.slots.find? (fun d => d.ctrl == c.ctrl && d.sq == bitsOf (c.dw 0) 0 16 && d.e.cid == bitsOf (c.dw 0) 16 16
    && d.no != slot)

section
variable {s : State} {slot : Slot} {c : CmdSlot}

theorem abortCmd_absent (h : s.adminCmd slot 8 = none) : s.abortCmd slot = s := by simp only [State.abortCmd, h]

variable (h : s.adminCmd slot 8 = some c) (hs : c.started = false)
include h hs

theorem abortCmd_fifth (hn : 4 ≤ s.abortsAhead c) : s.abortCmd slot = s.finishSt slot (cst 0x103) := by
  simp only [State.abortCmd, h, hs, Bool.false_eq_true, if_false]
  exact if_pos hn

variable (hn : s.abortsAhead c < 4)
include hn

theorem abortCmd_aborts {d : CmdSlot} (hd : s.abortTarget slot c = some d) (hr : d.res = none) (hh : d.handed = false)
    (he : d.effect = false) : s.abortCmd slot =
      ((s.freeBufs d.bufs).finishSt d.no (cst scAborted)).finishSt slot (cst scOk) := by
  unfold State.abortTarget at hd
  simp only [State.abortCmd, h, hs, Bool.false_eq_true, if_false, hd]
  refine (if_neg (Nat.not_le.2 hn)).trans (if_pos ?_)
  simp [hr, hh, he]

theorem abortCmd_tooLate {d : CmdSlot} (hd : s.abortTarget slot c = some d)
    (hl : d.res ≠ none ∨ d.handed = true ∨ d.effect = true) : s.abortCmd slot = s.finish slot ⟨cst scOk, 1, 0, []⟩ := by
  unfold State.abortTarget at hd
  simp only [State.abortCmd, h, hs, Bool.false_eq_true, if_false, hd]
  refine (if_neg (Nat.not_le.2 hn)).trans (if_neg ?_)
  rcases hl with hl | hl | hl <;> simp [hl]

theorem abortCmd_noQueue (hd : s.abortTarget slot c = none) (hq : (s.ctl c.ctrl).sqOf (bitsOf (c.dw 0) 0 16) = none) :
    s.abortCmd slot = s.finish slot ⟨cst scOk, 1, 0, []⟩ := by
  unfold State.abortTarget at hd
  simp only [State.abortCmd, h, hs, Bool.false_eq_true, if_false, hd, hq]
  exact if_neg (Nat.not_le.2 hn)

end

/-! ### The features of the queues (R300, R308, R309) -/

section
variable {s : State} {slot : Slot} {c : CmdSlot}

theorem setEnd_unsaved (hv : bitOf (c.dw 0) 31 = false) (r : State → State) : s.setEnd c r = r s := if_neg (by simp [hv])

theorem setNumQueues_absent (h : s.setCmd slot 7 = none) : s.setNumQueues slot = s := by simp only [State.setNumQueues, h]

theorem setNumQueues_answers (h : s.setCmd slot 7 = some c) (hv : bitOf (c.dw 0) 31 = false)
    (hq : (s.ctl c.ctrl).nqAsked = false ∨ (s.ctl c.ctrl).ioMade = false) : s.setNumQueues slot =
      (s.modCtl c.ctrl (fun x => { x with nqAsked := true })).finish slot ⟨cst scOk, 0x00FE00FE, 0, []⟩ := by
  simp only [State.setNumQueues, h, setEnd_unsaved hv]
  exact if_neg (by rcases hq with hq | hq <;> simp [hq])

theorem setOrder_absent (h : s.setCmd slot 0xC1 = none) : s.setOrder slot = s := by simp only [State.setOrder, h]

theorem setOrder_sets (h : s.setCmd slot 0xC1 = some c) (hv : bitOf (c.dw 0) 31 = false) (h0 : bitsOf (c.dw 1) 0 16 ≠ 0)
    (hq : (s.ctl c.ctrl).sqOf (bitsOf (c.dw 1) 0 16) ≠ none) : s.setOrder slot =
      (s.modCtl c.ctrl (fun x => x.modSq (bitsOf (c.dw 1) 0 16) (fun q =>
        { q with ord := addStamp q.ord c.stamp (bitOf (c.dw 1) 16) }))).finishSt slot (cst scOk) := by
  simp only [State.setOrder, h, setEnd_unsaved hv]
  exact if_neg (by simp [h0, hq])

theorem setStamp_absent (h : s.setCmd slot 0xC2 = none) : s.setStamp slot = s := by simp only [State.setStamp, h]

theorem setStamp_sets (h : s.setCmd slot 0xC2 = some c) (hv : bitOf (c.dw 0) 31 = false) : s.setStamp slot =
      (s.modCtl c.ctrl (fun x => { x with stampHist := addStamp x.stampHist c.stamp (bitOf (c.dw 1) 0) })).finishSt slot
        (cst scOk) := by
  simp only [State.setStamp, h, setEnd_unsaved hv]

end

/-- Settles O32: each command ends with its operation, in one of the cases above. -/
theorem queueCommandsComplete : Obligations.QueueCommandsComplete := by
  unfold Obligations.QueueCommandsComplete
  exact ⟨fun s => answers_of_eq rfl commandFetch_noOffer,
    fun o0 o1 s h0 h1 => answers_of_eq rfl (commandFetch_closed o0 o1 h0 h1),
    fun e o1 s h0 h1 => answers_of_eq rfl (commandFetch_first o1 h0 h1 e),
    fun o0 e s h0 h1 => answers_of_eq rfl (commandFetch_second o0 h0 h1 e),
    fun e0 e1 s h0 h1 ht => answers_of_eq rfl (commandFetch_tie_first h0 h1 ht e0 e1),
    fun e0 e1 s h0 h1 ht => answers_of_eq rfl (commandFetch_tie_second h0 h1 ht e0 e1),
    fun n y v s h => answers_of_eq rfl (sqDoorbell_deaf h),
    fun n y v s h => answers_of_eq rfl (cqDoorbell_deaf h),
    fun n y v s he hr hy hq => answers_of_eq rfl (sqDoorbell_noQueue he hr hy hq),
    fun n y v q s he hr hy hq hg hv => answers_of_eq rfl (sqDoorbell_outOfRange he hr hy hq hg hv),
    fun n y v q s he hr hy hq hg hv => answers_of_eq rfl (sqDoorbell_moves he hr hy hq hg hv),
    fun n y v s he hr hy hq => answers_of_eq rfl (cqDoorbell_noQueue he hr hy hq),
    fun n y v q s he hr hy hq hv => answers_of_eq rfl (cqDoorbell_outOfRange he hr hy hq hv),
    fun n y v q s he hr hy hq hv hk => answers_of_eq rfl (cqDoorbell_moves he hr hy hq hv hk),
    fun n info s => rfl,
    fun slot s h => answers_of_eq rfl (cmdPost_empty h),
    fun slot c s hc hr => answers_of_eq rfl (cmdPost_running hc hr),
    fun slot c q s hc hq hf => answers_of_eq rfl (cmdPost_full hc hq hf),
    fun slot c r q z s hc hr hq hz ho hh hf => answers_of_eq rfl (cmdPost_posts hc hr hq hz ho hh hf),
    fun slot s h => answers_of_eq rfl (createCq_absent h),
    fun slot s h => answers_of_eq rfl (createSq_absent h),
    fun slot s h => answers_of_eq rfl (deleteCq_absent h),
    fun slot s h => answers_of_eq rfl (deleteSq_absent h),
    fun slot c s h hy => answers_of_eq rfl (createCq_badQid h hy),
    fun slot c s h h0 h1 hy hq => answers_of_eq rfl (createCq_badSize h h0 h1 hy hq),
    fun slot c s h hy => answers_of_eq rfl (createSq_badQid h hy),
    fun slot c s h h0 h1 hy hq => answers_of_eq rfl (createSq_badSize h h0 h1 hy hq),
    fun slot c s h hy h0 h1 q0 q1 hp hv => answers_of_eq rfl (createCq_makes h hy h0 h1 q0 q1 hp hv),
    fun slot c s h hy h0 h1 q0 q1 hp k0 hk hg => answers_of_eq rfl (createSq_makes h hy h0 h1 q0 q1 hp k0 hk hg),
    fun slot c s h h0 h1 hy hu => answers_of_eq rfl (deleteCq_inUse h h0 h1 hy hu),
    fun slot c s h h0 h1 hy hu => answers_of_eq rfl (deleteCq_removes h h0 h1 hy hu),
    fun slot c s h hy => answers_of_eq rfl (deleteSq_badQid h hy),
    fun slot c s h h0 h1 hy hn => answers_of_eq rfl (deleteSq_removes h h0 h1 hy hn),
    fun slot s h => answers_of_eq rfl (abortCmd_absent h),
    fun slot c s h hs hn => answers_of_eq rfl (abortCmd_fifth h hs hn),
    fun slot c d s h hs hn hd hr hh he => answers_of_eq rfl (abortCmd_aborts h hs hn hd hr hh he),
    fun slot c d s h hs hn hd hl => answers_of_eq rfl (abortCmd_tooLate h hs hn hd hl),
    fun slot c s h hs hn hd hq => answers_of_eq rfl (abortCmd_noQueue h hs hn hd hq),
    fun slot s h => answers_of_eq rfl (setNumQueues_absent h),
    fun slot s h => answers_of_eq rfl (setOrder_absent h),
    fun slot s h => answers_of_eq rfl (setStamp_absent h),
    fun slot c s h hv hq => answers_of_eq rfl (setNumQueues_answers h hv hq),
    fun slot c s h hv h0 hq => answers_of_eq rfl (setOrder_sets h hv h0 hq),
    fun slot c s h hv => answers_of_eq rfl (setStamp_sets h hv)⟩

end Sys2Proof.Machine
end

section
/-!
SUPPORT and settlement. The device modes (R36 to R54, R401): concurrency tiers, triggers and steps of a transition, temperatures,
power states, the spin-up limit and the actuators of a mode, each operation case by case.
-/

namespace Sys2Proof.Machine

open Sys2Proof

/-- Settles O56: the tiers are those of the table of R36, mode by mode. -/
theorem concurrencyTiers : Obligations.ConcurrencyTiers := by
  unfold Obligations.ConcurrencyTiers
  exact ⟨⟨rfl, rfl, rfl, rfl, rfl, rfl, rfl, rfl⟩, rfl, rfl, rfl, rfl⟩

/-! ### Times that have passed -/

theorem passed_of_le {s : State} {t p : Nat} (h : t + p ≤ s.now) : s.passed t p = true := decide_eq_true h

theorem passed_of_lt {s : State} {t p : Nat} (h : s.now < t + p) : s.passed t p = false :=
  decide_eq_false (Nat.not_le.2 h)

/-! ### Triggers (R40) -/

section
variable {s : State}

theorem modeTrigger_policy (hm : s.mode = mPARKED) (hb : s.busy = false) (hr : s.get R.SYS_MODE_REASON = 0x0D) :
    s.modeTrigger .policy = s.retarget 0x06 5 s.now :=
  if_pos ⟨hm, by rw [hb]; rfl, hr⟩

/-- Once the path locks, WORKSHOP is left for PARKED with the spindle stopped, and for IDLE with it turning (log entry 115). -/
theorem modeTrigger_pathLocked (hu : s.flag R.SEC_STAT_HOST_UNLOCKED = false) (hm : s.mode = mWORKSHOP)
    (ht : s.target = mWORKSHOP) {m : Nat} (h : (if s.spnState ≠ 0 then mIDLE else mPARKED) = m) :
    s.modeTrigger .pathLocked = (s.modSys (fun y => { y with opMode := m })).modeGo m 9 4 s.now := by
  subst h
  exact (if_neg (by simp [hu])).trans (if_pos ⟨hm, ht⟩)

/-! ### Steps of a transition (R38) -/

theorem modeStep_ends {p : ModeStep} (hl : s.sys.limp = none) (hp : s.sys.step = some p) (ho : s.stepOver p = true) :
    s.modeStep = (s.modSys (fun y => { y with step := none })).modeRun := by
  simp only [State.modeStep, hl, hp]
  exact if_pos ho

theorem modeStep_without (hl : s.sys.limp = none) (hp : s.sys.step = none) : s.modeStep = s.modeRun := by
  simp only [State.modeStep, hl, hp]

/-- At its target a transition is over. -/
theorem modeAdvance_arrived (hp : s.sys.step = none) (hb : s.busy = true) (ht : s.mode = s.target) (fuel : Nat) :
    s.modeAdvance (fuel + 1) =
      (s.setFlag R.SYS_MODE_STAMP_HI_BUSY false).modSys (fun y => { y with prec := 9, limp := none }) :=
  (if_neg (by simp [hp, hb])).trans (if_pos ht)

/-! ### Temperatures (R44) -/

theorem junctionCmd_reads {tj : Nat} (h : tj ≤ 255) :
    s.junctionCmd tj = State.smartEvents s ((s.set R.SYS_TEMP_TJ tj).tempCheck) := by
  unfold State.junctionCmd State.junctionRead
  rw [show satN tj 255 = tj from Nat.min_eq_left h]

theorem envPoll_unbooted (h : s.sys.booted = false) (l : List (Option Int)) : s.envPoll l = s := if_pos (by simp [h])

theorem envPoll_highest {l : List (Option Int)} {v : Int} {r : List Int} (h : s.sys.booted = true)
    (hg : (s.envReads l).envGood = v :: r) : s.envPoll l =
      (((s.envReads l).setInt R.SYS_TEMP_ENV (r.foldl max v)).setFlag R.SYS_TEMP_ENV_VALID true).tempCheck := by
  refine (if_neg (by simp [h])).trans ?_
  simp only [hg]

theorem envPoll_noReading {l : List (Option Int)} (h : s.sys.booted = true) (hg : (s.envReads l).envGood = []) :
    s.envPoll l = ((s.envReads l).setFlag R.SYS_TEMP_ENV_VALID false).tempCheck := by
  refine (if_neg (by simp [h])).trans ?_
  simp only [hg]

theorem envRead_value {i : Nat} (h : s.envEn i = true) (x : Int) : s.envRead i (some x) = s.modSys (fun y =>
    { y with envMiss := y.envMiss.set i 0, envVal := y.envVal.set i (some (clampI (-128) 127 x, s.now)) }) :=
  if_neg (by simp [h])

/-- The third read without an acknowledge in a row is a fault. -/
theorem envRead_thirdMiss {i : Nat} (h : s.envEn i = true) (hk : s.sys.envMiss[i]? = some 2) : s.envRead i none =
    ((s.modSys (fun y => { y with envMiss := y.envMiss.set i 3 })).ldgProtocol 11 i).fault .sys 0 := by
  refine (if_neg (by simp [h])).trans ?_
  simp only [hk]
  exact if_pos rfl

theorem tempRelease_due {t : Nat} (hc : s.sys.coolAt = some t) (hh : s.flag R.SYS_TEMP_HOT = true)
    (ht : t + 10000000000 ≤ s.now) : s.tempRelease =
      ((s.setFlag R.SYS_TEMP_HOT false).modSys (fun y => { y with capTemp := 0 })).capShow := by
  simp only [State.tempRelease, hc]
  exact if_pos ⟨hh, passed_of_le ht⟩

/-! ### Power states and on-demand service (R45, R46) -/

theorem ondemandTimeout_due (hd : s.sys.onDemand = true) (hs : s.hif.slots = []) (ht : s.sys.lastIo +
    (if s.get R.SYS_MODE_POLICY_ONDEMAND_RET = 0 then 2000000000 else s.get R.SYS_MODE_POLICY_ONDEMAND_RET * 100000000) ≤
      s.now) : s.ondemandTimeout = s.retarget 0x0B 4 s.now :=
  if_pos ⟨hd, passed_of_le ht, by simp [hs]⟩

/-- An idle controller whose table names a later state for the present one takes it. -/
theorem autoPs_due {n t ps : Nat} (he : bitOf (cnt (s.ctl n).feats 0x0C) 0 = true) (hm : s.mode ≠ mWORKSHOP)
    (hg : s.target ≠ mWORKSHOP) (hl : s.limping = false) (hs : s.hif.slots = [])
    (ha : (s.ctl n).apst[s.sys.ps]? = some (t, ps)) (h0 : t ≠ 0) (hp : s.sys.ps < ps) (h3 : ps ≤ 3)
    (ht : s.sys.lastIo + t * 1000000 ≤ s.now) : s.autoPs n = s.setPs ps 3 s.now := by
  refine (if_pos (by simp [he, hm, hg, hl, hs])).trans ?_
  simp only [ha]
  exact if_pos ⟨h0, hp, h3, passed_of_le ht⟩

/-! ### The spin-up limit (R53) -/

theorem State.lifeCount_slots (s : State) (i : Nat) : (s.lifeCount i).hif.slots = s.hif.slots := rfl

theorem State.setBrakePend_hif (s : State) (b : Bool) : (s.setBrakePend b).hif = s.hif := State.setFlag_hif ..

theorem State.spnEnter_hif (s : State) (st : Nat) : (s.spnEnter st).hif = s.hif := by
  unfold State.spnEnter
  extract_lets lim s1 s2
  have h1 : s1.hif = s.hif := (State.modSpn_hif ..).trans (State.set_hif ..)
  have h2 : s2.hif = s.hif := iteInduction (motive := fun t : State => t.hif = s.hif) (fun _ => h1)
    fun _ => (State.setFlag_hif ..).trans h1
  exact iteInduction (motive := fun t : State => t.hif = s.hif) (fun _ => h2) fun _ => (State.setFlag_hif ..).trans h2

/-- Braking touches the spindle alone. -/
theorem State.spnBrake_hif (s : State) : s.spnBrake.hif = s.hif := by
  have pend := s.setBrakePend_hif true
  have coast := (State.modSpn_hif (s.setBrakePend true) fun x => { x with next := some .coast }).trans pend
  have brake := (State.spnEnter_hif (s.setBrakePend true) 5).trans pend
  unfold State.spnBrake
  split
  case h_1 => exact iteInduction (motive := fun t : State => t.hif = s.hif) (fun _ => pend) fun _ => rfl
  case h_2 | h_3 => exact coast
  case h_4 | h_5 => exact brake
  case h_6 => rfl
  case h_7 => exact pend

/-- A spin-up of 25 s is given up; no I/O command being in the table, none ends. -/
theorem spinupTimeout_givesUp (hm : s.mode = mSPINUP) (hl : s.sys.limp = none) (ht : s.sys.spinAt + 25000000000 ≤ s.now)
    (ha : s.flag R.SPN_STAT_AT_SPEED = false) (hs : s.hif.slots = []) : s.spinupTimeout =
      (((((((s.lifeCount 1).spnBrake).modSpn (fun x => { x with retryAt := none })).modSys (fun y =>
        { y with step := none, onDemand := false })).set R.SYS_MODE_TARGET mPARKED).set R.SYS_MODE_REASON 8).setFlag
        R.SYS_MODE_STAMP_HI_BUSY true).modeRun := by
  unfold State.spinupTimeout
  rw [if_pos ⟨hm, by rw [hl]; rfl, passed_of_le ht, by rw [ha]; rfl⟩]
  extract_lets s1 s2 s3
  have none_held : s2.hif.slots = [] := by
    unfold s2 s1
    rw [State.setFlag_hif, State.set_hif, State.set_hif, State.modSys_hif, State.modSpn_hif, State.spnBrake_hif,
      State.lifeCount_slots, hs]
  have none_ends : s3 = s2 := by unfold s3; rw [none_held]; rfl
  rw [none_ends]

/-- A renewed spin-up that has not reached speed 25 s after its alignment fails. -/
theorem spinupTimeout_renewed (hm : s.mode ≠ mSPINUP) (hr : s.spn.renewed = true) (h1 : 1 ≤ s.spnState)
    (h3 : s.spnState ≤ 3) (ht : s.spn.alignAt + 25000000000 ≤ s.now) : s.spinupTimeout =
      (s.spnBrake.fault .spn 2).modSpn (fun x => { x with retryAt := none, renewed := false }) :=
  (if_neg (fun h => hm h.1)).trans (if_pos ⟨hr, .inl ⟨h1, h3⟩, passed_of_le ht⟩)

/-! ### Actuators one by one (R54, R401) -/

theorem nextActuator_early (h : s.now < s.sys.loadAt + 200000000) : s.nextActuator = s :=
  if_pos (by rw [passed_of_lt h]; rfl)

/-- The next actuator of the list, where the target still needs all of them. -/
theorem nextActuator_loads {a : Nat} {r : List Nat} (ht : s.sys.loadAt + 200000000 ≤ s.now)
    (hp : s.sys.step = some (.loads (a :: r))) (hu : ∀ b ∈ a :: r, modeUses s.target b = true) : s.nextActuator =
      (s.actLoad a).modSys (fun y => { y with step := some (.loads r), loadAt := s.now }) := by
  refine (if_neg (by simp [passed_of_le ht])).trans ?_
  simp only [hp, List.filter_eq_self.2 hu]
  rfl

theorem nextActuator_unloads {a : Nat} {r : List Nat} (ht : s.sys.loadAt + 200000000 ≤ s.now)
    (hp : s.sys.step = some (.unloads (a :: r))) (hl : s.sys.limp = none) : s.nextActuator =
      (s.actUnload a).modSys (fun y =>
        { y with step := some (.unloads r), loadAt := s.now, unloadAt := y.unloadAt.set a (some s.now) }) := by
  refine (if_neg (by simp [passed_of_le ht])).trans ?_
  simp only [hp, hl]
  rfl

theorem limpRetract_due {a t : Nat} {l : Bool × Nat} (hl : s.sys.limp = some l) (hu : s.sys.unloadAt[a]? = some (some t))
    (ht : t + 300000000 ≤ s.now) (ha : 2 ≤ s.actState a) : s.limpRetract a =
      (s.actRetract a).modSys (fun y => { y with unloadAt := y.unloadAt.set a none }) := by
  simp only [State.limpRetract, hl, hu]
  exact if_pos ⟨passed_of_le ht, ha⟩

end

/-- Settles O3: each command ends with its operation, in one of the cases above. The mode that WORKSHOP is left for when the
path locks, the precedence of that trigger, and the limit's end of a retry's coast are the model's choices (log entries 115, 92
and 63). -/
theorem modeCommandsComplete : Obligations.ModeCommandsComplete := by
  unfold Obligations.ModeCommandsComplete
  exact ⟨fun s hm hb hr => answers_of_eq rfl (modeTrigger_policy hm hb hr),
    fun s hu hm ht h0 => answers_of_eq rfl (modeTrigger_pathLocked hu hm ht (if_neg (not_not_intro h0))),
    fun s hu hm ht h0 => answers_of_eq rfl (modeTrigger_pathLocked hu hm ht (if_pos h0)),
    fun p s hl hp ho => answers_of_eq rfl (modeStep_ends hl hp ho),
    fun s hl hp => answers_of_eq rfl (modeStep_without hl hp),
    fun s => rfl,
    fun s _ hp hb ht => modeAdvance_arrived hp hb ht 5,
    fun tj s h => answers_of_eq rfl (junctionCmd_reads h),
    fun l s h => answers_of_eq rfl (congrArg (State.smartEvents s) (envPoll_unbooted h l)),
    fun l v r s h hg => answers_of_eq rfl (congrArg (State.smartEvents s) (envPoll_highest h hg)),
    fun l s h hg => answers_of_eq rfl (congrArg (State.smartEvents s) (envPoll_noReading h hg)),
    fun i x s h => envRead_value h x,
    fun i s h hk => envRead_thirdMiss h hk,
    fun t s hc hh ht => answers_of_eq rfl (tempRelease_due hc hh ht),
    fun s hd h0 ht hs => answers_of_eq rfl (ondemandTimeout_due hd hs (by rwa [if_pos h0])),
    fun s hd h0 ht hs => answers_of_eq rfl (ondemandTimeout_due hd hs (by rwa [if_neg h0])),
    fun n t ps s he hm hg hl hs ha h0 hp h3 ht => answers_of_eq rfl (autoPs_due he hm hg hl hs ha h0 hp h3 ht),
    fun s hm hl ht ha hs => answers_of_eq rfl (spinupTimeout_givesUp hm hl ht ha hs),
    fun s hm hr h1 h3 ht => answers_of_eq rfl (spinupTimeout_renewed hm hr h1 h3 ht),
    fun a r s ht hp hu => answers_of_eq rfl (nextActuator_loads ht hp hu),
    fun a r s ht hp hl => answers_of_eq rfl (nextActuator_unloads ht hp hl),
    fun s h => answers_of_eq rfl (nextActuator_early h),
    fun a b t0 t s hl hu ht ha => answers_of_eq rfl (limpRetract_due hl hu ht ha)⟩

end Sys2Proof.Machine
end

section
/-!
SUPPORT and settlement. Controllers and ports (R52, R290, R291, R296, R297, R330, R331, R332, R468): enable, resets, links and
shutdown, each operation case by case.
-/

namespace Sys2Proof.Machine

open Sys2Proof

section
variable {s : State} {n cc : Nat}

/-! ### Enable (R52, R296) -/

theorem ctlEnable_absent (h : s.ctlExists n = false) (aqa : Nat) : s.ctlEnable n cc aqa = s := if_pos (by simp [h])

theorem ctlReady_boot (h : s.get R.SYS_MODE_MODE = 0) : s.ctlReady n = s := by
  have boot : s.mode = mBOOT := h
  exact if_neg (by simp [boot])

/-- Outside BOOT an enabled controller that is in no reset sets RDY. -/
theorem ctlReady_waiting (hw : (s.ctl n).enWait = true) (hm : s.get R.SYS_MODE_MODE ≠ 0) (hr : (s.ctl n).resetAt = none) :
    s.ctlReady n = (s.modCtl n (fun x => { x with rdy := true, enWait := false })).hifShow := by
  have noBoot : s.mode ≠ mBOOT := hm
  exact if_pos (by simp [hw, noBoot, hr])

section
variable (he : s.ctlExists n = true) (hs : s.flt.safeStop = false) (h0 : bitOf (s.ctl n).cc 0 = false)
  (h1 : bitOf cc 0 = true) (aqa : Nat)
include he hs h0 h1

theorem ctlEnable_badCc (hc : ccOk cc = false) : s.ctlEnable n cc aqa =
    ((s.modCtl n (fun x => { x with cc := cc, cfs := true })).ldgProtocol 1 n).hifShow :=
  (if_neg (by simp [he, hs, h0, h1])).trans (if_pos (by rw [hc]; rfl))

theorem ctlEnable_takesAqa (h6 : bitsOf cc 16 4 = 6) (h4 : bitsOf cc 20 4 = 4) (hp : bitsOf cc 7 4 = 0) :
    s.ctlEnable n cc aqa = ((s.modCtl n (fun x => { x with
      cc := cc, enWait := true, shst := 0, shut := none, sqs := [⟨0, bitsOf aqa 0 12 + 1, 0, 0, 0, []⟩]
      cqs := [⟨0, bitsOf aqa 16 12 + 1, 0, [], true, 0⟩] })).ctlReady n).hifShow :=
  (if_neg (by simp [he, hs, h0, h1])).trans (if_neg (by simp [ccOk, h6, h4, hp]))

end

/-! ### Resets (R291, R331, R332) -/

theorem ctlDisable_absent (h : s.ctlExists n = false) : s.ctlDisable n cc = s := if_neg (by simp [h])

theorem ctlDisable_disabled (h : bitOf (s.ctl n).cc 0 = false) : s.ctlDisable n cc = s := if_neg (by simp [h])

theorem ctlDisable_resets (he : s.ctlExists n = true) (h1 : bitOf (s.ctl n).cc 0 = true) (h0 : bitOf cc 0 = false) :
    s.ctlDisable n cc = s.ctlReset n cc :=
  if_pos (by simp [he, h1, h0])

/-- No transfer to the controller's host is under way. -/
theorem no_toHost_iff : (List.range 4).all (fun e => !(s.eng e).toHost n) = true ↔ ∀ e, e < 4 → (s.eng e).toHost n = false := by
  simp only [List.all_eq_true, List.mem_range, Bool.not_eq_true']

theorem ctlResetDone_waits (h : (s.ctl n).resetAt = none ∨ s.slotsOf n ≠ 0 ∨ ∃ e, e < 4 ∧ (s.eng e).toHost n = true) :
    s.ctlResetDone n = s := by
  refine if_neg fun hd => ?_
  simp only [Bool.and_eq_true, no_toHost_iff, Option.isSome_iff_ne_none, beq_iff_eq] at hd
  obtain ⟨⟨reset, noSlot⟩, noTransfer⟩ := hd
  rcases h with h | h | ⟨e, he, h⟩
  · exact reset h
  · exact h noSlot
  · exact absurd h (by simp [noTransfer e he])

theorem ctlResetDone_ends (hr : (s.ctl n).resetAt ≠ none) (hs : s.slotsOf n = 0)
    (hx : ∀ e, e < 4 → (s.eng e).toHost n = false) : s.ctlResetDone n =
      ((s.modCtl n (fun x => { x with rdy := false, resetAt := none })).ctlReady n).hifShow := by
  refine if_pos ?_
  simp only [Bool.and_eq_true, no_toHost_iff, Option.isSome_iff_ne_none, beq_iff_eq]
  exact ⟨⟨hr, hs⟩, hx⟩

theorem portReset_absent (h : s.ctlExists n = false) (kind : PortReset) : s.portReset n kind = s := if_pos (by simp [h])

theorem portReset_flr (h : s.ctlExists n = true) : s.portReset n .flr = (s.fault .hif n).ctlReset n 0 := if_neg (by simp [h])

/-- Every other port event takes the link down. -/
theorem portReset_linkDown (h : s.ctlExists n = true) {kind : PortReset} (hk : kind ≠ .flr) : s.portReset n kind =
    (((((s.fault .hif n).setFlag (R.HIF_LINK_UP n) false).set (R.HIF_LINK_SPEED n) 0).set (R.HIF_LINK_WIDTH n) 0).modHif
      (fun h => { h with training := h.training.set n false })).ctlReset n 0 := by
  unfold State.portReset
  rw [if_neg (by simp [h])]
  extract_lets s1 s2
  exact congrArg (fun t : State => t.ctlReset n 0) (if_neg hk)

theorem subsystemReset_otherKey {v : Nat} (h : v ≠ 0x4E564D65) : s.subsystemReset v = s := if_pos h

theorem subsystemReset_key {v : Nat} (h : v = 0x4E564D65) : s.subsystemReset v =
    ((s.ctlsHere.foldl (fun (t : State) n => t.ctlReset n 0) s).modHif (fun h => { h with
      nss := h.nss.map (fun n => if n.resv.ptpl then n else { n with resv := ⟨[], none, 0, 0, false⟩ }) })).pathLock 0 :=
  if_neg (not_not_intro h)

/-! ### Links (R290, R291, R468) -/

theorem perstLow_absent (h : s.ctlExists n = false) : s.perstLow n = s := if_neg (by simp [h])

theorem perstLow_resets (h : s.ctlExists n = true) : s.perstLow n = (s.perst n false).portReset n .linkDown := if_pos h

theorem linkTraining_absent (h : s.ctlExists n = false) : s.linkTraining n = s := if_neg (by simp [h])

theorem linkTraining_starts (he : s.ctlExists n = true) (hp : bitOf (s.get R.SYS_PWR_STAT_PD) 3 = true)
    (ht : 200000 ≤ s.now) (hu : s.flag (R.HIF_LINK_UP n) = false) : s.linkTraining n =
      (s.perst n true).modHif (fun h => { h with training := h.training.set n true }) :=
  if_pos (by simp [he, hp, ht, hu])

theorem linkTraining_barred (h : bitOf (s.get R.SYS_PWR_STAT_PD) 3 = false ∨ s.now < 200000 ∨
    s.flag (R.HIF_LINK_UP n) = true) : s.linkTraining n = s :=
  if_neg (by rcases h with h | h | h <;> simp [h])

section
variable {speed width : Nat} (k : Nat)

theorem linkUp_absent (h : s.ctlExists n = false) : s.linkUp n speed width k = s := if_pos (by simp [h])

theorem linkUp_untrained (ht : s.hif.training[n]? = some false) (hu : s.flag (R.HIF_LINK_UP n) = false) :
    s.linkUp n speed width k = s :=
  if_pos (by simp [ht, hu])

/-- A port that trains comes up at a width that its lanes allow. -/
theorem linkUp_trained (he : s.ctlExists n = true) (ht : s.hif.training[n]? = some true) (hv : speed ≠ 0)
    (hw : width = 1 ∨ width = 2 ∨ width = 4 ∨ (s.flag R.HIF_CFG_X8 = true ∧ width = 8)) : s.linkUp n speed width k =
      (((((s.setFlag (R.HIF_LINK_UP n) true).set (R.HIF_LINK_SPEED n) speed).set (R.HIF_LINK_WIDTH n) width).bump
        (R.HIF_LINK_RETRAIN n) k).setFlag (R.HIF_LINK_DEGRADED n)
          (decide (speed < 3) || decide (width < if s.flag R.HIF_CFG_X8 then 8 else 4))).modHif
            (fun h => { h with training := h.training.set n false }) := by
  have allowed : (width == 1 || width == 2 || width == 4 || (s.flag R.HIF_CFG_X8 && width == 8)) = true := by
    simpa [or_assoc] using hw
  exact if_neg (by simp [he, ht, hv, allowed])

end

theorem aerUncorrectable_absent (h : s.ctlExists n = false) : s.aerUncorrectable n = s := if_neg (by simp [h])

theorem aerUncorrectable_faults (h : s.ctlExists n = true) : s.aerUncorrectable n = s.fault .hif (2 + n) := if_pos h

/-! ### Shutdown (R297, R330) -/

theorem shutdown_absent (h : s.ctlExists n = false) : s.shutdown n cc = s := if_pos (by simp [h])

theorem shutdown_unasked (h : bitsOf cc 14 2 = 0 ∨ bitsOf cc 14 2 = 3 ∨ (s.ctl n).shst ≠ 0) : s.shutdown n cc = s :=
  if_pos (by rcases h with h | h | h <;> simp [h])

theorem shutdown_starts (he : s.ctlExists n = true) (h1 : bitOf (s.ctl n).cc 0 = true) (hc : bitOf cc 0 = true)
    (hn : bitsOf cc 14 2 = 1 ∨ bitsOf cc 14 2 = 2) (hs : (s.ctl n).shst = 0) : s.shutdown n cc =
      ((s.modCtl n (fun x => { x with cc := cc, shst := 1, shut := some (s.now, bitsOf cc 14 2 == 2) })).modHif
        (fun h => { h with destaging := h.destaging || !h.cache.isEmpty })).hifShow :=
  if_neg (by rcases hn with hn | hn <;> simp [he, h1, hc, hn, hs])

theorem shutdownDone_none (h : (s.ctl n).shut = none) : s.shutdownDone n = s := by simp only [State.shutdownDone, h]

section
variable {t : Nat} {b : Bool} (h : (s.ctl n).shut = some (t, b))
include h

theorem shutdownDone_waits (hw : s.flying n = true ∨ ∃ x ∈ s.hif.cache, x.first < t) : s.shutdownDone n = s := by
  simp only [State.shutdownDone, h]
  exact if_pos (by simpa using hw)

theorem shutdownDone_ends (hf : s.flying n = false) (hc : ∀ x ∈ s.hif.cache, t ≤ x.first) :
    s.shutdownDone n = s.shutdownEnd n := by
  simp only [State.shutdownDone, h]
  exact if_neg (by simpa [hf] using hc)

/-- Only an abrupt shutdown has a limit, of 2 s. -/
theorem abruptTimeout_early (hb : b = false ∨ s.now < t + 2000000000) : s.abruptTimeout n = s := by
  unfold State.abruptTimeout
  rw [h]
  cases b with
  | false => rfl
  | true => exact if_neg (by simp [passed_of_lt (hb.resolve_left (by simp))])

end

theorem abruptTimeout_none (h : (s.ctl n).shut = none) : s.abruptTimeout n = s := by simp only [State.abruptTimeout, h]

theorem abruptTimeout_due {t : Nat} (h : (s.ctl n).shut = some (t, true)) (ht : t + 2000000000 ≤ s.now) :
    s.abruptTimeout n = (((s.failWaiting t).loseCache t 5).flushCheck).shutdownDone n := by
  simp only [State.abruptTimeout, h]
  exact if_pos (passed_of_le ht)

/-- While a controller has not ended its shutdown the device stays in its mode. -/
theorem shutdownEnd_notLast (h : ((s.modCtl n (fun x => { x with shst := 2, shut := none })).hifShow).ctlsHere.all (fun k =>
    (((s.modCtl n (fun x => { x with shst := 2, shut := none })).hifShow).ctl k).shst == 2) = false) :
    s.shutdownEnd n = (s.modCtl n (fun x => { x with shst := 2, shut := none })).hifShow :=
  if_neg (by rw [h]; exact Bool.false_ne_true)

end

/-- Settles O31: each command ends with its operation, in one of the cases above. -/
theorem linkAndControllerCommandsComplete : Obligations.LinkAndControllerCommandsComplete := by
  unfold Obligations.LinkAndControllerCommandsComplete
  exact ⟨fun n cc aqa s h => answers_of_eq rfl (ctlEnable_absent h _),
    fun n cc s h => answers_of_eq rfl (ctlDisable_absent h),
    fun n kind s h => answers_of_eq rfl (portReset_absent h kind),
    fun n s h => answers_of_eq rfl (perstLow_absent h),
    fun n s h => answers_of_eq rfl (linkTraining_absent h),
    fun n speed width k s h => answers_of_eq rfl (linkUp_absent k h),
    fun n s h => answers_of_eq rfl (aerUncorrectable_absent h),
    fun n cc s h => answers_of_eq rfl (shutdown_absent h),
    fun n cc aqa s he hs h0 h1 hc => answers_of_eq rfl (ctlEnable_badCc he hs h0 h1 _ hc),
    fun n cc aqa s he hs h0 h1 h6 h4 hp => answers_of_eq rfl (ctlEnable_takesAqa he hs h0 h1 _ h6 h4 hp),
    fun n s hw hm hr => ctlReady_waiting hw hm hr,
    fun n s h => ctlReady_boot h,
    fun n cc s he h1 h0 => answers_of_eq rfl (ctlDisable_resets he h1 h0),
    fun n cc s h => answers_of_eq rfl (ctlDisable_disabled h),
    fun n s h => answers_of_eq rfl (ctlResetDone_waits h),
    fun n s hr hs hx => answers_of_eq rfl (ctlResetDone_ends hr hs hx),
    fun n s h => answers_of_eq rfl (portReset_flr h),
    fun n kind s h hk => answers_of_eq rfl (portReset_linkDown h hk),
    fun n s h => answers_of_eq rfl (perstLow_resets h),
    fun n s he hp ht hu => answers_of_eq rfl (linkTraining_starts he hp ht hu),
    fun n s h => answers_of_eq rfl (linkTraining_barred h),
    fun n speed width k s he ht hv hw => answers_of_eq rfl (linkUp_trained k he ht hv hw),
    fun n speed width k s ht hu => answers_of_eq rfl (linkUp_untrained k ht hu),
    fun n s h => answers_of_eq rfl (aerUncorrectable_faults h),
    fun n cc s he h1 hc hn hs => answers_of_eq rfl (shutdown_starts he h1 hc hn hs),
    fun n cc s h => answers_of_eq rfl (shutdown_unasked h),
    fun n s h => answers_of_eq rfl (shutdownDone_none h),
    fun n t b s h hw => answers_of_eq rfl (shutdownDone_waits h hw),
    fun n t b s h hf hc => answers_of_eq rfl (shutdownDone_ends h hf hc),
    fun n s h => shutdownEnd_notLast h,
    fun n t s h ht => answers_of_eq rfl (abruptTimeout_due h ht),
    fun n s h => answers_of_eq rfl (abruptTimeout_none h),
    fun n t b s h hb => answers_of_eq rfl (abruptTimeout_early h hb),
    fun n v s h => answers_of_eq rfl (subsystemReset_otherKey h),
    fun n v s h => answers_of_eq rfl (subsystemReset_key h)⟩

end Sys2Proof.Machine
end

section
/-!
SUPPORT and settlement. Features and asynchronous event requests (R37, R41, R45, R306 to R308, R313, R356): each operation case by
case.
-/

namespace Sys2Proof.Machine

open Sys2Proof

section
variable {s : State} {slot : Slot} {c : CmdSlot}

/-! ### Set Features (R306) -/

theorem setEnd_saved (hv : bitOf (c.dw 0) 31 = true) (r : State → State) : s.setEnd c r = s.finishSt c.no (cst 0x10D) :=
  if_pos hv

theorem adminXfer_good {x : Xfer} (h : x.dptr = 0) (go : State → State) : s.adminXfer c x go = go s :=
  (if_neg (by simp [h])).trans (if_neg (by simp [h]))

theorem setFeatures_absent (h : s.adminCmd slot 9 = none) (x : Xfer) : s.setFeatures slot x = s := by
  simp only [State.setFeatures, h]

section
variable (h : s.adminCmd slot 9 = some c) {x : Xfer}
include h

theorem setFeatures_unknown (hf : isFeature c.fid = false) : s.setFeatures slot x = s.finishSt slot (cst scField) := by
  simp only [State.setFeatures, h]
  exact if_pos (by rw [hf]; rfl)

variable (hx : x.dptr = 0) (hv : bitOf (c.dw 0) 31 = false)
include hx hv

/-- Arbitration keeps the low 3 bits of its Dword, Interrupt Coalescing the low 16. -/
theorem setFeatures_stores {f w : Nat} (hf : c.fid = f) (hw : (f = 0x01 ∧ w = 3) ∨ (f = 0x08 ∧ w = 16)) :
    s.setFeatures slot x = (s.setFeat c.ctrl f (bitsOf (c.dw 1) 0 w)).finishSt slot (cst scOk) := by
  rcases hw with ⟨rfl, rfl⟩ | ⟨rfl, rfl⟩
  all_goals
    simp only [State.setFeatures, h, hf]
    refine (if_neg (by decide)).trans ((if_neg (by decide)).trans ?_)
    rw [setEnd_unsaved hv, adminXfer_good hx]

/-- The write cache stays enabled: feature 0x06 is not changeable. -/
theorem setFeatures_writeCache (hf : c.fid = 0x06) : s.setFeatures slot x = s.finishSt slot (cst 0x10E) := by
  simp only [State.setFeatures, h, hf]
  refine (if_neg (by decide)).trans ((if_neg (by decide)).trans ?_)
  rw [setEnd_unsaved hv, adminXfer_good hx]

end

/-! ### Get Features (R306) -/

theorem getFeatures_absent (h : s.adminCmd slot 10 = none) (x : Xfer) : s.getFeatures slot x = s := by
  simp only [State.getFeatures, h]

section
variable (h : s.adminCmd slot 10 = some c) (x : Xfer)
include h

theorem getFeatures_unknown (hm : c.fid ≠ 0xC0) (hf : isFeature c.fid = false ∨ 3 < bitsOf (c.dw 0) 8 3) :
    s.getFeatures slot x = s.finishSt slot (cst scField) := by
  simp only [State.getFeatures, h]
  exact (if_neg hm).trans (if_pos (by rcases hf with hf | hf <;> simp [hf]))

theorem getFeatures_arbitration_current (hf : c.fid = 0x01) (hs : bitsOf (c.dw 0) 8 3 = 0) :
    s.getFeatures slot x = s.finish slot ⟨cst scOk, cnt (s.ctl c.ctrl).feats 1, 0, []⟩ := by
  have dword : s.featDw c true = cnt (s.ctl c.ctrl).feats 1 := by simp [State.featDw, hf]
  have noData : s.featData c true = [] := by simp [State.featData, hf]
  simp [State.getFeatures, h, hf, hs, isFeature, dword, noData]

theorem getFeatures_arbitration_supported (hf : c.fid = 0x01) (hs : bitsOf (c.dw 0) 8 3 = 3) :
    s.getFeatures slot x = s.finish slot ⟨cst scOk, 4, 0, []⟩ := by
  simp [State.getFeatures, h, hf, hs, isFeature]

end

/-! ### Power Management and Spinup Control (R45, R307) -/

theorem setPower_absent (h : s.setCmd slot 2 = none) : s.setPower slot = s := by simp only [State.setPower, h]

theorem setSpinup_absent (h : s.setCmd slot 0x1A = none) : s.setSpinup slot = s := by simp only [State.setSpinup, h]

theorem setPower_saved (h : s.setCmd slot 2 = some c) (hv : bitOf (c.dw 0) 31 = true) :
    s.setPower slot = s.finishSt c.no (cst 0x10D) := by
  simp only [State.setPower, h, setEnd_saved hv]

theorem setSpinup_saved (h : s.setCmd slot 0x1A = some c) (hv : bitOf (c.dw 0) 31 = true) :
    s.setSpinup slot = s.finishSt c.no (cst 0x10D) := by
  simp only [State.setSpinup, h, setEnd_saved hv]

theorem setSpinup_sets (h : s.setCmd slot 0x1A = some c) (hv : bitOf (c.dw 0) 31 = false) :
    s.setSpinup slot = (s.setFlag R.SYS_MODE_AUTOSPIN (!bitOf (c.dw 1) 0)).finishSt slot (cst scOk) := by
  simp only [State.setSpinup, h, setEnd_unsaved hv]

section
variable (h : s.setCmd slot 2 = some c) (hv : bitOf (c.dw 0) 31 = false)
include h hv

theorem setPower_workshop (hw : s.get R.SYS_MODE_MODE = 11 ∨ s.get R.SYS_MODE_TARGET = 11) :
    s.setPower slot = s.finishSt slot stMode := by
  simp only [State.setPower, h, setEnd_unsaved hv]
  exact if_pos hw

variable (hm : s.get R.SYS_MODE_MODE ≠ 11) (ht : s.get R.SYS_MODE_TARGET ≠ 11)
include hm ht

theorem setPower_noState (hp : 3 < bitsOf (c.dw 1) 0 5) : s.setPower slot = s.finishSt slot (cst scField) := by
  simp only [State.setPower, h, setEnd_unsaved hv]
  exact (if_neg (not_or.2 ⟨hm, ht⟩)).trans (if_pos hp)

theorem setPower_sets (hp : bitsOf (c.dw 1) 0 5 ≤ 3) :
    s.setPower slot = (s.setPs (bitsOf (c.dw 1) 0 5) 2 c.stamp).finishSt slot (cst scOk) := by
  simp only [State.setPower, h, setEnd_unsaved hv]
  exact (if_neg (not_or.2 ⟨hm, ht⟩)).trans (if_neg (Nat.not_lt.2 hp))

end

/-! ### Device Mode (R41) -/

theorem setMode_absent (h : s.setCmd slot 0xC0 = none) : s.setMode slot = s := by simp only [State.setMode, h]

section
variable (h : s.setCmd slot 0xC0 = some c)
include h

theorem setMode_saved (hv : bitOf (c.dw 0) 31 = true) : s.setMode slot = s.finishSt c.no (cst 0x10D) := by
  simp only [State.setMode, h, setEnd_saved hv]

variable (hv : bitOf (c.dw 0) 31 = false)
include hv

theorem setMode_refused (hk : bitOf (c.dw 1) 9 = false) {st : Cst} (hc : s.modeCheck (bitsOf (c.dw 1) 0 4) = some st) :
    s.setMode slot = s.finishSt slot st := by
  simp only [State.setMode, h, setEnd_unsaved hv, hk, hc, Bool.false_eq_true, if_false]

theorem setMode_requests (hk : bitOf (c.dw 1) 9 = false) (hc : s.modeCheck (bitsOf (c.dw 1) 0 4) = none) :
    s.setMode slot = ((s.setFlag R.SYS_MODE_AUTOSPIN (bitOf (c.dw 1) 8)).modeRequest (bitsOf (c.dw 1) 0 4)
      c.stamp).finishSt slot (cst scOk) := by
  simp only [State.setMode, h, setEnd_unsaved hv, hk, hc, Bool.false_eq_true, if_false]

/-- With KEEP set the mode stays and AUTOSPIN follows. -/
theorem setMode_keeps (hk : bitOf (c.dw 1) 9 = true) (hl : s.limping = false) :
    s.setMode slot = (s.setFlag R.SYS_MODE_AUTOSPIN (bitOf (c.dw 1) 8)).finishSt slot (cst scOk) := by
  simp only [State.setMode, h, setEnd_unsaved hv, hk, hl, Bool.false_eq_true, if_true, if_false]

theorem setMode_keeps_limp (hk : bitOf (c.dw 1) 9 = true) (hl : s.limping = true) :
    s.setMode slot = s.finishSt slot stMode := by
  simp only [State.setMode, h, setEnd_unsaved hv, hk, hl, if_true]

end

theorem getMode_absent (h : s.adminCmd slot 10 = none) : s.getMode slot = s := by simp only [State.getMode, h]

theorem getMode_current (h : s.adminCmd slot 10 = some c) (hf : c.fid = 0xC0) (hs : bitsOf (c.dw 0) 8 3 = 0) :
    s.getMode slot = s.finish slot ⟨cst scOk, bitsOf (s.rd R.A_SYS_MODE).toNat 0 12, 0, []⟩ := by
  simp only [State.getMode, h]
  exact (if_neg (not_not_intro hf)).trans (if_pos hs)

theorem getMode_noSelection (h : s.adminCmd slot 10 = some c) (hf : c.fid = 0xC0) (hs : 3 < bitsOf (c.dw 0) 8 3) :
    s.getMode slot = s.finishSt slot (cst scField) := by
  simp only [State.getMode, h]
  rw [if_neg (not_not_intro hf), if_neg (by omega), if_neg (by omega), if_neg (by omega)]

/-! ### Packed Compression Level (R356) -/

theorem setLevel_absent (h : s.setCmd slot 0xC3 = none) : s.setLevel slot = s := by simp only [State.setLevel, h]

section
variable (h : s.setCmd slot 0xC3 = some c)
include h

theorem setLevel_saved (hv : bitOf (c.dw 0) 31 = true) : s.setLevel slot = s.finishSt c.no (cst 0x10D) := by
  simp only [State.setLevel, h, setEnd_saved hv]

variable (hv : bitOf (c.dw 0) 31 = false)
include hv

theorem setLevel_notPacked (hn : s.packedNs c = none) : s.setLevel slot = s.finishSt slot (cst scNs) := by
  simp only [State.setLevel, h, setEnd_unsaved hv, hn]

variable {n : NsSt} (hn : s.packedNs c = some n)
include hn

theorem setLevel_noLevel (hl : 9 ≤ bitsOf (c.dw 1) 0 4) : s.setLevel slot = s.finishSt slot (cst scField) := by
  simp only [State.setLevel, h, setEnd_unsaved hv, hn]
  exact if_pos hl

theorem setLevel_sets (hl : bitsOf (c.dw 1) 0 4 ≤ 8) : s.setLevel slot =
    (s.modNs n.id (fun y => { y with lvl := addStamp y.lvl c.stamp (bitsOf (c.dw 1) 0 4) })).finishSt slot (cst scOk) := by
  simp only [State.setLevel, h, setEnd_unsaved hv, hn]
  exact if_neg (by omega)

end

/-! ### Asynchronous Event Request (R313) -/

/-- Event requests of the same controller that wait. -/
def State.eventsAwaited (s : State) (c : CmdSlot) : Nat :=
  (s.hif.slots.filter (fun d => d.ctrl == c.ctrl && !d.isIo && d.e.opc == 0x0C && d.res.isNone && d.started)).length

theorem asyncReq_absent (h : s.adminCmd slot 12 = none) : s.asyncReq slot = s := by simp only [State.asyncReq, h]

section
variable (h : s.adminCmd slot 12 = some c) (hs : c.started = false)
include h hs

theorem asyncReq_fifth (hn : 4 ≤ s.eventsAwaited c) : s.asyncReq slot = s.finishSt slot (cst 0x105) := by
  simp only [State.asyncReq, h, hs, Bool.false_eq_true, if_false]
  exact if_pos hn

variable (hn : s.eventsAwaited c ≤ 3)
include hn

theorem asyncReq_waits (he : (s.ctl c.ctrl).events = []) :
    s.asyncReq slot = s.modCmd slot (fun x => { x with started := true }) := by
  simp only [State.asyncReq, h, hs, he, Bool.false_eq_true, if_false]
  exact if_neg (Nat.not_le.2 (Nat.lt_succ_of_le hn))

theorem asyncReq_takes {e : AsyncEv} {r : List AsyncEv} (he : (s.ctl c.ctrl).events = e :: r) : s.asyncReq slot =
    (s.modCtl c.ctrl (fun x => { x with events := r })).finish slot
      ⟨cst scOk, e.ty + 2 ^ 8 * e.info + 2 ^ 16 * e.page, 0, []⟩ := by
  simp only [State.asyncReq, h, hs, he, Bool.false_eq_true, if_false]
  exact if_neg (Nat.not_le.2 (Nat.lt_succ_of_le hn))

end

end

/-- Settles O33: each command ends with its operation, in one of the cases above. That KEEP in LIMP ends with Mode Conflict
and that the identifier is judged before SV are the model's choices (log entry 52). -/
theorem featureCommandsComplete : Obligations.FeatureCommandsComplete := by
  unfold Obligations.FeatureCommandsComplete
  exact ⟨fun slot s h => answers_of_eq rfl (setPower_absent h),
    fun slot c s h hv => answers_of_eq rfl (setPower_saved h hv),
    fun slot s h => answers_of_eq rfl (setSpinup_absent h),
    fun slot c s h hv => answers_of_eq rfl (setSpinup_saved h hv),
    fun slot s h => answers_of_eq rfl (setMode_absent h),
    fun slot c s h hv => answers_of_eq rfl (setMode_saved h hv),
    fun slot s h => answers_of_eq rfl (setLevel_absent h),
    fun slot c s h hv => answers_of_eq rfl (setLevel_saved h hv),
    fun slot x s h => answers_of_eq rfl (setFeatures_absent h x),
    fun slot x s h => answers_of_eq rfl (getFeatures_absent h x),
    fun slot x c s h hf => answers_of_eq rfl (setFeatures_unknown h hf),
    fun slot x c s h hf hx hv => answers_of_eq rfl (setFeatures_stores h hx hv hf (.inl ⟨rfl, rfl⟩)),
    fun slot x c s h hf hx hv => answers_of_eq rfl (setFeatures_stores h hx hv hf (.inr ⟨rfl, rfl⟩)),
    fun slot x c s h hf hx hv => answers_of_eq rfl (setFeatures_writeCache h hx hv hf),
    fun slot x c s h hm hf => answers_of_eq rfl (getFeatures_unknown h x hm hf),
    fun slot x c s h hf hs => answers_of_eq rfl (getFeatures_arbitration_current h x hf hs),
    fun slot x c s h hf hs => answers_of_eq rfl (getFeatures_arbitration_supported h x hf hs),
    fun slot c s h hv hw => answers_of_eq rfl (setPower_workshop h hv hw),
    fun slot c s h hv hm ht hp => answers_of_eq rfl (setPower_noState h hv hm ht hp),
    fun slot c s h hv hm ht hp => answers_of_eq rfl (setPower_sets h hv hm ht hp),
    fun slot c s h hv => answers_of_eq rfl (setSpinup_sets h hv),
    fun slot c st s h hv hk hc => answers_of_eq rfl (setMode_refused h hv hk hc),
    fun slot c s h hv hk hc => answers_of_eq rfl (setMode_requests h hv hk hc),
    fun slot c s h hv hk hl => answers_of_eq rfl (setMode_keeps h hv hk hl),
    fun slot c s h hv hk hl => answers_of_eq rfl (setMode_keeps_limp h hv hk hl),
    fun slot s h => answers_of_eq rfl (getMode_absent h),
    fun slot c s h hf hs => answers_of_eq rfl (getMode_current h hf hs),
    fun slot c s h hf hs => answers_of_eq rfl (getMode_noSelection h hf hs),
    fun slot c s h hv hn => answers_of_eq rfl (setLevel_notPacked h hv hn),
    fun slot c n s h hv hn hl => answers_of_eq rfl (setLevel_noLevel h hv hn hl),
    fun slot c n s h hv hn hl => answers_of_eq rfl (setLevel_sets h hv hn hl),
    fun slot s h => answers_of_eq rfl (asyncReq_absent h),
    fun slot c s h hs hn => answers_of_eq rfl (asyncReq_fifth h hs hn),
    fun slot c s h hs hn he => answers_of_eq rfl (asyncReq_waits h hs hn he),
    fun slot c e r s h hs hn he => answers_of_eq rfl (asyncReq_takes h hs hn he)⟩

end Sys2Proof.Machine
end

section
/-!
SUPPORT and settlement. The Tether (R59 to R80): its control register, the start and end of acquisition, reference requests,
frames, loss and the clock switch, each operation case by case.
-/

namespace Sys2Proof.Machine

open Sys2Proof

section
variable {s : State}

/-! ### Writes of TTH_CTRL (Table 3-8) -/

/-- A write that TTH_CTRL takes is stored and followed. -/
theorem regCmd_tthCtrl {p : Path} {v : Word} (h : s.takes p R.A_TTH_CTRL v = true) : s.regCmd p R.A_TTH_CTRL v =
    (s.storeReg p R.A_TTH_CTRL v).tthCtrl (s.rd R.A_TTH_CTRL).toNat v.toNat :=
  regCmd_plain s p R.A_TTH_CTRL v h rfl (by decide) (by decide) (by decide) (by decide) (by decide) (by decide)

/-! ### Start and end of acquisition (Table 3-2, R69, R80) -/

section
variable (h0 : s.tthState = 0) (he : s.flag R.TTH_CTRL_EN = true) (hp : bitOf (s.get R.SYS_PWR_STAT_PD) 6 = true)
include h0 he hp

theorem tthStart_search (hw : s.flag R.TTH_CTRL_WEDGE = false) :
    s.tthStart = (s.set R.TTH_STAT_STATE 1).modTth (fun t => { t with goodRun := 0 }) :=
  (if_pos ⟨h0, he, hp⟩).trans (if_neg (by simp [hw]))

theorem tthStart_wedge (hw : s.flag R.TTH_CTRL_WEDGE = true) (ht : s.spnState ≠ 0) :
    s.tthStart = (s.set R.TTH_STAT_STATE 5).modTth (fun t =>
      { t with head := none, unloaded := true, marks := 0, missed := 0, pllHz := clockOfSpeed s.spn.obsSpeed }) :=
  have turns : s.spnTurns = true := bne_iff_ne.2 ht
  ((if_pos ⟨h0, he, hp⟩).trans (if_pos hw)).trans (if_pos turns)

end

section
variable (hl : s.tth.lossTo = none)
include hl

theorem tthDisable_unlocked (hk : s.tthLocked = false) : s.tthDisable = s.tthOff := by
  simp only [State.tthDisable, hl, hk, Bool.false_eq_true, if_false]

/-- In lock the end of EN is a loss that sets no fault and ends in OFF. -/
theorem tthDisable_locked (hk : s.tthLocked = true) : s.tthDisable = (((s.sourceOnHeads allHeads 0).set64
    R.A_TTH_LOSS_STAMP_LO s.now).modTth (fun t =>
      { t with lossTo := some (0, s.now), acqFrom := some s.now, select := none })).headsUnlock := by
  simp only [State.tthDisable, hl, hk, if_true]
  exact if_pos ⟨hk, by rw [hl]; rfl⟩

/-! ### Requests of an input (R68) -/

theorem tthSelect_waits {i : Nat} (hi : i < 2) (hs : s.tthState = 4) (ha : s.refActive ≠ i) :
    s.tthSelect (i + 1) = s.modTth (fun t => { t with select := some i }) :=
  if_pos ⟨by omega, hs, by rw [hl]; rfl, ha⟩

end

theorem tthSelect_discarded {i : Nat} (h : s.tthState ≠ 4 ∨ s.refActive = i) : s.tthSelect (i + 1) = s := by
  refine if_neg ?_
  rintro ⟨-, hs, -, ha⟩
  exact h.elim (absurd hs) ha

/-! ### The slot rate (R62, R63) -/

section
variable {i slotHz pllHz : Nat}

theorem frequencyFound_primary (hs : s.tthState = 1) (he : s.refEn i = true) (hp : i = s.get R.TTH_CTRL_PRIMARY)
    (hr : ((32 * slotHz : Int) - pllHz).natAbs * 2000 ≤ pllHz) (h0 : 0 < pllHz)
    (hw : ((pllHz : Int) - clockOfSpeed s.spn.obsSpeed).natAbs * 50 ≤ clockOfSpeed s.spn.obsSpeed) :
    s.frequencyFound i slotHz pllHz = ((s.set R.TTH_STAT_STATE 2).set R.TTH_STAT_ACTIVE i).modTth (fun t =>
      { t with goodRun := 0, pllHz := pllHz }) :=
  if_pos ⟨hs, by simp [he, ← hp], decide_eq_true hw, hr, h0⟩

theorem frequencyFound_unchanged (h : s.tthState ≠ 1 ∨ pllHz < ((32 * slotHz : Int) - pllHz).natAbs * 2000) :
    s.frequencyFound i slotHz pllHz = s := by
  refine if_neg ?_
  rintro ⟨hs, -, -, hr, -⟩
  exact h.elim (absurd hs) (Nat.not_lt.2 hr)

end

/-! ### Band frames (R59 to R61, R64) -/

/-- Slot `k` of a frame of input `i`: a disabled input delivers no transition. -/
def State.frameSlot (s : State) (i : Nat) (f : BandFrame) (k : Nat) : Option Int :=
  if s.refEn i then (f.slots[k]?).getD none else none

/-- What the 64 slots of a frame of input `i` leave, before the frame is judged as a whole. -/
def State.takeSlots (s : State) (i : Nat) (f : BandFrame) : State :=
  (List.range 64).foldl (fun (t : State) k => t.bandSlot i k (s.frameSlot i f k) ((f.amps[k]?).getD 0)) s

/-- Every slot of a frame has an amplitude within the limits of TTH_CFG. -/
def State.ampsOk (s : State) (f : BandFrame) : Bool :=
  (List.range 64).all (fun k => decide (s.get R.TTH_CFG_AMP_MIN ≤ (f.amps[k]?).getD 0)
    && decide ((f.amps[k]?).getD 0 ≤ s.get R.TTH_CFG_AMP_MAX))

section
variable {i : Nat} {f : BandFrame}

theorem tetherFrame_unused (h : s.tthState < 2 ∨ 4 < s.tthState) : s.tetherFrame i f = s := if_pos h

/-- In PHASE a frame counts by its slots alone. -/
theorem tetherFrame_phase (h : s.tthState = 2) : s.tetherFrame i f = s.takeSlots i f :=
  (if_neg (by omega)).trans (if_pos (.inl h))

/-- In FRAME and LOCKED the frame is judged as a whole, unless its slots have ended the state. -/
theorem tetherFrame_whole (h : s.tthState = 3 ∨ s.tthState = 4) (ht : 3 ≤ (s.takeSlots i f).tthState) :
    s.tetherFrame i f =
      (s.takeSlots i f).bandFrameEnd i f (frameNumber ((List.range 64).map (s.frameSlot i f))) (s.ampsOk f) := by
  have used : ¬(s.tthState < 2 ∨ 4 < s.tthState) := by omega
  have judged : ¬(s.tthState = 2 ∨ (s.takeSlots i f).tthState < 3) := by omega
  exact (if_neg used).trans (if_neg judged)

end

/-! ### The clock switch (R69) -/

theorem clockSwitch_none (h : s.tth.lossTo = none) : s.clockSwitch = s := by simp only [State.clockSwitch, h]

section
variable {t : Nat}

/-- 128 Tether clocks after the declaration, where the loss leads to SEARCH or WACQ. -/
theorem clockSwitch_enters {next : Nat} (hn : next ≠ 0) (h : s.tth.lossTo = some (next, t))
    (hp : s.passed t (128 * 1000000000 / max 1 s.fTether) = true) : s.clockSwitch =
      (s.tthUnlock.set R.TTH_STAT_STATE next).modTth (fun x => { x with goodRun := 0, marks := 0, missed := 0 }) := by
  simp only [State.clockSwitch, h]
  exact (if_pos hp).trans (if_neg hn)

/-- A loss by a disable ends in OFF, from where acquisition starts anew if EN is set again. -/
theorem clockSwitch_off (h : s.tth.lossTo = some (0, t))
    (hp : s.passed t (128 * 1000000000 / max 1 s.fTether) = true) : s.clockSwitch = s.tthUnlock.tthOff.tthStart := by
  simp only [State.clockSwitch, h]
  exact (if_pos hp).trans (if_pos trivial)

/-! ### No lock for 1 s (R72) -/

theorem relockFail_due (h : s.tth.acqFrom = some t) (hk : s.tthLocked = false) (hl : s.tth.lossTo = none)
    (hs : s.flag R.SPN_STAT_AT_SPEED = true) (hp : s.passed t 1000000000 = true) :
    s.relockFail = (s.fault .tth 3).modTth (fun x => { x with acqFrom := none }) := by
  simp only [State.relockFail, h]
  exact if_pos (by simp [hk, hl, hs, hp])

theorem relockFail_early (h : s.tth.acqFrom = some t) (hp : s.passed t 1000000000 = false) : s.relockFail = s := by
  simp only [State.relockFail, h]
  exact if_neg (by simp [hp])

end

/-! ### A settled bit clock (R76) -/

theorem zoneSettled_ready {h : Nat} (hz : s.get (R.CH_STAT_STATE h) = 2) :
    s.zoneSettled h = s.set (R.CH_STAT_STATE h) 3 := if_pos hz

theorem zoneSettled_other {h : Nat} (hz : s.get (R.CH_STAT_STATE h) ≠ 2) : s.zoneSettled h = s := if_neg hz

end

/-- Settles O17: each command ends with its operation, in one of the cases above. That TTH_STAT.STATE stays LOCKED from the
declaration of a loss to the clock switch is the model's reading (log entry 21). -/
theorem tetherCommandsComplete : Obligations.TetherCommandsComplete := by
  unfold Obligations.TetherCommandsComplete
  exact ⟨fun p v s h => answers_of_eq rfl (regCmd_tthCtrl h),
    fun s h0 he hp hw => tthStart_search h0 he hp hw,
    fun s h0 he hp hw ht => tthStart_wedge h0 he hp hw ht,
    fun p v s h => answers_of_eq rfl (regCmd_tthCtrl h),
    fun s hl hk => tthDisable_unlocked hl hk,
    fun s hl hk => tthDisable_locked hl hk,
    fun p v s h => answers_of_eq rfl (regCmd_tthCtrl h),
    fun i s hs hl ha => tthSelect_waits hl i.isLt hs ha,
    fun i s h => tthSelect_discarded h,
    fun i slotHz pllHz s hs he hp _ hr h0 hw => answers_of_eq rfl (frequencyFound_primary hs he hp hr h0 hw),
    fun i slotHz pllHz s h => answers_of_eq rfl (frequencyFound_unchanged h),
    fun i f s h => answers_of_eq rfl (tetherFrame_unused h),
    fun i f s h => answers_of_eq rfl (tetherFrame_phase h),
    fun i f s h ht => answers_of_eq rfl (tetherFrame_whole h ht),
    fun s h => answers_of_eq rfl (clockSwitch_none h),
    fun t s h hp => answers_of_eq rfl (clockSwitch_enters (by decide) h hp),
    fun t s h hp => answers_of_eq rfl (clockSwitch_off h hp),
    fun t s h hk hl hs hp => answers_of_eq rfl (relockFail_due h hk hl hs hp),
    fun t s h hp => answers_of_eq rfl (relockFail_early h hp),
    fun h s hz => answers_of_eq rfl (zoneSettled_ready hz),
    fun h s hz => answers_of_eq rfl (zoneSettled_other hz)⟩

end Sys2Proof.Machine
end

section
/-!
SUPPORT and settlement. The decoder pool (R99, R102 to R107, R109, R113): starts and ends of stream and deep decodes, hangs
and resets, each operation case by case.
-/

namespace Sys2Proof.Machine

open Sys2Proof

section
variable {s : State} {n id lim t0 : Nat} {j : ReadJob}

/-! ### Stream decodes (R99, R102, R103, R109) -/

/-- The first decoder of `l` that is enabled and runs nothing. -/
def State.freeDec (s : State) (l : List Nat) : Option Nat :=
  l.find? (fun n => s.decEnabled n && ((s.rdPool.decs[n]?).getD none).isNone)

/-- The iteration limit of a stream decode that starts now (R103). -/
def State.streamLimit (s : State) : Nat :=
  if s.flag R.LDPC_POOL_STAT_LOW_ITER then min (s.get R.LDPC_POOL_CFG_ITER_LOW) (s.get R.LDPC_POOL_CFG_ITER_MAX)
  else s.get R.LDPC_POOL_CFG_ITER_MAX

/-- Candidate `i` of read `j` runs on decoder `n`. -/
def ReadJob.runs (j : ReadJob) (i n : Nat) : ReadJob :=
  { j with cands := listMod j.cands i (fun c => { c with st := .running n }) }

/-- The entries of read `id` move to the front of the queue (R102). -/
def ownFirst (id : Nat) (l : List (Nat × Nat)) : List (Nat × Nat) :=
  l.filter (fun e => e.1 == id) ++ l.filter (fun e => e.1 != id)

theorem streamStart_noDecoder (h : s.streamCount = 0) : s.streamStart = s := if_pos h

theorem streamStart_queueEmpty (h : s.rdPool.queue = []) : s.streamStart = s := by
  unfold State.streamStart
  rw [h]
  split
  · rfl
  · split
    · next hq => cases hq
    · rfl

theorem streamStart_allBusy (h : s.freeDec (List.range 16) = none) : s.streamStart = s := by
  unfold State.freeDec at h
  simp only [State.streamStart, h, ite_self]

/-- The free decoder takes the candidate at the head of the queue. -/
theorem streamStart_takes {i : Nat} {rest : List (Nat × Nat)} (hc : s.streamCount ≠ 0)
    (hf : s.freeDec (List.range 16) = some n) (hq : s.rdPool.queue = (id, i) :: rest) (hj : s.rdPool.job id = some j) :
    s.streamStart = ((s.putJob (j.runs i n)).setPoolRd { (s.putJob (j.runs i n)).rdPool with
      queue := ownFirst id rest }).setDec n (some ⟨.cand id i, s.streamLimit, s.now⟩) := by
  unfold State.freeDec at hf
  unfold State.streamStart
  rw [if_neg hc, hf, hq]
  simp only [hj]
  rfl

theorem streamEnd_idle (h : (s.rdPool.decs[n]?).getD none = none) (cw it : Nat) : s.streamEnd n cw it = s := by
  simp only [State.streamEnd, h]

/-- Candidate `i` of read `j` after decoder `n` ended with `cw` under the limit `lim`: it is good with its payload, or bad;
a zero syndrome with another sector's tag is remembered (R99, R111). -/
def ReadJob.streamEnded (j : ReadJob) (i n lim cw it : Nat) : ReadJob :=
  let r := decodeResult (armSeed j.head j.arm) lim cw it
  { j with
    cands := listMod j.cands i (fun c => { c with
      st := (if r.2.2.1 then .good r.2.2.2 else .bad), iters := r.2.1, dec := n,
      unsat := (if r.1 then 0 else unsatisfied cw) })
    tag := j.tag || (r.1 && !r.2.2.1)
    last := (n, r.2.1) }

/-- Decoder `n` ends a decode of `it` iterations and is free. -/
def State.decFree (s : State) (n it : Nat) : State := (s.decCount n it).setDec n none

/-- A decode that ends is counted, its decoder is free, and the read is judged. -/
theorem streamEnd_judges {i : Nat} (h : (s.rdPool.decs[n]?).getD none = some ⟨.cand id i, lim, t0⟩)
    (hj : s.rdPool.job id = some j) (cw it : Nat) :
    s.streamEnd n cw it = ((s.decFree n (decodeResult (armSeed j.head j.arm) lim cw it).2.1).putJob
      (j.streamEnded i n lim cw it)).judge (j.streamEnded i n lim cw it) := by
  simp only [State.streamEnd, h, hj]
  rfl

/-! ### Deep decodes (R105, R107) -/

theorem deepStart_queueEmpty (h : s.rdPool.deepQ = []) : s.deepStart = s := by
  unfold State.deepStart
  rw [h]
  split
  · next hq => cases hq
  · rfl

theorem deepStart_takes {rest : List Nat} (hf : s.freeDec [16, 17] = some n) (hq : s.rdPool.deepQ = id :: rest) :
    s.deepStart = (s.setPoolRd { s.rdPool with deepQ := rest }).setDec n
      (some ⟨.deep id, s.get R.LDPC_POOL_CFG_DEEP_ITER, s.now⟩) := by
  unfold State.freeDec at hf
  simp only [State.deepStart, hf, hq]

theorem deepEnd_idle (h : (s.rdPool.decs[n]?).getD none = none) (cw it : Nat) : s.deepEnd n cw it = s := by
  simp only [State.deepEnd, h]

/-- Read `j` after its deep decode on decoder `n` ended with `cw` under the limit `lim`. -/
def ReadJob.deepEnded (j : ReadJob) (n lim cw it : Nat) : ReadJob :=
  let r := decodeResult (armSeed j.head j.arm) lim cw it
  { j with tag := j.tag || (r.1 && !r.2.2.1), last := (n, r.2.1) }

/-- The deep decode of read `j` succeeded on decoder `n`: GOOD_DEEP, with the reads held in the sum. -/
def State.deepGood (s : State) (j : ReadJob) (n it : Nat) (p : List Byte) : State :=
  s.readSuccess j p
    { outcome := 4, stamp := j.p, reads := s.inSum j, tag := j.tag, dec := n, iter := it, mark := j.mark }

/-- The deep decode of read `j` failed on decoder `n`: the sector's entry waits for the next read. -/
def State.deepBad (s : State) (j : ReadJob) (n it : Nat) : State :=
  (s.retryMod j.head j.arm (fun e => { e with deep := false, tag := e.tag || j.tag })).readFail j (s.inSum j) (n, it)

/-- A decode beyond its limit ends at the limit without a codeword, whatever the decoder holds (R103). -/
theorem decodeResult_beyond {seed cw it : Nat} (hi : lim < it) :
    decodeResult seed lim cw it = (false, lim, false, decodePayload cw) := by
  have beyond : decide (it ≤ lim) = false := decide_eq_false (Nat.not_le.2 hi)
  simp only [decodeResult, beyond, Bool.and_false, Bool.false_and, Bool.false_eq_true, if_false]

theorem deepEnded_beyond {cw it : Nat} (hi : lim < it) : j.deepEnded n lim cw it = { j with last := (n, lim) } := by
  simp only [ReadJob.deepEnded, decodeResult_beyond hi, Bool.false_and, Bool.or_false]

section
variable (h : (s.rdPool.decs[n]?).getD none = some ⟨.deep id, lim, t0⟩) (hj : s.rdPool.job id = some j)
include h hj

/-- A deep decode that ends is counted, its decoder is free, its read ends by its result, and a read of the sector that
waited for it joins the sum. -/
theorem deepEnd_ends (cw it : Nat) : s.deepEnd n cw it =
    (let r := decodeResult (armSeed j.head j.arm) lim cw it
     let j1 := j.deepEnded n lim cw it
     let t := (s.decFree n r.2.1).putJob j1
     (if r.2.2.1 then t.deepGood j1 n r.2.1 r.2.2.2 else t.deepBad j1 n r.2.1).deepNext j.head j.arm) := by
  simp only [State.deepEnd, h, hj]
  rfl

theorem deepEnd_beyond {it : Nat} (hi : lim < it) (cw : Nat) : s.deepEnd n cw it =
    (((s.decFree n lim).putJob { j with last := (n, lim) }).deepBad { j with last := (n, lim) } n lim).deepNext
      j.head j.arm := by
  rw [deepEnd_ends h hj, deepEnded_beyond hi, decodeResult_beyond hi]
  exact congrArg (State.deepNext · j.head j.arm) (if_neg Bool.false_ne_true)

end

/-! ### Hangs (R104, R113) -/

theorem decHang_idle (h : (s.rdPool.decs[n]?).getD none = none) : s.decHang n = s := by
  simp only [State.decHang, h]

section
variable {r : DecRun} (h : (s.rdPool.decs[n]?).getD none = some r)
include h

theorem decHang_late (hl : r.start + 2 * r.limitNs n < s.now) : s.decHang n = (s.fault (.ldpc n) 0).decCheck := by
  simp only [State.decHang, h]
  exact if_pos hl

theorem decHang_early (hl : s.now ≤ r.start + 2 * r.limitNs n) : s.decHang n = s := by
  simp only [State.decHang, h]
  exact if_neg (Nat.not_lt.2 hl)

end

theorem decCheck_noDecoder (h : s.streamCount = 0) : s.decCheck = s.fault .pool 1 := if_pos h

/-! ### Resets (R113) -/

theorem hookLdpc_reset {v : Nat} (hv : bitOf v 1 = true) : s.hookLdpc n 0 v =
    if 16 ≤ n then ((s.contain (.dec n)).decCheck).deepCheck else (s.contain (.dec n)).decCheck := by
  unfold State.hookLdpc
  rw [if_pos rfl, if_pos hv]

/-- A write of an LDPC_CTRL acts on its decoder. -/
theorem afterWrite_ldpcCtrl (d : Fin 18) (old v : Nat) :
    s.afterWrite (R.A_LDPC_CTRL d.val) old v = s.hookLdpc d.val 0 v := by
  have inst : (R.A_LDPC_CTRL d.val - 0x02500000) / 0x10000 = d.val := by unfold R.A_LDPC_CTRL; omega
  have offset : R.A_LDPC_CTRL d.val % 0x10000 = 0 := by unfold R.A_LDPC_CTRL; omega
  have block : 0x02500000 ≤ R.A_LDPC_CTRL d.val ∧ R.A_LDPC_CTRL d.val < 0x02620000 := by
    unfold R.A_LDPC_CTRL; omega
  unfold State.afterWrite
  rw [if_neg (by omega), if_neg (by omega), if_neg (by omega), if_pos block.2, inst, offset]

/-- LDPC_CTRL is a register of its own at every decoder: no window, no fault register, no array word. -/
theorem ldpcCtrl_plain : ∀ d : Fin 18, R.A_LDPC_CTRL d.val % 4 = 0 ∧ taskWindow (R.A_LDPC_CTRL d.val) = none ∧
    (regAt (R.A_LDPC_CTRL d.val)).isSome = true ∧ fltOfStat (R.A_LDPC_CTRL d.val) = none ∧
    fltOfMask (R.A_LDPC_CTRL d.val) = none ∧ allFltRegs.any (fun r => (r.sevFld 0).addr == R.A_LDPC_CTRL d.val ||
      (r.sevFld 12).addr == R.A_LDPC_CTRL d.val) = false ∧ arrayKeyOf (R.A_LDPC_CTRL d.val) = none := by
  decide +kernel

/-- A write with RESET = 1 that LDPC_CTRL takes is stored and resets the decoder. -/
theorem regCmd_ldpcReset {p : Path} {d : Fin 18} {v : Word}
    (h : s.takes p (R.A_LDPC_CTRL d.val) (withBits v 1 1 1) = true) :
    s.regCmd p (R.A_LDPC_CTRL d.val) (withBits v 1 1 1) =
      (((s.storeReg p (R.A_LDPC_CTRL d.val) (withBits v 1 1 1)).contain (.dec d.val)).decCheck |> fun t =>
        if 16 ≤ d.val then t.deepCheck else t) := by
  obtain ⟨ha, ht, hd, h1, h2, h3, h4⟩ := ldpcCtrl_plain d
  rw [regCmd_plain s p _ _ h ha ht hd h1 h2 h3 h4, afterWrite_ldpcCtrl,
    hookLdpc_reset (withBits_bit_same v 1 1 (by decide))]

end

/-- Settles O19: each command ends with its operation, in one of the cases above. That DECODER_HANG acts only where the decode
has run beyond twice its limit time is the model's reading (log entry 27); so is the check of both deep decoders at a write of
their LDPC_CTRL (log entry 124). -/
theorem decoderCommandsComplete : Obligations.DecoderCommandsComplete := by
  unfold Obligations.DecoderCommandsComplete
  exact ⟨fun s h => answers_of_eq rfl (streamStart_noDecoder h),
    fun s h => answers_of_eq rfl (streamStart_queueEmpty h),
    fun s h => answers_of_eq rfl (streamStart_allBusy h),
    fun n id i rest j s hc hf hq hj => answers_of_eq rfl (streamStart_takes hc hf hq hj),
    fun d cw it s h => answers_of_eq rfl (streamEnd_idle h cw it),
    fun d cw it id i lim t j s h hj => answers_of_eq rfl (streamEnd_judges h hj cw it),
    fun n it s => rfl,
    fun s h => answers_of_eq rfl (deepStart_queueEmpty h),
    fun n id rest s hf hq => answers_of_eq rfl (deepStart_takes hf hq),
    fun d cw it s h => answers_of_eq rfl (deepEnd_idle h cw it),
    fun d cw it id lim t0 j s h hj => answers_of_eq rfl (deepEnd_ends h hj cw it),
    fun d cw it id lim t j s h hj hi => answers_of_eq rfl (deepEnd_beyond h hj hi cw),
    fun d r s h hl => answers_of_eq rfl (decHang_late h hl),
    fun d r s h hl => answers_of_eq rfl (decHang_early h hl),
    fun d s h => answers_of_eq rfl (decHang_idle h),
    fun p d v s h => answers_of_eq rfl (regCmd_ldpcReset h),
    fun s h => decCheck_noDecoder h⟩

end Sys2Proof.Machine
end

section
/-!
SUPPORT and settlement. The write gate's commands (R122 to R132, R453): the start of a run, its gate and its end, the count of
written sectors and a run without its ARM reply, each operation case by case.
-/

namespace Sys2Proof.Machine

open Sys2Proof

/-- The run of arm `a` enters LEAD: head `h` takes a grant, and the frames that start its writer are requested (R123, R125). -/
def State.enterLead (s : State) (h : Nat) (a : Arm) : State :=
  let p0 := (s.stampOf h a 0).getD s.now
  ((((s.sourceOff h 10).setGrant h true).set (R.CH_WR_STAT_STATE h) 2).modHead h (fun y =>
    { y with run := some ⟨a, p0, none⟩ })).runOn h p0 (wHeatLead (entryNat (s.head h).wentry))
      (wLaserLead (entryNat (s.head h).wentry))

/-- What R124 to R126 do with a run that is due to enter LEAD and whose first sector is neither late nor refused. -/
def State.runDue (s : State) (h : Nat) (a : Arm) : State :=
  if bitsOf (s.get (R.CH_WR_INH_SRC h)) 0 10 ≠ 0 then s.countIdle h
  else if !s.runAllowed h ∨ !s.mayTransfer h then s
  else if s.get R.SYS_WR_LIMIT_DEV_MAX ≤ s.grants ∨ s.get R.SYS_WR_LIMIT_ACT_MAX ≤ s.grantsOf (h / 6) then
    s.sourcesOn h [10] s.now
  else s.enterLead h a

section
variable {s : State} {h : Nat}

/-! ### A run that is due to enter LEAD (R124 to R126) -/

/-- An inhibit source that is active where a run would start counts as a cut (R126). -/
theorem runDue_inhibited {a : Arm} (hi : bitsOf (s.get (R.CH_WR_INH_SRC h)) 0 10 ≠ 0) : s.runDue h a = s.countIdle h :=
  if_pos hi

theorem inhSrc_of_runAllowed (h1 : s.runAllowed h = true) : bitsOf (s.get (R.CH_WR_INH_SRC h)) 0 10 = 0 := by
  simp only [State.runAllowed, Bool.and_eq_true, beq_iff_eq] at h1
  exact h1.2

section
variable {a : Arm} (h1 : s.runAllowed h = true) (h2 : s.mayTransfer h = true)
include h1 h2

/-- Where R124 and the mode let a run start, the write limiter decides (R125). -/
theorem runDue_allowed : s.runDue h a =
    if s.get R.SYS_WR_LIMIT_DEV_MAX ≤ s.grants ∨ s.get R.SYS_WR_LIMIT_ACT_MAX ≤ s.grantsOf (h / 6) then
      s.sourcesOn h [10] s.now
    else s.enterLead h a :=
  (if_neg (not_not.2 (inhSrc_of_runAllowed h1))).trans (if_neg (by simp [h1, h2]))

theorem runDue_limited
    (hm : s.get R.SYS_WR_LIMIT_DEV_MAX ≤ s.grants ∨ s.get R.SYS_WR_LIMIT_ACT_MAX ≤ s.grantsOf (h / 6)) :
    s.runDue h a = s.sourcesOn h [10] s.now :=
  (runDue_allowed h1 h2).trans (if_pos hm)

theorem runDue_granted (hd : s.grants < s.get R.SYS_WR_LIMIT_DEV_MAX)
    (hm : s.grantsOf (h / 6) < s.get R.SYS_WR_LIMIT_ACT_MAX) : s.runDue h a = s.enterLead h a :=
  (runDue_allowed h1 h2).trans (if_neg (by omega))

end

/-! ### WRITE_RUN_START (R124, R156) -/

section
variable {lead : Nat}

theorem writeRunStart_nothingArmed (ha : (s.head h).arms = []) : s.writeRunStart h lead = s := by
  simp only [State.writeRunStart, ha]

/-- A run in LEAD or OPEN goes on: only an idle write side starts one. -/
theorem writeRunStart_running (hs : s.get (R.CH_WR_STAT_STATE h) = 2 ∨ s.get (R.CH_WR_STAT_STATE h) = 3) :
    s.writeRunStart h lead = s := by
  cases ha : (s.head h).arms with
  | nil => exact writeRunStart_nothingArmed ha
  | cons a r =>
    simp only [State.writeRunStart, ha]
    exact if_pos (.inr (.inl (by omega)))

section
variable {a : Arm} {r : List Arm} (ha : (s.head h).arms = a :: r) (hk : a.kind = .write)
  (hs : s.get (R.CH_WR_STAT_STATE h) = 1 ∨ s.get (R.CH_WR_STAT_STATE h) = 4) (hl : s.tthLocked = true)
  (hr : s.get (R.CH_STAT_STATE h) = 3)
include ha hk hs hl hr

/-- On an idle write side whose read side is READY in lock, the oldest armed write is judged: late, not yet due, refused, or
due. -/
theorem writeRunStart_judged : s.writeRunStart h lead =
    if a.late then s.holdArm h a
    else if s.beforeLead h a lead then s
    else if (s.refusals h a).any then (s.refuse h a).2.holdArm h a
    else s.runDue h a := by
  simp only [State.writeRunStart, ha]
  refine if_neg ?_
  rintro (hw | hi | hu | h0 | h2)
  · exact hw hk
  · omega
  · simp [hl] at hu
  · omega
  · omega

theorem writeRunStart_late (ht : a.late = true) : s.writeRunStart h lead = s.holdArm h a :=
  (writeRunStart_judged ha hk hs hl hr).trans (if_pos ht)

section
variable (ht : a.late = false)
include ht

theorem writeRunStart_early (hb : s.beforeLead h a lead = true) : s.writeRunStart h lead = s := by
  simp only [writeRunStart_judged ha hk hs hl hr, ht, hb, Bool.false_eq_true, if_false, if_true]

section
variable (hb : s.beforeLead h a lead = false)
include hb

theorem writeRunStart_refused (hf : (s.refusals h a).any = true) :
    s.writeRunStart h lead = (s.refuse h a).2.holdArm h a := by
  simp only [writeRunStart_judged ha hk hs hl hr, ht, hb, hf, Bool.false_eq_true, if_false, if_true]

theorem writeRunStart_due (hf : (s.refusals h a).any = false) : s.writeRunStart h lead = s.runDue h a := by
  simp only [writeRunStart_judged ha hk hs hl hr, ht, hb, hf, Bool.false_eq_true, if_false]

end
end
end
end

/-! ### The gate at position 0 (R123, R453) -/

section
variable {off : Nat}

theorem writeGateOpen_barred (hs : s.get (R.CH_WR_STAT_STATE h) ≠ 2 ∨ bitOf (s.link (h / 6)).armed (h % 6) = false) :
    s.writeGateOpen h off = s := by
  unfold State.writeGateOpen
  split
  · refine if_neg ?_
    rintro ⟨h2, hm, -⟩
    exact hs.elim (absurd h2) (by simp [hm])
  · rfl

section
variable {a : Arm} {r : List Arm} (ha : (s.head h).arms = a :: r)
include ha

theorem writeGateOpen_opens (hs : s.get (R.CH_WR_STAT_STATE h) = 2) (hm : bitOf (s.link (h / 6)).armed (h % 6) = true)
    (hp : s.atSector h a 0 off = true) : s.writeGateOpen h off = (s.set (R.CH_WR_STAT_STATE h) 3).sectorStart h := by
  simp only [State.writeGateOpen, ha]
  exact if_pos ⟨hs, hm, hp⟩

theorem writeGateOpen_elsewhere (hp : s.atSector h a 0 off = false) : s.writeGateOpen h off = s := by
  simp only [State.writeGateOpen, ha]
  exact if_neg (by simp [hp])

end
end

/-! ### The end of a run (R123) -/

theorem writeRunEnd_ends (hs : s.get (R.CH_WR_STAT_STATE h) = 3)
    (hc : ((s.modHead h (fun x => x.curDone s.now)).head h).run = none ∨
      ∃ q, ((s.modHead h (fun x => x.curDone s.now)).head h).run = some q ∧ q.cur = none) :
    s.writeRunEnd h = (((s.modHead h (fun x => x.curDone s.now)).runStop h).set (R.CH_WR_STAT_STATE h)
      (if s.get (R.CH_WR_INH_SRC h) = 0 then 1 else 4)).zoneCatchUp h := by
  unfold State.writeRunEnd
  obtain hn | ⟨q, hq, hn⟩ := hc
  · simp only [hn]
    exact if_pos ⟨hs, trivial⟩
  · simp only [hq]
    exact if_pos ⟨hs, by rw [hn]; rfl⟩

theorem writeRunEnd_notOpen (hs : s.get (R.CH_WR_STAT_STATE h) ≠ 3) : s.writeRunEnd h = s := if_neg fun e => hs e.1

/-! ### Written sectors (R129, R132) -/

/-- A sector before a passing sample that can no longer cut, with its last bit 2 µs old, may be counted. -/
theorem countable_of_passed {x : HeadSt} {now : Nat} {w : Written} (h1 : w.last < x.passAt) (h2 : x.passAt + 180 ≤ now)
    (h3 : w.last + 2000 ≤ now) : x.countable now w = true := by
  simp [HeadSt.countable, h1, h2, h3]

/-- Sector `w` of head `h` is counted as written, and its count of rewrites starts anew (R129, R130). -/
def State.countOne (s : State) (h : Nat) (w : Written) : State :=
  (s.bump (R.CH_WR_CNT_SECT_COUNT h) 1).modHead h (fun y =>
    { y with rewrites := setCnt y.rewrites (armAddr h w.arm) 0 })

section
variable {x : HeadSt} (hx : (s.head h).curDone s.now = x)
include hx

theorem countWritten_none (hn : x.written.filter (fun w => x.countable s.now w) = []) : s.countWritten h =
    s.setHead h { x with written := x.written.filter (fun w => !x.countable s.now w) } := by
  simp only [State.countWritten, hx, hn, List.foldl_nil]

section
variable {w : Written} (hw : x.written = [w]) (hc : x.countable s.now w = true)
include hw hc

/-- Outside ARCHIVE the buffer of a counted sector is released and the sector is durable. -/
theorem countWritten_releases (ha : s.archive = false) : s.countWritten h =
    (((s.setHead h { x with written := [] }).countOne h w).depDrop h w.arm.handle).tell (.durable h w.arm) := by
  have mode : (s.setHead h { x with written := [] }).archive = false := ha
  simp [State.countWritten, State.countOne, hx, hw, hc, mode]

/-- In ARCHIVE a counted sector waits for its verify. -/
theorem countWritten_unverified (ha : s.archive = true) : s.countWritten h =
    ((s.setHead h { x with written := [] }).countOne h w).modHead h (fun y =>
      { y with unverified := y.unverified ++ [w.arm] }) := by
  have mode : (s.setHead h { x with written := [] }).archive = true := ha
  simp [State.countWritten, State.countOne, hx, hw, hc, mode]

end
end

/-! ### A run without its ARM reply (R453) -/

theorem armMiss_noRun (hn : (s.head h).run = none) : s.armMiss h = s := by simp only [State.armMiss, hn]

section
variable {r : WriteRun} (hr : (s.head h).run = some r)
include hr

theorem armMiss_cancels (hs : s.get (R.CH_WR_STAT_STATE h) = 2) (hp : r.p0 ≤ s.now)
    (hm : bitOf (s.link (h / 6)).armed (h % 6) = false) : s.armMiss h =
      (((s.runStop h).set (R.CH_WR_STAT_STATE h) 1).fault .dlk (20 + h / 6)).ldgRaise 0x2005
        ([3, BitVec.ofNat 8 (h / 6)] ++ leBytes 2 6) := by
  simp only [State.armMiss, hr]
  exact if_pos ⟨hs, hp, by simp [hm]⟩

theorem armMiss_early (hp : s.now < r.p0) : s.armMiss h = s := by
  simp only [State.armMiss, hr]
  exact if_neg fun e => absurd e.2.1 (by omega)

end

end

/-- Settles O20: each command ends with its operation, in one of the cases above. The time before position 0 at which a run is
scheduled to enter LEAD is the operand of WRITE_RUN_START (the model's choice, log entry 151), and an arrival counts as at its
sector within the bounds of log entry 120. -/
theorem writeGateCommandsComplete : Obligations.WriteGateCommandsComplete := by
  unfold Obligations.WriteGateCommandsComplete
  exact ⟨fun h lead s ha => answers_of_eq rfl (writeRunStart_nothingArmed ha),
    fun h lead s hs => answers_of_eq rfl (writeRunStart_running hs),
    fun h lead a r s ha hk hs hl hr ht => answers_of_eq rfl (writeRunStart_late ha hk hs hl hr ht),
    fun h lead a r s ha hk hs hl hr ht hb hf => answers_of_eq rfl (writeRunStart_refused ha hk hs hl hr ht hb hf),
    fun h lead a r s ha hk hs hl hr ht hb => answers_of_eq rfl (writeRunStart_early ha hk hs hl hr ht hb),
    fun h lead a r s ha hk hs hl hr ht hb hf hi =>
      answers_of_eq rfl ((writeRunStart_due ha hk hs hl hr ht hb hf).trans (runDue_inhibited hi)),
    fun h lead a r s ha hk hs hl hr ht hb hf h1 h2 hm =>
      answers_of_eq rfl ((writeRunStart_due ha hk hs hl hr ht hb hf).trans (runDue_limited h1 h2 hm)),
    fun h lead a r s ha hk hs hl hr ht hb hf h1 h2 hd hm =>
      answers_of_eq rfl ((writeRunStart_due ha hk hs hl hr ht hb hf).trans (runDue_granted h1 h2 hd hm)),
    fun h off a r s ha hs hm hp => answers_of_eq rfl (writeGateOpen_opens ha hs hm hp),
    fun h off s hs => answers_of_eq rfl (writeGateOpen_barred hs),
    fun h off a r s ha hp => answers_of_eq rfl (writeGateOpen_elsewhere ha hp),
    fun h s hs hc => answers_of_eq rfl (writeRunEnd_ends hs hc),
    fun h s hs => answers_of_eq rfl (writeRunEnd_notOpen hs),
    fun h x s hx hn => answers_of_eq rfl (countWritten_none hx hn),
    fun h x w s hx hw h1 h2 h3 ha => answers_of_eq rfl (countWritten_releases hx hw (countable_of_passed h1 h2 h3) ha),
    fun h x w s hx hw h1 h2 h3 ha => answers_of_eq rfl (countWritten_unverified hx hw (countable_of_passed h1 h2 h3) ha),
    fun h s hn => answers_of_eq rfl (armMiss_noRun hn),
    fun h r s hr hs hp hm => answers_of_eq rfl (armMiss_cancels hr hs hp hm),
    fun h r s hr hp => answers_of_eq rfl (armMiss_early hr hp)⟩

end Sys2Proof.Machine
end

section
/-!
SUPPORT and settlement. The formatter commands of a micro-word (R153, R155, Table 6-7): what each does, case by case, and what a
word with that command leaves.
-/

namespace Sys2Proof.Machine

open Sys2Proof

/-- The formatter command that arms a sector of kind `k` (Table 6-7). -/
def ArmKind.fcmd (k : ArmKind) : Nat :=
  match k with
  | .read => 3
  | .write => 4
  | .verify => 5

/-- The arm block of kind `k` that a word's octet holds (Table 6-8). -/
def State.armBlock (s : State) (a w : Nat) (k : ArmKind) : Arm :=
  armOf k (s.octW a (mwFoct w) 0) (s.octW a (mwFoct w) 1) (s.octW a (mwFoct w) 2) (s.octW a (mwFoct w) 3)
    (s.octW a (mwFoct w) 4)

@[simp] theorem armBlock_kind (s : State) (a w : Nat) (k : ArmKind) : (s.armBlock a w k).kind = k := rfl

/-- The arm `b` as head `h` queues it: whether it came too late for its next passage is judged in lock (R156). -/
def State.judgedArm (s : State) (h : Nat) (b : Arm) : Arm := { b with late := s.tthLocked && s.armLate h b }

section
variable {s : State}

/-! ### Arming (R144, R155, R156) -/

section
variable {h : Nat} {b : Arm}

theorem arm_slip (hp : s.slipAt (armAddr h b) = true) : s.arm h b = s := if_pos hp

section
variable (hp : s.slipAt (armAddr h b) = false)
include hp

theorem arm_full (hl : 8 ≤ (s.head h).arms.length) : s.arm h b = s.fault (.seq (h / 6)) 4 :=
  (if_neg (by simp [hp])).trans (if_pos hl)

section
variable (hl : (s.head h).arms.length < 8)
include hl

theorem arm_queued : s.arm h b = s.setHead h { s.head h with
    arms := (s.head h).arms ++ [s.judgedArm h b],
    held := (if b.kind = .write then (s.head h).held.filter (fun u => !(u.track == b.track && u.slot == b.slot))
      else (s.head h).held) } :=
  (if_neg (by simp [hp])).trans (if_neg (by omega))

/-- The arm of a read or a verify leaves the held sectors alone. -/
theorem arm_queued_read (hk : b.kind ≠ .write) :
    s.arm h b = s.setHead h { s.head h with arms := (s.head h).arms ++ [s.judgedArm h b] } := by
  rw [arm_queued hp hl, if_neg hk]

/-- The arm of a write takes a held sector of its slot out of the held class. -/
theorem arm_queued_write (hk : b.kind = .write) : s.arm h b = s.setHead h { s.head h with
    arms := (s.head h).arms ++ [s.judgedArm h b],
    held := (s.head h).held.filter (fun u => !(u.track == b.track && u.slot == b.slot)) } := by
  rw [arm_queued hp hl, if_pos hk]

end
end
end

/-! ### The formatter command of a word (Table 6-7) -/

section
variable {a w : Nat}

section
variable (hw : mwFcmd w = 1)
include hw

theorem sqFormat_taskPop_empty (hq : (s.sq a).tasks = []) : s.sqFormat a w = s.fault (.seq a) 3 := by
  simp only [State.sqFormat, hw, hq]

theorem sqFormat_taskPop (hq : (s.sq a).tasks ≠ []) : s.sqFormat a w =
    (s.modSq a (fun q => { q with tasks := (s.sq a).tasks.tail })).putOct a (mwFoct w) 0 ((s.sq a).tasks.headD []) := by
  obtain ⟨t, rest, ht⟩ := List.exists_cons_of_ne_nil hq
  simp only [State.sqFormat, hw, ht, List.tail_cons, List.headD_cons]

end

section
variable (hw : mwFcmd w = 2)
include hw

theorem sqFormat_donePush (hl : (s.sq a).done.length < 64) : s.sqFormat a w = s.modSq a (fun q => { q with
    done := q.done ++ [[s.octW a (mwFoct w) 4, s.octW a (mwFoct w) 5, s.octW a (mwFoct w) 6, s.octW a (mwFoct w) 7]] }) := by
  simp only [State.sqFormat, hw]
  exact if_neg (by omega)

theorem sqFormat_donePush_full (hl : 64 ≤ (s.sq a).done.length) : s.sqFormat a w = s.fault (.seq a) 3 := by
  simp only [State.sqFormat, hw]
  exact if_pos hl

end

theorem sqFormat_arm (k : ArmKind) (hw : mwFcmd w = k.fcmd) :
    s.sqFormat a w = s.arm (s.mwHeadOf a w) (s.armBlock a w k) := by
  cases k <;> simp only [State.sqFormat, hw, ArmKind.fcmd, State.armBlock]

theorem sqFormat_abandon (hw : mwFcmd w = 6) : s.sqFormat a w = s.abandonHead (s.mwHeadOf a w) := by
  simp only [State.sqFormat, hw]

theorem sqFormat_loadZone (hw : mwFcmd w = 7) :
    s.sqFormat a w = s.zoneRequest (s.mwHeadOf a w) (bitsOf (s.octW a (mwFoct w) 0) 0 22) := by
  simp only [State.sqFormat, hw]

theorem sqFormat_select (hw : mwFcmd w = 8) : s.sqFormat a w =
    s.dlkSelect a (Nat.lor (s.get (R.DLK_L_RSEL_RSEL a)) (2 ^ (s.mwHeadOf a w - 6 * a))) := by
  simp only [State.sqFormat, hw]

theorem sqFormat_seek (hw : mwFcmd w = 9) :
    s.sqFormat a w = s.seekCmd a (bitsOf (s.octW a (mwFoct w) 0) 0 22) (s.mwHeadOf a w) := by
  simp only [State.sqFormat, hw]

theorem sqFormat_target (hw : mwFcmd w = 10) :
    s.sqFormat a w = s.setTarget (s.mwHeadOf a w) (bitsOf (s.octW a (mwFoct w) 0) 0 22) := by
  simp only [State.sqFormat, hw]

/-- A lookup that still runs is completed first; the new one takes the table as it stands then. -/
theorem sqFormat_defLookup (hw : mwFcmd w = 11) : s.sqFormat a w = (s.lookupDone a).modSq a (fun q => { q with
    lookup := some ⟨physAddr (s.mwHeadOf a w) (bitsOf (s.octW a (mwFoct w) 0) 0 22) (bitsOf (s.octW a (mwFoct w) 1) 0 13),
      mwFoct w, (s.lookupDone a).defBase a, (s.lookupDone a).get (R.SEQ_DEF_COUNT_COUNT a)⟩ }) := by
  simp only [State.sqFormat, hw]

section
variable (hw : mwFcmd w = 12)
include hw

theorem sqFormat_rptPop_empty (hq : (s.head (s.mwHeadOf a w)).reports = []) : s.sqFormat a w = s := by
  simp only [State.sqFormat, hw, hq]

theorem sqFormat_rptPop (hq : (s.head (s.mwHeadOf a w)).reports ≠ []) : s.sqFormat a w =
    (s.modHead (s.mwHeadOf a w) (fun x => { x with reports := (s.head (s.mwHeadOf a w)).reports.tail })).putOct a (mwFoct w) 4
      [(s.head (s.mwHeadOf a w)).reports.headD 0 % 2 ^ 32, (s.head (s.mwHeadOf a w)).reports.headD 0 / 2 ^ 32 % 2 ^ 32,
       (s.head (s.mwHeadOf a w)).reports.headD 0 / 2 ^ 64 % 2 ^ 32,
       (s.head (s.mwHeadOf a w)).reports.headD 0 / 2 ^ 96 % 2 ^ 32] := by
  obtain ⟨t, rest, ht⟩ := List.exists_cons_of_ne_nil hq
  simp only [State.sqFormat, hw, ht, List.tail_cons, List.headD_cons]

end
end

/-! ### A word with a formatter command (R153) -/

/-- A word that is issued and whose ALU operation goes through: what its formatter command leaves from there, then the next
address and the word's end. -/
theorem wordFcmd_formats {a k : Nat} {w : BitVec 128} {u : State} (hi : s.issues a (mwSetFcmd w.toNat k) = true)
    (ha : (s.sqAlu a (mwSetFcmd w.toNat k)).1 = true)
    (hf : (s.sqAlu a (mwSetFcmd w.toNat k)).2.sqFormat a (mwSetFcmd w.toNat k) = u) : s.wordFcmd a w k =
      (u.sqNext a (s.sqPc a) (mwSetFcmd w.toNat k) (s.mwHolds a (mwSetFcmd w.toNat k))).wordEnd a := by
  subst hf
  exact sqIssue_runs s a _ hi ha

end

/-- Settles O24: the command of a word acts on what its ALU operation left, in one of the cases above. Three readings are the
model's own: the word issued is the given one with the row's code in its FCMD field (log entry 8), the arm of a slip is discarded
without a report (log entry 129), and a second DEF_LOOKUP completes the running one first (log entry 35). -/
theorem sequencerFormatterComplete : Obligations.SequencerFormatterComplete := by
  unfold Obligations.SequencerFormatterComplete
  exact ⟨
    fun a w s hi ha hq => answers_of_eq rfl (wordFcmd_formats hi ha (sqFormat_taskPop_empty (mwFcmd_setFcmd _ 1) hq)),
    fun a w s hi ha hq => answers_of_eq rfl (wordFcmd_formats hi ha (sqFormat_taskPop (mwFcmd_setFcmd _ 1) hq)),
    fun a w s hi ha hl => answers_of_eq rfl (wordFcmd_formats hi ha (sqFormat_donePush (mwFcmd_setFcmd _ 2) hl)),
    fun a w s hi ha hl => answers_of_eq rfl (wordFcmd_formats hi ha (sqFormat_donePush_full (mwFcmd_setFcmd _ 2) hl)),
    fun a w s hi ha hp => answers_of_eq rfl (wordFcmd_formats hi ha
      ((sqFormat_arm .read (mwFcmd_setFcmd _ 3)).trans (arm_slip hp))),
    fun a w s hi ha hp hl => answers_of_eq rfl (wordFcmd_formats hi ha
      ((sqFormat_arm .read (mwFcmd_setFcmd _ 3)).trans (arm_queued_read hp hl (by simp)))),
    fun a w s hi ha hp hl => answers_of_eq rfl (wordFcmd_formats hi ha
      ((sqFormat_arm .read (mwFcmd_setFcmd _ 3)).trans (arm_full hp hl))),
    fun a w s hi ha hp => answers_of_eq rfl (wordFcmd_formats hi ha
      ((sqFormat_arm .write (mwFcmd_setFcmd _ 4)).trans (arm_slip hp))),
    fun a w s hi ha hp hl => answers_of_eq rfl (wordFcmd_formats hi ha
      ((sqFormat_arm .write (mwFcmd_setFcmd _ 4)).trans (arm_queued_write hp hl rfl))),
    fun a w s hi ha hp hl => answers_of_eq rfl (wordFcmd_formats hi ha
      ((sqFormat_arm .write (mwFcmd_setFcmd _ 4)).trans (arm_full hp hl))),
    fun a w s hi ha hp => answers_of_eq rfl (wordFcmd_formats hi ha
      ((sqFormat_arm .verify (mwFcmd_setFcmd _ 5)).trans (arm_slip hp))),
    fun a w s hi ha hp hl => answers_of_eq rfl (wordFcmd_formats hi ha
      ((sqFormat_arm .verify (mwFcmd_setFcmd _ 5)).trans (arm_queued_read hp hl (by simp)))),
    fun a w s hi ha hp hl => answers_of_eq rfl (wordFcmd_formats hi ha
      ((sqFormat_arm .verify (mwFcmd_setFcmd _ 5)).trans (arm_full hp hl))),
    fun a w s hi ha => answers_of_eq rfl (wordFcmd_formats hi ha (sqFormat_abandon (mwFcmd_setFcmd _ 6))),
    fun a w s hi ha => answers_of_eq rfl (wordFcmd_formats hi ha (sqFormat_loadZone (mwFcmd_setFcmd _ 7))),
    fun a w s hi ha => answers_of_eq rfl (wordFcmd_formats hi ha (sqFormat_select (mwFcmd_setFcmd _ 8))),
    fun a w s hi ha => answers_of_eq rfl (wordFcmd_formats hi ha (sqFormat_seek (mwFcmd_setFcmd _ 9))),
    fun a w s hi ha => answers_of_eq rfl (wordFcmd_formats hi ha (sqFormat_target (mwFcmd_setFcmd _ 10))),
    fun a w s hi ha => answers_of_eq rfl (wordFcmd_formats hi ha (sqFormat_defLookup (mwFcmd_setFcmd _ 11))),
    fun a w s hi ha hq => answers_of_eq rfl (wordFcmd_formats hi ha (sqFormat_rptPop_empty (mwFcmd_setFcmd _ 12) hq)),
    fun a w s hi ha hq => answers_of_eq rfl (wordFcmd_formats hi ha (sqFormat_rptPop (mwFcmd_setFcmd _ 12) hq))⟩

end Sys2Proof.Machine
end

section
/-!
SUPPORT and settlement. The layout of a track (R136 to R138, R140) and physical addresses (R141): the parts of an address, the
place of a data-stream position on the track, and the distance of two slots.
-/

namespace Sys2Proof.Machine

open Sys2Proof

/-! ### Physical addresses (R141) -/

section
variable {f t k : Nat}

theorem physAddr_lt : physAddr f t k < 2 ^ 40 := by
  unfold physAddr
  omega

@[simp] theorem paSurface_physAddr : paSurface (physAddr f t k) = f % 32 := by
  simp only [paSurface, physAddr, bitsOf]
  omega

@[simp] theorem paTrack_physAddr : paTrack (physAddr f t k) = t % 2 ^ 22 := by
  simp only [paTrack, physAddr, bitsOf]
  omega

@[simp] theorem paSlot_physAddr : paSlot (physAddr f t k) = k % 2 ^ 13 := by
  simp only [paSlot, physAddr, bitsOf]
  omega

end

/-- Settles O46: each part of the address is the bits that its place in the sum says, and none of the three is cut off. -/
theorem physicalAddressLayout : Obligations.PhysicalAddressLayout := by
  unfold Obligations.PhysicalAddressLayout
  intro f t k hf ht hk
  have surface : paSurface (physAddr f t k) = f := paSurface_physAddr.trans (Nat.mod_eq_of_lt (by omega))
  have track : paTrack (physAddr f t k) = t := paTrack_physAddr.trans (Nat.mod_eq_of_lt ht)
  have slot : paSlot (physAddr f t k) = k := paSlot_physAddr.trans (Nat.mod_eq_of_lt hk)
  exact ⟨physAddr_lt, surface, track, slot, surface, track, slot⟩

/-! ### The data stream of a track (R136, R137) -/

section
variable {s : State} {a z : Nat}

/-- What R140 asks of the frames and the slots of a usable zone: whole frames, each longer than its wedge span, and a data
stream that holds every slot. -/
theorem zfmtUsable_fits (hu : s.zfmtUsable a z = true) :
    s.get (R.SEQ_FMT_WEDGES a) * s.frameLen a z = s.bpr z ∧ zWspan (entryNat (s.zfmt a z)) < s.frameLen a z ∧
      37120 * zSpt (entryNat (s.zfmt a z)) ≤ s.dTot a z := by
  simp only [State.zfmtUsable, Bool.and_eq_true, beq_iff_eq, decide_eq_true_eq] at hu
  obtain ⟨⟨⟨⟨-, whole⟩, span⟩, slots⟩, -⟩ := hu
  exact ⟨Nat.mul_div_cancel' (Nat.dvd_of_mod_eq_zero whole), span, slots⟩

section
variable (hs : zWspan (entryNat (s.zfmt a z)) < s.frameLen a z)
include hs

/-- Behind its wedge span the place of a position within its frame stays inside the frame. -/
theorem frameOffset_lt (d : Nat) : zWspan (entryNat (s.zfmt a z)) + d % s.dlen a z < s.frameLen a z := by
  have inside : d % s.dlen a z < s.dlen a z := Nat.mod_lt _ (Nat.sub_pos_of_lt hs)
  unfold State.dlen at inside ⊢
  omega

theorem trackPos_mod_frameLen (d : Nat) :
    s.trackPos a z d % s.frameLen a z = zWspan (entryNat (s.zfmt a z)) + d % s.dlen a z := by
  unfold State.trackPos
  rw [Nat.add_assoc, Nat.mul_add_mod_self_right, Nat.mod_eq_of_lt (frameOffset_lt hs d)]

/-- A position lies before the end of its frame. -/
theorem trackPos_lt_frameEnd (d : Nat) : s.trackPos a z d < (d / s.dlen a z + 1) * s.frameLen a z := by
  have := frameOffset_lt hs d
  unfold State.trackPos
  rw [Nat.add_mul]
  omega

theorem trackPos_lt_bpr {d : Nat} (hw : s.get (R.SEQ_FMT_WEDGES a) * s.frameLen a z = s.bpr z) (hd : d < s.dTot a z) :
    s.trackPos a z d < s.bpr z := by
  have frame : d / s.dlen a z < s.get (R.SEQ_FMT_WEDGES a) := Nat.div_lt_of_lt_mul (by rwa [Nat.mul_comm])
  calc s.trackPos a z d
    _ < (d / s.dlen a z + 1) * s.frameLen a z := trackPos_lt_frameEnd hs d
    _ ≤ s.get (R.SEQ_FMT_WEDGES a) * s.frameLen a z := Nat.mul_le_mul_right _ frame
    _ = s.bpr z := hw

/-- Later positions of the data stream lie later on the track: further on in the same frame, or in a later frame. -/
theorem trackPos_strictMono : StrictMono (s.trackPos a z) := by
  intro d e hde
  obtain same | later := (Nat.div_le_div_right (c := s.dlen a z) hde.le).eq_or_lt
  · have hd := Nat.div_add_mod d (s.dlen a z)
    have he := Nat.div_add_mod e (s.dlen a z)
    rw [← same] at he
    unfold State.trackPos
    rw [← same]
    omega
  · calc s.trackPos a z d
      _ < (d / s.dlen a z + 1) * s.frameLen a z := trackPos_lt_frameEnd hs d
      _ ≤ e / s.dlen a z * s.frameLen a z := Nat.mul_le_mul_right _ later
      _ ≤ s.trackPos a z e := by unfold State.trackPos; omega

end

/-! ### Slots (R138) -/

/-- Round a circle of `n` places, `m` further on from a place is `m` away from it. -/
theorem circle_distance {n : Nat} (hn : 0 < n) (x m : Nat) : ((x + m) % n + n - x % n) % n = m % n := by
  have hx := Nat.mod_lt x hn
  have back : (x + m) % n + n - x % n + x ≡ m + x [MOD n] := by
    have e : (x + m) % n + n - x % n + x = (x + m) % n + n * (1 + x / n) := by
      have := Nat.div_add_mod x n
      rw [Nat.mul_add]
      omega
    rw [e, Nat.add_comm m x]
    simp [Nat.ModEq]
  exact Nat.ModEq.add_right_cancel' x back

/-- Slot `j` starts as many sectors behind slot `k`, round the data stream, as its number is higher. -/
theorem slotStart_distance {t k j : Nat} (hj : 37120 * j < s.dTot a z) (hk : k ≤ j) :
    (s.slotStart a z t j + s.dTot a z - s.slotStart a z t k) % s.dTot a z = 37120 * (j - k) := by
  have split : 37120 * j = 37120 * k + 37120 * (j - k) := by omega
  dsimp only [State.slotStart]
  rw [split, ← Nat.add_assoc, circle_distance (by omega), Nat.mod_eq_of_lt (by omega)]

end

/-- Settles O47: a frame holds its wedge span and then its data area, so positions keep their order and stay out of the spans;
the slots of a track follow one another by one sector each and together fit into the data stream. -/
theorem slotsOfATrackStayApart : Obligations.SlotsOfATrackStayApart := by
  unfold Obligations.SlotsOfATrackStayApart
  refine ⟨fun a z d s hu hd => ?_, fun a z d e s hu hde _ => ?_, fun a z t k j s hu hkj hj => ?_⟩
  · obtain ⟨whole, span, -⟩ := zfmtUsable_fits hu
    exact ⟨trackPos_lt_bpr span whole hd, (Nat.le_add_right ..).trans_eq (trackPos_mod_frameLen span d).symm⟩
  · obtain ⟨-, span, -⟩ := zfmtUsable_fits hu
    exact trackPos_strictMono span hde
  · obtain ⟨-, -, slots⟩ := zfmtUsable_fits hu
    rw [slotStart_distance (by omega) hkj.le]
    omega

end Sys2Proof.Machine
end

section
/-!
SUPPORT and settlement. The ALU and next-address operations of a micro-word (R152 to R154, Tables 6-4 and 6-5): what each does,
case by case, and what a word with that operation leaves.
-/

namespace Sys2Proof.Machine

open Sys2Proof

section
variable {s : State} {a : Nat}

/-! ### The ALU operation of a word (R153) -/

section
variable {w : Nat}

/-- MOV to SHR but ADD: the result goes into DST, Z and N follow it, and C is a free value. -/
theorem sqAlu_stores {k r : Nat} (hw : mwAlu w = k) (hk : 1 ≤ k ∧ k ≤ 8)
    (hr : aluResult k (s.sqG a (mwSrcA w)) (s.sqB a w) = (r, none)) :
    s.sqAlu a w = (true, (s.draw.2.putFlags a r (s.draw.1 % 2 == 1)).setG a (mwDst w) r) := by
  obtain ⟨h1, h8⟩ := hk
  unfold State.sqB at hr
  interval_cases k <;> simp only [State.sqAlu, hw, hr] <;> rfl

theorem sqAlu_add (hw : mwAlu w = 2) : s.sqAlu a w =
    (true, (s.putFlags a ((s.sqG a (mwSrcA w) + s.sqB a w) % 2 ^ 32)
      (decide (2 ^ 32 ≤ s.sqG a (mwSrcA w) + s.sqB a w))).setG a (mwDst w) ((s.sqG a (mwSrcA w) + s.sqB a w) % 2 ^ 32)) := by
  simp only [State.sqAlu, hw]
  rfl

theorem sqAlu_cmp (hw : mwAlu w = 9) : s.sqAlu a w =
    (true, s.draw.2.putFlags a ((s.sqG a (mwSrcA w) + 2 ^ 32 - s.sqB a w) % 2 ^ 32) (s.draw.1 % 2 == 1)) := by
  simp only [State.sqAlu, hw]
  rfl

theorem sqAlu_ldlc (hw : mwAlu w = 10) :
    s.sqAlu a w = (true, (s.sqFreeFlags a).modSq a (fun q => { q with lc := s.sqB a w % 2 ^ 16 })) := by
  simp only [State.sqAlu, hw]
  rfl

section
variable (hw : mwAlu w = 11)
include hw

theorem sqAlu_ldhs (hv : s.sqB a w % 8 ≤ 5) :
    s.sqAlu a w = (true, (s.sqFreeFlags a).modSq a (fun q => { q with hsel := s.sqB a w % 8 })) := by
  simp only [State.sqAlu, hw]
  exact if_neg (Nat.not_lt.2 hv)

/-- HSEL holds a head of the actuator, 0 to 5; another value is illegal. -/
theorem sqAlu_ldhs_illegal (hv : 5 < s.sqB a w % 8) : s.sqAlu a w = (false, s.sqFreeFlags a) := by
  simp only [State.sqAlu, hw]
  exact if_pos hv

end
end

section
variable {k : Nat} {w : BitVec 128} {t : State} (hi : s.issues a (mwSetAlu w.toNat k) = true)
include hi

/-- A word whose ALU operation goes through carries on from what that operation left. -/
theorem wordAlu_runs (ht : s.sqAlu a (mwSetAlu w.toNat k) = (true, t)) :
    s.wordAlu a w k = s.wordRest t a (mwSetAlu w.toNat k) :=
  (sqIssue_runs s a _ hi (by rw [ht])).trans (by rw [ht])

theorem wordAlu_stops (ht : s.sqAlu a (mwSetAlu w.toNat k) = (false, t)) : s.wordAlu a w k = t.sqStop a 0 :=
  (sqIssue_stops s a _ hi (by rw [ht])).trans (by rw [ht])

end

/-! ### The stack (R154) -/

theorem sqPush_room {r : Nat} (hl : (s.sq a).stack.length < 16) : s.sqPush a r =
    (true, (s.modSq a (fun x => { x with stack := (r % 16384) :: x.stack })).set (R.SEQ_STAT_SP a)
      ((s.sq a).stack.length + 1)) := if_neg (Nat.not_le.2 hl)

theorem sqPush_full {r : Nat} (hl : 16 ≤ (s.sq a).stack.length) : s.sqPush a r = (false, s.sqStop a 1) := if_pos hl

theorem sqPop_top (hs : (s.sq a).stack ≠ []) : s.sqPop a = (some ((s.sq a).stack.headD 0),
    (s.modSq a (fun x => { x with stack := (s.sq a).stack.tail })).set (R.SEQ_STAT_SP a) ((s.sq a).stack.length - 1)) := by
  obtain ⟨r, rest, hr⟩ := List.exists_cons_of_ne_nil hs
  simp only [State.sqPop, hr, List.tail_cons, List.headD_cons, List.length_cons, Nat.add_sub_cancel]

theorem sqPop_empty (hs : (s.sq a).stack = []) : s.sqPop a = (none, s.sqStop a 1) := by
  simp only [State.sqPop, hs]

/-! ### The next address of a word (Table 6-5) -/

section
variable {pc w : Nat} {holds : Bool}

theorem sqNext_cont (hw : mwNop w = 0) : s.sqNext a pc w holds = s.sqLeave a w (pc + 1) := by
  simp only [State.sqNext, hw]

theorem sqNext_jump (hw : mwNop w = 1) : s.sqNext a pc w holds = s.sqLeave a w (mwNext w) := by
  simp only [State.sqNext, hw]

/-- BR, BRCALL and BRRET go on to the next word where the condition does not hold. -/
theorem sqNext_notTaken (hw : mwNop w = 2 ∨ mwNop w = 4 ∨ mwNop w = 6) (hh : holds = false) :
    s.sqNext a pc w holds = s.sqLeave a w (pc + 1) := by
  subst hh
  obtain hw | hw | hw := hw
  all_goals simp only [State.sqNext, hw, Bool.false_eq_true, if_false]

theorem sqNext_br (hw : mwNop w = 2) (hh : holds = true) : s.sqNext a pc w holds = s.sqLeave a w (mwNext w) := by
  simp only [State.sqNext, hw, hh, if_true]

/-- CALL, and BRCALL where the condition holds, push the address behind them and go to NEXT. -/
theorem sqNext_call (hw : mwNop w = 3 ∨ mwNop w = 4 ∧ holds = true) (hl : (s.sq a).stack.length < 16) :
    s.sqNext a pc w holds = ((s.modSq a (fun x => { x with stack := ((pc + 1) % 16384) :: x.stack })).set
      (R.SEQ_STAT_SP a) ((s.sq a).stack.length + 1)).sqLeave a w (mwNext w) := by
  obtain hw | ⟨hw, hh⟩ := hw
  · simp only [State.sqNext, hw, sqPush_room hl]
  · simp only [State.sqNext, hw, hh, sqPush_room hl, if_true]

theorem sqNext_call_full (hw : mwNop w = 3) (hl : 16 ≤ (s.sq a).stack.length) :
    s.sqNext a pc w holds = s.sqStop a 1 := by
  simp only [State.sqNext, hw, sqPush_full hl]

/-- RET, and BRRET where the condition holds, go to the address on top of the stack and take it off. -/
theorem sqNext_ret (hw : mwNop w = 5 ∨ mwNop w = 6 ∧ holds = true) (hs : (s.sq a).stack ≠ []) :
    s.sqNext a pc w holds = ((s.modSq a (fun x => { x with stack := (s.sq a).stack.tail })).set
      (R.SEQ_STAT_SP a) ((s.sq a).stack.length - 1)).sqLeave a w ((s.sq a).stack.headD 0) := by
  obtain hw | ⟨hw, hh⟩ := hw
  · simp only [State.sqNext, hw, sqPop_top hs]
  · simp only [State.sqNext, hw, hh, sqPop_top hs, if_true]

theorem sqNext_ret_empty (hw : mwNop w = 5) (hs : (s.sq a).stack = []) : s.sqNext a pc w holds = s.sqStop a 1 := by
  simp only [State.sqNext, hw, sqPop_empty hs]

theorem sqNext_disp (hw : mwNop w = 7) :
    s.sqNext a pc w holds = s.sqLeave a w (mwNext w / 16 * 16 + s.sqG a (mwSrcA w) % 16) := by
  simp only [State.sqNext, hw]

section
variable (hw : mwNop w = 8)
include hw

theorem sqNext_loop_ends (hc : (s.sq a).lc = 0) : s.sqNext a pc w holds = s.sqLeave a w (pc + 1) := by
  simp only [State.sqNext, hw, hc, if_true]

theorem sqNext_loop_again (hc : 0 < (s.sq a).lc) :
    s.sqNext a pc w holds = (s.modSq a (fun q => { q with lc := q.lc - 1 })).sqLeave a w (mwNext w) := by
  simp only [State.sqNext, hw, hc.ne', if_false]

end

section
variable (hw : mwNop w = 9)
include hw

theorem sqNext_wait_met (hh : holds = true) : s.sqNext a pc w holds = s.sqLeave a w (pc + 1) := by
  simp only [State.sqNext, hw, hh, if_true]

section
variable (hh : holds = false)
include hh

theorem sqNext_wait (hp : mwWp w = false) : s.sqNext a pc w holds =
    s.modSq a (fun q => { q with wait := some ⟨w, pc, s.now⟩, sincePoll := q.sincePoll + 1 }) := by
  simp only [State.sqNext, hw, hh, hp, Bool.false_eq_true, if_false]

/-- A WAIT that is a Waypoint polls as it begins. -/
theorem sqNext_wait_waypoint (hp : mwWp w = true) : s.sqNext a pc w holds =
    (s.modSq a (fun q => { q with wait := some ⟨w, pc, s.now⟩, sincePoll := q.sincePoll + 1 })).sqPoll a pc true := by
  simp only [State.sqNext, hw, hh, hp, Bool.false_eq_true, if_false, if_true]

end
end

theorem sqNext_halt (hw : mwNop w = 10) : s.sqNext a pc w holds =
    (s.set (R.SEQ_STAT_STATE a) 4).modSq a (fun q => { q with lookup := none }) := by
  simp only [State.sqNext, hw]

end

/-- A word that is issued and whose ALU operation goes through: where its next-address operation leads from what its formatter
command left, then the word's end. -/
theorem wordNop_goes {k : Nat} {w : BitVec 128} {u : State} (hi : s.issues a (mwSetNop w.toNat k) = true)
    (ha : (s.sqAlu a (mwSetNop w.toNat k)).1 = true)
    (hn : ((s.sqAlu a (mwSetNop w.toNat k)).2.sqFormat a (mwSetNop w.toNat k)).sqNext a (s.sqPc a) (mwSetNop w.toNat k)
      (s.mwHolds a (mwSetNop w.toNat k)) = u) : s.wordNop a w k = u.wordEnd a := by
  subst hn
  exact sqIssue_runs s a _ hi ha

/-! ### Words that do not run (R151, R152) -/

theorem sqIssue_notRun {w : Nat} (hs : s.sqState a ≠ 1) : s.sqIssue a w = s := if_pos (.inl hs)

theorem sqIssue_illegal {w : Nat} (hs : s.sqState a = 1) (hw : (s.sq a).wait = none) (hr : s.inReset (.seq a) = false)
    (hl : mwIllegal w = true) : s.sqIssue a w = s.sqStop a 0 :=
  (if_neg (by simp [hs, hw, hr])).trans (if_pos hl)

end

/-- Settles O23: the result of the operation and what it leaves are those above, and the word carries on from there. That the
word issued is the given one with the row's code in its ALU field is log entry 8; that C after other operations than ADD, and all
flags after LDLC and LDHS, are free values is log entry 33. -/
theorem sequencerAluComplete : Obligations.SequencerAluComplete := by
  unfold Obligations.SequencerAluComplete
  exact ⟨
    fun a w s hi => answers_of_eq rfl (wordAlu_runs hi (sqAlu_stores (mwAlu_setAlu _ 1) (by decide) rfl)),
    fun a w s hi => answers_of_eq rfl (wordAlu_runs hi (sqAlu_add (mwAlu_setAlu _ 2))),
    fun a w s hi => answers_of_eq rfl (wordAlu_runs hi (sqAlu_stores (mwAlu_setAlu _ 3) (by decide) rfl)),
    fun a w s hi => answers_of_eq rfl (wordAlu_runs hi (sqAlu_stores (mwAlu_setAlu _ 4) (by decide) rfl)),
    fun a w s hi => answers_of_eq rfl (wordAlu_runs hi (sqAlu_stores (mwAlu_setAlu _ 5) (by decide) rfl)),
    fun a w s hi => answers_of_eq rfl (wordAlu_runs hi (sqAlu_stores (mwAlu_setAlu _ 6) (by decide) rfl)),
    fun a w s hi => answers_of_eq rfl (wordAlu_runs hi (sqAlu_stores (mwAlu_setAlu _ 7) (by decide) rfl)),
    fun a w s hi => answers_of_eq rfl (wordAlu_runs hi (sqAlu_stores (mwAlu_setAlu _ 8) (by decide) rfl)),
    fun a w s hi => answers_of_eq rfl (wordAlu_runs hi (sqAlu_cmp (mwAlu_setAlu _ 9))),
    fun a w s hi => answers_of_eq rfl (wordAlu_runs hi (sqAlu_ldlc (mwAlu_setAlu _ 10))),
    fun a w s hi hv => answers_of_eq rfl (wordAlu_runs hi (sqAlu_ldhs (mwAlu_setAlu _ 11) hv)),
    fun a w s hi hv => answers_of_eq rfl (wordAlu_stops hi (sqAlu_ldhs_illegal (mwAlu_setAlu _ 11) hv))⟩

/-- Settles O22: the next-address operation of a word acts on what its formatter command left, in one of the cases above. That the
word issued is the given one with the row's code in its NOP field is the model's reading (log entry 8), and so is that a WAIT that
polls stays at its address (log entry 34). -/
theorem sequencerNextAddressComplete : Obligations.SequencerNextAddressComplete := by
  unfold Obligations.SequencerNextAddressComplete
  exact ⟨
    fun a w s hi ha => answers_of_eq rfl (wordNop_goes hi ha (sqNext_cont (mwNop_setNop _ 0))),
    fun a w s hi ha => answers_of_eq rfl (wordNop_goes hi ha (sqNext_jump (mwNop_setNop _ 1))),
    fun a w s hi ha hh => answers_of_eq rfl (wordNop_goes hi ha (sqNext_br (mwNop_setNop _ 2) hh)),
    fun a w s hi ha hh => answers_of_eq rfl (wordNop_goes hi ha (sqNext_notTaken (.inl (mwNop_setNop _ 2)) hh)),
    fun a w s hi ha hl => answers_of_eq rfl (wordNop_goes hi ha (sqNext_call (.inl (mwNop_setNop _ 3)) hl)),
    fun a w s hi ha hl => answers_of_eq rfl (wordNop_goes hi ha (sqNext_call_full (mwNop_setNop _ 3) hl)),
    fun a w s hi ha hh hl => answers_of_eq rfl (wordNop_goes hi ha (sqNext_call (.inr ⟨mwNop_setNop _ 4, hh⟩) hl)),
    fun a w s hi ha hh => answers_of_eq rfl (wordNop_goes hi ha (sqNext_notTaken (.inr (.inl (mwNop_setNop _ 4))) hh)),
    fun a w s hi ha hs => answers_of_eq rfl (wordNop_goes hi ha (sqNext_ret (.inl (mwNop_setNop _ 5)) hs)),
    fun a w s hi ha hs => answers_of_eq rfl (wordNop_goes hi ha (sqNext_ret_empty (mwNop_setNop _ 5) hs)),
    fun a w s hi ha hh hs => answers_of_eq rfl (wordNop_goes hi ha (sqNext_ret (.inr ⟨mwNop_setNop _ 6, hh⟩) hs)),
    fun a w s hi ha hh => answers_of_eq rfl (wordNop_goes hi ha (sqNext_notTaken (.inr (.inr (mwNop_setNop _ 6))) hh)),
    fun a w s hi ha => answers_of_eq rfl (wordNop_goes hi ha (sqNext_disp (mwNop_setNop _ 7))),
    fun a w s hi ha hc => answers_of_eq rfl (wordNop_goes hi ha (sqNext_loop_ends (mwNop_setNop _ 8) hc)),
    fun a w s hi ha hc => answers_of_eq rfl (wordNop_goes hi ha (sqNext_loop_again (mwNop_setNop _ 8) hc)),
    fun a w s hi ha hh => answers_of_eq rfl (wordNop_goes hi ha (sqNext_wait_met (mwNop_setNop _ 9) hh)),
    fun a w s hi ha hh hp => answers_of_eq rfl (wordNop_goes hi ha (sqNext_wait (mwNop_setNop _ 9) hh hp)),
    fun a w s hi ha hh hp => answers_of_eq rfl (wordNop_goes hi ha (sqNext_wait_waypoint (mwNop_setNop _ 9) hh hp)),
    fun a w s hi ha => answers_of_eq rfl (wordNop_goes hi ha (sqNext_halt (mwNop_setNop _ 10))),
    fun a w s hs hw hr hl => sqIssue_illegal hs hw hr hl,
    fun a w s hs => sqIssue_notRun hs⟩

end Sys2Proof.Machine
end

section
/-!
SUPPORT and settlement. Control of a sequencer (R147, R150, R151, R153, R154, R157, R158): writes of SEQ_CTRL, its start, its
clocks, the end of a WAIT, the Waypoint limit and the end of a defect lookup, each operation case by case.
-/

namespace Sys2Proof.Machine

open Sys2Proof

section
variable {s : State} {a : Nat}

/-! ### Writes of SEQ_CTRL (Table 6-12) -/

/-- A write of a SEQ_CTRL acts on its sequencer. -/
theorem afterWrite_seqCtrl (a : Act) (old v : Nat) : s.afterWrite (R.A_SEQ_CTRL a.val) old v = s.sqCtrl a.val v := by
  have inst : (R.A_SEQ_CTRL a.val - 0x03000000) / 0x100000 = a.val := by unfold R.A_SEQ_CTRL; omega
  have offset : R.A_SEQ_CTRL a.val % 0x100000 = 0 := by unfold R.A_SEQ_CTRL; omega
  have block : 0x03000000 ≤ R.A_SEQ_CTRL a.val ∧ R.A_SEQ_CTRL a.val < 0x03400000 := by unfold R.A_SEQ_CTRL; omega
  unfold State.afterWrite
  rw [if_neg (by omega), if_neg (by omega), if_neg (by omega), if_neg (by omega), if_neg (by omega), if_pos block.2, inst,
    offset, State.hookSeq, if_pos rfl]

/-- SEQ_CTRL is a register of its own at every sequencer: no window, no fault register, no array word. -/
theorem seqCtrl_plain : ∀ a : Act, R.A_SEQ_CTRL a.val % 4 = 0 ∧ taskWindow (R.A_SEQ_CTRL a.val) = none ∧
    (regAt (R.A_SEQ_CTRL a.val)).isSome = true ∧ fltOfStat (R.A_SEQ_CTRL a.val) = none ∧
    fltOfMask (R.A_SEQ_CTRL a.val) = none ∧ allFltRegs.any (fun r => (r.sevFld 0).addr == R.A_SEQ_CTRL a.val ||
      (r.sevFld 12).addr == R.A_SEQ_CTRL a.val) = false ∧ arrayKeyOf (R.A_SEQ_CTRL a.val) = none := by
  decide +kernel

/-- A write that SEQ_CTRL takes is stored and followed. -/
theorem regCmd_seqCtrl {p : Path} {a : Act} {v : Word} (h : s.takes p (R.A_SEQ_CTRL a.val) v = true) :
    s.regCmd p (R.A_SEQ_CTRL a.val) v = (s.storeReg p (R.A_SEQ_CTRL a.val) v).sqCtrl a.val v.toNat := by
  obtain ⟨ha, ht, hd, h1, h2, h3, h4⟩ := seqCtrl_plain a
  rw [regCmd_plain s p _ _ h ha ht hd h1 h2 h3 h4, afterWrite_seqCtrl]

/-! ### The start and the next address (R150, R151) -/

theorem sqStart_starts (h0 : s.sqState a = 0) (he : s.flag (R.SEQ_CTRL_EN a) = true) (hp : (s.sq a).patchDone = true)
    (hr : s.inReset (.seq a) = false) : s.sqStart a =
      ((s.set (R.SEQ_STAT_STATE a) 1).modSq a (fun q => { q with sincePoll := 0, stack := [] })).sqGo a 0 :=
  if_pos ⟨h0, he, hp, by simp [hr]⟩

/-- With no trap in use an address is fetched as it stands. -/
theorem trapped_noTraps {n : Nat} (ht : ∀ i : Fin 32, s.flag (R.SEQ_TRAP_VALID a i.val) = false) : s.trapped a n = n := by
  have unused : (List.range 32).find? (fun i => s.flag (R.SEQ_TRAP_VALID a i) && s.get (R.SEQ_TRAP_FROM a i) == n) = none :=
    List.find?_eq_none.2 fun i hi => by simp [ht ⟨i, List.mem_range.1 hi⟩]
  simp only [State.trapped, unused]

theorem sqGo_noTraps {n : Nat} (ht : ∀ i : Fin 32, s.flag (R.SEQ_TRAP_VALID a i.val) = false) :
    s.sqGo a n = s.set (R.SEQ_STAT_PC a) (n % 16384) := by
  rw [State.sqGo, trapped_noTraps ht]

/-! ### Clocks (R151, R153) -/

theorem sqClock_notRun (h : s.sqState a ≠ 1 ∨ s.inReset (.seq a) = true) : s.sqClock a = s := if_pos h

section
variable (h1 : s.sqState a = 1) (hr : s.inReset (.seq a) = false)
include h1 hr

theorem sqClock_waits (hw : (s.sq a).wait.isSome = true) :
    s.sqClock a = ((s.waitPoll a).waitMet a).waitTimeout a :=
  (if_neg (by simp [h1, hr])).trans (if_pos hw)

theorem sqClock_rom (hw : (s.sq a).wait = none) (hp : s.sqPc a < 0x3000) :
    s.sqClock a = s.sqIssue a (Config.romWord (s.sqPc a)).toNat := by
  have fetched : s.sqFetch a (s.get (R.SEQ_STAT_PC a)) = (some (Config.romWord (s.sqPc a)).toNat, s) := if_pos hp
  refine ((if_neg (by simp [h1, hr])).trans (if_neg (by simp [hw]))).trans ?_
  rw [fetched]

end

/-! ### The end of a WAIT (Table 6-5) -/

theorem waitMet_noWait (hw : (s.sq a).wait = none) : s.waitMet a = s := by simp only [State.waitMet, hw]

theorem waitTimeout_noWait (hw : (s.sq a).wait = none) : s.waitTimeout a = s := by simp only [State.waitTimeout, hw]

section
variable {x : SeqWait} (hw : (s.sq a).wait = some x)
include hw

theorem waitMet_holds (hh : s.mwHolds a x.word = true) : s.waitMet a = s.sqLeave a x.word (x.addr + 1) := by
  simp only [State.waitMet, hw]
  exact if_pos hh

theorem waitMet_goesOn (hh : s.mwHolds a x.word = false) : s.waitMet a = s := by
  simp only [State.waitMet, hw]
  exact if_neg (by simp [hh])

theorem waitTimeout_expires (hh : s.mwHolds a x.word = false) (h0 : mwTmo x.word ≠ 0)
    (ht : 16 * mwTmo x.word ≤ s.sqClocks a) : s.waitTimeout a = s.sqLeave a x.word (mwNext x.word) := by
  simp only [State.waitTimeout, hw]
  exact if_pos (by simp [hh, h0, ht])

/-- A WAIT with TMO = 0 has no time-out. -/
theorem waitTimeout_never (h0 : mwTmo x.word = 0) : s.waitTimeout a = s := by
  simp only [State.waitTimeout, hw]
  exact if_neg (by simp [h0])

end

/-! ### The Waypoint limit (R158) -/

section
variable (hw : (s.sq a).wait = none)
include hw

theorem wpTimeout_stops (h1 : s.sqState a = 1) (hl : s.get (R.SEQ_WP_LIMIT_LIMIT a) < (s.sq a).sincePoll) :
    s.wpTimeout a = s.sqStop a 2 := by
  simp only [State.wpTimeout, hw]
  exact if_pos ⟨h1, hl⟩

theorem wpTimeout_within (hl : (s.sq a).sincePoll ≤ s.get (R.SEQ_WP_LIMIT_LIMIT a)) : s.wpTimeout a = s := by
  simp only [State.wpTimeout, hw]
  exact if_neg fun e => Nat.not_lt.2 hl e.2

end

/-! ### Defect lookups (R147) -/

theorem lookupDone_noLookup (hl : (s.sq a).lookup = none) : s.lookupDone a = s := by simp only [State.lookupDone, hl]

/-- A search of a range without entries reads nothing and finds nothing. -/
theorem defSearch_emptyRange {base key fuel lo : Nat} {below above : Option Nat} :
    s.defSearch a base key fuel lo lo below above = (some none, s) := by
  cases fuel with
  | zero => rfl
  | succ fuel => exact if_pos le_rfl

/-- A lookup in an empty table ends with no kind and four zero words; a waiting table swap may then take effect. -/
theorem lookupDone_emptyTable {l : SeqLookup} (hl : (s.sq a).lookup = some l) (h0 : l.count = 0) : s.lookupDone a =
    ((s.modSq a (fun q => { q with lookup := none, kind := none })).putOct a l.oct 4 [0, 0, 0, 0]).defSwapTry a false := by
  simp only [State.lookupDone, hl, h0, defSearch_emptyRange]

end

/-- Settles O21: each command ends with its operation, in one of the cases above. That a polled WAIT stays at its address, that a
start too is redirected by a trap, and what a write that leaves EN at 0 does in HELD, STOPPED and HALTED are log entry 34; that a
lookup's search takes the midpoint rounded down is log entry 35; the words of the ROM are the opaque ones of log entry 37. -/
theorem sequencerControlCommandsComplete : Obligations.SequencerControlCommandsComplete := by
  unfold Obligations.SequencerControlCommandsComplete
  exact ⟨
    fun p a v s h => answers_of_eq rfl (regCmd_seqCtrl h),
    fun p a v s h => answers_of_eq rfl (regCmd_seqCtrl h),
    fun p a v s h => answers_of_eq rfl (regCmd_seqCtrl h),
    fun p a v s h => answers_of_eq rfl (regCmd_seqCtrl h),
    fun p a v s h => answers_of_eq rfl (regCmd_seqCtrl h),
    fun a s h0 he hp hr => sqStart_starts h0 he hp hr,
    fun a n s ht => sqGo_noTraps ht,
    fun a s h => answers_of_eq rfl (sqClock_notRun h),
    fun a s h1 hr hw hp => answers_of_eq rfl (sqClock_rom h1 hr hw hp),
    fun a s h1 hr hw => answers_of_eq rfl (sqClock_waits h1 hr hw),
    fun a s hw => answers_of_eq rfl (waitMet_noWait hw),
    fun a x s hw hh => answers_of_eq rfl (waitMet_holds hw hh),
    fun a x s hw hh => answers_of_eq rfl (waitMet_goesOn hw hh),
    fun a x s hw hh h0 ht => answers_of_eq rfl (waitTimeout_expires hw hh h0 ht),
    fun a x s hw h0 => answers_of_eq rfl (waitTimeout_never hw h0),
    fun a s hw => answers_of_eq rfl (waitTimeout_noWait hw),
    fun a s h1 hw hl => answers_of_eq rfl (wpTimeout_stops hw h1 hl),
    fun a s hw hl => answers_of_eq rfl (wpTimeout_within hw hl),
    fun a s hl => answers_of_eq rfl (lookupDone_noLookup hl),
    fun a l s hl h0 => answers_of_eq rfl (lookupDone_emptyTable hl h0)⟩

end Sys2Proof.Machine
end

section
/-!
SUPPORT and settlement. Servo samples, actuator commands and actuator timeouts (R168, R171, R174, R177 to R182, R192), each
operation case by case.
-/

namespace Sys2Proof.Machine

open Sys2Proof

section
variable {s : State}

/-! ### Samples and wedge timing (R80, R168) -/

theorem servoSample_unpowered {h : Nat} {o : WedgeObs} (hp : s.chPowered h = false) : s.servoSample h o = s :=
  if_pos (by simp [hp])

/-- Outside HERITAGE's wedge states nothing is acquired from servo marks. -/
theorem wedgeWatch_noWedgeTiming (ht : s.tthState < 5) : s.wedgeWatch = s := if_pos ht

theorem wedgeMark_noWedgeTiming {h : Nat} {m : MarkObs} (ht : s.tthState < 5) : s.wedgeMark h m = s :=
  if_pos (.inr (.inl (by omega)))

theorem wedgeSample_unpowered {h : Nat} {o : WedgeObs} (hp : s.chPowered h = false) (ht : s.tthState < 5) :
    s.wedgeSample h o = s := by
  rw [State.wedgeSample, servoSample_unpowered hp, wedgeWatch_noWedgeTiming ht, wedgeMark_noWedgeTiming ht]

/-! ### The class of a sample (Table 7-2) -/

section
variable {h : Nat} {o : WedgeObs} {b : Bursts}

theorem classOf_noMark (hm : s.samOf h o = none) : s.classOf h o b = (3, none) := by simp only [State.classOf, hm]

section
variable {m : SamHit} (hm : s.samOf h o = some m) (hr : s.inReset (.ch h) = false)
include hm hr

theorem classOf_burstOut (hb : b.a + b.b < 4 * s.get R.SRV_DEMOD_BSUM_MIN ∨ 4 * s.get R.SRV_DEMOD_BSUM_MAX < b.c + b.d) :
    s.classOf h o b = (2, none) := by
  simp only [State.classOf, hm, hr]
  refine (if_neg (by decide)).trans (if_pos ?_)
  rcases hb with low | high
  · simp [Nat.not_le.2 low]
  · simp [Nat.not_le.2 high]

section
variable (hab : 4 * s.get R.SRV_DEMOD_BSUM_MIN ≤ b.a + b.b) (hab' : b.a + b.b ≤ 4 * s.get R.SRV_DEMOD_BSUM_MAX)
  (hcd : 4 * s.get R.SRV_DEMOD_BSUM_MIN ≤ b.c + b.d) (hcd' : b.c + b.d ≤ 4 * s.get R.SRV_DEMOD_BSUM_MAX)
include hab hab' hcd hcd'

theorem classOf_uncoded (hd : decodeWedge (msbFirst 72 (bitsOf o.bits (m.o + 513).toNat 72)) = none) :
    s.classOf h o b = (1, none) := by
  simp only [State.classOf, hm, hr, hd]
  exact (if_neg (by decide)).trans (if_neg (by simp [hab, hab', hcd, hcd']))

theorem classOf_good {t w : Nat} (hd : decodeWedge (msbFirst 72 (bitsOf o.bits (m.o + 513).toNat 72)) = some (t, w))
    (hw : s.tthLocked = false ∨ w = m.w) : s.classOf h o b = (0, some (t, w)) := by
  have expected : (!s.tthLocked || w == m.w) = true := by simpa using hw
  simp only [State.classOf, hm, hr, hd]
  exact (if_neg (by decide)).trans ((if_neg (by simp [hab, hab', hcd, hcd'])).trans (if_pos expected))

end
end
end

/-! ### ONTRK and following errors (R178, R182) -/

theorem ontrkSet_sets {h : Nat} (hc : s.countsOn h = true) (hn : s.get (R.SRV_ACT_LIM_ONTRK_N (h / 6)) ≤ (s.hsv h).onRun)
    (h0 : 0 < (s.hsv h).onRun) : s.ontrkSet h = (s.setFlag (R.SRV_HD_STAT_ONTRK h) true).trackCheck (h / 6) :=
  if_pos ⟨hc, hn, h0⟩

theorem ontrkSet_tooFew {h : Nat} (hn : (s.hsv h).onRun < s.get (R.SRV_ACT_LIM_ONTRK_N (h / 6))) : s.ontrkSet h = s :=
  if_neg fun e => Nat.not_le.2 hn e.2.1

theorem followError_head {n : Nat} (hn : n < 24) (hf : s.headFollow n = true) (hd : (s.hsv n).folDone = false) :
    s.followError n = (s.modHsv n (fun x => { x with folDone := true })).followCut n s.now :=
  (if_pos hn).trans (if_pos ⟨hf, by simp [hd]⟩)

theorem followError_vcmInTrack {n : Nat} (hn : 24 ≤ n) (hf : s.vcmFollow (n - 24) = true)
    (hd : (s.act (n - 24)).folDone = false) (h5 : s.actState (n - 24) = 5) :
    s.followError n = (s.modAct (n - 24) (fun x => { x with folDone := true })).followCut n s.now :=
  ((if_neg (Nat.not_lt.2 hn)).trans (if_pos ⟨hf, by simp [hd]⟩)).trans (if_neg (by simp [h5]))

section
variable {a : Nat}

/-! ### SERVO_LOST (R181) -/

theorem servoLost_tooFew (hn : (s.act a).lostRun < s.get (R.SRV_ACT_LIM_LOST_N a)) : s.servoLost a = s :=
  if_neg fun e => Nat.not_le.2 hn e.2.2

section
variable (hn : s.get (R.SRV_ACT_LIM_LOST_N a) ≤ (s.act a).lostRun)
include hn

theorem servoLost_inTrack (h5 : s.actState a = 5) : s.servoLost a = (s.fault .srv (16 + a)).actUnload a := by
  refine (if_pos ⟨by simp [h5], by simp [h5], hn⟩).trans ?_
  rw [if_neg (by simp [h5])]

theorem servoLost_inSeek (h3 : s.actState a = 3) :
    s.servoLost a = ((s.seekAbort a).fault .srv (16 + a)).actUnload a := by
  refine (if_pos ⟨by simp [h3], by simp [h3], hn⟩).trans ?_
  rw [if_pos h3]

end

/-! ### The actuator commands (R177, R192, Table 7-4) -/

theorem actEnable_fromOff (h0 : s.actState a = 0) : s.actEnable a true = s.actEnter a 1 := if_pos h0

theorem actEnable_offFromRamp (h1 : s.actState a = 1) : s.actEnable a false = s.actEnter a 0 := if_pos h1

theorem actLoad_loads (h1 : s.actState a = 1) (hl : s.faultIs .srv (4 + a) = false) (hd : s.faultIs .srv (8 + a) = false)
    (hb : s.faultIs .srv (12 + a) = false) (hf : s.faultIs .srv (24 + a) = false) : s.actLoad a =
      ((headsOf a).foldl (fun (t : State) h => t.modHsv h (fun x => { x with samAt := none })) ((s.lifeCount 2).modAct a
        (fun x => { x with loadAt := s.now, lostRun := 0, folRun := 0, count16 := 0 }))).actEnter a 2 :=
  if_pos (by simp [h1, hl, hd, hb, hf])

/-- Only a seek under way can fail. -/
theorem seekFail_notSeeking {abort : Bool} (h3 : s.actState a ≠ 3) (h4 : s.actState a ≠ 4) : s.seekFail a abort = s :=
  if_neg (not_or.2 ⟨h3, h4⟩)

section
variable (h5 : s.actState a = 5)
include h5

theorem seekFail_inTrack {abort : Bool} : s.seekFail a abort = s := seekFail_notSeeking (by simp [h5]) (by simp [h5])

theorem actUnload_inTrack : s.actUnload a = s.actEnter a 7 :=
  (if_pos (by simp [h5])).trans (by rw [seekFail_inTrack h5])

theorem actHold_inTrack : s.actHold a = s.actEnter a 6 :=
  (if_pos (by simp [h5])).trans (by rw [seekFail_inTrack h5])

theorem actRetract_inTrack : s.actRetract a = ((s.actEnter a 8).modAct a (fun x => { x with retractAt := s.now })).set
    (R.SRV_VCM_I_I_CMD a) (s.get (R.SRV_ACT_RET_RET_I a)) :=
  (if_neg (by simp [h5])).trans (by rw [seekFail_inTrack h5])

end

/-! ### The timeouts and stops of an actuator (R177, R179, R192) -/

theorem loadFail_fails (h2 : s.actState a = 2) (ht : (s.act a).loadAt + 150000000 ≤ s.now) :
    s.loadFail a = (s.fault .srv (4 + a)).actUnload a :=
  if_pos ⟨h2, passed_of_le ht⟩

theorem loadFail_notDue (h : s.actState a ≠ 2 ∨ s.now < (s.act a).loadAt + 150000000) : s.loadFail a = s :=
  if_neg fun e => h.elim (fun h2 => h2 e.1) (fun ht => by simp [passed_of_lt ht] at e)

theorem seekTimeout_aborts (h34 : s.actState a = 3 ∨ s.actState a = 4)
    (ht : (s.act a).seekAt + s.get (R.SRV_ACT_LIM_SEEK_TMO a) * 1000000 ≤ s.now) : s.seekTimeout a = s.seekAbort a :=
  if_pos ⟨h34, passed_of_le ht⟩

theorem seekTimeout_notDue (ht : s.now < (s.act a).seekAt + s.get (R.SRV_ACT_LIM_SEEK_TMO a) * 1000000) :
    s.seekTimeout a = s :=
  if_neg fun e => by simp [passed_of_lt ht] at e

theorem rampStop_unloaded (h7 : s.actState a = 7) : s.rampStop a = s.actEnter a 1 := if_pos h7

theorem rampStop_notUnloading (h7 : s.actState a ≠ 7) : s.rampStop a = s := if_neg h7

theorem retractDone_due (h8 : s.actState a = 8)
    (ht : (s.act a).retractAt + s.get (R.SRV_ACT_RET_RET_T a) * 1000000 ≤ s.now) : s.retractDone a =
      ((s.set (R.SRV_VCM_I_I_CMD a) 0).modAct a (fun x => { x with duty := 0, sum := 0 })).actEnter a
        (if bitOf (s.get R.SRV_CTRL_ACT_EN) a then 1 else 0) :=
  if_pos ⟨h8, passed_of_le ht⟩

theorem retractDone_notRetracting (h8 : s.actState a ≠ 8) : s.retractDone a = s := if_neg fun e => h8 e.1

end

/-! ### Writes of SRV_CTRL and of an actuator's control register (Tables 7-11 and 7-13) -/

/-- A write that SRV_CTRL takes is stored, and each actuator whose enable bit changed follows it. -/
theorem regCmd_srvCtrl {p : Path} {v : Word} (h : s.takes p R.A_SRV_CTRL v = true) : s.regCmd p R.A_SRV_CTRL v =
    (List.range 4).foldl (fun (t : State) i => if bitOf (s.rd R.A_SRV_CTRL).toNat i = bitOf v.toNat i then t
      else t.actEnable i (bitOf v.toNat i)) (s.storeReg p R.A_SRV_CTRL v) :=
  regCmd_plain s p R.A_SRV_CTRL v h rfl (by decide) (by decide) (by decide) (by decide) (by decide) (by decide)

/-- A write of an actuator's control register refreshes its heads, keeps one target without a Bridle stage, and commands it. -/
theorem afterWrite_actCtrl (a : Act) (old v : Nat) : s.afterWrite (R.A_SRV_ACT_CTRL a.val) old v =
    ((s.refreshHeads a.val).soleTarget a.val).actCmd a.val (bitsOf v 0 3) := by
  have inst : (R.A_SRV_ACT_CTRL a.val - 0x03401000) / 256 = a.val := by unfold R.A_SRV_ACT_CTRL; omega
  have block : 0x03401000 ≤ R.A_SRV_ACT_CTRL a.val ∧ R.A_SRV_ACT_CTRL a.val < 0x03401400 ∧
      R.A_SRV_ACT_CTRL a.val % 256 = 0 := by unfold R.A_SRV_ACT_CTRL; omega
  have others : R.A_SRV_ACT_CTRL a.val ≠ R.A_SRV_CTRL ∧ R.A_SRV_ACT_CTRL a.val ≠ R.A_SRV_GUST_0_CFG ∧
      R.A_SRV_ACT_CTRL a.val ≠ R.A_SRV_GUST_1_CFG := by revert a; decide
  obtain ⟨ctrl, gust0, gust1⟩ := others
  unfold State.afterWrite
  rw [if_neg (by omega), if_neg (by omega), if_neg (by omega), if_neg (by omega), if_neg (by omega), if_neg (by omega),
    if_pos (by omega), State.hookSrv, if_neg ctrl, if_neg gust0, if_neg gust1, if_pos block, inst]

/-- An actuator's control register is a register of its own: no window, no fault register, no array word. -/
theorem actCtrl_plain : ∀ a : Act, R.A_SRV_ACT_CTRL a.val % 4 = 0 ∧ taskWindow (R.A_SRV_ACT_CTRL a.val) = none ∧
    (regAt (R.A_SRV_ACT_CTRL a.val)).isSome = true ∧ fltOfStat (R.A_SRV_ACT_CTRL a.val) = none ∧
    fltOfMask (R.A_SRV_ACT_CTRL a.val) = none ∧ allFltRegs.any (fun r => (r.sevFld 0).addr == R.A_SRV_ACT_CTRL a.val ||
      (r.sevFld 12).addr == R.A_SRV_ACT_CTRL a.val) = false ∧ arrayKeyOf (R.A_SRV_ACT_CTRL a.val) = none := by
  decide +kernel

/-- A write with CMD = `c` that an actuator's control register takes is stored and gives the actuator that command. -/
theorem regCmd_actCmd {p : Path} {a : Act} {v : Word} {c : Nat} (hc : c < 2 ^ 3)
    (h : s.takes p (R.A_SRV_ACT_CTRL a.val) (withBits v 0 3 c) = true) :
    s.regCmd p (R.A_SRV_ACT_CTRL a.val) (withBits v 0 3 c) =
      (((s.storeReg p (R.A_SRV_ACT_CTRL a.val) (withBits v 0 3 c)).refreshHeads a.val).soleTarget a.val).actCmd a.val c := by
  obtain ⟨ha, ht, hd, h1, h2, h3, h4⟩ := actCtrl_plain a
  rw [regCmd_plain s p _ _ h ha ht hd h1 h2 h3 h4, afterWrite_actCtrl, withBits_same v 0 3 c (by decide), Nat.mod_eq_of_lt hc]

end

/-- Settles O13: each command ends with its operation, in one of the cases above. That a sample has its part in wedge timing is
log entry 22, that a write keeps the CMD that its command is named for is log entry 7, that it refreshes the heads is log entry
96, and that SERVO_LOST acts in SEEK too is log entry 39: the model's readings. -/
theorem servoCommandsComplete : Obligations.ServoCommandsComplete := by
  unfold Obligations.ServoCommandsComplete
  exact ⟨
    fun h o s hp ht => answers_of_eq rfl (wedgeSample_unpowered hp ht),
    fun h o s => answers_of_eq rfl rfl,
    fun h o b s hm => classOf_noMark hm,
    fun h o b m t w s hm hr hab hab' hcd hcd' hd hw => classOf_good hm hr hab hab' hcd hcd' hd hw,
    fun h o b m s hm hr hab hab' hcd hcd' hd => classOf_uncoded hm hr hab hab' hcd hcd' hd,
    fun h o b m s hm hr hb => classOf_burstOut hm hr hb,
    fun h s hc hn h0 => answers_of_eq rfl (ontrkSet_sets hc hn h0),
    fun h s hn => answers_of_eq rfl (ontrkSet_tooFew hn),
    fun n s hn hf hd => answers_of_eq rfl (followError_head hn hf hd),
    fun n s hn hf hd h5 => answers_of_eq rfl (followError_vcmInTrack hn hf hd h5),
    fun a s h5 hn => answers_of_eq rfl (servoLost_inTrack hn h5),
    fun a s h3 hn => answers_of_eq rfl (servoLost_inSeek hn h3),
    fun a s hn => answers_of_eq rfl (servoLost_tooFew hn),
    fun p v s h => answers_of_eq rfl (regCmd_srvCtrl h),
    fun a s h0 => actEnable_fromOff h0,
    fun a s h1 => actEnable_offFromRamp h1,
    fun p a v s h => answers_of_eq rfl (regCmd_actCmd (by decide) h),
    fun p a v s h => answers_of_eq rfl (regCmd_actCmd (by decide) h),
    fun p a v s h => answers_of_eq rfl (regCmd_actCmd (by decide) h),
    fun p a v s h => answers_of_eq rfl (regCmd_actCmd (by decide) h),
    fun a s h1 hl hd hb hf => actLoad_loads h1 hl hd hb hf,
    fun a s h5 => ⟨actUnload_inTrack h5, actHold_inTrack h5⟩,
    fun a s h5 => actRetract_inTrack h5,
    fun a s h2 ht => answers_of_eq rfl (loadFail_fails h2 ht),
    fun a s h => answers_of_eq rfl (loadFail_notDue h),
    fun a s h34 ht => answers_of_eq rfl (seekTimeout_aborts h34 ht),
    fun a s ht => answers_of_eq rfl (seekTimeout_notDue ht),
    fun a s h7 => answers_of_eq rfl (rampStop_unloaded h7),
    fun a s h7 => answers_of_eq rfl (rampStop_notUnloading h7),
    fun a s h8 ht => answers_of_eq rfl (retractDone_due h8 ht),
    fun a s h8 => answers_of_eq rfl (retractDone_notRetracting h8)⟩

end Sys2Proof.Machine
end

section
/-!
SUPPORT and settlement. Gust ports (R183 to R186), Bridle links (R187 to R189) and VCM ports (R190 to R192), each operation case
by case.
-/

namespace Sys2Proof.Machine

open Sys2Proof

/-! ### Gust ports (R183 to R186) -/

section
variable {s : State} {n : Nat}

theorem gustFrame_off {f : Nat} (he : s.gustEn n = false) : s.gustFrame n f = s := if_pos (by simp [he])

theorem gustTrip_tooFew (hn : (s.gust n).tripRun < s.gustTripN n) : s.gustTrip n = s :=
  if_neg fun e => Nat.not_le.2 hn e.2.1

theorem gustTripClear_held (hw : s.held n (s.gust n).within = true) (hg : s.held n (s.gust n).goodSince = true) :
    s.gustTripClear n = (s.setFlag (R.SRV_GUST_STAT_LOST n) false).setFlag (R.SRV_GUST_STAT_TRIPPED n) false := by
  have found : (s.flag (R.SRV_GUST_STAT_LOST n) && !s.held n (s.gust n).goodSince) = false := by simp [hg]
  simp only [State.gustTripClear, found, hw]
  exact if_pos rfl

theorem gustTimeout_notDue (ht : s.now < (s.gust n).goodAt + s.get (R.SRV_GUST_TIME_TMO n) * 1000) : s.gustTimeout n = s :=
  if_neg fun e => by simp [passed_of_lt ht] at e

theorem gustCrcLoss_tooFew (hc : (s.gust n).crcRun < 3) : s.gustCrcLoss n = s := if_neg fun e => Nat.not_le.2 hc e.2

section
variable (he : s.gustEn n = true)
include he

theorem gustFrame_badCrc {f : Nat} (hf : frameOk f = false) : s.gustFrame n f =
    ((s.bump (R.SRV_GUST_STAT_CRC_CNT n) 1).modGust n (fun g => { g with crcRun := g.crcRun + 1 })).ldgProtocol 8 n :=
  (if_neg (by simp [he])).trans (if_pos (by simp [hf]))

theorem gustFrame_within {f : Nat} (hf : frameOk f = true)
    (hl : (signedOf (bitsOf f 24 16) 16).natAbs ≤ s.get (R.SRV_GUST_TRIP_TRIP_LIN n))
    (hr : (signedOf (bitsOf f 8 16) 16).natAbs ≤ s.get (R.SRV_GUST_TRIP_TRIP_ROT n)) : s.gustFrame n f =
      ((s.set (R.SRV_GUST_LAST_LIN n) (bitsOf f 24 16)).set (R.SRV_GUST_LAST_ROT n) (bitsOf f 8 16)).modGust n (fun g =>
        { g with tripRun := 0, crcRun := 0, goodAt := s.now, within := some (g.within.getD s.now),
                 goodSince := some (g.goodSince.getD s.now) }) := by
  have small : (decide (s.get (R.SRV_GUST_TRIP_TRIP_LIN n) < (signedOf (bitsOf f 24 16) 16).natAbs)
      || decide (s.get (R.SRV_GUST_TRIP_TRIP_ROT n) < (signedOf (bitsOf f 8 16) 16).natAbs)) = false := by
    simp [Nat.not_lt.2 hl, Nat.not_lt.2 hr]
  refine ((if_neg (by simp [he])).trans (if_neg (by simp [hf]))).trans ?_
  simp only [small]
  rfl

theorem gustTrip_trips (hn : s.gustTripN n ≤ (s.gust n).tripRun) (h0 : 0 < (s.gust n).tripRun) :
    s.gustTrip n = s.gustTripped n :=
  if_pos ⟨he, hn, h0⟩

theorem gustTimeout_due (ht : (s.gust n).goodAt + s.get (R.SRV_GUST_TIME_TMO n) * 1000 ≤ s.now) :
    s.gustTimeout n = (s.gustLost n).ldgProtocol 8 n :=
  if_pos ⟨he, passed_of_le ht⟩

theorem gustCrcLoss_loses (hc : 3 ≤ (s.gust n).crcRun) : s.gustCrcLoss n = s.gustLost n := if_pos ⟨he, hc⟩

end
end

/-! ### Bridle links (R187 to R189) -/

section
variable {s : State} {a : Nat}

/-- On a live link a head in FOLLOW gets its loop's output, and one in CENTER gets 0. -/
theorem bridleCmd_sends {ch : Nat} (ho : s.bridleOn a = true) (hl : (s.act a).linkUp = true)
    (hb : s.bstateOf (6 * a + ch) ≠ 0) {v : Int}
    (hv : (if s.bstateOf (6 * a + ch) = 2 then (s.hsv (6 * a + ch)).out else 0) = v) :
    s.bridleCmd a ch = (s.modHsv (6 * a + ch) (fun x => { x with u := v })).bridleSend a ch v := by
  subst hv
  exact if_neg (by simp [ho, hl, hb])

/-- The frame of one channel waits for its reply. -/
theorem bridleSend_channel {ch : Nat} (hc : ch < 6) (v : Int) : s.bridleSend a ch v = s.modAct a (fun x =>
    { x with frame := bridleFrame ch v x.seq, await := x.await ++ [(ch, x.seq)], seq := (x.seq + 1) % 16, sentAt := s.now,
             lastCmd := x.lastCmd.set ch v }) := by
  simp only [State.bridleSend, if_pos hc]

theorem bridleReply_noneAwaited {f : Option Nat} (hw : (s.act a).await = []) : s.bridleReply a f = s := by
  simp only [State.bridleReply, hw]

section
variable {ch seq : Nat} {r : List (Nat × Nat)} (hw : (s.act a).await = (ch, seq) :: r)
include hw

theorem bridleReply_missing : s.bridleReply a none = (s.ldgProtocol 4 a).modAct a (fun x =>
    { x with await := r, badRun := x.badRun + 1, goodRun := 0 }) := by
  simp [State.bridleReply, hw]

theorem bridleReply_good {f : Nat} (hc : ch < 6) (hf : frameOk f = true) (h6 : bitsOf f 36 4 = 6)
    (hch : bitsOf f 33 3 = ch) (hseq : bitsOf f 26 4 = seq) (hfl : bitsOf f 30 3 = 0) :
    s.bridleReply a (some f) = s.modAct a (fun x => { x with await := r, badRun := 0, goodRun := x.goodRun + 1,
                                                             sense := x.sense.set ch (signedOf (bitsOf f 10 16) 16) }) := by
  have notRegister : ch ≠ 7 := by omega
  simp [State.bridleReply, hw, hf, h6, hch, hseq, hfl, hc, notRegister]

end

theorem bridleRefresh_notDue (ht : s.now < (s.act a).sentAt + 10000) : s.bridleRefresh a = s :=
  if_pos (.inr (by simp [passed_of_lt ht]))

theorem bridleCenter_sends (ho : s.bridleOn a = true) : s.bridleCenter a =
    ((headsOf a).foldl (fun (t : State) h => t.modHsv h (fun x => { x with u := 0 })) s).bridleSend a 6 0 :=
  if_pos ho

theorem bridleRefresh_linkDown (ho : s.bridleOn a = true) (ht : (s.act a).sentAt + 10000 ≤ s.now)
    (hl : (s.act a).linkUp = false) : s.bridleRefresh a = s.bridleCenter a :=
  (if_neg (by simp [ho, passed_of_le ht])).trans (if_pos (.inl (by simp [hl])))

theorem bridleDown_stays (hb : (s.act a).badRun < 3) (hf : (s.act a).flagged = false) : s.bridleDown a = s :=
  if_neg (by simp [hf, Nat.not_le.2 hb])

theorem bridleDown_badReplies (hi : s.bridleFit a = true) (hl : (s.act a).linkUp = true) (hb : 3 ≤ (s.act a).badRun)
    (hf : (s.act a).flagged = false) (hh : (headsOf a).any (fun h => s.bstateOf h == 2) = false) : s.bridleDown a =
      ((((s.modAct a (fun y => { y with linkUp := false, goodRun := 0 })).fault .srv (8 + a)).sourceOnHeads
        (headsOf a) 8).refreshHeads a).actUnload a := by
  refine (if_pos ⟨hi, hl, .inl hb⟩).trans ?_
  simp only [hf, hh]
  rfl

theorem bridleUp_tooFew (hg : (s.act a).goodRun < 3) : s.bridleUp a = s := if_neg fun e => Nat.not_le.2 hg e.2

theorem bridleUp_reopens (hl : (s.act a).linkUp = false) (hg : 3 ≤ (s.act a).goodRun) : s.bridleUp a =
    ((s.modAct a (fun x => { x with linkUp := true, flagged := false, badRun := 0 })).refreshHeads a).linkReopen a :=
  if_pos ⟨by simp [hl], hg⟩

end

/-! ### VCM ports (R190 to R192) -/

section
variable {s : State} {a bits : Nat}

/-- The bits of VCM_a_ISD after `bits` more of them. -/
def State.vcmBits (s : State) (a bits : Nat) : Nat := ((s.act a).isd * 2 ^ 64 + bits % 2 ^ 64) % 2 ^ 190

/-- The state with the current sample of those bits in SRV_a_VCM_I. -/
def State.vcmMeasured (s : State) (a bits : Nat) : State :=
  (s.vcmFilter (s.vcmBits a bits)).2.setInt (R.SRV_VCM_I_I_MEAS a) (s.vcmFilter (s.vcmBits a bits)).1

/-- The bridge of actuator `a` drives: it is enabled, the actuator is neither OFF nor in RAMP, and VCM_a_FLT_N is high. -/
def State.vcmDriven (s : State) (a : Nat) : Bool :=
  s.flag (R.SRV_VCM_PWM_EN a) && decide (2 ≤ s.actState a) && !(s.act a).fltLow

/-- The regulator's new sum and output for that sample. -/
def State.vcmRegulated (s : State) (a bits : Nat) : Int × Int :=
  regulator ((s.vcmMeasured a bits).get (R.SRV_VCM_PI_KP a)) ((s.vcmMeasured a bits).get (R.SRV_VCM_PI_KI a))
    ((s.vcmMeasured a bits).getInt (R.SRV_VCM_I_I_CMD a) - (s.vcmFilter (s.vcmBits a bits)).1)
    ((s.vcmMeasured a bits).act a).sum

/-- An open rounding takes at most a free value. -/
theorem openDiv_takesFree (s : State) (n : Int) (d : Nat) : ∃ k, (s.openDiv n d).2 = { s with free := k } := by
  unfold State.openDiv
  split
  · exact ⟨s.free, rfl⟩
  · exact ⟨s.free + 1, rfl⟩

theorem vcmFilter_takesFree (s : State) (w : Nat) : ∃ k, (s.vcmFilter w).2 = { s with free := k } := openDiv_takesFree s _ _

theorem vcmMeasured_get {f : Fld} (hf : f.addr ≠ R.A_SRV_VCM_I a) : (s.vcmMeasured a bits).get f = s.get f := by
  obtain ⟨k, free⟩ := vcmFilter_takesFree s (s.vcmBits a bits)
  rw [State.vcmMeasured, free]
  exact get_set_ne _ _ _ _ hf

theorem vcmMeasured_act (b : Nat) : (s.vcmMeasured a bits).act b = s.act b := by
  obtain ⟨k, free⟩ := vcmFilter_takesFree s (s.vcmBits a bits)
  rw [State.vcmMeasured, free]
  rfl

theorem vcmMeasured_actState : (s.vcmMeasured a bits).actState a = s.actState a :=
  vcmMeasured_get (by unfold R.SRV_ACT_STAT_STATE R.A_SRV_ACT_STAT R.A_SRV_VCM_I; simp)

/-- A current sample leaves the bridge as it was, driven or not. -/
theorem vcmMeasured_driven : (s.vcmMeasured a bits).vcmDriven a = s.vcmDriven a := by
  have enable : (s.vcmMeasured a bits).flag (R.SRV_VCM_PWM_EN a) = s.flag (R.SRV_VCM_PWM_EN a) :=
    congrArg (· == 1) (vcmMeasured_get (by unfold R.SRV_VCM_PWM_EN R.A_SRV_VCM_PWM R.A_SRV_VCM_I; simp))
  unfold State.vcmDriven
  rw [enable, vcmMeasured_actState, vcmMeasured_act]

/-- The effect of that sample with the sum and output `drive` of the regulator, outside LOAD and UNLOAD. -/
def State.vcmDrive (s : State) (a bits : Nat) (drive : Int × Int) : State :=
  (s.vcmMeasured a bits).modAct a (fun y =>
    { y with isd := s.vcmBits a bits, sum := drive.1, duty := drive.2,
             pwm := vcmHigh ((s.vcmMeasured a bits).get (R.SRV_VCM_PWM_PER a)) drive.2,
             overRun := (if (s.vcmMeasured a bits).get (R.SRV_VCM_PWM_IMAX a)
               < 2 * (s.vcmFilter (s.vcmBits a bits)).1.natAbs then y.overRun + 1 else 0), count16 := 0 })

/-- Outside LOAD and UNLOAD a current sample triggers no velocity loop; the regulator runs, or stands at 0 without drive. -/
theorem vcmSample_noVelocityLoop (h2 : s.actState a ≠ 2) (h7 : s.actState a ≠ 7) : s.vcmSample a bits =
    s.vcmDrive a bits (if s.vcmDriven a then s.vcmRegulated a bits else (0, 0)) := by
  have noLoop : (decide ((s.vcmMeasured a bits).actState a = 2) || decide ((s.vcmMeasured a bits).actState a = 7)) = false := by
    simp [vcmMeasured_actState, h2, h7]
  rw [← vcmMeasured_driven (bits := bits)]
  -- The filter's sum over 190 bits must not be evaluated when the definition's pairs are taken apart, so its result is made
  -- opaque first.
  refine (?_ : Holds (fun F => F s a bits = s.vcmDrive a bits
    (if (s.vcmMeasured a bits).vcmDriven a then s.vcmRegulated a bits else (0, 0))) @State.vcmSample).h
  delta State.vcmSample State.vcmDrive State.vcmRegulated State.vcmDriven
  unfold State.vcmMeasured at noLoop ⊢
  refine ⟨?_⟩
  beta_reduce
  extract_lets isd
  have bitsEq : s.vcmBits a bits = isd := rfl
  rw [bitsEq] at noLoop ⊢
  clear_value isd
  generalize s.vcmFilter isd = p at noLoop ⊢
  obtain ⟨i, s0⟩ := p
  dsimp -zeta only at noLoop ⊢
  generalize s0.setInt (R.SRV_VCM_I_I_MEAS a) i = u at noLoop ⊢
  extract_lets s1 err x st on vel s2
  simp only [s2, vel, on, st, x, err, s1, noLoop, Bool.false_and, Bool.false_eq_true, if_false, apply_ite Prod.fst,
    apply_ite Prod.snd]

theorem vcmSample_driven (h2 : s.actState a ≠ 2) (h7 : s.actState a ≠ 7) (hd : s.vcmDriven a = true) :
    s.vcmSample a bits = s.vcmDrive a bits (s.vcmRegulated a bits) := by
  rw [vcmSample_noVelocityLoop h2 h7, if_pos hd]

theorem vcmSample_offOrRamp (h : s.actState a < 2) : s.vcmSample a bits = s.vcmDrive a bits (0, 0) := by
  have undriven : s.vcmDriven a = false := by simp [State.vcmDriven, Nat.not_le.2 h]
  rw [vcmSample_noVelocityLoop (by omega) (by omega), if_neg (by simp [undriven])]

theorem vcmOver_overCurrent (ho : 8 ≤ (s.act a).overRun) : s.vcmOver a = (s.fault .srv (12 + a)).actRetract a := if_pos ho

theorem vcmOver_tooFew (ho : (s.act a).overRun < 8) : s.vcmOver a = s := if_neg (Nat.not_le.2 ho)

end

/-- Settles O14: each command ends with its operation, in one of the cases above. That a lost Gust port trips too and that a low
VCM fault line clears PWM.EN are log entry 39, the partner codes of the records are log entry 41, and the free rounding of a
filtered sample is log entry 1: the model's readings. -/
theorem gustBridleVcmComplete : Obligations.GustBridleVcmComplete := by
  unfold Obligations.GustBridleVcmComplete
  exact ⟨
    fun n f s he hf => answers_of_eq rfl (gustFrame_badCrc he hf),
    fun n f s he hf hl hr => answers_of_eq rfl (gustFrame_within he hf hl hr),
    fun n f s he => answers_of_eq rfl (gustFrame_off he),
    fun n s he hn h0 => answers_of_eq rfl (gustTrip_trips he hn h0),
    fun n s hn => answers_of_eq rfl (gustTrip_tooFew hn),
    fun n s hw hg => answers_of_eq rfl (gustTripClear_held hw hg),
    fun n s he ht => answers_of_eq rfl (gustTimeout_due he ht),
    fun n s ht => answers_of_eq rfl (gustTimeout_notDue ht),
    fun n s he hc => answers_of_eq rfl (gustCrcLoss_loses he hc),
    fun n s hc => answers_of_eq rfl (gustCrcLoss_tooFew hc),
    fun n s _ => rfl,
    fun a ch s ho hl hb => answers_of_eq rfl (bridleCmd_sends ho hl (by simp [hb]) (if_pos hb)),
    fun a ch s ho hl hb => answers_of_eq rfl (bridleCmd_sends ho hl (by simp [hb]) (if_neg (by simp [hb]))),
    fun a ch v s => bridleSend_channel ch.isLt v,
    fun a ch seq r s hw => answers_of_eq rfl (bridleReply_missing hw),
    fun a f ch seq r s hw hc hf h6 hch hseq hfl => answers_of_eq rfl (bridleReply_good hw hc hf h6 hch hseq hfl),
    fun a f s hw => answers_of_eq rfl (bridleReply_noneAwaited hw),
    fun a s ho ht hl => answers_of_eq rfl ((bridleRefresh_linkDown ho ht hl).trans (bridleCenter_sends ho)),
    fun a s ht => answers_of_eq rfl (bridleRefresh_notDue ht),
    fun a s hi hl hb hf hh => answers_of_eq rfl (bridleDown_badReplies hi hl hb hf hh),
    fun a s hb hf => answers_of_eq rfl (bridleDown_stays hb hf),
    fun a s hl hg => answers_of_eq rfl (bridleUp_reopens hl hg),
    fun a s hg => answers_of_eq rfl (bridleUp_tooFew hg),
    fun a bits s h2 h7 he hs hf => answers_of_eq rfl (vcmSample_driven h2 h7 (by simp [State.vcmDriven, he, hs, hf])),
    fun a bits s h => answers_of_eq rfl (vcmSample_offOrRamp h),
    fun a s ho => answers_of_eq rfl (vcmOver_overCurrent ho),
    fun a s ho => answers_of_eq rfl (vcmOver_tooFew ho),
    fun a s => answers_of_eq rfl rfl,
    fun a s => answers_of_eq rfl rfl⟩

end Sys2Proof.Machine
end

section
/-!
SUPPORT and settlement. Jobs of the control engine (R203, R205, R209, R212, R213), each operation case by case.
-/

namespace Sys2Proof.Machine

open Sys2Proof

@[simp] theorem State.setCle_cle (s : State) (c : CleSt) : (s.setCle c).cle = c := rfl

section
variable {s : State}

/-! ### The start of a job (R205, R209) -/

/-- The lowest lane without a job. -/
def State.freeLane (s : State) : Option Nat := (List.range 2).find? fun i => ((s.cle.lanes[i]?).getD none).isNone

theorem freeLane_both (hl : s.cle.lanes = [none, none]) : s.freeLane = some 0 := by simp [State.freeLane, hl]

theorem freeLane_second {x : CleJob × Nat} (hl : s.cle.lanes = [some x, none]) : s.freeLane = some 1 := by
  simp [State.freeLane, hl, List.range_succ]

theorem freeLane_none {x y : CleJob × Nat} (hl : s.cle.lanes = [some x, some y]) : s.freeLane = none := by
  simp [State.freeLane, hl, List.range_succ]

/-- The committed set of job `j`, read when the job has left the queue `j :: r`. -/
def State.headRead (s : State) (j : CleJob) (r : List CleJob) : Bool × State :=
  (s.setCle { s.cle with queue := r }).setRead j.loop j.set

theorem jobStart_noJob (hq : s.cle.queue = []) : s.jobStart = s := by simp only [State.jobStart, hq]

theorem jobStart_noLane (hl : s.freeLane = none) : s.jobStart = s := by
  unfold State.freeLane at hl
  cases hq : s.cle.queue with
  | nil => exact jobStart_noJob hq
  | cons j r => simp only [State.jobStart, hq, hl]

section
variable {j : CleJob} {r : List CleJob} {i : Nat} (hq : s.cle.queue = j :: r) (hl : s.freeLane = some i)
include hq hl

/-- The job at the head of the queue goes to the free lane, or its set is damage and faults its loop. -/
theorem jobStart_head : s.jobStart =
    if (s.headRead j r).1 && setValid (s.cleSet j.loop j.set) then
      (s.headRead j r).2.setCle { (s.headRead j r).2.cle with
        lanes := (s.headRead j r).2.cle.lanes.set i (some (j, s.now)) }
    else ((s.headRead j r).2.fault .cle 3).loopFault j.loop := by
  unfold State.freeLane at hl
  unfold State.headRead
  simp only [State.jobStart, hq, hl]

theorem jobStart_takesLane (hr : (s.headRead j r).1 = true) (hv : setValid (s.cleSet j.loop j.set) = true) :
    s.jobStart = (s.headRead j r).2.setCle { (s.headRead j r).2.cle with
      lanes := (s.headRead j r).2.cle.lanes.set i (some (j, s.now)) } :=
  (jobStart_head hq hl).trans (if_pos (by rw [hr, hv]; rfl))

theorem jobStart_damagedSet (h : (s.headRead j r).1 = false ∨ setValid (s.cleSet j.loop j.set) = false) :
    s.jobStart = ((s.headRead j r).2.fault .cle 3).loopFault j.loop :=
  (jobStart_head hq hl).trans (if_neg (by rcases h with h | h <;> simp [h]))

end

/-! ### The end of a job (R203, R212) -/

section
variable {i : Nat}

theorem jobEnd_idleLane (hl : (s.cle.lanes[i]?).getD none = none) : s.jobEnd i = s := by simp only [State.jobEnd, hl]

section
variable {j : CleJob} {t : Nat} (hl : (s.cle.lanes[i]?).getD none = some (j, t))
include hl

theorem jobEnd_inTime (hd : s.now ≤ j.deadline) :
    s.jobEnd i = (s.setCle { s.cle with lanes := s.cle.lanes.set i none }).finishJob j := by
  simp only [State.jobEnd, hl]
  exact if_neg (Nat.not_lt.2 hd)

theorem jobEnd_late (hd : j.deadline < s.now) : s.jobEnd i = s.cleOverrun j.loop := by
  simp only [State.jobEnd, hl]
  exact if_pos hd

end
end

/-- The input of job `j`, and whether it saturated. -/
def State.jobIn (s : State) (j : CleJob) : Int × Bool := jobInput (s.cleSet j.loop j.set) (s.cleLoop j.loop).prev j

/-- What job `j` of a loop of one channel computes from the section states that its loop holds. -/
def State.jobRun (s : State) (j : CleJob) : JobOut :=
  runChannel (s.cleSet j.loop j.set) (s.jobIn j).1 (s.injValue j.loop).1 j.f0 j.f1 (s.get R.CLE_INJ_CTRL_POINT == 1) 0
    (s.cleLoop j.loop).s1 (s.cleLoop j.loop).s2

/-- The loop's states, counters and output register after that computation. -/
def State.jobStored (s : State) (j : CleJob) : State :=
  (((((s.injValue j.loop).2.modLoop j.loop (fun l => { l with
    s1 := (s.jobRun j).s1, s2 := (s.jobRun j).s2, prev := (s.jobIn j).1, lastSet := some j.set, ovr := false })).set
      (R.CLE_LOOP_STAT_RUN j.loop) 0).set (R.CLE_LOOP_STAT_SET j.loop) j.set).bump (R.CLE_LOOP_CNT_JOBS j.loop) 1).setInt
        (R.CLE_LOOP_OUT_OUT j.loop) (s.jobRun j).out

/-- Its latency, flags and seek reference are recorded, its output is delivered and captured, and the injection goes on. -/
def State.jobDelivered (s : State) (j : CleJob) : State :=
  (((((((s.jobStored j).jobLat j).jobFlags j (s.jobRun j).acc ((s.jobRun j).clip || (s.jobIn j).2) (s.jobRun j).lim).seekBack
    j).deliver j.loop (s.jobRun j).out (s.jobRun j).out).capture j.loop j.stamp (s.injValue j.loop).1 (s.jobRun j).x
      (s.jobRun j).out false).injAdvance j.loop).injCheck j.loop

/-- A job of a loop of one channel, under the set of the loop's last job, goes on from the loop's section states. -/
theorem finishJob_oneChannel {j : CleJob} (hj : j.loop < 28) (hs : (s.cleLoop j.loop).lastSet = some j.set) :
    s.finishJob j = if (s.jobDelivered j).flag (R.CLE_LOOP_CTRL_EN j.loop) then s.jobDelivered j
      else (s.jobDelivered j).loopOutputs j.loop := by
  have one : j.loop ≠ 28 := by omega
  have sameSet : ¬((s.cleLoop j.loop).lastSet ≠ some j.set ∧ !setKeep (s.cleSet j.loop j.set)) := fun e => e.1 hs
  have noQ : ¬(j.loop = 28 ∧ s.flag R.CLE_CAP_CTRL_QSEL = true) := fun e => one e.1
  simp only [State.finishJob, if_neg sameSet, if_neg one, if_neg noQ, Bool.or_self]
  rfl

/-! ### Overruns (R212, R213) -/

theorem cancelJobs_noJob (n : Nat) : (s.cancelJobs n).hasJob n = false := by
  have queue : (s.cle.queue.filter (fun j => j.loop != n)).any (fun j => j.loop == n) = false := by simp
  simp only [State.hasJob, State.cancelJobs, State.setCle_cle, queue, Bool.false_or, List.any_map, List.any_eq_false]
  intro lane _
  rcases lane with _ | ⟨j, t⟩
  · simp
  · by_cases hj : j.loop = n
    · simp [hj]
    · simp [hj]

section
variable {n : Nat}

theorem jobOverrun_noJob (hj : s.jobOf n = none) : s.jobOverrun n = s := by simp only [State.jobOverrun, hj]

section
variable {j : CleJob} (hj : s.jobOf n = some j)
include hj

theorem jobOverrun_due (hd : j.deadline ≤ s.now) : s.jobOverrun n = s.cleOverrun n := by
  simp only [State.jobOverrun, hj]
  exact if_pos hd

theorem jobOverrun_notDue (hd : s.now < j.deadline) : s.jobOverrun n = s := by
  simp only [State.jobOverrun, hj]
  exact if_neg (Nat.not_le.2 hd)

/-- The length of the loop's run of overruns with one more. -/
def State.overrunLength (s : State) (n : Nat) : Nat := satN (s.get (R.CLE_LOOP_STAT_RUN n) + 1) 15

/-- The loop's jobs are cancelled, and the overrun is counted and flagged. -/
def State.overrunCounted (s : State) (n : Nat) : State :=
  ((((s.cancelJobs n).modLoop n (fun l => { l with ovr := true })).setFlag (R.CLE_LOOP_STAT_OVR n) true).bump
    (R.CLE_LOOP_OVR_OVERRUNS n) 1).set (R.CLE_LOOP_STAT_RUN n) (s.overrunLength n)

/-- The overrun job is recorded, and its heads are cut from its start on. -/
def State.overrunCut (s : State) (n : Nat) (j : CleJob) : State :=
  ((((s.overrunCounted n).captureOverrun n j).injAdvance n).fault .cle 0).loopSource n 3 j.from0

theorem cleOverrun_job : s.cleOverrun n =
    if (s.overrunCut n j).get (R.CLE_LOOP_CTRL_OVR_RUN n) ≤ s.overrunLength n then (s.overrunCut n j).loopFault n
    else s.overrunCut n j := by
  simp only [State.cleOverrun, hj]
  rfl

end
end
end

/-- Settles O15: each command ends with its operation, in one of the cases above. That the waiting jobs of a disabled loop still
run is log entry 60, that an overrun job advances the waveform and is recorded with its held output is log entry 61, that flips
which a read does not report leave a job's set as it was is log entry 137, and the free error of an injected sine is log entry 1:
the model's readings. -/
theorem controlEngineJobsComplete : Obligations.ControlEngineJobsComplete := by
  unfold Obligations.ControlEngineJobsComplete
  exact ⟨
    fun j r s hq hl hr hv => answers_of_eq rfl (jobStart_takesLane hq (freeLane_both hl) hr hv),
    fun j k t r s hq hl hr hv => answers_of_eq rfl (jobStart_takesLane hq (freeLane_second hl) hr hv),
    fun j r s hq hl h => answers_of_eq rfl (jobStart_damagedSet hq (freeLane_both hl) h),
    fun j k t u s hl => answers_of_eq rfl (jobStart_noLane (freeLane_none hl)),
    fun s hq => answers_of_eq rfl (jobStart_noJob hq),
    fun i j t s hl hd => answers_of_eq rfl (jobEnd_inTime hl hd),
    fun i j t s hl hd => answers_of_eq rfl (jobEnd_late hl hd),
    fun i s hl => answers_of_eq rfl (jobEnd_idleLane hl),
    fun j s hj hs => finishJob_oneChannel hj hs,
    fun n j s hj hd => answers_of_eq rfl (jobOverrun_due hj hd),
    fun n j s hj hd => answers_of_eq rfl (jobOverrun_notDue hj hd),
    fun n s hj => answers_of_eq rfl (jobOverrun_noJob hj),
    fun n j s hj => cleOverrun_job hj,
    fun n s => cancelJobs_noJob n.val⟩

end Sys2Proof.Machine
end

section
/-!
SUPPORT and settlement. Register commands of the control engine, commits, injection and capture (R206, R213 to R216), each
operation case by case.
-/

namespace Sys2Proof.Machine

open Sys2Proof

/-- A register at `a` of the control engine's own: no window, no fault register, no array word. -/
def CleReg (a : Nat) : Prop :=
  (0x03500000 ≤ a ∧ a < 0x03600000) ∧ a % 4 = 0 ∧ taskWindow a = none ∧ (regAt a).isSome = true ∧ fltOfStat a = none ∧
    fltOfMask a = none ∧ allFltRegs.any (fun r => (r.sevFld 0).addr == a || (r.sevFld 12).addr == a) = false ∧
    arrayKeyOf a = none

theorem cleReg_commit : CleReg R.A_CLE_COMMIT := by
  unfold CleReg
  decide +kernel

theorem cleReg_injCtrl : CleReg R.A_CLE_INJ_CTRL := by
  unfold CleReg
  decide +kernel

theorem cleReg_capCtrl : CleReg R.A_CLE_CAP_CTRL := by
  unfold CleReg
  decide +kernel

theorem cleReg_loopCtrl : ∀ n : LoopN, CleReg (R.A_CLE_LOOP_CTRL n.val) := by
  unfold CleReg
  decide +kernel

theorem cleReg_loopStat : ∀ n : LoopN, CleReg (R.A_CLE_LOOP_STAT n.val) := by
  unfold CleReg
  decide +kernel

section
variable {s : State}

/-! ### Writes of the engine's registers -/

theorem storeReg_cle (s : State) (p : Path) (a : Nat) (v : Word) : (s.storeReg p a v).cle = s.cle := by
  unfold State.storeReg
  cases regAt a with
  | none => rfl
  | some d => rfl

theorem storeReg_hasJob (s : State) (p : Path) (a : Nat) (v : Word) (n : Nat) :
    (s.storeReg p a v).hasJob n = s.hasJob n := by simp only [State.hasJob, storeReg_cle]

/-- A one-bit field is that bit of its register. -/
theorem flag_bit (s : State) (a i : Nat) : s.flag ⟨a, i, i⟩ = bitOf (s.rd a).toNat i := by
  simp [State.flag, State.get, Fld.width, bitOf_eq]

theorem afterWrite_cle {a : Nat} (ha : 0x03500000 ≤ a ∧ a < 0x03600000) (old v : Nat) :
    s.afterWrite a old v = s.hookCle a old v := by
  unfold State.afterWrite
  rw [if_neg (by omega), if_neg (by omega), if_neg (by omega), if_neg (by omega), if_neg (by omega), if_neg (by omega),
    if_neg (by omega), if_pos ha.2]

/-- A write that such a register takes is stored, and the engine acts on it. -/
theorem regCmd_cle {p : Path} {a : Nat} {v : Word} (hc : CleReg a) (h : s.takes p a v = true) :
    s.regCmd p a v = (s.storeReg p a v).hookCle a (s.rd a).toNat v.toNat := by
  obtain ⟨block, ha, ht, hd, h1, h2, h3, h4⟩ := hc
  rw [regCmd_plain s p a v h ha ht hd h1 h2 h3 h4, afterWrite_cle block]

/-! ### Loops (R213, R214) -/

section
variable {n : LoopN} {old v : Nat}

theorem hookCle_loopCtrl : s.hookCle (R.A_CLE_LOOP_CTRL n.val) old v =
    (let t := if bitOf v 1 then s.loopCntClr n.val else s
     if bitOf old 0 && !bitOf v 0 && !t.hasJob n.val then t.loopOutputs n.val else t) := by
  have inst : (0x03500100 + 0x20 * n.val - 0x03500100) / 32 = n.val := by omega
  unfold State.hookCle R.A_CLE_COMMIT R.A_CLE_INJ_CTRL R.A_CLE_CAP_CTRL R.A_CLE_LOOP_CTRL
  rw [if_neg (by omega), if_neg (by omega), if_neg (by omega), if_pos (by omega), inst, if_pos (by omega)]

/-- A cleared FAULTED restarts the loop. -/
theorem hookCle_loopStat (hv : bitOf v 4 = true) (ho : bitOf old 4 = true) :
    s.hookCle (R.A_CLE_LOOP_STAT n.val) old v = s.loopRestart n.val := by
  have inst : (0x03500104 + 0x20 * n.val - 0x03500100) / 32 = n.val := by omega
  unfold State.hookCle R.A_CLE_COMMIT R.A_CLE_INJ_CTRL R.A_CLE_CAP_CTRL R.A_CLE_LOOP_STAT
  rw [if_neg (by omega), if_neg (by omega), if_neg (by omega), if_pos (by omega), inst, if_neg (by omega),
    if_pos ⟨by omega, hv, ho⟩]

end

section
variable {n : LoopN} {p : Path} {v : Word}

theorem regCmd_restart (hf : s.flag (R.CLE_LOOP_STAT_FAULTED n.val) = true)
    (h : s.takes p (R.A_CLE_LOOP_STAT n.val) (withBits v 4 1 1) = true) :
    s.regCmd p (R.A_CLE_LOOP_STAT n.val) (withBits v 4 1 1) =
      (s.storeReg p (R.A_CLE_LOOP_STAT n.val) (withBits v 4 1 1)).loopRestart n.val :=
  (regCmd_cle (cleReg_loopStat n) h).trans
    (hookCle_loopStat (withBits_bit_same v 4 1 (by decide)) ((flag_bit s _ 4).symm.trans hf))

section
variable (hv : bitOf v.toNat 1 = false) (h : s.takes p (R.A_CLE_LOOP_CTRL n.val) (withBits v 0 1 0) = true)
include hv h

/-- A write of EN = 0 without CNT_CLR acts on the output of a loop that was enabled and has no job. -/
theorem regCmd_disable : s.regCmd p (R.A_CLE_LOOP_CTRL n.val) (withBits v 0 1 0) =
    if s.flag (R.CLE_LOOP_CTRL_EN n.val) && !s.hasJob n.val then
      (s.storeReg p (R.A_CLE_LOOP_CTRL n.val) (withBits v 0 1 0)).loopOutputs n.val
    else s.storeReg p (R.A_CLE_LOOP_CTRL n.val) (withBits v 0 1 0) := by
  have counters : bitOf (withBits v 0 1 0).toNat 1 = false := (withBits_bit_other v 0 1 0 1 (by decide) (by decide)).trans hv
  have enable : bitOf (withBits v 0 1 0).toNat 0 = false := withBits_bit_same v 0 0 (by decide)
  have was : s.flag (R.CLE_LOOP_CTRL_EN n.val) = bitOf (s.rd (R.A_CLE_LOOP_CTRL n.val)).toNat 0 := flag_bit s _ 0
  rw [regCmd_cle (cleReg_loopCtrl n) h, hookCle_loopCtrl, was]
  simp only [counters, enable, storeReg_hasJob, Bool.false_eq_true, if_false, Bool.not_false, Bool.and_true]

theorem regCmd_disable_idle (he : s.flag (R.CLE_LOOP_CTRL_EN n.val) = true) (hj : s.hasJob n.val = false) :
    s.regCmd p (R.A_CLE_LOOP_CTRL n.val) (withBits v 0 1 0) =
      (s.storeReg p (R.A_CLE_LOOP_CTRL n.val) (withBits v 0 1 0)).loopOutputs n.val :=
  (regCmd_disable hv h).trans (if_pos (by simp [he, hj]))

theorem regCmd_disable_storesOnly (hj : s.hasJob n.val = true ∨ s.flag (R.CLE_LOOP_CTRL_EN n.val) = false) :
    s.regCmd p (R.A_CLE_LOOP_CTRL n.val) (withBits v 0 1 0) = s.storeReg p (R.A_CLE_LOOP_CTRL n.val) (withBits v 0 1 0) :=
  (regCmd_disable hv h).trans (if_neg (by rcases hj with hj | hj <;> simp [hj]))

end

theorem regCmd_counterClear (hv : bitOf v.toNat 0 = true)
    (h : s.takes p (R.A_CLE_LOOP_CTRL n.val) (withBits v 1 1 1) = true) :
    s.regCmd p (R.A_CLE_LOOP_CTRL n.val) (withBits v 1 1 1) =
      (s.storeReg p (R.A_CLE_LOOP_CTRL n.val) (withBits v 1 1 1)).loopCntClr n.val := by
  have counters : bitOf (withBits v 1 1 1).toNat 1 = true := withBits_bit_same v 1 1 (by decide)
  have enable : bitOf (withBits v 1 1 1).toNat 0 = true := (withBits_bit_other v 1 1 1 0 (by decide) (by decide)).trans hv
  rw [regCmd_cle (cleReg_loopCtrl n) h, hookCle_loopCtrl]
  simp only [counters, enable, Bool.not_true, Bool.and_false, Bool.false_and, Bool.false_eq_true, if_true, if_false]

end

/-! ### Commits (R206) -/

theorem regCmd_commit {p : Path} {v : Word} (h : s.takes p R.A_CLE_COMMIT v = true) : s.regCmd p R.A_CLE_COMMIT v =
    (s.storeReg p R.A_CLE_COMMIT v).cleCommit (bitsOf v.toNat 0 5) (bitsOf v.toNat 8 2) :=
  (regCmd_cle cleReg_commit h).trans (if_pos rfl)

/-- The words of the staged set. -/
def State.stagedSet (s : State) : List Nat := (List.range 32).map (fun i => s.get (R.CLE_STAGE_WORD i))

section
variable {n k : Nat} (hn : n < 30) (hc : s.cle.commit = none)
include hn hc

theorem cleCommit_none : s.cleCommit n k =
    if stageOk n s.stagedSet then s.setCle { s.cle with commit := some (n, k, s.stagedSet) } else s.fault .cle 3 :=
  if_neg (by simp [hc, Nat.not_le.2 hn])

theorem cleCommit_waits (hs : stageOk n s.stagedSet = true) :
    s.cleCommit n k = s.setCle { s.cle with commit := some (n, k, s.stagedSet) } :=
  (cleCommit_none hn hc).trans (if_pos hs)

theorem cleCommit_refused (hs : stageOk n s.stagedSet = false) : s.cleCommit n k = s.fault .cle 3 :=
  (cleCommit_none hn hc).trans (if_neg (by simp [hs]))

end

theorem commitCopy_none (hc : s.cle.commit = none) : s.commitCopy = s := by simp only [State.commitCopy, hc]

section
variable {n k : Nat} {ws : List Nat} (hc : s.cle.commit = some (n, k, ws))
include hc

theorem commitCopy_copies (hj : s.hasJob n = false) : s.commitCopy =
    (s.arrayStored 0x40 0 (0x400 + 64 * n + 16 * k) 16).setCle { s.cle with
      commit := none, sets := (ws.zipIdx).foldl (fun m e => setCnt m (128 * n + 32 * k + e.2) e.1) s.cle.sets } := by
  simp only [State.commitCopy, hc]
  exact if_neg (by simp [hj])

theorem commitCopy_waits (hj : s.hasJob n = true) : s.commitCopy = s := by
  simp only [State.commitCopy, hc]
  exact if_pos hj

end

/-! ### Injection and capture (R215, R216) -/

section
variable {p : Path} {v : Word}

theorem regCmd_injEnable (he : s.flag R.CLE_INJ_CTRL_EN = false)
    (hs : (s.storeReg p R.A_CLE_INJ_CTRL (withBits v 31 1 1)).flag R.CLE_INJ_CTRL_EN = true)
    (h : s.takes p R.A_CLE_INJ_CTRL (withBits v 31 1 1) = true) :
    s.regCmd p R.A_CLE_INJ_CTRL (withBits v 31 1 1) =
      (s.storeReg p R.A_CLE_INJ_CTRL (withBits v 31 1 1)).injEnable := by
  have was : bitOf (s.rd R.A_CLE_INJ_CTRL).toNat 31 = false := (flag_bit s _ 31).symm.trans he
  refine (regCmd_cle cleReg_injCtrl h).trans ((if_neg (by decide)).trans ((if_pos rfl).trans (if_pos ?_)))
  simp only [hs, was, Bool.not_false, Bool.and_true]

theorem regCmd_captureArm (h : s.takes p R.A_CLE_CAP_CTRL (withBits v 31 1 1) = true) :
    s.regCmd p R.A_CLE_CAP_CTRL (withBits v 31 1 1) = (s.storeReg p R.A_CLE_CAP_CTRL (withBits v 31 1 1)).capArm :=
  (regCmd_cle cleReg_capCtrl h).trans ((if_neg (by decide)).trans ((if_neg (by decide)).trans
    ((if_pos rfl).trans (if_pos (withBits_bit_same v 31 1 (by decide))))))

end
end

/-- Settles O16: each command ends with its operation, in one of the cases above. That a write keeps the bits that its command is
named for is log entry 7; that a loop disabled with a job waiting or under way acts on its output only later, and that a commit
keeps the staged words as they are at its write, is log entry 60: the model's readings. -/
theorem controlEngineCommandsComplete : Obligations.ControlEngineCommandsComplete := by
  unfold Obligations.ControlEngineCommandsComplete
  exact ⟨
    fun p n v s hf h => answers_of_eq rfl (regCmd_restart hf h),
    fun p n v s he hv hj h => answers_of_eq rfl (regCmd_disable_idle hv h he hj),
    fun p n v s hv hj h => answers_of_eq rfl (regCmd_disable_storesOnly hv h hj),
    fun p n v s hv h => answers_of_eq rfl (regCmd_counterClear hv h),
    fun p v s _ _ _ h => answers_of_eq rfl (regCmd_commit h),
    fun n k s hn hc hs => cleCommit_waits hn hc hs,
    fun n k s hn hc hs => cleCommit_refused hn hc hs,
    fun n k ws s hc hj => answers_of_eq rfl (commitCopy_copies hc hj),
    fun n k ws s hc hj => answers_of_eq rfl (commitCopy_waits hc hj),
    fun s hc => answers_of_eq rfl (commitCopy_none hc),
    fun p v s he hs h => answers_of_eq rfl (regCmd_injEnable he hs h),
    fun p v s h => answers_of_eq rfl (regCmd_captureArm h)⟩

end Sys2Proof.Machine
end

section
/-!
SUPPORT. Fields that a write of another field leaves alone, and the spindle's state and the observer's lock under the
spindle's own updates (Tables 9-4 and 9-10).
-/

namespace Sys2Proof.Machine

open Sys2Proof

/-! ### Fields apart -/

/-- The two fields have no bit in common. -/
def Fld.apart (f g : Fld) : Bool :=
  decide (f.addr ≠ g.addr) || decide (f.lo + f.width ≤ g.lo) || decide (g.lo + g.width ≤ f.lo)

section
variable {s : State} {f g : Fld}

/-- A field that has no bit in common with the one set reads as before. -/
theorem get_set_apart (h : f.apart g = true) (hf : f.lo + f.width ≤ 32) (x : Nat) : (s.set f x).get g = s.get g := by
  rcases ne_or_eq g.addr f.addr with other | same
  · exact get_set_ne s f g x other
  · unfold State.get State.set
    rw [same, rd_wr_same, BitVec.toNat_ofNat, Nat.mod_eq_of_lt (putBits_lt _ _ _ _ (s.rd f.addr).isLt hf)]
    simp only [Fld.apart, same, Bool.or_eq_true, decide_eq_true_eq] at h
    rcases h with (ne | below) | above
    · exact absurd rfl ne
    · exact bitsOf_putBits_above _ _ _ _ _ _ below
    · exact bitsOf_putBits_below _ _ _ _ _ _ above

theorem flag_set_apart (h : f.apart g = true) (hf : f.lo + f.width ≤ 32) (x : Nat) : (s.set f x).flag g = s.flag g :=
  congrArg (· == 1) (get_set_apart h hf x)

theorem get_setFlag_apart (h : f.apart g = true) (hf : f.lo + f.width ≤ 32) (b : Bool) :
    (s.setFlag f b).get g = s.get g :=
  get_set_apart h hf (b2n b)

/-- A one-bit field reads as it was set. -/
theorem flag_setFlag_same (h : f.lo = f.hi) (hf : f.hi < 32) (b : Bool) : (s.setFlag f b).flag f = b := by
  have bit : f.width = 1 := by unfold Fld.width; omega
  unfold State.flag State.setFlag
  rw [get_set_same s f _ (by omega) hf, bit]
  cases b <;> rfl

end

/-! ### The spindle's state and the observer's lock -/

section
variable {s : State}

theorem spnState_setFlag {f : Fld} (h : f.apart R.SPN_STAT_STATE = true) (hf : f.lo + f.width ≤ 32) (b : Bool) :
    (s.setFlag f b).spnState = s.spnState :=
  get_setFlag_apart h hf b

theorem modSpn_modSpn (f g : SpnSt → SpnSt) : (s.modSpn f).modSpn g = s.modSpn (fun x => g (f x)) := rfl

@[simp] theorem get_modSpn (g : SpnSt → SpnSt) (f : Fld) : (s.modSpn g).get f = s.get f := rfl

@[simp] theorem flag_modSpn (g : SpnSt → SpnSt) (f : Fld) : (s.modSpn g).flag f = s.flag f := rfl

@[simp] theorem spnState_modSpn (g : SpnSt → SpnSt) : (s.modSpn g).spnState = s.spnState := get_modSpn g _

@[simp] theorem obsLocked_modSpn (g : SpnSt → SpnSt) : (s.modSpn g).obsLocked = s.obsLocked := flag_modSpn g _

theorem obsLocked_set {f : Fld} (h : f.apart R.SPN_STAT_OBS_LOCK = true) (hf : f.lo + f.width ≤ 32) (x : Nat) :
    (s.set f x).obsLocked = s.obsLocked :=
  flag_set_apart h hf x

/-- Entering a state enters that state. -/
theorem spnEnter_spnState {st : Nat} (h : st < 16) : (s.spnEnter st).spnState = st := by
  unfold State.spnEnter
  extract_lets lim s1 s2
  have entered : s1.spnState = st := (spnState_modSpn _).trans
    ((get_set_same s R.SPN_STAT_STATE st (by decide) (by decide)).trans (Nat.mod_eq_of_lt h))
  have kept : s2.spnState = st := iteInduction (motive := fun t : State => t.spnState = st) (fun _ => entered)
    fun _ => (spnState_setFlag (by decide) (by decide) _).trans entered
  exact iteInduction (motive := fun t : State => t.spnState = st) (fun _ => kept)
    fun _ => (spnState_setFlag (by decide) (by decide) _).trans kept

end
end Sys2Proof.Machine
end

section
/-!
SUPPORT and settlement. Commands of SPN_CTRL and SPN_TARGET, the spin-up, AT_SPEED and rest (R231 to R233), each operation case
by case.
-/

namespace Sys2Proof.Machine

open Sys2Proof

section
variable {s : State}

/-! ### CMD = START, BRAKE and COAST (R231) -/

theorem spnListen_unlocked (ho : s.obsLocked = false) (renewed : Bool) : s.spnListen renewed =
    (s.set R.SPN_STAT_TRIES 0).modSpn (fun x =>
      { x with listenAt := some s.now, retryAt := none, renewed := renewed, startNext := none }) := by
  unfold State.spnListen
  extract_lets s1
  have unlocked : s1.obsLocked = false := (obsLocked_modSpn _).trans ((obsLocked_set (by decide) (by decide) 0).trans ho)
  exact if_neg (by simp [unlocked])

/-- Without EN, with a stage fault's line low or after a supply loss START has no effect. -/
theorem spnStart_noEffect (h : s.flag R.SPN_CTRL_EN = false ∨ s.spn.fltLow = true ∨ s.spn.lost = true) : s.spnStart = s :=
  if_pos (by rcases h with h | h | h <;> simp [State.spnStartOk, h])

section
variable (hok : s.spnStartOk = true)
include hok

theorem spnStart_inStop (h0 : s.spnState = 0) (hl : s.spn.listenAt = none) (ho : s.obsLocked = false) : s.spnStart =
    ((s.setBrakePend false).set R.SPN_STAT_TRIES 0).modSpn (fun x =>
      { x with listenAt := some s.now, retryAt := none, renewed := false, startNext := none }) := by
  have unlocked : (s.setBrakePend false).obsLocked = false := (obsLocked_set (by decide) (by decide) _).trans ho
  refine (if_neg (by simp [hok])).trans ?_
  simp only [h0, hl, Option.isSome_none, Bool.false_eq_true, if_false]
  exact spnListen_unlocked unlocked false

theorem spnStart_inBrake (h5 : s.spnState = 5) : s.spnStart = (s.setBrakePend false).spnEnter 3 := by
  refine (if_neg (by simp [hok])).trans ?_
  simp only [h5]

theorem spnStart_inShort (h6 : s.spnState = 6) :
    s.spnStart = (s.setBrakePend false).modSpn (fun x => { x with startNext := some false }) := by
  refine (if_neg (by simp [hok])).trans ?_
  simp only [h6]

theorem spnStart_inCoast (h7 : s.spnState = 7) : s.spnStart = (s.setBrakePend false).spnCatch true := by
  refine (if_neg (by simp [hok])).trans ?_
  simp only [h7]

/-- From ALIGN to RUN, and in CATCH, START clears brake pending. -/
theorem spnStart_turning (h : s.spnState = 1 ∨ s.spnState = 2 ∨ s.spnState = 3 ∨ s.spnState = 4 ∨ s.spnState = 8) :
    s.spnStart = s.setBrakePend false := by
  refine (if_neg (by simp [hok])).trans ?_
  rcases h with h | h | h | h | h <;> simp only [h]

end

theorem spnBrake_atSpeed (h : s.spnState = 3 ∨ s.spnState = 4) : s.spnBrake = (s.setBrakePend true).spnEnter 5 := by
  rcases h with h | h <;> simp only [State.spnBrake, h]

/-- In ALIGN and RAMP BRAKE makes COAST due at the next period boundary. -/
theorem spnBrake_spinUp (h : s.spnState = 1 ∨ s.spnState = 2) :
    s.spnBrake = (s.setBrakePend true).modSpn (fun x => { x with next := some .coast }) := by
  rcases h with h | h <;> simp only [State.spnBrake, h]

theorem spnBrake_pends (h : s.spnState = 5 ∨ s.spnState = 6 ∨ s.spnState = 7 ∨ s.spnState = 8) :
    s.spnBrake = s.setBrakePend true := by
  rcases h with h | h | h | h <;> simp only [State.spnBrake, h]

theorem spnBrake_noEffect (h : s.spnState = 9 ∨ (s.spnState = 0 ∧ s.spn.listenAt = none)) : s.spnBrake = s := by
  rcases h with h | ⟨h, hl⟩
  · simp only [State.spnBrake, h]
  · simp only [State.spnBrake, h, hl]
    rfl

theorem spnCoast_coasts (h0 : s.spnState ≠ 0) (h7 : s.spnState ≠ 7) (h9 : s.spnState ≠ 9) : s.spnCoast = s.spnEnter 7 := by
  unfold State.spnCoast
  split
  · contradiction
  · contradiction
  · contradiction
  · rfl

theorem spnCoast_noEffect (h : s.spnState = 0 ∨ s.spnState = 7 ∨ s.spnState = 9) : s.spnCoast = s := by
  rcases h with h | h | h <;> simp only [State.spnCoast, h]

/-! ### STOP (R231, Table 9-8) -/

theorem spnStop_noStart (hn : s.spn.startNext = none) :
    s.spnStop = ((s.spnEnter 0).setBrakePend false).modSpn (fun x => { x with startNext := none }) := by
  simp only [State.spnStop, hn]

/-! ### Writes of SPN_CTRL and SPN_TARGET (Tables 9-9 and 9-11) -/

section
variable {p : Path} {v : Word}

/-- A write that SPN_CTRL takes is stored and followed. -/
theorem regCmd_spnCtrl (h : s.takes p R.A_SPN_CTRL v = true) : s.regCmd p R.A_SPN_CTRL v =
    (s.storeReg p R.A_SPN_CTRL v).hookSpn R.A_SPN_CTRL (s.rd R.A_SPN_CTRL).toNat v.toNat :=
  regCmd_plain s p R.A_SPN_CTRL v h rfl (by decide) (by decide) (by decide) (by decide) (by decide) (by decide)

/-- With EN and BAL_EN in force a write of CMD = `c` gives the spindle that command. -/
theorem regCmd_spnCmd {c : Nat} (hc : c < 2 ^ 3) (he : bitOf v.toNat 0 = true) (hb : bitOf v.toNat 2 = true)
    (h : s.takes p R.A_SPN_CTRL (withBits v 8 3 c) = true) : s.regCmd p R.A_SPN_CTRL (withBits v 8 3 c) =
      (s.storeReg p R.A_SPN_CTRL (withBits v 8 3 c)).spnCmd c := by
  have enabled : bitOf (withBits v 8 3 c).toNat 0 = true := (withBits_bit_other v 8 3 c 0 (by decide) (by decide)).trans he
  have ballast : bitOf (withBits v 8 3 c).toNat 2 = true := (withBits_bit_other v 8 3 c 2 (by decide) (by decide)).trans hb
  have cmd : bitsOf (withBits v 8 3 c).toNat 8 3 = c :=
    (withBits_same v 8 3 c (by decide)).trans (Nat.mod_eq_of_lt hc)
  rw [regCmd_spnCtrl h, State.hookSpn, if_pos rfl, if_pos enabled, if_pos ballast, cmd]

theorem regCmd_spnDisable (he : s.flag R.SPN_CTRL_EN = true) (hb : bitOf v.toNat 2 = true)
    (h : s.takes p R.A_SPN_CTRL (withBits v 0 1 0) = true) : s.regCmd p R.A_SPN_CTRL (withBits v 0 1 0) =
      (s.storeReg p R.A_SPN_CTRL (withBits v 0 1 0)).spnDisable := by
  have disabled : ¬ bitOf (withBits v 0 1 0).toNat 0 = true := by simp [withBits_bit_same v 0 0 (by decide)]
  have ballast : bitOf (withBits v 0 1 0).toNat 2 = true := (withBits_bit_other v 0 1 0 2 (by decide) (by decide)).trans hb
  have was : bitOf (s.rd R.A_SPN_CTRL).toNat 0 = true := (flag_bit s _ 0).symm.trans he
  rw [regCmd_spnCtrl h, State.hookSpn, if_pos rfl, if_neg disabled, if_pos was, if_pos ballast]

theorem spnDisable_stops : s.spnDisable =
    (((s.modSpn (fun x => { x with startNext := none })).spnEnter 0).setBrakePend false).modSpn (fun x =>
      { x with startNext := none }) :=
  spnStop_noStart rfl

theorem regCmd_spnTarget (h : s.takes p R.A_SPN_TARGET v = true) :
    s.regCmd p R.A_SPN_TARGET v = (s.storeReg p R.A_SPN_TARGET v).spnTarget :=
  regCmd_plain s p R.A_SPN_TARGET v h rfl (by decide) (by decide) (by decide) (by decide) (by decide) (by decide)

end

theorem spnTarget_inRun (h4 : s.spnState = 4) : s.spnTarget = s.spnEnter 3 := if_pos h4

theorem spnTarget_notInRun (h4 : s.spnState ≠ 4) : s.spnTarget = s := if_neg h4

/-! ### The spin-up (R232) -/

theorem spnListenEnd_noListen (hl : s.spn.listenAt = none) : s.spnListenEnd = s := by simp only [State.spnListenEnd, hl]

section
variable {t : Nat} (hl : s.spn.listenAt = some t) (h0 : s.spnState = 0) (ht : t + 20000000 ≤ s.now)
  (ho : s.obsLocked = false)
include hl h0 ht ho

theorem spnListenEnd_over : s.spnListenEnd =
    if s.brakePend then (s.setBrakePend false).modSpn (fun x => { x with listenAt := none })
    else (s.spnEnter 1).modSpn (fun x => { x with alignAt := s.now }) := by
  simp only [State.spnListenEnd, hl]
  exact if_pos ⟨h0, passed_of_le ht, by simp [ho]⟩

theorem spnListenEnd_aligns (hb : s.brakePend = false) :
    s.spnListenEnd = (s.spnEnter 1).modSpn (fun x => { x with alignAt := s.now }) :=
  (spnListenEnd_over hl h0 ht ho).trans (if_neg (by simp [hb]))

theorem spnListenEnd_braked (hb : s.brakePend = true) :
    s.spnListenEnd = (s.setBrakePend false).modSpn (fun x => { x with listenAt := none }) :=
  (spnListenEnd_over hl h0 ht ho).trans (if_pos hb)

end

theorem rampEnd_locked (h2 : s.spnState = 2) (ho : s.obsLocked = true) (hn : s.spn.next = none) :
    s.rampEnd = (s.spnEnter 3).modSpn (fun x => { x with ref := x.obsSpeed * 1000000000 / 256 }) :=
  if_pos ⟨h2, ho, by simp [hn]⟩

theorem rampEnd_unlocked (ho : s.obsLocked = false) : s.rampEnd = s := if_neg fun e => by simp [ho] at e

theorem spnAlignEnd_due (h1 : s.spnState = 1) (ht : s.spn.stateAt + s.get R.SPN_START_ALIGN_T * 1000000 ≤ s.now)
    (hn : s.spn.next = none) : s.spnAlignEnd = (s.spnEnter 2).rampEnd :=
  if_pos ⟨h1, passed_of_le ht, by simp [hn]⟩

/-- A COAST that is due at the next boundary ends ALIGN. -/
theorem spnAlignEnd_coastDue (hn : s.spn.next = some .coast) : s.spnAlignEnd = s := if_neg fun e => e.2.2 hn

theorem spnAlignEnd_notDue (h : s.spnState ≠ 1 ∨ s.now < s.spn.stateAt + s.get R.SPN_START_ALIGN_T * 1000000) :
    s.spnAlignEnd = s :=
  if_neg fun e => h.elim (fun h1 => h1 e.1) (fun ht => by simp [passed_of_lt ht] at e)

section
variable (h2 : s.spnState = 2) (ht : s.spn.stateAt + s.get R.SPN_START_RAMP_TMO * 10000000 ≤ s.now)
  (h15 : s.get R.SPN_STAT_TRIES < 15)
include h2 ht h15

/-- The try counts; the last one fails, and another follows after a coast. -/
theorem spnRampTimeout_due : s.spnRampTimeout =
    if s.get R.SPN_START_TRIES ≤ s.get R.SPN_STAT_TRIES + 1 then
      (s.spnStop.set R.SPN_STAT_TRIES (s.get R.SPN_STAT_TRIES + 1)).fault .spn (if s.spn.renewed then 2 else 12)
    else (s.spnStop.set R.SPN_STAT_TRIES (s.get R.SPN_STAT_TRIES + 1)).modSpn (fun x => { x with retryAt := some s.now }) := by
  have counted : satN (s.get R.SPN_STAT_TRIES + 1) 15 = s.get R.SPN_STAT_TRIES + 1 := if_pos h15
  refine (if_pos ⟨h2, passed_of_le ht⟩).trans ?_
  simp only [counted]

theorem spnRampTimeout_retries (hn : s.get R.SPN_STAT_TRIES + 1 < s.get R.SPN_START_TRIES) : s.spnRampTimeout =
    (s.spnStop.set R.SPN_STAT_TRIES (s.get R.SPN_STAT_TRIES + 1)).modSpn (fun x => { x with retryAt := some s.now }) :=
  (spnRampTimeout_due h2 ht h15).trans (if_neg (Nat.not_le.2 hn))

theorem spnRampTimeout_fails (hn : s.get R.SPN_START_TRIES ≤ s.get R.SPN_STAT_TRIES + 1) : s.spnRampTimeout =
    (s.spnStop.set R.SPN_STAT_TRIES (s.get R.SPN_STAT_TRIES + 1)).fault .spn (if s.spn.renewed then 2 else 12) :=
  (spnRampTimeout_due h2 ht h15).trans (if_pos hn)

end

theorem spnRampTimeout_notDue (h : s.spnState ≠ 2 ∨ s.now < s.spn.stateAt + s.get R.SPN_START_RAMP_TMO * 10000000) :
    s.spnRampTimeout = s :=
  if_neg fun e => h.elim (fun h2 => h2 e.1) (fun ht => by simp [passed_of_lt ht] at e)

theorem spnRetryEnd_noRetry (hr : s.spn.retryAt = none) : s.spnRetryEnd = s := by simp only [State.spnRetryEnd, hr]

theorem spnRetryEnd_due {t : Nat} (hr : s.spn.retryAt = some t) (h0 : s.spnState = 0) (ht : t + 1000000000 ≤ s.now) :
    s.spnRetryEnd = s.spnEnter 1 := by
  simp only [State.spnRetryEnd, hr]
  exact if_pos ⟨h0, passed_of_le ht⟩

/-! ### AT_SPEED and rest (R226, R233) -/

section
variable (h3 : s.spnState = 3) (hn : 64 ≤ s.spn.atRun)
include h3 hn

theorem atSpeed_reached :
    s.atSpeed = ((s.spnEnter 4).modSpn (fun x => { x with renewed := false })).setFlag R.SPN_STAT_AT_SPEED true :=
  if_pos ⟨h3, hn⟩

theorem speedReached_inRun : s.speedReached =
    (((s.spnEnter 4).modSpn (fun x => { x with renewed := false })).setFlag R.SPN_STAT_AT_SPEED true).relockArm := by
  have run : s.atSpeed.spnState = 4 := by
    rw [atSpeed_reached h3 hn]
    exact (spnState_setFlag (by decide) (by decide) true).trans
      ((spnState_modSpn _).trans (spnEnter_spnState (by decide)))
  exact (if_pos ⟨h3, run⟩).trans (congrArg State.relockArm (atSpeed_reached h3 hn))

end

theorem speedReached_notYet (h : s.spnState ≠ 3 ∨ s.spn.atRun < 64) : s.speedReached = s := by
  have stays : s.atSpeed = s := if_neg fun e => h.elim (fun h3 => h3 e.1) (fun hn => Nat.not_le.2 hn e.2)
  refine (if_neg fun e => ?_).trans stays
  rw [stays] at e
  omega

theorem restReached_noRest (hr : s.spn.rest = none) : s.restReached = s := by simp only [State.restReached, hr]

section
variable {t : Nat} (hr : s.spn.rest = some t) (ht : t + 500000000 ≤ s.now)
include hr ht

theorem restReached_inShort (h6 : s.spnState = 6) : s.restReached = s.spnStop := by
  simp only [State.restReached, hr]
  exact (if_pos ⟨passed_of_le ht, .inl h6⟩).trans (if_neg (by simp [h6]))

theorem restReached_inCoast (h7 : s.spnState = 7) (hh : s.stageHeld = true) (hl : s.spn.lost = false) :
    s.restReached = s.spnStop := by
  simp only [State.restReached, hr]
  exact (if_pos ⟨passed_of_le ht, .inr ⟨h7, hh⟩⟩).trans (if_neg (by simp [hl]))

end
end

/-- Settles O9: each command ends with its operation, in one of the cases above. That a write keeps the bits that its command is
named for is log entry 7; that a START in SHORT listens after rest, that a retry's coast shows as STOP, and that a rotor in COAST
after a supply loss stays there are log entry 63: the model's readings. -/
theorem spindleCommandsComplete : Obligations.SpindleCommandsComplete := by
  unfold Obligations.SpindleCommandsComplete
  exact ⟨
    fun p v s he hb h => answers_of_eq rfl (regCmd_spnCmd (by decide) he hb h),
    fun p v s he hb h => answers_of_eq rfl (regCmd_spnCmd (by decide) he hb h),
    fun p v s he hb h => answers_of_eq rfl (regCmd_spnCmd (by decide) he hb h),
    fun s hok h0 hl ho => spnStart_inStop hok h0 hl ho,
    fun s hok h5 => spnStart_inBrake hok h5,
    fun s hok h6 => spnStart_inShort hok h6,
    fun s hok h7 => spnStart_inCoast hok h7,
    fun s hok h => spnStart_turning hok h,
    fun s h => spnStart_noEffect h,
    fun s h => spnBrake_atSpeed h,
    fun s h => spnBrake_spinUp h,
    fun s h => spnBrake_pends h,
    fun s h => spnBrake_noEffect h,
    fun s h0 h7 h9 => spnCoast_coasts h0 h7 h9,
    fun s h => spnCoast_noEffect h,
    fun p v s he hb h => answers_of_eq rfl ((regCmd_spnDisable he hb h).trans spnDisable_stops),
    fun p v s h4 h => answers_of_eq rfl ((regCmd_spnTarget h).trans (spnTarget_inRun h4)),
    fun p v s h4 h => answers_of_eq rfl ((regCmd_spnTarget h).trans (spnTarget_notInRun h4)),
    fun t s hl h0 ht ho hb => answers_of_eq rfl (spnListenEnd_aligns hl h0 ht ho hb),
    fun t s hl h0 ht ho hb => answers_of_eq rfl (spnListenEnd_braked hl h0 ht ho hb),
    fun s hl => answers_of_eq rfl (spnListenEnd_noListen hl),
    fun s h1 ht hn => answers_of_eq rfl (spnAlignEnd_due h1 ht hn),
    fun s _ hn => answers_of_eq rfl (spnAlignEnd_coastDue hn),
    fun s h => answers_of_eq rfl (spnAlignEnd_notDue h),
    fun s h2 ho hn => rampEnd_locked h2 ho hn,
    fun s ho => rampEnd_unlocked ho,
    fun s h2 ht hn h15 => answers_of_eq rfl (spnRampTimeout_retries h2 ht h15 hn),
    fun s h2 ht hn h15 => answers_of_eq rfl (spnRampTimeout_fails h2 ht h15 hn),
    fun s h => answers_of_eq rfl (spnRampTimeout_notDue h),
    fun t s hr h0 ht => answers_of_eq rfl (spnRetryEnd_due hr h0 ht),
    fun s hr => answers_of_eq rfl (spnRetryEnd_noRetry hr),
    fun s h3 hn => answers_of_eq rfl (speedReached_inRun h3 hn),
    fun s h => answers_of_eq rfl (speedReached_notYet h),
    fun t s hr ht h6 => answers_of_eq rfl (restReached_inShort hr ht h6),
    fun t s hr ht h7 hh hl => answers_of_eq rfl (restReached_inCoast hr ht h7 hh hl),
    fun s hr => answers_of_eq rfl (restReached_noRest hr),
    fun s hn => spnStop_noStart hn⟩

end Sys2Proof.Machine
end

section
/-!
SUPPORT and settlement. Current samples, fast bus samples, PWM periods, the observer and catch-spin (R220 to R222, R226 to R230,
R234, R237), each operation case by case.
-/

namespace Sys2Proof.Machine

open Sys2Proof

section
variable {s : State}

/-! ### Current samples (R220, R222, R227) -/

theorem currentSample_samples (hr : s.inReset .spn = false) (o : SpnObs) :
    s.currentSample o = (s.spnSamples o).2.sampled (s.now - 5000) (s.spnSamples o).1 :=
  if_neg (by simp [hr])

theorem currentSample_inReset (hr : s.inReset .spn = true) (o : SpnObs) : s.currentSample o = s := if_pos hr

section
variable {t : Nat} {x : SpnSample}

theorem sampled_checks {v f : State} {i : Int × Int} (hv : (s.set R.SPN_VBUS_MV (satN x.mv 65535)).spnAngles t x = v)
    (hf : v.spnCurrents t x = (i, f)) : s.sampled t x =
      ((((((f.speedCheck t).flyCheck).shortCheck x.vab).restTrack x).holdTrack x.mv).currentJob t i.1 i.2).speedJob t x.mv := by
  simp only [State.sampled, hv, hf]

theorem spnAngles_tether (ha : s.tetherAngle = true) {th te : Nat} {u : State} (hu : s.tetherAt t = (th, u))
    (he : tetherElec (s.get R.SPN_MOTOR_PP) th (s.get R.SPN_MOTOR_THETA_OFS) = te) : s.spnAngles t x =
      ((((u.observerStep (s.backEmf x) te).observerRuns (s.backEmf x)).angleSample te).spnNoAngle).speedSample t th
        s.spn.obsAngle := by
  subst he
  -- The pair that the definition takes apart must not be evaluated: it is made opaque before the definition is unfolded.
  refine (?_ : Holds (fun F => F s t x = ((((u.observerStep (s.backEmf x) _).observerRuns (s.backEmf x)).angleSample
    _).spnNoAngle).speedSample t th s.spn.obsAngle) @State.spnAngles).h
  delta State.spnAngles
  refine ⟨?_⟩
  beta_reduce
  rw [if_pos ha, hu]

end

/-! ### Fast bus samples (R220, R237) -/

theorem fastSample_decides {bits mv : Nat} {u : State} (hu : s.fastMv bits = (mv, u)) (balIs supok : Bool) :
    s.fastSample bits balIs supok = u.fastDecide mv balIs supok := by
  refine (?_ : Holds (fun F => F s bits balIs supok = u.fastDecide mv balIs supok) @State.fastSample).h
  delta State.fastSample
  refine ⟨?_⟩
  beta_reduce
  rw [hu]

section
variable {mv : Nat} {balIs supok : Bool}

/-- Since when BAL_G is high after a fast sample of `mv`. -/
def State.gateNext (s : State) (mv : Nat) : Option Nat :=
  if s.flag R.SPN_CTRL_BAL_EN && !s.balFaulted && !s.inReset .spn then
    match s.spn.gateAt with
    | some t => if mv ≤ s.get R.SPN_BAL_BAL_OFF ∧ s.passed t 1000 then none else some t
    | none => if s.get R.SPN_BAL_BAL_ON ≤ mv then some s.now else none
  else none

theorem gateNext_disabled (he : s.flag R.SPN_CTRL_BAL_EN = false) : s.gateNext mv = none := if_neg (by simp [he])

section
variable (he : s.flag R.SPN_CTRL_BAL_EN = true) (hb : s.balFaulted = false) (hr : s.inReset .spn = false)
include he hb hr

theorem gateNext_opens (hg : s.spn.gateAt = none) (hm : s.get R.SPN_BAL_BAL_ON ≤ mv) : s.gateNext mv = some s.now := by
  refine (if_pos (by simp [he, hb, hr])).trans ?_
  simp only [hg, if_pos hm]

theorem gateNext_closes {t : Nat} (hg : s.spn.gateAt = some t) (hm : mv ≤ s.get R.SPN_BAL_BAL_OFF)
    (ht : t + 1000 ≤ s.now) : s.gateNext mv = none := by
  refine (if_pos (by simp [he, hb, hr])).trans ?_
  simp only [hg]
  exact if_pos ⟨hm, passed_of_le ht⟩

end

/-- A fast sample moves the gate, and the runs and times of the bus, of BAL_IS and of SUPOK follow. -/
theorem fastDecide_gate {g : Option Nat} (hg : s.gateNext mv = g) : s.fastDecide mv balIs supok = ((s.modSpn (fun y =>
    { y with uvRun := (if mv < s.get R.SPN_BUS_VBUS_UV then satN (y.uvRun + 1) 65535 else 0),
             ovRun := (if 14400 ≤ mv then satN (y.ovRun + 1) 65535 else 0),
             balRun := (if g.isSome && decide (13800 ≤ mv) then satN (y.balRun + 1) 65535 else 0),
             below := (if mv < 13800 then some (y.below.getD s.now) else none), gateAt := g,
             isAt := (if balIs then some (y.isAt.getD s.now) else none),
             isSeen := (if s.spn.gateAt.isNone then balIs else y.isSeen || balIs),
             supLow := (if supok then none else some (y.supLow.getD s.now)),
             supHigh := (if supok then some (y.supHigh.getD s.now) else none) })).setFlag
      R.SPN_STAT_BAL_GATE g.isSome).setFlag R.SPN_STAT_SUPOK supok := by
  unfold State.fastDecide
  extract_lets gate faulted ctl newGate s1
  have moved : newGate = g := by
    rw [← hg, State.gateNext]
    unfold newGate
    change (if !ctl then _ else _) = if ctl then _ else _
    cases ctl <;> rfl
  unfold s1
  rw [moved]

end

/-! ### PWM periods (R221, R223) -/

/-- The start of a period: the next PWM period is in force in STOP, and what was due is taken up. -/
def State.boundary (s : State) : State :=
  let s1 := s.modSpn (fun y => { y with
    next := none, per := (if s.spnState = 0 then s.get R.SPN_PWM_PER else y.per)
    catchPer := (if s.spnState = 8 ∧ y.catchRun then y.catchPer + 1 else y.catchPer) })
  match s.spn.next with
  | some .coast => s1.spnEnter 7
  | some .skip => s1.modSpn (fun y => { y with en := y.en && !decide (s.getInt R.SPN_IDQ_IQ * (s.spn.speed : Int) < 0) })
  | none => s1.modSpn (fun y => { y with
      en := ((1 ≤ s.spnState && s.spnState ≤ 6) || s.spnState == 9 || (s.spnState == 8 && y.catchRun))
        && !s.inReset .spn && !y.fltLow })

/-- A period's limited outputs `m` as phase duties, field weakening and the slew of the reference. -/
def State.periodOutputs (m : (Int × Int) × Bool × State) : State :=
  (((((m.2.2.modSpn (fun y => { y with duty := m.1 })).setFlag R.SPN_STAT_MOD_LIM m.2.1).setDuties m.1).fieldWeak).slewRef
    (5 * m.2.2.spn.per)).syncCorr

theorem pwmPeriod_outputs : s.pwmPeriod = State.periodOutputs s.boundary.modLimit := by
  unfold State.pwmPeriod
  extract_lets regen due s1 st s2
  have start : s2 = s.boundary := rfl
  rw [start]
  generalize s.boundary.modLimit = m
  obtain ⟨v, lim, s3⟩ := m
  rfl

/-- Outputs of 0 are within every limit. -/
theorem modLimit_zero (hd : s.spn.vd = 0) (hq : s.spn.vq = 0) : s.modLimit = ((0, 0), false, s) := by
  unfold State.modLimit
  extract_lets d q mx vd n r
  have within : ¬ mx * mx < d * d + q * q := by
    rw [show d = 0 from hd, show q = 0 from hq]
    exact not_lt.2 (mul_self_nonneg mx)
  rw [if_neg within, show d = 0 from hd, show q = 0 from hq]

theorem boundary_inStop (h0 : s.spnState = 0) (hn : s.spn.next = none) :
    s.boundary = s.modSpn (fun y => { y with next := none, per := s.get R.SPN_PWM_PER, en := false }) := by
  simp only [State.boundary, hn, h0]
  rfl

theorem openDiv_pair (s : State) (n : Int) (d : Nat) : ∃ x k, s.openDiv n d = (x, { s with free := k }) := by
  obtain ⟨k, free⟩ := openDiv_takesFree s n d
  exact ⟨(s.openDiv n d).1, k, Prod.ext rfl free⟩

/-- Limiting the outputs takes at most a free value, and so does extrapolating the angle. -/
theorem modLimit_takesFree (s : State) : ∃ v lim k, s.modLimit = (v, lim, { s with free := k }) := by
  unfold State.modLimit
  extract_lets d q mx vd n r
  clear_value d q mx vd n r
  by_cases beyond : mx * mx < d * d + q * q
  · rw [if_pos beyond]
    by_cases square : r * r = n
    · rw [if_pos square]
      exact ⟨_, _, s.free, rfl⟩
    · rw [if_neg square]
      exact ⟨_, _, s.free + 1, rfl⟩
  · rw [if_neg beyond]
    exact ⟨_, _, s.free, rfl⟩

theorem forcedAngle_takesFree (s : State) (t : Nat) : ∃ a k, s.forcedAngle t = (a, { s with free := k }) := by
  unfold State.forcedAngle
  split
  · extract_lets n
    obtain ⟨x, k, divided⟩ := openDiv_pair s (Int.ofNat n) (120 * 10 ^ 18)
    rw [divided]
    exact ⟨_, k, rfl⟩
  · exact ⟨_, s.free, rfl⟩

theorem nextAngle_takesFree (s : State) : ∃ a k, s.nextAngle = (a, { s with free := k }) := by
  unfold State.nextAngle
  extract_lets mid
  split
  · exact forcedAngle_takesFree s mid
  · obtain ⟨x, k, divided⟩ := openDiv_pair s
      ((s.spn.speed * s.get R.SPN_MOTOR_PP * (mid - s.spn.samp.1) * 65536 : Nat) : Int) 15360000000000
    rw [divided]
    exact ⟨_, k, rfl⟩

/-! ### COAST at a period boundary (R231) -/

/-- `t` is in the spindle state of `s`, with the same action due at the next period boundary. -/
structure State.SameCourse (s t : State) : Prop where
  state : t.spnState = s.spnState
  due : t.spn.next = s.spn.next

namespace State.SameCourse

variable {z t : State}

theorem refl (s : State) : s.SameCourse s := ⟨rfl, rfl⟩

theorem modSpn (h : z.SameCourse t) (g : SpnSt → SpnSt) (hg : (g t.spn).next = t.spn.next) : z.SameCourse (t.modSpn g) :=
  ⟨(spnState_modSpn g).trans h.state, hg.trans h.due⟩

theorem setFlag (h : z.SameCourse t) {f : Fld} (hf : f.apart R.SPN_STAT_STATE = true) (hw : f.lo + f.width ≤ 32) (b : Bool) :
    z.SameCourse (t.setFlag f b) :=
  ⟨(spnState_setFlag hf hw b).trans h.state, (congrArg SpnSt.next (State.setFlag_spn ..)).trans h.due⟩

theorem withFree (h : z.SameCourse t) (k : Nat) : z.SameCourse { t with free := k } := ⟨h.state, h.due⟩

theorem draw (h : z.SameCourse t) : z.SameCourse t.draw.2 := h.withFree _

theorem ite (h : z.SameCourse s) (h' : z.SameCourse t) {c : Prop} [Decidable c] : z.SameCourse (if c then s else t) :=
  iteInduction (fun _ => h) fun _ => h'

theorem modLimit (h : z.SameCourse t) : z.SameCourse t.modLimit.2.2 := by
  obtain ⟨v, lim, k, limited⟩ := modLimit_takesFree t
  rw [limited]
  exact h.withFree k

theorem setDuties (h : z.SameCourse t) (v : Int × Int) : z.SameCourse (t.setDuties v) := by
  unfold State.setDuties
  obtain ⟨ang, k, turned⟩ := nextAngle_takesFree t
  rw [turned]
  exact ((h.withFree k).modSpn _ rfl).ite ((h.withFree k).modSpn _ rfl)

theorem fieldWeak (h : z.SameCourse t) : z.SameCourse t.fieldWeak := by
  unfold State.fieldWeak
  extract_lets m2 hi lo step deep id nid
  exact ((h.modSpn _ rfl).setFlag (by decide) (by decide) _).ite ((h.modSpn _ rfl).setFlag (by decide) (by decide) _)

theorem slewRef (h : z.SameCourse t) (ns : Nat) : z.SameCourse (t.slewRef ns) := by
  unfold State.slewRef
  extract_lets st toward goal slew rate r
  clear_value st toward goal slew rate r
  exact (h.modSpn _ rfl).ite ((h.modSpn _ rfl).ite h)

theorem syncCorr (h : z.SameCourse t) : z.SameCourse t.syncCorr := by
  unfold State.syncCorr
  exact (h.draw.modSpn _ rfl).ite (h.modSpn _ rfl)

theorem periodOutputs (h : z.SameCourse t) : z.SameCourse (State.periodOutputs t.modLimit) := by
  unfold State.periodOutputs
  exact ((((h.modLimit.modSpn _ rfl).setFlag (by decide) (by decide) _).setDuties _).fieldWeak.slewRef _).syncCorr

end State.SameCourse

theorem spnEnter_next (st : Nat) : (s.spnEnter st).spn.next = if st = 0 ∨ st = 6 ∨ st = 7 then none else s.spn.next := by
  unfold State.spnEnter
  extract_lets lim s1 s2
  have entered : s1.spn.next = if st = 0 ∨ st = 6 ∨ st = 7 then none else s.spn.next := by
    unfold s1
    rw [State.modSpn_spn, State.set_spn]
  have kept : s2.spn = s1.spn := iteInduction (motive := fun t : State => t.spn = s1.spn) (fun _ => rfl)
    fun _ => State.setFlag_spn ..
  rw [← entered, ← kept]
  exact congrArg SpnSt.next (iteInduction (motive := fun t : State => t.spn = s2.spn) (fun _ => rfl)
    fun _ => State.setFlag_spn ..)

theorem boundary_coasts (hn : s.spn.next = some .coast) : ∃ u : State, s.boundary = u.spnEnter 7 := by
  simp only [State.boundary, hn]
  exact ⟨_, rfl⟩

/-- A COAST that was due is entered, and nothing is due then. -/
theorem pwmPeriod_coasts (hn : s.spn.next = some .coast) : s.pwmPeriod.spnState = 7 ∧ s.pwmPeriod.spn.next = none := by
  obtain ⟨u, start⟩ := boundary_coasts hn
  have course : (u.spnEnter 7).SameCourse s.pwmPeriod := by
    rw [pwmPeriod_outputs, start]
    exact (State.SameCourse.refl _).periodOutputs
  exact ⟨course.state.trans (spnEnter_spnState (by decide)), course.due.trans (spnEnter_next 7)⟩

/-- In STOP with outputs of 0 a period leaves the stage at rest. -/
theorem pwmPeriod_inStop (h0 : s.spnState = 0) (hd : s.spn.vd = 0) (hq : s.spn.vq = 0) (hn : s.spn.next = none) :
    s.pwmPeriod = (((((s.modSpn (fun y =>
      { y with next := none, per := s.get R.SPN_PWM_PER, en := false, duty := (0, 0) })).setFlag R.SPN_STAT_MOD_LIM
      false).setDuties (0, 0)).fieldWeak).slewRef (5 * s.get R.SPN_PWM_PER)).syncCorr := by
  have unlimited := modLimit_zero (s := s.boundary)
  rw [boundary_inStop h0 hn] at unlimited
  rw [pwmPeriod_outputs, boundary_inStop h0 hn, unlimited hd hq, State.periodOutputs, modSpn_modSpn, State.modSpn_spn]

/-! ### The observer's lock (R228, R230, R232, R234) -/

theorem obsLock_stays (h : s.obsLocked = true ∨ s.spn.lockRun < s.get R.SPN_OBS_CFG_LOCK_N) : s.obsLock = s := if_pos h

section
variable (ho : s.obsLocked = false) (hn : s.get R.SPN_OBS_CFG_LOCK_N ≤ s.spn.lockRun)
include ho hn

/-- Enough good periods lock an observer that is not locked. -/
theorem obsLock_due : ¬ (s.obsLocked = true ∨ s.spn.lockRun < s.get R.SPN_OBS_CFG_LOCK_N) := by
  simp [ho, Nat.not_lt.2 hn]

theorem obsLock_inRamp (h2 : s.spnState = 2) (hx : s.spn.next = none) : s.obsLock =
    ((s.setFlag R.SPN_STAT_OBS_LOCK true).spnEnter 3).modSpn (fun x => { x with ref := x.obsSpeed * 1000000000 / 256 }) := by
  refine (if_neg (obsLock_due ho hn)).trans ?_
  simp only [h2]
  exact rampEnd_locked ((spnState_setFlag (by decide) (by decide) true).trans h2)
    (flag_setFlag_same rfl (by decide) true) ((congrArg SpnSt.next (State.setFlag_spn ..)).trans hx)

theorem obsLock_inListen (h0 : s.spnState = 0) (hl : s.spn.listenAt ≠ none) :
    s.obsLock = (s.setFlag R.SPN_STAT_OBS_LOCK true).spnCatch true := by
  refine (if_neg (obsLock_due ho hn)).trans ?_
  simp only [h0]
  exact if_pos (Option.isSome_iff_ne_none.2 hl)

theorem obsLock_inCatch (h8 : s.spnState = 8) (hc : s.spn.catchRun = false) :
    s.obsLock = (s.setFlag R.SPN_STAT_OBS_LOCK true).catchPreset s.spn.obsSpeed := by
  refine (if_neg (obsLock_due ho hn)).trans ?_
  simp only [h8]
  rw [State.setFlag_spn]
  exact if_neg (by simp [hc])

theorem obsLock_inRun (h4 : s.spnState = 4) : s.obsLock = s.setFlag R.SPN_STAT_OBS_LOCK true := by
  refine (if_neg (obsLock_due ho hn)).trans ?_
  simp only [h4]

end

theorem obsLoss_loses (ho : s.obsLocked = true) (hn : 3 ≤ s.spn.lossRun) : s.obsLoss =
    (((s.setFlag R.SPN_STAT_OBS_LOCK false).bump R.SPN_CNT_OBS_LOSS 1).fault .spn 0).spnNoAngle :=
  if_pos ⟨ho, hn⟩

theorem obsLoss_stays (h : s.obsLocked = false ∨ s.spn.lossRun < 3) : s.obsLoss = s :=
  if_neg fun ⟨locked, bad⟩ => h.elim (fun ho => by simp [ho] at locked) (Nat.not_lt.2 bad)

theorem angDisagree_faults (hn : 64 ≤ s.spn.disRun) : s.angDisagree = s.fault .spn 11 := if_pos hn

theorem angDisagree_stays (hn : s.spn.disRun < 64) : s.angDisagree = s := if_neg (Nat.not_le.2 hn)

/-! ### Catch-spin (R234) -/

theorem catchPresetEnd_ends (h8 : s.spnState = 8) (hc : s.spn.catchRun = true) (hn : 48 ≤ s.spn.catchPer) :
    s.catchPresetEnd = s.spnEnter (if s.brakePend then 5 else 3) :=
  if_pos ⟨h8, hc, hn⟩

theorem catchPresetEnd_stays (h : s.spnState ≠ 8 ∨ s.spn.catchRun = false ∨ s.spn.catchPer < 48) :
    s.catchPresetEnd = s := by
  refine if_neg fun ⟨h8, runs, done⟩ => ?_
  rcases h with h | h | h
  · exact h h8
  · simp [h] at runs
  · omega

theorem catchFail_stays (h : s.spnState ≠ 8 ∨ s.spn.catchRun = true ∨ s.obsLocked = true ∨
    s.now < s.spn.stateAt + 500000000) : s.catchFail = s := by
  refine if_neg fun ⟨h8, waits, unlocked, due⟩ => ?_
  rcases h with h | h | h | h
  · exact h h8
  · simp [h] at waits
  · simp [h] at unlocked
  · simp [passed_of_lt h] at due

/-- A catch that failed coasts with brake pending. -/
def State.catchLost (s : State) : State := ((s.fault .spn 1).setBrakePend true).spnEnter 7

section
variable (h8 : s.spnState = 8) (hc : s.spn.catchRun = false) (ho : s.obsLocked = false)
  (ht : s.spn.stateAt + 500000000 ≤ s.now)
include h8 hc ho ht

/-- A failed renewed spin-up fails for good, and another one is renewed. -/
theorem catchFail_due : s.catchFail =
    if s.spn.catchStart ∧ s.spn.renewed then
      (s.catchLost.fault .spn 2).modSpn (fun x => { x with startNext := none, renewed := false })
    else if s.spn.catchStart then s.catchLost.modSpn (fun x => { x with startNext := some true })
    else s.catchLost :=
  if_pos ⟨h8, by simp [hc], by simp [ho], passed_of_le ht⟩

theorem catchFail_coasts (hs : s.spn.catchStart = false) : s.catchFail = s.catchLost :=
  (catchFail_due h8 hc ho ht).trans ((if_neg (by simp [hs])).trans (if_neg (by simp [hs])))

theorem catchFail_renews (hs : s.spn.catchStart = true) (hr : s.spn.renewed = false) :
    s.catchFail = s.catchLost.modSpn (fun x => { x with startNext := some true }) :=
  (catchFail_due h8 hc ho ht).trans ((if_neg (by simp [hr])).trans (if_pos hs))

theorem catchFail_renewed (hs : s.spn.catchStart = true) (hr : s.spn.renewed = true) : s.catchFail =
    (s.catchLost.fault .spn 2).modSpn (fun x => { x with startNext := none, renewed := false }) :=
  (catchFail_due h8 hc ho ht).trans (if_pos ⟨hs, hr⟩)

end
end

/-- Settles O10: each command ends with its operation, in one of the cases above. How the measured currents, voltages, angles and
speed are formed, with the opaque observer, is log entry 62; the axis at which the back-EMF is expected is log entry 131; the free
error of the Tether angle is log entry 23, and the free rounding of a sample log entry 1; that COAST is entered at the next period
boundary in every state, and that a failed catch makes a START due, is log entry 63: the model's readings. -/
theorem spindleSamplesComplete : Obligations.SpindleSamplesComplete := by
  unfold Obligations.SpindleSamplesComplete
  exact ⟨
    fun o s hr => answers_of_eq rfl (congrArg (fun t : State => t.relockWatch.tthStart) (currentSample_samples hr o)),
    fun t x v f i s hv hf => sampled_checks hv hf,
    fun o s hr => answers_of_eq rfl (congrArg (fun t : State => t.relockWatch.tthStart) (currentSample_inReset hr o)),
    fun t x s ha => spnAngles_tether ha Prod.mk.eta.symm rfl,
    fun pp theta ofs => rfl,
    fun bits balIs supok s => answers_of_eq rfl (fastSample_decides Prod.mk.eta.symm balIs supok),
    fun mv balIs supok s he => (fastDecide_gate (gateNext_disabled he)).trans
      (by simp only [Option.isSome_none, Bool.false_and, Bool.false_eq_true, if_false]),
    fun mv balIs supok s he hb hr hg hm => (fastDecide_gate (gateNext_opens he hb hr hg hm)).trans
      (by simp only [hg, Option.isSome_some, Option.isNone_none, Bool.true_and, decide_eq_true_eq, if_true]),
    fun mv balIs supok t s he hb hr hg hm ht => (fastDecide_gate (gateNext_closes he hb hr hg hm ht)).trans
      (by simp only [hg, Option.isSome_none, Option.isNone_some, Bool.false_and, Bool.false_eq_true, if_false]),
    fun s h0 hd hq hn => answers_of_eq rfl (pwmPeriod_inStop h0 hd hq hn),
    fun s hn => ⟨s.pwmPeriod, answers_of_eq rfl rfl, pwmPeriod_coasts hn⟩,
    fun s ho hn h2 hx => answers_of_eq rfl (obsLock_inRamp ho hn h2 hx),
    fun s ho hn h0 hl => answers_of_eq rfl (obsLock_inListen ho hn h0 hl),
    fun s ho hn h8 hc => answers_of_eq rfl (obsLock_inCatch ho hn h8 hc),
    fun s ho hn h4 => answers_of_eq rfl (obsLock_inRun ho hn h4),
    fun s h => answers_of_eq rfl (obsLock_stays h),
    fun s ho hn => answers_of_eq rfl (obsLoss_loses ho hn),
    fun s h => answers_of_eq rfl (obsLoss_stays h),
    fun s hn => answers_of_eq rfl (angDisagree_faults hn),
    fun s hn => answers_of_eq rfl (angDisagree_stays hn),
    fun s h8 hc hn => answers_of_eq rfl (catchPresetEnd_ends h8 hc hn),
    fun s h => answers_of_eq rfl (catchPresetEnd_stays h),
    fun s h8 hc ho ht hs => answers_of_eq rfl (catchFail_coasts h8 hc ho ht hs),
    fun s h8 hc ho ht hs hr => answers_of_eq rfl (catchFail_renews h8 hc ho ht hs hr),
    fun s h8 hc ho ht hs hr => answers_of_eq rfl (catchFail_renewed h8 hc ho ht hs hr),
    fun s h => answers_of_eq rfl (catchFail_stays h)⟩

end Sys2Proof.Machine
end

section
/-!
SUPPORT and settlement. Faults of the power stage and the Ballast, over-voltage and supply loss (R231, R237 to R240), each
operation case by case.
-/

namespace Sys2Proof.Machine

open Sys2Proof

section
variable {s : State}

/-! ### The power stage (R231) -/

theorem stageFault_low : s.stageFault true =
    (((s.modSpn (fun x => { x with fltLow := true })).fault .spn 7).ldgProtocol 6 0).spnEnter 7 := by
  unfold State.stageFault
  exact if_pos rfl

theorem stageFault_high : s.stageFault false = s.modSpn (fun x => { x with fltLow := false }) := by
  unfold State.stageFault
  exact if_neg (by decide)

/-! ### The Ballast (R238) -/

section
variable (b : Nat)

/-- A fault of the Ballast sets its source and lowers the gate. -/
def State.ballastCut (s : State) (b : Nat) : State :=
  ((s.fault .spn b).setFlag R.SPN_STAT_BAL_GATE false).modSpn (fun x => { x with gateAt := none, balRun := 0 })

/-- BRAKE ends in COAST at the next period boundary. -/
theorem ballastFault_inBrake (h5 : s.spnState = 5) : s.ballastFault b =
    ((s.ballastCut b).setBrakePend true).modSpn (fun x => { x with next := some .coast }) :=
  if_pos h5

theorem ballastFault_inPloss (h9 : s.spnState = 9) : s.ballastFault b = s.ballastCut b :=
  (if_neg (by simp [h9])).trans (if_pos h9)

/-- In the other states no regenerative period follows, unless a COAST is due. -/
theorem ballastFault_skips (h5 : s.spnState ≠ 5) (h9 : s.spnState ≠ 9) : s.ballastFault b =
    (s.ballastCut b).modSpn (fun x =>
      { x with next := (match x.next with | some .coast => some .coast | _ => some .skip) }) :=
  ((if_neg h5).trans (if_neg h9)).trans rfl

end

theorem balFlt_gateLow (hg : s.spn.gateAt = none) : s.balFlt = s := by simp only [State.balFlt, hg]

section
variable {t : Nat} (hg : s.spn.gateAt = some t)
include hg

theorem balFlt_faults (h : (s.spn.isSeen = false ∧ t + 2000 ≤ s.now) ∨ 5 ≤ s.spn.balRun) :
    s.balFlt = (s.ballastFault 3).ldgProtocol 7 0 := by
  simp only [State.balFlt, hg]
  exact if_pos (h.imp_left fun ⟨unseen, ht⟩ => ⟨by simp [unseen], passed_of_le ht⟩)

theorem balFlt_stays (h : s.spn.isSeen = true ∨ s.now < t + 2000) (hn : s.spn.balRun < 5) : s.balFlt = s := by
  simp only [State.balFlt, hg]
  refine if_neg (not_or.2 ⟨fun e => ?_, Nat.not_le.2 hn⟩)
  rcases h with h | h
  · simp [h] at e
  · simp [passed_of_lt h] at e

end

theorem balStuck_faults {t : Nat} (hi : s.spn.isAt = some t) (hg : s.spn.gateAt = none) (ht : t + 2000 ≤ s.now) :
    s.balStuck = (s.ballastFault 4).ldgProtocol 7 0 := by
  simp only [State.balStuck, hi]
  exact if_pos ⟨by simp [hg], passed_of_le ht⟩

theorem balStuck_stays (h : s.spn.isAt = none ∨ s.spn.gateAt ≠ none) : s.balStuck = s := by
  unfold State.balStuck
  split
  case h_1 t hi =>
    have high : s.spn.gateAt ≠ none := h.resolve_left (by simp [hi])
    exact if_neg fun e => high (Option.isNone_iff_eq_none.1 e.1)
  case h_2 => rfl

/-! ### Over-voltage (R239) -/

theorem overVoltage_coasts (hn : 2 ≤ s.spn.ovRun) (h9 : s.spnState ≠ 9) :
    s.overVoltage = ((s.fault .spn 5).spnEnter 7).modSpn (fun x => { x with ovCoast := true }) :=
  if_pos ⟨hn, h9⟩

theorem overVoltage_stays (h : s.spn.ovRun < 2 ∨ s.spnState = 9) : s.overVoltage = s :=
  if_neg fun e => h.elim (fun hn => Nat.not_le.2 hn e.1) e.2

theorem ovRecovery_catches {t : Nat} (hb : s.spn.below = some t) (h7 : s.spnState = 7) (hc : s.spn.ovCoast = true)
    (hp : s.brakePend = false) (hl : s.spn.lost = false) (hh : s.stageHeld = false) (ht : t + 1000000 ≤ s.now) :
    s.ovRecovery = s.spnCatch false := by
  simp only [State.ovRecovery, hb]
  exact if_pos ⟨h7, hc, by simp [hp], by simp [hl], by simp [hh], passed_of_le ht⟩

theorem ovRecovery_notDue {t : Nat} (hb : s.spn.below = some t) (ht : s.now < t + 1000000) : s.ovRecovery = s := by
  simp only [State.ovRecovery, hb]
  exact if_neg fun ⟨_, _, _, _, _, due⟩ => by simp [passed_of_lt ht] at due

theorem ovRecovery_stays (h : s.spn.below = none ∨ s.brakePend = true ∨ s.spnState ≠ 7) : s.ovRecovery = s := by
  unfold State.ovRecovery
  split
  case h_1 t hb =>
    refine if_neg fun ⟨h7, _, clear, _⟩ => ?_
    rcases h with h | h | h
    · simp [hb] at h
    · simp [h] at clear
    · exact h h7
  case h_2 => rfl

/-! ### Supply loss (R240) -/

theorem supplyLoss_lowSamples (hl : s.spn.lost = false) (hn : 2 ≤ s.spn.uvRun) : s.supplyLoss = s.declareLoss :=
  if_pos (by simp [hl, hn])

theorem supplyLoss_supokLow {t : Nat} (hl : s.spn.lost = false) (hs : s.spn.supLow = some t) (ht : t + 2000 ≤ s.now) :
    s.supplyLoss = s.declareLoss :=
  if_pos (by simp [hl, hs, passed_of_le ht])

/-- A loss is declared once, and only on low samples or a low SUPOK. -/
theorem supplyLoss_stays (h : s.spn.lost = true ∨ (s.spn.uvRun < 2 ∧ s.spn.supLow = none)) : s.supplyLoss = s := by
  refine if_neg ?_
  rcases h with h | ⟨hn, hs⟩
  · simp [h]
  · simp [hs, hn]

theorem plossEnd_coasts (h9 : s.spnState = 9)
    (h : s.rpm < s.get R.SPN_PLOSS_PLOSS_MIN ∨ 64 ≤ s.spn.holdRun ∨ s.noAngle = true) : s.plossEnd = s.spnEnter 7 :=
  if_pos ⟨h9, h⟩

theorem plossEnd_stays (h : s.spnState ≠ 9 ∨
    (s.get R.SPN_PLOSS_PLOSS_MIN ≤ s.rpm ∧ s.spn.holdRun < 64 ∧ s.noAngle = false)) : s.plossEnd = s := by
  refine if_neg fun ⟨h9, ends⟩ => ?_
  obtain ⟨fast, held, angle⟩ := h.resolve_left (not_not_intro h9)
  rcases ends with slow | low | lost
  · omega
  · omega
  · simp [angle] at lost

end

/-- Settles O11: each command ends with its operation, in one of the cases above. That a declared supply loss leaves COAST by a
device reset only is log entry 63, that the period which a Ballast fault skips is told by the measured Iq is log entry 146, and
the partner codes of the records are log entry 41: the model's readings. -/
theorem ballastAndSupplyComplete : Obligations.BallastAndSupplyComplete := by
  unfold Obligations.BallastAndSupplyComplete
  exact ⟨
    fun s => answers_of_eq rfl stageFault_low,
    fun s => answers_of_eq rfl stageFault_high,
    fun t s hg hi ht => answers_of_eq rfl (balFlt_faults hg (.inl ⟨hi, ht⟩)),
    fun t s hg hn => answers_of_eq rfl (balFlt_faults hg (.inr hn)),
    fun t s hg h hn => answers_of_eq rfl (balFlt_stays hg h hn),
    fun s hg => answers_of_eq rfl (balFlt_gateLow hg),
    fun b s h5 => ballastFault_inBrake b h5,
    fun b s h9 => ballastFault_inPloss b h9,
    fun b s h5 h9 _ => ballastFault_skips b h5 h9,
    fun t s hi hg ht => answers_of_eq rfl (balStuck_faults hi hg ht),
    fun s h => answers_of_eq rfl (balStuck_stays h),
    fun s hn h9 => answers_of_eq rfl (overVoltage_coasts hn h9),
    fun s h => answers_of_eq rfl (overVoltage_stays h),
    fun t s hb h7 hc hp hl hh ht => answers_of_eq rfl (ovRecovery_catches hb h7 hc hp hl hh ht),
    fun t s hb ht => answers_of_eq rfl (ovRecovery_notDue hb ht),
    fun s h => answers_of_eq rfl (ovRecovery_stays h),
    fun s hl hn => answers_of_eq rfl (supplyLoss_lowSamples hl hn),
    fun t s hl hs ht => answers_of_eq rfl (supplyLoss_supokLow hl hs ht),
    fun s h => answers_of_eq rfl (supplyLoss_stays h),
    fun s h9 h => answers_of_eq rfl (plossEnd_coasts h9 h),
    fun s h => answers_of_eq rfl (plossEnd_stays h)⟩

end Sys2Proof.Machine
end

section
/-!
SUPPORT and settlement. SPDREF: its signals, the reference that they yield and its revolution edges (R242 to R244), each operation
case by case.
-/

namespace Sys2Proof.Machine

open Sys2Proof

section
variable {s : State} {x : SpdSignal}

/-! ### Bad and good signals (R243) -/

theorem spdrefBad_holds (hon : s.spdrefOn = true) (hx : s.spdrefValue x = none) : s.spdrefBad x =
    (((s.modSpn (fun y => { y with refBad := s.now })).setFlag R.SPN_SPDREF_STAT_GOOD false).fault .spn 9).ldgProtocol 9 0 :=
  if_pos ⟨hon, Option.isNone_iff_eq_none.2 hx⟩

theorem spdrefBad_noEffect (h : s.spdrefOn = false ∨ s.spdrefValue x ≠ none) : s.spdrefBad x = s :=
  if_neg fun e => h.elim (fun off => by simp [off] at e) (fun good => good (Option.isNone_iff_eq_none.1 e.2))

theorem spdrefGood_badSignal (hx : s.spdrefValue x = none) : s.spdrefGood x = s := by simp only [State.spdrefGood, hx]

theorem spdrefGood_sets {v : Rat} (hon : s.spdrefOn = true) (hx : s.spdrefValue x = some v)
    (h : s.flag R.SPN_SPDREF_STAT_GOOD = true ∨ s.spn.refBad + 100000000 ≤ s.now) : s.spdrefGood x =
      ((s.openRat v).2.set R.SPN_SPDREF_STAT_REF (s.openRat v).1.toNat).setFlag R.SPN_SPDREF_STAT_GOOD true := by
  simp only [State.spdrefGood, hx]
  exact if_pos ⟨hon, h.imp_right passed_of_le⟩

/-- Within 100 ms of the latest bad signal a good one waits. -/
theorem spdrefGood_tooSoon (hg : s.flag R.SPN_SPDREF_STAT_GOOD = false) (ht : s.now < s.spn.refBad + 100000000) :
    s.spdrefGood x = s := by
  unfold State.spdrefGood
  split
  case h_1 => exact if_neg fun ⟨_, e⟩ => by simp [hg, passed_of_lt ht] at e
  case h_2 => rfl

/-! ### The reference of a signal (Table 9-7) -/

/-- The speed in rpm of a pulse train with `n` ns between rising edges (mode 3). -/
def State.trainRpm (s : State) (n : Nat) : Rat := 60000000000 / ((n * max 1 (s.get R.SPN_SPDREF_CFG_PPR) : Nat) : Rat)

theorem spdrefValue_train {r f q : Nat} {es : List (Nat × Bool)} (h3 : s.get R.SPN_SPDREF_CFG_MODE = 3)
    (hc : spdCycle (spdEdges es) = some (r, f, q)) (ht : s.now < r + 3 * (r - q)) (hlo : 5400 ≤ s.trainRpm (r - q))
    (hhi : s.trainRpm (r - q) ≤ 10000) : s.spdrefValue (.edges es) = some (s.trainRpm (r - q)) := by
  simp only [State.spdrefValue, h3, hc]
  exact if_neg fun e => e.elim (Nat.not_le.2 ht) fun range => range.elim (not_lt.2 hlo) (not_lt.2 hhi)

/-- The voltage of 16 codes, in V (mode 1). -/
def codeVolts (xs : List Nat) : Rat := (xs.sum : Rat) * 18 / (16 * 4096 * 10)

theorem spdrefValue_voltage {xs : List Nat} (h1 : s.get R.SPN_SPDREF_CFG_MODE = 1) (hn : xs.length = 16)
    (hlo : 1 / 10 ≤ codeVolts xs) (hhi : codeVolts xs ≤ 17 / 10) :
    s.spdrefValue (.codes xs) = some (spdLine (1 / 5) (8 / 5) (codeVolts xs)) := by
  simp only [State.spdrefValue, h1]
  exact if_neg fun e => e.elim (not_not_intro hn) fun range => range.elim (not_lt.2 hlo) (not_lt.2 hhi)

/-! ### Revolution edges (R244) -/

theorem spdrefSync_noEffect {err : Int} (h : s.spdrefOn = false ∨ s.tetherAngle = false) : s.spdrefSync err = s :=
  if_neg (by rcases h with h | h <;> simp [h])

section
variable {err : Int} (hon : s.spdrefOn = true) (h3 : s.get R.SPN_SPDREF_CFG_MODE = 3)
  (hs : s.flag R.SPN_SPDREF_CFG_SYNC = true) (ha : s.tetherAngle = true)
include hon h3 hs ha

/-- In mode 3 with SYNC and a valid angle every PPR-th edge is a revolution edge. -/
theorem spdrefSync_edge : s.spdrefSync err =
    if s.spn.refEdges + 1 < s.get R.SPN_SPDREF_CFG_PPR then s.modSpn (fun y => { y with refEdges := y.refEdges + 1 })
    else (s.modSpn (fun y => { y with refEdges := 0 })).revolutionEdge (s.indexError (s.tetherOff s.now err)) :=
  if_pos (by simp [hon, h3, hs, ha])

theorem spdrefSync_counts (hn : s.spn.refEdges + 1 < s.get R.SPN_SPDREF_CFG_PPR) :
    s.spdrefSync err = s.modSpn (fun y => { y with refEdges := y.refEdges + 1 }) :=
  (spdrefSync_edge hon h3 hs ha).trans (if_pos hn)

theorem spdrefSync_revolution (hn : s.get R.SPN_SPDREF_CFG_PPR ≤ s.spn.refEdges + 1) : s.spdrefSync err =
    (s.modSpn (fun y => { y with refEdges := 0 })).revolutionEdge (s.indexError (s.tetherOff s.now err)) :=
  (spdrefSync_edge hon h3 hs ha).trans (if_neg (Nat.not_lt.2 hn))

end

section
variable {e : Nat}

/-- An edge within 2^-10 revolution adds to the run, and the 16th in a row locks. -/
theorem revolutionEdge_near (he : e < 8192) (hr : s.spn.syncRun < 65535) : s.revolutionEdge e =
    if 16 ≤ s.spn.syncRun + 1 then
      (s.modSpn (fun y => { y with syncRun := s.spn.syncRun + 1 })).setFlag R.SPN_SPDREF_STAT_SYNC_LOCK true
    else s.modSpn (fun y => { y with syncRun := s.spn.syncRun + 1 }) := by
  have counted : satN (s.spn.syncRun + 1) 65535 = s.spn.syncRun + 1 := if_pos hr
  have within : ¬ 32768 < e := by omega
  simp only [State.revolutionEdge, if_pos he, counted, if_neg within]

theorem revolutionEdge_counts (he : e < 8192) (hr : s.spn.syncRun + 1 < 16) :
    s.revolutionEdge e = s.modSpn (fun y => { y with syncRun := s.spn.syncRun + 1 }) :=
  (revolutionEdge_near he (by omega)).trans (if_neg (by omega))

theorem revolutionEdge_locks (he : e < 8192) (h15 : 15 ≤ s.spn.syncRun) (hr : s.spn.syncRun < 65535) : s.revolutionEdge e =
    (s.modSpn (fun y => { y with syncRun := s.spn.syncRun + 1 })).setFlag R.SPN_SPDREF_STAT_SYNC_LOCK true :=
  (revolutionEdge_near he hr).trans (if_pos (by omega))

/-- An edge beyond 2^-10 revolution ends the run, and one beyond 2^-8 revolution the lock. -/
theorem revolutionEdge_far (he : 8192 ≤ e) : s.revolutionEdge e =
    if 32768 < e then (s.modSpn (fun y => { y with syncRun := 0 })).setFlag R.SPN_SPDREF_STAT_SYNC_LOCK false
    else s.modSpn (fun y => { y with syncRun := 0 }) := by
  simp only [State.revolutionEdge, if_neg (Nat.not_lt.2 he), if_neg (show ¬ 16 ≤ 0 by decide)]

theorem revolutionEdge_endsRun (he : 8192 ≤ e) (h : e ≤ 32768) :
    s.revolutionEdge e = s.modSpn (fun y => { y with syncRun := 0 }) :=
  (revolutionEdge_far he).trans (if_neg (Nat.not_lt.2 h))

theorem revolutionEdge_unlocks (h : 32768 < e) : s.revolutionEdge e =
    (s.modSpn (fun y => { y with syncRun := 0 })).setFlag R.SPN_SPDREF_STAT_SYNC_LOCK false :=
  (revolutionEdge_far (by omega)).trans (if_pos h)

end
end

/-- Settles O12: each command ends with its operation, in one of the cases above. The scale of a code in mode 1, the latest cycle
as the value in mode 3 and every PPR-th edge as a revolution edge are log entry 145, the error of the Tether angle as an operand
is log entry 23, the free rounding of a reference is log entry 1, and the partner code of the record is log entry 41: the model's
readings. -/
theorem spdrefCommandsComplete : Obligations.SpdrefCommandsComplete := by
  unfold Obligations.SpdrefCommandsComplete
  exact ⟨
    fun x s hon hx => answers_of_eq rfl (spdrefBad_holds hon hx),
    fun x s h => answers_of_eq rfl (spdrefBad_noEffect h),
    fun x v s hon hx h => answers_of_eq rfl (spdrefGood_sets hon hx h),
    fun x s hg ht => answers_of_eq rfl (spdrefGood_tooSoon hg ht),
    fun x s hx => answers_of_eq rfl (spdrefGood_badSignal hx),
    fun r f q es s h3 hc ht hlo hhi => spdrefValue_train h3 hc ht hlo hhi,
    fun xs s h1 hn hlo hhi => spdrefValue_voltage h1 hn hlo hhi,
    fun err s hon h3 hs ha hn => answers_of_eq rfl (spdrefSync_counts hon h3 hs ha hn),
    fun err s hon h3 hs ha hn => answers_of_eq rfl (spdrefSync_revolution hon h3 hs ha hn),
    fun err s h => answers_of_eq rfl (spdrefSync_noEffect h),
    fun e s he hr => revolutionEdge_counts he hr,
    fun e s he h15 hr => revolutionEdge_locks he h15 hr,
    fun e s he h => revolutionEdge_endsRun he h,
    fun e s h => revolutionEdge_unlocks h⟩

end Sys2Proof.Machine
end

section
/-!
PROOF. Buffer memory without flipped bits (R249, R250, R373, R375): its words read as they stand, a part write rewrites its words
as they stand, and no read changes a byte.
-/

namespace Sys2Proof.Machine

open Sys2Proof

/-! ### Bytes of a sparse memory -/

theorem leBytes_ofLeBytes (bs : List Byte) : leBytes bs.length (ofLeBytes bs) = bs := by
  induction bs with
  | nil => rfl
  | cons b bs ih =>
    have hb := b.isLt
    have h0 : BitVec.ofNat 8 (b.toNat + 256 * ofLeBytes bs) = b :=
      BitVec.eq_of_toNat_eq (by rw [BitVec.toNat_ofNat]; omega)
    have h1 : (b.toNat + 256 * ofLeBytes bs) / 256 = ofLeBytes bs := by omega
    rw [List.length_cons, ofLeBytes, leBytes, h0, h1, ih]

@[simp] theorem bytesAt_length (d : Byte) (m : List (Nat × Byte)) (a n : Nat) : (bytesAt d m a n).length = n := by
  simp [bytesAt]

theorem bytesAt_getElem (d : Byte) (m : List (Nat × Byte)) (a n i : Nat) (h : i < (bytesAt d m a n).length) :
    (bytesAt d m a n)[i] = byteAt d m (a + i) := by
  simp [bytesAt]

theorem leBytes_bytesAt (d : Byte) (m : List (Nat × Byte)) (a n : Nat) :
    leBytes n (ofLeBytes (bytesAt d m a n)) = bytesAt d m a n := by
  simpa using leBytes_ofLeBytes (bytesAt d m a n)

theorem bytesAt_append (d : Byte) (m : List (Nat × Byte)) (a n k : Nat) :
    bytesAt d m a n ++ bytesAt d m (a + n) k = bytesAt d m a (n + k) := by
  simp [bytesAt, List.range_add, Nat.add_assoc]

/-- Bytes cut out of a longer piece. -/
theorem bytesAt_drop_take (d : Byte) (m : List (Nat × Byte)) {a n i k : Nat} (h : i + k ≤ n) :
    ((bytesAt d m a n).drop i).take k = bytesAt d m (a + i) k := by
  refine List.ext_getElem (by simp; omega) fun j _ _ => ?_
  simp [bytesAt_getElem, Nat.add_assoc]

/-- A byte after a write: the one written within its range, else the one that stood there. -/
theorem byteAt_putBytes (d : Byte) (m : List (Nat × Byte)) (a : Nat) (bs : List Byte) (j : Nat) :
    byteAt d (putBytes d m a bs) j =
      if a ≤ j ∧ j < a + bs.length then (bs[j - a]?).getD 0 else byteAt d m j := by
  split
  · next h =>
    obtain ⟨i, rfl⟩ := Nat.exists_eq_add_of_le h.1
    have hi : i < bs.length := by omega
    rw [byteAt_putBytes_in d bs m a i hi, Nat.add_sub_cancel_left, List.getElem?_eq_getElem hi, Option.getD_some]
  · next h => exact byteAt_putBytes_out d bs m a j (by omega)

/-- Bytes written back where they stand change none. -/
theorem byteAt_putBytes_bytesAt (d : Byte) (m : List (Nat × Byte)) (a n j : Nat) :
    byteAt d (putBytes d m a (bytesAt d m a n)) j = byteAt d m j := by
  rw [byteAt_putBytes]
  split
  · next h =>
    rw [List.getElem?_eq_getElem (by rw [bytesAt_length] at h ⊢; omega), Option.getD_some, bytesAt_getElem]
    congr 1
    omega
  · rfl

/-! ### What an access leaves of buffer memory -/

namespace State.EccFrame

variable {z s : State}

theorem mem (h : z.EccFrame s) : s.mem = z.mem := by cases h; rfl

theorem memOpen (h : z.EccFrame s) (a n : Nat) : z.EccFrame (s.memOpen a n).2 := by
  have h1 := ((h.set R.MEM_STAT_STATE 2).ite h (c := s.get R.MEM_STAT_STATE = 3)).withMs
    { (if s.get R.MEM_STAT_STATE = 3 then s.set R.MEM_STAT_STATE 2 else s).ms with lastAccess := s.now }
  unfold State.memOpen
  dsimp only
  split
  · exact h
  · split
    · exact h1
    · exact h1.fault _ _

theorem memWords (h : z.EccFrame s) (patrol : Bool) (w k : Nat) : z.EccFrame (s.memWords patrol w k).2.2 := by
  induction k generalizing s w with
  | zero => exact h
  | succ k ih =>
    have h1 := h.eccRead ⟨false, 0, 0, w⟩ (ofLeBytes (bytesAt 0 s.mem (8 * w) 8)) patrol
    unfold State.memWords
    split
    · next e => rw [e] at h1; exact h1
    · next e => rw [e] at h1; exact ih h1 (w + 1)

theorem memReadC (h : z.EccFrame s) (a n : Nat) : z.EccFrame (s.memReadC a n).2.2 := by
  have h1 := h.memOpen a n
  unfold State.memReadC
  split
  · next e => rw [e] at h1; exact h1
  · next t e =>
    rw [e] at h1
    have h2 := h1.memWords false (a / 8) ((a + n + 7) / 8 - a / 8)
    dsimp only
    split
    · exact h2
    · exact h2

theorem wordsWritten (h : z.EccFrame s) (key : Nat → EccKey) (w k : Nat) : z.EccFrame (s.wordsWritten key w k) := by
  induction k generalizing s w with
  | zero => exact h
  | succ k ih => exact ih (h.freshWord (key w) false) (w + 1)

end State.EccFrame

/-! ### Words without flipped bits -/

/-- A stored word without flipped bits reads as it stands (R373). -/
theorem eccRead_clean {s : State} {k : EccKey} (h : s.flipsOf k = 0) (data : Nat) (patrol : Bool) :
    s.eccRead k data patrol = (some data, s) := by
  have h0 : setBits 0 72 = [] := by decide
  unfold State.eccRead
  simp only [h, h0]

theorem memWords_clean {s : State} (h : ∀ k, s.flipsOf k = 0) (patrol : Bool) (w k : Nat) :
    s.memWords patrol w k = (true, bytesAt 0 s.mem (8 * w) (8 * k), s) := by
  induction k generalizing w with
  | zero => rfl
  | succ k ih =>
    unfold State.memWords
    simp only [eccRead_clean (h _), ih (w + 1), leBytes_bytesAt]
    rw [show 8 * (w + 1) = 8 * w + 8 by ring, bytesAt_append, show 8 * (k + 1) = 8 + 8 * k by ring]

/-- `t` holds the bytes of `s`, and no flipped bits. -/
def State.CleanAs (s t : State) : Prop := (∀ j, byteAt 0 t.mem j = byteAt 0 s.mem j) ∧ ∀ k, t.flipsOf k = 0

theorem partWord_clean {s : State} (h : ∀ k, s.flipsOf k = 0) (a : Nat) :
    s.partWord a = (true, { s with mem := putBytes 0 s.mem (a / 8 * 8) (bytesAt 0 s.mem (a / 8 * 8) 8) }) := by
  have hm : s.mergeWord (bufKey a) (ofLeBytes (bytesAt 0 s.mem (a / 8 * 8) 8)) =
      (some (ofLeBytes (bytesAt 0 s.mem (a / 8 * 8) 8)), s) := by
    unfold State.mergeWord
    rw [eccRead_clean (h _)]
    simp only [h, if_true]
  unfold State.partWord
  rw [hm]
  simp only [leBytes_bytesAt]

/-- A word that a write covers in part is written back as it stands (R375); one that it covers whole needs no merge. -/
theorem mergePart_clean {s : State} (h : ∀ k, s.flipsOf k = 0) (a : Nat) (c : Prop) [Decidable c] :
    ∃ t, (if c then (true, s) else s.partWord a) = (true, t) ∧ s.CleanAs t := by
  split
  · exact ⟨s, rfl, fun _ => rfl, h⟩
  · exact ⟨_, partWord_clean h a, fun j => byteAt_putBytes_bytesAt 0 s.mem _ 8 j, h⟩

/-! ### Accesses -/

theorem memOpen_ready {s : State} {a n : Nat} (h2 : s.get R.MEM_STAT_STATE = 2) (h : a + n ≤ s.dataTop) :
    s.memOpen a n = (true, { s with ms := { s.ms with lastAccess := s.now } }) := by
  unfold State.memOpen
  simp [h2, h]

/-- An access while MEM is not open, or past the data top, may not start (R249, R250). -/
theorem memOpen_refused {s : State} {a n : Nat}
    (h : (s.get R.MEM_STAT_STATE ≠ 2 ∧ s.get R.MEM_STAT_STATE ≠ 3) ∨ s.dataTop < a + n) : (s.memOpen a n).1 = false := by
  unfold State.memOpen
  dsimp only
  split
  · rfl
  · next hs => rw [if_neg (by rcases h with h | h <;> omega)]

theorem memReadC_refused {s : State} {a n : Nat} (h : (s.memOpen a n).1 = false) :
    s.memReadC a n = (3, [], (s.memOpen a n).2) := by
  unfold State.memReadC
  split
  · next e => rw [e]
  · next e => rw [e] at h; cases h

theorem memWriteC_refused {s : State} {a : Nat} {bs : List Byte} (h : (s.memOpen a bs.length).1 = false) :
    s.memWriteC a bs = (3, (s.memOpen a bs.length).2) := by
  unfold State.memWriteC
  split
  · next e => rw [e]
  · next e => rw [e] at h; cases h

theorem memReadC_clean {s : State} {a n : Nat} (h2 : s.get R.MEM_STAT_STATE = 2) (hf : ∀ k, s.flipsOf k = 0)
    (h : a + n ≤ s.dataTop) : (s.memReadC a n).1 = 0 ∧ (s.memReadC a n).2.1 = bytesAt 0 s.mem a n := by
  have hw := memWords_clean (s := { s with ms := { s.ms with lastAccess := s.now } }) hf false (a / 8)
    ((a + n + 7) / 8 - a / 8)
  have hb : ((bytesAt 0 s.mem (8 * (a / 8)) (8 * ((a + n + 7) / 8 - a / 8))).drop (a % 8)).take n = bytesAt 0 s.mem a n := by
    rw [bytesAt_drop_take 0 s.mem (by omega), Nat.div_add_mod]
  unfold State.memReadC
  rw [memOpen_ready h2 h]
  simp only [hw, if_true]
  exact ⟨trivial, hb⟩

theorem memWriteC_clean {s : State} {a : Nat} {bs : List Byte} (h2 : s.get R.MEM_STAT_STATE = 2)
    (hf : ∀ k, s.flipsOf k = 0) (h : a + bs.length ≤ s.dataTop) : (s.memWriteC a bs).1 = 0 ∧
      ∀ j, byteAt 0 (s.memWriteC a bs).2.mem j =
        if a ≤ j ∧ j < a + bs.length then (bs[j - a]?).getD 0 else byteAt 0 s.mem j := by
  obtain ⟨t, ht, hm, htf⟩ := mergePart_clean (s := { s with ms := { s.ms with lastAccess := s.now } }) hf a
    (a % 8 = 0 ∧ (8 ≤ bs.length ∨ bs.length = 0))
  obtain ⟨u, hu, hn, -⟩ := mergePart_clean htf (a + bs.length) ((a + bs.length) % 8 = 0 ∨ (a + bs.length) / 8 = a / 8)
  have hw := ((State.EccFrame.refl { u with mem := putBytes 0 u.mem a bs }).wordsWritten (fun w => ⟨false, 0, 0, w⟩)
    ((a + 7) / 8) ((a + bs.length) / 8 - (a + 7) / 8)).mem
  unfold State.memWriteC
  rw [memOpen_ready h2 h]
  simp only [ht, hu, Bool.and_self, if_true]
  refine ⟨trivial, fun j => ?_⟩
  rw [hw, byteAt_putBytes, hn, hm]

/-- Settles O55: a word without flipped bits reads as it stands, so the merge of a part write changes no byte. That an access past
the data top fails whole, and that part words are read and merged first, is log entry 99: the model's reading. -/
theorem bufferMemoryKeepsWhatIsWritten : Obligations.BufferMemoryKeepsWhatIsWritten := by
  unfold Obligations.BufferMemoryKeepsWhatIsWritten
  refine ⟨fun a bs s h2 hf h => memWriteC_clean h2 hf h, fun a n s h2 hf h => memReadC_clean h2 hf h,
    fun a n s => ((State.EccFrame.refl s).memReadC a n).mem, fun a bs s h => ?_⟩
  have ho := memOpen_refused h
  rw [memWriteC_refused ho, memReadC_refused ho]
  exact ⟨rfl, ((State.EccFrame.refl s).memOpen a bs.length).mem, rfl⟩

end Sys2Proof.Machine
end

section
/-!
SUPPORT and settlement. The Depot (R253 to R270): how a request reaches it, how it is answered, its caches, accesses by handle,
enabling and the end of REBUILD, each operation case by case.
-/

namespace Sys2Proof.Machine

open Sys2Proof

section
variable {s : State}

/-! ### How a request reaches DEP (R262, R267, R270) -/

theorem depRuns_of_run (h1 : s.get R.DEP_STAT_STATE = 1) (hr : s.inReset .dep = false) : s.depRuns = true := by
  simp [State.depRuns, h1, hr]

theorem depRuns_of_notRun (h1 : s.get R.DEP_STAT_STATE ≠ 1) : s.depRuns = false := by
  simp [State.depRuns, h1]

/-- A request that DEP takes is carried out and answered. -/
theorem depRequest_taken (h : s.depRuns = true) (q : DepReq) :
    s.depRequest q = (s.depTake q).2.depAnswer q (s.depTake q).1 := if_pos h

/-- A request of a unit that DEP does not take joins those that wait. -/
theorem depRequest_waits (h : s.depRuns = false) {q : DepReq} (hq : q.port = false) :
    s.depRequest q = { s with dep := { s.dep with wait := depJoin q s.dep.wait } } :=
  (if_neg (by simp [h])).trans (if_neg (by simp [hq]))

section
variable (op tag tag2 arg pool : Nat) (climb inv : Bool)

/-- While BUSY a request through DEP_REQ is discarded. -/
theorem depCmd_busy (h : s.flag R.DEP_RESP_STAT_BUSY = true) : s.depCmd true op tag tag2 arg climb inv pool = s :=
  if_pos (by simp [h])

theorem depCmd_waits (h1 : s.get R.DEP_STAT_STATE ≠ 1) : s.depCmd false op tag tag2 arg climb inv pool =
    { s with dep := { s.dep with
      wait := depJoin ⟨op, tag % 256, tag2 % 256, arg % 2 ^ 32, climb, inv, pool % 4, false⟩ s.dep.wait } } :=
  depRequest_waits (depRuns_of_notRun h1) rfl

variable (h1 : s.get R.DEP_STAT_STATE = 1) (hr : s.inReset .dep = false)
include h1 hr

/-- In RUN a request of a unit is carried out and answered to it. -/
theorem depCmd_unit {q : DepReq} (hq : ⟨op, tag % 256, tag2 % 256, arg % 2 ^ 32, climb, inv, pool % 4, false⟩ = q) :
    s.depCmd false op tag tag2 arg climb inv pool =
      { (s.depTake q).2 with dep := { (s.depTake q).2.dep with out := some (s.depTake q).1 } } := by
  subst hq
  exact depRequest_taken (depRuns_of_run h1 hr) _

/-- In RUN, with BUSY at 0, a request through DEP_REQ is carried out and answered in the DEP_RESP registers. -/
theorem depCmd_port (hb : s.flag R.DEP_RESP_STAT_BUSY = false) {q : DepReq}
    (hq : ⟨op, tag % 256, tag2 % 256, arg % 2 ^ 32, climb, inv, pool % 4, true⟩ = q) :
    s.depCmd true op tag tag2 arg climb inv pool = (s.depTake q).2.depAnswer q (s.depTake q).1 := by
  subst hq
  exact (if_neg (by simp [hb])).trans (depRequest_taken (depRuns_of_run h1 hr) _)

end

/-! ### The code of a request (R253, R258 to R260, Table 10-8) -/

section
variable {q : DepReq}

theorem depTake_badOp (h : q.op = 0 ∨ 9 < q.op) : s.depTake q = (⟨q.tag, 0xB, nullHandle, 0⟩, s) := if_pos h

theorem depTake_badSize (h : q.op = 1) (ht : tagOk q.tag2 = true) (hs : q.arg = 0 ∨ 2097152 < q.arg) :
    s.depTake q = (⟨q.tag, 0xB, nullHandle, 0⟩, s) := by
  unfold State.depTake
  dsimp only
  rw [if_neg (by omega), if_neg (by simp [ht]), if_neg (by omega), if_pos h, if_pos hs]

/-- A RELEASE, FREE, MARK or QUERY has no tag to check but that of its requester: its handle decides. -/
theorem depTake_ofHandle (h : q.op = 3 ∨ q.op = 4 ∨ q.op = 6 ∨ q.op = 7) : s.depTake q =
    if !s.handleIn q.arg then
      (⟨q.tag, 0x8, nullHandle, 0⟩, if q.op = 3 ∨ q.op = 4 then s.depReject q 0x8 0xFF else s)
    else
      match s.entryRead (hPool q.arg) (hIndex q.arg) with
      | (none, s1) => (⟨q.tag, 0xA, nullHandle, 0⟩, s1)
      | (some e, s1) => (⟨q.tag, handleCode q.op q.tag q.tag2 q.arg e, nullHandle, if q.op = 7 then e else 0⟩,
          if handleCode q.op q.tag q.tag2 q.arg e = 0 then s1.handleDo q e
          else if q.op = 3 ∨ q.op = 4 then s1.depReject q (handleCode q.op q.tag q.tag2 q.arg e) (eOwner e) else s1) := by
  have noTag : ¬ ((decide (q.op = 1) || decide (q.op = 2) || decide (q.op = 5)) = true ∧ (!tagOk q.tag2) = true) := by
    rcases h with h | h | h | h <;> simp [h]
  refine (if_neg (by omega)).trans ((if_neg noTag).trans ((if_neg (by omega)).trans ((if_neg (by omega)).trans
    (if_neg (by omega)))))

/-- A RELEASE or FREE of a handle outside its pool is answered RANGE and logged. -/
theorem depTake_outside (h : q.op = 3 ∨ q.op = 4) (hh : s.handleIn q.arg = false) :
    s.depTake q = (⟨q.tag, 0x8, nullHandle, 0⟩, s.depReject q 0x8 0xFF) := by
  rw [depTake_ofHandle (by omega), if_pos (by simp [hh]), if_pos h]

/-- A MARK or QUERY that its entry refuses is answered with that code and changes nothing. -/
theorem depTake_entryRefuses {e : Nat} (h : q.op = 6 ∨ q.op = 7) (hh : s.handleIn q.arg = true)
    (he : (s.entryRead (hPool q.arg) (hIndex q.arg)).1 = some e) (hc : handleCode q.op q.tag q.tag2 q.arg e ≠ 0) :
    s.depTake q = (⟨q.tag, handleCode q.op q.tag q.tag2 q.arg e, nullHandle, if q.op = 7 then e else 0⟩,
      (s.entryRead (hPool q.arg) (hIndex q.arg)).2) := by
  rw [depTake_ofHandle (by omega), if_neg (by simp [hh])]
  generalize s.entryRead (hPool q.arg) (hIndex q.arg) = r at he ⊢
  obtain ⟨o, t⟩ := r
  subst he
  dsimp only
  rw [if_neg hc, if_neg (show ¬ (q.op = 3 ∨ q.op = 4) by omega)]

end

/-! ### Enabling (R253) and the end of REBUILD (R267) -/

theorem depEnable_enters (hm : s.get R.MEM_STAT_STATE = 2 ∨ s.get R.MEM_STAT_STATE = 3) (h0 : s.get R.DEP_STAT_STATE = 0) :
    s.depEnable true = ((s.set R.DEP_CTRL_EN 1).set R.DEP_STAT_STATE 1).depWake :=
  (if_pos hm).trans (if_pos h0)

theorem depEnable_memClosed (h2 : s.get R.MEM_STAT_STATE ≠ 2) (h3 : s.get R.MEM_STAT_STATE ≠ 3) : s.depEnable true = s :=
  if_neg (by omega)

/-- A write of DEP_CTRL that sets EN enables the Depot. -/
theorem regCmd_depEnable {p : Path} {v : Word} (h0 : bitOf (s.rd R.A_DEP_CTRL).toNat 0 = false)
    (h : s.takes p R.A_DEP_CTRL (withBits v 0 1 1) = true) : s.regCmd p R.A_DEP_CTRL (withBits v 0 1 1) =
      (s.storeReg p R.A_DEP_CTRL (withBits v 0 1 1)).depEnable true := by
  have hv : bitOf (withBits v 0 1 1).toNat 0 = true := withBits_bit_same v 0 1 (by decide)
  have hook (t : State) (old w : Nat) : t.afterWrite R.A_DEP_CTRL old w =
    if bitOf old 0 = bitOf w 0 then t else t.depEnable (bitOf w 0) := rfl
  rw [regCmd_plain s p R.A_DEP_CTRL _ h rfl (by decide) (by decide) (by decide) (by decide) (by decide) (by decide), hook,
    if_neg (by simp [h0, hv]), hv]

theorem depBack_rebuilt (h : s.get R.DEP_STAT_STATE = 2) : s.depBack = s.depRebuilt.snapReturn (some .dep) 0 := if_pos h

theorem depBack_notRebuilding (h : s.get R.DEP_STAT_STATE ≠ 2) : s.depBack = s := if_neg h

/-! ### Caches (R261) -/

section
variable {n : Nat}

theorem cacheKeep_between (h : 16 < (s.pool n).cache.length ∨ (s.pool n).ringLen = 0) (h56 : (s.pool n).cache.length < 56) :
    s.cacheKeep n = s :=
  (if_neg (by omega)).trans (if_neg (by omega))

theorem cacheKeep_refills (h : (s.pool n).cache.length ≤ 16) (hr : (s.pool n).ringLen ≠ 0) :
    s.cacheKeep n = s.cacheRefill n := if_pos ⟨h, hr⟩

theorem cacheKeep_spills (h : 56 ≤ (s.pool n).cache.length) : s.cacheKeep n = s.cacheSpill n :=
  (if_neg (by omega)).trans (if_pos h)

end

/-! ### Accesses by handle (R264) -/

section
variable {tag h ofs len : Nat}

theorem depCheck_outside (hh : s.handleIn h = false) (w : Bool) : s.depCheck tag h ofs len w = (1, 0, s.fault .dep 9) :=
  if_pos (by simp [hh])

theorem depAccess_readOutside (hh : s.handleIn h = false) : s.depAccess tag h ofs len none =
    { s.fault .dep 9 with dep := { (s.fault .dep 9).dep with access := some (false, []) } } := by
  simp [State.depAccess, State.depReadC, depCheck_outside hh]

theorem depAccess_writeOutside (hh : s.handleIn h = false) (d : List Byte) : s.depAccess tag h ofs len (some d) =
    { s.fault .dep 9 with dep := { (s.fault .dep 9).dep with access := some (false, []) } } := by
  simp [State.depAccess, State.depWriteC, depCheck_outside hh]

/-- A read that passes its check moves the bytes that its check placed. -/
theorem depAccess_reads {c a : Nat} {t : State} (hc : s.depCheck tag h ofs len false = (c, a, t)) (h0 : c = 0) :
    s.depAccess tag h ofs len none = { (t.memReadC a len).2.2 with
      dep := { (t.memReadC a len).2.2.dep with access := some ((t.memReadC a len).1 == 0, (t.memReadC a len).2.1) } } := by
  simp only [State.depAccess, State.depReadC, hc, h0, if_true]

end
end

/-- Settles O26: each command ends with its operation, in one of the cases above. That a request waits while the Depot is not
enabled is log entry 64, the groups of the requests that wait are log entry 136, and that a write of DEP_CTRL keeps the EN that its
command is named for is log entry 7: the model's readings. -/
theorem depotCommandsComplete : Obligations.DepotCommandsComplete := by
  unfold Obligations.DepotCommandsComplete
  exact ⟨
    fun tag tag2 size climb s hb h1 hr => answers_of_eq rfl (depCmd_port _ _ _ _ _ _ _ h1 hr hb rfl),
    fun tag tag2 size climb s h1 hr => answers_of_eq rfl (depCmd_unit _ _ _ _ _ _ _ h1 hr rfl),
    fun tag handle tag2 s hb h1 hr => answers_of_eq rfl (depCmd_port _ _ _ _ _ _ _ h1 hr hb rfl),
    fun tag handle tag2 s h1 hr => answers_of_eq rfl (depCmd_unit _ _ _ _ _ _ _ h1 hr rfl),
    fun tag handle s hb h1 hr => answers_of_eq rfl (depCmd_port _ _ _ _ _ _ _ h1 hr hb rfl),
    fun tag handle s h1 hr => answers_of_eq rfl (depCmd_unit _ _ _ _ _ _ _ h1 hr rfl),
    fun tag handle s hb h1 hr => answers_of_eq rfl (depCmd_port _ _ _ _ _ _ _ h1 hr hb rfl),
    fun tag handle s h1 hr => answers_of_eq rfl (depCmd_unit _ _ _ _ _ _ _ h1 hr rfl),
    fun tag handle tag2 s hb h1 hr => answers_of_eq rfl (depCmd_port _ _ _ _ _ _ _ h1 hr hb rfl),
    fun tag handle tag2 s h1 hr => answers_of_eq rfl (depCmd_unit _ _ _ _ _ _ _ h1 hr rfl),
    fun tag handle inv s hb h1 hr => answers_of_eq rfl (depCmd_port _ _ _ _ _ _ _ h1 hr hb rfl),
    fun tag handle inv s h1 hr => answers_of_eq rfl (depCmd_unit _ _ _ _ _ _ _ h1 hr rfl),
    fun tag handle s hb h1 hr => answers_of_eq rfl (depCmd_port _ _ _ _ _ _ _ h1 hr hb rfl),
    fun tag handle s h1 hr => answers_of_eq rfl (depCmd_unit _ _ _ _ _ _ _ h1 hr rfl),
    fun tag handle s hb h1 hr => answers_of_eq rfl (depCmd_port _ _ _ _ _ _ _ h1 hr hb rfl),
    fun tag handle s h1 hr => answers_of_eq rfl (depCmd_unit _ _ _ _ _ _ _ h1 hr rfl),
    fun tag pool s hb h1 hr => answers_of_eq rfl (depCmd_port _ _ _ _ _ _ _ h1 hr hb rfl),
    fun tag pool s h1 hr => answers_of_eq rfl (depCmd_unit _ _ _ _ _ _ _ h1 hr rfl),
    fun tag handle s h1 => answers_of_eq rfl (depCmd_waits _ _ _ _ _ _ _ h1),
    fun tag handle s hb => answers_of_eq rfl (depCmd_busy _ _ _ _ _ _ _ hb),
    fun q s h => depTake_badOp h,
    fun q s h ht hs => depTake_badSize h ht hs,
    fun q s h hh => depTake_outside h hh,
    fun q e s h hh he hc => depTake_entryRefuses h hh he hc,
    fun path value s h0 h => answers_of_eq rfl (regCmd_depEnable h0 h),
    fun s hm h0 => depEnable_enters hm h0,
    fun s h2 h3 => depEnable_memClosed h2 h3,
    fun n s h h56 => answers_of_eq rfl (cacheKeep_between h h56),
    fun n s h hr => answers_of_eq rfl (cacheKeep_refills h hr),
    fun n s h => answers_of_eq rfl (cacheKeep_spills h),
    fun tag handle ofs len s hh => answers_of_eq rfl (depAccess_readOutside hh),
    fun tag handle ofs len d s hh => answers_of_eq rfl (depAccess_writeOutside hh d),
    fun tag handle ofs len s h0 => answers_of_eq rfl (depAccess_reads rfl h0),
    fun s h => answers_of_eq rfl (depBack_rebuilt h),
    fun s h => answers_of_eq rfl (depBack_notRebuilding h)⟩

end Sys2Proof.Machine
end

section
/-!
SUPPORT and settlement. Buffer memory and error protection (R247 to R251, R374 to R384): training, refresh, self refresh, scrubbing
and firmware's actions on the entries of the Correction Log, each operation case by case.
-/

namespace Sys2Proof.Machine

open Sys2Proof

section
variable {s : State}

/-! ### Training (R248) -/

theorem memTrained_notTraining (h : s.get R.MEM_STAT_STATE ≠ 1) (agree : Bool) (o0 o1 o2 size : Nat) (ranks2 : Bool) :
    s.memTrained agree o0 o1 o2 size ranks2 = s := if_pos h

section
variable (h : s.get R.MEM_STAT_STATE = 1) (o1 o2 size : Nat) (ranks2 : Bool)
include h

/-- Ranks that disagree leave MEM FAILED. -/
theorem memTrained_disagree (o0 : Nat) : s.memTrained false o0 o1 o2 size ranks2 =
    ((((((s.set R.MEM_STAT_SIZE size).setFlag R.MEM_STAT_RANKS2 ranks2).set R.MEM_STAT_CH_OK (o0 % 16)).set
      R.MEM_STAT_STATE 4).fault .mem 0).ldgProtocol 12 0) :=
  (if_neg (not_not.2 h)).trans (if_pos rfl)

/-- With every channel good at the full rate MEM is READY at that rate, with the capacity that its size code gives. -/
theorem memTrained_fullRate (hs : size ≤ 2) : s.memTrained true 15 o1 o2 size ranks2 =
    (let t := ((((((s.set R.MEM_STAT_SIZE size).setFlag R.MEM_STAT_RANKS2 ranks2).set R.MEM_STAT_RATE 0).set
        R.MEM_STAT_CH_OK 15).set R.MEM_STAT_STATE 2).set R.MEM_DATA_TOP_TOP_MIB (7168 * 2 ^ size))
     ({ t with ms := { t.ms with lastAccess := t.now } })) := by
  have sizeOk : ¬ (!true || decide (3 ≤ size)) = true := by simp only [Bool.not_true, Bool.false_or, decide_eq_true_eq]; omega
  exact (if_neg (not_not.2 h)).trans ((if_neg sizeOk).trans ((if_pos rfl).trans (if_pos rfl)))

end

/-! ### Refresh and self refresh (R247, R251) -/

theorem mr4Read_notReady (h : s.get R.MEM_STAT_STATE ≠ 2) (d : Bool) : s.mr4Read d = s := if_pos h

theorem mr4Read_derated (h : s.get R.MEM_STAT_STATE = 2) :
    s.mr4Read true = ({ s with ms := { s.ms with derated := true } } : State).fault .mem 2 :=
  (if_neg (not_not.2 h)).trans (if_pos rfl)

theorem mr4Read_normal (h : s.get R.MEM_STAT_STATE = 2) : s.mr4Read false = { s with ms := { s.ms with derated := false } } :=
  (if_neg (not_not.2 h)).trans (if_neg (by decide))

theorem memSref_enters (h : s.get R.MEM_STAT_STATE = 2) (hm : s.mode = mPARKED ∨ s.mode = mLIMP)
    (he : s.flag R.MEM_CTRL_SR_EN = true) (ht : s.ms.lastAccess + 10000000 ≤ s.now) :
    s.memSref = s.set R.MEM_STAT_STATE 3 :=
  if_pos ⟨h, hm, he, passed_of_le ht⟩

theorem memSref_stays (h : s.get R.MEM_STAT_STATE ≠ 2 ∨ s.flag R.MEM_CTRL_SR_EN = false ∨
    s.now < s.ms.lastAccess + 10000000) : s.memSref = s := by
  refine if_neg fun ⟨hs, _, he, ht⟩ => ?_
  rcases h with h | h | h
  · exact h hs
  · simp [h] at he
  · simp [passed_of_lt h] at ht

/-! ### Scrubbing (R377, R381) -/

theorem scrubRewrite_notDue {i : Nat} (h : i ∉ s.ms.due) : s.scrubRewrite i = s := if_pos h

/-- The rewrite of a word with at most one flipped bit mends it. -/
theorem scrubRewrite_mends {i : Nat} (h : i ∈ s.ms.due) (hf : (setBits (s.flipsOf (s.clogKey i)) 72).length ≤ 1) :
    s.scrubRewrite i = (s.setFlips (s.clogKey i) 0).rewrote i :=
  (if_neg (not_not.2 h)).trans (if_pos hf)

theorem patrol_off (h : s.flag R.MEM_ECC_CTRL_SCRUB_EN = false ∨ s.get R.MEM_STAT_STATE ≠ 2) (w upset : Nat) :
    s.patrol w upset = s := by
  refine if_pos ?_
  rcases h with h | h <;> simp [h]

/-- The state after the patrol scrubber has read block `b`, word `w` of which has gained the flipped bits `upset`. -/
def State.patrolRead (s : State) (b w upset : Nat) : State :=
  (List.range 8).foldl (fun (t : State) (i : Nat) =>
    (t.eccRead ⟨false, 0, 0, 8 * b + i⟩ (ofLeBytes (bytesAt 0 t.mem (64 * b + 8 * i) 8)) true).2)
    (s.upset ⟨false, 0, 0, 8 * b + w % 8⟩ upset)

section
variable (he : s.flag R.MEM_ECC_CTRL_SCRUB_EN = true) (hs : s.get R.MEM_STAT_STATE = 2) (w upset : Nat)
include he hs

/-- With the scrubber enabled and MEM READY it reads its block and moves on, from the last block to the first. -/
theorem patrol_on : s.patrol w upset =
    if s.dataTop ≤ 64 * (s.get R.MEM_SCRUB_POS_BLOCK + 1) then
      ((s.patrolRead (s.get R.MEM_SCRUB_POS_BLOCK) w upset).set R.MEM_SCRUB_POS_BLOCK 0).bump R.MEM_SCRUB_STAT_PASSES 1
    else (s.patrolRead (s.get R.MEM_SCRUB_POS_BLOCK) w upset).set R.MEM_SCRUB_POS_BLOCK (s.get R.MEM_SCRUB_POS_BLOCK + 1) :=
  if_neg (by simp [he, hs])

theorem patrol_movesOn (h : 64 * (s.get R.MEM_SCRUB_POS_BLOCK + 1) < s.dataTop) : s.patrol w upset =
    (s.patrolRead (s.get R.MEM_SCRUB_POS_BLOCK) w upset).set R.MEM_SCRUB_POS_BLOCK (s.get R.MEM_SCRUB_POS_BLOCK + 1) :=
  (patrol_on he hs w upset).trans (if_neg (by omega))

theorem patrol_wraps (h : s.dataTop ≤ 64 * (s.get R.MEM_SCRUB_POS_BLOCK + 1)) : s.patrol w upset =
    ((s.patrolRead (s.get R.MEM_SCRUB_POS_BLOCK) w upset).set R.MEM_SCRUB_POS_BLOCK 0).bump R.MEM_SCRUB_STAT_PASSES 1 :=
  (patrol_on he hs w upset).trans (if_pos h)

end

section
variable (ar inst w upset : Nat)

theorem walker_off (h : s.flag R.MEM_ECC_CTRL_SCRUB_EN = false) : s.walker ar inst w upset = s := if_pos (by simp [h])

/-- A walker outside the CLE arrays reads its word and writes nothing back. -/
theorem walker_reads (h : s.flag R.MEM_ECC_CTRL_SCRUB_EN = true) (ha : ar % 256 ≠ 0x40) : s.walker ar inst w upset =
    ((s.upset ⟨true, ar % 256, inst % 256, w % 2 ^ 24⟩ upset).eccRead ⟨true, ar % 256, inst % 256, w % 2 ^ 24⟩ 0 true).2 :=
  (if_neg (by simp [h])).trans (if_neg (fun e => ha e.1))

end

/-! ### Entries of the Correction Log (R380, R382) -/

/-- Firmware has acted on entry `i` in the state it is in. -/
def State.actedOn (s : State) (i : Nat) : State :=
  { s with ms := { s.ms with acted := s.ms.acted ++ [32 * s.get (R.MEM_CLOG_KEY_HI_STATE i) + i] } }

section
variable {i : Nat}

theorem errorAction_none (h : s.flag (R.MEM_CLOG_KEY_HI_VALID i) = false ∨ s.get (R.MEM_CLOG_KEY_HI_STATE i) = 0 ∨
    s.ms.acted.contains (32 * s.get (R.MEM_CLOG_KEY_HI_STATE i) + i) = true) : s.errorAction i = s := by
  refine if_pos ?_
  rcases h with h | h | h
  · simp [h]
  · simp [h]
  · simp only [h, Bool.or_true, Bool.true_or]

variable (hv : s.flag (R.MEM_CLOG_KEY_HI_VALID i) = true)
  (hst : s.get (R.MEM_CLOG_KEY_HI_STATE i) = 1 ∨ s.get (R.MEM_CLOG_KEY_HI_STATE i) = 2)
  (ha : s.ms.acted.contains (32 * s.get (R.MEM_CLOG_KEY_HI_STATE i) + i) = false) (hf : s.flt.safeStop = false)
include hv hst ha hf

/-- An entry that is HARD or UE, and was not acted on, has the action of its array or of its place in buffer memory. -/
theorem errorAction_acts : s.errorAction i =
    if (s.clogKey i).sram then (s.actedOn i).sramAction (s.clogKey i) (s.get (R.MEM_CLOG_KEY_HI_STATE i) == 2)
    else (s.actedOn i).bufAction (s.clogKey i) (s.get (R.MEM_CLOG_KEY_HI_STATE i) == 2) := by
  refine if_neg ?_
  rw [hv, ha, hf]
  rcases hst with h | h <;> simp [h]

theorem errorAction_sram (hk : (s.clogKey i).sram = true) : s.errorAction i =
    (s.actedOn i).sramAction (s.clogKey i) (s.get (R.MEM_CLOG_KEY_HI_STATE i) == 2) :=
  (errorAction_acts hv hst ha hf).trans (if_pos hk)

theorem errorAction_buffer (hk : (s.clogKey i).sram = false) : s.errorAction i =
    (s.actedOn i).bufAction (s.clogKey i) (s.get (R.MEM_CLOG_KEY_HI_STATE i) == 2) :=
  (errorAction_acts hv hst ha hf).trans (if_neg (by simp [hk]))

end

/-! ### Writes of MEM_CLOG_FREE and MEM_EI_CTRL (R380, R384) -/

section
variable {p : Path} {v : Word}

theorem regCmd_clogFree (h : s.takes p R.A_MEM_CLOG_FREE v = true) :
    s.regCmd p R.A_MEM_CLOG_FREE v = (s.storeReg p R.A_MEM_CLOG_FREE v).clogRelease v.toNat :=
  regCmd_plain s p R.A_MEM_CLOG_FREE v h rfl (by decide) (by decide) (by decide) (by decide) (by decide) (by decide)

/-- A write of MEM_EI_CTRL is stored; no block acts on it before the next whole word is written. -/
theorem regCmd_errorInjection (h : s.takes p R.A_MEM_EI_CTRL v = true) :
    s.regCmd p R.A_MEM_EI_CTRL v = s.storeReg p R.A_MEM_EI_CTRL v :=
  regCmd_plain s p R.A_MEM_EI_CTRL v h rfl (by decide) (by decide) (by decide) (by decide) (by decide) (by decide)

end
end

/-- Settles O27: each command ends with its operation, in one of the cases above. That MR4 is read in READY only is log entry 98,
that firmware acts on errors of commands' buffers by R395 is log entry 100, how a walker names a word of an array is log entry 137,
and that a write keeps the EN that its command is named for is log entry 7: the model's readings. -/
theorem memoryProtectionCommandsComplete : Obligations.MemoryProtectionCommandsComplete := by
  unfold Obligations.MemoryProtectionCommandsComplete
  exact ⟨
    fun agree o0 o1 o2 size ranks2 s h => answers_of_eq rfl (memTrained_notTraining h agree o0 o1 o2 size ranks2),
    fun o1 o2 size ranks2 s h hs => answers_of_eq rfl (memTrained_fullRate h o1 o2 size ranks2 hs),
    fun o0 o1 o2 size ranks2 s h => answers_of_eq rfl (memTrained_disagree h o1 o2 size ranks2 o0),
    fun d s h => answers_of_eq rfl (mr4Read_notReady h d),
    fun s h => answers_of_eq rfl (mr4Read_derated h),
    fun s h => answers_of_eq rfl (mr4Read_normal h),
    fun s h hm he ht => answers_of_eq rfl (memSref_enters h hm he ht),
    fun s h => answers_of_eq rfl (memSref_stays h),
    fun i s h => answers_of_eq rfl (scrubRewrite_notDue h),
    fun i s h hf => answers_of_eq rfl (scrubRewrite_mends h hf),
    fun w upset s h => answers_of_eq rfl (patrol_off h w.val upset),
    fun w upset s he hs h => answers_of_eq rfl (patrol_movesOn he hs w.val upset h),
    fun w upset s he hs h => answers_of_eq rfl (patrol_wraps he hs w.val upset h),
    fun ar inst w upset s h => answers_of_eq rfl (walker_off ar inst w upset h),
    fun ar inst w upset s h ha => answers_of_eq rfl (walker_reads ar inst w upset h ha),
    fun i s h => answers_of_eq rfl (errorAction_none h),
    fun i s hv hst ha hf hk => answers_of_eq rfl (errorAction_sram hv hst ha hf hk),
    fun i s hv hst ha hf hk => answers_of_eq rfl (errorAction_buffer hv hst ha hf hk),
    fun path value s h => answers_of_eq rfl (regCmd_clogFree h),
    fun path value s h => answers_of_eq rfl (regCmd_errorInjection h)⟩

end Sys2Proof.Machine
end

section
/-!
SUPPORT and settlement. The I/O commands of the NVM command set (R304, R317 to R333, R362): Flush, writes, reads, deallocation, what
a fault discards, each operation case by case.
-/

namespace Sys2Proof.Machine

open Sys2Proof

section
variable {s : State} {slot : Slot} {c : CmdSlot} {n : NsSt} {x : Xfer}

/-! ### Commands that are not served or not yet in turn (R333, R340) -/

theorem flushCmd_absent (h : s.ioCmd slot 0 = none) : s.flushCmd slot = s := by simp only [State.flushCmd, h]

theorem writeStart_absent (h : s.ioNs slot 1 = none) : s.writeStart slot = s := by simp only [State.writeStart, h]

theorem writeEffect_absent (h : s.ioNs slot 1 = none) (x : Xfer) : s.writeEffect slot x = s := by
  simp only [State.writeEffect, h]

theorem readCmd_absent (h : s.ioNs slot 2 = none) (x : Xfer) (med : Option (List Nat)) : s.readCmd slot x med = s := by
  simp only [State.readCmd, h]

theorem writeZeroes_absent (h : s.ioNs slot 8 = none) : s.writeZeroes slot = s := by simp only [State.writeZeroes, h]

theorem datasetMgmt_absent (h : s.ioNs slot 9 = none) (x : Xfer) : s.datasetMgmt slot x = s := by
  simp only [State.datasetMgmt, h]

theorem verifyCmd_absent (h : s.ioNs slot 12 = none) (pi : Nat) (med : Option (List Nat)) : s.verifyCmd slot pi med = s := by
  simp only [State.verifyCmd, h]

theorem writeEffect_notInTurn (h : s.ioNs slot 1 = some (c, n)) (ht : s.inTurn c = false) (x : Xfer) :
    s.writeEffect slot x = s := by
  simp only [State.writeEffect, h]
  exact if_pos (by simp [ht])

theorem readCmd_notInTurn (h : s.ioNs slot 2 = some (c, n)) (ht : s.inTurn c = false) (x : Xfer) (med : Option (List Nat)) :
    s.readCmd slot x med = s := by
  simp only [State.readCmd, h]
  exact if_pos (by simp [ht])

theorem writeZeroes_notInTurn (h : s.ioNs slot 8 = some (c, n)) (ht : s.inTurn c = false) : s.writeZeroes slot = s := by
  simp only [State.writeZeroes, h]
  exact if_pos (by simp [ht])

theorem datasetMgmt_notInTurn (h : s.ioNs slot 9 = some (c, n)) (ht : s.inTurn c = false) (x : Xfer) :
    s.datasetMgmt slot x = s := by
  simp only [State.datasetMgmt, h]
  exact if_pos (by simp [ht])

theorem verifyCmd_notInTurn (h : s.ioNs slot 12 = some (c, n)) (ht : s.inTurn c = false) (pi : Nat)
    (med : Option (List Nat)) : s.verifyCmd slot pi med = s := by
  simp only [State.verifyCmd, h]
  exact if_pos (by simp [ht])

/-! ### Flush (R324) -/

theorem flushCmd_waits (h : s.ioCmd slot 0 = some c) (hw : s.mode = mSPINUP ∨ s.inTurn c = false) : s.flushCmd slot = s := by
  simp only [State.flushCmd, h]
  exact if_pos (by simpa using hw)

/-- A Flush in turn begins, and ends at once where what came before it is durable. -/
theorem flushCmd_begins (h : s.ioCmd slot 0 = some c) (hm : s.mode ≠ mSPINUP) (ht : s.inTurn c = true) :
    s.flushCmd slot = (s.modCmd slot (fun x => { x with started := true })).flushCheck := by
  simp only [State.flushCmd, h]
  exact if_neg (by simp [hm, ht])

/-! ### Write (R317, R319) -/

section
variable (h : s.ioNs slot 1 = some (c, n))
include h

theorem writeStart_migrating (hm : c.mode = mMIGRATE) : s.writeStart slot = s.finishSt slot (cst scProtected) := by
  simp only [State.writeStart, h]
  exact if_pos hm

theorem writeStart_waits (hm : c.mode ≠ mMIGRATE)
    (hw : c.started = true ∨ s.dirtyRoom (n.sectors c.slba c.nlb).length = false) : s.writeStart slot = s := by
  simp only [State.writeStart, h]
  exact (if_neg hm).trans (if_pos (by simpa using hw))

/-- A Write obtains one buffer per sector, all or none. -/
theorem writeStart_allocates (hm : c.mode ≠ mMIGRATE) (hs : c.started = false)
    (hd : s.dirtyRoom (n.sectors c.slba c.nlb).length = true) : s.writeStart slot =
      (let r := s.allocBufs (max 4096 n.hostBytes) (n.sectors c.slba c.nlb).length []
       (r.1.elim r.2 (fun hs => r.2.modCmd slot (fun x => { x with started := true, bufs := hs })))) := by
  simp only [State.writeStart, h]
  refine ((if_neg hm).trans (if_neg (by simp [hs, hd]))).trans ?_
  generalize s.allocBufs (max 4096 n.hostBytes) (n.sectors c.slba c.nlb).length [] = r
  obtain ⟨o, t⟩ := r
  cases o with
  | none => rfl
  | some hs => rfl

theorem writeEffect_notStarted (hs : c.started = false) (x : Xfer) : s.writeEffect slot x = s := by
  simp only [State.writeEffect, h]
  exact if_pos (by simp [hs])

variable (hs : c.started = true) (ht : s.inTurn c = true)
include hs ht

theorem writeEffect_badTransfer {code : Nat} (hx : xferStatus c n x = some code) :
    s.writeEffect slot x = s.xferFail c code := by
  simp only [State.writeEffect, h, hx]
  exact if_neg (by simp [hs, ht])

variable (hx : xferStatus c n x = none)
include hx

/-- Without capacity a Write ends with that status and its buffers are free again. -/
theorem writeEffect_noCapacity {st : Cst} (hc : s.capacityCheck n (n.sectors c.slba c.nlb) = some st) :
    s.writeEffect slot x = ((s.freeBufs c.bufs).modCmd slot (fun y => { y with bufs := [] })).finishSt slot st := by
  simp only [State.writeEffect, h, hx, hc]
  exact if_neg (by simp [hs, ht])

/-- With all its data a Write takes its sectors into the cache and makes their blocks readable. -/
theorem writeEffect_caches (hc : s.capacityCheck n (n.sectors c.slba c.nlb) = none)
    (hb : s.mergeBad n c.slba c.nlb = false) : s.writeEffect slot x =
      (((s.cacheAll n c.slba c.nlb c.stamp (s.streamId c) x.data ((n.sectors c.slba c.nlb).zip c.bufs)).clearUnread n.id
        c.slba c.nlb).streamTouch c).writeDone c (n.sectors c.slba c.nlb) := by
  simp only [State.writeEffect, h, hx, hc, hb]
  exact if_neg (by simp [hs, ht])

end

/-- Without FUA and outside ARCHIVE a Write completes with its effect. -/
theorem writeDone_completes (hf : c.fua = false) (hm : c.mode ≠ mARCHIVE) (secs : List Nat) : s.writeDone c secs =
    ((s.modCmd c.no (fun x => { x with effect := true, bufs := [] })).finishSt c.no (cst scOk)).flushCheck :=
  if_neg (by simp [hf, hm])

/-! ### Write Zeroes (R317) -/

theorem writeZeroes_migrating (h : s.ioNs slot 8 = some (c, n)) (ht : s.inTurn c = true) (hm : c.mode = mMIGRATE) :
    s.writeZeroes slot = s.finishSt slot (cst scProtected) := by
  simp only [State.writeZeroes, h]
  exact (if_neg (by simp [ht])).trans (if_pos hm)

theorem writeZeroes_acts (h : s.ioNs slot 8 = some (c, n)) (ht : s.inTurn c = true) (hm : c.mode ≠ mMIGRATE) :
    s.writeZeroes slot = (match s.zeroRange n c.slba c.nlb c.stamp with
      | none => s
      | some (.error st) => s.finishSt slot st
      | some (.ok t) => t.writeDone c (n.sectors c.slba c.nlb)) := by
  simp only [State.writeZeroes, h]
  exact (if_neg (by simp [ht])).trans (if_neg hm)

/-! ### Dataset Management (R362) -/

/-- A list of ranges is checked for its data pointer only. -/
theorem xferStatus_noPi (hd : x.dptr = 0) : xferStatus c { n with fmt := 0 } x = none := by
  simp [xferStatus, hd]

section
variable (h : s.ioNs slot 9 = some (c, n)) (ht : s.inTurn c = true)
include h ht

theorem datasetMgmt_migrating (hm : c.mode = mMIGRATE) : s.datasetMgmt slot x = s.finishSt slot (cst scProtected) := by
  simp only [State.datasetMgmt, h]
  exact (if_neg (by simp [ht])).trans (if_pos hm)

variable (hm : c.mode ≠ mMIGRATE) (hd : x.dptr = 0)
include hm hd

theorem datasetMgmt_outside (hr : ∃ r ∈ dsmRanges x.data (bitsOf (c.dw 0) 0 8 + 1), n.nsze < r.1 + r.2) :
    s.datasetMgmt slot x = s.finishSt slot (cst scRange) := by
  simp only [State.datasetMgmt, h, xferStatus_noPi hd]
  refine (if_neg (by simp [ht])).trans ((if_neg hm).trans (if_pos ?_))
  obtain ⟨r, hr, hl⟩ := hr
  exact List.any_eq_true.2 ⟨r, hr, decide_eq_true hl⟩

/-- A Deallocate does nothing in an unpacked namespace. -/
theorem datasetMgmt_unpacked (hr : ∀ r ∈ dsmRanges x.data (bitsOf (c.dw 0) 0 8 + 1), r.1 + r.2 ≤ n.nsze)
    (hp : n.packed = false) : s.datasetMgmt slot x =
      (s.modCmd slot (fun y => { y with effect := true })).finishSt slot (cst scOk) := by
  have inside : ¬ (dsmRanges x.data (bitsOf (c.dw 0) 0 8 + 1)).any (fun r => decide (n.nsze < r.1 + r.2)) = true := by
    rw [List.any_eq_true]
    rintro ⟨r, hm, hl⟩
    exact absurd (hr r hm) (Nat.not_le.2 (of_decide_eq_true hl))
  simp only [State.datasetMgmt, h, xferStatus_noPi hd]
  exact (if_neg (by simp [ht])).trans ((if_neg hm).trans ((if_neg inside).trans (if_pos (by simp [hp]))))

end

/-! ### Read and Verify (R317, R318, R328) -/

section
variable (h : s.ioNs slot 2 = some (c, n)) (ht : s.inTurn c = true)
include h ht

theorem readCmd_handed (x : Xfer) :
    s.readCmd slot x none = s.modCmd slot (fun y => { y with started := true, handed := true }) := by
  simp only [State.readCmd, h]
  exact if_neg (by simp [ht])

variable {bad : List Nat}

theorem readCmd_unreadable (hb : s.readBad c n bad = true) (x : Xfer) :
    s.readCmd slot x (some bad) = s.finishSt slot (cst scUnrecovered) := by
  simp only [State.readCmd, h]
  exact (if_neg (by simp [ht])).trans (if_pos hb)

variable (hb : s.readBad c n bad = false)
include hb

theorem readCmd_badTransfer {code : Nat} (hx : xferStatus c n x = some code) :
    s.readCmd slot x (some bad) = s.xferFail c code := by
  simp only [State.readCmd, h, hx]
  exact (if_neg (by simp [ht])).trans (if_neg (by simp [hb]))

/-- A Read ends with the newest data of its sectors. -/
theorem readCmd_returns (hx : xferStatus c n x = none) (hm : s.mode ≠ mMIGRATE) : s.readCmd slot x (some bad) =
    (s.modCmd slot (fun y => { y with effect := true })).finish slot ⟨cst scOk, 0, 0,
      ((n.sectors c.slba c.nlb).map (fun k => hostSector n k c.slba c.nlb (s.content n k))).flatten⟩ := by
  simp only [State.readCmd, h, hx, hm, if_false]
  exact (if_neg (by simp [ht])).trans (if_neg (by simp [hb]))

end

section
variable (h : s.ioNs slot 12 = some (c, n)) (ht : s.inTurn c = true) (pi : Nat)
include h ht

theorem verifyCmd_handed :
    s.verifyCmd slot pi none = s.modCmd slot (fun y => { y with started := true, handed := true }) := by
  simp only [State.verifyCmd, h]
  exact if_neg (by simp [ht])

variable {bad : List Nat}

theorem verifyCmd_unreadable (hb : s.readBad c n bad = true) :
    s.verifyCmd slot pi (some bad) = s.finishSt slot (cst scUnrecovered) := by
  simp only [State.verifyCmd, h]
  exact (if_neg (by simp [ht])).trans (if_pos hb)

variable (hb : s.readBad c n bad = false)
include hb

theorem verifyCmd_badPi {code : Nat} (hx : xferStatus c n ⟨0, [], pi⟩ = some code) :
    s.verifyCmd slot pi (some bad) = s.xferFail c code := by
  simp only [State.verifyCmd, h, hx]
  exact (if_neg (by simp [ht])).trans (if_neg (by simp [hb]))

theorem verifyCmd_succeeds (hx : xferStatus c n ⟨0, [], pi⟩ = none) : s.verifyCmd slot pi (some bad) =
    (s.modCmd slot (fun y => { y with effect := true })).finishSt slot (cst scOk) := by
  simp only [State.verifyCmd, h, hx]
  exact (if_neg (by simp [ht])).trans (if_neg (by simp [hb]))

end

/-! ### Commands without buffers, destaging, and what a fault discards (R268, R323, R333) -/

theorem poolExhausted_absent (h : s.cmd slot = none) : s.poolExhausted slot = s := by simp only [State.poolExhausted, h]

/-- A read or write command for which no buffer was free within 1 s of its fetch ends. -/
theorem poolExhausted_ends (h : s.cmd slot = some c) (hi : c.isIo = true) (ho : c.e.opc = 1 ∨ c.e.opc = 2)
    (hr : c.res = none) (he : c.effect = false) (hs : c.started = false) (hv : c.resv = some true)
    (hm : s.mode = mPARALLEL) (ht : c.stamp + 1000000000 ≤ s.now) :
    s.poolExhausted slot = s.finishSt slot (stPool (bitOf (cnt (s.ctl c.ctrl).feats 0x16) 0)) := by
  have hl : loadedMode s.mode = true := by rw [hm]; decide
  have hw : (isWriteOp c.e.opc || isReadOp c.e.opc) = true := by rcases ho with ho | ho <;> rw [ho] <;> decide
  simp only [State.poolExhausted, h]
  exact if_pos (by simp only [hi, hw, hr, he, hs, hv, hl, passed_of_le ht]; rfl)

theorem poolExhausted_tooSoon (h : s.cmd slot = some c) (ht : s.now < c.stamp + 1000000000) : s.poolExhausted slot = s := by
  simp only [State.poolExhausted, h]
  exact if_neg (by simp [passed_of_lt ht])

theorem destageStart_empty (h : s.hif.cache = []) : s.destageStart = s := if_pos (by simp [h])

theorem destageStart_begins (h : s.hif.cache ≠ []) : s.destageStart = s.modHif (fun h => { h with destaging := true }) :=
  if_neg (by simp [h])

variable {u : CUnit}

theorem discarded_noFault (h : s.flt.history = []) (l : List Slot) : s.discarded u l = s := if_neg (by simp [h])

theorem discarded_nothing : s.discarded u [] = s := by simp [State.discarded]

/-- A command that a unit faulted within the last millisecond had in work ends discarded, and its buffers are free again. -/
theorem discarded_one (hu : ∃ e ∈ s.flt.history, e.1 = u ∧ s.now ≤ e.2 + 1000000) (h : s.cmd slot = some c)
    (hi : c.isIo = true) (hr : c.res = none) (he : c.effect = false) :
    s.discarded u [slot] = (s.freeBufs c.bufs).finishSt slot stDiscarded := by
  have faulted : s.flt.history.any (fun e => decide (e.1 = u) && decide (s.now ≤ e.2 + 1000000)) = true := by
    simpa using hu
  refine (if_pos faulted).trans ?_
  simp only [List.foldl_cons, List.foldl_nil, h]
  exact if_pos (by simp [hi, hr, he])

end

/-- Settles O37: each command ends with its operation, in one of the cases above. That commands which overlap act in the order of
their fetch is log entry 74, that Flush belongs to the writes is log entry 79, that the outcome of a data pointer and the medium's
sectors are operands is log entries 103 and 107, and that the slots which lost work are an operand is log entry 44: the model's
readings. -/
theorem ioCommandsComplete : Obligations.IoCommandsComplete := by
  unfold Obligations.IoCommandsComplete
  exact ⟨
    fun slot s h => answers_of_eq rfl (flushCmd_absent h),
    fun slot s h => answers_of_eq rfl (writeStart_absent h),
    fun slot x s h => answers_of_eq rfl (writeEffect_absent h x),
    fun slot x c n s h ht => answers_of_eq rfl (writeEffect_notInTurn h ht x),
    fun slot x med s h => answers_of_eq rfl (readCmd_absent h x med),
    fun slot x med c n s h ht => answers_of_eq rfl (readCmd_notInTurn h ht x med),
    fun slot s h => answers_of_eq rfl (writeZeroes_absent h),
    fun slot c n s h ht => answers_of_eq rfl (writeZeroes_notInTurn h ht),
    fun slot x s h => answers_of_eq rfl (datasetMgmt_absent h x),
    fun slot x c n s h ht => answers_of_eq rfl (datasetMgmt_notInTurn h ht x),
    fun slot pi med s h => answers_of_eq rfl (verifyCmd_absent h pi med),
    fun slot pi med c n s h ht => answers_of_eq rfl (verifyCmd_notInTurn h ht pi med),
    fun slot c s h hw => answers_of_eq rfl (flushCmd_waits h hw),
    fun slot c s h hm ht => answers_of_eq rfl (flushCmd_begins h hm ht),
    fun slot c n s h hm hw => answers_of_eq rfl (writeStart_waits h hm hw),
    fun slot c n s h hm => answers_of_eq rfl (writeStart_migrating h hm),
    fun slot c n s h hm ht => answers_of_eq rfl (writeZeroes_migrating h ht hm),
    fun slot x c n s h hm ht => answers_of_eq rfl (datasetMgmt_migrating h ht hm),
    fun slot c n s h hm hs hd => answers_of_eq rfl (writeStart_allocates h hm hs hd),
    fun slot x c n s h hs => answers_of_eq rfl (writeEffect_notStarted h hs x),
    fun slot x c n code s h hs ht hx => answers_of_eq rfl (writeEffect_badTransfer h hs ht hx),
    fun slot x c n s h hs ht hx hc hb => answers_of_eq rfl (writeEffect_caches h hs ht hx hc hb),
    fun slot x c n st s h hs ht hx hc => answers_of_eq rfl (writeEffect_noCapacity h hs ht hx hc),
    fun c secs s hf hm => writeDone_completes hf hm secs,
    fun slot c n s h hm ht => answers_of_eq rfl (writeZeroes_acts h ht hm),
    fun slot x c n s h hm ht hd hr => answers_of_eq rfl (datasetMgmt_outside h ht hm hd hr),
    fun slot x c n s h hm ht hd hr hp => answers_of_eq rfl (datasetMgmt_unpacked h ht hm hd hr hp),
    fun slot x c n s h ht => answers_of_eq rfl (readCmd_handed h ht x),
    fun slot x c n bad s h ht hb => answers_of_eq rfl (readCmd_unreadable h ht hb x),
    fun slot x c n bad code s h ht hb hx => answers_of_eq rfl (readCmd_badTransfer h ht hb hx),
    fun slot x c n bad s h ht hb hx hm => answers_of_eq rfl (readCmd_returns h ht hb hx hm),
    fun slot pi c n s h ht => answers_of_eq rfl (verifyCmd_handed h ht pi),
    fun slot pi c n bad s h ht hb => answers_of_eq rfl (verifyCmd_unreadable h ht pi hb),
    fun slot pi c n bad code s h ht hb hx => answers_of_eq rfl (verifyCmd_badPi h ht pi hb hx),
    fun slot pi c n bad s h ht hb hx => answers_of_eq rfl (verifyCmd_succeeds h ht pi hb hx),
    fun slot s h => answers_of_eq rfl (poolExhausted_absent h),
    fun slot c s h hi ho hr he hs hv hm ht => answers_of_eq rfl (poolExhausted_ends h hi ho hr he hs hv hm ht),
    fun slot c s h ht => answers_of_eq rfl (poolExhausted_tooSoon h ht),
    fun s h => answers_of_eq rfl (destageStart_empty h),
    fun s h => answers_of_eq rfl (destageStart_begins h),
    fun u l s h => answers_of_eq rfl (discarded_noFault h l),
    fun u s => answers_of_eq rfl discarded_nothing,
    fun u slot c s hu h hi hr he => answers_of_eq rfl (discarded_one hu h hi hr he)⟩

end Sys2Proof.Machine
end

section
/-!
SUPPORT and settlement. The reservation of a namespace (R336, R337): registering, replacing a key and removing registrants keep it
consistent, and whom it lets read and write.
-/

namespace Sys2Proof.Machine

open Sys2Proof

/-! ### A consistent reservation -/

/-- The holder of a reservation with registrants `regs` and type `t`, where it has one, is a registrant and `t` one of the six
types. -/
def holderOk (regs : List (Nat × Nat)) (t : Nat) : Option Nat → Prop
  | some h => h ∈ regs.map (·.1) ∧ 1 ≤ t ∧ t ≤ 6
  | none => t = 0

theorem Resv.registered_iff (r : Resv) (h : Nat) : r.registered h = true ↔ h ∈ r.regs.map (·.1) := by
  simp [Resv.registered]

theorem Resv.ok_iff (r : Resv) : r.ok = true ↔ (r.regs.map (·.1)).Nodup ∧ holderOk r.regs r.rtype r.holder := by
  unfold Resv.ok holderOk
  cases r.holder with
  | none => simp
  | some h => simp only [Bool.and_eq_true, decide_eq_true_eq, Resv.registered_iff, and_assoc]

/-- Registrants more than before leave the holder one of them. -/
theorem holderOk_mono {l m : List (Nat × Nat)} {t : Nat} {o : Option Nat} (h : ∀ x ∈ l.map (·.1), x ∈ m.map (·.1))
    (hl : holderOk l t o) : holderOk m t o := by
  cases o with
  | none => exact hl
  | some x =>
    obtain ⟨hm, ht⟩ := hl
    exact ⟨h x hm, ht⟩

/-! ### Removing registrants -/

theorem nodup_filter_fst {l : List (Nat × Nat)} (p : Nat × Nat → Bool) (h : (l.map (·.1)).Nodup) :
    ((l.filter p).map (·.1)).Nodup :=
  h.sublist (List.filter_sublist.map _)

/-- A host that stays is a registrant after the removal of others. -/
theorem mem_fst_filter {l : List (Nat × Nat)} {p : Nat → Bool} {h : Nat} (hm : h ∈ l.map (·.1)) (hp : p h = false) :
    h ∈ (l.filter (fun e => !p e.1)).map (·.1) := by
  obtain ⟨e, he, rfl⟩ := List.mem_map.1 hm
  exact List.mem_map.2 ⟨e, List.mem_filter.2 ⟨he, by simp [hp]⟩, rfl⟩

/-- The holder that the removal of registrants leaves: itself, another registrant in an All Registrants type, or none. -/
theorem Resv.unregister_holder {r : Resv} (p : Nat → Bool) (h : holderOk r.regs r.rtype r.holder) :
    holderOk (r.unregister p).regs (r.unregister p).rtype (r.unregister p).holder := by
  unfold Resv.unregister
  cases hr : r.holder with
  | none => simp [holderOk]
  | some k =>
    rw [hr] at h
    obtain ⟨hk, ht⟩ := h
    by_cases h5 : 5 ≤ r.rtype
    · cases hf : r.regs.filter (fun e => !p e.1) with
      | nil => simp [holderOk, h5]
      | cons e l =>
        cases hp : p k with
        | true => simpa [holderOk, h5, hp] using ht
        | false =>
          have stays := mem_fst_filter hk hp
          rw [hf] at stays
          simpa [holderOk, h5, hp] using ⟨by simpa using stays, ht⟩
    · cases hp : p k with
      | true => simp [holderOk, h5, hp]
      | false => simpa only [h5, hp, if_false] using ⟨mem_fst_filter hk hp, ht⟩

theorem Resv.unregister_ok {r : Resv} (p : Nat → Bool) (h : r.ok = true) : (r.unregister p).ok = true := by
  obtain ⟨hd, hh⟩ := r.ok_iff.1 h
  exact (Resv.ok_iff _).2 ⟨nodup_filter_fst _ hd, Resv.unregister_holder p hh⟩

/-! ### Registering and replacing a key -/

/-- A new registrant keeps a reservation consistent. -/
theorem Resv.ok_join {r v : Resv} {h k : Nat} (hr : r.ok = true) (hn : h ∉ r.regs.map (·.1))
    (hv : v.regs = r.regs ++ [(h, k)]) (ht : v.rtype = r.rtype) (ho : v.holder = r.holder) : v.ok = true := by
  obtain ⟨hd, hh⟩ := r.ok_iff.1 hr
  refine v.ok_iff.2 ⟨?_, ?_⟩
  · rw [hv, List.map_append]
    exact hd.append (List.nodup_singleton _) (by simpa using hn)
  · rw [ht, ho, hv]
    exact holderOk_mono (fun x hx => by rw [List.map_append]; exact List.mem_append_left _ hx) hh

/-- New keys for the same registrants keep a reservation consistent. -/
theorem Resv.ok_of_hosts {r v : Resv} (hr : r.ok = true) (hv : v.regs.map (·.1) = r.regs.map (·.1))
    (ht : v.rtype = r.rtype) (ho : v.holder = r.holder) : v.ok = true := by
  obtain ⟨hd, hh⟩ := r.ok_iff.1 hr
  refine v.ok_iff.2 ⟨hv ▸ hd, ?_⟩
  rw [ht, ho]
  exact holderOk_mono (fun x hx => hv ▸ hx) hh

/-- The key that `register` looks up is none for a host that is no registrant. -/
theorem not_mem_of_no_key {l : List (Nat × Nat)} {h : Nat} (hk : (l.find? (fun e => e.1 == h)).map (·.2) = none) :
    h ∉ l.map (·.1) := by
  rw [Option.map_eq_none_iff, List.find?_eq_none] at hk
  intro hm
  obtain ⟨e, he, rfl⟩ := List.mem_map.1 hm
  exact hk e he (by simp)

theorem map_fst_replaceKey (l : List (Nat × Nat)) (h k : Nat) :
    (l.map (fun e => if e.1 = h then (h, k) else e)).map (·.1) = l.map (·.1) := by
  rw [List.map_map]
  refine List.map_congr_left fun e _ => ?_
  simp only [Function.comp]
  split
  · next he => exact he.symm
  · rfl

theorem Resv.register_ok {r v : Resv} {h a : Nat} {ie : Bool} {ck nk : Nat} (hr : r.ok = true)
    (hv : r.register h a ie ck nk = some v) : v.ok = true := by
  have counted : ({ r with gen := (r.gen + 1) % 2 ^ 32 } : Resv).ok = true := hr
  unfold Resv.register at hv
  dsimp only at hv
  split at hv
  · split at hv
    · split at hv
      · exact Option.some.inj hv ▸ counted
      · simp at hv
    · next hk => exact Option.some.inj hv ▸ Resv.ok_join hr (not_mem_of_no_key hk) rfl rfl rfl
  · split at hv
    · split at hv
      · exact Option.some.inj hv ▸ Resv.unregister_ok _ counted
      · simp at hv
    · split at hv
      · split at hv
        · exact Option.some.inj hv ▸ Resv.ok_of_hosts hr (map_fst_replaceKey _ _ _) rfl rfl
        · simp at hv
      · next hk =>
        split at hv
        · exact Option.some.inj hv ▸ Resv.ok_join hr (not_mem_of_no_key hk) rfl rfl rfl
        · simp at hv

/-! ### Whom a reservation lets pass -/

theorem Resv.allows_holder {r : Resv} {h : Nat} (hh : r.holder = some h) (w : Bool) : r.allows h w = true := by
  simp [Resv.allows, Resv.holds, hh]

theorem Resv.allows_free {r : Resv} (hh : r.holder = none) (h : Nat) (w : Bool) : r.allows h w = true := by
  simp [Resv.allows, hh]

/-- A host that is no registrant does not hold the reservation: the holder is one. -/
theorem Resv.stranger_holds {r : Resv} {h k : Nat} (hr : r.ok = true) (hk : r.holder = some k) (hn : r.registered h = false) :
    r.holds h = false := by
  obtain ⟨-, hh⟩ := r.ok_iff.1 hr
  rw [hk] at hh
  obtain ⟨hm, -⟩ := hh
  have ne : k ≠ h := by
    rintro rfl
    rw [(r.registered_iff k).2 hm] at hn
    cases hn
  simp [Resv.holds, hk, hn, ne]

theorem Resv.allows_stranger {r : Resv} {h k : Nat} (hr : r.ok = true) (hk : r.holder = some k)
    (hn : r.registered h = false) : r.allows h true = false ∧
      (r.allows h false = true ↔ r.rtype = 1 ∨ r.rtype = 3 ∨ r.rtype = 5) := by
  have out := Resv.stranger_holds hr hk hn
  constructor
  · simp [Resv.allows, hk, out, hn]
  · simp [Resv.allows, hk, out, hn, or_assoc]

/-- Settles O54: what `unregister` and `register` leave is consistent, and who passes follows from the holder's being a
registrant. -/
theorem reservationsStayConsistent : Obligations.ReservationsStayConsistent := by
  unfold Obligations.ReservationsStayConsistent
  exact ⟨fun r p h => Resv.unregister_ok p h, fun r v h a ie ck nk hr hv => Resv.register_ok hr hv,
    fun r h _ hh w => Resv.allows_holder hh w, fun r h k hr hk hn => Resv.allows_stranger hr hk hn,
    fun r h w hh => Resv.allows_free hh h w⟩

end Sys2Proof.Machine
end

section
/-!
SUPPORT and settlement. The layouts of bytes: numbers spelled in bytes (R2), the CRC-16 register (R92), downstream Darenlen frames
(R442), programs and erases of the NOR, and the records of the Ledger (R407 to R409).
-/

namespace Sys2Proof.Machine

open Sys2Proof

/-! ### Numbers spelled in bytes (R2) -/

@[simp] theorem leBytes_length (k n : Nat) : (leBytes k n).length = k := by
  induction k generalizing n with
  | zero => rfl
  | succ k ih => rw [leBytes, List.length_cons, ih]

theorem ofLeBytes_leBytes (k n : Nat) : ofLeBytes (leBytes k n) = n % 2 ^ (8 * k) := by
  induction k generalizing n with
  | zero => simp [leBytes, ofLeBytes, Nat.mod_one]
  | succ k ih =>
    rw [leBytes, ofLeBytes, ih, BitVec.toNat_ofNat, show 8 * (k + 1) = 8 + 8 * k by ring, Nat.pow_add,
      Nat.mod_mul]

/-! ### The CRC-16 register (R92) -/

/-- A register of 16 bits stays one, step by step. -/
theorem crcSteps_lt (k : Nat) {r : Nat} (h : r < 2 ^ 16) : crcSteps 16 0x1021 k r < 2 ^ 16 := by
  induction k generalizing r with
  | zero => exact h
  | succ k ih =>
    unfold crcSteps
    refine ih ?_
    split
    · exact Nat.xor_lt_two_pow (by omega) (by decide)
    · omega

theorem crcByte_lt {r : Nat} (b : Byte) (h : r < 2 ^ 16) : crcByte 16 0x1021 r b < 2 ^ 16 := by
  have hb := b.isLt
  exact crcSteps_lt 8 (Nat.xor_lt_two_pow h (by omega))

theorem foldl_crcByte_lt (bs : List Byte) {r : Nat} (h : r < 2 ^ 16) : bs.foldl (crcByte 16 0x1021) r < 2 ^ 16 := by
  induction bs generalizing r with
  | nil => exact h
  | cons b bs ih =>
    rw [List.foldl_cons]
    exact ih (crcByte_lt b h)

theorem crc16_lt (bs : List Byte) : crc16 bs < 2 ^ 16 := by
  unfold crc16
  exact foldl_crcByte_lt bs (by decide)

/-! ### Downstream frames (R442) -/

/-- TYPE and SEQ share byte 0. -/
theorem frameBytes_byte0 (f : DlkFrame) (q : Nat) :
    (frameBytes f q)[0]? = some (BitVec.ofNat 8 (f.ty % 16 + 16 * (q % 16))) := rfl

theorem frameBytes_body (f : DlkFrame) (q : Nat) : ((frameBytes f q).drop 1).take 4 =
    [BitVec.ofNat 8 f.b1, BitVec.ofNat 8 f.b2, BitVec.ofNat 8 f.b3, BitVec.ofNat 8 f.b4] := rfl

/-- The last two bytes are the CRC-16 of the first five, high byte first. -/
theorem frameBytes_crc (f : DlkFrame) (q : Nat) :
    (frameBytes f q)[5]? = some (BitVec.ofNat 8 (crc16 ((frameBytes f q).take 5) / 256)) ∧
    (frameBytes f q)[6]? = some (BitVec.ofNat 8 (crc16 ((frameBytes f q).take 5))) := ⟨rfl, rfl⟩

theorem byte0_toNat {t q : Nat} (ht : t < 16) (hq : q < 16) :
    (BitVec.ofNat 8 (t % 16 + 16 * (q % 16))).toNat = t + 16 * q := by
  rw [BitVec.toNat_ofNat]
  omega

theorem byte_mod_eq {m n : Nat} (h : BitVec.ofNat 8 m = BitVec.ofNat 8 n) : m % 256 = n % 256 := by
  simpa using congrArg BitVec.toNat h

/-- TYPE and SEQ are read back from byte 0. -/
theorem frameBytes_typeSeq {f : DlkFrame} {q : Nat} (ht : f.ty < 16) (hq : q < 16) :
    ((frameBytes f q)[0]?).map (fun b => bitsOf b.toNat 0 4) = some f.ty ∧
    ((frameBytes f q)[0]?).map (fun b => bitsOf b.toNat 4 4) = some q := by
  rw [frameBytes_byte0, Option.map_some, Option.map_some, byte0_toNat ht hq, bitsOf, bitsOf]
  constructor <;> congr 1 <;> omega

/-- Equal frames have equal TYPE, SEQ and body. -/
theorem frameBytes_inj {f g : DlkFrame} {q k : Nat} (hf : f.ty < 16) (hg : g.ty < 16) (hq : q < 16) (hk : k < 16)
    (h : frameBytes f q = frameBytes g k) : f.ty = g.ty ∧ q = k ∧ f.b1 % 256 = g.b1 % 256 ∧ f.b2 % 256 = g.b2 % 256 ∧
      f.b3 % 256 = g.b3 % 256 ∧ f.b4 % 256 = g.b4 % 256 := by
  have first := congrArg (fun l : List Byte => l[0]?) h
  have body := congrArg (fun l : List Byte => (l.drop 1).take 4) h
  simp only [frameBytes_byte0, Option.some.injEq] at first
  simp only [frameBytes_body, List.cons.injEq, and_true] at body
  obtain ⟨h1, h2, h3, h4⟩ := body
  have byte0 := congrArg BitVec.toNat first
  rw [byte0_toNat hf hq, byte0_toNat hg hk] at byte0
  exact ⟨by omega, by omega, byte_mod_eq h1, byte_mod_eq h2, byte_mod_eq h3, byte_mod_eq h4⟩

/-- Settles O52: the bytes of a frame are written out, and the CRC that ends it has 16 bits. -/
theorem darenlenFrameLayout : Obligations.DarenlenFrameLayout := by
  unfold Obligations.DarenlenFrameLayout
  refine ⟨fun f q => rfl, fun f q ht hq => frameBytes_typeSeq ht hq, fun f q => frameBytes_body f q, fun f q => ?_,
    fun bs => crc16_lt bs, fun f g q k hf hg hq hk h => frameBytes_inj hf hg hq hk h⟩
  have crc := crc16_lt ((frameBytes f q).take 5)
  obtain ⟨h5, h6⟩ := frameBytes_crc f q
  rw [h5, h6, Option.map_some, Option.map_some, BitVec.toNat_ofNat, BitVec.toNat_ofNat]
  exact ⟨congrArg some (Nat.mod_eq_of_lt (by omega)), rfl⟩

/-! ### The serial NOR (R408, R411) -/

theorem norProgram_inside (m : List (Nat × Byte)) (a : Nat) (bs : List Byte) (i : Nat) (h : i < bs.length) :
    byteAt 0xFF (norProgram m a bs) (a + i) = bs[i] &&& byteAt 0xFF m (a + i) := by
  unfold norProgram
  rw [byteAt_putBytes_in _ _ _ _ i (by simpa using h)]
  simp

theorem norProgram_outside (m : List (Nat × Byte)) {a j : Nat} {bs : List Byte} (h : j < a ∨ a + bs.length ≤ j) :
    byteAt 0xFF (norProgram m a bs) j = byteAt 0xFF m j :=
  byteAt_putBytes_out _ _ _ _ _ (by simpa using h)

/-- A key taken out of a sparse list reads as unlisted, and the others as before. -/
theorem amGet_filter {α : Type} (d : Nat → α) (p : Nat → Bool) (m : List (Nat × α)) (j : Nat) :
    amGet d (m.filter (fun e => p e.1)) j = if p j then amGet d m j else d j := by
  induction m with
  | nil => simp [amGet]
  | cons e m ih =>
    obtain ⟨k, v⟩ := e
    by_cases hk : k = j
    · subst hk
      cases hp : p k <;> simp [hp, amGet, ih]
    · cases hp : p k <;> simp [hp, hk, amGet, ih]

theorem byteAt_norErase (m : List (Nat × Byte)) (a n j : Nat) : byteAt 0xFF (norErase m a n) j =
    if j < a ∨ a + n ≤ j then byteAt 0xFF m j else 0xFF := by
  unfold byteAt norErase
  rw [amGet_filter _ (fun k => decide (k < a) || decide (a + n ≤ k))]
  simp

/-- The first page program of a job programs its bytes; the second is to follow. -/
theorem ldgProgramDone_first {s : State} {j : LdgJob} (h : s.ldg.job = some j) (h2 : j.second = false) :
    s.ldgProgramDone =
      { s with nor := norProgram s.nor j.addr j.bytes, ldg := { s.ldg with job := some { j with second := true } } } := by
  simp only [State.ldgProgramDone, h]
  exact if_pos (by simp [h2])

/-- Settles O50: a program puts the AND of each byte of its range, an erase takes the range's bytes out of the list. -/
theorem norProgramsOnlyClearBits : Obligations.NorProgramsOnlyClearBits := by
  unfold Obligations.NorProgramsOnlyClearBits
  refine ⟨fun m a bs i h => norProgram_inside m a bs i h, fun m a bs j h => norProgram_outside m h,
    fun m a n j h1 h2 => ?_, fun m a n j h => ?_, fun j s h h2 => ldgProgramDone_first h h2⟩
  · rw [byteAt_norErase, if_neg (by omega)]
  · rw [byteAt_norErase, if_pos h]

/-! ### The records of the Ledger (R407 to R409) -/

section
variable (r : LdgRec) (rseq pcyc opt flags : Nat)

theorem recPayload_length : (recPayload r).length = recLen r - 32 := by
  unfold recPayload recLen
  rw [List.length_append, List.length_replicate]
  omega

/-- A record is 32 bytes and its payload (Table 17-2). -/
theorem recBytes_split : ∃ head : List Byte, head.length = 32 ∧ recBytes r rseq pcyc opt flags = head ++ recPayload r :=
  ⟨_, rfl, rfl⟩

theorem recBytes_length : (recBytes r rseq pcyc opt flags).length = recLen r := by
  obtain ⟨head, hl, h⟩ := recBytes_split r rseq pcyc opt flags
  have : 32 ≤ recLen r := Nat.le_add_right 32 _
  rw [h, List.length_append, hl, recPayload_length]
  omega

theorem recLen_range (h : r.payload.length ≤ 224) : recLen r % 8 = 0 ∧ 32 ≤ recLen r ∧ recLen r ≤ 256 := by
  unfold recLen
  omega

theorem recBytes_state : (recBytes r rseq pcyc opt flags)[0]? = some 0xF0 := rfl

theorem recBytes_len : (recBytes r rseq pcyc opt flags)[1]? = some (BitVec.ofNat 8 (recLen r / 8)) := rfl

theorem recBytes_filler : (recBytes r rseq pcyc opt flags)[29]? = some 0xFF := rfl

theorem recBytes_code : ((recBytes r rseq pcyc opt flags).drop 2).take 2 = leBytes 2 r.code := rfl

theorem recBytes_rseq : ((recBytes r rseq pcyc opt flags).drop 4).take 4 = leBytes 4 rseq := rfl

theorem recBytes_pcyc : ((recBytes r rseq pcyc opt flags).drop 8).take 4 = leBytes 4 pcyc := rfl

theorem recBytes_optime : ((recBytes r rseq pcyc opt flags).drop 12).take 6 = leBytes 6 opt := rfl

theorem recBytes_supp : ((recBytes r rseq pcyc opt flags).drop 18).take 2 = leBytes 2 r.supp := rfl

theorem recBytes_stamp : ((recBytes r rseq pcyc opt flags).drop 20).take 8 = leBytes 8 r.stamp := rfl

theorem recBytes_payload : (recBytes r rseq pcyc opt flags).drop 32 = recPayload r := rfl

/-- The CRC stands over the bytes after STATE but its own. -/
theorem recBytes_crc : ((recBytes r rseq pcyc opt flags).drop 30).take 2 =
    leBytes 2 (crc16 (((recBytes r rseq pcyc opt flags).drop 1).take 29 ++ (recBytes r rseq pcyc opt flags).drop 32)) := rfl

/-- LEN counts units of 8 bytes. -/
theorem recBytes_lenUnits (h : r.payload.length ≤ 224) :
    ((recBytes r rseq pcyc opt flags)[1]?).map (fun b => 8 * b.toNat) = some (recLen r) := by
  obtain ⟨h8, -, h256⟩ := recLen_range r h
  rw [recBytes_len, Option.map_some, BitVec.toNat_ofNat]
  congr 1
  omega

end

/-- The place chosen for a record: the position or the start of the next page, all of the record in one page. -/
theorem fitPage_spec {pos len : Nat} (h : len ≤ 256) (h1 : 1 ≤ len) :
    (fitPage pos len = pos ∨ fitPage pos len = (pos / 256 + 1) * 256) ∧
    fitPage pos len / 256 = (fitPage pos len + len - 1) / 256 ∧ (pos % 256 + len ≤ 256 → fitPage pos len = pos) := by
  unfold fitPage
  split
  · exact ⟨.inl rfl, by omega, fun _ => rfl⟩
  · exact ⟨.inr rfl, by omega, fun _ => by omega⟩

/-- Settles O51: the bytes of a record stand where Table 17-2 puts them, and each number is spelled low byte first. -/
theorem ledgerRecordLayout : Obligations.LedgerRecordLayout := by
  unfold Obligations.LedgerRecordLayout
  refine ⟨fun r a b c d h => ⟨recBytes_length r a b c d, recLen_range r h⟩,
    fun r a b c d h => ⟨recBytes_state r a b c d, recBytes_lenUnits r a b c d h, recBytes_filler r a b c d⟩,
    fun r a b c d h => ?_, fun r a b c d h => ?_, fun r a b c d h => recBytes_payload r a b c d,
    fun pos len h h1 => fitPage_spec h h1⟩
  · rw [recBytes_code, recBytes_rseq, recBytes_pcyc, recBytes_optime, recBytes_supp, recBytes_stamp]
    simp only [ofLeBytes_leBytes, Nat.reduceMul, and_self]
  · rw [recBytes_crc, ofLeBytes_leBytes, Nat.mod_eq_of_lt (crc16_lt _)]

end Sys2Proof.Machine
end

section
/-!
SUPPORT and settlement. The DEFLATE decoder (R355): the output it counts is the output it makes, and stored blocks give their
bytes.
-/

namespace Sys2Proof.Machine

open Sys2Proof

/-! ### What is counted is made -/

/-- From `st` on to `t` each output byte that was counted was made. -/
def InfSt.Made (st t : InfSt) : Prop := t.out.length + st.n = st.out.length + t.n

theorem InfSt.Made.trans {a b c : InfSt} (h : a.Made b) (k : b.Made c) : a.Made c := by
  unfold InfSt.Made at *
  omega

theorem bind_ok {α β : Type} {x : Except InfErr α} {f : α → Except InfErr β} {b : β} (h : (x >>= f) = .ok b) :
    ∃ a, x = .ok a ∧ f a = .ok b := by
  cases x with
  | error e => cases h
  | ok a => exact ⟨a, rfl, h⟩

theorem copyBack_length (d k : Nat) (out : List Byte) : (copyBack d k out).length = out.length + k := by
  induction k generalizing out with
  | zero => rfl
  | succ k ih =>
    rw [copyBack, ih, List.length_cons]
    omega

theorem infSyms_made {lit dist : List Nat} {fuel : Nat} {st t : InfSt} (h : infSyms lit dist fuel st = .ok t) : st.Made t := by
  induction fuel generalizing st with
  | zero => cases h
  | succ fuel ih =>
    obtain ⟨⟨x, bs⟩, -, h⟩ := bind_ok h
    dsimp only at h
    split at h
    · split at h
      · cases h
      · have rest := ih h
        simp only [InfSt.Made, List.length_cons] at *
        omega
    · split at h
      · cases h
        rfl
      · split at h
        · cases h
        · obtain ⟨⟨lx, bs1⟩, -, h⟩ := bind_ok h
          obtain ⟨⟨d, bs2⟩, -, h⟩ := bind_ok h
          dsimp only at h
          split at h
          · cases h
          · obtain ⟨⟨dx, bs3⟩, -, h⟩ := bind_ok h
            dsimp only at h
            split at h
            · cases h
            · split at h
              · cases h
              · have rest := ih h
                simp only [InfSt.Made, copyBack_length] at *
                omega

theorem takeStored_made {k : Nat} {st t : InfSt} (h : takeStored k st = .ok t) : st.Made t := by
  induction k generalizing st with
  | zero =>
    cases h
    rfl
  | succ k ih =>
    obtain ⟨⟨v, r⟩, -, h⟩ := bind_ok h
    dsimp only at h
    split at h
    · cases h
    · have rest := ih h
      simp only [InfSt.Made, List.length_cons] at *
      omega

/-- A block ends with what its bytes or its symbols left. -/
theorem infBlock_made {st t : InfSt} {last : Bool} (h : infBlock st = .ok (last, t)) : st.Made t := by
  obtain ⟨⟨x, r1⟩, -, h⟩ := bind_ok h
  obtain ⟨⟨ty, r2⟩, -, h⟩ := bind_ok h
  dsimp only at h
  split at h
  · obtain ⟨⟨len, r4⟩, -, h⟩ := bind_ok h
    obtain ⟨⟨nlen, r5⟩, -, h⟩ := bind_ok h
    dsimp only at h
    split at h
    · cases h
    · obtain ⟨u, hu, h⟩ := bind_ok h
      cases h
      exact takeStored_made (st := { st with bits := r5 }) hu
  · split at h
    · obtain ⟨u, hu, h⟩ := bind_ok h
      cases h
      exact infSyms_made (st := { st with bits := r2 }) hu
    · split at h
      · obtain ⟨⟨lit, dist, r3⟩, -, h⟩ := bind_ok h
        obtain ⟨u, hu, h⟩ := bind_ok h
        cases h
        exact infSyms_made (st := { st with bits := r3 }) hu
      · cases h

theorem infBlocks_made {fuel : Nat} {st t : InfSt} (h : infBlocks fuel st = .ok t) : st.Made t := by
  induction fuel generalizing st with
  | zero => cases h
  | succ fuel ih =>
    obtain ⟨⟨last, u⟩, hu, h⟩ := bind_ok h
    dsimp only at h
    split at h
    · cases h
      exact infBlock_made hu
    · exact (infBlock_made hu).trans (ih h)

/-- A stream that the decompressor accepts gives 1,048,576 bytes. -/
theorem inflate_length {hist stream out : List Byte} (h : inflate hist stream = .ok out) : out.length = 1048576 := by
  unfold inflate at h
  split at h
  · cases h
  · next st hs =>
    have made := infBlocks_made hs
    split at h
    · cases h
    · split at h
      · cases h
      · next hn =>
        cases h
        simp only [InfSt.Made, infMax] at *
        rw [List.length_reverse, List.length_take]
        omega

/-! ### Reading bytes of a stream -/

theorem takeNum_cons (k : Nat) (b : Bool) {bs r : List Bool} {n : Nat} (h : takeNum k bs = .ok (n, r)) :
    takeNum (k + 1) (b :: bs) = .ok (b2n b + 2 * n, r) := by
  rw [takeNum, h]
  rfl

/-- A number of `j` bits and one of `k` bits after it are one number of `j + k` bits. -/
theorem takeNum_add {j k m n : Nat} {bs r1 r2 : List Bool} (h1 : takeNum j bs = .ok (m, r1))
    (h2 : takeNum k r1 = .ok (n, r2)) : takeNum (j + k) bs = .ok (m + 2 ^ j * n, r2) := by
  induction j generalizing bs m with
  | zero =>
    cases h1
    simpa using h2
  | succ j ih =>
    cases bs with
    | nil => cases h1
    | cons b bs =>
      obtain ⟨⟨m', r'⟩, hm, h1⟩ := bind_ok h1
      cases h1
      rw [show j + 1 + k = j + k + 1 by omega, takeNum_cons (j + k) b (ih hm), Nat.pow_succ]
      congr 2
      ring

theorem takeNum_byteBits (b : Byte) : takeNum 8 ((List.range 8).map (fun i => b.getLsbD i)) = .ok (b.toNat, []) := by
  have sum : b2n (b.getLsbD 0) + 2 * (b2n (b.getLsbD 1) + 2 * (b2n (b.getLsbD 2) + 2 * (b2n (b.getLsbD 3) +
      2 * (b2n (b.getLsbD 4) + 2 * (b2n (b.getLsbD 5) + 2 * (b2n (b.getLsbD 6) + 2 * (b2n (b.getLsbD 7) + 2 * 0))))))) =
      b.toNat := by
    revert b
    decide
  rw [← sum]
  rfl

/-- What a number leaves unread does not matter to it. -/
theorem takeNum_append {k n : Nat} {bs r : List Bool} (h : takeNum k bs = .ok (n, r)) (l : List Bool) :
    takeNum k (bs ++ l) = .ok (n, r ++ l) := by
  induction k generalizing bs n with
  | zero =>
    cases h
    rfl
  | succ k ih =>
    cases bs with
    | nil => cases h
    | cons b bs =>
      obtain ⟨⟨m, r'⟩, hm, h⟩ := bind_ok h
      cases h
      exact takeNum_cons k b (ih hm)

/-- The bits of bytes are read back as the number that the bytes spell. -/
theorem takeNum_bytes (bs : List Byte) (r : List Bool) :
    takeNum (8 * bs.length) (bitsOfBytes bs ++ r) = .ok (ofLeBytes bs, r) := by
  induction bs with
  | nil => rfl
  | cons b bs ih =>
    rw [List.length_cons, show 8 * (bs.length + 1) = 8 + 8 * bs.length by ring, bitsOfBytes, List.append_assoc, ofLeBytes]
    exact takeNum_add (takeNum_append (takeNum_byteBits b) _) ih

theorem takeNum_leBytes (n : Nat) (h : n < 2 ^ 16) (r : List Bool) :
    takeNum 16 (bitsOfBytes (leBytes 2 n) ++ r) = .ok (n, r) := by
  have e := takeNum_bytes (leBytes 2 n) r
  rwa [ofLeBytes_leBytes, Nat.mod_eq_of_lt h] at e

theorem bitsOfBytes_append (a b : List Byte) : bitsOfBytes (a ++ b) = bitsOfBytes a ++ bitsOfBytes b := by
  induction a with
  | nil => rfl
  | cons x a ih => rw [List.cons_append, bitsOfBytes, bitsOfBytes, ih, List.append_assoc]

theorem bitsOfBytes_length (a : List Byte) : (bitsOfBytes a).length = 8 * a.length := by
  induction a with
  | nil => rfl
  | cons x a ih =>
    rw [bitsOfBytes, List.length_append, List.length_map, List.length_range, ih, List.length_cons]
    omega

/-! ### Stored blocks -/

/-- The bytes of a stored block. -/
def storedBlock (last : Bool) (data : List Byte) : List Byte :=
  [if last then 1 else 0] ++ leBytes 2 data.length ++ leBytes 2 (65535 - data.length) ++ data

theorem takeStored_bytes (data out : List Byte) (r : List Bool) (n : Nat) (h : n + data.length ≤ 1048576) :
    takeStored data.length ⟨bitsOfBytes data ++ r, out, n⟩ = .ok ⟨r, data.reverse ++ out, n + data.length⟩ := by
  induction data generalizing out n with
  | nil => rfl
  | cons b data ih =>
    rw [List.length_cons] at h ⊢
    have byte : takeNum 8 (bitsOfBytes (b :: data) ++ r) = .ok (b.toNat, bitsOfBytes data ++ r) := by
      rw [bitsOfBytes, List.append_assoc]
      exact takeNum_append (takeNum_byteBits b) _
    rw [takeStored]
    simp only [byte, bind, Except.bind, BitVec.ofNat_toNat, BitVec.setWidth_eq]
    rw [if_neg (by unfold infMax; omega), ih _ _ (by omega), List.reverse_cons, List.append_assoc, Nat.add_assoc,
      Nat.add_comm 1]
    rfl

/-- The first byte of a stored block holds BFINAL and BTYPE 00; its other bits fill the byte. -/
theorem bitsOfBytes_storedBlock (last : Bool) (data : List Byte) : bitsOfBytes (storedBlock last data) =
    last :: false :: false :: (List.replicate 5 false ++ (bitsOfBytes (leBytes 2 data.length) ++
      (bitsOfBytes (leBytes 2 (65535 - data.length)) ++ bitsOfBytes data))) := by
  simp only [storedBlock, bitsOfBytes_append, List.append_assoc]
  cases last <;> rfl

/-- A stored block is read as its data, and what follows it stays. -/
theorem infBlock_stored (last : Bool) {data : List Byte} (out : List Byte) {r : List Bool} {n : Nat}
    (h : data.length < 65536) (hn : n + data.length ≤ 1048576) (hr : r.length % 8 = 0) :
    infBlock ⟨bitsOfBytes (storedBlock last data) ++ r, out, n⟩ = .ok (last, ⟨r, data.reverse ++ out, n + data.length⟩) := by
  have header (x : List Bool) : takeNum 1 (last :: x) = .ok (b2n last, x) ∧ takeNum 2 (false :: false :: x) = .ok (0, x) :=
    ⟨rfl, rfl⟩
  have fill (x : List Bool) (hx : x.length % 8 = 0) :
      (List.replicate 5 false ++ x).drop ((List.replicate 5 false ++ x).length % 8) = x := by
    rw [List.length_append, List.length_replicate, show (5 + x.length) % 8 = 5 by omega]
    rfl
  have whole : (bitsOfBytes (leBytes 2 data.length) ++ (bitsOfBytes (leBytes 2 (65535 - data.length)) ++
      (bitsOfBytes data ++ r))).length % 8 = 0 := by
    simp only [List.length_append, bitsOfBytes_length]
    omega
  rw [bitsOfBytes_storedBlock]
  simp only [infBlock, List.cons_append, List.append_assoc, (header _).1, (header _).2, bind, Except.bind, if_true,
    fill _ whole, takeNum_leBytes _ (show data.length < 2 ^ 16 by omega),
    takeNum_leBytes _ (show 65535 - data.length < 2 ^ 16 by omega), takeStored_bytes data out r n hn]
  rw [if_neg (by omega)]
  cases last <;> rfl

/-- A block of BTYPE 11 ends the stream. -/
theorem infBlock_badType (last : Bool) (rest : List Bool) (out : List Byte) (n : Nat) :
    infBlock ⟨last :: true :: true :: rest, out, n⟩ = .error .badCode := rfl

/-! ### Streams of stored blocks -/

theorem storedStream_succ (k : Nat) (data : List Byte) : storedStream (k + 1) data =
    storedBlock (data.drop 65535).isEmpty (data.take 65535) ++
      (if (data.drop 65535).isEmpty then [] else storedStream k (data.drop 65535)) := by
  unfold storedBlock
  rw [storedStream]

/-- A stream of enough stored blocks gives the data they hold. -/
theorem infBlocks_stored (k fuel : Nat) {data out : List Byte} {n : Nat} (hd : data.length ≤ 65535 * (k + 1))
    (hf : k < fuel) (hn : n + data.length ≤ 1048576) :
    infBlocks fuel ⟨bitsOfBytes (storedStream (k + 1) data), out, n⟩ = .ok ⟨[], data.reverse ++ out, n + data.length⟩ := by
  induction k generalizing fuel data out n with
  | zero =>
    obtain ⟨fuel, rfl⟩ : ∃ m, fuel = m + 1 := ⟨fuel - 1, by omega⟩
    have rest : data.drop 65535 = [] := List.drop_eq_nil_of_le (by omega)
    have all : data.take 65535 = data := List.take_of_length_le (by omega)
    have block := infBlock_stored true (data := data) out (r := []) (n := n) (by omega) hn rfl
    rw [storedStream_succ, rest, all, infBlocks]
    simp only [List.isEmpty_nil, if_true, List.append_nil] at block ⊢
    rw [block]
    rfl
  | succ k ih =>
    obtain ⟨fuel, rfl⟩ : ∃ m, fuel = m + 1 := ⟨fuel - 1, by omega⟩
    have len : (data.take 65535).length + (data.drop 65535).length = data.length := by
      rw [← List.length_append, List.take_append_drop]
    have first : (data.take 65535).length ≤ 65535 := List.length_take_le _ _
    have more : (data.drop 65535).length ≤ 65535 * (k + 1) := by
      rw [List.length_drop]
      omega
    rw [storedStream_succ, bitsOfBytes_append, infBlocks, infBlock_stored _ out (by omega) (by omega)
      (by rw [bitsOfBytes_length]; omega)]
    cases he : (data.drop 65535).isEmpty with
    | true =>
      have rest : data.drop 65535 = [] := List.isEmpty_iff.1 he
      have all : data.take 65535 = data := List.take_of_length_le (List.drop_eq_nil_iff.1 rest)
      rw [all]
      rfl
    | false =>
      have both : data.reverse ++ out = (data.drop 65535).reverse ++ ((data.take 65535).reverse ++ out) := by
        rw [← List.append_assoc, ← List.reverse_append, List.take_append_drop]
      simp only [bind, Except.bind, if_false, Bool.false_eq_true]
      rw [ih fuel more (by omega) (by omega), both, Nat.add_assoc, len]

/-- A stream of stored blocks that holds 1,048,576 bytes expands to them. -/
theorem inflate_stored (hist : List Byte) {data : List Byte} (h : data.length = 1048576) :
    inflate hist (storedStream 17 data) = .ok data := by
  have long : 5 ≤ (storedStream 17 data).length := by
    rw [storedStream_succ, storedBlock]
    simp only [List.length_append, List.length_singleton, leBytes_length]
    omega
  have blocks := infBlocks_stored 16 (8 * (storedStream 17 data).length + 1) (data := data) (out := hist.reverse) (n := 0)
    (by omega) (by omega) (by omega)
  unfold inflate
  rw [blocks]
  dsimp only
  rw [if_neg (by simp), if_neg (by unfold infMax; omega), List.take_left' (by rw [List.length_reverse, h]; rfl),
    List.reverse_reverse]

/-- Settles O53: what the decoder counts it makes, and a stored block is read as its data. -/
theorem decompressedLength : Obligations.DecompressedLength := by
  unfold Obligations.DecompressedLength
  refine ⟨fun hist stream => ?_, fun hist data h => inflate_stored hist h,
    fun last rest out n => infBlock_badType last rest out n, fun data out rest n h hn hr => infBlock_stored true out h hn hr⟩
  cases h : inflate hist stream with
  | error e => exact .inl ⟨e, rfl⟩
  | ok out => exact .inr ⟨out, rfl, inflate_length h⟩

end Sys2Proof.Machine
end

section
/-!
SUPPORT and settlement. Fault sources (R386, R388) and the summary tree (R390, R391): which bits a setting raises, what waits for its
action, and which bits of the summary registers stand.
-/

namespace Sys2Proof.Machine

open Sys2Proof

/-! ### Bits of numbers and of sums of powers of two -/

theorem bitOf_eq_testBit (n i : Nat) : bitOf n i = n.testBit i := by
  rw [Nat.testBit_eq_decide_div_mod_eq, bitOf]
  rfl

theorem mem_setBits {n w b : Nat} : b ∈ setBits n w ↔ b < w ∧ bitOf n b = true := by
  simp [setBits]

theorem setBits_nodup (n w : Nat) : (setBits n w).Nodup := List.nodup_range.filter _

/-- The bits of `n` that are not bits of `m`. -/
theorem testBit_sub_land (n m i : Nat) : (n - Nat.land n m).testBit i = (n.testBit i && !m.testBit i) := by
  have le : Nat.land n m ≤ n := Nat.and_le_left
  have half : Nat.land n m / 2 = Nat.land (n / 2) (m / 2) := Nat.and_div_two
  have low : Nat.land n m % 2 = 1 ↔ n % 2 = 1 ∧ m % 2 = 1 := Nat.and_mod_two_eq_one
  induction i generalizing n m with
  | zero =>
    simp only [Nat.testBit_zero]
    rcases Nat.mod_two_eq_zero_or_one m with hm | hm <;> simp only [hm] at low ⊢ <;> grind
  | succ i ih =>
    have le' : Nat.land (n / 2) (m / 2) ≤ n / 2 := Nat.and_le_left
    rw [Nat.testBit_succ, Nat.testBit_succ, Nat.testBit_succ, show (n - Nat.land n m) / 2 =
      n / 2 - Nat.land (n / 2) (m / 2) by omega]
    exact ih _ _ le' Nat.and_div_two Nat.and_mod_two_eq_one

theorem bitOf_sub_land (n m b : Nat) : bitOf (n - Nat.land n m) b = (bitOf n b && !bitOf m b) := by
  simp only [bitOf_eq_testBit, testBit_sub_land]

theorem bitOf_land (n m b : Nat) : bitOf (Nat.land n m) b = (bitOf n b && bitOf m b) := by
  simp only [bitOf_eq_testBit]
  exact Nat.testBit_and n m b

/-- A sum of powers of two, one for each number below `n` with the property: it has exactly those bits. -/
theorem testBit_flagSum (P : Nat → Prop) [DecidablePred P] (n i : Nat) :
    ((List.range n).foldl (fun m k => if P k then m + 2 ^ k else m) 0).testBit i = (decide (i < n) && decide (P i)) := by
  induction n generalizing i with
  | zero => simp
  | succ n ih =>
    rw [List.range_succ, List.foldl_append, List.foldl_cons, List.foldl_nil]
    generalize (List.range n).foldl (fun m k => if P k then m + 2 ^ k else m) 0 = x at ih
    have small : x < 2 ^ n := Nat.lt_pow_two_of_testBit x fun j hj => by simp [ih, Nat.not_lt.2 hj]
    have sum (j : Nat) : (x + 2 ^ n).testBit j = if j < n then x.testBit j else decide (j = n) := by
      rw [Nat.add_comm, show 2 ^ n = 2 ^ n * 1 by rw [Nat.mul_one], Nat.testBit_two_pow_mul_add 1 small]
      split
      · rfl
      · rw [Bool.eq_iff_iff, Nat.testBit_one_eq_true_iff_self_eq_zero, decide_eq_true_eq]
        omega
    by_cases hn : P n
    · rw [if_pos hn, sum, ih]
      rcases Nat.lt_trichotomy i n with h | h | h
      · simp [h, Nat.lt_succ_of_lt h]
      · simp [h, hn]
      · simp [Nat.not_lt.2 h.le, Nat.ne_of_gt h, show ¬ i < n + 1 by omega]
    · rw [if_neg hn, ih]
      rcases Nat.lt_trichotomy i n with h | h | h
      · simp [h, Nat.lt_succ_of_lt h]
      · simp [h, hn]
      · simp [Nat.not_lt.2 h.le, show ¬ i < n + 1 by omega]

/-- The bits that a list of numbers leaves when those with the property are put together. -/
theorem testBit_foldl_lor {α : Type} (P : α → Prop) [DecidablePred P] (f : α → Nat) (l : List α) (n i : Nat) :
    (l.foldl (fun m r => if P r then Nat.lor m (2 ^ f r) else m) n).testBit i =
      (n.testBit i || l.any (fun r => f r == i && decide (P r))) := by
  induction l generalizing n with
  | nil => simp
  | cons r l ih =>
    have one (m : Nat) : (Nat.lor m (2 ^ f r)).testBit i = (m.testBit i || (f r == i)) := by
      refine (Nat.testBit_or m _ i).trans ?_
      rw [Nat.testBit_two_pow]
      rfl
    rw [List.foldl_cons, ih, List.any_cons]
    by_cases h : P r
    · simp only [h, if_true, one, decide_true, Bool.and_true, Bool.or_assoc]
    · simp [h]

/-! ### Setting a source (R386) -/

section
variable (s : State) (r : FltReg)

theorem riseSrcs_nil : s.riseSrcs r [] = s := rfl

theorem attnAssert_todo : s.attnAssert.flt.todo = s.flt.todo := by
  unfold State.attnAssert
  split
  · rfl
  · rw [State.set_flt]

/-- Sources that rise wait for their actions together. -/
theorem riseSrcs_todo {bits : List Nat} (h : bits ≠ []) : (s.riseSrcs r bits).flt.todo =
    s.flt.todo ++ [⟨r, (s.rd r.statAddr).toNat, bits.map (fun b => (b, s.appliedLevel r b)), s.now⟩] := by
  unfold State.riseSrcs
  split
  · exact absurd rfl h
  · dsimp only
    split
    · rw [attnAssert_todo]
    · rfl

theorem attnAssert_rd {a : Nat} (h : a ≠ R.A_FLT_ATTN_LEVEL) : s.attnAssert.rd a = s.rd a := by
  unfold State.attnAssert
  split
  · rfl
  · exact rd_set_ne _ _ _ h

/-- What rises changes no register but ATTN_N's. -/
theorem riseSrcs_rd (bits : List Nat) {a : Nat} (h : a ≠ R.A_FLT_ATTN_LEVEL) : (s.riseSrcs r bits).rd a = s.rd a := by
  unfold State.riseSrcs
  split
  · rfl
  · dsimp only
    split
    · rw [attnAssert_rd _ h]
      rfl
    · rfl

/-- No status register is its own severity register or ATTN_N's. -/
theorem statAddr_ne_sev (b : Nat) : r.statAddr ≠ (r.sevFld b).addr := by
  have ite_addr (c : Prop) [Decidable c] (f g : Fld) : (if c then f else g).addr = if c then f.addr else g.addr := by
    split <;> rfl
  cases r with
  | spn =>
    simp only [FltReg.sevFld, ite_addr, FltReg.statAddr, sevField]
    split <;> decide
  | chRd h => simp [FltReg.sevFld, FltReg.statAddr, sevField, R.A_CH_RD_FLT_STAT, R.A_CH_RD_FLT_SEV]
  | chWr h =>
    simp only [FltReg.sevFld, ite_addr, FltReg.statAddr, sevField]
    split <;> simp [R.A_CH_WR_FLT_STAT, R.A_CH_WR_FLT_SEV0, R.A_CH_WR_FLT_SEV1]
  | ldpc n => simp [FltReg.sevFld, FltReg.statAddr, sevField, R.A_LDPC_FLT_STAT, R.A_LDPC_FLT_SEV]
  | seq a => simp [FltReg.sevFld, FltReg.statAddr, sevField, R.A_SEQ_FLT_STAT, R.A_SEQ_FLT_SEV]
  | _ =>
    simp only [FltReg.sevFld, sevField, FltReg.statAddr]
    decide

end

/-- The bits of `m` that rise in status AND NOT mask. -/
def State.rising (s : State) (r : FltReg) (m : Nat) : Nat :=
  m - Nat.land m (s.rd r.statAddr).toNat - Nat.land (m - Nat.land m (s.rd r.statAddr).toNat) (s.fltMask r)

section
variable (s : State) (r : FltReg) (m : Nat)

theorem setFault_eq : s.setFault r m = (s.wr r.statAddr (BitVec.ofNat 32 (Nat.lor (s.rd r.statAddr).toNat m))).riseSrcs r
    (setBits (s.rising r m) r.srcBits) := rfl

theorem mem_rising {b : Nat} : b ∈ setBits (s.rising r m) r.srcBits ↔
    b < r.srcBits ∧ bitOf m b = true ∧ s.faultIs r b = false ∧ bitOf (s.fltMask r) b = false := by
  rw [mem_setBits, State.rising, bitOf_sub_land, bitOf_sub_land, State.faultIs]
  simp [and_assoc]

/-- A status bit is set where it was or is put. -/
theorem faultIs_setFault {b : Nat} (hr : r.statAddr ≠ R.A_FLT_ATTN_LEVEL) (hm : m < 2 ^ 32) :
    (s.setFault r m).faultIs r b = (s.faultIs r b || bitOf m b) := by
  have fits : Nat.lor (s.rd r.statAddr).toNat m < 2 ^ 32 := Nat.or_lt_two_pow (s.rd r.statAddr).isLt hm
  rw [setFault_eq, State.faultIs, riseSrcs_rd _ _ _ hr, rd_wr_same, BitVec.toNat_ofNat, Nat.mod_eq_of_lt fits, State.faultIs]
  simp only [bitOf_eq_testBit]
  exact Nat.testBit_or _ m b

theorem rd_setFault_ne {a : Nat} (h : a ≠ r.statAddr) (ha : a ≠ R.A_FLT_ATTN_LEVEL) : (s.setFault r m).rd a = s.rd a := by
  rw [setFault_eq, riseSrcs_rd _ _ _ ha, rd_wr_ne _ _ h]

/-- A write of a status register changes no severity. -/
theorem appliedLevel_wr (v : Word) (b : Nat) : (s.wr r.statAddr v).appliedLevel r b = s.appliedLevel r b := by
  have severity : (s.wr r.statAddr v).get (r.sevFld b) = s.get (r.sevFld b) := by
    unfold State.get
    rw [rd_wr_ne s v (statAddr_ne_sev r b).symm]
  unfold State.appliedLevel
  dsimp only
  rw [severity]

/-- Where no source rises, a setting leaves the faults' own state. -/
theorem setFault_flt (h : ∀ b, b < r.srcBits → bitOf m b = true → s.faultIs r b = true ∨ bitOf (s.fltMask r) b = true) :
    (s.setFault r m).flt = s.flt := by
  have none : setBits (s.rising r m) r.srcBits = [] := by
    refine List.eq_nil_iff_forall_not_mem.2 fun b hb => ?_
    obtain ⟨hl, hm, hs, hk⟩ := (mem_rising s r m).1 hb
    rcases h b hl hm with h | h
    · simp [h] at hs
    · simp [h] at hk
  rw [setFault_eq, none, riseSrcs_nil, State.wr_flt]

/-- The sources that rise wait for their actions, each once and with its level. -/
theorem setFault_todo (h : ∃ b, b < r.srcBits ∧ bitOf m b = true ∧ s.faultIs r b = false ∧ bitOf (s.fltMask r) b = false) :
    ∃ a, (s.setFault r m).flt.todo = s.flt.todo ++ [a] ∧ a.reg = r ∧ a.stamp = s.now ∧
      (∀ b l, (b, l) ∈ a.srcs ↔ b < r.srcBits ∧ bitOf m b = true ∧ s.faultIs r b = false ∧
        bitOf (s.fltMask r) b = false ∧ l = s.appliedLevel r b) ∧ (a.srcs.map (·.1)).Nodup := by
  obtain ⟨b, hb⟩ := h
  have some : setBits (s.rising r m) r.srcBits ≠ [] := List.ne_nil_of_mem ((mem_rising s r m).2 hb)
  rw [setFault_eq]
  refine ⟨_, riseSrcs_todo _ r some, rfl, rfl, fun b l => ?_, ?_⟩
  · simp only [List.mem_map, Prod.mk.injEq, appliedLevel_wr, mem_rising]
    constructor
    · rintro ⟨_, hb, rfl, rfl⟩
      tauto
    · rintro ⟨h1, h2, h3, h4, rfl⟩
      exact ⟨b, ⟨h1, h2, h3, h4⟩, rfl, rfl⟩
  · rw [List.map_map, show (fun e : Nat × Nat => e.1) ∘ (fun b => (b, State.appliedLevel _ r b)) = id from rfl, List.map_id]
    exact setBits_nodup _ _

end

theorem statAddr_ne_attn : ∀ r ∈ allFltRegs, r.statAddr ≠ R.A_FLT_ATTN_LEVEL := by decide

/-! ### Unmasking a source (R386) -/

section
variable (s : State) (r : FltReg) (old new : Nat)

/-- The set sources that a mask write unmasks. -/
def State.shown (s : State) (r : FltReg) (old new : Nat) : List Nat :=
  setBits (Nat.land (old - Nat.land old new) (s.rd r.statAddr).toNat) r.srcBits

theorem maskWrite_todo_eq : (s.maskWrite r old new).flt.todo = (s.riseSrcs r (s.shown r old new)).flt.todo := by
  unfold State.maskWrite State.shown
  dsimp only
  split <;> rfl

theorem mem_shown {b : Nat} : b ∈ s.shown r old new ↔
    b < r.srcBits ∧ bitOf old b = true ∧ bitOf new b = false ∧ s.faultIs r b = true := by
  rw [State.shown, mem_setBits, bitOf_land, bitOf_sub_land, State.faultIs]
  simp [and_assoc]

/-- Set sources that a mask write unmasks wait for their actions. -/
theorem maskWrite_todo (h : ∃ b, b < r.srcBits ∧ bitOf old b = true ∧ bitOf new b = false ∧ s.faultIs r b = true) :
    ∃ a, (s.maskWrite r old new).flt.todo = s.flt.todo ++ [a] ∧ a.reg = r ∧ ∀ b l, (b, l) ∈ a.srcs ↔ b < r.srcBits ∧
      bitOf old b = true ∧ bitOf new b = false ∧ s.faultIs r b = true ∧ l = s.appliedLevel r b := by
  obtain ⟨b, hb⟩ := h
  have some : s.shown r old new ≠ [] := List.ne_nil_of_mem ((mem_shown s r old new).2 hb)
  refine ⟨_, (maskWrite_todo_eq s r old new).trans (riseSrcs_todo s r some), rfl, fun b l => ?_⟩
  simp only [List.mem_map, Prod.mk.injEq, mem_shown]
  constructor
  · rintro ⟨_, hb, rfl, rfl⟩
    tauto
  · rintro ⟨h1, h2, h3, h4, rfl⟩
    exact ⟨b, ⟨h1, h2, h3, h4⟩, rfl, rfl⟩

theorem maskWrite_todo_none (h : ∀ b, b < r.srcBits → bitOf old b = true → bitOf new b = false → s.faultIs r b = false) :
    (s.maskWrite r old new).flt.todo = s.flt.todo := by
  have none : s.shown r old new = [] := by
    refine List.eq_nil_iff_forall_not_mem.2 fun b hb => ?_
    obtain ⟨hl, ho, hn, hs⟩ := (mem_shown s r old new).1 hb
    simp [h b hl ho hn] at hs
  rw [maskWrite_todo_eq, none, riseSrcs_nil]

/-! ### The level that is applied (R388) -/

variable {b : Nat}

/-- Contain acts as Degrade where no unit holds the source. -/
theorem appliedLevel_noUnit (h : s.get (r.sevFld b) = 2) (hu : r.unitOf b = none) : s.appliedLevel r b = 3 := if_pos ⟨h, hu⟩

theorem appliedLevel_severity (h : s.get (r.sevFld b) ≠ 2 ∨ r.unitOf b ≠ none) :
    s.appliedLevel r b = s.get (r.sevFld b) := if_neg (by tauto)

end

/-- Settles O48: what rises is what is put, was not set and is not masked, and it waits once. -/
theorem faultSourcesActOnce : Obligations.FaultSourcesActOnce := by
  unfold Obligations.FaultSourcesActOnce
  exact ⟨fun r m b s hr hm _ => faultIs_setFault s r m (statAddr_ne_attn r hr) hm,
    fun r m a s h ha => rd_setFault_ne s r m h ha,
    fun r m s h _ => setFault_flt s r m h,
    fun r m s h _ => setFault_todo s r m h,
    fun r b s h hu => appliedLevel_noUnit s r h hu,
    fun r b s h => appliedLevel_severity s r h,
    fun r old new s h => maskWrite_todo s r old new h,
    fun r old new s h => maskWrite_todo_none s r old new h⟩

/-! ### The summary registers (R390) -/

theorem decide_ne_zero (n : Nat) : decide (n ≠ 0) = (n != 0) := by cases n <;> rfl

theorem bitOf_sumCh (s : State) {h : Nat} (hh : h < 24) :
    bitOf s.sumCh h = (s.fltLive (.chRd h) != 0 || s.fltLive (.chWr h) != 0) := by
  rw [bitOf_eq_testBit, State.sumCh, testBit_flagSum, decide_eq_true hh, Bool.true_and, Bool.decide_or,
    decide_ne_zero, decide_ne_zero]

theorem bitOf_sumLdpc (s : State) {n : Nat} (hn : n < 18) : bitOf s.sumLdpc n = (s.fltLive (.ldpc n) != 0) := by
  rw [bitOf_eq_testBit, State.sumLdpc, testBit_flagSum, decide_eq_true hn, Bool.true_and, decide_ne_zero]

theorem bitOf_sumSeq (s : State) {a : Nat} (ha : a < 4) : bitOf s.sumSeq a = (s.fltLive (.seq a) != 0) := by
  rw [bitOf_eq_testBit, State.sumSeq, testBit_flagSum, decide_eq_true ha, Bool.true_and, decide_ne_zero]

/-- A sum of powers of two is 0 where none has the property. -/
theorem flagSum_ne_zero (P : Nat → Prop) [DecidablePred P] (n : Nat) :
    (List.range n).foldl (fun m k => if P k then m + 2 ^ k else m) 0 ≠ 0 ↔ ∃ k < n, P k := by
  constructor
  · intro h
    obtain ⟨i, hi⟩ := Nat.exists_testBit_of_ne_zero h
    rw [testBit_flagSum] at hi
    exact ⟨i, by simpa using hi⟩
  · rintro ⟨k, hk, hp⟩ h
    have bit := testBit_flagSum P n k
    rw [h] at bit
    simp [hk, hp] at bit

/-- The bits of a number with one bit put above them. -/
theorem testBit_add_top {x n : Nat} (h : x < 2 ^ n) (c : Bool) (i : Nat) :
    (x + b2n c * 2 ^ n).testBit i = (x.testBit i || (c && decide (i = n))) := by
  rw [Nat.add_comm, Nat.mul_comm, Nat.testBit_two_pow_mul_add _ h]
  have high (hi : ¬ i < n) : x.testBit i = false :=
    Nat.testBit_lt_two_pow (h.trans_le (Nat.pow_le_pow_right (by decide) (Nat.not_lt.1 hi)))
  split
  · next hi => simp [hi.ne]
  · next hi =>
    cases c with
    | false => simp [b2n, high hi]
    | true =>
      rw [high hi, b2n, if_pos rfl, Bool.false_or, Bool.true_and, Bool.eq_iff_iff,
        Nat.testBit_one_eq_true_iff_self_eq_zero, decide_eq_true_eq]
      omega

theorem add_top_lt {x n : Nat} (h : x < 2 ^ n) (c : Bool) : x + b2n c * 2 ^ n < 2 ^ (n + 1) := by
  rw [Nat.pow_succ]
  cases c with
  | false => simp [b2n]; omega
  | true => simp [b2n]; omega

/-- The blocks of FLT_SUM0 with a set, unmasked source, one bit each. -/
def State.sumBlocks (s : State) : Nat :=
  (allFltRegs.take 18).foldl (fun n r => if s.fltLive r ≠ 0 then Nat.lor n (2 ^ r.sumBit) else n) 0
    + b2n (s.sumCh != 0) * 2 ^ 16 + b2n (s.sumLdpc != 0) * 2 ^ 17 + b2n (s.sumSeq != 0) * 2 ^ 18

theorem sum0_eq (s : State) : s.sum0 = if s.sumBlocks = 0 then 0 else s.sumBlocks + s.maxLevel * 2 ^ 24 + 2 ^ 27 := rfl

/-- The blocks but CH, LDPC decoders and SEQ take bits 0 to 15 (Table 16-7). -/
theorem sumBit_lt : ∀ r ∈ allFltRegs.take 18, r.sumBit < 16 := by decide

theorem blockBits_lt (s : State) :
    (allFltRegs.take 18).foldl (fun n r => if s.fltLive r ≠ 0 then Nat.lor n (2 ^ r.sumBit) else n) 0 < 2 ^ 16 := by
  refine Nat.lt_pow_two_of_testBit _ fun i hi => ?_
  rw [testBit_foldl_lor, Nat.zero_testBit, Bool.false_or, List.any_eq_false]
  intro r hr
  have := sumBit_lt r hr
  simp
  omega

theorem sumBlocks_lt (s : State) : s.sumBlocks < 2 ^ 19 := add_top_lt (add_top_lt (add_top_lt (blockBits_lt s) _) _) _

theorem mem_allFltRegs (r : FltReg) : r ∈ allFltRegs ↔ r ∈ allFltRegs.take 18 ∨ (∃ h < 24, r = .chRd h) ∨
    (∃ h < 24, r = .chWr h) ∨ (∃ n < 18, r = .ldpc n) ∨ ∃ a < 4, r = .seq a := by
  have parts : allFltRegs = allFltRegs.take 18 ++ (List.range 24).map .chRd ++ (List.range 24).map .chWr ++
    (List.range 18).map .ldpc ++ (List.range 4).map .seq := rfl
  refine (iff_of_eq (congrArg (r ∈ ·) parts)).trans ?_
  simp [eq_comm]

/-- A bit of FLT_SUM0 stands where a source of its block is set and unmasked. -/
theorem testBit_sumBlocks (s : State) (b : Nat) :
    s.sumBlocks.testBit b = true ↔ ∃ r ∈ allFltRegs, r.sumBit = b ∧ s.fltLive r ≠ 0 := by
  have h1 := blockBits_lt s
  have h2 := add_top_lt h1 (s.sumCh != 0)
  have h3 := add_top_lt h2 (s.sumLdpc != 0)
  have ch : s.sumCh ≠ 0 ↔ ∃ h < 24, s.fltLive (.chRd h) ≠ 0 ∨ s.fltLive (.chWr h) ≠ 0 := flagSum_ne_zero _ 24
  have ldpc : s.sumLdpc ≠ 0 ↔ ∃ n < 18, s.fltLive (.ldpc n) ≠ 0 := flagSum_ne_zero _ 18
  have seq : s.sumSeq ≠ 0 ↔ ∃ a < 4, s.fltLive (.seq a) ≠ 0 := flagSum_ne_zero _ 4
  rw [State.sumBlocks, testBit_add_top h3, testBit_add_top h2, testBit_add_top h1, testBit_foldl_lor]
  simp only [Nat.zero_testBit, Bool.false_or, Bool.or_eq_true, Bool.and_eq_true, List.any_eq_true, decide_eq_true_eq,
    beq_iff_eq, bne_iff_ne, ch, ldpc, seq, mem_allFltRegs]
  constructor
  · rintro (((⟨r, hr, hb⟩ | ⟨⟨h, hh, hl | hl⟩, rfl⟩) | ⟨⟨n, hn, hl⟩, rfl⟩) | ⟨⟨a, ha, hl⟩, rfl⟩)
    · exact ⟨r, .inl hr, hb⟩
    · exact ⟨.chRd h, .inr (.inl ⟨h, hh, rfl⟩), rfl, hl⟩
    · exact ⟨.chWr h, .inr (.inr (.inl ⟨h, hh, rfl⟩)), rfl, hl⟩
    · exact ⟨.ldpc n, .inr (.inr (.inr (.inl ⟨n, hn, rfl⟩))), rfl, hl⟩
    · exact ⟨.seq a, .inr (.inr (.inr (.inr ⟨a, ha, rfl⟩))), rfl, hl⟩
  · rintro ⟨r, hr | ⟨h, hh, rfl⟩ | ⟨h, hh, rfl⟩ | ⟨n, hn, rfl⟩ | ⟨a, ha, rfl⟩, rfl, hl⟩
    · exact .inl (.inl (.inl ⟨r, hr, rfl, hl⟩))
    · exact .inl (.inl (.inr ⟨⟨h, hh, .inl hl⟩, rfl⟩))
    · exact .inl (.inl (.inr ⟨⟨h, hh, .inr hl⟩, rfl⟩))
    · exact .inl (.inr ⟨⟨n, hn, hl⟩, rfl⟩)
    · exact .inr ⟨⟨a, ha, hl⟩, rfl⟩

theorem sumBlocks_eq_zero (s : State) : s.sumBlocks = 0 ↔ ∀ r ∈ allFltRegs, s.fltLive r = 0 := by
  constructor
  · intro h r hr
    by_contra hl
    have bit := (testBit_sumBlocks s r.sumBit).2 ⟨r, hr, rfl, hl⟩
    rw [h, Nat.zero_testBit] at bit
    cases bit
  · intro h
    by_contra hz
    obtain ⟨b, hb⟩ := Nat.exists_testBit_of_ne_zero hz
    obtain ⟨r, hr, -, hl⟩ := (testBit_sumBlocks s b).1 hb
    exact hl (h r hr)

theorem sum0_eq_zero (s : State) : s.sum0 = 0 ↔ s.sumBlocks = 0 := by
  rw [sum0_eq]
  split
  · next h => simp [h]
  · next h => simp [h]

theorem sum0_of_ne_zero {s : State} (h : s.sum0 ≠ 0) : s.sum0 = s.sumBlocks + s.maxLevel * 2 ^ 24 + 2 ^ 27 :=
  (sum0_eq s).trans (if_neg (mt (sum0_eq_zero s).2 h))

/-- The bits of the blocks in FLT_SUM0, whatever the level. -/
theorem testBit_sum0 (s : State) {b : Nat} (hb : b < 19) : s.sum0.testBit b = s.sumBlocks.testBit b := by
  by_cases h : s.sum0 = 0
  · rw [h, (sum0_eq_zero s).1 h]
  · rw [sum0_of_ne_zero h, show s.sumBlocks + s.maxLevel * 2 ^ 24 + 2 ^ 27 =
      2 ^ 19 * (s.maxLevel * 2 ^ 5 + 2 ^ 8) + s.sumBlocks by ring, Nat.testBit_two_pow_mul_add _ (sumBlocks_lt s), if_pos hb]

theorem bitOf_sum0 (s : State) {b : Nat} (hb : b < 19) :
    bitOf s.sum0 b = allFltRegs.any (fun r => r.sumBit == b && s.fltLive r != 0) := by
  rw [bitOf_eq_testBit, testBit_sum0 s hb, Bool.eq_iff_iff, testBit_sumBlocks]
  simp

/-! ### The highest applied level (R390) -/

theorem sevFld_width (r : FltReg) (b : Nat) : (r.sevFld b).width = 3 := by
  have three (a i : Nat) : (sevField a i).width = 3 := by
    unfold sevField Fld.width
    dsimp only
    omega
  cases r with
  | spn | chWr =>
    simp only [FltReg.sevFld]
    split <;> exact three _ _
  | tb => rfl
  | _ => exact three _ _

theorem appliedLevel_lt (s : State) (r : FltReg) (b : Nat) : s.appliedLevel r b < 8 := by
  have field : s.get (r.sevFld b) < 2 ^ 3 := sevFld_width r b ▸ bitsOf_lt ..
  unfold State.appliedLevel
  dsimp only
  split <;> omega

/-- The highest of a list of levels, 0 if it is empty: it bounds them, and stands among them if there is one. -/
theorem foldl_max_spec (l : List Nat) (k : Nat) :
    k ≤ l.foldl max k ∧ (∀ x ∈ l, x ≤ l.foldl max k) ∧ (l.foldl max k = k ∨ l.foldl max k ∈ l) := by
  induction l generalizing k with
  | nil => simp
  | cons y l ih =>
    obtain ⟨h1, h2, h3⟩ := ih (max k y)
    rw [List.foldl_cons]
    refine ⟨by omega, fun x hx => ?_, ?_⟩
    · rcases List.mem_cons.1 hx with rfl | hx
      · omega
      · exact h2 x hx
    · rcases h3 with h3 | h3
      · rw [h3]
        rcases Nat.le_total k y with h | h
        · exact .inr (by simp [h])
        · exact .inl (by simp [h])
      · exact .inr (List.mem_cons_of_mem _ h3)

/-- The levels of all sources that are set and unmasked. -/
def State.liveLevels (s : State) : List Nat := (allFltRegs.flatMap s.liveSrcs).map (·.2)

theorem maxLevel_eq (s : State) : s.maxLevel = s.liveLevels.foldl max 0 := by
  rw [State.liveLevels, List.foldl_map, List.foldl_flatMap]
  rfl

theorem mem_liveLevels {s : State} {l : Nat} : l ∈ s.liveLevels ↔ ∃ r ∈ allFltRegs, ∃ e ∈ s.liveSrcs r, e.2 = l := by
  simp only [State.liveLevels, List.mem_map, List.mem_flatMap]
  constructor
  · rintro ⟨e, ⟨r, hr, he⟩, rfl⟩
    exact ⟨r, hr, e, he, rfl⟩
  · rintro ⟨r, hr, e, he, rfl⟩
    exact ⟨e, ⟨r, hr, he⟩, rfl⟩

theorem le_maxLevel {s : State} {r : FltReg} (hr : r ∈ allFltRegs) {e : Nat × Nat} (he : e ∈ s.liveSrcs r) :
    e.2 ≤ s.maxLevel := by
  obtain ⟨-, bound, -⟩ := foldl_max_spec s.liveLevels 0
  rw [maxLevel_eq]
  exact bound _ (mem_liveLevels.2 ⟨r, hr, e, he, rfl⟩)

theorem maxLevel_lt (s : State) : s.maxLevel < 8 := by
  obtain ⟨-, -, h | h⟩ := foldl_max_spec s.liveLevels 0
  · rw [maxLevel_eq, h]
    decide
  · rw [← maxLevel_eq] at h
    obtain ⟨r, -, e, he, hl⟩ := mem_liveLevels.1 h
    obtain ⟨b, -, rfl⟩ := List.mem_map.1 he
    exact hl ▸ appliedLevel_lt s r b

/-- A register with a set, unmasked source has one in its list. -/
theorem liveSrcs_ne_nil {s : State} {r : FltReg} (h : s.fltLive r ≠ 0) : ∃ e, e ∈ s.liveSrcs r := by
  obtain ⟨b, hb⟩ := Nat.exists_testBit_of_ne_zero h
  have inside : b < r.srcBits := by
    have bit := hb
    simp only [State.fltLive, testBit_sub_land, Nat.testBit_mod_two_pow] at bit
    simp only [Bool.and_eq_true, decide_eq_true_eq] at bit
    obtain ⟨⟨hb, -⟩, -⟩ := bit
    exact hb
  exact ⟨_, List.mem_map.2 ⟨b, mem_setBits.2 ⟨inside, by rw [bitOf_eq_testBit]; exact hb⟩, rfl⟩⟩

theorem maxLevel_attained {s : State} (h : s.sum0 ≠ 0) : ∃ r ∈ allFltRegs, ∃ e ∈ s.liveSrcs r, e.2 = s.maxLevel := by
  obtain ⟨-, -, h0 | hm⟩ := foldl_max_spec s.liveLevels 0
  · rw [← maxLevel_eq] at h0
    have live := mt ((sum0_eq_zero s).trans (sumBlocks_eq_zero s)).2 h
    push Not at live
    obtain ⟨r, hr, hl⟩ := live
    obtain ⟨e, he⟩ := liveSrcs_ne_nil hl
    have low := le_maxLevel hr he
    exact ⟨r, hr, e, he, by omega⟩
  · rw [← maxLevel_eq] at hm
    exact mem_liveLevels.1 hm

/-- FLT_SUM0 shows the level in bits 26 to 24 and any source at all in bit 27. -/
theorem sum0_level {s : State} (h : s.sum0 ≠ 0) : bitOf s.sum0 27 = true ∧ bitsOf s.sum0 24 3 = s.maxLevel := by
  have blocks := sumBlocks_lt s
  have level := maxLevel_lt s
  rw [sum0_of_ne_zero h, bitOf, bitsOf, beq_iff_eq]
  omega

/-- Settles O49: each bit of a summary register is the sum of powers of two that its definition makes, and the level the maximum
of those of the set, unmasked sources. -/
theorem summaryRegistersShowTheSources : Obligations.SummaryRegistersShowTheSources := by
  unfold Obligations.SummaryRegistersShowTheSources
  exact ⟨fun h s hh => bitOf_sumCh s hh, fun n s hn => bitOf_sumLdpc s hn, fun a s ha => bitOf_sumSeq s ha,
    fun b s hb => bitOf_sum0 s hb, fun s h => sum0_level h, fun s => (sum0_eq_zero s).trans (sumBlocks_eq_zero s),
    fun s h => ⟨maxLevel_attained h, fun r hr e he => le_maxLevel hr he⟩⟩

end Sys2Proof.Machine
end

section
/-!
SUPPORT and settlement. Fields under a lock and the debug port (R21, R432).
-/

namespace Sys2Proof.Machine

open Sys2Proof

/-- Outside WORKSHOP no write of the debug port takes effect. -/
theorem pathWrites_debug {s : State} (h : s.mode ≠ mWORKSHOP) : s.pathWrites .debug = false := by
  simp [State.pathWrites, h]

/-- An unlocked path has a read answered, but for an uncorrectable word of an array. -/
theorem crsRead_answered {s : State} {p : Path} {a : Nat} (n : Nat) (hp : s.pathReads p = true)
    (h : s.gated (a - a % 4) = true ∨ s.silent (a - a % 4) = true ∨ (s.arrayCheck (a - a % 4)).1 = true) :
    ∃ x, (s.crsRead p a n).rdOut = some (p, x) := by
  rcases crsRead_cases s p a with h0 | ⟨-, hg⟩ | ⟨-, hg, hs⟩ | ⟨-, hg, hs, hk | ⟨t, hk⟩⟩
  · rw [hp] at h0
    cases h0
  · exact ⟨0, by rw [crsRead_gated s p a n hp hg]⟩
  · exact ⟨0, by rw [crsRead_silent s p a n hp hg hs]⟩
  · simp [hg, hs, hk] at h
  · exact ⟨_, by rw [crsRead_word s p a n hp hg hs hk]⟩

/-- Settles O45: an RWL field stores by its path's lock, and each path reads and writes by its own. -/
theorem lockedFieldsAndTheDebugPort : Obligations.LockedFieldsAndTheDebugPort := by
  unfold Obligations.LockedFieldsAndTheDebugPort
  refine ⟨fun p a f v s hf hacc hu => ?_, fun p a f v s hf hacc hu hv => ?_, fun s => ⟨rfl, rfl, rfl, rfl⟩,
    fun a n v s hm hg hs => answers_crsWrite (crsWrite_denied s .debug a n v hg hs (.inr (.inr (pathWrites_debug hm)))),
    fun a n v s h => ⟨crsRead_locked s .debug a n h, answers_crsWrite (crsWrite_locked s .debug a n v h)⟩,
    fun a n s h ha => crsRead_answered n h ha⟩
  · rw [bits_storeReg hf]
    simp [FieldDesc.stored, hacc, hu]
  · rw [bits_storeReg hf]
    simp [FieldDesc.stored, hacc, hu, hv]

end Sys2Proof.Machine
end

section
/-!
SUPPORT and settlement. A step takes the command at the front of the queue, and every command answers a next state.
-/

namespace Sys2Proof.Machine

open Sys2Proof

/-- Every command ends with an effect of its own. -/
theorem exec_ends (c : Instr) (s : State) : ∃ u, exec c s = ends s u := by
  cases c
  all_goals exact ⟨_, rfl⟩

/-- Settles O39: a step is the match of the queue, and `ends` puts the queue back. -/
theorem stepRunsTheFrontCommand : Obligations.StepRunsTheFrontCommand := by
  unfold Obligations.StepRunsTheFrontCommand
  refine ⟨fun c rest s h => step_of_front h, fun s h => step_of_empty h, fun s h => if_pos h,
    fun s h => if_neg (by simp [h]), fun c s => ?_⟩
  obtain ⟨u, hu⟩ := exec_ends c s
  exact ⟨_, hu, rfl⟩

end Sys2Proof.Machine
end

section
/-!
SUPPORT and settlement. Log pages, Identify, self-test and directives (R304, R305, R310, R312): each operation case by case.
-/

namespace Sys2Proof.Machine

open Sys2Proof

section
variable {s : State} {slot : Slot} {c : CmdSlot} {x : Xfer}

/-! ### The data pointer of an admin command (R304) -/

theorem adminXfer_badPrp (h : x.dptr = 1) (go : State → State) : s.adminXfer c x go = s.xferFail c scPrp := if_pos h

theorem giveData_good (h : x.dptr = 0) (bs : List Byte) : s.giveData c x bs = s.finish c.no ⟨cst scOk, 0, 0, bs⟩ :=
  adminXfer_good h _

/-! ### Get Log Page (R310, Table 12-8) -/

theorem getLogPage_absent (h : s.adminCmd slot 2 = none) (x : Xfer) : s.getLogPage slot x = s := by
  simp only [State.getLogPage, h]

section
variable (h : s.adminCmd slot 2 = some c)
include h

theorem getLogPage_unknown (hl : isLogPage (bitsOf (c.dw 0) 0 8) = false) (x : Xfer) :
    s.getLogPage slot x = s.finishSt slot (cst 0x109) := by
  simp only [State.getLogPage, h]
  exact if_pos (by simp [hl])

variable {l o : Nat} (hl : bitsOf (c.dw 0) 0 8 = l) (ho : c.dw 2 + 2 ^ 32 * c.dw 3 = o) (hp : isLogPage l = true)
include hl ho hp

theorem getLogPage_misaligned (h4 : o % 4 ≠ 0) (x : Xfer) : s.getLogPage slot x = s.finishSt slot (cst scField) := by
  simp only [State.getLogPage, h, hl, ho]
  exact (if_neg (by simp [hp])).trans (if_pos (.inl h4))

variable (h4 : o % 4 = 0) (hr : if 0xC0 ≤ l then o < logLength l else o ≤ logLength l)
include h4 hr

/-- A page that is known, at an offset within it, with an LSP that it has: what is left is the data pointer. -/
theorem getLogPage_served (hs : l < 0xC0 ∨ bitsOf (c.dw 0) 8 7 = 0 ∨ (l = 0xC2 ∧ bitsOf (c.dw 0) 8 7 = 1)) (x : Xfer) :
    s.getLogPage slot x = ({ s with free := s.free + 65 } : State).adminXfer c x (fun t =>
      let t1 := if l = 0xC2 ∧ bitsOf (c.dw 0) 8 7 = 1 then t.modHif (fun h => { h with defErrs := [], defLost := 0 }) else t
      let t2 := if bitOf (c.dw 0) 15 then t1
        else t1.modCtl c.ctrl (fun y => { y with events := y.events.filter (fun e => e.page != l || e.page == 0) })
      t2.finish slot ⟨cst scOk, 0, 0,
        s.logBytes c.ctrl l o (4 * (bitsOf (c.dw 0) 16 16 + 65536 * bitsOf (c.dw 1) 0 16 + 1))⟩) := by
  have within : ¬ (o % 4 ≠ 0 ∨ if decide (0xC0 ≤ l) = true then logLength l ≤ o else logLength l < o) := by
    rintro (h | h)
    · exact h h4
    · by_cases hv : 0xC0 ≤ l
      · rw [if_pos hv] at hr
        rw [if_pos (by simp [hv])] at h
        omega
      · rw [if_neg hv] at hr
        rw [if_neg (by simp [hv])] at h
        omega
  have lsp : ¬ (decide (0xC0 ≤ l) = true ∧ bitsOf (c.dw 0) 8 7 ≠ 0 ∧ (!decide (l = 0xC2 ∧ bitsOf (c.dw 0) 8 7 = 1)) = true) := by
    simp only [decide_eq_true_eq, Bool.not_eq_true', decide_eq_false_iff_not]
    omega
  simp only [State.getLogPage, h, hl, ho]
  exact (if_neg (by simp [hp])).trans ((if_neg within).trans (if_neg lsp))

theorem getLogPage_returns (hd : x.dptr = 0) (hs : l < 0xC0 ∨ bitsOf (c.dw 0) 8 7 = 0) (hv : bitOf (c.dw 0) 15 = true) :
    s.getLogPage slot x = ({ s with free := s.free + 65 } : State).finish slot ⟨cst scOk, 0, 0,
      s.logBytes c.ctrl l o (4 * (bitsOf (c.dw 0) 16 16 + 65536 * bitsOf (c.dw 1) 0 16 + 1))⟩ := by
  have keeps : ¬ (l = 0xC2 ∧ bitsOf (c.dw 0) 8 7 = 1) := by omega
  rw [getLogPage_served h hl ho hp h4 hr (hs.imp_right .inl) x, adminXfer_good hd]
  simp only [keeps, hv, if_true, if_false]

/-- LSP[0] of page 0xC2 clears its entries once their bytes are taken. -/
theorem getLogPage_clears (hd : x.dptr = 0) (h2 : l = 0xC2) (hs : bitsOf (c.dw 0) 8 7 = 1) (hv : bitOf (c.dw 0) 15 = true) :
    s.getLogPage slot x = (({ s with free := s.free + 65 } : State).modHif (fun h =>
      { h with defErrs := [], defLost := 0 })).finish slot ⟨cst scOk, 0, 0,
      s.logBytes c.ctrl l o (4 * (bitsOf (c.dw 0) 16 16 + 65536 * bitsOf (c.dw 1) 0 16 + 1))⟩ := by
  have clears : l = 0xC2 ∧ bitsOf (c.dw 0) 8 7 = 1 := ⟨h2, hs⟩
  rw [getLogPage_served h hl ho hp h4 hr (.inr (.inr clears)) x, adminXfer_good hd]
  simp only [clears, and_self, hv, if_true]

theorem getLogPage_badPrp (hd : x.dptr = 1) (hs : l < 0xC0) :
    s.getLogPage slot x = ({ s with free := s.free + 65 } : State).xferFail c scPrp := by
  rw [getLogPage_served h hl ho hp h4 hr (.inl hs) x, adminXfer_badPrp hd]

end

/-! ### Identify (R305, Table 12-9) -/

theorem identify_absent (h : s.adminCmd slot 6 = none) (x : Xfer) : s.identify slot x = s := by simp only [State.identify, h]

theorem identify_refused (h : s.adminCmd slot 6 = some c) {st : Nat} (hd : s.identifyData c = .inl st) (x : Xfer) :
    s.identify slot x = s.finishSt slot (cst st) := by
  simp only [State.identify, h, hd]

theorem identify_returns (h : s.adminCmd slot 6 = some c) {bs : List Byte} (hd : s.identifyData c = .inr bs) (hx : x.dptr = 0) :
    s.identify slot x = ({ s with free := s.free + 1 } : State).finish c.no ⟨cst scOk, 0, 0, bs⟩ := by
  simp only [State.identify, h, hd]
  exact giveData_good hx bs

theorem identifyData_controller (h : bitsOf (c.dw 0) 0 8 = 0x01) : s.identifyData c = .inr (s.idController c.ctrl) := by
  simp only [State.identifyData, h]

/-! ### Device Self-test (R305) -/

theorem selfTest_absent (h : s.adminCmd slot 0x14 = none) : s.selfTest slot = s := by simp only [State.selfTest, h]

section
variable (h : s.adminCmd slot 0x14 = some c)
include h

/-- Code 1 starts a short test, code 2 an extended one, while none runs. -/
theorem selfTest_starts {k : Nat} (hk : bitsOf (c.dw 0) 0 4 = k) (h12 : k = 1 ∨ k = 2) (h0 : s.hif.selfTest = 0) :
    s.selfTest slot = (s.modHif (fun h => { h with selfTest := k })).finishSt slot (cst scOk) := by
  rcases h12 with rfl | rfl
  all_goals
    simp only [State.selfTest, h, hk]
    exact if_neg (by simp [h0])

theorem selfTest_running {k : Nat} (hk : bitsOf (c.dw 0) 0 4 = k) (h12 : k = 1 ∨ k = 2) (h0 : s.hif.selfTest ≠ 0) :
    s.selfTest slot = s.finishSt slot (cst 0x11D) := by
  rcases h12 with rfl | rfl
  all_goals
    simp only [State.selfTest, h, hk]
    exact if_pos h0

/-- Code 15 aborts the running test: it is logged with result 1. -/
theorem selfTest_aborts (hk : bitsOf (c.dw 0) 0 4 = 15) (h0 : s.hif.selfTest ≠ 0) :
    s.selfTest slot = (s.modHif (fun h =>
      { h with selfLog := ((h.selfTest, 1, s.now) :: h.selfLog).take 20, selfTest := 0 })).finishSt slot (cst scOk) := by
  simp only [State.selfTest, h, hk, State.modHif, h0, if_false]

end

theorem selfTestEnd_running (r : Nat) (h : s.hif.selfTest ≠ 0) : s.selfTestEnd r = s.modHif (fun h =>
    { h with selfLog := ((h.selfTest, r % 16, s.now) :: h.selfLog).take 20, selfTest := 0 }) := if_neg h

theorem selfTestEnd_idle (r : Nat) (h : s.hif.selfTest = 0) : s.selfTestEnd r = s := if_pos h

/-! ### Directives (R305, R312) -/

theorem directiveSend_absent (h : s.adminCmd slot 25 = none) (x : Xfer) : s.directiveSend slot x = s := by
  simp only [State.directiveSend, h]

theorem directiveReceive_absent (h : s.adminCmd slot 26 = none) (x : Xfer) : s.directiveReceive slot x = s := by
  simp only [State.directiveReceive, h]

section
variable (h : s.adminCmd slot 0x19 = some c) (hx : x.dptr = 0)
include h hx

/-- Enabling or disabling Streams closes every open stream. -/
theorem directiveSend_enables (ht : bitsOf (c.dw 1) 8 8 = 0) (ho : bitsOf (c.dw 1) 0 8 = 1) (hd : bitsOf (c.dw 2) 8 8 = 1) :
    s.directiveSend slot x = ((s.setFeat c.ctrl 0xD1 (bitsOf (c.dw 2) 0 1)).modCtl c.ctrl (fun y =>
      { y with streams := [] })).finishSt slot (cst scOk) := by
  simp only [State.directiveSend, h, adminXfer_good hx]
  exact if_pos ⟨ht, ho, hd⟩

variable (ht : bitsOf (c.dw 1) 8 8 = 1)
include ht

theorem directiveSend_releases (hon : cnt (s.ctl c.ctrl).feats 0xD1 = 1) (ho : bitsOf (c.dw 1) 0 8 = 2) :
    s.directiveSend slot x = (s.modCtl c.ctrl (fun y => { y with streams := [] })).finishSt slot (cst scOk) := by
  simp only [State.directiveSend, h, adminXfer_good hx]
  exact (if_neg (by simp [ht])).trans ((if_neg (by simp [ho])).trans (if_pos ⟨ht, by simp [hon], ho⟩))

theorem directiveSend_disabled (hon : cnt (s.ctl c.ctrl).feats 0xD1 ≠ 1) :
    s.directiveSend slot x = s.finishSt slot (cst scField) := by
  simp only [State.directiveSend, h, adminXfer_good hx]
  exact (if_neg (by simp [ht])).trans ((if_neg (by simp [hon])).trans (if_neg (by simp [hon])))

end

section
variable (h : s.adminCmd slot 0x1A = some c) (ht : bitsOf (c.dw 1) 8 8 = 1)
include h ht

theorem directiveReceive_streams (hx : x.dptr = 0) (hon : cnt (s.ctl c.ctrl).feats 0xD1 = 1) (ho : bitsOf (c.dw 1) 0 8 = 2) :
    s.directiveReceive slot x = s.finish c.no ⟨cst scOk, 0, 0, takeAt (leBytes 2 (s.ctl c.ctrl).streams.length ++
      ((s.ctl c.ctrl).streams.map (fun i => leBytes 2 i)).flatten) 0 (4 * (c.dw 0 + 1))⟩ := by
  simp only [State.directiveReceive, h]
  exact (if_neg (by simp [ht])).trans ((if_neg (by simp [ho])).trans ((if_pos ⟨ht, hon, ho⟩).trans (giveData_good hx _)))

theorem directiveReceive_disabled (hon : cnt (s.ctl c.ctrl).feats 0xD1 ≠ 1) (x : Xfer) :
    s.directiveReceive slot x = s.finishSt slot (cst scField) := by
  simp only [State.directiveReceive, h]
  exact (if_neg (by simp [ht])).trans ((if_neg (by simp [hon])).trans ((if_neg (by simp [hon])).trans
    (if_neg (by simp [hon]))))

end
end

/-- Settles O34: each command ends with its operation, in one of the cases above. The bytes that the manual leaves to NVMe 2.1 are
free values (log entry 1), the statuses 0x109 and 0x11D are NVMe 2.1's (log entry 40): the model's readings. -/
theorem logIdentifyAndTestCommandsComplete : Obligations.LogIdentifyAndTestCommandsComplete := by
  unfold Obligations.LogIdentifyAndTestCommandsComplete
  exact ⟨
    fun slot x s h => answers_of_eq rfl (getLogPage_absent h x),
    fun slot x s h => answers_of_eq rfl (identify_absent h x),
    fun slot x s h => answers_of_eq rfl (directiveSend_absent h x),
    fun slot x s h => answers_of_eq rfl (directiveReceive_absent h x),
    fun slot x c s h hl => answers_of_eq rfl (getLogPage_unknown h hl x),
    fun slot x c s h hp h4 => answers_of_eq rfl (getLogPage_misaligned h rfl rfl hp h4 x),
    fun slot x c s h hp h4 hr hd hs hv => answers_of_eq rfl (getLogPage_returns h rfl rfl hp h4 hr hd hs hv),
    fun slot x c s h hp h4 hr hd h2 hs hv => answers_of_eq rfl (getLogPage_clears h rfl rfl hp h4 hr hd h2 hs hv),
    fun slot x c s h hp h4 hr hd hs => answers_of_eq rfl (getLogPage_badPrp h rfl rfl hp h4 hr hd hs),
    fun slot x c st s h hd => answers_of_eq rfl (identify_refused h hd x),
    fun slot x c bs s h hd hx => answers_of_eq rfl (identify_returns h hd hx),
    fun c s h => identifyData_controller h,
    fun slot s h => answers_of_eq rfl (selfTest_absent h),
    fun slot c s h hk h0 => answers_of_eq rfl (selfTest_starts h hk (.inl rfl) h0),
    fun slot c s h hk h0 => answers_of_eq rfl (selfTest_running h hk (.inl rfl) h0),
    fun slot c s h hk h0 => answers_of_eq rfl (selfTest_starts h hk (.inr rfl) h0),
    fun slot c s h hk h0 => answers_of_eq rfl (selfTest_running h hk (.inr rfl) h0),
    fun slot c s h hk h0 => answers_of_eq rfl (selfTest_aborts h hk h0),
    fun slot r s h => answers_of_eq rfl (selfTestEnd_running r h),
    fun slot r s h => answers_of_eq rfl (selfTestEnd_idle r h),
    fun slot x c s h hx ht ho hd => answers_of_eq rfl (directiveSend_enables h hx ht ho hd),
    fun slot x c s h hx ht hon ho => answers_of_eq rfl (directiveSend_releases h hx ht hon ho),
    fun slot x c s h hx ht hon => answers_of_eq rfl (directiveSend_disabled h hx ht hon),
    fun slot x c s h hx ht hon ho => answers_of_eq rfl (directiveReceive_streams h ht hx hon ho),
    fun slot x c s h ht hon => answers_of_eq rfl (directiveReceive_disabled h ht hon x)⟩

end Sys2Proof.Machine
end

section
/-!
SUPPORT and settlement. Namespace management and attachment (R295, R342 to R346): each operation case by case.
-/

namespace Sys2Proof.Machine

open Sys2Proof

section
variable {s : State} {slot : Slot} {c : CmdSlot} {x : Xfer}

/-! ### Namespace Management (R343, R344) -/

theorem nsManage_absent (h : s.adminCmd slot 13 = none) (x : Xfer) : s.nsManage slot x = s := by
  simp only [State.nsManage, h]

section
variable (h : s.adminCmd slot 13 = some c)
include h

theorem nsManage_notServed (hs : s.nsServed = false) (x : Xfer) : s.nsManage slot x = s := by
  simp only [State.nsManage, h]
  exact if_pos (by simp [hs])

variable (hs : s.nsServed = true) (he : s.earlier c (fun d => d.e.opc == 0x0D) = false)
include hs he

theorem nsManage_badSelect (hk : 2 ≤ bitsOf (c.dw 0) 0 4) (x : Xfer) : s.nsManage slot x = s.finishSt slot (cst scField) := by
  simp only [State.nsManage, h]
  refine (if_neg (by simp [hs, he])).trans ?_
  generalize bitsOf (c.dw 0) 0 4 = k at hk
  match k, hk with
  | k + 2, _ => rfl

theorem nsManage_creates (hk : bitsOf (c.dw 0) 0 4 = 0) (hx : x.dptr = 0) : s.nsManage slot x = s.nsCreate slot x := by
  simp only [State.nsManage, h, hk, adminXfer_good hx]
  exact if_neg (by simp [hs, he])

variable (hk : bitsOf (c.dw 0) 0 4 = 1)
include hk

theorem nsManage_deletesNone (ha : c.e.nsid ≠ 0xFFFFFFFF) (hn : ∀ n ∈ s.hif.nss, n.id ≠ c.e.nsid) (x : Xfer) :
    s.nsManage slot x = s.finishSt slot (cst scNs) := by
  have named : s.hif.nss.filter (fun n => n.id == c.e.nsid || c.e.nsid == 0xFFFFFFFF) = [] := by
    rw [List.filter_eq_nil_iff]
    intro n hm
    simp [hn n hm, ha]
  simp only [State.nsManage, h, hk, named]
  exact (if_neg (by simp [hs, he])).trans (if_pos (by simp [ha]))

/-- A deletion drops the namespace that it names, raises the event and completes. -/
theorem nsManage_deletes {n : NsSt} (hn : s.hif.nss.filter (fun n => n.id == c.e.nsid || c.e.nsid == 0xFFFFFFFF) = [n])
    (hp : n.packed = false) (x : Xfer) :
    s.nsManage slot x = ((s.nsDrop n).raiseBoth ⟨2, 0, 0⟩).finishSt slot (cst scOk) := by
  simp only [State.nsManage, h, hk, hn]
  exact (if_neg (by simp [hs, he])).trans ((if_neg (by simp)).trans (if_neg (by simp [hp])))

end

/-! ### The creation of a namespace (R343, R344) -/

section
variable {no : Nat}

theorem nsCreate_packedFormat (hp : bitOf (imgNat x.data 384 1) 0 = true)
    (hf : bitsOf (imgNat x.data 26 1) 0 4 = 1 ∨ 2 < bitsOf (imgNat x.data 26 1) 0 4) :
    s.nsCreate no x = s.finishSt no (cst scNs) :=
  (if_pos hp).trans (if_pos hf)

/-- A packed namespace of 4096-byte blocks is a whole number of stripes of 256 blocks, at a level up to 8. -/
theorem nsCreate_packedField (hp : bitOf (imgNat x.data 384 1) 0 = true) (hf : bitsOf (imgNat x.data 26 1) 0 4 = 0)
    (h : 8 < imgNat x.data 385 1 ∨ imgNat x.data 8 8 ≠ imgNat x.data 0 8 ∨ imgNat x.data 0 8 = 0 ∨
      imgNat x.data 0 8 % 256 ≠ 0) : s.nsCreate no x = s.finishSt no (cst scField) := by
  have blocks : ¬ (bitsOf (imgNat x.data 26 1) 0 4 = 1 ∨ 2 < bitsOf (imgNat x.data 26 1) 0 4) := by omega
  have stripe : (if bitsOf (imgNat x.data 26 1) 0 4 = 2 then 2048 else 256) = 256 := if_neg (by omega)
  refine (if_pos hp).trans ((if_neg blocks).trans (if_pos ?_))
  rw [stripe]
  exact h

theorem nsCreate_unpackedField (hp : bitOf (imgNat x.data 384 1) 0 = false) (hf : bitsOf (imgNat x.data 26 1) 0 4 ≤ 2)
    (h : imgNat x.data 0 8 = 0 ∨ imgNat x.data 8 8 ≠ imgNat x.data 0 8) : s.nsCreate no x = s.finishSt no (cst scField) :=
  (if_neg (by simp [hp])).trans ((if_neg (Nat.not_lt.2 hf)).trans (if_pos h))

end

/-! ### Namespace Attachment (R295) -/

theorem nsAttach_absent (h : s.adminCmd slot 21 = none) (x : Xfer) : s.nsAttach slot x = s := by
  simp only [State.nsAttach, h]

section
variable (h : s.adminCmd slot 21 = some c)
include h

theorem nsAttach_notServed (hs : s.nsServed = false) (x : Xfer) : s.nsAttach slot x = s := by
  simp only [State.nsAttach, h]
  exact if_pos (by simp [hs])

variable (hs : s.nsServed = true) (he : s.earlier c (fun d => d.e.opc == 0x15) = false)
include hs he

theorem nsAttach_noNamespace (hn : s.nsOf c.e.nsid = none) (x : Xfer) : s.nsAttach slot x = s.finishSt slot (cst scNs) := by
  simp only [State.nsAttach, h, hn]
  exact if_neg (by simp [hs, he])

variable {n : NsSt} (hn : s.nsOf c.e.nsid = some n)
include hn

theorem nsAttach_badSelect (hk : 2 ≤ bitsOf (c.dw 0) 0 4) (x : Xfer) : s.nsAttach slot x = s.finishSt slot (cst scField) := by
  simp only [State.nsAttach, h, hn]
  exact (if_neg (by simp [hs, he])).trans (if_pos hk)

theorem nsAttach_emptyList (hk : bitsOf (c.dw 0) 0 4 ≤ 1) (hx : x.dptr = 0) (h0 : imgNat x.data 0 2 = 0) :
    s.nsAttach slot x = s.finishSt slot (cst 0x11C) := by
  simp only [State.nsAttach, h, hn, adminXfer_good hx]
  exact (if_neg (by simp [hs, he])).trans ((if_neg (Nat.not_lt.2 hk)).trans (if_pos (by simp [h0])))

/-! A list that names controller `k` alone, which exists and is attached. -/

variable {k : Nat} (hx : x.dptr = 0) (h1 : imgNat x.data 0 2 = 1) (hi : imgNat x.data 2 2 = k + 1) (hk2 : k < 2)
  (hc : s.ctlExists k = true) (ha : n.attached k = true)
include hx h1 hi hk2 hc ha

theorem nsAttach_detaches (hk : bitsOf (c.dw 0) 0 4 = 1) : s.nsAttach slot x = ((s.modNs n.id (fun y =>
    { y with att := y.att.set k false })).raiseBoth ⟨2, 0, 0⟩).finishSt slot (cst scOk) := by
  have ids : (List.range 1).map (fun i => imgNat x.data (2 + 2 * i) 2) = [k + 1] := congrArg (fun i => [i]) hi
  simp only [State.nsAttach, h, hn, adminXfer_good hx, hk, h1, ids]
  exact (if_neg (by simp [hs, he])).trans ((if_neg (by decide)).trans ((if_neg (by simp [hc]; omega)).trans
    ((if_neg (by simp)).trans (if_neg (by simp [ha])))))

theorem nsAttach_alreadyAttached (hk : bitsOf (c.dw 0) 0 4 = 0) : s.nsAttach slot x = s.finishSt slot (cst 0x118) := by
  have ids : (List.range 1).map (fun i => imgNat x.data (2 + 2 * i) 2) = [k + 1] := congrArg (fun i => [i]) hi
  simp only [State.nsAttach, h, hn, adminXfer_good hx, hk, h1, ids]
  exact (if_neg (by simp [hs, he])).trans ((if_neg (by decide)).trans ((if_neg (by simp [hc]; omega)).trans
    (if_pos (by simp [ha]))))

end
end

/-- Settles O35: each command ends with its operation, in one of the cases above. The statuses 0x10A, 0x115, 0x116, 0x118, 0x11A and
0x11C are NVMe 2.1's (log entry 40): the model's reading. -/
theorem namespaceCommandsComplete : Obligations.NamespaceCommandsComplete := by
  unfold Obligations.NamespaceCommandsComplete
  exact ⟨
    fun slot x s h => answers_of_eq rfl (nsManage_absent h x),
    fun slot x c s h hs => answers_of_eq rfl (nsManage_notServed h hs x),
    fun slot x s h => answers_of_eq rfl (nsAttach_absent h x),
    fun slot x c s h hs => answers_of_eq rfl (nsAttach_notServed h hs x),
    fun slot x c s h hs he hk => answers_of_eq rfl (nsManage_badSelect h hs he hk x),
    fun slot x c s h hs he hk ha hn => answers_of_eq rfl (nsManage_deletesNone h hs he hk ha hn x),
    fun slot x c n s h hs he hk hn hp => answers_of_eq rfl (nsManage_deletes h hs he hk hn hp x),
    fun slot x c s h hs he hk hx => answers_of_eq rfl (nsManage_creates h hs he hk hx),
    fun no x s hp hf => nsCreate_packedFormat hp hf,
    fun no x s hp hf h => nsCreate_packedField hp hf h,
    fun no x s hp hf h => nsCreate_unpackedField hp hf h,
    fun no n s => rfl,
    fun slot x c s h hs he hn => answers_of_eq rfl (nsAttach_noNamespace h hs he hn x),
    fun slot x c n s h hs he hn hk => answers_of_eq rfl (nsAttach_badSelect h hs he hn hk x),
    fun slot x c n s h hs he hn hk hx h0 => answers_of_eq rfl (nsAttach_emptyList h hs he hn hk hx h0),
    fun slot x c n k s h hs he hn hk hx h1 hi hk2 hc ha =>
      answers_of_eq rfl (nsAttach_detaches h hs he hn hx h1 hi hk2 hc ha hk),
    fun slot x c n k s h hs he hn hk hx h1 hi hk2 hc ha =>
      answers_of_eq rfl (nsAttach_alreadyAttached h hs he hn hx h1 hi hk2 hc ha hk)⟩

end Sys2Proof.Machine
end

section
/-!
SUPPORT and settlement. The reservation commands (R336 to R338): each operation case by case.
-/

namespace Sys2Proof.Machine

open Sys2Proof

section
variable {s : State} {slot : Slot} {c : CmdSlot} {n : NsSt} {x : Xfer}

/-! ### Commands that are not served, and bad data pointers (R304, R336) -/

theorem resvRegister_absent (h : s.resvCmd slot 13 = none) (x : Xfer) : s.resvRegister slot x = s := by
  simp only [State.resvRegister, h]

theorem resvReport_absent (h : s.resvCmd slot 14 = none) (x : Xfer) : s.resvReport slot x = s := by
  simp only [State.resvReport, h]

theorem resvAcquire_absent (h : s.resvCmd slot 17 = none) (x : Xfer) : s.resvAcquire slot x = s := by
  simp only [State.resvAcquire, h]

theorem resvRelease_absent (h : s.resvCmd slot 21 = none) (x : Xfer) : s.resvRelease slot x = s := by
  simp only [State.resvRelease, h]

theorem xferStatus_short (c : CmdSlot) (n : NsSt) (hd : x.dptr = 4) : xferStatus c n x = some scXfer := by
  simp [xferStatus, hd]

theorem resvRegister_badTransfer (h : s.resvCmd slot 13 = some (c, n)) (hd : x.dptr = 4) :
    s.resvRegister slot x = s.xferFail c scXfer := by
  simp only [State.resvRegister, h, xferStatus_short _ _ hd]

theorem resvReport_badTransfer (h : s.resvCmd slot 14 = some (c, n)) (hd : x.dptr = 4) :
    s.resvReport slot x = s.xferFail c scXfer := by
  simp only [State.resvReport, h, xferStatus_short _ _ hd]

theorem resvAcquire_badTransfer (h : s.resvCmd slot 17 = some (c, n)) (hd : x.dptr = 4) :
    s.resvAcquire slot x = s.xferFail c scXfer := by
  simp only [State.resvAcquire, h, xferStatus_short _ _ hd]

theorem resvRelease_badTransfer (h : s.resvCmd slot 21 = some (c, n)) (hd : x.dptr = 4) :
    s.resvRelease slot x = s.xferFail c scXfer := by
  simp only [State.resvRelease, h, xferStatus_short _ _ hd]

/-! ### Reservation Register (R336) -/

section
variable (h : s.resvCmd slot 13 = some (c, n)) (hd : x.dptr = 0)
include h hd

theorem resvRegister_reserved (ha : 3 ≤ bitsOf (c.dw 0) 0 3 ∨ bitsOf (c.dw 0) 30 2 = 1) :
    s.resvRegister slot x = (s.finishSt slot (cst scField)).resvSettle := by
  simp only [State.resvRegister, h, xferStatus_noPi hd]
  exact if_pos ha

/-- An action with CPTPL = 0 registers, unregisters or replaces a key. -/
theorem resvRegister_acts (ha : bitsOf (c.dw 0) 0 3 ≤ 2) (hp : bitsOf (c.dw 0) 30 2 = 0) : s.resvRegister slot x =
    s.resvEnd c n (n.resv.register (s.hostOf c.ctrl) (bitsOf (c.dw 0) 0 3) (bitOf (c.dw 0) 3)
      (ofLeBytes (takeAt x.data 0 8)) (ofLeBytes (takeAt x.data 8 8))) := by
  simp only [State.resvRegister, h, xferStatus_noPi hd, hp]
  exact if_neg (by omega)

end

/-- The first host to register becomes a registrant. -/
theorem Resv.register_first {r : Resv} (host nrkey crkey : Nat) (h : r.regs = []) : r.register host 0 false crkey nrkey =
    some { r with regs := [(host, nrkey)], gen := (r.gen + 1) % 2 ^ 32 } := by
  simp [Resv.register, h]

/-! ### Reservation Acquire (R336) -/

/-- A host holds the key that it gives where it is registered with it. -/
theorem keyHeld {l : List (Nat × Nat)} {a b : Nat} (h : (a, b) ∈ l) : l.any (fun e => e.1 == a && e.2 == b) = true :=
  List.any_eq_true.2 ⟨(a, b), h, by simp⟩

theorem keyNotHeld {l : List (Nat × Nat)} {a b : Nat} (h : ∀ e ∈ l, ¬(e.1 = a ∧ e.2 = b)) :
    l.any (fun e => e.1 == a && e.2 == b) = false :=
  List.any_eq_false.2 fun e he => by simpa using h e he

section
variable (h : s.resvCmd slot 17 = some (c, n)) (hd : x.dptr = 0)
include h hd

theorem resvAcquire_reserved (ha : 3 ≤ bitsOf (c.dw 0) 0 3 ∨ bitsOf (c.dw 0) 8 8 = 0 ∨ 6 < bitsOf (c.dw 0) 8 8) :
    s.resvAcquire slot x = (s.finishSt slot (cst scField)).resvSettle := by
  simp only [State.resvAcquire, h, xferStatus_noPi hd]
  exact if_pos ha

variable (h1 : 1 ≤ bitsOf (c.dw 0) 8 8) (h6 : bitsOf (c.dw 0) 8 8 ≤ 6)
include h1 h6

theorem resvAcquire_noKey (ha : bitsOf (c.dw 0) 0 3 ≤ 2)
    (hk : ∀ e ∈ n.resv.regs, ¬(e.1 = s.hostOf c.ctrl ∧ e.2 = ofLeBytes (takeAt x.data 0 8))) :
    s.resvAcquire slot x = s.resvEnd c n none := by
  simp only [State.resvAcquire, h, xferStatus_noPi hd, keyNotHeld hk]
  exact (if_neg (by omega)).trans (if_pos rfl)

variable (ha : bitsOf (c.dw 0) 0 3 = 0) (hk : (s.hostOf c.ctrl, ofLeBytes (takeAt x.data 0 8)) ∈ n.resv.regs)
include ha hk

theorem resvAcquire_free (hh : n.resv.holder = none) : s.resvAcquire slot x =
    s.resvEnd c n (some { n.resv with holder := some (s.hostOf c.ctrl), rtype := bitsOf (c.dw 0) 8 8 }) := by
  simp only [State.resvAcquire, h, xferStatus_noPi hd, keyHeld hk, ha, hh]
  exact (if_neg (by omega)).trans ((if_neg (by simp)).trans (if_pos trivial))

theorem resvAcquire_held {k : Nat} (hh : n.resv.holder = some k) (hn : k ≠ s.hostOf c.ctrl) (ht : n.resv.rtype < 5) :
    s.resvAcquire slot x = s.resvEnd c n none := by
  simp only [State.resvAcquire, h, xferStatus_noPi hd, keyHeld hk, ha, hh]
  refine (if_neg (by omega)).trans ((if_neg (by simp)).trans ((if_pos trivial).trans (congrArg (s.resvEnd c n) (if_neg ?_))))
  omega

end

/-! ### Reservation Release (R336) -/

section
variable (h : s.resvCmd slot 21 = some (c, n)) (hd : x.dptr = 0)
include h hd

theorem resvRelease_reserved (ha : 2 ≤ bitsOf (c.dw 0) 0 3) :
    s.resvRelease slot x = (s.finishSt slot (cst scField)).resvSettle := by
  simp only [State.resvRelease, h, xferStatus_noPi hd]
  exact if_pos ha

theorem resvRelease_noKey (ha : bitsOf (c.dw 0) 0 3 ≤ 1)
    (hk : ∀ e ∈ n.resv.regs, ¬(e.1 = s.hostOf c.ctrl ∧ e.2 = ofLeBytes (takeAt x.data 0 8))) :
    s.resvRelease slot x = s.resvEnd c n none := by
  simp only [State.resvRelease, h, xferStatus_noPi hd, keyNotHeld hk]
  exact (if_neg (by omega)).trans (if_pos rfl)

variable (hk : (s.hostOf c.ctrl, ofLeBytes (takeAt x.data 0 8)) ∈ n.resv.regs)
include hk

/-- Clear removes every registrant and tells the others. -/
theorem resvRelease_clears (ha : bitsOf (c.dw 0) 0 3 = 1) : s.resvRelease slot x =
    (s.resvEnd c n (some { n.resv with regs := [], holder := none, rtype := 0, gen := (n.resv.gen + 1) % 2 ^ 32 })).resvNotify
      ((n.resv.regs.filter (fun e => e.1 != s.hostOf c.ctrl)).map (·.1)) := by
  simp only [State.resvRelease, h, xferStatus_noPi hd, keyHeld hk, ha]
  exact (if_neg (by decide)).trans ((if_neg (by simp)).trans (if_pos trivial))

variable (ha : bitsOf (c.dw 0) 0 3 = 0)
include ha

theorem resvRelease_notHolder (hh : n.resv.holds (s.hostOf c.ctrl) = false) :
    s.resvRelease slot x = s.resvEnd c n (some n.resv) := by
  simp only [State.resvRelease, h, xferStatus_noPi hd, keyHeld hk, ha, hh]
  exact (if_neg (by decide)).trans ((if_neg (by simp)).trans ((if_neg (by decide)).trans (if_pos (by simp))))

theorem resvRelease_frees (hh : n.resv.holds (s.hostOf c.ctrl) = true) (ht : bitsOf (c.dw 0) 8 8 = n.resv.rtype)
    (h2 : bitsOf (c.dw 0) 8 8 ≤ 2) : s.resvRelease slot x =
      (s.resvEnd c n (some { n.resv with holder := none, rtype := 0 })).resvNotify [] := by
  simp only [State.resvRelease, h, xferStatus_noPi hd, keyHeld hk, ha, hh]
  refine (if_neg (by decide)).trans ((if_neg (by simp)).trans ((if_neg (by decide)).trans ((if_neg (by simp)).trans
    ((if_neg (by simp [ht])).trans (congrArg _ (if_neg ?_))))))
  omega

end

/-! ### Reservation Report (R338) -/

theorem resvReport_returns (h : s.resvCmd slot 14 = some (c, n)) (hd : x.dptr = 0) : s.resvReport slot x =
    (s.modCmd slot (fun y => { y with effect := true })).finish slot ⟨cst scOk, 0, 0, takeAt (n.resv.status (fun h =>
      (((List.range 2).find? (fun k => s.hostOf k == h)).map (· + 1)).getD 0xFFFF)) 0 (4 * (c.dw 1 + 1))⟩ := by
  simp only [State.resvReport, h, xferStatus_noPi hd]
  congr 4
  funext k
  cases (List.range 2).find? (fun i => s.hostOf i == k) <;> rfl

end

/-- Settles O38: each command ends with its operation, in one of the cases above. The positions of the actions' fields are NVMe
2.1's (log entry 40): the model's reading. -/
theorem reservationCommandsComplete : Obligations.ReservationCommandsComplete := by
  unfold Obligations.ReservationCommandsComplete
  exact ⟨
    fun slot x s h => answers_of_eq rfl (resvRegister_absent h x),
    fun slot x c n s h hd => answers_of_eq rfl (resvRegister_badTransfer h hd),
    fun slot x s h => answers_of_eq rfl (resvReport_absent h x),
    fun slot x c n s h hd => answers_of_eq rfl (resvReport_badTransfer h hd),
    fun slot x s h => answers_of_eq rfl (resvAcquire_absent h x),
    fun slot x c n s h hd => answers_of_eq rfl (resvAcquire_badTransfer h hd),
    fun slot x s h => answers_of_eq rfl (resvRelease_absent h x),
    fun slot x c n s h hd => answers_of_eq rfl (resvRelease_badTransfer h hd),
    fun slot x c n s h hd ha => answers_of_eq rfl (resvRegister_reserved h hd ha),
    fun slot x c n s h hd ha hp => answers_of_eq rfl (resvRegister_acts h hd ha hp),
    fun c n s => rfl,
    fun c n v s => rfl,
    fun r host nrkey crkey h => Resv.register_first host nrkey crkey h,
    fun slot x c n s h hd ha => answers_of_eq rfl (resvAcquire_reserved h hd ha),
    fun slot x c n s h hd ha h1 h6 hk => answers_of_eq rfl (resvAcquire_noKey h hd h1 h6 ha hk),
    fun slot x c n s h hd ha h1 h6 hk hh => answers_of_eq rfl (resvAcquire_free h hd h1 h6 ha hk hh),
    fun slot x c n k s h hd ha h1 h6 hk hh hn ht => answers_of_eq rfl (resvAcquire_held h hd h1 h6 ha hk hh hn ht),
    fun slot x c n s h hd ha => answers_of_eq rfl (resvRelease_reserved h hd ha),
    fun slot x c n s h hd ha hk => answers_of_eq rfl (resvRelease_noKey h hd ha hk),
    fun slot x c n s h hd ha hk hh => answers_of_eq rfl (resvRelease_notHolder h hd hk ha hh),
    fun slot x c n s h hd ha hk hh ht h2 => answers_of_eq rfl (resvRelease_frees h hd hk ha hh ht h2),
    fun slot x c n s h hd ha hk => answers_of_eq rfl (resvRelease_clears h hd hk ha),
    fun slot x c n s h hd => answers_of_eq rfl (resvReport_returns h hd)⟩

end Sys2Proof.Machine
end

section
/-!
SUPPORT and settlement. Firmware download, commit and activation (R335, R430, R431), and the unlock commands (R311, R433 to
R435).
-/

namespace Sys2Proof.Machine

open Sys2Proof

/-! ### Unlock attempts and responses (R433 to R435) -/

section
variable {s : State} {p m n stamp ch t : Nat} {bs : List Byte}

theorem challenge_refused (h : 2 ≤ p ∨ 2 ≤ m ∨ s.methodOk p m = false) (stamp : Nat) :
    s.challenge p m stamp = ((some scField, 0), s) := if_pos (by simpa using h)

theorem challenge_denied (hp : p < 2) (hm : m < 2) (hk : s.methodOk p m = true) (hl : s.lockLeft p ≠ 0) (stamp : Nat) :
    s.challenge p m stamp = ((some scDenied, 0), s) :=
  (if_neg (by simp [hk]; omega)).trans (if_pos hl)

/-- A response on a path and by a method of Table 12-15, of 1 to 64 dwords, ends the attempt and is judged by what the path
holds. -/
theorem respond_judged (hp : p < 2) (hm : m < 2) (h1 : 1 ≤ n) (h64 : n ≤ 64) : s.respond p m n stamp bs =
    match (s.secPath p).chal with
    | none => (scSequence, s.chalEnd p)
    | some (am, ch, t) =>
      if am ≠ m ∨ t + 60000000000 ≤ stamp then (scSequence, s.chalEnd p)
      else if s.responseOk p m ch bs then
        (scOk, (((s.chalEnd p).modPath p (fun x => { x with unlockAt := some s.now, lockLen := 0 })).set (failsFld p) 0).setFlag
          (unlFld p) true)
      else (scAccessDenied, (s.chalEnd p).wrongResponse p) :=
  (if_neg (by omega)).trans rfl

theorem respond_noAttempt (hp : p < 2) (hm : m < 2) (h1 : 1 ≤ n) (h64 : n ≤ 64) (hc : (s.secPath p).chal = none) :
    s.respond p m n stamp bs = (scSequence, s.chalEnd p) := by
  rw [respond_judged hp hm h1 h64, hc]

/-- By another method, or 60 s after its attempt's stamp, a response is out of sequence. -/
theorem respond_outOfSequence {am : Nat} (hp : p < 2) (hm : m < 2) (h1 : 1 ≤ n) (h64 : n ≤ 64)
    (hc : (s.secPath p).chal = some (am, ch, t)) (ho : am ≠ m ∨ t + 60000000000 ≤ stamp) :
    s.respond p m n stamp bs = (scSequence, s.chalEnd p) := by
  rw [respond_judged hp hm h1 h64, hc]
  exact if_pos ho

theorem respond_inTime (hp : p < 2) (hm : m < 2) (h1 : 1 ≤ n) (h64 : n ≤ 64)
    (hc : (s.secPath p).chal = some (m, ch, t)) (ht : stamp < t + 60000000000) : s.respond p m n stamp bs =
    if s.responseOk p m ch bs then
      (scOk, (((s.chalEnd p).modPath p (fun x => { x with unlockAt := some s.now, lockLen := 0 })).set (failsFld p) 0).setFlag
        (unlFld p) true)
    else (scAccessDenied, (s.chalEnd p).wrongResponse p) := by
  rw [respond_judged hp hm h1 h64, hc]
  exact if_neg (by omega)

theorem respond_wrong (hp : p < 2) (hm : m < 2) (h1 : 1 ≤ n) (h64 : n ≤ 64)
    (hc : (s.secPath p).chal = some (m, ch, t)) (ht : stamp < t + 60000000000) (hr : s.responseOk p m ch bs = false) :
    s.respond p m n stamp bs = (scAccessDenied, (s.chalEnd p).wrongResponse p) := by
  rw [respond_inTime hp hm h1 h64 hc ht, hr]
  rfl

end

section
variable {s : State} {slot : Slot} {c : CmdSlot} {x : Xfer}

theorem unlockChallenge_absent (h : s.unlockCmd slot 192 = none) : s.unlockChallenge slot = s := by
  simp only [State.unlockChallenge, h]

theorem unlockChallenge_namespace (h : s.unlockCmd slot 192 = some c) (hn : c.e.nsid ≠ 0) :
    s.unlockChallenge slot = s.finishSt slot (cst scField) := by
  simp only [State.unlockChallenge, h]
  exact if_pos hn

theorem unlockChallenge_refused {st v : Nat} {u : State} (h : s.unlockCmd slot 192 = some c) (hn : c.e.nsid = 0)
    (hc : s.challenge (bitsOf (c.dw 0) 0 2) (bitsOf (c.dw 0) 2 2) c.stamp = ((some st, v), u)) :
    s.unlockChallenge slot = u.finishSt slot (cst st) := by
  simp only [State.unlockChallenge, h, hc]
  exact if_neg (by simp [hn])

theorem unlockChallenge_opens {ch : Nat} {u : State} (h : s.unlockCmd slot 192 = some c) (hn : c.e.nsid = 0)
    (hc : s.challenge (bitsOf (c.dw 0) 0 2) (bitsOf (c.dw 0) 2 2) c.stamp = ((none, ch), u)) :
    s.unlockChallenge slot = u.finish slot ⟨cst scOk, ch % 2 ^ 32, ch / 2 ^ 32, []⟩ := by
  simp only [State.unlockChallenge, h, hc]
  exact if_neg (by simp [hn])

theorem unlockResponse_absent (h : s.unlockCmd slot 193 = none) (x : Xfer) : s.unlockResponse slot x = s := by
  simp only [State.unlockResponse, h]

theorem unlockResponse_namespace (h : s.unlockCmd slot 193 = some c) (hn : c.e.nsid ≠ 0) (x : Xfer) :
    s.unlockResponse slot x = s.finishSt slot (cst scField) := by
  simp only [State.unlockResponse, h]
  exact if_pos hn

theorem unlockResponse_judged (h : s.unlockCmd slot 193 = some c) (hn : c.e.nsid = 0) (hd : x.dptr = 0) :
    s.unlockResponse slot x =
      (s.respond (bitsOf (c.dw 1) 0 2) (bitsOf (c.dw 1) 2 2) (bitsOf (c.dw 0) 0 8) c.stamp
        (takeAt x.data 0 (4 * bitsOf (c.dw 0) 0 8))).2.finishSt slot
      (cst (s.respond (bitsOf (c.dw 1) 0 2) (bitsOf (c.dw 1) 2 2) (bitsOf (c.dw 0) 0 8) c.stamp
        (takeAt x.data 0 (4 * bitsOf (c.dw 0) 0 8))).1) := by
  simp only [State.unlockResponse, h]
  exact (if_neg (by simp [hn])).trans (adminXfer_good hd _)

/-! ### Downloads (R430) -/

theorem downloadPiece_refused {k o : Nat} {bs : List Byte} (h : o % 4096 ≠ 0 ∨ 33554432 < o + bs.length) :
    s.downloadPiece k o bs = none := by
  have top : (if s.memFailed then 1048576 else 33554432) ≤ 33554432 := by split <;> omega
  refine if_pos ?_
  rcases h with h | h
  · exact .inl h
  · exact .inr (.inl (by omega))

theorem download_absent (h : s.adminCmd slot 0x11 = none) (x : Xfer) : s.download slot x = s := by
  simp only [State.download, h]

section
variable (h : s.adminCmd slot 0x11 = some c) (hd : x.dptr = 0)
include h hd

theorem download_refused (hp : s.downloadPiece c.ctrl (4 * c.dw 1) (takeAt x.data 0 (4 * (c.dw 0 + 1))) = none) :
    s.download slot x = s.finishSt slot (cst scField) := by
  simp only [State.download, h, adminXfer_good hd, hp]

theorem download_takes {t : State} (hp : s.downloadPiece c.ctrl (4 * c.dw 1) (takeAt x.data 0 (4 * (c.dw 0 + 1))) = some t) :
    s.download slot x = t.finishSt slot (cst scOk) := by
  simp only [State.download, h, adminXfer_good hd, hp]

end

/-! ### Commits (R431, Table 18-8) -/

/-- An image that passes the header check of a kind is of that kind. -/
theorem imgKind_of_imageOk {k : Nat} {m : List Byte} (h : s.imageOk k m = true) : imgKind m = k := by
  simp only [State.imageOk, headerOk, Bool.and_eq_true, beq_iff_eq] at h
  omega

/-- Only CA = 1 commits a Manifest: what a commit with CA 2 or 3 accepts is no Manifest. -/
theorem imgKind_of_commitCheck {f ca : Nat} {img : List Byte} {u : Bool} (h2 : 2 ≤ ca)
    (h : s.commitCheck f ca img u = none) : imgKind img ≠ 1 := by
  intro h1
  have refused : s.imageOk 2 img = false := Bool.eq_false_iff.2 fun hi => absurd (imgKind_of_imageOk hi) (by omega)
  by_cases hf : 4 ≤ ca ∨ 2 < f ∨ (imgKind img == 1 && ca != 2) = true ∧ ca ≠ 1
  · exact absurd ((if_pos hf).symm.trans h) (by simp)
  · obtain rfl : ca = 2 := by simp [h1] at hf; omega
    simp [State.commitCheck, refused] at h
    split at h <;> simp at h

theorem firmwareCommit_absent (h : s.adminCmd slot 0x10 = none) : s.firmwareCommit slot = s := by
  simp only [State.firmwareCommit, h]

section
variable (h : s.adminCmd slot 0x10 = some c)
include h

theorem firmwareCommit_waits (hw : s.earlier c (fun d => d.e.opc == 0x10) = true ∨ s.hif.activating ≠ none) :
    s.firmwareCommit slot = s := by
  simp only [State.firmwareCommit, h]
  exact if_pos (by simpa [Option.isSome_iff_ne_none] using hw)

variable (hf : s.earlier c (fun d => d.e.opc == 0x10) = false) (ha : s.hif.activating = none)
include hf ha

theorem firmwareCommit_commits : s.firmwareCommit slot =
    s.commit slot c.stamp (bitsOf (c.dw 0) 0 3) (bitsOf (c.dw 0) 3 3) (c.resv == some true) := by
  simp only [State.firmwareCommit, h]
  exact if_neg (by simp [hf, ha])

end

section
variable {f ca stamp no : Nat} {u : Bool}

theorem commit_refused {st : Nat}
    (h : s.commitCheck f ca (if ca = 2 then s.slotImage (s.commitSlot f) else s.dlImage) u = some st) :
    s.commit no stamp f ca u = (if st = 0x113 then s.fault .sec 4 else s).finishSt no (cst st) := by
  simp only [State.commit, h]

/-- A commit with CA = 2 makes its slot PENDING. -/
theorem commit_pends (h : s.commitCheck f 2 (s.slotImage (s.commitSlot f)) u = none) :
    s.commit no stamp f 2 u = (s.bootWrite s.bootActive (s.commitSlot f)).finishSt no (cst scOk) := by
  have hk := imgKind_of_commitCheck (by omega) h
  simp [State.commit, h, hk]

/-- A commit with CA = 3 stores the image and begins the activation. -/
theorem commit_activates (h : s.commitCheck f 3 s.dlImage u = none) : s.commit no stamp f 3 u =
    (((s.norStore (slotAddr (s.commitSlot f)) s.dlImage).dlClear).modHif (fun h =>
      { h with activating := some (stamp, no, s.commitSlot f) })).raiseBoth ⟨2, 1, 3⟩ := by
  have hk := imgKind_of_commitCheck (by omega) h
  simp [State.commit, h, hk]

/-- What a commit with CA 2 or 3 answers. -/
theorem commit_pendsOrActivates (h2 : 2 ≤ ca) (h3 : ca ≤ 3) : s.commit no stamp f ca u =
    match s.commitCheck f ca (if ca = 2 then s.slotImage (s.commitSlot f) else s.dlImage) u with
    | some st => (if st = 0x113 then s.fault .sec 4 else s).finishSt no (cst st)
    | none => if ca = 3 then
        (((s.norStore (slotAddr (s.commitSlot f)) (if ca = 2 then s.slotImage (s.commitSlot f) else s.dlImage)).dlClear).modHif
          (fun h => { h with activating := some (stamp, no, s.commitSlot f) })).raiseBoth ⟨2, 1, 3⟩
      else (s.bootWrite s.bootActive (s.commitSlot f)).finishSt no (cst scOk) := by
  cases hc : s.commitCheck f ca (if ca = 2 then s.slotImage (s.commitSlot f) else s.dlImage) u with
  | some st => exact commit_refused hc
  | none =>
    obtain rfl | rfl : ca = 2 ∨ ca = 3 := by omega
    · exact commit_pends hc
    · exact commit_activates hc

end
end

/-! ### Activation (R335) -/

section
variable {s : State}

/-- Nothing begins while an activation runs. -/
theorem activationBegin_running (h : s.hif.activating ≠ none) : s.activationBegin = s :=
  if_neg (by simp [h])

theorem activationBegin_noPending (h : s.get R.SEC_STAT_PENDING_SLOT = 0) : s.activationBegin = s :=
  if_neg (by simp [h])

/-- A controller reset begins the activation of a PENDING slot. -/
theorem activationBegin_reset {n k : Nat} (h : s.hif.activating = none) (hp : s.get R.SEC_STAT_PENDING_SLOT = k)
    (hk : k = 1 ∨ k = 2) (hn : n < 2) (he : s.ctlExists n = true) (hr : (s.ctl n).resetAt ≠ none) : s.activationBegin =
    (s.modHif (fun h => { h with activating := some (s.now, 8192, k) })).raiseBoth ⟨2, 1, 3⟩ := by
  have here : s.ctlsHere.any (fun n => (s.ctl n).resetAt.isSome) = true :=
    List.any_eq_true.2 ⟨n, List.mem_filter.2 ⟨List.mem_range.2 hn, he⟩, by simpa [Option.isSome_iff_ne_none] using hr⟩
  subst hp
  exact if_pos (by simp [h, hk, here])

theorem activation_idle (h : s.hif.activating = none) (hp : s.get R.SEC_STAT_PENDING_SLOT = 0) : s.activation = s := by
  rw [State.activation, activationBegin_noPending hp]
  simp only [State.activate, h]

section
variable {t no k : Nat} (h : s.hif.activating = some (t, no, k))
include h

theorem activation_waits (hr : s.activationReady no = false) : s.activation = s := by
  rw [State.activation, activationBegin_running (by simp [h])]
  simp only [State.activate, h]
  exact if_pos (by simp [hr])

/-- The activation ends once the commands in flight, the cache and the Route Table allow it. -/
theorem activation_ends (hr : s.activationReady no = true) : s.activation =
    if s.mode = mLIMP then (((((((((List.range 4).foldl (fun (t : State) a => t.sqReset a)
    s).set R.SEC_STAT_ACTIVE_SLOT k).set R.SEC_FW_VER_VERSION (imgId (s.slotImage k))).patchImage (s.slotImage
    k)).bootWrite k 0).ldgRaise 0x0102 (leBytes 4 (imgId (s.slotImage k)) ++ leBytes 4 (s.get R.SEC_FW_VER_VERSION)
    ++ [BitVec.ofNat 8 k])).modHif (fun h => { h with activating := none })).finishSt no (cst scOk)).bootAgain else
    ((((((((List.range 4).foldl (fun (t : State) a => t.sqReset a) s).set R.SEC_STAT_ACTIVE_SLOT k).set
    R.SEC_FW_VER_VERSION (imgId (s.slotImage k))).patchImage (s.slotImage k)).bootWrite k 0).ldgRaise 0x0102
    (leBytes 4 (imgId (s.slotImage k)) ++ leBytes 4 (s.get R.SEC_FW_VER_VERSION) ++ [BitVec.ofNat 8 k])).modHif (fun
    h => { h with activating := none })).finishSt no (cst scOk) := by
  rw [State.activation, activationBegin_running (by simp [h])]
  simp only [State.activate, h]
  exact if_neg (by simp [hr])

theorem activationTimeout_abandons (ht : t + 1500000000 ≤ s.now) : s.activationTimeout =
    (s.modHif (fun h => { h with activating := none })).finishSt no (cst 0x112) := by
  simp only [State.activationTimeout, h]
  exact if_pos (passed_of_le ht)

theorem activationTimeout_waits (ht : s.now < t + 1500000000) : s.activationTimeout = s := by
  simp only [State.activationTimeout, h]
  exact if_neg (by simp [passed_of_lt ht])

end

theorem activationTimeout_idle (h : s.hif.activating = none) : s.activationTimeout = s := by
  simp only [State.activationTimeout, h]

end

/-- Settles O36: each command ends with its operation, in one of the cases above. The model's readings in these clauses: the
challenge is a free value (log entry 1), an activation in LIMP keeps the registers and restarts BOOT (log entry 56), and a right
response clears the length of the next lockout (log entry 92). -/
theorem firmwareAndUnlockCommandsComplete : Obligations.FirmwareAndUnlockCommandsComplete := by
  unfold Obligations.FirmwareAndUnlockCommandsComplete
  exact ⟨
    fun slot x s h => answers_of_eq rfl (download_absent h x),
    fun slot x c s h hd hp => answers_of_eq rfl (download_refused h hd hp),
    fun slot x c t s h hd hp => answers_of_eq rfl (download_takes h hd hp),
    fun k o bs s h => downloadPiece_refused h,
    fun slot s h => answers_of_eq rfl (firmwareCommit_absent h),
    fun slot c s h hw => answers_of_eq rfl (firmwareCommit_waits h hw),
    fun slot c st s h hf ha hc => answers_of_eq rfl ((firmwareCommit_commits h hf ha).trans (commit_refused hc)),
    fun s h hp => answers_of_eq rfl (activation_idle h hp),
    fun t no k s h hr => answers_of_eq rfl (activation_waits h hr),
    fun slot c s h hf ha h2 h3 => answers_of_eq rfl ((firmwareCommit_commits h hf ha).trans (commit_pendsOrActivates h2 h3)),
    fun t no k s h hr => answers_of_eq rfl (activation_ends h hr),
    fun n k s h hp hk hn he hr => answers_of_eq rfl (congrArg State.activate (activationBegin_reset h hp hk hn he hr)),
    fun s h => answers_of_eq rfl (activationTimeout_idle h),
    fun t no k s h ht => answers_of_eq rfl (activationTimeout_abandons h ht),
    fun t no k s h ht => answers_of_eq rfl (activationTimeout_waits h ht),
    fun slot s h => answers_of_eq rfl (unlockChallenge_absent h),
    fun slot c s h hn => answers_of_eq rfl (unlockChallenge_namespace h hn),
    fun slot x s h => answers_of_eq rfl (unlockResponse_absent h x),
    fun slot x c s h hn => answers_of_eq rfl (unlockResponse_namespace h hn x),
    fun slot c st v t s h hn hc => answers_of_eq rfl (unlockChallenge_refused h hn hc),
    fun slot c ch t s h hn hc => answers_of_eq rfl (unlockChallenge_opens h hn hc),
    fun p m stamp s h => challenge_refused h stamp,
    fun p m stamp s hp hm hk hl => challenge_denied hp hm hk hl stamp,
    fun slot x c s h hn hd => answers_of_eq rfl (unlockResponse_judged h hn hd),
    fun p m n stamp bs s hp hm h1 h64 hc => respond_noAttempt hp hm h1 h64 hc,
    fun p m n stamp am ch t bs s hp hm h1 h64 hc ho => respond_outOfSequence hp hm h1 h64 hc ho,
    fun p m n stamp ch t bs s hp hm h1 h64 hc ht hr => respond_wrong hp hm h1 h64 hc ht hr,
    fun p m n stamp ch t bs s hp hm h1 h64 hc ht => respond_inTime hp hm h1 h64 hc ht⟩

end Sys2Proof.Machine
end

section
/-!
SUPPORT and settlement. The steps of BOOT (R424 to R429), each case by case.
-/

namespace Sys2Proof.Machine

open Sys2Proof

section
variable {s : State}

/-! ### Step 1: the boot record -/

/-- The PENDING slot is tried first, else the ACTIVE one. -/
theorem bootRead_record {a p k q : Nat} (h0 : s.sec.step = 0) (hm : s.mode = mBOOT) (hp : s.sys.powerGood = true)
    (hb : s.bootRecord = some (k, a, p, q)) : s.bootRead true = (s.modSec (fun x => { x with
      step := 1
      tries := [if p = 1 ∨ p = 2 then p else if a = 2 then 2 else 1, 3 - (if p = 1 ∨ p = 2 then p else if a = 2 then 2 else 1)]
      })).set R.SEC_STAT_PENDING_SLOT (if p ≤ 2 then p else 0) := by
  refine (if_neg (by simp [h0, hm, hp])).trans ?_
  simp only [hb]
  rfl

theorem bootRead_outOfOrder (f : Bool) (h : s.sec.step ≠ 0 ∨ s.mode ≠ mBOOT ∨ s.sys.powerGood = false) : s.bootRead f = s :=
  if_pos (by simpa using h)

/-! ### Steps 2 and 3: the Manifest is read, a firmware image is chosen -/

theorem manifestRead_inOrder (h : s.sec.step = 1) : s.manifestRead = s.modSec (fun x => { x with step := 2 }) := if_pos h

theorem manifestRead_outOfOrder (h : s.sec.step ≠ 1) : s.manifestRead = s := if_neg h

theorem firmwareRead_outOfOrder (h : s.sec.step ≠ 2) : s.firmwareRead = s := if_pos h

theorem firmwareRead_noneLeft (h : s.sec.step = 2) (ht : s.sec.tries = []) :
    s.firmwareRead = (s.modSec (fun x => { x with step := 3 })).set R.SEC_STAT_ACTIVE_SLOT 0 := by
  refine (if_neg (by simp [h])).trans ?_
  simp only [ht]

theorem firmwareRead_judges {k : Nat} {r : List Nat} (h : s.sec.step = 2) (ht : s.sec.tries = k :: r) : s.firmwareRead =
    if s.imageOk 2 (s.slotImage k) && s.versionOk 2 (s.slotImage k) then
      ((s.modSec (fun x => { x with step := 3, tries := [] })).set R.SEC_STAT_ACTIVE_SLOT k).set R.SEC_FW_VER_VERSION
        (imgId (s.slotImage k))
    else if r.isEmpty then
      (((s.modSec (fun x => { x with tries := r })).fault .sec 1).modSec (fun x => { x with step := 3 })).set
        R.SEC_STAT_ACTIVE_SLOT 0
    else (s.modSec (fun x => { x with tries := r })).fault .sec 1 := by
  refine (if_neg (by simp [h])).trans ?_
  simp only [ht]

/-- An image that fails its checks leaves the next slot to try. -/
theorem firmwareRead_refuses {k : Nat} {r : List Nat} (h : s.sec.step = 2) (ht : s.sec.tries = k :: r)
    (hf : s.imageOk 2 (s.slotImage k) = false ∨ s.versionOk 2 (s.slotImage k) = false) (hr : r ≠ []) :
    s.firmwareRead = (s.modSec (fun x => { x with tries := r })).fault .sec 1 :=
  (firmwareRead_judges h ht).trans ((if_neg (by rcases hf with hf | hf <;> simp [hf])).trans (if_neg (by simpa using hr)))

/-! ### Steps 4 and 5: the patch, the Manifest's judgement -/

theorem patchLoad_recovery (h : s.sec.step = 3) (h0 : s.get R.SEC_STAT_ACTIVE_SLOT = 0) : s.patchLoad =
    (List.range 4).foldl (fun (t : State) a => t.sqPatchEnd a) (s.modSec (fun x => { x with step := 4 })) :=
  (if_neg (by simp [h])).trans (if_pos h0)

theorem patchLoad_slot {k : Nat} (h : s.sec.step = 3) (hk : s.get R.SEC_STAT_ACTIVE_SLOT = k) (h0 : k ≠ 0) :
    s.patchLoad = (s.modSec (fun x => { x with step := 4 })).patchImage (s.slotImage k) := by
  subst hk
  exact (if_neg (by simp [h])).trans (if_neg h0)

theorem patchLoad_outOfOrder (h : s.sec.step ≠ 3) : s.patchLoad = s := if_pos h

theorem manifestJudge_inOrder (h : s.sec.step = 4) : s.manifestJudge = s.modSec (fun x => { x with
    step := 5
    manOk := s.get R.SEC_STAT_ACTIVE_SLOT != 0 && s.imageOk 1 s.manifestImage && s.versionOk 1 s.manifestImage
      && manifestOk s.manifestImage && !(s.memFailed && decide (2097152 < imgLen s.manifestImage)) }) := if_neg (by simp [h])

theorem manifestJudge_outOfOrder (h : s.sec.step ≠ 4) : s.manifestJudge = s := if_pos h

/-! ### Steps 6 and 7: BOOT exit -/

theorem bootExit_waits {f : Bool} (h : s.sec.step ≠ 5 ∨ s.mode ≠ mBOOT ∨ s.get R.MEM_STAT_STATE < 2) : s.bootExit f = s :=
  if_pos h

section
variable {f : Bool} (h5 : s.sec.step = 5) (hm : s.mode = mBOOT) (hs : 2 ≤ s.get R.MEM_STAT_STATE) (hl : s.lossShown = false)
include h5 hm hs hl

/-- With no cached data lost, the judged Manifest decides. -/
theorem bootExit_decides : s.bootExit f =
    if s.sec.manOk && !(s.memFailed && decide (2097152 < imgLen s.manifestImage)) then s.bootApply f
    else ((s.fault .sec 0).bootSlot f).bootLeave mLIMP 0x0A := by
  refine (if_neg (by simp [h5, hm]; omega)).trans ?_
  simp only [hl, Bool.false_eq_true, if_false]

theorem bootExit_limp (hk : s.sec.manOk = false) :
    s.bootExit f = ((s.fault .sec 0).bootSlot f).bootLeave mLIMP 0x0A :=
  (bootExit_decides h5 hm hs hl).trans (if_neg (by simp [hk]))

theorem bootExit_applies (hk : s.sec.manOk = true) (hf : s.memFailed = false ∨ imgLen s.manifestImage ≤ 2097152) :
    s.bootExit f = s.bootApply f := by
  refine (bootExit_decides h5 hm hs hl).trans (if_pos ?_)
  rcases hf with hf | hf
  · simp [hk, hf]
  · simp [hk, Nat.not_lt.2 hf]

end
end

/-- Settles O6: each step of BOOT ends with its operation, in order or out of it. That BOOT exit waits for MEM is the model's
reading (log entry 57). -/
theorem bootCommandsComplete : Obligations.BootCommandsComplete := by
  unfold Obligations.BootCommandsComplete
  exact ⟨
    fun a p k q s h0 hm hp hb => answers_of_eq rfl (bootRead_record h0 hm hp hb),
    fun f s h => answers_of_eq rfl (bootRead_outOfOrder f h),
    fun s h => answers_of_eq rfl (manifestRead_inOrder h),
    fun s h => answers_of_eq rfl (manifestRead_outOfOrder h),
    fun s h ht => answers_of_eq rfl (firmwareRead_noneLeft h ht),
    fun k r s h ht hf hr => answers_of_eq rfl (firmwareRead_refuses h ht hf hr),
    fun k r s h ht => answers_of_eq rfl (firmwareRead_judges h ht),
    fun s h => answers_of_eq rfl (firmwareRead_outOfOrder h),
    fun s h h0 => answers_of_eq rfl (patchLoad_recovery h h0),
    fun k s h hk h0 => answers_of_eq rfl (patchLoad_slot h hk (Fin.val_ne_of_ne h0)),
    fun s h => answers_of_eq rfl (patchLoad_outOfOrder h),
    fun s h => answers_of_eq rfl (manifestJudge_inOrder h),
    fun s h => answers_of_eq rfl (manifestJudge_outOfOrder h),
    fun f s h5 hm hs hl hk => answers_of_eq rfl (bootExit_limp h5 hm hs hl hk),
    fun f s h5 hm hs hl hk hf => answers_of_eq rfl (bootExit_applies h5 hm hs hl hk hf),
    fun f s h => answers_of_eq rfl (bootExit_waits h)⟩

end Sys2Proof.Machine
end

section
/-!
SUPPORT and settlement. Attempts to unlock a path over the TAP, lockouts, and what locks a path again (R433 to R436).
-/

namespace Sys2Proof.Machine

open Sys2Proof

section
variable {s : State}

/-! ### UNLOCK_CH (R433) -/

/-- A challenge-response opens an attempt with a challenge that is not 0. -/
theorem tapChallenge_response (hm : s.methodOk 1 1 = true) (hl : s.lockLeft 1 = 0) : s.tapChallenge 1 =
    ((({ s with free := s.free + 1 } : State).modPath 1 (fun y =>
      { y with chal := some (1, 1 + Config.freeNat s.free % (2 ^ 64 - 1), s.now) })).setFlag R.SEC_STAT_DBG_CHAL
        true).tapSelect 0x40 (4 * (1 + Config.freeNat s.free % (2 ^ 64 - 1))) := by
  simp [State.tapChallenge, State.challenge, hm, hl, State.draw, chalFld]

/-- A passphrase needs no challenge. -/
theorem tapChallenge_passphrase (hm : s.methodOk 1 0 = true) (hl : s.lockLeft 1 = 0) : s.tapChallenge 0 =
    ((s.modPath 1 (fun y => { y with chal := some (0, 0, s.now) })).setFlag R.SEC_STAT_DBG_CHAL true).tapSelect 0x40 0 := by
  simp [State.tapChallenge, State.challenge, hm, hl, chalFld]

theorem tapChallenge_refused {m : Nat} (h1 : m ≠ 1 ∨ s.methodOk 1 1 = false ∨ s.lockLeft 1 ≠ 0)
    (h0 : m ≠ 0 ∨ s.methodOk 1 0 = false ∨ s.lockLeft 1 ≠ 0) : s.tapChallenge m = s.tapSelect 0x40 0 := by
  by_cases hr : 2 ≤ 1 ∨ 2 ≤ m ∨ s.methodOk 1 m = false
  · rw [State.tapChallenge, challenge_refused hr]
    rfl
  · obtain ⟨-, hm, hk⟩ : 1 < 2 ∧ m < 2 ∧ s.methodOk 1 m = true := by simpa using hr
    have hl : s.lockLeft 1 ≠ 0 := by
      obtain rfl | rfl : m = 0 ∨ m = 1 := by omega
      · simpa [hk] using h0
      · simpa [hk] using h1
    rw [State.tapChallenge, challenge_denied (by decide) hm hk hl]
    rfl

/-! ### UNLOCK_RSP (R434) -/

theorem tapRespond_noAttempt (h : (s.secPath 1).chal = none) (n : Nat) (bs : List Byte) :
    s.tapRespond n bs = s.tapSelect 0x41 0 := by
  simp only [State.tapRespond, h]

section
variable {m ch t n : Nat} {bs : List Byte} (h : (s.secPath 1).chal = some (m, ch, t))
include h

theorem tapRespond_judged : s.tapRespond n bs = ((s.respond 1 m n s.now (takeAt bs 0 (4 * n))).2).tapSelect 0x41 0 := by
  simp only [State.tapRespond, h]

variable (hm : m < 2) (h1 : 1 ≤ n) (h64 : n ≤ 64)
include hm h1 h64

theorem tapRespond_late (ht : t + 60000000000 ≤ s.now) : s.tapRespond n bs = (s.chalEnd 1).tapSelect 0x41 0 := by
  rw [tapRespond_judged h, respond_outOfSequence (by decide) hm h1 h64 h (.inr ht)]

theorem tapRespond_right (ht : s.now < t + 60000000000) (hr : s.responseOk 1 m ch (takeAt bs 0 (4 * n)) = true) :
    s.tapRespond n bs = ((((s.chalEnd 1).modPath 1 (fun x => { x with unlockAt := some s.now, lockLen := 0 })).set
      R.SEC_FAILS_DBG_FAILS 0).setFlag R.SEC_STAT_DBG_UNLOCKED true).tapSelect 0x41 0 := by
  rw [tapRespond_judged h, respond_inTime (by decide) hm h1 h64 h ht, hr]
  rfl

theorem tapRespond_wrong (ht : s.now < t + 60000000000) (hr : s.responseOk 1 m ch (takeAt bs 0 (4 * n)) = false) :
    s.tapRespond n bs = ((s.chalEnd 1).wrongResponse 1).tapSelect 0x41 0 := by
  rw [tapRespond_judged h, respond_wrong (by decide) hm h1 h64 h ht hr]

end

/-! ### Wrong responses and lockouts (R435) -/

section
variable {p : Nat} {k : SecKeys} (hk : s.sec.keys = some k)
include hk

theorem wrongResponse_counts (h : satN (s.get (failsFld p) + 1) 255 < k.lockN) :
    s.wrongResponse p = (s.set (failsFld p) (satN (s.get (failsFld p) + 1) 255)).fault .sec 2 := by
  simp only [State.wrongResponse, hk]
  exact if_pos h

/-- The LOCK_N-th wrong response in a row locks the path out, for 1 minute at first. -/
theorem wrongResponse_locks (h : k.lockN ≤ satN (s.get (failsFld p) + 1) 255) (h0 : (s.secPath p).lockLen = 0) :
    s.wrongResponse p = (((((s.set (failsFld p) (satN (s.get (failsFld p) + 1) 255)).fault .sec 2).modPath p (fun x =>
      { x with lockLen := 1, lockEnd := some (s.optimeAt s.now + 60000) })).bump (locksFld p) 1).setFlag
        (lockoutFld p) true).fault .sec 3 := by
  simp only [State.wrongResponse, hk, h0]
  exact if_neg (by omega)

end

section
variable {p : Nat}

theorem attemptExpiry_lapses {m ch t : Nat} (h : (s.secPath p).chal = some (m, ch, t)) (ht : t + 60000000000 ≤ s.now) :
    s.attemptExpiry p = (s.modPath p (fun x => { x with chal := none })).setFlag (chalFld p) false := by
  simp only [State.attemptExpiry, h]
  exact if_pos (passed_of_le ht)

theorem attemptExpiry_stands {m ch t : Nat} (h : (s.secPath p).chal = some (m, ch, t)) (ht : s.now < t + 60000000000) :
    s.attemptExpiry p = s := by
  simp only [State.attemptExpiry, h]
  exact if_neg (by simp [passed_of_lt ht])

theorem lockoutEnd_ends {t : Nat} (h : (s.secPath p).lockEnd = some t) (h0 : s.lockLeft p = 0) :
    s.lockoutEnd p = (s.modPath p (fun x => { x with lockEnd := none })).setFlag (lockoutFld p) false := by
  simp only [State.lockoutEnd, h]
  exact if_pos h0

theorem lockoutEnd_lasts (h0 : s.lockLeft p ≠ 0) : s.lockoutEnd p = s := by
  unfold State.lockoutEnd
  cases (s.secPath p).lockEnd with
  | none => rfl
  | some t => exact if_neg h0

/-! ### What locks a path again (R436) -/

theorem unlockTimeout_locks {t : Nat} {k : SecKeys} (h : (s.secPath p).unlockAt = some t) (hk : s.sec.keys = some k)
    (h0 : k.tmo ≠ 0) (ht : t + k.tmo * 60000000000 ≤ s.now) : s.unlockTimeout p = s.pathLock p := by
  simp only [State.unlockTimeout, h, hk]
  exact if_pos ⟨h0, passed_of_le ht⟩

theorem unlockTimeout_never {k : SecKeys} (hk : s.sec.keys = some k) (h0 : k.tmo = 0) : s.unlockTimeout p = s := by
  unfold State.unlockTimeout
  cases (s.secPath p).unlockAt with
  | none => rfl
  | some t =>
    simp only [hk]
    exact if_neg fun h => h.1 h0

theorem pathLock_locked (h : s.flag (unlFld p) = false) : s.pathLock p = s := if_pos (congrArg Bool.not h)

end

theorem pathLock_debug (h : s.flag R.SEC_STAT_DBG_UNLOCKED = true) : s.pathLock 1 =
    (s.modPath 1 (fun x => { x with unlockAt := none })).setFlag R.SEC_STAT_DBG_UNLOCKED false :=
  (if_neg (by simp [unlFld, h])).trans (if_neg (by decide))

theorem pathLock_host (h : s.flag R.SEC_STAT_HOST_UNLOCKED = true) : s.pathLock 0 =
    ((s.modPath 0 (fun x => { x with unlockAt := none })).setFlag R.SEC_STAT_HOST_UNLOCKED false).workshopLeave :=
  (if_neg (by simp [unlFld, h])).trans (if_pos rfl)

section
variable {p : Path} {v : Word}

/-- A write that SEC_CTRL takes is stored, and locks the paths that its bits name. -/
theorem regCmd_secCtrl (h : s.takes p R.A_SEC_CTRL v = true) : s.regCmd p R.A_SEC_CTRL v =
    if bitOf v.toNat 1 then
      (if bitOf v.toNat 0 then (s.storeReg p R.A_SEC_CTRL v).pathLock 0 else s.storeReg p R.A_SEC_CTRL v).pathLock 1
    else if bitOf v.toNat 0 then (s.storeReg p R.A_SEC_CTRL v).pathLock 0 else s.storeReg p R.A_SEC_CTRL v := by
  have hook (t : State) (old w : Nat) : t.afterWrite R.A_SEC_CTRL old w =
    if bitOf w 1 then (if bitOf w 0 then t.pathLock 0 else t).pathLock 1 else if bitOf w 0 then t.pathLock 0 else t := rfl
  rw [regCmd_plain s p R.A_SEC_CTRL _ h rfl (by decide) (by decide) (by decide) (by decide) (by decide) (by decide), hook]

theorem regCmd_hostLock (h1 : bitOf v.toNat 1 = false) (h : s.takes p R.A_SEC_CTRL (withBits v 0 1 1) = true) :
    s.regCmd p R.A_SEC_CTRL (withBits v 0 1 1) = (s.storeReg p R.A_SEC_CTRL (withBits v 0 1 1)).pathLock 0 := by
  rw [regCmd_secCtrl h, withBits_bit_other v 0 1 1 1 (by decide) (by decide), h1, withBits_bit_same v 0 1 (by decide)]
  rfl

theorem regCmd_dbgLock (h0 : bitOf v.toNat 0 = false) (h : s.takes p R.A_SEC_CTRL (withBits v 1 1 1) = true) :
    s.regCmd p R.A_SEC_CTRL (withBits v 1 1 1) = (s.storeReg p R.A_SEC_CTRL (withBits v 1 1 1)).pathLock 1 := by
  rw [regCmd_secCtrl h, withBits_bit_other v 1 1 1 0 (by decide) (by decide), h0, withBits_bit_same v 1 1 (by decide)]
  rfl

end
end

/-- Settles O7: each command ends with its operation, in one of the cases above. The challenge is a free value (log entry 1), and a
right response clears the length of the next lockout (log entry 92): the model's readings. -/
theorem unlockCommandsComplete : Obligations.UnlockCommandsComplete := by
  unfold Obligations.UnlockCommandsComplete
  exact ⟨
    fun s hm hl => answers_of_eq rfl (tapChallenge_response hm hl),
    fun s hm hl => answers_of_eq rfl (tapChallenge_passphrase hm hl),
    fun m s h1 h0 => answers_of_eq rfl (tapChallenge_refused h1 h0),
    fun n bs s h => answers_of_eq rfl (tapRespond_noAttempt h n bs),
    fun n bs m ch t s h ht hm h1 h64 => answers_of_eq rfl (tapRespond_late h hm h1 h64 ht),
    fun n bs m ch t s h ht hm h1 h64 =>
      ⟨fun hr => answers_of_eq rfl (tapRespond_right h hm h1 h64 ht hr),
       fun hr => answers_of_eq rfl (tapRespond_wrong h hm h1 h64 ht hr)⟩,
    fun p k s hk h => wrongResponse_counts hk h,
    fun p k s hk h h0 => wrongResponse_locks hk h h0,
    fun p m ch t s h ht => answers_of_eq rfl (attemptExpiry_lapses h ht),
    fun p m ch t s h ht => answers_of_eq rfl (attemptExpiry_stands h ht),
    fun p t s h h0 => answers_of_eq rfl (lockoutEnd_ends h h0),
    fun p s h0 => answers_of_eq rfl (lockoutEnd_lasts h0),
    fun p t k s h hk h0 ht => answers_of_eq rfl (unlockTimeout_locks h hk h0 ht),
    fun p k s hk h0 => answers_of_eq rfl (unlockTimeout_never hk h0),
    fun s h => pathLock_debug h,
    fun s h => pathLock_host h,
    fun p s h => pathLock_locked h,
    fun p v s h1 h => answers_of_eq rfl (regCmd_hostLock h1 h),
    fun p v s h0 h => answers_of_eq rfl (regCmd_dbgLock h0 h)⟩

end Sys2Proof.Machine
end

section
/-!
SUPPORT and settlement. The TAP's instructions, CRS access over the TAP, and GPIO_OUT (R432, R437, R482).
-/

namespace Sys2Proof.Machine

open Sys2Proof

section
variable {s : State}

/-! ### EXTEST (R437) -/

theorem tapExtest_selected (h : s.mode = mBOOT ∨ s.mode = mPARKED ∨ s.mode = mLIMP) :
    s.tapExtest = s.modSec (fun x => { x with tapIr := 0x00, tapOut := s.sec.tapOut }) := if_pos h

theorem tapExtest_bypassed (hb : s.mode ≠ mBOOT) (hp : s.mode ≠ mPARKED) (hl : s.mode ≠ mLIMP) :
    s.tapExtest = s.modSec (fun x => { x with tapIr := 0xFF, tapOut := 0 }) := if_neg (by simp [hb, hp, hl])

/-! ### CRS access (R432) -/

section
variable {a : Nat}

/-- On a locked path a read is answered with the refused code. -/
theorem tapAddress_refused (h : s.pathReads .debug = false) : s.tapAddress a false =
    s.modSec (fun x => { x with tapAddr := a, tapWr := false, tapRes := 2 ^ 33, tapIr := 0x42, tapOut := 0 }) := by
  have locked (g : SecuritySt → SecuritySt) : (s.modSec g).pathReads .debug = false := h
  simp only [State.tapAddress, Bool.false_eq_true, if_false, locked, Bool.not_false, if_true]
  rfl

theorem tapAddress_reads {t : State} {v : Nat} (h : s.pathReads .debug = true)
    (hr : (s.modSec (fun x => { x with tapAddr := a, tapWr := false })).crsRead .debug a 4 = t)
    (ho : t.rdOut = some (.debug, v)) :
    s.tapAddress a false = (t.modSec (fun x => { x with tapRes := v + 2 ^ 32 })).tapSelect 0x42 0 := by
  have served (g : SecuritySt → SecuritySt) : (s.modSec g).pathReads .debug = true := h
  subst hr
  simp only [State.tapAddress, Bool.false_eq_true, if_false, served, Bool.not_true, ho]

end

section
variable {v : Word}

theorem tapData_noWrite (h : s.sec.tapWr = false) :
    s.tapData v = s.modSec (fun x => { x with tapIr := 0x43, tapOut := s.sec.tapRes }) := if_pos (congrArg Bool.not h)

/-- The write that waits is made, and its result is the data, or the refused code on a path that may not write. -/
theorem tapData_write (h : s.sec.tapWr = true) : s.tapData v =
    ((s.tapSelect 0x43 s.sec.tapRes).crsWrite .debug s.sec.tapAddr 4 v).modSec (fun x => { x with
      tapWr := false, tapRes := if s.pathWrites .debug then v.toNat + 2 ^ 32 else 2 ^ 33 }) :=
  if_neg (by simp [h])

theorem tapData_taken (h : s.sec.tapWr = true) (hw : s.pathWrites .debug = true) : s.tapData v =
    ((s.modSec (fun x => { x with tapIr := 0x43, tapOut := s.sec.tapRes })).crsWrite .debug s.sec.tapAddr 4 v).modSec
      (fun x => { x with tapWr := false, tapRes := v.toNat + 2 ^ 32 }) := by
  rw [tapData_write h, hw]
  rfl

/-- A write that changes no register leaves the refused code. -/
theorem tapData_refused (h : s.sec.tapWr = true) (hw : s.pathWrites .debug = false)
    (hn : (s.tapSelect 0x43 s.sec.tapRes).crsWrite .debug s.sec.tapAddr 4 v = s.tapSelect 0x43 s.sec.tapRes) : s.tapData v =
      s.modSec (fun x => { x with tapIr := 0x43, tapOut := s.sec.tapRes, tapWr := false, tapRes := 2 ^ 33 }) := by
  rw [tapData_write h, hw, hn]
  rfl

/-- A path that may not read may not write. -/
theorem pathWrites_debug_locked (h : s.pathReads .debug = false) : s.pathWrites .debug = false := by
  simp only [State.pathReads] at h
  simp [State.pathWrites, h]

theorem tapData_locked (h : s.sec.tapWr = true) (hr : s.pathReads .debug = false) : s.tapData v =
    s.modSec (fun x => { x with tapIr := 0x43, tapOut := s.sec.tapRes, tapWr := false, tapRes := 2 ^ 33 }) :=
  tapData_refused h (pathWrites_debug_locked hr) (crsWrite_locked _ _ _ _ _ hr)

theorem tapData_denied (h : s.sec.tapWr = true) (hw : s.pathWrites .debug = false) (hg : s.gated s.sec.tapAddr = false)
    (hs : s.silent s.sec.tapAddr = false) : s.tapData v =
      s.modSec (fun x => { x with tapIr := 0x43, tapOut := s.sec.tapRes, tapWr := false, tapRes := 2 ^ 33 }) :=
  tapData_refused h hw (crsWrite_denied _ _ _ _ _ hg hs (.inr (.inr hw)))

/-! ### GPIO_OUT (R482) -/

theorem regCmd_gpioOut {p : Path} (h : s.takes p R.A_SYS_GPIO_OUT v = true) :
    s.regCmd p R.A_SYS_GPIO_OUT v = s.storeReg p R.A_SYS_GPIO_OUT v := by
  have hook (t : State) (old w : Nat) : t.afterWrite R.A_SYS_GPIO_OUT old w = t := rfl
  rw [regCmd_plain s p R.A_SYS_GPIO_OUT _ h rfl (by decide) (by decide) (by decide) (by decide) (by decide) (by decide), hook]

end
end

/-- Settles O8: each instruction ends with its operation, in one of the cases above. The result that a write itself returns is
the model's choice (log entry 93). -/
theorem tapCommandsComplete : Obligations.TapCommandsComplete := by
  unfold Obligations.TapCommandsComplete
  exact ⟨
    fun s h => answers_of_eq rfl (tapExtest_selected h),
    fun s hb hp hl => answers_of_eq rfl (tapExtest_bypassed hb hp hl),
    fun s => answers_of_eq rfl rfl,
    fun s => answers_of_eq rfl rfl,
    fun s => answers_of_eq rfl rfl,
    fun s => answers_of_eq rfl rfl,
    fun a s => answers_of_eq rfl rfl,
    fun a s h => answers_of_eq rfl (tapAddress_refused h),
    fun a t v s h hr ho => answers_of_eq rfl (tapAddress_reads h hr ho),
    fun v s h => answers_of_eq rfl (tapData_noWrite h),
    fun v s h hr => answers_of_eq rfl (tapData_locked h hr),
    fun v s h hr hw hg hs => answers_of_eq rfl (tapData_denied h hw hg hs),
    fun v s h hw => answers_of_eq rfl (tapData_taken h hw),
    fun p v s h => answers_of_eq rfl (regCmd_gpioOut h)⟩

end Sys2Proof.Machine
end

section
/-!
SUPPORT and settlement. Fault masks and status clears, ATTN_N's release, containment, the watchdog and the core pairs (R386,
R391, R393 to R400).
-/

namespace Sys2Proof.Machine

open Sys2Proof

section
variable {s : State}

/-! ### Writes of mask and status registers (R386, R400) -/

section
variable {p : Path} {a : Nat} {v : Word} {r : FltReg}

/-- A write that a mask register takes is stored, and newly unmasked sources act. -/
theorem maskCmd_takes (ha : a % 4 = 0) (h : s.takes p a v = true) (ht : taskWindow a = none) (hd : (regAt a).isSome = true)
    (h1 : fltOfStat a = none) (h2 : fltOfMask a = some r) : s.maskCmd p a v =
      (s.storeReg p a v).maskWrite r (s.rd a).toNat ((s.storeReg p a v).rd a).toNat := by
  obtain ⟨d, hd⟩ := Option.isSome_iff_exists.mp hd
  refine (if_pos (by simp [h2])).trans ((crsWrite_takes s p a v d h ha ht hd (fltOfMask_noArray h2)).trans ?_)
  simp only [State.regWrite, h1, h2, State.storeReg, hd]

theorem maskCmd_elsewhere (h : fltOfMask a = none) (p : Path) (v : Word) : s.maskCmd p a v = s := if_neg (by simp [h])

/-- A write that a status register takes clears the bits whose cause has gone. -/
theorem statCmd_takes (ha : a % 4 = 0) (h : s.takes p a v = true) (ht : taskWindow a = none) (hd : (regAt a).isSome = true)
    (h1 : fltOfStat a = some r) : s.statCmd p a v =
      (s.clearFault r (v.toNat % 2 ^ r.srcBits) (s.causes r)).afterClear r v.toNat := by
  obtain ⟨d, hd⟩ := Option.isSome_iff_exists.mp hd
  refine (if_pos (by simp [h1])).trans ((crsWrite_takes s p a v d h ha ht hd (fltOfStat_noArray h1)).trans ?_)
  simp only [State.regWrite, h1, State.statusClear]

theorem statCmd_elsewhere (h : fltOfStat a = none) (p : Path) (v : Word) : s.statCmd p a v = s := if_neg (by simp [h])

end

/-! ### ATTN_N's release (R391) -/

section
variable {t : Nat} (h : s.flt.attnAt = some t)
include h

theorem attnRelease_releases (ht : t + 10000 ≤ s.now) (hc : s.attnCond = false) :
    s.attnRelease = (s.modFlt (fun f => { f with attnAt := none })).set R.FLT_ATTN_LEVEL_PIN 0 := by
  simp only [State.attnRelease, h]
  exact if_pos ⟨passed_of_le ht, congrArg Bool.not hc⟩

theorem attnRelease_holds (hw : s.now < t + 10000 ∨ s.attnCond = true) : s.attnRelease = s := by
  simp only [State.attnRelease, h]
  refine if_neg fun hp => ?_
  rcases hw with hw | hw
  · simp [passed_of_lt hw] at hp
  · simp [hw] at hp

end

/-! ### Containment (R393, R395) -/

theorem regCmd_contain {p : Path} {v : Word} {u : CUnit} (hu : containUnit (v.toNat % 256) (v.toNat / 256 % 256) = some u)
    (h : s.takes p R.A_FLT_CONTAIN v = true) : s.regCmd p R.A_FLT_CONTAIN v = (s.storeReg p R.A_FLT_CONTAIN v).contain u := by
  have hook (t : State) (old w : Nat) : t.afterWrite R.A_FLT_CONTAIN old w = t.containRequest w := rfl
  rw [regCmd_plain s p R.A_FLT_CONTAIN _ h rfl (by decide) (by decide) (by decide) (by decide) (by decide) (by decide), hook]
  simp only [State.containRequest, hu]

section
variable {u : CUnit} {t : Nat}

theorem containEnd_lasts (h : s.flt.resets = [(u, t)]) (ht : s.now < t + 20000) : s.containEnd u = s := by
  simp only [State.containEnd, h, List.find?_cons, decide_true]
  exact if_pos (by simp [passed_of_lt ht])

/-- A decoder whose one reset ends is back in service, and its lost work runs again. -/
theorem containEnd_decoder {n : Nat} (h : s.flt.resets = [(.dec n, t)]) (ha : s.flt.resetAgain = []) (ht : t + 20000 ≤ s.now) :
    s.containEnd (.dec n) =
      ((s.modFlt (fun f => { f with resets := [], resetAgain := [] })).snapReturn (some (.dec n)) 0).runLost (.dec n) := by
  have ended : s.modFlt (fun f => { f with
      resets := f.resets.filter (fun e => !decide (e.1 = .dec n))
      resetAgain := f.resetAgain.filter (fun x => !decide (x = .dec n)) }) =
      s.modFlt (fun f => { f with resets := [], resetAgain := [] }) := by
    simp [State.modFlt, h, ha]
  simp only [State.containEnd, ended]
  simp only [h, ha, List.find?_cons, decide_true, State.unitRestart]
  exact if_neg (by simp [passed_of_le ht])

end

/-! ### The watchdog and the core pairs (R397 to R399) -/

section
variable {p : Nat}

theorem mismatch_active (hg : s.sys.powerGood = true) (hp : p = s.activePair) :
    s.mismatch p = (s.fault .flt 3).switchover := (if_neg (by simp [hg])).trans (if_pos hp)

theorem mismatch_standby (hg : s.sys.powerGood = true) (hp : p ≠ s.activePair) (h1 : s.get (pairFld p) = 1) :
    s.mismatch p = (s.set (pairFld p) 3).fault .flt 1 :=
  (if_neg (by simp [hg])).trans ((if_neg hp).trans (if_pos h1))

theorem pairTested_passes (h : s.get (pairFld p) = 2) : s.pairTested p true = s.set (pairFld p) 1 :=
  (if_neg (by simp [h])).trans (if_pos rfl)

theorem pairTested_fails (h : s.get (pairFld p) = 2) : s.pairTested p false = (s.set (pairFld p) 3).fault .flt 1 :=
  (if_neg (by simp [h])).trans (if_neg (by decide))

theorem pairTested_notTesting (h : s.get (pairFld p) ≠ 2) (pass : Bool) : s.pairTested p pass = s := if_pos h

end

theorem watchdog_expires (hg : s.sys.powerGood = true) (hs : s.flt.safeStop = false)
    (ht : s.flt.wdogAt + s.get R.FLT_CFG_WDOG_T * 1000 ≤ s.now) : s.watchdog = (s.fault .flt 2).switchover :=
  if_pos ⟨hg, congrArg Bool.not hs, passed_of_le ht⟩

theorem watchdog_served (ht : s.now < s.flt.wdogAt + s.get R.FLT_CFG_WDOG_T * 1000) : s.watchdog = s :=
  if_neg (by simp [passed_of_lt ht])

/-- Only the control cores' writes reach FLT_WDOG. -/
theorem writeBarred_wdog (p : Path) (v : Nat) : s.writeBarred p R.A_FLT_WDOG v = !decide (p = .core) := rfl

theorem regCmd_wdog {p : Path} {v : Word} (h : s.takes p R.A_FLT_WDOG v = true) :
    s.regCmd p R.A_FLT_WDOG v = (s.storeReg .core R.A_FLT_WDOG v).modFlt (fun f => { f with wdogAt := s.now }) := by
  obtain rfl : p = .core := by
    simp only [State.takes, writeBarred_wdog, Bool.and_eq_true, Bool.not_not, decide_eq_true_eq] at h
    exact h.2
  have hook (t : State) (old w : Nat) : t.afterWrite R.A_FLT_WDOG old w = t.modFlt (fun f => { f with wdogAt := t.now }) := rfl
  rw [regCmd_plain s .core R.A_FLT_WDOG _ h rfl (by decide) (by decide) (by decide) (by decide) (by decide) (by decide), hook]
  rfl

theorem regCmd_wdog_barred {p : Path} (h : p ≠ .core) (v : Word) : s.regCmd p R.A_FLT_WDOG v = s :=
  crsWrite_barred s p _ v rfl rfl (by decide) (.inl (by simp [writeBarred_wdog, h]))

theorem switchDone_idle (h : s.flt.switching = none) : s.switchDone =
    s.flt.held.foldl (fun (t : State) a => t.actHigh a) (s.modFlt (fun f => { f with held := [] })) := by
  simp only [State.switchDone, State.reconcile, h]

/-- Reconciliation ends the switchover. -/
theorem switchDone_reconciles {t : Nat} (h : s.flt.switching = some t) (hh : s.flt.held = []) : s.switchDone =
    ((s.discardSome.modFlt (fun f => { f with switching := none })).snapReturn none 0).modFlt
      (fun f => { f with held := [] }) := by
  simp only [State.switchDone, State.reconcile, h, hh, List.foldl_nil]

end

/-- Settles O4: each command ends with its operation, in one of the cases above. Which commands a switchover discards is a free
choice of the model (log entry 44). -/
theorem faultCommandsComplete : Obligations.FaultCommandsComplete := by
  unfold Obligations.FaultCommandsComplete
  exact ⟨
    fun p a v r s ha h ht hd h1 h2 => answers_of_eq rfl (maskCmd_takes ha h ht hd h1 h2),
    fun p a v s h => answers_of_eq rfl (maskCmd_elsewhere h p v),
    fun p a v r s ha h ht hd h1 => answers_of_eq rfl (statCmd_takes ha h ht hd h1),
    fun p a v s h => answers_of_eq rfl (statCmd_elsewhere h p v),
    fun t s h ht hc => answers_of_eq rfl (attnRelease_releases h ht hc),
    fun t s h hw => answers_of_eq rfl (attnRelease_holds h hw),
    fun p v u s hu h => answers_of_eq rfl (regCmd_contain hu h),
    fun u t s h ha ht => answers_of_eq rfl (containEnd_lasts h ht),
    fun n t s h ha ht => answers_of_eq rfl (containEnd_decoder h ha ht),
    fun p s hg hp => answers_of_eq rfl (mismatch_active hg hp),
    fun p s hg hp h1 => answers_of_eq rfl (mismatch_standby hg hp h1),
    fun s hg hs ht => answers_of_eq rfl (watchdog_expires hg hs ht),
    fun s ht => answers_of_eq rfl (watchdog_served ht),
    fun p v s h => answers_of_eq rfl (regCmd_wdog h),
    fun p v s h => answers_of_eq rfl (regCmd_wdog_barred h v),
    fun s h => answers_of_eq rfl (switchDone_idle h),
    fun t s h hh => answers_of_eq rfl (switchDone_reconciles h hh),
    fun p s h => answers_of_eq rfl (pairTested_passes h),
    fun p s h => answers_of_eq rfl (pairTested_fails h),
    fun p pass s h => answers_of_eq rfl (pairTested_notTesting h pass)⟩

end Sys2Proof.Machine
end

section
/-!
SUPPORT and settlement. The Ledger (chapter 17): raises by firmware, programs and erases, the BOOT scan, the timers, and the
SMBus readout.
-/

namespace Sys2Proof.Machine

open Sys2Proof

section
variable {s : State}

/-! ### Raises by firmware (R420) -/

section
variable {p : Path} {v : Word}

theorem regCmd_ldgRaise (h : s.takes p R.A_LDG_RAISE v = true) : s.regCmd p R.A_LDG_RAISE v =
    (s.storeReg p R.A_LDG_RAISE v).ldgRaise (v.toNat % 65536)
      ((s.storeReg p R.A_LDG_RAISE v).raisePayload (bitsOf v.toNat 24 5)) := by
  have hook (t : State) (old w : Nat) : t.afterWrite R.A_LDG_RAISE old w =
    t.ldgRaise (w % 65536) (t.raisePayload (bitsOf w 24 5)) := rfl
  rw [regCmd_plain s p R.A_LDG_RAISE _ h rfl (by decide) (by decide) (by decide) (by decide) (by decide) (by decide), hook]

/-- A raise of a code that is no maker's is the control cores' alone. -/
theorem regCmd_ldgRaise_barred (hp : p ≠ .core) (hm : ¬(0x1F0 ≤ v.toNat % 65536 ∧ v.toNat % 65536 ≤ 0x1FF)) :
    s.regCmd p R.A_LDG_RAISE v = s := by
  have barred : s.writeBarred p R.A_LDG_RAISE v.toNat =
    if decide (0x1F0 ≤ v.toNat % 65536) && decide (v.toNat % 65536 ≤ 0x1FF)
    then !(s.mode == mWORKSHOP && s.pathUnlocked p) else !decide (p = .core) := rfl
  refine crsWrite_barred s p _ v rfl rfl (by decide) (.inl (barred.trans ?_))
  rw [if_neg (by simpa using hm)]
  simpa using hp

end

/-! ### Programs and erases (R408, R411, Table 17-5) -/

section
variable {j : LdgJob}

theorem ldgProgramDone_idle (h : s.ldg.job = none) : s.ldgProgramDone = s := by simp only [State.ldgProgramDone, h]

theorem ldgProgramFail_idle (h : s.ldg.job = none) : s.ldgProgramFail = s := by simp only [State.ldgProgramFail, h]

section
variable (h : s.ldg.job = some j)
include h

theorem ldgProgramDone_record {r : LdgRec} (h2 : j.second = true) (hw : j.what = .record r) : s.ldgProgramDone =
    ((({ s with nor := norProgram s.nor j.addr [0x30], ldg := { s.ldg with job := none } } :
      State).set R.LDG_RSEQ_RSEQ (s.get R.LDG_RSEQ_RSEQ + 1)).ldgKick) := by
  simp only [State.ldgProgramDone, h, hw]
  exact if_neg (by simp [h2])

/-- A finished header opens its sector, and the next one is erased. -/
theorem ldgProgramDone_header {k : Nat} (h2 : j.second = true) (hw : j.what = .header k) : s.ldgProgramDone =
    ((((({ s with nor := norProgram s.nor j.addr [0x30], ldg := { s.ldg with job := none, opened := true, sseq := s.ldg.sseq + 1 } }
      : State).set R.LDG_STAT_SECT k).set R.LDG_PTR_OFS (k * 65536 + 0x100)).ldgErase ((k + 1) % 128)).ldgKick) := by
  simp only [State.ldgProgramDone, h, hw]
  exact if_neg (by simp [h2])

/-- A sector whose header has failed twice is left, and the next one is erased. -/
theorem ldgProgramFail_header {k : Nat} (hw : j.what = .header k) (hr : j.retry = true) : s.ldgProgramFail =
    (((({ s with
      free := s.free + 1
      nor := norProgram s.nor j.addr ((if j.second then [(0x30 : Byte)] else j.bytes).zipIdx.map (fun e =>
        e.1 ||| BitVec.ofNat 8 (Config.freeNat s.free / 256 ^ e.2)))
      ldg := { s.ldg with job := none } } : State).fault .ldg 0).ldgErase ((k + 1) % 128)).ldgRest) := by
  simp only [State.ldgProgramFail, h, hw]
  exact if_pos hr

/-- A record that has failed twice is dropped. -/
theorem ldgProgramFail_record {r : LdgRec} (hw : j.what = .record r) (hr : j.retry = true) : s.ldgProgramFail =
    (((({ s with
      free := s.free + 1
      nor := norProgram s.nor j.addr ((if j.second then [(0x30 : Byte)] else j.bytes).zipIdx.map (fun e =>
        e.1 ||| BitVec.ofNat 8 (Config.freeNat s.free / 256 ^ e.2)))
      ldg := { s.ldg with job := none } } : State).fault .ldg 0).ldgDrop).ldgKick) := by
  simp only [State.ldgProgramFail, h, hw]
  exact if_pos hr

end

theorem ldgEraseDone_idle (h : s.ldg.erasing = none) (ok : Bool) : s.ldgEraseDone ok = s := by
  simp only [State.ldgEraseDone, h]

section
variable {k : Nat} (h : s.ldg.erasing = some k)
include h

theorem ldgEraseDone_duringJob (hj : s.ldg.job = some j) : s.ldgEraseDone true = { s with
    nor := norErase s.nor (norRolling + k * 65536) 65536, ldg := { s.ldg with erasing := none, ahead := some k } } := by
  have busy : s.ldg.job.isSome = true := congrArg Option.isSome hj
  simp only [State.ldgEraseDone, h]
  exact (if_pos trivial).trans (if_pos busy)

theorem ldgEraseDone_free (hj : s.ldg.job = none) : s.ldgEraseDone true =
    (({ s with
      nor := norErase s.nor (norRolling + k * 65536) 65536
      ldg := { s.ldg with erasing := none, ahead := some k } } : State).ldgRest.ldgKick) := by
  simp only [State.ldgEraseDone, h]
  exact (if_pos trivial).trans (if_neg (ne_true_of_eq_false (congrArg Option.isSome hj)))

theorem ldgEraseDone_fails : s.ldgEraseDone false =
    ((({ s with
      free := s.free + 1
      nor := norProgram (norErase s.nor (norRolling + k * 65536) 1) (norRolling + k * 65536)
        [if Config.freeNat s.free % 256 = 48 then 0 else BitVec.ofNat 8 (Config.freeNat s.free)]
      ldg := { s.ldg with erasing := none } } : State).fault .ldg 0).ldgErase ((k + 1) % 128)) := by
  simp only [State.ldgEraseDone, h]
  exact if_neg (by decide)

end
end

end

/-! ### What the scan fixes, and what recording leaves of it (R409, R412) -/

/-- What the BOOT scan fixes: the operating-time base, whether a Rolling sector is open, the erased sector ahead, the next RSEQ
and PCYC. -/
structure ScanView where
  optBase : Nat
  opened : Bool
  ahead : Option Nat
  rseq : Nat
  pcyc : Nat

def State.scanView (s : State) : ScanView :=
  ⟨s.ldg.optBase, s.ldg.opened, s.ldg.ahead, s.get R.LDG_RSEQ_RSEQ, s.get R.LDG_PCYC_PCYC⟩

section
variable {s t : State}

/-- The scan's results stand where the recorder and the two registers do. -/
theorem scanView_of_eq (hl : t.ldg = s.ldg) (hr : t.rd R.A_LDG_RSEQ = s.rd R.A_LDG_RSEQ)
    (hp : t.rd R.A_LDG_PCYC = s.rd R.A_LDG_PCYC) : t.scanView = s.scanView := by
  have rseq : t.get R.LDG_RSEQ_RSEQ = s.get R.LDG_RSEQ_RSEQ := congrArg (fun w : Word => bitsOf w.toNat 0 32) hr
  have pcyc : t.get R.LDG_PCYC_PCYC = s.get R.LDG_PCYC_PCYC := congrArg (fun w : Word => bitsOf w.toNat 0 32) hp
  rw [State.scanView, hl, rseq, pcyc, State.scanView]

theorem set_scanView {f : Fld} (x : Nat) (hr : R.A_LDG_RSEQ ≠ f.addr) (hp : R.A_LDG_PCYC ≠ f.addr) :
    (s.set f x).scanView = s.scanView :=
  scanView_of_eq (State.set_ldg s f x) (rd_set_ne s f x hr) (rd_set_ne s f x hp)

theorem attnAssert_ldg : s.attnAssert.ldg = s.ldg := by
  unfold State.attnAssert
  split
  · rfl
  · rw [State.set_ldg]

theorem riseSrcs_ldg (r : FltReg) (bits : List Nat) : (s.riseSrcs r bits).ldg = s.ldg := by
  cases bits with
  | nil => rfl
  | cons b bs =>
    dsimp only [State.riseSrcs]
    split
    · rw [attnAssert_ldg]
    · rfl

theorem fault_ldg (r : FltReg) (b : Nat) : (s.fault r b).ldg = s.ldg := by
  rw [State.fault, setFault_eq, riseSrcs_ldg, State.wr_ldg]

theorem ldgFault_scanView (b : Nat) : (s.fault .ldg b).scanView = s.scanView :=
  scanView_of_eq (fault_ldg _ b) (rd_setFault_ne s .ldg _ (by decide) (by decide))
    (rd_setFault_ne s .ldg _ (by decide) (by decide))

/-- A change of the recorder alone shows by its three fields. -/
theorem setLdg_scanView (l : LdgSt) : ({ s with ldg := l } : State).scanView =
    { s.scanView with optBase := l.optBase, opened := l.opened, ahead := l.ahead } := rfl

theorem ldgCount_scanView : s.ldgCount.scanView = s.scanView := set_scanView _ (by decide) (by decide)

theorem ldgRest_scanView : s.ldgRest.scanView = s.scanView := set_scanView _ (by decide) (by decide)

theorem ldgDrop_scanView : s.ldgDrop.scanView = s.scanView := by
  have counted : (s.bump R.LDG_DROP_COUNT 1).scanView = s.scanView := set_scanView _ (by decide) (by decide)
  rw [State.ldgDrop, ldgFault_scanView, setLdg_scanView, ← counted]
  rfl

theorem ldgQueue_scanView (r : LdgRec) (front : Bool) : (s.ldgQueue r front).scanView = s.scanView := by
  unfold State.ldgQueue
  split
  · rw [ldgCount_scanView, setLdg_scanView]
    rfl
  · split
    · exact ldgDrop_scanView
    · rw [ldgCount_scanView, setLdg_scanView]
      rfl

theorem ldgProgram_scanView (r : LdgRec) (a flags : Nat) (retry : Bool) :
    (s.ldgProgram r a flags retry).scanView = s.scanView := by
  rw [State.ldgProgram, set_scanView _ (by decide) (by decide), setLdg_scanView]
  rfl

theorem ldgHeader_scanView (k : Nat) (retry : Bool) : (s.ldgHeader k retry).scanView = s.scanView := by
  rw [State.ldgHeader, set_scanView _ (by decide) (by decide), setLdg_scanView]
  rfl

theorem ldgRoll_scanView (r : LdgRec) (spilled retry : Bool) : (s.ldgRoll r spilled retry).scanView = s.scanView := by
  dsimp only [State.ldgRoll]
  split
  · rw [ldgProgram_scanView, set_scanView _ (by decide) (by decide)]
  · split
    · rw [ldgCount_scanView, ldgHeader_scanView, setLdg_scanView]
      rfl
    · rw [ldgRest_scanView, ldgCount_scanView, setLdg_scanView]
      rfl

theorem setFptr_scanView (p : Nat) : (s.setFptr p).scanView = s.scanView := by
  rw [State.setFptr, State.setFlag, set_scanView _ (by decide) (by decide), set_scanView _ (by decide) (by decide)]

theorem ldgPlace_scanView (r : LdgRec) (retry : Bool) : (s.ldgPlace r retry).scanView = s.scanView := by
  dsimp only [State.ldgPlace]
  split
  · split
    · rw [ldgProgram_scanView, setFptr_scanView]
    · rw [ldgRoll_scanView, ldgFault_scanView, State.setFlag, set_scanView _ (by decide) (by decide)]
  · exact ldgRoll_scanView _ _ _

theorem ldgLost_scanView : s.ldgLost.scanView = s.scanView := by
  dsimp only [State.ldgLost]
  split
  · rw [ldgQueue_scanView, setLdg_scanView]
    rfl
  · rfl

/-- Taking the next record leaves what the scan fixed. -/
theorem ldgKick_scanView : s.ldgKick.scanView = s.scanView := by
  unfold State.ldgKick
  split
  · rfl
  · split
    · rfl
    · split
      · exact ldgRest_scanView
      · rw [ldgPlace_scanView, ldgLost_scanView, ldgCount_scanView, setLdg_scanView]
        rfl

/-- Raising a record leaves what the scan fixed. -/
theorem ldgRaise_scanView (code : Nat) (payload : List Byte) : (s.ldgRaise code payload).scanView = s.scanView := by
  dsimp only [State.ldgRaise]
  split
  · exact ldgDrop_scanView
  · split
    · rw [ldgKick_scanView, ldgQueue_scanView]
    · split
      · rw [ldgKick_scanView, ldgQueue_scanView, setLdg_scanView]
        rfl
      · rw [setLdg_scanView]
        rfl

theorem ldgErase_scanView (k : Nat) : (s.ldgErase k).scanView = { s.scanView with ahead := none } := by
  dsimp only [State.ldgErase]
  split
  · rw [set_scanView _ (by decide) (by decide), setLdg_scanView]
    rfl
  · rw [setLdg_scanView]
    rfl

/-! ### The scan's end (R412) -/

theorem ldgScanDone_running (h : s.get R.LDG_STAT_STATE ≠ 0) : s.ldgScanDone = s := if_pos h

/-- The next RSEQ, PCYC and the operating-time base that the newest record found gives. -/
def afterNewest : Option (Nat × Nat × Nat) → Nat × Nat × Nat
  | some (a, b, c) => (a + 1, b + 1, c)
  | none => (1, 1, 0)

/-- The numbers that the scan writes. -/
theorem numbered_scanView (r p q : Nat) : (((s.set R.LDG_RSEQ_RSEQ r).set R.LDG_PCYC_PCYC p).setFptr q).scanView =
    { s.scanView with rseq := r % 2 ^ 32, pcyc := p % 2 ^ 32 } := by
  have rseq : ((s.set R.LDG_RSEQ_RSEQ r).set R.LDG_PCYC_PCYC p).get R.LDG_RSEQ_RSEQ = r % 2 ^ 32 :=
    (get_set_ne _ _ _ _ (by decide)).trans (get_set_same _ _ _ (by decide) (by decide))
  have pcyc : ((s.set R.LDG_RSEQ_RSEQ r).set R.LDG_PCYC_PCYC p).get R.LDG_PCYC_PCYC = p % 2 ^ 32 :=
    get_set_same _ _ _ (by decide) (by decide)
  rw [setFptr_scanView, State.scanView, rseq, pcyc, State.set_ldg, State.set_ldg, State.scanView]

/-- The scan's numbers are written, with no Rolling sector open. -/
def State.scanNumbers (s : State) (n : Nat × Nat × Nat) : State :=
  let s2 := ((s.set R.LDG_RSEQ_RSEQ n.1).set R.LDG_PCYC_PCYC n.2.1).setFptr (s.afterLast norFounding 0x100000)
  { s2 with ldg := { s2.ldg with opened := false, sseq := 0, optBase := n.2.2 } }

/-- Recording begins: the first Rolling sector is ahead where the scan found it erased, else it is erased. -/
def State.scanAhead (s t : State) : State :=
  let s5 := t.set R.LDG_STAT_STATE 1
  if s.norBlank norRolling 65536 then { s5 with ldg := { s5.ldg with ahead := some 0, erasing := none } } else s5.ldgErase 0

/-- Unfinished records set their source, and the power-up record is raised. -/
def State.scanTold (t : State) (left : Nat) : State :=
  let s7 := if left = 0 then t else t.fault .ldg 3
  let pl := leBytes 4 (s7.rd R.A_SYS_ID).toNat ++ leBytes 4 (s7.get R.SEC_FW_VER_VERSION)
    ++ leBytes 4 (s7.get R.SEC_MANIFEST_ID_ID) ++ leBytes 2 left ++ [BitVec.ofNat 8 (s7.get R.FLT_CORE_STAT_ACTIVE)]
  (s7.ldgRaise 0x0001 pl).ldgKick

theorem ldgScanDone_eq (h : s.get R.LDG_STAT_STATE = 0) (hs : s.openSectors = []) : s.ldgScanDone =
    (s.scanAhead (s.scanNumbers (afterNewest (newestRec (s.scanArea 40960 norFounding (norFounding + 0x100000)))))).scanTold
      (tailUnfinished (s.scanArea 40960 norFounding (norFounding + 0x100000))) := by
  unfold State.ldgScanDone
  rw [if_neg (by simp [h])]
  simp only [hs, List.map_nil, List.flatten_nil, List.append_nil]
  generalize s.scanArea 40960 norFounding (norFounding + 0x100000) = found
  cases newestRec found <;> rfl

theorem scanNumbers_scanView (n : Nat × Nat × Nat) :
    (s.scanNumbers n).scanView = ⟨n.2.2, false, s.ldg.ahead, n.1 % 2 ^ 32, n.2.1 % 2 ^ 32⟩ := by
  have ahead : (((s.set R.LDG_RSEQ_RSEQ n.1).set R.LDG_PCYC_PCYC n.2.1).setFptr (s.afterLast norFounding 0x100000)).ldg.ahead =
      s.ldg.ahead := congrArg ScanView.ahead (numbered_scanView n.1 n.2.1 _)
  rw [State.scanNumbers, setLdg_scanView, numbered_scanView, ahead]

theorem scanAhead_scanView : (s.scanAhead t).scanView =
    { t.scanView with ahead := if s.norBlank norRolling 65536 then some 0 else none } := by
  have begun : (t.set R.LDG_STAT_STATE 1).scanView = t.scanView := set_scanView _ (by decide) (by decide)
  dsimp only [State.scanAhead]
  split
  · rw [setLdg_scanView, ← begun]
    rfl
  · rw [ldgErase_scanView, begun]

theorem scanTold_scanView (left : Nat) : (s.scanTold left).scanView = s.scanView := by
  rw [State.scanTold, ldgKick_scanView, ldgRaise_scanView]
  split
  · rfl
  · exact ldgFault_scanView 3

/-- A scan that meets no Rolling sector opens none; the newest Founding record gives the numbers. -/
theorem ldgScanDone_noSector (h : s.get R.LDG_STAT_STATE = 0) (hs : s.openSectors = []) {o : Option (Nat × Nat × Nat)}
    (hn : newestRec (s.scanArea 40960 norFounding (norFounding + 0x100000)) = o) : s.ldgScanDone.scanView =
      ⟨(afterNewest o).2.2, false, if s.norBlank norRolling 65536 then some 0 else none,
        (afterNewest o).1 % 2 ^ 32, (afterNewest o).2.1 % 2 ^ 32⟩ := by
  rw [ldgScanDone_eq h hs, scanTold_scanView, scanAhead_scanView, scanNumbers_scanView, hn]

/-! ### The scan of an empty NOR -/

section
variable (h : s.nor = [])
include h

theorem norByte_empty (a : Nat) : s.norByte a = 0xFF := by
  rw [State.norByte, h]
  rfl

theorem norBlank_empty (a n : Nat) : s.norBlank a n = true := by
  rw [State.norBlank, h]
  rfl

theorem openSectors_empty : s.openSectors = [] :=
  List.filterMap_eq_nil_iff.2 fun k _ => if_neg fun hk => absurd (norByte_empty h _ ▸ hk.1) (by decide)

/-- The scan of an area ends at its first blank page. -/
theorem scanArea_empty (fuel e : Nat) {p : Nat} (hp : p % 256 = 0) : s.scanArea fuel p e = [] := by
  cases fuel with
  | zero => rfl
  | succ fuel =>
    rw [State.scanArea]
    split
    · rfl
    · exact if_pos ⟨hp, norBlank_empty h p 256⟩

/-- On an empty NOR numbering begins at 1. -/
theorem ldgScanDone_empty (h0 : s.get R.LDG_STAT_STATE = 0) : s.ldgScanDone.scanView = ⟨0, false, some 0, 1, 1⟩ := by
  rw [ldgScanDone_noSector h0 (openSectors_empty h) (o := none) (by rw [scanArea_empty h _ _ (by decide)]; rfl),
    norBlank_empty h]
  rfl

end

/-! ### The timers (R409, R413) -/

theorem ldgHours_due (h : s.ldg.lastHours + 600000000000 ≤ s.now) : s.ldgHours =
    ({ s with ldg := { s.ldg with lastHours := s.ldg.lastHours + 600000000000 } } : State).ldgRaise 0x0007 [] :=
  if_pos (passed_of_le h)

theorem ldgHours_early (h : s.now < s.ldg.lastHours + 600000000000) : s.ldgHours = s := if_neg (by simp [passed_of_lt h])

theorem ldgSummary_due (h : s.ldg.lastSummary + 3600000000000 ≤ s.now) : s.ldgSummary =
    (summaryChunks 1200 s.ldg.supp).foldl (fun (t : State) pl => t.ldgRaise 0x0004 pl)
      { s with ldg := { s.ldg with lastSummary := s.ldg.lastSummary + 3600000000000, supp := [] } } := if_pos (passed_of_le h)

theorem ldgSummary_early (h : s.now < s.ldg.lastSummary + 3600000000000) : s.ldgSummary = s :=
  if_neg (by simp [passed_of_lt h])

theorem ldgRefill_due (h : s.ldg.lastRefill + s.get R.LDG_RATE_REFILL * 1000000000 ≤ s.now) : s.ldgRefill =
    { s with ldg := { s.ldg with
      lastRefill := s.ldg.lastRefill + s.get R.LDG_RATE_REFILL * 1000000000
      spent := (s.ldg.spent.map (fun e => (e.1, e.2 - 1))).filter (fun e => e.2 != 0) } } := if_pos (passed_of_le h)

theorem ldgRefill_early (h : s.now < s.ldg.lastRefill + s.get R.LDG_RATE_REFILL * 1000000000) : s.ldgRefill = s :=
  if_neg (by simp [passed_of_lt h])

/-! ### The SMBus readout (R314, R418) -/

/-- With the PEC a read is answered with its bytes and their number. -/
theorem smbAnswer_pec (bs : List Byte) :
    s.smbAnswer true bs = s.modHif (fun h => { h with smb := BitVec.ofNat 8 bs.length :: bs }) :=
  if_neg (by simp)

section
variable (h : s.smbOn = false)
include h

theorem smbLedger_off (pec : Bool) : s.smbLedger pec = s := if_pos (congrArg Bool.not h)

theorem smbRead_off (code : Nat) (pec : Bool) : s.smbRead code pec = s := if_pos (congrArg Bool.not h)

end

section
variable (h : s.smbOn = true)
include h

theorem smbLedger_reads : s.smbLedger true = { (s.modHif (fun h => { h with smb := 32 :: s.ldgReadout s.ldg.smbOfs 32 })) with
    ldg := { s.ldg with smbOfs := s.ldg.smbOfs + 32 } } := by
  have len : (s.ldgReadout s.ldg.smbOfs 32).length = 32 := (List.length_map _).trans List.length_range
  refine (if_neg (by simp [h])).trans ?_
  dsimp only
  rw [smbAnswer_pec, len]
  rfl

theorem smbStatus_reads : s.smbStatus true = s.modHif (fun h => { h with smb := 12 :: (beBytes 4 (s.get R.LDG_RSEQ_RSEQ) ++
    beBytes 4 (s.get R.LDG_PCYC_PCYC) ++ beBytes 4 (s.get R.LDG_PTR_OFS)) }) :=
  (if_neg (by simp [h])).trans (smbAnswer_pec _)

theorem smbOffset_takes {bs : List Byte} (hl : bs.length = 3) (hb : ofBeBytes bs < 9437184) :
    s.smbOffset bs true = { s with ldg := { s.ldg with smbOfs := ofBeBytes bs } } := by
  simp [State.smbOffset, h, hl, Nat.not_le.2 hb]

theorem smbOffset_refused {bs : List Byte} (hb : bs.length ≠ 3 ∨ 9437184 ≤ ofBeBytes bs) :
    s.smbOffset bs true = (s.fault .hif 8).ldgProtocol 2 0 := by
  simp [State.smbOffset, h, hb, State.smbErr]

/-- A code that no table names is answered with no bytes. -/
theorem smbRead_unnamed {code : Nat} (h0 : code ≠ 0) (h8 : code ≠ 8) :
    s.smbRead code true = s.modHif (fun h => { h with smb := [0] }) :=
  (if_neg (by simp [h])).trans ((if_neg h0).trans ((if_neg h8).trans (smbAnswer_pec _)))

theorem smbRead_identity : s.smbRead 8 true = s.modHif (fun h => { h with
    smb := BitVec.ofNat 8 ((s.identField s.free 0 2).reverse ++ s.identField s.free 8 20).length ::
      ((s.identField s.free 0 2).reverse ++ s.identField s.free 8 20) }) :=
  (if_neg (by simp [h])).trans ((if_neg (by decide)).trans ((if_pos rfl).trans (smbAnswer_pec _)))

theorem smbRead_status : s.smbRead 0 true = ({ s with free := s.free + 1 } : State).modHif (fun h => { h with
    smb := [6, BitVec.ofNat 8 s.smbFlags, BitVec.ofNat 8 (255 - Nat.lor (s.critical 0) (s.critical 1)),
      BitVec.ofInt 8 s.composite, Config.pageByte s.free 5, 0, 0] }) :=
  (if_neg (by simp [h])).trans ((if_pos rfl).trans (smbAnswer_pec _))

end
end

/-- Settles O5: each command ends with its operation, in one of the cases above. The model's readings in these clauses: the bytes
that a failed program leaves are free and only clear bits (log entries 1 and 43), a record that fails twice counts in DROP
(log entry 142), tokens spent are counted up and given back (log entry 97), and a code that no SMBus table names is answered with
length 0 (log entry 110). -/
theorem ledgerCommandsComplete : Obligations.LedgerCommandsComplete := by
  unfold Obligations.LedgerCommandsComplete
  refine ⟨
    fun p v s h => answers_of_eq rfl (regCmd_ldgRaise h),
    fun p v s hp hm => answers_of_eq rfl (regCmd_ldgRaise_barred hp hm),
    fun j s h h2 => answers_of_eq rfl (ldgProgramDone_first h h2),
    fun j r s h h2 hw => answers_of_eq rfl (ldgProgramDone_record h h2 hw),
    fun j k s h h2 hw => answers_of_eq rfl (ldgProgramDone_header h h2 hw),
    fun s h => answers_of_eq rfl (ldgProgramDone_idle h),
    fun j k s h hw hr => answers_of_eq rfl (ldgProgramFail_header h hw hr),
    fun j r s h hw hr => answers_of_eq rfl (ldgProgramFail_record h hw hr),
    fun s h => answers_of_eq rfl (ldgProgramFail_idle h),
    fun k j s h hj => answers_of_eq rfl (ldgEraseDone_duringJob h hj),
    fun k s h hj => answers_of_eq rfl (ldgEraseDone_free h hj),
    fun k s h => answers_of_eq rfl (ldgEraseDone_fails h),
    fun ok s h => answers_of_eq rfl (ldgEraseDone_idle h ok),
    fun s h => answers_of_eq rfl (ldgScanDone_running h),
    fun s h0 hn => ⟨s.ldgScanDone, answers_of_eq rfl rfl, ?_⟩,
    fun a b c s h0 hs hn => ⟨s.ldgScanDone, answers_of_eq rfl rfl, ?_⟩,
    fun s h => answers_of_eq rfl (ldgHours_due h),
    fun s h => answers_of_eq rfl (ldgHours_early h),
    fun s h => answers_of_eq rfl (ldgSummary_due h),
    fun s h => answers_of_eq rfl (ldgSummary_early h),
    fun s h => answers_of_eq rfl (ldgRefill_due h),
    fun s h => answers_of_eq rfl (ldgRefill_early h),
    fun s h => answers_of_eq rfl (smbLedger_reads h),
    fun pec s h => answers_of_eq rfl (smbLedger_off h pec),
    fun s h => answers_of_eq rfl (smbStatus_reads h),
    fun bs s h hl hb => answers_of_eq rfl (smbOffset_takes h hl hb),
    fun bs s h hb => answers_of_eq rfl (smbOffset_refused h hb),
    fun code s h h0 h8 => answers_of_eq rfl (smbRead_unnamed h h0 h8),
    fun s h => answers_of_eq rfl (smbRead_identity h),
    fun s h => answers_of_eq rfl (smbRead_status h),
    fun code pec s h => answers_of_eq rfl (smbRead_off h code pec)⟩
  · have view := ldgScanDone_empty hn h0
    simp only [State.scanView, ScanView.mk.injEq] at view
    exact view
  · have view := ldgScanDone_noSector h0 hs hn
    simp only [State.scanView, ScanView.mk.injEq, afterNewest] at view
    obtain ⟨base, opened, -, rseq, pcyc⟩ := view
    exact ⟨base, opened, rseq, pcyc⟩

end Sys2Proof.Machine
end

section
/-!
SUPPORT and settlement. The compressor and decompressor lanes (R354 to R358, R370), each command case by case.
-/

namespace Sys2Proof.Machine

open Sys2Proof

/-! ### Writes of a lane's CMD register (Tables 14-7 and 14-9) -/

/-- `a` is a register of its own: no window, no fault register, no array word. -/
def PlainReg (a : Nat) : Prop :=
  a % 4 = 0 ∧ taskWindow a = none ∧ (regAt a).isSome = true ∧ fltOfStat a = none ∧ fltOfMask a = none ∧
    allFltRegs.any (fun r => (r.sevFld 0).addr == a || (r.sevFld 12).addr == a) = false ∧ arrayKeyOf a = none

theorem compCmd_plain : ∀ n : Lane, PlainReg (R.A_CMP_C_CMD n.val) := by
  unfold PlainReg
  decide +kernel

theorem decompCmd_plain : ∀ n : Lane, PlainReg (R.A_CMP_D_CMD n.val) := by
  unfold PlainReg
  decide +kernel

section
variable {s : State} {p : Path} {v : Word}

theorem regCmd_plainReg {a : Nat} (hp : PlainReg a) (h : s.takes p a v = true) :
    s.regCmd p a v = (s.storeReg p a v).afterWrite a (s.rd a).toNat v.toNat := by
  obtain ⟨ha, ht, hd, h1, h2, h3, h4⟩ := hp
  exact regCmd_plain s p a v h ha ht hd h1 h2 h3 h4

/-- A write in the RTE and CMP blocks reaches their hook. -/
theorem afterWrite_rte {a : Nat} (hlo : 0x05100000 ≤ a) (hhi : a < 0x06000000) (old w : Nat) :
    s.afterWrite a old w = s.hookRte a w := by
  unfold State.afterWrite
  rw [if_neg (by omega), if_neg (by omega), if_neg (by omega), if_neg (by omega), if_neg (by omega), if_neg (by omega),
    if_neg (by omega), if_neg (by omega), if_neg (by omega), if_neg (by omega), if_neg (by omega), if_pos hhi]

theorem afterWrite_compCmd (n : Lane) (old w : Nat) :
    s.afterWrite (R.A_CMP_C_CMD n.val) old w = s.compCmd n.val (bitsOf w 0 2) := by
  have lane : (R.A_CMP_C_CMD n.val - 0x05201000) / 64 = n.val := by unfold R.A_CMP_C_CMD; omega
  have place : 0x05201000 ≤ R.A_CMP_C_CMD n.val ∧ R.A_CMP_C_CMD n.val < 0x05201200 ∧ R.A_CMP_C_CMD n.val % 64 = 0x18 := by
    unfold R.A_CMP_C_CMD; omega
  rw [afterWrite_rte (by omega) (by omega), State.hookRte, if_neg (by unfold R.A_RTE_CTRL; omega),
    if_neg (by unfold R.A_RTE_REQ; omega), if_pos place, lane]

theorem afterWrite_decompCmd (n : Lane) (old w : Nat) :
    s.afterWrite (R.A_CMP_D_CMD n.val) old w = s.decompCmd n.val (bitsOf w 0 2) := by
  have lane : (R.A_CMP_D_CMD n.val - 0x05202000) / 64 = n.val := by unfold R.A_CMP_D_CMD; omega
  have place : 0x05202000 ≤ R.A_CMP_D_CMD n.val ∧ R.A_CMP_D_CMD n.val < 0x05202200 ∧ R.A_CMP_D_CMD n.val % 64 = 0x1C := by
    unfold R.A_CMP_D_CMD; omega
  rw [afterWrite_rte (by omega) (by omega), State.hookRte, if_neg (by unfold R.A_RTE_CTRL; omega),
    if_neg (by unfold R.A_RTE_REQ; omega), if_neg (by omega), if_pos place, lane]

/-- A write of CMP_Cn_CMD that is taken gives its lane the command that it spells. -/
theorem regCmd_compCmd {n : Lane} {x : Nat} (hx : x < 2 ^ 2) (h : s.takes p (R.A_CMP_C_CMD n.val) (withBits v 0 2 x) = true) :
    s.regCmd p (R.A_CMP_C_CMD n.val) (withBits v 0 2 x) =
      (s.storeReg p (R.A_CMP_C_CMD n.val) (withBits v 0 2 x)).compCmd n.val x := by
  rw [regCmd_plainReg (compCmd_plain n) h, afterWrite_compCmd, withBits_same v 0 2 x (by decide), Nat.mod_eq_of_lt hx]

theorem regCmd_decompCmd {n : Lane} {x : Nat} (hx : x < 2 ^ 2) (h : s.takes p (R.A_CMP_D_CMD n.val) (withBits v 0 2 x) = true) :
    s.regCmd p (R.A_CMP_D_CMD n.val) (withBits v 0 2 x) =
      (s.storeReg p (R.A_CMP_D_CMD n.val) (withBits v 0 2 x)).decompCmd n.val x := by
  rw [regCmd_plainReg (decompCmd_plain n) h, afterWrite_decompCmd, withBits_same v 0 2 x (by decide), Nat.mod_eq_of_lt hx]

end

section
variable {s : State} {n : Nat}

/-! ### GO, RESUME and ABORT of a compressor lane (R357) -/

theorem compCmd_goRefused (h : (s.get (R.CMP_C_STAT_STATE n) ≠ 0 ∧ s.get (R.CMP_C_STAT_STATE n) ≠ 5) ∨
    bitOf (s.get R.CMP_CTRL_C_EN) n = false ∨ s.inReset (.comp n) = true) : s.compCmd n 1 = s :=
  if_pos (by simpa using h)

theorem compCmd_resumes (h : s.get (R.CMP_C_STAT_STATE n) = 3) : s.compCmd n 2 =
    (s.set (R.CMP_C_STAT_STATE n) 2).setLane n { s.lane n with irq := false, since := s.now } :=
  if_neg (not_not.2 h)

theorem compCmd_aborts (h1 : 1 ≤ s.get (R.CMP_C_STAT_STATE n)) (h3 : s.get (R.CMP_C_STAT_STATE n) ≤ 3) :
    s.compCmd n 3 = s.compDone n 3 :=
  if_pos (by omega)

/-! ### OUT_FULL and a compression's end (R357) -/

theorem compOutFull_notDue (h : s.compRuns n = false ∨ s.outFullDue n = false) : s.compOutFull n = s :=
  if_pos (by rcases h with h | h <;> simp [h])

/-- The stream needs one more output handle than the lane has. -/
theorem outFullDue_iff : s.outFullDue n = true ↔ s.get (R.CMP_C_OUT_CNT_OUT_CNT n) < 255 ∧
    4096 * s.get (R.CMP_C_OUT_CNT_OUT_CNT n) - 64 < (s.lane n).stream.length := by
  unfold State.outFullDue
  rw [Bool.and_eq_true, decide_eq_true_eq, decide_eq_true_eq]
  rfl

/-- A lane without an early end whose stream passes its output handles writes what they hold and stops. -/
theorem compOutFull_stops (h : s.compRuns n = true) (he : bitOf (s.lane n).cfg 6 = false) : s.compOutFull n =
    if s.get (R.CMP_C_OUT_CNT_OUT_CNT n) < 255 ∧ 4096 * s.get (R.CMP_C_OUT_CNT_OUT_CNT n) - 64 < (s.lane n).stream.length then
      s.compWrite n ((s.lane n).stream.take (4096 * s.get (R.CMP_C_OUT_CNT_OUT_CNT n) - 64)) (fun t =>
        (t.set (R.CMP_C_STAT_STATE n) 3).setLane n { (s.lane n) with irq := true })
    else s := by
  have early : (s.lane n).early = false := by rw [CompLane.early, he, Bool.false_and]
  by_cases hd : s.outFullDue n = true
  · rw [if_pos (outFullDue_iff.1 hd)]
    exact if_neg (by simp [h, hd, early])
  · rw [if_neg (mt outFullDue_iff.2 hd)]
    exact compOutFull_notDue (.inr (by simpa using hd))

theorem compEnd_idle (h : s.compRuns n = false) : s.compEnd n = s := if_pos (congrArg Bool.not h)

/-- A job without an early end and without a context to save ends with what its stream gives. -/
theorem compEnd_ends (h : s.compRuns n = true) (he : bitOf (s.lane n).cfg 6 = false) (hs : bitOf (s.lane n).cfg 5 = false) :
    s.compEnd n =
      if s.get (R.CMP_C_OUT_CNT_OUT_CNT n) < 255 ∧ 4096 * s.get (R.CMP_C_OUT_CNT_OUT_CNT n) - 64 < (s.lane n).stream.length
      then s
      else if 1044416 < (s.lane n).stream.length then
        s.compWrite n ((s.lane n).stream.take 1044416) (fun t => t.compDone n 1)
      else s.compWrite n (s.lane n).stream (fun t =>
        (t.set (R.CMP_C_UCRC_UCRC n) (crc32 (s.lane n).input)).compDone n 0) := by
  have early : (s.lane n).early = false := by rw [CompLane.early, he, Bool.false_and]
  unfold State.compEnd
  simp only [h, early, hs, outFullDue_iff, Bool.not_true, Bool.false_and, Bool.false_eq_true, if_false]

/-! ### The decompressor lanes (R355, R358) -/

theorem decompCmd_goRefused (h : (s.get (R.CMP_D_STAT_STATE n) ≠ 0 ∧ s.get (R.CMP_D_STAT_STATE n) ≠ 2) ∨
    bitOf (s.get R.CMP_CTRL_D_EN) n = false ∨ s.inReset (.decomp n) = true) : s.decompCmd n 1 = s :=
  if_pos (by simpa using h)

theorem decompCmd_starts (h : s.get (R.CMP_D_STAT_STATE n) = 0 ∨ s.get (R.CMP_D_STAT_STATE n) = 2)
    (he : bitOf (s.get R.CMP_CTRL_D_EN) n = true) (hr : s.inReset (.decomp n) = false) : s.decompCmd n 1 =
      (((s.set (R.CMP_D_STAT_STATE n) 1).set (R.CMP_D_STAT_CODE n) 0).orBits R.CMP_STAT_D_BUSY (2 ^ n)).setDlane n
        ⟨s.now, false⟩ :=
  if_neg (by simp [he, hr]; omega)

theorem decompCmd_aborts (h : s.get (R.CMP_D_STAT_STATE n) = 1) : s.decompCmd n 2 = s.decompDone n 7 := if_pos h

theorem decompEnd_idle (h : s.get (R.CMP_D_STAT_STATE n) ≠ 1) : s.decompEnd n = s := if_pos h

/-- A decompression whose input and history are read ends with what the stream expands to. -/
theorem decompEnd_expands {want : Nat} {bs hist : List Byte} {t1 t2 : State} (h : s.get (R.CMP_D_STAT_STATE n) = 1)
    (hi : s.decompInput n = (some (want, bs), t1)) (hh : t1.decompHist n = (some hist, t2)) : s.decompEnd n =
      match inflate hist bs with
      | .error .badCode => t2.decompDone n 1
      | .error .distFar => t2.decompDone n 2
      | .error .lenShort => t2.decompDone n 3
      | .error .lenLong => t2.decompDone n 4
      | .ok out =>
        let w := t2.depWrite (0x28 + n) (t2.get (R.CMP_D_OUT_OUT n)) 0 out
        if w.1 then (w.2.set (R.CMP_D_UCRC_UCRC n) (crc32 out)).decompDone n (if crc32 out = want then 0 else 5)
        else w.2.decompDone n 6 := by
  unfold State.decompEnd
  rw [if_neg (not_not.2 h)]
  simp only [hi, hh]
  generalize inflate hist bs = r
  cases r with
  | error e => cases e <;> rfl
  | ok out =>
    dsimp only
    generalize t2.depWrite (0x28 + n) (t2.get (R.CMP_D_OUT_OUT n)) 0 out = w
    obtain ⟨ok, t3⟩ := w
    cases ok with
    | false => exact (if_neg Bool.false_ne_true).symm
    | true => exact (if_pos rfl).symm

/-! ### Lanes that hang (R370) -/

theorem laneHang_comp (h : s.compRuns n = true) (ht : (s.lane n).since + 100000 ≤ s.now) :
    s.laneHang true n = s.fault .cmp n :=
  (if_pos rfl).trans (if_pos (by simp [h, passed_of_le ht]))

theorem laneHang_compWorks (h : s.compRuns n = false ∨ s.now < (s.lane n).since + 100000) : s.laneHang true n = s := by
  refine (if_pos rfl).trans (if_neg ?_)
  rcases h with h | h
  · simp [h]
  · simp [passed_of_lt h]

theorem laneHang_decomp {d : DecompLane} (hd : s.decomp[n]? = some d) (h : s.get (R.CMP_D_STAT_STATE n) = 1)
    (ht : d.since + 100000 ≤ s.now) : s.laneHang false n = s.fault .cmp (8 + n) := by
  refine (if_neg (by decide)).trans (if_pos ⟨h, ?_⟩)
  rw [hd]
  exact passed_of_le ht

theorem laneHang_decompIdle (h : s.get (R.CMP_D_STAT_STATE n) ≠ 1) : s.laneHang false n = s :=
  (if_neg (by decide)).trans (if_neg fun hp => h hp.1)

end

/-- Settles O30: each command ends with its operation, in one of the cases above. The stream's bytes are those of the model's
compressor (log entry 69); the level and link of a destage are written at GO (log entry 133). -/
theorem compressionLanesComplete : Obligations.CompressionLanesComplete := by
  unfold Obligations.CompressionLanesComplete
  exact ⟨
    fun p n v s h => answers_of_eq rfl (regCmd_compCmd (by decide) h),
    fun p n v s h => answers_of_eq rfl (regCmd_compCmd (by decide) h),
    fun p n v s h => answers_of_eq rfl (regCmd_compCmd (by decide) h),
    fun p n v s h => answers_of_eq rfl (regCmd_decompCmd (by decide) h),
    fun p n v s h => answers_of_eq rfl (regCmd_decompCmd (by decide) h),
    fun n s h => compCmd_goRefused h,
    fun n s h => compCmd_resumes h,
    fun n s h1 h3 => compCmd_aborts h1 h3,
    fun n s h => answers_of_eq rfl (compOutFull_notDue h),
    fun n s h he => answers_of_eq rfl (compOutFull_stops h he),
    fun n s h => answers_of_eq rfl (compEnd_idle h),
    fun n s h he hs => answers_of_eq rfl (compEnd_ends h he hs),
    fun n s h => decompCmd_goRefused h,
    fun n s h he hr => decompCmd_starts h he hr,
    fun n s h => decompCmd_aborts h,
    fun n s h => answers_of_eq rfl (decompEnd_idle h),
    fun n want bs hist t1 t2 s h hi hh => answers_of_eq rfl (decompEnd_expands h hi hh),
    fun n s h ht => answers_of_eq rfl (laneHang_comp h ht),
    fun n s h => answers_of_eq rfl (laneHang_compWorks h),
    fun n d s hd h ht => answers_of_eq rfl (laneHang_decomp hd h ht),
    fun n s h => answers_of_eq rfl (laneHang_decompIdle h)⟩

end Sys2Proof.Machine
end

section
/-!
SUPPORT and settlement. Route Table requests and their housekeeping (R347 to R350, R363 to R371).
-/

namespace Sys2Proof.Machine

open Sys2Proof

section
variable {s : State}

/-! ### How requests reach the engine (R349, R371) -/

section
variable {op tag ns a0 a1 a2 since : Nat}

/-- Through RTE_REQ a request while BUSY is discarded. -/
theorem rteCmd_busy (h : s.flag R.RTE_RESP_STAT_BUSY = true) : s.rteCmd true op tag ns a0 a1 a2 since = s :=
  if_pos (by simp [h])

theorem rteRequest_runs {q : RteReq} (h : s.flag R.RTE_STAT_RUN = true) :
    s.rteRequest q = (s.rteTake q).2.rteAnswer q (s.rteTake q).1 := if_pos h

/-- Outside RUN a request to its requester waits, counted in QUEUED. -/
theorem rteRequest_waits {q : RteReq} (h : s.flag R.RTE_STAT_RUN = false) (hp : q.port = false) : s.rteRequest q =
    { s with
      crs := (s.set R.RTE_STAT_QUEUED (satN (s.rte.wait.length + 1) 255)).crs
      rte := { s.rte with wait := s.rte.wait ++ [q] } } := by
  refine (if_neg (by simp [h])).trans ((if_neg (by simp [hp])).trans ?_)
  rw [State.rteCount, List.length_append, List.length_singleton]
  rfl

/-- Without a destage to close, a request is taken as it is. -/
theorem rteCmd_takes {port : Bool} (hb : port = false ∨ s.flag R.RTE_RESP_STAT_BUSY = false)
    (ho : op ≠ 3 ∨ s.flag R.RTE_STAT_RUN = false) :
    s.rteCmd port op tag ns a0 a1 a2 since = s.rteRequest ⟨op, tag % 256, ns, a0, a1, a2, since, port⟩ := by
  refine (if_neg (by rcases hb with hb | hb <;> simp [hb])).trans (if_neg ?_)
  rcases ho with ho | ho <;> simp [ho]

theorem rteCmd_updates {port : Bool} (hb : port = false ∨ s.flag R.RTE_RESP_STAT_BUSY = false)
    (hr : s.flag R.RTE_STAT_RUN = true) : s.rteCmd port 3 tag ns a0 a1 a2 since =
      (s.rteRequest ⟨3, tag % 256, ns, a0, a1, a2, since, port⟩).destClose a0 a2 :=
  (if_neg (by rcases hb with hb | hb <;> simp [hb])).trans (if_pos ⟨rfl, hr⟩)

/-- A lookup in RUN is taken and answered. -/
theorem rteCmd_answers {port : Bool} (hb : port = false ∨ s.flag R.RTE_RESP_STAT_BUSY = false) (ho : op ≠ 3)
    (hr : s.flag R.RTE_STAT_RUN = true) : s.rteCmd port op tag ns a0 a1 a2 since =
      (s.rteTake ⟨op, tag % 256, ns, a0, a1, a2, since, port⟩).2.rteAnswer ⟨op, tag % 256, ns, a0, a1, a2, since, port⟩
        (s.rteTake ⟨op, tag % 256, ns, a0, a1, a2, since, port⟩).1 :=
  (rteCmd_takes hb (.inl ho)).trans (rteRequest_runs hr)

theorem rteCmd_waits (hr : s.flag R.RTE_STAT_RUN = false) : s.rteCmd false op tag ns a0 a1 a2 since =
    { s with
      crs := (s.set R.RTE_STAT_QUEUED (satN (s.rte.wait.length + 1) 255)).crs
      rte := { s.rte with wait := s.rte.wait ++ [⟨op, tag % 256, ns, a0, a1, a2, since, false⟩] } } :=
  (rteCmd_takes (.inl rfl) (.inr hr)).trans (rteRequest_waits hr rfl)

/-- An UPDATE in RUN is taken and answered, and closes the destage that it maps. -/
theorem rteCmd_updateAnswers {port : Bool} (hb : port = false ∨ s.flag R.RTE_RESP_STAT_BUSY = false)
    (hr : s.flag R.RTE_STAT_RUN = true) : s.rteCmd port 3 tag ns a0 a1 a2 since =
      ((s.rteTake ⟨3, tag % 256, ns, a0, a1, a2, since, port⟩).2.rteAnswer ⟨3, tag % 256, ns, a0, a1, a2, since, port⟩
        (s.rteTake ⟨3, tag % 256, ns, a0, a1, a2, since, port⟩).1).destClose a0 a2 :=
  (rteCmd_updates hb hr).trans (congrArg (fun t => t.destClose a0 a2) (rteRequest_runs hr))

end

/-! ### What a request is answered (R349, R350) -/

section
variable {q : RteReq}

theorem rteTake_notValid (h1 : q.op = 1) (hv : s.flag (R.RTE_NS_CFG_VALID q.ns) = false) :
    s.rteTake q = (⟨q.tag, 3, 0, 0⟩, s.fault .rte 0) :=
  (if_pos h1).trans (if_pos (congrArg Bool.not hv))

theorem rteTake_lbaBounds (h1 : q.op = 1) (hv : s.flag (R.RTE_NS_CFG_VALID q.ns) = true)
    (hb : s.get (R.RTE_NS_COUNT_COUNT q.ns) ≤ q.a0 / (if s.flag (R.RTE_NS_CFG_EMU q.ns) then 2048 else 256)) :
    s.rteTake q = (⟨q.tag, 2, 0, 0⟩, s.fault .rte 0) :=
  (if_pos h1).trans ((if_neg (by simp [hv])).trans (if_pos hb))

theorem rteTake_indexBounds (h : q.op = 2 ∨ q.op = 3) (hb : s.get R.RTE_TBL_COUNT_COUNT ≤ q.a0) :
    s.rteTake q = (⟨q.tag, 2, 0, 0⟩, s.fault .rte 0) := by
  refine (if_neg (by omega)).trans ?_
  rcases h with h | h
  · exact (if_pos h).trans (if_pos hb)
  · exact (if_neg (by omega)).trans ((if_pos h).trans (if_pos hb))

theorem rteTake_looksUp {e : Nat} (h : q.op = 2) (hb : q.a0 < s.get R.RTE_TBL_COUNT_COUNT) (he : (s.rtRead q.a0).1 = some e) :
    s.rteTake q = (⟨q.tag, 0, q.a0, e⟩, (s.rtRead q.a0).2.bump R.RTE_CNT_LOOKUP_COUNT 1) := by
  refine (if_neg (by omega)).trans ((if_pos h).trans ((if_neg (by omega)).trans ?_))
  generalize s.rtRead q.a0 = r at he ⊢
  obtain ⟨o, t⟩ := r
  subst he
  rfl

section
variable (h : q.op = 3) (hb : q.a0 < s.get R.RTE_TBL_COUNT_COUNT)
include h hb

theorem rteTake_malformed (hm : rtMalformed (s.get R.RTE_BAND_COUNT_COUNT) q.a2 = true) :
    s.rteTake q = (⟨q.tag, 7, 0, 0⟩, s.fault .rte 1) :=
  (if_neg (by omega)).trans ((if_neg (by omega)).trans ((if_pos h).trans ((if_neg (by omega)).trans (if_pos hm))))

/-- An UPDATE whose table and band words are read compares the entry found. -/
theorem rteTake_compares {e w v : Nat} {t0 t1 t2 : State} (hm : rtMalformed (s.get R.RTE_BAND_COUNT_COUNT) q.a2 = false)
    (hr : s.rtRead q.a0 = (some e, t0)) (ho : t0.bandWord e = (some w, t1)) (hn : t1.bandWord q.a2 = (some v, t2)) :
    s.rteTake q =
      if e ≠ q.a1 then (⟨q.tag, 1, q.a0, e⟩, t2.bump R.RTE_CNT_CASFAIL_COUNT 1)
      else (⟨q.tag, 0, q.a0, q.a2⟩, (t2.rtUpdate q.a0 e q.a2 w q.since).bump R.RTE_CNT_UPDATE_COUNT 1) := by
  refine (if_neg (by omega)).trans ((if_neg (by omega)).trans ((if_pos h).trans ((if_neg (by omega)).trans
    ((if_neg (by simp [hm])).trans ?_))))
  simp only [hr, ho, hn]

end
end

end

/-! ### The journal record of an UPDATE (R366): what its steps leave of the engine's own state -/

theorem State.EccFrame.rte {z s : State} (h : z.EccFrame s) : s.rte = z.rte := by cases h; rfl

section
variable {s : State}

theorem fault_rte (r : FltReg) (b : Nat) : (s.fault r b).rte = s.rte := ((State.EccFrame.refl s).fault r b).rte

theorem memRead_rte (a n : Nat) : (s.memRead a n).2.rte = s.rte := ((State.EccFrame.refl s).memReadC a n).rte

theorem memNat_rte (a n : Nat) : (s.memNat a n).2.rte = s.rte := by
  have read := memRead_rte (s := s) a n
  unfold State.memNat
  split
  · next e => rw [e] at read; exact read
  · next e => rw [e] at read; exact read

theorem mergeWord_rte (k : EccKey) (data : Nat) : (s.mergeWord k data).2.rte = s.rte := by
  have read := (State.EccFrame.refl s).eccRead k data false
  unfold State.mergeWord
  split
  · next e => rw [e] at read; exact read.rte
  · next e => rw [e] at read; exact (read.ite (read.freshWord k true)).rte

theorem partWord_rte (a : Nat) : (s.partWord a).2.rte = s.rte := by
  have merged := mergeWord_rte (s := s) (bufKey a) (ofLeBytes (bytesAt 0 s.mem (a / 8 * 8) 8))
  unfold State.partWord
  split
  · next e => rw [e] at merged; exact merged
  · next e => rw [e] at merged; exact merged

theorem memWriteC_rte (a : Nat) (bs : List Byte) : (s.memWriteC a bs).2.rte = s.rte := by
  have opened := ((State.EccFrame.refl s).memOpen a bs.length).rte
  have merged (c : Prop) [Decidable c] (t : State) (b : Nat) : (if c then (true, t) else t.partWord b).2.rte = t.rte := by
    split
    · rfl
    · exact partWord_rte b
  have part (c : Prop) [Decidable c] (t : State) (b : Nat) :
      ∃ ok u, (if c then (true, t) else t.partWord b) = (ok, u) ∧ u.rte = t.rte := ⟨_, _, rfl, merged c t b⟩
  unfold State.memWriteC
  split
  · next e => rw [e] at opened; exact opened
  · next t e =>
    rw [e] at opened
    obtain ⟨ok1, u, h1, hu⟩ := part (a % 8 = 0 ∧ (8 ≤ bs.length ∨ bs.length = 0)) t a
    obtain ⟨ok2, v, h2, hv⟩ := part ((a + bs.length) % 8 = 0 ∨ (a + bs.length) / 8 = a / 8) u (a + bs.length)
    simp only [h1, h2]
    split
    · exact ((State.EccFrame.refl _).wordsWritten _ _ _).rte.trans (hv.trans (hu.trans opened))
    · exact hv.trans (hu.trans opened)

theorem memWrite_rte (a : Nat) (bs : List Byte) : (s.memWrite a bs).2.rte = s.rte := memWriteC_rte a bs

theorem rtWrite_rte (i e : Nat) : (s.rtWrite i e).rte = s.rte := memWrite_rte _ _

theorem liveWrite_rte (b w live : Nat) : (s.liveWrite b w live).rte = s.rte := memWrite_rte _ _

theorem bandWord_rte (e : Nat) : (s.bandWord e).2.rte = s.rte := by
  unfold State.bandWord
  split
  · exact memNat_rte _ _
  · rfl

theorem rtUnmap_rte (own : Option Nat) (e w : Nat) : (s.rtUnmap own e w).rte = s.rte := by
  have counted : (if bitsOf w 0 24 < rtNsect e + 1 then
      (s.liveWrite (rtBand e) w (bitsOf w 0 24 - (rtNsect e + 1))).fault .rte 3
      else s.liveWrite (rtBand e) w (bitsOf w 0 24 - (rtNsect e + 1))).rte = s.rte := by
    split
    · rw [fault_rte, liveWrite_rte]
    · exact liveWrite_rte _ _ _
  cases own with
  | none => exact counted
  | some n =>
    unfold State.rtUnmap State.setRtUsed
    dsimp only
    rw [State.set_rte, State.set_rte, State.set_rte]
    exact counted

theorem rtMap_rte (own : Option Nat) (e w : Nat) : (s.rtMap own e w).rte = s.rte := by
  have counted := liveWrite_rte (s := s) (rtBand e) w (bitsOf w 0 24 + (rtNsect e + 1))
  cases own with
  | none => exact counted
  | some n =>
    unfold State.rtMap State.setRtUsed
    dsimp only
    rw [State.set_rte, State.set_rte, State.set_rte]
    exact counted

/-- Appending to a band changes no journal. -/
theorem bandAppend_journalSeq (b ofs k : Nat) : (s.bandAppend b ofs k).rte.journalSeq = s.rte.journalSeq := by
  have closes (l : List Nat) (f : State → Nat → State) (hf : ∀ t i, (f t i).rte.journalSeq = t.rte.journalSeq) (t : State) :
      (l.foldl f t).rte.journalSeq = t.rte.journalSeq := by
    induction l generalizing t with
    | nil => rfl
    | cons i l ih => rw [List.foldl_cons, ih, hf]
  dsimp only [State.bandAppend]
  split
  · rw [closes]
    · rfl
    · intro t i
      split <;> rfl
  · split <;> rfl

/-- An UPDATE that finds its value leaves one journal record. -/
theorem rtUpdate_journalSeq (i old new w since : Nat) :
    (s.rtUpdate i old new w since).rte.journalSeq = s.rte.journalSeq + 1 := by
  have covered (t : State) (own : Option Nat) (i n since : Nat) : (t.coverCache own i n since).rte = t.rte := by
    cases own <;> rfl
  unfold State.rtUpdate
  extract_lets own s1 s2
  have h1 : s1.rte = s.rte := rtWrite_rte _ _
  have h2 : s2.rte = s.rte := by
    unfold s2
    split
    · rw [rtUnmap_rte, h1]
    · exact h1
  clear_value s2
  have h3 := bandWord_rte (s := s2) new
  generalize s2.bandWord new = r at h3 ⊢
  obtain ⟨w, s3⟩ := r
  dsimp -zeta only at h3 ⊢
  extract_lets s4 s5 seq r6 s6
  have h4 : s4.rte = s.rte := by
    unfold s4
    split
    · rw [rtMap_rte, h3, h2]
    · rw [h3, h2]
  have h5 : s5.rte.journalSeq = s.rte.journalSeq := by
    unfold s5
    split
    · rw [bandAppend_journalSeq, h4]
    · rw [h4]
  have h6 : s6.rte.journalSeq = s.rte.journalSeq + 1 := congrArg (· + 1) h5
  split
  · exact h6
  · rw [covered]
    exact h6

/-! ### Bands (R363, R365) -/

theorem band_setBand (b i : Nat) (x : Band) :
    (s.setBand b x).band i = if i = b ∧ b < s.rte.bands.length then x else s.band i := by
  simp only [State.band, State.setBand, List.getElem?_set]
  grind

/-- A band that does not exist is in no listed state. -/
theorem band_state_lt {b k : Nat} (h : (s.band b).st = k) (hk : k ≠ 4) : b < s.rte.bands.length := by
  by_contra hb
  rw [State.band, List.getElem?_eq_none (by omega)] at h
  exact hk h.symm

theorem mem_bandNums {b k : Nat} (hk : k ≠ 4) : b ∈ s.bandNums (fun x => x.st == k) ↔ (s.band b).st = k := by
  simp only [State.bandNums, List.mem_filter, List.mem_range, beq_iff_eq, and_iff_right_iff_imp]
  exact fun h => band_state_lt h hk

theorem bandNums_noBands (h : s.rte.bands = []) (p : Band → Bool) : s.bandNums p = [] := by
  rw [State.bandNums, h]
  rfl

/-- With no band under reclaim nothing is copied. -/
theorem reclaimCopies_none (h : s.bandNums (fun x => x.st == 3) = []) : s.reclaimCopies = s := by
  have none_ : (s.rtSnapshot 0 (s.get R.RTE_TBL_COUNT_COUNT)).filter
      (fun x => rtMapped x.2 && (s.band (rtBand x.2)).st == 3) = [] := by
    refine List.filter_eq_nil_iff.2 fun x _ hx => ?_
    have : rtBand x.2 ∈ s.bandNums (fun x => x.st == 3) := (mem_bandNums (by decide)).2 (by simp at hx; exact hx.2)
    rw [h] at this
    exact List.not_mem_nil this
  rw [State.reclaimCopies, none_]
  rfl

theorem reclaimCopies_raw {i e : Nat} (hf : (s.rtSnapshot 0 (s.get R.RTE_TBL_COUNT_COUNT)).filter
    (fun x => rtMapped x.2 && (s.band (rtBand x.2)).st == 3) = [(i, e)])
    (hd : ∀ d ∈ s.rte.dest, ¬(d.index = i ∧ d.old = e)) (h2 : rtState e = 2) :
    s.reclaimCopies = s.copyRun (rtBand e) (rtOffset e) 256 [(i, e)] := by
  have unplaced : ¬(s.rte.dest.any (fun d => d.index == i && d.old == e)) = true := by simpa using hd
  rw [State.reclaimCopies, hf, List.foldl_cons, List.foldl_nil]
  exact (if_neg unplaced).trans (if_pos h2)

/-! ### Reclaim (R365) -/

theorem reclaim_migrate (h : s.get R.SYS_MODE_MODE = 8) : s.reclaim = s := if_pos h

section
variable (hm : s.get R.SYS_MODE_MODE ≠ 8)
include hm

/-- With no band under reclaim, the FULL band with the fewest live sectors is chosen when FREE bands are short. -/
theorem reclaim_chooses (h3 : s.bandNums (fun x => x.st == 3) = []) : s.reclaim =
    (if (s.bandNums (fun x => x.st == 0)).length < Config.reclaimBelow then
      match s.bandNums (fun x => x.st == 2) with
      | [] => s
      | b :: bs =>
        let v := bs.foldl (fun m x => if s.bandLive x < s.bandLive m then x else m) b
        s.setBand v { s.band v with st := 3 }
    else s).reclaimCopies := by
  refine (if_neg hm).trans ?_
  rw [h3]
  rfl

theorem reclaim_noBands (h : s.rte.bands = []) : s.reclaim = s := by
  rw [reclaim_chooses hm (bandNums_noBands h _), bandNums_noBands h (fun x => x.st == 2), ite_self,
    reclaimCopies_none (bandNums_noBands h _)]

theorem reclaim_enoughFree (h3 : s.bandNums (fun x => x.st == 3) = [])
    (h0 : Config.reclaimBelow ≤ (s.bandNums (fun x => x.st == 0)).length) : s.reclaim = s := by
  rw [reclaim_chooses hm h3, if_neg (by omega), reclaimCopies_none h3]

theorem reclaim_oneFull {b : Nat} (h3 : s.bandNums (fun x => x.st == 3) = []) (h2 : s.bandNums (fun x => x.st == 2) = [b]) :
    s.reclaim = if (s.bandNums (fun x => x.st == 0)).length < Config.reclaimBelow then
      (s.setBand b { s.band b with st := 3 }).reclaimCopies else s := by
  rw [reclaim_chooses hm h3, h2]
  split
  · rfl
  · exact reclaimCopies_none h3

/-- A band whose live containers have all moved is FREE again, and the empty rest is left. -/
theorem reclaim_frees {b : Nat} (h3 : s.bandNums (fun x => x.st == 3) = [b]) (h2 : s.bandNums (fun x => x.st == 2) = [])
    (hl : s.bandLive b = 0) (hd : s.rte.allDurable = true) : s.reclaim = s.setBand b ⟨0, 0⟩ := by
  have other {k : Nat} (hk : k ≠ 4) (h0 : k ≠ 0) {i : Nat} (hi : i ∈ (s.setBand b ⟨0, 0⟩).bandNums (fun x => x.st == k)) :
      i ≠ b ∧ i ∈ s.bandNums (fun x => x.st == k) := by
    have hb : b < s.rte.bands.length := band_state_lt ((mem_bandNums (k := 3) (by decide)).1 (h3 ▸ List.mem_singleton_self b))
      (by decide)
    rw [mem_bandNums hk, band_setBand] at hi
    split at hi
    · exact absurd hi.symm h0
    · next hn => exact ⟨fun e => hn ⟨e, hb⟩, (mem_bandNums hk).2 hi⟩
  have no3 : (s.setBand b ⟨0, 0⟩).bandNums (fun x => x.st == 3) = [] :=
    List.eq_nil_iff_forall_not_mem.2 fun i hi => by
      obtain ⟨hne, hmem⟩ := other (by decide) (by decide) hi
      exact hne (List.mem_singleton.1 (h3 ▸ hmem))
  have no2 : (s.setBand b ⟨0, 0⟩).bandNums (fun x => x.st == 2) = [] :=
    List.eq_nil_iff_forall_not_mem.2 fun i hi => List.not_mem_nil (h2 ▸ (other (by decide) (by decide) hi).2)
  refine (if_neg hm).trans ?_
  rw [h3]
  simp only [List.foldl_cons, List.foldl_nil, hl, hd, beq_self_eq_true, Bool.and_self, if_true, no2, ite_self,
    reclaimCopies_none no3]

end

/-! ### The load and checkpoints (R366, R369) -/

theorem routeLoad_skipped (h : s.rte.loaded = true ∨ s.rte.trackAt = none ∨ s.flag R.RTE_STAT_RUN = false) :
    s.routeLoad = s :=
  if_pos (by rcases h with h | h | h <;> simp [h])

theorem routeLoad_loads (hl : s.rte.loaded = false) (ht : s.rte.trackAt ≠ none) (hr : s.flag R.RTE_STAT_RUN = true) :
    s.routeLoad = { (s.rtLoadEntries (replay s.rte.ckpt s.rte.journal)) with
      rte := { (s.rtLoadEntries (replay s.rte.ckpt s.rte.journal)).rte with loaded := true } } :=
  if_neg (by simp [hl, ht, hr])

theorem checkpoint_notDue (hj : s.rte.journal.length < 1048576) (hb : s.busy = false) (ha : s.hif.activating = none) :
    s.checkpoint = s :=
  if_neg (by simp [hb, ha]; omega)

theorem checkpoint_due (h : 1048576 ≤ s.rte.journal.length ∨ s.hif.activating ≠ none ∨
    (s.busy = true ∧ (s.target = 3 ∨ s.target = 1))) : s.checkpoint = s.rtCheckpoint.durableSweep.flushCheck := by
  refine if_pos ?_
  rcases h with h | h | ⟨hb, ht⟩
  · exact .inl h
  · exact .inr (.inr (Option.isSome_iff_ne_none.2 h))
  · exact .inr (.inl (by rcases ht with ht | ht <;> simp [hb, ht, mIDLE, mPARKED]))

end

/-- Settles O29: each request and each housekeeping command ends with its operation, in one of the cases above. The threshold of
FREE bands is opaque (log entry 73), the choice of the band and the copies at the level now in force are log entry 104, and that
RTE_CNT_LOOKUP counts the lookups answered OK is log entry 141: the model's readings. -/
theorem routeTableCommandsComplete : Obligations.RouteTableCommandsComplete := by
  unfold Obligations.RouteTableCommandsComplete
  exact ⟨
    fun tag ns lba s h => answers_of_eq rfl (rteCmd_busy h),
    fun tag ns lba s h hr => answers_of_eq rfl (rteCmd_answers (.inr h) (by decide) hr),
    fun tag ns lba s hr => answers_of_eq rfl (rteCmd_answers (.inl rfl) (by decide) hr),
    fun tag ns lba s hr => answers_of_eq rfl (rteCmd_waits hr),
    fun tag i s h => answers_of_eq rfl (rteCmd_busy h),
    fun tag i s h hr => answers_of_eq rfl (rteCmd_answers (.inr h) (by decide) hr),
    fun tag i s hr => answers_of_eq rfl (rteCmd_answers (.inl rfl) (by decide) hr),
    fun tag i s hr => answers_of_eq rfl (rteCmd_waits hr),
    fun tag i old new since s h => answers_of_eq rfl (rteCmd_busy h),
    fun tag i old new since s h hr => answers_of_eq rfl (rteCmd_updateAnswers (.inr h) hr),
    fun tag i old new since s hr => answers_of_eq rfl (rteCmd_updateAnswers (.inl rfl) hr),
    fun tag i old new since s hr => answers_of_eq rfl (rteCmd_waits hr),
    fun q s h1 hv => rteTake_notValid h1 hv,
    fun q s h1 hv hb => rteTake_lbaBounds h1 hv hb,
    fun q s h hb => rteTake_indexBounds h hb,
    fun q e s h hb he => rteTake_looksUp h hb he,
    fun q s h hb hm => rteTake_malformed h hb hm,
    fun q e w v t0 t1 t2 s h hb hm hr ho hn he => (rteTake_compares h hb hm hr ho hn).trans (if_pos he),
    fun q e w v t0 t1 t2 s h hb hm hr ho hn he => (rteTake_compares h hb hm hr ho hn).trans (if_neg (not_not.2 he)),
    fun i old new w since s => rtUpdate_journalSeq i old new w since,
    fun s h => answers_of_eq rfl (routeLoad_skipped h),
    fun s hl ht hr => answers_of_eq rfl (routeLoad_loads hl ht hr),
    fun s h => answers_of_eq rfl (reclaim_migrate h),
    fun s hm h => answers_of_eq rfl (reclaim_noBands hm h),
    fun s hm h3 h0 => answers_of_eq rfl (reclaim_enoughFree hm h3 h0),
    fun b s hm h3 h2 hl hd => answers_of_eq rfl (reclaim_frees hm h3 h2 hl hd),
    fun b s hm h3 h2 => answers_of_eq rfl (reclaim_oneFull hm h3 h2),
    fun i e s hf hd h2 => reclaimCopies_raw hf hd h2,
    fun s hj hb ha => answers_of_eq rfl (checkpoint_notDue hj hb ha),
    fun s h => answers_of_eq rfl (checkpoint_due h)⟩

end Sys2Proof.Machine
end

section
/-!
SUPPORT and settlement. The Darenlen links (R441 to R457), each command case by case.
-/

namespace Sys2Proof.Machine

open Sys2Proof

section
variable {s : State} {a : Nat}

/-! ### Enabling a link (R449) -/

/-- A write that DLK_CTRL takes moves each link whose bit changes. -/
theorem regCmd_dlkCtrl {p : Path} {v : Word} (h : s.takes p R.A_DLK_CTRL v = true) : s.regCmd p R.A_DLK_CTRL v =
    (List.range 4).foldl (fun (t : State) i => if bitOf (s.rd R.A_DLK_CTRL).toNat i = bitOf v.toNat i then t
      else t.dlkEnable i (bitOf v.toNat i)) (s.storeReg p R.A_DLK_CTRL v) := by
  have hook (t : State) (old w : Nat) : t.afterWrite R.A_DLK_CTRL old w =
    (List.range 4).foldl (fun (t : State) i => if bitOf old i = bitOf w i then t else t.dlkEnable i (bitOf w i)) t := rfl
  rw [regCmd_plain s p R.A_DLK_CTRL _ h rfl (by decide) (by decide) (by decide) (by decide) (by decide) (by decide), hook]

theorem dlkEnable_on (h : s.dlkState a = 0) : s.dlkEnable a true =
    (s.set (R.DLK_L_STAT_STATE a) 1).modLink a (fun l => { l with attemptAt := s.now, downs := [] }) := by
  simp only [State.dlkEnable, h, if_true]

theorem dlkEnable_stillOff (h : s.dlkState a = 0) : s.dlkEnable a false = s := by
  simp only [State.dlkEnable, h, if_true, Bool.false_eq_true, if_false]

/-! ### What a link sends next (R445, R450 to R452) -/

theorem dlkSendNext_inFlight (h : (s.link a).flight.isSome = true) : s.dlkSendNext a = s := if_pos h

section
variable (hf : (s.link a).flight = none)
include hf

theorem dlkSendNext_silent (h : s.dlkState a = 0 ∨ s.dlkState a = 1 ∨ s.dlkState a = 5 ∨ s.dlkState a = 6) :
    s.dlkSendNext a = s := by
  refine (if_neg (by simp [hf])).trans ?_
  rcases h with h | h | h | h <;> simp only [h]

theorem dlkSendNext_train (h : s.dlkState a = 2) : s.dlkSendNext a = s.dlkSend a (trainFrame (s.link a).train) := by
  refine (if_neg (by simp [hf])).trans ?_
  simp only [h]

theorem dlkSendNext_load {f : DlkFrame} {r : List DlkFrame} (h : s.dlkState a = 3) (hl : (s.link a).load = f :: r) :
    s.dlkSendNext a = (s.dlkSend a f).modLink a (fun k => { k with load := r }) := by
  refine (if_neg (by simp [hf])).trans ?_
  simp only [h, hl]

theorem dlkSendNext_up (h : s.dlkState a = 4) : s.dlkSendNext a = s.dlkSendUp a := by
  refine (if_neg (by simp [hf])).trans ?_
  simp only [h]

end

/-- A RUN_OFF goes first. -/
theorem dlkSendUp_off {f : DlkFrame} (h : (s.link a).offWaits = some f) : s.dlkSendUp a = s.dlkSendWaiting a f := by
  simp only [State.dlkSendUp, h]

/-- With nothing to send again, the waiting frame of the best class goes. -/
theorem dlkSendUp_best {f : DlkFrame} (h : (s.link a).offWaits = none) (hr : (s.link a).resend = [])
    (hp : pickFrame s.now s.rspTmo (s.link a).waiting = some f) : s.dlkSendUp a = s.dlkSendWaiting a f := by
  have again : (s.link a).again = none := by rw [DlkLink.again, hr, List.foldl_nil]
  simp only [State.dlkSendUp, h, again, hp]

/-- With nothing that waits, the one frame to send again goes. -/
theorem dlkSendUp_again {e : DlkFrame × Nat × Nat} (hw : (s.link a).waiting = []) (hr : (s.link a).resend = [e]) :
    s.dlkSendUp a = s.dlkResend a e := by
  have off : (s.link a).offWaits = none := by rw [DlkLink.offWaits, hw, List.find?_nil]
  have again : (s.link a).again = some e := by rw [DlkLink.again, hr, List.foldl_cons, List.foldl_nil]
  have pick : pickFrame s.now s.rspTmo (s.link a).waiting = none := by rw [hw]; rfl
  simp only [State.dlkSendUp, off, again, pick]

/-- A frame that sets up no head leaves the shadow of the setup alone. -/
theorem dlkSend_noSetup {f : DlkFrame} (h : 7 ≤ f.ty) : s.dlkSend a f = s.modLink a (fun l =>
    { s.dlkLine (frameBytes f l.seq) l with flight := some (f, l.seq, 1, s.now), seq := (l.seq + 1) % 16 }) := by
  have shadow (l : DlkLink) : (if 2 ≤ f.ty ∧ f.ty ≤ 4 then l.shadow.set ((f.ty - 2) * 6 + f.b1) (some f) else l.shadow) =
      l.shadow := if_neg (by omega)
  simp only [State.dlkSend, shadow]
  rfl

/-! ### Failed exchanges (R445) -/

theorem exchangeTimeout_idle (h : (s.link a).flight = none) : s.exchangeTimeout a = s := by
  simp only [State.exchangeTimeout, h]

section
variable {f : DlkFrame} {q n t : Nat} (h : (s.link a).flight = some (f, q, n, t))
include h

theorem exchangeTimeout_fails
    (ht : s.passed t ((if s.get R.DLK_CTRL_RATE = 1 then 128 else 64) + s.get R.DLK_CFG_RSP_TMO * 8) = true) :
    s.exchangeTimeout a = s.exchangeFail a := by
  simp only [State.exchangeTimeout, h]
  exact if_pos ht

theorem exchangeTimeout_waits
    (ht : s.passed t ((if s.get R.DLK_CTRL_RATE = 1 then 128 else 64) + s.get R.DLK_CFG_RSP_TMO * 8) = false) :
    s.exchangeTimeout a = s := by
  simp only [State.exchangeTimeout, h]
  exact if_neg (ne_true_of_eq_false ht)

/-- On a link that is UP a failed frame is sent again, and after RETRY more tries the link is down. -/
theorem exchangeFail_up (h4 : s.dlkState a = 4) : s.exchangeFail a =
    if s.get R.DLK_CFG_RETRY + 1 ≤ n then s.dlkDown a
    else (((s.modLink a (fun l => { l with flight := none, resend := l.resend ++ [(f, q, n)] })).bump
      (R.DLK_L_CNT_RETRIES a) 1).fault .dlk (8 + a)).dlkRecord a 1 := by
  have up : s.dlkUp a = true := beq_iff_eq.2 h4
  simp only [State.exchangeFail, h]
  exact (if_neg (by omega)).trans (if_pos up)

end

/-! ### Replies (R441, R444, R445) -/

section
variable {xs : List Nat}

theorem dlkReply_idle (h : (s.link a).flight = none) (xs : List Nat) : s.dlkReply a xs = s := by
  simp only [State.dlkReply, h]

/-- What is no good frame is no reply. -/
theorem dlkReply_noFrame (h : goodFrame xs = none) : s.dlkReply a xs = s := by
  unfold State.dlkReply
  rw [h]
  cases (s.link a).flight <;> rfl

section
variable {bs : List Byte} {f : DlkFrame} {q n t : Nat} (h : (s.link a).flight = some (f, q, n, t)) (hg : goodFrame xs = some bs)
include h hg

theorem dlkReply_late (ht : t + 2 * s.frameNs + s.rspTmo < s.now) : s.dlkReply a xs = s.exchangeFail a := by
  simp only [State.dlkReply, h, hg]
  exact if_pos ht

theorem dlkReply_wrongEcho (he : ((bs[0]?).getD 0).toNat % 16 ≠ f.ty ∨ ((bs[0]?).getD 0).toNat / 16 ≠ q) :
    s.dlkReply a xs = s.exchangeFail a := by
  simp only [State.dlkReply, h, hg]
  exact ite_eq_left_iff.2 fun _ => if_pos he

/-- A good reply in time, without an error flag, ends the exchange and acts on a link that is UP. -/
theorem dlkReply_good (ht : s.now ≤ t + 2 * s.frameNs + s.rspTmo) (hty : ((bs[0]?).getD 0).toNat % 16 = f.ty)
    (hq : ((bs[0]?).getD 0).toNat / 16 = q) (h6 : bitOf ((bs[2]?).getD 0).toNat 6 = false)
    (h7 : bitOf ((bs[2]?).getD 0).toNat 7 = false)
    (h4 : ((s.set (R.DLK_L_STAT_RTT a) (satN ((s.now - t) / 8) 255)).dlkEnded a).dlkState a = 4) : s.dlkReply a xs =
      ((s.set (R.DLK_L_STAT_RTT a) (satN ((s.now - t) / 8) 255)).dlkEnded a).replyUp a f ((bs[2]?).getD 0).toNat
        (256 * ((bs[3]?).getD 0).toNat + ((bs[4]?).getD 0).toNat) := by
  unfold State.dlkReply
  simp only [h, hg]
  rw [if_neg (by omega), if_neg (by omega)]
  simp only [h6, h7, Bool.or_self, Bool.false_eq_true, if_false, h4]

end
end

/-! ### Link states (R447 to R449) -/

theorem dlkLineDown_down {xs : List Nat} (h4 : s.dlkState a = 4) (hb : s.lineBad xs = true) :
    s.dlkLineDown a xs = s.dlkDown a := by
  have up : s.dlkUp a = true := beq_iff_eq.2 h4
  exact if_pos (by rw [up, hb]; rfl)

theorem dlkLineDown_stays {xs : List Nat} (h : s.dlkState a ≠ 4 ∨ s.lineBad xs = false) : s.dlkLineDown a xs = s := by
  refine if_neg ?_
  rcases h with h | h
  · have up : s.dlkUp a = false := beq_eq_false_iff_ne.2 h
    simp [up]
  · simp [h]

theorem dlkAlignStart_starts (h5 : s.dlkState a = 5) (ht : (s.link a).downAt + 60000 ≤ s.now) : s.dlkAlignStart a =
    (s.set (R.DLK_L_STAT_STATE a) 1).modLink a (fun l => { l with attemptAt := s.now }) :=
  if_pos ⟨h5, passed_of_le ht⟩

theorem dlkAlignStart_waits (h : s.dlkState a ≠ 5 ∨ s.now < (s.link a).downAt + 60000) : s.dlkAlignStart a = s := by
  refine if_neg fun ⟨h5, ht⟩ => ?_
  rcases h with h | h
  · exact h h5
  · rw [passed_of_lt h] at ht
    cases ht

theorem dlkAligned_trains {xs : List Nat} (h1 : s.dlkState a = 1) (hx : aligned xs = true) : s.dlkAligned a xs =
    (s.set (R.DLK_L_STAT_STATE a) 2).modLink a (fun l => { l with train := 0, flight := none }) := if_pos ⟨h1, hx⟩

theorem dlkAligned_waits {xs : List Nat} (h : s.dlkState a ≠ 1 ∨ aligned xs = false) : s.dlkAligned a xs = s := by
  refine if_neg fun ⟨h1, hx⟩ => ?_
  rcases h with h | h
  · exact h h1
  · rw [h] at hx
    cases hx

theorem dlkTrainTimeout_fails (h1 : 1 ≤ s.dlkState a) (h3 : s.dlkState a ≤ 3)
    (ht : (s.link a).attemptAt + 2000000 ≤ s.now) : s.dlkTrainTimeout a = s.attemptFail a :=
  if_pos ⟨h1, h3, passed_of_le ht⟩

theorem dlkTrainTimeout_waits (h : s.dlkState a = 0 ∨ 4 ≤ s.dlkState a ∨ s.now < (s.link a).attemptAt + 2000000) :
    s.dlkTrainTimeout a = s := by
  refine if_neg fun ⟨h1, h3, ht⟩ => ?_
  rcases h with h | h | h
  · omega
  · omega
  · rw [passed_of_lt h] at ht
    cases ht

/-! ### Keep-alive and the fault line (R452, R456) -/

/-- A link that is UP takes a request that is neither RUN_ON nor RUN_OFF behind those that wait. -/
theorem dlkRequest_up {g : DlkFrame} (h : s.dlkUp a = true) (h6 : g.ty ≠ 6) (h5 : g.ty ≠ 5) :
    s.dlkRequest a g = s.setLink a { s.link a with waiting := (s.link a).waiting ++ [g] } := by
  refine (if_neg (by simp [h])).trans ?_
  dsimp only
  rw [if_neg h6, if_neg h5]

theorem dlkPing_pings (h4 : s.dlkState a = 4) (ho : (s.link a).open = [])
    (ht : (s.link a).lastSent + s.get R.DLK_CFG_PING_T * 1000 ≤ s.now) : s.dlkPing a =
      s.setLink a { s.link a with waiting := (s.link a).waiting ++ [⟨9, 0, 0, 0, 0, s.now, .plain⟩] } := by
  have up : s.dlkUp a = true := beq_iff_eq.2 h4
  exact (if_pos ⟨up, List.isEmpty_iff.2 ho, passed_of_le ht⟩).trans (dlkRequest_up up (by simp) (by simp))

theorem dlkPing_waits (h : s.dlkState a ≠ 4 ∨ s.now < (s.link a).lastSent + s.get R.DLK_CFG_PING_T * 1000) :
    s.dlkPing a = s := by
  refine if_neg fun ⟨hu, _, ht⟩ => ?_
  rcases h with h | h
  · exact h (beq_iff_eq.1 hu)
  · rw [passed_of_lt h] at ht
    cases ht

theorem dlkFaultLine_same {low : Bool} (h : s.flag (R.DLK_L_STAT_FLT_LEVEL a) = low) : s.dlkFaultLine a low = s := if_pos h

theorem dlkFaultLine_high (h : s.flag (R.DLK_L_STAT_FLT_LEVEL a) = true) : s.dlkFaultLine a false =
    (s.setFlag (R.DLK_L_STAT_FLT_LEVEL a) false).unsafeReopen a :=
  (if_neg (by simp [h])).trans (if_pos rfl)

/-- The line at low drives UNSAFE: what it does once its level shows. -/
def State.faultLineLow (s : State) (a : Nat) : State :=
  (((s.setFlag (R.DLK_L_STAT_FLT_LEVEL a) true).sourceOnHeads (headsOf a) 7).fault .dlk a).dlkRecord a 4

section
variable (h : s.flag (R.DLK_L_STAT_FLT_LEVEL a) = false)
include h

theorem dlkFaultLine_low : s.dlkFaultLine a true =
    if (s.faultLineLow a).dlkUp a then
      (if s.get (R.DLK_L_STAT_WSEL a) = 0 then s.faultLineLow a
        else (s.faultLineLow a).dlkRequest a ⟨6, s.get (R.DLK_L_STAT_WSEL a), 0, 0, 0, s.now, .plain⟩).dlkRequest a
          ⟨8, 2, 0, 0, 0, s.now, .fault⟩
    else (s.faultLineLow a).modLink a (fun l => { l with readFault := true }) :=
  (if_neg (by simp [h])).trans (if_neg (by decide))

theorem dlkFaultLine_lowDown (hu : (s.faultLineLow a).dlkUp a = false) :
    s.dlkFaultLine a true = (s.faultLineLow a).modLink a (fun l => { l with readFault := true }) :=
  (dlkFaultLine_low h).trans (if_neg (ne_true_of_eq_false hu))

theorem dlkFaultLine_lowUp (hu : (s.faultLineLow a).dlkUp a = true) : s.dlkFaultLine a true =
    (if s.get (R.DLK_L_STAT_WSEL a) = 0 then s.faultLineLow a
      else (s.faultLineLow a).dlkRequest a ⟨6, s.get (R.DLK_L_STAT_WSEL a), 0, 0, 0, s.now, .plain⟩).dlkRequest a
        ⟨8, 2, 0, 0, 0, s.now, .fault⟩ :=
  (dlkFaultLine_low h).trans (if_pos hu)

end

/-! ### RSEL and the register port (R455, R457) -/

theorem dlkRsel_plain : ∀ a : Act, PlainReg (R.A_DLK_L_RSEL a.val) := by
  unfold PlainReg
  decide +kernel

theorem dlkPregCmd_plain : ∀ a : Act, PlainReg (R.A_DLK_L_PREG_CMD a.val) := by
  unfold PlainReg
  decide +kernel

/-- A write to a register of link `a`'s own reaches the link by the register's offset. -/
theorem afterWrite_link {b : Nat} (hlo : 0x06200100 ≤ b) (hhi : b < 0x06200200) (t : State) (old w : Nat) :
    t.afterWrite b old w =
      if b % 64 = 4 then
        if bitsOf old 0 6 = bitsOf w 0 6 then t
        else t.rselChange ((b - 0x06200100) / 64) (bitsOf old 0 6) (bitsOf w 0 6)
      else if b % 64 = 0xC then t.pregCmd ((b - 0x06200100) / 64) (bitsOf w 0 2)
      else t := by
  unfold State.afterWrite State.hookSec
  rw [if_neg (by omega), if_neg (by omega), if_neg (by omega), if_neg (by omega), if_neg (by omega), if_neg (by omega),
    if_neg (by omega), if_neg (by omega), if_neg (by omega), if_neg (by omega), if_neg (by omega), if_neg (by omega),
    if_neg (by unfold R.A_LDG_RAISE; omega), if_neg (by unfold R.A_SEC_CTRL; omega), if_neg (by unfold R.A_DLK_CTRL; omega),
    if_pos ⟨hlo, hhi⟩]

section
variable {p : Path} {v : Word} {i : Act}

/-- A write that RSEL takes is stored, and a changed selection is followed. -/
theorem regCmd_dlkRsel (h : s.takes p (R.A_DLK_L_RSEL i.val) v = true) : s.regCmd p (R.A_DLK_L_RSEL i.val) v =
    if bitsOf (s.rd (R.A_DLK_L_RSEL i.val)).toNat 0 6 = bitsOf v.toNat 0 6 then s.storeReg p (R.A_DLK_L_RSEL i.val) v
    else (s.storeReg p (R.A_DLK_L_RSEL i.val) v).rselChange i.val (bitsOf (s.rd (R.A_DLK_L_RSEL i.val)).toNat 0 6)
      (bitsOf v.toNat 0 6) := by
  have link : (R.A_DLK_L_RSEL i.val - 0x06200100) / 64 = i.val := by unfold R.A_DLK_L_RSEL; omega
  have offset : R.A_DLK_L_RSEL i.val % 64 = 4 := by unfold R.A_DLK_L_RSEL; omega
  rw [regCmd_plainReg (dlkRsel_plain i) h, afterWrite_link (by unfold R.A_DLK_L_RSEL; omega)
    (by unfold R.A_DLK_L_RSEL; omega), if_pos offset, link]

/-- A write that PREG_CMD takes gives the port the command that it spells. -/
theorem regCmd_dlkPregCmd {x : Nat} (hx : x < 2 ^ 2)
    (h : s.takes p (R.A_DLK_L_PREG_CMD i.val) (withBits v 0 2 x) = true) :
    s.regCmd p (R.A_DLK_L_PREG_CMD i.val) (withBits v 0 2 x) =
      (s.storeReg p (R.A_DLK_L_PREG_CMD i.val) (withBits v 0 2 x)).pregCmd i.val x := by
  have link : (R.A_DLK_L_PREG_CMD i.val - 0x06200100) / 64 = i.val := by unfold R.A_DLK_L_PREG_CMD; omega
  have offset : R.A_DLK_L_PREG_CMD i.val % 64 = 0xC := by unfold R.A_DLK_L_PREG_CMD; omega
  rw [regCmd_plainReg (dlkPregCmd_plain i) h, afterWrite_link (by unfold R.A_DLK_L_PREG_CMD; omega)
    (by unfold R.A_DLK_L_PREG_CMD; omega), if_neg (by omega), if_pos offset, link, withBits_same v 0 2 x (by decide),
    Nat.mod_eq_of_lt hx]

end

section
variable (hb : s.flag (R.DLK_L_PREG_RESP_BUSY a) = false)
include hb

/-- On a link that is not UP the port answers DOWN. -/
theorem pregCmd_down {c : Nat} (hc : c = 1 ∨ c = 2) (h4 : s.dlkState a ≠ 4) : s.pregCmd a c = s.portDone a 1 0 := by
  have up : s.dlkUp a = false := beq_eq_false_iff_ne.2 h4
  refine (if_neg ?_).trans (if_pos (congrArg Bool.not up))
  simp only [hb, Bool.false_eq_true, false_or]
  omega

theorem pregCmd_reads (h4 : s.dlkState a = 4) : s.pregCmd a 1 =
    (s.setFlag (R.DLK_L_PREG_RESP_BUSY a) true).dlkRequest a ⟨8, s.get (R.DLK_L_PREG_ADDR a), 0, 0, 0, s.now, .port⟩ := by
  have up : s.dlkUp a = true := beq_iff_eq.2 h4
  exact (if_neg (by simp [hb])).trans (if_neg (by simp [up]))

end
end

/-- Settles O25: each command ends with its operation, in one of the cases above. That a good reply which comes late fails the
exchange, and that an unchanged level of the fault line is no event, are the model's readings (log entry 144). -/
theorem darenlenCommandsComplete : Obligations.DarenlenCommandsComplete := by
  unfold Obligations.DarenlenCommandsComplete
  refine ⟨
    fun p a v s h => answers_of_eq rfl (regCmd_dlkCtrl h),
    fun a s h => ⟨dlkEnable_on h, dlkEnable_stillOff h⟩,
    fun a s h => answers_of_eq rfl ?_,
    fun a s h hf => answers_of_eq rfl (dlkSendNext_train hf h),
    fun a f r s h hf hl => answers_of_eq rfl (dlkSendNext_load hf h hl),
    fun a f s h hf ho => answers_of_eq rfl ((dlkSendNext_up hf h).trans (dlkSendUp_off ho)),
    fun a f s h hf ho hr hp => answers_of_eq rfl ((dlkSendNext_up hf h).trans (dlkSendUp_best ho hr hp)),
    fun a e s h hf hw hr => answers_of_eq rfl ((dlkSendNext_up hf h).trans (dlkSendUp_again hw hr)),
    fun a f s h => dlkSend_noSetup h,
    fun a f s => rfl,
    fun bs l s => rfl,
    fun a xs s h => answers_of_eq rfl (dlkReply_idle h _),
    fun a xs s h => answers_of_eq rfl (dlkReply_noFrame h),
    fun a xs bs f q n t s h hg ht => answers_of_eq rfl (dlkReply_late h hg ht),
    fun a xs bs f q n t s h hg he => answers_of_eq rfl (dlkReply_wrongEcho h hg he),
    fun a xs bs f q n t s h hg ht hty hq h6 h7 h4 => answers_of_eq rfl (dlkReply_good h hg ht hty hq h6 h7 h4),
    fun a s h => answers_of_eq rfl (exchangeTimeout_idle h),
    fun a f q n t s h ht => answers_of_eq rfl (exchangeTimeout_fails h ht),
    fun a f q n t s h ht => answers_of_eq rfl (exchangeTimeout_waits h ht),
    fun a f q n t s h h4 => exchangeFail_up h h4,
    fun a xs s h4 hb => answers_of_eq rfl (dlkLineDown_down h4 hb),
    fun a xs s h => answers_of_eq rfl (dlkLineDown_stays h),
    fun a s h5 ht => answers_of_eq rfl (dlkAlignStart_starts h5 ht),
    fun a s h => answers_of_eq rfl (dlkAlignStart_waits h),
    fun a xs s h1 hx => answers_of_eq rfl (dlkAligned_trains h1 hx),
    fun a xs s h => answers_of_eq rfl (dlkAligned_waits h),
    fun a s h1 h3 ht => answers_of_eq rfl (dlkTrainTimeout_fails h1 h3 ht),
    fun a s h => answers_of_eq rfl (dlkTrainTimeout_waits h),
    fun a s h4 ho ht => answers_of_eq rfl (dlkPing_pings h4 ho ht),
    fun a s h => answers_of_eq rfl (dlkPing_waits h),
    fun a low s h => answers_of_eq rfl (dlkFaultLine_same h),
    fun a s h => answers_of_eq rfl (dlkFaultLine_high h),
    fun a s h hu => answers_of_eq rfl (dlkFaultLine_lowDown h hu),
    fun a s h hu => answers_of_eq rfl (dlkFaultLine_lowUp h hu),
    fun p a v s hn h => answers_of_eq rfl ((regCmd_dlkRsel h).trans (if_neg hn)),
    fun p a v s he h => answers_of_eq rfl ((regCmd_dlkRsel h).trans (if_pos he)),
    fun p a v s h => answers_of_eq rfl (regCmd_dlkPregCmd (by decide) h),
    fun p a v s h => answers_of_eq rfl (regCmd_dlkPregCmd (by decide) h),
    fun a s hb h4 => ⟨pregCmd_down hb (.inl rfl) h4, pregCmd_down hb (.inr rfl) h4⟩,
    fun a s hb h4 => pregCmd_reads hb h4⟩
  by_cases hf : (s.link a.val).flight.isSome = true
  · exact dlkSendNext_inFlight hf
  · exact dlkSendNext_silent (by simpa using hf) (h.resolve_left hf)

end Sys2Proof.Machine
end
